-- ==== Sys2Proof/Word.lean ====
section
/-! DEFINITION. The word types of the KZ-12 model. A memory or message byte is a BitVec 8; registers
and fields the manual numbers as bits are bit vectors; counts, indices and addresses are Nat. -/

namespace Sys2Proof

/-- One byte of a value, a message or memory. -/
abbrev Byte := BitVec 8

/-- A byte string: an OCTETS value, a payload, a stretch of memory. -/
abbrev Bytes := List Byte

/-- An FP32 encoding, a U32 register. -/
abbrev W32 := BitVec 32

/-- A U64 register, a flag word. -/
abbrev W64 := BitVec 64

/-- A 128-bit crumb word, packet header or praline word. -/
abbrev W128 := BitVec 128

/-- A 256-bit key or key identity (R437). -/
abbrev W256 := BitVec 256

end Sys2Proof
end

