-- ==== Sys2Proof/Syntax.lean ====
section
/-! DEFINITION. The commands of the KZ-12, one constructor of Instr for each row of
spec/opcode_table.json, with the operands the manual gives the event: the fields of a message, the
index of a unit, or the outcome of a check that happens outside the model (a CRC, a cipher tag, a
signature, a measurement). The table gives no row any bits.

Choices beyond the manual's plain words (notes/assumptions): DESIGN CHOICE 13, 17, 116, 117. -/

namespace Sys2Proof

/-- The envelope of a dictionary request (R389, R400): the session it came in (0 to 7) and its
message ID. -/
structure Req where
  sess : Nat
  msg : Nat
deriving DecidableEq, Repr

/-- The micro-batch post of R77, field by field. -/
structure Post where
  step : Nat
  slot : Nat
  reserved : Nat
  tokens : Nat
  buffer : Nat
deriving DecidableEq, Repr

/-- What the SECDED code reports of one word a crumb reads (R119): the store, the word's number in it
(64-bit words of the tile store, 32-bit entries of the accumulator file), and whether it is
uncorrectable. -/
structure StoreErr where
  accumulator : Bool
  word : Nat
  uncorrectable : Bool
deriving DecidableEq, Repr

/-- A thief's claim (R67): the core that claims, and what the SECDED code reports of the words that the stolen crumb
reads as it fires there (R119). -/
structure StealClaim where
  core : Nat
  errs : List StoreErr
deriving DecidableEq, Repr

/-- What the error codes on the way of a memory access report (R225). Of the stack: a corrected or an
uncorrectable sector, failed parity checks (3: the third failure), an on-die severity reported. Of the
memory-side cache: data corrected (counted in code words) or uncorrectable, a tag corrected or not. Of the
write-combining data and of the requesting die's shared cache: likewise; a bad shared-cache tag; a bad entry of
the snoop filter. -/
structure MemEcc where
  corrected : Bool := false
  uncorrectable : Bool := false
  parityFailures : Nat := 0
  onDieReported : Bool := false
  onDieUncorrected : Bool := false
  cacheCorrected : Nat := 0
  cacheUncorrectable : Bool := false
  tagCorrected : Bool := false
  tagUncorrectable : Bool := false
  bufferCorrected : Nat := 0
  bufferUncorrectable : Bool := false
  sharedCorrected : Nat := 0
  sharedUncorrectable : Bool := false
  sharedTag : Bool := false
  snoopParity : Bool := false
deriving DecidableEq, Repr

/-- An access with nothing to report. -/
def MemEcc.clean : MemEcc := {}

/-- A packet header (R27). -/
structure Packet where
  ptype : Nat
  cls : Nat
  reserved : Bool
  dstDie : Nat
  dstEp : Nat
  srcDie : Nat
  srcEp : Nat
  tag : Nat
  granules : Nat
  addr : Nat
  attr : BitVec 31
deriving DecidableEq, Repr

/-- The fields of a memory request that its packet holds (R27, R209). -/
structure MemReq where
  die : Nat
  ep : Nat
  tag : Nat
  cls : Nat
  addr : Nat
  count : Nat
  partition : Nat
  fill : Bool
deriving DecidableEq, Repr

/-- A quadrant-link unit on its way (R36): the link 1 to 6, the direction (true toward the higher-numbered
base die), its control word, and the bits inverted on the way (bit b of byte k of the unit has number
8k + b). -/
structure QlUnit where
  link : Nat
  up : Bool
  control : W32
  errs : List Nat
deriving DecidableEq, Repr

/-- One finding of a patrol scrub pass (R225, R227): a sector's place and what was found. -/
structure ScrubFinding where
  stack : Nat
  sector : Nat
  uncorrectable : Bool
deriving DecidableEq, Repr

/-- Lanes that fail in HBM training (R222, R223): a stack, a channel, one of its four lane groups, and
how many lanes of the group fail. -/
structure LaneFailure where
  stack : Nat
  channel : Nat
  group : Nat
  lanes : Nat
deriving DecidableEq, Repr

/-- A generator request's fields (R228) but for the operation, which the row names. -/
structure GenReq where
  stack : Nat
  channel : Nat
  pseudo : Nat
  pattern : Nat
  area : Nat
  passes : Nat
  seed : Nat
  reserved : Nat
  startLine : Nat
  lineCount : Nat
deriving DecidableEq, Repr

/-- A parcel (R303): its header, its payload as it travels, and its GCM tag (R308). reserved: bits [185] and
[110:105] of the header. -/
structure Parcel where
  dst : Nat
  src : Nat
  ctx : Nat
  cls : Nat
  kind : Nat
  hops : Nat
  relayed : Bool
  relayDim : Nat
  len : Nat
  seq : Nat
  kf : BitVec 105
  payload : Bytes
  tag : W128
  reserved : BitVec 7 := 0
deriving DecidableEq, Repr

/-- A lease or granule-return control parcel's kind fields (R307) with its source. -/
structure LeaseMsg where
  peer : Nat
  ctx : Nat
  lease : Nat
  count : Nat
  term : Nat
  scoreTag : Nat
deriving DecidableEq, Repr

/-- What a credit grant packet returns granules to: a pool of the score, or a unit (die, endpoint) that spent them
toward the endpoint that grants (R61, R236). -/
inductive GrantTo where
  | pool (p : Nat)
  | unit (die ep : Nat)
deriving DecidableEq, Repr

/-- A token increment parcel's kind fields (R307). -/
structure TokenMsg where
  token : Nat
  count : Nat
  round : Nat
  scoreTag : Nat
deriving DecidableEq, Repr

/-- A praline word (R344) with its sender, and whether it came in a collective chunk parcel (R348). -/
structure Praline where
  src : Nat
  word : W128
  byParcel : Bool
deriving DecidableEq, Repr

/-- A collective chunk (R333): kind fields, payload and source. -/
structure Chunk where
  src : Nat
  subtype : Nat
  coll : Nat
  stage : Nat
  round : Nat
  offset : Nat
  data : Bytes
  crc : W32
deriving DecidableEq, Repr

/-- A flit (R310) as a receive lane finds it: its 256 bytes, and whether a codeword could not be corrected. -/
structure Flit where
  port : Nat
  colour : Nat
  bytes : Bytes
  uncorrectable : Bool
deriving DecidableEq, Repr

/-- A lane frame (R260) as a receive lane finds it: its 40 bytes, bit 319 first. -/
structure LaneFrame where
  port : Nat
  colour : Nat
  bytes : Bytes
deriving DecidableEq, Repr

/-- What a run of a ring's lock loop finds (R264, R276): the error within 2 % of the peak, or not, or that the
heater or the monitor fails its self-test. -/
inductive LoopResult where
  | held | astray | broken
deriving DecidableEq, Repr

/-- Remote state kind fields, subtypes 0 to 3 and 4 (R366), with the peer and the payload. -/
structure RemoteMsg where
  peer : Nat
  subtype : Nat
  generation : Nat
  ownerRank : Nat
  entry : Nat
  stripe : Nat
  block : Nat
  coll : Nat
  offset : Nat
  length : Nat
  status : Nat
  scoreTag : Nat
  data : Bytes
  tagGood : Bool
  poisoned : Bool
deriving DecidableEq, Repr

/-- A pair digest parcel's kind fields (R366). -/
structure PairDigestMsg where
  src : Nat
  round : Nat
  replays : Nat
  digest : W32
  scoreTag : Nat
deriving DecidableEq, Repr

/-- A frame mark (R387). caps holds the 33 receive capabilities in hop order. -/
structure FrameMark where
  frameCount : Nat
  nodeTime : Nat
  ringGen : Nat
  nextGen : Nat
  countdown : Nat
  hopIndex : Nat
  members : Nat
  caps : List Nat
  present : BitVec 32
deriving DecidableEq, Repr

/-- A data slot (R389): its index in the frame and its bytes 1 to 99. own: the slot is one this module sent
itself. -/
structure Slot where
  index : Nat
  bytes : Bytes
  own : Bool
deriving DecidableEq, Repr

/-- A block of a block transfer (R402), with the CRC-32C that follows its data. -/
structure Block where
  sess : Nat
  bulk : Bool
  chan : Nat
  msg : Nat
  num : Nat
  data : Bytes
  crc : W32
deriving DecidableEq, Repr

/-- A block acknowledgement (R402): status 0 good, 1 resend. -/
structure BlockAck where
  sess : Nat
  bulk : Bool
  chan : Nat
  msg : Nat
  num : Nat
  status : Nat
deriving DecidableEq, Repr

/-- A bulk open's fields (R410). -/
structure BulkOpen where
  chan : Nat
  direction : Nat
  buffer : Nat
  reserved : Nat
  offset : Nat
  length : Nat
deriving DecidableEq, Repr

/-- What FINISH brings (R448, R450): whether the dual signature over T2 verifies, T2, and the shared secret Z
that the exchange gives. -/
structure FinishMsg where
  sess : Nat
  msg : Nat
  sigGood : Bool
  t2 : BitVec 384
  z : BitVec 512
deriving DecidableEq, Repr

/-- A firmware image's header fields (R441) and its length in bytes. -/
structure FwImage where
  magic : Nat
  format : Nat
  headerLen : Nat
  version : Nat
  security : Nat
  bodyLen : Nat
  signer : W256
  reservedZero : Bool
  length : Nat
  digest : BitVec 384
deriving DecidableEq, Repr

/-- What the module's monitors measure (R471, R505, R521): the 54 V input in mV (mean over 100 µs), the
hottest compute or base junction, the hottest stack and the four photonic engines in °C, the lowest beat
rate in M beats/s, the input power in W (means over 1 ms). -/
structure Limits where
  v54 : Nat
  junction : Nat
  stack : Nat
  photonic : List Nat
  beatRate : Nat
  power : Nat
deriving DecidableEq, Repr

/-- The power stage's PMBus status (R513): whether it acknowledges, and the four status bits. -/
structure PmStatus where
  acked : Bool
  vinUv : Bool
  ioutOc : Bool
  temperature : Bool
  powerGoodL : Bool
deriving DecidableEq, Repr

/-- The reset inputs (R492): PWR_OK and RESET_L high, the auxiliary supply in mV. -/
structure ResetPins where
  pwrOk : Bool
  resetL : Bool
  auxMv : Nat
deriving DecidableEq, Repr

/-- The strap inputs (R494). -/
structure Straps where
  compat : Bool
  settle : Nat
  ringPos : Nat
deriving DecidableEq, Repr

/-- The commands. A stack-port transfer (R31, R33) brings the 256 bytes as sent, the bits inverted on the way (bit j
of code word k has number 137k + j, its data bits first), and what the credit wires carry: a class and a count.
A quadrant-link data unit brings its 120 bytes of payload. Comments give the rows' mnemonics only where the name differs. -/
inductive Instr where
  | join (src dst msg : Nat)
  | leave (q : Req)
  | clearFault (q : Req)
  | prepare (q : Req)
  | prepareComplete (sigGood : Bool)
  | run (q : Req)
  | hold (q : Req)
  | release (q : Req)
  | unprepare (q : Req)
  | grantSteps (q : Req) (steps : Nat)
  | postMicroBatch (q : Req) (p : Post)
  | stepStart
  | stepBoundary
  | stepStalled
  | crumbFire (half core : Nat) (errs : List StoreErr)
  | crumbRetire (half core unit : Nat)
  | watchSampleComplete (half core : Nat)
  | commitGatedRetire (half core : Nat)
  | padElision (half core : Nat)
  | stealing (half : Nat) (claim : StealClaim)
  | tokenPacket (token inc : Nat)
  | creditGrantPacket (die ep cls granules : Nat) (to_ : GrantTo)
  | copyJobFire (die engine : Nat)
  | copyJobRetire (die engine : Nat)
  | streamSegmentStart (stream : Nat)
  | streamSegmentComplete (stream : Nat)
  | verdictPoint
  | pairDigestReceive (m : PairDigestMsg)
  | verdictReductionComplete
  | lossReductionComplete
  | securingTransfer
  | collectiveLaunch (coll : Nat)
  | collectiveChunk (c : Chunk)
  | pralineWord (w : Praline)
  | pralineRepeat
  | hostCopyRequest (q : Req) (value : Bytes)
  | hostCopyComplete
  | memoryReadRequest (p : Packet) (ecc : MemEcc)
  | memoryWrite (p : Packet) (data : Bytes)
  | memoryReadResponse (die ep tag : Nat) (data : Bytes) (poison : Bool)
  | writeAcknowledgement (die ep tag : Nat) (invalidate : Bool) (addr : Nat)
  | writeCombineTimeout (controller line : Nat)
  | hbmRefresh (stack bank : Nat)
  | hbmTemperatureReadout (temps : List Nat)
  | patrolScrub (found : List ScrubFinding)
  | hbmTrainingComplete (failures : List LaneFailure)
  | generatorWriteReadCheck (q : Req) (g : GenReq)
  | generatorWrite (q : Req) (g : GenReq)
  | generatorReadCheck (q : Req) (g : GenReq)
  | generatorStopAll (q : Req) (g : GenReq)
  | generatorComplete (symbols : List (Nat × Nat)) (mismatches : Nat) (first : W32)
  | partitionSettingWrite (q : Req) (sub : Nat) (value : W32)
  | quadrantLocalBoundaryWrite (q : Req) (b : Nat)
  | stackPortTransfer (cd port : Nat) (toBase : Bool) (data : Bytes) (errs : List Nat) (credit : Nat × Nat)
  | qlDataUnit (u : QlUnit) (payload : Bytes)
  | qlIdleUnit (u : QlUnit)
  | qlNakUnit (u : QlUnit)
  | qlReplayTimeout (link : Nat) (up : Bool)
  | qlRetrainComplete (link repaired : Nat) (exhausted : BitVec 8) (beyond : Bool)
  | qlRetrainTimeout (link : Nat)
  | leaseGrant (m : LeaseMsg)
  | leaseRenewalDue (peer ctx lease : Nat)
  | leaseRenewal (m : LeaseMsg)
  | renewalAcknowledgement (m : LeaseMsg)
  | granuleReturn (m : LeaseMsg)
  | issuerLeaseExpiry (ctx lease : Nat)
  | holderLeaseExpiry (peer ctx lease : Nat)
  | tokenIncrementParcel (m : TokenMsg)
  | dataFlit (f : Flit)
  | idleFlit (f : Flit)
  | nakFlit (f : Flit)
  | testFlit (f : Flit)
  | flitReplayTimeout (port colour : Nat)
  | parcelForward (cls : Nat)
  | parcelDelivery
  | laneFrame (f : LaneFrame)
  | laneFrameTimeout (port colour : Nat) (linePresent : Bool)
  | ringLockLoop (tx : Bool) (port ring : Nat) (step : Int) (found : LoopResult)
  | searchCandidateTimeout (port colour : Nat)
  | ringSearchLineReached (tx : Bool) (port colour : Nat) (line : Nat × Nat) (accepted : Bool) (crossings : Nat)
  | anchorSweepRetry (port : Nat)
  | opticalCommissioningComplete (found : List Nat × List (List Nat))
  | wavelengthCheck (laser : Nat) (offsetMHz : Int)
  | calibrationSlot (port : Nat) (ringsGood : Bool × Bool)
  | calibrationSlotEnd (port : Nat) (back farOff : Bool)
  | laserPowerReading (spare : Bool) (laser reading : Nat)
  | spareLaserLocked (engine spare : Nat)
  | recommissionPort (q : Req) (port : Nat)
  | transmitGenerationWrite (q : Req) (sub gen : Nat)
  | exceptionEntryWrite (q : Req) (num : Nat) (entry : W64)
  | rankOverrideWrite (q : Req) (num : Nat) (entry : W64)
  | fabricConfigurationWrite (q : Req) (idx sub : Nat) (value : W32)
  | groupMemberEntryWrite (q : Req) (num : Nat) (entry : W64)
  | groupDescriptorWrite (q : Req) (num : Nat) (entry : W64)
  | abandon (q : Req)
  | abandonComplete
  | restore (q : Req) (step : Nat)
  | restoreComplete
  | remoteReadRequest (m : RemoteMsg)
  | remoteReadResponse (m : RemoteMsg)
  | remoteWrite (m : RemoteMsg)
  | holdCommitArm (q : Req) (step : Nat)
  | scaleStateLoad (q : Req) (value : W64)
  | kz8StartScaleWrite (q : Req) (value : W32)
  | frameMark (m : FrameMark) (crc : W32)
  | dataSlot (s : Slot)
  | messageTimeout (src sess msg : Nat)
  | expeditedWrite (q : Req) (idx sub : Nat) (value : Bytes)
  | expeditedRead (q : Req) (idx sub len : Nat)
  | segmentedWrite (q : Req) (idx sub : Nat) (value : Bytes)
  | segmentedRead (q : Req) (idx sub len : Nat)
  | blockWrite (q : Req) (idx sub len : Nat)
  | blockRead (q : Req) (idx sub len : Nat)
  | dictionaryWrite (q : Req) (idx sub : Nat) (value : Bytes)
  | blockData (b : Block)
  | bulkBlockWritten (chan num : Nat) (data : Bytes)
  | blockAcknowledgement (a : BlockAck)
  | blockAckTimeout (a : BlockAck)
  | bulkOpen (q : Req) (o : BulkOpen)
  | bulkClose (q : Req) (chan : Nat)
  | eventTransmit
  | hello (msg role : Nat) (key : W256) (reserved : Nat)
  | finish (m : FinishMsg)
  | finishTimeout (sess : Nat)
  | close (sess named : Nat)
  | fabricKeyInstall (q : Req) (reserved : Nat) (key : W256)
  | regionKeyInstall (q : Req) (region reserved base length : Nat) (key : BitVec 512)
  | regionRemove (q : Req) (region reserved : Nat)
  | enrolmentWrite (q : Req) (idx sub : Nat) (key : W256)
  | firmwareImageWrite (q : Req) (length : Nat)
  | firmwareWriteComplete (img : FwImage) (sigGood : Bool)
  | attestationQuote (q : Req)
  | ringClockLoss
  | ringClockReturn (linksDown : List Nat)
  | timeReferenceLost
  | ppsEdge
  | timeReferenceWrite (q : Req) (value : Nat)
  | powerStateRequest (q : Req) (value : Nat)
  | powerStateReached
  | blockEnableWrite (q : Req) (sub value : Nat)
  | pllSettingWrite (q : Req) (sub : Nat) (value : W32)
  | supplyOrTemperatureFault (m : Limits)
  | thermTrip (die stack : Nat)
  | pmbusPoll (st : PmStatus)
  | pmbusAlert (st : PmStatus)
  | islandMismatch
  | moduleReset (p : ResetPins)
  | resetRelease (straps : Straps)
  | symbolLock (locked : Bool)
  | settleDelayElapsed
  | islandSelfTest (b0 b2 : Bool)
  | firmwareVerified (img : FwImage) (sigGood : Bool)
  | selfTestTileStores (q : Req) (target reserved : Nat)
  | selfTestSharedCache (q : Req) (target reserved : Nat)
  | selfTestMemorySideCache (q : Req) (target reserved : Nat)
  | selfTestHbmStack (q : Req) (target reserved : Nat)
  | selfTestComplete (failing : List Nat)
  | testPortEnable (q : Req) (value : Nat)
  | tapReset
  | extest
  | samplePreload (pins : BitVec 15)
  | idcode
  | clamp
  | highz
  | dieSelect (select : BitVec 40)
  | dieAccess
  | bypass (code : BitVec 8)
  | coreTestDue (half : Nat)
  | coreTestStart (half : Nat)
  | coreTestOverdue (half : Nat)
  | coreTestComplete (half : Nat) (passed : Bool)
  | tenantStateErased
  | timeReferenceReturn
deriving DecidableEq, Repr

end Sys2Proof
end

