-- ==== Sys2Proof/Decode.lean ====
section
/-! DEFINITION. The commands that a word spells by the bits of spec/opcode_table.json. The table gives
no row any bits: a command arrives as a ring message, a packet, a flit or an event, never as a word. No
word spells a command (notes/assumptions/1.md).

Choices beyond the manual's plain words (notes/assumptions): DESIGN CHOICE 1. -/

namespace Sys2Proof

/-- The command that the low nbits of w spell by the table: none, for every word. -/
def decodeTableWord (_nbits _w : Nat) : Option Instr := none

end Sys2Proof
end

