-- ==== Sys2Proof/Config.lean ====
section
/-! DEFINITION. What the manual leaves open: free values with no body, so that no proof can know
one. Each is applied to the data it depends on, or to the counter State.freeCtr that the step
advances (notes/assumptions/2.md to 8.md).

Choices beyond the manual's plain words (notes/assumptions): DESIGN CHOICE 2, 3, 4, 6, 7, 8, 10, 11, 34, 129,
144. -/

namespace Sys2Proof.Config

/-- The contents the manual calls undefined: memory that nothing has written since power-on, since a
write of B (R204), a Stow exit (R487), a region key change (R458) or a generator pass over a whole
pseudo-channel (R230). The first argument is the epoch, the second the address. -/
opaque undefByte : Nat → Nat → BitVec 8

/-- An index the manual leaves unspecified: the consumption order of descriptor panels (R108).
Arguments: the free counter, the position in the order. -/
opaque freeIndex : Nat → Nat → Nat

/-- The set of a cache slice that a line falls in, which the manual leaves open (R206, R207): 0 shared cache,
1 memory-side cache; the line. -/
opaque cacheSet : Nat → Nat → Nat

/-- Which of the values within its error bound a VFUNC function gives (R132): function code, input encoding. -/
opaque vfunc : Nat → BitVec 32 → Nat

/-- Which of the values within its error bound a KZ-8 algorithm of VFUNC gives (R168). -/
opaque vfuncKz8 : Nat → BitVec 32 → Nat

/-- Which of the values within 2 ulp b^t of VOPT takes (R141): encoding of b, the count t. -/
opaque powBT : BitVec 32 → Nat → Nat

/-- A number drawn from the module's CTR_DRBG (R459): the free counter. -/
opaque random256 : Nat → BitVec 256

/-- SHA-384 (named, not defined, by R437, R440, R464, R467). -/
opaque sha384 : List (BitVec 8) → BitVec 384

/-- The two steps of HKDF-SHA-384 (named, not defined, by R450): extraction of a key from salt and input,
expansion of it with an info string to 32 bytes. -/
opaque hkdfExtract : List (BitVec 8) → List (BitVec 8) → BitVec 384
opaque hkdfExpand : BitVec 384 → List (BitVec 8) → BitVec 256

/-- The module identity's dual signature (R438, R439) over a message: 3,373 bytes as one number. -/
opaque dualSign : List (BitVec 8) → BitVec 26984

/-- The rest of a reply that assigns a session (R448): the module nonce, the shares and the signature, 4,525 bytes as one
number. -/
opaque replyRest : Nat → BitVec 36200

/-- The fused values of a module (R439, R440, R425): identity keys, boot ROM digest. -/
opaque fusedEd25519 : BitVec 256
opaque fusedMlDsa : BitVec 15616
opaque fusedKeyIdentity : BitVec 256
opaque fusedFirmwareKey : BitVec 256
opaque bootRomDigest : BitVec 384

/-- Ring flags and monitor values a test instruction leaves undefined on the dies (R529), and the
contents a destructive self-test leaves (R531): the free counter and an index. -/
opaque undefWord : Nat → Nat → Nat

/-- What flash holds for a ring (R263), which the manual gives no numbers for: how often the values have been
refined, the ring, for the table code a colour. Table code; thermal slope in codes per kelvin; efficiency in GHz per
mW; wrap span in codes; the highest code of the ring's heater (R253, R265). -/
opaque ringTable : Nat → Nat → Nat → Nat
opaque ringSlope : Nat → Nat → Rat
opaque ringEfficiency : Nat → Nat → Rat
opaque ringWrap : Nat → Nat → Nat
opaque ringTop : Nat → Nat → Nat

end Sys2Proof.Config
end

