-- ==== Sys2Proof/Machine/Bits.lean ====
section
/-! DEFINITION. Bytes, bit fields and checks over bytes. Multi-byte values are little-endian (R6).

Choices beyond the manual's plain words (notes/assumptions): DESIGN CHOICE 18. -/

namespace Sys2Proof.Machine

/-- Bits hi..lo of a number. -/
def bits (hi lo n : Nat) : Nat := (n >>> lo) % 2 ^ (hi + 1 - lo)

/-- One bit of a number. -/
def bit (i n : Nat) : Bool := n.testBit i

/-- The number that a byte string holds, the first byte least significant (R6). -/
def leNat : Bytes → Nat
  | [] => 0
  | b :: t => b.toNat + 256 * leNat t

/-- A number as n bytes, the least significant first (R6). -/
def leBytes : Nat → Nat → Bytes
  | 0, _ => []
  | n + 1, v => BitVec.ofNat 8 v :: leBytes n (v / 256)

/-- The number that a byte string holds, the first byte most significant (R77). -/
def beNat (b : Bytes) : Nat := leNat b.reverse

/-- n zero bytes. -/
def zeros (n : Nat) : Bytes := List.replicate n 0

/-- A byte string cut or filled with zeros to n bytes. -/
def fit (n : Nat) (b : Bytes) : Bytes := (b ++ zeros (n - b.length)).take n

/-- n bytes of a byte string from an offset. -/
def slice (b : Bytes) (off n : Nat) : Bytes := (b.drop off).take n

/-- The little-endian number in n bytes at an offset. -/
def leAt (b : Bytes) (off n : Nat) : Nat := leNat (slice b off n)

/-- Bytes that are all zero. -/
def allZero (b : Bytes) : Bool := b.all (fun x => x = 0)

/-- One bit of a CRC-32C shift (reflected polynomial 0x82F6_3B78). -/
def crcShift (c : BitVec 32) : BitVec 32 :=
  if c.getLsbD 0 then (c >>> 1) ^^^ 0x82F63B78#32 else c >>> 1

/-- A CRC-32C register after one byte. -/
def crcByte (c : BitVec 32) (b : Byte) : BitVec 32 :=
  Nat.repeat crcShift 8 (c ^^^ b.setWidth 32)

/-- CRC-32C (R37, R310, R377): initial value and final inversion all ones. -/
def crc32c (b : Bytes) : BitVec 32 := ~~~ (b.foldl crcByte 0xFFFFFFFF#32)

/-- The count of set bits among the low n bits. -/
def popCount : Nat → Nat → Nat
  | 0, _ => 0
  | n + 1, v => (if v.testBit n then 1 else 0) + popCount n v

/-- A number held at its maximum (counters saturate, R418). -/
def satAdd (bytes v n : Nat) : Nat := min (v + n) (2 ^ (8 * bytes) - 1)

/-- Division rounded up. -/
def ceilDiv (a b : Nat) : Nat := (a + b - 1) / b

end Sys2Proof.Machine
end

