-- ==== Sys2Proof/Machine/Sparse.lean ====
section
/-! DEFINITION. Numbered collections as data: a list of (index, value) pairs with rising indices. An
index that is not listed holds the collection's default. No lookup or update assumes the order, so the
laws of reading after writing hold of every list (Laws/Sparse.lean). -/

namespace Sys2Proof.Machine

/-- The value listed for an index. -/
def lookup {α : Type} (k : Nat) : List (Nat × α) → Option α
  | [] => none
  | p :: t => if p.1 = k then some p.2 else lookup k t

/-- The value of an index, with the default d. -/
def at_ {α : Type} (d : α) (k : Nat) (m : List (Nat × α)) : α := (lookup k m).getD d

/-- The collection without an index. -/
def without {α : Type} (k : Nat) (m : List (Nat × α)) : List (Nat × α) :=
  m.filter (fun p => p.1 ≠ k)

/-- A pair placed before the first greater index. -/
def insertKey {α : Type} (k : Nat) (v : α) : List (Nat × α) → List (Nat × α)
  | [] => [(k, v)]
  | p :: t => if k < p.1 then (k, v) :: p :: t else p :: insertKey k v t

/-- The collection with an index listed. -/
def put {α : Type} (k : Nat) (v : α) (m : List (Nat × α)) : List (Nat × α) :=
  insertKey k v (without k m)

/-- The collection with an index set; an index that takes the default d is not listed. -/
def set_ {α : Type} [DecidableEq α] (d : α) (k : Nat) (v : α) (m : List (Nat × α)) :
    List (Nat × α) :=
  if v = d then without k m else put k v m

/-- The indices rise strictly. -/
abbrev rising {α : Type} (m : List (Nat × α)) : Prop := m.Pairwise (fun a b => a.1 < b.1)

/-- A duplicate-free list of numbers with one more member. -/
def addNum (k : Nat) (l : List Nat) : List Nat := if k ∈ l then l else l ++ [k]

/-- A list of numbers without one of them. -/
def dropNum (k : Nat) (l : List Nat) : List Nat := l.filter (fun x => x ≠ k)

end Sys2Proof.Machine
end

