-- ==== Sys2Proof/Machine/State.lean ====
section
/-! DEFINITION. The state of one KZ-12 module as plain data, the reasons a step can stop, and the state
after reset. A collection indexed by a number is a list of (index, value) pairs with rising indices in
which an index that holds its default value is not listed (Machine/Sparse.lean). Every object of the
dictionary that simply holds a value is an entry of `regs`, keyed index * 256 + subindex, with the
defaults of Machine/Objects.lean; objects computed from other state are read in Machine/Dict.lean.

Choices beyond the manual's plain words (notes/assumptions): DEDUCED 24, 38, 51, 60, 64, 67, 73, 75, 80, 89,
94, 102, 108, 146, 147, 149; DESIGN CHOICE 1, 2, 3, 10, 12, 13, 15, 116, 119, 143, 144, 160; PRESUMED 14, 115. -/

namespace Sys2Proof.Machine

/-- Why the module's behaviour ends. -/
inductive Fault where
  /-- A PLL bank breaks the cross-island limits of R476 when its setting comes into force: "A setting
  outside them gives undefined behaviour". Raised by the command that brings the setting into force: a
  power request that leaves Stow, a port's recommissioning, QL_RETRAIN_COMPLETE. Safe: the manual gives no
  effect. -/
  | clockRatioUndefined
  /-- A memory request names an address of the unmapped range of R203, which nothing reaches. Raised by
  MEMORY_READ_REQUEST and MEMORY_WRITE. Safe. -/
  | unmappedAddress
deriving DecidableEq, Repr

/-- Why a step has no meaning. -/
inductive Refusal where
  /-- The command is not modelled yet. Raised by an arm of exec. Safe. -/
  | notModelled (mnemonic : String)
deriving DecidableEq, Repr

/-- Device states (R82). -/
inductive DevState where
  | inert | joined | prepared | running | held | faulted
deriving DecidableEq, Repr

/-- Power states (R483), highest first. -/
inductive PowerState where
  | run | still | hush | doze | stow
deriving DecidableEq, Repr

/-- Session roles (R445). -/
inductive Role where
  | none | operator | tenant | auditor
deriving DecidableEq, Repr

/-! ## The score (R45 to R57, R174 to R188, R214, R216, R323 to R326) -/

/-- A token reference (R50). -/
structure TokRef where
  tok : Nat
  cnt : Nat
deriving DecidableEq, Repr

/-- A crumb record (R49). -/
structure Crumb where
  word : W128
  num : Nat
  half : Nat
  core : Nat
  phase : Nat
  stealable : Bool
  padElidable : Bool
  gated : Bool
  cost : Nat
  inputs : List TokRef
  outputs : List TokRef
  credits : List (Nat × Nat)
  fill : Option (Nat × Nat)
  padSlot : Nat
  padTile : Nat
deriving DecidableEq, Repr

/-- A token declaration (R51). cluster 255: homed at an engine. -/
structure TokDecl where
  id : Nat
  final : Nat
  die : Nat
  cluster : Nat
  ep : Nat
deriving DecidableEq, Repr

/-- A credit pool declaration (R52). -/
structure PoolDecl where
  num : Nat
  size : Nat
  die : Nat
  ep : Nat
deriving DecidableEq, Repr

/-- A micro-batch slot declaration (R53). -/
structure SlotDecl where
  num : Nat
  budget : Nat
deriving DecidableEq, Repr

/-- A relief map record (R53). -/
structure ReliefDecl where
  half : Nat
  core : Nat
  relief : Nat
deriving DecidableEq, Repr

/-- A dimension entry of a descriptor (R174). -/
structure Dim where
  extent : Nat
  stride : Int
  padLow : Nat
  padHigh : Nat
deriving DecidableEq, Repr

/-- A descriptor (R174): esize is the element size code, flagsHigh the reserved flag bits. -/
structure Desc where
  addr : Nat
  space : Nat
  reserved : Nat
  esize : Nat
  rank : Nat
  materialize : Bool
  listMode : Bool
  flagsHigh : Nat
  listA : Nat
  listB : Nat
  listDesc : Nat
  pad : Nat
  limA : Nat
  limB : Nat
  dims : List Dim
deriving DecidableEq, Repr

/-- A copy job record (R187). -/
structure CopyJob where
  die : Nat
  engine : Nat
  batch : Nat
  src : Nat
  dst : Nat
  input : Option TokRef
  outputs : List TokRef
  cost : Nat
deriving DecidableEq, Repr

/-- A memory stream record (R214). pace: the pace token's ID. -/
structure StreamDecl where
  desc : Nat
  target : Nat
  partition : Nat
  mask : Nat
  segments : Nat
  runner : Nat
  input : Option TokRef
  pace : Option Nat
  outputs : List TokRef
  cost : Nat
deriving DecidableEq, Repr

/-- A collective record (R324). -/
structure CollDecl where
  kind : Nat
  format : Nat
  alg : Nat
  op : Nat
  group : Nat
  engine : Nat
  gated : Bool
  flagsHigh : Nat
  input : Option TokRef
  outputs : List TokRef
  src : Option Nat
  dst : Option Nat
  count : Nat
  costs : List Nat
  staging : Option Nat
  reserved : Nat
deriving DecidableEq, Repr

/-- A bucket record (R326). -/
structure BucketDecl where
  coll : Nat
  fill : Nat
  reserved : Nat
deriving DecidableEq, Repr

/-- A constant data entry (R216): where it goes, and where its data lies in the image. -/
structure ConstDecl where
  addr : Nat
  len : Nat
  off : Nat
deriving DecidableEq, Repr

/-- An installed score. recordsAt: where its crumb records lie in the image. -/
structure Score where
  id : Nat
  bound : Nat
  orderedBound : Nat
  penalty : Nat
  orderedFlag : Bool
  chunkCode : Nat
  slotCount : Nat
  phases : Nat
  signer : W256
  crumbs : List Crumb
  tokens : List TokDecl
  pools : List PoolDecl
  slots : List SlotDecl
  relief : List ReliefDecl
  descs : List Desc
  jobs : List CopyJob
  streams : List StreamDecl
  colls : List CollDecl
  buckets : List BucketDecl
  consts : List ConstDecl
  recordsAt : Nat := 0
deriving DecidableEq, Repr

/-! ## Cores -/

/-- A crumb running on an execution unit (R94, R95): its index in the score, the core whose list it is
from, the accumulator tiles it names, its tile-store ranges (start, end, written), and whether its results
are marked in error (R119, R226). -/
structure Running where
  crumb : Nat
  owner : Nat
  accs : List Nat
  ranges : List (Nat × Nat × Bool)
  inError : Bool := false
deriving DecidableEq, Repr

/-- A sample in the wide path (R162 to R164). -/
structure WideSample where
  crumb : Nat
  disagrees : Bool
  excluded : Nat
  ratio : W32
deriving DecidableEq, Repr

/-- One core site (R94, R104, R110, R119, R124). undef: bytes and entries not listed are undefined, from
this draw of the free counter (R529, R531); none: they are zero. -/
structure Site where
  undef : Option Nat := none
  tile : List (Nat × Byte) := []
  tileBad : List Nat := []
  acc : List (Nat × W32) := []
  accBad : List Nat := []
  scalars : List (Nat × W32) := []
  overflow : Bool := false
  invalid : Bool := false
  sequencer : Option Running := none
  matrix : Option Running := none
  vector : Option Running := none
  copy : Option Running := none
  wide : Option WideSample := none
deriving DecidableEq, Repr

/-- A planned core's sequencer (R63, R66, R68): the phase it is in, its records not yet fired or stolen,
and the last thief served. -/
structure Seq where
  phase : Nat := 0
  unfired : List Nat := []
  lastThief : Nat := 7
deriving DecidableEq, Repr

/-- A core prefetch (R213). -/
structure Prefetch where
  core : Nat
  crumb : Nat
  operand : Nat
deriving DecidableEq, Repr

/-- A copy engine (R188): jobs run in the step, and the one running. -/
structure Engine where
  doneJobs : Nat := 0
  running : Option Nat := none
deriving DecidableEq, Repr

/-- A memory stream (R215): segments completed in the step, and whether one runs. -/
structure StreamRun where
  doneSegs : Nat := 0
  running : Bool := false
deriving DecidableEq, Repr

/-! ## Steps -/

/-- Outcomes of a step (R150). -/
inductive Verdict where
  | commit | skip | void
deriving DecidableEq, Repr

/-- How far the verdict of the running step has come. -/
inductive VerdictPhase where
  | open | waitingPartner | reducing | decided | applied
deriving DecidableEq, Repr

/-- A captured setting of the numerics watch (R162). -/
structure WatchSet where
  enable : Bool := false
  n : Nat := 16
  t : Nat := 9
  alert : Nat := 16
deriving DecidableEq, Repr

/-- The running step. -/
structure Step where
  running : Bool := false
  num : Nat := 0
  startTime : Nat := 0
  heldFrom : Option Nat := none
  heldTime : Nat := 0
  tokens : List (Nat × Nat) := []
  fills : List (Nat × Nat) := []
  commit : Option Bool := none
  dataErr : Option W32 := none
  transferErr : Bool := false
  lateErr : Bool := false
  holdAtBoundary : Bool := false
  phase : VerdictPhase := .open
  replays : Nat := 0
  forced : Bool := false
  overflow : Bool := false
  ownWord : W64 := 0
  jobWord : W64 := 0
  outcome : Option Verdict := none
  rejected : Bool := false
  loss : Option W32 := none
  lossSent : Bool := false
  secured : Bool := false
  watchTiles : Nat := 0
  watchRatio : W32 := 0
  digests : List (Nat × W32) := []
  elided : Nat := 0
deriving DecidableEq, Repr

/-- An admitted micro-batch (R79). -/
structure Admitted where
  step : Nat
  slot : Nat
  tokens : Nat
  buffer : Nat
deriving DecidableEq, Repr

/-- What takes effect at a step start (R136, R144, R162, R322). written: the update count has been written since then. -/
structure InForce where
  genKey : Nat := 0
  genBase : Nat := 0
  updates : Nat := 0
  written : Bool := false
  lr : W32 := 0x3F800000
  scaleExp : Nat := 15
  watch : WatchSet := {}
  members : List (Nat × W64) := []
  groups : List (Nat × W64) := []
deriving DecidableEq, Repr

/-- The loss-scale state (R154). -/
structure ScaleState where
  e : Nat := 15
  c : Nat := 0
  f : Nat := 0
deriving DecidableEq, Repr

/-- Score execution. pendTokens, pendGrants: what each unit has still to send, per (unit, token) and per (unit,
pool); creditUsed: the granules in use per (unit, endpoint, class) (R236; a unit and an endpoint as endKey). -/
structure Exec where
  score : Option Score := none
  emulated : Bool := false
  ordered : Bool := false
  nextStep : Nat := 0
  holdPending : Bool := false
  admitted : List Admitted := []
  step : Step := {}
  force : InForce := {}
  scale : ScaleState := {}
  scaleLoad : Option ScaleState := none
  heldTokens : List TokenMsg := []
  spent : List (Nat × Nat) := []
  seqs : List (Nat × Seq) := []
  engines : List (Nat × Engine) := []
  streams : List (Nat × StreamRun) := []
  prefetch : List Prefetch := []
  pendTokens : List ((Nat × Nat) × Nat) := []
  pendGrants : List ((Nat × Nat) × Nat) := []
  creditUsed : List ((Nat × Nat × Nat) × Nat) := []
deriving DecidableEq, Repr

/-! ## Memory -/

/-- One direction of a stack port (R33): the granules of each class that its sender has spent and not got
back, those its receiver has still to return, and the bytes of data that continue into the next transfer,
as sent and as received. -/
structure StackDir where
  spent : List (Nat × Nat) := []
  owed : List (Nat × Nat) := []
  sendRest : Nat := 0
  takeRest : Nat := 0
deriving DecidableEq, Repr

/-- A memory-side cache line (R207): the bytes written since it was filled, dirty when there are any, and
the partition of its last write. -/
structure CacheLine where
  data : List Host.Cell := []
  part : Nat := 0
deriving DecidableEq, Repr

/-- A write-combining entry (R211, R212). -/
structure WcEntry where
  controller : Nat
  line : Nat
  data : List Host.Cell
  part : Nat
  first : Nat
  retiring : Bool
deriving DecidableEq, Repr

/-- A write waiting for its invalidations to be acknowledged (R208). own: a write of a unit's own work, which
sends no packet of its own; its tag is then the unit's number. -/
structure WaitingWrite where
  own : Bool
  die : Nat
  ep : Nat
  tag : Nat
  cls : Nat
  line : Nat
  dies : List Nat
deriving DecidableEq, Repr

/-- A request outstanding at its requester, with the granules of the response that it has reserved in its
receive buffer (R27, R235). -/
structure Outstanding where
  die : Nat
  ep : Nat
  tag : Nat
  write : Bool
  step : Bool
  addr : Nat
  reserved : Nat
deriving DecidableEq, Repr

/-- A response or acknowledgement on its way to its requester (R29): class and the controller that sent it. -/
structure Answer where
  die : Nat
  ep : Nat
  tag : Nat
  write : Bool
  cls : Nat
  sender : Nat
deriving DecidableEq, Repr

/-- A request waiting for its regulator (R218). -/
structure WaitingReq where
  req : MemReq
  ecc : MemEcc
  write : Bool
  data : Bytes
deriving DecidableEq, Repr

/-- A stack (R201, R222 to R224, R482): state code of 0x4001, redundant lanes used per group
(16 channels of 4), last temperature, refresh multiplier, last completed refresh. -/
structure Stack where
  state : Nat := 0
  repaired : List (Nat × Nat) := []
  temp : Nat := 0
  mult : Nat := 0
  lastRefresh : Nat := 0
  nextBank : Nat := 0
deriving DecidableEq, Repr

/-- A regulator (R218): credit missing from a full bucket, and when that was computed. -/
structure Regulator where
  missing : Nat := 0
  at_ : Nat := 0
deriving DecidableEq, Repr

/-- A running generator pass (R228). -/
structure GenRun where
  op : Nat
  req : GenReq
deriving DecidableEq, Repr

/-- A unit that accesses memory for its own work: its endpoint, the class of the traffic it serves (R234), its
partition (R217), and its number where several units share an endpoint. -/
structure Agent where
  die : Nat
  ep : Nat
  cls : Nat
  part : Nat
  unit : Nat := 0
deriving DecidableEq, Repr

/-- A host copy in progress (R198), and the range of addresses it writes. -/
structure HostCopy where
  load : Bool
  buffer : Nat
  offset : Nat
  desc : Desc
  lo : Nat
  len : Nat
deriving DecidableEq, Repr

/-- The memory system. cells: what has reached the stacks; poison: poisoned stack sectors; msc: memory-side
cache lines; wc: write-combining entries, oldest first; shared: the lines of each shared-cache slice, least
recently used first (key die * 16 + slice); shPoison: sectors poisoned in a shared cache (sector * 16 + die);
answers: responses on their way, in the order sent; waiting: requests in their controllers' receive queues, in
arrival order; tested: what the test area was last written with, newest first, and the corrected symbols per
lane; scrubbed: when the last patrol scrub ended; ports: the stack ports' directions (Machine/Links.lean). -/
structure Memory where
  ports : List (Nat × StackDir) := []
  cells : List Host.Cell := []
  epoch : Nat := 0
  poison : List Nat := []
  msc : List (Nat × CacheLine) := []
  wc : List WcEntry := []
  shared : List (Nat × List Nat) := []
  shPoison : List Nat := []
  invWait : List WaitingWrite := []
  outstanding : List Outstanding := []
  answers : List Answer := []
  waiting : List WaitingReq := []
  stackSt : List (Nat × Stack) := []
  regulators : List (Nat × Regulator) := []
  trained : Bool := false
  gen : Option GenRun := none
  tested : List GenReq := []
  symbols : List (Nat × Nat) := []
  scrubbed : Nat := 0
  hostCopy : Option HostCopy := none
deriving DecidableEq, Repr

/-! ## On-package links -/

/-- One direction of a quadrant link (R36 to R41). replay: (sequence, times resent) of each
unacknowledged data unit, oldest first; timer: when the wait for an acknowledgement (re)started; credit:
what the sender holds; owed: what its receiver has still to return; sendRest, takeRest: the bytes of a
packet's data that continue into the next unit, as sent and as received. -/
structure QlDir where
  next : Nat := 0
  replay : List (Nat × Nat) := []
  lastAck : Nat := 0
  timer : Nat := 0
  credit : List (Nat × Nat) := []
  owed : List (Nat × Nat) := []
  expected : Nat := 0
  nakSent : Bool := false
  sendRest : Nat := 0
  takeRest : Nat := 0
deriving DecidableEq, Repr

/-- A quadrant link (R35 to R43): state code of 0x6E00, lanes repaired, exhausted modules, retrain start,
times of the retrains of the last second. -/
structure QlLink where
  state : Nat := 0
  repaired : Nat := 0
  exhausted : BitVec 8 := 0
  retrainAt : Nat := 0
  recent : List Nat := []
  up : QlDir := {}
  down : QlDir := {}
deriving DecidableEq, Repr

/-! ## Leases and flow contexts (R242 to R248, R304 to R306) -/

/-- A lease, as its holder or its issuer keeps it. expiry: at the issuer none until the grant has left (R243); at
the holder the estimate of R245. sent: the renewals sent and not overtaken by an acknowledgement, each with its
send time. -/
structure Lease where
  num : Nat
  granules : Nat
  spent : Nat := 0
  term : Nat
  expiry : Option Nat := none
  renewNo : Nat := 0
  sent : List (Nat × Nat) := []
  nextRenew : Nat := 0
deriving DecidableEq, Repr

/-- What a flow context serves (R304): a collective of the score, the resilience traffic of R367, or the control
parcels of R307. -/
inductive Stream where
  | coll (n : Nat)
  | state
  | control
deriving DecidableEq, Repr

/-- An outbound context: the peer, the destination's context number, class and stream, leases held, parcels waiting
for lease credit, next sequence number, the granules of the parcels formed, spent and returned so far. -/
structure OutCtx where
  peer : Nat
  num : Nat
  cls : Nat
  stream : Stream
  leases : List Lease := []
  queue : List Parcel := []
  nextSeq : Nat := 0
  formed : Nat := 0
  spent : Nat := 0
  returned : Nat := 0
deriving DecidableEq, Repr

/-- An inbound context: number, peer, class, its stream as the delivery target, leases issued, and the window of the
last 64 sequences. -/
structure InCtx where
  num : Nat
  peer : Nat
  cls : Nat
  stream : Stream
  leases : List Lease := []
  high : Nat := 0
  seen : List Nat := []
deriving DecidableEq, Repr

/-- A lease of a context that closed before the lease expired (R248). held: this module held it. -/
structure LateLease where
  peer : Nat
  ctx : Nat
  held : Bool
  lease : Lease
deriving DecidableEq, Repr

/-- A hop of a parcel: dimension, digit of the next module, the parcel's relayed flag and dimension on it, and
whether an exception entry chose it (R293 to R298). -/
structure Hop where
  dim : Nat
  digit : Nat
  relayed : Bool
  relayDim : Nat
  exception : Bool
deriving DecidableEq, Repr

/-- A parcel in the router: the lease that paid for it, where it is the module's own (context number, lease
number); the flit buffers of receive lanes that it holds (lane, class, pool, flits); the hop decided for it, and
whether that hop has been counted. -/
structure Carried where
  parcel : Parcel
  paid : Option (Nat × Nat) := none
  buffers : List (Nat × Nat × Nat × Nat) := []
  hop : Option Hop := none
  counted : Bool := false
deriving DecidableEq, Repr

/-! ## Photonics (R252 to R287) and flits (R310 to R315) -/

/-- What a lane is doing. searching: re-locking by search. out: waiting for identity (R270).
calibrating: in its slot (R278). plantFault: found with a plant fault and dropped (R275, R283). dropped: no longer
restored (R283). -/
inductive LaneState where
  | dark | out | inService | calibrating | searching | plantFault | dropped
deriving DecidableEq, Repr

/-- How a ring searches (R266, R267, R273): a sweep upwards from code 0, or by lines in order of distance. -/
inductive SearchMode where
  | sweep | directed
deriving DecidableEq, Repr

/-- A ring (R263 to R276): heater code, the line it is on (16: none), parked, locked, failed, how it searches, the lines
rejected in the search, full sweeps failed, when it came to its candidate line, when its last sweep ended without
success, and the code and die temperature stored at Doze entry. -/
structure Ring where
  code : Nat := 0
  line : Nat := 16
  parked : Bool := true
  locked : Bool := false
  failed : Bool := false
  mode : SearchMode := .sweep
  rejected : List Nat := []
  sweepsFailed : Nat := 0
  lineAt : Nat := 0
  failedAt : Option Nat := none
  storedCode : Nat := 0
  storedTemp : Nat := 0
deriving DecidableEq, Repr

/-- A data flit in a lane's replay buffer (R313): sequence, times resent, class, pool, whether the lane escape credit
paid for it, the slot area with the offset of its first header and whether a praline word opens it, and the parcels
with bytes in it. -/
structure TxFlit where
  seq : Nat
  resent : Nat
  cls : Nat
  pool : Nat
  escape : Bool
  area : Bytes
  first : Nat
  word : Bool
  parcels : List Carried
deriving DecidableEq, Repr

/-- A parcel bound to a lane: as it is sent, and as it was queued here; the level pool of its next hop, 0 for its
destination (R312). -/
structure Bound where
  out : Parcel
  orig : Carried
  level : Nat
deriving DecidableEq, Repr

/-- A parcel that a stream of a lane is sending: class, receive pool, the bytes still to go. -/
structure Sending where
  cls : Nat
  pool : Nat
  rest : Bytes
  item : Bound
deriving DecidableEq, Repr

/-- A transmit lane: its searches of the last hour; lane frames: count, when the last one was sent, notices (code,
colour, sequence, frames still to carry it), the last notice's sequence; flits: next sequence, replay buffer, parcels
that wait and those being sent, credits per class and pool (key class * 16 + pool; the lane escape credit 112), what
it has to return to the far transmitter per class and pool, when the wait for an acknowledgement (re)started, the class
of the last flit among K2 to K4, praline words that wait, and whether an acknowledgement is due to be sent. -/
structure TxLane where
  state : LaneState := .dark
  searches : List Nat := []
  frame : Nat := 0
  frameAt : Option Nat := none
  notices : List (Nat × Nat × Nat × Nat) := []
  noticeSeq : Nat := 0
  next : Nat := 0
  replay : List TxFlit := []
  wait : List Bound := []
  sending : List Sending := []
  credit : List (Nat × Nat) := []
  owed : List (Nat × Nat) := []
  timer : Nat := 0
  lastClass : Nat := 2
  words : List W128 := []
  ackDue : Bool := false
deriving DecidableEq, Repr

/-- What a receive lane has received of the parcel that a stream is in: class and pool (16 × class + pool), the
bytes so far, the buffers that they hold. -/
structure Partial where
  stream : Nat
  bytes : Bytes
  buffers : List (Nat × Nat × Nat × Nat)
deriving DecidableEq, Repr

/-- A receive lane: its searches, consecutive good frames, the frame count and time of the last, the mismatch seen last
(source, port, colour), notices acted on per source, expected flit sequence, whether a NAK was sent, whether the
transmitter runs at Gen2, bytes of parcels received in part per class and pool with the buffers they hold, whether its
search follows a lane-lost verdict, and whether its flit state is that of a slot of the far module (R278). -/
structure RxLane where
  state : LaneState := .dark
  searches : List Nat := []
  goodFrames : Nat := 0
  frame : Nat := 0
  lastGood : Nat := 0
  mismatch : Option (Nat × Nat × Nat) := none
  noticeSeen : List (Nat × Nat) := []
  expected : Nat := 0
  nakSent : Bool := false
  gen2 : Bool := true
  parts : List Partial := []
  lost : Bool := false
  kept : Bool := false
deriving DecidableEq, Repr

/-- A laser group's DFB laser (R254, R280): state code of 0x5010, last 16 readings newest first,
commissioned power in 10 µW, the spare that serves the group, whether spare lasers were found exhausted. -/
structure Laser where
  state : Nat := 0
  readings : List Nat := []
  commissioned : Nat := 0
  spare : Option Nat := none
  exhausted : Bool := false
deriving DecidableEq, Repr

/-- A spare laser (R268, R281): state code of 0x5011, colour and group served, readings, fade warning given, its tuning
settings per colour. -/
structure SpareLaser where
  state : Nat := 0
  colour : Nat := 0
  group : Nat := 0
  readings : List Nat := []
  warned : Bool := false
  tuning : List Nat := []
deriving DecidableEq, Repr

/-- A laser switchover in progress (R281): the group's laser, the spare, whether it is locked, and the
ports still to be switched. -/
structure Switchover where
  laser : Nat
  spare : Nat
  locked : Bool
  ports : List Nat
deriving DecidableEq, Repr

/-- A calibration slot in progress (R277): slot index, the transmit colour taken out, start, and the laser whose
switchover it serves. -/
structure CalSlot where
  k : Nat
  colour : Option Nat
  start : Nat
  switching : Option Nat
deriving DecidableEq, Repr

/-- A port: state code of 0x5001, last slot index, the colours its spare rings have taken over, whether
its plant-fault event has been raised, the receive lanes with a plant-fault verdict, and how far its commissioning has
come (R269): 0 its transmit anchor is sought, 1 its receive anchor, 2 both are found. -/
structure Port where
  state : Nat := 0
  lastSlot : Nat := 0
  txSpare : Option Nat := none
  rxSpare : Option Nat := none
  plantSent : Bool := false
  plantLanes : List Nat := []
  gen2 : Bool := false
  slot : Option CalSlot := none
  stage : Nat := 0
deriving DecidableEq, Repr

/-- The photonic engines. refined: how often the rings' values in flash have been refined (R263); allLit: the DFB
lasers of every colour are lit, not C0 alone (R266, R269). -/
structure Photonics where
  commissioning : Nat := 0
  ports : List (Nat × Port) := []
  tx : List (Nat × TxLane) := []
  rx : List (Nat × RxLane) := []
  rings : List (Nat × Ring) := []
  lasers : List (Nat × Laser) := []
  spares : List (Nat × SpareLaser) := []
  switchovers : List Switchover := []
  freqBad : List Nat := []
  refined : Nat := 0
  allLit : Bool := false
deriving DecidableEq, Repr

/-- The fabric: contexts, queues of parcels per class, parcels arrived, silent peers, leases of closed contexts and
contexts closed by a reclaimed lease (peer, number), round-robin planes, peers reported unreachable, unroutable entries
reported, tables. -/
structure Fabric where
  out : List OutCtx := []
  inn : List InCtx := []
  fwd : List (Nat × List Carried) := []
  arrived : List Carried := []
  silent : List Nat := []
  late : List LateLease := []
  reclaimed : List (Nat × Nat) := []
  lastPlane : List (Nat × Nat) := []
  unreachable : List (Nat × Nat) := []
  unroutable : List Nat := []
  exceptions : List (Nat × W64) := []
  overrides : List (Nat × W64) := []
  members : List (Nat × W64) := []
  groups : List (Nat × W64) := []
  parcelKey : W256 := 0
deriving DecidableEq, Repr

/-! ## Collectives (R319 to R352) -/

/-- A chunk that an engine holds: whether its parcel's granules are still to be returned, whether it failed its CRC or
its parcel's tag, and whether it is a contribution in the staging region (R309, R335, R337, R339). -/
structure HeldChunk where
  chunk : Chunk
  owed : Bool
  failed : Bool := false
  staged : Bool := false
deriving DecidableEq, Repr

/-- A running collective: the stage (0 to 4 reduce, 5 + i gather of stage i), pieces received as
(stage, source, offset, length), chunks held for their turn (R335), error, complete, retired, ranges being fetched
again (R341), and what its output tokens wait for (R59): whether they are due, and for each peer the granules of the
parcels formed for it up to the completion (R305). -/
structure CollRun where
  started : Bool := false
  stage : Nat := 0
  recv : List (Nat × Nat × Nat × Nat) := []
  held : List HeldChunk := []
  inError : Bool := false
  examined : Bool := false
  overflow : Bool := false
  complete : Bool := false
  retired : Bool := false
  refetch : List (Nat × Nat) := []
  tokensSent : Bool := false
  marks : List (Nat × Nat) := []
  tokensDue : Bool := false
deriving DecidableEq, Repr

/-- The fields of a praline word (R344), its value in clear. -/
structure PralFields where
  op : Nat
  seq : Nat
  group : Nat
  stage : Nat
  round : Nat
  heard : Nat
  tag : Nat
  value : W64
deriving DecidableEq, Repr

/-- A praline reduction (R344 to R348): its collective, position among the group's reductions of the
round, operation, stage, the member's value, the stage words received as (stage, source, value),
bits heard per stage, which peers have heard this member's word per stage, the rotation of its repetitions, the key of its words (R457), and the
result. -/
structure PralRun where
  coll : Nat
  group : Nat
  round : Nat
  seq : Nat
  op : Nat
  stage : Nat
  values : List (Nat × W64) := []
  words : List (Nat × Nat × W64) := []
  heardUs : List (Nat × Nat) := []
  turn : Nat := 0
  key : W256 := 0
  result : Option W64 := none
deriving DecidableEq, Repr

/-- When a stage's word of a reduction was last sent to a peer, an affine address (R346). -/
structure PralSend where
  group : Nat
  seq : Nat
  round : Nat
  stage : Nat
  peer : Nat
  time : Nat
deriving DecidableEq, Repr

/-- The collective engines. early: chunks of the next step (R337). -/
structure Collectives where
  runs : List (Nat × CollRun) := []
  praline : List PralRun := []
  sends : List PralSend := []
  earlyPraline : List (Nat × PralFields) := []
  early : List HeldChunk := []
  alerted : List (Nat × Nat) := []
deriving DecidableEq, Repr

/-! ## Resilience (R358 to R381) -/

/-- A held copy (R360): current or secure; a share stripe (entry of 0x8001), a region stripe (entry of
0x8002) or a secure record, of an owner rank, at a generation. -/
structure HeldCopy where
  current : Bool
  subtype : Nat
  owner : Nat
  entry : Nat
  stripe : Nat
  generation : Nat
  blocks : List (Nat × Bytes)
  complete : Bool
  poisoned : Bool
deriving DecidableEq, Repr

/-- One item a restore or a share repair pulls: subtype, entry, stripe, the holder asked, and whether it
has arrived, with the blocks received. -/
structure Pull where
  subtype : Nat
  entry : Nat
  stripe : Nat
  holder : Nat
  blocks : List (Nat × Bytes)
  arrived : Bool
deriving DecidableEq, Repr

/-- Resilience. lastSecure: a secure point not yet established; lastCommit: the latest committed step;
gathering: a restore has its data and gathers again. -/
structure Resilience where
  held : List HeldCopy := []
  restore : Option Nat := none
  pulls : List Pull := []
  repairs : List Pull := []
  proofArmed : Option Nat := none
  autoHold : Bool := false
  expectedWritten : Bool := false
  abandonAt : Option Nat := none
  lastSecure : Option Nat := none
  lastCommit : Option Nat := none
  gathering : Bool := false
  partner : Option (Nat × Nat × W32) := none
deriving DecidableEq, Repr

/-! ## The ring (R383 to R414) -/

/-- An event (R413). -/
structure Event where
  code : Nat
  aud : Nat
  seq : Nat
  time : Nat
  payload : Bytes
deriving DecidableEq, Repr

/-- A message being received (R392). frame, index, header: of its first slot, the frame as this module counts them across
wraps (R451). -/
structure PartMsg where
  src : Nat
  sess : Nat
  msg : Nat
  typ : Nat
  next : Nat
  lastTime : Nat
  data : Bytes
  frame : Nat := 0
  index : Nat := 0
  header : Nat := 0
deriving DecidableEq, Repr

/-- A block transfer in progress (R402, R403). toModule: the control node sends. next: the next block to
send; blocks: those received, or the value's; unacked: blocks sent and not acknowledged, with their send
times; resent: how often each was resent. For a block write, the settings as they stood when it was
accepted (R407). -/
structure Transfer where
  sess : Nat
  msg : Nat
  idx : Nat
  sub : Nat
  len : Nat
  toModule : Bool
  next : Nat := 0
  blocks : List (Nat × Bytes) := []
  unacked : List (Nat × Nat) := []
  resent : List (Nat × Nat) := []
  regs : List (Nat × Nat) := []
  members : List (Nat × W64) := []
  groups : List (Nat × W64) := []
  overrides : List (Nat × W64) := []
deriving DecidableEq, Repr

/-- A bulk channel (R410, R411): state code of 0x1201, the session and message ID of the request that
opened it, bytes acknowledged, the next block to send, the blocks acknowledged, those sent or being written
and not acknowledged with their times, and how often each was resent. -/
structure BulkChan where
  state : Nat := 0
  dir : Nat := 0
  sess : Nat := 0
  msg : Nat := 0
  buffer : Nat := 0
  offset : Nat := 0
  length : Nat := 0
  acked : Nat := 0
  next : Nat := 0
  done : List Nat := []
  unacked : List (Nat × Nat) := []
  resent : List (Nat × Nat) := []
deriving DecidableEq, Repr

/-- A message on its way out (R392). rest: its payload in clear until its first slot leaves, then what is left of the
payload as it travels; num: slots that have left; opens: the session that it assigns or that it starts (R448, R449); prk, since: its session's
when it was queued. -/
structure OutMsg where
  typ : Nat
  sess : Nat
  msg : Nat
  rest : Bytes
  num : Nat := 0
  opens : Nat := 0
  prk : BitVec 384 := 0
  since : Nat := 0
deriving DecidableEq, Repr

/-- The ring transceiver. out: messages waiting for slots, first in, first out; nextMsg: the message ID of the next one
that answers no request. closeAtFrame: the bypass closes at the next frame boundary. frames: the frame count across its
wraps (R451). clock: light reaches the ring receiver, or it coasts. -/
structure RingState where
  bypassOpen : Bool := false
  closeAtFrame : Bool := false
  lastMark : Option FrameMark := none
  frames : Nat := 0
  parts : List PartMsg := []
  inbox : List PartMsg := []
  transfers : List Transfer := []
  channels : List (Nat × BulkChan) := []
  queue : List Event := []
  lost : List (Nat × Nat) := []
  histOp : List Event := []
  histTen : List Event := []
  clock : Bool := true
  out : List OutMsg := []
  nextMsg : Nat := 0
deriving DecidableEq, Repr

/-! ## Sessions, keys, audit -/

/-- A response kept for R404. -/
structure Response where
  msg : Nat
  code : W32
  data : Bytes
deriving DecidableEq, Repr

/-- Session state (R446, R449). -/
inductive SessState where
  | free | establishing | established
deriving DecidableEq, Repr

/-- A session: role, key identity, audit salt, the key from which its ring keys are expanded (R450), the frame of its
success result (R451), reply time, the last 16 responses newest first, requests
in progress, session-scoped values (R421; keys as in regs), and the command, index and subindex of its last 32 requests
(R400), by message ID. -/
structure Session where
  state : SessState := .free
  role : Role := .none
  key : W256 := 0
  salt : W256 := 0
  prk : BitVec 384 := 0
  since : Nat := 0
  replyAt : Nat := 0
  responses : List Response := []
  inProgress : List Nat := []
  ownVals : List (Nat × Nat) := []
  heads : List (Nat × Bytes) := []
deriving DecidableEq, Repr

/-- What a pending write (R407) is. -/
inductive PendKind where
  | prepare | hostCopy | abandon | power | firmware
deriving DecidableEq, Repr

/-- A pending write: the settings it depends on as they stood when it was accepted. -/
structure PendWrite where
  kind : PendKind
  q : Req
  regs : List (Nat × Nat)
  members : List (Nat × W64)
  groups : List (Nat × W64)
  overrides : List (Nat × W64)
deriving DecidableEq, Repr

/-- An audit entry (R465). The chain digest is that of R467. -/
structure AuditEntry where
  position : Nat
  time : Nat
  origin : W256
  index : Nat
  sub : Nat
  sess : Nat
  role : Nat
  kind : Nat
  keyed : Bool
  len : Nat
  digest : BitVec 384
  chain : BitVec 384
deriving DecidableEq, Repr

/-- A tenant region (R454, R458). -/
structure Region where
  num : Nat
  base : Nat
  length : Nat
  key : BitVec 512
deriving DecidableEq, Repr

/-- Identity, trust and audit. log: newest first. lastExport, exportChain: entries written and chain digest
at the last export. -/
structure Security where
  sessions : List (Nat × Session) := []
  bound : Option W256 := none
  pend : List PendWrite := []
  fabricKey : Option W256 := none
  baseKey : Option W256 := none
  moduleKey : Option W256 := none
  regions : List Region := []
  erasing : Bool := false
  log : List AuditEntry := []
  chain : BitVec 384 := 0
  lastExport : Nat := 0
  exported : Bytes := []
  exportChain : BitVec 384 := 0
  origins : List (W256 × Nat) := []
  flashFull : Bool := false
  minSecurity : Nat := 0
  fwStored : Option FwImage := none
  fwDigest : BitVec 384 := 0
  fwRunning : Bool := false
  fwSecurity : Nat := 0
  recovery : Bool := false
deriving DecidableEq, Repr

/-! ## Power, clocks, reset and test -/

/-- Power states, device time, reset and boot. osc: oscillator ticks since reset was released; slew: what
slewing has still to correct; lastFrameAt: the oscillator count at the last frame mark; refChange: the time
reference in force until the next frame boundary, after a write that changes it; lockAt: the count at symbol lock;
goodSince: in module reset, the count since which no condition holds it there (R492). afterFault: the move to
Stow follows a supply fault; stowExit: the move up began in Stow. -/
structure PowerClock where
  cur : PowerState := .stow
  req : PowerState := .stow
  moving : Bool := false
  afterFault : Bool := false
  stowExit : Bool := false
  inReset : Bool := false
  time : Nat := 0
  osc : Nat := 0
  slew : Int := 0
  slewPhase : Nat := 0
  stepped : Bool := false
  goodFrames : Nat := 0
  lastFrameAt : Option Nat := none
  refChange : Option Nat := none
  refLost : Bool := false
  symbolLock : Bool := false
  lockAt : Nat := 0
  goodSince : Option Nat := none
  settled : Bool := false
  selfTestB0 : Bool := false
  selfTestB2 : Bool := false
  selfTested : Bool := false
  pllInForce : List (Nat × Nat) := []
  pendingEnables : List (Nat × Nat) := []
  thermTrip : Bool := false
deriving DecidableEq, Repr

/-- An in-field test of a half (R533 to R539): when due, the planned core under test, the relief core
that stands in for it, whether it was relieved, relief cores tested in the turn. -/
structure HalfTest where
  next : Nat := 0
  dueAt : Option Nat := none
  due : Bool := false
  core : Option Nat := none
  relief : Option Nat := none
  overdue : Bool := false
  rebind : List (Nat × Nat) := []
  returning : Bool := false
deriving DecidableEq, Repr

/-- Test access. ir: the instruction register. -/
structure TestState where
  ir : BitVec 8 := 2
  boundary : BitVec 15 := 0
  driven : Bool := false
  highz : Bool := false
  dieSelect : BitVec 40 := 0
  intrusive : Bool := false
  undefDies : BitVec 40 := 0
  undefAt : Nat := 0
  halves : List (Nat × HalfTest) := []
  selfTest : Option (Nat × Nat) := none
deriving DecidableEq, Repr

/-! ## What the module sends -/

/-- What a command puts on the wires. blockBegin: the response that accepts a block transaction, with the
length of the value that will follow (R403). dictAccess: an access forwarded to the die agent that holds
the object (R25). -/
inductive Output where
  | response (sess msg : Nat) (code : W32) (data : Bytes)
  | blockBegin (sess msg length : Nat)
  | reply (msg sess : Nat) (code : W32)
  | result (sess sub : Nat) (code : W32)
  | event (e : Event)
  | mark (m : FrameMark) (crc : W32)
  | emptySlot
  | forwardSlot (s : Slot)
  | blockAck (a : BlockAck)
  | dictAccess (write : Bool) (idx sub : Nat)
  | block (b : Block)
  | token (tok inc : Nat)
  | creditGrant (pool n : Nat)
  | commit (c : Bool)
  | readResponse (die ep tag : Nat) (data : Bytes) (poison : Bool)
  | writeAck (die ep tag : Nat)
  | invalidate (die line : Nat)
  | qlNak (link : Nat) (up : Bool) (ack : Nat)
  | qlResend (link : Nat) (up : Bool) (seqs : List Nat)
  | flit (port colour : Nat) (bytes : Bytes)
  | frame (port colour : Nat) (bytes : Bytes)
  | tdo (w : Nat)
deriving DecidableEq, Repr

/-- The module. pending: the commands waiting, first in, first out. sent: what the last command put on
the wires. freeCtr: advanced whenever a free value is drawn. -/
structure State where
  pending : List Instr := []
  sent : List Output := []
  freeCtr : Nat := 0
  dev : DevState := .inert
  regs : List (Nat × Nat) := []
  straps : Straps := ⟨false, 0, 0⟩
  ex : Exec := {}
  sites : List (Nat × Site) := []
  siteMap : List (Nat × Nat) := []
  mem : Memory := {}
  links : List (Nat × QlLink) := []
  dieErrors : List (Nat × Nat) := []
  pho : Photonics := {}
  fab : Fabric := {}
  col : Collectives := {}
  res : Resilience := {}
  ring : RingState := {}
  sec : Security := {}
  pwr : PowerClock := {}
  test : TestState := {}
deriving DecidableEq, Repr

/-- The module when reset is released (R495): INERT, in Stow, bypass closed, nothing trained, straps
open (R510), flash as at manufacture (R495), every dictionary object at its default. -/
def State.reset : State := {}

end Sys2Proof.Machine
end

