-- ==== Sys2Proof/Machine/Objects.lean ====
section
/-! DEFINITION. The object dictionary as a table (R418, R419, R425, R428, R430, R432 and the object
tables of every chapter): for each object its subindices, its size in bytes (0: of varying length), its
access codes for OPERATOR, TENANT and AUDITOR (R8), its default as a little-endian number, and its
range (R9). The numbers of subindex 00 follow R541.

Choices beyond the manual's plain words (notes/assumptions): DESIGN CHOICE 18, 150. -/

namespace Sys2Proof.Machine

/-- Access codes (R8). -/
inductive Acc where
  | ro | rw | wo | con | rwj | no
deriving DecidableEq, Repr

/-- One row of an object table. -/
structure ObjRow where
  idx : Nat
  lo : Nat
  hi : Nat
  size : Nat
  op : Acc
  ten : Acc
  aud : Acc
  dflt : Nat
  min : Nat
  max : Nat
deriving DecidableEq, Repr

/-- Objects of the range 0x3000. -/
def objs3a : List ObjRow := [
  ⟨0x3001, 0x01, 0x18, 1, .ro, .ro, .ro, 4, 0, 255⟩,
  ⟨0x3020, 0x01, 0x01, 8, .no, .ro, .no, 0, 0, 2 ^ 64 - 1⟩,
  ⟨0x3020, 0x02, 0x02, 8, .no, .ro, .no, 0, 0, 2 ^ 64 - 1⟩,
  ⟨0x3020, 0x03, 0x03, 8, .no, .ro, .no, 0, 0, 2 ^ 64 - 1⟩,
  ⟨0x3020, 0x04, 0x04, 8, .no, .ro, .no, 0, 0, 2 ^ 64 - 1⟩,
  ⟨0x3021, 0x01, 0x01, 8, .ro, .ro, .ro, 0, 0, 2 ^ 64 - 1⟩,
  ⟨0x3021, 0x02, 0x02, 4, .ro, .ro, .ro, 0, 0, 4294967295⟩,
  ⟨0x3021, 0x03, 0x03, 8, .ro, .ro, .ro, 0, 0, 2 ^ 64 - 1⟩,
  ⟨0x3021, 0x04, 0x04, 4, .ro, .ro, .ro, 0, 0, 4294967295⟩,
  ⟨0x3022, 0x01, 0x01, 8, .no, .ro, .no, 0, 0, 2 ^ 64 - 1⟩,
  ⟨0x3022, 0x02, 0x02, 8, .no, .ro, .no, 0, 0, 2 ^ 64 - 1⟩,
  ⟨0x3031, 0x01, 0x01, 32, .no, .wo, .no, 0, 0, 2 ^ 256 - 1⟩,
  ⟨0x3031, 0x02, 0x02, 8, .no, .rw, .no, 0, 0, 2 ^ 64 - 1⟩,
  ⟨0x3031, 0x03, 0x03, 8, .no, .rw, .no, 0, 0, 2 ^ 64 - 1⟩,
  ⟨0x3031, 0x04, 0x04, 4, .no, .rw, .no, 0x3F800000, 0, 4294967295⟩,
  ⟨0x3031, 0x05, 0x05, 1, .no, .ro, .no, 0, 0, 1⟩,
  ⟨0x3010, 0x01, 0x01, 1, .ro, .rwj, .ro, 0, 0, 1⟩,
  ⟨0x3040, 0x01, 0x01, 1, .no, .rwj, .no, 15, 0, 63⟩,
  ⟨0x3040, 0x02, 0x02, 2, .no, .rwj, .no, 2000, 1, 65535⟩,
  ⟨0x3040, 0x03, 0x03, 1, .no, .rwj, .no, 0, 0, 63⟩,
  ⟨0x3040, 0x04, 0x04, 1, .no, .rwj, .no, 24, 0, 63⟩,
  ⟨0x3040, 0x05, 0x05, 1, .no, .rwj, .no, 32, 1, 255⟩,
  ⟨0x3040, 0x06, 0x06, 8, .no, .ro, .no, 15, 0, 2 ^ 64 - 1⟩,
  ⟨0x3040, 0x07, 0x07, 8, .no, .wo, .no, 0, 0, 2 ^ 64 - 1⟩,
  ⟨0x3050, 0x01, 0x01, 1, .no, .rw, .no, 0, 0, 1⟩]

/-- Objects of the range 0x3000. -/
def objs3b : List ObjRow := [
  ⟨0x3050, 0x02, 0x02, 1, .no, .rw, .no, 16, 8, 20⟩,
  ⟨0x3050, 0x03, 0x03, 1, .no, .rw, .no, 9, 4, 20⟩,
  ⟨0x3050, 0x04, 0x04, 4, .no, .rw, .no, 16, 1, 4294967295⟩]

/-- Objects of the range 0x6000. -/
def objs6a : List ObjRow := [
  ⟨0x6E00, 0x01, 0x06, 4, .ro, .ro, .ro, 0x00000000, 0, 4294967295⟩,
  ⟨0x6E01, 0x01, 0x06, 8, .ro, .ro, .ro, 0, 0, 2 ^ 64 - 1⟩,
  ⟨0x6E02, 0x01, 0x06, 4, .ro, .ro, .ro, 0, 0, 4294967295⟩,
  ⟨0x6E03, 0x01, 0x0C, 8, .ro, .ro, .ro, 0, 0, 2 ^ 64 - 1⟩,
  ⟨0x6C00, 0x01, 0x01, 2, .rwj, .ro, .ro, 2000, 500, 16000⟩,
  ⟨0x6C00, 0x02, 0x02, 4, .ro, .ro, .ro, 0, 0, 4294967295⟩,
  ⟨0x6C00, 0x03, 0x03, 4, .ro, .ro, .ro, 0, 0, 4294967295⟩,
  ⟨0x6C00, 0x04, 0x04, 4, .ro, .ro, .ro, 0, 0, 4294967295⟩,
  ⟨0x6C00, 0x05, 0x05, 8, .ro, .ro, .ro, 0, 0, 2 ^ 64 - 1⟩,
  ⟨0x6C00, 0x06, 0x06, 8, .ro, .ro, .ro, 0, 0, 2 ^ 64 - 1⟩,
  ⟨0x6C01, 0x01, 0x01, 8, .ro, .ro, .ro, 0, 0, 2 ^ 64 - 1⟩,
  ⟨0x6C01, 0x02, 0x02, 8, .ro, .ro, .ro, 0, 0, 2 ^ 64 - 1⟩,
  ⟨0x6C01, 0x03, 0x03, 4, .ro, .ro, .ro, 0, 0, 4294967295⟩,
  ⟨0x6000, 0x01, 0x01, 4, .rwj, .ro, .ro, 0x00000000, 0, 1048575⟩,
  ⟨0x6000, 0x02, 0x02, 1, .rwj, .ro, .ro, 5, 1, 5⟩,
  ⟨0x6000, 0x03, 0x03, 1, .ro, .ro, .ro, 6, 0, 255⟩,
  ⟨0x6001, 0x01, 0x20, 4, .rwj, .ro, .ro, 0, 0, 4294967295⟩,
  ⟨0x6010, 0x01, 0x01, 10, .wo, .no, .no, 0, 0, 2 ^ 80 - 1⟩,
  ⟨0x6010, 0x02, 0x02, 2, .rw, .rw, .rw, 0, 0, 4095⟩,
  ⟨0x6010, 0x03, 0x03, 8, .ro, .ro, .ro, 0, 0, 2 ^ 64 - 1⟩,
  ⟨0x6010, 0x04, 0x04, 2, .ro, .ro, .ro, 0, 0, 65535⟩,
  ⟨0x6020, 0x01, 0x05, 4, .ro, .rwj, .ro, 0x00000000, 0, 4294967295⟩,
  ⟨0x6020, 0x06, 0x06, 4, .ro, .ro, .ro, 0xFFFFFFFF, 0, 4294967295⟩,
  ⟨0x6020, 0x07, 0x07, 4, .ro, .ro, .ro, 0, 0, 4294967295⟩,
  ⟨0x6020, 0x08, 0x08, 4, .ro, .rwj, .ro, 0xFFFFFFFF, 0, 4294967295⟩]

/-- Objects of the range 0x6000. -/
def objs6b : List ObjRow := [
  ⟨0x6021, 0x01, 0x01, 10, .no, .wo, .no, 0, 0, 2 ^ 80 - 1⟩,
  ⟨0x6021, 0x02, 0x02, 2, .rw, .rw, .rw, 0, 0, 4095⟩,
  ⟨0x6021, 0x03, 0x03, 8, .ro, .ro, .ro, 0, 0, 2 ^ 64 - 1⟩,
  ⟨0x6021, 0x04, 0x04, 2, .ro, .ro, .ro, 0, 0, 65535⟩,
  ⟨0x6030, 0x01, 0x40, 4, .ro, .rwj, .ro, 0x00000000, 0, 4294967295⟩,
  ⟨0x6040, 0x01, 0x01, 4, .ro, .ro, .ro, 0, 0, 4294967295⟩,
  ⟨0x6040, 0x02, 0x02, 4, .con, .con, .con, 262144, 0, 4294967295⟩,
  ⟨0x6050, 0x01, 0x01, 8, .ro, .ro, .ro, 0, 0, 2 ^ 64 - 1⟩,
  ⟨0x6050, 0x02, 0x02, 8, .ro, .ro, .ro, 0, 0, 2 ^ 64 - 1⟩,
  ⟨0x6050, 0x03, 0x03, 8, .ro, .ro, .ro, 0, 0, 2 ^ 64 - 1⟩,
  ⟨0x6050, 0x04, 0x04, 4, .ro, .ro, .ro, 0, 0, 4294967295⟩,
  ⟨0x6050, 0x05, 0x05, 8, .ro, .ro, .ro, 0, 0, 2 ^ 64 - 1⟩,
  ⟨0x6050, 0x06, 0x06, 8, .ro, .ro, .ro, 0, 0, 2 ^ 64 - 1⟩,
  ⟨0x6050, 0x07, 0x07, 4, .ro, .ro, .ro, 0, 0, 4294967295⟩,
  ⟨0x6050, 0x08, 0x08, 8, .ro, .ro, .ro, 0, 0, 2 ^ 64 - 1⟩,
  ⟨0x6050, 0x09, 0x09, 8, .ro, .ro, .ro, 0, 0, 2 ^ 64 - 1⟩,
  ⟨0x6050, 0x0A, 0x0A, 4, .ro, .ro, .ro, 0, 0, 4294967295⟩]

/-- Objects of the range 0x2000. -/
def objs2a : List ObjRow := [
  ⟨0x2000, 0x01, 0x01, 1, .wo, .no, .no, 0x00, 1, 3⟩,
  ⟨0x2000, 0x02, 0x02, 1, .no, .wo, .no, 0x00, 1, 5⟩,
  ⟨0x2001, 0x01, 0x01, 1, .ro, .ro, .ro, 0x00, 0, 255⟩,
  ⟨0x2001, 0x02, 0x02, 1, .ro, .ro, .ro, 0x00, 0, 255⟩,
  ⟨0x2001, 0x03, 0x03, 4, .ro, .ro, .ro, 0x00000000, 0, 4294967295⟩,
  ⟨0x2010, 0x01, 0x01, 4, .no, .ro, .no, 0, 0, 4294967295⟩,
  ⟨0x2010, 0x02, 0x02, 8, .no, .ro, .no, 0, 0, 2 ^ 64 - 1⟩,
  ⟨0x2010, 0x03, 0x03, 48, .no, .ro, .no, 0, 0, 2 ^ 384 - 1⟩,
  ⟨0x2010, 0x04, 0x04, 8, .no, .ro, .no, 0, 0, 2 ^ 64 - 1⟩,
  ⟨0x2010, 0x05, 0x05, 1, .ro, .ro, .ro, 0, 0, 1⟩,
  ⟨0x2011, 0x01, 0x01, 4, .no, .wo, .no, 0, 1, 65535⟩,
  ⟨0x2011, 0x02, 0x02, 4, .ro, .ro, .ro, 0, 0, 4294967295⟩,
  ⟨0x2012, 0x01, 0x01, 8, .ro, .ro, .ro, 0, 0, 2 ^ 64 - 1⟩,
  ⟨0x2012, 0x02, 0x02, 8, .ro, .ro, .ro, 0, 0, 2 ^ 64 - 1⟩,
  ⟨0x2012, 0x03, 0x03, 8, .no, .ro, .no, 0, 0, 2 ^ 64 - 1⟩,
  ⟨0x2012, 0x04, 0x04, 4, .ro, .ro, .ro, 0, 0, 4294967295⟩,
  ⟨0x2012, 0x05, 0x05, 8, .ro, .ro, .ro, 0, 0, 2 ^ 64 - 1⟩,
  ⟨0x2012, 0x06, 0x06, 4, .no, .ro, .no, 0, 0, 4294967295⟩,
  ⟨0x2013, 0x01, 0x01, 8, .no, .ro, .no, 0, 0, 2 ^ 64 - 1⟩,
  ⟨0x2013, 0x02, 0x02, 8, .no, .ro, .no, 0, 0, 2 ^ 64 - 1⟩,
  ⟨0x2020, 0x01, 0x01, 16, .no, .wo, .no, 0, 0, 2 ^ 128 - 1⟩,
  ⟨0x2020, 0x02, 0x02, 8, .no, .ro, .no, 0, 0, 2 ^ 64 - 1⟩,
  ⟨0x2020, 0x03, 0x03, 8, .no, .ro, .no, 0, 0, 2 ^ 64 - 1⟩,
  ⟨0x2020, 0x04, 0x04, 4, .no, .ro, .no, 0, 0, 4294967295⟩]

/-- Objects of the range 0xC000. -/
def objsCa : List ObjRow := [
  ⟨0xC000, 0x01, 0x01, 8, .no, .ro, .no, 0, 0, 2 ^ 64 - 1⟩,
  ⟨0xC000, 0x02, 0x02, 4, .no, .ro, .no, 0, 0, 4294967295⟩,
  ⟨0xC000, 0x03, 0x03, 1, .no, .ro, .no, 0x00, 0, 255⟩,
  ⟨0xC001, 0x01, 0x40, 16, .no, .ro, .no, 0, 0, 2 ^ 128 - 1⟩,
  ⟨0xC002, 0x01, 0x01, 8, .no, .ro, .no, 0, 0, 2 ^ 64 - 1⟩,
  ⟨0xC002, 0x02, 0x02, 4, .no, .ro, .no, 0, 0, 4294967295⟩,
  ⟨0xC002, 0x03, 0x03, 4, .no, .ro, .no, 0, 0, 4294967295⟩,
  ⟨0xC002, 0x04, 0x04, 4, .no, .ro, .no, 0, 0, 4294967295⟩,
  ⟨0xC010, 0x01, 0x01, 8, .no, .ro, .no, 0, 0, 2 ^ 64 - 1⟩,
  ⟨0xC010, 0x02, 0x02, 8, .no, .ro, .no, 0, 0, 2 ^ 64 - 1⟩,
  ⟨0xC010, 0x03, 0x03, 8, .no, .ro, .no, 0, 0, 2 ^ 64 - 1⟩,
  ⟨0xC010, 0x04, 0x04, 8, .no, .ro, .no, 0, 0, 2 ^ 64 - 1⟩,
  ⟨0xC010, 0x05, 0x05, 4, .no, .ro, .no, 0, 0, 4294967295⟩,
  ⟨0xC010, 0x06, 0x06, 4, .no, .ro, .no, 0, 0, 4294967295⟩]

/-- Objects of the range 0x4000. -/
def objs4a : List ObjRow := [
  ⟨0x4800, 0x01, 0x01, 144, .no, .wo, .no, 0, 0, 2 ^ 1152 - 1⟩,
  ⟨0x4800, 0x02, 0x02, 8, .no, .ro, .no, 0, 0, 2 ^ 64 - 1⟩,
  ⟨0x4801, 0x01, 0x01, 8, .ro, .ro, .ro, 0, 0, 2 ^ 64 - 1⟩,
  ⟨0x4801, 0x02, 0x02, 8, .ro, .ro, .ro, 0, 0, 2 ^ 64 - 1⟩,
  ⟨0x4801, 0x03, 0x03, 8, .no, .ro, .no, 0, 0, 2 ^ 64 - 1⟩,
  ⟨0x4801, 0x04, 0x04, 8, .no, .ro, .no, 0, 0, 2 ^ 64 - 1⟩,
  ⟨0x4000, 0x01, 0x01, 8, .ro, .ro, .ro, 1546188226560, 0, 2 ^ 64 - 1⟩,
  ⟨0x4000, 0x02, 0x02, 8, .ro, .ro, .ro, 1541893259264, 0, 2 ^ 64 - 1⟩,
  ⟨0x4000, 0x03, 0x03, 1, .ro, .rwj, .ro, 0, 0, 71⟩,
  ⟨0x4000, 0x04, 0x04, 1, .ro, .ro, .ro, 0, 0, 1⟩,
  ⟨0x4001, 0x01, 0x14, 4, .ro, .ro, .ro, 0x00000000, 0, 4294967295⟩,
  ⟨0x4002, 0x01, 0x40, 4, .ro, .rwj, .ro, 0, 0, 4294967295⟩,
  ⟨0x4003, 0x01, 0x18, 1, .ro, .rwj, .ro, 0, 0, 14⟩,
  ⟨0x4004, 0x01, 0x40, 1, .ro, .rwj, .ro, 0, 0, 14⟩,
  ⟨0x4005, 0x01, 0x01, 1, .ro, .rwj, .ro, 0, 0, 14⟩,
  ⟨0x4010, 0x01, 0x01, 32, .wo, .no, .no, 0, 0, 2 ^ 256 - 1⟩,
  ⟨0x4010, 0x02, 0x02, 1, .ro, .no, .ro, 0x00, 0, 255⟩,
  ⟨0x4010, 0x03, 0x03, 8, .ro, .no, .ro, 0, 0, 2 ^ 64 - 1⟩,
  ⟨0x4010, 0x04, 0x04, 8, .ro, .no, .ro, 0, 0, 2 ^ 64 - 1⟩,
  ⟨0x4010, 0x05, 0x05, 4, .ro, .no, .ro, 0x00000000, 0, 4294967295⟩,
  ⟨0x4020, 0x01, 0x01, 8, .ro, .ro, .ro, 0, 0, 2 ^ 64 - 1⟩,
  ⟨0x4020, 0x02, 0x02, 4, .ro, .ro, .ro, 0, 0, 4294967295⟩,
  ⟨0x4020, 0x03, 0x03, 8, .ro, .ro, .ro, 0, 0, 2 ^ 64 - 1⟩,
  ⟨0x4020, 0x04, 0x04, 8, .ro, .ro, .ro, 0, 0, 2 ^ 64 - 1⟩,
  ⟨0x4020, 0x05, 0x05, 8, .ro, .ro, .ro, 0, 0, 2 ^ 64 - 1⟩]

/-- Objects of the range 0x4000. -/
def objs4b : List ObjRow := [
  ⟨0x4020, 0x06, 0x06, 4, .ro, .ro, .ro, 0, 0, 4294967295⟩,
  ⟨0x4021, 0x01, 0x04, 8, .ro, .ro, .ro, 0, 0, 2 ^ 64 - 1⟩,
  ⟨0x4030, 0x01, 0x01, 2, .rw, .no, .ro, 24, 6, 168⟩,
  ⟨0x4030, 0x02, 0x02, 4, .ro, .ro, .ro, 0, 0, 4294967295⟩]

/-- Objects of the range 0x5000. -/
def objs5a : List ObjRow := [
  ⟨0x5000, 0x01, 0x01, 2, .ro, .ro, .ro, 0, 0, 65535⟩,
  ⟨0x5000, 0x02, 0x02, 2, .ro, .ro, .ro, 0, 0, 65535⟩,
  ⟨0x5000, 0x03, 0x03, 2, .ro, .ro, .ro, 0, 0, 65535⟩,
  ⟨0x5000, 0x04, 0x04, 4, .ro, .ro, .ro, 0x00000000, 0, 4294967295⟩,
  ⟨0x5000, 0x05, 0x05, 1, .ro, .ro, .ro, 0x00, 0, 255⟩,
  ⟨0x5001, 0x01, 0x20, 4, .ro, .ro, .ro, 0x003FF000, 0, 4294967295⟩,
  ⟨0x5002, 0x01, 0x20, 1, .rwj, .ro, .ro, 2, 1, 2⟩,
  ⟨0x5003, 0x01, 0x20, 2, .ro, .ro, .ro, 0x0000, 0, 65535⟩,
  ⟨0x5004, 0x01, 0x20, 2, .ro, .ro, .ro, 0x0000, 0, 65535⟩,
  ⟨0x5010, 0x01, 0x80, 4, .ro, .ro, .ro, 0x00000000, 0, 4294967295⟩,
  ⟨0x5011, 0x01, 0x10, 4, .ro, .ro, .ro, 0x00000000, 0, 4294967295⟩,
  ⟨0x5020, 0x01, 0x01, 4, .ro, .ro, .ro, 0, 0, 4294967295⟩,
  ⟨0x5020, 0x02, 0x02, 4, .ro, .ro, .ro, 0, 0, 4294967295⟩,
  ⟨0x5020, 0x03, 0x03, 4, .ro, .ro, .ro, 0, 0, 4294967295⟩,
  ⟨0x5020, 0x04, 0x04, 4, .ro, .ro, .ro, 0, 0, 4294967295⟩,
  ⟨0x5020, 0x05, 0x05, 4, .ro, .ro, .ro, 0, 0, 4294967295⟩,
  ⟨0x5020, 0x06, 0x06, 4, .ro, .ro, .ro, 0, 0, 4294967295⟩,
  ⟨0x5020, 0x07, 0x07, 4, .ro, .ro, .ro, 0, 0, 4294967295⟩,
  ⟨0x5020, 0x08, 0x08, 8, .ro, .ro, .ro, 0, 0, 2 ^ 64 - 1⟩,
  ⟨0x5020, 0x09, 0x09, 8, .ro, .ro, .ro, 0, 0, 2 ^ 64 - 1⟩,
  ⟨0x5020, 0x0A, 0x0A, 4, .ro, .ro, .ro, 0, 0, 4294967295⟩,
  ⟨0x5030, 0x01, 0x04, 1, .ro, .ro, .ro, 0, 0, 255⟩,
  ⟨0x5040, 0x01, 0x01, 1, .wo, .no, .no, 0, 0, 31⟩]

/-- Objects of the range 0x7000. -/
def objs7a : List ObjRow := [
  ⟨0x7000, 0x01, 0x01, 10, .no, .wo, .no, 0, 0, 2 ^ 80 - 1⟩,
  ⟨0x7000, 0x02, 0x02, 2, .rw, .rw, .rw, 0, 0, 65535⟩,
  ⟨0x7000, 0x03, 0x03, 8, .ro, .ro, .ro, 0, 0, 2 ^ 64 - 1⟩,
  ⟨0x7000, 0x04, 0x04, 4, .ro, .ro, .ro, 0, 0, 4294967295⟩,
  ⟨0x7001, 0x01, 0x01, 10, .no, .wo, .no, 0, 0, 2 ^ 80 - 1⟩,
  ⟨0x7001, 0x02, 0x02, 2, .rw, .rw, .rw, 0, 0, 4095⟩,
  ⟨0x7001, 0x03, 0x03, 8, .ro, .ro, .ro, 0, 0, 2 ^ 64 - 1⟩,
  ⟨0x7001, 0x04, 0x04, 4, .ro, .ro, .ro, 0, 0, 4294967295⟩,
  ⟨0x7010, 0x01, 0x01, 4, .ro, .rwj, .ro, 0, 0, 65536⟩,
  ⟨0x7010, 0x02, 0x02, 4, .ro, .ro, .ro, 72, 0, 4294967295⟩,
  ⟨0x7020, 0x01, 0x01, 8, .ro, .ro, .ro, 0, 0, 2 ^ 64 - 1⟩,
  ⟨0x7020, 0x02, 0x02, 8, .ro, .ro, .ro, 0, 0, 2 ^ 64 - 1⟩,
  ⟨0x7020, 0x03, 0x03, 4, .ro, .ro, .ro, 0, 0, 4294967295⟩,
  ⟨0x7020, 0x04, 0x04, 8, .ro, .ro, .ro, 0, 0, 2 ^ 64 - 1⟩,
  ⟨0x7020, 0x05, 0x05, 8, .ro, .ro, .ro, 0, 0, 2 ^ 64 - 1⟩,
  ⟨0x7020, 0x06, 0x06, 8, .ro, .ro, .ro, 0, 0, 2 ^ 64 - 1⟩,
  ⟨0x7020, 0x07, 0x07, 4, .ro, .ro, .ro, 0, 0, 4294967295⟩,
  ⟨0x7020, 0x08, 0x08, 4, .ro, .ro, .ro, 0, 0, 4294967295⟩,
  ⟨0x7020, 0x09, 0x09, 8, .no, .ro, .no, 0, 0, 2 ^ 64 - 1⟩]

/-- Objects of the range 0x8000. -/
def objs8a : List ObjRow := [
  ⟨0x8000, 0x01, 0x01, 1, .ro, .rwj, .ro, 8, 1, 64⟩,
  ⟨0x8000, 0x02, 0x02, 1, .ro, .rwj, .ro, 2, 1, 4⟩,
  ⟨0x8000, 0x03, 0x03, 8, .ro, .rwj, .ro, 0, 0, 2 ^ 64 - 1⟩,
  ⟨0x8000, 0x04, 0x04, 8, .ro, .rwj, .ro, 0, 0, 2 ^ 64 - 1⟩,
  ⟨0x8000, 0x05, 0x05, 8, .ro, .ro, .ro, 0, 0, 2 ^ 64 - 1⟩,
  ⟨0x8000, 0x06, 0x06, 4, .ro, .ro, .ro, 0, 0, 4294967295⟩,
  ⟨0x8000, 0x07, 0x07, 8, .ro, .ro, .ro, 0xFFFFFFFFFFFFFFFF, 0, 2 ^ 64 - 1⟩,
  ⟨0x8000, 0x08, 0x08, 4, .no, .rw, .no, 0x3A800000, 0, 4294967295⟩,
  ⟨0x8001, 0x01, 0x40, 2, .ro, .rwj, .ro, 0xFFFF, 0, 65535⟩,
  ⟨0x8002, 0x01, 0x40, 16, .no, .rwj, .no, 0, 0, 2 ^ 128 - 1⟩,
  ⟨0x8003, 0x01, 0x01, 1, .no, .wo, .no, 0x00, 1, 1⟩,
  ⟨0x8003, 0x02, 0x02, 8, .no, .wo, .no, 0, 0, 2 ^ 64 - 1⟩,
  ⟨0x8003, 0x03, 0x03, 16, .no, .wo, .no, 0, 0, 2 ^ 128 - 1⟩,
  ⟨0x8003, 0x04, 0x04, 1, .ro, .ro, .ro, 0x00, 0, 255⟩,
  ⟨0x8010, 0x01, 0x01, 8, .no, .rw, .no, 0xFFFFFFFFFFFFFFFF, 0, 2 ^ 64 - 1⟩,
  ⟨0x8010, 0x02, 0x02, 1, .no, .rw, .no, 0x01, 1, 2⟩,
  ⟨0x8010, 0x03, 0x03, 8, .ro, .ro, .ro, 0xFFFFFFFFFFFFFFFF, 0, 2 ^ 64 - 1⟩,
  ⟨0x8020, 0x01, 0x01, 1, .ro, .rwj, .ro, 0, 0, 1⟩,
  ⟨0x8020, 0x02, 0x02, 1, .ro, .rwj, .ro, 0, 0, 4⟩,
  ⟨0x8020, 0x03, 0x03, 4, .no, .ro, .no, 0, 0, 4294967295⟩,
  ⟨0x8020, 0x04, 0x04, 4, .no, .ro, .no, 0, 0, 4294967295⟩,
  ⟨0x8030, 0x01, 0x01, 8, .ro, .ro, .ro, 0, 0, 2 ^ 64 - 1⟩,
  ⟨0x8030, 0x02, 0x02, 8, .ro, .ro, .ro, 0, 0, 2 ^ 64 - 1⟩,
  ⟨0x8030, 0x03, 0x03, 8, .ro, .ro, .ro, 0, 0, 2 ^ 64 - 1⟩,
  ⟨0x8030, 0x04, 0x04, 4, .ro, .ro, .ro, 0, 0, 4294967295⟩]

/-- Objects of the range 0x8000. -/
def objs8b : List ObjRow := [
  ⟨0x8030, 0x05, 0x05, 4, .ro, .ro, .ro, 0, 0, 4294967295⟩,
  ⟨0x8030, 0x06, 0x06, 4, .ro, .ro, .ro, 0, 0, 4294967295⟩,
  ⟨0x8030, 0x07, 0x07, 4, .ro, .ro, .ro, 0, 0, 4294967295⟩,
  ⟨0x8030, 0x08, 0x08, 4, .ro, .ro, .ro, 0, 0, 4294967295⟩,
  ⟨0x8030, 0x09, 0x09, 4, .ro, .ro, .ro, 0, 0, 4294967295⟩,
  ⟨0x8030, 0x0A, 0x0A, 4, .no, .ro, .no, 0, 0, 4294967295⟩]

/-- Objects of the range 0x1000. -/
def objs1a : List ObjRow := [
  ⟨0x1000, 0x01, 0x01, 11, .con, .con, .con, 0x34432D32315A4B2D4C4254, 0, 2 ^ 88 - 1⟩,
  ⟨0x1000, 0x02, 0x02, 2, .con, .con, .con, 0x3142, 0, 65535⟩,
  ⟨0x1000, 0x03, 0x03, 4, .ro, .ro, .ro, 0, 0, 4294967295⟩,
  ⟨0x1000, 0x04, 0x04, 1, .ro, .ro, .ro, 0, 0, 255⟩,
  ⟨0x1100, 0x01, 0x01, 1, .ro, .ro, .ro, 1, 0, 255⟩,
  ⟨0x1100, 0x02, 0x02, 1, .ro, .ro, .ro, 0, 0, 255⟩,
  ⟨0x1100, 0x03, 0x03, 1, .ro, .ro, .ro, 0, 0, 255⟩,
  ⟨0x1100, 0x04, 0x04, 1, .con, .con, .con, 3, 0, 255⟩,
  ⟨0x1100, 0x05, 0x05, 1, .ro, .ro, .ro, 1, 0, 255⟩,
  ⟨0x1100, 0x06, 0x06, 1, .ro, .ro, .ro, 1, 0, 255⟩,
  ⟨0x1100, 0x07, 0x07, 4, .ro, .ro, .ro, 0, 0, 4294967295⟩,
  ⟨0x1100, 0x08, 0x08, 1, .ro, .ro, .ro, 0x00, 0, 255⟩,
  ⟨0x1101, 0x01, 0x01, 8, .ro, .ro, .ro, 0, 0, 2 ^ 64 - 1⟩,
  ⟨0x1101, 0x02, 0x02, 4, .ro, .ro, .ro, 0, 0, 4294967295⟩,
  ⟨0x1101, 0x03, 0x03, 4, .ro, .ro, .ro, 0, 0, 4294967295⟩,
  ⟨0x1101, 0x04, 0x04, 4, .ro, .ro, .ro, 0, 0, 4294967295⟩,
  ⟨0x1101, 0x05, 0x05, 4, .ro, .ro, .ro, 0, 0, 4294967295⟩,
  ⟨0x1101, 0x06, 0x06, 4, .ro, .ro, .ro, 0, 0, 4294967295⟩,
  ⟨0x1200, 0x01, 0x01, 24, .no, .wo, .no, 0, 0, 2 ^ 192 - 1⟩,
  ⟨0x1200, 0x02, 0x02, 1, .no, .wo, .no, 0, 0, 7⟩,
  ⟨0x1201, 0x01, 0x08, 8, .no, .ro, .no, 0, 0, 2 ^ 64 - 1⟩,
  ⟨0x1210, 0x01, 0x80, 16, .no, .rwj, .no, 0, 0, 2 ^ 128 - 1⟩,
  ⟨0x1300, 0x01, 0x01, 4, .ro, .no, .ro, 0, 0, 4294967295⟩,
  ⟨0x1300, 0x02, 0x02, 4, .no, .ro, .no, 0, 0, 4294967295⟩,
  ⟨0x1310, 0x01, 0x40, 72, .ro, .no, .ro, 0, 0, 2 ^ 576 - 1⟩]

/-- Objects of the range 0x1000. -/
def objs1b : List ObjRow := [
  ⟨0x1311, 0x01, 0x40, 72, .no, .ro, .no, 0, 0, 2 ^ 576 - 1⟩]

/-- Objects of the range 0x9000. -/
def objs9a : List ObjRow := [
  ⟨0x9000, 0x01, 0x01, 32, .con, .con, .con, 0, 0, 2 ^ 256 - 1⟩,
  ⟨0x9000, 0x02, 0x02, 1952, .con, .con, .con, 0, 0, 2 ^ 15616 - 1⟩,
  ⟨0x9000, 0x03, 0x03, 32, .con, .con, .con, 0, 0, 2 ^ 256 - 1⟩,
  ⟨0x9000, 0x04, 0x04, 1, .ro, .ro, .ro, 0x00, 0, 255⟩,
  ⟨0x9001, 0x01, 0x07, 4, .ro, .ro, .ro, 0x00000000, 0, 4294967295⟩,
  ⟨0x9002, 0x01, 0x07, 32, .ro, .ro, .ro, 0, 0, 2 ^ 256 - 1⟩,
  ⟨0x9003, 0x01, 0x08, 32, .rw, .no, .ro, 0, 0, 2 ^ 256 - 1⟩,
  ⟨0x9004, 0x01, 0x08, 32, .rw, .no, .ro, 0, 0, 2 ^ 256 - 1⟩,
  ⟨0x9010, 0x01, 0x01, 0, .wo, .no, .no, 0, 0, 0⟩,
  ⟨0x9010, 0x02, 0x02, 1, .ro, .ro, .ro, 0x00, 0, 255⟩,
  ⟨0x9010, 0x03, 0x03, 4, .ro, .ro, .ro, 0x00000000, 0, 4294967295⟩,
  ⟨0x9020, 0x01, 0x01, 32, .wo, .wo, .wo, 0, 0, 2 ^ 256 - 1⟩,
  ⟨0x9020, 0x02, 0x02, 3885, .ro, .ro, .ro, 0, 0, 2 ^ 31080 - 1⟩,
  ⟨0x9030, 0x01, 0x10, 16, .ro, .ro, .ro, 0, 0, 2 ^ 128 - 1⟩,
  ⟨0x9040, 0x01, 0x01, 4, .ro, .ro, .ro, 0, 0, 4294967295⟩]

/-- Objects of the range 0xA000. -/
def objsAa : List ObjRow := [
  ⟨0xA000, 0x01, 0x01, 1, .rw, .no, .ro, 0x04, 0, 4⟩,
  ⟨0xA000, 0x02, 0x02, 1, .ro, .ro, .ro, 0x04, 0, 255⟩,
  ⟨0xA000, 0x03, 0x03, 1, .ro, .ro, .ro, 0, 0, 1⟩,
  ⟨0xA000, 0x04, 0x04, 4, .ro, .ro, .ro, 0, 0, 4294967295⟩,
  ⟨0xA001, 0x01, 0x18, 1, .rw, .no, .ro, 0x00, 0, 255⟩,
  ⟨0xA010, 0x01, 0x01, 8, .ro, .ro, .ro, 0, 0, 2 ^ 64 - 1⟩,
  ⟨0xA010, 0x02, 0x02, 1, .rw, .no, .ro, 0x00, 0, 1⟩,
  ⟨0xA010, 0x03, 0x03, 1, .ro, .ro, .ro, 0x00, 0, 255⟩,
  ⟨0xA010, 0x04, 0x04, 4, .ro, .ro, .ro, 0, 0, 4294967295⟩,
  ⟨0xA020, 0x01, 0x01, 4, .ro, .ro, .ro, 0x080FA000, 0, 4294967295⟩,
  ⟨0xA020, 0x02, 0x05, 4, .rwj, .ro, .ro, 0x08060000, 0, 4294967295⟩,
  ⟨0xA020, 0x06, 0x09, 4, .rwj, .ro, .ro, 0x42134000, 0, 4294967295⟩,
  ⟨0xA020, 0x0A, 0x0D, 4, .rwj, .ro, .ro, 0x08140000, 0, 4294967295⟩,
  ⟨0xA030, 0x01, 0x01, 2, .ro, .ro, .ro, 0, 0, 65535⟩,
  ⟨0xA040, 0x01, 0x01, 4, .ro, .ro, .ro, 0, 0, 4294967295⟩,
  ⟨0xA040, 0x02, 0x02, 4, .ro, .ro, .ro, 0, 0, 4294967295⟩,
  ⟨0xA040, 0x03, 0x03, 1, .ro, .ro, .ro, 0, 0, 255⟩,
  ⟨0xA040, 0x04, 0x04, 4, .ro, .ro, .ro, 0, 0, 4294967295⟩]

/-- Objects of the range 0xB000. -/
def objsBa : List ObjRow := [
  ⟨0xB000, 0x01, 0x01, 1, .rw, .ro, .ro, 0, 0, 1⟩,
  ⟨0xB000, 0x02, 0x02, 4, .rw, .ro, .ro, 3600, 60, 86400⟩,
  ⟨0xB000, 0x03, 0x03, 2, .rw, .ro, .ro, 168, 24, 8760⟩,
  ⟨0xB001, 0x01, 0x18, 4, .ro, .ro, .ro, 0x00000000, 0, 4294967295⟩,
  ⟨0xB002, 0x01, 0x01, 8, .ro, .ro, .ro, 0, 0, 2 ^ 64 - 1⟩,
  ⟨0xB002, 0x02, 0x02, 4, .ro, .ro, .ro, 0, 0, 4294967295⟩,
  ⟨0xB002, 0x03, 0x03, 4, .ro, .ro, .ro, 0, 0, 4294967295⟩,
  ⟨0xB010, 0x01, 0x01, 4, .wo, .no, .no, 0x00000000, 0, 4294967295⟩,
  ⟨0xB010, 0x02, 0x02, 1, .ro, .no, .ro, 0x00, 0, 255⟩,
  ⟨0xB020, 0x01, 0x01, 1, .rw, .no, .ro, 0, 0, 1⟩,
  ⟨0xB020, 0x02, 0x02, 1, .con, .con, .con, 40, 0, 255⟩]

/-- Objects of the range 0xF000. -/
def objsFa : List ObjRow := [
  ⟨0xF000, 0x01, 0x01, 8, .ro, .ro, .ro, 0, 0, 2 ^ 64 - 1⟩,
  ⟨0xF000, 0x02, 0x02, 8, .ro, .ro, .ro, 0, 0, 2 ^ 64 - 1⟩,
  ⟨0xF000, 0x03, 0x03, 48, .ro, .ro, .ro, 0, 0, 2 ^ 384 - 1⟩,
  ⟨0xF000, 0x04, 0x04, 8, .ro, .ro, .ro, 0, 0, 2 ^ 64 - 1⟩,
  ⟨0xF001, 0x01, 0x01, 8, .rw, .rw, .rw, 0, 0, 2 ^ 64 - 1⟩,
  ⟨0xF001, 0x02, 0x02, 160, .ro, .ro, .ro, 0, 0, 2 ^ 1280 - 1⟩,
  ⟨0xF002, 0x01, 0x40, 40, .ro, .ro, .ro, 0, 0, 2 ^ 320 - 1⟩,
  ⟨0xF003, 0x01, 0x01, 4, .rw, .no, .ro, 1024, 1, 65536⟩,
  ⟨0xF003, 0x02, 0x02, 0, .ro, .ro, .ro, 0, 0, 0⟩]

/-- Every object of subindex 01 and above (R419). -/
def objRows : List ObjRow :=
  objs3a ++ objs3b ++ objs6a ++ objs6b ++ objs2a ++ objsCa ++ objs4a ++ objs4b ++ objs5a ++ objs7a ++ objs8a ++ objs8b ++ objs1a ++ objs1b ++ objs9a ++ objsAa ++ objsBa ++ objsFa

/-- The row of an object. -/
def rowOf (idx sub : Nat) : Option ObjRow :=
  objRows.find? (fun r => r.idx == idx && r.lo ≤ sub && sub ≤ r.hi)

/-- The highest subindex of an index (R541); none where the index holds no object. -/
def topSub (idx : Nat) : Option Nat :=
  objRows.foldl (fun m r => if r.idx == idx then some (max (m.getD 0) r.hi) else m) none

/-- The key of an object in the register file; a subindex is one byte. -/
def keyOf (idx sub : Nat) : Nat := idx * 256 + sub % 256

/-- The default twist of a plane (R289). -/
def twistDefault (plane : Nat) : Nat := (12 * (plane % 16) + (plane % 16) / 4) % 16

/-- The default assignment of port p for dimension count d (R289), in the layout of 0x6001. -/
def portDefault (d p : Nat) : Nat :=
  let planes := 32 / d
  if p < d * planes then
    (p / planes) * 2 ^ 29 + (p % planes) * 2 ^ 24 + twistDefault (p % planes) * 2 ^ 20
  else 7 * 2 ^ 29

/-- The default value of an object. -/
def dfltOf (idx sub : Nat) : Nat :=
  match idx with
  | 0x4002 =>
    match (sub - 1) % 16 with
    | 0 => 0xA8CC0400
    | 15 => 0x04040400
    | _ => 0x00040400
  | 0x6001 => portDefault 5 (sub - 1)
  | 0x1210 => if sub = 1 then 0x166C0000000 + 262144 * 2 ^ 64 else 0
  | 0xA020 =>
    if sub = 1 then 0x080FA000
    else if sub ≤ 5 then 0x08060000
    else if sub ≤ 9 then 0x42134000
    else 0x08140000
  | _ =>
    match rowOf idx sub with
    | some r => r.dflt
    | none => 0

/-- The size of an object in bytes. -/
def sizeOf_ (idx sub : Nat) : Nat :=
  match rowOf idx sub with
  | some r => r.size
  | none => if sub = 0 then 1 else 0

/-- The subsystem that owns an index (R420). -/
def subsystemOf (idx : Nat) : Nat :=
  if idx < 0x2000 then 0x00
  else if idx < 0x4000 then 0x10
  else if idx < 0x4800 then 0x20
  else if idx < 0x5000 then 0x70
  else if idx < 0x6000 then 0x30
  else if idx < 0x7000 then 0x40
  else if idx < 0x8000 then 0x50
  else if idx < 0x9000 then 0x60
  else if idx < 0xA000 then 0x80
  else if idx < 0xB000 then 0x90
  else if idx < 0xC000 then 0xA0
  else if idx < 0xD000 then 0x10
  else 0x80

/-- An abort code from its class, subsystem and detail (R12). -/
def abort (cls ss detail : Nat) : Nat := cls * 2 ^ 24 + ss * 2 ^ 16 + detail

/-- Objects whose value each session holds for itself (R421). -/
def sessionScoped (idx sub : Nat) : Bool :=
  [0x6010 * 256 + 2, 0x6021 * 256 + 2, 0x7000 * 256 + 2, 0x7001 * 256 + 2, 0x9020 * 256 + 1,
    0x9020 * 256 + 2, 0xF001 * 256 + 1].contains (keyOf idx sub)

/-- Register-file objects held in on-module flash (R422). -/
def inFlash (idx sub : Nat) : Bool :=
  idx == 0x6000 || idx == 0x6001 || idx == 0x3001 || (idx == 0x4030 && sub == 1)
    || idx == 0x9003 || idx == 0x9004 || (idx == 0xA010 && sub == 2) || idx == 0xB000
    || idx == 0xF000 || idx == 0xF002 || (idx == 0xF003 && sub == 1)

/-- Objects that leave returns to their defaults (R423): TENANT writes them and OPERATOR does not. -/
def tenantOwned (idx sub : Nat) : Bool :=
  match rowOf idx sub with
  | none => false
  | some r =>
    (r.ten == .rw || r.ten == .wo || r.ten == .rwj) && !(r.op == .rw || r.op == .wo || r.op == .rwj)

/-- The blocks whose common gating gates an object (R424): the object reads zeros while all of them are
gated. Empty: the object is never gated. Port p, lasers 32n to 32n+31 and spares 4n to 4n+3 belong to
PXn. Subindex 00 of an index that R424 lists whole is never gated: the manual does not say (notes/assumptions/150.md,
DESIGN CHOICE). -/
def blocksOf (idx sub : Nat) : List Nat :=
  let all := fun (a n : Nat) => (List.range n).map (· + a)
  if sub = 0 then [] else
  match idx with
  | 0x6E03 => [sub - 1]
  | 0x2013 | 0x3020 | 0x3021 | 0x3022 | 0xC010 => all 0 12
  | 0x4001 => [12 + (sub - 1) / 5]
  | 0x4021 => [12 + (sub - 1)]
  | 0x4010 | 0x4020 => all 12 4
  | 0x5001 | 0x5002 | 0x5003 | 0x5004 => [16 + (sub - 1) / 8]
  | 0x5010 => [16 + (sub - 1) / 32]
  | 0x5011 => [16 + (sub - 1) / 4]
  | 0x5030 => [16 + (sub - 1)]
  | 0x5020 | 0x6050 => all 16 4
  | 0x5040 => all 16 4
  | 0x4800 | 0x4801 | 0x7020 => all 20 4
  | _ => []

end Sys2Proof.Machine
end

