-- ==== Sys2Proof/Machine/Cipher.lean ====
section
/-! DEFINITION. AES-256 encryption of one block (FIPS 197), which the generator of R135 names. The
S-box is computed: the inverse in GF(2^8), then the affine map.

Choices beyond the manual's plain words (notes/assumptions): PRESUMED 133. -/

namespace Sys2Proof.Machine

/-- Multiplication by x in GF(2^8) modulo x^8 + x^4 + x^3 + x + 1. -/
def xtime (b : Byte) : Byte := if b.getLsbD 7 then (b <<< 1) ^^^ 0x1B else b <<< 1

/-- Multiplication in GF(2^8), over the low n bits of the second factor. -/
def gfMulBits (a b : Byte) : Nat → Byte
  | 0 => 0
  | n + 1 => gfMulBits a b n ^^^ (if b.getLsbD n then Nat.repeat xtime n a else 0)

/-- Multiplication in GF(2^8). -/
def gfMul (a b : Byte) : Byte := gfMulBits a b 8

/-- The inverse in GF(2^8), with 0 for 0: the 254th power. -/
def gfInv (a : Byte) : Byte :=
  let a2 := gfMul a a
  let a3 := gfMul a2 a
  let a6 := gfMul a3 a3
  let a12 := gfMul a6 a6
  let a15 := gfMul a12 a3
  let a30 := gfMul a15 a15
  let a60 := gfMul a30 a30
  let a120 := gfMul a60 a60
  let a126 := gfMul a120 a6
  let a127 := gfMul a126 a
  gfMul a127 a127

/-- The S-box. -/
def sbox (a : Byte) : Byte :=
  let b := gfInv a
  b ^^^ b.rotateLeft 1 ^^^ b.rotateLeft 2 ^^^ b.rotateLeft 3 ^^^ b.rotateLeft 4 ^^^ 0x63

/-- Byte i of a byte string. -/
def byteIx (b : Bytes) (i : Nat) : Byte := b.getD i 0

/-- Bytewise exclusive or. -/
def xorBytes (a b : Bytes) : Bytes := List.zipWith (· ^^^ ·) a b

/-- The 32 key bytes extended by one word after another; i counts words from 8. -/
def expandKey : Nat → Nat → Bytes → Bytes
  | 0, _, w => w
  | n + 1, i, w =>
    let last := slice w (4 * (i - 1)) 4
    let t :=
      if i % 8 = 0 then
        let r := (last.drop 1 ++ last.take 1).map sbox
        xorBytes r ([Nat.repeat xtime (i / 8 - 1) 1] ++ zeros 3)
      else if i % 8 = 4 then last.map sbox
      else last
    expandKey n (i + 1) (w ++ xorBytes (slice w (4 * (i - 8)) 4) t)

/-- ShiftRows of a state in column order. -/
def shiftRows (b : Bytes) : Bytes := (List.range 16).map (fun i => byteIx b ((i + 4 * (i % 4)) % 16))

/-- MixColumns of a state. -/
def mixColumns (b : Bytes) : Bytes :=
  (List.range 16).map (fun i =>
    let c := 4 * (i / 4)
    let at4 := fun j => byteIx b (c + (i + j) % 4)
    gfMul (at4 0) 2 ^^^ gfMul (at4 1) 3 ^^^ at4 2 ^^^ at4 3)

/-- Rounds r to 13 of AES-256, then the last. -/
def aesRounds (w : Bytes) : Nat → Nat → Bytes → Bytes
  | 0, r, b => xorBytes (shiftRows (b.map sbox)) (slice w (16 * r) 16)
  | n + 1, r, b => aesRounds w n (r + 1) (xorBytes (mixColumns (shiftRows (b.map sbox))) (slice w (16 * r) 16))

/-- AES-256 of a 16-byte block under a 32-byte key. -/
def aes256 (key block : Bytes) : Bytes :=
  let w := expandKey 52 8 key
  aesRounds w 13 1 (xorBytes block (w.take 16))

/-- Random word of the generator for an element (R135): key, generator step, stream, block, element
index, use. -/
def randomWord (key : Bytes) (step stream block elem use : Nat) : Nat :=
  let ctr := (step % 2 ^ 64) * 2 ^ 64 + stream * 2 ^ 48 + block * 2 ^ 35 + (elem / 8) * 2 ^ 25 + use * 2 ^ 23
  let out := aes256 key (leBytes 16 ctr).reverse
  beNat out / 2 ^ (16 * (elem % 8)) % 2 ^ 16

end Sys2Proof.Machine
end

