-- ==== Sys2Proof/Machine/Seal.lean ====
section
/-! DEFINITION. AES-256-GCM (NIST SP 800-38D) over the block cipher of Machine/Cipher.lean, HKDF (R450), the
parcel header and its protection (R303, R308), the ring's (R451), the praline word's (R345, R457).

Choices beyond the manual's plain words (notes/assumptions): DEDUCED 127, 134; PRESUMED 133. -/

namespace Sys2Proof.Machine

/-! ## GCM -/

/-- One step of the product in GF(2^128): x's bit i from the left, the sum so far, the shifted factor. -/
def ghashStep (x : W128) (zv : W128 × W128) (i : Nat) : W128 × W128 :=
  (if x.getLsbD (127 - i) then zv.1 ^^^ zv.2 else zv.1,
   if zv.2.getLsbD 0 then (zv.2 >>> 1) ^^^ (0xE1#128 <<< 120) else zv.2 >>> 1)

/-- The product in GF(2^128) as GCM numbers its bits. -/
def ghashMul (x y : W128) : W128 := ((List.range 128).foldl (ghashStep x) (0, y)).1

/-- A byte string filled with zeros to whole blocks. -/
def gcmPad (b : Bytes) : Bytes := b ++ zeros ((16 - b.length % 16) % 16)

/-- 16 bytes as a block. -/
def blockOf (b : Bytes) : W128 := BitVec.ofNat 128 (beNat b)

/-- A block as 16 bytes. -/
def octets16 (w : W128) : Bytes := (leBytes 16 w.toNat).reverse

/-- GHASH of whole blocks. -/
def ghash (h : W128) : Nat → W128 → Bytes → W128
  | 0, y, _ => y
  | n + 1, y, b => ghash h n (ghashMul (y ^^^ blockOf (b.take 16)) h) (b.drop 16)

/-- n bytes of the key stream of a nonce, from counter 2. -/
def gcmStream (key nonce : Bytes) (n : Nat) : Bytes :=
  ((List.range (ceilDiv n 16)).flatMap (fun i => aes256 key (nonce ++ (leBytes 4 (i + 2)).reverse))).take n

/-- The tag of a ciphertext with its additional authenticated data. -/
def gcmTag (key nonce aad ct : Bytes) : W128 :=
  let h := blockOf (aes256 key (zeros 16))
  let b := gcmPad aad ++ gcmPad ct ++ (leBytes 8 (8 * aad.length)).reverse ++ (leBytes 8 (8 * ct.length)).reverse
  ghash h (b.length / 16) 0 b ^^^ blockOf (aes256 key (nonce ++ [0, 0, 0, 1]))

/-- A plaintext encrypted, and its tag. -/
def gcmSeal (key nonce aad pt : Bytes) : Bytes × W128 :=
  let ct := xorBytes pt (gcmStream key nonce pt.length)
  (ct, gcmTag key nonce aad ct)

/-- A ciphertext decrypted, if its tag holds. -/
def gcmOpen (key nonce aad ct : Bytes) (tag : W128) : Option Bytes :=
  if gcmTag key nonce aad ct = tag then some (xorBytes ct (gcmStream key nonce ct.length)) else none

/-! ## Keys -/

/-- A 32-byte key as its bytes stand in the message that brings it (R448, R454). -/
def keyBytes (k : W256) : Bytes := leBytes 32 k.toNat

/-- The bytes of an ASCII string. -/
def ascii (s : String) : Bytes := s.toList.map (fun c => BitVec.ofNat 8 c.toNat)

/-- HKDF-SHA-384 to 32 bytes (R455, R457): salt, input, info. -/
def hkdf (salt input info : Bytes) : W256 := Config.hkdfExpand (Config.hkdfExtract salt input) info

/-- The praline key of a step (R457): the parcel key, the step's number, the reduce-phase replays so far. -/
def pralineKey (parcelKey : W256) (step replays : Nat) : W256 :=
  hkdf (zeros 48) (keyBytes parcelKey) (ascii "praline" ++ leBytes 8 (step / 64) ++ leBytes 1 replays)

/-- The key of a ring epoch (R450, R451): toward the module or from it. -/
def sessionKey (prk : BitVec 384) (fromModule : Bool) (epoch : Nat) : W256 :=
  Config.hkdfExpand prk (ascii (if fromModule then "ring m2n" else "ring n2m") ++ leBytes 4 epoch)

/-! ## Parcels (R303, R308) -/

/-- The header of a parcel with given hops, relayed flag and relay dimension. -/
def headerWith (p : Parcel) (hops : Nat) (relayed : Bool) (relayDim : Nat) : Nat :=
  p.dst * 2 ^ 236 + p.src * 2 ^ 216 + p.ctx * 2 ^ 198 + p.cls * 2 ^ 195 + p.kind * 2 ^ 191 + hops * 2 ^ 187
    + relayed.toNat * 2 ^ 186 + p.reserved.toNat / 64 * 2 ^ 185 + relayDim * 2 ^ 182 + p.len * 2 ^ 169
    + p.seq * 2 ^ 111 + p.reserved.toNat % 64 * 2 ^ 105 + p.kf.toNat

/-- A parcel as it travels (R303): header, payload, tag; bits [255:248] of the header come first. -/
def parcelBytes (p : Parcel) : Bytes :=
  (leBytes 32 (headerWith p p.hops p.relayed p.relayDim)).reverse ++ p.payload ++ octets16 p.tag

/-- The parcel that bytes hold, its header first (R303). -/
def parcelOf (b : Bytes) : Parcel :=
  let h := beNat (b.take 32)
  let n := bits 181 169 h
  { dst := bits 255 236 h, src := bits 235 216 h, ctx := bits 215 198 h, cls := bits 197 195 h
    kind := bits 194 191 h, hops := bits 190 187 h, relayed := bit 186 h, relayDim := bits 184 182 h
    len := n, seq := bits 168 111 h, kf := BitVec.ofNat 105 h, payload := slice b 32 n
    tag := blockOf (slice b (32 + n) 16)
    reserved := BitVec.ofNat 7 (bits 185 185 h * 64 + bits 110 105 h) }

/-- The nonce of a parcel (R308): source, context, sequence, most significant first. -/
def parcelNonce (p : Parcel) : Bytes := (leBytes 12 (p.src * 2 ^ 76 + p.ctx * 2 ^ 58 + p.seq)).reverse

/-- The additional authenticated data of a parcel (R308). -/
def parcelAad (p : Parcel) : Bytes := (leBytes 32 (headerWith p 0 false 0)).reverse

/-- A parcel with its payload in clear, protected under the parcel key (R308). -/
def sealParcel (key : W256) (p : Parcel) : Parcel :=
  let r := gcmSeal (keyBytes key) (parcelNonce p) (parcelAad p) p.payload
  { p with payload := r.1, tag := r.2 }

/-- A parcel with its payload in clear again, if its tag holds. -/
def openParcel (key : W256) (p : Parcel) : Option Parcel :=
  (gcmOpen (keyBytes key) (parcelNonce p) (parcelAad p) p.payload p.tag).map (fun b => { p with payload := b })

/-! ## Praline words (R344, R345) -/

/-- A word's fields. -/
def pralFields (w : W128) : PralFields :=
  let v := w.toNat
  ⟨bits 127 126 v, bits 125 124 v, bits 123 112 v, bits 111 109 v, bits 108 103 v, bits 102 87 v, bits 86 64 v,
    BitVec.ofNat 64 v⟩

/-- The word of fields. -/
def pralPack (f : PralFields) : W128 :=
  BitVec.ofNat 128 (f.op * 2 ^ 126 + f.seq * 2 ^ 124 + f.group * 2 ^ 112 + f.stage * 2 ^ 109 + f.round * 2 ^ 103
    + f.heard * 2 ^ 87 + f.tag * 2 ^ 64 + f.value.toNat)

/-- The counter block's mask over the value (R345). -/
def pralMask (key : W256) (src : Nat) (f : PralFields) : W64 :=
  let block := 0xF * 2 ^ 124 + src * 2 ^ 104 + f.group * 2 ^ 92 + f.stage * 2 ^ 89 + f.round * 2 ^ 83 + f.op * 2 ^ 81
    + f.seq * 2 ^ 79
  BitVec.ofNat 64 (beNat (aes256 (keyBytes key) (leBytes 16 block).reverse))

/-- The tag over a word whose value is encrypted (R345). -/
def pralTag (key : W256) (src : Nat) (f : PralFields) : Nat :=
  let v := (pralPack f).toNat
  let block := src * 2 ^ 108 + bits 127 87 v * 2 ^ 67 + bits 63 0 v * 2 ^ 3
  beNat (aes256 (keyBytes key) (leBytes 16 block).reverse) / 2 ^ 105

/-- A word with its value in clear, encrypted and authenticated. -/
def sealPral (key : W256) (src : Nat) (f : PralFields) : W128 :=
  let g := { f with tag := 0, value := f.value ^^^ pralMask key src f }
  pralPack { g with tag := pralTag key src g }

/-- A word's fields with its value in clear, if its tag holds. -/
def openPral (key : W256) (src : Nat) (w : W128) : Option PralFields :=
  let f := pralFields w
  if pralTag key src { f with tag := 0 } = f.tag then some { f with value := f.value ^^^ pralMask key src f } else none

/-! ## The ring (R387, R389, R402, R451) -/

/-- Bytes 1 to 95 of a frame mark (R387). -/
def markBody (m : FrameMark) : Bytes :=
  leBytes 4 m.frameCount ++ leBytes 8 m.nodeTime ++ leBytes 1 m.ringGen ++ leBytes 1 m.nextGen ++ leBytes 1 m.countdown
    ++ leBytes 1 m.hopIndex ++ leBytes 1 m.members
    ++ leBytes 9 (m.caps.zipIdx.foldl (fun n c => n + c.1 % 4 * 4 ^ c.2) 0) ++ leBytes 4 m.present.toNat ++ zeros 65

/-- The CRC of a frame mark. -/
def markCrc (m : FrameMark) : W32 := crc32c (markBody m)

/-- A block's head and data (R402). -/
def blockBody (b : Block) : Bytes :=
  leBytes 1 (if b.bulk then 1 else 0) ++ leBytes 1 b.chan ++ leBytes 2 b.msg ++ leBytes 4 b.num ++ b.data

/-- A block's CRC verifies (R402). -/
def blockGood (b : Block) : Bool := crc32c (blockBody b) == b.crc

/-- A block with its CRC. -/
def blockOfData (sess : Nat) (bulk : Bool) (chan msg num : Nat) (data : Bytes) : Block :=
  let b : Block := ⟨sess, bulk, chan, msg, num, data, 0⟩
  { b with crc := crc32c (blockBody b) }

/-- A data slot's CRC verifies (R389). -/
def slotGood (x : Slot) : Bool := (crc32c (x.bytes.take 95)).toNat == leNat (x.bytes.drop 95)

/-- The fields of a data slot (R389). -/
structure SlotFields where
  typ : Nat
  dst : Nat
  src : Nat
  sess : Nat
  first : Bool
  last : Bool
  msg : Nat
  num : Nat
  data : Bytes
deriving DecidableEq, Repr


/-- A data slot's header (R389). -/
def slotHeader (x : Slot) : Nat := leNat (x.bytes.take 7)

/-- What a data slot says; of its payload the valid bytes. -/
def slotFields (x : Slot) : SlotFields :=
  let h := slotHeader x
  { typ := bits 55 52 h, dst := bits 51 46 h, src := bits 45 40 h, sess := bits 39 37 h, first := bit 36 h
    last := bit 35 h, msg := bits 27 12 h, num := bits 11 0 h, data := (slice x.bytes 7 88).take (bits 34 28 h) }

/-- The nonce of a message of a session (R451): direction, session, frame count and index of its first slot. -/
def ringNonce (fromModule : Bool) (sess frame index : Nat) : Bytes :=
  (leBytes 12 (fromModule.toNat * 2 ^ 95 + sess * 2 ^ 92 + frame % 2 ^ 32 * 2 ^ 56 + index * 2 ^ 48)).reverse

/-- The additional authenticated data of a message: its first slot's header without first, last, length and
number (R451). -/
def ringAad (header : Nat) : Bytes :=
  leBytes 7 (bits 55 37 header * 2 ^ 37 + bits 27 12 header * 2 ^ 12)

end Sys2Proof.Machine
end

