-- ==== Sys2Proof/Machine/Sites.lean ====
section
/-! DEFINITION. Core sites (R15 to R19, R73, R104, R119, R124, R536): the site map, relief, and moving a
core's stores between sites.

Choices beyond the manual's plain words (notes/assumptions): DEDUCED 50, 114; DESIGN CHOICE 155. -/

namespace Sys2Proof.Machine

/-- The key of a physical site of a half. -/
def siteKey (half site : Nat) : Nat := half * 100 + site

/-- The physical site bound to a logical core by the site map (R16); the identity where nothing is
rebound (R17). -/
def boundSite (s : State) (half core : Nat) : Nat := (lookup (siteKey half core) s.siteMap).getD core

/-- What the site map holds for a relief core that R19 has taken or that failed (R538). -/
def siteGone : Nat := 255

/-- A relief core is still available. -/
def reliefLeft (s : State) (half r : Nat) : Bool := boundSite s half r != siteGone

/-- The highest-numbered relief core still available in a half (R19, R75). -/
def lastRelief (s : State) (half : Nat) : Option Nat := [99, 98, 97, 96].find? (reliefLeft s half)

/-- The test in progress in a half. -/
def halfTest (s : State) (half : Nat) : HalfTest := at_ {} half s.test.halves

/-- The test of a half replaced. -/
def withHalf (half : Nat) (t : HalfTest) (s : State) : State :=
  { s with test := { s.test with halves := set_ {} half t s.test.halves } }

/-- The site that runs a logical core's lists: the relief core's while that core is under test (R73). -/
def coreSite (s : State) (half core : Nat) : Nat :=
  let t := halfTest s half
  match t.core, t.relief with
  | some c, some r => boundSite s half (if c = core then r else core)
  | _, _ => boundSite s half core

/-- The site of a key. -/
def siteAt (s : State) (key : Nat) : Site := at_ {} key s.sites

/-- A site replaced. -/
def withSite (key : Nat) (x : Site) (s : State) : State :=
  { s with sites := set_ {} key x s.sites }

/-- The site that runs a core's lists. -/
def coreOf (s : State) (half core : Nat) : Site := siteAt s (siteKey half (coreSite s half core))

/-- The stores of a site copied to another (R536): tile store, accumulator file, S0 to S11. -/
def copyStores (src dst : Site) : Site :=
  { dst with undef := src.undef, tile := src.tile, tileBad := src.tileBad, acc := src.acc, accBad := src.accBad,
             scalars := src.scalars.filter (fun p => p.1 < 12) }

/-- A site's stores set to zeros. -/
def zeroSite (half site : Nat) (s : State) : State := withSite (siteKey half site) {} s

/-- The core of a half that was under test is back in its own place: its pending rebinding takes effect,
and a relief core's stores are copied to it and then zeroed. -/
def returnCore (half : Nat) (s : State) : State :=
  let t := halfTest s half
  let standIn := t.relief.map (boundSite s half)
  let s := { s with siteMap := t.rebind.foldl (fun m p => put (siteKey half p.1) p.2 m) s.siteMap }
  let s := match t.core, standIn with
    | some c, some k =>
      let home := boundSite s half c
      if home = k then s
      else zeroSite half k (withSite (siteKey half home)
        (copyStores (siteAt s (siteKey half k)) (siteAt s (siteKey half home))) s)
    | _, _ => s
  withHalf half { t with core := none, relief := none, rebind := [], returning := false } s

/-- A running test of a half abandoned (R539): its site's stores are zeroed, the test stays due, and a
relieved core returns at once when no step is running, else at the boundary. -/
def abandonTest (s : State) (half : Nat) : State :=
  let t := halfTest s half
  match t.core with
  | none => s
  | some c =>
    if t.returning then s
    else
      let s := zeroSite half (boundSite s half c) s
      let s := withHalf half { t with due := true, returning := true } s
      if s.ex.step.running && t.relief.isSome then s else returnCore half s

/-- Every running test abandoned. -/
def abandonTests (s : State) : State := (List.range 24).foldl abandonTest s

end Sys2Proof.Machine
end

