-- ==== Sys2Proof/Machine/Ops.lean ====
section
/-! DEFINITION. The operations every command shares: registers and counters, sessions, responses, the
audit log, events, faults, free values.

Choices beyond the manual's plain words (notes/assumptions): DEDUCED 16, 28, 38, 40, 42, 99, 102; DESIGN
CHOICE 2, 3, 18, 39, 87, 144. -/

namespace Sys2Proof.Machine

/-- What a command answers. -/
abbrev Out := Host.Outcome State Fault Refusal

/-- The state as a command finds it: nothing is on the wires yet. -/
def fresh (s : State) : State := { s with sent := [] }

/-- Something put on the wires. -/
def emit (o : Output) (s : State) : State := { s with sent := s.sent ++ [o] }

/-- The free counter advanced: the next free value (notes/assumptions/2.md). -/
def drawn (s : State) : State := { s with freeCtr := s.freeCtr + 1 }

/-! ## Registers -/

/-- The value of an object of the register file. -/
def rg (s : State) (idx sub : Nat) : Nat := at_ (dfltOf idx sub) (keyOf idx sub) s.regs

/-- An object of the register file set. -/
def withRg (idx sub v : Nat) (s : State) : State :=
  { s with regs := set_ (dfltOf idx sub) (keyOf idx sub) v s.regs }

/-- A counter raised by n; it saturates at the maximum of its size. -/
def bump (idx sub n : Nat) (s : State) : State :=
  withRg idx sub (satAdd (sizeOf_ idx sub) (rg s idx sub) n) s

/-- The registers as they were when a pending write was accepted (R407). -/
def rgIn (regs : List (Nat × Nat)) (idx sub : Nat) : Nat := at_ (dfltOf idx sub) (keyOf idx sub) regs

/-! ## Codes -/

/-- Device state codes (R82). -/
def devCode : DevState → Nat
  | .inert => 0
  | .joined => 1
  | .prepared => 2
  | .running => 3
  | .held => 4
  | .faulted => 15

/-- Power state codes (R483). -/
def powCode : PowerState → Nat
  | .run => 0
  | .still => 1
  | .hush => 2
  | .doze => 3
  | .stow => 4

/-- The power state of a code. -/
def powOf : Nat → PowerState
  | 0 => .run
  | 1 => .still
  | 2 => .hush
  | 3 => .doze
  | _ => .stow

/-- Role codes (R425). -/
def roleCode : Role → Nat
  | .none => 0
  | .operator => 1
  | .tenant => 2
  | .auditor => 3

/-! ## Gated blocks (R424, R489) -/

/-- The enables in force for a block: those of 0xA001, or the earlier ones while a write that gates the
block waits for its idle point. -/
def enablesOf (s : State) (b : Nat) : Nat :=
  (lookup b s.pwr.pendingEnables).getD (rg s 0xA001 (b + 1))

/-- An enable value's bit for a power state; in Stow every block is gated. -/
def enabledIn (p : PowerState) (e : Nat) : Bool :=
  match p with
  | .run => e.testBit 0
  | .still => e.testBit 0
  | .hush => e.testBit 1
  | .doze => e.testBit 2
  | .stow => false

/-- A block is gated. -/
def gated (s : State) (b : Nat) : Bool := !enabledIn s.pwr.cur (enablesOf s b)

/-- Any of the 24 blocks is gated (R489). -/
def anyGated (s : State) : Bool := (List.range 24).any (gated s)

/-- An object is gated: it has blocks, and every one of them is gated. -/
def gatedObj (s : State) (idx sub : Nat) : Bool :=
  let b := blocksOf idx sub
  !b.isEmpty && b.all (gated s)

/-! ## Sessions -/

/-- Session n. -/
def sessOf (s : State) (n : Nat) : Session := at_ {} n s.sec.sessions

/-- Session n replaced. -/
def withSess (n : Nat) (x : Session) (s : State) : State :=
  { s with sec := { s.sec with sessions := set_ {} n x s.sec.sessions } }

/-- The role of a session; session 0 has none. -/
def roleOf (s : State) (n : Nat) : Role :=
  if (sessOf s n).state = .established then (sessOf s n).role else .none

/-- The established session of a role, if there is one. -/
def sessionOf (s : State) (r : Role) : Option Nat :=
  (List.range 8).find? (fun n => n ≠ 0 && roleOf s n == r)

/-- A TENANT session is established. -/
def tenantHere (s : State) : Bool := (sessionOf s .tenant).isSome

/-- The access code that applies to a role. -/
def accFor (r : ObjRow) : Role → Acc
  | .operator => r.op
  | .tenant => r.ten
  | .auditor => r.aud
  | .none => .no

/-! ## Numbers as bytes -/

/-- A 48-byte digest. -/
def digestBytes (d : BitVec 384) : Bytes := leBytes 48 d.toNat

/-- A 32-byte key identity. -/
def identBytes (k : W256) : Bytes := leBytes 32 k.toNat

/-! ## Events (R238, R413, R414) -/

/-- The history and sequence of one audience (1 OPERATOR, 2 TENANT) take an event; it is queued for
sending when the audience's session is established, or counted as lost when the queue is full. -/
def raiseFor (aud code : Nat) (payload : Bytes) (s : State) : State :=
  let established := (sessionOf s (if aud = 1 then .operator else .tenant)).isSome
  if established && 256 ≤ s.ring.queue.length then
    let k := code * 4 + aud
    bump 0x6C01 3 1
      { s with ring := { s.ring with lost := set_ 0 k (at_ 0 k s.ring.lost + 1) s.ring.lost } }
  else
    let e : Event := ⟨code, aud, rg s 0x1300 aud, s.pwr.time, payload⟩
    let r := s.ring
    let r := if aud = 1 then { r with histOp := (e :: r.histOp).take 64 }
      else { r with histTen := (e :: r.histTen).take 64 }
    let r := if established then { r with queue := r.queue ++ [e] } else r
    withRg 0x1300 aud ((rg s 0x1300 aud + 1) % 2 ^ 32) { s with ring := r }

/-- An event for audiences: 1 OPERATOR, 2 TENANT, 3 both (one copy each). -/
def raise (aud code : Nat) (payload : Bytes) (s : State) : State :=
  let s := if aud.testBit 0 then raiseFor 1 code payload s else s
  if aud.testBit 1 then raiseFor 2 code payload s else s

/-! ## Audit log (R464 to R470) -/

/-- Bytes 0 to 111 of an audit entry (R465). -/
def auditHead (e : AuditEntry) : Bytes :=
  leBytes 8 e.position ++ leBytes 8 e.time ++ identBytes e.origin ++ leBytes 2 e.index
    ++ leBytes 1 e.sub ++ leBytes 1 e.sess ++ leBytes 1 e.role ++ leBytes 1 e.kind
    ++ leBytes 1 (if e.keyed then 1 else 0) ++ zeros 1 ++ leBytes 4 e.len ++ zeros 4
    ++ digestBytes e.digest

/-- The 160 bytes of an audit entry. -/
def auditBytes (e : AuditEntry) : Bytes := auditHead e ++ digestBytes e.chain

/-- The entries written since manufacture (0xF000:01). -/
def auditCount (s : State) : Nat := rg s 0xF000 1

/-- Bytes 0 to 175 of the export record (R470) that the log's present head ends. -/
def exportBody (s : State) : Bytes :=
  leBytes 4 0x44415A4B ++ leBytes 2 0x0100 ++ zeros 2 ++ identBytes Config.fusedKeyIdentity
    ++ leBytes 8 s.sec.lastExport ++ leBytes 8 (auditCount s - 1)
    ++ digestBytes s.sec.exportChain ++ digestBytes s.sec.chain ++ leBytes 8 s.pwr.time
    ++ leBytes 8 (rg s 0xF000 4) ++ zeros 8

/-- The export record built and announced once the interval is reached (R470). -/
def exportIfDue (s : State) : State :=
  if auditCount s - s.sec.lastExport < rg s 0xF003 1 then s
  else
    let body := exportBody s
    let record := body ++ leBytes 3373 (Config.dualSign body).toNat
    let payload := leBytes 8 (auditCount s - 1) ++ (digestBytes (Config.sha384 record)).take 40
    raise 3 0x0050 payload
      { s with sec := { s.sec with exported := record, lastExport := auditCount s, exportChain := s.sec.chain } }

/-- One entry appended to the log (R464) with its value's length and digest. -/
def auditDigest (sess idx sub kind : Nat) (keyed : Bool) (len : Nat) (digest : BitVec 384) (s : State) :
    State :=
  let session := sessOf s sess
  let origin : W256 :=
    if kind = 4 ∨ kind = 5 ∨ kind = 7 then Config.fusedKeyIdentity
    else if sess = 0 then 0 else session.key
  let role := if kind = 4 ∨ kind = 5 ∨ kind = 7 then 0 else roleCode session.role
  let e0 : AuditEntry :=
    ⟨auditCount s, s.pwr.time, origin, idx, sub, sess, role, kind, keyed, len, digest, 0⟩
  let chain := Config.sha384 (digestBytes s.sec.chain ++ auditHead e0)
  let e := { e0 with chain := chain }
  exportIfDue (bump 0xF000 1 1
    { s with sec := { s.sec with log := (e :: s.sec.log).take 65536, chain := chain } })

/-- One entry appended to the log: the object, session, kind and new value. A keyed digest takes the TENANT
session's audit salt (R466). -/
def audit (sess idx sub kind : Nat) (keyed : Bool) (value : Bytes) (s : State) : State :=
  let salted := if keyed then identBytes (sessOf s sess).salt ++ value else value
  auditDigest sess idx sub kind keyed value.length (Config.sha384 salted) s

/-- The count of rejections of an origin (R469): its own entry, the first unused one, or entry 0x40,
which then reads as key identity all ones. -/
def countOrigin (k : W256) : List (W256 × Nat) → List (W256 × Nat)
  | l =>
    if l.any (fun p => p.1 == k) then l.map (fun p => if p.1 == k then (p.1, satAdd 8 p.2 1) else p)
    else if l.length < 64 then l ++ [(k, 1)]
    else l.take 63 ++ (l.drop 63).map (fun p => (BitVec.allOnes 256, satAdd 8 p.2 1))

/-- A rejected write, key install or establishment counted (R449, R469). -/
def countReject (origin : W256) (s : State) : State :=
  bump 0xF000 4 1 { s with sec := { s.sec with origins := countOrigin origin s.sec.origins } }

/-- The origin key identity of a session. -/
def originOf (s : State) (n : Nat) : W256 := if n = 0 then 0 else (sessOf s n).key

/-! ## Responses (R400, R403 to R407) -/

/-- The command, index and subindex that a request began with, noted for its response (R400). -/
def noteHead (q : Req) (h : Bytes) (s : State) : State :=
  let x := sessOf s q.sess
  withSess q.sess { x with heads := ((q.msg, h) :: x.heads.filter (fun p => p.1 ≠ q.msg)).take 32 }  s

/-- The same of a request whose message has noted none: a command, its index and subindex. -/
def noteCommand (q : Req) (command idx sub : Nat) (s : State) : State :=
  if (lookup q.msg (sessOf s q.sess).heads).isSome then s
  else noteHead q (leBytes 2 command ++ leBytes 2 idx ++ leBytes 1 sub) s

/-- A response message's 20-byte head (R400). -/
def responseHead (s : State) (sess msg : Nat) (code : W32) (len : Nat) : Bytes :=
  let h := at_ (zeros 5) msg (sessOf s sess).heads
  leBytes 1 (leNat (h.take 1) + 0x80) ++ h.drop 1 ++ zeros 3 ++ leBytes 4 code.toNat ++ leBytes 8 len

/-- The 72 bytes of an event (R413). -/
def eventContent (e : Event) : Bytes :=
  leBytes 2 e.code ++ leBytes 2 e.aud ++ leBytes 4 e.seq ++ leBytes 8 e.time ++ leBytes 8 e.payload.length
    ++ slice (e.payload ++ zeros 48) 0 48

/-- A block acknowledgement's 9 bytes (R402). -/
def ackBytes (a : BlockAck) : Bytes :=
  leBytes 1 a.bulk.toNat ++ leBytes 1 a.chan ++ leBytes 2 a.msg ++ leBytes 4 a.num ++ leBytes 1 a.status

/-- The message that an output of the ring is (R389, R400, R402, R413, R448, R449): its type, session, payload in clear,
the message ID of the request it answers, and the session it opens. -/
def messageOf (s : State) : Output → Option OutMsg
  | .response sess msg code data =>
    some { typ := 2, sess := sess, msg := msg, rest := responseHead s sess msg code data.length ++ data }
  | .blockBegin sess msg len => some { typ := 2, sess := sess, msg := msg, rest := responseHead s sess msg 0 len }
  | .event e =>
    (sessionOf s (if e.aud = 1 then .operator else .tenant)).map (fun n =>
      { typ := 3, sess := n, msg := s.ring.nextMsg, rest := eventContent e })
  | .block b =>
    some { typ := 4, sess := b.sess, msg := s.ring.nextMsg, rest := blockBody b ++ leBytes 4 b.crc.toNat }
  | .blockAck a => some { typ := 5, sess := a.sess, msg := s.ring.nextMsg, rest := ackBytes a }
  | .reply msg n code =>
    some { typ := 6, sess := 0, msg := msg, opens := n
           rest := leBytes 1 2 ++ leBytes 3 n ++ leBytes 4 code.toNat
             ++ (if n = 0 then [] else leBytes 4525 (Config.replyRest s.freeCtr).toNat) }
  | .result n sub code =>
    some { typ := 6, sess := n, msg := s.ring.nextMsg, opens := if sub = 3 then n else 0
           rest := leBytes 1 4 ++ leBytes 1 n ++ leBytes 2 sub ++ leBytes 4 code.toNat }
  | _ => none

/-- An output's message queued for its slots. -/
def queueOut (o : Output) (s : State) : State :=
  match messageOf s o with
  | none => s
  | some m =>
    let x := sessOf s m.sess
    let next := if m.typ = 2 then s.ring.nextMsg else (s.ring.nextMsg + 1) % 65536
    { s with ring := { s.ring with
        out := s.ring.out ++ [{ m with prk := x.prk, since := x.since }], nextMsg := next } }

/-- Something sent on the ring; a module whose bypass is closed cannot transmit (R395). A message waits for slots that
it may fill (R390). -/
def sendRing (o : Output) (s : State) : State := if s.ring.bypassOpen then emit o (queueOut o s) else s

/-- A request completed: it is no longer in progress, and its session keeps the response with its last 16
(R404); session 0 is no session and keeps none. -/
def completed (q : Req) (code : W32) (data : Bytes) (s : State) : State :=
  let x := sessOf s q.sess
  let kept := (⟨q.msg, code, data⟩ :: x.responses.filter (fun y => y.msg ≠ q.msg)).take 16
  withSess q.sess { x with
    inProgress := dropNum q.msg x.inProgress, responses := if q.sess = 0 then [] else kept } s

/-- A response sent. -/
def respond (q : Req) (code : Nat) (data : Bytes) (s : State) : State :=
  let c := BitVec.ofNat 32 code
  sendRing (.response q.sess q.msg c data) (completed q c data s)

/-- A rejection sent and counted (R469). -/
def rejectReq (q : Req) (code : Nat) (s : State) : State :=
  respond q code [] (countReject (originOf s q.sess) s)

/-- A write of varying object and value accepted and logged (R464, R466). -/
def auditWrite (q : Req) (idx sub : Nat) (value : Bytes) (s : State) : State :=
  let opHides := match rowOf idx sub with
    | some r => r.op == .no || r.op == .wo
    | none => false
  audit q.sess idx sub 0 (roleOf s q.sess == .tenant && opHides) value s

/-! ## Undefined contents -/

/-- Listed bytes outside a range. -/
def outside (a n : Nat) (c : List Host.Cell) : List Host.Cell :=
  c.filter (fun p => p.1 < a ∨ a + n ≤ p.1)

/-- The contents of a range become undefined: nothing is listed there, and the epoch moves on. -/
def forgetRange (a n : Nat) (s : State) : State :=
  { s with mem := { s.mem with
      cells := outside a n s.mem.cells
      msc := s.mem.msc.map (fun p => (p.1, { p.2 with data := outside a n p.2.data }))
      wc := s.mem.wc.map (fun e => { e with data := outside a n e.data })
      epoch := s.mem.epoch + 1 } }

/-! ## Pending writes (R407) -/

/-- The object of a pending write. -/
def pendObject : PendKind → Nat × Nat
  | .prepare => (0x2000, 2)
  | .hostCopy => (0x4800, 1)
  | .abandon => (0x8003, 1)
  | .power => (0xA000, 1)
  | .firmware => (0x9010, 1)

/-- The pending write of a kind. -/
def pendOf (s : State) (k : PendKind) : Option PendWrite := s.sec.pend.find? (fun p => p.kind == k)

/-- A write accepted as pending; the settings it depends on are kept as they stand. -/
def addPend (k : PendKind) (q : Req) (s : State) : State :=
  { s with sec := { s.sec with
      pend := s.sec.pend ++ [⟨k, q, s.regs, s.fab.members, s.fab.groups, s.fab.overrides⟩] } }

/-- A pending write forgotten. -/
def dropPend (k : PendKind) (s : State) : State :=
  { s with sec := { s.sec with pend := s.sec.pend.filter (fun p => p.kind ≠ k) } }

/-- A pending write completed with success: logged, then answered (R468). -/
def finishPend (k : PendKind) (value : Bytes) (s : State) : State :=
  match pendOf s k with
  | none => s
  | some p =>
    let o := pendObject k
    if s.sec.flashFull then rejectReq p.q 0x05800002 (dropPend k s)
    else respond p.q 0 [] (auditWrite p.q o.1 o.2 value (dropPend k s))

/-- A pending write completed with a rejection: no entry, and a rejected attempt (R468). -/
def failPend (k : PendKind) (code : Nat) (s : State) : State :=
  match pendOf s k with
  | none => s
  | some p => rejectReq p.q code (dropPend k s)

/-- Every block write in progress ended with 0x0300_0002 (R403, R407); a firmware image is a pending
write of its own. -/
def endBlocks (s : State) : State :=
  let writes := s.ring.transfers.filter (fun t => t.toModule)
  let s := { s with ring := { s.ring with transfers := s.ring.transfers.filter (fun t => !t.toModule) } }
  writes.foldl (fun s t => if t.idx = 0x9010 then s else rejectReq ⟨t.sess, t.msg⟩ 0x03000002 s) s

/-- A host copy in progress dropped: what it has written of its range is not stated. -/
def dropHostCopy (s : State) : State :=
  match s.mem.hostCopy with
  | none => s
  | some h => forgetRange h.lo h.len { s with mem := { s.mem with hostCopy := none } }

/-- Every pending write ended with 0x0300_0002 (R407); a firmware update has then failed (R426). -/
def endPending (s : State) : State :=
  let s := if (pendOf s .firmware).isSome then withRg 0x9010 2 4 s else s
  let s := failPend .prepare 0x03000002 s
  let s := failPend .hostCopy 0x03000002 s
  let s := failPend .abandon 0x03000002 s
  let s := failPend .power 0x03000002 s
  let s := failPend .firmware 0x03000002 s
  let s := endBlocks s
  let s := dropHostCopy s
  { s with res := { s.res with abandonAt := none } }

/-! ## Test access off (R529, R530) -/

/-- 0xB020:01 set to FALSE: the port is reset, and after an instruction that leaves the dies undefined the
module moves to Stow. -/
def closeTestPort (s : State) : State :=
  let bad := s.test.intrusive
  let s := withRg 0xB020 1 0
    { s with test := { s.test with ir := 2, driven := false, highz := false, intrusive := false } }
  if bad ∧ s.pwr.req ≠ .stow then
    { s with pwr := { s.pwr with req := .stow, moving := s.pwr.cur != .stow } } else s

/-! ## Faults (R542) -/

/-- The 48-byte payload of a fault event. -/
def faultPayload (cause kind : Nat) (loc : Bytes) : Bytes :=
  leBytes 4 cause ++ leBytes 1 kind ++ zeros 3 ++ fit 40 loc

/-- A fault event without a change of device state. -/
def faultEvent (cause kind : Nat) (loc : Bytes) (s : State) : State :=
  raise 3 0x0001 (faultPayload cause kind loc) s

/-- Entry to FAULTED: test access off (R530), core tests abandoned (R539), the cause recorded, every pending write ended, the entry logged, the fault event
sent. A module already FAULTED keeps its first cause and sends the event. -/
def toFaulted (cause kind : Nat) (loc : Bytes) (s : State) : State :=
  if s.dev = .faulted then faultEvent cause kind loc s
  else
    let s := if s.dev = .joined then closeTestPort s else s
    let s := abandonTests s
    let s := withRg 0x2001 3 cause { s with dev := .faulted, ex := { s.ex with holdPending := false } }
    let s := audit 0 0x2001 3 7 false (leBytes 4 cause) (endPending s)
    faultEvent cause kind loc s

end Sys2Proof.Machine
end

