-- ==== Sys2Proof/Machine/Mem.lean ====
section
/-! DEFINITION. Memory as every unit sees it (R201 to R231): the address map, the point of coherence,
write combining, poison, regulators. The bytes of a memory-side cache line or a write-combining entry
that have not reached their stack lie over the cells.

Choices beyond the manual's plain words (notes/assumptions): DEDUCED 47, 61, 63, 65; DESIGN CHOICE 3, 9, 62,
120, 129, 160. -/

namespace Sys2Proof.Machine

/-- The end of tenant memory (R203). -/
def tenantTop : Nat := 0x16700000000

/-- The end of the mapped space (R203). -/
def memTop : Nat := 0x16800000000

/-- A range lies in tenant memory. -/
def inTenant (a n : Nat) : Bool := a + n ≤ tenantTop

/-- Where an address lies (R205). colg: its column group, columns 8 * colg to 8 * colg + 7; sector: the 32-byte sector's number within its stack. -/
structure Place where
  stack : Nat
  pc : Nat
  bank : Nat
  row : Nat
  colg : Nat
  line : Nat
  sector : Nat
deriving DecidableEq, Repr

/-- The decoding of R205, with the boundary B in units of 20 GiB. -/
def place (bUnits a : Nat) : Place :=
  let b := bUnits * (20 * 2 ^ 30)
  let sy :=
    if a < b then
      let q := a / (b / 4)
      let o := a - q * (b / 4)
      let n := o / 256
      (5 * q + n % 5, 256 * (n / 5) + o % 256)
    else
      let o := a - b
      let n := o / 256
      let k := n % 20
      (5 * (k % 4) + k / 4, b / 20 + 256 * (n / 20) + o % 256)
  let l := sy.2 / 256
  let m := l / 32
  let row := m / 128
  ⟨sy.1, (l % 32) ^^^ ((l / 32) % 32), ((m / 4) ^^^ row) % 32, row, m % 4, m, sy.2 / 32⟩

/-- Where an address lies now. -/
def placeOf (s : State) (a : Nat) : Place := place (rg s 0x4000 3) a

/-- The key of a stack sector: poison belongs to it (R204). -/
def sectorKey (p : Place) : Nat := p.stack * 2 ^ 32 + p.sector

/-- The memory-side cache line of a line number. -/
def mscLine (s : State) (line : Nat) : Option CacheLine := lookup line s.mem.msc

/-- The write-combining entry of a line number. -/
def wcLine (s : State) (line : Nat) : Option WcEntry := s.mem.wc.find? (fun e => e.line == line)

/-- The byte a cache line or a write-combining entry holds for an address. -/
def heldByte (s : State) (a : Nat) : Option Byte :=
  match (mscLine s (a / 256)).bind (fun l => lookup a l.data) with
  | some b => some b
  | none => (wcLine s (a / 256)).bind (fun e => lookup a e.data)

/-- A byte as the point of coherence gives it (R207, R211). Contents the manual calls undefined are a
free value of the address (notes/assumptions/3.md). -/
def byteAt (s : State) (a : Nat) : Byte :=
  match heldByte s a with
  | some b => b
  | none => (lookup a s.mem.cells).getD (Config.undefByte s.mem.epoch a)

/-- n bytes from an address. -/
def bytesAt (s : State) (a n : Nat) : Bytes := (List.range n).map (fun i => byteAt s (a + i))

/-- The sector of an address is poisoned (R226). Poison found in a cache or a write-combining buffer is written to
the stack's sector too, so a sector is poisoned everywhere or nowhere below the shared caches. -/
def poisonedAt (s : State) (a : Nat) : Bool := s.mem.poison.contains (sectorKey (placeOf s a))

/-- Some sector of a range is poisoned. -/
def poisonedIn (s : State) (a n : Nat) : Bool :=
  (List.range n).any (fun i => poisonedAt s (a + i))

/-- The first poisoned address of a range. -/
def firstPoison (s : State) (a n : Nat) : Option Nat :=
  ((List.range n).find? (fun i => poisonedAt s (a + i))).map (fun i => a + i)

/-- Bytes as cells from an address. -/
def cellsFrom (a : Nat) : Bytes → List Host.Cell
  | [] => []
  | b :: t => (a, b) :: cellsFrom (a + 1) t

/-- Cells with bytes stored at an address: what lies below, the bytes, what lies above. -/
def storeCells (a : Nat) (data : Bytes) (c : List Host.Cell) : List Host.Cell :=
  c.filter (fun p => p.1 < a) ++ cellsFrom a data ++ c.filter (fun p => a + data.length ≤ p.1)

/-- The sectors that a write covers wholly (R226): their addresses. -/
def coveredSectors (a n : Nat) : List Nat :=
  (List.range (n / 32 + 2)).filterMap (fun i =>
    let b := (a / 32 + i) * 32
    if a ≤ b ∧ b + 32 ≤ a + n then some b else none)

/-- The poison of sectors that a write covers is gone. -/
def clearPoison (a n : Nat) (s : State) : State :=
  let cov := coveredSectors a n
  if cov.isEmpty then s
  else
    let keys := cov.map (fun b => sectorKey (placeOf s b))
    { s with mem := { s.mem with
        poison := s.mem.poison.filter (fun k => !keys.contains k)
        shPoison := s.mem.shPoison.filter (fun p => !cov.contains (p / 16 * 32)) } }

/-- The location bytes of a stack fault (R542). -/
def stackLoc (s : State) (a : Nat) : Bytes :=
  let p := placeOf s a
  leBytes 1 p.stack ++ leBytes 1 (p.pc / 2) ++ leBytes 1 (p.pc % 2) ++ leBytes 1 p.bank ++ leBytes 4 p.row

/-- A sector found uncorrectable (R225, R226): counted, poisoned, reported. -/
def poisonSector (a : Nat) (s : State) : State :=
  let s := bump 0x4020 2 1 s
  faultEvent 0x03200005 3 (stackLoc s a)
    { s with mem := { s.mem with poison := addNum (sectorKey (placeOf s a)) s.mem.poison } }

/-- An uncorrected data error of the running step (R148, R152): before the verdict point it sets the step's
error flag with its cause; later it is a late error, which sends the event `late` and holds the module at
the boundary (R379). -/
def stepDataError (cause : W32) (late : State → State) (s : State) : State :=
  let x := s.ex.step
  if !x.running then s
  else if x.phase = .open then
    { s with ex := { s.ex with step := { x with dataErr := x.dataErr.or (some cause) } } }
  else late { s with ex := { s.ex with step := { x with lateErr := true, holdAtBoundary := true } } }

/-- Poisoned data at an address read for the step (R226, R379). -/
def poisonRead (a : Nat) (s : State) : State :=
  stepDataError 0x03200005 (faultEvent 0x03200005 3 (stackLoc s a)) s

/-- The channel controller of an address, numbered 80q + 16j + c (R205). -/
def controllerOf (s : State) (a : Nat) : Nat :=
  let p := placeOf s a
  80 * (p.stack / 5) + 16 * (p.stack % 5) + p.pc / 2

/-- The quadrant whose stacks hold an address. -/
def quadrantOf (s : State) (a : Nat) : Nat := (placeOf s a).stack / 5

/-! ## Regulators (R217, R218) -/

/-- The rate, borrow bit and depth of a partition of a quadrant (R231). -/
def partRate (s : State) (q p : Nat) : Nat := bits 31 19 (rg s 0x4002 (16 * q + p + 1))

/-- The depth of a partition in bytes. -/
def partDepth (s : State) (q p : Nat) : Nat := 1024 * bits 15 0 (rg s 0x4002 (16 * q + p + 1))

/-- The borrow bit of a partition. -/
def partBorrow (s : State) (q p : Nat) : Bool := bit 18 (rg s 0x4002 (16 * q + p + 1))

/-- What a regulator lacks of its depth now. -/
def regMissing (s : State) (q p : Nat) : Nat :=
  let r := at_ ({} : Regulator) (16 * q + p) s.mem.regulators
  r.missing - partRate s q p * (s.pwr.time - r.at_)

/-- The credit a regulator holds now. -/
def regCredit (s : State) (q p : Nat) : Nat := partDepth s q p - regMissing s q p

/-- Credit spent. -/
def regSpend (q p n : Nat) (s : State) : State :=
  { s with mem := { s.mem with
      regulators := set_ {} (16 * q + p) ⟨regMissing s q p + n, s.pwr.time⟩ s.mem.regulators } }

/-- A regulator filled, as after a write of its setting. -/
def regFill (q p : Nat) (s : State) : State :=
  { s with mem := { s.mem with regulators := without (16 * q + p) s.mem.regulators } }

/-- The HBM bytes that retiring an entry takes (R212, R217): a covered sector is written, a partly covered one read
and written. -/
def entryCost (e : WcEntry) : Nat :=
  (List.range 8).foldl (fun n i =>
    let k := (e.data.filter (fun b => b.1 / 32 = e.line * 8 + i)).length
    n + if k = 0 then 0 else if k = 32 then 32 else 64) 0

/-- Some access waiting at a controller could be paid by its own regulator. -/
def payerWaits (s : State) (c : Nat) : Bool :=
  s.mem.waiting.any (fun w => !w.write && controllerOf s w.req.addr == c
      && 256 ≤ regCredit s (c / 80) w.req.partition)
    || s.mem.wc.any (fun e => e.retiring && e.controller == c && entryCost e ≤ regCredit s (c / 80) e.part)

/-- An access of n bytes of a partition can go now at a controller, by paying or by borrowing: with the borrow
bit set, when no waiting access of the controller could pay for itself (R218). -/
def regAllows (s : State) (c p n : Nat) : Bool :=
  32 * ceilDiv n 32 ≤ regCredit s (c / 80) p || (partBorrow s (c / 80) p && !payerWaits s c)

/-- An access of n bytes charged: borrowed, without spending, where the credit is not there and the borrow bit is
set; else spent. It counts among the quadrant's HBM bytes. -/
def regCharge (q p n : Nat) (s : State) : State :=
  let cost := 32 * ceilDiv n 32
  let s := bump 0x4021 (q + 1) cost s
  if regCredit s q p < cost && partBorrow s q p then s else regSpend q p cost s

/-! ## Write combining (R211, R212, R239) -/

/-- A 32-byte sector that an entry's mask covers. -/
def entryCovers (e : WcEntry) (i : Nat) : Bool :=
  (e.data.filter (fun b => b.1 / 32 = e.line * 8 + i)).length == 32

/-- A write-combining entry retired to its stack: its bytes are in the cells, and the poison of the sectors it
covers is gone (R226). -/
def retireEntry (e : WcEntry) (s : State) : State :=
  let s := regCharge (e.controller / 80) e.part (entryCost e) s
  let keys := ((List.range 8).filter (entryCovers e)).map (fun i => sectorKey (placeOf s (256 * e.line + 32 * i)))
  { s with mem := { s.mem with
      cells := e.data.foldl (fun c p => put p.1 p.2 c) s.mem.cells
      poison := s.mem.poison.filter (fun k => !keys.contains k)
      wc := s.mem.wc.filter (fun x => x.line ≠ e.line) } }

/-- An earlier entry of an entry's partition waits for the same regulator (R218: arrival order). -/
def retireWaits (s : State) (e : WcEntry) : Bool :=
  (s.mem.wc.takeWhile (fun x => x.line ≠ e.line)).any (fun x =>
    x.retiring && x.controller / 80 == e.controller / 80 && x.part == e.part)

/-- A write-combining entry marked as retiring. -/
def markRetiring (line : Nat) (s : State) : State :=
  { s with mem := { s.mem with
      wc := s.mem.wc.map (fun e => if e.line = line then { e with retiring := true } else e) } }

/-- An entry retired when its partition's regulator allows the access, else left retiring (R240). -/
def retireOrMark (e : WcEntry) (s : State) : State :=
  if !retireWaits s e && regAllows s e.controller e.part (entryCost e) then retireEntry e s
  else markRetiring e.line s

/-- Retiring entries whose regulator now allows it, retired. -/
def retireWaiting (s : State) : State :=
  (s.mem.wc.filter (fun e => e.retiring)).foldl (fun s e => retireOrMark e s) s

/-- Every write-combining entry begins its retirement (before Hush, Doze and Stow). -/
def retireAll (s : State) : State := s.mem.wc.foldl (fun s e => retireOrMark e s) s

/-- A memory-side cache line written back to its stack: its dirty sectors are charged to the partition of its last
write (R217), and its bytes replace older ones still held by a write-combining entry. -/
def writeBack (line : Nat) (s : State) : State :=
  match mscLine s line with
  | none => s
  | some l =>
    let dirty := ((List.range 8).filter (fun i => l.data.any (fun b => b.1 / 32 == line * 8 + i))).length
    let s := if dirty = 0 then s else regCharge (quadrantOf s (256 * line)) l.part (32 * dirty) s
    { s with mem := { s.mem with
        cells := l.data.foldl (fun c p => put p.1 p.2 c) s.mem.cells
        wc := s.mem.wc.map (fun e =>
          if e.line = line then { e with data := e.data.filter (fun b => (lookup b.1 l.data).isNone) } else e)
        msc := put line { l with data := [] } s.mem.msc } }

/-- Every memory-side cache line written back (entry to Doze). -/
def writeBackAll (s : State) : State := s.mem.msc.foldl (fun s p => writeBack p.1 s) s

/-! ## The memory-side caches (R207) -/

/-- The slice that a line belongs to: its quadrant's, by its controller's endpoint number mod 16. -/
def mscSlice (s : State) (line : Nat) : Nat :=
  let c := controllerOf s (256 * line)
  16 * (c / 80) + c % 16

/-- The ways of a slice's sets, and the sets of a slice: 12 MiB of 256-byte lines, 24 ways. -/
def mscWays : Nat := 24
/-- Sets of a memory-side cache slice. -/
def mscSets : Nat := 2048

/-- The lines of a slice. -/
def sliceLines (s : State) (line : Nat) : List Nat :=
  (s.mem.msc.map (fun p => p.1)).filter (fun k => mscSlice s k == mscSlice s line)

/-- The lines that share a set with a line. Which set a line falls in is open (notes/assumptions/129.md). -/
def mscPeers (s : State) (line : Nat) : List Nat :=
  (sliceLines s line).filter (fun k => Config.cacheSet 1 k % mscSets == Config.cacheSet 1 line % mscSets)

/-- A line written back and dropped. -/
def mscEvict (line : Nat) (s : State) : State :=
  let s := writeBack line s
  { s with mem := { s.mem with msc := without line s.mem.msc } }

/-- Room for a line: a full set loses a line, which one is open (notes/assumptions/129.md). A slice with fewer
lines than a set has ways has no full set. -/
def mscRoom (line : Nat) (s : State) : State :=
  if (mscLine s line).isSome || (sliceLines s line).length < mscWays then s
  else
    let peers := mscPeers s line
    if peers.length < mscWays then s
    else mscEvict (peers.getD (Config.freeIndex s.freeCtr 0 % peers.length) line) (drawn s)

/-- A line allocated with its contents. -/
def mscInstall (line : Nat) (l : CacheLine) (s : State) : State :=
  let s := mscRoom line s
  { s with mem := { s.mem with msc := put line l s.mem.msc } }

/-- The oldest entry of a controller. -/
def oldestEntry (s : State) (c : Nat) : Option WcEntry := s.mem.wc.find? (fun e => e.controller == c)

/-- The entries of a controller's buffer in use. -/
def entriesUsed (s : State) (c : Nat) : Nat := (s.mem.wc.filter (fun e => e.controller == c)).length

/-- Room for a new line in a controller's buffer (R212, R239): with 64 entries in use the oldest goes; with 63 the
write takes the escape entry, once the oldest has begun its retirement. -/
def makeRoom (c : Nat) (s : State) : State :=
  if entriesUsed s c < 63 then s
  else
    let s := if entriesUsed s c = 63 then s
      else match oldestEntry s c with
        | some e => retireEntry e s
        | none => s
    match oldestEntry s c with
    | some e => bump 0x6C01 1 1 (if e.retiring then s else markRetiring e.line s)
    | none => s

/-- A write merged into its line's entry, or into a new one; an entry whose mask is full is retired. -/
def combine (m : MemReq) (data : Bytes) (s : State) : State :=
  let line := m.addr / 256
  let c := controllerOf s m.addr
  let s := if (wcLine s line).isSome then s else makeRoom c s
  let e := (wcLine s line).getD ⟨c, line, [], m.partition, s.pwr.time, false⟩
  let e := { e with data := storeCells m.addr data e.data, part := m.partition }
  let s := { s with mem := { s.mem with
    wc := if (wcLine s line).isSome then s.mem.wc.map (fun x => if x.line = line then e else x)
      else s.mem.wc ++ [e] } }
  if e.data.length = 256 then retireOrMark e s else s

/-- A write at the point of coherence: into the resident line, as a whole line without a fill, or into
the write-combining buffer. -/
def coherentWrite (m : MemReq) (data : Bytes) (s : State) : State :=
  let line := m.addr / 256
  let s :=
    match mscLine s line with
    | some l =>
      { s with mem := { s.mem with
          msc := put line { l with data := storeCells m.addr data l.data, part := m.partition } s.mem.msc } }
    | none =>
      if m.addr % 256 = 0 ∧ data.length = 256 then
        let s := mscInstall line { data := storeCells m.addr data [], part := m.partition } s
        { s with mem := { s.mem with wc := s.mem.wc.filter (fun e => e.line ≠ line) } }
      else combine m data s
  clearPoison m.addr data.length s

/-! ## Shared caches (R206, R208) -/

/-- The slice of a line in a shared cache (R206). -/
def shSlice (line : Nat) : Nat := (line ^^^ (line / 16) ^^^ (line / 256)) % 16

/-- Ways and sets of a shared-cache slice: 8 MiB of 256-byte lines, 16 ways. -/
def shWays : Nat := 16
/-- Sets of a shared-cache slice. -/
def shSets : Nat := 2048

/-- The lines of the slice of a compute die's shared cache that a line falls in. -/
def shLines (s : State) (d line : Nat) : List Nat := at_ [] (16 * d + shSlice line) s.mem.shared

/-- A line is resident in a compute die's shared cache. -/
def resident (s : State) (d line : Nat) : Bool := (shLines s d line).contains line

/-- The compute dies whose shared caches hold a line: what the snoop filter records (R208). -/
def holdersOf (s : State) (line : Nat) : List Nat := (List.range 12).filter (fun d => resident s d line)

/-- The compute die of a die number, if it is one (R27). -/
def computeDie (die : Nat) : Option Nat := if 4 ≤ die ∧ die < 16 then some (die - 4) else none

/-- The lines of a slice replaced. -/
def withShLines (d line : Nat) (l : List Nat) (s : State) : State :=
  { s with mem := { s.mem with shared := set_ [] (16 * d + shSlice line) l s.mem.shared } }

/-- A line dropped from a compute die's shared cache. -/
def shDrop (d line : Nat) (s : State) : State :=
  let s := withShLines d line (dropNum line (shLines s d line)) s
  { s with mem := { s.mem with
      shPoison := s.mem.shPoison.filter (fun k => ¬(k % 16 = d ∧ k / 16 / 8 = line)) } }

/-- The lines of a slice that share a set with a line. -/
def shPeers (s : State) (d line : Nat) : List Nat :=
  (shLines s d line).filter (fun k => Config.cacheSet 0 k % shSets == Config.cacheSet 0 line % shSets)

/-- Room for a line in a shared cache: a full set loses a line other than the one used last; pseudo-LRU says no more
(notes/assumptions/129.md). -/
def shRoom (d line : Nat) (s : State) : State :=
  if resident s d line || (shLines s d line).length < shWays then s
  else
    let peers := shPeers s d line
    if peers.length < shWays then s
    else shDrop d (peers.getD (Config.freeIndex s.freeCtr 1 % (peers.length - 1)) line) (drawn s)

/-- A line used or installed in a compute die's shared cache: it becomes the one used last. -/
def installLine (line d : Nat) (s : State) : State :=
  let s := shRoom d line s
  withShLines d line (dropNum line (shLines s d line) ++ [line]) s

/-- The holding dies of a line other than one die. -/
def otherHolders (s : State) (line die : Nat) : List Nat := (holdersOf s line).filter (fun d => d + 4 ≠ die)

/-- Invalidations sent to dies, which no longer hold the line. -/
def invalidate (line : Nat) (dies : List Nat) (s : State) : State :=
  dies.foldl (fun s d => emit (.invalidate (d + 4) line) (shDrop d line s)) s

/-! ## Accesses of the module's own units (R208, R217, R234) -/

/-- A line read by a unit: a miss charges its partition and allocates. -/
def readLine (u : Agent) (line : Nat) (s : State) : State :=
  if (mscLine s line).isSome then s
  else mscInstall line { part := u.part } (regCharge (quadrantOf s (256 * line)) u.part 256 s)

/-- A line read through a compute die's shared cache, or from the point of coherence. -/
def readVia (u : Agent) (fill : Option Nat) (line : Nat) (s : State) : State :=
  match fill with
  | none => readLine u line s
  | some d => installLine line d (if resident s d line then s else readLine u line s)

/-- The lines of a range. -/
def linesOf (a n : Nat) : List Nat := (List.range (ceilDiv (a % 256 + n) 256)).map (fun i => a / 256 + i)

/-- A range read by a unit (R206, R207, R217); its bytes are those of bytesAt. -/
def readRange (u : Agent) (fill : Option Nat) (a n : Nat) (s : State) : State :=
  if n = 0 then s else (linesOf a n).foldl (fun s k => readVia u fill k s) s

/-- Bytes cut at line boundaries. -/
def linePieces : Nat → Nat → Bytes → List (Nat × Bytes)
  | 0, _, _ => []
  | n + 1, a, b =>
    if b.isEmpty then []
    else (a, b.take (256 - a % 256)) :: linePieces n (a + (256 - a % 256)) (b.drop (256 - a % 256))

/-- One piece of a unit's write at the point of coherence; every other holder of the line is invalidated, and the
write is acknowledged once each has answered (R208). -/
def writeLine (u : Agent) (s : State) (p : Nat × Bytes) : State :=
  let line := p.1 / 256
  let s := coherentWrite ⟨u.die, u.ep, u.unit, u.cls, p.1, p.2.length, u.part, false⟩ p.2 s
  let dies := otherHolders s line u.die
  if dies.isEmpty then s
  else invalidate line dies { s with mem := { s.mem with
    invWait := s.mem.invWait ++ [⟨true, u.die, u.ep, u.unit, u.cls, line, dies⟩] } }

/-- Bytes written by a unit of the module, in its partition and class, through the point of coherence. -/
def storeBytes (u : Agent) (a : Nat) (data : Bytes) (s : State) : State :=
  (linePieces (data.length / 256 + 2) a data).foldl (writeLine u) s

/-- Every write of a unit has been acknowledged. -/
def writesDone (s : State) (u : Agent) : Bool :=
  !s.mem.invWait.any (fun w => w.own && w.die == u.die && w.ep == u.ep && w.tag == u.unit)

/-- A quadrant's regulator of a partition gains no credit, may not borrow, and holds none for a line (R240). -/
def partShut (s : State) (q p : Nat) : Bool := partRate s q p == 0 && !partBorrow s q p && regCredit s q p < 256

/-- A unit's accesses to ranges of memory wait until the setting of its partition changes (R240). -/
def shutOut (s : State) (p : Nat) (ranges : List (Nat × Nat)) : Bool :=
  (List.range 4).any (partShut s · p)
    && ranges.any (fun r => (linesOf r.1 r.2).any (fun k => partShut s (quadrantOf s (256 * k)) p))

/-- The unit of a core's operand port, by its site's key (R27, R217). -/
def coreUnit (s : State) (key : Nat) : Agent :=
  ⟨4 + key / 200, key % 200, 4, rg s 0x4003 (key / 100 + 1), 1⟩

/-- The unit of a core's vector engine. -/
def vectorUnit (s : State) (key : Nat) : Agent := { coreUnit s key with unit := 2 }

/-- The unit of a core's copy unit. -/
def copyUnit (s : State) (key : Nat) : Agent := { coreUnit s key with cls := 3, unit := 3 }

/-- The unit of a base die's copy engine. -/
def engineUnit (s : State) (die engine : Nat) : Agent :=
  ⟨die, 0x100 + engine, 3, rg s 0x4004 (16 * die + engine + 1), 0⟩

/-- The unit of a base die's collective engine. -/
def collUnit (s : State) (die : Nat) : Agent := ⟨die, 0x200, 2, rg s 0x4005 1, 0⟩

/-- The unit of a base die's fabric router. -/
def routerUnit (s : State) (die : Nat) : Agent := ⟨die, 0x300, 2, rg s 0x4005 1, 0⟩

/-- The unit of host copies, sequencer fetch and module state, in partition 15. -/
def moduleUnit : Agent := ⟨0, 0x400, 4, 15, 0⟩

/-! ## Stacks -/

/-- Stack k. -/
def stackOf (s : State) (k : Nat) : Stack := at_ {} k s.mem.stackSt

/-- Stack k replaced. -/
def withStack (k : Nat) (x : Stack) (s : State) : State :=
  { s with mem := { s.mem with stackSt := set_ {} k x s.mem.stackSt } }

/-- The stack status word of 0x4001 (R231). -/
def stackStatus (x : Stack) : Nat :=
  x.state * 2 ^ 28 + (x.repaired.foldl (fun n p => n + p.2) 0) * 2 ^ 21 + x.temp * 2 ^ 13 + x.mult * 2 ^ 11

/-- A stack failed (R223, R482, R532): its state, a fault event and FAULTED. -/
def failStack (k : Nat) (s : State) : State :=
  toFaulted 0x03200003 3 (leBytes 1 k ++ List.replicate 7 0xFF)
    (withStack k { stackOf s k with state := 5 } s)

end Sys2Proof.Machine
end

