-- ==== Sys2Proof/Machine/Packets.lean ====
section
/-! DEFINITION. Packets (R27, R28, R30, R33, R209): the header's layout, what a packet type may carry, how packets
lie in a unit or transfer, and the requests that memory packets make.

Choices beyond the manual's plain words (notes/assumptions): DEDUCED 124; DESIGN CHOICE 71. -/

namespace Sys2Proof.Machine

/-- The 128-bit header as a number (R27). -/
def packetWord (p : Packet) : Nat :=
  p.ptype * 2 ^ 124 + p.cls * 2 ^ 121 + (if p.reserved then 2 ^ 120 else 0) + p.dstDie * 2 ^ 115
    + p.dstEp * 2 ^ 104 + p.srcDie * 2 ^ 99 + p.srcEp * 2 ^ 88 + p.tag * 2 ^ 76 + p.granules * 2 ^ 72
    + p.addr * 2 ^ 31 + p.attr.toNat

/-- The fields of a 128-bit header (R27). -/
def packetOf (w : Nat) : Packet where
  ptype := bits 127 124 w
  cls := bits 123 121 w
  reserved := bit 120 w
  dstDie := bits 119 115 w
  dstEp := bits 114 104 w
  srcDie := bits 103 99 w
  srcEp := bits 98 88 w
  tag := bits 87 76 w
  granules := bits 75 72 w
  addr := bits 71 31 w
  attr := BitVec.ofNat 31 w

/-- The header as bytes: bits [127:120] first (R27). -/
def packetBytes (p : Packet) : Bytes := (leBytes 16 (packetWord p)).reverse

/-- The granules of receiver credit of a packet (R30). -/
def packetGranules (p : Packet) : Nat := ceilDiv (16 + 32 * p.granules) 32

/-- The classes a packet type travels in (R27, R234). -/
def classesOf : Nat → List Nat
  | 0x1 => [2, 3, 4]
  | 0x2 => [2, 3, 4]
  | 0x3 => [2, 3, 4]
  | 0x4 => [2, 3, 4]
  | 0x5 => [1]
  | 0x6 => [0, 1, 2, 3, 4]
  | 0x7 => [3]
  | 0x8 => [2]
  | 0x9 => [0]
  | 0xA => [0]
  | _ => []

/-- Fields of the attribute bits of a memory packet (R209). -/
def attrPartition (p : Packet) : Nat := bits 30 27 p.attr.toNat
/-- The byte count. -/
def attrCount (p : Packet) : Nat := bits 26 18 p.attr.toNat
/-- Install the line in the requesting die's shared cache. -/
def attrFill (p : Packet) : Bool := bit 17 p.attr.toNat
/-- The data is poisoned. -/
def attrPoison (p : Packet) : Bool := bit 16 p.attr.toNat
/-- An invalidation, or its acknowledgement. -/
def attrInvalidate (p : Packet) : Bool := bit 15 p.attr.toNat

/-- The byte count of a request: 1 to 256, within one line (R209). -/
def countOk (p : Packet) : Bool := 1 ≤ attrCount p && p.addr % 256 + attrCount p ≤ 256

/-- The attribute bits of a memory packet: those its type does not use are zero (R209). -/
def attrOk (p : Packet) : Bool :=
  match p.ptype with
  | 0x1 => countOk p && bits 16 0 p.attr.toNat == 0 && (!attrFill p || p.cls == 4)
  | 0x2 => bits 30 17 p.attr.toNat == 0 && bits 15 0 p.attr.toNat == 0
  | 0x3 => countOk p && bits 17 0 p.attr.toNat == 0
  | 0x4 => bits 30 16 p.attr.toNat == 0 && bits 14 0 p.attr.toNat == 0 && (!attrInvalidate p || p.tag == 0)
  | _ => true

/-- A packet that R28 accepts: no reserved type, class, die number or length, and no reserved bit set. -/
def packetOk (p : Packet) : Bool :=
  p.ptype ≤ 0xA && p.cls ≤ 4 && !p.reserved && p.dstDie ≤ 19 && p.srcDie ≤ 19 && p.granules ≤ 8 && attrOk p

/-- A packet that the module generates: accepted by R28, in a class of its type (R27). -/
def packetSent (p : Packet) : Bool := packetOk p && (classesOf p.ptype).contains p.cls

/-- A packet discarded by a unit (R28): counted in its die's error counter, and a fault event. -/
def discardPacket (die ep : Nat) (s : State) : State :=
  faultEvent 0x03400004 1 (leBytes 1 die ++ leBytes 2 ep)
    { s with dieErrors := set_ 0 die (at_ 0 die s.dieErrors + 1) s.dieErrors }

/-- The packets of a transfer or unit payload (R33). rest: bytes of data that continue from before. The
packets as far as a pad header, and the bytes that continue in the next. A header does not begin in the
last 8 bytes (notes/assumptions/124.md). -/
def packetsIn : Nat → Nat → Bytes → List Packet × Nat
  | 0, rest, _ => ([], rest)
  | n + 1, rest, b =>
    if b.length ≤ rest then ([], rest - b.length)
    else
      let b := b.drop rest
      let p := packetOf (beNat (b.take 16))
      if b.length < 16 ∨ p.ptype = 0 then ([], 0)
      else
        let r := packetsIn n (32 * p.granules) (b.drop 16)
        (p :: r.1, r.2)

/-- Packets received by a die: the bad ones are discarded by its die agent. What a good packet does is the
command of its own row. -/
def receivePackets (die : Nat) (ps : List Packet) (s : State) : State :=
  (ps.filter (fun p => !packetOk p)).foldl (fun s _ => discardPacket die 0x7FF s) s

/-- The granules of a class that packets consume (R30). -/
def classNeed (ps : List Packet) (c : Nat) : Nat :=
  (ps.filter (fun p => p.cls == c)).foldl (fun n p => n + packetGranules p) 0

/-- The memory request that a packet of type 0x1 or 0x3 makes (R209). -/
def memReqOf (p : Packet) : MemReq :=
  ⟨p.srcDie, p.srcEp, p.tag, p.cls, p.addr, attrCount p, attrPartition p, attrFill p⟩

/-- A number of bits inverted in a byte string: bit b of byte k has number 8k + b. -/
def invertBits (errs : List Nat) (b : Bytes) : Bytes :=
  b.mapIdx (fun k x => errs.foldl (fun y e => if e / 8 = k then y ^^^ (1#8 <<< (e % 8)) else y) x)

end Sys2Proof.Machine
end

