-- ==== Sys2Proof/Machine/Transact.lean ====
section
/-! DEFINITION. Dictionary transactions: what becomes of a request on arrival (R393, R394, R404, R405),
the order of its checks (R11, R415), and one act of change, log entry and answer (R12, R468). Each
object's own rules are a Rule; the families write theirs.

Choices beyond the manual's plain words (notes/assumptions): DEDUCED 19, 20, 21, 28, 41, 157. -/

namespace Sys2Proof.Machine

/-- What an object's own rule says of a write. codes: the abort codes of its conditions, 0 where the
condition holds, in the rule's order. later: the write completes later (R407). log: the object and
encoding the audit log names, where they differ from the request's (R436). -/
structure Rule where
  codes : List Nat := []
  later : Bool := false
  log : Option (Nat × Nat × Bytes) := none
  onReject : State → State := id
  apply : State → State := id
  after : State → State := id

/-- The first failing code in the class order of R11. -/
def firstByClass (cs : List Nat) : Nat :=
  let pick := fun (c : Nat) => cs.find? (fun x => x ≠ 0 && x / 2 ^ 24 == c)
  ((((((pick 6).or (pick 1)).or (pick 3)).or (pick 4)).or (pick 2)).or (pick 5)).getD 0

/-- A code given when a condition fails. -/
def need (ok : Bool) (code : Nat) : Nat := if ok then 0 else code

/-- The row of an object as the module presents it: the KZ-8 layout with COMPAT set (R435). -/
def rowIn (s : State) (idx sub : Nat) : Option ObjRow :=
  match rowOf idx sub with
  | none => none
  | some r =>
    if !s.straps.compat then some r
    else if idx = 0x2000 ∧ sub = 1 then some { r with ten := .wo, max := 255, min := 0 }
    else if idx = 0x2000 ∧ sub = 2 then none
    else if idx = 0x2011 ∧ sub = 1 then some { r with size := 2 }
    else if idx = 0x3040 ∧ sub = 1 then some { r with size := 4, max := 2 ^ 32 - 1 }
    else if idx = 0x3040 ∧ sub = 6 then some { r with size := 4 }
    else if idx = 0x3040 ∧ sub = 7 then none
    else if idx = 0xC000 ∧ sub = 1 then some { r with size := 4 }
    else if idx = 0xC001 then (if sub ≤ 16 then some { r with size := 12 } else none)
    else some r

/-- The highest subindex of an index as the module presents it (R435, R541). -/
def topIn (s : State) (idx : Nat) : Option Nat :=
  match topSub idx with
  | none => none
  | some n =>
    if s.straps.compat && idx == 0x2000 then some 1
    else if s.straps.compat && idx == 0x3040 then some 6
    else if s.straps.compat && idx == 0xC001 then some 16
    else some n

/-- What recovery offers (R444). -/
def offered (s : State) (idx : Nat) (write : Bool) : Bool :=
  !s.sec.recovery || idx == 0x1000 && !write || idx == 0x1100 && !write || idx == 0x9010 || idx == 0x9020
    || (0xF000 ≤ idx && idx ≤ 0xF003 && !write)

/-- The object exists (R419). -/
def objExists (s : State) (idx sub : Nat) (write : Bool) : Bool :=
  offered s idx write && (if sub = 0 then (topIn s idx).isSome else (rowIn s idx sub).isSome)

/-- The access code of an object for a role. Subindex 00 is read-only; partition 15 of a quadrant is
read-only to all roles (R231). -/
def accessOf (s : State) (idx sub : Nat) (r : Role) : Acc :=
  if sub = 0 then .ro
  else if idx = 0x4002 ∧ sub % 16 = 0 then .ro
  else match rowIn s idx sub with
    | some row => accFor row r
    | none => .no

/-- A role may write by this code. -/
def Acc.writes : Acc → Bool
  | .rw => true
  | .wo => true
  | .rwj => true
  | _ => false

/-- A role may read by this code. -/
def Acc.reads : Acc → Bool
  | .ro => true
  | .rw => true
  | .con => true
  | .rwj => true
  | _ => false

/-- What becomes of a request on arrival. -/
inductive Arrival where
  | lost | badTag | again (r : Response) | underWay | taken
deriving DecidableEq, Repr

/-- A module in reset hears nothing; a message of a session that is not established has no valid tag
(R393); a completed request is answered again, one in progress is discarded (R404). -/
def arrival (q : Req) (s : State) : Arrival :=
  let x := sessOf s q.sess
  if s.pwr.inReset then .lost
  else if q.sess ≠ 0 ∧ x.state ≠ .established then .badTag
  else match x.responses.find? (fun r => r.msg == q.msg) with
    | some r => .again r
    | none => if x.inProgress.contains q.msg then .underWay else .taken

/-- The request's message taken from those received. -/
def takeInbox (q : Req) (s : State) : State :=
  let mine := fun (m : PartMsg) => m.sess == q.sess && m.msg == q.msg && m.typ == 1
  let s := match s.ring.inbox.find? mine with
    | some m => noteHead q (m.data.take 5) s
    | none => s
  { s with ring := { s.ring with inbox := s.ring.inbox.filter (fun m => !mine m) } }

/-- A request on arrival: f acts on one that is taken. -/
def onArrival (q : Req) (f : State → State) (s : State) : State :=
  let s := takeInbox q (fresh s)
  match arrival q s with
  | .lost => s
  | .badTag => bump 0x1101 3 1 s
  | .again r => sendRing (.response q.sess q.msg r.code r.data) (bump 0x1101 4 1 s)
  | .underWay => s
  | .taken => f s

/-- A write to the object is pending (R407). -/
def busyObj (s : State) (idx sub : Nat) : Bool :=
  s.sec.pend.any (fun p => pendObject p.kind == (idx, sub))
    || s.ring.transfers.any (fun t => t.toModule && t.idx == idx && t.sub == sub)

/-- The length of a write suits the object (R401). -/
def lengthOk (s : State) (idx sub len : Nat) : Bool :=
  match rowIn s idx sub with
  | none => false
  | some r => if r.size = 0 then 1 ≤ len && len ≤ 67108864 else len == r.size

/-- The value of a write lies in the object's stated range (R9). -/
def inRange (s : State) (idx sub : Nat) (value : Bytes) : Bool :=
  match rowIn s idx sub with
  | none => false
  | some r => r.size = 0 || (r.min ≤ leNat value && leNat value ≤ r.max)

/-- The code of a write: protocol errors first, then existence and access, then the conditions in class order
(R11). Session 0 has no role, so no access column applies to it; its rejection (R394) is of class 0x04. -/
def writeCode (q : Req) (proto idx sub : Nat) (value : Bytes) (r : Rule) (s : State) : Nat :=
  let ss := subsystemOf idx
  let acc := accessOf s idx sub (roleOf s q.sess)
  if proto ≠ 0 then proto
  else if !objExists s idx sub true then 0x01000001
  else if q.sess ≠ 0 ∧ !acc.writes then abort 1 ss 0xFF01
  else firstByClass
    ([need (!gatedObj s idx sub) 0x03900022,
      need (!(acc == .rwj && s.dev ≠ .joined)) (abort 3 ss 0xFF01),
      need (q.sess ≠ 0) 0x04000001,
      need (lengthOk s idx sub value.length) (abort 2 ss 0xFF03)]
      ++ r.codes ++
      [need (inRange s idx sub value) (abort 2 ss 0xFF01),
       need (!busyObj s idx sub) (abort 5 ss 0xFF01),
       need ((sessOf s q.sess).inProgress.length < 16) 0x05000001,
       need (!s.sec.flashFull) 0x05800002])

/-- A request now in progress in its session. -/
def beginReq (q : Req) (s : State) : State :=
  let x := sessOf s q.sess
  withSess q.sess { x with inProgress := addNum q.msg x.inProgress } s

/-- The security island holds the object itself (R408). -/
def islandHeld (idx : Nat) : Bool :=
  (0x1000 ≤ idx && idx ≤ 0x1311) || idx == 0x2000 || idx == 0x2001 || (0x9000 ≤ idx && idx ≤ 0x9040)
    || (0xA000 ≤ idx && idx ≤ 0xA040) || (0xF000 ≤ idx && idx ≤ 0xF003)

/-- An access to an object that a die agent holds, forwarded over the on-package network in class K0 (R25). It is
answered within the command, so no agent ever has two outstanding (R235). -/
def forwardAccess (write : Bool) (idx sub : Nat) (s : State) : State :=
  if islandHeld idx then s else emit (.dictAccess write idx sub) s

/-- An accepted write: applied and, unless it completes later, logged and answered. -/
def acceptWrite (q : Req) (idx sub : Nat) (value : Bytes) (r : Rule) (s : State) : State :=
  let s := forwardAccess true idx sub s
  if r.later then r.apply (beginReq q s)
  else
    let s := r.apply s
    let s := match r.log with
      | some (i, j, v) => auditWrite q i j v s
      | none => auditWrite q idx sub value s
    r.after (respond q 0 [] s)

/-- A dictionary write request. -/
def writeReq (q : Req) (proto idx sub : Nat) (value : Bytes) (rule : State → Rule) (s : State) : State :=
  onArrival q (fun s =>
    let s := noteCommand q (if value.length ≤ 8 then 1 else 3) idx sub s
    let r := rule s
    let code := writeCode q proto idx sub value r s
    if code = 0 then acceptWrite q idx sub value r s else rejectReq q code (r.onReject s)) s

/-- The code of a read: none but access checks; session 0 reads 0x1000 and 0x1100 only (R394). -/
def readCode (q : Req) (proto idx sub : Nat) (s : State) : Nat :=
  let acc := if q.sess = 0 then Acc.ro else accessOf s idx sub (roleOf s q.sess)
  if proto ≠ 0 then proto
  else if !objExists s idx sub false then 0x01000001
  else if q.sess = 0 ∧ idx ≠ 0x1000 ∧ idx ≠ 0x1100 then 0x04000001
  else if !acc.reads then abort 1 (subsystemOf idx) 0xFF02
  else need ((sessOf s q.sess).inProgress.length < 16) 0x05000001

/-- What a gated object reads as (R10, R540). -/
def gatedValue (s : State) (idx sub : Nat) : Bytes :=
  match rowIn s idx sub with
  | some r => zeros r.size
  | none => zeros 1

/-- A write of register-file objects only: the value stored. -/
def storeRule (idx sub : Nat) (value : Bytes) (codes : List Nat) : Rule :=
  { codes := codes, apply := withRg idx sub (leNat value) }

/-- A value as the object's bytes. -/
def asBytes (s : State) (idx sub v : Nat) : Bytes :=
  leBytes (match rowIn s idx sub with | some r => r.size | none => 1) v

/-- Session-scoped values (R421). -/
def ownVal (s : State) (sess idx sub : Nat) : Nat :=
  at_ 0 (keyOf idx sub) (sessOf s sess).ownVals

/-- A session-scoped value set. -/
def withOwnVal (sess idx sub v : Nat) (s : State) : State :=
  let x := sessOf s sess
  withSess sess { x with ownVals := set_ 0 (keyOf idx sub) v x.ownVals } s

end Sys2Proof.Machine
end

