-- ==== Sys2Proof/Machine/MemoryCmds.lean ====
section
/-! DEFINITION. The memory commands: requests at the point of coherence, responses, retirement, refresh,
temperature, scrub, training, the traffic generators, partition and boundary settings.

Choices beyond the manual's plain words (notes/assumptions): DEDUCED 63, 64, 65, 67, 68, 107, 130; DESIGN
CHOICE 9, 120. -/

namespace Sys2Proof.Machine

/-- The controllers of an address accept requests: memory trained, the ring clock there, Run or Still,
and the quadrant's memory not gated (R223, R481, R483, R488). -/
def memServes (s : State) (a : Nat) : Bool :=
  s.mem.trained && s.ring.clock && (s.pwr.cur == .run || s.pwr.cur == .still)
    && !gated s (12 + quadrantOf s a) && !s.pwr.inReset

/-- A request misses the memory-side cache, so the access reaches HBM. -/
def missesCache (s : State) (a : Nat) : Bool := (mscLine s (a / 256)).isNone

/-- Uncorrectable data found in a cache or a write-combining buffer (R225, R226): counted, the sector poisoned, and
a fault event that names the die and the endpoint of the slice or controller. -/
def cacheBad (die ep a : Nat) (s : State) : State :=
  faultEvent 0x03200006 1 (leBytes 1 die ++ leBytes 2 ep)
    (bump 0x4020 6 1 { s with mem := { s.mem with poison := addNum (sectorKey (placeOf s a)) s.mem.poison } })

/-- What the error codes of the requesting die's shared cache report (R225): a line with a bad tag is dropped. -/
def applyShared (a d : Nat) (e : MemEcc) (s : State) : State :=
  let s := if e.sharedCorrected = 0 then s else bump 0x4020 5 e.sharedCorrected s
  let s :=
    if e.sharedUncorrectable ∧ resident s d (a / 256) then
      faultEvent 0x03200006 1 (leBytes 1 (d + 4) ++ leBytes 2 (0x100 + shSlice (a / 256)))
        (bump 0x4020 6 1 { s with mem := { s.mem with shPoison := addNum (a / 32 * 16 + d) s.mem.shPoison } })
    else s
  if e.sharedTag then shDrop d (a / 256) s else s

/-- A bad entry of the snoop filter (R225): the line is invalidated in all twelve dies, and the entry cleared. -/
def applySnoop (a : Nat) (e : MemEcc) (s : State) : State :=
  if e.snoopParity then invalidate (a / 256) (List.range 12) s else s

/-- What the error codes of an access report (R225, R226): of the memory-side cache, whose tag error ends in
FAULTED, of the write-combining data, and, where the access reaches it, of the stack. -/
def applyEcc (a : Nat) (hbm : Bool) (e : MemEcc) (s : State) : State :=
  let c := controllerOf s a
  let fixed := e.cacheCorrected + e.bufferCorrected + if e.tagCorrected then 1 else 0
  let s := if fixed = 0 then s else bump 0x4020 5 fixed s
  let s := if e.tagUncorrectable then toFaulted 0x03200004 7 (leBytes 1 (c / 80)) s else s
  let s := if e.cacheUncorrectable then cacheBad (c / 80) (c % 80) a s else s
  let s := if e.bufferUncorrectable ∧ (wcLine s (a / 256)).isSome then cacheBad (c / 80) (c % 80) a s else s
  if !hbm then s
  else
    let s := if e.corrected then bump 0x4020 1 1 s else s
    let s := if e.onDieReported then bump 0x4020 3 1 s else s
    let s := if e.parityFailures = 0 then s else bump 0x4020 4 (min e.parityFailures 2) s
    if e.uncorrectable ∨ e.onDieUncorrected ∨ 3 ≤ e.parityFailures then poisonSector a s else s

/-- A request remembered by its requester until its answer arrives, with the granules of the whole response reserved
in its receive buffer before it is issued (R27, R30, R235): a write's acknowledgement takes one. -/
def expectAnswer (m : MemReq) (write : Bool) (s : State) : State :=
  { s with mem := { s.mem with
      outstanding := s.mem.outstanding
        ++ [⟨m.die, m.ep, m.tag, write, s.ex.step.running, m.addr, if write then 1 else 1 + ceilDiv m.count 32⟩] } }

/-- A response or acknowledgement sent by the controller of an address (R29). -/
def sendAnswer (m : MemReq) (write : Bool) (s : State) : State :=
  { s with mem := { s.mem with
      answers := s.mem.answers ++ [⟨m.die, m.ep, m.tag, write, m.cls, controllerOf s m.addr⟩] } }

/-- A read served: the access charged on a miss, the line allocated, the fill installed and recorded in
the snoop filter, the response sent with its poison. -/
def serveRead (m : MemReq) (ecc : MemEcc) (s : State) : State :=
  let line := m.addr / 256
  let miss := missesCache s m.addr
  let s := if miss then regCharge (quadrantOf s m.addr) m.partition 256 s else s
  let s := applySnoop m.addr ecc (applyEcc m.addr miss ecc s)
  let s := if miss then mscInstall line { part := m.partition } s else s
  let poison := poisonedIn s m.addr m.count
  let s := match computeDie m.die with
    | some d =>
      let s := applyShared m.addr d ecc s
      if m.fill ∧ m.cls = 4 then installLine line d s else s
    | none => s
  emit (.readResponse m.die m.ep m.tag (bytesAt s m.addr m.count) poison) (sendAnswer m false s)

/-- A write served: merged at the point of coherence, every other holder invalidated; acknowledged at
once when there is none, and otherwise when each has acknowledged (R208). -/
def serveWrite (m : MemReq) (data : Bytes) (s : State) : State :=
  let line := m.addr / 256
  let s := coherentWrite m data s
  let dies := otherHolders s line m.die
  if dies.isEmpty then emit (.writeAck m.die m.ep m.tag) (sendAnswer m true s)
  else
    invalidate line dies { s with mem := { s.mem with
      invWait := s.mem.invWait ++ [⟨false, m.die, m.ep, m.tag, m.cls, line, dies⟩] } }

/-- An earlier write waits that a write must not pass: to the same line (R211), or at the same controller for room
in its buffer (R239). -/
def writeWaits (s : State) (m : MemReq) (room : Bool) : Bool :=
  s.mem.waiting.any (fun w => w.write && (w.req.addr / 256 == m.addr / 256
    || (room && controllerOf s w.req.addr == controllerOf s m.addr && (wcLine s (w.req.addr / 256)).isNone)))

/-- The write-combining buffer of an address can take a write: its line has an entry that is not being
written to the stack, an entry is free, or the oldest can go (R211, R212, R239, R240). -/
def bufferTakes (s : State) (a : Nat) : Bool :=
  let c := controllerOf s a
  match wcLine s (a / 256) with
  | some e => !e.retiring
  | none =>
    entriesUsed s c < 64
      || (match oldestEntry s c with
          | some e => regAllows s c e.part (entryCost e)
          | none => true)

/-- A request can be served now. A hit in the cache needs no HBM credit. A write needs its buffer, and passes no
earlier write to its line; one to a line that is being written to the stack waits. A read that misses needs its
regulator, with no earlier read of its partition waiting (R218); a read never waits for a write (R233). -/
def canServe (s : State) (m : MemReq) (write : Bool) : Bool :=
  let miss := missesCache s m.addr
  if write then
    let whole := m.addr % 256 == 0 && m.count == 256
    let held := (wcLine s (m.addr / 256)).isSome
    !writeWaits s m (miss && !whole && !held)
      && (!miss || (if whole then !(wcLine s (m.addr / 256)).any (fun e => e.retiring) else bufferTakes s m.addr))
  else
    !miss || (!s.mem.waiting.any (fun w => !w.write && quadrantOf s w.req.addr == quadrantOf s m.addr
          && w.req.partition == m.partition)
      && regAllows s (controllerOf s m.addr) m.partition 256)

/-- A request left in its controller's receive queue of its class (R234). -/
def waitRequest (w : WaitingReq) (s : State) : State :=
  { s with mem := { s.mem with waiting := s.mem.waiting ++ [w] } }

/-- A controller's receive queue of a class (R234), oldest first. -/
def queueOf (s : State) (c cls : Nat) : List WaitingReq :=
  s.mem.waiting.filter (fun w => controllerOf s w.req.addr == c && w.req.cls == cls)

/-- The waiting requests tried again in arrival order (R218). -/
def drainWaits (s : State) : State :=
  let ws := s.mem.waiting
  ws.foldl (fun s w =>
      if memServes s w.req.addr && canServe s w.req w.write then
        (if w.write then serveWrite w.req w.data s else serveRead w.req w.ecc s)
      else waitRequest w s)
    { s with mem := { s.mem with waiting := [] } }

/-- Who reaches an address (R203): any unit tenant memory; the score image is read by the sequencers of compute dies
and by the security islands, which also write it; module working state is the islands'; the module test area
is reached by no packet (notes/assumptions/130.md). -/
def reaches (die ep a : Nat) (write : Bool) : Bool :=
  let island := (die == 0 || die == 2) && ep == 0x400
  if a < tenantTop then true
  else if a < 0x16740000000 then island || (!write && 4 ≤ die && die < 16)
  else a < 0x16760000000 && island

/-- A packet that its sender can have sent (R27, R203): of this type, in a class of the type, to an address that it
reaches, with a tag that none of its outstanding requests has. -/
def requestSent (s : State) (p : Packet) (write : Bool) : Bool :=
  p.ptype == (if write then 3 else 1) && packetSent p && reaches p.srcDie p.srcEp p.addr write
    && !s.mem.outstanding.any (fun o => o.die == p.srcDie && o.ep == p.srcEp && o.tag == p.tag)

/-- A packet of the memory system that R28 refuses, discarded by the controller of its address. -/
def discardRequest (p : Packet) (s : State) : State :=
  let c := controllerOf s p.addr
  discardPacket (c / 80) (c % 80) s

/-- MEMORY_READ_REQUEST (R207, R209, R218). An address of the unmapped range is reached by nothing. -/
def execMemoryReadRequest (p : Packet) (ecc : MemEcc) (s : State) : Out :=
  if memTop ≤ p.addr then .fault .unmappedAddress
  else
    let s := fresh s
    let m := memReqOf p
    .next (if !memServes s p.addr then s
      else if !packetOk p then discardRequest p s
      else if !requestSent s p false then s
      else
        let s := expectAnswer m false s
        if canServe s m false then serveRead m ecc s else waitRequest ⟨m, ecc, false, []⟩ s)

/-- MEMORY_WRITE (R208, R211). The write itself merges without HBM credit; its retirement is charged. -/
def execMemoryWrite (p : Packet) (data : Bytes) (s : State) : Out :=
  if memTop ≤ p.addr then .fault .unmappedAddress
  else
    let s := fresh s
    let m := memReqOf p
    .next (if !memServes s p.addr then s
      else if !packetOk p then discardRequest p s
      else if !requestSent s p true then s
      else
        let s := expectAnswer m true s
        if canServe s m true then serveWrite m data s else waitRequest ⟨m, .clean, true, data⟩ s)

/-- An answer on its way is the next of its stream (R29): the first of its class from its sender to its requester. -/
def answerDue (s : State) (die ep tag : Nat) (write : Bool) : Option Answer :=
  match s.mem.answers.find? (fun x => x.die == die && x.ep == ep && x.tag == tag && x.write == write) with
  | none => none
  | some x =>
    if s.mem.answers.find? (fun y => y.die == die && y.ep == ep && y.cls == x.cls && y.sender == x.sender) = some x
    then some x else none

/-- An outstanding request answered: its answer has arrived, and its reservation is free again. -/
def answered (die ep tag : Nat) (write : Bool) (s : State) : State :=
  { s with mem := { s.mem with
      answers := s.mem.answers.filter (fun o => ¬(o.die = die ∧ o.ep = ep ∧ o.tag = tag ∧ o.write = write))
      outstanding := s.mem.outstanding.filter
        (fun o => ¬(o.die = die ∧ o.ep = ep ∧ o.tag = tag ∧ o.write = write)) } }

/-- MEMORY_READ_RESPONSE (R29, R209, R226): the requester takes the response it waits for; poisoned data
received for a step sets the step's error flag. -/
def execMemoryReadResponse (die ep tag : Nat) (_data : Bytes) (poison : Bool) (s : State) : Out :=
  let s := fresh s
  .next (match answerDue s die ep tag false,
      s.mem.outstanding.find? (fun o => o.die == die && o.ep == ep && o.tag == tag && !o.write) with
    | some _, some o =>
      let s := answered die ep tag false s
      if poison then
        let s := match computeDie die with
          | some d =>
            if resident s d (o.addr / 256) then
              { s with mem := { s.mem with shPoison := addNum (o.addr / 32 * 16 + d) s.mem.shPoison } }
            else s
          | none => s
        if o.step then poisonRead o.addr s else s
      else s
    | _, _ => s)

/-- A write whose last invalidation has been acknowledged is acknowledged (R208). -/
def ackWrite (s : State) (w : WaitingWrite) : State :=
  if w.own then s
  else emit (.writeAck w.die w.ep w.tag)
    (sendAnswer ⟨w.die, w.ep, w.tag, w.cls, 256 * w.line, 1, 0, false⟩ true s)

/-- WRITE_ACKNOWLEDGEMENT (R29, R208): of a write, which its requester no longer waits for; or of an
invalidation, after the last of which the write that caused it is acknowledged. -/
def execWriteAcknowledgement (die ep tag : Nat) (inv : Bool) (addr : Nat) (s : State) : Out :=
  let s := fresh s
  .next (if !inv then (if (answerDue s die ep tag true).isSome then answered die ep tag true s else s)
    else
      let line := addr / 256
      let d := die - 4
      let upd := s.mem.invWait.map (fun w => if w.line = line then { w with dies := dropNum d w.dies } else w)
      let done := upd.filter (fun w => w.dies.isEmpty)
      let s := { s with mem := { s.mem with invWait := upd.filter (fun w => !w.dies.isEmpty) } }
      done.foldl ackWrite s)

/-- Entries whose microsecond has passed begin their retirement (R212). -/
def retireDue (s : State) : State :=
  (s.mem.wc.filter (fun e => !e.retiring && e.first + 1000 ≤ s.pwr.time)).foldl (fun s e => retireOrMark e s) s

/-- WRITE_COMBINE_TIMEOUT (R212): 1 µs after its first write an entry is retired to the stack, when its
partition's regulator allows it (R240); until then it stays. -/
def execWriteCombineTimeout (controller line : Nat) (s : State) : Out :=
  let s := fresh s
  .next (match s.mem.wc.find? (fun e => e.controller == controller && e.line == line) with
    | none => s
    | some e =>
      if s.pwr.time < e.first + 1000 then s
      else retireOrMark e s)

/-- HBM_REFRESH (R202, R482): a bank of a stack refreshed; the time is kept. In Stow the stacks are
unpowered, in self-refresh they take no per-bank refresh, and without the ring clock refresh stops (R481). -/
def execHbmRefresh (stack bank : Nat) (s : State) : Out :=
  let s := fresh s
  .next (if 20 ≤ stack ∨ s.pwr.cur = .stow ∨ (stackOf s stack).state = 4 ∨ !s.ring.clock then s
    else withStack stack
      { stackOf s stack with lastRefresh := s.pwr.time, nextBank := (bank + 1) % 32 } s)

/-- The refresh multiplier that follows a temperature, with 2 °C of hysteresis (R202, R224). -/
def refreshMult (old temp : Nat) : Nat :=
  if 95 < temp ∨ (old = 2 ∧ 93 < temp) then 2
  else if 85 < temp ∨ (1 ≤ old ∧ 83 < temp) then 1
  else 0

/-- One stack's readout: temperature and multiplier; a thermal event on passing 95 °C, unless the
stack's block is gated (R488). -/
def readStack (k temp : Nat) (s : State) : State :=
  let x := stackOf s k
  let m := refreshMult x.mult temp
  let s := withStack k { x with temp := temp, mult := m } s
  if m = 2 ∧ x.mult ≠ 2 ∧ !gated s (12 + k / 5) then
    raise 1 0x0012 (leBytes 1 k ++ leBytes 1 temp) s
  else s

/-- HBM_TEMPERATURE_READOUT (R224): every stack, in order; none in Stow. -/
def execHbmTemperatureReadout (temps : List Nat) (s : State) : Out :=
  let s := fresh s
  .next (if s.pwr.cur = .stow then s
    else (temps.zipIdx.take 20).foldl (fun s p => readStack p.2 p.1 s) s)

/-- The address of a sector of a stack under the boundary in force: the inverse of R205 as far as the
fault event needs it, so a finding names its place directly. -/
def scrubLoc (f : ScrubFinding) : Bytes :=
  let l := f.sector / 8
  let pc := (l % 32) ^^^ ((l / 32) % 32)
  let m := l / 32
  leBytes 1 f.stack ++ leBytes 1 (pc / 2) ++ leBytes 1 (pc % 2)
    ++ leBytes 1 (((m / 4) ^^^ (m / 128)) % 32) ++ leBytes 4 (m / 128)

/-- One finding of a scrub: corrected, or poisoned and reported (R225 to R227). -/
def scrubOne (s : State) (f : ScrubFinding) : State :=
  if f.uncorrectable then
    faultEvent 0x03200005 3 (scrubLoc f)
      (bump 0x4020 2 1 { s with mem := { s.mem with
        poison := addNum (f.stack * 2 ^ 32 + f.sector) s.mem.poison } })
  else bump 0x4020 1 1 s

/-- The bytes of a quadrant's five stacks. -/
def quadrantBytes : Nat := 386547056640

/-- The nanoseconds of the scrub interval 0x4030:01. -/
def scrubInterval (s : State) : Nat := rg s 0x4030 1 * 3600000000000

/-- The pass's reads charged to partition 15 of every quadrant (R217, R227). -/
def chargeScrub (s : State) : State :=
  (List.range 4).foldl (fun s q => regCharge q 15 quadrantBytes s) s

/-- PATROL_SCRUB (R227): a pass over trained memory ends, once per interval. -/
def execPatrolScrub (found : List ScrubFinding) (s : State) : Out :=
  let s := fresh s
  .next (if s.mem.trained ∧ s.mem.scrubbed + scrubInterval s ≤ s.pwr.time then
      let s := chargeScrub (bump 0x4030 2 1 (found.foldl scrubOne s))
      { s with mem := { s.mem with scrubbed := s.pwr.time } }
    else s)

/-- One lane group's failures: remapped to its redundant lane, or beyond it (R222, R223). -/
def repairGroup (f : LaneFailure) (s : State) : State :=
  let x := stackOf s f.stack
  let k := f.channel * 4 + f.group
  if f.lanes = 0 then s
  else if at_ 0 k x.repaired + f.lanes ≤ 1 then
    let x := { x with repaired := put k 1 x.repaired }
    audit 0 0x4001 (f.stack + 1) 4 false (leBytes 4 (stackStatus x)) (withStack f.stack x s)
  else withStack f.stack { x with state := 5 } s

/-- An HBM PHY runs at 4.8 GHz, the one output at which its stacks train (R475): M / (R × P) = 48. -/
def hbmPllGood (s : State) (q : Nat) : Bool :=
  let v := at_ (dfltOf 0xA020 (q + 2)) (q + 2) s.pwr.pllInForce
  bits 26 13 v == 48 * bits 31 27 v * (bits 12 10 v + 1)

/-- The stacks after their training: lanes repaired, and each stack ready or failed (R222, R223). -/
def trainStacks (failures : List LaneFailure) (s : State) : State :=
  (List.range 20).foldl (fun s k =>
    let x := stackOf s k
    if x.state = 5 ∨ !hbmPllGood s (k / 5) then withStack k { x with state := 5 } s
    else withStack k { x with state := 2, lastRefresh := s.pwr.time } s)
    (failures.foldl (fun s f => repairGroup f s) s)

/-- The outcome of training: memory ready, or the failed stacks reported and the move abandoned. -/
def trainingDone (s : State) : State :=
  match (List.range 20).filter (fun k => (stackOf s k).state == 5) with
  | [] => withRg 0x4000 4 1 { s with mem := { s.mem with trained := true } }
  | bad =>
    let s := bad.foldl (fun s k => failStack k s) s
    { s with pwr := { s.pwr with moving := false } }

/-- HBM_TRAINING_COMPLETE (R223, R499): repairs made and recorded; every stack trained and 0x4000:04 TRUE,
or the first failed stack named and FAULTED in the power state last reached. Acts only while stacks are
training, after the links have trained. -/
def execHbmTrainingComplete (failures : List LaneFailure) (s : State) : Out :=
  let s := fresh s
  let linksTrain := s.links.any (fun l => l.2.state == 1)
  .next (if ¬ (List.range 20).any (fun k => (stackOf s k).state == 1) ∨ linksTrain then s
    else trainingDone (trainStacks failures s))

/-! ## Traffic generators (R228 to R230) -/

/-- The request's fields in range, and its lines in the area. -/
def genFieldsOk (g : GenReq) : Bool :=
  let base := if g.area = 0 then 9420800 else 0
  let top := 9437184
  let n := if g.lineCount = 0 then top - g.startLine else g.lineCount
  (g.stack < 20 || g.stack == 0xFF) && (g.channel < 16 || g.channel == 0xFF)
    && 1 ≤ g.pseudo && g.pseudo ≤ 3 && g.pattern ≤ 4 && g.area ≤ 1 && 1 ≤ g.passes
    && (g.pattern > 1 || g.seed != 0) && g.seed < 2 ^ 32
    && base ≤ g.startLine && g.startLine + n ≤ top && g.startLine < top

/-- The request as the 32 bytes written to 0x4010:01. -/
def genBytes (op : Nat) (g : GenReq) : Bytes :=
  leBytes 1 g.stack ++ leBytes 1 g.channel ++ leBytes 1 g.pseudo ++ leBytes 1 op ++ leBytes 1 g.pattern
    ++ leBytes 1 g.area ++ leBytes 2 g.passes ++ leBytes 4 g.seed ++ leBytes 4 g.reserved
    ++ leBytes 8 g.startLine ++ leBytes 8 g.lineCount

/-- The request that 32 bytes hold. -/
def genOf (b : Bytes) : GenReq :=
  ⟨leAt b 0 1, leAt b 1 1, leAt b 2 1, leAt b 4 1, leAt b 5 1, leAt b 6 2, leAt b 8 4, leAt b 12 4,
    leAt b 16 8, leAt b 24 8⟩

/-- An address is among the lines a generator request names. -/
def genCovers (s : State) (g : GenReq) (a : Nat) : Bool :=
  let p := placeOf s a
  let n := if g.lineCount = 0 then 9437184 - g.startLine else g.lineCount
  (g.stack == 0xFF || g.stack == p.stack) && (g.channel == 0xFF || g.channel == p.pc / 2)
    && g.pseudo.testBit (p.pc % 2) && g.startLine ≤ p.line && p.line < g.startLine + n

/-- The lines that a generator request names. -/
def genLines (g : GenReq) : Nat := if g.lineCount = 0 then 9437184 - g.startLine else g.lineCount

/-- The pseudo-channels of a quadrant that a generator request selects. -/
def genChannels (g : GenReq) (q : Nat) : Nat :=
  let n := if g.stack = 0xFF then 5 else if g.stack / 5 = q then 1 else 0
  n * (if g.channel = 0xFF then 16 else 1) * (if g.pseudo = 3 then 2 else 1)

/-- A generator pass's accesses charged to partition 15 (R217, R229): written and read, or one of them. -/
def chargeGen (r : GenRun) (s : State) : State :=
  (List.range 4).foldl (fun s q =>
    let n := genChannels r.req q * genLines r.req * 256 * r.req.passes * (if r.op = 0 then 2 else 1)
    if n = 0 then s else regCharge q 15 n s) s

/-- Two requests name a common pseudo-channel line. -/
def genMeets (g h : GenReq) : Bool :=
  (g.stack == h.stack || g.stack == 0xFF || h.stack == 0xFF)
    && (g.channel == h.channel || g.channel == 0xFF || h.channel == 0xFF) && g.pseudo &&& h.pseudo != 0
    && g.startLine < h.startLine + genLines h && h.startLine < g.startLine + genLines g

/-- Every line of h is among those of g. -/
def genHolds (g h : GenReq) : Bool :=
  (g.stack == h.stack || g.stack == 0xFF) && (g.channel == h.channel || g.channel == 0xFF)
    && g.pseudo &&& h.pseudo == h.pseudo
    && g.startLine ≤ h.startLine && h.startLine + genLines h ≤ g.startLine + genLines g

/-- The tested lines hold the data that a check compares with (R228): the last write to any of them wrote this
pattern to all of them. -/
def patternThere (s : State) (g : GenReq) : Bool :=
  match s.mem.tested.find? (fun h => genMeets h g) with
  | some h => genHolds h g && h.pattern == g.pattern && h.seed == g.seed && (h.pattern != 0 && h.pattern != 1 ||
      h.startLine == g.startLine)
  | none => false

/-- The tested lines written with a request's pattern. -/
def noteTested (g : GenReq) (s : State) : State := { s with mem := { s.mem with tested := g :: s.mem.tested } }

/-- The tested lines' contents are undefined after a pass over whole pseudo-channels (R230). -/
def forgetTested (g : GenReq) (s : State) : State :=
  { s with mem := { s.mem with
      cells := s.mem.cells.filter (fun p => !genCovers s g p.1)
      msc := s.mem.msc.map (fun p =>
        (p.1, { p.2 with data := p.2.data.filter (fun b => !genCovers s g b.1) }))
      wc := s.mem.wc.map (fun e => { e with data := e.data.filter (fun b => !genCovers s g b.1) })
      epoch := s.mem.epoch + 1 } }

/-- A running generator stopped: the result is "stopped", and lines of area 1 hold undefined contents. -/
def stopGenerator (s : State) : State :=
  match s.mem.gen with
  | none => s
  | some r =>
    let s := if r.req.area = 1 then forgetTested r.req s else s
    withRg 0x4010 2 4 { s with mem := { s.mem with gen := none } }

/-- The checks and effect of a generator request, in the order of R229. -/
def genRule (op : Nat) (g : GenReq) (s : State) : Rule :=
  { codes :=
      [need s.mem.trained 0x03200002,
       need (s.mem.gen.isNone || op == 3) 0x03200001,
       need (!(g.area == 1 && tenantHere s)) 0x04200001,
       need (g.reserved == 0 && op ≤ 3 && genFieldsOk g) 0x02200002]
    apply := fun s =>
      if op = 3 then stopGenerator s
      else
        let s := if op = 2 ∨ g.area = 1 then s else noteTested g s
        withRg 0x4010 2 1 { s with mem := { s.mem with gen := some ⟨op, g⟩ } } }

/-- A generator request of one operation. -/
def genRequest (op : Nat) (q : Req) (g : GenReq) (s : State) : State :=
  writeReq q 0 0x4010 1 (genBytes op g) (genRule op g) s

/-- GENERATOR_WRITE_READ_CHECK: operation 0 (R228, R229). -/
def execGeneratorWriteReadCheck (q : Req) (g : GenReq) (s : State) : Out := .next (genRequest 0 q g s)

/-- GENERATOR_WRITE: operation 1 (R228, R229). -/
def execGeneratorWrite (q : Req) (g : GenReq) (s : State) : Out := .next (genRequest 1 q g s)

/-- GENERATOR_READ_CHECK: operation 2 (R228, R229). -/
def execGeneratorReadCheck (q : Req) (g : GenReq) (s : State) : Out := .next (genRequest 2 q g s)

/-- GENERATOR_STOP_ALL: operation 3 (R228, R229). -/
def execGeneratorStopAll (q : Req) (g : GenReq) (s : State) : Out := .next (genRequest 3 q g s)

/-- The lines that a check of a request covers in all. -/
def linesChecked (r : GenRun) : Nat :=
  ((List.range 4).foldl (fun n q => n + genChannels r.req q) 0) * genLines r.req * r.req.passes

/-- GENERATOR_COMPLETE (R228, R230): the result, the counts and the first mismatch. symbols: the corrected symbols
per lane; mismatches: the accesses whose data differed after correction. A check of lines that do not hold the
pattern fails. -/
def execGeneratorComplete (symbols : List (Nat × Nat)) (mismatches : Nat) (first : W32) (s : State) : Out :=
  let s := fresh s
  .next (match s.mem.gen with
    | none => s
    | some r =>
      let s := chargeGen r (if r.req.area = 1 then forgetTested r.req s else s)
      let s := { s with mem := { s.mem with gen := none } }
      if r.op = 1 then withRg 0x4010 2 2 s
      else
        let there := r.op == 0 || r.req.area == 1 || patternThere s r.req
        let bad := if there then mismatches else max 1 mismatches
        let s := { s with mem := { s.mem with
          symbols := symbols.foldl (fun m p => set_ 0 p.1 (at_ 0 p.1 m + p.2) m) s.mem.symbols } }
        let s := bump 0x4010 4 bad (bump 0x4010 3 (linesChecked r) s)
        if bad = 0 then withRg 0x4010 2 2 s
        else withRg 0x4010 5 first.toNat (withRg 0x4010 2 3 s))

/-! ## Settings -/

/-- The sum of the rates of partitions 0 to 14 of a quadrant with one setting replaced. -/
def rateSum (s : State) (q p new : Nat) : Nat :=
  (List.range 15).foldl (fun n i => n + if i = p then bits 31 19 new else partRate s q i) 0

/-- A partition setting (R218, R219): reserved bits zero, rate and depth in range, the quadrant's rates
within 5,401 GB/s; the regulator is full after the write. -/
def partitionRule (sub v : Nat) (s : State) : Rule :=
  let q := (sub - 1) / 16
  let p := (sub - 1) % 16
  { codes :=
      [need (bits 17 16 v = 0) 0x0220FF02,
       need (rateSum s q p v ≤ 5401) 0x02200001,
       need (1 ≤ bits 15 0 v) 0x0220FF01]
    apply := fun s => regFill q p (withRg 0x4002 sub v s) }

/-- PARTITION_SETTING_WRITE (R219). -/
def execPartitionSettingWrite (q : Req) (sub : Nat) (value : W32) (s : State) : Out :=
  .next (writeReq q 0 0x4002 sub (leBytes 4 value.toNat) (partitionRule sub value.toNat) s)

/-- The caches and buffers emptied to their stacks. -/
def emptyCaches (s : State) : State :=
  let s := writeBackAll (s.mem.wc.foldl (fun s e => retireEntry e s) s)
  { s with mem := { s.mem with msc := [], shared := [], shPoison := [] } }

/-- A new boundary B (R204): every address is elsewhere, so no cached line stands, and the contents of tenant
memory are undefined. Poison stays with its stack sectors. -/
def boundaryRule (v : Nat) (_ : State) : Rule :=
  { apply := fun s => withRg 0x4000 3 v (forgetRange 0 tenantTop (emptyCaches s)) }

/-- QUADRANT_LOCAL_BOUNDARY_WRITE (R204). -/
def execQuadrantLocalBoundaryWrite (q : Req) (b : Nat) (s : State) : Out :=
  .next (writeReq q 0 0x4000 3 (leBytes 1 b) (boundaryRule b) s)

end Sys2Proof.Machine
end

