-- ==== Sys2Proof/Machine/Links.lean ====
section
/-! DEFINITION. Stack ports (R31 to R34), quadrant links (R36 to R43), and the PLL settings in force (R429, R475,
R476).

Choices beyond the manual's plain words (notes/assumptions): DEDUCED 69, 70, 72, 73, 126, 127; DESIGN CHOICE
125. -/

namespace Sys2Proof.Machine

/-! ## PLL banks -/

/-- The setting in force for a PLL of 0xA020. -/
def pllOf (s : State) (sub : Nat) : Nat := at_ (dfltOf 0xA020 sub) sub s.pwr.pllInForce

/-- The settings of some PLLs come into force (R429). -/
def pllTake (subs : List Nat) (s : State) : State :=
  { s with pwr := { s.pwr with
      pllInForce := subs.foldl (fun m k => set_ (dfltOf 0xA020 k) k (rg s 0xA020 k) m) s.pwr.pllInForce } }

/-- Fields R, M and P of a setting (R428). -/
def pllR (v : Nat) : Nat := bits 31 27 v
/-- The multiplier. -/
def pllM (v : Nat) : Nat := bits 26 13 v
/-- The post divider. -/
def pllP (v : Nat) : Nat := bits 12 10 v + 1

/-- Two VCOs observe the limits of R476: their ratio is not within 0.5 % of an integer from 1 to 12, and
they differ by at least 3 % of the higher. -/
def vcoPairOk (v w : Nat) : Bool :=
  let a := pllM v * pllR w
  let b := pllM w * pllR v
  let hi := max a b
  let lo := min a b
  3 * hi ≤ 100 * (hi - lo)
    && (List.range 12).all (fun i =>
      let n := (i + 1) * lo
      5 * n < 1000 * ((hi - n) + (n - hi)))

/-- The settings in force observe R476: per bank for each pair of islands, and each island alike on the
four base dies. -/
def ratiosOk (s : State) : Bool :=
  (List.range 4).all (fun q =>
    let h := pllOf s (q + 2)
    let l := pllOf s (q + 6)
    let k := pllOf s (q + 10)
    vcoPairOk h l && vcoPairOk h k && vcoPairOk l k
      && h == pllOf s 2 && l == pllOf s 6 && k == pllOf s 10)

/-- A state in which PLL settings have come into force: outside the limits of R476 the manual gives no
behaviour. -/
def settled (before after : State) : Out :=
  if after.pwr.pllInForce ≠ before.pwr.pllInForce ∧ !ratiosOk after then .fault .clockRatioUndefined
  else .next after

/-- Rails above the auxiliary domain are on. -/
def railsOn (s : State) : Bool := !s.pwr.inReset && (s.pwr.cur != .stow || s.pwr.moving)

/-! ## Stack ports (R31 to R34) -/

/-- The receive credit of a stack port per direction, in granules (R33). -/
def stackCredit : Nat → Nat
  | 0 => 16
  | 1 => 16
  | 2 => 256
  | 3 => 256
  | 4 => 512
  | _ => 0

/-- The key of a direction of a stack port. -/
def stackKey (cd port : Nat) (toBase : Bool) : Nat := (8 * cd + port) * 2 + if toBase then 1 else 0

/-- A direction of a stack port. -/
def stackDir (s : State) (cd port : Nat) (toBase : Bool) : StackDir := at_ {} (stackKey cd port toBase) s.mem.ports

/-- A direction of a stack port replaced. -/
def withStackDir (cd port : Nat) (toBase : Bool) (d : StackDir) (s : State) : State :=
  { s with mem := { s.mem with ports := set_ {} (stackKey cd port toBase) d s.mem.ports } }

/-- A transfer: the bytes as sent, the bits inverted, the class and count of the credit wires. -/
structure StackTransfer where
  data : Bytes
  errs : List Nat
  creditClass : Nat
  creditCount : Nat
deriving DecidableEq, Repr

/-- The bits inverted in code word k of a transfer. -/
def wordErrs (x : StackTransfer) (k : Nat) : Nat := (x.errs.filter (fun e => e / 137 = k)).length

/-- What the SECDED code makes of code word k (R31): 0 clean, 1 corrected, 2 uncorrectable. More than two
inverted bits are beyond it: a free value (notes/assumptions/125.md). -/
def wordOutcome (ctr : Nat) (x : StackTransfer) (k : Nat) : Nat :=
  let n := wordErrs x k
  if n ≤ 2 then n else Config.undefWord ctr k % 3

/-- The 16 data bytes that come of code word k when it is not found uncorrectable. -/
def wordData (ctr : Nat) (x : StackTransfer) (k : Nat) : Bytes :=
  if wordErrs x k ≤ 2 then slice x.data (16 * k) 16
  else (List.range 16).map (fun i => BitVec.ofNat 8 (Config.undefWord ctr (16 + 16 * k + i)))

/-- The packets and continuing bytes of a transfer as sent. -/
def stackSent (d : StackDir) (x : StackTransfer) : List Packet × Nat := packetsIn 16 d.sendRest x.data

/-- A transfer that the sender can make: packets the module generates, within the credit it holds (R28, R33), and
credit that the other path's receiver owes. -/
def canTransfer (d back : StackDir) (x : StackTransfer) : Bool :=
  let ps := (stackSent d x).1
  ps.all packetSent
    && (List.range 5).all (fun c => at_ 0 c d.spent + classNeed ps c ≤ stackCredit c)
    && (x.creditCount == 0 || (x.creditClass ≤ 4 && x.creditCount ≤ at_ 0 x.creditClass back.owed))

/-- Credit spent by the sender of packets, and owed by their receiver, which frees the granules on receipt
(notes/assumptions/126.md). -/
def spendStack (ps : List Packet) (d : StackDir) : StackDir :=
  (List.range 5).foldl (fun d c =>
    { d with spent := set_ 0 c (at_ 0 c d.spent + classNeed ps c) d.spent
             owed := set_ 0 c (at_ 0 c d.owed + classNeed ps c) d.owed }) d

/-- Credit returned on the credit wires (R33). -/
def returnStack (c n : Nat) (d : StackDir) : StackDir :=
  { d with spent := set_ 0 c (at_ 0 c d.spent - n) d.spent, owed := set_ 0 c (at_ 0 c d.owed - n) d.owed }

/-- STACK_PORT_TRANSFER (R31 to R34): code words corrected and counted; an uncorrectable one discards the transfer
and moves the module to FAULTED. A transfer that the sender cannot make has no effect. -/
def execStackPortTransfer (cd port : Nat) (toBase : Bool) (data : Bytes) (errs : List Nat) (credit : Nat × Nat)
    (s : State) : Out :=
  let s := fresh s
  let x : StackTransfer := ⟨data, errs, credit.1, credit.2⟩
  let d := stackDir s cd port toBase
  let back := stackDir s cd port !toBase
  .next (if 12 ≤ cd ∨ 8 ≤ port ∨ !railsOn s ∨ x.data.length ≠ 256 ∨ !canTransfer d back x then s
    else
      let ctr := s.freeCtr
      let out := (List.range 16).map (wordOutcome ctr x)
      let sentPs := stackSent d x
      let d := { spendStack sentPs.1 d with sendRest := sentPs.2 }
      let s := withStackDir cd port (!toBase) (returnStack x.creditClass x.creditCount back) (drawn s)
      let singles := (out.filter (· == 1)).length
      let s := if gated s cd then s else bump 0x6E03 (cd + 1) singles s
      if out.contains 2 then toFaulted 0x03400002 6 (leBytes 1 cd ++ leBytes 1 port) (withStackDir cd port toBase d s)
      else
        let got := packetsIn 16 d.takeRest ((List.range 16).flatMap (wordData ctr x))
        receivePackets (if toBase then cd / 3 else cd + 4) got.1
          (withStackDir cd port toBase { d with takeRest := got.2 } s))

/-! ## Quadrant links -/

/-- The base dies of a link, the lower-numbered first (0x6E00). -/
def linkDies : Nat → Nat × Nat
  | 1 => (0, 1)
  | 2 => (0, 2)
  | 3 => (0, 3)
  | 4 => (1, 2)
  | 5 => (1, 3)
  | _ => (2, 3)

/-- Link k. -/
def linkOf (s : State) (k : Nat) : QlLink := at_ {} k s.links

/-- Link k replaced. -/
def withLink (k : Nat) (l : QlLink) (s : State) : State := { s with links := set_ {} k l s.links }

/-- A direction of a link. -/
def dirOf (l : QlLink) (up : Bool) : QlDir := if up then l.up else l.down

/-- A direction of a link replaced. -/
def setDir (up : Bool) (d : QlDir) (l : QlLink) : QlLink :=
  if up then { l with up := d } else { l with down := d }

/-- The status word of a link (0x6E00). -/
def linkStatus (l : QlLink) : Nat := l.state * 2 ^ 28 + l.repaired * 2 ^ 20 + l.exhausted.toNat * 2 ^ 12

/-- A link failed (R42): a fault event and FAULTED. -/
def failLink (k : Nat) (s : State) : State :=
  toFaulted 0x03400003 5 (leBytes 1 k) (withLink k { linkOf s k with state := 4 } s)

/-- A retrain begun (R41, R43): counted; more than 16 within one second fail the link (R42). -/
def beginRetrain (k : Nat) (s : State) : State :=
  let l := linkOf s k
  let now := s.pwr.time
  let recent := now :: l.recent.filter (fun t => now < t + 1000000000)
  let s := bump 0x6E02 k 1 (withLink k { l with state := 3, retrainAt := now, recent := recent } s)
  if 16 < recent.length then failLink k s else s

/-- The receive credit of a quadrant link per direction, in granules (R38). -/
def linkCredit : Nat → Nat
  | 0 => 64
  | 1 => 64
  | 2 => 1024
  | 3 => 1024
  | 4 => 2048
  | _ => 0

/-! ### Units (R36) -/

/-- The control word's fields and the payload's bytes. -/
structure UnitFields where
  kind : Nat
  seq : Nat
  ack : Nat
  creditClass : Nat
  creditCount : Nat
  reserved : Nat
deriving DecidableEq, Repr

/-- The fields of a control word, whose bits [31:24] lie in byte 0. -/
def unitFields (b : Bytes) : UnitFields :=
  let w := beNat (b.take 4)
  ⟨bits 31 30 w, bits 29 20 w, bits 19 10 w, bits 9 7 w, bits 6 2 w, bits 1 0 w⟩

/-- The control word of the fields. -/
def unitWord (f : UnitFields) : Nat :=
  f.kind * 2 ^ 30 + f.seq * 2 ^ 20 + f.ack * 2 ^ 10 + f.creditClass * 2 ^ 7 + f.creditCount * 2 ^ 2 + f.reserved

/-- A unit's CRC-32C over bytes 0 to 123 is that of bytes 124 to 127 (notes/assumptions/127.md: least significant
byte first). -/
def unitCrcGood (b : Bytes) : Bool := leAt b 124 4 == (crc32c (b.take 124)).toNat

/-- The unit of a control word and a 120-byte payload. -/
def unitBytes (w : W32) (payload : Bytes) : Bytes :=
  let body := (leBytes 4 w.toNat).reverse ++ fit 120 payload
  body ++ leBytes 4 (crc32c body).toNat

/-- The unit as it arrives. -/
def arrived (u : QlUnit) (payload : Bytes) : Bytes := invertBits u.errs (unitBytes u.control payload)

/-- The fields as sent. -/
def sentFields (u : QlUnit) : UnitFields := unitFields (leBytes 4 u.control.toNat).reverse

/-- What the receiver finds: a good CRC, a kind that exists and no reserved bit (R36). -/
def unitIntact (b : Bytes) : Bool := unitCrcGood b && (unitFields b).kind ≠ 3 && (unitFields b).reserved == 0

/-- The packets of a payload after a number of continuing bytes. -/
def unitPackets (rest : Nat) (payload : Bytes) : List Packet × Nat := packetsIn 8 rest payload

/-- The sequence numbers that an acknowledgement leaves unacknowledged; one that is not in the buffer
acknowledges nothing new, and a new one starts the wait again (R39). Sequence numbers run modulo 1,024. -/
def ackUnits (d : QlDir) (ack now : Nat) : QlDir :=
  if d.replay.any (fun u => u.1 == ack) then
    { d with replay := (d.replay.dropWhile (fun u => u.1 ≠ ack)).drop 1, lastAck := ack, timer := now }
  else { d with lastAck := ack }

/-- Every unacknowledged data unit of a direction resent (R39), unless one of them has been resent 8 times:
then the link retrains (R41). -/
def resendUnits (k : Nat) (up : Bool) (s : State) : State :=
  let l := linkOf s k
  let d := dirOf l up
  if d.replay.isEmpty then s
  else if d.replay.any (fun u => 8 ≤ u.2) then beginRetrain k s
  else
    let d' := { d with replay := d.replay.map (fun u => (u.1, u.2 + 1)), timer := s.pwr.time }
    emit (.qlResend k up (d.replay.map (fun u => u.1)))
      (bump 0x6E01 k d.replay.length (withLink k (setDir up d' l) s))

/-- The acknowledgement and credit that a unit brings: they concern the other direction's sender (R36,
R38). -/
def takeAckCredit (k : Nat) (up : Bool) (f : UnitFields) (s : State) : State :=
  let l := linkOf s k
  let d := ackUnits (dirOf l !up) f.ack s.pwr.time
  let c := f.creditClass
  let n := min f.creditCount (at_ 0 c d.owed)
  let d := { d with credit := set_ 0 c (at_ 0 c d.credit + n) d.credit, owed := set_ 0 c (at_ 0 c d.owed - n) d.owed }
  withLink k (setDir (!up) d l) s

/-- The unit is one its sender forms (R36, R38): of this kind, and with credit that the receiver at this end owes. -/
def unitFormed (u : QlUnit) (kind : Nat) (back : QlDir) : Bool :=
  let f := sentFields u
  f.kind == kind && f.reserved == 0
    && (f.creditCount == 0 || (f.creditClass ≤ 4 && f.creditCount ≤ at_ 0 f.creditClass back.owed))

/-- The sender's side of a data unit: one of the replay buffer, or a new one with the next sequence number. A new
one needs room in the replay buffer (R40) and credit for its packets (R38). -/
def sendUnit (u : QlUnit) (payload : Bytes) (d : QlDir) (now : Nat) : Option QlDir :=
  let seq := (sentFields u).seq
  let ps := unitPackets d.sendRest (fit 120 payload)
  if d.replay.any (fun x => x.1 == seq) then some d
  else if seq ≠ d.next ∨ 256 ≤ d.replay.length ∨ !ps.1.all packetSent
      ∨ !(List.range 5).all (fun c => classNeed ps.1 c ≤ at_ 0 c d.credit) then none
  else
    some { d with
      next := (d.next + 1) % 1024, replay := d.replay ++ [(seq, 0)]
      timer := if d.replay.isEmpty then now else d.timer
      sendRest := ps.2
      credit := (List.range 5).foldl (fun m c => set_ 0 c (at_ 0 c m - classNeed ps.1 c) m) d.credit }

/-- A link carries units: up, with the ring clock there. -/
def linkWorks (s : State) (k : Nat) : Bool :=
  1 ≤ k && k ≤ 6 && (linkOf s k).state == 2 && s.ring.clock && !s.pwr.inReset

/-- The unit as the receiver judges it: intact and with the sequence number it expects (R39). -/
def unitGood (b : Bytes) (d : QlDir) : Bool := unitIntact b && (unitFields b).seq == d.expected

/-- A unit discarded: one NAK until the expected sequence number arrives (R39). -/
def refuseUnit (u : QlUnit) (s : State) : State :=
  let l := linkOf s u.link
  let d := dirOf l u.up
  if d.nakSent then s
  else emit (.qlNak u.link (!u.up) ((d.expected + 1023) % 1024))
    (withLink u.link (setDir u.up { d with nakSent := true } l) s)

/-- What a data unit brings (R33, R36, R38): its packets, whose granules the receiver frees on receipt. -/
def takeUnit (u : QlUnit) (b : Bytes) (s : State) : State :=
  let l := linkOf s u.link
  let d := dirOf l u.up
  let ps := unitPackets d.takeRest (slice b 4 120)
  let d := { d with
    expected := (d.expected + 1) % 1024, nakSent := false, takeRest := ps.2
    owed := (List.range 5).foldl (fun m c => set_ 0 c (at_ 0 c m + classNeed ps.1 c) m) d.owed }
  let s := takeAckCredit u.link u.up (unitFields b) (withLink u.link (setDir u.up d l) s)
  let dies := linkDies u.link
  receivePackets (if u.up then dies.2 else dies.1) ps.1 s

/-- QL_DATA_UNIT (R37 to R40). A unit that the sender cannot have sent has no effect. -/
def execQlDataUnit (u : QlUnit) (payload : Bytes) (s : State) : Out :=
  let s := fresh s
  let l := linkOf s u.link
  .next (if !linkWorks s u.link || !unitFormed u 0 (dirOf l !u.up) then s
    else match sendUnit u payload (dirOf l u.up) s.pwr.time with
      | none => s
      | some d =>
        let s := withLink u.link (setDir u.up d l) s
        if unitGood (arrived u payload) d then takeUnit u (arrived u payload) s else refuseUnit u s)

/-- An idle or NAK unit that the sender can send (R36): its sequence field is the next to be sent. -/
def bareUnit (u : QlUnit) (kind : Nat) (s : State) : Bool :=
  let l := linkOf s u.link
  linkWorks s u.link && unitFormed u kind (dirOf l !u.up) && (sentFields u).seq == (dirOf l u.up).next

/-- An idle or NAK unit in order ends the wait for the expected sequence number. -/
def clearNak (u : QlUnit) (s : State) : State :=
  let l := linkOf s u.link
  withLink u.link (setDir u.up { dirOf l u.up with nakSent := false } l) s

/-- QL_IDLE_UNIT (R38, R39). -/
def execQlIdleUnit (u : QlUnit) (s : State) : Out :=
  let s := fresh s
  .next (if !bareUnit u 1 s then s
    else if unitGood (arrived u []) (dirOf (linkOf s u.link) u.up) then
      takeAckCredit u.link u.up (unitFields (arrived u [])) (clearNak u s)
    else refuseUnit u s)

/-- QL_NAK_UNIT (R39): the other direction's sender resends from acknowledge + 1. -/
def execQlNakUnit (u : QlUnit) (s : State) : Out :=
  let s := fresh s
  .next (if !bareUnit u 2 s then s
    else if unitGood (arrived u []) (dirOf (linkOf s u.link) u.up) then
      resendUnits u.link (!u.up) (takeAckCredit u.link u.up (unitFields (arrived u [])) (clearNak u s))
    else refuseUnit u s)

/-- QL_REPLAY_TIMEOUT (R39): no new acknowledgement within 1.0 µs. -/
def execQlReplayTimeout (link : Nat) (up : Bool) (s : State) : Out :=
  let s := fresh s
  .next (if !linkWorks s link || s.pwr.time < (dirOf (linkOf s link) up).timer + 1000 then s
    else resendUnits link up s)

/-- A link's quadrant-link PHYs run at 16 GHz (R475). -/
def linkPllGood (s : State) (k : Nat) : Bool :=
  let good := fun (q : Nat) => pllM (pllOf s (q + 10)) == 160 * pllR (pllOf s (q + 10)) * pllP (pllOf s (q + 10))
  good (linkDies k).1 && good (linkDies k).2

/-- A direction after the first training (R38): the sender holds no credit, and the receiver owes its full credit,
which idle units advertise. -/
def freshDir : QlDir := { owed := (List.range 5).map (fun c => (c, linkCredit c)) }

/-- After a training the link is up: after a retrain each sender resends from its oldest unacknowledged
unit (R41). -/
def linkUp (k repaired : Nat) (exhausted : BitVec 8) (s : State) : State :=
  let l := linkOf s k
  let first := l.state = 1
  let fix := fun (d : QlDir) =>
    { d with nakSent := false, timer := s.pwr.time, replay := d.replay.map (fun u => (u.1, 1)) }
  let l' := { l with state := 2, repaired := repaired, exhausted := exhausted
                     up := if first then freshDir else fix l.up, down := if first then freshDir else fix l.down }
  let s := withLink k l' s
  let resend := fun (up : Bool) (d : QlDir) (s : State) =>
    if d.replay.isEmpty then s
    else emit (.qlResend k up (d.replay.map (fun u => u.1))) (bump 0x6E01 k d.replay.length s)
  resend false l'.down (resend true l'.up s)

/-- QL_RETRAIN_COMPLETE (R41, R42): the training ends, of a link that trains or retrains. beyond: a
direction needs more than the redundant lanes of a module. A retrain that completes after its 12 µs fails. -/
def execQlRetrainComplete (link repaired : Nat) (exhausted : BitVec 8) (beyond : Bool) (s : State) : Out :=
  let s := fresh s
  let st := (linkOf s link).state
  if ¬(1 ≤ link ∧ link ≤ 6) ∨ (st ≠ 1 ∧ st ≠ 3) ∨ !s.ring.clock ∨ s.pwr.inReset then .next s
  else
    let t := pllTake [(linkDies link).1 + 10, (linkDies link).2 + 10] s
    settled s (if beyond || !linkPllGood t link || (st == 3 && (linkOf s link).retrainAt + 12000 < s.pwr.time) then failLink link t else linkUp link repaired exhausted t)

/-- QL_RETRAIN_TIMEOUT (R42): a training not complete within 12 µs. -/
def execQlRetrainTimeout (link : Nat) (s : State) : Out :=
  let s := fresh s
  let l := linkOf s link
  .next (if ¬(1 ≤ link ∧ link ≤ 6) ∨ (l.state ≠ 1 ∧ l.state ≠ 3) ∨ s.pwr.inReset
      ∨ s.pwr.time < l.retrainAt + 12000 then s
    else failLink link s)

end Sys2Proof.Machine
end

