-- ==== Sys2Proof/Machine/Descriptor.lean ====
section
/-! DEFINITION. Descriptors (R174 to R181, R190, R543): their fields, traversal, addresses, aliasing
kinds, ranges, and what makes one malformed or out of range. -/

namespace Sys2Proof.Machine

/-- A signed number of n bits. -/
def signed (n v : Nat) : Int := if v < 2 ^ (n - 1) then v else (v : Int) - (2 : Int) ^ n

/-- A dimension entry from its 16 bytes (R174). -/
def dimOf (b : Bytes) : Dim := ⟨leAt b 0 4, signed 64 (leAt b 4 8), leAt b 12 2, leAt b 14 2⟩

/-- A descriptor from its 128 bytes (R174). -/
def descOf (b : Bytes) : Desc :=
  let flags := leAt b 12 2
  { addr := leAt b 0 8
    space := leAt b 8 1
    reserved := leAt b 9 1
    esize := leAt b 10 1
    rank := leAt b 11 1
    materialize := flags.testBit 0
    listMode := flags.testBit 1
    flagsHigh := flags / 4
    listA := leAt b 14 1
    listB := leAt b 15 1
    listDesc := leAt b 16 4
    pad := leAt b 20 4
    limA := leAt b 24 4
    limB := leAt b 28 4
    dims := (List.range 6).map (fun d => dimOf (slice b (32 + 16 * d) 16)) }

/-- The element size in bytes. -/
def elemBytes (d : Desc) : Nat := 2 ^ d.esize

/-- The full extent of a dimension, pads included. -/
def fullExtent (x : Dim) : Nat := x.padLow + x.extent + x.padHigh

/-- The positions of one block (R175). -/
def blockCount (d : Desc) : Nat := d.dims.foldl (fun n x => n * fullExtent x) 1

/-- The valid positions of one block. -/
def validCount (d : Desc) : Nat := d.dims.foldl (fun n x => n * x.extent) 1

/-- The t-th position of a block's traversal, as coordinates (R175). -/
def coords : List Dim → Nat → List Int
  | [], _ => []
  | x :: ds, t => (((t % fullExtent x : Nat) : Int) - x.padLow) :: coords ds (t / fullExtent x)

/-- A position lies within every extent. -/
def validPos (ds : List Dim) (xs : List Int) : Bool :=
  (ds.zip xs).all (fun p => 0 ≤ p.2 && p.2 < p.1.extent)

/-- The displacement of a position from the descriptor's address. -/
def displace (ds : List Dim) (xs : List Int) : Int :=
  (ds.zip xs).foldl (fun n p => n + p.2 * p.1.stride) 0

/-- The dimension that a list coordinate scales. -/
def dimAt (d : Desc) (i : Nat) : Dim := d.dims.getD i ⟨1, 0, 0, 0⟩

/-- The displacement of the block of a list entry (R179). -/
def entryDisplace (d : Desc) (c0 c1 : Nat) : Int :=
  let a := dimAt d d.listA
  let b := dimAt d d.listB
  c0 * a.extent * a.stride + (if d.listB = 0xFF then 0 else c1 * b.extent * b.stride)

/-! ## Aliasing (R177, R178) -/

/-- The dimensions that count for the nesting test, with their full extents; a list-mode destination
multiplies those of its list dimensions by the coordinate limits (R180). -/
def nestDims (d : Desc) (asDest : Bool) : List (Nat × Nat) :=
  (d.dims.zipIdx.map (fun p =>
      let n := fullExtent p.1
      let n := if asDest && d.listMode && p.2 == d.listA then n * d.limA else n
      let n := if asDest && d.listMode && p.2 == d.listB then n * d.limB else n
      (p.1.stride.natAbs, n))).filter (fun p => 1 < p.2)

/-- Pairs inserted by magnitude of stride. -/
def insertStride (p : Nat × Nat) : List (Nat × Nat) → List (Nat × Nat)
  | [] => [p]
  | q :: t => if p.1 < q.1 then p :: q :: t else q :: insertStride p t

/-- Each stride is at least what the smaller ones span. -/
def nests (least : Nat) : List (Nat × Nat) → Bool
  | [] => true
  | p :: t => least ≤ p.1 && nests (p.1 * p.2) t

/-- The nesting test over dimensions. -/
def nestingTest (e : Nat) (ds : List (Nat × Nat)) : Bool := nests e (ds.foldr insertStride [])

/-- The aliasing kinds (R177). -/
inductive Aliasing where
  | none | broadcast | window
deriving DecidableEq, Repr

/-- The kind of a descriptor in a role. -/
def aliasing (d : Desc) (asDest : Bool) : Aliasing :=
  let ds := nestDims d asDest
  if nestingTest (elemBytes d) ds then .none
  else if nestingTest (elemBytes d) (ds.filter (fun p => p.1 ≠ 0)) then .broadcast
  else .window

/-- The roles a descriptor is used in (R178). -/
inductive DescRole where
  | dest | coreSource | engineSource | stream
deriving DecidableEq, Repr

/-- A role admits a descriptor's aliasing kind. -/
def roleAdmits (d : Desc) (r : DescRole) : Bool :=
  match r with
  | .dest => aliasing d true == .none && !(d.listMode && d.materialize)
  | .coreSource => aliasing d false == .none || aliasing d false == .window
  | .engineSource => aliasing d false == .none || aliasing d false == .broadcast
  | .stream => true

/-! ## Well-formed descriptors (R180) -/

/-- The list fields are consistent (R179), given the list descriptor. -/
def listFieldsOk (d : Desc) (list : Option Desc) : Bool :=
  if !d.listMode then
    d.listA == 0 && d.listB == 0 && d.listDesc == 0 && d.limA == 0 && d.limB == 0
  else
    d.listA < d.rank && (d.listB < d.rank || d.listB == 0xFF) && d.listA != d.listB
      && d.listDesc < 2 ^ 19 && 1 ≤ d.limA && (if d.listB == 0xFF then d.limB == 0 else 1 ≤ d.limB)
      && (match list with
          | none => true
          | some l => l.rank == 1 && (l.esize == 2 || l.esize == 3) && !l.listMode
              && l.dims.all (fun x => x.padLow == 0 && x.padHigh == 0))

/-- The address as the descriptor's fields allow it: bits [63:41] zero. -/
def addrFieldOk (d : Desc) : Bool := d.space != 0 || d.addr < 2 ^ 41

/-- A descriptor's own fields conform (R174, R180). -/
def descFieldsOk (d : Desc) (list : Option Desc) : Bool :=
  d.esize ≤ 3 && d.space ≤ 1 && 1 ≤ d.rank && d.rank ≤ 6 && d.reserved == 0 && d.flagsHigh == 0
    && addrFieldOk d
    && d.pad < 2 ^ (8 * min 4 (elemBytes d))
    && d.dims.zipIdx.all (fun p =>
        if p.2 < d.rank then
          1 ≤ p.1.extent && p.1.extent ≤ 16777216 && p.1.stride.natAbs < 2 ^ 41
            && p.1.stride.natAbs % elemBytes d == 0
        else p.1 == ⟨1, 0, 0, 0⟩)
    && d.addr % elemBytes d == 0 && listFieldsOk d list

/-! ## Ranges (R181, R190 to R192) -/

/-- The lowest and the highest displacement of coordinates lo..hi of each dimension. -/
def spanOf (ds : List Dim) (lo hi : Dim → Int) : Int × Int :=
  ds.foldl (fun r x =>
    let a := lo x * x.stride
    let b := hi x * x.stride
    (r.1 + min a b, r.2 + max a b)) (0, 0)

/-- A span widened over every block whose coordinates lie below the limits. -/
def widenList (d : Desc) (r : Int × Int) : Int × Int :=
  if !d.listMode then r
  else
    let a := (d.limA - 1 : Nat) * (dimAt d d.listA).extent * (dimAt d d.listA).stride
    let b := if d.listB = 0xFF then 0
      else (d.limB - 1 : Nat) * (dimAt d d.listB).extent * (dimAt d d.listB).stride
    (r.1 + min 0 a + min 0 b, r.2 + max 0 a + max 0 b)

/-- The span from the lowest to past the highest valid address. -/
def validRange (d : Desc) : Int × Int :=
  let r := widenList d (spanOf d.dims (fun _ => 0) (fun x => x.extent - 1))
  (d.addr + r.1, d.addr + r.2 + elemBytes d)

/-- The span over every address the descriptor can reach; a destination's materialised pads count. -/
def fullRange (d : Desc) (asDest : Bool) : Int × Int :=
  if asDest && d.materialize then
    let r := widenList d (spanOf d.dims (fun x => -(x.padLow : Int)) (fun x => x.extent - 1 + x.padHigh))
    (d.addr + r.1, d.addr + r.2 + elemBytes d)
  else validRange d

/-- Two ranges share a byte. -/
def meet (a b : Int × Int) : Bool := a.1 < b.2 && b.1 < a.2

/-- Every reachable address lies in the descriptor's space (R181). -/
def spanInSpace (d : Desc) (asDest : Bool) : Bool :=
  let r := fullRange d asDest
  0 ≤ r.1 && r.2 ≤ (if d.space = 0 then (tenantTop : Int) else 1048576)

/-- The traversal count, given the entry count of the list (1 without list mode). -/
def traversal (d : Desc) (entries : Nat) : Nat := entries * blockCount d

/-- The entry count of a list-mode descriptor's list. -/
def entryCount (d : Desc) (list : Option Desc) : Nat :=
  if d.listMode then (match list with | some l => (dimAt l 0).extent | none => 0) else 1

/-- A dense descriptor covers one ascending byte range (R190): no pads, no list, and each stride the
previous one times the previous extent, starting from the element size. -/
def denseFrom (next : Int) : List Dim → Bool
  | [] => true
  | x :: t =>
    if x.extent = 1 then denseFrom next t
    else x.stride == next && denseFrom (next * x.extent) t

/-- Dense in the sense of R190. -/
def isDense (d : Desc) : Bool :=
  !d.listMode && d.dims.all (fun x => x.padLow == 0 && x.padHigh == 0) && denseFrom (elemBytes d) d.dims

/-- A copy keeps the order of its elements (R190). -/
def orderPreserving (a b : Desc) : Bool := isDense a && isDense b && a.esize == b.esize

/-- A descriptor describes a flat region of n bytes (R543). -/
def flatRegion (d : Desc) (n : Nat) : Bool := isDense d && validCount d * elemBytes d == n

end Sys2Proof.Machine
end

