-- ==== Sys2Proof/Machine/Groups.lean ====
section
/-! DEFINITION. Node addresses, ranks and groups (R288, R300, R301, R319 to R321) and the holder lists of
glazed data (R359). A function that serves a pending write takes the registers and tables as they were
when the write was accepted. -/

namespace Sys2Proof.Machine

/-- Digit k of a node address. -/
def digit (k a : Nat) : Nat := a / 16 ^ k % 16

/-- An address with digit k replaced. -/
def setDigit (k v a : Nat) : Nat := a - digit k a * 16 ^ k + v * 16 ^ k

/-- The module's address (0x6000:01). -/
def nodeAddr (s : State) : Nat := rg s 0x6000 1

/-- The dimension count D (0x6000:02). -/
def dimCount (s : State) : Nat := rg s 0x6000 2

/-- The planes of a dimension. -/
def planesPer (s : State) : Nat := 32 / max 1 (dimCount s)

/-- An address has this module's fabric number (R288). -/
def sameFabric (s : State) (a : Nat) : Bool := a / 16 ^ dimCount s == nodeAddr s / 16 ^ dimCount s

/-! ## The job map (R300, R301) -/

/-- A coordinate entry: extent, dimension, offset. -/
def coordOf (v : Nat) : Nat × Nat × Nat := (bits 31 27 v, bits 26 24 v, bits 23 20 v)

/-- The coordinates in use: up to the first extent of 0. -/
def jobCoords (regs : List (Nat × Nat)) : List (Nat × Nat × Nat) :=
  ((List.range 5).map (fun j => coordOf (rgIn regs 0x6020 (j + 1)))).takeWhile (fun c => c.1 ≠ 0)

/-- The job size. -/
def jobSize (regs : List (Nat × Nat)) : Nat :=
  let c := jobCoords regs
  if c.isEmpty then 0 else c.foldl (fun n x => n * x.1) 1

/-- The job base. -/
def jobBase (regs : List (Nat × Nat)) : Nat :=
  let b := rgIn regs 0x6020 8
  if b = 0xFFFFFFFF then rgIn regs 0x6000 1 else b

/-- The address of a rank over the coordinates left. -/
def affineFrom (base r : Nat) : List (Nat × Nat × Nat) → Nat
  | [] => base
  | c :: t => affineFrom (setDigit c.2.1 ((c.2.2 + r % c.1) % 16) base) (r / c.1) t

/-- The affine address of a rank. -/
def affineAddr (regs : List (Nat × Nat)) (r : Nat) : Nat := affineFrom (jobBase regs) r (jobCoords regs)

/-- The affine address's rank over the coordinates left, with the weight so far. -/
def affineRankFrom (a : Nat) : Nat → List (Nat × Nat × Nat) → Nat
  | _, [] => 0
  | w, c :: t => ((digit c.2.1 a + 16 - c.2.2) % 16) * w + affineRankFrom a (w * c.1) t

/-- The rank whose affine address an address is. -/
def affineRank (regs : List (Nat × Nat)) (a : Nat) : Option Nat :=
  let cs := jobCoords regs
  let r := affineRankFrom a 1 cs
  if cs.isEmpty then none
  else if r < jobSize regs ∧ affineAddr regs r = a then some r else none

/-- The rank and address of an override entry. -/
def ovRank (w : W64) : Nat := bits 51 32 w.toNat

/-- The address of an override entry. -/
def ovAddr (w : W64) : Nat := bits 19 0 w.toNat

/-- The address of a rank now (R301). -/
def rankAddr (regs : List (Nat × Nat)) (ov : List (Nat × W64)) (r : Nat) : Nat :=
  match ov.find? (fun p => ovRank p.2 == r) with
  | some p => ovAddr p.2
  | none => affineAddr regs r

/-- The rank of an address now: an override's, or the affine one unless it is overridden. -/
def rankOfAddr (regs : List (Nat × Nat)) (ov : List (Nat × W64)) (a : Nat) : Option Nat :=
  match ov.find? (fun p => ovAddr p.2 == a) with
  | some p => some (ovRank p.2)
  | none => match affineRank regs a with
    | some r => if ov.any (fun p => ovRank p.2 == r) then none else some r
    | none => none

/-- The module's own rank. -/
def ownRank (s : State) : Option Nat := rankOfAddr s.regs s.fab.overrides (nodeAddr s)

/-- The module's own affine address: that of its rank, or its own where it has none (R320). -/
def ownAffine (s : State) : Nat :=
  match ownRank s with
  | some r => affineAddr s.regs r
  | none => nodeAddr s

/-- The address that traffic for an affine address goes to (R320). -/
def resolved (s : State) (a : Nat) : Nat :=
  match affineRank s.regs a with
  | some r => rankAddr s.regs s.fab.overrides r
  | none => a

/-! ## Groups (R319 to R321) -/

/-- The tables a reader of groups uses. -/
structure Tables where
  regs : List (Nat × Nat)
  members : List (Nat × W64)
  groups : List (Nat × W64)
  overrides : List (Nat × W64)
deriving DecidableEq, Repr

/-- The tables now. -/
def tablesNow (s : State) : Tables := ⟨s.regs, s.fab.members, s.fab.groups, s.fab.overrides⟩

/-- The tables in force in the running step (R322). -/
def tablesStep (s : State) : Tables := ⟨s.regs, s.ex.force.members, s.ex.force.groups, s.fab.overrides⟩

/-- The tables of a pending write. -/
def tablesPend (p : PendWrite) : Tables := ⟨p.regs, p.members, p.groups, p.overrides⟩

/-- The valid member entries of a group: care mask and pattern. -/
def groupEntries (t : Tables) (g : Nat) : List (Nat × Nat) :=
  let d := (at_ 0 g t.groups).toNat
  let first := bits 47 32 d
  if !d.testBit 63 then []
  else (t.members.filter (fun p => first ≤ p.1 ∧ p.1 < first + bits 31 16 d ∧ p.2.getLsbD 63)).map
    (fun p => (bits 24 20 p.2.toNat, bits 19 0 p.2.toNat))

/-- An entry matches an address. -/
def entryMatches (e : Nat × Nat) (a : Nat) : Bool :=
  (List.range 5).all (fun k => !e.1.testBit k || digit k e.2 == digit k a)

/-- The digit-k values found among the members, ascending. -/
def digitSet (es : List (Nat × Nat)) (k : Nat) : List Nat :=
  (List.range 16).filter (fun v => es.any (fun e => !e.1.testBit k || digit k e.2 == v))

/-- Every address of a product of digit sets, from digit k up. -/
def productFrom : Nat → List (List Nat) → List Nat
  | _, [] => [0]
  | k, vs :: t => vs.flatMap (fun v => (productFrom (k + 1) t).map (fun a => a + v * 16 ^ k))

/-- A group as its digit sets, when it is valid and regular for a member at an affine address. -/
def regularGroup (t : Tables) (self g : Nat) : Option (List (List Nat)) :=
  let es := groupEntries t g
  let sets := (List.range 5).map (digitSet es)
  let d := rgIn t.regs 0x6000 2
  let mem := productFrom 0 sets
  if es.isEmpty then none
  else if mem.all (fun a => es.any (fun e => entryMatches e a)
      && a / 16 ^ d == rgIn t.regs 0x6000 1 / 16 ^ d) && es.any (fun e => entryMatches e self)
  then some sets else none

/-- The stages of a regular group: the dimensions with more than one value, ascending, each with its
values. -/
def stagesOf (sets : List (List Nat)) : List (Nat × List Nat) :=
  (sets.zipIdx.filter (fun p => 1 < p.1.length)).map (fun p => (p.2, p.1))

/-- The position of an address's digit among a stage's values. -/
def ordinal (st : Nat × List Nat) (a : Nat) : Nat := (st.2.idxOf? (digit st.1 a)).getD 0

/-- The stage peers of an address, each with its ordinal. -/
def stagePeers (st : Nat × List Nat) (a : Nat) : List (Nat × Nat) :=
  (st.2.zipIdx.filter (fun p => p.1 ≠ digit st.1 a)).map (fun p => (p.2, setDigit st.1 p.1 a))

/-- The stages of a group in force, or none. -/
def groupStages (t : Tables) (self g : Nat) : List (Nat × List Nat) :=
  match regularGroup t self g with
  | some sets => stagesOf sets
  | none => []

/-- The number of members that a group's digit sets give. -/
def groupSize (sets : List (List Nat)) : Nat := sets.foldl (fun n x => n * x.length) 1

/-! ## Holders (R359) -/

/-- The holder list of an address over a group's stages. -/
def holderList (sts : List (Nat × List Nat)) (x : Nat) : List Nat :=
  sts.flatMap (fun st =>
    (List.range (st.2.length - 1)).map (fun q =>
      setDigit st.1 (st.2.getD ((ordinal st x + q + 1) % st.2.length) 0) x))

/-- The bytes of a stripe. -/
def stripeBytes : Nat := 262144

/-- Holder h of stripe n of an item with table index t. -/
def holderOf (l : List Nat) (bigH t n h : Nat) : Nat :=
  l.getD ((n + t + h * (l.length / max 1 bigH)) % max 1 l.length) 0

/-- The collective a glazed entry names, if the entry is used. -/
def glazedColl (regs : List (Nat × Nat)) (t : Nat) : Option Nat :=
  let v := rgIn regs 0x8001 (t + 1)
  if v = 0xFFFF then none else some v

/-- A secured region: address, length in bytes, glazed entry; none where unused. -/
def securedRegion (regs : List (Nat × Nat)) (r : Nat) : Option (Nat × Nat × Nat) :=
  let v := rgIn regs 0x8002 (r + 1)
  if bits 95 64 v = 0 then none else some (bits 63 0 v, 256 * bits 95 64 v, bits 111 96 v)

/-! ## Pieces (R329) -/

/-- Piece p of n of a range (first, count). -/
def piece (r : Nat × Nat) (n p : Nat) : Nat × Nat :=
  let a := p * r.2 / n
  (r.1 + a, (p + 1) * r.2 / n - a)

/-- R_i for a member: the range before stage i, over the stages given in order. -/
def rangeAt (a : Nat) (r : Nat × Nat) : Nat → List (Nat × List Nat) → Nat × Nat
  | 0, _ => r
  | _, [] => r
  | i + 1, st :: t => rangeAt a (piece r st.2.length (ordinal st a)) i t

/-- The member's share of E elements. -/
def shareOf (sts : List (Nat × List Nat)) (a e : Nat) : Nat × Nat := rangeAt a (0, e) sts.length sts

end Sys2Proof.Machine
end

