-- ==== Sys2Proof/Machine/Float.lean ====
section
/-! DEFINITION. Number formats and exact arithmetic: every finite value is ±m × 2^e, sums and products
are exact, and each rounding is named (R99, R107 to R113, R122, R138).

Choices beyond the manual's plain words (notes/assumptions): DESIGN CHOICE 159. -/

namespace Sys2Proof.Machine

/-- A value: NaN, an infinity, or ±m × 2^e, where m = 0 is a signed zero. -/
inductive Num where
  | nan
  | inf (neg : Bool)
  | fin (neg : Bool) (m : Nat) (e : Int)
deriving DecidableEq, Repr

/-- Positive zero. -/
def numZero : Num := .fin false 0 0

/-- The value is NaN. -/
def numIsNan : Num → Bool
  | .nan => true
  | _ => false

/-- The value is finite. -/
def numIsFin : Num → Bool
  | .fin _ _ _ => true
  | _ => false

/-- The value is zero. -/
def numIsZero : Num → Bool
  | .fin _ m _ => m == 0
  | _ => false

/-- The sign of a value is negative. -/
def numNeg : Num → Bool
  | .nan => false
  | .inf n => n
  | .fin n _ _ => n

/-- The value with its sign inverted. -/
def numFlip : Num → Num
  | .nan => .nan
  | .inf n => .inf !n
  | .fin n m e => .fin (!n) m e

/-- A signed mantissa. -/
def signedMan (neg : Bool) (m : Nat) : Int := if neg then -(m : Int) else m

/-- m × 2^e expressed with the smaller exponent f ≤ e. -/
def lowerTo (m : Nat) (e f : Int) : Nat := m * 2 ^ (e - f).toNat

/-- The exact sum (R107, R109). An exact zero is −0 when both addends are −0, else +0. -/
def numAdd : Num → Num → Num
  | .nan, _ => .nan
  | _, .nan => .nan
  | .inf a, .inf b => if a = b then .inf a else .nan
  | .inf a, .fin _ _ _ => .inf a
  | .fin _ _ _, .inf b => .inf b
  | .fin a m e, .fin b k f =>
    let g := min e f
    let t := signedMan a (lowerTo m e g) + signedMan b (lowerTo k f g)
    if t = 0 then .fin (a && b && m == 0 && k == 0) 0 0 else .fin (t < 0) t.natAbs g

/-- The exact product; an infinity times zero is NaN (R109). -/
def numMul : Num → Num → Num
  | .nan, _ => .nan
  | _, .nan => .nan
  | .inf a, .inf b => .inf (a != b)
  | .inf a, .fin b k _ => if k = 0 then .nan else .inf (a != b)
  | .fin a m _, .inf b => if m = 0 then .nan else .inf (a != b)
  | .fin a m e, .fin b k f => .fin (a != b) (m * k) (e + f)

/-- The first value is less than the second (numbers only). -/
def numLt (x y : Num) : Bool :=
  match numAdd x (numFlip y), x, y with
  | _, .inf a, .inf b => a && !b
  | .inf n, _, _ => n
  | .fin n m _, _, _ => n && m != 0
  | .nan, _, _ => false

/-- The exponent of the leading bit of m × 2^e, for m ≠ 0. -/
def topExp (m : Nat) (e : Int) : Int := (Nat.log2 m : Int) + e

/-- m × 2^e in units of 2^lsb, rounded to nearest with ties to even. -/
def rneUnits (m : Nat) (e lsb : Int) : Nat :=
  if lsb ≤ e then lowerTo m e lsb
  else
    let d := 2 ^ (lsb - e).toNat
    let q := m / d
    let r := m % d
    if d < 2 * r ∨ (2 * r = d ∧ q % 2 = 1) then q + 1 else q

/-- m × 2^e in units of 2^lsb, truncated. -/
def truncUnits (m : Nat) (e lsb : Int) : Nat :=
  if lsb ≤ e then lowerTo m e lsb else m / 2 ^ (lsb - e).toNat

/-- The unit in which a value is held with p significant bits and least exponent emin. -/
def unitOf (p : Nat) (emin : Int) (m : Nat) (e : Int) : Int := max (topExp m e - (p - 1 : Nat)) emin

/-- The magnitude bits of m × 2^e in a binary format of mb fraction bits whose subnormals count units of
2^emin, rounded to nearest even with no upper limit to the exponent. -/
def encodeMag (mb : Nat) (emin : Int) (m : Nat) (e : Int) : Nat :=
  if m = 0 then 0
  else
    let u := unitOf (mb + 1) emin m e
    rneUnits m e u + (u - emin).toNat * 2 ^ mb

/-- The value of magnitude bits of such a format. -/
def decodeMag (mb : Nat) (emin : Int) (neg : Bool) (n : Nat) : Num :=
  let x := n / 2 ^ mb
  let f := n % 2 ^ mb
  if x = 0 then .fin neg f emin else .fin neg (2 ^ mb + f) (emin + (x - 1 : Nat))

/-- An FP32 encoding as a value. -/
def ofW32 (w : W32) : Num :=
  let n := w.toNat % 2 ^ 31
  let neg := w.getLsbD 31
  if 0x7F800000 < n then .nan
  else if n = 0x7F800000 then .inf neg
  else decodeMag 23 (-149) neg n

/-- A value rounded once to FP32, ties to even, subnormals kept, overflow to an infinity (rne32). -/
def toW32 : Num → W32
  | .nan => 0x7FC00000
  | .inf n => if n then 0xFF800000 else 0x7F800000
  | .fin n m e => BitVec.ofNat 32 (min (encodeMag 23 (-149) m e) 0x7F800000 + if n then 2 ^ 31 else 0)

/-- An FP32 encoding is a NaN. -/
def isNan32 (w : W32) : Bool := 0x7F800000 < w.toNat % 2 ^ 31

/-- An FP32 encoding is an infinity. -/
def isInf32 (w : W32) : Bool := w.toNat % 2 ^ 31 == 0x7F800000

/-- An FP32 encoding is finite. -/
def isFin32 (w : W32) : Bool := w.toNat % 2 ^ 31 < 0x7F800000

/-- FP32 sum (R122). -/
def add32 (a b : W32) : W32 := toW32 (numAdd (ofW32 a) (ofW32 b))

/-- FP32 difference. -/
def sub32 (a b : W32) : W32 := toW32 (numAdd (ofW32 a) (numFlip (ofW32 b)))

/-- FP32 product. -/
def mul32 (a b : W32) : W32 := toW32 (numMul (ofW32 a) (ofW32 b))

/-- A × b + c formed exactly and rounded once (VAXPY). -/
def fma32 (a b c : W32) : W32 := toW32 (numAdd (numMul (ofW32 a) (ofW32 b)) (ofW32 c))

/-- A quotient with a sticky last bit, of at least 60 bits. -/
def divNum : Num → Num → Num
  | .nan, _ => .nan
  | _, .nan => .nan
  | .inf _, .inf _ => .nan
  | .inf a, .fin b _ _ => .inf (a != b)
  | .fin a _ _, .inf b => .fin (a != b) 0 0
  | .fin a m e, .fin b k f =>
    if k = 0 then (if m = 0 then .nan else .inf (a != b))
    else if m = 0 then .fin (a != b) 0 0
    else
      let sh := Nat.log2 k + 60
      let q := m * 2 ^ sh / k
      let r := m * 2 ^ sh % k
      .fin (a != b) (2 * q + if r = 0 then 0 else 1) (e - f - sh - 1)

/-- FP32 quotient, correctly rounded. -/
def div32 (a b : W32) : W32 := toW32 (divNum (ofW32 a) (ofW32 b))

/-- The integer square root, found bit by bit from bit k − 1. -/
def isqrtFrom (n : Nat) : Nat → Nat → Nat
  | 0, r => r
  | k + 1, r =>
    let c := r + 2 ^ k
    isqrtFrom n k (if c * c ≤ n then c else r)

/-- FP32 square root, correctly rounded; negative numbers give NaN, −0 stays. -/
def sqrt32 (a : W32) : W32 :=
  match ofW32 a with
  | .nan => 0x7FC00000
  | .inf n => if n then 0x7FC00000 else a
  | .fin n m e =>
    if m = 0 then a
    else if n then 0x7FC00000
    else
      let odd := e % 2 ≠ 0
      let m := if odd then 2 * m else m
      let e := if odd then e - 1 else e
      let big := m * 2 ^ 80
      let r := isqrtFrom big 60 0
      toW32 (.fin false (2 * r + if r * r = big then 0 else 1) (e / 2 - 40 - 1))

/-- 2^k as FP32. -/
def pow2W32 (k : Int) : W32 := toW32 (.fin false 1 k)

/-- 1.0. -/
def one32 : W32 := 0x3F800000

/-- The FP32 value of a natural number. -/
def nat32 (n : Nat) : W32 := toW32 (.fin false n 0)

/-! ## Formats (R99) -/

/-- A format: fraction bits, exponent of the least subnormal, bits, infinity (for E4M3 the code past the
largest finite one), largest finite code, NaN code. -/
structure Fmt where
  mb : Nat
  emin : Int
  width : Nat
  inf : Nat
  top : Nat
  nan : Nat
deriving DecidableEq, Repr

/-- The formats by code; MXFP4 elements are handled apart. -/
def fmtOf : Nat → Fmt
  | 0 => ⟨3, -9, 8, 0x7F, 0x7E, 0x7F⟩
  | 1 => ⟨2, -16, 8, 0x7C, 0x7B, 0x7E⟩
  | 2 => ⟨7, -133, 16, 0x7F80, 0x7F7F, 0x7FC0⟩
  | 3 => ⟨10, -24, 16, 0x7C00, 0x7BFF, 0x7E00⟩
  | _ => ⟨23, -149, 32, 0x7F800000, 0x7F7FFFFF, 0x7FC00000⟩

/-- The bytes of an element of a format (R100). -/
def fmtBytes : Nat → Nat
  | 0 => 1
  | 1 => 1
  | 2 => 2
  | 3 => 2
  | _ => 4

/-- The value of an element's bits. E4M3 has no infinities; its NaN is all ones below the sign. -/
def decodeFmt (code n : Nat) : Num :=
  let f := fmtOf code
  let neg := n.testBit (f.width - 1)
  let mag := n % 2 ^ (f.width - 1)
  if code = 0 then (if mag = 0x7F then .nan else decodeMag 3 (-9) neg mag)
  else if f.inf < mag then .nan
  else if mag = f.inf then .inf neg
  else decodeMag f.mb f.emin neg mag

/-- The value of an operand element; in emulation FP8 subnormals are zeros of the same sign (R168). -/
def operandNum (emu : Bool) (code n : Nat) : Num :=
  match decodeFmt code n with
  | .fin s m e => if emu && code ≤ 1 && m < 2 ^ (fmtOf code).mb then .fin s 0 e else .fin s m e
  | x => x

/-- An element converted to FP32, exactly (R122). -/
def elemW32 (emu : Bool) (code n : Nat) : W32 := toW32 (operandNum emu code n)

/-- An FP32 result of vector arithmetic: in emulation a subnormal is a zero of the same sign (R168). -/
def flush32 (emu : Bool) (w : W32) : W32 :=
  if emu && w.toNat % 2 ^ 31 < 2 ^ 23 then w &&& 0x80000000 else w

/-- A conversion's outcome: the bits, and whether it saturated or overflowed (R112). -/
structure Conv where
  code : Nat
  sats : Nat := 0
  ovfs : Nat := 0
deriving DecidableEq, Repr

/-- An FP32 value converted to a result format other than MXFP4 (R112). -/
def convert (code : Nat) (saturate : Bool) (w : W32) : Conv :=
  let f := fmtOf code
  let sg := fun (neg : Bool) => if neg then 2 ^ (f.width - 1) else 0
  if 4 < code then ⟨if isNan32 w then 0x7FC00000 else w.toNat, 0, 0⟩
  else
    match ofW32 w with
    | .nan => ⟨f.nan, 0, 0⟩
    | .inf n => if saturate then ⟨f.top + sg n, 1, 0⟩ else ⟨f.inf + sg n, 0, 0⟩
    | .fin n m e =>
      let b := encodeMag f.mb f.emin m e
      if b ≤ f.top then ⟨b + sg n, 0, 0⟩
      else if saturate then ⟨f.top + sg n, 1, 0⟩
      else ⟨f.inf + sg n, 0, 1⟩

/-- Stochastic rounding of an FP32 value to BF16 (2) or FP16 (3) with a random word (R138); in emulation
the comparison is of 8 bits (R168). What saturates or overflows counts as in R112 (R133). -/
def stochastic (emu : Bool) (code : Nat) (saturate : Bool) (r : Nat) (w : W32) : Conv :=
  let f := fmtOf code
  let sg := fun (neg : Bool) => if neg then 2 ^ (f.width - 1) else 0
  match ofW32 w with
  | .nan => ⟨f.nan, 0, 0⟩
  | .inf n => ⟨f.inf + sg n, 0, 0⟩
  | .fin n m e =>
    if m = 0 then ⟨sg n, 0, 0⟩
    else
      let u := unitOf (f.mb + 1) f.emin m e
      let lo := truncUnits m e u
      let frac := truncUnits m e (u - 16) - lo * 2 ^ 16
      let up := if emu then 2 ^ 8 ≤ frac / 2 ^ 8 + r / 2 ^ 8 else 2 ^ 16 ≤ frac + r
      let q := if up then lo + 1 else lo
      let b := q + (u - f.emin).toNat * 2 ^ f.mb
      if b ≤ f.top then ⟨b + sg n, 0, 0⟩
      else if saturate then ⟨f.top + sg n, 1, 0⟩
      else ⟨f.inf + sg n, 0, 1⟩

/-! ## MXFP4 (R99, R113) -/

/-- An E2M1 element under an E8M0 scale; scale 0xFF makes it NaN (R109). -/
def decodeMx (scale n : Nat) : Num :=
  if scale = 0xFF then .nan
  else match decodeMag 1 (-1) (n.testBit 3) (n % 8) with
    | .fin s m e => .fin s m (e + scale - 127)
    | x => x

/-- The scale byte of 32 values: 0xFF with a NaN or an infinity among them, else from the largest
magnitude, clamped (R113). -/
def mxScale (ws : List W32) : Nat :=
  if ws.any (fun w => !isFin32 w) then 0xFF
  else
    let top := ws.foldl (fun (a : Option Int) w =>
      match ofW32 w with
      | .fin _ m e => if m = 0 then a else some (max (a.getD (topExp m e)) (topExp m e))
      | _ => a) none
    match top with
    | none => 0
    | some t => (max (-127) (min 127 (t - 2)) + 127).toNat

/-- An element v / 2^X in E2M1, rounded to nearest even and clamped to ±6; counted when clamped. -/
def mxElem (scale : Nat) (w : W32) : Conv :=
  if scale = 0xFF then ⟨0, 0, 0⟩
  else match ofW32 w with
    | .fin n m e =>
      let b := encodeMag 1 (-1) m (e - ((scale : Int) - 127))
      ⟨min b 7 + (if n then 8 else 0), if 7 < b then 1 else 0, 0⟩
    | _ => ⟨0, 0, 0⟩

/-! ## Chunked accumulation (R107) -/

/-- A value truncated toward zero to p significant bits: trunc16, and trunc14 in emulation (R168). -/
def truncSig (p : Nat) : Num → Num
  | .fin n m e =>
    if m < 2 ^ p then .fin n m e
    else .fin n (m / 2 ^ (Nat.log2 m - (p - 1))) (e + (Nat.log2 m - (p - 1) : Nat))
  | x => x

/-- A cell while it sums: accumulator, chunk, products in the chunk, promotions that overflowed, NaNs
that arose. -/
structure Cell where
  acc : W32
  chunk : Num := numZero
  n : Nat := 0
  ovf : Nat := 0
  inv : Nat := 0
deriving DecidableEq, Repr

/-- The chunk promoted into the accumulator: one exact addition, one rounding (R107, R110). -/
def promote (c : Cell) : Cell :=
  let a := ofW32 c.acc
  let r := toW32 (numAdd a c.chunk)
  { c with
    acc := r, n := 0
    ovf := c.ovf + if isInf32 r && numIsFin a && numIsFin c.chunk then 1 else 0
    inv := c.inv + if isNan32 r && !numIsNan a && !numIsNan c.chunk then 1 else 0 }

/-- One product of two operands taken into a cell with p significant bits and chunk length l. Each operation that makes
a NaN counts, so one element may count several times (notes/assumptions/159.md, DESIGN CHOICE). -/
def cellStep (p l : Nat) (c : Cell) (x y : Num) : Cell :=
  let xy := numMul x y
  let inv := if numIsNan xy && !numIsNan x && !numIsNan y then 1 else 0
  let chunk := if c.n = 0 then xy else truncSig p (numAdd c.chunk xy)
  let inv := if c.n ≠ 0 && numIsNan chunk && !numIsNan c.chunk && !numIsNan xy then inv + 1 else inv
  let c := { c with chunk := chunk, n := c.n + 1, inv := c.inv + inv }
  if c.n = l then promote c else c

/-- A cell's whole sum over its operand pairs, in order. -/
def cellSum (p l : Nat) (acc : W32) (ps : List (Num × Num)) : Cell :=
  let c := ps.foldl (fun c xy => cellStep p l c xy.1 xy.2) { acc := acc }
  if c.n = 0 then c else promote c

end Sys2Proof.Machine
end

