-- ==== Sys2Proof/Machine/Functions.lean ====
section
/-! DEFINITION. The functions that the manual gives within an error bound (R132, R141, R168): each is computed here
to some hundreds of bits, and its value in the model is any FP32 value within the bound of the exact result,
which one being a free value of the function and its input (notes/assumptions/7.md).

Choices beyond the manual's plain words (notes/assumptions): DESIGN CHOICE 7. -/

namespace Sys2Proof.Machine

/-- Fraction bits of the fixed-point numbers below. -/
def fixBits : Nat := 512

/-- 1 as a fixed-point number. -/
def fixOne : Nat := 2 ^ 512

/-- The natural logarithm of 2, with 512 fraction bits. -/
def ln2Fix : Nat :=
  0xb17217f7d1cf79abc9e3b39803f2f6af40f343267298b62d8a0d175b8baafa2be7b876206debac98559552fb4afa1b10ed2eae35c138214427573b291169b825

/-- The number π, with 640 fraction bits. -/
def piFix : Nat :=
  0x3243f6a8885a308d313198a2e03707344a4093822299f31d0082efa98ec4e6c89452821e638d01377be5466cf34e90c6cc0ac29b7c97c50dd3f84d5b5b54709179216d5d98979fb1bd1310ba698dfb5ac

/-- The square root of 2/π, with 512 fraction bits. -/
def sqrtTwoOverPiFix : Nat :=
  0xcc42299ea1b284687e59e2805d5c717fa7053e60a24e0db1808e369004c73a5d3bf158aa88fa7b6e47eba75766e9d11bd6284ef2e17c2a264f1d32688be119ff

/-- ±m × 2^e with a number of fraction bits, truncated toward zero. -/
def fixOf (f : Nat) (neg : Bool) (m : Nat) (e : Int) : Int := signedMan neg (truncUnits m e (-(f : Int)))

/-- A fixed-point number as a value. -/
def fixNum (x : Int) : Num := .fin (x < 0) x.natAbs (-512)

/-- The terms z^n / n! from one term on, added up. -/
def expTerms : Nat → Nat → Nat → Nat → Nat → Nat
  | 0, _, _, _, acc => acc
  | k + 1, n, z, t, acc =>
    let t := t * z / (n * fixOne)
    expTerms k (n + 1) z t (acc + t)

/-- 2^x: 2^n × e^(f ln 2) for x = n + f. Far above the format it is an infinity, far below a tiny number. -/
def exp2Fix (x : Int) : Num :=
  let n := x / fixOne
  let f := (x % fixOne).toNat
  if 300 < n then .inf false
  else if n < -400 then .fin false 1 (-400)
  else .fin false (expTerms 130 1 (f * ln2Fix / fixOne) fixOne fixOne) (n - 512)

/-- e^x. -/
def expFix (x : Int) : Num := exp2Fix (x * fixOne / ln2Fix)

/-- A value's fixed-point number; infinities and NaN are not asked for. -/
def numFix : Num → Int
  | .fin n m e => fixOf 512 n m e
  | _ => 0

/-- The terms t^(2j+1) / (2j+1) from one term on, added up. -/
def atanhTerms : Nat → Nat → Nat → Nat → Nat → Nat
  | 0, _, _, _, acc => acc
  | k + 1, n, t2, p, acc => atanhTerms k (n + 2) t2 (p * t2 / fixOne) (acc + p / n)

/-- ln of m / 2^k for the leading bit k of m: twice the inverse hyperbolic tangent of (m − 2^k) / (m + 2^k). -/
def lnMantissa (m : Nat) : Nat :=
  let k := 2 ^ Nat.log2 m
  let t := (m - k) * fixOne / (m + k)
  2 * atanhTerms 170 1 (t * t / fixOne) t 0

/-- log2 of m × 2^e, for m ≠ 0. -/
def log2Fix (m : Nat) (e : Int) : Int := topExp m e * fixOne + (lnMantissa m * fixOne / ln2Fix : Nat)

/-- ln of m × 2^e, for m ≠ 0. -/
def lnFix (m : Nat) (e : Int) : Int := topExp m e * ln2Fix + (lnMantissa m : Nat)

/-- 1/√(m × 2^e), for m ≠ 0. -/
def rsqrtNum (m : Nat) (e : Int) : Num :=
  let odd := e % 2 ≠ 0
  let m := if odd then 2 * m else m
  let e := if odd then e - 1 else e
  .fin false (isqrtFrom (2 ^ 1024 / m) 513 0) (-(e / 2) - 512)

/-- e^−|x| for x = ±m × 2^e, as a fixed-point number. -/
def expNegFix (m : Nat) (e : Int) : Nat := (numFix (expFix (-(fixOf 512 false m e)))).toNat

/-- 1 / (1 + e^−x). -/
def sigmoidNum (neg : Bool) (m : Nat) (e : Int) : Num :=
  let y := expNegFix m e
  if neg then .fin false (max 1 (y * fixOne / (fixOne + y))) (-512)
  else .fin false (fixOne * fixOne / (fixOne + y)) (-512)

/-- tanh x. -/
def tanhNum (neg : Bool) (m : Nat) (e : Int) : Num :=
  let y := expNegFix m (e + 1)
  .fin neg ((fixOne - y) * fixOne / (fixOne + y)) (-512)

/-- The terms x^(2n) / (2n+1)!! from one term on, added up. -/
def erfTerms : Nat → Nat → Nat → Nat → Nat → Nat
  | 0, _, _, _, acc => acc
  | k + 1, n, x2, t, acc =>
    let t := t * x2 / ((2 * n + 1) * fixOne)
    erfTerms k (n + 1) x2 t (acc + t)

/-- erf(|x|/√2) for x up to 14. -/
def erfFix (m : Nat) (e : Int) : Nat :=
  let x := (fixOf 512 false m e).toNat
  let x2 := x * x / fixOne
  let g := (numFix (expFix (-((x2 / 2 : Nat) : Int)))).toNat
  let s := erfTerms 700 1 x2 fixOne fixOne
  sqrtTwoOverPiFix * x / fixOne * g / fixOne * s / fixOne

/-- x Φ(x). Beyond 14 it is x, or nothing, to within far less than the bound. -/
def geluNum (neg : Bool) (m : Nat) (e : Int) : Num :=
  if 4 ≤ topExp m e ∨ 14 * fixOne < (fixOf 512 false m e).toNat then
    (if neg then .fin true 1 (-400) else .fin false (m * 2 ^ 200 - 1) (e - 200))
  else
    let r := erfFix m e
    .fin neg (m * if neg then fixOne - r else fixOne + r) (e - 513)

/-- The terms (−1)^j x^n / n! for every second n from a term on, added up. -/
def trigTerms : Nat → Nat → Nat → Nat → Int
  | 0, _, _, t => t
  | k + 1, n, x2, t => (t : Int) - trigTerms k (n + 2) x2 (t * x2 / ((n + 1) * (n + 2) * fixOne))

/-- |x| less a multiple of 2π, from −π to π, with 512 fraction bits. -/
def reduceAngle (m : Nat) (e : Int) : Int :=
  let r := (fixOf 640 false m e).toNat % (2 * piFix)
  if piFix < r then -(((2 * piFix - r) / 2 ^ 128 : Nat) : Int) else ((r / 2 ^ 128 : Nat) : Int)

/-- sin x. -/
def sinNum (neg : Bool) (m : Nat) (e : Int) : Num :=
  let r := reduceAngle m e
  let y := trigTerms 75 1 (r.natAbs * r.natAbs / fixOne) r.natAbs
  fixNum (if neg != decide (r < 0) then -y else y)

/-- cos x. -/
def cosNum (m : Nat) (e : Int) : Num :=
  let r := reduceAngle m e
  fixNum (trigTerms 75 0 (r.natAbs * r.natAbs / fixOne) fixOne)

/-! ## Within a bound -/

/-- The unit in the last place of a value (R132). -/
def ulpExp (m : Nat) (e : Int) : Int := if m = 0 then -149 else unitOf 24 (-149) m e

/-- An FP32 value no further from y than ulps units in the last place or 2^−bits, whichever is larger. -/
def nearby (ulps : Nat) (bits : Int) (free : Nat) : Num → W32
  | .fin n m e =>
    let u := ulpExp m e
    let t := max ulps (2 ^ (-bits - u).toNat * if -bits < u then 0 else 1)
    let c : Int := (truncUnits m e u : Nat) + 1 - t + (free % (2 * t) : Nat)
    toW32 (.fin (n != decide (c < 0)) c.natAbs u)
  | x => toW32 x

/-- An FP32 value from −1 to 1. -/
def withinOne (free : Nat) : W32 :=
  BitVec.ofNat 32 (free / 2 % 0x3F800001 + if free % 2 = 1 then 2 ^ 31 else 0)

/-- The exact result of a function on ±m × 2^e, m ≠ 0, to far more bits than its bound asks for. -/
def funcNum (code : Nat) (neg : Bool) (m : Nat) (e : Int) : Num :=
  match code with
  | 0 => exp2Fix (fixOf 512 neg m e)
  | 1 => fixNum (log2Fix m e)
  | 2 => expFix (fixOf 512 neg m e)
  | 3 => fixNum (lnFix m e)
  | 4 => divNum (.fin false 1 0) (.fin neg m e)
  | 5 => .fin false (isqrtFrom (lowerTo m e (2 * ((e - 500) / 2))) 520 0) ((e - 500) / 2)
  | 6 => rsqrtNum m e
  | 7 => tanhNum neg m e
  | 8 => sigmoidNum neg m e
  | 9 => geluNum neg m e
  | 10 => sinNum neg m e
  | _ => cosNum m e

/-- The bound of a function in ulp (R132; R168 in emulation), and as an absolute 2^−bits. -/
def funcBound (emu : Bool) (code : Nat) : Nat × Int :=
  if emu then
    match code with
    | 2 => (3, 1000)
    | 3 => (3, 1000)
    | 7 => (3, 1000)
    | 8 => (3, 1000)
    | 9 => (8, 1000)
    | 10 => (3, 1000)
    | 11 => (3, 1000)
    | _ => (1, 1000)
  else
    match code with
    | 2 => (2, 1000)
    | 3 => (2, 1000)
    | 7 => (2, 1000)
    | 8 => (2, 1000)
    | 9 => (4, 126)
    | 10 => (2, 24)
    | 11 => (2, 24)
    | _ => (1, 1000)

/-- The result of a function on a finite input within its bound. Native sine and cosine beyond 2^16 give some value
from −1 to 1. -/
def funcFin (emu : Bool) (code : Nat) (a : W32) (neg : Bool) (m : Nat) (e : Int) : W32 :=
  let free := if emu then Config.vfuncKz8 code a else Config.vfunc code a
  if !emu && (code == 10 || code == 11) && numLt (.fin false 1 16) (.fin false m e) then withinOne free
  else
    let b := funcBound emu code
    nearby b.1 b.2 free (funcNum code neg m e)

/-- b^t for b in (0, 1), within 2 ulp (R141): exp2(t × log2 b). -/
def powBT (b : W32) (t : Nat) : W32 :=
  match ofW32 b with
  | .fin _ m e => nearby 2 1000 (Config.powBT b t) (exp2Fix (t * log2Fix m e))
  | x => toW32 x

end Sys2Proof.Machine
end

