-- ==== Sys2Proof/Machine/Operands.lean ====
section
/-! DEFINITION. Every operand form of a crumb: tile-store ranges, descriptor regions, accumulator tiles,
scalar registers (R98, R104, R119, R124), and errors found in them. -/

namespace Sys2Proof.Machine

/-! ## Tile store, accumulators, scalars -/

/-- An unlisted entry of a site's stores: zero, or a free value of the entry. -/
def unlisted (w : Nat) (x : Site) (i : Nat) : BitVec w :=
  match x.undef with
  | none => 0
  | some e => BitVec.ofNat w (Config.undefWord e i)

/-- An entry of a site's stores set; where unlisted entries are undefined a zero is listed too. -/
def enter {w : Nat} (x : Site) (k : Nat) (v : BitVec w) (m : List (Nat × BitVec w)) : List (Nat × BitVec w) :=
  if x.undef.isSome then put k v m else set_ 0 k v m

/-- A byte of a tile store. -/
def tileByte (x : Site) (a : Nat) : Byte := (lookup a x.tile).getD (unlisted 8 x a)

/-- n bytes of a tile store. -/
def tileBytes (x : Site) (a n : Nat) : Bytes := (List.range n).map (fun i => tileByte x (a + i))

/-- Bytes set in a tile store's list. -/
def setTile (x : Site) (a : Nat) : Bytes → List (Nat × Byte) → List (Nat × Byte)
  | [], c => c
  | b :: t, c => setTile x (a + 1) t (enter x a b c)

/-- Bytes stored in a tile store; words wholly covered lose their uncorrectable state (R119). -/
def storeTile (a : Nat) (data : Bytes) (x : Site) : Site :=
  { x with
    tile := setTile x a data x.tile
    tileBad := x.tileBad.filter (fun w => ¬(a ≤ 8 * w ∧ 8 * w + 8 ≤ a + data.length)) }

/-- The number of an accumulator entry: tile, row, column. -/
def accIx (tile i j : Nat) : Nat := tile * 4096 + i * 64 + j

/-- An accumulator entry. -/
def accAt (x : Site) (tile i j : Nat) : W32 :=
  (lookup (accIx tile i j) x.acc).getD (unlisted 32 x (2 ^ 24 + accIx tile i j))

/-- A whole accumulator tile set from a function; its entries lose their uncorrectable state. -/
def setAccTile (tile : Nat) (f : Nat → Nat → W32) (x : Site) : Site :=
  { x with
    acc := (List.range 4096).foldl
      (fun m n => enter x (tile * 4096 + n) (f (n / 64) (n % 64)) m) x.acc
    accBad := x.accBad.filter (fun w => w / 4096 ≠ tile) }

/-- A scalar register S0 to S15. -/
def scalarAt (x : Site) (r : Nat) : W32 := at_ 0 r x.scalars

/-- A scalar register set. -/
def setScalar (r : Nat) (v : W32) (x : Site) : Site := { x with scalars := set_ 0 r v x.scalars }

/-! ## References (R98) -/

/-- A reference is to a descriptor. -/
def refIsDesc (r : Nat) : Bool := r.testBit 19

/-- The descriptor number of a reference. -/
def refDesc (r : Nat) : Nat := r % 2 ^ 19

/-- The tile-store byte offset of a reference. -/
def refTile (r : Nat) : Nat := 32 * (r % 2 ^ 15)

/-- A descriptor of a score. -/
def scoreDesc (sc : Score) (i : Nat) : Desc :=
  sc.descs.getD i ⟨0, 0, 0, 0, 1, false, false, 0, 0, 0, 0, 0, 0, 0, List.replicate 6 ⟨1, 0, 0, 0⟩⟩

/-- n bytes of the region a reference names, from byte offset o: of the tile store, or of the flat
region of a descriptor (R543). -/
def refBytes (s : State) (sc : Score) (x : Site) (r o n : Nat) : Bytes :=
  if refIsDesc r then bytesAt s ((scoreDesc sc (refDesc r)).addr + o) n
  else tileBytes x (refTile r + o) n

/-- A little-endian number of n bytes of a reference's region. -/
def refNat (s : State) (sc : Score) (x : Site) (r o n : Nat) : Nat := leNat (refBytes s sc x r o n)

/-- Where the region that a reference names begins, in memory or in the tile store. -/
def refBase (sc : Score) (r : Nat) : Nat :=
  if refIsDesc r then (scoreDesc sc (refDesc r)).addr else refTile r

/-- Bytes written by a unit to memory, or to a site's tile store. -/
def storeAt (u : Agent) (key : Nat) (mem : Bool) (a : Nat) (data : Bytes) (s : State) : State :=
  if mem then storeBytes u a data s else withSite key (storeTile a data (siteAt s key)) s

/-- Writes with each that continues the one before it joined to it, so that words and sectors are written whole. -/
def joined : List (Nat × Bytes) → List (Nat × Bytes)
  | [] => []
  | w :: t =>
    match joined t with
    | [] => [w]
    | v :: r => if w.1 + w.2.length = v.1 then (w.1, w.2 ++ v.2) :: r else w :: v :: r

/-- Writes carried out in order. -/
def storeAll (u : Agent) (key : Nat) (mem : Bool) (ws : List (Nat × Bytes)) (s : State) : State :=
  (joined ws).foldl (fun s w => storeAt u key mem w.1 w.2 s) s

/-- Bytes written to the region a reference names: to the executing site's tile store, or to memory. -/
def writeRef (sc : Score) (u : Agent) (key r : Nat) (data : Bytes) (s : State) : State :=
  storeAt u key (refIsDesc r) (refBase sc r) data s

/-- A piece of memory (true) or of the tile store that is read: its address and length. -/
abbrev Piece := Bool × Nat × Nat

/-- Pieces with each that continues the one before it joined to it. -/
def joinedPieces : List Piece → List Piece
  | [] => []
  | w :: t =>
    match joinedPieces t with
    | [] => [w]
    | v :: r => if w.1 = v.1 ∧ w.2.1 + w.2.2 = v.2.1 then (w.1, w.2.1, w.2.2 + v.2.2) :: r else w :: v :: r

/-- The ranges of memory among pieces. -/
def memPieces (ps : List Piece) : List (Nat × Nat) := ps.filterMap (fun p => if p.1 then some p.2 else none)

/-- The first poisoned address that pieces read. -/
def poisonIn (s : State) (ps : List Piece) : Option Nat :=
  (memPieces ps).findSome? (fun r => firstPoison s r.1 r.2)

/-- A word of the tile store known to be uncorrectable lies in pieces. -/
def badIn (x : Site) (ps : List Piece) : Bool :=
  ps.any (fun p => !p.1 && x.tileBad.any (fun w => p.2.1 < 8 * w + 8 && 8 * w < p.2.1 + p.2.2))

/-- Pieces of memory read by a unit (R206, R207, R217). -/
def readPieces (u : Agent) (fill : Option Nat) (ps : List Piece) (s : State) : State :=
  (memPieces ps).foldl (fun s r => readRange u fill r.1 r.2 s) s

/-- The tile-store range of n bytes that a reference names, if it names the tile store. -/
def refRange (r n : Nat) (written : Bool) : List (Nat × Nat × Bool) :=
  if refIsDesc r then [] else [(refTile r, refTile r + n, written)]

/-! ## Store errors (R119) -/

/-- One error found in a store that a crumb reads: a corrected word counted; an uncorrectable word makes
the results in error each time, and is counted and reported once. -/
def storeError (half core key : Nat) (s : State) (e : StoreErr) : State :=
  let x := siteAt s key
  if !e.uncorrectable then bump 0x3021 (if e.accumulator then 3 else 1) 1 s
  else
    let known := if e.accumulator then x.accBad.contains e.word else x.tileBad.contains e.word
    let s := stepDataError 0x03100008 id s
    if known then s
    else
      let x := if e.accumulator then { x with accBad := addNum e.word x.accBad }
        else { x with tileBad := addNum e.word x.tileBad }
      faultEvent 0x03100008 2
        (leBytes 1 half ++ leBytes 1 core ++ leBytes 1 (if e.accumulator then 1 else 0))
        (bump 0x3021 (if e.accumulator then 4 else 2) 1 (withSite key x s))

end Sys2Proof.Machine
end

