-- ==== Sys2Proof/Machine/Crumb.lean ====
section
/-! DEFINITION. Crumb words (R96 to R102, R111, R114 to R116, R125, R139, R182): their fields, the unit
that executes them, the references, tile-store ranges and accumulator tiles they name, what makes one
malformed, out of range, or not self-contained.

Choices beyond the manual's plain words (notes/assumptions): DEDUCED 43, 44, 45, 56. -/

namespace Sys2Proof.Machine

/-- Bits of a crumb word. -/
def cf (c : Crumb) (hi lo : Nat) : Nat := bits hi lo c.word.toNat

/-- The opcode (R96). -/
def opcodeOf (c : Crumb) : Nat := cf c 127 120

/-- The units of a core that execute crumbs (R94). -/
inductive ExecUnit where
  | sequencer | matrix | vector | copy
deriving DecidableEq, Repr

/-- The unit that an opcode names. -/
def execUnitOf (c : Crumb) : ExecUnit :=
  let o := opcodeOf c
  if o = 0 then .sequencer
  else if o < 0x20 then .matrix
  else if o < 0x40 then .vector
  else .copy

/-- The block size of a panel (R100). -/
def blockSize (fmt : Nat) : Nat := if fmt = 4 then 1088 else 2048 * fmtBytes fmt

/-- The size of a 64 × 64 result (R111). -/
def resultSize (fmt : Nat) : Nat := 2 * blockSize fmt

/-- The size of a preload source (R105): format 0 FP32, 1 BF16. -/
def preloadSize (init pf : Nat) : Nat :=
  let e := if pf = 0 then 4 else 2
  if init = 2 then 64 * e else 4096 * e

/-- The elements of a vector operand in a shape (R126): A and D, or B. -/
def vecElems (shape count : Nat) (isB : Bool) : Nat :=
  if isB && 2 ≤ shape then 64 else if shape = 0 then count else 4096

/-- The count of a vector crumb. -/
def vecCount (c : Crumb) : Nat := cf c 117 105 + 1

/-- A vector opcode is a reduction. -/
def isReduction (o : Nat) : Bool := 0x30 ≤ o && o ≤ 0x32

/-- The elements of a vector crumb's destination. -/
def destElems (c : Crumb) : Nat :=
  let shape := cf c 119 118
  if isReduction (opcodeOf c) then (if shape ≤ 1 then 1 else 64) else vecElems shape (vecCount c) false

/-- The references a crumb names, each with the bytes of its region and whether it is written. -/
def refsOf (c : Crumb) : List (Nat × Nat × Bool) :=
  match opcodeOf c with
  | 0x10 =>
    let k := cf c 95 80
    [(cf c 79 60, k * blockSize (cf c 119 117), false), (cf c 59 40, k * blockSize (cf c 116 114), false)]
      ++ (if 2 ≤ cf c 104 103 then [(cf c 39 20, preloadSize (cf c 104 103) (cf c 96 96), false)] else [])
      ++ (if cf c 102 101 = 1 then [(cf c 19 0, resultSize (cf c 100 98), true)] else [])
  | 0x12 => [(cf c 19 0, resultSize (cf c 115 113), true)]
  | 0x13 => if 2 ≤ cf c 115 114 then [(cf c 19 0, preloadSize (cf c 115 114) (cf c 113 113), false)] else []
  | 0x18 =>
    [(cf c 88 69, ceilDiv (cf c 108 89) 32 * blockSize (cf c 119 117), false),
     (cf c 68 49, 512 * cf c 115 109, true)]
  | 0x38 => [(cf c 106 87, 64, false)]
  | 0x40 => []
  | 0x41 => []
  | 0x00 => []
  | _ =>
    let n := fun isB => vecElems (cf c 119 118) (vecCount c) isB
    (if cf c 104 103 = 0 then [(cf c 88 69, n false * fmtBytes (cf c 102 100), false)] else [])
      ++ (if cf c 99 98 = 0 then [(cf c 68 49, n true * fmtBytes (cf c 97 95), false)] else [])
      ++ (if cf c 94 93 = 0 then [(cf c 48 29, destElems c * fmtBytes (cf c 92 90), true)] else [])

/-- The accumulator tiles a flat operand of n elements from tile t spans. -/
def spanAcc (t n : Nat) : List Nat := if n ≤ 4096 then [t] else [t, t + 1]

/-- The accumulator entries that a crumb reads: ranges (first, count) of entry numbers. -/
def accReads (c : Crumb) : List (Nat × Nat) :=
  match opcodeOf c with
  | 0x10 => if cf c 104 103 = 1 then [(4096 * cf c 111 108, 4096)] else []
  | 0x12 => [(4096 * cf c 119 116, 4096)]
  | 0x13 => []
  | 0x18 => []
  | 0x38 => []
  | 0x40 => []
  | 0x41 => []
  | 0x00 => []
  | _ =>
    let n := fun isB => vecElems (cf c 119 118) (vecCount c) isB
    (if cf c 104 103 = 1 then [(4096 * cf c 72 69, n false)] else [])
      ++ (if cf c 99 98 = 1 then [(4096 * cf c 52 49, n true)] else [])

/-- The accumulator tiles a crumb names (R95). -/
def accsOf (c : Crumb) : List Nat :=
  match opcodeOf c with
  | 0x10 => [cf c 111 108]
  | 0x12 => [cf c 119 116]
  | 0x13 => [cf c 119 116]
  | 0x18 => []
  | 0x38 => []
  | 0x40 => []
  | 0x41 => []
  | 0x00 => []
  | _ =>
    let n := fun isB => vecElems (cf c 119 118) (vecCount c) isB
    (if cf c 104 103 = 1 then spanAcc (cf c 72 69) (n false) else [])
      ++ (if cf c 99 98 = 1 then spanAcc (cf c 52 49) (n true) else [])
      ++ (if cf c 94 93 = 1 then spanAcc (cf c 32 29) (destElems c) else [])

/-- The range of a CTRANS: n² × e bytes (R183, R185). -/
def transSize (c : Crumb) : Nat :=
  let e := 2 ^ cf c 119 118
  let n := 32 * 2 ^ cf c 117 115 / e
  n * n * e

/-- The tile-store range of a copy descriptor (R183). -/
def descRange (d : Desc) (asDest : Bool) : List (Nat × Nat × Bool) :=
  if d.space = 1 then
    let r := fullRange d asDest
    [(r.1.toNat, r.2.toNat, asDest)]
  else []

/-- The tile-store range of a copy descriptor's list. -/
def listRange (sc : Score) (d : Desc) : List (Nat × Nat × Bool) :=
  if d.listMode then descRange (scoreDesc sc d.listDesc) false else []

/-- The tile-store ranges a crumb touches, as its word gives them (R95, R183). -/
def rangesOf (sc : Score) (c : Crumb) : List (Nat × Nat × Bool) :=
  match opcodeOf c with
  | 0x40 =>
    let a := scoreDesc sc (cf c 119 101)
    let b := scoreDesc sc (cf c 100 82)
    descRange a false ++ listRange sc a ++ listRange sc b ++ descRange b true
  | 0x41 => [(1024 * cf c 114 105, 1024 * cf c 114 105 + transSize c, true)]
  | _ => (refsOf c).flatMap (fun r => refRange r.1 r.2.1 r.2.2)

/-- Two ranges overlap and one of them is written. -/
def rangeConflict (a b : Nat × Nat × Bool) : Bool :=
  a.1 < b.2.1 && b.1 < a.2.1 && (a.2.2 || b.2.2)

/-! ## Checks at prepare (R97) -/

/-- A reference's reserved bits are zero. -/
def refFormOk (r : Nat) : Bool := refIsDesc r || bits 18 15 r == 0

/-- The descriptor that a unit's reference names is a flat region of memory of n bytes (R98, R543). A count
of 0 describes no region: it is out of range in check 5 (R97). -/
def refDescOk (sc : Score) (r n : Nat) : Bool :=
  n == 0 || !refIsDesc r || sc.descs.length ≤ refDesc r
    || (let d := scoreDesc sc (refDesc r)
        d.space == 0 && flatRegion d n)

/-- A reference lies within the tile store or the descriptors of the score. -/
def refInRange (sc : Score) (r n : Nat) : Bool :=
  if refIsDesc r then refDesc r < sc.descs.length else refTile r + n ≤ 1048576

/-- A vector format code. -/
def vecFmtOk (kind fmt : Nat) : Bool :=
  if kind = 3 then fmt == 0 else if kind = 0 then fmt ≤ 3 || fmt == 5 else fmt == 5

/-- A vector operand field holds zeros where its kind leaves bits unused; scalar sources are S0 to S13. -/
def vecOperandOk (kind v : Nat) : Bool :=
  if kind = 0 then true else if kind = 3 then v == 0 else v < 16 && (kind == 1 || v ≤ 13)

/-- A vector word other than VOPT is well formed (R124 to R129). -/
def vectorOk (c : Crumb) : Bool :=
  let o := opcodeOf c
  let shape := cf c 119 118
  let n := vecCount c
  let ak := cf c 104 103
  let bk := cf c 99 98
  let dk := cf c 94 93
  let binary := o ≤ 0x25 || o == 0x28
  let unary := o == 0x26 || o == 0x27 || o == 0x2A || isReduction o
  let m := cf c 28 0
  (o ≤ 0x2A || isReduction o || o == 0x34)
    && (if o == 0x2A || o == 0x34 then shape == 0 else if o == 0x26 || o == 0x27 || o == 0x29 then shape ≤ 1 else true)
    && (shape == 0 || n == 4096)
    && (if binary then ak != 3 && bk != 3 else if unary then ak != 3 && bk == 3 else ak == 3 && bk == 3)
    && dk != 3
    && vecFmtOk ak (cf c 102 100) && vecFmtOk bk (cf c 97 95) && vecFmtOk dk (cf c 92 90)
    && vecOperandOk ak (cf c 88 69) && vecOperandOk bk (cf c 68 49) && vecOperandOk dk (cf c 48 29)
    && (if dk = 2 then (o == 0x2A || (isReduction o && shape ≤ 1)) && cf c 32 29 ≤ 11 else o != 0x2A)
    && (o != 0x34 || (dk == 0 && cf c 92 90 == 5))
    && (ak != 1 || vecElems shape n false ≤ 4096 || cf c 72 69 ≤ 14)
    && (bk != 1 || vecElems shape n true ≤ 4096 || cf c 52 49 ≤ 14)
    && (dk != 1 || destElems c ≤ 4096 || cf c 32 29 ≤ 14)
    && (if o == 0x27 then cf c 28 24 ≤ 14 && cf c 23 0 == 0
        else if o == 0x28 then cf c 28 25 ≤ 13 && cf c 24 0 == 0
        else if o == 0x29 then true
        else if o == 0x34 then cf c 27 0 == 0
        else m == 0)

/-- A tile-store destination coincides with a source of the same start and format, or meets none (R128). -/
def coincidenceOk (c : Crumb) : Bool :=
  let o := opcodeOf c
  if o < 0x20 ∨ 0x34 < o ∨ cf c 94 93 ≠ 0 then true
  else
    let d := refRange (cf c 48 29) (destElems c * fmtBytes (cf c 92 90)) true
    let src := fun kind ref fmt isB =>
      if kind = 0 then (refRange ref (vecElems (cf c 119 118) (vecCount c) isB * fmtBytes fmt) false).map
        (fun r => (r, fmt)) else []
    d.all (fun x => (src (cf c 104 103) (cf c 88 69) (cf c 102 100) false
        ++ src (cf c 99 98) (cf c 68 49) (cf c 97 95) true).all (fun y =>
      !rangeConflict x y.1 || (x.1 == y.1.1 && x.2.1 == y.1.2.1 && y.2 == cf c 92 90)))

/-- Operand formats of an MMA belong to one family (R101). -/
def familyOk (a b : Nat) : Bool := (a ≤ 1 && b ≤ 1) || ((a == 2 || a == 3) && (b == 2 || b == 3)) || (a == 4 && b == 4)

/-- The word's own fields are well formed (R97). -/
def wordFieldsOk (c : Crumb) : Bool :=
  match opcodeOf c with
  | 0x00 => c.word.toNat == 0
  | 0x10 =>
    let init := cf c 104 103
    let out := cf c 102 101
    familyOk (cf c 119 117) (cf c 116 114) && (cf c 107 105 == 0 || 4 ≤ cf c 107 105) && out ≤ 1
      && (if out = 0 then cf c 100 97 == 0 && cf c 19 0 == 0 else cf c 100 98 ≤ 5)
      && (2 ≤ init || (cf c 96 96 == 0 && cf c 39 20 == 0))
  | 0x12 => cf c 115 113 ≤ 5 && cf c 110 20 == 0
  | 0x13 =>
    cf c 115 114 != 1 && cf c 112 20 == 0 && (cf c 115 114 != 0 || (cf c 113 113 == 0 && cf c 19 0 == 0))
  | 0x18 => (cf c 119 117 ≤ 3 || cf c 119 117 == 5) && cf c 16 0 == 0
  | 0x38 => cf c 57 0 == 0
  | 0x40 => cf c 65 0 == 0
  | 0x41 => cf c 117 115 ≤ 5 && cf c 104 0 == 0
  | o => 0x20 ≤ o && o < 0x40 && vectorOk c && coincidenceOk c

/-- A copy descriptor, or its list, names the tile store. -/
def namesTile (sc : Score) (d : Desc) : Bool := d.space == 1 || (d.listMode && (scoreDesc sc d.listDesc).space == 1)

/-- The two descriptors of a copy fit each other and their roles (R178, R180). -/
def copyPairOk (sc : Score) (src dst : Nat) (srcRole : DescRole) (memoryOnly : Bool) : Bool :=
  let a := scoreDesc sc src
  let b := scoreDesc sc dst
  let ents := fun d => entryCount d (sc.descs[d.listDesc]?)
  roleAdmits a srcRole && roleAdmits b .dest && a.esize == b.esize
    && traversal a (ents a) == traversal b (ents b) && !(memoryOnly && (namesTile sc a || namesTile sc b))

/-- A crumb word is well formed in its score (check 4 of R55). -/
def wordOk (sc : Score) (c : Crumb) : Bool :=
  wordFieldsOk c && (refsOf c).all (fun r => refFormOk r.1 && refDescOk sc r.1 r.2.1)
    && (opcodeOf c != 0x40 || sc.descs.length ≤ cf c 119 101 || sc.descs.length ≤ cf c 100 82
        || copyPairOk sc (cf c 119 101) (cf c 100 82) .coreSource false)

/-- A crumb word stays in range in its score (check 5 of R55). -/
def wordInRange (sc : Score) (c : Crumb) : Bool :=
  (refsOf c).all (fun r => refInRange sc r.1 r.2.1)
    && (match opcodeOf c with
        | 0x10 => 1 ≤ cf c 95 80
        | 0x18 => 1 ≤ cf c 115 109 && cf c 115 109 ≤ 64 && 1 ≤ cf c 108 89
        | 0x40 => cf c 119 101 < sc.descs.length && cf c 100 82 < sc.descs.length
        | 0x41 => 1024 * cf c 114 105 + transSize c ≤ 1048576
        | 0x2A => cf c 32 29 + vecCount c ≤ 12
        | 0x34 => vecCount c == 1
        | _ => true)

/-- A stealable crumb is self-contained, as far as its word shows (R70, R114, R134, R184). -/
def selfContained (sc : Score) (c : Crumb) : Bool :=
  let refs := (refsOf c).all (fun r => refIsDesc r.1)
  match opcodeOf c with
  | 0x00 => true
  | 0x10 => refs && cf c 104 103 != 1 && cf c 102 101 == 1
  | 0x12 => false
  | 0x13 => false
  | 0x18 => refs
  | 0x38 => refs
  | 0x40 => !namesTile sc (scoreDesc sc (cf c 119 101)) && !namesTile sc (scoreDesc sc (cf c 100 82))
  | 0x41 => false
  | o =>
    refs && (accsOf c).isEmpty && cf c 94 93 != 2
      && (cf c 104 103 != 2 || 12 ≤ cf c 72 69) && (cf c 99 98 != 2 || 12 ≤ cf c 52 49)
      && (o != 0x28 || 12 ≤ cf c 28 25)

/-- A crumb uses MXFP4 (R167). -/
def usesMx (c : Crumb) : Bool :=
  (opcodeOf c == 0x10 && (cf c 119 117 == 4 || (cf c 102 101 == 1 && cf c 100 98 == 4)))
    || (opcodeOf c == 0x12 && cf c 115 113 == 4)

end Sys2Proof.Machine
end

