-- ==== Sys2Proof/Machine/Flags.lean ====
section
/-! DEFINITION. The indicators and flags of execution: the core's sticky overflow and invalid indicators
and their counters (R110, R133), conversion counters (R112), the flag word and its checks (R149, R150). -/

namespace Sys2Proof.Machine

/-- Results that overflowed or were invalid on a site: sticky indicators set and counters raised. idx is
0x3020 for the matrix unit, 0x3022 for the vector engine. -/
def noteResults (key idx ovf inv : Nat) (s : State) : State :=
  let x := siteAt s key
  let s := withSite key { x with overflow := x.overflow || ovf != 0, invalid := x.invalid || inv != 0 } s
  let s := if ovf = 0 then s else bump idx 1 ovf s
  if inv = 0 then s else bump idx 2 inv s

/-- Conversions that saturated or overflowed, counted (R112, R113). -/
def noteConversions (sats ovfs : Nat) (s : State) : State :=
  let s := if sats = 0 then s else bump 0x3020 3 sats s
  if ovfs = 0 then s else bump 0x3020 4 ovfs s

/-- Both indicators of a site cleared. -/
def clearIndicators (x : Site) : Site := { x with overflow := false, invalid := false }

/-- The one's complement of an n-bit field. -/
def comp (n v : Nat) : Nat := 2 ^ n - 1 - v % 2 ^ n

/-- The flag word of a member (R149): its state at step start, each field with its complement, and the
error and overflow flags. -/
def flagWord (step e c : Nat) (error overflow : Bool) : W64 :=
  BitVec.ofNat 64
    (comp 16 c * 2 ^ 42 + c % 2 ^ 16 * 2 ^ 26 + comp 6 e * 2 ^ 20 + e % 2 ^ 6 * 2 ^ 14
      + comp 6 step * 2 ^ 8 + step % 2 ^ 6 * 2 ^ 2 + (if error then 2 else 0) + if overflow then 1 else 0)

/-- Every state field of a job-wide word and its complement are exact complements (R150, order 1). -/
def stateFieldsAgree (w : W64) : Bool :=
  let n := w.toNat
  bits 57 42 n == comp 16 (bits 41 26 n) && bits 25 20 n == comp 6 (bits 19 14 n)
    && bits 13 8 n == comp 6 (bits 7 2 n)

/-- The decisions of R150 on the job-wide flag word. -/
inductive Decision where
  | void | replay | skip | commit
deriving DecidableEq, Repr

/-- The first case of R150 that applies. -/
def decide150 (w : W64) : Decision :=
  if !stateFieldsAgree w then .void
  else if w.getLsbD 1 then .replay
  else if w.getLsbD 0 then .skip
  else .commit

end Sys2Proof.Machine
end

