-- ==== Sys2Proof/Machine/Matrix.lean ====
section
/-! DEFINITION. What the matrix unit does (R99 to R116): tile products with chunked accumulation,
accumulator transfers, top-k selection, and the numerics watch's wide path (R162 to R164).

Choices beyond the manual's plain words (notes/assumptions): DESIGN CHOICE 4. -/

namespace Sys2Proof.Machine

/-- An element of a panel (R100): row m, column k. -/
def panelElem (s : State) (sc : Score) (x : Site) (emu : Bool) (ref fmt orient m k : Nat) : Num :=
  let b := k / 32 * blockSize fmt
  let kk := k % 32
  if fmt = 4 then
    let byte := refNat s sc x ref (b + if orient = 0 then 16 * m + kk / 2 else 32 * kk + m / 2) 1
    let nib := if orient = 0 then kk % 2 else m % 2
    decodeMx (refNat s sc x ref (b + 1024 + m) 1) (if nib = 0 then byte % 16 else byte / 16)
  else
    let e := fmtBytes fmt
    operandNum emu fmt
      (refNat s sc x ref (b + if orient = 0 then 32 * e * m + e * kk else 64 * e * kk + e * m) e)

/-- An order of a list drawn freely, element by element (R108; notes/assumptions/4.md). -/
def freeOrder (ctr : Nat) : Nat → List Nat → List Nat
  | 0, _ => []
  | n + 1, l =>
    let i := Config.freeIndex ctr n % l.length
    match l[i]? with
    | none => []
    | some v => v :: freeOrder ctr n (l.eraseIdx i)

/-- The order in which an MMA consumes its blocks: ascending in ordered mode and for tile-store panels;
else the arrival order of a descriptor panel, which the manual leaves open; with one panel of each kind both follow it
(notes/assumptions/4.md, DESIGN CHOICE). -/
def blockOrder (s : State) (c : Crumb) : List Nat :=
  let n := cf c 95 80
  if s.ex.ordered || (!refIsDesc (cf c 79 60) && !refIsDesc (cf c 59 40)) then List.range n
  else freeOrder s.freeCtr n (List.range n)

/-- The chunk length of a code (R47, R102). -/
def chunkOf (code : Nat) : Nat := 8 * 2 ^ (code % 4)

/-- The chunk length of an MMA at fire time (R106). -/
def chunkLen (s : State) (sc : Score) (c : Crumb) : Nat :=
  if !s.ex.ordered && 4 ≤ cf c 107 105 then chunkOf (cf c 107 105) else chunkOf sc.chunkCode

/-- The preload value at (i, j) (R105). -/
def preloadAt (s : State) (sc : Score) (x : Site) (ref init pf i j : Nat) : W32 :=
  let e := if pf = 0 then 4 else 2
  let n := if init = 2 then j else (j / 32) * 2048 + 32 * i + j % 32
  let v := refNat s sc x ref (e * n) e
  if pf = 0 then BitVec.ofNat 32 v else BitVec.ofNat 32 (v * 2 ^ 16)

/-- The initial value of a cell (R103). -/
def initAt (s : State) (sc : Score) (x : Site) (tile init pf ref i j : Nat) : W32 :=
  match init with
  | 0 => 0
  | 1 => accAt x tile i j
  | _ => preloadAt s sc x ref init pf i j

/-- The operand pairs of a cell in consumption order. -/
def cellPairs (s : State) (sc : Score) (x : Site) (c : Crumb) (order : List Nat) (i j : Nat) :
    List (Num × Num) :=
  order.flatMap (fun b => (List.range 32).map (fun kk =>
    (panelElem s sc x s.ex.emulated (cf c 79 60) (cf c 119 117) (cf c 113 113) i (32 * b + kk),
     panelElem s sc x s.ex.emulated (cf c 59 40) (cf c 116 114) (cf c 112 112) j (32 * b + kk))))

/-- The cell (i, j) of an MMA after its whole sum (R107). -/
def mmaCell (s : State) (sc : Score) (x : Site) (c : Crumb) (order : List Nat) (i j : Nat) : Cell :=
  cellSum (if s.ex.emulated then 14 else 16) (chunkLen s sc c)
    (initAt s sc x (cf c 111 108) (cf c 104 103) (cf c 96 96) (cf c 39 20) i j)
    (cellPairs s sc x c order i j)

/-- Row and column of the n-th element of the result layout of R111. -/
def resultIx (n : Nat) : Nat × Nat := (n / 32 % 64, 32 * (n / 2048) + n % 32)

/-- The bytes of a 64 × 64 result and the conversions counted (R111 to R113). -/
def resultBytes (emu : Bool) (fmt : Nat) (sat : Bool) (f : Nat → Nat → W32) : Bytes × Nat × Nat :=
  if fmt = 4 then
    let row := fun b m => (List.range 32).map (fun kk => f m (32 * b + kk))
    let block := fun b =>
      let convs := (List.range 64).flatMap (fun m =>
        let ws := row b m
        ws.map (mxElem (mxScale ws)))
      let nib := (List.range 1024).map (fun n =>
        BitVec.ofNat 8 (((convs.getD (2 * n) ⟨0, 0, 0⟩).code) + 16 * (convs.getD (2 * n + 1) ⟨0, 0, 0⟩).code))
      let scales := (List.range 64).map (fun m => BitVec.ofNat 8 (mxScale (row b m)))
      (nib ++ scales, convs.foldl (fun n c => n + c.sats) 0)
    let b0 := block 0
    let b1 := block 1
    (b0.1 ++ b1.1, b0.2 + b1.2, 0)
  else
    let convs := (List.range 4096).map (fun n =>
      convert fmt (sat || (emu && fmt ≤ 1)) (f (resultIx n).1 (resultIx n).2))
    (convs.flatMap (fun c => leBytes (fmtBytes fmt) c.code),
     convs.foldl (fun n c => n + c.sats) 0, convs.foldl (fun n c => n + c.ovfs) 0)

/-- A result tile written to a destination (R111, R112). -/
def writeResult (sc : Score) (key ref fmt : Nat) (sat : Bool) (f : Nat → Nat → W32) (s : State) : State :=
  let r := resultBytes s.ex.emulated fmt sat f
  noteConversions r.2.1 r.2.2 (writeRef sc (coreUnit s key) key ref r.1 s)

/-! ## The wide path (R162 to R165) -/

/-- A crumb of the running step falls to be sampled (R162). -/
def sampled (s : State) (c : Crumb) : Bool :=
  s.ex.force.watch.enable && (c.num + s.ex.step.num * 40503) % 2 ^ s.ex.force.watch.n == 0

/-- The magnitude of a value. -/
def numAbs : Num → Num
  | .nan => .nan
  | .inf _ => .inf false
  | .fin _ m e => .fin false m e

/-- One element compared: excluded, disagreeing, and its ratio (R164). -/
def compareElem (t : Nat) (init : W32) (ps : List (Num × Num)) (narrow : W32) : Bool × Bool × W32 :=
  let w := toW32 (ps.foldl (fun a p => numAdd a (numMul p.1 p.2)) (ofW32 init))
  let sum := ps.foldl (fun a p => numAdd a (numAbs (numMul p.1 p.2))) (numAbs (ofW32 init))
  if !isFin32 narrow || !isFin32 w then (true, false, 0)
  else
    let d := numAbs (numAdd (ofW32 narrow) (numFlip (ofW32 w)))
    (false, numLt (numMul sum (.fin false 1 (-(t : Int)))) d,
      if numIsZero sum then 0 else toW32 (divNum d sum))

/-- The larger of two non-negative FP32 values. -/
def maxRatio (a b : W32) : W32 := if a.toNat < b.toNat then b else a

/-- The wide path's finding on a sampled crumb. -/
def watchTile (n : Nat) (elem : Nat → Nat → Bool × Bool × W32) : WideSample :=
  (List.range 4096).foldl (fun w k =>
    let r := elem (k / 64) (k % 64)
    { w with excluded := w.excluded + (if r.1 then 1 else 0)
             disagrees := w.disagrees || r.2.1
             ratio := maxRatio w.ratio r.2.2 }) ⟨n, false, 0, 0⟩

/-- A sampled MMA enters the wide path, or is missed while the wide path is busy (R165). -/
def watch (s0 : State) (sc : Score) (key : Nat) (x0 : Site) (ix : Nat) (c : Crumb) (order : List Nat)
    (s : State) : State :=
  if !sampled s0 c then s
  else if x0.wide.isSome then bump 0xC010 3 1 s
  else
    let w := watchTile ix (fun i j =>
      compareElem s0.ex.force.watch.t
        (initAt s0 sc x0 (cf c 111 108) (cf c 104 103) (cf c 96 96) (cf c 39 20) i j)
        (cellPairs s0 sc x0 c order i j) (mmaCell s0 sc x0 c order i j).acc)
    withSite key { siteAt s key with wide := some w } s

/-! ## Effects -/

/-- MMA (R103 to R112): the accumulator tile takes the sums; indicators and counters; the result written;
a sampled crumb enters the wide path. -/
def mmaEffect (sc : Score) (key ix : Nat) (c : Crumb) (s : State) : State :=
  let x := siteAt s key
  let order := blockOrder s c
  let cells := (List.range 4096).map (fun n => mmaCell s sc x c order (n / 64) (n % 64))
  let acc := fun i j => (cells.getD (64 * i + j) { acc := 0 }).acc
  let t := withSite key (setAccTile (cf c 111 108) acc x) (drawn s)
  let t := noteResults key 0x3020 (cells.foldl (fun n y => n + y.ovf) 0)
    (cells.foldl (fun n y => n + y.inv) 0) t
  let t := watch s sc key x ix c order t
  if cf c 102 101 = 1 then writeResult sc key (cf c 19 0) (cf c 100 98) (cf c 97 97 == 1) acc t else t

/-- ACCOUT (R114). -/
def accoutEffect (sc : Score) (key : Nat) (c : Crumb) (s : State) : State :=
  let x := siteAt s key
  let tile := cf c 119 116
  let t := writeResult sc key (cf c 19 0) (cf c 115 113) (cf c 112 112 == 1) (accAt x tile) s
  if cf c 111 111 = 1 then withSite key (setAccTile tile (fun _ _ => 0) (siteAt t key)) t else t

/-- ACCINIT (R114). -/
def accinitEffect (sc : Score) (key : Nat) (c : Crumb) (s : State) : State :=
  let x := siteAt s key
  let tile := cf c 119 116
  withSite key (setAccTile tile
    (initAt s sc x tile (cf c 115 114) (cf c 113 113) (cf c 19 0)) x) s

/-! ## Top-k (R115, R116) -/

/-- One ranked entry: its column and value. -/
def ranksAhead (smallest : Bool) (a b : Nat × W32) : Bool :=
  let x := ofW32 a.2
  let y := ofW32 b.2
  match numIsNan x, numIsNan y with
  | true, true => a.1 < b.1
  | true, false => false
  | false, true => true
  | false, false =>
    let ahead := fun u v => if smallest then numLt u v else numLt v u
    if ahead x y then true else if ahead y x then false else a.1 < b.1

/-- An entry placed among ranked ones. -/
def rankInsert (smallest : Bool) (a : Nat × W32) : List (Nat × W32) → List (Nat × W32)
  | [] => [a]
  | b :: t => if ranksAhead smallest a b then a :: b :: t else b :: rankInsert smallest a t

/-- A row's first k entries, filled up with the infinity that ranks last (R116). -/
def topRow (smallest : Bool) (k base : Nat) (vs : List W32) : List (W32 × Nat) :=
  let ranked := (vs.zipIdx.map (fun p => (p.2, p.1))).foldr (rankInsert smallest) []
  (List.range k).map (fun r => match ranked[r]? with
    | some e => (if isNan32 e.2 then 0x7FC00000 else e.2, (base + e.1) % 2 ^ 32)
    | none => (if smallest then 0x7F800000 else 0xFF800000, 0xFFFFFFFF))

/-- TOPK: values, then positions (R116). -/
def topkEffect (sc : Score) (key : Nat) (c : Crumb) (s : State) : State :=
  let x := siteAt s key
  let fmt := cf c 119 117
  let n := cf c 108 89
  let k := cf c 115 109
  let rows := (List.range 64).map (fun i => topRow (cf c 116 116 == 1) k (cf c 48 17)
    ((List.range n).map (fun j =>
      toW32 (panelElem s sc x s.ex.emulated (cf c 88 69) fmt 0 i j))))
  let flat := rows.flatMap id
  writeRef sc (coreUnit s key) key (cf c 68 49)
    (flat.flatMap (fun e => leBytes 4 e.1.toNat) ++ flat.flatMap (fun e => leBytes 4 e.2)) s

/-- What a matrix-unit crumb does when it fires. -/
def matrixEffect (sc : Score) (key ix : Nat) (c : Crumb) (s : State) : State :=
  match opcodeOf c with
  | 0x10 => mmaEffect sc key ix c s
  | 0x12 => accoutEffect sc key c s
  | 0x13 => accinitEffect sc key c s
  | 0x18 => topkEffect sc key c s
  | _ => s

end Sys2Proof.Machine
end

