-- ==== Sys2Proof/Machine/Vector.lean ====
section
/-! DEFINITION. What the vector engine does (R122 to R142): element-wise operations, reductions in their
fixed order, functions, random values, indicators, and the optimizer update with stochastic rounding.

Choices beyond the manual's plain words (notes/assumptions): DEDUCED 45; DESIGN CHOICE 7. -/

namespace Sys2Proof.Machine

/-- A value with the overflows and invalid results met on the way (R133). -/
structure VAcc where
  v : W32
  ovf : Nat := 0
  inv : Nat := 0
deriving DecidableEq, Repr

/-- A result as the engine delivers it: any NaN is 0x7FC0_0000 (R122). -/
def quiet32 (w : W32) : W32 := if isNan32 w then 0x7FC00000 else w

/-- One FP32 result with its operands: overflow when it is infinite and they are finite, invalid when it
is NaN and they are not. -/
def judged (emu : Bool) (ops : List W32) (r : W32) : VAcc :=
  let r := flush32 emu (quiet32 r)
  ⟨r, if isInf32 r && ops.all isFin32 then 1 else 0, if isNan32 r && ops.all (fun o => !isNan32 o) then 1 else 0⟩

/-- The larger of two values: NaN with a NaN, +0 above −0 (R129). -/
def max32 (a b : W32) : W32 :=
  if isNan32 a || isNan32 b then 0x7FC00000
  else if numIsZero (ofW32 a) && numIsZero (ofW32 b) then a &&& b
  else if numLt (ofW32 a) (ofW32 b) then b else a

/-- The smaller of two values: NaN with a NaN, −0 below +0 (R129). -/
def min32 (a b : W32) : W32 :=
  if isNan32 a || isNan32 b then 0x7FC00000
  else if numIsZero (ofW32 a) && numIsZero (ofW32 b) then a ||| b
  else if numLt (ofW32 b) (ofW32 a) then b else a

/-- A function that is given within a bound (R132): its special values, and elsewhere a value within the bound. -/
def boundedFunc (emu : Bool) (code : Nat) (a : W32) : W32 :=
  let neg := a.getLsbD 31
  match ofW32 a with
  | .nan => 0x7FC00000
  | .inf n =>
    match code with
    | 0 => if n then 0 else 0x7F800000
    | 2 => if n then 0 else 0x7F800000
    | 1 => if n then 0x7FC00000 else 0x7F800000
    | 3 => if n then 0x7FC00000 else 0x7F800000
    | 6 => if n then 0x7FC00000 else 0
    | 7 => if n then 0xBF800000 else one32
    | 8 => if n then 0 else one32
    | 9 => if n then 0x80000000 else 0x7F800000
    | 10 => 0x7FC00000
    | 11 => 0x7FC00000
    | 4 => if n then 0x80000000 else 0
    | _ => if n then 0x7FC00000 else 0x7F800000
  | .fin _ m e =>
    if m = 0 then
      match code with
      | 1 => 0xFF800000
      | 3 => 0xFF800000
      | 4 => if neg then 0xFF800000 else 0x7F800000
      | 5 => a
      | 6 => if neg then 0xFF800000 else 0x7F800000
      | _ => funcFin emu code a neg m e
    else if neg && (code == 1 || code == 3 || code == 5 || code == 6) then 0x7FC00000
    else funcFin emu code a neg m e

/-- VFUNC (R132, R168). -/
def vecFunc (emu : Bool) (code : Nat) (a : W32) : W32 :=
  match code with
  | 4 => if emu then boundedFunc emu 4 a else div32 one32 a
  | 5 => if emu then boundedFunc emu 5 a else sqrt32 a
  | 12 => if isNan32 a then 0x7FC00000 else a &&& 0x7FFFFFFF
  | 13 => if isNan32 a then 0x7FC00000 else a ^^^ 0x80000000
  | 14 => mul32 a a
  | _ => boundedFunc emu code a

/-! ## Operands (R123 to R126) -/

/-- A scalar register as a source: S12 and S13 are the scale in force and its inverse; S14 and S15 are
+0 (R124). -/
def scalarSource (s : State) (x : Site) (r : Nat) : W32 :=
  if r < 12 then scalarAt x r
  else if r = 12 then pow2W32 s.ex.force.scaleExp
  else if r = 13 then pow2W32 (-(s.ex.force.scaleExp : Int))
  else 0

/-- The position of tile element e = 64i + j in the layout of R111. -/
def tilePos (e : Nat) : Nat := (e % 64) / 32 * 2048 + 32 * (e / 64) + e % 32

/-- The element number that applies to element e of an operand: B in shapes 2 and 3 has 64 elements. -/
def operandIx (shape e : Nat) (isB : Bool) : Nat :=
  if isB && shape == 2 then e % 64 else if isB && shape == 3 then e / 64 else e

/-- The element of an operand that applies to element e, as FP32. -/
def vecElem (s : State) (sc : Score) (x : Site) (kind fmt v shape e : Nat) (isB : Bool) : W32 :=
  let n := operandIx shape e isB
  match kind with
  | 0 =>
    let pos := if shape = 0 || (isB && 2 ≤ shape) then n else tilePos n
    elemW32 s.ex.emulated fmt (refNat s sc x v (pos * fmtBytes fmt) (fmtBytes fmt))
  | 1 => accAt x (v % 16 + n / 4096) (n % 4096 / 64) (n % 64)
  | 2 => scalarSource s x (v % 16)
  | _ => 0

/-- Operand A of a crumb at element e. -/
def vecA (s : State) (sc : Score) (x : Site) (c : Crumb) (e : Nat) : W32 :=
  vecElem s sc x (cf c 104 103) (cf c 102 100) (cf c 88 69) (cf c 119 118) e false

/-- Operand B of a crumb at element e. -/
def vecB (s : State) (sc : Score) (x : Site) (c : Crumb) (e : Nat) : W32 :=
  vecElem s sc x (cf c 99 98) (cf c 97 95) (cf c 68 49) (cf c 119 118) e true

/-- Conversions that saturated or overflowed, counted. -/
def noteConvs (cs : List Conv) (s : State) : State :=
  noteConversions (cs.foldl (fun n r => n + r.sats) 0) (cs.foldl (fun n r => n + r.ovfs) 0) s

/-- FP32 results, with their element numbers, stored in a destination of a crumb; tile layouts place them as
R111. -/
def putElems (sc : Score) (key : Nat) (c : Crumb) (tile : Bool) (rs : List (Nat × W32)) (s : State) : State :=
  let fmt := cf c 92 90
  let v := cf c 48 29
  match cf c 94 93 with
  | 0 =>
    let out := rs.map (fun p =>
      (refBase sc v + (if tile then tilePos p.1 else p.1) * fmtBytes fmt,
       convert fmt (cf c 89 89 == 1 || (s.ex.emulated && fmt ≤ 1)) p.2))
    noteConvs (out.map (fun p => p.2))
      (storeAll (vectorUnit s key) key (refIsDesc v) (out.map (fun p => (p.1, leBytes (fmtBytes fmt) p.2.code))) s)
  | 1 =>
    rs.foldl (fun s p =>
      let x := siteAt s key
      let k := accIx (v % 16 + p.1 / 4096) (p.1 % 4096 / 64) (p.1 % 64)
      withSite key { x with acc := enter x k p.2 x.acc, accBad := dropNum k x.accBad } s) s
  | _ => rs.foldl (fun s p => withSite key (setScalar (v % 16) p.2 (siteAt s key)) s) s

/-! ## Element-wise operations (R129) -/

/-- The result of an element-wise opcode on its operands. -/
def vecOp (emu : Bool) (o : Nat) (a b sc : W32) (code : Nat) : VAcc :=
  match o with
  | 0x20 => judged emu [a, b] (add32 a b)
  | 0x21 => judged emu [a, b] (sub32 a b)
  | 0x22 => judged emu [a, b] (mul32 a b)
  | 0x23 => judged emu [a, b] (div32 a b)
  | 0x24 => judged emu [a, b] (max32 a b)
  | 0x25 => judged emu [a, b] (min32 a b)
  | 0x27 => judged emu [a] (vecFunc emu code a)
  | 0x28 => judged emu [a, b, sc] (fma32 a sc b)
  | _ => ⟨quiet32 a, 0, 0⟩

/-- The random value of VRAND at element e (R137): r × 2^−16 for the word of use 3. -/
def randElem (s : State) (c : Crumb) (e : Nat) : W32 :=
  toW32 (.fin false (randomWord (leBytes 32 s.ex.force.genKey) (s.ex.force.genBase + s.ex.step.num)
    (cf c 28 13) (cf c 12 0) e 3) (-16))

/-- The result at element e of an element-wise crumb. -/
def vecResult (s : State) (sc : Score) (x : Site) (c : Crumb) (e : Nat) : VAcc :=
  let o := opcodeOf c
  if o = 0x29 then ⟨randElem s c e, 0, 0⟩
  else vecOp s.ex.emulated o (vecA s sc x c e) (vecB s sc x c e) (scalarSource s x (cf c 28 25)) (cf c 28 24)

/-- One group of up to 64 elements: every source read, then every destination written (R127, R128). -/
def vecGroup (sc : Score) (key : Nat) (c : Crumb) (n : Nat) (s : State) (g : Nat) : State :=
  let x := siteAt s key
  let es := (List.range 64).filterMap (fun l => if 64 * g + l < n then some (64 * g + l) else none)
  let rs := es.map (fun e => (e, vecResult s sc x c e))
  let s := putElems sc key c (cf c 119 118 != 0) (rs.map (fun p => (p.1, p.2.v))) s
  noteResults key 0x3022 (rs.foldl (fun m p => m + p.2.ovf) 0) (rs.foldl (fun m p => m + p.2.inv) 0) s

/-- An element-wise crumb: groups in ascending order (R127). -/
def vecElementwise (sc : Score) (key : Nat) (c : Crumb) (s : State) : State :=
  let n := vecElems (cf c 119 118) (vecCount c) false
  (List.range (ceilDiv n 64)).foldl (vecGroup sc key c n) s

/-! ## Reductions (R130, R131) -/

/-- Two partial results combined. -/
def combineRed (emu : Bool) (o : Nat) (a b : VAcc) : VAcc :=
  let r := judged emu [a.v, b.v] (if o = 0x31 then max32 a.v b.v else add32 a.v b.v)
  ⟨r.v, a.ovf + b.ovf + r.ovf, a.inv + b.inv + r.inv⟩

/-- An element as it enters its lane: squared for VRSSQ, else unrounded. -/
def enterRed (emu : Bool) (o : Nat) (a : W32) : VAcc :=
  if o = 0x32 then judged emu [a] (mul32 a a) else ⟨quiet32 a, 0, 0⟩

/-- A lane value: its elements in ascending order; none for a lane without elements. -/
def laneFold (emu : Bool) (o : Nat) : List W32 → Option VAcc
  | [] => none
  | a :: t => some (t.foldl (fun acc b => combineRed emu o acc (enterRed emu o b)) (enterRed emu o a))

/-- One level of the tree: positions 2q and 2q + 1; an absent one passes its partner up. -/
def treeLevel (emu : Bool) (o : Nat) : List (Option VAcc) → List (Option VAcc)
  | a :: b :: t =>
    (match a, b with
      | some x, some y => some (combineRed emu o x y)
      | some x, none => some x
      | none, y => y) :: treeLevel emu o t
  | l => l

/-- Values reduced over lanes, then the binary tree: 64 lanes and six levels, or 32 and five (R168). -/
def reduceAll (emu : Bool) (o : Nat) (vs : List W32) : VAcc :=
  let lanes := if emu then 32 else 64
  let levels := if emu then 5 else 6
  let start := (List.range lanes).map (fun l =>
    laneFold emu o (vs.zipIdx.filterMap (fun p => if p.2 % lanes = l then some p.1 else none)))
  match Nat.repeat (treeLevel emu o) levels start with
  | some r :: _ => r
  | _ => ⟨0, 0, 0⟩

/-- The results of a reduction by shape. -/
def reduceResults (emu : Bool) (o shape n : Nat) (a : Nat → W32) : List VAcc :=
  match shape with
  | 2 => (List.range 64).map (fun j =>
      (laneFold emu o ((List.range 64).map (fun i => a (64 * i + j)))).getD ⟨0, 0, 0⟩)
  | 3 => (List.range 64).map (fun i => reduceAll emu o ((List.range 64).map (fun j => a (64 * i + j))))
  | _ => [reduceAll emu o ((List.range n).map a)]

/-- A reduction crumb. -/
def vecReduce (sc : Score) (key : Nat) (c : Crumb) (s : State) : State :=
  let x := siteAt s key
  let shape := cf c 119 118
  let rs := reduceResults s.ex.emulated (opcodeOf c) shape (vecElems shape (vecCount c) false) (vecA s sc x c)
  let s := putElems sc key c false (rs.zipIdx.map (fun p => (p.2, p.1.v))) s
  noteResults key 0x3022 (rs.foldl (fun m r => m + r.ovf) 0) (rs.foldl (fun m r => m + r.inv) 0) s

/-- VLDS: consecutive scalar registers from A (R129). -/
def vecLoadScalars (sc : Score) (key : Nat) (c : Crumb) (s : State) : State :=
  let x := siteAt s key
  let vs := (List.range (vecCount c)).map (vecA s sc x c)
  withSite key (vs.zipIdx.foldl (fun x p => setScalar (cf c 32 29 + p.2) (quiet32 p.1) x) x) s

/-- VFLAG: the indicator word to D; with modifier bit 28 the indicators are cleared (R133). -/
def vecFlag (sc : Score) (key : Nat) (c : Crumb) (s : State) : State :=
  let x := siteAt s key
  let s := writeRef sc (vectorUnit s key) key (cf c 48 29)
    (leBytes 4 ((if x.overflow then 1 else 0) + if x.invalid then 2 else 0)) s
  if cf c 28 28 = 1 then withSite key (clearIndicators (siteAt s key)) s else s

/-! ## Optimizer update (R138 to R142) -/

/-- An update record (R140). -/
structure OptRec where
  p : Nat
  g : Nat
  m : Nat
  v : Nat
  rule : Nat
  sat : Nat
  res : Nat
  lr : W32
  b1 : W32
  b2 : W32
  eps : W32
  lam : W32
deriving DecidableEq, Repr

/-- An FP32 register of a record. -/
def recW32 (b : Bytes) (o : Nat) : W32 := BitVec.ofNat 32 (leAt b o 4)

/-- The record that 64 bytes hold. -/
def optRec (b : Bytes) : OptRec :=
  ⟨leAt b 0 4, leAt b 4 4, leAt b 8 4, leAt b 12 4, leAt b 16 1, leAt b 17 1,
    leAt b 18 2 + leAt b 40 24, recW32 b 20, recW32 b 24, recW32 b 28, recW32 b 32, recW32 b 36⟩

/-- The format of an array field. -/
def optFmt (f : Nat) : Nat := bits 23 21 f

/-- The reference of an array field. -/
def optRef (f : Nat) : Nat := bits 19 0 f

/-- A number at least 0, infinity among them. -/
def nonNeg32 (w : W32) : Bool := !isNan32 w && (!w.getLsbD 31 || numIsZero (ofW32 w))

/-- A number in [0, 1). -/
def unit32 (w : W32) : Bool := nonNeg32 w && numLt (ofW32 w) (ofW32 one32)

/-- An array field conforms: reserved bits, format, reference, range of n elements. -/
def optArrayOk (sc : Score) (n : Nat) (fmts : List Nat) (f : Nat) : Bool :=
  bits 31 24 f == 0 && bits 20 20 f == 0 && fmts.contains (optFmt f) && refFormOk (optRef f)
    && refInRange sc (optRef f) (n * fmtBytes (optFmt f))
    && refDescOk sc (optRef f) (n * fmtBytes (optFmt f))

/-- The arrays a record names: P, G, M, and V for rule 1. -/
def optArrays (r : OptRec) : List Nat := [r.p, r.g, r.m] ++ (if r.rule = 1 then [r.v] else [])

/-- Ranges pairwise apart. -/
def disjointRanges : List (Nat × Nat × Bool) → Bool
  | [] => true
  | a :: t => t.all (fun b => !(a.1 < b.2.1 && b.1 < a.2.1)) && disjointRanges t

/-- A record conforms to R140; for a stealable crumb its arrays are in descriptor form (R134). -/
def optOk (sc : Score) (c : Crumb) (r : OptRec) : Bool :=
  let n := cf c 119 107 + 1
  r.rule ≤ 1 && r.sat ≤ 1 && r.res == 0
    && optArrayOk sc n [2, 3, 5] r.p && optArrayOk sc n [2, 3, 5] r.g && optArrayOk sc n [2, 5] r.m
    && (if r.rule = 1 then optArrayOk sc n [2, 5] r.v else r.v == 0)
    && nonNeg32 r.lr && isFin32 r.lr && unit32 r.b1 && nonNeg32 r.lam
    && (r.rule == 0 || (unit32 r.b2 && nonNeg32 r.eps && !numIsZero (ofW32 r.eps)))
    && (!c.stealable || (optArrays r).all (fun f => refIsDesc (optRef f)))
    && disjointRanges ((optArrays r).flatMap (fun f => refRange (optRef f) (n * fmtBytes (optFmt f)) false)
        ++ refRange (cf c 106 87) 64 false)

/-- The tile-store ranges that a record adds to the comparisons of R95 (R142). -/
def optRanges (c : Crumb) (r : OptRec) : List (Nat × Nat × Bool) :=
  let n := cf c 119 107 + 1
  (optArrays r).flatMap (fun f => refRange (optRef f) (n * fmtBytes (optFmt f)) (f != r.g))

/-- The record of a VOPT crumb as it stands now. -/
def optRecOf (s : State) (sc : Score) (x : Site) (c : Crumb) : OptRec :=
  optRec (refBytes s sc x (cf c 106 87) 0 64)

/-- b^t of R141: +0 for b = 0. -/
def powBeta (b : W32) (t : Nat) : W32 := if numIsZero (ofW32 b) then 0 else Machine.powBT b t

/-- The findings of a list of single results added up. -/
def findings (l : List VAcc) : VAcc := ⟨0, l.foldl (fun n r => n + r.ovf) 0, l.foldl (fun n r => n + r.inv) 0⟩

/-- The new parameter, first and second moment of one element, with the findings of its operations
(R141). t: updates committed, plus one; mult: the learning-rate multiplier; s13: the inverse of the loss
scale. -/
def optElem (emu : Bool) (r : OptRec) (t : Nat) (mult s13 p g m v : W32) :
    VAcc × W32 × W32 :=
  let add := fun (a b : VAcc) => judged emu [a.v, b.v] (add32 a.v b.v)
  let sub := fun (a b : VAcc) => judged emu [a.v, b.v] (sub32 a.v b.v)
  let mul := fun (a b : VAcc) => judged emu [a.v, b.v] (mul32 a.v b.v)
  let div := fun (a b : VAcc) => judged emu [a.v, b.v] (div32 a.v b.v)
  let lit := fun (w : W32) => (⟨w, 0, 0⟩ : VAcc)
  let lr := mul (lit r.lr) (lit mult)
  let g1 := mul (lit g) (lit s13)
  let lp := mul (lit r.lam) (lit p)
  let bm := mul (lit r.b1) (lit m)
  if r.rule = 0 then
    let m1 := add bm g1
    let sum := add m1 lp
    let d := mul lr sum
    let p1 := sub (lit p) d
    let f := findings [lr, g1, lp, bm, m1, sum, d, p1]
    (⟨p1.v, f.ovf, f.inv⟩, m1.v, v)
  else
    let b1c := sub (lit one32) (lit r.b1)
    let b1g := mul b1c g1
    let m1 := add bm b1g
    let bv := mul (lit r.b2) (lit v)
    let b2c := sub (lit one32) (lit r.b2)
    let gg := mul g1 g1
    let b2g := mul b2c gg
    let v1 := add bv b2g
    let d1 := sub (lit one32) (lit (powBeta r.b1 t))
    let d2 := sub (lit one32) (lit (powBeta r.b2 t))
    let c1 := div (lit one32) d1
    let c2 := div (lit one32) d2
    let num := mul c1 m1
    let cv := mul c2 v1
    let root := judged emu [cv.v] (sqrt32 cv.v)
    let den := add root (lit r.eps)
    let q := div num den
    let sum := add q lp
    let d := mul lr sum
    let p1 := sub (lit p) d
    let f := findings [lr, g1, lp, bm, b1c, b1g, m1, bv, b2c, gg, b2g, v1, d1, d2, c1, c2, num, cv, root,
      den, q, sum, d, p1]
    (⟨p1.v, f.ovf, f.inv⟩, m1.v, v1.v)

/-- One new element as it is stored: FP32 unchanged, BF16 and FP16 rounded stochastically (R138, R141). -/
def optConv (s : State) (c : Crumb) (r : OptRec) (fmt use e : Nat) (w : W32) : Conv :=
  if fmt = 5 then ⟨w.toNat, 0, 0⟩
  else stochastic s.ex.emulated fmt (r.sat == 1)
    (randomWord (leBytes 32 s.ex.force.genKey) (s.ex.force.genBase + s.ex.step.num) (cf c 86 71) (cf c 70 58) e use) w

/-- New elements, with their numbers, stored in an array of the record. -/
def optStore (sc : Score) (key : Nat) (c : Crumb) (r : OptRec) (f use : Nat) (ws : List (Nat × W32)) (s : State) :
    State :=
  let out := ws.map (fun p => (refBase sc (optRef f) + p.1 * fmtBytes (optFmt f), optConv s c r (optFmt f) use p.1 p.2))
  noteConvs (out.map (fun p => p.2))
    (storeAll (vectorUnit s key) key (refIsDesc (optRef f))
      (out.map (fun p => (p.1, leBytes (fmtBytes (optFmt f)) p.2.code))) s)

/-- An element of a record's array, as FP32. -/
def optGet (s : State) (sc : Score) (x : Site) (f e : Nat) : W32 :=
  elemW32 s.ex.emulated (optFmt f)
    (refNat s sc x (optRef f) (e * fmtBytes (optFmt f)) (fmtBytes (optFmt f)))

/-- The new values of element e of a record's arrays. -/
def optNew (s : State) (sc : Score) (x : Site) (r : OptRec) (e : Nat) : VAcc × W32 × W32 :=
  optElem s.ex.emulated r (s.ex.force.updates + 1) s.ex.force.lr (scalarSource s x 13)
    (optGet s sc x r.p e) (optGet s sc x r.g e) (optGet s sc x r.m e)
    (if r.rule = 1 then optGet s sc x r.v e else 0)

/-- One group of up to 64 elements updated: every source read, then every destination stored (R127, R128). -/
def optGroup (sc : Score) (key : Nat) (c : Crumb) (r : OptRec) (n : Nat) (s : State) (g : Nat) : State :=
  let x := siteAt s key
  let es := (List.range 64).filterMap (fun l => if 64 * g + l < n then some (64 * g + l) else none)
  let rs := es.map (fun e => (e, optNew s sc x r e))
  let t := optStore sc key c r r.p 0 (rs.map (fun p => (p.1, p.2.1.v))) s
  let t := optStore sc key c r r.m 1 (rs.map (fun p => (p.1, p.2.2.1))) t
  let t := if r.rule = 1 then optStore sc key c r r.v 2 (rs.map (fun p => (p.1, p.2.2.2))) t else t
  noteResults key 0x3022 (rs.foldl (fun m p => m + p.2.1.ovf) 0) (rs.foldl (fun m p => m + p.2.1.inv) 0) t

/-- The pieces that a VOPT crumb reads: its record, and the arrays of a record that conforms. -/
def optReads (s : State) (sc : Score) (x : Site) (c : Crumb) : List Piece :=
  let r := optRecOf s sc x c
  (refIsDesc (cf c 106 87), refBase sc (cf c 106 87), 64) ::
    (if optOk sc c r then (optArrays r).map (fun f =>
      (refIsDesc (optRef f), refBase sc (optRef f), (cf c 119 107 + 1) * fmtBytes (optFmt f))) else [])

/-- VOPT (R140 to R142): a record that fails R140 writes nothing, sets the invalid indicator and the
step's error flag, which is a late error that holds the module at the boundary. -/
def voptEffect (sc : Score) (half core key : Nat) (c : Crumb) (s : State) : State :=
  let x := siteAt s key
  let r := optRecOf s sc x c
  let n := cf c 119 107 + 1
  if optOk sc c r then (List.range (ceilDiv n 64)).foldl (optGroup sc key c r n) s
  else
    let s := withSite key { x with invalid := true } s
    let s := { s with ex := { s.ex with step := { s.ex.step with
      lateErr := true, holdAtBoundary := true } } }
    faultEvent 0x0210000B 2 (leBytes 1 half ++ leBytes 1 core ++ leBytes 1 0xFF) s

/-- What a vector crumb does when it fires. -/
def vectorEffect (sc : Score) (half core key : Nat) (c : Crumb) (s : State) : State :=
  let o := opcodeOf c
  if o = 0x38 then voptEffect sc half core key c s
  else if isReduction o then vecReduce sc key c s
  else if o = 0x2A then vecLoadScalars sc key c s
  else if o = 0x34 then vecFlag sc key c s
  else vecElementwise sc key c s

end Sys2Proof.Machine
end

