-- ==== Sys2Proof/Machine/CopyUnit.lean ====
section
/-! DEFINITION. Copies (R172 to R198): the pairing of source and destination positions, lists, pads,
the in-place transpose, and host copies.

Choices beyond the manual's plain words (notes/assumptions): DEDUCED 58. -/

namespace Sys2Proof.Machine

/-- An element of a descriptor's space. -/
def elemAt (s : State) (key : Nat) (d : Desc) (a : Nat) : Bytes :=
  if d.space = 0 then bytesAt s a (elemBytes d) else tileBytes (siteAt s key) a (elemBytes d)

/-- Where entry u of a list lies. -/
def listAddr (l : Desc) (u : Nat) : Nat := ((l.addr : Int) + u * (dimAt l 0).stride).toNat

/-- The entries of a list, in order: c0, c1, and the whole entry (R179). A descriptor without list mode
has one block at coordinates (0, 0). A list in the tile store is that of the site `key`. -/
def listEntries (s : State) (key : Nat) (d : Desc) (list : Option Desc) : List (Nat × Nat × Bool) :=
  if !d.listMode then [(0, 0, false)]
  else match list with
    | none => []
    | some l =>
      (List.range (dimAt l 0).extent).map (fun u =>
        let v := leNat (elemAt s key l (listAddr l u))
        (v % 2 ^ 32, v / 2 ^ 32, v == 2 ^ (8 * elemBytes l) - 1))

/-- The pieces that reading a descriptor's list takes. -/
def listReads (d : Desc) (list : Option Desc) : List Piece :=
  match list with
  | some l =>
    if d.listMode then
      (List.range (dimAt l 0).extent).map (fun u => (l.space == 0, listAddr l u, elemBytes l))
    else []
  | none => []

/-- An entry that is out of range: a coordinate at or above its limit (R179). -/
def entryOut (d : Desc) (u : Nat × Nat × Bool) : Bool :=
  d.listMode && !u.2.2 && (d.limA ≤ u.1 || (d.listB != 0xFF && d.limB ≤ u.2.1))

/-- An entry that is a skip. -/
def entrySkip (d : Desc) (u : Nat × Nat × Bool) : Bool := d.listMode && u.2.2 || entryOut d u

/-- A traversal position: skip, or the address with whether it is valid. -/
structure Pos where
  skip : Bool
  valid : Bool
  addr : Nat
deriving DecidableEq, Repr

/-- The t-th position of a traversal, given the list's entries (R175, R179). -/
def posAt (d : Desc) (ents : List (Nat × Nat × Bool)) (t : Nat) : Pos :=
  let n := blockCount d
  match ents[t / n]? with
  | none => ⟨true, false, 0⟩
  | some u =>
    let xs := coords d.dims (t % n)
    let disp := if d.listMode then entryDisplace d u.1 u.2.1 else 0
    ⟨entrySkip d u, validPos d.dims xs, ((d.addr : Int) + disp + displace d.dims xs).toNat⟩

/-- The pad element of a descriptor (R174). -/
def padElem (d : Desc) : Bytes := fit (elemBytes d) (leBytes 4 d.pad)

/-- What the t-th pair of a copy writes (R176, R179): nothing, or an address and an element. -/
def pairWrite (s : State) (key : Nat) (src dst : Desc) (se de : List (Nat × Nat × Bool)) (t : Nat) :
    Option (Nat × Bytes) :=
  let p := posAt dst de t
  if p.skip then none
  else if p.valid then
    let q := posAt src se t
    some (p.addr, if q.skip || !q.valid then padElem src else elemAt s key src q.addr)
  else if dst.materialize then some (p.addr, padElem dst)
  else none

/-- The element of the source that a pair of a copy reads. -/
def pairRead (src dst : Desc) (se de : List (Nat × Nat × Bool)) (t : Nat) : Option Piece :=
  let p := posAt dst de t
  let q := posAt src se t
  if !p.skip && p.valid && !q.skip && q.valid then some (src.space == 0, q.addr, elemBytes src) else none

/-- The pieces that a copy reads: its lists, and the elements of its source. -/
def copyReads (sc : Score) (s : State) (key : Nat) (src dst : Desc) : List Piece :=
  let se := listEntries s key src (sc.descs[src.listDesc]?)
  let de := listEntries s key dst (sc.descs[dst.listDesc]?)
  joinedPieces (listReads src (sc.descs[src.listDesc]?) ++ listReads dst (sc.descs[dst.listDesc]?)
    ++ (List.range (traversal dst de.length)).filterMap (pairRead src dst se de))

/-- The elements that a copy writes, in traversal order. -/
def copyWrites (sc : Score) (s : State) (key : Nat) (src dst : Desc) : List (Nat × Bytes) :=
  let se := listEntries s key src (sc.descs[src.listDesc]?)
  let de := listEntries s key dst (sc.descs[dst.listDesc]?)
  (List.range (traversal dst de.length)).filterMap (pairWrite s key src dst se de)

/-- The blocks of a scatter that a later entry overwrites, each counted once (R180). -/
def overwrittenBlocks (d : Desc) (ents : List (Nat × Nat × Bool)) : Nat :=
  let live := (ents.filter (fun u => !entrySkip d u)).map (fun u => (u.1, if d.listB = 0xFF then 0 else u.2.1))
  (live.eraseDups.filter (fun b => 2 ≤ live.count b)).length

/-- A copy carried out by a unit: every source element read as it stood, then the elements written in traversal
order, so that a later entry of a scatter wins (R180, R191). counter: the object that counts the bytes moved. -/
def runCopy (sc : Score) (u : Agent) (key counter : Nat) (src dst : Desc) (s : State) : State :=
  let se := listEntries s key src (sc.descs[src.listDesc]?)
  let de := listEntries s key dst (sc.descs[dst.listDesc]?)
  let ws := copyWrites sc s key src dst
  let out := (se.filter (entryOut src)).length + (de.filter (entryOut dst)).length
  let twice := if dst.listMode then overwrittenBlocks dst de else 0
  let s := storeAll u key (dst.space == 0) ws s
  let s := bump 0x4801 counter (ws.length * elemBytes dst) s
  let s := if out = 0 then s else bump 0x4801 3 out s
  if twice = 0 then s else bump 0x4801 4 twice s

/-- CTRANS: element (i, j) moves to (j, i) (R185). -/
def ctransEffect (key : Nat) (c : Crumb) (s : State) : State :=
  let x := siteAt s key
  let e := 2 ^ cf c 119 118
  let n := 32 * 2 ^ cf c 117 115 / e
  let a0 := 1024 * cf c 114 105
  let data := (List.range (n * n)).flatMap (fun k => tileBytes x (a0 + (k % n * n + k / n) * e) e)
  bump 0x4801 2 (n * n * e) (withSite key (storeTile a0 data x) s)

/-- What a copy crumb does when it fires (R182). -/
def copyEffect (sc : Score) (key : Nat) (c : Crumb) (s : State) : State :=
  if opcodeOf c = 0x41 then ctransEffect key c s
  else runCopy sc (copyUnit s key) key 2 (scoreDesc sc (cf c 119 101)) (scoreDesc sc (cf c 100 82)) s

/-! ## Host copies (R197, R198, R226) -/

/-- Base and length in bytes of a bulk buffer (R409). -/
def bufferIn (regs : List (Nat × Nat)) (b : Nat) : Nat × Nat :=
  let v := rgIn regs 0x1210 (b + 1)
  (v % 2 ^ 64, v / 2 ^ 64 % 2 ^ 32 * 4096)

/-- The valid positions of a descriptor before position t: the element's number in the buffer. -/
def validBefore (d : Desc) (t : Nat) : Nat :=
  ((List.range t).filter (fun u => (posAt d [(0, 0, false)] u).valid)).length

/-- A load: buffer to memory, materialised pads written. -/
def hostLoad (base : Nat) (d : Desc) (s : State) : State :=
  let e := elemBytes d
  let ws := (List.range (blockCount d)).filterMap (fun t =>
    let p := posAt d [(0, 0, false)] t
    if p.valid then some (p.addr, bytesAt s (base + validBefore d t * e) e)
    else if d.materialize then some (p.addr, padElem d)
    else none)
  let s := readRange moduleUnit none base (e * validCount d) s
  storeAll moduleUnit 0 true ws s

/-- A store: memory to buffer; poisoned elements are written as zeros, and one fault event names the
range of the poisoned elements (R226). -/
def hostStore (base : Nat) (d : Desc) (s : State) : State :=
  let e := elemBytes d
  let ps := (List.range (blockCount d)).filterMap (fun t =>
    let p := posAt d [(0, 0, false)] t
    if p.valid then some (p.addr, base + validBefore d t * e) else none)
  let bad := ps.filter (fun p => poisonedIn s p.1 e)
  let ws := ps.map (fun p => (p.2, if poisonedIn s p.1 e then zeros e else bytesAt s p.1 e))
  let s := readPieces moduleUnit none (joinedPieces (ps.map (fun p => (true, p.1, e)))) s
  let s := storeAll moduleUnit 0 true ws s
  match bad with
  | [] => s
  | p :: t =>
    let lo := t.foldl (fun m q => min m q.1) p.1
    let hi := t.foldl (fun m q => max m (q.1 + e)) (p.1 + e)
    faultEvent 0x03700002 4 (leBytes 8 lo ++ leBytes 8 (hi - lo)) s

/-- The host copy that 144 bytes request (R197), with the range it writes: the descriptor's, or that of
the buffer's elements. -/
def hostReqOf (regs : List (Nat × Nat)) (b : Bytes) : HostCopy :=
  let d := descOf (b.drop 16)
  let load := leAt b 0 1 = 0
  let r := fullRange d true
  let base := (bufferIn regs (leAt b 2 2)).1 + leAt b 4 8
  { load := load, buffer := leAt b 2 2, offset := leAt b 4 8, desc := d
    lo := if load then r.1.toNat else base
    len := if load then (r.2 - r.1).toNat else elemBytes d * validCount d }

/-- The checks and effect of a host copy request, in the order of R198. -/
def hostRule (q : Req) (value : Bytes) (s : State) : Rule :=
  let h := hostReqOf s.regs value
  let d := h.desc
  let buf := bufferIn s.regs h.buffer
  let role := if h.load then DescRole.dest else .engineSource
  { codes :=
      [need (s.dev == .prepared || s.dev == .held) 0x03700001,
       need (leAt value 1 1 == 0 && leAt value 12 4 == 0) 0x0270FF02,
       need (leAt value 0 1 ≤ 1 && h.buffer < 128) 0x0270FF01,
       need (descFieldsOk d none && d.space == 0 && !d.listMode && roleAdmits d role) 0x02700003,
       need (spanInSpace d h.load && blockCount d ≤ 2 ^ 34) 0x02700004,
       need (h.offset + elemBytes d * validCount d ≤ buf.2) 0x02700005]
    later := true
    apply := fun s => addPend .hostCopy q { s with mem := { s.mem with hostCopy := some h } } }

/-- The copy and collective engines work: Run, and some block of 20 to 23 not gated (R484, R488). -/
def enginesWork (s : State) : Bool :=
  s.pwr.cur == .run && !s.pwr.inReset && s.ring.clock && (List.range 4).any (fun b => !gated s (20 + b))

/-- HOST_COPY_REQUEST (R197, R198). -/
def execHostCopyRequest (q : Req) (value : Bytes) (s : State) : Out :=
  .next (writeReq q 0 0x4800 1 value (hostRule q value) s)

/-- The value a host copy request had, for the log. -/
def hostValue (h : HostCopy) : Bytes :=
  leBytes 1 (if h.load then 0 else 1) ++ zeros 1 ++ leBytes 2 h.buffer ++ leBytes 8 h.offset ++ zeros 4
    ++ leBytes 8 h.desc.addr ++ leBytes 1 h.desc.space ++ leBytes 1 h.desc.reserved
    ++ leBytes 1 h.desc.esize ++ leBytes 1 h.desc.rank
    ++ leBytes 2 ((if h.desc.materialize then 1 else 0) + (if h.desc.listMode then 2 else 0)
        + 4 * h.desc.flagsHigh)
    ++ leBytes 1 h.desc.listA ++ leBytes 1 h.desc.listB ++ leBytes 4 h.desc.listDesc
    ++ leBytes 4 h.desc.pad ++ leBytes 4 h.desc.limA ++ leBytes 4 h.desc.limB
    ++ h.desc.dims.flatMap (fun x => leBytes 4 x.extent ++ leBytes 8 (x.stride % 2 ^ 64).toNat
        ++ leBytes 2 x.padLow ++ leBytes 2 x.padHigh)

/-- HOST_COPY_COMPLETE (R198): every element moved, the copy counted, the write completed. -/
def execHostCopyComplete (s : State) : Out :=
  let s := fresh s
  .next (match s.mem.hostCopy, pendOf s .hostCopy with
    | some h, some p =>
      if !enginesWork s || !s.mem.trained then s
      else
        let base := (bufferIn p.regs h.buffer).1 + h.offset
        let s := { s with mem := { s.mem with hostCopy := none } }
        let s := if h.load then hostLoad base h.desc s else hostStore base h.desc s
        let n := if h.load ∧ h.desc.materialize then blockCount h.desc else validCount h.desc
        finishPend .hostCopy (hostValue h) (bump 0x4801 1 (n * elemBytes h.desc) (bump 0x4800 2 1 s))
    | _, _ => s)

end Sys2Proof.Machine
end

