-- ==== Sys2Proof/Machine/ScoreImage.lean ====
section
/-! DEFINITION. Score images (R45 to R54, R187, R214, R216, R323 to R326): the fields of a staged image,
the score they declare, and what makes an image malformed (check 4 of R55). An image is read through a
function from an offset and a length to a little-endian number.

Choices beyond the manual's plain words (notes/assumptions): DESIGN CHOICE 151. -/

namespace Sys2Proof.Machine

/-- A reader of an image. -/
abbrev Reader := Nat → Nat → Nat

/-- The reader of the bytes from an address of memory. -/
def readerAt (s : State) (base : Nat) : Reader := fun o n => leNat (bytesAt s (base + o) n)

/-- A token reference (R50). -/
def tokRefOf (v : Nat) : Option TokRef := if v = 0xFFFFFFFF then none else some ⟨v / 4096, v % 4096⟩

/-- n token references from an offset. -/
def tokRefs (rd : Reader) (o n : Nat) : List TokRef :=
  (List.range n).filterMap (fun i => tokRefOf (rd (o + 4 * i) 4))

/-- A descriptor index field: none at all ones. -/
def descIxOf (v : Nat) : Option Nat := if v = 0xFFFFFFFF then none else some v

/-! ## Sections (R46 to R48) -/

/-- The section table: type, reserved, offset, length. -/
def sectionTable (rd : Reader) : List (Nat × Nat × Nat × Nat) :=
  (List.range (rd 76 4)).map (fun i =>
    let o := 256 + 24 * i
    (rd o 2, rd (o + 2) 6, rd (o + 8) 8, rd (o + 16) 8))

/-- Offset and length of a section; (0, 0) where the image has none. -/
def sectionOf (rd : Reader) (t : Nat) : Nat × Nat :=
  match (sectionTable rd).find? (fun e => e.1 == t) with
  | some e => (e.2.2.1, e.2.2.2)
  | none => (0, 0)

/-- The number in the first bytes of a section's head; 0 where the image has none. -/
def headCount (rd : Reader) (t o : Nat) : Nat :=
  let x := sectionOf rd t
  if x.2 = 0 then 0 else rd (x.1 + o) 4

/-! ## Records -/

/-- A crumb record (R49). -/
def crumbAt (rd : Reader) (o : Nat) : Crumb :=
  let flags := rd (o + 24) 2
  let cr := fun i => let v := rd (o + 56 + 4 * i) 4; if v = 0xFFFFFFFF then none else some (v / 65536, v % 65536)
  let fill := rd (o + 64) 4
  { word := BitVec.ofNat 128 (rd o 16)
    num := rd (o + 16) 4
    half := rd (o + 20) 1
    core := rd (o + 21) 1
    phase := rd (o + 22) 2
    stealable := flags.testBit 0
    padElidable := flags.testBit 1
    gated := flags.testBit 2
    cost := rd (o + 28) 4
    inputs := tokRefs rd (o + 32) 4
    outputs := tokRefs rd (o + 48) 2
    credits := [0, 1].filterMap cr
    fill := if fill = 0xFFFFFFFF then none else some (fill / 2 ^ 20, fill % 2 ^ 20)
    padSlot := bits 31 26 (rd (o + 68) 4)
    padTile := bits 25 14 (rd (o + 68) 4) }

/-- The reserved fields of a crumb record are zero. Those of the pad position, which only a pad-elidable crumb uses, are
checked for such a crumb alone (notes/assumptions/151.md, DESIGN CHOICE). -/
def crumbFormOk (rd : Reader) (o : Nat) : Bool :=
  rd (o + 24) 2 < 8 && rd (o + 26) 2 == 0 && rd (o + 72) 8 == 0
    && (!(rd (o + 24) 2).testBit 1 || rd (o + 68) 4 % 2 ^ 14 == 0)

/-- A copy job record (R187). -/
def jobAt (rd : Reader) (o : Nat) : CopyJob :=
  ⟨rd o 1, rd (o + 1) 1, rd (o + 2) 2, rd (o + 4) 4, rd (o + 8) 4, tokRefOf (rd (o + 12) 4),
    tokRefs rd (o + 16) 2, rd (o + 24) 4⟩

/-- A memory stream record (R214). -/
def streamAt (rd : Reader) (o : Nat) : StreamDecl :=
  let pace := rd (o + 16) 4
  ⟨rd o 4, rd (o + 4) 1, rd (o + 5) 1, rd (o + 6) 2, rd (o + 8) 2, rd (o + 10) 1, tokRefOf (rd (o + 12) 4),
    if pace = 0xFFFFFFFF then none else some (pace / 4096), tokRefs rd (o + 20) 2, rd (o + 28) 4⟩

/-- The code and reserved fields of a stream record. -/
def streamFormOk (rd : Reader) (o : Nat) : Bool :=
  rd o 4 < 2 ^ 19 && rd (o + 4) 1 ≤ 1 && rd (o + 6) 2 < 4096 && rd (o + 11) 1 == 0
    && (rd (o + 16) 4 == 0xFFFFFFFF || rd (o + 16) 4 % 4096 == 0)

/-- A collective record (R324). -/
def collAt (rd : Reader) (o : Nat) : CollDecl :=
  { kind := rd o 1
    format := rd (o + 1) 1
    alg := rd (o + 2) 1
    op := rd (o + 3) 1
    group := rd (o + 4) 2
    engine := rd (o + 6) 1
    gated := (rd (o + 7) 1).testBit 0
    flagsHigh := rd (o + 7) 1 / 2
    input := tokRefOf (rd (o + 8) 4)
    outputs := tokRefs rd (o + 12) 2
    src := descIxOf (rd (o + 20) 4)
    dst := descIxOf (rd (o + 24) 4)
    count := rd (o + 28) 4
    costs := (List.range 10).map (fun i => rd (o + 32 + 4 * i) 4)
    staging := descIxOf (rd (o + 72) 4)
    reserved := rd (o + 76) 20 }

/-- The kinds of collectives that are defined (R325). -/
def collKinds : List Nat := [0, 1, 2, 4, 5, 6]

/-- The code and reserved fields of a collective record. -/
def collFormOk (c : CollDecl) : Bool :=
  collKinds.contains c.kind && [0, 2, 3, 5, 8].contains c.format && c.alg ≤ 3 && c.op ≤ 2
    && c.flagsHigh == 0 && c.reserved == 0
    && [c.src, c.dst, c.staging].all (fun d => match d with | some i => i < 2 ^ 19 | none => true)

/-- The constant entries of a section: head, then address, length, data, padded to 64 bytes (R216). -/
def constsFrom (rd : Reader) : Nat → Nat → List ConstDecl
  | 0, _ => []
  | n + 1, o =>
    let len := rd (o + 8) 8
    ⟨rd o 8, len, o + 16⟩ :: constsFrom rd n ((o + 16 + len + 63) / 64 * 64)

/-- Where the entries of a constant section end. -/
def constsEnd (rd : Reader) : Nat → Nat → Nat
  | 0, o => o
  | n + 1, o => constsEnd rd n ((o + 16 + rd (o + 8) 8 + 63) / 64 * 64)

/-- n records of a size from an offset. -/
def records {α : Type} (f : Nat → α) (o size n : Nat) : List α :=
  (List.range n).map (fun i => f (o + size * i))

/-- The score that an image declares. -/
def scoreOf (rd : Reader) : Score :=
  let at0 := fun t => (sectionOf rd t).1
  let nd := headCount rd 9 0
  let flags := rd 44 2
  { id := rd 16 8
    bound := rd 24 8
    orderedBound := rd 32 8
    penalty := rd 40 4
    orderedFlag := flags.testBit 0
    chunkCode := rd 46 1
    slotCount := rd 47 1
    phases := rd 48 4
    signer := BitVec.ofNat 256 (rd 80 32)
    crumbs := records (crumbAt rd) (at0 1) 80 (rd 52 4)
    tokens := records (fun o => ⟨rd o 4 / 4096, rd o 4 % 4096, rd (o + 4) 1, rd (o + 5) 1, rd (o + 6) 2⟩)
      (at0 2) 8 (rd 56 4)
    pools := records (fun o => ⟨rd o 2, rd (o + 2) 2, rd (o + 4) 1, rd (o + 6) 2⟩) (at0 3) 8 (rd 60 4)
    slots := records (fun o => ⟨rd o 1, rd (o + 4) 4⟩) (at0 7) 8 (rd 47 1)
    relief := records (fun o => ⟨rd o 1, rd (o + 1) 1, rd (o + 2) 1⟩) (at0 8) 4 ((sectionOf rd 8).2 / 4)
    descs := records (fun o => descOf (leBytes 128 (rd o 128))) (at0 9 + 64) 128 nd
    jobs := records (jobAt rd) (at0 9 + 64 + 128 * nd) 32 (headCount rd 9 4)
    streams := records (streamAt rd) (at0 6 + 64) 32 (rd 68 4)
    colls := records (collAt rd) (at0 5 + 64) 96 (rd 72 4)
    buckets := records (fun o => ⟨rd o 4, rd (o + 4) 4, rd (o + 8) 8⟩) (at0 4 + 64) 16 (rd 64 4)
    consts := constsFrom rd (headCount rd 10 0) (at0 10 + 64)
    recordsAt := at0 1 }

/-! ## Check 4 -/

/-- Header fields conform to R47. -/
def headerOk (rd : Reader) : Bool :=
  rd 0 4 == 0x43535A4B && rd 4 2 / 256 == 3 && rd 6 2 == 256 && rd 8 8 ≤ 2 ^ 30 && rd 44 2 < 2
    && rd 46 1 ≤ 3 && 1 ≤ rd 47 1 && rd 47 1 ≤ 64 && 1 ≤ rd 48 4 && rd 48 4 ≤ 4096 && rd 64 4 ≤ 4096
    && 4 ≤ rd 76 4 && rd 76 4 ≤ 16 && rd 112 144 == 0

/-- The section table conforms to R46 and R48. -/
def tableOk (rd : Reader) : Bool :=
  let t := sectionTable rd
  let len := rd 8 8
  t.all (fun e => e.2.1 == 0 && ((1 ≤ e.1 && e.1 ≤ 10) || e.1 == 0xFF) && e.2.2.1 % 64 == 0
      && 256 + 24 * rd 76 4 ≤ e.2.2.1 && e.2.2.1 + e.2.2.2 ≤ len)
    && (t.map (fun e => e.1)).Nodup
    && [1, 2, 7, 0xFF].all (fun k => t.any (fun e => e.1 == k))
    && t.all (fun a => t.all (fun b => a.1 == b.1 || a.2.2.1 + a.2.2.2 ≤ b.2.2.1 || b.2.2.1 + b.2.2.2 ≤ a.2.2.1))
    && sectionOf rd 0xFF == (len - 3373, 3373)

/-- A section with a 64-byte head holds the records its head counts; an absent section holds none. -/
def headedOk (rd : Reader) (t size n headBytes : Nat) : Bool :=
  let x := sectionOf rd t
  if x.2 = 0 then n == 0
  else rd x.1 4 == n && x.2 == 64 + size * n && rd (x.1 + headBytes) (64 - headBytes) == 0

/-- Sections hold their records exactly. -/
def sectionsOk (rd : Reader) : Bool :=
  let nd := headCount rd 9 0
  let k := sectionOf rd 10
  let c := sectionOf rd 9
  (sectionOf rd 1).2 == 80 * rd 52 4 && (sectionOf rd 2).2 == 8 * rd 56 4
    && (sectionOf rd 3).2 == 8 * rd 60 4 && (sectionOf rd 7).2 == 8 * rd 47 1 && (sectionOf rd 8).2 % 4 == 0
    && headedOk rd 4 16 (rd 64 4) 4 && headedOk rd 5 96 (rd 72 4) 4 && headedOk rd 6 32 (rd 68 4) 4
    && (c.2 == 0 || (nd ≤ 524288 && c.2 == 64 + 128 * nd + 32 * headCount rd 9 4 && rd (c.1 + 8) 56 == 0))
    && (k.2 == 0 || (rd (k.1 + 4) 60 == 0 && constsEnd rd (headCount rd 10 0) (k.1 + 64) == k.1 + k.2))

/-- Consecutive members of a list stand in a relation. -/
def chain {α : Type} (r : α → α → Bool) : List α → Bool
  | [] => true
  | [_] => true
  | a :: b :: t => r a b && chain r (b :: t)

/-- The sort key of R49. -/
def crumbKey (c : Crumb) : Nat := (c.half * 256 + c.core) * 65536 + c.phase

/-- Reserved fields of the records are zero. -/
def recordsOk (rd : Reader) : Bool :=
  let at0 := fun t => (sectionOf rd t).1
  let nd := headCount rd 9 0
  (records (crumbFormOk rd) (at0 1) 80 (rd 52 4)).all id
    && (records (fun o => rd (o + 5) 1 == 0) (at0 3) 8 (rd 60 4)).all id
    && (records (fun o => rd (o + 1) 3 == 0) (at0 7) 8 (rd 47 1)).all id
    && (records (fun o => rd (o + 3) 1 == 0) (at0 8) 4 ((sectionOf rd 8).2 / 4)).all id
    && (records (fun o => rd (o + 28) 4 == 0 && rd (o + 4) 4 < 2 ^ 19 && rd (o + 8) 4 < 2 ^ 19)
        (at0 9 + 64 + 128 * nd) 32 (headCount rd 9 4)).all id
    && (records (streamFormOk rd) (at0 6 + 64) 32 (rd 68 4)).all id
    && (records (fun o => rd (o + 8) 8 == 0) (at0 4 + 64) 16 (rd 64 4)).all id

/-- The roles of the score's descriptors, the pairs of its copies (R178, R180). -/
def rolesOk (sc : Score) : Bool :=
  let n := sc.descs.length
  sc.descs.all (fun d => descFieldsOk d (if d.listMode then sc.descs[d.listDesc]? else none))
    && sc.jobs.all (fun j => n ≤ j.src || n ≤ j.dst || copyPairOk sc j.src j.dst .engineSource true)
    && sc.streams.all (fun x => n ≤ x.desc || !namesTile sc (scoreDesc sc x.desc))

/-- Constant entries do not overlap (R216). -/
def constsApart : List ConstDecl → Bool
  | [] => true
  | a :: t => t.all (fun b => a.addr + a.len ≤ b.addr || b.addr + b.len ≤ a.addr || a.len == 0 || b.len == 0)
      && constsApart t

/-- The image conforms (check 4 of R55). -/
def imageOk (rd : Reader) : Bool :=
  headerOk rd && tableOk rd && sectionsOk rd && recordsOk rd &&
    (let sc := scoreOf rd
     chain (fun a b => crumbKey a ≤ crumbKey b) sc.crumbs && (sc.crumbs.map (fun c => c.num)).Nodup
      && (sc.tokens.map (fun t => t.id)).Nodup && (sc.pools.map (fun p => p.num)).Nodup
      && (sc.slots.map (fun x => x.num)).Nodup
      && sc.colls.all collFormOk && rolesOk sc && sc.crumbs.all (wordOk sc) && constsApart sc.consts)

end Sys2Proof.Machine
end

