-- ==== Sys2Proof/Machine/ScoreCheck.lean ====
section
/-! DEFINITION. The checks of R55 on an image that conforms: ranges and homes (check 5, with R167, R193,
R328 and R362), cycles and the step bound (R87 to R89, R189, R215), self-contained crumbs, capacities
(R57), and the set of work that precedes commit (R145).

Choices beyond the manual's plain words (notes/assumptions): DEDUCED 48, 49, 136; DESIGN CHOICE 143, 152, 153. -/

namespace Sys2Proof.Machine

/-! ## Ranges and homes -/

/-- The compute die that runs a stream (R214). -/
def runnerOf (x : StreamDecl) : Nat :=
  if x.target = 1 then x.runner else ((List.range 12).find? (fun d => x.mask.testBit d)).getD 0

/-- A token is declared. -/
def tokDeclared (sc : Score) (t : Nat) : Bool := sc.tokens.any (fun x => x.id == t)

/-- A token is declared and homed at a consumer (R51). -/
def homedAt (sc : Score) (die cluster ep t : Nat) : Bool :=
  sc.tokens.any (fun x => x.id == t && x.die == die && x.cluster == cluster && x.ep == ep)

/-- The references of a crumb lie within what is declared. -/
def crumbRefsOk (sc : Score) (c : Crumb) : Bool :=
  c.half < 24 && c.core < 96 && c.phase < sc.phases
    && c.inputs.all (fun r => homedAt sc (4 + c.half / 2) (c.core / 8) (c.half % 2) r.tok)
    && c.outputs.all (fun r => tokDeclared sc r.tok)
    && c.credits.all (fun r => sc.pools.any (fun p => p.num == r.1))
    && (match c.fill with | some f => f.1 < sc.buckets.length | none => true)
    && (!c.padElidable || sc.slots.any (fun x => x.num == c.padSlot))
    && wordInRange sc c

/-- The references of a copy job lie within what is declared (R187, R188). -/
def jobRefsOk (sc : Score) (j : CopyJob) : Bool :=
  j.die < 4 && j.engine < 16 && j.src < sc.descs.length && j.dst < sc.descs.length
    && (match j.input with | some r => homedAt sc j.die 0xFF (0x100 + j.engine) r.tok | none => true)
    && j.outputs.all (fun r => tokDeclared sc r.tok)

/-- The references of a stream lie within what is declared (R214). -/
def streamRefsOk (sc : Score) (x : StreamDecl) : Bool :=
  let home := homedAt sc (4 + runnerOf x) 0xFF 0x7FF
  x.desc < sc.descs.length && x.partition ≤ 14 && 1 ≤ x.segments && x.segments ≤ 4096
    && (if x.target = 0 then x.mask != 0 && x.runner == 0 else x.mask == 0 && x.runner < 12)
    && (match x.input with | some r => home r.tok | none => true)
    && (match x.pace with | some t => home t | none => true)
    && x.outputs.all (fun r => tokDeclared sc r.tok)

/-- The references of a collective lie within what is declared. -/
def collRefsOk (sc : Score) (c : CollDecl) : Bool :=
  [c.src, c.dst, c.staging].all (fun d => match d with | some i => i < sc.descs.length | none => true)
    && c.group < 4096
    && (match c.input with | some r => 4 ≤ c.engine || homedAt sc c.engine 0xFF 0x200 r.tok | none => true)
    && c.outputs.all (fun r => tokDeclared sc r.tok)

/-- A descriptor is used as a destination by a copy. -/
def usedAsDest (sc : Score) (i : Nat) : Bool :=
  sc.jobs.any (fun j => j.dst == i) || sc.crumbs.any (fun c => opcodeOf c == 0x40 && cf c 100 82 == i)

/-- Every reference and range of the score is in bounds: check 5 of R55, to which a value of a declaration outside its
range belongs too (notes/assumptions/152.md, DESIGN CHOICE). -/
def rangesOk (sc : Score) : Bool :=
  sc.tokens.all (fun t => 1 ≤ t.final && t.die < 20 && (t.cluster < 12 || t.cluster == 0xFF))
    && sc.pools.all (fun p => 1 ≤ p.size && p.die < 20)
    && sc.slots.all (fun x => x.num < sc.slotCount && 1 ≤ x.budget && x.budget ≤ 262144)
    && sc.relief.all (fun r => r.half < 24 && r.core < 96 && 96 ≤ r.relief && r.relief < 100)
    && sc.crumbs.all (crumbRefsOk sc) && sc.jobs.all (jobRefsOk sc) && sc.streams.all (streamRefsOk sc)
    && sc.colls.all (collRefsOk sc) && sc.buckets.all (fun b => b.coll < sc.colls.length)
    && sc.descs.zipIdx.all (fun p =>
        spanInSpace p.1 (usedAsDest sc p.2) && (!p.1.listMode || p.1.listDesc < sc.descs.length)
          && traversal p.1 (entryCount p.1 sc.descs[p.1.listDesc]?) ≤ 2 ^ 34)
    && sc.consts.all (fun k => inTenant k.addr k.len)

/-! ## Copies that overlap (R191 to R193) -/

/-- A copy of the score: its batch, its core (0 for jobs), its descriptors. -/
structure CopyMember where
  batch : Nat
  core : Nat
  src : Desc
  dst : Desc
deriving DecidableEq, Repr

/-- The copies in the order of R193. A copy crumb's batch number is bits 81 to 66 of its word (R182). -/
def copyMembers (sc : Score) : List CopyMember :=
  (sc.crumbs.filter (fun c => opcodeOf c == 0x40)).map (fun c =>
      ⟨cf c 81 66, 1 + 96 * c.half + c.core, scoreDesc sc (cf c 119 101), scoreDesc sc (cf c 100 82)⟩)
    ++ sc.jobs.map (fun j => ⟨j.batch, 0, scoreDesc sc j.src, scoreDesc sc j.dst⟩)

/-- Two ranges of two copies overlap: in one space and, for the tile store, one core. -/
def spansMeet (a b : CopyMember) (da db : Desc) (ra rb : Int × Int) : Bool :=
  da.space == db.space && (da.space == 0 || a.core == b.core) && meet ra rb

/-- R191 on one copy. -/
def selfOverlap (m : CopyMember) : Bool :=
  spansMeet m m m.src m.dst (fullRange m.src false) (fullRange m.dst true) && !orderPreserving m.src m.dst

/-- R192 on a pair: 0 or the code. -/
def pairCode (a b : CopyMember) : Nat :=
  let full := fun (d : Desc) => fullRange d true
  let hit := fun da db ra rb => spansMeet a b da db ra rb
  if hit a.dst b.dst (validRange a.dst) (validRange b.dst) then 0x02700001
  else if hit a.dst b.src (full a.dst) (fullRange b.src false)
      || hit a.src b.dst (fullRange a.src false) (full b.dst) then 0x02700001
  else if (a.dst.materialize && hit a.dst b.dst (full a.dst) (validRange b.dst))
      || (b.dst.materialize && hit a.dst b.dst (validRange a.dst) (full b.dst)) then 0x02700002
  else if a.dst.materialize && b.dst.materialize && hit a.dst b.dst (full a.dst) (full b.dst)
      && (a.dst.esize != b.dst.esize || a.dst.pad != b.dst.pad) then 0x02700002
  else 0

/-- The first code of the pairs of one batch, in ascending order. -/
def pairsCode : List CopyMember → Nat
  | [] => 0
  | a :: t =>
    match (t.filter (fun b => a.batch ≠ 0 ∧ b.batch = a.batch)).map (pairCode a) |>.find? (· ≠ 0) with
    | some c => c
    | none => pairsCode t

/-- The code of the copies (R193). -/
def overlapCode (sc : Score) : Nat :=
  let ms := copyMembers sc
  if ms.any selfOverlap then 0x02700001 else pairsCode ms

/-! ## Collectives (R328, R348) -/

/-- The element size of a collective's format. -/
def collElem (f : Nat) : Nat :=
  match f with
  | 2 => 2
  | 3 => 2
  | 5 => 4
  | 8 => 8
  | _ => 0

/-- A collective's source and destination descriptors. -/
def collDesc (sc : Score) (d : Option Nat) : Option Desc := d.map (scoreDesc sc)

/-- The element size that a collective moves: its format's, or for an all-gather its destination's. -/
def collEsize (sc : Score) (c : CollDecl) : Nat :=
  if c.kind = 2 then (match collDesc sc c.dst with | some d => elemBytes d | none => 1) else collElem c.format

/-- A descriptor is dense, in memory, and covers E elements of a size. -/
def denseOf (d : Option Desc) (e n : Nat) : Bool :=
  match d with
  | some x => x.space == 0 && flatRegion x (e * n) && elemBytes x == e
  | none => false

/-- The default crossover in KiB by planes per dimension (R332). -/
def defaultCrossover (planes : Nat) : Nat :=
  match planes with
  | 32 => 381
  | 16 => 191
  | 10 => 119
  | 8 => 95
  | _ => 72

/-- The crossover in force, in bytes (0x7010:02). -/
def crossover (regs : List (Nat × Nat)) : Nat :=
  let v := rgIn regs 0x7010 1
  1024 * (if v = 0 then defaultCrossover (32 / max 1 (rgIn regs 0x6000 2)) else v)

/-- Which stages scatter (R332): the ranges R_i of the member, given until one stage does not. -/
def scatterFrom (alg e cross self : Nat) (r : Nat × Nat) : List (Nat × List Nat) → List Bool
  | [] => []
  | st :: t =>
    let go := alg = 2 || (alg = 0 && cross ≤ r.2 * e)
    if go then true :: scatterFrom alg e cross self (piece r st.2.length (ordinal st self)) t
    else (st :: t).map (fun _ => false)

/-- The staging region that ordered mode needs: (n_i − 1) times the elements received from one peer, at
every stage. -/
def stagingNeed (self : Nat) (r : Nat × Nat) (e : Nat) : List (Nat × List Nat) → List Bool → Nat
  | [], _ => 0
  | st :: t, [] => max ((st.2.length - 1) * r.2 * e) (stagingNeed self r e t [])
  | st :: t, b :: bs =>
    let r' := if b then piece r st.2.length (ordinal st self) else r
    max ((st.2.length - 1) * r'.2 * e) (stagingNeed self r' e t bs)

/-- The gather stages that a collective of m stages can use: every one of an all-gather, and of an all-reduce that may
scatter (R331, R332). -/
def gatherStages (c : CollDecl) (m : Nat) : Nat :=
  if c.kind = 2 ∨ (c.kind = 0 ∧ (c.alg = 0 ∨ c.alg = 2)) then m else 0

/-- The costs of the stages that a collective of m stages cannot use are zero (R324). -/
def costsOk (c : CollDecl) (m : Nat) : Bool :=
  let r := if c.kind = 2 then 0 else m
  ((c.costs.take 5).drop r).all (· == 0) && ((c.costs.drop 5).drop (gatherStages c m)).all (· == 0)

/-- A collective record conforms to R324, R325, R327 and, in ordered mode, R335. -/
def collOk (sc : Score) (ordered : Bool) (cross self : Nat) (sts : List (Nat × List Nat)) (c : CollDecl) :
    Bool :=
  let s := collDesc sc c.src
  let d := collDesc sc c.dst
  let reduce := c.kind = 0 || c.kind = 1
  let region := reduce || c.kind = 2
  let e := collEsize sc c
  c.engine ≤ 3 && (!c.gated || (c.kind != 4 && c.kind != 5)) && costsOk c sts.length
    && (match c.kind with
        | 0 => (c.format == 2 || c.format == 3 || c.format == 5 || (c.format == 8 && c.alg == 3))
            && (c.alg != 3 || c.count == 1) && (if c.format = 8 then c.op == 2 else c.op ≤ 1)
        | 1 => (c.format == 2 || c.format == 3 || c.format == 5) && c.alg == 2 && c.op == 0
        | 2 => c.format == 0 && c.alg == 2 && c.op == 0
        | 4 => c.format == 5 && c.alg == 3 && c.op == 0
        | 5 => c.format == 0 && c.alg == 3 && c.op == 2 && c.src.isNone && c.dst.isNone
        | _ => c.format == 0 && c.alg == 1 && c.op == 0)
    && (!region || (1 ≤ c.count && c.count ≤ 2 ^ 30 && denseOf s e c.count && denseOf d e c.count))
    && (!reduce || (match s, d with
        | some a, some b => !meet (fullRange a false) (fullRange b true)
        | _, _ => false))
    && (c.kind != 4 || (denseOf s 4 1 && (match d with | some _ => denseOf d 4 1 | none => true)))
    && (c.kind != 6 ||
        (let k := bits 31 24 c.count
         let rows := bits 22 0 c.count
         1 ≤ k && k ≤ 64 && 1 ≤ rows && rows % 64 == 0
          && (match s, d with
              | some a, some b => a.space == 0 && b.space == 0 && flatRegion a (rows / 64 * (512 * k))
                  && flatRegion b (rows / 64 * (512 * k))
              | _, _ => false)))
    && (if ordered && reduce && c.alg != 3 then
        match collDesc sc c.staging with
        | some x => x.space == 0 && isDense x
            && stagingNeed self (0, c.count) e sts (scatterFrom c.alg e cross self (0, c.count) sts) ≤ validCount x * elemBytes x
        | none => false
       else true)

/-- A bucket conforms to R326. -/
def bucketOk (sc : Score) (b : BucketDecl) : Bool :=
  match sc.colls[b.coll]? with
  | none => false
  | some c =>
    let n := c.count * collElem c.format
    (c.kind == 0 || c.kind == 1) && 2 ^ 20 ≤ n && n ≤ 2 ^ 26 && b.fill ≤ n / 256

/-- A collective runs on the praline lane. -/
def onPraline (c : CollDecl) : Bool := c.kind == 4 || c.kind == 5 || (c.kind == 0 && c.alg == 3)

/-- The code of the collectives (R328). -/
def collCode (sc : Score) (ordered : Bool) (t : Tables) (self : Nat) : Nat :=
  let verdicts := sc.colls.filter (fun c => c.kind == 5)
  let losses := sc.colls.filter (fun c => c.kind == 4)
  let job := (List.range (jobSize t.regs)).map (affineAddr t.regs)
  let vg := (verdicts.head?.map (fun c => c.group)).getD 0
  let members := (regularGroup t self vg).map (productFrom 0) |>.getD []
  if sc.colls.any (fun c => (regularGroup t self c.group).isNone) then 0x02500001
  else if verdicts.length ≠ 1 || 1 < losses.length || losses.any (fun c => c.group != vg)
      || members.length ≠ job.length || !members.all (fun a => job.contains a) then 0x02500003
  else if !sc.colls.all (fun c => collOk sc ordered (crossover t.regs) self (groupStages t self c.group) c)
      || !sc.buckets.all (bucketOk sc)
      || sc.colls.any (fun c => 4 < (sc.colls.filter (fun x => x.group == c.group && onPraline x)).length)
  then 0x02500004
  else 0

/-! ## Glaze and pairs (R362, R376) -/

/-- The bytes of a member's share of a collective: its address and length. -/
def shareSpan (sc : Score) (t : Tables) (self : Nat) (c : CollDecl) : Nat × Nat :=
  let r := shareOf (groupStages t self c.group) self c.count
  let e := collEsize sc c
  let base := match collDesc sc c.dst with | some d => d.addr | none => 0
  (base + r.1 * e, r.2 * e)

/-- The used glazed entries: entry, collective number, record. -/
def glazedOf (sc : Score) (regs : List (Nat × Nat)) : List (Nat × Nat × CollDecl) :=
  (List.range 64).filterMap (fun t =>
    match glazedColl regs t with
    | some n => (sc.colls[n]?).map (fun c => (t, n, c))
    | none => none)

/-- The secured regions in use: entry, address, length, glazed entry. -/
def regionsOf (regs : List (Nat × Nat)) : List (Nat × Nat × Nat × Nat) :=
  (List.range 64).filterMap (fun r => (securedRegion regs r).map (fun x => (r, x.1, x.2.1, x.2.2)))

/-- Two ranges given by address and length share a byte. -/
def rangesMeet (a b : Nat × Nat) : Bool := a.1 < b.1 + b.2 && b.1 < a.1 + a.2

/-- The code of checks 1 to 4 of R362. -/
def glazeCode (sc : Score) (ordered : Bool) (t : Tables) (self : Nat) : Nat :=
  let bigH := rgIn t.regs 0x8000 2
  let g := glazedOf sc t.regs
  let used := (List.range 64).filter (fun e => (glazedColl t.regs e).isSome)
  let dests := g.filterMap (fun x => (collDesc sc x.2.2.dst).map (fun d => (d.addr, validCount d * elemBytes d)))
  let area := (rgIn t.regs 0x8000 3, rgIn t.regs 0x8000 4)
  let regs := regionsOf t.regs
  if used.length ≠ g.length || g.any (fun x => x.2.2.kind != 2 || !x.2.2.gated
      || (holderList (groupStages t self x.2.2.group) self).length < bigH) then 0x02600001
  else if regs.any (fun r => !inTenant r.2.1 r.2.2.1 || !used.contains r.2.2.2
      || regs.any (fun o => o.1 ≠ r.1 ∧ rangesMeet (o.2.1, o.2.2.1) (r.2.1, r.2.2.1))
      || (area :: dests).any (fun d => rangesMeet d (r.2.1, r.2.2.1))) then 0x02600001
  else if !inTenant area.1 area.2 || dests.any (rangesMeet area) then 0x02600001
  else if rgIn t.regs 0x8020 1 = 1 ∧
      (!ordered || (coordOf (rgIn t.regs 0x6020 (rgIn t.regs 0x8020 2 + 1))).1 ≠ 2) then 0x02600002
  else 0

/-- The holders that take this member's data or send it theirs: the distinct members of its lists. -/
def holderPeers (sc : Score) (t : Tables) (self : Nat) : List Nat :=
  ((glazedOf sc t.regs).flatMap (fun x => holderList (groupStages t self x.2.2.group) self)).eraseDups

/-- The glaze area that holding duties need (R362). -/
def glazeNeed (sc : Score) (t : Tables) (self : Nat) : Nat :=
  let bigH := rgIn t.regs 0x8000 2
  5 * bigH * ((glazedOf sc t.regs).foldl (fun n x => n + (shareSpan sc t self x.2.2).2) 0)
    + 3 * bigH * ((regionsOf t.regs).foldl (fun n r => n + r.2.2.1) 0) + 128 * (holderPeers sc t self).length

/-- The bytes of stripe i of an item of n bytes. -/
def stripeLen (n i : Nat) : Nat := min stripeBytes (n - i * stripeBytes)

/-- The bytes of secured regions that one holder takes at a secure step. -/
def bytesToHolder (sc : Score) (t : Tables) (self h : Nat) : Nat :=
  let bigH := rgIn t.regs 0x8000 2
  (regionsOf t.regs).foldl (fun n r =>
    match (glazedOf sc t.regs).find? (fun x => x.1 == r.2.2.2) with
    | none => n
    | some x =>
      let l := holderList (groupStages t self x.2.2.group) self
      (List.range (ceilDiv r.2.2.1 stripeBytes)).foldl (fun n i =>
        if (List.range bigH).any (fun k => holderOf l bigH i r.1 k == h) then n + stripeLen r.2.2.1 i else n) n) 0

/-- The planned bandwidth per peer in units of 10 MB/s (R332). -/
def planBandwidth (planes : Nat) : Nat :=
  match planes with
  | 32 => 34160
  | 16 => 17080
  | 10 => 10680
  | 8 => 8540
  | _ => 6410

/-- The securing allowance in ns (R363), the secure record's 64 bytes counted. -/
def securingAllowance (sc : Score) (t : Tables) (self : Nat) : Nat :=
  let most := (holderPeers sc t self).foldl (fun n h => max n (64 + bytesToHolder sc t self h)) 0
  if (glazedOf sc t.regs).isEmpty then 0
  else ceilDiv (most * 100) (planBandwidth (32 / max 1 (rgIn t.regs 0x6000 2))) + 20000

/-! ## The step graph (R87, R189, R215) -/

/-- A node: declared cost, unit, predecessors with the beats of their edges, and whether it is gated by
the commit token, the verdict or the loss (R145). -/
structure Node where
  cost : Nat
  unit : Nat × Nat × Nat
  preds : List (Nat × Nat)
  gated : Bool
deriving DecidableEq, Repr

/-- The index of the first segment of stream i. -/
def segBase (sc : Score) (i : Nat) : Nat :=
  (sc.streams.take i).foldl (fun n x => n + x.segments) (sc.crumbs.length + sc.jobs.length)

/-- The index of collective j's node. -/
def collNode (sc : Score) (j : Nat) : Nat := segBase sc sc.streams.length + j

/-- The increment of a token by a list of output references. -/
def incOf (tok : Nat) (rs : List TokRef) : Nat :=
  rs.foldl (fun n r => if r.tok = tok then n + r.cnt else n) 0

/-- The nodes, with their units, that bring a token to a count; a stream's segments up to the one whose
completion reaches it. -/
def producers (sc : Score) (tok need : Nat) : List (Nat × (Nat × Nat × Nat)) :=
  let has := fun (rs : List TokRef) => rs.any (fun r => r.tok == tok)
  (sc.crumbs.zipIdx.filter (fun p => has p.1.outputs)).map (fun p => (p.2, (0, p.1.half, p.1.core)))
    ++ (sc.jobs.zipIdx.filter (fun p => has p.1.outputs)).map
        (fun p => (sc.crumbs.length + p.2, (1, p.1.die, p.1.engine)))
    ++ (sc.streams.zipIdx.filter (fun p => has p.1.outputs)).flatMap (fun p =>
        ((List.range p.1.segments).filter (fun k => k = 0 ∨ k * incOf tok p.1.outputs < need)).map
          (fun k => (segBase sc p.2 + k, (2, p.2, 0))))
    ++ (sc.colls.zipIdx.filter (fun p => has p.1.outputs)).map (fun p => (collNode sc p.2, (3, p.1.engine, 0)))

/-- The edges of a token reference into a unit. -/
def tokEdges (sc : Score) (u : Nat × Nat × Nat) (tok need : Nat) : List (Nat × Nat) :=
  (producers sc tok need).map (fun p => (p.1, if p.2 = u then 0 else 24))

/-- The edge from the record before, if it is of the same list or engine. -/
def listEdge {α : Type} (same : α → α → Bool) (l : List α) (base i : Nat) (x : α) : List (Nat × Nat) :=
  match (l.zipIdx.take i).reverse.find? (fun p => same p.1 x) with
  | some p => [(base + p.2, 0)]
  | none => []

/-- The step graph: crumbs, jobs, stream segments, collectives, in this order. A collective's phases are
one node of their whole cost; its unit is its engine. Check 6 of R55 takes the same edges as R87, bucket fills among
them (notes/assumptions/153.md, DESIGN CHOICE). -/
def stepGraph (sc : Score) : List Node :=
  sc.crumbs.zipIdx.map (fun p =>
      let u := (0, p.1.half, p.1.core)
      { cost := p.1.cost, unit := u, gated := p.1.gated
        preds := listEdge (fun a b => a.half == b.half && a.core == b.core) sc.crumbs 0 p.2 p.1
          ++ p.1.inputs.flatMap (fun r => tokEdges sc u r.tok r.cnt) })
    ++ sc.jobs.zipIdx.map (fun p =>
      let u := (1, p.1.die, p.1.engine)
      { cost := p.1.cost, unit := u, gated := false
        preds := listEdge (fun a b => a.die == b.die && a.engine == b.engine) sc.jobs sc.crumbs.length p.2 p.1
          ++ (match p.1.input with | some r => tokEdges sc u r.tok r.cnt | none => []) })
    ++ sc.streams.zipIdx.flatMap (fun p =>
      let u := (2, p.2, 0)
      (List.range p.1.segments).map (fun k =>
        { cost := p.1.cost, unit := u, gated := false
          preds := (if k = 0 then (match p.1.input with | some r => tokEdges sc u r.tok r.cnt | none => [])
              else (segBase sc p.2 + k - 1, 0) ::
                (match p.1.pace with | some t => tokEdges sc u t k | none => [])) }))
    ++ sc.colls.zipIdx.map (fun p =>
      let u := (3, p.1.engine, 0)
      { cost := p.1.costs.foldl (· + ·) 0, unit := u, gated := p.1.gated || p.1.kind == 4 || p.1.kind == 5
        preds := (match p.1.input with | some r => tokEdges sc u r.tok r.cnt | none => [])
          ++ (sc.crumbs.zipIdx.filterMap (fun c =>
              match c.1.fill with
              | some f => if (sc.buckets[f.1]?.map (fun b => b.coll)) = some p.2 then some (c.2, 24) else none
              | none => none)) })

/-- One round of removing the nodes that wait on no node left; what is left after as many rounds as
there are nodes lies on or behind a cycle. -/
def peel (g : List Node) : Nat → List Nat → List Nat
  | 0, left => left
  | n + 1, left =>
    let rest := left.filter (fun i => ((g[i]?.map (fun x => x.preds)).getD []).any (fun p => left.contains p.1))
    if rest.length = left.length then left else peel g n rest

/-- The graph has a cycle (check 6). -/
def hasCycle (g : List Node) : Bool := !(peel g g.length (List.range g.length)).isEmpty

/-- One round of finishing times: each node's cost after the latest of its predecessors. -/
def relax (g : List Node) (t : List Nat) : List Nat :=
  g.map (fun x => x.cost + x.preds.foldl (fun m p => max m (t.getD p.1 0 + p.2)) 0)

/-- The computed bound of R87: the longest path. -/
def computedBound (g : List Node) : Nat :=
  (Nat.repeat (relax g) g.length (g.map (fun _ => 0))).foldl max 0

/-- One round of marking what depends on gated work. -/
def markRound (g : List Node) (m : List Bool) : List Bool :=
  g.map (fun x => x.gated || x.preds.any (fun p => m.getD p.1 false))

/-- Which nodes do not precede commit (R145). -/
def postCommit (g : List Node) : List Bool := Nat.repeat (markRound g) g.length (g.map (fun x => x.gated))

/-! ## Capacities (check 9) -/

/-- How many of a list's keys equal a key. -/
def countKey {α : Type} [DecidableEq α] (l : List α) (k : α) : Nat := (l.filter (fun x => x = k)).length

/-- The peers with which the score's collectives exchange data. -/
def collPeers (sc : Score) (t : Tables) (self : Nat) : List Nat :=
  (sc.colls.flatMap (fun c =>
    (groupStages t self c.group).flatMap (fun st => (stagePeers st self).map (fun p => p.2)))).eraseDups

/-- The affine address of a member's partner in paired mode (R376): the rank that differs only in the pair
coordinate. -/
def partnerAffine (regs : List (Nat × Nat)) (self : Nat) : Option Nat :=
  let j := rgIn regs 0x8020 2
  let w := ((jobCoords regs).take j).foldl (fun n c => n * c.1) 1
  if rgIn regs 0x8020 1 ≠ 1 then none
  else (affineRank regs self).map (fun (r : Nat) =>
    affineAddr regs (if r / w % 2 = 0 then r + w else r - w))

/-- Every peer of a member: those of its collectives, its holders, its partner. -/
def allPeers (sc : Score) (t : Tables) (self : Nat) : List Nat :=
  (collPeers sc t self ++ holderPeers sc t self ++ (partnerAffine t.regs self).toList).eraseDups

/-- The streams of a member's collectives: peer, class, stream; each carries traffic in both directions (R304). -/
def collFlows (sc : Score) (t : Tables) (self : Nat) : List (Nat × Nat × Stream) :=
  sc.colls.zipIdx.flatMap (fun c =>
    (groupStages t self c.1.group).flatMap (fun st => (stagePeers st self).map (fun p => (p.2, 2, .coll c.2))))

/-- Every stream of a member (R304, R307, R367): its collectives', to each holder the resilience streams, to each
peer a control stream. -/
def flows (sc : Score) (t : Tables) (self : Nat) : List (Nat × Nat × Stream) :=
  collFlows sc t self ++ (holderPeers sc t self).flatMap (fun a => [(a, 3, .state), (a, 4, .state)])
    ++ (allPeers sc t self).map (fun a => (a, 1, .control))

/-- The code of check 9: the tables of R57, R187, R214, R304 and R323, then R362 order 5. -/
def capacityCode (sc : Score) (t : Tables) (self : Nat) : Nat :=
  let owners := sc.crumbs.map (fun c => (c.half, c.core))
  let homes := sc.tokens.map (fun x => (x.die, x.cluster, x.ep))
  let engines := sc.jobs.map (fun j => (j.die, j.engine))
  let dies := sc.streams.map runnerOf
  if owners.any (fun k => 1048576 < countKey owners k)
      || homes.any (fun k => (if k.2.1 = 0xFF then 16384 else 4096) < countKey homes k)
      || 65536 < sc.pools.length || 2304 < sc.relief.length || 16384 < sc.colls.length
      || engines.any (fun k => 65536 < countKey engines k) || dies.any (fun k => 64 < countKey dies k)
      || 262144 < 2 * ((collFlows sc t self).length + (collPeers sc t self).length) then 0x05100001
  else if rgIn t.regs 0x8000 4 < glazeNeed sc t self || 262144 < 2 * (flows sc t self).length then 0x05600001
  else 0

/-- The code of checks 4 to 9 of R55, 0 where all pass. emu: KZ-8 emulation is selected (R167). -/
def scoreCode (rd : Reader) (emu : Bool) (t : Tables) (self : Nat) : Nat :=
  if !imageOk rd then 0x02100001
  else
    let sc := scoreOf rd
    let ordered := sc.orderedFlag || emu
    if !rangesOk sc then 0x02100002
    else if emu && (sc.chunkCode != 1 || sc.crumbs.any usesMx) then 0x02100007
    else if overlapCode sc ≠ 0 then overlapCode sc
    else if collCode sc ordered t self ≠ 0 then collCode sc ordered t self
    else if glazeCode sc ordered t self ≠ 0 then glazeCode sc ordered t self
    else
      let g := stepGraph sc
      if hasCycle g then 0x02100004
      else if !sc.crumbs.all (fun c => !c.stealable || selfContained sc c) then 0x02100005
      else if sc.bound < computedBound g + sc.penalty || sc.orderedBound < sc.bound then 0x02100003
      else capacityCode sc t self

end Sys2Proof.Machine
end

