-- ==== Sys2Proof/Machine/Sequencer.lean ====
section
/-! DEFINITION. Cores at work (R58 to R71, R94, R95, R119, R213, R236): token counters, credit pools,
bucket fills, lists, firing, retiring, stealing, elision, prefetch.

Choices beyond the manual's plain words (notes/assumptions): DEDUCED 50, 51, 54, 55, 56, 131, 132; DESIGN
CHOICE 5, 120, 154. -/

namespace Sys2Proof.Machine

/-! ## Tokens, credits, fills -/

/-- A token's counter. -/
def tokenCount (s : State) (t : Nat) : Nat := at_ 0 t s.ex.step.tokens

/-- The running step replaced. -/
def withStep (f : Step → Step) (s : State) : State :=
  { s with ex := { s.ex with step := f s.ex.step } }

/-- An increment added to a token's counter; what would pass the final count is counted (R60). -/
def addToken (sc : Score) (t n : Nat) (s : State) : State :=
  match sc.tokens.find? (fun d => d.id == t) with
  | none => s
  | some d =>
    let v := tokenCount s t + n
    let s := if d.final < v then bump 0x2012 6 1 s else s
    withStep (fun x => { x with tokens := set_ 0 t (min v d.final) x.tokens }) s

/-- Input references have reached their counts. -/
def inputsMet (s : State) (rs : List TokRef) : Bool := rs.all (fun r => r.cnt ≤ tokenCount s r.tok)

/-- The key of an endpoint. -/
def endKey (die ep : Nat) : Nat := die * 2048 + ep

/-- Granules of credit of a class that a unit holds for one endpoint (notes/assumptions/5.md). -/
def unitCredit : Nat := 16

/-- The value of a key of a list of pairs; 0 where it is not listed. -/
def countAt {α : Type} [DecidableEq α] (k : α) (l : List (α × Nat)) : Nat :=
  ((l.find? (fun p => p.1 = k)).map (fun p => p.2)).getD 0

/-- The value of a key replaced; 0 is not listed. -/
def setCount {α : Type} [DecidableEq α] (k : α) (n : Nat) (l : List (α × Nat)) : List (α × Nat) :=
  let rest := l.filter (fun p => p.1 ≠ k)
  if n = 0 then rest else rest ++ [(k, n)]

/-- Granules of a class that a unit has in use toward an endpoint. -/
def creditUsedAt (s : State) (unit ep cls : Nat) : Nat := countAt (unit, ep, cls) s.ex.creditUsed

/-- The granules in use replaced. -/
def withCreditUsed (unit ep cls n : Nat) (s : State) : State :=
  { s with ex := { s.ex with creditUsed := setCount (unit, ep, cls) n s.ex.creditUsed } }

/-- A unit holds a granule of a class for an endpoint. -/
def holdsCredit (s : State) (unit ep cls : Nat) : Bool := creditUsedAt s unit ep cls < unitCredit

/-- One granule taken. -/
def takeCredit (unit ep cls : Nat) (s : State) : State :=
  withCreditUsed unit ep cls (creditUsedAt s unit ep cls + 1) s

/-- An increment that a unit sends to a token's home; without credit it joins the unit's pending count (R236). -/
def sendToken (unit : Nat) (d : TokDecl) (n : Nat) (s : State) : State :=
  if holdsCredit s unit (endKey d.die d.ep) 1 then emit (.token d.id n) (takeCredit unit (endKey d.die d.ep) 1 s)
  else { s with ex := { s.ex with
    pendTokens := setCount (unit, d.id) (countAt (unit, d.id) s.ex.pendTokens + n) s.ex.pendTokens } }

/-- The class that a grant of a score's pool travels in (notes/assumptions/131.md). -/
def poolClass : Nat := 1

/-- A credit grant that a unit sends for a pool; without credit it joins the unit's pending count (R236). -/
def sendGrant (unit : Nat) (p : PoolDecl) (n : Nat) (s : State) : State :=
  if holdsCredit s unit (endKey p.die p.ep) poolClass then
    emit (.creditGrant p.num n) (takeCredit unit (endKey p.die p.ep) poolClass s)
  else { s with ex := { s.ex with
    pendGrants := setCount (unit, p.num) (countAt (unit, p.num) s.ex.pendGrants + n) s.ex.pendGrants } }

/-- Output references delivered by a unit of a die (a half's cores share endpoint 0 or 1): at once where
the token is homed there, else by packet. unit: the sender, with its own credit. -/
def deliverFrom (unit : Nat) (sc : Score) (die ep : Nat) (rs : List TokRef) (s : State) : State :=
  rs.foldl (fun s r =>
    match sc.tokens.find? (fun d => d.id == r.tok) with
    | none => s
    | some d => if d.die = die ∧ d.ep = ep then addToken sc r.tok r.cnt s else sendToken unit d r.cnt s) s

/-- Output references delivered by the one unit of an endpoint. -/
def deliver (sc : Score) (die ep : Nat) (rs : List TokRef) (s : State) : State :=
  deliverFrom (endKey die ep) sc die ep rs s

/-- A bucket's fill counter. -/
def fillCount (s : State) (b : Nat) : Nat := at_ 0 b s.ex.step.fills

/-- A fill added to a bucket; one that arrives when the count is reached is excess (R326). -/
def addFill (sc : Score) (b n : Nat) (s : State) : State :=
  match sc.buckets[b]? with
  | none => s
  | some d =>
    if d.fill ≤ fillCount s b then bump 0x7020 9 1 s
    else withStep (fun x => { x with fills := set_ 0 b (fillCount s b + n) x.fills }) s

/-- The granules spent of a pool. -/
def spentOf (s : State) (p : Nat) : Nat := at_ 0 p s.ex.spent

/-- A crumb's credits are available (R61). -/
def creditsMet (sc : Score) (s : State) (c : Crumb) : Bool :=
  c.credits.all (fun r =>
    let want := c.credits.foldl (fun n x => if x.1 = r.1 then n + x.2 else n) 0
    match sc.pools.find? (fun p => p.num == r.1) with
    | some p => spentOf s r.1 + want ≤ p.size
    | none => false)

/-- Granules of a pool spent. -/
def spendPool (p n : Nat) (s : State) : State :=
  { s with ex := { s.ex with spent := set_ 0 p (spentOf s p + n) s.ex.spent } }

/-- Granules of a pool returned. -/
def returnPool (p n : Nat) (s : State) : State :=
  { s with ex := { s.ex with spent := set_ 0 p (spentOf s p - n) s.ex.spent } }

/-! ## Lists (R63) -/

/-- The key of a core. -/
def coreKey (half core : Nat) : Nat := half * 100 + core

/-- A core's sequencer. -/
def seqOf (s : State) (half core : Nat) : Seq := at_ {} (coreKey half core) s.ex.seqs

/-- A core's sequencer replaced. -/
def withSeq (half core : Nat) (q : Seq) (s : State) : State :=
  { s with ex := { s.ex with seqs := put (coreKey half core) q s.ex.seqs } }

/-- The records of a core that hold a property, in list order, as indices. -/
def coreRecords (sc : Score) (half core : Nat) (f : Crumb → Bool) : List Nat :=
  (sc.crumbs.zipIdx.filter (fun p => p.1.half == half && p.1.core == core && f p.1)).map (fun p => p.2)

/-- The next phase of a core that has records. -/
def nextPhase (sc : Score) (half core phase : Nat) : Option Nat :=
  ((coreRecords sc half core (fun c => phase < c.phase)).head?.bind (fun i => sc.crumbs[i]?)).map
    (fun c => c.phase)

/-- The sequencer with its next list, when the current one is empty. -/
def movedOn (sc : Score) (half core : Nat) (q : Seq) : Seq :=
  if !q.unfired.isEmpty then q
  else match nextPhase sc half core q.phase with
    | some p => { q with phase := p, unfired := coreRecords sc half core (fun c => c.phase == p) }
    | none => q

/-- The head of a core's list, with the sequencer once it has gone. -/
def headOf (sc : Score) (s : State) (half core : Nat) : Option (Nat × Crumb × Seq) :=
  let q := movedOn sc half core (seqOf s half core)
  match q.unfired with
  | [] => none
  | i :: t => (sc.crumbs[i]?).map (fun c => (i, c, { q with unfired := t }))

/-- The records of a core neither fired nor stolen, in every phase still ahead. -/
def remaining (sc : Score) (s : State) (half core : Nat) : List Nat :=
  let q := seqOf s half core
  q.unfired ++ coreRecords sc half core (fun c => q.phase < c.phase)

/-! ## Readiness -/

/-- The valid token count of a slot in the running step (R81). -/
def validTokens (s : State) (slot : Nat) : Nat :=
  match s.ex.admitted.find? (fun a => a.step == s.ex.step.num && a.slot == slot) with
  | some a => a.tokens
  | none => 0

/-- A crumb's row tile lies wholly in padding (R65). -/
def elides (s : State) (c : Crumb) : Bool := c.padElidable && validTokens s c.padSlot ≤ 64 * c.padTile

/-- Cores and engines work: a step is running, in Run, out of reset, the state RUNNING, or HELD while an
outcome is pending (R373), and no abandon under way (R368). -/
def stepWorks (s : State) : Bool :=
  s.ex.step.running && (s.dev == .running || s.dev == .held) && s.pwr.cur == .run && !s.pwr.inReset
    && rg s 0x8003 4 != 1

/-- A half's cores work: its compute die's block is not gated (R488). -/
def halfWorks (s : State) (half : Nat) : Bool := stepWorks s && !gated s (half / 2)

/-- A commit-gated crumb has its commit token (R64). -/
def commitMet (s : State) (c : Crumb) : Bool := !c.gated || s.ex.step.commit == some true

/-- Tokens, credits and the commit token of a crumb are there. -/
def crumbReady (sc : Score) (s : State) (c : Crumb) : Bool :=
  inputsMet s c.inputs && creditsMet sc s c && commitMet s c

/-- The crumb running on a unit of a site. -/
def siteUnit (x : Site) : ExecUnit → Option Running
  | .sequencer => x.sequencer
  | .matrix => x.matrix
  | .vector => x.vector
  | .copy => x.copy

/-- A unit of a site set. -/
def setUnit (u : ExecUnit) (r : Option Running) (x : Site) : Site :=
  match u with
  | .sequencer => { x with sequencer := r }
  | .matrix => { x with matrix := r }
  | .vector => { x with vector := r }
  | .copy => { x with copy := r }

/-- The crumbs running on a site. -/
def runningOn (x : Site) : List Running := [x.sequencer, x.matrix, x.vector, x.copy].filterMap id

/-- A crumb as it would run on a site: its tiles and ranges, with a VOPT record's arrays (R142). -/
def runningOf (sc : Score) (s : State) (x : Site) (i owner : Nat) (c : Crumb) : Running :=
  { crumb := i, owner := owner, accs := accsOf c
    ranges := rangesOf sc c ++ (if opcodeOf c = 0x38 then optRanges c (optRecOf s sc x c) else []) }

/-- A wait of R95 applies between two crumbs. -/
def waitsFor (a b : Running) : Bool :=
  a.accs.any (fun t => b.accs.contains t) || a.ranges.any (fun r => b.ranges.any (rangeConflict r))

/-- The unit that makes a crumb's accesses to memory. -/
def crumbUnit (s : State) (key : Nat) (c : Crumb) : Agent :=
  match execUnitOf c with
  | .vector => vectorUnit s key
  | .copy => copyUnit s key
  | _ => coreUnit s key

/-- The pieces of memory and of the tile store that a crumb reads. -/
def crumbReads (sc : Score) (s : State) (key : Nat) (c : Crumb) : List Piece :=
  match opcodeOf c with
  | 0x40 => copyReads sc s key (scoreDesc sc (cf c 119 101)) (scoreDesc sc (cf c 100 82))
  | 0x41 => [(false, 1024 * cf c 114 105, transSize c)]
  | 0x38 => optReads s sc (siteAt s key) c
  | _ => (refsOf c).filterMap (fun r => if r.2.2 then none else some (refIsDesc r.1, refBase sc r.1, r.2.1))

/-- The ranges of memory that a crumb accesses. What a VOPT crumb writes, it reads too. -/
def crumbRanges (sc : Score) (s : State) (key : Nat) (c : Crumb) : List (Nat × Nat) :=
  memPieces (crumbReads sc s key c) ++
    (match opcodeOf c with
      | 0x40 =>
        let dst := scoreDesc sc (cf c 100 82)
        if dst.space = 0 then
          (copyWrites sc s key (scoreDesc sc (cf c 119 101)) dst).map (fun w => (w.1, w.2.length))
        else []
      | _ => (refsOf c).filterMap (fun r => if r.2.2 && refIsDesc r.1 then some (refBase sc r.1, r.2.1) else none))

/-- A unit can access ranges of memory: the ring clock runs (R481), and no regulator shuts it out (R240). -/
def memoryOpen (s : State) (u : Agent) (ranges : List (Nat × Nat)) : Bool :=
  ranges.isEmpty || (s.ring.clock && !shutOut s u.part ranges)

/-- A crumb can fire at once on a site: its unit idle, no wait of R95, its memory within reach. -/
def canFire (sc : Score) (s : State) (key i owner : Nat) (c : Crumb) : Bool :=
  let x := siteAt s key
  (siteUnit x (execUnitOf c)).isNone && !(runningOn x).any (waitsFor (runningOf sc s x i owner c))
    && memoryOpen s (crumbUnit s key c) (crumbRanges sc s key c)

/-- The key of the site that runs a core's lists. -/
def coreSiteKey (s : State) (half core : Nat) : Nat := siteKey half (coreSite s half core)

/-! ## The sequencer's own store (R57) -/

/-- The records of a list that the sequencer holds: the first 256 and the last 64. -/
def heldRecords (l : List Nat) : List Nat := l.take 256 ++ (l.drop 256).drop ((l.drop 256).length - 64)

/-- Where a record lies in the installed image (R203). -/
def recordAddr (sc : Score) (i : Nat) : Nat := 0x16700000000 + sc.recordsAt + 80 * i

/-- A record fetched by a core's sequencer, in partition 15 (R217). -/
def fetchRecord (sc : Score) (key : Nat) (s : State) (i : Nat) : State :=
  let s := readRange { coreUnit s key with part := 15 } none (recordAddr sc i) 80 s
  match firstPoison s (recordAddr sc i) 80 with
  | some a => poisonRead a s
  | none => s

/-- A core's list replaced: the records that have entered the sequencer's store are fetched (R57). before: the list
of which it holds the records already. -/
def advanceList (sc : Score) (half core : Nat) (before : List Nat) (q : Seq) (s : State) : State :=
  let had := heldRecords before
  ((heldRecords (movedOn sc half core q).unfired).filter (fun i => !had.contains i)).foldl
    (fetchRecord sc (coreSiteKey s half core)) (withSeq half core q s)

/-- A core's list replaced by what is left of it. -/
def setList (sc : Score) (half core : Nat) (q : Seq) (s : State) : State :=
  advanceList sc half core (movedOn sc half core (seqOf s half core)).unfired q s

/-! ## Prefetch (R213) -/

/-- The operands of a crumb that a core prefetch fetches: its descriptor references. -/
def prefetchOf (key i : Nat) (c : Crumb) : List Prefetch :=
  ((refsOf c).filter (fun r => !r.2.2 && refIsDesc r.1)).map (fun r => ⟨key, i, refDesc r.1⟩)

/-- The region of an operand read into a compute die's shared cache. -/
def fetchOperand (sc : Score) (half core : Nat) (p : Prefetch) (s : State) : State :=
  let r := validRange (scoreDesc sc p.operand)
  readRange (coreUnit s (coreSiteKey s half core)) (some (half / 2)) r.1.toNat (r.2 - r.1).toNat s

/-- A core's prefetchers given work from the first eight unfired records of the list that it works on or moves to,
oldest first. -/
def refillPrefetch (sc : Score) (half core : Nat) (s : State) : State :=
  let key := coreKey half core
  let want := ((movedOn sc half core (seqOf s half core)).unfired.take 8).flatMap (fun i =>
    match sc.crumbs[i]? with | some c => prefetchOf key i c | none => [])
  want.foldl (fun s p =>
    if s.ex.prefetch.contains p || 8 ≤ (s.ex.prefetch.filter (fun x => x.core == key)).length then s
    else fetchOperand sc half core p { s with ex := { s.ex with prefetch := s.ex.prefetch ++ [p] } }) s

/-- A crumb's prefetches ended. -/
def endPrefetch (i : Nat) (s : State) : State :=
  { s with ex := { s.ex with prefetch := s.ex.prefetch.filter (fun p => p.crumb ≠ i) } }

/-! ## Firing -/

/-- A crumb reads a word known to be uncorrectable (R119). -/
def readsBadWord (x : Site) (ps : List Piece) (c : Crumb) : Bool :=
  badIn x ps || (accReads c).any (fun r => x.accBad.any (fun w => r.1 ≤ w && w < r.1 + r.2))

/-- The effect of a crumb's word. -/
def crumbEffect (sc : Score) (half core key i : Nat) (c : Crumb) (s : State) : State :=
  match execUnitOf c with
  | .sequencer => s
  | .matrix => matrixEffect sc key i c s
  | .vector => vectorEffect sc half core key c s
  | .copy => copyEffect sc key c s

/-- What a firing crumb reads (R119, R206, R217, R226): its accesses made, and the errors found noted. -/
def noteReads (sc : Score) (key : Nat) (c : Crumb) (s : State) : State :=
  let ps := crumbReads sc s key c
  let s := if readsBadWord (siteAt s key) ps c then stepDataError 0x03100008 id s else s
  let s := match poisonIn s ps with | some a => poisonRead a s | none => s
  readPieces (crumbUnit s key c) (some (key / 200)) ps s

/-- A crumb reads a bad word or poisoned data: its results are in error. -/
def readsInError (sc : Score) (s : State) (key : Nat) (c : Crumb) : Bool :=
  let ps := crumbReads sc s key c
  readsBadWord (siteAt s key) ps c || (poisonIn s ps).isSome

/-- A crumb fires on a core's site (R61, R94, R119, R226): credits spent, the unit taken, errors found in
what it reads noted, its effect carried out, its prefetches ended. -/
def fireCrumb (sc : Score) (half core i owner : Nat) (c : Crumb) (errs : List StoreErr) (s : State) : State :=
  let key := coreSiteKey s half core
  let run := runningOf sc s (siteAt s key) i owner c
  let s := errs.foldl (storeError half core key) s
  let run := { run with inError := errs.any (fun e => e.uncorrectable) || readsInError sc s key c }
  let s := noteReads sc key c s
  let s := c.credits.foldl (fun s r => spendPool r.1 r.2 s) s
  let s := crumbEffect sc half core key i c s
  endPrefetch i (withSite key (setUnit (execUnitOf c) (some run) (siteAt s key)) s)

/-- The unit that sends a crumb's outputs: its owner core. -/
def ownerUnit (c : Crumb) : Nat := endKey (4 + c.half / 2) (c.half % 2 * 100 + c.core)

/-- What a crumb sends when it retires (R59, R69): output tokens, bucket fill, credit returns, to where its
owner's would go. -/
def sendOutputs (sc : Score) (c : Crumb) (credits : Bool) (s : State) : State :=
  let s := deliverFrom (ownerUnit c) sc (4 + c.half / 2) (c.half % 2) c.outputs s
  let s := match c.fill with | some f => addFill sc f.1 f.2 s | none => s
  if !credits then s
  else c.credits.foldl (fun s r =>
    match sc.pools.find? (fun p => p.num == r.1) with
    | some p => sendGrant (ownerUnit c) p r.2 s
    | none => s) s

/-- A step works on a score. -/
def onScore (s : State) (f : Score → State → State) : State :=
  match s.ex.score with
  | some sc => f sc s
  | none => s

/-- CRUMB_FIRE (R63): the head of a core's list. -/
def execCrumbFire (half core : Nat) (errs : List StoreErr) (s : State) : Out :=
  let s := fresh s
  .next (if !halfWorks s half then s
    else onScore s (fun sc s =>
      match headOf sc s half core with
      | none => s
      | some (i, c, q) =>
        if crumbReady sc s c && !elides s c && canFire sc s (coreSiteKey s half core) i core c then
          refillPrefetch sc half core (fireCrumb sc half core i core c errs (setList sc half core q s))
        else s))

/-- The unit of a number: 0 sequencer, 1 matrix unit, 2 vector engine, 3 copy unit. -/
def unitNo : Nat → ExecUnit
  | 0 => .sequencer
  | 1 => .matrix
  | 2 => .vector
  | _ => .copy

/-- CRUMB_RETIRE (R59): the crumb running on a unit of the core's site, once its writes are acknowledged. -/
def execCrumbRetire (half core unit : Nat) (s : State) : Out :=
  let s := fresh s
  .next (if s.pwr.inReset then s
    else onScore s (fun sc s =>
      let key := coreSiteKey s half core
      match siteUnit (siteAt s key) (unitNo unit) with
      | none => s
      | some r =>
        if (sc.crumbs[r.crumb]?).any (fun c => !writesDone s (crumbUnit s key c)) then s
        else
          let s := withSite key (setUnit (unitNo unit) none (siteAt s key)) s
          match sc.crumbs[r.crumb]? with
          | some c => sendOutputs sc c true s
          | none => s))

/-- WATCH_SAMPLE_COMPLETE (R164): the wide path's finding counted. -/
def execWatchSampleComplete (half core : Nat) (s : State) : Out :=
  let s := fresh s
  let key := coreSiteKey s half core
  .next (match (siteAt s key).wide with
    | none => s
    | some w =>
      let s := withSite key { siteAt s key with wide := none } s
      let s := bump 0xC010 4 w.excluded (bump 0xC010 1 1 s)
      let s := withRg 0xC010 5 (maxRatio (BitVec.ofNat 32 (rg s 0xC010 5)) w.ratio).toNat s
      let s := withStep (fun x => { x with watchRatio := maxRatio x.watchRatio w.ratio }) s
      if w.disagrees then
        withStep (fun x => { x with watchTiles := x.watchTiles + 1 }) (bump 0xC010 2 1 s)
      else s)

/-- A head that retires without executing: outputs and fill sent, no credits. -/
def retireHead (sc : Score) (half core : Nat) (c : Crumb) (i : Nat) (q : Seq) (s : State) : State :=
  refillPrefetch sc half core (endPrefetch i (sendOutputs sc c false (setList sc half core q s)))

/-- COMMIT_GATED_RETIRE (R64): a commit-gated head on a skipped or voided step. -/
def execCommitGatedRetire (half core : Nat) (s : State) : Out :=
  let s := fresh s
  .next (if !halfWorks s half then s
    else onScore s (fun sc s =>
      match headOf sc s half core with
      | none => s
      | some (i, c, q) =>
        if c.gated ∧ s.ex.step.commit = some false ∧ inputsMet s c.inputs then retireHead sc half core c i q s
        else s))

/-- PAD_ELISION (R65): a pad-elidable head whose tile lies wholly in padding; a commit-gated one does not wait for the
commit token (notes/assumptions/154.md, DESIGN CHOICE). -/
def execPadElision (half core : Nat) (s : State) : Out :=
  let s := fresh s
  .next (if !halfWorks s half then s
    else onScore s (fun sc s =>
      match headOf sc s half core with
      | none => s
      | some (i, c, q) =>
        if elides s c ∧ inputsMet s c.inputs then
          bump 0x2013 2 1 (withStep (fun x => { x with elided := x.elided + 1 }) (retireHead sc half core c i q s))
        else s))

/-! ## Stealing (R66 to R71) -/

/-- A planned core may steal now (R66). -/
def maySteal (sc : Score) (s : State) (half core : Nat) : Bool :=
  let q := seqOf s half core
  !s.ex.ordered && q.unfired.isEmpty
    && (match headOf sc s half core with
        | none => true
        | some (_, c, _) => !crumbReady sc s c)

/-- The tail that a thief can take from a sibling (R67). -/
def stealable (sc : Score) (s : State) (half thief sib : Nat) : Option (Nat × Crumb) :=
  let q := seqOf s half sib
  match q.unfired.getLast? with
  | none => none
  | some i =>
    match sc.crumbs[i]? with
    | none => none
    | some c =>
      if 2 ≤ q.unfired.length && c.stealable && crumbReady sc s c && !elides s c
          && canFire sc s (coreSiteKey s half thief) i sib c
      then some (i, c) else none

/-- The claim that a core makes now as a thief (R67): the first sibling in turn whose tail qualifies, with the
tail. -/
def thiefClaim (sc : Score) (s : State) (half core : Nat) : Option (Nat × Nat × Crumb) :=
  if maySteal sc s half core then
    ((List.range 7).map (fun j => core / 8 * 8 + (core % 8 + j + 1) % 8)).findSome? (fun b =>
      (stealable sc s half core b).map (fun p => (b, p)))
  else none

/-- The owner's claim on its head stands (R63 to R65). -/
def ownerClaims (sc : Score) (s : State) (half core : Nat) : Bool :=
  match headOf sc s half core with
  | none => false
  | some (i, c, _) =>
    inputsMet s c.inputs && (elides s c || (c.gated && s.ex.step.commit == some false)
      || (crumbReady sc s c && canFire sc s (coreSiteKey s half core) i core c))

/-- The thief that a sibling serves next, of those that claim its tail: round robin after the last one served
(R68). -/
def servedThief (sc : Score) (s : State) (half sib : Nat) : Option Nat :=
  ((List.range 8).map (fun j => sib / 8 * 8 + ((seqOf s half sib).lastThief + 1 + j) % 8)).find? (fun t =>
    t != sib && (thiefClaim sc s half t).any (fun p => p.1 == sib))

/-- STEALING (R67, R68): a claim that the sibling serves. The owner's claim goes first, and so does that of a thief
earlier in the round (notes/assumptions/132.md). -/
def execStealing (half : Nat) (claim : StealClaim) (s : State) : Out :=
  let s := fresh s
  let core := claim.core
  .next (if !halfWorks s half then s
    else onScore s (fun sc s =>
      match thiefClaim sc s half core with
      | none => s
      | some (b, i, c) =>
        if ownerClaims sc s half b || servedThief sc s half b != some core then s
        else
          let q := seqOf s half b
          let s := setList sc half b { q with unfired := q.unfired.dropLast, lastThief := core % 8 } s
          refillPrefetch sc half b (fireCrumb sc half core i b c claim.errs (bump 0x2013 1 1 s))))

/-! ## Packets -/

/-- TOKEN_PACKET (R58, R60): the increment reaches its counter. -/
def execTokenPacket (token inc : Nat) (s : State) : Out :=
  let s := fresh s
  .next (if s.ex.step.running && !s.pwr.inReset then onScore s (fun sc s => addToken sc token inc s) else s)

/-- A unit's pending counts toward an endpoint sent, each as one packet, while credit of the class lasts (R236). -/
def flushPending (sc : Score) (unit ep cls : Nat) (s : State) : State :=
  let s := if cls ≠ 1 then s
    else (s.ex.pendTokens.filter (fun p => p.1.1 == unit
        && sc.tokens.any (fun d => d.id == p.1.2 && endKey d.die d.ep == ep))).foldl (fun s p =>
      if holdsCredit s unit ep cls then
        emit (.token p.1.2 p.2) (takeCredit unit ep cls
          { s with ex := { s.ex with pendTokens := setCount p.1 0 s.ex.pendTokens } })
      else s) s
  if cls ≠ poolClass then s
  else (s.ex.pendGrants.filter (fun p => p.1.1 == unit
      && sc.pools.any (fun d => d.num == p.1.2 && endKey d.die d.ep == ep))).foldl (fun s p =>
    if holdsCredit s unit ep cls then
      emit (.creditGrant p.1.2 p.2) (takeCredit unit ep cls
        { s with ex := { s.ex with pendGrants := setCount p.1 0 s.ex.pendGrants } })
    else s) s

/-- CREDIT_GRANT_PACKET (R61, R236): a pool's granules return; or a unit gets back credit of a class for the
endpoint that grants it, and sends what was pending for that. -/
def execCreditGrantPacket (die ep cls granules : Nat) (to_ : GrantTo) (s : State) : Out :=
  let s := fresh s
  .next (if s.pwr.inReset then s
    else match to_ with
    | .pool p => returnPool p granules s
    | .unit d e =>
      let unit := endKey d e
      let from_ := endKey die ep
      onScore (withCreditUsed unit from_ cls (creditUsedAt s unit from_ cls - granules) s)
        (fun sc s => flushPending sc unit from_ cls s))

end Sys2Proof.Machine
end

