-- ==== Sys2Proof/Machine/Parcels.lean ====
section
/-! DEFINITION. Parcels and flow contexts (R242 to R248, R303 to R309, R333, R366): kind fields, forming a
parcel, leases, silent peers, opening and closing contexts.

Choices beyond the manual's plain words (notes/assumptions): DEDUCED 49, 74, 76, 136; DESIGN CHOICE 6. -/

namespace Sys2Proof.Machine

/-- The module's score tag (R366). -/
def scoreTag (s : State) : Nat := rg s 0x2010 3 % 2 ^ 29

/-! ## Kind fields -/

/-- The kind fields of a collective chunk (R333), with the CRC of its payload. -/
def chunkKf (subtype coll stage round offset : Nat) (data : Bytes) : Nat :=
  subtype * 2 ^ 102 + coll * 2 ^ 88 + stage * 2 ^ 84 + round * 2 ^ 78 + offset * 2 ^ 40
    + (crc32c data).toNat * 2 ^ 8

/-- The chunk that a parcel carries. -/
def parcelChunk (p : Parcel) : Chunk :=
  let k := p.kf.toNat
  { src := p.src, subtype := bits 104 102 k, coll := bits 101 88 k, stage := bits 87 84 k
    round := bits 83 78 k, offset := bits 77 40 k, data := p.payload, crc := BitVec.ofNat 32 (bits 39 8 k) }

/-- A chunk's CRC verifies (R333). -/
def crcGood (c : Chunk) : Bool := crc32c c.data == c.crc

/-- The kind fields of a lease parcel or granule return (R307). -/
def leaseKf (m : LeaseMsg) : Nat :=
  m.ctx * 2 ^ 87 + m.lease * 2 ^ 79 + m.count * 2 ^ 63 + m.term * 2 ^ 49 + m.scoreTag

/-- The lease message of a parcel. -/
def parcelLease (p : Parcel) : LeaseMsg :=
  let k := p.kf.toNat
  ⟨p.src, bits 104 87 k, bits 86 79 k, bits 78 63 k, bits 62 49 k, bits 28 0 k⟩

/-- The token increment of a parcel (R307). -/
def parcelToken (p : Parcel) : TokenMsg :=
  let k := p.kf.toNat
  ⟨bits 104 85 k, bits 84 73 k, bits 72 67 k, bits 28 0 k⟩

/-- The kind fields of a remote state parcel (R366). -/
def remoteKf (m : RemoteMsg) : Nat :=
  if m.subtype = 4 then
    4 * 2 ^ 102 + m.coll * 2 ^ 88 + m.offset * 2 ^ 50 + m.length * 2 ^ 37 + m.status * 2 ^ 29 + m.scoreTag
  else
    m.subtype * 2 ^ 102 + m.generation % 65536 * 2 ^ 86 + m.ownerRank * 2 ^ 66 + m.entry * 2 ^ 60
      + m.stripe * 2 ^ 38 + m.block * 2 ^ 32 + m.status * 2 ^ 29 + m.scoreTag

/-- The remote state message of a parcel whose tag verified or not. -/
def parcelRemote (good : Bool) (p : Parcel) : RemoteMsg :=
  let k := p.kf.toNat
  let four := bits 104 102 k == 4
  { peer := p.src, subtype := bits 104 102 k
    generation := if four then 0 else bits 101 86 k
    ownerRank := if four then 0 else bits 85 66 k
    entry := if four then 0 else bits 65 60 k
    stripe := if four then 0 else bits 59 38 k
    block := if four then 0 else bits 37 32 k
    coll := if four then bits 101 88 k else 0
    offset := if four then bits 87 50 k else 0
    length := if four then bits 49 37 k else 0
    status := bits 31 29 k, scoreTag := bits 28 0 k, data := p.payload, tagGood := good
    poisoned := false }

/-- The kind fields of a pair digest (R366). -/
def pairKf (m : PairDigestMsg) : Nat :=
  m.round * 2 ^ 96 + m.replays * 2 ^ 92 + m.digest.toNat * 2 ^ 60 + m.scoreTag

/-- The pair digest of a parcel. -/
def parcelPair (p : Parcel) : PairDigestMsg :=
  let k := p.kf.toNat
  ⟨p.src, bits 101 96 k, bits 95 92 k, BitVec.ofNat 32 (bits 91 60 k), bits 28 0 k⟩

/-! ## Contexts -/

/-- The granules a parcel of n payload bytes spends (R305). -/
def granulesOf (n : Nat) : Nat := ceilDiv (48 + n) 256

/-- The granules that a parcel spends: none on a control context (R307). -/
def spends (p : Parcel) : Nat := if p.cls = 1 then 0 else granulesOf p.len

/-- A peer is regarded as silent (R248). -/
def isSilent (s : State) (a : Nat) : Bool := s.fab.silent.contains a

/-- The fabric replaced. -/
def withFab (f : Fabric → Fabric) (s : State) : State := { s with fab := f s.fab }

/-- No flit is sent against a lease within 100 µs of the time at which its holder regards it as expiring (R245). -/
def leaseLive (s : State) (l : Lease) : Bool :=
  match l.expiry with
  | some t => s.pwr.time + 100000 < t
  | none => false

/-- A lease can pay for n granules now. -/
def leasePays (s : State) (n : Nat) (l : Lease) : Bool := l.spent + n ≤ l.granules && leaseLive s l

/-- A parcel queued in its class. -/
def enqueueFwd (x : Carried) (s : State) : State :=
  withFab (fun f => { f with fwd := set_ [] x.parcel.cls (at_ [] x.parcel.cls f.fwd ++ [x]) f.fwd }) s

/-- The head of an outbound context's queue sent, as far as leases pay. fuel: the queue's length. -/
def drainCtx (s : State) : Nat → OutCtx → OutCtx × List Carried
  | 0, c => (c, [])
  | n + 1, c =>
    match c.queue with
    | [] => (c, [])
    | p :: t =>
      let g := spends p
      match c.leases.find? (leasePays s g) with
      | none => (c, [])
      | some l =>
        let c := { c with queue := t, spent := c.spent + g
                          leases := c.leases.map (fun x => if x.num = l.num then { x with spent := x.spent + g } else x) }
        let r := drainCtx s n c
        (r.1, { parcel := p, paid := some (c.num, l.num) } :: r.2)

/-- Every outbound data context's queue sent as far as its leases pay. -/
def drainOut (s : State) : State :=
  let rs := s.fab.out.map (fun c => drainCtx s c.queue.length c)
  let s := withFab (fun f => { f with out := rs.map (fun r => r.1) }) s
  (rs.flatMap (fun r => r.2)).foldl (fun s p => enqueueFwd p s) s

/-- The outbound context of a stream to an affine address (R304). -/
def outTo (s : State) (dst cls : Nat) (st : Stream) : Option OutCtx :=
  s.fab.out.find? (fun c => c.peer == dst && c.cls == cls && c.stream == st)

/-- A parcel formed for an affine address on a stream's context, its payload protected under the parcel key
(R303, R308, R320); without a context, or for a silent peer, it is discarded and counted (R248). -/
def sendParcel (dst cls kind : Nat) (st : Stream) (kf : Nat) (payload : Bytes) (s : State) : State :=
  if isSilent s (resolved s dst) then bump 0x6C00 5 1 s
  else match outTo s dst cls st with
    | none => bump 0x6050 6 1 s
    | some c =>
      let p := sealParcel s.fab.parcelKey
        { dst := resolved s dst, src := nodeAddr s, ctx := c.num, cls := cls, kind := kind, hops := 0, relayed := false
          relayDim := 0, len := payload.length, seq := c.nextSeq, kf := BitVec.ofNat 105 kf, payload := payload, tag := 0 }
      let control := st == .control
      let c' := { c with nextSeq := (c.nextSeq + 1) % 2 ^ 58, formed := c.formed + spends p
                         queue := if control then c.queue else c.queue ++ [p] }
      let s := withFab (fun f => { f with out := f.out.map (fun x => if x = c then c' else x) }) s
      if control then enqueueFwd { parcel := p } s else drainOut s

/-- The affine address of the peer that has a node address and a context with this module (R302). -/
def peerOf (s : State) (node : Nat) : Nat :=
  match s.fab.out.find? (fun c => resolved s c.peer == node) with
  | some c => c.peer
  | none => node

/-- A control parcel (R307). -/
def sendControl (dst kind kf : Nat) (s : State) : State := sendParcel dst 1 kind .control kf [] s

/-- Granules returned on an inbound context's oldest live lease (R305). -/
def returnOn (c : InCtx) (n : Nat) (s : State) : State :=
  match c.leases with
  | [] => s
  | l :: _ => sendControl c.peer 8 (leaseKf ⟨c.peer, c.num, l.num, n, 0, scoreTag s⟩) s

/-- The inbound context of a stream from a node address. -/
def inFrom (s : State) (src cls : Nat) (st : Stream) : Option InCtx :=
  s.fab.inn.find? (fun c => resolved s c.peer == src && c.cls == cls && c.stream == st)

/-- A chunk's granules returned (R305, R337). -/
def returnChunk (c : Chunk) (s : State) : State :=
  match inFrom s c.src 2 (.coll c.coll) with
  | some x => returnOn x (granulesOf c.data.length) s
  | none => s

/-- The control parcel's tag is this module's; otherwise it is counted as discarded (R307). -/
def tagMatches (s : State) (tag : Nat) : Bool := s.ex.score.isSome && tag == scoreTag s

/-! ## Silent peers and closed contexts -/

/-- What is discarded of a lane: the parcels that wait there or have not gone whole. -/
def dropBound (gone : Carried → Bool) (l : TxLane) : TxLane :=
  { l with wait := l.wait.filter (fun b => !gone b.orig), sending := l.sending.filter (fun b => !gone b.item.orig) }

/-- The parcels of a kind that wait in the router, on lanes included. -/
def waitingParcels (gone : Carried → Bool) (s : State) : Nat :=
  let lane := fun (l : TxLane) =>
    (l.wait.filter (fun b => gone b.orig)).length + (l.sending.filter (fun b => gone b.item.orig)).length
  (s.fab.fwd.flatMap (fun q => q.2.filter gone)).length + (s.pho.tx.foldl (fun n p => n + lane p.2) 0)

/-- Parcels discarded wherever they wait in the router; flits already sent stay for their acknowledgement. -/
def discardWaiting (gone : Carried → Bool) (s : State) : State :=
  let fwd := (s.fab.fwd.map (fun q => (q.1, q.2.filter (fun x => !gone x)))).filter (fun q => !q.2.isEmpty)
  let tx := (s.pho.tx.map (fun p => (p.1, dropBound gone p.2))).filter (fun p => p.2 ≠ {})
  { s with fab := { s.fab with fwd := fwd }, pho := { s.pho with tx := tx } }

/-- A parcel of this module's own for a node address. -/
def ownFor (s : State) (a : Nat) (x : Carried) : Bool := x.parcel.src == nodeAddr s && x.parcel.dst == a

/-- The leases of closing contexts that expire later (R248). -/
def lateLeases (s : State) (a : Nat) : List LateLease :=
  (s.fab.out.filter (fun c => resolved s c.peer == a)).flatMap (fun c => c.leases.map (fun l => ⟨a, c.num, true, l⟩))
    ++ (s.fab.inn.filter (fun c => resolved s c.peer == a)).flatMap (fun c =>
      c.leases.map (fun l => ⟨a, c.num, false, l⟩))

/-- A peer first regarded as silent, or again (R247, R248): the expiry is counted; the first time its contexts
close, the parcels that wait for it are discarded and counted, and one event names it. -/
def silentVerdict (peer : Nat) (s : State) : State :=
  let s := bump 0x6C00 4 1 s
  if isSilent s peer then s
  else
    let of_ := fun (c : OutCtx) => resolved s c.peer == peer
    let queued := (s.fab.out.filter of_).foldl (fun n c => n + c.queue.length) 0
    let late := lateLeases s peer
    let n := queued + waitingParcels (ownFor s peer) s
    let s := discardWaiting (ownFor s peer) (if n = 0 then s else bump 0x6C00 5 n s)
    let s := withFab (fun f => { f with
      out := f.out.filter (fun c => !of_ c)
      inn := f.inn.filter (fun c => resolved s c.peer ≠ peer)
      late := f.late ++ late
      silent := addNum peer f.silent }) s
    raise 3 0x0020 (leBytes 4 peer) s

/-- Every flow context closed, with the parcels queued on them and those of this module that wait in the router. -/
def closeContexts (s : State) : State :=
  let own := nodeAddr s
  withFab (fun f => { f with out := [], inn := [], late := [], reclaimed := [], unreachable := [], unroutable := [] })
    (discardWaiting (fun x => x.parcel.src == own) s)

/-! ## Opening contexts -/

/-- The number of a stream at a member: its place among the member's streams. -/
def flowNumber (sc : Score) (t : Tables) (member peer cls : Nat) (st : Stream) : Nat :=
  ((flows sc t member).idxOf? (peer, cls, st)).getD 0

/-- A lease granted on an inbound data context (R243): the granules are a free value; its expiry counts from the
moment the grant leaves. -/
def grantLease (c : InCtx) (s : State) : State :=
  let n := 17 + Config.freeIndex s.freeCtr c.num % 65519
  let term := rg s 0x6C00 1
  let s := withFab (fun f => { f with inn := f.inn.map (fun x =>
    if x.num = c.num then { x with leases := x.leases ++ [{ num := 0, granules := n, term := term }] } else x) }) (drawn s)
  sendControl c.peer 5 (leaseKf ⟨c.peer, c.num, 0, n, term, scoreTag s⟩) s

/-- The score's flow contexts opened (R304, R307, R367): one in each direction for each stream, numbered inbound by
the stream's place among the member's streams. A peer is silent no longer. -/
def openContexts (sc : Score) (s : State) : State :=
  let t := tablesNow s
  let self := ownAffine s
  let fs := flows sc t self
  let s := withFab (fun f => { f with
    silent := f.silent.filter (fun a => !(fs.map (fun x => resolved s x.1)).contains a)
    out := fs.map (fun x => { peer := x.1, num := flowNumber sc t x.1 self x.2.1 x.2.2, cls := x.2.1, stream := x.2.2 })
    inn := fs.zipIdx.map (fun x => { num := x.2, peer := x.1.1, cls := x.1.2.1, stream := x.1.2.2 }) }) s
  (s.fab.inn.filter (fun c => c.stream ≠ .control)).foldl (fun s c => grantLease c s) s

/-! ## Departures (R243, R244) -/

/-- A parcel's first flit has left this module: the expiry of a lease that it grants counts from now, and a renewal's
send time is noted. -/
def departed (p : Parcel) (s : State) : State :=
  let m := parcelLease p
  let now := s.pwr.time
  if p.src ≠ nodeAddr s then s
  else if p.kind = 5 then
    withFab (fun f => { f with inn := f.inn.map (fun c =>
      if c.num = m.ctx then { c with leases := c.leases.map (fun l =>
        if l.num = m.lease then { l with expiry := some (now + 1000 * l.term) } else l) } else c) }) s
  else if p.kind = 6 then
    withFab (fun f => { f with out := f.out.map (fun c =>
      if c.num = m.ctx ∧ resolved s c.peer = p.dst then { c with leases := c.leases.map (fun l =>
        if l.num = m.lease then { l with sent := l.sent ++ [(m.count, now)] } else l) } else c) }) s
  else s

/-! ## Duplicates (R306) -/

/-- How far a sequence number lies behind another, modulo 2^58. -/
def seqBehind (high seq : Nat) : Nat := (high + 2 ^ 58 - seq) % 2 ^ 58

/-- A sequence number seen on an inbound context, whose window is the 64 below high: whether it is a duplicate, and
the context with it. -/
def seeSequence (c : InCtx) (seq : Nat) : Bool × InCtx :=
  let back := seqBehind c.high seq
  let ahead := back = 0 ∨ 2 ^ 57 ≤ back
  if !ahead ∧ (64 < back ∨ c.seen.contains seq) then (true, c)
  else
    let high := if ahead then (seq + 1) % 2 ^ 58 else c.high
    (false, { c with high := high, seen := (seq :: c.seen).filter (fun x => seqBehind high x ≤ 64) })

end Sys2Proof.Machine
end

