-- ==== Sys2Proof/Machine/Lanes.lean ====
section
/-! DEFINITION. Ports, lanes and rings (R253): access, who is at the other end (R290), lane frames (R260), notices
(R261), flash values of rings (R263, R265), taking a lane out (R272, R315).

Choices beyond the manual's plain words (notes/assumptions): DEDUCED 77, 79, 81, 137; DESIGN CHOICE 9, 11,
138. -/

namespace Sys2Proof.Machine

/-! ## Access -/

/-- A lane's key: 16 × port + colour (R253). -/
def laneKey (port colour : Nat) : Nat := 16 * port + colour

/-- A ring's key; ring 16 of a port and direction is its spare. -/
def ringKey (tx : Bool) (port ring : Nat) : Nat := (if tx then 0 else 544) + 17 * port + ring

/-- The photonics replaced. -/
def withPho (f : Photonics → Photonics) (s : State) : State := { s with pho := f s.pho }

/-- A port. -/
def portOf (s : State) (p : Nat) : Port := at_ {} p s.pho.ports

/-- A port replaced. -/
def withPort (p : Nat) (x : Port) (s : State) : State :=
  withPho (fun h => { h with ports := set_ {} p x h.ports }) s

/-- A transmit lane. -/
def txOf (s : State) (p c : Nat) : TxLane := at_ {} (laneKey p c) s.pho.tx

/-- A transmit lane replaced. -/
def withTx (p c : Nat) (x : TxLane) (s : State) : State :=
  withPho (fun h => { h with tx := set_ {} (laneKey p c) x h.tx }) s

/-- A receive lane. -/
def rxOf (s : State) (p c : Nat) : RxLane := at_ {} (laneKey p c) s.pho.rx

/-- A receive lane replaced. -/
def withRx (p c : Nat) (x : RxLane) (s : State) : State :=
  withPho (fun h => { h with rx := set_ {} (laneKey p c) x h.rx }) s

/-- A ring. -/
def ringOf (s : State) (tx : Bool) (p r : Nat) : Ring := at_ {} (ringKey tx p r) s.pho.rings

/-- A ring replaced. -/
def withRing (tx : Bool) (p r : Nat) (x : Ring) (s : State) : State :=
  withPho (fun h => { h with rings := set_ {} (ringKey tx p r) x h.rings }) s

/-- The colour that a port's spare ring of a direction has taken over. -/
def spareOf (x : Port) (tx : Bool) : Option Nat := if tx then x.txSpare else x.rxSpare

/-- The ring that serves a lane: its data ring, or the spare ring that took over its colour (R276). -/
def servingRing (s : State) (tx : Bool) (p c : Nat) : Nat := if spareOf (portOf s p) tx = some c then 16 else c

/-- The state of a lane. -/
def laneState (s : State) (tx : Bool) (p c : Nat) : LaneState :=
  if tx then (txOf s p c).state else (rxOf s p c).state

/-- The colours. -/
def colours : List Nat := List.range 16

/-- The dimension and twist of an assigned port (R289). -/
def assignment (s : State) (p : Nat) : Option (Nat × Nat) :=
  let v := rg s 0x6001 (p + 1)
  if p < 32 ∧ bits 31 29 v ≠ 7 then some (bits 31 29 v, bits 23 20 v) else none

/-- The expected transmitter of a receive lane (R290). -/
def expectedTx (s : State) (p c : Nat) : Option Nat :=
  (assignment s p).map (fun a =>
    setDigit a.1 ((digit a.1 (nodeAddr s) + c + a.2) % 16) (nodeAddr s))

/-- The module that a transmit lane reaches (R290). -/
def reachedBy (s : State) (p c : Nat) : Option Nat :=
  (assignment s p).map (fun a =>
    setDigit a.1 ((digit a.1 (nodeAddr s) + 32 - c - a.2) % 16) (nodeAddr s))

/-- The colour of the port's transmit lane that reaches an address, if the address is on the port's line
(R290). -/
def colourTo (s : State) (p dst : Nat) : Option Nat :=
  match assignment s p with
  | none => none
  | some a =>
    if setDigit a.1 0 dst = setDigit a.1 0 (nodeAddr s) then
      some ((digit a.1 (nodeAddr s) + 32 - digit a.1 dst - a.2) % 16)
    else none

/-- The colour of the receive lane that is the partner of a transmit lane (R310). -/
def partnerRx (s : State) (p c : Nat) : Option Nat :=
  colours.find? (fun x => (expectedTx s p x).isSome && expectedTx s p x == reachedBy s p c)

/-- The colour of the transmit lane that is the partner of a receive lane (R310). -/
def partnerTx (s : State) (p c : Nat) : Option Nat := (expectedTx s p c).bind (colourTo s p)

/-- Lanes of a port work: Run or Still or an exit from Stow (R269, R285), its engine not gated (R488), the ring clock
there. -/
def portLit (s : State) (p : Nat) : Bool :=
  p < 32 && (s.pwr.cur == .run || s.pwr.cur == .still || s.pwr.stowExit) && !gated s (16 + p / 8) && s.ring.clock
    && !s.pwr.inReset && s.pho.commissioning != 0

/-- The lane serialisers of a port run at 53.125 GHz (R475). -/
def laneClockGood (s : State) (p : Nat) : Bool :=
  let v := pllOf s (p / 8 + 6)
  4 * pllM v == 2125 * pllR v * pllP v

/-! ## What flash holds of a ring (R263, R265) -/

/-- The die temperature of a port's engine. -/
def dieTemp (s : State) (p : Nat) : Nat := rg s 0x5030 (p / 8 + 1)

/-- A ring's table setting for a colour (R263): its table code, corrected by its slope for the die temperature. -/
def tableSetting (s : State) (tx : Bool) (p r colour : Nat) : Int :=
  let k := ringKey tx p r
  Config.ringTable s.pho.refined k colour
    + (Config.ringSlope s.pho.refined k * ((dieTemp s p : Rat) - 60)).floor

/-- A code brought down into a ring's range by its wrap span, then up. fuel: spans there can be. -/
def wrapCode (top wrap : Nat) : Nat → Int → Int
  | 0, c => c
  | n + 1, c =>
    if (min top 65535 : Int) < c then wrapCode top wrap n (c - wrap)
    else if c < 0 then wrapCode top wrap n (c + wrap)
    else c

/-- The code of a data ring, set from its table by what the port's anchor ring of that direction showed (R265). -/
def shiftedCode (s : State) (tx : Bool) (p r colour : Nat) : Nat :=
  let anchor := servingRing s tx p 0
  let ka := ringKey tx p anchor
  let kr := ringKey tx p r
  let df : Rat := (((ringOf s tx p anchor).code : Rat) - tableSetting s tx p anchor 0) * (2 / 1000)
    * Config.ringEfficiency s.pho.refined ka
  let code := tableSetting s tx p r colour + (df / (2 / 1000 * Config.ringEfficiency s.pho.refined kr)).floor
  let wrap := max 1 (Config.ringWrap s.pho.refined kr)
  (wrapCode (Config.ringTop s.pho.refined kr) wrap (code.natAbs / wrap + 2) code).toNat % 65536

/-! ## Lane frames (R260, R261) -/

/-- The lane state that a transmit lane's frames carry: 0x0 in service, 0x4 searching, else 0x3, returning. -/
def frameState (l : TxLane) : Nat :=
  match l.state with
  | .inService => 0
  | .searching => 4
  | _ => 3

/-- A transmit lane sends lane frames: lit and on a locked ring; not while it calibrates. -/
def sendsFrames (s : State) (p c : Nat) : Bool :=
  let l := txOf s p c
  portLit s p && (assignment s p).isSome && (l.state == .inService || l.state == .out || l.state == .searching)
    && (l.state == .inService || (ringOf s true p (servingRing s true p c)).locked)

/-- The frame of a transmit lane with a lane state (R260): bit 319 first. -/
def frameBytes (s : State) (p c state : Nat) : Bytes :=
  let l := txOf s p c
  let n := l.notices.head?.getD (0, 0, 0, 0)
  let v := 0x5AE3C01D * 2 ^ 256 + nodeAddr s * 2 ^ 236 + p * 2 ^ 231 + c * 2 ^ 227
    + (portOf s p).gen2.toNat * 2 ^ 226 + state * 2 ^ 222 + l.frame * 2 ^ 206
    + n.1 * 2 ^ 202 + n.2.1 * 2 ^ 198 + n.2.2.1 * 2 ^ 194
  let b := (leBytes 36 v).reverse
  b ++ (leBytes 4 (crc32c b).toNat).reverse

/-- A notice carried once more: it leaves after 8 frames (R261). -/
def carryNotice : List (Nat × Nat × Nat × Nat) → List (Nat × Nat × Nat × Nat)
  | [] => []
  | n :: t => if n.2.2.2 ≤ 1 then t else (n.1, n.2.1, n.2.2.1, n.2.2.2 - 1) :: t

/-- A lane frame sent. -/
def sendFrame (p c state : Nat) (s : State) : State :=
  let l := txOf s p c
  emit (.frame p c (frameBytes s p c state))
    (withTx p c { l with
      frame := (l.frame + 1) % 65536, frameAt := some s.pwr.time, notices := carryNotice l.notices } s)

/-- A frame time has passed since a lane's last frame: 819.2 ns at Gen2, 1,638.4 ns at Gen1. -/
def frameDue (s : State) (p c : Nat) : Bool :=
  match (txOf s p c).frameAt with
  | some t => (if (portOf s p).gen2 then 4096 else 8192) ≤ 5 * (s.pwr.time - t)
  | none => true

/-- The lane frames that are due, of every transmit lane that sends them. -/
def sendDueFrames (s : State) : State :=
  s.pho.tx.foldl (fun s x =>
    let p := x.1 / 16
    let c := x.1 % 16
    if sendsFrames s p c && frameDue s p c then sendFrame p c (frameState (txOf s p c)) s else s) s

/-- A notice about a lane for a module, carried by the transmit lane of the same port that reaches it (R261). -/
def sendNotice (p code about dst : Nat) (s : State) : State :=
  match colourTo s p dst with
  | none => s
  | some c =>
    let l := txOf s p c
    if l.state = .dark ∨ l.state = .dropped ∨ l.state = .plantFault then s
    else
      let n := (l.noticeSeq + 1) % 16
      withTx p c { l with noticeSeq := n, notices := l.notices ++ [(code, about, n, 8)] } s

/-! ## Lanes taken out (R272, R315) -/

/-- The parcels of a lane's unacknowledged flits, and those that wait there, each once. -/
def laneParcels (l : TxLane) : List Carried :=
  (l.replay.flatMap (fun f => f.parcels) ++ l.sending.map (fun x => x.item.orig) ++ l.wait.map (fun b => b.orig)).dedup

/-- Parcels queued again at the heads of their classes, for the hop already decided (R296, R315). -/
def requeue (xs : List Carried) (s : State) : State :=
  xs.reverse.foldl (fun s x =>
    withFab (fun f => { f with fwd := set_ [] x.parcel.cls (x :: at_ [] x.parcel.cls f.fwd) f.fwd }) s) s

/-- A transmit lane out: its unacknowledged parcels are requeued whole, and it holds no flit credit until it is
reinitialised (R241, R315). -/
def outTx (p c : Nat) (st : LaneState) (s : State) : State :=
  let l := txOf s p c
  requeue (laneParcels l) (withTx p c { l with
    state := st, replay := [], wait := [], sending := [], credit := [], words := [], ackDue := false } s)

/-- A transmit lane pulled (R272): one frame with lane state 0x1, and no flits after it. -/
def pullTx (p c : Nat) (st : LaneState) (s : State) : State :=
  outTx p c st (if (txOf s p c).state = .inService ∧ portLit s p then sendFrame p c 1 s else s)

/-- A parcel without the flit buffers of a lane that it holds. -/
def releaseFrom (key : Nat) (x : Carried) : Carried := { x with buffers := x.buffers.filter (fun b => b.1 ≠ key) }

/-- The flit buffers of a receive lane forgotten, wherever parcels hold them: its pools are full again (R241). -/
def forgetBuffers (key : Nat) (s : State) : State :=
  let bound := fun (b : Bound) => { b with orig := releaseFrom key b.orig }
  let lane := fun (l : TxLane) => { l with
    wait := l.wait.map bound
    sending := l.sending.map (fun x => { x with item := bound x.item })
    replay := l.replay.map (fun f => { f with parcels := f.parcels.map (releaseFrom key) }) }
  let s := withFab (fun f => { f with
    fwd := f.fwd.map (fun q => (q.1, q.2.map (releaseFrom key)))
    arrived := f.arrived.map (releaseFrom key) }) s
  withPho (fun h => { h with tx := h.tx.map (fun x => (x.1, lane x.2)) }) s

/-- A receive lane out: what it received of parcels in part is discarded (R315). -/
def pullRx (p c : Nat) (st : LaneState) (s : State) : State :=
  withRx p c { rxOf s p c with state := st, goodFrames := 0, mismatch := none, parts := [], kept := false } s

/-- A lane taken out. -/
def pullLane (tx : Bool) (p c : Nat) (st : LaneState) (s : State) : State :=
  if tx then pullTx p c st s else pullRx p c st s

end Sys2Proof.Machine
end

