-- ==== Sys2Proof/Machine/Flits.lean ====
section
/-! DEFINITION. Flits (R310 to R313, R343): layout, receive pools, packing parcels into slot areas, what a lane sends.

Choices beyond the manual's plain words (notes/assumptions): DEDUCED 77, 78, 127, 139; DESIGN CHOICE 9, 140. -/

namespace Sys2Proof.Machine

/-! ## Layout (R310) -/

/-- A flit's header. -/
structure FlitHead where
  kind : Nat
  praline : Bool
  escape : Bool
  sender : Nat
  senderPort : Nat
  seq : Nat
  ack : Nat
  cls : Nat
  pool : Nat
  creditClass : Nat
  creditPool : Nat
  creditCount : Nat
  first : Nat
deriving DecidableEq, Repr

/-- The header of a flit. -/
def flitHead (b : Bytes) : FlitHead :=
  let v := beNat (b.take 16)
  { kind := bits 127 126 v, praline := bit 125 v, escape := bit 124 v, sender := bits 123 104 v
    senderPort := bits 103 99 v, seq := bits 98 87 v, ack := bits 86 75 v, cls := bits 74 72 v, pool := bits 71 68 v
    creditClass := bits 67 65 v, creditPool := bits 64 61 v, creditCount := bits 60 55 v, first := bits 54 47 v }

/-- The 16 bytes of a header; bits [127:120] come first. -/
def headBytes (h : FlitHead) : Bytes :=
  (leBytes 16 (h.kind * 2 ^ 126 + h.praline.toNat * 2 ^ 125 + h.escape.toNat * 2 ^ 124 + h.sender * 2 ^ 104
    + h.senderPort * 2 ^ 99 + h.seq * 2 ^ 87 + h.ack * 2 ^ 75 + h.cls * 2 ^ 72 + h.pool * 2 ^ 68
    + h.creditClass * 2 ^ 65 + h.creditPool * 2 ^ 61 + h.creditCount * 2 ^ 55 + h.first * 2 ^ 47)).reverse

/-- A flit of a header and slot area, with its CRC. -/
def flitBytes (h : FlitHead) (area : Bytes) : Bytes :=
  let b := headBytes h ++ fit 236 area
  b ++ leBytes 4 (crc32c b).toNat

/-- A flit's CRC verifies, and its codewords were corrected (R313). -/
def flitGood (f : Flit) : Bool :=
  !f.uncorrectable && f.bytes.length == 256 && leBytes 4 (crc32c (f.bytes.take 252)).toNat == f.bytes.drop 252

/-! ## Pools (R311) -/

/-- The flits of a receive pool. -/
def poolFlits (cls pool : Nat) : Nat :=
  if 2 ≤ pool then 1
  else match cls, pool with
    | 0, _ => 2
    | 1, _ => 4
    | 2, 0 => 64
    | 2, _ => 16
    | 3, 0 => 32
    | 3, _ => 8
    | 4, 0 => 16
    | _, _ => 8

/-- Every pool of a lane in full. -/
def fullPools : List (Nat × Nat) :=
  (List.range 5).flatMap (fun cls => (List.range 11).map (fun pool => (16 * cls + pool, poolFlits cls pool)))

/-- Credit that a transmit lane has to return. -/
def oweCredit (p c cls pool n : Nat) (s : State) : State :=
  let l := txOf s p c
  withTx p c { l with owed := set_ 0 (16 * cls + pool) (at_ 0 (16 * cls + pool) l.owed + n) l.owed } s

/-- The flit buffers that a parcel holds given back, each on the partner of its receive lane (R310, R311). -/
def freeBuffers (bs : List (Nat × Nat × Nat × Nat)) (s : State) : State :=
  bs.foldl (fun s b => match partnerTx s (b.1 / 16) (b.1 % 16) with
    | some c => oweCredit (b.1 / 16) c b.2.1 b.2.2.1 b.2.2.2 s
    | none => s) s

/-! ## Choosing what to send (R237, R241, R312) -/

/-- The credit of a lane for a class and pool. -/
def laneCredit (l : TxLane) (cls pool : Nat) : Nat := at_ 0 (16 * cls + pool) l.credit

/-- No K1 credit is left on the lane but the escape credit (R241). -/
def noK1 (l : TxLane) : Bool := (List.range 11).all (fun p => laneCredit l 1 p == 0)

/-- The key of the lane escape credit. -/
def escapeKey : Nat := 112

/-- The credit key that pays for a flit of a class and pool: the lane escape credit serves K1 delivery alone. -/
def poolPayer (l : TxLane) (cls pool : Nat) : Option Nat :=
  if 0 < laneCredit l cls pool then some (16 * cls + pool)
  else if cls = 1 ∧ pool = 0 ∧ noK1 l ∧ 0 < at_ 0 escapeKey l.credit then some escapeKey
  else none

/-- The pool in which a parcel's first flit goes (R312): delivery at its destination, else shared transit while it
holds credit, else the level pool of its next hop. -/
def startPool (l : TxLane) (cls level : Nat) : Nat :=
  if level = 0 then 0 else if 0 < laneCredit l cls 1 then 1 else level

/-- An own parcel is sent only while the lease that paid for it allows (R245). -/
def mayLeave (s : State) (x : Carried) : Bool :=
  match x.paid with
  | none => true
  | some k =>
    match s.fab.out.find? (fun c => c.num == k.1 && resolved s c.peer == x.parcel.dst) with
    | none => false
    | some c => c.leases.any (fun l => l.num == k.2 && leaseLive s l)

/-- What the next flit of a class is: a stream that is sending, with credit, else a parcel that begins. Gives the
pool and the credit key that pays. -/
def nextOf (s : State) (l : TxLane) (cls : Nat) : Option (Nat × Nat) :=
  match l.sending.findSome? (fun x =>
      if x.cls = cls ∧ mayLeave s x.item.orig then (poolPayer l cls x.pool).map (fun k => (x.pool, k)) else none) with
  | some r => some r
  | none =>
    (l.wait.filter (fun b => b.out.cls == cls && mayLeave s b.orig)).findSome? (fun b =>
      let pool := startPool l cls b.level
      if l.sending.any (fun x => x.cls == cls && x.pool == pool) then none
      else (poolPayer l cls pool).map (fun k => (pool, k)))

/-- The order in which an output serves classes: K1, K0, then K4, K3 and K2 in round robin after the one served
last (R237). -/
def classOrder (last : Nat) : List Nat :=
  [1, 0] ++ (if last = 4 then [3, 2, 4] else if last = 3 then [2, 4, 3] else [4, 3, 2])

/-- The class, pool and credit of a lane's next data flit. -/
def nextFlit (s : State) (l : TxLane) : Option (Nat × Nat × Nat) :=
  (classOrder l.lastClass).findSome? (fun c => (nextOf s l c).map (fun r => (c, r.1, r.2)))

/-! ## Packing (R310) -/

/-- A slot area as it fills: its bytes, the offset of the first header that begins in it, the parcels with bytes in
it, those that begin and those that end in it, the lane. -/
structure Packing where
  area : Bytes
  first : Nat
  parcels : List Carried
  begun : List Carried
  ended : List Carried
  lane : TxLane
deriving DecidableEq, Repr

/-- The next parcel of a stream taken into an area, or as much as fits. -/
def packOne (s : State) (cls pool : Nat) (x : Packing) : Option Packing :=
  let room := 236 - x.area.length
  let step := fun (r : Sending) (fresh : Bool) (l : TxLane) =>
    let more := r.rest.drop room
    let l := { l with sending := l.sending.filter (fun y => ¬(y.cls = cls ∧ y.pool = pool))
                        ++ if more.isEmpty then [] else [{ r with rest := more }] }
    some { x with area := x.area ++ r.rest.take room
                  first := if fresh ∧ x.first = 255 then x.area.length else x.first
                  parcels := x.parcels ++ [r.item.orig]
                  begun := if fresh then x.begun ++ [r.item.orig] else x.begun
                  ended := if more.isEmpty then x.ended ++ [r.item.orig] else x.ended
                  lane := l }
  if room = 0 then none
  else match x.lane.sending.find? (fun y => y.cls == cls && y.pool == pool) with
    | some r => if mayLeave s r.item.orig then step r false x.lane else none
    | none =>
      match x.lane.wait.find? (fun b => b.out.cls == cls && mayLeave s b.orig
          && (if pool = 0 then b.level == 0 else if pool = 1 then b.level != 0 else b.level == pool)) with
      | none => none
      | some b => step ⟨cls, pool, parcelBytes b.out, b⟩ true { x.lane with wait := x.lane.wait.erase b }

/-- A stream's parcels packed back to back until the area is full. fuel: parcels of 48 bytes that fit. -/
def packArea (s : State) (cls pool : Nat) : Nat → Packing → Packing
  | 0, x => x
  | n + 1, x =>
    match packOne s cls pool x with
    | some y => packArea s cls pool n y
    | none => x

/-! ## Sending (R310, R313, R343) -/

/-- The last data flit received in order on the partner of a transmit lane. -/
def ackFor (s : State) (p c : Nat) : Nat :=
  match partnerRx s p c with
  | some x => ((rxOf s p x).expected + 4095) % 4096
  | none => 4095

/-- The credit that a flit returns: class, pool, count, and what is still owed after it. -/
def creditOf (owed : List (Nat × Nat)) : Nat × Nat × Nat × List (Nat × Nat) :=
  match owed with
  | [] => (7, 0, 0, [])
  | o :: t => (o.1 / 16, o.1 % 16, min 63 o.2, if o.2 ≤ 63 then t else (o.1, o.2 - 63) :: t)

/-- The header of a flit that a lane sends. -/
def headFor (s : State) (p c kind : Nat) (l : TxLane) : FlitHead :=
  let r := creditOf l.owed
  { kind := kind, praline := false, escape := false, sender := nodeAddr s, senderPort := p, seq := l.next
    ack := ackFor s p c, cls := 7, pool := 0, creditClass := r.1, creditPool := r.2.1, creditCount := r.2.2.1
    first := 255 }

/-- A flit that brings no parcels (R310): it carries the oldest praline word that waits, a credit and the
acknowledgement. -/
def sendBare (p c kind : Nat) (s : State) : State :=
  let l := txOf s p c
  let h := headFor s p c kind l
  let area := match l.words with
    | [] => []
    | w :: _ => octets16 w
  emit (.flit p c (flitBytes { h with praline := !l.words.isEmpty } area))
    (withTx p c { l with words := l.words.drop 1, owed := (creditOf l.owed).2.2.2, ackDue := false } s)

/-- A parcel's last flit has left: the flit buffers that it held here are free. -/
def parcelGone (x : Carried) (s : State) : State := freeBuffers x.buffers s

/-- A data flit of a class and pool sent: packed, paid for, kept for a resend. -/
def sendData (p c cls pool key : Nat) (s : State) : State :=
  let l := txOf s p c
  let word := !l.words.isEmpty
  let start := match l.words with
    | [] => []
    | w :: _ => octets16 w
  let x := packArea s cls pool 6 ⟨start, 255, [], [], [], { l with words := l.words.drop 1 }⟩
  let h := { headFor s p c 0 l with praline := word, escape := key == escapeKey, cls := cls, pool := pool
                                    first := x.first }
  let f : TxFlit := ⟨l.next, 0, cls, pool, key == escapeKey, x.area, x.first, word, x.parcels⟩
  let l' := { x.lane with
    next := (l.next + 1) % 4096, replay := l.replay ++ [f], credit := set_ 0 key (at_ 0 key l.credit - 1) l.credit
    owed := (creditOf l.owed).2.2.2, ackDue := false, lastClass := if 2 ≤ cls then cls else l.lastClass
    timer := if l.replay.isEmpty then s.pwr.time else l.timer }
  let s := bump 0x6050 1 1 (withTx p c l' s)
  let s := if key = escapeKey then bump 0x6C01 2 1 s else s
  let s := x.ended.foldl (fun s y => parcelGone y s) s
  let s := x.begun.foldl (fun s y => departed y.parcel s) s
  emit (.flit p c (flitBytes h x.area)) s

/-- What waits on a lane sent: data flits while a stream holds credit and the replay buffer of 64 has room, then
idle flits for the words, credits and acknowledgement that are left (R313). fuel: the flits there can be. -/
def pumpFlits (p c : Nat) : Nat → State → State
  | 0, s => s
  | n + 1, s =>
    let l := txOf s p c
    if l.state ≠ .inService then s
    else match (if l.replay.length < 64 then nextFlit s l else none) with
      | some r => pumpFlits p c n (sendData p c r.1 r.2.1 r.2.2 s)
      | none =>
        if !l.words.isEmpty || l.ackDue || !l.owed.isEmpty then pumpFlits p c n (sendBare p c 1 s) else s

/-- A lane sends what it can. -/
def pumpLane (p c : Nat) (s : State) : State :=
  let l := txOf s p c
  pumpFlits p c (64 + l.words.length + 2 * l.owed.length + 2) s

/-- Every lane in service sends what it can. -/
def pumpLanes (s : State) : State := s.pho.tx.foldl (fun s x => pumpLane (x.1 / 16) (x.1 % 16) s) s

/-! ## Resending (R313) -/

/-- The slot area of a flit sent again: a praline word is not resent, so its place carries the next word that waits, or
none (operation 0). -/
def resentArea (f : TxFlit) (w : Option W128) : Bytes :=
  if f.word then octets16 (w.getD 0) ++ f.area.drop 16 else f.area

/-- One flit sent again. -/
def resendOne (p c : Nat) (f : TxFlit) (s : State) : State :=
  let l := txOf s p c
  let h := { headFor s p c 0 l with
    seq := f.seq, praline := f.word, escape := f.escape, cls := f.cls, pool := f.pool, first := f.first }
  emit (.flit p c (flitBytes h (resentArea f l.words.head?)))
    (withTx p c { l with
      words := if f.word then l.words.drop 1 else l.words, owed := (creditOf l.owed).2.2.2, ackDue := false } s)

/-- Every unacknowledged flit of a lane sent again (R313). -/
def resendAll (p c : Nat) (s : State) : State :=
  let l := txOf s p c
  let s := withTx p c { l with
    replay := l.replay.map (fun u => { u with resent := u.resent + 1 }), timer := s.pwr.time } s
  l.replay.foldl (fun s f => resendOne p c f s) (bump 0x6050 2 l.replay.length s)

end Sys2Proof.Machine
end

