-- ==== Sys2Proof/Machine/Photonics.lean ====
section
/-! DEFINITION. The photonic engines (R252 to R287): frames and verdicts, searches, spare rings, commissioning,
calibration slots, lasers and what each power state does to them.

Choices beyond the manual's plain words (notes/assumptions): DEDUCED 73, 79, 82, 83, 84, 109, 137; DESIGN
CHOICE 11, 117, 141. -/

namespace Sys2Proof.Machine

/-! ## Drop and search (R273, R276, R283) -/

/-- A lane dropped (R283): its ring parked, the event, and the port degraded unless failed. -/
def dropAs (st : LaneState) (tx : Bool) (p c : Nat) (s : State) : State :=
  let old := laneState s tx p c
  if old = .dropped ∨ old = .plantFault then s
  else
    let r := servingRing s tx p c
    let s := pullLane tx p c st s
    let s := withRing tx p r { ringOf s tx p r with line := 16, parked := true, locked := false } s
    let x := portOf s p
    let s := withPort p { x with state := if x.state = 4 then 4 else 3 } s
    raise 1 0x0033 (leBytes 1 p ++ leBytes 1 c ++ leBytes 1 (if tx then 0 else 1)) s

/-- A lane dropped. -/
def dropLane (tx : Bool) (p c : Nat) (s : State) : State := dropAs .dropped tx p c s

/-- The times of searches of the last hour, with one more (R283). -/
def searched (now : Nat) (l : List Nat) : List Nat := now :: l.filter (fun t => now < t + 3600000000000)

/-- A lane's ring re-locks by a directed search (R273), the line it sits on rejected; more than 16 searches within an
hour drop the lane. lost: the search follows a lane-lost verdict. -/
def beginSearch (tx : Bool) (p c : Nat) (lost : Bool) (s : State) : State :=
  let now := s.pwr.time
  let r := servingRing s tx p c
  let s := pullLane tx p c .searching s
  let x := ringOf s tx p r
  let s := withRing tx p r { x with
    locked := false, parked := false, mode := .directed, sweepsFailed := 0
    rejected := if x.line < 16 then [x.line] else [] } s
  let times := searched now (if tx then (txOf s p c).searches else (rxOf s p c).searches)
  let s := if tx then withTx p c { txOf s p c with searches := times } s
    else withRx p c { rxOf s p c with searches := times, lost := lost } s
  if 16 < times.length then dropLane tx p c s else s

/-- A data ring failed (R276): the port's free spare ring, set from its own table setting, takes its colour over by
directed search, and the failed ring is parked; without a free one the lane is dropped. A failed spare ring leaves its
colour without a ring. -/
def failRing (tx : Bool) (p c : Nat) (s : State) : State :=
  let r := servingRing s tx p c
  let s := withRing tx p r { ringOf s tx p r with failed := true, locked := false, parked := true, line := 16 } s
  let x := portOf s p
  if (spareOf x tx).isNone ∧ !(ringOf s tx p 16).failed then
    let x := if tx then { x with txSpare := some c } else { x with rxSpare := some c }
    let code := (tableSetting s tx p 16 c).toNat % 65536
    let s := withRing tx p 16 { ringOf s tx p 16 with code := code, line := 16 } (bump 0x5020 3 1 (withPort p x s))
    beginSearch tx p c false s
  else dropLane tx p c s

/-! ## Going into service (R270, R241, R311) -/

/-- A receive lane goes into service: its transmitter is told so. One that returns from a slot of its far transmitter
keeps its flit state (R272); another is reinitialised and its pools are advertised in full. -/
def rxIntoService (p c : Nat) (s : State) : State :=
  let l := rxOf s p c
  let s := match expectedTx s p c with
    | some e => sendNotice p 3 0 e s
    | none => s
  if l.kept then withRx p c { rxOf s p c with state := .inService, kept := false, lost := false } s
  else
    let s := forgetBuffers (laneKey p c) (withRx p c { rxOf s p c with
      state := .inService, expected := 0, nakSent := false, parts := [], lost := false } s)
    match partnerTx s p c with
    | some t => pumpLane p t (withTx p t { txOf s p t with owed := fullPools } s)
    | none => s

/-- A lane to a module is in service again: the next outage is reported anew (R295). -/
def reachable (p c : Nat) (s : State) : State :=
  match assignment s p, reachedBy s p c with
  | some a, some r => withFab (fun f => { f with unreachable := f.unreachable.filter (fun x => x ≠ (a.1, digit a.1 r)) }) s
  | _, _ => s

/-- A transmit lane goes into service: reinitialised, with the lane escape credit. -/
def txIntoService (p c : Nat) (s : State) : State :=
  let l := txOf s p c
  pumpLane p c (withTx p c { l with
    state := .inService, next := 0, replay := [], wait := [], sending := [], credit := [(escapeKey, 1)] } (reachable p c s))

/-! ## Commissioning (R265 to R269, R284) -/

/-- A lane whose ring failed and whose colour no spare ring serves. -/
def ringless (s : State) (tx : Bool) (p c : Nat) : Bool := (ringOf s tx p (servingRing s tx p c)).failed

/-- The rings of a port and direction parked at code 0, its lanes dark; lanes without a ring stay dropped (R266,
R284). The lane of a ring that is not to be used is dark. -/
def parkRings (tx : Bool) (p : Nat) (s : State) : State :=
  colours.foldl (fun s c =>
    let r := servingRing s tx p c
    let st := if ringless s tx p c && (assignment s p).isSome then LaneState.dropped else .dark
    let s := if ringless s tx p c then s else withRing tx p r { failed := false } s
    if tx then withTx p c { state := st, noticeSeq := (txOf s p c).noticeSeq, owed := (txOf s p c).owed }
      (outTx p c st s)
    else withRx p c { state := st } s) s

/-- The port's anchor ring of a direction begins its sweep from code 0 (R266, R267). -/
def sweepAnchor (tx : Bool) (p : Nat) (s : State) : State :=
  if ringless s tx p 0 then s
  else
    let s := withRing tx p (servingRing s tx p 0) { parked := false, mode := .sweep } s
    if tx then withTx p 0 { txOf s p 0 with state := .searching } s
    else withRx p 0 { rxOf s p 0 with state := .searching, lastGood := s.pwr.time } s

/-- The data rings of a port and direction set from their tables, shifted by what the anchor showed, and locked
(R265); their lanes wait for identity. The anchor's own lane is left as it is. -/
def setDataRings (tx : Bool) (p : Nat) (s : State) : State :=
  (colours.drop 1).foldl (fun s c =>
    if ringless s tx p c then s
    else
      let r := servingRing s tx p c
      let s := withRing tx p r { code := shiftedCode s tx p r c, line := c, parked := false, locked := true } s
      if tx then withTx p c { txOf s p c with state := .out } s
      else withRx p c { rxOf s p c with state := .out, lastGood := s.pwr.time } s) s

/-- A port whose transmit anchor is locked, with all lasers lit, goes on: transmit data rings from their tables, then
the receive anchor's sweep; a port without a receive anchor ring goes on at once (R269). -/
def portOn (p : Nat) (s : State) : State :=
  let s := sweepAnchor false p (setDataRings true p s)
  if ringless s false p 0 then setDataRings false p (withPort p { portOf s p with stage := 2 } s) else s

/-- A port in commissioning whose transmit anchor is still sought. -/
def anchorSought (s : State) (p : Nat) : Bool :=
  let x := portOf s p
  x.state == 1 && x.stage == 0

/-- The DFB lasers of a set lit, but for those replaced or failed. -/
def lightLasers (which : Nat → Bool) (s : State) : State :=
  withPho (fun h => { h with lasers := ((List.range 128).filter which).foldl (fun m n =>
    let l := at_ {} n m
    if l.state = 3 ∨ l.state = 4 then m else set_ {} n { l with state := 1, readings := [] } m) h.lasers }) s

/-- Every transmit anchor of the module locked: all DFB lasers are lit, and the ports go on (R269). -/
def lightAll (s : State) : State :=
  if s.pho.allLit ∨ s.pho.commissioning ≠ 1 ∨ (List.range 32).any (anchorSought s) then s
  else
    let s := withPho (fun h => { h with allLit := true }) (lightLasers (fun _ => true) s)
    ((List.range 32).filter (fun p => (portOf s p).state == 1)).foldl (fun s p => portOn p s) s

/-- A port's transmit anchor is found, or it has no anchor ring. -/
def txAnchorFound (p : Nat) (s : State) : State :=
  let s := withPort p { portOf s p with stage := 1 } s
  if s.pho.allLit then portOn p s else lightAll s

/-- A port's receive anchor has been accepted: its receive data rings follow (R269). -/
def rxAnchorFound (p : Nat) (s : State) : State :=
  if (portOf s p).stage = 1 then setDataRings false p (withPort p { portOf s p with stage := 2 } s) else s

/-- A port's commissioning begun: its serialiser's setting in force, its rings parked, its transmit anchor sought;
the lanes of an unassigned port stay dark. -/
def commissionPort (p : Nat) (s : State) : State :=
  let x := portOf s p
  let s := pllTake [p / 8 + 6] s
  let used := (assignment s p).isSome
  let s := withPort p
    { x with state := if used then 1 else 0, plantSent := false, plantLanes := []
             gen2 := rg s 0x5002 (p + 1) == 2, slot := none, stage := 0 } s
  let s := parkRings false p (parkRings true p s)
  if !used then s
  else if ringless s true p 0 then txAnchorFound p s
  else sweepAnchor true p s

/-- Commissioning of every port (R269, R284): only the C0 lasers are lit at first. -/
def commissionAll (s : State) : State :=
  let s := withPho (fun h => { h with
    commissioning := 1, switchovers := [], allLit := false
    lasers := h.lasers.map (fun x => (x.1, if x.2.state = 3 ∨ x.2.state = 4 then x.2 else { x.2 with state := 0 })) }) s
  let s := lightLasers (fun n => n % 32 / 2 == 0) s
  lightAll ((List.range 32).foldl (fun s p => commissionPort p s) s)

/-- A port has a dropped lane. -/
def hasDropped (s : State) (p : Nat) : Bool :=
  let gone := fun (x : LaneState) => x == .dropped || x == .plantFault
  colours.any (fun c => gone (txOf s p c).state || gone (rxOf s p c).state)

/-- OPTICAL_COMMISSIONING_COMPLETE (R268, R269): the ports in service, the DFB lasers' commissioned powers (units of
10 µW, in laser order), each spare laser's 16 tuning settings, and the rings' flash values refined (R263). -/
def execOpticalCommissioningComplete (found : List Nat × List (List Nat)) (s : State) : Out :=
  let s := fresh s
  .next (if s.pwr.inReset ∨ (s.pho.commissioning ≠ 1 ∧ !(List.range 32).any (fun p => (portOf s p).state == 1))
      ∨ (List.range 32).any (anchorSought s) then s
    else
      let s := (List.range 32).foldl (fun s p =>
        let x := portOf s p
        if x.state = 1 then withPort p { x with state := if hasDropped s p then 3 else 2 } s else s) s
      let s := withPho (fun h => { h with refined := h.refined + 1 }) s
      if s.pho.commissioning ≠ 1 then s
      else withPho (fun h => { h with
        commissioning := 2
        spares := (found.2.zipIdx.take 16).foldl (fun m x =>
          let l := at_ {} x.2 m
          if l.state = 0 then set_ {} x.2 { l with tuning := x.1.take 16 } m else m) h.spares
        lasers := (found.1.zipIdx.take 128).foldl (fun m x =>
          let l := at_ {} x.2 m
          if l.state = 3 ∨ l.state = 4 then m
          else set_ {} x.2 { l with commissioned := x.1 % 65536 } m) h.lasers }) s)

/-- The rule of 0x5040:01 (R284, R287). -/
def recommissionRule (value : Bytes) (s : State) : Rule :=
  let lit := s.pho.commissioning != 0 && (s.pwr.cur == .run || s.pwr.cur == .still)
  { codes := [need lit 0x03300001, need (leNat value < 32) 0x02300001]
    apply := commissionPort (leNat value) }

/-- RECOMMISSION_PORT (R284). -/
def execRecommissionPort (q : Req) (port : Nat) (s : State) : Out :=
  let v := leBytes 1 port
  settled s (writeReq q 0 0x5040 1 v (recommissionRule v) s)

/-! ## Frames (R270, R271, R275) -/

/-- A port's plant-fault event, once per port (R271). -/
def plantEvent (p c : Nat) (s : State) : State :=
  let x := portOf s p
  if x.plantSent then s
  else raise 1 0x0034 (leBytes 1 p ++ leBytes 1 c) (withPort p { x with plantSent := true } s)

/-- A receive lane's plant-fault verdict (R271, R283); when every lane of the port has one, the port is failed. -/
def plantVerdict (p c source : Nat) (s : State) : State :=
  let s := dropAs .plantFault false p c (bump 0x5020 6 1 s)
  let s := sendNotice p 4 0 source s
  let x := portOf s p
  let lanes := addNum c x.plantLanes
  plantEvent p c (withPort p { x with plantLanes := lanes, state := if lanes.length = 16 then 4 else x.state } s)

/-- The distance of a line from the line of a ring's colour (R273). -/
def lineDistance (c line : Nat) : Nat := (max c line) - (min c line)

/-- The search of a ring has ended without an acceptable line (R267, R273). The receive anchor's sweep in
commissioning is counted and waits 100 ms; another ring's directed search becomes a full sweep, and after two failed
full sweeps the ring is failed. -/
def searchExhausted (tx : Bool) (p c : Nat) (s : State) : State :=
  let r := servingRing s tx p c
  let x := ringOf s tx p r
  if !tx && c == 0 && (portOf s p).stage == 1 && (portOf s p).state != 0 then
    bump 0x5020 7 1 (withRing tx p r { x with locked := false, failedAt := some s.pwr.time } s)
  else if x.mode = .directed then
    withRing tx p r { x with locked := false, mode := .sweep, rejected := [], code := 0, line := 16 } s
  else if x.sweepsFailed = 0 then
    withRing tx p r { x with locked := false, sweepsFailed := 1, code := 0, line := 16 } s
  else
    let s := if !tx && (rxOf s p c).lost then
        (match expectedTx s p c with
          | some e => sendNotice p 2 0 e s
          | none => s)
      else s
    failRing tx p c s

/-- The line a searching ring sits on is rejected: it moves on, and a directed search that has rejected every line
becomes a sweep (R267, R273). -/
def rejectLine (tx : Bool) (p c : Nat) (s : State) : State :=
  let r := servingRing s tx p c
  let x := ringOf s tx p r
  let x := { x with locked := false, rejected := addNum x.line x.rejected }
  let s := withRing tx p r x s
  if x.mode = .directed ∧ colours.all (fun l => x.rejected.contains l) then searchExhausted tx p c s else s

/-- A verdict of R271 on a lane that has shown the same mismatch twice. A searching ring only rejects the
line it is on (R273). -/
def mismatchVerdict (p c source sourcePort colour : Nat) (s : State) : State :=
  if (rxOf s p c).state = .searching then
    rejectLine false p c (withRx p c { rxOf s p c with goodFrames := 0, mismatch := none } s)
  else if expectedTx s p c = some source ∧ sourcePort = p then
    sendNotice p 1 colour source (bump 0x5020 4 1 (pullRx p c .out s))
  else if colour ≠ c ∧ expectedTx s p colour = some source then
    beginSearch false p c false (bump 0x5020 5 1 s)
  else plantVerdict p c source s

/-- A notice acted on (R270, R275): it concerns the transmit lane that reaches its sender, or the colour it
names. -/
def takeNotice (p source code colour : Nat) (s : State) : State :=
  let named := if code = 1 then some colour else colourTo s p source
  match named with
  | none => s
  | some c =>
    let st := (txOf s p c).state
    let idle := st == .dark || st == .dropped || st == .plantFault
    if code = 3 then
      if st = .out ∨ (st = .searching ∧ (ringOf s true p (servingRing s true p c)).locked) then
        txIntoService p c s
      else s
    else if code = 1 ∨ code = 2 then (if idle then s else beginSearch true p c false s)
    else if code = 4 then plantEvent p c (dropAs .plantFault true p c s)
    else s

/-- A lane that can take frames: neither dark nor given up, and on a locked ring while it searches. -/
def takesFrames (s : State) (p c : Nat) : Bool :=
  match (rxOf s p c).state with
  | .dark => false
  | .dropped => false
  | .plantFault => false
  | .searching => (ringOf s false p (servingRing s false p c)).locked
  | _ => true

/-- The fields of a lane frame (R260). -/
structure FrameFields where
  sync : Nat
  source : Nat
  port : Nat
  colour : Nat
  gen2 : Bool
  state : Nat
  count : Nat
  noticeCode : Nat
  noticeColour : Nat
  noticeSeq : Nat
  reserved : Nat
  crc : Nat
deriving DecidableEq, Repr

/-- A lane frame's fields. -/
def frameFields (b : Bytes) : FrameFields :=
  let v := beNat b
  { sync := bits 319 288 v, source := bits 287 268 v, port := bits 267 263 v, colour := bits 262 259 v
    gen2 := bit 258 v, state := bits 257 254 v, count := bits 253 238 v, noticeCode := bits 237 234 v
    noticeColour := bits 233 230 v, noticeSeq := bits 229 226 v, reserved := bits 225 32 v, crc := bits 31 0 v }

/-- A frame is good: sync and CRC correct, reserved bits zero (R260). -/
def frameGood (b : Bytes) : Bool :=
  let f := frameFields b
  b.length == 40 && f.sync == 0x5AE3C01D && f.reserved == 0 && f.crc == (crc32c (b.take 36)).toNat

/-- What the lane state of a good frame says of the lane (R260, R272, R278): it leaves; it calibrates for its far
transmitter's slot and keeps its flit state; it searches and will be reinitialised. -/
def takeLaneState (p c code : Nat) (s : State) : State :=
  let l := rxOf s p c
  let in_ := l.state = .inService ∨ l.state = .calibrating
  if code = 1 ∧ l.state = .inService then
    withRx p c { l with state := .calibrating, goodFrames := 0, mismatch := none, kept := false } s
  else if code = 2 ∧ in_ then withRx p c { l with state := .calibrating, goodFrames := 0, kept := true } s
  else if code = 4 ∧ in_ then pullRx p c .out s
  else s

/-- A good frame judged (R270, R271): consecutive frames carry consecutive counts. -/
def judgeFrame (p c : Nat) (f : FrameFields) (s : State) : State :=
  let l := rxOf s p c
  let next := f.count = (l.frame + 1) % 65536
  let l := { l with frame := f.count, lastGood := s.pwr.time }
  if expectedTx s p c = some f.source ∧ f.port = p ∧ f.colour = c then
    let l := { l with goodFrames := if next then l.goodFrames + 1 else 1, mismatch := none }
    let s := withRx p c l s
    if l.state ≠ .inService ∧ 2 ≤ l.goodFrames ∧ f.state ≠ 1 ∧ f.state ≠ 2 then
      let s := rxIntoService p c s
      if c = 0 then rxAnchorFound p s else s
    else s
  else
    let seen := (f.source, f.port, f.colour)
    if l.mismatch = some seen ∧ next then mismatchVerdict p c f.source f.port f.colour (withRx p c l s)
    else withRx p c { l with goodFrames := 0, mismatch := some seen } s

/-- LANE_FRAME (R260, R261, R270, R271). A frame that is not good breaks a run of good ones. -/
def execLaneFrame (f : LaneFrame) (s : State) : Out :=
  let s := fresh s
  let p := f.port
  let c := f.colour
  .next (if 16 ≤ c ∨ !portLit s p ∨ !laneClockGood s p ∨ (assignment s p).isNone ∨ !takesFrames s p c then s
    else if !frameGood f.bytes then withRx p c { rxOf s p c with goodFrames := 0, mismatch := none } s
    else
      let x := frameFields f.bytes
      let l := rxOf s p c
      let s := withRx p c { l with gen2 := x.gen2 } s
      let s :=
        if x.noticeCode = 0 ∨ lookup x.source l.noticeSeen = some x.noticeSeq then s
        else
          takeNotice p x.source x.noticeCode x.noticeColour
            (withRx p c { rxOf s p c with noticeSeen := put x.source x.noticeSeq l.noticeSeen } s)
      judgeFrame p c x (takeLaneState p c x.state s))

/-- The time without a good frame after which a receive lane is lost: 8 frame times, or 40 µs after it left for a slot
of its far transmitter (R271, R278). -/
def lostAfter (l : RxLane) : Nat := if l.state = .calibrating then 40000 else if l.gen2 then 6554 else 13108

/-- LANE_FRAME_TIMEOUT (R271): no good frame for 8 frame times. A searching ring leaves the line. -/
def execLaneFrameTimeout (port colour : Nat) (linePresent : Bool) (s : State) : Out :=
  let s := fresh s
  let l := rxOf s port colour
  .next (if 16 ≤ colour ∨ !portLit s port ∨ !takesFrames s port colour ∨ s.pwr.time < l.lastGood + lostAfter l then s
    else if l.state = .searching then rejectLine false port colour s
    else
      let s := bump 0x5020 7 1 s
      if linePresent then beginSearch false port colour true s
      else
        let s := pullRx port colour .out s
        let s := withRx port colour { rxOf s port colour with lastGood := s.pwr.time } s
        match expectedTx s port colour with
        | some e => sendNotice port 2 0 e s
        | none => s)

/-! ## Rings -/

/-- A spare ring that fails its test (R276, R277). -/
def failSpare (tx : Bool) (p : Nat) (s : State) : State :=
  match spareOf (portOf s p) tx with
  | some c => failRing tx p c s
  | none => withRing tx p 16 { ringOf s tx p 16 with failed := true } s

/-- The colour of the lane that a ring serves. -/
def ringColour (s : State) (tx : Bool) (p r : Nat) : Option Nat :=
  if r = 16 then spareOf (portOf s p) tx else if servingRing s tx p r = r then some r else none

/-- RING_LOCK_LOOP (R264, R276, R285): the heater steps towards the resonance centre, or the heater or monitor fails
its self-test. Rings are locked by their loops in Run, Still and Hush; a transmit ring whose lane is in service is held by
calibration. -/
def execRingLockLoop (tx : Bool) (port ring : Nat) (step : Int) (found : LoopResult) (s : State) : Out :=
  let s := fresh s
  let x := ringOf s tx port ring
  let held := tx && (ringColour s tx port ring).any (fun c => (txOf s port c).state == .inService)
  .next (if 32 ≤ port ∨ 17 ≤ ring ∨ x.failed ∨ s.pho.commissioning = 0 ∨ s.pwr.inReset
      ∨ !s.ring.clock ∨ s.pwr.cur = .doze ∨ (s.pwr.cur = .stow ∧ !s.pwr.stowExit) then s
    else if found = .broken then
      match ringColour s tx port ring with
      | some c => failRing tx port c s
      | none => withRing tx port ring { x with failed := true } s
    else if x.line = 16 ∨ held then s
    else
      let code := min 65535 ((x.code : Int) + step).toNat
      withRing tx port ring { x with code := code, locked := found = .held } s)

/-- SEARCH_CANDIDATE_TIMEOUT (R273): 30 µs on a candidate line without a lane-good notice. -/
def execSearchCandidateTimeout (port colour : Nat) (s : State) : Out :=
  let s := fresh s
  let x := ringOf s true port (servingRing s true port colour)
  .next (if 16 ≤ colour ∨ !portLit s port ∨ (txOf s port colour).state ≠ .searching ∨ !x.locked
      ∨ s.pwr.time < x.lineAt + 30000 then s
    else rejectLine true port colour s)

/-- A searching ring may come to a line next (R266, R267, R273): in a sweep a line at a higher code, in a directed
search one of the nearest lines not yet rejected. -/
def mayReach (x : Ring) (c : Nat) (line : Nat × Nat) : Bool :=
  match x.mode with
  | .sweep => x.code ≤ line.2
  | .directed => !x.rejected.contains line.1
      && colours.all (fun l => x.rejected.contains l || lineDistance c line.1 ≤ lineDistance c l)

/-- RING_SEARCH_LINE_REACHED (R266, R267, R273, R274): the line and the code at which the ring came to it; a line of 16
says that the range is exhausted. A transmit anchor locks to the first dip (R266); another transmit ring sends frames on
the line, a receive ring waits for two. -/
def execRingSearchLineReached (tx : Bool) (port colour : Nat) (line : Nat × Nat) (accepted : Bool) (crossings : Nat)
    (s : State) : Out :=
  let s := fresh s
  let r := servingRing s tx port colour
  let x := ringOf s tx port r
  .next (if 16 ≤ colour ∨ !portLit s port ∨ laneState s tx port colour ≠ .searching ∨ x.locked ∨ x.failedAt.isSome then s
    else
      let s := bump 0x5020 8 crossings s
      if 16 ≤ line.1 then searchExhausted tx port colour s
      else if !mayReach x colour line then s
      else
        let s := withRing tx port r { x with
          line := line.1, code := line.2 % 65536, locked := accepted, parked := false, lineAt := s.pwr.time } s
        if !accepted then (if x.mode = .directed then rejectLine tx port colour s else s)
        else if !tx then
          withRx port colour { rxOf s port colour with
            goodFrames := 0, mismatch := none, lastGood := s.pwr.time } s
        else if colour = 0 ∧ anchorSought s port then
          txAnchorFound port (withTx port 0 { txOf s port 0 with state := .out } s)
        else if sendsFrames s port colour then sendFrame port colour 4 s
        else s)

/-- ANCHOR_SWEEP_RETRY (R267): the receive anchor's sweep starts again from code 0, 100 ms after it failed. -/
def execAnchorSweepRetry (port : Nat) (s : State) : Out :=
  let s := fresh s
  let r := servingRing s false port 0
  let x := ringOf s false port r
  .next (match x.failedAt with
    | none => s
    | some t =>
      if !portLit s port ∨ (rxOf s port 0).state ≠ .searching ∨ s.pwr.time < t + 100000000 then s
      else withRing false port r { x with code := 0, line := 16, failedAt := none, rejected := [] } s)

/-- The rule of 0x5002 (R258, R287): the port's transmit lanes are retrained at the new generation. -/
def generationRule (sub : Nat) (value : Bytes) : Rule :=
  let p := sub - 1
  { codes := [need (leNat value == 1 || leNat value == 2) 0x02300001]
    apply := fun s =>
      let s := withRg 0x5002 sub (leNat value) s
      let x := portOf s p
      if x.state = 0 then s
      else
        let s := colours.foldl (fun s c =>
          let st := (txOf s p c).state
          if st = .inService ∨ st = .calibrating then pullTx p c .out s else s) s
        withPort p { portOf s p with gen2 := leNat value == 2 } s }

/-- TRANSMIT_GENERATION_WRITE (R258). -/
def execTransmitGenerationWrite (q : Req) (sub gen : Nat) (s : State) : Out :=
  let v := leBytes 1 gen
  .next (writeReq q 0 0x5002 sub v (fun _ => generationRule sub v) s)

/-- WAVELENGTH_CHECK (R252): lasers 0 to 127, then the spare lasers; one further than 5 GHz from its colour
is noted until it is back. -/
def execWavelengthCheck (laser : Nat) (offsetMHz : Int) (s : State) : Out :=
  let s := fresh s
  .next (if 144 ≤ laser ∨ s.pho.commissioning = 0 ∨ s.pwr.inReset ∨ s.pwr.cur = .doze ∨ s.pwr.cur = .stow then s
    else withPho (fun h => { h with
      freqBad := if 5000 < offsetMHz.natAbs then addNum laser h.freqBad else dropNum laser h.freqBad }) s)

/-! ## Calibration slots (R277 to R279) -/

/-- The switchover that a port's next slot serves: locked, with this port the next in order (R281). -/
def dueSwitch (s : State) (p : Nat) : Option Switchover :=
  s.pho.switchovers.find? (fun w => w.locked && w.ports.head? == some p)

/-- Some lane of a port is in service. -/
def someLane (s : State) (p : Nat) : Bool :=
  colours.any (fun c => (txOf s p c).state == .inService || (rxOf s p c).state == .inService)

/-- A transmit lane taken into a slot, when it is in service (R278): a frame with lane state 0x1, then frames with
0x2; its sequence state and credits stay. -/
def takeForSlot (p c : Nat) (s : State) : State :=
  if (txOf s p c).state = .inService then
    let s := sendFrame p c 2 (sendFrame p c 1 s)
    withTx p c { txOf s p c with state := .calibrating } s
  else s

/-- CALIBRATION_SLOT (R277, R279, R281). ringsGood: the tests of the transmit and of the receive spare ring in slot
16. -/
def execCalibrationSlot (port : Nat) (ringsGood : Bool × Bool) (s : State) : Out :=
  let s := fresh s
  let t := s.pwr.time
  let k := t / 1000000 % 17
  .next (if !portLit s port ∨ t % 1000000 ≠ 125000 * (port % 8) ∨ !someLane s port then s
    else
      let x := { portOf s port with lastSlot := k }
      match dueSwitch s port with
      | some w =>
        let c := w.laser % 32 / 2
        takeForSlot port c (withPort port { x with slot := some ⟨k, some c, t, some w.laser⟩ } s)
      | none =>
        if k = 16 then
          let s := withPort port { x with slot := some ⟨k, none, t, none⟩ } s
          let s := if ringsGood.1 then s else failSpare true port s
          if ringsGood.2 then s else failSpare false port s
        else if (txOf s port k).state = .inService then
          takeForSlot port k (withPort port { x with slot := some ⟨k, some k, t, none⟩ } s)
        else withPort port { x with slot := some ⟨k, none, t, none⟩ } s)

/-- A laser of the module. -/
def laserOf (s : State) (n : Nat) : Laser := at_ {} n s.pho.lasers

/-- A laser replaced. -/
def withLaser (n : Nat) (x : Laser) (s : State) : State :=
  withPho (fun h => { h with lasers := set_ {} n x h.lasers }) s

/-- A spare laser: engine × 4 + number. -/
def spareLaserOf (s : State) (n : Nat) : SpareLaser := at_ {} n s.pho.spares

/-- A spare laser replaced. -/
def withSpareLaser (n : Nat) (x : SpareLaser) (s : State) : State :=
  withPho (fun h => { h with spares := set_ {} n x h.spares }) s

/-- A switchover whose four ports are switched (R281): the light it replaces is off. -/
def finishSwitch (w : Switchover) (s : State) : State :=
  let l := laserOf s w.laser
  let s := match l.spare with
    | some old => withSpareLaser (w.laser / 32 * 4 + old)
        { spareLaserOf s (w.laser / 32 * 4 + old) with state := 3, readings := [] } s
    | none => s
  let s := withLaser w.laser { l with state := 3, spare := some (w.spare % 4), exhausted := false } s
  raise 1 0x0031 (leBytes 1 w.laser ++ leBytes 1 (w.spare % 4)) (bump 0x5020 2 1 s)

/-- A port's selector switched to the spare bus, for the switchover of a laser. -/
def switchPort (p laser : Nat) (s : State) : State :=
  match s.pho.switchovers.find? (fun w => w.laser == laser && w.ports.head? == some p) with
  | none => s
  | some w =>
    let w' := { w with ports := w.ports.drop 1 }
    if w'.ports.isEmpty then
      finishSwitch w (withPho (fun h => { h with switchovers := h.switchovers.filter (fun x => x ≠ w) }) s)
    else withPho (fun h => { h with switchovers := h.switchovers.map (fun x => if x = w then w' else x) }) s

/-- The lane of a slot at its end (R278): two frames with lane state 0x3 and back in service, its unacknowledged flits
resent; or out, and with its resonance far off re-locked by search. -/
def endSlotLane (p c : Nat) (back farOff : Bool) (s : State) : State :=
  let l := txOf s p c
  if l.state ≠ .calibrating then s
  else if back then
    let s := sendFrame p c 3 (sendFrame p c 3 s)
    let s := withTx p c { txOf s p c with state := .inService, timer := s.pwr.time } (reachable p c s)
    pumpLane p c (if l.replay.isEmpty then s else resendAll p c s)
  else if farOff then beginSearch true p c false s
  else outTx p c .out s

/-- CALIBRATION_SLOT_END (R278, R281). back: the lane is back at 40 µs; farOff: its resonance lay more than
50 GHz from its line. -/
def execCalibrationSlotEnd (port : Nat) (back farOff : Bool) (s : State) : Out :=
  let s := fresh s
  let x := portOf s port
  .next (match x.slot with
    | none => s
    | some t =>
      if !portLit s port then s
      else
        let s := withPort port { x with slot := none } s
        let s := match t.switching with
          | some n => switchPort port n s
          | none => s
        match t.colour with
        | none => bump 0x5020 9 1 s
        | some c =>
          endSlotLane port c back farOff (if back then bump 0x5020 9 1 s else bump 0x5020 10 1 s))

/-! ## Lasers (R280 to R282) -/

/-- The four ports of a laser's group (R254). -/
def groupPorts (laser : Nat) : List Nat := (List.range 4).map (· + (8 * (laser / 32) + 4 * (laser % 2)))

/-- The lowest-numbered free spare laser of an engine. -/
def freeSpare (s : State) (engine : Nat) : Option Nat :=
  ((List.range 4).map (· + 4 * engine)).find? (fun n => (spareLaserOf s n).state == 0)

/-- A switchover of a laser's group is under way. -/
def switching (s : State) (laser : Nat) : Bool := s.pho.switchovers.any (fun w => w.laser == laser)

/-- The mean of readings, in whole per mille. -/
def meanOf (l : List Nat) : Nat := l.foldl (· + ·) 0 / max 1 l.length

/-- The mean of readings lies below a threshold. -/
def meanBelow (l : List Nat) (x : Nat) : Bool := l.foldl (· + ·) 0 < x * l.length

/-- The mean of readings lies above a threshold. -/
def meanAbove (l : List Nat) (x : Nat) : Bool := x * l.length < l.foldl (· + ·) 0

/-- No spare laser is free for a group: one event (R282). -/
def noSpareLeft (laser : Nat) (s : State) : State :=
  let l := laserOf s laser
  if l.exhausted then s else raise 1 0x0032 (leBytes 1 laser) (withLaser laser { l with exhausted := true } s)

/-- The lanes of a group's colour dropped on its four ports (R280, R282). -/
def dropGroup (laser : Nat) (s : State) : State :=
  (groupPorts laser).foldl (fun s p =>
    if (txOf s p (laser % 32 / 2)).state = .dark then s else dropLane true p (laser % 32 / 2) s) s

/-- A group's light needs another laser (R280 to R282). sudden: a reading below 70 %: its lanes are dropped at once. -/
def needSpare (laser : Nat) (sudden : Bool) (s : State) : State :=
  let s := if sudden then dropGroup laser s else s
  if switching s laser then s
  else match freeSpare s (laser / 32) with
    | some n =>
      let s := withSpareLaser n { spareLaserOf s n with
        state := 1, colour := laser % 32 / 2, group := laser % 2, readings := [], warned := false } s
      let ports := (groupPorts laser).filter (fun p => (assignment s p).isSome)
      withPho (fun h => { h with switchovers := h.switchovers ++ [⟨laser, n, false, ports⟩] }) s
    | none => noSpareLeft laser s

/-- The thresholds applied to a group's light: its DFB laser or the spare that serves it. -/
def judgePower (laser reading : Nat) (readings : List Nat) (s : State) : State :=
  if reading < 700 then needSpare laser true s
  else if meanBelow readings 750 then needSpare laser false s
  else s

/-- LASER_POWER_READING (R280): reading in per mille of commissioned power. -/
def execLaserPowerReading (spare : Bool) (laser reading : Nat) (s : State) : Out :=
  let s := fresh s
  let lit := (s.pwr.cur == .run || s.pwr.cur == .still) && s.pho.commissioning == 2 && !s.pwr.inReset
  .next (if !lit then s
    else if spare then
      let x := spareLaserOf s laser
      if 16 ≤ laser ∨ x.state ≠ 2 ∨ gated s (16 + laser / 4) then s
      else
        let rs := (reading :: x.readings).take 16
        let group := 32 * (laser / 4) + 2 * x.colour + x.group
        let warn := meanBelow rs 850 && !x.warned
        let s := withSpareLaser laser
          { x with readings := rs, warned := if warn then true else if meanAbove rs 870 then false else x.warned } s
        let s := if warn then raise 1 0x0030 (leBytes 1 group) (bump 0x5020 1 1 s) else s
        judgePower group reading rs s
    else
      let x := laserOf s laser
      if 128 ≤ laser ∨ (x.state ≠ 1 ∧ x.state ≠ 2) ∨ gated s (16 + laser / 32) then s
      else
        let rs := (reading :: x.readings).take 16
        let st := if meanBelow rs 850 then 2 else if meanAbove rs 870 then 1 else x.state
        let s := withLaser laser { x with readings := rs, state := st } s
        let s := if st = 2 ∧ x.state = 1 then raise 1 0x0030 (leBytes 1 laser) (bump 0x5020 1 1 s) else s
        judgePower laser reading rs s)

/-- SPARE_LASER_LOCKED (R281): the ports' slots can switch; a group with no assigned port is done. -/
def execSpareLaserLocked (engine spare : Nat) (s : State) : Out :=
  let s := fresh s
  let n := 4 * engine + spare
  .next (if 4 ≤ engine ∨ 4 ≤ spare ∨ (spareLaserOf s n).state ≠ 1 then s
    else
      let s := withSpareLaser n { spareLaserOf s n with state := 2 } s
      let done := s.pho.switchovers.filter (fun w => w.spare == n && w.ports.isEmpty)
      let s := withPho (fun h => { h with
        switchovers := (h.switchovers.filter (fun w => ¬(w.spare = n ∧ w.ports = []))).map
          (fun w => if w.spare = n then { w with locked := true } else w) }) s
      done.foldl (fun s w => finishSwitch w s) s)

/-! ## Power (R285, R488) -/

/-- The lanes of a port out, to return under R270. -/
def portOut (s : State) (p : Nat) : State :=
  let s := withPort p { portOf s p with slot := none } s
  colours.foldl (fun s c =>
    let t := (txOf s p c).state
    let r := (rxOf s p c).state
    let s := if t = .inService ∨ t = .calibrating then pullTx p c .out s else s
    if r = .inService ∨ r = .calibrating then pullRx p c .out s else s) s

/-- Every lane out (entry to Hush). -/
def lanesOut (s : State) : State := (List.range 32).foldl portOut s

/-- The engine of a ring's key. -/
def ringEngine (key : Nat) : Nat := key % 544 / 17 / 8

/-- Heater codes and die temperatures stored and the lasers off (entry to Doze). -/
def photonicsDoze (s : State) : State :=
  withPho (fun h => { h with
    rings := h.rings.map (fun p => (p.1, { p.2 with
      storedCode := p.2.code, storedTemp := rg s 0x5030 (ringEngine p.1 + 1), locked := false }))
    lasers := h.lasers.map (fun p => (p.1, if p.2.state = 1 ∨ p.2.state = 2 then { p.2 with state := 0, readings := [] }
      else { p.2 with readings := [] })) }) s

/-- A stored heater code corrected by the ring's thermal slope for the change of die temperature (R285). -/
def relitCode (s : State) (key : Nat) (x : Ring) : Nat :=
  let dt : Rat := (rg s 0x5030 (ringEngine key + 1) : Rat) - (x.storedTemp : Rat)
  (min 65535 ((x.storedCode : Int) + (Config.ringSlope s.pho.refined key * dt).floor)).toNat

/-- The lasers and the rings re-lit from stored codes (exit from Doze). -/
def photonicsWake (s : State) : State :=
  withPho (fun h => { h with
    lasers := h.lasers.map (fun p => (p.1, if p.2.state = 0 then { p.2 with state := 1 } else p.2))
    rings := h.rings.map (fun p => (p.1,
      if p.2.line = 16 ∨ p.2.failed then p.2 else { p.2 with locked := true, code := relitCode s p.1 p.2 })) }) s

/-- The photonics dark (Stow and module reset): what flash holds stays, spare ring and spare laser
assignments with the failures behind them, the spare lasers' tuning, the rings' values (R263, R268, R276, R281). -/
def photonicsDark (s : State) : State :=
  let s := (List.range 32).foldl (fun s p => colours.foldl (fun s c => outTx p c .dark s) s) s
  withPho (fun h =>
    { refined := h.refined
      ports := (h.ports.map (fun p => (p.1, ({ txSpare := p.2.txSpare, rxSpare := p.2.rxSpare } : Port)))).filter
        (fun p => p.2 ≠ {})
      rings := (h.rings.map (fun p => (p.1, ({ failed := p.2.failed } : Ring)))).filter (fun p => p.2 ≠ {})
      lasers := (h.lasers.map (fun p => (p.1,
          ({ state := if p.2.state = 3 then 3 else 0, spare := p.2.spare } : Laser)))).filter (fun p => p.2 ≠ {})
      spares := (h.spares.map (fun p => (p.1,
          (if p.2.state = 3 ∨ (p.2.state = 2 ∧ (laserOf s (32 * (p.1 / 4) + 2 * p.2.colour + p.2.group)).spare
              = some (p.1 % 4)) then { p.2 with readings := [], warned := false }
            else { tuning := p.2.tuning } : SpareLaser)))).filter
        (fun p => p.2 ≠ {}) }) s

end Sys2Proof.Machine
end

