-- ==== Sys2Proof/Machine/Gating.lean ====
section
/-! DEFINITION. What gating a block does (R488, R489) and the stacks' states in each power state (R483). -/

namespace Sys2Proof.Machine

/-- A trained stack's state: standby in Run and Still unless its quadrant is gated, power-down with refresh
in Hush, self-refresh in Doze. -/
def stackTarget (s : State) (k : Nat) : Nat :=
  match s.pwr.cur with
  | .run => if gated s (12 + k / 5) then 3 else 2
  | .still => if gated s (12 + k / 5) then 3 else 2
  | .hush => 3
  | _ => 4

/-- Every trained stack in the state that power and gating give it. Around self-refresh all banks are refreshed
(R202). -/
def settleStacks (s : State) : State :=
  (List.range 20).foldl (fun s k =>
    let x := stackOf s k
    let n := stackTarget s k
    if x.state = 2 ∨ x.state = 3 ∨ x.state = 4 then
      withStack k { x with
        state := n, lastRefresh := if (x.state = 4) ≠ (n = 4) then s.pwr.time else x.lastRefresh } s
    else s) s

/-- What follows when power states or enables have changed: the lanes of an engine gated now and not before
are out. -/
def gateChange (before s : State) : State :=
  let s := (List.range 4).foldl (fun s n =>
    if gated s (16 + n) && !gated before (16 + n) then
      (List.range 8).foldl (fun s j => portOut s (8 * n + j)) s
    else s) s
  settleStacks s

end Sys2Proof.Machine
end

