-- ==== Sys2Proof/Machine/Engines.lean ====
section
/-! DEFINITION. Copy engines and die prefetchers (R187, R188, R214, R215).

Choices beyond the manual's plain words (notes/assumptions): DEDUCED 57, 58; DESIGN CHOICE 160. -/

namespace Sys2Proof.Machine

/-! ## Copy jobs -/

/-- The key of an engine. -/
def engineKey (die engine : Nat) : Nat := die * 16 + engine

/-- A copy engine. -/
def engineOf (s : State) (k : Nat) : Engine := at_ {} k s.ex.engines

/-- A copy engine replaced. -/
def withEngine (k : Nat) (x : Engine) (s : State) : State :=
  { s with ex := { s.ex with engines := set_ {} k x s.ex.engines } }

/-- The engine's jobs in record order. -/
def jobsOf (sc : Score) (die engine : Nat) : List CopyJob :=
  sc.jobs.filter (fun j => j.die == die && j.engine == engine)

/-- The ranges of memory that a job accesses. -/
def jobRanges (sc : Score) (s : State) (src dst : Desc) : List (Nat × Nat) :=
  memPieces (copyReads sc s 0 src dst) ++ (copyWrites sc s 0 src dst).map (fun w => (w.1, w.2.length))

/-- A job carried out by its engine: poison in what it reads noted, its accesses made, its elements moved. -/
def runJob (sc : Score) (u : Agent) (src dst : Desc) (s : State) : State :=
  let ps := copyReads sc s 0 src dst
  let s := match poisonIn s ps with | some a => poisonRead a s | none => s
  runCopy sc u 0 1 src dst (readPieces u none ps s)

/-- COPY_JOB_FIRE (R188): the engine's first job not yet run, once its input token has reached its count and its
memory is within reach (R240, R481). Its endpoint is 0x100 + engine. -/
def execCopyJobFire (die engine : Nat) (s : State) : Out :=
  let s := fresh s
  let u := engineUnit s die engine
  .next (if !stepWorks s || gated s (20 + die) || !s.ring.clock then s
    else onScore s (fun sc s =>
      let x := engineOf s (engineKey die engine)
      match (jobsOf sc die engine)[x.doneJobs]? with
      | none => s
      | some j =>
        if x.running.isNone && inputsMet s j.input.toList
            && memoryOpen s u (jobRanges sc s (scoreDesc sc j.src) (scoreDesc sc j.dst)) then
          runJob sc u (scoreDesc sc j.src) (scoreDesc sc j.dst)
            (withEngine (engineKey die engine) { x with running := some x.doneJobs } s)
        else s))

/-- COPY_JOB_RETIRE (R59, R188): the running job is done, its writes are acknowledged, and it sends its output
tokens. -/
def execCopyJobRetire (die engine : Nat) (s : State) : Out :=
  let s := fresh s
  .next (if s.pwr.inReset || !writesDone s (engineUnit s die engine) then s
    else onScore s (fun sc s =>
      let x := engineOf s (engineKey die engine)
      match x.running with
      | none => s
      | some i =>
        let s := withEngine (engineKey die engine) { x with doneJobs := x.doneJobs + 1, running := none } s
        match (jobsOf sc die engine)[i]? with
        | some j => deliver sc die (0x100 + engine) j.outputs s
        | none => s))

/-! ## Memory streams -/

/-- A memory stream's progress. -/
def streamOf (s : State) (i : Nat) : StreamRun := at_ {} i s.ex.streams

/-- A memory stream's progress replaced. -/
def withStream (i : Nat) (x : StreamRun) (s : State) : State :=
  { s with ex := { s.ex with streams := set_ {} i x s.ex.streams } }

/-- The lines that segment k of a stream reaches, each once; pads and skipped entries reach nothing. -/
def segmentLines (s : State) (sc : Score) (x : StreamDecl) (k : Nat) : List Nat :=
  let d := scoreDesc sc x.desc
  let ents := listEntries s 0 d (sc.descs[d.listDesc]?)
  let t := traversal d ents.length
  let lo := k * t / x.segments
  ((List.range ((k + 1) * t / x.segments - lo)).flatMap (fun i =>
    let p := posAt d ents (lo + i)
    if p.skip || !p.valid then [] else [p.addr / 256, (p.addr + elemBytes d - 1) / 256])).eraseDups

/-- The token that gates segment k: the input token for the first, the pace token after it. -/
def segmentReady (s : State) (x : StreamDecl) (k : Nat) : Bool :=
  if k = 0 then inputsMet s x.input.toList
  else match x.pace with
    | some t => k ≤ tokenCount s t
    | none => true

/-- The prefetcher that runs a stream, in the stream's partition (R217). -/
def streamUnit (x : StreamDecl) : Agent := ⟨4 + runnerOf x, 0x7FF, 4, x.partition, 0⟩

/-- A stream's list read for a segment. -/
def readStreamList (sc : Score) (x : StreamDecl) (s : State) : State :=
  let d := scoreDesc sc x.desc
  let ps := joinedPieces (listReads d (sc.descs[d.listDesc]?))
  let s := match poisonIn s ps with | some a => poisonRead a s | none => s
  readPieces (streamUnit x) none ps s

/-- One line of a segment read from the point of coherence, its partition charged once. -/
def readStreamLine (x : StreamDecl) (s : State) (line : Nat) : State :=
  let s := readLine (streamUnit x) line s
  match firstPoison s (line * 256) 256 with
  | some b => poisonRead b s
  | none => s

/-- One line installed in a stream's targets: the shared caches of the masked dies, or the memory-side
cache of its home. -/
def installStreamLine (x : StreamDecl) (s : State) (line : Nat) : State :=
  if x.target = 0 then
    ((List.range 12).filter (fun d => x.mask.testBit d)).foldl (fun s d => installLine line d s) s
  else if (mscLine s line).isSome then s
  else mscInstall line { part := x.partition } s

/-- A segment's first access can go now: its regulator allows it, and shuts it out of no quadrant (R218, R240). -/
def segmentOpen (s : State) (x : StreamDecl) (lines : List Nat) : Bool :=
  !shutOut s x.partition (lines.map (fun k => (256 * k, 256)))
    && (match lines.find? (fun k => (mscLine s k).isNone) with
        | none => true
        | some k => regAllows s (controllerOf s (256 * k)) x.partition 256)

/-- STREAM_SEGMENT_START (R215). -/
def execStreamSegmentStart (stream : Nat) (s : State) : Out :=
  let s := fresh s
  .next (if !stepWorks s || !s.ring.clock then s
    else onScore s (fun sc s =>
      match sc.streams[stream]? with
      | none => s
      | some x =>
        let r := streamOf s stream
        let lines := segmentLines s sc x r.doneSegs
        if r.running || x.segments ≤ r.doneSegs || gated s (runnerOf x) || !segmentReady s x r.doneSegs
            || !segmentOpen s x lines then s
        else
          lines.foldl (readStreamLine x)
            (readStreamList sc x (withStream stream { r with running := true } s))))

/-- STREAM_SEGMENT_COMPLETE (R215): every line is installed; the output tokens are sent by the agent of
the die that runs the stream, endpoint 0x7FF. -/
def execStreamSegmentComplete (stream : Nat) (s : State) : Out :=
  let s := fresh s
  .next (if s.pwr.inReset then s
    else onScore s (fun sc s =>
      match sc.streams[stream]? with
      | none => s
      | some x =>
        let r := streamOf s stream
        if !r.running then s
        else
          let s := (segmentLines s sc x r.doneSegs).foldl (installStreamLine x) s
          let s := withStream stream { r with doneSegs := r.doneSegs + 1, running := false } s
          deliver sc (4 + runnerOf x) 0x7FF x.outputs s))

end Sys2Proof.Machine
end

