-- ==== Sys2Proof/Machine/Praline.lean ====
section
/-! DEFINITION. The praline lane (R343 to R350, R457): reductions of one 64-bit word over a group's stages.

Choices beyond the manual's plain words (notes/assumptions): DEDUCED 89, 90, 91, 94, 135. -/

namespace Sys2Proof.Machine

/-- The collective engines replaced. -/
def withCol (f : Collectives → Collectives) (s : State) : State := { s with col := f s.col }

/-- The round of the running step (R344). -/
def roundOf (s : State) : Nat := s.ex.step.num % 64

/-- The stages of a group in the running step. -/
def stagesNow (s : State) (g : Nat) : List (Nat × List Nat) :=
  groupStages (tablesStep s) (ownAffine s) g

/-- The praline collectives of a group, in the order of R348. -/
def pralineOrder (sc : Score) (g : Nat) : List Nat :=
  let ix := fun (f : CollDecl → Bool) =>
    (sc.colls.zipIdx.filter (fun p => p.1.group == g && f p.1)).map (fun p => p.2)
  ix (fun c => c.kind == 0 && c.alg == 3) ++ ix (fun c => c.kind == 5) ++ ix (fun c => c.kind == 4)

/-- A praline reduction by group, position and round. -/
def pralOf (s : State) (g seq round : Nat) : Option PralRun :=
  s.col.praline.find? (fun r => r.group == g && r.seq == seq && r.round == round)

/-- A praline reduction replaced. -/
def withPral (r : PralRun) (s : State) : State :=
  withCol (fun c => { c with praline := c.praline.map (fun x =>
    if x.group = r.group ∧ x.seq = r.seq ∧ x.round = r.round then r else x) }) s

/-- The peers of a stage: ordinal and affine address. -/
def pralPeers (s : State) (r : PralRun) (stage : Nat) : List (Nat × Nat) :=
  match (stagesNow s r.group)[stage]? with
  | some st => stagePeers st (ownAffine s)
  | none => []

/-- The dimension of a stage. -/
def pralDim (s : State) (r : PralRun) (stage : Nat) : Nat :=
  match (stagesNow s r.group)[stage]? with
  | some st => st.1
  | none => 0

/-- The heard field of a stage: the digits of the peers whose word is held (R344). -/
def heardBits (s : State) (r : PralRun) (stage : Nat) : Nat :=
  (r.words.filter (fun w => w.1 == stage)).foldl (fun n w => n ||| 2 ^ digit (pralDim s r stage) w.2.1) 0

/-- The praline key of a round (R457): of the running step with its replays so far, or of the next one. -/
def roundKey (s : State) (round : Nat) : W256 :=
  if s.ex.step.running ∧ round = roundOf s then pralineKey s.fab.parcelKey s.ex.step.num s.ex.step.replays
  else pralineKey s.fab.parcelKey s.ex.nextStep 0

/-- The member's word of a stage, in clear. -/
def pralWord (s : State) (r : PralRun) (stage : Nat) : PralFields :=
  ⟨r.op, r.seq, r.group, stage, r.round, heardBits s r stage, 0, at_ 0 stage r.values⟩

/-- The transmit lanes in service to an address in a dimension: port and colour. -/
def peerLanes (s : State) (k a : Nat) : List (Nat × Nat) :=
  (List.range 32).filterMap (fun p =>
    match assignment s p, colourTo s p a with
    | some x, some c => if x.1 = k ∧ (txOf s p c).state = .inService then some (p, c) else none
    | _, _ => none)

/-- A peer is reached on a peer lane alone: an in-service lane, no override, no exception entry (R348). -/
def pralDirect (s : State) (k : Nat) (a : Nat) : Bool :=
  resolved s a == a && !(peerLanes s k a).isEmpty
    && !s.fab.exceptions.any (fun e =>
        let v := e.2.toNat
        bits 60 58 v == k && bits 57 54 v == digit k a
          && (List.range 5).all (fun j => !(bits 44 40 v).testBit j || digit j a == digit j (bits 19 0 v)))

/-- A word that waits on a lane, sent in its next flit (R343). -/
def wordOnLane (w : W128) (s : State) (lane : Nat × Nat) : State :=
  let l := txOf s lane.1 lane.2
  pumpLane lane.1 lane.2 (withTx lane.1 lane.2 { l with words := l.words ++ [w] } s)

/-- The lanes that a word takes to a peer (R346): its first send every one in service, a later one the next in
rotation. -/
def pralLanes (s : State) (r : PralRun) (stage a : Nat) (first : Bool) : List (Nat × Nat) :=
  let ls := peerLanes s (pralDim s r stage) a
  if first then ls else (ls.drop (r.turn % max 1 ls.length)).take 1

/-- A send is of a reduction's stage to a peer. -/
def isSend (r : PralRun) (stage a : Nat) (x : PralSend) : Bool :=
  x.group == r.group && x.seq == r.seq && x.round == r.round && x.stage == stage && x.peer == a

/-- A send noted. -/
def noteSend (r : PralRun) (stage a : Nat) (s : State) : State :=
  withCol (fun c => { c with
    sends := c.sends.filter (fun x => !isSend r stage a x) ++ [⟨r.group, r.seq, r.round, stage, a, s.pwr.time⟩] }) s

/-- 1 µs has passed since a stage's word was last sent to a peer. -/
def sendDue (s : State) (r : PralRun) (stage a : Nat) : Bool :=
  !s.col.sends.any (fun x => isSend r stage a x && s.pwr.time < x.time + 1000)

/-- A stage's word sent to one peer: encrypted on the lane, or in clear in a collective chunk parcel, which its own
tag protects (R345, R346, R348). -/
def sendPral (r : PralRun) (stage a : Nat) (first : Bool) (s : State) : State :=
  let f := pralWord s r stage
  let s := noteSend r stage a s
  if pralDirect s (pralDim s r stage) a then
    (pralLanes s r stage a first).foldl (wordOnLane (sealPral r.key (nodeAddr s) f)) s
  else
    let d := octets16 (pralPack f)
    sendParcel a 2 3 (.coll r.coll) (chunkKf 3 r.coll stage r.round 0 d) d (bump 0x7020 7 1 s)

/-- A stage's word sent to every peer of it. -/
def sendStage (r : PralRun) (stage : Nat) (s : State) : State :=
  (pralPeers s r stage).foldl (fun s p => sendPral r stage p.2 true s) s

/-- Two values combined (R347). -/
def pralOp (op : Nat) (a b : W64) : W64 :=
  if op = 1 then a ||| b
  else if op = 3 then (max32 (a.setWidth 32) (b.setWidth 32)).setWidth 64
  else (add32 (a.setWidth 32) (b.setWidth 32)).setWidth 64

/-- The values of a stage in ascending ordinal order, the member's own at its own; none while a word is
missing. -/
def stageValues (s : State) (r : PralRun) (stage : Nat) : Option (List W64) :=
  match (stagesNow s r.group)[stage]? with
  | none => none
  | some st =>
    st.2.mapM (fun v =>
      let a := setDigit st.1 v (ownAffine s)
      if a = ownAffine s then some (at_ 0 stage r.values)
      else (r.words.find? (fun w => w.1 == stage && w.2.1 == a)).map (fun w => w.2.2))

/-- Stages completed while their words are held: combined, and the next stage's word sent. fuel: the
stages left. -/
def pralAdvance : Nat → PralRun → State → State
  | 0, _, s => s
  | n + 1, r, s =>
    if r.result.isSome then s
    else match stageValues s r r.stage with
      | none => s
      | some [] => s
      | some (v :: vs) =>
        let x := vs.foldl (pralOp r.op) v
        if (stagesNow s r.group).length ≤ r.stage + 1 then
          bump 0x7020 5 1 (withPral { r with result := some x } s)
        else
          let r := { r with stage := r.stage + 1, values := put (r.stage + 1) x r.values }
          pralAdvance n r (sendStage r r.stage (withPral r s))

/-- A word stored in its reduction, and what it says this member's word reached; a new word is answered
with the member's own, which now carries its sender's bit (R346). -/
def storeWord (r : PralRun) (src : Nat) (w : PralFields) (s : State) : State :=
  match (pralPeers s r w.stage).find? (fun p => resolved s p.2 == src) with
  | none => s
  | some p =>
    let k := pralDim s r w.stage
    let d := digit k p.2
    let old := at_ 0 w.stage r.heardUs
    let heard := if w.heard.testBit (digit k (ownAffine s)) then old ||| 2 ^ d
      else if old.testBit d then old - 2 ^ d else old
    let fresh := !r.words.any (fun x => x.1 == w.stage && x.2.1 == p.2)
    let r := { r with heardUs := put w.stage heard r.heardUs
                      words := if fresh then r.words ++ [(w.stage, p.2, w.value)] else r.words }
    let s := withPral r s
    let s := if fresh ∧ w.stage ≤ r.stage then sendPral r w.stage p.2 false s else s
    pralAdvance 6 r s

/-- Words that came before their reduction started, given to it. -/
def absorbEarly (g seq round : Nat) (s : State) : State :=
  let mine := fun (w : Nat × PralFields) => w.2.group == g && w.2.seq == seq && w.2.round == round
  let ws := s.col.earlyPraline.filter mine
  let s := withCol (fun c => { c with earlyPraline := c.earlyPraline.filter (fun w => !mine w) }) s
  ws.foldl (fun s w => match pralOf s g seq round with
    | some r => storeWord r w.1 w.2 s
    | none => s) s

/-- A reduction started with the member's value (R348, R350). A group of one member has its result at
once. -/
def startPraline (sc : Score) (coll op : Nat) (value : W64) (s : State) : State :=
  match sc.colls[coll]? with
  | none => s
  | some c =>
    let seq := ((pralineOrder sc c.group).idxOf? coll).getD 0
    let r : PralRun := { coll := coll, group := c.group, round := roundOf s, seq := seq, op := op, stage := 0
                         values := [(0, value)], key := roundKey s (roundOf s) }
    let s := withCol (fun x => { x with praline := x.praline.filter (fun y =>
      ¬(y.group = c.group ∧ y.seq = seq ∧ y.round = roundOf s)) ++ [r] }) s
    if (stagesNow s c.group).isEmpty then bump 0x7020 5 1 (withPral { r with result := some value } s)
    else absorbEarly c.group seq (roundOf s) (sendStage r 0 s)

/-- The result of a collective's reduction in the running step. -/
def pralResult (s : State) (coll : Nat) : Option W64 :=
  (s.col.praline.find? (fun r => r.coll == coll && r.round == roundOf s)).bind (fun r => r.result)

/-- Earlier praline reductions of the group are complete or have no part in the step, and fewer than four other groups
have one in flight (R348). -/
def pralFree (sc : Score) (skip : Nat → Bool) (s : State) (coll : Nat) : Bool :=
  match sc.colls[coll]? with
  | none => false
  | some c =>
    ((pralineOrder sc c.group).takeWhile (fun n => n ≠ coll)).all (fun n => (pralResult s n).isSome || skip n)
      && ((s.col.praline.filter (fun r => r.result.isNone && r.group ≠ c.group && r.round == roundOf s)).map
            (fun r => r.group)).eraseDups.length < 4

/-- A word in clear, given to its reduction; a word of a reduction not yet started here is kept if its round is this one
or the next (R348). -/
def takeFields (src : Nat) (w : PralFields) (s : State) : State :=
  match pralOf s w.group w.seq w.round with
  | some r => storeWord r src w s
  | none =>
    if (s.ex.step.running ∧ w.round = roundOf s) ∨ w.round = s.ex.nextStep % 64 then
      withCol (fun c => { c with earlyPraline := c.earlyPraline ++ [(src, w)] }) s
    else s

/-- A word whose tag fails (R345): counted, and reported once per group and round. -/
def badWord (src : Nat) (w : PralFields) (s : State) : State :=
  let s := bump 0x7020 7 1 s
  if s.col.alerted.contains (w.group, w.round) then s
  else raise 3 0x0023 (leBytes 4 1 ++ leBytes 4 src)
    (withCol (fun c => { c with alerted := c.alerted ++ [(w.group, w.round)] }) s)

/-- A word received (R345, R347, R348): one of a parcel is counted, one of a lane decrypted and authenticated. A
reserved operation says nothing. -/
def takeWord (w : Praline) (s : State) : State :=
  let f := pralFields w.word
  if f.op = 0 then s
  else if w.byParcel then takeFields w.src f (bump 0x7020 7 1 s)
  else
    let key := match pralOf s f.group f.seq f.round with
      | some r => r.key
      | none => roundKey s f.round
    match openPral key w.src w.word with
    | some g => takeFields w.src g s
    | none => badWord w.src f s

/-- The praline lane works: a score is installed, Run or Still, out of reset, the ring clock there (R481,
R484). -/
def pralWorks (s : State) : Bool :=
  s.ex.score.isSome && !s.pwr.inReset && (s.pwr.cur == .run || s.pwr.cur == .still) && s.ring.clock

/-- One reduction's repetitions: each stage sent so far, to each peer that has not heard it and was last sent it 1 µs
ago or more (R346). -/
def repeatRun (s : State) (r : PralRun) : State :=
  let due := (List.range (r.stage + 1)).flatMap (fun st =>
    ((pralPeers s r st).filter (fun p =>
      !(at_ 0 st r.heardUs).testBit (digit (pralDim s r st) p.2) && sendDue s r st p.2)).map (fun p => (st, p.2)))
  if due.isEmpty then s
  else
    let r := { r with turn := r.turn + 1 }
    due.foldl (fun s x => sendPral r x.1 x.2 false (bump 0x7020 6 1 s)) (withPral r s)

/-- PRALINE_REPEAT (R346): 1 µs after the last send. -/
def execPralineRepeat (s : State) : Out :=
  let s := fresh s
  .next (if pralWorks s then s.col.praline.foldl repeatRun s else s)

end Sys2Proof.Machine
end

