-- ==== Sys2Proof/Machine/Collectives.lean ====
section
/-! DEFINITION. Collectives (R326 to R341, R351, R361): launching, chunks, stages, examination, completion,
the tee into glaze copies, and ranges fetched again.

Choices beyond the manual's plain words (notes/assumptions): DEDUCED 86, 88, 89, 92; DESIGN CHOICE 9, 87, 142,
143, 148, 160. -/

namespace Sys2Proof.Machine

/-- A collective with what its stages need: its number and record, the group's stages, the member's affine
address, elements, element size, and how many stages scatter. -/
structure CollCtx where
  sc : Score
  n : Nat
  c : CollDecl
  sts : List (Nat × List Nat)
  self : Nat
  e : Nat
  esize : Nat
  j : Nat
deriving DecidableEq, Repr

/-- The bytes of a top-k region: rows/64 areas of 512k bytes (R325). -/
def topkBytes (c : CollDecl) : Nat := bits 22 0 c.count / 64 * (512 * bits 31 24 c.count)

/-- A collective of the running step. -/
def collCtx (sc : Score) (s : State) (n : Nat) : Option CollCtx :=
  (sc.colls[n]?).map (fun c =>
    let sts := stagesNow s c.group
    let self := ownAffine s
    let es := collEsize sc c
    let j := match c.kind with
      | 0 => ((scatterFrom c.alg es (crossover s.regs) self (0, c.count) sts).takeWhile id).length
      | 6 => 0
      | _ => sts.length
    ⟨sc, n, c, sts, self, if c.kind = 6 then topkBytes c else c.count, if c.kind = 6 then 1 else es, j⟩)

/-- The address of the source region. -/
def srcAddr (x : CollCtx) : Nat := match collDesc x.sc x.c.src with | some d => d.addr | none => 0

/-- The address of the destination region. -/
def dstAddr (x : CollCtx) : Nat := match collDesc x.sc x.c.dst with | some d => d.addr | none => 0

/-- R_i of a member: the range before stage i, over the stages that scatter (R329, R332). -/
def rangeOf (x : CollCtx) (a i : Nat) : Nat × Nat := rangeAt a (0, x.e) (min i x.j) x.sts

/-- The peers of a stage. -/
def peersAt (x : CollCtx) (i : Nat) : List (Nat × Nat) :=
  match x.sts[i]? with
  | some st => stagePeers st x.self
  | none => []

/-- The number of members along a stage, and this member's ordinal. -/
def stageSize (x : CollCtx) (i : Nat) : Nat × Nat :=
  match x.sts[i]? with
  | some st => (st.2.length, ordinal st x.self)
  | none => (1, 0)

/-- The range that a peer sends in a stage (0 to 4 reduce, 5 + i gather), first element and count. -/
def incoming (x : CollCtx) (stage peer : Nat) : Nat × Nat :=
  if 5 ≤ stage then rangeOf x peer (stage - 5 + 1)
  else
    let r := rangeOf x x.self stage
    if stage < x.j then piece r (stageSize x stage).1 (stageSize x stage).2 else r

/-- The range that the member sends to the peer of an ordinal in a stage. -/
def outgoing (x : CollCtx) (stage q : Nat) : Nat × Nat :=
  if 5 ≤ stage then rangeOf x x.self (stage - 5 + 1)
  else
    let r := rangeOf x x.self stage
    if stage < x.j then piece r (stageSize x stage).1 q else r

/-- A collective's run. -/
def runOf (s : State) (n : Nat) : CollRun := at_ {} n s.col.runs

/-- A collective's run replaced. -/
def withRun (n : Nat) (r : CollRun) (s : State) : State :=
  withCol (fun c => { c with runs := put n r c.runs }) s

/-- The engine that runs a collective, as a unit of memory (R217, R336). -/
def engineOfColl (s : State) (x : CollCtx) : Agent := { collUnit s x.c.engine with unit := x.n }

/-- The unit that moves remote state parcels' data: the collective partition, class K3 (R217, R234, R367). Which die's
router it is is the model's choice (notes/assumptions/143.md). -/
def stateUnit (s : State) : Agent := { routerUnit s 0 with cls := 3 }

/-- A collective's memory is within reach of its partition (R240). -/
def collOpen (s : State) (x : CollCtx) : Bool :=
  !shutOut s (rg s 0x4005 1) [(srcAddr x, x.e * x.esize), (dstAddr x, x.e * x.esize)]

/-- Bytes cut into chunks of 4,096 (R333): offset within the range, data. -/
def cutChunks : Nat → Nat → Bytes → List (Nat × Bytes)
  | 0, _, _ => []
  | n + 1, o, b => if b.isEmpty then [] else (o, b.take 4096) :: cutChunks n (o + 4096) (b.drop 4096)

/-- The chunk subtype of a stage. -/
def chunkType (x : CollCtx) (stage : Nat) : Nat := if x.c.kind = 6 then 2 else if 5 ≤ stage then 1 else 0

/-- A range sent to one peer from a region: read by the engine, its chunks parcels of class K2. -/
def sendRange (x : CollCtx) (stage base peer : Nat) (r : Nat × Nat) (s : State) : State :=
  let a := base + r.1 * x.esize
  let n := r.2 * x.esize
  (cutChunks (n / 4096 + 1) (r.1 * x.esize) (bytesAt s a n)).foldl (fun s p =>
    sendParcel peer 2 3 (.coll x.n) (chunkKf (chunkType x stage) x.n stage (roundOf s) p.1 p.2) p.2 s)
    (readRange (engineOfColl s x) none a n s)

/-- What the member sends in a stage: at reduce stage 0 of kinds 0 and 1 and in a top-k merge from the
source, else from the destination (R330, R331, R351). -/
def sendAll (x : CollCtx) (stage : Nat) (s : State) : State :=
  let base := if stage = 0 then srcAddr x else dstAddr x
  (peersAt x (stage % 5)).foldl (fun s p => sendRange x stage base p.2 (outgoing x stage p.1) s) s

/-- A value rounded once into a format, ties to even, overflow to an infinity (R334). -/
def packNum (code : Nat) (v : Num) : Nat :=
  let f := fmtOf code
  match v with
  | .nan => f.nan
  | .inf n => f.inf + if n then 2 ^ (f.width - 1) else 0
  | .fin n m e => min (encodeMag f.mb f.emin m e) f.inf + if n then 2 ^ (f.width - 1) else 0

/-- Two elements of a reduction (R334): the exact sum rounded into the format, or the greater by the rules
of VMAX. -/
def reduceElem (fmt op a b : Nat) : Nat :=
  if op = 1 then
    packNum fmt (ofW32 (max32 (toW32 (decodeFmt fmt a)) (toW32 (decodeFmt fmt b))))
  else packNum fmt (numAdd (decodeFmt fmt a) (decodeFmt fmt b))

/-- The elements of a byte string. -/
def elemsOf (e : Nat) : Nat → Bytes → List Nat
  | 0, _ => []
  | n + 1, b => leNat (b.take e) :: elemsOf e n (b.drop e)

/-- Two byte strings of elements reduced. -/
def reduceBytes (fmt op e : Nat) (a b : Bytes) : Bytes :=
  (List.zipWith (reduceElem fmt op) (elemsOf e (b.length / e) a) (elemsOf e (b.length / e) b)).flatMap (leBytes e)

/-- The engine adds in ascending ordinal order (R335): ordered mode, kinds 0 and 1. -/
def inOrder (s : State) (x : CollCtx) : Bool := s.ex.ordered && x.c.kind ≤ 1

/-- The ordinal of a chunk's sender in a stage. -/
def senderAt (x : CollCtx) (s : State) (stage src : Nat) : Option (Nat × Nat) :=
  (peersAt x (stage % 5)).find? (fun p => resolved s p.2 == src)

/-- A chunk lies in the range that its sender sends in its stage. -/
def chunkFits (x : CollCtx) (s : State) (c : Chunk) : Bool :=
  match senderAt x s c.stage c.src with
  | none => false
  | some p =>
    let r := incoming x c.stage p.2
    c.subtype == chunkType x c.stage && r.1 * x.esize ≤ c.offset
      && c.offset + c.data.length ≤ (r.1 + r.2) * x.esize && c.data.length % max 1 x.esize == 0

/-- A chunk's granules returned, if they are still owed. -/
def returnHeld (h : HeldChunk) (s : State) : State := if h.owed then returnChunk h.chunk s else s

/-- A good chunk of the current stage used at once: gathered data written, a contribution added, and then its
granules returned. Chunks of ordered reductions and top-k lists go to the staging region until their stage is
complete (R335, R351). -/
def useChunk (x : CollCtx) (h : HeldChunk) (s : State) : State :=
  let c := h.chunk
  let a := dstAddr x + c.offset
  let u := engineOfColl s x
  let s :=
    if x.c.kind = 6 ∨ (c.stage < 5 ∧ inOrder s x) then
      withRun x.n { runOf s x.n with held := (runOf s x.n).held ++ [{ h with owed := false, staged := true }] } s
    else if 5 ≤ c.stage then storeBytes u a c.data s
    else
      storeBytes u a (reduceBytes x.c.format x.c.op x.esize (bytesAt s a c.data.length) c.data)
        (readRange u none a c.data.length s)
  returnHeld h s

/-- The members of a collective's group whose shares meet a byte range of its destination, each with the
range it owns of it (R341). -/
def ownersOf (s : State) (x : CollCtx) (off len : Nat) : List (Nat × Nat × Nat) :=
  match regularGroup (tablesStep s) x.self x.c.group with
  | none => []
  | some sets =>
    (productFrom 0 sets).filterMap (fun a =>
      let r := shareOf x.sts a x.e
      let lo := max off (r.1 * x.esize)
      let hi := min (off + len) ((r.1 + r.2) * x.esize)
      if lo < hi then some (a, lo, hi - lo) else none)

/-- The request for a range of a collective's destination (R366). -/
def rangeKf (s : State) (n off len : Nat) : Nat :=
  remoteKf ⟨0, 4, 0, 0, 0, 0, 0, n, off, len, 0, scoreTag s, [], true, false⟩

/-- A range of a destination asked for again from its owners (R341, R366). -/
def refetch (x : CollCtx) (off len : Nat) (s : State) : State :=
  let want := (ownersOf s x off len).map (fun o => (o.2.1, o.2.2))
  let s := withRun x.n { runOf s x.n with refetch := (runOf s x.n).refetch ++ want } (bump 0x7020 8 1 s)
  (ownersOf s x off len).foldl (fun s o => sendParcel o.1 4 1 .state (rangeKf s x.n o.2.1 o.2.2) [] s) s

/-- A chunk that fails its CRC or its parcel's tag (R339, R341): counted; before the verdict point a transfer error,
after it a late error that names the range. -/
def badChunk (c : Chunk) (s : State) : State :=
  let s := withRun c.coll { runOf s c.coll with inError := true } (bump 0x7020 3 1 s)
  if s.ex.step.phase = .open then withStep (fun t => { t with transferErr := true }) s
  else
    faultEvent 0x03500002 9
      (leBytes 2 c.coll ++ zeros 6 ++ leBytes 8 c.offset ++ leBytes 4 c.data.length)
      (withStep (fun t => { t with lateErr := true }) s)

/-- A chunk's place in its collective received, whether its data was used or not. -/
def noteReceived (n : Nat) (c : Chunk) (s : State) : State :=
  withRun n { runOf s n with recv := (runOf s n).recv ++ [(c.stage, c.src, c.offset, c.data.length)] } s

/-- A chunk of the current stage: used when good, and received either way; a failed one's gathered range is fetched
again after the verdict point. -/
def applyChunk (x : CollCtx) (s : State) (h : HeldChunk) : State :=
  if !chunkFits x s h.chunk then returnHeld h s
  else if !h.failed then noteReceived x.n h.chunk (useChunk x h s)
  else
    let s := noteReceived x.n h.chunk (returnHeld h s)
    if 5 ≤ h.chunk.stage ∧ s.ex.step.phase ≠ .open then refetch x h.chunk.offset h.chunk.data.length s else s

/-- The bytes received from a peer in a stage. -/
def gotFrom (r : CollRun) (stage src : Nat) : Nat :=
  (r.recv.filter (fun v => v.1 == stage && v.2.1 == src)).foldl (fun n v => n + v.2.2.2) 0

/-- Every expected piece of the current stage has been received (R330). -/
def stageDone (x : CollCtx) (s : State) : Bool :=
  let r := runOf s x.n
  (peersAt x (r.stage % 5)).all (fun p =>
    (incoming x r.stage p.2).2 * x.esize ≤ gotFrom r r.stage (resolved s p.2))

/-! ## Sums in order, and lists merged -/

/-- The byte that a peer contributed at an offset, if its chunk was good. -/
def heldAt (r : CollRun) (stage src off : Nat) : Option Byte :=
  (r.held.find? (fun h => h.staged && h.chunk.stage == stage && h.chunk.src == src && h.chunk.offset ≤ off
    && off < h.chunk.offset + h.chunk.data.length)).bind (fun h => h.chunk.data[off - h.chunk.offset]?)

/-- n bytes that a peer contributed at an offset; none where a chunk failed. -/
def heldBytes (r : CollRun) (stage src off n : Nat) : Option Bytes :=
  (List.range n).mapM (fun i => heldAt r stage src (off + i))

/-- Every member of a stage in ascending ordinal order, this one included. -/
def stageMembers (x : CollCtx) (stage : Nat) : List Nat :=
  match x.sts[stage]? with
  | some st => st.2.map (fun v => setDigit st.1 v x.self)
  | none => []

/-- One element of an ordered stage: the contributions added in ascending ordinal order (R335). -/
def orderedElem (x : CollCtx) (s : State) (stage i : Nat) : Nat :=
  let o := i * x.esize
  let own := leNat (bytesAt s (dstAddr x + o) x.esize)
  let vs := (stageMembers x stage).filterMap (fun a =>
    if a = x.self then some own
    else (heldBytes (runOf s x.n) stage (resolved s a) o x.esize).map leNat)
  match vs with
  | [] => own
  | v :: t => t.foldl (reduceElem x.c.format x.c.op) v

/-- An ordered stage's sums written. -/
def orderedSums (x : CollCtx) (stage : Nat) (s : State) : State :=
  let r := incoming x stage x.self
  let a := dstAddr x + r.1 * x.esize
  storeBytes (engineOfColl s x) a
    ((List.range r.2).flatMap (fun i => leBytes x.esize (orderedElem x s stage (r.1 + i))))
    (readRange (engineOfColl s x) none a (r.2 * x.esize) s)

/-- An entry (value, position) ranks ahead of another (R351). dir: false largest first. -/
def listAhead (dir : Bool) (a b : Nat × Nat) : Bool :=
  let missing := fun (p : Nat × Nat) => p.2 == 0xFFFFFFFF && p.1 == (if dir then 0x7F800000 else 0xFF800000)
  let w := fun (p : Nat × Nat) => BitVec.ofNat 32 p.1
  if missing a || missing b then !missing a && missing b
  else if isNan32 (w a) || isNan32 (w b) then
    (if isNan32 (w a) && isNan32 (w b) then a.2 < b.2 else isNan32 (w b))
  else if numLt (ofW32 (w a)) (ofW32 (w b)) then dir
  else if numLt (ofW32 (w b)) (ofW32 (w a)) then !dir
  else a.2 < b.2

/-- An entry placed by rank. -/
def insertRank (dir : Bool) (p : Nat × Nat) : List (Nat × Nat) → List (Nat × Nat)
  | [] => [p]
  | q :: t => if listAhead dir p q then p :: q :: t else q :: insertRank dir p t

/-- The offset of rank r of a row in a top-k region: of its value, and of its position (R116). -/
def topkOffs (k row r : Nat) : Nat × Nat :=
  let base := row / 64 * (512 * k)
  (base + 4 * (row % 64 * k + r), base + 256 * k + 4 * (row % 64 * k + r))

/-- One row of a merge: the first k of every member's entries. -/
def mergedRow (x : CollCtx) (s : State) (stage row : Nat) : List (Nat × Nat) :=
  let k := bits 31 24 x.c.count
  let own := fun o => some (bytesAt s (dstAddr x + o) 4)
  let of := fun (f : Nat → Option Bytes) => (List.range k).filterMap (fun r =>
    match f (topkOffs k row r).1, f (topkOffs k row r).2 with
    | some v, some p => some (leNat v, leNat p)
    | _, _ => none)
  let all := of own ++ (peersAt x stage).flatMap (fun p =>
    of (fun o => heldBytes (runOf s x.n) stage (resolved s p.2) o 4))
  (all.foldr (insertRank (x.c.count.testBit 23)) []).take k

/-- A merge stage's lists written. -/
def mergeLists (x : CollCtx) (stage : Nat) (s : State) : State :=
  let k := bits 31 24 x.c.count
  let u := engineOfColl s x
  let rows := List.range (bits 22 0 x.c.count)
  let new := rows.map (fun row => (row, mergedRow x s stage row))
  new.foldl (fun s p => p.2.zipIdx.foldl (fun s e =>
    storeBytes u (dstAddr x + (topkOffs k p.1 e.2).1) (leBytes 4 e.1.1)
      (storeBytes u (dstAddr x + (topkOffs k p.1 e.2).2) (leBytes 4 e.1.2) s)) s)
    (readRange u none (dstAddr x) (topkBytes x.c) s)

/-! ## Completion -/

/-- A bucket names the collective. -/
def isBucket (sc : Score) (n : Nat) : Bool := sc.buckets.any (fun b => b.coll == n)

/-- An infinity or NaN among elements of a format (R147). -/
def anyBad (fmt : Nat) (vs : List Nat) : Bool := vs.any (fun v => !numIsFin (decodeFmt fmt v))

/-- The member's result examined (R338): its bucket is verified. -/
def examine (x : CollCtx) (s : State) : State :=
  let r := rangeOf x x.self x.sts.length
  let a := dstAddr x + r.1 * x.esize
  let n := r.2 * x.esize
  let bad := anyBad x.c.format (elemsOf x.esize r.2 (bytesAt s a n))
  withRun x.n { runOf s x.n with examined := true, overflow := bad } (readRange (engineOfColl s x) none a n s)

/-- The update count after the running step's commit: one more, or what was written in the step, which takes effect at
the next step start (R142, R144). -/
def updatesAfter (s : State) : Nat := if s.ex.force.written then rg s 0x3031 3 else rg s 0x3031 3 + 1

/-- The update count after the running step's commit is a multiple of N (R363). -/
def secureStep (s : State) : Bool := updatesAfter s % max 1 (rg s 0x8000 1) == 0

/-- The blocks of 4 KiB of a byte range of memory. -/
def blocksAt (s : State) (a n : Nat) : List (Nat × Bytes) :=
  (List.range (ceilDiv n 4096)).map (fun b => (b, bytesAt s (a + 4096 * b) (min 4096 (n - 4096 * b))))

/-- Two copies hold the same thing. -/
def sameCopy (a b : HeldCopy) : Bool :=
  a.current == b.current && a.subtype == b.subtype && a.owner == b.owner && a.entry == b.entry
    && a.stripe == b.stripe

/-- A copy kept (R360): a current copy replaces the last; of secure copies the two latest complete points
and the one being written stay. -/
def keepCopy (c : HeldCopy) (l : List HeldCopy) : List HeldCopy :=
  let rest := l.filter (fun x => !(sameCopy x c && (x.current || x.generation == c.generation)))
  if c.current || !c.complete then rest ++ [c]
  else
    let same := rest.filter (fun x => sameCopy x c && x.complete)
    let drop := (same.take (same.length - 1)).map (fun x => x.generation)
    rest.filter (fun x => !(sameCopy x c && x.complete && drop.contains x.generation)) ++ [c]

/-- The stripes of an owner's share of a glazed collective that this member holds (R359). -/
def heldStripes (s : State) (x : CollCtx) (t owner : Nat) : List Nat :=
  let h := rg s 0x8000 2
  let l := holderList x.sts owner
  let r := shareOf x.sts owner x.e
  (List.range (ceilDiv (r.2 * x.esize) stripeBytes)).filter (fun i =>
    (List.range h).any (fun k => holderOf l h t i k == x.self))

/-- The tee (R361): on a committed step the stripes held of each owner go into their current copies, and at
a secure step into the secure copies of that step as well. -/
def tee (x : CollCtx) (t : Nat) (s : State) : State :=
  (holderList x.sts x.self).eraseDups.foldl (fun s owner =>
    (heldStripes s x t owner).foldl (fun s i =>
      let r := shareOf x.sts owner x.e
      let a := dstAddr x + r.1 * x.esize + i * stripeBytes
      let n := min stripeBytes (r.2 * x.esize - i * stripeBytes)
      let cp : HeldCopy := ⟨true, 0, (affineRank s.regs owner).getD 0, t, i, s.ex.step.num, blocksAt s a n,
        true, poisonedIn s a n⟩
      let held := keepCopy cp s.res.held
      let held := if secureStep s then keepCopy { cp with current := false } held else held
      readRange (engineOfColl s x) none a n { s with res := { s.res with held := held } }) s) s

/-- The glazed entries that name a collective. -/
def glazedEntries (s : State) (n : Nat) : List Nat :=
  (List.range 64).filter (fun t => glazedColl s.regs t == some n)

/-- What a collective's output tokens wait for has happened (R59): its writes are acknowledged, and every peer has
returned the granules of the parcels formed for it. -/
def tokensReady (s : State) (x : CollCtx) : Bool :=
  writesDone s (engineOfColl s x)
    && (runOf s x.n).marks.all (fun m => s.fab.out.any (fun c =>
      c.peer == m.1 && c.stream == .coll x.n && m.2 ≤ c.returned))

/-- Output tokens that are due sent once, by the collective engine, endpoint 0x200 of its base die. -/
def settleTokens (x : CollCtx) (s : State) : State :=
  let r := runOf s x.n
  if !r.tokensDue || r.tokensSent || !tokensReady s x then s
  else deliver x.sc x.c.engine 0x200 x.c.outputs (withRun x.n { r with tokensSent := true } s)

/-- A collective's output tokens become due, once for the step. -/
def tokensFall (x : CollCtx) (s : State) : State :=
  let marks := (s.fab.out.filter (fun c => c.stream == .coll x.n)).map (fun c => (c.peer, c.formed))
  settleTokens x (withRun x.n { runOf s x.n with tokensDue := true, marks := marks } s)

/-- Granules returned for the chunks that a collective will not use, and those chunks gone. -/
def dropHeld (n : Nat) (s : State) : State :=
  let hs := (runOf s n).held
  hs.foldl (fun s h => returnHeld h s) (withRun n { runOf s n with held := [] } s)

/-- A collective completes at the member (R338, R361); the gather of a restore sends no tokens (R370). -/
def completeColl (x : CollCtx) (s : State) : State :=
  let s := dropHeld x.n (withRun x.n { runOf s x.n with complete := true } s)
  if s.res.restore.isSome then s
  else
    let s := bump 0x7020 1 1 s
    let s := if s.ex.step.commit = some true then (glazedEntries s x.n).foldl (fun s t => tee x t s) s else s
    tokensFall x s

/-- The chunks held for a collective's current stage that are not staged, used. -/
def useHeld (x : CollCtx) (s : State) : State :=
  let st := (runOf s x.n).stage
  let mine := fun (h : HeldChunk) => h.chunk.stage == st && !h.staged
  let hs := (runOf s x.n).held.filter mine
  hs.foldl (applyChunk x) (withRun x.n { runOf s x.n with held := (runOf s x.n).held.filter (fun h => !mine h) } s)

/-- A stage entered: the member sends, and chunks held for the stage are used. -/
def enterStage (x : CollCtx) (stage : Nat) (s : State) : State :=
  useHeld x (sendAll x stage (withRun x.n { runOf s x.n with stage := stage } s))

/-- The last reduce stage is complete: the result is examined and the gather stages follow for the stages
that scattered (R332, R338). -/
def afterReduce (x : CollCtx) (s : State) : State :=
  let s := if x.c.kind ≤ 1 then examine x s else s
  if x.c.kind = 0 ∧ 0 < x.j then enterStage x (5 + (x.j - 1)) s
  else completeColl x s

/-- The stage complete; what follows it. -/
def nextStage (x : CollCtx) (s : State) : State :=
  let st := (runOf s x.n).stage
  let s := if st < 5 ∧ inOrder s x then orderedSums x st s else if x.c.kind = 6 then mergeLists x st s else s
  if st < 5 then
    (if st + 1 < x.sts.length then enterStage x (st + 1) s else afterReduce x s)
  else if st = 5 then completeColl x s
  else enterStage x (st - 1) s

/-- Stages passed while they are complete. A collective whose ranges are being fetched again waits for them
(R341). fuel: the stages there can be. -/
def advanceColl (x : CollCtx) : Nat → State → State
  | 0, s => s
  | n + 1, s =>
    let r := runOf s x.n
    if r.started && !r.complete && r.refetch.isEmpty && stageDone x s && collOpen s x then
      advanceColl x n (nextStage x s)
    else s

/-! ## Launching -/

/-- The digest of a bucket's source as read at launch (R377). -/
def noteDigest (x : CollCtx) (s : State) : State :=
  let ds := (x.sc.buckets.zipIdx.filter (fun p => p.1.coll == x.n)).map (fun p =>
    (p.2, crc32c (bytesAt s (srcAddr x) (x.e * x.esize))))
  withStep (fun t => { t with digests := ds.foldl (fun m p => put p.1 p.2 m) t.digests }) s

/-- Poison in what a collective reads at its start: an error at the sending member (R339, R379). -/
def checkSource (x : CollCtx) (s : State) : State :=
  match firstPoison s (srcAddr x) (x.e * x.esize) with
  | none => s
  | some a => poisonRead a (bump 0x7020 3 1 (withRun x.n { runOf s x.n with inError := true } s))

/-- The part of the source that the destination takes at the start (R330 to R332, R351). -/
def ownPart (x : CollCtx) : Nat × Nat :=
  if x.c.kind = 2 then shareOf x.sts x.self x.e
  else if 0 < x.j then piece (0, x.e) (stageSize x 0).1 (stageSize x 0).2
  else (0, x.e)

/-- A run started, or started again for a replay; chunks held for it stay. -/
def freshRun (n : Nat) (s : State) : State :=
  let old := runOf s n
  withRun n { started := true, tokensSent := old.tokensSent, held := old.held } s

/-- A region collective run from its source: the staging region's contents are the engine's, the own part is
copied, the first stage entered. -/
def runColl (x : CollCtx) (s : State) : State :=
  let s := checkSource x (noteDigest x (freshRun x.n s))
  let s := match collDesc x.sc x.c.staging with
    | some d => if inOrder s x then forgetRange d.addr (validCount d * elemBytes d) s else s
    | none => s
  let p := ownPart x
  let u := engineOfColl s x
  let a := srcAddr x + p.1 * x.esize
  let s := storeBytes u (dstAddr x + p.1 * x.esize) (bytesAt s a (p.2 * x.esize)) (readRange u none a (p.2 * x.esize) s)
  let s := if x.c.kind = 2 then
      (if x.sts.isEmpty then completeColl x s else enterStage x (5 + (x.sts.length - 1)) s)
    else if x.sts.isEmpty then afterReduce x s
    else enterStage x 0 s
  advanceColl x 12 s

/-- The praline operation of a collective (R344). -/
def pralCode (c : CollDecl) : Nat := if c.op = 2 then 1 else if c.op = 1 then 3 else 2

/-- The value that a collective's source gives the praline lane: FP32, or 64 bits for OR. -/
def pralValue (s : State) (x : CollCtx) : W64 :=
  let v := leNat (bytesAt s (srcAddr x) x.esize)
  if x.c.format = 8 then BitVec.ofNat 64 v else (toW32 (decodeFmt x.c.format v)).setWidth 64

/-- A praline all-reduce that has its result: written in the format, examined, complete (R338, R347). -/
def finishPraline (x : CollCtx) (s : State) : State :=
  match pralResult s x.n with
  | none => s
  | some v =>
    if (runOf s x.n).complete || !(runOf s x.n).started then s
    else
      let d := if x.c.format = 8 then v.toNat else packNum x.c.format (ofW32 (v.setWidth 32))
      let s := storeBytes (engineOfColl s x) (dstAddr x) (leBytes x.esize d) s
      let bad := x.c.format ≠ 8 && anyBad x.c.format [d]
      completeColl x (withRun x.n { runOf s x.n with examined := true, overflow := bad } s)

/-- Every praline all-reduce that has its result, finished. -/
def finishPralines (sc : Score) (s : State) : State :=
  (sc.colls.zipIdx.filter (fun p => p.1.kind == 0 && p.1.alg == 3)).foldl (fun s p =>
    match collCtx sc s p.2 with
    | some x => finishPraline x s
    | none => s) s

/-- A collective of kinds 0, 1, 2, 4 and 6 started. -/
def startColl (x : CollCtx) (s : State) : State :=
  if onPraline x.c then
    let s := checkSource x (noteDigest x (freshRun x.n s))
    finishPralines x.sc (startPraline x.sc x.n (pralCode x.c) (pralValue s x)
      (readRange (engineOfColl s x) none (srcAddr x) x.esize s))
  else runColl x s

/-- A collective's bucket has reached its fill count, or it has none. -/
def fillMet (sc : Score) (s : State) (n : Nat) : Bool :=
  let bs := sc.buckets.zipIdx.filter (fun p => p.1.coll == n)
  bs.isEmpty || bs.any (fun p => p.1.fill ≤ fillCount s p.2)

/-- Earlier praline all-reduces of the group have their result or have retired, and the lane takes the group's
(R327, R348). -/
def pralineTurn (sc : Score) (s : State) (n : Nat) (c : CollDecl) : Bool :=
  !onPraline c || pralFree sc (fun k => (runOf s k).retired) s n

/-- A collective may launch or retire now (R324, R326, R327, R350); the verdict collective starts at the verdict
point alone. -/
def mayLaunch (sc : Score) (s : State) (n : Nat) (c : CollDecl) : Bool :=
  !(runOf s n).started && !(runOf s n).retired && c.kind ≠ 5
    && inputsMet s c.input.toList && fillMet sc s n
    && (!c.gated || s.ex.step.commit.isSome)
    && (c.kind ≠ 4 || s.ex.step.phase == .decided || s.ex.step.phase == .applied)

/-- COLLECTIVE_LAUNCH (R326, R327): a commit-gated collective of a step that does not commit retires without
moving data. -/
def execCollectiveLaunch (coll : Nat) (s : State) : Out :=
  let s := fresh s
  .next (if !stepWorks s || !s.ring.clock then s
    else onScore s (fun sc s =>
      match collCtx sc s coll with
      | none => s
      | some x =>
        if gated s (20 + x.c.engine) || !mayLaunch sc s coll x.c then s
        else if x.c.gated ∧ s.ex.step.commit = some false then
          tokensFall x (dropHeld coll (withRun coll { runOf s coll with retired := true } s))
        else if pralineTurn sc s coll x.c && collOpen s x then startColl x s
        else s))

/-! ## Chunks received -/

/-- A completed reduction whose step may still be replayed: a peer that has begun the replay sends to it already
(R356). -/
def awaitsReplay (s : State) (x : CollCtx) : Bool :=
  (runOf s x.n).complete && x.c.kind ≤ 1 && s.ex.step.phase == .reducing

/-- A chunk of the running step (R333, R334): a praline word goes to its lane; a failed chunk is noted; one for a stage
not yet entered, or whose memory is out of reach, is held. -/
def chunkNow (sc : Score) (h : HeldChunk) (s : State) : State :=
  let s := if h.failed then badChunk h.chunk s else s
  if h.chunk.subtype = 3 then returnHeld h s
  else match collCtx sc s h.chunk.coll with
  | none => returnHeld h s
  | some x =>
    let r := runOf s x.n
    if awaitsReplay s x then withRun x.n { r with held := r.held ++ [h] } s
    else if r.complete || r.retired then returnHeld h s
    else if !r.started || h.chunk.stage ≠ r.stage || !collOpen s x then withRun x.n { r with held := r.held ++ [h] } s
    else advanceColl x 12 (applyChunk x s h)

/-- A chunk received (R333 to R337), whose parcel's tag verified or not: a good praline word goes to its lane; the next
step's chunks are held, with their granules, until it starts. A parcel whose tag failed owes no granules any more. -/
def takeChunk (tagGood : Bool) (c : Chunk) (s : State) : State :=
  onScore (bump 0x7020 2 1 s) (fun sc s =>
    let now := (s.ex.step.running || s.res.restore.isSome) && c.round == roundOf s
    let h : HeldChunk := { chunk := c, owed := tagGood, failed := !(tagGood && crcGood c) }
    if c.subtype = 3 ∧ !h.failed then
      returnHeld h (finishPralines sc (takeWord ⟨c.src, blockOf c.data, true⟩ s))
    else if now then chunkNow sc h s
    else if c.round = s.ex.nextStep % 64 then
      withCol (fun x => { x with early := x.early ++ [h] }) (bump 0x7020 4 1 s)
    else returnHeld h (if h.failed then bump 0x7020 3 1 s else s))

/-- Chunks held for the step that has started, used (R337). -/
def takeEarly (s : State) : State :=
  s.col.early.foldl (fun s h => onScore s (fun sc s => chunkNow sc h s))
    (withCol (fun x => { x with early := [] }) s)

/-- COLLECTIVE_CHUNK (R334): a chunk whose parcel's tag has verified. -/
def execCollectiveChunk (c : Chunk) (s : State) : Out :=
  let s := fresh s
  .next (if s.pwr.inReset || !s.ring.clock then s else takeChunk true c s)

/-- One collective looked at again: chunks whose memory is within reach again used, a stage passed, tokens sent. -/
def reviewColl (x : CollCtx) (s : State) : State :=
  let r := runOf s x.n
  let s := if r.started && !r.complete && collOpen s x then advanceColl x 12 (useHeld x s) else s
  settleTokens x s

/-- Every collective with a run looked at again: after granules have come back, and at a tick. -/
def reviewColls (s : State) : State :=
  onScore s (fun sc s => s.col.runs.foldl (fun s p =>
    match collCtx sc s p.1 with
    | some x => if onPraline x.c then settleTokens x s else reviewColl x s
    | none => s) s)

/-- PRALINE_WORD (R347). -/
def execPralineWord (w : Praline) (s : State) : Out :=
  let s := fresh s
  .next (if pralWorks s then onScore s (fun sc s => finishPralines sc (takeWord w s)) else s)

end Sys2Proof.Machine
end

