-- ==== Sys2Proof/Machine/Verdict.lean ====
section
/-! DEFINITION. The verdict of a step (R145 to R161, R355, R356, R363 to R365, R372 to R378): the verdict
point, the outcome, the loss record, the proof replay, the securing transfer.

Choices beyond the manual's plain words (notes/assumptions): DEDUCED 52, 59, 60; DESIGN CHOICE 143. -/

namespace Sys2Proof.Machine

/-! ## What has retired -/

/-- The crumbs running on any site. -/
def runningCrumbs (s : State) : List Nat := s.sites.flatMap (fun p => (runningOn p.2).map (fun r => r.crumb))

/-- A crumb of the step has retired. -/
def crumbDone (sc : Score) (s : State) (i : Nat) (c : Crumb) : Bool :=
  !(remaining sc s c.half c.core).contains i && !(runningCrumbs s).contains i

/-- A copy job, by its place among its engine's, has retired. -/
def jobDone (sc : Score) (s : State) (i : Nat) (j : CopyJob) : Bool :=
  ((sc.jobs.take i).filter (fun x => x.die == j.die && x.engine == j.engine)).length
    < (engineOf s (engineKey j.die j.engine)).doneJobs

/-- A collective has completed or retired. -/
def collDone (s : State) (n : Nat) : Bool := (runOf s n).complete || (runOf s n).retired

/-- A praline collective of the verdict or the loss has its result. -/
def collFinished (s : State) (n : Nat) (c : CollDecl) : Bool :=
  if c.kind = 4 then s.ex.step.loss.isSome
  else if c.kind = 5 then s.ex.step.phase == .applied
  else collDone s n

/-- All work that precedes commit has retired (R145). -/
def preCommitDone (sc : Score) (s : State) : Bool :=
  let m := postCommit (stepGraph sc)
  let post := fun i => m.getD i false
  sc.crumbs.zipIdx.all (fun p => post p.2 || crumbDone sc s p.2 p.1)
    && sc.jobs.zipIdx.all (fun p => post (sc.crumbs.length + p.2) || jobDone sc s p.2 p.1)
    && sc.streams.zipIdx.all (fun p => (List.range p.1.segments).all (fun k =>
        post (segBase sc p.2 + k) || k < (streamOf s p.2).doneSegs))
    && sc.colls.zipIdx.all (fun p => post (collNode sc p.2) || collFinished s p.2 p.1)

/-- Every bucket of the step is verified (R338). -/
def bucketsVerified (sc : Score) (s : State) : Bool :=
  sc.buckets.all (fun b => (runOf s b.coll).examined || (runOf s b.coll).retired)

/-- All work of the step has retired (R85). -/
def allDone (sc : Score) (s : State) : Bool :=
  sc.crumbs.zipIdx.all (fun p => crumbDone sc s p.2 p.1)
    && sc.jobs.zipIdx.all (fun p => jobDone sc s p.2 p.1)
    && sc.streams.zipIdx.all (fun p => p.1.segments ≤ (streamOf s p.2).doneSegs)
    && sc.colls.zipIdx.all (fun p => collFinished s p.2 p.1)

/-! ## Loss record -/

/-- The outcome codes of R160. -/
def verdictCode : Verdict → Nat
  | .commit => 1
  | .skip => 2
  | .void => 3

/-- The 16 bytes of a loss record (R160). -/
def lossRecord (step : Nat) (loss : W32) (outcome e replays : Nat) : Bytes :=
  (leBytes 16 (step * 2 ^ 64 + loss.toNat * 2 ^ 32 + outcome * 2 ^ 24 + e * 2 ^ 18
    + min replays 15 * 2 ^ 14)).reverse

/-- The step's loss: that of its loss collective, or the value of R159 where the score declares none. -/
def lossValue (sc : Score) (s : State) : Option W32 :=
  if sc.colls.any (fun c => c.kind == 4) then s.ex.step.loss else some 0x7FC00000

/-- The loss record of the running step under an outcome. -/
def recordOf (s : State) (loss : W32) (v : Verdict) : Bytes :=
  lossRecord s.ex.step.num loss (verdictCode v + if s.ex.step.lateErr then 0x80 else 0)
    s.ex.force.scaleExp s.ex.step.replays

/-- The history 0xC001 with a new first record. -/
def pushHistory (lrec : Bytes) (s : State) : State :=
  (List.range 64).foldr (fun k t => withRg 0xC001 (k + 1) (if k = 0 then leNat lrec else rg s 0xC001 k) t) s

/-- The loss reported once the outcome is applied and the loss is final (R160). -/
def reportLoss (sc : Score) (s : State) : State :=
  match s.ex.step.outcome, lossValue sc s with
  | some v, some loss =>
    if s.ex.step.phase ≠ .applied || s.ex.step.lossSent then s
    else
      let lrec := recordOf s loss v
      let s := withStep (fun t => { t with lossSent := true }) s
      let s := withRg 0xC000 1 s.ex.step.num (withRg 0xC000 2 loss.toNat
        (withRg 0xC000 3 (verdictCode v + if s.ex.step.lateErr then 0x80 else 0) s))
      raise 2 0x0003 lrec (pushHistory lrec s)
  | _, _ => s

/-! ## The scale state (R154 to R156) -/

/-- A scale state as the layout of 0x3040:06. -/
def scaleWord (x : ScaleState) : Nat := x.e + x.f * 2 ^ 24 + x.c * 2 ^ 32

/-- The scale state of a word of that layout. -/
def scaleOf (v : Nat) : ScaleState := ⟨bits 5 0 v, bits 47 32 v, bits 31 24 v⟩

/-- The transition of an outcome (R155). -/
def scaleAfter (eMin eMax i : Nat) (v : Verdict) (x : ScaleState) : ScaleState :=
  match v with
  | .commit =>
    if x.c + 1 = i then ⟨if x.e < eMax then x.e + 1 else x.e, 0, 0⟩ else ⟨x.e, x.c + 1, 0⟩
  | .skip => if eMin < x.e then ⟨x.e - 1, 0, 0⟩ else ⟨x.e, 0, x.f + 1⟩
  | .void => x

/-- The module is held at the step's boundary. -/
def holdAtEnd (s : State) : State := withStep (fun t => { t with holdAtBoundary := true }) s

/-- The scale state changed by an outcome; F skips at the floor hold the module (R156). -/
def scaleStep (v : Verdict) (s : State) : State :=
  let x := scaleAfter (rg s 0x3040 3) (rg s 0x3040 4) (rg s 0x3040 2) v s.ex.scale
  if v = .skip ∧ rg s 0x3040 5 ≤ x.f then
    raise 2 0x0005 (leBytes 8 s.ex.step.num) (bump 0xC002 4 1 (holdAtEnd
      { s with ex := { s.ex with scale := { x with f := 0 } } }))
  else { s with ex := { s.ex with scale := x } }

/-! ## Outcomes (R150, R153) -/

/-- The outcome applied: the commit token delivered, the scale transition made, the loss reported (R153 to
R155, R354). A rejection makes it a void that does not hold the module. -/
def applyOutcome (sc : Score) (s : State) : State :=
  match s.ex.step.outcome with
  | none => s
  | some v0 =>
    let v := if s.ex.step.rejected then .void else v0
    let s := withStep (fun t => { t with outcome := some v, phase := .applied, commit := some (v == .commit)
                                         holdAtBoundary := t.holdAtBoundary && !(t.rejected && v0 == .void) }) s
    let s := emit (.commit (v == .commit)) s
    let s := match v with
      | .commit => s
      | .skip => bump 0xC002 1 1 s
      | .void => bump 0xC002 2 1 s
    reportLoss sc (scaleStep v s)

/-- The outcome is held back: a hold-commit in force (R153). -/
def outcomeHeld (s : State) : Bool := s.ex.step.heldFrom.isSome

/-- The held step released: its held time ends, and 0x8010:01 and :03 read all ones (R374). -/
def releaseHeld (accept : Bool) (sc : Score) (s : State) : State :=
  match s.ex.step.heldFrom with
  | none => s
  | some t0 =>
    let s := withStep (fun t => { t with heldFrom := none, heldTime := t.heldTime + (s.pwr.time - t0)
                                         rejected := !accept }) s
    let s := withRg 0x8010 1 (2 ^ 64 - 1) (withRg 0x8010 3 (2 ^ 64 - 1) s)
    let s := { s with res := { s.res with autoHold := false } }
    if s.ex.step.phase = .decided then applyOutcome sc s else s

/-! ## The verdict point (R145 to R149) -/

/-- The sites of the cores that hold crumbs in the step. -/
def crumbSites (sc : Score) (s : State) : List Nat :=
  (sc.crumbs.map (fun c => siteKey c.half (coreSite s c.half c.core))).eraseDups

/-- The indicators captured and cleared (R146): whether any was set. -/
def captureIndicators (sc : Score) (s : State) : Bool × State :=
  let ks := crumbSites sc s
  (ks.any (fun k => (siteAt s k).overflow || (siteAt s k).invalid),
   ks.foldl (fun s k => withSite k (clearIndicators (siteAt s k)) s) s)

/-- A bucket's overflow flag is set (R147). -/
def bucketOverflow (sc : Score) (s : State) : Bool := sc.buckets.any (fun b => (runOf s b.coll).overflow)

/-- A forced void word (R355): the error bit, and the step field with its complement all ones. -/
def forceVoid (w : W64) : W64 := w ||| 0x3FFE

/-- A forced void contributed: counted and reported with its cause (R355). -/
def forcedVoid (cause : W32) (s : State) : State :=
  let s := withStep (fun t => { t with forced := true, ownWord := forceVoid t.ownWord }) s
  raise 2 0x0007 (leBytes 8 s.ex.step.num ++ leBytes 4 cause.toNat) (bump 0x8030 6 1 s)

/-- The number of the verdict collective. -/
def verdictColl (sc : Score) : Nat := (sc.colls.findIdx? (fun c => c.kind == 5)).getD 0

/-- The flag word given to the verdict reduction (R350). -/
def contribute (sc : Score) (s : State) : State :=
  startPraline sc (verdictColl sc) 1 s.ex.step.ownWord (withStep (fun t => { t with phase := .reducing }) s)

/-- The pair digest (R377). -/
def pairDigest (sc : Score) (s : State) : W32 :=
  let cell := match sc.colls.findIdx? (fun c => c.kind == 4) with
    | some n => match collCtx sc s n with
      | some x => bytesAt s (srcAddr x) 4
      | none => []
    | none => []
  crc32c (cell ++ s.ex.step.digests.flatMap (fun p => leBytes 4 p.2.toNat))

/-- The partner's digest has come: equal, the member contributes; else it contributes a forced void
(R378). -/
def settlePair (sc : Score) (partner digest : Nat) (s : State) : State :=
  let s := withRg 0x8020 4 digest { s with res := { s.res with partner := none } }
  if digest = rg s 0x8020 3 then contribute sc s
  else
    let s := forcedVoid 0x03600005 (bump 0x8030 10 1 s)
    contribute sc (raise 2 0x000A (leBytes 4 (nodeAddr s) ++ leBytes 4 partner) s)

/-- A hold-commit takes hold at the verdict point of its step (R373): HELD, with the outcome pending. -/
def holdCommit (s : State) : State :=
  let armed := rg s 0x8010 1 = s.ex.step.num || s.res.autoHold
  if !armed || outcomeHeld s || s.ex.step.rejected then s
  else
    withRg 0x8010 2 1 (withRg 0x8010 3 s.ex.step.num
      (withStep (fun t => { t with heldFrom := some s.pwr.time }) { s with dev := .held }))

/-- The verdict point reached: indicators captured, the flag word formed, forced voids, the pair digest, the
hold, and the word contributed. -/
def verdictPoint (sc : Score) (s : State) : State :=
  let cap := captureIndicators sc s
  let s := withStep (fun t => { t with overflow := t.overflow || cap.1 }) cap.2
  let t := s.ex.step
  let error := t.transferErr || t.dataErr.isSome
  let word := flagWord t.num s.ex.scale.e s.ex.scale.c error (t.overflow || bucketOverflow sc s)
  let s := withStep (fun t => { t with ownWord := word, forced := false }) s
  let s := match t.dataErr with
    | some c => forcedVoid c s
    | none => if 3 ≤ t.replays ∧ t.transferErr then forcedVoid 0x03500003 s else s
  let s := holdCommit s
  let d := pairDigest sc s
  let s := withRg 0x8020 3 d.toNat s
  match (partnerAffine s.regs (ownAffine s)).map (resolved s) with
  | none => contribute sc s
  | some p =>
    let s := sendControl ((partnerAffine s.regs (ownAffine s)).getD 0) 9 (pairKf ⟨nodeAddr s, roundOf s, t.replays, d, scoreTag s⟩)
      (withStep (fun t => { t with phase := .waitingPartner }) s)
    match s.res.partner with
    | some (r, n, x) => if r = roundOf s ∧ n = t.replays then settlePair sc p x.toNat s else s
    | none => s

/-- VERDICT_POINT (R145). -/
def execVerdictPoint (s : State) : Out :=
  let s := fresh s
  .next (if !stepWorks s || s.ex.step.phase != .open then s
    else onScore s (fun sc s =>
      if preCommitDone sc s && bucketsVerified sc s then verdictPoint sc s else s))

/-- A partner's digest (R378). -/
def takePairDigest (m : PairDigestMsg) (s : State) : State :=
  if !tagMatches s m.scoreTag then bump 0x6050 6 1 s
  else onScore s (fun sc s =>
    if (partnerAffine s.regs (ownAffine s)).map (resolved s) ≠ some m.src then s
    else if s.ex.step.phase = .waitingPartner ∧ m.round = roundOf s ∧ m.replays = s.ex.step.replays then
      settlePair sc m.src m.digest.toNat s
    else { s with res := { s.res with partner := some (m.round, m.replays, m.digest) } })

/-- PAIR_DIGEST_RECEIVE (R378). -/
def execPairDigestReceive (m : PairDigestMsg) (s : State) : Out :=
  let s := fresh s
  .next (if s.pwr.inReset then s else takePairDigest m s)

/-! ## The reductions' ends -/

/-- The reduce phase of a step run again (R356): transfer errors cleared, every collective of kinds 0 and 1
that has run starts from its source. -/
def replayReduce (sc : Score) (s : State) : State :=
  let s := bump 0xC002 3 1 (withStep (fun t => { t with
    transferErr := false, phase := .open, replays := t.replays + 1, ownWord := 0, jobWord := 0 }) s)
  let s := withCol (fun c => { c with praline := c.praline.filter (fun r => r.round ≠ s.ex.step.num % 64)
                                      sends := c.sends.filter (fun x => x.round ≠ s.ex.step.num % 64) }) s
  (sc.colls.zipIdx.filter (fun p => p.1.kind ≤ 1 && (runOf s p.2).started)).foldl (fun s p =>
    match collCtx sc s p.2 with
    | some x => startColl x s
    | none => s) s

/-- A secure point is established once a later step's verdict reduction completes (R365). -/
def establishPoint (s : State) : State :=
  match s.res.lastSecure with
  | some n =>
    if n < s.ex.step.num then
      bump 0x8030 1 1 (withRg 0x8000 7 n { s with res := { s.res with lastSecure := none } })
    else s
  | none => s

/-- The loss of a reference record agrees with a new one (R372). -/
def lossAgrees (ordered : Bool) (tol new ref : W32) : Bool :=
  if ordered then new == ref
  else (isNan32 new && isNan32 ref)
    || (!isNan32 new && !isNan32 ref
        && !numLt (numMul (ofW32 tol) (numAbs (ofW32 ref)))
            (numAbs (numAdd (ofW32 new) (numFlip (ofW32 ref)))))

/-- The reference of a proof replay: the record written to 0x8003:03, or the history's (R372). -/
def referenceOf (s : State) (step : Nat) : Option Nat :=
  if s.res.expectedWritten then some (rg s 0x8003 3)
  else ((List.range 64).map (fun k => rg s 0xC001 (k + 1))).find? (fun v =>
    v ≠ 0 && beNat ((leBytes 16 v).take 8) == step)

/-- The proof replay's comparison (R372), once the loss is final and the outcome decided. -/
def proofReplay (sc : Score) (s : State) : State :=
  match s.res.proofArmed, s.ex.step.outcome, lossValue sc s with
  | some n, some v, some loss =>
    if n ≠ s.ex.step.num || s.ex.step.phase ≠ .decided then s
    else
      let ref := referenceOf s n
      let s := { s with res := { s.res with proofArmed := none, expectedWritten := false } }
      let pass := fun (code : Nat) (s : State) =>
        releaseHeld true sc (withRg 0x8003 4 code
          (if s.dev = .held then { s with dev := .running } else s))
      match ref with
      | none => pass 6 s
      | some r =>
        let b := leBytes 16 r
        let new := recordOf s loss v
        let low := beNat ((b.drop 12).take 4)
        if bits 25 24 low = verdictCode v ∧ bits 23 18 low = s.ex.force.scaleExp
            ∧ lossAgrees s.ex.ordered (BitVec.ofNat 32 (rg s 0x8000 8)) loss (BitVec.ofNat 32 (beNat ((b.drop 8).take 4)))
        then pass 5 s
        else raise 2 0x0008 (b ++ new) (bump 0x8030 8 1 (withRg 0x8003 4 7 s))
  | _, _, _ => s

/-- Chunks that came for a replay that is not to be: their granules go back. -/
def dropStale (s : State) : State :=
  (s.col.runs.filter (fun p => p.2.complete)).foldl (fun s p => dropHeld p.1 s) s

/-- The verdict decided (R150). -/
def decideVerdict (sc : Score) (w : W64) (s : State) : State :=
  let s := withStep (fun t => { t with jobWord := w }) s
  let go := fun (v : Verdict) (s : State) =>
    let s := withStep (fun t => { t with outcome := some v, phase := .decided }) (dropStale s)
    let s := proofReplay sc s
    if s.ex.step.phase = .decided ∧ !outcomeHeld s then applyOutcome sc s else s
  match decide150 w with
  | .replay => replayReduce sc s
  | .commit => go .commit s
  | .skip => go .skip s
  | .void =>
    let s := if s.ex.step.forced then s else raise 2 0x0004 (leBytes 8 s.ex.step.num) s
    go .void (holdAtEnd s)

/-- The verdict collective completes with the reduction that decides the step, and its output tokens fall due (R324,
R350). -/
def completeVerdict (sc : Score) (w : W64) (s : State) : State :=
  let n := verdictColl sc
  match collCtx sc s n, decide150 w with
  | none, _ | _, .replay => s
  | some x, _ => tokensFall x (bump 0x7020 1 1 (withRun n { runOf s n with started := true, complete := true } s))

/-- VERDICT_REDUCTION_COMPLETE (R150). -/
def execVerdictReductionComplete (s : State) : Out :=
  let s := fresh s
  .next (if !stepWorks s || s.ex.step.phase != .reducing then s
    else onScore s (fun sc s =>
      match pralResult s (verdictColl sc) with
      | none => s
      | some w => decideVerdict sc w (completeVerdict sc w (establishPoint s))))

/-- LOSS_REDUCTION_COMPLETE (R160, R350): the loss is final and is written to its destination, where one is
named. -/
def execLossReductionComplete (s : State) : Out :=
  let s := fresh s
  .next (if !stepWorks s || s.ex.step.loss.isSome then s
    else onScore s (fun sc s =>
      match sc.colls.findIdx? (fun c => c.kind == 4) with
      | none => s
      | some n =>
        match pralResult s n, collCtx sc s n with
        | some w, some x =>
          let s := withStep (fun t => { t with loss := some (w.setWidth 32) }) s
          let s := if x.c.dst.isSome then
              storeBytes (engineOfColl s x) (dstAddr x) (leBytes 4 (w.toNat % 2 ^ 32)) s
            else s
          let s := tokensFall x (bump 0x7020 1 1 (withRun n { runOf s n with complete := true } s))
          reportLoss sc (proofReplay sc s)
        | _, _ => s))

/-! ## Securing (R363, R364) -/

/-- The secure record of the running step. -/
def secureRecord (s : State) : Bytes :=
  leBytes 8 s.ex.step.num ++ leBytes 8 (updatesAfter s)
    ++ leBytes 8 (scaleWord (s.ex.scaleLoad.getD s.ex.scale)) ++ leBytes 8 (rg s 0x3031 2)
    ++ leBytes 4 (rg s 0x3031 4) ++ zeros 12 ++ leBytes 16 (rg s 0xC001 1)

/-- One remote write to a holder, cut into blocks of 4 KiB. -/
def secureWrite (m : RemoteMsg) (holder : Nat) (blocks : List (Nat × Bytes)) (s : State) : State :=
  blocks.foldl (fun s b =>
    bump 0x8030 2 b.2.length (sendParcel holder 3 0 .state (remoteKf { m with block := b.1 }) b.2 s)) s

/-- A remote message of this member for its own data. -/
def ownMsg (s : State) (subtype entry stripe : Nat) : RemoteMsg :=
  ⟨0, subtype, s.ex.step.num % 65536, (ownRank s).getD 0, entry, stripe, 0, 0, 0, 0, 0, scoreTag s, [], true, false⟩

/-- One secured region's stripes sent to their holders. -/
def secureRegion (sc : Score) (s : State) (r : Nat × Nat × Nat × Nat) : State :=
  match (glazedOf sc s.regs).find? (fun x => x.1 == r.2.2.2) with
  | none => s
  | some x =>
    let h := rg s 0x8000 2
    let l := holderList (stagesNow s x.2.2.group) (ownAffine s)
    let s := match firstPoison s r.2.1 r.2.2.1 with
      | some a => poisonRead a s
      | none => s
    (List.range (ceilDiv r.2.2.1 stripeBytes)).foldl (fun s i =>
      (List.range h).foldl (fun s k =>
        secureWrite (ownMsg s 1 r.1 i) (holderOf l h r.1 i k)
          (blocksAt s (r.2.1 + i * stripeBytes) (stripeLen r.2.2.1 i)) s) s)
      (readRange (stateUnit s) none r.2.1 r.2.2.1 s)

/-- The secure record sent to the holders of key 0 of the lowest glazed entry. -/
def secureTheRecord (sc : Score) (s : State) : State :=
  match (glazedOf sc s.regs).head? with
  | none => s
  | some x =>
    let h := rg s 0x8000 2
    let l := holderList (stagesNow s x.2.2.group) (ownAffine s)
    (List.range h).foldl (fun s k =>
      secureWrite (ownMsg s 2 0 0) (holderOf l h 0 0 k) [(0, secureRecord s)] s) s

/-- The step is a secure step: it committed, and the update count after it is a multiple of N. -/
def securesNow (s : State) : Bool := s.ex.step.outcome == some .commit && secureStep s

/-- SECURING_TRANSFER (R363): once the commit-gated crumbs have retired, the glazed collectives are complete
and the loss is recorded. -/
def execSecuringTransfer (s : State) : Out :=
  let s := fresh s
  .next (if !stepWorks s || s.ex.step.phase != .applied || s.ex.step.secured || !s.ex.step.lossSent then s
    else onScore s (fun sc s =>
      if securesNow s && sc.crumbs.zipIdx.all (fun p => !p.1.gated || crumbDone sc s p.2 p.1)
          && (glazedOf sc s.regs).all (fun x => collDone s x.2.1) then
        let s := (regionsOf s.regs).foldl (secureRegion sc) s
        secureTheRecord sc (withStep (fun t => { t with secured := true }) s)
      else s))

end Sys2Proof.Machine
end

