-- ==== Sys2Proof/Machine/Steps.lean ====
section
/-! DEFINITION. A step's start, boundary and stall (R58, R62, R73, R80, R84, R85, R89 to R91, R136, R146,
R154, R162, R166, R322, R337, R380).

Choices beyond the manual's plain words (notes/assumptions): DEDUCED 52, 53, 114. -/

namespace Sys2Proof.Machine

/-! ## Start -/

/-- Every declared slot has a micro-batch admitted for the next step (R80). -/
def slotsAdmitted (sc : Score) (s : State) : Bool :=
  sc.slots.all (fun x => s.ex.admitted.any (fun a => a.step == s.ex.nextStep && a.slot == x.num))

/-- A request for a lower power state is under way (R486). -/
def goingDown (s : State) : Bool := s.pwr.moving && s.pwr.req != .run

/-- A step may start now (R84, R380, R484, R489). -/
def mayStart (sc : Score) (s : State) : Bool :=
  s.dev == .running && !s.ex.step.running && 1 ≤ rg s 0x2011 2 && slotsAdmitted sc s && !s.ex.holdPending
    && s.pwr.cur == .run && !goingDown s && !s.pwr.inReset && !anyGated s && s.res.repairs.isEmpty && s.res.restore.isNone
    && rg s 0x8003 4 != 1

/-- The lists of every core at their first phase (R63). -/
def startLists (sc : Score) : List (Nat × Seq) :=
  ((sc.crumbs.map (fun c => (c.half, c.core))).eraseDups).foldl (fun m k =>
    put (coreKey k.1 k.2) { phase := 0, unfired := coreRecords sc k.1 k.2 (fun c => c.phase == 0) } m) []

/-- What takes effect at a step start (R136, R144, R154, R162, R322). -/
def forceNow (s : State) : InForce :=
  { genKey := rg s 0x3031 1, genBase := rg s 0x3031 2, updates := rg s 0x3031 3
    lr := BitVec.ofNat 32 (rg s 0x3031 4)
    scaleExp := (s.ex.scaleLoad.getD s.ex.scale).e
    watch := ⟨rg s 0x3050 1 == 1, rg s 0x3050 2, rg s 0x3050 3, rg s 0x3050 4⟩
    members := s.fab.members, groups := s.fab.groups }

/-- A token increment of the fabric delivered to its home (R307). -/
def takeIncrement (sc : Score) (s : State) (m : TokenMsg) : State := addToken sc m.token m.count s

/-- A step starts (R84): counters, tokens, pools, fills, lists and engines as at a start, settings taken, what
was held for the step applied, the first prefetches made. -/
def startStep (sc : Score) (s : State) : State :=
  let n := s.ex.nextStep
  let s := withRg 0x2011 2 (rg s 0x2011 2 - 1) (bump 0x2012 1 1 s)
  let f := forceNow s
  let s := { s with ex := { s.ex with
    nextStep := n + 1, step := { running := true, num := n, startTime := s.pwr.time }, force := f
    scale := s.ex.scaleLoad.getD s.ex.scale, scaleLoad := none
    spent := [], seqs := startLists sc, engines := [], streams := [], prefetch := [] } }
  let last := (n + 63) % 64
  let s := withCol (fun c => { c with runs := [], alerted := []
                                      praline := c.praline.filter (fun r => r.round == last)
                                      sends := c.sends.filter (fun x => x.round == last) }) s
  let s := (captureIndicators sc s).2
  let mine := s.ex.heldTokens.filter (fun m => m.round == n % 64)
  let s := { s with ex := { s.ex with heldTokens := s.ex.heldTokens.filter (fun m => m.round ≠ n % 64) } }
  let s := takeEarly (mine.foldl (takeIncrement sc) s)
  ((sc.crumbs.map (fun c => (c.half, c.core))).eraseDups).foldl (fun s k =>
    refillPrefetch sc k.1 k.2 (advanceList sc k.1 k.2 [] (seqOf s k.1 k.2) s)) s

/-- STEP_START (R84). -/
def execStepStart (s : State) : Out :=
  let s := fresh s
  .next (onScore s (fun sc s => if mayStart sc s then startStep sc s else s))

/-! ## Time -/

/-- The time of R89 for the running step in ns: the bound in force, with the securing allowance at a secure
step (R363). -/
def stepTime (sc : Score) (s : State) : Nat :=
  ceilDiv ((if s.ex.ordered then sc.orderedBound else sc.bound) * 1000) 1120
    + if securesNow s then rg s 0x8000 6 else 0

/-- The time of the running step that counts against its bound: held time is left out (R90). -/
def measured (s : State) : Nat := s.pwr.time - s.ex.step.startTime - s.ex.step.heldTime

/-! ## Boundary -/

/-- Bit 7 set in the newest record and in the last outcome, for a late error found after the report
(R152). -/
def markLate (s : State) : State :=
  if !s.ex.step.lateErr then s
  else
    let late := fun (o : Nat) => if o.testBit 7 then o else o + 0x80
    let b := leBytes 16 (rg s 0xC001 1)
    withRg 0xC000 3 (late (rg s 0xC000 3))
      (withRg 0xC001 1 (leNat (b.take 12 ++ (leBytes 1 (late (leNat (slice b 12 1)))) ++ b.drop 13)) s)

/-- The step's end is measured (R90). -/
def measureStep (sc : Score) (s : State) : State :=
  let d := s.pwr.time - s.ex.step.startTime
  let s := withRg 0x2012 5 d s
  if stepTime sc s < measured s then
    raise 3 0x0002 (leBytes 8 s.ex.step.num ++ leBytes 8 d) (bump 0x2012 4 1 s)
  else s

/-- The watch's count of the step (R166). -/
def reportWatch (s : State) : State :=
  let n := s.ex.step.watchTiles
  let s := withRg 0xC010 6 n s
  if s.ex.force.watch.enable ∧ s.ex.force.watch.alert ≤ n then
    raise 2 0x0006 (leBytes 8 s.ex.step.num ++ leBytes 4 n ++ leBytes 4 s.ex.step.watchRatio.toNat) s
  else s

/-- Cores whose test has ended return to their places (R73). -/
def returnCores (s : State) : State :=
  (List.range 24).foldl (fun s h => if (halfTest s h).returning then returnCore h s else s) s

/-- A request for a stripe's current copy, as of the latest committed step (R366). -/
def copyMsg (s : State) (t stripe : Nat) : RemoteMsg :=
  { ownMsg s 3 t stripe with generation := s.res.lastCommit.getD 0 % 65536 }

/-- One poisoned stripe of a share asked for from its current copy's first holder (R380). -/
def askRepair (sc : Score) (t n stripe : Nat) (s : State) : State :=
  match collCtx sc s n with
  | none => s
  | some x =>
    let h := holderOf (holderList x.sts x.self) (rg s 0x8000 2) t stripe 0
    let s := { s with res := { s.res with repairs := s.res.repairs ++ [⟨3, t, stripe, 0, [], false⟩] } }
    sendParcel h 4 1 .state (remoteKf (copyMsg s t stripe)) [] s

/-- The 4 KiB ranges of a destination, outside the own share, that hold poison. -/
def poisonedRanges (s : State) (x : CollCtx) : List (Nat × Nat) :=
  let r := shareOf x.sts x.self x.e
  let n := x.e * x.esize
  (List.range (ceilDiv n 4096)).filterMap (fun b =>
    let o := 4096 * b
    let len := min 4096 (n - o)
    if (List.range len).any (fun i =>
        (o + i < r.1 * x.esize || (r.1 + r.2) * x.esize ≤ o + i) && poisonedAt s (dstAddr x + o + i))
    then some (o, len) else none)

/-- A poisoned gathered range asked for again from its owners (R379). -/
def askGathered (x : CollCtx) (s : State) (p : Nat × Nat) : State :=
  (ownersOf s x p.1 p.2).foldl (fun s o =>
    if o.1 = x.self then s
    else
      let s := { s with res := { s.res with repairs := s.res.repairs ++ [⟨4, x.n, o.2.1, o.1, [], false⟩] } }
      sendParcel o.1 4 1 .state (rangeKf s x.n o.2.1 o.2.2) [] s) s

/-- Poison in glazed data sought at the boundary, and its repair begun (R379, R380). -/
def beginRepairs (sc : Score) (s : State) : State :=
  (glazedOf sc s.regs).foldl (fun s g =>
    match collCtx sc s g.2.1 with
    | none => s
    | some x =>
      let r := shareOf x.sts x.self x.e
      let a := dstAddr x + r.1 * x.esize
      let n := r.2 * x.esize
      let bad := (List.range (ceilDiv n stripeBytes)).filter (fun i =>
        poisonedIn s (a + i * stripeBytes) (stripeLen n i))
      let s := bad.foldl (fun s i => askRepair sc g.1 g.2.1 i s) s
      (poisonedRanges s x).foldl (askGathered x) s) s

/-- The step boundary (R85): counted, measured, cores returned, gatings taken, repairs begun, held when a
hold is pending or the step ends in one. -/
def endStep (sc : Score) (s : State) : State :=
  let committed := s.ex.step.outcome == some .commit
  let secures := securesNow s
  let s := measureStep sc (markLate s)
  let s := if secures then { s with res := { s.res with lastSecure := some s.ex.step.num } } else s
  let s := if committed then
      withRg 0x3031 3 (min (updatesAfter s) (2 ^ 64 - 1)) (bump 0x2012 2 1 { s with res := { s.res with lastCommit := some s.ex.step.num } })
    else bump 0x2012 3 1 s
  let s := returnCores (reportWatch s)
  let hold := s.ex.holdPending || s.ex.step.holdAtBoundary
  let s := { s with
    dev := if hold then .held else .running
    ex := { s.ex with holdPending := false, step := { s.ex.step with running := false }
                      admitted := s.ex.admitted.filter (fun a => s.ex.nextStep ≤ a.step) }
    pwr := { s.pwr with pendingEnables := [] } }
  beginRepairs sc s

/-- The boundary with the gatings that waited for it (R489). -/
def takeBoundary (sc : Score) (s : State) : State := gateChange s (endStep sc s)

/-- Everything the boundary waits for is complete (R85, R160, R363). -/
def boundaryReached (sc : Score) (s : State) : Bool :=
  s.ex.step.running && s.ex.step.phase == .applied && s.ex.step.lossSent && allDone sc s
    && (!securesNow s || s.ex.step.secured || (glazedOf sc s.regs).isEmpty)
    && (s.dev == .running || s.dev == .held)

/-- STEP_BOUNDARY (R85). -/
def execStepBoundary (s : State) : Out :=
  let s := fresh s
  .next (if s.pwr.inReset then s
    else onScore s (fun sc s => if boundaryReached sc s then takeBoundary sc s else s))

/-- STEP_STALLED (R91): four times the time of R89, held time left out; a held step is not measured. -/
def execStepStalled (s : State) : Out :=
  let s := fresh s
  .next (if s.pwr.inReset then s
    else onScore s (fun sc s =>
      if s.ex.step.running && !outcomeHeld s && 4 * stepTime sc s ≤ measured s
          && (s.dev == .running || s.dev == .held)
      then toFaulted 0x03100006 0 [] s else s))

end Sys2Proof.Machine
end

