-- ==== Sys2Proof/Machine/Commands.lean ====
section
/-! DEFINITION. The facility and job commands (R82 to R84, R157, R397, R399, R460), preparing a score (R55,
R56), grants and micro-batch posts (R77 to R83).

Choices beyond the manual's plain words (notes/assumptions): DEDUCED 27, 33, 46, 47, 53, 157; DESIGN CHOICE 3,
155, 156, 158. -/

namespace Sys2Proof.Machine

/-! ## Sessions ended (R452) -/

/-- A session over: its keys and session-scoped values erased, its messages, transfers and, for TENANT,
channels gone; a firmware image it was sending has failed. -/
def endSession (n : Nat) (s : State) : State :=
  if (sessOf s n).state ≠ .established then withSess n {} s
  else
    let tenant := (sessOf s n).role = .tenant
    let s := audit n 0x9001 n 3 false (zeros 4) s
    let s := withSess n {} s
    let r := s.ring
    let r := { r with transfers := r.transfers.filter (fun t => t.sess ≠ n)
                      parts := r.parts.filter (fun p => p.sess ≠ n)
                      inbox := r.inbox.filter (fun p => p.sess ≠ n) }
    let r := if tenant then { r with channels := [] } else r
    let update := s.ring.transfers.any (fun t => t.sess == n && t.idx == 0x9010)
    let s := if update then dropPend .firmware (withRg 0x9010 2 4 s) else s
    { s with ring := r }

/-! ## Leaving (R423, R460) -/

/-- Objects that leave returns to their defaults. -/
def resetsOnLeave (idx sub : Nat) : Bool :=
  tenantOwned idx sub || [0x2010, 0x2011, 0x3031, 0xC000, 0xC001, 0xC002, 0xC010, 0x8020].contains idx
    || (idx == 0x8000 && 5 ≤ sub && sub ≤ 7) || (idx == 0x8003 && sub == 4) || (idx == 0x8010 && sub == 3)

/-- The execution state with no score; step numbers and counters of the score are gone. -/
def clearExec (s : State) : State :=
  closeContexts { s with ex := {}, col := {}, res := {} }

/-- The keys destroyed, a new module key drawn, the bound tenant and its regions gone (R458 to R460). -/
def destroyKeys (s : State) : State :=
  drawn { s with
    sec := { s.sec with bound := none, fabricKey := none, baseKey := none, regions := []
                        moduleKey := some (Config.random256 s.freeCtr), erasing := true }
    fab := { s.fab with parcelKey := 0 } }

/-- Caches, buffers and filters of the memory system zeroed, and its contents unreadable under keys that no
longer exist. -/
def forgetMemory (s : State) : State :=
  let s := { s with mem := { s.mem with msc := [], wc := [], shared := [], shPoison := [], invWait := []
                                        outstanding := [], answers := [], waiting := [] } }
  forgetRange 0 0x16760000000 s

/-- Every effect of leave but the response and the bypass. -/
def leaveEffects (s : State) : State :=
  let s := abandonTests (endPending s)
  let s := if s.dev = .joined then closeTestPort s else s
  let s := { s with dev := .inert }
  let s := audit 0 0x2001 1 6 false (leBytes 1 0) s
  let s := clearExec s
  let s := { s with
    regs := s.regs.filter (fun p => !resetsOnLeave (p.1 / 256) (p.1 % 256))
    sites := []
    fab := { s.fab with members := [], groups := [], overrides := [], silent := [], fwd := [], arrived := [] } }
  let s := match sessionOf s .tenant with
    | some n => endSession n s
    | none => s
  let s := { s with ring := { s.ring with
    histTen := [], channels := []
    queue := s.ring.queue.filter (fun e => e.aud ≠ 2), lost := s.ring.lost.filter (fun p => p.1 % 4 ≠ 2) } }
  forgetMemory (destroyKeys (withRg 0x1300 2 0 s))

/-- The bypass closes at the frame boundary after the response (R399). -/
def closeSoon (s : State) : State := { s with ring := { s.ring with closeAtFrame := true } }

/-! ## Commands as rules -/

/-- A command's state condition (R82). -/
def stateNeed (ok : Bool) : Nat := need ok 0x03100005

/-- The facility commands: 1 join, 2 leave, 3 clear fault. A command for the current state changes
nothing. -/
def facilityRule (v : Nat) (s : State) : Rule :=
  match v with
  | 1 => { codes := [stateNeed (s.dev == .joined)] }
  | 2 => if s.dev = .inert then {} else { apply := leaveEffects, after := closeSoon }
  | 3 => if s.dev = .inert then {} else
      { codes := [stateNeed (s.dev == .faulted)], apply := leaveEffects, after := closeSoon }
  | _ => {}

/-- The settings a hold clears are none; a hold takes effect at once between steps, else at the boundary
(R84). -/
def holdNow (s : State) : State :=
  if s.dev ≠ .running ∨ s.ex.holdPending then s
  else if s.ex.step.running then { s with ex := { s.ex with holdPending := true } }
  else { s with dev := .held }

/-- A release is refused after an abandon until a restore has completed (R369). -/
def recoveryAllows (s : State) : Bool := !([1, 2, 3, 8].contains (rg s 0x8003 4))

/-- A release: RUNNING, with a held outcome applied as 0x8010:02 says (R374). -/
def releaseNow (s : State) : State :=
  if s.dev ≠ .held then s
  else
    let s := { s with dev := .running }
    onScore s (fun sc s => releaseHeld (rg s 0x8010 2 != 2) sc s)

/-- Objects that unprepare returns to their defaults (R92, R170, R199, R352, R381), and with them 0x2011:02 and
0x2012:05 (notes/assumptions/158.md, DESIGN CHOICE). -/
def resetsOnUnprepare (idx sub : Nat) : Bool :=
  [0x2010, 0x2012, 0x2013, 0x4801, 0x7020, 0x8030].contains idx && (idx != 0x2010 || sub != 1)
    || (idx == 0x2011 && sub == 2) || (idx == 0x2020 && sub == 4) || (idx == 0x4800 && sub == 2)
    || (idx == 0x8000 && 5 ≤ sub && sub ≤ 7) || (idx == 0x8003 && sub == 4)
    || (idx == 0x8010 && sub != 2)

/-- Unprepare: the score and its contexts discarded, a pending abandon or host copy ended (R82, R369, R407). A running
core test is abandoned (notes/assumptions/155.md, DESIGN CHOICE). -/
def unprepareNow (s : State) : State :=
  if s.dev = .joined then s
  else
    let s := failPend .abandon 0x03000002 (failPend .hostCopy 0x03000002 s)
    let s := abandonTests (dropHostCopy s)
    let s := clearExec { s with dev := .joined }
    { s with regs := s.regs.filter (fun p => !resetsOnUnprepare (p.1 / 256) (p.1 % 256)) }

/-- The job commands: 1 prepare, 2 run, 3 hold, 4 release, 5 unprepare. A second prepare while one is pending is a write to
an object with a pending write (notes/assumptions/157.md, DEDUCED). -/
def jobRule (q : Req) (v : Nat) (s : State) : Rule :=
  match v with
  | 1 =>
    if s.dev = .prepared then {}
    else { codes := [stateNeed (s.dev == .joined)], later := true, apply := addPend .prepare q }
  | 2 =>
    { codes := [stateNeed (s.dev == .prepared || s.dev == .running)]
      apply := fun s => if s.dev = .prepared then { s with dev := .running } else s }
  | 3 => { codes := [stateNeed (s.dev == .running || s.dev == .held)], apply := holdNow }
  | 4 =>
    { codes := [stateNeed (s.dev == .held || s.dev == .running), need (recoveryAllows s) 0x03600002]
      apply := releaseNow }
  | 5 =>
    { codes := [stateNeed (s.dev == .prepared || s.dev == .held || s.dev == .joined
        || (s.dev == .running && rg s 0x8003 4 == 1))]
      apply := unprepareNow }
  | _ => {}

/-- A write of the command objects by value (R82, R435, R436). -/
def commandRule (q : Req) (idx sub : Nat) (value : Bytes) (s : State) : Rule :=
  let v := leNat value
  if idx = 0x2000 ∧ sub = 2 then jobRule q v s
  else if !s.straps.compat then facilityRule v s
  else
    let job := 0x11 ≤ v && v ≤ 0x15
    let fac := 1 ≤ v && v ≤ 3
    let r := if job then jobRule q (v - 0x10) s else if fac then facilityRule v s else {}
    let role := roleOf s q.sess
    { r with
      codes := need (!((job && role != .tenant) || (fac && role != .operator))) 0x0110FF01
        :: need (job || fac) 0x0210FF01 :: r.codes
      log := if job then some (0x2000, 2, leBytes 1 (v - 0x10)) else none }

/-- A job command as the module presents it: 0x2000:02, or with COMPAT 0x2000:01 plus 0x10. -/
def jobCommand (q : Req) (v : Nat) (s : State) : State :=
  let sub := if s.straps.compat then 1 else 2
  let value := leBytes 1 (if s.straps.compat then 0x10 + v else v)
  writeReq q 0 0x2000 sub value (commandRule q 0x2000 sub value) s

/-- A facility command. -/
def facilityCommand (q : Req) (v : Nat) (s : State) : State :=
  writeReq q 0 0x2000 1 (leBytes 1 v) (commandRule q 0x2000 1 (leBytes 1 v)) s

/-- LEAVE (R460). -/
def execLeave (q : Req) (s : State) : Out := .next (facilityCommand q 2 s)

/-- CLEAR_FAULT (R460). -/
def execClearFault (q : Req) (s : State) : Out := .next (facilityCommand q 3 s)

/-- PREPARE (R55): the write stays outstanding. -/
def execPrepare (q : Req) (s : State) : Out := .next (jobCommand q 1 s)

/-- RUN (R82). -/
def execRun (q : Req) (s : State) : Out := .next (jobCommand q 2 s)

/-- HOLD (R84). -/
def execHold (q : Req) (s : State) : Out := .next (jobCommand q 3 s)

/-- RELEASE (R374). -/
def execRelease (q : Req) (s : State) : Out := .next (jobCommand q 4 s)

/-- UNPREPARE (R82). -/
def execUnprepare (q : Req) (s : State) : Out := .next (jobCommand q 5 s)

/-! ## Joining (R397) -/

/-- The conditions of step 2 of joining, with the island self-test passed and the tenant's state erased. -/
def mayJoin (s : State) (src dst : Nat) : Bool :=
  src == 0 && dst == s.straps.ringPos + 1 && s.dev == .inert && !s.pwr.inReset && s.ring.clock
    && (s.pwr.selfTestB0 || s.pwr.selfTestB2) && s.pwr.settled && !s.sec.erasing
    && (s.sec.fwRunning || s.sec.recovery)

/-- JOINED: the bypass open, transmitting at G1, a new base key, under which tenant memory's contents are
undefined (R458). -/
def joinNow (s : State) : State :=
  let s := { s with dev := .joined, ring := { s.ring with bypassOpen := true, closeAtFrame := false } }
  let s := withRg 0x9040 1 0 (withRg 0xA020 1 0x080FA000 (withRg 0x1100 6 1 s))
  let key := Config.random256 s.freeCtr
  forgetRange 0 tenantTop (drawn { s with sec := { s.sec with baseKey := some key } })

/-- The first start-up of an image to JOINED raises the fused minimum to its security version (R443). -/
def raiseMinimum (s : State) : State :=
  if s.sec.fwRunning ∧ s.sec.minSecurity < s.sec.fwSecurity then
    audit 0 0 0 4 false (leBytes 4 s.sec.fwSecurity)
      { s with sec := { s.sec with minSecurity := s.sec.fwSecurity } }
  else s

/-- A join (R397): a session-0 write; when a condition does not hold it is ignored. -/
def joinCommand (src dst msg : Nat) (s : State) : State :=
  let s := noteCommand ⟨0, msg⟩ 1 0x2000 1 (takeInbox ⟨0, msg⟩ (fresh s))
  if !mayJoin s src dst then s
  else if s.sec.flashFull then rejectReq ⟨0, msg⟩ 0x05800002 s
  else respond ⟨0, msg⟩ 0 [] (raiseMinimum (audit 0 0x2000 1 0 false (leBytes 1 1) (joinNow s)))

/-- JOIN (R397). -/
def execJoin (src dst msg : Nat) (s : State) : Out := .next (joinCommand src dst msg s)

/-! ## Prepare (R55, R56) -/

/-- The member's affine address under a pending write's tables. -/
def pendAffine (p : PendWrite) : Nat :=
  let own := rgIn p.regs 0x6000 1
  match rankOfAddr p.regs p.overrides own with
  | some r => affineAddr p.regs r
  | none => own

/-- The code of the checks of R55 on the staged image, 0 where all pass. -/
def prepareCode (p : PendWrite) (sigGood : Bool) (s : State) : Nat :=
  let staged := rgIn p.regs 0x2010 1
  let rd := readerAt s (bufferIn p.regs 0).1
  let len := rd 8 8
  if staged = 0 then 0x03100001
  else if BitVec.ofNat 256 (rd 80 32) ≠ (sessOf s p.q.sess).key then 0x04100002
  else if len < 3629 ∨ staged < len ∨ !sigGood then 0x04100001
  else scoreCode rd (rgIn p.regs 0x3010 1 == 1) (tablesPend p) (pendAffine p)

/-- Constant data copied to memory from the installed image (R216). -/
def copyConstants (sc : Score) (s : State) : State :=
  sc.consts.foldl (fun s k =>
    let a := 0x16700000000 + k.off
    storeBytes moduleUnit k.addr (bytesAt s a k.len) (readRange moduleUnit none a k.len s)) s

/-- The parcel key of a setup point (R455). -/
def deriveParcelKey (point : Nat) (s : State) : State :=
  let k := hkdf (leBytes 48 (rg s 0x2010 3)) (keyBytes (s.sec.fabricKey.getD 0)) (ascii "parcel" ++ leBytes 8 point)
  { s with fab := { s.fab with parcelKey := k } }

/-- A score installed (R56): the image, the objects it sets, the scale state, the contexts, the constants. A core that is
tested directly goes on being tested (notes/assumptions/155.md, DESIGN CHOICE). -/
def install (p : PendWrite) (s : State) : State :=
  let base := (bufferIn p.regs 0).1
  let rd := readerAt s base
  let sc := scoreOf rd
  let t := tablesPend p
  let emu := rgIn p.regs 0x3010 1 == 1
  let ordered := sc.orderedFlag || emu
  let len := rd 8 8
  let image := bytesAt s base len
  let s := storeBytes moduleUnit 0x16700000000 image (readRange moduleUnit none base len s)
  let e := rgIn p.regs 0x3040 1
  let s := { closeTestPort s with
    dev := .prepared, col := {}, res := {}
    ex := { score := some sc, emulated := emu, ordered := ordered, scale := ⟨e, 0, 0⟩
            force := { scaleExp := e, members := s.fab.members, groups := s.fab.groups } } }
  let keep := fun (k : Nat) => !([0xC001, 0xC002, 0xC010].contains (k / 256))
  let s := { s with regs := s.regs.filter (fun x => keep x.1) }
  let s := withRg 0x2010 2 sc.id (withRg 0x2010 3 (leNat (digestBytes (Config.sha384 image)))
    (withRg 0x2010 4 (if ordered then sc.orderedBound else sc.bound)
      (withRg 0x2010 5 (if ordered then 1 else 0) s)))
  let s := withRg 0x8000 5 (glazeNeed sc t (pendAffine p))
    (withRg 0x8000 6 (securingAllowance sc t (pendAffine p)) (withRg 0x8000 7 (2 ^ 64 - 1) s))
  openContexts sc (closeContexts (deriveParcelKey (2 ^ 64 - 1) (copyConstants sc s)))

/-- PREPARE_COMPLETE (R56). sigGood: whether both signatures verify over the bytes of R54. -/
def execPrepareComplete (sigGood : Bool) (s : State) : Out :=
  let s := fresh s
  .next (match pendOf s .prepare with
    | none => s
    | some p =>
      if s.pwr.inReset then s
      else
        let code := prepareCode p sigGood s
        if code ≠ 0 then failPend .prepare code s
        else if s.sec.flashFull then failPend .prepare 0x05800002 s
        else finishPend .prepare (leBytes 1 1) (install p s))

/-! ## Grants and posts -/

/-- A grant (R83). In the KZ-8 layout the log names the four-byte value. -/
def grantRule (value : Bytes) (s : State) : Rule :=
  let n := leNat value
  { codes := [stateNeed (s.dev == .prepared || s.dev == .running || s.dev == .held),
              need (rg s 0x2011 2 + n < 2 ^ 32) 0x05100003]
    log := if s.straps.compat then some (0x2011, 1, leBytes 4 n) else none
    apply := fun s => withRg 0x2011 2 (rg s 0x2011 2 + n) s }

/-- GRANT_STEPS (R83). -/
def execGrantSteps (q : Req) (steps : Nat) (s : State) : Out :=
  let value := leBytes (if s.straps.compat then 2 else 4) steps
  .next (writeReq q 0 0x2011 1 value (grantRule value) s)

/-- The post that 16 bytes hold, the first byte the most significant (R77). -/
def postOf (b : Bytes) : Post :=
  let v := beNat b
  ⟨bits 127 64 v, bits 63 56 v, bits 55 48 v, bits 47 16 v, bits 15 0 v⟩

/-- A post as its 16 bytes. -/
def postBytes (p : Post) : Bytes :=
  (leBytes 16 (p.step * 2 ^ 64 + p.slot * 2 ^ 56 + p.reserved * 2 ^ 48 + p.tokens * 2 ^ 16 + p.buffer)).reverse

/-- The checks of R78 and the admission of R79. Every rejected post is counted, a non-zero reserved field comes before
check 4, and a buffer above 127 is admitted (notes/assumptions/156.md, DESIGN CHOICE). -/
def postRule (value : Bytes) (s : State) : Rule :=
  let p := postOf value
  let slot := s.ex.score.bind (fun sc => sc.slots.find? (fun x => x.num == p.slot))
  let taken := slot.isSome && s.ex.admitted.any (fun a => a.step == p.step && a.slot == p.slot)
  { codes :=
      [stateNeed (s.dev == .prepared || s.dev == .running || s.dev == .held),
       need ((p.step == s.ex.nextStep || p.step == s.ex.nextStep + 1) && !taken) 0x03100003,
       need (match slot with | some x => p.tokens ≤ x.budget | none => true) 0x03100004,
       need (p.reserved = 0) 0x0210FF02,
       need (slot.isSome && p.tokens != 0) 0x02100006]
    onReject := bump 0x2020 4 1
    apply := fun s => { s with ex := { s.ex with
      admitted := s.ex.admitted ++ [⟨p.step, p.slot, p.tokens, p.buffer⟩] } } }

/-- POST_MICRO_BATCH (R78). -/
def execPostMicroBatch (q : Req) (p : Post) (s : State) : Out :=
  .next (writeReq q 0 0x2020 1 (postBytes p) (postRule (postBytes p)) s)

end Sys2Proof.Machine
end

