-- ==== Sys2Proof/Machine/Ring.lean ====
section
/-! DEFINITION. The control ring (R383 to R399): frame marks and the trim loop (R477, R478), slots and
messages, bulk channels (R409 to R411), blocks that the module sends (R402, R403), events (R414).

Choices beyond the manual's plain words (notes/assumptions): DEDUCED 25, 29, 30, 31, 33, 35, 36, 37, 38, 40;
DESIGN CHOICE 9, 34, 144; PRESUMED 32. -/

namespace Sys2Proof.Machine

/-- The module's ring position (R383). -/
def position (s : State) : Nat := s.straps.ringPos + 1

/-- The ring's light carries something to this module. -/
def hears (s : State) : Bool := s.ring.clock && !s.pwr.inReset

/-! ## Frame boundary -/

/-- A generation as the ring knows it: 0 counts as G1. -/
def hopGen (c : Nat) : Nat := min 3 (max 1 c)

/-- The hop generations that a mark's capabilities give this module (R385), and the ring PHY's setting
(R429). -/
def takeHops (m : FrameMark) (s : State) : State :=
  let hop := (m.hopIndex + 1) % 256
  let out := hopGen (m.caps.getD (if hop = m.members then 0 else hop + 1) 0)
  let inn := hopGen (m.caps.getD (hop - 1) 0)
  withRg 0xA020 1 (if out = 1 then 0x080FA000 else 0x083E8000) (withRg 0x1100 6 out (withRg 0x1100 5 inn s))

/-- The time reference in force (R479). -/
def reference (s : State) : Nat := s.pwr.refChange.getD (rg s 0xA010 2)

/-- What waits for a frame boundary: the bypass closes once the last slot of every response has left (R399), the hop generations follow the last mark
(R385), a new time reference is taken (R479). -/
def frameBoundary (s : State) : State :=
  let s :=
    if s.ring.closeAtFrame ∧ s.ring.out.all (fun m => m.typ ≠ 2) then
      { s with ring := { s.ring with bypassOpen := false, closeAtFrame := false, out := [] } }
    else s
  let s := match s.ring.lastMark with
    | some m => if s.ring.bypassOpen then takeHops m s else s
    | none => s
  match s.pwr.refChange with
  | none => s
  | some _ =>
    withRg 0xA010 3 1 { s with
      pwr := { s.pwr with refChange := none, goodFrames := 0, refLost := false, slew := 0 } }

/-! ## The trim loop -/

/-- The interval since the last frame mark measured against the oscillator: within ±1 ppm of 1,000 ns
(R478). -/
def measureFrame (s : State) : State :=
  let good := match s.pwr.lastFrameAt with
    | some t => s.pwr.osc == t + 1000
    | none => false
  { s with pwr := { s.pwr with
      lastFrameAt := some s.pwr.osc
      goodFrames := if good then min 64 (s.pwr.goodFrames + 1) else 0 } }

/-- The one forward step, at the first frequency lock after reset (R477). -/
def stepTimeForward (node : Nat) (s : State) : State :=
  if s.pwr.goodFrames = 64 ∧ !s.pwr.stepped then
    { s with pwr := { s.pwr with time := max s.pwr.time node, stepped := true } }
  else s

/-- A signed 32-bit report: a value outside the format is not stated (R478). -/
def report32 (v : Int) (s : State) : State :=
  if -(2 : Int) ^ 31 ≤ v ∧ v < 2 ^ 31 then withRg 0xA010 4 (v % 2 ^ 32).toNat s
  else drawn (withRg 0xA010 4 (Config.undefWord s.freeCtr 0xA010 % 2 ^ 32) s)

/-- The loop with frame marks selected: device time slewed towards the node time, the offset reported,
locked within ±20 ns (R478). -/
def trimToMarks (node : Nat) (s : State) : State :=
  let off : Int := (s.pwr.time : Int) - node
  if reference s ≠ 0 ∨ s.pwr.refLost then report32 off s
  else
    let st := if s.pwr.goodFrames = 64 ∧ off.natAbs ≤ 20 then 2 else 1
    report32 off (withRg 0xA010 3 st { s with pwr := { s.pwr with slew := -off } })

/-! ## Frame marks -/

/-- A mark as the module repeats it: hop index plus 1 and its own capability there (R388). -/
def repeated (m : FrameMark) : FrameMark :=
  let hop := (m.hopIndex + 1) % 256
  { m with hopIndex := hop, caps := m.caps.set hop 3 }

/-- Frames between two marks that did not arrive, within the 50 µs that the receiver coasts (R396). -/
def missingFrames (last : Option FrameMark) (m : FrameMark) : Nat :=
  match last with
  | none => 0
  | some l =>
    let gap := (m.frameCount + 2 ^ 32 - l.frameCount) % 2 ^ 32
    if 1 < gap ∧ gap ≤ 51 then gap - 1 else 0

/-- The frame count across its wraps, with a mark. -/
def framesAt (r : RingState) (m : FrameMark) : Nat :=
  match r.lastMark with
  | none => m.frameCount
  | some l => r.frames + (m.frameCount + 2 ^ 32 - l.frameCount) % 2 ^ 32

/-- A mark sent on, its CRC computed (R388). -/
def markOut (m : FrameMark) : Output := .mark (repeated m) (markCrc (repeated m))

/-- What a good mark tells the module (R386, R388): the slot count changes at the announced frame. -/
def readMark (m : FrameMark) (s : State) : State :=
  let gen := hopGen (if m.countdown = 0 then m.nextGen else m.ringGen)
  let s := bump 0x1101 5 (missingFrames s.ring.lastMark m) s
  let s := withRg 0x1100 1 gen (withRg 0x1100 3 (m.members % 256) (withRg 0x1100 7 (m.frameCount % 2 ^ 32) s))
  let s := if s.ring.bypassOpen then withRg 0x1100 2 ((m.hopIndex + 1) % 256) s else s
  { s with ring := { s.ring with lastMark := some m, frames := framesAt s.ring m } }

/-- FRAME_MARK (R387, R388, R477, R478). A mark with a bad CRC is replaced by one built from the last good
mark. -/
def execFrameMark (m : FrameMark) (crc : W32) (s : State) : Out :=
  let s := fresh s
  .next (if !hears s then s
    else
      let s := measureFrame (frameBoundary s)
      if crc = markCrc m then
        let s := readMark m s
        let s := trimToMarks m.nodeTime (stepTimeForward m.nodeTime s)
        sendRing (markOut m) s
      else match s.ring.lastMark with
        | none => s
        | some l =>
          let x := { l with frameCount := (l.frameCount + 1) % 2 ^ 32, nodeTime := l.nodeTime + 1000 }
          let s := { s with ring := { s.ring with lastMark := some x, frames := framesAt s.ring x } }
          if s.ring.bypassOpen then emit (markOut x) (bump 0x1101 2 1 s) else s)

/-! ## Messages (R392, R393, R400) -/

/-- The part of a message received so far. -/
def partOf (s : State) (src sess msg : Nat) : Option PartMsg :=
  s.ring.parts.find? (fun p => p.src == src && p.sess == sess && p.msg == msg)

/-- A part forgotten. -/
def dropPart (src sess msg : Nat) (s : State) : State :=
  { s with ring := { s.ring with
      parts := s.ring.parts.filter (fun p => !(p.src == src && p.sess == sess && p.msg == msg)) } }

/-- A part received. -/
def putPart (p : PartMsg) (s : State) : State :=
  let s := dropPart p.src p.sess p.msg s
  { s with ring := { s.ring with parts := s.ring.parts ++ [p] } }

/-- A message the module will act on. -/
def putInbox (p : PartMsg) (s : State) : State :=
  { s with ring := { s.ring with inbox := s.ring.inbox ++ [p] } }

/-- The first message received of a type and session taken. -/
def takeMsg (typ sess : Nat) (s : State) : State :=
  { s with ring := { s.ring with inbox := s.ring.inbox.eraseP (fun p => p.typ == typ && p.sess == sess) } }

/-- The protocol error of a request message's head, 0 where there is none (R400, R417). -/
def headCode (b : Bytes) : Nat :=
  let cmd := leAt b 0 1
  let len := leAt b 8 8
  let want := if cmd = 1 then 24 else if cmd = 3 then 16 + len else 16
  if b.length < 16 then 0x06000002
  else if cmd < 1 ∨ 6 < cmd then 0x06000001
  else if leAt b 1 1 ≠ 0 ∨ leAt b 5 3 ≠ 0 ∨ b.length ≠ want then 0x06000002
  else 0

/-- The command byte is that of a write. -/
def writesHead (b : Bytes) : Bool := [1, 3, 5].contains (leAt b 0 1)

/-- A request answered with a protocol error; a rejected write is counted (R469). -/
def protocolError (q : Req) (head : Bytes) (write : Bool) (code : Nat) (s : State) : State :=
  onArrival q (fun s =>
    let s := noteHead q head s
    if write then rejectReq q code s else respond q code [] s) s

/-- The epoch of a message of a session (R451). -/
def epochOf (s : State) (p : PartMsg) : Nat := (p.frame - (sessOf s p.sess).since) / 2 ^ 31

/-- A message's bytes in clear (R393, R451): those of session 0 as they came; those of an established session
decrypted under the ring key of its epoch, if the tag in its last 16 bytes holds. -/
def openMessage (s : State) (p : PartMsg) : Option Bytes :=
  let x := sessOf s p.sess
  let n := p.data.length - 16
  if p.sess = 0 then some p.data
  else if x.state ≠ .established ∨ p.data.length < 16 then none
  else
    gcmOpen (keyBytes (sessionKey x.prk false (epochOf s p))) (ringNonce false p.sess p.frame p.index)
      (ringAad p.header) (p.data.take n) (blockOf (p.data.drop n))

/-- A message complete: its tag checked (R393), its head read. A request with a good head waits for its
command, and so does a message of types 4 to 6. -/
def messageDone (p : PartMsg) (s : State) : State :=
  match openMessage s p with
  | none => bump 0x1101 3 1 s
  | some body =>
    if p.typ = 1 then
      let code := headCode body
      if code = 0 then putInbox { p with data := body } s
      else protocolError ⟨p.sess, p.msg⟩ (slice (body ++ zeros 5) 0 5) (writesHead body) code s
    else if 4 ≤ p.typ then putInbox { p with data := body } s
    else s

/-- A message that begins with a slot. -/
def partFrom (s : State) (x : Slot) : PartMsg :=
  let f := slotFields x
  { src := f.src, sess := f.sess, msg := f.msg, typ := f.typ, next := 0, lastTime := 0, data := []
    frame := s.ring.frames, index := x.index, header := slotHeader x }

/-- A slot addressed to the module joined to its message: in ascending order from 0 (R392). A slot out of
order loses the message. -/
def takeSlot (x : Slot) (s : State) : State :=
  let f := slotFields x
  let prior := if f.first then none else partOf s f.src f.sess f.msg
  let p := prior.getD (partFrom s x)
  let fits := f.num == p.next && p.typ == f.typ && f.first == prior.isNone
  let s := dropPart f.src f.sess f.msg s
  if !fits then bump 0x1101 3 1 s
  else
    let p := { p with next := p.next + 1, lastTime := s.pwr.time, data := p.data ++ f.data }
    if f.last then messageDone p s else putPart p s

/-- A second member with this position (R398): INERT, and the bypass closes at the next frame boundary. -/
def duplicateFound (s : State) : State :=
  let s := closeSoon (bump 0x1101 6 1 (if s.dev = .inert then s else leaveEffects s))
  { s with ring := { s.ring with out := [] } }

/-! ## Slots that the module fills (R390, R392) -/

/-- The position that data slot j of frame f is reserved to (R390). -/
def slotOwner (gen f j : Nat) : Option Nat :=
  let r := if gen = 1 then 12 else 32
  if j ≤ r then some (1 + (r * f + j - 1) % 32) else none

/-- The module may fill data slot j of this frame: reserved to it, or to no member present (R390). -/
def mayFill (s : State) (j : Nat) : Bool :=
  match s.ring.lastMark with
  | none => false
  | some m =>
    match slotOwner (rg s 0x1100 1) m.frameCount j with
    | none => true
    | some p => p == position s || !m.present.getLsbD (p - 1)

/-- A message as it travels from data slot j of this frame on: protected in a session (R393, R451). -/
def sealMessage (s : State) (j : Nat) (m : OutMsg) : OutMsg :=
  if m.sess = 0 then m
  else
    let since := if m.opens ≠ 0 then s.ring.frames else m.since
    let header := m.typ * 2 ^ 52 + position s * 2 ^ 40 + m.sess * 2 ^ 37 + m.msg * 2 ^ 12
    let r := gcmSeal (keyBytes (sessionKey m.prk true ((s.ring.frames - since) / 2 ^ 31)))
      (ringNonce true m.sess s.ring.frames j) (ringAad header) m.rest
    { m with rest := r.1 ++ octets16 r.2 }

/-- What the first slot of a success result fixes (R451), and the last slot of a reply (R449). -/
def slotLeft (m : OutMsg) (last : Bool) (s : State) : State :=
  let x := sessOf s m.opens
  if m.opens = 0 then s
  else if m.sess = 0 then (if last then withSess m.opens { x with replyAt := s.pwr.time } s else s)
  else if m.num = 0 then withSess m.opens { x with since := s.ring.frames } s
  else s

/-- The data slot that carries the next 88 bytes of a message (R389). -/
def slotOf (s : State) (j : Nat) (m : OutMsg) : Slot :=
  let n := min 88 m.rest.length
  let last := decide (m.rest.length ≤ 88)
  let header := m.typ * 2 ^ 52 + position s * 2 ^ 40 + m.sess * 2 ^ 37 + (m.num == 0).toNat * 2 ^ 36
    + last.toNat * 2 ^ 35 + n * 2 ^ 28 + m.msg * 2 ^ 12 + m.num
  let body := leBytes 7 header ++ slice (m.rest ++ zeros 88) 0 88
  { index := j, bytes := body ++ leBytes 4 (crc32c body).toNat, own := true }

/-- An empty slot that passes, filled with the next slot of the first message waiting. -/
def fillSlot (x : Slot) (s : State) : State :=
  match s.ring.out with
  | [] => emit (.forwardSlot x) s
  | m :: rest =>
    if !mayFill s x.index then emit (.forwardSlot x) s
    else
      let s := slotLeft m (decide (m.rest.length ≤ 88)) s
      let m := if m.num = 0 then sealMessage s x.index m else m
      let left := { m with rest := m.rest.drop 88, num := m.num + 1 }
      emit (.forwardSlot (slotOf s x.index m))
        { s with ring := { s.ring with out := if left.rest.isEmpty then rest else left :: rest } }

/-- DATA_SLOT (R390, R391, R398). -/
def execDataSlot (x : Slot) (s : State) : Out :=
  let s := fresh s
  let f := slotFields x
  .next (if !hears s then s
    else if !slotGood x ∨ 6 < f.typ ∨ 32 < f.dst then sendRing .emptySlot (bump 0x1101 1 1 s)
    else if f.src = position s ∧ f.typ ≠ 0 ∧ !x.own ∧ s.ring.bypassOpen then
      emit (.forwardSlot x) (duplicateFound s)
    else if f.typ ≠ 0 ∧ f.dst = position s then sendRing .emptySlot (takeSlot x s)
    else if f.typ = 0 ∧ s.ring.bypassOpen then fillSlot x s
    else sendRing (.forwardSlot x) s)

/-- MESSAGE_TIMEOUT (R392): 100 µs without the next slot; a request is answered that it is incomplete
(R417). -/
def execMessageTimeout (src sess msg : Nat) (s : State) : Out :=
  let s := fresh s
  .next (match partOf s src sess msg with
    | none => s
    | some p =>
      if s.pwr.inReset ∨ s.pwr.time < p.lastTime + 100000 then s
      else
        let s := bump 0x1101 3 1 (dropPart src sess msg s)
        let answered := p.typ = 1 ∧ (sess = 0 ∨ (sessOf s sess).state = .established)
        if answered then respond ⟨sess, msg⟩ 0x06000003 [] s else s)

/-! ## Events (R238, R414) -/

/-- An event sent to its audience's session, if that is established. -/
def sendEvent (e : Event) (s : State) : State :=
  if (sessionOf s (if e.aud = 1 then .operator else .tenant)).isSome then sendRing (.event e) s else s

/-- The first event of the queue sent. -/
def sendFirst (s : State) : State :=
  match s.ring.queue with
  | [] => s
  | e :: t => sendEvent e { s with ring := { s.ring with queue := t } }

/-- A lost-event count raised in the room there is, and sent before the queue's first event. -/
def sendLost (k n : Nat) (s : State) : State :=
  let s := { s with ring := { s.ring with lost := s.ring.lost.filter (fun p => p.1 ≠ k) } }
  let before := s.ring.queue
  let s := raiseFor (k % 4) 0x0040 (leBytes 2 (k / 4) ++ leBytes 4 n) s
  match s.ring.queue.drop before.length with
  | e :: _ => sendEvent e { s with ring := { s.ring with queue := before } }
  | [] => s

/-- EVENT_TRANSMIT (R414): needs a slot on an open ring. -/
def execEventTransmit (s : State) : Out :=
  let s := fresh s
  .next (if !hears s || !s.ring.bypassOpen then s
    else match s.ring.lost with
      | p :: _ => if s.ring.queue.length < 256 then sendFirst (sendLost p.1 p.2 s) else sendFirst s
      | [] => sendFirst s)

/-! ## Bulk channels (R409 to R411) -/

/-- Bulk channel c. -/
def chanOf (s : State) (c : Nat) : BulkChan := at_ {} c s.ring.channels

/-- Bulk channel c replaced. -/
def withChan (c : Nat) (x : BulkChan) (s : State) : State :=
  { s with ring := { s.ring with channels := set_ {} c x s.ring.channels } }

/-- Bytes in a block. -/
def blockBytes : Nat := 65536

/-- The blocks of a length. -/
def blockTotal (n : Nat) : Nat := ceilDiv n blockBytes

/-- The bytes of block k of a length. -/
def blockLen (n k : Nat) : Nat := min blockBytes (n - blockBytes * k)

/-- A buffer that R410 calls held: named by an admitted micro-batch, or buffer 0 while a prepare is
pending. -/
def bufferHeld (s : State) (b : Nat) : Bool :=
  s.ex.admitted.any (fun a => a.buffer == b) || (b == 0 && (pendOf s .prepare).isSome)

/-- An open's fields. -/
def openOf (b : Bytes) : BulkOpen := ⟨leAt b 0 1, leAt b 1 1, leAt b 2 2, leAt b 4 4, leAt b 8 8, leAt b 16 8⟩

/-- An open's 24 bytes. -/
def openBytes (o : BulkOpen) : Bytes :=
  leBytes 1 o.chan ++ leBytes 1 o.direction ++ leBytes 2 o.buffer ++ leBytes 4 o.reserved
    ++ leBytes 8 o.offset ++ leBytes 8 o.length

/-- An open's fields in range. -/
def openOk (s : State) (o : BulkOpen) : Bool :=
  let len := (bufferIn s.regs o.buffer).2
  o.chan < 8 && o.direction ≤ 1 && o.buffer < 128 && 1 ≤ o.length
    && o.offset + o.length ≤ len

/-- A block of a channel that sends, read from its buffer. -/
def chanBlock (s : State) (x : BulkChan) (k : Nat) : Bytes :=
  bytesAt s ((bufferIn s.regs x.buffer).1 + x.offset + blockBytes * k) (blockLen x.length k)

/-- Addresses that lie in every quadrant of a buffer: one round of lines from each place where the
interleave of R205 changes. -/
def bufferLines (s : State) (base len : Nat) : List Nat :=
  let b := rg s 0x4000 3 * (20 * 2 ^ 30)
  let starts := base :: b :: (List.range 4).map (fun k => k * (b / 4))
  (starts.flatMap (fun a => (List.range 20).map (fun i => a + 256 * i))).filter
    (fun a => base ≤ a && a < base + len)

/-- The memory of the quadrants that hold a buffer is trained and not gated (R500). -/
def bufferServed (s : State) (b : Nat) : Bool :=
  let x := bufferIn s.regs b
  s.mem.trained && (bufferLines s x.1 x.2).all (fun a => !gated s (12 + quadrantOf s a))

/-- A block of a channel that sends, read in partition 15 and sent (R217, R411). -/
def sendChanBlock (c : Nat) (x : BulkChan) (k : Nat) (s : State) : State :=
  let data := chanBlock s x k
  let a := (bufferIn s.regs x.buffer).1 + x.offset + blockBytes * k
  sendRing (.block (blockOfData x.sess true c x.msg k data)) (readRange moduleUnit none a data.length s)

/-- Blocks sent while at most 8 are unacknowledged and the buffer's memory is served (R402, R223). fuel: 8 at most are
sent. -/
def pumpChan (c : Nat) : Nat → State → State
  | 0, s => s
  | fuel + 1, s =>
    let x := chanOf s c
    if x.state ≠ 1 ∨ x.dir ≠ 1 ∨ 8 ≤ x.unacked.length ∨ blockTotal x.length ≤ x.next ∨ !bufferServed s x.buffer then s
    else
      let n := x.next
      pumpChan c fuel (sendChanBlock c x n
        (withChan c { x with next := n + 1, unacked := x.unacked ++ [(n, s.pwr.time)] } s))

/-- Every channel that sends goes on where it can, as when its memory is served again. -/
def pumpChans (s : State) : State := (List.range 8).foldl (fun s c => pumpChan c 8 s) s

/-- The staged image's length (0x2010:01, R54): what channels to buffer 0 have received, from an open at
offset 0 on. -/
def noteStaged (x : BulkChan) (s : State) : State :=
  if x.dir = 0 ∧ x.buffer = 0 then
    if 0 < x.acked then withRg 0x2010 1 (max (rg s 0x2010 1) (x.offset + x.acked)) s
    else if x.offset = 0 then withRg 0x2010 1 0 s
    else s
  else s

/-- The rule of 0x1200:01 (R410). -/
def bulkOpenRule (q : Req) (value : Bytes) (s : State) : Rule :=
  let o := openOf value
  let x := chanOf s o.chan
  { codes :=
      [need (x.state == 0 || x.state == 2) 0x03000001,
       need (!bufferHeld s o.buffer) 0x03000003,
       need (openOk s o) 0x02000011, need (o.reserved = 0) 0x0200FF02]
    apply :=
      let x : BulkChan :=
        { state := 1, dir := o.direction, sess := q.sess, msg := q.msg, buffer := o.buffer
          offset := o.offset, length := o.length }
      fun s => withChan o.chan x (noteStaged x s)
    after := pumpChan o.chan 8 }

/-- BULK_OPEN (R410). -/
def execBulkOpen (q : Req) (o : BulkOpen) (s : State) : Out :=
  .next (writeReq q 0 0x1200 1 (openBytes o) (bulkOpenRule q (openBytes o)) s)

/-- The rule of 0x1200:02 (R410): the channel closed, unacknowledged blocks discarded. -/
def bulkCloseRule (value : Bytes) : Rule :=
  let c := leNat value
  { apply := fun s => withChan c { sess := (chanOf s c).sess, msg := (chanOf s c).msg } s }

/-- BULK_CLOSE (R410). -/
def execBulkClose (q : Req) (chan : Nat) (s : State) : Out :=
  let v := leBytes 1 chan
  .next (writeReq q 0 0x1200 2 v (fun _ => bulkCloseRule v) s)

/-- A block acknowledged by the channel: its bytes counted; complete with the last one. -/
def chanAcked (x : BulkChan) (k : Nat) : BulkChan :=
  let x := { x with unacked := x.unacked.filter (fun p => p.1 ≠ k) }
  if x.done.contains k then x
  else
    let x := { x with done := x.done ++ [k], acked := x.acked + blockLen x.length k }
    if x.done.length = blockTotal x.length then { x with state := 2 } else x

/-- BULK_BLOCK_WRITTEN (R411): the block's data are in memory and acknowledged there, in partition 15; a
channel closed meanwhile takes status 1 and nothing. -/
def execBulkBlockWritten (chan num : Nat) (data : Bytes) (s : State) : Out :=
  let s := fresh s
  let x := chanOf s chan
  let a := (bufferIn s.regs x.buffer).1 + x.offset + blockBytes * num
  .next (if !hears s ∨ 8 ≤ chan then s
    else if x.state = 0 then sendRing (.blockAck ⟨x.sess, true, chan, x.msg, num, 1⟩) s
    else if !x.unacked.any (fun p => p.1 == num) ∨ x.dir ≠ 0 ∨ !memServes s a then s
    else
      let s := withChan chan (chanAcked x num) (storeBytes moduleUnit a data s)
      sendRing (.blockAck ⟨x.sess, true, chan, x.msg, num, 0⟩) (noteStaged (chanAcked x num) s))

/-- A block received on a channel (R402, R411, R500): a good one waits to be written; a bad one, or one
that memory cannot take, is asked for again, 8 times at most. -/
def bulkReceived (b : Block) (s : State) : State :=
  let x := chanOf s b.chan
  let ack := fun (st : Nat) => sendRing (.blockAck ⟨b.sess, true, b.chan, b.msg, b.num, st⟩)
  if x.state = 0 ∨ x.state = 3 ∨ x.msg ≠ b.msg then ack 1 s
  else if x.dir ≠ 0 then s
  else if x.done.contains b.num then ack 0 s
  else if blockGood b ∧ b.num < blockTotal x.length ∧ b.data.length = blockLen x.length b.num
      ∧ bufferServed s x.buffer then
    withChan b.chan { x with unacked := x.unacked.filter (fun p => p.1 ≠ b.num) ++ [(b.num, s.pwr.time)] } s
  else if 8 ≤ at_ 0 b.num x.resent then withChan b.chan { x with state := 3 } s
  else ack 1 (withChan b.chan { x with resent := set_ 0 b.num (at_ 0 b.num x.resent + 1) x.resent } s)

/-- A block of a channel that sends, sent again; after 8 resends the channel has failed. -/
def chanResend (c k : Nat) (s : State) : State :=
  let x := chanOf s c
  if 8 ≤ at_ 0 k x.resent then withChan c { x with state := 3, unacked := [] } s
  else if !bufferServed s x.buffer then s
  else
    sendChanBlock c x k (withChan c
      { x with resent := set_ 0 k (at_ 0 k x.resent + 1) x.resent
               unacked := x.unacked.map (fun p => if p.1 = k then (k, s.pwr.time) else p) } s)

/-! ## Blocks that the module sends (R402, R403) -/

/-- The transfer of a block transaction. -/
def transferOf (s : State) (toModule : Bool) (sess msg : Nat) : Option Transfer :=
  s.ring.transfers.find? (fun t => t.toModule == toModule && t.sess == sess && t.msg == msg)

/-- A transfer forgotten. -/
def dropTransfer (t : Transfer) (s : State) : State :=
  { s with ring := { s.ring with transfers := s.ring.transfers.filter (fun x => !(x.sess == t.sess && x.msg == t.msg)) } }

/-- A transfer replaced. -/
def putTransfer (t : Transfer) (s : State) : State :=
  let s := dropTransfer t s
  { s with ring := { s.ring with transfers := s.ring.transfers ++ [t] } }

/-- A value cut into blocks. -/
def cutBlocks (value : Bytes) : List (Nat × Bytes) :=
  (List.range (blockTotal value.length)).map (fun k => (k, slice value (blockBytes * k) blockBytes))

/-- Blocks of a block read sent while at most 8 are unacknowledged. -/
def pumpTransfer (sess msg : Nat) : Nat → State → State
  | 0, s => s
  | fuel + 1, s =>
    match transferOf s false sess msg with
    | none => s
    | some t =>
      if 8 ≤ t.unacked.length ∨ t.blocks.length ≤ t.next then s
      else
        pumpTransfer sess msg fuel (sendRing (.block (blockOfData sess false 0 msg t.next (at_ [] t.next t.blocks)))
          (putTransfer { t with next := t.next + 1, unacked := t.unacked ++ [(t.next, s.pwr.time)] } s))

/-- A block of a block read sent again; after 8 resends the transfer ends (R402). -/
def transferResend (t : Transfer) (k : Nat) (s : State) : State :=
  if 8 ≤ at_ 0 k t.resent then respond ⟨t.sess, t.msg⟩ 0x06000004 [] (dropTransfer t s)
  else
    sendRing (.block (blockOfData t.sess false 0 t.msg k (at_ [] k t.blocks))) (putTransfer
      { t with resent := set_ 0 k (at_ 0 k t.resent + 1) t.resent
               unacked := t.unacked.map (fun p => if p.1 = k then (k, s.pwr.time) else p) } s)

/-- A block's acknowledgement: good frees it, else it is sent again. -/
def blockAcked (a : BlockAck) (s : State) : State :=
  if a.bulk then
    let x := chanOf s a.chan
    if x.state ≠ 1 ∨ x.dir ≠ 1 ∨ !x.unacked.any (fun p => p.1 == a.num) then s
    else if a.status = 0 then pumpChan a.chan 8 (withChan a.chan (chanAcked x a.num) s)
    else chanResend a.chan a.num s
  else
    match transferOf s false a.sess a.msg with
    | none => s
    | some t =>
      if !t.unacked.any (fun p => p.1 == a.num) then s
      else if a.status ≠ 0 then transferResend t a.num s
      else
        let t := { t with unacked := t.unacked.filter (fun p => p.1 ≠ a.num) }
        if t.unacked.isEmpty ∧ t.blocks.length ≤ t.next then completed ⟨t.sess, t.msg⟩ 0 [] (dropTransfer t s)
        else pumpTransfer t.sess t.msg 8 (putTransfer t s)

/-- BLOCK_ACKNOWLEDGEMENT (R402). -/
def execBlockAcknowledgement (a : BlockAck) (s : State) : Out :=
  let s := fresh s
  .next (if !hears s ∨ (a.sess ≠ 0 ∧ (sessOf s a.sess).state ≠ .established) then s
    else blockAcked a (takeMsg 5 a.sess s))

/-- BLOCK_ACK_TIMEOUT (R402): 1 ms without an acknowledgement. -/
def execBlockAckTimeout (a : BlockAck) (s : State) : Out :=
  let s := fresh s
  let due := fun (l : List (Nat × Nat)) => l.any (fun p => p.1 == a.num && p.2 + 1000000 ≤ s.pwr.time)
  .next (if s.pwr.inReset then s
    else if a.bulk then
      let x := chanOf s a.chan
      if x.state = 1 ∧ x.dir = 1 ∧ due x.unacked then chanResend a.chan a.num s else s
    else match transferOf s false a.sess a.msg with
      | some t => if due t.unacked then transferResend t a.num s else s
      | none => s)

end Sys2Proof.Machine
end

