-- ==== Sys2Proof/Machine/Resilience.lean ====
section
/-! DEFINITION. Securing and recovery: held copies and remote state parcels (R360, R366, R367), abandon,
restore and share repair (R368 to R371, R380), arming a hold-commit (R373), loading the scale state (R158,
R435).

Choices beyond the manual's plain words (notes/assumptions): DEDUCED 88, 92, 93, 94, 95, 96, 122. -/

namespace Sys2Proof.Machine

/-! ## Held copies (R360, R367) -/

/-- The module answers and keeps copies for its peers: not in INERT or FAULTED, in Run or Still (R367,
R484). -/
def holderWorks (s : State) : Bool :=
  s.dev != .inert && s.dev != .faulted && (s.pwr.cur == .run || s.pwr.cur == .still) && !s.pwr.inReset
    && s.ring.clock

/-- The held copies replaced. -/
def withHeld (l : List HeldCopy) (s : State) : State := { s with res := { s.res with held := l } }

/-- The copy that a message of subtype 0 to 3 names. Subtype 3 names the current copy of a share stripe. -/
def isNamed (m : RemoteMsg) (c : HeldCopy) : Bool :=
  c.current == (m.subtype == 3) && c.subtype == (if m.subtype = 3 then 0 else m.subtype)
    && c.owner == m.ownerRank && c.entry == m.entry && c.stripe == m.stripe
    && c.generation % 65536 == m.generation

/-- A copy found unusable (R379): not complete any more, and counted once. -/
def spoilCopy (m : RemoteMsg) (s : State) : State :=
  let hit := s.res.held.filter (fun c => isNamed m c && c.complete)
  bump 0x8030 4 hit.length
    (withHeld (s.res.held.map (fun c => if isNamed m c then { c with complete := false } else c)) s)

/-- A response of a holder: the request's kind fields with a status, and data when it is 0. -/
def respondRemote (m : RemoteMsg) (block status : Nat) (data : Bytes) (s : State) : State :=
  sendParcel (peerOf s m.peer) 3 2 .state
    (remoteKf { m with block := block, status := status, scoreTag := scoreTag s }) data s

/-- A range of a collective's destination (subtype 4). -/
def gatheredRange (s : State) (m : RemoteMsg) : Option (Nat × Nat) :=
  (s.ex.score.bind (fun sc => collCtx sc s m.coll)).map (fun x => (dstAddr x + m.offset, m.length))

/-- A holder's answer to a request (R367). -/
def answerRequest (m : RemoteMsg) (s : State) : State :=
  if !tagMatches s m.scoreTag then respondRemote m 0 3 [] s
  else if m.subtype = 4 then
    match gatheredRange s m with
    | none => respondRemote m 0 1 [] s
    | some r =>
      if poisonedIn s r.1 r.2 then respondRemote m 0 2 [] s
      else respondRemote m 0 0 (bytesAt s r.1 r.2) (readRange (stateUnit s) none r.1 r.2 s)
  else
    match s.res.held.find? (isNamed m) with
    | none => respondRemote m 0 1 [] s
    | some c =>
      if c.poisoned then respondRemote m 0 2 [] (spoilCopy m s)
      else if !c.complete then respondRemote m 0 1 [] s
      else
        bump 0x8030 3 1 (c.blocks.foldl (fun s b => respondRemote m b.1 0 b.2 s) s)

/-- REMOTE_READ_REQUEST (R367). -/
def execRemoteReadRequest (m : RemoteMsg) (s : State) : Out :=
  let s := fresh s
  .next (if holderWorks s && m.tagGood then answerRequest m s else s)

/-- The length of what a message of subtypes 0 to 2 names, as this member computes it: the lists and groups of
all members agree (R358). -/
def namedLength (sc : Score) (s : State) (m : RemoteMsg) : Nat :=
  if m.subtype = 2 then 64
  else if m.subtype = 1 then
    match (regionsOf s.regs).find? (fun r => r.1 == m.entry) with
    | some r => stripeLen r.2.2.1 m.stripe
    | none => 0
  else
    match (glazedColl s.regs m.entry).bind (collCtx sc s) with
    | some x =>
      stripeLen ((shareOf x.sts (affineAddr s.regs m.ownerRank) x.e).2 * x.esize) m.stripe
    | none => 0

/-- A block stored in a list of blocks. -/
def storeBlock (i : Nat) (b : Bytes) (l : List (Nat × Bytes)) : List (Nat × Bytes) := put i b l

/-- A remote write stored (R360): a copy being written is complete once every block has come; it then takes
its place among the copies kept. -/
def storeRemote (m : RemoteMsg) (s : State) : State :=
  if !m.tagGood then spoilCopy m s
  else if !tagMatches s m.scoreTag then bump 0x6050 6 1 s
  else onScore s (fun sc s =>
    let old := (s.res.held.find? (fun c => isNamed m c && !c.complete)).getD
      ⟨m.subtype == 3, if m.subtype = 3 then 0 else m.subtype, m.ownerRank, m.entry, m.stripe, m.generation, [],
        false, false⟩
    let c := { old with blocks := storeBlock m.block m.data old.blocks, poisoned := old.poisoned || m.poisoned }
    let whole := ceilDiv (namedLength sc s m) 4096 ≤ c.blocks.length
    if whole then withHeld (keepCopy { c with complete := true } s.res.held) s
    else withHeld (s.res.held.filter (fun x => !(isNamed m x && !x.complete)) ++ [c]) s)

/-- REMOTE_WRITE (R360). -/
def execRemoteWrite (m : RemoteMsg) (s : State) : Out :=
  let s := fresh s
  .next (if holderWorks s && m.subtype ≤ 3 then storeRemote m s else s)

/-! ## Pulls (R370, R371, R380) -/

/-- The glazed collective of an entry. -/
def glazedCtx (sc : Score) (s : State) (t : Nat) : Option CollCtx := (glazedColl s.regs t).bind (collCtx sc s)

/-- The address of the holder that a pull asks now; none past the last holder. A gathered range is asked of
its owner. -/
def pullHolder (sc : Score) (s : State) (p : Pull) : Option Nat :=
  if p.subtype = 4 then some p.holder
  else if max 1 (rg s 0x8000 2) ≤ p.holder then none
  else
    let entry :=
      if p.subtype = 1 then ((regionsOf s.regs).find? (fun r => r.1 == p.entry)).map (fun r => r.2.2.2)
      else if p.subtype = 2 then ((glazedOf sc s.regs).head?).map (fun g => g.1)
      else some p.entry
    (entry.bind (glazedCtx sc s)).map (fun x =>
      holderOf (holderList x.sts x.self) (rg s 0x8000 2) (if p.subtype = 2 then 0 else p.entry) p.stripe p.holder)

/-- Where a pulled item goes: its address and length. The secure record goes nowhere. -/
def pullPlace (sc : Score) (s : State) (p : Pull) : Nat × Nat :=
  if p.subtype = 2 then (0, 64)
  else if p.subtype = 1 then
    match (regionsOf s.regs).find? (fun r => r.1 == p.entry) with
    | some r => (r.2.1 + p.stripe * stripeBytes, stripeLen r.2.2.1 p.stripe)
    | none => (0, 0)
  else
    match glazedCtx sc s p.entry with
    | some x =>
      let r := shareOf x.sts x.self x.e
      (dstAddr x + r.1 * x.esize + p.stripe * stripeBytes, stripeLen (r.2 * x.esize) p.stripe)
    | none => (0, 0)

/-- The request of a pull. -/
def pullMsg (s : State) (p : Pull) : RemoteMsg :=
  if p.subtype = 3 then copyMsg s p.entry p.stripe
  else { ownMsg s p.subtype p.entry p.stripe with generation := (s.res.restore.getD 0) % 65536 }

/-- A pull sent to its holder, or to the next one that is not silent (R371). fuel: holders there can be. -/
def askPull (sc : Score) : Nat → Pull → State → Option Pull × State
  | 0, _, s => (none, s)
  | n + 1, p, s =>
    match pullHolder sc s p with
    | none => (none, s)
    | some h =>
      if isSilent s (resolved s h) then askPull sc n { p with holder := p.holder + 1, blocks := [] } s
      else (some p, sendParcel h 4 1 .state (remoteKf (pullMsg s p)) [] s)

/-- A restore that cannot go on (R371). -/
def restoreFailed (p : Pull) (s : State) : State :=
  let s := { s with res := { s.res with restore := none, pulls := [], gathering := false } }
  raise 3 0x0009 (leBytes 4 p.entry ++ leBytes 4 p.stripe) (withRg 0x8003 4 8 s)

/-- A repair that no holder can serve (R380): a late error, with the module held. -/
def repairFailed (sc : Score) (p : Pull) (s : State) : State :=
  let a := (pullPlace sc s p).1
  let s := markLate { s with ex := { s.ex with step := { s.ex.step with lateErr := true } } }
  let s := faultEvent 0x03200005 3 (stackLoc s a) s
  if s.dev = .running ∧ !s.ex.step.running then { s with dev := .held } else s

/-- A pull moved to its next holder. -/
def nextHolder (sc : Score) (p : Pull) (s : State) : State :=
  let r := askPull sc 5 { p with holder := p.holder + 1, blocks := [] } s
  let put' := fun (l : List Pull) => match r.1 with
    | some p' => l.map (fun x => if x = p then p' else x)
    | none => l.filter (fun x => x ≠ p)
  let s := { r.2 with res := { r.2.res with pulls := put' r.2.res.pulls, repairs := put' r.2.res.repairs } }
  match r.1 with
  | some _ => s
  | none => if p.subtype = 3 then repairFailed sc p s else restoreFailed p s

/-- Pulls that wait for a peer now silent go on to their next holders (R371). -/
def pullsPast (peer : Nat) (s : State) : State :=
  onScore s (fun sc s =>
    let late := (s.res.pulls ++ s.res.repairs).filter (fun p =>
      !p.arrived && p.subtype ≠ 4 && (pullHolder sc s p).map (resolved s) == some peer)
    late.foldl (fun s p => if p ∈ s.res.pulls ++ s.res.repairs then nextHolder sc p s else s) s)

/-! ## Restore (R370) -/

/-- The items that a restore pulls: the stripes of each glazed share and region, and the record. -/
def restoreItems (sc : Score) (s : State) : List Pull :=
  let stripes := fun (sub t n : Nat) => (List.range (ceilDiv n stripeBytes)).map (fun i =>
    (⟨sub, t, i, 0, [], false⟩ : Pull))
  (glazedOf sc s.regs).flatMap (fun g =>
      match collCtx sc s g.2.1 with
      | some x => stripes 0 g.1 ((shareOf x.sts x.self x.e).2 * x.esize)
      | none => [])
    ++ (regionsOf s.regs).flatMap (fun r => stripes 1 r.1 r.2.2.1)
    ++ [⟨2, 0, 0, 0, [], false⟩]

/-- Steps 1 and 2 of a restore: current copies incomplete, contexts reopened under the key of the restore
point, every item asked for. -/
def startRestore (s0 : Nat) (sc : Score) (s : State) : State :=
  let s := withHeld (s.res.held.map (fun c => if c.current then { c with complete := false } else c)) s
  let s := withRg 0x8003 4 3 { s with
    res := { s.res with restore := some s0, pulls := [], gathering := false, repairs := [] }
    ex := { s.ex with step := { num := s0 }
                      force := { s.ex.force with members := s.fab.members, groups := s.fab.groups } }
    col := { s.col with runs := [] } }
  let s := openContexts sc (closeContexts (deriveParcelKey s0 s))
  (restoreItems sc s).foldl (fun s p =>
    if s.res.restore.isNone then s
    else
      let r := askPull sc 5 p s
      match r.1 with
      | some p => { r.2 with res := { r.2.res with pulls := r.2.res.pulls ++ [p] } }
      | none => restoreFailed p r.2) s

/-- The blocks of an arrived item as one byte string. -/
def pullBytes (p : Pull) : Bytes := p.blocks.flatMap (fun b => b.2)

/-- The secure record installed (R364, R370). -/
def installRecord (s0 : Nat) (b : Bytes) (s : State) : State :=
  let s := withRg 0x3031 3 (leAt b 8 8) (withRg 0x3031 2 (leAt b 24 8) (withRg 0x3031 4 (leAt b 32 4) s))
  { s with ex := { s.ex with scale := scaleOf (leAt b 16 8), scaleLoad := none, nextStep := s0 + 1 } }

/-- The gather stages of a glazed collective run from its restored share. -/
def regather (s : State) (x : CollCtx) : State :=
  let s := withRun x.n { started := true, held := (runOf s x.n).held } s
  let s := if x.sts.isEmpty then completeColl x s else enterStage x (5 + (x.sts.length - 1)) s
  advanceColl x 12 s

/-- Steps 3 to 5 of a restore, once every item has arrived. -/
def useRestored (s0 : Nat) (sc : Score) (s : State) : State :=
  let s := s.res.pulls.foldl (fun s p =>
    if p.subtype = 2 then installRecord s0 (pullBytes p) s
    else storeBytes (stateUnit s) (pullPlace sc s p).1 (pullBytes p) s) s
  let s := copyConstants sc { s with res := { s.res with pulls := [], gathering := true } }
  ((glazedOf sc s.regs).filterMap (fun g => collCtx sc s g.2.1)).foldl regather s

/-- The rule of 0x8003:02 (R370). -/
def restoreRule (value : Bytes) (s : State) : Rule :=
  let glazed := match s.ex.score with
    | some sc => !(glazedOf sc s.regs).isEmpty
    | none => false
  { codes := [need (s.dev == .prepared || s.dev == .held) 0x03600002,
              need s.res.restore.isNone 0x03600003,
              need (ownRank s).isSome 0x03600004,
              need glazed 0x02600003]
    apply := fun s => onScore s (startRestore (leNat value)) }

/-- RESTORE (R370). -/
def execRestore (q : Req) (step : Nat) (s : State) : Out :=
  let v := leBytes 8 step
  .next (writeReq q 0 0x8003 2 v (restoreRule v) s)

/-- RESTORE_COMPLETE (R370): every glazed collective gathered again; the proof replay is armed. -/
def execRestoreComplete (s : State) : Out :=
  let s := fresh s
  .next (match s.res.restore with
    | none => s
    | some s0 =>
      if !s.res.gathering || s.pwr.inReset || s.dev == .faulted then s
      else onScore s (fun sc s =>
        if (glazedOf sc s.regs).all (fun g => (runOf s g.2.1).complete) then
          bump 0x8030 7 1 (withRg 0x8003 4 4 { s with
            res := { s.res with restore := none, gathering := false, proofArmed := some (s0 + 1), autoHold := true }
            col := { s.col with runs := [] } })
        else s))

/-! ## Read responses (R367, R371, R380) -/

/-- What a response says: a failing tag counts as "not held"; data of another score as a mismatch. -/
def responseStatus (s : State) (m : RemoteMsg) : Nat :=
  if !m.tagGood then 1
  else if m.status = 0 ∧ !tagMatches s m.scoreTag then 3
  else if m.status = 0 ∧ m.poisoned then 2
  else m.status

/-- The pull that a response answers. -/
def answersPull (sc : Score) (s : State) (m : RemoteMsg) (p : Pull) : Bool :=
  !p.arrived && p.subtype == m.subtype && p.entry == m.entry && p.stripe == m.stripe
    && (pullHolder sc s p).map (resolved s) == some m.peer

/-- A block of a pulled item taken. -/
def takeBlock (sc : Score) (s : State) (m : RemoteMsg) (p : Pull) : Pull :=
  let p := { p with blocks := storeBlock m.block m.data p.blocks }
  { p with arrived := ceilDiv (pullPlace sc s p).2 4096 ≤ p.blocks.length }

/-- A share stripe repaired (R380). -/
def finishRepair (sc : Score) (p : Pull) (s : State) : State :=
  bump 0x8030 5 1 (storeBytes (stateUnit s) (pullPlace sc s p).1 (pullBytes p) { s with
    res := { s.res with repairs := s.res.repairs.filter (fun x => x ≠ p) } })

/-- A response for a restore or a repair. -/
def takePulled (m : RemoteMsg) (sc : Score) (s : State) : State :=
  match (s.res.pulls ++ s.res.repairs).find? (answersPull sc s m) with
  | none => s
  | some p =>
    if responseStatus s m ≠ 0 then nextHolder sc p s
    else
      let p' := takeBlock sc s m p
      let put' := fun (l : List Pull) => l.map (fun x => if x = p then p' else x)
      let s := { s with res := { s.res with pulls := put' s.res.pulls, repairs := put' s.res.repairs } }
      if p.subtype = 3 then (if p'.arrived then finishRepair sc p' s else s)
      else
        match s.res.restore with
        | none => s
        | some s0 => if s.res.pulls.all (fun x => x.arrived) then useRestored s0 sc s else s

/-- A gathered range asked for again of its owner. -/
def askRange (m : RemoteMsg) (s : State) : State :=
  sendParcel (peerOf s m.peer) 4 1 .state (remoteKf { m with status := 0, scoreTag := scoreTag s }) [] s

/-- A response with a gathered range (R341, R379): written where it is wanted, asked for again when it brings
no data. -/
def takeRange (m : RemoteMsg) (sc : Score) (s : State) : State :=
  match collCtx sc s m.coll with
  | none => s
  | some x =>
    let r := runOf s x.n
    let run := r.refetch.contains (m.offset, m.length)
    let reps := s.res.repairs.filter (fun p => p.subtype == 4 && p.entry == m.coll && p.stripe == m.offset)
    if !run && reps.isEmpty then s
    else if responseStatus s m ≠ 0 then askRange m s
    else
      let s := storeBytes (stateUnit s) (dstAddr x + m.offset) m.data s
      let s := { s with res := { s.res with repairs := s.res.repairs.filter (fun p => !reps.contains p) } }
      if run then
        advanceColl x 12 (withRun x.n { r with refetch := r.refetch.filter (fun w => w ≠ (m.offset, m.length)) } s)
      else s

/-- A response taken. -/
def takeResponse (m : RemoteMsg) (s : State) : State :=
  onScore s (if m.subtype = 4 then takeRange m else takePulled m)

/-- REMOTE_READ_RESPONSE (R367, R371). -/
def execRemoteReadResponse (m : RemoteMsg) (s : State) : Out :=
  let s := fresh s
  .next (if holderWorks s then takeResponse m s else s)

/-! ## Abandon (R368, R369) -/

/-- Steps 1 to 4 of an abandon. -/
def startAbandon (s : State) : State :=
  let s := dropHostCopy (failPend .hostCopy 0x03000002 s)
  let s := withRg 0x8003 4 1 (bump 0x8030 9 1 s)
  let s := withRg 0x2011 2 0 (withRg 0x8010 1 (2 ^ 64 - 1) (withRg 0x8010 3 (2 ^ 64 - 1) s))
  let s := closeContexts s
  { s with
    ex := { s.ex with admitted := [], heldTokens := [], holdPending := false
                      step := { s.ex.step with running := false, outcome := none, heldFrom := none } }
    col := {}
    res := { s.res with abandonAt := some s.pwr.time, proofArmed := none, autoHold := false, repairs := []
                        restore := none, pulls := [], gathering := false, partner := none, lastSecure := none } }

/-- The rule of 0x8003:01 (R368). -/
def abandonRule (q : Req) (s : State) : Rule :=
  { codes := [need (s.dev == .running || s.dev == .held) 0x03600002]
    later := true
    apply := fun s => startAbandon (addPend .abandon q s) }

/-- ABANDON (R368). -/
def execAbandon (q : Req) (s : State) : Out := .next (writeReq q 0 0x8003 1 (leBytes 1 1) (abandonRule q) s)

/-- Running crumbs and copy jobs have retired (R368). -/
def workRetired (s : State) : Bool :=
  s.sites.all (fun p => p.2.sequencer.isNone && p.2.matrix.isNone && p.2.vector.isNone && p.2.copy.isNone)
    && s.ex.engines.all (fun e => e.2.running.isNone) && s.ex.streams.all (fun e => !e.2.running)

/-- The module's own queues have drained (R249): no request waits at a controller, no write-combining entry is left, no
write waits for an invalidation. -/
def drained (s : State) : Bool := s.mem.waiting.isEmpty && s.mem.wc.isEmpty && s.mem.invWait.isEmpty

/-- ABANDON_COMPLETE (R368): drained, and 1 ms later. -/
def execAbandonComplete (s : State) : Out :=
  let s := fresh s
  .next (match s.res.abandonAt with
    | none => s
    | some t =>
      if s.pwr.inReset || s.pwr.time < t + 1000000 || !workRetired s || !drained s then s
      else
        let s := withRg 0x8003 4 2 { s with
          dev := if s.dev = .running then .held else s.dev, res := { s.res with abandonAt := none } }
        finishPend .abandon (leBytes 1 1) s)

/-! ## Hold-commit and scale state -/

/-- The rule of 0x8010:01 (R373). -/
def armRule (value : Bytes) (s : State) : Rule :=
  let n := leNat value
  let before := s.ex.nextStep ≤ n || (s.ex.step.running && s.ex.step.num == n && s.ex.step.phase == .open)
  storeRule 0x8010 1 value
    [need ((s.dev == .prepared || s.dev == .running || s.dev == .held) && before) 0x03600001]

/-- HOLD_COMMIT_ARM (R373). -/
def execHoldCommitArm (q : Req) (step : Nat) (s : State) : Out :=
  let v := leBytes 8 step
  .next (writeReq q 0 0x8010 1 v (armRule v) s)

/-- The rule of 0x3040:07 (R158). -/
def scaleLoadRule (value : Bytes) (s : State) : Rule :=
  let v := leNat value
  let x := scaleOf v
  { codes := [stateNeed (s.dev == .prepared || s.dev == .held),
              need (bits 63 48 v == 0 && bits 23 6 v == 0) 0x0210FF02,
              need (rg s 0x3040 3 ≤ x.e && x.e ≤ rg s 0x3040 4 && x.c < rg s 0x3040 2 && x.f < rg s 0x3040 5)
                0x0210000A]
    apply := fun s => { s with ex := { s.ex with scaleLoad := some x } } }

/-- SCALE_STATE_LOAD (R158). -/
def execScaleStateLoad (q : Req) (value : W64) (s : State) : Out :=
  let v := leBytes 8 value.toNat
  .next (writeReq q 0 0x3040 7 v (scaleLoadRule v) s)

/-- The start exponent lies between the limits (R157). -/
def scaleLimitsOk (eMin start eMax : Nat) : Bool := eMin ≤ start && start ≤ eMax

/-- The rule of 0x3040:01 (R157, R435): with COMPAT an F32 power of two, logged as its exponent. -/
def startScaleRule (value : Bytes) (s : State) : Rule :=
  let v := leNat value
  let ok := fun e => need (scaleLimitsOk (rg s 0x3040 3) e (rg s 0x3040 4)) 0x02100009
  if s.straps.compat then
    let e := v / 2 ^ 23 - 127
    { codes := [need (v % 2 ^ 23 == 0 && 127 ≤ v / 2 ^ 23 && v / 2 ^ 23 ≤ 190) 0x0210FF01, ok e]
      log := some (0x3040, 1, leBytes 1 e)
      apply := withRg 0x3040 1 e }
  else storeRule 0x3040 1 value [ok v]

/-- KZ8_START_SCALE_WRITE (R435): a four-byte write. -/
def execKz8StartScaleWrite (q : Req) (value : W32) (s : State) : Out :=
  let v := leBytes 4 value.toNat
  .next (writeReq q 0 0x3040 1 v (startScaleRule v) s)

end Sys2Proof.Machine
end

