-- ==== Sys2Proof/Machine/Router.lean ====
section
/-! DEFINITION. The fabric router: leases (R242 to R248, R305), forwarding (R293 to R299), flits received and their
retry (R310 to R315), delivery (R303, R306, R309).

Choices beyond the manual's plain words (notes/assumptions): DEDUCED 75, 76, 80, 81, 139, 145, 146; DESIGN
CHOICE 140. -/

namespace Sys2Proof.Machine

/-- The fabric router runs: Run or Still, out of reset, with the ring clock (R481, R484). -/
def routerWorks (s : State) : Bool :=
  (s.pwr.cur == .run || s.pwr.cur == .still) && !s.pwr.inReset && s.ring.clock

/-! ## Leases -/

/-- An outbound data context: to the module of a node address, under a number. -/
def isOut (s : State) (peer num : Nat) (c : OutCtx) : Bool :=
  resolved s c.peer == peer && c.num == num && c.stream != .control

/-- An inbound data context: from the module of a node address, under a number. -/
def isIn (s : State) (peer num : Nat) (c : InCtx) : Bool :=
  resolved s c.peer == peer && c.num == num && c.stream != .control

/-- An outbound data context changed. -/
def mapOut (peer num : Nat) (f : OutCtx → OutCtx) (s : State) : State :=
  withFab (fun x => { x with out := x.out.map (fun c => if isOut s peer num c then f c else c) }) s

/-- The leases of an inbound data context changed. -/
def mapIn (peer num : Nat) (f : List Lease → List Lease) (s : State) : State :=
  withFab (fun x => { x with inn := x.inn.map (fun c =>
    if isIn s peer num c then { c with leases := f c.leases } else c) }) s

/-- One lease of a list changed. -/
def onLease (num : Nat) (f : Lease → Lease) (l : List Lease) : List Lease :=
  l.map (fun x => if x.num = num then f x else x)

/-- The lease of an outbound context. -/
def outLease (s : State) (peer num lease : Nat) : Option Lease :=
  (s.fab.out.find? (isOut s peer num)).bind (fun c => c.leases.find? (fun l => l.num == lease))

/-- The lease of an inbound context. -/
def inLease (s : State) (peer num lease : Nat) : Option Lease :=
  (s.fab.inn.find? (isIn s peer num)).bind (fun c => c.leases.find? (fun l => l.num == lease))

/-- A lease granted to this module (R243, R245). -/
def takeGrant (m : LeaseMsg) (s : State) : State :=
  let now := s.pwr.time
  let l : Lease := { num := m.lease, granules := m.count, term := m.term, expiry := some (now + 1000 * m.term - 80000)
                     nextRenew := now + 250 * m.term }
  drainOut (mapOut m.peer m.ctx
    (fun c => { c with leases := c.leases.filter (fun x => x.num ≠ m.lease) ++ [l] }) s)

/-- A lease has expired at a time; one whose grant has not left has no expiry yet. -/
def expired (now : Nat) (l : Lease) : Bool :=
  match l.expiry with
  | some t => t ≤ now
  | none => false

/-- A renewal at the issuer (R244): before expiry it is acknowledged and moves the expiry. -/
def takeRenewal (m : LeaseMsg) (s : State) : State :=
  let now := s.pwr.time
  match inLease s m.peer m.ctx m.lease with
  | none => s
  | some l =>
    if expired now l then s
    else
      let s := mapIn m.peer m.ctx (onLease m.lease (fun x => { x with expiry := some (now + 1000 * x.term) })) s
      sendControl (peerOf s m.peer) 7 (leaseKf ⟨m.peer, m.ctx, m.lease, m.count, 0, scoreTag s⟩) s

/-- A renewal acknowledged: the estimate counts from its send time, and earlier renewals are settled with it. -/
def ackRenewal (n : Nat) (l : Lease) : Lease :=
  match l.sent.find? (fun x => x.1 == n) with
  | none => l
  | some x => { l with expiry := some (x.2 + 1000 * l.term), sent := (l.sent.dropWhile (fun y => y.1 ≠ n)).drop 1 }

/-- An acknowledged renewal at the holder (R245). -/
def takeRenewalAck (m : LeaseMsg) (s : State) : State :=
  drainOut (mapOut m.peer m.ctx (fun c => { c with leases := onLease m.lease (ackRenewal m.count) c.leases }) s)

/-- Granules returned at the holder (R305): parcels that wait for them go, and tokens that wait for them are sent. -/
def takeReturn (m : LeaseMsg) (s : State) : State :=
  reviewColls (drainOut (mapOut m.peer m.ctx (fun c => { c with
    returned := c.returned + m.count
    leases := onLease m.lease (fun l => { l with spent := l.spent - m.count }) c.leases }) s))

/-- A lease message whose score tag is this module's; another is counted as discarded (R307). -/
def ifTagged (tag : Nat) (f : State → State) (s : State) : State :=
  if tagMatches s tag then f s else bump 0x6050 6 1 s

/-- A lease command. -/
def leaseCommand (tag : Nat) (f : State → State) (s : State) : Out :=
  let s := fresh s
  .next (if routerWorks s then ifTagged tag f s else s)

/-- LEASE_GRANT (R243). -/
def execLeaseGrant (m : LeaseMsg) (s : State) : Out := leaseCommand m.scoreTag (takeGrant m) s

/-- LEASE_RENEWAL (R244). -/
def execLeaseRenewal (m : LeaseMsg) (s : State) : Out := leaseCommand m.scoreTag (takeRenewal m) s

/-- RENEWAL_ACKNOWLEDGEMENT (R245). -/
def execRenewalAcknowledgement (m : LeaseMsg) (s : State) : Out := leaseCommand m.scoreTag (takeRenewalAck m) s

/-- GRANULE_RETURN (R305). -/
def execGranuleReturn (m : LeaseMsg) (s : State) : Out := leaseCommand m.scoreTag (takeReturn m) s

/-- LEASE_RENEWAL_DUE (R244): a quarter term after the last. -/
def execLeaseRenewalDue (peer ctx lease : Nat) (s : State) : Out :=
  let s := fresh s
  .next (match outLease s peer ctx lease with
    | none => s
    | some l =>
      if !routerWorks s || s.pwr.time < l.nextRenew then s
      else
        let n := (l.renewNo + 1) % 65536
        let s := mapOut peer ctx (fun c => { c with leases := onLease lease (fun x => { x with
          renewNo := n, nextRenew := x.nextRenew + 250 * x.term }) c.leases }) s
        sendControl (peerOf s peer) 6 (leaseKf ⟨peer, ctx, lease, n, 0, scoreTag s⟩) s)

/-- A lease of a closed context that has expired (R248). -/
def lateExpired (s : State) (held : Bool) (ctx lease : Nat) (x : LateLease) : Bool :=
  x.held == held && x.ctx == ctx && x.lease.num == lease && expired s.pwr.time x.lease

/-- A later expiry for a silent peer: counted, and no more (R248). -/
def lateExpiry (x : LateLease) (s : State) : State :=
  bump 0x6C00 4 1 (withFab (fun f => { f with late := f.late.erase x }) s)

/-- A context's lease is reclaimed: what arrives on it from now on is counted in 0x6C00:06 (R246). -/
def reclaim (peer ctx : Nat) (s : State) : State :=
  withFab (fun f => { f with reclaimed := f.reclaimed.filter (fun x => x ≠ (peer, ctx)) ++ [(peer, ctx)] }) s

/-- ISSUER_LEASE_EXPIRY (R246, R248). Device time runs in every power state. -/
def execIssuerLeaseExpiry (ctx lease : Nat) (s : State) : Out :=
  let s := fresh s
  .next (if s.pwr.inReset then s
    else match s.fab.inn.find? (fun c => c.num == ctx && c.stream != .control
        && c.leases.any (fun l => l.num == lease && expired s.pwr.time l)) with
    | some c =>
      let peer := resolved s c.peer
      let s := mapIn peer ctx (fun l => l.filter (fun x => x.num ≠ lease)) s
      pullsPast peer (reclaim peer ctx (silentVerdict peer s))
    | none =>
      match s.fab.late.find? (lateExpired s false ctx lease) with
      | some x => reclaim x.peer ctx (lateExpiry x s)
      | none => s)

/-- HOLDER_LEASE_EXPIRY (R247, R248): the parcels queued for the context are counted with the peer's. -/
def execHolderLeaseExpiry (peer ctx lease : Nat) (s : State) : Out :=
  let s := fresh s
  .next (if s.pwr.inReset then s
    else match outLease s peer ctx lease with
    | some l =>
      if !expired s.pwr.time l then s
      else
        pullsPast peer (silentVerdict peer
          (mapOut peer ctx (fun c => { c with leases := c.leases.filter (fun x => x.num ≠ lease) }) s))
    | none =>
      match s.fab.late.find? (fun x => x.peer == peer && lateExpired s true ctx lease x) with
      | some x => lateExpiry x s
      | none => s)

/-! ## Tokens of the fabric (R62, R307) -/

/-- A token increment: applied in its step, held for the next (R62). -/
def takeToken (m : TokenMsg) (s : State) : State :=
  onScore s (fun sc s =>
    if s.ex.step.running ∧ m.round = roundOf s then takeIncrement sc s m
    else if m.round = s.ex.nextStep % 64 then
      { s with ex := { s.ex with heldTokens := s.ex.heldTokens ++ [m] } }
    else s)

/-- TOKEN_INCREMENT_PARCEL (R307). -/
def execTokenIncrementParcel (m : TokenMsg) (s : State) : Out :=
  leaseCommand m.scoreTag (takeToken m) s

/-! ## Forwarding (R293 to R299) -/

/-- What becomes of a parcel at the head of its queue. -/
inductive Route where
  | deliver
  | hop (h : Hop)
  | discard (key value : Nat)
deriving DecidableEq, Repr

/-- The lowest dimension from k in which two addresses differ. -/
def diffDim (s : State) (k a : Nat) : Option Nat :=
  ((List.range (dimCount s)).filter (fun j => k ≤ j)).find? (fun j => digit j a ≠ digit j (nodeAddr s))

/-- The planes of a dimension whose peer lane to a digit is in service: port and colour (R294). The self lane is
none of them. -/
def planesTo (s : State) (k t : Nat) : List (Nat × Nat) :=
  if t = digit k (nodeAddr s) then []
  else
    (List.range 32).filterMap (fun p =>
      match assignment s p with
      | none => none
      | some a =>
        let c := (digit k (nodeAddr s) + 32 - t - a.2) % 16
        if a.1 = k ∧ (txOf s p c).state = .inService then some (p, c) else none)

/-- An entry matches a parcel whose next hop is in dimension k to digit t (R296). -/
def hopMatches (k t dst : Nat) (e : W64) : Bool :=
  let v := e.toNat
  bits 60 58 v == k && bits 57 54 v == t
    && (List.range 5).all (fun j => !(bits 44 40 v).testBit j || digit j dst == digit j (bits 19 0 v))

/-- A hop that is no relay: the relayed flag clears with a hop in a higher dimension (R297). -/
def plainHop (p : Parcel) (k t : Nat) (exception : Bool) : Hop :=
  let on := p.relayed && k ≤ p.relayDim
  ⟨k, t, on, if on then p.relayDim else 0, exception⟩

/-- The route of a parcel (R293, R296 to R299). A discard's key names what its event is sent once for: an
exception entry, or 4,096 and the destination. -/
def routeOf (s : State) (p : Parcel) : Route :=
  let lost := Route.discard (4096 + p.dst) p.dst
  if !sameFabric s p.dst then lost
  else match diffDim s 0 p.dst with
    | none => .deliver
    | some k =>
      let t := digit k p.dst
      if 10 ≤ p.hops then lost
      else match s.fab.exceptions.find? (fun e => hopMatches k t p.dst e.2) with
        | none => .hop (plainHop p k t false)
        | some (n, e) =>
          let v := bits 53 50 e.toNat
          match bits 62 61 e.toNat with
          | 0 =>
            if (p.relayed && p.relayDim == k) || (planesTo s k v).isEmpty then .hop (plainHop p k t false)
            else .hop ⟨k, v, true, k, true⟩
          | 1 => match diffDim s (k + 1) p.dst with
            | none => lost
            | some j => .hop (plainHop p j (digit j p.dst) true)
          | _ => .discard n n

/-- The level pool of a parcel's next hop, 0 for its destination (R312). -/
def levelOf (s : State) (p : Parcel) (k t : Nat) : Nat :=
  if setDigit k t (nodeAddr s) = p.dst then 0 else p.hops + 2

/-- The queue that a parcel of a class waits in: its next hop in dimension order, and the level of its pool. -/
def hopQueue (s : State) (x : Carried) : Option (Nat × Nat × Nat) :=
  (diffDim s 0 x.parcel.dst).map (fun k =>
    let t := digit k x.parcel.dst
    (k, t, levelOf s x.parcel k t))

/-- Granules of a dropped parcel given back (R299, R305): at once on the lease of this module's own that paid, else to
the source when a control context leads there. -/
def returnDropped (x : Carried) (s : State) : State :=
  let p := x.parcel
  let g := granulesOf p.len
  match x.paid with
  | some k => takeReturn ⟨p.dst, k.1, k.2, g, 0, 0⟩ s
  | none =>
    if p.cls ≠ 1 ∧ s.fab.out.any (fun c => resolved s c.peer == p.src && c.stream == .control) then
      sendControl (peerOf s p.src) 8 (leaseKf ⟨p.src, p.ctx, 0, g, 0, scoreTag s⟩) s
    else s

/-- A parcel dropped (R299): its buffers and granules given back, counted, reported once per entry or destination. -/
def dropParcel (x : Carried) (key value : Nat) (s : State) : State :=
  let s := bump 0x6050 6 1 (freeBuffers x.buffers (returnDropped x s))
  if s.fab.unroutable.contains key then s
  else raise 1 0x0022 (leBytes 4 value) (withFab (fun f => { f with unroutable := addNum key f.unroutable }) s)

/-- The peer-unreachable event, once while no plane leads to the peer (R295). -/
def noPlane (k t : Nat) (s : State) : State :=
  if s.fab.unreachable.contains (k, t) then s
  else raise 1 0x0021 (leBytes 1 k ++ leBytes 1 t)
    (withFab (fun f => { f with unreachable := f.unreachable ++ [(k, t)] }) s)

/-- The planes in round-robin order after the one last used for a peer (R294). -/
def rotated (last : Option Nat) (l : List (Nat × Nat)) : List (Nat × Nat) :=
  match last with
  | none => l
  | some p => l.filter (fun x => p < x.1) ++ l.filter (fun x => x.1 ≤ p)

/-- A parcel bound to a lane for its hop: it waits there, all its flits on that lane (R294, R312). Its hop is counted
once, however often a lane is pulled. -/
def bindParcel (x : Carried) (h : Hop) (lane : Nat × Nat) (s : State) : State :=
  let p := x.parcel
  let out := { p with hops := p.hops + 1, relayed := h.relayed, relayDim := h.relayDim }
  let b : Bound := ⟨out, { x with hop := some h, counted := true }, levelOf s p h.dim h.digit⟩
  let l := txOf s lane.1 lane.2
  let s := withTx lane.1 lane.2 { l with wait := l.wait ++ [b] } s
  let s := withFab (fun f => { f with lastPlane := put (setDigit h.dim h.digit (nodeAddr s)) lane.1 f.lastPlane }) s
  let s := if h.exception && !x.counted then bump 0x6050 9 1 s else s
  let s := if p.src = nodeAddr s || x.counted then s else bump 0x6050 5 1 s
  pumpLane lane.1 lane.2 s

/-- The lane holds credit for the parcel's stream (R294, R312, R241). -/
def laneReady (s : State) (p : Parcel) (h : Hop) (lane : Nat × Nat) : Bool :=
  let l := txOf s lane.1 lane.2
  (poolPayer l p.cls (startPool l p.cls (levelOf s p h.dim h.digit))).isSome

/-- A parcel tried on its hop: bound to a plane with credit, or what it waits for. -/
def tryHop (x : Carried) (h : Hop) (s : State) : Option State :=
  let planes := planesTo s h.dim h.digit
  let last := lookup (setDigit h.dim h.digit (nodeAddr s)) s.fab.lastPlane
  ((rotated last planes).find? (laneReady s x.parcel h)).map (fun lane => bindParcel x h lane s)

/-- A class's queue replaced. -/
def withQueue (cls : Nat) (q : List Carried) (s : State) : State :=
  withFab (fun f => { f with fwd := set_ [] cls q f.fwd }) s

/-- The first parcel of a class that can leave does. Only the head of each queue is tried: its hop is decided then, once
(R296), and parcels that wait stay in order (R295). kept: those passed over; heads: the queues they wait in. -/
def forwardOne (cls : Nat) : List Carried → List (Option (Nat × Nat × Nat)) → List Carried → State → State
  | _, _, [], s => s
  | kept, heads, x :: rest, s =>
    let q := hopQueue s x
    if heads.contains q then forwardOne cls (kept ++ [x]) heads rest s
    else
      let route := match x.hop with
        | some h => Route.hop h
        | none => routeOf s x.parcel
      match route with
      | .deliver => withFab (fun f => { f with arrived := f.arrived ++ [x] }) (withQueue cls (kept ++ rest) s)
      | .discard key value => dropParcel x key value (withQueue cls (kept ++ rest) s)
      | .hop h =>
        match tryHop x h (withQueue cls (kept ++ rest) s) with
        | some t => t
        | none =>
          let x := { x with hop := some h }
          let s := withQueue cls (kept ++ x :: rest) s
          forwardOne cls (kept ++ [x]) (heads ++ [q]) rest
            (if (planesTo s h.dim h.digit).isEmpty then noPlane h.dim h.digit s else s)

/-- PARCEL_FORWARD (R294). -/
def execParcelForward (cls : Nat) (s : State) : Out :=
  let s := fresh s
  .next (if routerWorks s then forwardOne cls [] [] (at_ [] cls s.fab.fwd) s else s)

/-! ## Receiving flits (R313, R314) -/

/-- A lane that takes flits. -/
def takesFlits (s : State) (p c : Nat) : Bool :=
  c < 16 && portLit s p && (rxOf s p c).state == .inService

/-- The address check of a good flit (R314). -/
def addressOk (s : State) (p c : Nat) (h : FlitHead) : Bool :=
  expectedTx s p c == some h.sender && h.senderPort == p

/-- A failed address check (R314): counted, and R271 applied with what the flit shows. -/
def badAddress (p c : Nat) (h : FlitHead) (s : State) : State :=
  let s := bump 0x6050 4 1 s
  let l := rxOf s p c
  let colour := (colours.find? (fun x => expectedTx s p x == some h.sender)).getD c
  let seen := (h.sender, h.senderPort, colour)
  if l.mismatch = some seen then mismatchVerdict p c h.sender h.senderPort colour s
  else withRx p c { l with goodFrames := 0, mismatch := some seen } s

/-- One NAK on the partner lane, until the expected flit arrives (R313). -/
def nakLane (p c : Nat) (s : State) : State :=
  let l := rxOf s p c
  match partnerTx s p c with
  | none => s
  | some t =>
    if l.nakSent ∨ (txOf s p t).state ≠ .inService then s
    else sendBare p t 2 (bump 0x6050 3 1 (withRx p c { l with nakSent := true } s))

/-- Flits acknowledged by a number that is in the replay buffer; the wait for the next restarts. -/
def ackFlits (now ack : Nat) (l : TxLane) : TxLane :=
  if l.replay.any (fun u => u.seq == ack) then
    { l with replay := (l.replay.dropWhile (fun u => u.seq ≠ ack)).drop 1, timer := now } else l

/-- Credit returned to a transmit lane (R311): of K1 delivery, what its pool cannot hold is the lane escape credit. -/
def gainCredit (cls pool n : Nat) (l : TxLane) : TxLane :=
  let k := 16 * cls + pool
  let v := at_ 0 k l.credit + n
  if 4 < cls ∨ 10 < pool then l
  else if k = 16 ∧ poolFlits 1 0 < v then
    { l with credit := set_ 0 escapeKey 1 (set_ 0 k (poolFlits 1 0) l.credit) }
  else { l with credit := set_ 0 k v l.credit }

/-- The acknowledgement and credit that a flit brings to the partner lane, which sends what they allow. -/
def takeFlitCredit (p c : Nat) (h : FlitHead) (s : State) : State :=
  match partnerTx s p c with
  | none => s
  | some t =>
    pumpLane p t (withTx p t (gainCredit h.creditClass h.creditPool h.creditCount
      (ackFlits s.pwr.time h.ack (txOf s p t))) s)

/-- A praline word that opens a flit's slot area (R343). -/
def takeFlitWord (h : FlitHead) (area : Bytes) (s : State) : State :=
  if h.praline && pralWorks s then
    onScore s (fun sc s => finishPralines sc (takeWord ⟨h.sender, blockOf (area.take 16), false⟩ s))
  else s

/-- A parcel received whole: delivered here or queued to go on; a reserved class is discarded. A delivered K1 parcel is
absorbed and holds no buffer (R241). -/
def acceptParcel (s : State) (x : Carried) : State :=
  if 5 ≤ x.parcel.cls then freeBuffers x.buffers (bump 0x6050 6 1 s)
  else if x.parcel.dst = nodeAddr s then
    if x.parcel.cls = 1 then
      freeBuffers x.buffers (withFab (fun f => { f with arrived := f.arrived ++ [{ x with buffers := [] }] }) s)
    else withFab (fun f => { f with arrived := f.arrived ++ [x] }) s
  else enqueueFwd x s

/-- A stream's bytes cut into the parcels that are whole and what is left: a header tells its parcel's length; 32 bytes
of zeros are no header but the rest of a slot area (notes/assumptions/139.md). fuel: parcels that fit. -/
def cutParcels : Nat → Bytes → List Bytes × Bytes
  | 0, b => ([], b)
  | n + 1, b =>
    if b.length < 32 then ([], b)
    else if (b.take 32).all (· == 0) then ([], [])
    else
      let len := 48 + bits 181 169 (beNat (b.take 32))
      if b.length < len then ([], b)
      else
        let r := cutParcels n (b.drop len)
        (b.take len :: r.1, r.2)

/-- What a data flit does to its stream: the parcels it completes, and the part that is left. first: where in the data
the first header begins, if one does. The flit's buffer goes with the last parcel that it brings bytes of; zeros at its
end may be no parcel's. -/
def joinStream (buffer : Nat × Nat × Nat × Nat) (old : Option Partial) (stream : Nat) (first : Option Nat)
    (data : Bytes) : List Carried × Option Partial :=
  let lead := match first with
    | some n => data.take n
    | none => data
  let rest := match first with
    | some n => data.drop n
    | none => []
  let joined := match old with
    | some x => if lead.isEmpty then [] else x.bytes ++ lead
    | none => []
  let held := match old with
    | some x => if lead.isEmpty then [] else x.buffers
    | none => []
  let a := cutParcels 6 joined
  let b := cutParcels 6 rest
  let whole := a.1 ++ b.1
  let left := if first.isSome then b.2 else a.2
  let fill := left.all (· == 0) && !whole.isEmpty
  let parcels := whole.zipIdx.map (fun x =>
    ({ parcel := parcelOf x.1
       buffers := (if x.2 = 0 ∧ !a.1.isEmpty then held else [])
         ++ if x.2 + 1 = whole.length ∧ fill then [buffer] else [] } : Carried))
  (parcels, if left.isEmpty then none
    else some ⟨stream, left, (if first.isNone ∧ a.1.isEmpty then held else []) ++ if fill then [] else [buffer]⟩)

/-- The parcels of a data flit: those it completes are accepted; what it begins waits for the stream's next flit. A
buffer that no parcel holds is given back at once. -/
def takeParcels (p c : Nat) (h : FlitHead) (area : Bytes) (s : State) : State :=
  if 4 < h.cls ∨ 10 < h.pool then s
  else
    let stream := 16 * h.cls + h.pool
    let skip := if h.praline then 16 else 0
    let first := if h.first < 236 then some (h.first - skip) else none
    let l := rxOf s p c
    let buffer := (laneKey p c, h.cls, h.pool, 1)
    let old := l.parts.find? (fun x => x.stream == stream)
    let r := joinStream buffer old stream first (area.drop skip)
    let s := withRx p c { l with parts := l.parts.filter (fun x => x.stream ≠ stream) ++ r.2.toList } s
    let kept := r.1.flatMap (fun x => x.buffers) ++ r.2.toList.flatMap (fun x => x.buffers)
    let lost := (old.toList.flatMap (fun x => x.buffers) ++ [buffer]).diff kept
    freeBuffers lost (r.1.foldl acceptParcel s)

/-- A data flit in order (R313): its parcels taken, its acknowledgement due. -/
def takeDataFlit (p c : Nat) (h : FlitHead) (area : Bytes) (s : State) : State :=
  let l := rxOf s p c
  let s := withRx p c { l with expected := (l.expected + 1) % 4096, nakSent := false } s
  let s := takeFlitWord h area (takeParcels p c h area s)
  let s := match partnerTx s p c with
    | some t => withTx p t { txOf s p t with ackDue := true } s
    | none => s
  takeFlitCredit p c h s

/-- A flit of a kind as its lane finds it (R313, R314): a bad one is answered with a NAK; a good one that is not this
kind is none of the command's. -/
def receiveFlit (kind : Nat) (f : Flit) (go : FlitHead → State → State) (s : State) : Out :=
  let s := fresh s
  let h := flitHead f.bytes
  .next (if !takesFlits s f.port f.colour then s
    else if !flitGood f then nakLane f.port f.colour s
    else if h.kind ≠ kind then s
    else if !addressOk s f.port f.colour h then badAddress f.port f.colour h s
    else go h s)

/-- A flit's slot area. -/
def areaOf (f : Flit) : Bytes := slice f.bytes 16 236

/-- DATA_FLIT (R313, R314). -/
def execDataFlit (f : Flit) (s : State) : Out :=
  receiveFlit 0 f (fun h s =>
    if h.seq = (rxOf s f.port f.colour).expected then takeDataFlit f.port f.colour h (areaOf f) s
    else nakLane f.port f.colour s) s

/-- An idle or NAK flit acted on: its sequence field names the expected flit, and none is being waited for (R313). -/
def inOrderBare (s : State) (p c : Nat) (h : FlitHead) : Bool :=
  let l := rxOf s p c
  h.seq == l.expected && !l.nakSent

/-- IDLE_FLIT (R310). -/
def execIdleFlit (f : Flit) (s : State) : Out :=
  receiveFlit 1 f (fun h s =>
    if inOrderBare s f.port f.colour h then takeFlitWord h (areaOf f) (takeFlitCredit f.port f.colour h s)
    else nakLane f.port f.colour s) s

/-- Every unacknowledged flit of a lane resent, unless one has been resent 8 times: then the lane is pulled
and its ring searches (R313). -/
def resendFlits (p c : Nat) (s : State) : State :=
  let l := txOf s p c
  if l.replay.isEmpty ∨ l.state ≠ .inService then s
  else if l.replay.any (fun u => 8 ≤ u.resent) then beginSearch true p c false (bump 0x6050 10 1 s)
  else resendAll p c s

/-- NAK_FLIT (R313): the partner lane resends from acknowledge + 1. -/
def execNakFlit (f : Flit) (s : State) : Out :=
  receiveFlit 2 f (fun h s =>
    if inOrderBare s f.port f.colour h then
      let s := takeFlitWord h (areaOf f) (takeFlitCredit f.port f.colour h s)
      match partnerTx s f.port f.colour with
      | some c => resendFlits f.port c s
      | none => s
    else nakLane f.port f.colour s) s

/-- TEST_FLIT (R290, R310): PRBS31 on the self lane; it carries nothing but is address-checked. -/
def execTestFlit (f : Flit) (s : State) : Out :=
  receiveFlit 3 f (fun _ s => s) s

/-- FLIT_REPLAY_TIMEOUT (R313): no new acknowledgement within 4 µs. -/
def execFlitReplayTimeout (port colour : Nat) (s : State) : Out :=
  let s := fresh s
  .next (if !portLit s port ∨ s.pwr.time < (txOf s port colour).timer + 4000 then s
    else resendFlits port colour s)

/-! ## Delivery (R306, R309) -/

/-- A parcel's context at its destination: by number, source and class. -/
def contextOf (s : State) (p : Parcel) : Option InCtx :=
  s.fab.inn.find? (fun c => c.num == p.ctx && resolved s c.peer == p.src && c.cls == p.cls
    && (c.stream == .control) == (4 ≤ p.kind && p.kind ≤ 9))

/-- The granules of a parcel on a context returned; control parcels spend none. -/
def giveBack (c : Option InCtx) (p : Parcel) (s : State) : State :=
  match c with
  | some x => if x.stream = .control then s else returnOn x (granulesOf p.len) s
  | none => s

/-- A parcel whose tag fails (R309, R367): counted and reported, its granules returned; a collective chunk sets the
step's error flag, a remote state parcel tells its consumer, a control parcel is not applied. -/
def badTagParcel (p : Parcel) (s : State) : State :=
  let s := raise 3 0x0023 (leBytes 4 0 ++ leBytes 4 p.src) (bump 0x6050 7 1 s)
  let s := giveBack (contextOf s p) p s
  match p.kind with
  | 3 => takeChunk false (parcelChunk p) s
  | 0 => if holderWorks s then storeRemote (parcelRemote false p) s else s
  | 2 => if holderWorks s then takeResponse (parcelRemote false p) s else s
  | _ => s

/-- A control parcel applied (R307). -/
def takeControl (p : Parcel) (s : State) : State :=
  let m := parcelLease p
  match p.kind with
  | 4 => ifTagged (parcelToken p).scoreTag (takeToken (parcelToken p)) s
  | 5 => ifTagged m.scoreTag (takeGrant m) s
  | 6 => ifTagged m.scoreTag (takeRenewal m) s
  | 7 => ifTagged m.scoreTag (takeRenewalAck m) s
  | 8 => ifTagged m.scoreTag (takeReturn m) s
  | 9 => takePairDigest (parcelPair p) s
  | _ => bump 0x6050 6 1 s

/-- A data parcel given to its consumer. Chunks return their granules themselves (R337). -/
def takeData (c : InCtx) (p : Parcel) (s : State) : State :=
  let m := parcelRemote true p
  let back := giveBack (some c) p
  match p.kind with
  | 3 => takeChunk true (parcelChunk p) s
  | 0 => back (if holderWorks s && m.subtype ≤ 3 then storeRemote m s else s)
  | 1 => back (if holderWorks s then answerRequest m s else s)
  | 2 => back (if holderWorks s then takeResponse m s else s)
  | _ => back (bump 0x6050 6 1 s)

/-- A parcel that no open context takes: counted by flits where its lease was reclaimed (R246), else as discarded. -/
def noContext (p : Parcel) (s : State) : State :=
  if s.fab.reclaimed.contains (p.src, p.ctx) then bump 0x6C00 6 (ceilDiv (48 + p.len) 236) s else bump 0x6050 6 1 s

/-- A parcel at its destination: its tag checked, its payload decrypted, duplicates removed (R306, R308). -/
def deliverParcel (p : Parcel) (s : State) : State :=
  match openParcel s.fab.parcelKey p with
  | none => badTagParcel p s
  | some q =>
    match contextOf s p with
    | none => noContext p s
    | some c =>
      let r := seeSequence c p.seq
      let s := withFab (fun f => { f with inn := f.inn.map (fun x => if x = c then r.2 else x) }) s
      if r.1 then giveBack (some c) p (bump 0x6050 8 1 s)
      else if c.stream = .control then takeControl q s
      else takeData c q s

/-- PARCEL_DELIVERY (R306): the first parcel that has arrived; its flit buffers are free. -/
def execParcelDelivery (s : State) : Out :=
  let s := fresh s
  .next (if !routerWorks s then s
    else match s.fab.arrived with
      | [] => s
      | x :: rest => freeBuffers x.buffers (deliverParcel x.parcel (withFab (fun f => { f with arrived := rest }) s)))

end Sys2Proof.Machine
end

