-- ==== Sys2Proof/Machine/Clock.lean ====
section
/-! DEFINITION. What happens when no command waits (notes/assumptions/9.md): device time and the oscillator
advance by one nanosecond, and what waits for a regulator, for credit or for its lane frame is tried again.

Choices beyond the manual's plain words (notes/assumptions): DESIGN CHOICE 9, 118. -/

namespace Sys2Proof.Machine

/-- Ticks from one slewed nanosecond to the next: 100 ppm (R477). -/
def slewPeriod : Nat := 10000

/-- Device time after one oscillator tick: at most 100 ppm faster or slower while there is an offset to
correct (R477, R478). -/
def advanceTime (p : PowerClock) : PowerClock :=
  let p := { p with osc := p.osc + 1 }
  if p.slew = 0 then { p with time := p.time + 1, slewPhase := 0 }
  else if p.slewPhase + 1 < slewPeriod then { p with time := p.time + 1, slewPhase := p.slewPhase + 1 }
  else if 0 < p.slew then { p with time := p.time + 2, slewPhase := 0, slew := p.slew - 1 }
  else { p with slewPhase := 0, slew := p.slew + 1 }

/-- One tick: in module reset only the oscillator runs. What waits for credit, a regulator or a frame time goes on. -/
def tick (s : State) : State :=
  let s := fresh s
  if s.pwr.inReset then { s with pwr := { s.pwr with osc := s.pwr.osc + 1 } }
  else
    let s := retireWaiting (drainWaits <| retireDue { s with pwr := advanceTime s.pwr })
    pumpChans (pumpLanes (sendDueFrames (reviewColls s)))

end Sys2Proof.Machine
end

