-- ==== Sys2Proof/Machine/TestAccess.lean ====
section
/-! DEFINITION. In-field core tests (R19, R20, R73 to R76, R533 to R539), the self-tests of 0xB010 (R431,
R530 to R532) and the test port (R515, R524 to R530).

Choices beyond the manual's plain words (notes/assumptions): DEDUCED 111, 113, 114; DESIGN CHOICE 3, 112;
PRESUMED 115. -/

namespace Sys2Proof.Machine

/-! ## Retiring cores (R19, R20, R538) -/

/-- A half has a relief core available. -/
def reliefAvailable (s : State) (half : Nat) : Bool := rg s 0x3001 (half + 1) != 0 && (lastRelief s half).isSome

/-- A relief core no longer counted; the half's count recorded in flash (R464), the last one reported
(R20). -/
def countRelief (half : Nat) (s : State) : State :=
  let n := rg s 0x3001 (half + 1) - 1
  let s := audit 0 0x3001 (half + 1) 4 false (leBytes 1 n) (withRg 0x3001 (half + 1) n s)
  if n = 0 then raise 1 0x0010 (leBytes 1 half) s else s

/-- A rebinding: it waits for the next step boundary while a score is installed, and takes effect at once
otherwise. -/
def rebind (half : Nat) (ps : List (Nat × Nat)) (s : State) : State :=
  let active := s.dev == .prepared || s.dev == .running || s.dev == .held
  if active then withHalf half { halfTest s half with rebind := ps, returning := true } s
  else { s with siteMap := ps.foldl (fun m p => put (siteKey half p.1) p.2 m) s.siteMap }

/-- A failed planned core retired (R19): bound to the site of the highest-numbered relief core left; with
none left FAULTED (R20). -/
def retireCore (half core : Nat) (s : State) : State :=
  match lastRelief s half with
  | none => toFaulted 0x03100007 8 (leBytes 1 half) s
  | some r =>
    if rg s 0x3001 (half + 1) = 0 then toFaulted 0x03100007 8 (leBytes 1 half) s
    else countRelief half (rebind half [(core, boundSite s half r), (r, siteGone)] s)

/-- A failed core of either kind: a relief core is never used again. -/
def failCore (half core : Nat) (s : State) : State :=
  let s := bump 0xB002 2 1 s
  if core < 96 then retireCore half core s
  else countRelief half { s with siteMap := put (siteKey half core) siteGone s.siteMap }

/-! ## The schedule (R534) -/

/-- The spacing of a half's tests in ns: 0xB000:03 hours divided by 96. -/
def spacing (s : State) : Nat := rg s 0xB000 3 * 37500000000

/-- The half's next core to test after one: relief cores that are left follow core 95. -/
def nextCore (s : State) (half core : Nat) : Nat :=
  if core < 95 then core + 1
  else match [96, 97, 98, 99].find? (fun r => core < r && reliefLeft s half r) with
    | some r => r
    | none => 0

/-- The rule of 0xB000: enabling starts the schedules, half h at h × spacing / 24. -/
def testSettingsRule (sub : Nat) (value : Bytes) : Rule :=
  { apply := fun s =>
      let starts := sub = 1 ∧ leNat value = 1 ∧ rg s 0xB000 1 = 0
      let s := withRg 0xB000 sub (leNat value) s
      if starts then
        (List.range 24).foldl (fun s h =>
          withHalf h { halfTest s h with dueAt := some (s.pwr.time + h * spacing s / 24) } s) s
      else s }

/-- CORE_TEST_DUE (R534). -/
def execCoreTestDue (half : Nat) (s : State) : Out :=
  let s := fresh s
  let t := halfTest s half
  .next (match t.dueAt with
    | none => s
    | some at0 =>
      if 24 ≤ half ∨ s.pwr.inReset ∨ rg s 0xB000 1 ≠ 1 ∨ t.due ∨ t.core.isSome ∨ s.pwr.time < at0
          ∨ !reliefAvailable s half then s
      else withHalf half { t with due := true } s)

/-- A test begun on a core: its site's stores zeroed (R533). -/
def beginTest (half core : Nat) (relief : Option Nat) (s : State) : State :=
  let s := withHalf half
    { halfTest s half with core := some core, relief := relief, due := false, overdue := false } s
  zeroSite half (boundSite s half core) s

/-- A planned core relieved (R73, R536): its state copied to the relief core. -/
def relieve (half core r : Nat) (s : State) : State :=
  let src := siteKey half (boundSite s half core)
  let dst := siteKey half (boundSite s half r)
  beginTest half core (some r) (withSite dst (copyStores (siteAt s src) (siteAt s dst)) s)

/-- The relief core that the score's record gives a core, or the highest-numbered one left where R19 has
taken that (R75). -/
def reliefFor (s : State) (half core : Nat) : Option Nat :=
  match s.ex.score.bind (fun sc => sc.relief.find? (fun x => x.half == half && x.core == core)) with
  | none => none
  | some x => if reliefLeft s half x.relief then some x.relief else lastRelief s half

/-- CORE_TEST_START (R535): at a qualifying point. -/
def execCoreTestStart (half : Nat) (s : State) : Out :=
  let s := fresh s
  let t := halfTest s half
  let direct := s.dev == .inert || s.dev == .joined || s.dev == .faulted
  .next (if 24 ≤ half ∨ s.pwr.inReset ∨ !t.due ∨ t.core.isSome ∨ t.returning ∨ s.pwr.cur ≠ .run
      ∨ gated s (half / 2) ∨ !reliefAvailable s half then s
    else if direct ∨ 96 ≤ t.next then beginTest half t.next none s
    else if s.ex.step.running then s
    else match reliefFor s half t.next with
      | some r => relieve half t.next r s
      | none => s)

/-- CORE_TEST_OVERDUE (R537). -/
def execCoreTestOverdue (half : Nat) (s : State) : Out :=
  let s := fresh s
  let t := halfTest s half
  .next (match t.dueAt with
    | none => s
    | some at0 =>
      if 24 ≤ half ∨ s.pwr.inReset ∨ !t.due ∨ t.overdue ∨ t.core.isSome
          ∨ s.pwr.time < at0 + rg s 0xB000 2 * 1000000000 then s
      else raise 1 0x0011 (leBytes 1 half ++ leBytes 1 t.next)
        (bump 0xB002 3 1 (withHalf half { t with overdue := true } s)))

/-- CORE_TEST_COMPLETE (R533, R534, R538): the site zeroed; a relieved core returns at the next boundary. -/
def execCoreTestComplete (half : Nat) (passed : Bool) (s : State) : Out :=
  let s := fresh s
  let t := halfTest s half
  .next (match t.core with
    | none => s
    | some c =>
      if 24 ≤ half ∨ s.pwr.inReset ∨ t.returning then s
      else
        let s := zeroSite half (boundSite s half c) s
        let n := nextCore s half c
        let at0 := if 96 ≤ n then s.pwr.time else s.pwr.time + spacing s
        let t := { t with
          next := n, dueAt := some at0, due := decide (96 ≤ n), returning := t.relief.isSome
          core := if t.relief.isSome then t.core else none }
        let s := withHalf half t s
        if passed then bump 0xB002 1 1 s else failCore half c s)

/-! ## Undefined contents (R529, R531) -/

/-- A half's sites with undefined stores. -/
def forgetHalf (half : Nat) (s : State) : State :=
  let t := (List.range 100).foldl (fun s k =>
    let x := siteAt s (siteKey half k)
    withSite (siteKey half k)
      { x with undef := some (s.freeCtr + k), tile := [], tileBad := [], acc := [], accBad := [] } s) s
  { t with freeCtr := t.freeCtr + 100 }

/-- A compute die's shared cache with undefined contents: it counts as holding nothing. -/
def forgetShared (die : Nat) (s : State) : State :=
  { s with mem := { s.mem with
      shared := s.mem.shared.filter (fun p => p.1 / 16 ≠ die)
      shPoison := s.mem.shPoison.filter (fun k => k % 16 ≠ die) } }

/-- Bytes that only a quadrant's cache or buffers held are undefined; its snoop filter records nothing, and no shared
cache counts as holding its lines. -/
def forgetCache (q : Nat) (s : State) : State :=
  let mine := fun (a : Nat) => quadrantOf s a == q
  let lost := (s.mem.msc.filter (fun p => mine (256 * p.1))).flatMap (fun p => p.2.data.map (fun b => b.1))
    ++ (s.mem.wc.filter (fun e => mine (256 * e.line))).flatMap (fun e => e.data.map (fun b => b.1))
  { s with mem := { s.mem with
      cells := s.mem.cells.filter (fun p => !lost.contains p.1)
      msc := s.mem.msc.filter (fun p => !mine (256 * p.1))
      wc := s.mem.wc.filter (fun e => !mine (256 * e.line))
      shared := (s.mem.shared.map (fun p => (p.1, p.2.filter (fun k => !mine (256 * k))))).filter (fun p => !p.2.isEmpty)
      epoch := s.mem.epoch + 1 } }

/-- A stack's contents undefined. -/
def forgetStack (k : Nat) (s : State) : State :=
  let mine := fun (a : Nat) => (placeOf s a).stack == k
  { s with mem := { s.mem with cells := s.mem.cells.filter (fun p => !mine p.1), epoch := s.mem.epoch + 1 } }

/-! ## Self-tests (R431, R530 to R532) -/

/-- The block that a self-test's target belongs to (R531). -/
def targetBlock (kind target : Nat) : Nat :=
  match kind with
  | 1 => target / 2
  | 2 => target
  | 3 => 12 + target
  | _ => 12 + target / 5

/-- The number of targets of a kind; none for a reserved kind. -/
def targetCount : Nat → Nat
  | 1 => 24
  | 2 => 12
  | 3 => 4
  | 4 => 20
  | _ => 0

/-- The contents of a self-test's target undefined. -/
def forgetTarget (kind target : Nat) (s : State) : State :=
  match kind with
  | 1 => forgetHalf target s
  | 2 => forgetShared target s
  | 3 => forgetCache target s
  | _ => forgetStack target s

/-- The checks and effect of a self-test request; a target that does not exist has no block that could be gated. -/
def selfTestRule (value : Bytes) (s : State) : Rule :=
  let v := leNat value
  let kind := bits 31 28 v
  let target := bits 27 20 v
  { codes :=
      [need (s.dev == .joined && rg s 0xB020 1 == 0 && s.test.selfTest.isNone && s.pwr.cur == .run
          && !(target < targetCount kind && gated s (targetBlock kind target))) 0x03A00001,
       need (!tenantHere s) 0x04A00001,
       need (target < targetCount kind && bits 19 0 v == 0) 0x02A00001]
    apply := fun s => withRg 0xB010 2 1 { s with test := { s.test with selfTest := some (kind, target) } } }

/-- A self-test request of a kind. -/
def selfTest (kind : Nat) (q : Req) (target reserved : Nat) (s : State) : State :=
  let v := leBytes 4 (kind * 2 ^ 28 + target * 2 ^ 20 + reserved)
  writeReq q 0 0xB010 1 v (selfTestRule v) s

/-- SELF_TEST_TILE_STORES (R531). -/
def execSelfTestTileStores (q : Req) (target reserved : Nat) (s : State) : Out :=
  .next (selfTest 1 q target reserved s)

/-- SELF_TEST_SHARED_CACHE (R531). -/
def execSelfTestSharedCache (q : Req) (target reserved : Nat) (s : State) : Out :=
  .next (selfTest 2 q target reserved s)

/-- SELF_TEST_MEMORY_SIDE_CACHE (R531). -/
def execSelfTestMemorySideCache (q : Req) (target reserved : Nat) (s : State) : Out :=
  .next (selfTest 3 q target reserved s)

/-- SELF_TEST_HBM_STACK (R531). -/
def execSelfTestHbmStack (q : Req) (target reserved : Nat) (s : State) : Out :=
  .next (selfTest 4 q target reserved s)

/-- A running self-test ended with a result code. -/
def endSelfTest (code : Nat) (s : State) : State :=
  match s.test.selfTest with
  | none => s
  | some t =>
    withRg 0xB010 2 code (forgetTarget t.1 t.2 { s with test := { s.test with selfTest := none } })

/-- The core that a site of a half is bound to. -/
def coreAtSite (s : State) (half site : Nat) : Option Nat :=
  (List.range 100).find? (fun c => boundSite s half c == site)

/-- A failing site of a half treated as a failed core test. -/
def failSite (half : Nat) (s : State) (site : Nat) : State :=
  match coreAtSite s half site with
  | some c => failCore half c s
  | none => s

/-- SELF_TEST_COMPLETE (R532): failing lists the failing sites of kind 1; for the other kinds any entry is
a failure. -/
def execSelfTestComplete (failing : List Nat) (s : State) : Out :=
  let s := fresh s
  .next (match s.test.selfTest with
    | none => s
    | some t =>
      if s.pwr.inReset then s
      else if failing = [] then endSelfTest 2 s
      else
        let s := endSelfTest 3 s
        if t.1 = 1 then failing.foldl (failSite t.2) s
        else if t.1 = 4 then failStack t.2 s
        else s)

/-! ## The test port (R431, R515, R524 to R530) -/

/-- The rule of 0xB020:01. A write of FALSE is always accepted. -/
def testPortRule (value : Bytes) (s : State) : Rule :=
  let v := leNat value
  if v = 0 then { apply := closeTestPort }
  else
    { codes :=
        [need (s.dev == .joined && s.test.selfTest.isNone) 0x03A00001,
         need (!tenantHere s) 0x04A00001,
         need (v == 1) 0x02A00001]
      apply := fun s =>
        if rg s 0xB020 1 = 1 then s else withRg 0xB020 1 1 { s with test := { s.test with ir := 2 } } }

/-- TEST_PORT_ENABLE (R431, R529). -/
def execTestPortEnable (q : Req) (value : Nat) (s : State) : Out :=
  let v := leBytes 1 value
  .next (writeReq q 0 0xB020 1 v (testPortRule v) s)

/-- The port takes instructions: enabled, and not in module reset. -/
def portOpen (s : State) : Bool := rg s 0xB020 1 == 1 && !s.pwr.inReset

/-- The base dies' positions on the chain (R527). -/
def baseDies : BitVec 40 := BitVec.ofNat 40 (1 + 2 ^ 10 + 2 ^ 20 + 2 ^ 30)

/-- The dies selected, as far as their rails are on. -/
def selectedDies (s : State) : BitVec 40 :=
  if s.pwr.cur = .stow ∧ !s.pwr.moving then s.test.dieSelect &&& baseDies else s.test.dieSelect

/-- What the selected dies of one quadrant hold undefined: caches, core sites, stacks. -/
def forgetDies (sel : BitVec 40) (s : State) : State :=
  (List.range 40).foldl (fun s n =>
    let q := n / 10
    let j := n % 10
    if !sel.getLsbD n then s
    else if j = 0 then forgetCache q s
    else if j ≤ 3 then
      let cd := 3 * q + (j - 1)
      forgetHalf (2 * cd + 1) (forgetHalf (2 * cd) (forgetShared cd s))
    else if j = 4 then s
    else forgetStack (5 * q + (j - 5)) s) s

/-- An instruction loaded. One that leaves the selected dies undefined makes the module go to Stow when the
port is closed (R529). -/
def loadInstr (ir : BitVec 8) (intrusive : Bool) (s : State) : State :=
  let s := { s with test := { s.test with ir := ir, driven := false, highz := false } }
  if !intrusive then s
  else
    let sel := selectedDies s
    let s := forgetDies sel s
    drawn { s with test := { s.test with
      intrusive := true, undefDies := s.test.undefDies ||| sel, undefAt := s.freeCtr } }

/-- TAP_RESET (R524): TRST_L resets the port, in whatever state it is. -/
def execTapReset (s : State) : Out :=
  let s := fresh s
  .next { s with test := { s.test with ir := 2, driven := false, highz := false } }

/-- EXTEST (R524): the pins driven from the boundary register. -/
def execExtest (s : State) : Out :=
  let s := fresh s
  .next (if !portOpen s then s
    else
      let s := loadInstr 0x00 true s
      { s with test := { s.test with driven := true } })

/-- SAMPLE_PRELOAD (R524): the pins sampled into the boundary register. -/
def execSamplePreload (pins : BitVec 15) (s : State) : Out :=
  let s := fresh s
  .next (if !portOpen s then s
    else
      let s := loadInstr 0x01 false s
      { s with test := { s.test with boundary := pins } })

/-- IDCODE (R525): the identification register on TDO. -/
def execIdcode (s : State) : Out :=
  let s := fresh s
  .next (if !portOpen s then s else emit (.tdo 0x14B12C3B) (loadInstr 0x02 false s))

/-- CLAMP (R524): the outputs held at the preloaded values. -/
def execClamp (s : State) : Out :=
  let s := fresh s
  .next (if !portOpen s then s
    else
      let s := loadInstr 0x03 true s
      { s with test := { s.test with driven := true } })

/-- HIGHZ (R524): every driven output pin released. -/
def execHighz (s : State) : Out :=
  let s := fresh s
  .next (if !portOpen s then s
    else
      let s := loadInstr 0x04 true s
      { s with test := { s.test with highz := true } })

/-- DIE_SELECT (R527). -/
def execDieSelect (select : BitVec 40) (s : State) : Out :=
  let s := fresh s
  .next (if !portOpen s then s
    else
      let s := { s with test := { s.test with dieSelect := select } }
      loadInstr 0x10 true { s with test := { s.test with dieSelect := selectedDies s } })

/-- DIE_ACCESS (R527). -/
def execDieAccess (s : State) : Out :=
  let s := fresh s
  .next (if !portOpen s then s else loadInstr 0x11 true s)

/-- The codes of R524's other instructions. -/
def assignedCodes : List (BitVec 8) := [0x00, 0x01, 0x02, 0x03, 0x04, 0x10, 0x11]

/-- BYPASS (R524): its own code and every code that is not assigned. -/
def execBypass (code : BitVec 8) (s : State) : Out :=
  let s := fresh s
  .next (if !portOpen s ∨ assignedCodes.contains code then s else loadInstr code false s)

end Sys2Proof.Machine
end

