-- ==== Sys2Proof/Machine/Sessions.lean ====
section
/-! DEFINITION. Sessions (R445 to R453), key installs (R454, R458), enrolment, firmware images (R426, R441),
quotes (R463), tenant state erased (R460).

Choices beyond the manual's plain words (notes/assumptions): DEDUCED 41, 97, 98, 99, 100, 101, 102; DESIGN
CHOICE 116. -/

namespace Sys2Proof.Machine

/-! ## Enrolment (R445) -/

/-- The key identities enrolled in 0x9003 or 0x9004; zeros are unused. -/
def enrolled (s : State) (idx : Nat) : List W256 :=
  ((List.range 8).map (fun i => BitVec.ofNat 256 (rg s idx (i + 1)))).filter (fun k => k ≠ 0)

/-- A key identity is admitted to a role at hello (R445, R447). In recovery there is no TENANT (R444). -/
def admits (s : State) (role : Nat) (key : W256) : Bool :=
  match role with
  | 1 => (enrolled s 0x9003).isEmpty || (enrolled s 0x9003).contains key
  | 2 => !s.sec.recovery && s.dev != .inert && s.dev != .faulted && (s.sec.bound.isNone || s.sec.bound == some key)
  | 3 => (enrolled s 0x9004).contains key
  | _ => false

/-- The sessions whose role's list no longer holds their key identity, after a write of a list. -/
def unlisted_ (s : State) (idx : Nat) : List Nat :=
  let role : Role := if idx = 0x9003 then .operator else .auditor
  ((List.range 7).map (· + 1)).filter (fun n =>
    roleOf s n == role && !(enrolled s idx).contains (sessOf s n).key)

/-- The rule of 0x9003 and 0x9004. A session that the write has removed ends after the response (R452);
OPERATOR sessions opened while the list was empty are listed with it. -/
def enrolRule (idx sub : Nat) (value : Bytes) (s : State) : Rule :=
  let old := BitVec.ofNat 256 (rg s idx sub)
  let t := withRg idx sub (leNat value) s
  { codes := [need (idx != 0x9003 || !(enrolled t 0x9003).isEmpty) 0x0280FF01]
    apply := withRg idx sub (leNat value)
    after := fun s =>
      ((unlisted_ s idx).filter (fun n => (sessOf s n).key == old)).foldl (fun s n => endSession n s) s }

/-- ENROLMENT_WRITE (R445, R452). -/
def execEnrolmentWrite (q : Req) (idx sub : Nat) (key : W256) (s : State) : Out :=
  let v := identBytes key
  .next (if idx = 0x9003 ∨ idx = 0x9004 then writeReq q 0 idx sub v (enrolRule idx sub v) s else fresh s)

/-! ## Establishment (R446 to R453) -/

/-- The role of a code. -/
def roleOfCode : Nat → Role
  | 1 => .operator
  | 2 => .tenant
  | 3 => .auditor
  | _ => .none

/-- A session for a role: a free one, and for TENANT no other session that holds the role (R446). -/
def freeSession (s : State) (role : Nat) : Option Nat :=
  if role = 2 ∧ ((List.range 7).any (fun n => (sessOf s (n + 1)).role == .tenant)) then none
  else ((List.range 7).map (· + 1)).find? (fun n => (sessOf s n).state == .free)

/-- HELLO (R449): answered in clear; the module's shares and signature are not modelled. -/
def execHello (msg role : Nat) (key : W256) (_reserved : Nat) (s : State) : Out :=
  let s := takeMsg 6 0 (fresh s)
  .next (if !hears s then s
    else if !admits s role key then sendRing (.reply msg 0 0x04800002) (countReject 0 s)
    else match freeSession s role with
      | none => sendRing (.reply msg 0 0x05800001) (countReject 0 s)
      | some n =>
        sendRing (.reply msg n 0) (drawn (withSess n
          { state := .establishing, role := roleOfCode role, key := key, replyAt := s.pwr.time } s)))

/-- A traffic generator on area 1 stops when a TENANT session is established (R453). -/
def stopArea1 (s : State) : State :=
  match s.mem.gen with
  | some r => if r.req.area = 1 then stopGenerator s else s
  | none => s

/-- The status word of a session (0x9001). -/
def sessionStatus (x : Session) : Nat :=
  match x.state with
  | .free => 0
  | .establishing => 1 * 2 ^ 28 + roleCode x.role * 2 ^ 26
  | .established => 2 * 2 ^ 28 + roleCode x.role * 2 ^ 26

/-- A session that establishment did not complete: free again, counted as a rejected attempt. -/
def failFinish (n code : Nat) (s : State) : State :=
  sendRing (.result 0 3 (BitVec.ofNat 32 code)) (countReject 0 (withSess n {} s))

/-- An established session's keys (R450): from Z with salt T2 the key of its ring keys and its audit salt; its epochs
count from this frame (R451). Z itself is not kept. -/
def keyedSession (m : FinishMsg) (s : State) (x : Session) : Session :=
  let prk := Config.hkdfExtract (digestBytes m.t2) (leBytes 64 m.z.toNat)
  { x with state := .established, prk := prk, salt := Config.hkdfExpand prk (ascii "audit salt"), since := s.ring.frames }

/-- A session established: what a TENANT session closes first (R453), the first OPERATOR key enrolled
(R445), the bound tenant fixed (R447), the entries logged, the result sent in the session. -/
def establish (m : FinishMsg) (s : State) : State :=
  let n := m.sess
  let x := keyedSession m s (sessOf s n)
  let s := if x.role = .tenant then stopArea1 (endSelfTest 3 (closeTestPort s)) else s
  let s := withSess n x s
  let s := if x.role = .tenant ∧ s.sec.bound = none then { s with sec := { s.sec with bound := some x.key } }
    else s
  let s := audit n 0x9001 n 2 false (leBytes 4 (sessionStatus (sessOf s n))) s
  let s := if x.role = .operator ∧ enrolled s 0x9003 = [] then
      audit n 0x9003 1 4 false (identBytes x.key) (withRg 0x9003 1 x.key.toNat s)
    else s
  sendRing (.result n 3 0) s

/-- FINISH (R449). One that names no session that is being established fails without freeing any. -/
def execFinish (m : FinishMsg) (s : State) : Out :=
  let s := takeMsg 6 0 (fresh s)
  let x := sessOf s m.sess
  let refused := x.role = .tenant ∧ (s.dev = .inert ∨ s.dev = .faulted)
  .next (if !hears s then s
    else if x.state ≠ .establishing then sendRing (.result 0 3 0x04800002) (countReject 0 s)
    else if !m.sigGood ∨ x.replyAt + 1000000000 < s.pwr.time ∨ refused then failFinish m.sess 0x04800002 s
    else if s.sec.flashFull then failFinish m.sess 0x05800002 s
    else establish m s)

/-- FINISH_TIMEOUT (R449): 1 s after the reply the session is free again. -/
def execFinishTimeout (sess : Nat) (s : State) : Out :=
  let s := fresh s
  let x := sessOf s sess
  .next (if x.state ≠ .establishing ∨ s.pwr.time ≤ x.replyAt + 1000000000 ∨ s.pwr.inReset then s
    else countReject 0 (withSess sess {} s))

/-- CLOSE (R452): received in the session that it names. -/
def execClose (sess named : Nat) (s : State) : Out :=
  let s := takeMsg 6 sess (fresh s)
  .next (if !hears s ∨ sess = 0 ∨ named ≠ sess ∨ (sessOf s sess).state ≠ .established then s
    else endSession sess s)

/-! ## Keys (R454, R458) -/

/-- A key message in a session: answered by a result; a message in a session that is not established has no
valid tag. -/
def keyMessage (q : Req) (sub idx osub : Nat) (codes : List Nat) (kind : Nat) (keyed : Bool) (value : Bytes)
    (apply : State → State) (s : State) : State :=
  let s := takeMsg 6 q.sess (fresh s)
  if !hears s then s
  else if q.sess = 0 ∨ (sessOf s q.sess).state ≠ .established then bump 0x1101 3 1 s
  else
    let code := firstByClass (need (roleOf s q.sess == .tenant) 0x0180FF01 :: codes
      ++ [need (!s.sec.flashFull) 0x05800002])
    if code ≠ 0 then
      sendRing (.result q.sess sub (BitVec.ofNat 32 code)) (countReject (originOf s q.sess) s)
    else sendRing (.result q.sess sub 0) (audit q.sess idx osub kind keyed value (apply s))

/-- FABRIC_KEY_INSTALL (R454, R455): used at the next setup of flow contexts. -/
def execFabricKeyInstall (q : Req) (reserved : Nat) (key : W256) (s : State) : Out :=
  .next (keyMessage q 0x10 0x9040 1
    [need (s.dev != .inert && s.dev != .faulted) 0x03800003, need (reserved = 0) 0x0280FF02]
    1 true (identBytes key)
    (fun s => bump 0x9040 1 1 { s with sec := { s.sec with fabricKey := some key } }) s)

/-- Two ranges overlap. -/
def overlap (a n b m : Nat) : Bool := a < b + m && b < a + n

/-- A region that R454 accepts. -/
def regionOk (s : State) (num base length : Nat) : Bool :=
  num < 16 && base % 2097152 == 0 && length % 2097152 == 0 && length != 0 && inTenant base length
    && s.sec.regions.all (fun r => r.num == num || !overlap r.base r.length base length)

/-- The address at which a stack sector lies: the inverse of R205. -/
def sectorAddr (s : State) (key : Nat) : Nat :=
  let b := rg s 0x4000 3 * (20 * 2 ^ 30)
  let st := key / 2 ^ 32
  let off := 32 * (key % 2 ^ 32)
  if off < b / 20 then
    st / 5 * (b / 4) + (5 * (off / 256) + st % 5) * 256 + off % 256
  else
    let o := off - b / 20
    b + (20 * (o / 256) + (4 * (st % 5) + st / 5)) * 256 + o % 256

/-- A range whose key has changed: undefined values that carry no error (R458). -/
def eraseRange (a n : Nat) (s : State) : State :=
  let mine := fun (x : Nat) => decide (a ≤ x ∧ x < a + n)
  forgetRange a n { s with mem := { s.mem with
    poison := s.mem.poison.filter (fun k => !mine (sectorAddr s k))
    shPoison := s.mem.shPoison.filter (fun p => !mine (32 * (p / 16))) } }

/-- A region forgotten and its contents erased. -/
def removeRegion (num : Nat) (s : State) : State :=
  match s.sec.regions.find? (fun r => r.num == num) with
  | none => s
  | some r =>
    eraseRange r.base r.length
      { s with sec := { s.sec with regions := s.sec.regions.filter (fun x => x.num ≠ num) } }

/-- A region installed in place of the one of its number. -/
def installRegion (num base length : Nat) (key : BitVec 512) (s : State) : State :=
  let s := removeRegion num s
  eraseRange base length
    { s with sec := { s.sec with regions := s.sec.regions ++ [⟨num, base, length, key⟩] } }

/-- REGION_KEY_INSTALL (R454, R458). -/
def execRegionKeyInstall (q : Req) (region reserved base length : Nat) (key : BitVec 512) (s : State) : Out :=
  .next (keyMessage q 0x11 0x9030 (region + 1)
    [need (s.dev == .joined) 0x0380FF01, need (regionOk s region base length) 0x0280FF01,
     need (reserved = 0) 0x0280FF02]
    1 true (leBytes 64 key.toNat) (installRegion region base length key) s)

/-- REGION_REMOVE (R454, R458): the entry holds the extent's zeros. -/
def execRegionRemove (q : Req) (region reserved : Nat) (s : State) : Out :=
  .next (keyMessage q 0x12 0x9030 (region + 1)
    [need (s.dev == .joined) 0x0380FF01, need (region < 16) 0x0280FF01, need (reserved = 0) 0x0280FF02]
    1 false (zeros 16) (removeRegion region) s)

/-- TENANT_STATE_ERASED (R460): the steps after leave are complete. -/
def execTenantStateErased (s : State) : Out :=
  let s := fresh s
  .next { s with sec := { s.sec with erasing := false } }

/-! ## Quotes (R463) -/

/-- Straps as 0xA030:01 reports them. -/
def strapWord (x : Straps) : Nat := (if x.compat then 128 else 0) + x.settle % 4 * 32 + x.ringPos % 32

/-- Island status (0x9000:04). -/
def islandStatus (s : State) : Nat :=
  if !s.pwr.selfTested ∨ s.pwr.selfTestB0 = s.pwr.selfTestB2 then 0 else if s.pwr.selfTestB0 then 1 else 2

/-- The flags of a quote. -/
def quoteFlags (s : State) : Nat :=
  (if s.straps.compat then 1 else 0) + (if rg s 0x3010 1 = 1 then 2 else 0)
    + (if rg s 0xB020 1 = 1 then 4 else 0) + (if s.sec.recovery then 8 else 0)

/-- The 512-byte body of a quote for a session. -/
def quoteBody (s : State) (sess : Nat) : Bytes :=
  let x := sessOf s sess
  let lists := ([0x9003, 0x9004].flatMap (fun i => (List.range 8).map (fun k => (i, k + 1)))).flatMap
    (fun p => leBytes 32 (rg s p.1 p.2))
  leBytes 4 0x51415A4B ++ leBytes 2 0x0100 ++ leBytes 2 512 ++ identBytes Config.fusedKeyIdentity
    ++ leBytes 32 (ownVal s sess 0x9020 1) ++ leBytes 8 s.pwr.time ++ leBytes 4 (rg s 0x1000 3)
    ++ leBytes 4 s.sec.minSecurity ++ digestBytes (if s.sec.recovery then 0 else s.sec.fwDigest)
    ++ digestBytes Config.bootRomDigest ++ leBytes 2 0x3142 ++ leBytes 1 (islandStatus s)
    ++ leBytes 1 (devCode s.dev) ++ leBytes 1 (powCode s.pwr.cur) ++ leBytes 1 (roleCode x.role)
    ++ leBytes 2 (strapWord s.straps) ++ identBytes x.key ++ identBytes (s.sec.bound.getD 0)
    ++ leBytes 48 (if x.role = .tenant then rg s 0x2010 3 else 0) ++ digestBytes (Config.sha384 lists)
    ++ leBytes 8 (auditCount s) ++ digestBytes s.sec.chain ++ leBytes 4 (rg s 0x9040 1)
    ++ leBytes 1 (quoteFlags s) ++ zeros 99

/-- A quote: the body and the module identity's dual signature. -/
def quoteBytes (s : State) (sess : Nat) : Bytes :=
  let body := quoteBody s sess
  body ++ leBytes 3373 (Config.dualSign body).toNat

/-! ## Firmware images (R426, R441) -/

/-- An image is well-formed (R441). -/
def firmwareOk (s : State) (img : FwImage) : Bool :=
  img.magic == 0x57465A4B && img.format == 0x0100 && img.headerLen == 256 && img.security ≤ 64
    && img.length == 256 + img.bodyLen + 3373 && img.length ≤ 67108864 && img.reservedZero
    && img.signer == Config.fusedFirmwareKey && s.sec.minSecurity ≤ img.security

/-- The rule of 0x9010:01 for an image that comes in one message: it is checked later. -/
def firmwareRule (q : Req) (s : State) : Rule :=
  { codes := [need (s.dev == .joined) 0x03800001]
    later := true
    apply := fun s => withRg 0x9010 2 2 (addPend .firmware q s) }

/-- An update's end without success (R426). -/
def failUpdate (code : Nat) (s : State) : State := failPend .firmware code (withRg 0x9010 2 4 s)

/-- The flash image replaced: two entries, for the write and for the replacement, and the response. -/
def replaceImage (p : PendWrite) (img : FwImage) (s : State) : State :=
  let s := dropPend .firmware s
  let s := withRg 0x9010 2 3 (withRg 0x9010 3 (img.version % 2 ^ 32)
    { s with sec := { s.sec with fwStored := some img } })
  let s := auditDigest p.q.sess 0x9010 1 0 false img.length img.digest s
  respond p.q 0 [] (auditDigest 0 0x9010 1 5 false img.length img.digest s)

end Sys2Proof.Machine
end

