-- ==== Sys2Proof/Machine/Power.lean ====
section
/-! DEFINITION. Power states and gating (R483 to R490, R498, R499), supplies and temperatures (R472, R505,
R512, R513, R521), PLL settings (R429), the time reference (R479, R480), the ring clock (R481, R482), the
islands (R21).

Choices beyond the manual's plain words (notes/assumptions): DEDUCED 35, 66, 85, 103, 104, 105, 106, 108, 123,
149. -/

namespace Sys2Proof.Machine

/-! ## Entering and leaving Stow (R487, R499, R500) -/

/-- What Stow leaves: HBM and SRAM contents lost, links down, optics dark, the staged image gone. -/
def stowNow (s : State) : State :=
  let s := photonicsDark (stopGenerator s)
  { withRg 0x2010 1 0 (withRg 0x4000 4 0 s) with
    pwr := { s.pwr with cur := .stow }
    sites := []
    links := []
    fab := { s.fab with fwd := [], arrived := [] }
    test := { s.test with undefDies := 0, dieSelect := s.test.dieSelect &&& baseDies }
    mem :=
      { epoch := s.mem.epoch + 1
        stackSt := (s.mem.stackSt.map (fun p => (p.1, { p.2 with state := 0 }))).filter (fun p => p.2 ≠ {}) } }

/-- An exit from Stow begun (R499): PLLs locked to their settings, SRAM zero, links, stacks and optics
training. -/
def leaveStow (s : State) : State :=
  let s := pllTake ((List.range 12).map (· + 2)) { s with sites := [] }
  let s := (List.range 6).foldl (fun s k =>
    withLink (k + 1) { state := 1, retrainAt := s.pwr.time } s) s
  let s := (List.range 20).foldl (fun s k => withStack k { stackOf s k with state := 1 } s) s
  let s := commissionAll s
  { s with pwr := { s.pwr with stowExit := true } }

/-! ## Requests (R485, R486, R498, R529) -/

/-- The optics of a state that an exit from Stow ends in (R285, R486): commissioned, and out of service in Hush and
Doze. -/
def settleOptics (s : State) : State :=
  if !s.pwr.stowExit then s
  else match s.pwr.cur with
    | .hush => lanesOut s
    | .doze => photonicsDoze s
    | _ => s

/-- The requested state reached: counted, and the pending write completed. -/
def powerDone (s : State) : State :=
  let s := settleOptics s
  let s := bump 0xA000 4 1 { s with pwr := { s.pwr with moving := false, afterFault := false, stowExit := false } }
  finishPend .power (leBytes 1 (powCode s.pwr.cur)) s

/-- The device states allow a request (R485). -/
def powerAllowed (s : State) (v : Nat) : Bool :=
  match s.dev with
  | .running => v ≤ 1
  | .prepared => v ≤ 3
  | .held => v ≤ 3
  | _ => true

/-- The 54 V input lies in its operating range (R505). -/
def inputGood (s : State) : Bool := 50000 ≤ rg s 0xA040 2 && rg s 0xA040 2 ≤ 58000

/-- A request taken up: at once where the state is reached already; a step down from Run abandons core tests
(R539). -/
def requestPower (v : Nat) (s : State) : State :=
  let exiting := s.pwr.cur = .stow ∧ s.pwr.moving
  let s := { s with pwr := { s.pwr with req := powOf v } }
  if s.pwr.cur = powOf v then
    if exiting then powerDone (stowNow s)
    else if s.pwr.moving then powerDone s
    else finishPend .power (leBytes 1 v) s
  else
    let s := if s.pwr.cur = .run then abandonTests s else s
    let s := if s.pwr.cur = .stow ∧ !exiting then leaveStow s else s
    { s with pwr := { s.pwr with moving := true } }

/-- The rule of 0xA000:01. -/
def powerRule (q : Req) (value : Bytes) (s : State) : Rule :=
  let v := leNat value
  let ok := powerAllowed s v && !(v == 4 && (pendOf s .prepare).isSome) && rg s 0xB020 1 == 0
    && (s.pwr.cur != .stow || v == 4 || inputGood s)
  { codes := [need ok 0x03900001]
    later := true
    apply := fun s => requestPower v (addPend .power q s) }

/-- POWER_STATE_REQUEST (R485, R486). -/
def execPowerStateRequest (q : Req) (value : Nat) (s : State) : Out :=
  let v := leBytes 1 value
  settled s (writeReq q 0 0xA000 1 v (powerRule q v) s)

/-! ## The ladder (R486) -/

/-- No work runs that a step down from Run waits for. -/
def workDone (s : State) : Bool := s.dev == .faulted || (!s.ex.step.running && s.mem.hostCopy.isNone)

/-- From Still to Hush once every write-combining entry has retired, which waits for its regulator (R240, R486). -/
def intoHush (s : State) : State :=
  let s := retireAll s
  if s.mem.wc.isEmpty then settleStacks { lanesOut s with pwr := { s.pwr with cur := .hush } } else s

/-- One state further down. -/
def downTo (s : State) : State :=
  match s.pwr.cur with
  | .run => gateChange s { s with pwr := { s.pwr with cur := .still } }
  | .still => intoHush s
  | .hush => settleStacks { photonicsDoze (writeBackAll s) with pwr := { s.pwr with cur := .doze } }
  | _ => stowNow s

/-- One state further up; from Stow once the links have trained and every stack is trained. -/
def upTo (s : State) : State :=
  match s.pwr.cur with
  | .stow => settleStacks { s with pwr := { s.pwr with cur := .doze } }
  | .doze =>
    let s := if s.pwr.stowExit then s else photonicsWake s
    settleStacks { s with pwr := { s.pwr with cur := .hush } }
  | .hush => gateChange s { s with pwr := { s.pwr with cur := .still } }
  | _ => gateChange s { s with pwr := { s.pwr with cur := .run } }

/-- The next state up can be in force. -/
def upReady (s : State) : Bool :=
  s.pwr.cur != .stow || (s.mem.trained && !s.links.any (fun l => l.2.state == 1))

/-- POWER_STATE_REACHED (R486, R499): the next state of the ladder is fully in force; after a supply fault
the rails drop at once (R507). -/
def execPowerStateReached (s : State) : Out :=
  let s := fresh s
  let c := powCode s.pwr.cur
  let t := powCode s.pwr.req
  .next (if s.pwr.inReset ∨ !s.pwr.moving then s
    else
      let x :=
        if s.pwr.afterFault then stowNow s
        else if c < t then (if s.pwr.cur ≠ .run ∨ workDone s then downTo s else s)
        else if t < c ∧ upReady s then upTo s
        else s
      if x.pwr.cur = s.pwr.req then powerDone x else x)

/-! ## Block enables (R424, R489) -/

/-- The rule of 0xA001. A write that gates a block waits for the running step's boundary. -/
def enableRule (sub : Nat) (value : Bytes) : Rule :=
  let v := leNat value
  let b := sub - 1
  { codes := [need (v < 8) 0x0290FF02]
    apply := fun s =>
      let old := enablesOf s b
      let gates := enabledIn s.pwr.cur old && !enabledIn s.pwr.cur v
      let rest := without b s.pwr.pendingEnables
      let t := withRg 0xA001 sub v s
      if gates && s.ex.step.running then { t with pwr := { t.pwr with pendingEnables := put b old rest } }
      else gateChange s { t with pwr := { t.pwr with pendingEnables := rest } } }

/-- BLOCK_ENABLE_WRITE (R489). -/
def execBlockEnableWrite (q : Req) (sub value : Nat) (s : State) : Out :=
  let v := leBytes 1 value
  .next (writeReq q 0 0xA001 sub v (fun _ => enableRule sub v) s)

/-! ## PLL settings (R428, R429) -/

/-- A setting in range: R from 1 to 16, M from 16 to 8,191, the VCO from 4.0 to 60.0 GHz. -/
def pllSettingOk (v : Nat) : Bool :=
  1 ≤ pllR v && pllR v ≤ 16 && 16 ≤ pllM v && pllM v ≤ 8191 && 40 * pllR v ≤ pllM v && pllM v ≤ 600 * pllR v

/-- The rule of 0xA020. -/
def pllRule (sub : Nat) (value : Bytes) : Rule :=
  let v := leNat value
  storeRule 0xA020 sub value [need (pllSettingOk v) 0x02900001, need (bits 9 0 v == 0) 0x0290FF02]

/-- PLL_SETTING_WRITE (R429): in force from the island's next training. -/
def execPllSettingWrite (q : Req) (sub : Nat) (value : W32) (s : State) : Out :=
  let v := leBytes 4 value.toNat
  .next (writeReq q 0 0xA020 sub v (fun _ => pllRule sub v) s)

/-! ## Supplies and temperatures (R472, R505, R507, R512, R513, R521) -/

/-- The module is above Stow, or on its way up. -/
def aboveStow (s : State) : Bool := s.pwr.cur != .stow || s.pwr.moving

/-- A supply or temperature fault (R472): FAULTED, then Stow without waiting for work; a Stow exit is cut
off. -/
def supplyFault (s : State) : State :=
  if s.pwr.afterFault then s
  else
    let s := failPend .power 0x03000002 (toFaulted 0x03900002 0 [] s)
    if s.pwr.cur = .stow then
      let s := stowNow s
      { s with pwr := { s.pwr with req := .stow, moving := false, stowExit := false } }
    else { s with pwr := { s.pwr with req := .stow, moving := true, afterFault := true } }

/-- The limits of R505 and R521. -/
def limitsBroken (m : Limits) : Bool :=
  m.v54 < 50000 || 58000 < m.v54 || 105 ≤ m.junction || 100 ≤ m.stack
    || m.photonic.any (fun t => 95 < t || t < 20)

/-- The monitors' values reported (R428, R286). -/
def report (m : Limits) (s : State) : State :=
  let s := withRg 0xA040 1 (m.power % 2 ^ 32) (withRg 0xA040 2 (m.v54 % 2 ^ 32)
    (withRg 0xA040 3 (min 255 m.junction) (withRg 0xA040 4 (m.beatRate % 2 ^ 32) s)))
  (m.photonic.zipIdx.take 4).foldl (fun s p => withRg 0x5030 (p.2 + 1) (min 255 p.1) s) s

/-- SUPPLY_OR_TEMPERATURE_FAULT (R472): the measured values, and a fault where they break a limit above
Stow. -/
def execSupplyOrTemperatureFault (m : Limits) (s : State) : Out :=
  let s := fresh s
  .next (if s.pwr.inReset then s
    else
      let s := report m s
      if aboveStow s && limitsBroken m then supplyFault s else s)

/-- A junction has reached its trip temperature (R512): in °C, the hottest of the compute, base and photonic dies, and
the hottest stack. -/
def trips (die stack : Nat) : Bool := 115 ≤ die || 110 ≤ stack

/-- THERM_TRIP (R512): asserted until module reset; no other state changes. -/
def execThermTrip (die stack : Nat) (s : State) : Out :=
  let s := fresh s
  .next (if s.pwr.inReset ∨ !trips die stack then s else { s with pwr := { s.pwr with thermTrip := true } })

/-- The power stage's status read (R513). -/
def readStage (st : PmStatus) (s : State) : State :=
  let bad := st.vinUv || st.ioutOc || st.temperature || st.powerGoodL
  if !s.pwr.inReset && st.acked && bad && aboveStow s then supplyFault s else s

/-- PMBUS_POLL (R513): every 10 ms. -/
def execPmbusPoll (st : PmStatus) (s : State) : Out := .next (readStage st (fresh s))

/-- PMBUS_ALERT (R513): after PMB_ALERT_L. -/
def execPmbusAlert (st : PmStatus) (s : State) : Out :=
  let s := fresh s
  .next (readStage st s)

/-- ISLAND_MISMATCH (R21): only in lockstep; the output is blocked, and the module is FAULTED. -/
def execIslandMismatch (s : State) : Out :=
  let s := fresh s
  .next (if s.pwr.inReset ∨ !s.pwr.selfTestB0 ∨ !s.pwr.selfTestB2 then s else toFaulted 0x03800002 0 [] s)

/-! ## Time (R479, R480) -/

/-- The rule of 0xA010:02: a change takes effect at the next frame boundary. -/
def referenceRule (value : Bytes) : Rule :=
  let v := leNat value
  { apply := fun s =>
      let old := reference s
      let s := withRg 0xA010 2 v s
      { s with pwr := { s.pwr with refChange := if v = old then none else some old } } }

/-- TIME_REFERENCE_WRITE (R479). -/
def execTimeReferenceWrite (q : Req) (value : Nat) (s : State) : Out :=
  let v := leBytes 1 value
  .next (writeReq q 0 0xA010 2 v (fun _ => referenceRule v) s)

/-- A frame mark has come within the last 10 µs. -/
def marksComing (s : State) : Bool :=
  match s.pwr.lastFrameAt with
  | some t => s.pwr.osc ≤ t + 10000
  | none => false

/-- TIME_REFERENCE_LOST (R480): the reference in force stopped for more than 10 µs. -/
def execTimeReferenceLost (s : State) : Out :=
  let s := fresh s
  .next (if s.pwr.inReset ∨ (reference s = 0 ∧ marksComing s) then s
    else withRg 0xA010 3 3 { s with pwr := { s.pwr with refLost := true, goodFrames := 0, slew := 0 } })

/-- TIME_REFERENCE_RETURN (R480): trimming again, by slewing alone. -/
def execTimeReferenceReturn (s : State) : Out :=
  let s := fresh s
  .next (if s.pwr.inReset ∨ !s.pwr.refLost then s
    else withRg 0xA010 3 1 { s with pwr := { s.pwr with refLost := false, goodFrames := 0, lastFrameAt := none } })

/-- PPS_EDGE (R479): with the external reference, device time slews until each edge falls on the nearest
multiple of 10^9 ns. -/
def execPpsEdge (s : State) : Out :=
  let s := fresh s
  .next (if s.pwr.inReset ∨ reference s ≠ 1 ∨ s.pwr.refLost then s
    else
      let near := (s.pwr.time + 500000000) / 1000000000 * 1000000000
      let off : Int := (near : Int) - s.pwr.time
      withRg 0xA010 3 (if off.natAbs ≤ 20 then 2 else 1)
        { s with pwr := { s.pwr with slew := off } })

/-! ## The ring clock (R481, R482) -/

/-- RING_CLOCK_LOSS (R481): the receiver stops coasting, and every synchronous island stops. -/
def execRingClockLoss (s : State) : Out :=
  let s := fresh s
  .next { s with
    ring := { s.ring with clock := false, parts := [] }
    pwr := { s.pwr with symbolLock := false, lastFrameAt := none, goodFrames := 0 } }

/-- A stack that missed its refreshes while the clock was gone: more than 16 ms since the last one. -/
def refreshLost (s : State) (k : Nat) : Bool :=
  let x := stackOf s k
  (x.state == 2 || x.state == 3) && x.lastRefresh + 16000000 < s.pwr.time

/-- RING_CLOCK_RETURN (R482): every link that was up retrains (counted), those of linksDown failing; stacks without refresh fail. -/
def execRingClockReturn (linksDown : List Nat) (s : State) : Out :=
  let s := fresh s
  .next (if s.pwr.inReset ∨ s.ring.clock then s
    else
      let s := { s with ring := { s.ring with clock := true } }
      let s := (List.range 6).foldl (fun s i =>
        let k := i + 1
        let st := (linkOf s k).state
        if st = 2 ∨ st = 3 then (let s := beginRetrain k s; if linksDown.contains k then failLink k s else s) else s) s
      ((List.range 20).filter (refreshLost s)).foldl (fun s k => failStack k s) s)

end Sys2Proof.Machine
end

