-- ==== Sys2Proof/Machine/Boot.lean ====
section
/-! DEFINITION. Module reset and boot (R422, R442 to R444, R492 to R497) and the end of a firmware update
(R426).

Choices beyond the manual's plain words (notes/assumptions): DEDUCED 66, 99, 149; PRESUMED 14. -/

namespace Sys2Proof.Machine

/-- The halves' rebindings that waited for a boundary, which a reset does not lose (R19). -/
def settledMap (s : State) : List (Nat × Nat) :=
  s.test.halves.foldl (fun m h =>
    h.2.rebind.foldl (fun m p => put (siteKey h.1 p.1) p.2 m) m) s.siteMap

/-- What flash holds of the security islands (R422, R440, R441). -/
def flashSecurity (x : Security) (freeCtr : Nat) : Security :=
  { log := x.log, chain := x.chain, lastExport := x.lastExport, exportChain := x.exportChain
    origins := x.origins, flashFull := x.flashFull, minSecurity := x.minSecurity, fwStored := x.fwStored
    moduleKey := some (Config.random256 freeCtr) }

/-- Module reset entered (R492): every session ended and logged, every key gone, every object but those of
R422 at its default, the bypass closed, the rails off. -/
def assertReset (s : State) : State :=
  let s := ((List.range 7).map (· + 1)).foldl (fun s n => endSession n s) s
  let dark := photonicsDark s
  { pending := s.pending
    sent := s.sent
    freeCtr := s.freeCtr + 1
    regs := s.regs.filter (fun p => inFlash (p.1 / 256) (p.1 % 256))
    straps := s.straps
    siteMap := settledMap s
    mem :=
      { epoch := s.mem.epoch + 1
        stackSt := (s.mem.stackSt.map (fun p => (p.1, ({ repaired := p.2.repaired } : Stack)))).filter
          (fun p => p.2 ≠ {}) }
    pho := dark.pho
    sec := flashSecurity s.sec s.freeCtr
    pwr := { inReset := true }
    test :=
      { halves := (s.test.halves.map (fun h =>
          (h.1, ({ next := h.2.next, dueAt := h.2.dueAt
                   due := h.2.due || h.2.core.isSome } : HalfTest)))).filter (fun h => h.2 ≠ {}) } }

/-- Reset released (R477, R494, R495): the straps sampled, time from 0. -/
def releaseReset (x : Straps) (s : State) : State := { s with straps := x, pwr := {} }

/-- The last condition of R492 ended 2 ms ago. -/
def mayRelease (s : State) : Bool :=
  s.pwr.inReset && (match s.pwr.goodSince with
    | some t => t + 2000000 ≤ s.pwr.osc
    | none => false)

/-- No condition of R492 holds a module in reset. -/
def inputsGood (p : ResetPins) : Bool := p.pwrOk && p.resetL && 3000 ≤ p.auxMv

/-- MODULE_RESET (R492): the reset inputs as they now are. While they allow a release, the time since they do runs. -/
def execModuleReset (p : ResetPins) (s : State) : Out :=
  let s := fresh s
  .next (if s.pwr.inReset then
      { s with pwr := { s.pwr with
          goodSince := if inputsGood p then some (s.pwr.goodSince.getD s.pwr.osc) else none } }
    else if inputsGood p then s
    else assertReset s)

/-- RESET_RELEASE (R492, R494). -/
def execResetRelease (straps : Straps) (s : State) : Out :=
  let s := fresh s
  .next (if mayRelease s then releaseReset straps s else s)

/-- SYMBOL_LOCK (R496): a loss of lock restarts a settle delay that has not elapsed. -/
def execSymbolLock (locked : Bool) (s : State) : Out :=
  let s := fresh s
  let since := if s.pwr.symbolLock then s.pwr.lockAt else s.pwr.osc
  .next (if s.pwr.inReset then s else { s with pwr := { s.pwr with symbolLock := locked, lockAt := since } })

/-- The settle delay of the straps in ns (R494). -/
def settleDelay (x : Straps) : Nat := 4 ^ (x.settle % 4) * 1000000

/-- SETTLE_DELAY_ELAPSED (R494, R496): the delay since symbol lock. -/
def execSettleDelayElapsed (s : State) : Out :=
  let s := fresh s
  .next (if s.pwr.inReset ∨ !s.pwr.symbolLock ∨ s.pwr.osc < s.pwr.lockAt + settleDelay s.straps then s else { s with pwr := { s.pwr with settled := true } })

/-- ISLAND_SELF_TEST (R22): which islands passed. With neither the module stays INERT. -/
def execIslandSelfTest (b0 b2 : Bool) (s : State) : Out :=
  let s := fresh s
  .next (if s.pwr.inReset ∨ s.pwr.selfTested then s
    else { s with pwr := { s.pwr with selfTestB0 := b0, selfTestB2 := b2, selfTested := true } })

/-- FIRMWARE_VERIFIED (R442, R444): the stored image runs, or the boot ROM is in recovery. -/
def execFirmwareVerified (img : FwImage) (sigGood : Bool) (s : State) : Out :=
  let s := fresh s
  .next (if s.pwr.inReset ∨ s.sec.fwRunning ∨ s.sec.recovery then s
    else if firmwareOk s img && sigGood then
      withRg 0x1000 3 (img.version % 2 ^ 32)
        { s with sec := { s.sec with fwRunning := true, fwDigest := img.digest, fwSecurity := img.security } }
    else { s with sec := { s.sec with recovery := true } })

/-- FIRMWARE_WRITE_COMPLETE (R426, R444): the image received is checked and replaces the one in flash; in
recovery the module then resets itself. -/
def execFirmwareWriteComplete (img : FwImage) (sigGood : Bool) (s : State) : Out :=
  let s := fresh s
  .next (match pendOf s .firmware with
    | none => s
    | some p =>
      if s.pwr.inReset ∨ rg s 0x9010 2 ≠ 2 then s
      else if !firmwareOk s img then failUpdate 0x02800001 s
      else if !sigGood then failUpdate 0x04800001 s
      else if s.sec.flashFull then failUpdate 0x05800002 s
      else
        let s := replaceImage p img s
        if s.sec.recovery then releaseReset s.straps (assertReset s) else s)

end Sys2Proof.Machine
end

