-- ==== Sys2Proof/Machine/Tables.lean ====
section
/-! DEFINITION. The fabric's configuration and tables (R288, R289, R296, R300 to R302, R317, R318) and the
group tables (R319, R322).

Choices beyond the manual's plain words (notes/assumptions): DEDUCED 109, 110. -/

namespace Sys2Proof.Machine

/-- The number of a table entry in its write: bytes 0 and 1. -/
def entryNum (value : Bytes) : Nat := leAt value 0 2

/-- The entry of such a write: bytes 2 to 9. -/
def entryWord (value : Bytes) : W64 := BitVec.ofNat 64 (leAt value 2 8)

/-- An entry write's ten bytes. -/
def entryBytes (num : Nat) (entry : W64) : Bytes := leBytes 2 num ++ leBytes 8 entry.toNat

/-- A table with an entry written; one without its valid bit is removed and reads as zeros. -/
def putEntry (n : Nat) (w : W64) (t : List (Nat × W64)) : List (Nat × W64) :=
  if w.getLsbD 63 then put n w t else without n t

/-- Digits outside a mask are zero. -/
def maskedOk (mask pattern : Nat) : Bool :=
  (List.range 5).all (fun k => mask.testBit k || digit k pattern == 0)

/-! ## Configuration (R288, R289, R501) -/

/-- A configuration write taken up: every port recommissioned once the engines have been commissioned. -/
def reconfigured (s : State) : State := if s.pho.commissioning = 0 then s else commissionAll s

/-- The rule of 0x6000:01 and 0x6000:02: a new dimension count restores the default assignment. -/
def nodeRule (sub : Nat) (value : Bytes) : Rule :=
  let v := leNat value
  { apply := fun s =>
      let s := withRg 0x6000 sub v s
      let s := if sub = 2 then (List.range 32).foldl (fun s p => withRg 0x6001 (p + 1) (portDefault v p) s) s else s
      reconfigured s }

/-- A port assignment that R318 accepts. -/
def portOk (s : State) (sub v : Nat) : Bool :=
  let dim := bits 31 29 v
  let plane := bits 28 24 v
  dim == 7 || (dim < dimCount s && plane < planesPer s
    && (List.range 32).all (fun p =>
      p + 1 == sub || bits 31 29 (rg s 0x6001 (p + 1)) != dim || bits 28 24 (rg s 0x6001 (p + 1)) != plane))

/-- The rule of 0x6001. -/
def portRule (sub : Nat) (value : Bytes) (s : State) : Rule :=
  let v := leNat value
  { codes := [need (bits 19 0 v == 0) 0x0240FF02, need (portOk s sub v) 0x02400002]
    apply := fun s => reconfigured (withRg 0x6001 sub v s) }

/-- The rule of 0x6000 and 0x6001. -/
def fabricRule (idx sub : Nat) (value : Bytes) (s : State) : Rule :=
  if idx = 0x6001 then portRule sub value s else nodeRule sub value

/-- FABRIC_CONFIGURATION_WRITE (R288): a value of 0x6000:02 has one byte, the others four. -/
def execFabricConfigurationWrite (q : Req) (idx sub : Nat) (value : W32) (s : State) : Out :=
  let v := leBytes (if idx = 0x6000 ∧ sub = 2 then 1 else 4) value.toNat
  if (idx = 0x6000 ∧ (sub = 1 ∨ sub = 2)) ∨ idx = 0x6001 then
    settled s (writeReq q 0 idx sub v (fabricRule idx sub v) s)
  else .next (fresh s)

/-! ## Exceptions (R296) -/

/-- An exception entry that R296 and R318 accept. -/
def exceptionOk (s : State) (n : Nat) (w : W64) : Bool :=
  let v := w.toNat
  let kind := bits 62 61 v
  let k := bits 60 58 v
  let t := bits 57 54 v
  let r := bits 53 50 v
  n < 4096 && (!w.getLsbD 63 ||
    (kind != 3 && k < dimCount s && bits 49 45 v == 0 && bits 39 20 v == 0
      && maskedOk (bits 44 40 v) (bits 19 0 v)
      && (if kind = 0 then r != t && r != digit k (nodeAddr s) else r == 0)))

/-- The rule of 0x6010:01. -/
def exceptionRule (value : Bytes) (s : State) : Rule :=
  { codes := [need (exceptionOk s (entryNum value) (entryWord value)) 0x02400003]
    apply := fun s => { s with
      fab := { s.fab with exceptions := putEntry (entryNum value) (entryWord value) s.fab.exceptions } } }

/-- EXCEPTION_ENTRY_WRITE (R296). -/
def execExceptionEntryWrite (q : Req) (num : Nat) (entry : W64) (s : State) : Out :=
  let v := entryBytes num entry
  .next (writeReq q 0 0x6010 1 v (exceptionRule v) s)

/-! ## Job map, neighbours, overrides (R300 to R302) -/

/-- Job map entries from coordinate 0: none after a zero extent, each on its own dimension below D. -/
def coordsOk (d : Nat) : List Nat → Bool
  | [] => true
  | v :: t =>
    if bits 31 27 v = 0 then t.all (fun x => bits 31 27 x == 0)
    else bits 26 24 v < d && t.all (fun x => bits 31 27 x == 0 || bits 26 24 x != bits 26 24 v) && coordsOk d t

/-- The rule of 0x6020:01 to 05. -/
def coordRule (sub : Nat) (value : Bytes) (s : State) : Rule :=
  let v := leNat value
  let map := (List.range 5).map (fun j => if j + 1 = sub then v else rg s 0x6020 (j + 1))
  storeRule 0x6020 sub value
    [need (bits 19 0 v == 0) 0x0240FF02, need (bits 31 27 v ≤ 16) 0x0240FF01,
     need (coordsOk (dimCount s) map) 0x02400004]

/-- The rule of 0x6020:08. -/
def baseRule (value : Bytes) : Rule :=
  let v := leNat value
  storeRule 0x6020 8 value [need (v < 2 ^ 20 || v == 0xFFFFFFFF) 0x0240FF01]

/-- A neighbour entry that R302 and R318 accept. -/
def neighbourOk (s : State) (v : Nat) : Bool :=
  let mode := bits 31 30 v
  let step := bits 20 0 v
  mode == 0 || (bits 26 21 v == 0 &&
    (if mode = 1 then !v.testBit 20
     else bits 29 27 v < (jobCoords s.regs).length && (step ≤ 15 || 2 ^ 21 - 15 ≤ step)))

/-- The rule of 0x6030: an entry of mode 0 reads as zero. -/
def neighbourRule (sub : Nat) (value : Bytes) (s : State) : Rule :=
  let v := leNat value
  { codes := [need (neighbourOk s v) 0x02400006]
    apply := withRg 0x6030 sub (if bits 31 30 v = 0 then 0 else v) }

/-- An override table that R301 accepts. -/
def overridesOk (s : State) (t : List (Nat × W64)) : Bool :=
  let ranks := t.map (fun p => ovRank p.2)
  let addrs := t.map (fun p => ovAddr p.2)
  decide ranks.Nodup && decide addrs.Nodup && ranks.all (fun r => r < jobSize s.regs)
    && addrs.all (fun a => match affineRank s.regs a with
      | some r => ranks.contains r
      | none => true)

/-- The states in which tables change while a score is installed (R301, R322). -/
def tablesOpen (s : State) : Bool := s.dev == .joined || s.dev == .prepared || s.dev == .held

/-- The rule of 0x6021:01. -/
def overrideRule (value : Bytes) (s : State) : Rule :=
  let n := entryNum value
  let w := entryWord value
  let v := w.toNat
  { codes :=
      [need (tablesOpen s) 0x03400001,
       need (!w.getLsbD 63 || (bits 62 52 v == 0 && bits 31 20 v == 0)) 0x0240FF02,
       need (n < 4096 && (!w.getLsbD 63 || overridesOk s (putEntry n w s.fab.overrides))) 0x02400005]
    apply := fun s => { s with fab := { s.fab with overrides := putEntry n w s.fab.overrides } } }

/-- RANK_OVERRIDE_WRITE (R301). -/
def execRankOverrideWrite (q : Req) (num : Nat) (entry : W64) (s : State) : Out :=
  let v := entryBytes num entry
  .next (writeReq q 0 0x6021 1 v (overrideRule v) s)

/-! ## Group tables (R319, R322) -/

/-- The groups that the installed score names have the same members under other tables. -/
def groupsKept (s : State) (t : Tables) : Bool :=
  match s.ex.score with
  | none => true
  | some sc =>
    s.dev == .joined || sc.colls.all (fun c =>
      regularGroup t (ownAffine s) c.group == regularGroup (tablesNow s) (ownAffine s) c.group)

/-- A member entry that R322 accepts. -/
def memberOk (w : W64) : Bool :=
  !w.getLsbD 63 || (bits 62 25 w.toNat == 0 && maskedOk (bits 24 20 w.toNat) (bits 19 0 w.toNat))

/-- The rule of 0x7000:01. -/
def memberRule (value : Bytes) (s : State) : Rule :=
  let n := entryNum value
  let w := entryWord value
  let m := putEntry n w s.fab.members
  { codes :=
      [need (tablesOpen s) 0x03500001, need (memberOk w) 0x02500005,
       need (groupsKept s { tablesNow s with members := m }) 0x02500002]
    apply := fun s => { s with fab := { s.fab with members := m } } }

/-- GROUP_MEMBER_ENTRY_WRITE (R322). -/
def execGroupMemberEntryWrite (q : Req) (num : Nat) (entry : W64) (s : State) : Out :=
  let v := entryBytes num entry
  .next (writeReq q 0 0x7000 1 v (memberRule v) s)

/-- A group descriptor that R322 accepts. -/
def groupOk (n : Nat) (w : W64) : Bool :=
  let v := w.toNat
  n < 4096 && (!w.getLsbD 63 ||
    (bits 62 48 v == 0 && bits 15 0 v == 0 && bits 31 16 v != 0 && bits 47 32 v + bits 31 16 v ≤ 65536))

/-- The rule of 0x7001:01. -/
def groupRule (value : Bytes) (s : State) : Rule :=
  let n := entryNum value
  let w := entryWord value
  let g := putEntry n w s.fab.groups
  { codes :=
      [need (tablesOpen s) 0x03500001, need (groupOk n w) 0x02500005,
       need (groupsKept s { tablesNow s with groups := g }) 0x02500002]
    apply := fun s => { s with fab := { s.fab with groups := g } } }

/-- GROUP_DESCRIPTOR_WRITE (R322). -/
def execGroupDescriptorWrite (q : Req) (num : Nat) (entry : W64) (s : State) : Out :=
  let v := entryBytes num entry
  .next (writeReq q 0 0x7001 1 v (groupRule v) s)

end Sys2Proof.Machine
end

