-- ==== Sys2Proof/Machine/Values.lean ====
section
/-! DEFINITION. What every object of the dictionary reads as: its stored value, the value computed from the
rest of the state (the object tables of every chapter), zeros while its blocks are gated (R10, R540), a free
value while its die is undefined (R529), in the layout of the COMPAT strap (R435).

Choices beyond the manual's plain words (notes/assumptions): DESIGN CHOICE 10, 150. -/

namespace Sys2Proof.Machine

/-! ## Undefined dies (R527, R529) -/

/-- The chain position of the die that a block belongs to: compute die b, memory of Bq at 12 + q, PXq at
16 + q, engines of Bq at 20 + q. -/
def diePosition (b : Nat) : Nat :=
  if b < 12 then 10 * (b / 3) + 1 + b % 3
  else if b < 16 then 10 * (b - 12)
  else if b < 20 then 10 * (b - 16) + 4
  else 10 * (b - 20)

/-- The chain positions of the dies that hold an object. -/
def diesOf (idx sub : Nat) : List Nat :=
  let link := linkDies sub
  if idx = 0x4001 then [10 * ((sub - 1) / 5) + 5 + (sub - 1) % 5]
  else if 0x6E00 ≤ idx ∧ idx ≤ 0x6E02 then [10 * link.1, 10 * link.2]
  else (blocksOf idx sub).map diePosition

/-- Some die that holds the object is undefined. -/
def undefinedObj (s : State) (idx sub : Nat) : Bool :=
  s.test.undefDies != 0 && (diesOf idx sub).any (fun n => s.test.undefDies.getLsbD n)

/-! ## Values computed -/

/-- Lanes of a port in service, as a bit map of colours. -/
def laneMap (s : State) (tx : Bool) (p : Nat) : Nat :=
  colours.foldl (fun n c => n + if laneState s tx p c = .inService then 2 ^ c else 0) 0

/-- Lanes of the module in a state. -/
def lanesIn (s : State) (tx : Bool) (st : LaneState) : Nat :=
  (List.range 32).foldl (fun n p => n + (colours.filter (fun c => laneState s tx p c = st)).length) 0

/-- A spare ring's field: the colour it has taken over, or parked. -/
def spareField (x : Option Nat) : Nat := x.getD 0x1F

/-- The status word of port p (0x5001). -/
def portStatus (s : State) (p : Nat) : Nat :=
  let x := portOf s p
  let gen1 := (colours.filter (fun c => !(rxOf s p c).gen2)).length
  x.state * 2 ^ 28 + (if x.gen2 then 2 ^ 27 else 0) + x.lastSlot * 2 ^ 22 + spareField x.txSpare * 2 ^ 17
    + spareField x.rxSpare * 2 ^ 12 + gen1 * 2 ^ 7

/-- The power field of a laser: the mean of its last readings, at most 1,023. -/
def powerField (readings : List Nat) : Nat := min 1023 (meanOf readings)

/-- The status word of a DFB laser (0x5010). -/
def laserStatus (x : Laser) : Nat :=
  powerField x.readings * 2 ^ 22 + x.state * 2 ^ 19
    + (match x.spare with | some n => 2 ^ 18 + n % 4 * 2 ^ 16 | none => 0) + x.commissioned

/-- The status word of a spare laser (0x5011). -/
def spareStatus (x : SpareLaser) : Nat :=
  powerField x.readings * 2 ^ 22 + x.state * 2 ^ 19 + x.colour * 2 ^ 15 + x.group * 2 ^ 14

/-- The status word of a half's in-field test (0xB001). -/
def halfStatus (x : HalfTest) : Nat :=
  let next := if x.next < 96 then x.next else 0
  next * 2 ^ 25 + (match x.core with | some c => if c < 96 then 2 ^ 24 else 0 | none => 0)
    + (match x.relief with | some r => (r - 96) * 2 ^ 22 | none => 0) + (if x.overdue then 2 ^ 21 else 0)

/-- The status word of a bulk channel (0x1201). -/
def chanStatus (x : BulkChan) : Nat := x.state * 2 ^ 60 + x.dir * 2 ^ 59 + x.acked

/-- The slots admitted for a step, as a bit map. -/
def admittedMap (s : State) (step : Nat) : Nat :=
  (List.range 64).foldl (fun n k =>
    n + if s.ex.admitted.any (fun a => a.step == step && a.slot == k) then 2 ^ k else 0) 0

/-- A list entry as bytes, or zeros. -/
def entryOr {α : Type} (n : Nat) (f : α → Bytes) (l : List α) (k : Nat) : Bytes :=
  match l[k]? with
  | some x => f x
  | none => zeros n

/-- The members of a group; 0 when it is not regular. -/
def membersOf (s : State) (g : Nat) : Nat :=
  match regularGroup (tablesNow s) (ownAffine s) g with
  | some sets => groupSize sets
  | none => 0

/-- Leases held at the sending ends, and issued at the receiving ends. -/
def leasesHeld (s : State) : Nat := s.fab.out.foldl (fun n c => n + c.leases.length) 0
def leasesIssued (s : State) : Nat := s.fab.inn.foldl (fun n c => n + c.leases.length) 0

/-- The audit entry at a position, while the log holds it (R433). -/
def logEntry (s : State) (pos : Nat) : Bytes :=
  match s.sec.log.find? (fun e => e.position == pos) with
  | some e => auditBytes e
  | none => zeros 160

/-- The extent of a tenant region (0x9030). -/
def regionBytes (s : State) (n : Nat) : Bytes :=
  match s.sec.regions.find? (fun r => r.num == n) with
  | some r => leBytes 8 r.base ++ leBytes 8 r.length
  | none => zeros 16

/-- Computed objects of the ranges 0x1000 to 0x4000. -/
def computedLow (s : State) (idx sub : Nat) : Option Bytes :=
  match idx, sub with
  | 0x1000, 4 => some (leBytes 1 (position s))
  | 0x1100, 8 => some (leBytes 1 (if s.ring.bypassOpen then 1 else 0))
  | 0x1201, c => some (leBytes 8 (chanStatus (chanOf s (c - 1))))
  | 0x1310, k => some (entryOr 72 eventContent s.ring.histOp (k - 1))
  | 0x1311, k => some (entryOr 72 eventContent s.ring.histTen (k - 1))
  | 0x2001, 1 => some (leBytes 1 (devCode s.dev))
  | 0x2001, 2 => some (leBytes 1 (if s.ex.holdPending then 4 else 0))
  | 0x2020, 2 => some (leBytes 8 (admittedMap s s.ex.nextStep))
  | 0x2020, 3 => some (leBytes 8 (admittedMap s (s.ex.nextStep + 1)))
  | 0x3040, 6 => some (leBytes 8 (scaleWord s.ex.scale))
  | 0x4001, k => some (leBytes 4 (stackStatus (stackOf s (k - 1))))
  | _, _ => none

/-- Computed objects of the ranges 0x5000 to 0x7000. -/
def computedMid (s : State) (sess idx sub : Nat) : Option Bytes :=
  match idx, sub with
  | 0x5000, 1 => some (leBytes 2 (lanesIn s true .inService))
  | 0x5000, 2 => some (leBytes 2 (lanesIn s false .inService))
  | 0x5000, 3 => some (leBytes 2 ([LaneState.dropped, .plantFault].foldl (fun n x =>
      n + lanesIn s true x + lanesIn s false x) 0))
  | 0x5000, 4 =>
    some (leBytes 4 ((List.range 32).foldl (fun n p => n + if (portOf s p).state = 3 then 2 ^ p else 0) 0))
  | 0x5000, 5 => some (leBytes 1 s.pho.commissioning)
  | 0x5001, k => some (leBytes 4 (portStatus s (k - 1)))
  | 0x5003, k => some (leBytes 2 (laneMap s true (k - 1)))
  | 0x5004, k => some (leBytes 2 (laneMap s false (k - 1)))
  | 0x5010, k => some (leBytes 4 (laserStatus (laserOf s (k - 1))))
  | 0x5011, k => some (leBytes 4 (spareStatus (spareLaserOf s (k - 1))))
  | 0x6000, 3 => some (leBytes 1 (planesPer s))
  | 0x6010, 3 => some (leBytes 8 (at_ 0 (ownVal s sess 0x6010 2) s.fab.exceptions).toNat)
  | 0x6010, 4 => some (leBytes 2 s.fab.exceptions.length)
  | 0x6020, 6 => some (leBytes 4 ((ownRank s).getD 0xFFFFFFFF))
  | 0x6020, 7 => some (leBytes 4 (jobSize s.regs))
  | 0x6021, 3 => some (leBytes 8 (at_ 0 (ownVal s sess 0x6021 2) s.fab.overrides).toNat)
  | 0x6021, 4 => some (leBytes 2 s.fab.overrides.length)
  | 0x6040, 1 => some (leBytes 4 (s.fab.out.length + s.fab.inn.length))
  | 0x6C00, 2 => some (leBytes 4 (leasesHeld s))
  | 0x6C00, 3 => some (leBytes 4 (leasesIssued s))
  | 0x6E00, k => some (leBytes 4 (linkStatus (linkOf s k)))
  | 0x7000, 3 => some (leBytes 8 (at_ 0 (ownVal s sess 0x7000 2) s.fab.members).toNat)
  | 0x7000, 4 => some (leBytes 4 s.fab.members.length)
  | 0x7001, 3 => some (leBytes 8 (at_ 0 (ownVal s sess 0x7001 2) s.fab.groups).toNat)
  | 0x7001, 4 => some (leBytes 4 (membersOf s (ownVal s sess 0x7001 2)))
  | 0x7010, 2 => some (leBytes 4 (crossover s.regs / 1024))
  | _, _ => none

/-- Computed objects of the ranges 0x9000 to 0xF000. -/
def computedHigh (s : State) (sess idx sub : Nat) : Option Bytes :=
  match idx, sub with
  | 0x9000, 1 => some (leBytes 32 Config.fusedEd25519.toNat)
  | 0x9000, 2 => some (leBytes 1952 Config.fusedMlDsa.toNat)
  | 0x9000, 3 => some (identBytes Config.fusedKeyIdentity)
  | 0x9000, 4 => some (leBytes 1 (islandStatus s))
  | 0x9001, n => some (leBytes 4 (sessionStatus (sessOf s n)))
  | 0x9002, n => some (identBytes (sessOf s n).key)
  | 0x9020, 2 => some (quoteBytes s sess)
  | 0x9030, k => some (regionBytes s (k - 1))
  | 0xA000, 1 => some (leBytes 1 (powCode s.pwr.req))
  | 0xA000, 2 => some (leBytes 1 (powCode s.pwr.cur))
  | 0xA000, 3 => some (leBytes 1 (if s.pwr.moving then 1 else 0))
  | 0xA010, 1 => some (leBytes 8 s.pwr.time)
  | 0xA030, 1 => some (leBytes 2 (strapWord s.straps))
  | 0xB001, k => some (leBytes 4 (halfStatus (halfTest s (k - 1))))
  | 0xF000, 2 => some (leBytes 8 (auditCount s - s.sec.log.length))
  | 0xF000, 3 => some (digestBytes s.sec.chain)
  | 0xF001, 2 => some (logEntry s (ownVal s sess 0xF001 1))
  | 0xF002, k => some (entryOr 40 (fun p : W256 × Nat => identBytes p.1 ++ leBytes 8 p.2) s.sec.origins (k - 1))
  | 0xF003, 2 => some s.sec.exported
  | _, _ => none

/-- The object is one of those computed from the rest of the state. -/
def computedValue (s : State) (sess idx sub : Nat) : Option Bytes :=
  if idx < 0x5000 then computedLow s idx sub
  else if idx < 0x8000 then computedMid s sess idx sub
  else computedHigh s sess idx sub

/-! ## The KZ-8 layout (R435) -/

/-- A KZ-8 loss record made of the KZ-12 record of R160. -/
def kz8Record (b : Bytes) : Bytes :=
  leBytes 4 (beNat (slice b 0 8)) ++ leBytes 4 (beNat (slice b 8 4)) ++ slice b 12 1
    ++ leBytes 1 (bits 23 18 (beNat (slice b 12 4))) ++ zeros 2

/-- The F32 encoding of 2^e. -/
def pow2Code (e : Nat) : Nat := (127 + e) * 2 ^ 23

/-- The objects that read differently with the COMPAT strap set. -/
def kz8Value (s : State) (idx sub : Nat) : Option Bytes :=
  match idx, sub with
  | 0x3040, 1 => some (leBytes 4 (pow2Code (rg s 0x3040 1)))
  | 0x3040, 6 => some (leBytes 4 (pow2Code s.ex.scale.e))
  | 0xC001, k => some (kz8Record (leBytes 16 (rg s 0xC001 k)))
  | _, _ => none

/-- The value of an object that is neither gated nor undefined. -/
def plainValue (s : State) (sess idx sub : Nat) : Bytes :=
  match (if s.straps.compat then kz8Value s idx sub else none).or (computedValue s sess idx sub) with
  | some b => b
  | none => asBytes s idx sub (if sessionScoped idx sub then ownVal s sess idx sub else rg s idx sub)

/-- What an object reads as in a session. -/
def valueOf (s : State) (sess idx sub : Nat) : Bytes :=
  if sub = 0 then leBytes 1 ((topIn s idx).getD 0)
  else if gatedObj s idx sub then gatedValue s idx sub
  else if undefinedObj s idx sub then asBytes s idx sub (Config.undefWord s.test.undefAt (keyOf idx sub))
  else plainValue s sess idx sub

end Sys2Proof.Machine
end

