-- ==== Sys2Proof/Machine/Dict.lean ====
section
/-! DEFINITION. The rule of a write to any object of the dictionary (R7 to R12, R415, R418, R425 to R432 and
the object tables of every chapter).

Choices beyond the manual's plain words (notes/assumptions): DEDUCED 20, 21, 22, 128, 147. -/

namespace Sys2Proof.Machine

/-- A write of a session-scoped object (R421). -/
def ownRule (q : Req) (idx sub : Nat) (value : Bytes) (codes : List Nat) : Rule :=
  { codes := codes, apply := withOwnVal q.sess idx sub (leNat value) }

/-- An F32 encoding holds a value from 0.0 up to a positive one; minus zero is zero. -/
def f32UpTo (top v : Nat) : Bool := v ≤ top || v == 0x80000000

/-! ## Bulk buffers (R409) -/

/-- The 128 buffers with one replaced, as (base, length). -/
def buffersWith (s : State) (b : Nat) (x : Nat × Nat) : List (Nat × Nat) :=
  (List.range 128).map (fun k => if k = b then x else bufferIn s.regs k)

/-- A buffer overlaps none but itself. -/
def bufferApart (l : List (Nat × Nat)) (b : Nat) (x : Nat × Nat) : Bool :=
  l.zipIdx.all (fun p => p.2 == b || !overlap x.1 x.2 p.1.1 p.1.2 || x.2 == 0 || p.1.2 == 0)

/-- The rule of 0x1210. Buffer 0 keeps its length. -/
def bufferRule (sub : Nat) (value : Bytes) (s : State) : Rule :=
  let b := sub - 1
  let base := leAt value 0 8
  let len := leAt value 8 4 * 4096
  storeRule 0x1210 sub value
    [need (leAt value 12 4 = 0) 0x0200FF02,
     need (base % 4096 == 0 && (b != 0 || len == 2 ^ 30)) 0x0200FF01,
     need (inTenant base len && bufferApart (buffersWith s b (base, len)) b (base, len)) 0x02000010]

/-! ## Numerics (R144, R157, R170) -/

/-- The rule of 0x3031: a key makes 0x3031:05 TRUE; the multiplier lies from 0.0 to 65,536.0. -/
def generatorRule (sub : Nat) (value : Bytes) : Rule :=
  let v := leNat value
  if sub = 1 then { apply := fun s => withRg 0x3031 5 1 (withRg 0x3031 1 v s) }
  else if sub = 3 then
    { apply := fun s => withRg 0x3031 3 v { s with
        ex := { s.ex with force := { s.ex.force with written := s.ex.step.running } } } }
  else if sub = 4 then storeRule 0x3031 4 value [need (f32UpTo 0x47800000 v) 0x0210FF01]
  else storeRule 0x3031 sub value []

/-- The rule of 0x3040. -/
def scaleRule (sub : Nat) (value : Bytes) (s : State) : Rule :=
  let v := leNat value
  let start := rg s 0x3040 1
  if sub = 1 then startScaleRule value s
  else if sub = 3 then
    storeRule 0x3040 3 value [need (scaleLimitsOk v start (rg s 0x3040 4)) 0x02100009]
  else if sub = 4 then
    storeRule 0x3040 4 value [need (scaleLimitsOk (rg s 0x3040 3) start v) 0x02100009]
  else if sub = 7 then scaleLoadRule value s
  else storeRule 0x3040 sub value []

/-! ## Resilience (R381) -/

/-- The rule of 0x8000: the glaze area in multiples of 256 KiB, its base a physical address (R203), the tolerance from 0.0 to 1.0. -/
def securingRule (sub : Nat) (value : Bytes) : Rule :=
  let v := leNat value
  if sub = 3 then storeRule 0x8000 3 value [need (v % stripeBytes == 0 && v < 2 ^ 41) 0x0260FF01]
  else if sub = 4 then storeRule 0x8000 4 value [need (v % stripeBytes == 0) 0x0260FF01]
  else if sub = 8 then storeRule 0x8000 8 value [need (f32UpTo 0x3F800000 v) 0x0260FF01]
  else storeRule 0x8000 sub value []

/-- The rule of 0x8001: a collective's number, or unused. -/
def glazedRule (sub : Nat) (value : Bytes) : Rule :=
  let v := leNat value
  storeRule 0x8001 sub value [need (v < 16384 || v == 0xFFFF) 0x0260FF01]

/-- The rule of 0x8002: a secured region's fields. -/
def regionRule (sub : Nat) (value : Bytes) : Rule :=
  let a := leAt value 0 8
  storeRule 0x8002 sub value
    [need (a / 2 ^ 41 == 0 && leAt value 14 2 == 0) 0x0260FF02,
     need (a % 256 == 0 && leAt value 12 2 < 64) 0x0260FF01]

/-- The outcome byte of a loss record (R160): one of the three outcomes, with or without a late error. -/
def outcomeOk (v : Nat) : Bool := 1 ≤ v % 128 && v % 128 ≤ 3

/-- The rule of 0x8003. The expected replay record has the layout of R160: its reserved bits are zero, and its
outcome byte holds an outcome (notes/assumptions/128.md). -/
def recoveryRule (q : Req) (sub : Nat) (value : Bytes) (s : State) : Rule :=
  if sub = 1 then abandonRule q s
  else if sub = 2 then restoreRule value s
  else
    { codes := [need (beNat value % 2 ^ 14 = 0) 0x0260FF02,
        need (outcomeOk (bits 31 24 (beNat value))) 0x0260FF01]
      apply := fun s => withRg 0x8003 3 (leNat value) { s with res := { s.res with expectedWritten := true } } }

/-! ## The audit selection (R433) -/

/-- The rule of 0xF001:01: a position that the log holds. -/
def selectRule (q : Req) (value : Bytes) (s : State) : Rule :=
  let v := leNat value
  ownRule q 0xF001 1 value
    [need (auditCount s - s.sec.log.length ≤ v && v < auditCount s) 0x0280FF01]

/-! ## Every object -/

/-- Objects of the ranges 0x1000 to 0x4000. -/
def ruleLow (q : Req) (idx sub : Nat) (value : Bytes) (s : State) : Rule :=
  match idx with
  | 0x1200 => if sub = 1 then bulkOpenRule q value s else bulkCloseRule value
  | 0x1210 => bufferRule sub value s
  | 0x2000 => commandRule q idx sub value s
  | 0x2011 => grantRule value s
  | 0x2020 => postRule value s
  | 0x3031 => generatorRule sub value
  | 0x3040 => scaleRule sub value s
  | 0x4000 => boundaryRule (leNat value) s
  | 0x4002 => partitionRule sub (leNat value) s
  | 0x4010 => genRule (leAt value 3 1) (genOf value) s
  | 0x4800 => hostRule q value s
  | _ => storeRule idx sub value []

/-- Objects of the ranges 0x5000 to 0x8000. -/
def ruleMid (q : Req) (idx sub : Nat) (value : Bytes) (s : State) : Rule :=
  match idx with
  | 0x5002 => generationRule sub value
  | 0x5040 => recommissionRule value s
  | 0x6000 => fabricRule idx sub value s
  | 0x6001 => fabricRule idx sub value s
  | 0x6010 => exceptionRule value s
  | 0x6020 => if sub = 8 then baseRule value else coordRule sub value s
  | 0x6021 => overrideRule value s
  | 0x6030 => neighbourRule sub value s
  | 0x6C00 => storeRule idx sub value [need (500 ≤ leNat value && leNat value ≤ 16000) 0x02400001]
  | 0x7000 => memberRule value s
  | 0x7001 => groupRule value s
  | 0x8000 => securingRule sub value
  | 0x8001 => glazedRule sub value
  | 0x8002 => regionRule sub value
  | 0x8003 => recoveryRule q sub value s
  | 0x8010 => if sub = 1 then armRule value s else storeRule idx sub value []
  | _ => storeRule idx sub value []

/-- Objects of the ranges 0x9000 to 0xF000. -/
def ruleHigh (q : Req) (idx sub : Nat) (value : Bytes) (s : State) : Rule :=
  match idx with
  | 0x9003 => enrolRule idx sub value s
  | 0x9004 => enrolRule idx sub value s
  | 0x9010 => firmwareRule q s
  | 0xA000 => powerRule q value s
  | 0xA001 => enableRule sub value
  | 0xA010 => referenceRule value
  | 0xA020 => pllRule sub value
  | 0xB000 => testSettingsRule sub value
  | 0xB010 => selfTestRule value s
  | 0xB020 => testPortRule value s
  | 0xF001 => selectRule q value s
  | _ => storeRule idx sub value []

/-- The rule of a write to any object. -/
def ruleOf (q : Req) (idx sub : Nat) (value : Bytes) (s : State) : Rule :=
  if sessionScoped idx sub && idx != 0xF001 then ownRule q idx sub value []
  else if idx < 0x5000 then ruleLow q idx sub value s
  else if idx < 0x9000 then ruleMid q idx sub value s
  else ruleHigh q idx sub value s

/-- The checks of an object's rule that need no data (R403). -/
def earlyCodes (idx sub : Nat) (s : State) : List Nat :=
  match idx, sub with
  | 0x2011, _ => [stateNeed (s.dev == .prepared || s.dev == .running || s.dev == .held)]
  | 0x2020, _ => [stateNeed (s.dev == .prepared || s.dev == .running || s.dev == .held)]
  | 0x3040, 7 => [stateNeed (s.dev == .prepared || s.dev == .held)]
  | 0x4010, _ => [need s.mem.trained 0x03200002]
  | 0x4800, _ => [need (s.dev == .prepared || s.dev == .held) 0x03700001]
  | 0x5040, _ => (recommissionRule [] s).codes.take 1
  | 0x6021, 1 => [need (tablesOpen s) 0x03400001]
  | 0x7000, 1 => [need (tablesOpen s) 0x03500001]
  | 0x7001, 1 => [need (tablesOpen s) 0x03500001]
  | 0x8003, 1 => [need (s.dev == .running || s.dev == .held) 0x03600002]
  | 0x8003, 2 => (restoreRule [] s).codes
  | 0x8010, 1 => [need (s.dev == .prepared || s.dev == .running || s.dev == .held) 0x03600001]
  | 0x9010, _ => [need (s.dev == .joined) 0x03800001]
  | 0xB010, _ => [need (s.dev == .joined) 0x03A00001, need (!tenantHere s) 0x04A00001]
  | _, _ => []

end Sys2Proof.Machine
end

