-- ==== Sys2Proof/Machine/Requests.lean ====
section
/-! DEFINITION. Dictionary requests of every type (R400 to R407): expedited, segmented and block, the blocks
received (R402, R403), and the quote (R427).

Choices beyond the manual's plain words (notes/assumptions): DEDUCED 19, 23, 24, 25, 26, 27, 36. -/

namespace Sys2Proof.Machine

/-- The protocol error of a length outside a transaction type's limit (R401). -/
def limitCode (lo hi len : Nat) : Nat := need (lo ≤ len && len ≤ hi) 0x06000005

/-- Limits of the transaction types: expedited, segmented, block (R400). -/
def expeditedMax : Nat := 8
def segmentedMax : Nat := 65536
def blockMax : Nat := 2 ^ 32

/-! ## Writes in one message -/

/-- The position that sent the session-0 message of a request. -/
def senderOf (s : State) (msg : Nat) : Nat :=
  match s.ring.inbox.find? (fun p => p.sess == 0 && p.msg == msg && p.typ == 1) with
  | some p => p.src
  | none => 0

/-- A write of any object in one message; the join command is the one write of session 0 (R394). -/
def writeAny (q : Req) (hi idx sub : Nat) (value : Bytes) (s : State) : State :=
  let proto := limitCode 1 hi value.length
  if q.sess = 0 ∧ idx = 0x2000 ∧ sub = 1 ∧ value = [1] ∧ proto = 0 then
    joinCommand (senderOf s q.msg) (position s) q.msg s
  else writeReq q proto idx sub value (ruleOf q idx sub value) s

/-- EXPEDITED_WRITE (R401). -/
def execExpeditedWrite (q : Req) (idx sub : Nat) (value : Bytes) (s : State) : Out :=
  settled s (writeAny q expeditedMax idx sub value s)

/-- SEGMENTED_WRITE (R401). -/
def execSegmentedWrite (q : Req) (idx sub : Nat) (value : Bytes) (s : State) : Out :=
  settled s (writeAny q segmentedMax idx sub value s)

/-- DICTIONARY_WRITE (R12). -/
def execDictionaryWrite (q : Req) (idx sub : Nat) (value : Bytes) (s : State) : Out :=
  settled s (writeAny q segmentedMax idx sub value s)

/-! ## Reads -/

/-- The protocol error of a read: the length asked for, and that of the value, suit the type. -/
def readLimit (lo hi len : Nat) (q : Req) (idx sub : Nat) (s : State) : Nat :=
  if limitCode lo hi len ≠ 0 then limitCode lo hi len
  else if objExists s idx sub false then limitCode 0 hi (valueOf s q.sess idx sub).length
  else 0

/-- A read in one message (R406). -/
def readAny (q : Req) (hi idx sub len : Nat) (s : State) : State :=
  onArrival q (fun s =>
    let s := noteCommand q (if hi ≤ 8 then 2 else 4) idx sub s
    let code := readCode q (readLimit 1 hi len q idx sub s) idx sub s
    if code = 0 then respond q 0 (valueOf s q.sess idx sub) (forwardAccess false idx sub s)
    else respond q code [] s) s

/-- EXPEDITED_READ (R401). -/
def execExpeditedRead (q : Req) (idx sub len : Nat) (s : State) : Out :=
  .next (readAny q expeditedMax idx sub len s)

/-- SEGMENTED_READ (R401). -/
def execSegmentedRead (q : Req) (idx sub len : Nat) (s : State) : Out :=
  .next (readAny q segmentedMax idx sub len s)

/-- ATTESTATION_QUOTE (R427, R463): a segmented read of 0x9020:02. -/
def execAttestationQuote (q : Req) (s : State) : Out :=
  .next (readAny q segmentedMax 0x9020 2 3885 s)

/-! ## Block reads (R403) -/

/-- A block read begun: the response with the value's length, then the blocks. An empty value has none. -/
def beginBlockRead (q : Req) (idx sub : Nat) (s : State) : State :=
  let v := valueOf s q.sess idx sub
  if v.isEmpty then respond q 0 [] s
  else
    let t : Transfer :=
      { sess := q.sess, msg := q.msg, idx := idx, sub := sub, len := v.length, toModule := false
        blocks := cutBlocks v }
    pumpTransfer q.sess q.msg 8 (putTransfer t (beginReq q (sendRing (.blockBegin q.sess q.msg v.length) s)))

/-- BLOCK_READ (R403). -/
def execBlockRead (q : Req) (idx sub len : Nat) (s : State) : Out :=
  .next (onArrival q (fun s =>
    let s := noteCommand q 6 idx sub s
    let code := readCode q (readLimit 1 blockMax len q idx sub s) idx sub s
    if code = 0 then beginBlockRead q idx sub (forwardAccess false idx sub s) else respond q code [] s) s)

/-! ## Block writes (R402, R403, R407) -/

/-- The code of a block write's request: the checks that need no data. -/
def blockWriteCode (q : Req) (idx sub len : Nat) (s : State) : Nat :=
  let ss := subsystemOf idx
  let acc := accessOf s idx sub (roleOf s q.sess)
  if limitCode 1 blockMax len ≠ 0 then limitCode 1 blockMax len
  else if !objExists s idx sub true then 0x01000001
  else if q.sess ≠ 0 ∧ !acc.writes then abort 1 ss 0xFF01
  else firstByClass
    ([need (!gatedObj s idx sub) 0x03900022,
      need (!(acc == .rwj && s.dev ≠ .joined)) (abort 3 ss 0xFF01),
      need (q.sess ≠ 0) 0x04000001,
      need (lengthOk s idx sub len) (abort 2 ss 0xFF03)]
      ++ earlyCodes idx sub s ++
      [need (!busyObj s idx sub) (abort 5 ss 0xFF01),
       need ((sessOf s q.sess).inProgress.length < 16) 0x05000001])

/-- A block write accepted: the settings it depends on are kept; a firmware image is a pending write, and
the update state is receiving (R426). -/
def beginBlockWrite (q : Req) (idx sub len : Nat) (s : State) : State :=
  let t : Transfer :=
    { sess := q.sess, msg := q.msg, idx := idx, sub := sub, len := len, toModule := true
      regs := s.regs, members := s.fab.members, groups := s.fab.groups, overrides := s.fab.overrides }
  let s := putTransfer t (beginReq q (sendRing (.blockBegin q.sess q.msg len) s))
  if idx = 0x9010 then withRg 0x9010 2 1 (addPend .firmware q s) else s

/-- A block write of any object. -/
def blockWriteAny (q : Req) (idx sub len : Nat) (s : State) : State :=
  onArrival q (fun s =>
    let s := noteCommand q 5 idx sub s
    let code := blockWriteCode q idx sub len s
    if code = 0 then beginBlockWrite q idx sub len s else rejectReq q code s) s

/-- BLOCK_WRITE (R403). -/
def execBlockWrite (q : Req) (idx sub len : Nat) (s : State) : Out := .next (blockWriteAny q idx sub len s)

/-- FIRMWARE_IMAGE_WRITE (R426). -/
def execFirmwareImageWrite (q : Req) (length : Nat) (s : State) : Out :=
  .next (blockWriteAny q 0x9010 1 length s)

/-- A request no longer in progress, its response not yet sent. -/
def leaveProgress (q : Req) (s : State) : State :=
  let x := sessOf s q.sess
  withSess q.sess { x with inProgress := dropNum q.msg x.inProgress } s

/-- The state with the settings of a transfer's acceptance (R407). -/
def asAccepted (t : Transfer) (s : State) : State :=
  { s with regs := t.regs
           fab := { s.fab with members := t.members, groups := t.groups, overrides := t.overrides } }

/-- The value that the blocks of a transfer make up. -/
def joinBlocks (t : Transfer) : Bytes :=
  (List.range (blockTotal t.len)).flatMap (fun k => at_ [] k t.blocks)

/-- After the last block: the value is checked, applied or rejected, and answered (R403). A firmware image
waits for its verification (R426). -/
def finishBlockWrite (t : Transfer) (s : State) : State :=
  let q : Req := ⟨t.sess, t.msg⟩
  let s := dropTransfer t s
  if t.idx = 0x9010 then withRg 0x9010 2 2 s
  else
    let s := leaveProgress q s
    let value := joinBlocks t
    let old := asAccepted t s
    let r := ruleOf q t.idx t.sub value old
    let code := writeCode q 0 t.idx t.sub value r old
    if code = 0 then acceptWrite q t.idx t.sub value r s else rejectReq q code (r.onReject s)

/-- A block write failed after 8 resends (R402). -/
def failBlockWrite (t : Transfer) (s : State) : State :=
  let s := dropTransfer t s
  if t.idx = 0x9010 then failUpdate 0x06000004 s else rejectReq ⟨t.sess, t.msg⟩ 0x06000004 s

/-- A block of a block write received: good ones are kept and acknowledged, others asked for again. -/
def writeBlockReceived (b : Block) (s : State) : State :=
  let ack := fun (st : Nat) => sendRing (.blockAck ⟨b.sess, false, b.chan, b.msg, b.num, st⟩)
  match transferOf s true b.sess b.msg with
  | none => s
  | some t =>
    let good := blockGood b && b.num < blockTotal t.len && b.data.length == blockLen t.len b.num
    if (lookup b.num t.blocks).isSome then ack 0 s
    else if good then
      let t := { t with blocks := put b.num b.data t.blocks }
      let s := ack 0 (putTransfer t s)
      if t.blocks.length = blockTotal t.len then finishBlockWrite t s else s
    else if 8 ≤ at_ 0 b.num t.resent then failBlockWrite t s
    else ack 1 (putTransfer { t with resent := set_ 0 b.num (at_ 0 b.num t.resent + 1) t.resent } s)

/-- BLOCK_DATA (R402, R409, R411): bulk data travels in the TENANT session only. -/
def execBlockData (b : Block) (s : State) : Out :=
  let s := fresh s
  if !hears s then .next s
  else if b.sess ≠ 0 ∧ (sessOf s b.sess).state ≠ .established then .next (bump 0x1101 3 1 s)
  else
    let s := takeMsg 4 b.sess s
    settled s (if !b.bulk then writeBlockReceived b s
      else if roleOf s b.sess = .tenant ∧ b.chan < 8 then bulkReceived b s
      else s)

end Sys2Proof.Machine
end

