-- ==== Sys2Proof/Machine/Dispatch.lean ====
section
/-! DEFINITION. The meaning of every command: one arm per constructor, each one direct call. -/

namespace Sys2Proof.Machine

/-- The effect of a command on everything but the queue. -/
def exec (i : Instr) (s : State) : Host.Outcome State Fault Refusal :=
  match i with
  | .join src dst msg => Sys2Proof.Machine.execJoin src dst msg s
  | .leave q => Sys2Proof.Machine.execLeave q s
  | .clearFault q => Sys2Proof.Machine.execClearFault q s
  | .prepare q => Sys2Proof.Machine.execPrepare q s
  | .prepareComplete sigGood => Sys2Proof.Machine.execPrepareComplete sigGood s
  | .run q => Sys2Proof.Machine.execRun q s
  | .hold q => Sys2Proof.Machine.execHold q s
  | .release q => Sys2Proof.Machine.execRelease q s
  | .unprepare q => Sys2Proof.Machine.execUnprepare q s
  | .grantSteps q steps => Sys2Proof.Machine.execGrantSteps q steps s
  | .postMicroBatch q p => Sys2Proof.Machine.execPostMicroBatch q p s
  | .stepStart => Sys2Proof.Machine.execStepStart s
  | .stepBoundary => Sys2Proof.Machine.execStepBoundary s
  | .stepStalled => Sys2Proof.Machine.execStepStalled s
  | .crumbFire half core errs => Sys2Proof.Machine.execCrumbFire half core errs s
  | .crumbRetire half core unit => Sys2Proof.Machine.execCrumbRetire half core unit s
  | .watchSampleComplete half core => Sys2Proof.Machine.execWatchSampleComplete half core s
  | .commitGatedRetire half core => Sys2Proof.Machine.execCommitGatedRetire half core s
  | .padElision half core => Sys2Proof.Machine.execPadElision half core s
  | .stealing half claim => Sys2Proof.Machine.execStealing half claim s
  | .tokenPacket token inc => Sys2Proof.Machine.execTokenPacket token inc s
  | .creditGrantPacket die ep cls granules to_ => Sys2Proof.Machine.execCreditGrantPacket die ep cls granules to_ s
  | .copyJobFire die engine => Sys2Proof.Machine.execCopyJobFire die engine s
  | .copyJobRetire die engine => Sys2Proof.Machine.execCopyJobRetire die engine s
  | .streamSegmentStart stream => Sys2Proof.Machine.execStreamSegmentStart stream s
  | .streamSegmentComplete stream => Sys2Proof.Machine.execStreamSegmentComplete stream s
  | .verdictPoint => Sys2Proof.Machine.execVerdictPoint s
  | .pairDigestReceive m => Sys2Proof.Machine.execPairDigestReceive m s
  | .verdictReductionComplete => Sys2Proof.Machine.execVerdictReductionComplete s
  | .lossReductionComplete => Sys2Proof.Machine.execLossReductionComplete s
  | .securingTransfer => Sys2Proof.Machine.execSecuringTransfer s
  | .collectiveLaunch coll => Sys2Proof.Machine.execCollectiveLaunch coll s
  | .collectiveChunk c => Sys2Proof.Machine.execCollectiveChunk c s
  | .pralineWord w => Sys2Proof.Machine.execPralineWord w s
  | .pralineRepeat => Sys2Proof.Machine.execPralineRepeat s
  | .hostCopyRequest q value => Sys2Proof.Machine.execHostCopyRequest q value s
  | .hostCopyComplete => Sys2Proof.Machine.execHostCopyComplete s
  | .memoryReadRequest p ecc => Sys2Proof.Machine.execMemoryReadRequest p ecc s
  | .memoryWrite p data => Sys2Proof.Machine.execMemoryWrite p data s
  | .memoryReadResponse die ep tag data poison => Sys2Proof.Machine.execMemoryReadResponse die ep tag data poison s
  | .writeAcknowledgement die ep tag invalidate addr => Sys2Proof.Machine.execWriteAcknowledgement die ep tag invalidate addr s
  | .writeCombineTimeout controller line => Sys2Proof.Machine.execWriteCombineTimeout controller line s
  | .hbmRefresh stack bank => Sys2Proof.Machine.execHbmRefresh stack bank s
  | .hbmTemperatureReadout temps => Sys2Proof.Machine.execHbmTemperatureReadout temps s
  | .patrolScrub found => Sys2Proof.Machine.execPatrolScrub found s
  | .hbmTrainingComplete failures => Sys2Proof.Machine.execHbmTrainingComplete failures s
  | .generatorWriteReadCheck q g => Sys2Proof.Machine.execGeneratorWriteReadCheck q g s
  | .generatorWrite q g => Sys2Proof.Machine.execGeneratorWrite q g s
  | .generatorReadCheck q g => Sys2Proof.Machine.execGeneratorReadCheck q g s
  | .generatorStopAll q g => Sys2Proof.Machine.execGeneratorStopAll q g s
  | .generatorComplete symbols mismatches first => Sys2Proof.Machine.execGeneratorComplete symbols mismatches first s
  | .partitionSettingWrite q sub value => Sys2Proof.Machine.execPartitionSettingWrite q sub value s
  | .quadrantLocalBoundaryWrite q b => Sys2Proof.Machine.execQuadrantLocalBoundaryWrite q b s
  | .stackPortTransfer cd port toBase data errs credit => Sys2Proof.Machine.execStackPortTransfer cd port toBase data errs credit s
  | .qlDataUnit u payload => Sys2Proof.Machine.execQlDataUnit u payload s
  | .qlIdleUnit u => Sys2Proof.Machine.execQlIdleUnit u s
  | .qlNakUnit u => Sys2Proof.Machine.execQlNakUnit u s
  | .qlReplayTimeout link up => Sys2Proof.Machine.execQlReplayTimeout link up s
  | .qlRetrainComplete link repaired exhausted beyond => Sys2Proof.Machine.execQlRetrainComplete link repaired exhausted beyond s
  | .qlRetrainTimeout link => Sys2Proof.Machine.execQlRetrainTimeout link s
  | .leaseGrant m => Sys2Proof.Machine.execLeaseGrant m s
  | .leaseRenewalDue peer ctx lease => Sys2Proof.Machine.execLeaseRenewalDue peer ctx lease s
  | .leaseRenewal m => Sys2Proof.Machine.execLeaseRenewal m s
  | .renewalAcknowledgement m => Sys2Proof.Machine.execRenewalAcknowledgement m s
  | .granuleReturn m => Sys2Proof.Machine.execGranuleReturn m s
  | .issuerLeaseExpiry ctx lease => Sys2Proof.Machine.execIssuerLeaseExpiry ctx lease s
  | .holderLeaseExpiry peer ctx lease => Sys2Proof.Machine.execHolderLeaseExpiry peer ctx lease s
  | .tokenIncrementParcel m => Sys2Proof.Machine.execTokenIncrementParcel m s
  | .dataFlit f => Sys2Proof.Machine.execDataFlit f s
  | .idleFlit f => Sys2Proof.Machine.execIdleFlit f s
  | .nakFlit f => Sys2Proof.Machine.execNakFlit f s
  | .testFlit f => Sys2Proof.Machine.execTestFlit f s
  | .flitReplayTimeout port colour => Sys2Proof.Machine.execFlitReplayTimeout port colour s
  | .parcelForward cls => Sys2Proof.Machine.execParcelForward cls s
  | .parcelDelivery => Sys2Proof.Machine.execParcelDelivery s
  | .laneFrame f => Sys2Proof.Machine.execLaneFrame f s
  | .laneFrameTimeout port colour linePresent => Sys2Proof.Machine.execLaneFrameTimeout port colour linePresent s
  | .ringLockLoop tx port ring step found => Sys2Proof.Machine.execRingLockLoop tx port ring step found s
  | .searchCandidateTimeout port colour => Sys2Proof.Machine.execSearchCandidateTimeout port colour s
  | .ringSearchLineReached tx port colour line accepted crossings => Sys2Proof.Machine.execRingSearchLineReached tx port colour line accepted crossings s
  | .anchorSweepRetry port => Sys2Proof.Machine.execAnchorSweepRetry port s
  | .opticalCommissioningComplete found => Sys2Proof.Machine.execOpticalCommissioningComplete found s
  | .wavelengthCheck laser offsetMHz => Sys2Proof.Machine.execWavelengthCheck laser offsetMHz s
  | .calibrationSlot port ringsGood => Sys2Proof.Machine.execCalibrationSlot port ringsGood s
  | .calibrationSlotEnd port back farOff => Sys2Proof.Machine.execCalibrationSlotEnd port back farOff s
  | .laserPowerReading spare laser reading => Sys2Proof.Machine.execLaserPowerReading spare laser reading s
  | .spareLaserLocked engine spare => Sys2Proof.Machine.execSpareLaserLocked engine spare s
  | .recommissionPort q port => Sys2Proof.Machine.execRecommissionPort q port s
  | .transmitGenerationWrite q sub gen => Sys2Proof.Machine.execTransmitGenerationWrite q sub gen s
  | .exceptionEntryWrite q num entry => Sys2Proof.Machine.execExceptionEntryWrite q num entry s
  | .rankOverrideWrite q num entry => Sys2Proof.Machine.execRankOverrideWrite q num entry s
  | .fabricConfigurationWrite q idx sub value => Sys2Proof.Machine.execFabricConfigurationWrite q idx sub value s
  | .groupMemberEntryWrite q num entry => Sys2Proof.Machine.execGroupMemberEntryWrite q num entry s
  | .groupDescriptorWrite q num entry => Sys2Proof.Machine.execGroupDescriptorWrite q num entry s
  | .abandon q => Sys2Proof.Machine.execAbandon q s
  | .abandonComplete => Sys2Proof.Machine.execAbandonComplete s
  | .restore q step => Sys2Proof.Machine.execRestore q step s
  | .restoreComplete => Sys2Proof.Machine.execRestoreComplete s
  | .remoteReadRequest m => Sys2Proof.Machine.execRemoteReadRequest m s
  | .remoteReadResponse m => Sys2Proof.Machine.execRemoteReadResponse m s
  | .remoteWrite m => Sys2Proof.Machine.execRemoteWrite m s
  | .holdCommitArm q step => Sys2Proof.Machine.execHoldCommitArm q step s
  | .scaleStateLoad q value => Sys2Proof.Machine.execScaleStateLoad q value s
  | .kz8StartScaleWrite q value => Sys2Proof.Machine.execKz8StartScaleWrite q value s
  | .frameMark m crc => Sys2Proof.Machine.execFrameMark m crc s
  | .dataSlot x => Sys2Proof.Machine.execDataSlot x s
  | .messageTimeout src sess msg => Sys2Proof.Machine.execMessageTimeout src sess msg s
  | .expeditedWrite q idx sub value => Sys2Proof.Machine.execExpeditedWrite q idx sub value s
  | .expeditedRead q idx sub len => Sys2Proof.Machine.execExpeditedRead q idx sub len s
  | .segmentedWrite q idx sub value => Sys2Proof.Machine.execSegmentedWrite q idx sub value s
  | .segmentedRead q idx sub len => Sys2Proof.Machine.execSegmentedRead q idx sub len s
  | .blockWrite q idx sub len => Sys2Proof.Machine.execBlockWrite q idx sub len s
  | .blockRead q idx sub len => Sys2Proof.Machine.execBlockRead q idx sub len s
  | .dictionaryWrite q idx sub value => Sys2Proof.Machine.execDictionaryWrite q idx sub value s
  | .blockData b => Sys2Proof.Machine.execBlockData b s
  | .bulkBlockWritten chan num data => Sys2Proof.Machine.execBulkBlockWritten chan num data s
  | .blockAcknowledgement a => Sys2Proof.Machine.execBlockAcknowledgement a s
  | .blockAckTimeout a => Sys2Proof.Machine.execBlockAckTimeout a s
  | .bulkOpen q o => Sys2Proof.Machine.execBulkOpen q o s
  | .bulkClose q chan => Sys2Proof.Machine.execBulkClose q chan s
  | .eventTransmit => Sys2Proof.Machine.execEventTransmit s
  | .hello msg role key reserved => Sys2Proof.Machine.execHello msg role key reserved s
  | .finish m => Sys2Proof.Machine.execFinish m s
  | .finishTimeout sess => Sys2Proof.Machine.execFinishTimeout sess s
  | .close sess named => Sys2Proof.Machine.execClose sess named s
  | .fabricKeyInstall q reserved key => Sys2Proof.Machine.execFabricKeyInstall q reserved key s
  | .regionKeyInstall q region reserved base length key => Sys2Proof.Machine.execRegionKeyInstall q region reserved base length key s
  | .regionRemove q region reserved => Sys2Proof.Machine.execRegionRemove q region reserved s
  | .enrolmentWrite q idx sub key => Sys2Proof.Machine.execEnrolmentWrite q idx sub key s
  | .firmwareImageWrite q length => Sys2Proof.Machine.execFirmwareImageWrite q length s
  | .firmwareWriteComplete img sigGood => Sys2Proof.Machine.execFirmwareWriteComplete img sigGood s
  | .attestationQuote q => Sys2Proof.Machine.execAttestationQuote q s
  | .ringClockLoss => Sys2Proof.Machine.execRingClockLoss s
  | .ringClockReturn linksDown => Sys2Proof.Machine.execRingClockReturn linksDown s
  | .timeReferenceLost => Sys2Proof.Machine.execTimeReferenceLost s
  | .ppsEdge => Sys2Proof.Machine.execPpsEdge s
  | .timeReferenceWrite q value => Sys2Proof.Machine.execTimeReferenceWrite q value s
  | .powerStateRequest q value => Sys2Proof.Machine.execPowerStateRequest q value s
  | .powerStateReached => Sys2Proof.Machine.execPowerStateReached s
  | .blockEnableWrite q sub value => Sys2Proof.Machine.execBlockEnableWrite q sub value s
  | .pllSettingWrite q sub value => Sys2Proof.Machine.execPllSettingWrite q sub value s
  | .supplyOrTemperatureFault m => Sys2Proof.Machine.execSupplyOrTemperatureFault m s
  | .thermTrip die stack => Sys2Proof.Machine.execThermTrip die stack s
  | .pmbusPoll st => Sys2Proof.Machine.execPmbusPoll st s
  | .pmbusAlert st => Sys2Proof.Machine.execPmbusAlert st s
  | .islandMismatch => Sys2Proof.Machine.execIslandMismatch s
  | .moduleReset p => Sys2Proof.Machine.execModuleReset p s
  | .resetRelease straps => Sys2Proof.Machine.execResetRelease straps s
  | .symbolLock locked => Sys2Proof.Machine.execSymbolLock locked s
  | .settleDelayElapsed => Sys2Proof.Machine.execSettleDelayElapsed s
  | .islandSelfTest b0 b2 => Sys2Proof.Machine.execIslandSelfTest b0 b2 s
  | .firmwareVerified img sigGood => Sys2Proof.Machine.execFirmwareVerified img sigGood s
  | .selfTestTileStores q target reserved => Sys2Proof.Machine.execSelfTestTileStores q target reserved s
  | .selfTestSharedCache q target reserved => Sys2Proof.Machine.execSelfTestSharedCache q target reserved s
  | .selfTestMemorySideCache q target reserved => Sys2Proof.Machine.execSelfTestMemorySideCache q target reserved s
  | .selfTestHbmStack q target reserved => Sys2Proof.Machine.execSelfTestHbmStack q target reserved s
  | .selfTestComplete failing => Sys2Proof.Machine.execSelfTestComplete failing s
  | .testPortEnable q value => Sys2Proof.Machine.execTestPortEnable q value s
  | .tapReset => Sys2Proof.Machine.execTapReset s
  | .extest => Sys2Proof.Machine.execExtest s
  | .samplePreload pins => Sys2Proof.Machine.execSamplePreload pins s
  | .idcode => Sys2Proof.Machine.execIdcode s
  | .clamp => Sys2Proof.Machine.execClamp s
  | .highz => Sys2Proof.Machine.execHighz s
  | .dieSelect select => Sys2Proof.Machine.execDieSelect select s
  | .dieAccess => Sys2Proof.Machine.execDieAccess s
  | .bypass code => Sys2Proof.Machine.execBypass code s
  | .coreTestDue half => Sys2Proof.Machine.execCoreTestDue half s
  | .coreTestStart half => Sys2Proof.Machine.execCoreTestStart half s
  | .coreTestOverdue half => Sys2Proof.Machine.execCoreTestOverdue half s
  | .coreTestComplete half passed => Sys2Proof.Machine.execCoreTestComplete half passed s
  | .tenantStateErased => Sys2Proof.Machine.execTenantStateErased s
  | .timeReferenceReturn => Sys2Proof.Machine.execTimeReferenceReturn s

end Sys2Proof.Machine
end

