-- ==== Sys2Proof/WellFormed.lean ====
section
/-! DEFINITION. Well-formed commands: every operand fits the field of the message, header or register
that carries it, and every unit number names a unit the module has. A command that is not well-formed
cannot arrive; exec gives such commands no effect of their own.

Choices beyond the manual's plain words (notes/assumptions): DESIGN CHOICE 121. -/

namespace Sys2Proof

open Sys2Proof.Machine (bits)

/-- A request's session and message ID fit the slot header (R389). -/
def Req.wf (q : Req) : Bool := q.sess < 8 && q.msg < 2 ^ 16

/-- A post's fields fit their bits (R77). -/
def Post.wf (p : Post) : Bool :=
  p.step < 2 ^ 64 && p.slot < 256 && p.reserved < 256 && p.tokens < 2 ^ 32 && p.buffer < 2 ^ 16

/-- A unit's link exists, and its 128 bytes have 1,024 bits (R36). -/
def QlUnit.wf (u : QlUnit) : Bool := 1 ≤ u.link && u.link ≤ 6 && u.errs.all (· < 1024)

/-- A generator request's fields fit (R228). -/
def GenReq.wf (g : GenReq) : Bool :=
  g.stack < 256 && g.channel < 256 && g.pseudo < 256 && g.pattern < 256 && g.area < 256
    && g.passes < 2 ^ 16 && g.seed < 2 ^ 64 && g.startLine < 2 ^ 32 && g.lineCount < 2 ^ 32

/-- A packet's fields fit its header (R27). -/
def Packet.wf (p : Packet) : Bool :=
  p.ptype < 16 && p.cls < 8 && p.dstDie < 32 && p.dstEp < 2048 && p.srcDie < 32 && p.srcEp < 2048
    && p.tag < 4096 && p.granules < 16 && p.addr < 2 ^ 41

/-- A parcel's fields fit its header (R303). -/
def Parcel.wf (p : Parcel) : Bool :=
  p.dst < 2 ^ 20 && p.src < 2 ^ 20 && p.ctx < 2 ^ 18 && p.cls < 8 && p.kind < 16 && p.hops < 16 && p.relayDim < 8
    && p.len ≤ 4096 && p.seq < 2 ^ 58 && p.payload.length = p.len

/-- A collective chunk's fields fit (R333). -/
def Chunk.wf (c : Chunk) : Bool :=
  c.src < 2 ^ 20 && c.subtype < 8 && c.coll < 2 ^ 14 && c.stage < 16 && c.round < 64 && c.offset < 2 ^ 38
    && c.data.length ≤ 4096

/-- A remote state message's fields fit (R366). -/
def RemoteMsg.wf (m : RemoteMsg) : Bool :=
  m.peer < 2 ^ 20 && m.subtype < 8 && m.generation < 2 ^ 16 && m.ownerRank < 2 ^ 20 && m.entry < 64 && m.stripe < 2 ^ 22
    && m.block < 64 && m.coll < 2 ^ 14 && m.offset < 2 ^ 38 && m.length < 2 ^ 13 && m.status < 8 && m.scoreTag < 2 ^ 29
    && m.data.length ≤ 4096

/-- A lease message's fields fit (R307). -/
def LeaseMsg.wf (m : LeaseMsg) : Bool :=
  m.peer < 2 ^ 20 && m.ctx < 2 ^ 18 && m.lease < 256 && m.count < 2 ^ 16 && m.term < 2 ^ 14 && m.scoreTag < 2 ^ 29

/-- A lane of a port. -/
def laneWf (port colour : Nat) : Bool := port < 32 && colour < 16

/-- A flit names a lane and has 256 bytes (R310). -/
def Flit.wf (f : Flit) : Bool := laneWf f.port f.colour && f.bytes.length = 256

/-- A lane frame names a lane and has 40 bytes (R260). -/
def LaneFrame.wf (f : LaneFrame) : Bool := laneWf f.port f.colour && f.bytes.length = 40

/-- A data slot has its place in a frame, and 99 bytes (R384, R389). -/
def Slot.wf (x : Slot) : Bool := 1 ≤ x.index && x.index < 200 && x.bytes.length = 99

/-- A frame mark's fields fit (R387). -/
def FrameMark.wf (m : FrameMark) : Bool :=
  m.frameCount < 2 ^ 32 && m.nodeTime < 2 ^ 64 && m.ringGen < 256 && m.nextGen < 256 && m.countdown < 256
    && m.hopIndex < 256 && m.members < 256 && m.caps.length = 33 && m.caps.all (· < 4)

/-- A block's fields fit (R402). -/
def Block.wf (b : Block) : Bool :=
  b.sess < 8 && b.chan < 256 && b.msg < 2 ^ 16 && b.num < 2 ^ 32 && b.data.length ≤ 65536

/-- A block acknowledgement's fields fit (R402). -/
def BlockAck.wf (a : BlockAck) : Bool :=
  a.sess < 8 && a.chan < 256 && a.msg < 2 ^ 16 && a.num < 2 ^ 32 && a.status < 256

/-- A praline word has a sender (R344). -/
def Praline.wf (w : Praline) : Bool := w.src < 2 ^ 20

/-- Every operand of a command fits. -/
def Instr.wf : Instr → Bool
  | .join src dst msg => src < 33 && dst < 33 && msg < 2 ^ 16
  | .leave q => q.wf
  | .clearFault q => q.wf
  | .prepare q => q.wf
  | .prepareComplete _ => true
  | .run q => q.wf
  | .hold q => q.wf
  | .release q => q.wf
  | .unprepare q => q.wf
  | .grantSteps q n => q.wf && n < 2 ^ 32
  | .postMicroBatch q p => q.wf && p.wf
  | .stepStart => true
  | .stepBoundary => true
  | .stepStalled => true
  | .crumbFire h c _ => h < 24 && c < 96
  | .crumbRetire h c u => h < 24 && c < 100 && u < 4
  | .watchSampleComplete h c => h < 24 && c < 100
  | .commitGatedRetire h c => h < 24 && c < 96
  | .padElision h c => h < 24 && c < 96
  | .stealing h c => h < 24 && c.core < 96
  | .tokenPacket t n => t < 2 ^ 20 && n < 4096
  | .creditGrantPacket d e c g t =>
    d < 20 && e < 2048 && c < 5 && g < 2 ^ 16
      && (match t with | .pool p => p < 2 ^ 16 | .unit x y => x < 20 && y < 2048)
  | .copyJobFire d e => d < 4 && e < 16
  | .copyJobRetire d e => d < 4 && e < 16
  | .streamSegmentStart n => n < 2 ^ 32
  | .streamSegmentComplete n => n < 2 ^ 32
  | .verdictPoint => true
  | .pairDigestReceive m => m.src < 2 ^ 20 && m.round < 64 && m.replays < 16 && m.scoreTag < 2 ^ 29
  | .verdictReductionComplete => true
  | .lossReductionComplete => true
  | .securingTransfer => true
  | .collectiveLaunch c => c < 2 ^ 14
  | .collectiveChunk c => c.wf
  | .pralineWord w => w.wf
  | .pralineRepeat => true
  | .hostCopyRequest q v => q.wf && v.length = 144
  | .hostCopyComplete => true
  | .memoryReadRequest p _ => p.wf
  | .memoryWrite p d => p.wf && d.length = bits 26 18 p.attr.toNat
  | .memoryReadResponse d e t data _ => d < 20 && e < 2048 && t < 4096 && data.length ≤ 256
  | .writeAcknowledgement d e t _ a => d < 20 && e < 2048 && t < 4096 && a < 2 ^ 41
  | .writeCombineTimeout c _ => c < 320
  | .hbmRefresh k b => k < 20 && b < 64
  | .hbmTemperatureReadout ts => ts.length = 20 && ts.all (· < 256)
  | .patrolScrub fs => fs.all (fun f => f.stack < 20)
  | .hbmTrainingComplete fs => fs.all (fun f => f.stack < 20 && f.channel < 16 && f.group < 4)
  | .generatorWriteReadCheck q g => q.wf && g.wf
  | .generatorWrite q g => q.wf && g.wf
  | .generatorReadCheck q g => q.wf && g.wf
  | .generatorStopAll q g => q.wf && g.wf
  | .generatorComplete xs m _ => xs.all (fun p => p.1 < 72) && m < 2 ^ 64
  | .partitionSettingWrite q sub _ => q.wf && sub < 256
  | .quadrantLocalBoundaryWrite q b => q.wf && b < 256
  | .stackPortTransfer cd p _ d es c =>
    cd < 12 && p < 8 && d.length == 256 && es.all (· < 2192) && c.1 < 8 && c.2 < 32
  | .qlDataUnit u d => u.wf && d.length == 120
  | .qlIdleUnit u => u.wf
  | .qlNakUnit u => u.wf
  | .qlReplayTimeout l _ => 1 ≤ l && l ≤ 6
  | .qlRetrainComplete l r _ _ => 1 ≤ l && l ≤ 6 && r ≤ 64
  | .qlRetrainTimeout l => 1 ≤ l && l ≤ 6
  | .leaseGrant m => m.wf
  | .leaseRenewalDue p c l => p < 2 ^ 20 && c < 2 ^ 18 && l < 256
  | .leaseRenewal m => m.wf
  | .renewalAcknowledgement m => m.wf
  | .granuleReturn m => m.wf
  | .issuerLeaseExpiry c l => c < 2 ^ 18 && l < 256
  | .holderLeaseExpiry p c l => p < 2 ^ 20 && c < 2 ^ 18 && l < 256
  | .tokenIncrementParcel m => m.token < 2 ^ 20 && m.count < 4096 && m.round < 64 && m.scoreTag < 2 ^ 29
  | .dataFlit f => f.wf
  | .idleFlit f => f.wf
  | .nakFlit f => f.wf
  | .testFlit f => f.wf
  | .flitReplayTimeout p c => laneWf p c
  | .parcelForward c => c < 5
  | .parcelDelivery => true
  | .laneFrame f => f.wf
  | .laneFrameTimeout p c _ => laneWf p c
  | .ringLockLoop _ p r _ _ => p < 32 && r < 17
  | .searchCandidateTimeout p c => laneWf p c
  | .ringSearchLineReached _ p c l _ _ => laneWf p c && l.1 ≤ 16 && l.2 < 2 ^ 16
  | .anchorSweepRetry p => p < 32
  | .opticalCommissioningComplete ps => ps.1.length ≤ 128 && ps.2.length ≤ 16
  | .wavelengthCheck l _ => l < 144
  | .calibrationSlot p _ => p < 32
  | .calibrationSlotEnd p _ _ => p < 32
  | .laserPowerReading sp l r => l < (if sp then 16 else 128) && r < 2 ^ 16
  | .spareLaserLocked e k => e < 4 && k < 4
  | .recommissionPort q p => q.wf && p < 256
  | .transmitGenerationWrite q sub g => q.wf && sub < 256 && g < 256
  | .exceptionEntryWrite q n _ => q.wf && n < 2 ^ 16
  | .rankOverrideWrite q n _ => q.wf && n < 2 ^ 16
  | .fabricConfigurationWrite q i sub _ =>
    q.wf && ((i == 0x6000 && (sub == 1 || sub == 2)) || i == 0x6001) && sub < 256
  | .groupMemberEntryWrite q n _ => q.wf && n < 2 ^ 16
  | .groupDescriptorWrite q n _ => q.wf && n < 2 ^ 16
  | .abandon q => q.wf
  | .abandonComplete => true
  | .restore q n => q.wf && n < 2 ^ 64
  | .restoreComplete => true
  | .remoteReadRequest m => m.wf
  | .remoteReadResponse m => m.wf
  | .remoteWrite m => m.wf
  | .holdCommitArm q n => q.wf && n < 2 ^ 64
  | .scaleStateLoad q _ => q.wf
  | .kz8StartScaleWrite q _ => q.wf
  | .frameMark m _ => m.wf
  | .dataSlot x => x.wf
  | .messageTimeout a b c => a < 64 && b < 8 && c < 2 ^ 16
  | .expeditedWrite q i sub v => q.wf && i < 2 ^ 16 && sub < 256 && v.length ≤ 8
  | .expeditedRead q i sub _ => q.wf && i < 2 ^ 16 && sub < 256
  | .segmentedWrite q i sub v => q.wf && i < 2 ^ 16 && sub < 256 && v.length ≤ 65536
  | .segmentedRead q i sub _ => q.wf && i < 2 ^ 16 && sub < 256
  | .blockWrite q i sub n => q.wf && i < 2 ^ 16 && sub < 256 && n < 2 ^ 64
  | .blockRead q i sub n => q.wf && i < 2 ^ 16 && sub < 256 && n < 2 ^ 64
  | .dictionaryWrite q i sub _ => q.wf && i < 2 ^ 16 && sub < 256
  | .blockData b => b.wf
  | .bulkBlockWritten c n d => c < 8 && n < 2 ^ 32 && d.length ≤ 65536
  | .blockAcknowledgement a => a.wf
  | .blockAckTimeout a => a.wf
  | .bulkOpen q o => q.wf && o.chan < 256 && o.direction < 256 && o.buffer < 2 ^ 16
  | .bulkClose q c => q.wf && c < 256
  | .eventTransmit => true
  | .hello m r _ _ => m < 2 ^ 16 && r < 256
  | .finish m => m.sess < 256 && m.msg < 2 ^ 16
  | .finishTimeout n => n < 8
  | .close n m => n < 8 && m < 256
  | .fabricKeyInstall q r _ => q.wf && r < 2 ^ 24
  | .regionKeyInstall q r v b l _ => q.wf && r < 256 && v < 2 ^ 16 && b < 2 ^ 64 && l < 2 ^ 64
  | .regionRemove q r v => q.wf && r < 256 && v < 2 ^ 16
  | .enrolmentWrite q i sub _ => q.wf && (i == 0x9003 || i == 0x9004) && sub < 256
  | .firmwareImageWrite q n => q.wf && n < 2 ^ 64
  | .firmwareWriteComplete _ _ => true
  | .attestationQuote q => q.wf
  | .ringClockLoss => true
  | .ringClockReturn ls => ls.all (fun l => 1 ≤ l && l ≤ 6)
  | .timeReferenceLost => true
  | .ppsEdge => true
  | .timeReferenceWrite q v => q.wf && v < 256
  | .powerStateRequest q v => q.wf && v < 256
  | .powerStateReached => true
  | .blockEnableWrite q sub v => q.wf && sub < 256 && v < 256
  | .pllSettingWrite q sub _ => q.wf && sub < 256
  | .supplyOrTemperatureFault m => m.photonic.length = 4
  | .thermTrip d k => d < 256 && k < 256
  | .pmbusPoll _ => true
  | .pmbusAlert _ => true
  | .islandMismatch => true
  | .moduleReset _ => true
  | .resetRelease x => x.settle < 4 && x.ringPos < 32
  | .symbolLock _ => true
  | .settleDelayElapsed => true
  | .islandSelfTest _ _ => true
  | .firmwareVerified _ _ => true
  | .selfTestTileStores q t r => q.wf && t < 256 && r < 2 ^ 20
  | .selfTestSharedCache q t r => q.wf && t < 256 && r < 2 ^ 20
  | .selfTestMemorySideCache q t r => q.wf && t < 256 && r < 2 ^ 20
  | .selfTestHbmStack q t r => q.wf && t < 256 && r < 2 ^ 20
  | .selfTestComplete _ => true
  | .testPortEnable q v => q.wf && v < 256
  | .tapReset => true
  | .extest => true
  | .samplePreload _ => true
  | .idcode => true
  | .clamp => true
  | .highz => true
  | .dieSelect _ => true
  | .dieAccess => true
  | .bypass _ => true
  | .coreTestDue h => h < 24
  | .coreTestStart h => h < 24
  | .coreTestOverdue h => h < 24
  | .coreTestComplete h _ => h < 24
  | .tenantStateErased => true
  | .timeReferenceReturn => true

end Sys2Proof
end

