-- ==== Sys2Proof/Safety.lean ====
section
/-! DEFINITION. What counts as a safe run: registers and memory in their canonical form, every waiting
command well-formed, and no step that stops. -/

namespace Sys2Proof

open Sys2Proof.Machine

/-- Bytes listed for line k: each address once, in rising order, and all of them in the line. -/
abbrev Machine.lineWf (k : Nat) (l : List Host.Cell) : Prop := rising l ∧ ∀ b ∈ l, b.1 / 256 = k

/-- Memory in canonical form: the addresses of the cells rise strictly; the lines of the memory-side caches
rise, and the lines of the write-combining entries differ; the bytes that a line or an entry holds lie in it
and rise; a write that waits for its regulator lies within one line. -/
abbrev Machine.Memory.wf (m : Memory) : Prop :=
  rising m.cells ∧ (rising m.msc ∧ ∀ p ∈ m.msc, lineWf p.1 p.2.data)
    ∧ ((∀ e ∈ m.wc, lineWf e.line e.data) ∧ m.wc.Pairwise (fun a b => a.line ≠ b.line))
    ∧ ∀ w ∈ m.waiting, w.write = true → w.req.addr % 256 + w.data.length ≤ 256

/-- The state in canonical form: the numbers of the listed registers rise strictly, and memory is in its
canonical form, so that equal contents are equal data. -/
abbrev Machine.State.canonical (s : State) : Prop := rising s.regs ∧ s.mem.wf

/-- Every waiting command can arrive. -/
abbrev Machine.State.queueWf (s : State) : Prop := ∀ c ∈ s.pending, c.wf = true

/-- A state that answers its next step. -/
def goesOn (s : State) : Prop := ∃ t, step s = .next t

/-- k steps that all answer a next state. -/
def safeRun (k : Nat) (s : State) : Prop := ∃ t, Host.Core.run core k s = .next t

/-! ## Frames -/

/-- The parts of the state, one for each field of State. -/
inductive Part where
  | queue | wires | freeCounter | device | registers | straps | execution | sites | siteMap | memory
  | links | dieErrors | photonics | fabric | collectives | resilience | ring | security | power | test
deriving DecidableEq, Repr

/-- A part of the state is the same in two states. -/
def Part.same : Part → State → State → Prop
  | .queue, s, t => t.pending = s.pending
  | .wires, s, t => t.sent = s.sent
  | .freeCounter, s, t => t.freeCtr = s.freeCtr
  | .device, s, t => t.dev = s.dev
  | .registers, s, t => t.regs = s.regs
  | .straps, s, t => t.straps = s.straps
  | .execution, s, t => t.ex = s.ex
  | .sites, s, t => t.sites = s.sites
  | .siteMap, s, t => t.siteMap = s.siteMap
  | .memory, s, t => t.mem = s.mem
  | .links, s, t => t.links = s.links
  | .dieErrors, s, t => t.dieErrors = s.dieErrors
  | .photonics, s, t => t.pho = s.pho
  | .fabric, s, t => t.fab = s.fab
  | .collectives, s, t => t.col = s.col
  | .resilience, s, t => t.res = s.res
  | .ring, s, t => t.ring = s.ring
  | .security, s, t => t.sec = s.sec
  | .power, s, t => t.pwr = s.pwr
  | .test, s, t => t.test = s.test

/-- Every part of the state but those named is the same in two states. -/
def unchangedExcept (ps : List Part) (s t : State) : Prop := ∀ p, p ∉ ps → p.same s t

/-- Every object of the register file is the same in two states but those named (index, subindex) and those
that the audit log (0xF000) and the events (0x1300, 0x6C01) count in. -/
def regsExcept (written : List (Nat × Nat)) (s t : State) : Prop :=
  ∀ i j, j < 256 → (i, j) ∉ written → i ≠ 0xF000 → i ≠ 0x1300 → i ≠ 0x6C01 → rg t i j = rg s i j

/-- The installed score, the next step number and the identity of the running step. -/
def Machine.stepId (s : State) : Option Score × Nat × Nat × Bool × Nat :=
  (s.ex.score, s.ex.nextStep, s.ex.step.num, s.ex.step.running, s.ex.step.startTime)

/-- The lists of the cores, the granules spent, the copy engines and the streams. -/
def Machine.listsOf (s : State) : List (Nat × Seq) × List (Nat × Nat) × List (Nat × Engine) × List (Nat × StreamRun) :=
  (s.ex.seqs, s.ex.spent, s.ex.engines, s.ex.streams)

/-- The parts of the state that a command may change. -/
def Instr.parts : Instr → List Part
  | .join _ _ _ =>
    [.wires, .freeCounter, .device, .registers, .memory, .ring, .security]
  | .leave _ | .clearFault _ | .prepare _ | .run _ | .hold _ | .release _ | .unprepare _ | .dataSlot _ =>
    [.wires, .freeCounter, .device, .registers, .execution, .sites, .siteMap, .memory, .photonics,
      .fabric, .collectives, .resilience, .ring, .security, .power, .test]
  | .prepareComplete _ =>
    [.wires, .freeCounter, .device, .registers, .execution, .memory, .photonics, .fabric, .collectives,
      .resilience, .ring, .security, .power, .test]
  | .grantSteps _ _ | .holdCommitArm _ _ | .kz8StartScaleWrite _ _ | .messageTimeout _ _ _ |
  .expeditedRead _ _ _ _ | .segmentedRead _ _ _ _ | .blockWrite _ _ _ _ | .blockRead _ _ _ _ |
  .bulkClose _ _ | .close _ _ | .fabricKeyInstall _ _ _ | .enrolmentWrite _ _ _ _ |
  .firmwareImageWrite _ _ | .attestationQuote _ | .pllSettingWrite _ _ _ =>
    [.wires, .registers, .ring, .security]
  | .postMicroBatch _ _ | .scaleStateLoad _ _ =>
    [.wires, .registers, .execution, .ring, .security]
  | .stepStart =>
    [.wires, .freeCounter, .registers, .execution, .sites, .memory, .fabric, .collectives, .resilience,
      .ring]
  | .stepBoundary =>
    [.wires, .device, .registers, .execution, .sites, .siteMap, .memory, .photonics, .fabric, .resilience,
      .ring, .power, .test]
  | .stepStalled | .hbmTrainingComplete _ | .islandMismatch | .coreTestComplete _ _ =>
    [.wires, .device, .registers, .execution, .sites, .siteMap, .memory, .resilience, .ring, .security,
      .power, .test]
  | .crumbFire _ _ _ | .stealing _ _ | .copyJobFire _ _ =>
    [.wires, .freeCounter, .registers, .execution, .sites, .memory, .ring]
  | .crumbRetire _ _ _ | .watchSampleComplete _ _ =>
    [.wires, .registers, .execution, .sites]
  | .commitGatedRetire _ _ | .padElision _ _ | .streamSegmentStart _ =>
    [.wires, .freeCounter, .registers, .execution, .memory, .ring]
  | .tokenPacket _ _ | .copyJobRetire _ _ | .tokenIncrementParcel _ =>
    [.wires, .registers, .execution]
  | .creditGrantPacket _ _ _ _ _ =>
    [.wires, .execution]
  | .streamSegmentComplete _ =>
    [.wires, .freeCounter, .registers, .execution, .memory]
  | .verdictPoint =>
    [.wires, .device, .registers, .execution, .sites, .photonics, .fabric, .collectives, .resilience,
      .ring]
  | .pairDigestReceive _ =>
    [.wires, .registers, .execution, .photonics, .fabric, .collectives, .resilience, .ring]
  | .verdictReductionComplete | .parcelDelivery =>
    [.wires, .freeCounter, .device, .registers, .execution, .memory, .photonics, .fabric, .collectives,
      .resilience, .ring]
  | .lossReductionComplete =>
    [.wires, .freeCounter, .device, .registers, .execution, .memory, .collectives, .resilience, .ring]
  | .securingTransfer =>
    [.wires, .freeCounter, .registers, .execution, .memory, .fabric, .ring]
  | .collectiveLaunch _ | .collectiveChunk _ | .pralineWord _ | .dataFlit _ | .idleFlit _ | .nakFlit _ |
  .parcelForward _ =>
    [.wires, .freeCounter, .registers, .execution, .memory, .photonics, .fabric, .collectives,
      .resilience, .ring]
  | .pralineRepeat =>
    [.wires, .registers, .photonics, .fabric, .collectives]
  | .hostCopyRequest _ _ | .generatorWriteReadCheck _ _ | .generatorWrite _ _ | .generatorReadCheck _ _ |
  .generatorStopAll _ _ | .partitionSettingWrite _ _ _ | .quadrantLocalBoundaryWrite _ _ |
  .regionKeyInstall _ _ _ _ _ _ | .regionRemove _ _ _ =>
    [.wires, .registers, .memory, .ring, .security]
  | .hostCopyComplete =>
    [.wires, .freeCounter, .registers, .sites, .memory, .ring, .security]
  | .memoryReadRequest _ _ | .stackPortTransfer _ _ _ _ _ _ =>
    [.wires, .freeCounter, .device, .registers, .execution, .sites, .siteMap, .memory, .dieErrors,
      .resilience, .ring, .security, .power, .test]
  | .memoryWrite _ _ =>
    [.wires, .freeCounter, .registers, .memory, .dieErrors, .ring]
  | .memoryReadResponse _ _ _ _ _ =>
    [.wires, .registers, .execution, .memory, .ring]
  | .writeAcknowledgement _ _ _ _ _ | .hbmRefresh _ _ =>
    [.wires, .memory]
  | .writeCombineTimeout _ _ | .generatorComplete _ _ _ =>
    [.wires, .registers, .memory]
  | .hbmTemperatureReadout _ | .patrolScrub _ =>
    [.wires, .registers, .memory, .ring]
  | .qlDataUnit _ _ =>
    [.wires, .registers, .links, .dieErrors, .ring]
  | .qlIdleUnit _ =>
    [.wires, .links]
  | .qlNakUnit _ | .qlReplayTimeout _ _ | .qlRetrainComplete _ _ _ _ | .qlRetrainTimeout _ |
  .ringClockReturn _ =>
    [.wires, .device, .registers, .execution, .sites, .siteMap, .memory, .links, .resilience, .ring,
      .security, .power, .test]
  | .leaseGrant _ | .leaseRenewalDue _ _ _ | .leaseRenewal _ | .renewalAcknowledgement _ =>
    [.wires, .registers, .fabric]
  | .granuleReturn _ =>
    [.wires, .freeCounter, .registers, .execution, .memory, .fabric, .collectives, .resilience]
  | .issuerLeaseExpiry _ _ | .holderLeaseExpiry _ _ _ =>
    [.wires, .device, .registers, .execution, .photonics, .fabric, .resilience, .ring]
  | .testFlit _ | .flitReplayTimeout _ _ | .laneFrame _ | .laneFrameTimeout _ _ _ | .ringLockLoop _ _ _ _ _ |
  .searchCandidateTimeout _ _ | .ringSearchLineReached _ _ _ _ _ _ | .calibrationSlot _ _ |
  .calibrationSlotEnd _ _ _ | .laserPowerReading _ _ _ =>
    [.wires, .registers, .photonics, .fabric, .ring]
  | .anchorSweepRetry _ | .opticalCommissioningComplete _ | .wavelengthCheck _ _ =>
    [.wires, .photonics]
  | .spareLaserLocked _ _ =>
    [.wires, .registers, .photonics, .ring]
  | .recommissionPort _ _ | .fabricConfigurationWrite _ _ _ _ =>
    [.wires, .registers, .photonics, .fabric, .ring, .security, .power]
  | .transmitGenerationWrite _ _ _ =>
    [.wires, .registers, .photonics, .fabric, .ring, .security]
  | .exceptionEntryWrite _ _ _ | .rankOverrideWrite _ _ _ | .groupMemberEntryWrite _ _ _ |
  .groupDescriptorWrite _ _ _ =>
    [.wires, .registers, .fabric, .ring, .security]
  | .abandon _ =>
    [.wires, .registers, .execution, .memory, .photonics, .fabric, .collectives, .resilience, .ring,
      .security]
  | .abandonComplete =>
    [.wires, .device, .registers, .resilience, .ring, .security]
  | .restore _ _ =>
    [.wires, .freeCounter, .registers, .execution, .photonics, .fabric, .collectives, .resilience, .ring,
      .security]
  | .restoreComplete =>
    [.wires, .registers, .collectives, .resilience]
  | .remoteReadRequest _ =>
    [.wires, .freeCounter, .registers, .memory, .fabric, .resilience]
  | .remoteReadResponse _ =>
    [.wires, .freeCounter, .device, .registers, .execution, .memory, .fabric, .collectives, .resilience,
      .ring]
  | .remoteWrite _ =>
    [.wires, .registers, .resilience]
  | .frameMark _ _ =>
    [.wires, .freeCounter, .registers, .ring, .power]
  | .expeditedWrite _ _ _ _ | .segmentedWrite _ _ _ _ | .dictionaryWrite _ _ _ _ | .blockData _ =>
    [.wires, .freeCounter, .device, .registers, .execution, .sites, .siteMap, .memory, .links, .photonics,
      .fabric, .collectives, .resilience, .ring, .security, .power, .test]
  | .bulkBlockWritten _ _ _ =>
    [.wires, .freeCounter, .registers, .memory, .ring]
  | .blockAcknowledgement _ | .blockAckTimeout _ | .bulkOpen _ _ =>
    [.wires, .freeCounter, .registers, .memory, .ring, .security]
  | .eventTransmit =>
    [.wires, .registers, .ring]
  | .hello _ _ _ _ =>
    [.wires, .freeCounter, .registers, .ring, .security]
  | .finish _ =>
    [.wires, .freeCounter, .registers, .sites, .memory, .ring, .security, .power, .test]
  | .finishTimeout _ | .firmwareVerified _ _ =>
    [.wires, .registers, .security]
  | .firmwareWriteComplete _ _ =>
    [.wires, .freeCounter, .device, .registers, .straps, .execution, .sites, .siteMap, .memory, .links,
      .dieErrors, .photonics, .fabric, .collectives, .resilience, .ring, .security, .power, .test]
  | .ringClockLoss =>
    [.wires, .ring, .power]
  | .timeReferenceLost | .ppsEdge | .timeReferenceReturn =>
    [.wires, .registers, .power]
  | .timeReferenceWrite _ _ =>
    [.wires, .registers, .ring, .security, .power]
  | .powerStateRequest _ _ =>
    [.wires, .registers, .sites, .siteMap, .memory, .links, .photonics, .fabric, .ring, .security, .power,
      .test]
  | .powerStateReached =>
    [.wires, .registers, .sites, .memory, .links, .photonics, .fabric, .ring, .security, .power, .test]
  | .blockEnableWrite _ _ _ =>
    [.wires, .registers, .memory, .photonics, .fabric, .ring, .security, .power]
  | .supplyOrTemperatureFault _ | .pmbusPoll _ | .pmbusAlert _ =>
    [.wires, .device, .registers, .execution, .sites, .siteMap, .memory, .links, .photonics, .fabric,
      .resilience, .ring, .security, .power, .test]
  | .thermTrip _ _ | .symbolLock _ | .settleDelayElapsed | .islandSelfTest _ _ =>
    [.wires, .power]
  | .moduleReset _ =>
    [.wires, .freeCounter, .device, .registers, .execution, .sites, .siteMap, .memory, .links, .dieErrors,
      .photonics, .fabric, .collectives, .resilience, .ring, .security, .power, .test]
  | .resetRelease _ =>
    [.wires, .straps, .power]
  | .selfTestTileStores _ _ _ | .selfTestSharedCache _ _ _ | .selfTestMemorySideCache _ _ _ |
  .selfTestHbmStack _ _ _ =>
    [.wires, .registers, .ring, .security, .test]
  | .selfTestComplete _ =>
    [.wires, .freeCounter, .device, .registers, .execution, .sites, .siteMap, .memory, .resilience, .ring,
      .security, .power, .test]
  | .testPortEnable _ _ =>
    [.wires, .registers, .ring, .security, .power, .test]
  | .tapReset | .coreTestDue _ =>
    [.wires, .test]
  | .extest | .samplePreload _ | .idcode | .clamp | .highz | .dieSelect _ | .dieAccess | .bypass _ =>
    [.wires, .freeCounter, .sites, .memory, .test]
  | .coreTestStart _ =>
    [.wires, .sites, .test]
  | .coreTestOverdue _ =>
    [.wires, .registers, .ring, .test]
  | .tenantStateErased =>
    [.wires, .security]

/-- The indexes of the dictionary whose objects a command may change; none for the commands that change any object
(the general writes, the transfers that complete them, and those that reset, install or forget the registers). -/
def Instr.objects : Instr → Option (List Nat)
  | .join _ _ _ =>
    some [0x1100, 0x1300, 0x6C01, 0x9040, 0xA020, 0xF000]
  | .leave _ | .clearFault _ | .prepare _ | .prepareComplete _ | .run _ | .hold _ | .release _ |
  .unprepare _ | .dataSlot _ | .expeditedWrite _ _ _ _ | .segmentedWrite _ _ _ _ |
  .dictionaryWrite _ _ _ _ | .blockData _ | .enrolmentWrite _ _ _ _ | .firmwareWriteComplete _ _ |
  .moduleReset _ =>
    none
  | .grantSteps _ _ =>
    some [0x1101, 0x1300, 0x2011, 0x6C01, 0xF000]
  | .postMicroBatch _ _ =>
    some [0x1101, 0x1300, 0x2020, 0x6C01, 0xF000]
  | .stepStart =>
    some [0x1300, 0x2011, 0x2012, 0x4021, 0x6050, 0x6C00, 0x6C01, 0x7020]
  | .stepBoundary =>
    some [0x1300, 0x2012, 0x3031, 0x6050, 0x6C00, 0x6C01, 0xC000, 0xC001, 0xC010]
  | .stepStalled | .qlRetrainTimeout _ | .islandMismatch =>
    some [0x1300, 0x2001, 0x6C01, 0x9010, 0xB020, 0xF000]
  | .crumbFire _ _ _ =>
    some [0x1300, 0x3020, 0x3021, 0x3022, 0x4021, 0x4801, 0x6C01, 0xC010]
  | .crumbRetire _ _ _ =>
    some [0x2012, 0x7020]
  | .watchSampleComplete _ _ =>
    some [0xC010]
  | .commitGatedRetire _ _ =>
    some [0x1300, 0x2012, 0x4021, 0x6C01, 0x7020]
  | .padElision _ _ =>
    some [0x1300, 0x2012, 0x2013, 0x4021, 0x6C01, 0x7020]
  | .stealing _ _ =>
    some [0x1300, 0x2013, 0x3020, 0x3021, 0x3022, 0x4021, 0x4801, 0x6C01, 0xC010]
  | .tokenPacket _ _ | .copyJobRetire _ _ =>
    some [0x2012]
  | .creditGrantPacket _ _ _ _ _ | .writeAcknowledgement _ _ _ _ _ | .hbmRefresh _ _ | .qlIdleUnit _ |
  .anchorSweepRetry _ | .opticalCommissioningComplete _ | .wavelengthCheck _ _ | .ringClockLoss |
  .thermTrip _ _ | .resetRelease _ | .symbolLock _ | .settleDelayElapsed | .islandSelfTest _ _ |
  .tapReset | .extest | .samplePreload _ | .idcode | .clamp | .highz | .dieSelect _ | .dieAccess |
  .bypass _ | .coreTestDue _ | .coreTestStart _ | .tenantStateErased =>
    some []
  | .copyJobFire _ _ =>
    some [0x1300, 0x4021, 0x4801, 0x6C01]
  | .streamSegmentStart _ | .memoryWrite _ _ =>
    some [0x1300, 0x4021, 0x6C01]
  | .streamSegmentComplete _ =>
    some [0x2012, 0x4021]
  | .verdictPoint =>
    some [0x1300, 0x6050, 0x6C00, 0x6C01, 0x7020, 0x8010, 0x8020, 0x8030]
  | .pairDigestReceive _ =>
    some [0x1300, 0x6050, 0x6C00, 0x6C01, 0x7020, 0x8020, 0x8030]
  | .verdictReductionComplete =>
    some [0x1300, 0x2012, 0x4021, 0x6050, 0x6C00, 0x6C01, 0x7020, 0x8000, 0x8003, 0x8010, 0x8030, 0xC000,
      0xC001, 0xC002]
  | .lossReductionComplete =>
    some [0x1300, 0x2012, 0x4021, 0x6C01, 0x7020, 0x8003, 0x8010, 0x8030, 0xC000, 0xC001, 0xC002]
  | .securingTransfer =>
    some [0x1300, 0x4021, 0x6050, 0x6C00, 0x6C01, 0x8030]
  | .collectiveLaunch _ | .collectiveChunk _ | .pralineWord _ | .parcelForward _ =>
    some [0x1300, 0x2012, 0x4021, 0x6050, 0x6C00, 0x6C01, 0x7020]
  | .pralineRepeat =>
    some [0x6050, 0x6C00, 0x6C01, 0x7020]
  | .hostCopyRequest _ _ | .recommissionPort _ _ | .exceptionEntryWrite _ _ _ | .rankOverrideWrite _ _ _ |
  .groupMemberEntryWrite _ _ _ | .groupDescriptorWrite _ _ _ | .scaleStateLoad _ _ | .bulkClose _ _ |
  .regionKeyInstall _ _ _ _ _ _ | .regionRemove _ _ _ =>
    some [0x1101, 0x1300, 0x6C01, 0xF000]
  | .hostCopyComplete =>
    some [0x1300, 0x4021, 0x4800, 0x4801, 0x6C01, 0xF000]
  | .memoryReadRequest _ _ =>
    some [0x1300, 0x2001, 0x4020, 0x4021, 0x6C01, 0x9010, 0xB020, 0xF000]
  | .memoryReadResponse _ _ _ _ _ | .hbmTemperatureReadout _ | .qlDataUnit _ _ | .eventTransmit =>
    some [0x1300, 0x6C01]
  | .writeCombineTimeout _ _ | .blockAcknowledgement _ | .blockAckTimeout _ =>
    some [0x4021]
  | .patrolScrub _ =>
    some [0x1300, 0x4020, 0x4021, 0x4030, 0x6C01]
  | .hbmTrainingComplete _ =>
    some [0x1300, 0x2001, 0x4000, 0x6C01, 0x9010, 0xB020, 0xF000]
  | .generatorWriteReadCheck _ _ | .generatorWrite _ _ | .generatorReadCheck _ _ | .generatorStopAll _ _ =>
    some [0x1101, 0x1300, 0x4010, 0x6C01, 0xF000]
  | .generatorComplete _ _ _ =>
    some [0x4010, 0x4021]
  | .partitionSettingWrite _ _ _ =>
    some [0x1101, 0x1300, 0x4002, 0x6C01, 0xF000]
  | .quadrantLocalBoundaryWrite _ _ =>
    some [0x1101, 0x1300, 0x4000, 0x4021, 0x6C01, 0xF000]
  | .stackPortTransfer _ _ _ _ _ _ =>
    some [0x1300, 0x2001, 0x6C01, 0x6E03, 0x9010, 0xB020, 0xF000]
  | .qlNakUnit _ | .qlReplayTimeout _ _ =>
    some [0x1300, 0x2001, 0x6C01, 0x6E01, 0x6E02, 0x9010, 0xB020, 0xF000]
  | .qlRetrainComplete _ _ _ _ =>
    some [0x1300, 0x2001, 0x6C01, 0x6E01, 0x9010, 0xB020, 0xF000]
  | .leaseGrant _ | .renewalAcknowledgement _ =>
    some [0x6050]
  | .leaseRenewalDue _ _ _ | .leaseRenewal _ =>
    some [0x6050, 0x6C00]
  | .granuleReturn _ =>
    some [0x2012, 0x4021, 0x6050, 0x6C00, 0x6C01, 0x7020]
  | .issuerLeaseExpiry _ _ | .holderLeaseExpiry _ _ _ =>
    some [0x1300, 0x6050, 0x6C00, 0x6C01, 0x8003, 0xC000, 0xC001]
  | .tokenIncrementParcel _ =>
    some [0x2012, 0x6050]
  | .dataFlit _ | .idleFlit _ | .nakFlit _ =>
    some [0x1300, 0x2012, 0x4021, 0x5020, 0x6050, 0x6C00, 0x6C01, 0x7020]
  | .testFlit _ | .laneFrame _ | .calibrationSlotEnd _ _ _ =>
    some [0x1300, 0x5020, 0x6050, 0x6C01]
  | .flitReplayTimeout _ _ =>
    some [0x1300, 0x6050, 0x6C01]
  | .parcelDelivery =>
    some [0x1300, 0x2012, 0x3031, 0x4021, 0x6050, 0x6C00, 0x6C01, 0x7020, 0x8003, 0x8020, 0x8030, 0xC000,
      0xC001]
  | .laneFrameTimeout _ _ _ | .ringLockLoop _ _ _ _ _ | .searchCandidateTimeout _ _ |
  .ringSearchLineReached _ _ _ _ _ _ | .calibrationSlot _ _ | .laserPowerReading _ _ _ |
  .spareLaserLocked _ _ =>
    some [0x1300, 0x5020, 0x6C01]
  | .transmitGenerationWrite _ _ _ =>
    some [0x1101, 0x1300, 0x5002, 0x6C01, 0xF000]
  | .fabricConfigurationWrite _ _ _ _ =>
    some [0x1101, 0x1300, 0x6000, 0x6001, 0x6C01, 0xF000]
  | .abandon _ =>
    some [0x1101, 0x1300, 0x2011, 0x6C01, 0x8003, 0x8010, 0x8030, 0xF000]
  | .abandonComplete =>
    some [0x1300, 0x6C01, 0x8003, 0xF000]
  | .restore _ _ =>
    some [0x1101, 0x1300, 0x6050, 0x6C00, 0x6C01, 0x8003, 0xF000]
  | .restoreComplete =>
    some [0x8003, 0x8030]
  | .remoteReadRequest _ =>
    some [0x4021, 0x6050, 0x6C00, 0x8030]
  | .remoteReadResponse _ =>
    some [0x1300, 0x2012, 0x3031, 0x4021, 0x6050, 0x6C00, 0x6C01, 0x7020, 0x8003, 0x8030, 0xC000, 0xC001]
  | .remoteWrite _ =>
    some [0x6050, 0x8030]
  | .holdCommitArm _ _ =>
    some [0x1101, 0x1300, 0x6C01, 0x8010, 0xF000]
  | .kz8StartScaleWrite _ _ =>
    some [0x1101, 0x1300, 0x3040, 0x6C01, 0xF000]
  | .frameMark _ _ =>
    some [0x1100, 0x1101, 0xA010, 0xA020]
  | .messageTimeout _ _ _ | .expeditedRead _ _ _ _ | .segmentedRead _ _ _ _ | .blockRead _ _ _ _ |
  .attestationQuote _ =>
    some [0x1101]
  | .blockWrite _ _ _ _ | .firmwareImageWrite _ _ =>
    some [0x1101, 0x9010, 0xF000]
  | .bulkBlockWritten _ _ _ =>
    some [0x2010, 0x4021, 0x6C01]
  | .bulkOpen _ _ =>
    some [0x1101, 0x1300, 0x2010, 0x4021, 0x6C01, 0xF000]
  | .hello _ _ _ _ | .finishTimeout _ =>
    some [0xF000]
  | .finish _ =>
    some [0x1300, 0x4010, 0x6C01, 0x9003, 0xB010, 0xB020, 0xF000]
  | .close _ _ =>
    some [0x1300, 0x6C01, 0x9010, 0xF000]
  | .fabricKeyInstall _ _ _ =>
    some [0x1101, 0x1300, 0x6C01, 0x9040, 0xF000]
  | .ringClockReturn _ =>
    some [0x1300, 0x2001, 0x6C01, 0x6E02, 0x9010, 0xB020, 0xF000]
  | .timeReferenceLost | .ppsEdge | .timeReferenceReturn =>
    some [0xA010]
  | .timeReferenceWrite _ _ =>
    some [0x1101, 0x1300, 0x6C01, 0xA010, 0xF000]
  | .powerStateRequest _ _ =>
    some [0x1101, 0x1300, 0x2010, 0x4000, 0x4010, 0x6C01, 0xA000, 0xF000]
  | .powerStateReached =>
    some [0x1300, 0x2010, 0x4000, 0x4010, 0x4021, 0x6C01, 0xA000, 0xF000]
  | .blockEnableWrite _ _ _ =>
    some [0x1101, 0x1300, 0x6C01, 0xA001, 0xF000]
  | .pllSettingWrite _ _ _ =>
    some [0x1101, 0x1300, 0x6C01, 0xA020, 0xF000]
  | .supplyOrTemperatureFault _ =>
    some [0x1300, 0x2001, 0x2010, 0x4000, 0x4010, 0x5030, 0x6C01, 0x9010, 0xA040, 0xB020, 0xF000]
  | .pmbusPoll _ | .pmbusAlert _ =>
    some [0x1300, 0x2001, 0x2010, 0x4000, 0x4010, 0x6C01, 0x9010, 0xB020, 0xF000]
  | .firmwareVerified _ _ =>
    some [0x1000]
  | .selfTestTileStores _ _ _ | .selfTestSharedCache _ _ _ | .selfTestMemorySideCache _ _ _ |
  .selfTestHbmStack _ _ _ =>
    some [0x1101, 0x1300, 0x6C01, 0xB010, 0xF000]
  | .selfTestComplete _ =>
    some [0x1300, 0x2001, 0x3001, 0x6C01, 0x9010, 0xB002, 0xB010, 0xB020, 0xF000]
  | .testPortEnable _ _ =>
    some [0x1101, 0x1300, 0x6C01, 0xB020, 0xF000]
  | .coreTestOverdue _ =>
    some [0x1300, 0x6C01, 0xB002]
  | .coreTestComplete _ _ =>
    some [0x1300, 0x2001, 0x3001, 0x6C01, 0x9010, 0xB002, 0xB020, 0xF000]

/-! ## Requests -/

/-- A request newly arrived in an established session of a role, in a module that hears it, can answer it and
can log it (R393, R404, R468). -/
structure Ready (q : Req) (r : Role) (s : State) : Prop where
  awake : s.pwr.inReset = false
  sends : s.ring.bypassOpen = true
  sess : q.sess ≠ 0
  established : (sessOf s q.sess).state = .established
  role : (sessOf s q.sess).role = r
  unseen : ∀ x ∈ (sessOf s q.sess).responses, x.msg ≠ q.msg
  idle : q.msg ∉ (sessOf s q.sess).inProgress
  room : (sessOf s q.sess).inProgress.length < 16
  flash : s.sec.flashFull = false

/-- An object that a role may write now with these bytes, the object's own rule apart (R10, R11, R419). -/
structure Writable (r : Role) (idx sub : Nat) (v : Bytes) (s : State) : Prop where
  present : objExists s idx sub true = true
  access : (accessOf s idx sub r).writes = true
  powered : gatedObj s idx sub = false
  joined : accessOf s idx sub r = .rwj → s.dev = .joined
  length : lengthOk s idx sub v.length = true
  range : inRange s idx sub v = true
  idle : busyObj s idx sub = false

/-- The answer to a request is among what was sent. -/
def Answers (q : Req) (code : Nat) (data : Bytes) (t : State) : Prop :=
  Output.response q.sess q.msg (BitVec.ofNat 32 code) data ∈ t.sent

/-- The newest entry of the audit log is of a write of an object by a request's session. -/
def Logged (q : Req) (idx sub : Nat) (t : State) : Prop :=
  ∃ e rest, t.sec.log = e :: rest ∧ e.index = idx ∧ e.sub = sub ∧ e.sess = q.sess ∧ e.kind = 0

/-! ## Reset -/

/-- The values that the manual states for the module when reset is released (R495), pins and straps apart. -/
structure AfterReset (s : State) : Prop where
  awake : s.pwr.inReset = false
  inert : s.dev = .inert
  stow : s.pwr.req = .stow ∧ s.pwr.cur = .stow ∧ s.pwr.moving = false
  enables : ∀ b, b < 24 → rg s 0xA001 (b + 1) = 0
  bypass : s.ring.bypassOpen = false
  generations : rg s 0x1100 5 = 1 ∧ rg s 0x1100 6 = 1
  clock : s.pwr.time = 0 ∧ rg s 0xA010 3 = 0
  dark : s.pho.commissioning = 0 ∧ s.pho.tx = [] ∧ s.pho.rx = []
  links : s.links = []
  hbm : s.mem.trained = false ∧ ∀ k, (stackOf s k).state = 0
  cores : s.ex = {}
  sessions : ∀ n, (sessOf s n).state = .free
  staged : rg s 0x2010 1 = 0 ∧ rg s 0x2011 2 = 0
  trip : s.pwr.thermTrip = false
  port : rg s 0xB020 1 = 0

end Sys2Proof
end

