-- ==== Sys2Proof/Certificates/Slice0/Obligations.lean ====
section
/-! DEFINITION. The statements for the provers. Each says of its commands, under hypotheses on the state and the
operands alone, which next state exec answers; the structures and predicates above a statement are its words. -/

open Sys2Proof Sys2Proof.Machine

/-! ## The queue, the clock and reset -/

/-- A step runs the command at the front of the queue, on the state with the queue's rest. -/
def Obligations.StepRunsTheFrontCommand : Prop :=
  ∀ (c : Instr) (rest : List Instr) (s : State), s.pending = c :: rest →
    step s = exec c { s with pending := rest } ∧
      ∀ t, step s = .next t → t.pending = rest

/-- With an empty queue a step is one tick of the clock (DESIGN CHOICE, notes/assumptions/9.md): in module reset only
the oscillator runs; outside it device time and the oscillator advance by one, the slew of a PPS offset apart. A tick
touches no straps, no quadrant links and none of the errors of the other dies. -/
def Obligations.AnEmptyQueueTicks : Prop :=
  ∀ s : State, s.pending = [] →
    ∃ t, step s = .next t ∧ t.pending = [] ∧
      (s.pwr.inReset = true → t = { s with sent := [], pwr := { s.pwr with osc := s.pwr.osc + 1 } }) ∧
      (s.pwr.inReset = false → s.pwr.slew = 0 →
        t.pwr.osc = s.pwr.osc + 1 ∧ t.pwr.time = s.pwr.time + 1) ∧
      t.straps = s.straps ∧ t.links = s.links ∧ t.dieErrors = s.dieErrors

/-- The state after reset holds the values of R495 (pins and straps apart), an empty queue, and registers and memory
in canonical form. -/
def Obligations.ResetStateHoldsTheStatedValues : Prop :=
  AfterReset State.reset ∧ State.reset.pending = [] ∧ State.reset.canonical

/-- MODULE_RESET (R492): inputs that ask for it reset the module, whatever the state before; in reset good inputs start
the time to the release, bad ones end it, and nothing else changes. RESET_RELEASE 2 ms after the inputs became good
samples the straps and leaves the values of R495, and of the register file only the objects that flash holds (R422) as
they were; of the fabric, the collectives and the security state nothing that a tenant could reach. Before that
time it changes nothing. -/
def Obligations.ModuleResetLeavesTheStatedValues : Prop :=
  (∀ (p : ResetPins) (s : State), s.pwr.inReset = false → inputsGood p = false →
    ∃ t, exec (.moduleReset p) s = .next t ∧ t.pwr = { inReset := true } ∧ t.straps = s.straps ∧
      t.pending = s.pending ∧
      ∀ (x : Straps) (good now : Nat), good + 2000000 ≤ now →
        ∃ u, exec (.resetRelease x) { t with pwr := { t.pwr with goodSince := some good, osc := now } } = .next u ∧
          AfterReset u ∧ u.straps = x ∧ u.pending = s.pending ∧
          (∀ i j, j < 256 → inFlash i j = false → rg u i j = dfltOf i j) ∧
          (∀ i j, j < 256 → inFlash i j = true → i ≠ 0xF000 → rg u i j = rg s i j) ∧
          u.mem.cells = [] ∧ u.fab = {} ∧ u.col = {} ∧ u.res = {} ∧ u.sec.fabricKey = none ∧ u.sec.baseKey = none ∧
          u.sec.regions = [] ∧ u.sec.bound = none) ∧
  (∀ (p : ResetPins) (s : State), s.pwr.inReset = true →
    ∃ t, exec (.moduleReset p) s = .next t ∧
      t.pwr.goodSince = (if inputsGood p then some (s.pwr.goodSince.getD s.pwr.osc) else none) ∧
      t.pwr.inReset = true ∧ t.pwr.osc = s.pwr.osc ∧ unchangedExcept [.wires, .power] s t) ∧
  (∀ (x : Straps) (s : State), s.pwr.inReset = true → mayRelease s = true →
    ∃ t, exec (.resetRelease x) s = .next t ∧ t.straps = x ∧ t.pwr = {} ∧
      unchangedExcept [.wires, .straps, .power] s t) ∧
  (∀ (x : Straps) (s : State), mayRelease s = false →
    exec (.resetRelease x) s = .next { s with sent := [] })

/-! ## Facility and job commands -/

/-- JOIN (R397). When its conditions hold and the audit log can be written: the module is JOINED with its bypass open,
transmits at generation 1, has drawn a base key, has logged the write and answers it in session 0. Otherwise the join
is ignored: no answer, and nothing changes but the message taken. -/
def Obligations.JoinsAreTakenOrIgnored : Prop :=
  (∀ (src dst msg : Nat) (s : State), mayJoin s src dst = true → s.sec.flashFull = false →
    ∃ t, exec (.join src dst msg) s = .next t ∧ t.dev = .joined ∧ t.ring.bypassOpen = true ∧
      t.ring.closeAtFrame = false ∧
      rg t 0x1100 6 = 1 ∧ t.sec.baseKey = some (Config.random256 s.freeCtr) ∧ t.freeCtr = s.freeCtr + 1 ∧
      Answers ⟨0, msg⟩ 0 [] t ∧
      regsExcept [(0x1100, 6), (0xA020, 1), (0x9040, 1)] s t ∧
      unchangedExcept [.wires, .freeCounter, .device, .registers, .memory, .ring, .security] s t) ∧
  (∀ (src dst msg : Nat) (s : State), mayJoin s src dst = false →
    ∃ t, exec (.join src dst msg) s = .next t ∧ t.sent = [] ∧ t.ring.bypassOpen = s.ring.bypassOpen ∧
      t.sec.log = s.sec.log ∧ unchangedExcept [.wires, .ring, .security] s t)

/-- The subindex of 0x2000 and the bytes by which the module takes job command v: 0x2000:02, or with COMPAT 0x2000:01
and 0x10 more (R435). -/
def Sys2Proof.jobWritable (q : Req) (v : Nat) (s : State) : Prop :=
  Ready q .tenant s ∧
    Writable .tenant 0x2000 (if s.straps.compat then 1 else 2) (leBytes 1 (if s.straps.compat then 0x10 + v else v)) s

/-- What a module that has left keeps nothing of (R460): the tenant's keys, score, sites, lines, regions, tables and
bound identity. -/
structure Sys2Proof.LeftBehind (t : State) : Prop where
  device : t.dev = .inert
  closing : t.ring.closeAtFrame = true
  erasing : t.sec.erasing = true
  keys : t.sec.baseKey = none ∧ t.sec.fabricKey = none ∧ t.sec.regions = [] ∧ t.sec.bound = none ∧ t.fab.parcelKey = 0
  work : t.ex = {} ∧ t.sites = [] ∧ t.mem.msc = [] ∧ t.mem.wc = [] ∧ t.mem.shared = []
  tables : t.fab.members = [] ∧ t.fab.groups = [] ∧ t.fab.overrides = []

/-- LEAVE from any state but INERT, and CLEAR_FAULT from FAULTED (R460): INERT, the bypass closing at the next frame
boundary, everything of the tenant gone, joins ignored until the erasure ends, and the write answered with success.
RUN in PREPARED (R82): RUNNING at once. HOLD in RUNNING (R84): HELD at once between steps, and pending while a step
runs. RELEASE in HELD, unless an abandon still waits for its restore: RUNNING. UNPREPARE in PREPARED or HELD: JOINED
with no score and no step. Each is answered with success; the job commands are logged as writes of 0x2000:02. -/
def Obligations.CommandsMoveTheDeviceState : Prop :=
  (∀ (q : Req) (s : State), Ready q .operator s → Writable .operator 0x2000 1 (leBytes 1 2) s → s.dev ≠ .inert →
    ∃ t, exec (.leave q) s = .next t ∧ LeftBehind t ∧ Answers q 0 [] t ∧
      t.links = s.links ∧ t.straps = s.straps ∧ t.dieErrors = s.dieErrors) ∧
  (∀ (q : Req) (s : State), Ready q .operator s → Writable .operator 0x2000 1 (leBytes 1 3) s → s.dev = .faulted →
    ∃ t, exec (.clearFault q) s = .next t ∧ LeftBehind t ∧ Answers q 0 [] t ∧
      t.links = s.links ∧ t.straps = s.straps ∧ t.dieErrors = s.dieErrors) ∧
  (∀ (q : Req) (s : State), jobWritable q 2 s → s.dev = .prepared →
    ∃ t, exec (.run q) s = .next t ∧ t.dev = .running ∧ t.ex = s.ex ∧ Answers q 0 [] t ∧ Logged q 0x2000 2 t ∧
      regsExcept [] s t ∧ unchangedExcept [.wires, .device, .registers, .ring, .security] s t) ∧
  (∀ (q : Req) (s : State), jobWritable q 3 s → s.dev = .running → s.ex.holdPending = false →
    ∃ t, exec (.hold q) s = .next t ∧
      t.dev = (if s.ex.step.running then .running else .held) ∧ t.ex.holdPending = s.ex.step.running ∧
      t.ex.step = s.ex.step ∧ Answers q 0 [] t ∧ Logged q 0x2000 2 t ∧
      regsExcept [] s t ∧ unchangedExcept [.wires, .device, .registers, .execution, .ring, .security] s t) ∧
  (∀ (q : Req) (s : State), jobWritable q 4 s → s.dev = .held → recoveryAllows s = true →
    ∃ t, exec (.release q) s = .next t ∧ t.dev = .running ∧ Answers q 0 [] t ∧ Logged q 0x2000 2 t ∧
      t.links = s.links ∧ t.straps = s.straps ∧ t.sites = s.sites ∧ t.pwr = s.pwr ∧ t.test = s.test) ∧
  (∀ (q : Req) (s : State), jobWritable q 5 s → (s.dev = .prepared ∨ s.dev = .held) →
    ∃ t, exec (.unprepare q) s = .next t ∧ t.dev = .joined ∧ t.ex = {} ∧ t.col = {} ∧ t.res = {} ∧
      Answers q 0 [] t ∧ Logged q 0x2000 2 t ∧ rg t 0x2012 1 = 0 ∧ rg t 0x2013 1 = 0 ∧
      t.links = s.links ∧ t.straps = s.straps ∧ t.dieErrors = s.dieErrors ∧ t.pwr = s.pwr)

/-- A job command from a state that R82 does not name for it is rejected with 0x0310_0005 and changes no device state,
execution state or memory; it is not logged and the rejection counters count it. -/
def Obligations.JobCommandsElsewhereAreRejected : Prop :=
  ∀ (q : Req) (s : State) (c : Instr) (v : Nat),
    ((c, v) = (.prepare q, 1) ∧ s.dev ∉ [.joined, .prepared] ∨ (c, v) = (.run q, 2) ∧ s.dev ∉ [.prepared, .running] ∨
      (c, v) = (.hold q, 3) ∧ s.dev ∉ [.running, .held] ∨
      (c, v) = (.release q, 4) ∧ s.dev ∉ [.held, .running] ∧ recoveryAllows s = true ∨
      (c, v) = (.unprepare q, 5) ∧ s.dev ∉ [.prepared, .held, .joined, .running]) →
    jobWritable q v s →
    ∃ t, exec c s = .next t ∧ Answers q 0x03100005 [] t ∧ t.sec.log = s.sec.log ∧
      rg t 0xF000 4 = satAdd 8 (rg s 0xF000 4) 1 ∧ regsExcept [] s t ∧
      unchangedExcept [.wires, .registers, .ring, .security] s t

/-- PREPARE in JOINED (R55, R407): the write is pending, with the settings it was accepted with, and is not answered
yet. PREPARE_COMPLETE for it, when the checks of R55 pass: PREPARED, the score installed from buffer 0, the write logged
and answered with success (R56). With signatures that do not verify, the earlier checks passed: the write ends with
0x0410_0001 and installs nothing. -/
def Obligations.PrepareInstallsOrRejects : Prop :=
  (∀ (q : Req) (s : State), jobWritable q 1 s → s.dev = .joined →
    ∃ t, exec (.prepare q) s = .next t ∧ t.sent = [] ∧
      t.sec.pend = s.sec.pend ++ [⟨.prepare, q, s.regs, s.fab.members, s.fab.groups, s.fab.overrides⟩] ∧
      q.msg ∈ (sessOf t q.sess).inProgress ∧ unchangedExcept [.wires, .ring, .security] s t) ∧
  (∀ (p : PendWrite) (s : State), pendOf s .prepare = some p → s.pwr.inReset = false → s.ring.bypassOpen = true →
    s.sec.flashFull = false → prepareCode p true (fresh s) = 0 →
    ∃ t, exec (.prepareComplete true) s = .next t ∧ t.dev = .prepared ∧
      t.ex.score = some (scoreOf (readerAt s (bufferIn p.regs 0).1)) ∧ t.ex.nextStep = 0 ∧
      rg t 0x2010 2 = (scoreOf (readerAt s (bufferIn p.regs 0).1)).id ∧ pendOf t .prepare = none ∧
      Answers p.q 0 [] t ∧ Logged p.q 0x2000 2 t ∧
      t.links = s.links ∧ t.straps = s.straps ∧ t.sites = s.sites) ∧
  (∀ (p : PendWrite) (s : State), pendOf s .prepare = some p → s.pwr.inReset = false → s.ring.bypassOpen = true →
    rgIn p.regs 0x2010 1 ≠ 0 →
    BitVec.ofNat 256 (readerAt s (bufferIn p.regs 0).1 80 32) = (sessOf s p.q.sess).key →
    ∃ t, exec (.prepareComplete false) s = .next t ∧ Answers p.q 0x04100001 [] t ∧ t.sec.log = s.sec.log ∧
      pendOf t .prepare = none ∧ regsExcept [] s t ∧ unchangedExcept [.wires, .registers, .ring, .security] s t)

/-! ## Every command -/

/-- Every step keeps the canonical form of registers and memory, and the well-formedness of the queue. -/
def Obligations.EveryStepKeepsTheCanonicalForm : Prop :=
  ∀ s t : State, s.queueWf → s.canonical → step s = .next t → t.canonical ∧ t.queueWf

/-- A command changes no part of the state but its own: in particular only the commands that name a part
(memory, the links, the security state, the device state ...) can reach it. -/
def Obligations.CommandsChangeOnlyTheirParts : Prop :=
  ∀ (c : Instr) (s t : State), exec c s = .next t → unchangedExcept c.parts s t

/-- A command that is no general write changes no object of the register file but those of its indexes. -/
def Obligations.CommandsChangeOnlyTheirObjects : Prop :=
  ∀ (c : Instr) (l : List Nat) (s t : State), c.objects = some l → exec c s = .next t →
    ∀ i j, i ∉ l → rg t i j = rg s i j

/-- Nothing is refused, and only two faults exist: a memory request beyond the mapped space (R203), and clocks whose
ratios R429 leaves without a meaning, after a command that takes clock settings into force. Every other command on
every state answers a next state. -/
def Obligations.OnlyTwoCausesStopARun : Prop :=
  ∀ (c : Instr) (s : State),
    (∃ t, exec c s = .next t) ∨
    (exec c s = .fault .unmappedAddress ∧
      ((∃ p ecc, c = .memoryReadRequest p ecc ∧ memTop ≤ p.addr) ∨ ∃ p d, c = .memoryWrite p d ∧ memTop ≤ p.addr)) ∨
    (exec c s = .fault .clockRatioUndefined ∧
      ((∃ q v, c = .powerStateRequest q v) ∨ (∃ q p, c = .recommissionPort q p) ∨
        (∃ q i j v, c = .fabricConfigurationWrite q i j v) ∨ (∃ k r x b, c = .qlRetrainComplete k r x b) ∨
        (∃ b, c = .blockData b) ∨ ∃ q i j v, c = .expeditedWrite q i j v ∨ c = .segmentedWrite q i j v ∨
          c = .dictionaryWrite q i j v))

/-! ## Memory -/

/-- A packet that a controller takes (R27, R28, R203, R209): a good one that its sender can have sent, of a line that
the memory serves. -/
structure Sys2Proof.Taken (p : Packet) (write : Bool) (s : State) : Prop where
  mapped : p.addr < memTop
  serves : memServes s p.addr = true
  good : packetOk p = true
  sent : requestSent s p write = true

/-- MEMORY_WRITE, taken and served now (R208, R211): its bytes are merged at the point of coherence (into the resident
line, as a whole line, or into the write-combining buffer), every other byte reads as before, and its requester waits
for the acknowledgement, which goes at once when no other shared cache holds the line; else every holder is sent an
invalidation and holds the line no more. One that must wait (R218) changes nothing but the list of those waiting, in
arrival order. Beyond the mapped space it faults (R203). -/
def Obligations.AMemoryWriteMergesItsBytes : Prop :=
  (∀ (p : Packet) (data : Bytes) (s : State), s.canonical → Taken p true s → data.length = attrCount p →
    canServe s (memReqOf p) true = true →
    ∃ t, exec (.memoryWrite p data) s = .next t ∧
      bytesAt t p.addr (attrCount p) = data ∧
      (∀ x, x < p.addr ∨ p.addr + attrCount p ≤ x → byteAt t x = byteAt s x) ∧
      (otherHolders s (p.addr / 256) p.srcDie = [] → Output.writeAck p.srcDie p.srcEp p.tag ∈ t.sent) ∧
      (∀ d ∈ otherHolders s (p.addr / 256) p.srcDie,
        Output.invalidate (d + 4) (p.addr / 256) ∈ t.sent ∧ resident t d (p.addr / 256) = false) ∧
      (⟨p.srcDie, p.srcEp, p.tag, true, s.ex.step.running, p.addr, 1⟩ : Outstanding) ∈ t.mem.outstanding ∧
      unchangedExcept [.wires, .freeCounter, .registers, .memory] s t ∧
      (∀ i j, i ≠ 0x4021 → i ≠ 0x6C01 → rg t i j = rg s i j)) ∧
  (∀ (p : Packet) (data : Bytes) (s : State), Taken p true s → canServe s (memReqOf p) true = false →
    ∃ t, exec (.memoryWrite p data) s = .next t ∧
      t.mem.waiting = s.mem.waiting ++ [⟨memReqOf p, .clean, true, data⟩] ∧ (∀ x, byteAt t x = byteAt s x) ∧
      t.sent = [] ∧ unchangedExcept [.wires, .memory] s t) ∧
  (∀ (p : Packet) (data : Bytes) (s : State), memTop ≤ p.addr →
    exec (.memoryWrite p data) s = .fault .unmappedAddress)

/-- MEMORY_READ_REQUEST, taken and served now with no error found (R207, R209): answered with the bytes the point of
coherence holds, which it changes nowhere, and with their poison; its requester has reserved the granules of the
response (R235). One that must wait (R218) changes nothing but the list of those waiting. Beyond the mapped space it
faults (R203). -/
def Obligations.MemoryReadsAnswerOrWait : Prop :=
  (∀ (p : Packet) (s : State), s.canonical → Taken p false s → canServe s (memReqOf p) false = true →
    ∃ t, exec (.memoryReadRequest p .clean) s = .next t ∧
      Output.readResponse p.srcDie p.srcEp p.tag (bytesAt s p.addr (attrCount p))
        (poisonedIn s p.addr (attrCount p)) ∈ t.sent ∧
      (∀ x, byteAt t x = byteAt s x) ∧ t.mem.poison = s.mem.poison ∧
      (⟨p.srcDie, p.srcEp, p.tag, false, s.ex.step.running, p.addr, 1 + ceilDiv (attrCount p) 32⟩ : Outstanding)
        ∈ t.mem.outstanding ∧
      unchangedExcept [.wires, .freeCounter, .registers, .memory] s t ∧
      (∀ i j, i ≠ 0x4021 → rg t i j = rg s i j)) ∧
  (∀ (p : Packet) (ecc : MemEcc) (s : State), Taken p false s → canServe s (memReqOf p) false = false →
    ∃ t, exec (.memoryReadRequest p ecc) s = .next t ∧
      t.mem.waiting = s.mem.waiting ++ [⟨memReqOf p, ecc, false, []⟩] ∧ (∀ x, byteAt t x = byteAt s x) ∧
      t.sent = [] ∧ unchangedExcept [.wires, .memory] s t) ∧
  (∀ (p : Packet) (ecc : MemEcc) (s : State), memTop ≤ p.addr →
    exec (.memoryReadRequest p ecc) s = .fault .unmappedAddress)

/-- WRITE_COMBINE_TIMEOUT 1 µs after the first write of an entry (R212): when its partition's regulator allows the
access (R240) the entry is gone, its bytes are in the cells and the access is charged; when it does not, the entry
stays, retiring. No byte reads otherwise than before. -/
def Obligations.ARetiredEntryKeepsItsBytes : Prop :=
  (∀ (e : WcEntry) (s : State), s.mem.wf → e ∈ s.mem.wc → e.first + 1000 ≤ s.pwr.time →
    retireWaits s e = false → regAllows s e.controller e.part (entryCost e) = true →
    ∃ t, exec (.writeCombineTimeout e.controller e.line) s = .next t ∧
      (∀ x ∈ t.mem.wc, x.line ≠ e.line) ∧ (∀ p ∈ e.data, lookup p.1 t.mem.cells = some p.2) ∧
      (∀ x, byteAt t x = byteAt s x) ∧
      rg t 0x4021 (e.controller / 80 + 1) = satAdd (sizeOf_ 0x4021 (e.controller / 80 + 1))
        (rg s 0x4021 (e.controller / 80 + 1)) (32 * ceilDiv (entryCost e) 32) ∧
      unchangedExcept [.wires, .registers, .memory] s t ∧ (∀ i j, i ≠ 0x4021 → rg t i j = rg s i j)) ∧
  (∀ (e : WcEntry) (s : State), s.mem.wf → e ∈ s.mem.wc → e.first + 1000 ≤ s.pwr.time →
    regAllows s e.controller e.part (entryCost e) = false →
    ∃ t, exec (.writeCombineTimeout e.controller e.line) s = .next t ∧
      t.mem.wc = s.mem.wc.map (fun x => if x.line = e.line then { x with retiring := true } else x) ∧
      (∀ x, byteAt t x = byteAt s x) ∧ unchangedExcept [.wires, .memory] s t)

/-! ## Steps -/

/-- Each accepted write of 0x2011:01 adds its value to the grant count 0x2011:02 (R83): in PREPARED, RUNNING and HELD
while the count stays below 2^32; elsewhere 0x0310_0005, above it 0x0510_0003, and the count stays. -/
def Obligations.GrantsAddToTheCount : Prop :=
  ∀ (q : Req) (n : Nat) (s : State), n < 2 ^ 32 → (s.straps.compat = true → n < 2 ^ 16) → Ready q .tenant s →
    Writable .tenant 0x2011 1 (leBytes (if s.straps.compat then 2 else 4) n) s →
    ((s.dev = .prepared ∨ s.dev = .running ∨ s.dev = .held) → rg s 0x2011 2 + n < 2 ^ 32 →
      ∃ t, exec (.grantSteps q n) s = .next t ∧ rg t 0x2011 2 = rg s 0x2011 2 + n ∧ Answers q 0 [] t ∧
        Logged q 0x2011 1 t ∧ regsExcept [(0x2011, 2)] s t ∧ unchangedExcept [.wires, .registers, .ring, .security] s t) ∧
    (¬ (s.dev = .prepared ∨ s.dev = .running ∨ s.dev = .held) →
      ∃ t, exec (.grantSteps q n) s = .next t ∧ Answers q 0x03100005 [] t ∧ regsExcept [] s t) ∧
    ((s.dev = .prepared ∨ s.dev = .running ∨ s.dev = .held) → 2 ^ 32 ≤ rg s 0x2011 2 + n →
      ∃ t, exec (.grantSteps q n) s = .next t ∧ Answers q 0x05100003 [] t ∧ regsExcept [] s t)

/-- A post that passes the checks of R78 admits its micro-batch for its step and slot (R79); one outside PREPARED,
RUNNING and HELD, or for a slot already taken, admits nothing, is counted in 0x2020:04 and rejected with the code of
R78. -/
def Obligations.PostsAdmitOrAreCounted : Prop :=
  ∀ (q : Req) (p : Post) (sc : Score) (x : SlotDecl) (s : State), p.wf = true → Ready q .tenant s →
    Writable .tenant 0x2020 1 (postBytes p) s → p.reserved = 0 → s.ex.score = some sc →
    sc.slots.find? (fun y => y.num == p.slot) = some x → p.tokens ≤ x.budget → p.tokens ≠ 0 →
    (p.step = s.ex.nextStep ∨ p.step = s.ex.nextStep + 1) →
    ((s.dev = .prepared ∨ s.dev = .running ∨ s.dev = .held) →
      s.ex.admitted.any (fun a => a.step == p.step && a.slot == p.slot) = false →
      ∃ t, exec (.postMicroBatch q p) s = .next t ∧
        t.ex = { s.ex with admitted := s.ex.admitted ++ [⟨p.step, p.slot, p.tokens, p.buffer⟩] } ∧ Answers q 0 [] t ∧
        Logged q 0x2020 1 t ∧ regsExcept [] s t ∧
        unchangedExcept [.wires, .registers, .execution, .ring, .security] s t) ∧
    (∀ code, (code = 0x03100005 ∧ s.dev ∉ [.prepared, .running, .held] ∨
        code = 0x03100003 ∧ s.dev ∈ [.prepared, .running, .held] ∧
          s.ex.admitted.any (fun a => a.step == p.step && a.slot == p.slot) = true) →
      ∃ t, exec (.postMicroBatch q p) s = .next t ∧ t.ex = s.ex ∧ Answers q code [] t ∧
        rg t 0x2020 4 = satAdd (sizeOf_ 0x2020 4) (rg s 0x2020 4) 1 ∧ regsExcept [(0x2020, 4)] s t)

/-- STEP_START when R84 allows it: the grant count goes down by one, 0x2012:01 up, and the next step number's step
runs from now, with every token counter at zero where nothing was held for it. Without a grant, or while R84 holds the
step back, STEP_START changes nothing. STEP_BOUNDARY (R85): the step runs no more, 0x2012:02 or 0x2012:03 counts it by
its outcome, 0x2012:05 holds how long it took, and the module is HELD when a hold was pending or the step ends in one,
else RUNNING. STEP_STALLED when a step runs four times the time of R89, held time left out: FAULTED with cause
0x0310_0006 (R91); before that it changes nothing. -/
def Obligations.StepsStartAndEnd : Prop :=
  (∀ (sc : Score) (s : State), s.ex.score = some sc → mayStart sc s = true →
    ∃ t, exec .stepStart s = .next t ∧ t.ex.step.running = true ∧ t.ex.step.num = s.ex.nextStep ∧
      t.ex.nextStep = s.ex.nextStep + 1 ∧ t.ex.step.startTime = s.pwr.time ∧ t.ex.score = some sc ∧
      rg t 0x2011 2 = rg s 0x2011 2 - 1 ∧ rg t 0x2012 1 = satAdd (sizeOf_ 0x2012 1) (rg s 0x2012 1) 1 ∧
      (s.ex.heldTokens.filter (fun m => m.round == s.ex.nextStep % 64) = [] → s.col.early = [] →
        ∀ k, tokenCount t k = 0) ∧
      unchangedExcept [.wires, .freeCounter, .registers, .execution, .sites, .memory, .fabric, .collectives,
        .resilience, .ring] s t) ∧
  (∀ (sc : Score) (s : State), s.ex.score = some sc →
    (rg s 0x2011 2 = 0 ∨ s.dev ≠ .running ∨ s.ex.step.running = true ∨ s.ex.holdPending = true ∨
      slotsAdmitted sc s = false ∨ s.pwr.cur ≠ .run ∨ anyGated s = true) →
    exec .stepStart s = .next { s with sent := [] }) ∧
  (∀ (sc : Score) (s : State), s.ex.score = some sc → s.pwr.inReset = false → boundaryReached sc s = true →
    ∃ t, exec .stepBoundary s = .next t ∧ t.ex.step.running = false ∧ t.ex.step.num = s.ex.step.num ∧
      t.ex.holdPending = false ∧ t.ex.score = some sc ∧
      t.dev = (if s.ex.holdPending || s.ex.step.holdAtBoundary then .held else .running) ∧
      (s.ex.step.outcome = some .commit → rg t 0x2012 2 = satAdd (sizeOf_ 0x2012 2) (rg s 0x2012 2) 1 ∧
        rg t 0x2012 3 = rg s 0x2012 3) ∧
      (s.ex.step.outcome ≠ some .commit → rg t 0x2012 3 = satAdd (sizeOf_ 0x2012 3) (rg s 0x2012 3) 1 ∧
        rg t 0x2012 2 = rg s 0x2012 2) ∧
      rg t 0x2012 5 = s.pwr.time - s.ex.step.startTime ∧
      unchangedExcept [.wires, .device, .registers, .execution, .sites, .siteMap, .memory, .photonics, .fabric,
        .resilience, .ring, .power, .test] s t) ∧
  (∀ (sc : Score) (s : State), s.ex.score = some sc → s.pwr.inReset = false → s.ex.step.running = true →
    outcomeHeld s = false → (s.dev = .running ∨ s.dev = .held) → 4 * stepTime sc s ≤ measured s →
    ∃ t, exec .stepStalled s = .next t ∧ t.dev = .faulted ∧ rg t 0x2001 3 = 0x03100006 ∧ stepId t = stepId s ∧
      unchangedExcept [.wires, .device, .registers, .execution, .sites, .siteMap, .memory, .resilience, .ring,
        .security, .power, .test] s t) ∧
  (∀ (sc : Score) (s : State), s.ex.score = some sc → measured s < 4 * stepTime sc s →
    exec .stepStalled s = .next { s with sent := [] })

/-! ## Cores -/

/-- The granules that a crumb's credit references spend, over what is spent already. -/
def Sys2Proof.spentAfter (c : Crumb) (m : List (Nat × Nat)) : List (Nat × Nat) :=
  c.credits.foldl (fun m r => set_ 0 r.1 (at_ 0 r.1 m + r.2) m) m

/-- CRUMB_FIRE: the head of a core's list fires when its tokens, credits and commit token are there and its execution
unit is idle with no wait of R95 (R63, R94): the unit runs it, its credits are spent (R61), the list goes on behind it,
and the step stays the same step. With an input token, a credit or the commit token missing nothing changes.
CRUMB_RETIRE, once its writes are acknowledged: its unit is free, and its output tokens, bucket fill and credit returns
go out (R59), to where its owner's would (R69), whatever core ran it; before that nothing changes. -/
def Obligations.CrumbsFireAndRetire : Prop :=
  (∀ (half core i : Nat) (errs : List StoreErr) (sc : Score) (c : Crumb) (q : Seq) (s : State),
    s.ex.score = some sc → halfWorks s half = true → headOf sc s half core = some (i, c, q) →
    crumbReady sc s c = true → elides s c = false → canFire sc s (coreSiteKey s half core) i core c = true →
    ∃ t r, exec (.crumbFire half core errs) s = .next t ∧
      siteUnit (coreOf t half core) (execUnitOf c) = some r ∧ r.crumb = i ∧ r.owner = core ∧
      seqOf t half core = q ∧ (∀ h k, coreKey h k ≠ coreKey half core → seqOf t h k = seqOf s h k) ∧
      t.ex.spent = spentAfter c s.ex.spent ∧ stepId t = stepId s ∧
      unchangedExcept [.wires, .freeCounter, .registers, .execution, .sites, .memory, .ring] s t) ∧
  (∀ (half core i : Nat) (errs : List StoreErr) (sc : Score) (c : Crumb) (q : Seq) (s : State),
    s.ex.score = some sc → headOf sc s half core = some (i, c, q) → crumbReady sc s c = false →
    exec (.crumbFire half core errs) s = .next { s with sent := [] }) ∧
  (∀ (half core unit : Nat) (sc : Score) (r : Running) (c : Crumb) (s : State),
    s.ex.score = some sc → s.pwr.inReset = false → siteUnit (coreOf s half core) (unitNo unit) = some r →
    sc.crumbs[r.crumb]? = some c →
    (writesDone s (crumbUnit s (coreSiteKey s half core) c) = true →
      ∃ t, exec (.crumbRetire half core unit) s = .next t ∧ siteUnit (coreOf t half core) (unitNo unit) = none ∧
        (∀ u, u ≠ unitNo unit → siteUnit (coreOf t half core) u = siteUnit (coreOf s half core) u) ∧
        (∀ o d, c.outputs = [o] → sc.tokens.find? (fun x => x.id == o.tok) = some d → d.die = 4 + c.half / 2 →
          d.ep = c.half % 2 → tokenCount t o.tok = min (tokenCount s o.tok + o.cnt) d.final) ∧
        listsOf t = listsOf s ∧ stepId t = stepId s ∧
        unchangedExcept [.wires, .registers, .execution, .sites] s t) ∧
    (writesDone s (crumbUnit s (coreSiteKey s half core) c) = false →
      exec (.crumbRetire half core unit) s = .next { s with sent := [] }))

/-- COMMIT_GATED_RETIRE: a commit-gated head on a step that was skipped or voided retires without executing (R64), and
PAD_ELISION: a pad-elidable head whose tile lies in padding likewise (R65), counted in 0x2013:02: outputs and fill go
out, no credit is spent, no unit is taken and no memory is written. STEALING: a core with nothing to do takes the tail
of the first sibling whose tail qualifies (R66, R67), when no claim of the sibling's owner or of an earlier thief
stands (R68): the crumb runs on the thief's unit for its owner, the sibling's list is shorter by its tail, and
0x2013:01 counts it (R69). A core that has no claim, or whose claim is not served, changes nothing. -/
def Obligations.HeadsRetireUnexecutedOrAreStolen : Prop :=
  (∀ (half core i : Nat) (sc : Score) (c : Crumb) (q : Seq) (s : State), s.ex.score = some sc → s.canonical →
    halfWorks s half = true → headOf sc s half core = some (i, c, q) → inputsMet s c.inputs = true →
    c.gated = true → s.ex.step.commit = some false →
    ∃ t, exec (.commitGatedRetire half core) s = .next t ∧ seqOf t half core = q ∧ t.ex.spent = s.ex.spent ∧
      t.sites = s.sites ∧ (∀ x, byteAt t x = byteAt s x) ∧
      unchangedExcept [.wires, .freeCounter, .registers, .execution, .memory, .ring] s t) ∧
  (∀ (half core i : Nat) (sc : Score) (c : Crumb) (q : Seq) (s : State), s.ex.score = some sc → s.canonical →
    halfWorks s half = true → headOf sc s half core = some (i, c, q) → inputsMet s c.inputs = true →
    elides s c = true →
    ∃ t, exec (.padElision half core) s = .next t ∧ seqOf t half core = q ∧ t.ex.spent = s.ex.spent ∧
      rg t 0x2013 2 = satAdd (sizeOf_ 0x2013 2) (rg s 0x2013 2) 1 ∧
      t.sites = s.sites ∧ (∀ x, byteAt t x = byteAt s x) ∧
      unchangedExcept [.wires, .freeCounter, .registers, .execution, .memory, .ring] s t) ∧
  (∀ (half core b i : Nat) (errs : List StoreErr) (sc : Score) (c : Crumb) (s : State), s.ex.score = some sc →
    halfWorks s half = true → thiefClaim sc s half core = some (b, i, c) → ownerClaims sc s half b = false →
    servedThief sc s half b = some core →
    ∃ t r, exec (.stealing half ⟨core, errs⟩) s = .next t ∧
      siteUnit (coreOf t half core) (execUnitOf c) = some r ∧ r.crumb = i ∧ r.owner = b ∧
      seqOf t half b = { seqOf s half b with unfired := (seqOf s half b).unfired.dropLast, lastThief := core % 8 } ∧
      t.ex.spent = spentAfter c s.ex.spent ∧
      rg t 0x2013 1 = satAdd (sizeOf_ 0x2013 1) (rg s 0x2013 1) 1 ∧ stepId t = stepId s ∧
      unchangedExcept [.wires, .freeCounter, .registers, .execution, .sites, .memory, .ring] s t) ∧
  (∀ (half core : Nat) (errs : List StoreErr) (sc : Score) (s : State), s.ex.score = some sc →
    (thiefClaim sc s half core = none ∨ ∃ b i c, thiefClaim sc s half core = some (b, i, c) ∧
      (ownerClaims sc s half b = true ∨ servedThief sc s half b ≠ some core)) →
    exec (.stealing half ⟨core, errs⟩) s = .next { s with sent := [] })

/-- An increment reaches its token's counter (R60): the sum, or the declared final count where the sum would pass it,
which 0x2012:06 counts; the step goes on, and every other counter stays. -/
def Obligations.TokenCountersStopAtTheFinalCount : Prop :=
  ∀ (tok inc : Nat) (sc : Score) (d : TokDecl) (s : State), s.ex.score = some sc → s.ex.step.running = true →
    s.pwr.inReset = false → sc.tokens.find? (fun x => x.id == tok) = some d →
    ∃ t, exec (.tokenPacket tok inc) s = .next t ∧
      tokenCount t tok = (if d.final < tokenCount s tok + inc then d.final else tokenCount s tok + inc) ∧
      rg t 0x2012 6 = (if d.final < tokenCount s tok + inc then satAdd (sizeOf_ 0x2012 6) (rg s 0x2012 6) 1
        else rg s 0x2012 6) ∧
      (∀ k, k ≠ tok → tokenCount t k = tokenCount s k) ∧ stepId t = stepId s ∧ t.dev = s.dev ∧
      regsExcept [(0x2012, 6)] s t ∧ unchangedExcept [.wires, .registers, .execution] s t

/-- CREDIT_GRANT_PACKET: granules of a pool return to it (R61); and credit of a class that returns to a unit sends what
it had pending for that endpoint, the whole count of a token as one packet (R236). WATCH_SAMPLE_COMPLETE: a watched
tile's wide-path result (R164) is counted in 0xC010:01, among the disagreeing tiles of 0xC010:02 and of the step when
it disagrees, its excluded elements added, the largest ratio kept; the path is free again and no verdict or device
state changes. -/
def Obligations.CreditsReturnAndSamplesAreCounted : Prop :=
  (∀ (die ep cls granules p : Nat) (s : State), s.pwr.inReset = false →
    ∃ t, exec (.creditGrantPacket die ep cls granules (.pool p)) s = .next t ∧
      spentOf t p = spentOf s p - granules ∧ (∀ k, k ≠ p → spentOf t k = spentOf s k) ∧
      unchangedExcept [.wires, .execution] s t) ∧
  (∀ (die ep cls granules d e : Nat) (s : State), s.pwr.inReset = false → s.ex.pendTokens = [] → s.ex.pendGrants = [] →
    ∃ t, exec (.creditGrantPacket die ep cls granules (.unit d e)) s = .next t ∧ t.sent = [] ∧
      creditUsedAt t (endKey d e) (endKey die ep) cls = creditUsedAt s (endKey d e) (endKey die ep) cls - granules ∧
      (∀ u k c, (u, k, c) ≠ (endKey d e, endKey die ep, cls) → creditUsedAt t u k c = creditUsedAt s u k c) ∧
      unchangedExcept [.wires, .execution] s t) ∧
  (∀ (die ep granules d e tok n : Nat) (sc : Score) (x : TokDecl) (s : State), s.pwr.inReset = false →
    s.ex.score = some sc → creditUsedAt s (endKey d e) (endKey die ep) 1 - granules < unitCredit →
    s.ex.pendTokens = [((endKey d e, tok), n)] → s.ex.pendGrants = [] → sc.tokens = [x] → x.id = tok → x.die = die →
    x.ep = ep →
    ∃ t, exec (.creditGrantPacket die ep 1 granules (.unit d e)) s = .next t ∧ t.sent = [.token tok n] ∧
      t.ex.pendTokens = [] ∧
      creditUsedAt t (endKey d e) (endKey die ep) 1 = creditUsedAt s (endKey d e) (endKey die ep) 1 - granules + 1 ∧
      unchangedExcept [.wires, .execution] s t) ∧
  (∀ (half core : Nat) (w : WideSample) (s : State), (coreOf s half core).wide = some w →
    ∃ t, exec (.watchSampleComplete half core) s = .next t ∧ (coreOf t half core).wide = none ∧
      rg t 0xC010 1 = satAdd (sizeOf_ 0xC010 1) (rg s 0xC010 1) 1 ∧
      rg t 0xC010 2 = (if w.disagrees then satAdd (sizeOf_ 0xC010 2) (rg s 0xC010 2) 1 else rg s 0xC010 2) ∧
      rg t 0xC010 4 = satAdd (sizeOf_ 0xC010 4) (rg s 0xC010 4) w.excluded ∧
      rg t 0xC010 5 = (maxRatio (BitVec.ofNat 32 (rg s 0xC010 5)) w.ratio).toNat ∧
      t.ex.step.watchTiles = s.ex.step.watchTiles + (if w.disagrees then 1 else 0) ∧
      t.ex.step.dataErr = s.ex.step.dataErr ∧ t.dev = s.dev ∧ (∀ i j, i ≠ 0xC010 → rg t i j = rg s i j) ∧
      unchangedExcept [.wires, .registers, .execution, .sites] s t)

/-! ## Engines, streams and host copies -/

/-- A byte of memory after writes made one after another, each an address and its bytes: the last write that covers the
byte gives it. -/
def Sys2Proof.bytesAfter (ws : List (Nat × Bytes)) (s : State) (x : Nat) : Byte :=
  ws.foldl (fun b w => if w.1 ≤ x ∧ x < w.1 + w.2.length then w.2.getD (x - w.1) 0 else b) (byteAt s x)

/-- What a host copy writes: a load the buffer's elements (and the pads) to the tensor, a store the tensor's elements to
the buffer, poisoned ones as zeros (R197, R198, R226). -/
def Sys2Proof.hostWrites (base : Nat) (h : HostCopy) (s : State) : List (Nat × Bytes) :=
  (List.range (blockCount h.desc)).filterMap (fun i =>
    let x := posAt h.desc [(0, 0, false)] i
    let e := elemBytes h.desc
    let b := base + validBefore h.desc i * e
    if h.load then
      (if x.valid then some (x.addr, bytesAt s b e) else if h.desc.materialize then some (x.addr, padElem h.desc) else none)
    else if x.valid then some (b, if poisonedIn s x.addr e then zeros e else bytesAt s x.addr e) else none)

/-- COPY_JOB_FIRE (R188): a copy engine runs its jobs in record order, one at a time; the next one fires when its input
token is there and its memory is within reach, writes its destination in memory element by element (R176, R179, R180)
and no other byte, and counts what it moves. No other engine's jobs move, nor do streams. COPY_JOB_RETIRE, once its
writes are acknowledged (R59): the engine is free, its jobs done are one more and its output tokens go out.
HOST_COPY_REQUEST that passes the checks of R198 is taken without an answer. HOST_COPY_COMPLETE: a load has moved the
buffer's elements into the tensor and a store the tensor's elements into the buffer, no other byte of memory has
changed, the copy and its bytes are counted, and the write is logged and answered. -/
def Obligations.CopiesMoveTheirElements : Prop :=
  (∀ (die engine : Nat) (sc : Score) (j : CopyJob) (x : Engine) (s : State), s.ex.score = some sc → s.canonical →
    engineOf s (engineKey die engine) = x → stepWorks s = true → gated s (20 + die) = false → s.ring.clock = true →
    x.running = none → (jobsOf sc die engine)[x.doneJobs]? = some j → inputsMet s j.input.toList = true →
    memoryOpen s (engineUnit s die engine) (jobRanges sc s (scoreDesc sc j.src) (scoreDesc sc j.dst)) = true →
    (scoreDesc sc j.dst).space = 0 →
    ∃ t, exec (.copyJobFire die engine) s = .next t ∧
      t.ex.engines = set_ {} (engineKey die engine) { x with running := some x.doneJobs } s.ex.engines ∧
      t.ex.streams = s.ex.streams ∧
      (∀ a, byteAt t a = bytesAfter (copyWrites sc s 0 (scoreDesc sc j.src) (scoreDesc sc j.dst)) s a) ∧
      rg t 0x4801 1 = satAdd (sizeOf_ 0x4801 1) (rg s 0x4801 1)
        ((copyWrites sc s 0 (scoreDesc sc j.src) (scoreDesc sc j.dst)).length * elemBytes (scoreDesc sc j.dst)) ∧
      rg t 0x4801 2 = rg s 0x4801 2 ∧ stepId t = stepId s ∧
      unchangedExcept [.wires, .freeCounter, .registers, .execution, .memory, .ring] s t) ∧
  (∀ (die engine : Nat) (sc : Score) (j : CopyJob) (x : Engine) (s : State), s.ex.score = some sc →
    engineOf s (engineKey die engine) = x → s.pwr.inReset = false → writesDone s (engineUnit s die engine) = true →
    x.running = some x.doneJobs → (jobsOf sc die engine)[x.doneJobs]? = some j →
    ∃ t, exec (.copyJobRetire die engine) s = .next t ∧
      t.ex.engines = set_ {} (engineKey die engine) { x with doneJobs := x.doneJobs + 1, running := none } s.ex.engines ∧
      t.ex.streams = s.ex.streams ∧
      (∀ o d, j.outputs = [o] → sc.tokens.find? (fun y => y.id == o.tok) = some d → d.die = die → d.ep = 0x100 + engine →
        tokenCount t o.tok = min (tokenCount s o.tok + o.cnt) d.final) ∧
      stepId t = stepId s ∧ regsExcept [(0x2012, 6)] s t ∧ unchangedExcept [.wires, .registers, .execution] s t) ∧
  (∀ (q : Req) (value : Bytes) (s : State), Ready q .tenant s → Writable .tenant 0x4800 1 value s →
    (∀ c ∈ (hostRule q value s).codes, c = 0) →
    ∃ t, exec (.hostCopyRequest q value) s = .next t ∧ t.mem.hostCopy = some (hostReqOf s.regs value) ∧
      t.sent = [.dictAccess true 0x4800 1] ∧ (∃ x ∈ t.sec.pend, x.kind = .hostCopy ∧ x.q = q) ∧
      (∀ a, byteAt t a = byteAt s a) ∧ t.regs = s.regs ∧ unchangedExcept [.wires, .memory, .ring, .security] s t) ∧
  (∀ (h : HostCopy) (p : PendWrite) (s : State), s.canonical → s.mem.hostCopy = some h → pendOf s .hostCopy = some p →
    enginesWork s = true → s.mem.trained = true → s.sec.flashFull = false → s.ring.bypassOpen = true →
    ∃ t, exec .hostCopyComplete s = .next t ∧ t.mem.hostCopy = none ∧
      (∀ a, byteAt t a = bytesAfter (hostWrites ((bufferIn p.regs h.buffer).1 + h.offset) h s) s a) ∧
      rg t 0x4800 2 = satAdd (sizeOf_ 0x4800 2) (rg s 0x4800 2) 1 ∧
      rg t 0x4801 1 = satAdd (sizeOf_ 0x4801 1) (rg s 0x4801 1)
        ((if h.load ∧ h.desc.materialize then blockCount h.desc else validCount h.desc) * elemBytes h.desc) ∧
      Answers p.q 0 [] t ∧ Logged p.q 0x4800 1 t ∧
      regsExcept [(0x4800, 2), (0x4801, 1), (0x4021, 1), (0x4021, 2), (0x4021, 3), (0x4021, 4)] s t ∧
      unchangedExcept [.wires, .freeCounter, .registers, .memory, .ring, .security] s t)

/-- STREAM_SEGMENT_START (R215): a memory stream's segments run one after another; the next one starts when its gate
token and its regulator allow, and only reads. STREAM_SEGMENT_COMPLETE: a segment of one line leaves it in the shared
cache of every target die of the stream or in the memory-side cache; one segment more is done and the stream's output
tokens go out. Every byte of memory reads as before. -/
def Obligations.StreamSegmentsFillTheirTargets : Prop :=
  (∀ (k : Nat) (sc : Score) (x : StreamDecl) (s : State), s.ex.score = some sc → s.canonical →
    sc.streams[k]? = some x → stepWorks s = true → s.ring.clock = true → (streamOf s k).running = false →
    (streamOf s k).doneSegs < x.segments → gated s (runnerOf x) = false →
    segmentReady s x (streamOf s k).doneSegs = true →
    segmentOpen s x (segmentLines s sc x (streamOf s k).doneSegs) = true →
    ∃ t, exec (.streamSegmentStart k) s = .next t ∧ streamOf t k = { streamOf s k with running := true } ∧
      (∀ i, i ≠ k → streamOf t i = streamOf s i) ∧ t.ex.engines = s.ex.engines ∧ stepId t = stepId s ∧
      (∀ a, byteAt t a = byteAt s a) ∧
      unchangedExcept [.wires, .freeCounter, .registers, .execution, .memory, .ring] s t) ∧
  (∀ (k : Nat) (sc : Score) (x : StreamDecl) (s : State), s.ex.score = some sc → s.canonical →
    sc.streams[k]? = some x → s.pwr.inReset = false → (streamOf s k).running = true →
    ∃ t, exec (.streamSegmentComplete k) s = .next t ∧
      streamOf t k = { streamOf s k with doneSegs := (streamOf s k).doneSegs + 1, running := false } ∧
      (∀ i, i ≠ k → streamOf t i = streamOf s i) ∧ t.ex.engines = s.ex.engines ∧ stepId t = stepId s ∧
      (∀ l, segmentLines s sc x (streamOf s k).doneSegs = [l] → x.target = 0 →
        ∀ d, d < 12 → x.mask.testBit d = true → resident t d l = true) ∧
      (∀ l, segmentLines s sc x (streamOf s k).doneSegs = [l] → x.target ≠ 0 → (mscLine t l).isSome = true) ∧
      (∀ a, byteAt t a = byteAt s a) ∧ (∀ i j, i ≠ 0x2012 → i ≠ 0x4021 → rg t i j = rg s i j) ∧
      unchangedExcept [.wires, .freeCounter, .registers, .execution, .memory] s t)

/-! ## The verdict of a step -/

/-- VERDICT_POINT, once the work before commit has retired and every bucket is verified (R145): the indicators of every
core with crumbs are captured and cleared (R146); without an error of data and without a partner the flag word of R149
is contributed; a hold-commit of this step takes the module to HELD with 0x8010:03 naming it (R373). PAIR_DIGEST_RECEIVE
(R378): one with another score tag is counted in 0x6050:06 and dropped; the partner's for the awaited round is reported
in 0x8020:04 and the member contributes, and a mismatch is counted in 0x8030:10 and, as a forced void, in 0x8030:06; an
early one is kept. The step stays the same step. -/
def Obligations.TheVerdictPointFormsTheFlagWord : Prop :=
  (∀ (sc : Score) (hot armed : Bool) (s : State), s.ex.score = some sc → stepWorks s = true → s.ex.step.phase = .open →
    preCommitDone sc s = true → bucketsVerified sc s = true →
    hot = (s.ex.step.overflow || (crumbSites sc s).any (fun k => (siteAt s k).overflow || (siteAt s k).invalid)) →
    armed = ((decide (rg s 0x8010 1 = s.ex.step.num) || s.res.autoHold) && !outcomeHeld s && !s.ex.step.rejected) →
    ∃ t, exec .verdictPoint s = .next t ∧ stepId t = stepId s ∧ t.ex.step.overflow = hot ∧
      (∀ k, siteAt t k = if k ∈ crumbSites sc s then clearIndicators (siteAt s k) else siteAt s k) ∧
      (s.ex.step.dataErr = none → s.ex.step.transferErr = false → (partnerAffine s.regs (ownAffine s)) = none →
        t.ex.step.phase = .reducing ∧
        t.ex.step.ownWord = flagWord s.ex.step.num s.ex.scale.e s.ex.scale.c false (hot || bucketOverflow sc s)) ∧
      t.dev = (if armed then .held else s.dev) ∧
      rg t 0x8010 2 = (if armed then 1 else rg s 0x8010 2) ∧
      rg t 0x8010 3 = (if armed then s.ex.step.num else rg s 0x8010 3) ∧
      t.ex.step.heldFrom = (if armed then some s.pwr.time else s.ex.step.heldFrom) ∧
      unchangedExcept [.wires, .device, .registers, .execution, .sites, .photonics, .fabric, .collectives, .resilience,
        .ring] s t) ∧
  (∀ (m : PairDigestMsg) (sc : Score) (s : State), s.pwr.inReset = false → s.ex.score = some sc →
    tagMatches s m.scoreTag = false →
    ∃ t, exec (.pairDigestReceive m) s = .next t ∧ rg t 0x6050 6 = satAdd (sizeOf_ 0x6050 6) (rg s 0x6050 6) 1 ∧
      regsExcept [(0x6050, 6)] s t ∧ unchangedExcept [.wires, .registers] s t) ∧
  (∀ (m : PairDigestMsg) (sc : Score) (same : Bool) (s : State), s.pwr.inReset = false → s.ex.score = some sc →
    tagMatches s m.scoreTag = true → (partnerAffine s.regs (ownAffine s)).map (resolved s) = some m.src →
    s.ex.step.phase = .waitingPartner → m.round = roundOf s → m.replays = s.ex.step.replays →
    same = decide (m.digest.toNat = rg s 0x8020 3) →
    ∃ t, exec (.pairDigestReceive m) s = .next t ∧ rg t 0x8020 4 = m.digest.toNat ∧
      t.ex.step.phase = .reducing ∧ t.res.partner = none ∧
      rg t 0x8030 10 = (if same then rg s 0x8030 10 else satAdd (sizeOf_ 0x8030 10) (rg s 0x8030 10) 1) ∧
      rg t 0x8030 6 = (if same then rg s 0x8030 6 else satAdd (sizeOf_ 0x8030 6) (rg s 0x8030 6) 1) ∧
      t.ex.step.ownWord = (if same then s.ex.step.ownWord else forceVoid s.ex.step.ownWord) ∧ stepId t = stepId s ∧
      unchangedExcept [.wires, .registers, .execution, .photonics, .fabric, .collectives, .resilience, .ring] s t) ∧
  (∀ (m : PairDigestMsg) (sc : Score) (s : State), s.pwr.inReset = false → s.ex.score = some sc →
    tagMatches s m.scoreTag = true → (partnerAffine s.regs (ownAffine s)).map (resolved s) = some m.src →
    ¬ (s.ex.step.phase = .waitingPartner ∧ m.round = roundOf s ∧ m.replays = s.ex.step.replays) →
    exec (.pairDigestReceive m) s =
      .next { s with sent := [], res := { s.res with partner := some (m.round, m.replays, m.digest) } })

/-- The verdict reduction has the job-wide word w, and neither a hold nor a proof replay stands in the way. -/
structure Sys2Proof.Reduced (w : W64) (sc : Score) (s : State) : Prop where
  score : s.ex.score = some sc
  works : stepWorks s = true
  phase : s.ex.step.phase = .reducing
  word : pralResult s (verdictColl sc) = some w
  noReplay : s.res.proofArmed = none
  noHold : s.ex.step.heldFrom = none
  taken : s.ex.step.rejected = false

/-- What an applied verdict of R150 leaves: the step is the same step, its word known, its outcome applied and its commit
token sent; memory, cores and the device state are untouched. -/
structure Sys2Proof.Applied (w : W64) (v : Verdict) (s t : State) : Prop where
  word : t.ex.step.jobWord = w
  step : stepId t = stepId s
  outcome : t.ex.step.outcome = some v
  phase : t.ex.step.phase = .applied
  commit : t.ex.step.commit = some (v == .commit)
  token : Output.commit (v == .commit) ∈ t.sent
  frame : unchangedExcept [.wires, .registers, .execution, .fabric, .collectives, .resilience, .ring] s t

/-- VERDICT_REDUCTION_COMPLETE (R150, R153 to R155): the job-wide word decides. Commit and skip are applied at once when
no hold and no proof replay stands: the commit token goes out, the scale state makes its transition and a skip is counted
in 0xC002:01; a void is counted in 0xC002:02, changes no scale state and holds the module at the boundary; a replay opens
the step again and is counted in 0xC002:03 (R356). LOSS_REDUCTION_COMPLETE (R160): the loss is the low 32 bits of the
reduced word and is final; it is in memory at its destination, where one is named, and no other byte has changed; the
loss collective is complete and counted. SECURING_TRANSFER (R363): at a secure step, with its crumbs, glazed
collectives and loss done, the step is secured once. With no region to secure the record of 64 bytes goes to each holder,
counted in 0x8030:02. No outcome changes. -/
def Obligations.TheVerdictIsAppliedAndSecured : Prop :=
  (∀ (w : W64) (sc : Score) (s : State), Reduced w sc s → decide150 w = .commit →
    ∃ t, exec .verdictReductionComplete s = .next t ∧ Applied w .commit s t ∧
      t.ex.scale = scaleAfter (rg s 0x3040 3) (rg s 0x3040 4) (rg s 0x3040 2) .commit s.ex.scale ∧
      rg t 0xC002 1 = rg s 0xC002 1 ∧ rg t 0xC002 2 = rg s 0xC002 2) ∧
  (∀ (w : W64) (x : ScaleState) (sc : Score) (s : State), Reduced w sc s → decide150 w = .skip →
    x = scaleAfter (rg s 0x3040 3) (rg s 0x3040 4) (rg s 0x3040 2) .skip s.ex.scale →
    ∃ t, exec .verdictReductionComplete s = .next t ∧ Applied w .skip s t ∧
      t.ex.scale = { x with f := if rg s 0x3040 5 ≤ x.f then 0 else x.f } ∧
      (rg s 0x3040 5 ≤ x.f → t.ex.step.holdAtBoundary = true) ∧
      rg t 0xC002 1 = satAdd (sizeOf_ 0xC002 1) (rg s 0xC002 1) 1 ∧ rg t 0xC002 2 = rg s 0xC002 2) ∧
  (∀ (w : W64) (sc : Score) (s : State), Reduced w sc s → decide150 w = .void →
    ∃ t, exec .verdictReductionComplete s = .next t ∧ Applied w .void s t ∧
      t.ex.scale = s.ex.scale ∧ t.ex.step.holdAtBoundary = true ∧
      rg t 0xC002 1 = rg s 0xC002 1 ∧ rg t 0xC002 2 = satAdd (sizeOf_ 0xC002 2) (rg s 0xC002 2) 1) ∧
  (∀ (w : W64) (sc : Score) (s : State), Reduced w sc s → decide150 w = .replay →
    ∃ t, exec .verdictReductionComplete s = .next t ∧ t.ex.step.phase = .open ∧
      t.ex.step.replays = s.ex.step.replays + 1 ∧ t.ex.step.outcome = s.ex.step.outcome ∧
      rg t 0xC002 3 = satAdd (sizeOf_ 0xC002 3) (rg s 0xC002 3) 1 ∧ stepId t = stepId s ∧ t.dev = s.dev) ∧
  (∀ (w : W64) (n : Nat) (x : CollCtx) (sc : Score) (s : State), s.ex.score = some sc → s.canonical →
    stepWorks s = true → s.ex.step.loss = none → sc.colls.findIdx? (fun c => c.kind == 4) = some n →
    pralResult s n = some w → collCtx sc s n = some x →
    ∃ t, exec .lossReductionComplete s = .next t ∧ t.ex.step.loss = some (w.setWidth 32) ∧
      (runOf t n).complete = true ∧ (∀ k, k ≠ n → runOf t k = runOf s k) ∧
      rg t 0x7020 1 = satAdd (sizeOf_ 0x7020 1) (rg s 0x7020 1) 1 ∧ stepId t = stepId s ∧
      (∀ a, byteAt t a = if x.c.dst.isSome ∧ dstAddr x ≤ a ∧ a < dstAddr x + 4
        then (leBytes 4 (w.toNat % 2 ^ 32)).getD (a - dstAddr x) 0 else byteAt s a) ∧
      unchangedExcept [.wires, .freeCounter, .device, .registers, .execution, .memory, .collectives, .resilience, .ring]
        s t) ∧
  (∀ (sc : Score) (s : State), s.ex.score = some sc → stepWorks s = true → s.ex.step.phase = .applied →
    s.ex.step.lossSent = true → s.ex.step.secured = false → securesNow s = true →
    (∀ p ∈ sc.crumbs.zipIdx, p.1.gated = true → crumbDone sc s p.2 p.1 = true) →
    (∀ g ∈ glazedOf sc s.regs, collDone s g.2.1 = true) →
    ∃ t, exec .securingTransfer s = .next t ∧ t.ex.step.secured = true ∧ t.ex.step.outcome = some .commit ∧
      stepId t = stepId s ∧ t.ex.scale = s.ex.scale ∧
      (regionsOf s.regs = [] → glazedOf sc s.regs ≠ [] →
        rg t 0x8030 2 = satAdd (sizeOf_ 0x8030 2) (rg s 0x8030 2) (64 * rg s 0x8000 2)) ∧
      unchangedExcept [.wires, .freeCounter, .registers, .execution, .memory, .fabric, .ring] s t) ∧
  (∀ s : State, s.ex.step.secured = true → exec .securingTransfer s = .next { s with sent := [] })

/-! ## Collectives -/

/-- COLLECTIVE_LAUNCH (R326, R327): a collective that may start starts its run; a commit-gated one of a step that does
not commit retires and moves no data. In a group of one member the region collective is complete at once: its
destination holds its source's elements, and no other byte has changed. COLLECTIVE_CHUNK: every chunk is counted in
0x7020:02. One of the next step is held until it starts and counted in 0x7020:04 (R337); a good one of a started
collective's stage is used at once where neither order nor a top-k merge holds it: added to the destination in a reduce
stage, written there in a gather stage (R330, R334), and no other byte changes. -/
def Obligations.CollectivesStartAndTakeTheirChunks : Prop :=
  (∀ (n : Nat) (x : CollCtx) (sc : Score) (s : State), s.ex.score = some sc → stepWorks s = true → s.ring.clock = true →
    collCtx sc s n = some x → gated s (20 + x.c.engine) = false → mayLaunch sc s n x.c = true →
    x.c.gated = true → s.ex.step.commit = some false →
    ∃ t, exec (.collectiveLaunch n) s = .next t ∧ (runOf t n).retired = true ∧ (runOf t n).started = false ∧
      (∀ k, k ≠ n → runOf t k = runOf s k) ∧ stepId t = stepId s ∧
      unchangedExcept [.wires, .registers, .execution, .fabric, .collectives] s t) ∧
  (∀ (n : Nat) (x : CollCtx) (sc : Score) (s : State), s.ex.score = some sc → s.canonical → stepWorks s = true →
    s.ring.clock = true → collCtx sc s n = some x → gated s (20 + x.c.engine) = false → mayLaunch sc s n x.c = true →
    ¬ (x.c.gated = true ∧ s.ex.step.commit = some false) → pralineTurn sc s n x.c = true → collOpen s x = true →
    ∃ t, exec (.collectiveLaunch n) s = .next t ∧ (runOf t n).started = true ∧ stepId t = stepId s ∧
      (x.sts = [] → onPraline x.c = false → x.c.kind = 0 → s.ex.ordered = false → s.res.restore = none →
        (runOf t n).complete = true ∧ (runOf t n).examined = true ∧
        (∀ a, byteAt t a = if dstAddr x ≤ a ∧ a < dstAddr x + x.e * x.esize
          then byteAt s (srcAddr x + (a - dstAddr x)) else byteAt s a) ∧
        rg t 0x7020 1 = satAdd (sizeOf_ 0x7020 1) (rg s 0x7020 1) 1) ∧
      unchangedExcept [.wires, .freeCounter, .registers, .execution, .memory, .photonics, .fabric, .collectives,
        .resilience, .ring] s t) ∧
  (∀ (c : Chunk) (sc : Score) (s : State), s.pwr.inReset = false → s.ring.clock = true → s.ex.score = some sc →
    ((s.ex.step.running || s.res.restore.isSome) && c.round == roundOf s) = false →
    c.round = s.ex.nextStep % 64 → c.subtype ≠ 3 →
    ∃ t, exec (.collectiveChunk c) s = .next t ∧
      t.col = { s.col with early := s.col.early ++ [{ chunk := c, owed := true, failed := !crcGood c }] } ∧
      rg t 0x7020 2 = satAdd (sizeOf_ 0x7020 2) (rg s 0x7020 2) 1 ∧
      rg t 0x7020 4 = satAdd (sizeOf_ 0x7020 4) (rg s 0x7020 4) 1 ∧ regsExcept [(0x7020, 2), (0x7020, 4)] s t ∧
      unchangedExcept [.wires, .registers, .collectives] s t) ∧
  (∀ (c : Chunk) (x : CollCtx) (a : Nat) (b : Bytes) (sc : Score) (s : State), s.pwr.inReset = false →
    s.canonical → s.ring.clock = true → s.ex.score = some sc →
    ((s.ex.step.running || s.res.restore.isSome) && c.round == roundOf s) = true → c.subtype ≠ 3 → crcGood c = true →
    collCtx sc s c.coll = some x → (runOf s c.coll).started = true → (runOf s c.coll).complete = false →
    (runOf s c.coll).retired = false → (runOf s c.coll).stage = c.stage → collOpen s x = true →
    chunkFits x s c = true → x.c.kind ≠ 6 → ¬ (c.stage < 5 ∧ inOrder s x = true) →
    stageDone x (noteReceived c.coll c s) = false → a = dstAddr x + c.offset →
    b = (if 5 ≤ c.stage then c.data else reduceBytes x.c.format x.c.op x.esize (bytesAt s a c.data.length) c.data) →
    ∃ t, exec (.collectiveChunk c) s = .next t ∧
      rg t 0x7020 2 = satAdd (sizeOf_ 0x7020 2) (rg s 0x7020 2) 1 ∧
      runOf t c.coll = { runOf s c.coll with
        recv := (runOf s c.coll).recv ++ [(c.stage, c.src, c.offset, c.data.length)] } ∧
      (∀ k, k ≠ c.coll → runOf t k = runOf s k) ∧
      (∀ y, byteAt t y = if a ≤ y ∧ y < a + b.length then b.getD (y - a) 0 else byteAt s y) ∧
      unchangedExcept [.wires, .freeCounter, .registers, .memory, .fabric, .collectives] s t)

/-- The key under which a word of the praline lane is opened: its reduction's, or that of its round (R457). -/
def Sys2Proof.wordKey (s : State) (f : PralFields) : W256 :=
  match pralOf s f.group f.seq f.round with
  | some r => r.key
  | none => roundKey s f.round

/-- PRALINE_WORD: one whose tag fails is counted in 0x7020:07 and used for nothing (R345); one of a reduction not yet
started here is kept, in clear, when its round is this one or the next (R348); one of a reduction in flight is held in it
(R347). PRALINE_REPEAT, 1 us after the last send, sends stage 0's word again to each peer that has not heard it, counted
in 0x7020:06 (R346). -/
def Obligations.PralineWordsAreHeldAndRepeated : Prop :=
  (∀ (w : Praline) (sc : Score) (s : State), s.ex.score = some sc → pralWorks s = true → w.byParcel = false →
    (pralFields w.word).op ≠ 0 → openPral (wordKey s (pralFields w.word)) w.src w.word = none →
    ∃ t, exec (.pralineWord w) s = .next t ∧ rg t 0x7020 7 = satAdd (sizeOf_ 0x7020 7) (rg s 0x7020 7) 1 ∧
      t.col.praline = s.col.praline ∧ t.col.earlyPraline = s.col.earlyPraline) ∧
  (∀ (w : Praline) (g : PralFields) (sc : Score) (s : State), s.ex.score = some sc → pralWorks s = true →
    w.byParcel = false → (pralFields w.word).op ≠ 0 →
    openPral (wordKey s (pralFields w.word)) w.src w.word = some g → pralOf s g.group g.seq g.round = none →
    g.round = s.ex.nextStep % 64 →
    ∃ t, exec (.pralineWord w) s = .next t ∧ t.col.earlyPraline = s.col.earlyPraline ++ [(w.src, g)] ∧
      t.col.praline = s.col.praline) ∧
  (∀ (w : Praline) (g : PralFields) (r : PralRun) (p : Nat × Nat) (sc : Score) (s : State), s.ex.score = some sc →
    pralWorks s = true → w.byParcel = false → (pralFields w.word).op ≠ 0 →
    openPral (wordKey s (pralFields w.word)) w.src w.word = some g → pralOf s g.group g.seq g.round = some r →
    (pralPeers s r g.stage).find? (fun p => resolved s p.2 == w.src) = some p →
    (∀ x ∈ r.words, ¬ (x.1 = g.stage ∧ x.2.1 = p.2)) →
    ∃ t y, exec (.pralineWord w) s = .next t ∧ t.dev = s.dev ∧ stepId t = stepId s ∧
      pralOf t g.group g.seq g.round = some y ∧ (g.stage, p.2, g.value) ∈ y.words ∧ y.coll = r.coll) ∧
  (∀ (r : PralRun) (p : Nat × Nat) (s : State), pralWorks s = true → s.col.praline = [r] → r.stage = 0 →
    s.col.sends = [] → p ∈ pralPeers s r 0 → (at_ 0 0 r.heardUs).testBit (digit (pralDim s r 0) p.2) = false →
    ∃ t, exec .pralineRepeat s = .next t ∧ t.col.praline = [{ r with turn := r.turn + 1 }] ∧
      rg t 0x7020 6 = satAdd (sizeOf_ 0x7020 6) (rg s 0x7020 6)
        ((pralPeers s r 0).filter (fun p => !(at_ 0 0 r.heardUs).testBit (digit (pralDim s r 0) p.2))).length ∧
      unchangedExcept [.wires, .registers, .photonics, .fabric, .collectives] s t)

/-! ## Memory: responses, HBM, generators -/

/-- An entry is of a requester's tag, for a write or a read. -/
def Sys2Proof.isFor (die ep tag : Nat) (write : Bool) (d e t : Nat) (w : Bool) : Prop := d = die ∧ e = ep ∧ t = tag ∧ w = write

/-- What is answered is waited for no more. MEMORY_READ_RESPONSE, the next of its stream (R29), drops the read it
answers, and poisoned data received for a step before its verdict point sets the step's error flag (R226);
WRITE_ACKNOWLEDGEMENT drops the write, and the last acknowledgement of the invalidations of another unit's write sends
that write's own (R208). Every byte of memory reads as before. An answer that is not due changes nothing. -/
def Obligations.AnswersEndTheirRequests : Prop :=
  (∀ (die ep tag : Nat) (data : Bytes) (poison : Bool) (a : Answer) (o : Outstanding) (s : State),
    answerDue s die ep tag false = some a →
    s.mem.outstanding.find? (fun x => x.die == die && x.ep == ep && x.tag == tag && !x.write) = some o →
    ∃ t, exec (.memoryReadResponse die ep tag data poison) s = .next t ∧
      (∀ x, x ∈ t.mem.outstanding ↔ x ∈ s.mem.outstanding ∧ ¬ isFor die ep tag false x.die x.ep x.tag x.write) ∧
      (∀ x, x ∈ t.mem.answers ↔ x ∈ s.mem.answers ∧ ¬ isFor die ep tag false x.die x.ep x.tag x.write) ∧
      (∀ a, byteAt t a = byteAt s a) ∧ (poison = false → unchangedExcept [.wires, .memory] s t) ∧
      (poison = true → o.step = true → s.ex.step.running = true → s.ex.step.phase = .open →
        t.ex.step.dataErr = s.ex.step.dataErr.or (some 0x03200005)) ∧ stepId t = stepId s ∧
      unchangedExcept [.wires, .registers, .execution, .memory, .ring] s t) ∧
  (∀ (die ep tag addr : Nat) (a : Answer) (s : State), answerDue s die ep tag true = some a →
    ∃ t, exec (.writeAcknowledgement die ep tag false addr) s = .next t ∧
      (∀ x, x ∈ t.mem.outstanding ↔ x ∈ s.mem.outstanding ∧ ¬ isFor die ep tag true x.die x.ep x.tag x.write) ∧
      (∀ x, x ∈ t.mem.answers ↔ x ∈ s.mem.answers ∧ ¬ isFor die ep tag true x.die x.ep x.tag x.write) ∧
      (∀ a, byteAt t a = byteAt s a) ∧ unchangedExcept [.wires, .memory] s t) ∧
  (∀ (die ep tag addr : Nat) (w : WaitingWrite) (s : State), s.mem.invWait = [w] → w.line = addr / 256 →
    w.dies = [die - 4] →
    ∃ t, exec (.writeAcknowledgement die ep tag true addr) s = .next t ∧ t.mem.invWait = [] ∧
      t.sent = (if w.own then [] else [.writeAck w.die w.ep w.tag]) ∧ (∀ a, byteAt t a = byteAt s a) ∧
      unchangedExcept [.wires, .memory] s t) ∧
  (∀ (die ep tag addr : Nat) (data : Bytes) (poison : Bool) (s : State),
    (answerDue s die ep tag false = none →
      exec (.memoryReadResponse die ep tag data poison) s = .next { s with sent := [] }) ∧
    (answerDue s die ep tag true = none →
      exec (.writeAcknowledgement die ep tag false addr) s = .next { s with sent := [] }))

/-- HBM between accesses. HBM_REFRESH keeps its time and its bank (R202); HBM_TEMPERATURE_READOUT of the 20 temperatures
sets each stack's temperature and refresh multiplier, with the hysteresis of R224; PATROL_SCRUB, once an interval, is
counted in 0x4030:02, its corrected findings in 0x4020:01 and its uncorrectable ones in 0x4020:02, whose sectors are
poisoned (R227). Every byte of memory reads as before. HBM_TRAINING_COMPLETE (R222, R223), with no quadrant link still
training: every stack without a failure beyond repair is ready and, when all are, memory is trained and 0x4000:04 reads
1; a lane group with two failed lanes leaves its stack failed and the module FAULTED with cause 0x0320_0003. -/
def Obligations.StacksAreTrainedReadAndScrubbed : Prop :=
  (∀ (stack bank : Nat) (s : State), stack < 20 → s.pwr.cur ≠ .stow → (stackOf s stack).state ≠ 4 → s.ring.clock = true →
    ∃ t, exec (.hbmRefresh stack bank) s = .next t ∧
      stackOf t stack = { stackOf s stack with lastRefresh := s.pwr.time, nextBank := (bank + 1) % 32 } ∧
      (∀ k, k ≠ stack → stackOf t k = stackOf s k) ∧ (∀ a, byteAt t a = byteAt s a) ∧
      unchangedExcept [.wires, .memory] s t) ∧
  (∀ (temps : List Nat) (s : State), temps.length = 20 → s.pwr.cur ≠ .stow →
    ∃ t, exec (.hbmTemperatureReadout temps) s = .next t ∧
      (∀ k (h : k < temps.length), stackOf t k = { stackOf s k with
        temp := temps[k], mult := refreshMult (stackOf s k).mult temps[k] }) ∧
      (∀ a, byteAt t a = byteAt s a) ∧ regsExcept [] s t ∧ unchangedExcept [.wires, .registers, .memory, .ring] s t) ∧
  (∀ (found : List ScrubFinding) (s : State), s.mem.trained = true → s.mem.scrubbed + scrubInterval s ≤ s.pwr.time →
    rg s 0x4020 1 + found.length < 2 ^ 64 → rg s 0x4020 2 + found.length < 2 ^ 32 →
    ∃ t, exec (.patrolScrub found) s = .next t ∧ t.mem.scrubbed = s.pwr.time ∧
      rg t 0x4030 2 = satAdd (sizeOf_ 0x4030 2) (rg s 0x4030 2) 1 ∧
      rg t 0x4020 1 = rg s 0x4020 1 + (found.filter (fun f => !f.uncorrectable)).length ∧
      rg t 0x4020 2 = rg s 0x4020 2 + (found.filter (fun f => f.uncorrectable)).length ∧
      (∀ k, k ∈ t.mem.poison ↔ k ∈ s.mem.poison ∨ ∃ f ∈ found, f.uncorrectable = true ∧ k = f.stack * 2 ^ 32 + f.sector) ∧
      (∀ a, byteAt t a = byteAt s a) ∧
      regsExcept [(0x4030, 2), (0x4020, 1), (0x4020, 2), (0x4021, 1), (0x4021, 2), (0x4021, 3), (0x4021, 4)] s t ∧
      unchangedExcept [.wires, .registers, .memory, .ring] s t) ∧
  (∀ s : State, (List.range 20).any (fun k => (stackOf s k).state == 1) = true →
    s.links.any (fun l => l.2.state == 1) = false → (∀ k, k < 20 → (stackOf s k).state ≠ 5) →
    (∀ q, q < 4 → hbmPllGood s q = true) →
    (∃ t, exec (.hbmTrainingComplete []) s = .next t ∧ t.mem.trained = true ∧ rg t 0x4000 4 = 1 ∧
      (∀ k, k < 20 → stackOf t k = { stackOf s k with state := 2, lastRefresh := s.pwr.time }) ∧
      (∀ a, byteAt t a = byteAt s a) ∧ regsExcept [(0x4000, 4)] s t ∧ unchangedExcept [.wires, .registers, .memory] s t) ∧
    (∀ f, f.stack < 20 → 2 ≤ f.lanes → s.dev ≠ .faulted →
      ∃ t, exec (.hbmTrainingComplete [f]) s = .next t ∧ (stackOf t f.stack).state = 5 ∧ t.dev = .faulted ∧
        rg t 0x2001 3 = 0x03200003 ∧ t.pwr.moving = false ∧ t.mem.trained = s.mem.trained ∧
        (∀ k, k < 20 → k ≠ f.stack → (stackOf t k).state = 2) ∧
        unchangedExcept [.wires, .device, .registers, .execution, .sites, .siteMap, .memory, .resilience, .ring,
          .security, .power, .test] s t))

/-- A generator request that its checks admit (R229): memory trained, no generator running unless it stops them, the
area free of tenants, its fields in range. -/
structure Sys2Proof.GenAdmitted (op : Nat) (q : Req) (r : Role) (g : GenReq) (s : State) : Prop where
  ready : Ready q r s
  writes : Writable r 0x4010 1 (genBytes op g) s
  trained : s.mem.trained = true
  idle : op ≠ 3 → s.mem.gen = none
  area : g.area = 1 → tenantHere s = false
  reserved : g.reserved = 0
  fields : genFieldsOk g = true

/-- What an admitted generator request leaves when it runs: 0x4010:02 reads 1, and of memory only the generator and the
note of the data written have changed. -/
structure Sys2Proof.GenRuns (op : Nat) (q : Req) (g : GenReq) (s t : State) : Prop where
  answered : Answers q 0 [] t
  logged : Logged q 0x4010 1 t
  runs : t.mem.gen = some ⟨op, g⟩
  result : rg t 0x4010 2 = 1
  bytes : ∀ a, byteAt t a = byteAt s a
  regs : regsExcept [(0x4010, 2)] s t
  frame : unchangedExcept [.wires, .registers, .memory, .ring, .security] s t

/-- Generator requests that pass the checks of R229: GENERATOR_WRITE_READ_CHECK, GENERATOR_WRITE and
GENERATOR_READ_CHECK run, with 0x4010:02 reading 1; GENERATOR_STOP_ALL stops what runs, with 0x4010:02 reading 4.
GENERATOR_COMPLETE (R230): 0x4010:02 reads 2 for a pass without mismatches and 3 with them; a pass that checks adds the
lines and mismatches to 0x4010:03 and :04, and 0x4010:05 holds the first mismatch; a check of lines that do not hold the
pattern fails. The generator is free. -/
def Obligations.GeneratorsRunAndReport : Prop :=
  (∀ (q : Req) (r : Role) (g : GenReq) (s : State), GenAdmitted 0 q r g s →
    ∃ t, exec (.generatorWriteReadCheck q g) s = .next t ∧ GenRuns 0 q g s t) ∧
  (∀ (q : Req) (r : Role) (g : GenReq) (s : State), GenAdmitted 1 q r g s →
    ∃ t, exec (.generatorWrite q g) s = .next t ∧ GenRuns 1 q g s t) ∧
  (∀ (q : Req) (r : Role) (g : GenReq) (s : State), GenAdmitted 2 q r g s →
    ∃ t, exec (.generatorReadCheck q g) s = .next t ∧ GenRuns 2 q g s t) ∧
  (∀ (q : Req) (r : Role) (g : GenReq) (s : State), GenAdmitted 3 q r g s →
    ∃ t, exec (.generatorStopAll q g) s = .next t ∧ Answers q 0 [] t ∧ Logged q 0x4010 1 t ∧ t.mem.gen = none ∧
      rg t 0x4010 2 = (if s.mem.gen.isSome then 4 else rg s 0x4010 2) ∧ regsExcept [(0x4010, 2)] s t ∧
      unchangedExcept [.wires, .registers, .memory, .ring, .security] s t) ∧
  (∀ (symbols : List (Nat × Nat)) (mismatches : Nat) (first : W32) (r : GenRun) (s : State), s.mem.gen = some r →
    r.op = 1 →
    ∃ t, exec (.generatorComplete symbols mismatches first) s = .next t ∧ t.mem.gen = none ∧ rg t 0x4010 2 = 2 ∧
      (r.req.area ≠ 1 → ∀ a, byteAt t a = byteAt s a) ∧
      regsExcept [(0x4010, 2), (0x4021, 1), (0x4021, 2), (0x4021, 3), (0x4021, 4)] s t ∧
      unchangedExcept [.wires, .registers, .memory] s t) ∧
  (∀ (symbols : List (Nat × Nat)) (mismatches bad : Nat) (first : W32) (r : GenRun) (s : State), s.mem.gen = some r →
    r.op ≠ 1 →
    bad = (if (r.op == 0 || r.req.area == 1 || patternThere s r.req) = true then mismatches else max 1 mismatches) →
    ∃ t, exec (.generatorComplete symbols mismatches first) s = .next t ∧ t.mem.gen = none ∧
      rg t 0x4010 2 = (if bad = 0 then 2 else 3) ∧
      rg t 0x4010 3 = satAdd (sizeOf_ 0x4010 3) (rg s 0x4010 3) (linesChecked r) ∧
      rg t 0x4010 4 = satAdd (sizeOf_ 0x4010 4) (rg s 0x4010 4) bad ∧
      rg t 0x4010 5 = (if bad = 0 then rg s 0x4010 5 else first.toNat) ∧
      (r.req.area ≠ 1 → ∀ a, byteAt t a = byteAt s a) ∧
      regsExcept [(0x4010, 2), (0x4010, 3), (0x4010, 4), (0x4010, 5), (0x4021, 1), (0x4021, 2), (0x4021, 3),
        (0x4021, 4)] s t ∧
      unchangedExcept [.wires, .registers, .memory] s t)

/-! ## Links -/

/-- A direction after the acknowledgement and the credit that a unit brings to its sender (R36, R38, R39). -/
def Sys2Proof.ackedDir (f : UnitFields) (now : Nat) (d : QlDir) : QlDir :=
  let a := ackUnits d f.ack now
  let n := min f.creditCount (at_ 0 f.creditClass a.owed)
  { a with credit := set_ 0 f.creditClass (at_ 0 f.creditClass a.credit + n) a.credit
           owed := set_ 0 f.creditClass (at_ 0 f.creditClass a.owed - n) a.owed }

/-- The NAK of a direction for the last unit taken (R39). -/
def Sys2Proof.nakOf (u : QlUnit) (d : QlDir) : Output := .qlNak u.link (!u.up) ((d.expected + 1023) % 1024)

/-- A sender whose buffered units can all be resent (R39, R41). -/
def Sys2Proof.mayResend (d : QlDir) : Prop := d.replay ≠ [] ∧ ∀ x ∈ d.replay, x.2 < 8

/-- A sender of a link has resent its buffered units, each counted in 0x6E01 (R39). -/
structure Sys2Proof.Resent (link : Nat) (up : Bool) (d : QlDir) (s t : State) : Prop where
  sent : t.sent = [.qlResend link up (d.replay.map (fun x => x.1))]
  dir : dirOf (linkOf t link) up = { d with replay := d.replay.map (fun u => (u.1, u.2 + 1)), timer := s.pwr.time }
  count : rg t 0x6E01 link = satAdd (sizeOf_ 0x6E01 link) (rg s 0x6E01 link) d.replay.length
  others : ∀ k, k ≠ link → linkOf t k = linkOf s k
  regs : regsExcept [(0x6E01, link)] s t
  frame : unchangedExcept [.wires, .registers, .links] s t

/-- QL_DATA_UNIT and QL_IDLE_UNIT of a link that is up (R37 to R40). A data unit in order with a good CRC advances its
direction and brings the other direction's sender an acknowledgement and credit; one out of order or with a bad CRC is
discarded with one NAK until the next good unit; a bad packet in a good unit is counted by its die. No other link
changes. QL_NAK_UNIT, in order with a good CRC, makes the other direction's sender resend what it holds, and
QL_REPLAY_TIMEOUT, 1 us without a new acknowledgement, makes a sender resend (R39), each unit counted in 0x6E01; a
unit already resent 8 times sends the link into a retrain, counted in 0x6E02 (R41). Before its time the timeout
changes nothing. -/
def Obligations.LinksTakeAndResendUnits : Prop :=
  (∀ (u : QlUnit) (payload : Bytes) (d : QlDir) (s : State), linkWorks s u.link = true →
    unitFormed u 0 (dirOf (linkOf s u.link) !u.up) = true →
    sendUnit u payload (dirOf (linkOf s u.link) u.up) s.pwr.time = some d →
    unitGood (arrived u payload) d = true →
    (∀ p ∈ (unitPackets d.takeRest (slice (arrived u payload) 4 120)).1, packetOk p = true) →
    ∃ t, exec (.qlDataUnit u payload) s = .next t ∧ t.sent = [] ∧
      (dirOf (linkOf t u.link) u.up).expected = (d.expected + 1) % 1024 ∧
      (dirOf (linkOf t u.link) u.up).nakSent = false ∧ (dirOf (linkOf t u.link) u.up).replay = d.replay ∧
      (dirOf (linkOf t u.link) u.up).next = d.next ∧
      dirOf (linkOf t u.link) (!u.up) =
        ackedDir (unitFields (arrived u payload)) s.pwr.time (dirOf (linkOf s u.link) (!u.up)) ∧
      (∀ k, k ≠ u.link → linkOf t k = linkOf s k) ∧ unchangedExcept [.wires, .links] s t) ∧
  (∀ (u : QlUnit) (payload : Bytes) (d : QlDir) (p : Packet) (die : Nat) (s : State), linkWorks s u.link = true →
    unitFormed u 0 (dirOf (linkOf s u.link) !u.up) = true →
    sendUnit u payload (dirOf (linkOf s u.link) u.up) s.pwr.time = some d →
    unitGood (arrived u payload) d = true →
    (unitPackets d.takeRest (slice (arrived u payload) 4 120)).1 = [p] → packetOk p = false →
    die = (if u.up then (linkDies u.link).2 else (linkDies u.link).1) →
    ∃ t, exec (.qlDataUnit u payload) s = .next t ∧ at_ 0 die t.dieErrors = at_ 0 die s.dieErrors + 1 ∧
      (dirOf (linkOf t u.link) u.up).expected = (d.expected + 1) % 1024 ∧
      regsExcept [] s t ∧ unchangedExcept [.wires, .registers, .links, .dieErrors, .ring] s t) ∧
  (∀ (u : QlUnit) (payload : Bytes) (d : QlDir) (s : State), linkWorks s u.link = true →
    unitFormed u 0 (dirOf (linkOf s u.link) !u.up) = true →
    sendUnit u payload (dirOf (linkOf s u.link) u.up) s.pwr.time = some d →
    unitGood (arrived u payload) d = false → d.nakSent = false →
    ∃ t, exec (.qlDataUnit u payload) s = .next t ∧ t.sent = [nakOf u d] ∧
      dirOf (linkOf t u.link) u.up = { d with nakSent := true } ∧
      dirOf (linkOf t u.link) (!u.up) = dirOf (linkOf s u.link) (!u.up) ∧ unchangedExcept [.wires, .links] s t) ∧
  (∀ (u : QlUnit) (s : State), bareUnit u 1 s = true →
    unitGood (arrived u []) (dirOf (linkOf s u.link) u.up) = true →
    ∃ t, exec (.qlIdleUnit u) s = .next t ∧ t.sent = [] ∧
      dirOf (linkOf t u.link) (!u.up) =
        ackedDir (unitFields (arrived u [])) s.pwr.time (dirOf (linkOf s u.link) (!u.up)) ∧
      dirOf (linkOf t u.link) u.up = { dirOf (linkOf s u.link) u.up with nakSent := false } ∧
      (∀ k, k ≠ u.link → linkOf t k = linkOf s k) ∧ unchangedExcept [.wires, .links] s t) ∧
  (∀ (u : QlUnit) (s : State), bareUnit u 1 s = true →
    unitGood (arrived u []) (dirOf (linkOf s u.link) u.up) = false → (dirOf (linkOf s u.link) u.up).nakSent = false →
    ∃ t, exec (.qlIdleUnit u) s = .next t ∧ t.sent = [nakOf u (dirOf (linkOf s u.link) u.up)] ∧
      dirOf (linkOf t u.link) (!u.up) = dirOf (linkOf s u.link) (!u.up) ∧ unchangedExcept [.wires, .links] s t) ∧
  (∀ (u : QlUnit) (d : QlDir) (s : State), bareUnit u 2 s = true →
    unitGood (arrived u []) (dirOf (linkOf s u.link) u.up) = true →
    d = ackedDir (unitFields (arrived u [])) s.pwr.time (dirOf (linkOf s u.link) (!u.up)) → mayResend d →
    ∃ t, exec (.qlNakUnit u) s = .next t ∧ Resent u.link (!u.up) d s t) ∧
  (∀ (k : Nat) (up : Bool) (s : State), linkWorks s k = true → (dirOf (linkOf s k) up).timer + 1000 ≤ s.pwr.time →
    mayResend (dirOf (linkOf s k) up) →
    ∃ t, exec (.qlReplayTimeout k up) s = .next t ∧ Resent k up (dirOf (linkOf s k) up) s t) ∧
  (∀ (k : Nat) (up : Bool) (recent : List Nat) (s : State), linkWorks s k = true →
    (dirOf (linkOf s k) up).timer + 1000 ≤ s.pwr.time → (∃ x ∈ (dirOf (linkOf s k) up).replay, 8 ≤ x.2) →
    recent = s.pwr.time :: (linkOf s k).recent.filter (fun t => s.pwr.time < t + 1000000000) → recent.length ≤ 16 →
    ∃ t, exec (.qlReplayTimeout k up) s = .next t ∧
      linkOf t k = { linkOf s k with state := 3, retrainAt := s.pwr.time, recent := recent } ∧
      rg t 0x6E02 k = satAdd (sizeOf_ 0x6E02 k) (rg s 0x6E02 k) 1 ∧
      regsExcept [(0x6E02, k)] s t ∧ unchangedExcept [.wires, .registers, .links] s t) ∧
  (∀ (k : Nat) (up : Bool) (s : State), s.pwr.time < (dirOf (linkOf s k) up).timer + 1000 →
    exec (.qlReplayTimeout k up) s = .next { s with sent := [] })

/-- A link's training can end (R41): it trains, or it retrains and its 12 us are not over. -/
def Sys2Proof.trains (k : Nat) (s : State) : Prop :=
  1 ≤ k ∧ k ≤ 6 ∧ s.ring.clock = true ∧ s.pwr.inReset = false ∧
    ((linkOf s k).state = 1 ∨ (linkOf s k).state = 3 ∧ s.pwr.time ≤ (linkOf s k).retrainAt + 12000)

/-- The state after the training of link k has taken the PLL settings of its two PHYs (R429). -/
def Sys2Proof.trainedPll (k : Nat) (s : State) : State := pllTake [(linkDies k).1 + 10, (linkDies k).2 + 10] s

/-- QL_RETRAIN_COMPLETE: a link that trains or retrains comes up with its lanes repaired, without buffered units and
with every receiver's credit to be advertised after the first training, and with them after a retrain (R38, R41); one
beyond its redundant lanes fails, and QL_RETRAIN_TIMEOUT, 12 us without an end, fails it: FAULTED with cause 0x0340_0003
(R42). STACK_PORT_TRANSFER (R31 to R34): credit is spent and returned, corrected code words are counted for the compute
die in 0x6E03, and an uncorrectable word takes the module to FAULTED with cause 0x0340_0002. -/
def Obligations.LinksTrainAndPortsCorrect : Prop :=
  (∀ (k repaired : Nat) (exhausted : BitVec 8) (s : State), trains k s →
    ratiosOk (trainedPll k s) = true → linkPllGood (trainedPll k s) k = true →
    ∃ t, exec (.qlRetrainComplete k repaired exhausted false) s = .next t ∧ (linkOf t k).state = 2 ∧
      (linkOf t k).repaired = repaired ∧ (linkOf t k).exhausted = exhausted ∧
      ((linkOf s k).state = 1 → (linkOf t k).up = freshDir ∧ (linkOf t k).down = freshDir) ∧
      ((linkOf s k).state = 3 → (linkOf t k).up.replay.map (fun x => x.1) = (linkOf s k).up.replay.map (fun x => x.1) ∧
        (linkOf t k).down.replay.map (fun x => x.1) = (linkOf s k).down.replay.map (fun x => x.1)) ∧
      (∀ j, j ≠ k → linkOf t j = linkOf s j) ∧ t.pwr = (trainedPll k s).pwr ∧ regsExcept [(0x6E01, k)] s t ∧
      unchangedExcept [.wires, .registers, .links, .power] s t) ∧
  (∀ (k repaired : Nat) (exhausted : BitVec 8) (s : State), trains k s → ratiosOk (trainedPll k s) = true →
    s.dev ≠ .faulted →
    ∃ t, exec (.qlRetrainComplete k repaired exhausted true) s = .next t ∧ (linkOf t k).state = 4 ∧ t.dev = .faulted ∧
      rg t 0x2001 3 = 0x03400003) ∧
  (∀ (k : Nat) (s : State), 1 ≤ k → k ≤ 6 → s.pwr.inReset = false → ((linkOf s k).state = 1 ∨ (linkOf s k).state = 3) →
    s.dev ≠ .faulted → (linkOf s k).retrainAt + 12000 ≤ s.pwr.time →
    ∃ t, exec (.qlRetrainTimeout k) s = .next t ∧ (linkOf t k).state = 4 ∧ t.dev = .faulted ∧
      rg t 0x2001 3 = 0x03400003 ∧ (∀ j, j ≠ k → linkOf t j = linkOf s j)) ∧
  (∀ (k : Nat) (s : State), s.pwr.time < (linkOf s k).retrainAt + 12000 →
    exec (.qlRetrainTimeout k) s = .next { s with sent := [] }) ∧
  (∀ (cd port : Nat) (toBase : Bool) (errs : List Nat) (x : StackTransfer) (s : State), cd < 12 → port < 8 →
    railsOn s = true → gated s cd = false → x.data.length = 256 → x.errs = errs →
    canTransfer (stackDir s cd port toBase) (stackDir s cd port !toBase) x = true → (∀ k, k < 16 → wordErrs x k ≤ 1) →
    (∀ p ∈ (packetsIn 16 (stackDir s cd port toBase).takeRest x.data).1, packetOk p = true) →
    ∃ t, exec (.stackPortTransfer cd port toBase x.data errs (x.creditClass, x.creditCount)) s = .next t ∧
      rg t 0x6E03 (cd + 1) = satAdd (sizeOf_ 0x6E03 (cd + 1)) (rg s 0x6E03 (cd + 1))
        ((List.range 16).filter (fun k => wordErrs x k == 1)).length ∧
      (∀ c, c < 5 → at_ 0 c (stackDir t cd port toBase).spent =
        at_ 0 c (stackDir s cd port toBase).spent + classNeed (stackSent (stackDir s cd port toBase) x).1 c) ∧
      stackDir t cd port (!toBase) = returnStack x.creditClass x.creditCount (stackDir s cd port !toBase) ∧
      regsExcept [(0x6E03, cd + 1)] s t ∧ unchangedExcept [.wires, .freeCounter, .registers, .memory] s t) ∧
  (∀ (cd port : Nat) (toBase : Bool) (x : StackTransfer) (k : Nat) (s : State), cd < 12 → port < 8 →
    railsOn s = true → x.data.length = 256 → s.dev ≠ .faulted →
    canTransfer (stackDir s cd port toBase) (stackDir s cd port !toBase) x = true → k < 16 → wordErrs x k = 2 →
    ∃ t, exec (.stackPortTransfer cd port toBase x.data x.errs (x.creditClass, x.creditCount)) s = .next t ∧
      t.dev = .faulted ∧ rg t 0x2001 3 = 0x03400002 ∧ t.links = s.links)

/-! ## Leases, parcels and flits -/

/-- No outbound context has parcels that wait for lease credit. -/
def Sys2Proof.noneWaits (s : State) : Prop := ∀ c ∈ s.fab.out, c.queue = []

/-- A peer has become silent (R247, R248): the expiry is counted in 0x6C00:04, every context with the peer is closed,
and the parcels that waited for it are discarded and counted in 0x6C00:05. -/
structure Sys2Proof.Silenced (peer : Nat) (s t : State) : Prop where
  silent : isSilent t peer = true
  out : t.fab.out = s.fab.out.filter (fun c => resolved s c.peer ≠ peer)
  inn : t.fab.inn = s.fab.inn.filter (fun c => resolved s c.peer ≠ peer)
  expiries : rg t 0x6C00 4 = satAdd (sizeOf_ 0x6C00 4) (rg s 0x6C00 4) 1
  lost : ∀ n, n = (s.fab.out.filter (fun c => resolved s c.peer == peer)).foldl (fun n c => n + c.queue.length) 0
      + waitingParcels (ownFor s peer) s → 0 < n → rg t 0x6C00 5 = satAdd (sizeOf_ 0x6C00 5) (rg s 0x6C00 5) n
  regs : regsExcept [(0x6C00, 4), (0x6C00, 5)] s t
  frame : unchangedExcept [.wires, .registers, .photonics, .fabric, .ring] s t

/-- Lease messages with this module's score tag (R243 to R245, R305). A grant gives the context its lease, whose expiry
counts from its arrival less 80 us; an acknowledgement moves the expiry to the renewal's sending and a term; a return
gives granules back; a renewal before the lease expires moves the issuer's expiry by a term from now, afterwards it is
ignored. A message with another tag is counted in 0x6050:06 and changes no lease. A renewal is sent each quarter term
and numbered. A lease that expires, at its issuer or its holder, makes the peer silent (R246 to R248); an expiry for a
peer already silent is only counted. -/
def Obligations.LeasesLiveAndExpire : Prop :=
  (∀ (m : LeaseMsg) (s : State), routerWorks s = true → tagMatches s m.scoreTag = true → noneWaits s →
    exec (.leaseGrant m) s = .next { s with sent := [], fab := { s.fab with out := s.fab.out.map (fun c =>
      if isOut s m.peer m.ctx c then { c with leases := c.leases.filter (fun x => x.num ≠ m.lease) ++ [{
        num := m.lease, granules := m.count, term := m.term, expiry := some (s.pwr.time + 1000 * m.term - 80000)
        nextRenew := s.pwr.time + 250 * m.term }] } else c) } }) ∧
  (∀ (m : LeaseMsg) (s : State), routerWorks s = true → tagMatches s m.scoreTag = true →
    (∃ c ∈ s.fab.out, isOut s m.peer m.ctx c = true) →
    ∃ t x, exec (.leaseGrant m) s = .next t ∧ outLease t m.peer m.ctx m.lease = some x ∧ x.granules = m.count ∧
      x.term = m.term ∧ x.expiry = some (s.pwr.time + 1000 * m.term - 80000) ∧ unchangedExcept [.wires, .fabric] s t) ∧
  (∀ (m : LeaseMsg) (l : Lease) (sentAt : Nat) (s : State), routerWorks s = true → tagMatches s m.scoreTag = true →
    outLease s m.peer m.ctx m.lease = some l → l.sent.find? (fun x => x.1 == m.count) = some (m.count, sentAt) →
    ∃ t x, exec (.renewalAcknowledgement m) s = .next t ∧ outLease t m.peer m.ctx m.lease = some x ∧
      x.expiry = some (sentAt + 1000 * l.term) ∧ x.granules = l.granules ∧ (noneWaits s → x.spent = l.spent) ∧
      unchangedExcept [.wires, .fabric] s t) ∧
  (∀ (m : LeaseMsg) (s : State), routerWorks s = true → tagMatches s m.scoreTag = true → noneWaits s → s.col.runs = [] →
    exec (.granuleReturn m) s = .next { s with sent := [], fab := { s.fab with out := s.fab.out.map (fun c =>
      if isOut s m.peer m.ctx c then { c with
        returned := c.returned + m.count
        leases := c.leases.map (fun x => if x.num = m.lease then { x with spent := x.spent - m.count } else x) }
      else c) } }) ∧
  (∀ (m : LeaseMsg) (l : Lease) (s : State), routerWorks s = true → tagMatches s m.scoreTag = true →
    inLease s m.peer m.ctx m.lease = some l → expired s.pwr.time l = false →
    ∃ t, exec (.leaseRenewal m) s = .next t ∧
      inLease t m.peer m.ctx m.lease = some { l with expiry := some (s.pwr.time + 1000 * l.term) } ∧
      regsExcept [(0x6050, 6), (0x6C00, 5)] s t ∧ unchangedExcept [.wires, .registers, .fabric] s t) ∧
  (∀ (m : LeaseMsg) (l : Lease) (s : State), routerWorks s = true → tagMatches s m.scoreTag = true →
    inLease s m.peer m.ctx m.lease = some l → expired s.pwr.time l = true →
    exec (.leaseRenewal m) s = .next { s with sent := [] }) ∧
  (∀ (m : LeaseMsg) (i : Instr) (s : State), routerWorks s = true → tagMatches s m.scoreTag = false →
    i ∈ [Instr.leaseGrant m, .renewalAcknowledgement m, .granuleReturn m, .leaseRenewal m] →
    ∃ t, exec i s = .next t ∧ rg t 0x6050 6 = satAdd (sizeOf_ 0x6050 6) (rg s 0x6050 6) 1 ∧
      regsExcept [(0x6050, 6)] s t ∧ unchangedExcept [.wires, .registers] s t) ∧
  (∀ (peer ctx lease : Nat) (l : Lease) (s : State), routerWorks s = true → outLease s peer ctx lease = some l →
    l.nextRenew ≤ s.pwr.time →
    ∃ t, exec (.leaseRenewalDue peer ctx lease) s = .next t ∧ outLease t peer ctx lease =
        some { l with renewNo := (l.renewNo + 1) % 65536, nextRenew := l.nextRenew + 250 * l.term } ∧
      regsExcept [(0x6050, 6), (0x6C00, 5)] s t ∧ unchangedExcept [.wires, .registers, .fabric] s t) ∧
  (∀ (peer ctx lease : Nat) (l : Lease) (s : State), outLease s peer ctx lease = some l → s.pwr.time < l.nextRenew →
    exec (.leaseRenewalDue peer ctx lease) s = .next { s with sent := [] }) ∧
  (∀ (peer ctx lease : Nat) (l : Lease) (s : State), s.pwr.inReset = false → s.res.pulls = [] → s.res.repairs = [] →
    isSilent s peer = false → outLease s peer ctx lease = some l → expired s.pwr.time l = true →
    ∃ t, exec (.holderLeaseExpiry peer ctx lease) s = .next t ∧ Silenced peer s t) ∧
  (∀ (ctx lease peer : Nat) (c : InCtx) (s : State), s.pwr.inReset = false → s.res.pulls = [] → s.res.repairs = [] →
    s.fab.inn.find? (fun c => c.num == ctx && c.stream != .control
      && c.leases.any (fun l => l.num == lease && expired s.pwr.time l)) = some c →
    peer = resolved s c.peer → isSilent s peer = false →
    ∃ t, exec (.issuerLeaseExpiry ctx lease) s = .next t ∧ Silenced peer s t ∧ (peer, ctx) ∈ t.fab.reclaimed) ∧
  (∀ (peer ctx lease : Nat) (x : LateLease) (s : State), s.pwr.inReset = false → outLease s peer ctx lease = none →
    s.fab.late.find? (fun x => x.peer == peer && lateExpired s true ctx lease x) = some x →
    ∃ t, exec (.holderLeaseExpiry peer ctx lease) s = .next t ∧ t.fab = { s.fab with late := s.fab.late.erase x } ∧
      rg t 0x6C00 4 = satAdd (sizeOf_ 0x6C00 4) (rg s 0x6C00 4) 1 ∧ regsExcept [(0x6C00, 4)] s t ∧
      unchangedExcept [.wires, .registers, .fabric] s t)

/-- TOKEN_INCREMENT_PARCEL of the running round adds to its token's counter as a token packet does (R62), and one of the
next step is held for it. PARCEL_FORWARD (R293 to R299): the first parcel of a class arrives where this module is its
destination; leaves on an in-service plane with credit, counted once as relayed (0x6050:05) and as taken by an exception
(0x6050:09); waits with its hop decided where no plane leads on, which one event reports; or is dropped and counted in
0x6050:06. PARCEL_DELIVERY (R306 to R309): the first parcel that has arrived is counted in 0x6050:07 where its tag fails,
in 0x6050:06 where no context of its source takes it, or by its flits in 0x6C00:06 where the lease was reclaimed, and in
0x6050:08 where it is a duplicate, each without effect on the step; a control parcel seen first acts as the command of
its kind. -/
def Obligations.ParcelsReachTheirEffect : Prop :=
  (∀ (m : TokenMsg) (sc : Score) (d : TokDecl) (s : State), routerWorks s = true → s.ex.score = some sc →
    tagMatches s m.scoreTag = true → sc.tokens.find? (fun x => x.id == m.token) = some d →
    s.ex.step.running = true → m.round = roundOf s →
    ∃ t, exec (.tokenIncrementParcel m) s = .next t ∧
      tokenCount t m.token = min (tokenCount s m.token + m.count) d.final ∧
      (d.final < tokenCount s m.token + m.count → rg t 0x2012 6 = satAdd (sizeOf_ 0x2012 6) (rg s 0x2012 6) 1) ∧
      (tokenCount s m.token + m.count ≤ d.final → rg t 0x2012 6 = rg s 0x2012 6) ∧
      (∀ k, k ≠ m.token → tokenCount t k = tokenCount s k) ∧ stepId t = stepId s ∧
      regsExcept [(0x2012, 6)] s t ∧ unchangedExcept [.wires, .registers, .execution] s t) ∧
  (∀ (m : TokenMsg) (s : State), routerWorks s = true → tagMatches s m.scoreTag = true →
    (s.ex.step.running = false ∨ m.round ≠ roundOf s) → m.round = s.ex.nextStep % 64 →
    exec (.tokenIncrementParcel m) s = .next { s with
      sent := [], ex := { s.ex with heldTokens := s.ex.heldTokens ++ [m] } }) ∧
  (∀ (cls : Nat) (x : Carried) (rest : List Carried) (s : State), routerWorks s = true →
    at_ [] cls s.fab.fwd = x :: rest → x.hop = none → routeOf s x.parcel = .deliver →
    exec (.parcelForward cls) s = .next { s with sent := [], fab := { s.fab with
      fwd := set_ [] cls rest s.fab.fwd, arrived := s.fab.arrived ++ [x] } }) ∧
  (∀ (cls : Nat) (x : Carried) (rest : List Carried) (h : Hop) (lane : Nat × Nat) (s : State), routerWorks s = true →
    at_ [] cls s.fab.fwd = x :: rest → (x.hop = some h ∨ x.hop = none ∧ routeOf s x.parcel = .hop h) →
    (rotated (lookup (setDigit h.dim h.digit (nodeAddr s)) s.fab.lastPlane) (planesTo s h.dim h.digit)).find?
      (laneReady s x.parcel h) = some lane →
    ∃ t, exec (.parcelForward cls) s = .next t ∧ at_ [] cls t.fab.fwd = rest ∧ t.fab.arrived = s.fab.arrived ∧
      lookup (setDigit h.dim h.digit (nodeAddr s)) t.fab.lastPlane = some lane.1 ∧ t.pho.rx = s.pho.rx ∧
      (x.counted = false → x.parcel.src ≠ nodeAddr s →
        rg t 0x6050 5 = satAdd (sizeOf_ 0x6050 5) (rg s 0x6050 5) 1) ∧
      ((x.counted = true ∨ x.parcel.src = nodeAddr s) → rg t 0x6050 5 = rg s 0x6050 5) ∧
      (x.counted = false → h.exception = true → rg t 0x6050 9 = satAdd (sizeOf_ 0x6050 9) (rg s 0x6050 9) 1) ∧
      unchangedExcept [.wires, .registers, .photonics, .fabric] s t) ∧
  (∀ (cls : Nat) (x : Carried) (h : Hop) (s : State), routerWorks s = true → at_ [] cls s.fab.fwd = [x] →
    (x.hop = some h ∨ x.hop = none ∧ routeOf s x.parcel = .hop h) → planesTo s h.dim h.digit = [] →
    ∃ t, exec (.parcelForward cls) s = .next t ∧ at_ [] cls t.fab.fwd = [{ x with hop := some h }] ∧
      t.fab.arrived = s.fab.arrived ∧ (h.dim, h.digit) ∈ t.fab.unreachable ∧
      ((h.dim, h.digit) ∈ s.fab.unreachable → t.ring = s.ring) ∧ regsExcept [] s t ∧
      unchangedExcept [.wires, .registers, .fabric, .ring] s t) ∧
  (∀ (cls key value : Nat) (x : Carried) (rest : List Carried) (s : State), routerWorks s = true →
    at_ [] cls s.fab.fwd = x :: rest → x.hop = none → x.paid = none → x.parcel.cls = 1 →
    routeOf s x.parcel = .discard key value →
    ∃ t, exec (.parcelForward cls) s = .next t ∧ at_ [] cls t.fab.fwd = rest ∧ t.fab.arrived = s.fab.arrived ∧
      key ∈ t.fab.unroutable ∧ rg t 0x6050 6 = satAdd (sizeOf_ 0x6050 6) (rg s 0x6050 6) 1 ∧
      (key ∈ s.fab.unroutable → t.ring = s.ring) ∧ regsExcept [(0x6050, 6)] s t ∧
      unchangedExcept [.wires, .registers, .photonics, .fabric, .ring] s t) ∧
  (∀ (x : Carried) (rest : List Carried) (s : State), routerWorks s = true → s.fab.arrived = x :: rest →
    openParcel s.fab.parcelKey x.parcel = none → x.parcel.cls = 1 → 4 ≤ x.parcel.kind →
    ∃ t, exec .parcelDelivery s = .next t ∧ rg t 0x6050 7 = satAdd (sizeOf_ 0x6050 7) (rg s 0x6050 7) 1 ∧
      t.fab.arrived = rest ∧ t.ex = s.ex) ∧
  (∀ (x : Carried) (rest : List Carried) (q : Parcel) (s : State), routerWorks s = true → s.fab.arrived = x :: rest →
    openParcel s.fab.parcelKey x.parcel = some q → contextOf s x.parcel = none →
    ∃ t, exec .parcelDelivery s = .next t ∧ t.fab = { s.fab with arrived := rest } ∧
      ((x.parcel.src, x.parcel.ctx) ∉ s.fab.reclaimed →
        rg t 0x6050 6 = satAdd (sizeOf_ 0x6050 6) (rg s 0x6050 6) 1 ∧ regsExcept [(0x6050, 6)] s t) ∧
      ((x.parcel.src, x.parcel.ctx) ∈ s.fab.reclaimed →
        rg t 0x6C00 6 = satAdd (sizeOf_ 0x6C00 6) (rg s 0x6C00 6) (ceilDiv (48 + x.parcel.len) 236) ∧
        regsExcept [(0x6C00, 6)] s t) ∧
      unchangedExcept [.wires, .registers, .photonics, .fabric] s t) ∧
  (∀ (x : Carried) (rest : List Carried) (q : Parcel) (c : InCtx) (s : State), routerWorks s = true →
    s.fab.arrived = x :: rest → openParcel s.fab.parcelKey x.parcel = some q → contextOf s x.parcel = some c →
    (seeSequence c x.parcel.seq).1 = true →
    ∃ t, exec .parcelDelivery s = .next t ∧ rg t 0x6050 8 = satAdd (sizeOf_ 0x6050 8) (rg s 0x6050 8) 1 ∧
      t.fab.arrived = rest ∧ unchangedExcept [.wires, .registers, .photonics, .fabric] s t) ∧
  (∀ (x : Carried) (rest : List Carried) (q : Parcel) (c : InCtx) (i : Instr) (seen : State) (s : State),
    routerWorks s = true → s.fab.arrived = x :: rest → x.buffers = [] →
    openParcel s.fab.parcelKey x.parcel = some q → contextOf s x.parcel = some c → c.stream = .control →
    (seeSequence c x.parcel.seq).1 = false →
    seen = { s with sent := [], fab := { s.fab with arrived := rest, inn := s.fab.inn.map (fun y =>
      if y = c then (seeSequence c x.parcel.seq).2 else y) } } →
    (q.kind, i) ∈ [(4, .tokenIncrementParcel (parcelToken q)), (5, .leaseGrant (parcelLease q)),
      (6, .leaseRenewal (parcelLease q)), (7, .renewalAcknowledgement (parcelLease q)),
      (8, .granuleReturn (parcelLease q)), (9, Instr.pairDigestReceive (parcelPair q))] →
    ∃ t, exec .parcelDelivery s = .next t ∧ exec i seen = .next t)

/-- A receive lane has answered with a NAK: one, counted in 0x6050:03, on the partner transmit lane c, and nothing
else of the lanes changes (R313). -/
structure Sys2Proof.Naks (p x c : Nat) (s t : State) : Prop where
  sent : ∃ h area, h.kind = 2 ∧ t.sent = [.flit p c (flitBytes h area)]
  lane : rxOf t p x = { rxOf s p x with nakSent := true }
  count : rg t 0x6050 3 = satAdd (sizeOf_ 0x6050 3) (rg s 0x6050 3) 1
  regs : regsExcept [(0x6050, 3)] s t
  frame : unchangedExcept [.wires, .registers, .photonics] s t

/-- The partner transmit lane after the acknowledgement and the credit that a flit brings it (R311, R313). -/
def Sys2Proof.ackedLane (s : State) (p c : Nat) (h : FlitHead) : TxLane :=
  gainCredit h.creditClass h.creditPool h.creditCount (ackFlits s.pwr.time h.ack (txOf s p c))

/-- A lane has nothing to send but what it may have to resend. -/
def Sys2Proof.nothingWaits (l : TxLane) : Prop :=
  l.wait = [] ∧ l.sending = [] ∧ l.words = [] ∧ l.owed = [] ∧ l.ackDue = false

/-- A lane has resent every unacknowledged flit, each counted in 0x6050:02 (R313). -/
structure Sys2Proof.FlitsResent (p c : Nat) (l : TxLane) (s t : State) : Prop where
  sent : t.sent.length = l.replay.length
  lane : txOf t p c = { l with
    replay := l.replay.map (fun u => { u with resent := u.resent + 1 }), timer := s.pwr.time }
  count : rg t 0x6050 2 = satAdd (sizeOf_ 0x6050 2) (rg s 0x6050 2) l.replay.length
  regs : regsExcept [(0x6050, 2)] s t
  frame : unchangedExcept [.wires, .registers, .photonics] s t

/-- Flits received (R310 to R314). A good data flit in order advances its lane, and the whole parcels that it completes
for this module wait for delivery; a good idle flit brings acknowledgement and credit alone; a bad flit, a data flit out
of order, and an idle or NAK flit whose sequence field does not name the expected flit, are answered with one NAK counted
in 0x6050:03; a failed address check is counted in 0x6050:04; a good test flit does nothing. A good NAK flit, or 4 us
without a new acknowledgement, resends every unacknowledged flit of the lane, each counted in 0x6050:02; a flit already
resent 8 times takes the lane out of service, counted in 0x6050:10. -/
def Obligations.FlitsAreTakenAndResent : Prop :=
  (∀ (f : Flit) (h : FlitHead) (r : List Carried × Option Partial) (s : State), h = flitHead f.bytes →
    takesFlits s f.port f.colour = true → flitGood f = true → h.kind = 0 → h.praline = false →
    addressOk s f.port f.colour h = true → h.seq = (rxOf s f.port f.colour).expected → h.cls ≤ 4 → h.pool ≤ 10 →
    r = joinStream (laneKey f.port f.colour, h.cls, h.pool, 1)
      ((rxOf s f.port f.colour).parts.find? (fun x => x.stream == 16 * h.cls + h.pool)) (16 * h.cls + h.pool)
      (if h.first < 236 then some h.first else none) (areaOf f) →
    ∃ t, exec (.dataFlit f) s = .next t ∧
      (rxOf t f.port f.colour).expected = ((rxOf s f.port f.colour).expected + 1) % 4096 ∧
      (rxOf t f.port f.colour).nakSent = false ∧
      t.fab.arrived.map (fun x => x.parcel) = s.fab.arrived.map (fun x => x.parcel) ++
        (r.1.map (fun x => x.parcel)).filter (fun p => p.cls < 5 && p.dst == nodeAddr s) ∧
      unchangedExcept [.wires, .registers, .photonics, .fabric] s t) ∧
  (∀ (f : Flit) (h : FlitHead) (c : Nat) (s : State), h = flitHead f.bytes → takesFlits s f.port f.colour = true →
    flitGood f = true → h.kind = 1 → h.praline = false → addressOk s f.port f.colour h = true →
    inOrderBare s f.port f.colour h = true → partnerTx s f.port f.colour = some c →
    nothingWaits (txOf s f.port c) →
    exec (.idleFlit f) s = .next (withTx f.port c (ackedLane s f.port c h) { s with sent := [] })) ∧
  (∀ (f : Flit) (i : Instr) (c : Nat) (s : State), takesFlits s f.port f.colour = true →
    partnerTx s f.port f.colour = some c → (txOf s f.port c).state = .inService →
    (rxOf s f.port f.colour).nakSent = false → flitGood f = false →
    i ∈ [Instr.dataFlit f, .idleFlit f, .nakFlit f, .testFlit f] →
    ∃ t, exec i s = .next t ∧ Naks f.port f.colour c s t) ∧
  (∀ (f : Flit) (h : FlitHead) (i : Instr) (c : Nat) (s : State), h = flitHead f.bytes →
    takesFlits s f.port f.colour = true → partnerTx s f.port f.colour = some c → (txOf s f.port c).state = .inService →
    (rxOf s f.port f.colour).nakSent = false → flitGood f = true → addressOk s f.port f.colour h = true →
    h.seq ≠ (rxOf s f.port f.colour).expected →
    (h.kind, i) ∈ [(0, Instr.dataFlit f), (1, .idleFlit f), (2, .nakFlit f)] →
    ∃ t, exec i s = .next t ∧ Naks f.port f.colour c s t) ∧
  (∀ (f : Flit) (h : FlitHead) (i : Instr) (s : State), h = flitHead f.bytes →
    takesFlits s f.port f.colour = true → flitGood f = true → addressOk s f.port f.colour h = false →
    (rxOf s f.port f.colour).mismatch = none →
    (h.kind, i) ∈ [(0, Instr.dataFlit f), (1, .idleFlit f), (2, .nakFlit f), (3, .testFlit f)] →
    ∃ t, exec i s = .next t ∧ rg t 0x6050 4 = satAdd (sizeOf_ 0x6050 4) (rg s 0x6050 4) 1 ∧
      (rxOf t f.port f.colour).goodFrames = 0 ∧ (rxOf t f.port f.colour).expected = (rxOf s f.port f.colour).expected ∧
      t.pho.tx = s.pho.tx ∧ regsExcept [(0x6050, 4)] s t ∧
      unchangedExcept [.wires, .registers, .photonics] s t) ∧
  (∀ (f : Flit) (s : State), takesFlits s f.port f.colour = true → flitGood f = true →
    (flitHead f.bytes).kind = 3 → addressOk s f.port f.colour (flitHead f.bytes) = true →
    exec (.testFlit f) s = .next { s with sent := [] }) ∧
  (∀ (f : Flit) (h : FlitHead) (c : Nat) (l : TxLane) (s : State), h = flitHead f.bytes →
    takesFlits s f.port f.colour = true → flitGood f = true → h.kind = 2 → h.praline = false →
    addressOk s f.port f.colour h = true → inOrderBare s f.port f.colour h = true →
    partnerTx s f.port f.colour = some c → ackedLane s f.port c h = l → nothingWaits l → l.state = .inService →
    l.replay ≠ [] → (∀ u ∈ l.replay, u.resent < 8) →
    ∃ t, exec (.nakFlit f) s = .next t ∧ FlitsResent f.port c l s t) ∧
  (∀ (p c : Nat) (s : State), portLit s p = true → (txOf s p c).state = .inService → nothingWaits (txOf s p c) →
    (txOf s p c).timer + 4000 ≤ s.pwr.time → (txOf s p c).replay ≠ [] → (∀ u ∈ (txOf s p c).replay, u.resent < 8) →
    ∃ t, exec (.flitReplayTimeout p c) s = .next t ∧ FlitsResent p c (txOf s p c) s t) ∧
  (∀ (p c : Nat) (s : State), portLit s p = true → (txOf s p c).state = .inService →
    (txOf s p c).timer + 4000 ≤ s.pwr.time → (∃ u ∈ (txOf s p c).replay, 8 ≤ u.resent) →
    ∃ t, exec (.flitReplayTimeout p c) s = .next t ∧ (txOf t p c).state ≠ .inService ∧
      rg t 0x6050 10 = satAdd (sizeOf_ 0x6050 10) (rg s 0x6050 10) 1 ∧
      unchangedExcept [.wires, .registers, .photonics, .fabric, .ring] s t) ∧
  (∀ (p c : Nat) (s : State), s.pwr.time < (txOf s p c).timer + 4000 →
    exec (.flitReplayTimeout p c) s = .next { s with sent := [] })

/-! ## Photonics -/

/-- A receive lane that takes frames: its port lit, the serialiser's clock right, the port assigned (R260, R475). -/
def Sys2Proof.laneListens (s : State) (p c : Nat) : Prop :=
  portLit s p = true ∧ c < 16 ∧ laneClockGood s p = true ∧ (assignment s p).isSome = true ∧ takesFrames s p c = true

/-- The frame that a LANE_FRAME brings is good and carries no notice, and its transmitter is in service. -/
def Sys2Proof.plainFrame (f : LaneFrame) : Prop :=
  frameGood f.bytes = true ∧ (frameFields f.bytes).noticeCode = 0 ∧ (frameFields f.bytes).state = 0

/-- A frame comes from the expected transmitter (R270). -/
def Sys2Proof.fromPeer (s : State) (f : LaneFrame) : Prop :=
  expectedTx s f.port f.colour = some (frameFields f.bytes).source ∧ (frameFields f.bytes).port = f.port

/-- The ring that serves a lane. -/
def Sys2Proof.laneRing (s : State) (tx : Bool) (p c : Nat) : Ring := ringOf s tx p (servingRing s tx p c)

/-- Photonics work: commissioned at least once, out of reset, neither in Doze nor in Stow (R285). -/
def Sys2Proof.ringsAwake (s : State) : Prop :=
  s.pho.commissioning ≠ 0 ∧ s.pwr.inReset = false ∧ s.ring.clock = true ∧ s.pwr.cur ≠ .doze ∧ s.pwr.cur ≠ .stow

/-- Lanes. LANE_FRAME (R260, R270, R271): a first good frame from the expected transmitter is counted; a second of
consecutive count puts the lane in service, expecting flit 0; a bad frame breaks the run of good ones; a first frame of
another identity is noted, and a second from the expected module on another colour puts the lane out, counted in
0x5020:04. LANE_FRAME_TIMEOUT: without a good frame for its time a lane leaves service, counted in 0x5020:07.
Rings. RING_LOCK_LOOP steps a ring's heater code within 16 bits (R264) or finds it failed (R276); a transmit ring that
times out leaves its candidate line (R273); a search takes an accepted line and counts its crossings in 0x5020:08 (R266,
R274), the transmit anchor locks to the first, and an exhausted range is one more failed sweep; the receive anchor's
sweep starts again 100 ms after it failed (R267). CALIBRATION_SLOT at its time (R277) takes transmit lane k out, keeping
its flits; at its end the lane is back in service, counted in 0x5020:09, or out, counted in 0x5020:0A (R278). Away from
its time it does nothing. -/
def Obligations.LanesFollowFramesRingsAndSlots : Prop :=
  (∀ (f : LaneFrame) (l : RxLane) (n : Nat) (s : State), laneListens s f.port f.colour → plainFrame f → fromPeer s f →
    (frameFields f.bytes).colour = f.colour → l = rxOf s f.port f.colour →
    ((frameFields f.bytes).count = (l.frame + 1) % 65536 → n = l.goodFrames + 1) →
    ((frameFields f.bytes).count ≠ (l.frame + 1) % 65536 → n = 1) → (n < 2 ∨ l.state = .inService) →
    ∃ t, exec (.laneFrame f) s = .next t ∧ rxOf t f.port f.colour = { l with
        gen2 := (frameFields f.bytes).gen2, frame := (frameFields f.bytes).count, lastGood := s.pwr.time
        goodFrames := n, mismatch := none } ∧
      t.pho.tx = s.pho.tx ∧ unchangedExcept [.wires, .photonics] s t) ∧
  (∀ (f : LaneFrame) (s : State), laneListens s f.port f.colour → plainFrame f → fromPeer s f →
    (frameFields f.bytes).colour = f.colour → 1 ≤ (rxOf s f.port f.colour).goodFrames →
    (frameFields f.bytes).count = ((rxOf s f.port f.colour).frame + 1) % 65536 →
    (rxOf s f.port f.colour).state ≠ .inService → (rxOf s f.port f.colour).kept = false →
    ∃ t, exec (.laneFrame f) s = .next t ∧ (rxOf t f.port f.colour).state = .inService ∧
      (rxOf t f.port f.colour).expected = 0 ∧ (rxOf t f.port f.colour).nakSent = false ∧
      unchangedExcept [.wires, .registers, .photonics, .fabric] s t) ∧
  (∀ (f : LaneFrame) (s : State), laneListens s f.port f.colour → frameGood f.bytes = false →
    exec (.laneFrame f) s = .next (withRx f.port f.colour
      { rxOf s f.port f.colour with goodFrames := 0, mismatch := none } { s with sent := [] })) ∧
  (∀ (f : LaneFrame) (s : State), laneListens s f.port f.colour → plainFrame f → fromPeer s f →
    (frameFields f.bytes).colour ≠ f.colour → (rxOf s f.port f.colour).mismatch = none →
    ∃ t, exec (.laneFrame f) s = .next t ∧ (rxOf t f.port f.colour).goodFrames = 0 ∧
      (rxOf t f.port f.colour).mismatch = some ((frameFields f.bytes).source, f.port, (frameFields f.bytes).colour) ∧
      (rxOf t f.port f.colour).state = (rxOf s f.port f.colour).state ∧ t.pho.tx = s.pho.tx ∧
      unchangedExcept [.wires, .photonics] s t) ∧
  (∀ (f : LaneFrame) (s : State), laneListens s f.port f.colour → plainFrame f → fromPeer s f →
    (frameFields f.bytes).colour ≠ f.colour → (rxOf s f.port f.colour).state ≠ .searching →
    (frameFields f.bytes).count = ((rxOf s f.port f.colour).frame + 1) % 65536 →
    (rxOf s f.port f.colour).mismatch = some ((frameFields f.bytes).source, f.port, (frameFields f.bytes).colour) →
    ∃ t, exec (.laneFrame f) s = .next t ∧ (rxOf t f.port f.colour).state = .out ∧
      rg t 0x5020 4 = satAdd (sizeOf_ 0x5020 4) (rg s 0x5020 4) 1 ∧ regsExcept [(0x5020, 4)] s t ∧
      unchangedExcept [.wires, .registers, .photonics] s t) ∧
  (∀ (p c : Nat) (line : Bool) (s : State), c < 16 → portLit s p = true → takesFrames s p c = true →
    (rxOf s p c).lastGood + lostAfter (rxOf s p c) ≤ s.pwr.time → (rxOf s p c).state ≠ .searching →
    ∃ t, exec (.laneFrameTimeout p c line) s = .next t ∧ (rxOf t p c).state ≠ .inService ∧
      (line = false → (rxOf t p c).state = .out) ∧ rg t 0x5020 7 = satAdd (sizeOf_ 0x5020 7) (rg s 0x5020 7) 1 ∧
      regsExcept [(0x5020, 7)] s t ∧ unchangedExcept [.wires, .registers, .photonics, .ring] s t) ∧
  (∀ (p c : Nat) (line : Bool) (s : State), s.pwr.time < (rxOf s p c).lastGood + lostAfter (rxOf s p c) →
    exec (.laneFrameTimeout p c line) s = .next { s with sent := [] }) ∧
  (∀ (tx : Bool) (p r : Nat) (step : Int) (found : LoopResult) (s : State), p < 32 → r < 17 → ringsAwake s →
    (ringOf s tx p r).failed = false → (ringOf s tx p r).line ≠ 16 → found ≠ .broken →
    (tx && (ringColour s tx p r).any (fun c => (txOf s p c).state == .inService)) = false →
    ∃ t, exec (.ringLockLoop tx p r step found) s = .next t ∧ ringOf t tx p r = { ringOf s tx p r with
        code := min 65535 (((ringOf s tx p r).code : Int) + step).toNat, locked := decide (found = .held) } ∧
      t.pho.tx = s.pho.tx ∧ t.pho.rx = s.pho.rx ∧ unchangedExcept [.wires, .photonics] s t) ∧
  (∀ (tx : Bool) (p r : Nat) (step : Int) (s : State), p < 32 → r < 17 → ringsAwake s →
    (ringOf s tx p r).failed = false →
    ∃ t, exec (.ringLockLoop tx p r step .broken) s = .next t ∧ (ringOf t tx p r).failed = true ∧
      unchangedExcept [.wires, .registers, .photonics, .fabric, .ring] s t) ∧
  (∀ (p c : Nat) (x : Ring) (s : State), c < 16 → portLit s p = true → (txOf s p c).state = .searching →
    x = laneRing s true p c → x.locked = true → x.lineAt + 30000 ≤ s.pwr.time →
    (x.mode = .sweep ∨ ∃ l, l < 16 ∧ l ≠ x.line ∧ l ∉ x.rejected) →
    ∃ t, exec (.searchCandidateTimeout p c) s = .next t ∧
      laneRing t true p c = { x with locked := false, rejected := addNum x.line x.rejected } ∧
      t.pho.tx = s.pho.tx ∧ unchangedExcept [.wires, .photonics] s t) ∧
  (∀ (tx : Bool) (p c line code crossings : Nat) (x : Ring) (s : State), c < 16 → portLit s p = true →
    laneState s tx p c = .searching → x = laneRing s tx p c → x.locked = false → x.failedAt = none →
    line < 16 → mayReach x c (line, code) = true → (tx = true → c = 0 → anchorSought s p = false) →
    ∃ t, exec (.ringSearchLineReached tx p c (line, code) true crossings) s = .next t ∧
      laneRing t tx p c = { x with
        line := line, code := code % 65536, locked := true, parked := false, lineAt := s.pwr.time } ∧
      rg t 0x5020 8 = satAdd (sizeOf_ 0x5020 8) (rg s 0x5020 8) crossings ∧ regsExcept [(0x5020, 8)] s t ∧
      unchangedExcept [.wires, .registers, .photonics] s t) ∧
  (∀ (p line code crossings : Nat) (s : State), portLit s p = true → (txOf s p 0).state = .searching →
    (laneRing s true p 0).locked = false → (laneRing s true p 0).failedAt = none → line < 16 →
    mayReach (laneRing s true p 0) 0 (line, code) = true → anchorSought s p = true →
    ∃ t, exec (.ringSearchLineReached true p 0 (line, code) true crossings) s = .next t ∧
      (txOf t p 0).state = .out ∧ 1 ≤ (portOf t p).stage ∧ regsExcept [(0x5020, 8)] s t ∧
      unchangedExcept [.wires, .registers, .photonics] s t) ∧
  (∀ (tx : Bool) (p c line code crossings : Nat) (x : Ring) (s : State), c < 16 → portLit s p = true →
    laneState s tx p c = .searching → x = laneRing s tx p c → x.locked = false → x.failedAt = none → 16 ≤ line →
    (tx = false → c = 0 → (portOf s p).stage ≠ 1) → (x.mode = .directed ∨ x.sweepsFailed = 0) →
    ∃ t, exec (.ringSearchLineReached tx p c (line, code) false crossings) s = .next t ∧
      (x.mode = .directed → laneRing t tx p c = { x with
        locked := false, mode := .sweep, rejected := [], code := 0, line := 16 }) ∧
      (x.mode = .sweep → laneRing t tx p c = { x with locked := false, sweepsFailed := 1, code := 0, line := 16 }) ∧
      regsExcept [(0x5020, 8)] s t ∧ unchangedExcept [.wires, .registers, .photonics] s t) ∧
  (∀ (p since : Nat) (s : State), portLit s p = true → (rxOf s p 0).state = .searching →
    (laneRing s false p 0).failedAt = some since → since + 100000000 ≤ s.pwr.time →
    exec (.anchorSweepRetry p) s = .next (withRing false p (servingRing s false p 0) { laneRing s false p 0 with
      code := 0, line := 16, failedAt := none, rejected := [] } { s with sent := [] })) ∧
  (∀ (p k : Nat) (good : Bool × Bool) (s : State), portLit s p = true → k = s.pwr.time / 1000000 % 17 →
    s.pwr.time % 1000000 = 125000 * (p % 8) → dueSwitch s p = none → k < 16 → (txOf s p k).state = .inService →
    ∃ t, exec (.calibrationSlot p good) s = .next t ∧ (txOf t p k).state = .calibrating ∧
      (txOf t p k).replay = (txOf s p k).replay ∧ (txOf t p k).credit = (txOf s p k).credit ∧
      portOf t p = { portOf s p with lastSlot := k, slot := some ⟨k, some k, s.pwr.time, none⟩ } ∧
      t.pho.rx = s.pho.rx ∧ unchangedExcept [.wires, .photonics] s t) ∧
  (∀ (p : Nat) (good : Bool × Bool) (s : State), s.pwr.time % 1000000 ≠ 125000 * (p % 8) →
    exec (.calibrationSlot p good) s = .next { s with sent := [] }) ∧
  (∀ (p c j start : Nat) (farOff : Bool) (s : State), portLit s p = true →
    (portOf s p).slot = some ⟨j, some c, start, none⟩ → (txOf s p c).state = .calibrating →
    (∃ t, exec (.calibrationSlotEnd p true farOff) s = .next t ∧ (txOf t p c).state = .inService ∧
      (portOf t p).slot = none ∧ rg t 0x5020 9 = satAdd (sizeOf_ 0x5020 9) (rg s 0x5020 9) 1 ∧
      unchangedExcept [.wires, .registers, .photonics, .fabric] s t) ∧
    (∃ t, exec (.calibrationSlotEnd p false farOff) s = .next t ∧
      (farOff = false → (txOf t p c).state = .out) ∧ (txOf t p c).state ≠ .inService ∧
      rg t 0x5020 10 = satAdd (sizeOf_ 0x5020 10) (rg s 0x5020 10) 1 ∧ regsExcept [(0x5020, 10)] s t ∧
      unchangedExcept [.wires, .registers, .photonics, .fabric, .ring] s t))

/-- A laser of the module is lit and judged (R280). -/
def Sys2Proof.laserJudged (s : State) (laser : Nat) : Prop :=
  laser < 128 ∧ (s.pwr.cur = .run ∨ s.pwr.cur = .still) ∧ s.pho.commissioning = 2 ∧ s.pwr.inReset = false ∧
    ((laserOf s laser).state = 1 ∨ (laserOf s laser).state = 2) ∧ gated s (16 + laser / 32) = false

/-- Lasers. A reading joins the last 16; a mean below 85 % warns, counted in 0x5020:01, and one above 87 % clears the
warning (R280); a mean below 75 % asks for the lowest free spare of the engine, whose lock then lets the group's ports
switch (R281). A wavelength 5 GHz off is noted (R252). OPTICAL_COMMISSIONING_COMPLETE (R269): every port being
commissioned is in service, or degraded with a dropped lane, each laser's commissioned power and each free spare's tuning
settings are recorded, and no lane's state changes. -/
def Obligations.LasersAndPortsAreLit : Prop :=
  (∀ (laser reading st : Nat) (rs : List Nat) (s : State), laserJudged s laser →
    rs = (reading :: (laserOf s laser).readings).take 16 → 700 ≤ reading → meanBelow rs 750 = false →
    (meanBelow rs 850 = true → st = 2) → (meanBelow rs 850 = false → meanAbove rs 870 = true → st = 1) →
    (meanBelow rs 850 = false → meanAbove rs 870 = false → st = (laserOf s laser).state) →
    ∃ t, exec (.laserPowerReading false laser reading) s = .next t ∧
      laserOf t laser = { laserOf s laser with readings := rs, state := st } ∧
      (st = 2 → (laserOf s laser).state = 1 → rg t 0x5020 1 = satAdd (sizeOf_ 0x5020 1) (rg s 0x5020 1) 1) ∧
      ((st = 1 ∨ (laserOf s laser).state = 2) → t.regs = s.regs ∧ t.ring = s.ring) ∧
      t.pho.tx = s.pho.tx ∧ t.pho.switchovers = s.pho.switchovers ∧ regsExcept [(0x5020, 1)] s t ∧
      unchangedExcept [.wires, .registers, .photonics, .ring] s t) ∧
  (∀ (laser reading n : Nat) (s : State), laserJudged s laser → 700 ≤ reading →
    meanBelow ((reading :: (laserOf s laser).readings).take 16) 750 = true → switching s laser = false →
    freeSpare s (laser / 32) = some n →
    ∃ t, exec (.laserPowerReading false laser reading) s = .next t ∧ (spareLaserOf t n).state = 1 ∧
      (spareLaserOf t n).colour = laser % 32 / 2 ∧ t.pho.switchovers = s.pho.switchovers ++
        [⟨laser, n, false, (groupPorts laser).filter (fun p => (assignment s p).isSome)⟩] ∧ t.pho.tx = s.pho.tx ∧
      regsExcept [(0x5020, 1)] s t ∧ unchangedExcept [.wires, .registers, .photonics, .ring] s t) ∧
  (∀ (n reading : Nat) (rs : List Nat) (s : State), n < 16 → (s.pwr.cur = .run ∨ s.pwr.cur = .still) →
    s.pho.commissioning = 2 → s.pwr.inReset = false → (spareLaserOf s n).state = 2 → gated s (16 + n / 4) = false →
    rs = (reading :: (spareLaserOf s n).readings).take 16 → 700 ≤ reading → meanBelow rs 850 = false →
    ∃ t, exec (.laserPowerReading true n reading) s = .next t ∧ (spareLaserOf t n).readings = rs ∧
      (spareLaserOf t n).state = 2 ∧ (meanAbove rs 870 = true → (spareLaserOf t n).warned = false) ∧
      t.pho.tx = s.pho.tx ∧ unchangedExcept [.wires, .photonics] s t) ∧
  (∀ (engine spare : Nat) (w : Switchover) (s : State), engine < 4 → spare < 4 →
    (spareLaserOf s (4 * engine + spare)).state = 1 → s.pho.switchovers = [w] → w.spare = 4 * engine + spare →
    w.ports ≠ [] →
    ∃ t, exec (.spareLaserLocked engine spare) s = .next t ∧ (spareLaserOf t (4 * engine + spare)).state = 2 ∧
      t.pho.switchovers = [{ w with locked := true }] ∧ t.pho.lasers = s.pho.lasers ∧
      unchangedExcept [.wires, .photonics] s t) ∧
  (∀ (laser : Nat) (off : Int) (s : State), laser < 144 → s.pho.commissioning ≠ 0 → s.pwr.inReset = false →
    s.pwr.cur ≠ .doze → s.pwr.cur ≠ .stow →
    ∃ t, exec (.wavelengthCheck laser off) s = .next t ∧ (laser ∈ t.pho.freqBad ↔ 5000 < off.natAbs) ∧
      (∀ k, k ≠ laser → (k ∈ t.pho.freqBad ↔ k ∈ s.pho.freqBad)) ∧ t.pho.lasers = s.pho.lasers ∧
      t.pho.tx = s.pho.tx ∧ unchangedExcept [.wires, .photonics] s t) ∧
  (∀ (powers : List Nat) (tunings : List (List Nat)) (s : State), s.pwr.inReset = false → s.pho.commissioning = 1 →
    (∀ p, p < 32 → anchorSought s p = false) → powers.length = 128 → tunings.length = 16 →
    ∃ t, exec (.opticalCommissioningComplete (powers, tunings)) s = .next t ∧ t.pho.commissioning = 2 ∧
      (∀ p, p < 32 → (portOf s p).state = 1 → hasDropped s p = false → portOf t p = { portOf s p with state := 2 }) ∧
      (∀ p, p < 32 → (portOf s p).state = 1 → hasDropped s p = true → portOf t p = { portOf s p with state := 3 }) ∧
      (∀ p, p < 32 → (portOf s p).state ≠ 1 → portOf t p = portOf s p) ∧
      (∀ n (h : n < powers.length), (laserOf s n).state ≠ 3 → (laserOf s n).state ≠ 4 →
        laserOf t n = { laserOf s n with commissioned := powers[n] % 65536 }) ∧
      (∀ n (h : n < tunings.length), (spareLaserOf s n).state = 0 →
        spareLaserOf t n = { spareLaserOf s n with tuning := tunings[n].take 16 }) ∧
      t.pho.tx = s.pho.tx ∧ t.pho.rx = s.pho.rx ∧ t.pho.rings = s.pho.rings ∧ unchangedExcept [.wires, .photonics] s t)

/-! ## Settings and tables -/

/-- Objects that keep what is written to them and whose writes change nothing else in the register file. -/
def Sys2Proof.plainIndexes : List Nat := [0x4002, 0x4003, 0x4004, 0x8001, 0x8002, 0xA020]

/-- The setting that a command writes: request, object, bytes, and the value that the object then holds. With COMPAT the
start scale comes as a power of two in FP32 and its exponent is kept (R435). -/
def Sys2Proof.settingOf (s : State) : Instr → Option (Req × Nat × Nat × Bytes × Nat)
  | .transmitGenerationWrite q sub gen => some (q, 0x5002, sub, leBytes 1 gen, gen)
  | .fabricConfigurationWrite q idx sub v =>
    if idx = 0x6001 then some (q, idx, sub, leBytes 4 v.toNat, v.toNat)
    else if idx = 0x6000 ∧ sub = 1 then some (q, idx, sub, leBytes 4 v.toNat, v.toNat)
    else none
  | .holdCommitArm q step => some (q, 0x8010, 1, leBytes 8 step, step)
  | .kz8StartScaleWrite q v =>
    some (q, 0x3040, 1, leBytes 4 v.toNat, if s.straps.compat then v.toNat / 2 ^ 23 - 127 else v.toNat)
  | .partitionSettingWrite q sub v => some (q, 0x4002, sub, leBytes 4 v.toNat, v.toNat)
  | .blockEnableWrite q sub v => some (q, 0xA001, sub, leBytes 1 v, v)
  | .pllSettingWrite q sub v => some (q, 0xA020, sub, leBytes 4 v.toNat, v.toNat)
  | .timeReferenceWrite q v => some (q, 0xA010, 2, leBytes 1 v, v)
  | .testPortEnable q v => some (q, 0xB020, 1, leBytes 1 v, v)
  | .expeditedWrite q idx sub v =>
    if idx ∈ plainIndexes ∧ 1 ≤ v.length ∧ v.length ≤ 8 then some (q, idx, sub, v, leNat v) else none
  | .segmentedWrite q idx sub v | .dictionaryWrite q idx sub v =>
    if idx ∈ plainIndexes ∧ 1 ≤ v.length ∧ v.length ≤ 65536 then some (q, idx, sub, v, leNat v) else none
  | _ => none

/-- A write of a setting that its role may make and that passes its object's rule: the object holds the value, the write
is answered with success and logged, and no other object changes (R10, R12, R401); here the writes of settingOf. A new
dimension count 0x6000:02 restores the default port assignment (R288), and once the engines have been commissioned a
fabric configuration write commissions them again. A write of the boundary 0x4000:03 empties the caches and buffers
(R204). A scale state written to 0x3040:07 waits for the next step start (R158). A write that breaks its object's rule is
rejected, changes no object and is not logged; here of a partition whose rate would raise its quadrant's sum above 5,401
GB/s (R219). -/
def Obligations.SettingsAreTakenOrRejected : Prop :=
  (∀ (i : Instr) (q : Req) (r : Role) (idx sub : Nat) (v : Bytes) (n : Nat) (s : State), i.wf = true →
    settingOf s i = some (q, idx, sub, v, n) → ((idx = 0x6000 ∨ idx = 0x6001) → s.pho.commissioning = 0) →
    Ready q r s → Writable r idx sub v s → (∀ c ∈ (ruleOf q idx sub v s).codes, c = 0) →
    ∃ t, exec i s = .next t ∧ rg t idx sub = n ∧ Answers q 0 [] t ∧ Logged q idx sub t ∧
      regsExcept [(idx, sub)] s t ∧ t.dev = s.dev ∧ t.ex = s.ex) ∧
  (∀ (q : Req) (r : Role) (v : W32) (s : State), v.toNat < 256 → s.pho.commissioning = 0 → Ready q r s →
    Writable r 0x6000 2 (leBytes 1 v.toNat) s →
    ∃ t, exec (.fabricConfigurationWrite q 0x6000 2 v) s = .next t ∧ rg t 0x6000 2 = v.toNat ∧
      (∀ p, p < 32 → rg t 0x6001 (p + 1) = portDefault v.toNat p) ∧ Answers q 0 [] t ∧ Logged q 0x6000 2 t ∧
      regsExcept ((0x6000, 2) :: (List.range 32).map (fun p => (0x6001, p + 1))) s t ∧
      unchangedExcept [.wires, .registers, .ring, .security] s t) ∧
  (∀ (q : Req) (r : Role) (sub : Nat) (v : W32) (s : State), s.pho.commissioning ≠ 0 → Ready q r s →
    Writable r 0x6001 sub (leBytes 4 v.toNat) s → (∀ c ∈ (portRule sub (leBytes 4 v.toNat) s).codes, c = 0) →
    ratiosOk (pllTake [6, 7, 8, 9] s) = true →
    ∃ t, exec (.fabricConfigurationWrite q 0x6001 sub v) s = .next t ∧ rg t 0x6001 sub = v.toNat ∧
      t.pho.commissioning = 1 ∧ Answers q 0 [] t ∧ Logged q 0x6001 sub t ∧ regsExcept [(0x6001, sub)] s t ∧
      unchangedExcept [.wires, .registers, .photonics, .fabric, .ring, .security, .power] s t) ∧
  (∀ (q : Req) (r : Role) (b : Nat) (s : State), b < 256 → Ready q r s → Writable r 0x4000 3 (leBytes 1 b) s →
    ∃ t, exec (.quadrantLocalBoundaryWrite q b) s = .next t ∧ rg t 0x4000 3 = b ∧ t.mem.msc = [] ∧ t.mem.wc = [] ∧
      t.mem.shared = [] ∧ (∀ x ∈ t.mem.cells, tenantTop ≤ x.1) ∧ Answers q 0 [] t ∧ Logged q 0x4000 3 t ∧
      regsExcept ((0x4000, 3) :: (List.range 256).map (fun j => (0x4021, j))) s t ∧
      unchangedExcept [.wires, .registers, .memory, .ring, .security] s t) ∧
  (∀ (q : Req) (v : W64) (s : State), Ready q .tenant s → Writable .tenant 0x3040 7 (leBytes 8 v.toNat) s →
    (∀ c ∈ (scaleLoadRule (leBytes 8 v.toNat) s).codes, c = 0) →
    ∃ t, exec (.scaleStateLoad q v) s = .next t ∧ t.ex = { s.ex with scaleLoad := some (scaleOf v.toNat) } ∧
      Answers q 0 [] t ∧ Logged q 0x3040 7 t ∧ regsExcept [] s t ∧
      unchangedExcept [.wires, .registers, .execution, .ring, .security] s t) ∧
  (∀ (q : Req) (sub : Nat) (v : W32) (s : State), Ready q .tenant s →
    Writable .tenant 0x4002 sub (leBytes 4 v.toNat) s → bits 17 16 v.toNat = 0 →
    5401 < rateSum s ((sub - 1) / 16) ((sub - 1) % 16) v.toNat →
    ∃ t, exec (.partitionSettingWrite q sub v) s = .next t ∧ Answers q 0x02200001 [] t ∧ t.sec.log = s.sec.log ∧
      regsExcept [] s t ∧ unchangedExcept [.wires, .registers, .ring, .security] s t)

/-- A table write that was taken: answered, logged, and nothing changed but the fabric's tables. -/
def Sys2Proof.tableWritten (q : Req) (idx : Nat) (s t : State) : Prop :=
  Answers q 0 [] t ∧ Logged q idx 1 t ∧ regsExcept [] s t ∧
    unchangedExcept [.wires, .registers, .fabric, .ring, .security] s t

/-- A table write that passes its table's checks places its entry, or takes the entry out when its valid bit is clear
(R296, R301, R319, R322), and leaves the other tables and entries alone. RECOMMISSION_PORT of a lit engine (R284): an
assigned port commissions again, its transmit anchor searching and its other lanes dark, but those without a ring
dropped; every other port and receive lane stays. -/
def Obligations.TablesAndPortsAreConfigured : Prop :=
  (∀ (q : Req) (r : Role) (num : Nat) (entry : W64) (s : State), num < 2 ^ 16 → Ready q r s →
    Writable r 0x6010 1 (entryBytes num entry) s → exceptionOk s num entry = true →
    ∃ t, exec (.exceptionEntryWrite q num entry) s = .next t ∧
      t.fab = { s.fab with exceptions := putEntry num entry s.fab.exceptions } ∧ tableWritten q 0x6010 s t) ∧
  (∀ (q : Req) (r : Role) (num : Nat) (entry : W64) (s : State), num < 2 ^ 16 → Ready q r s →
    Writable r 0x6021 1 (entryBytes num entry) s → (∀ c ∈ (overrideRule (entryBytes num entry) s).codes, c = 0) →
    ∃ t, exec (.rankOverrideWrite q num entry) s = .next t ∧
      t.fab = { s.fab with overrides := putEntry num entry s.fab.overrides } ∧ tableWritten q 0x6021 s t) ∧
  (∀ (q : Req) (r : Role) (num : Nat) (entry : W64) (s : State), num < 2 ^ 16 → Ready q r s →
    Writable r 0x7000 1 (entryBytes num entry) s → (∀ c ∈ (memberRule (entryBytes num entry) s).codes, c = 0) →
    ∃ t, exec (.groupMemberEntryWrite q num entry) s = .next t ∧
      t.fab = { s.fab with members := putEntry num entry s.fab.members } ∧ tableWritten q 0x7000 s t) ∧
  (∀ (q : Req) (r : Role) (num : Nat) (entry : W64) (s : State), num < 2 ^ 16 → Ready q r s →
    Writable r 0x7001 1 (entryBytes num entry) s → (∀ c ∈ (groupRule (entryBytes num entry) s).codes, c = 0) →
    ∃ t, exec (.groupDescriptorWrite q num entry) s = .next t ∧
      t.fab = { s.fab with groups := putEntry num entry s.fab.groups } ∧ tableWritten q 0x7001 s t) ∧
  (∀ (q : Req) (r : Role) (p : Nat) (s : State), Ready q r s → Writable r 0x5040 1 (leBytes 1 p) s → p < 32 →
    s.pho.commissioning ≠ 0 → (s.pwr.cur = .run ∨ s.pwr.cur = .still) → ratiosOk (pllTake [p / 8 + 6] s) = true →
    (assignment s p).isSome = true → ringless s true p 0 = false →
    ∃ t, exec (.recommissionPort q p) s = .next t ∧ (portOf t p).state = 1 ∧ (portOf t p).stage = 0 ∧
      (portOf t p).plantLanes = [] ∧ (txOf t p 0).state = .searching ∧
      (∀ c, 0 < c → c < 16 → ringless s true p c = false → (txOf t p c).state = .dark) ∧
      (∀ c, 0 < c → c < 16 → ringless s true p c = true → (txOf t p c).state = .dropped) ∧
      (∀ c, c < 16 → ringless s false p c = false → (rxOf t p c).state = .dark) ∧
      (∀ k, k ≠ p → portOf t k = portOf s k) ∧ (∀ k c, k ≠ p → c < 16 → rxOf t k c = rxOf s k c) ∧
      t.pwr = (pllTake [p / 8 + 6] s).pwr ∧ Answers q 0 [] t ∧ Logged q 0x5040 1 t ∧ regsExcept [] s t ∧
      unchangedExcept [.wires, .registers, .photonics, .fabric, .ring, .security, .power] s t)

/-! ## Resilience -/

/-- An abandon (R368, R369): taken, it stops the step with its admissions and grants, closes the flow contexts, counts
itself in 0x8030:09 and leaves 0x8003:04 at 1 without an answer; 1 ms later, with the work retired and the module's
queues drained, the module is HELD, 0x8003:04 reads 2, and the write is logged and answered. A restore (R370): accepted
in PREPARED or HELD it asks the holders for every item of the secure point, with the current copies incomplete, or fails
at once with 0x8003:04 reading 8; gathered again it is complete, with 0x8003:04 reading 4 and the proof replay of the
next step armed. -/
def Obligations.AbandonAndRestore : Prop :=
  (∀ (q : Req) (s : State), Ready q .tenant s → Writable .tenant 0x8003 1 (leBytes 1 1) s →
    (s.dev = .running ∨ s.dev = .held) →
    ∃ t, exec (.abandon q) s = .next t ∧ t.dev = s.dev ∧ t.ex.step.running = false ∧ t.ex.step.outcome = none ∧
      t.ex.admitted = [] ∧ t.ex.heldTokens = [] ∧ t.ex.score = s.ex.score ∧ t.ex.scale = s.ex.scale ∧ t.col = {} ∧
      t.fab.out = [] ∧ t.fab.inn = [] ∧ t.res.abandonAt = some s.pwr.time ∧
      rg t 0x8003 4 = 1 ∧ rg t 0x2011 2 = 0 ∧ rg t 0x8010 1 = 2 ^ 64 - 1 ∧ rg t 0x8010 3 = 2 ^ 64 - 1 ∧
      rg t 0x8030 9 = satAdd (sizeOf_ 0x8030 9) (rg s 0x8030 9) 1 ∧
      (∃ x ∈ t.sec.pend, x.kind = .abandon ∧ x.q = q) ∧ unchangedExcept
        [.wires, .registers, .execution, .memory, .photonics, .fabric, .collectives, .resilience, .ring, .security] s t) ∧
  (∀ (since : Nat) (p : PendWrite) (s : State), s.res.abandonAt = some since → since + 1000000 ≤ s.pwr.time →
    s.pwr.inReset = false → workRetired s = true → drained s = true → pendOf s .abandon = some p →
    s.sec.flashFull = false → s.ring.bypassOpen = true →
    ∃ t, exec .abandonComplete s = .next t ∧ (s.dev = .running → t.dev = .held) ∧ (s.dev ≠ .running → t.dev = s.dev) ∧
      t.res = { s.res with abandonAt := none } ∧ rg t 0x8003 4 = 2 ∧ Answers p.q 0 [] t ∧ Logged p.q 0x8003 1 t ∧
      regsExcept [(0x8003, 4)] s t ∧ unchangedExcept [.wires, .device, .registers, .resilience, .ring, .security] s t) ∧
  (∀ (since : Nat) (s : State), s.res.abandonAt = some since →
    (s.pwr.time < since + 1000000 ∨ workRetired s = false ∨ drained s = false) →
    exec .abandonComplete s = .next { s with sent := [] }) ∧
  (∀ (sc : Score) (q : Req) (step : Nat) (s : State), s.ex.score = some sc → step < 2 ^ 64 → Ready q .tenant s →
    Writable .tenant 0x8003 2 (leBytes 8 step) s → (s.dev = .prepared ∨ s.dev = .held) → s.res.restore = none →
    (ownRank s).isSome = true → glazedOf sc s.regs ≠ [] →
    ∃ t, exec (.restore q step) s = .next t ∧ Answers q 0 [] t ∧ Logged q 0x8003 2 t ∧
      (t.res.restore = some step ∧ rg t 0x8003 4 = 3 ∨ t.res.restore = none ∧ t.res.pulls = [] ∧ rg t 0x8003 4 = 8) ∧
      (∀ c ∈ t.res.held, c.current = true → c.complete = false) ∧ t.ex.step.num = step ∧ t.ex.step.running = false ∧
      (∀ a, byteAt t a = byteAt s a) ∧ unchangedExcept [.wires, .freeCounter, .registers, .execution, .photonics,
        .fabric, .collectives, .resilience, .ring, .security] s t) ∧
  (∀ (sc : Score) (since : Nat) (s : State), s.ex.score = some sc → s.res.restore = some since →
    s.res.gathering = true → s.pwr.inReset = false → s.dev ≠ .faulted →
    (∀ g ∈ glazedOf sc s.regs, (runOf s g.2.1).complete = true) →
    ∃ t, exec .restoreComplete s = .next t ∧ t.col = { s.col with runs := [] } ∧ t.res = { s.res with
        restore := none, gathering := false, proofArmed := some (since + 1), autoHold := true } ∧
      rg t 0x8003 4 = 4 ∧ rg t 0x8030 7 = satAdd (sizeOf_ 0x8030 7) (rg s 0x8030 7) 1 ∧
      regsExcept [(0x8003, 4), (0x8030, 7)] s t ∧ unchangedExcept [.wires, .registers, .collectives, .resilience] s t)

/-- The copies that a message names left incomplete (R367, R379). -/
def Sys2Proof.spoiled (m : RemoteMsg) (s : State) : List HeldCopy :=
  s.res.held.map (fun c => if isNamed m c then { c with complete := false } else c)

/-- REMOTE_WRITE (R360): an item of one block is kept as a complete copy, and a failing tag leaves the copies it names
incomplete, counted in 0x8030:04. REMOTE_READ_REQUEST (R367, R379): a complete copy is answered block by block and
counted in 0x8030:03; of a poisoned one the copy is not complete any more. REMOTE_READ_RESPONSE that brings the last block
of a share stripe under repair (R380): the stripe is written in its place, no other byte of memory changes, the repair is
done and counted in 0x8030:05; one that no pull and no repair waits for changes nothing. -/
def Obligations.HoldersKeepCopiesAndRepair : Prop :=
  (∀ (m : RemoteMsg) (s : State), holderWorks s = true → m.subtype ≤ 3 → m.tagGood = false →
    ∃ t, exec (.remoteWrite m) s = .next t ∧ t.res = { s.res with held := spoiled m s } ∧
      rg t 0x8030 4 =
        satAdd (sizeOf_ 0x8030 4) (rg s 0x8030 4) (s.res.held.filter (fun c => isNamed m c && c.complete)).length ∧
      regsExcept [(0x8030, 4)] s t ∧ unchangedExcept [.wires, .registers, .resilience] s t) ∧
  (∀ (m : RemoteMsg) (sc : Score) (s : State), holderWorks s = true → m.subtype ≤ 3 → m.tagGood = true →
    s.ex.score = some sc → tagMatches s m.scoreTag = true →
    (∀ c ∈ s.res.held, isNamed m c = true → c.complete = true) → namedLength sc s m ≤ 4096 →
    exec (.remoteWrite m) s = .next { s with sent := [], res := { s.res with
      held := keepCopy ⟨m.subtype == 3, (if m.subtype = 3 then 0 else m.subtype), m.ownerRank, m.entry, m.stripe,
        m.generation, [(m.block, m.data)], true, m.poisoned⟩ s.res.held } }) ∧
  (∀ (m : RemoteMsg) (c : HeldCopy) (s : State), holderWorks s = true → m.subtype ≤ 3 → m.tagGood = true →
    tagMatches s m.scoreTag = true → s.res.held.find? (isNamed m) = some c → c.poisoned = false → c.complete = true →
    ∃ t, exec (.remoteReadRequest m) s = .next t ∧ t.res = s.res ∧
      rg t 0x8030 3 = satAdd (sizeOf_ 0x8030 3) (rg s 0x8030 3) 1 ∧
      unchangedExcept [.wires, .registers, .fabric] s t) ∧
  (∀ (m : RemoteMsg) (c : HeldCopy) (s : State), holderWorks s = true → m.subtype ≤ 3 → m.tagGood = true →
    tagMatches s m.scoreTag = true → s.res.held.find? (isNamed m) = some c → c.poisoned = true →
    ∃ t, exec (.remoteReadRequest m) s = .next t ∧ t.res = { s.res with held := spoiled m s } ∧
      unchangedExcept [.wires, .registers, .fabric, .resilience] s t) ∧
  (∀ (m : RemoteMsg) (sc : Score) (p : Pull) (s : State), s.canonical → holderWorks s = true → m.subtype = 3 →
    s.ex.score = some sc → (s.res.pulls ++ s.res.repairs).find? (answersPull sc s m) = some p →
    responseStatus s m = 0 → (takeBlock sc s m p).arrived = true →
    ∃ t, exec (.remoteReadResponse m) s = .next t ∧
      (∀ x, (pullPlace sc s p).1 ≤ x → x < (pullPlace sc s p).1 + (pullBytes (takeBlock sc s m p)).length →
        byteAt t x = (pullBytes (takeBlock sc s m p)).getD (x - (pullPlace sc s p).1) 0) ∧
      (∀ x, x < (pullPlace sc s p).1 ∨ (pullPlace sc s p).1 + (pullBytes (takeBlock sc s m p)).length ≤ x →
        byteAt t x = byteAt s x) ∧
      takeBlock sc s m p ∉ t.res.repairs ∧ rg t 0x8030 5 = satAdd (sizeOf_ 0x8030 5) (rg s 0x8030 5) 1 ∧
      regsExcept ((0x8030, 5) :: (List.range 256).map (fun j => (0x4021, j))) s t ∧
      unchangedExcept [.wires, .freeCounter, .registers, .memory, .resilience] s t) ∧
  (∀ (m : RemoteMsg) (sc : Score) (s : State), holderWorks s = true → m.subtype ≤ 3 → s.ex.score = some sc →
    (s.res.pulls ++ s.res.repairs).find? (answersPull sc s m) = none →
    exec (.remoteReadResponse m) s = .next { s with sent := [] })

/-! ## The control ring -/

/-- The request that a command carries, of those that a dictionary transaction brings (R400). -/
def Sys2Proof.requestOf : Instr → Option Req
  | .leave q | .clearFault q | .prepare q | .run q | .hold q | .release q | .unprepare q | .grantSteps q _ |
    .postMicroBatch q _ | .hostCopyRequest q _ | .generatorWriteReadCheck q _ | .generatorWrite q _ |
    .generatorReadCheck q _ | .generatorStopAll q _ | .partitionSettingWrite q _ _ | .quadrantLocalBoundaryWrite q _ |
    .recommissionPort q _ | .transmitGenerationWrite q _ _ | .exceptionEntryWrite q _ _ | .rankOverrideWrite q _ _ |
    .fabricConfigurationWrite q _ _ _ | .groupMemberEntryWrite q _ _ | .groupDescriptorWrite q _ _ | .abandon q |
    .restore q _ | .holdCommitArm q _ | .scaleStateLoad q _ | .kz8StartScaleWrite q _ | .expeditedWrite q _ _ _ |
    .expeditedRead q _ _ _ | .segmentedWrite q _ _ _ | .segmentedRead q _ _ _ | .blockWrite q _ _ _ | .blockRead q _ _ _ |
    .dictionaryWrite q _ _ _ | .bulkOpen q _ | .bulkClose q _ | .enrolmentWrite q _ _ _ | .firmwareImageWrite q _ |
    .attestationQuote q | .timeReferenceWrite q _ | .powerStateRequest q _ | .blockEnableWrite q _ _ | .pllSettingWrite q _ _ |
    .selfTestTileStores q _ _ | .selfTestSharedCache q _ _ | .selfTestMemorySideCache q _ _ | .selfTestHbmStack q _ _ |
    .testPortEnable q _ => some q
  | _ => none

/-- Frame marks on an open ring, with no change waiting for a frame boundary (R387, R388, R477, R478). A good mark is
repeated with the hop index plus 1 and a CRC of its own and read into 0x1100; with frame marks as the time reference,
device time is slewed by its offset and 0xA010:03 says locked within 20 ns after 64 good frames. A mark with a bad CRC is
replaced by one built from the last good one and counted in 0x1101:02. A bypass that is to close does so at a frame
boundary when every response has left, and the module repeats no more (R399). -/
def Obligations.FrameMarksDriveTheModule : Prop :=
  (∀ (m : FrameMark) (s : State), hears s = true → s.ring.bypassOpen = true → s.ring.closeAtFrame = false →
    s.pwr.refChange = none →
    ∃ t, exec (.frameMark m (markCrc m)) s = .next t ∧ t.sent = [.mark (repeated m) (markCrc (repeated m))] ∧
      t.ring = { s.ring with lastMark := some m, frames := framesAt s.ring m } ∧
      rg t 0x1100 2 = (m.hopIndex + 1) % 256 ∧
      rg t 0x1100 3 = m.members % 256 ∧ rg t 0x1100 7 = m.frameCount % 2 ^ 32 ∧
      (s.pwr.goodFrames + 1 < 64 ∨ s.pwr.stepped = true → t.pwr.time = s.pwr.time) ∧
      (s.pwr.goodFrames = 63 → s.pwr.stepped = false → s.pwr.lastFrameAt = some (s.pwr.osc - 1000) → 1000 ≤ s.pwr.osc →
        t.pwr.time = max s.pwr.time m.nodeTime ∧ t.pwr.stepped = true) ∧
      (rg s 0xA010 2 = 0 → s.pwr.refLost = false → t.pwr.slew = (m.nodeTime : Int) - t.pwr.time) ∧
      (rg s 0xA010 2 = 0 → s.pwr.refLost = false → t.pwr.goodFrames = 64 →
        ((t.pwr.time : Int) - m.nodeTime).natAbs ≤ 20 → rg t 0xA010 3 = 2) ∧
      (rg s 0xA010 2 = 0 → s.pwr.refLost = false →
        (t.pwr.goodFrames ≠ 64 ∨ 20 < ((t.pwr.time : Int) - m.nodeTime).natAbs) → rg t 0xA010 3 = 1) ∧
      regsExcept [(0x1100, 1), (0x1100, 2), (0x1100, 3), (0x1100, 5), (0x1100, 6), (0x1100, 7), (0x1101, 5), (0xA020, 1),
        (0xA010, 3), (0xA010, 4)] s t ∧
      unchangedExcept [.wires, .freeCounter, .registers, .ring, .power] s t) ∧
  (∀ (m l x : FrameMark) (crc : W32) (s : State), hears s = true → s.ring.bypassOpen = true →
    s.ring.closeAtFrame = false → s.pwr.refChange = none → crc ≠ markCrc m → s.ring.lastMark = some l →
    x = { l with frameCount := (l.frameCount + 1) % 2 ^ 32, nodeTime := l.nodeTime + 1000 } →
    ∃ t, exec (.frameMark m crc) s = .next t ∧ t.sent = [.mark (repeated x) (markCrc (repeated x))] ∧
      t.ring = { s.ring with lastMark := some x, frames := framesAt s.ring x } ∧
      rg t 0x1101 2 = satAdd (sizeOf_ 0x1101 2) (rg s 0x1101 2) 1 ∧ t.pwr.time = s.pwr.time ∧
      regsExcept [(0x1100, 5), (0x1100, 6), (0x1101, 2), (0xA020, 1)] s t ∧
      unchangedExcept [.wires, .registers, .ring, .power] s t) ∧
  (∀ (m : FrameMark) (s : State), hears s = true → s.ring.closeAtFrame = true → (∀ o ∈ s.ring.out, o.typ ≠ 2) →
    ∃ t, exec (.frameMark m (markCrc m)) s = .next t ∧ t.sent = [] ∧ t.ring.bypassOpen = false ∧
      t.ring.closeAtFrame = false ∧ t.ring.out = [] ∧
      unchangedExcept [.wires, .freeCounter, .registers, .ring, .power] s t) ∧
  (∀ (m : FrameMark) (crc : W32) (s : State), hears s = false →
    exec (.frameMark m crc) s = .next { s with sent := [] })

/-- A slot with a bad CRC, a reserved type or a destination above 32 is replaced by an empty slot and counted in
0x1101:01, and joins no message; the message it belonged to is lost with its next slot (R391). -/
def Obligations.ABadSlotLosesItsMessage : Prop :=
  (∀ (x : Slot) (s : State), hears s = true → s.ring.bypassOpen = true →
    (slotGood x = false ∨ 6 < (slotFields x).typ ∨ 32 < (slotFields x).dst) →
    ∃ t, exec (.dataSlot x) s = .next t ∧ t.sent = [.emptySlot] ∧
      rg t 0x1101 1 = satAdd (sizeOf_ 0x1101 1) (rg s 0x1101 1) 1 ∧ regsExcept [(0x1101, 1)] s t ∧
      unchangedExcept [.wires, .registers] s t) ∧
  (∀ (x : Slot) (f : SlotFields) (p : PartMsg) (s : State), hears s = true → s.ring.bypassOpen = true →
    f = slotFields x → slotGood x = true → 1 ≤ f.typ → f.typ ≤ 6 → f.dst ≤ 32 → f.dst = position s →
    f.src ≠ position s → f.first = false → partOf s f.src f.sess f.msg = some p → p.next < f.num →
    ∃ t, exec (.dataSlot x) s = .next t ∧ t.sent = [.emptySlot] ∧ partOf t f.src f.sess f.msg = none ∧
      t.ring.inbox = s.ring.inbox ∧ rg t 0x1101 3 = satAdd (sizeOf_ 0x1101 3) (rg s 0x1101 3) 1 ∧
      regsExcept [(0x1101, 3)] s t ∧ unchangedExcept [.wires, .registers, .ring] s t)

/-- A good slot, of the types and destinations there are. -/
def Sys2Proof.slotTaken (x : Slot) : Prop := slotGood x = true ∧ (slotFields x).typ ≤ 6 ∧ (slotFields x).dst ≤ 32

/-- A message after its next slot. -/
def Sys2Proof.joinedPart (s : State) (x : Slot) (p : PartMsg) : PartMsg :=
  { p with next := p.next + 1, lastTime := s.pwr.time, data := p.data ++ (slotFields x).data }

/-- Good slots (R390, R392, R393, R398): one for another position is forwarded; an empty one that the module may fill
carries the next slot of its first waiting message; one for this position joins its message in order, and the last one
completes it, if its tag is good; one from another member with this position makes the module leave the ring. A message
is discarded when 100 us pass without its next slot; a request is answered so (R417). -/
def Obligations.SlotsMakeMessages : Prop :=
  (∀ (x : Slot) (f : SlotFields) (s : State), hears s = true → s.ring.bypassOpen = true → f = slotFields x →
    slotTaken x → (f.src ≠ position s ∨ x.own = true) → f.typ ≠ 0 → f.dst ≠ position s →
    exec (.dataSlot x) s = .next { s with sent := [.forwardSlot x] }) ∧
  (∀ (x : Slot) (s : State), hears s = true → s.ring.bypassOpen = true → slotTaken x → (slotFields x).typ = 0 →
    (s.ring.out = [] ∨ mayFill s x.index = false) →
    exec (.dataSlot x) s = .next { s with sent := [.forwardSlot x] }) ∧
  (∀ (x : Slot) (m : OutMsg) (rest : List OutMsg) (s : State), hears s = true → s.ring.bypassOpen = true →
    slotTaken x → (slotFields x).typ = 0 → mayFill s x.index = true → s.ring.out = m :: rest → m.sess = 0 →
    m.opens = 0 →
    ∃ t, exec (.dataSlot x) s = .next t ∧ t.sent = [.forwardSlot (slotOf s x.index m)] ∧
      (m.rest.length ≤ 88 → t.ring.out = rest) ∧
      (88 < m.rest.length → t.ring.out = { m with rest := m.rest.drop 88, num := m.num + 1 } :: rest) ∧
      unchangedExcept [.wires, .ring] s t) ∧
  (∀ (x : Slot) (s : State), hears s = true → s.ring.bypassOpen = true → slotTaken x →
    (slotFields x).src = position s → 1 ≤ (slotFields x).typ → x.own = false →
    ∃ t, exec (.dataSlot x) s = .next t ∧ t.dev = .inert ∧ t.ring.closeAtFrame = true ∧ t.ring.out = [] ∧
      Output.forwardSlot x ∈ t.sent) ∧
  (∀ (x : Slot) (f : SlotFields) (p : PartMsg) (s : State), hears s = true → s.ring.bypassOpen = true →
    f = slotFields x → slotTaken x → f.src ≠ position s → 1 ≤ f.typ → f.dst = position s → f.first = false →
    partOf s f.src f.sess f.msg = some p → p.next = f.num → p.typ = f.typ → f.last = false →
    ∃ t, exec (.dataSlot x) s = .next t ∧ t.sent = [.emptySlot] ∧
      partOf t f.src f.sess f.msg = some (joinedPart s x p) ∧ t.ring.inbox = s.ring.inbox ∧
      unchangedExcept [.wires, .ring] s t) ∧
  (∀ (x : Slot) (f : SlotFields) (p : PartMsg) (body : Bytes) (s : State), hears s = true → s.ring.bypassOpen = true →
    f = slotFields x → slotTaken x → f.src ≠ position s → 1 ≤ f.typ → f.dst = position s → f.first = false →
    partOf s f.src f.sess f.msg = some p → p.next = f.num → p.typ = f.typ → f.last = true →
    openMessage s (joinedPart s x p) = some body → (4 ≤ f.typ ∨ f.typ = 1 ∧ headCode body = 0) →
    ∃ t, exec (.dataSlot x) s = .next t ∧ t.sent = [.emptySlot] ∧ partOf t f.src f.sess f.msg = none ∧
      t.ring.inbox = s.ring.inbox ++ [{ joinedPart s x p with data := body }] ∧ unchangedExcept [.wires, .ring] s t) ∧
  (∀ (x : Slot) (f : SlotFields) (p : PartMsg) (s : State), hears s = true → s.ring.bypassOpen = true →
    f = slotFields x → slotTaken x → f.src ≠ position s → 1 ≤ f.typ → f.dst = position s → f.first = false →
    partOf s f.src f.sess f.msg = some p → p.next = f.num → p.typ = f.typ → f.last = true →
    openMessage s (joinedPart s x p) = none →
    ∃ t, exec (.dataSlot x) s = .next t ∧ t.sent = [.emptySlot] ∧ partOf t f.src f.sess f.msg = none ∧
      t.ring.inbox = s.ring.inbox ∧ rg t 0x1101 3 = satAdd (sizeOf_ 0x1101 3) (rg s 0x1101 3) 1 ∧
      regsExcept [(0x1101, 3)] s t ∧ unchangedExcept [.wires, .registers, .ring] s t) ∧
  (∀ (src sess msg : Nat) (p : PartMsg) (s : State), s.pwr.inReset = false → partOf s src sess msg = some p →
    p.lastTime + 100000 ≤ s.pwr.time →
    ∃ t, exec (.messageTimeout src sess msg) s = .next t ∧ partOf t src sess msg = none ∧
      rg t 0x1101 3 = satAdd (sizeOf_ 0x1101 3) (rg s 0x1101 3) 1 ∧
      (p.typ = 1 → s.ring.bypassOpen = true → (sess = 0 ∨ (sessOf s sess).state = .established) →
        Answers ⟨sess, msg⟩ 0x06000003 [] t) ∧ (p.typ ≠ 1 → t.sent = []) ∧
      regsExcept [(0x1101, 3)] s t ∧ unchangedExcept [.wires, .registers, .ring, .security] s t) ∧
  (∀ (src sess msg : Nat) (p : PartMsg) (s : State), partOf s src sess msg = some p →
    s.pwr.time < p.lastTime + 100000 → exec (.messageTimeout src sess msg) s = .next { s with sent := [] })

/-! ## Reads and blocks -/

/-- A read newly arrived that passes the checks of a read (R10, R394, R405, R419). -/
structure Sys2Proof.Readable (q : Req) (idx sub : Nat) (s : State) : Prop where
  taken : arrival q s = .taken
  sends : s.ring.bypassOpen = true
  room : (sessOf s q.sess).inProgress.length < 16
  present : objExists s idx sub false = true
  session0 : q.sess = 0 → idx = 0x1000 ∨ idx = 0x1100
  access : q.sess ≠ 0 → (accessOf s idx sub (roleOf s q.sess)).reads = true

/-- A request that the module has answered before is answered again with the stored response, is not executed again
and is counted in 0x1101:04; one whose original is still in progress is discarded (R404). The module keeps 16
responses. A request that is neither completed nor in progress and comes while 16 of its session are in progress is
rejected with 0x05000001 (R405); here reads of any object that the role may read. A read is answered with the value,
zeros where the object is gated, and changes nothing but its session's record of responses (R10, R401, R406, R463). -/
def Obligations.RequestsAndReadsAreAnsweredOnce : Prop :=
  (∀ (i : Instr) (q : Req) (r : Response) (s : State), i.wf = true → requestOf i = some q → q.sess ≠ 0 →
    s.pwr.inReset = false → s.ring.bypassOpen = true → (sessOf s q.sess).state = .established →
    (sessOf s q.sess).responses.find? (fun r => r.msg == q.msg) = some r →
    ∃ t, exec i s = .next t ∧ t.sent = [.response q.sess q.msg r.code r.data] ∧
      (sessOf t q.sess).responses = (sessOf s q.sess).responses ∧
      rg t 0x1101 4 = satAdd (sizeOf_ 0x1101 4) (rg s 0x1101 4) 1 ∧ regsExcept [(0x1101, 4)] s t ∧
      unchangedExcept [.wires, .registers, .ring, .security] s t) ∧
  (∀ (i : Instr) (q : Req) (s : State), i.wf = true → requestOf i = some q → q.sess ≠ 0 →
    s.pwr.inReset = false → s.ring.bypassOpen = true → (sessOf s q.sess).state = .established →
    (sessOf s q.sess).responses.find? (fun r => r.msg == q.msg) = none → q.msg ∈ (sessOf s q.sess).inProgress →
    ∃ t, exec i s = .next t ∧ t.sent = [] ∧ t.ring = { s.ring with inbox := t.ring.inbox } ∧
      unchangedExcept [.wires, .ring, .security] s t) ∧
  (∀ (q : Req) (code : W32) (data : Bytes) (s : State), q.sess ≠ 0 →
    (sessOf (completed q code data s) q.sess).responses =
      ((⟨q.msg, code, data⟩ : Response) :: (sessOf s q.sess).responses.filter (fun y => y.msg ≠ q.msg)).take 16) ∧
  (∀ (q : Req) (idx sub len : Nat) (s : State), s.pwr.inReset = false → s.ring.bypassOpen = true → q.sess ≠ 0 →
    (sessOf s q.sess).state = .established → (sessOf s q.sess).responses.find? (fun r => r.msg == q.msg) = none →
    q.msg ∉ (sessOf s q.sess).inProgress → 16 ≤ (sessOf s q.sess).inProgress.length →
    objExists s idx sub false = true → (accessOf s idx sub (sessOf s q.sess).role).reads = true →
    (valueOf s q.sess idx sub).length ≤ 8 → 1 ≤ len → len ≤ 8 →
    ∃ t, exec (.expeditedRead q idx sub len) s = .next t ∧ Answers q 0x05000001 [] t ∧ regsExcept [] s t ∧
      unchangedExcept [.wires, .registers, .ring, .security] s t) ∧
  (∀ (q : Req) (idx sub len : Nat) (i : Instr) (s : State), Readable q idx sub s → 1 ≤ len →
    (i = .expeditedRead q idx sub len ∧ len ≤ 8 ∧ (valueOf s q.sess idx sub).length ≤ 8 ∨
      i = .segmentedRead q idx sub len ∧ len ≤ 65536 ∧ (valueOf s q.sess idx sub).length ≤ 65536 ∨
      i = .attestationQuote q ∧ idx = 0x9020 ∧ sub = 2 ∧ (valueOf s q.sess idx sub).length ≤ 65536) →
    ∃ t, exec i s = .next t ∧ Answers q 0 (valueOf s q.sess idx sub) t ∧
      unchangedExcept [.wires, .ring, .security] s t) ∧
  (∀ (sess idx sub : Nat) (s : State), 1 ≤ sub → gatedObj s idx sub = true →
    ∀ b ∈ valueOf s sess idx sub, b = 0)

/-- A block of a block write that fits its transfer (R402). -/
def Sys2Proof.blockFits (b : Block) (x : Transfer) : Prop :=
  blockGood b = true ∧ b.num < blockTotal x.len ∧ b.data.length = blockLen x.len b.num

/-- A block write's transfer with one more block. -/
def Sys2Proof.withBlock (b : Block) (x : Transfer) : Transfer := { x with blocks := put b.num b.data x.blocks }

/-- A block that comes for a block write in an established session, not kept yet. -/
structure Sys2Proof.BlockComes (b : Block) (x : Transfer) (s : State) : Prop where
  heard : hears s = true
  sends : s.ring.bypassOpen = true
  kind : b.bulk = false ∧ b.sess ≠ 0
  established : (sessOf s b.sess).state = .established
  transfer : transferOf s true b.sess b.msg = some x
  new : lookup b.num x.blocks = none

/-- The acknowledgement of a block. -/
def Sys2Proof.ackOf (b : Block) (status : Nat) : Output := .blockAck ⟨b.sess, b.bulk, b.chan, b.msg, b.num, status⟩

/-- A block read (R402, R403): answered with the length, its first blocks sent, at most 8 unacknowledged; a block not
acknowledged within 1 ms, or acknowledged as bad, is sent again, after 8 resends the transfer ends with 0x06000004,
and the last acknowledgement completes it. A block write begins when its request is answered, after the checks that
need no data, with the settings that it depends on kept (R403, R407); of a firmware image, 0x9010:02 then reads
receiving (R426). Its blocks (R402, R403): a good one is kept and acknowledged; a bad one is asked for again, 8 times
at most; after the last one the value is written and answered, by the settings of the acceptance. -/
def Obligations.BlocksAreSentAndTaken : Prop :=
  (∀ (q : Req) (idx sub len : Nat) (v : Bytes) (s : State), Readable q idx sub s → 1 ≤ len → len ≤ 2 ^ 32 →
    v = valueOf s q.sess idx sub → v ≠ [] → v.length ≤ 2 ^ 32 →
    ∃ t x, exec (.blockRead q idx sub len) s = .next t ∧ Output.blockBegin q.sess q.msg v.length ∈ t.sent ∧
      Output.block (blockOfData q.sess false 0 q.msg 0 (v.take 65536)) ∈ t.sent ∧
      transferOf t false q.sess q.msg = some x ∧ x.blocks = cutBlocks v ∧ x.next = min 8 x.blocks.length ∧
      x.unacked.length = x.next ∧ q.msg ∈ (sessOf t q.sess).inProgress ∧
      unchangedExcept [.wires, .ring, .security] s t) ∧
  (∀ (a : BlockAck) (x : Transfer) (since : Nat) (s : State), hears s = true → s.ring.bypassOpen = true →
    a.bulk = false → a.sess ≠ 0 → (sessOf s a.sess).state = .established →
    transferOf s false a.sess a.msg = some x → a.status = 0 → x.unacked = [(a.num, since)] →
    x.blocks.length ≤ x.next →
    ∃ t, exec (.blockAcknowledgement a) s = .next t ∧ t.sent = [] ∧ transferOf t false a.sess a.msg = none ∧
      a.msg ∉ (sessOf t a.sess).inProgress ∧ unchangedExcept [.wires, .ring, .security] s t) ∧
  (∀ (a : BlockAck) (x : Transfer) (since : Nat) (i : Instr) (s : State), hears s = true → s.ring.bypassOpen = true →
    a.bulk = false → a.sess ≠ 0 → (sessOf s a.sess).state = .established →
    transferOf s false a.sess a.msg = some x → (a.num, since) ∈ x.unacked → at_ 0 a.num x.resent < 8 →
    (i = .blockAcknowledgement a ∧ a.status ≠ 0 ∨ i = .blockAckTimeout a ∧ since + 1000000 ≤ s.pwr.time) →
    ∃ t y, exec i s = .next t ∧
      t.sent = [.block (blockOfData a.sess false 0 a.msg a.num (at_ [] a.num x.blocks))] ∧
      transferOf t false a.sess a.msg = some y ∧ at_ 0 a.num y.resent = at_ 0 a.num x.resent + 1 ∧
      y.blocks = x.blocks ∧ (a.num, s.pwr.time) ∈ y.unacked ∧ unchangedExcept [.wires, .ring] s t) ∧
  (∀ (a : BlockAck) (x : Transfer) (since : Nat) (s : State), hears s = true → s.ring.bypassOpen = true →
    a.bulk = false → a.sess ≠ 0 → (sessOf s a.sess).state = .established →
    transferOf s false a.sess a.msg = some x → (a.num, since) ∈ x.unacked → 8 ≤ at_ 0 a.num x.resent →
    since + 1000000 ≤ s.pwr.time →
    ∃ t, exec (.blockAckTimeout a) s = .next t ∧ Answers ⟨a.sess, a.msg⟩ 0x06000004 [] t ∧
      transferOf t false a.sess a.msg = none ∧ unchangedExcept [.wires, .ring, .security] s t) ∧
  (∀ (q : Req) (idx sub len : Nat) (i : Instr) (s : State), arrival q s = .taken → s.ring.bypassOpen = true →
    blockWriteCode q idx sub len s = 0 →
    (i = .blockWrite q idx sub len ∨ i = .firmwareImageWrite q len ∧ idx = 0x9010 ∧ sub = 1) →
    ∃ t x, exec i s = .next t ∧ t.sent = [.blockBegin q.sess q.msg len] ∧
      transferOf t true q.sess q.msg = some x ∧ x.idx = idx ∧ x.sub = sub ∧ x.len = len ∧ x.blocks = [] ∧
      x.regs = s.regs ∧ q.msg ∈ (sessOf t q.sess).inProgress ∧
      (idx = 0x9010 → rg t 0x9010 2 = 1 ∧ (pendOf t .firmware).isSome = true) ∧ (idx ≠ 0x9010 → t.regs = s.regs) ∧
      regsExcept [(0x9010, 2)] s t ∧ unchangedExcept [.wires, .registers, .ring, .security] s t) ∧
  (∀ (b : Block) (x : Transfer) (s : State), BlockComes b x s → blockFits b x →
    (withBlock b x).blocks.length ≠ blockTotal x.len →
    ∃ t, exec (.blockData b) s = .next t ∧ t.sent = [ackOf b 0] ∧
      transferOf t true b.sess b.msg = some (withBlock b x) ∧ unchangedExcept [.wires, .ring] s t) ∧
  (∀ (b : Block) (x : Transfer) (s : State), BlockComes b x s → blockFits b x →
    (withBlock b x).blocks.length = blockTotal x.len → x.idx = 0x9010 →
    ∃ t, exec (.blockData b) s = .next t ∧ t.sent = [ackOf b 0] ∧ rg t 0x9010 2 = 2 ∧
      regsExcept [(0x9010, 2)] s t ∧ unchangedExcept [.wires, .registers, .ring] s t) ∧
  (∀ (b : Block) (x : Transfer) (q : Req) (v : Bytes) (before : State) (s : State), BlockComes b x s → blockFits b x →
    (withBlock b x).blocks.length = blockTotal x.len → x.idx ∈ plainIndexes → q = ⟨b.sess, b.msg⟩ →
    v = joinBlocks (withBlock b x) → before = asAccepted x (leaveProgress q (dropTransfer x s)) →
    writeCode q 0 x.idx x.sub v (ruleOf q x.idx x.sub v before) before = 0 →
    ∃ t, exec (.blockData b) s = .next t ∧ ackOf b 0 ∈ t.sent ∧ Answers q 0 [] t ∧ Logged q x.idx x.sub t ∧
      rg t x.idx x.sub = leNat v ∧ transferOf t true b.sess b.msg = none ∧ regsExcept [(x.idx, x.sub)] s t) ∧
  (∀ (b : Block) (x : Transfer) (s : State), BlockComes b x s → ¬ blockFits b x → at_ 0 b.num x.resent < 8 →
    ∃ t, exec (.blockData b) s = .next t ∧ t.sent = [ackOf b 1] ∧ transferOf t true b.sess b.msg =
        some { x with resent := set_ 0 b.num (at_ 0 b.num x.resent + 1) x.resent } ∧
      unchangedExcept [.wires, .ring] s t) ∧
  (∀ (b : Block) (x : Transfer) (s : State), BlockComes b x s → ¬ blockFits b x → 8 ≤ at_ 0 b.num x.resent →
    x.idx ≠ 0x9010 →
    ∃ t, exec (.blockData b) s = .next t ∧ Answers ⟨b.sess, b.msg⟩ 0x06000004 [] t ∧
      transferOf t true b.sess b.msg = none ∧ regsExcept [] s t)

/-! ## Bulk channels -/

/-- A channel as an open leaves it, before any block is sent. -/
def Sys2Proof.openedChan (q : Req) (o : BulkOpen) : BulkChan :=
  { state := 1, dir := o.direction, sess := q.sess, msg := q.msg, buffer := o.buffer, offset := o.offset
    length := o.length }

/-- The byte counts of the partitions (0x4021). -/
def Sys2Proof.partCounts : List (Nat × Nat) := (List.range 256).map (fun j => (0x4021, j))

/-- Bulk channels (R410, R411). BULK_OPEN: a channel to the module waits for blocks, one from the module sends its first
blocks, at most 8 unacknowledged, while its memory is served. BULK_CLOSE: the channel is closed and its unacknowledged
blocks discarded. A good block of BLOCK_DATA for a channel waits to be written; written, it is in memory and acknowledged
with status 0, and on a closed channel with status 1 and no effect. -/
def Obligations.BulkChannelsMoveTheirRange : Prop :=
  (∀ (q : Req) (o : BulkOpen) (s : State), (Instr.bulkOpen q o).wf = true → Ready q .tenant s →
    Writable .tenant 0x1200 1 (openBytes o) s → ((chanOf s o.chan).state = 0 ∨ (chanOf s o.chan).state = 2) →
    bufferHeld s o.buffer = false → openOk s o = true → o.reserved = 0 →
    ∃ t, exec (.bulkOpen q o) s = .next t ∧ Answers q 0 [] t ∧ Logged q 0x1200 1 t ∧
      ((o.direction = 0 ∨ bufferServed s o.buffer = false) → chanOf t o.chan = openedChan q o) ∧
      (o.direction = 1 → bufferServed s o.buffer = true →
        (chanOf t o.chan).next = min 8 (blockTotal o.length) ∧
        (chanOf t o.chan).unacked.length = (chanOf t o.chan).next ∧ (chanOf t o.chan).state = 1) ∧
      (∀ c, c ≠ o.chan → chanOf t c = chanOf s c) ∧ regsExcept ((0x2010, 1) :: partCounts) s t ∧
      unchangedExcept [.wires, .freeCounter, .registers, .memory, .ring, .security] s t) ∧
  (∀ (q : Req) (c : Nat) (s : State), c < 256 → Ready q .tenant s → Writable .tenant 0x1200 2 (leBytes 1 c) s →
    ∃ t, exec (.bulkClose q c) s = .next t ∧ Answers q 0 [] t ∧ Logged q 0x1200 2 t ∧
      (chanOf t c).state = 0 ∧ (chanOf t c).unacked = [] ∧ (∀ k, k ≠ c → chanOf t k = chanOf s k) ∧ regsExcept [] s t ∧
      unchangedExcept [.wires, .registers, .ring, .security] s t) ∧
  (∀ (b : Block) (x : BulkChan) (s : State), hears s = true → b.bulk = true → b.sess ≠ 0 →
    (sessOf s b.sess).state = .established → roleOf s b.sess = .tenant → b.chan < 8 → x = chanOf s b.chan →
    (x.state = 1 ∨ x.state = 2) → x.msg = b.msg → x.dir = 0 → b.num ∉ x.done → blockGood b = true →
    b.num < blockTotal x.length → b.data.length = blockLen x.length b.num → bufferServed s x.buffer = true →
    ∃ t, exec (.blockData b) s = .next t ∧ t.sent = [] ∧ chanOf t b.chan = { x with
        unacked := x.unacked.filter (fun p => p.1 ≠ b.num) ++ [(b.num, s.pwr.time)] } ∧
      (∀ k, k ≠ b.chan → chanOf t k = chanOf s k) ∧ unchangedExcept [.wires, .ring] s t) ∧
  (∀ (c num : Nat) (data : Bytes) (s : State), hears s = true → s.ring.bypassOpen = true → c < 8 →
    (chanOf s c).state = 0 →
    ∃ t, exec (.bulkBlockWritten c num data) s = .next t ∧
      t.sent = [.blockAck ⟨(chanOf s c).sess, true, c, (chanOf s c).msg, num, 1⟩] ∧ t.ring.channels = s.ring.channels ∧
      unchangedExcept [.wires, .ring] s t) ∧
  (∀ (c num since a : Nat) (x : BulkChan) (data : Bytes) (s : State), s.canonical → hears s = true →
    s.ring.bypassOpen = true → c < 8 → x = chanOf s c →
    a = (bufferIn s.regs x.buffer).1 + x.offset + 65536 * num → x.state = 1 → x.dir = 0 →
    (num, since) ∈ x.unacked → num ∉ x.done → memServes s a = true →
    ∃ t, exec (.bulkBlockWritten c num data) s = .next t ∧
      t.sent = [.blockAck ⟨x.sess, true, c, x.msg, num, 0⟩] ∧
      (∀ y, a ≤ y → y < a + data.length → byteAt t y = data.getD (y - a) 0) ∧
      (∀ y, y < a ∨ a + data.length ≤ y → byteAt t y = byteAt s y) ∧
      (chanOf t c).acked = x.acked + blockLen x.length num ∧
      (x.done.length + 1 = blockTotal x.length → (chanOf t c).state = 2) ∧
      (x.done.length + 1 ≠ blockTotal x.length → (chanOf t c).state = 1) ∧
      (∀ k, k ≠ c → chanOf t k = chanOf s k) ∧ regsExcept ((0x2010, 1) :: partCounts) s t ∧
      unchangedExcept [.wires, .freeCounter, .registers, .memory, .ring] s t)

/-! ## Events -/

/-- Queued events are sent in order to their audience's session, a lost-event report before them (R414). -/
def Obligations.EventsAreSentInOrder : Prop :=
  (∀ (s : State), (hears s = false ∨ s.ring.bypassOpen = false ∨ s.ring.lost = [] ∧ s.ring.queue = []) →
    exec .eventTransmit s = .next { s with sent := [] }) ∧
  (∀ (e : Event) (rest : List Event) (s : State), hears s = true → s.ring.bypassOpen = true → s.ring.lost = [] →
    s.ring.queue = e :: rest →
    ∃ t, exec .eventTransmit s = .next t ∧ t.ring.queue = rest ∧
      ((sessionOf s (if e.aud = 1 then .operator else .tenant)).isSome = true → t.sent = [.event e]) ∧
      ((sessionOf s (if e.aud = 1 then .operator else .tenant)).isSome = false → t.sent = []) ∧
      unchangedExcept [.wires, .ring] s t) ∧
  (∀ (k n : Nat) (rest : List (Nat × Nat)) (s : State), hears s = true → s.ring.bypassOpen = true →
    s.ring.lost = (k, n) :: rest → (k % 4 = 1 ∨ k % 4 = 2) → s.ring.queue.length < 256 →
    (sessionOf s (if k % 4 = 1 then .operator else .tenant)).isSome = true →
    ∃ t e, exec .eventTransmit s = .next t ∧ t.sent.head? = some (.event e) ∧ e.code = 0x0040 ∧ e.aud = k % 4 ∧
      e.payload = leBytes 2 (k / 4) ++ leBytes 4 n ∧ e.seq = rg s 0x1300 (k % 4) ∧
      rg t 0x1300 (k % 4) = (rg s 0x1300 (k % 4) + 1) % 2 ^ 32 ∧ t.ring.queue = s.ring.queue.tail ∧
      t.ring.lost = s.ring.lost.filter (fun p => p.1 ≠ k) ∧ unchangedExcept [.wires, .registers, .ring] s t)

/-! ## Sessions, keys and firmware -/

/-- The newest entry of the audit log is of a session: of its start (kind 2) or its end (kind 3). -/
def Sys2Proof.sessionLogged (n kind : Nat) (t : State) : Prop :=
  ∃ e rest, t.sec.log = e :: rest ∧ e.index = 0x9001 ∧ e.sub = n ∧ e.kind = kind ∧ e.sess = n

/-- A finish that establishes its session (R449): in time, its signature good, its role allowed in the device state. -/
structure Sys2Proof.Finishes (m : FinishMsg) (s : State) : Prop where
  hears : hears s = true
  sends : s.ring.bypassOpen = true
  begun : (sessOf s m.sess).state = .establishing
  signed : m.sigGood = true
  inTime : s.pwr.time ≤ (sessOf s m.sess).replyAt + 1000000000
  allowed : (sessOf s m.sess).role = .tenant → s.dev ≠ .inert ∧ s.dev ≠ .faulted
  flash : s.sec.flashFull = false

/-- What an established session leaves: the result sent, the session with its keys, the other sessions as they were. -/
structure Sys2Proof.Established (m : FinishMsg) (s t : State) : Prop where
  sent : t.sent = [.result m.sess 3 0]
  session : sessOf t m.sess = keyedSession m s (sessOf s m.sess)
  others : ∀ k, k ≠ m.sess → sessOf t k = sessOf s k
  device : t.dev = s.dev

/-- Establishment that is refused: the code sent in clear and counted, in the registers nothing but the count. -/
structure Sys2Proof.Refused (o : Output) (s t : State) : Prop where
  sent : t.sent = [o]
  counted : rg t 0xF000 4 = satAdd (sizeOf_ 0xF000 4) (rg s 0xF000 4) 1
  log : t.sec.log = s.sec.log
  regs : regsExcept [] s t
  frame : unchangedExcept [.wires, .registers, .ring, .security] s t

/-- Session establishment (R445 to R453). A HELLO of an admitted key takes a free session and is answered; without an
admitted key, or without a free session, it is refused and counted. A FINISH in time with a good signature establishes
the session with the keys of R450 and logs it; for the TENANT it closes the test port, ends a self-test and a generator
of area 1, and binds the tenant; with no OPERATOR key enrolled it enrols the first one; any other FINISH of a session
that is being established frees it and is counted. One second after the reply without a FINISH the session is free
again; a CLOSE in its session ends it with what it had in progress, and logs its end. -/
def Obligations.SessionsComeAndGo : Prop :=
  (∀ (msg role rsv n : Nat) (key : W256) (s : State), hears s = true → s.ring.bypassOpen = true →
    admits s role key = true → freeSession s role = some n →
    ∃ t, exec (.hello msg role key rsv) s = .next t ∧ t.sent = [.reply msg n 0] ∧
      sessOf t n = { state := .establishing, role := roleOfCode role, key := key, replyAt := s.pwr.time } ∧
      (∀ k, k ≠ n → sessOf t k = sessOf s k) ∧ unchangedExcept [.wires, .freeCounter, .ring, .security] s t) ∧
  (∀ (msg role rsv : Nat) (code : W32) (key : W256) (s : State), hears s = true → s.ring.bypassOpen = true →
    (admits s role key = false ∧ code = 0x04800002 ∨
      admits s role key = true ∧ freeSession s role = none ∧ code = 0x05800001) →
    ∃ t, exec (.hello msg role key rsv) s = .next t ∧ Refused (.reply msg 0 code) s t ∧
      t.sec.sessions = s.sec.sessions) ∧
  (∀ (m : FinishMsg) (s : State), Finishes m s → (sessOf s m.sess).role = .tenant →
    ∃ t, exec (.finish m) s = .next t ∧ Established m s t ∧ sessionLogged m.sess 2 t ∧ rg t 0xB020 1 = 0 ∧
      t.sec.bound = some (s.sec.bound.getD (sessOf s m.sess).key) ∧ t.test.selfTest = none ∧
      (s.test.selfTest.isSome = true → rg t 0xB010 2 = 3) ∧
      (∀ r, s.mem.gen = some r → r.req.area = 1 → t.mem.gen = none ∧ rg t 0x4010 2 = 4) ∧
      regsExcept [(0x4010, 2), (0xB010, 2), (0xB020, 1)] s t ∧
      unchangedExcept [.wires, .freeCounter, .registers, .sites, .memory, .ring, .security, .power, .test] s t) ∧
  (∀ (m : FinishMsg) (s : State), Finishes m s → (sessOf s m.sess).role = .operator → enrolled s 0x9003 = [] →
    ∃ t, exec (.finish m) s = .next t ∧ Established m s t ∧ rg t 0x9003 1 = (sessOf s m.sess).key.toNat ∧
      (∃ a e rest, t.sec.log = a :: e :: rest ∧ a.index = 0x9003 ∧ a.sub = 1 ∧ a.kind = 4 ∧
        e.index = 0x9001 ∧ e.sub = m.sess ∧ e.kind = 2 ∧ e.sess = m.sess) ∧
      regsExcept [(0x9003, 1)] s t ∧ unchangedExcept [.wires, .registers, .ring, .security] s t) ∧
  (∀ (m : FinishMsg) (s : State), Finishes m s → (sessOf s m.sess).role ≠ .tenant →
    ((sessOf s m.sess).role = .operator → enrolled s 0x9003 ≠ []) →
    ∃ t, exec (.finish m) s = .next t ∧ Established m s t ∧ sessionLogged m.sess 2 t ∧ regsExcept [] s t ∧
      unchangedExcept [.wires, .registers, .ring, .security] s t) ∧
  (∀ (m : FinishMsg) (s : State), hears s = true → s.ring.bypassOpen = true →
    (sessOf s m.sess).state = .establishing →
    (m.sigGood = false ∨ (sessOf s m.sess).replyAt + 1000000000 < s.pwr.time ∨
      (sessOf s m.sess).role = .tenant ∧ (s.dev = .inert ∨ s.dev = .faulted)) →
    ∃ t, exec (.finish m) s = .next t ∧ Refused (.result 0 3 0x04800002) s t ∧ sessOf t m.sess = {} ∧
      (∀ k, k ≠ m.sess → sessOf t k = sessOf s k)) ∧
  (∀ (n : Nat) (s : State), s.pwr.inReset = false → (sessOf s n).state = .establishing →
    (sessOf s n).replyAt + 1000000000 < s.pwr.time →
    ∃ t, exec (.finishTimeout n) s = .next t ∧ t.sent = [] ∧ sessOf t n = {} ∧
      (∀ k, k ≠ n → sessOf t k = sessOf s k) ∧
      rg t 0xF000 4 = satAdd (sizeOf_ 0xF000 4) (rg s 0xF000 4) 1 ∧ regsExcept [] s t ∧
      unchangedExcept [.wires, .registers, .security] s t) ∧
  (∀ (n : Nat) (s : State), hears s = true → n ≠ 0 → (sessOf s n).state = .established →
    ∃ t, exec (.close n n) s = .next t ∧ t.sent = [] ∧ sessOf t n = {} ∧
      (∀ k, k ≠ n → sessOf t k = sessOf s k) ∧ sessionLogged n 3 t ∧
      t.ring.transfers = s.ring.transfers.filter (fun x => x.sess ≠ n) ∧ (∀ p ∈ t.ring.parts, p.sess ≠ n) ∧
      t.ring.channels = (if (sessOf s n).role = .tenant then [] else s.ring.channels) ∧
      regsExcept [(0x9010, 2)] s t ∧ unchangedExcept [.wires, .registers, .ring, .security] s t)

/-- A key message of a session that the module hears (R454): the session established, of a role, the log writable. -/
structure Sys2Proof.KeyHeard (q : Req) (r : Role) (s : State) : Prop where
  hears : hears s = true
  sends : s.ring.bypassOpen = true
  sess : q.sess ≠ 0
  established : (sessOf s q.sess).state = .established
  role : (sessOf s q.sess).role = r
  flash : s.sec.flashFull = false

/-- A key message taken: its result sent in its session, and an entry of kind 1 for its object. -/
def Sys2Proof.KeyTaken (q : Req) (num idx sub : Nat) (t : State) : Prop :=
  t.sent = [.result q.sess num 0] ∧
    ∃ e rest, t.sec.log = e :: rest ∧ e.index = idx ∧ e.sub = sub ∧ e.kind = 1 ∧ e.sess = q.sess

/-- The key commands, with the number of their result. -/
def Sys2Proof.keyCommand (q : Req) : Instr → Option Nat
  | .fabricKeyInstall p _ _ => if p = q then some 0x10 else none
  | .regionKeyInstall p _ _ _ _ _ => if p = q then some 0x11 else none
  | .regionRemove p _ _ => if p = q then some 0x12 else none
  | _ => none

/-- Keys of the TENANT session (R454, R458 to R460). FABRIC_KEY_INSTALL keeps the key for the next setup of flow
contexts and counts it in 0x9040:01. REGION_KEY_INSTALL installs its region in place of the one of its number, and
REGION_REMOVE takes it out; the contents of what either changes are undefined and carry no error. Each is logged as a key
entry and answered in its session. A key message of another role, in a device state that does not allow it, or with a
region or a reserved field out of range, is answered with its code, counted as rejected, and changes nothing. LEAVE
destroys the keys, draws a new module key and leaves no byte of tenant memory readable; TENANT_STATE_ERASED ends the
erasure. -/
def Obligations.TenantKeysAreInstalledAndDestroyed : Prop :=
  (∀ (q : Req) (key : W256) (s : State), KeyHeard q .tenant s → s.dev ≠ .inert → s.dev ≠ .faulted →
    ∃ t, exec (.fabricKeyInstall q 0 key) s = .next t ∧ KeyTaken q 0x10 0x9040 1 t ∧ t.sec.fabricKey = some key ∧
      rg t 0x9040 1 = satAdd (sizeOf_ 0x9040 1) (rg s 0x9040 1) 1 ∧ regsExcept [(0x9040, 1)] s t ∧
      unchangedExcept [.wires, .registers, .ring, .security] s t) ∧
  (∀ (q : Req) (n base len : Nat) (key : BitVec 512) (s : State), KeyHeard q .tenant s → s.dev = .joined →
    regionOk s n base len = true →
    ∃ t, exec (.regionKeyInstall q n 0 base len key) s = .next t ∧ KeyTaken q 0x11 0x9030 (n + 1) t ∧
      t.sec.regions = s.sec.regions.filter (fun x => x.num ≠ n) ++ [⟨n, base, len, key⟩] ∧
      (∀ p ∈ t.mem.cells, p.1 < base ∨ base + len ≤ p.1) ∧ t.mem.epoch ≠ s.mem.epoch ∧
      (∀ k ∈ t.mem.poison, sectorAddr s k < base ∨ base + len ≤ sectorAddr s k) ∧ regsExcept [] s t ∧
      unchangedExcept [.wires, .registers, .memory, .ring, .security] s t) ∧
  (∀ (q : Req) (n : Nat) (s : State), KeyHeard q .tenant s → s.dev = .joined → n < 16 →
    ∃ t, exec (.regionRemove q n 0) s = .next t ∧ KeyTaken q 0x12 0x9030 (n + 1) t ∧
      t.sec.regions = s.sec.regions.filter (fun x => x.num ≠ n) ∧
      (∀ r, s.sec.regions.find? (fun r => r.num == n) = some r →
        ∀ p ∈ t.mem.cells, p.1 < r.base ∨ r.base + r.length ≤ p.1) ∧ regsExcept [] s t ∧
      unchangedExcept [.wires, .registers, .memory, .ring, .security] s t) ∧
  (∀ (i : Instr) (q : Req) (r : Role) (num : Nat) (code : W32) (s : State), keyCommand q i = some num →
    KeyHeard q r s →
    (r ≠ .tenant ∧ code = 0x0180FF01 ∨
      r = .tenant ∧ num = 0x10 ∧ (s.dev = .inert ∨ s.dev = .faulted) ∧ code = 0x03800003 ∨
      r = .tenant ∧ num ≠ 0x10 ∧ s.dev ≠ .joined ∧ code = 0x0380FF01 ∨
      r = .tenant ∧ s.dev = .joined ∧ code = 0x0280FF02 ∧
        (∃ rsv key, rsv ≠ 0 ∧ i = .fabricKeyInstall q rsv key) ∨
      r = .tenant ∧ s.dev = .joined ∧ code = 0x0280FF01 ∧
        (∃ n rsv base len key, regionOk s n base len = false ∧ i = .regionKeyInstall q n rsv base len key) ∨
      r = .tenant ∧ s.dev = .joined ∧ code = 0x0280FF01 ∧ (∃ n rsv, 16 ≤ n ∧ i = .regionRemove q n rsv)) →
    ∃ t, exec i s = .next t ∧ Refused (.result q.sess num code) s t ∧ t.sec.regions = s.sec.regions ∧
      t.sec.fabricKey = s.sec.fabricKey ∧ t.sec.sessions = s.sec.sessions) ∧
  (∀ (q : Req) (s : State), Ready q .operator s → Writable .operator 0x2000 1 (leBytes 1 2) s → s.dev ≠ .inert →
    ∃ t, exec (.leave q) s = .next t ∧ t.sec.fabricKey = none ∧ t.sec.regions = [] ∧ t.sec.baseKey = none ∧
      (∃ k, s.freeCtr ≤ k ∧ t.sec.moduleKey = some (Config.random256 k) ∧ t.freeCtr = k + 1) ∧
      t.sec.erasing = true ∧ ∀ c ∈ t.mem.cells, 0x16760000000 ≤ c.1) ∧
  (∀ s : State, exec .tenantStateErased s = .next { s with sent := [], sec := { s.sec with erasing := false } })

/-- A session whose key a write of an enrolment list has taken off it: one of the list's role, with the key that was
replaced, which the list holds no more. -/
def Sys2Proof.unlistedBy (idx sub n : Nat) (key : W256) (s : State) : Prop :=
  1 ≤ n ∧ n ≤ 7 ∧ roleOf s n = (if idx = 0x9003 then .operator else .auditor) ∧
    (sessOf s n).key = BitVec.ofNat 256 (rg s idx sub) ∧
    (sessOf s n).key ∉ enrolled (withRg idx sub key.toNat s) idx

/-- ENROLMENT_WRITE (R445, R452): a key identity that leaves 0x9003 non-empty is taken, logged and answered, and the
sessions whose key it has replaced end; one that would empty 0x9003 is rejected. FIRMWARE_WRITE_COMPLETE (R426, R441,
R444): an image of good format and signature replaces the stored one, with the write and the replacement logged,
0x9010:02 reading written and :03 its version; in recovery the module then resets itself. Any other image leaves the old
one, and 0x9010:02 reads failed. -/
def Obligations.EnrolmentAndFirmwareAreReplacedOrKept : Prop :=
  (∀ (q : Req) (idx sub : Nat) (key : W256) (s : State), (idx = 0x9003 ∨ idx = 0x9004) → Ready q .operator s →
    Writable .operator idx sub (identBytes key) s →
    (idx = 0x9003 → enrolled (withRg idx sub key.toNat s) 0x9003 ≠ []) →
    ∃ t, exec (.enrolmentWrite q idx sub key) s = .next t ∧ rg t idx sub = key.toNat ∧ Answers q 0 [] t ∧
      (∃ e ∈ t.sec.log, e.position = rg s 0xF000 1 ∧ e.index = idx ∧ e.sub = sub ∧ e.sess = q.sess ∧ e.kind = 0) ∧
      (∀ n, unlistedBy idx sub n key s → sessOf t n = {}) ∧
      (∀ n, ¬ unlistedBy idx sub n key s → n ≠ q.sess → sessOf t n = sessOf s n) ∧
      regsExcept [(idx, sub), (0x9010, 2)] s t ∧ unchangedExcept [.wires, .registers, .ring, .security] s t) ∧
  (∀ (q : Req) (sub : Nat) (key : W256) (s : State), Ready q .operator s →
    Writable .operator 0x9003 sub (identBytes key) s → enrolled (withRg 0x9003 sub key.toNat s) 0x9003 = [] →
    ∃ t, exec (.enrolmentWrite q 0x9003 sub key) s = .next t ∧ Answers q 0x0280FF01 [] t ∧
      t.sec.log = s.sec.log ∧ regsExcept [] s t ∧ unchangedExcept [.wires, .registers, .ring, .security] s t) ∧
  (∀ (img : FwImage) (p : PendWrite) (s : State), s.pwr.inReset = false → s.ring.bypassOpen = true →
    pendOf s .firmware = some p → rg s 0x9010 2 = 2 → firmwareOk s img = true → s.sec.flashFull = false →
    s.sec.recovery = false →
    ∃ t, exec (.firmwareWriteComplete img true) s = .next t ∧ t.sec.fwStored = some img ∧ rg t 0x9010 2 = 3 ∧
      rg t 0x9010 3 = img.version % 2 ^ 32 ∧ Answers p.q 0 [] t ∧
      (∃ a e rest, t.sec.log = a :: e :: rest ∧ a.index = 0x9010 ∧ a.kind = 5 ∧ e.index = 0x9010 ∧ e.sub = 1 ∧
        e.sess = p.q.sess ∧ e.kind = 0 ∧ e.digest = img.digest) ∧
      regsExcept [(0x9010, 2), (0x9010, 3)] s t ∧ unchangedExcept [.wires, .registers, .ring, .security] s t) ∧
  (∀ (img : FwImage) (p : PendWrite) (s : State), s.pwr.inReset = false → s.ring.bypassOpen = true →
    pendOf s .firmware = some p → rg s 0x9010 2 = 2 → firmwareOk s img = true → s.sec.flashFull = false →
    s.sec.recovery = true →
    ∃ t, exec (.firmwareWriteComplete img true) s = .next t ∧ t.sec.fwStored = some img ∧ Answers p.q 0 [] t ∧
      AfterReset t ∧ t.straps = s.straps) ∧
  (∀ (img : FwImage) (good : Bool) (code : Nat) (p : PendWrite) (s : State), s.pwr.inReset = false →
    s.ring.bypassOpen = true → pendOf s .firmware = some p → rg s 0x9010 2 = 2 →
    (firmwareOk s img = false ∧ code = 0x02800001 ∨
      firmwareOk s img = true ∧ good = false ∧ code = 0x04800001 ∨
      firmwareOk s img = true ∧ good = true ∧ s.sec.flashFull = true ∧ code = 0x05800002) →
    ∃ t, exec (.firmwareWriteComplete img good) s = .next t ∧ t.sec.fwStored = s.sec.fwStored ∧ rg t 0x9010 2 = 4 ∧
      Answers p.q code [] t ∧ t.sec.log = s.sec.log ∧ pendOf t .firmware = none ∧
      regsExcept [(0x9010, 2)] s t ∧ unchangedExcept [.wires, .registers, .ring, .security] s t)

/-! ## The ring clock, time and power -/

/-- What a change of the time reference leaves alone: device time and everything but 0xA010:03 and the clocks. -/
structure Sys2Proof.TimeKept (s t : State) : Prop where
  time : t.pwr.time = s.pwr.time
  regs : regsExcept [(0xA010, 3)] s t
  frame : unchangedExcept [.wires, .registers, .power] s t

/-- The ring clock (R481, R482): without it memory serves nothing, while the module stays as it is and device time goes
on; when it returns every link that was up retrains and is counted, one of those whose retrain has failed is down and a
stack without refresh for more than 16 ms has failed, either with the module FAULTED. The time reference (R479, R480):
lost for more than 10 us, it is reported and device time goes on unslewed; returned, trimming goes on; with the external
reference a PPS edge sets the slew that brings device time to the nearest second, locked within 20 ns. Frame marks that
still come are no loss. Device time itself is never set. -/
def Obligations.ClocksAreFollowed : Prop :=
  (∀ s : State,
    ∃ t, exec .ringClockLoss s = .next t ∧ t.ring = { s.ring with clock := false, parts := [] } ∧
      t.pwr = { s.pwr with symbolLock := false, lastFrameAt := none, goodFrames := 0 } ∧
      (∀ a, memServes t a = false) ∧ unchangedExcept [.wires, .ring, .power] s t) ∧
  (∀ s : State, s.pwr.inReset = false → s.ring.clock = false → (∀ k, k < 20 → refreshLost s k = false) →
    (∀ k, 1 ≤ k → k ≤ 6 → (linkOf s k).recent.length < 16) →
    ∃ t, exec (.ringClockReturn []) s = .next t ∧ t.ring = { s.ring with clock := true } ∧
      (∀ k, 1 ≤ k → k ≤ 6 → ((linkOf s k).state = 2 ∨ (linkOf s k).state = 3) → (linkOf t k).state = 3 ∧
        rg t 0x6E02 k = satAdd (sizeOf_ 0x6E02 k) (rg s 0x6E02 k) 1) ∧
      (∀ k, 1 ≤ k → k ≤ 6 → (linkOf s k).state ≠ 2 → (linkOf s k).state ≠ 3 → linkOf t k = linkOf s k) ∧
      t.dev = s.dev ∧ regsExcept ((List.range 6).map (fun k => (0x6E02, k + 1))) s t ∧
      unchangedExcept [.wires, .registers, .links, .ring] s t) ∧
  (∀ (down : List Nat) (s : State), s.pwr.inReset = false → s.ring.clock = false →
    ∃ t, exec (.ringClockReturn down) s = .next t ∧ t.ring.clock = true ∧
      (∀ k ∈ down, 1 ≤ k → k ≤ 6 → ((linkOf s k).state = 2 ∨ (linkOf s k).state = 3) →
        (linkOf t k).state = 4 ∧ t.dev = .faulted) ∧
      (∀ k, k < 20 → refreshLost s k = true → (stackOf t k).state = 5 ∧ t.dev = .faulted)) ∧
  (∀ s : State, s.pwr.inReset = false → (reference s ≠ 0 ∨ marksComing s = false) →
    ∃ t, exec .timeReferenceLost s = .next t ∧ rg t 0xA010 3 = 3 ∧
      t.pwr = { s.pwr with refLost := true, goodFrames := 0, slew := 0 } ∧ TimeKept s t) ∧
  (∀ s : State, reference s = 0 → marksComing s = true → exec .timeReferenceLost s = .next { s with sent := [] }) ∧
  (∀ s : State, s.pwr.inReset = false → s.pwr.refLost = true →
    ∃ t, exec .timeReferenceReturn s = .next t ∧ rg t 0xA010 3 = 1 ∧
      t.pwr = { s.pwr with refLost := false, goodFrames := 0, lastFrameAt := none } ∧ TimeKept s t) ∧
  (∀ s : State, s.pwr.inReset = false → reference s = 1 → s.pwr.refLost = false →
    ∃ t, exec .ppsEdge s = .next t ∧ ((t.pwr.time : Int) + t.pwr.slew) % 1000000000 = 0 ∧
      t.pwr.slew.natAbs ≤ 500000000 ∧ (t.pwr.slew.natAbs ≤ 20 → rg t 0xA010 3 = 2) ∧
      (20 < t.pwr.slew.natAbs → rg t 0xA010 3 = 1) ∧ TimeKept s t)

/-- A request to change the power state that the module may take now: its object writable, its conditions met. -/
structure Sys2Proof.PowerAsked (q : Req) (v : Nat) (s : State) : Prop where
  ready : Ready q .operator s
  writes : Writable .operator 0xA000 1 (leBytes 1 v) s
  allowed : ∀ c ∈ (powerRule q (leBytes 1 v) s).codes, c = 0

/-- A power request taken up and not answered yet. -/
structure Sys2Proof.PowerWaits (q : Req) (v : Nat) (s t : State) : Prop where
  silent : t.sent = []
  moving : t.pwr.moving = true ∧ t.pwr.req = powOf v ∧ t.pwr.cur = s.pwr.cur
  pending : ∃ p, pendOf t .power = some p ∧ p.q = q
  progress : q.msg ∈ (sessOf t q.sess).inProgress
  log : t.sec.log = s.sec.log
  device : t.dev = s.dev

/-- The state after a step of the power ladder: still moving with its write pending or, in the state requested, at rest,
counted in 0xA000:04, the write logged and answered (R486); a module that came to Stow has no contents left (R487). -/
structure Sys2Proof.Walked (s t : State) : Prop where
  kept : t.pwr.req = s.pwr.req ∧ t.dev = s.dev
  onWay : t.pwr.cur ≠ s.pwr.req → t.pwr.moving = true ∧ t.sec.pend = s.sec.pend
  there : t.pwr.cur = s.pwr.req → t.pwr.moving = false ∧ pendOf t .power = none ∧
    rg t 0xA000 4 = satAdd (sizeOf_ 0xA000 4) (rg s 0xA000 4) 1
  answered : t.pwr.cur = s.pwr.req → ∀ p, pendOf s .power = some p → s.sec.flashFull = false →
    s.ring.bypassOpen = true → Answers p.q 0 [] t ∧ Logged p.q 0xA000 1 t
  empty : t.pwr.cur = .stow → s.pwr.cur ≠ .stow →
    t.mem.cells = [] ∧ t.sites = [] ∧ t.links = [] ∧ rg t 0x2010 1 = 0

/-- POWER_STATE_REQUEST (R485, R486, R499, R529): for the state in force it is answered at once; any other waits, logged
and answered when its state is reached, and one that leaves Stow starts the PLLs, links, stacks and optics; one for Stow
during an exit from Stow ends the exit. One that the device state, a pending prepare, the test port or the 54 V input
does not allow is rejected with 0x03900001. POWER_STATE_REACHED (R486, R487, R507): the ladder is walked one state at a
time, down from Run only when the work is done and from Still only when every write-combining entry has retired, up from
Stow only when links and stacks have trained; after a supply fault straight to Stow. -/
def Obligations.PowerStatesAreRequestedAndWalked : Prop :=
  (∀ (q : Req) (v : Nat) (s : State), PowerAsked q v s → v < 5 → s.pwr.cur = powOf v → s.pwr.moving = false →
    ∃ t, exec (.powerStateRequest q v) s = .next t ∧ Answers q 0 [] t ∧ Logged q 0xA000 1 t ∧
      t.pwr = { s.pwr with req := powOf v } ∧ regsExcept [] s t ∧
      unchangedExcept [.wires, .registers, .ring, .security, .power] s t) ∧
  (∀ (q : Req) (v : Nat) (s : State), PowerAsked q v s → v < 5 → s.pwr.cur ≠ powOf v → s.pwr.cur ≠ .stow →
    ∃ t, exec (.powerStateRequest q v) s = .next t ∧ PowerWaits q v s t ∧ regsExcept [] s t ∧ t.mem = s.mem ∧
      t.links = s.links) ∧
  (∀ (q : Req) (v : Nat) (s : State), PowerAsked q v s → v < 4 → s.pwr.cur = .stow → s.pwr.moving = false →
    ratiosOk (pllTake ((List.range 12).map (· + 2)) s) = true →
    ∃ t, exec (.powerStateRequest q v) s = .next t ∧ PowerWaits q v s t ∧ t.pwr.stowExit = true ∧
      t.pwr.pllInForce = (pllTake ((List.range 12).map (· + 2)) s).pwr.pllInForce ∧ t.sites = [] ∧
      (∀ k, k < 6 → (linkOf t (k + 1)).state = 1) ∧ (∀ k, k < 20 → (stackOf t k).state = 1) ∧
      t.pho.commissioning = 1) ∧
  (∀ (q : Req) (s : State), PowerAsked q 4 s → s.pwr.cur = .stow → s.pwr.moving = true →
    ∃ t, exec (.powerStateRequest q 4) s = .next t ∧ Answers q 0 [] t ∧ Logged q 0xA000 1 t ∧ t.pwr.cur = .stow ∧
      t.pwr.req = .stow ∧ t.pwr.moving = false ∧ t.links = [] ∧ t.sites = [] ∧ t.mem.cells = [] ∧
      rg t 0xA000 4 = satAdd (sizeOf_ 0xA000 4) (rg s 0xA000 4) 1) ∧
  (∀ (q : Req) (v : Nat) (s : State), v < 5 → Ready q .operator s →
    Writable .operator 0xA000 1 (leBytes 1 v) s →
    (powerAllowed s v = false ∨ v = 4 ∧ (pendOf s .prepare).isSome = true ∨ rg s 0xB020 1 ≠ 0 ∨
      s.pwr.cur = .stow ∧ v < 4 ∧ inputGood s = false) →
    ∃ t, exec (.powerStateRequest q v) s = .next t ∧ Answers q 0x03900001 [] t ∧ t.pwr = s.pwr ∧
      t.sec.log = s.sec.log ∧ regsExcept [] s t ∧ unchangedExcept [.wires, .registers, .ring, .security] s t) ∧
  (∀ s : State, s.pwr.inReset = false → s.pwr.moving = true → s.pwr.afterFault = false →
    powCode s.pwr.cur < powCode s.pwr.req → (s.pwr.cur = .run → workDone s = true) →
    (s.pwr.cur = .still → (retireAll (fresh s)).mem.wc = []) →
    ∃ t, exec .powerStateReached s = .next t ∧ powCode t.pwr.cur = powCode s.pwr.cur + 1 ∧ Walked s t) ∧
  (∀ s : State, s.pwr.inReset = false → s.pwr.moving = true → s.pwr.afterFault = false →
    powCode s.pwr.req < powCode s.pwr.cur → upReady s = true →
    ∃ t, exec .powerStateReached s = .next t ∧ powCode t.pwr.cur + 1 = powCode s.pwr.cur ∧ Walked s t) ∧
  (∀ s : State, s.pwr.inReset = false → s.pwr.moving = true → s.pwr.afterFault = false →
    (powCode s.pwr.cur < powCode s.pwr.req ∧ s.pwr.cur = .run ∧ workDone s = false ∨
      powCode s.pwr.req < powCode s.pwr.cur ∧ upReady s = false) →
    exec .powerStateReached s = .next { s with sent := [] }) ∧
  (∀ s : State, s.pwr.inReset = false → s.pwr.moving = true → s.pwr.afterFault = true → s.pwr.req = .stow →
    ∃ t, exec .powerStateReached s = .next t ∧ t.pwr.cur = .stow ∧ t.pwr.afterFault = false ∧ Walked s t)

/-- What a supply or temperature fault leaves above Stow (R472): FAULTED, with its cause where the module was not FAULTED
before, no power request pending, and the move to Stow begun. -/
structure Sys2Proof.FaultedDown (s t : State) : Prop where
  device : t.dev = .faulted
  down : t.pwr.req = .stow ∧ t.pwr.cur = s.pwr.cur ∧ t.pwr.moving = true ∧ t.pwr.afterFault = true
  pending : pendOf t .power = none
  cause : s.dev ≠ .faulted → rg t 0x2001 3 = 0x03900002 ∧
    ∃ e rest, t.sec.log = e :: rest ∧ e.index = 0x2001 ∧ e.sub = 3 ∧ e.kind = 7
  kept : s.dev = .faulted → rg t 0x2001 3 = rg s 0x2001 3

/-- The status that the power stage answers with is bad (R513). -/
def Sys2Proof.stageBad (x : PmStatus) : Prop :=
  x.acked = true ∧ (x.vinUv = true ∨ x.ioutOc = true ∨ x.temperature = true ∨ x.powerGoodL = true)

/-- The values that a monitor's message brings, as reported (R286, R428). -/
structure Sys2Proof.Reported (m : Limits) (t : State) : Prop where
  power : rg t 0xA040 1 = m.power % 2 ^ 32
  input : rg t 0xA040 2 = m.v54 % 2 ^ 32
  junction : rg t 0xA040 3 = min 255 m.junction
  beats : rg t 0xA040 4 = m.beatRate % 2 ^ 32
  dies : ∀ k (h : k < m.photonic.length), k < 4 → rg t 0x5030 (k + 1) = min 255 m.photonic[k]

/-- Supplies and temperatures (R472, R505, R512, R513, R521): measured values are reported; above Stow a broken limit, or
a bad status of the power stage at a poll or an alert, leaves the module FAULTED and on its way to Stow, and cuts an exit
from Stow off. A status that is not acknowledged or not bad changes nothing. A thermal trip sets its pin and changes
nothing else. -/
def Obligations.SuppliesAndTemperaturesAreWatched : Prop :=
  (∀ (m : Limits) (s : State), s.pwr.inReset = false → (aboveStow s = false ∨ limitsBroken m = false) →
    ∃ t, exec (.supplyOrTemperatureFault m) s = .next t ∧ Reported m t ∧
      regsExcept [(0xA040, 1), (0xA040, 2), (0xA040, 3), (0xA040, 4), (0x5030, 1), (0x5030, 2), (0x5030, 3), (0x5030, 4)]
        s t ∧ unchangedExcept [.wires, .registers] s t) ∧
  (∀ (m : Limits) (s : State), s.pwr.inReset = false → s.pwr.cur ≠ .stow → s.pwr.afterFault = false →
    limitsBroken m = true →
    ∃ t, exec (.supplyOrTemperatureFault m) s = .next t ∧ Reported m t ∧ FaultedDown s t) ∧
  (∀ (m : Limits) (s : State), s.pwr.inReset = false → s.pwr.cur = .stow → s.pwr.moving = true →
    s.pwr.afterFault = false → limitsBroken m = true →
    ∃ t, exec (.supplyOrTemperatureFault m) s = .next t ∧ t.dev = .faulted ∧ t.pwr.cur = .stow ∧
      t.pwr.req = .stow ∧ t.pwr.moving = false ∧ t.pwr.stowExit = false ∧ t.links = [] ∧ t.sites = []) ∧
  (∀ (x : PmStatus) (s : State), s.pwr.inReset = false → s.pwr.cur ≠ .stow → s.pwr.afterFault = false →
    stageBad x →
    (∃ t, exec (.pmbusPoll x) s = .next t ∧ FaultedDown s t) ∧ ∃ t, exec (.pmbusAlert x) s = .next t ∧ FaultedDown s t) ∧
  (∀ (x : PmStatus) (s : State), ¬ stageBad x →
    exec (.pmbusPoll x) s = .next { s with sent := [] } ∧ exec (.pmbusAlert x) s = .next { s with sent := [] }) ∧
  (∀ (die stack : Nat) (s : State), s.pwr.inReset = false → (115 ≤ die ∨ 110 ≤ stack) →
    exec (.thermTrip die stack) s = .next { s with sent := [], pwr := { s.pwr with thermTrip := true } }) ∧
  (∀ (die stack : Nat) (s : State), die < 115 → stack < 110 →
    exec (.thermTrip die stack) s = .next { s with sent := [] })

/-- Start-up (R21, R22, R442, R444, R494, R496). SYMBOL_LOCK notes when lock began; the settle delay of the straps, 1, 4,
16 or 64 ms, has elapsed that long after it and not before. The islands' self-tests are noted once. The stored image
runs if it verifies, and its version is read in 0x1000:03; otherwise the boot ROM is in recovery. Islands in lockstep that
disagree leave the module FAULTED with cause 0x03800002; without lockstep there is nothing to compare. -/
def Obligations.TheModuleStartsUp : Prop :=
  (∀ (s : State), s.pwr.inReset = false → s.pwr.symbolLock = false →
    exec (.symbolLock true) s =
      .next { s with sent := [], pwr := { s.pwr with symbolLock := true, lockAt := s.pwr.osc } }) ∧
  (∀ (b : Bool) (s : State), s.pwr.inReset = false → s.pwr.symbolLock = true →
    exec (.symbolLock b) s = .next { s with sent := [], pwr := { s.pwr with symbolLock := b } }) ∧
  (∀ (s : State), s.pwr.inReset = false → s.pwr.symbolLock = true →
    s.pwr.lockAt + 4 ^ (s.straps.settle % 4) * 1000000 ≤ s.pwr.osc →
    exec .settleDelayElapsed s = .next { s with sent := [], pwr := { s.pwr with settled := true } }) ∧
  (∀ (s : State), (s.pwr.symbolLock = false ∨ s.pwr.osc < s.pwr.lockAt + 4 ^ (s.straps.settle % 4) * 1000000) →
    exec .settleDelayElapsed s = .next { s with sent := [] }) ∧
  (∀ (x y : Bool) (s : State), s.pwr.inReset = false → s.pwr.selfTested = false →
    exec (.islandSelfTest x y) s =
      .next { s with sent := [], pwr := { s.pwr with selfTestB0 := x, selfTestB2 := y, selfTested := true } }) ∧
  (∀ (img : FwImage) (s : State), s.pwr.inReset = false → s.sec.fwRunning = false → s.sec.recovery = false →
    firmwareOk s img = true →
    ∃ t, exec (.firmwareVerified img true) s = .next t ∧ t.sent = [] ∧ rg t 0x1000 3 = img.version % 2 ^ 32 ∧
      t.sec = { s.sec with fwRunning := true, fwDigest := img.digest, fwSecurity := img.security } ∧
      regsExcept [(0x1000, 3)] s t ∧ unchangedExcept [.wires, .registers, .security] s t) ∧
  (∀ (img : FwImage) (good : Bool) (s : State), s.pwr.inReset = false → s.sec.fwRunning = false →
    s.sec.recovery = false → (firmwareOk s img = false ∨ good = false) →
    exec (.firmwareVerified img good) s = .next { s with sent := [], sec := { s.sec with recovery := true } }) ∧
  (∀ s : State, s.pwr.inReset = false → s.pwr.selfTestB0 = true → s.pwr.selfTestB2 = true → s.dev ≠ .faulted →
    ∃ t, exec .islandMismatch s = .next t ∧ t.dev = .faulted ∧ rg t 0x2001 3 = 0x03800002 ∧
      ∃ e rest, t.sec.log = e :: rest ∧ e.index = 0x2001 ∧ e.sub = 3 ∧ e.kind = 7) ∧
  (∀ s : State, (s.pwr.selfTestB0 = false ∨ s.pwr.selfTestB2 = false) →
    exec .islandMismatch s = .next { s with sent := [] })

/-! ## Test access -/

/-- The self-test command of a kind. -/
def Sys2Proof.selfTestOf (kind : Nat) (q : Req) (target rsv : Nat) (i : Instr) : Prop :=
  kind = 1 ∧ i = .selfTestTileStores q target rsv ∨ kind = 2 ∧ i = .selfTestSharedCache q target rsv ∨
    kind = 3 ∧ i = .selfTestMemorySideCache q target rsv ∨ kind = 4 ∧ i = .selfTestHbmStack q target rsv

/-- A module whose state allows a self-test of a block (R531). -/
structure Sys2Proof.SelfTestAllowed (kind target : Nat) (s : State) : Prop where
  joined : s.dev = .joined
  port : rg s 0xB020 1 = 0
  free : s.test.selfTest = none
  run : s.pwr.cur = .run
  block : target < targetCount kind → gated s (targetBlock kind target) = false

/-- Self-tests of the on-package memories (R431, R531, R532): an accepted request runs, reported as running in
0xB010:02. One whose state, tenant or target does not allow it is rejected with 0x03A00001, 0x04A00001 or 0x02A00001. Its
end reports 2, or 3 where something failed: a failing tile store is a failed core test of its site's core, a failing stack
leaves the module FAULTED. With none running, an end changes nothing. -/
def Obligations.SelfTestsRunAndEnd : Prop :=
  (∀ (q : Req) (kind target : Nat) (i : Instr) (s : State), selfTestOf kind q target 0 i →
    target < targetCount kind → Ready q .operator s →
    Writable .operator 0xB010 1 (leBytes 4 (kind * 2 ^ 28 + target * 2 ^ 20)) s → SelfTestAllowed kind target s →
    tenantHere s = false →
    ∃ t, exec i s = .next t ∧ t.test = { s.test with selfTest := some (kind, target) } ∧ rg t 0xB010 2 = 1 ∧
      Answers q 0 [] t ∧ Logged q 0xB010 1 t ∧ regsExcept [(0xB010, 2)] s t ∧
      unchangedExcept [.wires, .registers, .ring, .security, .test] s t) ∧
  (∀ (q : Req) (kind target rsv code : Nat) (i : Instr) (s : State), selfTestOf kind q target rsv i →
    target < 256 → rsv < 2 ^ 20 → Ready q .operator s →
    Writable .operator 0xB010 1 (leBytes 4 (kind * 2 ^ 28 + target * 2 ^ 20 + rsv)) s →
    (¬ SelfTestAllowed kind target s ∧ code = 0x03A00001 ∨
      SelfTestAllowed kind target s ∧ tenantHere s = true ∧ code = 0x04A00001 ∨
      SelfTestAllowed kind target s ∧ tenantHere s = false ∧ (targetCount kind ≤ target ∨ rsv ≠ 0) ∧
        code = 0x02A00001) →
    ∃ t, exec i s = .next t ∧ Answers q code [] t ∧ t.sec.log = s.sec.log ∧ regsExcept [] s t ∧
      unchangedExcept [.wires, .registers, .ring, .security] s t) ∧
  (∀ (kind target : Nat) (s : State), s.test.selfTest = some (kind, target) → s.pwr.inReset = false →
    ∃ t, exec (.selfTestComplete []) s = .next t ∧ t.test = { s.test with selfTest := none } ∧ rg t 0xB010 2 = 2 ∧
      regsExcept [(0xB010, 2)] s t ∧ unchangedExcept [.wires, .freeCounter, .registers, .sites, .memory, .test] s t) ∧
  (∀ (failing : List Nat) (kind target : Nat) (s : State), s.test.selfTest = some (kind, target) →
    target < targetCount kind → s.pwr.inReset = false → failing ≠ [] →
    ∃ t, exec (.selfTestComplete failing) s = .next t ∧ t.test.selfTest = none ∧ rg t 0xB010 2 = 3 ∧
      (kind = 2 ∨ kind = 3 → t.dev = s.dev ∧ regsExcept [(0xB010, 2)] s t) ∧
      (kind = 4 → t.dev = .faulted ∧ (stackOf t target).state = 5) ∧
      (∀ site c, kind = 1 → failing = [site] → coreAtSite s target site = some c →
        rg t 0xB002 2 = satAdd (sizeOf_ 0xB002 2) (rg s 0xB002 2) 1)) ∧
  (∀ (failing : List Nat) (s : State), s.test.selfTest = none →
    exec (.selfTestComplete failing) s = .next { s with sent := [] })

/-- An instruction that leaves the selected dies undefined (R529): the port's registers as given, and what else the
module is as it was. -/
def Sys2Proof.intrudes (i : Instr) (x : TestState) (s : State) : Prop :=
  ∃ t, exec i s = .next t ∧
    t.test = { x with intrusive := true, undefDies := x.undefDies ||| selectedDies s, undefAt := t.test.undefAt } ∧
    unchangedExcept [.wires, .freeCounter, .sites, .memory, .test] s t

/-- The test port's instructions (R515, R524, R527 to R529): an open port takes them; all but IDCODE, SAMPLE/PRELOAD and
BYPASS leave the selected dies undefined; the registers of the islands and the device state stay. A closed port takes
none. TRST_L resets the port. -/
def Obligations.TestInstructionsAct : Prop :=
  (∀ s : State, portOpen s = true →
    intrudes .extest { s.test with ir := 0x00, driven := true, highz := false } s ∧
    intrudes .clamp { s.test with ir := 0x03, driven := true, highz := false } s ∧
    intrudes .highz { s.test with ir := 0x04, driven := false, highz := true } s ∧
    intrudes .dieAccess { s.test with ir := 0x11, driven := false, highz := false } s) ∧
  (∀ (sel eff : BitVec 40) (s : State), portOpen s = true →
    eff = (if s.pwr.cur = .stow ∧ s.pwr.moving = false then sel &&& baseDies else sel) →
    ∃ t, exec (.dieSelect sel) s = .next t ∧ t.test.ir = 0x10 ∧ t.test.intrusive = true ∧ t.test.dieSelect = eff ∧
      t.test.undefDies = s.test.undefDies ||| eff ∧
      unchangedExcept [.wires, .freeCounter, .sites, .memory, .test] s t) ∧
  (∀ (pins : BitVec 15) (s : State), portOpen s = true →
    exec (.samplePreload pins) s = .next { s with
      sent := [], test := { s.test with ir := 0x01, driven := false, highz := false, boundary := pins } }) ∧
  (∀ (code : BitVec 8) (s : State), portOpen s = true → code ∉ [0x00, 0x01, 0x02, 0x03, 0x04, 0x10, 0x11] →
    exec (.bypass code) s = .next { s with
      sent := [], test := { s.test with ir := code, driven := false, highz := false } }) ∧
  (∀ (i : Instr) (s : State), portOpen s = false →
    (i ∈ [Instr.extest, .idcode, .clamp, .highz, .dieAccess] ∨ (∃ p, i = .samplePreload p) ∨
      (∃ d, i = .dieSelect d) ∨ ∃ c, i = .bypass c) →
    exec i s = .next { s with sent := [] }) ∧
  (∀ s : State, exec .tapReset s = .next { s with
    sent := [], test := { s.test with ir := 2, driven := false, highz := false } })

/-- IDCODE of an open port shifts the identification register out: 0x14B12C3B, with the fields of R525. -/
def Obligations.TheIdentificationRegisterReads : Prop :=
  (∀ (s : State), portOpen s = true → exec .idcode s = .next { s with
    sent := [.tdo 0x14B12C3B]
    test := { s.test with ir := 2, driven := false, highz := false } }) ∧
  bits 31 28 0x14B12C3B = 1 ∧ bits 27 12 0x14B12C3B = 0x4B12 ∧ bits 11 1 0x14B12C3B = 0x61D ∧ bits 0 0 0x14B12C3B = 1

/-- A half whose due test may start now (R535): no test in it or returning, the module in Run, the compute die not gated,
a relief core available. -/
structure Sys2Proof.TestReady (half : Nat) (s : State) : Prop where
  inRange : half < 24
  awake : s.pwr.inReset = false
  due : (halfTest s half).due = true
  free : (halfTest s half).core = none ∧ (halfTest s half).returning = false
  run : s.pwr.cur = .run ∧ gated s (half / 2) = false
  relief : reliefAvailable s half = true

/-- A half in which a test of a core runs. -/
structure Sys2Proof.Testing (half core : Nat) (s : State) : Prop where
  inRange : half < 24
  awake : s.pwr.inReset = false
  core : (halfTest s half).core = some core
  here : (halfTest s half).returning = false

/-- The tests of the other halves as they were. -/
def Sys2Proof.othersKept (half : Nat) (s t : State) : Prop := ∀ h, h ≠ half → halfTest t h = halfTest s h

/-- In-field core tests (R19, R20, R533 to R538): due at their time where a relief core is left; begun at a qualifying
point, with the core's stores copied to the relief core first where a score is installed; overdue with one event; passed,
counted in 0xB002:01, with the next core due one spacing later. A failed planned core is counted in 0xB002:02 and retired
to the site of the highest-numbered relief core left, at once or, with a score installed, at the next step boundary; with
none left the module is FAULTED with cause 0x03100007. A failed relief core is used no more. -/
def Obligations.CoreTestsFollowTheirSchedule : Prop :=
  (∀ (half at0 : Nat) (s : State), half < 24 → s.pwr.inReset = false → (halfTest s half).dueAt = some at0 →
    at0 ≤ s.pwr.time → rg s 0xB000 1 = 1 → (halfTest s half).due = false → (halfTest s half).core = none →
    reliefAvailable s half = true →
    ∃ t, exec (.coreTestDue half) s = .next t ∧ halfTest t half = { halfTest s half with due := true } ∧
      othersKept half s t ∧ unchangedExcept [.wires, .test] s t) ∧
  (∀ (half : Nat) (s : State), TestReady half s → (s.dev = .inert ∨ s.dev = .joined ∨ s.dev = .faulted) →
    ∃ t, exec (.coreTestStart half) s = .next t ∧
      halfTest t half = { halfTest s half with
        core := some (halfTest s half).next, relief := none, due := false, overdue := false } ∧
      siteAt t (siteKey half (boundSite s half (halfTest s half).next)) = {} ∧ othersKept half s t ∧
      unchangedExcept [.wires, .sites, .test] s t) ∧
  (∀ (half r : Nat) (s : State), TestReady half s → (s.dev = .prepared ∨ s.dev = .running ∨ s.dev = .held) →
    s.ex.step.running = false → (halfTest s half).next < 96 → reliefFor s half (halfTest s half).next = some r →
    boundSite s half r ≠ boundSite s half (halfTest s half).next →
    ∃ t, exec (.coreTestStart half) s = .next t ∧
      halfTest t half = { halfTest s half with
        core := some (halfTest s half).next, relief := some r, due := false, overdue := false } ∧
      coreSite t half (halfTest s half).next = boundSite s half r ∧
      siteAt t (siteKey half (boundSite s half (halfTest s half).next)) = {} ∧
      siteAt t (siteKey half (boundSite s half r)) =
        copyStores (siteAt s (siteKey half (boundSite s half (halfTest s half).next)))
          (siteAt s (siteKey half (boundSite s half r))) ∧
      othersKept half s t ∧ unchangedExcept [.wires, .sites, .test] s t) ∧
  (∀ (half at0 : Nat) (s : State), half < 24 → s.pwr.inReset = false → (halfTest s half).dueAt = some at0 →
    at0 + rg s 0xB000 2 * 1000000000 ≤ s.pwr.time → (halfTest s half).due = true →
    (halfTest s half).overdue = false → (halfTest s half).core = none →
    ∃ t, exec (.coreTestOverdue half) s = .next t ∧ halfTest t half = { halfTest s half with overdue := true } ∧
      rg t 0xB002 3 = satAdd (sizeOf_ 0xB002 3) (rg s 0xB002 3) 1 ∧ othersKept half s t ∧
      regsExcept [(0xB002, 3)] s t ∧ unchangedExcept [.wires, .registers, .ring, .test] s t) ∧
  (∀ (half c : Nat) (s : State), Testing half c s → c < 95 → (halfTest s half).relief = none →
    ∃ t, exec (.coreTestComplete half true) s = .next t ∧
      halfTest t half = { halfTest s half with
        next := c + 1, dueAt := some (s.pwr.time + spacing s), due := false, returning := false, core := none } ∧
      siteAt t (siteKey half (boundSite s half c)) = {} ∧
      rg t 0xB002 1 = satAdd (sizeOf_ 0xB002 1) (rg s 0xB002 1) 1 ∧ othersKept half s t ∧
      regsExcept [(0xB002, 1)] s t ∧ unchangedExcept [.wires, .registers, .sites, .test] s t) ∧
  (∀ (half c r : Nat) (s : State), Testing half c s → c < 95 → (halfTest s half).relief = some r →
    ∃ t, exec (.coreTestComplete half true) s = .next t ∧
      halfTest t half = { halfTest s half with
        next := c + 1, dueAt := some (s.pwr.time + spacing s), due := false, returning := true } ∧
      siteAt t (siteKey half (boundSite s half c)) = {} ∧
      rg t 0xB002 1 = satAdd (sizeOf_ 0xB002 1) (rg s 0xB002 1) 1 ∧ othersKept half s t ∧
      regsExcept [(0xB002, 1)] s t ∧ unchangedExcept [.wires, .registers, .sites, .test] s t) ∧
  (∀ (half c r : Nat) (s : State), Testing half c s → c < 96 → lastRelief s half = some r →
    rg s 0x3001 (half + 1) ≠ 0 →
    ∃ t, exec (.coreTestComplete half false) s = .next t ∧ t.dev = s.dev ∧
      rg t 0xB002 2 = satAdd (sizeOf_ 0xB002 2) (rg s 0xB002 2) 1 ∧
      rg t 0x3001 (half + 1) = rg s 0x3001 (half + 1) - 1 ∧
      ((s.dev = .inert ∨ s.dev = .joined ∨ s.dev = .faulted) → boundSite t half c = boundSite s half r ∧
        reliefLeft t half r = false) ∧
      ((s.dev = .prepared ∨ s.dev = .running ∨ s.dev = .held) → t.siteMap = s.siteMap ∧
        (halfTest t half).returning = true ∧
        (halfTest t half).rebind = [(c, boundSite s half r), (r, siteGone)]) ∧
      regsExcept [(0xB002, 2), (0x3001, half + 1)] s t) ∧
  (∀ (half c : Nat) (s : State), Testing half c s → c < 96 →
    (lastRelief s half = none ∨ rg s 0x3001 (half + 1) = 0) → s.dev ≠ .faulted →
    ∃ t, exec (.coreTestComplete half false) s = .next t ∧ t.dev = .faulted ∧ rg t 0x2001 3 = 0x03100007 ∧
      rg t 0xB002 2 = satAdd (sizeOf_ 0xB002 2) (rg s 0xB002 2) 1) ∧
  (∀ (half c : Nat) (s : State), Testing half c s → 96 ≤ c →
    ∃ t, exec (.coreTestComplete half false) s = .next t ∧ t.dev = s.dev ∧ reliefLeft t half c = false ∧
      rg t 0xB002 2 = satAdd (sizeOf_ 0xB002 2) (rg s 0xB002 2) 1 ∧
      rg t 0x3001 (half + 1) = rg s 0x3001 (half + 1) - 1 ∧ regsExcept [(0xB002, 2), (0x3001, half + 1)] s t)
end

