-- ==== Sys2Proof/Laws/Sparse.lean ====
section
/-! SUPPORT. Reading after writing a numbered collection, and that updates keep the indices rising. -/

namespace Sys2Proof.Machine

variable {α : Type}

@[simp] theorem lookup_insertKey_same (k : Nat) (v : α) (m : List (Nat × α))
    (h : lookup k m = none) : lookup k (insertKey k v m) = some v := by
  induction m with
  | nil => simp [insertKey, lookup]
  | cons p t ih =>
    simp only [lookup] at h
    split at h
    · cases h
    · simp only [insertKey]
      split
      · simp [lookup]
      · simp_all [lookup]

theorem lookup_insertKey_other (k j : Nat) (v : α) (m : List (Nat × α)) (h : j ≠ k) :
    lookup j (insertKey k v m) = lookup j m := by
  induction m with
  | nil => simp [insertKey, lookup, Ne.symm h]
  | cons p t ih =>
    simp only [insertKey]
    split
    · simp [lookup, Ne.symm h]
    · simp [lookup, ih]

@[simp] theorem lookup_without_same (k : Nat) (m : List (Nat × α)) : lookup k (without k m) = none := by
  induction m with
  | nil => rfl
  | cons p t ih =>
    by_cases hp : p.1 = k <;> simp_all [without, lookup]

theorem lookup_without_other (k j : Nat) (m : List (Nat × α)) (h : j ≠ k) :
    lookup j (without k m) = lookup j m := by
  induction m with
  | nil => rfl
  | cons p t ih =>
    by_cases hp : p.1 = k
    · have hj : p.1 ≠ j := fun e => h (e.symm.trans hp)
      simp_all [without, lookup]
    · simp_all [without, lookup]

@[simp] theorem lookup_put_same (k : Nat) (v : α) (m : List (Nat × α)) : lookup k (put k v m) = some v := by
  simp [put]

theorem lookup_put_other (k j : Nat) (v : α) (m : List (Nat × α)) (h : j ≠ k) :
    lookup j (put k v m) = lookup j m := by
  rw [put, lookup_insertKey_other k j v _ h, lookup_without_other k j m h]

@[simp] theorem at_set_same [DecidableEq α] (d : α) (k : Nat) (v : α) (m : List (Nat × α)) :
    at_ d k (set_ d k v m) = v := by
  unfold set_ at_
  split <;> simp_all

theorem at_set_other [DecidableEq α] (d : α) (k j : Nat) (v : α) (m : List (Nat × α)) (h : j ≠ k) :
    at_ d j (set_ d k v m) = at_ d j m := by
  unfold set_ at_
  split
  · rw [lookup_without_other k j m h]
  · rw [lookup_put_other k j v m h]

@[simp] theorem at_put_same (d : α) (k : Nat) (v : α) (m : List (Nat × α)) : at_ d k (put k v m) = v := by
  simp [at_]

theorem at_put_other (d : α) (k j : Nat) (v : α) (m : List (Nat × α)) (h : j ≠ k) :
    at_ d j (put k v m) = at_ d j m := by
  simp [at_, lookup_put_other k j v m h]

theorem mem_insertKey (k : Nat) (v : α) (m : List (Nat × α)) (p : Nat × α) :
    p ∈ insertKey k v m ↔ p = (k, v) ∨ p ∈ m := by
  induction m with
  | nil => simp [insertKey]
  | cons q t ih =>
    simp only [insertKey]
    split
    · simp
    · simp only [List.mem_cons, ih]; tauto

theorem rising_insertKey (k : Nat) (v : α) (m : List (Nat × α)) (h : rising m)
    (hk : ∀ p ∈ m, p.1 ≠ k) : rising (insertKey k v m) := by
  induction m with
  | nil => simp [insertKey]
  | cons q t ih =>
    have hq := List.pairwise_cons.mp h
    have hne : q.1 ≠ k := hk q (by simp)
    simp only [insertKey]
    split
    · rename_i hlt
      refine List.pairwise_cons.mpr ⟨?_, h⟩
      intro p hp
      rcases List.mem_cons.mp hp with rfl | hp
      · exact hlt
      · exact Nat.lt_trans hlt (hq.1 p hp)
    · rename_i hlt
      refine List.pairwise_cons.mpr ⟨?_, ih hq.2 (fun p hp => hk p (by simp [hp]))⟩
      intro p hp
      rcases (mem_insertKey k v t p).mp hp with rfl | hp
      · simp only; omega
      · exact hq.1 p hp

theorem rising_filter (f : Nat × α → Bool) (m : List (Nat × α)) (h : rising m) : rising (m.filter f) :=
  List.Pairwise.filter f h

theorem rising_without (k : Nat) (m : List (Nat × α)) (h : rising m) : rising (without k m) :=
  rising_filter _ m h

theorem rising_put (k : Nat) (v : α) (m : List (Nat × α)) (h : rising m) : rising (put k v m) := by
  refine rising_insertKey k v _ (rising_without k m h) ?_
  intro p hp
  simpa using (List.mem_filter.mp hp).2

theorem rising_set [DecidableEq α] (d : α) (k : Nat) (v : α) (m : List (Nat × α)) (h : rising m) :
    rising (set_ d k v m) := by
  unfold set_
  split
  · exact rising_without k m h
  · exact rising_put k v m h

end Sys2Proof.Machine
end

