-- ==== Sys2Proof/Laws/Frames.lean ====
section
/-! SUPPORT. Which parts of the state an operation leaves alone. `Keeps m s t`: every part of the state whose bit is
set in m is the same in t as in s; bit i is the i-th field of State. One lemma per operation of the machine. -/

namespace Sys2Proof.Machine

/-- The parts of the state with a bit set in m are the same. -/
def Keeps (m : Nat) (s t : State) : Prop :=
  (m.testBit 0 = true → t.pending = s.pending) ∧ (m.testBit 1 = true → t.sent = s.sent) ∧ (m.testBit 2 = true → t.freeCtr = s.freeCtr) ∧ (m.testBit 3 = true → t.dev = s.dev) ∧ (m.testBit 4 = true → t.regs = s.regs) ∧ (m.testBit 5 = true → t.straps = s.straps) ∧ (m.testBit 6 = true → t.ex = s.ex) ∧ (m.testBit 7 = true → t.sites = s.sites) ∧ (m.testBit 8 = true → t.siteMap = s.siteMap) ∧ (m.testBit 9 = true → t.mem = s.mem) ∧ (m.testBit 10 = true → t.links = s.links) ∧ (m.testBit 11 = true → t.dieErrors = s.dieErrors) ∧ (m.testBit 12 = true → t.pho = s.pho) ∧ (m.testBit 13 = true → t.fab = s.fab) ∧ (m.testBit 14 = true → t.col = s.col) ∧ (m.testBit 15 = true → t.res = s.res) ∧ (m.testBit 16 = true → t.ring = s.ring) ∧ (m.testBit 17 = true → t.sec = s.sec) ∧ (m.testBit 18 = true → t.pwr = s.pwr) ∧ (m.testBit 19 = true → t.test = s.test)

@[simp] theorem Keeps.refl (m : Nat) (s : State) : Keeps m s s := by simp [Keeps]

theorem Keeps.trans {m : Nat} {s t u : State} (h : Keeps m s t) (k : Keeps m t u) : Keeps m s u := by
  unfold Keeps at *
  obtain ⟨a0, a1, a2, a3, a4, a5, a6, a7, a8, a9, a10, a11, a12, a13, a14, a15, a16, a17, a18, a19⟩ := h
  obtain ⟨b0, b1, b2, b3, b4, b5, b6, b7, b8, b9, b10, b11, b12, b13, b14, b15, b16, b17, b18, b19⟩ := k
  exact ⟨fun z => (b0 z).trans (a0 z), fun z => (b1 z).trans (a1 z), fun z => (b2 z).trans (a2 z), fun z => (b3 z).trans (a3 z), fun z => (b4 z).trans (a4 z), fun z => (b5 z).trans (a5 z), fun z => (b6 z).trans (a6 z), fun z => (b7 z).trans (a7 z), fun z => (b8 z).trans (a8 z), fun z => (b9 z).trans (a9 z), fun z => (b10 z).trans (a10 z), fun z => (b11 z).trans (a11 z), fun z => (b12 z).trans (a12 z), fun z => (b13 z).trans (a13 z), fun z => (b14 z).trans (a14 z), fun z => (b15 z).trans (a15 z), fun z => (b16 z).trans (a16 z), fun z => (b17 z).trans (a17 z), fun z => (b18 z).trans (a18 z), fun z => (b19 z).trans (a19 z)⟩

theorem Keeps.symm {m : Nat} {s t : State} (h : Keeps m s t) : Keeps m t s := by
  unfold Keeps at *
  obtain ⟨a0, a1, a2, a3, a4, a5, a6, a7, a8, a9, a10, a11, a12, a13, a14, a15, a16, a17, a18, a19⟩ := h
  exact ⟨fun z => (a0 z).symm, fun z => (a1 z).symm, fun z => (a2 z).symm, fun z => (a3 z).symm, fun z => (a4 z).symm, fun z => (a5 z).symm, fun z => (a6 z).symm, fun z => (a7 z).symm, fun z => (a8 z).symm, fun z => (a9 z).symm, fun z => (a10 z).symm, fun z => (a11 z).symm, fun z => (a12 z).symm, fun z => (a13 z).symm, fun z => (a14 z).symm, fun z => (a15 z).symm, fun z => (a16 z).symm, fun z => (a17 z).symm, fun z => (a18 z).symm, fun z => (a19 z).symm⟩

theorem Keeps.mono {m n : Nat} {s t : State} (hm : m &&& n = m) (h : Keeps n s t) : Keeps m s t := by
  have key : ∀ i, m.testBit i = true → n.testBit i = true := by
    intro i hi
    rw [← hm, Nat.testBit_and, Bool.and_eq_true] at hi
    exact hi.2
  unfold Keeps at *
  obtain ⟨a0, a1, a2, a3, a4, a5, a6, a7, a8, a9, a10, a11, a12, a13, a14, a15, a16, a17, a18, a19⟩ := h
  exact ⟨fun z => a0 (key _ z), fun z => a1 (key _ z), fun z => a2 (key _ z), fun z => a3 (key _ z), fun z => a4 (key _ z), fun z => a5 (key _ z), fun z => a6 (key _ z), fun z => a7 (key _ z), fun z => a8 (key _ z), fun z => a9 (key _ z), fun z => a10 (key _ z), fun z => a11 (key _ z), fun z => a12 (key _ z), fun z => a13 (key _ z), fun z => a14 (key _ z), fun z => a15 (key _ z), fun z => a16 (key _ z), fun z => a17 (key _ z), fun z => a18 (key _ z), fun z => a19 (key _ z)⟩

theorem keeps_of {m : Nat} {s0 s t : State} (n : Nat) (h : Keeps n s t) (hm : m &&& n = m) :
    Keeps m s0 t ↔ Keeps m s0 s :=
  ⟨fun k => k.trans (h.mono hm).symm, fun k => k.trans (h.mono hm)⟩

theorem and_sub {m a b : Nat} (h : m &&& a = m) (k : a &&& b = a) : m &&& b = m := by
  rw [← h, Nat.and_assoc, k]

@[simp] theorem keeps_set_pending {m : Nat} {s0 u : State} (v) (hm : m &&& 1048574 = m) :
    Keeps m s0 (State.mk v u.sent u.freeCtr u.dev u.regs u.straps u.ex u.sites u.siteMap u.mem u.links u.dieErrors u.pho u.fab u.col u.res u.ring u.sec u.pwr u.test) ↔ Keeps m s0 u :=
  keeps_of 1048574 (by unfold Keeps; and_intros <;> first | (intro _; rfl) | (intro h; exact absurd h (by decide))) hm

@[simp] theorem keeps_set_sent {m : Nat} {s0 u : State} (v) (hm : m &&& 1048573 = m) :
    Keeps m s0 (State.mk u.pending v u.freeCtr u.dev u.regs u.straps u.ex u.sites u.siteMap u.mem u.links u.dieErrors u.pho u.fab u.col u.res u.ring u.sec u.pwr u.test) ↔ Keeps m s0 u :=
  keeps_of 1048573 (by unfold Keeps; and_intros <;> first | (intro _; rfl) | (intro h; exact absurd h (by decide))) hm

@[simp] theorem keeps_set_freeCtr {m : Nat} {s0 u : State} (v) (hm : m &&& 1048571 = m) :
    Keeps m s0 (State.mk u.pending u.sent v u.dev u.regs u.straps u.ex u.sites u.siteMap u.mem u.links u.dieErrors u.pho u.fab u.col u.res u.ring u.sec u.pwr u.test) ↔ Keeps m s0 u :=
  keeps_of 1048571 (by unfold Keeps; and_intros <;> first | (intro _; rfl) | (intro h; exact absurd h (by decide))) hm

@[simp] theorem keeps_set_dev {m : Nat} {s0 u : State} (v) (hm : m &&& 1048567 = m) :
    Keeps m s0 (State.mk u.pending u.sent u.freeCtr v u.regs u.straps u.ex u.sites u.siteMap u.mem u.links u.dieErrors u.pho u.fab u.col u.res u.ring u.sec u.pwr u.test) ↔ Keeps m s0 u :=
  keeps_of 1048567 (by unfold Keeps; and_intros <;> first | (intro _; rfl) | (intro h; exact absurd h (by decide))) hm

@[simp] theorem keeps_set_regs {m : Nat} {s0 u : State} (v) (hm : m &&& 1048559 = m) :
    Keeps m s0 (State.mk u.pending u.sent u.freeCtr u.dev v u.straps u.ex u.sites u.siteMap u.mem u.links u.dieErrors u.pho u.fab u.col u.res u.ring u.sec u.pwr u.test) ↔ Keeps m s0 u :=
  keeps_of 1048559 (by unfold Keeps; and_intros <;> first | (intro _; rfl) | (intro h; exact absurd h (by decide))) hm

@[simp] theorem keeps_set_straps {m : Nat} {s0 u : State} (v) (hm : m &&& 1048543 = m) :
    Keeps m s0 (State.mk u.pending u.sent u.freeCtr u.dev u.regs v u.ex u.sites u.siteMap u.mem u.links u.dieErrors u.pho u.fab u.col u.res u.ring u.sec u.pwr u.test) ↔ Keeps m s0 u :=
  keeps_of 1048543 (by unfold Keeps; and_intros <;> first | (intro _; rfl) | (intro h; exact absurd h (by decide))) hm

@[simp] theorem keeps_set_ex {m : Nat} {s0 u : State} (v) (hm : m &&& 1048511 = m) :
    Keeps m s0 (State.mk u.pending u.sent u.freeCtr u.dev u.regs u.straps v u.sites u.siteMap u.mem u.links u.dieErrors u.pho u.fab u.col u.res u.ring u.sec u.pwr u.test) ↔ Keeps m s0 u :=
  keeps_of 1048511 (by unfold Keeps; and_intros <;> first | (intro _; rfl) | (intro h; exact absurd h (by decide))) hm

@[simp] theorem keeps_set_sites {m : Nat} {s0 u : State} (v) (hm : m &&& 1048447 = m) :
    Keeps m s0 (State.mk u.pending u.sent u.freeCtr u.dev u.regs u.straps u.ex v u.siteMap u.mem u.links u.dieErrors u.pho u.fab u.col u.res u.ring u.sec u.pwr u.test) ↔ Keeps m s0 u :=
  keeps_of 1048447 (by unfold Keeps; and_intros <;> first | (intro _; rfl) | (intro h; exact absurd h (by decide))) hm

@[simp] theorem keeps_set_siteMap {m : Nat} {s0 u : State} (v) (hm : m &&& 1048319 = m) :
    Keeps m s0 (State.mk u.pending u.sent u.freeCtr u.dev u.regs u.straps u.ex u.sites v u.mem u.links u.dieErrors u.pho u.fab u.col u.res u.ring u.sec u.pwr u.test) ↔ Keeps m s0 u :=
  keeps_of 1048319 (by unfold Keeps; and_intros <;> first | (intro _; rfl) | (intro h; exact absurd h (by decide))) hm

@[simp] theorem keeps_set_mem {m : Nat} {s0 u : State} (v) (hm : m &&& 1048063 = m) :
    Keeps m s0 (State.mk u.pending u.sent u.freeCtr u.dev u.regs u.straps u.ex u.sites u.siteMap v u.links u.dieErrors u.pho u.fab u.col u.res u.ring u.sec u.pwr u.test) ↔ Keeps m s0 u :=
  keeps_of 1048063 (by unfold Keeps; and_intros <;> first | (intro _; rfl) | (intro h; exact absurd h (by decide))) hm

@[simp] theorem keeps_set_links {m : Nat} {s0 u : State} (v) (hm : m &&& 1047551 = m) :
    Keeps m s0 (State.mk u.pending u.sent u.freeCtr u.dev u.regs u.straps u.ex u.sites u.siteMap u.mem v u.dieErrors u.pho u.fab u.col u.res u.ring u.sec u.pwr u.test) ↔ Keeps m s0 u :=
  keeps_of 1047551 (by unfold Keeps; and_intros <;> first | (intro _; rfl) | (intro h; exact absurd h (by decide))) hm

@[simp] theorem keeps_set_dieErrors {m : Nat} {s0 u : State} (v) (hm : m &&& 1046527 = m) :
    Keeps m s0 (State.mk u.pending u.sent u.freeCtr u.dev u.regs u.straps u.ex u.sites u.siteMap u.mem u.links v u.pho u.fab u.col u.res u.ring u.sec u.pwr u.test) ↔ Keeps m s0 u :=
  keeps_of 1046527 (by unfold Keeps; and_intros <;> first | (intro _; rfl) | (intro h; exact absurd h (by decide))) hm

@[simp] theorem keeps_set_pho {m : Nat} {s0 u : State} (v) (hm : m &&& 1044479 = m) :
    Keeps m s0 (State.mk u.pending u.sent u.freeCtr u.dev u.regs u.straps u.ex u.sites u.siteMap u.mem u.links u.dieErrors v u.fab u.col u.res u.ring u.sec u.pwr u.test) ↔ Keeps m s0 u :=
  keeps_of 1044479 (by unfold Keeps; and_intros <;> first | (intro _; rfl) | (intro h; exact absurd h (by decide))) hm

@[simp] theorem keeps_set_fab {m : Nat} {s0 u : State} (v) (hm : m &&& 1040383 = m) :
    Keeps m s0 (State.mk u.pending u.sent u.freeCtr u.dev u.regs u.straps u.ex u.sites u.siteMap u.mem u.links u.dieErrors u.pho v u.col u.res u.ring u.sec u.pwr u.test) ↔ Keeps m s0 u :=
  keeps_of 1040383 (by unfold Keeps; and_intros <;> first | (intro _; rfl) | (intro h; exact absurd h (by decide))) hm

@[simp] theorem keeps_set_col {m : Nat} {s0 u : State} (v) (hm : m &&& 1032191 = m) :
    Keeps m s0 (State.mk u.pending u.sent u.freeCtr u.dev u.regs u.straps u.ex u.sites u.siteMap u.mem u.links u.dieErrors u.pho u.fab v u.res u.ring u.sec u.pwr u.test) ↔ Keeps m s0 u :=
  keeps_of 1032191 (by unfold Keeps; and_intros <;> first | (intro _; rfl) | (intro h; exact absurd h (by decide))) hm

@[simp] theorem keeps_set_res {m : Nat} {s0 u : State} (v) (hm : m &&& 1015807 = m) :
    Keeps m s0 (State.mk u.pending u.sent u.freeCtr u.dev u.regs u.straps u.ex u.sites u.siteMap u.mem u.links u.dieErrors u.pho u.fab u.col v u.ring u.sec u.pwr u.test) ↔ Keeps m s0 u :=
  keeps_of 1015807 (by unfold Keeps; and_intros <;> first | (intro _; rfl) | (intro h; exact absurd h (by decide))) hm

@[simp] theorem keeps_set_ring {m : Nat} {s0 u : State} (v) (hm : m &&& 983039 = m) :
    Keeps m s0 (State.mk u.pending u.sent u.freeCtr u.dev u.regs u.straps u.ex u.sites u.siteMap u.mem u.links u.dieErrors u.pho u.fab u.col u.res v u.sec u.pwr u.test) ↔ Keeps m s0 u :=
  keeps_of 983039 (by unfold Keeps; and_intros <;> first | (intro _; rfl) | (intro h; exact absurd h (by decide))) hm

@[simp] theorem keeps_set_sec {m : Nat} {s0 u : State} (v) (hm : m &&& 917503 = m) :
    Keeps m s0 (State.mk u.pending u.sent u.freeCtr u.dev u.regs u.straps u.ex u.sites u.siteMap u.mem u.links u.dieErrors u.pho u.fab u.col u.res u.ring v u.pwr u.test) ↔ Keeps m s0 u :=
  keeps_of 917503 (by unfold Keeps; and_intros <;> first | (intro _; rfl) | (intro h; exact absurd h (by decide))) hm

@[simp] theorem keeps_set_pwr {m : Nat} {s0 u : State} (v) (hm : m &&& 786431 = m) :
    Keeps m s0 (State.mk u.pending u.sent u.freeCtr u.dev u.regs u.straps u.ex u.sites u.siteMap u.mem u.links u.dieErrors u.pho u.fab u.col u.res u.ring u.sec v u.test) ↔ Keeps m s0 u :=
  keeps_of 786431 (by unfold Keeps; and_intros <;> first | (intro _; rfl) | (intro h; exact absurd h (by decide))) hm

@[simp] theorem keeps_set_test {m : Nat} {s0 u : State} (v) (hm : m &&& 524287 = m) :
    Keeps m s0 (State.mk u.pending u.sent u.freeCtr u.dev u.regs u.straps u.ex u.sites u.siteMap u.mem u.links u.dieErrors u.pho u.fab u.col u.res u.ring u.sec u.pwr v) ↔ Keeps m s0 u :=
  keeps_of 524287 (by unfold Keeps; and_intros <;> first | (intro _; rfl) | (intro h; exact absurd h (by decide))) hm

@[simp] theorem keeps_set_dev_ex {m : Nat} {s0 u : State} (v0) (v1) (hm : m &&& 1048503 = m) :
    Keeps m s0 (State.mk u.pending u.sent u.freeCtr v0 u.regs u.straps v1 u.sites u.siteMap u.mem u.links u.dieErrors u.pho u.fab u.col u.res u.ring u.sec u.pwr u.test) ↔ Keeps m s0 u :=
  keeps_of 1048503 (by unfold Keeps; and_intros <;> first | (intro _; rfl) | (intro h; exact absurd h (by decide))) hm

@[simp] theorem keeps_set_regs_fab {m : Nat} {s0 u : State} (v0) (v1) (hm : m &&& 1040367 = m) :
    Keeps m s0 (State.mk u.pending u.sent u.freeCtr u.dev v0 u.straps u.ex u.sites u.siteMap u.mem u.links u.dieErrors u.pho v1 u.col u.res u.ring u.sec u.pwr u.test) ↔ Keeps m s0 u :=
  keeps_of 1040367 (by unfold Keeps; and_intros <;> first | (intro _; rfl) | (intro h; exact absurd h (by decide))) hm

@[simp] theorem keeps_set_regs_sites_fab {m : Nat} {s0 u : State} (v0) (v1) (v2) (hm : m &&& 1040239 = m) :
    Keeps m s0 (State.mk u.pending u.sent u.freeCtr u.dev v0 u.straps u.ex v1 u.siteMap u.mem u.links u.dieErrors u.pho v2 u.col u.res u.ring u.sec u.pwr u.test) ↔ Keeps m s0 u :=
  keeps_of 1040239 (by unfold Keeps; and_intros <;> first | (intro _; rfl) | (intro h; exact absurd h (by decide))) hm

@[simp] theorem keeps_set_dev_ex_pwr {m : Nat} {s0 u : State} (v0) (v1) (v2) (hm : m &&& 786359 = m) :
    Keeps m s0 (State.mk u.pending u.sent u.freeCtr v0 u.regs u.straps v1 u.sites u.siteMap u.mem u.links u.dieErrors u.pho u.fab u.col u.res u.ring u.sec v2 u.test) ↔ Keeps m s0 u :=
  keeps_of 786359 (by unfold Keeps; and_intros <;> first | (intro _; rfl) | (intro h; exact absurd h (by decide))) hm

@[simp] theorem keeps_set_ring_pwr {m : Nat} {s0 u : State} (v0) (v1) (hm : m &&& 720895 = m) :
    Keeps m s0 (State.mk u.pending u.sent u.freeCtr u.dev u.regs u.straps u.ex u.sites u.siteMap u.mem u.links u.dieErrors u.pho u.fab u.col u.res v0 u.sec v1 u.test) ↔ Keeps m s0 u :=
  keeps_of 720895 (by unfold Keeps; and_intros <;> first | (intro _; rfl) | (intro h; exact absurd h (by decide))) hm

@[simp] theorem keeps_set_straps_pwr {m : Nat} {s0 u : State} (v0) (v1) (hm : m &&& 786399 = m) :
    Keeps m s0 (State.mk u.pending u.sent u.freeCtr u.dev u.regs v0 u.ex u.sites u.siteMap u.mem u.links u.dieErrors u.pho u.fab u.col u.res u.ring u.sec v1 u.test) ↔ Keeps m s0 u :=
  keeps_of 786399 (by unfold Keeps; and_intros <;> first | (intro _; rfl) | (intro h; exact absurd h (by decide))) hm

@[simp] theorem keeps_set_col_res {m : Nat} {s0 u : State} (v0) (v1) (hm : m &&& 999423 = m) :
    Keeps m s0 (State.mk u.pending u.sent u.freeCtr u.dev u.regs u.straps u.ex u.sites u.siteMap u.mem u.links u.dieErrors u.pho u.fab v0 v1 u.ring u.sec u.pwr u.test) ↔ Keeps m s0 u :=
  keeps_of 999423 (by unfold Keeps; and_intros <;> first | (intro _; rfl) | (intro h; exact absurd h (by decide))) hm

@[simp] theorem keeps_set_ex_col_res {m : Nat} {s0 u : State} (v0) (v1) (v2) (hm : m &&& 999359 = m) :
    Keeps m s0 (State.mk u.pending u.sent u.freeCtr u.dev u.regs u.straps v0 u.sites u.siteMap u.mem u.links u.dieErrors u.pho u.fab v1 v2 u.ring u.sec u.pwr u.test) ↔ Keeps m s0 u :=
  keeps_of 999359 (by unfold Keeps; and_intros <;> first | (intro _; rfl) | (intro h; exact absurd h (by decide))) hm

@[simp] theorem keeps_set_dev_ex_col_res {m : Nat} {s0 u : State} (v0) (v1) (v2) (v3) (hm : m &&& 999351 = m) :
    Keeps m s0 (State.mk u.pending u.sent u.freeCtr v0 u.regs u.straps v1 u.sites u.siteMap u.mem u.links u.dieErrors u.pho u.fab v2 v3 u.ring u.sec u.pwr u.test) ↔ Keeps m s0 u :=
  keeps_of 999351 (by unfold Keeps; and_intros <;> first | (intro _; rfl) | (intro h; exact absurd h (by decide))) hm

@[simp] theorem keeps_set_ex_fab_col_res {m : Nat} {s0 u : State} (v0) (v1) (v2) (v3) (hm : m &&& 991167 = m) :
    Keeps m s0 (State.mk u.pending u.sent u.freeCtr u.dev u.regs u.straps v0 u.sites u.siteMap u.mem u.links u.dieErrors u.pho v1 v2 v3 u.ring u.sec u.pwr u.test) ↔ Keeps m s0 u :=
  keeps_of 991167 (by unfold Keeps; and_intros <;> first | (intro _; rfl) | (intro h; exact absurd h (by decide))) hm

@[simp] theorem keeps_set_ex_mem_col_res {m : Nat} {s0 u : State} (v0) (v1) (v2) (v3) (hm : m &&& 998847 = m) :
    Keeps m s0 (State.mk u.pending u.sent u.freeCtr u.dev u.regs u.straps v0 u.sites u.siteMap v1 u.links u.dieErrors u.pho u.fab v2 v3 u.ring u.sec u.pwr u.test) ↔ Keeps m s0 u :=
  keeps_of 998847 (by unfold Keeps; and_intros <;> first | (intro _; rfl) | (intro h; exact absurd h (by decide))) hm

@[simp] theorem keeps_set_dev_res {m : Nat} {s0 u : State} (v0) (v1) (hm : m &&& 1015799 = m) :
    Keeps m s0 (State.mk u.pending u.sent u.freeCtr v0 u.regs u.straps u.ex u.sites u.siteMap u.mem u.links u.dieErrors u.pho u.fab u.col v1 u.ring u.sec u.pwr u.test) ↔ Keeps m s0 u :=
  keeps_of 1015799 (by unfold Keeps; and_intros <;> first | (intro _; rfl) | (intro h; exact absurd h (by decide))) hm

@[simp] theorem keeps_set_dev_ring {m : Nat} {s0 u : State} (v0) (v1) (hm : m &&& 983031 = m) :
    Keeps m s0 (State.mk u.pending u.sent u.freeCtr v0 u.regs u.straps u.ex u.sites u.siteMap u.mem u.links u.dieErrors u.pho u.fab u.col u.res v1 u.sec u.pwr u.test) ↔ Keeps m s0 u :=
  keeps_of 983031 (by unfold Keeps; and_intros <;> first | (intro _; rfl) | (intro h; exact absurd h (by decide))) hm

@[simp] theorem keeps_set_fab_sec {m : Nat} {s0 u : State} (v0) (v1) (hm : m &&& 909311 = m) :
    Keeps m s0 (State.mk u.pending u.sent u.freeCtr u.dev u.regs u.straps u.ex u.sites u.siteMap u.mem u.links u.dieErrors u.pho v0 u.col u.res u.ring v1 u.pwr u.test) ↔ Keeps m s0 u :=
  keeps_of 909311 (by unfold Keeps; and_intros <;> first | (intro _; rfl) | (intro h; exact absurd h (by decide))) hm

@[simp] theorem keeps_set_sites_mem_links_fab_pwr_test {m : Nat} {s0 u : State} (v0) (v1) (v2) (v3) (v4) (v5) (hm : m &&& 252287 = m) :
    Keeps m s0 (State.mk u.pending u.sent u.freeCtr u.dev u.regs u.straps u.ex v0 u.siteMap v1 v2 u.dieErrors u.pho v3 u.col u.res u.ring u.sec v4 v5) ↔ Keeps m s0 u :=
  keeps_of 252287 (by unfold Keeps; and_intros <;> first | (intro _; rfl) | (intro h; exact absurd h (by decide))) hm

@[simp] theorem keeps_set_freeCtr_dev_regs_ex_sites_siteMap_mem_links_dieErrors_fab_col_res_ring_sec_pwr_test {m : Nat} {s0 u : State} (v0) (v1) (v2) (v3) (v4) (v5) (v6) (v7) (v8) (v9) (v10) (v11) (v12) (v13) (v14) (v15) (hm : m &&& 4131 = m) :
    Keeps m s0 (State.mk u.pending u.sent v0 v1 v2 u.straps v3 v4 v5 v6 v7 v8 u.pho v9 v10 v11 v12 v13 v14 v15) ↔ Keeps m s0 u :=
  keeps_of 4131 (by unfold Keeps; and_intros <;> first | (intro _; rfl) | (intro h; exact absurd h (by decide))) hm

@[simp] theorem keeps_ite {m : Nat} {s0 : State} (c : Prop) [Decidable c] (a b : State) :
    Keeps m s0 (if c then a else b) ↔ (if c then Keeps m s0 a else Keeps m s0 b) := by split <;> rfl

theorem keeps_foldl {m : Nat} {α : Type} (f : State → α → State) (h : ∀ u e, Keeps m u (f u e)) (l : List α) (s0 s : State)
    (hs : Keeps m s0 s) : Keeps m s0 (l.foldl f s) := by
  induction l generalizing s with
  | nil => exact hs
  | cons a t ih => exact ih _ (hs.trans (h s a))

@[simp] theorem keeps_foldl_iff {m : Nat} {α : Type} (f : State → α → State) (h : ∀ u e, Keeps m u (f u e)) (l : List α) (s0 s : State) :
    Keeps m s0 (l.foldl f s) ↔ Keeps m s0 s :=
  keeps_of m (keeps_foldl f h l s s (Keeps.refl m s)) (Nat.and_self m)

@[simp] theorem withHalf_keeps {m : Nat} {s0 : State} (half : Nat) (t1 : HalfTest) (s : State) (hm : m &&& 524287 = m) :
    Keeps m s0 (withHalf half t1 s) ↔ Keeps m s0 s := keeps_of 524287 (by unfold withHalf; (repeat' split) <;> simp) hm

@[simp] theorem withSite_keeps {m : Nat} {s0 : State} (key : Nat) (x : Site) (s : State) (hm : m &&& 1048447 = m) :
    Keeps m s0 (withSite key x s) ↔ Keeps m s0 s := keeps_of 1048447 (by unfold withSite; (repeat' split) <;> simp) hm

@[simp] theorem zeroSite_keeps {m : Nat} {s0 : State} (half : Nat) (site : Nat) (s : State) (hm : m &&& 1048447 = m) :
    Keeps m s0 (zeroSite half site s) ↔ Keeps m s0 s := keeps_of 1048447 (by unfold zeroSite; (repeat' split) <;> simp) hm

@[simp] theorem returnCore_keeps {m : Nat} {s0 : State} (half : Nat) (s : State) (hm : m &&& 523903 = m) :
    Keeps m s0 (returnCore half s) ↔ Keeps m s0 s := keeps_of 523903 (by unfold returnCore; dsimp only; (repeat' split) <;> simp [*]) hm

@[simp] theorem abandonTest_keeps {m : Nat} {s0 : State} (s : State) (half : Nat) (hm : m &&& 523903 = m) :
    Keeps m s0 (abandonTest s half) ↔ Keeps m s0 s := keeps_of 523903 (by unfold abandonTest; dsimp only; (repeat' split) <;> simp [*]) hm

@[simp] theorem abandonTests_keeps {m : Nat} {s0 : State} (s : State) (hm : m &&& 523903 = m) :
    Keeps m s0 (abandonTests s) ↔ Keeps m s0 s := keeps_of 523903 (by unfold abandonTests; (repeat' split) <;> simp) hm

@[simp] theorem fresh_keeps {m : Nat} {s0 : State} (s : State) (hm : m &&& 1048573 = m) :
    Keeps m s0 (fresh s) ↔ Keeps m s0 s := keeps_of 1048573 (by unfold fresh; (repeat' split) <;> simp) hm

@[simp] theorem emit_keeps {m : Nat} {s0 : State} (o : Output) (s : State) (hm : m &&& 1048573 = m) :
    Keeps m s0 (emit o s) ↔ Keeps m s0 s := keeps_of 1048573 (by unfold emit; (repeat' split) <;> simp) hm

@[simp] theorem drawn_keeps {m : Nat} {s0 : State} (s : State) (hm : m &&& 1048571 = m) :
    Keeps m s0 (drawn s) ↔ Keeps m s0 s := keeps_of 1048571 (by unfold drawn; (repeat' split) <;> simp) hm

@[simp] theorem withRg_keeps {m : Nat} {s0 : State} (idx : Nat) (sub : Nat) (v : Nat) (s : State) (hm : m &&& 1048559 = m) :
    Keeps m s0 (withRg idx sub v s) ↔ Keeps m s0 s := keeps_of 1048559 (by unfold withRg; (repeat' split) <;> simp) hm

@[simp] theorem bump_keeps {m : Nat} {s0 : State} (idx : Nat) (sub : Nat) (n : Nat) (s : State) (hm : m &&& 1048559 = m) :
    Keeps m s0 (bump idx sub n s) ↔ Keeps m s0 s := keeps_of 1048559 (by unfold bump; (repeat' split) <;> simp) hm

@[simp] theorem withSess_keeps {m : Nat} {s0 : State} (n : Nat) (x : Session) (s : State) (hm : m &&& 917503 = m) :
    Keeps m s0 (withSess n x s) ↔ Keeps m s0 s := keeps_of 917503 (by unfold withSess; (repeat' split) <;> simp) hm

@[simp] theorem raiseFor_keeps {m : Nat} {s0 : State} (aud : Nat) (code : Nat) (payload : Bytes) (s : State) (hm : m &&& 983023 = m) :
    Keeps m s0 (raiseFor aud code payload s) ↔ Keeps m s0 s := keeps_of 983023 (by unfold raiseFor; (repeat' split) <;> simp) hm

@[simp] theorem raise_keeps {m : Nat} {s0 : State} (aud : Nat) (code : Nat) (payload : Bytes) (s : State) (hm : m &&& 983023 = m) :
    Keeps m s0 (raise aud code payload s) ↔ Keeps m s0 s := keeps_of 983023 (by unfold raise; (repeat' split) <;> simp) hm

@[simp] theorem exportIfDue_keeps {m : Nat} {s0 : State} (s : State) (hm : m &&& 851951 = m) :
    Keeps m s0 (exportIfDue s) ↔ Keeps m s0 s := keeps_of 851951 (by unfold exportIfDue; (repeat' split) <;> simp) hm

@[simp] theorem auditDigest_keeps {m : Nat} {s0 : State} (sess : Nat) (idx : Nat) (sub : Nat) (kind : Nat) (keyed : Bool) (len : Nat) (digest : BitVec 384) (s : State) (hm : m &&& 851951 = m) :
    Keeps m s0 (auditDigest sess idx sub kind keyed len digest s) ↔ Keeps m s0 s := keeps_of 851951 (by unfold auditDigest; (repeat' split) <;> simp) hm

@[simp] theorem audit_keeps {m : Nat} {s0 : State} (sess : Nat) (idx : Nat) (sub : Nat) (kind : Nat) (keyed : Bool) (value : Bytes) (s : State) (hm : m &&& 851951 = m) :
    Keeps m s0 (audit sess idx sub kind keyed value s) ↔ Keeps m s0 s := keeps_of 851951 (by unfold audit; (repeat' split) <;> simp) hm

@[simp] theorem countReject_keeps {m : Nat} {s0 : State} (origin : W256) (s : State) (hm : m &&& 917487 = m) :
    Keeps m s0 (countReject origin s) ↔ Keeps m s0 s := keeps_of 917487 (by unfold countReject; (repeat' split) <;> simp) hm

@[simp] theorem noteHead_keeps {m : Nat} {s0 : State} (q : Req) (h1 : Bytes) (s : State) (hm : m &&& 917503 = m) :
    Keeps m s0 (noteHead q h1 s) ↔ Keeps m s0 s := keeps_of 917503 (by unfold noteHead; (repeat' split) <;> simp) hm

@[simp] theorem noteCommand_keeps {m : Nat} {s0 : State} (q : Req) (command : Nat) (idx : Nat) (sub : Nat) (s : State) (hm : m &&& 917503 = m) :
    Keeps m s0 (noteCommand q command idx sub s) ↔ Keeps m s0 s := keeps_of 917503 (by unfold noteCommand; (repeat' split) <;> simp) hm

@[simp] theorem queueOut_keeps {m : Nat} {s0 : State} (o : Output) (s : State) (hm : m &&& 983039 = m) :
    Keeps m s0 (queueOut o s) ↔ Keeps m s0 s := keeps_of 983039 (by unfold queueOut; (repeat' split) <;> simp) hm

@[simp] theorem sendRing_keeps {m : Nat} {s0 : State} (o : Output) (s : State) (hm : m &&& 983037 = m) :
    Keeps m s0 (sendRing o s) ↔ Keeps m s0 s := keeps_of 983037 (by unfold sendRing; (repeat' split) <;> simp) hm

@[simp] theorem completed_keeps {m : Nat} {s0 : State} (q : Req) (code : W32) (data : Bytes) (s : State) (hm : m &&& 917503 = m) :
    Keeps m s0 (completed q code data s) ↔ Keeps m s0 s := keeps_of 917503 (by unfold completed; (repeat' split) <;> simp) hm

@[simp] theorem respond_keeps {m : Nat} {s0 : State} (q : Req) (code : Nat) (data : Bytes) (s : State) (hm : m &&& 851965 = m) :
    Keeps m s0 (respond q code data s) ↔ Keeps m s0 s := keeps_of 851965 (by unfold respond; (repeat' split) <;> simp) hm

@[simp] theorem rejectReq_keeps {m : Nat} {s0 : State} (q : Req) (code : Nat) (s : State) (hm : m &&& 851949 = m) :
    Keeps m s0 (rejectReq q code s) ↔ Keeps m s0 s := keeps_of 851949 (by unfold rejectReq; (repeat' split) <;> simp) hm

@[simp] theorem auditWrite_keeps {m : Nat} {s0 : State} (q : Req) (idx : Nat) (sub : Nat) (value : Bytes) (s : State) (hm : m &&& 851951 = m) :
    Keeps m s0 (auditWrite q idx sub value s) ↔ Keeps m s0 s := keeps_of 851951 (by unfold auditWrite; (repeat' split) <;> simp) hm

@[simp] theorem forgetRange_keeps {m : Nat} {s0 : State} (a : Nat) (n : Nat) (s : State) (hm : m &&& 1048063 = m) :
    Keeps m s0 (forgetRange a n s) ↔ Keeps m s0 s := keeps_of 1048063 (by unfold forgetRange; (repeat' split) <;> simp) hm

@[simp] theorem addPend_keeps {m : Nat} {s0 : State} (k : PendKind) (q : Req) (s : State) (hm : m &&& 917503 = m) :
    Keeps m s0 (addPend k q s) ↔ Keeps m s0 s := keeps_of 917503 (by unfold addPend; (repeat' split) <;> simp) hm

@[simp] theorem dropPend_keeps {m : Nat} {s0 : State} (k : PendKind) (s : State) (hm : m &&& 917503 = m) :
    Keeps m s0 (dropPend k s) ↔ Keeps m s0 s := keeps_of 917503 (by unfold dropPend; (repeat' split) <;> simp) hm

@[simp] theorem finishPend_keeps {m : Nat} {s0 : State} (k : PendKind) (value : Bytes) (s : State) (hm : m &&& 851949 = m) :
    Keeps m s0 (finishPend k value s) ↔ Keeps m s0 s := keeps_of 851949 (by unfold finishPend; (repeat' split) <;> simp) hm

@[simp] theorem failPend_keeps {m : Nat} {s0 : State} (k : PendKind) (code : Nat) (s : State) (hm : m &&& 851949 = m) :
    Keeps m s0 (failPend k code s) ↔ Keeps m s0 s := keeps_of 851949 (by unfold failPend; (repeat' split) <;> simp) hm

@[simp] theorem endBlocks_keeps {m : Nat} {s0 : State} (s : State) (hm : m &&& 851949 = m) :
    Keeps m s0 (endBlocks s) ↔ Keeps m s0 s := keeps_of 851949 (by unfold endBlocks; (repeat' split) <;> simp) hm

@[simp] theorem dropHostCopy_keeps {m : Nat} {s0 : State} (s : State) (hm : m &&& 1048063 = m) :
    Keeps m s0 (dropHostCopy s) ↔ Keeps m s0 s := keeps_of 1048063 (by unfold dropHostCopy; (repeat' split) <;> simp) hm

@[simp] theorem endPending_keeps {m : Nat} {s0 : State} (s : State) (hm : m &&& 818669 = m) :
    Keeps m s0 (endPending s) ↔ Keeps m s0 s := keeps_of 818669 (by unfold endPending; (repeat' split) <;> simp) hm

@[simp] theorem closeTestPort_keeps {m : Nat} {s0 : State} (s : State) (hm : m &&& 262127 = m) :
    Keeps m s0 (closeTestPort s) ↔ Keeps m s0 s := keeps_of 262127 (by unfold closeTestPort; (repeat' split) <;> simp) hm

@[simp] theorem faultEvent_keeps {m : Nat} {s0 : State} (cause : Nat) (kind : Nat) (loc : Bytes) (s : State) (hm : m &&& 983023 = m) :
    Keeps m s0 (faultEvent cause kind loc s) ↔ Keeps m s0 s := keeps_of 983023 (by unfold faultEvent; (repeat' split) <;> simp) hm

@[simp] theorem toFaulted_keeps {m : Nat} {s0 : State} (cause kind : Nat) (loc : Bytes) (s : State) (hm : m &&& 31781 = m) :
    Keeps m s0 (toFaulted cause kind loc s) ↔ Keeps m s0 s := by
  have h1 : ∀ v : State, Keeps 31781 v { v with dev := .faulted, ex := { v.ex with holdPending := false } } := by
    intro v; unfold Keeps; and_intros <;> first | (intro _; rfl) | (intro h; exact absurd h (by decide))
  refine keeps_of 31781 ?_ hm
  unfold toFaulted
  split
  · simp
  · dsimp only
    simp only [faultEvent_keeps, audit_keeps, endPending_keeps, withRg_keeps, Nat.reduceAnd]
    refine Keeps.trans ?_ (h1 _)
    simp

@[simp] theorem clearPoison_keeps {m : Nat} {s0 : State} (a : Nat) (n : Nat) (s : State) (hm : m &&& 1048063 = m) :
    Keeps m s0 (clearPoison a n s) ↔ Keeps m s0 s := keeps_of 1048063 (by unfold clearPoison; (repeat' split) <;> simp) hm

@[simp] theorem poisonSector_keeps {m : Nat} {s0 : State} (a : Nat) (s : State) (hm : m &&& 982511 = m) :
    Keeps m s0 (poisonSector a s) ↔ Keeps m s0 s := keeps_of 982511 (by unfold poisonSector; (repeat' split) <;> simp) hm

@[simp] theorem stepDataError_keeps {m : Nat} {s0 : State} (cause : W32) (late : State → State) (s : State)
    (hm : m &&& 1048511 = m) (h : ∀ u, Keeps m u (late u)) : Keeps m s0 (stepDataError cause late s) ↔ Keeps m s0 s := by
  refine keeps_of m ?_ (Nat.and_self m)
  unfold stepDataError
  dsimp only
  split
  · simp
  · split
    · simp [hm]
    · exact (show Keeps m s _ from by simp [hm]).trans (h _)

@[simp] theorem poisonRead_keeps {m : Nat} {s0 : State} (a : Nat) (s : State) (hm : m &&& 982959 = m) :
    Keeps m s0 (poisonRead a s) ↔ Keeps m s0 s := keeps_of 982959 (by unfold poisonRead; (repeat' split) <;> simp) hm

@[simp] theorem regSpend_keeps {m : Nat} {s0 : State} (q : Nat) (p : Nat) (n : Nat) (s : State) (hm : m &&& 1048063 = m) :
    Keeps m s0 (regSpend q p n s) ↔ Keeps m s0 s := keeps_of 1048063 (by unfold regSpend; (repeat' split) <;> simp) hm

@[simp] theorem regFill_keeps {m : Nat} {s0 : State} (q : Nat) (p : Nat) (s : State) (hm : m &&& 1048063 = m) :
    Keeps m s0 (regFill q p s) ↔ Keeps m s0 s := keeps_of 1048063 (by unfold regFill; (repeat' split) <;> simp) hm

@[simp] theorem regCharge_keeps {m : Nat} {s0 : State} (q : Nat) (p : Nat) (n : Nat) (s : State) (hm : m &&& 1048047 = m) :
    Keeps m s0 (regCharge q p n s) ↔ Keeps m s0 s := keeps_of 1048047 (by unfold regCharge; (repeat' split) <;> simp) hm

@[simp] theorem retireEntry_keeps {m : Nat} {s0 : State} (e : WcEntry) (s : State) (hm : m &&& 1048047 = m) :
    Keeps m s0 (retireEntry e s) ↔ Keeps m s0 s := keeps_of 1048047 (by unfold retireEntry; (repeat' split) <;> simp) hm

@[simp] theorem markRetiring_keeps {m : Nat} {s0 : State} (line : Nat) (s : State) (hm : m &&& 1048063 = m) :
    Keeps m s0 (markRetiring line s) ↔ Keeps m s0 s := keeps_of 1048063 (by unfold markRetiring; (repeat' split) <;> simp) hm

@[simp] theorem retireOrMark_keeps {m : Nat} {s0 : State} (e : WcEntry) (s : State) (hm : m &&& 1048047 = m) :
    Keeps m s0 (retireOrMark e s) ↔ Keeps m s0 s := keeps_of 1048047 (by unfold retireOrMark; (repeat' split) <;> simp) hm

@[simp] theorem retireWaiting_keeps {m : Nat} {s0 : State} (s : State) (hm : m &&& 1048047 = m) :
    Keeps m s0 (retireWaiting s) ↔ Keeps m s0 s := keeps_of 1048047 (by unfold retireWaiting; (repeat' split) <;> simp) hm

@[simp] theorem retireAll_keeps {m : Nat} {s0 : State} (s : State) (hm : m &&& 1048047 = m) :
    Keeps m s0 (retireAll s) ↔ Keeps m s0 s := keeps_of 1048047 (by unfold retireAll; (repeat' split) <;> simp) hm

@[simp] theorem writeBack_keeps {m : Nat} {s0 : State} (line : Nat) (s : State) (hm : m &&& 1048047 = m) :
    Keeps m s0 (writeBack line s) ↔ Keeps m s0 s := keeps_of 1048047 (by unfold writeBack; (repeat' split) <;> simp) hm

@[simp] theorem writeBackAll_keeps {m : Nat} {s0 : State} (s : State) (hm : m &&& 1048047 = m) :
    Keeps m s0 (writeBackAll s) ↔ Keeps m s0 s := keeps_of 1048047 (by unfold writeBackAll; (repeat' split) <;> simp) hm

@[simp] theorem mscEvict_keeps {m : Nat} {s0 : State} (line : Nat) (s : State) (hm : m &&& 1048047 = m) :
    Keeps m s0 (mscEvict line s) ↔ Keeps m s0 s := keeps_of 1048047 (by unfold mscEvict; (repeat' split) <;> simp) hm

@[simp] theorem mscRoom_keeps {m : Nat} {s0 : State} (line : Nat) (s : State) (hm : m &&& 1048043 = m) :
    Keeps m s0 (mscRoom line s) ↔ Keeps m s0 s := keeps_of 1048043 (by unfold mscRoom; (repeat' split) <;> simp) hm

@[simp] theorem mscInstall_keeps {m : Nat} {s0 : State} (line : Nat) (l : CacheLine) (s : State) (hm : m &&& 1048043 = m) :
    Keeps m s0 (mscInstall line l s) ↔ Keeps m s0 s := keeps_of 1048043 (by unfold mscInstall; (repeat' split) <;> simp) hm

@[simp] theorem makeRoom_keeps {m : Nat} {s0 : State} (c : Nat) (s : State) (hm : m &&& 1048047 = m) :
    Keeps m s0 (makeRoom c s) ↔ Keeps m s0 s := keeps_of 1048047 (by unfold makeRoom; dsimp only; (repeat' split) <;> simp [*]) hm

@[simp] theorem combine_keeps {m : Nat} {s0 : State} (m0 : MemReq) (data : Bytes) (s : State) (hm : m &&& 1048047 = m) :
    Keeps m s0 (combine m0 data s) ↔ Keeps m s0 s := keeps_of 1048047 (by unfold combine; (repeat' split) <;> simp) hm

@[simp] theorem coherentWrite_keeps {m : Nat} {s0 : State} (m0 : MemReq) (data : Bytes) (s : State) (hm : m &&& 1048043 = m) :
    Keeps m s0 (coherentWrite m0 data s) ↔ Keeps m s0 s := keeps_of 1048043 (by unfold coherentWrite; dsimp only; (repeat' split) <;> simp [*]) hm

@[simp] theorem withShLines_keeps {m : Nat} {s0 : State} (d : Nat) (line : Nat) (l : List Nat) (s : State) (hm : m &&& 1048063 = m) :
    Keeps m s0 (withShLines d line l s) ↔ Keeps m s0 s := keeps_of 1048063 (by unfold withShLines; (repeat' split) <;> simp) hm

@[simp] theorem shDrop_keeps {m : Nat} {s0 : State} (d : Nat) (line : Nat) (s : State) (hm : m &&& 1048063 = m) :
    Keeps m s0 (shDrop d line s) ↔ Keeps m s0 s := keeps_of 1048063 (by unfold shDrop; (repeat' split) <;> simp) hm

@[simp] theorem shRoom_keeps {m : Nat} {s0 : State} (d : Nat) (line : Nat) (s : State) (hm : m &&& 1048059 = m) :
    Keeps m s0 (shRoom d line s) ↔ Keeps m s0 s := keeps_of 1048059 (by unfold shRoom; (repeat' split) <;> simp) hm

@[simp] theorem installLine_keeps {m : Nat} {s0 : State} (line : Nat) (d : Nat) (s : State) (hm : m &&& 1048059 = m) :
    Keeps m s0 (installLine line d s) ↔ Keeps m s0 s := keeps_of 1048059 (by unfold installLine; (repeat' split) <;> simp) hm

@[simp] theorem invalidate_keeps {m : Nat} {s0 : State} (line : Nat) (dies : List Nat) (s : State) (hm : m &&& 1048061 = m) :
    Keeps m s0 (invalidate line dies s) ↔ Keeps m s0 s := keeps_of 1048061 (by unfold invalidate; (repeat' split) <;> simp) hm

@[simp] theorem readLine_keeps {m : Nat} {s0 : State} (u : Agent) (line : Nat) (s : State) (hm : m &&& 1048043 = m) :
    Keeps m s0 (readLine u line s) ↔ Keeps m s0 s := keeps_of 1048043 (by unfold readLine; (repeat' split) <;> simp) hm

@[simp] theorem readVia_keeps {m : Nat} {s0 : State} (u : Agent) (fill : Option Nat) (line : Nat) (s : State) (hm : m &&& 1048043 = m) :
    Keeps m s0 (readVia u fill line s) ↔ Keeps m s0 s := keeps_of 1048043 (by unfold readVia; (repeat' split) <;> simp) hm

@[simp] theorem readRange_keeps {m : Nat} {s0 : State} (u : Agent) (fill : Option Nat) (a : Nat) (n : Nat) (s : State) (hm : m &&& 1048043 = m) :
    Keeps m s0 (readRange u fill a n s) ↔ Keeps m s0 s := keeps_of 1048043 (by unfold readRange; (repeat' split) <;> simp) hm

@[simp] theorem writeLine_keeps {m : Nat} {s0 : State} (u : Agent) (s : State) (p : Nat × Bytes) (hm : m &&& 1048041 = m) :
    Keeps m s0 (writeLine u s p) ↔ Keeps m s0 s := keeps_of 1048041 (by unfold writeLine; (repeat' split) <;> simp) hm

@[simp] theorem storeBytes_keeps {m : Nat} {s0 : State} (u : Agent) (a : Nat) (data : Bytes) (s : State) (hm : m &&& 1048041 = m) :
    Keeps m s0 (storeBytes u a data s) ↔ Keeps m s0 s := keeps_of 1048041 (by unfold storeBytes; (repeat' split) <;> simp) hm

@[simp] theorem withStack_keeps {m : Nat} {s0 : State} (k : Nat) (x : Stack) (s : State) (hm : m &&& 1048063 = m) :
    Keeps m s0 (withStack k x s) ↔ Keeps m s0 s := keeps_of 1048063 (by unfold withStack; (repeat' split) <;> simp) hm

@[simp] theorem failStack_keeps {m : Nat} {s0 : State} (k : Nat) (s : State) (hm : m &&& 31781 = m) :
    Keeps m s0 (failStack k s) ↔ Keeps m s0 s := keeps_of 31781 (by unfold failStack; (repeat' split) <;> simp) hm

@[simp] theorem discardPacket_keeps {m : Nat} {s0 : State} (die : Nat) (ep : Nat) (s : State) (hm : m &&& 980975 = m) :
    Keeps m s0 (discardPacket die ep s) ↔ Keeps m s0 s := keeps_of 980975 (by unfold discardPacket; (repeat' split) <;> simp) hm

@[simp] theorem receivePackets_keeps {m : Nat} {s0 : State} (die : Nat) (ps : List Packet) (s : State) (hm : m &&& 980975 = m) :
    Keeps m s0 (receivePackets die ps s) ↔ Keeps m s0 s := keeps_of 980975 (by unfold receivePackets; (repeat' split) <;> simp) hm

@[simp] theorem takeInbox_keeps {m : Nat} {s0 : State} (q : Req) (s : State) (hm : m &&& 851967 = m) :
    Keeps m s0 (takeInbox q s) ↔ Keeps m s0 s := keeps_of 851967 (by unfold takeInbox; dsimp only; (repeat' split) <;> simp [*]) hm

@[simp] theorem onArrival_keeps {m : Nat} {s0 : State} (q : Req) (f : State → State) (s : State)
    (hm : m &&& 851949 = m) (h : ∀ u, Keeps m u (f u)) : Keeps m s0 (onArrival q f s) ↔ Keeps m s0 s := by
  have hm1 : m &&& 1048559 = m := and_sub hm (by decide)
  have hm2 : m &&& 1048573 = m := and_sub hm (by decide)
  have hm3 : m &&& 983037 = m := and_sub hm (by decide)
  have hm4 : m &&& 851967 = m := and_sub hm (by decide)
  refine keeps_of m ?_ (Nat.and_self m)
  have h1 : Keeps m s (takeInbox q (fresh s)) := by simp [hm2, hm4]
  unfold onArrival
  dsimp only
  split
  · exact h1
  · simp [hm1, hm2, hm3, hm4]
  · simp [hm1, hm2, hm3, hm4]
  · exact h1
  · exact h1.trans (h _)

@[simp] theorem beginReq_keeps {m : Nat} {s0 : State} (q : Req) (s : State) (hm : m &&& 917503 = m) :
    Keeps m s0 (beginReq q s) ↔ Keeps m s0 s := keeps_of 917503 (by unfold beginReq; (repeat' split) <;> simp) hm

@[simp] theorem forwardAccess_keeps {m : Nat} {s0 : State} (write : Bool) (idx : Nat) (sub : Nat) (s : State) (hm : m &&& 1048573 = m) :
    Keeps m s0 (forwardAccess write idx sub s) ↔ Keeps m s0 s := keeps_of 1048573 (by unfold forwardAccess; (repeat' split) <;> simp) hm

theorem acceptWrite_keeps {m : Nat} (q : Req) (idx sub : Nat) (value : Bytes) (r : Rule) (s : State)
    (hm : m &&& 851949 = m) (h : ∀ u, Keeps m u (r.apply u)) (k : ∀ u, Keeps m u (r.after u)) :
    Keeps m s (acceptWrite q idx sub value r s) := by
  have h0 : Keeps m s (forwardAccess true idx sub s) :=
    (forwardAccess_keeps true idx sub s (and_sub hm (by decide))).mpr (Keeps.refl m s)
  have h1 : ∀ i j v u, Keeps m u (auditWrite q i j v u) := fun i j v u => (auditWrite_keeps q i j v u (and_sub hm (by decide))).mpr (Keeps.refl m u)
  have h2 : ∀ u, Keeps m u (respond q 0 [] u) := fun u => (respond_keeps q 0 [] u (and_sub hm (by decide))).mpr (Keeps.refl m u)
  have h3 : ∀ u, Keeps m u (beginReq q u) := fun u => (beginReq_keeps q u (and_sub hm (by decide))).mpr (Keeps.refl m u)
  refine h0.trans ?_
  unfold acceptWrite
  extract_lets s1 s2 s3
  split
  · exact (h3 s1).trans (h _)
  · refine Keeps.trans ?_ (k _)
    refine Keeps.trans ?_ (h2 _)
    refine (h s1).trans ?_
    show Keeps m s2 s3
    simp only [s3]
    split
    · exact h1 _ _ _ _
    · exact h1 _ _ _ _

@[simp] theorem writeReq_keeps {m : Nat} {s0 : State} (q : Req) (proto idx sub : Nat) (value : Bytes)
    (rule : State → Rule) (s : State) (hm : m &&& 851949 = m) (h : ∀ v u, Keeps m u ((rule v).apply u))
    (k : ∀ v u, Keeps m u ((rule v).after u)) (j : ∀ v u, Keeps m u ((rule v).onReject u)) :
    Keeps m s0 (writeReq q proto idx sub value rule s) ↔ Keeps m s0 s := by
  have h0 : ∀ c u, Keeps m u (noteCommand q c idx sub u) := fun c u =>
    (noteCommand_keeps q c idx sub u (and_sub hm (by decide))).mpr (Keeps.refl m u)
  have h1 : ∀ c u, Keeps m u (rejectReq q c u) := fun c u => (rejectReq_keeps q c u (and_sub hm (by decide))).mpr (Keeps.refl m u)
  refine onArrival_keeps q _ s (and_sub hm (by decide)) ?_
  intro u
  extract_lets v r code
  have h2 : Keeps m u v := h0 _ u
  refine h2.trans ?_
  split
  · exact acceptWrite_keeps q idx sub value r v hm (h v) (k v)
  · exact (j v v).trans (h1 _ _)

@[simp] theorem storeRule_apply_keeps {m : Nat} {s0 : State} (idx : Nat) (sub : Nat) (value : Bytes) (codes : List Nat) (u0 : State) (hm : m &&& 1048559 = m) :
    Keeps m s0 ((storeRule idx sub value codes).apply u0) ↔ Keeps m s0 u0 := keeps_of 1048559 (by unfold storeRule; (repeat' split) <;> simp) hm

@[simp] theorem storeRule_after_keeps {m : Nat} {s0 : State} (idx : Nat) (sub : Nat) (value : Bytes) (codes : List Nat) (u0 : State) (hm : m &&& 1048559 = m) :
    Keeps m s0 ((storeRule idx sub value codes).after u0) ↔ Keeps m s0 u0 := keeps_of 1048559 (by unfold storeRule; (repeat' split) <;> simp) hm

@[simp] theorem storeRule_onReject_keeps {m : Nat} {s0 : State} (idx : Nat) (sub : Nat) (value : Bytes) (codes : List Nat) (u0 : State) (hm : m &&& 1048559 = m) :
    Keeps m s0 ((storeRule idx sub value codes).onReject u0) ↔ Keeps m s0 u0 := keeps_of 1048559 (by unfold storeRule; (repeat' split) <;> simp) hm

@[simp] theorem withOwnVal_keeps {m : Nat} {s0 : State} (sess : Nat) (idx : Nat) (sub : Nat) (v : Nat) (s : State) (hm : m &&& 917503 = m) :
    Keeps m s0 (withOwnVal sess idx sub v s) ↔ Keeps m s0 s := keeps_of 917503 (by unfold withOwnVal; (repeat' split) <;> simp) hm

@[simp] theorem cacheBad_keeps {m : Nat} {s0 : State} (die : Nat) (ep : Nat) (a : Nat) (s : State) (hm : m &&& 982511 = m) :
    Keeps m s0 (cacheBad die ep a s) ↔ Keeps m s0 s := keeps_of 982511 (by unfold cacheBad; (repeat' split) <;> simp) hm

@[simp] theorem applyShared_keeps {m : Nat} {s0 : State} (a : Nat) (d : Nat) (e : MemEcc) (s : State) (hm : m &&& 982511 = m) :
    Keeps m s0 (applyShared a d e s) ↔ Keeps m s0 s := keeps_of 982511 (by unfold applyShared; (repeat' split) <;> simp) hm

@[simp] theorem applySnoop_keeps {m : Nat} {s0 : State} (a : Nat) (e : MemEcc) (s : State) (hm : m &&& 1048061 = m) :
    Keeps m s0 (applySnoop a e s) ↔ Keeps m s0 s := keeps_of 1048061 (by unfold applySnoop; (repeat' split) <;> simp) hm

@[simp] theorem applyEcc_keeps {m : Nat} {s0 : State} (a : Nat) (hbm : Bool) (e : MemEcc) (s : State) (hm : m &&& 31781 = m) :
    Keeps m s0 (applyEcc a hbm e s) ↔ Keeps m s0 s := keeps_of 31781 (by unfold applyEcc; (repeat' split) <;> simp) hm

@[simp] theorem expectAnswer_keeps {m : Nat} {s0 : State} (m0 : MemReq) (write : Bool) (s : State) (hm : m &&& 1048063 = m) :
    Keeps m s0 (expectAnswer m0 write s) ↔ Keeps m s0 s := keeps_of 1048063 (by unfold expectAnswer; (repeat' split) <;> simp) hm

@[simp] theorem sendAnswer_keeps {m : Nat} {s0 : State} (m0 : MemReq) (write : Bool) (s : State) (hm : m &&& 1048063 = m) :
    Keeps m s0 (sendAnswer m0 write s) ↔ Keeps m s0 s := keeps_of 1048063 (by unfold sendAnswer; (repeat' split) <;> simp) hm

@[simp] theorem serveRead_keeps {m : Nat} {s0 : State} (m0 : MemReq) (ecc : MemEcc) (s : State) (hm : m &&& 31777 = m) :
    Keeps m s0 (serveRead m0 ecc s) ↔ Keeps m s0 s := keeps_of 31777 (by unfold serveRead; (repeat' split) <;> simp) hm

@[simp] theorem serveWrite_keeps {m : Nat} {s0 : State} (m0 : MemReq) (data : Bytes) (s : State) (hm : m &&& 1048041 = m) :
    Keeps m s0 (serveWrite m0 data s) ↔ Keeps m s0 s := keeps_of 1048041 (by unfold serveWrite; (repeat' split) <;> simp) hm

@[simp] theorem waitRequest_keeps {m : Nat} {s0 : State} (w : WaitingReq) (s : State) (hm : m &&& 1048063 = m) :
    Keeps m s0 (waitRequest w s) ↔ Keeps m s0 s := keeps_of 1048063 (by unfold waitRequest; (repeat' split) <;> simp) hm

@[simp] theorem drainWaits_keeps {m : Nat} {s0 : State} (s : State) (hm : m &&& 31777 = m) :
    Keeps m s0 (drainWaits s) ↔ Keeps m s0 s := keeps_of 31777 (by unfold drainWaits; (repeat' split) <;> simp) hm

@[simp] theorem discardRequest_keeps {m : Nat} {s0 : State} (p : Packet) (s : State) (hm : m &&& 980975 = m) :
    Keeps m s0 (discardRequest p s) ↔ Keeps m s0 s := keeps_of 980975 (by unfold discardRequest; (repeat' split) <;> simp) hm

@[simp] theorem answered_keeps {m : Nat} {s0 : State} (die : Nat) (ep : Nat) (tag : Nat) (write : Bool) (s : State) (hm : m &&& 1048063 = m) :
    Keeps m s0 (answered die ep tag write s) ↔ Keeps m s0 s := keeps_of 1048063 (by unfold answered; (repeat' split) <;> simp) hm

@[simp] theorem ackWrite_keeps {m : Nat} {s0 : State} (s : State) (w : WaitingWrite) (hm : m &&& 1048061 = m) :
    Keeps m s0 (ackWrite s w) ↔ Keeps m s0 s := keeps_of 1048061 (by unfold ackWrite; (repeat' split) <;> simp) hm

@[simp] theorem retireDue_keeps {m : Nat} {s0 : State} (s : State) (hm : m &&& 1048047 = m) :
    Keeps m s0 (retireDue s) ↔ Keeps m s0 s := keeps_of 1048047 (by unfold retireDue; (repeat' split) <;> simp) hm

@[simp] theorem readStack_keeps {m : Nat} {s0 : State} (k : Nat) (temp : Nat) (s : State) (hm : m &&& 982511 = m) :
    Keeps m s0 (readStack k temp s) ↔ Keeps m s0 s := keeps_of 982511 (by unfold readStack; (repeat' split) <;> simp) hm

@[simp] theorem scrubOne_keeps {m : Nat} {s0 : State} (s : State) (f : ScrubFinding) (hm : m &&& 982511 = m) :
    Keeps m s0 (scrubOne s f) ↔ Keeps m s0 s := keeps_of 982511 (by unfold scrubOne; (repeat' split) <;> simp) hm

@[simp] theorem chargeScrub_keeps {m : Nat} {s0 : State} (s : State) (hm : m &&& 1048047 = m) :
    Keeps m s0 (chargeScrub s) ↔ Keeps m s0 s := keeps_of 1048047 (by unfold chargeScrub; (repeat' split) <;> simp) hm

@[simp] theorem repairGroup_keeps {m : Nat} {s0 : State} (f : LaneFailure) (s : State) (hm : m &&& 851439 = m) :
    Keeps m s0 (repairGroup f s) ↔ Keeps m s0 s := keeps_of 851439 (by unfold repairGroup; (repeat' split) <;> simp) hm

@[simp] theorem trainStacks_keeps {m : Nat} {s0 : State} (failures : List LaneFailure) (s : State) (hm : m &&& 851439 = m) :
    Keeps m s0 (trainStacks failures s) ↔ Keeps m s0 s := keeps_of 851439 (by unfold trainStacks; (repeat' split) <;> simp) hm

@[simp] theorem trainingDone_keeps {m : Nat} {s0 : State} (s : State) (hm : m &&& 31781 = m) :
    Keeps m s0 (trainingDone s) ↔ Keeps m s0 s := keeps_of 31781 (by unfold trainingDone; (repeat' split) <;> simp) hm

@[simp] theorem chargeGen_keeps {m : Nat} {s0 : State} (r : GenRun) (s : State) (hm : m &&& 1048047 = m) :
    Keeps m s0 (chargeGen r s) ↔ Keeps m s0 s := keeps_of 1048047 (by unfold chargeGen; (repeat' split) <;> simp) hm

@[simp] theorem noteTested_keeps {m : Nat} {s0 : State} (g : GenReq) (s : State) (hm : m &&& 1048063 = m) :
    Keeps m s0 (noteTested g s) ↔ Keeps m s0 s := keeps_of 1048063 (by unfold noteTested; (repeat' split) <;> simp) hm

@[simp] theorem forgetTested_keeps {m : Nat} {s0 : State} (g : GenReq) (s : State) (hm : m &&& 1048063 = m) :
    Keeps m s0 (forgetTested g s) ↔ Keeps m s0 s := keeps_of 1048063 (by unfold forgetTested; (repeat' split) <;> simp) hm

@[simp] theorem stopGenerator_keeps {m : Nat} {s0 : State} (s : State) (hm : m &&& 1048047 = m) :
    Keeps m s0 (stopGenerator s) ↔ Keeps m s0 s := keeps_of 1048047 (by unfold stopGenerator; (repeat' split) <;> simp) hm

@[simp] theorem genRule_apply_keeps {m : Nat} {s0 : State} (op : Nat) (g : GenReq) (s : State) (u0 : State) (hm : m &&& 1048047 = m) :
    Keeps m s0 ((genRule op g s).apply u0) ↔ Keeps m s0 u0 := keeps_of 1048047 (by unfold genRule; (repeat' split) <;> simp) hm

@[simp] theorem genRule_after_keeps {m : Nat} {s0 : State} (op : Nat) (g : GenReq) (s : State) (u0 : State) (hm : m &&& 1048047 = m) :
    Keeps m s0 ((genRule op g s).after u0) ↔ Keeps m s0 u0 := keeps_of 1048047 (by unfold genRule; (repeat' split) <;> simp) hm

@[simp] theorem genRule_onReject_keeps {m : Nat} {s0 : State} (op : Nat) (g : GenReq) (s : State) (u0 : State) (hm : m &&& 1048047 = m) :
    Keeps m s0 ((genRule op g s).onReject u0) ↔ Keeps m s0 u0 := keeps_of 1048047 (by unfold genRule; (repeat' split) <;> simp) hm

@[simp] theorem genRequest_keeps {m : Nat} {s0 : State} (op : Nat) (q : Req) (g : GenReq) (s : State) (hm : m &&& 851437 = m) :
    Keeps m s0 (genRequest op q g s) ↔ Keeps m s0 s := keeps_of 851437 (by unfold genRequest; (repeat' split) <;> simp) hm

@[simp] theorem partitionRule_apply_keeps {m : Nat} {s0 : State} (sub : Nat) (v : Nat) (s : State) (u0 : State) (hm : m &&& 1048047 = m) :
    Keeps m s0 ((partitionRule sub v s).apply u0) ↔ Keeps m s0 u0 := keeps_of 1048047 (by unfold partitionRule; (repeat' split) <;> simp) hm

@[simp] theorem partitionRule_after_keeps {m : Nat} {s0 : State} (sub : Nat) (v : Nat) (s : State) (u0 : State) (hm : m &&& 1048047 = m) :
    Keeps m s0 ((partitionRule sub v s).after u0) ↔ Keeps m s0 u0 := keeps_of 1048047 (by unfold partitionRule; (repeat' split) <;> simp) hm

@[simp] theorem partitionRule_onReject_keeps {m : Nat} {s0 : State} (sub : Nat) (v : Nat) (s : State) (u0 : State) (hm : m &&& 1048047 = m) :
    Keeps m s0 ((partitionRule sub v s).onReject u0) ↔ Keeps m s0 u0 := keeps_of 1048047 (by unfold partitionRule; (repeat' split) <;> simp) hm

@[simp] theorem emptyCaches_keeps {m : Nat} {s0 : State} (s : State) (hm : m &&& 1048047 = m) :
    Keeps m s0 (emptyCaches s) ↔ Keeps m s0 s := keeps_of 1048047 (by unfold emptyCaches; (repeat' split) <;> simp) hm

@[simp] theorem boundaryRule_apply_keeps {m : Nat} {s0 : State} (v : Nat) (a1 : State) (u0 : State) (hm : m &&& 1048047 = m) :
    Keeps m s0 ((boundaryRule v a1).apply u0) ↔ Keeps m s0 u0 := keeps_of 1048047 (by unfold boundaryRule; (repeat' split) <;> simp) hm

@[simp] theorem boundaryRule_after_keeps {m : Nat} {s0 : State} (v : Nat) (a1 : State) (u0 : State) (hm : m &&& 1048047 = m) :
    Keeps m s0 ((boundaryRule v a1).after u0) ↔ Keeps m s0 u0 := keeps_of 1048047 (by unfold boundaryRule; (repeat' split) <;> simp) hm

@[simp] theorem boundaryRule_onReject_keeps {m : Nat} {s0 : State} (v : Nat) (a1 : State) (u0 : State) (hm : m &&& 1048047 = m) :
    Keeps m s0 ((boundaryRule v a1).onReject u0) ↔ Keeps m s0 u0 := keeps_of 1048047 (by unfold boundaryRule; (repeat' split) <;> simp) hm

@[simp] theorem storeAt_keeps {m : Nat} {s0 : State} (u : Agent) (key : Nat) (mem : Bool) (a : Nat) (data : Bytes) (s : State) (hm : m &&& 1047913 = m) :
    Keeps m s0 (storeAt u key mem a data s) ↔ Keeps m s0 s := keeps_of 1047913 (by unfold storeAt; (repeat' split) <;> simp) hm

@[simp] theorem storeAll_keeps {m : Nat} {s0 : State} (u : Agent) (key : Nat) (mem : Bool) (ws : List (Nat × Bytes)) (s : State) (hm : m &&& 1047913 = m) :
    Keeps m s0 (storeAll u key mem ws s) ↔ Keeps m s0 s := keeps_of 1047913 (by unfold storeAll; (repeat' split) <;> simp) hm

@[simp] theorem writeRef_keeps {m : Nat} {s0 : State} (sc : Score) (u : Agent) (key : Nat) (r : Nat) (data : Bytes) (s : State) (hm : m &&& 1047913 = m) :
    Keeps m s0 (writeRef sc u key r data s) ↔ Keeps m s0 s := keeps_of 1047913 (by unfold writeRef; (repeat' split) <;> simp) hm

@[simp] theorem readPieces_keeps {m : Nat} {s0 : State} (u : Agent) (fill : Option Nat) (ps : List Piece) (s : State) (hm : m &&& 1048043 = m) :
    Keeps m s0 (readPieces u fill ps s) ↔ Keeps m s0 s := keeps_of 1048043 (by unfold readPieces; (repeat' split) <;> simp) hm

@[simp] theorem storeError_keeps {m : Nat} {s0 : State} (half : Nat) (core : Nat) (key : Nat) (s : State) (e : StoreErr) (hm : m &&& 982831 = m) :
    Keeps m s0 (storeError half core key s e) ↔ Keeps m s0 s := keeps_of 982831 (by unfold storeError; (repeat' split) <;> simp) hm

@[simp] theorem noteResults_keeps {m : Nat} {s0 : State} (key : Nat) (idx : Nat) (ovf : Nat) (inv : Nat) (s : State) (hm : m &&& 1048431 = m) :
    Keeps m s0 (noteResults key idx ovf inv s) ↔ Keeps m s0 s := keeps_of 1048431 (by unfold noteResults; (repeat' split) <;> simp) hm

@[simp] theorem noteConversions_keeps {m : Nat} {s0 : State} (sats : Nat) (ovfs : Nat) (s : State) (hm : m &&& 1048559 = m) :
    Keeps m s0 (noteConversions sats ovfs s) ↔ Keeps m s0 s := keeps_of 1048559 (by unfold noteConversions; (repeat' split) <;> simp) hm

@[simp] theorem writeResult_keeps {m : Nat} {s0 : State} (sc : Score) (key : Nat) (ref : Nat) (fmt : Nat) (sat : Bool) (f : Nat → Nat → W32) (s : State) (hm : m &&& 1047913 = m) :
    Keeps m s0 (writeResult sc key ref fmt sat f s) ↔ Keeps m s0 s := keeps_of 1047913 (by unfold writeResult; (repeat' split) <;> simp) hm

@[simp] theorem watch_keeps {m : Nat} {s0 : State} (s00 : State) (sc : Score) (key : Nat) (x0 : Site) (ix : Nat) (c : Crumb) (order : List Nat) (s : State) (hm : m &&& 1048431 = m) :
    Keeps m s0 (watch s00 sc key x0 ix c order s) ↔ Keeps m s0 s := keeps_of 1048431 (by unfold watch; (repeat' split) <;> simp) hm

@[simp] theorem mmaEffect_keeps {m : Nat} {s0 : State} (sc : Score) (key : Nat) (ix : Nat) (c : Crumb) (s : State) (hm : m &&& 1047913 = m) :
    Keeps m s0 (mmaEffect sc key ix c s) ↔ Keeps m s0 s := keeps_of 1047913 (by unfold mmaEffect; (repeat' split) <;> simp) hm

@[simp] theorem accoutEffect_keeps {m : Nat} {s0 : State} (sc : Score) (key : Nat) (c : Crumb) (s : State) (hm : m &&& 1047913 = m) :
    Keeps m s0 (accoutEffect sc key c s) ↔ Keeps m s0 s := keeps_of 1047913 (by unfold accoutEffect; (repeat' split) <;> simp) hm

@[simp] theorem accinitEffect_keeps {m : Nat} {s0 : State} (sc : Score) (key : Nat) (c : Crumb) (s : State) (hm : m &&& 1048447 = m) :
    Keeps m s0 (accinitEffect sc key c s) ↔ Keeps m s0 s := keeps_of 1048447 (by unfold accinitEffect; (repeat' split) <;> simp) hm

@[simp] theorem topkEffect_keeps {m : Nat} {s0 : State} (sc : Score) (key : Nat) (c : Crumb) (s : State) (hm : m &&& 1047913 = m) :
    Keeps m s0 (topkEffect sc key c s) ↔ Keeps m s0 s := keeps_of 1047913 (by unfold topkEffect; (repeat' split) <;> simp) hm

@[simp] theorem matrixEffect_keeps {m : Nat} {s0 : State} (sc : Score) (key : Nat) (ix : Nat) (c : Crumb) (s : State) (hm : m &&& 1047913 = m) :
    Keeps m s0 (matrixEffect sc key ix c s) ↔ Keeps m s0 s := keeps_of 1047913 (by unfold matrixEffect; (repeat' split) <;> simp) hm

@[simp] theorem noteConvs_keeps {m : Nat} {s0 : State} (cs : List Conv) (s : State) (hm : m &&& 1048559 = m) :
    Keeps m s0 (noteConvs cs s) ↔ Keeps m s0 s := keeps_of 1048559 (by unfold noteConvs; (repeat' split) <;> simp) hm

@[simp] theorem putElems_keeps {m : Nat} {s0 : State} (sc : Score) (key : Nat) (c : Crumb) (tile : Bool) (rs : List (Nat × W32)) (s : State) (hm : m &&& 1047913 = m) :
    Keeps m s0 (putElems sc key c tile rs s) ↔ Keeps m s0 s := keeps_of 1047913 (by unfold putElems; (repeat' split) <;> simp) hm

@[simp] theorem vecGroup_keeps {m : Nat} {s0 : State} (sc : Score) (key : Nat) (c : Crumb) (n : Nat) (s : State) (g : Nat) (hm : m &&& 1047913 = m) :
    Keeps m s0 (vecGroup sc key c n s g) ↔ Keeps m s0 s := keeps_of 1047913 (by unfold vecGroup; (repeat' split) <;> simp) hm

@[simp] theorem vecElementwise_keeps {m : Nat} {s0 : State} (sc : Score) (key : Nat) (c : Crumb) (s : State) (hm : m &&& 1047913 = m) :
    Keeps m s0 (vecElementwise sc key c s) ↔ Keeps m s0 s := keeps_of 1047913 (by unfold vecElementwise; (repeat' split) <;> simp) hm

@[simp] theorem vecReduce_keeps {m : Nat} {s0 : State} (sc : Score) (key : Nat) (c : Crumb) (s : State) (hm : m &&& 1047913 = m) :
    Keeps m s0 (vecReduce sc key c s) ↔ Keeps m s0 s := keeps_of 1047913 (by unfold vecReduce; (repeat' split) <;> simp) hm

@[simp] theorem vecLoadScalars_keeps {m : Nat} {s0 : State} (sc : Score) (key : Nat) (c : Crumb) (s : State) (hm : m &&& 1048447 = m) :
    Keeps m s0 (vecLoadScalars sc key c s) ↔ Keeps m s0 s := keeps_of 1048447 (by unfold vecLoadScalars; (repeat' split) <;> simp) hm

@[simp] theorem vecFlag_keeps {m : Nat} {s0 : State} (sc : Score) (key : Nat) (c : Crumb) (s : State) (hm : m &&& 1047913 = m) :
    Keeps m s0 (vecFlag sc key c s) ↔ Keeps m s0 s := keeps_of 1047913 (by unfold vecFlag; (repeat' split) <;> simp) hm

@[simp] theorem optStore_keeps {m : Nat} {s0 : State} (sc : Score) (key : Nat) (c : Crumb) (r : OptRec) (f : Nat) (use : Nat) (ws : List (Nat × W32)) (s : State) (hm : m &&& 1047913 = m) :
    Keeps m s0 (optStore sc key c r f use ws s) ↔ Keeps m s0 s := keeps_of 1047913 (by unfold optStore; (repeat' split) <;> simp) hm

@[simp] theorem optGroup_keeps {m : Nat} {s0 : State} (sc : Score) (key : Nat) (c : Crumb) (r : OptRec) (n : Nat) (s : State) (g : Nat) (hm : m &&& 1047913 = m) :
    Keeps m s0 (optGroup sc key c r n s g) ↔ Keeps m s0 s := keeps_of 1047913 (by unfold optGroup; (repeat' split) <;> simp) hm

@[simp] theorem voptEffect_keeps {m : Nat} {s0 : State} (sc : Score) (half : Nat) (core : Nat) (key : Nat) (c : Crumb) (s : State) (hm : m &&& 982313 = m) :
    Keeps m s0 (voptEffect sc half core key c s) ↔ Keeps m s0 s := keeps_of 982313 (by unfold voptEffect; (repeat' split) <;> simp) hm

@[simp] theorem vectorEffect_keeps {m : Nat} {s0 : State} (sc : Score) (half : Nat) (core : Nat) (key : Nat) (c : Crumb) (s : State) (hm : m &&& 982313 = m) :
    Keeps m s0 (vectorEffect sc half core key c s) ↔ Keeps m s0 s := keeps_of 982313 (by unfold vectorEffect; (repeat' split) <;> simp) hm

@[simp] theorem runCopy_keeps {m : Nat} {s0 : State} (sc : Score) (u : Agent) (key : Nat) (counter : Nat) (src : Desc) (dst : Desc) (s : State) (hm : m &&& 1047913 = m) :
    Keeps m s0 (runCopy sc u key counter src dst s) ↔ Keeps m s0 s := keeps_of 1047913 (by unfold runCopy; dsimp only; (repeat' split) <;> simp [*]) hm

@[simp] theorem ctransEffect_keeps {m : Nat} {s0 : State} (key : Nat) (c : Crumb) (s : State) (hm : m &&& 1048431 = m) :
    Keeps m s0 (ctransEffect key c s) ↔ Keeps m s0 s := keeps_of 1048431 (by unfold ctransEffect; (repeat' split) <;> simp) hm

@[simp] theorem copyEffect_keeps {m : Nat} {s0 : State} (sc : Score) (key : Nat) (c : Crumb) (s : State) (hm : m &&& 1047913 = m) :
    Keeps m s0 (copyEffect sc key c s) ↔ Keeps m s0 s := keeps_of 1047913 (by unfold copyEffect; (repeat' split) <;> simp) hm

@[simp] theorem hostLoad_keeps {m : Nat} {s0 : State} (base : Nat) (d : Desc) (s : State) (hm : m &&& 1047913 = m) :
    Keeps m s0 (hostLoad base d s) ↔ Keeps m s0 s := keeps_of 1047913 (by unfold hostLoad; (repeat' split) <;> simp) hm

@[simp] theorem hostStore_keeps {m : Nat} {s0 : State} (base : Nat) (d : Desc) (s : State) (hm : m &&& 982377 = m) :
    Keeps m s0 (hostStore base d s) ↔ Keeps m s0 s := keeps_of 982377 (by unfold hostStore; dsimp only; (repeat' split) <;> simp [*]) hm

@[simp] theorem hostRule_apply_keeps {m : Nat} {s0 : State} (q : Req) (value : Bytes) (s : State) (u0 : State) (hm : m &&& 916991 = m) :
    Keeps m s0 ((hostRule q value s).apply u0) ↔ Keeps m s0 u0 := keeps_of 916991 (by unfold hostRule; (repeat' split) <;> simp) hm

@[simp] theorem hostRule_after_keeps {m : Nat} {s0 : State} (q : Req) (value : Bytes) (s : State) (u0 : State) (hm : m &&& 916991 = m) :
    Keeps m s0 ((hostRule q value s).after u0) ↔ Keeps m s0 u0 := keeps_of 916991 (by unfold hostRule; (repeat' split) <;> simp) hm

@[simp] theorem hostRule_onReject_keeps {m : Nat} {s0 : State} (q : Req) (value : Bytes) (s : State) (u0 : State) (hm : m &&& 916991 = m) :
    Keeps m s0 ((hostRule q value s).onReject u0) ↔ Keeps m s0 u0 := keeps_of 916991 (by unfold hostRule; (repeat' split) <;> simp) hm

@[simp] theorem withStep_keeps {m : Nat} {s0 : State} (f : Step → Step) (s : State) (hm : m &&& 1048511 = m) :
    Keeps m s0 (withStep f s) ↔ Keeps m s0 s := keeps_of 1048511 (by unfold withStep; (repeat' split) <;> simp) hm

@[simp] theorem addToken_keeps {m : Nat} {s0 : State} (sc : Score) (t1 : Nat) (n : Nat) (s : State) (hm : m &&& 1048495 = m) :
    Keeps m s0 (addToken sc t1 n s) ↔ Keeps m s0 s := keeps_of 1048495 (by unfold addToken; (repeat' split) <;> simp) hm

@[simp] theorem withCreditUsed_keeps {m : Nat} {s0 : State} (unit : Nat) (ep : Nat) (cls : Nat) (n : Nat) (s : State) (hm : m &&& 1048511 = m) :
    Keeps m s0 (withCreditUsed unit ep cls n s) ↔ Keeps m s0 s := keeps_of 1048511 (by unfold withCreditUsed; (repeat' split) <;> simp) hm

@[simp] theorem takeCredit_keeps {m : Nat} {s0 : State} (unit : Nat) (ep : Nat) (cls : Nat) (s : State) (hm : m &&& 1048511 = m) :
    Keeps m s0 (takeCredit unit ep cls s) ↔ Keeps m s0 s := keeps_of 1048511 (by unfold takeCredit; (repeat' split) <;> simp) hm

@[simp] theorem sendToken_keeps {m : Nat} {s0 : State} (unit : Nat) (d : TokDecl) (n : Nat) (s : State) (hm : m &&& 1048509 = m) :
    Keeps m s0 (sendToken unit d n s) ↔ Keeps m s0 s := keeps_of 1048509 (by unfold sendToken; (repeat' split) <;> simp) hm

@[simp] theorem sendGrant_keeps {m : Nat} {s0 : State} (unit : Nat) (p : PoolDecl) (n : Nat) (s : State) (hm : m &&& 1048509 = m) :
    Keeps m s0 (sendGrant unit p n s) ↔ Keeps m s0 s := keeps_of 1048509 (by unfold sendGrant; (repeat' split) <;> simp) hm

@[simp] theorem deliverFrom_keeps {m : Nat} {s0 : State} (unit : Nat) (sc : Score) (die : Nat) (ep : Nat) (rs : List TokRef) (s : State) (hm : m &&& 1048493 = m) :
    Keeps m s0 (deliverFrom unit sc die ep rs s) ↔ Keeps m s0 s := keeps_of 1048493 (by unfold deliverFrom; repeat' (first | (simp; done) | split | (apply keeps_foldl <;> intros))) hm

@[simp] theorem deliver_keeps {m : Nat} {s0 : State} (sc : Score) (die : Nat) (ep : Nat) (rs : List TokRef) (s : State) (hm : m &&& 1048493 = m) :
    Keeps m s0 (deliver sc die ep rs s) ↔ Keeps m s0 s := keeps_of 1048493 (by unfold deliver; repeat' (first | (simp; done) | split | (apply keeps_foldl <;> intros))) hm

@[simp] theorem addFill_keeps {m : Nat} {s0 : State} (sc : Score) (b : Nat) (n : Nat) (s : State) (hm : m &&& 1048495 = m) :
    Keeps m s0 (addFill sc b n s) ↔ Keeps m s0 s := keeps_of 1048495 (by unfold addFill; (repeat' split) <;> simp) hm

@[simp] theorem spendPool_keeps {m : Nat} {s0 : State} (p : Nat) (n : Nat) (s : State) (hm : m &&& 1048511 = m) :
    Keeps m s0 (spendPool p n s) ↔ Keeps m s0 s := keeps_of 1048511 (by unfold spendPool; (repeat' split) <;> simp) hm

@[simp] theorem returnPool_keeps {m : Nat} {s0 : State} (p : Nat) (n : Nat) (s : State) (hm : m &&& 1048511 = m) :
    Keeps m s0 (returnPool p n s) ↔ Keeps m s0 s := keeps_of 1048511 (by unfold returnPool; (repeat' split) <;> simp) hm

@[simp] theorem withSeq_keeps {m : Nat} {s0 : State} (half : Nat) (core : Nat) (q : Seq) (s : State) (hm : m &&& 1048511 = m) :
    Keeps m s0 (withSeq half core q s) ↔ Keeps m s0 s := keeps_of 1048511 (by unfold withSeq; (repeat' split) <;> simp) hm

@[simp] theorem fetchRecord_keeps {m : Nat} {s0 : State} (sc : Score) (key : Nat) (s : State) (i : Nat) (hm : m &&& 982443 = m) :
    Keeps m s0 (fetchRecord sc key s i) ↔ Keeps m s0 s := keeps_of 982443 (by unfold fetchRecord; dsimp only; (repeat' split) <;> simp [*]) hm

@[simp] theorem advanceList_keeps {m : Nat} {s0 : State} (sc : Score) (half : Nat) (core : Nat) (before : List Nat) (q : Seq) (s : State) (hm : m &&& 982443 = m) :
    Keeps m s0 (advanceList sc half core before q s) ↔ Keeps m s0 s := keeps_of 982443 (by unfold advanceList; (repeat' split) <;> simp) hm

@[simp] theorem setList_keeps {m : Nat} {s0 : State} (sc : Score) (half : Nat) (core : Nat) (q : Seq) (s : State) (hm : m &&& 982443 = m) :
    Keeps m s0 (setList sc half core q s) ↔ Keeps m s0 s := keeps_of 982443 (by unfold setList; (repeat' split) <;> simp) hm

@[simp] theorem fetchOperand_keeps {m : Nat} {s0 : State} (sc : Score) (half : Nat) (core : Nat) (p : Prefetch) (s : State) (hm : m &&& 1048043 = m) :
    Keeps m s0 (fetchOperand sc half core p s) ↔ Keeps m s0 s := keeps_of 1048043 (by unfold fetchOperand; (repeat' split) <;> simp) hm

@[simp] theorem refillPrefetch_keeps {m : Nat} {s0 : State} (sc : Score) (half : Nat) (core : Nat) (s : State) (hm : m &&& 1047979 = m) :
    Keeps m s0 (refillPrefetch sc half core s) ↔ Keeps m s0 s := keeps_of 1047979 (by unfold refillPrefetch; (repeat' split) <;> simp) hm

@[simp] theorem endPrefetch_keeps {m : Nat} {s0 : State} (i : Nat) (s : State) (hm : m &&& 1048511 = m) :
    Keeps m s0 (endPrefetch i s) ↔ Keeps m s0 s := keeps_of 1048511 (by unfold endPrefetch; (repeat' split) <;> simp) hm

@[simp] theorem crumbEffect_keeps {m : Nat} {s0 : State} (sc : Score) (half : Nat) (core : Nat) (key : Nat) (i : Nat) (c : Crumb) (s : State) (hm : m &&& 982313 = m) :
    Keeps m s0 (crumbEffect sc half core key i c s) ↔ Keeps m s0 s := keeps_of 982313 (by unfold crumbEffect; (repeat' split) <;> simp) hm

@[simp] theorem noteReads_keeps {m : Nat} {s0 : State} (sc : Score) (key : Nat) (c : Crumb) (s : State) (hm : m &&& 982443 = m) :
    Keeps m s0 (noteReads sc key c s) ↔ Keeps m s0 s := keeps_of 982443 (by unfold noteReads; dsimp only; (repeat' split) <;> simp [*]) hm

@[simp] theorem fireCrumb_keeps {m : Nat} {s0 : State} (sc : Score) (half : Nat) (core : Nat) (i : Nat) (owner : Nat) (c : Crumb) (errs : List StoreErr) (s : State) (hm : m &&& 982313 = m) :
    Keeps m s0 (fireCrumb sc half core i owner c errs s) ↔ Keeps m s0 s := keeps_of 982313 (by unfold fireCrumb; dsimp only; (repeat' split) <;> simp [*]) hm

@[simp] theorem sendOutputs_keeps {m : Nat} {s0 : State} (sc : Score) (c : Crumb) (credits : Bool) (s : State) (hm : m &&& 1048493 = m) :
    Keeps m s0 (sendOutputs sc c credits s) ↔ Keeps m s0 s := keeps_of 1048493 (by unfold sendOutputs; repeat' (first | (simp; done) | split | (apply keeps_foldl <;> intros))) hm

@[simp] theorem onScore_keeps {m : Nat} {s0 : State} (s : State) (f : Score → State → State)
    (h : ∀ sc u, Keeps m u (f sc u)) : Keeps m s0 (onScore s f) ↔ Keeps m s0 s := by
  unfold onScore
  split
  · exact keeps_of m (h _ _) (Nat.and_self m)
  · rfl

@[simp] theorem retireHead_keeps {m : Nat} {s0 : State} (sc : Score) (half : Nat) (core : Nat) (c : Crumb) (i : Nat) (q : Seq) (s : State) (hm : m &&& 982441 = m) :
    Keeps m s0 (retireHead sc half core c i q s) ↔ Keeps m s0 s := keeps_of 982441 (by unfold retireHead; (repeat' split) <;> simp) hm

@[simp] theorem flushPending_keeps {m : Nat} {s0 : State} (sc : Score) (unit : Nat) (ep : Nat) (cls : Nat) (s : State) (hm : m &&& 1048509 = m) :
    Keeps m s0 (flushPending sc unit ep cls s) ↔ Keeps m s0 s := keeps_of 1048509 (by unfold flushPending; (repeat' split) <;> simp) hm

@[simp] theorem withFab_keeps {m : Nat} {s0 : State} (f : Fabric → Fabric) (s : State) (hm : m &&& 1040383 = m) :
    Keeps m s0 (withFab f s) ↔ Keeps m s0 s := keeps_of 1040383 (by unfold withFab; (repeat' split) <;> simp) hm

@[simp] theorem enqueueFwd_keeps {m : Nat} {s0 : State} (x : Carried) (s : State) (hm : m &&& 1040383 = m) :
    Keeps m s0 (enqueueFwd x s) ↔ Keeps m s0 s := keeps_of 1040383 (by unfold enqueueFwd; (repeat' split) <;> simp) hm

@[simp] theorem drainOut_keeps {m : Nat} {s0 : State} (s : State) (hm : m &&& 1040383 = m) :
    Keeps m s0 (drainOut s) ↔ Keeps m s0 s := keeps_of 1040383 (by unfold drainOut; (repeat' split) <;> simp) hm

@[simp] theorem sendParcel_keeps {m : Nat} {s0 : State} (dst : Nat) (cls : Nat) (kind : Nat) (st : Stream) (kf : Nat) (payload : Bytes) (s : State) (hm : m &&& 1040367 = m) :
    Keeps m s0 (sendParcel dst cls kind st kf payload s) ↔ Keeps m s0 s := keeps_of 1040367 (by unfold sendParcel; (repeat' split) <;> simp) hm

@[simp] theorem sendControl_keeps {m : Nat} {s0 : State} (dst : Nat) (kind : Nat) (kf : Nat) (s : State) (hm : m &&& 1040367 = m) :
    Keeps m s0 (sendControl dst kind kf s) ↔ Keeps m s0 s := keeps_of 1040367 (by unfold sendControl; (repeat' split) <;> simp) hm

@[simp] theorem returnOn_keeps {m : Nat} {s0 : State} (c : InCtx) (n : Nat) (s : State) (hm : m &&& 1040367 = m) :
    Keeps m s0 (returnOn c n s) ↔ Keeps m s0 s := keeps_of 1040367 (by unfold returnOn; (repeat' split) <;> simp) hm

@[simp] theorem returnChunk_keeps {m : Nat} {s0 : State} (c : Chunk) (s : State) (hm : m &&& 1040367 = m) :
    Keeps m s0 (returnChunk c s) ↔ Keeps m s0 s := keeps_of 1040367 (by unfold returnChunk; (repeat' split) <;> simp) hm

@[simp] theorem discardWaiting_keeps {m : Nat} {s0 : State} (gone : Carried → Bool) (s : State) (hm : m &&& 1036287 = m) :
    Keeps m s0 (discardWaiting gone s) ↔ Keeps m s0 s := keeps_of 1036287 (by unfold Keeps discardWaiting; and_intros <;> first | (intro _; rfl) | (intro h; exact absurd h (by decide))) hm

@[simp] theorem silentVerdict_keeps {m : Nat} {s0 : State} (peer : Nat) (s : State) (hm : m &&& 970735 = m) :
    Keeps m s0 (silentVerdict peer s) ↔ Keeps m s0 s := keeps_of 970735 (by unfold silentVerdict; (repeat' split) <;> simp) hm

@[simp] theorem closeContexts_keeps {m : Nat} {s0 : State} (s : State) (hm : m &&& 1036287 = m) :
    Keeps m s0 (closeContexts s) ↔ Keeps m s0 s := keeps_of 1036287 (by unfold closeContexts; (repeat' split) <;> simp) hm

@[simp] theorem grantLease_keeps {m : Nat} {s0 : State} (c : InCtx) (s : State) (hm : m &&& 1040363 = m) :
    Keeps m s0 (grantLease c s) ↔ Keeps m s0 s := keeps_of 1040363 (by unfold grantLease; (repeat' split) <;> simp) hm

@[simp] theorem openContexts_keeps {m : Nat} {s0 : State} (sc : Score) (s : State) (hm : m &&& 1040363 = m) :
    Keeps m s0 (openContexts sc s) ↔ Keeps m s0 s := keeps_of 1040363 (by unfold openContexts; (repeat' split) <;> simp) hm

@[simp] theorem departed_keeps {m : Nat} {s0 : State} (p : Parcel) (s : State) (hm : m &&& 1040383 = m) :
    Keeps m s0 (departed p s) ↔ Keeps m s0 s := keeps_of 1040383 (by unfold departed; (repeat' split) <;> simp) hm

@[simp] theorem withEngine_keeps {m : Nat} {s0 : State} (k : Nat) (x : Engine) (s : State) (hm : m &&& 1048511 = m) :
    Keeps m s0 (withEngine k x s) ↔ Keeps m s0 s := keeps_of 1048511 (by unfold withEngine; (repeat' split) <;> simp) hm

@[simp] theorem runJob_keeps {m : Nat} {s0 : State} (sc : Score) (u : Agent) (src : Desc) (dst : Desc) (s : State) (hm : m &&& 982313 = m) :
    Keeps m s0 (runJob sc u src dst s) ↔ Keeps m s0 s := keeps_of 982313 (by unfold runJob; dsimp only; (repeat' split) <;> simp [*]) hm

@[simp] theorem withStream_keeps {m : Nat} {s0 : State} (i : Nat) (x : StreamRun) (s : State) (hm : m &&& 1048511 = m) :
    Keeps m s0 (withStream i x s) ↔ Keeps m s0 s := keeps_of 1048511 (by unfold withStream; (repeat' split) <;> simp) hm

@[simp] theorem readStreamList_keeps {m : Nat} {s0 : State} (sc : Score) (x : StreamDecl) (s : State) (hm : m &&& 982443 = m) :
    Keeps m s0 (readStreamList sc x s) ↔ Keeps m s0 s := keeps_of 982443 (by unfold readStreamList; dsimp only; (repeat' split) <;> simp [*]) hm

@[simp] theorem readStreamLine_keeps {m : Nat} {s0 : State} (x : StreamDecl) (s : State) (line : Nat) (hm : m &&& 982443 = m) :
    Keeps m s0 (readStreamLine x s line) ↔ Keeps m s0 s := keeps_of 982443 (by unfold readStreamLine; dsimp only; (repeat' split) <;> simp [*]) hm

@[simp] theorem installStreamLine_keeps {m : Nat} {s0 : State} (x : StreamDecl) (s : State) (line : Nat) (hm : m &&& 1048043 = m) :
    Keeps m s0 (installStreamLine x s line) ↔ Keeps m s0 s := keeps_of 1048043 (by unfold installStreamLine; (repeat' split) <;> simp) hm

@[simp] theorem pllTake_keeps {m : Nat} {s0 : State} (subs : List Nat) (s : State) (hm : m &&& 786431 = m) :
    Keeps m s0 (pllTake subs s) ↔ Keeps m s0 s := keeps_of 786431 (by unfold pllTake; (repeat' split) <;> simp) hm

@[simp] theorem withStackDir_keeps {m : Nat} {s0 : State} (cd : Nat) (port : Nat) (toBase : Bool) (d : StackDir) (s : State) (hm : m &&& 1048063 = m) :
    Keeps m s0 (withStackDir cd port toBase d s) ↔ Keeps m s0 s := keeps_of 1048063 (by unfold withStackDir; (repeat' split) <;> simp) hm

@[simp] theorem withLink_keeps {m : Nat} {s0 : State} (k : Nat) (l : QlLink) (s : State) (hm : m &&& 1047551 = m) :
    Keeps m s0 (withLink k l s) ↔ Keeps m s0 s := keeps_of 1047551 (by unfold withLink; (repeat' split) <;> simp) hm

@[simp] theorem failLink_keeps {m : Nat} {s0 : State} (k : Nat) (s : State) (hm : m &&& 30757 = m) :
    Keeps m s0 (failLink k s) ↔ Keeps m s0 s := keeps_of 30757 (by unfold failLink; (repeat' split) <;> simp) hm

@[simp] theorem beginRetrain_keeps {m : Nat} {s0 : State} (k : Nat) (s : State) (hm : m &&& 30757 = m) :
    Keeps m s0 (beginRetrain k s) ↔ Keeps m s0 s := keeps_of 30757 (by unfold beginRetrain; (repeat' split) <;> simp) hm

@[simp] theorem resendUnits_keeps {m : Nat} {s0 : State} (k : Nat) (up : Bool) (s : State) (hm : m &&& 30757 = m) :
    Keeps m s0 (resendUnits k up s) ↔ Keeps m s0 s := keeps_of 30757 (by unfold resendUnits; (repeat' split) <;> simp) hm

@[simp] theorem takeAckCredit_keeps {m : Nat} {s0 : State} (k : Nat) (up : Bool) (f : UnitFields) (s : State) (hm : m &&& 1047551 = m) :
    Keeps m s0 (takeAckCredit k up f s) ↔ Keeps m s0 s := keeps_of 1047551 (by unfold takeAckCredit; (repeat' split) <;> simp) hm

@[simp] theorem refuseUnit_keeps {m : Nat} {s0 : State} (u : QlUnit) (s : State) (hm : m &&& 1047549 = m) :
    Keeps m s0 (refuseUnit u s) ↔ Keeps m s0 s := keeps_of 1047549 (by unfold refuseUnit; (repeat' split) <;> simp) hm

@[simp] theorem takeUnit_keeps {m : Nat} {s0 : State} (u : QlUnit) (b : Bytes) (s : State) (hm : m &&& 979951 = m) :
    Keeps m s0 (takeUnit u b s) ↔ Keeps m s0 s := keeps_of 979951 (by unfold takeUnit; (repeat' split) <;> simp) hm

@[simp] theorem clearNak_keeps {m : Nat} {s0 : State} (u : QlUnit) (s : State) (hm : m &&& 1047551 = m) :
    Keeps m s0 (clearNak u s) ↔ Keeps m s0 s := keeps_of 1047551 (by unfold clearNak; (repeat' split) <;> simp) hm

@[simp] theorem linkUp_keeps {m : Nat} {s0 : State} (k : Nat) (repaired : Nat) (exhausted : BitVec 8) (s : State) (hm : m &&& 1047533 = m) :
    Keeps m s0 (linkUp k repaired exhausted s) ↔ Keeps m s0 s := keeps_of 1047533 (by unfold linkUp; (repeat' split) <;> simp) hm

@[simp] theorem withPho_keeps {m : Nat} {s0 : State} (f : Photonics → Photonics) (s : State) (hm : m &&& 1044479 = m) :
    Keeps m s0 (withPho f s) ↔ Keeps m s0 s := keeps_of 1044479 (by unfold withPho; (repeat' split) <;> simp) hm

@[simp] theorem withPort_keeps {m : Nat} {s0 : State} (p : Nat) (x : Port) (s : State) (hm : m &&& 1044479 = m) :
    Keeps m s0 (withPort p x s) ↔ Keeps m s0 s := keeps_of 1044479 (by unfold withPort; (repeat' split) <;> simp) hm

@[simp] theorem withTx_keeps {m : Nat} {s0 : State} (p : Nat) (c : Nat) (x : TxLane) (s : State) (hm : m &&& 1044479 = m) :
    Keeps m s0 (withTx p c x s) ↔ Keeps m s0 s := keeps_of 1044479 (by unfold withTx; (repeat' split) <;> simp) hm

@[simp] theorem withRx_keeps {m : Nat} {s0 : State} (p : Nat) (c : Nat) (x : RxLane) (s : State) (hm : m &&& 1044479 = m) :
    Keeps m s0 (withRx p c x s) ↔ Keeps m s0 s := keeps_of 1044479 (by unfold withRx; (repeat' split) <;> simp) hm

@[simp] theorem withRing_keeps {m : Nat} {s0 : State} (tx : Bool) (p : Nat) (r : Nat) (x : Ring) (s : State) (hm : m &&& 1044479 = m) :
    Keeps m s0 (withRing tx p r x s) ↔ Keeps m s0 s := keeps_of 1044479 (by unfold withRing; (repeat' split) <;> simp) hm

@[simp] theorem sendFrame_keeps {m : Nat} {s0 : State} (p : Nat) (c : Nat) (state : Nat) (s : State) (hm : m &&& 1044477 = m) :
    Keeps m s0 (sendFrame p c state s) ↔ Keeps m s0 s := keeps_of 1044477 (by unfold sendFrame; (repeat' split) <;> simp) hm

@[simp] theorem sendDueFrames_keeps {m : Nat} {s0 : State} (s : State) (hm : m &&& 1044477 = m) :
    Keeps m s0 (sendDueFrames s) ↔ Keeps m s0 s := keeps_of 1044477 (by unfold sendDueFrames; (repeat' split) <;> simp) hm

@[simp] theorem sendNotice_keeps {m : Nat} {s0 : State} (p : Nat) (code : Nat) (about : Nat) (dst : Nat) (s : State) (hm : m &&& 1044479 = m) :
    Keeps m s0 (sendNotice p code about dst s) ↔ Keeps m s0 s := keeps_of 1044479 (by unfold sendNotice; (repeat' split) <;> simp) hm

@[simp] theorem requeue_keeps {m : Nat} {s0 : State} (xs : List Carried) (s : State) (hm : m &&& 1040383 = m) :
    Keeps m s0 (requeue xs s) ↔ Keeps m s0 s := keeps_of 1040383 (by unfold requeue; repeat' (first | (simp; done) | split | (apply keeps_foldl <;> intros))) hm

@[simp] theorem outTx_keeps {m : Nat} {s0 : State} (p : Nat) (c : Nat) (st : LaneState) (s : State) (hm : m &&& 1036287 = m) :
    Keeps m s0 (outTx p c st s) ↔ Keeps m s0 s := keeps_of 1036287 (by unfold outTx; (repeat' split) <;> simp) hm

@[simp] theorem pullTx_keeps {m : Nat} {s0 : State} (p : Nat) (c : Nat) (st : LaneState) (s : State) (hm : m &&& 1036285 = m) :
    Keeps m s0 (pullTx p c st s) ↔ Keeps m s0 s := keeps_of 1036285 (by unfold pullTx; repeat' (first | (simp; done) | split | (apply keeps_foldl <;> intros))) hm

@[simp] theorem forgetBuffers_keeps {m : Nat} {s0 : State} (key : Nat) (s : State) (hm : m &&& 1036287 = m) :
    Keeps m s0 (forgetBuffers key s) ↔ Keeps m s0 s := keeps_of 1036287 (by unfold forgetBuffers; (repeat' split) <;> simp) hm

@[simp] theorem pullRx_keeps {m : Nat} {s0 : State} (p : Nat) (c : Nat) (st : LaneState) (s : State) (hm : m &&& 1044479 = m) :
    Keeps m s0 (pullRx p c st s) ↔ Keeps m s0 s := keeps_of 1044479 (by unfold pullRx; (repeat' split) <;> simp) hm

@[simp] theorem pullLane_keeps {m : Nat} {s0 : State} (tx : Bool) (p : Nat) (c : Nat) (st : LaneState) (s : State) (hm : m &&& 1036285 = m) :
    Keeps m s0 (pullLane tx p c st s) ↔ Keeps m s0 s := keeps_of 1036285 (by unfold pullLane; (repeat' split) <;> simp) hm

@[simp] theorem oweCredit_keeps {m : Nat} {s0 : State} (p : Nat) (c : Nat) (cls : Nat) (pool : Nat) (n : Nat) (s : State) (hm : m &&& 1044479 = m) :
    Keeps m s0 (oweCredit p c cls pool n s) ↔ Keeps m s0 s := keeps_of 1044479 (by unfold oweCredit; (repeat' split) <;> simp) hm

@[simp] theorem freeBuffers_keeps {m : Nat} {s0 : State} (bs : List (Nat × Nat × Nat × Nat)) (s : State) (hm : m &&& 1044479 = m) :
    Keeps m s0 (freeBuffers bs s) ↔ Keeps m s0 s := keeps_of 1044479 (by unfold freeBuffers; repeat' (first | (simp; done) | split | (apply keeps_foldl <;> intros))) hm

@[simp] theorem sendBare_keeps {m : Nat} {s0 : State} (p : Nat) (c : Nat) (kind : Nat) (s : State) (hm : m &&& 1044477 = m) :
    Keeps m s0 (sendBare p c kind s) ↔ Keeps m s0 s := keeps_of 1044477 (by unfold sendBare; (repeat' split) <;> simp) hm

@[simp] theorem parcelGone_keeps {m : Nat} {s0 : State} (x : Carried) (s : State) (hm : m &&& 1044479 = m) :
    Keeps m s0 (parcelGone x s) ↔ Keeps m s0 s := keeps_of 1044479 (by unfold parcelGone; (repeat' split) <;> simp) hm

@[simp] theorem sendData_keeps {m : Nat} {s0 : State} (p : Nat) (c : Nat) (cls : Nat) (pool : Nat) (key : Nat) (s : State) (hm : m &&& 1036269 = m) :
    Keeps m s0 (sendData p c cls pool key s) ↔ Keeps m s0 s := keeps_of 1036269 (by unfold sendData; (repeat' split) <;> simp) hm

@[simp] theorem pumpFlits_keeps {m : Nat} {s0 : State} (p c n : Nat) (s : State) (hm : m &&& 1036269 = m) :
    Keeps m s0 (pumpFlits p c n s) ↔ Keeps m s0 s := keeps_of 1036269 (by
  induction n generalizing s with
  | zero => simp [pumpFlits]
  | succ n ih =>
    unfold pumpFlits
    extract_lets l
    split
    · simp
    · split
      · exact Keeps.trans (by simp) (ih _)
      · split
        · exact Keeps.trans (by simp) (ih _)
        · simp) hm

@[simp] theorem pumpLane_keeps {m : Nat} {s0 : State} (p : Nat) (c : Nat) (s : State) (hm : m &&& 1036269 = m) :
    Keeps m s0 (pumpLane p c s) ↔ Keeps m s0 s := keeps_of 1036269 (by unfold pumpLane; (repeat' split) <;> simp) hm

@[simp] theorem pumpLanes_keeps {m : Nat} {s0 : State} (s : State) (hm : m &&& 1036269 = m) :
    Keeps m s0 (pumpLanes s) ↔ Keeps m s0 s := keeps_of 1036269 (by unfold pumpLanes; (repeat' split) <;> simp) hm

@[simp] theorem resendOne_keeps {m : Nat} {s0 : State} (p : Nat) (c : Nat) (f : TxFlit) (s : State) (hm : m &&& 1044477 = m) :
    Keeps m s0 (resendOne p c f s) ↔ Keeps m s0 s := keeps_of 1044477 (by unfold resendOne; (repeat' split) <;> simp) hm

@[simp] theorem resendAll_keeps {m : Nat} {s0 : State} (p : Nat) (c : Nat) (s : State) (hm : m &&& 1044461 = m) :
    Keeps m s0 (resendAll p c s) ↔ Keeps m s0 s := keeps_of 1044461 (by unfold resendAll; (repeat' split) <;> simp) hm

@[simp] theorem withCol_keeps {m : Nat} {s0 : State} (f : Collectives → Collectives) (s : State) (hm : m &&& 1032191 = m) :
    Keeps m s0 (withCol f s) ↔ Keeps m s0 s := keeps_of 1032191 (by unfold withCol; (repeat' split) <;> simp) hm

@[simp] theorem withPral_keeps {m : Nat} {s0 : State} (r : PralRun) (s : State) (hm : m &&& 1032191 = m) :
    Keeps m s0 (withPral r s) ↔ Keeps m s0 s := keeps_of 1032191 (by unfold withPral; (repeat' split) <;> simp) hm

@[simp] theorem wordOnLane_keeps {m : Nat} {s0 : State} (w : W128) (s : State) (lane : Nat × Nat) (hm : m &&& 1036269 = m) :
    Keeps m s0 (wordOnLane w s lane) ↔ Keeps m s0 s := keeps_of 1036269 (by unfold wordOnLane; (repeat' split) <;> simp) hm

@[simp] theorem noteSend_keeps {m : Nat} {s0 : State} (r : PralRun) (stage : Nat) (a : Nat) (s : State) (hm : m &&& 1032191 = m) :
    Keeps m s0 (noteSend r stage a s) ↔ Keeps m s0 s := keeps_of 1032191 (by unfold noteSend; (repeat' split) <;> simp) hm

@[simp] theorem sendPral_keeps {m : Nat} {s0 : State} (r : PralRun) (stage : Nat) (a : Nat) (first : Bool) (s : State) (hm : m &&& 1019885 = m) :
    Keeps m s0 (sendPral r stage a first s) ↔ Keeps m s0 s := keeps_of 1019885 (by unfold sendPral; (repeat' split) <;> simp) hm

@[simp] theorem sendStage_keeps {m : Nat} {s0 : State} (r : PralRun) (stage : Nat) (s : State) (hm : m &&& 1019885 = m) :
    Keeps m s0 (sendStage r stage s) ↔ Keeps m s0 s := keeps_of 1019885 (by unfold sendStage; (repeat' split) <;> simp) hm

@[simp] theorem pralAdvance_keeps {m : Nat} {s0 : State} (n : Nat) (r : PralRun) (s : State) (hm : m &&& 1019885 = m) :
    Keeps m s0 (pralAdvance n r s) ↔ Keeps m s0 s := keeps_of 1019885 (by
  induction n generalizing r s with
  | zero => simp [pralAdvance]
  | succ n ih => unfold pralAdvance; repeat' (first | (simp; done) | (refine Keeps.trans ?_ (ih _ _); simp; done) | split)) hm

@[simp] theorem storeWord_keeps {m : Nat} {s0 : State} (r : PralRun) (src : Nat) (w : PralFields) (s : State) (hm : m &&& 1019885 = m) :
    Keeps m s0 (storeWord r src w s) ↔ Keeps m s0 s := keeps_of 1019885 (by unfold storeWord; (repeat' split) <;> simp) hm

@[simp] theorem absorbEarly_keeps {m : Nat} {s0 : State} (g : Nat) (seq : Nat) (round : Nat) (s : State) (hm : m &&& 1019885 = m) :
    Keeps m s0 (absorbEarly g seq round s) ↔ Keeps m s0 s := keeps_of 1019885 (by unfold absorbEarly; repeat' (first | (simp; done) | split | (apply keeps_foldl <;> intros))) hm

@[simp] theorem startPraline_keeps {m : Nat} {s0 : State} (sc : Score) (coll : Nat) (op : Nat) (value : W64) (s : State) (hm : m &&& 1019885 = m) :
    Keeps m s0 (startPraline sc coll op value s) ↔ Keeps m s0 s := keeps_of 1019885 (by unfold startPraline; (repeat' split) <;> simp) hm

@[simp] theorem takeFields_keeps {m : Nat} {s0 : State} (src : Nat) (w : PralFields) (s : State) (hm : m &&& 1019885 = m) :
    Keeps m s0 (takeFields src w s) ↔ Keeps m s0 s := keeps_of 1019885 (by unfold takeFields; (repeat' split) <;> simp) hm

@[simp] theorem badWord_keeps {m : Nat} {s0 : State} (src : Nat) (w : PralFields) (s : State) (hm : m &&& 966639 = m) :
    Keeps m s0 (badWord src w s) ↔ Keeps m s0 s := keeps_of 966639 (by unfold badWord; (repeat' split) <;> simp) hm

@[simp] theorem takeWord_keeps {m : Nat} {s0 : State} (w : Praline) (s : State) (hm : m &&& 954349 = m) :
    Keeps m s0 (takeWord w s) ↔ Keeps m s0 s := keeps_of 954349 (by unfold takeWord; dsimp only; (repeat' split) <;> simp [*]) hm

@[simp] theorem repeatRun_keeps {m : Nat} {s0 : State} (s : State) (r : PralRun) (hm : m &&& 1019885 = m) :
    Keeps m s0 (repeatRun s r) ↔ Keeps m s0 s := keeps_of 1019885 (by unfold repeatRun; repeat' (first | (simp; done) | split | (apply keeps_foldl <;> intros))) hm

@[simp] theorem withRun_keeps {m : Nat} {s0 : State} (n : Nat) (r : CollRun) (s : State) (hm : m &&& 1032191 = m) :
    Keeps m s0 (withRun n r s) ↔ Keeps m s0 s := keeps_of 1032191 (by unfold withRun; (repeat' split) <;> simp) hm

@[simp] theorem sendRange_keeps {m : Nat} {s0 : State} (x : CollCtx) (stage : Nat) (base : Nat) (peer : Nat) (r : Nat × Nat) (s : State) (hm : m &&& 1039851 = m) :
    Keeps m s0 (sendRange x stage base peer r s) ↔ Keeps m s0 s := keeps_of 1039851 (by unfold sendRange; (repeat' split) <;> simp) hm

@[simp] theorem sendAll_keeps {m : Nat} {s0 : State} (x : CollCtx) (stage : Nat) (s : State) (hm : m &&& 1039851 = m) :
    Keeps m s0 (sendAll x stage s) ↔ Keeps m s0 s := keeps_of 1039851 (by unfold sendAll; (repeat' split) <;> simp) hm

@[simp] theorem returnHeld_keeps {m : Nat} {s0 : State} (h0 : HeldChunk) (s : State) (hm : m &&& 1040367 = m) :
    Keeps m s0 (returnHeld h0 s) ↔ Keeps m s0 s := keeps_of 1040367 (by unfold returnHeld; (repeat' split) <;> simp) hm

@[simp] theorem useChunk_keeps {m : Nat} {s0 : State} (x : CollCtx) (h1 : HeldChunk) (s : State) (hm : m &&& 1023465 = m) :
    Keeps m s0 (useChunk x h1 s) ↔ Keeps m s0 s := keeps_of 1023465 (by unfold useChunk; (repeat' split) <;> simp) hm

@[simp] theorem refetch_keeps {m : Nat} {s0 : State} (x : CollCtx) (off : Nat) (len : Nat) (s : State) (hm : m &&& 1023983 = m) :
    Keeps m s0 (refetch x off len s) ↔ Keeps m s0 s := keeps_of 1023983 (by unfold refetch; (repeat' split) <;> simp) hm

@[simp] theorem badChunk_keeps {m : Nat} {s0 : State} (c : Chunk) (s : State) (hm : m &&& 966575 = m) :
    Keeps m s0 (badChunk c s) ↔ Keeps m s0 s := keeps_of 966575 (by unfold badChunk; (repeat' split) <;> simp) hm

@[simp] theorem noteReceived_keeps {m : Nat} {s0 : State} (n : Nat) (c : Chunk) (s : State) (hm : m &&& 1032191 = m) :
    Keeps m s0 (noteReceived n c s) ↔ Keeps m s0 s := keeps_of 1032191 (by unfold noteReceived; (repeat' split) <;> simp) hm

@[simp] theorem applyChunk_keeps {m : Nat} {s0 : State} (x : CollCtx) (s : State) (h2 : HeldChunk) (hm : m &&& 1023465 = m) :
    Keeps m s0 (applyChunk x s h2) ↔ Keeps m s0 s := keeps_of 1023465 (by unfold applyChunk; (repeat' split) <;> simp) hm

@[simp] theorem orderedSums_keeps {m : Nat} {s0 : State} (x : CollCtx) (stage : Nat) (s : State) (hm : m &&& 1048041 = m) :
    Keeps m s0 (orderedSums x stage s) ↔ Keeps m s0 s := keeps_of 1048041 (by unfold orderedSums; (repeat' split) <;> simp) hm

@[simp] theorem mergeLists_keeps {m : Nat} {s0 : State} (x : CollCtx) (stage : Nat) (s : State) (hm : m &&& 1048041 = m) :
    Keeps m s0 (mergeLists x stage s) ↔ Keeps m s0 s := keeps_of 1048041 (by unfold mergeLists; repeat' (first | (simp; done) | split | (apply keeps_foldl <;> intros))) hm

@[simp] theorem examine_keeps {m : Nat} {s0 : State} (x : CollCtx) (s : State) (hm : m &&& 1031659 = m) :
    Keeps m s0 (examine x s) ↔ Keeps m s0 s := keeps_of 1031659 (by unfold examine; (repeat' split) <;> simp) hm

@[simp] theorem tee_keeps {m : Nat} {s0 : State} (x : CollCtx) (t1 : Nat) (s : State) (hm : m &&& 1015275 = m) :
    Keeps m s0 (tee x t1 s) ↔ Keeps m s0 s := keeps_of 1015275 (by unfold tee; repeat' (first | (simp; done) | split | (apply keeps_foldl <;> intros))) hm

@[simp] theorem settleTokens_keeps {m : Nat} {s0 : State} (x : CollCtx) (s : State) (hm : m &&& 1032109 = m) :
    Keeps m s0 (settleTokens x s) ↔ Keeps m s0 s := keeps_of 1032109 (by unfold settleTokens; (repeat' split) <;> simp) hm

@[simp] theorem tokensFall_keeps {m : Nat} {s0 : State} (x : CollCtx) (s : State) (hm : m &&& 1032109 = m) :
    Keeps m s0 (tokensFall x s) ↔ Keeps m s0 s := keeps_of 1032109 (by unfold tokensFall; (repeat' split) <;> simp) hm

@[simp] theorem dropHeld_keeps {m : Nat} {s0 : State} (n : Nat) (s : State) (hm : m &&& 1023983 = m) :
    Keeps m s0 (dropHeld n s) ↔ Keeps m s0 s := keeps_of 1023983 (by unfold dropHeld; (repeat' split) <;> simp) hm

@[simp] theorem completeColl_keeps {m : Nat} {s0 : State} (x : CollCtx) (s : State) (hm : m &&& 990633 = m) :
    Keeps m s0 (completeColl x s) ↔ Keeps m s0 s := keeps_of 990633 (by unfold completeColl; (repeat' split) <;> simp) hm

@[simp] theorem useHeld_keeps {m : Nat} {s0 : State} (x : CollCtx) (s : State) (hm : m &&& 1023465 = m) :
    Keeps m s0 (useHeld x s) ↔ Keeps m s0 s := keeps_of 1023465 (by unfold useHeld; (repeat' split) <;> simp) hm

@[simp] theorem enterStage_keeps {m : Nat} {s0 : State} (x : CollCtx) (stage : Nat) (s : State) (hm : m &&& 1023465 = m) :
    Keeps m s0 (enterStage x stage s) ↔ Keeps m s0 s := keeps_of 1023465 (by unfold enterStage; (repeat' split) <;> simp) hm

@[simp] theorem afterReduce_keeps {m : Nat} {s0 : State} (x : CollCtx) (s : State) (hm : m &&& 990633 = m) :
    Keeps m s0 (afterReduce x s) ↔ Keeps m s0 s := keeps_of 990633 (by unfold afterReduce; (repeat' split) <;> simp) hm

@[simp] theorem nextStage_keeps {m : Nat} {s0 : State} (x : CollCtx) (s : State) (hm : m &&& 990633 = m) :
    Keeps m s0 (nextStage x s) ↔ Keeps m s0 s := keeps_of 990633 (by unfold nextStage; (repeat' split) <;> simp) hm

@[simp] theorem advanceColl_keeps {m : Nat} {s0 : State} (x : CollCtx) (n : Nat) (s : State) (hm : m &&& 990633 = m) :
    Keeps m s0 (advanceColl x n s) ↔ Keeps m s0 s := keeps_of 990633 (by
  induction n generalizing s with
  | zero => simp [advanceColl]
  | succ n ih =>
    unfold advanceColl
    extract_lets r
    have h1 : Keeps 990633 s (nextStage x s) := by simp
    split
    · exact h1.trans (ih _)
    · simp) hm

@[simp] theorem noteDigest_keeps {m : Nat} {s0 : State} (x : CollCtx) (s : State) (hm : m &&& 1048511 = m) :
    Keeps m s0 (noteDigest x s) ↔ Keeps m s0 s := keeps_of 1048511 (by unfold noteDigest; (repeat' split) <;> simp) hm

@[simp] theorem checkSource_keeps {m : Nat} {s0 : State} (x : CollCtx) (s : State) (hm : m &&& 966575 = m) :
    Keeps m s0 (checkSource x s) ↔ Keeps m s0 s := keeps_of 966575 (by unfold checkSource; (repeat' split) <;> simp) hm

@[simp] theorem freshRun_keeps {m : Nat} {s0 : State} (n : Nat) (s : State) (hm : m &&& 1032191 = m) :
    Keeps m s0 (freshRun n s) ↔ Keeps m s0 s := keeps_of 1032191 (by unfold freshRun; (repeat' split) <;> simp) hm

@[simp] theorem runColl_keeps {m : Nat} {s0 : State} (x : CollCtx) (s : State) (hm : m &&& 925097 = m) :
    Keeps m s0 (runColl x s) ↔ Keeps m s0 s := keeps_of 925097 (by unfold runColl; (repeat' split) <;> simp) hm

@[simp] theorem finishPraline_keeps {m : Nat} {s0 : State} (x : CollCtx) (s : State) (hm : m &&& 990633 = m) :
    Keeps m s0 (finishPraline x s) ↔ Keeps m s0 s := keeps_of 990633 (by unfold finishPraline; (repeat' split) <;> simp) hm

@[simp] theorem finishPralines_keeps {m : Nat} {s0 : State} (sc : Score) (s : State) (hm : m &&& 990633 = m) :
    Keeps m s0 (finishPralines sc s) ↔ Keeps m s0 s := keeps_of 990633 (by unfold finishPralines; repeat' (first | (simp; done) | split | (apply keeps_foldl <;> intros))) hm

@[simp] theorem startColl_keeps {m : Nat} {s0 : State} (x : CollCtx) (s : State) (hm : m &&& 921001 = m) :
    Keeps m s0 (startColl x s) ↔ Keeps m s0 s := keeps_of 921001 (by unfold startColl; (repeat' split) <;> simp) hm

@[simp] theorem chunkNow_keeps {m : Nat} {s0 : State} (sc : Score) (h1 : HeldChunk) (s : State) (hm : m &&& 925097 = m) :
    Keeps m s0 (chunkNow sc h1 s) ↔ Keeps m s0 s := keeps_of 925097 (by unfold chunkNow; dsimp only; (repeat' split) <;> simp [*]) hm

@[simp] theorem takeChunk_keeps {m : Nat} {s0 : State} (tagGood : Bool) (c : Chunk) (s : State) (hm : m &&& 921001 = m) :
    Keeps m s0 (takeChunk tagGood c s) ↔ Keeps m s0 s := keeps_of 921001 (by unfold takeChunk; (repeat' split) <;> simp) hm

@[simp] theorem takeEarly_keeps {m : Nat} {s0 : State} (s : State) (hm : m &&& 925097 = m) :
    Keeps m s0 (takeEarly s) ↔ Keeps m s0 s := keeps_of 925097 (by unfold takeEarly; repeat' (first | (simp; done) | split | (apply keeps_foldl <;> intros))) hm

@[simp] theorem reviewColl_keeps {m : Nat} {s0 : State} (x : CollCtx) (s : State) (hm : m &&& 990633 = m) :
    Keeps m s0 (reviewColl x s) ↔ Keeps m s0 s := keeps_of 990633 (by unfold reviewColl; simp) hm

@[simp] theorem reviewColls_keeps {m : Nat} {s0 : State} (s : State) (hm : m &&& 990633 = m) :
    Keeps m s0 (reviewColls s) ↔ Keeps m s0 s := keeps_of 990633 (by
  refine (onScore_keeps _ _ ?_).mpr (Keeps.refl _ _)
  intro sc u
  refine keeps_foldl _ ?_ _ _ _ (Keeps.refl _ _)
  intro v e
  (repeat' split) <;> simp) hm

@[simp] theorem pushHistory_keeps {m : Nat} {s0 : State} (lrec : Bytes) (s : State) (hm : m &&& 1048559 = m) :
    Keeps m s0 (pushHistory lrec s) ↔ Keeps m s0 s := keeps_of 1048559 (by
  unfold pushHistory
  induction List.range 64 with
  | nil => simp
  | cons a t ih => simp only [List.foldr_cons]; exact (withRg_keeps _ _ _ _ (by decide)).mpr ih) hm

@[simp] theorem reportLoss_keeps {m : Nat} {s0 : State} (sc : Score) (s : State) (hm : m &&& 982959 = m) :
    Keeps m s0 (reportLoss sc s) ↔ Keeps m s0 s := keeps_of 982959 (by unfold reportLoss; (repeat' split) <;> simp) hm

@[simp] theorem holdAtEnd_keeps {m : Nat} {s0 : State} (s : State) (hm : m &&& 1048511 = m) :
    Keeps m s0 (holdAtEnd s) ↔ Keeps m s0 s := keeps_of 1048511 (by unfold holdAtEnd; (repeat' split) <;> simp) hm

@[simp] theorem scaleStep_keeps {m : Nat} {s0 : State} (v : Verdict) (s : State) (hm : m &&& 982959 = m) :
    Keeps m s0 (scaleStep v s) ↔ Keeps m s0 s := keeps_of 982959 (by unfold scaleStep; (repeat' split) <;> simp) hm

@[simp] theorem applyOutcome_keeps {m : Nat} {s0 : State} (sc : Score) (s : State) (hm : m &&& 982957 = m) :
    Keeps m s0 (applyOutcome sc s) ↔ Keeps m s0 s := keeps_of 982957 (by unfold applyOutcome; dsimp only; (repeat' split) <;> simp [*]) hm

@[simp] theorem releaseHeld_keeps {m : Nat} {s0 : State} (accept : Bool) (sc : Score) (s : State) (hm : m &&& 950189 = m) :
    Keeps m s0 (releaseHeld accept sc s) ↔ Keeps m s0 s := keeps_of 950189 (by unfold releaseHeld; (repeat' split) <;> simp) hm

@[simp] theorem captureIndicators_keeps {m : Nat} {s0 : State} (sc : Score) (s : State) (hm : m &&& 1048447 = m) :
    Keeps m s0 (captureIndicators sc s).2 ↔ Keeps m s0 s := keeps_of 1048447 (by
  unfold captureIndicators
  exact keeps_foldl _ (fun u e => by simp) _ _ _ (Keeps.refl _ _)) hm

@[simp] theorem forcedVoid_keeps {m : Nat} {s0 : State} (cause : W32) (s : State) (hm : m &&& 982959 = m) :
    Keeps m s0 (forcedVoid cause s) ↔ Keeps m s0 s := keeps_of 982959 (by unfold forcedVoid; (repeat' split) <;> simp) hm

@[simp] theorem contribute_keeps {m : Nat} {s0 : State} (sc : Score) (s : State) (hm : m &&& 1019821 = m) :
    Keeps m s0 (contribute sc s) ↔ Keeps m s0 s := keeps_of 1019821 (by unfold contribute; (repeat' split) <;> simp) hm

@[simp] theorem settlePair_keeps {m : Nat} {s0 : State} (sc : Score) (partner : Nat) (digest : Nat) (s : State) (hm : m &&& 921517 = m) :
    Keeps m s0 (settlePair sc partner digest s) ↔ Keeps m s0 s := keeps_of 921517 (by unfold settlePair; (repeat' split) <;> simp) hm

@[simp] theorem holdCommit_keeps {m : Nat} {s0 : State} (s : State) (hm : m &&& 1048487 = m) :
    Keeps m s0 (holdCommit s) ↔ Keeps m s0 s := keeps_of 1048487 (by unfold holdCommit; (repeat' split) <;> simp) hm

@[simp] theorem verdictPoint_keeps {m : Nat} {s0 : State} (sc : Score) (s : State) (hm : m &&& 921381 = m) :
    Keeps m s0 (verdictPoint sc s) ↔ Keeps m s0 s := keeps_of 921381 (by
  unfold verdictPoint
  extract_lets cap s1 t error word s2 s3 s4 d s5 s6
  have h1 : Keeps 921381 s s1 := by simp [s1, cap]
  have h2 : Keeps 921381 s1 s2 := by simp [s2]
  have h3 : Keeps 921381 s2 s3 := by simp only [s3]; (repeat' split) <;> simp
  have h4 : Keeps 921381 s3 s4 := by simp [s4]
  have h5 : Keeps 921381 s4 s5 := by simp [s5]
  refine h1.trans (h2.trans (h3.trans (h4.trans (h5.trans ?_))))
  split
  · simp
  · have h6 : Keeps 921381 s5 s6 := by simp [s6]
    refine h6.trans ?_
    (repeat' split) <;> simp) hm

@[simp] theorem takePairDigest_keeps {m : Nat} {s0 : State} (m0 : PairDigestMsg) (s : State) (hm : m &&& 921517 = m) :
    Keeps m s0 (takePairDigest m0 s) ↔ Keeps m s0 s := keeps_of 921517 (by unfold takePairDigest; (repeat' split) <;> simp) hm

@[simp] theorem replayReduce_keeps {m : Nat} {s0 : State} (sc : Score) (s : State) (hm : m &&& 921001 = m) :
    Keeps m s0 (replayReduce sc s) ↔ Keeps m s0 s := keeps_of 921001 (by unfold replayReduce; repeat' (first | (simp; done) | split | (apply keeps_foldl <;> intros))) hm

@[simp] theorem establishPoint_keeps {m : Nat} {s0 : State} (s : State) (hm : m &&& 1015791 = m) :
    Keeps m s0 (establishPoint s) ↔ Keeps m s0 s := keeps_of 1015791 (by unfold establishPoint; (repeat' split) <;> simp) hm

@[simp] theorem proofReplay_keeps {m : Nat} {s0 : State} (sc : Score) (s : State) (hm : m &&& 950181 = m) :
    Keeps m s0 (proofReplay sc s) ↔ Keeps m s0 s := keeps_of 950181 (by unfold proofReplay; dsimp only; (repeat' split) <;> simp [*]) hm

@[simp] theorem dropStale_keeps {m : Nat} {s0 : State} (s : State) (hm : m &&& 1023983 = m) :
    Keeps m s0 (dropStale s) ↔ Keeps m s0 s := keeps_of 1023983 (by unfold dropStale; (repeat' split) <;> simp) hm

@[simp] theorem decideVerdict_keeps {m : Nat} {s0 : State} (sc : Score) (w : W64) (s : State) (hm : m &&& 920993 = m) :
    Keeps m s0 (decideVerdict sc w s) ↔ Keeps m s0 s := keeps_of 920993 (by unfold decideVerdict; (repeat' split) <;> simp) hm

@[simp] theorem completeVerdict_keeps {m : Nat} {s0 : State} (sc : Score) (w : W64) (s : State) (hm : m &&& 1032109 = m) :
    Keeps m s0 (completeVerdict sc w s) ↔ Keeps m s0 s := keeps_of 1032109 (by unfold completeVerdict; dsimp only; (repeat' split) <;> simp [*]) hm

@[simp] theorem secureWrite_keeps {m : Nat} {s0 : State} (m0 : RemoteMsg) (holder : Nat) (blocks : List (Nat × Bytes)) (s : State) (hm : m &&& 1040367 = m) :
    Keeps m s0 (secureWrite m0 holder blocks s) ↔ Keeps m s0 s := keeps_of 1040367 (by unfold secureWrite; (repeat' split) <;> simp) hm

@[simp] theorem secureRegion_keeps {m : Nat} {s0 : State} (sc : Score) (s : State) (r : Nat × Nat × Nat × Nat) (hm : m &&& 974251 = m) :
    Keeps m s0 (secureRegion sc s r) ↔ Keeps m s0 s := keeps_of 974251 (by unfold secureRegion; repeat' (first | (simp; done) | split | (apply keeps_foldl <;> intros))) hm

@[simp] theorem secureTheRecord_keeps {m : Nat} {s0 : State} (sc : Score) (s : State) (hm : m &&& 1040367 = m) :
    Keeps m s0 (secureTheRecord sc s) ↔ Keeps m s0 s := keeps_of 1040367 (by unfold secureTheRecord; (repeat' split) <;> simp) hm

@[simp] theorem dropAs_keeps {m : Nat} {s0 : State} (st : LaneState) (tx : Bool) (p : Nat) (c : Nat) (s : State) (hm : m &&& 970733 = m) :
    Keeps m s0 (dropAs st tx p c s) ↔ Keeps m s0 s := keeps_of 970733 (by unfold dropAs; (repeat' split) <;> simp) hm

@[simp] theorem dropLane_keeps {m : Nat} {s0 : State} (tx : Bool) (p : Nat) (c : Nat) (s : State) (hm : m &&& 970733 = m) :
    Keeps m s0 (dropLane tx p c s) ↔ Keeps m s0 s := keeps_of 970733 (by unfold dropLane; (repeat' split) <;> simp) hm

@[simp] theorem beginSearch_keeps {m : Nat} {s0 : State} (tx : Bool) (p : Nat) (c : Nat) (lost : Bool) (s : State) (hm : m &&& 970733 = m) :
    Keeps m s0 (beginSearch tx p c lost s) ↔ Keeps m s0 s := keeps_of 970733 (by unfold beginSearch; (repeat' split) <;> simp) hm

@[simp] theorem failRing_keeps {m : Nat} {s0 : State} (tx : Bool) (p : Nat) (c : Nat) (s : State) (hm : m &&& 970733 = m) :
    Keeps m s0 (failRing tx p c s) ↔ Keeps m s0 s := keeps_of 970733 (by unfold failRing; (repeat' split) <;> simp) hm

@[simp] theorem rxIntoService_keeps {m : Nat} {s0 : State} (p : Nat) (c : Nat) (s : State) (hm : m &&& 1036269 = m) :
    Keeps m s0 (rxIntoService p c s) ↔ Keeps m s0 s := keeps_of 1036269 (by unfold rxIntoService; dsimp only; (repeat' split) <;> simp [*]) hm

@[simp] theorem reachable_keeps {m : Nat} {s0 : State} (p : Nat) (c : Nat) (s : State) (hm : m &&& 1040383 = m) :
    Keeps m s0 (reachable p c s) ↔ Keeps m s0 s := keeps_of 1040383 (by unfold reachable; (repeat' split) <;> simp) hm

@[simp] theorem txIntoService_keeps {m : Nat} {s0 : State} (p : Nat) (c : Nat) (s : State) (hm : m &&& 1036269 = m) :
    Keeps m s0 (txIntoService p c s) ↔ Keeps m s0 s := keeps_of 1036269 (by unfold txIntoService; (repeat' split) <;> simp) hm

@[simp] theorem parkRings_keeps {m : Nat} {s0 : State} (tx : Bool) (p : Nat) (s : State) (hm : m &&& 1036287 = m) :
    Keeps m s0 (parkRings tx p s) ↔ Keeps m s0 s := keeps_of 1036287 (by unfold parkRings; (repeat' split) <;> simp) hm

@[simp] theorem sweepAnchor_keeps {m : Nat} {s0 : State} (tx : Bool) (p : Nat) (s : State) (hm : m &&& 1044479 = m) :
    Keeps m s0 (sweepAnchor tx p s) ↔ Keeps m s0 s := keeps_of 1044479 (by unfold sweepAnchor; (repeat' split) <;> simp) hm

@[simp] theorem setDataRings_keeps {m : Nat} {s0 : State} (tx : Bool) (p : Nat) (s : State) (hm : m &&& 1044479 = m) :
    Keeps m s0 (setDataRings tx p s) ↔ Keeps m s0 s := keeps_of 1044479 (by unfold setDataRings; (repeat' split) <;> simp) hm

@[simp] theorem portOn_keeps {m : Nat} {s0 : State} (p : Nat) (s : State) (hm : m &&& 1044479 = m) :
    Keeps m s0 (portOn p s) ↔ Keeps m s0 s := keeps_of 1044479 (by unfold portOn; (repeat' split) <;> simp) hm

@[simp] theorem lightLasers_keeps {m : Nat} {s0 : State} (which : Nat → Bool) (s : State) (hm : m &&& 1044479 = m) :
    Keeps m s0 (lightLasers which s) ↔ Keeps m s0 s := keeps_of 1044479 (by unfold lightLasers; (repeat' split) <;> simp) hm

@[simp] theorem lightAll_keeps {m : Nat} {s0 : State} (s : State) (hm : m &&& 1044479 = m) :
    Keeps m s0 (lightAll s) ↔ Keeps m s0 s := keeps_of 1044479 (by unfold lightAll; (repeat' split) <;> simp) hm

@[simp] theorem txAnchorFound_keeps {m : Nat} {s0 : State} (p : Nat) (s : State) (hm : m &&& 1044479 = m) :
    Keeps m s0 (txAnchorFound p s) ↔ Keeps m s0 s := keeps_of 1044479 (by unfold txAnchorFound; (repeat' split) <;> simp) hm

@[simp] theorem rxAnchorFound_keeps {m : Nat} {s0 : State} (p : Nat) (s : State) (hm : m &&& 1044479 = m) :
    Keeps m s0 (rxAnchorFound p s) ↔ Keeps m s0 s := keeps_of 1044479 (by unfold rxAnchorFound; (repeat' split) <;> simp) hm

@[simp] theorem commissionPort_keeps {m : Nat} {s0 : State} (p : Nat) (s : State) (hm : m &&& 774143 = m) :
    Keeps m s0 (commissionPort p s) ↔ Keeps m s0 s := keeps_of 774143 (by unfold commissionPort; (repeat' split) <;> simp) hm

@[simp] theorem commissionAll_keeps {m : Nat} {s0 : State} (s : State) (hm : m &&& 774143 = m) :
    Keeps m s0 (commissionAll s) ↔ Keeps m s0 s := keeps_of 774143 (by unfold commissionAll; (repeat' split) <;> simp) hm

@[simp] theorem recommissionRule_apply_keeps {m : Nat} {s0 : State} (value : Bytes) (s : State) (u0 : State) (hm : m &&& 774143 = m) :
    Keeps m s0 ((recommissionRule value s).apply u0) ↔ Keeps m s0 u0 := keeps_of 774143 (by unfold recommissionRule; (repeat' split) <;> simp) hm

@[simp] theorem recommissionRule_after_keeps {m : Nat} {s0 : State} (value : Bytes) (s : State) (u0 : State) (hm : m &&& 774143 = m) :
    Keeps m s0 ((recommissionRule value s).after u0) ↔ Keeps m s0 u0 := keeps_of 774143 (by unfold recommissionRule; (repeat' split) <;> simp) hm

@[simp] theorem recommissionRule_onReject_keeps {m : Nat} {s0 : State} (value : Bytes) (s : State) (u0 : State) (hm : m &&& 774143 = m) :
    Keeps m s0 ((recommissionRule value s).onReject u0) ↔ Keeps m s0 u0 := keeps_of 774143 (by unfold recommissionRule; (repeat' split) <;> simp) hm

@[simp] theorem plantEvent_keeps {m : Nat} {s0 : State} (p : Nat) (c : Nat) (s : State) (hm : m &&& 978927 = m) :
    Keeps m s0 (plantEvent p c s) ↔ Keeps m s0 s := keeps_of 978927 (by unfold plantEvent; (repeat' split) <;> simp) hm

@[simp] theorem plantVerdict_keeps {m : Nat} {s0 : State} (p : Nat) (c : Nat) (source : Nat) (s : State) (hm : m &&& 970733 = m) :
    Keeps m s0 (plantVerdict p c source s) ↔ Keeps m s0 s := keeps_of 970733 (by unfold plantVerdict; (repeat' split) <;> simp) hm

@[simp] theorem searchExhausted_keeps {m : Nat} {s0 : State} (tx : Bool) (p : Nat) (c : Nat) (s : State) (hm : m &&& 970733 = m) :
    Keeps m s0 (searchExhausted tx p c s) ↔ Keeps m s0 s := keeps_of 970733 (by unfold searchExhausted; dsimp only; (repeat' split) <;> simp [*]) hm

@[simp] theorem rejectLine_keeps {m : Nat} {s0 : State} (tx : Bool) (p : Nat) (c : Nat) (s : State) (hm : m &&& 970733 = m) :
    Keeps m s0 (rejectLine tx p c s) ↔ Keeps m s0 s := keeps_of 970733 (by unfold rejectLine; (repeat' split) <;> simp) hm

@[simp] theorem mismatchVerdict_keeps {m : Nat} {s0 : State} (p : Nat) (c : Nat) (source : Nat) (sourcePort : Nat) (colour : Nat) (s : State) (hm : m &&& 970733 = m) :
    Keeps m s0 (mismatchVerdict p c source sourcePort colour s) ↔ Keeps m s0 s := keeps_of 970733 (by unfold mismatchVerdict; (repeat' split) <;> simp) hm

@[simp] theorem takeNotice_keeps {m : Nat} {s0 : State} (p : Nat) (source : Nat) (code : Nat) (colour : Nat) (s : State) (hm : m &&& 970733 = m) :
    Keeps m s0 (takeNotice p source code colour s) ↔ Keeps m s0 s := keeps_of 970733 (by unfold takeNotice; dsimp only; (repeat' split) <;> simp [*]) hm

@[simp] theorem takeLaneState_keeps {m : Nat} {s0 : State} (p : Nat) (c : Nat) (code : Nat) (s : State) (hm : m &&& 1044479 = m) :
    Keeps m s0 (takeLaneState p c code s) ↔ Keeps m s0 s := keeps_of 1044479 (by unfold takeLaneState; (repeat' split) <;> simp) hm

@[simp] theorem judgeFrame_keeps {m : Nat} {s0 : State} (p : Nat) (c : Nat) (f : FrameFields) (s : State) (hm : m &&& 970733 = m) :
    Keeps m s0 (judgeFrame p c f s) ↔ Keeps m s0 s := keeps_of 970733 (by unfold judgeFrame; (repeat' split) <;> simp) hm

@[simp] theorem failSpare_keeps {m : Nat} {s0 : State} (tx : Bool) (p : Nat) (s : State) (hm : m &&& 970733 = m) :
    Keeps m s0 (failSpare tx p s) ↔ Keeps m s0 s := keeps_of 970733 (by unfold failSpare; (repeat' split) <;> simp) hm

@[simp] theorem generationRule_apply_keeps {m : Nat} {s0 : State} (sub : Nat) (value : Bytes) (u0 : State) (hm : m &&& 1036269 = m) :
    Keeps m s0 ((generationRule sub value).apply u0) ↔ Keeps m s0 u0 := keeps_of 1036269 (by unfold generationRule; (repeat' split) <;> simp) hm

@[simp] theorem generationRule_after_keeps {m : Nat} {s0 : State} (sub : Nat) (value : Bytes) (u0 : State) (hm : m &&& 1036269 = m) :
    Keeps m s0 ((generationRule sub value).after u0) ↔ Keeps m s0 u0 := keeps_of 1036269 (by unfold generationRule; (repeat' split) <;> simp) hm

@[simp] theorem generationRule_onReject_keeps {m : Nat} {s0 : State} (sub : Nat) (value : Bytes) (u0 : State) (hm : m &&& 1036269 = m) :
    Keeps m s0 ((generationRule sub value).onReject u0) ↔ Keeps m s0 u0 := keeps_of 1036269 (by unfold generationRule; (repeat' split) <;> simp) hm

@[simp] theorem takeForSlot_keeps {m : Nat} {s0 : State} (p : Nat) (c : Nat) (s : State) (hm : m &&& 1044477 = m) :
    Keeps m s0 (takeForSlot p c s) ↔ Keeps m s0 s := keeps_of 1044477 (by unfold takeForSlot; (repeat' split) <;> simp) hm

@[simp] theorem withLaser_keeps {m : Nat} {s0 : State} (n : Nat) (x : Laser) (s : State) (hm : m &&& 1044479 = m) :
    Keeps m s0 (withLaser n x s) ↔ Keeps m s0 s := keeps_of 1044479 (by unfold withLaser; (repeat' split) <;> simp) hm

@[simp] theorem withSpareLaser_keeps {m : Nat} {s0 : State} (n : Nat) (x : SpareLaser) (s : State) (hm : m &&& 1044479 = m) :
    Keeps m s0 (withSpareLaser n x s) ↔ Keeps m s0 s := keeps_of 1044479 (by unfold withSpareLaser; (repeat' split) <;> simp) hm

@[simp] theorem finishSwitch_keeps {m : Nat} {s0 : State} (w : Switchover) (s : State) (hm : m &&& 978927 = m) :
    Keeps m s0 (finishSwitch w s) ↔ Keeps m s0 s := keeps_of 978927 (by unfold finishSwitch; dsimp only; (repeat' split) <;> simp [*]) hm

@[simp] theorem switchPort_keeps {m : Nat} {s0 : State} (p : Nat) (laser : Nat) (s : State) (hm : m &&& 978927 = m) :
    Keeps m s0 (switchPort p laser s) ↔ Keeps m s0 s := keeps_of 978927 (by unfold switchPort; (repeat' split) <;> simp) hm

@[simp] theorem endSlotLane_keeps {m : Nat} {s0 : State} (p : Nat) (c : Nat) (back : Bool) (farOff : Bool) (s : State) (hm : m &&& 970733 = m) :
    Keeps m s0 (endSlotLane p c back farOff s) ↔ Keeps m s0 s := keeps_of 970733 (by unfold endSlotLane; (repeat' split) <;> simp) hm

@[simp] theorem noSpareLeft_keeps {m : Nat} {s0 : State} (laser : Nat) (s : State) (hm : m &&& 978927 = m) :
    Keeps m s0 (noSpareLeft laser s) ↔ Keeps m s0 s := keeps_of 978927 (by unfold noSpareLeft; (repeat' split) <;> simp) hm

@[simp] theorem dropGroup_keeps {m : Nat} {s0 : State} (laser : Nat) (s : State) (hm : m &&& 970733 = m) :
    Keeps m s0 (dropGroup laser s) ↔ Keeps m s0 s := keeps_of 970733 (by unfold dropGroup; (repeat' split) <;> simp) hm

@[simp] theorem needSpare_keeps {m : Nat} {s0 : State} (laser : Nat) (sudden : Bool) (s : State) (hm : m &&& 970733 = m) :
    Keeps m s0 (needSpare laser sudden s) ↔ Keeps m s0 s := keeps_of 970733 (by unfold needSpare; dsimp only; (repeat' split) <;> simp [*]) hm

@[simp] theorem judgePower_keeps {m : Nat} {s0 : State} (laser : Nat) (reading : Nat) (readings : List Nat) (s : State) (hm : m &&& 970733 = m) :
    Keeps m s0 (judgePower laser reading readings s) ↔ Keeps m s0 s := keeps_of 970733 (by unfold judgePower; (repeat' split) <;> simp) hm

@[simp] theorem portOut_keeps {m : Nat} {s0 : State} (s : State) (p : Nat) (hm : m &&& 1036285 = m) :
    Keeps m s0 (portOut s p) ↔ Keeps m s0 s := keeps_of 1036285 (by unfold portOut; (repeat' split) <;> simp) hm

@[simp] theorem lanesOut_keeps {m : Nat} {s0 : State} (s : State) (hm : m &&& 1036285 = m) :
    Keeps m s0 (lanesOut s) ↔ Keeps m s0 s := keeps_of 1036285 (by unfold lanesOut; (repeat' split) <;> simp) hm

@[simp] theorem photonicsDoze_keeps {m : Nat} {s0 : State} (s : State) (hm : m &&& 1044479 = m) :
    Keeps m s0 (photonicsDoze s) ↔ Keeps m s0 s := keeps_of 1044479 (by unfold photonicsDoze; (repeat' split) <;> simp) hm

@[simp] theorem photonicsWake_keeps {m : Nat} {s0 : State} (s : State) (hm : m &&& 1044479 = m) :
    Keeps m s0 (photonicsWake s) ↔ Keeps m s0 s := keeps_of 1044479 (by unfold photonicsWake; (repeat' split) <;> simp) hm

@[simp] theorem photonicsDark_keeps {m : Nat} {s0 : State} (s : State) (hm : m &&& 1036287 = m) :
    Keeps m s0 (photonicsDark s) ↔ Keeps m s0 s := keeps_of 1036287 (by
  unfold photonicsDark
  extract_lets s1
  have h1 : Keeps 1036287 s s1 :=
    keeps_foldl _ (fun u e => keeps_foldl _ (fun v c => (outTx_keeps _ _ _ _ (by decide)).mpr (Keeps.refl _ _)) _ _ _ (Keeps.refl _ _)) _ _ _ (Keeps.refl _ _)
  exact (withPho_keeps _ _ (by decide)).mpr h1) hm

@[simp] theorem settleStacks_keeps {m : Nat} {s0 : State} (s : State) (hm : m &&& 1048063 = m) :
    Keeps m s0 (settleStacks s) ↔ Keeps m s0 s := keeps_of 1048063 (by unfold settleStacks; (repeat' split) <;> simp) hm

@[simp] theorem gateChange_keeps {m : Nat} {s0 : State} (before : State) (s : State) (hm : m &&& 1035773 = m) :
    Keeps m s0 (gateChange before s) ↔ Keeps m s0 s := keeps_of 1035773 (by unfold gateChange; repeat' (first | (simp; done) | split | (apply keeps_foldl <;> intros))) hm

@[simp] theorem takeIncrement_keeps {m : Nat} {s0 : State} (sc : Score) (s : State) (m2 : TokenMsg) (hm : m &&& 1048495 = m) :
    Keeps m s0 (takeIncrement sc s m2) ↔ Keeps m s0 s := keeps_of 1048495 (by unfold takeIncrement; (repeat' split) <;> simp) hm

@[simp] theorem startStep_keeps {m : Nat} {s0 : State} (sc : Score) (s : State) (hm : m &&& 924969 = m) :
    Keeps m s0 (startStep sc s) ↔ Keeps m s0 s := keeps_of 924969 (by
  unfold startStep
  extract_lets n s1 f _ s2 last s3 s4 mine _ s5 s6
  have h1 : Keeps 924969 s s1 := by simp [s1]
  have h2 : Keeps 924969 s1 s2 := (keeps_set_ex _ (by decide)).mpr (Keeps.refl _ _)
  have h3 : Keeps 924969 s2 s3 := by simp [s3]
  have h4 : Keeps 924969 s3 s4 := by simp [s4]
  have h5 : Keeps 924969 s4 s5 := (keeps_set_ex _ (by decide)).mpr (Keeps.refl _ _)
  have h6 : Keeps 924969 s5 s6 := by
    refine (takeEarly_keeps _ (by decide)).mpr (keeps_foldl _ ?_ _ _ _ (Keeps.refl _ _))
    intro v e
    simp
  have h7 : Keeps 924969 s (s6) := h1.trans (h2.trans (h3.trans (h4.trans (h5.trans h6))))
  refine h7.trans (keeps_foldl _ ?_ _ _ _ (Keeps.refl _ _))
  intro v e
  simp) hm

@[simp] theorem markLate_keeps {m : Nat} {s0 : State} (s : State) (hm : m &&& 1048559 = m) :
    Keeps m s0 (markLate s) ↔ Keeps m s0 s := keeps_of 1048559 (by unfold markLate; (repeat' split) <;> simp) hm

@[simp] theorem measureStep_keeps {m : Nat} {s0 : State} (sc : Score) (s : State) (hm : m &&& 983023 = m) :
    Keeps m s0 (measureStep sc s) ↔ Keeps m s0 s := keeps_of 983023 (by unfold measureStep; (repeat' split) <;> simp) hm

@[simp] theorem reportWatch_keeps {m : Nat} {s0 : State} (s : State) (hm : m &&& 983023 = m) :
    Keeps m s0 (reportWatch s) ↔ Keeps m s0 s := keeps_of 983023 (by unfold reportWatch; (repeat' split) <;> simp) hm

@[simp] theorem returnCores_keeps {m : Nat} {s0 : State} (s : State) (hm : m &&& 523903 = m) :
    Keeps m s0 (returnCores s) ↔ Keeps m s0 s := keeps_of 523903 (by unfold returnCores; (repeat' split) <;> simp) hm

@[simp] theorem askRepair_keeps {m : Nat} {s0 : State} (sc : Score) (t1 : Nat) (n : Nat) (stripe : Nat) (s : State) (hm : m &&& 1007599 = m) :
    Keeps m s0 (askRepair sc t1 n stripe s) ↔ Keeps m s0 s := keeps_of 1007599 (by unfold askRepair; (repeat' split) <;> simp) hm

@[simp] theorem askGathered_keeps {m : Nat} {s0 : State} (x : CollCtx) (s : State) (p : Nat × Nat) (hm : m &&& 1007599 = m) :
    Keeps m s0 (askGathered x s p) ↔ Keeps m s0 s := keeps_of 1007599 (by unfold askGathered; (repeat' split) <;> simp) hm

@[simp] theorem beginRepairs_keeps {m : Nat} {s0 : State} (sc : Score) (s : State) (hm : m &&& 1007599 = m) :
    Keeps m s0 (beginRepairs sc s) ↔ Keeps m s0 s := keeps_of 1007599 (by unfold beginRepairs; repeat' (first | (simp; done) | split | (apply keeps_foldl <;> intros))) hm

@[simp] theorem endStep_keeps {m : Nat} {s0 : State} (sc : Score) (s : State) (hm : m &&& 155175 = m) :
    Keeps m s0 (endStep sc s) ↔ Keeps m s0 s := keeps_of 155175 (by unfold endStep; (repeat' split) <;> simp) hm

@[simp] theorem takeBoundary_keeps {m : Nat} {s0 : State} (sc : Score) (s : State) (hm : m &&& 150565 = m) :
    Keeps m s0 (takeBoundary sc s) ↔ Keeps m s0 s := keeps_of 150565 (by unfold takeBoundary; (repeat' split) <;> simp) hm

@[simp] theorem endSession_keeps {m : Nat} {s0 : State} (n : Nat) (s : State) (hm : m &&& 851951 = m) :
    Keeps m s0 (endSession n s) ↔ Keeps m s0 s := keeps_of 851951 (by unfold endSession; (repeat' split) <;> simp) hm

@[simp] theorem clearExec_keeps {m : Nat} {s0 : State} (s : State) (hm : m &&& 987071 = m) :
    Keeps m s0 (clearExec s) ↔ Keeps m s0 s := keeps_of 987071 (by unfold clearExec; (repeat' split) <;> simp) hm

@[simp] theorem destroyKeys_keeps {m : Nat} {s0 : State} (s : State) (hm : m &&& 909307 = m) :
    Keeps m s0 (destroyKeys s) ↔ Keeps m s0 s := keeps_of 909307 (by unfold destroyKeys; (repeat' split) <;> simp) hm

@[simp] theorem forgetMemory_keeps {m : Nat} {s0 : State} (s : State) (hm : m &&& 1048063 = m) :
    Keeps m s0 (forgetMemory s) ↔ Keeps m s0 s := keeps_of 1048063 (by unfold forgetMemory; (repeat' split) <;> simp) hm

@[simp] theorem leaveEffects_keeps {m : Nat} {s0 : State} (s : State) (hm : m &&& 3105 = m) :
    Keeps m s0 (leaveEffects s) ↔ Keeps m s0 s := keeps_of 3105 (by
  unfold leaveEffects
  extract_lets s1 s2 s3 s4 s5 _ s6 s7 _ s8
  have h1 : Keeps 3105 s s1 := by simp [s1]
  have h2 : Keeps 3105 s1 s2 := by simp only [s2]; split <;> simp
  have h3 : Keeps 3105 s2 s3 := (keeps_set_dev _ (by decide)).mpr (Keeps.refl _ _)
  have h4 : Keeps 3105 s3 s4 := (audit_keeps _ _ _ _ _ _ _ (by decide)).mpr (Keeps.refl _ _)
  have h5 : Keeps 3105 s4 s5 := by simp [s5]
  have h6 : Keeps 3105 s5 s6 := (keeps_set_regs_sites_fab _ _ _ (by decide)).mpr (Keeps.refl _ _)
  have h7 : Keeps 3105 s6 s7 := by simp only [s7]; split
                                   · exact (endSession_keeps _ _ (by decide)).mpr (Keeps.refl _ _)
                                   · exact Keeps.refl _ _
  have h8 : Keeps 3105 s7 s8 := by simp only [s8]; exact (keeps_set_ring _ (by decide)).mpr (Keeps.refl _ _)
  have h9 : Keeps 3105 s8 (forgetMemory (destroyKeys (withRg 0x1300 2 0 s8))) := by simp
  exact h1.trans (h2.trans (h3.trans (h4.trans (h5.trans (h6.trans (h7.trans (h8.trans h9)))))))) hm

@[simp] theorem closeSoon_keeps {m : Nat} {s0 : State} (s : State) (hm : m &&& 983039 = m) :
    Keeps m s0 (closeSoon s) ↔ Keeps m s0 s := keeps_of 983039 (by unfold closeSoon; (repeat' split) <;> simp) hm

@[simp] theorem facilityRule_apply_keeps {m : Nat} {s0 : State} (v : Nat) (s : State) (u0 : State) (hm : m &&& 3105 = m) :
    Keeps m s0 ((facilityRule v s).apply u0) ↔ Keeps m s0 u0 := keeps_of 3105 (by unfold facilityRule; (repeat' split) <;> simp) hm

@[simp] theorem facilityRule_after_keeps {m : Nat} {s0 : State} (v : Nat) (s : State) (u0 : State) (hm : m &&& 3105 = m) :
    Keeps m s0 ((facilityRule v s).after u0) ↔ Keeps m s0 u0 := keeps_of 3105 (by unfold facilityRule; (repeat' split) <;> simp) hm

@[simp] theorem facilityRule_onReject_keeps {m : Nat} {s0 : State} (v : Nat) (s : State) (u0 : State) (hm : m &&& 3105 = m) :
    Keeps m s0 ((facilityRule v s).onReject u0) ↔ Keeps m s0 u0 := keeps_of 3105 (by unfold facilityRule; (repeat' split) <;> simp) hm

@[simp] theorem holdNow_keeps {m : Nat} {s0 : State} (s : State) (hm : m &&& 1048503 = m) :
    Keeps m s0 (holdNow s) ↔ Keeps m s0 s := keeps_of 1048503 (by unfold holdNow; (repeat' split) <;> simp) hm

@[simp] theorem releaseNow_keeps {m : Nat} {s0 : State} (s : State) (hm : m &&& 950181 = m) :
    Keeps m s0 (releaseNow s) ↔ Keeps m s0 s := keeps_of 950181 (by unfold releaseNow; (repeat' split) <;> simp) hm

@[simp] theorem unprepareNow_keeps {m : Nat} {s0 : State} (s : State) (hm : m &&& 265253 = m) :
    Keeps m s0 (unprepareNow s) ↔ Keeps m s0 s := keeps_of 265253 (by unfold unprepareNow; (repeat' split) <;> simp) hm

@[simp] theorem jobRule_apply_keeps {m : Nat} {s0 : State} (q : Req) (v : Nat) (s : State) (u0 : State) (hm : m &&& 265253 = m) :
    Keeps m s0 ((jobRule q v s).apply u0) ↔ Keeps m s0 u0 := keeps_of 265253 (by unfold jobRule; (repeat' split) <;> simp) hm

@[simp] theorem jobRule_after_keeps {m : Nat} {s0 : State} (q : Req) (v : Nat) (s : State) (u0 : State) (hm : m &&& 265253 = m) :
    Keeps m s0 ((jobRule q v s).after u0) ↔ Keeps m s0 u0 := keeps_of 265253 (by unfold jobRule; (repeat' split) <;> simp) hm

@[simp] theorem jobRule_onReject_keeps {m : Nat} {s0 : State} (q : Req) (v : Nat) (s : State) (u0 : State) (hm : m &&& 265253 = m) :
    Keeps m s0 ((jobRule q v s).onReject u0) ↔ Keeps m s0 u0 := keeps_of 265253 (by unfold jobRule; (repeat' split) <;> simp) hm

@[simp] theorem commandRule_apply_keeps {m : Nat} {s0 : State} (q : Req) (idx : Nat) (sub : Nat) (value : Bytes) (s : State) (u0 : State) (hm : m &&& 3105 = m) :
    Keeps m s0 ((commandRule q idx sub value s).apply u0) ↔ Keeps m s0 u0 := keeps_of 3105 (by unfold commandRule; dsimp only; (repeat' split) <;> simp [*]) hm

@[simp] theorem commandRule_after_keeps {m : Nat} {s0 : State} (q : Req) (idx : Nat) (sub : Nat) (value : Bytes) (s : State) (u0 : State) (hm : m &&& 3105 = m) :
    Keeps m s0 ((commandRule q idx sub value s).after u0) ↔ Keeps m s0 u0 := keeps_of 3105 (by unfold commandRule; dsimp only; (repeat' split) <;> simp [*]) hm

@[simp] theorem commandRule_onReject_keeps {m : Nat} {s0 : State} (q : Req) (idx : Nat) (sub : Nat) (value : Bytes) (s : State) (u0 : State) (hm : m &&& 3105 = m) :
    Keeps m s0 ((commandRule q idx sub value s).onReject u0) ↔ Keeps m s0 u0 := keeps_of 3105 (by unfold commandRule; dsimp only; (repeat' split) <;> simp [*]) hm

@[simp] theorem jobCommand_keeps {m : Nat} {s0 : State} (q : Req) (v : Nat) (s : State) (hm : m &&& 3105 = m) :
    Keeps m s0 (jobCommand q v s) ↔ Keeps m s0 s := keeps_of 3105 (by unfold jobCommand; (repeat' split) <;> simp) hm

@[simp] theorem facilityCommand_keeps {m : Nat} {s0 : State} (q : Req) (v : Nat) (s : State) (hm : m &&& 3105 = m) :
    Keeps m s0 (facilityCommand q v s) ↔ Keeps m s0 s := keeps_of 3105 (by unfold facilityCommand; (repeat' split) <;> simp) hm

@[simp] theorem joinNow_keeps {m : Nat} {s0 : State} (s : State) (hm : m &&& 851427 = m) :
    Keeps m s0 (joinNow s) ↔ Keeps m s0 s := keeps_of 851427 (by unfold joinNow; (repeat' split) <;> simp) hm

@[simp] theorem raiseMinimum_keeps {m : Nat} {s0 : State} (s : State) (hm : m &&& 851951 = m) :
    Keeps m s0 (raiseMinimum s) ↔ Keeps m s0 s := keeps_of 851951 (by unfold raiseMinimum; (repeat' split) <;> simp) hm

@[simp] theorem joinCommand_keeps {m : Nat} {s0 : State} (src : Nat) (dst : Nat) (msg : Nat) (s : State) (hm : m &&& 851425 = m) :
    Keeps m s0 (joinCommand src dst msg s) ↔ Keeps m s0 s := keeps_of 851425 (by unfold joinCommand; (repeat' split) <;> simp) hm

@[simp] theorem copyConstants_keeps {m : Nat} {s0 : State} (sc : Score) (s : State) (hm : m &&& 1048041 = m) :
    Keeps m s0 (copyConstants sc s) ↔ Keeps m s0 s := keeps_of 1048041 (by unfold copyConstants; (repeat' split) <;> simp) hm

@[simp] theorem deriveParcelKey_keeps {m : Nat} {s0 : State} (point : Nat) (s : State) (hm : m &&& 1040383 = m) :
    Keeps m s0 (deriveParcelKey point s) ↔ Keeps m s0 s := keeps_of 1040383 (by unfold deriveParcelKey; (repeat' split) <;> simp) hm

@[simp] theorem install_keeps {m : Nat} {s0 : State} (p : PendWrite) (s : State) (hm : m &&& 200097 = m) :
    Keeps m s0 (install p s) ↔ Keeps m s0 s := keeps_of 200097 (by
  unfold install
  extract_lets base rd sc t emu ordered len image s1 e x1 s2 keep s3 s4 s5
  have h1 : Keeps 200097 s s1 := by simp [s1]
  have h2 : Keeps 200097 s1 x1 := by simp [x1]
  have h2' : Keeps 200097 x1 s2 := (keeps_set_dev_ex_col_res _ _ _ _ (by decide)).mpr (Keeps.refl _ _)
  have h3 : Keeps 200097 s2 s3 := (keeps_set_regs _ (by decide)).mpr (Keeps.refl _ _)
  have h4 : Keeps 200097 s3 s4 := by simp [s4]
  have h5 : Keeps 200097 s4 s5 := by simp [s5]
  have h6 : Keeps 200097 s5 (openContexts sc (closeContexts (deriveParcelKey (2 ^ 64 - 1) (copyConstants sc s5)))) := by simp
  exact h1.trans (h2.trans (h2'.trans (h3.trans (h4.trans (h5.trans h6)))))) hm

@[simp] theorem grantRule_apply_keeps {m : Nat} {s0 : State} (value : Bytes) (s : State) (u0 : State) (hm : m &&& 1048559 = m) :
    Keeps m s0 ((grantRule value s).apply u0) ↔ Keeps m s0 u0 := keeps_of 1048559 (by unfold grantRule; (repeat' split) <;> simp) hm

@[simp] theorem grantRule_after_keeps {m : Nat} {s0 : State} (value : Bytes) (s : State) (u0 : State) (hm : m &&& 1048559 = m) :
    Keeps m s0 ((grantRule value s).after u0) ↔ Keeps m s0 u0 := keeps_of 1048559 (by unfold grantRule; (repeat' split) <;> simp) hm

@[simp] theorem grantRule_onReject_keeps {m : Nat} {s0 : State} (value : Bytes) (s : State) (u0 : State) (hm : m &&& 1048559 = m) :
    Keeps m s0 ((grantRule value s).onReject u0) ↔ Keeps m s0 u0 := keeps_of 1048559 (by unfold grantRule; (repeat' split) <;> simp) hm

@[simp] theorem postRule_apply_keeps {m : Nat} {s0 : State} (value : Bytes) (s : State) (u0 : State) (hm : m &&& 1048495 = m) :
    Keeps m s0 ((postRule value s).apply u0) ↔ Keeps m s0 u0 := keeps_of 1048495 (by unfold postRule; (repeat' split) <;> simp) hm

@[simp] theorem postRule_after_keeps {m : Nat} {s0 : State} (value : Bytes) (s : State) (u0 : State) (hm : m &&& 1048495 = m) :
    Keeps m s0 ((postRule value s).after u0) ↔ Keeps m s0 u0 := keeps_of 1048495 (by unfold postRule; (repeat' split) <;> simp) hm

@[simp] theorem postRule_onReject_keeps {m : Nat} {s0 : State} (value : Bytes) (s : State) (u0 : State) (hm : m &&& 1048495 = m) :
    Keeps m s0 ((postRule value s).onReject u0) ↔ Keeps m s0 u0 := keeps_of 1048495 (by unfold postRule; (repeat' split) <;> simp) hm

@[simp] theorem takeHops_keeps {m : Nat} {s0 : State} (m0 : FrameMark) (s : State) (hm : m &&& 1048559 = m) :
    Keeps m s0 (takeHops m0 s) ↔ Keeps m s0 s := keeps_of 1048559 (by unfold takeHops; (repeat' split) <;> simp) hm

@[simp] theorem frameBoundary_keeps {m : Nat} {s0 : State} (s : State) (hm : m &&& 720879 = m) :
    Keeps m s0 (frameBoundary s) ↔ Keeps m s0 s := keeps_of 720879 (by unfold frameBoundary; dsimp only; (repeat' split) <;> simp [*]) hm

@[simp] theorem measureFrame_keeps {m : Nat} {s0 : State} (s : State) (hm : m &&& 786431 = m) :
    Keeps m s0 (measureFrame s) ↔ Keeps m s0 s := keeps_of 786431 (by unfold measureFrame; (repeat' split) <;> simp) hm

@[simp] theorem stepTimeForward_keeps {m : Nat} {s0 : State} (node : Nat) (s : State) (hm : m &&& 786431 = m) :
    Keeps m s0 (stepTimeForward node s) ↔ Keeps m s0 s := keeps_of 786431 (by unfold stepTimeForward; (repeat' split) <;> simp) hm

@[simp] theorem report32_keeps {m : Nat} {s0 : State} (v : Int) (s : State) (hm : m &&& 1048555 = m) :
    Keeps m s0 (report32 v s) ↔ Keeps m s0 s := keeps_of 1048555 (by unfold report32; (repeat' split) <;> simp) hm

@[simp] theorem trimToMarks_keeps {m : Nat} {s0 : State} (node : Nat) (s : State) (hm : m &&& 786411 = m) :
    Keeps m s0 (trimToMarks node s) ↔ Keeps m s0 s := keeps_of 786411 (by unfold trimToMarks; (repeat' split) <;> simp) hm

@[simp] theorem readMark_keeps {m : Nat} {s0 : State} (m0 : FrameMark) (s : State) (hm : m &&& 983023 = m) :
    Keeps m s0 (readMark m0 s) ↔ Keeps m s0 s := keeps_of 983023 (by unfold readMark; (repeat' split) <;> simp) hm

@[simp] theorem dropPart_keeps {m : Nat} {s0 : State} (src : Nat) (sess : Nat) (msg : Nat) (s : State) (hm : m &&& 983039 = m) :
    Keeps m s0 (dropPart src sess msg s) ↔ Keeps m s0 s := keeps_of 983039 (by unfold dropPart; (repeat' split) <;> simp) hm

@[simp] theorem putPart_keeps {m : Nat} {s0 : State} (p : PartMsg) (s : State) (hm : m &&& 983039 = m) :
    Keeps m s0 (putPart p s) ↔ Keeps m s0 s := keeps_of 983039 (by unfold putPart; (repeat' split) <;> simp) hm

@[simp] theorem putInbox_keeps {m : Nat} {s0 : State} (p : PartMsg) (s : State) (hm : m &&& 983039 = m) :
    Keeps m s0 (putInbox p s) ↔ Keeps m s0 s := keeps_of 983039 (by unfold putInbox; (repeat' split) <;> simp) hm

@[simp] theorem takeMsg_keeps {m : Nat} {s0 : State} (typ : Nat) (sess : Nat) (s : State) (hm : m &&& 983039 = m) :
    Keeps m s0 (takeMsg typ sess s) ↔ Keeps m s0 s := keeps_of 983039 (by unfold takeMsg; (repeat' split) <;> simp) hm

@[simp] theorem protocolError_keeps {m : Nat} {s0 : State} (q : Req) (head : Bytes) (write : Bool) (code : Nat) (s : State) (hm : m &&& 851949 = m) :
    Keeps m s0 (protocolError q head write code s) ↔ Keeps m s0 s := keeps_of 851949 (by unfold protocolError; (repeat' split) <;> simp) hm

@[simp] theorem messageDone_keeps {m : Nat} {s0 : State} (p : PartMsg) (s : State) (hm : m &&& 851949 = m) :
    Keeps m s0 (messageDone p s) ↔ Keeps m s0 s := keeps_of 851949 (by unfold messageDone; (repeat' split) <;> simp) hm

@[simp] theorem takeSlot_keeps {m : Nat} {s0 : State} (x : Slot) (s : State) (hm : m &&& 851949 = m) :
    Keeps m s0 (takeSlot x s) ↔ Keeps m s0 s := keeps_of 851949 (by unfold takeSlot; (repeat' split) <;> simp) hm

@[simp] theorem duplicateFound_keeps {m : Nat} {s0 : State} (s : State) (hm : m &&& 3105 = m) :
    Keeps m s0 (duplicateFound s) ↔ Keeps m s0 s := keeps_of 3105 (by unfold duplicateFound; (repeat' split) <;> simp) hm

@[simp] theorem slotLeft_keeps {m : Nat} {s0 : State} (m0 : OutMsg) (last : Bool) (s : State) (hm : m &&& 917503 = m) :
    Keeps m s0 (slotLeft m0 last s) ↔ Keeps m s0 s := keeps_of 917503 (by unfold slotLeft; (repeat' split) <;> simp) hm

@[simp] theorem fillSlot_keeps {m : Nat} {s0 : State} (x : Slot) (s : State) (hm : m &&& 851965 = m) :
    Keeps m s0 (fillSlot x s) ↔ Keeps m s0 s := keeps_of 851965 (by unfold fillSlot; (repeat' split) <;> simp) hm

@[simp] theorem sendEvent_keeps {m : Nat} {s0 : State} (e : Event) (s : State) (hm : m &&& 983037 = m) :
    Keeps m s0 (sendEvent e s) ↔ Keeps m s0 s := keeps_of 983037 (by unfold sendEvent; (repeat' split) <;> simp) hm

@[simp] theorem sendFirst_keeps {m : Nat} {s0 : State} (s : State) (hm : m &&& 983037 = m) :
    Keeps m s0 (sendFirst s) ↔ Keeps m s0 s := keeps_of 983037 (by unfold sendFirst; (repeat' split) <;> simp) hm

@[simp] theorem sendLost_keeps {m : Nat} {s0 : State} (k : Nat) (n : Nat) (s : State) (hm : m &&& 983021 = m) :
    Keeps m s0 (sendLost k n s) ↔ Keeps m s0 s := keeps_of 983021 (by unfold sendLost; dsimp only; (repeat' split) <;> simp [*]) hm

@[simp] theorem withChan_keeps {m : Nat} {s0 : State} (c : Nat) (x : BulkChan) (s : State) (hm : m &&& 983039 = m) :
    Keeps m s0 (withChan c x s) ↔ Keeps m s0 s := keeps_of 983039 (by unfold withChan; (repeat' split) <;> simp) hm

@[simp] theorem sendChanBlock_keeps {m : Nat} {s0 : State} (c : Nat) (x : BulkChan) (k : Nat) (s : State) (hm : m &&& 982505 = m) :
    Keeps m s0 (sendChanBlock c x k s) ↔ Keeps m s0 s := keeps_of 982505 (by unfold sendChanBlock; (repeat' split) <;> simp) hm

@[simp] theorem pumpChan_keeps {m : Nat} {s0 : State} (c : Nat) (n : Nat) (s : State) (hm : m &&& 982505 = m) :
    Keeps m s0 (pumpChan c n s) ↔ Keeps m s0 s := keeps_of 982505 (by
  induction n generalizing s with
  | zero => simp [pumpChan]
  | succ n ih => unfold pumpChan; repeat' (first | dsimp only | (simp; done) | (refine Keeps.trans ?_ (ih _); simp; done) | split)) hm

@[simp] theorem pumpChans_keeps {m : Nat} {s0 : State} (s : State) (hm : m &&& 982505 = m) :
    Keeps m s0 (pumpChans s) ↔ Keeps m s0 s := keeps_of 982505 (by unfold pumpChans; (repeat' split) <;> simp) hm

@[simp] theorem noteStaged_keeps {m : Nat} {s0 : State} (x : BulkChan) (s : State) (hm : m &&& 1048559 = m) :
    Keeps m s0 (noteStaged x s) ↔ Keeps m s0 s := keeps_of 1048559 (by unfold noteStaged; (repeat' split) <;> simp) hm

@[simp] theorem bulkOpenRule_apply_keeps {m : Nat} {s0 : State} (q : Req) (value : Bytes) (s : State) (u0 : State) (hm : m &&& 982505 = m) :
    Keeps m s0 ((bulkOpenRule q value s).apply u0) ↔ Keeps m s0 u0 := keeps_of 982505 (by unfold bulkOpenRule; (repeat' split) <;> simp) hm

@[simp] theorem bulkOpenRule_after_keeps {m : Nat} {s0 : State} (q : Req) (value : Bytes) (s : State) (u0 : State) (hm : m &&& 982505 = m) :
    Keeps m s0 ((bulkOpenRule q value s).after u0) ↔ Keeps m s0 u0 := keeps_of 982505 (by unfold bulkOpenRule; (repeat' split) <;> simp) hm

@[simp] theorem bulkOpenRule_onReject_keeps {m : Nat} {s0 : State} (q : Req) (value : Bytes) (s : State) (u0 : State) (hm : m &&& 982505 = m) :
    Keeps m s0 ((bulkOpenRule q value s).onReject u0) ↔ Keeps m s0 u0 := keeps_of 982505 (by unfold bulkOpenRule; (repeat' split) <;> simp) hm

@[simp] theorem bulkCloseRule_apply_keeps {m : Nat} {s0 : State} (value : Bytes) (u0 : State) (hm : m &&& 983039 = m) :
    Keeps m s0 ((bulkCloseRule value).apply u0) ↔ Keeps m s0 u0 := keeps_of 983039 (by unfold bulkCloseRule; (repeat' split) <;> simp) hm

@[simp] theorem bulkCloseRule_after_keeps {m : Nat} {s0 : State} (value : Bytes) (u0 : State) (hm : m &&& 983039 = m) :
    Keeps m s0 ((bulkCloseRule value).after u0) ↔ Keeps m s0 u0 := keeps_of 983039 (by unfold bulkCloseRule; (repeat' split) <;> simp) hm

@[simp] theorem bulkCloseRule_onReject_keeps {m : Nat} {s0 : State} (value : Bytes) (u0 : State) (hm : m &&& 983039 = m) :
    Keeps m s0 ((bulkCloseRule value).onReject u0) ↔ Keeps m s0 u0 := keeps_of 983039 (by unfold bulkCloseRule; (repeat' split) <;> simp) hm

@[simp] theorem bulkReceived_keeps {m : Nat} {s0 : State} (b : Block) (s : State) (hm : m &&& 983037 = m) :
    Keeps m s0 (bulkReceived b s) ↔ Keeps m s0 s := keeps_of 983037 (by unfold bulkReceived; (repeat' split) <;> simp) hm

@[simp] theorem chanResend_keeps {m : Nat} {s0 : State} (c : Nat) (k : Nat) (s : State) (hm : m &&& 982505 = m) :
    Keeps m s0 (chanResend c k s) ↔ Keeps m s0 s := keeps_of 982505 (by unfold chanResend; (repeat' split) <;> simp) hm

@[simp] theorem dropTransfer_keeps {m : Nat} {s0 : State} (t0 : Transfer) (s : State) (hm : m &&& 983039 = m) :
    Keeps m s0 (dropTransfer t0 s) ↔ Keeps m s0 s := keeps_of 983039 (by unfold dropTransfer; (repeat' split) <;> simp) hm

@[simp] theorem putTransfer_keeps {m : Nat} {s0 : State} (t0 : Transfer) (s : State) (hm : m &&& 983039 = m) :
    Keeps m s0 (putTransfer t0 s) ↔ Keeps m s0 s := keeps_of 983039 (by unfold putTransfer; (repeat' split) <;> simp) hm

@[simp] theorem pumpTransfer_keeps {m : Nat} {s0 : State} (sess msg : Nat) (n : Nat) (s : State) (hm : m &&& 983037 = m) :
    Keeps m s0 (pumpTransfer sess msg n s) ↔ Keeps m s0 s := keeps_of 983037 (by
  induction n generalizing s with
  | zero => simp [pumpTransfer]
  | succ n ih => unfold pumpTransfer; repeat' (first | dsimp only | (simp; done) | (refine Keeps.trans ?_ (ih _); simp; done) | split)) hm

@[simp] theorem transferResend_keeps {m : Nat} {s0 : State} (t0 : Transfer) (k : Nat) (s : State) (hm : m &&& 851965 = m) :
    Keeps m s0 (transferResend t0 k s) ↔ Keeps m s0 s := keeps_of 851965 (by unfold transferResend; (repeat' split) <;> simp) hm

@[simp] theorem blockAcked_keeps {m : Nat} {s0 : State} (a : BlockAck) (s : State) (hm : m &&& 851433 = m) :
    Keeps m s0 (blockAcked a s) ↔ Keeps m s0 s := keeps_of 851433 (by unfold blockAcked; (repeat' split) <;> simp) hm

@[simp] theorem countRelief_keeps {m : Nat} {s0 : State} (half : Nat) (s : State) (hm : m &&& 851951 = m) :
    Keeps m s0 (countRelief half s) ↔ Keeps m s0 s := keeps_of 851951 (by unfold countRelief; (repeat' split) <;> simp) hm

@[simp] theorem rebind_keeps {m : Nat} {s0 : State} (half : Nat) (ps : List (Nat × Nat)) (s : State) (hm : m &&& 524031 = m) :
    Keeps m s0 (rebind half ps s) ↔ Keeps m s0 s := keeps_of 524031 (by unfold rebind; (repeat' split) <;> simp) hm

@[simp] theorem retireCore_keeps {m : Nat} {s0 : State} (half : Nat) (core : Nat) (s : State) (hm : m &&& 31781 = m) :
    Keeps m s0 (retireCore half core s) ↔ Keeps m s0 s := keeps_of 31781 (by unfold retireCore; (repeat' split) <;> simp) hm

@[simp] theorem failCore_keeps {m : Nat} {s0 : State} (half : Nat) (core : Nat) (s : State) (hm : m &&& 31781 = m) :
    Keeps m s0 (failCore half core s) ↔ Keeps m s0 s := keeps_of 31781 (by unfold failCore; (repeat' split) <;> simp) hm

@[simp] theorem testSettingsRule_apply_keeps {m : Nat} {s0 : State} (sub : Nat) (value : Bytes) (u0 : State) (hm : m &&& 524271 = m) :
    Keeps m s0 ((testSettingsRule sub value).apply u0) ↔ Keeps m s0 u0 := keeps_of 524271 (by unfold testSettingsRule; (repeat' split) <;> simp) hm

@[simp] theorem testSettingsRule_after_keeps {m : Nat} {s0 : State} (sub : Nat) (value : Bytes) (u0 : State) (hm : m &&& 524271 = m) :
    Keeps m s0 ((testSettingsRule sub value).after u0) ↔ Keeps m s0 u0 := keeps_of 524271 (by unfold testSettingsRule; (repeat' split) <;> simp) hm

@[simp] theorem testSettingsRule_onReject_keeps {m : Nat} {s0 : State} (sub : Nat) (value : Bytes) (u0 : State) (hm : m &&& 524271 = m) :
    Keeps m s0 ((testSettingsRule sub value).onReject u0) ↔ Keeps m s0 u0 := keeps_of 524271 (by unfold testSettingsRule; (repeat' split) <;> simp) hm

@[simp] theorem beginTest_keeps {m : Nat} {s0 : State} (half : Nat) (core : Nat) (relief : Option Nat) (s : State) (hm : m &&& 524159 = m) :
    Keeps m s0 (beginTest half core relief s) ↔ Keeps m s0 s := keeps_of 524159 (by unfold beginTest; (repeat' split) <;> simp) hm

@[simp] theorem relieve_keeps {m : Nat} {s0 : State} (half : Nat) (core : Nat) (r : Nat) (s : State) (hm : m &&& 524159 = m) :
    Keeps m s0 (relieve half core r s) ↔ Keeps m s0 s := keeps_of 524159 (by unfold relieve; (repeat' split) <;> simp) hm

@[simp] theorem forgetHalf_keeps {m : Nat} {s0 : State} (half : Nat) (s : State) (hm : m &&& 1048443 = m) :
    Keeps m s0 (forgetHalf half s) ↔ Keeps m s0 s := keeps_of 1048443 (by unfold forgetHalf; (repeat' split) <;> simp) hm

@[simp] theorem forgetShared_keeps {m : Nat} {s0 : State} (die : Nat) (s : State) (hm : m &&& 1048063 = m) :
    Keeps m s0 (forgetShared die s) ↔ Keeps m s0 s := keeps_of 1048063 (by unfold forgetShared; (repeat' split) <;> simp) hm

@[simp] theorem forgetCache_keeps {m : Nat} {s0 : State} (q : Nat) (s : State) (hm : m &&& 1048063 = m) :
    Keeps m s0 (forgetCache q s) ↔ Keeps m s0 s := keeps_of 1048063 (by unfold forgetCache; (repeat' split) <;> simp) hm

@[simp] theorem forgetStack_keeps {m : Nat} {s0 : State} (k : Nat) (s : State) (hm : m &&& 1048063 = m) :
    Keeps m s0 (forgetStack k s) ↔ Keeps m s0 s := keeps_of 1048063 (by unfold forgetStack; (repeat' split) <;> simp) hm

@[simp] theorem forgetTarget_keeps {m : Nat} {s0 : State} (kind : Nat) (target : Nat) (s : State) (hm : m &&& 1047931 = m) :
    Keeps m s0 (forgetTarget kind target s) ↔ Keeps m s0 s := keeps_of 1047931 (by unfold forgetTarget; (repeat' split) <;> simp) hm

@[simp] theorem selfTestRule_apply_keeps {m : Nat} {s0 : State} (value : Bytes) (s : State) (u0 : State) (hm : m &&& 524271 = m) :
    Keeps m s0 ((selfTestRule value s).apply u0) ↔ Keeps m s0 u0 := keeps_of 524271 (by unfold selfTestRule; (repeat' split) <;> simp) hm

@[simp] theorem selfTestRule_after_keeps {m : Nat} {s0 : State} (value : Bytes) (s : State) (u0 : State) (hm : m &&& 524271 = m) :
    Keeps m s0 ((selfTestRule value s).after u0) ↔ Keeps m s0 u0 := keeps_of 524271 (by unfold selfTestRule; (repeat' split) <;> simp) hm

@[simp] theorem selfTestRule_onReject_keeps {m : Nat} {s0 : State} (value : Bytes) (s : State) (u0 : State) (hm : m &&& 524271 = m) :
    Keeps m s0 ((selfTestRule value s).onReject u0) ↔ Keeps m s0 u0 := keeps_of 524271 (by unfold selfTestRule; (repeat' split) <;> simp) hm

@[simp] theorem selfTest_keeps {m : Nat} {s0 : State} (kind : Nat) (q : Req) (target : Nat) (reserved : Nat) (s : State) (hm : m &&& 327661 = m) :
    Keeps m s0 (selfTest kind q target reserved s) ↔ Keeps m s0 s := keeps_of 327661 (by unfold selfTest; (repeat' split) <;> simp) hm

@[simp] theorem endSelfTest_keeps {m : Nat} {s0 : State} (code : Nat) (s : State) (hm : m &&& 523627 = m) :
    Keeps m s0 (endSelfTest code s) ↔ Keeps m s0 s := keeps_of 523627 (by unfold endSelfTest; (repeat' split) <;> simp) hm

@[simp] theorem failSite_keeps {m : Nat} {s0 : State} (half : Nat) (s : State) (site : Nat) (hm : m &&& 31781 = m) :
    Keeps m s0 (failSite half s site) ↔ Keeps m s0 s := keeps_of 31781 (by unfold failSite; (repeat' split) <;> simp) hm

@[simp] theorem testPortRule_apply_keeps {m : Nat} {s0 : State} (value : Bytes) (s : State) (u0 : State) (hm : m &&& 262127 = m) :
    Keeps m s0 ((testPortRule value s).apply u0) ↔ Keeps m s0 u0 := keeps_of 262127 (by unfold testPortRule; dsimp only; (repeat' split) <;> simp [*]) hm

@[simp] theorem testPortRule_after_keeps {m : Nat} {s0 : State} (value : Bytes) (s : State) (u0 : State) (hm : m &&& 262127 = m) :
    Keeps m s0 ((testPortRule value s).after u0) ↔ Keeps m s0 u0 := keeps_of 262127 (by unfold testPortRule; dsimp only; (repeat' split) <;> simp [*]) hm

@[simp] theorem testPortRule_onReject_keeps {m : Nat} {s0 : State} (value : Bytes) (s : State) (u0 : State) (hm : m &&& 262127 = m) :
    Keeps m s0 ((testPortRule value s).onReject u0) ↔ Keeps m s0 u0 := keeps_of 262127 (by unfold testPortRule; dsimp only; (repeat' split) <;> simp [*]) hm

@[simp] theorem forgetDies_keeps {m : Nat} {s0 : State} (sel : BitVec 40) (s : State) (hm : m &&& 1047931 = m) :
    Keeps m s0 (forgetDies sel s) ↔ Keeps m s0 s := keeps_of 1047931 (by unfold forgetDies; (repeat' split) <;> simp) hm

@[simp] theorem loadInstr_keeps {m : Nat} {s0 : State} (ir : BitVec 8) (intrusive : Bool) (s : State) (hm : m &&& 523643 = m) :
    Keeps m s0 (loadInstr ir intrusive s) ↔ Keeps m s0 s := keeps_of 523643 (by unfold loadInstr; (repeat' split) <;> simp) hm

@[simp] theorem enrolRule_apply_keeps {m : Nat} {s0 : State} (idx : Nat) (sub : Nat) (value : Bytes) (s : State) (u0 : State) (hm : m &&& 851951 = m) :
    Keeps m s0 ((enrolRule idx sub value s).apply u0) ↔ Keeps m s0 u0 := keeps_of 851951 (by unfold enrolRule; (repeat' split) <;> simp) hm

@[simp] theorem enrolRule_after_keeps {m : Nat} {s0 : State} (idx : Nat) (sub : Nat) (value : Bytes) (s : State) (u0 : State) (hm : m &&& 851951 = m) :
    Keeps m s0 ((enrolRule idx sub value s).after u0) ↔ Keeps m s0 u0 := keeps_of 851951 (by unfold enrolRule; (repeat' split) <;> simp) hm

@[simp] theorem enrolRule_onReject_keeps {m : Nat} {s0 : State} (idx : Nat) (sub : Nat) (value : Bytes) (s : State) (u0 : State) (hm : m &&& 851951 = m) :
    Keeps m s0 ((enrolRule idx sub value s).onReject u0) ↔ Keeps m s0 u0 := keeps_of 851951 (by unfold enrolRule; (repeat' split) <;> simp) hm

@[simp] theorem stopArea1_keeps {m : Nat} {s0 : State} (s : State) (hm : m &&& 1048047 = m) :
    Keeps m s0 (stopArea1 s) ↔ Keeps m s0 s := keeps_of 1048047 (by unfold stopArea1; (repeat' split) <;> simp) hm

@[simp] theorem failFinish_keeps {m : Nat} {s0 : State} (n : Nat) (code : Nat) (s : State) (hm : m &&& 851949 = m) :
    Keeps m s0 (failFinish n code s) ↔ Keeps m s0 s := keeps_of 851949 (by unfold failFinish; (repeat' split) <;> simp) hm

@[simp] theorem establish_keeps {m : Nat} {s0 : State} (m0 : FinishMsg) (s : State) (hm : m &&& 64873 = m) :
    Keeps m s0 (establish m0 s) ↔ Keeps m s0 s := keeps_of 64873 (by unfold establish; (repeat' split) <;> simp) hm

@[simp] theorem keyMessage_keeps {m : Nat} {s0 : State} (q : Req) (sub idx osub : Nat) (codes : List Nat) (kind : Nat)
    (keyed : Bool) (value : Bytes) (apply : State → State) (s : State) (hm : m &&& 851949 = m) (h : ∀ u, Keeps m u (apply u)) :
    Keeps m s0 (keyMessage q sub idx osub codes kind keyed value apply s) ↔ Keeps m s0 s := by
  have e1 : m &&& 1048559 = m := and_sub hm (by decide)
  have e2 : m &&& 1048573 = m := and_sub hm (by decide)
  have e3 : m &&& 983039 = m := and_sub hm (by decide)
  have e5 : m &&& 917487 = m := and_sub hm (by decide)
  refine keeps_of m ?_ (Nat.and_self m)
  have h1 : Keeps m s (takeMsg 6 q.sess (fresh s)) := by simp [e2, e3]
  have h2 : ∀ u, Keeps m u (audit q.sess idx osub kind keyed value u) := fun u =>
    (audit_keeps q.sess idx osub kind keyed value u (and_sub hm (by decide))).mpr (Keeps.refl m u)
  have h3 : ∀ o u, Keeps m u (sendRing o u) := fun o u => (sendRing_keeps o u (and_sub hm (by decide))).mpr (Keeps.refl m u)
  have h4 : ∀ o u, Keeps m u (countReject o u) := fun o u => (countReject_keeps o u e5).mpr (Keeps.refl m u)
  unfold keyMessage
  dsimp only
  split
  · exact h1
  · split
    · exact h1.trans (by simp [e1])
    · split
      · exact h1.trans ((h4 _ _).trans (h3 _ _))
      · exact h1.trans ((h _).trans ((h2 _).trans (h3 _ _)))

@[simp] theorem eraseRange_keeps {m : Nat} {s0 : State} (a : Nat) (n : Nat) (s : State) (hm : m &&& 1048063 = m) :
    Keeps m s0 (eraseRange a n s) ↔ Keeps m s0 s := keeps_of 1048063 (by unfold eraseRange; (repeat' split) <;> simp) hm

@[simp] theorem removeRegion_keeps {m : Nat} {s0 : State} (num : Nat) (s : State) (hm : m &&& 916991 = m) :
    Keeps m s0 (removeRegion num s) ↔ Keeps m s0 s := keeps_of 916991 (by unfold removeRegion; (repeat' split) <;> simp) hm

@[simp] theorem installRegion_keeps {m : Nat} {s0 : State} (num : Nat) (base : Nat) (length : Nat) (key : BitVec 512) (s : State) (hm : m &&& 916991 = m) :
    Keeps m s0 (installRegion num base length key s) ↔ Keeps m s0 s := keeps_of 916991 (by unfold installRegion; (repeat' split) <;> simp) hm

@[simp] theorem firmwareRule_apply_keeps {m : Nat} {s0 : State} (q : Req) (s : State) (u0 : State) (hm : m &&& 917487 = m) :
    Keeps m s0 ((firmwareRule q s).apply u0) ↔ Keeps m s0 u0 := keeps_of 917487 (by unfold firmwareRule; (repeat' split) <;> simp) hm

@[simp] theorem firmwareRule_after_keeps {m : Nat} {s0 : State} (q : Req) (s : State) (u0 : State) (hm : m &&& 917487 = m) :
    Keeps m s0 ((firmwareRule q s).after u0) ↔ Keeps m s0 u0 := keeps_of 917487 (by unfold firmwareRule; (repeat' split) <;> simp) hm

@[simp] theorem firmwareRule_onReject_keeps {m : Nat} {s0 : State} (q : Req) (s : State) (u0 : State) (hm : m &&& 917487 = m) :
    Keeps m s0 ((firmwareRule q s).onReject u0) ↔ Keeps m s0 u0 := keeps_of 917487 (by unfold firmwareRule; (repeat' split) <;> simp) hm

@[simp] theorem failUpdate_keeps {m : Nat} {s0 : State} (code : Nat) (s : State) (hm : m &&& 851949 = m) :
    Keeps m s0 (failUpdate code s) ↔ Keeps m s0 s := keeps_of 851949 (by unfold failUpdate; (repeat' split) <;> simp) hm

@[simp] theorem replaceImage_keeps {m : Nat} {s0 : State} (p : PendWrite) (img : FwImage) (s : State) (hm : m &&& 851949 = m) :
    Keeps m s0 (replaceImage p img s) ↔ Keeps m s0 s := keeps_of 851949 (by unfold replaceImage; (repeat' split) <;> simp) hm

@[simp] theorem stowNow_keeps {m : Nat} {s0 : State} (s : State) (hm : m &&& 248175 = m) :
    Keeps m s0 (stowNow s) ↔ Keeps m s0 s := keeps_of 248175 (by unfold stowNow; (repeat' split) <;> simp) hm

@[simp] theorem leaveStow_keeps {m : Nat} {s0 : State} (s : State) (hm : m &&& 772479 = m) :
    Keeps m s0 (leaveStow s) ↔ Keeps m s0 s := keeps_of 772479 (by unfold leaveStow; (repeat' split) <;> simp) hm

@[simp] theorem settleOptics_keeps {m : Nat} {s0 : State} (s : State) (hm : m &&& 1036285 = m) :
    Keeps m s0 (settleOptics s) ↔ Keeps m s0 s := keeps_of 1036285 (by unfold settleOptics; (repeat' split) <;> simp) hm

@[simp] theorem powerDone_keeps {m : Nat} {s0 : State} (s : State) (hm : m &&& 577517 = m) :
    Keeps m s0 (powerDone s) ↔ Keeps m s0 s := keeps_of 577517 (by unfold powerDone; (repeat' split) <;> simp) hm

@[simp] theorem requestPower_keeps {m : Nat} {s0 : State} (v : Nat) (s : State) (hm : m &&& 51309 = m) :
    Keeps m s0 (requestPower v s) ↔ Keeps m s0 s := keeps_of 51309 (by unfold requestPower; (repeat' split) <;> simp) hm

@[simp] theorem powerRule_apply_keeps {m : Nat} {s0 : State} (q : Req) (value : Bytes) (s : State) (u0 : State) (hm : m &&& 51309 = m) :
    Keeps m s0 ((powerRule q value s).apply u0) ↔ Keeps m s0 u0 := keeps_of 51309 (by unfold powerRule; (repeat' split) <;> simp) hm

@[simp] theorem powerRule_after_keeps {m : Nat} {s0 : State} (q : Req) (value : Bytes) (s : State) (u0 : State) (hm : m &&& 51309 = m) :
    Keeps m s0 ((powerRule q value s).after u0) ↔ Keeps m s0 u0 := keeps_of 51309 (by unfold powerRule; (repeat' split) <;> simp) hm

@[simp] theorem powerRule_onReject_keeps {m : Nat} {s0 : State} (q : Req) (value : Bytes) (s : State) (u0 : State) (hm : m &&& 51309 = m) :
    Keeps m s0 ((powerRule q value s).onReject u0) ↔ Keeps m s0 u0 := keeps_of 51309 (by unfold powerRule; (repeat' split) <;> simp) hm

@[simp] theorem intoHush_keeps {m : Nat} {s0 : State} (s : State) (hm : m &&& 773613 = m) :
    Keeps m s0 (intoHush s) ↔ Keeps m s0 s := keeps_of 773613 (by unfold intoHush; (repeat' split) <;> simp) hm

@[simp] theorem downTo_keeps {m : Nat} {s0 : State} (s : State) (hm : m &&& 248173 = m) :
    Keeps m s0 (downTo s) ↔ Keeps m s0 s := keeps_of 248173 (by unfold downTo; (repeat' split) <;> simp) hm

@[simp] theorem upTo_keeps {m : Nat} {s0 : State} (s : State) (hm : m &&& 773629 = m) :
    Keeps m s0 (upTo s) ↔ Keeps m s0 s := keeps_of 773629 (by unfold upTo; (repeat' split) <;> simp) hm

@[simp] theorem enableRule_apply_keeps {m : Nat} {s0 : State} (sub : Nat) (value : Bytes) (u0 : State) (hm : m &&& 773613 = m) :
    Keeps m s0 ((enableRule sub value).apply u0) ↔ Keeps m s0 u0 := keeps_of 773613 (by unfold enableRule; (repeat' split) <;> simp) hm

@[simp] theorem enableRule_after_keeps {m : Nat} {s0 : State} (sub : Nat) (value : Bytes) (u0 : State) (hm : m &&& 773613 = m) :
    Keeps m s0 ((enableRule sub value).after u0) ↔ Keeps m s0 u0 := keeps_of 773613 (by unfold enableRule; (repeat' split) <;> simp) hm

@[simp] theorem enableRule_onReject_keeps {m : Nat} {s0 : State} (sub : Nat) (value : Bytes) (u0 : State) (hm : m &&& 773613 = m) :
    Keeps m s0 ((enableRule sub value).onReject u0) ↔ Keeps m s0 u0 := keeps_of 773613 (by unfold enableRule; (repeat' split) <;> simp) hm

@[simp] theorem pllRule_apply_keeps {m : Nat} {s0 : State} (sub : Nat) (value : Bytes) (u0 : State) (hm : m &&& 1048559 = m) :
    Keeps m s0 ((pllRule sub value).apply u0) ↔ Keeps m s0 u0 := keeps_of 1048559 (by unfold pllRule; (repeat' split) <;> simp) hm

@[simp] theorem pllRule_after_keeps {m : Nat} {s0 : State} (sub : Nat) (value : Bytes) (u0 : State) (hm : m &&& 1048559 = m) :
    Keeps m s0 ((pllRule sub value).after u0) ↔ Keeps m s0 u0 := keeps_of 1048559 (by unfold pllRule; (repeat' split) <;> simp) hm

@[simp] theorem pllRule_onReject_keeps {m : Nat} {s0 : State} (sub : Nat) (value : Bytes) (u0 : State) (hm : m &&& 1048559 = m) :
    Keeps m s0 ((pllRule sub value).onReject u0) ↔ Keeps m s0 u0 := keeps_of 1048559 (by unfold pllRule; (repeat' split) <;> simp) hm

@[simp] theorem supplyFault_keeps {m : Nat} {s0 : State} (s : State) (hm : m &&& 18469 = m) :
    Keeps m s0 (supplyFault s) ↔ Keeps m s0 s := keeps_of 18469 (by unfold supplyFault; (repeat' split) <;> simp) hm

@[simp] theorem report_keeps {m : Nat} {s0 : State} (m0 : Limits) (s : State) (hm : m &&& 1048559 = m) :
    Keeps m s0 (report m0 s) ↔ Keeps m s0 s := keeps_of 1048559 (by unfold report; (repeat' split) <;> simp) hm

@[simp] theorem readStage_keeps {m : Nat} {s0 : State} (st : PmStatus) (s : State) (hm : m &&& 18469 = m) :
    Keeps m s0 (readStage st s) ↔ Keeps m s0 s := keeps_of 18469 (by unfold readStage; (repeat' split) <;> simp) hm

@[simp] theorem referenceRule_apply_keeps {m : Nat} {s0 : State} (value : Bytes) (u0 : State) (hm : m &&& 786415 = m) :
    Keeps m s0 ((referenceRule value).apply u0) ↔ Keeps m s0 u0 := keeps_of 786415 (by unfold referenceRule; (repeat' split) <;> simp) hm

@[simp] theorem referenceRule_after_keeps {m : Nat} {s0 : State} (value : Bytes) (u0 : State) (hm : m &&& 786415 = m) :
    Keeps m s0 ((referenceRule value).after u0) ↔ Keeps m s0 u0 := keeps_of 786415 (by unfold referenceRule; (repeat' split) <;> simp) hm

@[simp] theorem referenceRule_onReject_keeps {m : Nat} {s0 : State} (value : Bytes) (u0 : State) (hm : m &&& 786415 = m) :
    Keeps m s0 ((referenceRule value).onReject u0) ↔ Keeps m s0 u0 := keeps_of 786415 (by unfold referenceRule; (repeat' split) <;> simp) hm

@[simp] theorem assertReset_keeps {m : Nat} {s0 : State} (s : State) (hm : m &&& 35 = m) :
    Keeps m s0 (assertReset s) ↔ Keeps m s0 s := keeps_of 35 (by
  unfold assertReset
  extract_lets s1 dark
  have h1 : Keeps 35 s s1 :=
    keeps_foldl _ (fun u e => (endSession_keeps _ _ (by decide)).mpr (Keeps.refl _ _)) _ _ _ (Keeps.refl _ _)
  refine h1.trans ?_
  clear_value s1
  clear_value dark
  exact (keeps_of 35 (by unfold Keeps; and_intros <;> first | (intro _; rfl) | (intro h; exact absurd h (by decide))) (by decide)).mpr (Keeps.refl _ _)) hm

@[simp] theorem releaseReset_keeps {m : Nat} {s0 : State} (x : Straps) (s : State) (hm : m &&& 786399 = m) :
    Keeps m s0 (releaseReset x s) ↔ Keeps m s0 s := keeps_of 786399 (by unfold releaseReset; (repeat' split) <;> simp) hm

@[simp] theorem reconfigured_keeps {m : Nat} {s0 : State} (s : State) (hm : m &&& 774143 = m) :
    Keeps m s0 (reconfigured s) ↔ Keeps m s0 s := keeps_of 774143 (by unfold reconfigured; (repeat' split) <;> simp) hm

@[simp] theorem nodeRule_apply_keeps {m : Nat} {s0 : State} (sub : Nat) (value : Bytes) (u0 : State) (hm : m &&& 774127 = m) :
    Keeps m s0 ((nodeRule sub value).apply u0) ↔ Keeps m s0 u0 := keeps_of 774127 (by unfold nodeRule; (repeat' split) <;> simp) hm

@[simp] theorem nodeRule_after_keeps {m : Nat} {s0 : State} (sub : Nat) (value : Bytes) (u0 : State) (hm : m &&& 774127 = m) :
    Keeps m s0 ((nodeRule sub value).after u0) ↔ Keeps m s0 u0 := keeps_of 774127 (by unfold nodeRule; (repeat' split) <;> simp) hm

@[simp] theorem nodeRule_onReject_keeps {m : Nat} {s0 : State} (sub : Nat) (value : Bytes) (u0 : State) (hm : m &&& 774127 = m) :
    Keeps m s0 ((nodeRule sub value).onReject u0) ↔ Keeps m s0 u0 := keeps_of 774127 (by unfold nodeRule; (repeat' split) <;> simp) hm

@[simp] theorem portRule_apply_keeps {m : Nat} {s0 : State} (sub : Nat) (value : Bytes) (s : State) (u0 : State) (hm : m &&& 774127 = m) :
    Keeps m s0 ((portRule sub value s).apply u0) ↔ Keeps m s0 u0 := keeps_of 774127 (by unfold portRule; (repeat' split) <;> simp) hm

@[simp] theorem portRule_after_keeps {m : Nat} {s0 : State} (sub : Nat) (value : Bytes) (s : State) (u0 : State) (hm : m &&& 774127 = m) :
    Keeps m s0 ((portRule sub value s).after u0) ↔ Keeps m s0 u0 := keeps_of 774127 (by unfold portRule; (repeat' split) <;> simp) hm

@[simp] theorem portRule_onReject_keeps {m : Nat} {s0 : State} (sub : Nat) (value : Bytes) (s : State) (u0 : State) (hm : m &&& 774127 = m) :
    Keeps m s0 ((portRule sub value s).onReject u0) ↔ Keeps m s0 u0 := keeps_of 774127 (by unfold portRule; (repeat' split) <;> simp) hm

@[simp] theorem fabricRule_apply_keeps {m : Nat} {s0 : State} (idx : Nat) (sub : Nat) (value : Bytes) (s : State) (u0 : State) (hm : m &&& 774127 = m) :
    Keeps m s0 ((fabricRule idx sub value s).apply u0) ↔ Keeps m s0 u0 := keeps_of 774127 (by unfold fabricRule; (repeat' split) <;> simp) hm

@[simp] theorem fabricRule_after_keeps {m : Nat} {s0 : State} (idx : Nat) (sub : Nat) (value : Bytes) (s : State) (u0 : State) (hm : m &&& 774127 = m) :
    Keeps m s0 ((fabricRule idx sub value s).after u0) ↔ Keeps m s0 u0 := keeps_of 774127 (by unfold fabricRule; (repeat' split) <;> simp) hm

@[simp] theorem fabricRule_onReject_keeps {m : Nat} {s0 : State} (idx : Nat) (sub : Nat) (value : Bytes) (s : State) (u0 : State) (hm : m &&& 774127 = m) :
    Keeps m s0 ((fabricRule idx sub value s).onReject u0) ↔ Keeps m s0 u0 := keeps_of 774127 (by unfold fabricRule; (repeat' split) <;> simp) hm

@[simp] theorem exceptionRule_apply_keeps {m : Nat} {s0 : State} (value : Bytes) (s : State) (u0 : State) (hm : m &&& 1040383 = m) :
    Keeps m s0 ((exceptionRule value s).apply u0) ↔ Keeps m s0 u0 := keeps_of 1040383 (by unfold exceptionRule; (repeat' split) <;> simp) hm

@[simp] theorem exceptionRule_after_keeps {m : Nat} {s0 : State} (value : Bytes) (s : State) (u0 : State) (hm : m &&& 1040383 = m) :
    Keeps m s0 ((exceptionRule value s).after u0) ↔ Keeps m s0 u0 := keeps_of 1040383 (by unfold exceptionRule; (repeat' split) <;> simp) hm

@[simp] theorem exceptionRule_onReject_keeps {m : Nat} {s0 : State} (value : Bytes) (s : State) (u0 : State) (hm : m &&& 1040383 = m) :
    Keeps m s0 ((exceptionRule value s).onReject u0) ↔ Keeps m s0 u0 := keeps_of 1040383 (by unfold exceptionRule; (repeat' split) <;> simp) hm

@[simp] theorem coordRule_apply_keeps {m : Nat} {s0 : State} (sub : Nat) (value : Bytes) (s : State) (u0 : State) (hm : m &&& 1048559 = m) :
    Keeps m s0 ((coordRule sub value s).apply u0) ↔ Keeps m s0 u0 := keeps_of 1048559 (by unfold coordRule; (repeat' split) <;> simp) hm

@[simp] theorem coordRule_after_keeps {m : Nat} {s0 : State} (sub : Nat) (value : Bytes) (s : State) (u0 : State) (hm : m &&& 1048559 = m) :
    Keeps m s0 ((coordRule sub value s).after u0) ↔ Keeps m s0 u0 := keeps_of 1048559 (by unfold coordRule; (repeat' split) <;> simp) hm

@[simp] theorem coordRule_onReject_keeps {m : Nat} {s0 : State} (sub : Nat) (value : Bytes) (s : State) (u0 : State) (hm : m &&& 1048559 = m) :
    Keeps m s0 ((coordRule sub value s).onReject u0) ↔ Keeps m s0 u0 := keeps_of 1048559 (by unfold coordRule; (repeat' split) <;> simp) hm

@[simp] theorem baseRule_apply_keeps {m : Nat} {s0 : State} (value : Bytes) (u0 : State) (hm : m &&& 1048559 = m) :
    Keeps m s0 ((baseRule value).apply u0) ↔ Keeps m s0 u0 := keeps_of 1048559 (by unfold baseRule; (repeat' split) <;> simp) hm

@[simp] theorem baseRule_after_keeps {m : Nat} {s0 : State} (value : Bytes) (u0 : State) (hm : m &&& 1048559 = m) :
    Keeps m s0 ((baseRule value).after u0) ↔ Keeps m s0 u0 := keeps_of 1048559 (by unfold baseRule; (repeat' split) <;> simp) hm

@[simp] theorem baseRule_onReject_keeps {m : Nat} {s0 : State} (value : Bytes) (u0 : State) (hm : m &&& 1048559 = m) :
    Keeps m s0 ((baseRule value).onReject u0) ↔ Keeps m s0 u0 := keeps_of 1048559 (by unfold baseRule; (repeat' split) <;> simp) hm

@[simp] theorem neighbourRule_apply_keeps {m : Nat} {s0 : State} (sub : Nat) (value : Bytes) (s : State) (u0 : State) (hm : m &&& 1048559 = m) :
    Keeps m s0 ((neighbourRule sub value s).apply u0) ↔ Keeps m s0 u0 := keeps_of 1048559 (by unfold neighbourRule; (repeat' split) <;> simp) hm

@[simp] theorem neighbourRule_after_keeps {m : Nat} {s0 : State} (sub : Nat) (value : Bytes) (s : State) (u0 : State) (hm : m &&& 1048559 = m) :
    Keeps m s0 ((neighbourRule sub value s).after u0) ↔ Keeps m s0 u0 := keeps_of 1048559 (by unfold neighbourRule; (repeat' split) <;> simp) hm

@[simp] theorem neighbourRule_onReject_keeps {m : Nat} {s0 : State} (sub : Nat) (value : Bytes) (s : State) (u0 : State) (hm : m &&& 1048559 = m) :
    Keeps m s0 ((neighbourRule sub value s).onReject u0) ↔ Keeps m s0 u0 := keeps_of 1048559 (by unfold neighbourRule; (repeat' split) <;> simp) hm

@[simp] theorem overrideRule_apply_keeps {m : Nat} {s0 : State} (value : Bytes) (s : State) (u0 : State) (hm : m &&& 1040383 = m) :
    Keeps m s0 ((overrideRule value s).apply u0) ↔ Keeps m s0 u0 := keeps_of 1040383 (by unfold overrideRule; (repeat' split) <;> simp) hm

@[simp] theorem overrideRule_after_keeps {m : Nat} {s0 : State} (value : Bytes) (s : State) (u0 : State) (hm : m &&& 1040383 = m) :
    Keeps m s0 ((overrideRule value s).after u0) ↔ Keeps m s0 u0 := keeps_of 1040383 (by unfold overrideRule; (repeat' split) <;> simp) hm

@[simp] theorem overrideRule_onReject_keeps {m : Nat} {s0 : State} (value : Bytes) (s : State) (u0 : State) (hm : m &&& 1040383 = m) :
    Keeps m s0 ((overrideRule value s).onReject u0) ↔ Keeps m s0 u0 := keeps_of 1040383 (by unfold overrideRule; (repeat' split) <;> simp) hm

@[simp] theorem memberRule_apply_keeps {m : Nat} {s0 : State} (value : Bytes) (s : State) (u0 : State) (hm : m &&& 1040383 = m) :
    Keeps m s0 ((memberRule value s).apply u0) ↔ Keeps m s0 u0 := keeps_of 1040383 (by unfold memberRule; (repeat' split) <;> simp) hm

@[simp] theorem memberRule_after_keeps {m : Nat} {s0 : State} (value : Bytes) (s : State) (u0 : State) (hm : m &&& 1040383 = m) :
    Keeps m s0 ((memberRule value s).after u0) ↔ Keeps m s0 u0 := keeps_of 1040383 (by unfold memberRule; (repeat' split) <;> simp) hm

@[simp] theorem memberRule_onReject_keeps {m : Nat} {s0 : State} (value : Bytes) (s : State) (u0 : State) (hm : m &&& 1040383 = m) :
    Keeps m s0 ((memberRule value s).onReject u0) ↔ Keeps m s0 u0 := keeps_of 1040383 (by unfold memberRule; (repeat' split) <;> simp) hm

@[simp] theorem groupRule_apply_keeps {m : Nat} {s0 : State} (value : Bytes) (s : State) (u0 : State) (hm : m &&& 1040383 = m) :
    Keeps m s0 ((groupRule value s).apply u0) ↔ Keeps m s0 u0 := keeps_of 1040383 (by unfold groupRule; (repeat' split) <;> simp) hm

@[simp] theorem groupRule_after_keeps {m : Nat} {s0 : State} (value : Bytes) (s : State) (u0 : State) (hm : m &&& 1040383 = m) :
    Keeps m s0 ((groupRule value s).after u0) ↔ Keeps m s0 u0 := keeps_of 1040383 (by unfold groupRule; (repeat' split) <;> simp) hm

@[simp] theorem groupRule_onReject_keeps {m : Nat} {s0 : State} (value : Bytes) (s : State) (u0 : State) (hm : m &&& 1040383 = m) :
    Keeps m s0 ((groupRule value s).onReject u0) ↔ Keeps m s0 u0 := keeps_of 1040383 (by unfold groupRule; (repeat' split) <;> simp) hm

@[simp] theorem withHeld_keeps {m : Nat} {s0 : State} (l : List HeldCopy) (s : State) (hm : m &&& 1015807 = m) :
    Keeps m s0 (withHeld l s) ↔ Keeps m s0 s := keeps_of 1015807 (by unfold withHeld; (repeat' split) <;> simp) hm

@[simp] theorem spoilCopy_keeps {m : Nat} {s0 : State} (m0 : RemoteMsg) (s : State) (hm : m &&& 1015791 = m) :
    Keeps m s0 (spoilCopy m0 s) ↔ Keeps m s0 s := keeps_of 1015791 (by unfold spoilCopy; (repeat' split) <;> simp) hm

@[simp] theorem respondRemote_keeps {m : Nat} {s0 : State} (m0 : RemoteMsg) (block : Nat) (status : Nat) (data : Bytes) (s : State) (hm : m &&& 1040367 = m) :
    Keeps m s0 (respondRemote m0 block status data s) ↔ Keeps m s0 s := keeps_of 1040367 (by unfold respondRemote; (repeat' split) <;> simp) hm

@[simp] theorem answerRequest_keeps {m : Nat} {s0 : State} (m0 : RemoteMsg) (s : State) (hm : m &&& 1007083 = m) :
    Keeps m s0 (answerRequest m0 s) ↔ Keeps m s0 s := keeps_of 1007083 (by unfold answerRequest; (repeat' split) <;> simp) hm

@[simp] theorem storeRemote_keeps {m : Nat} {s0 : State} (m0 : RemoteMsg) (s : State) (hm : m &&& 1015791 = m) :
    Keeps m s0 (storeRemote m0 s) ↔ Keeps m s0 s := keeps_of 1015791 (by unfold storeRemote; (repeat' split) <;> simp) hm

@[simp] theorem askPull_keeps {m : Nat} {s0 : State} (sc : Score) (n : Nat) (p : Pull) (s : State) (hm : m &&& 1040367 = m) :
    Keeps m s0 (askPull sc n p s).2 ↔ Keeps m s0 s := keeps_of 1040367 (by
  induction n generalizing p s with
  | zero => simp [askPull]
  | succ n ih => unfold askPull; (repeat' split) <;> simp [ih]) hm

@[simp] theorem restoreFailed_keeps {m : Nat} {s0 : State} (p : Pull) (s : State) (hm : m &&& 950255 = m) :
    Keeps m s0 (restoreFailed p s) ↔ Keeps m s0 s := keeps_of 950255 (by unfold restoreFailed; (repeat' split) <;> simp) hm

@[simp] theorem repairFailed_keeps {m : Nat} {s0 : State} (sc : Score) (p : Pull) (s : State) (hm : m &&& 982951 = m) :
    Keeps m s0 (repairFailed sc p s) ↔ Keeps m s0 s := keeps_of 982951 (by unfold repairFailed; (repeat' split) <;> simp) hm

@[simp] theorem nextHolder_keeps {m : Nat} {s0 : State} (sc : Score) (p : Pull) (s : State) (hm : m &&& 941991 = m) :
    Keeps m s0 (nextHolder sc p s) ↔ Keeps m s0 s := keeps_of 941991 (by
  unfold nextHolder
  extract_lets r put' _ _ s1
  have h1 : Keeps 941991 s r.2 := by simp [r]
  have h2 : Keeps 941991 r.2 s1 := (keeps_set_res _ (by decide)).mpr (Keeps.refl _ _)
  refine h1.trans (h2.trans ?_)
  (repeat' split) <;> simp) hm

@[simp] theorem pullsPast_keeps {m : Nat} {s0 : State} (peer : Nat) (s : State) (hm : m &&& 941991 = m) :
    Keeps m s0 (pullsPast peer s) ↔ Keeps m s0 s := keeps_of 941991 (by
  refine (onScore_keeps _ _ ?_).mpr (Keeps.refl _ _)
  intro sc u
  refine keeps_foldl _ ?_ _ _ _ (Keeps.refl _ _)
  intro v e
  split <;> simp) hm

@[simp] theorem startRestore_keeps {m : Nat} {s0 : State} (s00 : Nat) (sc : Score) (s : State) (hm : m &&& 921515 = m) :
    Keeps m s0 (startRestore s00 sc s) ↔ Keeps m s0 s := keeps_of 921515 (by
  unfold startRestore
  extract_lets s1 _ _ _ _ s2 s3
  have h1 : Keeps 921515 s s1 := by simp [s1]
  have h2 : Keeps 921515 s1 s2 := (withRg_keeps _ _ _ _ (by decide)).mpr ((keeps_set_ex_col_res _ _ _ (by decide)).mpr (Keeps.refl _ _))
  have h3 : Keeps 921515 s2 s3 := by simp [s3]
  refine h1.trans (h2.trans (h3.trans ?_))
  refine keeps_foldl _ ?_ _ _ _ (Keeps.refl _ _)
  intro v p
  split
  · simp
  · extract_lets r
    have h4 : Keeps 921515 v r.2 := by simp [r]
    refine h4.trans ?_
    split
    · exact (keeps_set_res _ (by decide)).mpr (Keeps.refl _ _)
    · simp) hm

@[simp] theorem installRecord_keeps {m : Nat} {s0 : State} (s00 : Nat) (b : Bytes) (s : State) (hm : m &&& 1048495 = m) :
    Keeps m s0 (installRecord s00 b s) ↔ Keeps m s0 s := keeps_of 1048495 (by unfold installRecord; (repeat' split) <;> simp) hm

@[simp] theorem regather_keeps {m : Nat} {s0 : State} (s : State) (x : CollCtx) (hm : m &&& 990633 = m) :
    Keeps m s0 (regather s x) ↔ Keeps m s0 s := keeps_of 990633 (by unfold regather; simp) hm

@[simp] theorem useRestored_keeps {m : Nat} {s0 : State} (s00 : Nat) (sc : Score) (s : State) (hm : m &&& 990633 = m) :
    Keeps m s0 (useRestored s00 sc s) ↔ Keeps m s0 s := keeps_of 990633 (by unfold useRestored; (repeat' split) <;> simp) hm

@[simp] theorem restoreRule_apply_keeps {m : Nat} {s0 : State} (value : Bytes) (s : State) (u0 : State) (hm : m &&& 921515 = m) :
    Keeps m s0 ((restoreRule value s).apply u0) ↔ Keeps m s0 u0 := keeps_of 921515 (by unfold restoreRule; (repeat' split) <;> simp) hm

@[simp] theorem restoreRule_after_keeps {m : Nat} {s0 : State} (value : Bytes) (s : State) (u0 : State) (hm : m &&& 921515 = m) :
    Keeps m s0 ((restoreRule value s).after u0) ↔ Keeps m s0 u0 := keeps_of 921515 (by unfold restoreRule; (repeat' split) <;> simp) hm

@[simp] theorem restoreRule_onReject_keeps {m : Nat} {s0 : State} (value : Bytes) (s : State) (u0 : State) (hm : m &&& 921515 = m) :
    Keeps m s0 ((restoreRule value s).onReject u0) ↔ Keeps m s0 u0 := keeps_of 921515 (by unfold restoreRule; (repeat' split) <;> simp) hm

@[simp] theorem finishRepair_keeps {m : Nat} {s0 : State} (sc : Score) (p : Pull) (s : State) (hm : m &&& 1015273 = m) :
    Keeps m s0 (finishRepair sc p s) ↔ Keeps m s0 s := keeps_of 1015273 (by unfold finishRepair; (repeat' split) <;> simp) hm

@[simp] theorem takePulled_keeps {m : Nat} {s0 : State} (m0 : RemoteMsg) (sc : Score) (s : State) (hm : m &&& 925089 = m) :
    Keeps m s0 (takePulled m0 sc s) ↔ Keeps m s0 s := keeps_of 925089 (by unfold takePulled; dsimp only; (repeat' split) <;> simp [*]) hm

@[simp] theorem askRange_keeps {m : Nat} {s0 : State} (m0 : RemoteMsg) (s : State) (hm : m &&& 1040367 = m) :
    Keeps m s0 (askRange m0 s) ↔ Keeps m s0 s := keeps_of 1040367 (by unfold askRange; (repeat' split) <;> simp) hm

@[simp] theorem takeRange_keeps {m : Nat} {s0 : State} (m0 : RemoteMsg) (sc : Score) (s : State) (hm : m &&& 990633 = m) :
    Keeps m s0 (takeRange m0 sc s) ↔ Keeps m s0 s := keeps_of 990633 (by unfold takeRange; dsimp only; (repeat' split) <;> simp [*]) hm

@[simp] theorem takeResponse_keeps {m : Nat} {s0 : State} (m0 : RemoteMsg) (s : State) (hm : m &&& 925089 = m) :
    Keeps m s0 (takeResponse m0 s) ↔ Keeps m s0 s := keeps_of 925089 (by unfold takeResponse; (repeat' split) <;> simp) hm

@[simp] theorem startAbandon_keeps {m : Nat} {s0 : State} (s : State) (hm : m &&& 789933 = m) :
    Keeps m s0 (startAbandon s) ↔ Keeps m s0 s := keeps_of 789933 (by unfold startAbandon; (repeat' split) <;> simp) hm

@[simp] theorem abandonRule_apply_keeps {m : Nat} {s0 : State} (q : Req) (s : State) (u0 : State) (hm : m &&& 789933 = m) :
    Keeps m s0 ((abandonRule q s).apply u0) ↔ Keeps m s0 u0 := keeps_of 789933 (by unfold abandonRule; (repeat' split) <;> simp) hm

@[simp] theorem abandonRule_after_keeps {m : Nat} {s0 : State} (q : Req) (s : State) (u0 : State) (hm : m &&& 789933 = m) :
    Keeps m s0 ((abandonRule q s).after u0) ↔ Keeps m s0 u0 := keeps_of 789933 (by unfold abandonRule; (repeat' split) <;> simp) hm

@[simp] theorem abandonRule_onReject_keeps {m : Nat} {s0 : State} (q : Req) (s : State) (u0 : State) (hm : m &&& 789933 = m) :
    Keeps m s0 ((abandonRule q s).onReject u0) ↔ Keeps m s0 u0 := keeps_of 789933 (by unfold abandonRule; (repeat' split) <;> simp) hm

@[simp] theorem armRule_apply_keeps {m : Nat} {s0 : State} (value : Bytes) (s : State) (u0 : State) (hm : m &&& 1048559 = m) :
    Keeps m s0 ((armRule value s).apply u0) ↔ Keeps m s0 u0 := keeps_of 1048559 (by unfold armRule; (repeat' split) <;> simp) hm

@[simp] theorem armRule_after_keeps {m : Nat} {s0 : State} (value : Bytes) (s : State) (u0 : State) (hm : m &&& 1048559 = m) :
    Keeps m s0 ((armRule value s).after u0) ↔ Keeps m s0 u0 := keeps_of 1048559 (by unfold armRule; (repeat' split) <;> simp) hm

@[simp] theorem armRule_onReject_keeps {m : Nat} {s0 : State} (value : Bytes) (s : State) (u0 : State) (hm : m &&& 1048559 = m) :
    Keeps m s0 ((armRule value s).onReject u0) ↔ Keeps m s0 u0 := keeps_of 1048559 (by unfold armRule; (repeat' split) <;> simp) hm

@[simp] theorem scaleLoadRule_apply_keeps {m : Nat} {s0 : State} (value : Bytes) (s : State) (u0 : State) (hm : m &&& 1048511 = m) :
    Keeps m s0 ((scaleLoadRule value s).apply u0) ↔ Keeps m s0 u0 := keeps_of 1048511 (by unfold scaleLoadRule; (repeat' split) <;> simp) hm

@[simp] theorem scaleLoadRule_after_keeps {m : Nat} {s0 : State} (value : Bytes) (s : State) (u0 : State) (hm : m &&& 1048511 = m) :
    Keeps m s0 ((scaleLoadRule value s).after u0) ↔ Keeps m s0 u0 := keeps_of 1048511 (by unfold scaleLoadRule; (repeat' split) <;> simp) hm

@[simp] theorem scaleLoadRule_onReject_keeps {m : Nat} {s0 : State} (value : Bytes) (s : State) (u0 : State) (hm : m &&& 1048511 = m) :
    Keeps m s0 ((scaleLoadRule value s).onReject u0) ↔ Keeps m s0 u0 := keeps_of 1048511 (by unfold scaleLoadRule; (repeat' split) <;> simp) hm

@[simp] theorem startScaleRule_apply_keeps {m : Nat} {s0 : State} (value : Bytes) (s : State) (u0 : State) (hm : m &&& 1048559 = m) :
    Keeps m s0 ((startScaleRule value s).apply u0) ↔ Keeps m s0 u0 := keeps_of 1048559 (by unfold startScaleRule; (repeat' split) <;> simp) hm

@[simp] theorem startScaleRule_after_keeps {m : Nat} {s0 : State} (value : Bytes) (s : State) (u0 : State) (hm : m &&& 1048559 = m) :
    Keeps m s0 ((startScaleRule value s).after u0) ↔ Keeps m s0 u0 := keeps_of 1048559 (by unfold startScaleRule; (repeat' split) <;> simp) hm

@[simp] theorem startScaleRule_onReject_keeps {m : Nat} {s0 : State} (value : Bytes) (s : State) (u0 : State) (hm : m &&& 1048559 = m) :
    Keeps m s0 ((startScaleRule value s).onReject u0) ↔ Keeps m s0 u0 := keeps_of 1048559 (by unfold startScaleRule; (repeat' split) <;> simp) hm

@[simp] theorem ownRule_apply_keeps {m : Nat} {s0 : State} (q : Req) (idx : Nat) (sub : Nat) (value : Bytes) (codes : List Nat) (u0 : State) (hm : m &&& 917503 = m) :
    Keeps m s0 ((ownRule q idx sub value codes).apply u0) ↔ Keeps m s0 u0 := keeps_of 917503 (by unfold ownRule; (repeat' split) <;> simp) hm

@[simp] theorem ownRule_after_keeps {m : Nat} {s0 : State} (q : Req) (idx : Nat) (sub : Nat) (value : Bytes) (codes : List Nat) (u0 : State) (hm : m &&& 917503 = m) :
    Keeps m s0 ((ownRule q idx sub value codes).after u0) ↔ Keeps m s0 u0 := keeps_of 917503 (by unfold ownRule; (repeat' split) <;> simp) hm

@[simp] theorem ownRule_onReject_keeps {m : Nat} {s0 : State} (q : Req) (idx : Nat) (sub : Nat) (value : Bytes) (codes : List Nat) (u0 : State) (hm : m &&& 917503 = m) :
    Keeps m s0 ((ownRule q idx sub value codes).onReject u0) ↔ Keeps m s0 u0 := keeps_of 917503 (by unfold ownRule; (repeat' split) <;> simp) hm

@[simp] theorem bufferRule_apply_keeps {m : Nat} {s0 : State} (sub : Nat) (value : Bytes) (s : State) (u0 : State) (hm : m &&& 1048559 = m) :
    Keeps m s0 ((bufferRule sub value s).apply u0) ↔ Keeps m s0 u0 := keeps_of 1048559 (by unfold bufferRule; (repeat' split) <;> simp) hm

@[simp] theorem bufferRule_after_keeps {m : Nat} {s0 : State} (sub : Nat) (value : Bytes) (s : State) (u0 : State) (hm : m &&& 1048559 = m) :
    Keeps m s0 ((bufferRule sub value s).after u0) ↔ Keeps m s0 u0 := keeps_of 1048559 (by unfold bufferRule; (repeat' split) <;> simp) hm

@[simp] theorem bufferRule_onReject_keeps {m : Nat} {s0 : State} (sub : Nat) (value : Bytes) (s : State) (u0 : State) (hm : m &&& 1048559 = m) :
    Keeps m s0 ((bufferRule sub value s).onReject u0) ↔ Keeps m s0 u0 := keeps_of 1048559 (by unfold bufferRule; (repeat' split) <;> simp) hm

@[simp] theorem generatorRule_apply_keeps {m : Nat} {s0 : State} (sub : Nat) (value : Bytes) (u0 : State) (hm : m &&& 1048495 = m) :
    Keeps m s0 ((generatorRule sub value).apply u0) ↔ Keeps m s0 u0 := keeps_of 1048495 (by unfold generatorRule; (repeat' split) <;> simp) hm

@[simp] theorem generatorRule_after_keeps {m : Nat} {s0 : State} (sub : Nat) (value : Bytes) (u0 : State) (hm : m &&& 1048495 = m) :
    Keeps m s0 ((generatorRule sub value).after u0) ↔ Keeps m s0 u0 := keeps_of 1048495 (by unfold generatorRule; (repeat' split) <;> simp) hm

@[simp] theorem generatorRule_onReject_keeps {m : Nat} {s0 : State} (sub : Nat) (value : Bytes) (u0 : State) (hm : m &&& 1048495 = m) :
    Keeps m s0 ((generatorRule sub value).onReject u0) ↔ Keeps m s0 u0 := keeps_of 1048495 (by unfold generatorRule; (repeat' split) <;> simp) hm

@[simp] theorem scaleRule_apply_keeps {m : Nat} {s0 : State} (sub : Nat) (value : Bytes) (s : State) (u0 : State) (hm : m &&& 1048495 = m) :
    Keeps m s0 ((scaleRule sub value s).apply u0) ↔ Keeps m s0 u0 := keeps_of 1048495 (by unfold scaleRule; (repeat' split) <;> simp) hm

@[simp] theorem scaleRule_after_keeps {m : Nat} {s0 : State} (sub : Nat) (value : Bytes) (s : State) (u0 : State) (hm : m &&& 1048495 = m) :
    Keeps m s0 ((scaleRule sub value s).after u0) ↔ Keeps m s0 u0 := keeps_of 1048495 (by unfold scaleRule; (repeat' split) <;> simp) hm

@[simp] theorem scaleRule_onReject_keeps {m : Nat} {s0 : State} (sub : Nat) (value : Bytes) (s : State) (u0 : State) (hm : m &&& 1048495 = m) :
    Keeps m s0 ((scaleRule sub value s).onReject u0) ↔ Keeps m s0 u0 := keeps_of 1048495 (by unfold scaleRule; (repeat' split) <;> simp) hm

@[simp] theorem securingRule_apply_keeps {m : Nat} {s0 : State} (sub : Nat) (value : Bytes) (u0 : State) (hm : m &&& 1048559 = m) :
    Keeps m s0 ((securingRule sub value).apply u0) ↔ Keeps m s0 u0 := keeps_of 1048559 (by unfold securingRule; (repeat' split) <;> simp) hm

@[simp] theorem securingRule_after_keeps {m : Nat} {s0 : State} (sub : Nat) (value : Bytes) (u0 : State) (hm : m &&& 1048559 = m) :
    Keeps m s0 ((securingRule sub value).after u0) ↔ Keeps m s0 u0 := keeps_of 1048559 (by unfold securingRule; (repeat' split) <;> simp) hm

@[simp] theorem securingRule_onReject_keeps {m : Nat} {s0 : State} (sub : Nat) (value : Bytes) (u0 : State) (hm : m &&& 1048559 = m) :
    Keeps m s0 ((securingRule sub value).onReject u0) ↔ Keeps m s0 u0 := keeps_of 1048559 (by unfold securingRule; (repeat' split) <;> simp) hm

@[simp] theorem glazedRule_apply_keeps {m : Nat} {s0 : State} (sub : Nat) (value : Bytes) (u0 : State) (hm : m &&& 1048559 = m) :
    Keeps m s0 ((glazedRule sub value).apply u0) ↔ Keeps m s0 u0 := keeps_of 1048559 (by unfold glazedRule; (repeat' split) <;> simp) hm

@[simp] theorem glazedRule_after_keeps {m : Nat} {s0 : State} (sub : Nat) (value : Bytes) (u0 : State) (hm : m &&& 1048559 = m) :
    Keeps m s0 ((glazedRule sub value).after u0) ↔ Keeps m s0 u0 := keeps_of 1048559 (by unfold glazedRule; (repeat' split) <;> simp) hm

@[simp] theorem glazedRule_onReject_keeps {m : Nat} {s0 : State} (sub : Nat) (value : Bytes) (u0 : State) (hm : m &&& 1048559 = m) :
    Keeps m s0 ((glazedRule sub value).onReject u0) ↔ Keeps m s0 u0 := keeps_of 1048559 (by unfold glazedRule; (repeat' split) <;> simp) hm

@[simp] theorem regionRule_apply_keeps {m : Nat} {s0 : State} (sub : Nat) (value : Bytes) (u0 : State) (hm : m &&& 1048559 = m) :
    Keeps m s0 ((regionRule sub value).apply u0) ↔ Keeps m s0 u0 := keeps_of 1048559 (by unfold regionRule; (repeat' split) <;> simp) hm

@[simp] theorem regionRule_after_keeps {m : Nat} {s0 : State} (sub : Nat) (value : Bytes) (u0 : State) (hm : m &&& 1048559 = m) :
    Keeps m s0 ((regionRule sub value).after u0) ↔ Keeps m s0 u0 := keeps_of 1048559 (by unfold regionRule; (repeat' split) <;> simp) hm

@[simp] theorem regionRule_onReject_keeps {m : Nat} {s0 : State} (sub : Nat) (value : Bytes) (u0 : State) (hm : m &&& 1048559 = m) :
    Keeps m s0 ((regionRule sub value).onReject u0) ↔ Keeps m s0 u0 := keeps_of 1048559 (by unfold regionRule; (repeat' split) <;> simp) hm

@[simp] theorem recoveryRule_apply_keeps {m : Nat} {s0 : State} (q : Req) (sub : Nat) (value : Bytes) (s : State) (u0 : State) (hm : m &&& 789929 = m) :
    Keeps m s0 ((recoveryRule q sub value s).apply u0) ↔ Keeps m s0 u0 := keeps_of 789929 (by unfold recoveryRule; (repeat' split) <;> simp) hm

@[simp] theorem recoveryRule_after_keeps {m : Nat} {s0 : State} (q : Req) (sub : Nat) (value : Bytes) (s : State) (u0 : State) (hm : m &&& 789929 = m) :
    Keeps m s0 ((recoveryRule q sub value s).after u0) ↔ Keeps m s0 u0 := keeps_of 789929 (by unfold recoveryRule; (repeat' split) <;> simp) hm

@[simp] theorem recoveryRule_onReject_keeps {m : Nat} {s0 : State} (q : Req) (sub : Nat) (value : Bytes) (s : State) (u0 : State) (hm : m &&& 789929 = m) :
    Keeps m s0 ((recoveryRule q sub value s).onReject u0) ↔ Keeps m s0 u0 := keeps_of 789929 (by unfold recoveryRule; (repeat' split) <;> simp) hm

@[simp] theorem selectRule_apply_keeps {m : Nat} {s0 : State} (q : Req) (value : Bytes) (s : State) (u0 : State) (hm : m &&& 917503 = m) :
    Keeps m s0 ((selectRule q value s).apply u0) ↔ Keeps m s0 u0 := keeps_of 917503 (by unfold selectRule; (repeat' split) <;> simp) hm

@[simp] theorem selectRule_after_keeps {m : Nat} {s0 : State} (q : Req) (value : Bytes) (s : State) (u0 : State) (hm : m &&& 917503 = m) :
    Keeps m s0 ((selectRule q value s).after u0) ↔ Keeps m s0 u0 := keeps_of 917503 (by unfold selectRule; (repeat' split) <;> simp) hm

@[simp] theorem selectRule_onReject_keeps {m : Nat} {s0 : State} (q : Req) (value : Bytes) (s : State) (u0 : State) (hm : m &&& 917503 = m) :
    Keeps m s0 ((selectRule q value s).onReject u0) ↔ Keeps m s0 u0 := keeps_of 917503 (by unfold selectRule; (repeat' split) <;> simp) hm

@[simp] theorem ruleLow_apply_keeps {m : Nat} {s0 : State} (q : Req) (idx : Nat) (sub : Nat) (value : Bytes) (s : State) (u0 : State) (hm : m &&& 3105 = m) :
    Keeps m s0 ((ruleLow q idx sub value s).apply u0) ↔ Keeps m s0 u0 := keeps_of 3105 (by unfold ruleLow; (repeat' split) <;> simp) hm

@[simp] theorem ruleLow_after_keeps {m : Nat} {s0 : State} (q : Req) (idx : Nat) (sub : Nat) (value : Bytes) (s : State) (u0 : State) (hm : m &&& 3105 = m) :
    Keeps m s0 ((ruleLow q idx sub value s).after u0) ↔ Keeps m s0 u0 := keeps_of 3105 (by unfold ruleLow; (repeat' split) <;> simp) hm

@[simp] theorem ruleLow_onReject_keeps {m : Nat} {s0 : State} (q : Req) (idx : Nat) (sub : Nat) (value : Bytes) (s : State) (u0 : State) (hm : m &&& 3105 = m) :
    Keeps m s0 ((ruleLow q idx sub value s).onReject u0) ↔ Keeps m s0 u0 := keeps_of 3105 (by unfold ruleLow; (repeat' split) <;> simp) hm

@[simp] theorem ruleMid_apply_keeps {m : Nat} {s0 : State} (q : Req) (idx : Nat) (sub : Nat) (value : Bytes) (s : State) (u0 : State) (hm : m &&& 527785 = m) :
    Keeps m s0 ((ruleMid q idx sub value s).apply u0) ↔ Keeps m s0 u0 := keeps_of 527785 (by unfold ruleMid; (repeat' split) <;> simp) hm

@[simp] theorem ruleMid_after_keeps {m : Nat} {s0 : State} (q : Req) (idx : Nat) (sub : Nat) (value : Bytes) (s : State) (u0 : State) (hm : m &&& 527785 = m) :
    Keeps m s0 ((ruleMid q idx sub value s).after u0) ↔ Keeps m s0 u0 := keeps_of 527785 (by unfold ruleMid; (repeat' split) <;> simp) hm

@[simp] theorem ruleMid_onReject_keeps {m : Nat} {s0 : State} (q : Req) (idx : Nat) (sub : Nat) (value : Bytes) (s : State) (u0 : State) (hm : m &&& 527785 = m) :
    Keeps m s0 ((ruleMid q idx sub value s).onReject u0) ↔ Keeps m s0 u0 := keeps_of 527785 (by unfold ruleMid; (repeat' split) <;> simp) hm

@[simp] theorem ruleHigh_apply_keeps {m : Nat} {s0 : State} (q : Req) (idx : Nat) (sub : Nat) (value : Bytes) (s : State) (u0 : State) (hm : m &&& 51309 = m) :
    Keeps m s0 ((ruleHigh q idx sub value s).apply u0) ↔ Keeps m s0 u0 := keeps_of 51309 (by unfold ruleHigh; (repeat' split) <;> simp) hm

@[simp] theorem ruleHigh_after_keeps {m : Nat} {s0 : State} (q : Req) (idx : Nat) (sub : Nat) (value : Bytes) (s : State) (u0 : State) (hm : m &&& 51309 = m) :
    Keeps m s0 ((ruleHigh q idx sub value s).after u0) ↔ Keeps m s0 u0 := keeps_of 51309 (by unfold ruleHigh; (repeat' split) <;> simp) hm

@[simp] theorem ruleHigh_onReject_keeps {m : Nat} {s0 : State} (q : Req) (idx : Nat) (sub : Nat) (value : Bytes) (s : State) (u0 : State) (hm : m &&& 51309 = m) :
    Keeps m s0 ((ruleHigh q idx sub value s).onReject u0) ↔ Keeps m s0 u0 := keeps_of 51309 (by unfold ruleHigh; (repeat' split) <;> simp) hm

@[simp] theorem ruleOf_apply_keeps {m : Nat} {s0 : State} (q : Req) (idx : Nat) (sub : Nat) (value : Bytes) (s : State) (u0 : State) (hm : m &&& 2081 = m) :
    Keeps m s0 ((ruleOf q idx sub value s).apply u0) ↔ Keeps m s0 u0 := keeps_of 2081 (by unfold ruleOf; (repeat' split) <;> simp) hm

@[simp] theorem ruleOf_after_keeps {m : Nat} {s0 : State} (q : Req) (idx : Nat) (sub : Nat) (value : Bytes) (s : State) (u0 : State) (hm : m &&& 2081 = m) :
    Keeps m s0 ((ruleOf q idx sub value s).after u0) ↔ Keeps m s0 u0 := keeps_of 2081 (by unfold ruleOf; (repeat' split) <;> simp) hm

@[simp] theorem ruleOf_onReject_keeps {m : Nat} {s0 : State} (q : Req) (idx : Nat) (sub : Nat) (value : Bytes) (s : State) (u0 : State) (hm : m &&& 2081 = m) :
    Keeps m s0 ((ruleOf q idx sub value s).onReject u0) ↔ Keeps m s0 u0 := keeps_of 2081 (by unfold ruleOf; (repeat' split) <;> simp) hm

@[simp] theorem writeAny_keeps {m : Nat} {s0 : State} (q : Req) (hi : Nat) (idx : Nat) (sub : Nat) (value : Bytes) (s : State) (hm : m &&& 2081 = m) :
    Keeps m s0 (writeAny q hi idx sub value s) ↔ Keeps m s0 s := keeps_of 2081 (by unfold writeAny; (repeat' split) <;> simp) hm

@[simp] theorem readAny_keeps {m : Nat} {s0 : State} (q : Req) (hi : Nat) (idx : Nat) (sub : Nat) (len : Nat) (s : State) (hm : m &&& 851949 = m) :
    Keeps m s0 (readAny q hi idx sub len s) ↔ Keeps m s0 s := keeps_of 851949 (by unfold readAny; (repeat' split) <;> simp) hm

@[simp] theorem beginBlockRead_keeps {m : Nat} {s0 : State} (q : Req) (idx : Nat) (sub : Nat) (s : State) (hm : m &&& 851965 = m) :
    Keeps m s0 (beginBlockRead q idx sub s) ↔ Keeps m s0 s := keeps_of 851965 (by unfold beginBlockRead; (repeat' split) <;> simp) hm

@[simp] theorem beginBlockWrite_keeps {m : Nat} {s0 : State} (q : Req) (idx : Nat) (sub : Nat) (len : Nat) (s : State) (hm : m &&& 851949 = m) :
    Keeps m s0 (beginBlockWrite q idx sub len s) ↔ Keeps m s0 s := keeps_of 851949 (by unfold beginBlockWrite; (repeat' split) <;> simp) hm

@[simp] theorem blockWriteAny_keeps {m : Nat} {s0 : State} (q : Req) (idx : Nat) (sub : Nat) (len : Nat) (s : State) (hm : m &&& 851949 = m) :
    Keeps m s0 (blockWriteAny q idx sub len s) ↔ Keeps m s0 s := keeps_of 851949 (by unfold blockWriteAny; (repeat' split) <;> simp) hm

@[simp] theorem leaveProgress_keeps {m : Nat} {s0 : State} (q : Req) (s : State) (hm : m &&& 917503 = m) :
    Keeps m s0 (leaveProgress q s) ↔ Keeps m s0 s := keeps_of 917503 (by unfold leaveProgress; (repeat' split) <;> simp) hm

@[simp] theorem asAccepted_keeps {m : Nat} {s0 : State} (t0 : Transfer) (s : State) (hm : m &&& 1040367 = m) :
    Keeps m s0 (asAccepted t0 s) ↔ Keeps m s0 s := keeps_of 1040367 (by unfold asAccepted; (repeat' split) <;> simp) hm

@[simp] theorem finishBlockWrite_keeps {m : Nat} {s0 : State} (t : Transfer) (s : State) (hm : m &&& 2081 = m) :
    Keeps m s0 (finishBlockWrite t s) ↔ Keeps m s0 s := keeps_of 2081 (by
  unfold finishBlockWrite
  extract_lets q s1 s2 value old r code
  have h1 : Keeps 2081 s s1 := by simp [s1]
  refine h1.trans ?_
  split
  · simp
  · have h2 : Keeps 2081 s1 s2 := by simp [s2]
    refine h2.trans ?_
    split
    · exact acceptWrite_keeps _ _ _ _ _ _ (by decide) (fun u => by simp [r]) (fun u => by simp [r])
    · have h3 : Keeps 2081 s2 (r.onReject s2) := by simp [r]
      exact h3.trans (by simp)) hm

@[simp] theorem failBlockWrite_keeps {m : Nat} {s0 : State} (t0 : Transfer) (s : State) (hm : m &&& 851949 = m) :
    Keeps m s0 (failBlockWrite t0 s) ↔ Keeps m s0 s := keeps_of 851949 (by unfold failBlockWrite; (repeat' split) <;> simp) hm

@[simp] theorem writeBlockReceived_keeps {m : Nat} {s0 : State} (b : Block) (s : State) (hm : m &&& 2081 = m) :
    Keeps m s0 (writeBlockReceived b s) ↔ Keeps m s0 s := keeps_of 2081 (by unfold writeBlockReceived; (repeat' split) <;> simp) hm

@[simp] theorem mapOut_keeps {m : Nat} {s0 : State} (peer : Nat) (num : Nat) (f : OutCtx → OutCtx) (s : State) (hm : m &&& 1040383 = m) :
    Keeps m s0 (mapOut peer num f s) ↔ Keeps m s0 s := keeps_of 1040383 (by unfold mapOut; (repeat' split) <;> simp) hm

@[simp] theorem mapIn_keeps {m : Nat} {s0 : State} (peer : Nat) (num : Nat) (f : List Lease → List Lease) (s : State) (hm : m &&& 1040383 = m) :
    Keeps m s0 (mapIn peer num f s) ↔ Keeps m s0 s := keeps_of 1040383 (by unfold mapIn; (repeat' split) <;> simp) hm

@[simp] theorem takeGrant_keeps {m : Nat} {s0 : State} (m0 : LeaseMsg) (s : State) (hm : m &&& 1040383 = m) :
    Keeps m s0 (takeGrant m0 s) ↔ Keeps m s0 s := keeps_of 1040383 (by unfold takeGrant; (repeat' split) <;> simp) hm

@[simp] theorem takeRenewal_keeps {m : Nat} {s0 : State} (m0 : LeaseMsg) (s : State) (hm : m &&& 1040367 = m) :
    Keeps m s0 (takeRenewal m0 s) ↔ Keeps m s0 s := keeps_of 1040367 (by unfold takeRenewal; (repeat' split) <;> simp) hm

@[simp] theorem takeRenewalAck_keeps {m : Nat} {s0 : State} (m0 : LeaseMsg) (s : State) (hm : m &&& 1040383 = m) :
    Keeps m s0 (takeRenewalAck m0 s) ↔ Keeps m s0 s := keeps_of 1040383 (by unfold takeRenewalAck; (repeat' split) <;> simp) hm

@[simp] theorem takeReturn_keeps {m : Nat} {s0 : State} (m0 : LeaseMsg) (s : State) (hm : m &&& 990633 = m) :
    Keeps m s0 (takeReturn m0 s) ↔ Keeps m s0 s := keeps_of 990633 (by unfold takeReturn; (repeat' split) <;> simp) hm

@[simp] theorem ifTagged_keeps {m : Nat} {s0 : State} (tag : Nat) (f : State → State) (s : State) (hm : m &&& 1048559 = m)
    (h : ∀ u, Keeps m u (f u)) : Keeps m s0 (ifTagged tag f s) ↔ Keeps m s0 s := by
  unfold ifTagged
  split
  · exact keeps_of m (h _) (Nat.and_self m)
  · simp [hm]

@[simp] theorem lateExpiry_keeps {m : Nat} {s0 : State} (x : LateLease) (s : State) (hm : m &&& 1040367 = m) :
    Keeps m s0 (lateExpiry x s) ↔ Keeps m s0 s := keeps_of 1040367 (by unfold lateExpiry; (repeat' split) <;> simp) hm

@[simp] theorem reclaim_keeps {m : Nat} {s0 : State} (peer : Nat) (ctx : Nat) (s : State) (hm : m &&& 1040383 = m) :
    Keeps m s0 (reclaim peer ctx s) ↔ Keeps m s0 s := keeps_of 1040383 (by unfold reclaim; (repeat' split) <;> simp) hm

@[simp] theorem takeToken_keeps {m : Nat} {s0 : State} (m0 : TokenMsg) (s : State) (hm : m &&& 1048495 = m) :
    Keeps m s0 (takeToken m0 s) ↔ Keeps m s0 s := keeps_of 1048495 (by unfold takeToken; (repeat' split) <;> simp) hm

@[simp] theorem returnDropped_keeps {m : Nat} {s0 : State} (x : Carried) (s : State) (hm : m &&& 990633 = m) :
    Keeps m s0 (returnDropped x s) ↔ Keeps m s0 s := keeps_of 990633 (by unfold returnDropped; dsimp only; (repeat' split) <;> simp [*]) hm

@[simp] theorem dropParcel_keeps {m : Nat} {s0 : State} (x : Carried) (key : Nat) (value : Nat) (s : State) (hm : m &&& 921001 = m) :
    Keeps m s0 (dropParcel x key value s) ↔ Keeps m s0 s := keeps_of 921001 (by unfold dropParcel; (repeat' split) <;> simp) hm

@[simp] theorem noPlane_keeps {m : Nat} {s0 : State} (k : Nat) (t1 : Nat) (s : State) (hm : m &&& 974831 = m) :
    Keeps m s0 (noPlane k t1 s) ↔ Keeps m s0 s := keeps_of 974831 (by unfold noPlane; (repeat' split) <;> simp) hm

@[simp] theorem bindParcel_keeps {m : Nat} {s0 : State} (x : Carried) (h1 : Hop) (lane : Nat × Nat) (s : State) (hm : m &&& 1036269 = m) :
    Keeps m s0 (bindParcel x h1 lane s) ↔ Keeps m s0 s := keeps_of 1036269 (by unfold bindParcel; (repeat' split) <;> simp) hm

theorem tryHop_keeps (x : Carried) (h : Hop) (s t : State) (e : tryHop x h s = some t) : Keeps 1036269 s t := by
  unfold tryHop at e
  simp only [Option.map_eq_some_iff] at e
  obtain ⟨lane, _, rfl⟩ := e
  simp

@[simp] theorem withQueue_keeps {m : Nat} {s0 : State} (cls : Nat) (q : List Carried) (s : State) (hm : m &&& 1040383 = m) :
    Keeps m s0 (withQueue cls q s) ↔ Keeps m s0 s := keeps_of 1040383 (by unfold withQueue; (repeat' split) <;> simp) hm

@[simp] theorem forwardOne_keeps {m : Nat} {s0 : State} (cls : Nat) (kept : List Carried) (heads : List (Option (Nat × Nat × Nat)))
    (l : List Carried) (s : State) (hm : m &&& 921001 = m) :
    Keeps m s0 (forwardOne cls kept heads l s) ↔ Keeps m s0 s := keeps_of 921001 (by
  induction l generalizing kept heads s with
  | nil => simp [forwardOne]
  | cons x rest ih =>
    unfold forwardOne
    extract_lets q route
    split
    · exact ih _ _ _
    · clear_value route
      cases route with
      | deliver => simp
      | discard k v => simp
      | hop h =>
        dsimp only
        split
        · rename_i t ht
          have h1 := tryHop_keeps _ _ _ _ ht
          exact Keeps.trans (by simp) (h1.mono (by decide))
        · refine Keeps.trans ?_ (ih _ _ _)
          (repeat' split) <;> simp) hm

@[simp] theorem badAddress_keeps {m : Nat} {s0 : State} (p : Nat) (c : Nat) (h2 : FlitHead) (s : State) (hm : m &&& 970733 = m) :
    Keeps m s0 (badAddress p c h2 s) ↔ Keeps m s0 s := keeps_of 970733 (by unfold badAddress; (repeat' split) <;> simp) hm

@[simp] theorem nakLane_keeps {m : Nat} {s0 : State} (p : Nat) (c : Nat) (s : State) (hm : m &&& 1044461 = m) :
    Keeps m s0 (nakLane p c s) ↔ Keeps m s0 s := keeps_of 1044461 (by unfold nakLane; (repeat' split) <;> simp) hm

@[simp] theorem takeFlitCredit_keeps {m : Nat} {s0 : State} (p : Nat) (c : Nat) (h2 : FlitHead) (s : State) (hm : m &&& 1036269 = m) :
    Keeps m s0 (takeFlitCredit p c h2 s) ↔ Keeps m s0 s := keeps_of 1036269 (by unfold takeFlitCredit; (repeat' split) <;> simp) hm

@[simp] theorem takeFlitWord_keeps {m : Nat} {s0 : State} (h0 : FlitHead) (area : Bytes) (s : State) (hm : m &&& 921001 = m) :
    Keeps m s0 (takeFlitWord h0 area s) ↔ Keeps m s0 s := keeps_of 921001 (by unfold takeFlitWord; (repeat' split) <;> simp) hm

@[simp] theorem acceptParcel_keeps {m : Nat} {s0 : State} (s : State) (x : Carried) (hm : m &&& 1036271 = m) :
    Keeps m s0 (acceptParcel s x) ↔ Keeps m s0 s := keeps_of 1036271 (by unfold acceptParcel; (repeat' split) <;> simp) hm

@[simp] theorem takeParcels_keeps {m : Nat} {s0 : State} (p : Nat) (c : Nat) (h2 : FlitHead) (area : Bytes) (s : State) (hm : m &&& 1036271 = m) :
    Keeps m s0 (takeParcels p c h2 area s) ↔ Keeps m s0 s := keeps_of 1036271 (by unfold takeParcels; (repeat' split) <;> simp) hm

@[simp] theorem takeDataFlit_keeps {m : Nat} {s0 : State} (p : Nat) (c : Nat) (h2 : FlitHead) (area : Bytes) (s : State) (hm : m &&& 921001 = m) :
    Keeps m s0 (takeDataFlit p c h2 area s) ↔ Keeps m s0 s := keeps_of 921001 (by unfold takeDataFlit; dsimp only; (repeat' split) <;> simp [*]) hm

@[simp] theorem resendFlits_keeps {m : Nat} {s0 : State} (p : Nat) (c : Nat) (s : State) (hm : m &&& 970733 = m) :
    Keeps m s0 (resendFlits p c s) ↔ Keeps m s0 s := keeps_of 970733 (by unfold resendFlits; (repeat' split) <;> simp) hm

@[simp] theorem giveBack_keeps {m : Nat} {s0 : State} (c : Option InCtx) (p : Parcel) (s : State) (hm : m &&& 1040367 = m) :
    Keeps m s0 (giveBack c p s) ↔ Keeps m s0 s := keeps_of 1040367 (by unfold giveBack; (repeat' split) <;> simp) hm

@[simp] theorem badTagParcel_keeps {m : Nat} {s0 : State} (p : Parcel) (s : State) (hm : m &&& 920993 = m) :
    Keeps m s0 (badTagParcel p s) ↔ Keeps m s0 s := keeps_of 920993 (by unfold badTagParcel; (repeat' split) <;> simp) hm

@[simp] theorem takeControl_keeps {m : Nat} {s0 : State} (p : Parcel) (s : State) (hm : m &&& 921001 = m) :
    Keeps m s0 (takeControl p s) ↔ Keeps m s0 s := keeps_of 921001 (by unfold takeControl; (repeat' split) <;> simp) hm

@[simp] theorem takeData_keeps {m : Nat} {s0 : State} (c : InCtx) (p : Parcel) (s : State) (hm : m &&& 920993 = m) :
    Keeps m s0 (takeData c p s) ↔ Keeps m s0 s := keeps_of 920993 (by unfold takeData; (repeat' split) <;> simp) hm

@[simp] theorem noContext_keeps {m : Nat} {s0 : State} (p : Parcel) (s : State) (hm : m &&& 1048559 = m) :
    Keeps m s0 (noContext p s) ↔ Keeps m s0 s := keeps_of 1048559 (by unfold noContext; (repeat' split) <;> simp) hm

@[simp] theorem deliverParcel_keeps {m : Nat} {s0 : State} (p : Parcel) (s : State) (hm : m &&& 920993 = m) :
    Keeps m s0 (deliverParcel p s) ↔ Keeps m s0 s := keeps_of 920993 (by unfold deliverParcel; dsimp only; (repeat' split) <;> simp [*]) hm

@[simp] theorem tick_keeps {m : Nat} {s0 : State} (s : State) (hm : m &&& 3105 = m) :
    Keeps m s0 (tick s) ↔ Keeps m s0 s := keeps_of 3105 (by unfold tick; (repeat' split) <;> simp) hm

end Sys2Proof.Machine
end

