-- ==== Sys2Proof/Laws/Canonical.lean ====
section
/-! SUPPORT. The canonical form of registers and memory (State.canonical), kept by every operation of the machine.
`Canon` is the same property with its clauses named. -/

namespace Sys2Proof.Machine

/-- A listing with rising numbers. -/
def Rise {α : Type} (l : List (Nat × α)) : Prop := rising l

/-- The bytes of line k, each once and in the line. -/
def LineOk (k : Nat) (l : List Host.Cell) : Prop := Rise l ∧ ∀ b ∈ l, b.1 / 256 = k

/-- The memory-side caches' lines in canonical form. -/
def MscOk (l : List (Nat × CacheLine)) : Prop := Rise l ∧ ∀ p ∈ l, LineOk p.1 p.2.data

/-- The write-combining entries in canonical form. -/
def WcOk (l : List WcEntry) : Prop := (∀ e ∈ l, LineOk e.line e.data) ∧ l.Pairwise (fun a b => a.line ≠ b.line)

/-- Waiting writes lie within one line each. -/
def WaitOk (l : List WaitingReq) : Prop := ∀ w ∈ l, w.write = true → w.req.addr % 256 + w.data.length ≤ 256

theorem lookup_mem {α : Type} (k : Nat) (l : List (Nat × α)) (v : α) (h : lookup k l = some v) : (k, v) ∈ l := by
  induction l with
  | nil => cases h
  | cons p t ih =>
    simp only [lookup] at h
    split at h
    · rename_i e; cases h; rw [← e]; exact List.mem_cons_self ..
    · exact List.mem_cons_of_mem _ (ih h)

/-- `State.canonical`, its clauses named. -/
structure Canon (s : State) : Prop where
  regs : Rise s.regs
  cells : Rise s.mem.cells
  msc : MscOk s.mem.msc
  wc : WcOk s.mem.wc
  waits : WaitOk s.mem.waiting

theorem canon_iff (s : State) : Canon s ↔ s.canonical :=
  ⟨fun h => ⟨h.regs, h.cells, h.msc, h.wc, h.waits⟩, fun h => ⟨h.1, h.2.1, h.2.2.1, h.2.2.2.1, h.2.2.2.2⟩⟩

@[simp] theorem rise_nil {α : Type} : Rise ([] : List (Nat × α)) := List.Pairwise.nil

@[simp] theorem rise_filter {α : Type} (f : Nat × α → Bool) (l : List (Nat × α)) (h : Rise l) : Rise (l.filter f) := rising_filter f l h

@[simp] theorem rise_put {α : Type} (k : Nat) (v : α) (l : List (Nat × α)) (h : Rise l) : Rise (put k v l) := rising_put k v l h

@[simp] theorem rise_set {α : Type} [DecidableEq α] (d : α) (k : Nat) (v : α) (l : List (Nat × α)) (h : Rise l) : Rise (set_ d k v l) := rising_set d k v l h

@[simp] theorem rise_without {α : Type} (k : Nat) (l : List (Nat × α)) (h : Rise l) : Rise (without k l) := rising_without k l h

@[simp] theorem rise_outside (a n : Nat) (l : List Host.Cell) (h : Rise l) : Rise (outside a n l) := rising_filter _ l h

theorem cellsFrom_ge (a : Nat) (d : Bytes) : ∀ p ∈ cellsFrom a d, a ≤ p.1 ∧ p.1 < a + d.length := by
  induction d generalizing a with
  | nil => simp [cellsFrom]
  | cons b t ih =>
    intro p hp
    simp only [cellsFrom, List.mem_cons] at hp
    rcases hp with rfl | hp
    · simp
    · have := ih (a + 1) p hp
      simp only [List.length_cons]; omega

theorem rise_cellsFrom (a : Nat) (d : Bytes) : Rise (cellsFrom a d) := by
  induction d generalizing a with
  | nil => exact rise_nil
  | cons b t ih =>
    refine List.pairwise_cons.mpr ⟨?_, ih (a + 1)⟩
    intro p hp
    have := cellsFrom_ge (a + 1) t p hp
    simp only; omega

@[simp] theorem rise_storeCells (a : Nat) (d : Bytes) (l : List Host.Cell) (h : Rise l) : Rise (storeCells a d l) := by
  unfold storeCells Rise rising
  rw [List.append_assoc, List.pairwise_append, List.pairwise_append]
  refine ⟨rising_filter _ l h, ⟨rise_cellsFrom a d, rising_filter _ l h, ?_⟩, ?_⟩
  · intro p hp q hq
    have h1 := cellsFrom_ge a d p hp
    have h2 := of_decide_eq_true (List.mem_filter.mp hq).2
    omega
  · intro p hp q hq
    have h1 := of_decide_eq_true (List.mem_filter.mp hp).2
    rcases List.mem_append.mp hq with hq | hq
    · have h2 := cellsFrom_ge a d q hq
      omega
    · have h2 := of_decide_eq_true (List.mem_filter.mp hq).2
      omega

@[simp] theorem rise_foldl_put {α : Type} (d l : List (Nat × α)) (h : Rise l) : Rise (d.foldl (fun c p => put p.1 p.2 c) l) := by
  induction d generalizing l with
  | nil => exact h
  | cons p t ih => exact ih _ (rise_put _ _ _ h)

theorem LineOk.nil (k : Nat) : LineOk k [] := ⟨rise_nil, by simp⟩

@[simp] theorem lineOk_nil (k : Nat) : LineOk k [] := LineOk.nil k

@[simp] theorem lineOk_filter (k : Nat) (f : Host.Cell → Bool) (l : List Host.Cell) (h : LineOk k l) : LineOk k (l.filter f) :=
  ⟨rise_filter f l h.1, fun b hb => h.2 b (List.mem_of_mem_filter hb)⟩

@[simp] theorem lineOk_outside (k a n : Nat) (l : List Host.Cell) (h : LineOk k l) : LineOk k (outside a n l) := lineOk_filter k _ l h

theorem lineOk_storeCells (a : Nat) (d : Bytes) (l : List Host.Cell) (h : LineOk (a / 256) l) (hd : a % 256 + d.length ≤ 256) :
    LineOk (a / 256) (storeCells a d l) := by
  refine ⟨rise_storeCells a d l h.1, fun b hb => ?_⟩
  unfold storeCells at hb
  rcases List.mem_append.mp hb with hb | hb
  · rcases List.mem_append.mp hb with hb | hb
    · exact h.2 b (List.mem_of_mem_filter hb)
    · have := cellsFrom_ge a d b hb
      omega
  · exact h.2 b (List.mem_of_mem_filter hb)

@[simp] theorem mscOk_nil : MscOk [] := ⟨rise_nil, by simp⟩

@[simp] theorem wcOk_nil : WcOk [] := ⟨by simp, List.Pairwise.nil⟩

@[simp] theorem waitOk_nil : WaitOk [] := by simp [WaitOk]

@[simp] theorem mscOk_filter (f : Nat × CacheLine → Bool) (l : List (Nat × CacheLine)) (h : MscOk l) : MscOk (l.filter f) :=
  ⟨rise_filter f l h.1, fun p hp => h.2 p (List.mem_of_mem_filter hp)⟩

@[simp] theorem wcOk_filter (f : WcEntry → Bool) (l : List WcEntry) (h : WcOk l) : WcOk (l.filter f) :=
  ⟨fun p hp => h.1 p (List.mem_of_mem_filter hp), h.2.filter f⟩

theorem mscOk_map (f : Nat × CacheLine → Nat × CacheLine) (l : List (Nat × CacheLine)) (h : MscOk l)
    (hf : ∀ p, (f p).1 = p.1) (k : ∀ p, LineOk p.1 p.2.data → LineOk p.1 (f p).2.data) : MscOk (l.map f) := by
  refine ⟨List.pairwise_map.mpr (h.1.imp (fun hab => by rw [hf, hf]; exact hab)), fun p hp => ?_⟩
  obtain ⟨q, hq, rfl⟩ := List.mem_map.mp hp
  rw [hf]
  exact k q (h.2 q hq)

theorem wcOk_map (f : WcEntry → WcEntry) (l : List WcEntry) (h : WcOk l) (hf : ∀ e, (f e).line = e.line)
    (k : ∀ e, LineOk e.line e.data → LineOk e.line (f e).data) : WcOk (l.map f) := by
  refine ⟨fun p hp => ?_, List.pairwise_map.mpr (h.2.imp (fun hab => by rw [hf, hf]; exact hab))⟩
  obtain ⟨q, hq, rfl⟩ := List.mem_map.mp hp
  rw [hf]
  exact k q (h.1 q hq)

theorem wcOk_append (l : List WcEntry) (e : WcEntry) (h : WcOk l) (k : LineOk e.line e.data) (hn : ∀ x ∈ l, x.line ≠ e.line) :
    WcOk (l ++ [e]) := by
  refine ⟨fun x hx => ?_, List.pairwise_append.mpr ⟨h.2, List.pairwise_singleton _ _, fun x hx y hy => ?_⟩⟩
  · rcases List.mem_append.mp hx with hx | hx
    · exact h.1 x hx
    · rw [List.mem_singleton.mp hx]; exact k
  · rw [List.mem_singleton.mp hy]; exact hn x hx

@[simp] theorem mscOk_put (k : Nat) (v : CacheLine) (l : List (Nat × CacheLine)) (h : MscOk l) (hv : LineOk k v.data) : MscOk (put k v l) := by
  refine ⟨rise_put k v l h.1, fun p hp => ?_⟩
  rcases (mem_insertKey k v _ p).mp hp with rfl | hp
  · exact hv
  · exact h.2 p (List.mem_of_mem_filter hp)

theorem lookup_mscOk (k : Nat) (l : List (Nat × CacheLine)) (v : CacheLine) (h : MscOk l) (hk : lookup k l = some v) : LineOk k v.data :=
  h.2 (k, v) (lookup_mem k l v hk)

@[simp] theorem waitOk_append (l : List WaitingReq) (w : WaitingReq) (h : WaitOk l)
    (k : w.write = true → w.req.addr % 256 + w.data.length ≤ 256) : WaitOk (l ++ [w]) := by
  intro x hx
  rcases List.mem_append.mp hx with hx | hx
  · exact h x hx
  · rw [List.mem_singleton.mp hx]; exact k

@[simp] theorem canon_wait (s : State) (h : Canon s) : WaitOk s.mem.waiting := h.waits

@[simp] theorem canon_regs (s : State) (h : Canon s) : Rise s.regs := h.regs

@[simp] theorem canon_cells (s : State) (h : Canon s) : Rise s.mem.cells := h.cells

@[simp] theorem canon_msc (s : State) (h : Canon s) : MscOk s.mem.msc := h.msc

@[simp] theorem canon_wc (s : State) (h : Canon s) : WcOk s.mem.wc := h.wc

theorem canon_of_keeps {s t : State} (k : Keeps 528 s t) (h : Canon s) : Canon t := by
  have h1 : t.regs = s.regs := by unfold Keeps at k; exact k.2.2.2.2.1 (by decide)
  have h2 : t.mem = s.mem := by unfold Keeps at k; exact k.2.2.2.2.2.2.2.2.2.1 (by decide)
  exact ⟨h1 ▸ h.regs, h2 ▸ h.cells, h2 ▸ h.msc, h2 ▸ h.wc, h2 ▸ h.waits⟩

@[simp] theorem canon_ite (c : Prop) [Decidable c] (a b : State) : Canon (if c then a else b) ↔ (if c then Canon a else Canon b) := by
  split <;> rfl

@[simp] theorem canon_foldl {α : Type} (f : State → α → State) (h : ∀ u e, Canon u → Canon (f u e)) (l : List α) (s : State)
    (hs : Canon s) : Canon (l.foldl f s) := by
  induction l generalizing s with
  | nil => exact hs
  | cons a t ih => exact ih _ (h s a hs)

@[simp] theorem canon_set_pending {u : State} (v0) (h : Canon u) :
    Canon (State.mk v0 u.sent u.freeCtr u.dev u.regs u.straps u.ex u.sites u.siteMap u.mem u.links u.dieErrors u.pho u.fab u.col u.res u.ring u.sec u.pwr u.test) := ⟨h.regs, h.cells, h.msc, h.wc, h.waits⟩

@[simp] theorem canon_set_sent {u : State} (v0) (h : Canon u) :
    Canon (State.mk u.pending v0 u.freeCtr u.dev u.regs u.straps u.ex u.sites u.siteMap u.mem u.links u.dieErrors u.pho u.fab u.col u.res u.ring u.sec u.pwr u.test) := ⟨h.regs, h.cells, h.msc, h.wc, h.waits⟩

@[simp] theorem canon_set_freeCtr {u : State} (v0) (h : Canon u) :
    Canon (State.mk u.pending u.sent v0 u.dev u.regs u.straps u.ex u.sites u.siteMap u.mem u.links u.dieErrors u.pho u.fab u.col u.res u.ring u.sec u.pwr u.test) := ⟨h.regs, h.cells, h.msc, h.wc, h.waits⟩

@[simp] theorem canon_set_dev {u : State} (v0) (h : Canon u) :
    Canon (State.mk u.pending u.sent u.freeCtr v0 u.regs u.straps u.ex u.sites u.siteMap u.mem u.links u.dieErrors u.pho u.fab u.col u.res u.ring u.sec u.pwr u.test) := ⟨h.regs, h.cells, h.msc, h.wc, h.waits⟩

@[simp] theorem canon_set_regs {u : State} (v0) (hr : Rise v0) (h : Canon u) :
    Canon (State.mk u.pending u.sent u.freeCtr u.dev v0 u.straps u.ex u.sites u.siteMap u.mem u.links u.dieErrors u.pho u.fab u.col u.res u.ring u.sec u.pwr u.test) := ⟨hr, h.cells, h.msc, h.wc, h.waits⟩

@[simp] theorem canon_set_straps {u : State} (v0) (h : Canon u) :
    Canon (State.mk u.pending u.sent u.freeCtr u.dev u.regs v0 u.ex u.sites u.siteMap u.mem u.links u.dieErrors u.pho u.fab u.col u.res u.ring u.sec u.pwr u.test) := ⟨h.regs, h.cells, h.msc, h.wc, h.waits⟩

@[simp] theorem canon_set_ex {u : State} (v0) (h : Canon u) :
    Canon (State.mk u.pending u.sent u.freeCtr u.dev u.regs u.straps v0 u.sites u.siteMap u.mem u.links u.dieErrors u.pho u.fab u.col u.res u.ring u.sec u.pwr u.test) := ⟨h.regs, h.cells, h.msc, h.wc, h.waits⟩

@[simp] theorem canon_set_sites {u : State} (v0) (h : Canon u) :
    Canon (State.mk u.pending u.sent u.freeCtr u.dev u.regs u.straps u.ex v0 u.siteMap u.mem u.links u.dieErrors u.pho u.fab u.col u.res u.ring u.sec u.pwr u.test) := ⟨h.regs, h.cells, h.msc, h.wc, h.waits⟩

@[simp] theorem canon_set_siteMap {u : State} (v0) (h : Canon u) :
    Canon (State.mk u.pending u.sent u.freeCtr u.dev u.regs u.straps u.ex u.sites v0 u.mem u.links u.dieErrors u.pho u.fab u.col u.res u.ring u.sec u.pwr u.test) := ⟨h.regs, h.cells, h.msc, h.wc, h.waits⟩

@[simp] theorem canon_set_mem {u : State} (v0) (hc : Rise v0.cells) (hm : MscOk v0.msc) (hw : WcOk v0.wc) (ht : WaitOk v0.waiting) (h : Canon u) :
    Canon (State.mk u.pending u.sent u.freeCtr u.dev u.regs u.straps u.ex u.sites u.siteMap v0 u.links u.dieErrors u.pho u.fab u.col u.res u.ring u.sec u.pwr u.test) := ⟨h.regs, hc, hm, hw, ht⟩

@[simp] theorem canon_set_links {u : State} (v0) (h : Canon u) :
    Canon (State.mk u.pending u.sent u.freeCtr u.dev u.regs u.straps u.ex u.sites u.siteMap u.mem v0 u.dieErrors u.pho u.fab u.col u.res u.ring u.sec u.pwr u.test) := ⟨h.regs, h.cells, h.msc, h.wc, h.waits⟩

@[simp] theorem canon_set_dieErrors {u : State} (v0) (h : Canon u) :
    Canon (State.mk u.pending u.sent u.freeCtr u.dev u.regs u.straps u.ex u.sites u.siteMap u.mem u.links v0 u.pho u.fab u.col u.res u.ring u.sec u.pwr u.test) := ⟨h.regs, h.cells, h.msc, h.wc, h.waits⟩

@[simp] theorem canon_set_pho {u : State} (v0) (h : Canon u) :
    Canon (State.mk u.pending u.sent u.freeCtr u.dev u.regs u.straps u.ex u.sites u.siteMap u.mem u.links u.dieErrors v0 u.fab u.col u.res u.ring u.sec u.pwr u.test) := ⟨h.regs, h.cells, h.msc, h.wc, h.waits⟩

@[simp] theorem canon_set_fab {u : State} (v0) (h : Canon u) :
    Canon (State.mk u.pending u.sent u.freeCtr u.dev u.regs u.straps u.ex u.sites u.siteMap u.mem u.links u.dieErrors u.pho v0 u.col u.res u.ring u.sec u.pwr u.test) := ⟨h.regs, h.cells, h.msc, h.wc, h.waits⟩

@[simp] theorem canon_set_col {u : State} (v0) (h : Canon u) :
    Canon (State.mk u.pending u.sent u.freeCtr u.dev u.regs u.straps u.ex u.sites u.siteMap u.mem u.links u.dieErrors u.pho u.fab v0 u.res u.ring u.sec u.pwr u.test) := ⟨h.regs, h.cells, h.msc, h.wc, h.waits⟩

@[simp] theorem canon_set_res {u : State} (v0) (h : Canon u) :
    Canon (State.mk u.pending u.sent u.freeCtr u.dev u.regs u.straps u.ex u.sites u.siteMap u.mem u.links u.dieErrors u.pho u.fab u.col v0 u.ring u.sec u.pwr u.test) := ⟨h.regs, h.cells, h.msc, h.wc, h.waits⟩

@[simp] theorem canon_set_ring {u : State} (v0) (h : Canon u) :
    Canon (State.mk u.pending u.sent u.freeCtr u.dev u.regs u.straps u.ex u.sites u.siteMap u.mem u.links u.dieErrors u.pho u.fab u.col u.res v0 u.sec u.pwr u.test) := ⟨h.regs, h.cells, h.msc, h.wc, h.waits⟩

@[simp] theorem canon_set_sec {u : State} (v0) (h : Canon u) :
    Canon (State.mk u.pending u.sent u.freeCtr u.dev u.regs u.straps u.ex u.sites u.siteMap u.mem u.links u.dieErrors u.pho u.fab u.col u.res u.ring v0 u.pwr u.test) := ⟨h.regs, h.cells, h.msc, h.wc, h.waits⟩

@[simp] theorem canon_set_pwr {u : State} (v0) (h : Canon u) :
    Canon (State.mk u.pending u.sent u.freeCtr u.dev u.regs u.straps u.ex u.sites u.siteMap u.mem u.links u.dieErrors u.pho u.fab u.col u.res u.ring u.sec v0 u.test) := ⟨h.regs, h.cells, h.msc, h.wc, h.waits⟩

@[simp] theorem canon_set_test {u : State} (v0) (h : Canon u) :
    Canon (State.mk u.pending u.sent u.freeCtr u.dev u.regs u.straps u.ex u.sites u.siteMap u.mem u.links u.dieErrors u.pho u.fab u.col u.res u.ring u.sec u.pwr v0) := ⟨h.regs, h.cells, h.msc, h.wc, h.waits⟩

@[simp] theorem canon_set_dev_ex {u : State} (v0) (v1) (h : Canon u) :
    Canon (State.mk u.pending u.sent u.freeCtr v0 u.regs u.straps v1 u.sites u.siteMap u.mem u.links u.dieErrors u.pho u.fab u.col u.res u.ring u.sec u.pwr u.test) := ⟨h.regs, h.cells, h.msc, h.wc, h.waits⟩

@[simp] theorem canon_set_regs_fab {u : State} (v0) (v1) (hr : Rise v0) (h : Canon u) :
    Canon (State.mk u.pending u.sent u.freeCtr u.dev v0 u.straps u.ex u.sites u.siteMap u.mem u.links u.dieErrors u.pho v1 u.col u.res u.ring u.sec u.pwr u.test) := ⟨hr, h.cells, h.msc, h.wc, h.waits⟩

@[simp] theorem canon_set_regs_sites_fab {u : State} (v0) (v1) (v2) (hr : Rise v0) (h : Canon u) :
    Canon (State.mk u.pending u.sent u.freeCtr u.dev v0 u.straps u.ex v1 u.siteMap u.mem u.links u.dieErrors u.pho v2 u.col u.res u.ring u.sec u.pwr u.test) := ⟨hr, h.cells, h.msc, h.wc, h.waits⟩

@[simp] theorem canon_set_dev_ex_pwr {u : State} (v0) (v1) (v2) (h : Canon u) :
    Canon (State.mk u.pending u.sent u.freeCtr v0 u.regs u.straps v1 u.sites u.siteMap u.mem u.links u.dieErrors u.pho u.fab u.col u.res u.ring u.sec v2 u.test) := ⟨h.regs, h.cells, h.msc, h.wc, h.waits⟩

@[simp] theorem canon_set_ring_pwr {u : State} (v0) (v1) (h : Canon u) :
    Canon (State.mk u.pending u.sent u.freeCtr u.dev u.regs u.straps u.ex u.sites u.siteMap u.mem u.links u.dieErrors u.pho u.fab u.col u.res v0 u.sec v1 u.test) := ⟨h.regs, h.cells, h.msc, h.wc, h.waits⟩

@[simp] theorem canon_set_straps_pwr {u : State} (v0) (v1) (h : Canon u) :
    Canon (State.mk u.pending u.sent u.freeCtr u.dev u.regs v0 u.ex u.sites u.siteMap u.mem u.links u.dieErrors u.pho u.fab u.col u.res u.ring u.sec v1 u.test) := ⟨h.regs, h.cells, h.msc, h.wc, h.waits⟩

@[simp] theorem canon_set_col_res {u : State} (v0) (v1) (h : Canon u) :
    Canon (State.mk u.pending u.sent u.freeCtr u.dev u.regs u.straps u.ex u.sites u.siteMap u.mem u.links u.dieErrors u.pho u.fab v0 v1 u.ring u.sec u.pwr u.test) := ⟨h.regs, h.cells, h.msc, h.wc, h.waits⟩

@[simp] theorem canon_set_ex_col_res {u : State} (v0) (v1) (v2) (h : Canon u) :
    Canon (State.mk u.pending u.sent u.freeCtr u.dev u.regs u.straps v0 u.sites u.siteMap u.mem u.links u.dieErrors u.pho u.fab v1 v2 u.ring u.sec u.pwr u.test) := ⟨h.regs, h.cells, h.msc, h.wc, h.waits⟩

@[simp] theorem canon_set_dev_ex_col_res {u : State} (v0) (v1) (v2) (v3) (h : Canon u) :
    Canon (State.mk u.pending u.sent u.freeCtr v0 u.regs u.straps v1 u.sites u.siteMap u.mem u.links u.dieErrors u.pho u.fab v2 v3 u.ring u.sec u.pwr u.test) := ⟨h.regs, h.cells, h.msc, h.wc, h.waits⟩

@[simp] theorem canon_set_ex_fab_col_res {u : State} (v0) (v1) (v2) (v3) (h : Canon u) :
    Canon (State.mk u.pending u.sent u.freeCtr u.dev u.regs u.straps v0 u.sites u.siteMap u.mem u.links u.dieErrors u.pho v1 v2 v3 u.ring u.sec u.pwr u.test) := ⟨h.regs, h.cells, h.msc, h.wc, h.waits⟩

@[simp] theorem canon_set_ex_mem_col_res {u : State} (v0) (v1) (v2) (v3) (hc : Rise v1.cells) (hm : MscOk v1.msc) (hw : WcOk v1.wc) (ht : WaitOk v1.waiting) (h : Canon u) :
    Canon (State.mk u.pending u.sent u.freeCtr u.dev u.regs u.straps v0 u.sites u.siteMap v1 u.links u.dieErrors u.pho u.fab v2 v3 u.ring u.sec u.pwr u.test) := ⟨h.regs, hc, hm, hw, ht⟩

@[simp] theorem canon_set_dev_res {u : State} (v0) (v1) (h : Canon u) :
    Canon (State.mk u.pending u.sent u.freeCtr v0 u.regs u.straps u.ex u.sites u.siteMap u.mem u.links u.dieErrors u.pho u.fab u.col v1 u.ring u.sec u.pwr u.test) := ⟨h.regs, h.cells, h.msc, h.wc, h.waits⟩

@[simp] theorem canon_set_dev_ring {u : State} (v0) (v1) (h : Canon u) :
    Canon (State.mk u.pending u.sent u.freeCtr v0 u.regs u.straps u.ex u.sites u.siteMap u.mem u.links u.dieErrors u.pho u.fab u.col u.res v1 u.sec u.pwr u.test) := ⟨h.regs, h.cells, h.msc, h.wc, h.waits⟩

@[simp] theorem canon_set_fab_sec {u : State} (v0) (v1) (h : Canon u) :
    Canon (State.mk u.pending u.sent u.freeCtr u.dev u.regs u.straps u.ex u.sites u.siteMap u.mem u.links u.dieErrors u.pho v0 u.col u.res u.ring v1 u.pwr u.test) := ⟨h.regs, h.cells, h.msc, h.wc, h.waits⟩

@[simp] theorem canon_set_sites_mem_links_fab_pwr_test {u : State} (v0) (v1) (v2) (v3) (v4) (v5) (hc : Rise v1.cells) (hm : MscOk v1.msc) (hw : WcOk v1.wc) (ht : WaitOk v1.waiting) (h : Canon u) :
    Canon (State.mk u.pending u.sent u.freeCtr u.dev u.regs u.straps u.ex v0 u.siteMap v1 v2 u.dieErrors u.pho v3 u.col u.res u.ring u.sec v4 v5) := ⟨h.regs, hc, hm, hw, ht⟩

@[simp] theorem withHalf_canon (half : Nat) (t1 : HalfTest) (s : State) (h : Canon s) :
    Canon (withHalf half t1 s) := by
  exact canon_of_keeps (by simp) h

@[simp] theorem withSite_canon (key : Nat) (x : Site) (s : State) (h : Canon s) :
    Canon (withSite key x s) := by
  exact canon_of_keeps (by simp) h

@[simp] theorem zeroSite_canon (half : Nat) (site : Nat) (s : State) (h : Canon s) :
    Canon (zeroSite half site s) := by
  exact canon_of_keeps (by simp) h

@[simp] theorem returnCore_canon (half : Nat) (s : State) (h : Canon s) :
    Canon (returnCore half s) := by
  exact canon_of_keeps (by simp) h

@[simp] theorem abandonTest_canon (s : State) (half : Nat) (h : Canon s) :
    Canon (abandonTest s half) := by
  exact canon_of_keeps (by simp) h

@[simp] theorem abandonTests_canon (s : State) (h : Canon s) :
    Canon (abandonTests s) := by
  exact canon_of_keeps (by simp) h

@[simp] theorem fresh_canon (s : State) (h : Canon s) :
    Canon (fresh s) := by
  exact canon_of_keeps (by simp) h

@[simp] theorem emit_canon (o : Output) (s : State) (h : Canon s) :
    Canon (emit o s) := by
  exact canon_of_keeps (by simp) h

@[simp] theorem drawn_canon (s : State) (h : Canon s) :
    Canon (drawn s) := by
  exact canon_of_keeps (by simp) h

@[simp] theorem withRg_canon (idx : Nat) (sub : Nat) (v : Nat) (s : State) (h : Canon s) :
    Canon (withRg idx sub v s) := by
  unfold withRg; (repeat' split) <;> simp +contextual (maxDischargeDepth := 40) [*]

@[simp] theorem bump_canon (idx : Nat) (sub : Nat) (n : Nat) (s : State) (h : Canon s) :
    Canon (bump idx sub n s) := by
  unfold bump; (repeat' split) <;> simp +contextual (maxDischargeDepth := 40) [*]

@[simp] theorem withSess_canon (n : Nat) (x : Session) (s : State) (h : Canon s) :
    Canon (withSess n x s) := by
  exact canon_of_keeps (by simp) h

@[simp] theorem raiseFor_canon (aud : Nat) (code : Nat) (payload : Bytes) (s : State) (h : Canon s) :
    Canon (raiseFor aud code payload s) := by
  unfold raiseFor; (repeat' split) <;> simp +contextual (maxDischargeDepth := 40) [*]

@[simp] theorem raise_canon (aud : Nat) (code : Nat) (payload : Bytes) (s : State) (h : Canon s) :
    Canon (raise aud code payload s) := by
  unfold raise; (repeat' split) <;> simp +contextual (maxDischargeDepth := 40) [*]

@[simp] theorem exportIfDue_canon (s : State) (h : Canon s) :
    Canon (exportIfDue s) := by
  unfold exportIfDue; (repeat' split) <;> simp +contextual (maxDischargeDepth := 40) [*]

@[simp] theorem auditDigest_canon (sess : Nat) (idx : Nat) (sub : Nat) (kind : Nat) (keyed : Bool) (len : Nat) (digest : BitVec 384) (s : State) (h : Canon s) :
    Canon (auditDigest sess idx sub kind keyed len digest s) := by
  unfold auditDigest; (repeat' split) <;> simp +contextual (maxDischargeDepth := 40) [*]

@[simp] theorem audit_canon (sess : Nat) (idx : Nat) (sub : Nat) (kind : Nat) (keyed : Bool) (value : Bytes) (s : State) (h : Canon s) :
    Canon (audit sess idx sub kind keyed value s) := by
  unfold audit; (repeat' split) <;> simp +contextual (maxDischargeDepth := 40) [*]

@[simp] theorem countReject_canon (origin : W256) (s : State) (h : Canon s) :
    Canon (countReject origin s) := by
  unfold countReject; (repeat' split) <;> simp +contextual (maxDischargeDepth := 40) [*]

@[simp] theorem noteHead_canon (q : Req) (h1 : Bytes) (s : State) (h : Canon s) :
    Canon (noteHead q h1 s) := by
  exact canon_of_keeps (by simp) h

@[simp] theorem noteCommand_canon (q : Req) (command : Nat) (idx : Nat) (sub : Nat) (s : State) (h : Canon s) :
    Canon (noteCommand q command idx sub s) := by
  exact canon_of_keeps (by simp) h

@[simp] theorem queueOut_canon (o : Output) (s : State) (h : Canon s) :
    Canon (queueOut o s) := by
  exact canon_of_keeps (by simp) h

@[simp] theorem sendRing_canon (o : Output) (s : State) (h : Canon s) :
    Canon (sendRing o s) := by
  exact canon_of_keeps (by simp) h

@[simp] theorem completed_canon (q : Req) (code : W32) (data : Bytes) (s : State) (h : Canon s) :
    Canon (completed q code data s) := by
  exact canon_of_keeps (by simp) h

@[simp] theorem respond_canon (q : Req) (code : Nat) (data : Bytes) (s : State) (h : Canon s) :
    Canon (respond q code data s) := by
  exact canon_of_keeps (by simp) h

@[simp] theorem rejectReq_canon (q : Req) (code : Nat) (s : State) (h : Canon s) :
    Canon (rejectReq q code s) := by
  unfold rejectReq; (repeat' split) <;> simp +contextual (maxDischargeDepth := 40) [*]

@[simp] theorem auditWrite_canon (q : Req) (idx : Nat) (sub : Nat) (value : Bytes) (s : State) (h : Canon s) :
    Canon (auditWrite q idx sub value s) := by
  unfold auditWrite; (repeat' split) <;> simp +contextual (maxDischargeDepth := 40) [*]

@[simp] theorem forgetRange_canon (a n : Nat) (s : State) (h : Canon s) : Canon (forgetRange a n s) := by
  exact canon_set_mem _ (rise_outside _ _ _ h.cells) (mscOk_map _ _ h.msc (fun _ => rfl) (fun p hp => lineOk_outside _ _ _ _ hp))
    (wcOk_map _ _ h.wc (fun _ => rfl) (fun p hp => lineOk_outside _ _ _ _ hp)) h.waits h

@[simp] theorem addPend_canon (k : PendKind) (q : Req) (s : State) (h : Canon s) :
    Canon (addPend k q s) := by
  exact canon_of_keeps (by simp) h

@[simp] theorem dropPend_canon (k : PendKind) (s : State) (h : Canon s) :
    Canon (dropPend k s) := by
  exact canon_of_keeps (by simp) h

@[simp] theorem finishPend_canon (k : PendKind) (value : Bytes) (s : State) (h : Canon s) :
    Canon (finishPend k value s) := by
  unfold finishPend; (repeat' split) <;> simp +contextual (maxDischargeDepth := 40) [*]

@[simp] theorem failPend_canon (k : PendKind) (code : Nat) (s : State) (h : Canon s) :
    Canon (failPend k code s) := by
  unfold failPend; (repeat' split) <;> simp +contextual (maxDischargeDepth := 40) [*]

@[simp] theorem endBlocks_canon (s : State) (h : Canon s) :
    Canon (endBlocks s) := by
  unfold endBlocks; (repeat' split) <;> simp +contextual (maxDischargeDepth := 40) [*]

@[simp] theorem dropHostCopy_canon (s : State) (h : Canon s) :
    Canon (dropHostCopy s) := by
  unfold dropHostCopy; (repeat' split) <;> simp +contextual (maxDischargeDepth := 40) [*]

@[simp] theorem endPending_canon (s : State) (h : Canon s) :
    Canon (endPending s) := by
  unfold endPending; (repeat' split) <;> simp +contextual (maxDischargeDepth := 40) [*]

@[simp] theorem closeTestPort_canon (s : State) (h : Canon s) :
    Canon (closeTestPort s) := by
  unfold closeTestPort; (repeat' split) <;> simp +contextual (maxDischargeDepth := 40) [*]

@[simp] theorem faultEvent_canon (cause : Nat) (kind : Nat) (loc : Bytes) (s : State) (h : Canon s) :
    Canon (faultEvent cause kind loc s) := by
  unfold faultEvent; (repeat' split) <;> simp +contextual (maxDischargeDepth := 40) [*]

@[simp] theorem toFaulted_canon (cause : Nat) (kind : Nat) (loc : Bytes) (s : State) (h : Canon s) :
    Canon (toFaulted cause kind loc s) := by
  unfold toFaulted; (repeat' split) <;> simp +contextual (maxDischargeDepth := 40) [*]

@[simp] theorem clearPoison_canon (a n : Nat) (s : State) (h : Canon s) : Canon (clearPoison a n s) := by
  unfold clearPoison
  dsimp only
  split
  · exact h
  · exact canon_set_mem _ h.cells h.msc h.wc h.waits h

@[simp] theorem poisonSector_canon (a : Nat) (s : State) (h : Canon s) :
    Canon (poisonSector a s) := by
  unfold poisonSector; (repeat' split) <;> simp +contextual (maxDischargeDepth := 40) [*]

@[simp] theorem stepDataError_canon (cause : W32) (late : State → State) (s : State)
    (k : ∀ u, Canon u → Canon (late u)) (h : Canon s) : Canon (stepDataError cause late s) := by
  unfold stepDataError
  dsimp only
  split
  · exact h
  · split
    · exact canon_set_ex _ h
    · exact k _ (canon_set_ex _ h)

@[simp] theorem poisonRead_canon (a : Nat) (s : State) (h : Canon s) :
    Canon (poisonRead a s) := by
  unfold poisonRead; (repeat' split) <;> simp +contextual (maxDischargeDepth := 40) [*]

@[simp] theorem regSpend_canon (q : Nat) (p : Nat) (n : Nat) (s : State) (h : Canon s) :
    Canon (regSpend q p n s) := by
  unfold regSpend; (repeat' split) <;> simp +contextual (maxDischargeDepth := 40) [*]

@[simp] theorem regFill_canon (q : Nat) (p : Nat) (s : State) (h : Canon s) :
    Canon (regFill q p s) := by
  unfold regFill; (repeat' split) <;> simp +contextual (maxDischargeDepth := 40) [*]

@[simp] theorem regCharge_canon (q : Nat) (p : Nat) (n : Nat) (s : State) (h : Canon s) :
    Canon (regCharge q p n s) := by
  unfold regCharge; (repeat' split) <;> simp +contextual (maxDischargeDepth := 40) [*]

@[simp] theorem retireEntry_canon (e : WcEntry) (s : State) (h : Canon s) :
    Canon (retireEntry e s) := by
  unfold retireEntry; (repeat' split) <;> simp +contextual (maxDischargeDepth := 40) [*]

@[simp] theorem markRetiring_canon (line : Nat) (s : State) (h : Canon s) : Canon (markRetiring line s) := by
  exact canon_set_mem _ h.cells h.msc (wcOk_map _ _ h.wc (fun p => by split <;> rfl) (fun p hp => by split <;> exact hp)) h.waits h

@[simp] theorem retireOrMark_canon (e : WcEntry) (s : State) (h : Canon s) : Canon (retireOrMark e s) := by
  unfold retireOrMark
  split
  · exact retireEntry_canon _ _ h
  · exact canon_set_mem _ h.cells h.msc (wcOk_map _ _ h.wc (fun p => by split <;> rfl) (fun p hp => by split <;> exact hp)) h.waits h

@[simp] theorem retireWaiting_canon (s : State) (h : Canon s) :
    Canon (retireWaiting s) := by
  unfold retireWaiting; (repeat' split) <;> simp +contextual (maxDischargeDepth := 40) [*]

@[simp] theorem retireAll_canon (s : State) (h : Canon s) :
    Canon (retireAll s) := by
  unfold retireAll; (repeat' split) <;> simp +contextual (maxDischargeDepth := 40) [*]

@[simp] theorem writeBack_canon (line : Nat) (s : State) (h : Canon s) : Canon (writeBack line s) := by
  unfold writeBack
  split
  · exact h
  · rename_i l hl
    extract_lets dirty s1
    have h1 : Canon s1 := by
      simp only [s1]; split
      · exact h
      · exact regCharge_canon _ _ _ _ h
    exact canon_set_mem _ (rise_foldl_put _ _ h1.cells) (mscOk_put _ _ _ h1.msc (lineOk_nil _))
      (wcOk_map _ _ h1.wc (fun e => by split <;> rfl) (fun e he => by
        split
        · exact lineOk_filter _ _ _ he
        · exact he)) h1.waits h1

@[simp] theorem writeBackAll_canon (s : State) (h : Canon s) :
    Canon (writeBackAll s) := by
  unfold writeBackAll; (repeat' split) <;> simp +contextual (maxDischargeDepth := 40) [*]

@[simp] theorem mscEvict_canon (line : Nat) (s : State) (h : Canon s) : Canon (mscEvict line s) := by
  have h1 := writeBack_canon line s h
  exact canon_set_mem _ h1.cells (mscOk_filter _ _ h1.msc) h1.wc h1.waits h1

@[simp] theorem mscRoom_canon (line : Nat) (s : State) (h : Canon s) :
    Canon (mscRoom line s) := by
  unfold mscRoom; (repeat' split) <;> simp +contextual (maxDischargeDepth := 40) [*]

@[simp] theorem mscInstall_canon (line : Nat) (l : CacheLine) (s : State) (hl : LineOk line l.data) (h : Canon s) : Canon (mscInstall line l s) := by
  have h1 := mscRoom_canon line s h
  exact canon_set_mem _ h1.cells (mscOk_put _ _ _ h1.msc hl) h1.wc h1.waits h1

@[simp] theorem makeRoom_canon (c : Nat) (s : State) (h : Canon s) :
    Canon (makeRoom c s) := by
  unfold makeRoom; repeat' (first | (simp +contextual (maxDischargeDepth := 40) [*]; done) | split | dsimp only)

@[simp] theorem combine_canon (m : MemReq) (data : Bytes) (s : State) (hd : m.addr % 256 + data.length ≤ 256) (h : Canon s) : Canon (combine m data s) := by
  unfold combine
  extract_lets line c s1 e0 e _ s2
  have h1 : Canon s1 := by
    simp only [s1]
    split
    · exact h
    · exact makeRoom_canon _ _ h
  have h0 : LineOk line e0.data ∧ e0.line = line := by
    simp only [e0]
    cases hq : wcLine s1 line with
    | none => exact ⟨lineOk_nil _, rfl⟩
    | some x =>
      have hx : x.line = line := by
        have := List.find?_some hq
        simpa using this
      exact ⟨hx ▸ h1.wc.1 x (List.mem_of_find?_eq_some hq), hx⟩
  have he : LineOk line e.data := lineOk_storeCells _ _ _ h0.1 hd
  have h2 : Canon s2 := by
    refine canon_set_mem _ h1.cells h1.msc ?_ h1.waits h1
    dsimp only
    split
    · refine wcOk_map _ _ h1.wc (fun p => ?_) (fun p hp => ?_)
      · split
        · rename_i hp; rw [hp]; exact h0.2
        · rfl
      · split
        · rename_i hq; rw [hq]; exact he
        · exact hp
    · rename_i hn
      refine wcOk_append _ _ h1.wc ?_ ?_
      · rw [show e.line = line from h0.2]; exact he
      · intro x hx hxl
        apply hn
        unfold wcLine
        rw [List.find?_isSome]
        exact ⟨x, hx, by rw [hxl, show e.line = line from h0.2]; simp⟩
  split
  · exact retireOrMark_canon _ _ h2
  · exact h2

@[simp] theorem coherentWrite_canon (m : MemReq) (data : Bytes) (s : State) (hd : m.addr % 256 + data.length ≤ 256) (h : Canon s) : Canon (coherentWrite m data s) := by
  unfold coherentWrite
  refine clearPoison_canon _ _ _ ?_
  dsimp only
  split
  · rename_i l hl
    refine canon_set_mem _ h.cells (mscOk_put _ _ _ h.msc (lineOk_storeCells _ _ _ ?_ hd)) h.wc h.waits h
    exact lookup_mscOk _ _ _ h.msc hl
  · split
    · have h1 := mscInstall_canon (m.addr / 256) ⟨storeCells m.addr data [], m.partition⟩ s (lineOk_storeCells _ _ _ (lineOk_nil _) hd) h
      exact canon_set_mem _ h1.cells h1.msc (wcOk_filter _ _ h1.wc) h1.waits h1
    · exact combine_canon _ _ _ hd h

@[simp] theorem withShLines_canon (d : Nat) (line : Nat) (l : List Nat) (s : State) (h : Canon s) :
    Canon (withShLines d line l s) := by
  unfold withShLines; (repeat' split) <;> simp +contextual (maxDischargeDepth := 40) [*]

@[simp] theorem shDrop_canon (d : Nat) (line : Nat) (s : State) (h : Canon s) :
    Canon (shDrop d line s) := by
  unfold shDrop; (repeat' split) <;> simp +contextual (maxDischargeDepth := 40) [*]

@[simp] theorem shRoom_canon (d : Nat) (line : Nat) (s : State) (h : Canon s) :
    Canon (shRoom d line s) := by
  unfold shRoom; (repeat' split) <;> simp +contextual (maxDischargeDepth := 40) [*]

@[simp] theorem installLine_canon (line : Nat) (d : Nat) (s : State) (h : Canon s) :
    Canon (installLine line d s) := by
  unfold installLine; (repeat' split) <;> simp +contextual (maxDischargeDepth := 40) [*]

@[simp] theorem invalidate_canon (line : Nat) (dies : List Nat) (s : State) (h : Canon s) :
    Canon (invalidate line dies s) := by
  unfold invalidate; (repeat' split) <;> simp +contextual (maxDischargeDepth := 40) [*]

@[simp] theorem readLine_canon (u : Agent) (line : Nat) (s : State) (h : Canon s) :
    Canon (readLine u line s) := by
  unfold readLine; (repeat' split) <;> simp +contextual (maxDischargeDepth := 40) [*]

@[simp] theorem readVia_canon (u : Agent) (fill : Option Nat) (line : Nat) (s : State) (h : Canon s) :
    Canon (readVia u fill line s) := by
  unfold readVia; (repeat' split) <;> simp +contextual (maxDischargeDepth := 40) [*]

@[simp] theorem readRange_canon (u : Agent) (fill : Option Nat) (a : Nat) (n : Nat) (s : State) (h : Canon s) :
    Canon (readRange u fill a n s) := by
  unfold readRange; (repeat' split) <;> simp +contextual (maxDischargeDepth := 40) [*]

@[simp] theorem writeLine_canon (u : Agent) (s : State) (p : Nat × Bytes) (hd : p.1 % 256 + p.2.length ≤ 256) (h : Canon s) : Canon (writeLine u s p) := by
  unfold writeLine
  extract_lets line s1 dies
  have h1 : Canon s1 := coherentWrite_canon _ _ _ hd h
  split
  · exact h1
  · exact invalidate_canon _ _ _ (canon_set_mem _ h1.cells h1.msc h1.wc h1.waits h1)

theorem linePieces_fit (n a : Nat) (b : Bytes) : ∀ p ∈ linePieces n a b, p.1 % 256 + p.2.length ≤ 256 := by
  induction n generalizing a b with
  | zero => simp [linePieces]
  | succ n ih =>
    intro p hp
    unfold linePieces at hp
    split at hp
    · cases hp
    · rcases List.mem_cons.mp hp with rfl | hp
      · have := List.length_take_le (256 - a % 256) b
        have := Nat.mod_lt a (show 256 > 0 by decide)
        dsimp only; omega
      · exact ih _ _ p hp

@[simp] theorem storeBytes_canon (u : Agent) (a : Nat) (data : Bytes) (s : State) (h : Canon s) : Canon (storeBytes u a data s) := by
  unfold storeBytes
  have key : ∀ (l : List (Nat × Bytes)) (v : State), (∀ p ∈ l, p.1 % 256 + p.2.length ≤ 256) → Canon v → Canon (l.foldl (writeLine u) v) := by
    intro l
    induction l with
    | nil => intro v _ hv; exact hv
    | cons p t ih =>
      intro v hl hv
      exact ih _ (fun x hx => hl x (List.mem_cons_of_mem _ hx)) (writeLine_canon _ _ _ (hl p (List.mem_cons_self ..)) hv)
  exact key _ _ (linePieces_fit _ _ _) h

@[simp] theorem withStack_canon (k : Nat) (x : Stack) (s : State) (h : Canon s) :
    Canon (withStack k x s) := by
  unfold withStack; (repeat' split) <;> simp +contextual (maxDischargeDepth := 40) [*]

@[simp] theorem failStack_canon (k : Nat) (s : State) (h : Canon s) :
    Canon (failStack k s) := by
  unfold failStack; (repeat' split) <;> simp +contextual (maxDischargeDepth := 40) [*]

@[simp] theorem discardPacket_canon (die : Nat) (ep : Nat) (s : State) (h : Canon s) :
    Canon (discardPacket die ep s) := by
  unfold discardPacket; (repeat' split) <;> simp +contextual (maxDischargeDepth := 40) [*]

@[simp] theorem receivePackets_canon (die : Nat) (ps : List Packet) (s : State) (h : Canon s) :
    Canon (receivePackets die ps s) := by
  unfold receivePackets; (repeat' split) <;> simp +contextual (maxDischargeDepth := 40) [*]

@[simp] theorem takeInbox_canon (q : Req) (s : State) (h : Canon s) :
    Canon (takeInbox q s) := by
  exact canon_of_keeps (by simp) h

@[simp] theorem onArrival_canon (q : Req) (f : State → State) (s : State)
    (k : ∀ u, Canon u → Canon (f u)) (h : Canon s) : Canon (onArrival q f s) := by
  have h1 : Canon (takeInbox q (fresh s)) := takeInbox_canon _ _ (fresh_canon _ h)
  unfold onArrival
  dsimp only
  split
  · exact h1
  · exact bump_canon _ _ _ _ h1
  · exact sendRing_canon _ _ (bump_canon _ _ _ _ h1)
  · exact h1
  · exact k _ h1

@[simp] theorem beginReq_canon (q : Req) (s : State) (h : Canon s) :
    Canon (beginReq q s) := by
  exact canon_of_keeps (by simp) h

@[simp] theorem forwardAccess_canon (write : Bool) (idx : Nat) (sub : Nat) (s : State) (h : Canon s) :
    Canon (forwardAccess write idx sub s) := by
  exact canon_of_keeps (by simp) h

theorem acceptWrite_canon (q : Req) (idx sub : Nat) (value : Bytes) (r : Rule) (s : State)
    (k1 : ∀ u, Canon u → Canon (r.apply u)) (k2 : ∀ u, Canon u → Canon (r.after u)) (h : Canon s) :
    Canon (acceptWrite q idx sub value r s) := by
  have h0 : Canon (forwardAccess true idx sub s) := forwardAccess_canon true idx sub s h
  unfold acceptWrite
  extract_lets s1 s2 s3
  split
  · exact k1 _ (beginReq_canon _ _ h0)
  · refine k2 _ (respond_canon _ _ _ _ ?_)
    simp only [s3]
    split
    · exact auditWrite_canon _ _ _ _ _ (k1 _ h0)
    · exact auditWrite_canon _ _ _ _ _ (k1 _ h0)

@[simp] theorem writeReq_canon (q : Req) (proto idx sub : Nat) (value : Bytes) (rule : State → Rule) (s : State)
    (k1 : ∀ v u, Canon u → Canon ((rule v).apply u)) (k2 : ∀ v u, Canon u → Canon ((rule v).after u))
    (k3 : ∀ v u, Canon u → Canon ((rule v).onReject u)) (h : Canon s) :
    Canon (writeReq q proto idx sub value rule s) := by
  refine onArrival_canon q _ s ?_ h
  intro u hu
  extract_lets v r code
  have hv : Canon v := noteCommand_canon _ _ _ _ _ hu
  split
  · exact acceptWrite_canon q idx sub value (rule v) v (k1 v) (k2 v) hv
  · exact rejectReq_canon _ _ _ (k3 v v hv)

@[simp] theorem storeRule_apply_canon (idx : Nat) (sub : Nat) (value : Bytes) (codes : List Nat) (u0 : State) (h : Canon u0) :
    Canon ((storeRule idx sub value codes).apply u0) := by
  unfold storeRule; (repeat' split) <;> simp +contextual (maxDischargeDepth := 40) [*]

@[simp] theorem storeRule_after_canon (idx : Nat) (sub : Nat) (value : Bytes) (codes : List Nat) (u0 : State) (h : Canon u0) :
    Canon ((storeRule idx sub value codes).after u0) := by
  unfold storeRule; (repeat' split) <;> simp +contextual (maxDischargeDepth := 40) [*]

@[simp] theorem storeRule_onReject_canon (idx : Nat) (sub : Nat) (value : Bytes) (codes : List Nat) (u0 : State) (h : Canon u0) :
    Canon ((storeRule idx sub value codes).onReject u0) := by
  unfold storeRule; (repeat' split) <;> simp +contextual (maxDischargeDepth := 40) [*]

@[simp] theorem withOwnVal_canon (sess : Nat) (idx : Nat) (sub : Nat) (v : Nat) (s : State) (h : Canon s) :
    Canon (withOwnVal sess idx sub v s) := by
  exact canon_of_keeps (by simp) h

@[simp] theorem cacheBad_canon (die : Nat) (ep : Nat) (a : Nat) (s : State) (h : Canon s) :
    Canon (cacheBad die ep a s) := by
  unfold cacheBad; (repeat' split) <;> simp +contextual (maxDischargeDepth := 40) [*]

@[simp] theorem applyShared_canon (a : Nat) (d : Nat) (e : MemEcc) (s : State) (h : Canon s) :
    Canon (applyShared a d e s) := by
  unfold applyShared; (repeat' split) <;> simp +contextual (maxDischargeDepth := 40) [*]

@[simp] theorem applySnoop_canon (a : Nat) (e : MemEcc) (s : State) (h : Canon s) :
    Canon (applySnoop a e s) := by
  unfold applySnoop; (repeat' split) <;> simp +contextual (maxDischargeDepth := 40) [*]

@[simp] theorem applyEcc_canon (a : Nat) (hbm : Bool) (e : MemEcc) (s : State) (h : Canon s) :
    Canon (applyEcc a hbm e s) := by
  unfold applyEcc; (repeat' split) <;> simp +contextual (maxDischargeDepth := 40) [*]

@[simp] theorem expectAnswer_canon (m0 : MemReq) (write : Bool) (s : State) (h : Canon s) :
    Canon (expectAnswer m0 write s) := by
  unfold expectAnswer; (repeat' split) <;> simp +contextual (maxDischargeDepth := 40) [*]

@[simp] theorem sendAnswer_canon (m0 : MemReq) (write : Bool) (s : State) (h : Canon s) :
    Canon (sendAnswer m0 write s) := by
  unfold sendAnswer; (repeat' split) <;> simp +contextual (maxDischargeDepth := 40) [*]

@[simp] theorem serveRead_canon (m0 : MemReq) (ecc : MemEcc) (s : State) (h : Canon s) :
    Canon (serveRead m0 ecc s) := by
  unfold serveRead; (repeat' split) <;> simp +contextual (maxDischargeDepth := 40) [*]

@[simp] theorem serveWrite_canon (m : MemReq) (data : Bytes) (s : State) (hd : m.addr % 256 + data.length ≤ 256) (h : Canon s) : Canon (serveWrite m data s) := by
  unfold serveWrite
  extract_lets line s1 dies
  have h1 : Canon s1 := coherentWrite_canon _ _ _ hd h
  split
  · exact emit_canon _ _ (sendAnswer_canon _ _ _ h1)
  · exact invalidate_canon _ _ _ (canon_set_mem _ h1.cells h1.msc h1.wc h1.waits h1)

@[simp] theorem waitRequest_canon (w : WaitingReq) (s : State) (hd : w.write = true → w.req.addr % 256 + w.data.length ≤ 256) (h : Canon s) : Canon (waitRequest w s) := by
  exact canon_set_mem _ h.cells h.msc h.wc (waitOk_append _ _ h.waits hd) h

@[simp] theorem drainWaits_canon (s : State) (h : Canon s) : Canon (drainWaits s) := by
  unfold drainWaits
  have key : ∀ (l : List WaitingReq) (u : State), WaitOk l → Canon u →
      Canon (l.foldl (fun s w =>
        if memServes s w.req.addr && canServe s w.req w.write then
          (if w.write then serveWrite w.req w.data s else serveRead w.req w.ecc s)
        else waitRequest w s) u) := by
    intro l
    induction l with
    | nil => intro u _ hu; exact hu
    | cons w t ih =>
      intro u hl hu
      refine ih _ (fun x hx => hl x (List.mem_cons_of_mem _ hx)) ?_
      have hw := hl w (List.mem_cons_self ..)
      dsimp only
      split
      · split
        · exact serveWrite_canon _ _ _ (hw ‹_›) hu
        · exact serveRead_canon _ _ _ hu
      · exact waitRequest_canon _ _ hw hu
  exact key _ _ h.waits (canon_set_mem _ h.cells h.msc h.wc waitOk_nil h)

@[simp] theorem discardRequest_canon (p : Packet) (s : State) (h : Canon s) :
    Canon (discardRequest p s) := by
  unfold discardRequest; (repeat' split) <;> simp +contextual (maxDischargeDepth := 40) [*]

@[simp] theorem answered_canon (die : Nat) (ep : Nat) (tag : Nat) (write : Bool) (s : State) (h : Canon s) :
    Canon (answered die ep tag write s) := by
  unfold answered; (repeat' split) <;> simp +contextual (maxDischargeDepth := 40) [*]

@[simp] theorem ackWrite_canon (s : State) (w : WaitingWrite) (h : Canon s) :
    Canon (ackWrite s w) := by
  unfold ackWrite; (repeat' split) <;> simp +contextual (maxDischargeDepth := 40) [*]

@[simp] theorem retireDue_canon (s : State) (h : Canon s) :
    Canon (retireDue s) := by
  unfold retireDue; (repeat' split) <;> simp +contextual (maxDischargeDepth := 40) [*]

@[simp] theorem readStack_canon (k : Nat) (temp : Nat) (s : State) (h : Canon s) :
    Canon (readStack k temp s) := by
  unfold readStack; (repeat' split) <;> simp +contextual (maxDischargeDepth := 40) [*]

@[simp] theorem scrubOne_canon (s : State) (f : ScrubFinding) (h : Canon s) :
    Canon (scrubOne s f) := by
  unfold scrubOne; (repeat' split) <;> simp +contextual (maxDischargeDepth := 40) [*]

@[simp] theorem chargeScrub_canon (s : State) (h : Canon s) :
    Canon (chargeScrub s) := by
  unfold chargeScrub; (repeat' split) <;> simp +contextual (maxDischargeDepth := 40) [*]

@[simp] theorem repairGroup_canon (f : LaneFailure) (s : State) (h : Canon s) :
    Canon (repairGroup f s) := by
  unfold repairGroup; (repeat' split) <;> simp +contextual (maxDischargeDepth := 40) [*]

@[simp] theorem trainStacks_canon (failures : List LaneFailure) (s : State) (h : Canon s) :
    Canon (trainStacks failures s) := by
  unfold trainStacks; (repeat' split) <;> simp +contextual (maxDischargeDepth := 40) [*]

@[simp] theorem trainingDone_canon (s : State) (h : Canon s) :
    Canon (trainingDone s) := by
  unfold trainingDone; (repeat' split) <;> simp +contextual (maxDischargeDepth := 40) [*]

@[simp] theorem chargeGen_canon (r : GenRun) (s : State) (h : Canon s) :
    Canon (chargeGen r s) := by
  unfold chargeGen; (repeat' split) <;> simp +contextual (maxDischargeDepth := 40) [*]

@[simp] theorem noteTested_canon (g : GenReq) (s : State) (h : Canon s) :
    Canon (noteTested g s) := by
  unfold noteTested; (repeat' split) <;> simp +contextual (maxDischargeDepth := 40) [*]

@[simp] theorem forgetTested_canon (g : GenReq) (s : State) (h : Canon s) : Canon (forgetTested g s) := by
  exact canon_set_mem _ (rise_filter _ _ h.cells) (mscOk_map _ _ h.msc (fun _ => rfl) (fun p hp => lineOk_filter _ _ _ hp))
    (wcOk_map _ _ h.wc (fun _ => rfl) (fun p hp => lineOk_filter _ _ _ hp)) h.waits h

@[simp] theorem stopGenerator_canon (s : State) (h : Canon s) :
    Canon (stopGenerator s) := by
  unfold stopGenerator; (repeat' split) <;> simp +contextual (maxDischargeDepth := 40) [*]

@[simp] theorem genRule_apply_canon (op : Nat) (g : GenReq) (s : State) (u0 : State) (h : Canon u0) :
    Canon ((genRule op g s).apply u0) := by
  unfold genRule; (repeat' split) <;> simp +contextual (maxDischargeDepth := 40) [*]

@[simp] theorem genRule_after_canon (op : Nat) (g : GenReq) (s : State) (u0 : State) (h : Canon u0) :
    Canon ((genRule op g s).after u0) := by
  unfold genRule; (repeat' split) <;> simp +contextual (maxDischargeDepth := 40) [*]

@[simp] theorem genRule_onReject_canon (op : Nat) (g : GenReq) (s : State) (u0 : State) (h : Canon u0) :
    Canon ((genRule op g s).onReject u0) := by
  unfold genRule; (repeat' split) <;> simp +contextual (maxDischargeDepth := 40) [*]

@[simp] theorem genRequest_canon (op : Nat) (q : Req) (g : GenReq) (s : State) (h : Canon s) :
    Canon (genRequest op q g s) := by
  unfold genRequest; (repeat' split) <;> simp +contextual (maxDischargeDepth := 40) [*]

@[simp] theorem partitionRule_apply_canon (sub : Nat) (v : Nat) (s : State) (u0 : State) (h : Canon u0) :
    Canon ((partitionRule sub v s).apply u0) := by
  unfold partitionRule; (repeat' split) <;> simp +contextual (maxDischargeDepth := 40) [*]

@[simp] theorem partitionRule_after_canon (sub : Nat) (v : Nat) (s : State) (u0 : State) (h : Canon u0) :
    Canon ((partitionRule sub v s).after u0) := by
  unfold partitionRule; (repeat' split) <;> simp +contextual (maxDischargeDepth := 40) [*]

@[simp] theorem partitionRule_onReject_canon (sub : Nat) (v : Nat) (s : State) (u0 : State) (h : Canon u0) :
    Canon ((partitionRule sub v s).onReject u0) := by
  unfold partitionRule; (repeat' split) <;> simp +contextual (maxDischargeDepth := 40) [*]

@[simp] theorem emptyCaches_canon (s : State) (h : Canon s) :
    Canon (emptyCaches s) := by
  unfold emptyCaches; (repeat' split) <;> simp +contextual (maxDischargeDepth := 40) [*]

@[simp] theorem boundaryRule_apply_canon (v : Nat) (a1 : State) (u0 : State) (h : Canon u0) :
    Canon ((boundaryRule v a1).apply u0) := by
  unfold boundaryRule; (repeat' split) <;> simp +contextual (maxDischargeDepth := 40) [*]

@[simp] theorem boundaryRule_after_canon (v : Nat) (a1 : State) (u0 : State) (h : Canon u0) :
    Canon ((boundaryRule v a1).after u0) := by
  unfold boundaryRule; (repeat' split) <;> simp +contextual (maxDischargeDepth := 40) [*]

@[simp] theorem boundaryRule_onReject_canon (v : Nat) (a1 : State) (u0 : State) (h : Canon u0) :
    Canon ((boundaryRule v a1).onReject u0) := by
  unfold boundaryRule; (repeat' split) <;> simp +contextual (maxDischargeDepth := 40) [*]

@[simp] theorem storeAt_canon (u : Agent) (key : Nat) (mem : Bool) (a : Nat) (data : Bytes) (s : State) (h : Canon s) :
    Canon (storeAt u key mem a data s) := by
  unfold storeAt; (repeat' split) <;> simp +contextual (maxDischargeDepth := 40) [*]

@[simp] theorem storeAll_canon (u : Agent) (key : Nat) (mem : Bool) (ws : List (Nat × Bytes)) (s : State) (h : Canon s) :
    Canon (storeAll u key mem ws s) := by
  unfold storeAll; (repeat' split) <;> simp +contextual (maxDischargeDepth := 40) [*]

@[simp] theorem writeRef_canon (sc : Score) (u : Agent) (key : Nat) (r : Nat) (data : Bytes) (s : State) (h : Canon s) :
    Canon (writeRef sc u key r data s) := by
  unfold writeRef; (repeat' split) <;> simp +contextual (maxDischargeDepth := 40) [*]

@[simp] theorem readPieces_canon (u : Agent) (fill : Option Nat) (ps : List Piece) (s : State) (h : Canon s) :
    Canon (readPieces u fill ps s) := by
  unfold readPieces; (repeat' split) <;> simp +contextual (maxDischargeDepth := 40) [*]

@[simp] theorem storeError_canon (half : Nat) (core : Nat) (key : Nat) (s : State) (e : StoreErr) (h : Canon s) :
    Canon (storeError half core key s e) := by
  unfold storeError; (repeat' split) <;> simp +contextual (maxDischargeDepth := 40) [*]

@[simp] theorem noteResults_canon (key : Nat) (idx : Nat) (ovf : Nat) (inv : Nat) (s : State) (h : Canon s) :
    Canon (noteResults key idx ovf inv s) := by
  unfold noteResults; (repeat' split) <;> simp +contextual (maxDischargeDepth := 40) [*]

@[simp] theorem noteConversions_canon (sats : Nat) (ovfs : Nat) (s : State) (h : Canon s) :
    Canon (noteConversions sats ovfs s) := by
  unfold noteConversions; (repeat' split) <;> simp +contextual (maxDischargeDepth := 40) [*]

@[simp] theorem writeResult_canon (sc : Score) (key : Nat) (ref : Nat) (fmt : Nat) (sat : Bool) (f : Nat → Nat → W32) (s : State) (h : Canon s) :
    Canon (writeResult sc key ref fmt sat f s) := by
  unfold writeResult; (repeat' split) <;> simp +contextual (maxDischargeDepth := 40) [*]

@[simp] theorem watch_canon (s00 : State) (sc : Score) (key : Nat) (x0 : Site) (ix : Nat) (c : Crumb) (order : List Nat) (s : State) (h : Canon s) :
    Canon (watch s00 sc key x0 ix c order s) := by
  unfold watch; (repeat' split) <;> simp +contextual (maxDischargeDepth := 40) [*]

@[simp] theorem mmaEffect_canon (sc : Score) (key : Nat) (ix : Nat) (c : Crumb) (s : State) (h : Canon s) :
    Canon (mmaEffect sc key ix c s) := by
  unfold mmaEffect; (repeat' split) <;> simp +contextual (maxDischargeDepth := 40) [*]

@[simp] theorem accoutEffect_canon (sc : Score) (key : Nat) (c : Crumb) (s : State) (h : Canon s) :
    Canon (accoutEffect sc key c s) := by
  unfold accoutEffect; (repeat' split) <;> simp +contextual (maxDischargeDepth := 40) [*]

@[simp] theorem accinitEffect_canon (sc : Score) (key : Nat) (c : Crumb) (s : State) (h : Canon s) :
    Canon (accinitEffect sc key c s) := by
  exact canon_of_keeps (by simp) h

@[simp] theorem topkEffect_canon (sc : Score) (key : Nat) (c : Crumb) (s : State) (h : Canon s) :
    Canon (topkEffect sc key c s) := by
  unfold topkEffect; (repeat' split) <;> simp +contextual (maxDischargeDepth := 40) [*]

@[simp] theorem matrixEffect_canon (sc : Score) (key : Nat) (ix : Nat) (c : Crumb) (s : State) (h : Canon s) :
    Canon (matrixEffect sc key ix c s) := by
  unfold matrixEffect; (repeat' split) <;> simp +contextual (maxDischargeDepth := 40) [*]

@[simp] theorem noteConvs_canon (cs : List Conv) (s : State) (h : Canon s) :
    Canon (noteConvs cs s) := by
  unfold noteConvs; (repeat' split) <;> simp +contextual (maxDischargeDepth := 40) [*]

@[simp] theorem putElems_canon (sc : Score) (key : Nat) (c : Crumb) (tile : Bool) (rs : List (Nat × W32)) (s : State) (h : Canon s) :
    Canon (putElems sc key c tile rs s) := by
  unfold putElems; (repeat' split) <;> simp +contextual (maxDischargeDepth := 40) [*]

@[simp] theorem vecGroup_canon (sc : Score) (key : Nat) (c : Crumb) (n : Nat) (s : State) (g : Nat) (h : Canon s) :
    Canon (vecGroup sc key c n s g) := by
  unfold vecGroup; (repeat' split) <;> simp +contextual (maxDischargeDepth := 40) [*]

@[simp] theorem vecElementwise_canon (sc : Score) (key : Nat) (c : Crumb) (s : State) (h : Canon s) :
    Canon (vecElementwise sc key c s) := by
  unfold vecElementwise; (repeat' split) <;> simp +contextual (maxDischargeDepth := 40) [*]

@[simp] theorem vecReduce_canon (sc : Score) (key : Nat) (c : Crumb) (s : State) (h : Canon s) :
    Canon (vecReduce sc key c s) := by
  unfold vecReduce; (repeat' split) <;> simp +contextual (maxDischargeDepth := 40) [*]

@[simp] theorem vecLoadScalars_canon (sc : Score) (key : Nat) (c : Crumb) (s : State) (h : Canon s) :
    Canon (vecLoadScalars sc key c s) := by
  exact canon_of_keeps (by simp) h

@[simp] theorem vecFlag_canon (sc : Score) (key : Nat) (c : Crumb) (s : State) (h : Canon s) :
    Canon (vecFlag sc key c s) := by
  unfold vecFlag; (repeat' split) <;> simp +contextual (maxDischargeDepth := 40) [*]

@[simp] theorem optStore_canon (sc : Score) (key : Nat) (c : Crumb) (r : OptRec) (f : Nat) (use : Nat) (ws : List (Nat × W32)) (s : State) (h : Canon s) :
    Canon (optStore sc key c r f use ws s) := by
  unfold optStore; (repeat' split) <;> simp +contextual (maxDischargeDepth := 40) [*]

@[simp] theorem optGroup_canon (sc : Score) (key : Nat) (c : Crumb) (r : OptRec) (n : Nat) (s : State) (g : Nat) (h : Canon s) :
    Canon (optGroup sc key c r n s g) := by
  unfold optGroup; (repeat' split) <;> simp +contextual (maxDischargeDepth := 40) [*]

@[simp] theorem voptEffect_canon (sc : Score) (half : Nat) (core : Nat) (key : Nat) (c : Crumb) (s : State) (h : Canon s) :
    Canon (voptEffect sc half core key c s) := by
  unfold voptEffect; (repeat' split) <;> simp +contextual (maxDischargeDepth := 40) [*]

@[simp] theorem vectorEffect_canon (sc : Score) (half : Nat) (core : Nat) (key : Nat) (c : Crumb) (s : State) (h : Canon s) :
    Canon (vectorEffect sc half core key c s) := by
  unfold vectorEffect; (repeat' split) <;> simp +contextual (maxDischargeDepth := 40) [*]

@[simp] theorem runCopy_canon (sc : Score) (u : Agent) (key : Nat) (counter : Nat) (src : Desc) (dst : Desc) (s : State) (h : Canon s) :
    Canon (runCopy sc u key counter src dst s) := by
  unfold runCopy; (repeat' split) <;> simp +contextual (maxDischargeDepth := 40) [*]

@[simp] theorem ctransEffect_canon (key : Nat) (c : Crumb) (s : State) (h : Canon s) :
    Canon (ctransEffect key c s) := by
  unfold ctransEffect; (repeat' split) <;> simp +contextual (maxDischargeDepth := 40) [*]

@[simp] theorem copyEffect_canon (sc : Score) (key : Nat) (c : Crumb) (s : State) (h : Canon s) :
    Canon (copyEffect sc key c s) := by
  unfold copyEffect; (repeat' split) <;> simp +contextual (maxDischargeDepth := 40) [*]

@[simp] theorem hostLoad_canon (base : Nat) (d : Desc) (s : State) (h : Canon s) :
    Canon (hostLoad base d s) := by
  unfold hostLoad; (repeat' split) <;> simp +contextual (maxDischargeDepth := 40) [*]

@[simp] theorem hostStore_canon (base : Nat) (d : Desc) (s : State) (h : Canon s) :
    Canon (hostStore base d s) := by
  unfold hostStore; repeat' (first | (simp +contextual (maxDischargeDepth := 40) [*]; done) | split | dsimp only)

@[simp] theorem hostRule_apply_canon (q : Req) (value : Bytes) (s : State) (u0 : State) (h : Canon u0) :
    Canon ((hostRule q value s).apply u0) := by
  unfold hostRule; (repeat' split) <;> simp +contextual (maxDischargeDepth := 40) [*]

@[simp] theorem hostRule_after_canon (q : Req) (value : Bytes) (s : State) (u0 : State) (h : Canon u0) :
    Canon ((hostRule q value s).after u0) := by
  unfold hostRule; (repeat' split) <;> simp +contextual (maxDischargeDepth := 40) [*]

@[simp] theorem hostRule_onReject_canon (q : Req) (value : Bytes) (s : State) (u0 : State) (h : Canon u0) :
    Canon ((hostRule q value s).onReject u0) := by
  unfold hostRule; (repeat' split) <;> simp +contextual (maxDischargeDepth := 40) [*]

@[simp] theorem withStep_canon (f : Step → Step) (s : State) (h : Canon s) :
    Canon (withStep f s) := by
  exact canon_of_keeps (by simp) h

@[simp] theorem addToken_canon (sc : Score) (t1 : Nat) (n : Nat) (s : State) (h : Canon s) :
    Canon (addToken sc t1 n s) := by
  unfold addToken; (repeat' split) <;> simp +contextual (maxDischargeDepth := 40) [*]

@[simp] theorem withCreditUsed_canon (unit : Nat) (ep : Nat) (cls : Nat) (n : Nat) (s : State) (h : Canon s) :
    Canon (withCreditUsed unit ep cls n s) := by
  exact canon_of_keeps (by simp) h

@[simp] theorem takeCredit_canon (unit : Nat) (ep : Nat) (cls : Nat) (s : State) (h : Canon s) :
    Canon (takeCredit unit ep cls s) := by
  exact canon_of_keeps (by simp) h

@[simp] theorem sendToken_canon (unit : Nat) (d : TokDecl) (n : Nat) (s : State) (h : Canon s) :
    Canon (sendToken unit d n s) := by
  exact canon_of_keeps (by simp) h

@[simp] theorem sendGrant_canon (unit : Nat) (p : PoolDecl) (n : Nat) (s : State) (h : Canon s) :
    Canon (sendGrant unit p n s) := by
  exact canon_of_keeps (by simp) h

@[simp] theorem deliverFrom_canon (unit : Nat) (sc : Score) (die : Nat) (ep : Nat) (rs : List TokRef) (s : State) (h : Canon s) :
    Canon (deliverFrom unit sc die ep rs s) := by
  unfold deliverFrom; repeat' (first | (simp +contextual (maxDischargeDepth := 40) [*]; done) | split | dsimp only | (apply canon_foldl <;> intros) | (apply onScore_canon <;> intros) | (apply stepDataError_canon <;> intros))

@[simp] theorem deliver_canon (sc : Score) (die : Nat) (ep : Nat) (rs : List TokRef) (s : State) (h : Canon s) :
    Canon (deliver sc die ep rs s) := by
  unfold deliver; (repeat' split) <;> simp +contextual (maxDischargeDepth := 40) [*]

@[simp] theorem addFill_canon (sc : Score) (b : Nat) (n : Nat) (s : State) (h : Canon s) :
    Canon (addFill sc b n s) := by
  unfold addFill; (repeat' split) <;> simp +contextual (maxDischargeDepth := 40) [*]

@[simp] theorem spendPool_canon (p : Nat) (n : Nat) (s : State) (h : Canon s) :
    Canon (spendPool p n s) := by
  exact canon_of_keeps (by simp) h

@[simp] theorem returnPool_canon (p : Nat) (n : Nat) (s : State) (h : Canon s) :
    Canon (returnPool p n s) := by
  exact canon_of_keeps (by simp) h

@[simp] theorem withSeq_canon (half : Nat) (core : Nat) (q : Seq) (s : State) (h : Canon s) :
    Canon (withSeq half core q s) := by
  exact canon_of_keeps (by simp) h

@[simp] theorem fetchRecord_canon (sc : Score) (key : Nat) (s : State) (i : Nat) (h : Canon s) :
    Canon (fetchRecord sc key s i) := by
  unfold fetchRecord; repeat' (first | (simp +contextual (maxDischargeDepth := 40) [*]; done) | split | dsimp only)

@[simp] theorem advanceList_canon (sc : Score) (half : Nat) (core : Nat) (before : List Nat) (q : Seq) (s : State) (h : Canon s) :
    Canon (advanceList sc half core before q s) := by
  unfold advanceList; (repeat' split) <;> simp +contextual (maxDischargeDepth := 40) [*]

@[simp] theorem setList_canon (sc : Score) (half : Nat) (core : Nat) (q : Seq) (s : State) (h : Canon s) :
    Canon (setList sc half core q s) := by
  unfold setList; (repeat' split) <;> simp +contextual (maxDischargeDepth := 40) [*]

@[simp] theorem fetchOperand_canon (sc : Score) (half : Nat) (core : Nat) (p : Prefetch) (s : State) (h : Canon s) :
    Canon (fetchOperand sc half core p s) := by
  unfold fetchOperand; (repeat' split) <;> simp +contextual (maxDischargeDepth := 40) [*]

@[simp] theorem refillPrefetch_canon (sc : Score) (half : Nat) (core : Nat) (s : State) (h : Canon s) :
    Canon (refillPrefetch sc half core s) := by
  unfold refillPrefetch; (repeat' split) <;> simp +contextual (maxDischargeDepth := 40) [*]

@[simp] theorem endPrefetch_canon (i : Nat) (s : State) (h : Canon s) :
    Canon (endPrefetch i s) := by
  exact canon_of_keeps (by simp) h

@[simp] theorem crumbEffect_canon (sc : Score) (half : Nat) (core : Nat) (key : Nat) (i : Nat) (c : Crumb) (s : State) (h : Canon s) :
    Canon (crumbEffect sc half core key i c s) := by
  unfold crumbEffect; (repeat' split) <;> simp +contextual (maxDischargeDepth := 40) [*]

@[simp] theorem noteReads_canon (sc : Score) (key : Nat) (c : Crumb) (s : State) (h : Canon s) :
    Canon (noteReads sc key c s) := by
  unfold noteReads; repeat' (first | (simp +contextual (maxDischargeDepth := 40) [*]; done) | split | dsimp only)

@[simp] theorem fireCrumb_canon (sc : Score) (half : Nat) (core : Nat) (i : Nat) (owner : Nat) (c : Crumb) (errs : List StoreErr) (s : State) (h : Canon s) :
    Canon (fireCrumb sc half core i owner c errs s) := by
  unfold fireCrumb; (repeat' split) <;> simp +contextual (maxDischargeDepth := 40) [*]

@[simp] theorem sendOutputs_canon (sc : Score) (c : Crumb) (credits : Bool) (s : State) (h : Canon s) :
    Canon (sendOutputs sc c credits s) := by
  unfold sendOutputs; repeat' (first | (simp +contextual (maxDischargeDepth := 40) [*]; done) | split | dsimp only | (apply canon_foldl <;> intros) | (apply onScore_canon <;> intros) | (apply stepDataError_canon <;> intros))

@[simp] theorem onScore_canon (s : State) (f : Score → State → State)
    (k : ∀ sc u, Canon u → Canon (f sc u)) (h : Canon s) : Canon (onScore s f) := by
  unfold onScore
  split
  · exact k _ _ h
  · exact h

@[simp] theorem retireHead_canon (sc : Score) (half : Nat) (core : Nat) (c : Crumb) (i : Nat) (q : Seq) (s : State) (h : Canon s) :
    Canon (retireHead sc half core c i q s) := by
  unfold retireHead; (repeat' split) <;> simp +contextual (maxDischargeDepth := 40) [*]

@[simp] theorem flushPending_canon (sc : Score) (unit : Nat) (ep : Nat) (cls : Nat) (s : State) (h : Canon s) :
    Canon (flushPending sc unit ep cls s) := by
  exact canon_of_keeps (by simp) h

@[simp] theorem withFab_canon (f : Fabric → Fabric) (s : State) (h : Canon s) :
    Canon (withFab f s) := by
  exact canon_of_keeps (by simp) h

@[simp] theorem enqueueFwd_canon (x : Carried) (s : State) (h : Canon s) :
    Canon (enqueueFwd x s) := by
  exact canon_of_keeps (by simp) h

@[simp] theorem drainOut_canon (s : State) (h : Canon s) :
    Canon (drainOut s) := by
  exact canon_of_keeps (by simp) h

@[simp] theorem sendParcel_canon (dst : Nat) (cls : Nat) (kind : Nat) (st : Stream) (kf : Nat) (payload : Bytes) (s : State) (h : Canon s) :
    Canon (sendParcel dst cls kind st kf payload s) := by
  unfold sendParcel; (repeat' split) <;> simp +contextual (maxDischargeDepth := 40) [*]

@[simp] theorem sendControl_canon (dst : Nat) (kind : Nat) (kf : Nat) (s : State) (h : Canon s) :
    Canon (sendControl dst kind kf s) := by
  unfold sendControl; (repeat' split) <;> simp +contextual (maxDischargeDepth := 40) [*]

@[simp] theorem returnOn_canon (c : InCtx) (n : Nat) (s : State) (h : Canon s) :
    Canon (returnOn c n s) := by
  unfold returnOn; (repeat' split) <;> simp +contextual (maxDischargeDepth := 40) [*]

@[simp] theorem returnChunk_canon (c : Chunk) (s : State) (h : Canon s) :
    Canon (returnChunk c s) := by
  unfold returnChunk; (repeat' split) <;> simp +contextual (maxDischargeDepth := 40) [*]

@[simp] theorem discardWaiting_canon (gone : Carried → Bool) (s : State) (h : Canon s) :
    Canon (discardWaiting gone s) := by
  exact canon_of_keeps (by simp) h

@[simp] theorem silentVerdict_canon (peer : Nat) (s : State) (h : Canon s) :
    Canon (silentVerdict peer s) := by
  unfold silentVerdict; (repeat' split) <;> simp +contextual (maxDischargeDepth := 40) [*]

@[simp] theorem closeContexts_canon (s : State) (h : Canon s) :
    Canon (closeContexts s) := by
  exact canon_of_keeps (by simp) h

@[simp] theorem grantLease_canon (c : InCtx) (s : State) (h : Canon s) :
    Canon (grantLease c s) := by
  unfold grantLease; (repeat' split) <;> simp +contextual (maxDischargeDepth := 40) [*]

@[simp] theorem openContexts_canon (sc : Score) (s : State) (h : Canon s) :
    Canon (openContexts sc s) := by
  unfold openContexts; (repeat' split) <;> simp +contextual (maxDischargeDepth := 40) [*]

@[simp] theorem departed_canon (p : Parcel) (s : State) (h : Canon s) :
    Canon (departed p s) := by
  exact canon_of_keeps (by simp) h

@[simp] theorem withEngine_canon (k : Nat) (x : Engine) (s : State) (h : Canon s) :
    Canon (withEngine k x s) := by
  exact canon_of_keeps (by simp) h

@[simp] theorem runJob_canon (sc : Score) (u : Agent) (src : Desc) (dst : Desc) (s : State) (h : Canon s) :
    Canon (runJob sc u src dst s) := by
  unfold runJob; repeat' (first | (simp +contextual (maxDischargeDepth := 40) [*]; done) | split | dsimp only)

@[simp] theorem withStream_canon (i : Nat) (x : StreamRun) (s : State) (h : Canon s) :
    Canon (withStream i x s) := by
  exact canon_of_keeps (by simp) h

@[simp] theorem readStreamList_canon (sc : Score) (x : StreamDecl) (s : State) (h : Canon s) :
    Canon (readStreamList sc x s) := by
  unfold readStreamList; repeat' (first | (simp +contextual (maxDischargeDepth := 40) [*]; done) | split | dsimp only)

@[simp] theorem readStreamLine_canon (x : StreamDecl) (s : State) (line : Nat) (h : Canon s) :
    Canon (readStreamLine x s line) := by
  unfold readStreamLine; repeat' (first | (simp +contextual (maxDischargeDepth := 40) [*]; done) | split | dsimp only)

@[simp] theorem installStreamLine_canon (x : StreamDecl) (s : State) (line : Nat) (h : Canon s) :
    Canon (installStreamLine x s line) := by
  unfold installStreamLine; (repeat' split) <;> simp +contextual (maxDischargeDepth := 40) [*]

@[simp] theorem pllTake_canon (subs : List Nat) (s : State) (h : Canon s) :
    Canon (pllTake subs s) := by
  exact canon_of_keeps (by simp) h

@[simp] theorem withStackDir_canon (cd : Nat) (port : Nat) (toBase : Bool) (d : StackDir) (s : State) (h : Canon s) :
    Canon (withStackDir cd port toBase d s) := by
  unfold withStackDir; (repeat' split) <;> simp +contextual (maxDischargeDepth := 40) [*]

@[simp] theorem withLink_canon (k : Nat) (l : QlLink) (s : State) (h : Canon s) :
    Canon (withLink k l s) := by
  exact canon_of_keeps (by simp) h

@[simp] theorem failLink_canon (k : Nat) (s : State) (h : Canon s) :
    Canon (failLink k s) := by
  unfold failLink; (repeat' split) <;> simp +contextual (maxDischargeDepth := 40) [*]

@[simp] theorem beginRetrain_canon (k : Nat) (s : State) (h : Canon s) :
    Canon (beginRetrain k s) := by
  unfold beginRetrain; (repeat' split) <;> simp +contextual (maxDischargeDepth := 40) [*]

@[simp] theorem resendUnits_canon (k : Nat) (up : Bool) (s : State) (h : Canon s) :
    Canon (resendUnits k up s) := by
  unfold resendUnits; (repeat' split) <;> simp +contextual (maxDischargeDepth := 40) [*]

@[simp] theorem takeAckCredit_canon (k : Nat) (up : Bool) (f : UnitFields) (s : State) (h : Canon s) :
    Canon (takeAckCredit k up f s) := by
  exact canon_of_keeps (by simp) h

@[simp] theorem refuseUnit_canon (u : QlUnit) (s : State) (h : Canon s) :
    Canon (refuseUnit u s) := by
  exact canon_of_keeps (by simp) h

@[simp] theorem takeUnit_canon (u : QlUnit) (b : Bytes) (s : State) (h : Canon s) :
    Canon (takeUnit u b s) := by
  unfold takeUnit; (repeat' split) <;> simp +contextual (maxDischargeDepth := 40) [*]

@[simp] theorem clearNak_canon (u : QlUnit) (s : State) (h : Canon s) :
    Canon (clearNak u s) := by
  exact canon_of_keeps (by simp) h

@[simp] theorem linkUp_canon (k : Nat) (repaired : Nat) (exhausted : BitVec 8) (s : State) (h : Canon s) :
    Canon (linkUp k repaired exhausted s) := by
  unfold linkUp; (repeat' split) <;> simp +contextual (maxDischargeDepth := 40) [*]

@[simp] theorem withPho_canon (f : Photonics → Photonics) (s : State) (h : Canon s) :
    Canon (withPho f s) := by
  exact canon_of_keeps (by simp) h

@[simp] theorem withPort_canon (p : Nat) (x : Port) (s : State) (h : Canon s) :
    Canon (withPort p x s) := by
  exact canon_of_keeps (by simp) h

@[simp] theorem withTx_canon (p : Nat) (c : Nat) (x : TxLane) (s : State) (h : Canon s) :
    Canon (withTx p c x s) := by
  exact canon_of_keeps (by simp) h

@[simp] theorem withRx_canon (p : Nat) (c : Nat) (x : RxLane) (s : State) (h : Canon s) :
    Canon (withRx p c x s) := by
  exact canon_of_keeps (by simp) h

@[simp] theorem withRing_canon (tx : Bool) (p : Nat) (r : Nat) (x : Ring) (s : State) (h : Canon s) :
    Canon (withRing tx p r x s) := by
  exact canon_of_keeps (by simp) h

@[simp] theorem sendFrame_canon (p : Nat) (c : Nat) (state : Nat) (s : State) (h : Canon s) :
    Canon (sendFrame p c state s) := by
  exact canon_of_keeps (by simp) h

@[simp] theorem sendDueFrames_canon (s : State) (h : Canon s) :
    Canon (sendDueFrames s) := by
  exact canon_of_keeps (by simp) h

@[simp] theorem sendNotice_canon (p : Nat) (code : Nat) (about : Nat) (dst : Nat) (s : State) (h : Canon s) :
    Canon (sendNotice p code about dst s) := by
  exact canon_of_keeps (by simp) h

@[simp] theorem requeue_canon (xs : List Carried) (s : State) (h : Canon s) :
    Canon (requeue xs s) := by
  exact canon_of_keeps (by simp) h

@[simp] theorem outTx_canon (p : Nat) (c : Nat) (st : LaneState) (s : State) (h : Canon s) :
    Canon (outTx p c st s) := by
  exact canon_of_keeps (by simp) h

@[simp] theorem pullTx_canon (p : Nat) (c : Nat) (st : LaneState) (s : State) (h : Canon s) :
    Canon (pullTx p c st s) := by
  exact canon_of_keeps (by simp) h

@[simp] theorem forgetBuffers_canon (key : Nat) (s : State) (h : Canon s) :
    Canon (forgetBuffers key s) := by
  exact canon_of_keeps (by simp) h

@[simp] theorem pullRx_canon (p : Nat) (c : Nat) (st : LaneState) (s : State) (h : Canon s) :
    Canon (pullRx p c st s) := by
  exact canon_of_keeps (by simp) h

@[simp] theorem pullLane_canon (tx : Bool) (p : Nat) (c : Nat) (st : LaneState) (s : State) (h : Canon s) :
    Canon (pullLane tx p c st s) := by
  exact canon_of_keeps (by simp) h

@[simp] theorem oweCredit_canon (p : Nat) (c : Nat) (cls : Nat) (pool : Nat) (n : Nat) (s : State) (h : Canon s) :
    Canon (oweCredit p c cls pool n s) := by
  exact canon_of_keeps (by simp) h

@[simp] theorem freeBuffers_canon (bs : List (Nat × Nat × Nat × Nat)) (s : State) (h : Canon s) :
    Canon (freeBuffers bs s) := by
  exact canon_of_keeps (by simp) h

@[simp] theorem sendBare_canon (p : Nat) (c : Nat) (kind : Nat) (s : State) (h : Canon s) :
    Canon (sendBare p c kind s) := by
  exact canon_of_keeps (by simp) h

@[simp] theorem parcelGone_canon (x : Carried) (s : State) (h : Canon s) :
    Canon (parcelGone x s) := by
  exact canon_of_keeps (by simp) h

@[simp] theorem sendData_canon (p : Nat) (c : Nat) (cls : Nat) (pool : Nat) (key : Nat) (s : State) (h : Canon s) :
    Canon (sendData p c cls pool key s) := by
  unfold sendData; (repeat' split) <;> simp +contextual (maxDischargeDepth := 40) [*]

@[simp] theorem pumpFlits_canon (p c n : Nat) (s : State) (h : Canon s) : Canon (pumpFlits p c n s) := by
  induction n generalizing s with
  | zero => simpa [pumpFlits] using h
  | succ n ih =>
    unfold pumpFlits
    extract_lets l
    split
    · exact h
    · split
      · exact ih _ (sendData_canon _ _ _ _ _ _ h)
      · split
        · exact ih _ (sendBare_canon _ _ _ _ h)
        · exact h

@[simp] theorem pumpLane_canon (p : Nat) (c : Nat) (s : State) (h : Canon s) :
    Canon (pumpLane p c s) := by
  unfold pumpLane; (repeat' split) <;> simp +contextual (maxDischargeDepth := 40) [*]

@[simp] theorem pumpLanes_canon (s : State) (h : Canon s) :
    Canon (pumpLanes s) := by
  unfold pumpLanes; (repeat' split) <;> simp +contextual (maxDischargeDepth := 40) [*]

@[simp] theorem resendOne_canon (p : Nat) (c : Nat) (f : TxFlit) (s : State) (h : Canon s) :
    Canon (resendOne p c f s) := by
  exact canon_of_keeps (by simp) h

@[simp] theorem resendAll_canon (p : Nat) (c : Nat) (s : State) (h : Canon s) :
    Canon (resendAll p c s) := by
  unfold resendAll; (repeat' split) <;> simp +contextual (maxDischargeDepth := 40) [*]

@[simp] theorem withCol_canon (f : Collectives → Collectives) (s : State) (h : Canon s) :
    Canon (withCol f s) := by
  exact canon_of_keeps (by simp) h

@[simp] theorem withPral_canon (r : PralRun) (s : State) (h : Canon s) :
    Canon (withPral r s) := by
  exact canon_of_keeps (by simp) h

@[simp] theorem wordOnLane_canon (w : W128) (s : State) (lane : Nat × Nat) (h : Canon s) :
    Canon (wordOnLane w s lane) := by
  unfold wordOnLane; (repeat' split) <;> simp +contextual (maxDischargeDepth := 40) [*]

@[simp] theorem noteSend_canon (r : PralRun) (stage : Nat) (a : Nat) (s : State) (h : Canon s) :
    Canon (noteSend r stage a s) := by
  exact canon_of_keeps (by simp) h

@[simp] theorem sendPral_canon (r : PralRun) (stage : Nat) (a : Nat) (first : Bool) (s : State) (h : Canon s) :
    Canon (sendPral r stage a first s) := by
  unfold sendPral; (repeat' split) <;> simp +contextual (maxDischargeDepth := 40) [*]

@[simp] theorem sendStage_canon (r : PralRun) (stage : Nat) (s : State) (h : Canon s) :
    Canon (sendStage r stage s) := by
  unfold sendStage; (repeat' split) <;> simp +contextual (maxDischargeDepth := 40) [*]

@[simp] theorem pralAdvance_canon (n : Nat) (r : PralRun) (s : State) (h : Canon s) : Canon (pralAdvance n r s) := by
  induction n generalizing r s with
  | zero => simpa [pralAdvance] using h
  | succ n ih => unfold pralAdvance; repeat' (first | (simp (maxDischargeDepth := 40) [*]; done) | split | dsimp only)

@[simp] theorem storeWord_canon (r : PralRun) (src : Nat) (w : PralFields) (s : State) (h : Canon s) :
    Canon (storeWord r src w s) := by
  unfold storeWord; (repeat' split) <;> simp +contextual (maxDischargeDepth := 40) [*]

@[simp] theorem absorbEarly_canon (g : Nat) (seq : Nat) (round : Nat) (s : State) (h : Canon s) :
    Canon (absorbEarly g seq round s) := by
  unfold absorbEarly; repeat' (first | (simp +contextual (maxDischargeDepth := 40) [*]; done) | split | dsimp only | (apply canon_foldl <;> intros) | (apply onScore_canon <;> intros) | (apply stepDataError_canon <;> intros))

@[simp] theorem startPraline_canon (sc : Score) (coll : Nat) (op : Nat) (value : W64) (s : State) (h : Canon s) :
    Canon (startPraline sc coll op value s) := by
  unfold startPraline; (repeat' split) <;> simp +contextual (maxDischargeDepth := 40) [*]

@[simp] theorem takeFields_canon (src : Nat) (w : PralFields) (s : State) (h : Canon s) :
    Canon (takeFields src w s) := by
  unfold takeFields; (repeat' split) <;> simp +contextual (maxDischargeDepth := 40) [*]

@[simp] theorem badWord_canon (src : Nat) (w : PralFields) (s : State) (h : Canon s) :
    Canon (badWord src w s) := by
  unfold badWord; (repeat' split) <;> simp +contextual (maxDischargeDepth := 40) [*]

@[simp] theorem takeWord_canon (w : Praline) (s : State) (h : Canon s) :
    Canon (takeWord w s) := by
  unfold takeWord; repeat' (first | (simp +contextual (maxDischargeDepth := 40) [*]; done) | split | dsimp only)

@[simp] theorem repeatRun_canon (s : State) (r : PralRun) (h : Canon s) :
    Canon (repeatRun s r) := by
  unfold repeatRun; (repeat' split) <;> simp +contextual (maxDischargeDepth := 40) [*]

@[simp] theorem withRun_canon (n : Nat) (r : CollRun) (s : State) (h : Canon s) :
    Canon (withRun n r s) := by
  exact canon_of_keeps (by simp) h

@[simp] theorem sendRange_canon (x : CollCtx) (stage : Nat) (base : Nat) (peer : Nat) (r : Nat × Nat) (s : State) (h : Canon s) :
    Canon (sendRange x stage base peer r s) := by
  unfold sendRange; (repeat' split) <;> simp +contextual (maxDischargeDepth := 40) [*]

@[simp] theorem sendAll_canon (x : CollCtx) (stage : Nat) (s : State) (h : Canon s) :
    Canon (sendAll x stage s) := by
  unfold sendAll; (repeat' split) <;> simp +contextual (maxDischargeDepth := 40) [*]

@[simp] theorem returnHeld_canon (h0 : HeldChunk) (s : State) (h : Canon s) :
    Canon (returnHeld h0 s) := by
  unfold returnHeld; (repeat' split) <;> simp +contextual (maxDischargeDepth := 40) [*]

@[simp] theorem useChunk_canon (x : CollCtx) (h1 : HeldChunk) (s : State) (h : Canon s) :
    Canon (useChunk x h1 s) := by
  unfold useChunk; (repeat' split) <;> simp +contextual (maxDischargeDepth := 40) [*]

@[simp] theorem refetch_canon (x : CollCtx) (off : Nat) (len : Nat) (s : State) (h : Canon s) :
    Canon (refetch x off len s) := by
  unfold refetch; (repeat' split) <;> simp +contextual (maxDischargeDepth := 40) [*]

@[simp] theorem badChunk_canon (c : Chunk) (s : State) (h : Canon s) :
    Canon (badChunk c s) := by
  unfold badChunk; (repeat' split) <;> simp +contextual (maxDischargeDepth := 40) [*]

@[simp] theorem noteReceived_canon (n : Nat) (c : Chunk) (s : State) (h : Canon s) :
    Canon (noteReceived n c s) := by
  exact canon_of_keeps (by simp) h

@[simp] theorem applyChunk_canon (x : CollCtx) (s : State) (h2 : HeldChunk) (h : Canon s) :
    Canon (applyChunk x s h2) := by
  unfold applyChunk; (repeat' split) <;> simp +contextual (maxDischargeDepth := 40) [*]

@[simp] theorem orderedSums_canon (x : CollCtx) (stage : Nat) (s : State) (h : Canon s) :
    Canon (orderedSums x stage s) := by
  unfold orderedSums; (repeat' split) <;> simp +contextual (maxDischargeDepth := 40) [*]

@[simp] theorem mergeLists_canon (x : CollCtx) (stage : Nat) (s : State) (h : Canon s) :
    Canon (mergeLists x stage s) := by
  unfold mergeLists; (repeat' split) <;> simp +contextual (maxDischargeDepth := 40) [*]

@[simp] theorem examine_canon (x : CollCtx) (s : State) (h : Canon s) :
    Canon (examine x s) := by
  unfold examine; (repeat' split) <;> simp +contextual (maxDischargeDepth := 40) [*]

@[simp] theorem tee_canon (x : CollCtx) (t1 : Nat) (s : State) (h : Canon s) :
    Canon (tee x t1 s) := by
  unfold tee; (repeat' split) <;> simp +contextual (maxDischargeDepth := 40) [*]

@[simp] theorem settleTokens_canon (x : CollCtx) (s : State) (h : Canon s) :
    Canon (settleTokens x s) := by
  unfold settleTokens; (repeat' split) <;> simp +contextual (maxDischargeDepth := 40) [*]

@[simp] theorem tokensFall_canon (x : CollCtx) (s : State) (h : Canon s) :
    Canon (tokensFall x s) := by
  unfold tokensFall; (repeat' split) <;> simp +contextual (maxDischargeDepth := 40) [*]

@[simp] theorem dropHeld_canon (n : Nat) (s : State) (h : Canon s) :
    Canon (dropHeld n s) := by
  unfold dropHeld; (repeat' split) <;> simp +contextual (maxDischargeDepth := 40) [*]

@[simp] theorem completeColl_canon (x : CollCtx) (s : State) (h : Canon s) :
    Canon (completeColl x s) := by
  unfold completeColl; (repeat' split) <;> simp +contextual (maxDischargeDepth := 40) [*]

@[simp] theorem useHeld_canon (x : CollCtx) (s : State) (h : Canon s) :
    Canon (useHeld x s) := by
  unfold useHeld; (repeat' split) <;> simp +contextual (maxDischargeDepth := 40) [*]

@[simp] theorem enterStage_canon (x : CollCtx) (stage : Nat) (s : State) (h : Canon s) :
    Canon (enterStage x stage s) := by
  unfold enterStage; (repeat' split) <;> simp +contextual (maxDischargeDepth := 40) [*]

@[simp] theorem afterReduce_canon (x : CollCtx) (s : State) (h : Canon s) :
    Canon (afterReduce x s) := by
  unfold afterReduce; (repeat' split) <;> simp +contextual (maxDischargeDepth := 40) [*]

@[simp] theorem nextStage_canon (x : CollCtx) (s : State) (h : Canon s) :
    Canon (nextStage x s) := by
  unfold nextStage; (repeat' split) <;> simp +contextual (maxDischargeDepth := 40) [*]

@[simp] theorem advanceColl_canon (x : CollCtx) (n : Nat) (s : State) (h : Canon s) : Canon (advanceColl x n s) := by
  induction n generalizing s with
  | zero => simpa [advanceColl] using h
  | succ n ih =>
    unfold advanceColl
    extract_lets r
    split
    · exact ih _ (nextStage_canon _ _ h)
    · exact h

@[simp] theorem noteDigest_canon (x : CollCtx) (s : State) (h : Canon s) :
    Canon (noteDigest x s) := by
  exact canon_of_keeps (by simp) h

@[simp] theorem checkSource_canon (x : CollCtx) (s : State) (h : Canon s) :
    Canon (checkSource x s) := by
  unfold checkSource; (repeat' split) <;> simp +contextual (maxDischargeDepth := 40) [*]

@[simp] theorem freshRun_canon (n : Nat) (s : State) (h : Canon s) :
    Canon (freshRun n s) := by
  exact canon_of_keeps (by simp) h

@[simp] theorem runColl_canon (x : CollCtx) (s : State) (h : Canon s) :
    Canon (runColl x s) := by
  unfold runColl; (repeat' split) <;> simp +contextual (maxDischargeDepth := 40) [*]

@[simp] theorem finishPraline_canon (x : CollCtx) (s : State) (h : Canon s) :
    Canon (finishPraline x s) := by
  unfold finishPraline; (repeat' split) <;> simp +contextual (maxDischargeDepth := 40) [*]

@[simp] theorem finishPralines_canon (sc : Score) (s : State) (h : Canon s) :
    Canon (finishPralines sc s) := by
  unfold finishPralines; repeat' (first | (simp +contextual (maxDischargeDepth := 40) [*]; done) | split | dsimp only | (apply canon_foldl <;> intros) | (apply onScore_canon <;> intros) | (apply stepDataError_canon <;> intros))

@[simp] theorem startColl_canon (x : CollCtx) (s : State) (h : Canon s) :
    Canon (startColl x s) := by
  unfold startColl; (repeat' split) <;> simp +contextual (maxDischargeDepth := 40) [*]

@[simp] theorem chunkNow_canon (sc : Score) (h1 : HeldChunk) (s : State) (h : Canon s) :
    Canon (chunkNow sc h1 s) := by
  unfold chunkNow; repeat' (first | (simp +contextual (maxDischargeDepth := 40) [*]; done) | split | dsimp only)

@[simp] theorem takeChunk_canon (tagGood : Bool) (c : Chunk) (s : State) (h : Canon s) :
    Canon (takeChunk tagGood c s) := by
  unfold takeChunk; (repeat' split) <;> simp +contextual (maxDischargeDepth := 40) [*]

@[simp] theorem takeEarly_canon (s : State) (h : Canon s) :
    Canon (takeEarly s) := by
  unfold takeEarly; (repeat' split) <;> simp +contextual (maxDischargeDepth := 40) [*]

@[simp] theorem reviewColl_canon (x : CollCtx) (s : State) (h : Canon s) :
    Canon (reviewColl x s) := by
  unfold reviewColl; (repeat' split) <;> simp +contextual (maxDischargeDepth := 40) [*]

@[simp] theorem reviewColls_canon (s : State) (h : Canon s) :
    Canon (reviewColls s) := by
  unfold reviewColls; repeat' (first | (simp +contextual (maxDischargeDepth := 40) [*]; done) | split | dsimp only | (apply canon_foldl <;> intros) | (apply onScore_canon <;> intros) | (apply stepDataError_canon <;> intros))

@[simp] theorem pushHistory_canon (lrec : Bytes) (s : State) (h : Canon s) : Canon (pushHistory lrec s) := by
  unfold pushHistory
  induction List.range 64 with
  | nil => exact h
  | cons a t ih => exact withRg_canon _ _ _ _ ih

@[simp] theorem reportLoss_canon (sc : Score) (s : State) (h : Canon s) :
    Canon (reportLoss sc s) := by
  unfold reportLoss; (repeat' split) <;> simp +contextual (maxDischargeDepth := 40) [*]

@[simp] theorem holdAtEnd_canon (s : State) (h : Canon s) :
    Canon (holdAtEnd s) := by
  exact canon_of_keeps (by simp) h

@[simp] theorem scaleStep_canon (v : Verdict) (s : State) (h : Canon s) :
    Canon (scaleStep v s) := by
  unfold scaleStep; (repeat' split) <;> simp +contextual (maxDischargeDepth := 40) [*]

@[simp] theorem applyOutcome_canon (sc : Score) (s : State) (h : Canon s) :
    Canon (applyOutcome sc s) := by
  unfold applyOutcome; repeat' (first | (simp +contextual (maxDischargeDepth := 40) [*]; done) | split | dsimp only)

@[simp] theorem releaseHeld_canon (accept : Bool) (sc : Score) (s : State) (h : Canon s) :
    Canon (releaseHeld accept sc s) := by
  unfold releaseHeld; (repeat' split) <;> simp +contextual (maxDischargeDepth := 40) [*]

@[simp] theorem captureIndicators_canon (sc : Score) (s : State) (h : Canon s) : Canon (captureIndicators sc s).2 :=
  canon_of_keeps (by simp) h

@[simp] theorem forcedVoid_canon (cause : W32) (s : State) (h : Canon s) :
    Canon (forcedVoid cause s) := by
  unfold forcedVoid; (repeat' split) <;> simp +contextual (maxDischargeDepth := 40) [*]

@[simp] theorem contribute_canon (sc : Score) (s : State) (h : Canon s) :
    Canon (contribute sc s) := by
  unfold contribute; (repeat' split) <;> simp +contextual (maxDischargeDepth := 40) [*]

@[simp] theorem settlePair_canon (sc : Score) (partner digest : Nat) (s : State) (h : Canon s) : Canon (settlePair sc partner digest s) := by
  have h1 : Canon (withRg 0x8020 4 digest { s with res := { s.res with partner := none } }) := withRg_canon _ _ _ _ (canon_set_res _ h)
  unfold settlePair
  dsimp only
  split
  · exact contribute_canon _ _ h1
  · exact contribute_canon _ _ (raise_canon _ _ _ _ (forcedVoid_canon _ _ (bump_canon _ _ _ _ h1)))

@[simp] theorem holdCommit_canon (s : State) (h : Canon s) :
    Canon (holdCommit s) := by
  unfold holdCommit; (repeat' split) <;> simp +contextual (maxDischargeDepth := 40) [*]

@[simp] theorem verdictPoint_canon (sc : Score) (s : State) (h : Canon s) :
    Canon (verdictPoint sc s) := by
  unfold verdictPoint; repeat' (first | (simp +contextual (maxDischargeDepth := 40) [*]; done) | split | dsimp only)

@[simp] theorem takePairDigest_canon (m0 : PairDigestMsg) (s : State) (h : Canon s) :
    Canon (takePairDigest m0 s) := by
  unfold takePairDigest; (repeat' split) <;> simp +contextual (maxDischargeDepth := 40) [*]

@[simp] theorem replayReduce_canon (sc : Score) (s : State) (h : Canon s) :
    Canon (replayReduce sc s) := by
  unfold replayReduce; repeat' (first | (simp +contextual (maxDischargeDepth := 40) [*]; done) | split | dsimp only | (apply canon_foldl <;> intros) | (apply onScore_canon <;> intros) | (apply stepDataError_canon <;> intros))

@[simp] theorem establishPoint_canon (s : State) (h : Canon s) :
    Canon (establishPoint s) := by
  unfold establishPoint; (repeat' split) <;> simp +contextual (maxDischargeDepth := 40) [*]

@[simp] theorem proofReplay_canon (sc : Score) (s : State) (h : Canon s) :
    Canon (proofReplay sc s) := by
  unfold proofReplay; repeat' (first | (simp +contextual (maxDischargeDepth := 40) [*]; done) | split | dsimp only)

@[simp] theorem dropStale_canon (s : State) (h : Canon s) :
    Canon (dropStale s) := by
  unfold dropStale; (repeat' split) <;> simp +contextual (maxDischargeDepth := 40) [*]

@[simp] theorem decideVerdict_canon (sc : Score) (w : W64) (s : State) (h : Canon s) :
    Canon (decideVerdict sc w s) := by
  unfold decideVerdict; (repeat' split) <;> simp +contextual (maxDischargeDepth := 40) [*]

@[simp] theorem completeVerdict_canon (sc : Score) (w : W64) (s : State) (h : Canon s) :
    Canon (completeVerdict sc w s) := by
  unfold completeVerdict; repeat' (first | (simp +contextual (maxDischargeDepth := 40) [*]; done) | split | dsimp only)

@[simp] theorem secureWrite_canon (m0 : RemoteMsg) (holder : Nat) (blocks : List (Nat × Bytes)) (s : State) (h : Canon s) :
    Canon (secureWrite m0 holder blocks s) := by
  unfold secureWrite; (repeat' split) <;> simp +contextual (maxDischargeDepth := 40) [*]

@[simp] theorem secureRegion_canon (sc : Score) (s : State) (r : Nat × Nat × Nat × Nat) (h : Canon s) :
    Canon (secureRegion sc s r) := by
  unfold secureRegion; (repeat' split) <;> simp +contextual (maxDischargeDepth := 40) [*]

@[simp] theorem secureTheRecord_canon (sc : Score) (s : State) (h : Canon s) :
    Canon (secureTheRecord sc s) := by
  unfold secureTheRecord; (repeat' split) <;> simp +contextual (maxDischargeDepth := 40) [*]

@[simp] theorem dropAs_canon (st : LaneState) (tx : Bool) (p : Nat) (c : Nat) (s : State) (h : Canon s) :
    Canon (dropAs st tx p c s) := by
  unfold dropAs; (repeat' split) <;> simp +contextual (maxDischargeDepth := 40) [*]

@[simp] theorem dropLane_canon (tx : Bool) (p : Nat) (c : Nat) (s : State) (h : Canon s) :
    Canon (dropLane tx p c s) := by
  unfold dropLane; (repeat' split) <;> simp +contextual (maxDischargeDepth := 40) [*]

@[simp] theorem beginSearch_canon (tx : Bool) (p : Nat) (c : Nat) (lost : Bool) (s : State) (h : Canon s) :
    Canon (beginSearch tx p c lost s) := by
  unfold beginSearch; (repeat' split) <;> simp +contextual (maxDischargeDepth := 40) [*]

@[simp] theorem failRing_canon (tx : Bool) (p : Nat) (c : Nat) (s : State) (h : Canon s) :
    Canon (failRing tx p c s) := by
  unfold failRing; (repeat' split) <;> simp +contextual (maxDischargeDepth := 40) [*]

@[simp] theorem rxIntoService_canon (p : Nat) (c : Nat) (s : State) (h : Canon s) :
    Canon (rxIntoService p c s) := by
  unfold rxIntoService; repeat' (first | (simp +contextual (maxDischargeDepth := 40) [*]; done) | split | dsimp only)

@[simp] theorem reachable_canon (p : Nat) (c : Nat) (s : State) (h : Canon s) :
    Canon (reachable p c s) := by
  exact canon_of_keeps (by simp) h

@[simp] theorem txIntoService_canon (p : Nat) (c : Nat) (s : State) (h : Canon s) :
    Canon (txIntoService p c s) := by
  unfold txIntoService; (repeat' split) <;> simp +contextual (maxDischargeDepth := 40) [*]

@[simp] theorem parkRings_canon (tx : Bool) (p : Nat) (s : State) (h : Canon s) :
    Canon (parkRings tx p s) := by
  exact canon_of_keeps (by simp) h

@[simp] theorem sweepAnchor_canon (tx : Bool) (p : Nat) (s : State) (h : Canon s) :
    Canon (sweepAnchor tx p s) := by
  exact canon_of_keeps (by simp) h

@[simp] theorem setDataRings_canon (tx : Bool) (p : Nat) (s : State) (h : Canon s) :
    Canon (setDataRings tx p s) := by
  exact canon_of_keeps (by simp) h

@[simp] theorem portOn_canon (p : Nat) (s : State) (h : Canon s) :
    Canon (portOn p s) := by
  exact canon_of_keeps (by simp) h

@[simp] theorem lightLasers_canon (which : Nat → Bool) (s : State) (h : Canon s) :
    Canon (lightLasers which s) := by
  exact canon_of_keeps (by simp) h

@[simp] theorem lightAll_canon (s : State) (h : Canon s) :
    Canon (lightAll s) := by
  exact canon_of_keeps (by simp) h

@[simp] theorem txAnchorFound_canon (p : Nat) (s : State) (h : Canon s) :
    Canon (txAnchorFound p s) := by
  exact canon_of_keeps (by simp) h

@[simp] theorem rxAnchorFound_canon (p : Nat) (s : State) (h : Canon s) :
    Canon (rxAnchorFound p s) := by
  exact canon_of_keeps (by simp) h

@[simp] theorem commissionPort_canon (p : Nat) (s : State) (h : Canon s) :
    Canon (commissionPort p s) := by
  exact canon_of_keeps (by simp) h

@[simp] theorem commissionAll_canon (s : State) (h : Canon s) :
    Canon (commissionAll s) := by
  exact canon_of_keeps (by simp) h

@[simp] theorem recommissionRule_apply_canon (value : Bytes) (s : State) (u0 : State) (h : Canon u0) :
    Canon ((recommissionRule value s).apply u0) := by
  exact canon_of_keeps (by simp) h

@[simp] theorem recommissionRule_after_canon (value : Bytes) (s : State) (u0 : State) (h : Canon u0) :
    Canon ((recommissionRule value s).after u0) := by
  exact canon_of_keeps (by simp) h

@[simp] theorem recommissionRule_onReject_canon (value : Bytes) (s : State) (u0 : State) (h : Canon u0) :
    Canon ((recommissionRule value s).onReject u0) := by
  exact canon_of_keeps (by simp) h

@[simp] theorem plantEvent_canon (p : Nat) (c : Nat) (s : State) (h : Canon s) :
    Canon (plantEvent p c s) := by
  unfold plantEvent; (repeat' split) <;> simp +contextual (maxDischargeDepth := 40) [*]

@[simp] theorem plantVerdict_canon (p : Nat) (c : Nat) (source : Nat) (s : State) (h : Canon s) :
    Canon (plantVerdict p c source s) := by
  unfold plantVerdict; (repeat' split) <;> simp +contextual (maxDischargeDepth := 40) [*]

@[simp] theorem searchExhausted_canon (tx : Bool) (p : Nat) (c : Nat) (s : State) (h : Canon s) :
    Canon (searchExhausted tx p c s) := by
  unfold searchExhausted; (repeat' split) <;> simp +contextual (maxDischargeDepth := 40) [*]

@[simp] theorem rejectLine_canon (tx : Bool) (p : Nat) (c : Nat) (s : State) (h : Canon s) :
    Canon (rejectLine tx p c s) := by
  unfold rejectLine; (repeat' split) <;> simp +contextual (maxDischargeDepth := 40) [*]

@[simp] theorem mismatchVerdict_canon (p : Nat) (c : Nat) (source : Nat) (sourcePort : Nat) (colour : Nat) (s : State) (h : Canon s) :
    Canon (mismatchVerdict p c source sourcePort colour s) := by
  unfold mismatchVerdict; (repeat' split) <;> simp +contextual (maxDischargeDepth := 40) [*]

@[simp] theorem takeNotice_canon (p : Nat) (source : Nat) (code : Nat) (colour : Nat) (s : State) (h : Canon s) :
    Canon (takeNotice p source code colour s) := by
  unfold takeNotice; repeat' (first | (simp +contextual (maxDischargeDepth := 40) [*]; done) | split | dsimp only)

@[simp] theorem takeLaneState_canon (p : Nat) (c : Nat) (code : Nat) (s : State) (h : Canon s) :
    Canon (takeLaneState p c code s) := by
  exact canon_of_keeps (by simp) h

@[simp] theorem judgeFrame_canon (p : Nat) (c : Nat) (f : FrameFields) (s : State) (h : Canon s) :
    Canon (judgeFrame p c f s) := by
  unfold judgeFrame; (repeat' split) <;> simp +contextual (maxDischargeDepth := 40) [*]

@[simp] theorem failSpare_canon (tx : Bool) (p : Nat) (s : State) (h : Canon s) :
    Canon (failSpare tx p s) := by
  unfold failSpare; (repeat' split) <;> simp +contextual (maxDischargeDepth := 40) [*]

@[simp] theorem generationRule_apply_canon (sub : Nat) (value : Bytes) (u0 : State) (h : Canon u0) :
    Canon ((generationRule sub value).apply u0) := by
  unfold generationRule; (repeat' split) <;> simp +contextual (maxDischargeDepth := 40) [*]

@[simp] theorem generationRule_after_canon (sub : Nat) (value : Bytes) (u0 : State) (h : Canon u0) :
    Canon ((generationRule sub value).after u0) := by
  unfold generationRule; (repeat' split) <;> simp +contextual (maxDischargeDepth := 40) [*]

@[simp] theorem generationRule_onReject_canon (sub : Nat) (value : Bytes) (u0 : State) (h : Canon u0) :
    Canon ((generationRule sub value).onReject u0) := by
  unfold generationRule; (repeat' split) <;> simp +contextual (maxDischargeDepth := 40) [*]

@[simp] theorem takeForSlot_canon (p : Nat) (c : Nat) (s : State) (h : Canon s) :
    Canon (takeForSlot p c s) := by
  exact canon_of_keeps (by simp) h

@[simp] theorem withLaser_canon (n : Nat) (x : Laser) (s : State) (h : Canon s) :
    Canon (withLaser n x s) := by
  exact canon_of_keeps (by simp) h

@[simp] theorem withSpareLaser_canon (n : Nat) (x : SpareLaser) (s : State) (h : Canon s) :
    Canon (withSpareLaser n x s) := by
  exact canon_of_keeps (by simp) h

@[simp] theorem finishSwitch_canon (w : Switchover) (s : State) (h : Canon s) :
    Canon (finishSwitch w s) := by
  unfold finishSwitch; repeat' (first | (simp +contextual (maxDischargeDepth := 40) [*]; done) | split | dsimp only)

@[simp] theorem switchPort_canon (p : Nat) (laser : Nat) (s : State) (h : Canon s) :
    Canon (switchPort p laser s) := by
  unfold switchPort; (repeat' split) <;> simp +contextual (maxDischargeDepth := 40) [*]

@[simp] theorem endSlotLane_canon (p : Nat) (c : Nat) (back : Bool) (farOff : Bool) (s : State) (h : Canon s) :
    Canon (endSlotLane p c back farOff s) := by
  unfold endSlotLane; (repeat' split) <;> simp +contextual (maxDischargeDepth := 40) [*]

@[simp] theorem noSpareLeft_canon (laser : Nat) (s : State) (h : Canon s) :
    Canon (noSpareLeft laser s) := by
  unfold noSpareLeft; (repeat' split) <;> simp +contextual (maxDischargeDepth := 40) [*]

@[simp] theorem dropGroup_canon (laser : Nat) (s : State) (h : Canon s) :
    Canon (dropGroup laser s) := by
  unfold dropGroup; (repeat' split) <;> simp +contextual (maxDischargeDepth := 40) [*]

@[simp] theorem needSpare_canon (laser : Nat) (sudden : Bool) (s : State) (h : Canon s) :
    Canon (needSpare laser sudden s) := by
  unfold needSpare; repeat' (first | (simp +contextual (maxDischargeDepth := 40) [*]; done) | split | dsimp only)

@[simp] theorem judgePower_canon (laser : Nat) (reading : Nat) (readings : List Nat) (s : State) (h : Canon s) :
    Canon (judgePower laser reading readings s) := by
  unfold judgePower; (repeat' split) <;> simp +contextual (maxDischargeDepth := 40) [*]

@[simp] theorem portOut_canon (s : State) (p : Nat) (h : Canon s) :
    Canon (portOut s p) := by
  exact canon_of_keeps (by simp) h

@[simp] theorem lanesOut_canon (s : State) (h : Canon s) :
    Canon (lanesOut s) := by
  exact canon_of_keeps (by simp) h

@[simp] theorem photonicsDoze_canon (s : State) (h : Canon s) :
    Canon (photonicsDoze s) := by
  exact canon_of_keeps (by simp) h

@[simp] theorem photonicsWake_canon (s : State) (h : Canon s) :
    Canon (photonicsWake s) := by
  exact canon_of_keeps (by simp) h

@[simp] theorem photonicsDark_canon (s : State) (h : Canon s) :
    Canon (photonicsDark s) := by
  exact canon_of_keeps (by simp) h

@[simp] theorem settleStacks_canon (s : State) (h : Canon s) :
    Canon (settleStacks s) := by
  unfold settleStacks; (repeat' split) <;> simp +contextual (maxDischargeDepth := 40) [*]

@[simp] theorem gateChange_canon (before : State) (s : State) (h : Canon s) :
    Canon (gateChange before s) := by
  unfold gateChange; (repeat' split) <;> simp +contextual (maxDischargeDepth := 40) [*]

@[simp] theorem takeIncrement_canon (sc : Score) (s : State) (m2 : TokenMsg) (h : Canon s) :
    Canon (takeIncrement sc s m2) := by
  unfold takeIncrement; (repeat' split) <;> simp +contextual (maxDischargeDepth := 40) [*]

@[simp] theorem startStep_canon (sc : Score) (s : State) (h : Canon s) :
    Canon (startStep sc s) := by
  unfold startStep; (repeat' split) <;> simp +contextual (maxDischargeDepth := 40) [*]

@[simp] theorem markLate_canon (s : State) (h : Canon s) :
    Canon (markLate s) := by
  unfold markLate; (repeat' split) <;> simp +contextual (maxDischargeDepth := 40) [*]

@[simp] theorem measureStep_canon (sc : Score) (s : State) (h : Canon s) :
    Canon (measureStep sc s) := by
  unfold measureStep; (repeat' split) <;> simp +contextual (maxDischargeDepth := 40) [*]

@[simp] theorem reportWatch_canon (s : State) (h : Canon s) :
    Canon (reportWatch s) := by
  unfold reportWatch; (repeat' split) <;> simp +contextual (maxDischargeDepth := 40) [*]

@[simp] theorem returnCores_canon (s : State) (h : Canon s) :
    Canon (returnCores s) := by
  exact canon_of_keeps (by simp) h

@[simp] theorem askRepair_canon (sc : Score) (t1 : Nat) (n : Nat) (stripe : Nat) (s : State) (h : Canon s) :
    Canon (askRepair sc t1 n stripe s) := by
  unfold askRepair; (repeat' split) <;> simp +contextual (maxDischargeDepth := 40) [*]

@[simp] theorem askGathered_canon (x : CollCtx) (s : State) (p : Nat × Nat) (h : Canon s) :
    Canon (askGathered x s p) := by
  unfold askGathered; (repeat' split) <;> simp +contextual (maxDischargeDepth := 40) [*]

@[simp] theorem beginRepairs_canon (sc : Score) (s : State) (h : Canon s) :
    Canon (beginRepairs sc s) := by
  unfold beginRepairs; repeat' (first | (simp +contextual (maxDischargeDepth := 40) [*]; done) | split | dsimp only | (apply canon_foldl <;> intros) | (apply onScore_canon <;> intros) | (apply stepDataError_canon <;> intros))

@[simp] theorem endStep_canon (sc : Score) (s : State) (h : Canon s) :
    Canon (endStep sc s) := by
  unfold endStep; (repeat' split) <;> simp +contextual (maxDischargeDepth := 40) [*]

@[simp] theorem takeBoundary_canon (sc : Score) (s : State) (h : Canon s) :
    Canon (takeBoundary sc s) := by
  unfold takeBoundary; (repeat' split) <;> simp +contextual (maxDischargeDepth := 40) [*]

@[simp] theorem endSession_canon (n : Nat) (s : State) (h : Canon s) :
    Canon (endSession n s) := by
  unfold endSession; (repeat' split) <;> simp +contextual (maxDischargeDepth := 40) [*]

@[simp] theorem clearExec_canon (s : State) (h : Canon s) :
    Canon (clearExec s) := by
  exact canon_of_keeps (by simp) h

@[simp] theorem destroyKeys_canon (s : State) (h : Canon s) :
    Canon (destroyKeys s) := by
  exact canon_of_keeps (by simp) h

@[simp] theorem forgetMemory_canon (s : State) (h : Canon s) :
    Canon (forgetMemory s) := by
  unfold forgetMemory; (repeat' split) <;> simp +contextual (maxDischargeDepth := 40) [*]

@[simp] theorem leaveEffects_canon (s : State) (h : Canon s) : Canon (leaveEffects s) := by
  unfold leaveEffects
  extract_lets s1 s2 s3 s4 s5 _ s6 s7 _ s8
  have h1 : Canon s1 := abandonTests_canon _ (endPending_canon _ h)
  have h2 : Canon s2 := by
    simp only [s2]; split
    · exact closeTestPort_canon _ h1
    · exact h1
  have h3 : Canon s3 := canon_set_dev _ h2
  have h4 : Canon s4 := audit_canon _ _ _ _ _ _ _ h3
  have h5 : Canon s5 := clearExec_canon _ h4
  have h6 : Canon s6 := canon_set_regs_sites_fab _ _ _ (rise_filter _ _ h5.regs) h5
  have h7 : Canon s7 := by
    simp only [s7]; split
    · exact endSession_canon _ _ h6
    · exact h6
  have h8 : Canon s8 := canon_set_ring _ h7
  exact forgetMemory_canon _ (destroyKeys_canon _ (withRg_canon _ _ _ _ h8))

@[simp] theorem closeSoon_canon (s : State) (h : Canon s) :
    Canon (closeSoon s) := by
  exact canon_of_keeps (by simp) h

@[simp] theorem facilityRule_apply_canon (v : Nat) (s : State) (u0 : State) (h : Canon u0) :
    Canon ((facilityRule v s).apply u0) := by
  unfold facilityRule; (repeat' split) <;> simp +contextual (maxDischargeDepth := 40) [*]

@[simp] theorem facilityRule_after_canon (v : Nat) (s : State) (u0 : State) (h : Canon u0) :
    Canon ((facilityRule v s).after u0) := by
  unfold facilityRule; (repeat' split) <;> simp +contextual (maxDischargeDepth := 40) [*]

@[simp] theorem facilityRule_onReject_canon (v : Nat) (s : State) (u0 : State) (h : Canon u0) :
    Canon ((facilityRule v s).onReject u0) := by
  unfold facilityRule; (repeat' split) <;> simp +contextual (maxDischargeDepth := 40) [*]

@[simp] theorem holdNow_canon (s : State) (h : Canon s) :
    Canon (holdNow s) := by
  exact canon_of_keeps (by simp) h

@[simp] theorem releaseNow_canon (s : State) (h : Canon s) :
    Canon (releaseNow s) := by
  unfold releaseNow; (repeat' split) <;> simp +contextual (maxDischargeDepth := 40) [*]

@[simp] theorem unprepareNow_canon (s : State) (h : Canon s) :
    Canon (unprepareNow s) := by
  unfold unprepareNow; (repeat' split) <;> simp +contextual (maxDischargeDepth := 40) [*]

@[simp] theorem jobRule_apply_canon (q : Req) (v : Nat) (s : State) (u0 : State) (h : Canon u0) :
    Canon ((jobRule q v s).apply u0) := by
  unfold jobRule; (repeat' split) <;> simp +contextual (maxDischargeDepth := 40) [*]

@[simp] theorem jobRule_after_canon (q : Req) (v : Nat) (s : State) (u0 : State) (h : Canon u0) :
    Canon ((jobRule q v s).after u0) := by
  unfold jobRule; (repeat' split) <;> simp +contextual (maxDischargeDepth := 40) [*]

@[simp] theorem jobRule_onReject_canon (q : Req) (v : Nat) (s : State) (u0 : State) (h : Canon u0) :
    Canon ((jobRule q v s).onReject u0) := by
  unfold jobRule; (repeat' split) <;> simp +contextual (maxDischargeDepth := 40) [*]

@[simp] theorem commandRule_apply_canon (q : Req) (idx : Nat) (sub : Nat) (value : Bytes) (s : State) (u0 : State) (h : Canon u0) :
    Canon ((commandRule q idx sub value s).apply u0) := by
  unfold commandRule; repeat' (first | (simp +contextual (maxDischargeDepth := 40) [*]; done) | split | dsimp only)

@[simp] theorem commandRule_after_canon (q : Req) (idx : Nat) (sub : Nat) (value : Bytes) (s : State) (u0 : State) (h : Canon u0) :
    Canon ((commandRule q idx sub value s).after u0) := by
  unfold commandRule; repeat' (first | (simp +contextual (maxDischargeDepth := 40) [*]; done) | split | dsimp only)

@[simp] theorem commandRule_onReject_canon (q : Req) (idx : Nat) (sub : Nat) (value : Bytes) (s : State) (u0 : State) (h : Canon u0) :
    Canon ((commandRule q idx sub value s).onReject u0) := by
  unfold commandRule; repeat' (first | (simp +contextual (maxDischargeDepth := 40) [*]; done) | split | dsimp only)

@[simp] theorem jobCommand_canon (q : Req) (v : Nat) (s : State) (h : Canon s) :
    Canon (jobCommand q v s) := by
  unfold jobCommand; (repeat' split) <;> simp +contextual (maxDischargeDepth := 40) [*]

@[simp] theorem facilityCommand_canon (q : Req) (v : Nat) (s : State) (h : Canon s) :
    Canon (facilityCommand q v s) := by
  unfold facilityCommand; (repeat' split) <;> simp +contextual (maxDischargeDepth := 40) [*]

@[simp] theorem joinNow_canon (s : State) (h : Canon s) :
    Canon (joinNow s) := by
  unfold joinNow; (repeat' split) <;> simp +contextual (maxDischargeDepth := 40) [*]

@[simp] theorem raiseMinimum_canon (s : State) (h : Canon s) :
    Canon (raiseMinimum s) := by
  unfold raiseMinimum; (repeat' split) <;> simp +contextual (maxDischargeDepth := 40) [*]

@[simp] theorem joinCommand_canon (src : Nat) (dst : Nat) (msg : Nat) (s : State) (h : Canon s) :
    Canon (joinCommand src dst msg s) := by
  unfold joinCommand; (repeat' split) <;> simp +contextual (maxDischargeDepth := 40) [*]

@[simp] theorem copyConstants_canon (sc : Score) (s : State) (h : Canon s) :
    Canon (copyConstants sc s) := by
  unfold copyConstants; (repeat' split) <;> simp +contextual (maxDischargeDepth := 40) [*]

@[simp] theorem deriveParcelKey_canon (point : Nat) (s : State) (h : Canon s) :
    Canon (deriveParcelKey point s) := by
  exact canon_of_keeps (by simp) h

@[simp] theorem install_canon (p : PendWrite) (s : State) (h : Canon s) : Canon (install p s) := by
  unfold install
  extract_lets base rd sc t emu ordered len image s1 e x1 s2 keep s3 s4 s5
  have h1 : Canon s1 := storeBytes_canon _ _ _ _ (readRange_canon _ _ _ _ _ h)
  have h2 : Canon x1 := closeTestPort_canon _ h1
  have h3 : Canon s2 := canon_set_dev_ex_col_res _ _ _ _ h2
  have h4 : Canon s3 := canon_set_regs _ (rise_filter _ _ h3.regs) h3
  have h5 : Canon s4 := by simp (maxDischargeDepth := 40) [s4, h4]
  have h6 : Canon s5 := by simp (maxDischargeDepth := 40) [s5, h5]
  exact openContexts_canon _ _ (closeContexts_canon _ (deriveParcelKey_canon _ _ (copyConstants_canon _ _ h6)))

@[simp] theorem grantRule_apply_canon (value : Bytes) (s : State) (u0 : State) (h : Canon u0) :
    Canon ((grantRule value s).apply u0) := by
  unfold grantRule; (repeat' split) <;> simp +contextual (maxDischargeDepth := 40) [*]

@[simp] theorem grantRule_after_canon (value : Bytes) (s : State) (u0 : State) (h : Canon u0) :
    Canon ((grantRule value s).after u0) := by
  unfold grantRule; (repeat' split) <;> simp +contextual (maxDischargeDepth := 40) [*]

@[simp] theorem grantRule_onReject_canon (value : Bytes) (s : State) (u0 : State) (h : Canon u0) :
    Canon ((grantRule value s).onReject u0) := by
  unfold grantRule; (repeat' split) <;> simp +contextual (maxDischargeDepth := 40) [*]

@[simp] theorem postRule_apply_canon (value : Bytes) (s : State) (u0 : State) (h : Canon u0) :
    Canon ((postRule value s).apply u0) := by
  unfold postRule; (repeat' split) <;> simp +contextual (maxDischargeDepth := 40) [*]

@[simp] theorem postRule_after_canon (value : Bytes) (s : State) (u0 : State) (h : Canon u0) :
    Canon ((postRule value s).after u0) := by
  unfold postRule; (repeat' split) <;> simp +contextual (maxDischargeDepth := 40) [*]

@[simp] theorem postRule_onReject_canon (value : Bytes) (s : State) (u0 : State) (h : Canon u0) :
    Canon ((postRule value s).onReject u0) := by
  unfold postRule; (repeat' split) <;> simp +contextual (maxDischargeDepth := 40) [*]

@[simp] theorem takeHops_canon (m0 : FrameMark) (s : State) (h : Canon s) :
    Canon (takeHops m0 s) := by
  unfold takeHops; (repeat' split) <;> simp +contextual (maxDischargeDepth := 40) [*]

@[simp] theorem frameBoundary_canon (s : State) (h : Canon s) :
    Canon (frameBoundary s) := by
  unfold frameBoundary; repeat' (first | (simp +contextual (maxDischargeDepth := 40) [*]; done) | split | dsimp only)

@[simp] theorem measureFrame_canon (s : State) (h : Canon s) :
    Canon (measureFrame s) := by
  exact canon_of_keeps (by simp) h

@[simp] theorem stepTimeForward_canon (node : Nat) (s : State) (h : Canon s) :
    Canon (stepTimeForward node s) := by
  exact canon_of_keeps (by simp) h

@[simp] theorem report32_canon (v : Int) (s : State) (h : Canon s) :
    Canon (report32 v s) := by
  unfold report32; (repeat' split) <;> simp +contextual (maxDischargeDepth := 40) [*]

@[simp] theorem trimToMarks_canon (node : Nat) (s : State) (h : Canon s) :
    Canon (trimToMarks node s) := by
  unfold trimToMarks; (repeat' split) <;> simp +contextual (maxDischargeDepth := 40) [*]

@[simp] theorem readMark_canon (m0 : FrameMark) (s : State) (h : Canon s) :
    Canon (readMark m0 s) := by
  unfold readMark; (repeat' split) <;> simp +contextual (maxDischargeDepth := 40) [*]

@[simp] theorem dropPart_canon (src : Nat) (sess : Nat) (msg : Nat) (s : State) (h : Canon s) :
    Canon (dropPart src sess msg s) := by
  exact canon_of_keeps (by simp) h

@[simp] theorem putPart_canon (p : PartMsg) (s : State) (h : Canon s) :
    Canon (putPart p s) := by
  exact canon_of_keeps (by simp) h

@[simp] theorem putInbox_canon (p : PartMsg) (s : State) (h : Canon s) :
    Canon (putInbox p s) := by
  exact canon_of_keeps (by simp) h

@[simp] theorem takeMsg_canon (typ : Nat) (sess : Nat) (s : State) (h : Canon s) :
    Canon (takeMsg typ sess s) := by
  exact canon_of_keeps (by simp) h

@[simp] theorem protocolError_canon (q : Req) (head : Bytes) (write : Bool) (code : Nat) (s : State) (h : Canon s) :
    Canon (protocolError q head write code s) := by
  unfold protocolError; (repeat' split) <;> simp +contextual (maxDischargeDepth := 40) [*]

@[simp] theorem messageDone_canon (p : PartMsg) (s : State) (h : Canon s) :
    Canon (messageDone p s) := by
  unfold messageDone; (repeat' split) <;> simp +contextual (maxDischargeDepth := 40) [*]

@[simp] theorem takeSlot_canon (x : Slot) (s : State) (h : Canon s) :
    Canon (takeSlot x s) := by
  unfold takeSlot; (repeat' split) <;> simp +contextual (maxDischargeDepth := 40) [*]

@[simp] theorem duplicateFound_canon (s : State) (h : Canon s) :
    Canon (duplicateFound s) := by
  unfold duplicateFound; (repeat' split) <;> simp +contextual (maxDischargeDepth := 40) [*]

@[simp] theorem slotLeft_canon (m0 : OutMsg) (last : Bool) (s : State) (h : Canon s) :
    Canon (slotLeft m0 last s) := by
  exact canon_of_keeps (by simp) h

@[simp] theorem fillSlot_canon (x : Slot) (s : State) (h : Canon s) :
    Canon (fillSlot x s) := by
  exact canon_of_keeps (by simp) h

@[simp] theorem sendEvent_canon (e : Event) (s : State) (h : Canon s) :
    Canon (sendEvent e s) := by
  exact canon_of_keeps (by simp) h

@[simp] theorem sendFirst_canon (s : State) (h : Canon s) :
    Canon (sendFirst s) := by
  exact canon_of_keeps (by simp) h

@[simp] theorem sendLost_canon (k : Nat) (n : Nat) (s : State) (h : Canon s) :
    Canon (sendLost k n s) := by
  unfold sendLost; repeat' (first | (simp +contextual (maxDischargeDepth := 40) [*]; done) | split | dsimp only)

@[simp] theorem withChan_canon (c : Nat) (x : BulkChan) (s : State) (h : Canon s) :
    Canon (withChan c x s) := by
  exact canon_of_keeps (by simp) h

@[simp] theorem sendChanBlock_canon (c : Nat) (x : BulkChan) (k : Nat) (s : State) (h : Canon s) :
    Canon (sendChanBlock c x k s) := by
  unfold sendChanBlock; (repeat' split) <;> simp +contextual (maxDischargeDepth := 40) [*]

@[simp] theorem pumpChan_canon (c n : Nat) (s : State) (h : Canon s) : Canon (pumpChan c n s) := by
  induction n generalizing s with
  | zero => simpa [pumpChan] using h
  | succ n ih =>
    unfold pumpChan
    extract_lets x k
    split
    · exact h
    · exact ih _ (sendChanBlock_canon _ _ _ _ (withChan_canon _ _ _ h))

@[simp] theorem pumpChans_canon (s : State) (h : Canon s) :
    Canon (pumpChans s) := by
  unfold pumpChans; (repeat' split) <;> simp +contextual (maxDischargeDepth := 40) [*]

@[simp] theorem noteStaged_canon (x : BulkChan) (s : State) (h : Canon s) :
    Canon (noteStaged x s) := by
  unfold noteStaged; (repeat' split) <;> simp +contextual (maxDischargeDepth := 40) [*]

@[simp] theorem bulkOpenRule_apply_canon (q : Req) (value : Bytes) (s : State) (u0 : State) (h : Canon u0) :
    Canon ((bulkOpenRule q value s).apply u0) := by
  unfold bulkOpenRule; (repeat' split) <;> simp +contextual (maxDischargeDepth := 40) [*]

@[simp] theorem bulkOpenRule_after_canon (q : Req) (value : Bytes) (s : State) (u0 : State) (h : Canon u0) :
    Canon ((bulkOpenRule q value s).after u0) := by
  unfold bulkOpenRule; (repeat' split) <;> simp +contextual (maxDischargeDepth := 40) [*]

@[simp] theorem bulkOpenRule_onReject_canon (q : Req) (value : Bytes) (s : State) (u0 : State) (h : Canon u0) :
    Canon ((bulkOpenRule q value s).onReject u0) := by
  unfold bulkOpenRule; (repeat' split) <;> simp +contextual (maxDischargeDepth := 40) [*]

@[simp] theorem bulkCloseRule_apply_canon (value : Bytes) (u0 : State) (h : Canon u0) :
    Canon ((bulkCloseRule value).apply u0) := by
  exact canon_of_keeps (by simp) h

@[simp] theorem bulkCloseRule_after_canon (value : Bytes) (u0 : State) (h : Canon u0) :
    Canon ((bulkCloseRule value).after u0) := by
  exact canon_of_keeps (by simp) h

@[simp] theorem bulkCloseRule_onReject_canon (value : Bytes) (u0 : State) (h : Canon u0) :
    Canon ((bulkCloseRule value).onReject u0) := by
  exact canon_of_keeps (by simp) h

@[simp] theorem bulkReceived_canon (b : Block) (s : State) (h : Canon s) :
    Canon (bulkReceived b s) := by
  exact canon_of_keeps (by simp) h

@[simp] theorem chanResend_canon (c : Nat) (k : Nat) (s : State) (h : Canon s) :
    Canon (chanResend c k s) := by
  unfold chanResend; (repeat' split) <;> simp +contextual (maxDischargeDepth := 40) [*]

@[simp] theorem dropTransfer_canon (t0 : Transfer) (s : State) (h : Canon s) :
    Canon (dropTransfer t0 s) := by
  exact canon_of_keeps (by simp) h

@[simp] theorem putTransfer_canon (t0 : Transfer) (s : State) (h : Canon s) :
    Canon (putTransfer t0 s) := by
  exact canon_of_keeps (by simp) h

@[simp] theorem pumpTransfer_canon (sess msg n : Nat) (s : State) (h : Canon s) : Canon (pumpTransfer sess msg n s) := canon_of_keeps (by simp) h

@[simp] theorem transferResend_canon (t0 : Transfer) (k : Nat) (s : State) (h : Canon s) :
    Canon (transferResend t0 k s) := by
  exact canon_of_keeps (by simp) h

@[simp] theorem blockAcked_canon (a : BlockAck) (s : State) (h : Canon s) : Canon (blockAcked a s) := by
  unfold blockAcked
  split
  · extract_lets x
    split
    · exact h
    · split
      · exact pumpChan_canon _ _ _ (withChan_canon _ _ _ h)
      · exact chanResend_canon _ _ _ h
  · split
    · exact h
    · split
      · exact h
      · split
        · exact transferResend_canon _ _ _ h
        · extract_lets t
          split
          · exact completed_canon _ _ _ _ (dropTransfer_canon _ _ h)
          · exact pumpTransfer_canon _ _ _ _ (putTransfer_canon _ _ h)

@[simp] theorem countRelief_canon (half : Nat) (s : State) (h : Canon s) :
    Canon (countRelief half s) := by
  unfold countRelief; (repeat' split) <;> simp +contextual (maxDischargeDepth := 40) [*]

@[simp] theorem rebind_canon (half : Nat) (ps : List (Nat × Nat)) (s : State) (h : Canon s) :
    Canon (rebind half ps s) := by
  exact canon_of_keeps (by simp) h

@[simp] theorem retireCore_canon (half : Nat) (core : Nat) (s : State) (h : Canon s) :
    Canon (retireCore half core s) := by
  unfold retireCore; (repeat' split) <;> simp +contextual (maxDischargeDepth := 40) [*]

@[simp] theorem failCore_canon (half : Nat) (core : Nat) (s : State) (h : Canon s) :
    Canon (failCore half core s) := by
  unfold failCore; (repeat' split) <;> simp +contextual (maxDischargeDepth := 40) [*]

@[simp] theorem testSettingsRule_apply_canon (sub : Nat) (value : Bytes) (u0 : State) (h : Canon u0) :
    Canon ((testSettingsRule sub value).apply u0) := by
  unfold testSettingsRule; (repeat' split) <;> simp +contextual (maxDischargeDepth := 40) [*]

@[simp] theorem testSettingsRule_after_canon (sub : Nat) (value : Bytes) (u0 : State) (h : Canon u0) :
    Canon ((testSettingsRule sub value).after u0) := by
  unfold testSettingsRule; (repeat' split) <;> simp +contextual (maxDischargeDepth := 40) [*]

@[simp] theorem testSettingsRule_onReject_canon (sub : Nat) (value : Bytes) (u0 : State) (h : Canon u0) :
    Canon ((testSettingsRule sub value).onReject u0) := by
  unfold testSettingsRule; (repeat' split) <;> simp +contextual (maxDischargeDepth := 40) [*]

@[simp] theorem beginTest_canon (half : Nat) (core : Nat) (relief : Option Nat) (s : State) (h : Canon s) :
    Canon (beginTest half core relief s) := by
  exact canon_of_keeps (by simp) h

@[simp] theorem relieve_canon (half : Nat) (core : Nat) (r : Nat) (s : State) (h : Canon s) :
    Canon (relieve half core r s) := by
  exact canon_of_keeps (by simp) h

@[simp] theorem forgetHalf_canon (half : Nat) (s : State) (h : Canon s) :
    Canon (forgetHalf half s) := by
  exact canon_of_keeps (by simp) h

@[simp] theorem forgetShared_canon (die : Nat) (s : State) (h : Canon s) :
    Canon (forgetShared die s) := by
  unfold forgetShared; (repeat' split) <;> simp +contextual (maxDischargeDepth := 40) [*]

@[simp] theorem forgetCache_canon (q : Nat) (s : State) (h : Canon s) :
    Canon (forgetCache q s) := by
  unfold forgetCache; (repeat' split) <;> simp +contextual (maxDischargeDepth := 40) [*]

@[simp] theorem forgetStack_canon (k : Nat) (s : State) (h : Canon s) :
    Canon (forgetStack k s) := by
  unfold forgetStack; (repeat' split) <;> simp +contextual (maxDischargeDepth := 40) [*]

@[simp] theorem forgetTarget_canon (kind : Nat) (target : Nat) (s : State) (h : Canon s) :
    Canon (forgetTarget kind target s) := by
  unfold forgetTarget; (repeat' split) <;> simp +contextual (maxDischargeDepth := 40) [*]

@[simp] theorem selfTestRule_apply_canon (value : Bytes) (s : State) (u0 : State) (h : Canon u0) :
    Canon ((selfTestRule value s).apply u0) := by
  unfold selfTestRule; (repeat' split) <;> simp +contextual (maxDischargeDepth := 40) [*]

@[simp] theorem selfTestRule_after_canon (value : Bytes) (s : State) (u0 : State) (h : Canon u0) :
    Canon ((selfTestRule value s).after u0) := by
  unfold selfTestRule; (repeat' split) <;> simp +contextual (maxDischargeDepth := 40) [*]

@[simp] theorem selfTestRule_onReject_canon (value : Bytes) (s : State) (u0 : State) (h : Canon u0) :
    Canon ((selfTestRule value s).onReject u0) := by
  unfold selfTestRule; (repeat' split) <;> simp +contextual (maxDischargeDepth := 40) [*]

@[simp] theorem selfTest_canon (kind : Nat) (q : Req) (target : Nat) (reserved : Nat) (s : State) (h : Canon s) :
    Canon (selfTest kind q target reserved s) := by
  unfold selfTest; (repeat' split) <;> simp +contextual (maxDischargeDepth := 40) [*]

@[simp] theorem endSelfTest_canon (code : Nat) (s : State) (h : Canon s) :
    Canon (endSelfTest code s) := by
  unfold endSelfTest; (repeat' split) <;> simp +contextual (maxDischargeDepth := 40) [*]

@[simp] theorem failSite_canon (half : Nat) (s : State) (site : Nat) (h : Canon s) :
    Canon (failSite half s site) := by
  unfold failSite; (repeat' split) <;> simp +contextual (maxDischargeDepth := 40) [*]

@[simp] theorem testPortRule_apply_canon (value : Bytes) (s : State) (u0 : State) (h : Canon u0) :
    Canon ((testPortRule value s).apply u0) := by
  unfold testPortRule; repeat' (first | (simp +contextual (maxDischargeDepth := 40) [*]; done) | split | dsimp only)

@[simp] theorem testPortRule_after_canon (value : Bytes) (s : State) (u0 : State) (h : Canon u0) :
    Canon ((testPortRule value s).after u0) := by
  unfold testPortRule; repeat' (first | (simp +contextual (maxDischargeDepth := 40) [*]; done) | split | dsimp only)

@[simp] theorem testPortRule_onReject_canon (value : Bytes) (s : State) (u0 : State) (h : Canon u0) :
    Canon ((testPortRule value s).onReject u0) := by
  unfold testPortRule; repeat' (first | (simp +contextual (maxDischargeDepth := 40) [*]; done) | split | dsimp only)

@[simp] theorem forgetDies_canon (sel : BitVec 40) (s : State) (h : Canon s) :
    Canon (forgetDies sel s) := by
  unfold forgetDies; (repeat' split) <;> simp +contextual (maxDischargeDepth := 40) [*]

@[simp] theorem loadInstr_canon (ir : BitVec 8) (intrusive : Bool) (s : State) (h : Canon s) :
    Canon (loadInstr ir intrusive s) := by
  unfold loadInstr; (repeat' split) <;> simp +contextual (maxDischargeDepth := 40) [*]

@[simp] theorem enrolRule_apply_canon (idx : Nat) (sub : Nat) (value : Bytes) (s : State) (u0 : State) (h : Canon u0) :
    Canon ((enrolRule idx sub value s).apply u0) := by
  unfold enrolRule; (repeat' split) <;> simp +contextual (maxDischargeDepth := 40) [*]

@[simp] theorem enrolRule_after_canon (idx : Nat) (sub : Nat) (value : Bytes) (s : State) (u0 : State) (h : Canon u0) :
    Canon ((enrolRule idx sub value s).after u0) := by
  unfold enrolRule; (repeat' split) <;> simp +contextual (maxDischargeDepth := 40) [*]

@[simp] theorem enrolRule_onReject_canon (idx : Nat) (sub : Nat) (value : Bytes) (s : State) (u0 : State) (h : Canon u0) :
    Canon ((enrolRule idx sub value s).onReject u0) := by
  unfold enrolRule; (repeat' split) <;> simp +contextual (maxDischargeDepth := 40) [*]

@[simp] theorem stopArea1_canon (s : State) (h : Canon s) :
    Canon (stopArea1 s) := by
  unfold stopArea1; (repeat' split) <;> simp +contextual (maxDischargeDepth := 40) [*]

@[simp] theorem failFinish_canon (n : Nat) (code : Nat) (s : State) (h : Canon s) :
    Canon (failFinish n code s) := by
  unfold failFinish; (repeat' split) <;> simp +contextual (maxDischargeDepth := 40) [*]

@[simp] theorem establish_canon (m0 : FinishMsg) (s : State) (h : Canon s) :
    Canon (establish m0 s) := by
  unfold establish; (repeat' split) <;> simp +contextual (maxDischargeDepth := 40) [*]

@[simp] theorem keyMessage_canon (q : Req) (sub idx osub : Nat) (codes : List Nat) (kind : Nat)
    (keyed : Bool) (value : Bytes) (apply : State → State) (s : State) (k : ∀ u, Canon u → Canon (apply u)) (h : Canon s) :
    Canon (keyMessage q sub idx osub codes kind keyed value apply s) := by
  have h1 : Canon (takeMsg 6 q.sess (fresh s)) := takeMsg_canon _ _ _ (fresh_canon _ h)
  unfold keyMessage
  dsimp only
  split
  · exact h1
  · split
    · exact bump_canon _ _ _ _ h1
    · split
      · exact sendRing_canon _ _ (countReject_canon _ _ h1)
      · exact sendRing_canon _ _ (audit_canon _ _ _ _ _ _ _ (k _ h1))

@[simp] theorem eraseRange_canon (a n : Nat) (s : State) (h : Canon s) : Canon (eraseRange a n s) := by
  exact forgetRange_canon _ _ _ (canon_set_mem _ h.cells h.msc h.wc h.waits h)

@[simp] theorem removeRegion_canon (num : Nat) (s : State) (h : Canon s) :
    Canon (removeRegion num s) := by
  unfold removeRegion; (repeat' split) <;> simp +contextual (maxDischargeDepth := 40) [*]

@[simp] theorem installRegion_canon (num : Nat) (base : Nat) (length : Nat) (key : BitVec 512) (s : State) (h : Canon s) :
    Canon (installRegion num base length key s) := by
  unfold installRegion; (repeat' split) <;> simp +contextual (maxDischargeDepth := 40) [*]

@[simp] theorem firmwareRule_apply_canon (q : Req) (s : State) (u0 : State) (h : Canon u0) :
    Canon ((firmwareRule q s).apply u0) := by
  unfold firmwareRule; (repeat' split) <;> simp +contextual (maxDischargeDepth := 40) [*]

@[simp] theorem firmwareRule_after_canon (q : Req) (s : State) (u0 : State) (h : Canon u0) :
    Canon ((firmwareRule q s).after u0) := by
  unfold firmwareRule; (repeat' split) <;> simp +contextual (maxDischargeDepth := 40) [*]

@[simp] theorem firmwareRule_onReject_canon (q : Req) (s : State) (u0 : State) (h : Canon u0) :
    Canon ((firmwareRule q s).onReject u0) := by
  unfold firmwareRule; (repeat' split) <;> simp +contextual (maxDischargeDepth := 40) [*]

@[simp] theorem failUpdate_canon (code : Nat) (s : State) (h : Canon s) :
    Canon (failUpdate code s) := by
  unfold failUpdate; (repeat' split) <;> simp +contextual (maxDischargeDepth := 40) [*]

@[simp] theorem replaceImage_canon (p : PendWrite) (img : FwImage) (s : State) (h : Canon s) :
    Canon (replaceImage p img s) := by
  unfold replaceImage; (repeat' split) <;> simp +contextual (maxDischargeDepth := 40) [*]

@[simp] theorem stowNow_canon (s : State) (h : Canon s) :
    Canon (stowNow s) := by
  unfold stowNow; (repeat' split) <;> simp +contextual (maxDischargeDepth := 40) [*]

@[simp] theorem leaveStow_canon (s : State) (h : Canon s) :
    Canon (leaveStow s) := by
  unfold leaveStow; (repeat' split) <;> simp +contextual (maxDischargeDepth := 40) [*]

@[simp] theorem settleOptics_canon (s : State) (h : Canon s) :
    Canon (settleOptics s) := by
  exact canon_of_keeps (by simp) h

@[simp] theorem powerDone_canon (s : State) (h : Canon s) :
    Canon (powerDone s) := by
  unfold powerDone; (repeat' split) <;> simp +contextual (maxDischargeDepth := 40) [*]

@[simp] theorem requestPower_canon (v : Nat) (s : State) (h : Canon s) :
    Canon (requestPower v s) := by
  unfold requestPower; (repeat' split) <;> simp +contextual (maxDischargeDepth := 40) [*]

@[simp] theorem powerRule_apply_canon (q : Req) (value : Bytes) (s : State) (u0 : State) (h : Canon u0) :
    Canon ((powerRule q value s).apply u0) := by
  unfold powerRule; (repeat' split) <;> simp +contextual (maxDischargeDepth := 40) [*]

@[simp] theorem powerRule_after_canon (q : Req) (value : Bytes) (s : State) (u0 : State) (h : Canon u0) :
    Canon ((powerRule q value s).after u0) := by
  unfold powerRule; (repeat' split) <;> simp +contextual (maxDischargeDepth := 40) [*]

@[simp] theorem powerRule_onReject_canon (q : Req) (value : Bytes) (s : State) (u0 : State) (h : Canon u0) :
    Canon ((powerRule q value s).onReject u0) := by
  unfold powerRule; (repeat' split) <;> simp +contextual (maxDischargeDepth := 40) [*]

@[simp] theorem intoHush_canon (s : State) (h : Canon s) :
    Canon (intoHush s) := by
  unfold intoHush; (repeat' split) <;> simp +contextual (maxDischargeDepth := 40) [*]

@[simp] theorem downTo_canon (s : State) (h : Canon s) :
    Canon (downTo s) := by
  unfold downTo; (repeat' split) <;> simp +contextual (maxDischargeDepth := 40) [*]

@[simp] theorem upTo_canon (s : State) (h : Canon s) :
    Canon (upTo s) := by
  unfold upTo; (repeat' split) <;> simp +contextual (maxDischargeDepth := 40) [*]

@[simp] theorem enableRule_apply_canon (sub : Nat) (value : Bytes) (u0 : State) (h : Canon u0) :
    Canon ((enableRule sub value).apply u0) := by
  unfold enableRule; (repeat' split) <;> simp +contextual (maxDischargeDepth := 40) [*]

@[simp] theorem enableRule_after_canon (sub : Nat) (value : Bytes) (u0 : State) (h : Canon u0) :
    Canon ((enableRule sub value).after u0) := by
  unfold enableRule; (repeat' split) <;> simp +contextual (maxDischargeDepth := 40) [*]

@[simp] theorem enableRule_onReject_canon (sub : Nat) (value : Bytes) (u0 : State) (h : Canon u0) :
    Canon ((enableRule sub value).onReject u0) := by
  unfold enableRule; (repeat' split) <;> simp +contextual (maxDischargeDepth := 40) [*]

@[simp] theorem pllRule_apply_canon (sub : Nat) (value : Bytes) (u0 : State) (h : Canon u0) :
    Canon ((pllRule sub value).apply u0) := by
  unfold pllRule; (repeat' split) <;> simp +contextual (maxDischargeDepth := 40) [*]

@[simp] theorem pllRule_after_canon (sub : Nat) (value : Bytes) (u0 : State) (h : Canon u0) :
    Canon ((pllRule sub value).after u0) := by
  unfold pllRule; (repeat' split) <;> simp +contextual (maxDischargeDepth := 40) [*]

@[simp] theorem pllRule_onReject_canon (sub : Nat) (value : Bytes) (u0 : State) (h : Canon u0) :
    Canon ((pllRule sub value).onReject u0) := by
  unfold pllRule; (repeat' split) <;> simp +contextual (maxDischargeDepth := 40) [*]

@[simp] theorem supplyFault_canon (s : State) (h : Canon s) :
    Canon (supplyFault s) := by
  unfold supplyFault; (repeat' split) <;> simp +contextual (maxDischargeDepth := 40) [*]

@[simp] theorem report_canon (m0 : Limits) (s : State) (h : Canon s) :
    Canon (report m0 s) := by
  unfold report; (repeat' split) <;> simp +contextual (maxDischargeDepth := 40) [*]

@[simp] theorem readStage_canon (st : PmStatus) (s : State) (h : Canon s) :
    Canon (readStage st s) := by
  unfold readStage; (repeat' split) <;> simp +contextual (maxDischargeDepth := 40) [*]

@[simp] theorem referenceRule_apply_canon (value : Bytes) (u0 : State) (h : Canon u0) :
    Canon ((referenceRule value).apply u0) := by
  unfold referenceRule; (repeat' split) <;> simp +contextual (maxDischargeDepth := 40) [*]

@[simp] theorem referenceRule_after_canon (value : Bytes) (u0 : State) (h : Canon u0) :
    Canon ((referenceRule value).after u0) := by
  unfold referenceRule; (repeat' split) <;> simp +contextual (maxDischargeDepth := 40) [*]

@[simp] theorem referenceRule_onReject_canon (value : Bytes) (u0 : State) (h : Canon u0) :
    Canon ((referenceRule value).onReject u0) := by
  unfold referenceRule; (repeat' split) <;> simp +contextual (maxDischargeDepth := 40) [*]

@[simp] theorem assertReset_canon (s : State) (h : Canon s) : Canon (assertReset s) := by
  unfold assertReset
  extract_lets s1 dark
  have h1 : Canon s1 := canon_foldl _ (fun u e hu => endSession_canon _ _ hu) _ _ h
  clear_value s1 dark
  exact ⟨rise_filter _ _ h1.regs, rise_nil, mscOk_nil, wcOk_nil, waitOk_nil⟩

@[simp] theorem releaseReset_canon (x : Straps) (s : State) (h : Canon s) :
    Canon (releaseReset x s) := by
  exact canon_of_keeps (by simp) h

@[simp] theorem reconfigured_canon (s : State) (h : Canon s) :
    Canon (reconfigured s) := by
  exact canon_of_keeps (by simp) h

@[simp] theorem nodeRule_apply_canon (sub : Nat) (value : Bytes) (u0 : State) (h : Canon u0) :
    Canon ((nodeRule sub value).apply u0) := by
  unfold nodeRule; (repeat' split) <;> simp +contextual (maxDischargeDepth := 40) [*]

@[simp] theorem nodeRule_after_canon (sub : Nat) (value : Bytes) (u0 : State) (h : Canon u0) :
    Canon ((nodeRule sub value).after u0) := by
  unfold nodeRule; (repeat' split) <;> simp +contextual (maxDischargeDepth := 40) [*]

@[simp] theorem nodeRule_onReject_canon (sub : Nat) (value : Bytes) (u0 : State) (h : Canon u0) :
    Canon ((nodeRule sub value).onReject u0) := by
  unfold nodeRule; (repeat' split) <;> simp +contextual (maxDischargeDepth := 40) [*]

@[simp] theorem portRule_apply_canon (sub : Nat) (value : Bytes) (s : State) (u0 : State) (h : Canon u0) :
    Canon ((portRule sub value s).apply u0) := by
  unfold portRule; (repeat' split) <;> simp +contextual (maxDischargeDepth := 40) [*]

@[simp] theorem portRule_after_canon (sub : Nat) (value : Bytes) (s : State) (u0 : State) (h : Canon u0) :
    Canon ((portRule sub value s).after u0) := by
  unfold portRule; (repeat' split) <;> simp +contextual (maxDischargeDepth := 40) [*]

@[simp] theorem portRule_onReject_canon (sub : Nat) (value : Bytes) (s : State) (u0 : State) (h : Canon u0) :
    Canon ((portRule sub value s).onReject u0) := by
  unfold portRule; (repeat' split) <;> simp +contextual (maxDischargeDepth := 40) [*]

@[simp] theorem fabricRule_apply_canon (idx : Nat) (sub : Nat) (value : Bytes) (s : State) (u0 : State) (h : Canon u0) :
    Canon ((fabricRule idx sub value s).apply u0) := by
  unfold fabricRule; (repeat' split) <;> simp +contextual (maxDischargeDepth := 40) [*]

@[simp] theorem fabricRule_after_canon (idx : Nat) (sub : Nat) (value : Bytes) (s : State) (u0 : State) (h : Canon u0) :
    Canon ((fabricRule idx sub value s).after u0) := by
  unfold fabricRule; (repeat' split) <;> simp +contextual (maxDischargeDepth := 40) [*]

@[simp] theorem fabricRule_onReject_canon (idx : Nat) (sub : Nat) (value : Bytes) (s : State) (u0 : State) (h : Canon u0) :
    Canon ((fabricRule idx sub value s).onReject u0) := by
  unfold fabricRule; (repeat' split) <;> simp +contextual (maxDischargeDepth := 40) [*]

@[simp] theorem exceptionRule_apply_canon (value : Bytes) (s : State) (u0 : State) (h : Canon u0) :
    Canon ((exceptionRule value s).apply u0) := by
  exact canon_of_keeps (by simp) h

@[simp] theorem exceptionRule_after_canon (value : Bytes) (s : State) (u0 : State) (h : Canon u0) :
    Canon ((exceptionRule value s).after u0) := by
  exact canon_of_keeps (by simp) h

@[simp] theorem exceptionRule_onReject_canon (value : Bytes) (s : State) (u0 : State) (h : Canon u0) :
    Canon ((exceptionRule value s).onReject u0) := by
  exact canon_of_keeps (by simp) h

@[simp] theorem coordRule_apply_canon (sub : Nat) (value : Bytes) (s : State) (u0 : State) (h : Canon u0) :
    Canon ((coordRule sub value s).apply u0) := by
  unfold coordRule; (repeat' split) <;> simp +contextual (maxDischargeDepth := 40) [*]

@[simp] theorem coordRule_after_canon (sub : Nat) (value : Bytes) (s : State) (u0 : State) (h : Canon u0) :
    Canon ((coordRule sub value s).after u0) := by
  unfold coordRule; (repeat' split) <;> simp +contextual (maxDischargeDepth := 40) [*]

@[simp] theorem coordRule_onReject_canon (sub : Nat) (value : Bytes) (s : State) (u0 : State) (h : Canon u0) :
    Canon ((coordRule sub value s).onReject u0) := by
  unfold coordRule; (repeat' split) <;> simp +contextual (maxDischargeDepth := 40) [*]

@[simp] theorem baseRule_apply_canon (value : Bytes) (u0 : State) (h : Canon u0) :
    Canon ((baseRule value).apply u0) := by
  unfold baseRule; (repeat' split) <;> simp +contextual (maxDischargeDepth := 40) [*]

@[simp] theorem baseRule_after_canon (value : Bytes) (u0 : State) (h : Canon u0) :
    Canon ((baseRule value).after u0) := by
  unfold baseRule; (repeat' split) <;> simp +contextual (maxDischargeDepth := 40) [*]

@[simp] theorem baseRule_onReject_canon (value : Bytes) (u0 : State) (h : Canon u0) :
    Canon ((baseRule value).onReject u0) := by
  unfold baseRule; (repeat' split) <;> simp +contextual (maxDischargeDepth := 40) [*]

@[simp] theorem neighbourRule_apply_canon (sub : Nat) (value : Bytes) (s : State) (u0 : State) (h : Canon u0) :
    Canon ((neighbourRule sub value s).apply u0) := by
  unfold neighbourRule; (repeat' split) <;> simp +contextual (maxDischargeDepth := 40) [*]

@[simp] theorem neighbourRule_after_canon (sub : Nat) (value : Bytes) (s : State) (u0 : State) (h : Canon u0) :
    Canon ((neighbourRule sub value s).after u0) := by
  unfold neighbourRule; (repeat' split) <;> simp +contextual (maxDischargeDepth := 40) [*]

@[simp] theorem neighbourRule_onReject_canon (sub : Nat) (value : Bytes) (s : State) (u0 : State) (h : Canon u0) :
    Canon ((neighbourRule sub value s).onReject u0) := by
  unfold neighbourRule; (repeat' split) <;> simp +contextual (maxDischargeDepth := 40) [*]

@[simp] theorem overrideRule_apply_canon (value : Bytes) (s : State) (u0 : State) (h : Canon u0) :
    Canon ((overrideRule value s).apply u0) := by
  exact canon_of_keeps (by simp) h

@[simp] theorem overrideRule_after_canon (value : Bytes) (s : State) (u0 : State) (h : Canon u0) :
    Canon ((overrideRule value s).after u0) := by
  exact canon_of_keeps (by simp) h

@[simp] theorem overrideRule_onReject_canon (value : Bytes) (s : State) (u0 : State) (h : Canon u0) :
    Canon ((overrideRule value s).onReject u0) := by
  exact canon_of_keeps (by simp) h

@[simp] theorem memberRule_apply_canon (value : Bytes) (s : State) (u0 : State) (h : Canon u0) :
    Canon ((memberRule value s).apply u0) := by
  exact canon_of_keeps (by simp) h

@[simp] theorem memberRule_after_canon (value : Bytes) (s : State) (u0 : State) (h : Canon u0) :
    Canon ((memberRule value s).after u0) := by
  exact canon_of_keeps (by simp) h

@[simp] theorem memberRule_onReject_canon (value : Bytes) (s : State) (u0 : State) (h : Canon u0) :
    Canon ((memberRule value s).onReject u0) := by
  exact canon_of_keeps (by simp) h

@[simp] theorem groupRule_apply_canon (value : Bytes) (s : State) (u0 : State) (h : Canon u0) :
    Canon ((groupRule value s).apply u0) := by
  exact canon_of_keeps (by simp) h

@[simp] theorem groupRule_after_canon (value : Bytes) (s : State) (u0 : State) (h : Canon u0) :
    Canon ((groupRule value s).after u0) := by
  exact canon_of_keeps (by simp) h

@[simp] theorem groupRule_onReject_canon (value : Bytes) (s : State) (u0 : State) (h : Canon u0) :
    Canon ((groupRule value s).onReject u0) := by
  exact canon_of_keeps (by simp) h

@[simp] theorem withHeld_canon (l : List HeldCopy) (s : State) (h : Canon s) :
    Canon (withHeld l s) := by
  exact canon_of_keeps (by simp) h

@[simp] theorem spoilCopy_canon (m0 : RemoteMsg) (s : State) (h : Canon s) :
    Canon (spoilCopy m0 s) := by
  unfold spoilCopy; (repeat' split) <;> simp +contextual (maxDischargeDepth := 40) [*]

@[simp] theorem respondRemote_canon (m0 : RemoteMsg) (block : Nat) (status : Nat) (data : Bytes) (s : State) (h : Canon s) :
    Canon (respondRemote m0 block status data s) := by
  unfold respondRemote; (repeat' split) <;> simp +contextual (maxDischargeDepth := 40) [*]

@[simp] theorem answerRequest_canon (m0 : RemoteMsg) (s : State) (h : Canon s) :
    Canon (answerRequest m0 s) := by
  unfold answerRequest; (repeat' split) <;> simp +contextual (maxDischargeDepth := 40) [*]

@[simp] theorem storeRemote_canon (m0 : RemoteMsg) (s : State) (h : Canon s) :
    Canon (storeRemote m0 s) := by
  unfold storeRemote; (repeat' split) <;> simp +contextual (maxDischargeDepth := 40) [*]

@[simp] theorem askPull_canon (sc : Score) (n : Nat) (p : Pull) (s : State) (h : Canon s) : Canon (askPull sc n p s).2 := by
  induction n generalizing p s with
  | zero => simpa [askPull] using h
  | succ n ih => unfold askPull; (repeat' split) <;> simp (maxDischargeDepth := 40) [*]

@[simp] theorem restoreFailed_canon (p : Pull) (s : State) (h : Canon s) :
    Canon (restoreFailed p s) := by
  unfold restoreFailed; (repeat' split) <;> simp +contextual (maxDischargeDepth := 40) [*]

@[simp] theorem repairFailed_canon (sc : Score) (p : Pull) (s : State) (h : Canon s) :
    Canon (repairFailed sc p s) := by
  unfold repairFailed; (repeat' split) <;> simp +contextual (maxDischargeDepth := 40) [*]

@[simp] theorem nextHolder_canon (sc : Score) (p : Pull) (s : State) (h : Canon s) :
    Canon (nextHolder sc p s) := by
  unfold nextHolder; repeat' (first | (simp +contextual (maxDischargeDepth := 40) [*]; done) | split | dsimp only)

@[simp] theorem pullsPast_canon (peer : Nat) (s : State) (h : Canon s) :
    Canon (pullsPast peer s) := by
  unfold pullsPast; (repeat' split) <;> simp +contextual (maxDischargeDepth := 40) [*]

@[simp] theorem startRestore_canon (s00 : Nat) (sc : Score) (s : State) (h : Canon s) : Canon (startRestore s00 sc s) := by
  unfold startRestore
  extract_lets s1 _ _ _ _ s2 s3
  have h1 : Canon s1 := withHeld_canon _ _ h
  have h2 : Canon s2 := withRg_canon _ _ _ _ (canon_set_ex_col_res _ _ _ h1)
  have h3 : Canon s3 := openContexts_canon _ _ (closeContexts_canon _ (deriveParcelKey_canon _ _ h2))
  refine canon_foldl _ ?_ _ _ h3
  intro v p hv
  split
  · exact hv
  · extract_lets r
    have h4 : Canon r.2 := askPull_canon _ _ _ _ hv
    split
    · exact canon_set_res _ h4
    · exact restoreFailed_canon _ _ h4

@[simp] theorem installRecord_canon (s00 : Nat) (b : Bytes) (s : State) (h : Canon s) :
    Canon (installRecord s00 b s) := by
  unfold installRecord; (repeat' split) <;> simp +contextual (maxDischargeDepth := 40) [*]

@[simp] theorem regather_canon (s : State) (x : CollCtx) (h : Canon s) :
    Canon (regather s x) := by
  unfold regather; (repeat' split) <;> simp +contextual (maxDischargeDepth := 40) [*]

@[simp] theorem useRestored_canon (s00 : Nat) (sc : Score) (s : State) (h : Canon s) :
    Canon (useRestored s00 sc s) := by
  unfold useRestored; (repeat' split) <;> simp +contextual (maxDischargeDepth := 40) [*]

@[simp] theorem restoreRule_apply_canon (value : Bytes) (s : State) (u0 : State) (h : Canon u0) :
    Canon ((restoreRule value s).apply u0) := by
  unfold restoreRule; (repeat' split) <;> simp +contextual (maxDischargeDepth := 40) [*]

@[simp] theorem restoreRule_after_canon (value : Bytes) (s : State) (u0 : State) (h : Canon u0) :
    Canon ((restoreRule value s).after u0) := by
  unfold restoreRule; (repeat' split) <;> simp +contextual (maxDischargeDepth := 40) [*]

@[simp] theorem restoreRule_onReject_canon (value : Bytes) (s : State) (u0 : State) (h : Canon u0) :
    Canon ((restoreRule value s).onReject u0) := by
  unfold restoreRule; (repeat' split) <;> simp +contextual (maxDischargeDepth := 40) [*]

@[simp] theorem finishRepair_canon (sc : Score) (p : Pull) (s : State) (h : Canon s) :
    Canon (finishRepair sc p s) := by
  unfold finishRepair; (repeat' split) <;> simp +contextual (maxDischargeDepth := 40) [*]

@[simp] theorem takePulled_canon (m0 : RemoteMsg) (sc : Score) (s : State) (h : Canon s) :
    Canon (takePulled m0 sc s) := by
  unfold takePulled; repeat' (first | (simp +contextual (maxDischargeDepth := 40) [*]; done) | split | dsimp only)

@[simp] theorem askRange_canon (m0 : RemoteMsg) (s : State) (h : Canon s) :
    Canon (askRange m0 s) := by
  unfold askRange; (repeat' split) <;> simp +contextual (maxDischargeDepth := 40) [*]

@[simp] theorem takeRange_canon (m0 : RemoteMsg) (sc : Score) (s : State) (h : Canon s) :
    Canon (takeRange m0 sc s) := by
  unfold takeRange; (repeat' split) <;> simp +contextual (maxDischargeDepth := 40) [*]

@[simp] theorem takeResponse_canon (m0 : RemoteMsg) (s : State) (h : Canon s) :
    Canon (takeResponse m0 s) := by
  unfold takeResponse; (repeat' split) <;> simp +contextual (maxDischargeDepth := 40) [*]

@[simp] theorem startAbandon_canon (s : State) (h : Canon s) :
    Canon (startAbandon s) := by
  unfold startAbandon; (repeat' split) <;> simp +contextual (maxDischargeDepth := 40) [*]

@[simp] theorem abandonRule_apply_canon (q : Req) (s : State) (u0 : State) (h : Canon u0) :
    Canon ((abandonRule q s).apply u0) := by
  unfold abandonRule; (repeat' split) <;> simp +contextual (maxDischargeDepth := 40) [*]

@[simp] theorem abandonRule_after_canon (q : Req) (s : State) (u0 : State) (h : Canon u0) :
    Canon ((abandonRule q s).after u0) := by
  unfold abandonRule; (repeat' split) <;> simp +contextual (maxDischargeDepth := 40) [*]

@[simp] theorem abandonRule_onReject_canon (q : Req) (s : State) (u0 : State) (h : Canon u0) :
    Canon ((abandonRule q s).onReject u0) := by
  unfold abandonRule; (repeat' split) <;> simp +contextual (maxDischargeDepth := 40) [*]

@[simp] theorem armRule_apply_canon (value : Bytes) (s : State) (u0 : State) (h : Canon u0) :
    Canon ((armRule value s).apply u0) := by
  unfold armRule; (repeat' split) <;> simp +contextual (maxDischargeDepth := 40) [*]

@[simp] theorem armRule_after_canon (value : Bytes) (s : State) (u0 : State) (h : Canon u0) :
    Canon ((armRule value s).after u0) := by
  unfold armRule; (repeat' split) <;> simp +contextual (maxDischargeDepth := 40) [*]

@[simp] theorem armRule_onReject_canon (value : Bytes) (s : State) (u0 : State) (h : Canon u0) :
    Canon ((armRule value s).onReject u0) := by
  unfold armRule; (repeat' split) <;> simp +contextual (maxDischargeDepth := 40) [*]

@[simp] theorem scaleLoadRule_apply_canon (value : Bytes) (s : State) (u0 : State) (h : Canon u0) :
    Canon ((scaleLoadRule value s).apply u0) := by
  exact canon_of_keeps (by simp) h

@[simp] theorem scaleLoadRule_after_canon (value : Bytes) (s : State) (u0 : State) (h : Canon u0) :
    Canon ((scaleLoadRule value s).after u0) := by
  exact canon_of_keeps (by simp) h

@[simp] theorem scaleLoadRule_onReject_canon (value : Bytes) (s : State) (u0 : State) (h : Canon u0) :
    Canon ((scaleLoadRule value s).onReject u0) := by
  exact canon_of_keeps (by simp) h

@[simp] theorem startScaleRule_apply_canon (value : Bytes) (s : State) (u0 : State) (h : Canon u0) :
    Canon ((startScaleRule value s).apply u0) := by
  unfold startScaleRule; (repeat' split) <;> simp +contextual (maxDischargeDepth := 40) [*]

@[simp] theorem startScaleRule_after_canon (value : Bytes) (s : State) (u0 : State) (h : Canon u0) :
    Canon ((startScaleRule value s).after u0) := by
  unfold startScaleRule; (repeat' split) <;> simp +contextual (maxDischargeDepth := 40) [*]

@[simp] theorem startScaleRule_onReject_canon (value : Bytes) (s : State) (u0 : State) (h : Canon u0) :
    Canon ((startScaleRule value s).onReject u0) := by
  unfold startScaleRule; (repeat' split) <;> simp +contextual (maxDischargeDepth := 40) [*]

@[simp] theorem ownRule_apply_canon (q : Req) (idx : Nat) (sub : Nat) (value : Bytes) (codes : List Nat) (u0 : State) (h : Canon u0) :
    Canon ((ownRule q idx sub value codes).apply u0) := by
  exact canon_of_keeps (by simp) h

@[simp] theorem ownRule_after_canon (q : Req) (idx : Nat) (sub : Nat) (value : Bytes) (codes : List Nat) (u0 : State) (h : Canon u0) :
    Canon ((ownRule q idx sub value codes).after u0) := by
  exact canon_of_keeps (by simp) h

@[simp] theorem ownRule_onReject_canon (q : Req) (idx : Nat) (sub : Nat) (value : Bytes) (codes : List Nat) (u0 : State) (h : Canon u0) :
    Canon ((ownRule q idx sub value codes).onReject u0) := by
  exact canon_of_keeps (by simp) h

@[simp] theorem bufferRule_apply_canon (sub : Nat) (value : Bytes) (s : State) (u0 : State) (h : Canon u0) :
    Canon ((bufferRule sub value s).apply u0) := by
  unfold bufferRule; (repeat' split) <;> simp +contextual (maxDischargeDepth := 40) [*]

@[simp] theorem bufferRule_after_canon (sub : Nat) (value : Bytes) (s : State) (u0 : State) (h : Canon u0) :
    Canon ((bufferRule sub value s).after u0) := by
  unfold bufferRule; (repeat' split) <;> simp +contextual (maxDischargeDepth := 40) [*]

@[simp] theorem bufferRule_onReject_canon (sub : Nat) (value : Bytes) (s : State) (u0 : State) (h : Canon u0) :
    Canon ((bufferRule sub value s).onReject u0) := by
  unfold bufferRule; (repeat' split) <;> simp +contextual (maxDischargeDepth := 40) [*]

@[simp] theorem generatorRule_apply_canon (sub : Nat) (value : Bytes) (u0 : State) (h : Canon u0) :
    Canon ((generatorRule sub value).apply u0) := by
  unfold generatorRule; (repeat' split) <;> simp +contextual (maxDischargeDepth := 40) [*]

@[simp] theorem generatorRule_after_canon (sub : Nat) (value : Bytes) (u0 : State) (h : Canon u0) :
    Canon ((generatorRule sub value).after u0) := by
  unfold generatorRule; (repeat' split) <;> simp +contextual (maxDischargeDepth := 40) [*]

@[simp] theorem generatorRule_onReject_canon (sub : Nat) (value : Bytes) (u0 : State) (h : Canon u0) :
    Canon ((generatorRule sub value).onReject u0) := by
  unfold generatorRule; (repeat' split) <;> simp +contextual (maxDischargeDepth := 40) [*]

@[simp] theorem scaleRule_apply_canon (sub : Nat) (value : Bytes) (s : State) (u0 : State) (h : Canon u0) :
    Canon ((scaleRule sub value s).apply u0) := by
  unfold scaleRule; (repeat' split) <;> simp +contextual (maxDischargeDepth := 40) [*]

@[simp] theorem scaleRule_after_canon (sub : Nat) (value : Bytes) (s : State) (u0 : State) (h : Canon u0) :
    Canon ((scaleRule sub value s).after u0) := by
  unfold scaleRule; (repeat' split) <;> simp +contextual (maxDischargeDepth := 40) [*]

@[simp] theorem scaleRule_onReject_canon (sub : Nat) (value : Bytes) (s : State) (u0 : State) (h : Canon u0) :
    Canon ((scaleRule sub value s).onReject u0) := by
  unfold scaleRule; (repeat' split) <;> simp +contextual (maxDischargeDepth := 40) [*]

@[simp] theorem securingRule_apply_canon (sub : Nat) (value : Bytes) (u0 : State) (h : Canon u0) :
    Canon ((securingRule sub value).apply u0) := by
  unfold securingRule; (repeat' split) <;> simp +contextual (maxDischargeDepth := 40) [*]

@[simp] theorem securingRule_after_canon (sub : Nat) (value : Bytes) (u0 : State) (h : Canon u0) :
    Canon ((securingRule sub value).after u0) := by
  unfold securingRule; (repeat' split) <;> simp +contextual (maxDischargeDepth := 40) [*]

@[simp] theorem securingRule_onReject_canon (sub : Nat) (value : Bytes) (u0 : State) (h : Canon u0) :
    Canon ((securingRule sub value).onReject u0) := by
  unfold securingRule; (repeat' split) <;> simp +contextual (maxDischargeDepth := 40) [*]

@[simp] theorem glazedRule_apply_canon (sub : Nat) (value : Bytes) (u0 : State) (h : Canon u0) :
    Canon ((glazedRule sub value).apply u0) := by
  unfold glazedRule; (repeat' split) <;> simp +contextual (maxDischargeDepth := 40) [*]

@[simp] theorem glazedRule_after_canon (sub : Nat) (value : Bytes) (u0 : State) (h : Canon u0) :
    Canon ((glazedRule sub value).after u0) := by
  unfold glazedRule; (repeat' split) <;> simp +contextual (maxDischargeDepth := 40) [*]

@[simp] theorem glazedRule_onReject_canon (sub : Nat) (value : Bytes) (u0 : State) (h : Canon u0) :
    Canon ((glazedRule sub value).onReject u0) := by
  unfold glazedRule; (repeat' split) <;> simp +contextual (maxDischargeDepth := 40) [*]

@[simp] theorem regionRule_apply_canon (sub : Nat) (value : Bytes) (u0 : State) (h : Canon u0) :
    Canon ((regionRule sub value).apply u0) := by
  unfold regionRule; (repeat' split) <;> simp +contextual (maxDischargeDepth := 40) [*]

@[simp] theorem regionRule_after_canon (sub : Nat) (value : Bytes) (u0 : State) (h : Canon u0) :
    Canon ((regionRule sub value).after u0) := by
  unfold regionRule; (repeat' split) <;> simp +contextual (maxDischargeDepth := 40) [*]

@[simp] theorem regionRule_onReject_canon (sub : Nat) (value : Bytes) (u0 : State) (h : Canon u0) :
    Canon ((regionRule sub value).onReject u0) := by
  unfold regionRule; (repeat' split) <;> simp +contextual (maxDischargeDepth := 40) [*]

@[simp] theorem recoveryRule_apply_canon (q : Req) (sub : Nat) (value : Bytes) (s : State) (u0 : State) (h : Canon u0) :
    Canon ((recoveryRule q sub value s).apply u0) := by
  unfold recoveryRule; (repeat' split) <;> simp +contextual (maxDischargeDepth := 40) [*]

@[simp] theorem recoveryRule_after_canon (q : Req) (sub : Nat) (value : Bytes) (s : State) (u0 : State) (h : Canon u0) :
    Canon ((recoveryRule q sub value s).after u0) := by
  unfold recoveryRule; (repeat' split) <;> simp +contextual (maxDischargeDepth := 40) [*]

@[simp] theorem recoveryRule_onReject_canon (q : Req) (sub : Nat) (value : Bytes) (s : State) (u0 : State) (h : Canon u0) :
    Canon ((recoveryRule q sub value s).onReject u0) := by
  unfold recoveryRule; (repeat' split) <;> simp +contextual (maxDischargeDepth := 40) [*]

@[simp] theorem selectRule_apply_canon (q : Req) (value : Bytes) (s : State) (u0 : State) (h : Canon u0) :
    Canon ((selectRule q value s).apply u0) := by
  exact canon_of_keeps (by simp) h

@[simp] theorem selectRule_after_canon (q : Req) (value : Bytes) (s : State) (u0 : State) (h : Canon u0) :
    Canon ((selectRule q value s).after u0) := by
  exact canon_of_keeps (by simp) h

@[simp] theorem selectRule_onReject_canon (q : Req) (value : Bytes) (s : State) (u0 : State) (h : Canon u0) :
    Canon ((selectRule q value s).onReject u0) := by
  exact canon_of_keeps (by simp) h

@[simp] theorem ruleLow_apply_canon (q : Req) (idx : Nat) (sub : Nat) (value : Bytes) (s : State) (u0 : State) (h : Canon u0) :
    Canon ((ruleLow q idx sub value s).apply u0) := by
  unfold ruleLow; (repeat' split) <;> simp +contextual (maxDischargeDepth := 40) [*]

@[simp] theorem ruleLow_after_canon (q : Req) (idx : Nat) (sub : Nat) (value : Bytes) (s : State) (u0 : State) (h : Canon u0) :
    Canon ((ruleLow q idx sub value s).after u0) := by
  unfold ruleLow; (repeat' split) <;> simp +contextual (maxDischargeDepth := 40) [*]

@[simp] theorem ruleLow_onReject_canon (q : Req) (idx : Nat) (sub : Nat) (value : Bytes) (s : State) (u0 : State) (h : Canon u0) :
    Canon ((ruleLow q idx sub value s).onReject u0) := by
  unfold ruleLow; (repeat' split) <;> simp +contextual (maxDischargeDepth := 40) [*]

@[simp] theorem ruleMid_apply_canon (q : Req) (idx : Nat) (sub : Nat) (value : Bytes) (s : State) (u0 : State) (h : Canon u0) :
    Canon ((ruleMid q idx sub value s).apply u0) := by
  unfold ruleMid; (repeat' split) <;> simp +contextual (maxDischargeDepth := 40) [*]

@[simp] theorem ruleMid_after_canon (q : Req) (idx : Nat) (sub : Nat) (value : Bytes) (s : State) (u0 : State) (h : Canon u0) :
    Canon ((ruleMid q idx sub value s).after u0) := by
  unfold ruleMid; (repeat' split) <;> simp +contextual (maxDischargeDepth := 40) [*]

@[simp] theorem ruleMid_onReject_canon (q : Req) (idx : Nat) (sub : Nat) (value : Bytes) (s : State) (u0 : State) (h : Canon u0) :
    Canon ((ruleMid q idx sub value s).onReject u0) := by
  unfold ruleMid; (repeat' split) <;> simp +contextual (maxDischargeDepth := 40) [*]

@[simp] theorem ruleHigh_apply_canon (q : Req) (idx : Nat) (sub : Nat) (value : Bytes) (s : State) (u0 : State) (h : Canon u0) :
    Canon ((ruleHigh q idx sub value s).apply u0) := by
  unfold ruleHigh; (repeat' split) <;> simp +contextual (maxDischargeDepth := 40) [*]

@[simp] theorem ruleHigh_after_canon (q : Req) (idx : Nat) (sub : Nat) (value : Bytes) (s : State) (u0 : State) (h : Canon u0) :
    Canon ((ruleHigh q idx sub value s).after u0) := by
  unfold ruleHigh; (repeat' split) <;> simp +contextual (maxDischargeDepth := 40) [*]

@[simp] theorem ruleHigh_onReject_canon (q : Req) (idx : Nat) (sub : Nat) (value : Bytes) (s : State) (u0 : State) (h : Canon u0) :
    Canon ((ruleHigh q idx sub value s).onReject u0) := by
  unfold ruleHigh; (repeat' split) <;> simp +contextual (maxDischargeDepth := 40) [*]

@[simp] theorem ruleOf_apply_canon (q : Req) (idx : Nat) (sub : Nat) (value : Bytes) (s : State) (u0 : State) (h : Canon u0) :
    Canon ((ruleOf q idx sub value s).apply u0) := by
  unfold ruleOf; (repeat' split) <;> simp +contextual (maxDischargeDepth := 40) [*]

@[simp] theorem ruleOf_after_canon (q : Req) (idx : Nat) (sub : Nat) (value : Bytes) (s : State) (u0 : State) (h : Canon u0) :
    Canon ((ruleOf q idx sub value s).after u0) := by
  unfold ruleOf; (repeat' split) <;> simp +contextual (maxDischargeDepth := 40) [*]

@[simp] theorem ruleOf_onReject_canon (q : Req) (idx : Nat) (sub : Nat) (value : Bytes) (s : State) (u0 : State) (h : Canon u0) :
    Canon ((ruleOf q idx sub value s).onReject u0) := by
  unfold ruleOf; (repeat' split) <;> simp +contextual (maxDischargeDepth := 40) [*]

@[simp] theorem writeAny_canon (q : Req) (hi : Nat) (idx : Nat) (sub : Nat) (value : Bytes) (s : State) (h : Canon s) :
    Canon (writeAny q hi idx sub value s) := by
  unfold writeAny; (repeat' split) <;> simp +contextual (maxDischargeDepth := 40) [*]

@[simp] theorem readAny_canon (q : Req) (hi : Nat) (idx : Nat) (sub : Nat) (len : Nat) (s : State) (h : Canon s) :
    Canon (readAny q hi idx sub len s) := by
  unfold readAny; (repeat' split) <;> simp +contextual (maxDischargeDepth := 40) [*]

@[simp] theorem beginBlockRead_canon (q : Req) (idx : Nat) (sub : Nat) (s : State) (h : Canon s) :
    Canon (beginBlockRead q idx sub s) := by
  exact canon_of_keeps (by simp) h

@[simp] theorem beginBlockWrite_canon (q : Req) (idx : Nat) (sub : Nat) (len : Nat) (s : State) (h : Canon s) :
    Canon (beginBlockWrite q idx sub len s) := by
  unfold beginBlockWrite; (repeat' split) <;> simp +contextual (maxDischargeDepth := 40) [*]

@[simp] theorem blockWriteAny_canon (q : Req) (idx : Nat) (sub : Nat) (len : Nat) (s : State) (h : Canon s) :
    Canon (blockWriteAny q idx sub len s) := by
  unfold blockWriteAny; (repeat' split) <;> simp +contextual (maxDischargeDepth := 40) [*]

@[simp] theorem leaveProgress_canon (q : Req) (s : State) (h : Canon s) :
    Canon (leaveProgress q s) := by
  exact canon_of_keeps (by simp) h

@[simp] theorem finishBlockWrite_canon (t : Transfer) (s : State) (h : Canon s) : Canon (finishBlockWrite t s) := by
  unfold finishBlockWrite
  extract_lets q s1 s2 value old r code
  have h1 : Canon s1 := dropTransfer_canon _ _ h
  split
  · exact withRg_canon _ _ _ _ h1
  · have h2 : Canon s2 := leaveProgress_canon _ _ h1
    split
    · exact acceptWrite_canon _ _ _ _ _ _ (fun u hu => ruleOf_apply_canon _ _ _ _ _ _ hu) (fun u hu => ruleOf_after_canon _ _ _ _ _ _ hu) h2
    · exact rejectReq_canon _ _ _ (ruleOf_onReject_canon _ _ _ _ _ _ h2)

@[simp] theorem failBlockWrite_canon (t0 : Transfer) (s : State) (h : Canon s) :
    Canon (failBlockWrite t0 s) := by
  unfold failBlockWrite; (repeat' split) <;> simp +contextual (maxDischargeDepth := 40) [*]

@[simp] theorem writeBlockReceived_canon (b : Block) (s : State) (h : Canon s) :
    Canon (writeBlockReceived b s) := by
  unfold writeBlockReceived; (repeat' split) <;> simp +contextual (maxDischargeDepth := 40) [*]

@[simp] theorem mapOut_canon (peer : Nat) (num : Nat) (f : OutCtx → OutCtx) (s : State) (h : Canon s) :
    Canon (mapOut peer num f s) := by
  exact canon_of_keeps (by simp) h

@[simp] theorem mapIn_canon (peer : Nat) (num : Nat) (f : List Lease → List Lease) (s : State) (h : Canon s) :
    Canon (mapIn peer num f s) := by
  exact canon_of_keeps (by simp) h

@[simp] theorem takeGrant_canon (m0 : LeaseMsg) (s : State) (h : Canon s) :
    Canon (takeGrant m0 s) := by
  exact canon_of_keeps (by simp) h

@[simp] theorem takeRenewal_canon (m0 : LeaseMsg) (s : State) (h : Canon s) :
    Canon (takeRenewal m0 s) := by
  unfold takeRenewal; (repeat' split) <;> simp +contextual (maxDischargeDepth := 40) [*]

@[simp] theorem takeRenewalAck_canon (m0 : LeaseMsg) (s : State) (h : Canon s) :
    Canon (takeRenewalAck m0 s) := by
  exact canon_of_keeps (by simp) h

@[simp] theorem takeReturn_canon (m0 : LeaseMsg) (s : State) (h : Canon s) :
    Canon (takeReturn m0 s) := by
  unfold takeReturn; (repeat' split) <;> simp +contextual (maxDischargeDepth := 40) [*]

@[simp] theorem ifTagged_canon (tag : Nat) (f : State → State) (s : State) (k : ∀ u, Canon u → Canon (f u)) (h : Canon s) :
    Canon (ifTagged tag f s) := by
  unfold ifTagged
  split
  · exact k _ h
  · exact bump_canon _ _ _ _ h

@[simp] theorem lateExpiry_canon (x : LateLease) (s : State) (h : Canon s) :
    Canon (lateExpiry x s) := by
  unfold lateExpiry; (repeat' split) <;> simp +contextual (maxDischargeDepth := 40) [*]

@[simp] theorem reclaim_canon (peer : Nat) (ctx : Nat) (s : State) (h : Canon s) :
    Canon (reclaim peer ctx s) := by
  exact canon_of_keeps (by simp) h

@[simp] theorem takeToken_canon (m0 : TokenMsg) (s : State) (h : Canon s) :
    Canon (takeToken m0 s) := by
  unfold takeToken; (repeat' split) <;> simp +contextual (maxDischargeDepth := 40) [*]

@[simp] theorem returnDropped_canon (x : Carried) (s : State) (h : Canon s) :
    Canon (returnDropped x s) := by
  unfold returnDropped; (repeat' split) <;> simp +contextual (maxDischargeDepth := 40) [*]

@[simp] theorem dropParcel_canon (x : Carried) (key : Nat) (value : Nat) (s : State) (h : Canon s) :
    Canon (dropParcel x key value s) := by
  unfold dropParcel; (repeat' split) <;> simp +contextual (maxDischargeDepth := 40) [*]

@[simp] theorem noPlane_canon (k : Nat) (t1 : Nat) (s : State) (h : Canon s) :
    Canon (noPlane k t1 s) := by
  unfold noPlane; (repeat' split) <;> simp +contextual (maxDischargeDepth := 40) [*]

@[simp] theorem bindParcel_canon (x : Carried) (h1 : Hop) (lane : Nat × Nat) (s : State) (h : Canon s) :
    Canon (bindParcel x h1 lane s) := by
  unfold bindParcel; (repeat' split) <;> simp +contextual (maxDischargeDepth := 40) [*]

theorem tryHop_canon (x : Carried) (p : Hop) (s t : State) (e : tryHop x p s = some t) (h : Canon s) : Canon t := by
  unfold tryHop at e
  simp only [Option.map_eq_some_iff] at e
  obtain ⟨lane, _, rfl⟩ := e
  exact bindParcel_canon _ _ _ _ h

@[simp] theorem withQueue_canon (cls : Nat) (q : List Carried) (s : State) (h : Canon s) :
    Canon (withQueue cls q s) := by
  exact canon_of_keeps (by simp) h

@[simp] theorem forwardOne_canon (cls : Nat) (kept : List Carried) (heads : List (Option (Nat × Nat × Nat))) (l : List Carried)
    (s : State) (h : Canon s) : Canon (forwardOne cls kept heads l s) := by
  induction l generalizing kept heads s with
  | nil => simpa [forwardOne] using h
  | cons x rest ih =>
    unfold forwardOne
    extract_lets q route
    split
    · exact ih _ _ _ h
    · clear_value route
      cases route with
      | deliver => exact withFab_canon _ _ (withQueue_canon _ _ _ h)
      | discard k v => exact dropParcel_canon _ _ _ _ (withQueue_canon _ _ _ h)
      | hop p =>
        dsimp only
        split
        · rename_i t ht
          exact tryHop_canon _ _ _ _ ht (withQueue_canon _ _ _ h)
        · refine ih _ _ _ ?_
          split
          · exact noPlane_canon _ _ _ (withQueue_canon _ _ _ h)
          · exact withQueue_canon _ _ _ h

@[simp] theorem badAddress_canon (p : Nat) (c : Nat) (h2 : FlitHead) (s : State) (h : Canon s) :
    Canon (badAddress p c h2 s) := by
  unfold badAddress; (repeat' split) <;> simp +contextual (maxDischargeDepth := 40) [*]

@[simp] theorem nakLane_canon (p : Nat) (c : Nat) (s : State) (h : Canon s) :
    Canon (nakLane p c s) := by
  unfold nakLane; (repeat' split) <;> simp +contextual (maxDischargeDepth := 40) [*]

@[simp] theorem takeFlitCredit_canon (p : Nat) (c : Nat) (h2 : FlitHead) (s : State) (h : Canon s) :
    Canon (takeFlitCredit p c h2 s) := by
  unfold takeFlitCredit; (repeat' split) <;> simp +contextual (maxDischargeDepth := 40) [*]

@[simp] theorem takeFlitWord_canon (h0 : FlitHead) (area : Bytes) (s : State) (h : Canon s) :
    Canon (takeFlitWord h0 area s) := by
  unfold takeFlitWord; (repeat' split) <;> simp +contextual (maxDischargeDepth := 40) [*]

@[simp] theorem acceptParcel_canon (s : State) (x : Carried) (h : Canon s) :
    Canon (acceptParcel s x) := by
  unfold acceptParcel; (repeat' split) <;> simp +contextual (maxDischargeDepth := 40) [*]

@[simp] theorem takeParcels_canon (p : Nat) (c : Nat) (h2 : FlitHead) (area : Bytes) (s : State) (h : Canon s) :
    Canon (takeParcels p c h2 area s) := by
  unfold takeParcels; (repeat' split) <;> simp +contextual (maxDischargeDepth := 40) [*]

@[simp] theorem takeDataFlit_canon (p : Nat) (c : Nat) (h2 : FlitHead) (area : Bytes) (s : State) (h : Canon s) :
    Canon (takeDataFlit p c h2 area s) := by
  unfold takeDataFlit; repeat' (first | (simp +contextual (maxDischargeDepth := 40) [*]; done) | split | dsimp only)

@[simp] theorem resendFlits_canon (p : Nat) (c : Nat) (s : State) (h : Canon s) :
    Canon (resendFlits p c s) := by
  unfold resendFlits; (repeat' split) <;> simp +contextual (maxDischargeDepth := 40) [*]

@[simp] theorem giveBack_canon (c : Option InCtx) (p : Parcel) (s : State) (h : Canon s) :
    Canon (giveBack c p s) := by
  unfold giveBack; (repeat' split) <;> simp +contextual (maxDischargeDepth := 40) [*]

@[simp] theorem badTagParcel_canon (p : Parcel) (s : State) (h : Canon s) :
    Canon (badTagParcel p s) := by
  unfold badTagParcel; (repeat' split) <;> simp +contextual (maxDischargeDepth := 40) [*]

@[simp] theorem takeControl_canon (p : Parcel) (s : State) (h : Canon s) :
    Canon (takeControl p s) := by
  unfold takeControl; (repeat' split) <;> simp +contextual (maxDischargeDepth := 40) [*]

@[simp] theorem takeData_canon (c : InCtx) (p : Parcel) (s : State) (h : Canon s) :
    Canon (takeData c p s) := by
  unfold takeData; (repeat' split) <;> simp +contextual (maxDischargeDepth := 40) [*]

@[simp] theorem noContext_canon (p : Parcel) (s : State) (h : Canon s) :
    Canon (noContext p s) := by
  unfold noContext; (repeat' split) <;> simp +contextual (maxDischargeDepth := 40) [*]

@[simp] theorem deliverParcel_canon (p : Parcel) (s : State) (h : Canon s) :
    Canon (deliverParcel p s) := by
  unfold deliverParcel; (repeat' split) <;> simp +contextual (maxDischargeDepth := 40) [*]

@[simp] theorem tick_canon (s : State) (h : Canon s) :
    Canon (tick s) := by
  unfold tick; (repeat' split) <;> simp +contextual (maxDischargeDepth := 40) [*]

end Sys2Proof.Machine
end

