-- ==== Sys2Proof/Laws/FrameCommands.lean ====
section
/-! SUPPORT. Which parts of the state each command leaves alone: one lemma per command. -/

namespace Sys2Proof.Machine

theorem settled_next {b a t : State} (h : settled b a = .next t) : t = a := by
  unfold settled at h
  split at h
  · cases h
  · cases h; rfl

theorem execMemoryReadRequest_keeps (p : Packet) (ecc : MemEcc) (s : State) (t : State) (h : execMemoryReadRequest p ecc s = .next t) : Keeps 29729 s t := by
  unfold execMemoryReadRequest at h
  split at h
  · cases h
  · cases h; repeat' (first | (simp; done) | split)

theorem execMemoryWrite_keeps (p : Packet) (data : Bytes) (s : State) (t : State) (h : execMemoryWrite p data s = .next t) : Keeps 980457 s t := by
  unfold execMemoryWrite at h
  split at h
  · cases h
  · cases h; repeat' (first | (simp; done) | split)

theorem execMemoryReadResponse_keeps (die : Nat) (ep : Nat) (tag : Nat) (_data : Bytes) (poison : Bool) (s : State) (t : State) (h : execMemoryReadResponse die ep tag _data poison s = .next t) : Keeps 982445 s t := by
  simp only [execMemoryReadResponse, Host.Outcome.next.injEq] at h; subst h; (repeat' split) <;> simp

theorem execWriteAcknowledgement_keeps (die : Nat) (ep : Nat) (tag : Nat) (inv : Bool) (addr : Nat) (s : State) (t : State) (h : execWriteAcknowledgement die ep tag inv addr s = .next t) : Keeps 1048061 s t := by
  simp only [execWriteAcknowledgement, Host.Outcome.next.injEq] at h; subst h; (repeat' split) <;> simp

theorem execWriteCombineTimeout_keeps (controller : Nat) (line : Nat) (s : State) (t : State) (h : execWriteCombineTimeout controller line s = .next t) : Keeps 1048045 s t := by
  simp only [execWriteCombineTimeout, Host.Outcome.next.injEq] at h; subst h; (repeat' split) <;> simp

theorem execHbmRefresh_keeps (stack : Nat) (bank : Nat) (s : State) (t : State) (h : execHbmRefresh stack bank s = .next t) : Keeps 1048061 s t := by
  simp only [execHbmRefresh, Host.Outcome.next.injEq] at h; subst h; (repeat' split) <;> simp

theorem execHbmTemperatureReadout_keeps (temps : List Nat) (s : State) (t : State) (h : execHbmTemperatureReadout temps s = .next t) : Keeps 982509 s t := by
  simp only [execHbmTemperatureReadout, Host.Outcome.next.injEq] at h; subst h; (repeat' split) <;> simp

theorem execPatrolScrub_keeps (found : List ScrubFinding) (s : State) (t : State) (h : execPatrolScrub found s = .next t) : Keeps 982509 s t := by
  simp only [execPatrolScrub, Host.Outcome.next.injEq] at h; subst h; (repeat' split) <;> simp

theorem execHbmTrainingComplete_keeps (failures : List LaneFailure) (s : State) (t : State) (h : execHbmTrainingComplete failures s = .next t) : Keeps 31781 s t := by
  unfold execHbmTrainingComplete at h
  cases h
  split
  · simp
  · exact (trainingDone_keeps _ (by decide)).mpr ((trainStacks_keeps _ _ (by decide)).mpr (by simp))

theorem execGeneratorWriteReadCheck_keeps (q : Req) (g : GenReq) (s : State) (t : State) (h : execGeneratorWriteReadCheck q g s = .next t) : Keeps 851437 s t := by
  simp only [execGeneratorWriteReadCheck, Host.Outcome.next.injEq] at h; subst h; (repeat' split) <;> simp

theorem execGeneratorWrite_keeps (q : Req) (g : GenReq) (s : State) (t : State) (h : execGeneratorWrite q g s = .next t) : Keeps 851437 s t := by
  simp only [execGeneratorWrite, Host.Outcome.next.injEq] at h; subst h; (repeat' split) <;> simp

theorem execGeneratorReadCheck_keeps (q : Req) (g : GenReq) (s : State) (t : State) (h : execGeneratorReadCheck q g s = .next t) : Keeps 851437 s t := by
  simp only [execGeneratorReadCheck, Host.Outcome.next.injEq] at h; subst h; (repeat' split) <;> simp

theorem execGeneratorStopAll_keeps (q : Req) (g : GenReq) (s : State) (t : State) (h : execGeneratorStopAll q g s = .next t) : Keeps 851437 s t := by
  simp only [execGeneratorStopAll, Host.Outcome.next.injEq] at h; subst h; (repeat' split) <;> simp

theorem execGeneratorComplete_keeps (symbols : List (Nat × Nat)) (mismatches : Nat) (first : W32) (s : State) (t : State) (h : execGeneratorComplete symbols mismatches first s = .next t) : Keeps 1048045 s t := by
  simp only [execGeneratorComplete, Host.Outcome.next.injEq] at h; subst h; (repeat' split) <;> simp

theorem execPartitionSettingWrite_keeps (q : Req) (sub : Nat) (value : W32) (s : State) (t : State) (h : execPartitionSettingWrite q sub value s = .next t) : Keeps 851437 s t := by
  simp only [execPartitionSettingWrite, Host.Outcome.next.injEq] at h; subst h; (repeat' split) <;> simp

theorem execQuadrantLocalBoundaryWrite_keeps (q : Req) (b : Nat) (s : State) (t : State) (h : execQuadrantLocalBoundaryWrite q b s = .next t) : Keeps 851437 s t := by
  simp only [execQuadrantLocalBoundaryWrite, Host.Outcome.next.injEq] at h; subst h; (repeat' split) <;> simp

theorem execHostCopyRequest_keeps (q : Req) (value : Bytes) (s : State) (t : State) (h : execHostCopyRequest q value s = .next t) : Keeps 851437 s t := by
  simp only [execHostCopyRequest, Host.Outcome.next.injEq] at h; subst h; (repeat' split) <;> simp

theorem execHostCopyComplete_keeps (s : State) (t : State) (h : execHostCopyComplete s = .next t) : Keeps 851305 s t := by
  simp only [execHostCopyComplete, Host.Outcome.next.injEq] at h; subst h; (repeat' split) <;> simp

theorem execCrumbFire_keeps (half : Nat) (core : Nat) (errs : List StoreErr) (s : State) (t : State) (h : execCrumbFire half core errs s = .next t) : Keeps 982313 s t := by
  unfold execCrumbFire at h
  cases h
  split
  · simp
  · refine (onScore_keeps _ _ ?_).mpr ?_
    · intro sc u
      split
      · simp
      · split <;> simp
    · simp

theorem execCrumbRetire_keeps (half : Nat) (core : Nat) (unit : Nat) (s : State) (t : State) (h : execCrumbRetire half core unit s = .next t) : Keeps 1048365 s t := by
  unfold execCrumbRetire at h; cases h; dsimp only; repeat' (first | (simp; done) | split | (refine (onScore_keeps _ _ ?_).mpr ?_ <;> intros) | (apply keeps_foldl <;> intros))

theorem execWatchSampleComplete_keeps (half : Nat) (core : Nat) (s : State) (t : State) (h : execWatchSampleComplete half core s = .next t) : Keeps 1048365 s t := by
  simp only [execWatchSampleComplete, Host.Outcome.next.injEq] at h; subst h; (repeat' split) <;> simp

theorem execCommitGatedRetire_keeps (half : Nat) (core : Nat) (s : State) (t : State) (h : execCommitGatedRetire half core s = .next t) : Keeps 982441 s t := by
  unfold execCommitGatedRetire at h
  cases h
  split
  · simp
  · refine (onScore_keeps _ _ ?_).mpr ?_
    · intro sc u
      split
      · simp
      · split <;> simp
    · simp

theorem execPadElision_keeps (half : Nat) (core : Nat) (s : State) (t : State) (h : execPadElision half core s = .next t) : Keeps 982441 s t := by
  unfold execPadElision at h
  cases h
  split
  · simp
  · refine (onScore_keeps _ _ ?_).mpr ?_
    · intro sc u
      split
      · simp
      · split <;> simp
    · simp

theorem execStealing_keeps (half : Nat) (claim : StealClaim) (s : State) (t : State) (h : execStealing half claim s = .next t) : Keeps 982313 s t := by
  unfold execStealing at h; cases h; dsimp only; repeat' (first | (simp; done) | split | (refine (onScore_keeps _ _ ?_).mpr ?_ <;> intros) | (apply keeps_foldl <;> intros))

theorem execTokenPacket_keeps (token : Nat) (inc : Nat) (s : State) (t : State) (h : execTokenPacket token inc s = .next t) : Keeps 1048493 s t := by
  simp only [execTokenPacket, Host.Outcome.next.injEq] at h; subst h; (repeat' split) <;> simp

theorem execCreditGrantPacket_keeps (die : Nat) (ep : Nat) (cls : Nat) (granules : Nat) (to_ : GrantTo) (s : State) (t : State) (h : execCreditGrantPacket die ep cls granules to_ s = .next t) : Keeps 1048509 s t := by
  simp only [execCreditGrantPacket, Host.Outcome.next.injEq] at h; subst h; (repeat' split) <;> simp

theorem execCopyJobFire_keeps (die : Nat) (engine : Nat) (s : State) (t : State) (h : execCopyJobFire die engine s = .next t) : Keeps 982313 s t := by
  unfold execCopyJobFire at h; cases h; dsimp only; repeat' (first | (simp; done) | split | (refine (onScore_keeps _ _ ?_).mpr ?_ <;> intros) | (apply keeps_foldl <;> intros))

theorem execCopyJobRetire_keeps (die : Nat) (engine : Nat) (s : State) (t : State) (h : execCopyJobRetire die engine s = .next t) : Keeps 1048493 s t := by
  unfold execCopyJobRetire at h; cases h; dsimp only; repeat' (first | (simp; done) | split | (refine (onScore_keeps _ _ ?_).mpr ?_ <;> intros) | (apply keeps_foldl <;> intros))

theorem execStreamSegmentStart_keeps (stream : Nat) (s : State) (t : State) (h : execStreamSegmentStart stream s = .next t) : Keeps 982441 s t := by
  unfold execStreamSegmentStart at h; cases h; dsimp only; repeat' (first | (simp; done) | split | (refine (onScore_keeps _ _ ?_).mpr ?_ <;> intros) | (apply keeps_foldl <;> intros))

theorem execStreamSegmentComplete_keeps (stream : Nat) (s : State) (t : State) (h : execStreamSegmentComplete stream s = .next t) : Keeps 1047977 s t := by
  unfold execStreamSegmentComplete at h; cases h; dsimp only; repeat' (first | (simp; done) | split | (refine (onScore_keeps _ _ ?_).mpr ?_ <;> intros) | (apply keeps_foldl <;> intros))

theorem execStackPortTransfer_keeps (cd : Nat) (port : Nat) (toBase : Bool) (data : Bytes) (errs : List Nat) (credit : Nat × Nat) (s : State) (t : State) (h : execStackPortTransfer cd port toBase data errs credit s = .next t) : Keeps 29729 s t := by
  simp only [execStackPortTransfer, Host.Outcome.next.injEq] at h; subst h; (repeat' split) <;> simp

theorem execQlDataUnit_keeps (u : QlUnit) (payload : Bytes) (s : State) (t : State) (h : execQlDataUnit u payload s = .next t) : Keeps 979949 s t := by
  simp only [execQlDataUnit, Host.Outcome.next.injEq] at h; subst h; (repeat' split) <;> simp

theorem execQlIdleUnit_keeps (u : QlUnit) (s : State) (t : State) (h : execQlIdleUnit u s = .next t) : Keeps 1047549 s t := by
  simp only [execQlIdleUnit, Host.Outcome.next.injEq] at h; subst h; (repeat' split) <;> simp

theorem execQlNakUnit_keeps (u : QlUnit) (s : State) (t : State) (h : execQlNakUnit u s = .next t) : Keeps 30757 s t := by
  simp only [execQlNakUnit, Host.Outcome.next.injEq] at h; subst h; (repeat' split) <;> simp

theorem execQlReplayTimeout_keeps (link : Nat) (up : Bool) (s : State) (t : State) (h : execQlReplayTimeout link up s = .next t) : Keeps 30757 s t := by
  simp only [execQlReplayTimeout, Host.Outcome.next.injEq] at h; subst h; (repeat' split) <;> simp

theorem execQlRetrainComplete_keeps (link : Nat) (repaired : Nat) (exhausted : BitVec 8) (beyond : Bool) (s : State) (t : State) (h : execQlRetrainComplete link repaired exhausted beyond s = .next t) : Keeps 30757 s t := by
  unfold execQlRetrainComplete at h; dsimp only at h; split at h <;> first | (cases h; simp; done) | (cases h; dsimp only; repeat' (first | (simp; done) | split); done) | (rw [settled_next h]; simp; done)

theorem execQlRetrainTimeout_keeps (link : Nat) (s : State) (t : State) (h : execQlRetrainTimeout link s = .next t) : Keeps 30757 s t := by
  simp only [execQlRetrainTimeout, Host.Outcome.next.injEq] at h; subst h; (repeat' split) <;> simp

theorem execPralineRepeat_keeps (s : State) (t : State) (h : execPralineRepeat s = .next t) : Keeps 1019885 s t := by
  simp only [execPralineRepeat, Host.Outcome.next.injEq] at h; subst h; (repeat' split) <;> simp

theorem execCollectiveLaunch_keeps (coll : Nat) (s : State) (t : State) (h : execCollectiveLaunch coll s = .next t) : Keeps 921001 s t := by
  unfold execCollectiveLaunch at h; cases h; dsimp only; repeat' (first | (simp; done) | split | (refine (onScore_keeps _ _ ?_).mpr ?_ <;> intros) | (apply keeps_foldl <;> intros))

theorem execCollectiveChunk_keeps (c : Chunk) (s : State) (t : State) (h : execCollectiveChunk c s = .next t) : Keeps 921001 s t := by
  simp only [execCollectiveChunk, Host.Outcome.next.injEq] at h; subst h; (repeat' split) <;> simp

theorem execPralineWord_keeps (w : Praline) (s : State) (t : State) (h : execPralineWord w s = .next t) : Keeps 921001 s t := by
  simp only [execPralineWord, Host.Outcome.next.injEq] at h; subst h; (repeat' split) <;> simp

theorem execVerdictPoint_keeps (s : State) (t : State) (h : execVerdictPoint s = .next t) : Keeps 921381 s t := by
  simp only [execVerdictPoint, Host.Outcome.next.injEq] at h; subst h; (repeat' split) <;> simp

theorem execPairDigestReceive_keeps (m0 : PairDigestMsg) (s : State) (t : State) (h : execPairDigestReceive m0 s = .next t) : Keeps 921517 s t := by
  simp only [execPairDigestReceive, Host.Outcome.next.injEq] at h; subst h; (repeat' split) <;> simp

theorem execVerdictReductionComplete_keeps (s : State) (t : State) (h : execVerdictReductionComplete s = .next t) : Keeps 920993 s t := by
  unfold execVerdictReductionComplete at h
  cases h
  split
  · simp
  · refine (onScore_keeps _ _ ?_).mpr ?_
    · intro sc u
      split <;> simp
    · simp

theorem execLossReductionComplete_keeps (s : State) (t : State) (h : execLossReductionComplete s = .next t) : Keeps 933281 s t := by
  unfold execLossReductionComplete at h; cases h; dsimp only; repeat' (first | (simp; done) | split | (refine (onScore_keeps _ _ ?_).mpr ?_ <;> intros) | (apply keeps_foldl <;> intros))

theorem execSecuringTransfer_keeps (s : State) (t : State) (h : execSecuringTransfer s = .next t) : Keeps 974249 s t := by
  unfold execSecuringTransfer at h; cases h; dsimp only; repeat' (first | (simp; done) | split | (refine (onScore_keeps _ _ ?_).mpr ?_ <;> intros) | (apply keeps_foldl <;> intros))

theorem execOpticalCommissioningComplete_keeps (found : List Nat × List (List Nat)) (s : State) (t : State) (h : execOpticalCommissioningComplete found s = .next t) : Keeps 1044477 s t := by
  simp only [execOpticalCommissioningComplete, Host.Outcome.next.injEq] at h; subst h; (repeat' split) <;> simp

theorem execRecommissionPort_keeps (q : Req) (port : Nat) (s : State) (t : State) (h : execRecommissionPort q port s = .next t) : Keeps 577517 s t := by
  unfold execRecommissionPort at h; rw [settled_next h]; simp

theorem execLaneFrame_keeps (f : LaneFrame) (s : State) (t : State) (h : execLaneFrame f s = .next t) : Keeps 970733 s t := by
  simp only [execLaneFrame, Host.Outcome.next.injEq] at h; subst h; (repeat' split) <;> simp

theorem execLaneFrameTimeout_keeps (port : Nat) (colour : Nat) (linePresent : Bool) (s : State) (t : State) (h : execLaneFrameTimeout port colour linePresent s = .next t) : Keeps 970733 s t := by
  simp only [execLaneFrameTimeout, Host.Outcome.next.injEq] at h; subst h; (repeat' split) <;> simp

theorem execRingLockLoop_keeps (tx : Bool) (port : Nat) (ring : Nat) (step : Int) (found : LoopResult) (s : State) (t : State) (h : execRingLockLoop tx port ring step found s = .next t) : Keeps 970733 s t := by
  simp only [execRingLockLoop, Host.Outcome.next.injEq] at h; subst h; (repeat' split) <;> simp

theorem execSearchCandidateTimeout_keeps (port : Nat) (colour : Nat) (s : State) (t : State) (h : execSearchCandidateTimeout port colour s = .next t) : Keeps 970733 s t := by
  simp only [execSearchCandidateTimeout, Host.Outcome.next.injEq] at h; subst h; (repeat' split) <;> simp

theorem execRingSearchLineReached_keeps (tx : Bool) (port : Nat) (colour : Nat) (line : Nat × Nat) (accepted : Bool) (crossings : Nat) (s : State) (t : State) (h : execRingSearchLineReached tx port colour line accepted crossings s = .next t) : Keeps 970733 s t := by
  simp only [execRingSearchLineReached, Host.Outcome.next.injEq] at h; subst h; (repeat' split) <;> simp

theorem execAnchorSweepRetry_keeps (port : Nat) (s : State) (t : State) (h : execAnchorSweepRetry port s = .next t) : Keeps 1044477 s t := by
  simp only [execAnchorSweepRetry, Host.Outcome.next.injEq] at h; subst h; (repeat' split) <;> simp

theorem execTransmitGenerationWrite_keeps (q : Req) (sub : Nat) (gen : Nat) (s : State) (t : State) (h : execTransmitGenerationWrite q sub gen s = .next t) : Keeps 839661 s t := by
  simp only [execTransmitGenerationWrite, Host.Outcome.next.injEq] at h; subst h; (repeat' split) <;> simp

theorem execWavelengthCheck_keeps (laser : Nat) (offsetMHz : Int) (s : State) (t : State) (h : execWavelengthCheck laser offsetMHz s = .next t) : Keeps 1044477 s t := by
  simp only [execWavelengthCheck, Host.Outcome.next.injEq] at h; subst h; (repeat' split) <;> simp

theorem execCalibrationSlot_keeps (port : Nat) (ringsGood : Bool × Bool) (s : State) (t : State) (h : execCalibrationSlot port ringsGood s = .next t) : Keeps 970733 s t := by
  simp only [execCalibrationSlot, Host.Outcome.next.injEq] at h; subst h; (repeat' split) <;> simp

theorem execCalibrationSlotEnd_keeps (port : Nat) (back : Bool) (farOff : Bool) (s : State) (t : State) (h : execCalibrationSlotEnd port back farOff s = .next t) : Keeps 970733 s t := by
  simp only [execCalibrationSlotEnd, Host.Outcome.next.injEq] at h; subst h; (repeat' split) <;> simp

theorem execLaserPowerReading_keeps (spare : Bool) (laser : Nat) (reading : Nat) (s : State) (t : State) (h : execLaserPowerReading spare laser reading s = .next t) : Keeps 970733 s t := by
  simp only [execLaserPowerReading, Host.Outcome.next.injEq] at h; subst h; (repeat' split) <;> simp

theorem execSpareLaserLocked_keeps (engine : Nat) (spare : Nat) (s : State) (t : State) (h : execSpareLaserLocked engine spare s = .next t) : Keeps 978925 s t := by
  simp only [execSpareLaserLocked, Host.Outcome.next.injEq] at h; subst h; (repeat' split) <;> simp

theorem execStepStart_keeps (s : State) (t : State) (h : execStepStart s = .next t) : Keeps 924969 s t := by
  simp only [execStepStart, Host.Outcome.next.injEq] at h; subst h; (repeat' split) <;> simp

theorem execStepBoundary_keeps (s : State) (t : State) (h : execStepBoundary s = .next t) : Keeps 150565 s t := by
  simp only [execStepBoundary, Host.Outcome.next.injEq] at h; subst h; (repeat' split) <;> simp

theorem execStepStalled_keeps (s : State) (t : State) (h : execStepStalled s = .next t) : Keeps 31781 s t := by
  simp only [execStepStalled, Host.Outcome.next.injEq] at h; subst h; (repeat' split) <;> simp

theorem execLeave_keeps (q : Req) (s : State) (t : State) (h : execLeave q s = .next t) : Keeps 3105 s t := by
  simp only [execLeave, Host.Outcome.next.injEq] at h; subst h; (repeat' split) <;> simp

theorem execClearFault_keeps (q : Req) (s : State) (t : State) (h : execClearFault q s = .next t) : Keeps 3105 s t := by
  simp only [execClearFault, Host.Outcome.next.injEq] at h; subst h; (repeat' split) <;> simp

theorem execPrepare_keeps (q : Req) (s : State) (t : State) (h : execPrepare q s = .next t) : Keeps 3105 s t := by
  simp only [execPrepare, Host.Outcome.next.injEq] at h; subst h; (repeat' split) <;> simp

theorem execRun_keeps (q : Req) (s : State) (t : State) (h : execRun q s = .next t) : Keeps 3105 s t := by
  simp only [execRun, Host.Outcome.next.injEq] at h; subst h; (repeat' split) <;> simp

theorem execHold_keeps (q : Req) (s : State) (t : State) (h : execHold q s = .next t) : Keeps 3105 s t := by
  simp only [execHold, Host.Outcome.next.injEq] at h; subst h; (repeat' split) <;> simp

theorem execRelease_keeps (q : Req) (s : State) (t : State) (h : execRelease q s = .next t) : Keeps 3105 s t := by
  simp only [execRelease, Host.Outcome.next.injEq] at h; subst h; (repeat' split) <;> simp

theorem execUnprepare_keeps (q : Req) (s : State) (t : State) (h : execUnprepare q s = .next t) : Keeps 3105 s t := by
  simp only [execUnprepare, Host.Outcome.next.injEq] at h; subst h; (repeat' split) <;> simp

theorem execJoin_keeps (src : Nat) (dst : Nat) (msg : Nat) (s : State) (t : State) (h : execJoin src dst msg s = .next t) : Keeps 851425 s t := by
  simp only [execJoin, Host.Outcome.next.injEq] at h; subst h; (repeat' split) <;> simp

theorem execPrepareComplete_keeps (sigGood : Bool) (s : State) (t : State) (h : execPrepareComplete sigGood s = .next t) : Keeps 3489 s t := by
  simp only [execPrepareComplete, Host.Outcome.next.injEq] at h; subst h; (repeat' split) <;> simp

theorem execGrantSteps_keeps (q : Req) (steps : Nat) (s : State) (t : State) (h : execGrantSteps q steps s = .next t) : Keeps 851949 s t := by
  simp only [execGrantSteps, Host.Outcome.next.injEq] at h; subst h; (repeat' split) <;> simp

theorem execPostMicroBatch_keeps (q : Req) (p : Post) (s : State) (t : State) (h : execPostMicroBatch q p s = .next t) : Keeps 851885 s t := by
  simp only [execPostMicroBatch, Host.Outcome.next.injEq] at h; subst h; (repeat' split) <;> simp

theorem execFrameMark_keeps (m0 : FrameMark) (crc : W32) (s : State) (t : State) (h : execFrameMark m0 crc s = .next t) : Keeps 720873 s t := by
  simp only [execFrameMark, Host.Outcome.next.injEq] at h; subst h; (repeat' split) <;> simp

theorem execDataSlot_keeps (x : Slot) (s : State) (t : State) (h : execDataSlot x s = .next t) : Keeps 3105 s t := by
  simp only [execDataSlot, Host.Outcome.next.injEq] at h; subst h; (repeat' split) <;> simp

theorem execMessageTimeout_keeps (src : Nat) (sess : Nat) (msg : Nat) (s : State) (t : State) (h : execMessageTimeout src sess msg s = .next t) : Keeps 851949 s t := by
  simp only [execMessageTimeout, Host.Outcome.next.injEq] at h; subst h; (repeat' split) <;> simp

theorem execEventTransmit_keeps (s : State) (t : State) (h : execEventTransmit s = .next t) : Keeps 983021 s t := by
  simp only [execEventTransmit, Host.Outcome.next.injEq] at h; subst h; (repeat' split) <;> simp

theorem execBulkOpen_keeps (q : Req) (o : BulkOpen) (s : State) (t : State) (h : execBulkOpen q o s = .next t) : Keeps 851433 s t := by
  simp only [execBulkOpen, Host.Outcome.next.injEq] at h; subst h; (repeat' split) <;> simp

theorem execBulkClose_keeps (q : Req) (chan : Nat) (s : State) (t : State) (h : execBulkClose q chan s = .next t) : Keeps 851949 s t := by
  simp only [execBulkClose, Host.Outcome.next.injEq] at h; subst h; (repeat' split) <;> simp

theorem execBulkBlockWritten_keeps (chan : Nat) (num : Nat) (data : Bytes) (s : State) (t : State) (h : execBulkBlockWritten chan num data s = .next t) : Keeps 982505 s t := by
  simp only [execBulkBlockWritten, Host.Outcome.next.injEq] at h; subst h; (repeat' split) <;> simp

theorem execBlockAcknowledgement_keeps (a : BlockAck) (s : State) (t : State) (h : execBlockAcknowledgement a s = .next t) : Keeps 851433 s t := by
  simp only [execBlockAcknowledgement, Host.Outcome.next.injEq] at h; subst h; (repeat' split) <;> simp

theorem execBlockAckTimeout_keeps (a : BlockAck) (s : State) (t : State) (h : execBlockAckTimeout a s = .next t) : Keeps 851433 s t := by
  simp only [execBlockAckTimeout, Host.Outcome.next.injEq] at h; subst h; (repeat' split) <;> simp

theorem execCoreTestDue_keeps (half : Nat) (s : State) (t : State) (h : execCoreTestDue half s = .next t) : Keeps 524285 s t := by
  simp only [execCoreTestDue, Host.Outcome.next.injEq] at h; subst h; (repeat' split) <;> simp

theorem execCoreTestStart_keeps (half : Nat) (s : State) (t : State) (h : execCoreTestStart half s = .next t) : Keeps 524157 s t := by
  simp only [execCoreTestStart, Host.Outcome.next.injEq] at h; subst h; (repeat' split) <;> simp

theorem execCoreTestOverdue_keeps (half : Nat) (s : State) (t : State) (h : execCoreTestOverdue half s = .next t) : Keeps 458733 s t := by
  simp only [execCoreTestOverdue, Host.Outcome.next.injEq] at h; subst h; (repeat' split) <;> simp

theorem execCoreTestComplete_keeps (half : Nat) (passed : Bool) (s : State) (t : State) (h : execCoreTestComplete half passed s = .next t) : Keeps 31781 s t := by
  simp only [execCoreTestComplete, Host.Outcome.next.injEq] at h; subst h; (repeat' split) <;> simp

theorem execSelfTestTileStores_keeps (q : Req) (target : Nat) (reserved : Nat) (s : State) (t : State) (h : execSelfTestTileStores q target reserved s = .next t) : Keeps 327661 s t := by
  simp only [execSelfTestTileStores, Host.Outcome.next.injEq] at h; subst h; (repeat' split) <;> simp

theorem execSelfTestSharedCache_keeps (q : Req) (target : Nat) (reserved : Nat) (s : State) (t : State) (h : execSelfTestSharedCache q target reserved s = .next t) : Keeps 327661 s t := by
  simp only [execSelfTestSharedCache, Host.Outcome.next.injEq] at h; subst h; (repeat' split) <;> simp

theorem execSelfTestMemorySideCache_keeps (q : Req) (target : Nat) (reserved : Nat) (s : State) (t : State) (h : execSelfTestMemorySideCache q target reserved s = .next t) : Keeps 327661 s t := by
  simp only [execSelfTestMemorySideCache, Host.Outcome.next.injEq] at h; subst h; (repeat' split) <;> simp

theorem execSelfTestHbmStack_keeps (q : Req) (target : Nat) (reserved : Nat) (s : State) (t : State) (h : execSelfTestHbmStack q target reserved s = .next t) : Keeps 327661 s t := by
  simp only [execSelfTestHbmStack, Host.Outcome.next.injEq] at h; subst h; (repeat' split) <;> simp

theorem execSelfTestComplete_keeps (failing : List Nat) (s : State) (t : State) (h : execSelfTestComplete failing s = .next t) : Keeps 31777 s t := by
  simp only [execSelfTestComplete, Host.Outcome.next.injEq] at h; subst h; (repeat' split) <;> simp

theorem execTestPortEnable_keeps (q : Req) (value : Nat) (s : State) (t : State) (h : execTestPortEnable q value s = .next t) : Keeps 65517 s t := by
  simp only [execTestPortEnable, Host.Outcome.next.injEq] at h; subst h; (repeat' split) <;> simp

theorem execTapReset_keeps (s : State) (t : State) (h : execTapReset s = .next t) : Keeps 524285 s t := by
  simp only [execTapReset, Host.Outcome.next.injEq] at h; subst h; (repeat' split) <;> simp

theorem execExtest_keeps (s : State) (t : State) (h : execExtest s = .next t) : Keeps 523641 s t := by
  simp only [execExtest, Host.Outcome.next.injEq] at h; subst h; (repeat' split) <;> simp

theorem execSamplePreload_keeps (pins : BitVec 15) (s : State) (t : State) (h : execSamplePreload pins s = .next t) : Keeps 523641 s t := by
  simp only [execSamplePreload, Host.Outcome.next.injEq] at h; subst h; (repeat' split) <;> simp

theorem execIdcode_keeps (s : State) (t : State) (h : execIdcode s = .next t) : Keeps 523641 s t := by
  simp only [execIdcode, Host.Outcome.next.injEq] at h; subst h; (repeat' split) <;> simp

theorem execClamp_keeps (s : State) (t : State) (h : execClamp s = .next t) : Keeps 523641 s t := by
  simp only [execClamp, Host.Outcome.next.injEq] at h; subst h; (repeat' split) <;> simp

theorem execHighz_keeps (s : State) (t : State) (h : execHighz s = .next t) : Keeps 523641 s t := by
  simp only [execHighz, Host.Outcome.next.injEq] at h; subst h; (repeat' split) <;> simp

theorem execDieSelect_keeps (select : BitVec 40) (s : State) (t : State) (h : execDieSelect select s = .next t) : Keeps 523641 s t := by
  simp only [execDieSelect, Host.Outcome.next.injEq] at h; subst h; (repeat' split) <;> simp

theorem execDieAccess_keeps (s : State) (t : State) (h : execDieAccess s = .next t) : Keeps 523641 s t := by
  simp only [execDieAccess, Host.Outcome.next.injEq] at h; subst h; (repeat' split) <;> simp

theorem execBypass_keeps (code : BitVec 8) (s : State) (t : State) (h : execBypass code s = .next t) : Keeps 523641 s t := by
  simp only [execBypass, Host.Outcome.next.injEq] at h; subst h; (repeat' split) <;> simp

theorem execEnrolmentWrite_keeps (q : Req) (idx : Nat) (sub : Nat) (key : W256) (s : State) (t : State) (h : execEnrolmentWrite q idx sub key s = .next t) : Keeps 851949 s t := by
  simp only [execEnrolmentWrite, Host.Outcome.next.injEq] at h; subst h; (repeat' split) <;> simp

theorem execHello_keeps (msg : Nat) (role : Nat) (key : W256) (_reserved : Nat) (s : State) (t : State) (h : execHello msg role key _reserved s = .next t) : Keeps 851945 s t := by
  simp only [execHello, Host.Outcome.next.injEq] at h; subst h; (repeat' split) <;> simp

theorem execFinish_keeps (m0 : FinishMsg) (s : State) (t : State) (h : execFinish m0 s = .next t) : Keeps 64873 s t := by
  simp only [execFinish, Host.Outcome.next.injEq] at h; subst h; (repeat' split) <;> simp

theorem execFinishTimeout_keeps (sess : Nat) (s : State) (t : State) (h : execFinishTimeout sess s = .next t) : Keeps 917485 s t := by
  simp only [execFinishTimeout, Host.Outcome.next.injEq] at h; subst h; (repeat' split) <;> simp

theorem execClose_keeps (sess : Nat) (named : Nat) (s : State) (t : State) (h : execClose sess named s = .next t) : Keeps 851949 s t := by
  simp only [execClose, Host.Outcome.next.injEq] at h; subst h; (repeat' split) <;> simp

theorem execFabricKeyInstall_keeps (q : Req) (reserved : Nat) (key : W256) (s : State) (t : State) (h : execFabricKeyInstall q reserved key s = .next t) : Keeps 851949 s t := by
  simp only [execFabricKeyInstall, Host.Outcome.next.injEq] at h; subst h; (repeat' split) <;> simp

theorem execRegionKeyInstall_keeps (q : Req) (region : Nat) (reserved : Nat) (base : Nat) (length : Nat) (key : BitVec 512) (s : State) (t : State) (h : execRegionKeyInstall q region reserved base length key s = .next t) : Keeps 851437 s t := by
  simp only [execRegionKeyInstall, Host.Outcome.next.injEq] at h; subst h; (repeat' split) <;> simp

theorem execRegionRemove_keeps (q : Req) (region : Nat) (reserved : Nat) (s : State) (t : State) (h : execRegionRemove q region reserved s = .next t) : Keeps 851437 s t := by
  simp only [execRegionRemove, Host.Outcome.next.injEq] at h; subst h; (repeat' split) <;> simp

theorem execTenantStateErased_keeps (s : State) (t : State) (h : execTenantStateErased s = .next t) : Keeps 917501 s t := by
  simp only [execTenantStateErased, Host.Outcome.next.injEq] at h; subst h; (repeat' split) <;> simp

theorem execPowerStateRequest_keeps (q : Req) (value : Nat) (s : State) (t : State) (h : execPowerStateRequest q value s = .next t) : Keeps 51309 s t := by
  unfold execPowerStateRequest at h; rw [settled_next h]; simp

theorem execPowerStateReached_keeps (s : State) (t : State) (h : execPowerStateReached s = .next t) : Keeps 51565 s t := by
  simp only [execPowerStateReached, Host.Outcome.next.injEq] at h; subst h; (repeat' split) <;> simp

theorem execBlockEnableWrite_keeps (q : Req) (sub : Nat) (value : Nat) (s : State) (t : State) (h : execBlockEnableWrite q sub value s = .next t) : Keeps 577005 s t := by
  simp only [execBlockEnableWrite, Host.Outcome.next.injEq] at h; subst h; (repeat' split) <;> simp

theorem execPllSettingWrite_keeps (q : Req) (sub : Nat) (value : W32) (s : State) (t : State) (h : execPllSettingWrite q sub value s = .next t) : Keeps 851949 s t := by
  simp only [execPllSettingWrite, Host.Outcome.next.injEq] at h; subst h; (repeat' split) <;> simp

theorem execSupplyOrTemperatureFault_keeps (m0 : Limits) (s : State) (t : State) (h : execSupplyOrTemperatureFault m0 s = .next t) : Keeps 18469 s t := by
  simp only [execSupplyOrTemperatureFault, Host.Outcome.next.injEq] at h; subst h; (repeat' split) <;> simp

theorem execThermTrip_keeps (die : Nat) (stack : Nat) (s : State) (t : State) (h : execThermTrip die stack s = .next t) : Keeps 786429 s t := by
  simp only [execThermTrip, Host.Outcome.next.injEq] at h; subst h; (repeat' split) <;> simp

theorem execPmbusPoll_keeps (st : PmStatus) (s : State) (t : State) (h : execPmbusPoll st s = .next t) : Keeps 18469 s t := by
  simp only [execPmbusPoll, Host.Outcome.next.injEq] at h; subst h; (repeat' split) <;> simp

theorem execPmbusAlert_keeps (st : PmStatus) (s : State) (t : State) (h : execPmbusAlert st s = .next t) : Keeps 18469 s t := by
  simp only [execPmbusAlert, Host.Outcome.next.injEq] at h; subst h; (repeat' split) <;> simp

theorem execIslandMismatch_keeps (s : State) (t : State) (h : execIslandMismatch s = .next t) : Keeps 31781 s t := by
  simp only [execIslandMismatch, Host.Outcome.next.injEq] at h; subst h; (repeat' split) <;> simp

theorem execTimeReferenceWrite_keeps (q : Req) (value : Nat) (s : State) (t : State) (h : execTimeReferenceWrite q value s = .next t) : Keeps 589805 s t := by
  simp only [execTimeReferenceWrite, Host.Outcome.next.injEq] at h; subst h; (repeat' split) <;> simp

theorem execTimeReferenceLost_keeps (s : State) (t : State) (h : execTimeReferenceLost s = .next t) : Keeps 786413 s t := by
  simp only [execTimeReferenceLost, Host.Outcome.next.injEq] at h; subst h; (repeat' split) <;> simp

theorem execTimeReferenceReturn_keeps (s : State) (t : State) (h : execTimeReferenceReturn s = .next t) : Keeps 786413 s t := by
  simp only [execTimeReferenceReturn, Host.Outcome.next.injEq] at h; subst h; (repeat' split) <;> simp

theorem execPpsEdge_keeps (s : State) (t : State) (h : execPpsEdge s = .next t) : Keeps 786413 s t := by
  simp only [execPpsEdge, Host.Outcome.next.injEq] at h; subst h; (repeat' split) <;> simp

theorem execRingClockLoss_keeps (s : State) (t : State) (h : execRingClockLoss s = .next t) : Keeps 720893 s t := by
  simp only [execRingClockLoss, Host.Outcome.next.injEq] at h; subst h; (repeat' split) <;> simp

theorem execRingClockReturn_keeps (linksDown : List Nat) (s : State) (t : State) (h : execRingClockReturn linksDown s = .next t) : Keeps 30757 s t := by
  simp only [execRingClockReturn, Host.Outcome.next.injEq] at h; subst h; (repeat' split) <;> simp

theorem execModuleReset_keeps (p : ResetPins) (s : State) (t : State) (h : execModuleReset p s = .next t) : Keeps 33 s t := by
  simp only [execModuleReset, Host.Outcome.next.injEq] at h; subst h; (repeat' split) <;> simp

theorem execResetRelease_keeps (straps : Straps) (s : State) (t : State) (h : execResetRelease straps s = .next t) : Keeps 786397 s t := by
  simp only [execResetRelease, Host.Outcome.next.injEq] at h; subst h; (repeat' split) <;> simp

theorem execSymbolLock_keeps (locked : Bool) (s : State) (t : State) (h : execSymbolLock locked s = .next t) : Keeps 786429 s t := by
  simp only [execSymbolLock, Host.Outcome.next.injEq] at h; subst h; (repeat' split) <;> simp

theorem execSettleDelayElapsed_keeps (s : State) (t : State) (h : execSettleDelayElapsed s = .next t) : Keeps 786429 s t := by
  simp only [execSettleDelayElapsed, Host.Outcome.next.injEq] at h; subst h; (repeat' split) <;> simp

theorem execIslandSelfTest_keeps (b0 : Bool) (b2 : Bool) (s : State) (t : State) (h : execIslandSelfTest b0 b2 s = .next t) : Keeps 786429 s t := by
  simp only [execIslandSelfTest, Host.Outcome.next.injEq] at h; subst h; (repeat' split) <;> simp

theorem execFirmwareVerified_keeps (img : FwImage) (sigGood : Bool) (s : State) (t : State) (h : execFirmwareVerified img sigGood s = .next t) : Keeps 917485 s t := by
  simp only [execFirmwareVerified, Host.Outcome.next.injEq] at h; subst h; (repeat' split) <;> simp

theorem execFirmwareWriteComplete_keeps (img : FwImage) (sigGood : Bool) (s : State) (t : State) (h : execFirmwareWriteComplete img sigGood s = .next t) : Keeps 1 s t := by
  simp only [execFirmwareWriteComplete, Host.Outcome.next.injEq] at h; subst h; (repeat' split) <;> simp

theorem execFabricConfigurationWrite_keeps (q : Req) (idx : Nat) (sub : Nat) (value : W32) (s : State) (t : State) (h : execFabricConfigurationWrite q idx sub value s = .next t) : Keeps 577517 s t := by
  unfold execFabricConfigurationWrite at h; dsimp only at h; split at h <;> first | (cases h; simp; done) | (cases h; dsimp only; repeat' (first | (simp; done) | split); done) | (rw [settled_next h]; simp; done)

theorem execExceptionEntryWrite_keeps (q : Req) (num : Nat) (entry : W64) (s : State) (t : State) (h : execExceptionEntryWrite q num entry s = .next t) : Keeps 843757 s t := by
  simp only [execExceptionEntryWrite, Host.Outcome.next.injEq] at h; subst h; (repeat' split) <;> simp

theorem execRankOverrideWrite_keeps (q : Req) (num : Nat) (entry : W64) (s : State) (t : State) (h : execRankOverrideWrite q num entry s = .next t) : Keeps 843757 s t := by
  simp only [execRankOverrideWrite, Host.Outcome.next.injEq] at h; subst h; (repeat' split) <;> simp

theorem execGroupMemberEntryWrite_keeps (q : Req) (num : Nat) (entry : W64) (s : State) (t : State) (h : execGroupMemberEntryWrite q num entry s = .next t) : Keeps 843757 s t := by
  simp only [execGroupMemberEntryWrite, Host.Outcome.next.injEq] at h; subst h; (repeat' split) <;> simp

theorem execGroupDescriptorWrite_keeps (q : Req) (num : Nat) (entry : W64) (s : State) (t : State) (h : execGroupDescriptorWrite q num entry s = .next t) : Keeps 843757 s t := by
  simp only [execGroupDescriptorWrite, Host.Outcome.next.injEq] at h; subst h; (repeat' split) <;> simp

theorem execRemoteReadRequest_keeps (m0 : RemoteMsg) (s : State) (t : State) (h : execRemoteReadRequest m0 s = .next t) : Keeps 1007081 s t := by
  simp only [execRemoteReadRequest, Host.Outcome.next.injEq] at h; subst h; (repeat' split) <;> simp

theorem execRemoteWrite_keeps (m0 : RemoteMsg) (s : State) (t : State) (h : execRemoteWrite m0 s = .next t) : Keeps 1015789 s t := by
  simp only [execRemoteWrite, Host.Outcome.next.injEq] at h; subst h; (repeat' split) <;> simp

theorem execRestore_keeps (q : Req) (step : Nat) (s : State) (t : State) (h : execRestore q step s = .next t) : Keeps 790441 s t := by
  simp only [execRestore, Host.Outcome.next.injEq] at h; subst h; (repeat' split) <;> simp

theorem execRestoreComplete_keeps (s : State) (t : State) (h : execRestoreComplete s = .next t) : Keeps 999405 s t := by
  simp only [execRestoreComplete, Host.Outcome.next.injEq] at h; subst h; (repeat' split) <;> simp

theorem execRemoteReadResponse_keeps (m0 : RemoteMsg) (s : State) (t : State) (h : execRemoteReadResponse m0 s = .next t) : Keeps 925089 s t := by
  simp only [execRemoteReadResponse, Host.Outcome.next.injEq] at h; subst h; (repeat' split) <;> simp

theorem execAbandon_keeps (q : Req) (s : State) (t : State) (h : execAbandon q s = .next t) : Keeps 789933 s t := by
  simp only [execAbandon, Host.Outcome.next.injEq] at h; subst h; (repeat' split) <;> simp

theorem execAbandonComplete_keeps (s : State) (t : State) (h : execAbandonComplete s = .next t) : Keeps 819173 s t := by
  simp only [execAbandonComplete, Host.Outcome.next.injEq] at h; subst h; (repeat' split) <;> simp

theorem execHoldCommitArm_keeps (q : Req) (step : Nat) (s : State) (t : State) (h : execHoldCommitArm q step s = .next t) : Keeps 851949 s t := by
  simp only [execHoldCommitArm, Host.Outcome.next.injEq] at h; subst h; (repeat' split) <;> simp

theorem execScaleStateLoad_keeps (q : Req) (value : W64) (s : State) (t : State) (h : execScaleStateLoad q value s = .next t) : Keeps 851885 s t := by
  simp only [execScaleStateLoad, Host.Outcome.next.injEq] at h; subst h; (repeat' split) <;> simp

theorem execKz8StartScaleWrite_keeps (q : Req) (value : W32) (s : State) (t : State) (h : execKz8StartScaleWrite q value s = .next t) : Keeps 851949 s t := by
  simp only [execKz8StartScaleWrite, Host.Outcome.next.injEq] at h; subst h; (repeat' split) <;> simp

theorem execExpeditedWrite_keeps (q : Req) (idx : Nat) (sub : Nat) (value : Bytes) (s : State) (t : State) (h : execExpeditedWrite q idx sub value s = .next t) : Keeps 2081 s t := by
  unfold execExpeditedWrite at h; rw [settled_next h]; simp

theorem execSegmentedWrite_keeps (q : Req) (idx : Nat) (sub : Nat) (value : Bytes) (s : State) (t : State) (h : execSegmentedWrite q idx sub value s = .next t) : Keeps 2081 s t := by
  unfold execSegmentedWrite at h; rw [settled_next h]; simp

theorem execDictionaryWrite_keeps (q : Req) (idx : Nat) (sub : Nat) (value : Bytes) (s : State) (t : State) (h : execDictionaryWrite q idx sub value s = .next t) : Keeps 2081 s t := by
  unfold execDictionaryWrite at h; rw [settled_next h]; simp

theorem execExpeditedRead_keeps (q : Req) (idx : Nat) (sub : Nat) (len : Nat) (s : State) (t : State) (h : execExpeditedRead q idx sub len s = .next t) : Keeps 851949 s t := by
  simp only [execExpeditedRead, Host.Outcome.next.injEq] at h; subst h; (repeat' split) <;> simp

theorem execSegmentedRead_keeps (q : Req) (idx : Nat) (sub : Nat) (len : Nat) (s : State) (t : State) (h : execSegmentedRead q idx sub len s = .next t) : Keeps 851949 s t := by
  simp only [execSegmentedRead, Host.Outcome.next.injEq] at h; subst h; (repeat' split) <;> simp

theorem execAttestationQuote_keeps (q : Req) (s : State) (t : State) (h : execAttestationQuote q s = .next t) : Keeps 851949 s t := by
  simp only [execAttestationQuote, Host.Outcome.next.injEq] at h; subst h; (repeat' split) <;> simp

theorem execBlockRead_keeps (q : Req) (idx : Nat) (sub : Nat) (len : Nat) (s : State) (t : State) (h : execBlockRead q idx sub len s = .next t) : Keeps 851949 s t := by
  simp only [execBlockRead, Host.Outcome.next.injEq] at h; subst h; (repeat' split) <;> simp

theorem execBlockWrite_keeps (q : Req) (idx : Nat) (sub : Nat) (len : Nat) (s : State) (t : State) (h : execBlockWrite q idx sub len s = .next t) : Keeps 851949 s t := by
  simp only [execBlockWrite, Host.Outcome.next.injEq] at h; subst h; (repeat' split) <;> simp

theorem execFirmwareImageWrite_keeps (q : Req) (length : Nat) (s : State) (t : State) (h : execFirmwareImageWrite q length s = .next t) : Keeps 851949 s t := by
  simp only [execFirmwareImageWrite, Host.Outcome.next.injEq] at h; subst h; (repeat' split) <;> simp

theorem execBlockData_keeps (b : Block) (s : State) (t : State) (h : execBlockData b s = .next t) : Keeps 2081 s t := by
  unfold execBlockData at h; dsimp only at h; repeat' (first | (cases h; simp; done) | (rw [settled_next h]; repeat' (first | (simp; done) | split); done) | split at h)

theorem execLeaseGrant_keeps (m0 : LeaseMsg) (s : State) (t : State) (h : execLeaseGrant m0 s = .next t) : Keeps 1040365 s t := by
  unfold execLeaseGrant at h; cases h; simp

theorem execLeaseRenewal_keeps (m0 : LeaseMsg) (s : State) (t : State) (h : execLeaseRenewal m0 s = .next t) : Keeps 1040365 s t := by
  unfold execLeaseRenewal at h; cases h; simp

theorem execRenewalAcknowledgement_keeps (m0 : LeaseMsg) (s : State) (t : State) (h : execRenewalAcknowledgement m0 s = .next t) : Keeps 1040365 s t := by
  unfold execRenewalAcknowledgement at h; cases h; simp

theorem execGranuleReturn_keeps (m0 : LeaseMsg) (s : State) (t : State) (h : execGranuleReturn m0 s = .next t) : Keeps 990633 s t := by
  unfold execGranuleReturn at h; cases h; simp

theorem execLeaseRenewalDue_keeps (peer : Nat) (ctx : Nat) (lease : Nat) (s : State) (t : State) (h : execLeaseRenewalDue peer ctx lease s = .next t) : Keeps 1040365 s t := by
  simp only [execLeaseRenewalDue, Host.Outcome.next.injEq] at h; subst h; (repeat' split) <;> simp

theorem execIssuerLeaseExpiry_keeps (ctx : Nat) (lease : Nat) (s : State) (t : State) (h : execIssuerLeaseExpiry ctx lease s = .next t) : Keeps 937893 s t := by
  simp only [execIssuerLeaseExpiry, Host.Outcome.next.injEq] at h; subst h; (repeat' split) <;> simp

theorem execHolderLeaseExpiry_keeps (peer : Nat) (ctx : Nat) (lease : Nat) (s : State) (t : State) (h : execHolderLeaseExpiry peer ctx lease s = .next t) : Keeps 937893 s t := by
  simp only [execHolderLeaseExpiry, Host.Outcome.next.injEq] at h; subst h; (repeat' split) <;> simp

theorem execTokenIncrementParcel_keeps (m0 : TokenMsg) (s : State) (t : State) (h : execTokenIncrementParcel m0 s = .next t) : Keeps 1048493 s t := by
  unfold execTokenIncrementParcel at h; cases h; simp

theorem execParcelForward_keeps (cls : Nat) (s : State) (t : State) (h : execParcelForward cls s = .next t) : Keeps 921001 s t := by
  simp only [execParcelForward, Host.Outcome.next.injEq] at h; subst h; (repeat' split) <;> simp

theorem execDataFlit_keeps (f : Flit) (s : State) (t : State) (h : execDataFlit f s = .next t) : Keeps 921001 s t := by
  unfold execDataFlit at h; cases h; simp

theorem execIdleFlit_keeps (f : Flit) (s : State) (t : State) (h : execIdleFlit f s = .next t) : Keeps 921001 s t := by
  unfold execIdleFlit at h; cases h; simp

theorem execNakFlit_keeps (f : Flit) (s : State) (t : State) (h : execNakFlit f s = .next t) : Keeps 921001 s t := by
  unfold execNakFlit at h; cases h; dsimp only; repeat' (first | (simp; done) | split)

theorem execTestFlit_keeps (f : Flit) (s : State) (t : State) (h : execTestFlit f s = .next t) : Keeps 970733 s t := by
  unfold execTestFlit at h; cases h; simp

theorem execFlitReplayTimeout_keeps (port : Nat) (colour : Nat) (s : State) (t : State) (h : execFlitReplayTimeout port colour s = .next t) : Keeps 970733 s t := by
  simp only [execFlitReplayTimeout, Host.Outcome.next.injEq] at h; subst h; (repeat' split) <;> simp

theorem execParcelDelivery_keeps (s : State) (t : State) (h : execParcelDelivery s = .next t) : Keeps 920993 s t := by
  simp only [execParcelDelivery, Host.Outcome.next.injEq] at h; subst h; (repeat' split) <;> simp

end Sys2Proof.Machine
end

