-- ==== Sys2Proof/Laws/CanonicalCommands.lean ====
section
/-! SUPPORT. Every command keeps the canonical form; a memory write does when its bytes stay within one line. -/

namespace Sys2Proof.Machine

theorem execMemoryReadRequest_canon (p : Packet) (ecc : MemEcc) (s : State) (t : State) (h0 : Canon s) (h : execMemoryReadRequest p ecc s = .next t) : Canon t := by
  unfold execMemoryReadRequest at h
  split at h
  · cases h
  · have h1 := fresh_canon s h0
    extract_lets u m v at h
    have h1 : Canon u := h1
    have hv : Canon v := expectAnswer_canon _ _ _ h1
    clear_value v u m
    cases h
    split
    · exact h1
    · split
      · exact discardRequest_canon _ _ h1
      · split
        · exact h1
        · split
          · exact serveRead_canon _ _ _ hv
          · exact waitRequest_canon _ _ (by intro e; cases e) hv

theorem execMemoryWrite_canon (p : Packet) (data : Bytes) (s : State) (t : State) (hd : p.addr % 256 + data.length ≤ 256) (h0 : Canon s) (h : execMemoryWrite p data s = .next t) : Canon t := by
  unfold execMemoryWrite at h
  split at h
  · cases h
  · have h1 := fresh_canon s h0
    have hm : (memReqOf p).addr % 256 + data.length ≤ 256 := hd
    extract_lets u m v at h
    have h1 : Canon u := h1
    have hm : m.addr % 256 + data.length ≤ 256 := hm
    have hv : Canon v := expectAnswer_canon _ _ _ h1
    clear_value v u m
    cases h
    split
    · exact h1
    · split
      · exact discardRequest_canon _ _ h1
      · split
        · exact h1
        · split
          · exact serveWrite_canon _ _ _ hm hv
          · exact waitRequest_canon _ _ (fun _ => hm) hv

theorem execMemoryReadResponse_canon (die : Nat) (ep : Nat) (tag : Nat) (_data : Bytes) (poison : Bool) (s : State) (t : State) (h0 : Canon s) (h : execMemoryReadResponse die ep tag _data poison s = .next t) : Canon t := by
  unfold execMemoryReadResponse at h; cases h; repeat' (first | (simp +contextual (maxDischargeDepth := 40) [*]; done) | split)

theorem execWriteAcknowledgement_canon (die : Nat) (ep : Nat) (tag : Nat) (inv : Bool) (addr : Nat) (s : State) (t : State) (h0 : Canon s) (h : execWriteAcknowledgement die ep tag inv addr s = .next t) : Canon t := by
  unfold execWriteAcknowledgement at h; cases h; simp +contextual (maxDischargeDepth := 40) [*]

theorem execWriteCombineTimeout_canon (controller : Nat) (line : Nat) (s : State) (t : State) (h0 : Canon s) (h : execWriteCombineTimeout controller line s = .next t) : Canon t := by
  unfold execWriteCombineTimeout at h; cases h; repeat' (first | (simp +contextual (maxDischargeDepth := 40) [*]; done) | split)

theorem execHbmRefresh_canon (stack : Nat) (bank : Nat) (s : State) (t : State) (h0 : Canon s) (h : execHbmRefresh stack bank s = .next t) : Canon t := by
  unfold execHbmRefresh at h; cases h; simp +contextual (maxDischargeDepth := 40) [*]

theorem execHbmTemperatureReadout_canon (temps : List Nat) (s : State) (t : State) (h0 : Canon s) (h : execHbmTemperatureReadout temps s = .next t) : Canon t := by
  unfold execHbmTemperatureReadout at h; cases h; simp +contextual (maxDischargeDepth := 40) [*]

theorem execPatrolScrub_canon (found : List ScrubFinding) (s : State) (t : State) (h0 : Canon s) (h : execPatrolScrub found s = .next t) : Canon t := by
  have h1 : Canon (fresh s) := fresh_canon _ h0
  have hv : Canon (chargeScrub (bump 0x4030 2 1 (found.foldl scrubOne (fresh s)))) :=
    chargeScrub_canon _ (bump_canon 0x4030 2 1 _ (canon_foldl scrubOne (fun u e hu => scrubOne_canon u e hu) found _ h1))
  have a2 : ∀ (v : State) (n : Nat), Canon v → Canon { v with mem := { v.mem with scrubbed := n } } :=
    fun v n hv => canon_set_mem _ hv.cells hv.msc hv.wc hv.waits hv
  have a3 : t = fresh s ∨ ∃ n, t = { chargeScrub (bump 0x4030 2 1 (found.foldl scrubOne (fresh s))) with
      mem := { (chargeScrub (bump 0x4030 2 1 (found.foldl scrubOne (fresh s)))).mem with scrubbed := n } } := by
    unfold execPatrolScrub at h
    injection h with h
    by_cases c : (fresh s).mem.trained = true ∧ (fresh s).mem.scrubbed + scrubInterval (fresh s) ≤ (fresh s).pwr.time
    · rw [if_pos c] at h; exact Or.inr ⟨_, h.symm⟩
    · rw [if_neg c] at h; exact Or.inl h.symm
  rcases a3 with h | ⟨n, h⟩
  · rw [h]; exact h1
  · rw [h]; exact a2 _ _ hv

theorem execHbmTrainingComplete_canon (failures : List LaneFailure) (s : State) (t : State) (h0 : Canon s) (h : execHbmTrainingComplete failures s = .next t) : Canon t := by
  unfold execHbmTrainingComplete at h
  cases h
  split
  · exact fresh_canon _ h0
  · exact trainingDone_canon _ (trainStacks_canon _ _ (fresh_canon _ h0))

theorem execGeneratorWriteReadCheck_canon (q : Req) (g : GenReq) (s : State) (t : State) (h0 : Canon s) (h : execGeneratorWriteReadCheck q g s = .next t) : Canon t := by
  unfold execGeneratorWriteReadCheck at h; cases h; simp +contextual (maxDischargeDepth := 40) [*]

theorem execGeneratorWrite_canon (q : Req) (g : GenReq) (s : State) (t : State) (h0 : Canon s) (h : execGeneratorWrite q g s = .next t) : Canon t := by
  unfold execGeneratorWrite at h; cases h; simp +contextual (maxDischargeDepth := 40) [*]

theorem execGeneratorReadCheck_canon (q : Req) (g : GenReq) (s : State) (t : State) (h0 : Canon s) (h : execGeneratorReadCheck q g s = .next t) : Canon t := by
  unfold execGeneratorReadCheck at h; cases h; simp +contextual (maxDischargeDepth := 40) [*]

theorem execGeneratorStopAll_canon (q : Req) (g : GenReq) (s : State) (t : State) (h0 : Canon s) (h : execGeneratorStopAll q g s = .next t) : Canon t := by
  unfold execGeneratorStopAll at h; cases h; simp +contextual (maxDischargeDepth := 40) [*]

theorem execGeneratorComplete_canon (symbols : List (Nat × Nat)) (mismatches : Nat) (first : W32) (s : State) (t : State) (h0 : Canon s) (h : execGeneratorComplete symbols mismatches first s = .next t) : Canon t := by
  unfold execGeneratorComplete at h; cases h; repeat' (first | (simp +contextual (maxDischargeDepth := 40) [*]; done) | split)

theorem execPartitionSettingWrite_canon (q : Req) (sub : Nat) (value : W32) (s : State) (t : State) (h0 : Canon s) (h : execPartitionSettingWrite q sub value s = .next t) : Canon t := by
  unfold execPartitionSettingWrite at h; cases h; simp +contextual (maxDischargeDepth := 40) [*]

theorem execQuadrantLocalBoundaryWrite_canon (q : Req) (b : Nat) (s : State) (t : State) (h0 : Canon s) (h : execQuadrantLocalBoundaryWrite q b s = .next t) : Canon t := by
  unfold execQuadrantLocalBoundaryWrite at h; cases h; simp +contextual (maxDischargeDepth := 40) [*]

theorem execHostCopyRequest_canon (q : Req) (value : Bytes) (s : State) (t : State) (h0 : Canon s) (h : execHostCopyRequest q value s = .next t) : Canon t := by
  unfold execHostCopyRequest at h; cases h; simp +contextual (maxDischargeDepth := 40) [*]

theorem execHostCopyComplete_canon (s : State) (t : State) (h0 : Canon s) (h : execHostCopyComplete s = .next t) : Canon t := by
  unfold execHostCopyComplete at h; cases h; repeat' (first | (simp +contextual (maxDischargeDepth := 40) [*]; done) | split)

theorem execCrumbFire_canon (half : Nat) (core : Nat) (errs : List StoreErr) (s : State) (t : State) (h0 : Canon s) (h : execCrumbFire half core errs s = .next t) : Canon t := by
  unfold execCrumbFire at h; cases h; repeat' (first | (simp +contextual (maxDischargeDepth := 40) [*]; done) | split | (apply canon_foldl <;> intros) | (apply onScore_canon <;> intros) | (apply stepDataError_canon <;> intros))

theorem execCrumbRetire_canon (half : Nat) (core : Nat) (unit : Nat) (s : State) (t : State) (h0 : Canon s) (h : execCrumbRetire half core unit s = .next t) : Canon t := by
  unfold execCrumbRetire at h
  cases h
  split
  · exact fresh_canon _ h0
  · refine onScore_canon _ _ ?_ (fresh_canon _ h0)
    intro sc u hu
    extract_lets key
    split
    · exact hu
    · split
      · exact hu
      · have hv := fun x => withSite_canon key x u hu
        split
        · exact sendOutputs_canon _ _ _ _ (hv _)
        · exact hv _

theorem execWatchSampleComplete_canon (half : Nat) (core : Nat) (s : State) (t : State) (h0 : Canon s) (h : execWatchSampleComplete half core s = .next t) : Canon t := by
  unfold execWatchSampleComplete at h; cases h; repeat' (first | (simp +contextual (maxDischargeDepth := 40) [*]; done) | split)

theorem execCommitGatedRetire_canon (half : Nat) (core : Nat) (s : State) (t : State) (h0 : Canon s) (h : execCommitGatedRetire half core s = .next t) : Canon t := by
  unfold execCommitGatedRetire at h; cases h; repeat' (first | (simp +contextual (maxDischargeDepth := 40) [*]; done) | split | (apply canon_foldl <;> intros) | (apply onScore_canon <;> intros) | (apply stepDataError_canon <;> intros))

theorem execPadElision_canon (half : Nat) (core : Nat) (s : State) (t : State) (h0 : Canon s) (h : execPadElision half core s = .next t) : Canon t := by
  unfold execPadElision at h; cases h; repeat' (first | (simp +contextual (maxDischargeDepth := 40) [*]; done) | split | (apply canon_foldl <;> intros) | (apply onScore_canon <;> intros) | (apply stepDataError_canon <;> intros))

theorem execStealing_canon (half : Nat) (claim : StealClaim) (s : State) (t : State) (h0 : Canon s) (h : execStealing half claim s = .next t) : Canon t := by
  unfold execStealing at h
  cases h
  repeat' (first | (simp +contextual (maxDischargeDepth := 40) [*]; done) | split | extract_lets | (apply canon_foldl <;> intros) | (apply onScore_canon <;> intros))

theorem execTokenPacket_canon (token : Nat) (inc : Nat) (s : State) (t : State) (h0 : Canon s) (h : execTokenPacket token inc s = .next t) : Canon t := by
  unfold execTokenPacket at h; cases h; simp +contextual (maxDischargeDepth := 40) [*]

theorem execCreditGrantPacket_canon (die : Nat) (ep : Nat) (cls : Nat) (granules : Nat) (to_ : GrantTo) (s : State) (t : State) (h0 : Canon s) (h : execCreditGrantPacket die ep cls granules to_ s = .next t) : Canon t := by
  exact canon_of_keeps (Keeps.mono (by decide) (execCreditGrantPacket_keeps die ep cls granules to_ s t h)) h0

theorem execCopyJobFire_canon (die : Nat) (engine : Nat) (s : State) (t : State) (h0 : Canon s) (h : execCopyJobFire die engine s = .next t) : Canon t := by
  unfold execCopyJobFire at h
  cases h
  repeat' (first | (simp +contextual (maxDischargeDepth := 40) [*]; done) | split | extract_lets | (apply canon_foldl <;> intros) | (apply onScore_canon <;> intros))

theorem execCopyJobRetire_canon (die : Nat) (engine : Nat) (s : State) (t : State) (h0 : Canon s) (h : execCopyJobRetire die engine s = .next t) : Canon t := by
  unfold execCopyJobRetire at h
  cases h
  split
  · exact fresh_canon _ h0
  · refine onScore_canon _ _ ?_ (fresh_canon _ h0)
    intro sc u hu
    extract_lets x
    split
    · exact hu
    · rename_i i hi
      have hv : ∀ y : Engine, Canon (withEngine (engineKey die engine) y u) := fun y => withEngine_canon _ _ _ hu
      split
      · exact deliver_canon _ _ _ _ _ (hv _)
      · exact hv _

theorem execStreamSegmentStart_canon (stream : Nat) (s : State) (t : State) (h0 : Canon s) (h : execStreamSegmentStart stream s = .next t) : Canon t := by
  unfold execStreamSegmentStart at h; cases h; repeat' (first | (simp +contextual (maxDischargeDepth := 40) [*]; done) | split | (apply canon_foldl <;> intros) | (apply onScore_canon <;> intros) | (apply stepDataError_canon <;> intros))

theorem execStreamSegmentComplete_canon (stream : Nat) (s : State) (t : State) (h0 : Canon s) (h : execStreamSegmentComplete stream s = .next t) : Canon t := by
  unfold execStreamSegmentComplete at h; cases h; repeat' (first | (simp +contextual (maxDischargeDepth := 40) [*]; done) | split | (apply canon_foldl <;> intros) | (apply onScore_canon <;> intros) | (apply stepDataError_canon <;> intros))

theorem execStackPortTransfer_canon (cd : Nat) (port : Nat) (toBase : Bool) (data : Bytes) (errs : List Nat) (credit : Nat × Nat) (s : State) (t : State) (h0 : Canon s) (h : execStackPortTransfer cd port toBase data errs credit s = .next t) : Canon t := by
  unfold execStackPortTransfer at h; cases h; simp +contextual (maxDischargeDepth := 40) [*]

theorem execQlDataUnit_canon (u : QlUnit) (payload : Bytes) (s : State) (t : State) (h0 : Canon s) (h : execQlDataUnit u payload s = .next t) : Canon t := by
  unfold execQlDataUnit at h; cases h; repeat' (first | (simp +contextual (maxDischargeDepth := 40) [*]; done) | split)

theorem execQlIdleUnit_canon (u : QlUnit) (s : State) (t : State) (h0 : Canon s) (h : execQlIdleUnit u s = .next t) : Canon t := by
  exact canon_of_keeps (Keeps.mono (by decide) (execQlIdleUnit_keeps u s t h)) h0

theorem execQlNakUnit_canon (u : QlUnit) (s : State) (t : State) (h0 : Canon s) (h : execQlNakUnit u s = .next t) : Canon t := by
  unfold execQlNakUnit at h; cases h; simp +contextual (maxDischargeDepth := 40) [*]

theorem execQlReplayTimeout_canon (link : Nat) (up : Bool) (s : State) (t : State) (h0 : Canon s) (h : execQlReplayTimeout link up s = .next t) : Canon t := by
  unfold execQlReplayTimeout at h; cases h; simp +contextual (maxDischargeDepth := 40) [*]

theorem execQlRetrainComplete_canon (link : Nat) (repaired : Nat) (exhausted : BitVec 8) (beyond : Bool) (s : State) (t : State) (h0 : Canon s) (h : execQlRetrainComplete link repaired exhausted beyond s = .next t) : Canon t := by
  unfold execQlRetrainComplete at h; dsimp only at h; repeat' (first | (cases h; simp +contextual (maxDischargeDepth := 40) [*]; done) | (rw [settled_next h]; repeat' (first | (simp +contextual (maxDischargeDepth := 40) [*]; done) | split); done) | split at h)

theorem execQlRetrainTimeout_canon (link : Nat) (s : State) (t : State) (h0 : Canon s) (h : execQlRetrainTimeout link s = .next t) : Canon t := by
  unfold execQlRetrainTimeout at h; cases h; simp +contextual (maxDischargeDepth := 40) [*]

theorem execPralineRepeat_canon (s : State) (t : State) (h0 : Canon s) (h : execPralineRepeat s = .next t) : Canon t := by
  unfold execPralineRepeat at h; cases h; simp +contextual (maxDischargeDepth := 40) [*]

theorem execCollectiveLaunch_canon (coll : Nat) (s : State) (t : State) (h0 : Canon s) (h : execCollectiveLaunch coll s = .next t) : Canon t := by
  unfold execCollectiveLaunch at h; cases h; repeat' (first | (simp +contextual (maxDischargeDepth := 40) [*]; done) | split | (apply canon_foldl <;> intros) | (apply onScore_canon <;> intros) | (apply stepDataError_canon <;> intros))

theorem execCollectiveChunk_canon (c : Chunk) (s : State) (t : State) (h0 : Canon s) (h : execCollectiveChunk c s = .next t) : Canon t := by
  unfold execCollectiveChunk at h; cases h; simp +contextual (maxDischargeDepth := 40) [*]

theorem execPralineWord_canon (w : Praline) (s : State) (t : State) (h0 : Canon s) (h : execPralineWord w s = .next t) : Canon t := by
  unfold execPralineWord at h; cases h; simp +contextual (maxDischargeDepth := 40) [*]

theorem execVerdictPoint_canon (s : State) (t : State) (h0 : Canon s) (h : execVerdictPoint s = .next t) : Canon t := by
  unfold execVerdictPoint at h; cases h; simp +contextual (maxDischargeDepth := 40) [*]

theorem execPairDigestReceive_canon (m0 : PairDigestMsg) (s : State) (t : State) (h0 : Canon s) (h : execPairDigestReceive m0 s = .next t) : Canon t := by
  unfold execPairDigestReceive at h; cases h; simp +contextual (maxDischargeDepth := 40) [*]

theorem execVerdictReductionComplete_canon (s : State) (t : State) (h0 : Canon s) (h : execVerdictReductionComplete s = .next t) : Canon t := by
  unfold execVerdictReductionComplete at h; cases h; repeat' (first | (simp +contextual (maxDischargeDepth := 40) [*]; done) | split | (apply canon_foldl <;> intros) | (apply onScore_canon <;> intros) | (apply stepDataError_canon <;> intros))

theorem execLossReductionComplete_canon (s : State) (t : State) (h0 : Canon s) (h : execLossReductionComplete s = .next t) : Canon t := by
  unfold execLossReductionComplete at h; cases h; repeat' (first | (simp +contextual (maxDischargeDepth := 40) [*]; done) | split | (apply canon_foldl <;> intros) | (apply onScore_canon <;> intros) | (apply stepDataError_canon <;> intros))

theorem execSecuringTransfer_canon (s : State) (t : State) (h0 : Canon s) (h : execSecuringTransfer s = .next t) : Canon t := by
  unfold execSecuringTransfer at h; cases h; simp +contextual (maxDischargeDepth := 40) [*]

theorem execOpticalCommissioningComplete_canon (found : List Nat × List (List Nat)) (s : State) (t : State) (h0 : Canon s) (h : execOpticalCommissioningComplete found s = .next t) : Canon t := by
  exact canon_of_keeps (Keeps.mono (by decide) (execOpticalCommissioningComplete_keeps found s t h)) h0

theorem execRecommissionPort_canon (q : Req) (port : Nat) (s : State) (t : State) (h0 : Canon s) (h : execRecommissionPort q port s = .next t) : Canon t := by
  unfold execRecommissionPort at h; rw [settled_next h]; simp +contextual (maxDischargeDepth := 40) [*]

theorem execLaneFrame_canon (f : LaneFrame) (s : State) (t : State) (h0 : Canon s) (h : execLaneFrame f s = .next t) : Canon t := by
  unfold execLaneFrame at h; cases h; simp +contextual (maxDischargeDepth := 40) [*]

theorem execLaneFrameTimeout_canon (port : Nat) (colour : Nat) (linePresent : Bool) (s : State) (t : State) (h0 : Canon s) (h : execLaneFrameTimeout port colour linePresent s = .next t) : Canon t := by
  unfold execLaneFrameTimeout at h; dsimp only at h; repeat' (first | (cases h; simp +contextual (maxDischargeDepth := 40) [*]; done) | (rw [settled_next h]; repeat' (first | (simp +contextual (maxDischargeDepth := 40) [*]; done) | split); done) | split at h)

theorem execRingLockLoop_canon (tx : Bool) (port : Nat) (ring : Nat) (step : Int) (found : LoopResult) (s : State) (t : State) (h0 : Canon s) (h : execRingLockLoop tx port ring step found s = .next t) : Canon t := by
  unfold execRingLockLoop at h; cases h; repeat' (first | (simp +contextual (maxDischargeDepth := 40) [*]; done) | split)

theorem execSearchCandidateTimeout_canon (port : Nat) (colour : Nat) (s : State) (t : State) (h0 : Canon s) (h : execSearchCandidateTimeout port colour s = .next t) : Canon t := by
  unfold execSearchCandidateTimeout at h; cases h; simp +contextual (maxDischargeDepth := 40) [*]

theorem execRingSearchLineReached_canon (tx : Bool) (port : Nat) (colour : Nat) (line : Nat × Nat) (accepted : Bool) (crossings : Nat) (s : State) (t : State) (h0 : Canon s) (h : execRingSearchLineReached tx port colour line accepted crossings s = .next t) : Canon t := by
  unfold execRingSearchLineReached at h; cases h; simp +contextual (maxDischargeDepth := 40) [*]

theorem execAnchorSweepRetry_canon (port : Nat) (s : State) (t : State) (h0 : Canon s) (h : execAnchorSweepRetry port s = .next t) : Canon t := by
  exact canon_of_keeps (Keeps.mono (by decide) (execAnchorSweepRetry_keeps port s t h)) h0

theorem execTransmitGenerationWrite_canon (q : Req) (sub : Nat) (gen : Nat) (s : State) (t : State) (h0 : Canon s) (h : execTransmitGenerationWrite q sub gen s = .next t) : Canon t := by
  unfold execTransmitGenerationWrite at h; cases h; simp +contextual (maxDischargeDepth := 40) [*]

theorem execWavelengthCheck_canon (laser : Nat) (offsetMHz : Int) (s : State) (t : State) (h0 : Canon s) (h : execWavelengthCheck laser offsetMHz s = .next t) : Canon t := by
  exact canon_of_keeps (Keeps.mono (by decide) (execWavelengthCheck_keeps laser offsetMHz s t h)) h0

theorem execCalibrationSlot_canon (port : Nat) (ringsGood : Bool × Bool) (s : State) (t : State) (h0 : Canon s) (h : execCalibrationSlot port ringsGood s = .next t) : Canon t := by
  unfold execCalibrationSlot at h; cases h; repeat' (first | (simp +contextual (maxDischargeDepth := 40) [*]; done) | split)

theorem execCalibrationSlotEnd_canon (port : Nat) (back : Bool) (farOff : Bool) (s : State) (t : State) (h0 : Canon s) (h : execCalibrationSlotEnd port back farOff s = .next t) : Canon t := by
  unfold execCalibrationSlotEnd at h; cases h; repeat' (first | (simp +contextual (maxDischargeDepth := 40) [*]; done) | split)

theorem execLaserPowerReading_canon (spare : Bool) (laser : Nat) (reading : Nat) (s : State) (t : State) (h0 : Canon s) (h : execLaserPowerReading spare laser reading s = .next t) : Canon t := by
  unfold execLaserPowerReading at h; dsimp only at h; repeat' (first | (cases h; simp +contextual (maxDischargeDepth := 40) [*]; done) | (rw [settled_next h]; repeat' (first | (simp +contextual (maxDischargeDepth := 40) [*]; done) | split); done) | split at h)

theorem execSpareLaserLocked_canon (engine : Nat) (spare : Nat) (s : State) (t : State) (h0 : Canon s) (h : execSpareLaserLocked engine spare s = .next t) : Canon t := by
  unfold execSpareLaserLocked at h; cases h; simp +contextual (maxDischargeDepth := 40) [*]

theorem execStepStart_canon (s : State) (t : State) (h0 : Canon s) (h : execStepStart s = .next t) : Canon t := by
  unfold execStepStart at h; cases h; simp +contextual (maxDischargeDepth := 40) [*]

theorem execStepBoundary_canon (s : State) (t : State) (h0 : Canon s) (h : execStepBoundary s = .next t) : Canon t := by
  unfold execStepBoundary at h; cases h; simp +contextual (maxDischargeDepth := 40) [*]

theorem execStepStalled_canon (s : State) (t : State) (h0 : Canon s) (h : execStepStalled s = .next t) : Canon t := by
  unfold execStepStalled at h; cases h; simp +contextual (maxDischargeDepth := 40) [*]

theorem execLeave_canon (q : Req) (s : State) (t : State) (h0 : Canon s) (h : execLeave q s = .next t) : Canon t := by
  unfold execLeave at h; cases h; simp +contextual (maxDischargeDepth := 40) [*]

theorem execClearFault_canon (q : Req) (s : State) (t : State) (h0 : Canon s) (h : execClearFault q s = .next t) : Canon t := by
  unfold execClearFault at h; cases h; simp +contextual (maxDischargeDepth := 40) [*]

theorem execPrepare_canon (q : Req) (s : State) (t : State) (h0 : Canon s) (h : execPrepare q s = .next t) : Canon t := by
  unfold execPrepare at h; cases h; simp +contextual (maxDischargeDepth := 40) [*]

theorem execRun_canon (q : Req) (s : State) (t : State) (h0 : Canon s) (h : execRun q s = .next t) : Canon t := by
  unfold execRun at h; cases h; simp +contextual (maxDischargeDepth := 40) [*]

theorem execHold_canon (q : Req) (s : State) (t : State) (h0 : Canon s) (h : execHold q s = .next t) : Canon t := by
  unfold execHold at h; cases h; simp +contextual (maxDischargeDepth := 40) [*]

theorem execRelease_canon (q : Req) (s : State) (t : State) (h0 : Canon s) (h : execRelease q s = .next t) : Canon t := by
  unfold execRelease at h; cases h; simp +contextual (maxDischargeDepth := 40) [*]

theorem execUnprepare_canon (q : Req) (s : State) (t : State) (h0 : Canon s) (h : execUnprepare q s = .next t) : Canon t := by
  unfold execUnprepare at h; cases h; simp +contextual (maxDischargeDepth := 40) [*]

theorem execJoin_canon (src : Nat) (dst : Nat) (msg : Nat) (s : State) (t : State) (h0 : Canon s) (h : execJoin src dst msg s = .next t) : Canon t := by
  unfold execJoin at h; cases h; simp +contextual (maxDischargeDepth := 40) [*]

theorem execPrepareComplete_canon (sigGood : Bool) (s : State) (t : State) (h0 : Canon s) (h : execPrepareComplete sigGood s = .next t) : Canon t := by
  unfold execPrepareComplete at h; cases h; repeat' (first | (simp +contextual (maxDischargeDepth := 40) [*]; done) | split)

theorem execGrantSteps_canon (q : Req) (steps : Nat) (s : State) (t : State) (h0 : Canon s) (h : execGrantSteps q steps s = .next t) : Canon t := by
  unfold execGrantSteps at h; cases h; simp +contextual (maxDischargeDepth := 40) [*]

theorem execPostMicroBatch_canon (q : Req) (p : Post) (s : State) (t : State) (h0 : Canon s) (h : execPostMicroBatch q p s = .next t) : Canon t := by
  unfold execPostMicroBatch at h; cases h; simp +contextual (maxDischargeDepth := 40) [*]

theorem execFrameMark_canon (m0 : FrameMark) (crc : W32) (s : State) (t : State) (h0 : Canon s) (h : execFrameMark m0 crc s = .next t) : Canon t := by
  unfold execFrameMark at h; dsimp only at h; repeat' (first | (cases h; simp +contextual (maxDischargeDepth := 40) [*]; done) | (rw [settled_next h]; repeat' (first | (simp +contextual (maxDischargeDepth := 40) [*]; done) | split); done) | split at h)

theorem execDataSlot_canon (x : Slot) (s : State) (t : State) (h0 : Canon s) (h : execDataSlot x s = .next t) : Canon t := by
  unfold execDataSlot at h; cases h; simp +contextual (maxDischargeDepth := 40) [*]

theorem execMessageTimeout_canon (src : Nat) (sess : Nat) (msg : Nat) (s : State) (t : State) (h0 : Canon s) (h : execMessageTimeout src sess msg s = .next t) : Canon t := by
  unfold execMessageTimeout at h; cases h; repeat' (first | (simp +contextual (maxDischargeDepth := 40) [*]; done) | split)

theorem execEventTransmit_canon (s : State) (t : State) (h0 : Canon s) (h : execEventTransmit s = .next t) : Canon t := by
  unfold execEventTransmit at h; cases h; repeat' (first | (simp +contextual (maxDischargeDepth := 40) [*]; done) | split)

theorem execBulkOpen_canon (q : Req) (o : BulkOpen) (s : State) (t : State) (h0 : Canon s) (h : execBulkOpen q o s = .next t) : Canon t := by
  unfold execBulkOpen at h; cases h; simp +contextual (maxDischargeDepth := 40) [*]

theorem execBulkClose_canon (q : Req) (chan : Nat) (s : State) (t : State) (h0 : Canon s) (h : execBulkClose q chan s = .next t) : Canon t := by
  unfold execBulkClose at h; cases h; simp +contextual (maxDischargeDepth := 40) [*]

theorem execBulkBlockWritten_canon (chan : Nat) (num : Nat) (data : Bytes) (s : State) (t : State) (h0 : Canon s) (h : execBulkBlockWritten chan num data s = .next t) : Canon t := by
  unfold execBulkBlockWritten at h; cases h; simp +contextual (maxDischargeDepth := 40) [*]

theorem execBlockAcknowledgement_canon (a : BlockAck) (s : State) (t : State) (h0 : Canon s) (h : execBlockAcknowledgement a s = .next t) : Canon t := by
  unfold execBlockAcknowledgement at h; cases h; simp +contextual (maxDischargeDepth := 40) [*]

theorem execBlockAckTimeout_canon (a : BlockAck) (s : State) (t : State) (h0 : Canon s) (h : execBlockAckTimeout a s = .next t) : Canon t := by
  unfold execBlockAckTimeout at h; cases h; repeat' (first | (simp +contextual (maxDischargeDepth := 40) [*]; done) | split)

theorem execCoreTestDue_canon (half : Nat) (s : State) (t : State) (h0 : Canon s) (h : execCoreTestDue half s = .next t) : Canon t := by
  exact canon_of_keeps (Keeps.mono (by decide) (execCoreTestDue_keeps half s t h)) h0

theorem execCoreTestStart_canon (half : Nat) (s : State) (t : State) (h0 : Canon s) (h : execCoreTestStart half s = .next t) : Canon t := by
  exact canon_of_keeps (Keeps.mono (by decide) (execCoreTestStart_keeps half s t h)) h0

theorem execCoreTestOverdue_canon (half : Nat) (s : State) (t : State) (h0 : Canon s) (h : execCoreTestOverdue half s = .next t) : Canon t := by
  unfold execCoreTestOverdue at h; cases h; repeat' (first | (simp +contextual (maxDischargeDepth := 40) [*]; done) | split)

theorem execCoreTestComplete_canon (half : Nat) (passed : Bool) (s : State) (t : State) (h0 : Canon s) (h : execCoreTestComplete half passed s = .next t) : Canon t := by
  unfold execCoreTestComplete at h; cases h; repeat' (first | (simp +contextual (maxDischargeDepth := 40) [*]; done) | split)

theorem execSelfTestTileStores_canon (q : Req) (target : Nat) (reserved : Nat) (s : State) (t : State) (h0 : Canon s) (h : execSelfTestTileStores q target reserved s = .next t) : Canon t := by
  unfold execSelfTestTileStores at h; cases h; simp +contextual (maxDischargeDepth := 40) [*]

theorem execSelfTestSharedCache_canon (q : Req) (target : Nat) (reserved : Nat) (s : State) (t : State) (h0 : Canon s) (h : execSelfTestSharedCache q target reserved s = .next t) : Canon t := by
  unfold execSelfTestSharedCache at h; cases h; simp +contextual (maxDischargeDepth := 40) [*]

theorem execSelfTestMemorySideCache_canon (q : Req) (target : Nat) (reserved : Nat) (s : State) (t : State) (h0 : Canon s) (h : execSelfTestMemorySideCache q target reserved s = .next t) : Canon t := by
  unfold execSelfTestMemorySideCache at h; cases h; simp +contextual (maxDischargeDepth := 40) [*]

theorem execSelfTestHbmStack_canon (q : Req) (target : Nat) (reserved : Nat) (s : State) (t : State) (h0 : Canon s) (h : execSelfTestHbmStack q target reserved s = .next t) : Canon t := by
  unfold execSelfTestHbmStack at h; cases h; simp +contextual (maxDischargeDepth := 40) [*]

theorem execSelfTestComplete_canon (failing : List Nat) (s : State) (t : State) (h0 : Canon s) (h : execSelfTestComplete failing s = .next t) : Canon t := by
  unfold execSelfTestComplete at h; cases h; repeat' (first | (simp +contextual (maxDischargeDepth := 40) [*]; done) | split)

theorem execTestPortEnable_canon (q : Req) (value : Nat) (s : State) (t : State) (h0 : Canon s) (h : execTestPortEnable q value s = .next t) : Canon t := by
  unfold execTestPortEnable at h; cases h; simp +contextual (maxDischargeDepth := 40) [*]

theorem execTapReset_canon (s : State) (t : State) (h0 : Canon s) (h : execTapReset s = .next t) : Canon t := by
  exact canon_of_keeps (Keeps.mono (by decide) (execTapReset_keeps s t h)) h0

theorem execExtest_canon (s : State) (t : State) (h0 : Canon s) (h : execExtest s = .next t) : Canon t := by
  unfold execExtest at h; cases h; simp +contextual (maxDischargeDepth := 40) [*]

theorem execSamplePreload_canon (pins : BitVec 15) (s : State) (t : State) (h0 : Canon s) (h : execSamplePreload pins s = .next t) : Canon t := by
  unfold execSamplePreload at h; cases h; simp +contextual (maxDischargeDepth := 40) [*]

theorem execIdcode_canon (s : State) (t : State) (h0 : Canon s) (h : execIdcode s = .next t) : Canon t := by
  unfold execIdcode at h; cases h; simp +contextual (maxDischargeDepth := 40) [*]

theorem execClamp_canon (s : State) (t : State) (h0 : Canon s) (h : execClamp s = .next t) : Canon t := by
  unfold execClamp at h; cases h; simp +contextual (maxDischargeDepth := 40) [*]

theorem execHighz_canon (s : State) (t : State) (h0 : Canon s) (h : execHighz s = .next t) : Canon t := by
  unfold execHighz at h; cases h; simp +contextual (maxDischargeDepth := 40) [*]

theorem execDieSelect_canon (select : BitVec 40) (s : State) (t : State) (h0 : Canon s) (h : execDieSelect select s = .next t) : Canon t := by
  unfold execDieSelect at h; cases h; simp +contextual (maxDischargeDepth := 40) [*]

theorem execDieAccess_canon (s : State) (t : State) (h0 : Canon s) (h : execDieAccess s = .next t) : Canon t := by
  unfold execDieAccess at h; cases h; simp +contextual (maxDischargeDepth := 40) [*]

theorem execBypass_canon (code : BitVec 8) (s : State) (t : State) (h0 : Canon s) (h : execBypass code s = .next t) : Canon t := by
  unfold execBypass at h; cases h; simp +contextual (maxDischargeDepth := 40) [*]

theorem execEnrolmentWrite_canon (q : Req) (idx : Nat) (sub : Nat) (key : W256) (s : State) (t : State) (h0 : Canon s) (h : execEnrolmentWrite q idx sub key s = .next t) : Canon t := by
  unfold execEnrolmentWrite at h; cases h; simp +contextual (maxDischargeDepth := 40) [*]

theorem execHello_canon (msg : Nat) (role : Nat) (key : W256) (_reserved : Nat) (s : State) (t : State) (h0 : Canon s) (h : execHello msg role key _reserved s = .next t) : Canon t := by
  unfold execHello at h; cases h; repeat' (first | (simp +contextual (maxDischargeDepth := 40) [*]; done) | split)

theorem execFinish_canon (m0 : FinishMsg) (s : State) (t : State) (h0 : Canon s) (h : execFinish m0 s = .next t) : Canon t := by
  unfold execFinish at h; cases h; simp +contextual (maxDischargeDepth := 40) [*]

theorem execFinishTimeout_canon (sess : Nat) (s : State) (t : State) (h0 : Canon s) (h : execFinishTimeout sess s = .next t) : Canon t := by
  unfold execFinishTimeout at h; cases h; simp +contextual (maxDischargeDepth := 40) [*]

theorem execClose_canon (sess : Nat) (named : Nat) (s : State) (t : State) (h0 : Canon s) (h : execClose sess named s = .next t) : Canon t := by
  unfold execClose at h; cases h; simp +contextual (maxDischargeDepth := 40) [*]

theorem execFabricKeyInstall_canon (q : Req) (reserved : Nat) (key : W256) (s : State) (t : State) (h0 : Canon s) (h : execFabricKeyInstall q reserved key s = .next t) : Canon t := by
  unfold execFabricKeyInstall at h; cases h; simp +contextual (maxDischargeDepth := 40) [*]

theorem execRegionKeyInstall_canon (q : Req) (region : Nat) (reserved : Nat) (base : Nat) (length : Nat) (key : BitVec 512) (s : State) (t : State) (h0 : Canon s) (h : execRegionKeyInstall q region reserved base length key s = .next t) : Canon t := by
  unfold execRegionKeyInstall at h; cases h; simp +contextual (maxDischargeDepth := 40) [*]

theorem execRegionRemove_canon (q : Req) (region : Nat) (reserved : Nat) (s : State) (t : State) (h0 : Canon s) (h : execRegionRemove q region reserved s = .next t) : Canon t := by
  unfold execRegionRemove at h; cases h; simp +contextual (maxDischargeDepth := 40) [*]

theorem execTenantStateErased_canon (s : State) (t : State) (h0 : Canon s) (h : execTenantStateErased s = .next t) : Canon t := by
  exact canon_of_keeps (Keeps.mono (by decide) (execTenantStateErased_keeps s t h)) h0

theorem execPowerStateRequest_canon (q : Req) (value : Nat) (s : State) (t : State) (h0 : Canon s) (h : execPowerStateRequest q value s = .next t) : Canon t := by
  unfold execPowerStateRequest at h; rw [settled_next h]; simp +contextual (maxDischargeDepth := 40) [*]

theorem execPowerStateReached_canon (s : State) (t : State) (h0 : Canon s) (h : execPowerStateReached s = .next t) : Canon t := by
  unfold execPowerStateReached at h; cases h; simp +contextual (maxDischargeDepth := 40) [*]

theorem execBlockEnableWrite_canon (q : Req) (sub : Nat) (value : Nat) (s : State) (t : State) (h0 : Canon s) (h : execBlockEnableWrite q sub value s = .next t) : Canon t := by
  unfold execBlockEnableWrite at h; cases h; simp +contextual (maxDischargeDepth := 40) [*]

theorem execPllSettingWrite_canon (q : Req) (sub : Nat) (value : W32) (s : State) (t : State) (h0 : Canon s) (h : execPllSettingWrite q sub value s = .next t) : Canon t := by
  unfold execPllSettingWrite at h; cases h; simp +contextual (maxDischargeDepth := 40) [*]

theorem execSupplyOrTemperatureFault_canon (m0 : Limits) (s : State) (t : State) (h0 : Canon s) (h : execSupplyOrTemperatureFault m0 s = .next t) : Canon t := by
  unfold execSupplyOrTemperatureFault at h; cases h; simp +contextual (maxDischargeDepth := 40) [*]

theorem execThermTrip_canon (die : Nat) (stack : Nat) (s : State) (t : State) (h0 : Canon s) (h : execThermTrip die stack s = .next t) : Canon t := by
  exact canon_of_keeps (Keeps.mono (by decide) (execThermTrip_keeps die stack s t h)) h0

theorem execPmbusPoll_canon (st : PmStatus) (s : State) (t : State) (h0 : Canon s) (h : execPmbusPoll st s = .next t) : Canon t := by
  unfold execPmbusPoll at h; cases h; simp +contextual (maxDischargeDepth := 40) [*]

theorem execPmbusAlert_canon (st : PmStatus) (s : State) (t : State) (h0 : Canon s) (h : execPmbusAlert st s = .next t) : Canon t := by
  unfold execPmbusAlert at h; cases h; simp +contextual (maxDischargeDepth := 40) [*]

theorem execIslandMismatch_canon (s : State) (t : State) (h0 : Canon s) (h : execIslandMismatch s = .next t) : Canon t := by
  unfold execIslandMismatch at h; cases h; simp +contextual (maxDischargeDepth := 40) [*]

theorem execTimeReferenceWrite_canon (q : Req) (value : Nat) (s : State) (t : State) (h0 : Canon s) (h : execTimeReferenceWrite q value s = .next t) : Canon t := by
  unfold execTimeReferenceWrite at h; cases h; simp +contextual (maxDischargeDepth := 40) [*]

theorem execTimeReferenceLost_canon (s : State) (t : State) (h0 : Canon s) (h : execTimeReferenceLost s = .next t) : Canon t := by
  unfold execTimeReferenceLost at h; cases h; simp +contextual (maxDischargeDepth := 40) [*]

theorem execTimeReferenceReturn_canon (s : State) (t : State) (h0 : Canon s) (h : execTimeReferenceReturn s = .next t) : Canon t := by
  unfold execTimeReferenceReturn at h; cases h; simp +contextual (maxDischargeDepth := 40) [*]

theorem execPpsEdge_canon (s : State) (t : State) (h0 : Canon s) (h : execPpsEdge s = .next t) : Canon t := by
  unfold execPpsEdge at h; cases h; simp +contextual (maxDischargeDepth := 40) [*]

theorem execRingClockLoss_canon (s : State) (t : State) (h0 : Canon s) (h : execRingClockLoss s = .next t) : Canon t := by
  exact canon_of_keeps (Keeps.mono (by decide) (execRingClockLoss_keeps s t h)) h0

theorem execRingClockReturn_canon (linksDown : List Nat) (s : State) (t : State) (h0 : Canon s) (h : execRingClockReturn linksDown s = .next t) : Canon t := by
  unfold execRingClockReturn at h; cases h; simp +contextual (maxDischargeDepth := 40) [*]

theorem execModuleReset_canon (p : ResetPins) (s : State) (t : State) (h0 : Canon s) (h : execModuleReset p s = .next t) : Canon t := by
  unfold execModuleReset at h; cases h; simp +contextual (maxDischargeDepth := 40) [*]

theorem execResetRelease_canon (straps : Straps) (s : State) (t : State) (h0 : Canon s) (h : execResetRelease straps s = .next t) : Canon t := by
  exact canon_of_keeps (Keeps.mono (by decide) (execResetRelease_keeps straps s t h)) h0

theorem execSymbolLock_canon (locked : Bool) (s : State) (t : State) (h0 : Canon s) (h : execSymbolLock locked s = .next t) : Canon t := by
  exact canon_of_keeps (Keeps.mono (by decide) (execSymbolLock_keeps locked s t h)) h0

theorem execSettleDelayElapsed_canon (s : State) (t : State) (h0 : Canon s) (h : execSettleDelayElapsed s = .next t) : Canon t := by
  exact canon_of_keeps (Keeps.mono (by decide) (execSettleDelayElapsed_keeps s t h)) h0

theorem execIslandSelfTest_canon (b0 : Bool) (b2 : Bool) (s : State) (t : State) (h0 : Canon s) (h : execIslandSelfTest b0 b2 s = .next t) : Canon t := by
  exact canon_of_keeps (Keeps.mono (by decide) (execIslandSelfTest_keeps b0 b2 s t h)) h0

theorem execFirmwareVerified_canon (img : FwImage) (sigGood : Bool) (s : State) (t : State) (h0 : Canon s) (h : execFirmwareVerified img sigGood s = .next t) : Canon t := by
  unfold execFirmwareVerified at h; cases h; simp +contextual (maxDischargeDepth := 40) [*]

theorem execFirmwareWriteComplete_canon (img : FwImage) (sigGood : Bool) (s : State) (t : State) (h0 : Canon s) (h : execFirmwareWriteComplete img sigGood s = .next t) : Canon t := by
  unfold execFirmwareWriteComplete at h; cases h; repeat' (first | (simp +contextual (maxDischargeDepth := 40) [*]; done) | split)

theorem execFabricConfigurationWrite_canon (q : Req) (idx : Nat) (sub : Nat) (value : W32) (s : State) (t : State) (h0 : Canon s) (h : execFabricConfigurationWrite q idx sub value s = .next t) : Canon t := by
  unfold execFabricConfigurationWrite at h; dsimp only at h; repeat' (first | (cases h; simp +contextual (maxDischargeDepth := 40) [*]; done) | (rw [settled_next h]; repeat' (first | (simp +contextual (maxDischargeDepth := 40) [*]; done) | split); done) | split at h)

theorem execExceptionEntryWrite_canon (q : Req) (num : Nat) (entry : W64) (s : State) (t : State) (h0 : Canon s) (h : execExceptionEntryWrite q num entry s = .next t) : Canon t := by
  unfold execExceptionEntryWrite at h; cases h; simp +contextual (maxDischargeDepth := 40) [*]

theorem execRankOverrideWrite_canon (q : Req) (num : Nat) (entry : W64) (s : State) (t : State) (h0 : Canon s) (h : execRankOverrideWrite q num entry s = .next t) : Canon t := by
  unfold execRankOverrideWrite at h; cases h; simp +contextual (maxDischargeDepth := 40) [*]

theorem execGroupMemberEntryWrite_canon (q : Req) (num : Nat) (entry : W64) (s : State) (t : State) (h0 : Canon s) (h : execGroupMemberEntryWrite q num entry s = .next t) : Canon t := by
  unfold execGroupMemberEntryWrite at h; cases h; simp +contextual (maxDischargeDepth := 40) [*]

theorem execGroupDescriptorWrite_canon (q : Req) (num : Nat) (entry : W64) (s : State) (t : State) (h0 : Canon s) (h : execGroupDescriptorWrite q num entry s = .next t) : Canon t := by
  unfold execGroupDescriptorWrite at h; cases h; simp +contextual (maxDischargeDepth := 40) [*]

theorem execRemoteReadRequest_canon (m0 : RemoteMsg) (s : State) (t : State) (h0 : Canon s) (h : execRemoteReadRequest m0 s = .next t) : Canon t := by
  unfold execRemoteReadRequest at h; cases h; simp +contextual (maxDischargeDepth := 40) [*]

theorem execRemoteWrite_canon (m0 : RemoteMsg) (s : State) (t : State) (h0 : Canon s) (h : execRemoteWrite m0 s = .next t) : Canon t := by
  unfold execRemoteWrite at h; cases h; simp +contextual (maxDischargeDepth := 40) [*]

theorem execRestore_canon (q : Req) (step : Nat) (s : State) (t : State) (h0 : Canon s) (h : execRestore q step s = .next t) : Canon t := by
  unfold execRestore at h; cases h; simp +contextual (maxDischargeDepth := 40) [*]

theorem execRestoreComplete_canon (s : State) (t : State) (h0 : Canon s) (h : execRestoreComplete s = .next t) : Canon t := by
  unfold execRestoreComplete at h; cases h; repeat' (first | (simp +contextual (maxDischargeDepth := 40) [*]; done) | split)

theorem execRemoteReadResponse_canon (m0 : RemoteMsg) (s : State) (t : State) (h0 : Canon s) (h : execRemoteReadResponse m0 s = .next t) : Canon t := by
  unfold execRemoteReadResponse at h; cases h; simp +contextual (maxDischargeDepth := 40) [*]

theorem execAbandon_canon (q : Req) (s : State) (t : State) (h0 : Canon s) (h : execAbandon q s = .next t) : Canon t := by
  unfold execAbandon at h; cases h; simp +contextual (maxDischargeDepth := 40) [*]

theorem execAbandonComplete_canon (s : State) (t : State) (h0 : Canon s) (h : execAbandonComplete s = .next t) : Canon t := by
  unfold execAbandonComplete at h; cases h; repeat' (first | (simp +contextual (maxDischargeDepth := 40) [*]; done) | split)

theorem execHoldCommitArm_canon (q : Req) (step : Nat) (s : State) (t : State) (h0 : Canon s) (h : execHoldCommitArm q step s = .next t) : Canon t := by
  unfold execHoldCommitArm at h; cases h; simp +contextual (maxDischargeDepth := 40) [*]

theorem execScaleStateLoad_canon (q : Req) (value : W64) (s : State) (t : State) (h0 : Canon s) (h : execScaleStateLoad q value s = .next t) : Canon t := by
  unfold execScaleStateLoad at h; cases h; simp +contextual (maxDischargeDepth := 40) [*]

theorem execKz8StartScaleWrite_canon (q : Req) (value : W32) (s : State) (t : State) (h0 : Canon s) (h : execKz8StartScaleWrite q value s = .next t) : Canon t := by
  unfold execKz8StartScaleWrite at h; cases h; simp +contextual (maxDischargeDepth := 40) [*]

theorem execExpeditedWrite_canon (q : Req) (idx : Nat) (sub : Nat) (value : Bytes) (s : State) (t : State) (h0 : Canon s) (h : execExpeditedWrite q idx sub value s = .next t) : Canon t := by
  unfold execExpeditedWrite at h; rw [settled_next h]; simp +contextual (maxDischargeDepth := 40) [*]

theorem execSegmentedWrite_canon (q : Req) (idx : Nat) (sub : Nat) (value : Bytes) (s : State) (t : State) (h0 : Canon s) (h : execSegmentedWrite q idx sub value s = .next t) : Canon t := by
  unfold execSegmentedWrite at h; rw [settled_next h]; simp +contextual (maxDischargeDepth := 40) [*]

theorem execDictionaryWrite_canon (q : Req) (idx : Nat) (sub : Nat) (value : Bytes) (s : State) (t : State) (h0 : Canon s) (h : execDictionaryWrite q idx sub value s = .next t) : Canon t := by
  unfold execDictionaryWrite at h; rw [settled_next h]; simp +contextual (maxDischargeDepth := 40) [*]

theorem execExpeditedRead_canon (q : Req) (idx : Nat) (sub : Nat) (len : Nat) (s : State) (t : State) (h0 : Canon s) (h : execExpeditedRead q idx sub len s = .next t) : Canon t := by
  unfold execExpeditedRead at h; cases h; simp +contextual (maxDischargeDepth := 40) [*]

theorem execSegmentedRead_canon (q : Req) (idx : Nat) (sub : Nat) (len : Nat) (s : State) (t : State) (h0 : Canon s) (h : execSegmentedRead q idx sub len s = .next t) : Canon t := by
  unfold execSegmentedRead at h; cases h; simp +contextual (maxDischargeDepth := 40) [*]

theorem execAttestationQuote_canon (q : Req) (s : State) (t : State) (h0 : Canon s) (h : execAttestationQuote q s = .next t) : Canon t := by
  unfold execAttestationQuote at h; cases h; simp +contextual (maxDischargeDepth := 40) [*]

theorem execBlockRead_canon (q : Req) (idx : Nat) (sub : Nat) (len : Nat) (s : State) (t : State) (h0 : Canon s) (h : execBlockRead q idx sub len s = .next t) : Canon t := by
  unfold execBlockRead at h; cases h; simp +contextual (maxDischargeDepth := 40) [*]

theorem execBlockWrite_canon (q : Req) (idx : Nat) (sub : Nat) (len : Nat) (s : State) (t : State) (h0 : Canon s) (h : execBlockWrite q idx sub len s = .next t) : Canon t := by
  unfold execBlockWrite at h; cases h; simp +contextual (maxDischargeDepth := 40) [*]

theorem execFirmwareImageWrite_canon (q : Req) (length : Nat) (s : State) (t : State) (h0 : Canon s) (h : execFirmwareImageWrite q length s = .next t) : Canon t := by
  unfold execFirmwareImageWrite at h; cases h; simp +contextual (maxDischargeDepth := 40) [*]

theorem execBlockData_canon (b : Block) (s : State) (t : State) (h0 : Canon s) (h : execBlockData b s = .next t) : Canon t := by
  unfold execBlockData at h; dsimp only at h; repeat' (first | (cases h; simp +contextual (maxDischargeDepth := 40) [*]; done) | (rw [settled_next h]; repeat' (first | (simp +contextual (maxDischargeDepth := 40) [*]; done) | split); done) | split at h)

theorem execLeaseGrant_canon (m0 : LeaseMsg) (s : State) (t : State) (h0 : Canon s) (h : execLeaseGrant m0 s = .next t) : Canon t := by
  unfold execLeaseGrant at h; cases h; simp +contextual (maxDischargeDepth := 40) [*]

theorem execLeaseRenewal_canon (m0 : LeaseMsg) (s : State) (t : State) (h0 : Canon s) (h : execLeaseRenewal m0 s = .next t) : Canon t := by
  unfold execLeaseRenewal at h; cases h; simp +contextual (maxDischargeDepth := 40) [*]

theorem execRenewalAcknowledgement_canon (m0 : LeaseMsg) (s : State) (t : State) (h0 : Canon s) (h : execRenewalAcknowledgement m0 s = .next t) : Canon t := by
  unfold execRenewalAcknowledgement at h; cases h; simp +contextual (maxDischargeDepth := 40) [*]

theorem execGranuleReturn_canon (m0 : LeaseMsg) (s : State) (t : State) (h0 : Canon s) (h : execGranuleReturn m0 s = .next t) : Canon t := by
  unfold execGranuleReturn at h; cases h; simp +contextual (maxDischargeDepth := 40) [*]

theorem execLeaseRenewalDue_canon (peer : Nat) (ctx : Nat) (lease : Nat) (s : State) (t : State) (h0 : Canon s) (h : execLeaseRenewalDue peer ctx lease s = .next t) : Canon t := by
  unfold execLeaseRenewalDue at h; cases h; repeat' (first | (simp +contextual (maxDischargeDepth := 40) [*]; done) | split)

theorem execIssuerLeaseExpiry_canon (ctx : Nat) (lease : Nat) (s : State) (t : State) (h0 : Canon s) (h : execIssuerLeaseExpiry ctx lease s = .next t) : Canon t := by
  unfold execIssuerLeaseExpiry at h; cases h; repeat' (first | (simp +contextual (maxDischargeDepth := 40) [*]; done) | split)

theorem execHolderLeaseExpiry_canon (peer : Nat) (ctx : Nat) (lease : Nat) (s : State) (t : State) (h0 : Canon s) (h : execHolderLeaseExpiry peer ctx lease s = .next t) : Canon t := by
  unfold execHolderLeaseExpiry at h; cases h; repeat' (first | (simp +contextual (maxDischargeDepth := 40) [*]; done) | split)

theorem execTokenIncrementParcel_canon (m0 : TokenMsg) (s : State) (t : State) (h0 : Canon s) (h : execTokenIncrementParcel m0 s = .next t) : Canon t := by
  unfold execTokenIncrementParcel at h; cases h; simp +contextual (maxDischargeDepth := 40) [*]

theorem execParcelForward_canon (cls : Nat) (s : State) (t : State) (h0 : Canon s) (h : execParcelForward cls s = .next t) : Canon t := by
  unfold execParcelForward at h; cases h; simp +contextual (maxDischargeDepth := 40) [*]

theorem execDataFlit_canon (f : Flit) (s : State) (t : State) (h0 : Canon s) (h : execDataFlit f s = .next t) : Canon t := by
  unfold execDataFlit at h; cases h; simp +contextual (maxDischargeDepth := 40) [*]

theorem execIdleFlit_canon (f : Flit) (s : State) (t : State) (h0 : Canon s) (h : execIdleFlit f s = .next t) : Canon t := by
  unfold execIdleFlit at h; cases h; simp +contextual (maxDischargeDepth := 40) [*]

theorem execNakFlit_canon (f : Flit) (s : State) (t : State) (h0 : Canon s) (h : execNakFlit f s = .next t) : Canon t := by
  unfold execNakFlit receiveFlit at h
  cases h
  have h1 := fresh_canon s h0
  split
  · exact h1
  · split
    · exact nakLane_canon _ _ _ h1
    · split
      · exact h1
      · split
        · exact badAddress_canon _ _ _ _ h1
        · have h2 := takeFlitWord_canon (flitHead f.bytes) (areaOf f) _ (takeFlitCredit_canon f.port f.colour (flitHead f.bytes) _ h1)
          dsimp only
          split
          · split
            · exact resendFlits_canon _ _ _ h2
            · exact h2
          · exact nakLane_canon _ _ _ h1

theorem execTestFlit_canon (f : Flit) (s : State) (t : State) (h0 : Canon s) (h : execTestFlit f s = .next t) : Canon t := by
  unfold execTestFlit at h; cases h; simp +contextual (maxDischargeDepth := 40) [*]

theorem execFlitReplayTimeout_canon (port : Nat) (colour : Nat) (s : State) (t : State) (h0 : Canon s) (h : execFlitReplayTimeout port colour s = .next t) : Canon t := by
  unfold execFlitReplayTimeout at h; cases h; simp +contextual (maxDischargeDepth := 40) [*]

theorem execParcelDelivery_canon (s : State) (t : State) (h0 : Canon s) (h : execParcelDelivery s = .next t) : Canon t := by
  unfold execParcelDelivery at h; cases h; repeat' (first | (simp +contextual (maxDischargeDepth := 40) [*]; done) | split)

end Sys2Proof.Machine
end

