-- ==== Sys2Proof/Laws/State.lean ====
section
/-! SUPPORT. What the primitive updates of the state do to each field: one lemma per field and update, true by
unfolding, and what reading back a register, a session, a stack or another numbered unit gives. -/

namespace Sys2Proof.Machine

/-! ### withHalf -/

@[simp] theorem withHalf_pending (half : Nat) (t : HalfTest) (s : State) :
    (withHalf half t s).pending = s.pending := rfl
@[simp] theorem withHalf_sent (half : Nat) (t : HalfTest) (s : State) :
    (withHalf half t s).sent = s.sent := rfl
@[simp] theorem withHalf_freeCtr (half : Nat) (t : HalfTest) (s : State) :
    (withHalf half t s).freeCtr = s.freeCtr := rfl
@[simp] theorem withHalf_dev (half : Nat) (t : HalfTest) (s : State) :
    (withHalf half t s).dev = s.dev := rfl
@[simp] theorem withHalf_regs (half : Nat) (t : HalfTest) (s : State) :
    (withHalf half t s).regs = s.regs := rfl
@[simp] theorem withHalf_straps (half : Nat) (t : HalfTest) (s : State) :
    (withHalf half t s).straps = s.straps := rfl
@[simp] theorem withHalf_ex (half : Nat) (t : HalfTest) (s : State) :
    (withHalf half t s).ex = s.ex := rfl
@[simp] theorem withHalf_sites (half : Nat) (t : HalfTest) (s : State) :
    (withHalf half t s).sites = s.sites := rfl
@[simp] theorem withHalf_siteMap (half : Nat) (t : HalfTest) (s : State) :
    (withHalf half t s).siteMap = s.siteMap := rfl
@[simp] theorem withHalf_mem (half : Nat) (t : HalfTest) (s : State) :
    (withHalf half t s).mem = s.mem := rfl
@[simp] theorem withHalf_links (half : Nat) (t : HalfTest) (s : State) :
    (withHalf half t s).links = s.links := rfl
@[simp] theorem withHalf_dieErrors (half : Nat) (t : HalfTest) (s : State) :
    (withHalf half t s).dieErrors = s.dieErrors := rfl
@[simp] theorem withHalf_pho (half : Nat) (t : HalfTest) (s : State) :
    (withHalf half t s).pho = s.pho := rfl
@[simp] theorem withHalf_fab (half : Nat) (t : HalfTest) (s : State) :
    (withHalf half t s).fab = s.fab := rfl
@[simp] theorem withHalf_col (half : Nat) (t : HalfTest) (s : State) :
    (withHalf half t s).col = s.col := rfl
@[simp] theorem withHalf_res (half : Nat) (t : HalfTest) (s : State) :
    (withHalf half t s).res = s.res := rfl
@[simp] theorem withHalf_ring (half : Nat) (t : HalfTest) (s : State) :
    (withHalf half t s).ring = s.ring := rfl
@[simp] theorem withHalf_sec (half : Nat) (t : HalfTest) (s : State) :
    (withHalf half t s).sec = s.sec := rfl
@[simp] theorem withHalf_pwr (half : Nat) (t : HalfTest) (s : State) :
    (withHalf half t s).pwr = s.pwr := rfl

/-! ### withSite -/

@[simp] theorem withSite_pending (key : Nat) (x : Site) (s : State) :
    (withSite key x s).pending = s.pending := rfl
@[simp] theorem withSite_sent (key : Nat) (x : Site) (s : State) :
    (withSite key x s).sent = s.sent := rfl
@[simp] theorem withSite_freeCtr (key : Nat) (x : Site) (s : State) :
    (withSite key x s).freeCtr = s.freeCtr := rfl
@[simp] theorem withSite_dev (key : Nat) (x : Site) (s : State) :
    (withSite key x s).dev = s.dev := rfl
@[simp] theorem withSite_regs (key : Nat) (x : Site) (s : State) :
    (withSite key x s).regs = s.regs := rfl
@[simp] theorem withSite_straps (key : Nat) (x : Site) (s : State) :
    (withSite key x s).straps = s.straps := rfl
@[simp] theorem withSite_ex (key : Nat) (x : Site) (s : State) :
    (withSite key x s).ex = s.ex := rfl
@[simp] theorem withSite_siteMap (key : Nat) (x : Site) (s : State) :
    (withSite key x s).siteMap = s.siteMap := rfl
@[simp] theorem withSite_mem (key : Nat) (x : Site) (s : State) :
    (withSite key x s).mem = s.mem := rfl
@[simp] theorem withSite_links (key : Nat) (x : Site) (s : State) :
    (withSite key x s).links = s.links := rfl
@[simp] theorem withSite_dieErrors (key : Nat) (x : Site) (s : State) :
    (withSite key x s).dieErrors = s.dieErrors := rfl
@[simp] theorem withSite_pho (key : Nat) (x : Site) (s : State) :
    (withSite key x s).pho = s.pho := rfl
@[simp] theorem withSite_fab (key : Nat) (x : Site) (s : State) :
    (withSite key x s).fab = s.fab := rfl
@[simp] theorem withSite_col (key : Nat) (x : Site) (s : State) :
    (withSite key x s).col = s.col := rfl
@[simp] theorem withSite_res (key : Nat) (x : Site) (s : State) :
    (withSite key x s).res = s.res := rfl
@[simp] theorem withSite_ring (key : Nat) (x : Site) (s : State) :
    (withSite key x s).ring = s.ring := rfl
@[simp] theorem withSite_sec (key : Nat) (x : Site) (s : State) :
    (withSite key x s).sec = s.sec := rfl
@[simp] theorem withSite_pwr (key : Nat) (x : Site) (s : State) :
    (withSite key x s).pwr = s.pwr := rfl
@[simp] theorem withSite_test (key : Nat) (x : Site) (s : State) :
    (withSite key x s).test = s.test := rfl

/-! ### fresh -/

@[simp] theorem fresh_pending (s : State) :
    (fresh s).pending = s.pending := rfl
@[simp] theorem fresh_freeCtr (s : State) :
    (fresh s).freeCtr = s.freeCtr := rfl
@[simp] theorem fresh_dev (s : State) :
    (fresh s).dev = s.dev := rfl
@[simp] theorem fresh_regs (s : State) :
    (fresh s).regs = s.regs := rfl
@[simp] theorem fresh_straps (s : State) :
    (fresh s).straps = s.straps := rfl
@[simp] theorem fresh_ex (s : State) :
    (fresh s).ex = s.ex := rfl
@[simp] theorem fresh_sites (s : State) :
    (fresh s).sites = s.sites := rfl
@[simp] theorem fresh_siteMap (s : State) :
    (fresh s).siteMap = s.siteMap := rfl
@[simp] theorem fresh_mem (s : State) :
    (fresh s).mem = s.mem := rfl
@[simp] theorem fresh_links (s : State) :
    (fresh s).links = s.links := rfl
@[simp] theorem fresh_dieErrors (s : State) :
    (fresh s).dieErrors = s.dieErrors := rfl
@[simp] theorem fresh_pho (s : State) :
    (fresh s).pho = s.pho := rfl
@[simp] theorem fresh_fab (s : State) :
    (fresh s).fab = s.fab := rfl
@[simp] theorem fresh_col (s : State) :
    (fresh s).col = s.col := rfl
@[simp] theorem fresh_res (s : State) :
    (fresh s).res = s.res := rfl
@[simp] theorem fresh_ring (s : State) :
    (fresh s).ring = s.ring := rfl
@[simp] theorem fresh_sec (s : State) :
    (fresh s).sec = s.sec := rfl
@[simp] theorem fresh_pwr (s : State) :
    (fresh s).pwr = s.pwr := rfl
@[simp] theorem fresh_test (s : State) :
    (fresh s).test = s.test := rfl

/-! ### emit -/

@[simp] theorem emit_pending (o : Output) (s : State) :
    (emit o s).pending = s.pending := rfl
@[simp] theorem emit_freeCtr (o : Output) (s : State) :
    (emit o s).freeCtr = s.freeCtr := rfl
@[simp] theorem emit_dev (o : Output) (s : State) :
    (emit o s).dev = s.dev := rfl
@[simp] theorem emit_regs (o : Output) (s : State) :
    (emit o s).regs = s.regs := rfl
@[simp] theorem emit_straps (o : Output) (s : State) :
    (emit o s).straps = s.straps := rfl
@[simp] theorem emit_ex (o : Output) (s : State) :
    (emit o s).ex = s.ex := rfl
@[simp] theorem emit_sites (o : Output) (s : State) :
    (emit o s).sites = s.sites := rfl
@[simp] theorem emit_siteMap (o : Output) (s : State) :
    (emit o s).siteMap = s.siteMap := rfl
@[simp] theorem emit_mem (o : Output) (s : State) :
    (emit o s).mem = s.mem := rfl
@[simp] theorem emit_links (o : Output) (s : State) :
    (emit o s).links = s.links := rfl
@[simp] theorem emit_dieErrors (o : Output) (s : State) :
    (emit o s).dieErrors = s.dieErrors := rfl
@[simp] theorem emit_pho (o : Output) (s : State) :
    (emit o s).pho = s.pho := rfl
@[simp] theorem emit_fab (o : Output) (s : State) :
    (emit o s).fab = s.fab := rfl
@[simp] theorem emit_col (o : Output) (s : State) :
    (emit o s).col = s.col := rfl
@[simp] theorem emit_res (o : Output) (s : State) :
    (emit o s).res = s.res := rfl
@[simp] theorem emit_ring (o : Output) (s : State) :
    (emit o s).ring = s.ring := rfl
@[simp] theorem emit_sec (o : Output) (s : State) :
    (emit o s).sec = s.sec := rfl
@[simp] theorem emit_pwr (o : Output) (s : State) :
    (emit o s).pwr = s.pwr := rfl
@[simp] theorem emit_test (o : Output) (s : State) :
    (emit o s).test = s.test := rfl

/-! ### drawn -/

@[simp] theorem drawn_pending (s : State) :
    (drawn s).pending = s.pending := rfl
@[simp] theorem drawn_sent (s : State) :
    (drawn s).sent = s.sent := rfl
@[simp] theorem drawn_dev (s : State) :
    (drawn s).dev = s.dev := rfl
@[simp] theorem drawn_regs (s : State) :
    (drawn s).regs = s.regs := rfl
@[simp] theorem drawn_straps (s : State) :
    (drawn s).straps = s.straps := rfl
@[simp] theorem drawn_ex (s : State) :
    (drawn s).ex = s.ex := rfl
@[simp] theorem drawn_sites (s : State) :
    (drawn s).sites = s.sites := rfl
@[simp] theorem drawn_siteMap (s : State) :
    (drawn s).siteMap = s.siteMap := rfl
@[simp] theorem drawn_mem (s : State) :
    (drawn s).mem = s.mem := rfl
@[simp] theorem drawn_links (s : State) :
    (drawn s).links = s.links := rfl
@[simp] theorem drawn_dieErrors (s : State) :
    (drawn s).dieErrors = s.dieErrors := rfl
@[simp] theorem drawn_pho (s : State) :
    (drawn s).pho = s.pho := rfl
@[simp] theorem drawn_fab (s : State) :
    (drawn s).fab = s.fab := rfl
@[simp] theorem drawn_col (s : State) :
    (drawn s).col = s.col := rfl
@[simp] theorem drawn_res (s : State) :
    (drawn s).res = s.res := rfl
@[simp] theorem drawn_ring (s : State) :
    (drawn s).ring = s.ring := rfl
@[simp] theorem drawn_sec (s : State) :
    (drawn s).sec = s.sec := rfl
@[simp] theorem drawn_pwr (s : State) :
    (drawn s).pwr = s.pwr := rfl
@[simp] theorem drawn_test (s : State) :
    (drawn s).test = s.test := rfl

/-! ### withRg -/

@[simp] theorem withRg_pending (idx : Nat) (sub : Nat) (v : Nat) (s : State) :
    (withRg idx sub v s).pending = s.pending := rfl
@[simp] theorem withRg_sent (idx : Nat) (sub : Nat) (v : Nat) (s : State) :
    (withRg idx sub v s).sent = s.sent := rfl
@[simp] theorem withRg_freeCtr (idx : Nat) (sub : Nat) (v : Nat) (s : State) :
    (withRg idx sub v s).freeCtr = s.freeCtr := rfl
@[simp] theorem withRg_dev (idx : Nat) (sub : Nat) (v : Nat) (s : State) :
    (withRg idx sub v s).dev = s.dev := rfl
@[simp] theorem withRg_straps (idx : Nat) (sub : Nat) (v : Nat) (s : State) :
    (withRg idx sub v s).straps = s.straps := rfl
@[simp] theorem withRg_ex (idx : Nat) (sub : Nat) (v : Nat) (s : State) :
    (withRg idx sub v s).ex = s.ex := rfl
@[simp] theorem withRg_sites (idx : Nat) (sub : Nat) (v : Nat) (s : State) :
    (withRg idx sub v s).sites = s.sites := rfl
@[simp] theorem withRg_siteMap (idx : Nat) (sub : Nat) (v : Nat) (s : State) :
    (withRg idx sub v s).siteMap = s.siteMap := rfl
@[simp] theorem withRg_mem (idx : Nat) (sub : Nat) (v : Nat) (s : State) :
    (withRg idx sub v s).mem = s.mem := rfl
@[simp] theorem withRg_links (idx : Nat) (sub : Nat) (v : Nat) (s : State) :
    (withRg idx sub v s).links = s.links := rfl
@[simp] theorem withRg_dieErrors (idx : Nat) (sub : Nat) (v : Nat) (s : State) :
    (withRg idx sub v s).dieErrors = s.dieErrors := rfl
@[simp] theorem withRg_pho (idx : Nat) (sub : Nat) (v : Nat) (s : State) :
    (withRg idx sub v s).pho = s.pho := rfl
@[simp] theorem withRg_fab (idx : Nat) (sub : Nat) (v : Nat) (s : State) :
    (withRg idx sub v s).fab = s.fab := rfl
@[simp] theorem withRg_col (idx : Nat) (sub : Nat) (v : Nat) (s : State) :
    (withRg idx sub v s).col = s.col := rfl
@[simp] theorem withRg_res (idx : Nat) (sub : Nat) (v : Nat) (s : State) :
    (withRg idx sub v s).res = s.res := rfl
@[simp] theorem withRg_ring (idx : Nat) (sub : Nat) (v : Nat) (s : State) :
    (withRg idx sub v s).ring = s.ring := rfl
@[simp] theorem withRg_sec (idx : Nat) (sub : Nat) (v : Nat) (s : State) :
    (withRg idx sub v s).sec = s.sec := rfl
@[simp] theorem withRg_pwr (idx : Nat) (sub : Nat) (v : Nat) (s : State) :
    (withRg idx sub v s).pwr = s.pwr := rfl
@[simp] theorem withRg_test (idx : Nat) (sub : Nat) (v : Nat) (s : State) :
    (withRg idx sub v s).test = s.test := rfl

/-! ### withSess -/

@[simp] theorem withSess_pending (n : Nat) (x : Session) (s : State) :
    (withSess n x s).pending = s.pending := rfl
@[simp] theorem withSess_sent (n : Nat) (x : Session) (s : State) :
    (withSess n x s).sent = s.sent := rfl
@[simp] theorem withSess_freeCtr (n : Nat) (x : Session) (s : State) :
    (withSess n x s).freeCtr = s.freeCtr := rfl
@[simp] theorem withSess_dev (n : Nat) (x : Session) (s : State) :
    (withSess n x s).dev = s.dev := rfl
@[simp] theorem withSess_regs (n : Nat) (x : Session) (s : State) :
    (withSess n x s).regs = s.regs := rfl
@[simp] theorem withSess_straps (n : Nat) (x : Session) (s : State) :
    (withSess n x s).straps = s.straps := rfl
@[simp] theorem withSess_ex (n : Nat) (x : Session) (s : State) :
    (withSess n x s).ex = s.ex := rfl
@[simp] theorem withSess_sites (n : Nat) (x : Session) (s : State) :
    (withSess n x s).sites = s.sites := rfl
@[simp] theorem withSess_siteMap (n : Nat) (x : Session) (s : State) :
    (withSess n x s).siteMap = s.siteMap := rfl
@[simp] theorem withSess_mem (n : Nat) (x : Session) (s : State) :
    (withSess n x s).mem = s.mem := rfl
@[simp] theorem withSess_links (n : Nat) (x : Session) (s : State) :
    (withSess n x s).links = s.links := rfl
@[simp] theorem withSess_dieErrors (n : Nat) (x : Session) (s : State) :
    (withSess n x s).dieErrors = s.dieErrors := rfl
@[simp] theorem withSess_pho (n : Nat) (x : Session) (s : State) :
    (withSess n x s).pho = s.pho := rfl
@[simp] theorem withSess_fab (n : Nat) (x : Session) (s : State) :
    (withSess n x s).fab = s.fab := rfl
@[simp] theorem withSess_col (n : Nat) (x : Session) (s : State) :
    (withSess n x s).col = s.col := rfl
@[simp] theorem withSess_res (n : Nat) (x : Session) (s : State) :
    (withSess n x s).res = s.res := rfl
@[simp] theorem withSess_ring (n : Nat) (x : Session) (s : State) :
    (withSess n x s).ring = s.ring := rfl
@[simp] theorem withSess_pwr (n : Nat) (x : Session) (s : State) :
    (withSess n x s).pwr = s.pwr := rfl
@[simp] theorem withSess_test (n : Nat) (x : Session) (s : State) :
    (withSess n x s).test = s.test := rfl

/-! ### addPend -/

@[simp] theorem addPend_pending (k : PendKind) (q : Req) (s : State) :
    (addPend k q s).pending = s.pending := rfl
@[simp] theorem addPend_sent (k : PendKind) (q : Req) (s : State) :
    (addPend k q s).sent = s.sent := rfl
@[simp] theorem addPend_freeCtr (k : PendKind) (q : Req) (s : State) :
    (addPend k q s).freeCtr = s.freeCtr := rfl
@[simp] theorem addPend_dev (k : PendKind) (q : Req) (s : State) :
    (addPend k q s).dev = s.dev := rfl
@[simp] theorem addPend_regs (k : PendKind) (q : Req) (s : State) :
    (addPend k q s).regs = s.regs := rfl
@[simp] theorem addPend_straps (k : PendKind) (q : Req) (s : State) :
    (addPend k q s).straps = s.straps := rfl
@[simp] theorem addPend_ex (k : PendKind) (q : Req) (s : State) :
    (addPend k q s).ex = s.ex := rfl
@[simp] theorem addPend_sites (k : PendKind) (q : Req) (s : State) :
    (addPend k q s).sites = s.sites := rfl
@[simp] theorem addPend_siteMap (k : PendKind) (q : Req) (s : State) :
    (addPend k q s).siteMap = s.siteMap := rfl
@[simp] theorem addPend_mem (k : PendKind) (q : Req) (s : State) :
    (addPend k q s).mem = s.mem := rfl
@[simp] theorem addPend_links (k : PendKind) (q : Req) (s : State) :
    (addPend k q s).links = s.links := rfl
@[simp] theorem addPend_dieErrors (k : PendKind) (q : Req) (s : State) :
    (addPend k q s).dieErrors = s.dieErrors := rfl
@[simp] theorem addPend_pho (k : PendKind) (q : Req) (s : State) :
    (addPend k q s).pho = s.pho := rfl
@[simp] theorem addPend_fab (k : PendKind) (q : Req) (s : State) :
    (addPend k q s).fab = s.fab := rfl
@[simp] theorem addPend_col (k : PendKind) (q : Req) (s : State) :
    (addPend k q s).col = s.col := rfl
@[simp] theorem addPend_res (k : PendKind) (q : Req) (s : State) :
    (addPend k q s).res = s.res := rfl
@[simp] theorem addPend_ring (k : PendKind) (q : Req) (s : State) :
    (addPend k q s).ring = s.ring := rfl
@[simp] theorem addPend_pwr (k : PendKind) (q : Req) (s : State) :
    (addPend k q s).pwr = s.pwr := rfl
@[simp] theorem addPend_test (k : PendKind) (q : Req) (s : State) :
    (addPend k q s).test = s.test := rfl

/-! ### dropPend -/

@[simp] theorem dropPend_pending (k : PendKind) (s : State) :
    (dropPend k s).pending = s.pending := rfl
@[simp] theorem dropPend_sent (k : PendKind) (s : State) :
    (dropPend k s).sent = s.sent := rfl
@[simp] theorem dropPend_freeCtr (k : PendKind) (s : State) :
    (dropPend k s).freeCtr = s.freeCtr := rfl
@[simp] theorem dropPend_dev (k : PendKind) (s : State) :
    (dropPend k s).dev = s.dev := rfl
@[simp] theorem dropPend_regs (k : PendKind) (s : State) :
    (dropPend k s).regs = s.regs := rfl
@[simp] theorem dropPend_straps (k : PendKind) (s : State) :
    (dropPend k s).straps = s.straps := rfl
@[simp] theorem dropPend_ex (k : PendKind) (s : State) :
    (dropPend k s).ex = s.ex := rfl
@[simp] theorem dropPend_sites (k : PendKind) (s : State) :
    (dropPend k s).sites = s.sites := rfl
@[simp] theorem dropPend_siteMap (k : PendKind) (s : State) :
    (dropPend k s).siteMap = s.siteMap := rfl
@[simp] theorem dropPend_mem (k : PendKind) (s : State) :
    (dropPend k s).mem = s.mem := rfl
@[simp] theorem dropPend_links (k : PendKind) (s : State) :
    (dropPend k s).links = s.links := rfl
@[simp] theorem dropPend_dieErrors (k : PendKind) (s : State) :
    (dropPend k s).dieErrors = s.dieErrors := rfl
@[simp] theorem dropPend_pho (k : PendKind) (s : State) :
    (dropPend k s).pho = s.pho := rfl
@[simp] theorem dropPend_fab (k : PendKind) (s : State) :
    (dropPend k s).fab = s.fab := rfl
@[simp] theorem dropPend_col (k : PendKind) (s : State) :
    (dropPend k s).col = s.col := rfl
@[simp] theorem dropPend_res (k : PendKind) (s : State) :
    (dropPend k s).res = s.res := rfl
@[simp] theorem dropPend_ring (k : PendKind) (s : State) :
    (dropPend k s).ring = s.ring := rfl
@[simp] theorem dropPend_pwr (k : PendKind) (s : State) :
    (dropPend k s).pwr = s.pwr := rfl
@[simp] theorem dropPend_test (k : PendKind) (s : State) :
    (dropPend k s).test = s.test := rfl

/-! ### regSpend -/

@[simp] theorem regSpend_pending (q : Nat) (p : Nat) (n : Nat) (s : State) :
    (regSpend q p n s).pending = s.pending := rfl
@[simp] theorem regSpend_sent (q : Nat) (p : Nat) (n : Nat) (s : State) :
    (regSpend q p n s).sent = s.sent := rfl
@[simp] theorem regSpend_freeCtr (q : Nat) (p : Nat) (n : Nat) (s : State) :
    (regSpend q p n s).freeCtr = s.freeCtr := rfl
@[simp] theorem regSpend_dev (q : Nat) (p : Nat) (n : Nat) (s : State) :
    (regSpend q p n s).dev = s.dev := rfl
@[simp] theorem regSpend_regs (q : Nat) (p : Nat) (n : Nat) (s : State) :
    (regSpend q p n s).regs = s.regs := rfl
@[simp] theorem regSpend_straps (q : Nat) (p : Nat) (n : Nat) (s : State) :
    (regSpend q p n s).straps = s.straps := rfl
@[simp] theorem regSpend_ex (q : Nat) (p : Nat) (n : Nat) (s : State) :
    (regSpend q p n s).ex = s.ex := rfl
@[simp] theorem regSpend_sites (q : Nat) (p : Nat) (n : Nat) (s : State) :
    (regSpend q p n s).sites = s.sites := rfl
@[simp] theorem regSpend_siteMap (q : Nat) (p : Nat) (n : Nat) (s : State) :
    (regSpend q p n s).siteMap = s.siteMap := rfl
@[simp] theorem regSpend_links (q : Nat) (p : Nat) (n : Nat) (s : State) :
    (regSpend q p n s).links = s.links := rfl
@[simp] theorem regSpend_dieErrors (q : Nat) (p : Nat) (n : Nat) (s : State) :
    (regSpend q p n s).dieErrors = s.dieErrors := rfl
@[simp] theorem regSpend_pho (q : Nat) (p : Nat) (n : Nat) (s : State) :
    (regSpend q p n s).pho = s.pho := rfl
@[simp] theorem regSpend_fab (q : Nat) (p : Nat) (n : Nat) (s : State) :
    (regSpend q p n s).fab = s.fab := rfl
@[simp] theorem regSpend_col (q : Nat) (p : Nat) (n : Nat) (s : State) :
    (regSpend q p n s).col = s.col := rfl
@[simp] theorem regSpend_res (q : Nat) (p : Nat) (n : Nat) (s : State) :
    (regSpend q p n s).res = s.res := rfl
@[simp] theorem regSpend_ring (q : Nat) (p : Nat) (n : Nat) (s : State) :
    (regSpend q p n s).ring = s.ring := rfl
@[simp] theorem regSpend_sec (q : Nat) (p : Nat) (n : Nat) (s : State) :
    (regSpend q p n s).sec = s.sec := rfl
@[simp] theorem regSpend_pwr (q : Nat) (p : Nat) (n : Nat) (s : State) :
    (regSpend q p n s).pwr = s.pwr := rfl
@[simp] theorem regSpend_test (q : Nat) (p : Nat) (n : Nat) (s : State) :
    (regSpend q p n s).test = s.test := rfl

/-! ### regFill -/

@[simp] theorem regFill_pending (q : Nat) (p : Nat) (s : State) :
    (regFill q p s).pending = s.pending := rfl
@[simp] theorem regFill_sent (q : Nat) (p : Nat) (s : State) :
    (regFill q p s).sent = s.sent := rfl
@[simp] theorem regFill_freeCtr (q : Nat) (p : Nat) (s : State) :
    (regFill q p s).freeCtr = s.freeCtr := rfl
@[simp] theorem regFill_dev (q : Nat) (p : Nat) (s : State) :
    (regFill q p s).dev = s.dev := rfl
@[simp] theorem regFill_regs (q : Nat) (p : Nat) (s : State) :
    (regFill q p s).regs = s.regs := rfl
@[simp] theorem regFill_straps (q : Nat) (p : Nat) (s : State) :
    (regFill q p s).straps = s.straps := rfl
@[simp] theorem regFill_ex (q : Nat) (p : Nat) (s : State) :
    (regFill q p s).ex = s.ex := rfl
@[simp] theorem regFill_sites (q : Nat) (p : Nat) (s : State) :
    (regFill q p s).sites = s.sites := rfl
@[simp] theorem regFill_siteMap (q : Nat) (p : Nat) (s : State) :
    (regFill q p s).siteMap = s.siteMap := rfl
@[simp] theorem regFill_links (q : Nat) (p : Nat) (s : State) :
    (regFill q p s).links = s.links := rfl
@[simp] theorem regFill_dieErrors (q : Nat) (p : Nat) (s : State) :
    (regFill q p s).dieErrors = s.dieErrors := rfl
@[simp] theorem regFill_pho (q : Nat) (p : Nat) (s : State) :
    (regFill q p s).pho = s.pho := rfl
@[simp] theorem regFill_fab (q : Nat) (p : Nat) (s : State) :
    (regFill q p s).fab = s.fab := rfl
@[simp] theorem regFill_col (q : Nat) (p : Nat) (s : State) :
    (regFill q p s).col = s.col := rfl
@[simp] theorem regFill_res (q : Nat) (p : Nat) (s : State) :
    (regFill q p s).res = s.res := rfl
@[simp] theorem regFill_ring (q : Nat) (p : Nat) (s : State) :
    (regFill q p s).ring = s.ring := rfl
@[simp] theorem regFill_sec (q : Nat) (p : Nat) (s : State) :
    (regFill q p s).sec = s.sec := rfl
@[simp] theorem regFill_pwr (q : Nat) (p : Nat) (s : State) :
    (regFill q p s).pwr = s.pwr := rfl
@[simp] theorem regFill_test (q : Nat) (p : Nat) (s : State) :
    (regFill q p s).test = s.test := rfl

/-! ### markRetiring -/

@[simp] theorem markRetiring_pending (line : Nat) (s : State) :
    (markRetiring line s).pending = s.pending := rfl
@[simp] theorem markRetiring_sent (line : Nat) (s : State) :
    (markRetiring line s).sent = s.sent := rfl
@[simp] theorem markRetiring_freeCtr (line : Nat) (s : State) :
    (markRetiring line s).freeCtr = s.freeCtr := rfl
@[simp] theorem markRetiring_dev (line : Nat) (s : State) :
    (markRetiring line s).dev = s.dev := rfl
@[simp] theorem markRetiring_regs (line : Nat) (s : State) :
    (markRetiring line s).regs = s.regs := rfl
@[simp] theorem markRetiring_straps (line : Nat) (s : State) :
    (markRetiring line s).straps = s.straps := rfl
@[simp] theorem markRetiring_ex (line : Nat) (s : State) :
    (markRetiring line s).ex = s.ex := rfl
@[simp] theorem markRetiring_sites (line : Nat) (s : State) :
    (markRetiring line s).sites = s.sites := rfl
@[simp] theorem markRetiring_siteMap (line : Nat) (s : State) :
    (markRetiring line s).siteMap = s.siteMap := rfl
@[simp] theorem markRetiring_links (line : Nat) (s : State) :
    (markRetiring line s).links = s.links := rfl
@[simp] theorem markRetiring_dieErrors (line : Nat) (s : State) :
    (markRetiring line s).dieErrors = s.dieErrors := rfl
@[simp] theorem markRetiring_pho (line : Nat) (s : State) :
    (markRetiring line s).pho = s.pho := rfl
@[simp] theorem markRetiring_fab (line : Nat) (s : State) :
    (markRetiring line s).fab = s.fab := rfl
@[simp] theorem markRetiring_col (line : Nat) (s : State) :
    (markRetiring line s).col = s.col := rfl
@[simp] theorem markRetiring_res (line : Nat) (s : State) :
    (markRetiring line s).res = s.res := rfl
@[simp] theorem markRetiring_ring (line : Nat) (s : State) :
    (markRetiring line s).ring = s.ring := rfl
@[simp] theorem markRetiring_sec (line : Nat) (s : State) :
    (markRetiring line s).sec = s.sec := rfl
@[simp] theorem markRetiring_pwr (line : Nat) (s : State) :
    (markRetiring line s).pwr = s.pwr := rfl
@[simp] theorem markRetiring_test (line : Nat) (s : State) :
    (markRetiring line s).test = s.test := rfl

/-! ### withStack -/

@[simp] theorem withStack_pending (k : Nat) (x : Stack) (s : State) :
    (withStack k x s).pending = s.pending := rfl
@[simp] theorem withStack_sent (k : Nat) (x : Stack) (s : State) :
    (withStack k x s).sent = s.sent := rfl
@[simp] theorem withStack_freeCtr (k : Nat) (x : Stack) (s : State) :
    (withStack k x s).freeCtr = s.freeCtr := rfl
@[simp] theorem withStack_dev (k : Nat) (x : Stack) (s : State) :
    (withStack k x s).dev = s.dev := rfl
@[simp] theorem withStack_regs (k : Nat) (x : Stack) (s : State) :
    (withStack k x s).regs = s.regs := rfl
@[simp] theorem withStack_straps (k : Nat) (x : Stack) (s : State) :
    (withStack k x s).straps = s.straps := rfl
@[simp] theorem withStack_ex (k : Nat) (x : Stack) (s : State) :
    (withStack k x s).ex = s.ex := rfl
@[simp] theorem withStack_sites (k : Nat) (x : Stack) (s : State) :
    (withStack k x s).sites = s.sites := rfl
@[simp] theorem withStack_siteMap (k : Nat) (x : Stack) (s : State) :
    (withStack k x s).siteMap = s.siteMap := rfl
@[simp] theorem withStack_links (k : Nat) (x : Stack) (s : State) :
    (withStack k x s).links = s.links := rfl
@[simp] theorem withStack_dieErrors (k : Nat) (x : Stack) (s : State) :
    (withStack k x s).dieErrors = s.dieErrors := rfl
@[simp] theorem withStack_pho (k : Nat) (x : Stack) (s : State) :
    (withStack k x s).pho = s.pho := rfl
@[simp] theorem withStack_fab (k : Nat) (x : Stack) (s : State) :
    (withStack k x s).fab = s.fab := rfl
@[simp] theorem withStack_col (k : Nat) (x : Stack) (s : State) :
    (withStack k x s).col = s.col := rfl
@[simp] theorem withStack_res (k : Nat) (x : Stack) (s : State) :
    (withStack k x s).res = s.res := rfl
@[simp] theorem withStack_ring (k : Nat) (x : Stack) (s : State) :
    (withStack k x s).ring = s.ring := rfl
@[simp] theorem withStack_sec (k : Nat) (x : Stack) (s : State) :
    (withStack k x s).sec = s.sec := rfl
@[simp] theorem withStack_pwr (k : Nat) (x : Stack) (s : State) :
    (withStack k x s).pwr = s.pwr := rfl
@[simp] theorem withStack_test (k : Nat) (x : Stack) (s : State) :
    (withStack k x s).test = s.test := rfl

/-! ### expectAnswer -/

@[simp] theorem expectAnswer_pending (m : MemReq) (write : Bool) (s : State) :
    (expectAnswer m write s).pending = s.pending := rfl
@[simp] theorem expectAnswer_sent (m : MemReq) (write : Bool) (s : State) :
    (expectAnswer m write s).sent = s.sent := rfl
@[simp] theorem expectAnswer_freeCtr (m : MemReq) (write : Bool) (s : State) :
    (expectAnswer m write s).freeCtr = s.freeCtr := rfl
@[simp] theorem expectAnswer_dev (m : MemReq) (write : Bool) (s : State) :
    (expectAnswer m write s).dev = s.dev := rfl
@[simp] theorem expectAnswer_regs (m : MemReq) (write : Bool) (s : State) :
    (expectAnswer m write s).regs = s.regs := rfl
@[simp] theorem expectAnswer_straps (m : MemReq) (write : Bool) (s : State) :
    (expectAnswer m write s).straps = s.straps := rfl
@[simp] theorem expectAnswer_ex (m : MemReq) (write : Bool) (s : State) :
    (expectAnswer m write s).ex = s.ex := rfl
@[simp] theorem expectAnswer_sites (m : MemReq) (write : Bool) (s : State) :
    (expectAnswer m write s).sites = s.sites := rfl
@[simp] theorem expectAnswer_siteMap (m : MemReq) (write : Bool) (s : State) :
    (expectAnswer m write s).siteMap = s.siteMap := rfl
@[simp] theorem expectAnswer_links (m : MemReq) (write : Bool) (s : State) :
    (expectAnswer m write s).links = s.links := rfl
@[simp] theorem expectAnswer_dieErrors (m : MemReq) (write : Bool) (s : State) :
    (expectAnswer m write s).dieErrors = s.dieErrors := rfl
@[simp] theorem expectAnswer_pho (m : MemReq) (write : Bool) (s : State) :
    (expectAnswer m write s).pho = s.pho := rfl
@[simp] theorem expectAnswer_fab (m : MemReq) (write : Bool) (s : State) :
    (expectAnswer m write s).fab = s.fab := rfl
@[simp] theorem expectAnswer_col (m : MemReq) (write : Bool) (s : State) :
    (expectAnswer m write s).col = s.col := rfl
@[simp] theorem expectAnswer_res (m : MemReq) (write : Bool) (s : State) :
    (expectAnswer m write s).res = s.res := rfl
@[simp] theorem expectAnswer_ring (m : MemReq) (write : Bool) (s : State) :
    (expectAnswer m write s).ring = s.ring := rfl
@[simp] theorem expectAnswer_sec (m : MemReq) (write : Bool) (s : State) :
    (expectAnswer m write s).sec = s.sec := rfl
@[simp] theorem expectAnswer_pwr (m : MemReq) (write : Bool) (s : State) :
    (expectAnswer m write s).pwr = s.pwr := rfl
@[simp] theorem expectAnswer_test (m : MemReq) (write : Bool) (s : State) :
    (expectAnswer m write s).test = s.test := rfl

/-! ### waitRequest -/

@[simp] theorem waitRequest_pending (w : WaitingReq) (s : State) :
    (waitRequest w s).pending = s.pending := rfl
@[simp] theorem waitRequest_sent (w : WaitingReq) (s : State) :
    (waitRequest w s).sent = s.sent := rfl
@[simp] theorem waitRequest_freeCtr (w : WaitingReq) (s : State) :
    (waitRequest w s).freeCtr = s.freeCtr := rfl
@[simp] theorem waitRequest_dev (w : WaitingReq) (s : State) :
    (waitRequest w s).dev = s.dev := rfl
@[simp] theorem waitRequest_regs (w : WaitingReq) (s : State) :
    (waitRequest w s).regs = s.regs := rfl
@[simp] theorem waitRequest_straps (w : WaitingReq) (s : State) :
    (waitRequest w s).straps = s.straps := rfl
@[simp] theorem waitRequest_ex (w : WaitingReq) (s : State) :
    (waitRequest w s).ex = s.ex := rfl
@[simp] theorem waitRequest_sites (w : WaitingReq) (s : State) :
    (waitRequest w s).sites = s.sites := rfl
@[simp] theorem waitRequest_siteMap (w : WaitingReq) (s : State) :
    (waitRequest w s).siteMap = s.siteMap := rfl
@[simp] theorem waitRequest_links (w : WaitingReq) (s : State) :
    (waitRequest w s).links = s.links := rfl
@[simp] theorem waitRequest_dieErrors (w : WaitingReq) (s : State) :
    (waitRequest w s).dieErrors = s.dieErrors := rfl
@[simp] theorem waitRequest_pho (w : WaitingReq) (s : State) :
    (waitRequest w s).pho = s.pho := rfl
@[simp] theorem waitRequest_fab (w : WaitingReq) (s : State) :
    (waitRequest w s).fab = s.fab := rfl
@[simp] theorem waitRequest_col (w : WaitingReq) (s : State) :
    (waitRequest w s).col = s.col := rfl
@[simp] theorem waitRequest_res (w : WaitingReq) (s : State) :
    (waitRequest w s).res = s.res := rfl
@[simp] theorem waitRequest_ring (w : WaitingReq) (s : State) :
    (waitRequest w s).ring = s.ring := rfl
@[simp] theorem waitRequest_sec (w : WaitingReq) (s : State) :
    (waitRequest w s).sec = s.sec := rfl
@[simp] theorem waitRequest_pwr (w : WaitingReq) (s : State) :
    (waitRequest w s).pwr = s.pwr := rfl
@[simp] theorem waitRequest_test (w : WaitingReq) (s : State) :
    (waitRequest w s).test = s.test := rfl

/-! ### answered -/

@[simp] theorem answered_pending (die : Nat) (ep : Nat) (tag : Nat) (write : Bool) (s : State) :
    (answered die ep tag write s).pending = s.pending := rfl
@[simp] theorem answered_sent (die : Nat) (ep : Nat) (tag : Nat) (write : Bool) (s : State) :
    (answered die ep tag write s).sent = s.sent := rfl
@[simp] theorem answered_freeCtr (die : Nat) (ep : Nat) (tag : Nat) (write : Bool) (s : State) :
    (answered die ep tag write s).freeCtr = s.freeCtr := rfl
@[simp] theorem answered_dev (die : Nat) (ep : Nat) (tag : Nat) (write : Bool) (s : State) :
    (answered die ep tag write s).dev = s.dev := rfl
@[simp] theorem answered_regs (die : Nat) (ep : Nat) (tag : Nat) (write : Bool) (s : State) :
    (answered die ep tag write s).regs = s.regs := rfl
@[simp] theorem answered_straps (die : Nat) (ep : Nat) (tag : Nat) (write : Bool) (s : State) :
    (answered die ep tag write s).straps = s.straps := rfl
@[simp] theorem answered_ex (die : Nat) (ep : Nat) (tag : Nat) (write : Bool) (s : State) :
    (answered die ep tag write s).ex = s.ex := rfl
@[simp] theorem answered_sites (die : Nat) (ep : Nat) (tag : Nat) (write : Bool) (s : State) :
    (answered die ep tag write s).sites = s.sites := rfl
@[simp] theorem answered_siteMap (die : Nat) (ep : Nat) (tag : Nat) (write : Bool) (s : State) :
    (answered die ep tag write s).siteMap = s.siteMap := rfl
@[simp] theorem answered_links (die : Nat) (ep : Nat) (tag : Nat) (write : Bool) (s : State) :
    (answered die ep tag write s).links = s.links := rfl
@[simp] theorem answered_dieErrors (die : Nat) (ep : Nat) (tag : Nat) (write : Bool) (s : State) :
    (answered die ep tag write s).dieErrors = s.dieErrors := rfl
@[simp] theorem answered_pho (die : Nat) (ep : Nat) (tag : Nat) (write : Bool) (s : State) :
    (answered die ep tag write s).pho = s.pho := rfl
@[simp] theorem answered_fab (die : Nat) (ep : Nat) (tag : Nat) (write : Bool) (s : State) :
    (answered die ep tag write s).fab = s.fab := rfl
@[simp] theorem answered_col (die : Nat) (ep : Nat) (tag : Nat) (write : Bool) (s : State) :
    (answered die ep tag write s).col = s.col := rfl
@[simp] theorem answered_res (die : Nat) (ep : Nat) (tag : Nat) (write : Bool) (s : State) :
    (answered die ep tag write s).res = s.res := rfl
@[simp] theorem answered_ring (die : Nat) (ep : Nat) (tag : Nat) (write : Bool) (s : State) :
    (answered die ep tag write s).ring = s.ring := rfl
@[simp] theorem answered_sec (die : Nat) (ep : Nat) (tag : Nat) (write : Bool) (s : State) :
    (answered die ep tag write s).sec = s.sec := rfl
@[simp] theorem answered_pwr (die : Nat) (ep : Nat) (tag : Nat) (write : Bool) (s : State) :
    (answered die ep tag write s).pwr = s.pwr := rfl
@[simp] theorem answered_test (die : Nat) (ep : Nat) (tag : Nat) (write : Bool) (s : State) :
    (answered die ep tag write s).test = s.test := rfl

/-! ### withStep -/

@[simp] theorem withStep_pending (f : Step → Step) (s : State) :
    (withStep f s).pending = s.pending := rfl
@[simp] theorem withStep_sent (f : Step → Step) (s : State) :
    (withStep f s).sent = s.sent := rfl
@[simp] theorem withStep_freeCtr (f : Step → Step) (s : State) :
    (withStep f s).freeCtr = s.freeCtr := rfl
@[simp] theorem withStep_dev (f : Step → Step) (s : State) :
    (withStep f s).dev = s.dev := rfl
@[simp] theorem withStep_regs (f : Step → Step) (s : State) :
    (withStep f s).regs = s.regs := rfl
@[simp] theorem withStep_straps (f : Step → Step) (s : State) :
    (withStep f s).straps = s.straps := rfl
@[simp] theorem withStep_sites (f : Step → Step) (s : State) :
    (withStep f s).sites = s.sites := rfl
@[simp] theorem withStep_siteMap (f : Step → Step) (s : State) :
    (withStep f s).siteMap = s.siteMap := rfl
@[simp] theorem withStep_mem (f : Step → Step) (s : State) :
    (withStep f s).mem = s.mem := rfl
@[simp] theorem withStep_links (f : Step → Step) (s : State) :
    (withStep f s).links = s.links := rfl
@[simp] theorem withStep_dieErrors (f : Step → Step) (s : State) :
    (withStep f s).dieErrors = s.dieErrors := rfl
@[simp] theorem withStep_pho (f : Step → Step) (s : State) :
    (withStep f s).pho = s.pho := rfl
@[simp] theorem withStep_fab (f : Step → Step) (s : State) :
    (withStep f s).fab = s.fab := rfl
@[simp] theorem withStep_col (f : Step → Step) (s : State) :
    (withStep f s).col = s.col := rfl
@[simp] theorem withStep_res (f : Step → Step) (s : State) :
    (withStep f s).res = s.res := rfl
@[simp] theorem withStep_ring (f : Step → Step) (s : State) :
    (withStep f s).ring = s.ring := rfl
@[simp] theorem withStep_sec (f : Step → Step) (s : State) :
    (withStep f s).sec = s.sec := rfl
@[simp] theorem withStep_pwr (f : Step → Step) (s : State) :
    (withStep f s).pwr = s.pwr := rfl
@[simp] theorem withStep_test (f : Step → Step) (s : State) :
    (withStep f s).test = s.test := rfl

/-! ### queueOut -/

@[simp] theorem queueOut_pending (o : Output) (s : State) :
    (queueOut o s).pending = s.pending := by
  unfold queueOut; dsimp only
  (repeat' split) <;> simp
@[simp] theorem queueOut_sent (o : Output) (s : State) :
    (queueOut o s).sent = s.sent := by
  unfold queueOut; dsimp only
  (repeat' split) <;> simp
@[simp] theorem queueOut_freeCtr (o : Output) (s : State) :
    (queueOut o s).freeCtr = s.freeCtr := by
  unfold queueOut; dsimp only
  (repeat' split) <;> simp
@[simp] theorem queueOut_dev (o : Output) (s : State) :
    (queueOut o s).dev = s.dev := by
  unfold queueOut; dsimp only
  (repeat' split) <;> simp
@[simp] theorem queueOut_regs (o : Output) (s : State) :
    (queueOut o s).regs = s.regs := by
  unfold queueOut; dsimp only
  (repeat' split) <;> simp
@[simp] theorem queueOut_straps (o : Output) (s : State) :
    (queueOut o s).straps = s.straps := by
  unfold queueOut; dsimp only
  (repeat' split) <;> simp
@[simp] theorem queueOut_ex (o : Output) (s : State) :
    (queueOut o s).ex = s.ex := by
  unfold queueOut; dsimp only
  (repeat' split) <;> simp
@[simp] theorem queueOut_sites (o : Output) (s : State) :
    (queueOut o s).sites = s.sites := by
  unfold queueOut; dsimp only
  (repeat' split) <;> simp
@[simp] theorem queueOut_siteMap (o : Output) (s : State) :
    (queueOut o s).siteMap = s.siteMap := by
  unfold queueOut; dsimp only
  (repeat' split) <;> simp
@[simp] theorem queueOut_mem (o : Output) (s : State) :
    (queueOut o s).mem = s.mem := by
  unfold queueOut; dsimp only
  (repeat' split) <;> simp
@[simp] theorem queueOut_links (o : Output) (s : State) :
    (queueOut o s).links = s.links := by
  unfold queueOut; dsimp only
  (repeat' split) <;> simp
@[simp] theorem queueOut_dieErrors (o : Output) (s : State) :
    (queueOut o s).dieErrors = s.dieErrors := by
  unfold queueOut; dsimp only
  (repeat' split) <;> simp
@[simp] theorem queueOut_pho (o : Output) (s : State) :
    (queueOut o s).pho = s.pho := by
  unfold queueOut; dsimp only
  (repeat' split) <;> simp
@[simp] theorem queueOut_fab (o : Output) (s : State) :
    (queueOut o s).fab = s.fab := by
  unfold queueOut; dsimp only
  (repeat' split) <;> simp
@[simp] theorem queueOut_col (o : Output) (s : State) :
    (queueOut o s).col = s.col := by
  unfold queueOut; dsimp only
  (repeat' split) <;> simp
@[simp] theorem queueOut_res (o : Output) (s : State) :
    (queueOut o s).res = s.res := by
  unfold queueOut; dsimp only
  (repeat' split) <;> simp
@[simp] theorem queueOut_sec (o : Output) (s : State) :
    (queueOut o s).sec = s.sec := by
  unfold queueOut; dsimp only
  (repeat' split) <;> simp
@[simp] theorem queueOut_pwr (o : Output) (s : State) :
    (queueOut o s).pwr = s.pwr := by
  unfold queueOut; dsimp only
  (repeat' split) <;> simp
@[simp] theorem queueOut_test (o : Output) (s : State) :
    (queueOut o s).test = s.test := by
  unfold queueOut; dsimp only
  (repeat' split) <;> simp

/-! ### noteHead -/

@[simp] theorem noteHead_pending (q : Req) (h : Bytes) (s : State) :
    (noteHead q h s).pending = s.pending := by
  unfold noteHead; dsimp only
  (repeat' split) <;> simp
@[simp] theorem noteHead_sent (q : Req) (h : Bytes) (s : State) :
    (noteHead q h s).sent = s.sent := by
  unfold noteHead; dsimp only
  (repeat' split) <;> simp
@[simp] theorem noteHead_freeCtr (q : Req) (h : Bytes) (s : State) :
    (noteHead q h s).freeCtr = s.freeCtr := by
  unfold noteHead; dsimp only
  (repeat' split) <;> simp
@[simp] theorem noteHead_dev (q : Req) (h : Bytes) (s : State) :
    (noteHead q h s).dev = s.dev := by
  unfold noteHead; dsimp only
  (repeat' split) <;> simp
@[simp] theorem noteHead_regs (q : Req) (h : Bytes) (s : State) :
    (noteHead q h s).regs = s.regs := by
  unfold noteHead; dsimp only
  (repeat' split) <;> simp
@[simp] theorem noteHead_straps (q : Req) (h : Bytes) (s : State) :
    (noteHead q h s).straps = s.straps := by
  unfold noteHead; dsimp only
  (repeat' split) <;> simp
@[simp] theorem noteHead_ex (q : Req) (h : Bytes) (s : State) :
    (noteHead q h s).ex = s.ex := by
  unfold noteHead; dsimp only
  (repeat' split) <;> simp
@[simp] theorem noteHead_sites (q : Req) (h : Bytes) (s : State) :
    (noteHead q h s).sites = s.sites := by
  unfold noteHead; dsimp only
  (repeat' split) <;> simp
@[simp] theorem noteHead_siteMap (q : Req) (h : Bytes) (s : State) :
    (noteHead q h s).siteMap = s.siteMap := by
  unfold noteHead; dsimp only
  (repeat' split) <;> simp
@[simp] theorem noteHead_mem (q : Req) (h : Bytes) (s : State) :
    (noteHead q h s).mem = s.mem := by
  unfold noteHead; dsimp only
  (repeat' split) <;> simp
@[simp] theorem noteHead_links (q : Req) (h : Bytes) (s : State) :
    (noteHead q h s).links = s.links := by
  unfold noteHead; dsimp only
  (repeat' split) <;> simp
@[simp] theorem noteHead_dieErrors (q : Req) (h : Bytes) (s : State) :
    (noteHead q h s).dieErrors = s.dieErrors := by
  unfold noteHead; dsimp only
  (repeat' split) <;> simp
@[simp] theorem noteHead_pho (q : Req) (h : Bytes) (s : State) :
    (noteHead q h s).pho = s.pho := by
  unfold noteHead; dsimp only
  (repeat' split) <;> simp
@[simp] theorem noteHead_fab (q : Req) (h : Bytes) (s : State) :
    (noteHead q h s).fab = s.fab := by
  unfold noteHead; dsimp only
  (repeat' split) <;> simp
@[simp] theorem noteHead_col (q : Req) (h : Bytes) (s : State) :
    (noteHead q h s).col = s.col := by
  unfold noteHead; dsimp only
  (repeat' split) <;> simp
@[simp] theorem noteHead_res (q : Req) (h : Bytes) (s : State) :
    (noteHead q h s).res = s.res := by
  unfold noteHead; dsimp only
  (repeat' split) <;> simp
@[simp] theorem noteHead_ring (q : Req) (h : Bytes) (s : State) :
    (noteHead q h s).ring = s.ring := by
  unfold noteHead; dsimp only
  (repeat' split) <;> simp
@[simp] theorem noteHead_pwr (q : Req) (h : Bytes) (s : State) :
    (noteHead q h s).pwr = s.pwr := by
  unfold noteHead; dsimp only
  (repeat' split) <;> simp
@[simp] theorem noteHead_test (q : Req) (h : Bytes) (s : State) :
    (noteHead q h s).test = s.test := by
  unfold noteHead; dsimp only
  (repeat' split) <;> simp

/-! ### noteCommand -/

@[simp] theorem noteCommand_pending (q : Req) (command : Nat) (idx : Nat) (sub : Nat) (s : State) :
    (noteCommand q command idx sub s).pending = s.pending := by
  unfold noteCommand
  (repeat' split) <;> simp
@[simp] theorem noteCommand_sent (q : Req) (command : Nat) (idx : Nat) (sub : Nat) (s : State) :
    (noteCommand q command idx sub s).sent = s.sent := by
  unfold noteCommand
  (repeat' split) <;> simp
@[simp] theorem noteCommand_freeCtr (q : Req) (command : Nat) (idx : Nat) (sub : Nat) (s : State) :
    (noteCommand q command idx sub s).freeCtr = s.freeCtr := by
  unfold noteCommand
  (repeat' split) <;> simp
@[simp] theorem noteCommand_dev (q : Req) (command : Nat) (idx : Nat) (sub : Nat) (s : State) :
    (noteCommand q command idx sub s).dev = s.dev := by
  unfold noteCommand
  (repeat' split) <;> simp
@[simp] theorem noteCommand_regs (q : Req) (command : Nat) (idx : Nat) (sub : Nat) (s : State) :
    (noteCommand q command idx sub s).regs = s.regs := by
  unfold noteCommand
  (repeat' split) <;> simp
@[simp] theorem noteCommand_straps (q : Req) (command : Nat) (idx : Nat) (sub : Nat) (s : State) :
    (noteCommand q command idx sub s).straps = s.straps := by
  unfold noteCommand
  (repeat' split) <;> simp
@[simp] theorem noteCommand_ex (q : Req) (command : Nat) (idx : Nat) (sub : Nat) (s : State) :
    (noteCommand q command idx sub s).ex = s.ex := by
  unfold noteCommand
  (repeat' split) <;> simp
@[simp] theorem noteCommand_sites (q : Req) (command : Nat) (idx : Nat) (sub : Nat) (s : State) :
    (noteCommand q command idx sub s).sites = s.sites := by
  unfold noteCommand
  (repeat' split) <;> simp
@[simp] theorem noteCommand_siteMap (q : Req) (command : Nat) (idx : Nat) (sub : Nat) (s : State) :
    (noteCommand q command idx sub s).siteMap = s.siteMap := by
  unfold noteCommand
  (repeat' split) <;> simp
@[simp] theorem noteCommand_mem (q : Req) (command : Nat) (idx : Nat) (sub : Nat) (s : State) :
    (noteCommand q command idx sub s).mem = s.mem := by
  unfold noteCommand
  (repeat' split) <;> simp
@[simp] theorem noteCommand_links (q : Req) (command : Nat) (idx : Nat) (sub : Nat) (s : State) :
    (noteCommand q command idx sub s).links = s.links := by
  unfold noteCommand
  (repeat' split) <;> simp
@[simp] theorem noteCommand_dieErrors (q : Req) (command : Nat) (idx : Nat) (sub : Nat) (s : State) :
    (noteCommand q command idx sub s).dieErrors = s.dieErrors := by
  unfold noteCommand
  (repeat' split) <;> simp
@[simp] theorem noteCommand_pho (q : Req) (command : Nat) (idx : Nat) (sub : Nat) (s : State) :
    (noteCommand q command idx sub s).pho = s.pho := by
  unfold noteCommand
  (repeat' split) <;> simp
@[simp] theorem noteCommand_fab (q : Req) (command : Nat) (idx : Nat) (sub : Nat) (s : State) :
    (noteCommand q command idx sub s).fab = s.fab := by
  unfold noteCommand
  (repeat' split) <;> simp
@[simp] theorem noteCommand_col (q : Req) (command : Nat) (idx : Nat) (sub : Nat) (s : State) :
    (noteCommand q command idx sub s).col = s.col := by
  unfold noteCommand
  (repeat' split) <;> simp
@[simp] theorem noteCommand_res (q : Req) (command : Nat) (idx : Nat) (sub : Nat) (s : State) :
    (noteCommand q command idx sub s).res = s.res := by
  unfold noteCommand
  (repeat' split) <;> simp
@[simp] theorem noteCommand_ring (q : Req) (command : Nat) (idx : Nat) (sub : Nat) (s : State) :
    (noteCommand q command idx sub s).ring = s.ring := by
  unfold noteCommand
  (repeat' split) <;> simp
@[simp] theorem noteCommand_pwr (q : Req) (command : Nat) (idx : Nat) (sub : Nat) (s : State) :
    (noteCommand q command idx sub s).pwr = s.pwr := by
  unfold noteCommand
  (repeat' split) <;> simp
@[simp] theorem noteCommand_test (q : Req) (command : Nat) (idx : Nat) (sub : Nat) (s : State) :
    (noteCommand q command idx sub s).test = s.test := by
  unfold noteCommand
  (repeat' split) <;> simp

/-! ### takeInbox -/

@[simp] theorem takeInbox_pending (q : Req) (s : State) :
    (takeInbox q s).pending = s.pending := by
  unfold takeInbox; dsimp only
  (repeat' split) <;> simp
@[simp] theorem takeInbox_sent (q : Req) (s : State) :
    (takeInbox q s).sent = s.sent := by
  unfold takeInbox; dsimp only
  (repeat' split) <;> simp
@[simp] theorem takeInbox_freeCtr (q : Req) (s : State) :
    (takeInbox q s).freeCtr = s.freeCtr := by
  unfold takeInbox; dsimp only
  (repeat' split) <;> simp
@[simp] theorem takeInbox_dev (q : Req) (s : State) :
    (takeInbox q s).dev = s.dev := by
  unfold takeInbox; dsimp only
  (repeat' split) <;> simp
@[simp] theorem takeInbox_regs (q : Req) (s : State) :
    (takeInbox q s).regs = s.regs := by
  unfold takeInbox; dsimp only
  (repeat' split) <;> simp
@[simp] theorem takeInbox_straps (q : Req) (s : State) :
    (takeInbox q s).straps = s.straps := by
  unfold takeInbox; dsimp only
  (repeat' split) <;> simp
@[simp] theorem takeInbox_ex (q : Req) (s : State) :
    (takeInbox q s).ex = s.ex := by
  unfold takeInbox; dsimp only
  (repeat' split) <;> simp
@[simp] theorem takeInbox_sites (q : Req) (s : State) :
    (takeInbox q s).sites = s.sites := by
  unfold takeInbox; dsimp only
  (repeat' split) <;> simp
@[simp] theorem takeInbox_siteMap (q : Req) (s : State) :
    (takeInbox q s).siteMap = s.siteMap := by
  unfold takeInbox; dsimp only
  (repeat' split) <;> simp
@[simp] theorem takeInbox_mem (q : Req) (s : State) :
    (takeInbox q s).mem = s.mem := by
  unfold takeInbox; dsimp only
  (repeat' split) <;> simp
@[simp] theorem takeInbox_links (q : Req) (s : State) :
    (takeInbox q s).links = s.links := by
  unfold takeInbox; dsimp only
  (repeat' split) <;> simp
@[simp] theorem takeInbox_dieErrors (q : Req) (s : State) :
    (takeInbox q s).dieErrors = s.dieErrors := by
  unfold takeInbox; dsimp only
  (repeat' split) <;> simp
@[simp] theorem takeInbox_pho (q : Req) (s : State) :
    (takeInbox q s).pho = s.pho := by
  unfold takeInbox; dsimp only
  (repeat' split) <;> simp
@[simp] theorem takeInbox_fab (q : Req) (s : State) :
    (takeInbox q s).fab = s.fab := by
  unfold takeInbox; dsimp only
  (repeat' split) <;> simp
@[simp] theorem takeInbox_col (q : Req) (s : State) :
    (takeInbox q s).col = s.col := by
  unfold takeInbox; dsimp only
  (repeat' split) <;> simp
@[simp] theorem takeInbox_res (q : Req) (s : State) :
    (takeInbox q s).res = s.res := by
  unfold takeInbox; dsimp only
  (repeat' split) <;> simp
@[simp] theorem takeInbox_pwr (q : Req) (s : State) :
    (takeInbox q s).pwr = s.pwr := by
  unfold takeInbox; dsimp only
  (repeat' split) <;> simp
@[simp] theorem takeInbox_test (q : Req) (s : State) :
    (takeInbox q s).test = s.test := by
  unfold takeInbox; dsimp only
  (repeat' split) <;> simp

/-! ### withShLines -/

@[simp] theorem withShLines_pending (d : Nat) (line : Nat) (l : List Nat) (s : State) :
    (withShLines d line l s).pending = s.pending := rfl
@[simp] theorem withShLines_sent (d : Nat) (line : Nat) (l : List Nat) (s : State) :
    (withShLines d line l s).sent = s.sent := rfl
@[simp] theorem withShLines_freeCtr (d : Nat) (line : Nat) (l : List Nat) (s : State) :
    (withShLines d line l s).freeCtr = s.freeCtr := rfl
@[simp] theorem withShLines_dev (d : Nat) (line : Nat) (l : List Nat) (s : State) :
    (withShLines d line l s).dev = s.dev := rfl
@[simp] theorem withShLines_regs (d : Nat) (line : Nat) (l : List Nat) (s : State) :
    (withShLines d line l s).regs = s.regs := rfl
@[simp] theorem withShLines_straps (d : Nat) (line : Nat) (l : List Nat) (s : State) :
    (withShLines d line l s).straps = s.straps := rfl
@[simp] theorem withShLines_ex (d : Nat) (line : Nat) (l : List Nat) (s : State) :
    (withShLines d line l s).ex = s.ex := rfl
@[simp] theorem withShLines_sites (d : Nat) (line : Nat) (l : List Nat) (s : State) :
    (withShLines d line l s).sites = s.sites := rfl
@[simp] theorem withShLines_siteMap (d : Nat) (line : Nat) (l : List Nat) (s : State) :
    (withShLines d line l s).siteMap = s.siteMap := rfl
@[simp] theorem withShLines_links (d : Nat) (line : Nat) (l : List Nat) (s : State) :
    (withShLines d line l s).links = s.links := rfl
@[simp] theorem withShLines_dieErrors (d : Nat) (line : Nat) (l : List Nat) (s : State) :
    (withShLines d line l s).dieErrors = s.dieErrors := rfl
@[simp] theorem withShLines_pho (d : Nat) (line : Nat) (l : List Nat) (s : State) :
    (withShLines d line l s).pho = s.pho := rfl
@[simp] theorem withShLines_fab (d : Nat) (line : Nat) (l : List Nat) (s : State) :
    (withShLines d line l s).fab = s.fab := rfl
@[simp] theorem withShLines_col (d : Nat) (line : Nat) (l : List Nat) (s : State) :
    (withShLines d line l s).col = s.col := rfl
@[simp] theorem withShLines_res (d : Nat) (line : Nat) (l : List Nat) (s : State) :
    (withShLines d line l s).res = s.res := rfl
@[simp] theorem withShLines_ring (d : Nat) (line : Nat) (l : List Nat) (s : State) :
    (withShLines d line l s).ring = s.ring := rfl
@[simp] theorem withShLines_sec (d : Nat) (line : Nat) (l : List Nat) (s : State) :
    (withShLines d line l s).sec = s.sec := rfl
@[simp] theorem withShLines_pwr (d : Nat) (line : Nat) (l : List Nat) (s : State) :
    (withShLines d line l s).pwr = s.pwr := rfl
@[simp] theorem withShLines_test (d : Nat) (line : Nat) (l : List Nat) (s : State) :
    (withShLines d line l s).test = s.test := rfl

/-! ### sendAnswer -/

@[simp] theorem sendAnswer_pending (m : MemReq) (write : Bool) (s : State) :
    (sendAnswer m write s).pending = s.pending := rfl
@[simp] theorem sendAnswer_sent (m : MemReq) (write : Bool) (s : State) :
    (sendAnswer m write s).sent = s.sent := rfl
@[simp] theorem sendAnswer_freeCtr (m : MemReq) (write : Bool) (s : State) :
    (sendAnswer m write s).freeCtr = s.freeCtr := rfl
@[simp] theorem sendAnswer_dev (m : MemReq) (write : Bool) (s : State) :
    (sendAnswer m write s).dev = s.dev := rfl
@[simp] theorem sendAnswer_regs (m : MemReq) (write : Bool) (s : State) :
    (sendAnswer m write s).regs = s.regs := rfl
@[simp] theorem sendAnswer_straps (m : MemReq) (write : Bool) (s : State) :
    (sendAnswer m write s).straps = s.straps := rfl
@[simp] theorem sendAnswer_ex (m : MemReq) (write : Bool) (s : State) :
    (sendAnswer m write s).ex = s.ex := rfl
@[simp] theorem sendAnswer_sites (m : MemReq) (write : Bool) (s : State) :
    (sendAnswer m write s).sites = s.sites := rfl
@[simp] theorem sendAnswer_siteMap (m : MemReq) (write : Bool) (s : State) :
    (sendAnswer m write s).siteMap = s.siteMap := rfl
@[simp] theorem sendAnswer_links (m : MemReq) (write : Bool) (s : State) :
    (sendAnswer m write s).links = s.links := rfl
@[simp] theorem sendAnswer_dieErrors (m : MemReq) (write : Bool) (s : State) :
    (sendAnswer m write s).dieErrors = s.dieErrors := rfl
@[simp] theorem sendAnswer_pho (m : MemReq) (write : Bool) (s : State) :
    (sendAnswer m write s).pho = s.pho := rfl
@[simp] theorem sendAnswer_fab (m : MemReq) (write : Bool) (s : State) :
    (sendAnswer m write s).fab = s.fab := rfl
@[simp] theorem sendAnswer_col (m : MemReq) (write : Bool) (s : State) :
    (sendAnswer m write s).col = s.col := rfl
@[simp] theorem sendAnswer_res (m : MemReq) (write : Bool) (s : State) :
    (sendAnswer m write s).res = s.res := rfl
@[simp] theorem sendAnswer_ring (m : MemReq) (write : Bool) (s : State) :
    (sendAnswer m write s).ring = s.ring := rfl
@[simp] theorem sendAnswer_sec (m : MemReq) (write : Bool) (s : State) :
    (sendAnswer m write s).sec = s.sec := rfl
@[simp] theorem sendAnswer_pwr (m : MemReq) (write : Bool) (s : State) :
    (sendAnswer m write s).pwr = s.pwr := rfl
@[simp] theorem sendAnswer_test (m : MemReq) (write : Bool) (s : State) :
    (sendAnswer m write s).test = s.test := rfl

/-! ### withStackDir -/

@[simp] theorem withStackDir_pending (cd : Nat) (port : Nat) (toBase : Bool) (d : StackDir) (s : State) :
    (withStackDir cd port toBase d s).pending = s.pending := rfl
@[simp] theorem withStackDir_sent (cd : Nat) (port : Nat) (toBase : Bool) (d : StackDir) (s : State) :
    (withStackDir cd port toBase d s).sent = s.sent := rfl
@[simp] theorem withStackDir_freeCtr (cd : Nat) (port : Nat) (toBase : Bool) (d : StackDir) (s : State) :
    (withStackDir cd port toBase d s).freeCtr = s.freeCtr := rfl
@[simp] theorem withStackDir_dev (cd : Nat) (port : Nat) (toBase : Bool) (d : StackDir) (s : State) :
    (withStackDir cd port toBase d s).dev = s.dev := rfl
@[simp] theorem withStackDir_regs (cd : Nat) (port : Nat) (toBase : Bool) (d : StackDir) (s : State) :
    (withStackDir cd port toBase d s).regs = s.regs := rfl
@[simp] theorem withStackDir_straps (cd : Nat) (port : Nat) (toBase : Bool) (d : StackDir) (s : State) :
    (withStackDir cd port toBase d s).straps = s.straps := rfl
@[simp] theorem withStackDir_ex (cd : Nat) (port : Nat) (toBase : Bool) (d : StackDir) (s : State) :
    (withStackDir cd port toBase d s).ex = s.ex := rfl
@[simp] theorem withStackDir_sites (cd : Nat) (port : Nat) (toBase : Bool) (d : StackDir) (s : State) :
    (withStackDir cd port toBase d s).sites = s.sites := rfl
@[simp] theorem withStackDir_siteMap (cd : Nat) (port : Nat) (toBase : Bool) (d : StackDir) (s : State) :
    (withStackDir cd port toBase d s).siteMap = s.siteMap := rfl
@[simp] theorem withStackDir_links (cd : Nat) (port : Nat) (toBase : Bool) (d : StackDir) (s : State) :
    (withStackDir cd port toBase d s).links = s.links := rfl
@[simp] theorem withStackDir_dieErrors (cd : Nat) (port : Nat) (toBase : Bool) (d : StackDir) (s : State) :
    (withStackDir cd port toBase d s).dieErrors = s.dieErrors := rfl
@[simp] theorem withStackDir_pho (cd : Nat) (port : Nat) (toBase : Bool) (d : StackDir) (s : State) :
    (withStackDir cd port toBase d s).pho = s.pho := rfl
@[simp] theorem withStackDir_fab (cd : Nat) (port : Nat) (toBase : Bool) (d : StackDir) (s : State) :
    (withStackDir cd port toBase d s).fab = s.fab := rfl
@[simp] theorem withStackDir_col (cd : Nat) (port : Nat) (toBase : Bool) (d : StackDir) (s : State) :
    (withStackDir cd port toBase d s).col = s.col := rfl
@[simp] theorem withStackDir_res (cd : Nat) (port : Nat) (toBase : Bool) (d : StackDir) (s : State) :
    (withStackDir cd port toBase d s).res = s.res := rfl
@[simp] theorem withStackDir_ring (cd : Nat) (port : Nat) (toBase : Bool) (d : StackDir) (s : State) :
    (withStackDir cd port toBase d s).ring = s.ring := rfl
@[simp] theorem withStackDir_sec (cd : Nat) (port : Nat) (toBase : Bool) (d : StackDir) (s : State) :
    (withStackDir cd port toBase d s).sec = s.sec := rfl
@[simp] theorem withStackDir_pwr (cd : Nat) (port : Nat) (toBase : Bool) (d : StackDir) (s : State) :
    (withStackDir cd port toBase d s).pwr = s.pwr := rfl
@[simp] theorem withStackDir_test (cd : Nat) (port : Nat) (toBase : Bool) (d : StackDir) (s : State) :
    (withStackDir cd port toBase d s).test = s.test := rfl

/-! ### putPart -/

@[simp] theorem putPart_pending (p : PartMsg) (s : State) :
    (putPart p s).pending = s.pending := rfl
@[simp] theorem putPart_sent (p : PartMsg) (s : State) :
    (putPart p s).sent = s.sent := rfl
@[simp] theorem putPart_freeCtr (p : PartMsg) (s : State) :
    (putPart p s).freeCtr = s.freeCtr := rfl
@[simp] theorem putPart_dev (p : PartMsg) (s : State) :
    (putPart p s).dev = s.dev := rfl
@[simp] theorem putPart_regs (p : PartMsg) (s : State) :
    (putPart p s).regs = s.regs := rfl
@[simp] theorem putPart_straps (p : PartMsg) (s : State) :
    (putPart p s).straps = s.straps := rfl
@[simp] theorem putPart_ex (p : PartMsg) (s : State) :
    (putPart p s).ex = s.ex := rfl
@[simp] theorem putPart_sites (p : PartMsg) (s : State) :
    (putPart p s).sites = s.sites := rfl
@[simp] theorem putPart_siteMap (p : PartMsg) (s : State) :
    (putPart p s).siteMap = s.siteMap := rfl
@[simp] theorem putPart_mem (p : PartMsg) (s : State) :
    (putPart p s).mem = s.mem := rfl
@[simp] theorem putPart_links (p : PartMsg) (s : State) :
    (putPart p s).links = s.links := rfl
@[simp] theorem putPart_dieErrors (p : PartMsg) (s : State) :
    (putPart p s).dieErrors = s.dieErrors := rfl
@[simp] theorem putPart_pho (p : PartMsg) (s : State) :
    (putPart p s).pho = s.pho := rfl
@[simp] theorem putPart_fab (p : PartMsg) (s : State) :
    (putPart p s).fab = s.fab := rfl
@[simp] theorem putPart_col (p : PartMsg) (s : State) :
    (putPart p s).col = s.col := rfl
@[simp] theorem putPart_res (p : PartMsg) (s : State) :
    (putPart p s).res = s.res := rfl
@[simp] theorem putPart_sec (p : PartMsg) (s : State) :
    (putPart p s).sec = s.sec := rfl
@[simp] theorem putPart_pwr (p : PartMsg) (s : State) :
    (putPart p s).pwr = s.pwr := rfl
@[simp] theorem putPart_test (p : PartMsg) (s : State) :
    (putPart p s).test = s.test := rfl

/-! ### dropPart -/

@[simp] theorem dropPart_pending (src : Nat) (sess : Nat) (msg : Nat) (s : State) :
    (dropPart src sess msg s).pending = s.pending := rfl
@[simp] theorem dropPart_sent (src : Nat) (sess : Nat) (msg : Nat) (s : State) :
    (dropPart src sess msg s).sent = s.sent := rfl
@[simp] theorem dropPart_freeCtr (src : Nat) (sess : Nat) (msg : Nat) (s : State) :
    (dropPart src sess msg s).freeCtr = s.freeCtr := rfl
@[simp] theorem dropPart_dev (src : Nat) (sess : Nat) (msg : Nat) (s : State) :
    (dropPart src sess msg s).dev = s.dev := rfl
@[simp] theorem dropPart_regs (src : Nat) (sess : Nat) (msg : Nat) (s : State) :
    (dropPart src sess msg s).regs = s.regs := rfl
@[simp] theorem dropPart_straps (src : Nat) (sess : Nat) (msg : Nat) (s : State) :
    (dropPart src sess msg s).straps = s.straps := rfl
@[simp] theorem dropPart_ex (src : Nat) (sess : Nat) (msg : Nat) (s : State) :
    (dropPart src sess msg s).ex = s.ex := rfl
@[simp] theorem dropPart_sites (src : Nat) (sess : Nat) (msg : Nat) (s : State) :
    (dropPart src sess msg s).sites = s.sites := rfl
@[simp] theorem dropPart_siteMap (src : Nat) (sess : Nat) (msg : Nat) (s : State) :
    (dropPart src sess msg s).siteMap = s.siteMap := rfl
@[simp] theorem dropPart_mem (src : Nat) (sess : Nat) (msg : Nat) (s : State) :
    (dropPart src sess msg s).mem = s.mem := rfl
@[simp] theorem dropPart_links (src : Nat) (sess : Nat) (msg : Nat) (s : State) :
    (dropPart src sess msg s).links = s.links := rfl
@[simp] theorem dropPart_dieErrors (src : Nat) (sess : Nat) (msg : Nat) (s : State) :
    (dropPart src sess msg s).dieErrors = s.dieErrors := rfl
@[simp] theorem dropPart_pho (src : Nat) (sess : Nat) (msg : Nat) (s : State) :
    (dropPart src sess msg s).pho = s.pho := rfl
@[simp] theorem dropPart_fab (src : Nat) (sess : Nat) (msg : Nat) (s : State) :
    (dropPart src sess msg s).fab = s.fab := rfl
@[simp] theorem dropPart_col (src : Nat) (sess : Nat) (msg : Nat) (s : State) :
    (dropPart src sess msg s).col = s.col := rfl
@[simp] theorem dropPart_res (src : Nat) (sess : Nat) (msg : Nat) (s : State) :
    (dropPart src sess msg s).res = s.res := rfl
@[simp] theorem dropPart_sec (src : Nat) (sess : Nat) (msg : Nat) (s : State) :
    (dropPart src sess msg s).sec = s.sec := rfl
@[simp] theorem dropPart_pwr (src : Nat) (sess : Nat) (msg : Nat) (s : State) :
    (dropPart src sess msg s).pwr = s.pwr := rfl
@[simp] theorem dropPart_test (src : Nat) (sess : Nat) (msg : Nat) (s : State) :
    (dropPart src sess msg s).test = s.test := rfl

/-! ### putInbox -/

@[simp] theorem putInbox_pending (p : PartMsg) (s : State) :
    (putInbox p s).pending = s.pending := rfl
@[simp] theorem putInbox_sent (p : PartMsg) (s : State) :
    (putInbox p s).sent = s.sent := rfl
@[simp] theorem putInbox_freeCtr (p : PartMsg) (s : State) :
    (putInbox p s).freeCtr = s.freeCtr := rfl
@[simp] theorem putInbox_dev (p : PartMsg) (s : State) :
    (putInbox p s).dev = s.dev := rfl
@[simp] theorem putInbox_regs (p : PartMsg) (s : State) :
    (putInbox p s).regs = s.regs := rfl
@[simp] theorem putInbox_straps (p : PartMsg) (s : State) :
    (putInbox p s).straps = s.straps := rfl
@[simp] theorem putInbox_ex (p : PartMsg) (s : State) :
    (putInbox p s).ex = s.ex := rfl
@[simp] theorem putInbox_sites (p : PartMsg) (s : State) :
    (putInbox p s).sites = s.sites := rfl
@[simp] theorem putInbox_siteMap (p : PartMsg) (s : State) :
    (putInbox p s).siteMap = s.siteMap := rfl
@[simp] theorem putInbox_mem (p : PartMsg) (s : State) :
    (putInbox p s).mem = s.mem := rfl
@[simp] theorem putInbox_links (p : PartMsg) (s : State) :
    (putInbox p s).links = s.links := rfl
@[simp] theorem putInbox_dieErrors (p : PartMsg) (s : State) :
    (putInbox p s).dieErrors = s.dieErrors := rfl
@[simp] theorem putInbox_pho (p : PartMsg) (s : State) :
    (putInbox p s).pho = s.pho := rfl
@[simp] theorem putInbox_fab (p : PartMsg) (s : State) :
    (putInbox p s).fab = s.fab := rfl
@[simp] theorem putInbox_col (p : PartMsg) (s : State) :
    (putInbox p s).col = s.col := rfl
@[simp] theorem putInbox_res (p : PartMsg) (s : State) :
    (putInbox p s).res = s.res := rfl
@[simp] theorem putInbox_sec (p : PartMsg) (s : State) :
    (putInbox p s).sec = s.sec := rfl
@[simp] theorem putInbox_pwr (p : PartMsg) (s : State) :
    (putInbox p s).pwr = s.pwr := rfl
@[simp] theorem putInbox_test (p : PartMsg) (s : State) :
    (putInbox p s).test = s.test := rfl

/-! ### putTransfer -/

@[simp] theorem putTransfer_pending (t : Transfer) (s : State) :
    (putTransfer t s).pending = s.pending := rfl
@[simp] theorem putTransfer_sent (t : Transfer) (s : State) :
    (putTransfer t s).sent = s.sent := rfl
@[simp] theorem putTransfer_freeCtr (t : Transfer) (s : State) :
    (putTransfer t s).freeCtr = s.freeCtr := rfl
@[simp] theorem putTransfer_dev (t : Transfer) (s : State) :
    (putTransfer t s).dev = s.dev := rfl
@[simp] theorem putTransfer_regs (t : Transfer) (s : State) :
    (putTransfer t s).regs = s.regs := rfl
@[simp] theorem putTransfer_straps (t : Transfer) (s : State) :
    (putTransfer t s).straps = s.straps := rfl
@[simp] theorem putTransfer_ex (t : Transfer) (s : State) :
    (putTransfer t s).ex = s.ex := rfl
@[simp] theorem putTransfer_sites (t : Transfer) (s : State) :
    (putTransfer t s).sites = s.sites := rfl
@[simp] theorem putTransfer_siteMap (t : Transfer) (s : State) :
    (putTransfer t s).siteMap = s.siteMap := rfl
@[simp] theorem putTransfer_mem (t : Transfer) (s : State) :
    (putTransfer t s).mem = s.mem := rfl
@[simp] theorem putTransfer_links (t : Transfer) (s : State) :
    (putTransfer t s).links = s.links := rfl
@[simp] theorem putTransfer_dieErrors (t : Transfer) (s : State) :
    (putTransfer t s).dieErrors = s.dieErrors := rfl
@[simp] theorem putTransfer_pho (t : Transfer) (s : State) :
    (putTransfer t s).pho = s.pho := rfl
@[simp] theorem putTransfer_fab (t : Transfer) (s : State) :
    (putTransfer t s).fab = s.fab := rfl
@[simp] theorem putTransfer_col (t : Transfer) (s : State) :
    (putTransfer t s).col = s.col := rfl
@[simp] theorem putTransfer_res (t : Transfer) (s : State) :
    (putTransfer t s).res = s.res := rfl
@[simp] theorem putTransfer_sec (t : Transfer) (s : State) :
    (putTransfer t s).sec = s.sec := rfl
@[simp] theorem putTransfer_pwr (t : Transfer) (s : State) :
    (putTransfer t s).pwr = s.pwr := rfl
@[simp] theorem putTransfer_test (t : Transfer) (s : State) :
    (putTransfer t s).test = s.test := rfl

/-! ### dropTransfer -/

@[simp] theorem dropTransfer_pending (t : Transfer) (s : State) :
    (dropTransfer t s).pending = s.pending := rfl
@[simp] theorem dropTransfer_sent (t : Transfer) (s : State) :
    (dropTransfer t s).sent = s.sent := rfl
@[simp] theorem dropTransfer_freeCtr (t : Transfer) (s : State) :
    (dropTransfer t s).freeCtr = s.freeCtr := rfl
@[simp] theorem dropTransfer_dev (t : Transfer) (s : State) :
    (dropTransfer t s).dev = s.dev := rfl
@[simp] theorem dropTransfer_regs (t : Transfer) (s : State) :
    (dropTransfer t s).regs = s.regs := rfl
@[simp] theorem dropTransfer_straps (t : Transfer) (s : State) :
    (dropTransfer t s).straps = s.straps := rfl
@[simp] theorem dropTransfer_ex (t : Transfer) (s : State) :
    (dropTransfer t s).ex = s.ex := rfl
@[simp] theorem dropTransfer_sites (t : Transfer) (s : State) :
    (dropTransfer t s).sites = s.sites := rfl
@[simp] theorem dropTransfer_siteMap (t : Transfer) (s : State) :
    (dropTransfer t s).siteMap = s.siteMap := rfl
@[simp] theorem dropTransfer_mem (t : Transfer) (s : State) :
    (dropTransfer t s).mem = s.mem := rfl
@[simp] theorem dropTransfer_links (t : Transfer) (s : State) :
    (dropTransfer t s).links = s.links := rfl
@[simp] theorem dropTransfer_dieErrors (t : Transfer) (s : State) :
    (dropTransfer t s).dieErrors = s.dieErrors := rfl
@[simp] theorem dropTransfer_pho (t : Transfer) (s : State) :
    (dropTransfer t s).pho = s.pho := rfl
@[simp] theorem dropTransfer_fab (t : Transfer) (s : State) :
    (dropTransfer t s).fab = s.fab := rfl
@[simp] theorem dropTransfer_col (t : Transfer) (s : State) :
    (dropTransfer t s).col = s.col := rfl
@[simp] theorem dropTransfer_res (t : Transfer) (s : State) :
    (dropTransfer t s).res = s.res := rfl
@[simp] theorem dropTransfer_sec (t : Transfer) (s : State) :
    (dropTransfer t s).sec = s.sec := rfl
@[simp] theorem dropTransfer_pwr (t : Transfer) (s : State) :
    (dropTransfer t s).pwr = s.pwr := rfl
@[simp] theorem dropTransfer_test (t : Transfer) (s : State) :
    (dropTransfer t s).test = s.test := rfl

/-! ### withSeq -/

@[simp] theorem withSeq_pending (half : Nat) (core : Nat) (q : Seq) (s : State) :
    (withSeq half core q s).pending = s.pending := rfl
@[simp] theorem withSeq_sent (half : Nat) (core : Nat) (q : Seq) (s : State) :
    (withSeq half core q s).sent = s.sent := rfl
@[simp] theorem withSeq_freeCtr (half : Nat) (core : Nat) (q : Seq) (s : State) :
    (withSeq half core q s).freeCtr = s.freeCtr := rfl
@[simp] theorem withSeq_dev (half : Nat) (core : Nat) (q : Seq) (s : State) :
    (withSeq half core q s).dev = s.dev := rfl
@[simp] theorem withSeq_regs (half : Nat) (core : Nat) (q : Seq) (s : State) :
    (withSeq half core q s).regs = s.regs := rfl
@[simp] theorem withSeq_straps (half : Nat) (core : Nat) (q : Seq) (s : State) :
    (withSeq half core q s).straps = s.straps := rfl
@[simp] theorem withSeq_sites (half : Nat) (core : Nat) (q : Seq) (s : State) :
    (withSeq half core q s).sites = s.sites := rfl
@[simp] theorem withSeq_siteMap (half : Nat) (core : Nat) (q : Seq) (s : State) :
    (withSeq half core q s).siteMap = s.siteMap := rfl
@[simp] theorem withSeq_mem (half : Nat) (core : Nat) (q : Seq) (s : State) :
    (withSeq half core q s).mem = s.mem := rfl
@[simp] theorem withSeq_links (half : Nat) (core : Nat) (q : Seq) (s : State) :
    (withSeq half core q s).links = s.links := rfl
@[simp] theorem withSeq_dieErrors (half : Nat) (core : Nat) (q : Seq) (s : State) :
    (withSeq half core q s).dieErrors = s.dieErrors := rfl
@[simp] theorem withSeq_pho (half : Nat) (core : Nat) (q : Seq) (s : State) :
    (withSeq half core q s).pho = s.pho := rfl
@[simp] theorem withSeq_fab (half : Nat) (core : Nat) (q : Seq) (s : State) :
    (withSeq half core q s).fab = s.fab := rfl
@[simp] theorem withSeq_col (half : Nat) (core : Nat) (q : Seq) (s : State) :
    (withSeq half core q s).col = s.col := rfl
@[simp] theorem withSeq_res (half : Nat) (core : Nat) (q : Seq) (s : State) :
    (withSeq half core q s).res = s.res := rfl
@[simp] theorem withSeq_ring (half : Nat) (core : Nat) (q : Seq) (s : State) :
    (withSeq half core q s).ring = s.ring := rfl
@[simp] theorem withSeq_sec (half : Nat) (core : Nat) (q : Seq) (s : State) :
    (withSeq half core q s).sec = s.sec := rfl
@[simp] theorem withSeq_pwr (half : Nat) (core : Nat) (q : Seq) (s : State) :
    (withSeq half core q s).pwr = s.pwr := rfl
@[simp] theorem withSeq_test (half : Nat) (core : Nat) (q : Seq) (s : State) :
    (withSeq half core q s).test = s.test := rfl

/-! ### withFab -/

@[simp] theorem withFab_pending (f : Fabric → Fabric) (s : State) :
    (withFab f s).pending = s.pending := rfl
@[simp] theorem withFab_sent (f : Fabric → Fabric) (s : State) :
    (withFab f s).sent = s.sent := rfl
@[simp] theorem withFab_freeCtr (f : Fabric → Fabric) (s : State) :
    (withFab f s).freeCtr = s.freeCtr := rfl
@[simp] theorem withFab_dev (f : Fabric → Fabric) (s : State) :
    (withFab f s).dev = s.dev := rfl
@[simp] theorem withFab_regs (f : Fabric → Fabric) (s : State) :
    (withFab f s).regs = s.regs := rfl
@[simp] theorem withFab_straps (f : Fabric → Fabric) (s : State) :
    (withFab f s).straps = s.straps := rfl
@[simp] theorem withFab_ex (f : Fabric → Fabric) (s : State) :
    (withFab f s).ex = s.ex := rfl
@[simp] theorem withFab_sites (f : Fabric → Fabric) (s : State) :
    (withFab f s).sites = s.sites := rfl
@[simp] theorem withFab_siteMap (f : Fabric → Fabric) (s : State) :
    (withFab f s).siteMap = s.siteMap := rfl
@[simp] theorem withFab_mem (f : Fabric → Fabric) (s : State) :
    (withFab f s).mem = s.mem := rfl
@[simp] theorem withFab_links (f : Fabric → Fabric) (s : State) :
    (withFab f s).links = s.links := rfl
@[simp] theorem withFab_dieErrors (f : Fabric → Fabric) (s : State) :
    (withFab f s).dieErrors = s.dieErrors := rfl
@[simp] theorem withFab_pho (f : Fabric → Fabric) (s : State) :
    (withFab f s).pho = s.pho := rfl
@[simp] theorem withFab_col (f : Fabric → Fabric) (s : State) :
    (withFab f s).col = s.col := rfl
@[simp] theorem withFab_res (f : Fabric → Fabric) (s : State) :
    (withFab f s).res = s.res := rfl
@[simp] theorem withFab_ring (f : Fabric → Fabric) (s : State) :
    (withFab f s).ring = s.ring := rfl
@[simp] theorem withFab_sec (f : Fabric → Fabric) (s : State) :
    (withFab f s).sec = s.sec := rfl
@[simp] theorem withFab_pwr (f : Fabric → Fabric) (s : State) :
    (withFab f s).pwr = s.pwr := rfl
@[simp] theorem withFab_test (f : Fabric → Fabric) (s : State) :
    (withFab f s).test = s.test := rfl

/-! ### withEngine -/

@[simp] theorem withEngine_pending (k : Nat) (x : Engine) (s : State) :
    (withEngine k x s).pending = s.pending := rfl
@[simp] theorem withEngine_sent (k : Nat) (x : Engine) (s : State) :
    (withEngine k x s).sent = s.sent := rfl
@[simp] theorem withEngine_freeCtr (k : Nat) (x : Engine) (s : State) :
    (withEngine k x s).freeCtr = s.freeCtr := rfl
@[simp] theorem withEngine_dev (k : Nat) (x : Engine) (s : State) :
    (withEngine k x s).dev = s.dev := rfl
@[simp] theorem withEngine_regs (k : Nat) (x : Engine) (s : State) :
    (withEngine k x s).regs = s.regs := rfl
@[simp] theorem withEngine_straps (k : Nat) (x : Engine) (s : State) :
    (withEngine k x s).straps = s.straps := rfl
@[simp] theorem withEngine_sites (k : Nat) (x : Engine) (s : State) :
    (withEngine k x s).sites = s.sites := rfl
@[simp] theorem withEngine_siteMap (k : Nat) (x : Engine) (s : State) :
    (withEngine k x s).siteMap = s.siteMap := rfl
@[simp] theorem withEngine_mem (k : Nat) (x : Engine) (s : State) :
    (withEngine k x s).mem = s.mem := rfl
@[simp] theorem withEngine_links (k : Nat) (x : Engine) (s : State) :
    (withEngine k x s).links = s.links := rfl
@[simp] theorem withEngine_dieErrors (k : Nat) (x : Engine) (s : State) :
    (withEngine k x s).dieErrors = s.dieErrors := rfl
@[simp] theorem withEngine_pho (k : Nat) (x : Engine) (s : State) :
    (withEngine k x s).pho = s.pho := rfl
@[simp] theorem withEngine_fab (k : Nat) (x : Engine) (s : State) :
    (withEngine k x s).fab = s.fab := rfl
@[simp] theorem withEngine_col (k : Nat) (x : Engine) (s : State) :
    (withEngine k x s).col = s.col := rfl
@[simp] theorem withEngine_res (k : Nat) (x : Engine) (s : State) :
    (withEngine k x s).res = s.res := rfl
@[simp] theorem withEngine_ring (k : Nat) (x : Engine) (s : State) :
    (withEngine k x s).ring = s.ring := rfl
@[simp] theorem withEngine_sec (k : Nat) (x : Engine) (s : State) :
    (withEngine k x s).sec = s.sec := rfl
@[simp] theorem withEngine_pwr (k : Nat) (x : Engine) (s : State) :
    (withEngine k x s).pwr = s.pwr := rfl
@[simp] theorem withEngine_test (k : Nat) (x : Engine) (s : State) :
    (withEngine k x s).test = s.test := rfl

/-! ### withStream -/

@[simp] theorem withStream_pending (i : Nat) (x : StreamRun) (s : State) :
    (withStream i x s).pending = s.pending := rfl
@[simp] theorem withStream_sent (i : Nat) (x : StreamRun) (s : State) :
    (withStream i x s).sent = s.sent := rfl
@[simp] theorem withStream_freeCtr (i : Nat) (x : StreamRun) (s : State) :
    (withStream i x s).freeCtr = s.freeCtr := rfl
@[simp] theorem withStream_dev (i : Nat) (x : StreamRun) (s : State) :
    (withStream i x s).dev = s.dev := rfl
@[simp] theorem withStream_regs (i : Nat) (x : StreamRun) (s : State) :
    (withStream i x s).regs = s.regs := rfl
@[simp] theorem withStream_straps (i : Nat) (x : StreamRun) (s : State) :
    (withStream i x s).straps = s.straps := rfl
@[simp] theorem withStream_sites (i : Nat) (x : StreamRun) (s : State) :
    (withStream i x s).sites = s.sites := rfl
@[simp] theorem withStream_siteMap (i : Nat) (x : StreamRun) (s : State) :
    (withStream i x s).siteMap = s.siteMap := rfl
@[simp] theorem withStream_mem (i : Nat) (x : StreamRun) (s : State) :
    (withStream i x s).mem = s.mem := rfl
@[simp] theorem withStream_links (i : Nat) (x : StreamRun) (s : State) :
    (withStream i x s).links = s.links := rfl
@[simp] theorem withStream_dieErrors (i : Nat) (x : StreamRun) (s : State) :
    (withStream i x s).dieErrors = s.dieErrors := rfl
@[simp] theorem withStream_pho (i : Nat) (x : StreamRun) (s : State) :
    (withStream i x s).pho = s.pho := rfl
@[simp] theorem withStream_fab (i : Nat) (x : StreamRun) (s : State) :
    (withStream i x s).fab = s.fab := rfl
@[simp] theorem withStream_col (i : Nat) (x : StreamRun) (s : State) :
    (withStream i x s).col = s.col := rfl
@[simp] theorem withStream_res (i : Nat) (x : StreamRun) (s : State) :
    (withStream i x s).res = s.res := rfl
@[simp] theorem withStream_ring (i : Nat) (x : StreamRun) (s : State) :
    (withStream i x s).ring = s.ring := rfl
@[simp] theorem withStream_sec (i : Nat) (x : StreamRun) (s : State) :
    (withStream i x s).sec = s.sec := rfl
@[simp] theorem withStream_pwr (i : Nat) (x : StreamRun) (s : State) :
    (withStream i x s).pwr = s.pwr := rfl
@[simp] theorem withStream_test (i : Nat) (x : StreamRun) (s : State) :
    (withStream i x s).test = s.test := rfl

/-! ### withCol -/

@[simp] theorem withCol_pending (f : Collectives → Collectives) (s : State) :
    (withCol f s).pending = s.pending := rfl
@[simp] theorem withCol_sent (f : Collectives → Collectives) (s : State) :
    (withCol f s).sent = s.sent := rfl
@[simp] theorem withCol_freeCtr (f : Collectives → Collectives) (s : State) :
    (withCol f s).freeCtr = s.freeCtr := rfl
@[simp] theorem withCol_dev (f : Collectives → Collectives) (s : State) :
    (withCol f s).dev = s.dev := rfl
@[simp] theorem withCol_regs (f : Collectives → Collectives) (s : State) :
    (withCol f s).regs = s.regs := rfl
@[simp] theorem withCol_straps (f : Collectives → Collectives) (s : State) :
    (withCol f s).straps = s.straps := rfl
@[simp] theorem withCol_ex (f : Collectives → Collectives) (s : State) :
    (withCol f s).ex = s.ex := rfl
@[simp] theorem withCol_sites (f : Collectives → Collectives) (s : State) :
    (withCol f s).sites = s.sites := rfl
@[simp] theorem withCol_siteMap (f : Collectives → Collectives) (s : State) :
    (withCol f s).siteMap = s.siteMap := rfl
@[simp] theorem withCol_mem (f : Collectives → Collectives) (s : State) :
    (withCol f s).mem = s.mem := rfl
@[simp] theorem withCol_links (f : Collectives → Collectives) (s : State) :
    (withCol f s).links = s.links := rfl
@[simp] theorem withCol_dieErrors (f : Collectives → Collectives) (s : State) :
    (withCol f s).dieErrors = s.dieErrors := rfl
@[simp] theorem withCol_pho (f : Collectives → Collectives) (s : State) :
    (withCol f s).pho = s.pho := rfl
@[simp] theorem withCol_fab (f : Collectives → Collectives) (s : State) :
    (withCol f s).fab = s.fab := rfl
@[simp] theorem withCol_res (f : Collectives → Collectives) (s : State) :
    (withCol f s).res = s.res := rfl
@[simp] theorem withCol_ring (f : Collectives → Collectives) (s : State) :
    (withCol f s).ring = s.ring := rfl
@[simp] theorem withCol_sec (f : Collectives → Collectives) (s : State) :
    (withCol f s).sec = s.sec := rfl
@[simp] theorem withCol_pwr (f : Collectives → Collectives) (s : State) :
    (withCol f s).pwr = s.pwr := rfl
@[simp] theorem withCol_test (f : Collectives → Collectives) (s : State) :
    (withCol f s).test = s.test := rfl

/-! ### pllTake -/

@[simp] theorem pllTake_pending (subs : List Nat) (s : State) :
    (pllTake subs s).pending = s.pending := rfl
@[simp] theorem pllTake_sent (subs : List Nat) (s : State) :
    (pllTake subs s).sent = s.sent := rfl
@[simp] theorem pllTake_freeCtr (subs : List Nat) (s : State) :
    (pllTake subs s).freeCtr = s.freeCtr := rfl
@[simp] theorem pllTake_dev (subs : List Nat) (s : State) :
    (pllTake subs s).dev = s.dev := rfl
@[simp] theorem pllTake_regs (subs : List Nat) (s : State) :
    (pllTake subs s).regs = s.regs := rfl
@[simp] theorem pllTake_straps (subs : List Nat) (s : State) :
    (pllTake subs s).straps = s.straps := rfl
@[simp] theorem pllTake_ex (subs : List Nat) (s : State) :
    (pllTake subs s).ex = s.ex := rfl
@[simp] theorem pllTake_sites (subs : List Nat) (s : State) :
    (pllTake subs s).sites = s.sites := rfl
@[simp] theorem pllTake_siteMap (subs : List Nat) (s : State) :
    (pllTake subs s).siteMap = s.siteMap := rfl
@[simp] theorem pllTake_mem (subs : List Nat) (s : State) :
    (pllTake subs s).mem = s.mem := rfl
@[simp] theorem pllTake_links (subs : List Nat) (s : State) :
    (pllTake subs s).links = s.links := rfl
@[simp] theorem pllTake_dieErrors (subs : List Nat) (s : State) :
    (pllTake subs s).dieErrors = s.dieErrors := rfl
@[simp] theorem pllTake_pho (subs : List Nat) (s : State) :
    (pllTake subs s).pho = s.pho := rfl
@[simp] theorem pllTake_fab (subs : List Nat) (s : State) :
    (pllTake subs s).fab = s.fab := rfl
@[simp] theorem pllTake_col (subs : List Nat) (s : State) :
    (pllTake subs s).col = s.col := rfl
@[simp] theorem pllTake_res (subs : List Nat) (s : State) :
    (pllTake subs s).res = s.res := rfl
@[simp] theorem pllTake_ring (subs : List Nat) (s : State) :
    (pllTake subs s).ring = s.ring := rfl
@[simp] theorem pllTake_sec (subs : List Nat) (s : State) :
    (pllTake subs s).sec = s.sec := rfl
@[simp] theorem pllTake_test (subs : List Nat) (s : State) :
    (pllTake subs s).test = s.test := rfl

/-! ### withLink -/

@[simp] theorem withLink_pending (k : Nat) (l : QlLink) (s : State) :
    (withLink k l s).pending = s.pending := rfl
@[simp] theorem withLink_sent (k : Nat) (l : QlLink) (s : State) :
    (withLink k l s).sent = s.sent := rfl
@[simp] theorem withLink_freeCtr (k : Nat) (l : QlLink) (s : State) :
    (withLink k l s).freeCtr = s.freeCtr := rfl
@[simp] theorem withLink_dev (k : Nat) (l : QlLink) (s : State) :
    (withLink k l s).dev = s.dev := rfl
@[simp] theorem withLink_regs (k : Nat) (l : QlLink) (s : State) :
    (withLink k l s).regs = s.regs := rfl
@[simp] theorem withLink_straps (k : Nat) (l : QlLink) (s : State) :
    (withLink k l s).straps = s.straps := rfl
@[simp] theorem withLink_ex (k : Nat) (l : QlLink) (s : State) :
    (withLink k l s).ex = s.ex := rfl
@[simp] theorem withLink_sites (k : Nat) (l : QlLink) (s : State) :
    (withLink k l s).sites = s.sites := rfl
@[simp] theorem withLink_siteMap (k : Nat) (l : QlLink) (s : State) :
    (withLink k l s).siteMap = s.siteMap := rfl
@[simp] theorem withLink_mem (k : Nat) (l : QlLink) (s : State) :
    (withLink k l s).mem = s.mem := rfl
@[simp] theorem withLink_dieErrors (k : Nat) (l : QlLink) (s : State) :
    (withLink k l s).dieErrors = s.dieErrors := rfl
@[simp] theorem withLink_pho (k : Nat) (l : QlLink) (s : State) :
    (withLink k l s).pho = s.pho := rfl
@[simp] theorem withLink_fab (k : Nat) (l : QlLink) (s : State) :
    (withLink k l s).fab = s.fab := rfl
@[simp] theorem withLink_col (k : Nat) (l : QlLink) (s : State) :
    (withLink k l s).col = s.col := rfl
@[simp] theorem withLink_res (k : Nat) (l : QlLink) (s : State) :
    (withLink k l s).res = s.res := rfl
@[simp] theorem withLink_ring (k : Nat) (l : QlLink) (s : State) :
    (withLink k l s).ring = s.ring := rfl
@[simp] theorem withLink_sec (k : Nat) (l : QlLink) (s : State) :
    (withLink k l s).sec = s.sec := rfl
@[simp] theorem withLink_pwr (k : Nat) (l : QlLink) (s : State) :
    (withLink k l s).pwr = s.pwr := rfl
@[simp] theorem withLink_test (k : Nat) (l : QlLink) (s : State) :
    (withLink k l s).test = s.test := rfl

/-! ### withPho -/

@[simp] theorem withPho_pending (f : Photonics → Photonics) (s : State) :
    (withPho f s).pending = s.pending := rfl
@[simp] theorem withPho_sent (f : Photonics → Photonics) (s : State) :
    (withPho f s).sent = s.sent := rfl
@[simp] theorem withPho_freeCtr (f : Photonics → Photonics) (s : State) :
    (withPho f s).freeCtr = s.freeCtr := rfl
@[simp] theorem withPho_dev (f : Photonics → Photonics) (s : State) :
    (withPho f s).dev = s.dev := rfl
@[simp] theorem withPho_regs (f : Photonics → Photonics) (s : State) :
    (withPho f s).regs = s.regs := rfl
@[simp] theorem withPho_straps (f : Photonics → Photonics) (s : State) :
    (withPho f s).straps = s.straps := rfl
@[simp] theorem withPho_ex (f : Photonics → Photonics) (s : State) :
    (withPho f s).ex = s.ex := rfl
@[simp] theorem withPho_sites (f : Photonics → Photonics) (s : State) :
    (withPho f s).sites = s.sites := rfl
@[simp] theorem withPho_siteMap (f : Photonics → Photonics) (s : State) :
    (withPho f s).siteMap = s.siteMap := rfl
@[simp] theorem withPho_mem (f : Photonics → Photonics) (s : State) :
    (withPho f s).mem = s.mem := rfl
@[simp] theorem withPho_links (f : Photonics → Photonics) (s : State) :
    (withPho f s).links = s.links := rfl
@[simp] theorem withPho_dieErrors (f : Photonics → Photonics) (s : State) :
    (withPho f s).dieErrors = s.dieErrors := rfl
@[simp] theorem withPho_fab (f : Photonics → Photonics) (s : State) :
    (withPho f s).fab = s.fab := rfl
@[simp] theorem withPho_col (f : Photonics → Photonics) (s : State) :
    (withPho f s).col = s.col := rfl
@[simp] theorem withPho_res (f : Photonics → Photonics) (s : State) :
    (withPho f s).res = s.res := rfl
@[simp] theorem withPho_ring (f : Photonics → Photonics) (s : State) :
    (withPho f s).ring = s.ring := rfl
@[simp] theorem withPho_sec (f : Photonics → Photonics) (s : State) :
    (withPho f s).sec = s.sec := rfl
@[simp] theorem withPho_pwr (f : Photonics → Photonics) (s : State) :
    (withPho f s).pwr = s.pwr := rfl
@[simp] theorem withPho_test (f : Photonics → Photonics) (s : State) :
    (withPho f s).test = s.test := rfl

/-! ### closeSoon -/

@[simp] theorem closeSoon_pending (s : State) :
    (closeSoon s).pending = s.pending := rfl
@[simp] theorem closeSoon_sent (s : State) :
    (closeSoon s).sent = s.sent := rfl
@[simp] theorem closeSoon_freeCtr (s : State) :
    (closeSoon s).freeCtr = s.freeCtr := rfl
@[simp] theorem closeSoon_dev (s : State) :
    (closeSoon s).dev = s.dev := rfl
@[simp] theorem closeSoon_regs (s : State) :
    (closeSoon s).regs = s.regs := rfl
@[simp] theorem closeSoon_straps (s : State) :
    (closeSoon s).straps = s.straps := rfl
@[simp] theorem closeSoon_ex (s : State) :
    (closeSoon s).ex = s.ex := rfl
@[simp] theorem closeSoon_sites (s : State) :
    (closeSoon s).sites = s.sites := rfl
@[simp] theorem closeSoon_siteMap (s : State) :
    (closeSoon s).siteMap = s.siteMap := rfl
@[simp] theorem closeSoon_mem (s : State) :
    (closeSoon s).mem = s.mem := rfl
@[simp] theorem closeSoon_links (s : State) :
    (closeSoon s).links = s.links := rfl
@[simp] theorem closeSoon_dieErrors (s : State) :
    (closeSoon s).dieErrors = s.dieErrors := rfl
@[simp] theorem closeSoon_pho (s : State) :
    (closeSoon s).pho = s.pho := rfl
@[simp] theorem closeSoon_fab (s : State) :
    (closeSoon s).fab = s.fab := rfl
@[simp] theorem closeSoon_col (s : State) :
    (closeSoon s).col = s.col := rfl
@[simp] theorem closeSoon_res (s : State) :
    (closeSoon s).res = s.res := rfl
@[simp] theorem closeSoon_sec (s : State) :
    (closeSoon s).sec = s.sec := rfl
@[simp] theorem closeSoon_pwr (s : State) :
    (closeSoon s).pwr = s.pwr := rfl
@[simp] theorem closeSoon_test (s : State) :
    (closeSoon s).test = s.test := rfl

/-! ### deriveParcelKey -/

@[simp] theorem deriveParcelKey_pending (point : Nat) (s : State) :
    (deriveParcelKey point s).pending = s.pending := rfl
@[simp] theorem deriveParcelKey_sent (point : Nat) (s : State) :
    (deriveParcelKey point s).sent = s.sent := rfl
@[simp] theorem deriveParcelKey_freeCtr (point : Nat) (s : State) :
    (deriveParcelKey point s).freeCtr = s.freeCtr := rfl
@[simp] theorem deriveParcelKey_dev (point : Nat) (s : State) :
    (deriveParcelKey point s).dev = s.dev := rfl
@[simp] theorem deriveParcelKey_regs (point : Nat) (s : State) :
    (deriveParcelKey point s).regs = s.regs := rfl
@[simp] theorem deriveParcelKey_straps (point : Nat) (s : State) :
    (deriveParcelKey point s).straps = s.straps := rfl
@[simp] theorem deriveParcelKey_ex (point : Nat) (s : State) :
    (deriveParcelKey point s).ex = s.ex := rfl
@[simp] theorem deriveParcelKey_sites (point : Nat) (s : State) :
    (deriveParcelKey point s).sites = s.sites := rfl
@[simp] theorem deriveParcelKey_siteMap (point : Nat) (s : State) :
    (deriveParcelKey point s).siteMap = s.siteMap := rfl
@[simp] theorem deriveParcelKey_mem (point : Nat) (s : State) :
    (deriveParcelKey point s).mem = s.mem := rfl
@[simp] theorem deriveParcelKey_links (point : Nat) (s : State) :
    (deriveParcelKey point s).links = s.links := rfl
@[simp] theorem deriveParcelKey_dieErrors (point : Nat) (s : State) :
    (deriveParcelKey point s).dieErrors = s.dieErrors := rfl
@[simp] theorem deriveParcelKey_pho (point : Nat) (s : State) :
    (deriveParcelKey point s).pho = s.pho := rfl
@[simp] theorem deriveParcelKey_col (point : Nat) (s : State) :
    (deriveParcelKey point s).col = s.col := rfl
@[simp] theorem deriveParcelKey_res (point : Nat) (s : State) :
    (deriveParcelKey point s).res = s.res := rfl
@[simp] theorem deriveParcelKey_ring (point : Nat) (s : State) :
    (deriveParcelKey point s).ring = s.ring := rfl
@[simp] theorem deriveParcelKey_sec (point : Nat) (s : State) :
    (deriveParcelKey point s).sec = s.sec := rfl
@[simp] theorem deriveParcelKey_pwr (point : Nat) (s : State) :
    (deriveParcelKey point s).pwr = s.pwr := rfl
@[simp] theorem deriveParcelKey_test (point : Nat) (s : State) :
    (deriveParcelKey point s).test = s.test := rfl

/-! ### withChan -/

@[simp] theorem withChan_pending (c : Nat) (x : BulkChan) (s : State) :
    (withChan c x s).pending = s.pending := rfl
@[simp] theorem withChan_sent (c : Nat) (x : BulkChan) (s : State) :
    (withChan c x s).sent = s.sent := rfl
@[simp] theorem withChan_freeCtr (c : Nat) (x : BulkChan) (s : State) :
    (withChan c x s).freeCtr = s.freeCtr := rfl
@[simp] theorem withChan_dev (c : Nat) (x : BulkChan) (s : State) :
    (withChan c x s).dev = s.dev := rfl
@[simp] theorem withChan_regs (c : Nat) (x : BulkChan) (s : State) :
    (withChan c x s).regs = s.regs := rfl
@[simp] theorem withChan_straps (c : Nat) (x : BulkChan) (s : State) :
    (withChan c x s).straps = s.straps := rfl
@[simp] theorem withChan_ex (c : Nat) (x : BulkChan) (s : State) :
    (withChan c x s).ex = s.ex := rfl
@[simp] theorem withChan_sites (c : Nat) (x : BulkChan) (s : State) :
    (withChan c x s).sites = s.sites := rfl
@[simp] theorem withChan_siteMap (c : Nat) (x : BulkChan) (s : State) :
    (withChan c x s).siteMap = s.siteMap := rfl
@[simp] theorem withChan_mem (c : Nat) (x : BulkChan) (s : State) :
    (withChan c x s).mem = s.mem := rfl
@[simp] theorem withChan_links (c : Nat) (x : BulkChan) (s : State) :
    (withChan c x s).links = s.links := rfl
@[simp] theorem withChan_dieErrors (c : Nat) (x : BulkChan) (s : State) :
    (withChan c x s).dieErrors = s.dieErrors := rfl
@[simp] theorem withChan_pho (c : Nat) (x : BulkChan) (s : State) :
    (withChan c x s).pho = s.pho := rfl
@[simp] theorem withChan_fab (c : Nat) (x : BulkChan) (s : State) :
    (withChan c x s).fab = s.fab := rfl
@[simp] theorem withChan_col (c : Nat) (x : BulkChan) (s : State) :
    (withChan c x s).col = s.col := rfl
@[simp] theorem withChan_res (c : Nat) (x : BulkChan) (s : State) :
    (withChan c x s).res = s.res := rfl
@[simp] theorem withChan_sec (c : Nat) (x : BulkChan) (s : State) :
    (withChan c x s).sec = s.sec := rfl
@[simp] theorem withChan_pwr (c : Nat) (x : BulkChan) (s : State) :
    (withChan c x s).pwr = s.pwr := rfl
@[simp] theorem withChan_test (c : Nat) (x : BulkChan) (s : State) :
    (withChan c x s).test = s.test := rfl

/-! ### withHeld -/

@[simp] theorem withHeld_pending (l : List HeldCopy) (s : State) :
    (withHeld l s).pending = s.pending := rfl
@[simp] theorem withHeld_sent (l : List HeldCopy) (s : State) :
    (withHeld l s).sent = s.sent := rfl
@[simp] theorem withHeld_freeCtr (l : List HeldCopy) (s : State) :
    (withHeld l s).freeCtr = s.freeCtr := rfl
@[simp] theorem withHeld_dev (l : List HeldCopy) (s : State) :
    (withHeld l s).dev = s.dev := rfl
@[simp] theorem withHeld_regs (l : List HeldCopy) (s : State) :
    (withHeld l s).regs = s.regs := rfl
@[simp] theorem withHeld_straps (l : List HeldCopy) (s : State) :
    (withHeld l s).straps = s.straps := rfl
@[simp] theorem withHeld_ex (l : List HeldCopy) (s : State) :
    (withHeld l s).ex = s.ex := rfl
@[simp] theorem withHeld_sites (l : List HeldCopy) (s : State) :
    (withHeld l s).sites = s.sites := rfl
@[simp] theorem withHeld_siteMap (l : List HeldCopy) (s : State) :
    (withHeld l s).siteMap = s.siteMap := rfl
@[simp] theorem withHeld_mem (l : List HeldCopy) (s : State) :
    (withHeld l s).mem = s.mem := rfl
@[simp] theorem withHeld_links (l : List HeldCopy) (s : State) :
    (withHeld l s).links = s.links := rfl
@[simp] theorem withHeld_dieErrors (l : List HeldCopy) (s : State) :
    (withHeld l s).dieErrors = s.dieErrors := rfl
@[simp] theorem withHeld_pho (l : List HeldCopy) (s : State) :
    (withHeld l s).pho = s.pho := rfl
@[simp] theorem withHeld_fab (l : List HeldCopy) (s : State) :
    (withHeld l s).fab = s.fab := rfl
@[simp] theorem withHeld_col (l : List HeldCopy) (s : State) :
    (withHeld l s).col = s.col := rfl
@[simp] theorem withHeld_ring (l : List HeldCopy) (s : State) :
    (withHeld l s).ring = s.ring := rfl
@[simp] theorem withHeld_sec (l : List HeldCopy) (s : State) :
    (withHeld l s).sec = s.sec := rfl
@[simp] theorem withHeld_pwr (l : List HeldCopy) (s : State) :
    (withHeld l s).pwr = s.pwr := rfl
@[simp] theorem withHeld_test (l : List HeldCopy) (s : State) :
    (withHeld l s).test = s.test := rfl

/-! ### takeMsg -/

@[simp] theorem takeMsg_pending (typ : Nat) (sess : Nat) (s : State) :
    (takeMsg typ sess s).pending = s.pending := rfl
@[simp] theorem takeMsg_sent (typ : Nat) (sess : Nat) (s : State) :
    (takeMsg typ sess s).sent = s.sent := rfl
@[simp] theorem takeMsg_freeCtr (typ : Nat) (sess : Nat) (s : State) :
    (takeMsg typ sess s).freeCtr = s.freeCtr := rfl
@[simp] theorem takeMsg_dev (typ : Nat) (sess : Nat) (s : State) :
    (takeMsg typ sess s).dev = s.dev := rfl
@[simp] theorem takeMsg_regs (typ : Nat) (sess : Nat) (s : State) :
    (takeMsg typ sess s).regs = s.regs := rfl
@[simp] theorem takeMsg_straps (typ : Nat) (sess : Nat) (s : State) :
    (takeMsg typ sess s).straps = s.straps := rfl
@[simp] theorem takeMsg_ex (typ : Nat) (sess : Nat) (s : State) :
    (takeMsg typ sess s).ex = s.ex := rfl
@[simp] theorem takeMsg_sites (typ : Nat) (sess : Nat) (s : State) :
    (takeMsg typ sess s).sites = s.sites := rfl
@[simp] theorem takeMsg_siteMap (typ : Nat) (sess : Nat) (s : State) :
    (takeMsg typ sess s).siteMap = s.siteMap := rfl
@[simp] theorem takeMsg_mem (typ : Nat) (sess : Nat) (s : State) :
    (takeMsg typ sess s).mem = s.mem := rfl
@[simp] theorem takeMsg_links (typ : Nat) (sess : Nat) (s : State) :
    (takeMsg typ sess s).links = s.links := rfl
@[simp] theorem takeMsg_dieErrors (typ : Nat) (sess : Nat) (s : State) :
    (takeMsg typ sess s).dieErrors = s.dieErrors := rfl
@[simp] theorem takeMsg_pho (typ : Nat) (sess : Nat) (s : State) :
    (takeMsg typ sess s).pho = s.pho := rfl
@[simp] theorem takeMsg_fab (typ : Nat) (sess : Nat) (s : State) :
    (takeMsg typ sess s).fab = s.fab := rfl
@[simp] theorem takeMsg_col (typ : Nat) (sess : Nat) (s : State) :
    (takeMsg typ sess s).col = s.col := rfl
@[simp] theorem takeMsg_res (typ : Nat) (sess : Nat) (s : State) :
    (takeMsg typ sess s).res = s.res := rfl
@[simp] theorem takeMsg_sec (typ : Nat) (sess : Nat) (s : State) :
    (takeMsg typ sess s).sec = s.sec := rfl
@[simp] theorem takeMsg_pwr (typ : Nat) (sess : Nat) (s : State) :
    (takeMsg typ sess s).pwr = s.pwr := rfl
@[simp] theorem takeMsg_test (typ : Nat) (sess : Nat) (s : State) :
    (takeMsg typ sess s).test = s.test := rfl

/-! ### What is read back -/

theorem fresh_sent (s : State) : (fresh s).sent = [] := rfl
theorem emit_sent (o : Output) (s : State) : (emit o s).sent = s.sent ++ [o] := rfl
@[simp] theorem drawn_freeCtr (s : State) : (drawn s).freeCtr = s.freeCtr + 1 := rfl

theorem keyOf_inj {i j k l : Nat} (hj : j < 256) (hl : l < 256) (h : keyOf i j = keyOf k l) : i = k ∧ j = l := by
  unfold keyOf at h
  omega

theorem keyOf_index {i j k l : Nat} (h : keyOf i j = keyOf k l) : i = k := by
  unfold keyOf at h
  omega

@[simp] theorem rg_withRg_same (i j v : Nat) (s : State) : rg (withRg i j v s) i j = v := by
  simp [rg, withRg]

theorem rg_withRg_other {i j k l : Nat} (v : Nat) (s : State) (h : keyOf k l ≠ keyOf i j) :
    rg (withRg i j v s) k l = rg s k l := by
  unfold rg withRg
  dsimp only
  unfold set_ at_
  split
  · rw [lookup_without_other _ _ _ h]
  · rw [lookup_put_other _ _ _ _ h]

@[simp] theorem sessOf_withSess_same (n : Nat) (x : Session) (s : State) : sessOf (withSess n x s) n = x := by
  simp [sessOf, withSess]

theorem sessOf_withSess_other {n k : Nat} (x : Session) (s : State) (h : k ≠ n) :
    sessOf (withSess n x s) k = sessOf s k := by
  unfold sessOf withSess
  exact at_set_other _ _ _ _ _ h

@[simp] theorem stackOf_withStack_same (k : Nat) (x : Stack) (s : State) : stackOf (withStack k x s) k = x := by
  simp [stackOf, withStack]

theorem stackOf_withStack_other {n k : Nat} (x : Stack) (s : State) (h : k ≠ n) :
    stackOf (withStack n x s) k = stackOf s k := by
  unfold stackOf withStack
  exact at_set_other _ _ _ _ _ h

@[simp] theorem linkOf_withLink_same (k : Nat) (x : QlLink) (s : State) : linkOf (withLink k x s) k = x := by
  simp [linkOf, withLink]

theorem linkOf_withLink_other {n k : Nat} (x : QlLink) (s : State) (h : k ≠ n) :
    linkOf (withLink n x s) k = linkOf s k := by
  unfold linkOf withLink
  exact at_set_other _ _ _ _ _ h

@[simp] theorem siteAt_withSite_same (k : Nat) (x : Site) (s : State) : siteAt (withSite k x s) k = x := by
  simp [siteAt, withSite]

theorem siteAt_withSite_other {n k : Nat} (x : Site) (s : State) (h : k ≠ n) :
    siteAt (withSite n x s) k = siteAt s k := by
  unfold siteAt withSite
  exact at_set_other _ _ _ _ _ h

@[simp] theorem halfTest_withHalf_same (k : Nat) (x : HalfTest) (s : State) : halfTest (withHalf k x s) k = x := by
  simp [halfTest, withHalf]

@[simp] theorem engineOf_withEngine_same (k : Nat) (x : Engine) (s : State) : engineOf (withEngine k x s) k = x := by
  simp [engineOf, withEngine]

@[simp] theorem streamOf_withStream_same (k : Nat) (x : StreamRun) (s : State) : streamOf (withStream k x s) k = x := by
  simp [streamOf, withStream]

@[simp] theorem chanOf_withChan_same (k : Nat) (x : BulkChan) (s : State) : chanOf (withChan k x s) k = x := by
  simp [chanOf, withChan]

/-! ### One part out of a frame -/

theorem Keeps.pending {m : Nat} {s t : State} (h : Keeps m s t) (hm : m.testBit 0 = true) : t.pending = s.pending := by
  unfold Keeps at h
  exact h.1 hm
theorem Keeps.sent {m : Nat} {s t : State} (h : Keeps m s t) (hm : m.testBit 1 = true) : t.sent = s.sent := by
  unfold Keeps at h
  exact h.2.1 hm
theorem Keeps.freeCtr {m : Nat} {s t : State} (h : Keeps m s t) (hm : m.testBit 2 = true) : t.freeCtr = s.freeCtr := by
  unfold Keeps at h
  exact h.2.2.1 hm
theorem Keeps.dev {m : Nat} {s t : State} (h : Keeps m s t) (hm : m.testBit 3 = true) : t.dev = s.dev := by
  unfold Keeps at h
  exact h.2.2.2.1 hm
theorem Keeps.regs {m : Nat} {s t : State} (h : Keeps m s t) (hm : m.testBit 4 = true) : t.regs = s.regs := by
  unfold Keeps at h
  exact h.2.2.2.2.1 hm
theorem Keeps.straps {m : Nat} {s t : State} (h : Keeps m s t) (hm : m.testBit 5 = true) : t.straps = s.straps := by
  unfold Keeps at h
  exact h.2.2.2.2.2.1 hm
theorem Keeps.ex {m : Nat} {s t : State} (h : Keeps m s t) (hm : m.testBit 6 = true) : t.ex = s.ex := by
  unfold Keeps at h
  exact h.2.2.2.2.2.2.1 hm
theorem Keeps.sites {m : Nat} {s t : State} (h : Keeps m s t) (hm : m.testBit 7 = true) : t.sites = s.sites := by
  unfold Keeps at h
  exact h.2.2.2.2.2.2.2.1 hm
theorem Keeps.siteMap {m : Nat} {s t : State} (h : Keeps m s t) (hm : m.testBit 8 = true) : t.siteMap = s.siteMap := by
  unfold Keeps at h
  exact h.2.2.2.2.2.2.2.2.1 hm
theorem Keeps.mem {m : Nat} {s t : State} (h : Keeps m s t) (hm : m.testBit 9 = true) : t.mem = s.mem := by
  unfold Keeps at h
  exact h.2.2.2.2.2.2.2.2.2.1 hm
theorem Keeps.links {m : Nat} {s t : State} (h : Keeps m s t) (hm : m.testBit 10 = true) : t.links = s.links := by
  unfold Keeps at h
  exact h.2.2.2.2.2.2.2.2.2.2.1 hm
theorem Keeps.dieErrors {m : Nat} {s t : State} (h : Keeps m s t) (hm : m.testBit 11 = true) : t.dieErrors = s.dieErrors := by
  unfold Keeps at h
  exact h.2.2.2.2.2.2.2.2.2.2.2.1 hm
theorem Keeps.pho {m : Nat} {s t : State} (h : Keeps m s t) (hm : m.testBit 12 = true) : t.pho = s.pho := by
  unfold Keeps at h
  exact h.2.2.2.2.2.2.2.2.2.2.2.2.1 hm
theorem Keeps.fab {m : Nat} {s t : State} (h : Keeps m s t) (hm : m.testBit 13 = true) : t.fab = s.fab := by
  unfold Keeps at h
  exact h.2.2.2.2.2.2.2.2.2.2.2.2.2.1 hm
theorem Keeps.col {m : Nat} {s t : State} (h : Keeps m s t) (hm : m.testBit 14 = true) : t.col = s.col := by
  unfold Keeps at h
  exact h.2.2.2.2.2.2.2.2.2.2.2.2.2.2.1 hm
theorem Keeps.res {m : Nat} {s t : State} (h : Keeps m s t) (hm : m.testBit 15 = true) : t.res = s.res := by
  unfold Keeps at h
  exact h.2.2.2.2.2.2.2.2.2.2.2.2.2.2.2.1 hm
theorem Keeps.ring {m : Nat} {s t : State} (h : Keeps m s t) (hm : m.testBit 16 = true) : t.ring = s.ring := by
  unfold Keeps at h
  exact h.2.2.2.2.2.2.2.2.2.2.2.2.2.2.2.2.1 hm
theorem Keeps.sec {m : Nat} {s t : State} (h : Keeps m s t) (hm : m.testBit 17 = true) : t.sec = s.sec := by
  unfold Keeps at h
  exact h.2.2.2.2.2.2.2.2.2.2.2.2.2.2.2.2.2.1 hm
theorem Keeps.pwr {m : Nat} {s t : State} (h : Keeps m s t) (hm : m.testBit 18 = true) : t.pwr = s.pwr := by
  unfold Keeps at h
  exact h.2.2.2.2.2.2.2.2.2.2.2.2.2.2.2.2.2.2.1 hm
theorem Keeps.test {m : Nat} {s t : State} (h : Keeps m s t) (hm : m.testBit 19 = true) : t.test = s.test := by
  unfold Keeps at h
  exact h.2.2.2.2.2.2.2.2.2.2.2.2.2.2.2.2.2.2.2 hm

end Sys2Proof.Machine
end

