-- ==== Sys2Proof/Laws/Lists.lean ====
section
/-! SUPPORT. The cores' lists, the granules spent, the copy engines and the streams, which the effect of a crumb and
the sending of its outputs leave alone: one lemma per operation. -/

namespace Sys2Proof.Machine

theorem listsOf_of_ex {s t : State} (h : t.ex = s.ex) : listsOf t = listsOf s := by
  unfold listsOf
  rw [h]

@[simp] theorem listsOf_set {u : State} (a0) (a1) (a2) (a3) (a4) (a5) (a7) (a8) (a9) (a10) (a11) (a12) (a13) (a14) (a15) (a16) (a17) (a18) (a19) :
    listsOf (State.mk a0 a1 a2 a3 a4 a5 u.ex a7 a8 a9 a10 a11 a12 a13 a14 a15 a16 a17 a18 a19) = listsOf u := rfl

@[simp] theorem listsOf_foldl {α : Type} (f : State → α → State) (h : ∀ u e, listsOf (f u e) = listsOf u) (l : List α) (s : State) :
    listsOf (l.foldl f s) = listsOf s := by
  induction l generalizing s with
  | nil => rfl
  | cons a t ih => rw [List.foldl_cons, ih, h]

@[simp] theorem onScore_listsOf (s : State) (f : Score → State → State) (h : ∀ sc u, listsOf (f sc u) = listsOf u) :
    listsOf (onScore s f) = listsOf s := by
  unfold onScore
  split
  · exact h _ _
  · rfl

@[simp] theorem ifTagged_listsOf (tag : Nat) (f : State → State) (s : State) (h : ∀ u, listsOf (f u) = listsOf u) :
    listsOf (ifTagged tag f s) = listsOf s := by
  unfold ifTagged
  split
  · exact h _
  · exact listsOf_of_ex rfl

@[simp] theorem stepDataError_listsOf (cause : W32) (late : State → State) (s : State)
    (h : ∀ u, listsOf (late u) = listsOf u) : listsOf (stepDataError cause late s) = listsOf s := by
  unfold stepDataError
  dsimp only
  split
  · rfl
  · split
    · rfl
    · rw [h]; rfl

@[simp] theorem listsOf_ite (c : Prop) [Decidable c] (a b : State) :
    listsOf (if c then a else b) = if c then listsOf a else listsOf b := by
  split <;> rfl

@[simp] theorem withHalf_listsOf (half : Nat) (t1 : HalfTest) (s : State) : listsOf (withHalf half t1 s) = listsOf s :=
  listsOf_of_ex (Keeps.ex ((withHalf_keeps (m := 524287) (s0 := s) half t1 s (by decide)).mpr (Keeps.refl _ _)) (by decide))

@[simp] theorem withSite_listsOf (key : Nat) (x : Site) (s : State) : listsOf (withSite key x s) = listsOf s :=
  listsOf_of_ex (Keeps.ex ((withSite_keeps (m := 1048447) (s0 := s) key x s (by decide)).mpr (Keeps.refl _ _)) (by decide))

@[simp] theorem zeroSite_listsOf (half : Nat) (site : Nat) (s : State) : listsOf (zeroSite half site s) = listsOf s :=
  listsOf_of_ex (Keeps.ex ((zeroSite_keeps (m := 1048447) (s0 := s) half site s (by decide)).mpr (Keeps.refl _ _)) (by decide))

@[simp] theorem returnCore_listsOf (half : Nat) (s : State) : listsOf (returnCore half s) = listsOf s :=
  listsOf_of_ex (Keeps.ex ((returnCore_keeps (m := 523903) (s0 := s) half s (by decide)).mpr (Keeps.refl _ _)) (by decide))

@[simp] theorem abandonTest_listsOf (s : State) (half : Nat) : listsOf (abandonTest s half) = listsOf s :=
  listsOf_of_ex (Keeps.ex ((abandonTest_keeps (m := 523903) (s0 := s) s half (by decide)).mpr (Keeps.refl _ _)) (by decide))

@[simp] theorem abandonTests_listsOf (s : State) : listsOf (abandonTests s) = listsOf s :=
  listsOf_of_ex (Keeps.ex ((abandonTests_keeps (m := 523903) (s0 := s) s (by decide)).mpr (Keeps.refl _ _)) (by decide))

@[simp] theorem fresh_listsOf (s : State) : listsOf (fresh s) = listsOf s :=
  listsOf_of_ex (Keeps.ex ((fresh_keeps (m := 1048573) (s0 := s) s (by decide)).mpr (Keeps.refl _ _)) (by decide))

@[simp] theorem emit_listsOf (o : Output) (s : State) : listsOf (emit o s) = listsOf s :=
  listsOf_of_ex (Keeps.ex ((emit_keeps (m := 1048573) (s0 := s) o s (by decide)).mpr (Keeps.refl _ _)) (by decide))

@[simp] theorem drawn_listsOf (s : State) : listsOf (drawn s) = listsOf s :=
  listsOf_of_ex (Keeps.ex ((drawn_keeps (m := 1048571) (s0 := s) s (by decide)).mpr (Keeps.refl _ _)) (by decide))

@[simp] theorem withRg_listsOf (idx : Nat) (sub : Nat) (v : Nat) (s : State) : listsOf (withRg idx sub v s) = listsOf s :=
  listsOf_of_ex (Keeps.ex ((withRg_keeps (m := 1048559) (s0 := s) idx sub v s (by decide)).mpr (Keeps.refl _ _)) (by decide))

@[simp] theorem bump_listsOf (idx : Nat) (sub : Nat) (n : Nat) (s : State) : listsOf (bump idx sub n s) = listsOf s :=
  listsOf_of_ex (Keeps.ex ((bump_keeps (m := 1048559) (s0 := s) idx sub n s (by decide)).mpr (Keeps.refl _ _)) (by decide))

@[simp] theorem withSess_listsOf (n : Nat) (x : Session) (s : State) : listsOf (withSess n x s) = listsOf s :=
  listsOf_of_ex (Keeps.ex ((withSess_keeps (m := 917503) (s0 := s) n x s (by decide)).mpr (Keeps.refl _ _)) (by decide))

@[simp] theorem raiseFor_listsOf (aud : Nat) (code : Nat) (payload : Bytes) (s : State) : listsOf (raiseFor aud code payload s) = listsOf s :=
  listsOf_of_ex (Keeps.ex ((raiseFor_keeps (m := 983023) (s0 := s) aud code payload s (by decide)).mpr (Keeps.refl _ _)) (by decide))

@[simp] theorem raise_listsOf (aud : Nat) (code : Nat) (payload : Bytes) (s : State) : listsOf (raise aud code payload s) = listsOf s :=
  listsOf_of_ex (Keeps.ex ((raise_keeps (m := 983023) (s0 := s) aud code payload s (by decide)).mpr (Keeps.refl _ _)) (by decide))

@[simp] theorem exportIfDue_listsOf (s : State) : listsOf (exportIfDue s) = listsOf s :=
  listsOf_of_ex (Keeps.ex ((exportIfDue_keeps (m := 851951) (s0 := s) s (by decide)).mpr (Keeps.refl _ _)) (by decide))

@[simp] theorem auditDigest_listsOf (sess : Nat) (idx : Nat) (sub : Nat) (kind : Nat) (keyed : Bool) (len : Nat) (digest : BitVec 384) (s : State) : listsOf (auditDigest sess idx sub kind keyed len digest s) = listsOf s :=
  listsOf_of_ex (Keeps.ex ((auditDigest_keeps (m := 851951) (s0 := s) sess idx sub kind keyed len digest s (by decide)).mpr (Keeps.refl _ _)) (by decide))

@[simp] theorem audit_listsOf (sess : Nat) (idx : Nat) (sub : Nat) (kind : Nat) (keyed : Bool) (value : Bytes) (s : State) : listsOf (audit sess idx sub kind keyed value s) = listsOf s :=
  listsOf_of_ex (Keeps.ex ((audit_keeps (m := 851951) (s0 := s) sess idx sub kind keyed value s (by decide)).mpr (Keeps.refl _ _)) (by decide))

@[simp] theorem countReject_listsOf (origin : W256) (s : State) : listsOf (countReject origin s) = listsOf s :=
  listsOf_of_ex (Keeps.ex ((countReject_keeps (m := 917487) (s0 := s) origin s (by decide)).mpr (Keeps.refl _ _)) (by decide))

@[simp] theorem noteHead_listsOf (q : Req) (h1 : Bytes) (s : State) : listsOf (noteHead q h1 s) = listsOf s :=
  listsOf_of_ex (Keeps.ex ((noteHead_keeps (m := 917503) (s0 := s) q h1 s (by decide)).mpr (Keeps.refl _ _)) (by decide))

@[simp] theorem noteCommand_listsOf (q : Req) (command : Nat) (idx : Nat) (sub : Nat) (s : State) : listsOf (noteCommand q command idx sub s) = listsOf s :=
  listsOf_of_ex (Keeps.ex ((noteCommand_keeps (m := 917503) (s0 := s) q command idx sub s (by decide)).mpr (Keeps.refl _ _)) (by decide))

@[simp] theorem queueOut_listsOf (o : Output) (s : State) : listsOf (queueOut o s) = listsOf s :=
  listsOf_of_ex (Keeps.ex ((queueOut_keeps (m := 983039) (s0 := s) o s (by decide)).mpr (Keeps.refl _ _)) (by decide))

@[simp] theorem sendRing_listsOf (o : Output) (s : State) : listsOf (sendRing o s) = listsOf s :=
  listsOf_of_ex (Keeps.ex ((sendRing_keeps (m := 983037) (s0 := s) o s (by decide)).mpr (Keeps.refl _ _)) (by decide))

@[simp] theorem completed_listsOf (q : Req) (code : W32) (data : Bytes) (s : State) : listsOf (completed q code data s) = listsOf s :=
  listsOf_of_ex (Keeps.ex ((completed_keeps (m := 917503) (s0 := s) q code data s (by decide)).mpr (Keeps.refl _ _)) (by decide))

@[simp] theorem respond_listsOf (q : Req) (code : Nat) (data : Bytes) (s : State) : listsOf (respond q code data s) = listsOf s :=
  listsOf_of_ex (Keeps.ex ((respond_keeps (m := 851965) (s0 := s) q code data s (by decide)).mpr (Keeps.refl _ _)) (by decide))

@[simp] theorem rejectReq_listsOf (q : Req) (code : Nat) (s : State) : listsOf (rejectReq q code s) = listsOf s :=
  listsOf_of_ex (Keeps.ex ((rejectReq_keeps (m := 851949) (s0 := s) q code s (by decide)).mpr (Keeps.refl _ _)) (by decide))

@[simp] theorem auditWrite_listsOf (q : Req) (idx : Nat) (sub : Nat) (value : Bytes) (s : State) : listsOf (auditWrite q idx sub value s) = listsOf s :=
  listsOf_of_ex (Keeps.ex ((auditWrite_keeps (m := 851951) (s0 := s) q idx sub value s (by decide)).mpr (Keeps.refl _ _)) (by decide))

@[simp] theorem forgetRange_listsOf (a : Nat) (n : Nat) (s : State) : listsOf (forgetRange a n s) = listsOf s :=
  listsOf_of_ex (Keeps.ex ((forgetRange_keeps (m := 1048063) (s0 := s) a n s (by decide)).mpr (Keeps.refl _ _)) (by decide))

@[simp] theorem addPend_listsOf (k : PendKind) (q : Req) (s : State) : listsOf (addPend k q s) = listsOf s :=
  listsOf_of_ex (Keeps.ex ((addPend_keeps (m := 917503) (s0 := s) k q s (by decide)).mpr (Keeps.refl _ _)) (by decide))

@[simp] theorem dropPend_listsOf (k : PendKind) (s : State) : listsOf (dropPend k s) = listsOf s :=
  listsOf_of_ex (Keeps.ex ((dropPend_keeps (m := 917503) (s0 := s) k s (by decide)).mpr (Keeps.refl _ _)) (by decide))

@[simp] theorem finishPend_listsOf (k : PendKind) (value : Bytes) (s : State) : listsOf (finishPend k value s) = listsOf s :=
  listsOf_of_ex (Keeps.ex ((finishPend_keeps (m := 851949) (s0 := s) k value s (by decide)).mpr (Keeps.refl _ _)) (by decide))

@[simp] theorem failPend_listsOf (k : PendKind) (code : Nat) (s : State) : listsOf (failPend k code s) = listsOf s :=
  listsOf_of_ex (Keeps.ex ((failPend_keeps (m := 851949) (s0 := s) k code s (by decide)).mpr (Keeps.refl _ _)) (by decide))

@[simp] theorem endBlocks_listsOf (s : State) : listsOf (endBlocks s) = listsOf s :=
  listsOf_of_ex (Keeps.ex ((endBlocks_keeps (m := 851949) (s0 := s) s (by decide)).mpr (Keeps.refl _ _)) (by decide))

@[simp] theorem dropHostCopy_listsOf (s : State) : listsOf (dropHostCopy s) = listsOf s :=
  listsOf_of_ex (Keeps.ex ((dropHostCopy_keeps (m := 1048063) (s0 := s) s (by decide)).mpr (Keeps.refl _ _)) (by decide))

@[simp] theorem endPending_listsOf (s : State) : listsOf (endPending s) = listsOf s :=
  listsOf_of_ex (Keeps.ex ((endPending_keeps (m := 818669) (s0 := s) s (by decide)).mpr (Keeps.refl _ _)) (by decide))

@[simp] theorem closeTestPort_listsOf (s : State) : listsOf (closeTestPort s) = listsOf s :=
  listsOf_of_ex (Keeps.ex ((closeTestPort_keeps (m := 262127) (s0 := s) s (by decide)).mpr (Keeps.refl _ _)) (by decide))

@[simp] theorem faultEvent_listsOf (cause : Nat) (kind : Nat) (loc : Bytes) (s : State) : listsOf (faultEvent cause kind loc s) = listsOf s :=
  listsOf_of_ex (Keeps.ex ((faultEvent_keeps (m := 983023) (s0 := s) cause kind loc s (by decide)).mpr (Keeps.refl _ _)) (by decide))

@[simp] theorem clearPoison_listsOf (a : Nat) (n : Nat) (s : State) : listsOf (clearPoison a n s) = listsOf s :=
  listsOf_of_ex (Keeps.ex ((clearPoison_keeps (m := 1048063) (s0 := s) a n s (by decide)).mpr (Keeps.refl _ _)) (by decide))

@[simp] theorem poisonSector_listsOf (a : Nat) (s : State) : listsOf (poisonSector a s) = listsOf s :=
  listsOf_of_ex (Keeps.ex ((poisonSector_keeps (m := 982511) (s0 := s) a s (by decide)).mpr (Keeps.refl _ _)) (by decide))

@[simp] theorem poisonRead_listsOf (a : Nat) (s : State) : listsOf (poisonRead a s) = listsOf s := by
  unfold poisonRead; (repeat' split) <;> simp

@[simp] theorem regSpend_listsOf (q : Nat) (p : Nat) (n : Nat) (s : State) : listsOf (regSpend q p n s) = listsOf s :=
  listsOf_of_ex (Keeps.ex ((regSpend_keeps (m := 1048063) (s0 := s) q p n s (by decide)).mpr (Keeps.refl _ _)) (by decide))

@[simp] theorem regFill_listsOf (q : Nat) (p : Nat) (s : State) : listsOf (regFill q p s) = listsOf s :=
  listsOf_of_ex (Keeps.ex ((regFill_keeps (m := 1048063) (s0 := s) q p s (by decide)).mpr (Keeps.refl _ _)) (by decide))

@[simp] theorem regCharge_listsOf (q : Nat) (p : Nat) (n : Nat) (s : State) : listsOf (regCharge q p n s) = listsOf s :=
  listsOf_of_ex (Keeps.ex ((regCharge_keeps (m := 1048047) (s0 := s) q p n s (by decide)).mpr (Keeps.refl _ _)) (by decide))

@[simp] theorem retireEntry_listsOf (e : WcEntry) (s : State) : listsOf (retireEntry e s) = listsOf s :=
  listsOf_of_ex (Keeps.ex ((retireEntry_keeps (m := 1048047) (s0 := s) e s (by decide)).mpr (Keeps.refl _ _)) (by decide))

@[simp] theorem markRetiring_listsOf (line : Nat) (s : State) : listsOf (markRetiring line s) = listsOf s :=
  listsOf_of_ex (Keeps.ex ((markRetiring_keeps (m := 1048063) (s0 := s) line s (by decide)).mpr (Keeps.refl _ _)) (by decide))

@[simp] theorem retireOrMark_listsOf (e : WcEntry) (s : State) : listsOf (retireOrMark e s) = listsOf s :=
  listsOf_of_ex (Keeps.ex ((retireOrMark_keeps (m := 1048047) (s0 := s) e s (by decide)).mpr (Keeps.refl _ _)) (by decide))

@[simp] theorem retireWaiting_listsOf (s : State) : listsOf (retireWaiting s) = listsOf s :=
  listsOf_of_ex (Keeps.ex ((retireWaiting_keeps (m := 1048047) (s0 := s) s (by decide)).mpr (Keeps.refl _ _)) (by decide))

@[simp] theorem retireAll_listsOf (s : State) : listsOf (retireAll s) = listsOf s :=
  listsOf_of_ex (Keeps.ex ((retireAll_keeps (m := 1048047) (s0 := s) s (by decide)).mpr (Keeps.refl _ _)) (by decide))

@[simp] theorem writeBack_listsOf (line : Nat) (s : State) : listsOf (writeBack line s) = listsOf s :=
  listsOf_of_ex (Keeps.ex ((writeBack_keeps (m := 1048047) (s0 := s) line s (by decide)).mpr (Keeps.refl _ _)) (by decide))

@[simp] theorem writeBackAll_listsOf (s : State) : listsOf (writeBackAll s) = listsOf s :=
  listsOf_of_ex (Keeps.ex ((writeBackAll_keeps (m := 1048047) (s0 := s) s (by decide)).mpr (Keeps.refl _ _)) (by decide))

@[simp] theorem mscEvict_listsOf (line : Nat) (s : State) : listsOf (mscEvict line s) = listsOf s :=
  listsOf_of_ex (Keeps.ex ((mscEvict_keeps (m := 1048047) (s0 := s) line s (by decide)).mpr (Keeps.refl _ _)) (by decide))

@[simp] theorem mscRoom_listsOf (line : Nat) (s : State) : listsOf (mscRoom line s) = listsOf s :=
  listsOf_of_ex (Keeps.ex ((mscRoom_keeps (m := 1048043) (s0 := s) line s (by decide)).mpr (Keeps.refl _ _)) (by decide))

@[simp] theorem mscInstall_listsOf (line : Nat) (l : CacheLine) (s : State) : listsOf (mscInstall line l s) = listsOf s :=
  listsOf_of_ex (Keeps.ex ((mscInstall_keeps (m := 1048043) (s0 := s) line l s (by decide)).mpr (Keeps.refl _ _)) (by decide))

@[simp] theorem makeRoom_listsOf (c : Nat) (s : State) : listsOf (makeRoom c s) = listsOf s :=
  listsOf_of_ex (Keeps.ex ((makeRoom_keeps (m := 1048047) (s0 := s) c s (by decide)).mpr (Keeps.refl _ _)) (by decide))

@[simp] theorem combine_listsOf (m0 : MemReq) (data : Bytes) (s : State) : listsOf (combine m0 data s) = listsOf s :=
  listsOf_of_ex (Keeps.ex ((combine_keeps (m := 1048047) (s0 := s) m0 data s (by decide)).mpr (Keeps.refl _ _)) (by decide))

@[simp] theorem coherentWrite_listsOf (m0 : MemReq) (data : Bytes) (s : State) : listsOf (coherentWrite m0 data s) = listsOf s :=
  listsOf_of_ex (Keeps.ex ((coherentWrite_keeps (m := 1048043) (s0 := s) m0 data s (by decide)).mpr (Keeps.refl _ _)) (by decide))

@[simp] theorem withShLines_listsOf (d : Nat) (line : Nat) (l : List Nat) (s : State) : listsOf (withShLines d line l s) = listsOf s :=
  listsOf_of_ex (Keeps.ex ((withShLines_keeps (m := 1048063) (s0 := s) d line l s (by decide)).mpr (Keeps.refl _ _)) (by decide))

@[simp] theorem shDrop_listsOf (d : Nat) (line : Nat) (s : State) : listsOf (shDrop d line s) = listsOf s :=
  listsOf_of_ex (Keeps.ex ((shDrop_keeps (m := 1048063) (s0 := s) d line s (by decide)).mpr (Keeps.refl _ _)) (by decide))

@[simp] theorem shRoom_listsOf (d : Nat) (line : Nat) (s : State) : listsOf (shRoom d line s) = listsOf s :=
  listsOf_of_ex (Keeps.ex ((shRoom_keeps (m := 1048059) (s0 := s) d line s (by decide)).mpr (Keeps.refl _ _)) (by decide))

@[simp] theorem installLine_listsOf (line : Nat) (d : Nat) (s : State) : listsOf (installLine line d s) = listsOf s :=
  listsOf_of_ex (Keeps.ex ((installLine_keeps (m := 1048059) (s0 := s) line d s (by decide)).mpr (Keeps.refl _ _)) (by decide))

@[simp] theorem invalidate_listsOf (line : Nat) (dies : List Nat) (s : State) : listsOf (invalidate line dies s) = listsOf s :=
  listsOf_of_ex (Keeps.ex ((invalidate_keeps (m := 1048061) (s0 := s) line dies s (by decide)).mpr (Keeps.refl _ _)) (by decide))

@[simp] theorem readLine_listsOf (u : Agent) (line : Nat) (s : State) : listsOf (readLine u line s) = listsOf s :=
  listsOf_of_ex (Keeps.ex ((readLine_keeps (m := 1048043) (s0 := s) u line s (by decide)).mpr (Keeps.refl _ _)) (by decide))

@[simp] theorem readVia_listsOf (u : Agent) (fill : Option Nat) (line : Nat) (s : State) : listsOf (readVia u fill line s) = listsOf s :=
  listsOf_of_ex (Keeps.ex ((readVia_keeps (m := 1048043) (s0 := s) u fill line s (by decide)).mpr (Keeps.refl _ _)) (by decide))

@[simp] theorem readRange_listsOf (u : Agent) (fill : Option Nat) (a : Nat) (n : Nat) (s : State) : listsOf (readRange u fill a n s) = listsOf s :=
  listsOf_of_ex (Keeps.ex ((readRange_keeps (m := 1048043) (s0 := s) u fill a n s (by decide)).mpr (Keeps.refl _ _)) (by decide))

@[simp] theorem writeLine_listsOf (u : Agent) (s : State) (p : Nat × Bytes) : listsOf (writeLine u s p) = listsOf s :=
  listsOf_of_ex (Keeps.ex ((writeLine_keeps (m := 1048041) (s0 := s) u s p (by decide)).mpr (Keeps.refl _ _)) (by decide))

@[simp] theorem storeBytes_listsOf (u : Agent) (a : Nat) (data : Bytes) (s : State) : listsOf (storeBytes u a data s) = listsOf s :=
  listsOf_of_ex (Keeps.ex ((storeBytes_keeps (m := 1048041) (s0 := s) u a data s (by decide)).mpr (Keeps.refl _ _)) (by decide))

@[simp] theorem withStack_listsOf (k : Nat) (x : Stack) (s : State) : listsOf (withStack k x s) = listsOf s :=
  listsOf_of_ex (Keeps.ex ((withStack_keeps (m := 1048063) (s0 := s) k x s (by decide)).mpr (Keeps.refl _ _)) (by decide))

@[simp] theorem discardPacket_listsOf (die : Nat) (ep : Nat) (s : State) : listsOf (discardPacket die ep s) = listsOf s :=
  listsOf_of_ex (Keeps.ex ((discardPacket_keeps (m := 980975) (s0 := s) die ep s (by decide)).mpr (Keeps.refl _ _)) (by decide))

@[simp] theorem receivePackets_listsOf (die : Nat) (ps : List Packet) (s : State) : listsOf (receivePackets die ps s) = listsOf s :=
  listsOf_of_ex (Keeps.ex ((receivePackets_keeps (m := 980975) (s0 := s) die ps s (by decide)).mpr (Keeps.refl _ _)) (by decide))

@[simp] theorem takeInbox_listsOf (q : Req) (s : State) : listsOf (takeInbox q s) = listsOf s :=
  listsOf_of_ex (Keeps.ex ((takeInbox_keeps (m := 851967) (s0 := s) q s (by decide)).mpr (Keeps.refl _ _)) (by decide))

@[simp] theorem beginReq_listsOf (q : Req) (s : State) : listsOf (beginReq q s) = listsOf s :=
  listsOf_of_ex (Keeps.ex ((beginReq_keeps (m := 917503) (s0 := s) q s (by decide)).mpr (Keeps.refl _ _)) (by decide))

@[simp] theorem forwardAccess_listsOf (write : Bool) (idx : Nat) (sub : Nat) (s : State) : listsOf (forwardAccess write idx sub s) = listsOf s :=
  listsOf_of_ex (Keeps.ex ((forwardAccess_keeps (m := 1048573) (s0 := s) write idx sub s (by decide)).mpr (Keeps.refl _ _)) (by decide))

@[simp] theorem withOwnVal_listsOf (sess : Nat) (idx : Nat) (sub : Nat) (v : Nat) (s : State) : listsOf (withOwnVal sess idx sub v s) = listsOf s :=
  listsOf_of_ex (Keeps.ex ((withOwnVal_keeps (m := 917503) (s0 := s) sess idx sub v s (by decide)).mpr (Keeps.refl _ _)) (by decide))

@[simp] theorem cacheBad_listsOf (die : Nat) (ep : Nat) (a : Nat) (s : State) : listsOf (cacheBad die ep a s) = listsOf s :=
  listsOf_of_ex (Keeps.ex ((cacheBad_keeps (m := 982511) (s0 := s) die ep a s (by decide)).mpr (Keeps.refl _ _)) (by decide))

@[simp] theorem applyShared_listsOf (a : Nat) (d : Nat) (e : MemEcc) (s : State) : listsOf (applyShared a d e s) = listsOf s :=
  listsOf_of_ex (Keeps.ex ((applyShared_keeps (m := 982511) (s0 := s) a d e s (by decide)).mpr (Keeps.refl _ _)) (by decide))

@[simp] theorem applySnoop_listsOf (a : Nat) (e : MemEcc) (s : State) : listsOf (applySnoop a e s) = listsOf s :=
  listsOf_of_ex (Keeps.ex ((applySnoop_keeps (m := 1048061) (s0 := s) a e s (by decide)).mpr (Keeps.refl _ _)) (by decide))

@[simp] theorem expectAnswer_listsOf (m0 : MemReq) (write : Bool) (s : State) : listsOf (expectAnswer m0 write s) = listsOf s :=
  listsOf_of_ex (Keeps.ex ((expectAnswer_keeps (m := 1048063) (s0 := s) m0 write s (by decide)).mpr (Keeps.refl _ _)) (by decide))

@[simp] theorem sendAnswer_listsOf (m0 : MemReq) (write : Bool) (s : State) : listsOf (sendAnswer m0 write s) = listsOf s :=
  listsOf_of_ex (Keeps.ex ((sendAnswer_keeps (m := 1048063) (s0 := s) m0 write s (by decide)).mpr (Keeps.refl _ _)) (by decide))

@[simp] theorem serveWrite_listsOf (m0 : MemReq) (data : Bytes) (s : State) : listsOf (serveWrite m0 data s) = listsOf s :=
  listsOf_of_ex (Keeps.ex ((serveWrite_keeps (m := 1048041) (s0 := s) m0 data s (by decide)).mpr (Keeps.refl _ _)) (by decide))

@[simp] theorem waitRequest_listsOf (w : WaitingReq) (s : State) : listsOf (waitRequest w s) = listsOf s :=
  listsOf_of_ex (Keeps.ex ((waitRequest_keeps (m := 1048063) (s0 := s) w s (by decide)).mpr (Keeps.refl _ _)) (by decide))

@[simp] theorem discardRequest_listsOf (p : Packet) (s : State) : listsOf (discardRequest p s) = listsOf s :=
  listsOf_of_ex (Keeps.ex ((discardRequest_keeps (m := 980975) (s0 := s) p s (by decide)).mpr (Keeps.refl _ _)) (by decide))

@[simp] theorem answered_listsOf (die : Nat) (ep : Nat) (tag : Nat) (write : Bool) (s : State) : listsOf (answered die ep tag write s) = listsOf s :=
  listsOf_of_ex (Keeps.ex ((answered_keeps (m := 1048063) (s0 := s) die ep tag write s (by decide)).mpr (Keeps.refl _ _)) (by decide))

@[simp] theorem ackWrite_listsOf (s : State) (w : WaitingWrite) : listsOf (ackWrite s w) = listsOf s :=
  listsOf_of_ex (Keeps.ex ((ackWrite_keeps (m := 1048061) (s0 := s) s w (by decide)).mpr (Keeps.refl _ _)) (by decide))

@[simp] theorem retireDue_listsOf (s : State) : listsOf (retireDue s) = listsOf s :=
  listsOf_of_ex (Keeps.ex ((retireDue_keeps (m := 1048047) (s0 := s) s (by decide)).mpr (Keeps.refl _ _)) (by decide))

@[simp] theorem readStack_listsOf (k : Nat) (temp : Nat) (s : State) : listsOf (readStack k temp s) = listsOf s :=
  listsOf_of_ex (Keeps.ex ((readStack_keeps (m := 982511) (s0 := s) k temp s (by decide)).mpr (Keeps.refl _ _)) (by decide))

@[simp] theorem scrubOne_listsOf (s : State) (f : ScrubFinding) : listsOf (scrubOne s f) = listsOf s :=
  listsOf_of_ex (Keeps.ex ((scrubOne_keeps (m := 982511) (s0 := s) s f (by decide)).mpr (Keeps.refl _ _)) (by decide))

@[simp] theorem chargeScrub_listsOf (s : State) : listsOf (chargeScrub s) = listsOf s :=
  listsOf_of_ex (Keeps.ex ((chargeScrub_keeps (m := 1048047) (s0 := s) s (by decide)).mpr (Keeps.refl _ _)) (by decide))

@[simp] theorem repairGroup_listsOf (f : LaneFailure) (s : State) : listsOf (repairGroup f s) = listsOf s :=
  listsOf_of_ex (Keeps.ex ((repairGroup_keeps (m := 851439) (s0 := s) f s (by decide)).mpr (Keeps.refl _ _)) (by decide))

@[simp] theorem trainStacks_listsOf (failures : List LaneFailure) (s : State) : listsOf (trainStacks failures s) = listsOf s :=
  listsOf_of_ex (Keeps.ex ((trainStacks_keeps (m := 851439) (s0 := s) failures s (by decide)).mpr (Keeps.refl _ _)) (by decide))

@[simp] theorem chargeGen_listsOf (r : GenRun) (s : State) : listsOf (chargeGen r s) = listsOf s :=
  listsOf_of_ex (Keeps.ex ((chargeGen_keeps (m := 1048047) (s0 := s) r s (by decide)).mpr (Keeps.refl _ _)) (by decide))

@[simp] theorem noteTested_listsOf (g : GenReq) (s : State) : listsOf (noteTested g s) = listsOf s :=
  listsOf_of_ex (Keeps.ex ((noteTested_keeps (m := 1048063) (s0 := s) g s (by decide)).mpr (Keeps.refl _ _)) (by decide))

@[simp] theorem forgetTested_listsOf (g : GenReq) (s : State) : listsOf (forgetTested g s) = listsOf s :=
  listsOf_of_ex (Keeps.ex ((forgetTested_keeps (m := 1048063) (s0 := s) g s (by decide)).mpr (Keeps.refl _ _)) (by decide))

@[simp] theorem stopGenerator_listsOf (s : State) : listsOf (stopGenerator s) = listsOf s :=
  listsOf_of_ex (Keeps.ex ((stopGenerator_keeps (m := 1048047) (s0 := s) s (by decide)).mpr (Keeps.refl _ _)) (by decide))

@[simp] theorem genRequest_listsOf (op : Nat) (q : Req) (g : GenReq) (s : State) : listsOf (genRequest op q g s) = listsOf s :=
  listsOf_of_ex (Keeps.ex ((genRequest_keeps (m := 851437) (s0 := s) op q g s (by decide)).mpr (Keeps.refl _ _)) (by decide))

@[simp] theorem emptyCaches_listsOf (s : State) : listsOf (emptyCaches s) = listsOf s :=
  listsOf_of_ex (Keeps.ex ((emptyCaches_keeps (m := 1048047) (s0 := s) s (by decide)).mpr (Keeps.refl _ _)) (by decide))

@[simp] theorem storeAt_listsOf (u : Agent) (key : Nat) (mem : Bool) (a : Nat) (data : Bytes) (s : State) : listsOf (storeAt u key mem a data s) = listsOf s :=
  listsOf_of_ex (Keeps.ex ((storeAt_keeps (m := 1047913) (s0 := s) u key mem a data s (by decide)).mpr (Keeps.refl _ _)) (by decide))

@[simp] theorem storeAll_listsOf (u : Agent) (key : Nat) (mem : Bool) (ws : List (Nat × Bytes)) (s : State) : listsOf (storeAll u key mem ws s) = listsOf s :=
  listsOf_of_ex (Keeps.ex ((storeAll_keeps (m := 1047913) (s0 := s) u key mem ws s (by decide)).mpr (Keeps.refl _ _)) (by decide))

@[simp] theorem writeRef_listsOf (sc : Score) (u : Agent) (key : Nat) (r : Nat) (data : Bytes) (s : State) : listsOf (writeRef sc u key r data s) = listsOf s :=
  listsOf_of_ex (Keeps.ex ((writeRef_keeps (m := 1047913) (s0 := s) sc u key r data s (by decide)).mpr (Keeps.refl _ _)) (by decide))

@[simp] theorem readPieces_listsOf (u : Agent) (fill : Option Nat) (ps : List Piece) (s : State) : listsOf (readPieces u fill ps s) = listsOf s :=
  listsOf_of_ex (Keeps.ex ((readPieces_keeps (m := 1048043) (s0 := s) u fill ps s (by decide)).mpr (Keeps.refl _ _)) (by decide))

@[simp] theorem storeError_listsOf (half : Nat) (core : Nat) (key : Nat) (s : State) (e : StoreErr) : listsOf (storeError half core key s e) = listsOf s := by
  unfold storeError; dsimp only; (repeat' split) <;> simp [*]

@[simp] theorem noteResults_listsOf (key : Nat) (idx : Nat) (ovf : Nat) (inv : Nat) (s : State) : listsOf (noteResults key idx ovf inv s) = listsOf s :=
  listsOf_of_ex (Keeps.ex ((noteResults_keeps (m := 1048431) (s0 := s) key idx ovf inv s (by decide)).mpr (Keeps.refl _ _)) (by decide))

@[simp] theorem noteConversions_listsOf (sats : Nat) (ovfs : Nat) (s : State) : listsOf (noteConversions sats ovfs s) = listsOf s :=
  listsOf_of_ex (Keeps.ex ((noteConversions_keeps (m := 1048559) (s0 := s) sats ovfs s (by decide)).mpr (Keeps.refl _ _)) (by decide))

@[simp] theorem writeResult_listsOf (sc : Score) (key : Nat) (ref : Nat) (fmt : Nat) (sat : Bool) (f : Nat → Nat → W32) (s : State) : listsOf (writeResult sc key ref fmt sat f s) = listsOf s :=
  listsOf_of_ex (Keeps.ex ((writeResult_keeps (m := 1047913) (s0 := s) sc key ref fmt sat f s (by decide)).mpr (Keeps.refl _ _)) (by decide))

@[simp] theorem watch_listsOf (s00 : State) (sc : Score) (key : Nat) (x0 : Site) (ix : Nat) (c : Crumb) (order : List Nat) (s : State) : listsOf (watch s00 sc key x0 ix c order s) = listsOf s :=
  listsOf_of_ex (Keeps.ex ((watch_keeps (m := 1048431) (s0 := s) s00 sc key x0 ix c order s (by decide)).mpr (Keeps.refl _ _)) (by decide))

@[simp] theorem mmaEffect_listsOf (sc : Score) (key : Nat) (ix : Nat) (c : Crumb) (s : State) : listsOf (mmaEffect sc key ix c s) = listsOf s :=
  listsOf_of_ex (Keeps.ex ((mmaEffect_keeps (m := 1047913) (s0 := s) sc key ix c s (by decide)).mpr (Keeps.refl _ _)) (by decide))

@[simp] theorem accoutEffect_listsOf (sc : Score) (key : Nat) (c : Crumb) (s : State) : listsOf (accoutEffect sc key c s) = listsOf s :=
  listsOf_of_ex (Keeps.ex ((accoutEffect_keeps (m := 1047913) (s0 := s) sc key c s (by decide)).mpr (Keeps.refl _ _)) (by decide))

@[simp] theorem accinitEffect_listsOf (sc : Score) (key : Nat) (c : Crumb) (s : State) : listsOf (accinitEffect sc key c s) = listsOf s :=
  listsOf_of_ex (Keeps.ex ((accinitEffect_keeps (m := 1048447) (s0 := s) sc key c s (by decide)).mpr (Keeps.refl _ _)) (by decide))

@[simp] theorem topkEffect_listsOf (sc : Score) (key : Nat) (c : Crumb) (s : State) : listsOf (topkEffect sc key c s) = listsOf s :=
  listsOf_of_ex (Keeps.ex ((topkEffect_keeps (m := 1047913) (s0 := s) sc key c s (by decide)).mpr (Keeps.refl _ _)) (by decide))

@[simp] theorem matrixEffect_listsOf (sc : Score) (key : Nat) (ix : Nat) (c : Crumb) (s : State) : listsOf (matrixEffect sc key ix c s) = listsOf s :=
  listsOf_of_ex (Keeps.ex ((matrixEffect_keeps (m := 1047913) (s0 := s) sc key ix c s (by decide)).mpr (Keeps.refl _ _)) (by decide))

@[simp] theorem noteConvs_listsOf (cs : List Conv) (s : State) : listsOf (noteConvs cs s) = listsOf s :=
  listsOf_of_ex (Keeps.ex ((noteConvs_keeps (m := 1048559) (s0 := s) cs s (by decide)).mpr (Keeps.refl _ _)) (by decide))

@[simp] theorem putElems_listsOf (sc : Score) (key : Nat) (c : Crumb) (tile : Bool) (rs : List (Nat × W32)) (s : State) : listsOf (putElems sc key c tile rs s) = listsOf s :=
  listsOf_of_ex (Keeps.ex ((putElems_keeps (m := 1047913) (s0 := s) sc key c tile rs s (by decide)).mpr (Keeps.refl _ _)) (by decide))

@[simp] theorem vecGroup_listsOf (sc : Score) (key : Nat) (c : Crumb) (n : Nat) (s : State) (g : Nat) : listsOf (vecGroup sc key c n s g) = listsOf s :=
  listsOf_of_ex (Keeps.ex ((vecGroup_keeps (m := 1047913) (s0 := s) sc key c n s g (by decide)).mpr (Keeps.refl _ _)) (by decide))

@[simp] theorem vecElementwise_listsOf (sc : Score) (key : Nat) (c : Crumb) (s : State) : listsOf (vecElementwise sc key c s) = listsOf s :=
  listsOf_of_ex (Keeps.ex ((vecElementwise_keeps (m := 1047913) (s0 := s) sc key c s (by decide)).mpr (Keeps.refl _ _)) (by decide))

@[simp] theorem vecReduce_listsOf (sc : Score) (key : Nat) (c : Crumb) (s : State) : listsOf (vecReduce sc key c s) = listsOf s :=
  listsOf_of_ex (Keeps.ex ((vecReduce_keeps (m := 1047913) (s0 := s) sc key c s (by decide)).mpr (Keeps.refl _ _)) (by decide))

@[simp] theorem vecLoadScalars_listsOf (sc : Score) (key : Nat) (c : Crumb) (s : State) : listsOf (vecLoadScalars sc key c s) = listsOf s :=
  listsOf_of_ex (Keeps.ex ((vecLoadScalars_keeps (m := 1048447) (s0 := s) sc key c s (by decide)).mpr (Keeps.refl _ _)) (by decide))

@[simp] theorem vecFlag_listsOf (sc : Score) (key : Nat) (c : Crumb) (s : State) : listsOf (vecFlag sc key c s) = listsOf s :=
  listsOf_of_ex (Keeps.ex ((vecFlag_keeps (m := 1047913) (s0 := s) sc key c s (by decide)).mpr (Keeps.refl _ _)) (by decide))

@[simp] theorem optStore_listsOf (sc : Score) (key : Nat) (c : Crumb) (r : OptRec) (f : Nat) (use : Nat) (ws : List (Nat × W32)) (s : State) : listsOf (optStore sc key c r f use ws s) = listsOf s :=
  listsOf_of_ex (Keeps.ex ((optStore_keeps (m := 1047913) (s0 := s) sc key c r f use ws s (by decide)).mpr (Keeps.refl _ _)) (by decide))

@[simp] theorem optGroup_listsOf (sc : Score) (key : Nat) (c : Crumb) (r : OptRec) (n : Nat) (s : State) (g : Nat) : listsOf (optGroup sc key c r n s g) = listsOf s :=
  listsOf_of_ex (Keeps.ex ((optGroup_keeps (m := 1047913) (s0 := s) sc key c r n s g (by decide)).mpr (Keeps.refl _ _)) (by decide))

@[simp] theorem voptEffect_listsOf (sc : Score) (half core key : Nat) (c : Crumb) (s : State) : listsOf (voptEffect sc half core key c s) = listsOf s := by
  unfold voptEffect
  dsimp only
  split
  · simp
  · rw [faultEvent_listsOf]
    rfl

@[simp] theorem vectorEffect_listsOf (sc : Score) (half : Nat) (core : Nat) (key : Nat) (c : Crumb) (s : State) : listsOf (vectorEffect sc half core key c s) = listsOf s := by
  unfold vectorEffect; dsimp only; repeat' (first | rfl | (simp; done) | split | (apply listsOf_foldl <;> intros))

@[simp] theorem runCopy_listsOf (sc : Score) (u : Agent) (key : Nat) (counter : Nat) (src : Desc) (dst : Desc) (s : State) : listsOf (runCopy sc u key counter src dst s) = listsOf s :=
  listsOf_of_ex (Keeps.ex ((runCopy_keeps (m := 1047913) (s0 := s) sc u key counter src dst s (by decide)).mpr (Keeps.refl _ _)) (by decide))

@[simp] theorem ctransEffect_listsOf (key : Nat) (c : Crumb) (s : State) : listsOf (ctransEffect key c s) = listsOf s :=
  listsOf_of_ex (Keeps.ex ((ctransEffect_keeps (m := 1048431) (s0 := s) key c s (by decide)).mpr (Keeps.refl _ _)) (by decide))

@[simp] theorem copyEffect_listsOf (sc : Score) (key : Nat) (c : Crumb) (s : State) : listsOf (copyEffect sc key c s) = listsOf s :=
  listsOf_of_ex (Keeps.ex ((copyEffect_keeps (m := 1047913) (s0 := s) sc key c s (by decide)).mpr (Keeps.refl _ _)) (by decide))

@[simp] theorem hostLoad_listsOf (base : Nat) (d : Desc) (s : State) : listsOf (hostLoad base d s) = listsOf s :=
  listsOf_of_ex (Keeps.ex ((hostLoad_keeps (m := 1047913) (s0 := s) base d s (by decide)).mpr (Keeps.refl _ _)) (by decide))

@[simp] theorem hostStore_listsOf (base : Nat) (d : Desc) (s : State) : listsOf (hostStore base d s) = listsOf s :=
  listsOf_of_ex (Keeps.ex ((hostStore_keeps (m := 982377) (s0 := s) base d s (by decide)).mpr (Keeps.refl _ _)) (by decide))

@[simp] theorem withStep_listsOf (f : Step → Step) (s : State) : listsOf (withStep f s) = listsOf s := by
  unfold withStep; dsimp only; repeat' (first | rfl | (simp; done) | split | (apply listsOf_foldl <;> intros))

@[simp] theorem addToken_listsOf (sc : Score) (t1 : Nat) (n : Nat) (s : State) : listsOf (addToken sc t1 n s) = listsOf s := by
  unfold addToken; dsimp only; (repeat' split) <;> simp [*]

@[simp] theorem withCreditUsed_listsOf (unit : Nat) (ep : Nat) (cls : Nat) (n : Nat) (s : State) : listsOf (withCreditUsed unit ep cls n s) = listsOf s := by
  unfold withCreditUsed; dsimp only; repeat' (first | rfl | (simp; done) | split | (apply listsOf_foldl <;> intros))

@[simp] theorem takeCredit_listsOf (unit : Nat) (ep : Nat) (cls : Nat) (s : State) : listsOf (takeCredit unit ep cls s) = listsOf s := by
  unfold takeCredit; (repeat' split) <;> simp

@[simp] theorem sendToken_listsOf (unit : Nat) (d : TokDecl) (n : Nat) (s : State) : listsOf (sendToken unit d n s) = listsOf s := by
  unfold sendToken; dsimp only; repeat' (first | rfl | (simp; done) | split | (apply listsOf_foldl <;> intros))

@[simp] theorem sendGrant_listsOf (unit : Nat) (p : PoolDecl) (n : Nat) (s : State) : listsOf (sendGrant unit p n s) = listsOf s := by
  unfold sendGrant; dsimp only; repeat' (first | rfl | (simp; done) | split | (apply listsOf_foldl <;> intros))

@[simp] theorem deliverFrom_listsOf (unit : Nat) (sc : Score) (die : Nat) (ep : Nat) (rs : List TokRef) (s : State) : listsOf (deliverFrom unit sc die ep rs s) = listsOf s := by
  unfold deliverFrom; try dsimp only
  repeat' (first | rfl | (simp; done) | split | (refine (onScore_listsOf _ _ ?_).trans ?_; intros) | (refine (listsOf_foldl _ ?_ _ _).trans ?_; intros) | simp)

@[simp] theorem deliver_listsOf (sc : Score) (die : Nat) (ep : Nat) (rs : List TokRef) (s : State) : listsOf (deliver sc die ep rs s) = listsOf s := by
  unfold deliver; (repeat' split) <;> simp

@[simp] theorem addFill_listsOf (sc : Score) (b : Nat) (n : Nat) (s : State) : listsOf (addFill sc b n s) = listsOf s := by
  unfold addFill; (repeat' split) <;> simp

@[simp] theorem fetchRecord_listsOf (sc : Score) (key : Nat) (s : State) (i : Nat) : listsOf (fetchRecord sc key s i) = listsOf s := by
  unfold fetchRecord; dsimp only; (repeat' split) <;> simp [*]

@[simp] theorem fetchOperand_listsOf (sc : Score) (half : Nat) (core : Nat) (p : Prefetch) (s : State) : listsOf (fetchOperand sc half core p s) = listsOf s :=
  listsOf_of_ex (Keeps.ex ((fetchOperand_keeps (m := 1048043) (s0 := s) sc half core p s (by decide)).mpr (Keeps.refl _ _)) (by decide))

@[simp] theorem refillPrefetch_listsOf (sc : Score) (half : Nat) (core : Nat) (s : State) : listsOf (refillPrefetch sc half core s) = listsOf s := by
  unfold refillPrefetch; try dsimp only
  repeat' (first | rfl | (simp; done) | split | (refine (onScore_listsOf _ _ ?_).trans ?_; intros) | (refine (listsOf_foldl _ ?_ _ _).trans ?_; intros) | simp)

@[simp] theorem endPrefetch_listsOf (i : Nat) (s : State) : listsOf (endPrefetch i s) = listsOf s := by
  unfold endPrefetch; dsimp only; repeat' (first | rfl | (simp; done) | split | (apply listsOf_foldl <;> intros))

@[simp] theorem crumbEffect_listsOf (sc : Score) (half : Nat) (core : Nat) (key : Nat) (i : Nat) (c : Crumb) (s : State) : listsOf (crumbEffect sc half core key i c s) = listsOf s := by
  unfold crumbEffect; (repeat' split) <;> simp

@[simp] theorem noteReads_listsOf (sc : Score) (key : Nat) (c : Crumb) (s : State) : listsOf (noteReads sc key c s) = listsOf s := by
  unfold noteReads; dsimp only; (repeat' split) <;> simp [*]

@[simp] theorem sendOutputs_listsOf (sc : Score) (c : Crumb) (credits : Bool) (s : State) : listsOf (sendOutputs sc c credits s) = listsOf s := by
  unfold sendOutputs; try dsimp only
  repeat' (first | rfl | (simp; done) | split | (refine (onScore_listsOf _ _ ?_).trans ?_; intros) | (refine (listsOf_foldl _ ?_ _ _).trans ?_; intros) | simp)

@[simp] theorem flushPending_listsOf (sc : Score) (unit : Nat) (ep : Nat) (cls : Nat) (s : State) : listsOf (flushPending sc unit ep cls s) = listsOf s := by
  unfold flushPending; try dsimp only
  repeat' (first | rfl | (simp; done) | split | (refine (onScore_listsOf _ _ ?_).trans ?_; intros) | (refine (listsOf_foldl _ ?_ _ _).trans ?_; intros) | simp)

@[simp] theorem withFab_listsOf (f : Fabric → Fabric) (s : State) : listsOf (withFab f s) = listsOf s :=
  listsOf_of_ex (Keeps.ex ((withFab_keeps (m := 1040383) (s0 := s) f s (by decide)).mpr (Keeps.refl _ _)) (by decide))

@[simp] theorem enqueueFwd_listsOf (x : Carried) (s : State) : listsOf (enqueueFwd x s) = listsOf s :=
  listsOf_of_ex (Keeps.ex ((enqueueFwd_keeps (m := 1040383) (s0 := s) x s (by decide)).mpr (Keeps.refl _ _)) (by decide))

@[simp] theorem drainOut_listsOf (s : State) : listsOf (drainOut s) = listsOf s :=
  listsOf_of_ex (Keeps.ex ((drainOut_keeps (m := 1040383) (s0 := s) s (by decide)).mpr (Keeps.refl _ _)) (by decide))

@[simp] theorem sendParcel_listsOf (dst : Nat) (cls : Nat) (kind : Nat) (st : Stream) (kf : Nat) (payload : Bytes) (s : State) : listsOf (sendParcel dst cls kind st kf payload s) = listsOf s :=
  listsOf_of_ex (Keeps.ex ((sendParcel_keeps (m := 1040367) (s0 := s) dst cls kind st kf payload s (by decide)).mpr (Keeps.refl _ _)) (by decide))

@[simp] theorem sendControl_listsOf (dst : Nat) (kind : Nat) (kf : Nat) (s : State) : listsOf (sendControl dst kind kf s) = listsOf s :=
  listsOf_of_ex (Keeps.ex ((sendControl_keeps (m := 1040367) (s0 := s) dst kind kf s (by decide)).mpr (Keeps.refl _ _)) (by decide))

@[simp] theorem returnOn_listsOf (c : InCtx) (n : Nat) (s : State) : listsOf (returnOn c n s) = listsOf s :=
  listsOf_of_ex (Keeps.ex ((returnOn_keeps (m := 1040367) (s0 := s) c n s (by decide)).mpr (Keeps.refl _ _)) (by decide))

@[simp] theorem returnChunk_listsOf (c : Chunk) (s : State) : listsOf (returnChunk c s) = listsOf s :=
  listsOf_of_ex (Keeps.ex ((returnChunk_keeps (m := 1040367) (s0 := s) c s (by decide)).mpr (Keeps.refl _ _)) (by decide))

@[simp] theorem discardWaiting_listsOf (gone : Carried → Bool) (s : State) : listsOf (discardWaiting gone s) = listsOf s :=
  listsOf_of_ex (Keeps.ex ((discardWaiting_keeps (m := 1036287) (s0 := s) gone s (by decide)).mpr (Keeps.refl _ _)) (by decide))

@[simp] theorem silentVerdict_listsOf (peer : Nat) (s : State) : listsOf (silentVerdict peer s) = listsOf s :=
  listsOf_of_ex (Keeps.ex ((silentVerdict_keeps (m := 970735) (s0 := s) peer s (by decide)).mpr (Keeps.refl _ _)) (by decide))

@[simp] theorem closeContexts_listsOf (s : State) : listsOf (closeContexts s) = listsOf s :=
  listsOf_of_ex (Keeps.ex ((closeContexts_keeps (m := 1036287) (s0 := s) s (by decide)).mpr (Keeps.refl _ _)) (by decide))

@[simp] theorem grantLease_listsOf (c : InCtx) (s : State) : listsOf (grantLease c s) = listsOf s :=
  listsOf_of_ex (Keeps.ex ((grantLease_keeps (m := 1040363) (s0 := s) c s (by decide)).mpr (Keeps.refl _ _)) (by decide))

@[simp] theorem openContexts_listsOf (sc : Score) (s : State) : listsOf (openContexts sc s) = listsOf s :=
  listsOf_of_ex (Keeps.ex ((openContexts_keeps (m := 1040363) (s0 := s) sc s (by decide)).mpr (Keeps.refl _ _)) (by decide))

@[simp] theorem departed_listsOf (p : Parcel) (s : State) : listsOf (departed p s) = listsOf s :=
  listsOf_of_ex (Keeps.ex ((departed_keeps (m := 1040383) (s0 := s) p s (by decide)).mpr (Keeps.refl _ _)) (by decide))

@[simp] theorem runJob_listsOf (sc : Score) (u : Agent) (src : Desc) (dst : Desc) (s : State) : listsOf (runJob sc u src dst s) = listsOf s := by
  unfold runJob; dsimp only; (repeat' split) <;> simp [*]

@[simp] theorem readStreamList_listsOf (sc : Score) (x : StreamDecl) (s : State) : listsOf (readStreamList sc x s) = listsOf s := by
  unfold readStreamList; dsimp only; (repeat' split) <;> simp [*]

@[simp] theorem readStreamLine_listsOf (x : StreamDecl) (s : State) (line : Nat) : listsOf (readStreamLine x s line) = listsOf s := by
  unfold readStreamLine; dsimp only; (repeat' split) <;> simp [*]

@[simp] theorem installStreamLine_listsOf (x : StreamDecl) (s : State) (line : Nat) : listsOf (installStreamLine x s line) = listsOf s :=
  listsOf_of_ex (Keeps.ex ((installStreamLine_keeps (m := 1048043) (s0 := s) x s line (by decide)).mpr (Keeps.refl _ _)) (by decide))

@[simp] theorem pllTake_listsOf (subs : List Nat) (s : State) : listsOf (pllTake subs s) = listsOf s :=
  listsOf_of_ex (Keeps.ex ((pllTake_keeps (m := 786431) (s0 := s) subs s (by decide)).mpr (Keeps.refl _ _)) (by decide))

@[simp] theorem withStackDir_listsOf (cd : Nat) (port : Nat) (toBase : Bool) (d : StackDir) (s : State) : listsOf (withStackDir cd port toBase d s) = listsOf s :=
  listsOf_of_ex (Keeps.ex ((withStackDir_keeps (m := 1048063) (s0 := s) cd port toBase d s (by decide)).mpr (Keeps.refl _ _)) (by decide))

@[simp] theorem withLink_listsOf (k : Nat) (l : QlLink) (s : State) : listsOf (withLink k l s) = listsOf s :=
  listsOf_of_ex (Keeps.ex ((withLink_keeps (m := 1047551) (s0 := s) k l s (by decide)).mpr (Keeps.refl _ _)) (by decide))

@[simp] theorem takeAckCredit_listsOf (k : Nat) (up : Bool) (f : UnitFields) (s : State) : listsOf (takeAckCredit k up f s) = listsOf s :=
  listsOf_of_ex (Keeps.ex ((takeAckCredit_keeps (m := 1047551) (s0 := s) k up f s (by decide)).mpr (Keeps.refl _ _)) (by decide))

@[simp] theorem refuseUnit_listsOf (u : QlUnit) (s : State) : listsOf (refuseUnit u s) = listsOf s :=
  listsOf_of_ex (Keeps.ex ((refuseUnit_keeps (m := 1047549) (s0 := s) u s (by decide)).mpr (Keeps.refl _ _)) (by decide))

@[simp] theorem takeUnit_listsOf (u : QlUnit) (b : Bytes) (s : State) : listsOf (takeUnit u b s) = listsOf s :=
  listsOf_of_ex (Keeps.ex ((takeUnit_keeps (m := 979951) (s0 := s) u b s (by decide)).mpr (Keeps.refl _ _)) (by decide))

@[simp] theorem clearNak_listsOf (u : QlUnit) (s : State) : listsOf (clearNak u s) = listsOf s :=
  listsOf_of_ex (Keeps.ex ((clearNak_keeps (m := 1047551) (s0 := s) u s (by decide)).mpr (Keeps.refl _ _)) (by decide))

@[simp] theorem linkUp_listsOf (k : Nat) (repaired : Nat) (exhausted : BitVec 8) (s : State) : listsOf (linkUp k repaired exhausted s) = listsOf s :=
  listsOf_of_ex (Keeps.ex ((linkUp_keeps (m := 1047533) (s0 := s) k repaired exhausted s (by decide)).mpr (Keeps.refl _ _)) (by decide))

@[simp] theorem withPho_listsOf (f : Photonics → Photonics) (s : State) : listsOf (withPho f s) = listsOf s :=
  listsOf_of_ex (Keeps.ex ((withPho_keeps (m := 1044479) (s0 := s) f s (by decide)).mpr (Keeps.refl _ _)) (by decide))

@[simp] theorem withPort_listsOf (p : Nat) (x : Port) (s : State) : listsOf (withPort p x s) = listsOf s :=
  listsOf_of_ex (Keeps.ex ((withPort_keeps (m := 1044479) (s0 := s) p x s (by decide)).mpr (Keeps.refl _ _)) (by decide))

@[simp] theorem withTx_listsOf (p : Nat) (c : Nat) (x : TxLane) (s : State) : listsOf (withTx p c x s) = listsOf s :=
  listsOf_of_ex (Keeps.ex ((withTx_keeps (m := 1044479) (s0 := s) p c x s (by decide)).mpr (Keeps.refl _ _)) (by decide))

@[simp] theorem withRx_listsOf (p : Nat) (c : Nat) (x : RxLane) (s : State) : listsOf (withRx p c x s) = listsOf s :=
  listsOf_of_ex (Keeps.ex ((withRx_keeps (m := 1044479) (s0 := s) p c x s (by decide)).mpr (Keeps.refl _ _)) (by decide))

@[simp] theorem withRing_listsOf (tx : Bool) (p : Nat) (r : Nat) (x : Ring) (s : State) : listsOf (withRing tx p r x s) = listsOf s :=
  listsOf_of_ex (Keeps.ex ((withRing_keeps (m := 1044479) (s0 := s) tx p r x s (by decide)).mpr (Keeps.refl _ _)) (by decide))

@[simp] theorem sendFrame_listsOf (p : Nat) (c : Nat) (state : Nat) (s : State) : listsOf (sendFrame p c state s) = listsOf s :=
  listsOf_of_ex (Keeps.ex ((sendFrame_keeps (m := 1044477) (s0 := s) p c state s (by decide)).mpr (Keeps.refl _ _)) (by decide))

@[simp] theorem sendDueFrames_listsOf (s : State) : listsOf (sendDueFrames s) = listsOf s :=
  listsOf_of_ex (Keeps.ex ((sendDueFrames_keeps (m := 1044477) (s0 := s) s (by decide)).mpr (Keeps.refl _ _)) (by decide))

@[simp] theorem sendNotice_listsOf (p : Nat) (code : Nat) (about : Nat) (dst : Nat) (s : State) : listsOf (sendNotice p code about dst s) = listsOf s :=
  listsOf_of_ex (Keeps.ex ((sendNotice_keeps (m := 1044479) (s0 := s) p code about dst s (by decide)).mpr (Keeps.refl _ _)) (by decide))

@[simp] theorem requeue_listsOf (xs : List Carried) (s : State) : listsOf (requeue xs s) = listsOf s :=
  listsOf_of_ex (Keeps.ex ((requeue_keeps (m := 1040383) (s0 := s) xs s (by decide)).mpr (Keeps.refl _ _)) (by decide))

@[simp] theorem outTx_listsOf (p : Nat) (c : Nat) (st : LaneState) (s : State) : listsOf (outTx p c st s) = listsOf s :=
  listsOf_of_ex (Keeps.ex ((outTx_keeps (m := 1036287) (s0 := s) p c st s (by decide)).mpr (Keeps.refl _ _)) (by decide))

@[simp] theorem pullTx_listsOf (p : Nat) (c : Nat) (st : LaneState) (s : State) : listsOf (pullTx p c st s) = listsOf s :=
  listsOf_of_ex (Keeps.ex ((pullTx_keeps (m := 1036285) (s0 := s) p c st s (by decide)).mpr (Keeps.refl _ _)) (by decide))

@[simp] theorem forgetBuffers_listsOf (key : Nat) (s : State) : listsOf (forgetBuffers key s) = listsOf s :=
  listsOf_of_ex (Keeps.ex ((forgetBuffers_keeps (m := 1036287) (s0 := s) key s (by decide)).mpr (Keeps.refl _ _)) (by decide))

@[simp] theorem pullRx_listsOf (p : Nat) (c : Nat) (st : LaneState) (s : State) : listsOf (pullRx p c st s) = listsOf s :=
  listsOf_of_ex (Keeps.ex ((pullRx_keeps (m := 1044479) (s0 := s) p c st s (by decide)).mpr (Keeps.refl _ _)) (by decide))

@[simp] theorem pullLane_listsOf (tx : Bool) (p : Nat) (c : Nat) (st : LaneState) (s : State) : listsOf (pullLane tx p c st s) = listsOf s :=
  listsOf_of_ex (Keeps.ex ((pullLane_keeps (m := 1036285) (s0 := s) tx p c st s (by decide)).mpr (Keeps.refl _ _)) (by decide))

@[simp] theorem oweCredit_listsOf (p : Nat) (c : Nat) (cls : Nat) (pool : Nat) (n : Nat) (s : State) : listsOf (oweCredit p c cls pool n s) = listsOf s :=
  listsOf_of_ex (Keeps.ex ((oweCredit_keeps (m := 1044479) (s0 := s) p c cls pool n s (by decide)).mpr (Keeps.refl _ _)) (by decide))

@[simp] theorem freeBuffers_listsOf (bs : List (Nat × Nat × Nat × Nat)) (s : State) : listsOf (freeBuffers bs s) = listsOf s :=
  listsOf_of_ex (Keeps.ex ((freeBuffers_keeps (m := 1044479) (s0 := s) bs s (by decide)).mpr (Keeps.refl _ _)) (by decide))

@[simp] theorem sendBare_listsOf (p : Nat) (c : Nat) (kind : Nat) (s : State) : listsOf (sendBare p c kind s) = listsOf s :=
  listsOf_of_ex (Keeps.ex ((sendBare_keeps (m := 1044477) (s0 := s) p c kind s (by decide)).mpr (Keeps.refl _ _)) (by decide))

@[simp] theorem parcelGone_listsOf (x : Carried) (s : State) : listsOf (parcelGone x s) = listsOf s :=
  listsOf_of_ex (Keeps.ex ((parcelGone_keeps (m := 1044479) (s0 := s) x s (by decide)).mpr (Keeps.refl _ _)) (by decide))

@[simp] theorem sendData_listsOf (p : Nat) (c : Nat) (cls : Nat) (pool : Nat) (key : Nat) (s : State) : listsOf (sendData p c cls pool key s) = listsOf s :=
  listsOf_of_ex (Keeps.ex ((sendData_keeps (m := 1036269) (s0 := s) p c cls pool key s (by decide)).mpr (Keeps.refl _ _)) (by decide))

@[simp] theorem pumpFlits_listsOf (p : Nat) (c : Nat) (a2 : Nat) (a3 : State) : listsOf (pumpFlits p c a2 a3) = listsOf a3 :=
  listsOf_of_ex (Keeps.ex ((pumpFlits_keeps (m := 1036269) (s0 := a3) p c a2 a3 (by decide)).mpr (Keeps.refl _ _)) (by decide))

@[simp] theorem pumpLane_listsOf (p : Nat) (c : Nat) (s : State) : listsOf (pumpLane p c s) = listsOf s :=
  listsOf_of_ex (Keeps.ex ((pumpLane_keeps (m := 1036269) (s0 := s) p c s (by decide)).mpr (Keeps.refl _ _)) (by decide))

@[simp] theorem pumpLanes_listsOf (s : State) : listsOf (pumpLanes s) = listsOf s :=
  listsOf_of_ex (Keeps.ex ((pumpLanes_keeps (m := 1036269) (s0 := s) s (by decide)).mpr (Keeps.refl _ _)) (by decide))

@[simp] theorem resendOne_listsOf (p : Nat) (c : Nat) (f : TxFlit) (s : State) : listsOf (resendOne p c f s) = listsOf s :=
  listsOf_of_ex (Keeps.ex ((resendOne_keeps (m := 1044477) (s0 := s) p c f s (by decide)).mpr (Keeps.refl _ _)) (by decide))

@[simp] theorem resendAll_listsOf (p : Nat) (c : Nat) (s : State) : listsOf (resendAll p c s) = listsOf s :=
  listsOf_of_ex (Keeps.ex ((resendAll_keeps (m := 1044461) (s0 := s) p c s (by decide)).mpr (Keeps.refl _ _)) (by decide))

@[simp] theorem withCol_listsOf (f : Collectives → Collectives) (s : State) : listsOf (withCol f s) = listsOf s :=
  listsOf_of_ex (Keeps.ex ((withCol_keeps (m := 1032191) (s0 := s) f s (by decide)).mpr (Keeps.refl _ _)) (by decide))

@[simp] theorem withPral_listsOf (r : PralRun) (s : State) : listsOf (withPral r s) = listsOf s :=
  listsOf_of_ex (Keeps.ex ((withPral_keeps (m := 1032191) (s0 := s) r s (by decide)).mpr (Keeps.refl _ _)) (by decide))

@[simp] theorem wordOnLane_listsOf (w : W128) (s : State) (lane : Nat × Nat) : listsOf (wordOnLane w s lane) = listsOf s :=
  listsOf_of_ex (Keeps.ex ((wordOnLane_keeps (m := 1036269) (s0 := s) w s lane (by decide)).mpr (Keeps.refl _ _)) (by decide))

@[simp] theorem noteSend_listsOf (r : PralRun) (stage : Nat) (a : Nat) (s : State) : listsOf (noteSend r stage a s) = listsOf s :=
  listsOf_of_ex (Keeps.ex ((noteSend_keeps (m := 1032191) (s0 := s) r stage a s (by decide)).mpr (Keeps.refl _ _)) (by decide))

@[simp] theorem sendPral_listsOf (r : PralRun) (stage : Nat) (a : Nat) (first : Bool) (s : State) : listsOf (sendPral r stage a first s) = listsOf s :=
  listsOf_of_ex (Keeps.ex ((sendPral_keeps (m := 1019885) (s0 := s) r stage a first s (by decide)).mpr (Keeps.refl _ _)) (by decide))

@[simp] theorem sendStage_listsOf (r : PralRun) (stage : Nat) (s : State) : listsOf (sendStage r stage s) = listsOf s :=
  listsOf_of_ex (Keeps.ex ((sendStage_keeps (m := 1019885) (s0 := s) r stage s (by decide)).mpr (Keeps.refl _ _)) (by decide))

@[simp] theorem pralAdvance_listsOf (a0 : Nat) (a1 : PralRun) (a2 : State) : listsOf (pralAdvance a0 a1 a2) = listsOf a2 :=
  listsOf_of_ex (Keeps.ex ((pralAdvance_keeps (m := 1019885) (s0 := a2) a0 a1 a2 (by decide)).mpr (Keeps.refl _ _)) (by decide))

@[simp] theorem storeWord_listsOf (r : PralRun) (src : Nat) (w : PralFields) (s : State) : listsOf (storeWord r src w s) = listsOf s :=
  listsOf_of_ex (Keeps.ex ((storeWord_keeps (m := 1019885) (s0 := s) r src w s (by decide)).mpr (Keeps.refl _ _)) (by decide))

@[simp] theorem absorbEarly_listsOf (g : Nat) (seq : Nat) (round : Nat) (s : State) : listsOf (absorbEarly g seq round s) = listsOf s :=
  listsOf_of_ex (Keeps.ex ((absorbEarly_keeps (m := 1019885) (s0 := s) g seq round s (by decide)).mpr (Keeps.refl _ _)) (by decide))

@[simp] theorem startPraline_listsOf (sc : Score) (coll : Nat) (op : Nat) (value : W64) (s : State) : listsOf (startPraline sc coll op value s) = listsOf s :=
  listsOf_of_ex (Keeps.ex ((startPraline_keeps (m := 1019885) (s0 := s) sc coll op value s (by decide)).mpr (Keeps.refl _ _)) (by decide))

@[simp] theorem takeFields_listsOf (src : Nat) (w : PralFields) (s : State) : listsOf (takeFields src w s) = listsOf s :=
  listsOf_of_ex (Keeps.ex ((takeFields_keeps (m := 1019885) (s0 := s) src w s (by decide)).mpr (Keeps.refl _ _)) (by decide))

@[simp] theorem badWord_listsOf (src : Nat) (w : PralFields) (s : State) : listsOf (badWord src w s) = listsOf s :=
  listsOf_of_ex (Keeps.ex ((badWord_keeps (m := 966639) (s0 := s) src w s (by decide)).mpr (Keeps.refl _ _)) (by decide))

@[simp] theorem takeWord_listsOf (w : Praline) (s : State) : listsOf (takeWord w s) = listsOf s :=
  listsOf_of_ex (Keeps.ex ((takeWord_keeps (m := 954349) (s0 := s) w s (by decide)).mpr (Keeps.refl _ _)) (by decide))

@[simp] theorem repeatRun_listsOf (s : State) (r : PralRun) : listsOf (repeatRun s r) = listsOf s :=
  listsOf_of_ex (Keeps.ex ((repeatRun_keeps (m := 1019885) (s0 := s) s r (by decide)).mpr (Keeps.refl _ _)) (by decide))

@[simp] theorem withRun_listsOf (n : Nat) (r : CollRun) (s : State) : listsOf (withRun n r s) = listsOf s :=
  listsOf_of_ex (Keeps.ex ((withRun_keeps (m := 1032191) (s0 := s) n r s (by decide)).mpr (Keeps.refl _ _)) (by decide))

@[simp] theorem sendRange_listsOf (x : CollCtx) (stage : Nat) (base : Nat) (peer : Nat) (r : Nat × Nat) (s : State) : listsOf (sendRange x stage base peer r s) = listsOf s :=
  listsOf_of_ex (Keeps.ex ((sendRange_keeps (m := 1039851) (s0 := s) x stage base peer r s (by decide)).mpr (Keeps.refl _ _)) (by decide))

@[simp] theorem sendAll_listsOf (x : CollCtx) (stage : Nat) (s : State) : listsOf (sendAll x stage s) = listsOf s :=
  listsOf_of_ex (Keeps.ex ((sendAll_keeps (m := 1039851) (s0 := s) x stage s (by decide)).mpr (Keeps.refl _ _)) (by decide))

@[simp] theorem returnHeld_listsOf (h0 : HeldChunk) (s : State) : listsOf (returnHeld h0 s) = listsOf s :=
  listsOf_of_ex (Keeps.ex ((returnHeld_keeps (m := 1040367) (s0 := s) h0 s (by decide)).mpr (Keeps.refl _ _)) (by decide))

@[simp] theorem useChunk_listsOf (x : CollCtx) (h1 : HeldChunk) (s : State) : listsOf (useChunk x h1 s) = listsOf s :=
  listsOf_of_ex (Keeps.ex ((useChunk_keeps (m := 1023465) (s0 := s) x h1 s (by decide)).mpr (Keeps.refl _ _)) (by decide))

@[simp] theorem refetch_listsOf (x : CollCtx) (off : Nat) (len : Nat) (s : State) : listsOf (refetch x off len s) = listsOf s :=
  listsOf_of_ex (Keeps.ex ((refetch_keeps (m := 1023983) (s0 := s) x off len s (by decide)).mpr (Keeps.refl _ _)) (by decide))

@[simp] theorem badChunk_listsOf (c : Chunk) (s : State) : listsOf (badChunk c s) = listsOf s := by
  unfold badChunk; dsimp only; (repeat' split) <;> simp [*]

@[simp] theorem noteReceived_listsOf (n : Nat) (c : Chunk) (s : State) : listsOf (noteReceived n c s) = listsOf s :=
  listsOf_of_ex (Keeps.ex ((noteReceived_keeps (m := 1032191) (s0 := s) n c s (by decide)).mpr (Keeps.refl _ _)) (by decide))

@[simp] theorem applyChunk_listsOf (x : CollCtx) (s : State) (h2 : HeldChunk) : listsOf (applyChunk x s h2) = listsOf s :=
  listsOf_of_ex (Keeps.ex ((applyChunk_keeps (m := 1023465) (s0 := s) x s h2 (by decide)).mpr (Keeps.refl _ _)) (by decide))

@[simp] theorem orderedSums_listsOf (x : CollCtx) (stage : Nat) (s : State) : listsOf (orderedSums x stage s) = listsOf s :=
  listsOf_of_ex (Keeps.ex ((orderedSums_keeps (m := 1048041) (s0 := s) x stage s (by decide)).mpr (Keeps.refl _ _)) (by decide))

@[simp] theorem mergeLists_listsOf (x : CollCtx) (stage : Nat) (s : State) : listsOf (mergeLists x stage s) = listsOf s :=
  listsOf_of_ex (Keeps.ex ((mergeLists_keeps (m := 1048041) (s0 := s) x stage s (by decide)).mpr (Keeps.refl _ _)) (by decide))

@[simp] theorem examine_listsOf (x : CollCtx) (s : State) : listsOf (examine x s) = listsOf s :=
  listsOf_of_ex (Keeps.ex ((examine_keeps (m := 1031659) (s0 := s) x s (by decide)).mpr (Keeps.refl _ _)) (by decide))

@[simp] theorem tee_listsOf (x : CollCtx) (t1 : Nat) (s : State) : listsOf (tee x t1 s) = listsOf s :=
  listsOf_of_ex (Keeps.ex ((tee_keeps (m := 1015275) (s0 := s) x t1 s (by decide)).mpr (Keeps.refl _ _)) (by decide))

@[simp] theorem settleTokens_listsOf (x : CollCtx) (s : State) : listsOf (settleTokens x s) = listsOf s := by
  unfold settleTokens; dsimp only; (repeat' split) <;> simp [*]

@[simp] theorem tokensFall_listsOf (x : CollCtx) (s : State) : listsOf (tokensFall x s) = listsOf s := by
  unfold tokensFall; (repeat' split) <;> simp

@[simp] theorem dropHeld_listsOf (n : Nat) (s : State) : listsOf (dropHeld n s) = listsOf s :=
  listsOf_of_ex (Keeps.ex ((dropHeld_keeps (m := 1023983) (s0 := s) n s (by decide)).mpr (Keeps.refl _ _)) (by decide))

@[simp] theorem completeColl_listsOf (x : CollCtx) (s : State) : listsOf (completeColl x s) = listsOf s := by
  unfold completeColl; dsimp only; (repeat' split) <;> simp [*]

@[simp] theorem useHeld_listsOf (x : CollCtx) (s : State) : listsOf (useHeld x s) = listsOf s :=
  listsOf_of_ex (Keeps.ex ((useHeld_keeps (m := 1023465) (s0 := s) x s (by decide)).mpr (Keeps.refl _ _)) (by decide))

@[simp] theorem enterStage_listsOf (x : CollCtx) (stage : Nat) (s : State) : listsOf (enterStage x stage s) = listsOf s :=
  listsOf_of_ex (Keeps.ex ((enterStage_keeps (m := 1023465) (s0 := s) x stage s (by decide)).mpr (Keeps.refl _ _)) (by decide))

@[simp] theorem afterReduce_listsOf (x : CollCtx) (s : State) : listsOf (afterReduce x s) = listsOf s := by
  unfold afterReduce; (repeat' split) <;> simp

@[simp] theorem nextStage_listsOf (x : CollCtx) (s : State) : listsOf (nextStage x s) = listsOf s := by
  unfold nextStage; dsimp only; (repeat' split) <;> simp [*]

@[simp] theorem advanceColl_listsOf (x : CollCtx) (n : Nat) (s : State) : listsOf (advanceColl x n s) = listsOf s := by
  induction n generalizing s with
  | zero => rfl
  | succ n ih =>
    unfold advanceColl
    extract_lets r
    split
    · exact (ih _).trans (nextStage_listsOf _ _)
    · rfl

@[simp] theorem noteDigest_listsOf (x : CollCtx) (s : State) : listsOf (noteDigest x s) = listsOf s := by
  unfold noteDigest; (repeat' split) <;> simp

@[simp] theorem checkSource_listsOf (x : CollCtx) (s : State) : listsOf (checkSource x s) = listsOf s := by
  unfold checkSource; (repeat' split) <;> simp

@[simp] theorem freshRun_listsOf (n : Nat) (s : State) : listsOf (freshRun n s) = listsOf s :=
  listsOf_of_ex (Keeps.ex ((freshRun_keeps (m := 1032191) (s0 := s) n s (by decide)).mpr (Keeps.refl _ _)) (by decide))

@[simp] theorem runColl_listsOf (x : CollCtx) (s : State) : listsOf (runColl x s) = listsOf s := by
  unfold runColl; dsimp only; (repeat' split) <;> simp [*]

@[simp] theorem finishPraline_listsOf (x : CollCtx) (s : State) : listsOf (finishPraline x s) = listsOf s := by
  unfold finishPraline; (repeat' split) <;> simp

@[simp] theorem finishPralines_listsOf (sc : Score) (s : State) : listsOf (finishPralines sc s) = listsOf s := by
  unfold finishPralines; try dsimp only
  repeat' (first | rfl | (simp; done) | split | (refine (onScore_listsOf _ _ ?_).trans ?_; intros) | (refine (listsOf_foldl _ ?_ _ _).trans ?_; intros) | simp)

@[simp] theorem startColl_listsOf (x : CollCtx) (s : State) : listsOf (startColl x s) = listsOf s := by
  unfold startColl; (repeat' split) <;> simp

@[simp] theorem chunkNow_listsOf (sc : Score) (h1 : HeldChunk) (s : State) : listsOf (chunkNow sc h1 s) = listsOf s := by
  unfold chunkNow; dsimp only; (repeat' split) <;> simp [*]

@[simp] theorem takeChunk_listsOf (tagGood : Bool) (c : Chunk) (s : State) : listsOf (takeChunk tagGood c s) = listsOf s := by
  unfold takeChunk; dsimp only; (repeat' split) <;> simp [*]

@[simp] theorem takeEarly_listsOf (s : State) : listsOf (takeEarly s) = listsOf s := by
  unfold takeEarly; (repeat' split) <;> simp

@[simp] theorem reviewColl_listsOf (x : CollCtx) (s : State) : listsOf (reviewColl x s) = listsOf s := by
  unfold reviewColl; dsimp only; (repeat' split) <;> simp [*]

@[simp] theorem reviewColls_listsOf (s : State) : listsOf (reviewColls s) = listsOf s := by
  unfold reviewColls; try dsimp only
  repeat' (first | rfl | (simp; done) | split | (refine (onScore_listsOf _ _ ?_).trans ?_; intros) | (refine (listsOf_foldl _ ?_ _ _).trans ?_; intros) | simp)

@[simp] theorem pushHistory_listsOf (lrec : Bytes) (s : State) : listsOf (pushHistory lrec s) = listsOf s :=
  listsOf_of_ex (Keeps.ex ((pushHistory_keeps (m := 1048559) (s0 := s) lrec s (by decide)).mpr (Keeps.refl _ _)) (by decide))

@[simp] theorem reportLoss_listsOf (sc : Score) (s : State) : listsOf (reportLoss sc s) = listsOf s := by
  unfold reportLoss; (repeat' split) <;> simp

@[simp] theorem holdAtEnd_listsOf (s : State) : listsOf (holdAtEnd s) = listsOf s := by
  unfold holdAtEnd; (repeat' split) <;> simp

@[simp] theorem scaleStep_listsOf (v : Verdict) (s : State) : listsOf (scaleStep v s) = listsOf s := by
  unfold scaleStep; try dsimp only
  repeat' (first | rfl | (simp; done) | split | (refine (onScore_listsOf _ _ ?_).trans ?_; intros) | (refine (listsOf_foldl _ ?_ _ _).trans ?_; intros) | simp)

@[simp] theorem applyOutcome_listsOf (sc : Score) (s : State) : listsOf (applyOutcome sc s) = listsOf s := by
  unfold applyOutcome; dsimp only; (repeat' split) <;> simp [*]

@[simp] theorem releaseHeld_listsOf (accept : Bool) (sc : Score) (s : State) : listsOf (releaseHeld accept sc s) = listsOf s := by
  unfold releaseHeld; dsimp only; (repeat' split) <;> simp [*]

@[simp] theorem forcedVoid_listsOf (cause : W32) (s : State) : listsOf (forcedVoid cause s) = listsOf s := by
  unfold forcedVoid; (repeat' split) <;> simp

@[simp] theorem contribute_listsOf (sc : Score) (s : State) : listsOf (contribute sc s) = listsOf s := by
  unfold contribute; (repeat' split) <;> simp

@[simp] theorem settlePair_listsOf (sc : Score) (partner : Nat) (digest : Nat) (s : State) : listsOf (settlePair sc partner digest s) = listsOf s := by
  unfold settlePair; dsimp only; repeat' (first | rfl | (simp; done) | split | (apply listsOf_foldl <;> intros))

@[simp] theorem holdCommit_listsOf (s : State) : listsOf (holdCommit s) = listsOf s := by
  unfold holdCommit; dsimp only; (repeat' split) <;> simp [*]

@[simp] theorem takePairDigest_listsOf (m0 : PairDigestMsg) (s : State) : listsOf (takePairDigest m0 s) = listsOf s := by
  unfold takePairDigest; dsimp only; (repeat' split) <;> simp [*]

@[simp] theorem replayReduce_listsOf (sc : Score) (s : State) : listsOf (replayReduce sc s) = listsOf s := by
  unfold replayReduce; dsimp only; repeat' (first | rfl | (simp; done) | split | (apply listsOf_foldl <;> intros))

@[simp] theorem establishPoint_listsOf (s : State) : listsOf (establishPoint s) = listsOf s :=
  listsOf_of_ex (Keeps.ex ((establishPoint_keeps (m := 1015791) (s0 := s) s (by decide)).mpr (Keeps.refl _ _)) (by decide))

@[simp] theorem proofReplay_listsOf (sc : Score) (s : State) : listsOf (proofReplay sc s) = listsOf s := by
  unfold proofReplay; dsimp only; (repeat' split) <;> simp [*]

@[simp] theorem dropStale_listsOf (s : State) : listsOf (dropStale s) = listsOf s :=
  listsOf_of_ex (Keeps.ex ((dropStale_keeps (m := 1023983) (s0 := s) s (by decide)).mpr (Keeps.refl _ _)) (by decide))

@[simp] theorem decideVerdict_listsOf (sc : Score) (w : W64) (s : State) : listsOf (decideVerdict sc w s) = listsOf s := by
  unfold decideVerdict; dsimp only; (repeat' split) <;> simp [*]

@[simp] theorem completeVerdict_listsOf (sc : Score) (w : W64) (s : State) : listsOf (completeVerdict sc w s) = listsOf s := by
  unfold completeVerdict; dsimp only; (repeat' split) <;> simp [*]

@[simp] theorem secureWrite_listsOf (m0 : RemoteMsg) (holder : Nat) (blocks : List (Nat × Bytes)) (s : State) : listsOf (secureWrite m0 holder blocks s) = listsOf s :=
  listsOf_of_ex (Keeps.ex ((secureWrite_keeps (m := 1040367) (s0 := s) m0 holder blocks s (by decide)).mpr (Keeps.refl _ _)) (by decide))

@[simp] theorem secureRegion_listsOf (sc : Score) (s : State) (r : Nat × Nat × Nat × Nat) : listsOf (secureRegion sc s r) = listsOf s := by
  unfold secureRegion; (repeat' split) <;> simp

@[simp] theorem secureTheRecord_listsOf (sc : Score) (s : State) : listsOf (secureTheRecord sc s) = listsOf s :=
  listsOf_of_ex (Keeps.ex ((secureTheRecord_keeps (m := 1040367) (s0 := s) sc s (by decide)).mpr (Keeps.refl _ _)) (by decide))

@[simp] theorem dropAs_listsOf (st : LaneState) (tx : Bool) (p : Nat) (c : Nat) (s : State) : listsOf (dropAs st tx p c s) = listsOf s :=
  listsOf_of_ex (Keeps.ex ((dropAs_keeps (m := 970733) (s0 := s) st tx p c s (by decide)).mpr (Keeps.refl _ _)) (by decide))

@[simp] theorem dropLane_listsOf (tx : Bool) (p : Nat) (c : Nat) (s : State) : listsOf (dropLane tx p c s) = listsOf s :=
  listsOf_of_ex (Keeps.ex ((dropLane_keeps (m := 970733) (s0 := s) tx p c s (by decide)).mpr (Keeps.refl _ _)) (by decide))

@[simp] theorem beginSearch_listsOf (tx : Bool) (p : Nat) (c : Nat) (lost : Bool) (s : State) : listsOf (beginSearch tx p c lost s) = listsOf s :=
  listsOf_of_ex (Keeps.ex ((beginSearch_keeps (m := 970733) (s0 := s) tx p c lost s (by decide)).mpr (Keeps.refl _ _)) (by decide))

@[simp] theorem failRing_listsOf (tx : Bool) (p : Nat) (c : Nat) (s : State) : listsOf (failRing tx p c s) = listsOf s :=
  listsOf_of_ex (Keeps.ex ((failRing_keeps (m := 970733) (s0 := s) tx p c s (by decide)).mpr (Keeps.refl _ _)) (by decide))

@[simp] theorem rxIntoService_listsOf (p : Nat) (c : Nat) (s : State) : listsOf (rxIntoService p c s) = listsOf s :=
  listsOf_of_ex (Keeps.ex ((rxIntoService_keeps (m := 1036269) (s0 := s) p c s (by decide)).mpr (Keeps.refl _ _)) (by decide))

@[simp] theorem reachable_listsOf (p : Nat) (c : Nat) (s : State) : listsOf (reachable p c s) = listsOf s :=
  listsOf_of_ex (Keeps.ex ((reachable_keeps (m := 1040383) (s0 := s) p c s (by decide)).mpr (Keeps.refl _ _)) (by decide))

@[simp] theorem txIntoService_listsOf (p : Nat) (c : Nat) (s : State) : listsOf (txIntoService p c s) = listsOf s :=
  listsOf_of_ex (Keeps.ex ((txIntoService_keeps (m := 1036269) (s0 := s) p c s (by decide)).mpr (Keeps.refl _ _)) (by decide))

@[simp] theorem parkRings_listsOf (tx : Bool) (p : Nat) (s : State) : listsOf (parkRings tx p s) = listsOf s :=
  listsOf_of_ex (Keeps.ex ((parkRings_keeps (m := 1036287) (s0 := s) tx p s (by decide)).mpr (Keeps.refl _ _)) (by decide))

@[simp] theorem sweepAnchor_listsOf (tx : Bool) (p : Nat) (s : State) : listsOf (sweepAnchor tx p s) = listsOf s :=
  listsOf_of_ex (Keeps.ex ((sweepAnchor_keeps (m := 1044479) (s0 := s) tx p s (by decide)).mpr (Keeps.refl _ _)) (by decide))

@[simp] theorem setDataRings_listsOf (tx : Bool) (p : Nat) (s : State) : listsOf (setDataRings tx p s) = listsOf s :=
  listsOf_of_ex (Keeps.ex ((setDataRings_keeps (m := 1044479) (s0 := s) tx p s (by decide)).mpr (Keeps.refl _ _)) (by decide))

@[simp] theorem portOn_listsOf (p : Nat) (s : State) : listsOf (portOn p s) = listsOf s :=
  listsOf_of_ex (Keeps.ex ((portOn_keeps (m := 1044479) (s0 := s) p s (by decide)).mpr (Keeps.refl _ _)) (by decide))

@[simp] theorem lightLasers_listsOf (which : Nat → Bool) (s : State) : listsOf (lightLasers which s) = listsOf s :=
  listsOf_of_ex (Keeps.ex ((lightLasers_keeps (m := 1044479) (s0 := s) which s (by decide)).mpr (Keeps.refl _ _)) (by decide))

@[simp] theorem lightAll_listsOf (s : State) : listsOf (lightAll s) = listsOf s :=
  listsOf_of_ex (Keeps.ex ((lightAll_keeps (m := 1044479) (s0 := s) s (by decide)).mpr (Keeps.refl _ _)) (by decide))

@[simp] theorem txAnchorFound_listsOf (p : Nat) (s : State) : listsOf (txAnchorFound p s) = listsOf s :=
  listsOf_of_ex (Keeps.ex ((txAnchorFound_keeps (m := 1044479) (s0 := s) p s (by decide)).mpr (Keeps.refl _ _)) (by decide))

@[simp] theorem rxAnchorFound_listsOf (p : Nat) (s : State) : listsOf (rxAnchorFound p s) = listsOf s :=
  listsOf_of_ex (Keeps.ex ((rxAnchorFound_keeps (m := 1044479) (s0 := s) p s (by decide)).mpr (Keeps.refl _ _)) (by decide))

@[simp] theorem commissionPort_listsOf (p : Nat) (s : State) : listsOf (commissionPort p s) = listsOf s :=
  listsOf_of_ex (Keeps.ex ((commissionPort_keeps (m := 774143) (s0 := s) p s (by decide)).mpr (Keeps.refl _ _)) (by decide))

@[simp] theorem commissionAll_listsOf (s : State) : listsOf (commissionAll s) = listsOf s :=
  listsOf_of_ex (Keeps.ex ((commissionAll_keeps (m := 774143) (s0 := s) s (by decide)).mpr (Keeps.refl _ _)) (by decide))

@[simp] theorem plantEvent_listsOf (p : Nat) (c : Nat) (s : State) : listsOf (plantEvent p c s) = listsOf s :=
  listsOf_of_ex (Keeps.ex ((plantEvent_keeps (m := 978927) (s0 := s) p c s (by decide)).mpr (Keeps.refl _ _)) (by decide))

@[simp] theorem plantVerdict_listsOf (p : Nat) (c : Nat) (source : Nat) (s : State) : listsOf (plantVerdict p c source s) = listsOf s :=
  listsOf_of_ex (Keeps.ex ((plantVerdict_keeps (m := 970733) (s0 := s) p c source s (by decide)).mpr (Keeps.refl _ _)) (by decide))

@[simp] theorem searchExhausted_listsOf (tx : Bool) (p : Nat) (c : Nat) (s : State) : listsOf (searchExhausted tx p c s) = listsOf s :=
  listsOf_of_ex (Keeps.ex ((searchExhausted_keeps (m := 970733) (s0 := s) tx p c s (by decide)).mpr (Keeps.refl _ _)) (by decide))

@[simp] theorem rejectLine_listsOf (tx : Bool) (p : Nat) (c : Nat) (s : State) : listsOf (rejectLine tx p c s) = listsOf s :=
  listsOf_of_ex (Keeps.ex ((rejectLine_keeps (m := 970733) (s0 := s) tx p c s (by decide)).mpr (Keeps.refl _ _)) (by decide))

@[simp] theorem mismatchVerdict_listsOf (p : Nat) (c : Nat) (source : Nat) (sourcePort : Nat) (colour : Nat) (s : State) : listsOf (mismatchVerdict p c source sourcePort colour s) = listsOf s :=
  listsOf_of_ex (Keeps.ex ((mismatchVerdict_keeps (m := 970733) (s0 := s) p c source sourcePort colour s (by decide)).mpr (Keeps.refl _ _)) (by decide))

@[simp] theorem takeNotice_listsOf (p : Nat) (source : Nat) (code : Nat) (colour : Nat) (s : State) : listsOf (takeNotice p source code colour s) = listsOf s :=
  listsOf_of_ex (Keeps.ex ((takeNotice_keeps (m := 970733) (s0 := s) p source code colour s (by decide)).mpr (Keeps.refl _ _)) (by decide))

@[simp] theorem takeLaneState_listsOf (p : Nat) (c : Nat) (code : Nat) (s : State) : listsOf (takeLaneState p c code s) = listsOf s :=
  listsOf_of_ex (Keeps.ex ((takeLaneState_keeps (m := 1044479) (s0 := s) p c code s (by decide)).mpr (Keeps.refl _ _)) (by decide))

@[simp] theorem judgeFrame_listsOf (p : Nat) (c : Nat) (f : FrameFields) (s : State) : listsOf (judgeFrame p c f s) = listsOf s :=
  listsOf_of_ex (Keeps.ex ((judgeFrame_keeps (m := 970733) (s0 := s) p c f s (by decide)).mpr (Keeps.refl _ _)) (by decide))

@[simp] theorem failSpare_listsOf (tx : Bool) (p : Nat) (s : State) : listsOf (failSpare tx p s) = listsOf s :=
  listsOf_of_ex (Keeps.ex ((failSpare_keeps (m := 970733) (s0 := s) tx p s (by decide)).mpr (Keeps.refl _ _)) (by decide))

@[simp] theorem takeForSlot_listsOf (p : Nat) (c : Nat) (s : State) : listsOf (takeForSlot p c s) = listsOf s :=
  listsOf_of_ex (Keeps.ex ((takeForSlot_keeps (m := 1044477) (s0 := s) p c s (by decide)).mpr (Keeps.refl _ _)) (by decide))

@[simp] theorem withLaser_listsOf (n : Nat) (x : Laser) (s : State) : listsOf (withLaser n x s) = listsOf s :=
  listsOf_of_ex (Keeps.ex ((withLaser_keeps (m := 1044479) (s0 := s) n x s (by decide)).mpr (Keeps.refl _ _)) (by decide))

@[simp] theorem withSpareLaser_listsOf (n : Nat) (x : SpareLaser) (s : State) : listsOf (withSpareLaser n x s) = listsOf s :=
  listsOf_of_ex (Keeps.ex ((withSpareLaser_keeps (m := 1044479) (s0 := s) n x s (by decide)).mpr (Keeps.refl _ _)) (by decide))

@[simp] theorem finishSwitch_listsOf (w : Switchover) (s : State) : listsOf (finishSwitch w s) = listsOf s :=
  listsOf_of_ex (Keeps.ex ((finishSwitch_keeps (m := 978927) (s0 := s) w s (by decide)).mpr (Keeps.refl _ _)) (by decide))

@[simp] theorem switchPort_listsOf (p : Nat) (laser : Nat) (s : State) : listsOf (switchPort p laser s) = listsOf s :=
  listsOf_of_ex (Keeps.ex ((switchPort_keeps (m := 978927) (s0 := s) p laser s (by decide)).mpr (Keeps.refl _ _)) (by decide))

@[simp] theorem endSlotLane_listsOf (p : Nat) (c : Nat) (back : Bool) (farOff : Bool) (s : State) : listsOf (endSlotLane p c back farOff s) = listsOf s :=
  listsOf_of_ex (Keeps.ex ((endSlotLane_keeps (m := 970733) (s0 := s) p c back farOff s (by decide)).mpr (Keeps.refl _ _)) (by decide))

@[simp] theorem noSpareLeft_listsOf (laser : Nat) (s : State) : listsOf (noSpareLeft laser s) = listsOf s :=
  listsOf_of_ex (Keeps.ex ((noSpareLeft_keeps (m := 978927) (s0 := s) laser s (by decide)).mpr (Keeps.refl _ _)) (by decide))

@[simp] theorem dropGroup_listsOf (laser : Nat) (s : State) : listsOf (dropGroup laser s) = listsOf s :=
  listsOf_of_ex (Keeps.ex ((dropGroup_keeps (m := 970733) (s0 := s) laser s (by decide)).mpr (Keeps.refl _ _)) (by decide))

@[simp] theorem needSpare_listsOf (laser : Nat) (sudden : Bool) (s : State) : listsOf (needSpare laser sudden s) = listsOf s :=
  listsOf_of_ex (Keeps.ex ((needSpare_keeps (m := 970733) (s0 := s) laser sudden s (by decide)).mpr (Keeps.refl _ _)) (by decide))

@[simp] theorem judgePower_listsOf (laser : Nat) (reading : Nat) (readings : List Nat) (s : State) : listsOf (judgePower laser reading readings s) = listsOf s :=
  listsOf_of_ex (Keeps.ex ((judgePower_keeps (m := 970733) (s0 := s) laser reading readings s (by decide)).mpr (Keeps.refl _ _)) (by decide))

@[simp] theorem portOut_listsOf (s : State) (p : Nat) : listsOf (portOut s p) = listsOf s :=
  listsOf_of_ex (Keeps.ex ((portOut_keeps (m := 1036285) (s0 := s) s p (by decide)).mpr (Keeps.refl _ _)) (by decide))

@[simp] theorem lanesOut_listsOf (s : State) : listsOf (lanesOut s) = listsOf s :=
  listsOf_of_ex (Keeps.ex ((lanesOut_keeps (m := 1036285) (s0 := s) s (by decide)).mpr (Keeps.refl _ _)) (by decide))

@[simp] theorem photonicsDoze_listsOf (s : State) : listsOf (photonicsDoze s) = listsOf s :=
  listsOf_of_ex (Keeps.ex ((photonicsDoze_keeps (m := 1044479) (s0 := s) s (by decide)).mpr (Keeps.refl _ _)) (by decide))

@[simp] theorem photonicsWake_listsOf (s : State) : listsOf (photonicsWake s) = listsOf s :=
  listsOf_of_ex (Keeps.ex ((photonicsWake_keeps (m := 1044479) (s0 := s) s (by decide)).mpr (Keeps.refl _ _)) (by decide))

@[simp] theorem photonicsDark_listsOf (s : State) : listsOf (photonicsDark s) = listsOf s :=
  listsOf_of_ex (Keeps.ex ((photonicsDark_keeps (m := 1036287) (s0 := s) s (by decide)).mpr (Keeps.refl _ _)) (by decide))

@[simp] theorem settleStacks_listsOf (s : State) : listsOf (settleStacks s) = listsOf s :=
  listsOf_of_ex (Keeps.ex ((settleStacks_keeps (m := 1048063) (s0 := s) s (by decide)).mpr (Keeps.refl _ _)) (by decide))

@[simp] theorem gateChange_listsOf (before : State) (s : State) : listsOf (gateChange before s) = listsOf s :=
  listsOf_of_ex (Keeps.ex ((gateChange_keeps (m := 1035773) (s0 := s) before s (by decide)).mpr (Keeps.refl _ _)) (by decide))

@[simp] theorem takeIncrement_listsOf (sc : Score) (s : State) (m2 : TokenMsg) : listsOf (takeIncrement sc s m2) = listsOf s := by
  unfold takeIncrement; (repeat' split) <;> simp

@[simp] theorem markLate_listsOf (s : State) : listsOf (markLate s) = listsOf s :=
  listsOf_of_ex (Keeps.ex ((markLate_keeps (m := 1048559) (s0 := s) s (by decide)).mpr (Keeps.refl _ _)) (by decide))

@[simp] theorem measureStep_listsOf (sc : Score) (s : State) : listsOf (measureStep sc s) = listsOf s :=
  listsOf_of_ex (Keeps.ex ((measureStep_keeps (m := 983023) (s0 := s) sc s (by decide)).mpr (Keeps.refl _ _)) (by decide))

@[simp] theorem reportWatch_listsOf (s : State) : listsOf (reportWatch s) = listsOf s :=
  listsOf_of_ex (Keeps.ex ((reportWatch_keeps (m := 983023) (s0 := s) s (by decide)).mpr (Keeps.refl _ _)) (by decide))

@[simp] theorem returnCores_listsOf (s : State) : listsOf (returnCores s) = listsOf s :=
  listsOf_of_ex (Keeps.ex ((returnCores_keeps (m := 523903) (s0 := s) s (by decide)).mpr (Keeps.refl _ _)) (by decide))

@[simp] theorem askRepair_listsOf (sc : Score) (t1 : Nat) (n : Nat) (stripe : Nat) (s : State) : listsOf (askRepair sc t1 n stripe s) = listsOf s :=
  listsOf_of_ex (Keeps.ex ((askRepair_keeps (m := 1007599) (s0 := s) sc t1 n stripe s (by decide)).mpr (Keeps.refl _ _)) (by decide))

@[simp] theorem askGathered_listsOf (x : CollCtx) (s : State) (p : Nat × Nat) : listsOf (askGathered x s p) = listsOf s :=
  listsOf_of_ex (Keeps.ex ((askGathered_keeps (m := 1007599) (s0 := s) x s p (by decide)).mpr (Keeps.refl _ _)) (by decide))

@[simp] theorem beginRepairs_listsOf (sc : Score) (s : State) : listsOf (beginRepairs sc s) = listsOf s :=
  listsOf_of_ex (Keeps.ex ((beginRepairs_keeps (m := 1007599) (s0 := s) sc s (by decide)).mpr (Keeps.refl _ _)) (by decide))

@[simp] theorem endSession_listsOf (n : Nat) (s : State) : listsOf (endSession n s) = listsOf s :=
  listsOf_of_ex (Keeps.ex ((endSession_keeps (m := 851951) (s0 := s) n s (by decide)).mpr (Keeps.refl _ _)) (by decide))

@[simp] theorem destroyKeys_listsOf (s : State) : listsOf (destroyKeys s) = listsOf s :=
  listsOf_of_ex (Keeps.ex ((destroyKeys_keeps (m := 909307) (s0 := s) s (by decide)).mpr (Keeps.refl _ _)) (by decide))

@[simp] theorem forgetMemory_listsOf (s : State) : listsOf (forgetMemory s) = listsOf s :=
  listsOf_of_ex (Keeps.ex ((forgetMemory_keeps (m := 1048063) (s0 := s) s (by decide)).mpr (Keeps.refl _ _)) (by decide))

@[simp] theorem closeSoon_listsOf (s : State) : listsOf (closeSoon s) = listsOf s :=
  listsOf_of_ex (Keeps.ex ((closeSoon_keeps (m := 983039) (s0 := s) s (by decide)).mpr (Keeps.refl _ _)) (by decide))

@[simp] theorem holdNow_listsOf (s : State) : listsOf (holdNow s) = listsOf s := by
  unfold holdNow; dsimp only; repeat' (first | rfl | (simp; done) | split | (apply listsOf_foldl <;> intros))

@[simp] theorem releaseNow_listsOf (s : State) : listsOf (releaseNow s) = listsOf s := by
  unfold releaseNow; (repeat' split) <;> simp

@[simp] theorem joinNow_listsOf (s : State) : listsOf (joinNow s) = listsOf s :=
  listsOf_of_ex (Keeps.ex ((joinNow_keeps (m := 851427) (s0 := s) s (by decide)).mpr (Keeps.refl _ _)) (by decide))

@[simp] theorem raiseMinimum_listsOf (s : State) : listsOf (raiseMinimum s) = listsOf s :=
  listsOf_of_ex (Keeps.ex ((raiseMinimum_keeps (m := 851951) (s0 := s) s (by decide)).mpr (Keeps.refl _ _)) (by decide))

@[simp] theorem joinCommand_listsOf (src : Nat) (dst : Nat) (msg : Nat) (s : State) : listsOf (joinCommand src dst msg s) = listsOf s :=
  listsOf_of_ex (Keeps.ex ((joinCommand_keeps (m := 851425) (s0 := s) src dst msg s (by decide)).mpr (Keeps.refl _ _)) (by decide))

@[simp] theorem copyConstants_listsOf (sc : Score) (s : State) : listsOf (copyConstants sc s) = listsOf s :=
  listsOf_of_ex (Keeps.ex ((copyConstants_keeps (m := 1048041) (s0 := s) sc s (by decide)).mpr (Keeps.refl _ _)) (by decide))

@[simp] theorem deriveParcelKey_listsOf (point : Nat) (s : State) : listsOf (deriveParcelKey point s) = listsOf s :=
  listsOf_of_ex (Keeps.ex ((deriveParcelKey_keeps (m := 1040383) (s0 := s) point s (by decide)).mpr (Keeps.refl _ _)) (by decide))

@[simp] theorem takeHops_listsOf (m0 : FrameMark) (s : State) : listsOf (takeHops m0 s) = listsOf s :=
  listsOf_of_ex (Keeps.ex ((takeHops_keeps (m := 1048559) (s0 := s) m0 s (by decide)).mpr (Keeps.refl _ _)) (by decide))

@[simp] theorem frameBoundary_listsOf (s : State) : listsOf (frameBoundary s) = listsOf s :=
  listsOf_of_ex (Keeps.ex ((frameBoundary_keeps (m := 720879) (s0 := s) s (by decide)).mpr (Keeps.refl _ _)) (by decide))

@[simp] theorem measureFrame_listsOf (s : State) : listsOf (measureFrame s) = listsOf s :=
  listsOf_of_ex (Keeps.ex ((measureFrame_keeps (m := 786431) (s0 := s) s (by decide)).mpr (Keeps.refl _ _)) (by decide))

@[simp] theorem stepTimeForward_listsOf (node : Nat) (s : State) : listsOf (stepTimeForward node s) = listsOf s :=
  listsOf_of_ex (Keeps.ex ((stepTimeForward_keeps (m := 786431) (s0 := s) node s (by decide)).mpr (Keeps.refl _ _)) (by decide))

@[simp] theorem report32_listsOf (v : Int) (s : State) : listsOf (report32 v s) = listsOf s :=
  listsOf_of_ex (Keeps.ex ((report32_keeps (m := 1048555) (s0 := s) v s (by decide)).mpr (Keeps.refl _ _)) (by decide))

@[simp] theorem trimToMarks_listsOf (node : Nat) (s : State) : listsOf (trimToMarks node s) = listsOf s :=
  listsOf_of_ex (Keeps.ex ((trimToMarks_keeps (m := 786411) (s0 := s) node s (by decide)).mpr (Keeps.refl _ _)) (by decide))

@[simp] theorem readMark_listsOf (m0 : FrameMark) (s : State) : listsOf (readMark m0 s) = listsOf s :=
  listsOf_of_ex (Keeps.ex ((readMark_keeps (m := 983023) (s0 := s) m0 s (by decide)).mpr (Keeps.refl _ _)) (by decide))

@[simp] theorem dropPart_listsOf (src : Nat) (sess : Nat) (msg : Nat) (s : State) : listsOf (dropPart src sess msg s) = listsOf s :=
  listsOf_of_ex (Keeps.ex ((dropPart_keeps (m := 983039) (s0 := s) src sess msg s (by decide)).mpr (Keeps.refl _ _)) (by decide))

@[simp] theorem putPart_listsOf (p : PartMsg) (s : State) : listsOf (putPart p s) = listsOf s :=
  listsOf_of_ex (Keeps.ex ((putPart_keeps (m := 983039) (s0 := s) p s (by decide)).mpr (Keeps.refl _ _)) (by decide))

@[simp] theorem putInbox_listsOf (p : PartMsg) (s : State) : listsOf (putInbox p s) = listsOf s :=
  listsOf_of_ex (Keeps.ex ((putInbox_keeps (m := 983039) (s0 := s) p s (by decide)).mpr (Keeps.refl _ _)) (by decide))

@[simp] theorem takeMsg_listsOf (typ : Nat) (sess : Nat) (s : State) : listsOf (takeMsg typ sess s) = listsOf s :=
  listsOf_of_ex (Keeps.ex ((takeMsg_keeps (m := 983039) (s0 := s) typ sess s (by decide)).mpr (Keeps.refl _ _)) (by decide))

@[simp] theorem protocolError_listsOf (q : Req) (head : Bytes) (write : Bool) (code : Nat) (s : State) : listsOf (protocolError q head write code s) = listsOf s :=
  listsOf_of_ex (Keeps.ex ((protocolError_keeps (m := 851949) (s0 := s) q head write code s (by decide)).mpr (Keeps.refl _ _)) (by decide))

@[simp] theorem messageDone_listsOf (p : PartMsg) (s : State) : listsOf (messageDone p s) = listsOf s :=
  listsOf_of_ex (Keeps.ex ((messageDone_keeps (m := 851949) (s0 := s) p s (by decide)).mpr (Keeps.refl _ _)) (by decide))

@[simp] theorem takeSlot_listsOf (x : Slot) (s : State) : listsOf (takeSlot x s) = listsOf s :=
  listsOf_of_ex (Keeps.ex ((takeSlot_keeps (m := 851949) (s0 := s) x s (by decide)).mpr (Keeps.refl _ _)) (by decide))

@[simp] theorem slotLeft_listsOf (m0 : OutMsg) (last : Bool) (s : State) : listsOf (slotLeft m0 last s) = listsOf s :=
  listsOf_of_ex (Keeps.ex ((slotLeft_keeps (m := 917503) (s0 := s) m0 last s (by decide)).mpr (Keeps.refl _ _)) (by decide))

@[simp] theorem fillSlot_listsOf (x : Slot) (s : State) : listsOf (fillSlot x s) = listsOf s :=
  listsOf_of_ex (Keeps.ex ((fillSlot_keeps (m := 851965) (s0 := s) x s (by decide)).mpr (Keeps.refl _ _)) (by decide))

@[simp] theorem sendEvent_listsOf (e : Event) (s : State) : listsOf (sendEvent e s) = listsOf s :=
  listsOf_of_ex (Keeps.ex ((sendEvent_keeps (m := 983037) (s0 := s) e s (by decide)).mpr (Keeps.refl _ _)) (by decide))

@[simp] theorem sendFirst_listsOf (s : State) : listsOf (sendFirst s) = listsOf s :=
  listsOf_of_ex (Keeps.ex ((sendFirst_keeps (m := 983037) (s0 := s) s (by decide)).mpr (Keeps.refl _ _)) (by decide))

@[simp] theorem sendLost_listsOf (k : Nat) (n : Nat) (s : State) : listsOf (sendLost k n s) = listsOf s :=
  listsOf_of_ex (Keeps.ex ((sendLost_keeps (m := 983021) (s0 := s) k n s (by decide)).mpr (Keeps.refl _ _)) (by decide))

@[simp] theorem withChan_listsOf (c : Nat) (x : BulkChan) (s : State) : listsOf (withChan c x s) = listsOf s :=
  listsOf_of_ex (Keeps.ex ((withChan_keeps (m := 983039) (s0 := s) c x s (by decide)).mpr (Keeps.refl _ _)) (by decide))

@[simp] theorem sendChanBlock_listsOf (c : Nat) (x : BulkChan) (k : Nat) (s : State) : listsOf (sendChanBlock c x k s) = listsOf s :=
  listsOf_of_ex (Keeps.ex ((sendChanBlock_keeps (m := 982505) (s0 := s) c x k s (by decide)).mpr (Keeps.refl _ _)) (by decide))

@[simp] theorem pumpChan_listsOf (c : Nat) (a1 : Nat) (a2 : State) : listsOf (pumpChan c a1 a2) = listsOf a2 :=
  listsOf_of_ex (Keeps.ex ((pumpChan_keeps (m := 982505) (s0 := a2) c a1 a2 (by decide)).mpr (Keeps.refl _ _)) (by decide))

@[simp] theorem pumpChans_listsOf (s : State) : listsOf (pumpChans s) = listsOf s :=
  listsOf_of_ex (Keeps.ex ((pumpChans_keeps (m := 982505) (s0 := s) s (by decide)).mpr (Keeps.refl _ _)) (by decide))

@[simp] theorem noteStaged_listsOf (x : BulkChan) (s : State) : listsOf (noteStaged x s) = listsOf s :=
  listsOf_of_ex (Keeps.ex ((noteStaged_keeps (m := 1048559) (s0 := s) x s (by decide)).mpr (Keeps.refl _ _)) (by decide))

@[simp] theorem bulkReceived_listsOf (b : Block) (s : State) : listsOf (bulkReceived b s) = listsOf s :=
  listsOf_of_ex (Keeps.ex ((bulkReceived_keeps (m := 983037) (s0 := s) b s (by decide)).mpr (Keeps.refl _ _)) (by decide))

@[simp] theorem chanResend_listsOf (c : Nat) (k : Nat) (s : State) : listsOf (chanResend c k s) = listsOf s :=
  listsOf_of_ex (Keeps.ex ((chanResend_keeps (m := 982505) (s0 := s) c k s (by decide)).mpr (Keeps.refl _ _)) (by decide))

@[simp] theorem dropTransfer_listsOf (t0 : Transfer) (s : State) : listsOf (dropTransfer t0 s) = listsOf s :=
  listsOf_of_ex (Keeps.ex ((dropTransfer_keeps (m := 983039) (s0 := s) t0 s (by decide)).mpr (Keeps.refl _ _)) (by decide))

@[simp] theorem putTransfer_listsOf (t0 : Transfer) (s : State) : listsOf (putTransfer t0 s) = listsOf s :=
  listsOf_of_ex (Keeps.ex ((putTransfer_keeps (m := 983039) (s0 := s) t0 s (by decide)).mpr (Keeps.refl _ _)) (by decide))

@[simp] theorem pumpTransfer_listsOf (sess : Nat) (msg : Nat) (a2 : Nat) (a3 : State) : listsOf (pumpTransfer sess msg a2 a3) = listsOf a3 :=
  listsOf_of_ex (Keeps.ex ((pumpTransfer_keeps (m := 983037) (s0 := a3) sess msg a2 a3 (by decide)).mpr (Keeps.refl _ _)) (by decide))

@[simp] theorem transferResend_listsOf (t0 : Transfer) (k : Nat) (s : State) : listsOf (transferResend t0 k s) = listsOf s :=
  listsOf_of_ex (Keeps.ex ((transferResend_keeps (m := 851965) (s0 := s) t0 k s (by decide)).mpr (Keeps.refl _ _)) (by decide))

@[simp] theorem blockAcked_listsOf (a : BlockAck) (s : State) : listsOf (blockAcked a s) = listsOf s :=
  listsOf_of_ex (Keeps.ex ((blockAcked_keeps (m := 851433) (s0 := s) a s (by decide)).mpr (Keeps.refl _ _)) (by decide))

@[simp] theorem countRelief_listsOf (half : Nat) (s : State) : listsOf (countRelief half s) = listsOf s :=
  listsOf_of_ex (Keeps.ex ((countRelief_keeps (m := 851951) (s0 := s) half s (by decide)).mpr (Keeps.refl _ _)) (by decide))

@[simp] theorem rebind_listsOf (half : Nat) (ps : List (Nat × Nat)) (s : State) : listsOf (rebind half ps s) = listsOf s :=
  listsOf_of_ex (Keeps.ex ((rebind_keeps (m := 524031) (s0 := s) half ps s (by decide)).mpr (Keeps.refl _ _)) (by decide))

@[simp] theorem beginTest_listsOf (half : Nat) (core : Nat) (relief : Option Nat) (s : State) : listsOf (beginTest half core relief s) = listsOf s :=
  listsOf_of_ex (Keeps.ex ((beginTest_keeps (m := 524159) (s0 := s) half core relief s (by decide)).mpr (Keeps.refl _ _)) (by decide))

@[simp] theorem relieve_listsOf (half : Nat) (core : Nat) (r : Nat) (s : State) : listsOf (relieve half core r s) = listsOf s :=
  listsOf_of_ex (Keeps.ex ((relieve_keeps (m := 524159) (s0 := s) half core r s (by decide)).mpr (Keeps.refl _ _)) (by decide))

@[simp] theorem forgetHalf_listsOf (half : Nat) (s : State) : listsOf (forgetHalf half s) = listsOf s :=
  listsOf_of_ex (Keeps.ex ((forgetHalf_keeps (m := 1048443) (s0 := s) half s (by decide)).mpr (Keeps.refl _ _)) (by decide))

@[simp] theorem forgetShared_listsOf (die : Nat) (s : State) : listsOf (forgetShared die s) = listsOf s :=
  listsOf_of_ex (Keeps.ex ((forgetShared_keeps (m := 1048063) (s0 := s) die s (by decide)).mpr (Keeps.refl _ _)) (by decide))

@[simp] theorem forgetCache_listsOf (q : Nat) (s : State) : listsOf (forgetCache q s) = listsOf s :=
  listsOf_of_ex (Keeps.ex ((forgetCache_keeps (m := 1048063) (s0 := s) q s (by decide)).mpr (Keeps.refl _ _)) (by decide))

@[simp] theorem forgetStack_listsOf (k : Nat) (s : State) : listsOf (forgetStack k s) = listsOf s :=
  listsOf_of_ex (Keeps.ex ((forgetStack_keeps (m := 1048063) (s0 := s) k s (by decide)).mpr (Keeps.refl _ _)) (by decide))

@[simp] theorem forgetTarget_listsOf (kind : Nat) (target : Nat) (s : State) : listsOf (forgetTarget kind target s) = listsOf s :=
  listsOf_of_ex (Keeps.ex ((forgetTarget_keeps (m := 1047931) (s0 := s) kind target s (by decide)).mpr (Keeps.refl _ _)) (by decide))

@[simp] theorem selfTest_listsOf (kind : Nat) (q : Req) (target : Nat) (reserved : Nat) (s : State) : listsOf (selfTest kind q target reserved s) = listsOf s :=
  listsOf_of_ex (Keeps.ex ((selfTest_keeps (m := 327661) (s0 := s) kind q target reserved s (by decide)).mpr (Keeps.refl _ _)) (by decide))

@[simp] theorem endSelfTest_listsOf (code : Nat) (s : State) : listsOf (endSelfTest code s) = listsOf s :=
  listsOf_of_ex (Keeps.ex ((endSelfTest_keeps (m := 523627) (s0 := s) code s (by decide)).mpr (Keeps.refl _ _)) (by decide))

@[simp] theorem forgetDies_listsOf (sel : BitVec 40) (s : State) : listsOf (forgetDies sel s) = listsOf s :=
  listsOf_of_ex (Keeps.ex ((forgetDies_keeps (m := 1047931) (s0 := s) sel s (by decide)).mpr (Keeps.refl _ _)) (by decide))

@[simp] theorem loadInstr_listsOf (ir : BitVec 8) (intrusive : Bool) (s : State) : listsOf (loadInstr ir intrusive s) = listsOf s :=
  listsOf_of_ex (Keeps.ex ((loadInstr_keeps (m := 523643) (s0 := s) ir intrusive s (by decide)).mpr (Keeps.refl _ _)) (by decide))

@[simp] theorem stopArea1_listsOf (s : State) : listsOf (stopArea1 s) = listsOf s :=
  listsOf_of_ex (Keeps.ex ((stopArea1_keeps (m := 1048047) (s0 := s) s (by decide)).mpr (Keeps.refl _ _)) (by decide))

@[simp] theorem failFinish_listsOf (n : Nat) (code : Nat) (s : State) : listsOf (failFinish n code s) = listsOf s :=
  listsOf_of_ex (Keeps.ex ((failFinish_keeps (m := 851949) (s0 := s) n code s (by decide)).mpr (Keeps.refl _ _)) (by decide))

@[simp] theorem establish_listsOf (m0 : FinishMsg) (s : State) : listsOf (establish m0 s) = listsOf s :=
  listsOf_of_ex (Keeps.ex ((establish_keeps (m := 64873) (s0 := s) m0 s (by decide)).mpr (Keeps.refl _ _)) (by decide))

@[simp] theorem eraseRange_listsOf (a : Nat) (n : Nat) (s : State) : listsOf (eraseRange a n s) = listsOf s :=
  listsOf_of_ex (Keeps.ex ((eraseRange_keeps (m := 1048063) (s0 := s) a n s (by decide)).mpr (Keeps.refl _ _)) (by decide))

@[simp] theorem removeRegion_listsOf (num : Nat) (s : State) : listsOf (removeRegion num s) = listsOf s :=
  listsOf_of_ex (Keeps.ex ((removeRegion_keeps (m := 916991) (s0 := s) num s (by decide)).mpr (Keeps.refl _ _)) (by decide))

@[simp] theorem installRegion_listsOf (num : Nat) (base : Nat) (length : Nat) (key : BitVec 512) (s : State) : listsOf (installRegion num base length key s) = listsOf s :=
  listsOf_of_ex (Keeps.ex ((installRegion_keeps (m := 916991) (s0 := s) num base length key s (by decide)).mpr (Keeps.refl _ _)) (by decide))

@[simp] theorem failUpdate_listsOf (code : Nat) (s : State) : listsOf (failUpdate code s) = listsOf s :=
  listsOf_of_ex (Keeps.ex ((failUpdate_keeps (m := 851949) (s0 := s) code s (by decide)).mpr (Keeps.refl _ _)) (by decide))

@[simp] theorem replaceImage_listsOf (p : PendWrite) (img : FwImage) (s : State) : listsOf (replaceImage p img s) = listsOf s :=
  listsOf_of_ex (Keeps.ex ((replaceImage_keeps (m := 851949) (s0 := s) p img s (by decide)).mpr (Keeps.refl _ _)) (by decide))

@[simp] theorem stowNow_listsOf (s : State) : listsOf (stowNow s) = listsOf s :=
  listsOf_of_ex (Keeps.ex ((stowNow_keeps (m := 248175) (s0 := s) s (by decide)).mpr (Keeps.refl _ _)) (by decide))

@[simp] theorem leaveStow_listsOf (s : State) : listsOf (leaveStow s) = listsOf s :=
  listsOf_of_ex (Keeps.ex ((leaveStow_keeps (m := 772479) (s0 := s) s (by decide)).mpr (Keeps.refl _ _)) (by decide))

@[simp] theorem settleOptics_listsOf (s : State) : listsOf (settleOptics s) = listsOf s :=
  listsOf_of_ex (Keeps.ex ((settleOptics_keeps (m := 1036285) (s0 := s) s (by decide)).mpr (Keeps.refl _ _)) (by decide))

@[simp] theorem powerDone_listsOf (s : State) : listsOf (powerDone s) = listsOf s :=
  listsOf_of_ex (Keeps.ex ((powerDone_keeps (m := 577517) (s0 := s) s (by decide)).mpr (Keeps.refl _ _)) (by decide))

@[simp] theorem requestPower_listsOf (v : Nat) (s : State) : listsOf (requestPower v s) = listsOf s :=
  listsOf_of_ex (Keeps.ex ((requestPower_keeps (m := 51309) (s0 := s) v s (by decide)).mpr (Keeps.refl _ _)) (by decide))

@[simp] theorem intoHush_listsOf (s : State) : listsOf (intoHush s) = listsOf s :=
  listsOf_of_ex (Keeps.ex ((intoHush_keeps (m := 773613) (s0 := s) s (by decide)).mpr (Keeps.refl _ _)) (by decide))

@[simp] theorem downTo_listsOf (s : State) : listsOf (downTo s) = listsOf s :=
  listsOf_of_ex (Keeps.ex ((downTo_keeps (m := 248173) (s0 := s) s (by decide)).mpr (Keeps.refl _ _)) (by decide))

@[simp] theorem upTo_listsOf (s : State) : listsOf (upTo s) = listsOf s :=
  listsOf_of_ex (Keeps.ex ((upTo_keeps (m := 773629) (s0 := s) s (by decide)).mpr (Keeps.refl _ _)) (by decide))

@[simp] theorem report_listsOf (m0 : Limits) (s : State) : listsOf (report m0 s) = listsOf s :=
  listsOf_of_ex (Keeps.ex ((report_keeps (m := 1048559) (s0 := s) m0 s (by decide)).mpr (Keeps.refl _ _)) (by decide))

@[simp] theorem releaseReset_listsOf (x : Straps) (s : State) : listsOf (releaseReset x s) = listsOf s :=
  listsOf_of_ex (Keeps.ex ((releaseReset_keeps (m := 786399) (s0 := s) x s (by decide)).mpr (Keeps.refl _ _)) (by decide))

@[simp] theorem reconfigured_listsOf (s : State) : listsOf (reconfigured s) = listsOf s :=
  listsOf_of_ex (Keeps.ex ((reconfigured_keeps (m := 774143) (s0 := s) s (by decide)).mpr (Keeps.refl _ _)) (by decide))

@[simp] theorem withHeld_listsOf (l : List HeldCopy) (s : State) : listsOf (withHeld l s) = listsOf s :=
  listsOf_of_ex (Keeps.ex ((withHeld_keeps (m := 1015807) (s0 := s) l s (by decide)).mpr (Keeps.refl _ _)) (by decide))

@[simp] theorem spoilCopy_listsOf (m0 : RemoteMsg) (s : State) : listsOf (spoilCopy m0 s) = listsOf s :=
  listsOf_of_ex (Keeps.ex ((spoilCopy_keeps (m := 1015791) (s0 := s) m0 s (by decide)).mpr (Keeps.refl _ _)) (by decide))

@[simp] theorem respondRemote_listsOf (m0 : RemoteMsg) (block : Nat) (status : Nat) (data : Bytes) (s : State) : listsOf (respondRemote m0 block status data s) = listsOf s :=
  listsOf_of_ex (Keeps.ex ((respondRemote_keeps (m := 1040367) (s0 := s) m0 block status data s (by decide)).mpr (Keeps.refl _ _)) (by decide))

@[simp] theorem answerRequest_listsOf (m0 : RemoteMsg) (s : State) : listsOf (answerRequest m0 s) = listsOf s :=
  listsOf_of_ex (Keeps.ex ((answerRequest_keeps (m := 1007083) (s0 := s) m0 s (by decide)).mpr (Keeps.refl _ _)) (by decide))

@[simp] theorem storeRemote_listsOf (m0 : RemoteMsg) (s : State) : listsOf (storeRemote m0 s) = listsOf s :=
  listsOf_of_ex (Keeps.ex ((storeRemote_keeps (m := 1015791) (s0 := s) m0 s (by decide)).mpr (Keeps.refl _ _)) (by decide))

@[simp] theorem restoreFailed_listsOf (p : Pull) (s : State) : listsOf (restoreFailed p s) = listsOf s :=
  listsOf_of_ex (Keeps.ex ((restoreFailed_keeps (m := 950255) (s0 := s) p s (by decide)).mpr (Keeps.refl _ _)) (by decide))

@[simp] theorem installRecord_listsOf (s00 : Nat) (b : Bytes) (s : State) : listsOf (installRecord s00 b s) = listsOf s := by
  unfold installRecord; dsimp only; repeat' (first | rfl | (simp; done) | split | (apply listsOf_foldl <;> intros))

@[simp] theorem regather_listsOf (s : State) (x : CollCtx) : listsOf (regather s x) = listsOf s := by
  unfold regather; (repeat' split) <;> simp

@[simp] theorem useRestored_listsOf (s00 : Nat) (sc : Score) (s : State) : listsOf (useRestored s00 sc s) = listsOf s := by
  unfold useRestored; dsimp only; (repeat' split) <;> simp [*]

@[simp] theorem finishRepair_listsOf (sc : Score) (p : Pull) (s : State) : listsOf (finishRepair sc p s) = listsOf s :=
  listsOf_of_ex (Keeps.ex ((finishRepair_keeps (m := 1015273) (s0 := s) sc p s (by decide)).mpr (Keeps.refl _ _)) (by decide))

@[simp] theorem askRange_listsOf (m0 : RemoteMsg) (s : State) : listsOf (askRange m0 s) = listsOf s :=
  listsOf_of_ex (Keeps.ex ((askRange_keeps (m := 1040367) (s0 := s) m0 s (by decide)).mpr (Keeps.refl _ _)) (by decide))

@[simp] theorem takeRange_listsOf (m0 : RemoteMsg) (sc : Score) (s : State) : listsOf (takeRange m0 sc s) = listsOf s := by
  unfold takeRange; dsimp only; (repeat' split) <;> simp [*]

@[simp] theorem readAny_listsOf (q : Req) (hi : Nat) (idx : Nat) (sub : Nat) (len : Nat) (s : State) : listsOf (readAny q hi idx sub len s) = listsOf s :=
  listsOf_of_ex (Keeps.ex ((readAny_keeps (m := 851949) (s0 := s) q hi idx sub len s (by decide)).mpr (Keeps.refl _ _)) (by decide))

@[simp] theorem beginBlockRead_listsOf (q : Req) (idx : Nat) (sub : Nat) (s : State) : listsOf (beginBlockRead q idx sub s) = listsOf s :=
  listsOf_of_ex (Keeps.ex ((beginBlockRead_keeps (m := 851965) (s0 := s) q idx sub s (by decide)).mpr (Keeps.refl _ _)) (by decide))

@[simp] theorem beginBlockWrite_listsOf (q : Req) (idx : Nat) (sub : Nat) (len : Nat) (s : State) : listsOf (beginBlockWrite q idx sub len s) = listsOf s :=
  listsOf_of_ex (Keeps.ex ((beginBlockWrite_keeps (m := 851949) (s0 := s) q idx sub len s (by decide)).mpr (Keeps.refl _ _)) (by decide))

@[simp] theorem blockWriteAny_listsOf (q : Req) (idx : Nat) (sub : Nat) (len : Nat) (s : State) : listsOf (blockWriteAny q idx sub len s) = listsOf s :=
  listsOf_of_ex (Keeps.ex ((blockWriteAny_keeps (m := 851949) (s0 := s) q idx sub len s (by decide)).mpr (Keeps.refl _ _)) (by decide))

@[simp] theorem leaveProgress_listsOf (q : Req) (s : State) : listsOf (leaveProgress q s) = listsOf s :=
  listsOf_of_ex (Keeps.ex ((leaveProgress_keeps (m := 917503) (s0 := s) q s (by decide)).mpr (Keeps.refl _ _)) (by decide))

@[simp] theorem asAccepted_listsOf (t0 : Transfer) (s : State) : listsOf (asAccepted t0 s) = listsOf s :=
  listsOf_of_ex (Keeps.ex ((asAccepted_keeps (m := 1040367) (s0 := s) t0 s (by decide)).mpr (Keeps.refl _ _)) (by decide))

@[simp] theorem failBlockWrite_listsOf (t0 : Transfer) (s : State) : listsOf (failBlockWrite t0 s) = listsOf s :=
  listsOf_of_ex (Keeps.ex ((failBlockWrite_keeps (m := 851949) (s0 := s) t0 s (by decide)).mpr (Keeps.refl _ _)) (by decide))

@[simp] theorem mapOut_listsOf (peer : Nat) (num : Nat) (f : OutCtx → OutCtx) (s : State) : listsOf (mapOut peer num f s) = listsOf s :=
  listsOf_of_ex (Keeps.ex ((mapOut_keeps (m := 1040383) (s0 := s) peer num f s (by decide)).mpr (Keeps.refl _ _)) (by decide))

@[simp] theorem mapIn_listsOf (peer : Nat) (num : Nat) (f : List Lease → List Lease) (s : State) : listsOf (mapIn peer num f s) = listsOf s :=
  listsOf_of_ex (Keeps.ex ((mapIn_keeps (m := 1040383) (s0 := s) peer num f s (by decide)).mpr (Keeps.refl _ _)) (by decide))

@[simp] theorem takeGrant_listsOf (m0 : LeaseMsg) (s : State) : listsOf (takeGrant m0 s) = listsOf s :=
  listsOf_of_ex (Keeps.ex ((takeGrant_keeps (m := 1040383) (s0 := s) m0 s (by decide)).mpr (Keeps.refl _ _)) (by decide))

@[simp] theorem takeRenewal_listsOf (m0 : LeaseMsg) (s : State) : listsOf (takeRenewal m0 s) = listsOf s :=
  listsOf_of_ex (Keeps.ex ((takeRenewal_keeps (m := 1040367) (s0 := s) m0 s (by decide)).mpr (Keeps.refl _ _)) (by decide))

@[simp] theorem takeRenewalAck_listsOf (m0 : LeaseMsg) (s : State) : listsOf (takeRenewalAck m0 s) = listsOf s :=
  listsOf_of_ex (Keeps.ex ((takeRenewalAck_keeps (m := 1040383) (s0 := s) m0 s (by decide)).mpr (Keeps.refl _ _)) (by decide))

@[simp] theorem takeReturn_listsOf (m0 : LeaseMsg) (s : State) : listsOf (takeReturn m0 s) = listsOf s := by
  unfold takeReturn; (repeat' split) <;> simp

@[simp] theorem lateExpiry_listsOf (x : LateLease) (s : State) : listsOf (lateExpiry x s) = listsOf s :=
  listsOf_of_ex (Keeps.ex ((lateExpiry_keeps (m := 1040367) (s0 := s) x s (by decide)).mpr (Keeps.refl _ _)) (by decide))

@[simp] theorem reclaim_listsOf (peer : Nat) (ctx : Nat) (s : State) : listsOf (reclaim peer ctx s) = listsOf s :=
  listsOf_of_ex (Keeps.ex ((reclaim_keeps (m := 1040383) (s0 := s) peer ctx s (by decide)).mpr (Keeps.refl _ _)) (by decide))

@[simp] theorem takeToken_listsOf (m0 : TokenMsg) (s : State) : listsOf (takeToken m0 s) = listsOf s := by
  unfold takeToken; try dsimp only
  repeat' (first | rfl | (simp; done) | split | (refine (onScore_listsOf _ _ ?_).trans ?_; intros) | (refine (listsOf_foldl _ ?_ _ _).trans ?_; intros) | simp)

@[simp] theorem returnDropped_listsOf (x : Carried) (s : State) : listsOf (returnDropped x s) = listsOf s := by
  unfold returnDropped; dsimp only; (repeat' split) <;> simp [*]

@[simp] theorem dropParcel_listsOf (x : Carried) (key : Nat) (value : Nat) (s : State) : listsOf (dropParcel x key value s) = listsOf s := by
  unfold dropParcel; dsimp only; (repeat' split) <;> simp [*]

@[simp] theorem noPlane_listsOf (k : Nat) (t1 : Nat) (s : State) : listsOf (noPlane k t1 s) = listsOf s :=
  listsOf_of_ex (Keeps.ex ((noPlane_keeps (m := 974831) (s0 := s) k t1 s (by decide)).mpr (Keeps.refl _ _)) (by decide))

@[simp] theorem bindParcel_listsOf (x : Carried) (h1 : Hop) (lane : Nat × Nat) (s : State) : listsOf (bindParcel x h1 lane s) = listsOf s :=
  listsOf_of_ex (Keeps.ex ((bindParcel_keeps (m := 1036269) (s0 := s) x h1 lane s (by decide)).mpr (Keeps.refl _ _)) (by decide))

@[simp] theorem withQueue_listsOf (cls : Nat) (q : List Carried) (s : State) : listsOf (withQueue cls q s) = listsOf s :=
  listsOf_of_ex (Keeps.ex ((withQueue_keeps (m := 1040383) (s0 := s) cls q s (by decide)).mpr (Keeps.refl _ _)) (by decide))

@[simp] theorem forwardOne_listsOf (cls : Nat) (kept : List Carried) (heads : List (Option (Nat × Nat × Nat))) (l : List Carried) (s : State) : listsOf (forwardOne cls kept heads l s) = listsOf s := by
  induction l generalizing kept heads s with
  | nil => rfl
  | cons x rest ih =>
    unfold forwardOne
    extract_lets q route
    split
    · exact ih _ _ _
    · clear_value route
      cases route with
      | deliver => simp
      | discard k v => simp
      | hop h =>
        dsimp only
        split
        · rename_i t ht
          exact (listsOf_of_ex ((tryHop_keeps _ _ _ _ ht).ex (by decide))).trans (by simp)
        · rw [ih]
          split <;> simp

@[simp] theorem badAddress_listsOf (p : Nat) (c : Nat) (h2 : FlitHead) (s : State) : listsOf (badAddress p c h2 s) = listsOf s :=
  listsOf_of_ex (Keeps.ex ((badAddress_keeps (m := 970733) (s0 := s) p c h2 s (by decide)).mpr (Keeps.refl _ _)) (by decide))

@[simp] theorem nakLane_listsOf (p : Nat) (c : Nat) (s : State) : listsOf (nakLane p c s) = listsOf s :=
  listsOf_of_ex (Keeps.ex ((nakLane_keeps (m := 1044461) (s0 := s) p c s (by decide)).mpr (Keeps.refl _ _)) (by decide))

@[simp] theorem takeFlitCredit_listsOf (p : Nat) (c : Nat) (h2 : FlitHead) (s : State) : listsOf (takeFlitCredit p c h2 s) = listsOf s :=
  listsOf_of_ex (Keeps.ex ((takeFlitCredit_keeps (m := 1036269) (s0 := s) p c h2 s (by decide)).mpr (Keeps.refl _ _)) (by decide))

@[simp] theorem takeFlitWord_listsOf (h0 : FlitHead) (area : Bytes) (s : State) : listsOf (takeFlitWord h0 area s) = listsOf s := by
  unfold takeFlitWord; (repeat' split) <;> simp

@[simp] theorem acceptParcel_listsOf (s : State) (x : Carried) : listsOf (acceptParcel s x) = listsOf s :=
  listsOf_of_ex (Keeps.ex ((acceptParcel_keeps (m := 1036271) (s0 := s) s x (by decide)).mpr (Keeps.refl _ _)) (by decide))

@[simp] theorem takeParcels_listsOf (p : Nat) (c : Nat) (h2 : FlitHead) (area : Bytes) (s : State) : listsOf (takeParcels p c h2 area s) = listsOf s :=
  listsOf_of_ex (Keeps.ex ((takeParcels_keeps (m := 1036271) (s0 := s) p c h2 area s (by decide)).mpr (Keeps.refl _ _)) (by decide))

@[simp] theorem takeDataFlit_listsOf (p : Nat) (c : Nat) (h2 : FlitHead) (area : Bytes) (s : State) : listsOf (takeDataFlit p c h2 area s) = listsOf s := by
  unfold takeDataFlit; dsimp only; (repeat' split) <;> simp [*]

@[simp] theorem resendFlits_listsOf (p : Nat) (c : Nat) (s : State) : listsOf (resendFlits p c s) = listsOf s :=
  listsOf_of_ex (Keeps.ex ((resendFlits_keeps (m := 970733) (s0 := s) p c s (by decide)).mpr (Keeps.refl _ _)) (by decide))

@[simp] theorem giveBack_listsOf (c : Option InCtx) (p : Parcel) (s : State) : listsOf (giveBack c p s) = listsOf s :=
  listsOf_of_ex (Keeps.ex ((giveBack_keeps (m := 1040367) (s0 := s) c p s (by decide)).mpr (Keeps.refl _ _)) (by decide))

@[simp] theorem takeControl_listsOf (p : Parcel) (s : State) : listsOf (takeControl p s) = listsOf s := by
  unfold takeControl; (repeat' split) <;> simp

@[simp] theorem noContext_listsOf (p : Parcel) (s : State) : listsOf (noContext p s) = listsOf s :=
  listsOf_of_ex (Keeps.ex ((noContext_keeps (m := 1048559) (s0 := s) p s (by decide)).mpr (Keeps.refl _ _)) (by decide))

end Sys2Proof.Machine
end

