-- ==== Sys2Proof/Laws/Memory.lean ====
section
/-! SUPPORT. The bytes that the point of coherence gives back (byteAt): after a store, a write, a retirement. -/

namespace Sys2Proof.Machine

set_option linter.unusedTactic false
set_option linter.unreachableTactic false
set_option linter.unusedSimpArgs false
set_option linter.unnecessarySeqFocus false
set_option linter.unusedVariables false

/-! ### Lists of cells -/

theorem lookup_filter_pass {α : Type} (f : Nat × α → Bool) (k : Nat) (l : List (Nat × α)) (h : ∀ v, f (k, v) = true) :
    lookup k (l.filter f) = lookup k l := by
  induction l with
  | nil => rfl
  | cons p t ih =>
    obtain ⟨i, v⟩ := p
    by_cases e : i = k
    · subst e; simp [lookup, h v]
    · by_cases c : f (i, v) = true
      · rw [List.filter_cons_of_pos c]; simp [lookup, e, ih]
      · rw [List.filter_cons_of_neg c]; simp [lookup, e, ih]

theorem lookup_filter_drop {α : Type} (f : Nat × α → Bool) (k : Nat) (l : List (Nat × α)) (h : ∀ v, f (k, v) = false) :
    lookup k (l.filter f) = none := by
  induction l with
  | nil => rfl
  | cons p t ih =>
    obtain ⟨i, v⟩ := p
    by_cases e : i = k
    · subst e; rw [List.filter_cons_of_neg (by simp [h v])]; exact ih
    · by_cases c : f (i, v) = true
      · rw [List.filter_cons_of_pos c]; simp [lookup, e, ih]
      · rw [List.filter_cons_of_neg c]; exact ih

theorem lookup_append {α : Type} (k : Nat) (l r : List (Nat × α)) : lookup k (l ++ r) = (lookup k l).or (lookup k r) := by
  induction l with
  | nil => simp [lookup]
  | cons p t ih => by_cases e : p.1 = k <;> simp [lookup, e, ih]

theorem lookup_cellsFrom (a x : Nat) (d : Bytes) :
    lookup x (cellsFrom a d) = if a ≤ x ∧ x < a + d.length then d[x - a]? else none := by
  induction d generalizing a with
  | nil => simp [cellsFrom, lookup]
  | cons b t ih =>
    simp only [cellsFrom, lookup, ih, List.length_cons]
    by_cases e : a = x
    · subst e; simp
    · rw [if_neg e]
      by_cases c : a ≤ x ∧ x < a + (t.length + 1)
      · have : x - a = (x - (a + 1)) + 1 := by omega
        rw [if_pos (by omega), if_pos c, this, List.getElem?_cons_succ]
      · rw [if_neg (by omega), if_neg c]

theorem lookup_storeCells (a x : Nat) (d : Bytes) (c : List Host.Cell) :
    lookup x (storeCells a d c) = if a ≤ x ∧ x < a + d.length then d[x - a]? else lookup x c := by
  unfold storeCells
  rw [lookup_append, lookup_append, lookup_cellsFrom]
  by_cases h : a ≤ x ∧ x < a + d.length
  · rw [if_pos h, if_pos h, lookup_filter_drop _ _ _ (by intro v; simp; omega)]
    have : x - a < d.length := by omega
    simp [List.getElem?_eq_getElem this]
  · rw [if_neg h, if_neg h]
    by_cases l : x < a
    · rw [lookup_filter_pass _ _ _ (by intro v; simp [l]), lookup_filter_drop _ _ _ (by intro v; simp; omega)]
      simp
    · rw [lookup_filter_drop _ _ _ (by intro v; simp; omega), lookup_filter_pass _ _ _ (by intro v; simp; omega)]
      simp

theorem lookup_outside (a n x : Nat) (c : List Host.Cell) :
    lookup x (outside a n c) = if a ≤ x ∧ x < a + n then none else lookup x c := by
  unfold outside
  by_cases h : a ≤ x ∧ x < a + n
  · rw [if_pos h, lookup_filter_drop]; intro v; simp; omega
  · rw [if_neg h, lookup_filter_pass]; intro v; simp; omega

theorem lookup_none_of_notMem {α : Type} (k : Nat) (l : List (Nat × α)) (h : ∀ p ∈ l, p.1 ≠ k) : lookup k l = none := by
  induction l with
  | nil => rfl
  | cons p t ih =>
    have := h p (List.mem_cons_self ..)
    simp [lookup, this, ih (fun q hq => h q (List.mem_cons_of_mem _ hq))]

theorem lookup_foldl_put {α : Type} (d c : List (Nat × α)) (k : Nat) (h : rising d) :
    lookup k (d.foldl (fun c p => put p.1 p.2 c) c) = (lookup k d).or (lookup k c) := by
  induction d generalizing c with
  | nil => simp [lookup]
  | cons p t ih =>
    obtain ⟨hp, ht⟩ := List.pairwise_cons.mp h
    rw [List.foldl_cons, ih _ ht]
    by_cases e : p.1 = k
    · subst e
      rw [lookup_none_of_notMem _ t (fun q hq => by have := hp q hq; omega)]
      simp [lookup]
    · rw [lookup_put_other _ _ _ _ (Ne.symm e)]
      simp [lookup, e]

theorem lookup_of_mem {α : Type} (d : List (Nat × α)) (p : Nat × α) (h : rising d) (hp : p ∈ d) : lookup p.1 d = some p.2 := by
  induction d with
  | nil => cases hp
  | cons q t ih =>
    obtain ⟨hq, ht⟩ := List.pairwise_cons.mp h
    rcases List.mem_cons.mp hp with rfl | hp
    · simp [lookup]
    · have := hq p hp
      simp [lookup, show q.1 ≠ p.1 by omega, ih ht hp]

/-! ### What lies over the cells -/

/-- The bytes of a line that its memory-side cache line holds. -/
def mscData (m : Memory) (line : Nat) : List Host.Cell := ((lookup line m.msc).map (fun l => l.data)).getD []

/-- The bytes of a line that its write-combining entry holds. -/
def wcData (m : Memory) (line : Nat) : List Host.Cell :=
  ((m.wc.find? (fun e => e.line == line)).map (fun e => e.data)).getD []

theorem byteAt_eq (s : State) (a : Nat) :
    byteAt s a = (((lookup a (mscData s.mem (a / 256))).or (lookup a (wcData s.mem (a / 256)))).or
      (lookup a s.mem.cells)).getD (Config.undefByte s.mem.epoch a) := by
  unfold byteAt heldByte mscData wcData mscLine wcLine
  cases h : lookup (a / 256) s.mem.msc <;> cases k : s.mem.wc.find? (fun e => e.line == a / 256) <;>
    simp only [Option.bind_none, Option.bind_some, Option.map_none, Option.map_some, Option.getD_none, Option.getD_some,
      lookup, Option.none_or, Option.or_none]
  · rename_i e; cases lookup a e.data <;> simp
  · rename_i l; cases lookup a l.data <;> simp
  · rename_i l e; cases lookup a l.data <;> cases lookup a e.data <;> simp

/-- The same bytes over the same cells read the same. -/
theorem byteAt_congr {s t : State} (a : Nat) (hm : mscData t.mem (a / 256) = mscData s.mem (a / 256))
    (hw : wcData t.mem (a / 256) = wcData s.mem (a / 256)) (hc : lookup a t.mem.cells = lookup a s.mem.cells)
    (he : t.mem.epoch = s.mem.epoch) : byteAt t a = byteAt s a := by
  rw [byteAt_eq, byteAt_eq, hm, hw, hc, he]

theorem byteAt_of_mem {s t : State} (a : Nat) (h : t.mem = s.mem) : byteAt t a = byteAt s a :=
  byteAt_congr a (by rw [h]) (by rw [h]) (by rw [h]) (by rw [h])

theorem lookup_map_val {α : Type} (f : Nat × α → Nat × α) (k : Nat) (l : List (Nat × α)) (hf : ∀ p, (f p).1 = p.1) :
    lookup k (l.map f) = (lookup k l).map (fun v => (f (k, v)).2) := by
  induction l with
  | nil => rfl
  | cons p t ih =>
    obtain ⟨i, v⟩ := p
    by_cases e : i = k
    · subst e; simp [lookup, hf]
    · simp [lookup, hf, e, ih]

theorem find_map_line (f : WcEntry → WcEntry) (line : Nat) (l : List WcEntry) (hf : ∀ e, (f e).line = e.line) :
    (l.map f).find? (fun e => e.line == line) = (l.find? (fun e => e.line == line)).map f := by
  induction l with
  | nil => rfl
  | cons e t ih => simp only [List.map_cons, List.find?_cons, hf, ih]; split <;> simp

theorem find_filter_line (k line : Nat) (l : List WcEntry) (h : line ≠ k) :
    (l.filter (fun e => e.line ≠ k)).find? (fun e => e.line == line) = l.find? (fun e => e.line == line) := by
  induction l with
  | nil => rfl
  | cons e t ih =>
    by_cases c : e.line = k
    · rw [List.filter_cons_of_neg (by simp [c]), ih, List.find?_cons_of_neg (by simp [c, Ne.symm h])]
    · rw [List.filter_cons_of_pos (by simp [c]), List.find?_cons, List.find?_cons, ih]

theorem find_filter_gone (k : Nat) (l : List WcEntry) :
    (l.filter (fun e => e.line ≠ k)).find? (fun e => e.line == k) = none := by
  rw [List.find?_eq_none]
  intro e he
  simpa using (List.mem_filter.mp he).2

theorem find_line_of_mem (l : List WcEntry) (e : WcEntry) (h : l.Pairwise (fun a b => a.line ≠ b.line)) (he : e ∈ l) :
    l.find? (fun x => x.line == e.line) = some e := by
  induction l with
  | nil => cases he
  | cons x t ih =>
    obtain ⟨hx, ht⟩ := List.pairwise_cons.mp h
    rcases List.mem_cons.mp he with rfl | he
    · simp
    · rw [List.find?_cons_of_neg (by simpa using hx e he)]; exact ih ht he

/-! ### The operations -/

theorem byteAt_clearPoison (a n x : Nat) (s : State) : byteAt (clearPoison a n s) x = byteAt s x := by
  unfold clearPoison
  dsimp only
  split
  · rfl
  · exact byteAt_congr x rfl rfl rfl rfl

theorem regCharge_memory (q p n : Nat) (s : State) :
    (regCharge q p n s).mem.cells = s.mem.cells ∧ (regCharge q p n s).mem.msc = s.mem.msc ∧
      (regCharge q p n s).mem.wc = s.mem.wc ∧ (regCharge q p n s).mem.epoch = s.mem.epoch := by
  unfold regCharge
  dsimp only
  split <;> exact ⟨rfl, rfl, rfl, rfl⟩

theorem byteAt_regCharge (q p n x : Nat) (s : State) : byteAt (regCharge q p n s) x = byteAt s x := by
  obtain ⟨a, b, c, d⟩ := regCharge_memory q p n s
  exact byteAt_congr x (by unfold mscData; rw [b]) (by unfold wcData; rw [c]) (by rw [a]) d

theorem retireEntry_memory (e : WcEntry) (s : State) :
    (retireEntry e s).mem.cells = e.data.foldl (fun c p => put p.1 p.2 c) s.mem.cells ∧
      (retireEntry e s).mem.msc = s.mem.msc ∧ (retireEntry e s).mem.wc = s.mem.wc.filter (fun x => x.line ≠ e.line) ∧
      (retireEntry e s).mem.epoch = s.mem.epoch := by
  obtain ⟨a, b, c, d⟩ := regCharge_memory (e.controller / 80) e.part (entryCost e) s
  unfold retireEntry
  exact ⟨by dsimp only; rw [a], b, by dsimp only; rw [c], d⟩

/-- An entry of the write-combining buffers retired: every byte reads as before. -/
theorem byteAt_retireEntry (e : WcEntry) (x : Nat) (s : State) (h : WcOk s.mem.wc) (he : e ∈ s.mem.wc) :
    byteAt (retireEntry e s) x = byteAt s x := by
  obtain ⟨a, b, c, d⟩ := retireEntry_memory e s
  have hl := h.1 e he
  have hm : mscData (retireEntry e s).mem (x / 256) = mscData s.mem (x / 256) := by unfold mscData; rw [b]
  rw [byteAt_eq, byteAt_eq, hm, a, d, lookup_foldl_put _ _ _ hl.1]
  by_cases hx : x / 256 = e.line
  · have h1 : wcData s.mem (x / 256) = e.data := by
      unfold wcData; rw [hx, find_line_of_mem _ _ h.2 he]; rfl
    have h2 : wcData (retireEntry e s).mem (x / 256) = [] := by
      unfold wcData; rw [c, hx, find_filter_gone]; rfl
    rw [h1, h2]
    cases lookup x (mscData s.mem (x / 256)) <;> cases lookup x e.data <;> simp [lookup]
  · have h2 : wcData (retireEntry e s).mem (x / 256) = wcData s.mem (x / 256) := by
      unfold wcData; rw [c, find_filter_line _ _ _ hx]
    have h3 : lookup x e.data = none := lookup_none_of_notMem _ _ (fun p hp k => hx (k ▸ hl.2 p hp))
    rw [h2, h3]
    simp

theorem byteAt_wc_marked (f : WcEntry → WcEntry) (x : Nat) (s : State) (hl : ∀ e, (f e).line = e.line)
    (hd : ∀ e, (f e).data = e.data) : byteAt { s with mem := { s.mem with wc := s.mem.wc.map f } } x = byteAt s x := by
  refine byteAt_congr x rfl ?_ rfl rfl
  unfold wcData
  dsimp only
  rw [find_map_line _ _ _ hl]
  cases s.mem.wc.find? (fun e => e.line == x / 256)
  · rfl
  · simp [hd]

theorem byteAt_retireOrMark (e : WcEntry) (x : Nat) (s : State) (h : WcOk s.mem.wc) (he : e ∈ s.mem.wc) :
    byteAt (retireOrMark e s) x = byteAt s x := by
  unfold retireOrMark
  split
  · exact byteAt_retireEntry e x s h he
  · refine byteAt_wc_marked _ x s ?_ ?_ <;> intro e <;> split <;> rfl

theorem markRetiring_msc (line : Nat) (s : State) : (markRetiring line s).mem.msc = s.mem.msc := rfl

theorem byteAt_markRetiring (line x : Nat) (s : State) : byteAt (markRetiring line s) x = byteAt s x := by
  refine byteAt_wc_marked _ x s ?_ ?_ <;> intro e <;> split <;> rfl

theorem markRetiring_wc (line : Nat) (s : State) (h : WcOk s.mem.wc) : WcOk (markRetiring line s).mem.wc := by
  refine wcOk_map _ _ h ?_ ?_ <;> intro e <;> split <;> simp

theorem markRetiring_line (line k : Nat) (s : State) (h : wcLine s k = none) : wcLine (markRetiring line s) k = none := by
  unfold wcLine markRetiring at *
  refine (find_map_line _ _ _ ?_).trans (by rw [h]; rfl)
  intro e; split <;> rfl

theorem retireEntry_wc (e : WcEntry) (s : State) (h : WcOk s.mem.wc) : WcOk (retireEntry e s).mem.wc := by
  rw [(retireEntry_memory e s).2.2.1]
  exact wcOk_filter _ _ h

theorem retireEntry_line (e : WcEntry) (line : Nat) (s : State) (h : wcLine s line = none) :
    wcLine (retireEntry e s) line = none := by
  unfold wcLine at *
  rw [(retireEntry_memory _ s).2.2.1]
  rw [List.find?_eq_none] at h ⊢
  exact fun e he => h e (List.mem_filter.mp he).1

/-- Making room keeps every byte, the form of the entries, the cache and which lines have no entry. -/
theorem makeRoom_all (c : Nat) (s : State) (h : WcOk s.mem.wc) :
    (∀ x, byteAt (makeRoom c s) x = byteAt s x) ∧ WcOk (makeRoom c s).mem.wc ∧ (makeRoom c s).mem.msc = s.mem.msc ∧
      ∀ line, wcLine s line = none → wcLine (makeRoom c s) line = none := by
  unfold makeRoom
  split
  · exact ⟨fun _ => rfl, h, rfl, fun _ k => k⟩
  · extract_lets s1
    have h1 : (∀ x, byteAt s1 x = byteAt s x) ∧ WcOk s1.mem.wc ∧ s1.mem.msc = s.mem.msc ∧
        ∀ line, wcLine s line = none → wcLine s1 line = none := by
      simp only [s1]
      split
      · exact ⟨fun _ => rfl, h, rfl, fun _ k => k⟩
      · split
        · rename_i e he
          exact ⟨fun x => byteAt_retireEntry e x s h (List.mem_of_find?_eq_some he), retireEntry_wc e s h,
            (retireEntry_memory e s).2.1, fun line k => retireEntry_line e line s k⟩
        · exact ⟨fun _ => rfl, h, rfl, fun _ k => k⟩
    clear_value s1
    split
    · rename_i e _
      split
      · exact ⟨fun x => (byteAt_of_mem x rfl).trans (h1.1 x), h1.2.1, h1.2.2.1, h1.2.2.2⟩
      · exact ⟨fun x => (byteAt_of_mem x rfl).trans ((byteAt_markRetiring e.line x s1).trans (h1.1 x)),
          markRetiring_wc e.line s1 h1.2.1, h1.2.2.1, fun line k => markRetiring_line e.line line s1 (h1.2.2.2 line k)⟩
    · exact h1

theorem byteAt_makeRoom (c x : Nat) (s : State) (h : WcOk s.mem.wc) : byteAt (makeRoom c s) x = byteAt s x :=
  (makeRoom_all c s h).1 x

theorem makeRoom_wc (c : Nat) (s : State) (h : WcOk s.mem.wc) : WcOk (makeRoom c s).mem.wc := (makeRoom_all c s h).2.1

theorem makeRoom_line (c line : Nat) (s : State) (h : WcOk s.mem.wc) (k : wcLine s line = none) :
    wcLine (makeRoom c s) line = none := (makeRoom_all c s h).2.2.2 line k

theorem wcData_none {m : Memory} {line : Nat} (h : m.wc.find? (fun e => e.line == line) = none) : wcData m line = [] := by
  unfold wcData; rw [h]; rfl

theorem find_map_at (e : WcEntry) (line : Nat) (l : List WcEntry) (h : e.line = line)
    (k : (l.find? (fun x => x.line == line)).isSome) :
    (l.map (fun x => if x.line = line then e else x)).find? (fun x => x.line == line) = some e := by
  induction l with
  | nil => cases k
  | cons x t ih =>
    by_cases c : x.line = line
    · simp [c, h]
    · simp only [List.map_cons, if_neg c]
      rw [List.find?_cons_of_neg (by simpa using c)] at k ⊢
      exact ih k

theorem find_map_elsewhere (e : WcEntry) (line k : Nat) (l : List WcEntry) (h : e.line = line) (hk : k ≠ line) :
    (l.map (fun x => if x.line = line then e else x)).find? (fun x => x.line == k) = l.find? (fun x => x.line == k) := by
  induction l with
  | nil => rfl
  | cons x t ih =>
    simp only [List.map_cons, List.find?_cons]
    by_cases c : x.line = line
    · rw [if_pos c, ih]
      have a : (e.line == k) = false := by simp [h, Ne.symm hk]
      have b : (x.line == k) = false := by simp [c, Ne.symm hk]
      simp [a, b]
    · rw [if_neg c, ih]

/-- What a write of bytes within one line leaves at an address. -/
def written (m : MemReq) (data : Bytes) (s : State) (x : Nat) : Byte :=
  if m.addr ≤ x ∧ x < m.addr + data.length then data.getD (x - m.addr) 0 else byteAt s x

theorem byteAt_combine (m : MemReq) (data : Bytes) (x : Nat) (s : State) (h : WcOk s.mem.wc)
    (hd : m.addr % 256 + data.length ≤ 256) (hr : mscLine s (m.addr / 256) = none) :
    byteAt (combine m data s) x = written m data s x := by
  unfold combine
  extract_lets line c s1 e0 e m0 s2
  have h1 : WcOk s1.mem.wc := by
    simp only [s1]; split
    · exact h
    · exact makeRoom_wc c s h
  have hb : ∀ y, byteAt s1 y = byteAt s y := by
    intro y; simp only [s1]; split
    · rfl
    · exact byteAt_makeRoom c y s h
  have hl : wcLine s1 line = wcLine s line := by
    simp only [s1]; split
    · rfl
    · rename_i k
      have : wcLine s line = none := by simpa using k
      rw [this]; exact makeRoom_line c line s h this
  have hr1 : mscLine s1 line = none := by
    simp only [s1]; split
    · exact hr
    · unfold mscLine; rw [(makeRoom_all c s h).2.2.1]; exact hr
  have he0 : e0.line = line ∧ LineOk line e0.data ∧ e0.data = wcData s1.mem line := by
    simp only [e0]
    cases k : wcLine s1 line with
    | none => exact ⟨rfl, LineOk.nil _, (wcData_none k).symm⟩
    | some y =>
      have hy : y ∈ s1.mem.wc := List.mem_of_find?_eq_some k
      have ly : y.line = line := by simpa using List.find?_some k
      refine ⟨ly, ly ▸ h1.1 y hy, ?_⟩
      unfold wcLine at k
      unfold wcData; rw [k]; rfl
  have hel : e.line = line := he0.1
  have hed : e.data = storeCells m.addr data (wcData s1.mem line) := by rw [← he0.2.2]
  have heo : LineOk line e.data := by rw [hed, ← he0.2.2]; exact lineOk_storeCells _ _ _ he0.2.1 hd
  have key : ∀ u : State, u.mem.cells = s1.mem.cells → u.mem.msc = s1.mem.msc → u.mem.epoch = s1.mem.epoch →
      wcData u.mem line = e.data → (∀ k, k ≠ line → wcData u.mem k = wcData s1.mem k) →
      byteAt u x = written m data s x := by
    intro u a b d p q
    unfold written
    rw [← hb x, byteAt_eq, byteAt_eq s1, a, d]
    have : mscData u.mem (x / 256) = mscData s1.mem (x / 256) := by unfold mscData; rw [b]
    rw [this]
    by_cases hx : x / 256 = line
    · have hn : mscData s1.mem (x / 256) = [] := by
        unfold mscData; unfold mscLine at hr1; rw [hx, hr1]; rfl
      rw [hx, p, hed, lookup_storeCells]
      rw [hx] at hn
      rw [hn]
      by_cases c : m.addr ≤ x ∧ x < m.addr + data.length
      · have : x - m.addr < data.length := by omega
        simp [c, lookup, List.getElem?_eq_getElem this]
      · simp [c, lookup]
    · rw [q _ hx, if_neg]
      intro c
      apply hx
      simp only [line]
      omega
  have h2 : byteAt s2 x = written m data s x ∧ WcOk s2.mem.wc ∧ (e ∈ s2.mem.wc) := by
    by_cases k : (wcLine s1 line).isSome = true
    · have k1 : (s1.mem.wc.find? (fun x => x.line == line)).isSome := k
      have f1 := find_map_at e line s1.mem.wc hel k1
      have ew : s2.mem.wc = s1.mem.wc.map (fun x => if x.line = line then e else x) := if_pos k
      refine ⟨key s2 rfl rfl rfl ?_ ?_, ?_, ?_⟩
      · unfold wcData; rw [ew, f1]; rfl
      · intro n hn; unfold wcData; rw [ew, find_map_elsewhere e line n _ hel hn]
      · rw [ew]
        refine ⟨?_, ?_⟩
        · intro y hy
          obtain ⟨z, hz, rfl⟩ := List.mem_map.mp hy
          split
          · rw [hel]; exact heo
          · exact h1.1 z hz
        · refine List.pairwise_map.mpr (List.Pairwise.imp ?_ h1.2)
          intro a b hab
          split <;> split <;> simp_all
      · rw [ew]; exact List.mem_of_find?_eq_some f1
    · have k1 : s1.mem.wc.find? (fun x => x.line == line) = none := by
        unfold wcLine at k
        simpa using k
      have hn : ∀ x ∈ s1.mem.wc, x.line ≠ e.line := by
        intro y hy
        have := List.find?_eq_none.mp k1 y hy
        rw [hel]; simpa using this
      have ew : s2.mem.wc = s1.mem.wc ++ [e] := if_neg k
      refine ⟨key s2 rfl rfl rfl ?_ ?_, ?_, ?_⟩
      · unfold wcData; rw [ew, List.find?_append, k1]; simp [hel]
      · intro n hn; unfold wcData; rw [ew, List.find?_append]; simp [hel, Ne.symm hn]
      · rw [ew]; exact wcOk_append _ e h1 (by rw [hel]; exact heo) hn
      · rw [ew]; simp
  split
  · rw [byteAt_retireOrMark e x s2 h2.2.1 h2.2.2]; exact h2.1
  · exact h2.1

/-! ### The memory-side caches -/

/-- A line written back: every byte reads as before, and the cache holds no byte of it. -/
theorem byteAt_writeBack (line x : Nat) (s : State) (h : MscOk s.mem.msc) :
    byteAt (writeBack line s) x = byteAt s x ∧ mscData (writeBack line s).mem line = [] := by
  unfold writeBack
  split
  · rename_i k
    refine ⟨rfl, ?_⟩
    unfold mscData; unfold mscLine at k; rw [k]; rfl
  · rename_i l k
    extract_lets dirty s1
    have h1 : s1.mem.cells = s.mem.cells ∧ s1.mem.msc = s.mem.msc ∧ s1.mem.wc = s.mem.wc ∧ s1.mem.epoch = s.mem.epoch := by
      simp only [s1]; split
      · exact ⟨rfl, rfl, rfl, rfl⟩
      · exact regCharge_memory _ _ _ s
    clear_value s1
    obtain ⟨hc, hm, hw, hp⟩ := h1
    have hl : LineOk line l.data := lookup_mscOk _ _ _ h k
    have hd : lookup line s.mem.msc = some l := k
    refine ⟨?_, by unfold mscData; simp⟩
    rw [byteAt_eq, byteAt_eq s]
    unfold mscData wcData
    dsimp only
    rw [hp, hc, hm, hw, lookup_foldl_put _ _ _ hl.1, find_map_line _ _ _ (fun e => by split <;> rfl)]
    by_cases e : x / 256 = line
    · rw [e, lookup_put_same, hd]
      cases f : s.mem.wc.find? (fun e => e.line == line) with
      | none => cases g : lookup x l.data <;> simp [lookup, g]
      | some y =>
        have hy : y.line = line := by simpa using List.find?_some f
        simp only [Option.map_some, Option.getD_some, if_pos hy]
        cases g : lookup x l.data with
        | none => rw [lookup_filter_pass _ _ _ (fun _ => by simp [g])]; simp [lookup, g]
        | some v => rw [lookup_filter_drop _ _ _ (fun _ => by simp [g])]; simp [lookup, g]
    · rw [lookup_put_other _ _ _ _ e, lookup_none_of_notMem x l.data (fun p hp k => e (k ▸ hl.2 p hp))]
      cases f : s.mem.wc.find? (fun e => e.line == x / 256) with
      | none => simp
      | some y =>
        have hy : y.line ≠ line := by
          have : y.line = x / 256 := by simpa using List.find?_some f
          rw [this]; exact e
        simp [if_neg hy]

theorem writeBack_canonical (line : Nat) (s : State) (h : Canon s) : Canon (writeBack line s) := writeBack_canon line s h

/-- A line evicted: every byte reads as before. -/
theorem byteAt_mscEvict (line x : Nat) (s : State) (h : MscOk s.mem.msc) : byteAt (mscEvict line s) x = byteAt s x := by
  obtain ⟨a, b⟩ := byteAt_writeBack line x s h
  have b' : ∀ y, byteAt (writeBack line s) y = byteAt s y := fun y => (byteAt_writeBack line y s h).1
  refine Eq.trans ?_ a
  refine byteAt_congr x ?_ rfl rfl rfl
  by_cases e : x / 256 = line
  · rw [e, b]; unfold mscData mscEvict; simp
  · unfold mscData mscEvict; dsimp only; rw [lookup_without_other _ _ _ e]

/-- Room made for a line: every byte reads as before. -/
theorem byteAt_mscRoom (line x : Nat) (s : State) (h : MscOk s.mem.msc) : byteAt (mscRoom line s) x = byteAt s x := by
  unfold mscRoom
  split
  · rfl
  · extract_lets peers
    split
    · rfl
    · exact (byteAt_mscEvict _ x (drawn s) h).trans (byteAt_of_mem x rfl)

/-- A write at the point of coherence reads back, and every other byte reads as before. -/
theorem byteAt_coherentWrite (m : MemReq) (data : Bytes) (x : Nat) (s : State) (h : Canon s)
    (hd : m.addr % 256 + data.length ≤ 256) : byteAt (coherentWrite m data s) x = written m data s x := by
  unfold coherentWrite
  extract_lets line m0 s2 m1 s1
  rw [byteAt_clearPoison]
  have hx : ∀ c : m.addr ≤ x ∧ x < m.addr + data.length, x / 256 = line := by
    intro c; simp only [line]; omega
  simp only [s1, m1, s2, m0]
  split
  · rename_i l k
    have hl : mscData s.mem line = l.data := by unfold mscData; unfold mscLine at k; rw [k]; rfl
    have h1 : mscData { s.mem with
        msc := put line { l with data := storeCells m.addr data l.data, part := m.partition } s.mem.msc } line
        = storeCells m.addr data l.data := by unfold mscData; simp
    unfold written
    rw [byteAt_eq]
    by_cases e : x / 256 = line
    · dsimp only at h1
      rw [e, h1, lookup_storeCells]
      by_cases c : m.addr ≤ x ∧ x < m.addr + data.length
      · have : x - m.addr < data.length := by omega
        simp [c, List.getElem?_eq_getElem this]
      · rw [if_neg c, if_neg c, ← hl, ← e]
        exact (byteAt_eq s x).symm
    · rw [if_neg (fun c => e (hx c))]
      refine Eq.trans ?_ (byteAt_eq s x).symm
      have : ∀ v, mscData { s.mem with msc := put line v s.mem.msc } (x / 256) = mscData s.mem (x / 256) := by
        intro v; unfold mscData; dsimp only; rw [lookup_put_other _ _ _ _ e]
      dsimp only at this
      rw [this]
      rfl
  · rename_i k
    split
    · rename_i w
      have hroom := byteAt_mscRoom line x s h.msc
      unfold mscInstall
      dsimp only
      generalize mscRoom line s = u at hroom ⊢
      have h1 : ∀ w v, mscData { u.mem with msc := put line v u.mem.msc, wc := w } line = v.data := by
        intro w v; unfold mscData; simp
      unfold written
      rw [byteAt_eq]
      by_cases e : x / 256 = line
      · have c : m.addr ≤ x ∧ x < m.addr + data.length := by simp only [line] at e; omega
        have : x - m.addr < data.length := by omega
        dsimp only at h1
        dsimp only
        rw [e, h1, lookup_storeCells]
        simp [c, List.getElem?_eq_getElem this]
      · rw [if_neg (fun c => e (hx c)), ← hroom]
        refine Eq.trans ?_ (byteAt_eq u x).symm
        have : ∀ v w, mscData { u.mem with msc := put line v u.mem.msc, wc := w } (x / 256) = mscData u.mem (x / 256) := by
          intro v w; unfold mscData; dsimp only; rw [lookup_put_other _ _ _ _ e]
        have h3 : ∀ v, wcData { u.mem with msc := put line v u.mem.msc, wc := u.mem.wc.filter (fun e => e.line ≠ line) }
            (x / 256) = wcData u.mem (x / 256) := by
          intro v; unfold wcData; dsimp only; rw [find_filter_line _ _ _ e]
        dsimp only at this h3
        dsimp only
        rw [this, h3]
    · exact byteAt_combine m data x s h.wc hd k

theorem invalidate_byteAt (line : Nat) (dies : List Nat) (x : Nat) (s : State) :
    byteAt (invalidate line dies s) x = byteAt s x := by
  unfold invalidate
  induction dies generalizing s with
  | nil => rfl
  | cons d t ih =>
    rw [List.foldl_cons, ih]
    refine byteAt_congr x ?_ ?_ ?_ ?_ <;> rfl

/-- One piece of a store reads back, and every other byte reads as before. -/
theorem byteAt_writeLine (u : Agent) (p : Nat × Bytes) (x : Nat) (s : State) (h : Canon s)
    (hd : p.1 % 256 + p.2.length ≤ 256) :
    byteAt (writeLine u s p) x = if p.1 ≤ x ∧ x < p.1 + p.2.length then p.2.getD (x - p.1) 0 else byteAt s x := by
  have k := byteAt_coherentWrite ⟨u.die, u.ep, u.unit, u.cls, p.1, p.2.length, u.part, false⟩ p.2 x s h hd
  unfold writeLine
  extract_lets line s1 dies
  split
  · exact k
  · rw [invalidate_byteAt]
    exact (byteAt_congr x rfl rfl rfl rfl).trans k

theorem byteAt_linePieces (u : Agent) (n a : Nat) (d : Bytes) (x : Nat) (s : State) (h : Canon s)
    (hn : a % 256 + d.length ≤ 256 * n) :
    byteAt ((linePieces n a d).foldl (writeLine u) s) x
      = if a ≤ x ∧ x < a + d.length then d.getD (x - a) 0 else byteAt s x := by
  induction n generalizing a d s with
  | zero =>
    have : d.length = 0 := by omega
    rw [if_neg (by omega)]; rfl
  | succ n ih =>
    unfold linePieces
    split
    · rename_i e
      have : d.length = 0 := by simpa using e
      rw [if_neg (by omega)]; rfl
    · have hp : a % 256 + (d.take (256 - a % 256)).length ≤ 256 := by
        have := List.length_take_le (256 - a % 256) d
        have := Nat.mod_lt a (show 256 > 0 by decide)
        omega
      have hl : (d.take (256 - a % 256)).length = min (256 - a % 256) d.length := List.length_take
      rw [List.foldl_cons, ih _ _ _ (writeLine_canon u s _ hp h) ?_, byteAt_writeLine u _ x s h hp, List.length_drop]
      · dsimp only
        rw [hl]
        by_cases c : a ≤ x ∧ x < a + d.length
        · rw [if_pos c]
          by_cases c1 : a + (256 - a % 256) ≤ x
          · rw [if_pos ⟨c1, by omega⟩, List.getD_eq_getElem?_getD, List.getD_eq_getElem?_getD, List.getElem?_drop]
            congr 2
            omega
          · rw [if_neg (by omega), if_pos ⟨c.1, by omega⟩, List.getD_eq_getElem?_getD, List.getD_eq_getElem?_getD,
              List.getElem?_take_of_lt (by omega)]
        · rw [if_neg c, if_neg (by omega), if_neg (by omega)]
      · rw [List.length_drop]
        have := Nat.mod_lt a (show 256 > 0 by decide)
        have : (a + (256 - a % 256)) % 256 = 0 := by omega
        omega

/-- A store reads back, and every other byte reads as before. -/
theorem byteAt_storeBytes (u : Agent) (a x : Nat) (d : Bytes) (s : State) (h : Canon s) :
    byteAt (storeBytes u a d s) x = if a ≤ x ∧ x < a + d.length then d.getD (x - a) 0 else byteAt s x :=
  byteAt_linePieces u _ a d x s h (by
    have := Nat.mod_lt a (show 256 > 0 by decide)
    omega)

end Sys2Proof.Machine
end

