-- ==== Sys2Proof/Laws/ObjectFrames.lean ====
section
/-! SUPPORT. Which objects of the register file an operation leaves alone. `RgK m s t`: every object of an index whose
bit is set in m reads the same in t as in s. One lemma per operation of the machine. -/

namespace Sys2Proof.Machine

/-- The indexes of the dictionary that commands other than a general write change. -/
def ixList : List Nat :=
  [0x1000, 0x1100, 0x1101, 0x1210, 0x1300, 0x2001, 0x2010, 0x2011, 0x2012, 0x2013, 0x2020, 0x3001,
   0x3020, 0x3021, 0x3022, 0x3031, 0x3040, 0x4000, 0x4002, 0x4010, 0x4020, 0x4021, 0x4030, 0x4800,
   0x4801, 0x5002, 0x5020, 0x5030, 0x6000, 0x6001, 0x6020, 0x6030, 0x6050, 0x6C00, 0x6C01, 0x6E01,
   0x6E02, 0x6E03, 0x7020, 0x8000, 0x8001, 0x8002, 0x8003, 0x8010, 0x8020, 0x8030, 0x9003, 0x9010,
   0x9040, 0xA000, 0xA001, 0xA010, 0xA020, 0xA040, 0xB000, 0xB002, 0xB010, 0xB020, 0xC000, 0xC001,
   0xC002, 0xC010, 0xF000]

/-- The bit of an index; every index outside the list has the last one. -/
def ixBit (i : Nat) : Nat := ixList.idxOf i

/-- The objects of every index whose bit is set in m are the same. -/
def RgK (m : Nat) (s t : State) : Prop := ∀ i j, m.testBit (ixBit i) = true → rg t i j = rg s i j

@[simp] theorem RgK.refl (m : Nat) (s : State) : RgK m s s := fun _ _ _ => rfl

theorem RgK.trans {m : Nat} {s t u : State} (h : RgK m s t) (k : RgK m t u) : RgK m s u :=
  fun i j b => (k i j b).trans (h i j b)

theorem RgK.symm {m : Nat} {s t : State} (h : RgK m s t) : RgK m t s := fun i j b => (h i j b).symm

theorem RgK.mono {m n : Nat} {s t : State} (hm : m &&& n = m) (h : RgK n s t) : RgK m s t := by
  intro i j hi
  refine h i j ?_
  rw [← hm, Nat.testBit_and, Bool.and_eq_true] at hi
  exact hi.2

theorem rgK_of {m : Nat} {s0 s t : State} (n : Nat) (h : RgK n s t) (hm : m &&& n = m) :
    RgK m s0 t ↔ RgK m s0 s :=
  ⟨fun k => k.trans (h.mono hm).symm, fun k => k.trans (h.mono hm)⟩

theorem rgK_of_regs {m : Nat} {s t : State} (h : t.regs = s.regs) : RgK m s t := by
  intro i j _
  unfold rg
  rw [h]

@[simp] theorem rgK_set {m : Nat} {s0 u : State} (a0) (a1) (a2) (a3) (a5) (a6) (a7) (a8) (a9) (a10) (a11) (a12) (a13) (a14) (a15) (a16) (a17) (a18) (a19) :
    RgK m s0 (State.mk a0 a1 a2 a3 u.regs a5 a6 a7 a8 a9 a10 a11 a12 a13 a14 a15 a16 a17 a18 a19) ↔ RgK m s0 u :=
  Iff.rfl

@[simp] theorem rgK_ite {m : Nat} {s0 : State} (c : Prop) [Decidable c] (a b : State) :
    RgK m s0 (if c then a else b) ↔ (if c then RgK m s0 a else RgK m s0 b) := by split <;> rfl

theorem rgK_foldl {m : Nat} {α : Type} (f : State → α → State) (h : ∀ u e, RgK m u (f u e)) (l : List α) (s0 s : State)
    (hs : RgK m s0 s) : RgK m s0 (l.foldl f s) := by
  induction l generalizing s with
  | nil => exact hs
  | cons a t ih => exact ih _ (hs.trans (h s a))

@[simp] theorem rgK_foldl_iff {m : Nat} {α : Type} (f : State → α → State) (h : ∀ u e, RgK m u (f u e)) (l : List α) (s0 s : State) :
    RgK m s0 (l.foldl f s) ↔ RgK m s0 s :=
  rgK_of m (rgK_foldl f h l s s (RgK.refl m s)) (Nat.and_self m)

theorem rgK_withRg {m x j v : Nat} {s : State} (b : m.testBit (ixBit x) = false) : RgK m s (withRg x j v s) := by
  intro i k hi
  refine rg_withRg_other _ _ (fun e => ?_)
  have : i = x := (keyOf_index e)
  rw [this, b] at hi
  cases hi

@[simp] theorem withRg_rgK_1000 {m j v : Nat} {s0 s : State} (hm : m &&& 18446744073709551614 = m) :
    RgK m s0 (withRg 0x1000 j v s) ↔ RgK m s0 s := rgK_of 18446744073709551614 (rgK_withRg (by decide)) hm

@[simp] theorem bump_rgK_1000 {m j v : Nat} {s0 s : State} (hm : m &&& 18446744073709551614 = m) :
    RgK m s0 (bump 0x1000 j v s) ↔ RgK m s0 s := rgK_of 18446744073709551614 (rgK_withRg (by decide)) hm

@[simp] theorem withRg_rgK_1100 {m j v : Nat} {s0 s : State} (hm : m &&& 18446744073709551613 = m) :
    RgK m s0 (withRg 0x1100 j v s) ↔ RgK m s0 s := rgK_of 18446744073709551613 (rgK_withRg (by decide)) hm

@[simp] theorem bump_rgK_1100 {m j v : Nat} {s0 s : State} (hm : m &&& 18446744073709551613 = m) :
    RgK m s0 (bump 0x1100 j v s) ↔ RgK m s0 s := rgK_of 18446744073709551613 (rgK_withRg (by decide)) hm

@[simp] theorem withRg_rgK_1101 {m j v : Nat} {s0 s : State} (hm : m &&& 18446744073709551611 = m) :
    RgK m s0 (withRg 0x1101 j v s) ↔ RgK m s0 s := rgK_of 18446744073709551611 (rgK_withRg (by decide)) hm

@[simp] theorem bump_rgK_1101 {m j v : Nat} {s0 s : State} (hm : m &&& 18446744073709551611 = m) :
    RgK m s0 (bump 0x1101 j v s) ↔ RgK m s0 s := rgK_of 18446744073709551611 (rgK_withRg (by decide)) hm

@[simp] theorem withRg_rgK_1210 {m j v : Nat} {s0 s : State} (hm : m &&& 18446744073709551607 = m) :
    RgK m s0 (withRg 0x1210 j v s) ↔ RgK m s0 s := rgK_of 18446744073709551607 (rgK_withRg (by decide)) hm

@[simp] theorem bump_rgK_1210 {m j v : Nat} {s0 s : State} (hm : m &&& 18446744073709551607 = m) :
    RgK m s0 (bump 0x1210 j v s) ↔ RgK m s0 s := rgK_of 18446744073709551607 (rgK_withRg (by decide)) hm

@[simp] theorem withRg_rgK_1300 {m j v : Nat} {s0 s : State} (hm : m &&& 18446744073709551599 = m) :
    RgK m s0 (withRg 0x1300 j v s) ↔ RgK m s0 s := rgK_of 18446744073709551599 (rgK_withRg (by decide)) hm

@[simp] theorem bump_rgK_1300 {m j v : Nat} {s0 s : State} (hm : m &&& 18446744073709551599 = m) :
    RgK m s0 (bump 0x1300 j v s) ↔ RgK m s0 s := rgK_of 18446744073709551599 (rgK_withRg (by decide)) hm

@[simp] theorem withRg_rgK_2001 {m j v : Nat} {s0 s : State} (hm : m &&& 18446744073709551583 = m) :
    RgK m s0 (withRg 0x2001 j v s) ↔ RgK m s0 s := rgK_of 18446744073709551583 (rgK_withRg (by decide)) hm

@[simp] theorem bump_rgK_2001 {m j v : Nat} {s0 s : State} (hm : m &&& 18446744073709551583 = m) :
    RgK m s0 (bump 0x2001 j v s) ↔ RgK m s0 s := rgK_of 18446744073709551583 (rgK_withRg (by decide)) hm

@[simp] theorem withRg_rgK_2010 {m j v : Nat} {s0 s : State} (hm : m &&& 18446744073709551551 = m) :
    RgK m s0 (withRg 0x2010 j v s) ↔ RgK m s0 s := rgK_of 18446744073709551551 (rgK_withRg (by decide)) hm

@[simp] theorem bump_rgK_2010 {m j v : Nat} {s0 s : State} (hm : m &&& 18446744073709551551 = m) :
    RgK m s0 (bump 0x2010 j v s) ↔ RgK m s0 s := rgK_of 18446744073709551551 (rgK_withRg (by decide)) hm

@[simp] theorem withRg_rgK_2011 {m j v : Nat} {s0 s : State} (hm : m &&& 18446744073709551487 = m) :
    RgK m s0 (withRg 0x2011 j v s) ↔ RgK m s0 s := rgK_of 18446744073709551487 (rgK_withRg (by decide)) hm

@[simp] theorem bump_rgK_2011 {m j v : Nat} {s0 s : State} (hm : m &&& 18446744073709551487 = m) :
    RgK m s0 (bump 0x2011 j v s) ↔ RgK m s0 s := rgK_of 18446744073709551487 (rgK_withRg (by decide)) hm

@[simp] theorem withRg_rgK_2012 {m j v : Nat} {s0 s : State} (hm : m &&& 18446744073709551359 = m) :
    RgK m s0 (withRg 0x2012 j v s) ↔ RgK m s0 s := rgK_of 18446744073709551359 (rgK_withRg (by decide)) hm

@[simp] theorem bump_rgK_2012 {m j v : Nat} {s0 s : State} (hm : m &&& 18446744073709551359 = m) :
    RgK m s0 (bump 0x2012 j v s) ↔ RgK m s0 s := rgK_of 18446744073709551359 (rgK_withRg (by decide)) hm

@[simp] theorem withRg_rgK_2013 {m j v : Nat} {s0 s : State} (hm : m &&& 18446744073709551103 = m) :
    RgK m s0 (withRg 0x2013 j v s) ↔ RgK m s0 s := rgK_of 18446744073709551103 (rgK_withRg (by decide)) hm

@[simp] theorem bump_rgK_2013 {m j v : Nat} {s0 s : State} (hm : m &&& 18446744073709551103 = m) :
    RgK m s0 (bump 0x2013 j v s) ↔ RgK m s0 s := rgK_of 18446744073709551103 (rgK_withRg (by decide)) hm

@[simp] theorem withRg_rgK_2020 {m j v : Nat} {s0 s : State} (hm : m &&& 18446744073709550591 = m) :
    RgK m s0 (withRg 0x2020 j v s) ↔ RgK m s0 s := rgK_of 18446744073709550591 (rgK_withRg (by decide)) hm

@[simp] theorem bump_rgK_2020 {m j v : Nat} {s0 s : State} (hm : m &&& 18446744073709550591 = m) :
    RgK m s0 (bump 0x2020 j v s) ↔ RgK m s0 s := rgK_of 18446744073709550591 (rgK_withRg (by decide)) hm

@[simp] theorem withRg_rgK_3001 {m j v : Nat} {s0 s : State} (hm : m &&& 18446744073709549567 = m) :
    RgK m s0 (withRg 0x3001 j v s) ↔ RgK m s0 s := rgK_of 18446744073709549567 (rgK_withRg (by decide)) hm

@[simp] theorem bump_rgK_3001 {m j v : Nat} {s0 s : State} (hm : m &&& 18446744073709549567 = m) :
    RgK m s0 (bump 0x3001 j v s) ↔ RgK m s0 s := rgK_of 18446744073709549567 (rgK_withRg (by decide)) hm

@[simp] theorem withRg_rgK_3020 {m j v : Nat} {s0 s : State} (hm : m &&& 18446744073709547519 = m) :
    RgK m s0 (withRg 0x3020 j v s) ↔ RgK m s0 s := rgK_of 18446744073709547519 (rgK_withRg (by decide)) hm

@[simp] theorem bump_rgK_3020 {m j v : Nat} {s0 s : State} (hm : m &&& 18446744073709547519 = m) :
    RgK m s0 (bump 0x3020 j v s) ↔ RgK m s0 s := rgK_of 18446744073709547519 (rgK_withRg (by decide)) hm

@[simp] theorem withRg_rgK_3021 {m j v : Nat} {s0 s : State} (hm : m &&& 18446744073709543423 = m) :
    RgK m s0 (withRg 0x3021 j v s) ↔ RgK m s0 s := rgK_of 18446744073709543423 (rgK_withRg (by decide)) hm

@[simp] theorem bump_rgK_3021 {m j v : Nat} {s0 s : State} (hm : m &&& 18446744073709543423 = m) :
    RgK m s0 (bump 0x3021 j v s) ↔ RgK m s0 s := rgK_of 18446744073709543423 (rgK_withRg (by decide)) hm

@[simp] theorem withRg_rgK_3022 {m j v : Nat} {s0 s : State} (hm : m &&& 18446744073709535231 = m) :
    RgK m s0 (withRg 0x3022 j v s) ↔ RgK m s0 s := rgK_of 18446744073709535231 (rgK_withRg (by decide)) hm

@[simp] theorem bump_rgK_3022 {m j v : Nat} {s0 s : State} (hm : m &&& 18446744073709535231 = m) :
    RgK m s0 (bump 0x3022 j v s) ↔ RgK m s0 s := rgK_of 18446744073709535231 (rgK_withRg (by decide)) hm

@[simp] theorem withRg_rgK_3031 {m j v : Nat} {s0 s : State} (hm : m &&& 18446744073709518847 = m) :
    RgK m s0 (withRg 0x3031 j v s) ↔ RgK m s0 s := rgK_of 18446744073709518847 (rgK_withRg (by decide)) hm

@[simp] theorem bump_rgK_3031 {m j v : Nat} {s0 s : State} (hm : m &&& 18446744073709518847 = m) :
    RgK m s0 (bump 0x3031 j v s) ↔ RgK m s0 s := rgK_of 18446744073709518847 (rgK_withRg (by decide)) hm

@[simp] theorem withRg_rgK_3040 {m j v : Nat} {s0 s : State} (hm : m &&& 18446744073709486079 = m) :
    RgK m s0 (withRg 0x3040 j v s) ↔ RgK m s0 s := rgK_of 18446744073709486079 (rgK_withRg (by decide)) hm

@[simp] theorem bump_rgK_3040 {m j v : Nat} {s0 s : State} (hm : m &&& 18446744073709486079 = m) :
    RgK m s0 (bump 0x3040 j v s) ↔ RgK m s0 s := rgK_of 18446744073709486079 (rgK_withRg (by decide)) hm

@[simp] theorem withRg_rgK_4000 {m j v : Nat} {s0 s : State} (hm : m &&& 18446744073709420543 = m) :
    RgK m s0 (withRg 0x4000 j v s) ↔ RgK m s0 s := rgK_of 18446744073709420543 (rgK_withRg (by decide)) hm

@[simp] theorem bump_rgK_4000 {m j v : Nat} {s0 s : State} (hm : m &&& 18446744073709420543 = m) :
    RgK m s0 (bump 0x4000 j v s) ↔ RgK m s0 s := rgK_of 18446744073709420543 (rgK_withRg (by decide)) hm

@[simp] theorem withRg_rgK_4002 {m j v : Nat} {s0 s : State} (hm : m &&& 18446744073709289471 = m) :
    RgK m s0 (withRg 0x4002 j v s) ↔ RgK m s0 s := rgK_of 18446744073709289471 (rgK_withRg (by decide)) hm

@[simp] theorem bump_rgK_4002 {m j v : Nat} {s0 s : State} (hm : m &&& 18446744073709289471 = m) :
    RgK m s0 (bump 0x4002 j v s) ↔ RgK m s0 s := rgK_of 18446744073709289471 (rgK_withRg (by decide)) hm

@[simp] theorem withRg_rgK_4010 {m j v : Nat} {s0 s : State} (hm : m &&& 18446744073709027327 = m) :
    RgK m s0 (withRg 0x4010 j v s) ↔ RgK m s0 s := rgK_of 18446744073709027327 (rgK_withRg (by decide)) hm

@[simp] theorem bump_rgK_4010 {m j v : Nat} {s0 s : State} (hm : m &&& 18446744073709027327 = m) :
    RgK m s0 (bump 0x4010 j v s) ↔ RgK m s0 s := rgK_of 18446744073709027327 (rgK_withRg (by decide)) hm

@[simp] theorem withRg_rgK_4020 {m j v : Nat} {s0 s : State} (hm : m &&& 18446744073708503039 = m) :
    RgK m s0 (withRg 0x4020 j v s) ↔ RgK m s0 s := rgK_of 18446744073708503039 (rgK_withRg (by decide)) hm

@[simp] theorem bump_rgK_4020 {m j v : Nat} {s0 s : State} (hm : m &&& 18446744073708503039 = m) :
    RgK m s0 (bump 0x4020 j v s) ↔ RgK m s0 s := rgK_of 18446744073708503039 (rgK_withRg (by decide)) hm

@[simp] theorem withRg_rgK_4021 {m j v : Nat} {s0 s : State} (hm : m &&& 18446744073707454463 = m) :
    RgK m s0 (withRg 0x4021 j v s) ↔ RgK m s0 s := rgK_of 18446744073707454463 (rgK_withRg (by decide)) hm

@[simp] theorem bump_rgK_4021 {m j v : Nat} {s0 s : State} (hm : m &&& 18446744073707454463 = m) :
    RgK m s0 (bump 0x4021 j v s) ↔ RgK m s0 s := rgK_of 18446744073707454463 (rgK_withRg (by decide)) hm

@[simp] theorem withRg_rgK_4030 {m j v : Nat} {s0 s : State} (hm : m &&& 18446744073705357311 = m) :
    RgK m s0 (withRg 0x4030 j v s) ↔ RgK m s0 s := rgK_of 18446744073705357311 (rgK_withRg (by decide)) hm

@[simp] theorem bump_rgK_4030 {m j v : Nat} {s0 s : State} (hm : m &&& 18446744073705357311 = m) :
    RgK m s0 (bump 0x4030 j v s) ↔ RgK m s0 s := rgK_of 18446744073705357311 (rgK_withRg (by decide)) hm

@[simp] theorem withRg_rgK_4800 {m j v : Nat} {s0 s : State} (hm : m &&& 18446744073701163007 = m) :
    RgK m s0 (withRg 0x4800 j v s) ↔ RgK m s0 s := rgK_of 18446744073701163007 (rgK_withRg (by decide)) hm

@[simp] theorem bump_rgK_4800 {m j v : Nat} {s0 s : State} (hm : m &&& 18446744073701163007 = m) :
    RgK m s0 (bump 0x4800 j v s) ↔ RgK m s0 s := rgK_of 18446744073701163007 (rgK_withRg (by decide)) hm

@[simp] theorem withRg_rgK_4801 {m j v : Nat} {s0 s : State} (hm : m &&& 18446744073692774399 = m) :
    RgK m s0 (withRg 0x4801 j v s) ↔ RgK m s0 s := rgK_of 18446744073692774399 (rgK_withRg (by decide)) hm

@[simp] theorem bump_rgK_4801 {m j v : Nat} {s0 s : State} (hm : m &&& 18446744073692774399 = m) :
    RgK m s0 (bump 0x4801 j v s) ↔ RgK m s0 s := rgK_of 18446744073692774399 (rgK_withRg (by decide)) hm

@[simp] theorem withRg_rgK_5002 {m j v : Nat} {s0 s : State} (hm : m &&& 18446744073675997183 = m) :
    RgK m s0 (withRg 0x5002 j v s) ↔ RgK m s0 s := rgK_of 18446744073675997183 (rgK_withRg (by decide)) hm

@[simp] theorem bump_rgK_5002 {m j v : Nat} {s0 s : State} (hm : m &&& 18446744073675997183 = m) :
    RgK m s0 (bump 0x5002 j v s) ↔ RgK m s0 s := rgK_of 18446744073675997183 (rgK_withRg (by decide)) hm

@[simp] theorem withRg_rgK_5020 {m j v : Nat} {s0 s : State} (hm : m &&& 18446744073642442751 = m) :
    RgK m s0 (withRg 0x5020 j v s) ↔ RgK m s0 s := rgK_of 18446744073642442751 (rgK_withRg (by decide)) hm

@[simp] theorem bump_rgK_5020 {m j v : Nat} {s0 s : State} (hm : m &&& 18446744073642442751 = m) :
    RgK m s0 (bump 0x5020 j v s) ↔ RgK m s0 s := rgK_of 18446744073642442751 (rgK_withRg (by decide)) hm

@[simp] theorem withRg_rgK_5030 {m j v : Nat} {s0 s : State} (hm : m &&& 18446744073575333887 = m) :
    RgK m s0 (withRg 0x5030 j v s) ↔ RgK m s0 s := rgK_of 18446744073575333887 (rgK_withRg (by decide)) hm

@[simp] theorem bump_rgK_5030 {m j v : Nat} {s0 s : State} (hm : m &&& 18446744073575333887 = m) :
    RgK m s0 (bump 0x5030 j v s) ↔ RgK m s0 s := rgK_of 18446744073575333887 (rgK_withRg (by decide)) hm

@[simp] theorem withRg_rgK_6000 {m j v : Nat} {s0 s : State} (hm : m &&& 18446744073441116159 = m) :
    RgK m s0 (withRg 0x6000 j v s) ↔ RgK m s0 s := rgK_of 18446744073441116159 (rgK_withRg (by decide)) hm

@[simp] theorem bump_rgK_6000 {m j v : Nat} {s0 s : State} (hm : m &&& 18446744073441116159 = m) :
    RgK m s0 (bump 0x6000 j v s) ↔ RgK m s0 s := rgK_of 18446744073441116159 (rgK_withRg (by decide)) hm

@[simp] theorem withRg_rgK_6001 {m j v : Nat} {s0 s : State} (hm : m &&& 18446744073172680703 = m) :
    RgK m s0 (withRg 0x6001 j v s) ↔ RgK m s0 s := rgK_of 18446744073172680703 (rgK_withRg (by decide)) hm

@[simp] theorem bump_rgK_6001 {m j v : Nat} {s0 s : State} (hm : m &&& 18446744073172680703 = m) :
    RgK m s0 (bump 0x6001 j v s) ↔ RgK m s0 s := rgK_of 18446744073172680703 (rgK_withRg (by decide)) hm

@[simp] theorem withRg_rgK_6020 {m j v : Nat} {s0 s : State} (hm : m &&& 18446744072635809791 = m) :
    RgK m s0 (withRg 0x6020 j v s) ↔ RgK m s0 s := rgK_of 18446744072635809791 (rgK_withRg (by decide)) hm

@[simp] theorem bump_rgK_6020 {m j v : Nat} {s0 s : State} (hm : m &&& 18446744072635809791 = m) :
    RgK m s0 (bump 0x6020 j v s) ↔ RgK m s0 s := rgK_of 18446744072635809791 (rgK_withRg (by decide)) hm

@[simp] theorem withRg_rgK_6030 {m j v : Nat} {s0 s : State} (hm : m &&& 18446744071562067967 = m) :
    RgK m s0 (withRg 0x6030 j v s) ↔ RgK m s0 s := rgK_of 18446744071562067967 (rgK_withRg (by decide)) hm

@[simp] theorem bump_rgK_6030 {m j v : Nat} {s0 s : State} (hm : m &&& 18446744071562067967 = m) :
    RgK m s0 (bump 0x6030 j v s) ↔ RgK m s0 s := rgK_of 18446744071562067967 (rgK_withRg (by decide)) hm

@[simp] theorem withRg_rgK_6050 {m j v : Nat} {s0 s : State} (hm : m &&& 18446744069414584319 = m) :
    RgK m s0 (withRg 0x6050 j v s) ↔ RgK m s0 s := rgK_of 18446744069414584319 (rgK_withRg (by decide)) hm

@[simp] theorem bump_rgK_6050 {m j v : Nat} {s0 s : State} (hm : m &&& 18446744069414584319 = m) :
    RgK m s0 (bump 0x6050 j v s) ↔ RgK m s0 s := rgK_of 18446744069414584319 (rgK_withRg (by decide)) hm

@[simp] theorem withRg_rgK_6C00 {m j v : Nat} {s0 s : State} (hm : m &&& 18446744065119617023 = m) :
    RgK m s0 (withRg 0x6C00 j v s) ↔ RgK m s0 s := rgK_of 18446744065119617023 (rgK_withRg (by decide)) hm

@[simp] theorem bump_rgK_6C00 {m j v : Nat} {s0 s : State} (hm : m &&& 18446744065119617023 = m) :
    RgK m s0 (bump 0x6C00 j v s) ↔ RgK m s0 s := rgK_of 18446744065119617023 (rgK_withRg (by decide)) hm

@[simp] theorem withRg_rgK_6C01 {m j v : Nat} {s0 s : State} (hm : m &&& 18446744056529682431 = m) :
    RgK m s0 (withRg 0x6C01 j v s) ↔ RgK m s0 s := rgK_of 18446744056529682431 (rgK_withRg (by decide)) hm

@[simp] theorem bump_rgK_6C01 {m j v : Nat} {s0 s : State} (hm : m &&& 18446744056529682431 = m) :
    RgK m s0 (bump 0x6C01 j v s) ↔ RgK m s0 s := rgK_of 18446744056529682431 (rgK_withRg (by decide)) hm

@[simp] theorem withRg_rgK_6E01 {m j v : Nat} {s0 s : State} (hm : m &&& 18446744039349813247 = m) :
    RgK m s0 (withRg 0x6E01 j v s) ↔ RgK m s0 s := rgK_of 18446744039349813247 (rgK_withRg (by decide)) hm

@[simp] theorem bump_rgK_6E01 {m j v : Nat} {s0 s : State} (hm : m &&& 18446744039349813247 = m) :
    RgK m s0 (bump 0x6E01 j v s) ↔ RgK m s0 s := rgK_of 18446744039349813247 (rgK_withRg (by decide)) hm

@[simp] theorem withRg_rgK_6E02 {m j v : Nat} {s0 s : State} (hm : m &&& 18446744004990074879 = m) :
    RgK m s0 (withRg 0x6E02 j v s) ↔ RgK m s0 s := rgK_of 18446744004990074879 (rgK_withRg (by decide)) hm

@[simp] theorem bump_rgK_6E02 {m j v : Nat} {s0 s : State} (hm : m &&& 18446744004990074879 = m) :
    RgK m s0 (bump 0x6E02 j v s) ↔ RgK m s0 s := rgK_of 18446744004990074879 (rgK_withRg (by decide)) hm

@[simp] theorem withRg_rgK_6E03 {m j v : Nat} {s0 s : State} (hm : m &&& 18446743936270598143 = m) :
    RgK m s0 (withRg 0x6E03 j v s) ↔ RgK m s0 s := rgK_of 18446743936270598143 (rgK_withRg (by decide)) hm

@[simp] theorem bump_rgK_6E03 {m j v : Nat} {s0 s : State} (hm : m &&& 18446743936270598143 = m) :
    RgK m s0 (bump 0x6E03 j v s) ↔ RgK m s0 s := rgK_of 18446743936270598143 (rgK_withRg (by decide)) hm

@[simp] theorem withRg_rgK_7020 {m j v : Nat} {s0 s : State} (hm : m &&& 18446743798831644671 = m) :
    RgK m s0 (withRg 0x7020 j v s) ↔ RgK m s0 s := rgK_of 18446743798831644671 (rgK_withRg (by decide)) hm

@[simp] theorem bump_rgK_7020 {m j v : Nat} {s0 s : State} (hm : m &&& 18446743798831644671 = m) :
    RgK m s0 (bump 0x7020 j v s) ↔ RgK m s0 s := rgK_of 18446743798831644671 (rgK_withRg (by decide)) hm

@[simp] theorem withRg_rgK_8000 {m j v : Nat} {s0 s : State} (hm : m &&& 18446743523953737727 = m) :
    RgK m s0 (withRg 0x8000 j v s) ↔ RgK m s0 s := rgK_of 18446743523953737727 (rgK_withRg (by decide)) hm

@[simp] theorem bump_rgK_8000 {m j v : Nat} {s0 s : State} (hm : m &&& 18446743523953737727 = m) :
    RgK m s0 (bump 0x8000 j v s) ↔ RgK m s0 s := rgK_of 18446743523953737727 (rgK_withRg (by decide)) hm

@[simp] theorem withRg_rgK_8001 {m j v : Nat} {s0 s : State} (hm : m &&& 18446742974197923839 = m) :
    RgK m s0 (withRg 0x8001 j v s) ↔ RgK m s0 s := rgK_of 18446742974197923839 (rgK_withRg (by decide)) hm

@[simp] theorem bump_rgK_8001 {m j v : Nat} {s0 s : State} (hm : m &&& 18446742974197923839 = m) :
    RgK m s0 (bump 0x8001 j v s) ↔ RgK m s0 s := rgK_of 18446742974197923839 (rgK_withRg (by decide)) hm

@[simp] theorem withRg_rgK_8002 {m j v : Nat} {s0 s : State} (hm : m &&& 18446741874686296063 = m) :
    RgK m s0 (withRg 0x8002 j v s) ↔ RgK m s0 s := rgK_of 18446741874686296063 (rgK_withRg (by decide)) hm

@[simp] theorem bump_rgK_8002 {m j v : Nat} {s0 s : State} (hm : m &&& 18446741874686296063 = m) :
    RgK m s0 (bump 0x8002 j v s) ↔ RgK m s0 s := rgK_of 18446741874686296063 (rgK_withRg (by decide)) hm

@[simp] theorem withRg_rgK_8003 {m j v : Nat} {s0 s : State} (hm : m &&& 18446739675663040511 = m) :
    RgK m s0 (withRg 0x8003 j v s) ↔ RgK m s0 s := rgK_of 18446739675663040511 (rgK_withRg (by decide)) hm

@[simp] theorem bump_rgK_8003 {m j v : Nat} {s0 s : State} (hm : m &&& 18446739675663040511 = m) :
    RgK m s0 (bump 0x8003 j v s) ↔ RgK m s0 s := rgK_of 18446739675663040511 (rgK_withRg (by decide)) hm

@[simp] theorem withRg_rgK_8010 {m j v : Nat} {s0 s : State} (hm : m &&& 18446735277616529407 = m) :
    RgK m s0 (withRg 0x8010 j v s) ↔ RgK m s0 s := rgK_of 18446735277616529407 (rgK_withRg (by decide)) hm

@[simp] theorem bump_rgK_8010 {m j v : Nat} {s0 s : State} (hm : m &&& 18446735277616529407 = m) :
    RgK m s0 (bump 0x8010 j v s) ↔ RgK m s0 s := rgK_of 18446735277616529407 (rgK_withRg (by decide)) hm

@[simp] theorem withRg_rgK_8020 {m j v : Nat} {s0 s : State} (hm : m &&& 18446726481523507199 = m) :
    RgK m s0 (withRg 0x8020 j v s) ↔ RgK m s0 s := rgK_of 18446726481523507199 (rgK_withRg (by decide)) hm

@[simp] theorem bump_rgK_8020 {m j v : Nat} {s0 s : State} (hm : m &&& 18446726481523507199 = m) :
    RgK m s0 (bump 0x8020 j v s) ↔ RgK m s0 s := rgK_of 18446726481523507199 (rgK_withRg (by decide)) hm

@[simp] theorem withRg_rgK_8030 {m j v : Nat} {s0 s : State} (hm : m &&& 18446708889337462783 = m) :
    RgK m s0 (withRg 0x8030 j v s) ↔ RgK m s0 s := rgK_of 18446708889337462783 (rgK_withRg (by decide)) hm

@[simp] theorem bump_rgK_8030 {m j v : Nat} {s0 s : State} (hm : m &&& 18446708889337462783 = m) :
    RgK m s0 (bump 0x8030 j v s) ↔ RgK m s0 s := rgK_of 18446708889337462783 (rgK_withRg (by decide)) hm

@[simp] theorem withRg_rgK_9003 {m j v : Nat} {s0 s : State} (hm : m &&& 18446673704965373951 = m) :
    RgK m s0 (withRg 0x9003 j v s) ↔ RgK m s0 s := rgK_of 18446673704965373951 (rgK_withRg (by decide)) hm

@[simp] theorem bump_rgK_9003 {m j v : Nat} {s0 s : State} (hm : m &&& 18446673704965373951 = m) :
    RgK m s0 (bump 0x9003 j v s) ↔ RgK m s0 s := rgK_of 18446673704965373951 (rgK_withRg (by decide)) hm

@[simp] theorem withRg_rgK_9010 {m j v : Nat} {s0 s : State} (hm : m &&& 18446603336221196287 = m) :
    RgK m s0 (withRg 0x9010 j v s) ↔ RgK m s0 s := rgK_of 18446603336221196287 (rgK_withRg (by decide)) hm

@[simp] theorem bump_rgK_9010 {m j v : Nat} {s0 s : State} (hm : m &&& 18446603336221196287 = m) :
    RgK m s0 (bump 0x9010 j v s) ↔ RgK m s0 s := rgK_of 18446603336221196287 (rgK_withRg (by decide)) hm

@[simp] theorem withRg_rgK_9040 {m j v : Nat} {s0 s : State} (hm : m &&& 18446462598732840959 = m) :
    RgK m s0 (withRg 0x9040 j v s) ↔ RgK m s0 s := rgK_of 18446462598732840959 (rgK_withRg (by decide)) hm

@[simp] theorem bump_rgK_9040 {m j v : Nat} {s0 s : State} (hm : m &&& 18446462598732840959 = m) :
    RgK m s0 (bump 0x9040 j v s) ↔ RgK m s0 s := rgK_of 18446462598732840959 (rgK_withRg (by decide)) hm

@[simp] theorem withRg_rgK_A000 {m j v : Nat} {s0 s : State} (hm : m &&& 18446181123756130303 = m) :
    RgK m s0 (withRg 0xA000 j v s) ↔ RgK m s0 s := rgK_of 18446181123756130303 (rgK_withRg (by decide)) hm

@[simp] theorem bump_rgK_A000 {m j v : Nat} {s0 s : State} (hm : m &&& 18446181123756130303 = m) :
    RgK m s0 (bump 0xA000 j v s) ↔ RgK m s0 s := rgK_of 18446181123756130303 (rgK_withRg (by decide)) hm

@[simp] theorem withRg_rgK_A001 {m j v : Nat} {s0 s : State} (hm : m &&& 18445618173802708991 = m) :
    RgK m s0 (withRg 0xA001 j v s) ↔ RgK m s0 s := rgK_of 18445618173802708991 (rgK_withRg (by decide)) hm

@[simp] theorem bump_rgK_A001 {m j v : Nat} {s0 s : State} (hm : m &&& 18445618173802708991 = m) :
    RgK m s0 (bump 0xA001 j v s) ↔ RgK m s0 s := rgK_of 18445618173802708991 (rgK_withRg (by decide)) hm

@[simp] theorem withRg_rgK_A010 {m j v : Nat} {s0 s : State} (hm : m &&& 18444492273895866367 = m) :
    RgK m s0 (withRg 0xA010 j v s) ↔ RgK m s0 s := rgK_of 18444492273895866367 (rgK_withRg (by decide)) hm

@[simp] theorem bump_rgK_A010 {m j v : Nat} {s0 s : State} (hm : m &&& 18444492273895866367 = m) :
    RgK m s0 (bump 0xA010 j v s) ↔ RgK m s0 s := rgK_of 18444492273895866367 (rgK_withRg (by decide)) hm

@[simp] theorem withRg_rgK_A020 {m j v : Nat} {s0 s : State} (hm : m &&& 18442240474082181119 = m) :
    RgK m s0 (withRg 0xA020 j v s) ↔ RgK m s0 s := rgK_of 18442240474082181119 (rgK_withRg (by decide)) hm

@[simp] theorem bump_rgK_A020 {m j v : Nat} {s0 s : State} (hm : m &&& 18442240474082181119 = m) :
    RgK m s0 (bump 0xA020 j v s) ↔ RgK m s0 s := rgK_of 18442240474082181119 (rgK_withRg (by decide)) hm

@[simp] theorem withRg_rgK_A040 {m j v : Nat} {s0 s : State} (hm : m &&& 18437736874454810623 = m) :
    RgK m s0 (withRg 0xA040 j v s) ↔ RgK m s0 s := rgK_of 18437736874454810623 (rgK_withRg (by decide)) hm

@[simp] theorem bump_rgK_A040 {m j v : Nat} {s0 s : State} (hm : m &&& 18437736874454810623 = m) :
    RgK m s0 (bump 0xA040 j v s) ↔ RgK m s0 s := rgK_of 18437736874454810623 (rgK_withRg (by decide)) hm

@[simp] theorem withRg_rgK_B000 {m j v : Nat} {s0 s : State} (hm : m &&& 18428729675200069631 = m) :
    RgK m s0 (withRg 0xB000 j v s) ↔ RgK m s0 s := rgK_of 18428729675200069631 (rgK_withRg (by decide)) hm

@[simp] theorem bump_rgK_B000 {m j v : Nat} {s0 s : State} (hm : m &&& 18428729675200069631 = m) :
    RgK m s0 (bump 0xB000 j v s) ↔ RgK m s0 s := rgK_of 18428729675200069631 (rgK_withRg (by decide)) hm

@[simp] theorem withRg_rgK_B002 {m j v : Nat} {s0 s : State} (hm : m &&& 18410715276690587647 = m) :
    RgK m s0 (withRg 0xB002 j v s) ↔ RgK m s0 s := rgK_of 18410715276690587647 (rgK_withRg (by decide)) hm

@[simp] theorem bump_rgK_B002 {m j v : Nat} {s0 s : State} (hm : m &&& 18410715276690587647 = m) :
    RgK m s0 (bump 0xB002 j v s) ↔ RgK m s0 s := rgK_of 18410715276690587647 (rgK_withRg (by decide)) hm

@[simp] theorem withRg_rgK_B010 {m j v : Nat} {s0 s : State} (hm : m &&& 18374686479671623679 = m) :
    RgK m s0 (withRg 0xB010 j v s) ↔ RgK m s0 s := rgK_of 18374686479671623679 (rgK_withRg (by decide)) hm

@[simp] theorem bump_rgK_B010 {m j v : Nat} {s0 s : State} (hm : m &&& 18374686479671623679 = m) :
    RgK m s0 (bump 0xB010 j v s) ↔ RgK m s0 s := rgK_of 18374686479671623679 (rgK_withRg (by decide)) hm

@[simp] theorem withRg_rgK_B020 {m j v : Nat} {s0 s : State} (hm : m &&& 18302628885633695743 = m) :
    RgK m s0 (withRg 0xB020 j v s) ↔ RgK m s0 s := rgK_of 18302628885633695743 (rgK_withRg (by decide)) hm

@[simp] theorem bump_rgK_B020 {m j v : Nat} {s0 s : State} (hm : m &&& 18302628885633695743 = m) :
    RgK m s0 (bump 0xB020 j v s) ↔ RgK m s0 s := rgK_of 18302628885633695743 (rgK_withRg (by decide)) hm

@[simp] theorem withRg_rgK_C000 {m j v : Nat} {s0 s : State} (hm : m &&& 18158513697557839871 = m) :
    RgK m s0 (withRg 0xC000 j v s) ↔ RgK m s0 s := rgK_of 18158513697557839871 (rgK_withRg (by decide)) hm

@[simp] theorem bump_rgK_C000 {m j v : Nat} {s0 s : State} (hm : m &&& 18158513697557839871 = m) :
    RgK m s0 (bump 0xC000 j v s) ↔ RgK m s0 s := rgK_of 18158513697557839871 (rgK_withRg (by decide)) hm

@[simp] theorem withRg_rgK_C001 {m j v : Nat} {s0 s : State} (hm : m &&& 17870283321406128127 = m) :
    RgK m s0 (withRg 0xC001 j v s) ↔ RgK m s0 s := rgK_of 17870283321406128127 (rgK_withRg (by decide)) hm

@[simp] theorem bump_rgK_C001 {m j v : Nat} {s0 s : State} (hm : m &&& 17870283321406128127 = m) :
    RgK m s0 (bump 0xC001 j v s) ↔ RgK m s0 s := rgK_of 17870283321406128127 (rgK_withRg (by decide)) hm

@[simp] theorem withRg_rgK_C002 {m j v : Nat} {s0 s : State} (hm : m &&& 17293822569102704639 = m) :
    RgK m s0 (withRg 0xC002 j v s) ↔ RgK m s0 s := rgK_of 17293822569102704639 (rgK_withRg (by decide)) hm

@[simp] theorem bump_rgK_C002 {m j v : Nat} {s0 s : State} (hm : m &&& 17293822569102704639 = m) :
    RgK m s0 (bump 0xC002 j v s) ↔ RgK m s0 s := rgK_of 17293822569102704639 (rgK_withRg (by decide)) hm

@[simp] theorem withRg_rgK_C010 {m j v : Nat} {s0 s : State} (hm : m &&& 16140901064495857663 = m) :
    RgK m s0 (withRg 0xC010 j v s) ↔ RgK m s0 s := rgK_of 16140901064495857663 (rgK_withRg (by decide)) hm

@[simp] theorem bump_rgK_C010 {m j v : Nat} {s0 s : State} (hm : m &&& 16140901064495857663 = m) :
    RgK m s0 (bump 0xC010 j v s) ↔ RgK m s0 s := rgK_of 16140901064495857663 (rgK_withRg (by decide)) hm

@[simp] theorem withRg_rgK_F000 {m j v : Nat} {s0 s : State} (hm : m &&& 13835058055282163711 = m) :
    RgK m s0 (withRg 0xF000 j v s) ↔ RgK m s0 s := rgK_of 13835058055282163711 (rgK_withRg (by decide)) hm

@[simp] theorem bump_rgK_F000 {m j v : Nat} {s0 s : State} (hm : m &&& 13835058055282163711 = m) :
    RgK m s0 (bump 0xF000 j v s) ↔ RgK m s0 s := rgK_of 13835058055282163711 (rgK_withRg (by decide)) hm

@[simp] theorem storeRule_apply_rgK_1210 {m : Nat} {s0 : State} (sub : Nat) (value : Bytes) (codes : List Nat) (u : State) (hm : m &&& 18446744073709551607 = m) :
    RgK m s0 ((storeRule 0x1210 sub value codes).apply u) ↔ RgK m s0 u := rgK_of 18446744073709551607 (by exact rgK_withRg (by decide)) hm

@[simp] theorem storeRule_after_rgK_1210 {m : Nat} {s0 : State} (sub : Nat) (value : Bytes) (codes : List Nat) (u : State) (hm : m &&& 18446744073709551607 = m) :
    RgK m s0 ((storeRule 0x1210 sub value codes).after u) ↔ RgK m s0 u := rgK_of 18446744073709551607 (by exact RgK.refl _ _) hm

@[simp] theorem storeRule_onReject_rgK_1210 {m : Nat} {s0 : State} (sub : Nat) (value : Bytes) (codes : List Nat) (u : State) (hm : m &&& 18446744073709551607 = m) :
    RgK m s0 ((storeRule 0x1210 sub value codes).onReject u) ↔ RgK m s0 u := rgK_of 18446744073709551607 (by exact RgK.refl _ _) hm

@[simp] theorem storeRule_apply_rgK_3031 {m : Nat} {s0 : State} (sub : Nat) (value : Bytes) (codes : List Nat) (u : State) (hm : m &&& 18446744073709518847 = m) :
    RgK m s0 ((storeRule 0x3031 sub value codes).apply u) ↔ RgK m s0 u := rgK_of 18446744073709518847 (by exact rgK_withRg (by decide)) hm

@[simp] theorem storeRule_after_rgK_3031 {m : Nat} {s0 : State} (sub : Nat) (value : Bytes) (codes : List Nat) (u : State) (hm : m &&& 18446744073709518847 = m) :
    RgK m s0 ((storeRule 0x3031 sub value codes).after u) ↔ RgK m s0 u := rgK_of 18446744073709518847 (by exact RgK.refl _ _) hm

@[simp] theorem storeRule_onReject_rgK_3031 {m : Nat} {s0 : State} (sub : Nat) (value : Bytes) (codes : List Nat) (u : State) (hm : m &&& 18446744073709518847 = m) :
    RgK m s0 ((storeRule 0x3031 sub value codes).onReject u) ↔ RgK m s0 u := rgK_of 18446744073709518847 (by exact RgK.refl _ _) hm

@[simp] theorem storeRule_apply_rgK_3040 {m : Nat} {s0 : State} (sub : Nat) (value : Bytes) (codes : List Nat) (u : State) (hm : m &&& 18446744073709486079 = m) :
    RgK m s0 ((storeRule 0x3040 sub value codes).apply u) ↔ RgK m s0 u := rgK_of 18446744073709486079 (by exact rgK_withRg (by decide)) hm

@[simp] theorem storeRule_after_rgK_3040 {m : Nat} {s0 : State} (sub : Nat) (value : Bytes) (codes : List Nat) (u : State) (hm : m &&& 18446744073709486079 = m) :
    RgK m s0 ((storeRule 0x3040 sub value codes).after u) ↔ RgK m s0 u := rgK_of 18446744073709486079 (by exact RgK.refl _ _) hm

@[simp] theorem storeRule_onReject_rgK_3040 {m : Nat} {s0 : State} (sub : Nat) (value : Bytes) (codes : List Nat) (u : State) (hm : m &&& 18446744073709486079 = m) :
    RgK m s0 ((storeRule 0x3040 sub value codes).onReject u) ↔ RgK m s0 u := rgK_of 18446744073709486079 (by exact RgK.refl _ _) hm

@[simp] theorem storeRule_apply_rgK_6020 {m : Nat} {s0 : State} (sub : Nat) (value : Bytes) (codes : List Nat) (u : State) (hm : m &&& 18446744072635809791 = m) :
    RgK m s0 ((storeRule 0x6020 sub value codes).apply u) ↔ RgK m s0 u := rgK_of 18446744072635809791 (by exact rgK_withRg (by decide)) hm

@[simp] theorem storeRule_after_rgK_6020 {m : Nat} {s0 : State} (sub : Nat) (value : Bytes) (codes : List Nat) (u : State) (hm : m &&& 18446744072635809791 = m) :
    RgK m s0 ((storeRule 0x6020 sub value codes).after u) ↔ RgK m s0 u := rgK_of 18446744072635809791 (by exact RgK.refl _ _) hm

@[simp] theorem storeRule_onReject_rgK_6020 {m : Nat} {s0 : State} (sub : Nat) (value : Bytes) (codes : List Nat) (u : State) (hm : m &&& 18446744072635809791 = m) :
    RgK m s0 ((storeRule 0x6020 sub value codes).onReject u) ↔ RgK m s0 u := rgK_of 18446744072635809791 (by exact RgK.refl _ _) hm

@[simp] theorem storeRule_apply_rgK_8000 {m : Nat} {s0 : State} (sub : Nat) (value : Bytes) (codes : List Nat) (u : State) (hm : m &&& 18446743523953737727 = m) :
    RgK m s0 ((storeRule 0x8000 sub value codes).apply u) ↔ RgK m s0 u := rgK_of 18446743523953737727 (by exact rgK_withRg (by decide)) hm

@[simp] theorem storeRule_after_rgK_8000 {m : Nat} {s0 : State} (sub : Nat) (value : Bytes) (codes : List Nat) (u : State) (hm : m &&& 18446743523953737727 = m) :
    RgK m s0 ((storeRule 0x8000 sub value codes).after u) ↔ RgK m s0 u := rgK_of 18446743523953737727 (by exact RgK.refl _ _) hm

@[simp] theorem storeRule_onReject_rgK_8000 {m : Nat} {s0 : State} (sub : Nat) (value : Bytes) (codes : List Nat) (u : State) (hm : m &&& 18446743523953737727 = m) :
    RgK m s0 ((storeRule 0x8000 sub value codes).onReject u) ↔ RgK m s0 u := rgK_of 18446743523953737727 (by exact RgK.refl _ _) hm

@[simp] theorem storeRule_apply_rgK_8001 {m : Nat} {s0 : State} (sub : Nat) (value : Bytes) (codes : List Nat) (u : State) (hm : m &&& 18446742974197923839 = m) :
    RgK m s0 ((storeRule 0x8001 sub value codes).apply u) ↔ RgK m s0 u := rgK_of 18446742974197923839 (by exact rgK_withRg (by decide)) hm

@[simp] theorem storeRule_after_rgK_8001 {m : Nat} {s0 : State} (sub : Nat) (value : Bytes) (codes : List Nat) (u : State) (hm : m &&& 18446742974197923839 = m) :
    RgK m s0 ((storeRule 0x8001 sub value codes).after u) ↔ RgK m s0 u := rgK_of 18446742974197923839 (by exact RgK.refl _ _) hm

@[simp] theorem storeRule_onReject_rgK_8001 {m : Nat} {s0 : State} (sub : Nat) (value : Bytes) (codes : List Nat) (u : State) (hm : m &&& 18446742974197923839 = m) :
    RgK m s0 ((storeRule 0x8001 sub value codes).onReject u) ↔ RgK m s0 u := rgK_of 18446742974197923839 (by exact RgK.refl _ _) hm

@[simp] theorem storeRule_apply_rgK_8002 {m : Nat} {s0 : State} (sub : Nat) (value : Bytes) (codes : List Nat) (u : State) (hm : m &&& 18446741874686296063 = m) :
    RgK m s0 ((storeRule 0x8002 sub value codes).apply u) ↔ RgK m s0 u := rgK_of 18446741874686296063 (by exact rgK_withRg (by decide)) hm

@[simp] theorem storeRule_after_rgK_8002 {m : Nat} {s0 : State} (sub : Nat) (value : Bytes) (codes : List Nat) (u : State) (hm : m &&& 18446741874686296063 = m) :
    RgK m s0 ((storeRule 0x8002 sub value codes).after u) ↔ RgK m s0 u := rgK_of 18446741874686296063 (by exact RgK.refl _ _) hm

@[simp] theorem storeRule_onReject_rgK_8002 {m : Nat} {s0 : State} (sub : Nat) (value : Bytes) (codes : List Nat) (u : State) (hm : m &&& 18446741874686296063 = m) :
    RgK m s0 ((storeRule 0x8002 sub value codes).onReject u) ↔ RgK m s0 u := rgK_of 18446741874686296063 (by exact RgK.refl _ _) hm

@[simp] theorem storeRule_apply_rgK_8010 {m : Nat} {s0 : State} (sub : Nat) (value : Bytes) (codes : List Nat) (u : State) (hm : m &&& 18446735277616529407 = m) :
    RgK m s0 ((storeRule 0x8010 sub value codes).apply u) ↔ RgK m s0 u := rgK_of 18446735277616529407 (by exact rgK_withRg (by decide)) hm

@[simp] theorem storeRule_after_rgK_8010 {m : Nat} {s0 : State} (sub : Nat) (value : Bytes) (codes : List Nat) (u : State) (hm : m &&& 18446735277616529407 = m) :
    RgK m s0 ((storeRule 0x8010 sub value codes).after u) ↔ RgK m s0 u := rgK_of 18446735277616529407 (by exact RgK.refl _ _) hm

@[simp] theorem storeRule_onReject_rgK_8010 {m : Nat} {s0 : State} (sub : Nat) (value : Bytes) (codes : List Nat) (u : State) (hm : m &&& 18446735277616529407 = m) :
    RgK m s0 ((storeRule 0x8010 sub value codes).onReject u) ↔ RgK m s0 u := rgK_of 18446735277616529407 (by exact RgK.refl _ _) hm

@[simp] theorem storeRule_apply_rgK_A020 {m : Nat} {s0 : State} (sub : Nat) (value : Bytes) (codes : List Nat) (u : State) (hm : m &&& 18442240474082181119 = m) :
    RgK m s0 ((storeRule 0xA020 sub value codes).apply u) ↔ RgK m s0 u := rgK_of 18442240474082181119 (by exact rgK_withRg (by decide)) hm

@[simp] theorem storeRule_after_rgK_A020 {m : Nat} {s0 : State} (sub : Nat) (value : Bytes) (codes : List Nat) (u : State) (hm : m &&& 18442240474082181119 = m) :
    RgK m s0 ((storeRule 0xA020 sub value codes).after u) ↔ RgK m s0 u := rgK_of 18442240474082181119 (by exact RgK.refl _ _) hm

@[simp] theorem storeRule_onReject_rgK_A020 {m : Nat} {s0 : State} (sub : Nat) (value : Bytes) (codes : List Nat) (u : State) (hm : m &&& 18442240474082181119 = m) :
    RgK m s0 ((storeRule 0xA020 sub value codes).onReject u) ↔ RgK m s0 u := rgK_of 18442240474082181119 (by exact RgK.refl _ _) hm

@[simp] theorem withHalf_rgK {m : Nat} {s0 : State} (half : Nat) (t1 : HalfTest) (s : State) :
    RgK m s0 (withHalf half t1 s) ↔ RgK m s0 s := rgK_of m (by exact rgK_of_regs (Keeps.regs ((withHalf_keeps (m := 524287) (s0 := s) half t1 s (by decide)).mpr (Keeps.refl _ _)) (by decide))) (Nat.and_self m)

@[simp] theorem withSite_rgK {m : Nat} {s0 : State} (key : Nat) (x : Site) (s : State) :
    RgK m s0 (withSite key x s) ↔ RgK m s0 s := rgK_of m (by exact rgK_of_regs (Keeps.regs ((withSite_keeps (m := 1048447) (s0 := s) key x s (by decide)).mpr (Keeps.refl _ _)) (by decide))) (Nat.and_self m)

@[simp] theorem zeroSite_rgK {m : Nat} {s0 : State} (half : Nat) (site : Nat) (s : State) :
    RgK m s0 (zeroSite half site s) ↔ RgK m s0 s := rgK_of m (by exact rgK_of_regs (Keeps.regs ((zeroSite_keeps (m := 1048447) (s0 := s) half site s (by decide)).mpr (Keeps.refl _ _)) (by decide))) (Nat.and_self m)

@[simp] theorem returnCore_rgK {m : Nat} {s0 : State} (half : Nat) (s : State) :
    RgK m s0 (returnCore half s) ↔ RgK m s0 s := rgK_of m (by exact rgK_of_regs (Keeps.regs ((returnCore_keeps (m := 523903) (s0 := s) half s (by decide)).mpr (Keeps.refl _ _)) (by decide))) (Nat.and_self m)

@[simp] theorem abandonTest_rgK {m : Nat} {s0 : State} (s : State) (half : Nat) :
    RgK m s0 (abandonTest s half) ↔ RgK m s0 s := rgK_of m (by exact rgK_of_regs (Keeps.regs ((abandonTest_keeps (m := 523903) (s0 := s) s half (by decide)).mpr (Keeps.refl _ _)) (by decide))) (Nat.and_self m)

@[simp] theorem abandonTests_rgK {m : Nat} {s0 : State} (s : State) :
    RgK m s0 (abandonTests s) ↔ RgK m s0 s := rgK_of m (by exact rgK_of_regs (Keeps.regs ((abandonTests_keeps (m := 523903) (s0 := s) s (by decide)).mpr (Keeps.refl _ _)) (by decide))) (Nat.and_self m)

@[simp] theorem fresh_rgK {m : Nat} {s0 : State} (s : State) :
    RgK m s0 (fresh s) ↔ RgK m s0 s := rgK_of m (by exact rgK_of_regs (Keeps.regs ((fresh_keeps (m := 1048573) (s0 := s) s (by decide)).mpr (Keeps.refl _ _)) (by decide))) (Nat.and_self m)

@[simp] theorem emit_rgK {m : Nat} {s0 : State} (o : Output) (s : State) :
    RgK m s0 (emit o s) ↔ RgK m s0 s := rgK_of m (by exact rgK_of_regs (Keeps.regs ((emit_keeps (m := 1048573) (s0 := s) o s (by decide)).mpr (Keeps.refl _ _)) (by decide))) (Nat.and_self m)

@[simp] theorem drawn_rgK {m : Nat} {s0 : State} (s : State) :
    RgK m s0 (drawn s) ↔ RgK m s0 s := rgK_of m (by exact rgK_of_regs (Keeps.regs ((drawn_keeps (m := 1048571) (s0 := s) s (by decide)).mpr (Keeps.refl _ _)) (by decide))) (Nat.and_self m)

@[simp] theorem withSess_rgK {m : Nat} {s0 : State} (n : Nat) (x : Session) (s : State) :
    RgK m s0 (withSess n x s) ↔ RgK m s0 s := rgK_of m (by exact rgK_of_regs (Keeps.regs ((withSess_keeps (m := 917503) (s0 := s) n x s (by decide)).mpr (Keeps.refl _ _)) (by decide))) (Nat.and_self m)

@[simp] theorem raiseFor_rgK {m : Nat} {s0 : State} (aud : Nat) (code : Nat) (payload : Bytes) (s : State) (hm : m &&& 18446744056529682415 = m) :
    RgK m s0 (raiseFor aud code payload s) ↔ RgK m s0 s := rgK_of 18446744056529682415 (by unfold raiseFor; (repeat' split) <;> simp) hm

@[simp] theorem raise_rgK {m : Nat} {s0 : State} (aud : Nat) (code : Nat) (payload : Bytes) (s : State) (hm : m &&& 18446744056529682415 = m) :
    RgK m s0 (raise aud code payload s) ↔ RgK m s0 s := rgK_of 18446744056529682415 (by unfold raise; (repeat' split) <;> simp) hm

@[simp] theorem exportIfDue_rgK {m : Nat} {s0 : State} (s : State) (hm : m &&& 18446744056529682415 = m) :
    RgK m s0 (exportIfDue s) ↔ RgK m s0 s := rgK_of 18446744056529682415 (by unfold exportIfDue; (repeat' split) <;> simp) hm

@[simp] theorem auditDigest_rgK {m : Nat} {s0 : State} (sess : Nat) (idx : Nat) (sub : Nat) (kind : Nat) (keyed : Bool) (len : Nat) (digest : BitVec 384) (s : State) (hm : m &&& 13835058038102294511 = m) :
    RgK m s0 (auditDigest sess idx sub kind keyed len digest s) ↔ RgK m s0 s := rgK_of 13835058038102294511 (by unfold auditDigest; (repeat' split) <;> simp) hm

@[simp] theorem audit_rgK {m : Nat} {s0 : State} (sess : Nat) (idx : Nat) (sub : Nat) (kind : Nat) (keyed : Bool) (value : Bytes) (s : State) (hm : m &&& 13835058038102294511 = m) :
    RgK m s0 (audit sess idx sub kind keyed value s) ↔ RgK m s0 s := rgK_of 13835058038102294511 (by unfold audit; (repeat' split) <;> simp) hm

@[simp] theorem countReject_rgK {m : Nat} {s0 : State} (origin : W256) (s : State) (hm : m &&& 13835058055282163711 = m) :
    RgK m s0 (countReject origin s) ↔ RgK m s0 s := rgK_of 13835058055282163711 (by unfold countReject; (repeat' split) <;> simp) hm

@[simp] theorem noteHead_rgK {m : Nat} {s0 : State} (q : Req) (h1 : Bytes) (s : State) :
    RgK m s0 (noteHead q h1 s) ↔ RgK m s0 s := rgK_of m (by exact rgK_of_regs (Keeps.regs ((noteHead_keeps (m := 917503) (s0 := s) q h1 s (by decide)).mpr (Keeps.refl _ _)) (by decide))) (Nat.and_self m)

@[simp] theorem noteCommand_rgK {m : Nat} {s0 : State} (q : Req) (command : Nat) (idx : Nat) (sub : Nat) (s : State) :
    RgK m s0 (noteCommand q command idx sub s) ↔ RgK m s0 s := rgK_of m (by exact rgK_of_regs (Keeps.regs ((noteCommand_keeps (m := 917503) (s0 := s) q command idx sub s (by decide)).mpr (Keeps.refl _ _)) (by decide))) (Nat.and_self m)

@[simp] theorem queueOut_rgK {m : Nat} {s0 : State} (o : Output) (s : State) :
    RgK m s0 (queueOut o s) ↔ RgK m s0 s := rgK_of m (by exact rgK_of_regs (Keeps.regs ((queueOut_keeps (m := 983039) (s0 := s) o s (by decide)).mpr (Keeps.refl _ _)) (by decide))) (Nat.and_self m)

@[simp] theorem sendRing_rgK {m : Nat} {s0 : State} (o : Output) (s : State) :
    RgK m s0 (sendRing o s) ↔ RgK m s0 s := rgK_of m (by exact rgK_of_regs (Keeps.regs ((sendRing_keeps (m := 983037) (s0 := s) o s (by decide)).mpr (Keeps.refl _ _)) (by decide))) (Nat.and_self m)

@[simp] theorem completed_rgK {m : Nat} {s0 : State} (q : Req) (code : W32) (data : Bytes) (s : State) :
    RgK m s0 (completed q code data s) ↔ RgK m s0 s := rgK_of m (by exact rgK_of_regs (Keeps.regs ((completed_keeps (m := 917503) (s0 := s) q code data s (by decide)).mpr (Keeps.refl _ _)) (by decide))) (Nat.and_self m)

@[simp] theorem respond_rgK {m : Nat} {s0 : State} (q : Req) (code : Nat) (data : Bytes) (s : State) :
    RgK m s0 (respond q code data s) ↔ RgK m s0 s := rgK_of m (by exact rgK_of_regs (Keeps.regs ((respond_keeps (m := 851965) (s0 := s) q code data s (by decide)).mpr (Keeps.refl _ _)) (by decide))) (Nat.and_self m)

@[simp] theorem rejectReq_rgK {m : Nat} {s0 : State} (q : Req) (code : Nat) (s : State) (hm : m &&& 13835058055282163711 = m) :
    RgK m s0 (rejectReq q code s) ↔ RgK m s0 s := rgK_of 13835058055282163711 (by unfold rejectReq; (repeat' split) <;> simp) hm

@[simp] theorem auditWrite_rgK {m : Nat} {s0 : State} (q : Req) (idx : Nat) (sub : Nat) (value : Bytes) (s : State) (hm : m &&& 13835058038102294511 = m) :
    RgK m s0 (auditWrite q idx sub value s) ↔ RgK m s0 s := rgK_of 13835058038102294511 (by unfold auditWrite; (repeat' split) <;> simp) hm

@[simp] theorem forgetRange_rgK {m : Nat} {s0 : State} (a : Nat) (n : Nat) (s : State) :
    RgK m s0 (forgetRange a n s) ↔ RgK m s0 s := rgK_of m (by exact rgK_of_regs (Keeps.regs ((forgetRange_keeps (m := 1048063) (s0 := s) a n s (by decide)).mpr (Keeps.refl _ _)) (by decide))) (Nat.and_self m)

@[simp] theorem addPend_rgK {m : Nat} {s0 : State} (k : PendKind) (q : Req) (s : State) :
    RgK m s0 (addPend k q s) ↔ RgK m s0 s := rgK_of m (by exact rgK_of_regs (Keeps.regs ((addPend_keeps (m := 917503) (s0 := s) k q s (by decide)).mpr (Keeps.refl _ _)) (by decide))) (Nat.and_self m)

@[simp] theorem dropPend_rgK {m : Nat} {s0 : State} (k : PendKind) (s : State) :
    RgK m s0 (dropPend k s) ↔ RgK m s0 s := rgK_of m (by exact rgK_of_regs (Keeps.regs ((dropPend_keeps (m := 917503) (s0 := s) k s (by decide)).mpr (Keeps.refl _ _)) (by decide))) (Nat.and_self m)

@[simp] theorem finishPend_rgK {m : Nat} {s0 : State} (k : PendKind) (value : Bytes) (s : State) (hm : m &&& 13835058038102294511 = m) :
    RgK m s0 (finishPend k value s) ↔ RgK m s0 s := rgK_of 13835058038102294511 (by unfold finishPend; (repeat' split) <;> simp) hm

@[simp] theorem failPend_rgK {m : Nat} {s0 : State} (k : PendKind) (code : Nat) (s : State) (hm : m &&& 13835058055282163711 = m) :
    RgK m s0 (failPend k code s) ↔ RgK m s0 s := rgK_of 13835058055282163711 (by unfold failPend; (repeat' split) <;> simp) hm

@[simp] theorem endBlocks_rgK {m : Nat} {s0 : State} (s : State) (hm : m &&& 13835058055282163711 = m) :
    RgK m s0 (endBlocks s) ↔ RgK m s0 s := rgK_of 13835058055282163711 (by unfold endBlocks; (repeat' split) <;> simp) hm

@[simp] theorem dropHostCopy_rgK {m : Nat} {s0 : State} (s : State) :
    RgK m s0 (dropHostCopy s) ↔ RgK m s0 s := rgK_of m (by exact rgK_of_regs (Keeps.regs ((dropHostCopy_keeps (m := 1048063) (s0 := s) s (by decide)).mpr (Keeps.refl _ _)) (by decide))) (Nat.and_self m)

@[simp] theorem endPending_rgK {m : Nat} {s0 : State} (s : State) (hm : m &&& 13834917317793808383 = m) :
    RgK m s0 (endPending s) ↔ RgK m s0 s := rgK_of 13834917317793808383 (by unfold endPending; (repeat' split) <;> simp) hm

@[simp] theorem closeTestPort_rgK {m : Nat} {s0 : State} (s : State) (hm : m &&& 18302628885633695743 = m) :
    RgK m s0 (closeTestPort s) ↔ RgK m s0 s := rgK_of 18302628885633695743 (by unfold closeTestPort; dsimp only; (repeat' split) <;> simp [*]) hm

@[simp] theorem faultEvent_rgK {m : Nat} {s0 : State} (cause : Nat) (kind : Nat) (loc : Bytes) (s : State) (hm : m &&& 18446744056529682415 = m) :
    RgK m s0 (faultEvent cause kind loc s) ↔ RgK m s0 s := rgK_of 18446744056529682415 (by unfold faultEvent; (repeat' split) <;> simp) hm

@[simp] theorem toFaulted_rgK {m : Nat} {s0 : State} (cause kind : Nat) (loc : Bytes) (s : State) (hm : m &&& 13690802112538083279 = m) :
    RgK m s0 (toFaulted cause kind loc s) ↔ RgK m s0 s := by
  refine rgK_of 13690802112538083279 ?_ hm
  unfold toFaulted
  split
  · exact (faultEvent_rgK _ _ _ _ (by decide)).mpr (RgK.refl _ _)
  · extract_lets s1 s2 e s3 s4
    have h1 : RgK 13690802112538083279 s s1 := by simp only [s1]; split <;> simp
    have h2 : RgK 13690802112538083279 s1 s2 := by simp [s2]
    have h3 : RgK 13690802112538083279 s2 s3 := by simp [s3]
    have h4 : RgK 13690802112538083279 s3 s4 := by simp [s4]
    exact h1.trans (h2.trans (h3.trans (h4.trans ((faultEvent_rgK _ _ _ _ (by decide)).mpr (RgK.refl _ _)))))

@[simp] theorem clearPoison_rgK {m : Nat} {s0 : State} (a : Nat) (n : Nat) (s : State) :
    RgK m s0 (clearPoison a n s) ↔ RgK m s0 s := rgK_of m (by exact rgK_of_regs (Keeps.regs ((clearPoison_keeps (m := 1048063) (s0 := s) a n s (by decide)).mpr (Keeps.refl _ _)) (by decide))) (Nat.and_self m)

@[simp] theorem poisonSector_rgK {m : Nat} {s0 : State} (a : Nat) (s : State) (hm : m &&& 18446744056528633839 = m) :
    RgK m s0 (poisonSector a s) ↔ RgK m s0 s := rgK_of 18446744056528633839 (by unfold poisonSector; (repeat' split) <;> simp) hm

@[simp] theorem stepDataError_rgK {m : Nat} {s0 : State} (cause : W32) (late : State → State) (s : State)
    (hm : m &&& 18446744073709551615 = m) (h : ∀ u, RgK m u (late u)) : RgK m s0 (stepDataError cause late s) ↔ RgK m s0 s := by
  refine rgK_of m ?_ (Nat.and_self m)
  unfold stepDataError
  dsimp only
  split
  · simp
  · split
    · simp [hm]
    · exact (show RgK m s _ from by simp [hm]).trans (h _)

@[simp] theorem poisonRead_rgK {m : Nat} {s0 : State} (a : Nat) (s : State) (hm : m &&& 18446744056529682415 = m) :
    RgK m s0 (poisonRead a s) ↔ RgK m s0 s := rgK_of 18446744056529682415 (by unfold poisonRead; (repeat' split) <;> simp) hm

@[simp] theorem regSpend_rgK {m : Nat} {s0 : State} (q : Nat) (p : Nat) (n : Nat) (s : State) :
    RgK m s0 (regSpend q p n s) ↔ RgK m s0 s := rgK_of m (by exact rgK_of_regs (Keeps.regs ((regSpend_keeps (m := 1048063) (s0 := s) q p n s (by decide)).mpr (Keeps.refl _ _)) (by decide))) (Nat.and_self m)

@[simp] theorem regFill_rgK {m : Nat} {s0 : State} (q : Nat) (p : Nat) (s : State) :
    RgK m s0 (regFill q p s) ↔ RgK m s0 s := rgK_of m (by exact rgK_of_regs (Keeps.regs ((regFill_keeps (m := 1048063) (s0 := s) q p s (by decide)).mpr (Keeps.refl _ _)) (by decide))) (Nat.and_self m)

@[simp] theorem regCharge_rgK {m : Nat} {s0 : State} (q : Nat) (p : Nat) (n : Nat) (s : State) (hm : m &&& 18446744073707454463 = m) :
    RgK m s0 (regCharge q p n s) ↔ RgK m s0 s := rgK_of 18446744073707454463 (by unfold regCharge; (repeat' split) <;> simp) hm

@[simp] theorem retireEntry_rgK {m : Nat} {s0 : State} (e : WcEntry) (s : State) (hm : m &&& 18446744073707454463 = m) :
    RgK m s0 (retireEntry e s) ↔ RgK m s0 s := rgK_of 18446744073707454463 (by unfold retireEntry; (repeat' split) <;> simp) hm

@[simp] theorem markRetiring_rgK {m : Nat} {s0 : State} (line : Nat) (s : State) :
    RgK m s0 (markRetiring line s) ↔ RgK m s0 s := rgK_of m (by exact rgK_of_regs (Keeps.regs ((markRetiring_keeps (m := 1048063) (s0 := s) line s (by decide)).mpr (Keeps.refl _ _)) (by decide))) (Nat.and_self m)

@[simp] theorem retireOrMark_rgK {m : Nat} {s0 : State} (e : WcEntry) (s : State) (hm : m &&& 18446744073707454463 = m) :
    RgK m s0 (retireOrMark e s) ↔ RgK m s0 s := rgK_of 18446744073707454463 (by unfold retireOrMark; (repeat' split) <;> simp) hm

@[simp] theorem retireWaiting_rgK {m : Nat} {s0 : State} (s : State) (hm : m &&& 18446744073707454463 = m) :
    RgK m s0 (retireWaiting s) ↔ RgK m s0 s := rgK_of 18446744073707454463 (by unfold retireWaiting; (repeat' split) <;> simp) hm

@[simp] theorem retireAll_rgK {m : Nat} {s0 : State} (s : State) (hm : m &&& 18446744073707454463 = m) :
    RgK m s0 (retireAll s) ↔ RgK m s0 s := rgK_of 18446744073707454463 (by unfold retireAll; (repeat' split) <;> simp) hm

@[simp] theorem writeBack_rgK {m : Nat} {s0 : State} (line : Nat) (s : State) (hm : m &&& 18446744073707454463 = m) :
    RgK m s0 (writeBack line s) ↔ RgK m s0 s := rgK_of 18446744073707454463 (by unfold writeBack; (repeat' split) <;> simp) hm

@[simp] theorem writeBackAll_rgK {m : Nat} {s0 : State} (s : State) (hm : m &&& 18446744073707454463 = m) :
    RgK m s0 (writeBackAll s) ↔ RgK m s0 s := rgK_of 18446744073707454463 (by unfold writeBackAll; (repeat' split) <;> simp) hm

@[simp] theorem mscEvict_rgK {m : Nat} {s0 : State} (line : Nat) (s : State) (hm : m &&& 18446744073707454463 = m) :
    RgK m s0 (mscEvict line s) ↔ RgK m s0 s := rgK_of 18446744073707454463 (by unfold mscEvict; (repeat' split) <;> simp) hm

@[simp] theorem mscRoom_rgK {m : Nat} {s0 : State} (line : Nat) (s : State) (hm : m &&& 18446744073707454463 = m) :
    RgK m s0 (mscRoom line s) ↔ RgK m s0 s := rgK_of 18446744073707454463 (by unfold mscRoom; (repeat' split) <;> simp) hm

@[simp] theorem mscInstall_rgK {m : Nat} {s0 : State} (line : Nat) (l : CacheLine) (s : State) (hm : m &&& 18446744073707454463 = m) :
    RgK m s0 (mscInstall line l s) ↔ RgK m s0 s := rgK_of 18446744073707454463 (by unfold mscInstall; (repeat' split) <;> simp) hm

@[simp] theorem makeRoom_rgK {m : Nat} {s0 : State} (c : Nat) (s : State) (hm : m &&& 18446744056527585279 = m) :
    RgK m s0 (makeRoom c s) ↔ RgK m s0 s := rgK_of 18446744056527585279 (by unfold makeRoom; dsimp only; (repeat' split) <;> simp [*]) hm

@[simp] theorem combine_rgK {m : Nat} {s0 : State} (m0 : MemReq) (data : Bytes) (s : State) (hm : m &&& 18446744056527585279 = m) :
    RgK m s0 (combine m0 data s) ↔ RgK m s0 s := rgK_of 18446744056527585279 (by unfold combine; (repeat' split) <;> simp) hm

@[simp] theorem coherentWrite_rgK {m : Nat} {s0 : State} (m0 : MemReq) (data : Bytes) (s : State) (hm : m &&& 18446744056527585279 = m) :
    RgK m s0 (coherentWrite m0 data s) ↔ RgK m s0 s := rgK_of 18446744056527585279 (by unfold coherentWrite; dsimp only; (repeat' split) <;> simp [*]) hm

@[simp] theorem withShLines_rgK {m : Nat} {s0 : State} (d : Nat) (line : Nat) (l : List Nat) (s : State) :
    RgK m s0 (withShLines d line l s) ↔ RgK m s0 s := rgK_of m (by exact rgK_of_regs (Keeps.regs ((withShLines_keeps (m := 1048063) (s0 := s) d line l s (by decide)).mpr (Keeps.refl _ _)) (by decide))) (Nat.and_self m)

@[simp] theorem shDrop_rgK {m : Nat} {s0 : State} (d : Nat) (line : Nat) (s : State) :
    RgK m s0 (shDrop d line s) ↔ RgK m s0 s := rgK_of m (by exact rgK_of_regs (Keeps.regs ((shDrop_keeps (m := 1048063) (s0 := s) d line s (by decide)).mpr (Keeps.refl _ _)) (by decide))) (Nat.and_self m)

@[simp] theorem shRoom_rgK {m : Nat} {s0 : State} (d : Nat) (line : Nat) (s : State) :
    RgK m s0 (shRoom d line s) ↔ RgK m s0 s := rgK_of m (by exact rgK_of_regs (Keeps.regs ((shRoom_keeps (m := 1048059) (s0 := s) d line s (by decide)).mpr (Keeps.refl _ _)) (by decide))) (Nat.and_self m)

@[simp] theorem installLine_rgK {m : Nat} {s0 : State} (line : Nat) (d : Nat) (s : State) :
    RgK m s0 (installLine line d s) ↔ RgK m s0 s := rgK_of m (by exact rgK_of_regs (Keeps.regs ((installLine_keeps (m := 1048059) (s0 := s) line d s (by decide)).mpr (Keeps.refl _ _)) (by decide))) (Nat.and_self m)

@[simp] theorem invalidate_rgK {m : Nat} {s0 : State} (line : Nat) (dies : List Nat) (s : State) :
    RgK m s0 (invalidate line dies s) ↔ RgK m s0 s := rgK_of m (by exact rgK_of_regs (Keeps.regs ((invalidate_keeps (m := 1048061) (s0 := s) line dies s (by decide)).mpr (Keeps.refl _ _)) (by decide))) (Nat.and_self m)

@[simp] theorem readLine_rgK {m : Nat} {s0 : State} (u : Agent) (line : Nat) (s : State) (hm : m &&& 18446744073707454463 = m) :
    RgK m s0 (readLine u line s) ↔ RgK m s0 s := rgK_of 18446744073707454463 (by unfold readLine; (repeat' split) <;> simp) hm

@[simp] theorem readVia_rgK {m : Nat} {s0 : State} (u : Agent) (fill : Option Nat) (line : Nat) (s : State) (hm : m &&& 18446744073707454463 = m) :
    RgK m s0 (readVia u fill line s) ↔ RgK m s0 s := rgK_of 18446744073707454463 (by unfold readVia; (repeat' split) <;> simp) hm

@[simp] theorem readRange_rgK {m : Nat} {s0 : State} (u : Agent) (fill : Option Nat) (a : Nat) (n : Nat) (s : State) (hm : m &&& 18446744073707454463 = m) :
    RgK m s0 (readRange u fill a n s) ↔ RgK m s0 s := rgK_of 18446744073707454463 (by unfold readRange; (repeat' split) <;> simp) hm

@[simp] theorem writeLine_rgK {m : Nat} {s0 : State} (u : Agent) (s : State) (p : Nat × Bytes) (hm : m &&& 18446744056527585279 = m) :
    RgK m s0 (writeLine u s p) ↔ RgK m s0 s := rgK_of 18446744056527585279 (by unfold writeLine; (repeat' split) <;> simp) hm

@[simp] theorem storeBytes_rgK {m : Nat} {s0 : State} (u : Agent) (a : Nat) (data : Bytes) (s : State) (hm : m &&& 18446744056527585279 = m) :
    RgK m s0 (storeBytes u a data s) ↔ RgK m s0 s := rgK_of 18446744056527585279 (by unfold storeBytes; (repeat' split) <;> simp) hm

@[simp] theorem withStack_rgK {m : Nat} {s0 : State} (k : Nat) (x : Stack) (s : State) :
    RgK m s0 (withStack k x s) ↔ RgK m s0 s := rgK_of m (by exact rgK_of_regs (Keeps.regs ((withStack_keeps (m := 1048063) (s0 := s) k x s (by decide)).mpr (Keeps.refl _ _)) (by decide))) (Nat.and_self m)

@[simp] theorem failStack_rgK {m : Nat} {s0 : State} (k : Nat) (s : State) (hm : m &&& 13690802112538083279 = m) :
    RgK m s0 (failStack k s) ↔ RgK m s0 s := rgK_of 13690802112538083279 (by unfold failStack; (repeat' split) <;> simp) hm

@[simp] theorem discardPacket_rgK {m : Nat} {s0 : State} (die : Nat) (ep : Nat) (s : State) (hm : m &&& 18446744056529682415 = m) :
    RgK m s0 (discardPacket die ep s) ↔ RgK m s0 s := rgK_of 18446744056529682415 (by unfold discardPacket; (repeat' split) <;> simp) hm

@[simp] theorem receivePackets_rgK {m : Nat} {s0 : State} (die : Nat) (ps : List Packet) (s : State) (hm : m &&& 18446744056529682415 = m) :
    RgK m s0 (receivePackets die ps s) ↔ RgK m s0 s := rgK_of 18446744056529682415 (by unfold receivePackets; (repeat' split) <;> simp) hm

@[simp] theorem takeInbox_rgK {m : Nat} {s0 : State} (q : Req) (s : State) :
    RgK m s0 (takeInbox q s) ↔ RgK m s0 s := rgK_of m (by exact rgK_of_regs (Keeps.regs ((takeInbox_keeps (m := 851967) (s0 := s) q s (by decide)).mpr (Keeps.refl _ _)) (by decide))) (Nat.and_self m)

@[simp] theorem onArrival_rgK {m : Nat} {s0 : State} (q : Req) (f : State → State) (s : State)
    (hm : m &&& 18446744073709551611 = m) (h : ∀ u, RgK m u (f u)) : RgK m s0 (onArrival q f s) ↔ RgK m s0 s := by
  have hm1 : m &&& 18446744073709551611 = m := and_sub hm (by decide)
  refine rgK_of m ?_ (Nat.and_self m)
  have h1 : RgK m s (takeInbox q (fresh s)) := by simp
  unfold onArrival
  dsimp only
  split
  · exact h1
  · simp [hm1]
  · simp [hm1]
  · exact h1
  · exact h1.trans (h _)

@[simp] theorem beginReq_rgK {m : Nat} {s0 : State} (q : Req) (s : State) :
    RgK m s0 (beginReq q s) ↔ RgK m s0 s := rgK_of m (by exact rgK_of_regs (Keeps.regs ((beginReq_keeps (m := 917503) (s0 := s) q s (by decide)).mpr (Keeps.refl _ _)) (by decide))) (Nat.and_self m)

@[simp] theorem forwardAccess_rgK {m : Nat} {s0 : State} (write : Bool) (idx : Nat) (sub : Nat) (s : State) :
    RgK m s0 (forwardAccess write idx sub s) ↔ RgK m s0 s := rgK_of m (by exact rgK_of_regs (Keeps.regs ((forwardAccess_keeps (m := 1048573) (s0 := s) write idx sub s (by decide)).mpr (Keeps.refl _ _)) (by decide))) (Nat.and_self m)

theorem acceptWrite_rgK {m : Nat} (q : Req) (idx sub : Nat) (value : Bytes) (r : Rule) (s : State)
    (hm : m &&& 13835058038102294511 = m) (h : ∀ u, RgK m u (r.apply u)) (k : ∀ u, RgK m u (r.after u)) :
    RgK m s (acceptWrite q idx sub value r s) := by
  have h0 : RgK m s (forwardAccess true idx sub s) := (forwardAccess_rgK true idx sub s).mpr (RgK.refl m s)
  have h1 : ∀ i j v u, RgK m u (auditWrite q i j v u) := fun i j v u => (auditWrite_rgK q i j v u (and_sub hm (by decide))).mpr (RgK.refl m u)
  have h2 : ∀ u, RgK m u (respond q 0 [] u) := fun u => (respond_rgK q 0 [] u).mpr (RgK.refl m u)
  have h3 : ∀ u, RgK m u (beginReq q u) := fun u => (beginReq_rgK q u).mpr (RgK.refl m u)
  refine h0.trans ?_
  unfold acceptWrite
  extract_lets s1 s2 s3
  split
  · exact (h3 s1).trans (h _)
  · refine RgK.trans ?_ (k _)
    refine RgK.trans ?_ (h2 _)
    refine (h s1).trans ?_
    show RgK m s2 s3
    simp only [s3]
    split
    · exact h1 _ _ _ _
    · exact h1 _ _ _ _

@[simp] theorem writeReq_rgK {m : Nat} {s0 : State} (q : Req) (proto idx sub : Nat) (value : Bytes)
    (rule : State → Rule) (s : State) (hm : m &&& 13835058038102294507 = m) (h : ∀ v u, RgK m u ((rule v).apply u))
    (k : ∀ v u, RgK m u ((rule v).after u)) (j : ∀ v u, RgK m u ((rule v).onReject u)) :
    RgK m s0 (writeReq q proto idx sub value rule s) ↔ RgK m s0 s := by
  have h0 : ∀ c u, RgK m u (noteCommand q c idx sub u) := fun c u => (noteCommand_rgK q c idx sub u).mpr (RgK.refl m u)
  have h1 : ∀ c u, RgK m u (rejectReq q c u) := fun c u => (rejectReq_rgK q c u (and_sub hm (by decide))).mpr (RgK.refl m u)
  refine onArrival_rgK q _ s (and_sub hm (by decide)) ?_
  intro u
  extract_lets v r code
  have h2 : RgK m u v := h0 _ u
  refine h2.trans ?_
  split
  · exact acceptWrite_rgK q idx sub value r v (and_sub hm (by decide)) (h v) (k v)
  · exact (j v v).trans (h1 _ _)

@[simp] theorem withOwnVal_rgK {m : Nat} {s0 : State} (sess : Nat) (idx : Nat) (sub : Nat) (v : Nat) (s : State) :
    RgK m s0 (withOwnVal sess idx sub v s) ↔ RgK m s0 s := rgK_of m (by exact rgK_of_regs (Keeps.regs ((withOwnVal_keeps (m := 917503) (s0 := s) sess idx sub v s (by decide)).mpr (Keeps.refl _ _)) (by decide))) (Nat.and_self m)

@[simp] theorem cacheBad_rgK {m : Nat} {s0 : State} (die : Nat) (ep : Nat) (a : Nat) (s : State) (hm : m &&& 18446744056528633839 = m) :
    RgK m s0 (cacheBad die ep a s) ↔ RgK m s0 s := rgK_of 18446744056528633839 (by unfold cacheBad; (repeat' split) <;> simp) hm

@[simp] theorem applyShared_rgK {m : Nat} {s0 : State} (a : Nat) (d : Nat) (e : MemEcc) (s : State) (hm : m &&& 18446744056528633839 = m) :
    RgK m s0 (applyShared a d e s) ↔ RgK m s0 s := rgK_of 18446744056528633839 (by unfold applyShared; (repeat' split) <;> simp) hm

@[simp] theorem applySnoop_rgK {m : Nat} {s0 : State} (a : Nat) (e : MemEcc) (s : State) :
    RgK m s0 (applySnoop a e s) ↔ RgK m s0 s := rgK_of m (by exact rgK_of_regs (Keeps.regs ((applySnoop_keeps (m := 1048061) (s0 := s) a e s (by decide)).mpr (Keeps.refl _ _)) (by decide))) (Nat.and_self m)

@[simp] theorem applyEcc_rgK {m : Nat} {s0 : State} (a : Nat) (hbm : Bool) (e : MemEcc) (s : State) (hm : m &&& 13690802112537034703 = m) :
    RgK m s0 (applyEcc a hbm e s) ↔ RgK m s0 s := rgK_of 13690802112537034703 (by unfold applyEcc; (repeat' split) <;> simp) hm

@[simp] theorem expectAnswer_rgK {m : Nat} {s0 : State} (m0 : MemReq) (write : Bool) (s : State) :
    RgK m s0 (expectAnswer m0 write s) ↔ RgK m s0 s := rgK_of m (by exact rgK_of_regs (Keeps.regs ((expectAnswer_keeps (m := 1048063) (s0 := s) m0 write s (by decide)).mpr (Keeps.refl _ _)) (by decide))) (Nat.and_self m)

@[simp] theorem sendAnswer_rgK {m : Nat} {s0 : State} (m0 : MemReq) (write : Bool) (s : State) :
    RgK m s0 (sendAnswer m0 write s) ↔ RgK m s0 s := rgK_of m (by exact rgK_of_regs (Keeps.regs ((sendAnswer_keeps (m := 1048063) (s0 := s) m0 write s (by decide)).mpr (Keeps.refl _ _)) (by decide))) (Nat.and_self m)

@[simp] theorem serveRead_rgK {m : Nat} {s0 : State} (m0 : MemReq) (ecc : MemEcc) (s : State) (hm : m &&& 13690802112534937551 = m) :
    RgK m s0 (serveRead m0 ecc s) ↔ RgK m s0 s := rgK_of 13690802112534937551 (by unfold serveRead; (repeat' split) <;> simp) hm

@[simp] theorem serveWrite_rgK {m : Nat} {s0 : State} (m0 : MemReq) (data : Bytes) (s : State) (hm : m &&& 18446744056527585279 = m) :
    RgK m s0 (serveWrite m0 data s) ↔ RgK m s0 s := rgK_of 18446744056527585279 (by unfold serveWrite; (repeat' split) <;> simp) hm

@[simp] theorem waitRequest_rgK {m : Nat} {s0 : State} (w : WaitingReq) (s : State) :
    RgK m s0 (waitRequest w s) ↔ RgK m s0 s := rgK_of m (by exact rgK_of_regs (Keeps.regs ((waitRequest_keeps (m := 1048063) (s0 := s) w s (by decide)).mpr (Keeps.refl _ _)) (by decide))) (Nat.and_self m)

@[simp] theorem drainWaits_rgK {m : Nat} {s0 : State} (s : State) (hm : m &&& 13690802112534937551 = m) :
    RgK m s0 (drainWaits s) ↔ RgK m s0 s := rgK_of 13690802112534937551 (by unfold drainWaits; (repeat' split) <;> simp) hm

@[simp] theorem discardRequest_rgK {m : Nat} {s0 : State} (p : Packet) (s : State) (hm : m &&& 18446744056529682415 = m) :
    RgK m s0 (discardRequest p s) ↔ RgK m s0 s := rgK_of 18446744056529682415 (by unfold discardRequest; (repeat' split) <;> simp) hm

@[simp] theorem answered_rgK {m : Nat} {s0 : State} (die : Nat) (ep : Nat) (tag : Nat) (write : Bool) (s : State) :
    RgK m s0 (answered die ep tag write s) ↔ RgK m s0 s := rgK_of m (by exact rgK_of_regs (Keeps.regs ((answered_keeps (m := 1048063) (s0 := s) die ep tag write s (by decide)).mpr (Keeps.refl _ _)) (by decide))) (Nat.and_self m)

@[simp] theorem ackWrite_rgK {m : Nat} {s0 : State} (s : State) (w : WaitingWrite) :
    RgK m s0 (ackWrite s w) ↔ RgK m s0 s := rgK_of m (by exact rgK_of_regs (Keeps.regs ((ackWrite_keeps (m := 1048061) (s0 := s) s w (by decide)).mpr (Keeps.refl _ _)) (by decide))) (Nat.and_self m)

@[simp] theorem retireDue_rgK {m : Nat} {s0 : State} (s : State) (hm : m &&& 18446744073707454463 = m) :
    RgK m s0 (retireDue s) ↔ RgK m s0 s := rgK_of 18446744073707454463 (by unfold retireDue; (repeat' split) <;> simp) hm

@[simp] theorem readStack_rgK {m : Nat} {s0 : State} (k : Nat) (temp : Nat) (s : State) (hm : m &&& 18446744056529682415 = m) :
    RgK m s0 (readStack k temp s) ↔ RgK m s0 s := rgK_of 18446744056529682415 (by unfold readStack; (repeat' split) <;> simp) hm

@[simp] theorem scrubOne_rgK {m : Nat} {s0 : State} (s : State) (f : ScrubFinding) (hm : m &&& 18446744056528633839 = m) :
    RgK m s0 (scrubOne s f) ↔ RgK m s0 s := rgK_of 18446744056528633839 (by unfold scrubOne; (repeat' split) <;> simp) hm

@[simp] theorem chargeScrub_rgK {m : Nat} {s0 : State} (s : State) (hm : m &&& 18446744073707454463 = m) :
    RgK m s0 (chargeScrub s) ↔ RgK m s0 s := rgK_of 18446744073707454463 (by unfold chargeScrub; (repeat' split) <;> simp) hm

@[simp] theorem repairGroup_rgK {m : Nat} {s0 : State} (f : LaneFailure) (s : State) (hm : m &&& 13835058038102294511 = m) :
    RgK m s0 (repairGroup f s) ↔ RgK m s0 s := rgK_of 13835058038102294511 (by unfold repairGroup; (repeat' split) <;> simp) hm

@[simp] theorem trainStacks_rgK {m : Nat} {s0 : State} (failures : List LaneFailure) (s : State) (hm : m &&& 13835058038102294511 = m) :
    RgK m s0 (trainStacks failures s) ↔ RgK m s0 s := rgK_of 13835058038102294511 (by unfold trainStacks; (repeat' split) <;> simp) hm

@[simp] theorem trainingDone_rgK {m : Nat} {s0 : State} (s : State) (hm : m &&& 13690802112537952207 = m) :
    RgK m s0 (trainingDone s) ↔ RgK m s0 s := rgK_of 13690802112537952207 (by unfold trainingDone; (repeat' split) <;> simp) hm

@[simp] theorem chargeGen_rgK {m : Nat} {s0 : State} (r : GenRun) (s : State) (hm : m &&& 18446744073707454463 = m) :
    RgK m s0 (chargeGen r s) ↔ RgK m s0 s := rgK_of 18446744073707454463 (by unfold chargeGen; (repeat' split) <;> simp) hm

@[simp] theorem noteTested_rgK {m : Nat} {s0 : State} (g : GenReq) (s : State) :
    RgK m s0 (noteTested g s) ↔ RgK m s0 s := rgK_of m (by exact rgK_of_regs (Keeps.regs ((noteTested_keeps (m := 1048063) (s0 := s) g s (by decide)).mpr (Keeps.refl _ _)) (by decide))) (Nat.and_self m)

@[simp] theorem forgetTested_rgK {m : Nat} {s0 : State} (g : GenReq) (s : State) :
    RgK m s0 (forgetTested g s) ↔ RgK m s0 s := rgK_of m (by exact rgK_of_regs (Keeps.regs ((forgetTested_keeps (m := 1048063) (s0 := s) g s (by decide)).mpr (Keeps.refl _ _)) (by decide))) (Nat.and_self m)

@[simp] theorem stopGenerator_rgK {m : Nat} {s0 : State} (s : State) (hm : m &&& 18446744073709027327 = m) :
    RgK m s0 (stopGenerator s) ↔ RgK m s0 s := rgK_of 18446744073709027327 (by unfold stopGenerator; (repeat' split) <;> simp) hm

@[simp] theorem genRule_apply_rgK {m : Nat} {s0 : State} (op : Nat) (g : GenReq) (s : State) (u0 : State) (hm : m &&& 18446744073709027327 = m) :
    RgK m s0 ((genRule op g s).apply u0) ↔ RgK m s0 u0 := rgK_of 18446744073709027327 (by unfold genRule; (repeat' split) <;> simp) hm

@[simp] theorem genRule_after_rgK {m : Nat} {s0 : State} (op : Nat) (g : GenReq) (s : State) (u0 : State) (hm : m &&& 18446744073709027327 = m) :
    RgK m s0 ((genRule op g s).after u0) ↔ RgK m s0 u0 := rgK_of 18446744073709027327 (by unfold genRule; (repeat' split) <;> simp) hm

@[simp] theorem genRule_onReject_rgK {m : Nat} {s0 : State} (op : Nat) (g : GenReq) (s : State) (u0 : State) (hm : m &&& 18446744073709027327 = m) :
    RgK m s0 ((genRule op g s).onReject u0) ↔ RgK m s0 u0 := rgK_of 18446744073709027327 (by unfold genRule; (repeat' split) <;> simp) hm

@[simp] theorem genRequest_rgK {m : Nat} {s0 : State} (op : Nat) (q : Req) (g : GenReq) (s : State) (hm : m &&& 13835058038101770219 = m) :
    RgK m s0 (genRequest op q g s) ↔ RgK m s0 s := rgK_of 13835058038101770219 (by unfold genRequest; (repeat' split) <;> simp) hm

@[simp] theorem partitionRule_apply_rgK {m : Nat} {s0 : State} (sub : Nat) (v : Nat) (s : State) (u0 : State) (hm : m &&& 18446744073709289471 = m) :
    RgK m s0 ((partitionRule sub v s).apply u0) ↔ RgK m s0 u0 := rgK_of 18446744073709289471 (by unfold partitionRule; (repeat' split) <;> simp) hm

@[simp] theorem partitionRule_after_rgK {m : Nat} {s0 : State} (sub : Nat) (v : Nat) (s : State) (u0 : State) (hm : m &&& 18446744073709289471 = m) :
    RgK m s0 ((partitionRule sub v s).after u0) ↔ RgK m s0 u0 := rgK_of 18446744073709289471 (by unfold partitionRule; (repeat' split) <;> simp) hm

@[simp] theorem partitionRule_onReject_rgK {m : Nat} {s0 : State} (sub : Nat) (v : Nat) (s : State) (u0 : State) (hm : m &&& 18446744073709289471 = m) :
    RgK m s0 ((partitionRule sub v s).onReject u0) ↔ RgK m s0 u0 := rgK_of 18446744073709289471 (by unfold partitionRule; (repeat' split) <;> simp) hm

@[simp] theorem emptyCaches_rgK {m : Nat} {s0 : State} (s : State) (hm : m &&& 18446744073707454463 = m) :
    RgK m s0 (emptyCaches s) ↔ RgK m s0 s := rgK_of 18446744073707454463 (by unfold emptyCaches; (repeat' split) <;> simp) hm

@[simp] theorem boundaryRule_apply_rgK {m : Nat} {s0 : State} (v : Nat) (a1 : State) (u0 : State) (hm : m &&& 18446744073707323391 = m) :
    RgK m s0 ((boundaryRule v a1).apply u0) ↔ RgK m s0 u0 := rgK_of 18446744073707323391 (by unfold boundaryRule; (repeat' split) <;> simp) hm

@[simp] theorem boundaryRule_after_rgK {m : Nat} {s0 : State} (v : Nat) (a1 : State) (u0 : State) (hm : m &&& 18446744073707323391 = m) :
    RgK m s0 ((boundaryRule v a1).after u0) ↔ RgK m s0 u0 := rgK_of 18446744073707323391 (by unfold boundaryRule; (repeat' split) <;> simp) hm

@[simp] theorem boundaryRule_onReject_rgK {m : Nat} {s0 : State} (v : Nat) (a1 : State) (u0 : State) (hm : m &&& 18446744073707323391 = m) :
    RgK m s0 ((boundaryRule v a1).onReject u0) ↔ RgK m s0 u0 := rgK_of 18446744073707323391 (by unfold boundaryRule; (repeat' split) <;> simp) hm

@[simp] theorem storeAt_rgK {m : Nat} {s0 : State} (u : Agent) (key : Nat) (mem : Bool) (a : Nat) (data : Bytes) (s : State) (hm : m &&& 18446744056527585279 = m) :
    RgK m s0 (storeAt u key mem a data s) ↔ RgK m s0 s := rgK_of 18446744056527585279 (by unfold storeAt; (repeat' split) <;> simp) hm

@[simp] theorem storeAll_rgK {m : Nat} {s0 : State} (u : Agent) (key : Nat) (mem : Bool) (ws : List (Nat × Bytes)) (s : State) (hm : m &&& 18446744056527585279 = m) :
    RgK m s0 (storeAll u key mem ws s) ↔ RgK m s0 s := rgK_of 18446744056527585279 (by unfold storeAll; (repeat' split) <;> simp) hm

@[simp] theorem writeRef_rgK {m : Nat} {s0 : State} (sc : Score) (u : Agent) (key : Nat) (r : Nat) (data : Bytes) (s : State) (hm : m &&& 18446744056527585279 = m) :
    RgK m s0 (writeRef sc u key r data s) ↔ RgK m s0 s := rgK_of 18446744056527585279 (by unfold writeRef; (repeat' split) <;> simp) hm

@[simp] theorem readPieces_rgK {m : Nat} {s0 : State} (u : Agent) (fill : Option Nat) (ps : List Piece) (s : State) (hm : m &&& 18446744073707454463 = m) :
    RgK m s0 (readPieces u fill ps s) ↔ RgK m s0 s := rgK_of 18446744073707454463 (by unfold readPieces; (repeat' split) <;> simp) hm

@[simp] theorem storeError_rgK {m : Nat} {s0 : State} (half : Nat) (core : Nat) (key : Nat) (s : State) (e : StoreErr) (hm : m &&& 18446744056529674223 = m) :
    RgK m s0 (storeError half core key s e) ↔ RgK m s0 s := rgK_of 18446744056529674223 (by unfold storeError; (repeat' split) <;> simp) hm

@[simp] theorem noteResults_rgK_3020 {m : Nat} {s0 : State} (key ovf inv : Nat) (s : State) (hm : m &&& 18446744073709547519 = m) :
    RgK m s0 (noteResults key 0x3020 ovf inv s) ↔ RgK m s0 s := rgK_of 18446744073709547519 (by unfold noteResults; (repeat' split) <;> simp) hm

@[simp] theorem noteResults_rgK_3022 {m : Nat} {s0 : State} (key ovf inv : Nat) (s : State) (hm : m &&& 18446744073709535231 = m) :
    RgK m s0 (noteResults key 0x3022 ovf inv s) ↔ RgK m s0 s := rgK_of 18446744073709535231 (by unfold noteResults; (repeat' split) <;> simp) hm

@[simp] theorem noteConversions_rgK {m : Nat} {s0 : State} (sats : Nat) (ovfs : Nat) (s : State) (hm : m &&& 18446744073709547519 = m) :
    RgK m s0 (noteConversions sats ovfs s) ↔ RgK m s0 s := rgK_of 18446744073709547519 (by unfold noteConversions; (repeat' split) <;> simp) hm

@[simp] theorem writeResult_rgK {m : Nat} {s0 : State} (sc : Score) (key : Nat) (ref : Nat) (fmt : Nat) (sat : Bool) (f : Nat → Nat → W32) (s : State) (hm : m &&& 18446744056527581183 = m) :
    RgK m s0 (writeResult sc key ref fmt sat f s) ↔ RgK m s0 s := rgK_of 18446744056527581183 (by unfold writeResult; (repeat' split) <;> simp) hm

@[simp] theorem watch_rgK {m : Nat} {s0 : State} (s00 : State) (sc : Score) (key : Nat) (x0 : Site) (ix : Nat) (c : Crumb) (order : List Nat) (s : State) (hm : m &&& 16140901064495857663 = m) :
    RgK m s0 (watch s00 sc key x0 ix c order s) ↔ RgK m s0 s := rgK_of 16140901064495857663 (by unfold watch; (repeat' split) <;> simp) hm

@[simp] theorem mmaEffect_rgK {m : Nat} {s0 : State} (sc : Score) (key : Nat) (ix : Nat) (c : Crumb) (s : State) (hm : m &&& 16140901047313870847 = m) :
    RgK m s0 (mmaEffect sc key ix c s) ↔ RgK m s0 s := rgK_of 16140901047313870847 (by unfold mmaEffect; (repeat' split) <;> simp) hm

@[simp] theorem accoutEffect_rgK {m : Nat} {s0 : State} (sc : Score) (key : Nat) (c : Crumb) (s : State) (hm : m &&& 18446744056527581183 = m) :
    RgK m s0 (accoutEffect sc key c s) ↔ RgK m s0 s := rgK_of 18446744056527581183 (by unfold accoutEffect; (repeat' split) <;> simp) hm

@[simp] theorem accinitEffect_rgK {m : Nat} {s0 : State} (sc : Score) (key : Nat) (c : Crumb) (s : State) :
    RgK m s0 (accinitEffect sc key c s) ↔ RgK m s0 s := rgK_of m (by exact rgK_of_regs (Keeps.regs ((accinitEffect_keeps (m := 1048447) (s0 := s) sc key c s (by decide)).mpr (Keeps.refl _ _)) (by decide))) (Nat.and_self m)

@[simp] theorem topkEffect_rgK {m : Nat} {s0 : State} (sc : Score) (key : Nat) (c : Crumb) (s : State) (hm : m &&& 18446744056527585279 = m) :
    RgK m s0 (topkEffect sc key c s) ↔ RgK m s0 s := rgK_of 18446744056527585279 (by unfold topkEffect; (repeat' split) <;> simp) hm

@[simp] theorem matrixEffect_rgK {m : Nat} {s0 : State} (sc : Score) (key : Nat) (ix : Nat) (c : Crumb) (s : State) (hm : m &&& 16140901047313870847 = m) :
    RgK m s0 (matrixEffect sc key ix c s) ↔ RgK m s0 s := rgK_of 16140901047313870847 (by unfold matrixEffect; (repeat' split) <;> simp) hm

@[simp] theorem noteConvs_rgK {m : Nat} {s0 : State} (cs : List Conv) (s : State) (hm : m &&& 18446744073709547519 = m) :
    RgK m s0 (noteConvs cs s) ↔ RgK m s0 s := rgK_of 18446744073709547519 (by unfold noteConvs; (repeat' split) <;> simp) hm

@[simp] theorem putElems_rgK {m : Nat} {s0 : State} (sc : Score) (key : Nat) (c : Crumb) (tile : Bool) (rs : List (Nat × W32)) (s : State) (hm : m &&& 18446744056527581183 = m) :
    RgK m s0 (putElems sc key c tile rs s) ↔ RgK m s0 s := rgK_of 18446744056527581183 (by unfold putElems; (repeat' split) <;> simp) hm

@[simp] theorem vecGroup_rgK {m : Nat} {s0 : State} (sc : Score) (key : Nat) (c : Crumb) (n : Nat) (s : State) (g : Nat) (hm : m &&& 18446744056527564799 = m) :
    RgK m s0 (vecGroup sc key c n s g) ↔ RgK m s0 s := rgK_of 18446744056527564799 (by unfold vecGroup; (repeat' split) <;> simp) hm

@[simp] theorem vecElementwise_rgK {m : Nat} {s0 : State} (sc : Score) (key : Nat) (c : Crumb) (s : State) (hm : m &&& 18446744056527564799 = m) :
    RgK m s0 (vecElementwise sc key c s) ↔ RgK m s0 s := rgK_of 18446744056527564799 (by unfold vecElementwise; (repeat' split) <;> simp) hm

@[simp] theorem vecReduce_rgK {m : Nat} {s0 : State} (sc : Score) (key : Nat) (c : Crumb) (s : State) (hm : m &&& 18446744056527564799 = m) :
    RgK m s0 (vecReduce sc key c s) ↔ RgK m s0 s := rgK_of 18446744056527564799 (by unfold vecReduce; (repeat' split) <;> simp) hm

@[simp] theorem vecLoadScalars_rgK {m : Nat} {s0 : State} (sc : Score) (key : Nat) (c : Crumb) (s : State) :
    RgK m s0 (vecLoadScalars sc key c s) ↔ RgK m s0 s := rgK_of m (by exact rgK_of_regs (Keeps.regs ((vecLoadScalars_keeps (m := 1048447) (s0 := s) sc key c s (by decide)).mpr (Keeps.refl _ _)) (by decide))) (Nat.and_self m)

@[simp] theorem vecFlag_rgK {m : Nat} {s0 : State} (sc : Score) (key : Nat) (c : Crumb) (s : State) (hm : m &&& 18446744056527585279 = m) :
    RgK m s0 (vecFlag sc key c s) ↔ RgK m s0 s := rgK_of 18446744056527585279 (by unfold vecFlag; (repeat' split) <;> simp) hm

@[simp] theorem optStore_rgK {m : Nat} {s0 : State} (sc : Score) (key : Nat) (c : Crumb) (r : OptRec) (f : Nat) (use : Nat) (ws : List (Nat × W32)) (s : State) (hm : m &&& 18446744056527581183 = m) :
    RgK m s0 (optStore sc key c r f use ws s) ↔ RgK m s0 s := rgK_of 18446744056527581183 (by unfold optStore; (repeat' split) <;> simp) hm

@[simp] theorem optGroup_rgK {m : Nat} {s0 : State} (sc : Score) (key : Nat) (c : Crumb) (r : OptRec) (n : Nat) (s : State) (g : Nat) (hm : m &&& 18446744056527564799 = m) :
    RgK m s0 (optGroup sc key c r n s g) ↔ RgK m s0 s := rgK_of 18446744056527564799 (by unfold optGroup; (repeat' split) <;> simp) hm

@[simp] theorem voptEffect_rgK {m : Nat} {s0 : State} (sc : Score) (half : Nat) (core : Nat) (key : Nat) (c : Crumb) (s : State) (hm : m &&& 18446744056527564783 = m) :
    RgK m s0 (voptEffect sc half core key c s) ↔ RgK m s0 s := rgK_of 18446744056527564783 (by unfold voptEffect; (repeat' split) <;> simp) hm

@[simp] theorem vectorEffect_rgK {m : Nat} {s0 : State} (sc : Score) (half : Nat) (core : Nat) (key : Nat) (c : Crumb) (s : State) (hm : m &&& 18446744056527564783 = m) :
    RgK m s0 (vectorEffect sc half core key c s) ↔ RgK m s0 s := rgK_of 18446744056527564783 (by unfold vectorEffect; (repeat' split) <;> simp) hm

@[simp] theorem runCopy_rgK {m : Nat} {s0 : State} (sc : Score) (u : Agent) (key : Nat) (counter : Nat) (src : Desc) (dst : Desc) (s : State) (hm : m &&& 18446744056510808063 = m) :
    RgK m s0 (runCopy sc u key counter src dst s) ↔ RgK m s0 s := rgK_of 18446744056510808063 (by unfold runCopy; (repeat' split) <;> simp) hm

@[simp] theorem ctransEffect_rgK {m : Nat} {s0 : State} (key : Nat) (c : Crumb) (s : State) (hm : m &&& 18446744073692774399 = m) :
    RgK m s0 (ctransEffect key c s) ↔ RgK m s0 s := rgK_of 18446744073692774399 (by unfold ctransEffect; (repeat' split) <;> simp) hm

@[simp] theorem copyEffect_rgK {m : Nat} {s0 : State} (sc : Score) (key : Nat) (c : Crumb) (s : State) (hm : m &&& 18446744056510808063 = m) :
    RgK m s0 (copyEffect sc key c s) ↔ RgK m s0 s := rgK_of 18446744056510808063 (by unfold copyEffect; (repeat' split) <;> simp) hm

@[simp] theorem hostLoad_rgK {m : Nat} {s0 : State} (base : Nat) (d : Desc) (s : State) (hm : m &&& 18446744056527585279 = m) :
    RgK m s0 (hostLoad base d s) ↔ RgK m s0 s := rgK_of 18446744056527585279 (by unfold hostLoad; (repeat' split) <;> simp) hm

@[simp] theorem hostStore_rgK {m : Nat} {s0 : State} (base : Nat) (d : Desc) (s : State) (hm : m &&& 18446744056527585263 = m) :
    RgK m s0 (hostStore base d s) ↔ RgK m s0 s := rgK_of 18446744056527585263 (by unfold hostStore; dsimp only; (repeat' split) <;> simp [*]) hm

@[simp] theorem hostRule_apply_rgK {m : Nat} {s0 : State} (q : Req) (value : Bytes) (s : State) (u0 : State) (hm : m &&& 18446744073709551615 = m) :
    RgK m s0 ((hostRule q value s).apply u0) ↔ RgK m s0 u0 := rgK_of 18446744073709551615 (by unfold hostRule; (repeat' split) <;> simp) hm

@[simp] theorem hostRule_after_rgK {m : Nat} {s0 : State} (q : Req) (value : Bytes) (s : State) (u0 : State) (hm : m &&& 18446744073709551615 = m) :
    RgK m s0 ((hostRule q value s).after u0) ↔ RgK m s0 u0 := rgK_of 18446744073709551615 (by unfold hostRule; (repeat' split) <;> simp) hm

@[simp] theorem hostRule_onReject_rgK {m : Nat} {s0 : State} (q : Req) (value : Bytes) (s : State) (u0 : State) (hm : m &&& 18446744073709551615 = m) :
    RgK m s0 ((hostRule q value s).onReject u0) ↔ RgK m s0 u0 := rgK_of 18446744073709551615 (by unfold hostRule; (repeat' split) <;> simp) hm

@[simp] theorem withStep_rgK {m : Nat} {s0 : State} (f : Step → Step) (s : State) :
    RgK m s0 (withStep f s) ↔ RgK m s0 s := rgK_of m (by exact rgK_of_regs (Keeps.regs ((withStep_keeps (m := 1048511) (s0 := s) f s (by decide)).mpr (Keeps.refl _ _)) (by decide))) (Nat.and_self m)

@[simp] theorem addToken_rgK {m : Nat} {s0 : State} (sc : Score) (t1 : Nat) (n : Nat) (s : State) (hm : m &&& 18446744073709551359 = m) :
    RgK m s0 (addToken sc t1 n s) ↔ RgK m s0 s := rgK_of 18446744073709551359 (by unfold addToken; (repeat' split) <;> simp) hm

@[simp] theorem withCreditUsed_rgK {m : Nat} {s0 : State} (unit : Nat) (ep : Nat) (cls : Nat) (n : Nat) (s : State) :
    RgK m s0 (withCreditUsed unit ep cls n s) ↔ RgK m s0 s := rgK_of m (by exact rgK_of_regs (Keeps.regs ((withCreditUsed_keeps (m := 1048511) (s0 := s) unit ep cls n s (by decide)).mpr (Keeps.refl _ _)) (by decide))) (Nat.and_self m)

@[simp] theorem takeCredit_rgK {m : Nat} {s0 : State} (unit : Nat) (ep : Nat) (cls : Nat) (s : State) :
    RgK m s0 (takeCredit unit ep cls s) ↔ RgK m s0 s := rgK_of m (by exact rgK_of_regs (Keeps.regs ((takeCredit_keeps (m := 1048511) (s0 := s) unit ep cls s (by decide)).mpr (Keeps.refl _ _)) (by decide))) (Nat.and_self m)

@[simp] theorem sendToken_rgK {m : Nat} {s0 : State} (unit : Nat) (d : TokDecl) (n : Nat) (s : State) :
    RgK m s0 (sendToken unit d n s) ↔ RgK m s0 s := rgK_of m (by exact rgK_of_regs (Keeps.regs ((sendToken_keeps (m := 1048509) (s0 := s) unit d n s (by decide)).mpr (Keeps.refl _ _)) (by decide))) (Nat.and_self m)

@[simp] theorem sendGrant_rgK {m : Nat} {s0 : State} (unit : Nat) (p : PoolDecl) (n : Nat) (s : State) :
    RgK m s0 (sendGrant unit p n s) ↔ RgK m s0 s := rgK_of m (by exact rgK_of_regs (Keeps.regs ((sendGrant_keeps (m := 1048509) (s0 := s) unit p n s (by decide)).mpr (Keeps.refl _ _)) (by decide))) (Nat.and_self m)

@[simp] theorem deliverFrom_rgK {m : Nat} {s0 : State} (unit : Nat) (sc : Score) (die : Nat) (ep : Nat) (rs : List TokRef) (s : State) (hm : m &&& 18446744073709551359 = m) :
    RgK m s0 (deliverFrom unit sc die ep rs s) ↔ RgK m s0 s := rgK_of 18446744073709551359 (by unfold deliverFrom; repeat' (first | (simp; done) | split | (apply rgK_foldl <;> intros))) hm

@[simp] theorem deliver_rgK {m : Nat} {s0 : State} (sc : Score) (die : Nat) (ep : Nat) (rs : List TokRef) (s : State) (hm : m &&& 18446744073709551359 = m) :
    RgK m s0 (deliver sc die ep rs s) ↔ RgK m s0 s := rgK_of 18446744073709551359 (by unfold deliver; (repeat' split) <;> simp) hm

@[simp] theorem addFill_rgK {m : Nat} {s0 : State} (sc : Score) (b : Nat) (n : Nat) (s : State) (hm : m &&& 18446743798831644671 = m) :
    RgK m s0 (addFill sc b n s) ↔ RgK m s0 s := rgK_of 18446743798831644671 (by unfold addFill; (repeat' split) <;> simp) hm

@[simp] theorem spendPool_rgK {m : Nat} {s0 : State} (p : Nat) (n : Nat) (s : State) :
    RgK m s0 (spendPool p n s) ↔ RgK m s0 s := rgK_of m (by exact rgK_of_regs (Keeps.regs ((spendPool_keeps (m := 1048511) (s0 := s) p n s (by decide)).mpr (Keeps.refl _ _)) (by decide))) (Nat.and_self m)

@[simp] theorem returnPool_rgK {m : Nat} {s0 : State} (p : Nat) (n : Nat) (s : State) :
    RgK m s0 (returnPool p n s) ↔ RgK m s0 s := rgK_of m (by exact rgK_of_regs (Keeps.regs ((returnPool_keeps (m := 1048511) (s0 := s) p n s (by decide)).mpr (Keeps.refl _ _)) (by decide))) (Nat.and_self m)

@[simp] theorem withSeq_rgK {m : Nat} {s0 : State} (half : Nat) (core : Nat) (q : Seq) (s : State) :
    RgK m s0 (withSeq half core q s) ↔ RgK m s0 s := rgK_of m (by exact rgK_of_regs (Keeps.regs ((withSeq_keeps (m := 1048511) (s0 := s) half core q s (by decide)).mpr (Keeps.refl _ _)) (by decide))) (Nat.and_self m)

@[simp] theorem fetchRecord_rgK {m : Nat} {s0 : State} (sc : Score) (key : Nat) (s : State) (i : Nat) (hm : m &&& 18446744056527585263 = m) :
    RgK m s0 (fetchRecord sc key s i) ↔ RgK m s0 s := rgK_of 18446744056527585263 (by unfold fetchRecord; dsimp only; (repeat' split) <;> simp [*]) hm

@[simp] theorem advanceList_rgK {m : Nat} {s0 : State} (sc : Score) (half : Nat) (core : Nat) (before : List Nat) (q : Seq) (s : State) (hm : m &&& 18446744056527585263 = m) :
    RgK m s0 (advanceList sc half core before q s) ↔ RgK m s0 s := rgK_of 18446744056527585263 (by unfold advanceList; (repeat' split) <;> simp) hm

@[simp] theorem setList_rgK {m : Nat} {s0 : State} (sc : Score) (half : Nat) (core : Nat) (q : Seq) (s : State) (hm : m &&& 18446744056527585263 = m) :
    RgK m s0 (setList sc half core q s) ↔ RgK m s0 s := rgK_of 18446744056527585263 (by unfold setList; (repeat' split) <;> simp) hm

@[simp] theorem fetchOperand_rgK {m : Nat} {s0 : State} (sc : Score) (half : Nat) (core : Nat) (p : Prefetch) (s : State) (hm : m &&& 18446744073707454463 = m) :
    RgK m s0 (fetchOperand sc half core p s) ↔ RgK m s0 s := rgK_of 18446744073707454463 (by unfold fetchOperand; (repeat' split) <;> simp) hm

@[simp] theorem refillPrefetch_rgK {m : Nat} {s0 : State} (sc : Score) (half : Nat) (core : Nat) (s : State) (hm : m &&& 18446744073707454463 = m) :
    RgK m s0 (refillPrefetch sc half core s) ↔ RgK m s0 s := rgK_of 18446744073707454463 (by unfold refillPrefetch; (repeat' split) <;> simp) hm

@[simp] theorem endPrefetch_rgK {m : Nat} {s0 : State} (i : Nat) (s : State) :
    RgK m s0 (endPrefetch i s) ↔ RgK m s0 s := rgK_of m (by exact rgK_of_regs (Keeps.regs ((endPrefetch_keeps (m := 1048511) (s0 := s) i s (by decide)).mpr (Keeps.refl _ _)) (by decide))) (Nat.and_self m)

@[simp] theorem crumbEffect_rgK {m : Nat} {s0 : State} (sc : Score) (half : Nat) (core : Nat) (key : Nat) (i : Nat) (c : Crumb) (s : State) (hm : m &&& 16140901047297093615 = m) :
    RgK m s0 (crumbEffect sc half core key i c s) ↔ RgK m s0 s := rgK_of 16140901047297093615 (by unfold crumbEffect; (repeat' split) <;> simp) hm

@[simp] theorem noteReads_rgK {m : Nat} {s0 : State} (sc : Score) (key : Nat) (c : Crumb) (s : State) (hm : m &&& 18446744056527585263 = m) :
    RgK m s0 (noteReads sc key c s) ↔ RgK m s0 s := rgK_of 18446744056527585263 (by unfold noteReads; dsimp only; (repeat' split) <;> simp [*]) hm

@[simp] theorem fireCrumb_rgK {m : Nat} {s0 : State} (sc : Score) (half : Nat) (core : Nat) (i : Nat) (owner : Nat) (c : Crumb) (errs : List StoreErr) (s : State) (hm : m &&& 16140901047297085423 = m) :
    RgK m s0 (fireCrumb sc half core i owner c errs s) ↔ RgK m s0 s := rgK_of 16140901047297085423 (by unfold fireCrumb; (repeat' split) <;> simp) hm

@[simp] theorem sendOutputs_rgK {m : Nat} {s0 : State} (sc : Score) (c : Crumb) (credits : Bool) (s : State) (hm : m &&& 18446743798831644415 = m) :
    RgK m s0 (sendOutputs sc c credits s) ↔ RgK m s0 s := rgK_of 18446743798831644415 (by unfold sendOutputs; repeat' (first | (simp; done) | split | (apply rgK_foldl <;> intros))) hm

@[simp] theorem onScore_rgK {m : Nat} {s0 : State} (s : State) (f : Score → State → State)
    (h : ∀ sc u, RgK m u (f sc u)) : RgK m s0 (onScore s f) ↔ RgK m s0 s := by
  unfold onScore
  split
  · exact rgK_of m (h _ _) (Nat.and_self m)
  · rfl

@[simp] theorem retireHead_rgK {m : Nat} {s0 : State} (sc : Score) (half : Nat) (core : Nat) (c : Crumb) (i : Nat) (q : Seq) (s : State) (hm : m &&& 18446743781649678063 = m) :
    RgK m s0 (retireHead sc half core c i q s) ↔ RgK m s0 s := rgK_of 18446743781649678063 (by unfold retireHead; (repeat' split) <;> simp) hm

@[simp] theorem flushPending_rgK {m : Nat} {s0 : State} (sc : Score) (unit : Nat) (ep : Nat) (cls : Nat) (s : State) :
    RgK m s0 (flushPending sc unit ep cls s) ↔ RgK m s0 s := rgK_of m (by exact rgK_of_regs (Keeps.regs ((flushPending_keeps (m := 1048509) (s0 := s) sc unit ep cls s (by decide)).mpr (Keeps.refl _ _)) (by decide))) (Nat.and_self m)

@[simp] theorem withFab_rgK {m : Nat} {s0 : State} (f : Fabric → Fabric) (s : State) :
    RgK m s0 (withFab f s) ↔ RgK m s0 s := rgK_of m (by exact rgK_of_regs (Keeps.regs ((withFab_keeps (m := 1040383) (s0 := s) f s (by decide)).mpr (Keeps.refl _ _)) (by decide))) (Nat.and_self m)

@[simp] theorem enqueueFwd_rgK {m : Nat} {s0 : State} (x : Carried) (s : State) :
    RgK m s0 (enqueueFwd x s) ↔ RgK m s0 s := rgK_of m (by exact rgK_of_regs (Keeps.regs ((enqueueFwd_keeps (m := 1040383) (s0 := s) x s (by decide)).mpr (Keeps.refl _ _)) (by decide))) (Nat.and_self m)

@[simp] theorem drainOut_rgK {m : Nat} {s0 : State} (s : State) :
    RgK m s0 (drainOut s) ↔ RgK m s0 s := rgK_of m (by exact rgK_of_regs (Keeps.regs ((drainOut_keeps (m := 1040383) (s0 := s) s (by decide)).mpr (Keeps.refl _ _)) (by decide))) (Nat.and_self m)

@[simp] theorem sendParcel_rgK {m : Nat} {s0 : State} (dst : Nat) (cls : Nat) (kind : Nat) (st : Stream) (kf : Nat) (payload : Bytes) (s : State) (hm : m &&& 18446744060824649727 = m) :
    RgK m s0 (sendParcel dst cls kind st kf payload s) ↔ RgK m s0 s := rgK_of 18446744060824649727 (by unfold sendParcel; (repeat' split) <;> simp) hm

@[simp] theorem sendControl_rgK {m : Nat} {s0 : State} (dst : Nat) (kind : Nat) (kf : Nat) (s : State) (hm : m &&& 18446744060824649727 = m) :
    RgK m s0 (sendControl dst kind kf s) ↔ RgK m s0 s := rgK_of 18446744060824649727 (by unfold sendControl; (repeat' split) <;> simp) hm

@[simp] theorem returnOn_rgK {m : Nat} {s0 : State} (c : InCtx) (n : Nat) (s : State) (hm : m &&& 18446744060824649727 = m) :
    RgK m s0 (returnOn c n s) ↔ RgK m s0 s := rgK_of 18446744060824649727 (by unfold returnOn; (repeat' split) <;> simp) hm

@[simp] theorem returnChunk_rgK {m : Nat} {s0 : State} (c : Chunk) (s : State) (hm : m &&& 18446744060824649727 = m) :
    RgK m s0 (returnChunk c s) ↔ RgK m s0 s := rgK_of 18446744060824649727 (by unfold returnChunk; (repeat' split) <;> simp) hm

@[simp] theorem discardWaiting_rgK {m : Nat} {s0 : State} (gone : Carried → Bool) (s : State) :
    RgK m s0 (discardWaiting gone s) ↔ RgK m s0 s := rgK_of m (by exact rgK_of_regs (Keeps.regs ((discardWaiting_keeps (m := 1036287) (s0 := s) gone s (by decide)).mpr (Keeps.refl _ _)) (by decide))) (Nat.and_self m)

@[simp] theorem silentVerdict_rgK {m : Nat} {s0 : State} (peer : Nat) (s : State) (hm : m &&& 18446744047939747823 = m) :
    RgK m s0 (silentVerdict peer s) ↔ RgK m s0 s := rgK_of 18446744047939747823 (by unfold silentVerdict; (repeat' split) <;> simp) hm

@[simp] theorem closeContexts_rgK {m : Nat} {s0 : State} (s : State) :
    RgK m s0 (closeContexts s) ↔ RgK m s0 s := rgK_of m (by exact rgK_of_regs (Keeps.regs ((closeContexts_keeps (m := 1036287) (s0 := s) s (by decide)).mpr (Keeps.refl _ _)) (by decide))) (Nat.and_self m)

@[simp] theorem grantLease_rgK {m : Nat} {s0 : State} (c : InCtx) (s : State) (hm : m &&& 18446744060824649727 = m) :
    RgK m s0 (grantLease c s) ↔ RgK m s0 s := rgK_of 18446744060824649727 (by unfold grantLease; (repeat' split) <;> simp) hm

@[simp] theorem openContexts_rgK {m : Nat} {s0 : State} (sc : Score) (s : State) (hm : m &&& 18446744060824649727 = m) :
    RgK m s0 (openContexts sc s) ↔ RgK m s0 s := rgK_of 18446744060824649727 (by unfold openContexts; (repeat' split) <;> simp) hm

@[simp] theorem departed_rgK {m : Nat} {s0 : State} (p : Parcel) (s : State) :
    RgK m s0 (departed p s) ↔ RgK m s0 s := rgK_of m (by exact rgK_of_regs (Keeps.regs ((departed_keeps (m := 1040383) (s0 := s) p s (by decide)).mpr (Keeps.refl _ _)) (by decide))) (Nat.and_self m)

@[simp] theorem withEngine_rgK {m : Nat} {s0 : State} (k : Nat) (x : Engine) (s : State) :
    RgK m s0 (withEngine k x s) ↔ RgK m s0 s := rgK_of m (by exact rgK_of_regs (Keeps.regs ((withEngine_keeps (m := 1048511) (s0 := s) k x s (by decide)).mpr (Keeps.refl _ _)) (by decide))) (Nat.and_self m)

@[simp] theorem runJob_rgK {m : Nat} {s0 : State} (sc : Score) (u : Agent) (src : Desc) (dst : Desc) (s : State) (hm : m &&& 18446744056510808047 = m) :
    RgK m s0 (runJob sc u src dst s) ↔ RgK m s0 s := rgK_of 18446744056510808047 (by unfold runJob; dsimp only; (repeat' split) <;> simp [*]) hm

@[simp] theorem withStream_rgK {m : Nat} {s0 : State} (i : Nat) (x : StreamRun) (s : State) :
    RgK m s0 (withStream i x s) ↔ RgK m s0 s := rgK_of m (by exact rgK_of_regs (Keeps.regs ((withStream_keeps (m := 1048511) (s0 := s) i x s (by decide)).mpr (Keeps.refl _ _)) (by decide))) (Nat.and_self m)

@[simp] theorem readStreamList_rgK {m : Nat} {s0 : State} (sc : Score) (x : StreamDecl) (s : State) (hm : m &&& 18446744056527585263 = m) :
    RgK m s0 (readStreamList sc x s) ↔ RgK m s0 s := rgK_of 18446744056527585263 (by unfold readStreamList; dsimp only; (repeat' split) <;> simp [*]) hm

@[simp] theorem readStreamLine_rgK {m : Nat} {s0 : State} (x : StreamDecl) (s : State) (line : Nat) (hm : m &&& 18446744056527585263 = m) :
    RgK m s0 (readStreamLine x s line) ↔ RgK m s0 s := rgK_of 18446744056527585263 (by unfold readStreamLine; dsimp only; (repeat' split) <;> simp [*]) hm

@[simp] theorem installStreamLine_rgK {m : Nat} {s0 : State} (x : StreamDecl) (s : State) (line : Nat) (hm : m &&& 18446744073707454463 = m) :
    RgK m s0 (installStreamLine x s line) ↔ RgK m s0 s := rgK_of 18446744073707454463 (by unfold installStreamLine; (repeat' split) <;> simp) hm

@[simp] theorem pllTake_rgK {m : Nat} {s0 : State} (subs : List Nat) (s : State) :
    RgK m s0 (pllTake subs s) ↔ RgK m s0 s := rgK_of m (by exact rgK_of_regs (Keeps.regs ((pllTake_keeps (m := 786431) (s0 := s) subs s (by decide)).mpr (Keeps.refl _ _)) (by decide))) (Nat.and_self m)

@[simp] theorem withStackDir_rgK {m : Nat} {s0 : State} (cd : Nat) (port : Nat) (toBase : Bool) (d : StackDir) (s : State) :
    RgK m s0 (withStackDir cd port toBase d s) ↔ RgK m s0 s := rgK_of m (by exact rgK_of_regs (Keeps.regs ((withStackDir_keeps (m := 1048063) (s0 := s) cd port toBase d s (by decide)).mpr (Keeps.refl _ _)) (by decide))) (Nat.and_self m)

@[simp] theorem withLink_rgK {m : Nat} {s0 : State} (k : Nat) (l : QlLink) (s : State) :
    RgK m s0 (withLink k l s) ↔ RgK m s0 s := rgK_of m (by exact rgK_of_regs (Keeps.regs ((withLink_keeps (m := 1047551) (s0 := s) k l s (by decide)).mpr (Keeps.refl _ _)) (by decide))) (Nat.and_self m)

@[simp] theorem failLink_rgK {m : Nat} {s0 : State} (k : Nat) (s : State) (hm : m &&& 13690802112538083279 = m) :
    RgK m s0 (failLink k s) ↔ RgK m s0 s := rgK_of 13690802112538083279 (by unfold failLink; (repeat' split) <;> simp) hm

@[simp] theorem beginRetrain_rgK {m : Nat} {s0 : State} (k : Nat) (s : State) (hm : m &&& 13690802043818606543 = m) :
    RgK m s0 (beginRetrain k s) ↔ RgK m s0 s := rgK_of 13690802043818606543 (by unfold beginRetrain; (repeat' split) <;> simp) hm

@[simp] theorem resendUnits_rgK {m : Nat} {s0 : State} (k : Nat) (up : Bool) (s : State) (hm : m &&& 13690802009458868175 = m) :
    RgK m s0 (resendUnits k up s) ↔ RgK m s0 s := rgK_of 13690802009458868175 (by unfold resendUnits; (repeat' split) <;> simp) hm

@[simp] theorem takeAckCredit_rgK {m : Nat} {s0 : State} (k : Nat) (up : Bool) (f : UnitFields) (s : State) :
    RgK m s0 (takeAckCredit k up f s) ↔ RgK m s0 s := rgK_of m (by exact rgK_of_regs (Keeps.regs ((takeAckCredit_keeps (m := 1047551) (s0 := s) k up f s (by decide)).mpr (Keeps.refl _ _)) (by decide))) (Nat.and_self m)

@[simp] theorem refuseUnit_rgK {m : Nat} {s0 : State} (u : QlUnit) (s : State) :
    RgK m s0 (refuseUnit u s) ↔ RgK m s0 s := rgK_of m (by exact rgK_of_regs (Keeps.regs ((refuseUnit_keeps (m := 1047549) (s0 := s) u s (by decide)).mpr (Keeps.refl _ _)) (by decide))) (Nat.and_self m)

@[simp] theorem takeUnit_rgK {m : Nat} {s0 : State} (u : QlUnit) (b : Bytes) (s : State) (hm : m &&& 18446744056529682415 = m) :
    RgK m s0 (takeUnit u b s) ↔ RgK m s0 s := rgK_of 18446744056529682415 (by unfold takeUnit; (repeat' split) <;> simp) hm

@[simp] theorem clearNak_rgK {m : Nat} {s0 : State} (u : QlUnit) (s : State) :
    RgK m s0 (clearNak u s) ↔ RgK m s0 s := rgK_of m (by exact rgK_of_regs (Keeps.regs ((clearNak_keeps (m := 1047551) (s0 := s) u s (by decide)).mpr (Keeps.refl _ _)) (by decide))) (Nat.and_self m)

@[simp] theorem linkUp_rgK {m : Nat} {s0 : State} (k : Nat) (repaired : Nat) (exhausted : BitVec 8) (s : State) (hm : m &&& 18446744039349813247 = m) :
    RgK m s0 (linkUp k repaired exhausted s) ↔ RgK m s0 s := rgK_of 18446744039349813247 (by unfold linkUp; (repeat' split) <;> simp) hm

@[simp] theorem withPho_rgK {m : Nat} {s0 : State} (f : Photonics → Photonics) (s : State) :
    RgK m s0 (withPho f s) ↔ RgK m s0 s := rgK_of m (by exact rgK_of_regs (Keeps.regs ((withPho_keeps (m := 1044479) (s0 := s) f s (by decide)).mpr (Keeps.refl _ _)) (by decide))) (Nat.and_self m)

@[simp] theorem withPort_rgK {m : Nat} {s0 : State} (p : Nat) (x : Port) (s : State) :
    RgK m s0 (withPort p x s) ↔ RgK m s0 s := rgK_of m (by exact rgK_of_regs (Keeps.regs ((withPort_keeps (m := 1044479) (s0 := s) p x s (by decide)).mpr (Keeps.refl _ _)) (by decide))) (Nat.and_self m)

@[simp] theorem withTx_rgK {m : Nat} {s0 : State} (p : Nat) (c : Nat) (x : TxLane) (s : State) :
    RgK m s0 (withTx p c x s) ↔ RgK m s0 s := rgK_of m (by exact rgK_of_regs (Keeps.regs ((withTx_keeps (m := 1044479) (s0 := s) p c x s (by decide)).mpr (Keeps.refl _ _)) (by decide))) (Nat.and_self m)

@[simp] theorem withRx_rgK {m : Nat} {s0 : State} (p : Nat) (c : Nat) (x : RxLane) (s : State) :
    RgK m s0 (withRx p c x s) ↔ RgK m s0 s := rgK_of m (by exact rgK_of_regs (Keeps.regs ((withRx_keeps (m := 1044479) (s0 := s) p c x s (by decide)).mpr (Keeps.refl _ _)) (by decide))) (Nat.and_self m)

@[simp] theorem withRing_rgK {m : Nat} {s0 : State} (tx : Bool) (p : Nat) (r : Nat) (x : Ring) (s : State) :
    RgK m s0 (withRing tx p r x s) ↔ RgK m s0 s := rgK_of m (by exact rgK_of_regs (Keeps.regs ((withRing_keeps (m := 1044479) (s0 := s) tx p r x s (by decide)).mpr (Keeps.refl _ _)) (by decide))) (Nat.and_self m)

@[simp] theorem sendFrame_rgK {m : Nat} {s0 : State} (p : Nat) (c : Nat) (state : Nat) (s : State) :
    RgK m s0 (sendFrame p c state s) ↔ RgK m s0 s := rgK_of m (by exact rgK_of_regs (Keeps.regs ((sendFrame_keeps (m := 1044477) (s0 := s) p c state s (by decide)).mpr (Keeps.refl _ _)) (by decide))) (Nat.and_self m)

@[simp] theorem sendDueFrames_rgK {m : Nat} {s0 : State} (s : State) :
    RgK m s0 (sendDueFrames s) ↔ RgK m s0 s := rgK_of m (by exact rgK_of_regs (Keeps.regs ((sendDueFrames_keeps (m := 1044477) (s0 := s) s (by decide)).mpr (Keeps.refl _ _)) (by decide))) (Nat.and_self m)

@[simp] theorem sendNotice_rgK {m : Nat} {s0 : State} (p : Nat) (code : Nat) (about : Nat) (dst : Nat) (s : State) :
    RgK m s0 (sendNotice p code about dst s) ↔ RgK m s0 s := rgK_of m (by exact rgK_of_regs (Keeps.regs ((sendNotice_keeps (m := 1044479) (s0 := s) p code about dst s (by decide)).mpr (Keeps.refl _ _)) (by decide))) (Nat.and_self m)

@[simp] theorem requeue_rgK {m : Nat} {s0 : State} (xs : List Carried) (s : State) :
    RgK m s0 (requeue xs s) ↔ RgK m s0 s := rgK_of m (by exact rgK_of_regs (Keeps.regs ((requeue_keeps (m := 1040383) (s0 := s) xs s (by decide)).mpr (Keeps.refl _ _)) (by decide))) (Nat.and_self m)

@[simp] theorem outTx_rgK {m : Nat} {s0 : State} (p : Nat) (c : Nat) (st : LaneState) (s : State) :
    RgK m s0 (outTx p c st s) ↔ RgK m s0 s := rgK_of m (by exact rgK_of_regs (Keeps.regs ((outTx_keeps (m := 1036287) (s0 := s) p c st s (by decide)).mpr (Keeps.refl _ _)) (by decide))) (Nat.and_self m)

@[simp] theorem pullTx_rgK {m : Nat} {s0 : State} (p : Nat) (c : Nat) (st : LaneState) (s : State) :
    RgK m s0 (pullTx p c st s) ↔ RgK m s0 s := rgK_of m (by exact rgK_of_regs (Keeps.regs ((pullTx_keeps (m := 1036285) (s0 := s) p c st s (by decide)).mpr (Keeps.refl _ _)) (by decide))) (Nat.and_self m)

@[simp] theorem forgetBuffers_rgK {m : Nat} {s0 : State} (key : Nat) (s : State) :
    RgK m s0 (forgetBuffers key s) ↔ RgK m s0 s := rgK_of m (by exact rgK_of_regs (Keeps.regs ((forgetBuffers_keeps (m := 1036287) (s0 := s) key s (by decide)).mpr (Keeps.refl _ _)) (by decide))) (Nat.and_self m)

@[simp] theorem pullRx_rgK {m : Nat} {s0 : State} (p : Nat) (c : Nat) (st : LaneState) (s : State) :
    RgK m s0 (pullRx p c st s) ↔ RgK m s0 s := rgK_of m (by exact rgK_of_regs (Keeps.regs ((pullRx_keeps (m := 1044479) (s0 := s) p c st s (by decide)).mpr (Keeps.refl _ _)) (by decide))) (Nat.and_self m)

@[simp] theorem pullLane_rgK {m : Nat} {s0 : State} (tx : Bool) (p : Nat) (c : Nat) (st : LaneState) (s : State) :
    RgK m s0 (pullLane tx p c st s) ↔ RgK m s0 s := rgK_of m (by exact rgK_of_regs (Keeps.regs ((pullLane_keeps (m := 1036285) (s0 := s) tx p c st s (by decide)).mpr (Keeps.refl _ _)) (by decide))) (Nat.and_self m)

@[simp] theorem oweCredit_rgK {m : Nat} {s0 : State} (p : Nat) (c : Nat) (cls : Nat) (pool : Nat) (n : Nat) (s : State) :
    RgK m s0 (oweCredit p c cls pool n s) ↔ RgK m s0 s := rgK_of m (by exact rgK_of_regs (Keeps.regs ((oweCredit_keeps (m := 1044479) (s0 := s) p c cls pool n s (by decide)).mpr (Keeps.refl _ _)) (by decide))) (Nat.and_self m)

@[simp] theorem freeBuffers_rgK {m : Nat} {s0 : State} (bs : List (Nat × Nat × Nat × Nat)) (s : State) :
    RgK m s0 (freeBuffers bs s) ↔ RgK m s0 s := rgK_of m (by exact rgK_of_regs (Keeps.regs ((freeBuffers_keeps (m := 1044479) (s0 := s) bs s (by decide)).mpr (Keeps.refl _ _)) (by decide))) (Nat.and_self m)

@[simp] theorem sendBare_rgK {m : Nat} {s0 : State} (p : Nat) (c : Nat) (kind : Nat) (s : State) :
    RgK m s0 (sendBare p c kind s) ↔ RgK m s0 s := rgK_of m (by exact rgK_of_regs (Keeps.regs ((sendBare_keeps (m := 1044477) (s0 := s) p c kind s (by decide)).mpr (Keeps.refl _ _)) (by decide))) (Nat.and_self m)

@[simp] theorem parcelGone_rgK {m : Nat} {s0 : State} (x : Carried) (s : State) :
    RgK m s0 (parcelGone x s) ↔ RgK m s0 s := rgK_of m (by exact rgK_of_regs (Keeps.regs ((parcelGone_keeps (m := 1044479) (s0 := s) x s (by decide)).mpr (Keeps.refl _ _)) (by decide))) (Nat.and_self m)

@[simp] theorem sendData_rgK {m : Nat} {s0 : State} (p : Nat) (c : Nat) (cls : Nat) (pool : Nat) (key : Nat) (s : State) (hm : m &&& 18446744052234715135 = m) :
    RgK m s0 (sendData p c cls pool key s) ↔ RgK m s0 s := rgK_of 18446744052234715135 (by unfold sendData; (repeat' split) <;> simp) hm

@[simp] theorem pumpFlits_rgK {m : Nat} {s0 : State} (p c n : Nat) (s : State) (hm : m &&& 18446744052234715135 = m) :
    RgK m s0 (pumpFlits p c n s) ↔ RgK m s0 s := rgK_of 18446744052234715135 (by
  induction n generalizing s with
  | zero => simp [pumpFlits]
  | succ n ih =>
    unfold pumpFlits
    extract_lets l
    split
    · simp
    · split
      · exact RgK.trans (by simp) (ih _)
      · split
        · exact RgK.trans (by simp) (ih _)
        · simp) hm

@[simp] theorem pumpLane_rgK {m : Nat} {s0 : State} (p : Nat) (c : Nat) (s : State) (hm : m &&& 18446744052234715135 = m) :
    RgK m s0 (pumpLane p c s) ↔ RgK m s0 s := rgK_of 18446744052234715135 (by unfold pumpLane; (repeat' split) <;> simp) hm

@[simp] theorem pumpLanes_rgK {m : Nat} {s0 : State} (s : State) (hm : m &&& 18446744052234715135 = m) :
    RgK m s0 (pumpLanes s) ↔ RgK m s0 s := rgK_of 18446744052234715135 (by unfold pumpLanes; (repeat' split) <;> simp) hm

@[simp] theorem resendOne_rgK {m : Nat} {s0 : State} (p : Nat) (c : Nat) (f : TxFlit) (s : State) :
    RgK m s0 (resendOne p c f s) ↔ RgK m s0 s := rgK_of m (by exact rgK_of_regs (Keeps.regs ((resendOne_keeps (m := 1044477) (s0 := s) p c f s (by decide)).mpr (Keeps.refl _ _)) (by decide))) (Nat.and_self m)

@[simp] theorem resendAll_rgK {m : Nat} {s0 : State} (p : Nat) (c : Nat) (s : State) (hm : m &&& 18446744069414584319 = m) :
    RgK m s0 (resendAll p c s) ↔ RgK m s0 s := rgK_of 18446744069414584319 (by unfold resendAll; (repeat' split) <;> simp) hm

@[simp] theorem withCol_rgK {m : Nat} {s0 : State} (f : Collectives → Collectives) (s : State) :
    RgK m s0 (withCol f s) ↔ RgK m s0 s := rgK_of m (by exact rgK_of_regs (Keeps.regs ((withCol_keeps (m := 1032191) (s0 := s) f s (by decide)).mpr (Keeps.refl _ _)) (by decide))) (Nat.and_self m)

@[simp] theorem withPral_rgK {m : Nat} {s0 : State} (r : PralRun) (s : State) :
    RgK m s0 (withPral r s) ↔ RgK m s0 s := rgK_of m (by exact rgK_of_regs (Keeps.regs ((withPral_keeps (m := 1032191) (s0 := s) r s (by decide)).mpr (Keeps.refl _ _)) (by decide))) (Nat.and_self m)

@[simp] theorem wordOnLane_rgK {m : Nat} {s0 : State} (w : W128) (s : State) (lane : Nat × Nat) (hm : m &&& 18446744052234715135 = m) :
    RgK m s0 (wordOnLane w s lane) ↔ RgK m s0 s := rgK_of 18446744052234715135 (by unfold wordOnLane; (repeat' split) <;> simp) hm

@[simp] theorem noteSend_rgK {m : Nat} {s0 : State} (r : PralRun) (stage : Nat) (a : Nat) (s : State) :
    RgK m s0 (noteSend r stage a s) ↔ RgK m s0 s := rgK_of m (by exact rgK_of_regs (Keeps.regs ((noteSend_keeps (m := 1032191) (s0 := s) r stage a s (by decide)).mpr (Keeps.refl _ _)) (by decide))) (Nat.and_self m)

@[simp] theorem sendPral_rgK {m : Nat} {s0 : State} (r : PralRun) (stage : Nat) (a : Nat) (first : Bool) (s : State) (hm : m &&& 18446743768766873599 = m) :
    RgK m s0 (sendPral r stage a first s) ↔ RgK m s0 s := rgK_of 18446743768766873599 (by unfold sendPral; (repeat' split) <;> simp) hm

@[simp] theorem sendStage_rgK {m : Nat} {s0 : State} (r : PralRun) (stage : Nat) (s : State) (hm : m &&& 18446743768766873599 = m) :
    RgK m s0 (sendStage r stage s) ↔ RgK m s0 s := rgK_of 18446743768766873599 (by unfold sendStage; (repeat' split) <;> simp) hm

@[simp] theorem pralAdvance_rgK {m : Nat} {s0 : State} (n : Nat) (r : PralRun) (s : State) (hm : m &&& 18446743768766873599 = m) :
    RgK m s0 (pralAdvance n r s) ↔ RgK m s0 s := rgK_of 18446743768766873599 (by
  induction n generalizing r s with
  | zero => simp [pralAdvance]
  | succ n ih => unfold pralAdvance; repeat' (first | (simp; done) | (refine RgK.trans ?_ (ih _ _); simp; done) | split)) hm

@[simp] theorem storeWord_rgK {m : Nat} {s0 : State} (r : PralRun) (src : Nat) (w : PralFields) (s : State) (hm : m &&& 18446743768766873599 = m) :
    RgK m s0 (storeWord r src w s) ↔ RgK m s0 s := rgK_of 18446743768766873599 (by unfold storeWord; (repeat' split) <;> simp) hm

@[simp] theorem absorbEarly_rgK {m : Nat} {s0 : State} (g : Nat) (seq : Nat) (round : Nat) (s : State) (hm : m &&& 18446743768766873599 = m) :
    RgK m s0 (absorbEarly g seq round s) ↔ RgK m s0 s := rgK_of 18446743768766873599 (by unfold absorbEarly; repeat' (first | (simp; done) | split | (apply rgK_foldl <;> intros))) hm

@[simp] theorem startPraline_rgK {m : Nat} {s0 : State} (sc : Score) (coll : Nat) (op : Nat) (value : W64) (s : State) (hm : m &&& 18446743768766873599 = m) :
    RgK m s0 (startPraline sc coll op value s) ↔ RgK m s0 s := rgK_of 18446743768766873599 (by unfold startPraline; (repeat' split) <;> simp) hm

@[simp] theorem takeFields_rgK {m : Nat} {s0 : State} (src : Nat) (w : PralFields) (s : State) (hm : m &&& 18446743768766873599 = m) :
    RgK m s0 (takeFields src w s) ↔ RgK m s0 s := rgK_of 18446743768766873599 (by unfold takeFields; (repeat' split) <;> simp) hm

@[simp] theorem badWord_rgK {m : Nat} {s0 : State} (src : Nat) (w : PralFields) (s : State) (hm : m &&& 18446743781651775471 = m) :
    RgK m s0 (badWord src w s) ↔ RgK m s0 s := rgK_of 18446743781651775471 (by unfold badWord; (repeat' split) <;> simp) hm

@[simp] theorem takeWord_rgK {m : Nat} {s0 : State} (w : Praline) (s : State) (hm : m &&& 18446743768766873583 = m) :
    RgK m s0 (takeWord w s) ↔ RgK m s0 s := rgK_of 18446743768766873583 (by unfold takeWord; dsimp only; (repeat' split) <;> simp [*]) hm

@[simp] theorem repeatRun_rgK {m : Nat} {s0 : State} (s : State) (r : PralRun) (hm : m &&& 18446743768766873599 = m) :
    RgK m s0 (repeatRun s r) ↔ RgK m s0 s := rgK_of 18446743768766873599 (by unfold repeatRun; (repeat' split) <;> simp) hm

@[simp] theorem withRun_rgK {m : Nat} {s0 : State} (n : Nat) (r : CollRun) (s : State) :
    RgK m s0 (withRun n r s) ↔ RgK m s0 s := rgK_of m (by exact rgK_of_regs (Keeps.regs ((withRun_keeps (m := 1032191) (s0 := s) n r s (by decide)).mpr (Keeps.refl _ _)) (by decide))) (Nat.and_self m)

@[simp] theorem sendRange_rgK {m : Nat} {s0 : State} (x : CollCtx) (stage : Nat) (base : Nat) (peer : Nat) (r : Nat × Nat) (s : State) (hm : m &&& 18446744060822552575 = m) :
    RgK m s0 (sendRange x stage base peer r s) ↔ RgK m s0 s := rgK_of 18446744060822552575 (by unfold sendRange; (repeat' split) <;> simp) hm

@[simp] theorem sendAll_rgK {m : Nat} {s0 : State} (x : CollCtx) (stage : Nat) (s : State) (hm : m &&& 18446744060822552575 = m) :
    RgK m s0 (sendAll x stage s) ↔ RgK m s0 s := rgK_of 18446744060822552575 (by unfold sendAll; (repeat' split) <;> simp) hm

@[simp] theorem returnHeld_rgK {m : Nat} {s0 : State} (h0 : HeldChunk) (s : State) (hm : m &&& 18446744060824649727 = m) :
    RgK m s0 (returnHeld h0 s) ↔ RgK m s0 s := rgK_of 18446744060824649727 (by unfold returnHeld; (repeat' split) <;> simp) hm

@[simp] theorem useChunk_rgK {m : Nat} {s0 : State} (x : CollCtx) (h1 : HeldChunk) (s : State) (hm : m &&& 18446744043642683391 = m) :
    RgK m s0 (useChunk x h1 s) ↔ RgK m s0 s := rgK_of 18446744043642683391 (by unfold useChunk; (repeat' split) <;> simp) hm

@[simp] theorem refetch_rgK {m : Nat} {s0 : State} (x : CollCtx) (off : Nat) (len : Nat) (s : State) (hm : m &&& 18446743785946742783 = m) :
    RgK m s0 (refetch x off len s) ↔ RgK m s0 s := rgK_of 18446743785946742783 (by unfold refetch; (repeat' split) <;> simp) hm

@[simp] theorem badChunk_rgK {m : Nat} {s0 : State} (c : Chunk) (s : State) (hm : m &&& 18446743781651775471 = m) :
    RgK m s0 (badChunk c s) ↔ RgK m s0 s := rgK_of 18446743781651775471 (by unfold badChunk; (repeat' split) <;> simp) hm

@[simp] theorem noteReceived_rgK {m : Nat} {s0 : State} (n : Nat) (c : Chunk) (s : State) :
    RgK m s0 (noteReceived n c s) ↔ RgK m s0 s := rgK_of m (by exact rgK_of_regs (Keeps.regs ((noteReceived_keeps (m := 1032191) (s0 := s) n c s (by decide)).mpr (Keeps.refl _ _)) (by decide))) (Nat.and_self m)

@[simp] theorem applyChunk_rgK {m : Nat} {s0 : State} (x : CollCtx) (s : State) (h2 : HeldChunk) (hm : m &&& 18446743768764776447 = m) :
    RgK m s0 (applyChunk x s h2) ↔ RgK m s0 s := rgK_of 18446743768764776447 (by unfold applyChunk; (repeat' split) <;> simp) hm

@[simp] theorem orderedSums_rgK {m : Nat} {s0 : State} (x : CollCtx) (stage : Nat) (s : State) (hm : m &&& 18446744056527585279 = m) :
    RgK m s0 (orderedSums x stage s) ↔ RgK m s0 s := rgK_of 18446744056527585279 (by unfold orderedSums; (repeat' split) <;> simp) hm

@[simp] theorem mergeLists_rgK {m : Nat} {s0 : State} (x : CollCtx) (stage : Nat) (s : State) (hm : m &&& 18446744056527585279 = m) :
    RgK m s0 (mergeLists x stage s) ↔ RgK m s0 s := rgK_of 18446744056527585279 (by unfold mergeLists; repeat' (first | (simp; done) | split | (apply rgK_foldl <;> intros))) hm

@[simp] theorem examine_rgK {m : Nat} {s0 : State} (x : CollCtx) (s : State) (hm : m &&& 18446744073707454463 = m) :
    RgK m s0 (examine x s) ↔ RgK m s0 s := rgK_of 18446744073707454463 (by unfold examine; (repeat' split) <;> simp) hm

@[simp] theorem tee_rgK {m : Nat} {s0 : State} (x : CollCtx) (t1 : Nat) (s : State) (hm : m &&& 18446744073707454463 = m) :
    RgK m s0 (tee x t1 s) ↔ RgK m s0 s := rgK_of 18446744073707454463 (by unfold tee; repeat' (first | (simp; done) | split | (apply rgK_foldl <;> intros))) hm

@[simp] theorem settleTokens_rgK {m : Nat} {s0 : State} (x : CollCtx) (s : State) (hm : m &&& 18446744073709551359 = m) :
    RgK m s0 (settleTokens x s) ↔ RgK m s0 s := rgK_of 18446744073709551359 (by unfold settleTokens; (repeat' split) <;> simp) hm

@[simp] theorem tokensFall_rgK {m : Nat} {s0 : State} (x : CollCtx) (s : State) (hm : m &&& 18446744073709551359 = m) :
    RgK m s0 (tokensFall x s) ↔ RgK m s0 s := rgK_of 18446744073709551359 (by unfold tokensFall; (repeat' split) <;> simp) hm

@[simp] theorem dropHeld_rgK {m : Nat} {s0 : State} (n : Nat) (s : State) (hm : m &&& 18446744060824649727 = m) :
    RgK m s0 (dropHeld n s) ↔ RgK m s0 s := rgK_of 18446744060824649727 (by unfold dropHeld; (repeat' split) <;> simp) hm

@[simp] theorem completeColl_rgK {m : Nat} {s0 : State} (x : CollCtx) (s : State) (hm : m &&& 18446743785944645375 = m) :
    RgK m s0 (completeColl x s) ↔ RgK m s0 s := rgK_of 18446743785944645375 (by unfold completeColl; (repeat' split) <;> simp) hm

@[simp] theorem useHeld_rgK {m : Nat} {s0 : State} (x : CollCtx) (s : State) (hm : m &&& 18446743768764776447 = m) :
    RgK m s0 (useHeld x s) ↔ RgK m s0 s := rgK_of 18446743768764776447 (by unfold useHeld; (repeat' split) <;> simp) hm

@[simp] theorem enterStage_rgK {m : Nat} {s0 : State} (x : CollCtx) (stage : Nat) (s : State) (hm : m &&& 18446743768764776447 = m) :
    RgK m s0 (enterStage x stage s) ↔ RgK m s0 s := rgK_of 18446743768764776447 (by unfold enterStage; (repeat' split) <;> simp) hm

@[simp] theorem afterReduce_rgK {m : Nat} {s0 : State} (x : CollCtx) (s : State) (hm : m &&& 18446743768764776191 = m) :
    RgK m s0 (afterReduce x s) ↔ RgK m s0 s := rgK_of 18446743768764776191 (by unfold afterReduce; (repeat' split) <;> simp) hm

@[simp] theorem nextStage_rgK {m : Nat} {s0 : State} (x : CollCtx) (s : State) (hm : m &&& 18446743768764776191 = m) :
    RgK m s0 (nextStage x s) ↔ RgK m s0 s := rgK_of 18446743768764776191 (by unfold nextStage; (repeat' split) <;> simp) hm

@[simp] theorem advanceColl_rgK {m : Nat} {s0 : State} (x : CollCtx) (n : Nat) (s : State) (hm : m &&& 18446743768764776191 = m) :
    RgK m s0 (advanceColl x n s) ↔ RgK m s0 s := rgK_of 18446743768764776191 (by
  induction n generalizing s with
  | zero => simp [advanceColl]
  | succ n ih =>
    unfold advanceColl
    extract_lets r
    have h1 : RgK 18446743768764776191 s (nextStage x s) := by simp
    split
    · exact h1.trans (ih _)
    · simp) hm

@[simp] theorem noteDigest_rgK {m : Nat} {s0 : State} (x : CollCtx) (s : State) :
    RgK m s0 (noteDigest x s) ↔ RgK m s0 s := rgK_of m (by exact rgK_of_regs (Keeps.regs ((noteDigest_keeps (m := 1048511) (s0 := s) x s (by decide)).mpr (Keeps.refl _ _)) (by decide))) (Nat.and_self m)

@[simp] theorem checkSource_rgK {m : Nat} {s0 : State} (x : CollCtx) (s : State) (hm : m &&& 18446743781651775471 = m) :
    RgK m s0 (checkSource x s) ↔ RgK m s0 s := rgK_of 18446743781651775471 (by unfold checkSource; (repeat' split) <;> simp) hm

@[simp] theorem freshRun_rgK {m : Nat} {s0 : State} (n : Nat) (s : State) :
    RgK m s0 (freshRun n s) ↔ RgK m s0 s := rgK_of m (by exact rgK_of_regs (Keeps.regs ((freshRun_keeps (m := 1032191) (s0 := s) n s (by decide)).mpr (Keeps.refl _ _)) (by decide))) (Nat.and_self m)

@[simp] theorem runColl_rgK {m : Nat} {s0 : State} (x : CollCtx) (s : State) (hm : m &&& 18446743768764776175 = m) :
    RgK m s0 (runColl x s) ↔ RgK m s0 s := rgK_of 18446743768764776175 (by unfold runColl; (repeat' split) <;> simp) hm

@[simp] theorem finishPraline_rgK {m : Nat} {s0 : State} (x : CollCtx) (s : State) (hm : m &&& 18446743768764776191 = m) :
    RgK m s0 (finishPraline x s) ↔ RgK m s0 s := rgK_of 18446743768764776191 (by unfold finishPraline; (repeat' split) <;> simp) hm

@[simp] theorem finishPralines_rgK {m : Nat} {s0 : State} (sc : Score) (s : State) (hm : m &&& 18446743768764776191 = m) :
    RgK m s0 (finishPralines sc s) ↔ RgK m s0 s := rgK_of 18446743768764776191 (by unfold finishPralines; repeat' (first | (simp; done) | split | (apply rgK_foldl <;> intros))) hm

@[simp] theorem startColl_rgK {m : Nat} {s0 : State} (x : CollCtx) (s : State) (hm : m &&& 18446743768764776175 = m) :
    RgK m s0 (startColl x s) ↔ RgK m s0 s := rgK_of 18446743768764776175 (by unfold startColl; (repeat' split) <;> simp) hm

@[simp] theorem chunkNow_rgK {m : Nat} {s0 : State} (sc : Score) (h1 : HeldChunk) (s : State) (hm : m &&& 18446743768764776175 = m) :
    RgK m s0 (chunkNow sc h1 s) ↔ RgK m s0 s := rgK_of 18446743768764776175 (by unfold chunkNow; dsimp only; (repeat' split) <;> simp [*]) hm

@[simp] theorem takeChunk_rgK {m : Nat} {s0 : State} (tagGood : Bool) (c : Chunk) (s : State) (hm : m &&& 18446743768764776175 = m) :
    RgK m s0 (takeChunk tagGood c s) ↔ RgK m s0 s := rgK_of 18446743768764776175 (by unfold takeChunk; (repeat' split) <;> simp) hm

@[simp] theorem takeEarly_rgK {m : Nat} {s0 : State} (s : State) (hm : m &&& 18446743768764776175 = m) :
    RgK m s0 (takeEarly s) ↔ RgK m s0 s := rgK_of 18446743768764776175 (by unfold takeEarly; repeat' (first | (simp; done) | split | (apply rgK_foldl <;> intros))) hm

@[simp] theorem reviewColl_rgK {m : Nat} {s0 : State} (x : CollCtx) (s : State) (hm : m &&& 18446743768764776191 = m) :
    RgK m s0 (reviewColl x s) ↔ RgK m s0 s := rgK_of 18446743768764776191 (by unfold reviewColl; (repeat' split) <;> simp) hm

@[simp] theorem reviewColls_rgK {m : Nat} {s0 : State} (s : State) (hm : m &&& 18446743768764776191 = m) :
    RgK m s0 (reviewColls s) ↔ RgK m s0 s := rgK_of 18446743768764776191 (by
  refine (onScore_rgK _ _ ?_).mpr (RgK.refl _ _)
  intro sc u
  refine rgK_foldl _ ?_ _ _ _ (RgK.refl _ _)
  intro v e
  (repeat' split) <;> simp) hm

@[simp] theorem pushHistory_rgK {m : Nat} {s0 : State} (lrec : Bytes) (s : State) (hm : m &&& 17870283321406128127 = m) :
    RgK m s0 (pushHistory lrec s) ↔ RgK m s0 s := rgK_of 17870283321406128127 (by
  unfold pushHistory
  induction List.range 64 with
  | nil => simp
  | cons a t ih => simp only [List.foldr_cons]; exact (withRg_rgK_C001 (by decide)).mpr ih) hm

@[simp] theorem reportLoss_rgK {m : Nat} {s0 : State} (sc : Score) (s : State) (hm : m &&& 17582052928074547183 = m) :
    RgK m s0 (reportLoss sc s) ↔ RgK m s0 s := rgK_of 17582052928074547183 (by unfold reportLoss; (repeat' split) <;> simp) hm

@[simp] theorem holdAtEnd_rgK {m : Nat} {s0 : State} (s : State) :
    RgK m s0 (holdAtEnd s) ↔ RgK m s0 s := rgK_of m (by exact rgK_of_regs (Keeps.regs ((holdAtEnd_keeps (m := 1048511) (s0 := s) s (by decide)).mpr (Keeps.refl _ _)) (by decide))) (Nat.and_self m)

@[simp] theorem scaleStep_rgK {m : Nat} {s0 : State} (v : Verdict) (s : State) (hm : m &&& 17293822551922835439 = m) :
    RgK m s0 (scaleStep v s) ↔ RgK m s0 s := rgK_of 17293822551922835439 (by unfold scaleStep; (repeat' split) <;> simp) hm

@[simp] theorem applyOutcome_rgK {m : Nat} {s0 : State} (sc : Score) (s : State) (hm : m &&& 16429131423467700207 = m) :
    RgK m s0 (applyOutcome sc s) ↔ RgK m s0 s := rgK_of 16429131423467700207 (by unfold applyOutcome; dsimp only; (repeat' split) <;> simp [*]) hm

@[simp] theorem releaseHeld_rgK {m : Nat} {s0 : State} (accept : Bool) (sc : Score) (s : State) (hm : m &&& 16429122627374677999 = m) :
    RgK m s0 (releaseHeld accept sc s) ↔ RgK m s0 s := rgK_of 16429122627374677999 (by unfold releaseHeld; dsimp only; (repeat' split) <;> simp [*]) hm

@[simp] theorem captureIndicators_rgK {m : Nat} {s0 : State} (sc : Score) (s : State) (hm : m &&& 18446744073709551615 = m) :
    RgK m s0 (captureIndicators sc s).2 ↔ RgK m s0 s := rgK_of 18446744073709551615 (by unfold captureIndicators; simp) hm

@[simp] theorem forcedVoid_rgK {m : Nat} {s0 : State} (cause : W32) (s : State) (hm : m &&& 18446708872157593583 = m) :
    RgK m s0 (forcedVoid cause s) ↔ RgK m s0 s := rgK_of 18446708872157593583 (by unfold forcedVoid; (repeat' split) <;> simp) hm

@[simp] theorem contribute_rgK {m : Nat} {s0 : State} (sc : Score) (s : State) (hm : m &&& 18446743768766873599 = m) :
    RgK m s0 (contribute sc s) ↔ RgK m s0 s := rgK_of 18446743768766873599 (by unfold contribute; (repeat' split) <;> simp) hm

@[simp] theorem settlePair_rgK {m : Nat} {s0 : State} (sc : Score) (partner : Nat) (digest : Nat) (s : State) (hm : m &&& 18446690992208740335 = m) :
    RgK m s0 (settlePair sc partner digest s) ↔ RgK m s0 s := rgK_of 18446690992208740335 (by unfold settlePair; (repeat' split) <;> simp) hm

@[simp] theorem holdCommit_rgK {m : Nat} {s0 : State} (s : State) (hm : m &&& 18446735277616529407 = m) :
    RgK m s0 (holdCommit s) ↔ RgK m s0 s := rgK_of 18446735277616529407 (by unfold holdCommit; (repeat' split) <;> simp) hm

@[simp] theorem verdictPoint_rgK {m : Nat} {s0 : State} (sc : Score) (s : State) (hm : m &&& 18446682196115718127 = m) :
    RgK m s0 (verdictPoint sc s) ↔ RgK m s0 s := rgK_of 18446682196115718127 (by unfold verdictPoint; dsimp only; (repeat' split) <;> simp [*]) hm

@[simp] theorem takePairDigest_rgK {m : Nat} {s0 : State} (m0 : PairDigestMsg) (s : State) (hm : m &&& 18446690992208740335 = m) :
    RgK m s0 (takePairDigest m0 s) ↔ RgK m s0 s := rgK_of 18446690992208740335 (by unfold takePairDigest; (repeat' split) <;> simp) hm

@[simp] theorem replayReduce_rgK {m : Nat} {s0 : State} (sc : Score) (s : State) (hm : m &&& 17293822264157929199 = m) :
    RgK m s0 (replayReduce sc s) ↔ RgK m s0 s := rgK_of 17293822264157929199 (by unfold replayReduce; repeat' (first | (simp; done) | split | (apply rgK_foldl <;> intros))) hm

@[simp] theorem establishPoint_rgK {m : Nat} {s0 : State} (s : State) (hm : m &&& 18446708339581648895 = m) :
    RgK m s0 (establishPoint s) ↔ RgK m s0 s := rgK_of 18446708339581648895 (by unfold establishPoint; (repeat' split) <;> simp) hm

@[simp] theorem proofReplay_rgK {m : Nat} {s0 : State} (sc : Score) (s : State) (hm : m &&& 16429083044956078063 = m) :
    RgK m s0 (proofReplay sc s) ↔ RgK m s0 s := rgK_of 16429083044956078063 (by unfold proofReplay; dsimp only; (repeat' split) <;> simp [*]) hm

@[simp] theorem dropStale_rgK {m : Nat} {s0 : State} (s : State) (hm : m &&& 18446744060824649727 = m) :
    RgK m s0 (dropStale s) ↔ RgK m s0 s := rgK_of 18446744060824649727 (by unfold dropStale; (repeat' split) <;> simp) hm

@[simp] theorem decideVerdict_rgK {m : Nat} {s0 : State} (sc : Score) (w : W64) (s : State) (hm : m &&& 16429082757191171823 = m) :
    RgK m s0 (decideVerdict sc w s) ↔ RgK m s0 s := rgK_of 16429082757191171823 (by unfold decideVerdict; (repeat' split) <;> simp) hm

@[simp] theorem completeVerdict_rgK {m : Nat} {s0 : State} (sc : Score) (w : W64) (s : State) (hm : m &&& 18446743798831644415 = m) :
    RgK m s0 (completeVerdict sc w s) ↔ RgK m s0 s := rgK_of 18446743798831644415 (by unfold completeVerdict; dsimp only; (repeat' split) <;> simp [*]) hm

@[simp] theorem secureWrite_rgK {m : Nat} {s0 : State} (m0 : RemoteMsg) (holder : Nat) (blocks : List (Nat × Bytes)) (s : State) (hm : m &&& 18446708876452560895 = m) :
    RgK m s0 (secureWrite m0 holder blocks s) ↔ RgK m s0 s := rgK_of 18446708876452560895 (by unfold secureWrite; (repeat' split) <;> simp) hm

@[simp] theorem secureRegion_rgK {m : Nat} {s0 : State} (sc : Score) (s : State) (r : Nat × Nat × Nat × Nat) (hm : m &&& 18446708859270594543 = m) :
    RgK m s0 (secureRegion sc s r) ↔ RgK m s0 s := rgK_of 18446708859270594543 (by unfold secureRegion; repeat' (first | (simp; done) | split | (apply rgK_foldl <;> intros))) hm

@[simp] theorem secureTheRecord_rgK {m : Nat} {s0 : State} (sc : Score) (s : State) (hm : m &&& 18446708876452560895 = m) :
    RgK m s0 (secureTheRecord sc s) ↔ RgK m s0 s := rgK_of 18446708876452560895 (by unfold secureTheRecord; (repeat' split) <;> simp) hm

@[simp] theorem dropAs_rgK {m : Nat} {s0 : State} (st : LaneState) (tx : Bool) (p : Nat) (c : Nat) (s : State) (hm : m &&& 18446744056529682415 = m) :
    RgK m s0 (dropAs st tx p c s) ↔ RgK m s0 s := rgK_of 18446744056529682415 (by unfold dropAs; (repeat' split) <;> simp) hm

@[simp] theorem dropLane_rgK {m : Nat} {s0 : State} (tx : Bool) (p : Nat) (c : Nat) (s : State) (hm : m &&& 18446744056529682415 = m) :
    RgK m s0 (dropLane tx p c s) ↔ RgK m s0 s := rgK_of 18446744056529682415 (by unfold dropLane; (repeat' split) <;> simp) hm

@[simp] theorem beginSearch_rgK {m : Nat} {s0 : State} (tx : Bool) (p : Nat) (c : Nat) (lost : Bool) (s : State) (hm : m &&& 18446744056529682415 = m) :
    RgK m s0 (beginSearch tx p c lost s) ↔ RgK m s0 s := rgK_of 18446744056529682415 (by unfold beginSearch; (repeat' split) <;> simp) hm

@[simp] theorem failRing_rgK {m : Nat} {s0 : State} (tx : Bool) (p : Nat) (c : Nat) (s : State) (hm : m &&& 18446744056462573551 = m) :
    RgK m s0 (failRing tx p c s) ↔ RgK m s0 s := rgK_of 18446744056462573551 (by unfold failRing; (repeat' split) <;> simp) hm

@[simp] theorem rxIntoService_rgK {m : Nat} {s0 : State} (p : Nat) (c : Nat) (s : State) (hm : m &&& 18446744052234715135 = m) :
    RgK m s0 (rxIntoService p c s) ↔ RgK m s0 s := rgK_of 18446744052234715135 (by unfold rxIntoService; dsimp only; (repeat' split) <;> simp [*]) hm

@[simp] theorem reachable_rgK {m : Nat} {s0 : State} (p : Nat) (c : Nat) (s : State) :
    RgK m s0 (reachable p c s) ↔ RgK m s0 s := rgK_of m (by exact rgK_of_regs (Keeps.regs ((reachable_keeps (m := 1040383) (s0 := s) p c s (by decide)).mpr (Keeps.refl _ _)) (by decide))) (Nat.and_self m)

@[simp] theorem txIntoService_rgK {m : Nat} {s0 : State} (p : Nat) (c : Nat) (s : State) (hm : m &&& 18446744052234715135 = m) :
    RgK m s0 (txIntoService p c s) ↔ RgK m s0 s := rgK_of 18446744052234715135 (by unfold txIntoService; (repeat' split) <;> simp) hm

@[simp] theorem parkRings_rgK {m : Nat} {s0 : State} (tx : Bool) (p : Nat) (s : State) :
    RgK m s0 (parkRings tx p s) ↔ RgK m s0 s := rgK_of m (by exact rgK_of_regs (Keeps.regs ((parkRings_keeps (m := 1036287) (s0 := s) tx p s (by decide)).mpr (Keeps.refl _ _)) (by decide))) (Nat.and_self m)

@[simp] theorem sweepAnchor_rgK {m : Nat} {s0 : State} (tx : Bool) (p : Nat) (s : State) :
    RgK m s0 (sweepAnchor tx p s) ↔ RgK m s0 s := rgK_of m (by exact rgK_of_regs (Keeps.regs ((sweepAnchor_keeps (m := 1044479) (s0 := s) tx p s (by decide)).mpr (Keeps.refl _ _)) (by decide))) (Nat.and_self m)

@[simp] theorem setDataRings_rgK {m : Nat} {s0 : State} (tx : Bool) (p : Nat) (s : State) :
    RgK m s0 (setDataRings tx p s) ↔ RgK m s0 s := rgK_of m (by exact rgK_of_regs (Keeps.regs ((setDataRings_keeps (m := 1044479) (s0 := s) tx p s (by decide)).mpr (Keeps.refl _ _)) (by decide))) (Nat.and_self m)

@[simp] theorem portOn_rgK {m : Nat} {s0 : State} (p : Nat) (s : State) :
    RgK m s0 (portOn p s) ↔ RgK m s0 s := rgK_of m (by exact rgK_of_regs (Keeps.regs ((portOn_keeps (m := 1044479) (s0 := s) p s (by decide)).mpr (Keeps.refl _ _)) (by decide))) (Nat.and_self m)

@[simp] theorem lightLasers_rgK {m : Nat} {s0 : State} (which : Nat → Bool) (s : State) :
    RgK m s0 (lightLasers which s) ↔ RgK m s0 s := rgK_of m (by exact rgK_of_regs (Keeps.regs ((lightLasers_keeps (m := 1044479) (s0 := s) which s (by decide)).mpr (Keeps.refl _ _)) (by decide))) (Nat.and_self m)

@[simp] theorem lightAll_rgK {m : Nat} {s0 : State} (s : State) :
    RgK m s0 (lightAll s) ↔ RgK m s0 s := rgK_of m (by exact rgK_of_regs (Keeps.regs ((lightAll_keeps (m := 1044479) (s0 := s) s (by decide)).mpr (Keeps.refl _ _)) (by decide))) (Nat.and_self m)

@[simp] theorem txAnchorFound_rgK {m : Nat} {s0 : State} (p : Nat) (s : State) :
    RgK m s0 (txAnchorFound p s) ↔ RgK m s0 s := rgK_of m (by exact rgK_of_regs (Keeps.regs ((txAnchorFound_keeps (m := 1044479) (s0 := s) p s (by decide)).mpr (Keeps.refl _ _)) (by decide))) (Nat.and_self m)

@[simp] theorem rxAnchorFound_rgK {m : Nat} {s0 : State} (p : Nat) (s : State) :
    RgK m s0 (rxAnchorFound p s) ↔ RgK m s0 s := rgK_of m (by exact rgK_of_regs (Keeps.regs ((rxAnchorFound_keeps (m := 1044479) (s0 := s) p s (by decide)).mpr (Keeps.refl _ _)) (by decide))) (Nat.and_self m)

@[simp] theorem commissionPort_rgK {m : Nat} {s0 : State} (p : Nat) (s : State) :
    RgK m s0 (commissionPort p s) ↔ RgK m s0 s := rgK_of m (by exact rgK_of_regs (Keeps.regs ((commissionPort_keeps (m := 774143) (s0 := s) p s (by decide)).mpr (Keeps.refl _ _)) (by decide))) (Nat.and_self m)

@[simp] theorem commissionAll_rgK {m : Nat} {s0 : State} (s : State) :
    RgK m s0 (commissionAll s) ↔ RgK m s0 s := rgK_of m (by exact rgK_of_regs (Keeps.regs ((commissionAll_keeps (m := 774143) (s0 := s) s (by decide)).mpr (Keeps.refl _ _)) (by decide))) (Nat.and_self m)

@[simp] theorem recommissionRule_apply_rgK {m : Nat} {s0 : State} (value : Bytes) (s : State) (u0 : State) (hm : m &&& 18446744073709551615 = m) :
    RgK m s0 ((recommissionRule value s).apply u0) ↔ RgK m s0 u0 := rgK_of 18446744073709551615 (by unfold recommissionRule; (repeat' split) <;> simp) hm

@[simp] theorem recommissionRule_after_rgK {m : Nat} {s0 : State} (value : Bytes) (s : State) (u0 : State) (hm : m &&& 18446744073709551615 = m) :
    RgK m s0 ((recommissionRule value s).after u0) ↔ RgK m s0 u0 := rgK_of 18446744073709551615 (by unfold recommissionRule; (repeat' split) <;> simp) hm

@[simp] theorem recommissionRule_onReject_rgK {m : Nat} {s0 : State} (value : Bytes) (s : State) (u0 : State) (hm : m &&& 18446744073709551615 = m) :
    RgK m s0 ((recommissionRule value s).onReject u0) ↔ RgK m s0 u0 := rgK_of 18446744073709551615 (by unfold recommissionRule; (repeat' split) <;> simp) hm

@[simp] theorem plantEvent_rgK {m : Nat} {s0 : State} (p : Nat) (c : Nat) (s : State) (hm : m &&& 18446744056529682415 = m) :
    RgK m s0 (plantEvent p c s) ↔ RgK m s0 s := rgK_of 18446744056529682415 (by unfold plantEvent; (repeat' split) <;> simp) hm

@[simp] theorem plantVerdict_rgK {m : Nat} {s0 : State} (p : Nat) (c : Nat) (source : Nat) (s : State) (hm : m &&& 18446744056462573551 = m) :
    RgK m s0 (plantVerdict p c source s) ↔ RgK m s0 s := rgK_of 18446744056462573551 (by unfold plantVerdict; (repeat' split) <;> simp) hm

@[simp] theorem searchExhausted_rgK {m : Nat} {s0 : State} (tx : Bool) (p : Nat) (c : Nat) (s : State) (hm : m &&& 18446744056462573551 = m) :
    RgK m s0 (searchExhausted tx p c s) ↔ RgK m s0 s := rgK_of 18446744056462573551 (by unfold searchExhausted; (repeat' split) <;> simp) hm

@[simp] theorem rejectLine_rgK {m : Nat} {s0 : State} (tx : Bool) (p : Nat) (c : Nat) (s : State) (hm : m &&& 18446744056462573551 = m) :
    RgK m s0 (rejectLine tx p c s) ↔ RgK m s0 s := rgK_of 18446744056462573551 (by unfold rejectLine; (repeat' split) <;> simp) hm

@[simp] theorem mismatchVerdict_rgK {m : Nat} {s0 : State} (p : Nat) (c : Nat) (source : Nat) (sourcePort : Nat) (colour : Nat) (s : State) (hm : m &&& 18446744056462573551 = m) :
    RgK m s0 (mismatchVerdict p c source sourcePort colour s) ↔ RgK m s0 s := rgK_of 18446744056462573551 (by unfold mismatchVerdict; (repeat' split) <;> simp) hm

@[simp] theorem takeNotice_rgK {m : Nat} {s0 : State} (p : Nat) (source : Nat) (code : Nat) (colour : Nat) (s : State) (hm : m &&& 18446744052234715119 = m) :
    RgK m s0 (takeNotice p source code colour s) ↔ RgK m s0 s := rgK_of 18446744052234715119 (by unfold takeNotice; dsimp only; (repeat' split) <;> simp [*]) hm

@[simp] theorem takeLaneState_rgK {m : Nat} {s0 : State} (p : Nat) (c : Nat) (code : Nat) (s : State) :
    RgK m s0 (takeLaneState p c code s) ↔ RgK m s0 s := rgK_of m (by exact rgK_of_regs (Keeps.regs ((takeLaneState_keeps (m := 1044479) (s0 := s) p c code s (by decide)).mpr (Keeps.refl _ _)) (by decide))) (Nat.and_self m)

@[simp] theorem judgeFrame_rgK {m : Nat} {s0 : State} (p : Nat) (c : Nat) (f : FrameFields) (s : State) (hm : m &&& 18446744052167606255 = m) :
    RgK m s0 (judgeFrame p c f s) ↔ RgK m s0 s := rgK_of 18446744052167606255 (by unfold judgeFrame; (repeat' split) <;> simp) hm

@[simp] theorem failSpare_rgK {m : Nat} {s0 : State} (tx : Bool) (p : Nat) (s : State) (hm : m &&& 18446744056462573551 = m) :
    RgK m s0 (failSpare tx p s) ↔ RgK m s0 s := rgK_of 18446744056462573551 (by unfold failSpare; (repeat' split) <;> simp) hm

@[simp] theorem generationRule_apply_rgK {m : Nat} {s0 : State} (sub : Nat) (value : Bytes) (u0 : State) (hm : m &&& 18446744073675997183 = m) :
    RgK m s0 ((generationRule sub value).apply u0) ↔ RgK m s0 u0 := rgK_of 18446744073675997183 (by unfold generationRule; (repeat' split) <;> simp) hm

@[simp] theorem generationRule_after_rgK {m : Nat} {s0 : State} (sub : Nat) (value : Bytes) (u0 : State) (hm : m &&& 18446744073675997183 = m) :
    RgK m s0 ((generationRule sub value).after u0) ↔ RgK m s0 u0 := rgK_of 18446744073675997183 (by unfold generationRule; (repeat' split) <;> simp) hm

@[simp] theorem generationRule_onReject_rgK {m : Nat} {s0 : State} (sub : Nat) (value : Bytes) (u0 : State) (hm : m &&& 18446744073675997183 = m) :
    RgK m s0 ((generationRule sub value).onReject u0) ↔ RgK m s0 u0 := rgK_of 18446744073675997183 (by unfold generationRule; (repeat' split) <;> simp) hm

@[simp] theorem takeForSlot_rgK {m : Nat} {s0 : State} (p : Nat) (c : Nat) (s : State) :
    RgK m s0 (takeForSlot p c s) ↔ RgK m s0 s := rgK_of m (by exact rgK_of_regs (Keeps.regs ((takeForSlot_keeps (m := 1044477) (s0 := s) p c s (by decide)).mpr (Keeps.refl _ _)) (by decide))) (Nat.and_self m)

@[simp] theorem withLaser_rgK {m : Nat} {s0 : State} (n : Nat) (x : Laser) (s : State) :
    RgK m s0 (withLaser n x s) ↔ RgK m s0 s := rgK_of m (by exact rgK_of_regs (Keeps.regs ((withLaser_keeps (m := 1044479) (s0 := s) n x s (by decide)).mpr (Keeps.refl _ _)) (by decide))) (Nat.and_self m)

@[simp] theorem withSpareLaser_rgK {m : Nat} {s0 : State} (n : Nat) (x : SpareLaser) (s : State) :
    RgK m s0 (withSpareLaser n x s) ↔ RgK m s0 s := rgK_of m (by exact rgK_of_regs (Keeps.regs ((withSpareLaser_keeps (m := 1044479) (s0 := s) n x s (by decide)).mpr (Keeps.refl _ _)) (by decide))) (Nat.and_self m)

@[simp] theorem finishSwitch_rgK {m : Nat} {s0 : State} (w : Switchover) (s : State) (hm : m &&& 18446744056462573551 = m) :
    RgK m s0 (finishSwitch w s) ↔ RgK m s0 s := rgK_of 18446744056462573551 (by unfold finishSwitch; dsimp only; (repeat' split) <;> simp [*]) hm

@[simp] theorem switchPort_rgK {m : Nat} {s0 : State} (p : Nat) (laser : Nat) (s : State) (hm : m &&& 18446744056462573551 = m) :
    RgK m s0 (switchPort p laser s) ↔ RgK m s0 s := rgK_of 18446744056462573551 (by unfold switchPort; (repeat' split) <;> simp) hm

@[simp] theorem endSlotLane_rgK {m : Nat} {s0 : State} (p : Nat) (c : Nat) (back : Bool) (farOff : Bool) (s : State) (hm : m &&& 18446744052234715119 = m) :
    RgK m s0 (endSlotLane p c back farOff s) ↔ RgK m s0 s := rgK_of 18446744052234715119 (by unfold endSlotLane; (repeat' split) <;> simp) hm

@[simp] theorem noSpareLeft_rgK {m : Nat} {s0 : State} (laser : Nat) (s : State) (hm : m &&& 18446744056529682415 = m) :
    RgK m s0 (noSpareLeft laser s) ↔ RgK m s0 s := rgK_of 18446744056529682415 (by unfold noSpareLeft; (repeat' split) <;> simp) hm

@[simp] theorem dropGroup_rgK {m : Nat} {s0 : State} (laser : Nat) (s : State) (hm : m &&& 18446744056529682415 = m) :
    RgK m s0 (dropGroup laser s) ↔ RgK m s0 s := rgK_of 18446744056529682415 (by unfold dropGroup; (repeat' split) <;> simp) hm

@[simp] theorem needSpare_rgK {m : Nat} {s0 : State} (laser : Nat) (sudden : Bool) (s : State) (hm : m &&& 18446744056529682415 = m) :
    RgK m s0 (needSpare laser sudden s) ↔ RgK m s0 s := rgK_of 18446744056529682415 (by unfold needSpare; dsimp only; (repeat' split) <;> simp [*]) hm

@[simp] theorem judgePower_rgK {m : Nat} {s0 : State} (laser : Nat) (reading : Nat) (readings : List Nat) (s : State) (hm : m &&& 18446744056529682415 = m) :
    RgK m s0 (judgePower laser reading readings s) ↔ RgK m s0 s := rgK_of 18446744056529682415 (by unfold judgePower; (repeat' split) <;> simp) hm

@[simp] theorem portOut_rgK {m : Nat} {s0 : State} (s : State) (p : Nat) :
    RgK m s0 (portOut s p) ↔ RgK m s0 s := rgK_of m (by exact rgK_of_regs (Keeps.regs ((portOut_keeps (m := 1036285) (s0 := s) s p (by decide)).mpr (Keeps.refl _ _)) (by decide))) (Nat.and_self m)

@[simp] theorem lanesOut_rgK {m : Nat} {s0 : State} (s : State) :
    RgK m s0 (lanesOut s) ↔ RgK m s0 s := rgK_of m (by exact rgK_of_regs (Keeps.regs ((lanesOut_keeps (m := 1036285) (s0 := s) s (by decide)).mpr (Keeps.refl _ _)) (by decide))) (Nat.and_self m)

@[simp] theorem photonicsDoze_rgK {m : Nat} {s0 : State} (s : State) :
    RgK m s0 (photonicsDoze s) ↔ RgK m s0 s := rgK_of m (by exact rgK_of_regs (Keeps.regs ((photonicsDoze_keeps (m := 1044479) (s0 := s) s (by decide)).mpr (Keeps.refl _ _)) (by decide))) (Nat.and_self m)

@[simp] theorem photonicsWake_rgK {m : Nat} {s0 : State} (s : State) :
    RgK m s0 (photonicsWake s) ↔ RgK m s0 s := rgK_of m (by exact rgK_of_regs (Keeps.regs ((photonicsWake_keeps (m := 1044479) (s0 := s) s (by decide)).mpr (Keeps.refl _ _)) (by decide))) (Nat.and_self m)

@[simp] theorem photonicsDark_rgK {m : Nat} {s0 : State} (s : State) :
    RgK m s0 (photonicsDark s) ↔ RgK m s0 s := rgK_of m (by exact rgK_of_regs (Keeps.regs ((photonicsDark_keeps (m := 1036287) (s0 := s) s (by decide)).mpr (Keeps.refl _ _)) (by decide))) (Nat.and_self m)

@[simp] theorem settleStacks_rgK {m : Nat} {s0 : State} (s : State) :
    RgK m s0 (settleStacks s) ↔ RgK m s0 s := rgK_of m (by exact rgK_of_regs (Keeps.regs ((settleStacks_keeps (m := 1048063) (s0 := s) s (by decide)).mpr (Keeps.refl _ _)) (by decide))) (Nat.and_self m)

@[simp] theorem gateChange_rgK {m : Nat} {s0 : State} (before : State) (s : State) :
    RgK m s0 (gateChange before s) ↔ RgK m s0 s := rgK_of m (by exact rgK_of_regs (Keeps.regs ((gateChange_keeps (m := 1035773) (s0 := s) before s (by decide)).mpr (Keeps.refl _ _)) (by decide))) (Nat.and_self m)

@[simp] theorem takeIncrement_rgK {m : Nat} {s0 : State} (sc : Score) (s : State) (m2 : TokenMsg) (hm : m &&& 18446744073709551359 = m) :
    RgK m s0 (takeIncrement sc s m2) ↔ RgK m s0 s := rgK_of 18446744073709551359 (by unfold takeIncrement; (repeat' split) <;> simp) hm

@[simp] theorem startStep_rgK {m : Nat} {s0 : State} (sc : Score) (s : State) (hm : m &&& 18446743768764776047 = m) :
    RgK m s0 (startStep sc s) ↔ RgK m s0 s := rgK_of 18446743768764776047 (by unfold startStep; (repeat' split) <;> simp) hm

@[simp] theorem markLate_rgK {m : Nat} {s0 : State} (s : State) (hm : m &&& 17582052945254416383 = m) :
    RgK m s0 (markLate s) ↔ RgK m s0 s := rgK_of 17582052945254416383 (by unfold markLate; (repeat' split) <;> simp) hm

@[simp] theorem measureStep_rgK {m : Nat} {s0 : State} (sc : Score) (s : State) (hm : m &&& 18446744056529682159 = m) :
    RgK m s0 (measureStep sc s) ↔ RgK m s0 s := rgK_of 18446744056529682159 (by unfold measureStep; (repeat' split) <;> simp) hm

@[simp] theorem reportWatch_rgK {m : Nat} {s0 : State} (s : State) (hm : m &&& 16140901047315988463 = m) :
    RgK m s0 (reportWatch s) ↔ RgK m s0 s := rgK_of 16140901047315988463 (by unfold reportWatch; (repeat' split) <;> simp) hm

@[simp] theorem returnCores_rgK {m : Nat} {s0 : State} (s : State) :
    RgK m s0 (returnCores s) ↔ RgK m s0 s := rgK_of m (by exact rgK_of_regs (Keeps.regs ((returnCores_keeps (m := 523903) (s0 := s) s (by decide)).mpr (Keeps.refl _ _)) (by decide))) (Nat.and_self m)

@[simp] theorem askRepair_rgK {m : Nat} {s0 : State} (sc : Score) (t1 : Nat) (n : Nat) (stripe : Nat) (s : State) (hm : m &&& 18446744060824649727 = m) :
    RgK m s0 (askRepair sc t1 n stripe s) ↔ RgK m s0 s := rgK_of 18446744060824649727 (by unfold askRepair; (repeat' split) <;> simp) hm

@[simp] theorem askGathered_rgK {m : Nat} {s0 : State} (x : CollCtx) (s : State) (p : Nat × Nat) (hm : m &&& 18446744060824649727 = m) :
    RgK m s0 (askGathered x s p) ↔ RgK m s0 s := rgK_of 18446744060824649727 (by unfold askGathered; (repeat' split) <;> simp) hm

@[simp] theorem beginRepairs_rgK {m : Nat} {s0 : State} (sc : Score) (s : State) (hm : m &&& 18446744060824649727 = m) :
    RgK m s0 (beginRepairs sc s) ↔ RgK m s0 s := rgK_of 18446744060824649727 (by unfold beginRepairs; repeat' (first | (simp; done) | split | (apply rgK_foldl <;> intros))) hm

@[simp] theorem endStep_rgK {m : Nat} {s0 : State} (sc : Score) (s : State) (hm : m &&& 15276209905975918319 = m) :
    RgK m s0 (endStep sc s) ↔ RgK m s0 s := rgK_of 15276209905975918319 (by unfold endStep; (repeat' split) <;> simp) hm

@[simp] theorem takeBoundary_rgK {m : Nat} {s0 : State} (sc : Score) (s : State) (hm : m &&& 15276209905975918319 = m) :
    RgK m s0 (takeBoundary sc s) ↔ RgK m s0 s := rgK_of 15276209905975918319 (by unfold takeBoundary; (repeat' split) <;> simp) hm

@[simp] theorem endSession_rgK {m : Nat} {s0 : State} (n : Nat) (s : State) (hm : m &&& 13834917300613939183 = m) :
    RgK m s0 (endSession n s) ↔ RgK m s0 s := rgK_of 13834917300613939183 (by unfold endSession; (repeat' split) <;> simp) hm

@[simp] theorem clearExec_rgK {m : Nat} {s0 : State} (s : State) :
    RgK m s0 (clearExec s) ↔ RgK m s0 s := rgK_of m (by exact rgK_of_regs (Keeps.regs ((clearExec_keeps (m := 987071) (s0 := s) s (by decide)).mpr (Keeps.refl _ _)) (by decide))) (Nat.and_self m)

@[simp] theorem destroyKeys_rgK {m : Nat} {s0 : State} (s : State) :
    RgK m s0 (destroyKeys s) ↔ RgK m s0 s := rgK_of m (by exact rgK_of_regs (Keeps.regs ((destroyKeys_keeps (m := 909307) (s0 := s) s (by decide)).mpr (Keeps.refl _ _)) (by decide))) (Nat.and_self m)

@[simp] theorem forgetMemory_rgK {m : Nat} {s0 : State} (s : State) :
    RgK m s0 (forgetMemory s) ↔ RgK m s0 s := rgK_of m (by exact rgK_of_regs (Keeps.regs ((forgetMemory_keeps (m := 1048063) (s0 := s) s (by decide)).mpr (Keeps.refl _ _)) (by decide))) (Nat.and_self m)

@[simp] theorem closeSoon_rgK {m : Nat} {s0 : State} (s : State) :
    RgK m s0 (closeSoon s) ↔ RgK m s0 s := rgK_of m (by exact rgK_of_regs (Keeps.regs ((closeSoon_keeps (m := 983039) (s0 := s) s (by decide)).mpr (Keeps.refl _ _)) (by decide))) (Nat.and_self m)

@[simp] theorem holdNow_rgK {m : Nat} {s0 : State} (s : State) :
    RgK m s0 (holdNow s) ↔ RgK m s0 s := rgK_of m (by exact rgK_of_regs (Keeps.regs ((holdNow_keeps (m := 1048503) (s0 := s) s (by decide)).mpr (Keeps.refl _ _)) (by decide))) (Nat.and_self m)

@[simp] theorem releaseNow_rgK {m : Nat} {s0 : State} (s : State) (hm : m &&& 16429122627374677999 = m) :
    RgK m s0 (releaseNow s) ↔ RgK m s0 s := rgK_of 16429122627374677999 (by unfold releaseNow; (repeat' split) <;> simp) hm

@[simp] theorem joinNow_rgK {m : Nat} {s0 : State} (s : State) (hm : m &&& 18441958999105470461 = m) :
    RgK m s0 (joinNow s) ↔ RgK m s0 s := rgK_of 18441958999105470461 (by unfold joinNow; (repeat' split) <;> simp) hm

@[simp] theorem raiseMinimum_rgK {m : Nat} {s0 : State} (s : State) (hm : m &&& 13835058038102294511 = m) :
    RgK m s0 (raiseMinimum s) ↔ RgK m s0 s := rgK_of 13835058038102294511 (by unfold raiseMinimum; (repeat' split) <;> simp) hm

@[simp] theorem joinCommand_rgK {m : Nat} {s0 : State} (src : Nat) (dst : Nat) (msg : Nat) (s : State) (hm : m &&& 13830272963498213357 = m) :
    RgK m s0 (joinCommand src dst msg s) ↔ RgK m s0 s := rgK_of 13830272963498213357 (by unfold joinCommand; (repeat' split) <;> simp) hm

@[simp] theorem copyConstants_rgK {m : Nat} {s0 : State} (sc : Score) (s : State) (hm : m &&& 18446744056527585279 = m) :
    RgK m s0 (copyConstants sc s) ↔ RgK m s0 s := rgK_of 18446744056527585279 (by unfold copyConstants; (repeat' split) <;> simp) hm

@[simp] theorem deriveParcelKey_rgK {m : Nat} {s0 : State} (point : Nat) (s : State) :
    RgK m s0 (deriveParcelKey point s) ↔ RgK m s0 s := rgK_of m (by exact rgK_of_regs (Keeps.regs ((deriveParcelKey_keeps (m := 1040383) (s0 := s) point s (by decide)).mpr (Keeps.refl _ _)) (by decide))) (Nat.and_self m)

@[simp] theorem grantRule_apply_rgK {m : Nat} {s0 : State} (value : Bytes) (s : State) (u0 : State) (hm : m &&& 18446744073709551487 = m) :
    RgK m s0 ((grantRule value s).apply u0) ↔ RgK m s0 u0 := rgK_of 18446744073709551487 (by unfold grantRule; (repeat' split) <;> simp) hm

@[simp] theorem grantRule_after_rgK {m : Nat} {s0 : State} (value : Bytes) (s : State) (u0 : State) (hm : m &&& 18446744073709551487 = m) :
    RgK m s0 ((grantRule value s).after u0) ↔ RgK m s0 u0 := rgK_of 18446744073709551487 (by unfold grantRule; (repeat' split) <;> simp) hm

@[simp] theorem grantRule_onReject_rgK {m : Nat} {s0 : State} (value : Bytes) (s : State) (u0 : State) (hm : m &&& 18446744073709551487 = m) :
    RgK m s0 ((grantRule value s).onReject u0) ↔ RgK m s0 u0 := rgK_of 18446744073709551487 (by unfold grantRule; (repeat' split) <;> simp) hm

@[simp] theorem postRule_apply_rgK {m : Nat} {s0 : State} (value : Bytes) (s : State) (u0 : State) (hm : m &&& 18446744073709550591 = m) :
    RgK m s0 ((postRule value s).apply u0) ↔ RgK m s0 u0 := rgK_of 18446744073709550591 (by unfold postRule; (repeat' split) <;> simp) hm

@[simp] theorem postRule_after_rgK {m : Nat} {s0 : State} (value : Bytes) (s : State) (u0 : State) (hm : m &&& 18446744073709550591 = m) :
    RgK m s0 ((postRule value s).after u0) ↔ RgK m s0 u0 := rgK_of 18446744073709550591 (by unfold postRule; (repeat' split) <;> simp) hm

@[simp] theorem postRule_onReject_rgK {m : Nat} {s0 : State} (value : Bytes) (s : State) (u0 : State) (hm : m &&& 18446744073709550591 = m) :
    RgK m s0 ((postRule value s).onReject u0) ↔ RgK m s0 u0 := rgK_of 18446744073709550591 (by unfold postRule; (repeat' split) <;> simp) hm

@[simp] theorem takeHops_rgK {m : Nat} {s0 : State} (m0 : FrameMark) (s : State) (hm : m &&& 18442240474082181117 = m) :
    RgK m s0 (takeHops m0 s) ↔ RgK m s0 s := rgK_of 18442240474082181117 (by unfold takeHops; (repeat' split) <;> simp) hm

@[simp] theorem frameBoundary_rgK {m : Nat} {s0 : State} (s : State) (hm : m &&& 18439988674268495869 = m) :
    RgK m s0 (frameBoundary s) ↔ RgK m s0 s := rgK_of 18439988674268495869 (by unfold frameBoundary; dsimp only; (repeat' split) <;> simp [*]) hm

@[simp] theorem measureFrame_rgK {m : Nat} {s0 : State} (s : State) :
    RgK m s0 (measureFrame s) ↔ RgK m s0 s := rgK_of m (by exact rgK_of_regs (Keeps.regs ((measureFrame_keeps (m := 786431) (s0 := s) s (by decide)).mpr (Keeps.refl _ _)) (by decide))) (Nat.and_self m)

@[simp] theorem stepTimeForward_rgK {m : Nat} {s0 : State} (node : Nat) (s : State) :
    RgK m s0 (stepTimeForward node s) ↔ RgK m s0 s := rgK_of m (by exact rgK_of_regs (Keeps.regs ((stepTimeForward_keeps (m := 786431) (s0 := s) node s (by decide)).mpr (Keeps.refl _ _)) (by decide))) (Nat.and_self m)

@[simp] theorem report32_rgK {m : Nat} {s0 : State} (v : Int) (s : State) (hm : m &&& 18444492273895866367 = m) :
    RgK m s0 (report32 v s) ↔ RgK m s0 s := rgK_of 18444492273895866367 (by unfold report32; (repeat' split) <;> simp) hm

@[simp] theorem trimToMarks_rgK {m : Nat} {s0 : State} (node : Nat) (s : State) (hm : m &&& 18444492273895866367 = m) :
    RgK m s0 (trimToMarks node s) ↔ RgK m s0 s := rgK_of 18444492273895866367 (by unfold trimToMarks; (repeat' split) <;> simp) hm

@[simp] theorem readMark_rgK {m : Nat} {s0 : State} (m0 : FrameMark) (s : State) (hm : m &&& 18446744073709551609 = m) :
    RgK m s0 (readMark m0 s) ↔ RgK m s0 s := rgK_of 18446744073709551609 (by unfold readMark; dsimp only; (repeat' split) <;> simp [*]) hm

@[simp] theorem dropPart_rgK {m : Nat} {s0 : State} (src : Nat) (sess : Nat) (msg : Nat) (s : State) :
    RgK m s0 (dropPart src sess msg s) ↔ RgK m s0 s := rgK_of m (by exact rgK_of_regs (Keeps.regs ((dropPart_keeps (m := 983039) (s0 := s) src sess msg s (by decide)).mpr (Keeps.refl _ _)) (by decide))) (Nat.and_self m)

@[simp] theorem putPart_rgK {m : Nat} {s0 : State} (p : PartMsg) (s : State) :
    RgK m s0 (putPart p s) ↔ RgK m s0 s := rgK_of m (by exact rgK_of_regs (Keeps.regs ((putPart_keeps (m := 983039) (s0 := s) p s (by decide)).mpr (Keeps.refl _ _)) (by decide))) (Nat.and_self m)

@[simp] theorem putInbox_rgK {m : Nat} {s0 : State} (p : PartMsg) (s : State) :
    RgK m s0 (putInbox p s) ↔ RgK m s0 s := rgK_of m (by exact rgK_of_regs (Keeps.regs ((putInbox_keeps (m := 983039) (s0 := s) p s (by decide)).mpr (Keeps.refl _ _)) (by decide))) (Nat.and_self m)

@[simp] theorem takeMsg_rgK {m : Nat} {s0 : State} (typ : Nat) (sess : Nat) (s : State) :
    RgK m s0 (takeMsg typ sess s) ↔ RgK m s0 s := rgK_of m (by exact rgK_of_regs (Keeps.regs ((takeMsg_keeps (m := 983039) (s0 := s) typ sess s (by decide)).mpr (Keeps.refl _ _)) (by decide))) (Nat.and_self m)

@[simp] theorem protocolError_rgK {m : Nat} {s0 : State} (q : Req) (head : Bytes) (write : Bool) (code : Nat) (s : State) (hm : m &&& 13835058055282163707 = m) :
    RgK m s0 (protocolError q head write code s) ↔ RgK m s0 s := rgK_of 13835058055282163707 (by unfold protocolError; (repeat' split) <;> simp) hm

@[simp] theorem messageDone_rgK {m : Nat} {s0 : State} (p : PartMsg) (s : State) (hm : m &&& 13835058055282163707 = m) :
    RgK m s0 (messageDone p s) ↔ RgK m s0 s := rgK_of 13835058055282163707 (by unfold messageDone; (repeat' split) <;> simp) hm

@[simp] theorem takeSlot_rgK {m : Nat} {s0 : State} (x : Slot) (s : State) (hm : m &&& 13835058055282163707 = m) :
    RgK m s0 (takeSlot x s) ↔ RgK m s0 s := rgK_of 13835058055282163707 (by unfold takeSlot; (repeat' split) <;> simp) hm

@[simp] theorem slotLeft_rgK {m : Nat} {s0 : State} (m0 : OutMsg) (last : Bool) (s : State) :
    RgK m s0 (slotLeft m0 last s) ↔ RgK m s0 s := rgK_of m (by exact rgK_of_regs (Keeps.regs ((slotLeft_keeps (m := 917503) (s0 := s) m0 last s (by decide)).mpr (Keeps.refl _ _)) (by decide))) (Nat.and_self m)

@[simp] theorem fillSlot_rgK {m : Nat} {s0 : State} (x : Slot) (s : State) :
    RgK m s0 (fillSlot x s) ↔ RgK m s0 s := rgK_of m (by exact rgK_of_regs (Keeps.regs ((fillSlot_keeps (m := 851965) (s0 := s) x s (by decide)).mpr (Keeps.refl _ _)) (by decide))) (Nat.and_self m)

@[simp] theorem sendEvent_rgK {m : Nat} {s0 : State} (e : Event) (s : State) :
    RgK m s0 (sendEvent e s) ↔ RgK m s0 s := rgK_of m (by exact rgK_of_regs (Keeps.regs ((sendEvent_keeps (m := 983037) (s0 := s) e s (by decide)).mpr (Keeps.refl _ _)) (by decide))) (Nat.and_self m)

@[simp] theorem sendFirst_rgK {m : Nat} {s0 : State} (s : State) :
    RgK m s0 (sendFirst s) ↔ RgK m s0 s := rgK_of m (by exact rgK_of_regs (Keeps.regs ((sendFirst_keeps (m := 983037) (s0 := s) s (by decide)).mpr (Keeps.refl _ _)) (by decide))) (Nat.and_self m)

@[simp] theorem sendLost_rgK {m : Nat} {s0 : State} (k : Nat) (n : Nat) (s : State) (hm : m &&& 18446744056529682415 = m) :
    RgK m s0 (sendLost k n s) ↔ RgK m s0 s := rgK_of 18446744056529682415 (by unfold sendLost; dsimp only; (repeat' split) <;> simp [*]) hm

@[simp] theorem withChan_rgK {m : Nat} {s0 : State} (c : Nat) (x : BulkChan) (s : State) :
    RgK m s0 (withChan c x s) ↔ RgK m s0 s := rgK_of m (by exact rgK_of_regs (Keeps.regs ((withChan_keeps (m := 983039) (s0 := s) c x s (by decide)).mpr (Keeps.refl _ _)) (by decide))) (Nat.and_self m)

@[simp] theorem sendChanBlock_rgK {m : Nat} {s0 : State} (c : Nat) (x : BulkChan) (k : Nat) (s : State) (hm : m &&& 18446744073707454463 = m) :
    RgK m s0 (sendChanBlock c x k s) ↔ RgK m s0 s := rgK_of 18446744073707454463 (by unfold sendChanBlock; (repeat' split) <;> simp) hm

@[simp] theorem pumpChan_rgK {m : Nat} {s0 : State} (c : Nat) (n : Nat) (s : State) (hm : m &&& 18446744073707454463 = m) :
    RgK m s0 (pumpChan c n s) ↔ RgK m s0 s := rgK_of 18446744073707454463 (by
  induction n generalizing s with
  | zero => simp [pumpChan]
  | succ n ih => unfold pumpChan; repeat' (first | dsimp only | (simp; done) | (refine RgK.trans ?_ (ih _); simp; done) | split)) hm

@[simp] theorem pumpChans_rgK {m : Nat} {s0 : State} (s : State) (hm : m &&& 18446744073707454463 = m) :
    RgK m s0 (pumpChans s) ↔ RgK m s0 s := rgK_of 18446744073707454463 (by unfold pumpChans; (repeat' split) <;> simp) hm

@[simp] theorem noteStaged_rgK {m : Nat} {s0 : State} (x : BulkChan) (s : State) (hm : m &&& 18446744073709551551 = m) :
    RgK m s0 (noteStaged x s) ↔ RgK m s0 s := rgK_of 18446744073709551551 (by unfold noteStaged; (repeat' split) <;> simp) hm

@[simp] theorem bulkOpenRule_apply_rgK {m : Nat} {s0 : State} (q : Req) (value : Bytes) (s : State) (u0 : State) (hm : m &&& 18446744073707454399 = m) :
    RgK m s0 ((bulkOpenRule q value s).apply u0) ↔ RgK m s0 u0 := rgK_of 18446744073707454399 (by unfold bulkOpenRule; (repeat' split) <;> simp) hm

@[simp] theorem bulkOpenRule_after_rgK {m : Nat} {s0 : State} (q : Req) (value : Bytes) (s : State) (u0 : State) (hm : m &&& 18446744073707454399 = m) :
    RgK m s0 ((bulkOpenRule q value s).after u0) ↔ RgK m s0 u0 := rgK_of 18446744073707454399 (by unfold bulkOpenRule; (repeat' split) <;> simp) hm

@[simp] theorem bulkOpenRule_onReject_rgK {m : Nat} {s0 : State} (q : Req) (value : Bytes) (s : State) (u0 : State) (hm : m &&& 18446744073707454399 = m) :
    RgK m s0 ((bulkOpenRule q value s).onReject u0) ↔ RgK m s0 u0 := rgK_of 18446744073707454399 (by unfold bulkOpenRule; (repeat' split) <;> simp) hm

@[simp] theorem bulkCloseRule_apply_rgK {m : Nat} {s0 : State} (value : Bytes) (u0 : State) (hm : m &&& 18446744073709551615 = m) :
    RgK m s0 ((bulkCloseRule value).apply u0) ↔ RgK m s0 u0 := rgK_of 18446744073709551615 (by unfold bulkCloseRule; (repeat' split) <;> simp) hm

@[simp] theorem bulkCloseRule_after_rgK {m : Nat} {s0 : State} (value : Bytes) (u0 : State) (hm : m &&& 18446744073709551615 = m) :
    RgK m s0 ((bulkCloseRule value).after u0) ↔ RgK m s0 u0 := rgK_of 18446744073709551615 (by unfold bulkCloseRule; (repeat' split) <;> simp) hm

@[simp] theorem bulkCloseRule_onReject_rgK {m : Nat} {s0 : State} (value : Bytes) (u0 : State) (hm : m &&& 18446744073709551615 = m) :
    RgK m s0 ((bulkCloseRule value).onReject u0) ↔ RgK m s0 u0 := rgK_of 18446744073709551615 (by unfold bulkCloseRule; (repeat' split) <;> simp) hm

@[simp] theorem bulkReceived_rgK {m : Nat} {s0 : State} (b : Block) (s : State) :
    RgK m s0 (bulkReceived b s) ↔ RgK m s0 s := rgK_of m (by exact rgK_of_regs (Keeps.regs ((bulkReceived_keeps (m := 983037) (s0 := s) b s (by decide)).mpr (Keeps.refl _ _)) (by decide))) (Nat.and_self m)

@[simp] theorem chanResend_rgK {m : Nat} {s0 : State} (c : Nat) (k : Nat) (s : State) (hm : m &&& 18446744073707454463 = m) :
    RgK m s0 (chanResend c k s) ↔ RgK m s0 s := rgK_of 18446744073707454463 (by unfold chanResend; (repeat' split) <;> simp) hm

@[simp] theorem dropTransfer_rgK {m : Nat} {s0 : State} (t0 : Transfer) (s : State) :
    RgK m s0 (dropTransfer t0 s) ↔ RgK m s0 s := rgK_of m (by exact rgK_of_regs (Keeps.regs ((dropTransfer_keeps (m := 983039) (s0 := s) t0 s (by decide)).mpr (Keeps.refl _ _)) (by decide))) (Nat.and_self m)

@[simp] theorem putTransfer_rgK {m : Nat} {s0 : State} (t0 : Transfer) (s : State) :
    RgK m s0 (putTransfer t0 s) ↔ RgK m s0 s := rgK_of m (by exact rgK_of_regs (Keeps.regs ((putTransfer_keeps (m := 983039) (s0 := s) t0 s (by decide)).mpr (Keeps.refl _ _)) (by decide))) (Nat.and_self m)

@[simp] theorem pumpTransfer_rgK {m : Nat} {s0 : State} (sess : Nat) (msg : Nat) (a2 : Nat) (a3 : State) :
    RgK m s0 (pumpTransfer sess msg a2 a3) ↔ RgK m s0 a3 := rgK_of m (by exact rgK_of_regs (Keeps.regs ((pumpTransfer_keeps (m := 983037) (s0 := a3) sess msg a2 a3 (by decide)).mpr (Keeps.refl _ _)) (by decide))) (Nat.and_self m)

@[simp] theorem transferResend_rgK {m : Nat} {s0 : State} (t0 : Transfer) (k : Nat) (s : State) :
    RgK m s0 (transferResend t0 k s) ↔ RgK m s0 s := rgK_of m (by exact rgK_of_regs (Keeps.regs ((transferResend_keeps (m := 851965) (s0 := s) t0 k s (by decide)).mpr (Keeps.refl _ _)) (by decide))) (Nat.and_self m)

@[simp] theorem blockAcked_rgK {m : Nat} {s0 : State} (a : BlockAck) (s : State) (hm : m &&& 18446744073707454463 = m) :
    RgK m s0 (blockAcked a s) ↔ RgK m s0 s := rgK_of 18446744073707454463 (by unfold blockAcked; (repeat' split) <;> simp) hm

@[simp] theorem countRelief_rgK {m : Nat} {s0 : State} (half : Nat) (s : State) (hm : m &&& 13835058038102292463 = m) :
    RgK m s0 (countRelief half s) ↔ RgK m s0 s := rgK_of 13835058038102292463 (by unfold countRelief; (repeat' split) <;> simp) hm

@[simp] theorem rebind_rgK {m : Nat} {s0 : State} (half : Nat) (ps : List (Nat × Nat)) (s : State) :
    RgK m s0 (rebind half ps s) ↔ RgK m s0 s := rgK_of m (by exact rgK_of_regs (Keeps.regs ((rebind_keeps (m := 524031) (s0 := s) half ps s (by decide)).mpr (Keeps.refl _ _)) (by decide))) (Nat.and_self m)

@[simp] theorem retireCore_rgK {m : Nat} {s0 : State} (half : Nat) (core : Nat) (s : State) (hm : m &&& 13690802112538081231 = m) :
    RgK m s0 (retireCore half core s) ↔ RgK m s0 s := rgK_of 13690802112538081231 (by unfold retireCore; (repeat' split) <;> simp) hm

@[simp] theorem failCore_rgK {m : Nat} {s0 : State} (half : Nat) (core : Nat) (s : State) (hm : m &&& 13654773315519117263 = m) :
    RgK m s0 (failCore half core s) ↔ RgK m s0 s := rgK_of 13654773315519117263 (by unfold failCore; (repeat' split) <;> simp) hm

@[simp] theorem testSettingsRule_apply_rgK {m : Nat} {s0 : State} (sub : Nat) (value : Bytes) (u0 : State) (hm : m &&& 18428729675200069631 = m) :
    RgK m s0 ((testSettingsRule sub value).apply u0) ↔ RgK m s0 u0 := rgK_of 18428729675200069631 (by unfold testSettingsRule; (repeat' split) <;> simp) hm

@[simp] theorem testSettingsRule_after_rgK {m : Nat} {s0 : State} (sub : Nat) (value : Bytes) (u0 : State) (hm : m &&& 18428729675200069631 = m) :
    RgK m s0 ((testSettingsRule sub value).after u0) ↔ RgK m s0 u0 := rgK_of 18428729675200069631 (by unfold testSettingsRule; (repeat' split) <;> simp) hm

@[simp] theorem testSettingsRule_onReject_rgK {m : Nat} {s0 : State} (sub : Nat) (value : Bytes) (u0 : State) (hm : m &&& 18428729675200069631 = m) :
    RgK m s0 ((testSettingsRule sub value).onReject u0) ↔ RgK m s0 u0 := rgK_of 18428729675200069631 (by unfold testSettingsRule; (repeat' split) <;> simp) hm

@[simp] theorem beginTest_rgK {m : Nat} {s0 : State} (half : Nat) (core : Nat) (relief : Option Nat) (s : State) :
    RgK m s0 (beginTest half core relief s) ↔ RgK m s0 s := rgK_of m (by exact rgK_of_regs (Keeps.regs ((beginTest_keeps (m := 524159) (s0 := s) half core relief s (by decide)).mpr (Keeps.refl _ _)) (by decide))) (Nat.and_self m)

@[simp] theorem relieve_rgK {m : Nat} {s0 : State} (half : Nat) (core : Nat) (r : Nat) (s : State) :
    RgK m s0 (relieve half core r s) ↔ RgK m s0 s := rgK_of m (by exact rgK_of_regs (Keeps.regs ((relieve_keeps (m := 524159) (s0 := s) half core r s (by decide)).mpr (Keeps.refl _ _)) (by decide))) (Nat.and_self m)

@[simp] theorem forgetHalf_rgK {m : Nat} {s0 : State} (half : Nat) (s : State) :
    RgK m s0 (forgetHalf half s) ↔ RgK m s0 s := rgK_of m (by exact rgK_of_regs (Keeps.regs ((forgetHalf_keeps (m := 1048443) (s0 := s) half s (by decide)).mpr (Keeps.refl _ _)) (by decide))) (Nat.and_self m)

@[simp] theorem forgetShared_rgK {m : Nat} {s0 : State} (die : Nat) (s : State) :
    RgK m s0 (forgetShared die s) ↔ RgK m s0 s := rgK_of m (by exact rgK_of_regs (Keeps.regs ((forgetShared_keeps (m := 1048063) (s0 := s) die s (by decide)).mpr (Keeps.refl _ _)) (by decide))) (Nat.and_self m)

@[simp] theorem forgetCache_rgK {m : Nat} {s0 : State} (q : Nat) (s : State) :
    RgK m s0 (forgetCache q s) ↔ RgK m s0 s := rgK_of m (by exact rgK_of_regs (Keeps.regs ((forgetCache_keeps (m := 1048063) (s0 := s) q s (by decide)).mpr (Keeps.refl _ _)) (by decide))) (Nat.and_self m)

@[simp] theorem forgetStack_rgK {m : Nat} {s0 : State} (k : Nat) (s : State) :
    RgK m s0 (forgetStack k s) ↔ RgK m s0 s := rgK_of m (by exact rgK_of_regs (Keeps.regs ((forgetStack_keeps (m := 1048063) (s0 := s) k s (by decide)).mpr (Keeps.refl _ _)) (by decide))) (Nat.and_self m)

@[simp] theorem forgetTarget_rgK {m : Nat} {s0 : State} (kind : Nat) (target : Nat) (s : State) :
    RgK m s0 (forgetTarget kind target s) ↔ RgK m s0 s := rgK_of m (by exact rgK_of_regs (Keeps.regs ((forgetTarget_keeps (m := 1047931) (s0 := s) kind target s (by decide)).mpr (Keeps.refl _ _)) (by decide))) (Nat.and_self m)

@[simp] theorem selfTestRule_apply_rgK {m : Nat} {s0 : State} (value : Bytes) (s : State) (u0 : State) (hm : m &&& 18374686479671623679 = m) :
    RgK m s0 ((selfTestRule value s).apply u0) ↔ RgK m s0 u0 := rgK_of 18374686479671623679 (by unfold selfTestRule; (repeat' split) <;> simp) hm

@[simp] theorem selfTestRule_after_rgK {m : Nat} {s0 : State} (value : Bytes) (s : State) (u0 : State) (hm : m &&& 18374686479671623679 = m) :
    RgK m s0 ((selfTestRule value s).after u0) ↔ RgK m s0 u0 := rgK_of 18374686479671623679 (by unfold selfTestRule; (repeat' split) <;> simp) hm

@[simp] theorem selfTestRule_onReject_rgK {m : Nat} {s0 : State} (value : Bytes) (s : State) (u0 : State) (hm : m &&& 18374686479671623679 = m) :
    RgK m s0 ((selfTestRule value s).onReject u0) ↔ RgK m s0 u0 := rgK_of 18374686479671623679 (by unfold selfTestRule; (repeat' split) <;> simp) hm

@[simp] theorem selfTest_rgK {m : Nat} {s0 : State} (kind : Nat) (q : Req) (target : Nat) (reserved : Nat) (s : State) (hm : m &&& 13763000444064366571 = m) :
    RgK m s0 (selfTest kind q target reserved s) ↔ RgK m s0 s := rgK_of 13763000444064366571 (by unfold selfTest; (repeat' split) <;> simp) hm

@[simp] theorem endSelfTest_rgK {m : Nat} {s0 : State} (code : Nat) (s : State) (hm : m &&& 18374686479671623679 = m) :
    RgK m s0 (endSelfTest code s) ↔ RgK m s0 s := rgK_of 18374686479671623679 (by unfold endSelfTest; (repeat' split) <;> simp) hm

@[simp] theorem failSite_rgK {m : Nat} {s0 : State} (half : Nat) (s : State) (site : Nat) (hm : m &&& 13654773315519117263 = m) :
    RgK m s0 (failSite half s site) ↔ RgK m s0 s := rgK_of 13654773315519117263 (by unfold failSite; (repeat' split) <;> simp) hm

@[simp] theorem testPortRule_apply_rgK {m : Nat} {s0 : State} (value : Bytes) (s : State) (u0 : State) (hm : m &&& 18302628885633695743 = m) :
    RgK m s0 ((testPortRule value s).apply u0) ↔ RgK m s0 u0 := rgK_of 18302628885633695743 (by unfold testPortRule; dsimp only; (repeat' split) <;> simp [*]) hm

@[simp] theorem testPortRule_after_rgK {m : Nat} {s0 : State} (value : Bytes) (s : State) (u0 : State) (hm : m &&& 18302628885633695743 = m) :
    RgK m s0 ((testPortRule value s).after u0) ↔ RgK m s0 u0 := rgK_of 18302628885633695743 (by unfold testPortRule; dsimp only; (repeat' split) <;> simp [*]) hm

@[simp] theorem testPortRule_onReject_rgK {m : Nat} {s0 : State} (value : Bytes) (s : State) (u0 : State) (hm : m &&& 18302628885633695743 = m) :
    RgK m s0 ((testPortRule value s).onReject u0) ↔ RgK m s0 u0 := rgK_of 18302628885633695743 (by unfold testPortRule; dsimp only; (repeat' split) <;> simp [*]) hm

@[simp] theorem forgetDies_rgK {m : Nat} {s0 : State} (sel : BitVec 40) (s : State) :
    RgK m s0 (forgetDies sel s) ↔ RgK m s0 s := rgK_of m (by exact rgK_of_regs (Keeps.regs ((forgetDies_keeps (m := 1047931) (s0 := s) sel s (by decide)).mpr (Keeps.refl _ _)) (by decide))) (Nat.and_self m)

@[simp] theorem loadInstr_rgK {m : Nat} {s0 : State} (ir : BitVec 8) (intrusive : Bool) (s : State) :
    RgK m s0 (loadInstr ir intrusive s) ↔ RgK m s0 s := rgK_of m (by exact rgK_of_regs (Keeps.regs ((loadInstr_keeps (m := 523643) (s0 := s) ir intrusive s (by decide)).mpr (Keeps.refl _ _)) (by decide))) (Nat.and_self m)

@[simp] theorem stopArea1_rgK {m : Nat} {s0 : State} (s : State) (hm : m &&& 18446744073709027327 = m) :
    RgK m s0 (stopArea1 s) ↔ RgK m s0 s := rgK_of 18446744073709027327 (by unfold stopArea1; (repeat' split) <;> simp) hm

@[simp] theorem failFinish_rgK {m : Nat} {s0 : State} (n : Nat) (code : Nat) (s : State) (hm : m &&& 13835058055282163711 = m) :
    RgK m s0 (failFinish n code s) ↔ RgK m s0 s := rgK_of 13835058055282163711 (by unfold failFinish; (repeat' split) <;> simp) hm

@[simp] theorem establish_rgK {m : Nat} {s0 : State} (m0 : FinishMsg) (s : State) (hm : m &&& 13618814887243808751 = m) :
    RgK m s0 (establish m0 s) ↔ RgK m s0 s := rgK_of 13618814887243808751 (by unfold establish; dsimp only; (repeat' split) <;> simp [*]) hm

@[simp] theorem keyMessage_rgK {m : Nat} {s0 : State} (q : Req) (sub idx osub : Nat) (codes : List Nat) (kind : Nat)
    (keyed : Bool) (value : Bytes) (apply : State → State) (s : State) (hm : m &&& 13835058038102294507 = m) (h : ∀ u, RgK m u (apply u)) :
    RgK m s0 (keyMessage q sub idx osub codes kind keyed value apply s) ↔ RgK m s0 s := by
  have e1 : m &&& 18446744073709551611 = m := and_sub hm (by decide)
  have e2 : m &&& 18446744073709551615 = m := and_sub hm (by decide)
  have e3 : m &&& 18446744073709551615 = m := and_sub hm (by decide)
  have e4 : m &&& 18446744073709551615 = m := and_sub hm (by decide)
  have e5 : m &&& 13835058055282163711 = m := and_sub hm (by decide)
  refine rgK_of m ?_ (Nat.and_self m)
  have h1 : RgK m s (takeMsg 6 q.sess (fresh s)) := by simp [e1, e2, e3]
  have h2 : ∀ u, RgK m u (audit q.sess idx osub kind keyed value u) := fun u =>
    (audit_rgK q.sess idx osub kind keyed value u (and_sub hm (by decide))).mpr (RgK.refl m u)
  have h3 : ∀ o u, RgK m u (sendRing o u) := fun o u => (sendRing_rgK o u).mpr (RgK.refl m u)
  have h4 : ∀ o u, RgK m u (countReject o u) := fun o u => (countReject_rgK o u e5).mpr (RgK.refl m u)
  unfold keyMessage
  dsimp only
  split
  · exact h1
  · split
    · exact h1.trans (by simp [e1])
    · split
      · exact h1.trans ((h4 _ _).trans (h3 _ _))
      · exact h1.trans ((h _).trans ((h2 _).trans (h3 _ _)))

@[simp] theorem eraseRange_rgK {m : Nat} {s0 : State} (a : Nat) (n : Nat) (s : State) :
    RgK m s0 (eraseRange a n s) ↔ RgK m s0 s := rgK_of m (by exact rgK_of_regs (Keeps.regs ((eraseRange_keeps (m := 1048063) (s0 := s) a n s (by decide)).mpr (Keeps.refl _ _)) (by decide))) (Nat.and_self m)

@[simp] theorem removeRegion_rgK {m : Nat} {s0 : State} (num : Nat) (s : State) :
    RgK m s0 (removeRegion num s) ↔ RgK m s0 s := rgK_of m (by exact rgK_of_regs (Keeps.regs ((removeRegion_keeps (m := 916991) (s0 := s) num s (by decide)).mpr (Keeps.refl _ _)) (by decide))) (Nat.and_self m)

@[simp] theorem installRegion_rgK {m : Nat} {s0 : State} (num : Nat) (base : Nat) (length : Nat) (key : BitVec 512) (s : State) :
    RgK m s0 (installRegion num base length key s) ↔ RgK m s0 s := rgK_of m (by exact rgK_of_regs (Keeps.regs ((installRegion_keeps (m := 916991) (s0 := s) num base length key s (by decide)).mpr (Keeps.refl _ _)) (by decide))) (Nat.and_self m)

@[simp] theorem firmwareRule_apply_rgK {m : Nat} {s0 : State} (q : Req) (s : State) (u0 : State) (hm : m &&& 18446603336221196287 = m) :
    RgK m s0 ((firmwareRule q s).apply u0) ↔ RgK m s0 u0 := rgK_of 18446603336221196287 (by unfold firmwareRule; (repeat' split) <;> simp) hm

@[simp] theorem firmwareRule_after_rgK {m : Nat} {s0 : State} (q : Req) (s : State) (u0 : State) (hm : m &&& 18446603336221196287 = m) :
    RgK m s0 ((firmwareRule q s).after u0) ↔ RgK m s0 u0 := rgK_of 18446603336221196287 (by unfold firmwareRule; (repeat' split) <;> simp) hm

@[simp] theorem firmwareRule_onReject_rgK {m : Nat} {s0 : State} (q : Req) (s : State) (u0 : State) (hm : m &&& 18446603336221196287 = m) :
    RgK m s0 ((firmwareRule q s).onReject u0) ↔ RgK m s0 u0 := rgK_of 18446603336221196287 (by unfold firmwareRule; (repeat' split) <;> simp) hm

@[simp] theorem failUpdate_rgK {m : Nat} {s0 : State} (code : Nat) (s : State) (hm : m &&& 13834917317793808383 = m) :
    RgK m s0 (failUpdate code s) ↔ RgK m s0 s := rgK_of 13834917317793808383 (by unfold failUpdate; (repeat' split) <;> simp) hm

@[simp] theorem replaceImage_rgK {m : Nat} {s0 : State} (p : PendWrite) (img : FwImage) (s : State) (hm : m &&& 13834917300613939183 = m) :
    RgK m s0 (replaceImage p img s) ↔ RgK m s0 s := rgK_of 13834917300613939183 (by unfold replaceImage; (repeat' split) <;> simp) hm

@[simp] theorem stowNow_rgK {m : Nat} {s0 : State} (s : State) (hm : m &&& 18446744073708896191 = m) :
    RgK m s0 (stowNow s) ↔ RgK m s0 s := rgK_of 18446744073708896191 (by
  have h1 : RgK 18446744073708896191 s (photonicsDark (stopGenerator s)) := by simp
  have h2 : RgK 18446744073708896191 (photonicsDark (stopGenerator s))
      (withRg 0x2010 1 0 (withRg 0x4000 4 0 (photonicsDark (stopGenerator s)))) := by simp
  have e : (stowNow s).regs = (withRg 0x2010 1 0 (withRg 0x4000 4 0 (photonicsDark (stopGenerator s)))).regs := by
    unfold stowNow
    dsimp only
  exact (h1.trans h2).trans (rgK_of_regs e)) hm

@[simp] theorem leaveStow_rgK {m : Nat} {s0 : State} (s : State) :
    RgK m s0 (leaveStow s) ↔ RgK m s0 s := rgK_of m (by exact rgK_of_regs (Keeps.regs ((leaveStow_keeps (m := 772479) (s0 := s) s (by decide)).mpr (Keeps.refl _ _)) (by decide))) (Nat.and_self m)

@[simp] theorem settleOptics_rgK {m : Nat} {s0 : State} (s : State) :
    RgK m s0 (settleOptics s) ↔ RgK m s0 s := rgK_of m (by exact rgK_of_regs (Keeps.regs ((settleOptics_keeps (m := 1036285) (s0 := s) s (by decide)).mpr (Keeps.refl _ _)) (by decide))) (Nat.and_self m)

@[simp] theorem powerDone_rgK {m : Nat} {s0 : State} (s : State) (hm : m &&& 13834495088148873199 = m) :
    RgK m s0 (powerDone s) ↔ RgK m s0 s := rgK_of 13834495088148873199 (by unfold powerDone; (repeat' split) <;> simp) hm

@[simp] theorem requestPower_rgK {m : Nat} {s0 : State} (v : Nat) (s : State) (hm : m &&& 13834495088148217775 = m) :
    RgK m s0 (requestPower v s) ↔ RgK m s0 s := rgK_of 13834495088148217775 (by unfold requestPower; (repeat' split) <;> simp) hm

@[simp] theorem powerRule_apply_rgK {m : Nat} {s0 : State} (q : Req) (value : Bytes) (s : State) (u0 : State) (hm : m &&& 13834495088148217775 = m) :
    RgK m s0 ((powerRule q value s).apply u0) ↔ RgK m s0 u0 := rgK_of 13834495088148217775 (by unfold powerRule; (repeat' split) <;> simp) hm

@[simp] theorem powerRule_after_rgK {m : Nat} {s0 : State} (q : Req) (value : Bytes) (s : State) (u0 : State) (hm : m &&& 13834495088148217775 = m) :
    RgK m s0 ((powerRule q value s).after u0) ↔ RgK m s0 u0 := rgK_of 13834495088148217775 (by unfold powerRule; (repeat' split) <;> simp) hm

@[simp] theorem powerRule_onReject_rgK {m : Nat} {s0 : State} (q : Req) (value : Bytes) (s : State) (u0 : State) (hm : m &&& 13834495088148217775 = m) :
    RgK m s0 ((powerRule q value s).onReject u0) ↔ RgK m s0 u0 := rgK_of 13834495088148217775 (by unfold powerRule; (repeat' split) <;> simp) hm

@[simp] theorem intoHush_rgK {m : Nat} {s0 : State} (s : State) (hm : m &&& 18446744073707454463 = m) :
    RgK m s0 (intoHush s) ↔ RgK m s0 s := rgK_of 18446744073707454463 (by unfold intoHush; (repeat' split) <;> simp) hm

@[simp] theorem downTo_rgK {m : Nat} {s0 : State} (s : State) (hm : m &&& 18446744073706799039 = m) :
    RgK m s0 (downTo s) ↔ RgK m s0 s := rgK_of 18446744073706799039 (by unfold downTo; (repeat' split) <;> simp) hm

@[simp] theorem upTo_rgK {m : Nat} {s0 : State} (s : State) :
    RgK m s0 (upTo s) ↔ RgK m s0 s := rgK_of m (by exact rgK_of_regs (Keeps.regs ((upTo_keeps (m := 773629) (s0 := s) s (by decide)).mpr (Keeps.refl _ _)) (by decide))) (Nat.and_self m)

@[simp] theorem enableRule_apply_rgK {m : Nat} {s0 : State} (sub : Nat) (value : Bytes) (u0 : State) (hm : m &&& 18445618173802708991 = m) :
    RgK m s0 ((enableRule sub value).apply u0) ↔ RgK m s0 u0 := rgK_of 18445618173802708991 (by unfold enableRule; (repeat' split) <;> simp) hm

@[simp] theorem enableRule_after_rgK {m : Nat} {s0 : State} (sub : Nat) (value : Bytes) (u0 : State) (hm : m &&& 18445618173802708991 = m) :
    RgK m s0 ((enableRule sub value).after u0) ↔ RgK m s0 u0 := rgK_of 18445618173802708991 (by unfold enableRule; (repeat' split) <;> simp) hm

@[simp] theorem enableRule_onReject_rgK {m : Nat} {s0 : State} (sub : Nat) (value : Bytes) (u0 : State) (hm : m &&& 18445618173802708991 = m) :
    RgK m s0 ((enableRule sub value).onReject u0) ↔ RgK m s0 u0 := rgK_of 18445618173802708991 (by unfold enableRule; (repeat' split) <;> simp) hm

@[simp] theorem pllRule_apply_rgK {m : Nat} {s0 : State} (sub : Nat) (value : Bytes) (u0 : State) (hm : m &&& 18442240474082181119 = m) :
    RgK m s0 ((pllRule sub value).apply u0) ↔ RgK m s0 u0 := rgK_of 18442240474082181119 (by unfold pllRule; (repeat' split) <;> simp) hm

@[simp] theorem pllRule_after_rgK {m : Nat} {s0 : State} (sub : Nat) (value : Bytes) (u0 : State) (hm : m &&& 18442240474082181119 = m) :
    RgK m s0 ((pllRule sub value).after u0) ↔ RgK m s0 u0 := rgK_of 18442240474082181119 (by unfold pllRule; (repeat' split) <;> simp) hm

@[simp] theorem pllRule_onReject_rgK {m : Nat} {s0 : State} (sub : Nat) (value : Bytes) (u0 : State) (hm : m &&& 18442240474082181119 = m) :
    RgK m s0 ((pllRule sub value).onReject u0) ↔ RgK m s0 u0 := rgK_of 18442240474082181119 (by unfold pllRule; (repeat' split) <;> simp) hm

@[simp] theorem supplyFault_rgK {m : Nat} {s0 : State} (s : State) (hm : m &&& 13690802112537427855 = m) :
    RgK m s0 (supplyFault s) ↔ RgK m s0 s := rgK_of 13690802112537427855 (by unfold supplyFault; (repeat' split) <;> simp) hm

@[simp] theorem report_rgK {m : Nat} {s0 : State} (m0 : Limits) (s : State) (hm : m &&& 18437736874320592895 = m) :
    RgK m s0 (report m0 s) ↔ RgK m s0 s := rgK_of 18437736874320592895 (by unfold report; (repeat' split) <;> simp) hm

@[simp] theorem readStage_rgK {m : Nat} {s0 : State} (st : PmStatus) (s : State) (hm : m &&& 13690802112537427855 = m) :
    RgK m s0 (readStage st s) ↔ RgK m s0 s := rgK_of 13690802112537427855 (by unfold readStage; (repeat' split) <;> simp) hm

@[simp] theorem referenceRule_apply_rgK {m : Nat} {s0 : State} (value : Bytes) (u0 : State) (hm : m &&& 18444492273895866367 = m) :
    RgK m s0 ((referenceRule value).apply u0) ↔ RgK m s0 u0 := rgK_of 18444492273895866367 (by unfold referenceRule; (repeat' split) <;> simp) hm

@[simp] theorem referenceRule_after_rgK {m : Nat} {s0 : State} (value : Bytes) (u0 : State) (hm : m &&& 18444492273895866367 = m) :
    RgK m s0 ((referenceRule value).after u0) ↔ RgK m s0 u0 := rgK_of 18444492273895866367 (by unfold referenceRule; (repeat' split) <;> simp) hm

@[simp] theorem referenceRule_onReject_rgK {m : Nat} {s0 : State} (value : Bytes) (u0 : State) (hm : m &&& 18444492273895866367 = m) :
    RgK m s0 ((referenceRule value).onReject u0) ↔ RgK m s0 u0 := rgK_of 18444492273895866367 (by unfold referenceRule; (repeat' split) <;> simp) hm

@[simp] theorem releaseReset_rgK {m : Nat} {s0 : State} (x : Straps) (s : State) :
    RgK m s0 (releaseReset x s) ↔ RgK m s0 s := rgK_of m (by exact rgK_of_regs (Keeps.regs ((releaseReset_keeps (m := 786399) (s0 := s) x s (by decide)).mpr (Keeps.refl _ _)) (by decide))) (Nat.and_self m)

@[simp] theorem reconfigured_rgK {m : Nat} {s0 : State} (s : State) :
    RgK m s0 (reconfigured s) ↔ RgK m s0 s := rgK_of m (by exact rgK_of_regs (Keeps.regs ((reconfigured_keeps (m := 774143) (s0 := s) s (by decide)).mpr (Keeps.refl _ _)) (by decide))) (Nat.and_self m)

@[simp] theorem nodeRule_apply_rgK {m : Nat} {s0 : State} (sub : Nat) (value : Bytes) (u0 : State) (hm : m &&& 18446744072904245247 = m) :
    RgK m s0 ((nodeRule sub value).apply u0) ↔ RgK m s0 u0 := rgK_of 18446744072904245247 (by unfold nodeRule; (repeat' split) <;> simp) hm

@[simp] theorem nodeRule_after_rgK {m : Nat} {s0 : State} (sub : Nat) (value : Bytes) (u0 : State) (hm : m &&& 18446744072904245247 = m) :
    RgK m s0 ((nodeRule sub value).after u0) ↔ RgK m s0 u0 := rgK_of 18446744072904245247 (by unfold nodeRule; (repeat' split) <;> simp) hm

@[simp] theorem nodeRule_onReject_rgK {m : Nat} {s0 : State} (sub : Nat) (value : Bytes) (u0 : State) (hm : m &&& 18446744072904245247 = m) :
    RgK m s0 ((nodeRule sub value).onReject u0) ↔ RgK m s0 u0 := rgK_of 18446744072904245247 (by unfold nodeRule; (repeat' split) <;> simp) hm

@[simp] theorem portRule_apply_rgK {m : Nat} {s0 : State} (sub : Nat) (value : Bytes) (s : State) (u0 : State) (hm : m &&& 18446744073172680703 = m) :
    RgK m s0 ((portRule sub value s).apply u0) ↔ RgK m s0 u0 := rgK_of 18446744073172680703 (by unfold portRule; (repeat' split) <;> simp) hm

@[simp] theorem portRule_after_rgK {m : Nat} {s0 : State} (sub : Nat) (value : Bytes) (s : State) (u0 : State) (hm : m &&& 18446744073172680703 = m) :
    RgK m s0 ((portRule sub value s).after u0) ↔ RgK m s0 u0 := rgK_of 18446744073172680703 (by unfold portRule; (repeat' split) <;> simp) hm

@[simp] theorem portRule_onReject_rgK {m : Nat} {s0 : State} (sub : Nat) (value : Bytes) (s : State) (u0 : State) (hm : m &&& 18446744073172680703 = m) :
    RgK m s0 ((portRule sub value s).onReject u0) ↔ RgK m s0 u0 := rgK_of 18446744073172680703 (by unfold portRule; (repeat' split) <;> simp) hm

@[simp] theorem fabricRule_apply_rgK {m : Nat} {s0 : State} (idx : Nat) (sub : Nat) (value : Bytes) (s : State) (u0 : State) (hm : m &&& 18446744072904245247 = m) :
    RgK m s0 ((fabricRule idx sub value s).apply u0) ↔ RgK m s0 u0 := rgK_of 18446744072904245247 (by unfold fabricRule; (repeat' split) <;> simp) hm

@[simp] theorem fabricRule_after_rgK {m : Nat} {s0 : State} (idx : Nat) (sub : Nat) (value : Bytes) (s : State) (u0 : State) (hm : m &&& 18446744072904245247 = m) :
    RgK m s0 ((fabricRule idx sub value s).after u0) ↔ RgK m s0 u0 := rgK_of 18446744072904245247 (by unfold fabricRule; (repeat' split) <;> simp) hm

@[simp] theorem fabricRule_onReject_rgK {m : Nat} {s0 : State} (idx : Nat) (sub : Nat) (value : Bytes) (s : State) (u0 : State) (hm : m &&& 18446744072904245247 = m) :
    RgK m s0 ((fabricRule idx sub value s).onReject u0) ↔ RgK m s0 u0 := rgK_of 18446744072904245247 (by unfold fabricRule; (repeat' split) <;> simp) hm

@[simp] theorem exceptionRule_apply_rgK {m : Nat} {s0 : State} (value : Bytes) (s : State) (u0 : State) (hm : m &&& 18446744073709551615 = m) :
    RgK m s0 ((exceptionRule value s).apply u0) ↔ RgK m s0 u0 := rgK_of 18446744073709551615 (by unfold exceptionRule; (repeat' split) <;> simp) hm

@[simp] theorem exceptionRule_after_rgK {m : Nat} {s0 : State} (value : Bytes) (s : State) (u0 : State) (hm : m &&& 18446744073709551615 = m) :
    RgK m s0 ((exceptionRule value s).after u0) ↔ RgK m s0 u0 := rgK_of 18446744073709551615 (by unfold exceptionRule; (repeat' split) <;> simp) hm

@[simp] theorem exceptionRule_onReject_rgK {m : Nat} {s0 : State} (value : Bytes) (s : State) (u0 : State) (hm : m &&& 18446744073709551615 = m) :
    RgK m s0 ((exceptionRule value s).onReject u0) ↔ RgK m s0 u0 := rgK_of 18446744073709551615 (by unfold exceptionRule; (repeat' split) <;> simp) hm

@[simp] theorem coordRule_apply_rgK {m : Nat} {s0 : State} (sub : Nat) (value : Bytes) (s : State) (u0 : State) (hm : m &&& 18446744072635809791 = m) :
    RgK m s0 ((coordRule sub value s).apply u0) ↔ RgK m s0 u0 := rgK_of 18446744072635809791 (by unfold coordRule; (repeat' split) <;> simp) hm

@[simp] theorem coordRule_after_rgK {m : Nat} {s0 : State} (sub : Nat) (value : Bytes) (s : State) (u0 : State) (hm : m &&& 18446744072635809791 = m) :
    RgK m s0 ((coordRule sub value s).after u0) ↔ RgK m s0 u0 := rgK_of 18446744072635809791 (by unfold coordRule; (repeat' split) <;> simp) hm

@[simp] theorem coordRule_onReject_rgK {m : Nat} {s0 : State} (sub : Nat) (value : Bytes) (s : State) (u0 : State) (hm : m &&& 18446744072635809791 = m) :
    RgK m s0 ((coordRule sub value s).onReject u0) ↔ RgK m s0 u0 := rgK_of 18446744072635809791 (by unfold coordRule; (repeat' split) <;> simp) hm

@[simp] theorem baseRule_apply_rgK {m : Nat} {s0 : State} (value : Bytes) (u0 : State) (hm : m &&& 18446744072635809791 = m) :
    RgK m s0 ((baseRule value).apply u0) ↔ RgK m s0 u0 := rgK_of 18446744072635809791 (by unfold baseRule; (repeat' split) <;> simp) hm

@[simp] theorem baseRule_after_rgK {m : Nat} {s0 : State} (value : Bytes) (u0 : State) (hm : m &&& 18446744072635809791 = m) :
    RgK m s0 ((baseRule value).after u0) ↔ RgK m s0 u0 := rgK_of 18446744072635809791 (by unfold baseRule; (repeat' split) <;> simp) hm

@[simp] theorem baseRule_onReject_rgK {m : Nat} {s0 : State} (value : Bytes) (u0 : State) (hm : m &&& 18446744072635809791 = m) :
    RgK m s0 ((baseRule value).onReject u0) ↔ RgK m s0 u0 := rgK_of 18446744072635809791 (by unfold baseRule; (repeat' split) <;> simp) hm

@[simp] theorem neighbourRule_apply_rgK {m : Nat} {s0 : State} (sub : Nat) (value : Bytes) (s : State) (u0 : State) (hm : m &&& 18446744071562067967 = m) :
    RgK m s0 ((neighbourRule sub value s).apply u0) ↔ RgK m s0 u0 := rgK_of 18446744071562067967 (by unfold neighbourRule; (repeat' split) <;> simp) hm

@[simp] theorem neighbourRule_after_rgK {m : Nat} {s0 : State} (sub : Nat) (value : Bytes) (s : State) (u0 : State) (hm : m &&& 18446744071562067967 = m) :
    RgK m s0 ((neighbourRule sub value s).after u0) ↔ RgK m s0 u0 := rgK_of 18446744071562067967 (by unfold neighbourRule; (repeat' split) <;> simp) hm

@[simp] theorem neighbourRule_onReject_rgK {m : Nat} {s0 : State} (sub : Nat) (value : Bytes) (s : State) (u0 : State) (hm : m &&& 18446744071562067967 = m) :
    RgK m s0 ((neighbourRule sub value s).onReject u0) ↔ RgK m s0 u0 := rgK_of 18446744071562067967 (by unfold neighbourRule; (repeat' split) <;> simp) hm

@[simp] theorem overrideRule_apply_rgK {m : Nat} {s0 : State} (value : Bytes) (s : State) (u0 : State) (hm : m &&& 18446744073709551615 = m) :
    RgK m s0 ((overrideRule value s).apply u0) ↔ RgK m s0 u0 := rgK_of 18446744073709551615 (by unfold overrideRule; (repeat' split) <;> simp) hm

@[simp] theorem overrideRule_after_rgK {m : Nat} {s0 : State} (value : Bytes) (s : State) (u0 : State) (hm : m &&& 18446744073709551615 = m) :
    RgK m s0 ((overrideRule value s).after u0) ↔ RgK m s0 u0 := rgK_of 18446744073709551615 (by unfold overrideRule; (repeat' split) <;> simp) hm

@[simp] theorem overrideRule_onReject_rgK {m : Nat} {s0 : State} (value : Bytes) (s : State) (u0 : State) (hm : m &&& 18446744073709551615 = m) :
    RgK m s0 ((overrideRule value s).onReject u0) ↔ RgK m s0 u0 := rgK_of 18446744073709551615 (by unfold overrideRule; (repeat' split) <;> simp) hm

@[simp] theorem memberRule_apply_rgK {m : Nat} {s0 : State} (value : Bytes) (s : State) (u0 : State) (hm : m &&& 18446744073709551615 = m) :
    RgK m s0 ((memberRule value s).apply u0) ↔ RgK m s0 u0 := rgK_of 18446744073709551615 (by unfold memberRule; (repeat' split) <;> simp) hm

@[simp] theorem memberRule_after_rgK {m : Nat} {s0 : State} (value : Bytes) (s : State) (u0 : State) (hm : m &&& 18446744073709551615 = m) :
    RgK m s0 ((memberRule value s).after u0) ↔ RgK m s0 u0 := rgK_of 18446744073709551615 (by unfold memberRule; (repeat' split) <;> simp) hm

@[simp] theorem memberRule_onReject_rgK {m : Nat} {s0 : State} (value : Bytes) (s : State) (u0 : State) (hm : m &&& 18446744073709551615 = m) :
    RgK m s0 ((memberRule value s).onReject u0) ↔ RgK m s0 u0 := rgK_of 18446744073709551615 (by unfold memberRule; (repeat' split) <;> simp) hm

@[simp] theorem groupRule_apply_rgK {m : Nat} {s0 : State} (value : Bytes) (s : State) (u0 : State) (hm : m &&& 18446744073709551615 = m) :
    RgK m s0 ((groupRule value s).apply u0) ↔ RgK m s0 u0 := rgK_of 18446744073709551615 (by unfold groupRule; (repeat' split) <;> simp) hm

@[simp] theorem groupRule_after_rgK {m : Nat} {s0 : State} (value : Bytes) (s : State) (u0 : State) (hm : m &&& 18446744073709551615 = m) :
    RgK m s0 ((groupRule value s).after u0) ↔ RgK m s0 u0 := rgK_of 18446744073709551615 (by unfold groupRule; (repeat' split) <;> simp) hm

@[simp] theorem groupRule_onReject_rgK {m : Nat} {s0 : State} (value : Bytes) (s : State) (u0 : State) (hm : m &&& 18446744073709551615 = m) :
    RgK m s0 ((groupRule value s).onReject u0) ↔ RgK m s0 u0 := rgK_of 18446744073709551615 (by unfold groupRule; (repeat' split) <;> simp) hm

@[simp] theorem withHeld_rgK {m : Nat} {s0 : State} (l : List HeldCopy) (s : State) :
    RgK m s0 (withHeld l s) ↔ RgK m s0 s := rgK_of m (by exact rgK_of_regs (Keeps.regs ((withHeld_keeps (m := 1015807) (s0 := s) l s (by decide)).mpr (Keeps.refl _ _)) (by decide))) (Nat.and_self m)

@[simp] theorem spoilCopy_rgK {m : Nat} {s0 : State} (m0 : RemoteMsg) (s : State) (hm : m &&& 18446708889337462783 = m) :
    RgK m s0 (spoilCopy m0 s) ↔ RgK m s0 s := rgK_of 18446708889337462783 (by unfold spoilCopy; (repeat' split) <;> simp) hm

@[simp] theorem respondRemote_rgK {m : Nat} {s0 : State} (m0 : RemoteMsg) (block : Nat) (status : Nat) (data : Bytes) (s : State) (hm : m &&& 18446744060824649727 = m) :
    RgK m s0 (respondRemote m0 block status data s) ↔ RgK m s0 s := rgK_of 18446744060824649727 (by unfold respondRemote; (repeat' split) <;> simp) hm

@[simp] theorem answerRequest_rgK {m : Nat} {s0 : State} (m0 : RemoteMsg) (s : State) (hm : m &&& 18446708876450463743 = m) :
    RgK m s0 (answerRequest m0 s) ↔ RgK m s0 s := rgK_of 18446708876450463743 (by unfold answerRequest; (repeat' split) <;> simp) hm

@[simp] theorem storeRemote_rgK {m : Nat} {s0 : State} (m0 : RemoteMsg) (s : State) (hm : m &&& 18446708885042495487 = m) :
    RgK m s0 (storeRemote m0 s) ↔ RgK m s0 s := rgK_of 18446708885042495487 (by unfold storeRemote; (repeat' split) <;> simp) hm

@[simp] theorem askPull_rgK {m : Nat} {s0 : State} (sc : Score) (n : Nat) (p : Pull) (s : State) (hm : m &&& 18446744060824649727 = m) :
    RgK m s0 (askPull sc n p s).2 ↔ RgK m s0 s := rgK_of 18446744060824649727 (by
  induction n generalizing p s with
  | zero => simp [askPull]
  | succ n ih => unfold askPull; (repeat' split) <;> simp [ih]) hm

@[simp] theorem restoreFailed_rgK {m : Nat} {s0 : State} (p : Pull) (s : State) (hm : m &&& 18446739658483171311 = m) :
    RgK m s0 (restoreFailed p s) ↔ RgK m s0 s := rgK_of 18446739658483171311 (by unfold restoreFailed; (repeat' split) <;> simp) hm

@[simp] theorem repairFailed_rgK {m : Nat} {s0 : State} (sc : Score) (p : Pull) (s : State) (hm : m &&& 17582052928074547183 = m) :
    RgK m s0 (repairFailed sc p s) ↔ RgK m s0 s := rgK_of 17582052928074547183 (by unfold repairFailed; (repeat' split) <;> simp) hm

@[simp] theorem nextHolder_rgK {m : Nat} {s0 : State} (sc : Score) (p : Pull) (s : State) (hm : m &&& 17582048517143134191 = m) :
    RgK m s0 (nextHolder sc p s) ↔ RgK m s0 s := rgK_of 17582048517143134191 (by unfold nextHolder; dsimp only; (repeat' split) <;> simp [*]) hm

@[simp] theorem pullsPast_rgK {m : Nat} {s0 : State} (peer : Nat) (s : State) (hm : m &&& 17582048517143134191 = m) :
    RgK m s0 (pullsPast peer s) ↔ RgK m s0 s := rgK_of 17582048517143134191 (by
  refine (onScore_rgK _ _ ?_).mpr (RgK.refl _ _)
  intro sc u
  refine rgK_foldl _ ?_ _ _ _ (RgK.refl _ _)
  intro v e
  split <;> simp) hm

@[simp] theorem startRestore_rgK {m : Nat} {s0 : State} (s00 : Nat) (sc : Score) (s : State) (hm : m &&& 18446739645598269423 = m) :
    RgK m s0 (startRestore s00 sc s) ↔ RgK m s0 s := rgK_of 18446739645598269423 (by
  unfold startRestore
  extract_lets s1 _ _ _ _ s2 s3
  have h1 : RgK 18446739645598269423 s s1 := by simp [s1]
  have h2 : RgK 18446739645598269423 s1 s2 := by simp [s2]
  have h3 : RgK 18446739645598269423 s2 s3 := by simp [s3]
  refine h1.trans (h2.trans (h3.trans ?_))
  refine rgK_foldl _ ?_ _ _ _ (RgK.refl _ _)
  intro v p
  split
  · simp
  · extract_lets r
    have h4 : RgK 18446739645598269423 v r.2 := by simp [r]
    refine h4.trans ?_
    split
    · exact rgK_of_regs rfl
    · simp) hm

@[simp] theorem installRecord_rgK {m : Nat} {s0 : State} (s00 : Nat) (b : Bytes) (s : State) (hm : m &&& 18446744073709518847 = m) :
    RgK m s0 (installRecord s00 b s) ↔ RgK m s0 s := rgK_of 18446744073709518847 (by unfold installRecord; (repeat' split) <;> simp) hm

@[simp] theorem regather_rgK {m : Nat} {s0 : State} (s : State) (x : CollCtx) (hm : m &&& 18446743768764776191 = m) :
    RgK m s0 (regather s x) ↔ RgK m s0 s := rgK_of 18446743768764776191 (by unfold regather; (repeat' split) <;> simp) hm

@[simp] theorem useRestored_rgK {m : Nat} {s0 : State} (s00 : Nat) (sc : Score) (s : State) (hm : m &&& 18446743768764743423 = m) :
    RgK m s0 (useRestored s00 sc s) ↔ RgK m s0 s := rgK_of 18446743768764743423 (by unfold useRestored; (repeat' split) <;> simp) hm

@[simp] theorem restoreRule_apply_rgK {m : Nat} {s0 : State} (value : Bytes) (s : State) (u0 : State) (hm : m &&& 18446739645598269423 = m) :
    RgK m s0 ((restoreRule value s).apply u0) ↔ RgK m s0 u0 := rgK_of 18446739645598269423 (by unfold restoreRule; (repeat' split) <;> simp) hm

@[simp] theorem restoreRule_after_rgK {m : Nat} {s0 : State} (value : Bytes) (s : State) (u0 : State) (hm : m &&& 18446739645598269423 = m) :
    RgK m s0 ((restoreRule value s).after u0) ↔ RgK m s0 u0 := rgK_of 18446739645598269423 (by unfold restoreRule; (repeat' split) <;> simp) hm

@[simp] theorem restoreRule_onReject_rgK {m : Nat} {s0 : State} (value : Bytes) (s : State) (u0 : State) (hm : m &&& 18446739645598269423 = m) :
    RgK m s0 ((restoreRule value s).onReject u0) ↔ RgK m s0 u0 := rgK_of 18446739645598269423 (by unfold restoreRule; (repeat' split) <;> simp) hm

@[simp] theorem finishRepair_rgK {m : Nat} {s0 : State} (sc : Score) (p : Pull) (s : State) (hm : m &&& 18446708872155496447 = m) :
    RgK m s0 (finishRepair sc p s) ↔ RgK m s0 s := rgK_of 18446708872155496447 (by unfold finishRepair; (repeat' split) <;> simp) hm

@[simp] theorem takePulled_rgK {m : Nat} {s0 : State} (m0 : RemoteMsg) (sc : Score) (s : State) (hm : m &&& 17582013057891008239 = m) :
    RgK m s0 (takePulled m0 sc s) ↔ RgK m s0 s := rgK_of 17582013057891008239 (by unfold takePulled; dsimp only; (repeat' split) <;> simp [*]) hm

@[simp] theorem askRange_rgK {m : Nat} {s0 : State} (m0 : RemoteMsg) (s : State) (hm : m &&& 18446744060824649727 = m) :
    RgK m s0 (askRange m0 s) ↔ RgK m s0 s := rgK_of 18446744060824649727 (by unfold askRange; (repeat' split) <;> simp) hm

@[simp] theorem takeRange_rgK {m : Nat} {s0 : State} (m0 : RemoteMsg) (sc : Score) (s : State) (hm : m &&& 18446743768764776191 = m) :
    RgK m s0 (takeRange m0 sc s) ↔ RgK m s0 s := rgK_of 18446743768764776191 (by unfold takeRange; (repeat' split) <;> simp) hm

@[simp] theorem takeResponse_rgK {m : Nat} {s0 : State} (m0 : RemoteMsg) (s : State) (hm : m &&& 17582013057891008239 = m) :
    RgK m s0 (takeResponse m0 s) ↔ RgK m s0 s := rgK_of 17582013057891008239 (by unfold takeResponse; (repeat' split) <;> simp) hm

@[simp] theorem startAbandon_rgK {m : Nat} {s0 : State} (s : State) (hm : m &&& 13835009676770541439 = m) :
    RgK m s0 (startAbandon s) ↔ RgK m s0 s := rgK_of 13835009676770541439 (by unfold startAbandon; (repeat' split) <;> simp) hm

@[simp] theorem abandonRule_apply_rgK {m : Nat} {s0 : State} (q : Req) (s : State) (u0 : State) (hm : m &&& 13835009676770541439 = m) :
    RgK m s0 ((abandonRule q s).apply u0) ↔ RgK m s0 u0 := rgK_of 13835009676770541439 (by unfold abandonRule; (repeat' split) <;> simp) hm

@[simp] theorem abandonRule_after_rgK {m : Nat} {s0 : State} (q : Req) (s : State) (u0 : State) (hm : m &&& 13835009676770541439 = m) :
    RgK m s0 ((abandonRule q s).after u0) ↔ RgK m s0 u0 := rgK_of 13835009676770541439 (by unfold abandonRule; (repeat' split) <;> simp) hm

@[simp] theorem abandonRule_onReject_rgK {m : Nat} {s0 : State} (q : Req) (s : State) (u0 : State) (hm : m &&& 13835009676770541439 = m) :
    RgK m s0 ((abandonRule q s).onReject u0) ↔ RgK m s0 u0 := rgK_of 13835009676770541439 (by unfold abandonRule; (repeat' split) <;> simp) hm

@[simp] theorem armRule_apply_rgK {m : Nat} {s0 : State} (value : Bytes) (s : State) (u0 : State) (hm : m &&& 18446735277616529407 = m) :
    RgK m s0 ((armRule value s).apply u0) ↔ RgK m s0 u0 := rgK_of 18446735277616529407 (by unfold armRule; (repeat' split) <;> simp) hm

@[simp] theorem armRule_after_rgK {m : Nat} {s0 : State} (value : Bytes) (s : State) (u0 : State) (hm : m &&& 18446735277616529407 = m) :
    RgK m s0 ((armRule value s).after u0) ↔ RgK m s0 u0 := rgK_of 18446735277616529407 (by unfold armRule; (repeat' split) <;> simp) hm

@[simp] theorem armRule_onReject_rgK {m : Nat} {s0 : State} (value : Bytes) (s : State) (u0 : State) (hm : m &&& 18446735277616529407 = m) :
    RgK m s0 ((armRule value s).onReject u0) ↔ RgK m s0 u0 := rgK_of 18446735277616529407 (by unfold armRule; (repeat' split) <;> simp) hm

@[simp] theorem scaleLoadRule_apply_rgK {m : Nat} {s0 : State} (value : Bytes) (s : State) (u0 : State) (hm : m &&& 18446744073709551615 = m) :
    RgK m s0 ((scaleLoadRule value s).apply u0) ↔ RgK m s0 u0 := rgK_of 18446744073709551615 (by unfold scaleLoadRule; (repeat' split) <;> simp) hm

@[simp] theorem scaleLoadRule_after_rgK {m : Nat} {s0 : State} (value : Bytes) (s : State) (u0 : State) (hm : m &&& 18446744073709551615 = m) :
    RgK m s0 ((scaleLoadRule value s).after u0) ↔ RgK m s0 u0 := rgK_of 18446744073709551615 (by unfold scaleLoadRule; (repeat' split) <;> simp) hm

@[simp] theorem scaleLoadRule_onReject_rgK {m : Nat} {s0 : State} (value : Bytes) (s : State) (u0 : State) (hm : m &&& 18446744073709551615 = m) :
    RgK m s0 ((scaleLoadRule value s).onReject u0) ↔ RgK m s0 u0 := rgK_of 18446744073709551615 (by unfold scaleLoadRule; (repeat' split) <;> simp) hm

@[simp] theorem startScaleRule_apply_rgK {m : Nat} {s0 : State} (value : Bytes) (s : State) (u0 : State) (hm : m &&& 18446744073709486079 = m) :
    RgK m s0 ((startScaleRule value s).apply u0) ↔ RgK m s0 u0 := rgK_of 18446744073709486079 (by unfold startScaleRule; (repeat' split) <;> simp) hm

@[simp] theorem startScaleRule_after_rgK {m : Nat} {s0 : State} (value : Bytes) (s : State) (u0 : State) (hm : m &&& 18446744073709486079 = m) :
    RgK m s0 ((startScaleRule value s).after u0) ↔ RgK m s0 u0 := rgK_of 18446744073709486079 (by unfold startScaleRule; (repeat' split) <;> simp) hm

@[simp] theorem startScaleRule_onReject_rgK {m : Nat} {s0 : State} (value : Bytes) (s : State) (u0 : State) (hm : m &&& 18446744073709486079 = m) :
    RgK m s0 ((startScaleRule value s).onReject u0) ↔ RgK m s0 u0 := rgK_of 18446744073709486079 (by unfold startScaleRule; (repeat' split) <;> simp) hm

@[simp] theorem ownRule_apply_rgK {m : Nat} {s0 : State} (q : Req) (idx : Nat) (sub : Nat) (value : Bytes) (codes : List Nat) (u0 : State) (hm : m &&& 18446744073709551615 = m) :
    RgK m s0 ((ownRule q idx sub value codes).apply u0) ↔ RgK m s0 u0 := rgK_of 18446744073709551615 (by unfold ownRule; (repeat' split) <;> simp) hm

@[simp] theorem ownRule_after_rgK {m : Nat} {s0 : State} (q : Req) (idx : Nat) (sub : Nat) (value : Bytes) (codes : List Nat) (u0 : State) (hm : m &&& 18446744073709551615 = m) :
    RgK m s0 ((ownRule q idx sub value codes).after u0) ↔ RgK m s0 u0 := rgK_of 18446744073709551615 (by unfold ownRule; (repeat' split) <;> simp) hm

@[simp] theorem ownRule_onReject_rgK {m : Nat} {s0 : State} (q : Req) (idx : Nat) (sub : Nat) (value : Bytes) (codes : List Nat) (u0 : State) (hm : m &&& 18446744073709551615 = m) :
    RgK m s0 ((ownRule q idx sub value codes).onReject u0) ↔ RgK m s0 u0 := rgK_of 18446744073709551615 (by unfold ownRule; (repeat' split) <;> simp) hm

@[simp] theorem bufferRule_apply_rgK {m : Nat} {s0 : State} (sub : Nat) (value : Bytes) (s : State) (u0 : State) (hm : m &&& 18446744073709551607 = m) :
    RgK m s0 ((bufferRule sub value s).apply u0) ↔ RgK m s0 u0 := rgK_of 18446744073709551607 (by unfold bufferRule; (repeat' split) <;> simp) hm

@[simp] theorem bufferRule_after_rgK {m : Nat} {s0 : State} (sub : Nat) (value : Bytes) (s : State) (u0 : State) (hm : m &&& 18446744073709551607 = m) :
    RgK m s0 ((bufferRule sub value s).after u0) ↔ RgK m s0 u0 := rgK_of 18446744073709551607 (by unfold bufferRule; (repeat' split) <;> simp) hm

@[simp] theorem bufferRule_onReject_rgK {m : Nat} {s0 : State} (sub : Nat) (value : Bytes) (s : State) (u0 : State) (hm : m &&& 18446744073709551607 = m) :
    RgK m s0 ((bufferRule sub value s).onReject u0) ↔ RgK m s0 u0 := rgK_of 18446744073709551607 (by unfold bufferRule; (repeat' split) <;> simp) hm

@[simp] theorem generatorRule_apply_rgK {m : Nat} {s0 : State} (sub : Nat) (value : Bytes) (u0 : State) (hm : m &&& 18446744073709518847 = m) :
    RgK m s0 ((generatorRule sub value).apply u0) ↔ RgK m s0 u0 := rgK_of 18446744073709518847 (by unfold generatorRule; (repeat' split) <;> simp) hm

@[simp] theorem generatorRule_after_rgK {m : Nat} {s0 : State} (sub : Nat) (value : Bytes) (u0 : State) (hm : m &&& 18446744073709518847 = m) :
    RgK m s0 ((generatorRule sub value).after u0) ↔ RgK m s0 u0 := rgK_of 18446744073709518847 (by unfold generatorRule; (repeat' split) <;> simp) hm

@[simp] theorem generatorRule_onReject_rgK {m : Nat} {s0 : State} (sub : Nat) (value : Bytes) (u0 : State) (hm : m &&& 18446744073709518847 = m) :
    RgK m s0 ((generatorRule sub value).onReject u0) ↔ RgK m s0 u0 := rgK_of 18446744073709518847 (by unfold generatorRule; (repeat' split) <;> simp) hm

@[simp] theorem scaleRule_apply_rgK {m : Nat} {s0 : State} (sub : Nat) (value : Bytes) (s : State) (u0 : State) (hm : m &&& 18446744073709486079 = m) :
    RgK m s0 ((scaleRule sub value s).apply u0) ↔ RgK m s0 u0 := rgK_of 18446744073709486079 (by unfold scaleRule; (repeat' split) <;> simp) hm

@[simp] theorem scaleRule_after_rgK {m : Nat} {s0 : State} (sub : Nat) (value : Bytes) (s : State) (u0 : State) (hm : m &&& 18446744073709486079 = m) :
    RgK m s0 ((scaleRule sub value s).after u0) ↔ RgK m s0 u0 := rgK_of 18446744073709486079 (by unfold scaleRule; (repeat' split) <;> simp) hm

@[simp] theorem scaleRule_onReject_rgK {m : Nat} {s0 : State} (sub : Nat) (value : Bytes) (s : State) (u0 : State) (hm : m &&& 18446744073709486079 = m) :
    RgK m s0 ((scaleRule sub value s).onReject u0) ↔ RgK m s0 u0 := rgK_of 18446744073709486079 (by unfold scaleRule; (repeat' split) <;> simp) hm

@[simp] theorem securingRule_apply_rgK {m : Nat} {s0 : State} (sub : Nat) (value : Bytes) (u0 : State) (hm : m &&& 18446743523953737727 = m) :
    RgK m s0 ((securingRule sub value).apply u0) ↔ RgK m s0 u0 := rgK_of 18446743523953737727 (by unfold securingRule; (repeat' split) <;> simp) hm

@[simp] theorem securingRule_after_rgK {m : Nat} {s0 : State} (sub : Nat) (value : Bytes) (u0 : State) (hm : m &&& 18446743523953737727 = m) :
    RgK m s0 ((securingRule sub value).after u0) ↔ RgK m s0 u0 := rgK_of 18446743523953737727 (by unfold securingRule; (repeat' split) <;> simp) hm

@[simp] theorem securingRule_onReject_rgK {m : Nat} {s0 : State} (sub : Nat) (value : Bytes) (u0 : State) (hm : m &&& 18446743523953737727 = m) :
    RgK m s0 ((securingRule sub value).onReject u0) ↔ RgK m s0 u0 := rgK_of 18446743523953737727 (by unfold securingRule; (repeat' split) <;> simp) hm

@[simp] theorem glazedRule_apply_rgK {m : Nat} {s0 : State} (sub : Nat) (value : Bytes) (u0 : State) (hm : m &&& 18446742974197923839 = m) :
    RgK m s0 ((glazedRule sub value).apply u0) ↔ RgK m s0 u0 := rgK_of 18446742974197923839 (by unfold glazedRule; (repeat' split) <;> simp) hm

@[simp] theorem glazedRule_after_rgK {m : Nat} {s0 : State} (sub : Nat) (value : Bytes) (u0 : State) (hm : m &&& 18446742974197923839 = m) :
    RgK m s0 ((glazedRule sub value).after u0) ↔ RgK m s0 u0 := rgK_of 18446742974197923839 (by unfold glazedRule; (repeat' split) <;> simp) hm

@[simp] theorem glazedRule_onReject_rgK {m : Nat} {s0 : State} (sub : Nat) (value : Bytes) (u0 : State) (hm : m &&& 18446742974197923839 = m) :
    RgK m s0 ((glazedRule sub value).onReject u0) ↔ RgK m s0 u0 := rgK_of 18446742974197923839 (by unfold glazedRule; (repeat' split) <;> simp) hm

@[simp] theorem regionRule_apply_rgK {m : Nat} {s0 : State} (sub : Nat) (value : Bytes) (u0 : State) (hm : m &&& 18446741874686296063 = m) :
    RgK m s0 ((regionRule sub value).apply u0) ↔ RgK m s0 u0 := rgK_of 18446741874686296063 (by unfold regionRule; (repeat' split) <;> simp) hm

@[simp] theorem regionRule_after_rgK {m : Nat} {s0 : State} (sub : Nat) (value : Bytes) (u0 : State) (hm : m &&& 18446741874686296063 = m) :
    RgK m s0 ((regionRule sub value).after u0) ↔ RgK m s0 u0 := rgK_of 18446741874686296063 (by unfold regionRule; (repeat' split) <;> simp) hm

@[simp] theorem regionRule_onReject_rgK {m : Nat} {s0 : State} (sub : Nat) (value : Bytes) (u0 : State) (hm : m &&& 18446741874686296063 = m) :
    RgK m s0 ((regionRule sub value).onReject u0) ↔ RgK m s0 u0 := rgK_of 18446741874686296063 (by unfold regionRule; (repeat' split) <;> simp) hm

@[simp] theorem recoveryRule_apply_rgK {m : Nat} {s0 : State} (q : Req) (sub : Nat) (value : Bytes) (s : State) (u0 : State) (hm : m &&& 13835009646705770351 = m) :
    RgK m s0 ((recoveryRule q sub value s).apply u0) ↔ RgK m s0 u0 := rgK_of 13835009646705770351 (by unfold recoveryRule; (repeat' split) <;> simp) hm

@[simp] theorem recoveryRule_after_rgK {m : Nat} {s0 : State} (q : Req) (sub : Nat) (value : Bytes) (s : State) (u0 : State) (hm : m &&& 13835009646705770351 = m) :
    RgK m s0 ((recoveryRule q sub value s).after u0) ↔ RgK m s0 u0 := rgK_of 13835009646705770351 (by unfold recoveryRule; (repeat' split) <;> simp) hm

@[simp] theorem recoveryRule_onReject_rgK {m : Nat} {s0 : State} (q : Req) (sub : Nat) (value : Bytes) (s : State) (u0 : State) (hm : m &&& 13835009646705770351 = m) :
    RgK m s0 ((recoveryRule q sub value s).onReject u0) ↔ RgK m s0 u0 := rgK_of 13835009646705770351 (by unfold recoveryRule; (repeat' split) <;> simp) hm

@[simp] theorem selectRule_apply_rgK {m : Nat} {s0 : State} (q : Req) (value : Bytes) (s : State) (u0 : State) (hm : m &&& 18446744073709551615 = m) :
    RgK m s0 ((selectRule q value s).apply u0) ↔ RgK m s0 u0 := rgK_of 18446744073709551615 (by unfold selectRule; (repeat' split) <;> simp) hm

@[simp] theorem selectRule_after_rgK {m : Nat} {s0 : State} (q : Req) (value : Bytes) (s : State) (u0 : State) (hm : m &&& 18446744073709551615 = m) :
    RgK m s0 ((selectRule q value s).after u0) ↔ RgK m s0 u0 := rgK_of 18446744073709551615 (by unfold selectRule; (repeat' split) <;> simp) hm

@[simp] theorem selectRule_onReject_rgK {m : Nat} {s0 : State} (q : Req) (value : Bytes) (s : State) (u0 : State) (hm : m &&& 18446744073709551615 = m) :
    RgK m s0 ((selectRule q value s).onReject u0) ↔ RgK m s0 u0 := rgK_of 18446744073709551615 (by unfold selectRule; (repeat' split) <;> simp) hm

@[simp] theorem readAny_rgK {m : Nat} {s0 : State} (q : Req) (hi : Nat) (idx : Nat) (sub : Nat) (len : Nat) (s : State) (hm : m &&& 18446744073709551611 = m) :
    RgK m s0 (readAny q hi idx sub len s) ↔ RgK m s0 s := rgK_of 18446744073709551611 (by unfold readAny; (repeat' split) <;> simp) hm

@[simp] theorem beginBlockRead_rgK {m : Nat} {s0 : State} (q : Req) (idx : Nat) (sub : Nat) (s : State) :
    RgK m s0 (beginBlockRead q idx sub s) ↔ RgK m s0 s := rgK_of m (by exact rgK_of_regs (Keeps.regs ((beginBlockRead_keeps (m := 851965) (s0 := s) q idx sub s (by decide)).mpr (Keeps.refl _ _)) (by decide))) (Nat.and_self m)

@[simp] theorem beginBlockWrite_rgK {m : Nat} {s0 : State} (q : Req) (idx : Nat) (sub : Nat) (len : Nat) (s : State) (hm : m &&& 18446603336221196287 = m) :
    RgK m s0 (beginBlockWrite q idx sub len s) ↔ RgK m s0 s := rgK_of 18446603336221196287 (by unfold beginBlockWrite; (repeat' split) <;> simp) hm

@[simp] theorem blockWriteAny_rgK {m : Nat} {s0 : State} (q : Req) (idx : Nat) (sub : Nat) (len : Nat) (s : State) (hm : m &&& 13834917317793808379 = m) :
    RgK m s0 (blockWriteAny q idx sub len s) ↔ RgK m s0 s := rgK_of 13834917317793808379 (by unfold blockWriteAny; (repeat' split) <;> simp) hm

@[simp] theorem leaveProgress_rgK {m : Nat} {s0 : State} (q : Req) (s : State) :
    RgK m s0 (leaveProgress q s) ↔ RgK m s0 s := rgK_of m (by exact rgK_of_regs (Keeps.regs ((leaveProgress_keeps (m := 917503) (s0 := s) q s (by decide)).mpr (Keeps.refl _ _)) (by decide))) (Nat.and_self m)

@[simp] theorem failBlockWrite_rgK {m : Nat} {s0 : State} (t0 : Transfer) (s : State) (hm : m &&& 13834917317793808383 = m) :
    RgK m s0 (failBlockWrite t0 s) ↔ RgK m s0 s := rgK_of 13834917317793808383 (by unfold failBlockWrite; (repeat' split) <;> simp) hm

@[simp] theorem mapOut_rgK {m : Nat} {s0 : State} (peer : Nat) (num : Nat) (f : OutCtx → OutCtx) (s : State) :
    RgK m s0 (mapOut peer num f s) ↔ RgK m s0 s := rgK_of m (by exact rgK_of_regs (Keeps.regs ((mapOut_keeps (m := 1040383) (s0 := s) peer num f s (by decide)).mpr (Keeps.refl _ _)) (by decide))) (Nat.and_self m)

@[simp] theorem mapIn_rgK {m : Nat} {s0 : State} (peer : Nat) (num : Nat) (f : List Lease → List Lease) (s : State) :
    RgK m s0 (mapIn peer num f s) ↔ RgK m s0 s := rgK_of m (by exact rgK_of_regs (Keeps.regs ((mapIn_keeps (m := 1040383) (s0 := s) peer num f s (by decide)).mpr (Keeps.refl _ _)) (by decide))) (Nat.and_self m)

@[simp] theorem takeGrant_rgK {m : Nat} {s0 : State} (m0 : LeaseMsg) (s : State) :
    RgK m s0 (takeGrant m0 s) ↔ RgK m s0 s := rgK_of m (by exact rgK_of_regs (Keeps.regs ((takeGrant_keeps (m := 1040383) (s0 := s) m0 s (by decide)).mpr (Keeps.refl _ _)) (by decide))) (Nat.and_self m)

@[simp] theorem takeRenewal_rgK {m : Nat} {s0 : State} (m0 : LeaseMsg) (s : State) (hm : m &&& 18446744060824649727 = m) :
    RgK m s0 (takeRenewal m0 s) ↔ RgK m s0 s := rgK_of 18446744060824649727 (by unfold takeRenewal; (repeat' split) <;> simp) hm

@[simp] theorem takeRenewalAck_rgK {m : Nat} {s0 : State} (m0 : LeaseMsg) (s : State) :
    RgK m s0 (takeRenewalAck m0 s) ↔ RgK m s0 s := rgK_of m (by exact rgK_of_regs (Keeps.regs ((takeRenewalAck_keeps (m := 1040383) (s0 := s) m0 s (by decide)).mpr (Keeps.refl _ _)) (by decide))) (Nat.and_self m)

@[simp] theorem takeReturn_rgK {m : Nat} {s0 : State} (m0 : LeaseMsg) (s : State) (hm : m &&& 18446743768764776191 = m) :
    RgK m s0 (takeReturn m0 s) ↔ RgK m s0 s := rgK_of 18446743768764776191 (by unfold takeReturn; (repeat' split) <;> simp) hm

@[simp] theorem ifTagged_rgK {m : Nat} {s0 : State} (tag : Nat) (f : State → State) (s : State) (hm : m &&& 18446744069414584319 = m)
    (h : ∀ u, RgK m u (f u)) : RgK m s0 (ifTagged tag f s) ↔ RgK m s0 s := by
  unfold ifTagged
  split
  · exact rgK_of m (h _) (Nat.and_self m)
  · simp [hm]

@[simp] theorem lateExpiry_rgK {m : Nat} {s0 : State} (x : LateLease) (s : State) (hm : m &&& 18446744065119617023 = m) :
    RgK m s0 (lateExpiry x s) ↔ RgK m s0 s := rgK_of 18446744065119617023 (by unfold lateExpiry; (repeat' split) <;> simp) hm

@[simp] theorem reclaim_rgK {m : Nat} {s0 : State} (peer : Nat) (ctx : Nat) (s : State) :
    RgK m s0 (reclaim peer ctx s) ↔ RgK m s0 s := rgK_of m (by exact rgK_of_regs (Keeps.regs ((reclaim_keeps (m := 1040383) (s0 := s) peer ctx s (by decide)).mpr (Keeps.refl _ _)) (by decide))) (Nat.and_self m)

@[simp] theorem takeToken_rgK {m : Nat} {s0 : State} (m0 : TokenMsg) (s : State) (hm : m &&& 18446744073709551359 = m) :
    RgK m s0 (takeToken m0 s) ↔ RgK m s0 s := rgK_of 18446744073709551359 (by unfold takeToken; (repeat' split) <;> simp) hm

@[simp] theorem returnDropped_rgK {m : Nat} {s0 : State} (x : Carried) (s : State) (hm : m &&& 18446743768764776191 = m) :
    RgK m s0 (returnDropped x s) ↔ RgK m s0 s := rgK_of 18446743768764776191 (by unfold returnDropped; (repeat' split) <;> simp) hm

@[simp] theorem dropParcel_rgK {m : Nat} {s0 : State} (x : Carried) (key : Nat) (value : Nat) (s : State) (hm : m &&& 18446743768764776175 = m) :
    RgK m s0 (dropParcel x key value s) ↔ RgK m s0 s := rgK_of 18446743768764776175 (by unfold dropParcel; (repeat' split) <;> simp) hm

@[simp] theorem noPlane_rgK {m : Nat} {s0 : State} (k : Nat) (t1 : Nat) (s : State) (hm : m &&& 18446744056529682415 = m) :
    RgK m s0 (noPlane k t1 s) ↔ RgK m s0 s := rgK_of 18446744056529682415 (by unfold noPlane; (repeat' split) <;> simp) hm

@[simp] theorem bindParcel_rgK {m : Nat} {s0 : State} (x : Carried) (h1 : Hop) (lane : Nat × Nat) (s : State) (hm : m &&& 18446744052234715135 = m) :
    RgK m s0 (bindParcel x h1 lane s) ↔ RgK m s0 s := rgK_of 18446744052234715135 (by unfold bindParcel; (repeat' split) <;> simp) hm

theorem tryHop_rgK (x : Carried) (h : Hop) (s t : State) (e : tryHop x h s = some t) : RgK 18446744052234715135 s t := by
  unfold tryHop at e
  simp only [Option.map_eq_some_iff] at e
  obtain ⟨lane, _, rfl⟩ := e
  simp

@[simp] theorem withQueue_rgK {m : Nat} {s0 : State} (cls : Nat) (q : List Carried) (s : State) :
    RgK m s0 (withQueue cls q s) ↔ RgK m s0 s := rgK_of m (by exact rgK_of_regs (Keeps.regs ((withQueue_keeps (m := 1040383) (s0 := s) cls q s (by decide)).mpr (Keeps.refl _ _)) (by decide))) (Nat.and_self m)

@[simp] theorem forwardOne_rgK {m : Nat} {s0 : State} (cls : Nat) (kept : List Carried) (heads : List (Option (Nat × Nat × Nat)))
    (l : List Carried) (s : State) (hm : m &&& 18446743768764776175 = m) :
    RgK m s0 (forwardOne cls kept heads l s) ↔ RgK m s0 s := rgK_of 18446743768764776175 (by
  induction l generalizing kept heads s with
  | nil => simp [forwardOne]
  | cons x rest ih =>
    unfold forwardOne
    extract_lets q route
    split
    · exact ih _ _ _
    · clear_value route
      cases route with
      | deliver => simp
      | discard k v => simp
      | hop h =>
        dsimp only
        split
        · rename_i t ht
          have h1 := tryHop_rgK _ _ _ _ ht
          exact RgK.trans (by simp) (h1.mono (by decide))
        · refine RgK.trans ?_ (ih _ _ _)
          (repeat' split) <;> simp) hm

@[simp] theorem badAddress_rgK {m : Nat} {s0 : State} (p : Nat) (c : Nat) (h2 : FlitHead) (s : State) (hm : m &&& 18446744052167606255 = m) :
    RgK m s0 (badAddress p c h2 s) ↔ RgK m s0 s := rgK_of 18446744052167606255 (by unfold badAddress; (repeat' split) <;> simp) hm

@[simp] theorem nakLane_rgK {m : Nat} {s0 : State} (p : Nat) (c : Nat) (s : State) (hm : m &&& 18446744069414584319 = m) :
    RgK m s0 (nakLane p c s) ↔ RgK m s0 s := rgK_of 18446744069414584319 (by unfold nakLane; (repeat' split) <;> simp) hm

@[simp] theorem takeFlitCredit_rgK {m : Nat} {s0 : State} (p : Nat) (c : Nat) (h2 : FlitHead) (s : State) (hm : m &&& 18446744052234715135 = m) :
    RgK m s0 (takeFlitCredit p c h2 s) ↔ RgK m s0 s := rgK_of 18446744052234715135 (by unfold takeFlitCredit; (repeat' split) <;> simp) hm

@[simp] theorem takeFlitWord_rgK {m : Nat} {s0 : State} (h0 : FlitHead) (area : Bytes) (s : State) (hm : m &&& 18446743768764776175 = m) :
    RgK m s0 (takeFlitWord h0 area s) ↔ RgK m s0 s := rgK_of 18446743768764776175 (by unfold takeFlitWord; (repeat' split) <;> simp) hm

@[simp] theorem acceptParcel_rgK {m : Nat} {s0 : State} (s : State) (x : Carried) (hm : m &&& 18446744069414584319 = m) :
    RgK m s0 (acceptParcel s x) ↔ RgK m s0 s := rgK_of 18446744069414584319 (by unfold acceptParcel; (repeat' split) <;> simp) hm

@[simp] theorem takeParcels_rgK {m : Nat} {s0 : State} (p : Nat) (c : Nat) (h2 : FlitHead) (area : Bytes) (s : State) (hm : m &&& 18446744069414584319 = m) :
    RgK m s0 (takeParcels p c h2 area s) ↔ RgK m s0 s := rgK_of 18446744069414584319 (by unfold takeParcels; (repeat' split) <;> simp) hm

@[simp] theorem takeDataFlit_rgK {m : Nat} {s0 : State} (p : Nat) (c : Nat) (h2 : FlitHead) (area : Bytes) (s : State) (hm : m &&& 18446743768764776175 = m) :
    RgK m s0 (takeDataFlit p c h2 area s) ↔ RgK m s0 s := rgK_of 18446743768764776175 (by unfold takeDataFlit; dsimp only; (repeat' split) <;> simp [*]) hm

@[simp] theorem resendFlits_rgK {m : Nat} {s0 : State} (p : Nat) (c : Nat) (s : State) (hm : m &&& 18446744052234715119 = m) :
    RgK m s0 (resendFlits p c s) ↔ RgK m s0 s := rgK_of 18446744052234715119 (by unfold resendFlits; (repeat' split) <;> simp) hm

@[simp] theorem giveBack_rgK {m : Nat} {s0 : State} (c : Option InCtx) (p : Parcel) (s : State) (hm : m &&& 18446744060824649727 = m) :
    RgK m s0 (giveBack c p s) ↔ RgK m s0 s := rgK_of 18446744060824649727 (by unfold giveBack; (repeat' split) <;> simp) hm

@[simp] theorem badTagParcel_rgK {m : Nat} {s0 : State} (p : Parcel) (s : State) (hm : m &&& 17582013057891008239 = m) :
    RgK m s0 (badTagParcel p s) ↔ RgK m s0 s := rgK_of 17582013057891008239 (by unfold badTagParcel; (repeat' split) <;> simp) hm

@[simp] theorem takeControl_rgK {m : Nat} {s0 : State} (p : Parcel) (s : State) (hm : m &&& 18446690992206642927 = m) :
    RgK m s0 (takeControl p s) ↔ RgK m s0 s := rgK_of 18446690992206642927 (by unfold takeControl; (repeat' split) <;> simp) hm

@[simp] theorem takeData_rgK {m : Nat} {s0 : State} (c : InCtx) (p : Parcel) (s : State) (hm : m &&& 17582013057891008239 = m) :
    RgK m s0 (takeData c p s) ↔ RgK m s0 s := rgK_of 17582013057891008239 (by unfold takeData; (repeat' split) <;> simp) hm

@[simp] theorem noContext_rgK {m : Nat} {s0 : State} (p : Parcel) (s : State) (hm : m &&& 18446744060824649727 = m) :
    RgK m s0 (noContext p s) ↔ RgK m s0 s := rgK_of 18446744060824649727 (by unfold noContext; (repeat' split) <;> simp) hm

@[simp] theorem deliverParcel_rgK {m : Nat} {s0 : State} (p : Parcel) (s : State) (hm : m &&& 17581995465704963823 = m) :
    RgK m s0 (deliverParcel p s) ↔ RgK m s0 s := rgK_of 17581995465704963823 (by unfold deliverParcel; (repeat' split) <;> simp) hm

@[simp] theorem tick_rgK {m : Nat} {s0 : State} (s : State) (hm : m &&& 13690801824772128463 = m) :
    RgK m s0 (tick s) ↔ RgK m s0 s := rgK_of 13690801824772128463 (by unfold tick; dsimp only; (repeat' split) <;> simp [*]) hm

end Sys2Proof.Machine
end

