-- ==== Sys2Proof/Laws/ObjectFrameCommands.lean ====
section
/-! SUPPORT. Which objects of the register file each command leaves alone: one lemma per command that is not a
general write. -/

namespace Sys2Proof.Machine

theorem execMemoryReadRequest_rgK (p : Packet) (ecc : MemEcc) (s : State) (t : State) (h : execMemoryReadRequest p ecc s = .next t) : RgK 13690802112534937551 s t := by
  unfold execMemoryReadRequest at h
  split at h
  · cases h
  · cases h; repeat' (first | (simp; done) | split)

theorem execMemoryWrite_rgK (p : Packet) (data : Bytes) (s : State) (t : State) (h : execMemoryWrite p data s = .next t) : RgK 18446744056527585263 s t := by
  unfold execMemoryWrite at h
  split at h
  · cases h
  · cases h; repeat' (first | (simp; done) | split)

theorem execMemoryReadResponse_rgK (die : Nat) (ep : Nat) (tag : Nat) (_data : Bytes) (poison : Bool) (s : State) (t : State) (h : execMemoryReadResponse die ep tag _data poison s = .next t) : RgK 18446744056529682415 s t := by
  simp only [execMemoryReadResponse, Host.Outcome.next.injEq] at h; subst h; (repeat' split) <;> simp

theorem execWriteAcknowledgement_rgK (die : Nat) (ep : Nat) (tag : Nat) (inv : Bool) (addr : Nat) (s : State) (t : State) (h : execWriteAcknowledgement die ep tag inv addr s = .next t) : RgK 18446744073709551615 s t :=
  rgK_of_regs ((execWriteAcknowledgement_keeps die ep tag inv addr s t h).regs (by decide))

theorem execWriteCombineTimeout_rgK (controller : Nat) (line : Nat) (s : State) (t : State) (h : execWriteCombineTimeout controller line s = .next t) : RgK 18446744073707454463 s t := by
  simp only [execWriteCombineTimeout, Host.Outcome.next.injEq] at h; subst h; (repeat' split) <;> simp

theorem execHbmRefresh_rgK (stack : Nat) (bank : Nat) (s : State) (t : State) (h : execHbmRefresh stack bank s = .next t) : RgK 18446744073709551615 s t :=
  rgK_of_regs ((execHbmRefresh_keeps stack bank s t h).regs (by decide))

theorem execHbmTemperatureReadout_rgK (temps : List Nat) (s : State) (t : State) (h : execHbmTemperatureReadout temps s = .next t) : RgK 18446744056529682415 s t := by
  simp only [execHbmTemperatureReadout, Host.Outcome.next.injEq] at h; subst h; (repeat' split) <;> simp

theorem execPatrolScrub_rgK (found : List ScrubFinding) (s : State) (t : State) (h : execPatrolScrub found s = .next t) : RgK 18446744056522342383 s t := by
  simp only [execPatrolScrub, Host.Outcome.next.injEq] at h; subst h; (repeat' split) <;> simp

theorem execHbmTrainingComplete_rgK (failures : List LaneFailure) (s : State) (t : State) (h : execHbmTrainingComplete failures s = .next t) : RgK 13690802112537952207 s t := by
  unfold execHbmTrainingComplete at h
  cases h
  split
  · simp
  · exact (trainingDone_rgK _ (by decide)).mpr ((trainStacks_rgK _ _ (by decide)).mpr (by simp))

theorem execGeneratorWriteReadCheck_rgK (q : Req) (g : GenReq) (s : State) (t : State) (h : execGeneratorWriteReadCheck q g s = .next t) : RgK 13835058038101770219 s t := by
  simp only [execGeneratorWriteReadCheck, Host.Outcome.next.injEq] at h; subst h; (repeat' split) <;> simp

theorem execGeneratorWrite_rgK (q : Req) (g : GenReq) (s : State) (t : State) (h : execGeneratorWrite q g s = .next t) : RgK 13835058038101770219 s t := by
  simp only [execGeneratorWrite, Host.Outcome.next.injEq] at h; subst h; (repeat' split) <;> simp

theorem execGeneratorReadCheck_rgK (q : Req) (g : GenReq) (s : State) (t : State) (h : execGeneratorReadCheck q g s = .next t) : RgK 13835058038101770219 s t := by
  simp only [execGeneratorReadCheck, Host.Outcome.next.injEq] at h; subst h; (repeat' split) <;> simp

theorem execGeneratorStopAll_rgK (q : Req) (g : GenReq) (s : State) (t : State) (h : execGeneratorStopAll q g s = .next t) : RgK 13835058038101770219 s t := by
  simp only [execGeneratorStopAll, Host.Outcome.next.injEq] at h; subst h; (repeat' split) <;> simp

theorem execGeneratorComplete_rgK (symbols : List (Nat × Nat)) (mismatches : Nat) (first : W32) (s : State) (t : State) (h : execGeneratorComplete symbols mismatches first s = .next t) : RgK 18446744073706930175 s t := by
  simp only [execGeneratorComplete, Host.Outcome.next.injEq] at h; subst h; (repeat' split) <;> simp

theorem execPartitionSettingWrite_rgK (q : Req) (sub : Nat) (value : W32) (s : State) (t : State) (h : execPartitionSettingWrite q sub value s = .next t) : RgK 13835058038102032363 s t := by
  simp only [execPartitionSettingWrite, Host.Outcome.next.injEq] at h; subst h; (repeat' split) <;> simp

theorem execQuadrantLocalBoundaryWrite_rgK (q : Req) (b : Nat) (s : State) (t : State) (h : execQuadrantLocalBoundaryWrite q b s = .next t) : RgK 13835058038100066283 s t := by
  simp only [execQuadrantLocalBoundaryWrite, Host.Outcome.next.injEq] at h; subst h; (repeat' split) <;> simp

theorem execHostCopyRequest_rgK (q : Req) (value : Bytes) (s : State) (t : State) (h : execHostCopyRequest q value s = .next t) : RgK 13835058038102294507 s t := by
  simp only [execHostCopyRequest, Host.Outcome.next.injEq] at h; subst h; (repeat' split) <;> simp

theorem execHostCopyComplete_rgK (s : State) (t : State) (h : execHostCopyComplete s = .next t) : RgK 13835058038075031535 s t := by
  simp only [execHostCopyComplete, Host.Outcome.next.injEq] at h; subst h; (repeat' split) <;> simp

theorem execCrumbFire_rgK (half : Nat) (core : Nat) (errs : List StoreErr) (s : State) (t : State) (h : execCrumbFire half core errs s = .next t) : RgK 16140901047297085423 s t := by
  unfold execCrumbFire at h
  cases h
  split
  · simp
  · refine (onScore_rgK _ _ ?_).mpr ?_
    · intro sc u
      split
      · simp
      · split <;> simp
    · simp

theorem execCrumbRetire_rgK (half : Nat) (core : Nat) (unit : Nat) (s : State) (t : State) (h : execCrumbRetire half core unit s = .next t) : RgK 18446743798831644415 s t := by
  unfold execCrumbRetire at h; cases h; dsimp only; repeat' (first | (simp; done) | split | (refine (onScore_rgK _ _ ?_).mpr ?_ <;> intros) | (apply rgK_foldl <;> intros))

theorem execWatchSampleComplete_rgK (half : Nat) (core : Nat) (s : State) (t : State) (h : execWatchSampleComplete half core s = .next t) : RgK 16140901064495857663 s t := by
  simp only [execWatchSampleComplete, Host.Outcome.next.injEq] at h; subst h; (repeat' split) <;> simp

theorem execCommitGatedRetire_rgK (half : Nat) (core : Nat) (s : State) (t : State) (h : execCommitGatedRetire half core s = .next t) : RgK 18446743781649678063 s t := by
  unfold execCommitGatedRetire at h
  cases h
  split
  · simp
  · refine (onScore_rgK _ _ ?_).mpr ?_
    · intro sc u
      split
      · simp
      · split <;> simp
    · simp

theorem execPadElision_rgK (half : Nat) (core : Nat) (s : State) (t : State) (h : execPadElision half core s = .next t) : RgK 18446743781649677551 s t := by
  unfold execPadElision at h
  cases h
  split
  · simp
  · refine (onScore_rgK _ _ ?_).mpr ?_
    · intro sc u
      split
      · simp
      · split <;> simp
    · simp

theorem execStealing_rgK (half : Nat) (claim : StealClaim) (s : State) (t : State) (h : execStealing half claim s = .next t) : RgK 16140901047297084911 s t := by
  unfold execStealing at h; cases h; dsimp only; repeat' (first | (simp; done) | split | (refine (onScore_rgK _ _ ?_).mpr ?_ <;> intros) | (apply rgK_foldl <;> intros))

theorem execTokenPacket_rgK (token : Nat) (inc : Nat) (s : State) (t : State) (h : execTokenPacket token inc s = .next t) : RgK 18446744073709551359 s t := by
  simp only [execTokenPacket, Host.Outcome.next.injEq] at h; subst h; (repeat' split) <;> simp

theorem execCreditGrantPacket_rgK (die : Nat) (ep : Nat) (cls : Nat) (granules : Nat) (to_ : GrantTo) (s : State) (t : State) (h : execCreditGrantPacket die ep cls granules to_ s = .next t) : RgK 18446744073709551615 s t :=
  rgK_of_regs ((execCreditGrantPacket_keeps die ep cls granules to_ s t h).regs (by decide))

theorem execCopyJobFire_rgK (die : Nat) (engine : Nat) (s : State) (t : State) (h : execCopyJobFire die engine s = .next t) : RgK 18446744056510808047 s t := by
  unfold execCopyJobFire at h; cases h; dsimp only; repeat' (first | (simp; done) | split | (refine (onScore_rgK _ _ ?_).mpr ?_ <;> intros) | (apply rgK_foldl <;> intros))

theorem execCopyJobRetire_rgK (die : Nat) (engine : Nat) (s : State) (t : State) (h : execCopyJobRetire die engine s = .next t) : RgK 18446744073709551359 s t := by
  unfold execCopyJobRetire at h; cases h; dsimp only; repeat' (first | (simp; done) | split | (refine (onScore_rgK _ _ ?_).mpr ?_ <;> intros) | (apply rgK_foldl <;> intros))

theorem execStreamSegmentStart_rgK (stream : Nat) (s : State) (t : State) (h : execStreamSegmentStart stream s = .next t) : RgK 18446744056527585263 s t := by
  unfold execStreamSegmentStart at h; cases h; dsimp only; repeat' (first | (simp; done) | split | (refine (onScore_rgK _ _ ?_).mpr ?_ <;> intros) | (apply rgK_foldl <;> intros))

theorem execStreamSegmentComplete_rgK (stream : Nat) (s : State) (t : State) (h : execStreamSegmentComplete stream s = .next t) : RgK 18446744073707454207 s t := by
  unfold execStreamSegmentComplete at h; cases h; dsimp only; repeat' (first | (simp; done) | split | (refine (onScore_rgK _ _ ?_).mpr ?_ <;> intros) | (apply rgK_foldl <;> intros))

theorem execStackPortTransfer_rgK (cd : Nat) (port : Nat) (toBase : Bool) (data : Bytes) (errs : List Nat) (credit : Nat × Nat) (s : State) (t : State) (h : execStackPortTransfer cd port toBase data errs credit s = .next t) : RgK 13690801975099129807 s t := by
  simp only [execStackPortTransfer, Host.Outcome.next.injEq] at h; subst h; (repeat' split) <;> simp

theorem execQlDataUnit_rgK (u : QlUnit) (payload : Bytes) (s : State) (t : State) (h : execQlDataUnit u payload s = .next t) : RgK 18446744056529682415 s t := by
  simp only [execQlDataUnit, Host.Outcome.next.injEq] at h; subst h; (repeat' split) <;> simp

theorem execQlIdleUnit_rgK (u : QlUnit) (s : State) (t : State) (h : execQlIdleUnit u s = .next t) : RgK 18446744073709551615 s t :=
  rgK_of_regs ((execQlIdleUnit_keeps u s t h).regs (by decide))

theorem execQlNakUnit_rgK (u : QlUnit) (s : State) (t : State) (h : execQlNakUnit u s = .next t) : RgK 13690802009458868175 s t := by
  simp only [execQlNakUnit, Host.Outcome.next.injEq] at h; subst h; (repeat' split) <;> simp

theorem execQlReplayTimeout_rgK (link : Nat) (up : Bool) (s : State) (t : State) (h : execQlReplayTimeout link up s = .next t) : RgK 13690802009458868175 s t := by
  simp only [execQlReplayTimeout, Host.Outcome.next.injEq] at h; subst h; (repeat' split) <;> simp

theorem execQlRetrainComplete_rgK (link : Nat) (repaired : Nat) (exhausted : BitVec 8) (beyond : Bool) (s : State) (t : State) (h : execQlRetrainComplete link repaired exhausted beyond s = .next t) : RgK 13690802078178344911 s t := by
  unfold execQlRetrainComplete at h; dsimp only at h; split at h <;> first | (cases h; simp; done) | (cases h; dsimp only; repeat' (first | (simp; done) | split); done) | (rw [settled_next h]; simp; done)

theorem execQlRetrainTimeout_rgK (link : Nat) (s : State) (t : State) (h : execQlRetrainTimeout link s = .next t) : RgK 13690802112538083279 s t := by
  simp only [execQlRetrainTimeout, Host.Outcome.next.injEq] at h; subst h; (repeat' split) <;> simp

theorem execPralineRepeat_rgK (s : State) (t : State) (h : execPralineRepeat s = .next t) : RgK 18446743768766873599 s t := by
  simp only [execPralineRepeat, Host.Outcome.next.injEq] at h; subst h; (repeat' split) <;> simp

theorem execCollectiveLaunch_rgK (coll : Nat) (s : State) (t : State) (h : execCollectiveLaunch coll s = .next t) : RgK 18446743768764776175 s t := by
  unfold execCollectiveLaunch at h; cases h; dsimp only; repeat' (first | (simp; done) | split | (refine (onScore_rgK _ _ ?_).mpr ?_ <;> intros) | (apply rgK_foldl <;> intros))

theorem execCollectiveChunk_rgK (c : Chunk) (s : State) (t : State) (h : execCollectiveChunk c s = .next t) : RgK 18446743768764776175 s t := by
  simp only [execCollectiveChunk, Host.Outcome.next.injEq] at h; subst h; (repeat' split) <;> simp

theorem execPralineWord_rgK (w : Praline) (s : State) (t : State) (h : execPralineWord w s = .next t) : RgK 18446743768764776175 s t := by
  simp only [execPralineWord, Host.Outcome.next.injEq] at h; subst h; (repeat' split) <;> simp

theorem execVerdictPoint_rgK (s : State) (t : State) (h : execVerdictPoint s = .next t) : RgK 18446682196115718127 s t := by
  simp only [execVerdictPoint, Host.Outcome.next.injEq] at h; subst h; (repeat' split) <;> simp

theorem execPairDigestReceive_rgK (m0 : PairDigestMsg) (s : State) (t : State) (h : execPairDigestReceive m0 s = .next t) : RgK 18446690992208740335 s t := by
  simp only [execPairDigestReceive, Host.Outcome.next.injEq] at h; subst h; (repeat' split) <;> simp

theorem execVerdictReductionComplete_rgK (s : State) (t : State) (h : execVerdictReductionComplete s = .next t) : RgK 16429082207435357935 s t := by
  unfold execVerdictReductionComplete at h
  cases h
  split
  · simp
  · refine (onScore_rgK _ _ ?_).mpr ?_
    · intro sc u
      split <;> simp
    · simp

theorem execLossReductionComplete_rgK (s : State) (t : State) (h : execLossReductionComplete s = .next t) : RgK 16429082770076073711 s t := by
  unfold execLossReductionComplete at h; cases h; dsimp only; repeat' (first | (simp; done) | split | (refine (onScore_rgK _ _ ?_).mpr ?_ <;> intros) | (apply rgK_foldl <;> intros))

theorem execSecuringTransfer_rgK (s : State) (t : State) (h : execSecuringTransfer s = .next t) : RgK 18446708859270594543 s t := by
  unfold execSecuringTransfer at h; cases h; dsimp only; repeat' (first | (simp; done) | split | (refine (onScore_rgK _ _ ?_).mpr ?_ <;> intros) | (apply rgK_foldl <;> intros))

theorem execOpticalCommissioningComplete_rgK (found : List Nat × List (List Nat)) (s : State) (t : State) (h : execOpticalCommissioningComplete found s = .next t) : RgK 18446744073709551615 s t :=
  rgK_of_regs ((execOpticalCommissioningComplete_keeps found s t h).regs (by decide))

theorem execRecommissionPort_rgK (q : Req) (port : Nat) (s : State) (t : State) (h : execRecommissionPort q port s = .next t) : RgK 13835058038102294507 s t := by
  unfold execRecommissionPort at h; rw [settled_next h]; simp

theorem execLaneFrame_rgK (f : LaneFrame) (s : State) (t : State) (h : execLaneFrame f s = .next t) : RgK 18446744052167606255 s t := by
  simp only [execLaneFrame, Host.Outcome.next.injEq] at h; subst h; (repeat' split) <;> simp

theorem execLaneFrameTimeout_rgK (port : Nat) (colour : Nat) (linePresent : Bool) (s : State) (t : State) (h : execLaneFrameTimeout port colour linePresent s = .next t) : RgK 18446744056462573551 s t := by
  simp only [execLaneFrameTimeout, Host.Outcome.next.injEq] at h; subst h; (repeat' split) <;> simp

theorem execRingLockLoop_rgK (tx : Bool) (port : Nat) (ring : Nat) (step : Int) (found : LoopResult) (s : State) (t : State) (h : execRingLockLoop tx port ring step found s = .next t) : RgK 18446744056462573551 s t := by
  simp only [execRingLockLoop, Host.Outcome.next.injEq] at h; subst h; (repeat' split) <;> simp

theorem execSearchCandidateTimeout_rgK (port : Nat) (colour : Nat) (s : State) (t : State) (h : execSearchCandidateTimeout port colour s = .next t) : RgK 18446744056462573551 s t := by
  simp only [execSearchCandidateTimeout, Host.Outcome.next.injEq] at h; subst h; (repeat' split) <;> simp

theorem execRingSearchLineReached_rgK (tx : Bool) (port : Nat) (colour : Nat) (line : Nat × Nat) (accepted : Bool) (crossings : Nat) (s : State) (t : State) (h : execRingSearchLineReached tx port colour line accepted crossings s = .next t) : RgK 18446744056462573551 s t := by
  simp only [execRingSearchLineReached, Host.Outcome.next.injEq] at h; subst h; (repeat' split) <;> simp

theorem execAnchorSweepRetry_rgK (port : Nat) (s : State) (t : State) (h : execAnchorSweepRetry port s = .next t) : RgK 18446744073709551615 s t :=
  rgK_of_regs ((execAnchorSweepRetry_keeps port s t h).regs (by decide))

theorem execTransmitGenerationWrite_rgK (q : Req) (sub : Nat) (gen : Nat) (s : State) (t : State) (h : execTransmitGenerationWrite q sub gen s = .next t) : RgK 13835058038068740075 s t := by
  simp only [execTransmitGenerationWrite, Host.Outcome.next.injEq] at h; subst h; (repeat' split) <;> simp

theorem execWavelengthCheck_rgK (laser : Nat) (offsetMHz : Int) (s : State) (t : State) (h : execWavelengthCheck laser offsetMHz s = .next t) : RgK 18446744073709551615 s t :=
  rgK_of_regs ((execWavelengthCheck_keeps laser offsetMHz s t h).regs (by decide))

theorem execCalibrationSlot_rgK (port : Nat) (ringsGood : Bool × Bool) (s : State) (t : State) (h : execCalibrationSlot port ringsGood s = .next t) : RgK 18446744056462573551 s t := by
  simp only [execCalibrationSlot, Host.Outcome.next.injEq] at h; subst h; (repeat' split) <;> simp

theorem execCalibrationSlotEnd_rgK (port : Nat) (back : Bool) (farOff : Bool) (s : State) (t : State) (h : execCalibrationSlotEnd port back farOff s = .next t) : RgK 18446744052167606255 s t := by
  simp only [execCalibrationSlotEnd, Host.Outcome.next.injEq] at h; subst h; (repeat' split) <;> simp

theorem execLaserPowerReading_rgK (spare : Bool) (laser : Nat) (reading : Nat) (s : State) (t : State) (h : execLaserPowerReading spare laser reading s = .next t) : RgK 18446744056462573551 s t := by
  simp only [execLaserPowerReading, Host.Outcome.next.injEq] at h; subst h; (repeat' split) <;> simp

theorem execSpareLaserLocked_rgK (engine : Nat) (spare : Nat) (s : State) (t : State) (h : execSpareLaserLocked engine spare s = .next t) : RgK 18446744056462573551 s t := by
  simp only [execSpareLaserLocked, Host.Outcome.next.injEq] at h; subst h; (repeat' split) <;> simp

theorem execStepStart_rgK (s : State) (t : State) (h : execStepStart s = .next t) : RgK 18446743768764776047 s t := by
  simp only [execStepStart, Host.Outcome.next.injEq] at h; subst h; (repeat' split) <;> simp

theorem execStepBoundary_rgK (s : State) (t : State) (h : execStepBoundary s = .next t) : RgK 15276209905975918319 s t := by
  simp only [execStepBoundary, Host.Outcome.next.injEq] at h; subst h; (repeat' split) <;> simp

theorem execStepStalled_rgK (s : State) (t : State) (h : execStepStalled s = .next t) : RgK 13690802112538083279 s t := by
  simp only [execStepStalled, Host.Outcome.next.injEq] at h; subst h; (repeat' split) <;> simp

theorem execJoin_rgK (src : Nat) (dst : Nat) (msg : Nat) (s : State) (t : State) (h : execJoin src dst msg s = .next t) : RgK 13830272963498213357 s t := by
  simp only [execJoin, Host.Outcome.next.injEq] at h; subst h; (repeat' split) <;> simp

theorem execGrantSteps_rgK (q : Req) (steps : Nat) (s : State) (t : State) (h : execGrantSteps q steps s = .next t) : RgK 13835058038102294379 s t := by
  simp only [execGrantSteps, Host.Outcome.next.injEq] at h; subst h; (repeat' split) <;> simp

theorem execPostMicroBatch_rgK (q : Req) (p : Post) (s : State) (t : State) (h : execPostMicroBatch q p s = .next t) : RgK 13835058038102293483 s t := by
  simp only [execPostMicroBatch, Host.Outcome.next.injEq] at h; subst h; (repeat' split) <;> simp

theorem execFrameMark_rgK (m0 : FrameMark) (crc : W32) (s : State) (t : State) (h : execFrameMark m0 crc s = .next t) : RgK 18439988674268495865 s t := by
  simp only [execFrameMark, Host.Outcome.next.injEq] at h; subst h; (repeat' split) <;> simp

theorem execMessageTimeout_rgK (src : Nat) (sess : Nat) (msg : Nat) (s : State) (t : State) (h : execMessageTimeout src sess msg s = .next t) : RgK 18446744073709551611 s t := by
  simp only [execMessageTimeout, Host.Outcome.next.injEq] at h; subst h; (repeat' split) <;> simp

theorem execEventTransmit_rgK (s : State) (t : State) (h : execEventTransmit s = .next t) : RgK 18446744056529682415 s t := by
  simp only [execEventTransmit, Host.Outcome.next.injEq] at h; subst h; (repeat' split) <;> simp

theorem execBulkOpen_rgK (q : Req) (o : BulkOpen) (s : State) (t : State) (h : execBulkOpen q o s = .next t) : RgK 13835058038100197291 s t := by
  simp only [execBulkOpen, Host.Outcome.next.injEq] at h; subst h; (repeat' split) <;> simp

theorem execBulkClose_rgK (q : Req) (chan : Nat) (s : State) (t : State) (h : execBulkClose q chan s = .next t) : RgK 13835058038102294507 s t := by
  simp only [execBulkClose, Host.Outcome.next.injEq] at h; subst h; (repeat' split) <;> simp

theorem execBulkBlockWritten_rgK (chan : Nat) (num : Nat) (data : Bytes) (s : State) (t : State) (h : execBulkBlockWritten chan num data s = .next t) : RgK 18446744056527585215 s t := by
  simp only [execBulkBlockWritten, Host.Outcome.next.injEq] at h; subst h; (repeat' split) <;> simp

theorem execBlockAcknowledgement_rgK (a : BlockAck) (s : State) (t : State) (h : execBlockAcknowledgement a s = .next t) : RgK 18446744073707454463 s t := by
  simp only [execBlockAcknowledgement, Host.Outcome.next.injEq] at h; subst h; (repeat' split) <;> simp

theorem execBlockAckTimeout_rgK (a : BlockAck) (s : State) (t : State) (h : execBlockAckTimeout a s = .next t) : RgK 18446744073707454463 s t := by
  simp only [execBlockAckTimeout, Host.Outcome.next.injEq] at h; subst h; (repeat' split) <;> simp

theorem execCoreTestDue_rgK (half : Nat) (s : State) (t : State) (h : execCoreTestDue half s = .next t) : RgK 18446744073709551615 s t :=
  rgK_of_regs ((execCoreTestDue_keeps half s t h).regs (by decide))

theorem execCoreTestStart_rgK (half : Nat) (s : State) (t : State) (h : execCoreTestStart half s = .next t) : RgK 18446744073709551615 s t :=
  rgK_of_regs ((execCoreTestStart_keeps half s t h).regs (by decide))

theorem execCoreTestOverdue_rgK (half : Nat) (s : State) (t : State) (h : execCoreTestOverdue half s = .next t) : RgK 18410715259510718447 s t := by
  simp only [execCoreTestOverdue, Host.Outcome.next.injEq] at h; subst h; (repeat' split) <;> simp

theorem execCoreTestComplete_rgK (half : Nat) (passed : Bool) (s : State) (t : State) (h : execCoreTestComplete half passed s = .next t) : RgK 13654773315519117263 s t := by
  simp only [execCoreTestComplete, Host.Outcome.next.injEq] at h; subst h; (repeat' split) <;> simp

theorem execSelfTestTileStores_rgK (q : Req) (target : Nat) (reserved : Nat) (s : State) (t : State) (h : execSelfTestTileStores q target reserved s = .next t) : RgK 13763000444064366571 s t := by
  simp only [execSelfTestTileStores, Host.Outcome.next.injEq] at h; subst h; (repeat' split) <;> simp

theorem execSelfTestSharedCache_rgK (q : Req) (target : Nat) (reserved : Nat) (s : State) (t : State) (h : execSelfTestSharedCache q target reserved s = .next t) : RgK 13763000444064366571 s t := by
  simp only [execSelfTestSharedCache, Host.Outcome.next.injEq] at h; subst h; (repeat' split) <;> simp

theorem execSelfTestMemorySideCache_rgK (q : Req) (target : Nat) (reserved : Nat) (s : State) (t : State) (h : execSelfTestMemorySideCache q target reserved s = .next t) : RgK 13763000444064366571 s t := by
  simp only [execSelfTestMemorySideCache, Host.Outcome.next.injEq] at h; subst h; (repeat' split) <;> simp

theorem execSelfTestHbmStack_rgK (q : Req) (target : Nat) (reserved : Nat) (s : State) (t : State) (h : execSelfTestHbmStack q target reserved s = .next t) : RgK 13763000444064366571 s t := by
  simp only [execSelfTestHbmStack, Host.Outcome.next.injEq] at h; subst h; (repeat' split) <;> simp

theorem execSelfTestComplete_rgK (failing : List Nat) (s : State) (t : State) (h : execSelfTestComplete failing s = .next t) : RgK 13582715721481189327 s t := by
  simp only [execSelfTestComplete, Host.Outcome.next.injEq] at h; subst h; (repeat' split) <;> simp

theorem execTestPortEnable_rgK (q : Req) (value : Nat) (s : State) (t : State) (h : execTestPortEnable q value s = .next t) : RgK 13690942850026438635 s t := by
  simp only [execTestPortEnable, Host.Outcome.next.injEq] at h; subst h; (repeat' split) <;> simp

theorem execTapReset_rgK (s : State) (t : State) (h : execTapReset s = .next t) : RgK 18446744073709551615 s t :=
  rgK_of_regs ((execTapReset_keeps s t h).regs (by decide))

theorem execExtest_rgK (s : State) (t : State) (h : execExtest s = .next t) : RgK 18446744073709551615 s t :=
  rgK_of_regs ((execExtest_keeps s t h).regs (by decide))

theorem execSamplePreload_rgK (pins : BitVec 15) (s : State) (t : State) (h : execSamplePreload pins s = .next t) : RgK 18446744073709551615 s t :=
  rgK_of_regs ((execSamplePreload_keeps pins s t h).regs (by decide))

theorem execIdcode_rgK (s : State) (t : State) (h : execIdcode s = .next t) : RgK 18446744073709551615 s t :=
  rgK_of_regs ((execIdcode_keeps s t h).regs (by decide))

theorem execClamp_rgK (s : State) (t : State) (h : execClamp s = .next t) : RgK 18446744073709551615 s t :=
  rgK_of_regs ((execClamp_keeps s t h).regs (by decide))

theorem execHighz_rgK (s : State) (t : State) (h : execHighz s = .next t) : RgK 18446744073709551615 s t :=
  rgK_of_regs ((execHighz_keeps s t h).regs (by decide))

theorem execDieSelect_rgK (select : BitVec 40) (s : State) (t : State) (h : execDieSelect select s = .next t) : RgK 18446744073709551615 s t :=
  rgK_of_regs ((execDieSelect_keeps select s t h).regs (by decide))

theorem execDieAccess_rgK (s : State) (t : State) (h : execDieAccess s = .next t) : RgK 18446744073709551615 s t :=
  rgK_of_regs ((execDieAccess_keeps s t h).regs (by decide))

theorem execBypass_rgK (code : BitVec 8) (s : State) (t : State) (h : execBypass code s = .next t) : RgK 18446744073709551615 s t :=
  rgK_of_regs ((execBypass_keeps code s t h).regs (by decide))

theorem execHello_rgK (msg : Nat) (role : Nat) (key : W256) (_reserved : Nat) (s : State) (t : State) (h : execHello msg role key _reserved s = .next t) : RgK 13835058055282163711 s t := by
  simp only [execHello, Host.Outcome.next.injEq] at h; subst h; (repeat' split) <;> simp

theorem execFinish_rgK (m0 : FinishMsg) (s : State) (t : State) (h : execFinish m0 s = .next t) : RgK 13618814887243808751 s t := by
  simp only [execFinish, Host.Outcome.next.injEq] at h; subst h; (repeat' split) <;> simp

theorem execFinishTimeout_rgK (sess : Nat) (s : State) (t : State) (h : execFinishTimeout sess s = .next t) : RgK 13835058055282163711 s t := by
  simp only [execFinishTimeout, Host.Outcome.next.injEq] at h; subst h; (repeat' split) <;> simp

theorem execClose_rgK (sess : Nat) (named : Nat) (s : State) (t : State) (h : execClose sess named s = .next t) : RgK 13834917300613939183 s t := by
  simp only [execClose, Host.Outcome.next.injEq] at h; subst h; (repeat' split) <;> simp

theorem execFabricKeyInstall_rgK (q : Req) (reserved : Nat) (key : W256) (s : State) (t : State) (h : execFabricKeyInstall q reserved key s = .next t) : RgK 13834776563125583851 s t := by
  simp only [execFabricKeyInstall, Host.Outcome.next.injEq] at h; subst h; (repeat' split) <;> simp

theorem execRegionKeyInstall_rgK (q : Req) (region : Nat) (reserved : Nat) (base : Nat) (length : Nat) (key : BitVec 512) (s : State) (t : State) (h : execRegionKeyInstall q region reserved base length key s = .next t) : RgK 13835058038102294507 s t := by
  simp only [execRegionKeyInstall, Host.Outcome.next.injEq] at h; subst h; (repeat' split) <;> simp

theorem execRegionRemove_rgK (q : Req) (region : Nat) (reserved : Nat) (s : State) (t : State) (h : execRegionRemove q region reserved s = .next t) : RgK 13835058038102294507 s t := by
  simp only [execRegionRemove, Host.Outcome.next.injEq] at h; subst h; (repeat' split) <;> simp

theorem execTenantStateErased_rgK (s : State) (t : State) (h : execTenantStateErased s = .next t) : RgK 18446744073709551615 s t :=
  rgK_of_regs ((execTenantStateErased_keeps s t h).regs (by decide))

theorem execPowerStateRequest_rgK (q : Req) (value : Nat) (s : State) (t : State) (h : execPowerStateRequest q value s = .next t) : RgK 13834495088148217771 s t := by
  unfold execPowerStateRequest at h; rw [settled_next h]; simp

theorem execPowerStateReached_rgK (s : State) (t : State) (h : execPowerStateReached s = .next t) : RgK 13834495088146120623 s t := by
  simp only [execPowerStateReached, Host.Outcome.next.injEq] at h; subst h; (repeat' split) <;> simp

theorem execBlockEnableWrite_rgK (q : Req) (sub : Nat) (value : Nat) (s : State) (t : State) (h : execBlockEnableWrite q sub value s = .next t) : RgK 13833932138195451883 s t := by
  simp only [execBlockEnableWrite, Host.Outcome.next.injEq] at h; subst h; (repeat' split) <;> simp

theorem execPllSettingWrite_rgK (q : Req) (sub : Nat) (value : W32) (s : State) (t : State) (h : execPllSettingWrite q sub value s = .next t) : RgK 13830554438474924011 s t := by
  simp only [execPllSettingWrite, Host.Outcome.next.injEq] at h; subst h; (repeat' split) <;> simp

theorem execSupplyOrTemperatureFault_rgK (m0 : Limits) (s : State) (t : State) (h : execSupplyOrTemperatureFault m0 s = .next t) : RgK 13681794913148469135 s t := by
  simp only [execSupplyOrTemperatureFault, Host.Outcome.next.injEq] at h; subst h; (repeat' split) <;> simp

theorem execThermTrip_rgK (die : Nat) (stack : Nat) (s : State) (t : State) (h : execThermTrip die stack s = .next t) : RgK 18446744073709551615 s t :=
  rgK_of_regs ((execThermTrip_keeps die stack s t h).regs (by decide))

theorem execPmbusPoll_rgK (st : PmStatus) (s : State) (t : State) (h : execPmbusPoll st s = .next t) : RgK 13690802112537427855 s t := by
  simp only [execPmbusPoll, Host.Outcome.next.injEq] at h; subst h; (repeat' split) <;> simp

theorem execPmbusAlert_rgK (st : PmStatus) (s : State) (t : State) (h : execPmbusAlert st s = .next t) : RgK 13690802112537427855 s t := by
  simp only [execPmbusAlert, Host.Outcome.next.injEq] at h; subst h; (repeat' split) <;> simp

theorem execIslandMismatch_rgK (s : State) (t : State) (h : execIslandMismatch s = .next t) : RgK 13690802112538083279 s t := by
  simp only [execIslandMismatch, Host.Outcome.next.injEq] at h; subst h; (repeat' split) <;> simp

theorem execTimeReferenceWrite_rgK (q : Req) (value : Nat) (s : State) (t : State) (h : execTimeReferenceWrite q value s = .next t) : RgK 13832806238288609259 s t := by
  simp only [execTimeReferenceWrite, Host.Outcome.next.injEq] at h; subst h; (repeat' split) <;> simp

theorem execTimeReferenceLost_rgK (s : State) (t : State) (h : execTimeReferenceLost s = .next t) : RgK 18444492273895866367 s t := by
  simp only [execTimeReferenceLost, Host.Outcome.next.injEq] at h; subst h; (repeat' split) <;> simp

theorem execTimeReferenceReturn_rgK (s : State) (t : State) (h : execTimeReferenceReturn s = .next t) : RgK 18444492273895866367 s t := by
  simp only [execTimeReferenceReturn, Host.Outcome.next.injEq] at h; subst h; (repeat' split) <;> simp

theorem execPpsEdge_rgK (s : State) (t : State) (h : execPpsEdge s = .next t) : RgK 18444492273895866367 s t := by
  simp only [execPpsEdge, Host.Outcome.next.injEq] at h; subst h; (repeat' split) <;> simp

theorem execRingClockLoss_rgK (s : State) (t : State) (h : execRingClockLoss s = .next t) : RgK 18446744073709551615 s t :=
  rgK_of_regs ((execRingClockLoss_keeps s t h).regs (by decide))

theorem execRingClockReturn_rgK (linksDown : List Nat) (s : State) (t : State) (h : execRingClockReturn linksDown s = .next t) : RgK 13690802043818606543 s t := by
  simp only [execRingClockReturn, Host.Outcome.next.injEq] at h; subst h; (repeat' split) <;> simp

theorem execResetRelease_rgK (straps : Straps) (s : State) (t : State) (h : execResetRelease straps s = .next t) : RgK 18446744073709551615 s t :=
  rgK_of_regs ((execResetRelease_keeps straps s t h).regs (by decide))

theorem execSymbolLock_rgK (locked : Bool) (s : State) (t : State) (h : execSymbolLock locked s = .next t) : RgK 18446744073709551615 s t :=
  rgK_of_regs ((execSymbolLock_keeps locked s t h).regs (by decide))

theorem execSettleDelayElapsed_rgK (s : State) (t : State) (h : execSettleDelayElapsed s = .next t) : RgK 18446744073709551615 s t :=
  rgK_of_regs ((execSettleDelayElapsed_keeps s t h).regs (by decide))

theorem execIslandSelfTest_rgK (b0 : Bool) (b2 : Bool) (s : State) (t : State) (h : execIslandSelfTest b0 b2 s = .next t) : RgK 18446744073709551615 s t :=
  rgK_of_regs ((execIslandSelfTest_keeps b0 b2 s t h).regs (by decide))

theorem execFirmwareVerified_rgK (img : FwImage) (sigGood : Bool) (s : State) (t : State) (h : execFirmwareVerified img sigGood s = .next t) : RgK 18446744073709551614 s t := by
  simp only [execFirmwareVerified, Host.Outcome.next.injEq] at h; subst h; (repeat' split) <;> simp

theorem execFabricConfigurationWrite_rgK (q : Req) (idx : Nat) (sub : Nat) (value : W32) (s : State) (t : State) (h : execFabricConfigurationWrite q idx sub value s = .next t) : RgK 13835058037296988139 s t := by
  unfold execFabricConfigurationWrite at h; dsimp only at h; split at h <;> first | (cases h; simp; done) | (cases h; dsimp only; repeat' (first | (simp; done) | split); done) | (rw [settled_next h]; simp; done)

theorem execExceptionEntryWrite_rgK (q : Req) (num : Nat) (entry : W64) (s : State) (t : State) (h : execExceptionEntryWrite q num entry s = .next t) : RgK 13835058038102294507 s t := by
  simp only [execExceptionEntryWrite, Host.Outcome.next.injEq] at h; subst h; (repeat' split) <;> simp

theorem execRankOverrideWrite_rgK (q : Req) (num : Nat) (entry : W64) (s : State) (t : State) (h : execRankOverrideWrite q num entry s = .next t) : RgK 13835058038102294507 s t := by
  simp only [execRankOverrideWrite, Host.Outcome.next.injEq] at h; subst h; (repeat' split) <;> simp

theorem execGroupMemberEntryWrite_rgK (q : Req) (num : Nat) (entry : W64) (s : State) (t : State) (h : execGroupMemberEntryWrite q num entry s = .next t) : RgK 13835058038102294507 s t := by
  simp only [execGroupMemberEntryWrite, Host.Outcome.next.injEq] at h; subst h; (repeat' split) <;> simp

theorem execGroupDescriptorWrite_rgK (q : Req) (num : Nat) (entry : W64) (s : State) (t : State) (h : execGroupDescriptorWrite q num entry s = .next t) : RgK 13835058038102294507 s t := by
  simp only [execGroupDescriptorWrite, Host.Outcome.next.injEq] at h; subst h; (repeat' split) <;> simp

theorem execRemoteReadRequest_rgK (m0 : RemoteMsg) (s : State) (t : State) (h : execRemoteReadRequest m0 s = .next t) : RgK 18446708876450463743 s t := by
  simp only [execRemoteReadRequest, Host.Outcome.next.injEq] at h; subst h; (repeat' split) <;> simp

theorem execRemoteWrite_rgK (m0 : RemoteMsg) (s : State) (t : State) (h : execRemoteWrite m0 s = .next t) : RgK 18446708885042495487 s t := by
  simp only [execRemoteWrite, Host.Outcome.next.injEq] at h; subst h; (repeat' split) <;> simp

theorem execRestore_rgK (q : Req) (step : Nat) (s : State) (t : State) (h : execRestore q step s = .next t) : RgK 13835053627170881515 s t := by
  simp only [execRestore, Host.Outcome.next.injEq] at h; subst h; (repeat' split) <;> simp

theorem execRestoreComplete_rgK (s : State) (t : State) (h : execRestoreComplete s = .next t) : RgK 18446704491290951679 s t := by
  simp only [execRestoreComplete, Host.Outcome.next.injEq] at h; subst h; (repeat' split) <;> simp

theorem execRemoteReadResponse_rgK (m0 : RemoteMsg) (s : State) (t : State) (h : execRemoteReadResponse m0 s = .next t) : RgK 17582013057891008239 s t := by
  simp only [execRemoteReadResponse, Host.Outcome.next.injEq] at h; subst h; (repeat' split) <;> simp

theorem execAbandon_rgK (q : Req) (s : State) (t : State) (h : execAbandon q s = .next t) : RgK 13835009659590672235 s t := by
  simp only [execAbandon, Host.Outcome.next.injEq] at h; subst h; (repeat' split) <;> simp

theorem execAbandonComplete_rgK (s : State) (t : State) (h : execAbandonComplete s = .next t) : RgK 13835053640055783407 s t := by
  simp only [execAbandonComplete, Host.Outcome.next.injEq] at h; subst h; (repeat' split) <;> simp

theorem execHoldCommitArm_rgK (q : Req) (step : Nat) (s : State) (t : State) (h : execHoldCommitArm q step s = .next t) : RgK 13835049242009272299 s t := by
  simp only [execHoldCommitArm, Host.Outcome.next.injEq] at h; subst h; (repeat' split) <;> simp

theorem execScaleStateLoad_rgK (q : Req) (value : W64) (s : State) (t : State) (h : execScaleStateLoad q value s = .next t) : RgK 13835058038102294507 s t := by
  simp only [execScaleStateLoad, Host.Outcome.next.injEq] at h; subst h; (repeat' split) <;> simp

theorem execKz8StartScaleWrite_rgK (q : Req) (value : W32) (s : State) (t : State) (h : execKz8StartScaleWrite q value s = .next t) : RgK 13835058038102228971 s t := by
  simp only [execKz8StartScaleWrite, Host.Outcome.next.injEq] at h; subst h; (repeat' split) <;> simp

theorem execExpeditedRead_rgK (q : Req) (idx : Nat) (sub : Nat) (len : Nat) (s : State) (t : State) (h : execExpeditedRead q idx sub len s = .next t) : RgK 18446744073709551611 s t := by
  simp only [execExpeditedRead, Host.Outcome.next.injEq] at h; subst h; (repeat' split) <;> simp

theorem execSegmentedRead_rgK (q : Req) (idx : Nat) (sub : Nat) (len : Nat) (s : State) (t : State) (h : execSegmentedRead q idx sub len s = .next t) : RgK 18446744073709551611 s t := by
  simp only [execSegmentedRead, Host.Outcome.next.injEq] at h; subst h; (repeat' split) <;> simp

theorem execAttestationQuote_rgK (q : Req) (s : State) (t : State) (h : execAttestationQuote q s = .next t) : RgK 18446744073709551611 s t := by
  simp only [execAttestationQuote, Host.Outcome.next.injEq] at h; subst h; (repeat' split) <;> simp

theorem execBlockRead_rgK (q : Req) (idx : Nat) (sub : Nat) (len : Nat) (s : State) (t : State) (h : execBlockRead q idx sub len s = .next t) : RgK 18446744073709551611 s t := by
  simp only [execBlockRead, Host.Outcome.next.injEq] at h; subst h; (repeat' split) <;> simp

theorem execBlockWrite_rgK (q : Req) (idx : Nat) (sub : Nat) (len : Nat) (s : State) (t : State) (h : execBlockWrite q idx sub len s = .next t) : RgK 13834917317793808379 s t := by
  simp only [execBlockWrite, Host.Outcome.next.injEq] at h; subst h; (repeat' split) <;> simp

theorem execFirmwareImageWrite_rgK (q : Req) (length : Nat) (s : State) (t : State) (h : execFirmwareImageWrite q length s = .next t) : RgK 13834917317793808379 s t := by
  simp only [execFirmwareImageWrite, Host.Outcome.next.injEq] at h; subst h; (repeat' split) <;> simp

theorem execLeaseGrant_rgK (m0 : LeaseMsg) (s : State) (t : State) (h : execLeaseGrant m0 s = .next t) : RgK 18446744069414584319 s t := by
  unfold execLeaseGrant at h; cases h; simp

theorem execLeaseRenewal_rgK (m0 : LeaseMsg) (s : State) (t : State) (h : execLeaseRenewal m0 s = .next t) : RgK 18446744060824649727 s t := by
  unfold execLeaseRenewal at h; cases h; simp

theorem execRenewalAcknowledgement_rgK (m0 : LeaseMsg) (s : State) (t : State) (h : execRenewalAcknowledgement m0 s = .next t) : RgK 18446744069414584319 s t := by
  unfold execRenewalAcknowledgement at h; cases h; simp

theorem execGranuleReturn_rgK (m0 : LeaseMsg) (s : State) (t : State) (h : execGranuleReturn m0 s = .next t) : RgK 18446743768764776191 s t := by
  unfold execGranuleReturn at h; cases h; simp

theorem execLeaseRenewalDue_rgK (peer : Nat) (ctx : Nat) (lease : Nat) (s : State) (t : State) (h : execLeaseRenewalDue peer ctx lease s = .next t) : RgK 18446744060824649727 s t := by
  simp only [execLeaseRenewalDue, Host.Outcome.next.injEq] at h; subst h; (repeat' split) <;> simp

theorem execIssuerLeaseExpiry_rgK (ctx : Nat) (lease : Nat) (s : State) (t : State) (h : execIssuerLeaseExpiry ctx lease s = .next t) : RgK 17582048517143134191 s t := by
  simp only [execIssuerLeaseExpiry, Host.Outcome.next.injEq] at h; subst h; (repeat' split) <;> simp

theorem execHolderLeaseExpiry_rgK (peer : Nat) (ctx : Nat) (lease : Nat) (s : State) (t : State) (h : execHolderLeaseExpiry peer ctx lease s = .next t) : RgK 17582048517143134191 s t := by
  simp only [execHolderLeaseExpiry, Host.Outcome.next.injEq] at h; subst h; (repeat' split) <;> simp

theorem execTokenIncrementParcel_rgK (m0 : TokenMsg) (s : State) (t : State) (h : execTokenIncrementParcel m0 s = .next t) : RgK 18446744069414584063 s t := by
  unfold execTokenIncrementParcel at h; cases h; simp

theorem execParcelForward_rgK (cls : Nat) (s : State) (t : State) (h : execParcelForward cls s = .next t) : RgK 18446743768764776175 s t := by
  simp only [execParcelForward, Host.Outcome.next.injEq] at h; subst h; (repeat' split) <;> simp

theorem execDataFlit_rgK (f : Flit) (s : State) (t : State) (h : execDataFlit f s = .next t) : RgK 18446743768697667311 s t := by
  unfold execDataFlit at h; cases h; simp

theorem execIdleFlit_rgK (f : Flit) (s : State) (t : State) (h : execIdleFlit f s = .next t) : RgK 18446743768697667311 s t := by
  unfold execIdleFlit at h; cases h; simp

theorem execNakFlit_rgK (f : Flit) (s : State) (t : State) (h : execNakFlit f s = .next t) : RgK 18446743768697667311 s t := by
  unfold execNakFlit at h; cases h; dsimp only; repeat' (first | (simp; done) | split)

theorem execTestFlit_rgK (f : Flit) (s : State) (t : State) (h : execTestFlit f s = .next t) : RgK 18446744052167606255 s t := by
  unfold execTestFlit at h; cases h; simp

theorem execFlitReplayTimeout_rgK (port : Nat) (colour : Nat) (s : State) (t : State) (h : execFlitReplayTimeout port colour s = .next t) : RgK 18446744052234715119 s t := by
  simp only [execFlitReplayTimeout, Host.Outcome.next.injEq] at h; subst h; (repeat' split) <;> simp

theorem execParcelDelivery_rgK (s : State) (t : State) (h : execParcelDelivery s = .next t) : RgK 17581995465704963823 s t := by
  simp only [execParcelDelivery, Host.Outcome.next.injEq] at h; subst h; (repeat' split) <;> simp

end Sys2Proof.Machine
end

