-- ==== Sys2Proof/Laws/PerInstr.lean ====
section
/-! SUPPORT. What each command's footprint says of the command, per constructor. -/

namespace Sys2Proof.Laws.Footprint

/-- A command's footprint: it puts something on the wires or clears them, never reaches the queue, and names the
registers among its parts where its objects are not known to be none. -/
def Statement (i : Instr) : Prop :=
  Part.wires ∈ i.parts ∧ Part.queue ∉ i.parts ∧ (i.objects ≠ some [] → Part.registers ∈ i.parts)

theorem of_lists {i : Instr} (ps : List Part) (os : Option (List Nat)) (hp : i.parts = ps) (ho : i.objects = os)
    (h : (ps.contains .wires && !ps.contains .queue && (os == some [] || ps.contains .registers)) = true) :
    Statement i := by
  simp only [Bool.and_eq_true, Bool.or_eq_true, Bool.not_eq_true', beq_iff_eq, List.contains_eq_mem,
    decide_eq_true_eq, decide_eq_false_iff_not] at h
  exact ⟨hp ▸ h.1.1, hp ▸ h.1.2, fun n => hp ▸ h.2.resolve_left (ho ▸ n)⟩

theorem join (src dst msg : Nat) : Statement (.join src dst msg) :=
  of_lists
    [.wires, .freeCounter, .device, .registers, .memory, .ring, .security]
    (some [0x1100, 0x1300, 0x6C01, 0x9040, 0xA020, 0xF000]) rfl rfl rfl

theorem leave (q : Req) : Statement (.leave q) :=
  of_lists
    [.wires, .freeCounter, .device, .registers, .execution, .sites, .siteMap, .memory, .photonics, .fabric,
      .collectives, .resilience, .ring, .security, .power, .test]
    none rfl rfl rfl

theorem clearFault (q : Req) : Statement (.clearFault q) :=
  of_lists
    [.wires, .freeCounter, .device, .registers, .execution, .sites, .siteMap, .memory, .photonics, .fabric,
      .collectives, .resilience, .ring, .security, .power, .test]
    none rfl rfl rfl

theorem prepare (q : Req) : Statement (.prepare q) :=
  of_lists
    [.wires, .freeCounter, .device, .registers, .execution, .sites, .siteMap, .memory, .photonics, .fabric,
      .collectives, .resilience, .ring, .security, .power, .test]
    none rfl rfl rfl

theorem prepareComplete (sigGood : Bool) : Statement (.prepareComplete sigGood) :=
  of_lists
    [.wires, .freeCounter, .device, .registers, .execution, .memory, .photonics, .fabric, .collectives,
      .resilience, .ring, .security, .power, .test]
    none rfl rfl rfl

theorem run (q : Req) : Statement (.run q) :=
  of_lists
    [.wires, .freeCounter, .device, .registers, .execution, .sites, .siteMap, .memory, .photonics, .fabric,
      .collectives, .resilience, .ring, .security, .power, .test]
    none rfl rfl rfl

theorem hold (q : Req) : Statement (.hold q) :=
  of_lists
    [.wires, .freeCounter, .device, .registers, .execution, .sites, .siteMap, .memory, .photonics, .fabric,
      .collectives, .resilience, .ring, .security, .power, .test]
    none rfl rfl rfl

theorem release (q : Req) : Statement (.release q) :=
  of_lists
    [.wires, .freeCounter, .device, .registers, .execution, .sites, .siteMap, .memory, .photonics, .fabric,
      .collectives, .resilience, .ring, .security, .power, .test]
    none rfl rfl rfl

theorem unprepare (q : Req) : Statement (.unprepare q) :=
  of_lists
    [.wires, .freeCounter, .device, .registers, .execution, .sites, .siteMap, .memory, .photonics, .fabric,
      .collectives, .resilience, .ring, .security, .power, .test]
    none rfl rfl rfl

theorem grantSteps (q : Req) (steps : Nat) : Statement (.grantSteps q steps) :=
  of_lists
    [.wires, .registers, .ring, .security]
    (some [0x1101, 0x1300, 0x2011, 0x6C01, 0xF000]) rfl rfl rfl

theorem postMicroBatch (q : Req) (p : Post) : Statement (.postMicroBatch q p) :=
  of_lists
    [.wires, .registers, .execution, .ring, .security]
    (some [0x1101, 0x1300, 0x2020, 0x6C01, 0xF000]) rfl rfl rfl

theorem stepStart : Statement (.stepStart) :=
  of_lists
    [.wires, .freeCounter, .registers, .execution, .sites, .memory, .fabric, .collectives, .resilience, .ring]
    (some [0x1300, 0x2011, 0x2012, 0x4021, 0x6050, 0x6C00, 0x6C01, 0x7020]) rfl rfl rfl

theorem stepBoundary : Statement (.stepBoundary) :=
  of_lists
    [.wires, .device, .registers, .execution, .sites, .siteMap, .memory, .photonics, .fabric, .resilience,
      .ring, .power, .test]
    (some [0x1300, 0x2012, 0x3031, 0x6050, 0x6C00, 0x6C01, 0xC000, 0xC001, 0xC010]) rfl rfl rfl

theorem stepStalled : Statement (.stepStalled) :=
  of_lists
    [.wires, .device, .registers, .execution, .sites, .siteMap, .memory, .resilience, .ring, .security, .power,
      .test]
    (some [0x1300, 0x2001, 0x6C01, 0x9010, 0xB020, 0xF000]) rfl rfl rfl

theorem crumbFire (half core : Nat) (errs : List StoreErr) : Statement (.crumbFire half core errs) :=
  of_lists
    [.wires, .freeCounter, .registers, .execution, .sites, .memory, .ring]
    (some [0x1300, 0x3020, 0x3021, 0x3022, 0x4021, 0x4801, 0x6C01, 0xC010]) rfl rfl rfl

theorem crumbRetire (half core unit : Nat) : Statement (.crumbRetire half core unit) :=
  of_lists
    [.wires, .registers, .execution, .sites]
    (some [0x2012, 0x7020]) rfl rfl rfl

theorem watchSampleComplete (half core : Nat) : Statement (.watchSampleComplete half core) :=
  of_lists
    [.wires, .registers, .execution, .sites]
    (some [0xC010]) rfl rfl rfl

theorem commitGatedRetire (half core : Nat) : Statement (.commitGatedRetire half core) :=
  of_lists
    [.wires, .freeCounter, .registers, .execution, .memory, .ring]
    (some [0x1300, 0x2012, 0x4021, 0x6C01, 0x7020]) rfl rfl rfl

theorem padElision (half core : Nat) : Statement (.padElision half core) :=
  of_lists
    [.wires, .freeCounter, .registers, .execution, .memory, .ring]
    (some [0x1300, 0x2012, 0x2013, 0x4021, 0x6C01, 0x7020]) rfl rfl rfl

theorem stealing (half : Nat) (claim : StealClaim) : Statement (.stealing half claim) :=
  of_lists
    [.wires, .freeCounter, .registers, .execution, .sites, .memory, .ring]
    (some [0x1300, 0x2013, 0x3020, 0x3021, 0x3022, 0x4021, 0x4801, 0x6C01, 0xC010]) rfl rfl rfl

theorem tokenPacket (token inc : Nat) : Statement (.tokenPacket token inc) :=
  of_lists
    [.wires, .registers, .execution]
    (some [0x2012]) rfl rfl rfl

theorem creditGrantPacket (die ep cls granules : Nat) (to_ : GrantTo) : Statement (.creditGrantPacket die ep cls granules to_) :=
  of_lists
    [.wires, .execution]
    (some []) rfl rfl rfl

theorem copyJobFire (die engine : Nat) : Statement (.copyJobFire die engine) :=
  of_lists
    [.wires, .freeCounter, .registers, .execution, .sites, .memory, .ring]
    (some [0x1300, 0x4021, 0x4801, 0x6C01]) rfl rfl rfl

theorem copyJobRetire (die engine : Nat) : Statement (.copyJobRetire die engine) :=
  of_lists
    [.wires, .registers, .execution]
    (some [0x2012]) rfl rfl rfl

theorem streamSegmentStart (stream : Nat) : Statement (.streamSegmentStart stream) :=
  of_lists
    [.wires, .freeCounter, .registers, .execution, .memory, .ring]
    (some [0x1300, 0x4021, 0x6C01]) rfl rfl rfl

theorem streamSegmentComplete (stream : Nat) : Statement (.streamSegmentComplete stream) :=
  of_lists
    [.wires, .freeCounter, .registers, .execution, .memory]
    (some [0x2012, 0x4021]) rfl rfl rfl

theorem verdictPoint : Statement (.verdictPoint) :=
  of_lists
    [.wires, .device, .registers, .execution, .sites, .photonics, .fabric, .collectives, .resilience, .ring]
    (some [0x1300, 0x6050, 0x6C00, 0x6C01, 0x7020, 0x8010, 0x8020, 0x8030]) rfl rfl rfl

theorem pairDigestReceive (m : PairDigestMsg) : Statement (.pairDigestReceive m) :=
  of_lists
    [.wires, .registers, .execution, .photonics, .fabric, .collectives, .resilience, .ring]
    (some [0x1300, 0x6050, 0x6C00, 0x6C01, 0x7020, 0x8020, 0x8030]) rfl rfl rfl

theorem verdictReductionComplete : Statement (.verdictReductionComplete) :=
  of_lists
    [.wires, .freeCounter, .device, .registers, .execution, .memory, .photonics, .fabric, .collectives,
      .resilience, .ring]
    (some [0x1300, 0x2012, 0x4021, 0x6050, 0x6C00, 0x6C01, 0x7020, 0x8000, 0x8003, 0x8010, 0x8030, 0xC000,
      0xC001, 0xC002]) rfl rfl rfl

theorem lossReductionComplete : Statement (.lossReductionComplete) :=
  of_lists
    [.wires, .freeCounter, .device, .registers, .execution, .memory, .collectives, .resilience, .ring]
    (some [0x1300, 0x2012, 0x4021, 0x6C01, 0x7020, 0x8003, 0x8010, 0x8030, 0xC000, 0xC001, 0xC002]) rfl rfl rfl

theorem securingTransfer : Statement (.securingTransfer) :=
  of_lists
    [.wires, .freeCounter, .registers, .execution, .memory, .fabric, .ring]
    (some [0x1300, 0x4021, 0x6050, 0x6C00, 0x6C01, 0x8030]) rfl rfl rfl

theorem collectiveLaunch (coll : Nat) : Statement (.collectiveLaunch coll) :=
  of_lists
    [.wires, .freeCounter, .registers, .execution, .memory, .photonics, .fabric, .collectives, .resilience,
      .ring]
    (some [0x1300, 0x2012, 0x4021, 0x6050, 0x6C00, 0x6C01, 0x7020]) rfl rfl rfl

theorem collectiveChunk (c : Chunk) : Statement (.collectiveChunk c) :=
  of_lists
    [.wires, .freeCounter, .registers, .execution, .memory, .photonics, .fabric, .collectives, .resilience,
      .ring]
    (some [0x1300, 0x2012, 0x4021, 0x6050, 0x6C00, 0x6C01, 0x7020]) rfl rfl rfl

theorem pralineWord (w : Praline) : Statement (.pralineWord w) :=
  of_lists
    [.wires, .freeCounter, .registers, .execution, .memory, .photonics, .fabric, .collectives, .resilience,
      .ring]
    (some [0x1300, 0x2012, 0x4021, 0x6050, 0x6C00, 0x6C01, 0x7020]) rfl rfl rfl

theorem pralineRepeat : Statement (.pralineRepeat) :=
  of_lists
    [.wires, .registers, .photonics, .fabric, .collectives]
    (some [0x6050, 0x6C00, 0x6C01, 0x7020]) rfl rfl rfl

theorem hostCopyRequest (q : Req) (value : Bytes) : Statement (.hostCopyRequest q value) :=
  of_lists
    [.wires, .registers, .memory, .ring, .security]
    (some [0x1101, 0x1300, 0x6C01, 0xF000]) rfl rfl rfl

theorem hostCopyComplete : Statement (.hostCopyComplete) :=
  of_lists
    [.wires, .freeCounter, .registers, .sites, .memory, .ring, .security]
    (some [0x1300, 0x4021, 0x4800, 0x4801, 0x6C01, 0xF000]) rfl rfl rfl

theorem memoryReadRequest (p : Packet) (ecc : MemEcc) : Statement (.memoryReadRequest p ecc) :=
  of_lists
    [.wires, .freeCounter, .device, .registers, .execution, .sites, .siteMap, .memory, .dieErrors, .resilience,
      .ring, .security, .power, .test]
    (some [0x1300, 0x2001, 0x4020, 0x4021, 0x6C01, 0x9010, 0xB020, 0xF000]) rfl rfl rfl

theorem memoryWrite (p : Packet) (data : Bytes) : Statement (.memoryWrite p data) :=
  of_lists
    [.wires, .freeCounter, .registers, .memory, .dieErrors, .ring]
    (some [0x1300, 0x4021, 0x6C01]) rfl rfl rfl

theorem memoryReadResponse (die ep tag : Nat) (data : Bytes) (poison : Bool) : Statement (.memoryReadResponse die ep tag data poison) :=
  of_lists
    [.wires, .registers, .execution, .memory, .ring]
    (some [0x1300, 0x6C01]) rfl rfl rfl

theorem writeAcknowledgement (die ep tag : Nat) (invalidate : Bool) (addr : Nat) : Statement (.writeAcknowledgement die ep tag invalidate addr) :=
  of_lists
    [.wires, .memory]
    (some []) rfl rfl rfl

theorem writeCombineTimeout (controller line : Nat) : Statement (.writeCombineTimeout controller line) :=
  of_lists
    [.wires, .registers, .memory]
    (some [0x4021]) rfl rfl rfl

theorem hbmRefresh (stack bank : Nat) : Statement (.hbmRefresh stack bank) :=
  of_lists
    [.wires, .memory]
    (some []) rfl rfl rfl

theorem hbmTemperatureReadout (temps : List Nat) : Statement (.hbmTemperatureReadout temps) :=
  of_lists
    [.wires, .registers, .memory, .ring]
    (some [0x1300, 0x6C01]) rfl rfl rfl

theorem patrolScrub (found : List ScrubFinding) : Statement (.patrolScrub found) :=
  of_lists
    [.wires, .registers, .memory, .ring]
    (some [0x1300, 0x4020, 0x4021, 0x4030, 0x6C01]) rfl rfl rfl

theorem hbmTrainingComplete (failures : List LaneFailure) : Statement (.hbmTrainingComplete failures) :=
  of_lists
    [.wires, .device, .registers, .execution, .sites, .siteMap, .memory, .resilience, .ring, .security, .power,
      .test]
    (some [0x1300, 0x2001, 0x4000, 0x6C01, 0x9010, 0xB020, 0xF000]) rfl rfl rfl

theorem generatorWriteReadCheck (q : Req) (g : GenReq) : Statement (.generatorWriteReadCheck q g) :=
  of_lists
    [.wires, .registers, .memory, .ring, .security]
    (some [0x1101, 0x1300, 0x4010, 0x6C01, 0xF000]) rfl rfl rfl

theorem generatorWrite (q : Req) (g : GenReq) : Statement (.generatorWrite q g) :=
  of_lists
    [.wires, .registers, .memory, .ring, .security]
    (some [0x1101, 0x1300, 0x4010, 0x6C01, 0xF000]) rfl rfl rfl

theorem generatorReadCheck (q : Req) (g : GenReq) : Statement (.generatorReadCheck q g) :=
  of_lists
    [.wires, .registers, .memory, .ring, .security]
    (some [0x1101, 0x1300, 0x4010, 0x6C01, 0xF000]) rfl rfl rfl

theorem generatorStopAll (q : Req) (g : GenReq) : Statement (.generatorStopAll q g) :=
  of_lists
    [.wires, .registers, .memory, .ring, .security]
    (some [0x1101, 0x1300, 0x4010, 0x6C01, 0xF000]) rfl rfl rfl

theorem generatorComplete (symbols : List (Nat × Nat)) (mismatches : Nat) (first : W32) : Statement (.generatorComplete symbols mismatches first) :=
  of_lists
    [.wires, .registers, .memory]
    (some [0x4010, 0x4021]) rfl rfl rfl

theorem partitionSettingWrite (q : Req) (sub : Nat) (value : W32) : Statement (.partitionSettingWrite q sub value) :=
  of_lists
    [.wires, .registers, .memory, .ring, .security]
    (some [0x1101, 0x1300, 0x4002, 0x6C01, 0xF000]) rfl rfl rfl

theorem quadrantLocalBoundaryWrite (q : Req) (b : Nat) : Statement (.quadrantLocalBoundaryWrite q b) :=
  of_lists
    [.wires, .registers, .memory, .ring, .security]
    (some [0x1101, 0x1300, 0x4000, 0x4021, 0x6C01, 0xF000]) rfl rfl rfl

theorem stackPortTransfer (cd port : Nat) (toBase : Bool) (data : Bytes) (errs : List Nat) (credit : Nat × Nat) : Statement (.stackPortTransfer cd port toBase data errs credit) :=
  of_lists
    [.wires, .freeCounter, .device, .registers, .execution, .sites, .siteMap, .memory, .dieErrors, .resilience,
      .ring, .security, .power, .test]
    (some [0x1300, 0x2001, 0x6C01, 0x6E03, 0x9010, 0xB020, 0xF000]) rfl rfl rfl

theorem qlDataUnit (u : QlUnit) (payload : Bytes) : Statement (.qlDataUnit u payload) :=
  of_lists
    [.wires, .registers, .links, .dieErrors, .ring]
    (some [0x1300, 0x6C01]) rfl rfl rfl

theorem qlIdleUnit (u : QlUnit) : Statement (.qlIdleUnit u) :=
  of_lists
    [.wires, .links]
    (some []) rfl rfl rfl

theorem qlNakUnit (u : QlUnit) : Statement (.qlNakUnit u) :=
  of_lists
    [.wires, .device, .registers, .execution, .sites, .siteMap, .memory, .links, .resilience, .ring, .security,
      .power, .test]
    (some [0x1300, 0x2001, 0x6C01, 0x6E01, 0x6E02, 0x9010, 0xB020, 0xF000]) rfl rfl rfl

theorem qlReplayTimeout (link : Nat) (up : Bool) : Statement (.qlReplayTimeout link up) :=
  of_lists
    [.wires, .device, .registers, .execution, .sites, .siteMap, .memory, .links, .resilience, .ring, .security,
      .power, .test]
    (some [0x1300, 0x2001, 0x6C01, 0x6E01, 0x6E02, 0x9010, 0xB020, 0xF000]) rfl rfl rfl

theorem qlRetrainComplete (link repaired : Nat) (exhausted : BitVec 8) (beyond : Bool) : Statement (.qlRetrainComplete link repaired exhausted beyond) :=
  of_lists
    [.wires, .device, .registers, .execution, .sites, .siteMap, .memory, .links, .resilience, .ring, .security,
      .power, .test]
    (some [0x1300, 0x2001, 0x6C01, 0x6E01, 0x9010, 0xB020, 0xF000]) rfl rfl rfl

theorem qlRetrainTimeout (link : Nat) : Statement (.qlRetrainTimeout link) :=
  of_lists
    [.wires, .device, .registers, .execution, .sites, .siteMap, .memory, .links, .resilience, .ring, .security,
      .power, .test]
    (some [0x1300, 0x2001, 0x6C01, 0x9010, 0xB020, 0xF000]) rfl rfl rfl

theorem leaseGrant (m : LeaseMsg) : Statement (.leaseGrant m) :=
  of_lists
    [.wires, .registers, .fabric]
    (some [0x6050]) rfl rfl rfl

theorem leaseRenewalDue (peer ctx lease : Nat) : Statement (.leaseRenewalDue peer ctx lease) :=
  of_lists
    [.wires, .registers, .fabric]
    (some [0x6050, 0x6C00]) rfl rfl rfl

theorem leaseRenewal (m : LeaseMsg) : Statement (.leaseRenewal m) :=
  of_lists
    [.wires, .registers, .fabric]
    (some [0x6050, 0x6C00]) rfl rfl rfl

theorem renewalAcknowledgement (m : LeaseMsg) : Statement (.renewalAcknowledgement m) :=
  of_lists
    [.wires, .registers, .fabric]
    (some [0x6050]) rfl rfl rfl

theorem granuleReturn (m : LeaseMsg) : Statement (.granuleReturn m) :=
  of_lists
    [.wires, .freeCounter, .registers, .execution, .memory, .fabric, .collectives, .resilience]
    (some [0x2012, 0x4021, 0x6050, 0x6C00, 0x6C01, 0x7020]) rfl rfl rfl

theorem issuerLeaseExpiry (ctx lease : Nat) : Statement (.issuerLeaseExpiry ctx lease) :=
  of_lists
    [.wires, .device, .registers, .execution, .photonics, .fabric, .resilience, .ring]
    (some [0x1300, 0x6050, 0x6C00, 0x6C01, 0x8003, 0xC000, 0xC001]) rfl rfl rfl

theorem holderLeaseExpiry (peer ctx lease : Nat) : Statement (.holderLeaseExpiry peer ctx lease) :=
  of_lists
    [.wires, .device, .registers, .execution, .photonics, .fabric, .resilience, .ring]
    (some [0x1300, 0x6050, 0x6C00, 0x6C01, 0x8003, 0xC000, 0xC001]) rfl rfl rfl

theorem tokenIncrementParcel (m : TokenMsg) : Statement (.tokenIncrementParcel m) :=
  of_lists
    [.wires, .registers, .execution]
    (some [0x2012, 0x6050]) rfl rfl rfl

theorem dataFlit (f : Flit) : Statement (.dataFlit f) :=
  of_lists
    [.wires, .freeCounter, .registers, .execution, .memory, .photonics, .fabric, .collectives, .resilience,
      .ring]
    (some [0x1300, 0x2012, 0x4021, 0x5020, 0x6050, 0x6C00, 0x6C01, 0x7020]) rfl rfl rfl

theorem idleFlit (f : Flit) : Statement (.idleFlit f) :=
  of_lists
    [.wires, .freeCounter, .registers, .execution, .memory, .photonics, .fabric, .collectives, .resilience,
      .ring]
    (some [0x1300, 0x2012, 0x4021, 0x5020, 0x6050, 0x6C00, 0x6C01, 0x7020]) rfl rfl rfl

theorem nakFlit (f : Flit) : Statement (.nakFlit f) :=
  of_lists
    [.wires, .freeCounter, .registers, .execution, .memory, .photonics, .fabric, .collectives, .resilience,
      .ring]
    (some [0x1300, 0x2012, 0x4021, 0x5020, 0x6050, 0x6C00, 0x6C01, 0x7020]) rfl rfl rfl

theorem testFlit (f : Flit) : Statement (.testFlit f) :=
  of_lists
    [.wires, .registers, .photonics, .fabric, .ring]
    (some [0x1300, 0x5020, 0x6050, 0x6C01]) rfl rfl rfl

theorem flitReplayTimeout (port colour : Nat) : Statement (.flitReplayTimeout port colour) :=
  of_lists
    [.wires, .registers, .photonics, .fabric, .ring]
    (some [0x1300, 0x6050, 0x6C01]) rfl rfl rfl

theorem parcelForward (cls : Nat) : Statement (.parcelForward cls) :=
  of_lists
    [.wires, .freeCounter, .registers, .execution, .memory, .photonics, .fabric, .collectives, .resilience,
      .ring]
    (some [0x1300, 0x2012, 0x4021, 0x6050, 0x6C00, 0x6C01, 0x7020]) rfl rfl rfl

theorem parcelDelivery : Statement (.parcelDelivery) :=
  of_lists
    [.wires, .freeCounter, .device, .registers, .execution, .memory, .photonics, .fabric, .collectives,
      .resilience, .ring]
    (some [0x1300, 0x2012, 0x3031, 0x4021, 0x6050, 0x6C00, 0x6C01, 0x7020, 0x8003, 0x8020, 0x8030, 0xC000,
      0xC001]) rfl rfl rfl

theorem laneFrame (f : LaneFrame) : Statement (.laneFrame f) :=
  of_lists
    [.wires, .registers, .photonics, .fabric, .ring]
    (some [0x1300, 0x5020, 0x6050, 0x6C01]) rfl rfl rfl

theorem laneFrameTimeout (port colour : Nat) (linePresent : Bool) : Statement (.laneFrameTimeout port colour linePresent) :=
  of_lists
    [.wires, .registers, .photonics, .fabric, .ring]
    (some [0x1300, 0x5020, 0x6C01]) rfl rfl rfl

theorem ringLockLoop (tx : Bool) (port ring : Nat) (step : Int) (found : LoopResult) : Statement (.ringLockLoop tx port ring step found) :=
  of_lists
    [.wires, .registers, .photonics, .fabric, .ring]
    (some [0x1300, 0x5020, 0x6C01]) rfl rfl rfl

theorem searchCandidateTimeout (port colour : Nat) : Statement (.searchCandidateTimeout port colour) :=
  of_lists
    [.wires, .registers, .photonics, .fabric, .ring]
    (some [0x1300, 0x5020, 0x6C01]) rfl rfl rfl

theorem ringSearchLineReached (tx : Bool) (port colour : Nat) (line : Nat × Nat) (accepted : Bool) (crossings : Nat) : Statement (.ringSearchLineReached tx port colour line accepted crossings) :=
  of_lists
    [.wires, .registers, .photonics, .fabric, .ring]
    (some [0x1300, 0x5020, 0x6C01]) rfl rfl rfl

theorem anchorSweepRetry (port : Nat) : Statement (.anchorSweepRetry port) :=
  of_lists
    [.wires, .photonics]
    (some []) rfl rfl rfl

theorem opticalCommissioningComplete (found : List Nat × List (List Nat)) : Statement (.opticalCommissioningComplete found) :=
  of_lists
    [.wires, .photonics]
    (some []) rfl rfl rfl

theorem wavelengthCheck (laser : Nat) (offsetMHz : Int) : Statement (.wavelengthCheck laser offsetMHz) :=
  of_lists
    [.wires, .photonics]
    (some []) rfl rfl rfl

theorem calibrationSlot (port : Nat) (ringsGood : Bool × Bool) : Statement (.calibrationSlot port ringsGood) :=
  of_lists
    [.wires, .registers, .photonics, .fabric, .ring]
    (some [0x1300, 0x5020, 0x6C01]) rfl rfl rfl

theorem calibrationSlotEnd (port : Nat) (back farOff : Bool) : Statement (.calibrationSlotEnd port back farOff) :=
  of_lists
    [.wires, .registers, .photonics, .fabric, .ring]
    (some [0x1300, 0x5020, 0x6050, 0x6C01]) rfl rfl rfl

theorem laserPowerReading (spare : Bool) (laser reading : Nat) : Statement (.laserPowerReading spare laser reading) :=
  of_lists
    [.wires, .registers, .photonics, .fabric, .ring]
    (some [0x1300, 0x5020, 0x6C01]) rfl rfl rfl

theorem spareLaserLocked (engine spare : Nat) : Statement (.spareLaserLocked engine spare) :=
  of_lists
    [.wires, .registers, .photonics, .ring]
    (some [0x1300, 0x5020, 0x6C01]) rfl rfl rfl

theorem recommissionPort (q : Req) (port : Nat) : Statement (.recommissionPort q port) :=
  of_lists
    [.wires, .registers, .photonics, .fabric, .ring, .security, .power]
    (some [0x1101, 0x1300, 0x6C01, 0xF000]) rfl rfl rfl

theorem transmitGenerationWrite (q : Req) (sub gen : Nat) : Statement (.transmitGenerationWrite q sub gen) :=
  of_lists
    [.wires, .registers, .photonics, .fabric, .ring, .security]
    (some [0x1101, 0x1300, 0x5002, 0x6C01, 0xF000]) rfl rfl rfl

theorem exceptionEntryWrite (q : Req) (num : Nat) (entry : W64) : Statement (.exceptionEntryWrite q num entry) :=
  of_lists
    [.wires, .registers, .fabric, .ring, .security]
    (some [0x1101, 0x1300, 0x6C01, 0xF000]) rfl rfl rfl

theorem rankOverrideWrite (q : Req) (num : Nat) (entry : W64) : Statement (.rankOverrideWrite q num entry) :=
  of_lists
    [.wires, .registers, .fabric, .ring, .security]
    (some [0x1101, 0x1300, 0x6C01, 0xF000]) rfl rfl rfl

theorem fabricConfigurationWrite (q : Req) (idx sub : Nat) (value : W32) : Statement (.fabricConfigurationWrite q idx sub value) :=
  of_lists
    [.wires, .registers, .photonics, .fabric, .ring, .security, .power]
    (some [0x1101, 0x1300, 0x6000, 0x6001, 0x6C01, 0xF000]) rfl rfl rfl

theorem groupMemberEntryWrite (q : Req) (num : Nat) (entry : W64) : Statement (.groupMemberEntryWrite q num entry) :=
  of_lists
    [.wires, .registers, .fabric, .ring, .security]
    (some [0x1101, 0x1300, 0x6C01, 0xF000]) rfl rfl rfl

theorem groupDescriptorWrite (q : Req) (num : Nat) (entry : W64) : Statement (.groupDescriptorWrite q num entry) :=
  of_lists
    [.wires, .registers, .fabric, .ring, .security]
    (some [0x1101, 0x1300, 0x6C01, 0xF000]) rfl rfl rfl

theorem abandon (q : Req) : Statement (.abandon q) :=
  of_lists
    [.wires, .registers, .execution, .memory, .photonics, .fabric, .collectives, .resilience, .ring, .security]
    (some [0x1101, 0x1300, 0x2011, 0x6C01, 0x8003, 0x8010, 0x8030, 0xF000]) rfl rfl rfl

theorem abandonComplete : Statement (.abandonComplete) :=
  of_lists
    [.wires, .device, .registers, .resilience, .ring, .security]
    (some [0x1300, 0x6C01, 0x8003, 0xF000]) rfl rfl rfl

theorem restore (q : Req) (step : Nat) : Statement (.restore q step) :=
  of_lists
    [.wires, .freeCounter, .registers, .execution, .photonics, .fabric, .collectives, .resilience, .ring,
      .security]
    (some [0x1101, 0x1300, 0x6050, 0x6C00, 0x6C01, 0x8003, 0xF000]) rfl rfl rfl

theorem restoreComplete : Statement (.restoreComplete) :=
  of_lists
    [.wires, .registers, .collectives, .resilience]
    (some [0x8003, 0x8030]) rfl rfl rfl

theorem remoteReadRequest (m : RemoteMsg) : Statement (.remoteReadRequest m) :=
  of_lists
    [.wires, .freeCounter, .registers, .memory, .fabric, .resilience]
    (some [0x4021, 0x6050, 0x6C00, 0x8030]) rfl rfl rfl

theorem remoteReadResponse (m : RemoteMsg) : Statement (.remoteReadResponse m) :=
  of_lists
    [.wires, .freeCounter, .device, .registers, .execution, .memory, .fabric, .collectives, .resilience, .ring]
    (some [0x1300, 0x2012, 0x3031, 0x4021, 0x6050, 0x6C00, 0x6C01, 0x7020, 0x8003, 0x8030, 0xC000, 0xC001]) rfl rfl rfl

theorem remoteWrite (m : RemoteMsg) : Statement (.remoteWrite m) :=
  of_lists
    [.wires, .registers, .resilience]
    (some [0x6050, 0x8030]) rfl rfl rfl

theorem holdCommitArm (q : Req) (step : Nat) : Statement (.holdCommitArm q step) :=
  of_lists
    [.wires, .registers, .ring, .security]
    (some [0x1101, 0x1300, 0x6C01, 0x8010, 0xF000]) rfl rfl rfl

theorem scaleStateLoad (q : Req) (value : W64) : Statement (.scaleStateLoad q value) :=
  of_lists
    [.wires, .registers, .execution, .ring, .security]
    (some [0x1101, 0x1300, 0x6C01, 0xF000]) rfl rfl rfl

theorem kz8StartScaleWrite (q : Req) (value : W32) : Statement (.kz8StartScaleWrite q value) :=
  of_lists
    [.wires, .registers, .ring, .security]
    (some [0x1101, 0x1300, 0x3040, 0x6C01, 0xF000]) rfl rfl rfl

theorem frameMark (m : FrameMark) (crc : W32) : Statement (.frameMark m crc) :=
  of_lists
    [.wires, .freeCounter, .registers, .ring, .power]
    (some [0x1100, 0x1101, 0xA010, 0xA020]) rfl rfl rfl

theorem dataSlot (s : Slot) : Statement (.dataSlot s) :=
  of_lists
    [.wires, .freeCounter, .device, .registers, .execution, .sites, .siteMap, .memory, .photonics, .fabric,
      .collectives, .resilience, .ring, .security, .power, .test]
    none rfl rfl rfl

theorem messageTimeout (src sess msg : Nat) : Statement (.messageTimeout src sess msg) :=
  of_lists
    [.wires, .registers, .ring, .security]
    (some [0x1101]) rfl rfl rfl

theorem expeditedWrite (q : Req) (idx sub : Nat) (value : Bytes) : Statement (.expeditedWrite q idx sub value) :=
  of_lists
    [.wires, .freeCounter, .device, .registers, .execution, .sites, .siteMap, .memory, .links, .photonics,
      .fabric, .collectives, .resilience, .ring, .security, .power, .test]
    none rfl rfl rfl

theorem expeditedRead (q : Req) (idx sub len : Nat) : Statement (.expeditedRead q idx sub len) :=
  of_lists
    [.wires, .registers, .ring, .security]
    (some [0x1101]) rfl rfl rfl

theorem segmentedWrite (q : Req) (idx sub : Nat) (value : Bytes) : Statement (.segmentedWrite q idx sub value) :=
  of_lists
    [.wires, .freeCounter, .device, .registers, .execution, .sites, .siteMap, .memory, .links, .photonics,
      .fabric, .collectives, .resilience, .ring, .security, .power, .test]
    none rfl rfl rfl

theorem segmentedRead (q : Req) (idx sub len : Nat) : Statement (.segmentedRead q idx sub len) :=
  of_lists
    [.wires, .registers, .ring, .security]
    (some [0x1101]) rfl rfl rfl

theorem blockWrite (q : Req) (idx sub len : Nat) : Statement (.blockWrite q idx sub len) :=
  of_lists
    [.wires, .registers, .ring, .security]
    (some [0x1101, 0x9010, 0xF000]) rfl rfl rfl

theorem blockRead (q : Req) (idx sub len : Nat) : Statement (.blockRead q idx sub len) :=
  of_lists
    [.wires, .registers, .ring, .security]
    (some [0x1101]) rfl rfl rfl

theorem dictionaryWrite (q : Req) (idx sub : Nat) (value : Bytes) : Statement (.dictionaryWrite q idx sub value) :=
  of_lists
    [.wires, .freeCounter, .device, .registers, .execution, .sites, .siteMap, .memory, .links, .photonics,
      .fabric, .collectives, .resilience, .ring, .security, .power, .test]
    none rfl rfl rfl

theorem blockData (b : Block) : Statement (.blockData b) :=
  of_lists
    [.wires, .freeCounter, .device, .registers, .execution, .sites, .siteMap, .memory, .links, .photonics,
      .fabric, .collectives, .resilience, .ring, .security, .power, .test]
    none rfl rfl rfl

theorem bulkBlockWritten (chan num : Nat) (data : Bytes) : Statement (.bulkBlockWritten chan num data) :=
  of_lists
    [.wires, .freeCounter, .registers, .memory, .ring]
    (some [0x2010, 0x4021, 0x6C01]) rfl rfl rfl

theorem blockAcknowledgement (a : BlockAck) : Statement (.blockAcknowledgement a) :=
  of_lists
    [.wires, .freeCounter, .registers, .memory, .ring, .security]
    (some [0x4021]) rfl rfl rfl

theorem blockAckTimeout (a : BlockAck) : Statement (.blockAckTimeout a) :=
  of_lists
    [.wires, .freeCounter, .registers, .memory, .ring, .security]
    (some [0x4021]) rfl rfl rfl

theorem bulkOpen (q : Req) (o : BulkOpen) : Statement (.bulkOpen q o) :=
  of_lists
    [.wires, .freeCounter, .registers, .memory, .ring, .security]
    (some [0x1101, 0x1300, 0x2010, 0x4021, 0x6C01, 0xF000]) rfl rfl rfl

theorem bulkClose (q : Req) (chan : Nat) : Statement (.bulkClose q chan) :=
  of_lists
    [.wires, .registers, .ring, .security]
    (some [0x1101, 0x1300, 0x6C01, 0xF000]) rfl rfl rfl

theorem eventTransmit : Statement (.eventTransmit) :=
  of_lists
    [.wires, .registers, .ring]
    (some [0x1300, 0x6C01]) rfl rfl rfl

theorem hello (msg role : Nat) (key : W256) (reserved : Nat) : Statement (.hello msg role key reserved) :=
  of_lists
    [.wires, .freeCounter, .registers, .ring, .security]
    (some [0xF000]) rfl rfl rfl

theorem finish (m : FinishMsg) : Statement (.finish m) :=
  of_lists
    [.wires, .freeCounter, .registers, .sites, .memory, .ring, .security, .power, .test]
    (some [0x1300, 0x4010, 0x6C01, 0x9003, 0xB010, 0xB020, 0xF000]) rfl rfl rfl

theorem finishTimeout (sess : Nat) : Statement (.finishTimeout sess) :=
  of_lists
    [.wires, .registers, .security]
    (some [0xF000]) rfl rfl rfl

theorem close (sess named : Nat) : Statement (.close sess named) :=
  of_lists
    [.wires, .registers, .ring, .security]
    (some [0x1300, 0x6C01, 0x9010, 0xF000]) rfl rfl rfl

theorem fabricKeyInstall (q : Req) (reserved : Nat) (key : W256) : Statement (.fabricKeyInstall q reserved key) :=
  of_lists
    [.wires, .registers, .ring, .security]
    (some [0x1101, 0x1300, 0x6C01, 0x9040, 0xF000]) rfl rfl rfl

theorem regionKeyInstall (q : Req) (region reserved base length : Nat) (key : BitVec 512) : Statement (.regionKeyInstall q region reserved base length key) :=
  of_lists
    [.wires, .registers, .memory, .ring, .security]
    (some [0x1101, 0x1300, 0x6C01, 0xF000]) rfl rfl rfl

theorem regionRemove (q : Req) (region reserved : Nat) : Statement (.regionRemove q region reserved) :=
  of_lists
    [.wires, .registers, .memory, .ring, .security]
    (some [0x1101, 0x1300, 0x6C01, 0xF000]) rfl rfl rfl

theorem enrolmentWrite (q : Req) (idx sub : Nat) (key : W256) : Statement (.enrolmentWrite q idx sub key) :=
  of_lists
    [.wires, .registers, .ring, .security]
    none rfl rfl rfl

theorem firmwareImageWrite (q : Req) (length : Nat) : Statement (.firmwareImageWrite q length) :=
  of_lists
    [.wires, .registers, .ring, .security]
    (some [0x1101, 0x9010, 0xF000]) rfl rfl rfl

theorem firmwareWriteComplete (img : FwImage) (sigGood : Bool) : Statement (.firmwareWriteComplete img sigGood) :=
  of_lists
    [.wires, .freeCounter, .device, .registers, .straps, .execution, .sites, .siteMap, .memory, .links,
      .dieErrors, .photonics, .fabric, .collectives, .resilience, .ring, .security, .power, .test]
    none rfl rfl rfl

theorem attestationQuote (q : Req) : Statement (.attestationQuote q) :=
  of_lists
    [.wires, .registers, .ring, .security]
    (some [0x1101]) rfl rfl rfl

theorem ringClockLoss : Statement (.ringClockLoss) :=
  of_lists
    [.wires, .ring, .power]
    (some []) rfl rfl rfl

theorem ringClockReturn (linksDown : List Nat) : Statement (.ringClockReturn linksDown) :=
  of_lists
    [.wires, .device, .registers, .execution, .sites, .siteMap, .memory, .links, .resilience, .ring, .security,
      .power, .test]
    (some [0x1300, 0x2001, 0x6C01, 0x6E02, 0x9010, 0xB020, 0xF000]) rfl rfl rfl

theorem timeReferenceLost : Statement (.timeReferenceLost) :=
  of_lists
    [.wires, .registers, .power]
    (some [0xA010]) rfl rfl rfl

theorem ppsEdge : Statement (.ppsEdge) :=
  of_lists
    [.wires, .registers, .power]
    (some [0xA010]) rfl rfl rfl

theorem timeReferenceWrite (q : Req) (value : Nat) : Statement (.timeReferenceWrite q value) :=
  of_lists
    [.wires, .registers, .ring, .security, .power]
    (some [0x1101, 0x1300, 0x6C01, 0xA010, 0xF000]) rfl rfl rfl

theorem powerStateRequest (q : Req) (value : Nat) : Statement (.powerStateRequest q value) :=
  of_lists
    [.wires, .registers, .sites, .siteMap, .memory, .links, .photonics, .fabric, .ring, .security, .power,
      .test]
    (some [0x1101, 0x1300, 0x2010, 0x4000, 0x4010, 0x6C01, 0xA000, 0xF000]) rfl rfl rfl

theorem powerStateReached : Statement (.powerStateReached) :=
  of_lists
    [.wires, .registers, .sites, .memory, .links, .photonics, .fabric, .ring, .security, .power, .test]
    (some [0x1300, 0x2010, 0x4000, 0x4010, 0x4021, 0x6C01, 0xA000, 0xF000]) rfl rfl rfl

theorem blockEnableWrite (q : Req) (sub value : Nat) : Statement (.blockEnableWrite q sub value) :=
  of_lists
    [.wires, .registers, .memory, .photonics, .fabric, .ring, .security, .power]
    (some [0x1101, 0x1300, 0x6C01, 0xA001, 0xF000]) rfl rfl rfl

theorem pllSettingWrite (q : Req) (sub : Nat) (value : W32) : Statement (.pllSettingWrite q sub value) :=
  of_lists
    [.wires, .registers, .ring, .security]
    (some [0x1101, 0x1300, 0x6C01, 0xA020, 0xF000]) rfl rfl rfl

theorem supplyOrTemperatureFault (m : Limits) : Statement (.supplyOrTemperatureFault m) :=
  of_lists
    [.wires, .device, .registers, .execution, .sites, .siteMap, .memory, .links, .photonics, .fabric,
      .resilience, .ring, .security, .power, .test]
    (some [0x1300, 0x2001, 0x2010, 0x4000, 0x4010, 0x5030, 0x6C01, 0x9010, 0xA040, 0xB020, 0xF000]) rfl rfl rfl

theorem thermTrip (die stack : Nat) : Statement (.thermTrip die stack) :=
  of_lists
    [.wires, .power]
    (some []) rfl rfl rfl

theorem pmbusPoll (st : PmStatus) : Statement (.pmbusPoll st) :=
  of_lists
    [.wires, .device, .registers, .execution, .sites, .siteMap, .memory, .links, .photonics, .fabric,
      .resilience, .ring, .security, .power, .test]
    (some [0x1300, 0x2001, 0x2010, 0x4000, 0x4010, 0x6C01, 0x9010, 0xB020, 0xF000]) rfl rfl rfl

theorem pmbusAlert (st : PmStatus) : Statement (.pmbusAlert st) :=
  of_lists
    [.wires, .device, .registers, .execution, .sites, .siteMap, .memory, .links, .photonics, .fabric,
      .resilience, .ring, .security, .power, .test]
    (some [0x1300, 0x2001, 0x2010, 0x4000, 0x4010, 0x6C01, 0x9010, 0xB020, 0xF000]) rfl rfl rfl

theorem islandMismatch : Statement (.islandMismatch) :=
  of_lists
    [.wires, .device, .registers, .execution, .sites, .siteMap, .memory, .resilience, .ring, .security, .power,
      .test]
    (some [0x1300, 0x2001, 0x6C01, 0x9010, 0xB020, 0xF000]) rfl rfl rfl

theorem moduleReset (p : ResetPins) : Statement (.moduleReset p) :=
  of_lists
    [.wires, .freeCounter, .device, .registers, .execution, .sites, .siteMap, .memory, .links, .dieErrors,
      .photonics, .fabric, .collectives, .resilience, .ring, .security, .power, .test]
    none rfl rfl rfl

theorem resetRelease (straps : Straps) : Statement (.resetRelease straps) :=
  of_lists
    [.wires, .straps, .power]
    (some []) rfl rfl rfl

theorem symbolLock (locked : Bool) : Statement (.symbolLock locked) :=
  of_lists
    [.wires, .power]
    (some []) rfl rfl rfl

theorem settleDelayElapsed : Statement (.settleDelayElapsed) :=
  of_lists
    [.wires, .power]
    (some []) rfl rfl rfl

theorem islandSelfTest (b0 b2 : Bool) : Statement (.islandSelfTest b0 b2) :=
  of_lists
    [.wires, .power]
    (some []) rfl rfl rfl

theorem firmwareVerified (img : FwImage) (sigGood : Bool) : Statement (.firmwareVerified img sigGood) :=
  of_lists
    [.wires, .registers, .security]
    (some [0x1000]) rfl rfl rfl

theorem selfTestTileStores (q : Req) (target reserved : Nat) : Statement (.selfTestTileStores q target reserved) :=
  of_lists
    [.wires, .registers, .ring, .security, .test]
    (some [0x1101, 0x1300, 0x6C01, 0xB010, 0xF000]) rfl rfl rfl

theorem selfTestSharedCache (q : Req) (target reserved : Nat) : Statement (.selfTestSharedCache q target reserved) :=
  of_lists
    [.wires, .registers, .ring, .security, .test]
    (some [0x1101, 0x1300, 0x6C01, 0xB010, 0xF000]) rfl rfl rfl

theorem selfTestMemorySideCache (q : Req) (target reserved : Nat) : Statement (.selfTestMemorySideCache q target reserved) :=
  of_lists
    [.wires, .registers, .ring, .security, .test]
    (some [0x1101, 0x1300, 0x6C01, 0xB010, 0xF000]) rfl rfl rfl

theorem selfTestHbmStack (q : Req) (target reserved : Nat) : Statement (.selfTestHbmStack q target reserved) :=
  of_lists
    [.wires, .registers, .ring, .security, .test]
    (some [0x1101, 0x1300, 0x6C01, 0xB010, 0xF000]) rfl rfl rfl

theorem selfTestComplete (failing : List Nat) : Statement (.selfTestComplete failing) :=
  of_lists
    [.wires, .freeCounter, .device, .registers, .execution, .sites, .siteMap, .memory, .resilience, .ring,
      .security, .power, .test]
    (some [0x1300, 0x2001, 0x3001, 0x6C01, 0x9010, 0xB002, 0xB010, 0xB020, 0xF000]) rfl rfl rfl

theorem testPortEnable (q : Req) (value : Nat) : Statement (.testPortEnable q value) :=
  of_lists
    [.wires, .registers, .ring, .security, .power, .test]
    (some [0x1101, 0x1300, 0x6C01, 0xB020, 0xF000]) rfl rfl rfl

theorem tapReset : Statement (.tapReset) :=
  of_lists
    [.wires, .test]
    (some []) rfl rfl rfl

theorem extest : Statement (.extest) :=
  of_lists
    [.wires, .freeCounter, .sites, .memory, .test]
    (some []) rfl rfl rfl

theorem samplePreload (pins : BitVec 15) : Statement (.samplePreload pins) :=
  of_lists
    [.wires, .freeCounter, .sites, .memory, .test]
    (some []) rfl rfl rfl

theorem idcode : Statement (.idcode) :=
  of_lists
    [.wires, .freeCounter, .sites, .memory, .test]
    (some []) rfl rfl rfl

theorem clamp : Statement (.clamp) :=
  of_lists
    [.wires, .freeCounter, .sites, .memory, .test]
    (some []) rfl rfl rfl

theorem highz : Statement (.highz) :=
  of_lists
    [.wires, .freeCounter, .sites, .memory, .test]
    (some []) rfl rfl rfl

theorem dieSelect (select : BitVec 40) : Statement (.dieSelect select) :=
  of_lists
    [.wires, .freeCounter, .sites, .memory, .test]
    (some []) rfl rfl rfl

theorem dieAccess : Statement (.dieAccess) :=
  of_lists
    [.wires, .freeCounter, .sites, .memory, .test]
    (some []) rfl rfl rfl

theorem bypass (code : BitVec 8) : Statement (.bypass code) :=
  of_lists
    [.wires, .freeCounter, .sites, .memory, .test]
    (some []) rfl rfl rfl

theorem coreTestDue (half : Nat) : Statement (.coreTestDue half) :=
  of_lists
    [.wires, .test]
    (some []) rfl rfl rfl

theorem coreTestStart (half : Nat) : Statement (.coreTestStart half) :=
  of_lists
    [.wires, .sites, .test]
    (some []) rfl rfl rfl

theorem coreTestOverdue (half : Nat) : Statement (.coreTestOverdue half) :=
  of_lists
    [.wires, .registers, .ring, .test]
    (some [0x1300, 0x6C01, 0xB002]) rfl rfl rfl

theorem coreTestComplete (half : Nat) (passed : Bool) : Statement (.coreTestComplete half passed) :=
  of_lists
    [.wires, .device, .registers, .execution, .sites, .siteMap, .memory, .resilience, .ring, .security, .power,
      .test]
    (some [0x1300, 0x2001, 0x3001, 0x6C01, 0x9010, 0xB002, 0xB020, 0xF000]) rfl rfl rfl

theorem tenantStateErased : Statement (.tenantStateErased) :=
  of_lists
    [.wires, .security]
    (some []) rfl rfl rfl

theorem timeReferenceReturn : Statement (.timeReferenceReturn) :=
  of_lists
    [.wires, .registers, .power]
    (some [0xA010]) rfl rfl rfl

end Sys2Proof.Laws.Footprint
end

