-- ==== Sys2Proof/Laws/Requests.lean ====
section
/-! SUPPORT. What a request does once for all objects: how an accepted write is applied, logged and answered, how
a rejected one is answered, and what each of these leaves alone. -/

namespace Sys2Proof.Machine

set_option linter.unusedTactic false
set_option linter.unreachableTactic false
set_option linter.unusedSimpArgs false
set_option linter.unnecessarySeqFocus false
set_option linter.unusedVariables false

/-- The state in which a newly arrived request is heard. -/
def heard (q : Req) (s : State) : State := takeInbox q (fresh s)

/-- The state in which a request's write is judged: its command is noted. -/
def heardAs (q : Req) (command idx sub : Nat) (s : State) : State := noteCommand q command idx sub (heard q s)

@[simp] theorem heard_keeps {m : Nat} {s0 : State} (q : Req) (s : State) (hm : m &&& 851965 = m) :
    Keeps m s0 (heard q s) ↔ Keeps m s0 s := by
  unfold heard
  rw [takeInbox_keeps _ _ (and_sub hm (by decide)), fresh_keeps _ (and_sub hm (by decide))]

@[simp] theorem heardAs_keeps {m : Nat} {s0 : State} (q : Req) (command idx sub : Nat) (s : State) (hm : m &&& 851965 = m) :
    Keeps m s0 (heardAs q command idx sub s) ↔ Keeps m s0 s := by
  unfold heardAs
  rw [noteCommand_keeps _ _ _ _ _ (and_sub hm (by decide)), heard_keeps _ _ hm]

/-- Nothing but the notes of what a request began with differs. -/
def NotedOnly (s t : State) : Prop :=
  (∀ n, ∃ h, sessOf t n = { sessOf s n with heads := h }) ∧ (∃ l, t.sec = { s.sec with sessions := l })

theorem NotedOnly.refl (s : State) : NotedOnly s s := ⟨fun n => ⟨(sessOf s n).heads, rfl⟩, s.sec.sessions, rfl⟩

theorem NotedOnly.trans {s t u : State} (h : NotedOnly s t) (k : NotedOnly t u) : NotedOnly s u := by
  refine ⟨fun n => ?_, ?_⟩
  · obtain ⟨a, ha⟩ := h.1 n
    obtain ⟨b, hb⟩ := k.1 n
    exact ⟨b, by rw [hb, ha]⟩
  · obtain ⟨a, ha⟩ := h.2
    obtain ⟨b, hb⟩ := k.2
    exact ⟨b, by rw [hb, ha]⟩

theorem noteHead_noted (q : Req) (h : Bytes) (s : State) : NotedOnly s (noteHead q h s) := by
  refine ⟨fun n => ?_, _, rfl⟩
  by_cases e : n = q.sess
  · subst e
    exact ⟨_, sessOf_withSess_same _ _ _⟩
  · exact ⟨_, sessOf_withSess_other _ _ e⟩

theorem noteCommand_noted (q : Req) (command idx sub : Nat) (s : State) : NotedOnly s (noteCommand q command idx sub s) := by
  unfold noteCommand
  split
  · exact NotedOnly.refl s
  · exact noteHead_noted _ _ _

theorem heard_noted (q : Req) (s : State) : NotedOnly s (heard q s) := by
  unfold heard takeInbox
  dsimp only
  split
  · exact noteHead_noted q _ (fresh s)
  · exact NotedOnly.refl s

theorem heardAs_noted (q : Req) (command idx sub : Nat) (s : State) : NotedOnly s (heardAs q command idx sub s) :=
  (heard_noted q s).trans (noteCommand_noted _ _ _ _ _)

theorem heard_sent (q : Req) (s : State) : (heard q s).sent = [] := by
  unfold heard takeInbox
  dsimp only
  split <;> rfl

theorem heard_ring (q : Req) (s : State) : ∃ i, (heard q s).ring = { s.ring with inbox := i } := by
  unfold heard takeInbox
  dsimp only
  split <;> exact ⟨_, rfl⟩

theorem heardAs_sent (q : Req) (command idx sub : Nat) (s : State) : (heardAs q command idx sub s).sent = [] := by
  unfold heardAs
  rw [noteCommand_sent]
  exact heard_sent q s

theorem heardAs_ring (q : Req) (command idx sub : Nat) (s : State) :
    ∃ i, (heardAs q command idx sub s).ring = { s.ring with inbox := i } := by
  unfold heardAs
  rw [noteCommand_ring]
  exact heard_ring q s

theorem heardAs_same (q : Req) (command idx sub : Nat) (s : State) :
    (heardAs q command idx sub s).regs = s.regs ∧ (heardAs q command idx sub s).straps = s.straps ∧
      (heardAs q command idx sub s).dev = s.dev ∧ (heardAs q command idx sub s).pwr = s.pwr ∧
      (heardAs q command idx sub s).ex = s.ex := by
  have k : Keeps 851965 s (heardAs q command idx sub s) :=
    (heardAs_keeps q command idx sub s (by decide)).mpr (Keeps.refl _ _)
  exact ⟨k.regs (by decide), k.straps (by decide), k.dev (by decide), k.pwr (by decide), k.ex (by decide)⟩

theorem heard_same (q : Req) (s : State) : (heard q s).regs = s.regs ∧ (heard q s).straps = s.straps ∧
    (heard q s).dev = s.dev ∧ (heard q s).pwr = s.pwr := by
  have k : Keeps 851965 s (heard q s) := (heard_keeps q s (by decide)).mpr (Keeps.refl _ _)
  exact ⟨k.regs (by decide), k.straps (by decide), k.dev (by decide), k.pwr (by decide)⟩

theorem ready_role {q : Req} {r : Role} {s : State} (h : Ready q r s) : roleOf s q.sess = r := by
  simp [roleOf, h.established, h.role]

theorem noted_role {s t : State} (h : NotedOnly s t) (n : Nat) : roleOf t n = roleOf s n := by
  obtain ⟨a, ha⟩ := h.1 n
  unfold roleOf
  rw [ha]

/-- What a write is judged by is the same when only notes differ and registers, straps and transfers do not. -/
theorem noted_judged {s t : State} (h : NotedOnly s t) (hr : t.regs = s.regs) (hs : t.straps = s.straps)
    (hp : t.pwr = s.pwr) (ht : t.ring.transfers = s.ring.transfers) (idx sub : Nat) :
    (∀ w, objExists t idx sub w = objExists s idx sub w) ∧ (∀ r, accessOf t idx sub r = accessOf s idx sub r) ∧
      gatedObj t idx sub = gatedObj s idx sub ∧ (∀ n, lengthOk t idx sub n = lengthOk s idx sub n) ∧
      (∀ v, inRange t idx sub v = inRange s idx sub v) ∧ busyObj t idx sub = busyObj s idx sub ∧
      t.sec.flashFull = s.sec.flashFull := by
  obtain ⟨l, hl⟩ := h.2
  have hrow : ∀ i j, rowIn t i j = rowIn s i j := by intro i j; unfold rowIn; rw [hs]
  have htop : ∀ i, topIn t i = topIn s i := by intro i; unfold topIn; rw [hs]
  have hrg : ∀ i j, rg t i j = rg s i j := by intro i j; unfold rg; rw [hr]
  have hg : gated t = gated s := by funext b; unfold gated enablesOf; simp only [hrg, hp]
  refine ⟨fun w => ?_, fun r => ?_, ?_, fun n => ?_, fun v => ?_, ?_, ?_⟩
  · unfold objExists offered; rw [hl, hrow, htop]
  · unfold accessOf; rw [hrow]
  · unfold gatedObj; rw [hg]
  · unfold lengthOk; rw [hrow]
  · unfold inRange; rw [hrow]
  · unfold busyObj; rw [hl, ht]
  · rw [hl]

/-- A request that is ready is taken. -/
theorem onArrival_taken {q : Req} {r : Role} {s : State} (h : Ready q r s) (f : State → State) :
    onArrival q f s = f (heard q s) := by
  have h1 : arrival q (heard q s) = .taken := by
    unfold arrival
    obtain ⟨a, ha⟩ := (heard_noted q s).1 q.sess
    have hf : (sessOf s q.sess).responses.find? (fun x => x.msg == q.msg) = none := by
      rw [List.find?_eq_none]
      intro x hx
      simpa using h.unseen x hx
    have hi : (heard q s).pwr.inReset = false := by rw [(heard_same q s).2.2.2]; exact h.awake
    simp only [ha, hi, h.established, hf]
    simp [h.idle]
  unfold onArrival
  simp only [heard] at h1
  simp only [h1, heard]

theorem firstByClass_zero {cs : List Nat} (h : ∀ c ∈ cs, c = 0) : firstByClass cs = 0 := by
  have hf : ∀ k, cs.find? (fun x => x ≠ 0 && x / 2 ^ 24 == k) = none := by
    intro k
    rw [List.find?_eq_none]
    intro x hx
    simp [h x hx]
  unfold firstByClass
  simp only [hf]
  rfl

theorem need_zero {b : Bool} (c : Nat) (h : b = true) : need b c = 0 := by rw [h]; rfl

@[simp] theorem need_true (c : Nat) : need true c = 0 := rfl
@[simp] theorem need_false (c : Nat) : need false c = c := rfl

/-- A write that meets every condition has code 0, whatever its request's notes. -/
theorem writeCode_zero {q : Req} {r : Role} {s t : State} {idx sub : Nat} {v : Bytes} {x : Rule} (h : Ready q r s)
    (w : Writable r idx sub v s) (hc : ∀ c ∈ x.codes, c = 0) (hn : NotedOnly s t) (hr : t.regs = s.regs)
    (hs : t.straps = s.straps) (hd : t.dev = s.dev) (hp : t.pwr = s.pwr) (ht : t.ring.transfers = s.ring.transfers) :
    writeCode q 0 idx sub v x t = 0 := by
  obtain ⟨j1, j2, j3, j4, j5, j6, j7⟩ := noted_judged hn hr hs hp ht idx sub
  obtain ⟨a, ha⟩ := hn.1 q.sess
  have e1 : objExists t idx sub true = true := (j1 true).trans w.present
  have e2 : accessOf t idx sub (roleOf t q.sess) = accessOf s idx sub r := by rw [noted_role hn, ready_role h, j2]
  have e3 : gatedObj t idx sub = false := j3.trans w.powered
  have e4 : lengthOk t idx sub v.length = true := (j4 _).trans w.length
  have e5 : inRange t idx sub v = true := (j5 _).trans w.range
  have e6 : busyObj t idx sub = false := j6.trans w.idle
  have e7 : t.sec.flashFull = false := j7.trans h.flash
  have e9 : (!(accessOf s idx sub r == .rwj && decide (s.dev ≠ .joined))) = true := by
    by_cases hj : accessOf s idx sub r = .rwj
    · simp [w.joined hj]
    · have : (accessOf s idx sub r == .rwj) = false := by simpa using hj
      simp [this]
  unfold writeCode
  simp only [e1, e2, e3, e4, e5, e6, e7, hd, ha, w.access, h.sess, ne_eq, not_true_eq_false, if_false,
    Bool.not_true, Bool.false_eq_true, not_false_eq_true, true_and]
  refine firstByClass_zero ?_
  intro c hc'
  simp only [List.mem_append, List.mem_cons, List.not_mem_nil, or_false] at hc'
  rcases hc' with ((rfl | rfl | rfl | rfl) | hc') | (rfl | rfl | rfl | rfl)
  · rfl
  · exact need_zero _ (by simpa using e9)
  · exact need_zero _ (by simp)
  · rfl
  · exact hc c hc'
  · rfl
  · rfl
  · exact need_zero _ (decide_eq_true h.room)
  · rfl

/-- The command that a write of n bytes is noted as. -/
def writeCommand (v : Bytes) : Nat := if v.length ≤ 8 then 1 else 3

/-- A write that meets every condition is accepted. -/
theorem writeReq_accepted {q : Req} {r : Role} {s : State} {idx sub : Nat} {v : Bytes} {rule : State → Rule}
    (h : Ready q r s) (w : Writable r idx sub v s)
    (hc : ∀ c ∈ (rule (heardAs q (writeCommand v) idx sub s)).codes, c = 0) :
    writeReq q 0 idx sub v rule s = acceptWrite q idx sub v (rule (heardAs q (writeCommand v) idx sub s))
      (heardAs q (writeCommand v) idx sub s) := by
  obtain ⟨i, hi⟩ := heardAs_ring q (writeCommand v) idx sub s
  obtain ⟨k1, k2, k3, k4, _⟩ := heardAs_same q (writeCommand v) idx sub s
  have h0 := writeCode_zero (x := rule (heardAs q (writeCommand v) idx sub s)) h w hc
    (heardAs_noted q (writeCommand v) idx sub s) k1 k2 k3 k4 (by rw [hi])
  unfold writeReq
  rw [onArrival_taken h]
  simp only [heardAs, writeCommand] at h0 ⊢
  simp only [h0, if_true]

/-- A write that fails a check is rejected. -/
theorem writeReq_rejected {q : Req} {r : Role} {s : State} {proto idx sub : Nat} {v : Bytes} {rule : State → Rule}
    (h : Ready q r s) (c : Nat)
    (hc : writeCode q proto idx sub v (rule (heardAs q (writeCommand v) idx sub s)) (heardAs q (writeCommand v) idx sub s) = c)
    (h0 : c ≠ 0) :
    writeReq q proto idx sub v rule s = rejectReq q c
      ((rule (heardAs q (writeCommand v) idx sub s)).onReject (heardAs q (writeCommand v) idx sub s)) := by
  unfold writeReq
  rw [onArrival_taken h]
  simp only [heardAs, writeCommand] at hc ⊢
  simp only [hc, h0, if_false]

/-- A write accepted and answered at once. -/
theorem acceptWrite_now {q : Req} {idx sub : Nat} {v : Bytes} {x : Rule} (s : State) (hl : x.later = false)
    (hg : x.log = none) : acceptWrite q idx sub v x s
      = x.after (respond q 0 [] (auditWrite q idx sub v (x.apply (forwardAccess true idx sub s)))) := by
  unfold acceptWrite
  simp [hl, hg]

/-! ## What logging and answering leave alone -/

theorem rg_of_keeps {m : Nat} {s t : State} (h : Keeps m s t) (hm : m.testBit 4 = true) (i j : Nat) : rg t i j = rg s i j := by
  unfold rg
  rw [h.regs hm]

theorem rg_bump_other {i j n k l : Nat} (s : State) (hl : l < 256) (hj : j < 256) (h : k ≠ i) :
    rg (bump i j n s) k l = rg s k l := by
  unfold bump
  exact rg_withRg_other _ _ (fun e => h (keyOf_inj hl hj e).1)

/-- The objects that the log and the events count in. -/
def counted (i : Nat) : Prop := i = 0xF000 ∨ i = 0x1300 ∨ i = 0x6C01

theorem rg_raiseFor {aud code i j : Nat} {p : Bytes} (s : State) (ha : aud < 256) (hj : j < 256) (h : ¬counted i) :
    rg (raiseFor aud code p s) i j = rg s i j := by
  unfold counted at h
  unfold raiseFor
  extract_lets est k e r0 r1 r2
  split
  · refine (rg_bump_other _ hj (by decide) (by tauto)).trans ?_
    rfl
  · refine (rg_withRg_other _ _ (fun e => absurd (keyOf_inj hj ha e).1 (by tauto))).trans ?_
    rfl

theorem rg_raise {aud code i j : Nat} {p : Bytes} (s : State) (hj : j < 256) (h : ¬counted i) :
    rg (raise aud code p s) i j = rg s i j := by
  unfold raise
  dsimp only
  split <;> split <;> simp only [rg_raiseFor _ (show 1 < 256 by decide) hj h, rg_raiseFor _ (show 2 < 256 by decide) hj h]

theorem rg_exportIfDue {i j : Nat} (s : State) (hj : j < 256) (h : ¬counted i) : rg (exportIfDue s) i j = rg s i j := by
  unfold exportIfDue
  split
  · rfl
  · dsimp only
    rw [rg_raise _ hj h]
    rfl

theorem rg_auditDigest {i j sess idx sub kind len : Nat} {keyed : Bool} {d : BitVec 384} (s : State) (hj : j < 256)
    (h : ¬counted i) : rg (auditDigest sess idx sub kind keyed len d s) i j = rg s i j := by
  unfold auditDigest
  dsimp only
  rw [rg_exportIfDue _ hj h, rg_bump_other _ hj (by decide) (by unfold counted at h; tauto)]
  rfl

theorem rg_audit {i j sess idx sub kind : Nat} {keyed : Bool} {v : Bytes} (s : State) (hj : j < 256) (h : ¬counted i) :
    rg (audit sess idx sub kind keyed v s) i j = rg s i j := rg_auditDigest s hj h

theorem rg_auditWrite {i j idx sub : Nat} {q : Req} {v : Bytes} (s : State) (hj : j < 256) (h : ¬counted i) :
    rg (auditWrite q idx sub v s) i j = rg s i j := rg_audit s hj h

@[simp] theorem rg_respond {q : Req} {code i j : Nat} {d : Bytes} (s : State) : rg (respond q code d s) i j = rg s i j :=
  rg_of_keeps (m := 851965) ((respond_keeps q code d s (by decide)).mpr (Keeps.refl _ _)) (by decide) i j

/-! ## What an answered write shows -/

@[simp] theorem raiseFor_bypass (aud code : Nat) (p : Bytes) (s : State) :
    (raiseFor aud code p s).ring.bypassOpen = s.ring.bypassOpen := by
  unfold raiseFor
  extract_lets est k e r0 r1 r2
  have h1 : r1.bypassOpen = s.ring.bypassOpen := by simp only [r1, r0]; split <;> rfl
  have h2 : r2.bypassOpen = s.ring.bypassOpen := by simp only [r2]; split <;> exact h1
  split
  · rfl
  · exact h2

@[simp] theorem raise_bypass (aud code : Nat) (p : Bytes) (s : State) :
    (raise aud code p s).ring.bypassOpen = s.ring.bypassOpen := by
  unfold raise
  dsimp only
  split <;> split <;> simp

@[simp] theorem exportIfDue_bypass (s : State) : (exportIfDue s).ring.bypassOpen = s.ring.bypassOpen := by
  unfold exportIfDue
  split
  · rfl
  · dsimp only
    rw [raise_bypass]

@[simp] theorem auditDigest_bypass (sess idx sub kind : Nat) (keyed : Bool) (len : Nat) (d : BitVec 384) (s : State) :
    (auditDigest sess idx sub kind keyed len d s).ring.bypassOpen = s.ring.bypassOpen := by
  unfold auditDigest
  dsimp only
  rw [exportIfDue_bypass]
  rfl

@[simp] theorem audit_bypass (sess idx sub kind : Nat) (keyed : Bool) (v : Bytes) (s : State) :
    (audit sess idx sub kind keyed v s).ring.bypassOpen = s.ring.bypassOpen := auditDigest_bypass ..

@[simp] theorem auditWrite_bypass (q : Req) (idx sub : Nat) (v : Bytes) (s : State) :
    (auditWrite q idx sub v s).ring.bypassOpen = s.ring.bypassOpen := audit_bypass ..

theorem answers_respond (q : Req) (code : Nat) (d : Bytes) (s : State) (h : s.ring.bypassOpen = true) :
    Answers q code d (respond q code d s) := by
  have hb : (completed q (BitVec.ofNat 32 code) d s).ring.bypassOpen = true := h
  unfold Answers respond sendRing
  simp [hb, emit_sent]

@[simp] theorem raiseFor_sec (aud code : Nat) (p : Bytes) (s : State) : (raiseFor aud code p s).sec = s.sec :=
  ((raiseFor_keeps (m := 131072) aud code p s (by decide)).mpr (Keeps.refl _ _)).sec (by decide)

@[simp] theorem raise_sec (aud code : Nat) (p : Bytes) (s : State) : (raise aud code p s).sec = s.sec :=
  ((raise_keeps (m := 131072) aud code p s (by decide)).mpr (Keeps.refl _ _)).sec (by decide)

@[simp] theorem exportIfDue_log (s : State) : (exportIfDue s).sec.log = s.sec.log := by
  unfold exportIfDue
  split
  · rfl
  · dsimp only
    rw [raise_sec]

@[simp] theorem exportIfDue_sessions (s : State) : (exportIfDue s).sec.sessions = s.sec.sessions := by
  unfold exportIfDue
  split
  · rfl
  · dsimp only
    rw [raise_sec]

@[simp] theorem sessOf_audit (n sess idx sub kind : Nat) (keyed : Bool) (v : Bytes) (s : State) :
    sessOf (audit sess idx sub kind keyed v s) n = sessOf s n := by
  unfold sessOf audit auditDigest
  dsimp only
  rw [exportIfDue_sessions]
  rfl

@[simp] theorem respond_log (q : Req) (code : Nat) (d : Bytes) (s : State) : (respond q code d s).sec.log = s.sec.log := by
  unfold respond sendRing
  dsimp only
  split <;> rfl

theorem auditDigest_log (sess idx sub kind : Nat) (keyed : Bool) (len : Nat) (d : BitVec 384) (s : State) :
    ∃ e rest, (auditDigest sess idx sub kind keyed len d s).sec.log = e :: rest ∧ e.index = idx ∧ e.sub = sub
      ∧ e.sess = sess ∧ e.kind = kind := by
  unfold auditDigest
  dsimp only
  rw [exportIfDue_log]
  exact ⟨_, _, rfl, rfl, rfl, rfl, rfl⟩

theorem logged_write (q : Req) (code idx sub : Nat) (v d : Bytes) (s : State) :
    Logged q idx sub (respond q code d (auditWrite q idx sub v s)) := by
  obtain ⟨e, rest, h, hi, hs, hq, hk⟩ :=
    auditDigest_log q.sess idx sub 0 (roleOf s q.sess == .tenant && (match rowOf idx sub with
      | some r => r.op == .no || r.op == .wo
      | none => false)) v.length _ s
  exact ⟨e, rest, by rw [respond_log]; exact h, hi, hs, hq, hk⟩

/-- What logging changes of the security state. -/
theorem audit_sec (sess idx sub kind : Nat) (keyed : Bool) (v : Bytes) (s : State) : ∃ log chain exported last exportChain,
    (audit sess idx sub kind keyed v s).sec = { s.sec with
      log := log, chain := chain, exported := exported, lastExport := last, exportChain := exportChain } := by
  unfold audit auditDigest exportIfDue
  extract_lets salted session origin role e0 chain e u body record payload
  split
  · exact ⟨_, _, _, _, _, rfl⟩
  · rw [raise_sec]
    exact ⟨_, _, _, _, _, rfl⟩

/-- What an answer changes of the security state. -/
theorem respond_sec (q : Req) (code : Nat) (d : Bytes) (s : State) : ∃ l,
    (respond q code d s).sec = { s.sec with sessions := l } := by
  unfold respond sendRing
  dsimp only
  split <;> exact ⟨_, rfl⟩

/-- What a rejection changes of the security state. -/
theorem rejectReq_sec (q : Req) (code : Nat) (s : State) : ∃ l o,
    (rejectReq q code s).sec = { s.sec with sessions := l, origins := o } := by
  obtain ⟨l, h⟩ := respond_sec q code [] (countReject (originOf s q.sess) s)
  unfold rejectReq
  exact ⟨l, _, h⟩

/-- What an event changes of the ring's state. -/
theorem raiseFor_ring (aud code : Nat) (p : Bytes) (s : State) : ∃ queue lost op ten,
    (raiseFor aud code p s).ring = { s.ring with queue := queue, lost := lost, histOp := op, histTen := ten } := by
  unfold raiseFor
  extract_lets est k e r r1 r2
  split
  · exact ⟨_, _, _, _, rfl⟩
  · show ∃ queue lost op ten, r2 = _
    simp only [r2, r1, r]
    split <;> split <;> exact ⟨_, _, _, _, rfl⟩

theorem raise_ring (aud code : Nat) (p : Bytes) (s : State) : ∃ queue lost op ten,
    (raise aud code p s).ring = { s.ring with queue := queue, lost := lost, histOp := op, histTen := ten } := by
  unfold raise
  dsimp only
  obtain ⟨a, b, c, d, h⟩ := raiseFor_ring 1 code p s
  split <;> split
  · obtain ⟨a2, b2, c2, d2, h2⟩ := raiseFor_ring 2 code p (raiseFor 1 code p s)
    exact ⟨a2, b2, c2, d2, by rw [h2, h]⟩
  · exact raiseFor_ring 2 code p s
  · exact ⟨a, b, c, d, h⟩
  · exact ⟨_, _, _, _, rfl⟩

theorem audit_ring (sess idx sub kind : Nat) (keyed : Bool) (v : Bytes) (s : State) : ∃ queue lost op ten,
    (audit sess idx sub kind keyed v s).ring = { s.ring with queue := queue, lost := lost, histOp := op, histTen := ten } := by
  unfold audit auditDigest exportIfDue
  extract_lets salted session origin role e0 chain e u body record payload
  split
  · exact ⟨_, _, _, _, rfl⟩
  · exact raise_ring _ _ _ _

/-! ## The security and ring fields that logging and answering leave alone -/

@[simp] theorem audit_sec_sessions (sess idx sub kind : Nat) (keyed : Bool) (v : Bytes) (s : State) :
    (audit sess idx sub kind keyed v s).sec.sessions = s.sec.sessions := by
  obtain ⟨_, _, _, _, _, h⟩ := audit_sec sess idx sub kind keyed v s
  rw [h]

@[simp] theorem auditWrite_sec_sessions (q : Req) (idx sub : Nat) (v : Bytes) (s : State) :
    (auditWrite q idx sub v s).sec.sessions = s.sec.sessions := audit_sec_sessions ..

@[simp] theorem audit_sec_bound (sess idx sub kind : Nat) (keyed : Bool) (v : Bytes) (s : State) :
    (audit sess idx sub kind keyed v s).sec.bound = s.sec.bound := by
  obtain ⟨_, _, _, _, _, h⟩ := audit_sec sess idx sub kind keyed v s
  rw [h]

@[simp] theorem auditWrite_sec_bound (q : Req) (idx sub : Nat) (v : Bytes) (s : State) :
    (auditWrite q idx sub v s).sec.bound = s.sec.bound := audit_sec_bound ..

@[simp] theorem audit_sec_pend (sess idx sub kind : Nat) (keyed : Bool) (v : Bytes) (s : State) :
    (audit sess idx sub kind keyed v s).sec.pend = s.sec.pend := by
  obtain ⟨_, _, _, _, _, h⟩ := audit_sec sess idx sub kind keyed v s
  rw [h]

@[simp] theorem auditWrite_sec_pend (q : Req) (idx sub : Nat) (v : Bytes) (s : State) :
    (auditWrite q idx sub v s).sec.pend = s.sec.pend := audit_sec_pend ..

@[simp] theorem audit_sec_fabricKey (sess idx sub kind : Nat) (keyed : Bool) (v : Bytes) (s : State) :
    (audit sess idx sub kind keyed v s).sec.fabricKey = s.sec.fabricKey := by
  obtain ⟨_, _, _, _, _, h⟩ := audit_sec sess idx sub kind keyed v s
  rw [h]

@[simp] theorem auditWrite_sec_fabricKey (q : Req) (idx sub : Nat) (v : Bytes) (s : State) :
    (auditWrite q idx sub v s).sec.fabricKey = s.sec.fabricKey := audit_sec_fabricKey ..

@[simp] theorem audit_sec_baseKey (sess idx sub kind : Nat) (keyed : Bool) (v : Bytes) (s : State) :
    (audit sess idx sub kind keyed v s).sec.baseKey = s.sec.baseKey := by
  obtain ⟨_, _, _, _, _, h⟩ := audit_sec sess idx sub kind keyed v s
  rw [h]

@[simp] theorem auditWrite_sec_baseKey (q : Req) (idx sub : Nat) (v : Bytes) (s : State) :
    (auditWrite q idx sub v s).sec.baseKey = s.sec.baseKey := audit_sec_baseKey ..

@[simp] theorem audit_sec_moduleKey (sess idx sub kind : Nat) (keyed : Bool) (v : Bytes) (s : State) :
    (audit sess idx sub kind keyed v s).sec.moduleKey = s.sec.moduleKey := by
  obtain ⟨_, _, _, _, _, h⟩ := audit_sec sess idx sub kind keyed v s
  rw [h]

@[simp] theorem auditWrite_sec_moduleKey (q : Req) (idx sub : Nat) (v : Bytes) (s : State) :
    (auditWrite q idx sub v s).sec.moduleKey = s.sec.moduleKey := audit_sec_moduleKey ..

@[simp] theorem audit_sec_regions (sess idx sub kind : Nat) (keyed : Bool) (v : Bytes) (s : State) :
    (audit sess idx sub kind keyed v s).sec.regions = s.sec.regions := by
  obtain ⟨_, _, _, _, _, h⟩ := audit_sec sess idx sub kind keyed v s
  rw [h]

@[simp] theorem auditWrite_sec_regions (q : Req) (idx sub : Nat) (v : Bytes) (s : State) :
    (auditWrite q idx sub v s).sec.regions = s.sec.regions := audit_sec_regions ..

@[simp] theorem audit_sec_erasing (sess idx sub kind : Nat) (keyed : Bool) (v : Bytes) (s : State) :
    (audit sess idx sub kind keyed v s).sec.erasing = s.sec.erasing := by
  obtain ⟨_, _, _, _, _, h⟩ := audit_sec sess idx sub kind keyed v s
  rw [h]

@[simp] theorem auditWrite_sec_erasing (q : Req) (idx sub : Nat) (v : Bytes) (s : State) :
    (auditWrite q idx sub v s).sec.erasing = s.sec.erasing := audit_sec_erasing ..

@[simp] theorem audit_sec_origins (sess idx sub kind : Nat) (keyed : Bool) (v : Bytes) (s : State) :
    (audit sess idx sub kind keyed v s).sec.origins = s.sec.origins := by
  obtain ⟨_, _, _, _, _, h⟩ := audit_sec sess idx sub kind keyed v s
  rw [h]

@[simp] theorem auditWrite_sec_origins (q : Req) (idx sub : Nat) (v : Bytes) (s : State) :
    (auditWrite q idx sub v s).sec.origins = s.sec.origins := audit_sec_origins ..

@[simp] theorem audit_sec_flashFull (sess idx sub kind : Nat) (keyed : Bool) (v : Bytes) (s : State) :
    (audit sess idx sub kind keyed v s).sec.flashFull = s.sec.flashFull := by
  obtain ⟨_, _, _, _, _, h⟩ := audit_sec sess idx sub kind keyed v s
  rw [h]

@[simp] theorem auditWrite_sec_flashFull (q : Req) (idx sub : Nat) (v : Bytes) (s : State) :
    (auditWrite q idx sub v s).sec.flashFull = s.sec.flashFull := audit_sec_flashFull ..

@[simp] theorem audit_sec_minSecurity (sess idx sub kind : Nat) (keyed : Bool) (v : Bytes) (s : State) :
    (audit sess idx sub kind keyed v s).sec.minSecurity = s.sec.minSecurity := by
  obtain ⟨_, _, _, _, _, h⟩ := audit_sec sess idx sub kind keyed v s
  rw [h]

@[simp] theorem auditWrite_sec_minSecurity (q : Req) (idx sub : Nat) (v : Bytes) (s : State) :
    (auditWrite q idx sub v s).sec.minSecurity = s.sec.minSecurity := audit_sec_minSecurity ..

@[simp] theorem audit_sec_fwStored (sess idx sub kind : Nat) (keyed : Bool) (v : Bytes) (s : State) :
    (audit sess idx sub kind keyed v s).sec.fwStored = s.sec.fwStored := by
  obtain ⟨_, _, _, _, _, h⟩ := audit_sec sess idx sub kind keyed v s
  rw [h]

@[simp] theorem auditWrite_sec_fwStored (q : Req) (idx sub : Nat) (v : Bytes) (s : State) :
    (auditWrite q idx sub v s).sec.fwStored = s.sec.fwStored := audit_sec_fwStored ..

@[simp] theorem audit_sec_fwDigest (sess idx sub kind : Nat) (keyed : Bool) (v : Bytes) (s : State) :
    (audit sess idx sub kind keyed v s).sec.fwDigest = s.sec.fwDigest := by
  obtain ⟨_, _, _, _, _, h⟩ := audit_sec sess idx sub kind keyed v s
  rw [h]

@[simp] theorem auditWrite_sec_fwDigest (q : Req) (idx sub : Nat) (v : Bytes) (s : State) :
    (auditWrite q idx sub v s).sec.fwDigest = s.sec.fwDigest := audit_sec_fwDigest ..

@[simp] theorem audit_sec_fwRunning (sess idx sub kind : Nat) (keyed : Bool) (v : Bytes) (s : State) :
    (audit sess idx sub kind keyed v s).sec.fwRunning = s.sec.fwRunning := by
  obtain ⟨_, _, _, _, _, h⟩ := audit_sec sess idx sub kind keyed v s
  rw [h]

@[simp] theorem auditWrite_sec_fwRunning (q : Req) (idx sub : Nat) (v : Bytes) (s : State) :
    (auditWrite q idx sub v s).sec.fwRunning = s.sec.fwRunning := audit_sec_fwRunning ..

@[simp] theorem audit_sec_fwSecurity (sess idx sub kind : Nat) (keyed : Bool) (v : Bytes) (s : State) :
    (audit sess idx sub kind keyed v s).sec.fwSecurity = s.sec.fwSecurity := by
  obtain ⟨_, _, _, _, _, h⟩ := audit_sec sess idx sub kind keyed v s
  rw [h]

@[simp] theorem auditWrite_sec_fwSecurity (q : Req) (idx sub : Nat) (v : Bytes) (s : State) :
    (auditWrite q idx sub v s).sec.fwSecurity = s.sec.fwSecurity := audit_sec_fwSecurity ..

@[simp] theorem audit_sec_recovery (sess idx sub kind : Nat) (keyed : Bool) (v : Bytes) (s : State) :
    (audit sess idx sub kind keyed v s).sec.recovery = s.sec.recovery := by
  obtain ⟨_, _, _, _, _, h⟩ := audit_sec sess idx sub kind keyed v s
  rw [h]

@[simp] theorem auditWrite_sec_recovery (q : Req) (idx sub : Nat) (v : Bytes) (s : State) :
    (auditWrite q idx sub v s).sec.recovery = s.sec.recovery := audit_sec_recovery ..

@[simp] theorem respond_sec_bound (q : Req) (code : Nat) (d : Bytes) (s : State) :
    (respond q code d s).sec.bound = s.sec.bound := by
  obtain ⟨_, h⟩ := respond_sec q code d s
  rw [h]

@[simp] theorem rejectReq_sec_bound (q : Req) (code : Nat) (s : State) :
    (rejectReq q code s).sec.bound = s.sec.bound := by
  obtain ⟨_, _, h⟩ := rejectReq_sec q code s
  rw [h]

@[simp] theorem respond_sec_pend (q : Req) (code : Nat) (d : Bytes) (s : State) :
    (respond q code d s).sec.pend = s.sec.pend := by
  obtain ⟨_, h⟩ := respond_sec q code d s
  rw [h]

@[simp] theorem rejectReq_sec_pend (q : Req) (code : Nat) (s : State) :
    (rejectReq q code s).sec.pend = s.sec.pend := by
  obtain ⟨_, _, h⟩ := rejectReq_sec q code s
  rw [h]

@[simp] theorem respond_sec_fabricKey (q : Req) (code : Nat) (d : Bytes) (s : State) :
    (respond q code d s).sec.fabricKey = s.sec.fabricKey := by
  obtain ⟨_, h⟩ := respond_sec q code d s
  rw [h]

@[simp] theorem rejectReq_sec_fabricKey (q : Req) (code : Nat) (s : State) :
    (rejectReq q code s).sec.fabricKey = s.sec.fabricKey := by
  obtain ⟨_, _, h⟩ := rejectReq_sec q code s
  rw [h]

@[simp] theorem respond_sec_baseKey (q : Req) (code : Nat) (d : Bytes) (s : State) :
    (respond q code d s).sec.baseKey = s.sec.baseKey := by
  obtain ⟨_, h⟩ := respond_sec q code d s
  rw [h]

@[simp] theorem rejectReq_sec_baseKey (q : Req) (code : Nat) (s : State) :
    (rejectReq q code s).sec.baseKey = s.sec.baseKey := by
  obtain ⟨_, _, h⟩ := rejectReq_sec q code s
  rw [h]

@[simp] theorem respond_sec_moduleKey (q : Req) (code : Nat) (d : Bytes) (s : State) :
    (respond q code d s).sec.moduleKey = s.sec.moduleKey := by
  obtain ⟨_, h⟩ := respond_sec q code d s
  rw [h]

@[simp] theorem rejectReq_sec_moduleKey (q : Req) (code : Nat) (s : State) :
    (rejectReq q code s).sec.moduleKey = s.sec.moduleKey := by
  obtain ⟨_, _, h⟩ := rejectReq_sec q code s
  rw [h]

@[simp] theorem respond_sec_regions (q : Req) (code : Nat) (d : Bytes) (s : State) :
    (respond q code d s).sec.regions = s.sec.regions := by
  obtain ⟨_, h⟩ := respond_sec q code d s
  rw [h]

@[simp] theorem rejectReq_sec_regions (q : Req) (code : Nat) (s : State) :
    (rejectReq q code s).sec.regions = s.sec.regions := by
  obtain ⟨_, _, h⟩ := rejectReq_sec q code s
  rw [h]

@[simp] theorem respond_sec_erasing (q : Req) (code : Nat) (d : Bytes) (s : State) :
    (respond q code d s).sec.erasing = s.sec.erasing := by
  obtain ⟨_, h⟩ := respond_sec q code d s
  rw [h]

@[simp] theorem rejectReq_sec_erasing (q : Req) (code : Nat) (s : State) :
    (rejectReq q code s).sec.erasing = s.sec.erasing := by
  obtain ⟨_, _, h⟩ := rejectReq_sec q code s
  rw [h]

@[simp] theorem respond_sec_origins (q : Req) (code : Nat) (d : Bytes) (s : State) :
    (respond q code d s).sec.origins = s.sec.origins := by
  obtain ⟨_, h⟩ := respond_sec q code d s
  rw [h]

@[simp] theorem respond_sec_flashFull (q : Req) (code : Nat) (d : Bytes) (s : State) :
    (respond q code d s).sec.flashFull = s.sec.flashFull := by
  obtain ⟨_, h⟩ := respond_sec q code d s
  rw [h]

@[simp] theorem rejectReq_sec_flashFull (q : Req) (code : Nat) (s : State) :
    (rejectReq q code s).sec.flashFull = s.sec.flashFull := by
  obtain ⟨_, _, h⟩ := rejectReq_sec q code s
  rw [h]

@[simp] theorem respond_sec_minSecurity (q : Req) (code : Nat) (d : Bytes) (s : State) :
    (respond q code d s).sec.minSecurity = s.sec.minSecurity := by
  obtain ⟨_, h⟩ := respond_sec q code d s
  rw [h]

@[simp] theorem rejectReq_sec_minSecurity (q : Req) (code : Nat) (s : State) :
    (rejectReq q code s).sec.minSecurity = s.sec.minSecurity := by
  obtain ⟨_, _, h⟩ := rejectReq_sec q code s
  rw [h]

@[simp] theorem respond_sec_fwStored (q : Req) (code : Nat) (d : Bytes) (s : State) :
    (respond q code d s).sec.fwStored = s.sec.fwStored := by
  obtain ⟨_, h⟩ := respond_sec q code d s
  rw [h]

@[simp] theorem rejectReq_sec_fwStored (q : Req) (code : Nat) (s : State) :
    (rejectReq q code s).sec.fwStored = s.sec.fwStored := by
  obtain ⟨_, _, h⟩ := rejectReq_sec q code s
  rw [h]

@[simp] theorem respond_sec_fwDigest (q : Req) (code : Nat) (d : Bytes) (s : State) :
    (respond q code d s).sec.fwDigest = s.sec.fwDigest := by
  obtain ⟨_, h⟩ := respond_sec q code d s
  rw [h]

@[simp] theorem rejectReq_sec_fwDigest (q : Req) (code : Nat) (s : State) :
    (rejectReq q code s).sec.fwDigest = s.sec.fwDigest := by
  obtain ⟨_, _, h⟩ := rejectReq_sec q code s
  rw [h]

@[simp] theorem respond_sec_fwRunning (q : Req) (code : Nat) (d : Bytes) (s : State) :
    (respond q code d s).sec.fwRunning = s.sec.fwRunning := by
  obtain ⟨_, h⟩ := respond_sec q code d s
  rw [h]

@[simp] theorem rejectReq_sec_fwRunning (q : Req) (code : Nat) (s : State) :
    (rejectReq q code s).sec.fwRunning = s.sec.fwRunning := by
  obtain ⟨_, _, h⟩ := rejectReq_sec q code s
  rw [h]

@[simp] theorem respond_sec_fwSecurity (q : Req) (code : Nat) (d : Bytes) (s : State) :
    (respond q code d s).sec.fwSecurity = s.sec.fwSecurity := by
  obtain ⟨_, h⟩ := respond_sec q code d s
  rw [h]

@[simp] theorem rejectReq_sec_fwSecurity (q : Req) (code : Nat) (s : State) :
    (rejectReq q code s).sec.fwSecurity = s.sec.fwSecurity := by
  obtain ⟨_, _, h⟩ := rejectReq_sec q code s
  rw [h]

@[simp] theorem respond_sec_recovery (q : Req) (code : Nat) (d : Bytes) (s : State) :
    (respond q code d s).sec.recovery = s.sec.recovery := by
  obtain ⟨_, h⟩ := respond_sec q code d s
  rw [h]

@[simp] theorem rejectReq_sec_recovery (q : Req) (code : Nat) (s : State) :
    (rejectReq q code s).sec.recovery = s.sec.recovery := by
  obtain ⟨_, _, h⟩ := rejectReq_sec q code s
  rw [h]

@[simp] theorem respond_sec_log (q : Req) (code : Nat) (d : Bytes) (s : State) :
    (respond q code d s).sec.log = s.sec.log := by
  obtain ⟨_, h⟩ := respond_sec q code d s
  rw [h]

@[simp] theorem rejectReq_sec_log (q : Req) (code : Nat) (s : State) :
    (rejectReq q code s).sec.log = s.sec.log := by
  obtain ⟨_, _, h⟩ := rejectReq_sec q code s
  rw [h]

@[simp] theorem respond_sec_chain (q : Req) (code : Nat) (d : Bytes) (s : State) :
    (respond q code d s).sec.chain = s.sec.chain := by
  obtain ⟨_, h⟩ := respond_sec q code d s
  rw [h]

@[simp] theorem rejectReq_sec_chain (q : Req) (code : Nat) (s : State) :
    (rejectReq q code s).sec.chain = s.sec.chain := by
  obtain ⟨_, _, h⟩ := rejectReq_sec q code s
  rw [h]

@[simp] theorem respond_sec_exported (q : Req) (code : Nat) (d : Bytes) (s : State) :
    (respond q code d s).sec.exported = s.sec.exported := by
  obtain ⟨_, h⟩ := respond_sec q code d s
  rw [h]

@[simp] theorem rejectReq_sec_exported (q : Req) (code : Nat) (s : State) :
    (rejectReq q code s).sec.exported = s.sec.exported := by
  obtain ⟨_, _, h⟩ := rejectReq_sec q code s
  rw [h]

@[simp] theorem respond_sec_lastExport (q : Req) (code : Nat) (d : Bytes) (s : State) :
    (respond q code d s).sec.lastExport = s.sec.lastExport := by
  obtain ⟨_, h⟩ := respond_sec q code d s
  rw [h]

@[simp] theorem rejectReq_sec_lastExport (q : Req) (code : Nat) (s : State) :
    (rejectReq q code s).sec.lastExport = s.sec.lastExport := by
  obtain ⟨_, _, h⟩ := rejectReq_sec q code s
  rw [h]

@[simp] theorem respond_sec_exportChain (q : Req) (code : Nat) (d : Bytes) (s : State) :
    (respond q code d s).sec.exportChain = s.sec.exportChain := by
  obtain ⟨_, h⟩ := respond_sec q code d s
  rw [h]

@[simp] theorem rejectReq_sec_exportChain (q : Req) (code : Nat) (s : State) :
    (rejectReq q code s).sec.exportChain = s.sec.exportChain := by
  obtain ⟨_, _, h⟩ := rejectReq_sec q code s
  rw [h]

@[simp] theorem raise_ring_closeAtFrame (aud code : Nat) (p : Bytes) (s : State) :
    (raise aud code p s).ring.closeAtFrame = s.ring.closeAtFrame := by
  obtain ⟨_, _, _, _, h⟩ := raise_ring aud code p s
  rw [h]

@[simp] theorem audit_ring_closeAtFrame (sess idx sub kind : Nat) (keyed : Bool) (v : Bytes) (s : State) :
    (audit sess idx sub kind keyed v s).ring.closeAtFrame = s.ring.closeAtFrame := by
  obtain ⟨_, _, _, _, h⟩ := audit_ring sess idx sub kind keyed v s
  rw [h]

@[simp] theorem auditWrite_ring_closeAtFrame (q : Req) (idx sub : Nat) (v : Bytes) (s : State) :
    (auditWrite q idx sub v s).ring.closeAtFrame = s.ring.closeAtFrame := audit_ring_closeAtFrame ..

@[simp] theorem raise_ring_lastMark (aud code : Nat) (p : Bytes) (s : State) :
    (raise aud code p s).ring.lastMark = s.ring.lastMark := by
  obtain ⟨_, _, _, _, h⟩ := raise_ring aud code p s
  rw [h]

@[simp] theorem audit_ring_lastMark (sess idx sub kind : Nat) (keyed : Bool) (v : Bytes) (s : State) :
    (audit sess idx sub kind keyed v s).ring.lastMark = s.ring.lastMark := by
  obtain ⟨_, _, _, _, h⟩ := audit_ring sess idx sub kind keyed v s
  rw [h]

@[simp] theorem auditWrite_ring_lastMark (q : Req) (idx sub : Nat) (v : Bytes) (s : State) :
    (auditWrite q idx sub v s).ring.lastMark = s.ring.lastMark := audit_ring_lastMark ..

@[simp] theorem raise_ring_parts (aud code : Nat) (p : Bytes) (s : State) :
    (raise aud code p s).ring.parts = s.ring.parts := by
  obtain ⟨_, _, _, _, h⟩ := raise_ring aud code p s
  rw [h]

@[simp] theorem audit_ring_parts (sess idx sub kind : Nat) (keyed : Bool) (v : Bytes) (s : State) :
    (audit sess idx sub kind keyed v s).ring.parts = s.ring.parts := by
  obtain ⟨_, _, _, _, h⟩ := audit_ring sess idx sub kind keyed v s
  rw [h]

@[simp] theorem auditWrite_ring_parts (q : Req) (idx sub : Nat) (v : Bytes) (s : State) :
    (auditWrite q idx sub v s).ring.parts = s.ring.parts := audit_ring_parts ..

@[simp] theorem raise_ring_inbox (aud code : Nat) (p : Bytes) (s : State) :
    (raise aud code p s).ring.inbox = s.ring.inbox := by
  obtain ⟨_, _, _, _, h⟩ := raise_ring aud code p s
  rw [h]

@[simp] theorem audit_ring_inbox (sess idx sub kind : Nat) (keyed : Bool) (v : Bytes) (s : State) :
    (audit sess idx sub kind keyed v s).ring.inbox = s.ring.inbox := by
  obtain ⟨_, _, _, _, h⟩ := audit_ring sess idx sub kind keyed v s
  rw [h]

@[simp] theorem auditWrite_ring_inbox (q : Req) (idx sub : Nat) (v : Bytes) (s : State) :
    (auditWrite q idx sub v s).ring.inbox = s.ring.inbox := audit_ring_inbox ..

@[simp] theorem raise_ring_transfers (aud code : Nat) (p : Bytes) (s : State) :
    (raise aud code p s).ring.transfers = s.ring.transfers := by
  obtain ⟨_, _, _, _, h⟩ := raise_ring aud code p s
  rw [h]

@[simp] theorem audit_ring_transfers (sess idx sub kind : Nat) (keyed : Bool) (v : Bytes) (s : State) :
    (audit sess idx sub kind keyed v s).ring.transfers = s.ring.transfers := by
  obtain ⟨_, _, _, _, h⟩ := audit_ring sess idx sub kind keyed v s
  rw [h]

@[simp] theorem auditWrite_ring_transfers (q : Req) (idx sub : Nat) (v : Bytes) (s : State) :
    (auditWrite q idx sub v s).ring.transfers = s.ring.transfers := audit_ring_transfers ..

@[simp] theorem raise_ring_channels (aud code : Nat) (p : Bytes) (s : State) :
    (raise aud code p s).ring.channels = s.ring.channels := by
  obtain ⟨_, _, _, _, h⟩ := raise_ring aud code p s
  rw [h]

@[simp] theorem audit_ring_channels (sess idx sub kind : Nat) (keyed : Bool) (v : Bytes) (s : State) :
    (audit sess idx sub kind keyed v s).ring.channels = s.ring.channels := by
  obtain ⟨_, _, _, _, h⟩ := audit_ring sess idx sub kind keyed v s
  rw [h]

@[simp] theorem auditWrite_ring_channels (q : Req) (idx sub : Nat) (v : Bytes) (s : State) :
    (auditWrite q idx sub v s).ring.channels = s.ring.channels := audit_ring_channels ..

@[simp] theorem raise_ring_clock (aud code : Nat) (p : Bytes) (s : State) :
    (raise aud code p s).ring.clock = s.ring.clock := by
  obtain ⟨_, _, _, _, h⟩ := raise_ring aud code p s
  rw [h]

@[simp] theorem audit_ring_clock (sess idx sub kind : Nat) (keyed : Bool) (v : Bytes) (s : State) :
    (audit sess idx sub kind keyed v s).ring.clock = s.ring.clock := by
  obtain ⟨_, _, _, _, h⟩ := audit_ring sess idx sub kind keyed v s
  rw [h]

@[simp] theorem auditWrite_ring_clock (q : Req) (idx sub : Nat) (v : Bytes) (s : State) :
    (auditWrite q idx sub v s).ring.clock = s.ring.clock := audit_ring_clock ..

theorem sendRing_ring (o : Output) (s : State) : ∃ l n, (sendRing o s).ring = { s.ring with out := l, nextMsg := n } := by
  unfold sendRing
  split
  · rw [emit_ring]
    unfold queueOut
    split <;> exact ⟨_, _, rfl⟩
  · exact ⟨_, _, rfl⟩

theorem respond_ring (q : Req) (code : Nat) (d : Bytes) (s : State) :
    ∃ l n, (respond q code d s).ring = { s.ring with out := l, nextMsg := n } := sendRing_ring _ _

@[simp] theorem respond_ring_bypassOpen (q : Req) (code : Nat) (d : Bytes) (s : State) :
    (respond q code d s).ring.bypassOpen = s.ring.bypassOpen := by
  obtain ⟨_, _, h⟩ := respond_ring q code d s
  rw [h]

@[simp] theorem rejectReq_ring_bypassOpen (q : Req) (code : Nat) (s : State) :
    (rejectReq q code s).ring.bypassOpen = s.ring.bypassOpen := respond_ring_bypassOpen ..

@[simp] theorem respond_ring_closeAtFrame (q : Req) (code : Nat) (d : Bytes) (s : State) :
    (respond q code d s).ring.closeAtFrame = s.ring.closeAtFrame := by
  obtain ⟨_, _, h⟩ := respond_ring q code d s
  rw [h]

@[simp] theorem rejectReq_ring_closeAtFrame (q : Req) (code : Nat) (s : State) :
    (rejectReq q code s).ring.closeAtFrame = s.ring.closeAtFrame := respond_ring_closeAtFrame ..

@[simp] theorem respond_ring_lastMark (q : Req) (code : Nat) (d : Bytes) (s : State) :
    (respond q code d s).ring.lastMark = s.ring.lastMark := by
  obtain ⟨_, _, h⟩ := respond_ring q code d s
  rw [h]

@[simp] theorem rejectReq_ring_lastMark (q : Req) (code : Nat) (s : State) :
    (rejectReq q code s).ring.lastMark = s.ring.lastMark := respond_ring_lastMark ..

@[simp] theorem respond_ring_frames (q : Req) (code : Nat) (d : Bytes) (s : State) :
    (respond q code d s).ring.frames = s.ring.frames := by
  obtain ⟨_, _, h⟩ := respond_ring q code d s
  rw [h]

@[simp] theorem rejectReq_ring_frames (q : Req) (code : Nat) (s : State) :
    (rejectReq q code s).ring.frames = s.ring.frames := respond_ring_frames ..

@[simp] theorem respond_ring_parts (q : Req) (code : Nat) (d : Bytes) (s : State) :
    (respond q code d s).ring.parts = s.ring.parts := by
  obtain ⟨_, _, h⟩ := respond_ring q code d s
  rw [h]

@[simp] theorem rejectReq_ring_parts (q : Req) (code : Nat) (s : State) :
    (rejectReq q code s).ring.parts = s.ring.parts := respond_ring_parts ..

@[simp] theorem respond_ring_inbox (q : Req) (code : Nat) (d : Bytes) (s : State) :
    (respond q code d s).ring.inbox = s.ring.inbox := by
  obtain ⟨_, _, h⟩ := respond_ring q code d s
  rw [h]

@[simp] theorem rejectReq_ring_inbox (q : Req) (code : Nat) (s : State) :
    (rejectReq q code s).ring.inbox = s.ring.inbox := respond_ring_inbox ..

@[simp] theorem respond_ring_transfers (q : Req) (code : Nat) (d : Bytes) (s : State) :
    (respond q code d s).ring.transfers = s.ring.transfers := by
  obtain ⟨_, _, h⟩ := respond_ring q code d s
  rw [h]

@[simp] theorem rejectReq_ring_transfers (q : Req) (code : Nat) (s : State) :
    (rejectReq q code s).ring.transfers = s.ring.transfers := respond_ring_transfers ..

@[simp] theorem respond_ring_channels (q : Req) (code : Nat) (d : Bytes) (s : State) :
    (respond q code d s).ring.channels = s.ring.channels := by
  obtain ⟨_, _, h⟩ := respond_ring q code d s
  rw [h]

@[simp] theorem rejectReq_ring_channels (q : Req) (code : Nat) (s : State) :
    (rejectReq q code s).ring.channels = s.ring.channels := respond_ring_channels ..

@[simp] theorem respond_ring_queue (q : Req) (code : Nat) (d : Bytes) (s : State) :
    (respond q code d s).ring.queue = s.ring.queue := by
  obtain ⟨_, _, h⟩ := respond_ring q code d s
  rw [h]

@[simp] theorem rejectReq_ring_queue (q : Req) (code : Nat) (s : State) :
    (rejectReq q code s).ring.queue = s.ring.queue := respond_ring_queue ..

@[simp] theorem respond_ring_lost (q : Req) (code : Nat) (d : Bytes) (s : State) :
    (respond q code d s).ring.lost = s.ring.lost := by
  obtain ⟨_, _, h⟩ := respond_ring q code d s
  rw [h]

@[simp] theorem rejectReq_ring_lost (q : Req) (code : Nat) (s : State) :
    (rejectReq q code s).ring.lost = s.ring.lost := respond_ring_lost ..

@[simp] theorem respond_ring_histOp (q : Req) (code : Nat) (d : Bytes) (s : State) :
    (respond q code d s).ring.histOp = s.ring.histOp := by
  obtain ⟨_, _, h⟩ := respond_ring q code d s
  rw [h]

@[simp] theorem rejectReq_ring_histOp (q : Req) (code : Nat) (s : State) :
    (rejectReq q code s).ring.histOp = s.ring.histOp := respond_ring_histOp ..

@[simp] theorem respond_ring_histTen (q : Req) (code : Nat) (d : Bytes) (s : State) :
    (respond q code d s).ring.histTen = s.ring.histTen := by
  obtain ⟨_, _, h⟩ := respond_ring q code d s
  rw [h]

@[simp] theorem rejectReq_ring_histTen (q : Req) (code : Nat) (s : State) :
    (rejectReq q code s).ring.histTen = s.ring.histTen := respond_ring_histTen ..

@[simp] theorem respond_ring_clock (q : Req) (code : Nat) (d : Bytes) (s : State) :
    (respond q code d s).ring.clock = s.ring.clock := by
  obtain ⟨_, _, h⟩ := respond_ring q code d s
  rw [h]

@[simp] theorem rejectReq_ring_clock (q : Req) (code : Nat) (s : State) :
    (rejectReq q code s).ring.clock = s.ring.clock := respond_ring_clock ..

/-! ## Frames -/

/-- The bit of a part in the frames of `Keeps`. -/
def partBit : Part → Nat
  | .queue => 0
  | .wires => 1
  | .freeCounter => 2
  | .device => 3
  | .registers => 4
  | .straps => 5
  | .execution => 6
  | .sites => 7
  | .siteMap => 8
  | .memory => 9
  | .links => 10
  | .dieErrors => 11
  | .photonics => 12
  | .fabric => 13
  | .collectives => 14
  | .resilience => 15
  | .ring => 16
  | .security => 17
  | .power => 18
  | .test => 19

theorem same_of_keeps {m : Nat} {s t : State} (h : Keeps m s t) (p : Part) (hp : m.testBit (partBit p) = true) :
    p.same s t := by
  cases p
  · exact h.pending hp
  · exact h.sent hp
  · exact h.freeCtr hp
  · exact h.dev hp
  · exact h.regs hp
  · exact h.straps hp
  · exact h.ex hp
  · exact h.sites hp
  · exact h.siteMap hp
  · exact h.mem hp
  · exact h.links hp
  · exact h.dieErrors hp
  · exact h.pho hp
  · exact h.fab hp
  · exact h.col hp
  · exact h.res hp
  · exact h.ring hp
  · exact h.sec hp
  · exact h.pwr hp
  · exact h.test hp

/-- A frame by bits is a frame by parts. -/
theorem unchanged_of_keeps {m : Nat} {s t : State} (ps : List Part) (h : Keeps m s t)
    (hp : ∀ p, p ∉ ps → m.testBit (partBit p) = true) : unchangedExcept ps s t :=
  fun p hn => same_of_keeps h p (hp p hn)

theorem regsExcept_refl (l : List (Nat × Nat)) (s : State) : regsExcept l s s := fun _ _ _ _ _ _ _ => rfl

theorem regsExcept_trans {l : List (Nat × Nat)} {s t u : State} (h : regsExcept l s t) (k : regsExcept l t u) :
    regsExcept l s u := fun i j hj hn a b c => (k i j hj hn a b c).trans (h i j hj hn a b c)

theorem regsExcept_of_regs {l : List (Nat × Nat)} {s t : State} (h : t.regs = s.regs) : regsExcept l s t :=
  fun i j _ _ _ _ _ => by unfold rg; rw [h]

theorem regsExcept_withRg {l : List (Nat × Nat)} {i j : Nat} (v : Nat) (s : State) (hj : j < 256) (h : (i, j) ∈ l) :
    regsExcept l s (withRg i j v s) := by
  intro k n hn hk _ _ _
  refine rg_withRg_other _ _ (fun e => ?_)
  obtain ⟨rfl, rfl⟩ := keyOf_inj hn hj e
  exact hk h

theorem regsExcept_bump {l : List (Nat × Nat)} {i j : Nat} (n : Nat) (s : State) (hj : j < 256) (h : (i, j) ∈ l) :
    regsExcept l s (bump i j n s) := regsExcept_withRg _ s hj h

theorem regsExcept_raise {l : List (Nat × Nat)} (aud code : Nat) (p : Bytes) (s : State) : regsExcept l s (raise aud code p s) :=
  fun _ _ hj _ a b c => rg_raise s hj (by unfold counted; tauto)

theorem regsExcept_audit {l : List (Nat × Nat)} (sess idx sub kind : Nat) (keyed : Bool) (v : Bytes) (s : State) :
    regsExcept l s (audit sess idx sub kind keyed v s) :=
  fun _ _ hj _ a b c => rg_audit s hj (by unfold counted; tauto)

/-- The state on which an accepted write acts: judged, and forwarded to its die where an island does not hold the
object. -/
def actsOn (q : Req) (idx sub : Nat) (v : Bytes) (s : State) : State :=
  forwardAccess true idx sub (heardAs q (writeCommand v) idx sub s)

/-- A write accepted, applied, logged and answered at once: what it answers and logs, and the state it leaves. -/
theorem write_now {q : Req} {r : Role} {s : State} {idx sub : Nat} {v : Bytes} {rule : State → Rule} {x : Rule}
    (h : Ready q r s) (w : Writable r idx sub v s) (hx : rule (heardAs q (writeCommand v) idx sub s) = x)
    (hc : ∀ c ∈ x.codes, c = 0) (hl : x.later = false) (hg : x.log = none) :
    writeReq q 0 idx sub v rule s
      = x.after (respond q 0 [] (auditWrite q idx sub v (x.apply (actsOn q idx sub v s)))) := by
  rw [writeReq_accepted h w (by rw [hx]; exact hc), hx, acceptWrite_now _ hl hg]
  rfl

end Sys2Proof.Machine
end

