-- ==== Sys2Proof/Laws/StepIdentity.lean ====
section
/-! SUPPORT. The installed score, the next step number and the identity of the running step, which only the commands
that start, end, install or discard a step change: one lemma per operation that leaves them alone. -/

namespace Sys2Proof.Machine

set_option linter.unusedTactic false
set_option linter.unreachableTactic false
set_option linter.unusedSimpArgs false
set_option linter.unnecessarySeqFocus false
set_option linter.unusedVariables false

theorem stepId_of_ex {s t : State} (h : t.ex = s.ex) : stepId t = stepId s := by
  unfold stepId
  rw [h]

@[simp] theorem stepId_set {u : State} (a0) (a1) (a2) (a3) (a4) (a5) (a7) (a8) (a9) (a10) (a11) (a12) (a13) (a14) (a15) (a16) (a17) (a18) (a19) :
    stepId (State.mk a0 a1 a2 a3 a4 a5 u.ex a7 a8 a9 a10 a11 a12 a13 a14 a15 a16 a17 a18 a19) = stepId u := rfl

@[simp] theorem stepId_foldl {α : Type} (f : State → α → State) (h : ∀ u e, stepId (f u e) = stepId u) (l : List α) (s : State) :
    stepId (l.foldl f s) = stepId s := by
  induction l generalizing s with
  | nil => rfl
  | cons a t ih => rw [List.foldl_cons, ih, h]

@[simp] theorem onScore_stepId (s : State) (f : Score → State → State) (h : ∀ sc u, stepId (f sc u) = stepId u) :
    stepId (onScore s f) = stepId s := by
  unfold onScore
  split
  · exact h _ _
  · rfl

@[simp] theorem ifTagged_stepId (tag : Nat) (f : State → State) (s : State) (h : ∀ u, stepId (f u) = stepId u) :
    stepId (ifTagged tag f s) = stepId s := by
  unfold ifTagged
  split
  · exact h _
  · exact stepId_of_ex rfl

@[simp] theorem stepDataError_stepId (cause : W32) (late : State → State) (s : State)
    (h : ∀ u, stepId (late u) = stepId u) : stepId (stepDataError cause late s) = stepId s := by
  unfold stepDataError
  dsimp only
  split
  · rfl
  · split
    · rfl
    · rw [h]; rfl

@[simp] theorem stepId_ite (c : Prop) [Decidable c] (a b : State) :
    stepId (if c then a else b) = if c then stepId a else stepId b := by
  split <;> rfl

@[simp] theorem withHalf_stepId (half : Nat) (t1 : HalfTest) (s : State) : stepId (withHalf half t1 s) = stepId s :=
  stepId_of_ex (Keeps.ex ((withHalf_keeps (m := 524287) (s0 := s) half t1 s (by decide)).mpr (Keeps.refl _ _)) (by decide))

@[simp] theorem withSite_stepId (key : Nat) (x : Site) (s : State) : stepId (withSite key x s) = stepId s :=
  stepId_of_ex (Keeps.ex ((withSite_keeps (m := 1048447) (s0 := s) key x s (by decide)).mpr (Keeps.refl _ _)) (by decide))

@[simp] theorem zeroSite_stepId (half : Nat) (site : Nat) (s : State) : stepId (zeroSite half site s) = stepId s :=
  stepId_of_ex (Keeps.ex ((zeroSite_keeps (m := 1048447) (s0 := s) half site s (by decide)).mpr (Keeps.refl _ _)) (by decide))

@[simp] theorem returnCore_stepId (half : Nat) (s : State) : stepId (returnCore half s) = stepId s :=
  stepId_of_ex (Keeps.ex ((returnCore_keeps (m := 523903) (s0 := s) half s (by decide)).mpr (Keeps.refl _ _)) (by decide))

@[simp] theorem abandonTest_stepId (s : State) (half : Nat) : stepId (abandonTest s half) = stepId s :=
  stepId_of_ex (Keeps.ex ((abandonTest_keeps (m := 523903) (s0 := s) s half (by decide)).mpr (Keeps.refl _ _)) (by decide))

@[simp] theorem abandonTests_stepId (s : State) : stepId (abandonTests s) = stepId s :=
  stepId_of_ex (Keeps.ex ((abandonTests_keeps (m := 523903) (s0 := s) s (by decide)).mpr (Keeps.refl _ _)) (by decide))

@[simp] theorem fresh_stepId (s : State) : stepId (fresh s) = stepId s :=
  stepId_of_ex (Keeps.ex ((fresh_keeps (m := 1048573) (s0 := s) s (by decide)).mpr (Keeps.refl _ _)) (by decide))

@[simp] theorem emit_stepId (o : Output) (s : State) : stepId (emit o s) = stepId s :=
  stepId_of_ex (Keeps.ex ((emit_keeps (m := 1048573) (s0 := s) o s (by decide)).mpr (Keeps.refl _ _)) (by decide))

@[simp] theorem drawn_stepId (s : State) : stepId (drawn s) = stepId s :=
  stepId_of_ex (Keeps.ex ((drawn_keeps (m := 1048571) (s0 := s) s (by decide)).mpr (Keeps.refl _ _)) (by decide))

@[simp] theorem withRg_stepId (idx : Nat) (sub : Nat) (v : Nat) (s : State) : stepId (withRg idx sub v s) = stepId s :=
  stepId_of_ex (Keeps.ex ((withRg_keeps (m := 1048559) (s0 := s) idx sub v s (by decide)).mpr (Keeps.refl _ _)) (by decide))

@[simp] theorem bump_stepId (idx : Nat) (sub : Nat) (n : Nat) (s : State) : stepId (bump idx sub n s) = stepId s :=
  stepId_of_ex (Keeps.ex ((bump_keeps (m := 1048559) (s0 := s) idx sub n s (by decide)).mpr (Keeps.refl _ _)) (by decide))

@[simp] theorem withSess_stepId (n : Nat) (x : Session) (s : State) : stepId (withSess n x s) = stepId s :=
  stepId_of_ex (Keeps.ex ((withSess_keeps (m := 917503) (s0 := s) n x s (by decide)).mpr (Keeps.refl _ _)) (by decide))

@[simp] theorem raiseFor_stepId (aud : Nat) (code : Nat) (payload : Bytes) (s : State) : stepId (raiseFor aud code payload s) = stepId s :=
  stepId_of_ex (Keeps.ex ((raiseFor_keeps (m := 983023) (s0 := s) aud code payload s (by decide)).mpr (Keeps.refl _ _)) (by decide))

@[simp] theorem raise_stepId (aud : Nat) (code : Nat) (payload : Bytes) (s : State) : stepId (raise aud code payload s) = stepId s :=
  stepId_of_ex (Keeps.ex ((raise_keeps (m := 983023) (s0 := s) aud code payload s (by decide)).mpr (Keeps.refl _ _)) (by decide))

@[simp] theorem exportIfDue_stepId (s : State) : stepId (exportIfDue s) = stepId s :=
  stepId_of_ex (Keeps.ex ((exportIfDue_keeps (m := 851951) (s0 := s) s (by decide)).mpr (Keeps.refl _ _)) (by decide))

@[simp] theorem auditDigest_stepId (sess : Nat) (idx : Nat) (sub : Nat) (kind : Nat) (keyed : Bool) (len : Nat) (digest : BitVec 384) (s : State) : stepId (auditDigest sess idx sub kind keyed len digest s) = stepId s :=
  stepId_of_ex (Keeps.ex ((auditDigest_keeps (m := 851951) (s0 := s) sess idx sub kind keyed len digest s (by decide)).mpr (Keeps.refl _ _)) (by decide))

@[simp] theorem audit_stepId (sess : Nat) (idx : Nat) (sub : Nat) (kind : Nat) (keyed : Bool) (value : Bytes) (s : State) : stepId (audit sess idx sub kind keyed value s) = stepId s :=
  stepId_of_ex (Keeps.ex ((audit_keeps (m := 851951) (s0 := s) sess idx sub kind keyed value s (by decide)).mpr (Keeps.refl _ _)) (by decide))

@[simp] theorem countReject_stepId (origin : W256) (s : State) : stepId (countReject origin s) = stepId s :=
  stepId_of_ex (Keeps.ex ((countReject_keeps (m := 917487) (s0 := s) origin s (by decide)).mpr (Keeps.refl _ _)) (by decide))

@[simp] theorem noteHead_stepId (q : Req) (h1 : Bytes) (s : State) : stepId (noteHead q h1 s) = stepId s :=
  stepId_of_ex (Keeps.ex ((noteHead_keeps (m := 917503) (s0 := s) q h1 s (by decide)).mpr (Keeps.refl _ _)) (by decide))

@[simp] theorem noteCommand_stepId (q : Req) (command : Nat) (idx : Nat) (sub : Nat) (s : State) : stepId (noteCommand q command idx sub s) = stepId s :=
  stepId_of_ex (Keeps.ex ((noteCommand_keeps (m := 917503) (s0 := s) q command idx sub s (by decide)).mpr (Keeps.refl _ _)) (by decide))

@[simp] theorem queueOut_stepId (o : Output) (s : State) : stepId (queueOut o s) = stepId s :=
  stepId_of_ex (Keeps.ex ((queueOut_keeps (m := 983039) (s0 := s) o s (by decide)).mpr (Keeps.refl _ _)) (by decide))

@[simp] theorem sendRing_stepId (o : Output) (s : State) : stepId (sendRing o s) = stepId s :=
  stepId_of_ex (Keeps.ex ((sendRing_keeps (m := 983037) (s0 := s) o s (by decide)).mpr (Keeps.refl _ _)) (by decide))

@[simp] theorem completed_stepId (q : Req) (code : W32) (data : Bytes) (s : State) : stepId (completed q code data s) = stepId s :=
  stepId_of_ex (Keeps.ex ((completed_keeps (m := 917503) (s0 := s) q code data s (by decide)).mpr (Keeps.refl _ _)) (by decide))

@[simp] theorem respond_stepId (q : Req) (code : Nat) (data : Bytes) (s : State) : stepId (respond q code data s) = stepId s :=
  stepId_of_ex (Keeps.ex ((respond_keeps (m := 851965) (s0 := s) q code data s (by decide)).mpr (Keeps.refl _ _)) (by decide))

@[simp] theorem rejectReq_stepId (q : Req) (code : Nat) (s : State) : stepId (rejectReq q code s) = stepId s :=
  stepId_of_ex (Keeps.ex ((rejectReq_keeps (m := 851949) (s0 := s) q code s (by decide)).mpr (Keeps.refl _ _)) (by decide))

@[simp] theorem auditWrite_stepId (q : Req) (idx : Nat) (sub : Nat) (value : Bytes) (s : State) : stepId (auditWrite q idx sub value s) = stepId s :=
  stepId_of_ex (Keeps.ex ((auditWrite_keeps (m := 851951) (s0 := s) q idx sub value s (by decide)).mpr (Keeps.refl _ _)) (by decide))

@[simp] theorem forgetRange_stepId (a : Nat) (n : Nat) (s : State) : stepId (forgetRange a n s) = stepId s :=
  stepId_of_ex (Keeps.ex ((forgetRange_keeps (m := 1048063) (s0 := s) a n s (by decide)).mpr (Keeps.refl _ _)) (by decide))

@[simp] theorem addPend_stepId (k : PendKind) (q : Req) (s : State) : stepId (addPend k q s) = stepId s :=
  stepId_of_ex (Keeps.ex ((addPend_keeps (m := 917503) (s0 := s) k q s (by decide)).mpr (Keeps.refl _ _)) (by decide))

@[simp] theorem dropPend_stepId (k : PendKind) (s : State) : stepId (dropPend k s) = stepId s :=
  stepId_of_ex (Keeps.ex ((dropPend_keeps (m := 917503) (s0 := s) k s (by decide)).mpr (Keeps.refl _ _)) (by decide))

@[simp] theorem finishPend_stepId (k : PendKind) (value : Bytes) (s : State) : stepId (finishPend k value s) = stepId s :=
  stepId_of_ex (Keeps.ex ((finishPend_keeps (m := 851949) (s0 := s) k value s (by decide)).mpr (Keeps.refl _ _)) (by decide))

@[simp] theorem failPend_stepId (k : PendKind) (code : Nat) (s : State) : stepId (failPend k code s) = stepId s :=
  stepId_of_ex (Keeps.ex ((failPend_keeps (m := 851949) (s0 := s) k code s (by decide)).mpr (Keeps.refl _ _)) (by decide))

@[simp] theorem endBlocks_stepId (s : State) : stepId (endBlocks s) = stepId s :=
  stepId_of_ex (Keeps.ex ((endBlocks_keeps (m := 851949) (s0 := s) s (by decide)).mpr (Keeps.refl _ _)) (by decide))

@[simp] theorem dropHostCopy_stepId (s : State) : stepId (dropHostCopy s) = stepId s :=
  stepId_of_ex (Keeps.ex ((dropHostCopy_keeps (m := 1048063) (s0 := s) s (by decide)).mpr (Keeps.refl _ _)) (by decide))

@[simp] theorem endPending_stepId (s : State) : stepId (endPending s) = stepId s :=
  stepId_of_ex (Keeps.ex ((endPending_keeps (m := 818669) (s0 := s) s (by decide)).mpr (Keeps.refl _ _)) (by decide))

@[simp] theorem closeTestPort_stepId (s : State) : stepId (closeTestPort s) = stepId s :=
  stepId_of_ex (Keeps.ex ((closeTestPort_keeps (m := 262127) (s0 := s) s (by decide)).mpr (Keeps.refl _ _)) (by decide))

@[simp] theorem faultEvent_stepId (cause : Nat) (kind : Nat) (loc : Bytes) (s : State) : stepId (faultEvent cause kind loc s) = stepId s :=
  stepId_of_ex (Keeps.ex ((faultEvent_keeps (m := 983023) (s0 := s) cause kind loc s (by decide)).mpr (Keeps.refl _ _)) (by decide))

@[simp] theorem toFaulted_stepId (cause kind : Nat) (loc : Bytes) (s : State) : stepId (toFaulted cause kind loc s) = stepId s := by
  have h : ∀ u : State, stepId (withRg 0x2001 3 cause { u with dev := .faulted, ex := { u.ex with holdPending := false } }) = stepId u := by
    intro u
    rw [withRg_stepId]
    rfl
  unfold toFaulted
  split
  · simp
  · rw [faultEvent_stepId, audit_stepId, endPending_stepId, h, abandonTests_stepId]
    split <;> simp

@[simp] theorem clearPoison_stepId (a : Nat) (n : Nat) (s : State) : stepId (clearPoison a n s) = stepId s :=
  stepId_of_ex (Keeps.ex ((clearPoison_keeps (m := 1048063) (s0 := s) a n s (by decide)).mpr (Keeps.refl _ _)) (by decide))

@[simp] theorem poisonSector_stepId (a : Nat) (s : State) : stepId (poisonSector a s) = stepId s :=
  stepId_of_ex (Keeps.ex ((poisonSector_keeps (m := 982511) (s0 := s) a s (by decide)).mpr (Keeps.refl _ _)) (by decide))

@[simp] theorem poisonRead_stepId (a : Nat) (s : State) : stepId (poisonRead a s) = stepId s := by
  unfold poisonRead; (repeat' split) <;> simp

@[simp] theorem regSpend_stepId (q : Nat) (p : Nat) (n : Nat) (s : State) : stepId (regSpend q p n s) = stepId s :=
  stepId_of_ex (Keeps.ex ((regSpend_keeps (m := 1048063) (s0 := s) q p n s (by decide)).mpr (Keeps.refl _ _)) (by decide))

@[simp] theorem regFill_stepId (q : Nat) (p : Nat) (s : State) : stepId (regFill q p s) = stepId s :=
  stepId_of_ex (Keeps.ex ((regFill_keeps (m := 1048063) (s0 := s) q p s (by decide)).mpr (Keeps.refl _ _)) (by decide))

@[simp] theorem regCharge_stepId (q : Nat) (p : Nat) (n : Nat) (s : State) : stepId (regCharge q p n s) = stepId s :=
  stepId_of_ex (Keeps.ex ((regCharge_keeps (m := 1048047) (s0 := s) q p n s (by decide)).mpr (Keeps.refl _ _)) (by decide))

@[simp] theorem retireEntry_stepId (e : WcEntry) (s : State) : stepId (retireEntry e s) = stepId s :=
  stepId_of_ex (Keeps.ex ((retireEntry_keeps (m := 1048047) (s0 := s) e s (by decide)).mpr (Keeps.refl _ _)) (by decide))

@[simp] theorem markRetiring_stepId (line : Nat) (s : State) : stepId (markRetiring line s) = stepId s :=
  stepId_of_ex (Keeps.ex ((markRetiring_keeps (m := 1048063) (s0 := s) line s (by decide)).mpr (Keeps.refl _ _)) (by decide))

@[simp] theorem retireOrMark_stepId (e : WcEntry) (s : State) : stepId (retireOrMark e s) = stepId s :=
  stepId_of_ex (Keeps.ex ((retireOrMark_keeps (m := 1048047) (s0 := s) e s (by decide)).mpr (Keeps.refl _ _)) (by decide))

@[simp] theorem retireWaiting_stepId (s : State) : stepId (retireWaiting s) = stepId s :=
  stepId_of_ex (Keeps.ex ((retireWaiting_keeps (m := 1048047) (s0 := s) s (by decide)).mpr (Keeps.refl _ _)) (by decide))

@[simp] theorem retireAll_stepId (s : State) : stepId (retireAll s) = stepId s :=
  stepId_of_ex (Keeps.ex ((retireAll_keeps (m := 1048047) (s0 := s) s (by decide)).mpr (Keeps.refl _ _)) (by decide))

@[simp] theorem writeBack_stepId (line : Nat) (s : State) : stepId (writeBack line s) = stepId s :=
  stepId_of_ex (Keeps.ex ((writeBack_keeps (m := 1048047) (s0 := s) line s (by decide)).mpr (Keeps.refl _ _)) (by decide))

@[simp] theorem writeBackAll_stepId (s : State) : stepId (writeBackAll s) = stepId s :=
  stepId_of_ex (Keeps.ex ((writeBackAll_keeps (m := 1048047) (s0 := s) s (by decide)).mpr (Keeps.refl _ _)) (by decide))

@[simp] theorem mscEvict_stepId (line : Nat) (s : State) : stepId (mscEvict line s) = stepId s :=
  stepId_of_ex (Keeps.ex ((mscEvict_keeps (m := 1048047) (s0 := s) line s (by decide)).mpr (Keeps.refl _ _)) (by decide))

@[simp] theorem mscRoom_stepId (line : Nat) (s : State) : stepId (mscRoom line s) = stepId s :=
  stepId_of_ex (Keeps.ex ((mscRoom_keeps (m := 1048043) (s0 := s) line s (by decide)).mpr (Keeps.refl _ _)) (by decide))

@[simp] theorem mscInstall_stepId (line : Nat) (l : CacheLine) (s : State) : stepId (mscInstall line l s) = stepId s :=
  stepId_of_ex (Keeps.ex ((mscInstall_keeps (m := 1048043) (s0 := s) line l s (by decide)).mpr (Keeps.refl _ _)) (by decide))

@[simp] theorem makeRoom_stepId (c : Nat) (s : State) : stepId (makeRoom c s) = stepId s :=
  stepId_of_ex (Keeps.ex ((makeRoom_keeps (m := 1048047) (s0 := s) c s (by decide)).mpr (Keeps.refl _ _)) (by decide))

@[simp] theorem combine_stepId (m0 : MemReq) (data : Bytes) (s : State) : stepId (combine m0 data s) = stepId s :=
  stepId_of_ex (Keeps.ex ((combine_keeps (m := 1048047) (s0 := s) m0 data s (by decide)).mpr (Keeps.refl _ _)) (by decide))

@[simp] theorem coherentWrite_stepId (m0 : MemReq) (data : Bytes) (s : State) : stepId (coherentWrite m0 data s) = stepId s :=
  stepId_of_ex (Keeps.ex ((coherentWrite_keeps (m := 1048043) (s0 := s) m0 data s (by decide)).mpr (Keeps.refl _ _)) (by decide))

@[simp] theorem withShLines_stepId (d : Nat) (line : Nat) (l : List Nat) (s : State) : stepId (withShLines d line l s) = stepId s :=
  stepId_of_ex (Keeps.ex ((withShLines_keeps (m := 1048063) (s0 := s) d line l s (by decide)).mpr (Keeps.refl _ _)) (by decide))

@[simp] theorem shDrop_stepId (d : Nat) (line : Nat) (s : State) : stepId (shDrop d line s) = stepId s :=
  stepId_of_ex (Keeps.ex ((shDrop_keeps (m := 1048063) (s0 := s) d line s (by decide)).mpr (Keeps.refl _ _)) (by decide))

@[simp] theorem shRoom_stepId (d : Nat) (line : Nat) (s : State) : stepId (shRoom d line s) = stepId s :=
  stepId_of_ex (Keeps.ex ((shRoom_keeps (m := 1048059) (s0 := s) d line s (by decide)).mpr (Keeps.refl _ _)) (by decide))

@[simp] theorem installLine_stepId (line : Nat) (d : Nat) (s : State) : stepId (installLine line d s) = stepId s :=
  stepId_of_ex (Keeps.ex ((installLine_keeps (m := 1048059) (s0 := s) line d s (by decide)).mpr (Keeps.refl _ _)) (by decide))

@[simp] theorem invalidate_stepId (line : Nat) (dies : List Nat) (s : State) : stepId (invalidate line dies s) = stepId s :=
  stepId_of_ex (Keeps.ex ((invalidate_keeps (m := 1048061) (s0 := s) line dies s (by decide)).mpr (Keeps.refl _ _)) (by decide))

@[simp] theorem readLine_stepId (u : Agent) (line : Nat) (s : State) : stepId (readLine u line s) = stepId s :=
  stepId_of_ex (Keeps.ex ((readLine_keeps (m := 1048043) (s0 := s) u line s (by decide)).mpr (Keeps.refl _ _)) (by decide))

@[simp] theorem readVia_stepId (u : Agent) (fill : Option Nat) (line : Nat) (s : State) : stepId (readVia u fill line s) = stepId s :=
  stepId_of_ex (Keeps.ex ((readVia_keeps (m := 1048043) (s0 := s) u fill line s (by decide)).mpr (Keeps.refl _ _)) (by decide))

@[simp] theorem readRange_stepId (u : Agent) (fill : Option Nat) (a : Nat) (n : Nat) (s : State) : stepId (readRange u fill a n s) = stepId s :=
  stepId_of_ex (Keeps.ex ((readRange_keeps (m := 1048043) (s0 := s) u fill a n s (by decide)).mpr (Keeps.refl _ _)) (by decide))

@[simp] theorem writeLine_stepId (u : Agent) (s : State) (p : Nat × Bytes) : stepId (writeLine u s p) = stepId s :=
  stepId_of_ex (Keeps.ex ((writeLine_keeps (m := 1048041) (s0 := s) u s p (by decide)).mpr (Keeps.refl _ _)) (by decide))

@[simp] theorem storeBytes_stepId (u : Agent) (a : Nat) (data : Bytes) (s : State) : stepId (storeBytes u a data s) = stepId s :=
  stepId_of_ex (Keeps.ex ((storeBytes_keeps (m := 1048041) (s0 := s) u a data s (by decide)).mpr (Keeps.refl _ _)) (by decide))

@[simp] theorem withStack_stepId (k : Nat) (x : Stack) (s : State) : stepId (withStack k x s) = stepId s :=
  stepId_of_ex (Keeps.ex ((withStack_keeps (m := 1048063) (s0 := s) k x s (by decide)).mpr (Keeps.refl _ _)) (by decide))

@[simp] theorem failStack_stepId (k : Nat) (s : State) : stepId (failStack k s) = stepId s := by
  unfold failStack; (repeat' split) <;> simp

@[simp] theorem discardPacket_stepId (die : Nat) (ep : Nat) (s : State) : stepId (discardPacket die ep s) = stepId s :=
  stepId_of_ex (Keeps.ex ((discardPacket_keeps (m := 980975) (s0 := s) die ep s (by decide)).mpr (Keeps.refl _ _)) (by decide))

@[simp] theorem receivePackets_stepId (die : Nat) (ps : List Packet) (s : State) : stepId (receivePackets die ps s) = stepId s :=
  stepId_of_ex (Keeps.ex ((receivePackets_keeps (m := 980975) (s0 := s) die ps s (by decide)).mpr (Keeps.refl _ _)) (by decide))

@[simp] theorem takeInbox_stepId (q : Req) (s : State) : stepId (takeInbox q s) = stepId s :=
  stepId_of_ex (Keeps.ex ((takeInbox_keeps (m := 851967) (s0 := s) q s (by decide)).mpr (Keeps.refl _ _)) (by decide))

@[simp] theorem beginReq_stepId (q : Req) (s : State) : stepId (beginReq q s) = stepId s :=
  stepId_of_ex (Keeps.ex ((beginReq_keeps (m := 917503) (s0 := s) q s (by decide)).mpr (Keeps.refl _ _)) (by decide))

@[simp] theorem forwardAccess_stepId (write : Bool) (idx : Nat) (sub : Nat) (s : State) : stepId (forwardAccess write idx sub s) = stepId s :=
  stepId_of_ex (Keeps.ex ((forwardAccess_keeps (m := 1048573) (s0 := s) write idx sub s (by decide)).mpr (Keeps.refl _ _)) (by decide))

@[simp] theorem withOwnVal_stepId (sess : Nat) (idx : Nat) (sub : Nat) (v : Nat) (s : State) : stepId (withOwnVal sess idx sub v s) = stepId s :=
  stepId_of_ex (Keeps.ex ((withOwnVal_keeps (m := 917503) (s0 := s) sess idx sub v s (by decide)).mpr (Keeps.refl _ _)) (by decide))

@[simp] theorem cacheBad_stepId (die : Nat) (ep : Nat) (a : Nat) (s : State) : stepId (cacheBad die ep a s) = stepId s :=
  stepId_of_ex (Keeps.ex ((cacheBad_keeps (m := 982511) (s0 := s) die ep a s (by decide)).mpr (Keeps.refl _ _)) (by decide))

@[simp] theorem applyShared_stepId (a : Nat) (d : Nat) (e : MemEcc) (s : State) : stepId (applyShared a d e s) = stepId s :=
  stepId_of_ex (Keeps.ex ((applyShared_keeps (m := 982511) (s0 := s) a d e s (by decide)).mpr (Keeps.refl _ _)) (by decide))

@[simp] theorem applySnoop_stepId (a : Nat) (e : MemEcc) (s : State) : stepId (applySnoop a e s) = stepId s :=
  stepId_of_ex (Keeps.ex ((applySnoop_keeps (m := 1048061) (s0 := s) a e s (by decide)).mpr (Keeps.refl _ _)) (by decide))

@[simp] theorem applyEcc_stepId (a : Nat) (hbm : Bool) (e : MemEcc) (s : State) : stepId (applyEcc a hbm e s) = stepId s := by
  unfold applyEcc; (repeat' split) <;> simp

@[simp] theorem expectAnswer_stepId (m0 : MemReq) (write : Bool) (s : State) : stepId (expectAnswer m0 write s) = stepId s :=
  stepId_of_ex (Keeps.ex ((expectAnswer_keeps (m := 1048063) (s0 := s) m0 write s (by decide)).mpr (Keeps.refl _ _)) (by decide))

@[simp] theorem sendAnswer_stepId (m0 : MemReq) (write : Bool) (s : State) : stepId (sendAnswer m0 write s) = stepId s :=
  stepId_of_ex (Keeps.ex ((sendAnswer_keeps (m := 1048063) (s0 := s) m0 write s (by decide)).mpr (Keeps.refl _ _)) (by decide))

@[simp] theorem serveRead_stepId (m0 : MemReq) (ecc : MemEcc) (s : State) : stepId (serveRead m0 ecc s) = stepId s := by
  unfold serveRead; (repeat' split) <;> simp

@[simp] theorem serveWrite_stepId (m0 : MemReq) (data : Bytes) (s : State) : stepId (serveWrite m0 data s) = stepId s :=
  stepId_of_ex (Keeps.ex ((serveWrite_keeps (m := 1048041) (s0 := s) m0 data s (by decide)).mpr (Keeps.refl _ _)) (by decide))

@[simp] theorem waitRequest_stepId (w : WaitingReq) (s : State) : stepId (waitRequest w s) = stepId s :=
  stepId_of_ex (Keeps.ex ((waitRequest_keeps (m := 1048063) (s0 := s) w s (by decide)).mpr (Keeps.refl _ _)) (by decide))

@[simp] theorem drainWaits_stepId (s : State) : stepId (drainWaits s) = stepId s := by
  unfold drainWaits; (repeat' split) <;> simp

@[simp] theorem discardRequest_stepId (p : Packet) (s : State) : stepId (discardRequest p s) = stepId s :=
  stepId_of_ex (Keeps.ex ((discardRequest_keeps (m := 980975) (s0 := s) p s (by decide)).mpr (Keeps.refl _ _)) (by decide))

@[simp] theorem answered_stepId (die : Nat) (ep : Nat) (tag : Nat) (write : Bool) (s : State) : stepId (answered die ep tag write s) = stepId s :=
  stepId_of_ex (Keeps.ex ((answered_keeps (m := 1048063) (s0 := s) die ep tag write s (by decide)).mpr (Keeps.refl _ _)) (by decide))

@[simp] theorem ackWrite_stepId (s : State) (w : WaitingWrite) : stepId (ackWrite s w) = stepId s :=
  stepId_of_ex (Keeps.ex ((ackWrite_keeps (m := 1048061) (s0 := s) s w (by decide)).mpr (Keeps.refl _ _)) (by decide))

@[simp] theorem retireDue_stepId (s : State) : stepId (retireDue s) = stepId s :=
  stepId_of_ex (Keeps.ex ((retireDue_keeps (m := 1048047) (s0 := s) s (by decide)).mpr (Keeps.refl _ _)) (by decide))

@[simp] theorem readStack_stepId (k : Nat) (temp : Nat) (s : State) : stepId (readStack k temp s) = stepId s :=
  stepId_of_ex (Keeps.ex ((readStack_keeps (m := 982511) (s0 := s) k temp s (by decide)).mpr (Keeps.refl _ _)) (by decide))

@[simp] theorem scrubOne_stepId (s : State) (f : ScrubFinding) : stepId (scrubOne s f) = stepId s :=
  stepId_of_ex (Keeps.ex ((scrubOne_keeps (m := 982511) (s0 := s) s f (by decide)).mpr (Keeps.refl _ _)) (by decide))

@[simp] theorem chargeScrub_stepId (s : State) : stepId (chargeScrub s) = stepId s :=
  stepId_of_ex (Keeps.ex ((chargeScrub_keeps (m := 1048047) (s0 := s) s (by decide)).mpr (Keeps.refl _ _)) (by decide))

@[simp] theorem repairGroup_stepId (f : LaneFailure) (s : State) : stepId (repairGroup f s) = stepId s :=
  stepId_of_ex (Keeps.ex ((repairGroup_keeps (m := 851439) (s0 := s) f s (by decide)).mpr (Keeps.refl _ _)) (by decide))

@[simp] theorem trainStacks_stepId (failures : List LaneFailure) (s : State) : stepId (trainStacks failures s) = stepId s :=
  stepId_of_ex (Keeps.ex ((trainStacks_keeps (m := 851439) (s0 := s) failures s (by decide)).mpr (Keeps.refl _ _)) (by decide))

@[simp] theorem trainingDone_stepId (s : State) : stepId (trainingDone s) = stepId s := by
  unfold trainingDone; (repeat' split) <;> simp

@[simp] theorem chargeGen_stepId (r : GenRun) (s : State) : stepId (chargeGen r s) = stepId s :=
  stepId_of_ex (Keeps.ex ((chargeGen_keeps (m := 1048047) (s0 := s) r s (by decide)).mpr (Keeps.refl _ _)) (by decide))

@[simp] theorem noteTested_stepId (g : GenReq) (s : State) : stepId (noteTested g s) = stepId s :=
  stepId_of_ex (Keeps.ex ((noteTested_keeps (m := 1048063) (s0 := s) g s (by decide)).mpr (Keeps.refl _ _)) (by decide))

@[simp] theorem forgetTested_stepId (g : GenReq) (s : State) : stepId (forgetTested g s) = stepId s :=
  stepId_of_ex (Keeps.ex ((forgetTested_keeps (m := 1048063) (s0 := s) g s (by decide)).mpr (Keeps.refl _ _)) (by decide))

@[simp] theorem stopGenerator_stepId (s : State) : stepId (stopGenerator s) = stepId s :=
  stepId_of_ex (Keeps.ex ((stopGenerator_keeps (m := 1048047) (s0 := s) s (by decide)).mpr (Keeps.refl _ _)) (by decide))

@[simp] theorem genRequest_stepId (op : Nat) (q : Req) (g : GenReq) (s : State) : stepId (genRequest op q g s) = stepId s :=
  stepId_of_ex (Keeps.ex ((genRequest_keeps (m := 851437) (s0 := s) op q g s (by decide)).mpr (Keeps.refl _ _)) (by decide))

@[simp] theorem emptyCaches_stepId (s : State) : stepId (emptyCaches s) = stepId s :=
  stepId_of_ex (Keeps.ex ((emptyCaches_keeps (m := 1048047) (s0 := s) s (by decide)).mpr (Keeps.refl _ _)) (by decide))

@[simp] theorem storeAt_stepId (u : Agent) (key : Nat) (mem : Bool) (a : Nat) (data : Bytes) (s : State) : stepId (storeAt u key mem a data s) = stepId s :=
  stepId_of_ex (Keeps.ex ((storeAt_keeps (m := 1047913) (s0 := s) u key mem a data s (by decide)).mpr (Keeps.refl _ _)) (by decide))

@[simp] theorem storeAll_stepId (u : Agent) (key : Nat) (mem : Bool) (ws : List (Nat × Bytes)) (s : State) : stepId (storeAll u key mem ws s) = stepId s :=
  stepId_of_ex (Keeps.ex ((storeAll_keeps (m := 1047913) (s0 := s) u key mem ws s (by decide)).mpr (Keeps.refl _ _)) (by decide))

@[simp] theorem writeRef_stepId (sc : Score) (u : Agent) (key : Nat) (r : Nat) (data : Bytes) (s : State) : stepId (writeRef sc u key r data s) = stepId s :=
  stepId_of_ex (Keeps.ex ((writeRef_keeps (m := 1047913) (s0 := s) sc u key r data s (by decide)).mpr (Keeps.refl _ _)) (by decide))

@[simp] theorem readPieces_stepId (u : Agent) (fill : Option Nat) (ps : List Piece) (s : State) : stepId (readPieces u fill ps s) = stepId s :=
  stepId_of_ex (Keeps.ex ((readPieces_keeps (m := 1048043) (s0 := s) u fill ps s (by decide)).mpr (Keeps.refl _ _)) (by decide))

@[simp] theorem storeError_stepId (half : Nat) (core : Nat) (key : Nat) (s : State) (e : StoreErr) : stepId (storeError half core key s e) = stepId s := by
  unfold storeError; (repeat' split) <;> simp

@[simp] theorem noteResults_stepId (key : Nat) (idx : Nat) (ovf : Nat) (inv : Nat) (s : State) : stepId (noteResults key idx ovf inv s) = stepId s :=
  stepId_of_ex (Keeps.ex ((noteResults_keeps (m := 1048431) (s0 := s) key idx ovf inv s (by decide)).mpr (Keeps.refl _ _)) (by decide))

@[simp] theorem noteConversions_stepId (sats : Nat) (ovfs : Nat) (s : State) : stepId (noteConversions sats ovfs s) = stepId s :=
  stepId_of_ex (Keeps.ex ((noteConversions_keeps (m := 1048559) (s0 := s) sats ovfs s (by decide)).mpr (Keeps.refl _ _)) (by decide))

@[simp] theorem writeResult_stepId (sc : Score) (key : Nat) (ref : Nat) (fmt : Nat) (sat : Bool) (f : Nat → Nat → W32) (s : State) : stepId (writeResult sc key ref fmt sat f s) = stepId s :=
  stepId_of_ex (Keeps.ex ((writeResult_keeps (m := 1047913) (s0 := s) sc key ref fmt sat f s (by decide)).mpr (Keeps.refl _ _)) (by decide))

@[simp] theorem watch_stepId (s00 : State) (sc : Score) (key : Nat) (x0 : Site) (ix : Nat) (c : Crumb) (order : List Nat) (s : State) : stepId (watch s00 sc key x0 ix c order s) = stepId s :=
  stepId_of_ex (Keeps.ex ((watch_keeps (m := 1048431) (s0 := s) s00 sc key x0 ix c order s (by decide)).mpr (Keeps.refl _ _)) (by decide))

@[simp] theorem mmaEffect_stepId (sc : Score) (key : Nat) (ix : Nat) (c : Crumb) (s : State) : stepId (mmaEffect sc key ix c s) = stepId s :=
  stepId_of_ex (Keeps.ex ((mmaEffect_keeps (m := 1047913) (s0 := s) sc key ix c s (by decide)).mpr (Keeps.refl _ _)) (by decide))

@[simp] theorem accoutEffect_stepId (sc : Score) (key : Nat) (c : Crumb) (s : State) : stepId (accoutEffect sc key c s) = stepId s :=
  stepId_of_ex (Keeps.ex ((accoutEffect_keeps (m := 1047913) (s0 := s) sc key c s (by decide)).mpr (Keeps.refl _ _)) (by decide))

@[simp] theorem accinitEffect_stepId (sc : Score) (key : Nat) (c : Crumb) (s : State) : stepId (accinitEffect sc key c s) = stepId s :=
  stepId_of_ex (Keeps.ex ((accinitEffect_keeps (m := 1048447) (s0 := s) sc key c s (by decide)).mpr (Keeps.refl _ _)) (by decide))

@[simp] theorem topkEffect_stepId (sc : Score) (key : Nat) (c : Crumb) (s : State) : stepId (topkEffect sc key c s) = stepId s :=
  stepId_of_ex (Keeps.ex ((topkEffect_keeps (m := 1047913) (s0 := s) sc key c s (by decide)).mpr (Keeps.refl _ _)) (by decide))

@[simp] theorem matrixEffect_stepId (sc : Score) (key : Nat) (ix : Nat) (c : Crumb) (s : State) : stepId (matrixEffect sc key ix c s) = stepId s :=
  stepId_of_ex (Keeps.ex ((matrixEffect_keeps (m := 1047913) (s0 := s) sc key ix c s (by decide)).mpr (Keeps.refl _ _)) (by decide))

@[simp] theorem noteConvs_stepId (cs : List Conv) (s : State) : stepId (noteConvs cs s) = stepId s :=
  stepId_of_ex (Keeps.ex ((noteConvs_keeps (m := 1048559) (s0 := s) cs s (by decide)).mpr (Keeps.refl _ _)) (by decide))

@[simp] theorem putElems_stepId (sc : Score) (key : Nat) (c : Crumb) (tile : Bool) (rs : List (Nat × W32)) (s : State) : stepId (putElems sc key c tile rs s) = stepId s :=
  stepId_of_ex (Keeps.ex ((putElems_keeps (m := 1047913) (s0 := s) sc key c tile rs s (by decide)).mpr (Keeps.refl _ _)) (by decide))

@[simp] theorem vecGroup_stepId (sc : Score) (key : Nat) (c : Crumb) (n : Nat) (s : State) (g : Nat) : stepId (vecGroup sc key c n s g) = stepId s :=
  stepId_of_ex (Keeps.ex ((vecGroup_keeps (m := 1047913) (s0 := s) sc key c n s g (by decide)).mpr (Keeps.refl _ _)) (by decide))

@[simp] theorem vecElementwise_stepId (sc : Score) (key : Nat) (c : Crumb) (s : State) : stepId (vecElementwise sc key c s) = stepId s :=
  stepId_of_ex (Keeps.ex ((vecElementwise_keeps (m := 1047913) (s0 := s) sc key c s (by decide)).mpr (Keeps.refl _ _)) (by decide))

@[simp] theorem vecReduce_stepId (sc : Score) (key : Nat) (c : Crumb) (s : State) : stepId (vecReduce sc key c s) = stepId s :=
  stepId_of_ex (Keeps.ex ((vecReduce_keeps (m := 1047913) (s0 := s) sc key c s (by decide)).mpr (Keeps.refl _ _)) (by decide))

@[simp] theorem vecLoadScalars_stepId (sc : Score) (key : Nat) (c : Crumb) (s : State) : stepId (vecLoadScalars sc key c s) = stepId s :=
  stepId_of_ex (Keeps.ex ((vecLoadScalars_keeps (m := 1048447) (s0 := s) sc key c s (by decide)).mpr (Keeps.refl _ _)) (by decide))

@[simp] theorem vecFlag_stepId (sc : Score) (key : Nat) (c : Crumb) (s : State) : stepId (vecFlag sc key c s) = stepId s :=
  stepId_of_ex (Keeps.ex ((vecFlag_keeps (m := 1047913) (s0 := s) sc key c s (by decide)).mpr (Keeps.refl _ _)) (by decide))

@[simp] theorem optStore_stepId (sc : Score) (key : Nat) (c : Crumb) (r : OptRec) (f : Nat) (use : Nat) (ws : List (Nat × W32)) (s : State) : stepId (optStore sc key c r f use ws s) = stepId s :=
  stepId_of_ex (Keeps.ex ((optStore_keeps (m := 1047913) (s0 := s) sc key c r f use ws s (by decide)).mpr (Keeps.refl _ _)) (by decide))

@[simp] theorem optGroup_stepId (sc : Score) (key : Nat) (c : Crumb) (r : OptRec) (n : Nat) (s : State) (g : Nat) : stepId (optGroup sc key c r n s g) = stepId s :=
  stepId_of_ex (Keeps.ex ((optGroup_keeps (m := 1047913) (s0 := s) sc key c r n s g (by decide)).mpr (Keeps.refl _ _)) (by decide))

@[simp] theorem voptEffect_stepId (sc : Score) (half core key : Nat) (c : Crumb) (s : State) : stepId (voptEffect sc half core key c s) = stepId s := by
  unfold voptEffect
  dsimp only
  split
  · simp
  · rw [faultEvent_stepId]
    rfl

@[simp] theorem vectorEffect_stepId (sc : Score) (half : Nat) (core : Nat) (key : Nat) (c : Crumb) (s : State) : stepId (vectorEffect sc half core key c s) = stepId s := by
  unfold vectorEffect; dsimp only; (repeat' split) <;> simp [*]

@[simp] theorem runCopy_stepId (sc : Score) (u : Agent) (key : Nat) (counter : Nat) (src : Desc) (dst : Desc) (s : State) : stepId (runCopy sc u key counter src dst s) = stepId s :=
  stepId_of_ex (Keeps.ex ((runCopy_keeps (m := 1047913) (s0 := s) sc u key counter src dst s (by decide)).mpr (Keeps.refl _ _)) (by decide))

@[simp] theorem ctransEffect_stepId (key : Nat) (c : Crumb) (s : State) : stepId (ctransEffect key c s) = stepId s :=
  stepId_of_ex (Keeps.ex ((ctransEffect_keeps (m := 1048431) (s0 := s) key c s (by decide)).mpr (Keeps.refl _ _)) (by decide))

@[simp] theorem copyEffect_stepId (sc : Score) (key : Nat) (c : Crumb) (s : State) : stepId (copyEffect sc key c s) = stepId s :=
  stepId_of_ex (Keeps.ex ((copyEffect_keeps (m := 1047913) (s0 := s) sc key c s (by decide)).mpr (Keeps.refl _ _)) (by decide))

@[simp] theorem hostLoad_stepId (base : Nat) (d : Desc) (s : State) : stepId (hostLoad base d s) = stepId s :=
  stepId_of_ex (Keeps.ex ((hostLoad_keeps (m := 1047913) (s0 := s) base d s (by decide)).mpr (Keeps.refl _ _)) (by decide))

@[simp] theorem hostStore_stepId (base : Nat) (d : Desc) (s : State) : stepId (hostStore base d s) = stepId s :=
  stepId_of_ex (Keeps.ex ((hostStore_keeps (m := 982377) (s0 := s) base d s (by decide)).mpr (Keeps.refl _ _)) (by decide))

@[simp] theorem withStep_stepId (f : Step → Step) (s : State) (h : ∀ x, (f x).num = x.num ∧ (f x).running = x.running ∧ (f x).startTime = x.startTime) :
    stepId (withStep f s) = stepId s := by
  obtain ⟨a, b, c⟩ := h s.ex.step
  unfold stepId withStep
  dsimp only
  rw [a, b, c]

@[simp] theorem addToken_stepId (sc : Score) (t1 : Nat) (n : Nat) (s : State) : stepId (addToken sc t1 n s) = stepId s := by
  unfold addToken; (repeat' split) <;> simp

@[simp] theorem withCreditUsed_stepId (unit : Nat) (ep : Nat) (cls : Nat) (n : Nat) (s : State) : stepId (withCreditUsed unit ep cls n s) = stepId s := by
  unfold withCreditUsed; dsimp only; repeat' (first | rfl | (simp; done) | split | (apply stepId_foldl <;> intros))

@[simp] theorem takeCredit_stepId (unit : Nat) (ep : Nat) (cls : Nat) (s : State) : stepId (takeCredit unit ep cls s) = stepId s := by
  unfold takeCredit; (repeat' split) <;> simp

@[simp] theorem sendToken_stepId (unit : Nat) (d : TokDecl) (n : Nat) (s : State) : stepId (sendToken unit d n s) = stepId s := by
  unfold sendToken; dsimp only; repeat' (first | rfl | (simp; done) | split | (apply stepId_foldl <;> intros))

@[simp] theorem sendGrant_stepId (unit : Nat) (p : PoolDecl) (n : Nat) (s : State) : stepId (sendGrant unit p n s) = stepId s := by
  unfold sendGrant; dsimp only; repeat' (first | rfl | (simp; done) | split | (apply stepId_foldl <;> intros))

@[simp] theorem deliverFrom_stepId (unit : Nat) (sc : Score) (die : Nat) (ep : Nat) (rs : List TokRef) (s : State) : stepId (deliverFrom unit sc die ep rs s) = stepId s := by
  unfold deliverFrom; try dsimp only
  repeat' (first | rfl | (simp; done) | split | (refine (onScore_stepId _ _ ?_).trans ?_; intros) | (refine (stepId_foldl _ ?_ _ _).trans ?_; intros) | simp)

@[simp] theorem deliver_stepId (sc : Score) (die : Nat) (ep : Nat) (rs : List TokRef) (s : State) : stepId (deliver sc die ep rs s) = stepId s := by
  unfold deliver; (repeat' split) <;> simp

@[simp] theorem addFill_stepId (sc : Score) (b : Nat) (n : Nat) (s : State) : stepId (addFill sc b n s) = stepId s := by
  unfold addFill; (repeat' split) <;> simp

@[simp] theorem spendPool_stepId (p : Nat) (n : Nat) (s : State) : stepId (spendPool p n s) = stepId s := by
  unfold spendPool; dsimp only; repeat' (first | rfl | (simp; done) | split | (apply stepId_foldl <;> intros))

@[simp] theorem returnPool_stepId (p : Nat) (n : Nat) (s : State) : stepId (returnPool p n s) = stepId s := by
  unfold returnPool; dsimp only; repeat' (first | rfl | (simp; done) | split | (apply stepId_foldl <;> intros))

@[simp] theorem withSeq_stepId (half : Nat) (core : Nat) (q : Seq) (s : State) : stepId (withSeq half core q s) = stepId s := by
  unfold withSeq; dsimp only; repeat' (first | rfl | (simp; done) | split | (apply stepId_foldl <;> intros))

@[simp] theorem fetchRecord_stepId (sc : Score) (key : Nat) (s : State) (i : Nat) : stepId (fetchRecord sc key s i) = stepId s := by
  unfold fetchRecord; dsimp only; (repeat' split) <;> simp [*]

@[simp] theorem advanceList_stepId (sc : Score) (half : Nat) (core : Nat) (before : List Nat) (q : Seq) (s : State) : stepId (advanceList sc half core before q s) = stepId s := by
  unfold advanceList; (repeat' split) <;> simp

@[simp] theorem setList_stepId (sc : Score) (half : Nat) (core : Nat) (q : Seq) (s : State) : stepId (setList sc half core q s) = stepId s := by
  unfold setList; (repeat' split) <;> simp

@[simp] theorem fetchOperand_stepId (sc : Score) (half : Nat) (core : Nat) (p : Prefetch) (s : State) : stepId (fetchOperand sc half core p s) = stepId s :=
  stepId_of_ex (Keeps.ex ((fetchOperand_keeps (m := 1048043) (s0 := s) sc half core p s (by decide)).mpr (Keeps.refl _ _)) (by decide))

@[simp] theorem refillPrefetch_stepId (sc : Score) (half : Nat) (core : Nat) (s : State) : stepId (refillPrefetch sc half core s) = stepId s := by
  unfold refillPrefetch; try dsimp only
  repeat' (first | rfl | (simp; done) | split | (refine (onScore_stepId _ _ ?_).trans ?_; intros) | (refine (stepId_foldl _ ?_ _ _).trans ?_; intros) | simp)

@[simp] theorem endPrefetch_stepId (i : Nat) (s : State) : stepId (endPrefetch i s) = stepId s := by
  unfold endPrefetch; dsimp only; repeat' (first | rfl | (simp; done) | split | (apply stepId_foldl <;> intros))

@[simp] theorem crumbEffect_stepId (sc : Score) (half : Nat) (core : Nat) (key : Nat) (i : Nat) (c : Crumb) (s : State) : stepId (crumbEffect sc half core key i c s) = stepId s := by
  unfold crumbEffect; (repeat' split) <;> simp

@[simp] theorem noteReads_stepId (sc : Score) (key : Nat) (c : Crumb) (s : State) : stepId (noteReads sc key c s) = stepId s := by
  unfold noteReads; dsimp only; (repeat' split) <;> simp [*]

@[simp] theorem fireCrumb_stepId (sc : Score) (half : Nat) (core : Nat) (i : Nat) (owner : Nat) (c : Crumb) (errs : List StoreErr) (s : State) : stepId (fireCrumb sc half core i owner c errs s) = stepId s := by
  unfold fireCrumb; (repeat' split) <;> simp

@[simp] theorem sendOutputs_stepId (sc : Score) (c : Crumb) (credits : Bool) (s : State) : stepId (sendOutputs sc c credits s) = stepId s := by
  unfold sendOutputs; try dsimp only
  repeat' (first | rfl | (simp; done) | split | (refine (onScore_stepId _ _ ?_).trans ?_; intros) | (refine (stepId_foldl _ ?_ _ _).trans ?_; intros) | simp)

@[simp] theorem retireHead_stepId (sc : Score) (half : Nat) (core : Nat) (c : Crumb) (i : Nat) (q : Seq) (s : State) : stepId (retireHead sc half core c i q s) = stepId s := by
  unfold retireHead; (repeat' split) <;> simp

@[simp] theorem flushPending_stepId (sc : Score) (unit : Nat) (ep : Nat) (cls : Nat) (s : State) : stepId (flushPending sc unit ep cls s) = stepId s := by
  unfold flushPending; try dsimp only
  repeat' (first | rfl | (simp; done) | split | (refine (onScore_stepId _ _ ?_).trans ?_; intros) | (refine (stepId_foldl _ ?_ _ _).trans ?_; intros) | simp)

@[simp] theorem withFab_stepId (f : Fabric → Fabric) (s : State) : stepId (withFab f s) = stepId s :=
  stepId_of_ex (Keeps.ex ((withFab_keeps (m := 1040383) (s0 := s) f s (by decide)).mpr (Keeps.refl _ _)) (by decide))

@[simp] theorem enqueueFwd_stepId (x : Carried) (s : State) : stepId (enqueueFwd x s) = stepId s :=
  stepId_of_ex (Keeps.ex ((enqueueFwd_keeps (m := 1040383) (s0 := s) x s (by decide)).mpr (Keeps.refl _ _)) (by decide))

@[simp] theorem drainOut_stepId (s : State) : stepId (drainOut s) = stepId s :=
  stepId_of_ex (Keeps.ex ((drainOut_keeps (m := 1040383) (s0 := s) s (by decide)).mpr (Keeps.refl _ _)) (by decide))

@[simp] theorem sendParcel_stepId (dst : Nat) (cls : Nat) (kind : Nat) (st : Stream) (kf : Nat) (payload : Bytes) (s : State) : stepId (sendParcel dst cls kind st kf payload s) = stepId s :=
  stepId_of_ex (Keeps.ex ((sendParcel_keeps (m := 1040367) (s0 := s) dst cls kind st kf payload s (by decide)).mpr (Keeps.refl _ _)) (by decide))

@[simp] theorem sendControl_stepId (dst : Nat) (kind : Nat) (kf : Nat) (s : State) : stepId (sendControl dst kind kf s) = stepId s :=
  stepId_of_ex (Keeps.ex ((sendControl_keeps (m := 1040367) (s0 := s) dst kind kf s (by decide)).mpr (Keeps.refl _ _)) (by decide))

@[simp] theorem returnOn_stepId (c : InCtx) (n : Nat) (s : State) : stepId (returnOn c n s) = stepId s :=
  stepId_of_ex (Keeps.ex ((returnOn_keeps (m := 1040367) (s0 := s) c n s (by decide)).mpr (Keeps.refl _ _)) (by decide))

@[simp] theorem returnChunk_stepId (c : Chunk) (s : State) : stepId (returnChunk c s) = stepId s :=
  stepId_of_ex (Keeps.ex ((returnChunk_keeps (m := 1040367) (s0 := s) c s (by decide)).mpr (Keeps.refl _ _)) (by decide))

@[simp] theorem discardWaiting_stepId (gone : Carried → Bool) (s : State) : stepId (discardWaiting gone s) = stepId s :=
  stepId_of_ex (Keeps.ex ((discardWaiting_keeps (m := 1036287) (s0 := s) gone s (by decide)).mpr (Keeps.refl _ _)) (by decide))

@[simp] theorem silentVerdict_stepId (peer : Nat) (s : State) : stepId (silentVerdict peer s) = stepId s :=
  stepId_of_ex (Keeps.ex ((silentVerdict_keeps (m := 970735) (s0 := s) peer s (by decide)).mpr (Keeps.refl _ _)) (by decide))

@[simp] theorem closeContexts_stepId (s : State) : stepId (closeContexts s) = stepId s :=
  stepId_of_ex (Keeps.ex ((closeContexts_keeps (m := 1036287) (s0 := s) s (by decide)).mpr (Keeps.refl _ _)) (by decide))

@[simp] theorem grantLease_stepId (c : InCtx) (s : State) : stepId (grantLease c s) = stepId s :=
  stepId_of_ex (Keeps.ex ((grantLease_keeps (m := 1040363) (s0 := s) c s (by decide)).mpr (Keeps.refl _ _)) (by decide))

@[simp] theorem openContexts_stepId (sc : Score) (s : State) : stepId (openContexts sc s) = stepId s :=
  stepId_of_ex (Keeps.ex ((openContexts_keeps (m := 1040363) (s0 := s) sc s (by decide)).mpr (Keeps.refl _ _)) (by decide))

@[simp] theorem departed_stepId (p : Parcel) (s : State) : stepId (departed p s) = stepId s :=
  stepId_of_ex (Keeps.ex ((departed_keeps (m := 1040383) (s0 := s) p s (by decide)).mpr (Keeps.refl _ _)) (by decide))

@[simp] theorem withEngine_stepId (k : Nat) (x : Engine) (s : State) : stepId (withEngine k x s) = stepId s := by
  unfold withEngine; dsimp only; repeat' (first | rfl | (simp; done) | split | (apply stepId_foldl <;> intros))

@[simp] theorem runJob_stepId (sc : Score) (u : Agent) (src : Desc) (dst : Desc) (s : State) : stepId (runJob sc u src dst s) = stepId s := by
  unfold runJob; dsimp only; (repeat' split) <;> simp [*]

@[simp] theorem withStream_stepId (i : Nat) (x : StreamRun) (s : State) : stepId (withStream i x s) = stepId s := by
  unfold withStream; dsimp only; repeat' (first | rfl | (simp; done) | split | (apply stepId_foldl <;> intros))

@[simp] theorem readStreamList_stepId (sc : Score) (x : StreamDecl) (s : State) : stepId (readStreamList sc x s) = stepId s := by
  unfold readStreamList; dsimp only; (repeat' split) <;> simp [*]

@[simp] theorem readStreamLine_stepId (x : StreamDecl) (s : State) (line : Nat) : stepId (readStreamLine x s line) = stepId s := by
  unfold readStreamLine; dsimp only; (repeat' split) <;> simp [*]

@[simp] theorem installStreamLine_stepId (x : StreamDecl) (s : State) (line : Nat) : stepId (installStreamLine x s line) = stepId s :=
  stepId_of_ex (Keeps.ex ((installStreamLine_keeps (m := 1048043) (s0 := s) x s line (by decide)).mpr (Keeps.refl _ _)) (by decide))

@[simp] theorem pllTake_stepId (subs : List Nat) (s : State) : stepId (pllTake subs s) = stepId s :=
  stepId_of_ex (Keeps.ex ((pllTake_keeps (m := 786431) (s0 := s) subs s (by decide)).mpr (Keeps.refl _ _)) (by decide))

@[simp] theorem withStackDir_stepId (cd : Nat) (port : Nat) (toBase : Bool) (d : StackDir) (s : State) : stepId (withStackDir cd port toBase d s) = stepId s :=
  stepId_of_ex (Keeps.ex ((withStackDir_keeps (m := 1048063) (s0 := s) cd port toBase d s (by decide)).mpr (Keeps.refl _ _)) (by decide))

@[simp] theorem withLink_stepId (k : Nat) (l : QlLink) (s : State) : stepId (withLink k l s) = stepId s :=
  stepId_of_ex (Keeps.ex ((withLink_keeps (m := 1047551) (s0 := s) k l s (by decide)).mpr (Keeps.refl _ _)) (by decide))

@[simp] theorem failLink_stepId (k : Nat) (s : State) : stepId (failLink k s) = stepId s := by
  unfold failLink; (repeat' split) <;> simp

@[simp] theorem beginRetrain_stepId (k : Nat) (s : State) : stepId (beginRetrain k s) = stepId s := by
  unfold beginRetrain; (repeat' split) <;> simp

@[simp] theorem resendUnits_stepId (k : Nat) (up : Bool) (s : State) : stepId (resendUnits k up s) = stepId s := by
  unfold resendUnits; (repeat' split) <;> simp

@[simp] theorem takeAckCredit_stepId (k : Nat) (up : Bool) (f : UnitFields) (s : State) : stepId (takeAckCredit k up f s) = stepId s :=
  stepId_of_ex (Keeps.ex ((takeAckCredit_keeps (m := 1047551) (s0 := s) k up f s (by decide)).mpr (Keeps.refl _ _)) (by decide))

@[simp] theorem refuseUnit_stepId (u : QlUnit) (s : State) : stepId (refuseUnit u s) = stepId s :=
  stepId_of_ex (Keeps.ex ((refuseUnit_keeps (m := 1047549) (s0 := s) u s (by decide)).mpr (Keeps.refl _ _)) (by decide))

@[simp] theorem takeUnit_stepId (u : QlUnit) (b : Bytes) (s : State) : stepId (takeUnit u b s) = stepId s :=
  stepId_of_ex (Keeps.ex ((takeUnit_keeps (m := 979951) (s0 := s) u b s (by decide)).mpr (Keeps.refl _ _)) (by decide))

@[simp] theorem clearNak_stepId (u : QlUnit) (s : State) : stepId (clearNak u s) = stepId s :=
  stepId_of_ex (Keeps.ex ((clearNak_keeps (m := 1047551) (s0 := s) u s (by decide)).mpr (Keeps.refl _ _)) (by decide))

@[simp] theorem linkUp_stepId (k : Nat) (repaired : Nat) (exhausted : BitVec 8) (s : State) : stepId (linkUp k repaired exhausted s) = stepId s :=
  stepId_of_ex (Keeps.ex ((linkUp_keeps (m := 1047533) (s0 := s) k repaired exhausted s (by decide)).mpr (Keeps.refl _ _)) (by decide))

@[simp] theorem withPho_stepId (f : Photonics → Photonics) (s : State) : stepId (withPho f s) = stepId s :=
  stepId_of_ex (Keeps.ex ((withPho_keeps (m := 1044479) (s0 := s) f s (by decide)).mpr (Keeps.refl _ _)) (by decide))

@[simp] theorem withPort_stepId (p : Nat) (x : Port) (s : State) : stepId (withPort p x s) = stepId s :=
  stepId_of_ex (Keeps.ex ((withPort_keeps (m := 1044479) (s0 := s) p x s (by decide)).mpr (Keeps.refl _ _)) (by decide))

@[simp] theorem withTx_stepId (p : Nat) (c : Nat) (x : TxLane) (s : State) : stepId (withTx p c x s) = stepId s :=
  stepId_of_ex (Keeps.ex ((withTx_keeps (m := 1044479) (s0 := s) p c x s (by decide)).mpr (Keeps.refl _ _)) (by decide))

@[simp] theorem withRx_stepId (p : Nat) (c : Nat) (x : RxLane) (s : State) : stepId (withRx p c x s) = stepId s :=
  stepId_of_ex (Keeps.ex ((withRx_keeps (m := 1044479) (s0 := s) p c x s (by decide)).mpr (Keeps.refl _ _)) (by decide))

@[simp] theorem withRing_stepId (tx : Bool) (p : Nat) (r : Nat) (x : Ring) (s : State) : stepId (withRing tx p r x s) = stepId s :=
  stepId_of_ex (Keeps.ex ((withRing_keeps (m := 1044479) (s0 := s) tx p r x s (by decide)).mpr (Keeps.refl _ _)) (by decide))

@[simp] theorem sendFrame_stepId (p : Nat) (c : Nat) (state : Nat) (s : State) : stepId (sendFrame p c state s) = stepId s :=
  stepId_of_ex (Keeps.ex ((sendFrame_keeps (m := 1044477) (s0 := s) p c state s (by decide)).mpr (Keeps.refl _ _)) (by decide))

@[simp] theorem sendDueFrames_stepId (s : State) : stepId (sendDueFrames s) = stepId s :=
  stepId_of_ex (Keeps.ex ((sendDueFrames_keeps (m := 1044477) (s0 := s) s (by decide)).mpr (Keeps.refl _ _)) (by decide))

@[simp] theorem sendNotice_stepId (p : Nat) (code : Nat) (about : Nat) (dst : Nat) (s : State) : stepId (sendNotice p code about dst s) = stepId s :=
  stepId_of_ex (Keeps.ex ((sendNotice_keeps (m := 1044479) (s0 := s) p code about dst s (by decide)).mpr (Keeps.refl _ _)) (by decide))

@[simp] theorem requeue_stepId (xs : List Carried) (s : State) : stepId (requeue xs s) = stepId s :=
  stepId_of_ex (Keeps.ex ((requeue_keeps (m := 1040383) (s0 := s) xs s (by decide)).mpr (Keeps.refl _ _)) (by decide))

@[simp] theorem outTx_stepId (p : Nat) (c : Nat) (st : LaneState) (s : State) : stepId (outTx p c st s) = stepId s :=
  stepId_of_ex (Keeps.ex ((outTx_keeps (m := 1036287) (s0 := s) p c st s (by decide)).mpr (Keeps.refl _ _)) (by decide))

@[simp] theorem pullTx_stepId (p : Nat) (c : Nat) (st : LaneState) (s : State) : stepId (pullTx p c st s) = stepId s :=
  stepId_of_ex (Keeps.ex ((pullTx_keeps (m := 1036285) (s0 := s) p c st s (by decide)).mpr (Keeps.refl _ _)) (by decide))

@[simp] theorem forgetBuffers_stepId (key : Nat) (s : State) : stepId (forgetBuffers key s) = stepId s :=
  stepId_of_ex (Keeps.ex ((forgetBuffers_keeps (m := 1036287) (s0 := s) key s (by decide)).mpr (Keeps.refl _ _)) (by decide))

@[simp] theorem pullRx_stepId (p : Nat) (c : Nat) (st : LaneState) (s : State) : stepId (pullRx p c st s) = stepId s :=
  stepId_of_ex (Keeps.ex ((pullRx_keeps (m := 1044479) (s0 := s) p c st s (by decide)).mpr (Keeps.refl _ _)) (by decide))

@[simp] theorem pullLane_stepId (tx : Bool) (p : Nat) (c : Nat) (st : LaneState) (s : State) : stepId (pullLane tx p c st s) = stepId s :=
  stepId_of_ex (Keeps.ex ((pullLane_keeps (m := 1036285) (s0 := s) tx p c st s (by decide)).mpr (Keeps.refl _ _)) (by decide))

@[simp] theorem oweCredit_stepId (p : Nat) (c : Nat) (cls : Nat) (pool : Nat) (n : Nat) (s : State) : stepId (oweCredit p c cls pool n s) = stepId s :=
  stepId_of_ex (Keeps.ex ((oweCredit_keeps (m := 1044479) (s0 := s) p c cls pool n s (by decide)).mpr (Keeps.refl _ _)) (by decide))

@[simp] theorem freeBuffers_stepId (bs : List (Nat × Nat × Nat × Nat)) (s : State) : stepId (freeBuffers bs s) = stepId s :=
  stepId_of_ex (Keeps.ex ((freeBuffers_keeps (m := 1044479) (s0 := s) bs s (by decide)).mpr (Keeps.refl _ _)) (by decide))

@[simp] theorem sendBare_stepId (p : Nat) (c : Nat) (kind : Nat) (s : State) : stepId (sendBare p c kind s) = stepId s :=
  stepId_of_ex (Keeps.ex ((sendBare_keeps (m := 1044477) (s0 := s) p c kind s (by decide)).mpr (Keeps.refl _ _)) (by decide))

@[simp] theorem parcelGone_stepId (x : Carried) (s : State) : stepId (parcelGone x s) = stepId s :=
  stepId_of_ex (Keeps.ex ((parcelGone_keeps (m := 1044479) (s0 := s) x s (by decide)).mpr (Keeps.refl _ _)) (by decide))

@[simp] theorem sendData_stepId (p : Nat) (c : Nat) (cls : Nat) (pool : Nat) (key : Nat) (s : State) : stepId (sendData p c cls pool key s) = stepId s :=
  stepId_of_ex (Keeps.ex ((sendData_keeps (m := 1036269) (s0 := s) p c cls pool key s (by decide)).mpr (Keeps.refl _ _)) (by decide))

@[simp] theorem pumpFlits_stepId (p : Nat) (c : Nat) (a2 : Nat) (a3 : State) : stepId (pumpFlits p c a2 a3) = stepId a3 :=
  stepId_of_ex (Keeps.ex ((pumpFlits_keeps (m := 1036269) (s0 := a3) p c a2 a3 (by decide)).mpr (Keeps.refl _ _)) (by decide))

@[simp] theorem pumpLane_stepId (p : Nat) (c : Nat) (s : State) : stepId (pumpLane p c s) = stepId s :=
  stepId_of_ex (Keeps.ex ((pumpLane_keeps (m := 1036269) (s0 := s) p c s (by decide)).mpr (Keeps.refl _ _)) (by decide))

@[simp] theorem pumpLanes_stepId (s : State) : stepId (pumpLanes s) = stepId s :=
  stepId_of_ex (Keeps.ex ((pumpLanes_keeps (m := 1036269) (s0 := s) s (by decide)).mpr (Keeps.refl _ _)) (by decide))

@[simp] theorem resendOne_stepId (p : Nat) (c : Nat) (f : TxFlit) (s : State) : stepId (resendOne p c f s) = stepId s :=
  stepId_of_ex (Keeps.ex ((resendOne_keeps (m := 1044477) (s0 := s) p c f s (by decide)).mpr (Keeps.refl _ _)) (by decide))

@[simp] theorem resendAll_stepId (p : Nat) (c : Nat) (s : State) : stepId (resendAll p c s) = stepId s :=
  stepId_of_ex (Keeps.ex ((resendAll_keeps (m := 1044461) (s0 := s) p c s (by decide)).mpr (Keeps.refl _ _)) (by decide))

@[simp] theorem withCol_stepId (f : Collectives → Collectives) (s : State) : stepId (withCol f s) = stepId s :=
  stepId_of_ex (Keeps.ex ((withCol_keeps (m := 1032191) (s0 := s) f s (by decide)).mpr (Keeps.refl _ _)) (by decide))

@[simp] theorem withPral_stepId (r : PralRun) (s : State) : stepId (withPral r s) = stepId s :=
  stepId_of_ex (Keeps.ex ((withPral_keeps (m := 1032191) (s0 := s) r s (by decide)).mpr (Keeps.refl _ _)) (by decide))

@[simp] theorem wordOnLane_stepId (w : W128) (s : State) (lane : Nat × Nat) : stepId (wordOnLane w s lane) = stepId s :=
  stepId_of_ex (Keeps.ex ((wordOnLane_keeps (m := 1036269) (s0 := s) w s lane (by decide)).mpr (Keeps.refl _ _)) (by decide))

@[simp] theorem noteSend_stepId (r : PralRun) (stage : Nat) (a : Nat) (s : State) : stepId (noteSend r stage a s) = stepId s :=
  stepId_of_ex (Keeps.ex ((noteSend_keeps (m := 1032191) (s0 := s) r stage a s (by decide)).mpr (Keeps.refl _ _)) (by decide))

@[simp] theorem sendPral_stepId (r : PralRun) (stage : Nat) (a : Nat) (first : Bool) (s : State) : stepId (sendPral r stage a first s) = stepId s :=
  stepId_of_ex (Keeps.ex ((sendPral_keeps (m := 1019885) (s0 := s) r stage a first s (by decide)).mpr (Keeps.refl _ _)) (by decide))

@[simp] theorem sendStage_stepId (r : PralRun) (stage : Nat) (s : State) : stepId (sendStage r stage s) = stepId s :=
  stepId_of_ex (Keeps.ex ((sendStage_keeps (m := 1019885) (s0 := s) r stage s (by decide)).mpr (Keeps.refl _ _)) (by decide))

@[simp] theorem pralAdvance_stepId (a0 : Nat) (a1 : PralRun) (a2 : State) : stepId (pralAdvance a0 a1 a2) = stepId a2 :=
  stepId_of_ex (Keeps.ex ((pralAdvance_keeps (m := 1019885) (s0 := a2) a0 a1 a2 (by decide)).mpr (Keeps.refl _ _)) (by decide))

@[simp] theorem storeWord_stepId (r : PralRun) (src : Nat) (w : PralFields) (s : State) : stepId (storeWord r src w s) = stepId s :=
  stepId_of_ex (Keeps.ex ((storeWord_keeps (m := 1019885) (s0 := s) r src w s (by decide)).mpr (Keeps.refl _ _)) (by decide))

@[simp] theorem absorbEarly_stepId (g : Nat) (seq : Nat) (round : Nat) (s : State) : stepId (absorbEarly g seq round s) = stepId s :=
  stepId_of_ex (Keeps.ex ((absorbEarly_keeps (m := 1019885) (s0 := s) g seq round s (by decide)).mpr (Keeps.refl _ _)) (by decide))

@[simp] theorem startPraline_stepId (sc : Score) (coll : Nat) (op : Nat) (value : W64) (s : State) : stepId (startPraline sc coll op value s) = stepId s :=
  stepId_of_ex (Keeps.ex ((startPraline_keeps (m := 1019885) (s0 := s) sc coll op value s (by decide)).mpr (Keeps.refl _ _)) (by decide))

@[simp] theorem takeFields_stepId (src : Nat) (w : PralFields) (s : State) : stepId (takeFields src w s) = stepId s :=
  stepId_of_ex (Keeps.ex ((takeFields_keeps (m := 1019885) (s0 := s) src w s (by decide)).mpr (Keeps.refl _ _)) (by decide))

@[simp] theorem badWord_stepId (src : Nat) (w : PralFields) (s : State) : stepId (badWord src w s) = stepId s :=
  stepId_of_ex (Keeps.ex ((badWord_keeps (m := 966639) (s0 := s) src w s (by decide)).mpr (Keeps.refl _ _)) (by decide))

@[simp] theorem takeWord_stepId (w : Praline) (s : State) : stepId (takeWord w s) = stepId s :=
  stepId_of_ex (Keeps.ex ((takeWord_keeps (m := 954349) (s0 := s) w s (by decide)).mpr (Keeps.refl _ _)) (by decide))

@[simp] theorem repeatRun_stepId (s : State) (r : PralRun) : stepId (repeatRun s r) = stepId s :=
  stepId_of_ex (Keeps.ex ((repeatRun_keeps (m := 1019885) (s0 := s) s r (by decide)).mpr (Keeps.refl _ _)) (by decide))

@[simp] theorem withRun_stepId (n : Nat) (r : CollRun) (s : State) : stepId (withRun n r s) = stepId s :=
  stepId_of_ex (Keeps.ex ((withRun_keeps (m := 1032191) (s0 := s) n r s (by decide)).mpr (Keeps.refl _ _)) (by decide))

@[simp] theorem sendRange_stepId (x : CollCtx) (stage : Nat) (base : Nat) (peer : Nat) (r : Nat × Nat) (s : State) : stepId (sendRange x stage base peer r s) = stepId s :=
  stepId_of_ex (Keeps.ex ((sendRange_keeps (m := 1039851) (s0 := s) x stage base peer r s (by decide)).mpr (Keeps.refl _ _)) (by decide))

@[simp] theorem sendAll_stepId (x : CollCtx) (stage : Nat) (s : State) : stepId (sendAll x stage s) = stepId s :=
  stepId_of_ex (Keeps.ex ((sendAll_keeps (m := 1039851) (s0 := s) x stage s (by decide)).mpr (Keeps.refl _ _)) (by decide))

@[simp] theorem returnHeld_stepId (h0 : HeldChunk) (s : State) : stepId (returnHeld h0 s) = stepId s :=
  stepId_of_ex (Keeps.ex ((returnHeld_keeps (m := 1040367) (s0 := s) h0 s (by decide)).mpr (Keeps.refl _ _)) (by decide))

@[simp] theorem useChunk_stepId (x : CollCtx) (h1 : HeldChunk) (s : State) : stepId (useChunk x h1 s) = stepId s :=
  stepId_of_ex (Keeps.ex ((useChunk_keeps (m := 1023465) (s0 := s) x h1 s (by decide)).mpr (Keeps.refl _ _)) (by decide))

@[simp] theorem refetch_stepId (x : CollCtx) (off : Nat) (len : Nat) (s : State) : stepId (refetch x off len s) = stepId s :=
  stepId_of_ex (Keeps.ex ((refetch_keeps (m := 1023983) (s0 := s) x off len s (by decide)).mpr (Keeps.refl _ _)) (by decide))

@[simp] theorem badChunk_stepId (c : Chunk) (s : State) : stepId (badChunk c s) = stepId s := by
  unfold badChunk; (repeat' split) <;> simp

@[simp] theorem noteReceived_stepId (n : Nat) (c : Chunk) (s : State) : stepId (noteReceived n c s) = stepId s :=
  stepId_of_ex (Keeps.ex ((noteReceived_keeps (m := 1032191) (s0 := s) n c s (by decide)).mpr (Keeps.refl _ _)) (by decide))

@[simp] theorem applyChunk_stepId (x : CollCtx) (s : State) (h2 : HeldChunk) : stepId (applyChunk x s h2) = stepId s :=
  stepId_of_ex (Keeps.ex ((applyChunk_keeps (m := 1023465) (s0 := s) x s h2 (by decide)).mpr (Keeps.refl _ _)) (by decide))

@[simp] theorem orderedSums_stepId (x : CollCtx) (stage : Nat) (s : State) : stepId (orderedSums x stage s) = stepId s :=
  stepId_of_ex (Keeps.ex ((orderedSums_keeps (m := 1048041) (s0 := s) x stage s (by decide)).mpr (Keeps.refl _ _)) (by decide))

@[simp] theorem mergeLists_stepId (x : CollCtx) (stage : Nat) (s : State) : stepId (mergeLists x stage s) = stepId s :=
  stepId_of_ex (Keeps.ex ((mergeLists_keeps (m := 1048041) (s0 := s) x stage s (by decide)).mpr (Keeps.refl _ _)) (by decide))

@[simp] theorem examine_stepId (x : CollCtx) (s : State) : stepId (examine x s) = stepId s :=
  stepId_of_ex (Keeps.ex ((examine_keeps (m := 1031659) (s0 := s) x s (by decide)).mpr (Keeps.refl _ _)) (by decide))

@[simp] theorem tee_stepId (x : CollCtx) (t1 : Nat) (s : State) : stepId (tee x t1 s) = stepId s :=
  stepId_of_ex (Keeps.ex ((tee_keeps (m := 1015275) (s0 := s) x t1 s (by decide)).mpr (Keeps.refl _ _)) (by decide))

@[simp] theorem settleTokens_stepId (x : CollCtx) (s : State) : stepId (settleTokens x s) = stepId s := by
  unfold settleTokens; (repeat' split) <;> simp

@[simp] theorem tokensFall_stepId (x : CollCtx) (s : State) : stepId (tokensFall x s) = stepId s := by
  unfold tokensFall; (repeat' split) <;> simp

@[simp] theorem dropHeld_stepId (n : Nat) (s : State) : stepId (dropHeld n s) = stepId s :=
  stepId_of_ex (Keeps.ex ((dropHeld_keeps (m := 1023983) (s0 := s) n s (by decide)).mpr (Keeps.refl _ _)) (by decide))

@[simp] theorem completeColl_stepId (x : CollCtx) (s : State) : stepId (completeColl x s) = stepId s := by
  unfold completeColl; (repeat' split) <;> simp

@[simp] theorem useHeld_stepId (x : CollCtx) (s : State) : stepId (useHeld x s) = stepId s :=
  stepId_of_ex (Keeps.ex ((useHeld_keeps (m := 1023465) (s0 := s) x s (by decide)).mpr (Keeps.refl _ _)) (by decide))

@[simp] theorem enterStage_stepId (x : CollCtx) (stage : Nat) (s : State) : stepId (enterStage x stage s) = stepId s :=
  stepId_of_ex (Keeps.ex ((enterStage_keeps (m := 1023465) (s0 := s) x stage s (by decide)).mpr (Keeps.refl _ _)) (by decide))

@[simp] theorem afterReduce_stepId (x : CollCtx) (s : State) : stepId (afterReduce x s) = stepId s := by
  unfold afterReduce; (repeat' split) <;> simp

@[simp] theorem nextStage_stepId (x : CollCtx) (s : State) : stepId (nextStage x s) = stepId s := by
  unfold nextStage; (repeat' split) <;> simp

@[simp] theorem advanceColl_stepId (x : CollCtx) (n : Nat) (s : State) : stepId (advanceColl x n s) = stepId s := by
  induction n generalizing s with
  | zero => rfl
  | succ n ih =>
    unfold advanceColl
    extract_lets r
    split
    · exact (ih _).trans (nextStage_stepId _ _)
    · rfl

@[simp] theorem noteDigest_stepId (x : CollCtx) (s : State) : stepId (noteDigest x s) = stepId s := by
  unfold noteDigest; (repeat' split) <;> simp

@[simp] theorem checkSource_stepId (x : CollCtx) (s : State) : stepId (checkSource x s) = stepId s := by
  unfold checkSource; (repeat' split) <;> simp

@[simp] theorem freshRun_stepId (n : Nat) (s : State) : stepId (freshRun n s) = stepId s :=
  stepId_of_ex (Keeps.ex ((freshRun_keeps (m := 1032191) (s0 := s) n s (by decide)).mpr (Keeps.refl _ _)) (by decide))

@[simp] theorem runColl_stepId (x : CollCtx) (s : State) : stepId (runColl x s) = stepId s := by
  unfold runColl; (repeat' split) <;> simp

@[simp] theorem finishPraline_stepId (x : CollCtx) (s : State) : stepId (finishPraline x s) = stepId s := by
  unfold finishPraline; (repeat' split) <;> simp

@[simp] theorem finishPralines_stepId (sc : Score) (s : State) : stepId (finishPralines sc s) = stepId s := by
  unfold finishPralines; try dsimp only
  repeat' (first | rfl | (simp; done) | split | (refine (onScore_stepId _ _ ?_).trans ?_; intros) | (refine (stepId_foldl _ ?_ _ _).trans ?_; intros) | simp)

@[simp] theorem startColl_stepId (x : CollCtx) (s : State) : stepId (startColl x s) = stepId s := by
  unfold startColl; (repeat' split) <;> simp

@[simp] theorem chunkNow_stepId (sc : Score) (h1 : HeldChunk) (s : State) : stepId (chunkNow sc h1 s) = stepId s := by
  unfold chunkNow; dsimp only; (repeat' split) <;> simp [*]

@[simp] theorem takeChunk_stepId (tagGood : Bool) (c : Chunk) (s : State) : stepId (takeChunk tagGood c s) = stepId s := by
  unfold takeChunk; (repeat' split) <;> simp

@[simp] theorem takeEarly_stepId (s : State) : stepId (takeEarly s) = stepId s := by
  unfold takeEarly; (repeat' split) <;> simp

@[simp] theorem reviewColl_stepId (x : CollCtx) (s : State) : stepId (reviewColl x s) = stepId s := by
  unfold reviewColl; (repeat' split) <;> simp

@[simp] theorem reviewColls_stepId (s : State) : stepId (reviewColls s) = stepId s := by
  unfold reviewColls; try dsimp only
  repeat' (first | rfl | (simp; done) | split | (refine (onScore_stepId _ _ ?_).trans ?_; intros) | (refine (stepId_foldl _ ?_ _ _).trans ?_; intros) | simp)

@[simp] theorem pushHistory_stepId (lrec : Bytes) (s : State) : stepId (pushHistory lrec s) = stepId s :=
  stepId_of_ex (Keeps.ex ((pushHistory_keeps (m := 1048559) (s0 := s) lrec s (by decide)).mpr (Keeps.refl _ _)) (by decide))

@[simp] theorem reportLoss_stepId (sc : Score) (s : State) : stepId (reportLoss sc s) = stepId s := by
  unfold reportLoss; (repeat' split) <;> simp

@[simp] theorem holdAtEnd_stepId (s : State) : stepId (holdAtEnd s) = stepId s := by
  unfold holdAtEnd; (repeat' split) <;> simp

@[simp] theorem scaleStep_stepId (v : Verdict) (s : State) : stepId (scaleStep v s) = stepId s := by
  unfold scaleStep; try dsimp only
  repeat' (first | rfl | (simp; done) | split | (refine (onScore_stepId _ _ ?_).trans ?_; intros) | (refine (stepId_foldl _ ?_ _ _).trans ?_; intros) | simp)

@[simp] theorem applyOutcome_stepId (sc : Score) (s : State) : stepId (applyOutcome sc s) = stepId s := by
  unfold applyOutcome; dsimp only; (repeat' split) <;> simp [*]

@[simp] theorem releaseHeld_stepId (accept : Bool) (sc : Score) (s : State) : stepId (releaseHeld accept sc s) = stepId s := by
  unfold releaseHeld; dsimp only; (repeat' split) <;> simp [*]

@[simp] theorem forcedVoid_stepId (cause : W32) (s : State) : stepId (forcedVoid cause s) = stepId s := by
  unfold forcedVoid; (repeat' split) <;> simp

@[simp] theorem contribute_stepId (sc : Score) (s : State) : stepId (contribute sc s) = stepId s := by
  unfold contribute; (repeat' split) <;> simp

@[simp] theorem settlePair_stepId (sc : Score) (partner : Nat) (digest : Nat) (s : State) : stepId (settlePair sc partner digest s) = stepId s := by
  unfold settlePair; (repeat' split) <;> simp

@[simp] theorem holdCommit_stepId (s : State) : stepId (holdCommit s) = stepId s := by
  unfold holdCommit; (repeat' split) <;> simp

@[simp] theorem takePairDigest_stepId (m0 : PairDigestMsg) (s : State) : stepId (takePairDigest m0 s) = stepId s := by
  unfold takePairDigest; (repeat' split) <;> simp

@[simp] theorem replayReduce_stepId (sc : Score) (s : State) : stepId (replayReduce sc s) = stepId s := by
  unfold replayReduce; dsimp only; repeat' (first | rfl | (simp; done) | split | (apply stepId_foldl <;> intros))

@[simp] theorem establishPoint_stepId (s : State) : stepId (establishPoint s) = stepId s :=
  stepId_of_ex (Keeps.ex ((establishPoint_keeps (m := 1015791) (s0 := s) s (by decide)).mpr (Keeps.refl _ _)) (by decide))

@[simp] theorem proofReplay_stepId (sc : Score) (s : State) : stepId (proofReplay sc s) = stepId s := by
  unfold proofReplay; dsimp only; (repeat' split) <;> simp [*]

@[simp] theorem dropStale_stepId (s : State) : stepId (dropStale s) = stepId s :=
  stepId_of_ex (Keeps.ex ((dropStale_keeps (m := 1023983) (s0 := s) s (by decide)).mpr (Keeps.refl _ _)) (by decide))

@[simp] theorem decideVerdict_stepId (sc : Score) (w : W64) (s : State) : stepId (decideVerdict sc w s) = stepId s := by
  unfold decideVerdict; (repeat' split) <;> simp

@[simp] theorem completeVerdict_stepId (sc : Score) (w : W64) (s : State) : stepId (completeVerdict sc w s) = stepId s := by
  unfold completeVerdict; dsimp only; (repeat' split) <;> simp [*]

@[simp] theorem secureWrite_stepId (m0 : RemoteMsg) (holder : Nat) (blocks : List (Nat × Bytes)) (s : State) : stepId (secureWrite m0 holder blocks s) = stepId s :=
  stepId_of_ex (Keeps.ex ((secureWrite_keeps (m := 1040367) (s0 := s) m0 holder blocks s (by decide)).mpr (Keeps.refl _ _)) (by decide))

@[simp] theorem secureRegion_stepId (sc : Score) (s : State) (r : Nat × Nat × Nat × Nat) : stepId (secureRegion sc s r) = stepId s := by
  unfold secureRegion; (repeat' split) <;> simp

@[simp] theorem secureTheRecord_stepId (sc : Score) (s : State) : stepId (secureTheRecord sc s) = stepId s :=
  stepId_of_ex (Keeps.ex ((secureTheRecord_keeps (m := 1040367) (s0 := s) sc s (by decide)).mpr (Keeps.refl _ _)) (by decide))

@[simp] theorem dropAs_stepId (st : LaneState) (tx : Bool) (p : Nat) (c : Nat) (s : State) : stepId (dropAs st tx p c s) = stepId s :=
  stepId_of_ex (Keeps.ex ((dropAs_keeps (m := 970733) (s0 := s) st tx p c s (by decide)).mpr (Keeps.refl _ _)) (by decide))

@[simp] theorem dropLane_stepId (tx : Bool) (p : Nat) (c : Nat) (s : State) : stepId (dropLane tx p c s) = stepId s :=
  stepId_of_ex (Keeps.ex ((dropLane_keeps (m := 970733) (s0 := s) tx p c s (by decide)).mpr (Keeps.refl _ _)) (by decide))

@[simp] theorem beginSearch_stepId (tx : Bool) (p : Nat) (c : Nat) (lost : Bool) (s : State) : stepId (beginSearch tx p c lost s) = stepId s :=
  stepId_of_ex (Keeps.ex ((beginSearch_keeps (m := 970733) (s0 := s) tx p c lost s (by decide)).mpr (Keeps.refl _ _)) (by decide))

@[simp] theorem failRing_stepId (tx : Bool) (p : Nat) (c : Nat) (s : State) : stepId (failRing tx p c s) = stepId s :=
  stepId_of_ex (Keeps.ex ((failRing_keeps (m := 970733) (s0 := s) tx p c s (by decide)).mpr (Keeps.refl _ _)) (by decide))

@[simp] theorem rxIntoService_stepId (p : Nat) (c : Nat) (s : State) : stepId (rxIntoService p c s) = stepId s :=
  stepId_of_ex (Keeps.ex ((rxIntoService_keeps (m := 1036269) (s0 := s) p c s (by decide)).mpr (Keeps.refl _ _)) (by decide))

@[simp] theorem reachable_stepId (p : Nat) (c : Nat) (s : State) : stepId (reachable p c s) = stepId s :=
  stepId_of_ex (Keeps.ex ((reachable_keeps (m := 1040383) (s0 := s) p c s (by decide)).mpr (Keeps.refl _ _)) (by decide))

@[simp] theorem txIntoService_stepId (p : Nat) (c : Nat) (s : State) : stepId (txIntoService p c s) = stepId s :=
  stepId_of_ex (Keeps.ex ((txIntoService_keeps (m := 1036269) (s0 := s) p c s (by decide)).mpr (Keeps.refl _ _)) (by decide))

@[simp] theorem parkRings_stepId (tx : Bool) (p : Nat) (s : State) : stepId (parkRings tx p s) = stepId s :=
  stepId_of_ex (Keeps.ex ((parkRings_keeps (m := 1036287) (s0 := s) tx p s (by decide)).mpr (Keeps.refl _ _)) (by decide))

@[simp] theorem sweepAnchor_stepId (tx : Bool) (p : Nat) (s : State) : stepId (sweepAnchor tx p s) = stepId s :=
  stepId_of_ex (Keeps.ex ((sweepAnchor_keeps (m := 1044479) (s0 := s) tx p s (by decide)).mpr (Keeps.refl _ _)) (by decide))

@[simp] theorem setDataRings_stepId (tx : Bool) (p : Nat) (s : State) : stepId (setDataRings tx p s) = stepId s :=
  stepId_of_ex (Keeps.ex ((setDataRings_keeps (m := 1044479) (s0 := s) tx p s (by decide)).mpr (Keeps.refl _ _)) (by decide))

@[simp] theorem portOn_stepId (p : Nat) (s : State) : stepId (portOn p s) = stepId s :=
  stepId_of_ex (Keeps.ex ((portOn_keeps (m := 1044479) (s0 := s) p s (by decide)).mpr (Keeps.refl _ _)) (by decide))

@[simp] theorem lightLasers_stepId (which : Nat → Bool) (s : State) : stepId (lightLasers which s) = stepId s :=
  stepId_of_ex (Keeps.ex ((lightLasers_keeps (m := 1044479) (s0 := s) which s (by decide)).mpr (Keeps.refl _ _)) (by decide))

@[simp] theorem lightAll_stepId (s : State) : stepId (lightAll s) = stepId s :=
  stepId_of_ex (Keeps.ex ((lightAll_keeps (m := 1044479) (s0 := s) s (by decide)).mpr (Keeps.refl _ _)) (by decide))

@[simp] theorem txAnchorFound_stepId (p : Nat) (s : State) : stepId (txAnchorFound p s) = stepId s :=
  stepId_of_ex (Keeps.ex ((txAnchorFound_keeps (m := 1044479) (s0 := s) p s (by decide)).mpr (Keeps.refl _ _)) (by decide))

@[simp] theorem rxAnchorFound_stepId (p : Nat) (s : State) : stepId (rxAnchorFound p s) = stepId s :=
  stepId_of_ex (Keeps.ex ((rxAnchorFound_keeps (m := 1044479) (s0 := s) p s (by decide)).mpr (Keeps.refl _ _)) (by decide))

@[simp] theorem commissionPort_stepId (p : Nat) (s : State) : stepId (commissionPort p s) = stepId s :=
  stepId_of_ex (Keeps.ex ((commissionPort_keeps (m := 774143) (s0 := s) p s (by decide)).mpr (Keeps.refl _ _)) (by decide))

@[simp] theorem commissionAll_stepId (s : State) : stepId (commissionAll s) = stepId s :=
  stepId_of_ex (Keeps.ex ((commissionAll_keeps (m := 774143) (s0 := s) s (by decide)).mpr (Keeps.refl _ _)) (by decide))

@[simp] theorem plantEvent_stepId (p : Nat) (c : Nat) (s : State) : stepId (plantEvent p c s) = stepId s :=
  stepId_of_ex (Keeps.ex ((plantEvent_keeps (m := 978927) (s0 := s) p c s (by decide)).mpr (Keeps.refl _ _)) (by decide))

@[simp] theorem plantVerdict_stepId (p : Nat) (c : Nat) (source : Nat) (s : State) : stepId (plantVerdict p c source s) = stepId s :=
  stepId_of_ex (Keeps.ex ((plantVerdict_keeps (m := 970733) (s0 := s) p c source s (by decide)).mpr (Keeps.refl _ _)) (by decide))

@[simp] theorem searchExhausted_stepId (tx : Bool) (p : Nat) (c : Nat) (s : State) : stepId (searchExhausted tx p c s) = stepId s :=
  stepId_of_ex (Keeps.ex ((searchExhausted_keeps (m := 970733) (s0 := s) tx p c s (by decide)).mpr (Keeps.refl _ _)) (by decide))

@[simp] theorem rejectLine_stepId (tx : Bool) (p : Nat) (c : Nat) (s : State) : stepId (rejectLine tx p c s) = stepId s :=
  stepId_of_ex (Keeps.ex ((rejectLine_keeps (m := 970733) (s0 := s) tx p c s (by decide)).mpr (Keeps.refl _ _)) (by decide))

@[simp] theorem mismatchVerdict_stepId (p : Nat) (c : Nat) (source : Nat) (sourcePort : Nat) (colour : Nat) (s : State) : stepId (mismatchVerdict p c source sourcePort colour s) = stepId s :=
  stepId_of_ex (Keeps.ex ((mismatchVerdict_keeps (m := 970733) (s0 := s) p c source sourcePort colour s (by decide)).mpr (Keeps.refl _ _)) (by decide))

@[simp] theorem takeNotice_stepId (p : Nat) (source : Nat) (code : Nat) (colour : Nat) (s : State) : stepId (takeNotice p source code colour s) = stepId s :=
  stepId_of_ex (Keeps.ex ((takeNotice_keeps (m := 970733) (s0 := s) p source code colour s (by decide)).mpr (Keeps.refl _ _)) (by decide))

@[simp] theorem takeLaneState_stepId (p : Nat) (c : Nat) (code : Nat) (s : State) : stepId (takeLaneState p c code s) = stepId s :=
  stepId_of_ex (Keeps.ex ((takeLaneState_keeps (m := 1044479) (s0 := s) p c code s (by decide)).mpr (Keeps.refl _ _)) (by decide))

@[simp] theorem judgeFrame_stepId (p : Nat) (c : Nat) (f : FrameFields) (s : State) : stepId (judgeFrame p c f s) = stepId s :=
  stepId_of_ex (Keeps.ex ((judgeFrame_keeps (m := 970733) (s0 := s) p c f s (by decide)).mpr (Keeps.refl _ _)) (by decide))

@[simp] theorem failSpare_stepId (tx : Bool) (p : Nat) (s : State) : stepId (failSpare tx p s) = stepId s :=
  stepId_of_ex (Keeps.ex ((failSpare_keeps (m := 970733) (s0 := s) tx p s (by decide)).mpr (Keeps.refl _ _)) (by decide))

@[simp] theorem takeForSlot_stepId (p : Nat) (c : Nat) (s : State) : stepId (takeForSlot p c s) = stepId s :=
  stepId_of_ex (Keeps.ex ((takeForSlot_keeps (m := 1044477) (s0 := s) p c s (by decide)).mpr (Keeps.refl _ _)) (by decide))

@[simp] theorem withLaser_stepId (n : Nat) (x : Laser) (s : State) : stepId (withLaser n x s) = stepId s :=
  stepId_of_ex (Keeps.ex ((withLaser_keeps (m := 1044479) (s0 := s) n x s (by decide)).mpr (Keeps.refl _ _)) (by decide))

@[simp] theorem withSpareLaser_stepId (n : Nat) (x : SpareLaser) (s : State) : stepId (withSpareLaser n x s) = stepId s :=
  stepId_of_ex (Keeps.ex ((withSpareLaser_keeps (m := 1044479) (s0 := s) n x s (by decide)).mpr (Keeps.refl _ _)) (by decide))

@[simp] theorem finishSwitch_stepId (w : Switchover) (s : State) : stepId (finishSwitch w s) = stepId s :=
  stepId_of_ex (Keeps.ex ((finishSwitch_keeps (m := 978927) (s0 := s) w s (by decide)).mpr (Keeps.refl _ _)) (by decide))

@[simp] theorem switchPort_stepId (p : Nat) (laser : Nat) (s : State) : stepId (switchPort p laser s) = stepId s :=
  stepId_of_ex (Keeps.ex ((switchPort_keeps (m := 978927) (s0 := s) p laser s (by decide)).mpr (Keeps.refl _ _)) (by decide))

@[simp] theorem endSlotLane_stepId (p : Nat) (c : Nat) (back : Bool) (farOff : Bool) (s : State) : stepId (endSlotLane p c back farOff s) = stepId s :=
  stepId_of_ex (Keeps.ex ((endSlotLane_keeps (m := 970733) (s0 := s) p c back farOff s (by decide)).mpr (Keeps.refl _ _)) (by decide))

@[simp] theorem noSpareLeft_stepId (laser : Nat) (s : State) : stepId (noSpareLeft laser s) = stepId s :=
  stepId_of_ex (Keeps.ex ((noSpareLeft_keeps (m := 978927) (s0 := s) laser s (by decide)).mpr (Keeps.refl _ _)) (by decide))

@[simp] theorem dropGroup_stepId (laser : Nat) (s : State) : stepId (dropGroup laser s) = stepId s :=
  stepId_of_ex (Keeps.ex ((dropGroup_keeps (m := 970733) (s0 := s) laser s (by decide)).mpr (Keeps.refl _ _)) (by decide))

@[simp] theorem needSpare_stepId (laser : Nat) (sudden : Bool) (s : State) : stepId (needSpare laser sudden s) = stepId s :=
  stepId_of_ex (Keeps.ex ((needSpare_keeps (m := 970733) (s0 := s) laser sudden s (by decide)).mpr (Keeps.refl _ _)) (by decide))

@[simp] theorem judgePower_stepId (laser : Nat) (reading : Nat) (readings : List Nat) (s : State) : stepId (judgePower laser reading readings s) = stepId s :=
  stepId_of_ex (Keeps.ex ((judgePower_keeps (m := 970733) (s0 := s) laser reading readings s (by decide)).mpr (Keeps.refl _ _)) (by decide))

@[simp] theorem portOut_stepId (s : State) (p : Nat) : stepId (portOut s p) = stepId s :=
  stepId_of_ex (Keeps.ex ((portOut_keeps (m := 1036285) (s0 := s) s p (by decide)).mpr (Keeps.refl _ _)) (by decide))

@[simp] theorem lanesOut_stepId (s : State) : stepId (lanesOut s) = stepId s :=
  stepId_of_ex (Keeps.ex ((lanesOut_keeps (m := 1036285) (s0 := s) s (by decide)).mpr (Keeps.refl _ _)) (by decide))

@[simp] theorem photonicsDoze_stepId (s : State) : stepId (photonicsDoze s) = stepId s :=
  stepId_of_ex (Keeps.ex ((photonicsDoze_keeps (m := 1044479) (s0 := s) s (by decide)).mpr (Keeps.refl _ _)) (by decide))

@[simp] theorem photonicsWake_stepId (s : State) : stepId (photonicsWake s) = stepId s :=
  stepId_of_ex (Keeps.ex ((photonicsWake_keeps (m := 1044479) (s0 := s) s (by decide)).mpr (Keeps.refl _ _)) (by decide))

@[simp] theorem photonicsDark_stepId (s : State) : stepId (photonicsDark s) = stepId s :=
  stepId_of_ex (Keeps.ex ((photonicsDark_keeps (m := 1036287) (s0 := s) s (by decide)).mpr (Keeps.refl _ _)) (by decide))

@[simp] theorem settleStacks_stepId (s : State) : stepId (settleStacks s) = stepId s :=
  stepId_of_ex (Keeps.ex ((settleStacks_keeps (m := 1048063) (s0 := s) s (by decide)).mpr (Keeps.refl _ _)) (by decide))

@[simp] theorem gateChange_stepId (before : State) (s : State) : stepId (gateChange before s) = stepId s :=
  stepId_of_ex (Keeps.ex ((gateChange_keeps (m := 1035773) (s0 := s) before s (by decide)).mpr (Keeps.refl _ _)) (by decide))

@[simp] theorem takeIncrement_stepId (sc : Score) (s : State) (m2 : TokenMsg) : stepId (takeIncrement sc s m2) = stepId s := by
  unfold takeIncrement; (repeat' split) <;> simp

@[simp] theorem markLate_stepId (s : State) : stepId (markLate s) = stepId s :=
  stepId_of_ex (Keeps.ex ((markLate_keeps (m := 1048559) (s0 := s) s (by decide)).mpr (Keeps.refl _ _)) (by decide))

@[simp] theorem measureStep_stepId (sc : Score) (s : State) : stepId (measureStep sc s) = stepId s :=
  stepId_of_ex (Keeps.ex ((measureStep_keeps (m := 983023) (s0 := s) sc s (by decide)).mpr (Keeps.refl _ _)) (by decide))

@[simp] theorem reportWatch_stepId (s : State) : stepId (reportWatch s) = stepId s :=
  stepId_of_ex (Keeps.ex ((reportWatch_keeps (m := 983023) (s0 := s) s (by decide)).mpr (Keeps.refl _ _)) (by decide))

@[simp] theorem returnCores_stepId (s : State) : stepId (returnCores s) = stepId s :=
  stepId_of_ex (Keeps.ex ((returnCores_keeps (m := 523903) (s0 := s) s (by decide)).mpr (Keeps.refl _ _)) (by decide))

@[simp] theorem askRepair_stepId (sc : Score) (t1 : Nat) (n : Nat) (stripe : Nat) (s : State) : stepId (askRepair sc t1 n stripe s) = stepId s :=
  stepId_of_ex (Keeps.ex ((askRepair_keeps (m := 1007599) (s0 := s) sc t1 n stripe s (by decide)).mpr (Keeps.refl _ _)) (by decide))

@[simp] theorem askGathered_stepId (x : CollCtx) (s : State) (p : Nat × Nat) : stepId (askGathered x s p) = stepId s :=
  stepId_of_ex (Keeps.ex ((askGathered_keeps (m := 1007599) (s0 := s) x s p (by decide)).mpr (Keeps.refl _ _)) (by decide))

@[simp] theorem beginRepairs_stepId (sc : Score) (s : State) : stepId (beginRepairs sc s) = stepId s :=
  stepId_of_ex (Keeps.ex ((beginRepairs_keeps (m := 1007599) (s0 := s) sc s (by decide)).mpr (Keeps.refl _ _)) (by decide))

@[simp] theorem endSession_stepId (n : Nat) (s : State) : stepId (endSession n s) = stepId s :=
  stepId_of_ex (Keeps.ex ((endSession_keeps (m := 851951) (s0 := s) n s (by decide)).mpr (Keeps.refl _ _)) (by decide))

@[simp] theorem destroyKeys_stepId (s : State) : stepId (destroyKeys s) = stepId s :=
  stepId_of_ex (Keeps.ex ((destroyKeys_keeps (m := 909307) (s0 := s) s (by decide)).mpr (Keeps.refl _ _)) (by decide))

@[simp] theorem forgetMemory_stepId (s : State) : stepId (forgetMemory s) = stepId s :=
  stepId_of_ex (Keeps.ex ((forgetMemory_keeps (m := 1048063) (s0 := s) s (by decide)).mpr (Keeps.refl _ _)) (by decide))

@[simp] theorem closeSoon_stepId (s : State) : stepId (closeSoon s) = stepId s :=
  stepId_of_ex (Keeps.ex ((closeSoon_keeps (m := 983039) (s0 := s) s (by decide)).mpr (Keeps.refl _ _)) (by decide))

@[simp] theorem holdNow_stepId (s : State) : stepId (holdNow s) = stepId s := by
  unfold holdNow; dsimp only; repeat' (first | rfl | (simp; done) | split | (apply stepId_foldl <;> intros))

@[simp] theorem releaseNow_stepId (s : State) : stepId (releaseNow s) = stepId s := by
  unfold releaseNow; (repeat' split) <;> simp

@[simp] theorem joinNow_stepId (s : State) : stepId (joinNow s) = stepId s :=
  stepId_of_ex (Keeps.ex ((joinNow_keeps (m := 851427) (s0 := s) s (by decide)).mpr (Keeps.refl _ _)) (by decide))

@[simp] theorem raiseMinimum_stepId (s : State) : stepId (raiseMinimum s) = stepId s :=
  stepId_of_ex (Keeps.ex ((raiseMinimum_keeps (m := 851951) (s0 := s) s (by decide)).mpr (Keeps.refl _ _)) (by decide))

@[simp] theorem joinCommand_stepId (src : Nat) (dst : Nat) (msg : Nat) (s : State) : stepId (joinCommand src dst msg s) = stepId s :=
  stepId_of_ex (Keeps.ex ((joinCommand_keeps (m := 851425) (s0 := s) src dst msg s (by decide)).mpr (Keeps.refl _ _)) (by decide))

@[simp] theorem copyConstants_stepId (sc : Score) (s : State) : stepId (copyConstants sc s) = stepId s :=
  stepId_of_ex (Keeps.ex ((copyConstants_keeps (m := 1048041) (s0 := s) sc s (by decide)).mpr (Keeps.refl _ _)) (by decide))

@[simp] theorem deriveParcelKey_stepId (point : Nat) (s : State) : stepId (deriveParcelKey point s) = stepId s :=
  stepId_of_ex (Keeps.ex ((deriveParcelKey_keeps (m := 1040383) (s0 := s) point s (by decide)).mpr (Keeps.refl _ _)) (by decide))

@[simp] theorem takeHops_stepId (m0 : FrameMark) (s : State) : stepId (takeHops m0 s) = stepId s :=
  stepId_of_ex (Keeps.ex ((takeHops_keeps (m := 1048559) (s0 := s) m0 s (by decide)).mpr (Keeps.refl _ _)) (by decide))

@[simp] theorem frameBoundary_stepId (s : State) : stepId (frameBoundary s) = stepId s :=
  stepId_of_ex (Keeps.ex ((frameBoundary_keeps (m := 720879) (s0 := s) s (by decide)).mpr (Keeps.refl _ _)) (by decide))

@[simp] theorem measureFrame_stepId (s : State) : stepId (measureFrame s) = stepId s :=
  stepId_of_ex (Keeps.ex ((measureFrame_keeps (m := 786431) (s0 := s) s (by decide)).mpr (Keeps.refl _ _)) (by decide))

@[simp] theorem stepTimeForward_stepId (node : Nat) (s : State) : stepId (stepTimeForward node s) = stepId s :=
  stepId_of_ex (Keeps.ex ((stepTimeForward_keeps (m := 786431) (s0 := s) node s (by decide)).mpr (Keeps.refl _ _)) (by decide))

@[simp] theorem report32_stepId (v : Int) (s : State) : stepId (report32 v s) = stepId s :=
  stepId_of_ex (Keeps.ex ((report32_keeps (m := 1048555) (s0 := s) v s (by decide)).mpr (Keeps.refl _ _)) (by decide))

@[simp] theorem trimToMarks_stepId (node : Nat) (s : State) : stepId (trimToMarks node s) = stepId s :=
  stepId_of_ex (Keeps.ex ((trimToMarks_keeps (m := 786411) (s0 := s) node s (by decide)).mpr (Keeps.refl _ _)) (by decide))

@[simp] theorem readMark_stepId (m0 : FrameMark) (s : State) : stepId (readMark m0 s) = stepId s :=
  stepId_of_ex (Keeps.ex ((readMark_keeps (m := 983023) (s0 := s) m0 s (by decide)).mpr (Keeps.refl _ _)) (by decide))

@[simp] theorem dropPart_stepId (src : Nat) (sess : Nat) (msg : Nat) (s : State) : stepId (dropPart src sess msg s) = stepId s :=
  stepId_of_ex (Keeps.ex ((dropPart_keeps (m := 983039) (s0 := s) src sess msg s (by decide)).mpr (Keeps.refl _ _)) (by decide))

@[simp] theorem putPart_stepId (p : PartMsg) (s : State) : stepId (putPart p s) = stepId s :=
  stepId_of_ex (Keeps.ex ((putPart_keeps (m := 983039) (s0 := s) p s (by decide)).mpr (Keeps.refl _ _)) (by decide))

@[simp] theorem putInbox_stepId (p : PartMsg) (s : State) : stepId (putInbox p s) = stepId s :=
  stepId_of_ex (Keeps.ex ((putInbox_keeps (m := 983039) (s0 := s) p s (by decide)).mpr (Keeps.refl _ _)) (by decide))

@[simp] theorem takeMsg_stepId (typ : Nat) (sess : Nat) (s : State) : stepId (takeMsg typ sess s) = stepId s :=
  stepId_of_ex (Keeps.ex ((takeMsg_keeps (m := 983039) (s0 := s) typ sess s (by decide)).mpr (Keeps.refl _ _)) (by decide))

@[simp] theorem protocolError_stepId (q : Req) (head : Bytes) (write : Bool) (code : Nat) (s : State) : stepId (protocolError q head write code s) = stepId s :=
  stepId_of_ex (Keeps.ex ((protocolError_keeps (m := 851949) (s0 := s) q head write code s (by decide)).mpr (Keeps.refl _ _)) (by decide))

@[simp] theorem messageDone_stepId (p : PartMsg) (s : State) : stepId (messageDone p s) = stepId s :=
  stepId_of_ex (Keeps.ex ((messageDone_keeps (m := 851949) (s0 := s) p s (by decide)).mpr (Keeps.refl _ _)) (by decide))

@[simp] theorem takeSlot_stepId (x : Slot) (s : State) : stepId (takeSlot x s) = stepId s :=
  stepId_of_ex (Keeps.ex ((takeSlot_keeps (m := 851949) (s0 := s) x s (by decide)).mpr (Keeps.refl _ _)) (by decide))

@[simp] theorem slotLeft_stepId (m0 : OutMsg) (last : Bool) (s : State) : stepId (slotLeft m0 last s) = stepId s :=
  stepId_of_ex (Keeps.ex ((slotLeft_keeps (m := 917503) (s0 := s) m0 last s (by decide)).mpr (Keeps.refl _ _)) (by decide))

@[simp] theorem fillSlot_stepId (x : Slot) (s : State) : stepId (fillSlot x s) = stepId s :=
  stepId_of_ex (Keeps.ex ((fillSlot_keeps (m := 851965) (s0 := s) x s (by decide)).mpr (Keeps.refl _ _)) (by decide))

@[simp] theorem sendEvent_stepId (e : Event) (s : State) : stepId (sendEvent e s) = stepId s :=
  stepId_of_ex (Keeps.ex ((sendEvent_keeps (m := 983037) (s0 := s) e s (by decide)).mpr (Keeps.refl _ _)) (by decide))

@[simp] theorem sendFirst_stepId (s : State) : stepId (sendFirst s) = stepId s :=
  stepId_of_ex (Keeps.ex ((sendFirst_keeps (m := 983037) (s0 := s) s (by decide)).mpr (Keeps.refl _ _)) (by decide))

@[simp] theorem sendLost_stepId (k : Nat) (n : Nat) (s : State) : stepId (sendLost k n s) = stepId s :=
  stepId_of_ex (Keeps.ex ((sendLost_keeps (m := 983021) (s0 := s) k n s (by decide)).mpr (Keeps.refl _ _)) (by decide))

@[simp] theorem withChan_stepId (c : Nat) (x : BulkChan) (s : State) : stepId (withChan c x s) = stepId s :=
  stepId_of_ex (Keeps.ex ((withChan_keeps (m := 983039) (s0 := s) c x s (by decide)).mpr (Keeps.refl _ _)) (by decide))

@[simp] theorem sendChanBlock_stepId (c : Nat) (x : BulkChan) (k : Nat) (s : State) : stepId (sendChanBlock c x k s) = stepId s :=
  stepId_of_ex (Keeps.ex ((sendChanBlock_keeps (m := 982505) (s0 := s) c x k s (by decide)).mpr (Keeps.refl _ _)) (by decide))

@[simp] theorem pumpChan_stepId (c : Nat) (a1 : Nat) (a2 : State) : stepId (pumpChan c a1 a2) = stepId a2 :=
  stepId_of_ex (Keeps.ex ((pumpChan_keeps (m := 982505) (s0 := a2) c a1 a2 (by decide)).mpr (Keeps.refl _ _)) (by decide))

@[simp] theorem pumpChans_stepId (s : State) : stepId (pumpChans s) = stepId s :=
  stepId_of_ex (Keeps.ex ((pumpChans_keeps (m := 982505) (s0 := s) s (by decide)).mpr (Keeps.refl _ _)) (by decide))

@[simp] theorem noteStaged_stepId (x : BulkChan) (s : State) : stepId (noteStaged x s) = stepId s :=
  stepId_of_ex (Keeps.ex ((noteStaged_keeps (m := 1048559) (s0 := s) x s (by decide)).mpr (Keeps.refl _ _)) (by decide))

@[simp] theorem bulkReceived_stepId (b : Block) (s : State) : stepId (bulkReceived b s) = stepId s :=
  stepId_of_ex (Keeps.ex ((bulkReceived_keeps (m := 983037) (s0 := s) b s (by decide)).mpr (Keeps.refl _ _)) (by decide))

@[simp] theorem chanResend_stepId (c : Nat) (k : Nat) (s : State) : stepId (chanResend c k s) = stepId s :=
  stepId_of_ex (Keeps.ex ((chanResend_keeps (m := 982505) (s0 := s) c k s (by decide)).mpr (Keeps.refl _ _)) (by decide))

@[simp] theorem dropTransfer_stepId (t0 : Transfer) (s : State) : stepId (dropTransfer t0 s) = stepId s :=
  stepId_of_ex (Keeps.ex ((dropTransfer_keeps (m := 983039) (s0 := s) t0 s (by decide)).mpr (Keeps.refl _ _)) (by decide))

@[simp] theorem putTransfer_stepId (t0 : Transfer) (s : State) : stepId (putTransfer t0 s) = stepId s :=
  stepId_of_ex (Keeps.ex ((putTransfer_keeps (m := 983039) (s0 := s) t0 s (by decide)).mpr (Keeps.refl _ _)) (by decide))

@[simp] theorem pumpTransfer_stepId (sess : Nat) (msg : Nat) (a2 : Nat) (a3 : State) : stepId (pumpTransfer sess msg a2 a3) = stepId a3 :=
  stepId_of_ex (Keeps.ex ((pumpTransfer_keeps (m := 983037) (s0 := a3) sess msg a2 a3 (by decide)).mpr (Keeps.refl _ _)) (by decide))

@[simp] theorem transferResend_stepId (t0 : Transfer) (k : Nat) (s : State) : stepId (transferResend t0 k s) = stepId s :=
  stepId_of_ex (Keeps.ex ((transferResend_keeps (m := 851965) (s0 := s) t0 k s (by decide)).mpr (Keeps.refl _ _)) (by decide))

@[simp] theorem blockAcked_stepId (a : BlockAck) (s : State) : stepId (blockAcked a s) = stepId s :=
  stepId_of_ex (Keeps.ex ((blockAcked_keeps (m := 851433) (s0 := s) a s (by decide)).mpr (Keeps.refl _ _)) (by decide))

@[simp] theorem countRelief_stepId (half : Nat) (s : State) : stepId (countRelief half s) = stepId s :=
  stepId_of_ex (Keeps.ex ((countRelief_keeps (m := 851951) (s0 := s) half s (by decide)).mpr (Keeps.refl _ _)) (by decide))

@[simp] theorem rebind_stepId (half : Nat) (ps : List (Nat × Nat)) (s : State) : stepId (rebind half ps s) = stepId s :=
  stepId_of_ex (Keeps.ex ((rebind_keeps (m := 524031) (s0 := s) half ps s (by decide)).mpr (Keeps.refl _ _)) (by decide))

@[simp] theorem retireCore_stepId (half : Nat) (core : Nat) (s : State) : stepId (retireCore half core s) = stepId s := by
  unfold retireCore; (repeat' split) <;> simp

@[simp] theorem failCore_stepId (half : Nat) (core : Nat) (s : State) : stepId (failCore half core s) = stepId s := by
  unfold failCore; (repeat' split) <;> simp

@[simp] theorem beginTest_stepId (half : Nat) (core : Nat) (relief : Option Nat) (s : State) : stepId (beginTest half core relief s) = stepId s :=
  stepId_of_ex (Keeps.ex ((beginTest_keeps (m := 524159) (s0 := s) half core relief s (by decide)).mpr (Keeps.refl _ _)) (by decide))

@[simp] theorem relieve_stepId (half : Nat) (core : Nat) (r : Nat) (s : State) : stepId (relieve half core r s) = stepId s :=
  stepId_of_ex (Keeps.ex ((relieve_keeps (m := 524159) (s0 := s) half core r s (by decide)).mpr (Keeps.refl _ _)) (by decide))

@[simp] theorem forgetHalf_stepId (half : Nat) (s : State) : stepId (forgetHalf half s) = stepId s :=
  stepId_of_ex (Keeps.ex ((forgetHalf_keeps (m := 1048443) (s0 := s) half s (by decide)).mpr (Keeps.refl _ _)) (by decide))

@[simp] theorem forgetShared_stepId (die : Nat) (s : State) : stepId (forgetShared die s) = stepId s :=
  stepId_of_ex (Keeps.ex ((forgetShared_keeps (m := 1048063) (s0 := s) die s (by decide)).mpr (Keeps.refl _ _)) (by decide))

@[simp] theorem forgetCache_stepId (q : Nat) (s : State) : stepId (forgetCache q s) = stepId s :=
  stepId_of_ex (Keeps.ex ((forgetCache_keeps (m := 1048063) (s0 := s) q s (by decide)).mpr (Keeps.refl _ _)) (by decide))

@[simp] theorem forgetStack_stepId (k : Nat) (s : State) : stepId (forgetStack k s) = stepId s :=
  stepId_of_ex (Keeps.ex ((forgetStack_keeps (m := 1048063) (s0 := s) k s (by decide)).mpr (Keeps.refl _ _)) (by decide))

@[simp] theorem forgetTarget_stepId (kind : Nat) (target : Nat) (s : State) : stepId (forgetTarget kind target s) = stepId s :=
  stepId_of_ex (Keeps.ex ((forgetTarget_keeps (m := 1047931) (s0 := s) kind target s (by decide)).mpr (Keeps.refl _ _)) (by decide))

@[simp] theorem selfTest_stepId (kind : Nat) (q : Req) (target : Nat) (reserved : Nat) (s : State) : stepId (selfTest kind q target reserved s) = stepId s :=
  stepId_of_ex (Keeps.ex ((selfTest_keeps (m := 327661) (s0 := s) kind q target reserved s (by decide)).mpr (Keeps.refl _ _)) (by decide))

@[simp] theorem endSelfTest_stepId (code : Nat) (s : State) : stepId (endSelfTest code s) = stepId s :=
  stepId_of_ex (Keeps.ex ((endSelfTest_keeps (m := 523627) (s0 := s) code s (by decide)).mpr (Keeps.refl _ _)) (by decide))

@[simp] theorem failSite_stepId (half : Nat) (s : State) (site : Nat) : stepId (failSite half s site) = stepId s := by
  unfold failSite; (repeat' split) <;> simp

@[simp] theorem forgetDies_stepId (sel : BitVec 40) (s : State) : stepId (forgetDies sel s) = stepId s :=
  stepId_of_ex (Keeps.ex ((forgetDies_keeps (m := 1047931) (s0 := s) sel s (by decide)).mpr (Keeps.refl _ _)) (by decide))

@[simp] theorem loadInstr_stepId (ir : BitVec 8) (intrusive : Bool) (s : State) : stepId (loadInstr ir intrusive s) = stepId s :=
  stepId_of_ex (Keeps.ex ((loadInstr_keeps (m := 523643) (s0 := s) ir intrusive s (by decide)).mpr (Keeps.refl _ _)) (by decide))

@[simp] theorem stopArea1_stepId (s : State) : stepId (stopArea1 s) = stepId s :=
  stepId_of_ex (Keeps.ex ((stopArea1_keeps (m := 1048047) (s0 := s) s (by decide)).mpr (Keeps.refl _ _)) (by decide))

@[simp] theorem failFinish_stepId (n : Nat) (code : Nat) (s : State) : stepId (failFinish n code s) = stepId s :=
  stepId_of_ex (Keeps.ex ((failFinish_keeps (m := 851949) (s0 := s) n code s (by decide)).mpr (Keeps.refl _ _)) (by decide))

@[simp] theorem establish_stepId (m0 : FinishMsg) (s : State) : stepId (establish m0 s) = stepId s :=
  stepId_of_ex (Keeps.ex ((establish_keeps (m := 64873) (s0 := s) m0 s (by decide)).mpr (Keeps.refl _ _)) (by decide))

@[simp] theorem eraseRange_stepId (a : Nat) (n : Nat) (s : State) : stepId (eraseRange a n s) = stepId s :=
  stepId_of_ex (Keeps.ex ((eraseRange_keeps (m := 1048063) (s0 := s) a n s (by decide)).mpr (Keeps.refl _ _)) (by decide))

@[simp] theorem removeRegion_stepId (num : Nat) (s : State) : stepId (removeRegion num s) = stepId s :=
  stepId_of_ex (Keeps.ex ((removeRegion_keeps (m := 916991) (s0 := s) num s (by decide)).mpr (Keeps.refl _ _)) (by decide))

@[simp] theorem installRegion_stepId (num : Nat) (base : Nat) (length : Nat) (key : BitVec 512) (s : State) : stepId (installRegion num base length key s) = stepId s :=
  stepId_of_ex (Keeps.ex ((installRegion_keeps (m := 916991) (s0 := s) num base length key s (by decide)).mpr (Keeps.refl _ _)) (by decide))

@[simp] theorem failUpdate_stepId (code : Nat) (s : State) : stepId (failUpdate code s) = stepId s :=
  stepId_of_ex (Keeps.ex ((failUpdate_keeps (m := 851949) (s0 := s) code s (by decide)).mpr (Keeps.refl _ _)) (by decide))

@[simp] theorem replaceImage_stepId (p : PendWrite) (img : FwImage) (s : State) : stepId (replaceImage p img s) = stepId s :=
  stepId_of_ex (Keeps.ex ((replaceImage_keeps (m := 851949) (s0 := s) p img s (by decide)).mpr (Keeps.refl _ _)) (by decide))

@[simp] theorem stowNow_stepId (s : State) : stepId (stowNow s) = stepId s :=
  stepId_of_ex (Keeps.ex ((stowNow_keeps (m := 248175) (s0 := s) s (by decide)).mpr (Keeps.refl _ _)) (by decide))

@[simp] theorem leaveStow_stepId (s : State) : stepId (leaveStow s) = stepId s :=
  stepId_of_ex (Keeps.ex ((leaveStow_keeps (m := 772479) (s0 := s) s (by decide)).mpr (Keeps.refl _ _)) (by decide))

@[simp] theorem settleOptics_stepId (s : State) : stepId (settleOptics s) = stepId s :=
  stepId_of_ex (Keeps.ex ((settleOptics_keeps (m := 1036285) (s0 := s) s (by decide)).mpr (Keeps.refl _ _)) (by decide))

@[simp] theorem powerDone_stepId (s : State) : stepId (powerDone s) = stepId s :=
  stepId_of_ex (Keeps.ex ((powerDone_keeps (m := 577517) (s0 := s) s (by decide)).mpr (Keeps.refl _ _)) (by decide))

@[simp] theorem requestPower_stepId (v : Nat) (s : State) : stepId (requestPower v s) = stepId s :=
  stepId_of_ex (Keeps.ex ((requestPower_keeps (m := 51309) (s0 := s) v s (by decide)).mpr (Keeps.refl _ _)) (by decide))

@[simp] theorem intoHush_stepId (s : State) : stepId (intoHush s) = stepId s :=
  stepId_of_ex (Keeps.ex ((intoHush_keeps (m := 773613) (s0 := s) s (by decide)).mpr (Keeps.refl _ _)) (by decide))

@[simp] theorem downTo_stepId (s : State) : stepId (downTo s) = stepId s :=
  stepId_of_ex (Keeps.ex ((downTo_keeps (m := 248173) (s0 := s) s (by decide)).mpr (Keeps.refl _ _)) (by decide))

@[simp] theorem upTo_stepId (s : State) : stepId (upTo s) = stepId s :=
  stepId_of_ex (Keeps.ex ((upTo_keeps (m := 773629) (s0 := s) s (by decide)).mpr (Keeps.refl _ _)) (by decide))

@[simp] theorem report_stepId (m0 : Limits) (s : State) : stepId (report m0 s) = stepId s :=
  stepId_of_ex (Keeps.ex ((report_keeps (m := 1048559) (s0 := s) m0 s (by decide)).mpr (Keeps.refl _ _)) (by decide))

@[simp] theorem releaseReset_stepId (x : Straps) (s : State) : stepId (releaseReset x s) = stepId s :=
  stepId_of_ex (Keeps.ex ((releaseReset_keeps (m := 786399) (s0 := s) x s (by decide)).mpr (Keeps.refl _ _)) (by decide))

@[simp] theorem reconfigured_stepId (s : State) : stepId (reconfigured s) = stepId s :=
  stepId_of_ex (Keeps.ex ((reconfigured_keeps (m := 774143) (s0 := s) s (by decide)).mpr (Keeps.refl _ _)) (by decide))

@[simp] theorem withHeld_stepId (l : List HeldCopy) (s : State) : stepId (withHeld l s) = stepId s :=
  stepId_of_ex (Keeps.ex ((withHeld_keeps (m := 1015807) (s0 := s) l s (by decide)).mpr (Keeps.refl _ _)) (by decide))

@[simp] theorem spoilCopy_stepId (m0 : RemoteMsg) (s : State) : stepId (spoilCopy m0 s) = stepId s :=
  stepId_of_ex (Keeps.ex ((spoilCopy_keeps (m := 1015791) (s0 := s) m0 s (by decide)).mpr (Keeps.refl _ _)) (by decide))

@[simp] theorem respondRemote_stepId (m0 : RemoteMsg) (block : Nat) (status : Nat) (data : Bytes) (s : State) : stepId (respondRemote m0 block status data s) = stepId s :=
  stepId_of_ex (Keeps.ex ((respondRemote_keeps (m := 1040367) (s0 := s) m0 block status data s (by decide)).mpr (Keeps.refl _ _)) (by decide))

@[simp] theorem answerRequest_stepId (m0 : RemoteMsg) (s : State) : stepId (answerRequest m0 s) = stepId s :=
  stepId_of_ex (Keeps.ex ((answerRequest_keeps (m := 1007083) (s0 := s) m0 s (by decide)).mpr (Keeps.refl _ _)) (by decide))

@[simp] theorem storeRemote_stepId (m0 : RemoteMsg) (s : State) : stepId (storeRemote m0 s) = stepId s :=
  stepId_of_ex (Keeps.ex ((storeRemote_keeps (m := 1015791) (s0 := s) m0 s (by decide)).mpr (Keeps.refl _ _)) (by decide))

@[simp] theorem restoreFailed_stepId (p : Pull) (s : State) : stepId (restoreFailed p s) = stepId s :=
  stepId_of_ex (Keeps.ex ((restoreFailed_keeps (m := 950255) (s0 := s) p s (by decide)).mpr (Keeps.refl _ _)) (by decide))

@[simp] theorem regather_stepId (s : State) (x : CollCtx) : stepId (regather s x) = stepId s := by
  unfold regather; (repeat' split) <;> simp

@[simp] theorem finishRepair_stepId (sc : Score) (p : Pull) (s : State) : stepId (finishRepair sc p s) = stepId s :=
  stepId_of_ex (Keeps.ex ((finishRepair_keeps (m := 1015273) (s0 := s) sc p s (by decide)).mpr (Keeps.refl _ _)) (by decide))

@[simp] theorem askRange_stepId (m0 : RemoteMsg) (s : State) : stepId (askRange m0 s) = stepId s :=
  stepId_of_ex (Keeps.ex ((askRange_keeps (m := 1040367) (s0 := s) m0 s (by decide)).mpr (Keeps.refl _ _)) (by decide))

@[simp] theorem takeRange_stepId (m0 : RemoteMsg) (sc : Score) (s : State) : stepId (takeRange m0 sc s) = stepId s := by
  unfold takeRange; (repeat' split) <;> simp

@[simp] theorem readAny_stepId (q : Req) (hi : Nat) (idx : Nat) (sub : Nat) (len : Nat) (s : State) : stepId (readAny q hi idx sub len s) = stepId s :=
  stepId_of_ex (Keeps.ex ((readAny_keeps (m := 851949) (s0 := s) q hi idx sub len s (by decide)).mpr (Keeps.refl _ _)) (by decide))

@[simp] theorem beginBlockRead_stepId (q : Req) (idx : Nat) (sub : Nat) (s : State) : stepId (beginBlockRead q idx sub s) = stepId s :=
  stepId_of_ex (Keeps.ex ((beginBlockRead_keeps (m := 851965) (s0 := s) q idx sub s (by decide)).mpr (Keeps.refl _ _)) (by decide))

@[simp] theorem beginBlockWrite_stepId (q : Req) (idx : Nat) (sub : Nat) (len : Nat) (s : State) : stepId (beginBlockWrite q idx sub len s) = stepId s :=
  stepId_of_ex (Keeps.ex ((beginBlockWrite_keeps (m := 851949) (s0 := s) q idx sub len s (by decide)).mpr (Keeps.refl _ _)) (by decide))

@[simp] theorem blockWriteAny_stepId (q : Req) (idx : Nat) (sub : Nat) (len : Nat) (s : State) : stepId (blockWriteAny q idx sub len s) = stepId s :=
  stepId_of_ex (Keeps.ex ((blockWriteAny_keeps (m := 851949) (s0 := s) q idx sub len s (by decide)).mpr (Keeps.refl _ _)) (by decide))

@[simp] theorem leaveProgress_stepId (q : Req) (s : State) : stepId (leaveProgress q s) = stepId s :=
  stepId_of_ex (Keeps.ex ((leaveProgress_keeps (m := 917503) (s0 := s) q s (by decide)).mpr (Keeps.refl _ _)) (by decide))

@[simp] theorem asAccepted_stepId (t0 : Transfer) (s : State) : stepId (asAccepted t0 s) = stepId s :=
  stepId_of_ex (Keeps.ex ((asAccepted_keeps (m := 1040367) (s0 := s) t0 s (by decide)).mpr (Keeps.refl _ _)) (by decide))

@[simp] theorem failBlockWrite_stepId (t0 : Transfer) (s : State) : stepId (failBlockWrite t0 s) = stepId s :=
  stepId_of_ex (Keeps.ex ((failBlockWrite_keeps (m := 851949) (s0 := s) t0 s (by decide)).mpr (Keeps.refl _ _)) (by decide))

@[simp] theorem mapOut_stepId (peer : Nat) (num : Nat) (f : OutCtx → OutCtx) (s : State) : stepId (mapOut peer num f s) = stepId s :=
  stepId_of_ex (Keeps.ex ((mapOut_keeps (m := 1040383) (s0 := s) peer num f s (by decide)).mpr (Keeps.refl _ _)) (by decide))

@[simp] theorem mapIn_stepId (peer : Nat) (num : Nat) (f : List Lease → List Lease) (s : State) : stepId (mapIn peer num f s) = stepId s :=
  stepId_of_ex (Keeps.ex ((mapIn_keeps (m := 1040383) (s0 := s) peer num f s (by decide)).mpr (Keeps.refl _ _)) (by decide))

@[simp] theorem takeGrant_stepId (m0 : LeaseMsg) (s : State) : stepId (takeGrant m0 s) = stepId s :=
  stepId_of_ex (Keeps.ex ((takeGrant_keeps (m := 1040383) (s0 := s) m0 s (by decide)).mpr (Keeps.refl _ _)) (by decide))

@[simp] theorem takeRenewal_stepId (m0 : LeaseMsg) (s : State) : stepId (takeRenewal m0 s) = stepId s :=
  stepId_of_ex (Keeps.ex ((takeRenewal_keeps (m := 1040367) (s0 := s) m0 s (by decide)).mpr (Keeps.refl _ _)) (by decide))

@[simp] theorem takeRenewalAck_stepId (m0 : LeaseMsg) (s : State) : stepId (takeRenewalAck m0 s) = stepId s :=
  stepId_of_ex (Keeps.ex ((takeRenewalAck_keeps (m := 1040383) (s0 := s) m0 s (by decide)).mpr (Keeps.refl _ _)) (by decide))

@[simp] theorem takeReturn_stepId (m0 : LeaseMsg) (s : State) : stepId (takeReturn m0 s) = stepId s := by
  unfold takeReturn; (repeat' split) <;> simp

@[simp] theorem lateExpiry_stepId (x : LateLease) (s : State) : stepId (lateExpiry x s) = stepId s :=
  stepId_of_ex (Keeps.ex ((lateExpiry_keeps (m := 1040367) (s0 := s) x s (by decide)).mpr (Keeps.refl _ _)) (by decide))

@[simp] theorem reclaim_stepId (peer : Nat) (ctx : Nat) (s : State) : stepId (reclaim peer ctx s) = stepId s :=
  stepId_of_ex (Keeps.ex ((reclaim_keeps (m := 1040383) (s0 := s) peer ctx s (by decide)).mpr (Keeps.refl _ _)) (by decide))

@[simp] theorem takeToken_stepId (m0 : TokenMsg) (s : State) : stepId (takeToken m0 s) = stepId s := by
  unfold takeToken; try dsimp only
  repeat' (first | rfl | (simp; done) | split | (refine (onScore_stepId _ _ ?_).trans ?_; intros) | (refine (stepId_foldl _ ?_ _ _).trans ?_; intros) | simp)

@[simp] theorem returnDropped_stepId (x : Carried) (s : State) : stepId (returnDropped x s) = stepId s := by
  unfold returnDropped; (repeat' split) <;> simp

@[simp] theorem dropParcel_stepId (x : Carried) (key : Nat) (value : Nat) (s : State) : stepId (dropParcel x key value s) = stepId s := by
  unfold dropParcel; (repeat' split) <;> simp

@[simp] theorem noPlane_stepId (k : Nat) (t1 : Nat) (s : State) : stepId (noPlane k t1 s) = stepId s :=
  stepId_of_ex (Keeps.ex ((noPlane_keeps (m := 974831) (s0 := s) k t1 s (by decide)).mpr (Keeps.refl _ _)) (by decide))

@[simp] theorem bindParcel_stepId (x : Carried) (h1 : Hop) (lane : Nat × Nat) (s : State) : stepId (bindParcel x h1 lane s) = stepId s :=
  stepId_of_ex (Keeps.ex ((bindParcel_keeps (m := 1036269) (s0 := s) x h1 lane s (by decide)).mpr (Keeps.refl _ _)) (by decide))

@[simp] theorem withQueue_stepId (cls : Nat) (q : List Carried) (s : State) : stepId (withQueue cls q s) = stepId s :=
  stepId_of_ex (Keeps.ex ((withQueue_keeps (m := 1040383) (s0 := s) cls q s (by decide)).mpr (Keeps.refl _ _)) (by decide))

@[simp] theorem forwardOne_stepId (cls : Nat) (kept : List Carried) (heads : List (Option (Nat × Nat × Nat))) (l : List Carried) (s : State) : stepId (forwardOne cls kept heads l s) = stepId s := by
  induction l generalizing kept heads s with
  | nil => rfl
  | cons x rest ih =>
    unfold forwardOne
    extract_lets q route
    split
    · exact ih _ _ _
    · clear_value route
      cases route with
      | deliver => simp
      | discard k v => simp
      | hop h =>
        dsimp only
        split
        · rename_i t ht
          exact (stepId_of_ex ((tryHop_keeps _ _ _ _ ht).ex (by decide))).trans (by simp)
        · rw [ih]
          split <;> simp

@[simp] theorem badAddress_stepId (p : Nat) (c : Nat) (h2 : FlitHead) (s : State) : stepId (badAddress p c h2 s) = stepId s :=
  stepId_of_ex (Keeps.ex ((badAddress_keeps (m := 970733) (s0 := s) p c h2 s (by decide)).mpr (Keeps.refl _ _)) (by decide))

@[simp] theorem nakLane_stepId (p : Nat) (c : Nat) (s : State) : stepId (nakLane p c s) = stepId s :=
  stepId_of_ex (Keeps.ex ((nakLane_keeps (m := 1044461) (s0 := s) p c s (by decide)).mpr (Keeps.refl _ _)) (by decide))

@[simp] theorem takeFlitCredit_stepId (p : Nat) (c : Nat) (h2 : FlitHead) (s : State) : stepId (takeFlitCredit p c h2 s) = stepId s :=
  stepId_of_ex (Keeps.ex ((takeFlitCredit_keeps (m := 1036269) (s0 := s) p c h2 s (by decide)).mpr (Keeps.refl _ _)) (by decide))

@[simp] theorem takeFlitWord_stepId (h0 : FlitHead) (area : Bytes) (s : State) : stepId (takeFlitWord h0 area s) = stepId s := by
  unfold takeFlitWord; (repeat' split) <;> simp

@[simp] theorem acceptParcel_stepId (s : State) (x : Carried) : stepId (acceptParcel s x) = stepId s :=
  stepId_of_ex (Keeps.ex ((acceptParcel_keeps (m := 1036271) (s0 := s) s x (by decide)).mpr (Keeps.refl _ _)) (by decide))

@[simp] theorem takeParcels_stepId (p : Nat) (c : Nat) (h2 : FlitHead) (area : Bytes) (s : State) : stepId (takeParcels p c h2 area s) = stepId s :=
  stepId_of_ex (Keeps.ex ((takeParcels_keeps (m := 1036271) (s0 := s) p c h2 area s (by decide)).mpr (Keeps.refl _ _)) (by decide))

@[simp] theorem takeDataFlit_stepId (p : Nat) (c : Nat) (h2 : FlitHead) (area : Bytes) (s : State) : stepId (takeDataFlit p c h2 area s) = stepId s := by
  unfold takeDataFlit; dsimp only; (repeat' split) <;> simp [*]

@[simp] theorem resendFlits_stepId (p : Nat) (c : Nat) (s : State) : stepId (resendFlits p c s) = stepId s :=
  stepId_of_ex (Keeps.ex ((resendFlits_keeps (m := 970733) (s0 := s) p c s (by decide)).mpr (Keeps.refl _ _)) (by decide))

@[simp] theorem giveBack_stepId (c : Option InCtx) (p : Parcel) (s : State) : stepId (giveBack c p s) = stepId s :=
  stepId_of_ex (Keeps.ex ((giveBack_keeps (m := 1040367) (s0 := s) c p s (by decide)).mpr (Keeps.refl _ _)) (by decide))

@[simp] theorem takeControl_stepId (p : Parcel) (s : State) : stepId (takeControl p s) = stepId s := by
  unfold takeControl; (repeat' split) <;> simp

@[simp] theorem noContext_stepId (p : Parcel) (s : State) : stepId (noContext p s) = stepId s :=
  stepId_of_ex (Keeps.ex ((noContext_keeps (m := 1048559) (s0 := s) p s (by decide)).mpr (Keeps.refl _ _)) (by decide))

@[simp] theorem tick_stepId (s : State) : stepId (tick s) = stepId s := by
  unfold tick; dsimp only; (repeat' split) <;> simp [*]

end Sys2Proof.Machine
end

