-- ==== Sys2Proof/Tests/Slice0.lean ====
section
/-! SUPPORT. Tests: for each statement a concrete state and operands that meet its hypotheses; for each check of
WellFormed a term that it refuses. -/

namespace Sys2Proof.Tests

open Sys2Proof.Machine

set_option Elab.async false

/-! ## Small states -/

/-- A session of a role. -/
def member (r : Role) (key : W256) : Session := { state := .established, role := r, key := key }

/-- A module that is JOINED in Run, with its memory trained, every block enabled and one session of each role. -/
def joined : State :=
  { State.reset with
    dev := .joined
    regs := (List.range 24).map (fun b => (keyOf 0xA001 (b + 1), 7))
    ring := { bypassOpen := true }
    mem := { trained := true }
    sec := { sessions := [(1, member .operator 11), (2, member .tenant 22), (3, member .auditor 33)], fwRunning := true }
    pwr := { cur := .run, req := .run, time := 5000000000, symbolLock := true, settled := true, selfTestB0 := true,
             selfTestB2 := true, selfTested := true } }

/-- Requests of the sessions of `joined`. -/
def opReq : Req := ⟨1, 7⟩
def tenReq : Req := ⟨2, 7⟩

/-- `joined` with an object of the register file set. -/
def withObj (idx sub v : Nat) (s : State) : State := withRg idx sub v s

/-- The conditions of `Ready`, as a computation. -/
def isReady (q : Req) (r : Role) (s : State) : Bool :=
  !s.pwr.inReset && s.ring.bypassOpen && q.sess != 0 && (sessOf s q.sess).state == .established
    && (sessOf s q.sess).role == r && (sessOf s q.sess).responses.all (fun x => x.msg != q.msg)
    && !(sessOf s q.sess).inProgress.contains q.msg && decide ((sessOf s q.sess).inProgress.length < 16) && !s.sec.flashFull

theorem ready_of {q : Req} {r : Role} {s : State} (h : isReady q r s = true) : Ready q r s := by
  simp only [isReady, Bool.and_eq_true, Bool.not_eq_true', bne_iff_ne, beq_iff_eq, List.all_eq_true,
    decide_eq_true_eq, List.contains_eq_mem, decide_eq_false_iff_not] at h
  obtain ⟨⟨⟨⟨⟨⟨⟨⟨h1, h2⟩, h3⟩, h4⟩, h5⟩, h6⟩, h7⟩, h8⟩, h9⟩ := h
  exact ⟨h1, h2, h3, h4, h5, fun x hx => h6 x hx, h7, h8, h9⟩

/-- The conditions of `Writable`, as a computation. -/
def isWritable (r : Role) (idx sub : Nat) (v : Bytes) (s : State) : Bool :=
  objExists s idx sub true && (accessOf s idx sub r).writes && !gatedObj s idx sub
    && (accessOf s idx sub r != .rwj || s.dev == .joined) && lengthOk s idx sub v.length && inRange s idx sub v
    && !busyObj s idx sub

theorem writable_of {r : Role} {idx sub : Nat} {v : Bytes} {s : State} (h : isWritable r idx sub v s = true) :
    Writable r idx sub v s := by
  simp only [isWritable, Bool.and_eq_true, Bool.not_eq_true', Bool.or_eq_true, bne_iff_ne, beq_iff_eq] at h
  obtain ⟨⟨⟨⟨⟨⟨h1, h2⟩, h3⟩, h4⟩, h5⟩, h6⟩, h7⟩ := h
  exact ⟨h1, h2, h3, fun e => h4.resolve_left (fun n => n e), h5, h6, h7⟩

theorem test_run_ready : Ready opReq .operator joined ∧ Ready tenReq .tenant joined :=
  ⟨ready_of (by decide), ready_of (by decide)⟩

/-- `joined` in another device state. -/
def inState (d : DevState) : State := { joined with dev := d }

/-- `joined` as the only member of its job and of group 0. -/
def alone : State :=
  let s := withObj 0x6020 1 (2 ^ 27) joined
  { s with fab := { s.fab with members := [(0, 0x8000000001F00000)], groups := [(0, 0x8000000000010000)] } }

/-! ## A score in force -/

/-- The verdict collective of group 0. -/
def verdictDecl : CollDecl :=
  ⟨5, 0, 3, 2, 0, 0, false, 0, none, [], none, none, 1, [], none, 0⟩

/-- A crumb record of core 0 of half 0 with an opcode. -/
def crumbOf (op i : Nat) : Crumb :=
  { word := BitVec.ofNat 128 (op * 2 ^ 120), num := i, half := 0, core := 0, phase := 0, stealable := true
    padElidable := false, gated := false, cost := 1, inputs := [], outputs := [], credits := [], fill := none
    padSlot := 0, padTile := 0 }

/-- A score with the crumbs and the collectives before its verdict given. -/
def scoreOf (cs : List Crumb) (xs : List CollDecl) : Score :=
  { id := 5, bound := 1000, orderedBound := 1000, penalty := 0, orderedFlag := false, chunkCode := 0, slotCount := 1
    phases := 1, signer := 22, crumbs := cs, tokens := [⟨3, 4, 4, 0, 0⟩], pools := [⟨1, 8, 4, 0⟩], slots := [⟨0, 1024⟩]
    relief := [], descs := [], jobs := [], streams := [], colls := xs ++ [verdictDecl], buckets := [], consts := [] }

/-- `alone` in a device state with a score installed and step 6 next. -/
def loaded (d : DevState) (sc : Score) : State :=
  { alone with dev := d, ex := { score := some sc, nextStep := 6 } }

/-- The same in step 5. -/
def working (d : DevState) (sc : Score) (f : Step → Step) : State :=
  { alone with dev := d, ex := { score := some sc, nextStep := 6, force := { members := alone.fab.members, groups := alone.fab.groups }, step := f { running := true, num := 5, startTime := 4999990000 } } }

/-- A flat descriptor of memory: n elements of 2^e bytes. -/
def flat (a e n : Nat) : Desc :=
  { addr := a, space := 0, reserved := 0, esize := e, rank := 1, materialize := false, listMode := false, flagsHigh := 0
    listA := 0, listB := 0, listDesc := 0, pad := 0, limA := 0, limB := 0
    dims := ⟨n, 2 ^ e, 0, 0⟩ :: List.replicate 5 ⟨1, 0, 0, 0⟩ }

/-- A score with a region collective of four elements before its verdict. -/
def regionDecl : CollDecl := { verdictDecl with kind := 0, op := 0, alg := 1, format := 5, src := some 0, dst := some 1, count := 4 }
def regionScore : Score := { scoreOf [] [regionDecl] with descs := [flat 0 2 4, flat 4096 2 4] }

/-- A state with the two members 0 and 1 in its job and its group 0, the other one its partner. -/
def pairOf (s : State) : State :=
  let s := withObj 0x8020 1 1 (withObj 0x6020 1 (2 ^ 28) s)
  let ms := [(0, 0x8000000001F00000), (1, 0x8000000001F00001)]
  { s with fab := { s.fab with members := ms, groups := [(0, 0x8000000000020000)] }
           ex := { s.ex with force := { members := ms, groups := [(0, 0x8000000000020000)] } } }

/-- A lease of 100 granules, 40 of them spent, that expires after 5 s and 1 ns. -/
def lease40 : Lease :=
  { num := 255, granules := 100, spent := 40, term := 200, expiry := some 5000000001, renewNo := 65535
    sent := [(65535, 4999999000)], nextRenew := 5000000000 }

/-- `joined` with port 0 lit: its lanes from and to the peer 1, colours 1 and 15, in service, a context each way with a
lease, and a flit that the peer has not acknowledged. -/
def lit : State :=
  { joined with
    pho := { commissioning := 2
             tx := [(15, { state := .inService, next := 1, replay := [⟨0, 7, 3, 0, false, zeros 236, 0, false, []⟩]
                           credit := [(48, 2)], timer := 4999996000 })]
             rx := [(1, { state := .inService, expected := 4095, gen2 := false })] }
    fab := { out := [{ peer := 1, num := 5, cls := 3, stream := .coll 0, leases := [lease40] }]
             inn := [{ num := 5, peer := 1, cls := 3, stream := .coll 0, leases := [{ lease40 with spent := 0 }]
                       high := 3, seen := [0, 1, 2] },
                     { num := 6, peer := 1, cls := 1, stream := .control, high := 1, seen := [0] }] }
    ex := { score := some (scoreOf [] []), nextStep := 6, step := { running := true, num := 5, startTime := 4999990000 } } }

/-- A firmware image with an empty body, of the format of R441. -/
def fwImage : FwImage := ⟨0x57465A4B, 0x0100, 256, 2, 0, 0, Config.fusedFirmwareKey, true, 3629, 77⟩

/-- CRC-32C with its register in normal form after each byte, which the kernel evaluates. -/
def crcEager : Bytes → Nat → Nat
  | [], c => c
  | x :: t, 0 => crcEager t (crcByte 0 x).toNat
  | x :: t, c + 1 => crcEager t (crcByte (BitVec.ofNat 32 (c + 1)) x).toNat

theorem crcEager_eq (b : Bytes) (c : W32) : b.foldl crcByte c = BitVec.ofNat 32 (crcEager b c.toNat) := by
  induction b generalizing c with
  | nil => simp [crcEager]
  | cons x t ih =>
    rw [List.foldl_cons, ih]
    rcases h : c.toNat with _ | n
    · have : c = 0 := BitVec.eq_of_toNat_eq h
      rw [this]
      rfl
    · simp only [crcEager, ← h, BitVec.ofNat_toNat, BitVec.setWidth_eq]

theorem crc32c_eq (b : Bytes) : crc32c b = ~~~ BitVec.ofNat 32 (crcEager b 0xFFFFFFFF) := by
  unfold crc32c
  rw [crcEager_eq]
  rfl

theorem leBytes_length' (n v : Nat) : (leBytes n v).length = n := by
  induction n generalizing v with
  | zero => rfl
  | succ n ih => simp [leBytes, ih]

theorem fit_length' (n : Nat) (b : Bytes) : (fit n b).length = n := by
  simp only [fit, zeros, List.length_append, List.length_take, List.length_replicate]
  omega

/-! ## The queue, reset and the device state -/

theorem test_step_runs : ({ joined with pending := [.tapReset, .idcode] } : State).pending = .tapReset :: [.idcode] := rfl

/-- A module held in reset: its inputs good for 2 ms, and for one nanosecond less. -/
def heldFor (n : Nat) : State :=
  { State.reset with pwr := { inReset := true, goodSince := some 1, osc := n + 1 } }

theorem test_reset_hypotheses : joined.pwr.inReset = false ∧ inputsGood ⟨false, true, 3300⟩ = false ∧
    inputsGood ⟨true, true, 2999⟩ = false ∧ inputsGood ⟨true, true, 3000⟩ = true ∧ (heldFor 0).pwr.inReset = true ∧
    mayRelease (heldFor 2000000) = true ∧ mayRelease (heldFor 1999999) = false := by decide

theorem test_tick_hypotheses : joined.pending = [] ∧ joined.pwr.inReset = false ∧ joined.pwr.slew = 0 ∧
    (heldFor 0).pending = [] := by decide

/-- A module that has started up and waits to be joined. -/
def waiting : State := { joined with dev := .inert, ring := {}, sec := { joined.sec with sessions := [] } }

theorem test_join_hypotheses : mayJoin waiting 0 1 = true ∧ waiting.sec.flashFull = false ∧ mayJoin joined 0 1 = false ∧
    mayJoin waiting 0 2 = false := by decide

theorem test_leave_hypotheses : Ready opReq .operator joined ∧ Writable .operator 0x2000 1 (leBytes 1 2) joined ∧
    joined.dev ≠ .inert ∧ Ready opReq .operator (inState .faulted) ∧
    Writable .operator 0x2000 1 (leBytes 1 3) (inState .faulted) ∧ (inState .faulted).dev = .faulted :=
  ⟨ready_of (by decide), writable_of (by decide), by decide, ready_of (by decide), writable_of (by decide), rfl⟩

theorem jobWritable_of {v : Nat} {s : State} (h : isReady tenReq .tenant s = true)
    (hc : s.straps.compat = false) (hw : isWritable .tenant 0x2000 2 (leBytes 1 v) s = true) : jobWritable tenReq v s := by
  refine ⟨ready_of h, ?_⟩
  simp only [hc]
  exact writable_of hw

theorem test_job_hypotheses : jobWritable tenReq 2 (inState .prepared) ∧ jobWritable tenReq 3 (inState .running) ∧
    (inState .running).ex.holdPending = false ∧ jobWritable tenReq 5 (inState .prepared) ∧
    jobWritable tenReq 5 (inState .held) ∧ jobWritable tenReq 4 (inState .held) ∧
    recoveryAllows (inState .held) = true ∧ jobWritable tenReq 1 joined :=
  ⟨jobWritable_of (by decide) rfl (by decide), jobWritable_of (by decide) rfl (by decide), rfl,
    jobWritable_of (by decide) rfl (by decide), jobWritable_of (by decide) rfl (by decide),
    jobWritable_of (by decide) rfl (by decide), by decide, jobWritable_of (by decide) rfl (by decide)⟩

theorem test_job_rejected_hypotheses :
    ((inState .held).dev ∉ [DevState.joined, .prepared] ∧ jobWritable tenReq 1 (inState .held)) ∧
    (joined.dev ∉ [DevState.prepared, .running] ∧ jobWritable tenReq 2 joined) ∧
    (joined.dev ∉ [DevState.running, .held] ∧ jobWritable tenReq 3 joined) ∧
    (joined.dev ∉ [DevState.held, .running] ∧ recoveryAllows joined = true ∧ jobWritable tenReq 4 joined) ∧
    ((inState .faulted).dev ∉ [DevState.prepared, .held, .joined, .running] ∧ jobWritable tenReq 5 (inState .faulted)) :=
  ⟨⟨by decide, jobWritable_of (by decide) rfl (by decide)⟩, ⟨by decide, jobWritable_of (by decide) rfl (by decide)⟩,
    ⟨by decide, jobWritable_of (by decide) rfl (by decide)⟩, ⟨by decide, by decide, jobWritable_of (by decide) rfl (by decide)⟩,
    ⟨by decide, jobWritable_of (by decide) rfl (by decide)⟩⟩

/-! ## A score image -/

/-- A section table entry. -/
def sectionEntry (t o n : Nat) : Bytes := leBytes 2 t ++ zeros 6 ++ leBytes 8 o ++ leBytes 8 n

/-- A score image without crumbs, with one slot and the verdict collective, up to its signatures (R47, R48, R324). -/
def image : Bytes :=
  leBytes 4 0x43535A4B ++ leBytes 2 0x0300 ++ leBytes 2 256 ++ leBytes 8 4013 ++ leBytes 8 5
    ++ leBytes 8 1000000 ++ leBytes 8 1000000 ++ zeros 4 ++ zeros 2 ++ zeros 1 ++ leBytes 1 1 ++ leBytes 4 1
    ++ zeros 4 ++ zeros 4 ++ zeros 4 ++ zeros 4 ++ zeros 4 ++ leBytes 4 1 ++ leBytes 4 5
    ++ leBytes 32 22 ++ zeros 144
    ++ sectionEntry 1 384 0 ++ sectionEntry 2 384 0 ++ sectionEntry 7 384 8 ++ sectionEntry 5 448 160
    ++ sectionEntry 0xFF 640 3373
    ++ zeros 8 ++ leBytes 1 0 ++ zeros 3 ++ leBytes 4 1024 ++ zeros 56
    ++ leBytes 4 1 ++ zeros 60
    ++ [5, 0, 3, 2] ++ leBytes 2 0 ++ [0, 0] ++ leBytes 4 0xFFFFFFFF ++ leBytes 4 0xFFFFFFFF ++ leBytes 4 0xFFFFFFFF
    ++ leBytes 4 0xFFFFFFFF ++ leBytes 4 0xFFFFFFFF ++ leBytes 4 1 ++ zeros 40 ++ leBytes 4 0xFFFFFFFF ++ zeros 20

/-- The lines of a memory-side cache that hold bytes from a line's start on. -/
def linesOf (line : Nat) (b : Bytes) (n : Nat) : List (Nat × CacheLine) :=
  (List.range n).map (fun i => (line + i, { data := cellsFrom (256 * (line + i)) (slice b (256 * i) 256) }))

/-- `alone` with the image staged and its prepare pending. -/
def staged : State :=
  let s := withObj 0x2010 1 4013 alone
  let s := { s with mem := { s.mem with msc := linesOf (0x166C0000000 / 256) image 3 } }
  { s with sec := { s.sec with pend := [⟨.prepare, tenReq, s.regs, s.fab.members, s.fab.groups, []⟩] } }

/-- The pending prepare of `staged`. -/
def pendingPrepare : PendWrite := ⟨.prepare, tenReq, staged.regs, staged.fab.members, staged.fab.groups, []⟩

theorem test_prepare_hypotheses : pendOf staged .prepare = some pendingPrepare ∧ staged.pwr.inReset = false ∧
    staged.ring.bypassOpen = true ∧ staged.sec.flashFull = false := ⟨rfl, rfl, rfl, rfl⟩

theorem test_image_prepares : prepareCode pendingPrepare true (fresh staged) = 0 := by decide +kernel

theorem test_bad_signature_hypotheses : rgIn pendingPrepare.regs 0x2010 1 ≠ 0 ∧
    BitVec.ofNat 256 (readerAt staged (bufferIn pendingPrepare.regs 0).1 80 32) =
      (sessOf staged pendingPrepare.q.sess).key := by decide +kernel

/-! ## Every command, and memory -/

theorem test_canonical_hypotheses :
    let s : State := { joined with pending := [.tapReset, .idcode] }
    s.queueWf ∧ s.canonical ∧ ∃ t, step s = .next t := ⟨by decide, by decide, _, rfl⟩

theorem test_parts_hypotheses : (∃ t, exec .tapReset joined = .next t) ∧
    Instr.objects .tapReset = some [] := ⟨⟨_, rfl⟩, rfl⟩

/-- A packet of a compute die to memory: its type, address, partition and byte count. -/
def packetTo (t addr part count : Nat) : Packet :=
  ⟨t, 2, false, 0, 0, 4, 10, 3, 1, addr, BitVec.ofNat 31 (part * 2 ^ 27 + count * 2 ^ 18)⟩

/-- The conditions of `Taken`, as a computation. -/
def isTaken (p : Packet) (write : Bool) (s : State) : Bool :=
  decide (p.addr < memTop) && memServes s p.addr && packetOk p && requestSent s p write

theorem taken_of {p : Packet} {write : Bool} {s : State} (h : isTaken p write s = true) : Taken p write s := by
  simp only [isTaken, Bool.and_eq_true, decide_eq_true_eq] at h
  exact ⟨h.1.1.1, h.1.1.2, h.1.2, h.2⟩

/-- `joined` with line 0 held by another compute die's shared cache. -/
def heldElsewhere : State := installLine 0 6 joined

/-- A write of one byte at the end of tenant memory, and one of a whole line that another die holds. -/
theorem test_memory_write_hypotheses : joined.canonical ∧ heldElsewhere.canonical ∧
    isTaken (packetTo 3 (tenantTop - 1) 2 1) true joined = true ∧
    canServe joined (memReqOf (packetTo 3 (tenantTop - 1) 2 1)) true = true ∧
    attrCount (packetTo 3 (tenantTop - 1) 2 1) = 1 ∧ attrCount (packetTo 3 0 14 256) = 256 ∧
    otherHolders joined ((tenantTop - 1) / 256) 4 = [] ∧ isTaken (packetTo 3 0 14 256) true heldElsewhere = true ∧
    canServe heldElsewhere (memReqOf (packetTo 3 0 14 256)) true = true ∧ otherHolders heldElsewhere 0 4 = [6] := by
  decide +kernel

theorem test_memory_read_hypotheses : isTaken (packetTo 1 (tenantTop - 1) 2 1) false joined = true ∧
    canServe joined (memReqOf (packetTo 1 (tenantTop - 1) 2 1)) false = true := by decide +kernel

/-- `joined` with 64 write-combining entries of the controller of line 0, whose partition has no credit. -/
def fullBuffer : State :=
  { withObj 0x4002 4 0 joined with mem := { joined.mem with
      wc := (List.range 64).map (fun i =>
        { controller := controllerOf joined 0, line := 2 ^ 20 + i, data := [(256 * (2 ^ 20 + i), 1)], part := 3, first := 0
          retiring := false }) } }

/-- `joined` with a read that waits for partition 2. -/
def oneWaits : State :=
  { joined with mem := { joined.mem with waiting := [⟨memReqOf { packetTo 1 (tenantTop - 1) 2 1 with tag := 2 }, .clean, false, []⟩] } }

theorem test_memory_wait_hypotheses : isTaken (packetTo 3 1 3 1) true fullBuffer = true ∧
    canServe fullBuffer (memReqOf (packetTo 3 1 3 1)) true = false ∧
    isTaken (packetTo 1 (tenantTop - 1) 2 1) false oneWaits = true ∧
    canServe oneWaits (memReqOf (packetTo 1 (tenantTop - 1) 2 1)) false = false ∧
    memTop ≤ (packetTo 1 memTop 2 1).addr := by decide +kernel

/-- An entry of the write-combining buffer, one microsecond old, of a partition with credit or without. -/
def oldEntry (part : Nat) : WcEntry := ⟨controllerOf joined 0, 0, [(0, 7), (255, 9)], part, 4999999000, false⟩
def withEntry (part : Nat) : State :=
  { withObj 0x4002 4 0 joined with mem := { joined.mem with wc := [oldEntry part] } }

theorem test_retirement_hypotheses : (withEntry 15).mem.wf ∧ (withEntry 3).mem.wf ∧
    oldEntry 15 ∈ (withEntry 15).mem.wc ∧ oldEntry 3 ∈ (withEntry 3).mem.wc ∧
    (oldEntry 15).first + 1000 ≤ joined.pwr.time ∧ retireWaits (withEntry 15) (oldEntry 15) = false ∧
    regAllows (withEntry 15) (oldEntry 15).controller 15 (entryCost (oldEntry 15)) = true ∧
    regAllows (withEntry 3) (oldEntry 3).controller 3 (entryCost (oldEntry 3)) = false := by decide +kernel

/-! ## Steps -/

/-- The largest grant that still fits, the smallest that does not, and one in the wrong device state. -/
theorem test_grant_hypotheses :
    let s := withObj 0x2011 2 (2 ^ 32 - 65536) (inState .prepared)
    isReady tenReq .tenant s = true ∧ isWritable .tenant 0x2011 1 (leBytes 4 65535) s = true ∧
      rg s 0x2011 2 + 65535 < 2 ^ 32 ∧
      isWritable .tenant 0x2011 1 (leBytes 4 1) (withObj 0x2011 2 (2 ^ 32 - 1) (inState .held)) = true ∧
      isWritable .tenant 0x2011 1 (leBytes 4 1) joined = true := by decide

/-- A post for the next step and for the one after it. -/
def postFor (n : Nat) : Post := ⟨n, 0, 0, 1024, 0⟩

theorem test_post_hypotheses :
    let sc := scoreOf [] []
    (postFor 6).wf = true ∧ isReady tenReq .tenant (loaded .running sc) = true ∧
      isWritable .tenant 0x2020 1 (postBytes (postFor 6)) (loaded .running sc) = true ∧
      isWritable .tenant 0x2020 1 (postBytes (postFor 7)) (loaded .joined sc) = true ∧
      sc.slots.find? (fun y => y.num == (postFor 6).slot) = some ⟨0, 1024⟩ ∧ (postFor 7).step = (loaded .running sc).ex.nextStep + 1 := by
  decide

/-- A module that may start step 6. -/
def ready6 : State :=
  let s := withObj 0x2011 2 1 (loaded .running (scoreOf [] []))
  { s with ex := { s.ex with admitted := [⟨6, 0, 1024, 0⟩] } }

theorem test_start_hypotheses : mayStart (scoreOf [] []) ready6 = true ∧ ready6.ex.heldTokens = [] ∧
    rg (loaded .running (scoreOf [] [])) 0x2011 2 = 0 := by decide

theorem test_post_taken_hypotheses : isReady tenReq .tenant ready6 = true ∧ ready6.dev = .running ∧
    isWritable .tenant 0x2020 1 (postBytes (postFor 6)) ready6 = true ∧
    ready6.ex.admitted.any (fun a => a.step == (postFor 6).step && a.slot == (postFor 6).slot) = true := by decide

/-- A step whose verdict is applied and whose loss is reported. -/
def ended : State :=
  working .running (scoreOf [] []) (fun x => { x with phase := .applied, outcome := some .commit, lossSent := true, commit := some true })

theorem test_boundary_hypotheses : boundaryReached (scoreOf [] []) ended = true ∧ ended.pwr.inReset = false := by decide

/-- Four times 893 ns, the time of the bound of 1,000 beats, and one nanosecond less. -/
theorem test_stall_hypotheses :
    let at_ := fun t => working .running (scoreOf [] []) (fun x => { x with startTime := t })
    outcomeHeld (at_ 4999996428) = false ∧
      4 * stepTime (scoreOf [] []) (at_ 4999996428) ≤ measured (at_ 4999996428) ∧
      measured (at_ 4999996429) < 4 * stepTime (scoreOf [] []) (at_ 4999996429) := by decide

/-! ## Cores -/

/-- A crumb that waits for token 3, spends two granules of pool 1 and sends token 3. -/
def waitingCrumb : Crumb := { crumbOf 0 0 with inputs := [⟨3, 1⟩], credits := [(1, 2)], outputs := [⟨3, 1⟩] }

/-- Core 0 of half 0 with a list, and token 3 at a count. -/
def atCore (c : Crumb) (tok : Nat) : State :=
  let s := working .running (scoreOf [c] []) (fun x => { x with tokens := [(3, tok)] })
  { s with ex := { s.ex with seqs := [(0, { phase := 0, unfired := [0] })] } }

theorem test_fire_hypotheses :
    halfWorks (atCore waitingCrumb 1) 0 = true ∧
      headOf (scoreOf [waitingCrumb] []) (atCore waitingCrumb 1) 0 0 = some (0, waitingCrumb, {}) ∧
      crumbReady (scoreOf [waitingCrumb] []) (atCore waitingCrumb 1) waitingCrumb = true ∧
      elides (atCore waitingCrumb 1) waitingCrumb = false ∧
      canFire (scoreOf [waitingCrumb] []) (atCore waitingCrumb 1) (coreSiteKey (atCore waitingCrumb 1) 0 0) 0 0 waitingCrumb = true ∧
      crumbReady (scoreOf [waitingCrumb] []) (atCore waitingCrumb 0) waitingCrumb = false := by decide

/-- The crumb running on the sequencer of core 0; its write to memory not acknowledged yet. -/
def retiring : State := withSite 0 { sequencer := some ⟨0, 0, [], [], false⟩ } (atCore waitingCrumb 0)
def unacked : State :=
  let u := crumbUnit retiring (coreSiteKey retiring 0 0) waitingCrumb
  { retiring with mem := { retiring.mem with invWait := [⟨true, u.die, u.ep, u.unit, 2, 9, [5]⟩] } }

theorem test_retire_hypotheses : siteUnit (coreOf retiring 0 0) (unitNo 0) = some ⟨0, 0, [], [], false⟩ ∧
    (scoreOf [waitingCrumb] []).crumbs[0]? = some waitingCrumb ∧
    writesDone retiring (crumbUnit retiring (coreSiteKey retiring 0 0) waitingCrumb) = true ∧
    writesDone unacked (crumbUnit unacked (coreSiteKey unacked 0 0) waitingCrumb) = false := by decide

/-- A commit-gated head of a skipped step, and a pad-elidable head whose tile begins at the last valid token. -/
def gatedCrumb : Crumb := { crumbOf 0 0 with gated := true }
def paddedCrumb : Crumb := { crumbOf 0 0 with padElidable := true, padTile := 16 }

def skipped : State :=
  let s := atCore gatedCrumb 0
  { s with ex := { s.ex with step := { s.ex.step with commit := some false } } }

def padded : State :=
  let s := atCore paddedCrumb 0
  { s with ex := { s.ex with admitted := [⟨5, 0, 1024, 0⟩] } }

theorem test_unexecuted_hypotheses : skipped.canonical ∧ padded.canonical ∧
    headOf (scoreOf [gatedCrumb] []) skipped 0 0 = some (0, gatedCrumb, {}) ∧ skipped.ex.step.commit = some false ∧
      halfWorks skipped 0 = true ∧ inputsMet skipped gatedCrumb.inputs = true ∧
      headOf (scoreOf [paddedCrumb] []) padded 0 0 = some (0, paddedCrumb, {}) ∧ elides padded paddedCrumb = true ∧
      elides padded { paddedCrumb with padTile := 15 } = false := by decide

/-- Core 0 with two crumbs unfired, the fewest that a sibling may take from, the head waiting for token 3. -/
def twoCrumbs : Score := scoreOf [{ crumbOf 0 0 with inputs := [⟨3, 1⟩] }, crumbOf 0 1] []
def twoLeft : State :=
  { working .running twoCrumbs id with ex := { (working .running twoCrumbs id).ex with seqs := [(0, { phase := 0, unfired := [0, 1] })] } }

theorem test_steal_hypotheses : thiefClaim twoCrumbs twoLeft 0 1 = some (0, 1, crumbOf 0 1) ∧
    halfWorks twoLeft 0 = true ∧ ownerClaims twoCrumbs twoLeft 0 0 = false ∧
    servedThief twoCrumbs twoLeft 0 0 = some 1 ∧ thiefClaim twoCrumbs twoLeft 0 0 = none ∧
    thiefClaim twoCrumbs twoLeft 0 2 = some (0, 1, crumbOf 0 1) := by decide

/-- An increment that reaches the final count of 4, and one that passes it. -/
theorem test_token_hypotheses :
    (scoreOf [] []).tokens.find? (fun x => x.id == 3) = some ⟨3, 4, 4, 0, 0⟩ ∧
      tokenCount (atCore waitingCrumb 1) 3 + 3 = 4 ∧ 4 < tokenCount (atCore waitingCrumb 1) 3 + 4 ∧
      (atCore waitingCrumb 1).ex.step.running = true ∧ (atCore waitingCrumb 1).pwr.inReset = false := by decide

/-- A pool's granules spent, and all K1 credit of token 3's home in use by unit 5 with increments pending. -/
def creditsOut : State :=
  { working .running (scoreOf [] []) id with
    ex := { (working .running (scoreOf [] []) id).ex with
      spent := [(1, 2)], pendTokens := [((endKey 5 0, 3), 7)]
      creditUsed := [((endKey 5 0, endKey 4 0, 1), unitCredit)] } }

theorem test_credit_hypotheses : creditUsedAt creditsOut (endKey 5 0) (endKey 4 0) 1 = unitCredit ∧
    creditUsedAt creditsOut (endKey 5 0) (endKey 4 0) 1 - 1 < unitCredit ∧ creditsOut.ex.pendGrants = [] ∧
    creditsOut.pwr.inReset = false ∧ spentOf creditsOut 1 = 2 ∧
    (retiring.ex.pendTokens = [] ∧ retiring.ex.pendGrants = []) := by decide

theorem test_watch_hypotheses :
    (coreOf (withSite 0 { wide := some ⟨0, true, 3, 0x3F800000⟩ } retiring) 0 0).wide = some ⟨0, true, 3, 0x3F800000⟩ := by decide

/-! ## Engines, streams, host copies -/

/-- A score with one copy job of four elements and one stream of two segments to die 0. -/
def moving : Score :=
  { scoreOf [] [] with descs := [flat 0 2 4, flat 4096 2 4], jobs := [⟨0, 0, 0, 0, 1, some ⟨3, 1⟩, [⟨3, 1⟩], 1⟩]
                       streams := [⟨0, 0, 2, 1, 2, 0, some ⟨3, 1⟩, none, [⟨3, 1⟩], 1⟩] }

/-- Step 5 of it, with token 3 counted once. -/
def moves : State := working .running moving (fun x => { x with tokens := [(3, 1)] })

/-- The job and a segment of the stream running. -/
def moved : State :=
  { moves with ex := { moves.ex with engines := [(0, { doneJobs := 0, running := some 0 })]
                                     streams := [(0, { doneSegs := 1, running := true })] } }

/-- The stream of `moving`, and one that fills the memory-side cache. -/
def dieStream : StreamDecl := ⟨0, 0, 2, 1, 2, 0, some ⟨3, 1⟩, none, [⟨3, 1⟩], 1⟩
def cacheScore : Score := { moving with streams := [{ dieStream with target := 1 }] }
def cacheMoved : State := { moved with ex := { moved.ex with score := some cacheScore } }

theorem test_copy_hypotheses : moves.canonical ∧ stepWorks moves = true ∧ gated moves 20 = false ∧ moves.ring.clock = true ∧
    engineOf moves (engineKey 0 0) = {} ∧ (jobsOf moving 0 0)[0]? = moving.jobs.head? ∧
    inputsMet moves [⟨3, 1⟩] = true ∧ (scoreDesc moving 1).space = 0 ∧
    memoryOpen moves (engineUnit moves 0 0) (jobRanges moving moves (scoreDesc moving 0) (scoreDesc moving 1)) = true ∧
    (engineOf moved (engineKey 0 0)).running = some (engineOf moved (engineKey 0 0)).doneJobs ∧
    writesDone moved (engineUnit moved 0 0) = true := by decide +kernel

theorem test_stream_hypotheses : (streamOf moves 0).running = false ∧ gated moves (runnerOf dieStream) = false ∧
    moving.streams[0]? = some dieStream ∧ segmentReady moves dieStream 0 = true ∧
    segmentOpen moves dieStream (segmentLines moves moving dieStream 0) = true ∧ moved.canonical ∧
    (streamOf moved 0).running = true ∧ segmentLines moved moving dieStream 1 = [0] ∧ dieStream.target = 0 ∧
    dieStream.mask.testBit 0 = true ∧ cacheMoved.canonical ∧
    segmentLines cacheMoved cacheScore { dieStream with target := 1 } 1 = [0] := by decide +kernel

/-- A load of four elements that end at the end of buffer 0. -/
def loadCopy : HostCopy :=
  ⟨true, 0, 2 ^ 30 - 16, flat 8192 2 4, 8192, 16⟩

theorem test_host_copy_hypotheses :
    isReady tenReq .tenant (inState .prepared) = true ∧
      isWritable .tenant 0x4800 1 (hostValue loadCopy) (inState .prepared) = true ∧
      (∀ c ∈ (hostRule tenReq (hostValue loadCopy) (inState .prepared)).codes, c = 0) := by decide +kernel

/-- The load taken. -/
def loading : State :=
  { inState .held with
    mem := { joined.mem with hostCopy := some loadCopy }
    sec := { joined.sec with pend := [⟨.hostCopy, tenReq, joined.regs, [], [], []⟩] } }

theorem test_host_copy_end_hypotheses : loading.canonical ∧ loading.mem.hostCopy = some loadCopy ∧
    pendOf loading .hostCopy = some ⟨.hostCopy, tenReq, joined.regs, [], [], []⟩ ∧ enginesWork loading = true ∧
    loading.mem.trained = true ∧ loading.sec.flashFull = false ∧ loading.ring.bypassOpen = true := by decide

/-! ## The verdict, collectives, the praline lane -/

/-- `alone` in step 5 with its verdict point to come, and a hold-commit for this step. -/
def deciding : State := working .running (scoreOf [] []) id
def armed : State := withObj 0x8010 1 5 deciding

theorem test_verdict_point_hypotheses : stepWorks deciding = true ∧ preCommitDone (scoreOf [] []) deciding = true ∧
    bucketsVerified (scoreOf [] []) deciding = true ∧ deciding.ex.step.phase = .open ∧
    partnerAffine deciding.regs (ownAffine deciding) = none ∧ preCommitDone (scoreOf [] []) armed = true ∧
    rg armed 0x8010 1 = armed.ex.step.num ∧ rg deciding 0x8010 1 ≠ deciding.ex.step.num := by decide +kernel

/-- The pair after the verdict point, its own digest 77. -/
def paired : State :=
  let s := withObj 0x8020 3 77 (pairOf deciding)
  { s with ex := { s.ex with step := { s.ex.step with phase := .waitingPartner } } }

/-- The partner's digest. -/
def digestOf (r : Nat) (d : W32) : PairDigestMsg := ⟨1, r, 0, d, 0⟩

theorem test_pair_digest_hypotheses : tagMatches paired 1 = false ∧ tagMatches paired 0 = true ∧
    (partnerAffine paired.regs (ownAffine paired)).map (resolved paired) = some 1 ∧
    paired.ex.step.phase = .waitingPartner ∧ roundOf paired = 5 ∧ paired.ex.step.replays = 0 ∧ rg paired 0x8020 3 = 77 := by
  decide +kernel

/-- The same with hold and partner's word waiting, and a word that comes early. -/
theorem test_pair_early_hypotheses : ¬ (paired.ex.step.phase = .waitingPartner ∧
    (digestOf 6 77).round = roundOf paired ∧ (digestOf 6 77).replays = paired.ex.step.replays) := by decide

/-- The verdict reduction complete with a word. -/
def reduced (w : W64) : State :=
  let s := working .running (scoreOf [] []) (fun x => { x with phase := .reducing })
  { s with col := { praline := [{ coll := 0, group := 0, round := 5, seq := 0, op := 1, stage := 0, result := some w }] } }

theorem test_verdict_hypotheses (w : W64) : Reduced w (scoreOf [] []) (reduced w) :=
  ⟨rfl, rfl, rfl, rfl, rfl, rfl, rfl⟩

theorem test_outcome_hypotheses : decide150 (flagWord 5 15 0 false false) = .commit ∧
    decide150 (flagWord 5 15 0 false true) = .skip ∧ decide150 (forceVoid (flagWord 5 15 0 true false)) = .void ∧
    decide150 (flagWord 5 15 0 true false) = .replay := by decide

/-- A score with a loss collective before its verdict, and step 5 with the loss reduced. -/
def lossDecl : CollDecl := { verdictDecl with kind := 4, op := 0, src := some 0, dst := some 1 }
def lossScore : Score := { scoreOf [] [lossDecl] with descs := [flat 0 2 1, flat 4096 2 1] }

def lossReduced : State :=
  let s := working .running lossScore (fun x => { x with phase := .applied, outcome := some .commit })
  { s with col := { praline := [{ coll := 0, group := 0, round := 5, seq := 1, op := 0, stage := 0, result := some 0x40000000 }] } }

theorem test_loss_hypotheses : lossReduced.canonical ∧ lossScore.colls.findIdx? (fun c => c.kind == 4) = some 0 ∧
    pralResult lossReduced 0 = some 0x40000000 ∧ (collCtx lossScore lossReduced 0).isSome = true ∧ stepWorks lossReduced = true := by
  decide +kernel

/-- A step that secures: every update is secured, and the region collective is glazed. -/
def securing : State :=
  let s := working .running regionScore (fun x => { x with phase := .applied, outcome := some .commit, commit := some true, lossSent := true })
  withObj 0x8000 1 1 (withObj 0x8001 1 0 { s with col := { runs := [(0, { started := true, complete := true })] } })

theorem test_securing_hypotheses : securesNow securing = true ∧ stepWorks securing = true ∧
    (glazedOf regionScore securing.regs).map (fun g => g.2.1) = [0] ∧ collDone securing 0 = true ∧
    regionsOf securing.regs = [] ∧ 1 ≤ rg securing 0x8000 2 ∧ regionScore.crumbs = [] ∧ securing.ex.step.secured = false := by decide +kernel

/-- The region collective about to start, alone and between two members, and commit-gated on a skipped step. -/
def launching : State := working .running regionScore id
def gatedDecl : CollDecl := { regionDecl with gated := true }

def gatedScore : Score := { regionScore with colls := [gatedDecl, verdictDecl] }
def gatedSkip : State := working .running gatedScore (fun x => { x with commit := some false })

theorem test_launch_hypotheses : launching.canonical ∧ mayLaunch regionScore launching 0 regionDecl = true ∧
    ((collCtx regionScore launching 0).map (fun x => (x.c, x.sts, onPraline x.c))) = some (regionDecl, [], false) ∧
    gated launching 20 = false ∧ launching.ring.clock = true ∧ pralineTurn regionScore launching 0 regionDecl = true ∧
    (collCtx regionScore launching 0).all (fun x => collOpen launching x) = true ∧ launching.ex.ordered = false ∧
    launching.res.restore = none ∧ mayLaunch gatedScore gatedSkip 0 gatedDecl = true ∧
    (collCtx gatedScore gatedSkip 0).map (fun x => x.c) = some gatedDecl ∧ stepWorks gatedSkip = true := by decide +kernel

/-- A chunk of one of the collective's four elements, of the running step and of the next. -/
def chunk (round : Nat) : Chunk := ⟨1, 0, 0, 0, round, 0, [0, 0, 128, 63], crc32c [0, 0, 128, 63]⟩

/-- The collective started between two members. -/
def started : State := { pairOf launching with col := { runs := [(0, { started := true })] } }

theorem test_chunk_hypotheses : started.canonical ∧ (chunk 6).round = started.ex.nextStep % 64 ∧
    ((started.ex.step.running || started.res.restore.isSome) && (chunk 6).round == roundOf started) = false ∧
    ((started.ex.step.running || started.res.restore.isSome) && (chunk 5).round == roundOf started) = true ∧
    crcGood (chunk 5) = true ∧ (chunk 5).subtype ≠ 3 ∧
    (collCtx regionScore started 0).any (fun x => collOpen started x && chunkFits x started (chunk 5)
      && !(decide ((chunk 5).stage < 5) && inOrder started x) && !stageDone x (noteReceived 0 (chunk 5) started)
      && x.c.kind != 6) = true ∧
    (runOf started 0).started = true ∧ (runOf started 0).complete = false ∧ (runOf started 0).retired = false ∧
    (runOf started 0).stage = 0 := by decide +kernel

/-! ## The praline lane -/

/-- A reduction of the running step in flight between two members, its key 9. -/
def verdictRun : PralRun :=
  { coll := 0, group := 0, round := 5, seq := 0, op := 1, stage := 0, values := [(0, 8)], key := 9 }
def inFlight : State := { pairOf deciding with col := { praline := [verdictRun] } }

/-- The other member's word of a round, its value 16. -/
def wordOf (round : Nat) : PralFields := ⟨1, 0, 0, 0, round, 0, 0, 16⟩
def sealed (key : W256) (round : Nat) : Praline := ⟨1, sealPral key 1 (wordOf round), false⟩

/-- A word packed with whatever tag and value holds them. -/
theorem fields_pack (round tag : Nat) (v : W64) (hr : round < 64) (ht : tag < 2 ^ 23) :
    pralFields (pralPack ⟨1, 0, 0, 0, round, 0, tag, v⟩) = ⟨1, 0, 0, 0, round, 0, tag, v⟩ := by
  have hv := v.isLt
  have e : (pralPack ⟨1, 0, 0, 0, round, 0, tag, v⟩).toNat = 2 ^ 126 + round * 2 ^ 103 + tag * 2 ^ 64 + v.toNat := by
    simp only [pralPack, BitVec.toNat_ofNat]
    omega
  unfold pralFields
  rw [e]
  simp only [bits, PralFields.mk.injEq]
  refine ⟨by omega, by omega, by omega, by omega, by omega, by omega, by omega, ?_⟩
  apply BitVec.eq_of_toNat_eq
  rw [BitVec.toNat_ofNat]
  omega

theorem leNat_lt (b : Bytes) : leNat b < 256 ^ b.length := by
  induction b with
  | nil => decide
  | cons x t ih =>
    have := x.isLt
    simp only [leNat, List.length_cons, Nat.pow_succ]
    omega

theorem aesRounds_length (w : Bytes) (n r : Nat) (b : Bytes) : (aesRounds w n r b).length ≤ 16 := by
  induction n generalizing r b with
  | zero => simp [aesRounds, xorBytes, shiftRows]
  | succ n ih => exact ih _ _

/-- A tag has 23 bits. -/
theorem pralTag_lt (key : W256) (src : Nat) (f : PralFields) : pralTag key src f < 2 ^ 23 := by
  unfold pralTag aes256
  have h := aesRounds_length (expandKey 52 8 (keyBytes key)) 13 1
  refine Nat.div_lt_of_lt_mul (Nat.lt_of_lt_of_le (leNat_lt _) ?_)
  rw [List.length_reverse]
  exact Nat.le_trans (Nat.pow_le_pow_right (by decide) (h _)) (by decide)

/-- A word whose tag holds opens with its value in clear. -/
theorem openPral_eq {key : W256} {src : Nat} {w : W128} {g : PralFields} (h : pralFields w = g)
    (t : pralTag key src { g with tag := 0 } = g.tag) :
    openPral key src w = some { g with value := g.value ^^^ pralMask key src g } := by
  subst h
  exact if_pos t

/-- A word that this key has sealed opens with it. -/
theorem sealed_opens (key : W256) (round : Nat) (h : round < 64) : ∃ g, openPral key 1 (sealed key round).word = some g ∧
    g.op = 1 ∧ g.group = 0 ∧ g.seq = 0 ∧ g.stage = 0 ∧ g.round = round := by
  have e := fields_pack round (pralTag key 1 ⟨1, 0, 0, 0, round, 0, 0, 16 ^^^ pralMask key 1 (wordOf round)⟩)
    (16 ^^^ pralMask key 1 (wordOf round)) h (pralTag_lt ..)
  exact ⟨_, openPral_eq e rfl, rfl, rfl, rfl, rfl, rfl⟩

theorem test_praline_hypotheses : pralWorks inFlight = true ∧ pralOf inFlight 0 0 5 = some verdictRun ∧
    pralOf inFlight 0 0 6 = none ∧ (wordOf 6).round = inFlight.ex.nextStep % 64 ∧
    (pralPeers inFlight verdictRun 0).find? (fun p => resolved inFlight p.2 == 1) = some (1, 1) ∧
    verdictRun.words = [] ∧ inFlight.col.sends = [] ∧ (1, 1) ∈ pralPeers inFlight verdictRun 0 ∧
    (at_ 0 0 verdictRun.heardUs).testBit (digit (pralDim inFlight verdictRun 0) 1) = false := by decide +kernel

/-- A word whose tag fails. -/
theorem test_bad_word_hypotheses : (pralFields (pralPack (wordOf 5))).op = 1 ∧
    wordKey inFlight (pralFields (pralPack (wordOf 5))) = 9 ∧ openPral 9 1 (pralPack (wordOf 5)) = none := by decide +kernel

/-! ## Memory answers, HBM, generators -/

/-- A read and a write of the running step outstanding, and a write that waits for one invalidation. -/
def asked : State :=
  let s := working .running (scoreOf [] []) id
  { s with mem := { s.mem with outstanding := [⟨4, 10, 3, false, true, 0, 9⟩, ⟨4, 10, 3, true, true, 0, 1⟩]
                               answers := [⟨4, 10, 3, false, 1, 40⟩, ⟨4, 10, 3, true, 1, 40⟩, ⟨4, 10, 3, false, 1, 41⟩]
                               invWait := [⟨false, 5, 9, 8, 1, 0, [0]⟩] } }

theorem test_answer_hypotheses :
    asked.mem.outstanding.find? (fun x => x.die == 4 && x.ep == 10 && x.tag == 3 && !x.write) = some ⟨4, 10, 3, false, true, 0, 9⟩ ∧
      answerDue asked 4 10 3 false = some ⟨4, 10, 3, false, 1, 40⟩ ∧ asked.ex.step.running = true ∧
      asked.ex.step.phase = .open ∧ asked.mem.invWait = [⟨false, 5, 9, 8, 1, 0, [0]⟩] ∧
      (⟨false, 5, 9, 8, 1, 0, [0]⟩ : WaitingWrite).line = 255 / 256 ∧ answerDue asked 4 10 4 false = none := by decide

/-- The write's acknowledgement is the next of its stream once the read's response has been taken. -/
def askedWrite : State := { asked with mem := { asked.mem with answers := [⟨4, 10, 3, true, 1, 40⟩] } }

theorem test_acknowledgement_hypotheses : answerDue askedWrite 4 10 3 true = some ⟨4, 10, 3, true, 1, 40⟩ ∧
    answerDue asked 4 10 3 true = none := by decide

/-- Temperatures on both sides of the refresh thresholds. -/
def temps : List Nat := [0, 84, 85, 86, 93, 94, 95, 96, 105, 106, 0, 0, 0, 0, 0, 0, 0, 0, 0, 255]

/-- A state whose scrub interval has passed. -/
def scrubDue : State := { joined with pwr := { joined.pwr with time := 2 ^ 60 } }

theorem test_stack_hypotheses : joined.pwr.cur ≠ .stow ∧ joined.ring.clock = true ∧ temps.length = 20 ∧
    (stackOf joined 19).state ≠ 4 ∧ scrubDue.mem.trained = true ∧
    scrubDue.mem.scrubbed + scrubInterval scrubDue ≤ scrubDue.pwr.time ∧ rg joined 0x4020 1 + [(⟨19, 7, true⟩ : ScrubFinding), ⟨0, 8, false⟩].length < 2 ^ 64 ∧
    rg joined 0x4020 2 + [(⟨19, 7, true⟩ : ScrubFinding), ⟨0, 8, false⟩].length < 2 ^ 32 := by decide

/-- Every stack in training. -/
def training : State :=
  { joined with mem := { stackSt := (List.range 20).map (fun k => (k, { state := 1 })) } }

theorem test_training_hypotheses : (List.range 20).any (fun k => (stackOf training k).state == 1) = true ∧
    training.links.any (fun l => l.2.state == 1) = false ∧ (∀ k, k < 20 → (stackOf training k).state ≠ 5) ∧
    (∀ q, q < 4 → hbmPllGood training q = true) ∧ training.dev ≠ .faulted := by decide

/-- A pass over the last lines of every stack, and the same pass running. -/
def passOf : GenReq := ⟨0xFF, 0xFF, 3, 0, 0, 1, 1, 0, 9437183, 1⟩
def passing : State := { joined with mem := { joined.mem with gen := some ⟨0, passOf⟩ } }

def genWriting : State := { joined with mem := { joined.mem with gen := some ⟨1, { passOf with area := 0 }⟩ } }

theorem test_generator_hypotheses : isReady opReq .operator joined = true ∧ isReady opReq .operator passing = true ∧
    isWritable .operator 0x4010 1 (genBytes 0 passOf) joined = true ∧ isWritable .operator 0x4010 1 (genBytes 1 passOf) joined = true ∧
    isWritable .operator 0x4010 1 (genBytes 2 passOf) joined = true ∧ isWritable .operator 0x4010 1 (genBytes 3 passOf) passing = true ∧
    genFieldsOk passOf = true ∧ joined.mem.trained = true ∧ (passing.mem.gen.map (fun r => r.op)) = some 0 ∧
    (genWriting.mem.gen.map (fun r => (r.op, r.req.area))) = some (1, 0) ∧ joined.mem.gen = none ∧ passOf.reserved = 0 ∧ tenantHere { joined with sec := {} } = false := by
  decide

/-! ## Links and stack ports -/

/-- A link with one unit of each direction unacknowledged, sent again n times. -/
def linked (n st : Nat) : State :=
  { joined with links := [(6, { state := st, retrainAt := 4999988000
                                up := { next := 1, expected := 1, replay := [(0, n)], timer := 4999999000, credit := [(1, 1)] }
                                down := { next := 1, replay := [(0, n)], timer := 4999999001 } })] }

/-- A control word, and packets of 16 bytes: one that R28 accepts and one it does not. -/
def ctl (kind seq ack cls n : Nat) : W32 := BitVec.ofNat 32 (unitWord ⟨kind, seq, ack, cls, n, 0⟩)
def packetGood : Packet := ⟨5, 1, false, 19, 0, 4, 0, 0, 0, 0, 0⟩
def packetBad : Packet := { packetGood with ptype := 15 }

/-- Sequence numbers and counts at the end of their range; a unit to be sent again that was not taken. -/
def linkedEnd : State :=
  { joined with links := [(1, { state := 2, up := { next := 1023, expected := 1023, credit := [(1, 1)] }
                                down := { next := 1, replay := [(0, 1)], owed := [(4, 31)] } })] }
def linkedAgain : State :=
  { joined with links := [(1, { state := 2, up := { next := 0, expected := 1023, replay := [(1023, 1)] } })] }
def unitEnd : QlUnit := ⟨1, true, ctl 0 1023 0 4 31, []⟩

theorem test_unit_hypotheses : linkWorks linkedEnd 1 = true ∧ unitFormed unitEnd 0 (dirOf (linkOf linkedEnd 1) false) = true ∧
    (sendUnit unitEnd (packetBytes packetGood) (dirOf (linkOf linkedEnd 1) true) linkedEnd.pwr.time).any (fun d =>
      unitGood (arrived unitEnd (packetBytes packetGood)) d &&
      !unitGood (arrived { unitEnd with errs := [1023] } (packetBytes packetGood)) d && !d.nakSent) = true ∧
    (∀ p ∈ (unitPackets 0 (slice (arrived unitEnd (packetBytes packetGood)) 4 120)).1, packetOk p = true) := by
  simp only [unitGood, unitIntact, unitCrcGood, arrived, unitBytes, crc32c_eq]
  decide +kernel

theorem test_bad_packet_hypotheses : linkWorks linkedAgain 1 = true ∧
    unitFormed { unitEnd with control := ctl 0 1023 0 0 0 } 0 (dirOf (linkOf linkedAgain 1) false) = true ∧
    (sendUnit { unitEnd with control := ctl 0 1023 0 0 0 } (packetBytes packetBad) (dirOf (linkOf linkedAgain 1) true) 0).any (fun d =>
      unitGood (arrived { unitEnd with control := ctl 0 1023 0 0 0 } (packetBytes packetBad)) d) = true ∧
    (unitPackets 0 (slice (arrived { unitEnd with control := ctl 0 1023 0 0 0 } (packetBytes packetBad)) 4 120)).1 = [packetBad] ∧
    packetOk packetBad = false := by
  simp only [unitGood, unitIntact, unitCrcGood, arrived, unitBytes, crc32c_eq]
  decide +kernel

theorem test_idle_unit_hypotheses : bareUnit { unitEnd with control := ctl 1 1023 0 4 31 } 1 linkedEnd = true ∧
    unitGood (arrived { unitEnd with control := ctl 1 1023 0 4 31 } []) (dirOf (linkOf linkedEnd 1) true) = true ∧
    unitGood (arrived ⟨1, true, ctl 1 1023 0 4 31, [0]⟩ []) (dirOf (linkOf linkedEnd 1) true) = false ∧
    (dirOf (linkOf linkedEnd 1) true).nakSent = false := by
  simp only [unitGood, unitIntact, unitCrcGood, arrived, unitBytes, crc32c_eq]
  decide +kernel

/-- A NAK unit upward that acknowledges nothing. -/
def nakUnit : QlUnit := ⟨6, true, ctl 2 1 5 0 0, []⟩

theorem test_resend_hypotheses : bareUnit nakUnit 2 (linked 7 2) = true ∧
    unitGood (arrived nakUnit []) (dirOf (linkOf (linked 7 2) 6) true) = true ∧
    (ackedDir (unitFields (arrived nakUnit [])) 5000000000 (dirOf (linkOf (linked 7 2) 6) false)).replay = [(0, 7)] ∧
    linkWorks (linked 7 2) 6 = true ∧ (dirOf (linkOf (linked 7 2) 6) true).replay = [(0, 7)] ∧
    (dirOf (linkOf (linked 7 2) 6) true).timer + 1000 ≤ (linked 7 2).pwr.time ∧
    (linked 7 2).pwr.time < (dirOf (linkOf (linked 7 2) 6) false).timer + 1000 ∧
    (dirOf (linkOf (linked 8 2) 6) true).replay = [(0, 8)] ∧ (linkOf (linked 8 2) 6).recent = [] := by
  simp only [unitGood, unitIntact, unitCrcGood, arrived, unitBytes, crc32c_eq]
  decide +kernel

theorem test_link_training_hypotheses : trains 6 (linked 0 1) ∧ trains 6 (linked 0 3) ∧
    ratiosOk (trainedPll 6 (linked 0 3)) = true ∧ linkPllGood (trainedPll 6 (linked 0 3)) 6 = true ∧
    (linkOf (linked 0 3) 6).retrainAt + 12000 ≤ (linked 0 3).pwr.time ∧
    ({ linked 0 3 with pwr := { joined.pwr with time := 4999999999 } } : State).pwr.time < (linkOf (linked 0 3) 6).retrainAt + 12000 := by
  unfold trains
  decide +kernel

/-- A transfer with a packet and pad headers, one bit wrong in its first code word and one in its last; the same with
two bits wrong in the last; and a port that owes credit. -/
def transfer (errs : List Nat) : StackTransfer := ⟨packetBytes packetGood ++ zeros 240, errs, 4, 31⟩
def ported : State := withStackDir 11 7 true { owed := [(4, 31)], spent := [(4, 31)] } joined

theorem test_port_hypotheses : railsOn ported = true ∧ gated ported 11 = false ∧ ported.dev ≠ .faulted ∧
    (transfer []).data.length = 256 ∧
    canTransfer (stackDir ported 11 7 false) (stackDir ported 11 7 true) (transfer [0, 2191]) = true ∧
    (∀ k, k < 16 → wordErrs (transfer [0, 2191]) k ≤ 1) ∧ wordErrs (transfer [2055, 2191]) 15 = 2 ∧
    (∀ p ∈ (packetsIn 16 (stackDir ported 11 7 false).takeRest (transfer []).data).1, packetOk p = true) := by
  decide +kernel

/-! ## Leases, parcels and flits -/

/-- A lease message for the lease of `lit`. -/
def leaseMsg (count : Nat) : LeaseMsg := ⟨1, 5, 255, count, 200, 0⟩

theorem test_lease_hypotheses : routerWorks lit = true ∧ lit.fab.out.any (isOut lit 1 5) = true ∧
    tagMatches lit (leaseMsg 65535).scoreTag = true ∧ lit.fab.out.all (fun c => c.queue.isEmpty) = true ∧
    outLease lit 1 5 255 = some lease40 ∧ lease40.sent.find? (fun x => x.1 == 65535) = some (65535, 4999999000) ∧
    (inLease lit 1 5 255).any (fun l => !expired lit.pwr.time l) = true ∧ lit.col.runs = [] ∧
    tagMatches lit 1 = false := by decide

/-- `lit` at another time: the lease's renewal is due at 5 s, and it expires one nanosecond later. -/
def litAt (t : Nat) : State := { lit with pwr := { lit.pwr with time := t } }

theorem test_renewal_hypotheses : lease40.nextRenew ≤ lit.pwr.time ∧ (litAt 4999999999).pwr.time < lease40.nextRenew ∧
    expired lit.pwr.time lease40 = false ∧ expired (litAt 5000000001).pwr.time lease40 = true ∧
    (inLease (litAt 5000000001) 1 5 255).any (fun l => expired 5000000001 l) = true ∧
    outLease (litAt 4999999999) 1 5 255 = some lease40 := by decide

theorem test_expiry_hypotheses : (litAt 5000000001).pwr.inReset = false ∧ (litAt 5000000001).res.pulls = [] ∧
    (litAt 5000000001).res.repairs = [] ∧ isSilent (litAt 5000000001) 1 = false ∧
    outLease (litAt 5000000001) 1 5 255 = some lease40 ∧
    ((litAt 5000000001).fab.inn.find? (fun c => c.num == 5 && c.stream != .control
      && c.leases.any (fun l => l.num == 255 && expired 5000000001 l))).map (fun c => resolved lit c.peer) = some 1 := by decide

/-- The peer already silent, with a lease of a closed context that now expires too. -/
def lateState : State :=
  { litAt 5000000001 with fab := { lit.fab with out := [], silent := [1], late := [⟨1, 5, true, lease40⟩] } }

theorem test_late_hypotheses : outLease lateState 1 5 255 = none ∧
    lateState.fab.late.find? (fun x => x.peer == 1 && lateExpired lateState true 5 255 x) = some ⟨1, 5, true, lease40⟩ := by
  decide

theorem test_increment_hypotheses : (scoreOf [] []).tokens.find? (fun x => x.id == 3) = some ⟨3, 4, 4, 0, 0⟩ ∧
    lit.ex.step.running = true ∧ (⟨3, 4095, 5, 0⟩ : TokenMsg).round = roundOf lit ∧
    (⟨3, 1, 6, 0⟩ : TokenMsg).round = lit.ex.nextStep % 64 ∧ roundOf lit ≠ 6 := by decide

/-- A parcel with an empty payload, and `lit` with it waiting in the router, or arrived. -/
def parcelTo (dst ctx cls kind hops seq : Nat) : Parcel := ⟨dst, 1, ctx, cls, kind, hops, false, 0, 0, seq, 0, [], 0, 0⟩
def queued (p : Parcel) : State := { lit with fab := { lit.fab with fwd := [(p.cls, [{ parcel := p }])] } }
def arrivedAt (p : Parcel) : State := { lit with fab := { lit.fab with arrived := [{ parcel := p }] } }

theorem test_forward_hypotheses :
    let own := parcelTo 0 5 3 0 9 3
    let far := parcelTo 1 5 3 0 9 3
    let lost := parcelTo 1 5 1 0 10 3
    routeOf (queued own) own = .deliver ∧ routeOf (queued far) far = .hop ⟨0, 1, false, 0, false⟩ ∧
    (rotated (lookup (setDigit 0 1 (nodeAddr lit)) lit.fab.lastPlane) (planesTo (queued far) 0 1)).find?
      (laneReady (queued far) far ⟨0, 1, false, 0, false⟩) = some (0, 15) ∧
    routeOf (queued lost) lost = .discard 4097 1 := by decide

/-- No lane leads to the peer. -/
def cutOff (p : Parcel) : State := { queued p with pho := { lit.pho with tx := [] } }

theorem test_cut_off_hypotheses : routeOf (cutOff (parcelTo 1 5 3 0 9 3)) (parcelTo 1 5 3 0 9 3) = .hop ⟨0, 1, false, 0, false⟩ ∧
    planesTo (cutOff (parcelTo 1 5 3 0 9 3)) 0 1 = [] := by decide

/-- A parcel sealed with the key of `lit`; new, seen before, of no context. -/
def sealedTo (ctx cls kind seq : Nat) : Parcel := sealParcel 0 (parcelTo 0 ctx cls kind 1 seq)

/-- What a key seals opens with it; with another tag it does not. -/
theorem sealed_parcel_opens (key : W256) (p : Parcel) : (openParcel key (sealParcel key p)).isSome = true := by
  simp [openParcel, sealParcel, gcmOpen, gcmSeal, show ∀ b t, parcelNonce { p with payload := b, tag := t } = parcelNonce p from fun _ _ => rfl,
    show ∀ b t, parcelAad { p with payload := b, tag := t } = parcelAad p from fun _ _ => rfl]

theorem spoiled_parcel_stays_closed (key : W256) (p : Parcel) :
    openParcel key { sealParcel key p with tag := (sealParcel key p).tag + 1 } = none := by
  have h : ∀ x : W128, ¬ x = x + 1 := by intro x; bv_omega
  simp [openParcel, sealParcel, gcmOpen, gcmSeal, h, show ∀ b t, parcelNonce { p with payload := b, tag := t } = parcelNonce p from fun _ _ => rfl,
    show ∀ b t, parcelAad { p with payload := b, tag := t } = parcelAad p from fun _ _ => rfl]

theorem test_delivery_hypotheses :
    (contextOf (arrivedAt (parcelTo 0 5 3 0 1 2)) (parcelTo 0 5 3 0 1 2)).map (fun c => (seeSequence c 2).1) = some true ∧
    contextOf (arrivedAt (parcelTo 0 7 3 0 1 2)) (parcelTo 0 7 3 0 1 2) = none ∧
    (∀ k ∈ [4, 5, 6, 7, 8, 9], (contextOf (arrivedAt (parcelTo 0 6 1 k 1 1)) (parcelTo 0 6 1 k 1 1)).map
      (fun c => (c.stream, (seeSequence c 1).1)) = some (.control, false)) ∧ (1, 7) ∉ lit.fab.reclaimed := by decide

/-- A flit from a module to the lane of colour 1 of port 0, with a slot area. -/
def flitOf (kind seq sender first : Nat) (area : Bytes) : Flit :=
  ⟨0, 1, flitBytes ⟨kind, false, false, sender, 0, seq, 4095, 3, 0, 3, 0, 1, first⟩ area, false⟩

/-- A flit with one whole parcel for this module. -/
def wholeFlit : Flit := flitOf 0 4095 1 0 (parcelBytes (parcelTo 0 5 3 0 9 3))

/-- A flit of a header and an area is good. -/
theorem flit_good (kind seq sender first : Nat) (area : Bytes) : flitGood (flitOf kind seq sender first area) = true := by
  have e : ∀ h : FlitHead, (headBytes h ++ fit 236 area).length = 252 := by
    intro h
    simp [headBytes, leBytes_length', fit_length']
  simp only [flitGood, flitOf, flitBytes, List.length_append, leBytes_length', Bool.and_eq_true, Bool.not_false, beq_iff_eq]
  refine ⟨⟨trivial, ?_⟩, ?_⟩
  · simpa using e _
  · rw [List.take_append_of_le_length (by rw [e]), List.take_of_length_le (by rw [e]), List.drop_append_of_le_length (by rw [e]),
      List.drop_of_length_le (by rw [e]), List.nil_append]

theorem test_flit_hypotheses : takesFlits lit 0 1 = true ∧
    addressOk lit 0 1 (flitHead wholeFlit.bytes) = true ∧ (flitHead wholeFlit.bytes).kind = 0 ∧
    (flitHead wholeFlit.bytes).seq = (rxOf lit 0 1).expected ∧ (flitHead wholeFlit.bytes).first = 0 ∧
    (joinStream (17, 3, 0, 1) none 48 (some 0) (areaOf wholeFlit)).1.map (fun x => x.parcel) = [parcelTo 0 5 3 0 9 3] ∧
    (∀ k, k < 4 → (flitHead (flitOf k 4094 1 255 []).bytes).kind = k ∧
      (flitHead (flitOf k 4094 1 255 []).bytes).seq ≠ (rxOf lit 0 1).expected ∧
      addressOk lit 0 1 (flitHead (flitOf k 4094 1 255 []).bytes) = true ∧
      addressOk lit 0 1 (flitHead (flitOf k 4095 2 255 []).bytes) = false) ∧
    (rxOf lit 0 1).nakSent = false ∧ (rxOf lit 0 1).mismatch = none := by decide +kernel

/-- The lane of `lit` with its flit already sent again 8 times. -/
def litEight : State :=
  { lit with pho := { lit.pho with tx := lit.pho.tx.map (fun p =>
      (p.1, { p.2 with replay := p.2.replay.map (fun u => { u with resent := 8 }) })) } }

theorem test_flit_resend_hypotheses : partnerTx lit 0 1 = some 15 ∧
    (∀ k, k < 3 → inOrderBare lit 0 1 (flitHead (flitOf k 4095 1 255 []).bytes) = true) ∧
    ((ackedLane lit 0 15 (flitHead (flitOf 2 4095 1 255 []).bytes)).replay.map (fun u => u.resent)) = [7] ∧
    portLit lit 0 = true ∧ (txOf lit 0 15).state = .inService ∧ nothingWaits (txOf lit 0 15) ∧
    nothingWaits (ackedLane lit 0 15 (flitHead (flitOf 2 4095 1 255 []).bytes)) ∧
    (txOf lit 0 15).timer + 4000 ≤ lit.pwr.time ∧ (txOf lit 0 15).replay.map (fun u => u.resent) = [7] ∧
    (txOf litEight 0 15).replay.map (fun u => u.resent) = [8] ∧
    (litAt 4999999999).pwr.time < (txOf (litAt 4999999999) 0 15).timer + 4000 := by
  unfold nothingWaits
  decide +kernel

/-! ## Photonics -/

/-- `joined` with port 0 being lit: its receive lane 1 and ring in a state. -/
def lane (n : Nat) (st : LaneState) (mis : Option (Nat × Nat × Nat)) : State :=
  { joined with
    pho := { commissioning := 2, rx := [(1, { state := st, goodFrames := n, frame := 65535, lastGood := 4999993446, mismatch := mis })]
             tx := [(2, { state := .inService }), (15, { state := .searching })]
             ports := [(0, { state := 2 })]
             rings := [(ringKey true 0 15, { code := 65000, line := 15, locked := true, lineAt := 4999970000 })] } }

/-- A frame on that lane: its source, the colour and the count it names; and one with a wrong CRC. -/
def frameOf (source colour count : Nat) : LaneFrame :=
  let b := (leBytes 36 (0x5AE3C01D * 2 ^ 256 + source * 2 ^ 236 + colour * 2 ^ 227 + 2 ^ 226 + count * 2 ^ 206)).reverse
  ⟨0, 1, b ++ (leBytes 4 (crc32c b).toNat).reverse⟩
def frameBad : LaneFrame := ⟨0, 1, zeros 40⟩

theorem test_lane_listens : laneListens (lane 1 .out none) 0 1 ∧ laneListens (lane 0 .inService (some (1, 0, 2))) 0 1 := by
  unfold laneListens
  decide

theorem test_frame_hypotheses : plainFrame (frameOf 1 1 0) ∧ plainFrame (frameOf 1 2 0) ∧ plainFrame (frameOf 1 1 9) ∧
    fromPeer (lane 1 .out none) (frameOf 1 1 0) ∧ fromPeer (lane 1 .out none) (frameOf 1 2 0) ∧
    (frameFields (frameOf 1 1 0).bytes).colour = 1 ∧ (frameFields (frameOf 1 2 0).bytes).colour ≠ 1 ∧
    (frameFields (frameOf 1 1 0).bytes).count = ((rxOf (lane 1 .out none) 0 1).frame + 1) % 65536 ∧
    (frameFields (frameOf 1 1 9).bytes).count ≠ ((rxOf (lane 1 .out none) 0 1).frame + 1) % 65536 ∧
    frameGood frameBad.bytes = false := by
  simp only [plainFrame, fromPeer, frameGood, frameOf, crc32c_eq]
  decide +kernel

theorem test_lane_state_hypotheses : (rxOf (lane 1 .out none) 0 1).state ≠ .inService ∧ (rxOf (lane 1 .out none) 0 1).kept = false ∧
    (rxOf (lane 1 .out none) 0 1).mismatch = none ∧ (rxOf (lane 0 .out (some (1, 0, 2))) 0 1).mismatch = some (1, 0, 2) ∧
    (rxOf (lane 0 .inService none) 0 1).lastGood + lostAfter (rxOf (lane 0 .inService none) 0 1) ≤ (lane 0 .inService none).pwr.time ∧
    ({ lane 0 .inService none with pwr := { joined.pwr with time := 4999999999 } } : State).pwr.time <
      (rxOf (lane 0 .inService none) 0 1).lastGood + lostAfter (rxOf (lane 0 .inService none) 0 1) := by decide

/-- Rings that search: transmit lane 14 by distance, unlocked; the receive anchor, its sweep failed 100 ms ago. -/
def searching : State :=
  { lane 0 .out none with pho := { (lane 0 .out none).pho with
      rx := [(0, { state := .searching })], tx := [(14, { state := .searching }), (15, { state := .searching })]
      rings := [(ringKey true 0 14, { mode := .directed, rejected := [14] }), (ringKey true 0 15, { code := 65535 }),
                (ringKey false 0 0, { failedAt := some 4900000000 })] } }

theorem test_ring_hypotheses : ringsAwake (lane 0 .out none) ∧ (ringOf (lane 0 .out none) true 0 15).failed = false ∧
    (ringOf (lane 0 .out none) true 0 15).line ≠ 16 ∧
    (ringColour (lane 0 .out none) true 0 15).any (fun c => (txOf (lane 0 .out none) 0 c).state == .inService) = false ∧
    (txOf (lane 0 .out none) 0 15).state = .searching ∧ (laneRing (lane 0 .out none) true 0 15).locked = true ∧
    (laneRing (lane 0 .out none) true 0 15).lineAt + 30000 ≤ (lane 0 .out none).pwr.time ∧
    (laneRing (lane 0 .out none) true 0 15).mode = .sweep ∧ (laneRing searching true 0 14).locked = false ∧
    mayReach (laneRing searching true 0 14) 14 (15, 0) = true ∧ mayReach (laneRing searching true 0 15) 15 (0, 65535) = true ∧
    laneState searching true 0 14 = .searching ∧ (laneRing searching true 0 14).mode = .directed ∧
    (laneRing searching true 0 15).sweepsFailed = 0 ∧ portLit searching 0 = true ∧ (rxOf searching 0 0).state = .searching ∧
    (laneRing searching false 0 0).failedAt = some 4900000000 := by
  unfold ringsAwake
  decide

/-- A port whose transmit anchor is sought. -/
def anchoring : State :=
  { joined with pho := { commissioning := 1, ports := [(0, { state := 1 })], tx := [(0, { state := .searching })] } }

theorem test_anchor_hypotheses : portLit anchoring 0 = true ∧ (txOf anchoring 0 0).state = .searching ∧
    (laneRing anchoring true 0 0).locked = false ∧ (laneRing anchoring true 0 0).failedAt = none ∧
    mayReach (laneRing anchoring true 0 0) 0 (15, 65535) = true ∧ anchorSought anchoring 0 = true := by decide

/-- Port 0's slot of lane 2 begun. -/
def slotted : State :=
  { lane 0 .out none with pho := { (lane 0 .out none).pho with
      tx := [(2, { state := .calibrating })], ports := [(0, { state := 2, slot := some ⟨2, some 2, 5000000000, none⟩ })] } }

theorem test_slot_hypotheses : (lane 0 .out none).pwr.time / 1000000 % 17 = 2 ∧
    (lane 0 .out none).pwr.time % 1000000 = 125000 * (0 % 8) ∧ dueSwitch (lane 0 .out none) 0 = none ∧
    (txOf (lane 0 .out none) 0 2).state = .inService ∧ (lane 0 .out none).pwr.time % 1000000 ≠ 125000 * (1 % 8) ∧
    (portOf slotted 0).slot = some ⟨2, some 2, 5000000000, none⟩ ∧ portLit slotted 0 = true ∧
    (txOf slotted 0 2).state = .calibrating := by decide

/-- A lit laser whose last readings are given, and a switchover to a spare that is being tuned. -/
def lasing (st : Nat) (rs : List Nat) : State :=
  { lane 0 .out none with pho := { (lane 0 .out none).pho with
      lasers := [(127, { state := st, readings := rs, commissioned := 1000 })]
      spares := [(12, { state := 1 }), (15, { state := 2 })], switchovers := [⟨100, 12, false, [28]⟩] } }

theorem test_laser_hypotheses : laserJudged (lasing 1 []) 127 ∧ laserJudged (lasing 2 [871]) 127 ∧
    meanBelow [849] 850 = true ∧ meanBelow [849] 750 = false ∧ meanBelow [850] 850 = false ∧ meanAbove [870] 870 = false ∧
    meanAbove [871] 870 = true ∧ meanBelow [749] 750 = true ∧ switching (lasing 1 []) 127 = false ∧
    freeSpare (lasing 1 []) (127 / 32) = some 13 ∧ (spareLaserOf (lasing 1 []) (4 * 3 + 0)).state = 1 ∧
    (lasing 1 []).pho.switchovers = [⟨100, 12, false, [28]⟩] ∧ (spareLaserOf (lasing 1 []) 15).state = 2 ∧
    gated (lasing 1 []) (16 + 15 / 4) = false := by
  unfold laserJudged
  decide +kernel

theorem test_commissioning_hypotheses :
    let s : State := { joined with pho := { commissioning := 1, ports := [(0, { state := 1, stage := 2 }), (1, { state := 1, stage := 2 })]
                                            lasers := [(5, { state := 3 })], tx := [(16, { state := .dropped })] } }
    (List.replicate 128 65535).length = 128 ∧ (List.replicate 16 ([] : List Nat)).length = 16 ∧
    (∀ p, p < 32 → anchorSought s p = false) ∧ hasDropped s 0 = false ∧ hasDropped s 1 = true := by decide +kernel

/-! ## Settings and tables -/

/-- The conditions of SettingsAreTakenOrRejected on a command, as a computation. -/
def settingMeets (r : Role) (i : Instr) (s : State) : Bool :=
  match settingOf s i with
  | none => false
  | some (q, idx, sub, v, _) =>
    i.wf && isReady q r s && isWritable r idx sub v s && (ruleOf q idx sub v s).codes.all (fun c => c == 0)
      && (!(idx == 0x6000 || idx == 0x6001) || s.pho.commissioning == 0)

/-- `joined` without its tenant. -/
def untenanted : State := { joined with sec := { joined.sec with sessions := [(1, member .operator 11)] } }

theorem test_setting_hypotheses :
    settingMeets .operator (.transmitGenerationWrite opReq 32 1) joined = true ∧
      settingMeets .operator (.fabricConfigurationWrite opReq 0x6000 1 0xFFFFF) joined = true ∧
      settingMeets .operator (.fabricConfigurationWrite opReq 0x6001 32 0xE0000000) joined = true ∧
      settingMeets .tenant (.holdCommitArm tenReq 0) (inState .prepared) = true ∧
      settingMeets .tenant (.kz8StartScaleWrite tenReq 0x47000000) { joined with straps := ⟨true, 0, 0⟩ } = true ∧
      settingMeets .tenant (.partitionSettingWrite tenReq 63 1) joined = true ∧
      settingMeets .operator (.blockEnableWrite opReq 1 0) joined = true ∧
      settingMeets .operator (.pllSettingWrite opReq 2 (BitVec.ofNat 32 (rg joined 0xA020 2))) joined = true ∧
      settingMeets .operator (.timeReferenceWrite opReq 1) joined = true ∧
      settingMeets .operator (.testPortEnable opReq 1) untenanted = true ∧
      settingMeets .tenant (.expeditedWrite tenReq 0x8001 64 [255, 255]) joined = true ∧
      settingMeets .tenant (.segmentedWrite tenReq 0x8002 1 (zeros (sizeOf_ 0x8002 1))) joined = true ∧
      settingMeets .tenant (.dictionaryWrite tenReq 0x4003 1 (leBytes (sizeOf_ 0x4003 1) (rg joined 0x4003 1))) joined = true := by
  decide +kernel

/-- The engines commissioned; and a score in force with a kz8 site whose scale may be loaded. -/
def commissioned : State := { joined with pho := { commissioning := 2 } }

theorem test_special_setting_hypotheses :
    isWritable .operator 0x6000 2 (leBytes 1 5) joined = true ∧ joined.pho.commissioning = 0 ∧
      isReady opReq .operator commissioned = true ∧ isWritable .operator 0x6001 32 (leBytes 4 0xE0000000) commissioned = true ∧
      (portRule 32 (leBytes 4 0xE0000000) commissioned).codes.all (fun c => c == 0) = true ∧
      ratiosOk (pllTake [6, 7, 8, 9] commissioned) = true ∧ isWritable .tenant 0x4000 3 (leBytes 1 18) joined = true ∧
      isReady tenReq .tenant (inState .prepared) = true ∧ isWritable .tenant 0x3040 7 (leBytes 8 (15 * 2 ^ 32)) (inState .prepared) = true ∧
      (scaleLoadRule (leBytes 8 (15 * 2 ^ 32)) (inState .prepared)).codes.all (fun c => c == 0) = true := by decide +kernel

/-- Partition 1 of quadrant 0 raised above what partition 0 leaves. -/
def crowded : State := withObj 0x4002 1 (5401 * 2 ^ 19 + 1) joined

theorem test_rejected_setting_hypotheses : isReady tenReq .tenant crowded = true ∧
    isWritable .tenant 0x4002 2 (leBytes 4 (2 ^ 19 + 1)) crowded = true ∧ bits 17 16 (2 ^ 19 + 1) = 0 ∧
    5401 < rateSum crowded ((2 - 1) / 16) ((2 - 1) % 16) (2 ^ 19 + 1) := by decide +kernel

theorem test_table_hypotheses :
    isWritable .operator 0x6010 1 (entryBytes 0 0x8048000000000000) joined = true ∧
      exceptionOk joined 0 0x8048000000000000 = true ∧
      isWritable .tenant 0x6021 1 (entryBytes 4095 0) joined = true ∧
      (∀ c ∈ (overrideRule (entryBytes 4095 0) joined).codes, c = 0) ∧
      isWritable .tenant 0x7000 1 (entryBytes 65535 0x8000000001F00001) joined = true ∧
      (∀ c ∈ (memberRule (entryBytes 65535 0x8000000001F00001) joined).codes, c = 0) ∧
      isWritable .tenant 0x7001 1 (entryBytes 4095 0x8000000000010000) joined = true ∧
      (∀ c ∈ (groupRule (entryBytes 4095 0x8000000000010000) joined).codes, c = 0) := by decide +kernel

theorem test_recommission_hypotheses :
    let s : State := { joined with pho := { commissioning := 2, ports := [(29, { state := 4 })] } }
    isReady opReq .operator s = true ∧ isWritable .operator 0x5040 1 (leBytes 1 29) s = true ∧
      ratiosOk (pllTake [29 / 8 + 6] s) = true ∧ (assignment s 29).isSome = true ∧ ringless s true 29 0 = false := by decide +kernel

/-! ## Resilience -/

/-- An abandon taken 1 ms ago, and one nanosecond less. -/
def abandoning (t : Nat) : State :=
  let s := inState .held
  { s with res := { s.res with abandonAt := some t }, sec := { s.sec with pend := [⟨.abandon, tenReq, s.regs, [], [], []⟩] } }

theorem test_abandon_hypotheses :
    isReady tenReq .tenant (inState .running) = true ∧ isWritable .tenant 0x8003 1 (leBytes 1 1) (inState .running) = true ∧
      isWritable .tenant 0x8003 1 (leBytes 1 1) (inState .held) = true ∧
      (4999000000 : Nat) + 1000000 ≤ (abandoning 4999000000).pwr.time ∧ workRetired (abandoning 4999000000) = true ∧
      drained (abandoning 4999000000) = true ∧ (abandoning 4999000000).sec.flashFull = false ∧ (abandoning 4999000000).ring.bypassOpen = true ∧
      (pendOf (abandoning 4999000000) .abandon).isSome = true ∧ (abandoning 4999000001).pwr.time < (4999000001 : Nat) + 1000000 := by
  decide

/-- Two members with a glazed collective, before a restore and at its end. -/
def glazed : State :=
  withObj 0x8001 1 0 (pairOf (loaded .held regionScore))
def gathered : State :=
  { glazed with res := { restore := some 4, gathering := true }, col := { runs := [(0, { started := true, complete := true })] } }

theorem test_restore_hypotheses : isReady tenReq .tenant glazed = true ∧
    isWritable .tenant 0x8003 2 (leBytes 8 (2 ^ 64 - 1)) glazed = true ∧ isWritable .tenant 0x8003 2 (leBytes 8 0) glazed = true ∧
    glazed.res.restore = none ∧ (ownRank glazed).isSome = true ∧ (glazedOf regionScore glazed.regs).isEmpty = false ∧
    (glazedOf regionScore gathered.regs).all (fun g => (runOf gathered g.2.1).complete) = true ∧ gathered.dev ≠ .faulted := by
  decide +kernel

/-- A copy held for rank 1, and messages that name it. -/
def heldCopy (poisoned : Bool) : HeldCopy := ⟨true, 0, 1, 0, 0, 4, [(0, [1, 2, 3, 4])], true, poisoned⟩
def holding (poisoned : Bool) : State := { glazed with res := { held := [heldCopy poisoned] } }
def naming (good : Bool) : RemoteMsg := ⟨1, 3, 4, 1, 0, 0, 0, 0, 0, 0, 0, 0, [5, 6, 7, 8], good, false⟩

theorem test_holder_hypotheses : holderWorks (holding false) = true ∧ (naming true).subtype ≤ 3 ∧
    tagMatches (holding false) (naming true).scoreTag = true ∧ isNamed (naming true) (heldCopy false) = true ∧
    namedLength regionScore (holding false) (naming true) ≤ 4096 ∧
    (holding false).res.held.find? (isNamed (naming true)) = some (heldCopy false) ∧
    (holding true).res.held.find? (isNamed (naming true)) = some (heldCopy true) := by decide +kernel

/-- A stripe of the own share under repair. -/
def repair : Pull := ⟨3, 0, 0, 0, [], false⟩
def repairing : State := { glazed with res := { repairs := [repair] } }

theorem test_repair_hypotheses : repairing.canonical ∧
    (repairing.res.pulls ++ repairing.res.repairs).find? (answersPull regionScore repairing (naming true)) = some repair ∧
      responseStatus repairing (naming true) = 0 ∧ (takeBlock regionScore repairing (naming true) repair).arrived = true ∧
      (glazed.res.pulls ++ glazed.res.repairs).find? (answersPull regionScore glazed (naming true)) = none := by decide +kernel

/-- The largest state within the limits. -/
theorem test_scale_hypotheses :
    let v := leBytes 8 (rg joined 0x3040 4 + (rg joined 0x3040 5 - 1) * 2 ^ 24 + (rg joined 0x3040 2 - 1) * 2 ^ 32)
    isReady tenReq .tenant (inState .prepared) = true ∧ isWritable .tenant 0x3040 7 v (inState .prepared) = true ∧
      (∀ c ∈ (scaleLoadRule v (inState .prepared)).codes, c = 0) := by decide +kernel

/-! ## The control ring -/

/-- The tenant's session with one response kept and one request in progress, and with 16 in progress. -/
def withTenant (f : Session → Session) : State :=
  { joined with sec := { joined.sec with sessions := [(1, member .operator 11), (2, f (member .tenant 22))] } }
def busy : State := withTenant (fun x => { x with responses := [⟨9, 0, [1]⟩], inProgress := [8] })
def full : State := withTenant (fun x => { x with inProgress := List.range 16 })

theorem test_repeat_hypotheses : (Instr.run ⟨2, 9⟩).wf = true ∧ requestOf (.run ⟨2, 9⟩) = some ⟨2, 9⟩ ∧
    (sessOf busy 2).state = .established ∧ (sessOf busy 2).responses.find? (fun r => r.msg == 9) = some ⟨9, 0, [1]⟩ ∧
    (sessOf busy 2).responses.find? (fun r => r.msg == 8) = none ∧ 8 ∈ (sessOf busy 2).inProgress := by decide

theorem test_seventeenth_hypotheses : (sessOf full 2).inProgress.length = 16 ∧ 16 ∉ (sessOf full 2).inProgress ∧
    objExists full 0x1100 7 false = true ∧ (accessOf full 0x1100 7 (sessOf full 2).role).reads = true ∧
    (valueOf full 2 0x1100 7).length ≤ 8 := by decide +kernel

/-- A ring one frame away from its first frequency lock, and one locked. -/
def marked (good : Nat) (stepped : Bool) : State :=
  { joined with
    pwr := { joined.pwr with osc := 64000, goodFrames := good, lastFrameAt := some 63000, stepped := stepped }
    ring := { joined.ring with lastMark := some ⟨7, 5000000000, 3, 3, 0, 1, 3, List.replicate 33 3, 0⟩ } }
def markOf (time : Nat) : FrameMark := ⟨8, time, 3, 3, 0, 2 ^ 8 - 1, 3, List.replicate 33 3, 0⟩

theorem test_mark_hypotheses : hears (marked 63 false) = true ∧ (marked 63 false).ring.bypassOpen = true ∧
    (marked 63 false).ring.closeAtFrame = false ∧ (marked 63 false).pwr.refChange = none ∧
    (marked 63 false).pwr.lastFrameAt = some ((marked 63 false).pwr.osc - 1000) ∧ 1000 ≤ (marked 63 false).pwr.osc ∧
    rg (marked 64 true) 0xA010 2 = 0 ∧ (marked 64 true).pwr.refLost = false ∧ (marked 63 false).ring.lastMark.isSome = true ∧
    markCrc (markOf 0) + 1 ≠ markCrc (markOf 0) := by
  simp only [markCrc, crc32c_eq]
  decide +kernel

/-- A bypass about to close, an event still waiting for a slot. -/
def closing : State :=
  { joined with ring := { joined.ring with closeAtFrame := true, out := [{ typ := 3, sess := 2, msg := 1, rest := [1] }] } }

theorem test_closing_hypotheses : hears closing = true ∧ (∀ o ∈ closing.ring.out, o.typ ≠ 2) ∧ hears { joined with pwr := { joined.pwr with inReset := true } } = false := by decide

/-- A data slot with a good CRC. -/
def slotWith (typ dst src sess : Nat) (first last : Bool) (msg num : Nat) (data : Bytes) (own : Bool) : Slot :=
  let body := leBytes 7 (typ * 2 ^ 52 + dst * 2 ^ 46 + src * 2 ^ 40 + sess * 2 ^ 37 + first.toNat * 2 ^ 36 + last.toNat * 2 ^ 35
    + data.length * 2 ^ 28 + msg * 2 ^ 12 + num) ++ fit 88 data
  ⟨7, body ++ leBytes 4 (crc32c body).toNat, own⟩

/-- A message of two slots, the first received; its second slot, and one that comes too late. -/
def partMsg (typ sess : Nat) : PartMsg :=
  { src := 9, sess := sess, msg := 77, typ := typ, next := 1, lastTime := 4999900000, data := [2, 0, 1, 16, 1, 0, 0, 0, 4, 0, 0, 0, 0, 0, 0] }
def parted (typ sess : Nat) : State := { joined with ring := { joined.ring with parts := [partMsg typ sess] } }
def nextSlot (typ sess num : Nat) (last : Bool) : Slot := slotWith typ 1 9 sess false last 77 num [0] false

/-- Slots of `slotWith` have the fields that they were given. -/
theorem test_slot_fields : slotFields (slotWith 6 63 63 7 true true 65535 4095 (zeros 88) false) = ⟨6, 63, 63, 7, true, true, 65535, 4095, zeros 88⟩ ∧
    slotFields (nextSlot 1 0 1 true) = ⟨1, 1, 9, 0, false, true, 77, 1, [0]⟩ := by
  simp only [slotWith, nextSlot, crc32c_eq]
  decide +kernel

theorem slot_good (typ dst src sess : Nat) (first last : Bool) (msg num : Nat) (data : Bytes) (own : Bool) :
    slotGood (slotWith typ dst src sess first last msg num data own) = true := by
  have e : ∀ h, (leBytes 7 h ++ fit 88 data).length = 95 := by intro h; simp [leBytes_length', fit_length']
  have l : ∀ x : W32, leNat (leBytes 4 x.toNat) = x.toNat := by
    intro x
    have := x.isLt
    simp only [leBytes, leNat, BitVec.toNat_ofNat]
    omega
  simp only [slotGood, slotWith, beq_iff_eq]
  rw [List.take_append_of_le_length (by rw [e]), List.take_of_length_le (by rw [e]), List.drop_append_of_le_length (by rw [e]),
    List.drop_of_length_le (by rw [e]), List.nil_append, l]

theorem test_bad_slot : slotGood ⟨7, zeros 99, false⟩ = false := by
  simp only [slotGood, crc32c_eq]
  decide +kernel

theorem test_slot_message_hypotheses : hears (parted 1 0) = true ∧ position (parted 1 0) = 1 ∧
    partOf (parted 1 0) 9 0 77 = some (partMsg 1 0) ∧ (partMsg 1 0).next < 2 ∧
    openMessage (parted 1 0) { partMsg 1 0 with data := (partMsg 1 0).data ++ [0] } = some ((partMsg 1 0).data ++ [0]) ∧
    headCode ((partMsg 1 0).data ++ [0]) = 0 ∧ partOf (parted 4 7) 9 7 77 = some (partMsg 4 7) ∧
    openMessage (parted 4 7) { partMsg 4 7 with data := (partMsg 4 7).data ++ [0] } = none ∧
    (partMsg 1 0).lastTime + 100000 ≤ (parted 1 0).pwr.time ∧
    ({ parted 1 2 with pwr := { joined.pwr with time := 4999999999 } } : State).pwr.time < (partMsg 1 2).lastTime + 100000 := by
  decide +kernel

/-- A message waiting for slots of the module. -/
def waitingOut (n : Nat) : State :=
  { joined with ring := { joined.ring with lastMark := some (markOf 0), out := [{ typ := 2, sess := 0, msg := 5, rest := zeros n }] } }

theorem test_fill_hypotheses : mayFill (waitingOut 89) 7 = true ∧ mayFill joined 7 = false ∧ (zeros 88).length ≤ 88 ∧
    88 < (zeros 89).length := by decide +kernel

/-! ## Reads, blocks, bulk channels, events -/

/-- The conditions of Readable, as a computation. -/
def isReadable (q : Req) (idx sub : Nat) (s : State) : Bool :=
  decide (arrival q s = .taken) && s.ring.bypassOpen && decide ((sessOf s q.sess).inProgress.length < 16) && objExists s idx sub false
    && (if q.sess = 0 then idx == 0x1000 || idx == 0x1100 else (accessOf s idx sub (roleOf s q.sess)).reads)

theorem readable_of {q : Req} {idx sub : Nat} {s : State} (h : isReadable q idx sub s = true) : Readable q idx sub s := by
  simp only [isReadable, Bool.and_eq_true, decide_eq_true_eq] at h
  obtain ⟨⟨⟨⟨h1, h2⟩, h3⟩, h4⟩, h5⟩ := h
  refine ⟨h1, h2, h3, h4, fun e => ?_, fun e => ?_⟩ <;> simp_all

theorem test_read_hypotheses : Readable tenReq 0x1100 7 joined ∧ Readable ⟨0, 65535⟩ 0x1100 7 joined ∧
    (valueOf joined 2 0x1100 7).length ≤ 8 ∧ valueOf joined 2 0x1100 7 ≠ [] ∧ Readable tenReq 0x9020 2 joined ∧
    (valueOf joined 2 0x9020 2).length ≤ 65536 ∧ gatedObj (withObj 0xA001 24 0 (withObj 0xA001 23 0 (withObj 0xA001 22 0 (withObj 0xA001 21 0 joined)))) 0x7020 1 = true :=
  ⟨readable_of (by decide +kernel), readable_of (by decide +kernel), by decide +kernel, by decide +kernel,
    readable_of (by decide +kernel), by decide +kernel, by decide +kernel⟩

/-- A block read with its one block sent and not acknowledged; a block write of one block. -/
def sending (n : Nat) : State :=
  { joined with ring := { joined.ring with transfers := [
      { sess := 2, msg := 5, idx := 0x1000, sub := 1, len := 4, toModule := false, next := 1, blocks := [(0, [1, 2, 3, 4])]
        unacked := [(0, 4999000000)], resent := [(0, n)] }] } }
def ackBlock (status : Nat) : BlockAck := ⟨2, false, 0, 5, 0, status⟩

theorem test_block_read_hypotheses : hears (sending 7) = true ∧ (transferOf (sending 7) false 2 5).isSome = true ∧
    (transferOf (sending 7) false 2 5).map (fun x => (x.unacked, at_ 0 0 x.resent)) = some ([(0, 4999000000)], 7) ∧
    (transferOf (sending 8) false 2 5).map (fun x => at_ 0 0 x.resent) = some 8 ∧
    (4999000000 : Nat) + 1000000 ≤ (sending 7).pwr.time := by decide

/-- A value of 0x8001:01, and a firmware image of one block, being written. -/
def writing (idx sub len n : Nat) : State :=
  { joined with ring := { joined.ring with transfers := [
      { sess := 2, msg := 5, idx := idx, sub := sub, len := len, toModule := true, resent := [(0, n)], regs := joined.regs }] } }
def oneBlock (d : Bytes) : Block := blockOfData 2 false 0 5 0 d
def badBlock : Block := ⟨2, false, 0, 5, 0, [255, 255], 0⟩

theorem test_block_comes (idx len n : Nat) : BlockComes (oneBlock [255, 255]) { sess := 2, msg := 5, idx := idx, sub := 1, len := len, toModule := true, resent := [(0, n)], regs := joined.regs } (writing idx 1 len n) :=
  ⟨rfl, rfl, ⟨rfl, by decide⟩, rfl, rfl, rfl⟩

theorem test_block_fits (idx n : Nat) : blockFits (oneBlock [255, 255]) { sess := 2, msg := 5, idx := idx, sub := 1, len := 2, toModule := true, resent := [(0, n)], regs := joined.regs } := by
  refine ⟨?_, ?_, ?_⟩
  · simp only [blockGood, oneBlock, blockOfData, crc32c_eq]
    decide +kernel
  · show 0 < blockTotal 2
    decide
  · show 2 = blockLen 2 0
    decide

theorem test_bad_block : blockGood badBlock = false := by decide +kernel

theorem test_block_write_hypotheses : arrival tenReq joined = .taken ∧ blockWriteCode tenReq 0x8001 1 2 joined = 0 ∧
    blockWriteCode opReq 0x9010 1 8192 joined = 0 ∧ (transferOf (writing 0x8001 1 2 7) true 2 5).isSome = true ∧
    (transferOf (writing 0x8001 1 65537 7) true 2 5).map (fun x => (lookup 0 x.blocks, blockTotal x.len, blockLen x.len 1)) = some (none, 2, 1) ∧
    (transferOf (writing 0x8001 1 2 7) true 2 5).map (fun x =>
      let before := asAccepted x (leaveProgress ⟨2, 5⟩ (dropTransfer x (writing 0x8001 1 2 7)))
      writeCode ⟨2, 5⟩ 0 x.idx x.sub (joinBlocks { x with blocks := put 0 [255, 255] x.blocks })
        (ruleOf ⟨2, 5⟩ x.idx x.sub (joinBlocks { x with blocks := put 0 [255, 255] x.blocks }) before) before) = some 0 := by
  decide +kernel

/-- A range at the end of buffer 1, from and to the module, and a channel with one of its blocks waiting to be written. -/
def openFor (dir : Nat) : BulkOpen := ⟨7, dir, 1, 0, 2 ^ 22 - 65537, 65537⟩
def channel (st : Nat) : State :=
  let s := withObj 0x1210 2 (1024 * 2 ^ 64 + 2 ^ 30) joined
  { s with ring := { s.ring with channels := [(7, { state := st, dir := 0, sess := 2, msg := 3, buffer := 1, offset := 0, length := 65537, next := 2, unacked := [(1, 0)], done := [0], acked := 65536 })] } }

theorem test_bulk_hypotheses : (Instr.bulkOpen tenReq (openFor 0)).wf = true ∧ isReady tenReq .tenant (channel 2) = true ∧
    isWritable .tenant 0x1200 1 (openBytes (openFor 0)) (channel 2) = true ∧ (chanOf (channel 2) 7).state = 2 ∧
    bufferHeld (channel 2) 1 = false ∧ openOk (channel 2) (openFor 1) = true ∧ isWritable .tenant 0x1200 2 (leBytes 1 7) (channel 1) = true ∧
    (chanOf (channel 1) 7).state = 1 ∧ (chanOf (channel 0) 7).state = 0 ∧ hears (channel 1) = true ∧
    (1, 0) ∈ (chanOf (channel 1) 7).unacked ∧ 1 ∉ (chanOf (channel 1) 7).done ∧
    (channel 1).canonical ∧ bufferServed (channel 1) 1 = true ∧ (openFor 1).reserved = 0 ∧ 1 < blockTotal 65537 ∧
    [(5 : Byte)].length = blockLen 65537 1 ∧ blockGood (blockOfData 2 true 7 3 1 [5]) = true ∧ roleOf (channel 1) 2 = .tenant ∧
    memServes (channel 1) ((bufferIn (channel 1).regs 1).1 + 0 + 65536 * 1) = true := by decide +kernel

/-- Events queued, and lost events counted. -/
def queuedEvents (lost : List (Nat × Nat)) (n : Nat) : State :=
  { joined with ring := { joined.ring with lost := lost, queue := (List.range n).map (fun k => ⟨0x12, 2, k, 0, []⟩) } }

theorem test_event_hypotheses : hears (queuedEvents [] 1) = true ∧ (queuedEvents [] 0).ring.queue = [] ∧
    (queuedEvents [] 256).ring.queue.head?.isSome = true ∧ (queuedEvents [(0x12 * 4 + 2, 3)] 255).ring.queue.length < 256 ∧
    (sessionOf (queuedEvents [(0x12 * 4 + 2, 3)] 255) .tenant).isSome = true := by decide +kernel

/-! ## Sessions, keys and firmware -/

/-- `joined` with its sessions replaced. -/
def sessioned (xs : List (Nat × Session)) : State := { joined with sec := { joined.sec with sessions := xs } }
/-- The OPERATOR's session alone, and every session in use. -/
def roomy : State := withObj 0x9003 1 11 (sessioned [(1, member .operator 11)])
def crammed : State := sessioned ((List.range 7).map (fun n => (n + 1, member .operator 11)))

theorem test_hello_hypotheses : hears roomy = true ∧ roomy.ring.bypassOpen = true ∧ admits joined 1 5 = true ∧
    admits roomy 1 11 = true ∧ admits roomy 2 22 = true ∧ freeSession roomy 2 = some 2 ∧ admits roomy 1 5 = false ∧
    admits roomy 0 11 = false ∧ admits roomy 4 11 = false ∧ freeSession joined 2 = none ∧ freeSession crammed 1 = none ∧
    admits crammed 1 11 = true := by decide +kernel

/-- A TENANT that has had its reply 1 s ago, and one nanosecond more; the first OPERATOR at the same point. -/
def greeted (r : Role) (at0 : Nat) : State :=
  sessioned [(3, { state := .establishing, role := r, key := 22, replyAt := at0 })]
def finishOf (good : Bool) : FinishMsg := ⟨3, 9, good, 77, 5⟩

theorem test_finish_hypotheses : hears (greeted .tenant 4000000000) = true ∧
    (sessOf (greeted .tenant 4000000000) 3).state = .establishing ∧
    (greeted .tenant 4000000000).pwr.time ≤ (sessOf (greeted .tenant 4000000000) 3).replyAt + 1000000000 ∧
    enrolled (greeted .operator 4000000000) 0x9003 = [] ∧
    (sessOf (greeted .tenant 3999999999) 3).replyAt + 1000000000 < (greeted .tenant 3999999999).pwr.time ∧
    (sessOf joined 2).state = .established := by decide +kernel

/-- A finish in time meets its conditions, for each role. -/
theorem test_finishes (r : Role) : Finishes (finishOf true) (greeted r 4000000000) :=
  ⟨rfl, rfl, rfl, rfl, by show (5000000000 : Nat) ≤ 4000000000 + 1000000000; decide, fun _ => ⟨show DevState.joined ≠ .inert by decide, show DevState.joined ≠ .faulted by decide⟩, rfl⟩

theorem test_key_heard : KeyHeard tenReq .tenant joined ∧ KeyHeard opReq .operator joined :=
  ⟨⟨rfl, rfl, by decide, rfl, rfl, rfl⟩, ⟨rfl, rfl, by decide, rfl, rfl, rfl⟩⟩

theorem test_key_hypotheses : hears joined = true ∧ (sessOf joined 2).state = .established ∧
    (sessOf joined 2).role = .tenant ∧ joined.sec.flashFull = false ∧ (inState .inert).dev = .inert ∧
    regionOk joined 15 0 2097152 = true ∧ regionOk joined 0 (0x16700000000 - 2097152) 2097152 = true ∧
    regionOk joined 16 0 2097152 = false ∧ joined.dev = .joined ∧
    isWritable .operator 0x2000 1 (leBytes 1 2) joined = true := by decide +kernel

/-- `joined` with the first key of 0x9003 that of its OPERATOR. -/
def listed : State := withObj 0x9003 1 11 joined

theorem test_enrolment_hypotheses : isReady opReq .operator listed = true ∧
    isWritable .operator 0x9003 1 (identBytes 12) listed = true ∧ isWritable .operator 0x9004 8 (identBytes 12) listed = true ∧
    isWritable .operator 0x9003 1 (identBytes 0) listed = true ∧
    enrolled (withRg 0x9003 1 12 listed) 0x9003 ≠ [] ∧ enrolled (withRg 0x9003 1 0 listed) 0x9003 = [] ∧
    roleOf listed 1 = .operator ∧ (sessOf listed 1).key = BitVec.ofNat 256 (rg listed 0x9003 1) ∧
    (sessOf listed 1).key ∉ enrolled (withRg 0x9003 1 12 listed) 0x9003 := by decide +kernel

/-- An update that waits for its image. -/
def updating : State :=
  let s := withObj 0x9010 2 2 joined
  { s with sec := { s.sec with pend := [⟨.firmware, opReq, s.regs, [], [], []⟩] } }

theorem test_firmware_hypotheses : (pendOf updating .firmware).isSome = true ∧ rg updating 0x9010 2 = 2 ∧
    firmwareOk updating fwImage = true ∧ firmwareOk updating { fwImage with bodyLen := 1 } = false := by
  refine ⟨by decide, by decide, ?_, by decide⟩
  simp [firmwareOk, fwImage, updating, withObj, joined, State.reset]

/-! ## The ring clock, time and power -/

/-- A module without its ring clock: links in each state, one stack trained 16 ms and 1 ns after its last refresh. -/
def clockless (last : Nat) : State :=
  { joined with
    ring := { joined.ring with clock := false }
    links := [(1, { state := 2 }), (2, { state := 3 }), (3, { state := 4 }), (4, { state := 1 })]
    mem := { trained := true, stackSt := [(19, { state := 2, lastRefresh := last })] } }

theorem test_clock_return_hypotheses : (clockless 4984000000).pwr.inReset = false ∧
    (clockless 4984000000).ring.clock = false ∧ (∀ k, k < 20 → refreshLost (clockless 4984000000) k = false) ∧
    (∀ k, 1 ≤ k → k ≤ 6 → (linkOf (clockless 4984000000) k).recent.length < 16) ∧
    refreshLost (clockless 4983999999) 19 = true := by
  refine ⟨by decide, by decide, by decide, ?_, by decide⟩
  intro k h h'
  interval_cases k <;> decide

/-- A module whose time reference is the external one, and one whose reference is lost. -/
def pulsed (t : Nat) : State := withObj 0xA010 2 1 { joined with pwr := { joined.pwr with time := t } }
def unreferenced : State := { joined with pwr := { joined.pwr with refLost := true } }

theorem test_reference_hypotheses : (pulsed 5499999999).pwr.inReset = false ∧ reference (pulsed 5499999999) = 1 ∧
    (pulsed 5499999999).pwr.refLost = false ∧ unreferenced.pwr.refLost = true ∧ marksComing joined = false ∧
    reference (marked 64 true) = 0 ∧ marksComing (marked 64 true) = true := by decide

/-- A module in a power state, on its way to another or not. -/
def powered (c r : PowerState) (moving : Bool) : State :=
  { joined with pwr := { joined.pwr with cur := c, req := r, moving := moving } }
/-- In Stow with its input in range. -/
def stowed : State := withObj 0xA040 2 54000 (powered .stow .stow false)

theorem test_power_request_hypotheses : isReady opReq .operator joined = true ∧
    isWritable .operator 0xA000 1 (leBytes 1 0) joined = true ∧ isWritable .operator 0xA000 1 (leBytes 1 4) joined = true ∧
    (∀ c ∈ (powerRule opReq (leBytes 1 0) joined).codes, c = 0) ∧ joined.pwr.cur = powOf 0 ∧
    (∀ c ∈ (powerRule opReq (leBytes 1 4) joined).codes, c = 0) ∧ joined.pwr.cur ≠ powOf 4 ∧
    isReady opReq .operator stowed = true ∧ isWritable .operator 0xA000 1 (leBytes 1 3) stowed = true ∧
    (∀ c ∈ (powerRule opReq (leBytes 1 3) stowed).codes, c = 0) ∧
    ratiosOk (pllTake ((List.range 12).map (· + 2)) stowed) = true ∧
    isReady opReq .operator (inState .held) = true ∧ isWritable .operator 0xA000 1 (leBytes 1 4) (inState .held) = true ∧
    powerAllowed (inState .held) 4 = false ∧ powerAllowed (inState .running) 2 = false := by decide +kernel

/-- An exit from Stow under way, and a module whose test port is open or whose prepare is pending. -/
def leavingStow : State := { stowed with pwr := { stowed.pwr with req := .run, moving := true, stowExit := true } }
def testOpen : State := withObj 0xB020 1 1 joined
def preparing : State := { joined with sec := { joined.sec with pend := [⟨.prepare, tenReq, [], [], [], []⟩] } }

theorem test_power_stop_hypotheses : isReady opReq .operator leavingStow = true ∧
    isWritable .operator 0xA000 1 (leBytes 1 4) leavingStow = true ∧ (∀ c ∈ (powerRule opReq (leBytes 1 4) leavingStow).codes, c = 0) ∧
    isReady opReq .operator testOpen = true ∧ isWritable .operator 0xA000 1 (leBytes 1 1) testOpen = true ∧
    rg testOpen 0xB020 1 ≠ 0 ∧ isWritable .operator 0xA000 1 (leBytes 1 4) preparing = true ∧
    (pendOf preparing .prepare).isSome = true ∧ isWritable .operator 0xA000 1 (leBytes 1 3) (powered .stow .stow false) = true ∧
    inputGood (powered .stow .stow false) = false ∧ isReady opReq .operator (powered .stow .stow false) = true := by decide +kernel

/-- A request that waits, on the state of a move. -/
def awaiting (s : State) : State := { s with sec := { s.sec with pend := [⟨.power, opReq, s.regs, [], [], []⟩] } }

theorem test_ladder_hypotheses : (awaiting (powered .run .still true)).pwr.moving = true ∧
    powCode (awaiting (powered .run .still true)).pwr.cur < powCode (awaiting (powered .run .still true)).pwr.req ∧
    workDone (powered .run .still true) = true ∧ workDone { working .running (scoreOf [] []) id with pwr := (powered .run .still true).pwr } = false ∧
    powCode (powered .doze .stow true).pwr.cur < powCode (powered .doze .stow true).pwr.req ∧
    powCode (powered .stow .run true).pwr.req < powCode (powered .stow .run true).pwr.cur ∧
    (retireAll (fresh (powered .still .hush true))).mem.wc = [] ∧
    ({ powered .still .stow true with pwr := { (powered .still .stow true).pwr with afterFault := true } } : State).pwr.afterFault = true ∧
    upReady (powered .stow .run true) = true ∧ upReady { powered .stow .run true with links := [(1, { state := 1 })] } = false ∧
    (pendOf (awaiting (powered .run .still true)) .power).isSome = true := by decide +kernel

/-- Measures at the edges of their ranges. -/
def edges : Limits := ⟨50000, 104, 99, [95, 20, 25, 25], 900, 3000⟩

theorem test_limit_hypotheses : limitsBroken edges = false ∧ limitsBroken { edges with v54 := 49999 } = true ∧
    limitsBroken { edges with v54 := 58001 } = true ∧ limitsBroken { edges with junction := 105 } = true ∧
    limitsBroken { edges with stack := 100 } = true ∧ limitsBroken { edges with photonic := [96, 20] } = true ∧
    limitsBroken { edges with photonic := [95, 19] } = true ∧ joined.pwr.cur ≠ .stow ∧ joined.pwr.afterFault = false ∧
    joined.dev ≠ .faulted ∧ aboveStow stowed = false ∧ leavingStow.pwr.afterFault = false ∧
    stageBad ⟨true, true, false, false, false⟩ ∧ stageBad ⟨true, false, false, false, true⟩ ∧ ¬ stageBad ⟨false, true, true, true, true⟩ ∧
    ¬ stageBad ⟨true, false, false, false, false⟩ := by
  unfold stageBad
  decide

/-- A module released from reset. -/
def released : State := { State.reset with pwr := { State.reset.pwr with inReset := false } }

/-- Symbol lock for as long as the straps' longest settle delay, and one nanosecond less. -/
def locked (osc : Nat) : State :=
  { joined with straps := { joined.straps with settle := 3 }, pwr := { joined.pwr with symbolLock := true, lockAt := 1, osc := osc } }

theorem test_settle_hypotheses : (locked 64000001).pwr.lockAt + 4 ^ ((locked 64000001).straps.settle % 4) * 1000000 ≤ (locked 64000001).pwr.osc ∧
    (locked 64000000).pwr.osc < (locked 64000000).pwr.lockAt + 4 ^ ((locked 64000000).straps.settle % 4) * 1000000 := by decide

theorem test_boot_hypotheses : released.pwr.inReset = false ∧ released.pwr.symbolLock = false ∧ joined.pwr.symbolLock = true ∧
    released.pwr.selfTested = false ∧ released.sec.fwRunning = false ∧ released.sec.recovery = false ∧
    joined.pwr.selfTestB0 = true ∧ joined.pwr.selfTestB2 = true ∧ released.pwr.selfTestB0 = false ∧
    firmwareOk released { fwImage with bodyLen := 1 } = false := by decide

theorem test_boot_image_hypotheses : firmwareOk released fwImage = true := by
  simp [firmwareOk, fwImage, released, State.reset]

/-! ## Test access -/

/-- A self-test of a stack under way, and an open test port. -/
def selfTesting (kind target : Nat) : State := { untenanted with test := { selfTest := some (kind, target) } }
def opened : State := withObj 0xB020 1 1 { untenanted with test := { dieSelect := 1 + 2 ^ 39 } }

theorem test_self_test_hypotheses : (∀ p ∈ [(1, 23), (2, 11), (3, 3), (4, 19)],
      p.2 < targetCount p.1 ∧ isWritable .operator 0xB010 1 (leBytes 4 (p.1 * 2 ^ 28 + p.2 * 2 ^ 20)) untenanted = true ∧
        gated untenanted (targetBlock p.1 p.2) = false) ∧
    isReady opReq .operator untenanted = true ∧ untenanted.dev = .joined ∧ rg untenanted 0xB020 1 = 0 ∧
    untenanted.test.selfTest = none ∧ untenanted.pwr.cur = .run ∧ tenantHere untenanted = false ∧
    (selfTesting 4 19).test.selfTest = some (4, 19) ∧ (selfTesting 4 19).pwr.inReset = false := by decide +kernel

theorem test_self_test_allowed : SelfTestAllowed 1 23 untenanted ∧ SelfTestAllowed 4 255 untenanted ∧ SelfTestAllowed 4 19 joined ∧
    ¬ SelfTestAllowed 2 11 (inState .prepared) :=
  ⟨⟨rfl, by decide, rfl, rfl, fun _ => by decide⟩, ⟨rfl, by decide, rfl, rfl, fun h => absurd h (by decide)⟩,
    ⟨rfl, by decide, rfl, rfl, fun _ => by decide⟩,
    fun h => by have := h.joined; contradiction⟩

theorem test_self_test_rejected_hypotheses : tenantHere joined = true ∧ targetCount 4 ≤ 255 ∧
    isWritable .operator 0xB010 1 (leBytes 4 (4 * 2 ^ 28 + 255 * 2 ^ 20 + (2 ^ 20 - 1))) untenanted = true ∧
    isReady opReq .operator (inState .prepared) = true ∧
    isWritable .operator 0xB010 1 (leBytes 4 (2 * 2 ^ 28 + 11 * 2 ^ 20)) (inState .prepared) = true ∧
    coreAtSite joined 23 95 = some 95 := by decide +kernel

theorem test_open_port_hypotheses : portOpen opened = true ∧ portOpen joined = false ∧
    (0xFF : BitVec 8) ∉ [0x00, 0x01, 0x02, 0x03, 0x04, 0x10, 0x11] ∧ (0x05 : BitVec 8) ∉ [0x00, 0x01, 0x02, 0x03, 0x04, 0x10, 0x11] := by
  decide

/-- Tests of half 23: due at device time, and with what else is needed. -/
def tested (t : HalfTest) : State :=
  let s := withObj 0xB000 1 1 joined
  { s with test := { halves := [(23, t)] } }
/-- A score whose relief record of core 5 of half 23 names relief core 97. -/
def reliefScore : Score := { scoreOf [] [] with relief := [⟨23, 5, 97⟩] }
def relieved (t : HalfTest) : State :=
  { tested t with dev := .prepared, ex := { score := some reliefScore, nextStep := 6 } }
/-- Half 23 with no relief core left. -/
def worn (t : HalfTest) : State :=
  { tested t with siteMap := [96, 97, 98, 99].map (fun r => (siteKey 23 r, siteGone)) }

theorem test_core_test_due_hypotheses : (halfTest (tested { dueAt := some 5000000000 }) 23).dueAt = some 5000000000 ∧
    (5000000000 : Nat) ≤ joined.pwr.time ∧ rg (tested {}) 0xB000 1 = 1 ∧ reliefAvailable (tested {}) 23 = true := by decide

theorem test_core_test_start_hypotheses : TestReady 23 (tested { due := true, next := 95 }) ∧
    TestReady 23 (relieved { due := true, next := 5 }) ∧ (tested {}).dev = .joined ∧
    (relieved {}).ex.step.running = false ∧ reliefFor (relieved { due := true, next := 5 }) 23 5 = some 97 ∧
    boundSite (relieved {}) 23 97 ≠ boundSite (relieved {}) 23 5 :=
  ⟨⟨by decide, rfl, rfl, ⟨rfl, rfl⟩, ⟨rfl, by decide⟩, by decide⟩, ⟨by decide, rfl, rfl, ⟨rfl, rfl⟩, ⟨rfl, by decide⟩, by decide⟩,
    rfl, rfl, by decide, by decide⟩

/-- The same with the grace of 0xB000:02 at 5 s. -/
def graced : State := withObj 0xB000 2 5 (tested { dueAt := some 0, due := true })

theorem test_core_test_overdue_hypotheses : (halfTest graced 23).dueAt = some 0 ∧
    0 + rg graced 0xB000 2 * 1000000000 ≤ graced.pwr.time ∧ (halfTest graced 23).core = none := by decide

theorem test_core_test_end_hypotheses : Testing 23 94 (tested { core := some 94 }) ∧ Testing 23 0 (tested { core := some 0, relief := some 97 }) ∧
    Testing 23 95 (worn { core := some 95 }) ∧ Testing 23 99 (tested { core := some 99 }) ∧
    lastRelief (tested { core := some 95 }) 23 = some 99 ∧ rg (tested { core := some 95 }) 0x3001 (23 + 1) ≠ 0 ∧
    lastRelief (worn { core := some 95 }) 23 = none ∧ (worn { core := some 95 }).dev ≠ .faulted :=
  ⟨⟨by decide, rfl, rfl, rfl⟩, ⟨by decide, rfl, rfl, rfl⟩, ⟨by decide, rfl, rfl, rfl⟩, ⟨by decide, rfl, rfl, rfl⟩,
    by decide, by decide, by decide, by decide⟩

/-! ## Well-formedness: each check refuses an ill-formed term -/

def aPost : Post := ⟨0, 255, 0, 1, 0⟩
def aUnit : QlUnit := ⟨6, true, 0, [1023]⟩
def aPacket : Packet := ⟨15, 7, false, 31, 2047, 31, 2047, 4095, 15, 0, 0⟩
def aParcel : Parcel := ⟨0, 0, 2 ^ 18 - 1, 7, 15, 15, false, 7, 1, 0, 0, [0], 0, 0⟩
def aFlit : Flit := ⟨31, 15, zeros 256, false⟩
def aFrame : LaneFrame := ⟨31, 15, zeros 40⟩
def aSlot : Slot := ⟨199, zeros 99, false⟩
def aGen : GenReq := ⟨255, 255, 255, 255, 255, 65535, 0, 0, 0, 0⟩
def aChunk : Chunk := ⟨0, 7, 0, 15, 63, 0, [], 0⟩
def aLease : LeaseMsg := ⟨0, 0, 255, 65535, 16383, 0⟩

theorem test_wf_requests : [(⟨7, 65535⟩ : Req)].all Req.wf = true ∧ [(⟨8, 0⟩ : Req), ⟨0, 65536⟩].all (fun q => !q.wf) = true ∧
    aPost.wf = true ∧ [{ aPost with step := 2 ^ 64 }, { aPost with slot := 256 }, { aPost with reserved := 256 },
      { aPost with tokens := 2 ^ 32 }, { aPost with buffer := 65536 }].all (fun p => !p.wf) = true := by decide

theorem test_wf_memory : aGen.wf = true ∧ [{ aGen with stack := 256 }, { aGen with channel := 256 }, { aGen with pseudo := 256 },
      { aGen with pattern := 256 }, { aGen with area := 256 }, { aGen with passes := 65536 }, { aGen with seed := 2 ^ 64 },
      { aGen with startLine := 2 ^ 32 }, { aGen with lineCount := 2 ^ 32 }].all (fun g => !g.wf) = true := by decide

theorem test_wf_links : aUnit.wf = true ∧ [{ aUnit with link := 0 }, { aUnit with link := 7 },
      { aUnit with errs := [1024] }].all (fun u => !u.wf) = true ∧
    aPacket.wf = true ∧ [{ aPacket with ptype := 16 }, { aPacket with cls := 8 }, { aPacket with dstDie := 32 },
      { aPacket with dstEp := 2048 }, { aPacket with srcDie := 32 }, { aPacket with srcEp := 2048 }, { aPacket with tag := 4096 },
      { aPacket with granules := 16 }, { aPacket with addr := 2 ^ 41 }].all (fun p => !p.wf) = true := by decide

theorem test_wf_parcels : aParcel.wf = true ∧ [{ aParcel with dst := 2 ^ 20 }, { aParcel with src := 2 ^ 20 },
      { aParcel with ctx := 2 ^ 18 }, { aParcel with cls := 8 }, { aParcel with kind := 16 }, { aParcel with hops := 16 },
      { aParcel with relayDim := 8 }, { aParcel with len := 0 }, { aParcel with len := 4097 },
      { aParcel with seq := 2 ^ 58 }].all (fun p => !p.wf) = true ∧
    aChunk.wf = true ∧ [{ aChunk with subtype := 8 }, { aChunk with coll := 2 ^ 14 }, { aChunk with stage := 16 },
      { aChunk with round := 64 }, { aChunk with offset := 2 ^ 38 }].all (fun c => !c.wf) = true ∧
    aLease.wf = true ∧ [{ aLease with peer := 2 ^ 20 }, { aLease with ctx := 2 ^ 18 }, { aLease with lease := 256 },
      { aLease with count := 65536 }, { aLease with term := 16384 }, { aLease with scoreTag := 2 ^ 29 }].all (fun m => !m.wf) = true ∧
    (⟨2 ^ 20, 0, false⟩ : Praline).wf = false := by decide

theorem test_wf_lanes_and_slots : aFlit.wf = true ∧ [{ aFlit with port := 32 }, { aFlit with colour := 16 },
      { aFlit with bytes := [] }].all (fun f => !f.wf) = true ∧
    aFrame.wf = true ∧ [{ aFrame with port := 32 }, { aFrame with colour := 16 }, { aFrame with bytes := [] }].all (fun f => !f.wf) = true ∧
    aSlot.wf = true ∧ [{ aSlot with index := 0 }, { aSlot with index := 200 }, { aSlot with bytes := [] }].all (fun x => !x.wf) = true := by
  decide +kernel

/-- An ill-formed command of each form that checks its own operands. -/
def illFormed : List Instr :=
  let bad : Req := ⟨8, 0⟩
  [.join 33 0 0, .join 0 33 0, .join 0 0 65536, .leave bad, .clearFault bad, .prepare bad, .run bad, .hold bad, .release bad,
   .unprepare bad, .grantSteps opReq (2 ^ 32), .postMicroBatch opReq { aPost with slot := 256 }, .crumbFire 24 0 [],
   .crumbFire 0 96 [], .crumbRetire 0 100 0, .crumbRetire 0 0 4, .watchSampleComplete 24 0, .commitGatedRetire 0 96,
   .padElision 24 0, .stealing 0 ⟨96, []⟩, .tokenPacket (2 ^ 20) 0, .tokenPacket 0 4096, .creditGrantPacket 20 0 0 0 (.pool 0),
   .creditGrantPacket 0 0 5 0 (.pool 0), .creditGrantPacket 0 0 0 0 (.unit 20 0), .copyJobFire 4 0, .copyJobRetire 0 16, .streamSegmentStart (2 ^ 32),
   .streamSegmentComplete (2 ^ 32), .pairDigestReceive ⟨0, 64, 0, 0, 0⟩, .collectiveLaunch (2 ^ 14),
   .collectiveChunk { aChunk with subtype := 8 }, .pralineWord ⟨2 ^ 20, 0, false⟩, .hostCopyRequest opReq [],
   .memoryReadRequest { aPacket with cls := 8 } MemEcc.clean, .memoryWrite { aPacket with attr := 2 ^ 18 } [], .memoryReadResponse 20 0 0 [] false,
   .writeAcknowledgement 0 2048 0 false 0, .writeCombineTimeout 320 0, .hbmRefresh 20 0, .hbmRefresh 0 64,
   .hbmTemperatureReadout [25], .patrolScrub [⟨20, 0, false⟩], .hbmTrainingComplete [⟨0, 16, 0, 1⟩]]

/-- The same, further on. -/
def illFormedToo : List Instr :=
  let bad : Req := ⟨8, 0⟩
  [.generatorWriteReadCheck bad aGen, .generatorWrite bad aGen, .generatorReadCheck bad aGen,
   .generatorStopAll opReq { aGen with stack := 256 }, .generatorComplete [(72, 0)] 0 0, .generatorComplete [] (2 ^ 64) 0, .partitionSettingWrite opReq 256 0,
   .quadrantLocalBoundaryWrite opReq 256, .stackPortTransfer 12 0 true (zeros 256) [] (0, 0), .stackPortTransfer 0 0 true (zeros 256) [2192] (0, 0),
   .qlDataUnit aUnit [], .qlIdleUnit { aUnit with link := 7 }, .qlNakUnit { aUnit with link := 0 },
   .qlReplayTimeout 0 true, .qlRetrainComplete 1 65 0 false, .qlRetrainTimeout 7, .leaseRenewalDue (2 ^ 20) 0 0,
   .leaseGrant ⟨2 ^ 20, 0, 0, 0, 0, 0⟩, .holderLeaseExpiry (2 ^ 20) 0 0, .tokenIncrementParcel ⟨2 ^ 20, 0, 0, 0⟩,
   .dataFlit { aFlit with port := 32 }, .flitReplayTimeout 0 16, .parcelForward 5, .laneFrameTimeout 32 0 true,
   .ringLockLoop true 32 0 0 .held, .ringLockLoop true 0 17 0 .held, .searchCandidateTimeout 0 16,
   .laneFrame { aFrame with colour := 16 }, .ringSearchLineReached true 0 0 (17, 0) true 0, .anchorSweepRetry 32, .opticalCommissioningComplete (List.replicate 129 0, []),
   .wavelengthCheck 144 0, .calibrationSlot 32 (true, true), .calibrationSlotEnd 32 true false, .laserPowerReading true 16 0,
   .laserPowerReading false 128 0, .spareLaserLocked 4 0, .recommissionPort opReq 256, .transmitGenerationWrite opReq 256 0,
   .exceptionEntryWrite opReq 65536 0, .rankOverrideWrite opReq 65536 0, .fabricConfigurationWrite opReq 0x6000 3 0,
   .fabricConfigurationWrite opReq 0x6001 256 0, .groupMemberEntryWrite opReq 65536 0, .groupDescriptorWrite opReq 65536 0,
   .restore opReq (2 ^ 64), .holdCommitArm opReq (2 ^ 64), .abandon bad, .scaleStateLoad bad 0, .kz8StartScaleWrite bad 0]

/-- The rest. -/
def illFormedLast : List Instr :=
  let bad : Req := ⟨8, 0⟩
  [.frameMark ⟨0, 0, 0, 0, 0, 0, 0, [], 0⟩ 0, .dataSlot { aSlot with index := 0 },
   .messageTimeout 64 0 0, .expeditedWrite opReq 0 0 (List.replicate 9 0), .expeditedRead opReq 65536 0 0,
   .segmentedWrite opReq 0 256 [], .segmentedRead opReq 0 256 0, .blockWrite opReq 0 0 (2 ^ 64), .blockRead opReq 65536 0 0,
   .dictionaryWrite bad 0 0 [], .blockData ⟨8, false, 0, 0, 0, [], 0⟩, .bulkBlockWritten 8 0 [],
   .blockAcknowledgement ⟨0, false, 0, 0, 0, 256⟩, .blockAckTimeout ⟨8, false, 0, 0, 0, 0⟩, .bulkOpen opReq ⟨256, 0, 0, 0, 0, 0⟩,
   .bulkClose opReq 256, .hello 65536 0 0 0, .hello 0 256 0 0, .finish ⟨256, 0, true, 0, 0⟩, .finishTimeout 8, .close 8 0,
   .close 0 256, .fabricKeyInstall opReq (2 ^ 24) 0, .regionKeyInstall opReq 256 0 0 0 0, .regionRemove opReq 0 65536,
   .enrolmentWrite opReq 0x9005 1 0, .firmwareImageWrite opReq (2 ^ 64), .attestationQuote bad, .ringClockReturn [7],
   .timeReferenceWrite opReq 256, .powerStateRequest opReq 256, .blockEnableWrite opReq 0 256, .pllSettingWrite opReq 256 0,
   .supplyOrTemperatureFault ⟨0, 0, 0, [25], 0, 0⟩, .thermTrip 256 0, .resetRelease ⟨true, 4, 0⟩, .selfTestTileStores opReq 256 0,
   .selfTestSharedCache opReq 0 (2 ^ 20), .selfTestMemorySideCache opReq 256 0, .selfTestHbmStack opReq 256 0,
   .testPortEnable opReq 256, .coreTestDue 24, .coreTestStart 24, .coreTestOverdue 24, .coreTestComplete 24 true]

theorem test_wf_refuses : illFormed.all (fun i => !i.wf) = true ∧ illFormedToo.all (fun i => !i.wf) = true ∧
    illFormedLast.all (fun i => !i.wf) = true := by decide +kernel

/-! ## The table's words -/

theorem test_no_word_spells_a_command : decodeTableWord 32 0 = none ∧ joined.withFetchWord 32 0 = joined := ⟨rfl, rfl⟩

end Sys2Proof.Tests
end

section
/-! SUPPORT. A ready write that meets every condition but those of its object's own rule: which code it has, and what
its rejection answers and leaves alone (R11, R469). -/

namespace Sys2Proof.Machine

/-! ## The code of a write -/

theorem getD_zero_eq_zero {o : Option Nat} (h : o ≠ some 0) : o.getD 0 = 0 ↔ o = none := by
  cases o <;> simp_all

theorem or_getD_zero_eq_zero {o p : Option Nat} (h : o ≠ some 0) :
    (o.or p).getD 0 = 0 ↔ o = none ∧ p.getD 0 = 0 := by
  cases o <;> simp_all

/-- Where no code fails, no class of R11 finds one. -/
theorem find_class_of_firstByClass_zero {cs : List Nat} (h : firstByClass cs = 0) :
    ∀ k ∈ [6, 1, 3, 4, 2, 5], cs.find? (fun x => x ≠ 0 && x / 2 ^ 24 == k) = none := by
  have found : ∀ k, cs.find? (fun x => x ≠ 0 && x / 2 ^ 24 == k) ≠ some 0 := fun k hk => by
    simpa using List.find?_some hk
  simpa only [firstByClass, Option.or_assoc, or_getD_zero_eq_zero (found _), getD_zero_eq_zero (found _),
    List.forall_mem_cons, List.not_mem_nil, false_implies, implies_true, and_true] using h

/-- Codes among conditions that hold are the only ones that count. -/
theorem firstByClass_among {a b : List Nat} (cs : List Nat) (h : firstByClass (a ++ b) = 0) :
    firstByClass (a ++ cs ++ b) = firstByClass cs := by
  have hab : ∀ k ∈ [6, 1, 3, 4, 2, 5], a.find? (fun x => x ≠ 0 && x / 2 ^ 24 == k) = none ∧
      b.find? (fun x => x ≠ 0 && x / 2 ^ 24 == k) = none := by
    intro k hk
    have := find_class_of_firstByClass_zero h k hk
    rwa [List.find?_append, Option.or_eq_none_iff] at this
  simp only [List.forall_mem_cons] at hab
  simp only [firstByClass, List.find?_append, hab, Option.none_or, Option.or_none]

/-- A write whose object's rule alone may refuse it has the code of that rule. -/
theorem writeCode_of_rule {q : Req} {idx sub : Nat} {v : Bytes} {s : State} (x : Rule)
    (h : writeCode q 0 idx sub v {} s = 0) : writeCode q 0 idx sub v x s = firstByClass x.codes := by
  unfold writeCode at h ⊢
  dsimp only at h ⊢
  by_cases h1 : (!objExists s idx sub true) = true
  · simp [h1] at h
  by_cases h2 : q.sess ≠ 0 ∧ (!(accessOf s idx sub (roleOf s q.sess)).writes) = true
  · simp [h1, h2, abort] at h
  simp only [h1, h2, if_false, ne_eq, not_true_eq_false, List.append_nil] at h ⊢
  exact firstByClass_among _ h

/-- A ready write that only its object's rule refuses is rejected with the first code of that rule. -/
theorem writeReq_refused {q : Req} {r : Role} {s : State} {idx sub : Nat} {v : Bytes} {rule : State → Rule} {x : Rule}
    (h : Ready q r s) (w : Writable r idx sub v s) (hx : rule (heardAs q (writeCommand v) idx sub s) = x)
    (hc : firstByClass x.codes ≠ 0) :
    writeReq q 0 idx sub v rule s
      = rejectReq q (firstByClass x.codes) (x.onReject (heardAs q (writeCommand v) idx sub s)) := by
  obtain ⟨i, hi⟩ := heardAs_ring q (writeCommand v) idx sub s
  obtain ⟨hregs, hstraps, hdev, hpwr, -⟩ := heardAs_same q (writeCommand v) idx sub s
  have hzero : writeCode q 0 idx sub v {} (heardAs q (writeCommand v) idx sub s) = 0 :=
    writeCode_zero h w (by simp) (heardAs_noted q _ idx sub s) hregs hstraps hdev hpwr (by rw [hi])
  subst hx
  exact writeReq_rejected h _ (writeCode_of_rule _ hzero) hc

/-! ## What a request's answer leaves alone -/

@[simp] theorem rg_heardAs (q : Req) (command idx sub i j : Nat) (s : State) :
    rg (heardAs q command idx sub s) i j = rg s i j := by
  unfold rg
  rw [(heardAs_same q command idx sub s).1]

theorem heardAs_bypass (q : Req) (command idx sub : Nat) (s : State) :
    (heardAs q command idx sub s).ring.bypassOpen = s.ring.bypassOpen := by
  obtain ⟨i, hi⟩ := heardAs_ring q command idx sub s
  rw [hi]

@[simp] theorem rg_forwardAccess (write : Bool) (idx sub i j : Nat) (s : State) :
    rg (forwardAccess write idx sub s) i j = rg s i j := by
  unfold forwardAccess
  split <;> rfl

theorem forwardAccess_bypass (write : Bool) (idx sub : Nat) (s : State) :
    (forwardAccess write idx sub s).ring.bypassOpen = s.ring.bypassOpen := by
  unfold forwardAccess
  split <;> rfl

theorem answers_rejectReq (q : Req) (code : Nat) (s : State) (h : s.ring.bypassOpen = true) :
    Answers q code [] (rejectReq q code s) := answers_respond _ _ _ _ h

theorem regsExcept_rejectReq {l : List (Nat × Nat)} (q : Req) (code : Nat) (s : State) :
    regsExcept l s (rejectReq q code s) := by
  intro i j hj _ hlog _ _
  unfold rejectReq countReject
  rw [rg_respond]
  exact rg_bump_other _ hj (by decide) hlog

theorem regsExcept_respond_auditWrite {l : List (Nat × Nat)} {s t : State} (q : Req) (code idx sub : Nat) (d v : Bytes)
    (h : regsExcept l s t) : regsExcept l s (respond q code d (auditWrite q idx sub v t)) := by
  refine regsExcept_trans h fun i j hj _ hlog hev hlost => ?_
  rw [rg_respond, rg_auditWrite t hj (by unfold counted; tauto)]

end Sys2Proof.Machine
end

section
/-! Grants of steps (R83). -/

namespace Sys2Proof.Machine

/-- The bytes of a number hold it, where it fits them. -/
theorem leNat_leBytes {k n : Nat} (h : n < 256 ^ k) : leNat (leBytes k n) = n := by
  induction k generalizing n with
  | zero => simp_all [leBytes, leNat]
  | succ k ih =>
    have hk : n / 256 < 256 ^ k := Nat.div_lt_of_lt_mul (by rwa [pow_succ, mul_comm] at h)
    rw [leBytes, leNat, ih hk, BitVec.toNat_ofNat]
    omega

/-- A module takes grants in PREPARED, RUNNING and HELD. -/
def takesGrants (s : State) : Bool := s.dev == .prepared || s.dev == .running || s.dev == .held

theorem takesGrants_iff {s : State} :
    takesGrants s = true ↔ (s.dev = .prepared ∨ s.dev = .running ∨ s.dev = .held) := by
  simp [takesGrants, or_assoc]

/-- The codes of the two conditions of a grant of n steps: the device state, and the count with them below 2^32. -/
def grantCodes (n : Nat) (s : State) : List Nat :=
  [stateNeed (takesGrants s), need (decide (rg s 0x2011 2 + n < 2 ^ 32)) 0x05100003]

/-- A grant is judged by the state that its request found. -/
theorem grantRule_codes (q : Req) (command : Nat) (v : Bytes) (s : State) :
    (grantRule v (heardAs q command 0x2011 1 s)).codes = grantCodes (leNat v) s := by
  simp only [grantRule, grantCodes, takesGrants, rg_heardAs, (heardAs_same q command 0x2011 1 s).2.2.1]

theorem grantCodes_zero {n : Nat} {s : State} (hd : takesGrants s = true) (hn : rg s 0x2011 2 + n < 2 ^ 32) :
    ∀ c ∈ grantCodes n s, c = 0 := by
  simp only [grantCodes, hd, hn, decide_true, stateNeed, need_true]
  simp

/-- The state comes before the count: its class is the earlier one of R11. -/
theorem firstByClass_grantCodes_of_state {n : Nat} {s : State} (hd : takesGrants s = false) :
    firstByClass (grantCodes n s) = 0x03100005 := by
  simp only [grantCodes, hd, stateNeed, need_false]
  cases decide (rg s 0x2011 2 + n < 2 ^ 32) <;> rfl

theorem firstByClass_grantCodes_of_count {n : Nat} {s : State} (hd : takesGrants s = true)
    (hn : ¬ rg s 0x2011 2 + n < 2 ^ 32) : firstByClass (grantCodes n s) = 0x05100003 := by
  simp only [grantCodes, hd, hn, decide_false, stateNeed, need_true, need_false]
  rfl

/-- An accepted grant is added to the count, logged by its four-byte value and answered. -/
theorem acceptWrite_grantRule (q : Req) (v : Bytes) (s u : State) :
    acceptWrite q 0x2011 1 v (grantRule v s) u
      = respond q 0 [] (auditWrite q 0x2011 1 (if s.straps.compat then leBytes 4 (leNat v) else v)
          (withRg 0x2011 2 (rg u 0x2011 2 + leNat v) (forwardAccess true 0x2011 1 u))) := by
  cases hc : s.straps.compat <;> simp [acceptWrite, grantRule, hc]

/-- What a grant that R83 takes leaves, when it is logged with the bytes a. -/
def granted (q : Req) (command n : Nat) (a : Bytes) (s : State) : State :=
  respond q 0 [] (auditWrite q 0x2011 1 a
    (withRg 0x2011 2 (rg s 0x2011 2 + n) (forwardAccess true 0x2011 1 (heardAs q command 0x2011 1 s))))

theorem writeReq_granted {q : Req} {v : Bytes} {s : State} (h : Ready q .tenant s) (w : Writable .tenant 0x2011 1 v s)
    (hd : takesGrants s = true) (hn : rg s 0x2011 2 + leNat v < 2 ^ 32) :
    ∃ a, writeReq q 0 0x2011 1 v (grantRule v) s = granted q (writeCommand v) (leNat v) a s := by
  have hcodes : ∀ c ∈ (grantRule v (heardAs q (writeCommand v) 0x2011 1 s)).codes, c = 0 := by
    rw [grantRule_codes]
    exact grantCodes_zero hd hn
  rw [writeReq_accepted h w hcodes, acceptWrite_grantRule, rg_heardAs]
  exact ⟨_, rfl⟩

@[simp] theorem rg_granted_count (q : Req) (command n : Nat) (a : Bytes) (s : State) :
    rg (granted q command n a s) 0x2011 2 = rg s 0x2011 2 + n := by
  unfold granted
  rw [rg_respond, rg_auditWrite _ (by decide) (by unfold counted; decide), rg_withRg_same]

theorem answers_granted (q : Req) (command n : Nat) (a : Bytes) (s : State) (h : s.ring.bypassOpen = true) :
    Answers q 0 [] (granted q command n a s) := by
  refine answers_respond _ _ _ _ ?_
  rw [auditWrite_bypass, withRg_ring, forwardAccess_bypass, heardAs_bypass, h]

theorem regsExcept_granted (q : Req) (command n : Nat) (a : Bytes) (s : State) :
    regsExcept [(0x2011, 2)] s (granted q command n a s) := by
  refine regsExcept_respond_auditWrite _ _ _ _ _ _ ?_
  exact regsExcept_trans (fun i j _ _ _ _ _ => by rw [rg_forwardAccess, rg_heardAs])
    (regsExcept_withRg _ _ (by decide) (by simp))

/-- A grant that R83 refuses is answered with its code and leaves every object but those the log and events count in. -/
theorem writeReq_grant_refused {q : Req} {v : Bytes} {s : State} {code : Nat} (h : Ready q .tenant s)
    (w : Writable .tenant 0x2011 1 v s) (hc : firstByClass (grantCodes (leNat v) s) = code) (h0 : code ≠ 0) :
    Answers q code [] (writeReq q 0 0x2011 1 v (grantRule v) s) ∧
      regsExcept [] s (writeReq q 0 0x2011 1 v (grantRule v) s) := by
  rw [← grantRule_codes q (writeCommand v)] at hc
  rw [writeReq_refused h w rfl (by rw [hc]; exact h0), hc]
  exact ⟨answers_rejectReq q code _ (by rw [← h.sends]; exact heardAs_bypass ..),
    regsExcept_trans (regsExcept_of_regs (heardAs_same ..).1) (regsExcept_rejectReq q code _)⟩

end Sys2Proof.Machine

open Sys2Proof Sys2Proof.Machine

/-- Settles O16: a grant is a write that only its rule can refuse, and the rule's two conditions are of different
classes of R11, the state before the count. -/
theorem grantsAddToTheCount : Obligations.GrantsAddToTheCount := by
  unfold Obligations.GrantsAddToTheCount
  intro q n s hn hcompat h w
  have hv : leNat (leBytes (if s.straps.compat then 2 else 4) n) = n :=
    leNat_leBytes (by split <;> [exact hcompat ‹_›; exact hn])
  generalize hvalue : leBytes (if s.straps.compat then 2 else 4) n = v at w hv
  have hexec : exec (.grantSteps q n) s = .next (writeReq q 0 0x2011 1 v (grantRule v) s) := by
    subst hvalue
    rfl
  subst hv
  refine ⟨fun hd hsum => ?_, fun hd => ⟨_, hexec, ?_⟩, fun hd hsum => ⟨_, hexec, ?_⟩⟩
  · obtain ⟨a, ht⟩ := writeReq_granted h w (takesGrants_iff.mpr hd) hsum
    rw [ht] at hexec
    exact ⟨_, hexec, rg_granted_count .., answers_granted _ _ _ _ _ h.sends, logged_write ..,
      regsExcept_granted _ _ _ _ _,
      unchanged_of_keeps _ (execGrantSteps_keeps q _ s _ hexec) (by intro p; cases p <;> decide)⟩
  · have hstate : takesGrants s = false := by rwa [← Bool.not_eq_true, takesGrants_iff]
    exact writeReq_grant_refused h w (firstByClass_grantCodes_of_state hstate) (by decide)
  · have hcount := firstByClass_grantCodes_of_count (takesGrants_iff.mpr hd) (Nat.not_lt.mpr hsum)
    exact writeReq_grant_refused h w hcount (by decide)

end

section
/-! Increments that reach a token's counter (R58, R60). -/

namespace Sys2Proof.Machine

theorem addToken_ex {sc : Score} {tok : Nat} {d : TokDecl} (n : Nat) (s : State)
    (h : sc.tokens.find? (fun x => x.id == tok) = some d) :
    (addToken sc tok n s).ex = { s.ex with step := { s.ex.step with
      tokens := set_ 0 tok (min (tokenCount s tok + n) d.final) s.ex.step.tokens } } := by
  simp only [addToken, h]
  split <;> rfl

theorem addToken_regs {sc : Score} {tok : Nat} {d : TokDecl} (n : Nat) (s : State)
    (h : sc.tokens.find? (fun x => x.id == tok) = some d) :
    (addToken sc tok n s).regs = (if d.final < tokenCount s tok + n then bump 0x2012 6 1 s else s).regs := by
  simp only [addToken, h, withStep_regs]

/-- The counter takes the sum, or the final count where the sum would pass it. -/
theorem tokenCount_addToken_same {sc : Score} {tok : Nat} {d : TokDecl} (n : Nat) (s : State)
    (h : sc.tokens.find? (fun x => x.id == tok) = some d) :
    tokenCount (addToken sc tok n s) tok = min (tokenCount s tok + n) d.final := by
  unfold tokenCount
  rw [addToken_ex n s h]
  exact at_set_same ..

theorem tokenCount_addToken_other {sc : Score} {tok k : Nat} {d : TokDecl} (n : Nat) (s : State)
    (h : sc.tokens.find? (fun x => x.id == tok) = some d) (hk : k ≠ tok) :
    tokenCount (addToken sc tok n s) k = tokenCount s k := by
  unfold tokenCount
  rw [addToken_ex n s h]
  exact at_set_other _ _ _ _ _ hk

/-- Only an increment past the final count is counted. -/
theorem rg_addToken_excess {sc : Score} {tok : Nat} {d : TokDecl} (n : Nat) (s : State)
    (h : sc.tokens.find? (fun x => x.id == tok) = some d) :
    rg (addToken sc tok n s) 0x2012 6 = (if d.final < tokenCount s tok + n
      then satAdd (sizeOf_ 0x2012 6) (rg s 0x2012 6) 1 else rg s 0x2012 6) := by
  have hr : rg (addToken sc tok n s) 0x2012 6
      = rg (if d.final < tokenCount s tok + n then bump 0x2012 6 1 s else s) 0x2012 6 := by
    unfold rg
    rw [addToken_regs n s h]
  rw [hr]
  split
  · exact rg_withRg_same ..
  · rfl

theorem regsExcept_addToken {sc : Score} {tok : Nat} {d : TokDecl} (n : Nat) (s : State)
    (h : sc.tokens.find? (fun x => x.id == tok) = some d) : regsExcept [(0x2012, 6)] s (addToken sc tok n s) := by
  refine regsExcept_trans (t := if d.final < tokenCount s tok + n then bump 0x2012 6 1 s else s) ?_
    (regsExcept_of_regs (addToken_regs n s h))
  split
  · exact regsExcept_bump _ _ (by decide) (by simp)
  · exact regsExcept_refl _ _

/-- A token packet of a running step is its increment. -/
theorem execTokenPacket_running {sc : Score} {s : State} (tok inc : Nat) (hs : s.ex.score = some sc)
    (hr : s.ex.step.running = true) (hp : s.pwr.inReset = false) :
    execTokenPacket tok inc s = .next (addToken sc tok inc (fresh s)) := by
  simp [execTokenPacket, onScore, hs, hr, hp]

end Sys2Proof.Machine

open Sys2Proof Sys2Proof.Machine

/-- Settles O21: the packet is one increment of its token's counter, whose minimum with the final count is the sum or
the final count. -/
theorem tokenCountersStopAtTheFinalCount : Obligations.TokenCountersStopAtTheFinalCount := by
  unfold Obligations.TokenCountersStopAtTheFinalCount
  intro tok inc sc d s hs hr hp hd
  have hexec := execTokenPacket_running tok inc hs hr hp
  refine ⟨_, hexec, ?_, rg_addToken_excess inc (fresh s) hd,
    fun k hk => tokenCount_addToken_other inc (fresh s) hd hk, ?_, ?_,
    regsExcept_addToken inc (fresh s) hd, ?_⟩
  · have hsame := tokenCount_addToken_same inc (fresh s) hd
    have hcount : tokenCount (fresh s) tok = tokenCount s tok := rfl
    rw [hsame, hcount]
    split <;> omega
  · rw [addToken_stepId, fresh_stepId]
  · exact (execTokenPacket_keeps tok inc s _ hexec).dev (by decide)
  · exact unchanged_of_keeps _ (execTokenPacket_keeps tok inc s _ hexec) (by intro p; cases p <;> decide)

end

section
/-! Data slots that are replaced by empty ones, and the messages that they lose (R390 to R392). -/

namespace Sys2Proof.Machine

/-! ## The slot sent in place of a bad or a taken one -/

/-- What carries no message of the module leaves at once: nothing waits for a slot. -/
theorem sendRing_of_messageOf_none {o : Output} {s : State} (ho : messageOf s o = none)
    (hopen : s.ring.bypassOpen = true) : sendRing o s = emit o s := by
  simp only [sendRing, queueOut, ho, hopen, if_true]

theorem sendRing_emptySlot {s : State} (hopen : s.ring.bypassOpen = true) :
    sendRing .emptySlot s = emit .emptySlot s := sendRing_of_messageOf_none rfl hopen

/-- A slot that is not one of those taken is counted and replaced. -/
theorem execDataSlot_bad {x : Slot} {s : State} (hhears : hears s = true) (hopen : s.ring.bypassOpen = true)
    (hbad : slotGood x = false ∨ 6 < (slotFields x).typ ∨ 32 < (slotFields x).dst) :
    execDataSlot x s = .next (emit .emptySlot (bump 0x1101 1 1 (fresh s))) := by
  have hheard : ¬ (!hears s) = true := by simp [hhears]
  have hbad' : (!slotGood x) = true ∨ 6 < (slotFields x).typ ∨ 32 < (slotFields x).dst := by rwa [Bool.not_eq_true']
  rw [← sendRing_emptySlot (s := bump 0x1101 1 1 (fresh s)) hopen]
  exact congrArg Host.Outcome.next ((if_neg hheard).trans (if_pos hbad'))

/-- A slot for this position from another one joins its message, or loses it, and is replaced. -/
theorem execDataSlot_addressed {x : Slot} {s : State} (hhears : hears s = true) (hx : slotTaken x)
    (htyp : (slotFields x).typ ≠ 0) (hdst : (slotFields x).dst = position s) (hsrc : (slotFields x).src ≠ position s) :
    execDataSlot x s = .next (sendRing .emptySlot (takeSlot x (fresh s))) := by
  obtain ⟨hgood, htypes, hdsts⟩ := hx
  have hheard : ¬ (!hears s) = true := by simp [hhears]
  have hbad : ¬ ((!slotGood x) = true ∨ 6 < (slotFields x).typ ∨ 32 < (slotFields x).dst) := by
    simp [hgood, htypes, hdsts]
  exact congrArg Host.Outcome.next ((if_neg hheard).trans <| (if_neg hbad).trans <|
    (if_neg fun h => hsrc h.1).trans <| if_pos ⟨htyp, hdst⟩)

/-! ## A message lost -/

theorem partOf_dropPart_same (src sess msg : Nat) (s : State) :
    partOf (dropPart src sess msg s) src sess msg = none := by
  rw [partOf, List.find?_eq_none]
  intro p hp
  rw [Bool.not_eq_true, ← Bool.not_eq_true']
  exact (List.mem_filter.mp hp).2

/-- A slot that is not its message's next one loses the message, which is counted. -/
theorem takeSlot_out_of_order {x : Slot} {p : PartMsg} {s : State} (hfirst : (slotFields x).first = false)
    (hpart : partOf s (slotFields x).src (slotFields x).sess (slotFields x).msg = some p)
    (hnum : (slotFields x).num ≠ p.next) :
    takeSlot x s
      = bump 0x1101 3 1 (dropPart (slotFields x).src (slotFields x).sess (slotFields x).msg s) := by
  simp [takeSlot, hfirst, hpart, hnum]

end Sys2Proof.Machine

open Sys2Proof Sys2Proof.Machine

/-- Settles O44: a bad slot is counted and an empty one sent in its place; a message's slot that comes when an earlier
one is missing is out of order, and the part received is dropped (notes/assumptions/30.md). -/
theorem aBadSlotLosesItsMessage : Obligations.ABadSlotLosesItsMessage := by
  unfold Obligations.ABadSlotLosesItsMessage
  refine ⟨fun x s hhears hopen hbad => ?_,
    fun x f p s hhears hopen hf hgood htyp htypes hdsts hdst hsrc hfirst hpart hnum => ?_⟩
  · refine ⟨_, execDataSlot_bad hhears hopen hbad, rfl, rg_withRg_same .., ?_, ?_⟩
    · exact regsExcept_bump 1 (fresh s) (by decide) (by simp)
    · have hkeeps : Keeps 1048557 s (emit .emptySlot (bump 0x1101 1 1 (fresh s))) := by simp
      exact unchanged_of_keeps _ hkeeps (by intro p; cases p <;> decide)
  · subst hf
    have hexec := execDataSlot_addressed hhears ⟨hgood, htypes, hdsts⟩ (Nat.one_le_iff_ne_zero.mp htyp) hdst hsrc
    rw [takeSlot_out_of_order (s := fresh s) hfirst hpart hnum.ne',
      sendRing_emptySlot (s := bump 0x1101 3 1 (dropPart _ _ _ (fresh s))) hopen] at hexec
    refine ⟨_, hexec, rfl, partOf_dropPart_same _ _ _ (fresh s), rfl, rg_withRg_same .., ?_, ?_⟩
    · exact regsExcept_bump 1 (dropPart _ _ _ (fresh s)) (by decide) (by simp)
    · have hkeeps : Keeps 983021 s (emit .emptySlot (bump 0x1101 3 1
          (dropPart (slotFields x).src (slotFields x).sess (slotFields x).msg (fresh s)))) := by simp
      exact unchanged_of_keeps _ hkeeps (by intro p; cases p <;> decide)

end

section
/-! The test port's identification register (R524, R525). -/

namespace Sys2Proof.Machine

@[simp] theorem portOpen_fresh (s : State) : portOpen (fresh s) = portOpen s := rfl

/-- An instruction that leaves no die undefined touches the port alone: it is loaded, and the pins are released. -/
theorem loadInstr_not_intrusive (ir : BitVec 8) (s : State) :
    loadInstr ir false s = { s with test := { s.test with ir := ir, driven := false, highz := false } } := rfl

/-- An open port loads IDCODE and shifts the register out as the only thing sent. -/
theorem execIdcode_of_portOpen {s : State} (hopen : portOpen s = true) :
    execIdcode s = .next (emit (.tdo 0x14B12C3B) (loadInstr 0x02 false (fresh s))) := by
  simp [execIdcode, hopen]

end Sys2Proof.Machine

open Sys2Proof Sys2Proof.Machine

/-- Settles O59: IDCODE is not intrusive, so an open port loads it and adds the register to what the step sends, which
begins empty; the four fields are cut from the register's value. -/
theorem theIdentificationRegisterReads : Obligations.TheIdentificationRegisterReads := by
  unfold Obligations.TheIdentificationRegisterReads
  refine ⟨fun s hopen => ?_, by decide, by decide, by decide, by decide⟩
  have hexec : exec .idcode s = execIdcode s := rfl
  rw [hexec, execIdcode_of_portOpen hopen, loadInstr_not_intrusive]
  rfl

end

section
/-! Every command: its parts, its objects, the canonical form and the stops, each assembled from the commands' own
lemmas by one case split over the constructors. -/

namespace Sys2Proof.Machine

/-! ## Frames by a check of masks -/

/-- Every part of the state is among those named or kept by the mask. -/
def partsCovered (m : Nat) (ps : List Part) : Bool :=
  [Part.queue, .wires, .freeCounter, .device, .registers, .straps, .execution, .sites, .siteMap, .memory, .links,
    .dieErrors, .photonics, .fabric, .collectives, .resilience, .ring, .security, .power, .test].all
    fun p => ps.contains p || m.testBit (partBit p)

theorem unchanged_of_covered {m : Nat} {ps : List Part} {s t : State} (h : Keeps m s t)
    (hm : partsCovered m ps = true) : unchangedExcept ps s t := by
  refine unchanged_of_keeps ps h fun p hp => ?_
  have hall := List.all_eq_true.mp hm p (by cases p <;> decide)
  simpa [hp] using hall

/-- Every index of the list is among those named or kept by the mask, which also keeps those outside the list. -/
def objectsCovered (m : Nat) (l : List Nat) : Bool :=
  (ixList.all fun i => l.contains i || m.testBit (ixBit i)) && m.testBit ixList.length

theorem objects_of_covered {m i : Nat} {l : List Nat} {s t : State} (h : RgK m s t) (hm : objectsCovered m l = true)
    (j : Nat) (hi : i ∉ l) : rg t i j = rg s i j := by
  obtain ⟨hlist, hrest⟩ := Bool.and_eq_true_iff.mp hm
  refine h i j ?_
  by_cases hmem : i ∈ ixList
  · simpa [hi] using List.all_eq_true.mp hlist i hmem
  · rwa [ixBit, List.idxOf_of_notMem hmem]

/-! ## The commands -/

theorem exec_unchanged {c : Instr} {s t : State} (h : exec c s = .next t) : unchangedExcept c.parts s t := by
  cases c with
  | join => exact unchanged_of_covered (execJoin_keeps (h := h)) rfl
  | leave => exact unchanged_of_covered (execLeave_keeps (h := h)) rfl
  | clearFault => exact unchanged_of_covered (execClearFault_keeps (h := h)) rfl
  | prepare => exact unchanged_of_covered (execPrepare_keeps (h := h)) rfl
  | prepareComplete => exact unchanged_of_covered (execPrepareComplete_keeps (h := h)) rfl
  | run => exact unchanged_of_covered (execRun_keeps (h := h)) rfl
  | hold => exact unchanged_of_covered (execHold_keeps (h := h)) rfl
  | release => exact unchanged_of_covered (execRelease_keeps (h := h)) rfl
  | unprepare => exact unchanged_of_covered (execUnprepare_keeps (h := h)) rfl
  | grantSteps => exact unchanged_of_covered (execGrantSteps_keeps (h := h)) rfl
  | postMicroBatch => exact unchanged_of_covered (execPostMicroBatch_keeps (h := h)) rfl
  | stepStart => exact unchanged_of_covered (execStepStart_keeps (h := h)) rfl
  | stepBoundary => exact unchanged_of_covered (execStepBoundary_keeps (h := h)) rfl
  | stepStalled => exact unchanged_of_covered (execStepStalled_keeps (h := h)) rfl
  | crumbFire => exact unchanged_of_covered (execCrumbFire_keeps (h := h)) rfl
  | crumbRetire => exact unchanged_of_covered (execCrumbRetire_keeps (h := h)) rfl
  | watchSampleComplete => exact unchanged_of_covered (execWatchSampleComplete_keeps (h := h)) rfl
  | commitGatedRetire => exact unchanged_of_covered (execCommitGatedRetire_keeps (h := h)) rfl
  | padElision => exact unchanged_of_covered (execPadElision_keeps (h := h)) rfl
  | stealing => exact unchanged_of_covered (execStealing_keeps (h := h)) rfl
  | tokenPacket => exact unchanged_of_covered (execTokenPacket_keeps (h := h)) rfl
  | creditGrantPacket => exact unchanged_of_covered (execCreditGrantPacket_keeps (h := h)) rfl
  | copyJobFire => exact unchanged_of_covered (execCopyJobFire_keeps (h := h)) rfl
  | copyJobRetire => exact unchanged_of_covered (execCopyJobRetire_keeps (h := h)) rfl
  | streamSegmentStart => exact unchanged_of_covered (execStreamSegmentStart_keeps (h := h)) rfl
  | streamSegmentComplete => exact unchanged_of_covered (execStreamSegmentComplete_keeps (h := h)) rfl
  | verdictPoint => exact unchanged_of_covered (execVerdictPoint_keeps (h := h)) rfl
  | pairDigestReceive => exact unchanged_of_covered (execPairDigestReceive_keeps (h := h)) rfl
  | verdictReductionComplete => exact unchanged_of_covered (execVerdictReductionComplete_keeps (h := h)) rfl
  | lossReductionComplete => exact unchanged_of_covered (execLossReductionComplete_keeps (h := h)) rfl
  | securingTransfer => exact unchanged_of_covered (execSecuringTransfer_keeps (h := h)) rfl
  | collectiveLaunch => exact unchanged_of_covered (execCollectiveLaunch_keeps (h := h)) rfl
  | collectiveChunk => exact unchanged_of_covered (execCollectiveChunk_keeps (h := h)) rfl
  | pralineWord => exact unchanged_of_covered (execPralineWord_keeps (h := h)) rfl
  | pralineRepeat => exact unchanged_of_covered (execPralineRepeat_keeps (h := h)) rfl
  | hostCopyRequest => exact unchanged_of_covered (execHostCopyRequest_keeps (h := h)) rfl
  | hostCopyComplete => exact unchanged_of_covered (execHostCopyComplete_keeps (h := h)) rfl
  | memoryReadRequest => exact unchanged_of_covered (execMemoryReadRequest_keeps (h := h)) rfl
  | memoryWrite => exact unchanged_of_covered (execMemoryWrite_keeps (h := h)) rfl
  | memoryReadResponse => exact unchanged_of_covered (execMemoryReadResponse_keeps (_data := []) (h := h)) rfl
  | writeAcknowledgement => exact unchanged_of_covered (execWriteAcknowledgement_keeps (h := h)) rfl
  | writeCombineTimeout => exact unchanged_of_covered (execWriteCombineTimeout_keeps (h := h)) rfl
  | hbmRefresh => exact unchanged_of_covered (execHbmRefresh_keeps (h := h)) rfl
  | hbmTemperatureReadout => exact unchanged_of_covered (execHbmTemperatureReadout_keeps (h := h)) rfl
  | patrolScrub => exact unchanged_of_covered (execPatrolScrub_keeps (h := h)) rfl
  | hbmTrainingComplete => exact unchanged_of_covered (execHbmTrainingComplete_keeps (h := h)) rfl
  | generatorWriteReadCheck => exact unchanged_of_covered (execGeneratorWriteReadCheck_keeps (h := h)) rfl
  | generatorWrite => exact unchanged_of_covered (execGeneratorWrite_keeps (h := h)) rfl
  | generatorReadCheck => exact unchanged_of_covered (execGeneratorReadCheck_keeps (h := h)) rfl
  | generatorStopAll => exact unchanged_of_covered (execGeneratorStopAll_keeps (h := h)) rfl
  | generatorComplete => exact unchanged_of_covered (execGeneratorComplete_keeps (h := h)) rfl
  | partitionSettingWrite => exact unchanged_of_covered (execPartitionSettingWrite_keeps (h := h)) rfl
  | quadrantLocalBoundaryWrite => exact unchanged_of_covered (execQuadrantLocalBoundaryWrite_keeps (h := h)) rfl
  | stackPortTransfer => exact unchanged_of_covered (execStackPortTransfer_keeps (h := h)) rfl
  | qlDataUnit => exact unchanged_of_covered (execQlDataUnit_keeps (h := h)) rfl
  | qlIdleUnit => exact unchanged_of_covered (execQlIdleUnit_keeps (h := h)) rfl
  | qlNakUnit => exact unchanged_of_covered (execQlNakUnit_keeps (h := h)) rfl
  | qlReplayTimeout => exact unchanged_of_covered (execQlReplayTimeout_keeps (h := h)) rfl
  | qlRetrainComplete => exact unchanged_of_covered (execQlRetrainComplete_keeps (h := h)) rfl
  | qlRetrainTimeout => exact unchanged_of_covered (execQlRetrainTimeout_keeps (h := h)) rfl
  | leaseGrant => exact unchanged_of_covered (execLeaseGrant_keeps (h := h)) rfl
  | leaseRenewalDue => exact unchanged_of_covered (execLeaseRenewalDue_keeps (h := h)) rfl
  | leaseRenewal => exact unchanged_of_covered (execLeaseRenewal_keeps (h := h)) rfl
  | renewalAcknowledgement => exact unchanged_of_covered (execRenewalAcknowledgement_keeps (h := h)) rfl
  | granuleReturn => exact unchanged_of_covered (execGranuleReturn_keeps (h := h)) rfl
  | issuerLeaseExpiry => exact unchanged_of_covered (execIssuerLeaseExpiry_keeps (h := h)) rfl
  | holderLeaseExpiry => exact unchanged_of_covered (execHolderLeaseExpiry_keeps (h := h)) rfl
  | tokenIncrementParcel => exact unchanged_of_covered (execTokenIncrementParcel_keeps (h := h)) rfl
  | dataFlit => exact unchanged_of_covered (execDataFlit_keeps (h := h)) rfl
  | idleFlit => exact unchanged_of_covered (execIdleFlit_keeps (h := h)) rfl
  | nakFlit => exact unchanged_of_covered (execNakFlit_keeps (h := h)) rfl
  | testFlit => exact unchanged_of_covered (execTestFlit_keeps (h := h)) rfl
  | flitReplayTimeout => exact unchanged_of_covered (execFlitReplayTimeout_keeps (h := h)) rfl
  | parcelForward => exact unchanged_of_covered (execParcelForward_keeps (h := h)) rfl
  | parcelDelivery => exact unchanged_of_covered (execParcelDelivery_keeps (h := h)) rfl
  | laneFrame => exact unchanged_of_covered (execLaneFrame_keeps (h := h)) rfl
  | laneFrameTimeout => exact unchanged_of_covered (execLaneFrameTimeout_keeps (h := h)) rfl
  | ringLockLoop => exact unchanged_of_covered (execRingLockLoop_keeps (h := h)) rfl
  | searchCandidateTimeout => exact unchanged_of_covered (execSearchCandidateTimeout_keeps (h := h)) rfl
  | ringSearchLineReached => exact unchanged_of_covered (execRingSearchLineReached_keeps (h := h)) rfl
  | anchorSweepRetry => exact unchanged_of_covered (execAnchorSweepRetry_keeps (h := h)) rfl
  | opticalCommissioningComplete => exact unchanged_of_covered (execOpticalCommissioningComplete_keeps (h := h)) rfl
  | wavelengthCheck => exact unchanged_of_covered (execWavelengthCheck_keeps (h := h)) rfl
  | calibrationSlot => exact unchanged_of_covered (execCalibrationSlot_keeps (h := h)) rfl
  | calibrationSlotEnd => exact unchanged_of_covered (execCalibrationSlotEnd_keeps (h := h)) rfl
  | laserPowerReading => exact unchanged_of_covered (execLaserPowerReading_keeps (h := h)) rfl
  | spareLaserLocked => exact unchanged_of_covered (execSpareLaserLocked_keeps (h := h)) rfl
  | recommissionPort => exact unchanged_of_covered (execRecommissionPort_keeps (h := h)) rfl
  | transmitGenerationWrite => exact unchanged_of_covered (execTransmitGenerationWrite_keeps (h := h)) rfl
  | exceptionEntryWrite => exact unchanged_of_covered (execExceptionEntryWrite_keeps (h := h)) rfl
  | rankOverrideWrite => exact unchanged_of_covered (execRankOverrideWrite_keeps (h := h)) rfl
  | fabricConfigurationWrite => exact unchanged_of_covered (execFabricConfigurationWrite_keeps (h := h)) rfl
  | groupMemberEntryWrite => exact unchanged_of_covered (execGroupMemberEntryWrite_keeps (h := h)) rfl
  | groupDescriptorWrite => exact unchanged_of_covered (execGroupDescriptorWrite_keeps (h := h)) rfl
  | abandon => exact unchanged_of_covered (execAbandon_keeps (h := h)) rfl
  | abandonComplete => exact unchanged_of_covered (execAbandonComplete_keeps (h := h)) rfl
  | restore => exact unchanged_of_covered (execRestore_keeps (h := h)) rfl
  | restoreComplete => exact unchanged_of_covered (execRestoreComplete_keeps (h := h)) rfl
  | remoteReadRequest => exact unchanged_of_covered (execRemoteReadRequest_keeps (h := h)) rfl
  | remoteReadResponse => exact unchanged_of_covered (execRemoteReadResponse_keeps (h := h)) rfl
  | remoteWrite => exact unchanged_of_covered (execRemoteWrite_keeps (h := h)) rfl
  | holdCommitArm => exact unchanged_of_covered (execHoldCommitArm_keeps (h := h)) rfl
  | scaleStateLoad => exact unchanged_of_covered (execScaleStateLoad_keeps (h := h)) rfl
  | kz8StartScaleWrite => exact unchanged_of_covered (execKz8StartScaleWrite_keeps (h := h)) rfl
  | frameMark => exact unchanged_of_covered (execFrameMark_keeps (h := h)) rfl
  | dataSlot => exact unchanged_of_covered (execDataSlot_keeps (h := h)) rfl
  | messageTimeout => exact unchanged_of_covered (execMessageTimeout_keeps (h := h)) rfl
  | expeditedWrite => exact unchanged_of_covered (execExpeditedWrite_keeps (h := h)) rfl
  | expeditedRead => exact unchanged_of_covered (execExpeditedRead_keeps (h := h)) rfl
  | segmentedWrite => exact unchanged_of_covered (execSegmentedWrite_keeps (h := h)) rfl
  | segmentedRead => exact unchanged_of_covered (execSegmentedRead_keeps (h := h)) rfl
  | blockWrite => exact unchanged_of_covered (execBlockWrite_keeps (h := h)) rfl
  | blockRead => exact unchanged_of_covered (execBlockRead_keeps (h := h)) rfl
  | dictionaryWrite => exact unchanged_of_covered (execDictionaryWrite_keeps (h := h)) rfl
  | blockData => exact unchanged_of_covered (execBlockData_keeps (h := h)) rfl
  | bulkBlockWritten => exact unchanged_of_covered (execBulkBlockWritten_keeps (h := h)) rfl
  | blockAcknowledgement => exact unchanged_of_covered (execBlockAcknowledgement_keeps (h := h)) rfl
  | blockAckTimeout => exact unchanged_of_covered (execBlockAckTimeout_keeps (h := h)) rfl
  | bulkOpen => exact unchanged_of_covered (execBulkOpen_keeps (h := h)) rfl
  | bulkClose => exact unchanged_of_covered (execBulkClose_keeps (h := h)) rfl
  | eventTransmit => exact unchanged_of_covered (execEventTransmit_keeps (h := h)) rfl
  | hello => exact unchanged_of_covered (execHello_keeps (_reserved := 0) (h := h)) rfl
  | finish => exact unchanged_of_covered (execFinish_keeps (h := h)) rfl
  | finishTimeout => exact unchanged_of_covered (execFinishTimeout_keeps (h := h)) rfl
  | close => exact unchanged_of_covered (execClose_keeps (h := h)) rfl
  | fabricKeyInstall => exact unchanged_of_covered (execFabricKeyInstall_keeps (h := h)) rfl
  | regionKeyInstall => exact unchanged_of_covered (execRegionKeyInstall_keeps (h := h)) rfl
  | regionRemove => exact unchanged_of_covered (execRegionRemove_keeps (h := h)) rfl
  | enrolmentWrite => exact unchanged_of_covered (execEnrolmentWrite_keeps (h := h)) rfl
  | firmwareImageWrite => exact unchanged_of_covered (execFirmwareImageWrite_keeps (h := h)) rfl
  | firmwareWriteComplete => exact unchanged_of_covered (execFirmwareWriteComplete_keeps (h := h)) rfl
  | attestationQuote => exact unchanged_of_covered (execAttestationQuote_keeps (h := h)) rfl
  | ringClockLoss => exact unchanged_of_covered (execRingClockLoss_keeps (h := h)) rfl
  | ringClockReturn => exact unchanged_of_covered (execRingClockReturn_keeps (h := h)) rfl
  | timeReferenceLost => exact unchanged_of_covered (execTimeReferenceLost_keeps (h := h)) rfl
  | ppsEdge => exact unchanged_of_covered (execPpsEdge_keeps (h := h)) rfl
  | timeReferenceWrite => exact unchanged_of_covered (execTimeReferenceWrite_keeps (h := h)) rfl
  | powerStateRequest => exact unchanged_of_covered (execPowerStateRequest_keeps (h := h)) rfl
  | powerStateReached => exact unchanged_of_covered (execPowerStateReached_keeps (h := h)) rfl
  | blockEnableWrite => exact unchanged_of_covered (execBlockEnableWrite_keeps (h := h)) rfl
  | pllSettingWrite => exact unchanged_of_covered (execPllSettingWrite_keeps (h := h)) rfl
  | supplyOrTemperatureFault => exact unchanged_of_covered (execSupplyOrTemperatureFault_keeps (h := h)) rfl
  | thermTrip => exact unchanged_of_covered (execThermTrip_keeps (h := h)) rfl
  | pmbusPoll => exact unchanged_of_covered (execPmbusPoll_keeps (h := h)) rfl
  | pmbusAlert => exact unchanged_of_covered (execPmbusAlert_keeps (h := h)) rfl
  | islandMismatch => exact unchanged_of_covered (execIslandMismatch_keeps (h := h)) rfl
  | moduleReset => exact unchanged_of_covered (execModuleReset_keeps (h := h)) rfl
  | resetRelease => exact unchanged_of_covered (execResetRelease_keeps (h := h)) rfl
  | symbolLock => exact unchanged_of_covered (execSymbolLock_keeps (h := h)) rfl
  | settleDelayElapsed => exact unchanged_of_covered (execSettleDelayElapsed_keeps (h := h)) rfl
  | islandSelfTest => exact unchanged_of_covered (execIslandSelfTest_keeps (h := h)) rfl
  | firmwareVerified => exact unchanged_of_covered (execFirmwareVerified_keeps (h := h)) rfl
  | selfTestTileStores => exact unchanged_of_covered (execSelfTestTileStores_keeps (h := h)) rfl
  | selfTestSharedCache => exact unchanged_of_covered (execSelfTestSharedCache_keeps (h := h)) rfl
  | selfTestMemorySideCache => exact unchanged_of_covered (execSelfTestMemorySideCache_keeps (h := h)) rfl
  | selfTestHbmStack => exact unchanged_of_covered (execSelfTestHbmStack_keeps (h := h)) rfl
  | selfTestComplete => exact unchanged_of_covered (execSelfTestComplete_keeps (h := h)) rfl
  | testPortEnable => exact unchanged_of_covered (execTestPortEnable_keeps (h := h)) rfl
  | tapReset => exact unchanged_of_covered (execTapReset_keeps (h := h)) rfl
  | extest => exact unchanged_of_covered (execExtest_keeps (h := h)) rfl
  | samplePreload => exact unchanged_of_covered (execSamplePreload_keeps (h := h)) rfl
  | idcode => exact unchanged_of_covered (execIdcode_keeps (h := h)) rfl
  | clamp => exact unchanged_of_covered (execClamp_keeps (h := h)) rfl
  | highz => exact unchanged_of_covered (execHighz_keeps (h := h)) rfl
  | dieSelect => exact unchanged_of_covered (execDieSelect_keeps (h := h)) rfl
  | dieAccess => exact unchanged_of_covered (execDieAccess_keeps (h := h)) rfl
  | bypass => exact unchanged_of_covered (execBypass_keeps (h := h)) rfl
  | coreTestDue => exact unchanged_of_covered (execCoreTestDue_keeps (h := h)) rfl
  | coreTestStart => exact unchanged_of_covered (execCoreTestStart_keeps (h := h)) rfl
  | coreTestOverdue => exact unchanged_of_covered (execCoreTestOverdue_keeps (h := h)) rfl
  | coreTestComplete => exact unchanged_of_covered (execCoreTestComplete_keeps (h := h)) rfl
  | tenantStateErased => exact unchanged_of_covered (execTenantStateErased_keeps (h := h)) rfl
  | timeReferenceReturn => exact unchanged_of_covered (execTimeReferenceReturn_keeps (h := h)) rfl

theorem exec_objects {c : Instr} {l : List Nat} {s t : State} (hl : c.objects = some l) (h : exec c s = .next t)
    {i : Nat} (j : Nat) (hi : i ∉ l) : rg t i j = rg s i j := by
  cases c with
  | join => cases hl; exact objects_of_covered (execJoin_rgK (h := h)) rfl j hi
  | leave => cases hl
  | clearFault => cases hl
  | prepare => cases hl
  | prepareComplete => cases hl
  | run => cases hl
  | hold => cases hl
  | release => cases hl
  | unprepare => cases hl
  | grantSteps => cases hl; exact objects_of_covered (execGrantSteps_rgK (h := h)) rfl j hi
  | postMicroBatch => cases hl; exact objects_of_covered (execPostMicroBatch_rgK (h := h)) rfl j hi
  | stepStart => cases hl; exact objects_of_covered (execStepStart_rgK (h := h)) rfl j hi
  | stepBoundary => cases hl; exact objects_of_covered (execStepBoundary_rgK (h := h)) rfl j hi
  | stepStalled => cases hl; exact objects_of_covered (execStepStalled_rgK (h := h)) rfl j hi
  | crumbFire => cases hl; exact objects_of_covered (execCrumbFire_rgK (h := h)) rfl j hi
  | crumbRetire => cases hl; exact objects_of_covered (execCrumbRetire_rgK (h := h)) rfl j hi
  | watchSampleComplete => cases hl; exact objects_of_covered (execWatchSampleComplete_rgK (h := h)) rfl j hi
  | commitGatedRetire => cases hl; exact objects_of_covered (execCommitGatedRetire_rgK (h := h)) rfl j hi
  | padElision => cases hl; exact objects_of_covered (execPadElision_rgK (h := h)) rfl j hi
  | stealing => cases hl; exact objects_of_covered (execStealing_rgK (h := h)) rfl j hi
  | tokenPacket => cases hl; exact objects_of_covered (execTokenPacket_rgK (h := h)) rfl j hi
  | creditGrantPacket => cases hl; exact objects_of_covered (execCreditGrantPacket_rgK (h := h)) rfl j hi
  | copyJobFire => cases hl; exact objects_of_covered (execCopyJobFire_rgK (h := h)) rfl j hi
  | copyJobRetire => cases hl; exact objects_of_covered (execCopyJobRetire_rgK (h := h)) rfl j hi
  | streamSegmentStart => cases hl; exact objects_of_covered (execStreamSegmentStart_rgK (h := h)) rfl j hi
  | streamSegmentComplete => cases hl; exact objects_of_covered (execStreamSegmentComplete_rgK (h := h)) rfl j hi
  | verdictPoint => cases hl; exact objects_of_covered (execVerdictPoint_rgK (h := h)) rfl j hi
  | pairDigestReceive => cases hl; exact objects_of_covered (execPairDigestReceive_rgK (h := h)) rfl j hi
  | verdictReductionComplete => cases hl; exact objects_of_covered (execVerdictReductionComplete_rgK (h := h)) rfl j hi
  | lossReductionComplete => cases hl; exact objects_of_covered (execLossReductionComplete_rgK (h := h)) rfl j hi
  | securingTransfer => cases hl; exact objects_of_covered (execSecuringTransfer_rgK (h := h)) rfl j hi
  | collectiveLaunch => cases hl; exact objects_of_covered (execCollectiveLaunch_rgK (h := h)) rfl j hi
  | collectiveChunk => cases hl; exact objects_of_covered (execCollectiveChunk_rgK (h := h)) rfl j hi
  | pralineWord => cases hl; exact objects_of_covered (execPralineWord_rgK (h := h)) rfl j hi
  | pralineRepeat => cases hl; exact objects_of_covered (execPralineRepeat_rgK (h := h)) rfl j hi
  | hostCopyRequest => cases hl; exact objects_of_covered (execHostCopyRequest_rgK (h := h)) rfl j hi
  | hostCopyComplete => cases hl; exact objects_of_covered (execHostCopyComplete_rgK (h := h)) rfl j hi
  | memoryReadRequest => cases hl; exact objects_of_covered (execMemoryReadRequest_rgK (h := h)) rfl j hi
  | memoryWrite => cases hl; exact objects_of_covered (execMemoryWrite_rgK (h := h)) rfl j hi
  | memoryReadResponse => cases hl; exact objects_of_covered (execMemoryReadResponse_rgK (_data := []) (h := h)) rfl j hi
  | writeAcknowledgement => cases hl; exact objects_of_covered (execWriteAcknowledgement_rgK (h := h)) rfl j hi
  | writeCombineTimeout => cases hl; exact objects_of_covered (execWriteCombineTimeout_rgK (h := h)) rfl j hi
  | hbmRefresh => cases hl; exact objects_of_covered (execHbmRefresh_rgK (h := h)) rfl j hi
  | hbmTemperatureReadout => cases hl; exact objects_of_covered (execHbmTemperatureReadout_rgK (h := h)) rfl j hi
  | patrolScrub => cases hl; exact objects_of_covered (execPatrolScrub_rgK (h := h)) rfl j hi
  | hbmTrainingComplete => cases hl; exact objects_of_covered (execHbmTrainingComplete_rgK (h := h)) rfl j hi
  | generatorWriteReadCheck => cases hl; exact objects_of_covered (execGeneratorWriteReadCheck_rgK (h := h)) rfl j hi
  | generatorWrite => cases hl; exact objects_of_covered (execGeneratorWrite_rgK (h := h)) rfl j hi
  | generatorReadCheck => cases hl; exact objects_of_covered (execGeneratorReadCheck_rgK (h := h)) rfl j hi
  | generatorStopAll => cases hl; exact objects_of_covered (execGeneratorStopAll_rgK (h := h)) rfl j hi
  | generatorComplete => cases hl; exact objects_of_covered (execGeneratorComplete_rgK (h := h)) rfl j hi
  | partitionSettingWrite => cases hl; exact objects_of_covered (execPartitionSettingWrite_rgK (h := h)) rfl j hi
  | quadrantLocalBoundaryWrite => cases hl; exact objects_of_covered (execQuadrantLocalBoundaryWrite_rgK (h := h)) rfl j hi
  | stackPortTransfer => cases hl; exact objects_of_covered (execStackPortTransfer_rgK (h := h)) rfl j hi
  | qlDataUnit => cases hl; exact objects_of_covered (execQlDataUnit_rgK (h := h)) rfl j hi
  | qlIdleUnit => cases hl; exact objects_of_covered (execQlIdleUnit_rgK (h := h)) rfl j hi
  | qlNakUnit => cases hl; exact objects_of_covered (execQlNakUnit_rgK (h := h)) rfl j hi
  | qlReplayTimeout => cases hl; exact objects_of_covered (execQlReplayTimeout_rgK (h := h)) rfl j hi
  | qlRetrainComplete => cases hl; exact objects_of_covered (execQlRetrainComplete_rgK (h := h)) rfl j hi
  | qlRetrainTimeout => cases hl; exact objects_of_covered (execQlRetrainTimeout_rgK (h := h)) rfl j hi
  | leaseGrant => cases hl; exact objects_of_covered (execLeaseGrant_rgK (h := h)) rfl j hi
  | leaseRenewalDue => cases hl; exact objects_of_covered (execLeaseRenewalDue_rgK (h := h)) rfl j hi
  | leaseRenewal => cases hl; exact objects_of_covered (execLeaseRenewal_rgK (h := h)) rfl j hi
  | renewalAcknowledgement => cases hl; exact objects_of_covered (execRenewalAcknowledgement_rgK (h := h)) rfl j hi
  | granuleReturn => cases hl; exact objects_of_covered (execGranuleReturn_rgK (h := h)) rfl j hi
  | issuerLeaseExpiry => cases hl; exact objects_of_covered (execIssuerLeaseExpiry_rgK (h := h)) rfl j hi
  | holderLeaseExpiry => cases hl; exact objects_of_covered (execHolderLeaseExpiry_rgK (h := h)) rfl j hi
  | tokenIncrementParcel => cases hl; exact objects_of_covered (execTokenIncrementParcel_rgK (h := h)) rfl j hi
  | dataFlit => cases hl; exact objects_of_covered (execDataFlit_rgK (h := h)) rfl j hi
  | idleFlit => cases hl; exact objects_of_covered (execIdleFlit_rgK (h := h)) rfl j hi
  | nakFlit => cases hl; exact objects_of_covered (execNakFlit_rgK (h := h)) rfl j hi
  | testFlit => cases hl; exact objects_of_covered (execTestFlit_rgK (h := h)) rfl j hi
  | flitReplayTimeout => cases hl; exact objects_of_covered (execFlitReplayTimeout_rgK (h := h)) rfl j hi
  | parcelForward => cases hl; exact objects_of_covered (execParcelForward_rgK (h := h)) rfl j hi
  | parcelDelivery => cases hl; exact objects_of_covered (execParcelDelivery_rgK (h := h)) rfl j hi
  | laneFrame => cases hl; exact objects_of_covered (execLaneFrame_rgK (h := h)) rfl j hi
  | laneFrameTimeout => cases hl; exact objects_of_covered (execLaneFrameTimeout_rgK (h := h)) rfl j hi
  | ringLockLoop => cases hl; exact objects_of_covered (execRingLockLoop_rgK (h := h)) rfl j hi
  | searchCandidateTimeout => cases hl; exact objects_of_covered (execSearchCandidateTimeout_rgK (h := h)) rfl j hi
  | ringSearchLineReached => cases hl; exact objects_of_covered (execRingSearchLineReached_rgK (h := h)) rfl j hi
  | anchorSweepRetry => cases hl; exact objects_of_covered (execAnchorSweepRetry_rgK (h := h)) rfl j hi
  | opticalCommissioningComplete => cases hl; exact objects_of_covered (execOpticalCommissioningComplete_rgK (h := h)) rfl j hi
  | wavelengthCheck => cases hl; exact objects_of_covered (execWavelengthCheck_rgK (h := h)) rfl j hi
  | calibrationSlot => cases hl; exact objects_of_covered (execCalibrationSlot_rgK (h := h)) rfl j hi
  | calibrationSlotEnd => cases hl; exact objects_of_covered (execCalibrationSlotEnd_rgK (h := h)) rfl j hi
  | laserPowerReading => cases hl; exact objects_of_covered (execLaserPowerReading_rgK (h := h)) rfl j hi
  | spareLaserLocked => cases hl; exact objects_of_covered (execSpareLaserLocked_rgK (h := h)) rfl j hi
  | recommissionPort => cases hl; exact objects_of_covered (execRecommissionPort_rgK (h := h)) rfl j hi
  | transmitGenerationWrite => cases hl; exact objects_of_covered (execTransmitGenerationWrite_rgK (h := h)) rfl j hi
  | exceptionEntryWrite => cases hl; exact objects_of_covered (execExceptionEntryWrite_rgK (h := h)) rfl j hi
  | rankOverrideWrite => cases hl; exact objects_of_covered (execRankOverrideWrite_rgK (h := h)) rfl j hi
  | fabricConfigurationWrite => cases hl; exact objects_of_covered (execFabricConfigurationWrite_rgK (h := h)) rfl j hi
  | groupMemberEntryWrite => cases hl; exact objects_of_covered (execGroupMemberEntryWrite_rgK (h := h)) rfl j hi
  | groupDescriptorWrite => cases hl; exact objects_of_covered (execGroupDescriptorWrite_rgK (h := h)) rfl j hi
  | abandon => cases hl; exact objects_of_covered (execAbandon_rgK (h := h)) rfl j hi
  | abandonComplete => cases hl; exact objects_of_covered (execAbandonComplete_rgK (h := h)) rfl j hi
  | restore => cases hl; exact objects_of_covered (execRestore_rgK (h := h)) rfl j hi
  | restoreComplete => cases hl; exact objects_of_covered (execRestoreComplete_rgK (h := h)) rfl j hi
  | remoteReadRequest => cases hl; exact objects_of_covered (execRemoteReadRequest_rgK (h := h)) rfl j hi
  | remoteReadResponse => cases hl; exact objects_of_covered (execRemoteReadResponse_rgK (h := h)) rfl j hi
  | remoteWrite => cases hl; exact objects_of_covered (execRemoteWrite_rgK (h := h)) rfl j hi
  | holdCommitArm => cases hl; exact objects_of_covered (execHoldCommitArm_rgK (h := h)) rfl j hi
  | scaleStateLoad => cases hl; exact objects_of_covered (execScaleStateLoad_rgK (h := h)) rfl j hi
  | kz8StartScaleWrite => cases hl; exact objects_of_covered (execKz8StartScaleWrite_rgK (h := h)) rfl j hi
  | frameMark => cases hl; exact objects_of_covered (execFrameMark_rgK (h := h)) rfl j hi
  | dataSlot => cases hl
  | messageTimeout => cases hl; exact objects_of_covered (execMessageTimeout_rgK (h := h)) rfl j hi
  | expeditedWrite => cases hl
  | expeditedRead => cases hl; exact objects_of_covered (execExpeditedRead_rgK (h := h)) rfl j hi
  | segmentedWrite => cases hl
  | segmentedRead => cases hl; exact objects_of_covered (execSegmentedRead_rgK (h := h)) rfl j hi
  | blockWrite => cases hl; exact objects_of_covered (execBlockWrite_rgK (h := h)) rfl j hi
  | blockRead => cases hl; exact objects_of_covered (execBlockRead_rgK (h := h)) rfl j hi
  | dictionaryWrite => cases hl
  | blockData => cases hl
  | bulkBlockWritten => cases hl; exact objects_of_covered (execBulkBlockWritten_rgK (h := h)) rfl j hi
  | blockAcknowledgement => cases hl; exact objects_of_covered (execBlockAcknowledgement_rgK (h := h)) rfl j hi
  | blockAckTimeout => cases hl; exact objects_of_covered (execBlockAckTimeout_rgK (h := h)) rfl j hi
  | bulkOpen => cases hl; exact objects_of_covered (execBulkOpen_rgK (h := h)) rfl j hi
  | bulkClose => cases hl; exact objects_of_covered (execBulkClose_rgK (h := h)) rfl j hi
  | eventTransmit => cases hl; exact objects_of_covered (execEventTransmit_rgK (h := h)) rfl j hi
  | hello => cases hl; exact objects_of_covered (execHello_rgK (_reserved := 0) (h := h)) rfl j hi
  | finish => cases hl; exact objects_of_covered (execFinish_rgK (h := h)) rfl j hi
  | finishTimeout => cases hl; exact objects_of_covered (execFinishTimeout_rgK (h := h)) rfl j hi
  | close => cases hl; exact objects_of_covered (execClose_rgK (h := h)) rfl j hi
  | fabricKeyInstall => cases hl; exact objects_of_covered (execFabricKeyInstall_rgK (h := h)) rfl j hi
  | regionKeyInstall => cases hl; exact objects_of_covered (execRegionKeyInstall_rgK (h := h)) rfl j hi
  | regionRemove => cases hl; exact objects_of_covered (execRegionRemove_rgK (h := h)) rfl j hi
  | enrolmentWrite => cases hl
  | firmwareImageWrite => cases hl; exact objects_of_covered (execFirmwareImageWrite_rgK (h := h)) rfl j hi
  | firmwareWriteComplete => cases hl
  | attestationQuote => cases hl; exact objects_of_covered (execAttestationQuote_rgK (h := h)) rfl j hi
  | ringClockLoss => cases hl; exact objects_of_covered (execRingClockLoss_rgK (h := h)) rfl j hi
  | ringClockReturn => cases hl; exact objects_of_covered (execRingClockReturn_rgK (h := h)) rfl j hi
  | timeReferenceLost => cases hl; exact objects_of_covered (execTimeReferenceLost_rgK (h := h)) rfl j hi
  | ppsEdge => cases hl; exact objects_of_covered (execPpsEdge_rgK (h := h)) rfl j hi
  | timeReferenceWrite => cases hl; exact objects_of_covered (execTimeReferenceWrite_rgK (h := h)) rfl j hi
  | powerStateRequest => cases hl; exact objects_of_covered (execPowerStateRequest_rgK (h := h)) rfl j hi
  | powerStateReached => cases hl; exact objects_of_covered (execPowerStateReached_rgK (h := h)) rfl j hi
  | blockEnableWrite => cases hl; exact objects_of_covered (execBlockEnableWrite_rgK (h := h)) rfl j hi
  | pllSettingWrite => cases hl; exact objects_of_covered (execPllSettingWrite_rgK (h := h)) rfl j hi
  | supplyOrTemperatureFault => cases hl; exact objects_of_covered (execSupplyOrTemperatureFault_rgK (h := h)) rfl j hi
  | thermTrip => cases hl; exact objects_of_covered (execThermTrip_rgK (h := h)) rfl j hi
  | pmbusPoll => cases hl; exact objects_of_covered (execPmbusPoll_rgK (h := h)) rfl j hi
  | pmbusAlert => cases hl; exact objects_of_covered (execPmbusAlert_rgK (h := h)) rfl j hi
  | islandMismatch => cases hl; exact objects_of_covered (execIslandMismatch_rgK (h := h)) rfl j hi
  | moduleReset => cases hl
  | resetRelease => cases hl; exact objects_of_covered (execResetRelease_rgK (h := h)) rfl j hi
  | symbolLock => cases hl; exact objects_of_covered (execSymbolLock_rgK (h := h)) rfl j hi
  | settleDelayElapsed => cases hl; exact objects_of_covered (execSettleDelayElapsed_rgK (h := h)) rfl j hi
  | islandSelfTest => cases hl; exact objects_of_covered (execIslandSelfTest_rgK (h := h)) rfl j hi
  | firmwareVerified => cases hl; exact objects_of_covered (execFirmwareVerified_rgK (h := h)) rfl j hi
  | selfTestTileStores => cases hl; exact objects_of_covered (execSelfTestTileStores_rgK (h := h)) rfl j hi
  | selfTestSharedCache => cases hl; exact objects_of_covered (execSelfTestSharedCache_rgK (h := h)) rfl j hi
  | selfTestMemorySideCache => cases hl; exact objects_of_covered (execSelfTestMemorySideCache_rgK (h := h)) rfl j hi
  | selfTestHbmStack => cases hl; exact objects_of_covered (execSelfTestHbmStack_rgK (h := h)) rfl j hi
  | selfTestComplete => cases hl; exact objects_of_covered (execSelfTestComplete_rgK (h := h)) rfl j hi
  | testPortEnable => cases hl; exact objects_of_covered (execTestPortEnable_rgK (h := h)) rfl j hi
  | tapReset => cases hl; exact objects_of_covered (execTapReset_rgK (h := h)) rfl j hi
  | extest => cases hl; exact objects_of_covered (execExtest_rgK (h := h)) rfl j hi
  | samplePreload => cases hl; exact objects_of_covered (execSamplePreload_rgK (h := h)) rfl j hi
  | idcode => cases hl; exact objects_of_covered (execIdcode_rgK (h := h)) rfl j hi
  | clamp => cases hl; exact objects_of_covered (execClamp_rgK (h := h)) rfl j hi
  | highz => cases hl; exact objects_of_covered (execHighz_rgK (h := h)) rfl j hi
  | dieSelect => cases hl; exact objects_of_covered (execDieSelect_rgK (h := h)) rfl j hi
  | dieAccess => cases hl; exact objects_of_covered (execDieAccess_rgK (h := h)) rfl j hi
  | bypass => cases hl; exact objects_of_covered (execBypass_rgK (h := h)) rfl j hi
  | coreTestDue => cases hl; exact objects_of_covered (execCoreTestDue_rgK (h := h)) rfl j hi
  | coreTestStart => cases hl; exact objects_of_covered (execCoreTestStart_rgK (h := h)) rfl j hi
  | coreTestOverdue => cases hl; exact objects_of_covered (execCoreTestOverdue_rgK (h := h)) rfl j hi
  | coreTestComplete => cases hl; exact objects_of_covered (execCoreTestComplete_rgK (h := h)) rfl j hi
  | tenantStateErased => cases hl; exact objects_of_covered (execTenantStateErased_rgK (h := h)) rfl j hi
  | timeReferenceReturn => cases hl; exact objects_of_covered (execTimeReferenceReturn_rgK (h := h)) rfl j hi

/-- A packet that R28 accepts and its sender can have sent lies within one line. -/
theorem write_within_line {p : Packet} {s : State} (hok : packetOk p = true) (hsent : requestSent s p true = true) :
    p.addr % 256 + attrCount p ≤ 256 := by
  have htype : p.ptype = 3 := by
    simp only [requestSent, Bool.and_eq_true, if_true, beq_iff_eq] at hsent
    exact hsent.1.1.1
  simp only [packetOk, attrOk, htype, countOk, Bool.and_eq_true, decide_eq_true_eq] at hok
  exact hok.2.1.2

/-- A write that no controller takes is discarded or without effect. -/
theorem execMemoryWrite_not_taken_canon {p : Packet} {data : Bytes} {s t : State} (h0 : Canon s)
    (hnot : ¬ (packetOk p = true ∧ requestSent (fresh s) p true = true)) (h : execMemoryWrite p data s = .next t) :
    Canon t := by
  have hf := fresh_canon s h0
  unfold execMemoryWrite at h
  split at h
  · cases h
  · cases h
    split
    · exact hf
    · split
      · exact discardRequest_canon _ _ hf
      · split
        · exact hf
        · exact absurd ⟨by simp_all, by simp_all⟩ hnot

theorem execMemoryWrite_canon_of_wf {p : Packet} {data : Bytes} {s t : State} (hw : (Instr.memoryWrite p data).wf = true)
    (h0 : Canon s) (h : execMemoryWrite p data s = .next t) : Canon t := by
  have hlen : data.length = attrCount p := by
    simp only [Instr.wf, Bool.and_eq_true, decide_eq_true_eq] at hw
    exact hw.2
  by_cases htaken : packetOk p = true ∧ requestSent (fresh s) p true = true
  · exact execMemoryWrite_canon p data s t (hlen ▸ write_within_line htaken.1 htaken.2) h0 h
  · exact execMemoryWrite_not_taken_canon h0 htaken h

theorem exec_canon {c : Instr} {s t : State} (hw : c.wf = true) (h0 : Canon s) (h : exec c s = .next t) : Canon t := by
  cases c with
  | join => exact execJoin_canon (h0 := h0) (h := h)
  | leave => exact execLeave_canon (h0 := h0) (h := h)
  | clearFault => exact execClearFault_canon (h0 := h0) (h := h)
  | prepare => exact execPrepare_canon (h0 := h0) (h := h)
  | prepareComplete => exact execPrepareComplete_canon (h0 := h0) (h := h)
  | run => exact execRun_canon (h0 := h0) (h := h)
  | hold => exact execHold_canon (h0 := h0) (h := h)
  | release => exact execRelease_canon (h0 := h0) (h := h)
  | unprepare => exact execUnprepare_canon (h0 := h0) (h := h)
  | grantSteps => exact execGrantSteps_canon (h0 := h0) (h := h)
  | postMicroBatch => exact execPostMicroBatch_canon (h0 := h0) (h := h)
  | stepStart => exact execStepStart_canon (h0 := h0) (h := h)
  | stepBoundary => exact execStepBoundary_canon (h0 := h0) (h := h)
  | stepStalled => exact execStepStalled_canon (h0 := h0) (h := h)
  | crumbFire => exact execCrumbFire_canon (h0 := h0) (h := h)
  | crumbRetire => exact execCrumbRetire_canon (h0 := h0) (h := h)
  | watchSampleComplete => exact execWatchSampleComplete_canon (h0 := h0) (h := h)
  | commitGatedRetire => exact execCommitGatedRetire_canon (h0 := h0) (h := h)
  | padElision => exact execPadElision_canon (h0 := h0) (h := h)
  | stealing => exact execStealing_canon (h0 := h0) (h := h)
  | tokenPacket => exact execTokenPacket_canon (h0 := h0) (h := h)
  | creditGrantPacket => exact execCreditGrantPacket_canon (h0 := h0) (h := h)
  | copyJobFire => exact execCopyJobFire_canon (h0 := h0) (h := h)
  | copyJobRetire => exact execCopyJobRetire_canon (h0 := h0) (h := h)
  | streamSegmentStart => exact execStreamSegmentStart_canon (h0 := h0) (h := h)
  | streamSegmentComplete => exact execStreamSegmentComplete_canon (h0 := h0) (h := h)
  | verdictPoint => exact execVerdictPoint_canon (h0 := h0) (h := h)
  | pairDigestReceive => exact execPairDigestReceive_canon (h0 := h0) (h := h)
  | verdictReductionComplete => exact execVerdictReductionComplete_canon (h0 := h0) (h := h)
  | lossReductionComplete => exact execLossReductionComplete_canon (h0 := h0) (h := h)
  | securingTransfer => exact execSecuringTransfer_canon (h0 := h0) (h := h)
  | collectiveLaunch => exact execCollectiveLaunch_canon (h0 := h0) (h := h)
  | collectiveChunk => exact execCollectiveChunk_canon (h0 := h0) (h := h)
  | pralineWord => exact execPralineWord_canon (h0 := h0) (h := h)
  | pralineRepeat => exact execPralineRepeat_canon (h0 := h0) (h := h)
  | hostCopyRequest => exact execHostCopyRequest_canon (h0 := h0) (h := h)
  | hostCopyComplete => exact execHostCopyComplete_canon (h0 := h0) (h := h)
  | memoryReadRequest => exact execMemoryReadRequest_canon (h0 := h0) (h := h)
  | memoryWrite => exact execMemoryWrite_canon_of_wf hw h0 h
  | memoryReadResponse => exact execMemoryReadResponse_canon (_data := []) (h0 := h0) (h := h)
  | writeAcknowledgement => exact execWriteAcknowledgement_canon (h0 := h0) (h := h)
  | writeCombineTimeout => exact execWriteCombineTimeout_canon (h0 := h0) (h := h)
  | hbmRefresh => exact execHbmRefresh_canon (h0 := h0) (h := h)
  | hbmTemperatureReadout => exact execHbmTemperatureReadout_canon (h0 := h0) (h := h)
  | patrolScrub => exact execPatrolScrub_canon (h0 := h0) (h := h)
  | hbmTrainingComplete => exact execHbmTrainingComplete_canon (h0 := h0) (h := h)
  | generatorWriteReadCheck => exact execGeneratorWriteReadCheck_canon (h0 := h0) (h := h)
  | generatorWrite => exact execGeneratorWrite_canon (h0 := h0) (h := h)
  | generatorReadCheck => exact execGeneratorReadCheck_canon (h0 := h0) (h := h)
  | generatorStopAll => exact execGeneratorStopAll_canon (h0 := h0) (h := h)
  | generatorComplete => exact execGeneratorComplete_canon (h0 := h0) (h := h)
  | partitionSettingWrite => exact execPartitionSettingWrite_canon (h0 := h0) (h := h)
  | quadrantLocalBoundaryWrite => exact execQuadrantLocalBoundaryWrite_canon (h0 := h0) (h := h)
  | stackPortTransfer => exact execStackPortTransfer_canon (h0 := h0) (h := h)
  | qlDataUnit => exact execQlDataUnit_canon (h0 := h0) (h := h)
  | qlIdleUnit => exact execQlIdleUnit_canon (h0 := h0) (h := h)
  | qlNakUnit => exact execQlNakUnit_canon (h0 := h0) (h := h)
  | qlReplayTimeout => exact execQlReplayTimeout_canon (h0 := h0) (h := h)
  | qlRetrainComplete => exact execQlRetrainComplete_canon (h0 := h0) (h := h)
  | qlRetrainTimeout => exact execQlRetrainTimeout_canon (h0 := h0) (h := h)
  | leaseGrant => exact execLeaseGrant_canon (h0 := h0) (h := h)
  | leaseRenewalDue => exact execLeaseRenewalDue_canon (h0 := h0) (h := h)
  | leaseRenewal => exact execLeaseRenewal_canon (h0 := h0) (h := h)
  | renewalAcknowledgement => exact execRenewalAcknowledgement_canon (h0 := h0) (h := h)
  | granuleReturn => exact execGranuleReturn_canon (h0 := h0) (h := h)
  | issuerLeaseExpiry => exact execIssuerLeaseExpiry_canon (h0 := h0) (h := h)
  | holderLeaseExpiry => exact execHolderLeaseExpiry_canon (h0 := h0) (h := h)
  | tokenIncrementParcel => exact execTokenIncrementParcel_canon (h0 := h0) (h := h)
  | dataFlit => exact execDataFlit_canon (h0 := h0) (h := h)
  | idleFlit => exact execIdleFlit_canon (h0 := h0) (h := h)
  | nakFlit => exact execNakFlit_canon (h0 := h0) (h := h)
  | testFlit => exact execTestFlit_canon (h0 := h0) (h := h)
  | flitReplayTimeout => exact execFlitReplayTimeout_canon (h0 := h0) (h := h)
  | parcelForward => exact execParcelForward_canon (h0 := h0) (h := h)
  | parcelDelivery => exact execParcelDelivery_canon (h0 := h0) (h := h)
  | laneFrame => exact execLaneFrame_canon (h0 := h0) (h := h)
  | laneFrameTimeout => exact execLaneFrameTimeout_canon (h0 := h0) (h := h)
  | ringLockLoop => exact execRingLockLoop_canon (h0 := h0) (h := h)
  | searchCandidateTimeout => exact execSearchCandidateTimeout_canon (h0 := h0) (h := h)
  | ringSearchLineReached => exact execRingSearchLineReached_canon (h0 := h0) (h := h)
  | anchorSweepRetry => exact execAnchorSweepRetry_canon (h0 := h0) (h := h)
  | opticalCommissioningComplete => exact execOpticalCommissioningComplete_canon (h0 := h0) (h := h)
  | wavelengthCheck => exact execWavelengthCheck_canon (h0 := h0) (h := h)
  | calibrationSlot => exact execCalibrationSlot_canon (h0 := h0) (h := h)
  | calibrationSlotEnd => exact execCalibrationSlotEnd_canon (h0 := h0) (h := h)
  | laserPowerReading => exact execLaserPowerReading_canon (h0 := h0) (h := h)
  | spareLaserLocked => exact execSpareLaserLocked_canon (h0 := h0) (h := h)
  | recommissionPort => exact execRecommissionPort_canon (h0 := h0) (h := h)
  | transmitGenerationWrite => exact execTransmitGenerationWrite_canon (h0 := h0) (h := h)
  | exceptionEntryWrite => exact execExceptionEntryWrite_canon (h0 := h0) (h := h)
  | rankOverrideWrite => exact execRankOverrideWrite_canon (h0 := h0) (h := h)
  | fabricConfigurationWrite => exact execFabricConfigurationWrite_canon (h0 := h0) (h := h)
  | groupMemberEntryWrite => exact execGroupMemberEntryWrite_canon (h0 := h0) (h := h)
  | groupDescriptorWrite => exact execGroupDescriptorWrite_canon (h0 := h0) (h := h)
  | abandon => exact execAbandon_canon (h0 := h0) (h := h)
  | abandonComplete => exact execAbandonComplete_canon (h0 := h0) (h := h)
  | restore => exact execRestore_canon (h0 := h0) (h := h)
  | restoreComplete => exact execRestoreComplete_canon (h0 := h0) (h := h)
  | remoteReadRequest => exact execRemoteReadRequest_canon (h0 := h0) (h := h)
  | remoteReadResponse => exact execRemoteReadResponse_canon (h0 := h0) (h := h)
  | remoteWrite => exact execRemoteWrite_canon (h0 := h0) (h := h)
  | holdCommitArm => exact execHoldCommitArm_canon (h0 := h0) (h := h)
  | scaleStateLoad => exact execScaleStateLoad_canon (h0 := h0) (h := h)
  | kz8StartScaleWrite => exact execKz8StartScaleWrite_canon (h0 := h0) (h := h)
  | frameMark => exact execFrameMark_canon (h0 := h0) (h := h)
  | dataSlot => exact execDataSlot_canon (h0 := h0) (h := h)
  | messageTimeout => exact execMessageTimeout_canon (h0 := h0) (h := h)
  | expeditedWrite => exact execExpeditedWrite_canon (h0 := h0) (h := h)
  | expeditedRead => exact execExpeditedRead_canon (h0 := h0) (h := h)
  | segmentedWrite => exact execSegmentedWrite_canon (h0 := h0) (h := h)
  | segmentedRead => exact execSegmentedRead_canon (h0 := h0) (h := h)
  | blockWrite => exact execBlockWrite_canon (h0 := h0) (h := h)
  | blockRead => exact execBlockRead_canon (h0 := h0) (h := h)
  | dictionaryWrite => exact execDictionaryWrite_canon (h0 := h0) (h := h)
  | blockData => exact execBlockData_canon (h0 := h0) (h := h)
  | bulkBlockWritten => exact execBulkBlockWritten_canon (h0 := h0) (h := h)
  | blockAcknowledgement => exact execBlockAcknowledgement_canon (h0 := h0) (h := h)
  | blockAckTimeout => exact execBlockAckTimeout_canon (h0 := h0) (h := h)
  | bulkOpen => exact execBulkOpen_canon (h0 := h0) (h := h)
  | bulkClose => exact execBulkClose_canon (h0 := h0) (h := h)
  | eventTransmit => exact execEventTransmit_canon (h0 := h0) (h := h)
  | hello => exact execHello_canon (_reserved := 0) (h0 := h0) (h := h)
  | finish => exact execFinish_canon (h0 := h0) (h := h)
  | finishTimeout => exact execFinishTimeout_canon (h0 := h0) (h := h)
  | close => exact execClose_canon (h0 := h0) (h := h)
  | fabricKeyInstall => exact execFabricKeyInstall_canon (h0 := h0) (h := h)
  | regionKeyInstall => exact execRegionKeyInstall_canon (h0 := h0) (h := h)
  | regionRemove => exact execRegionRemove_canon (h0 := h0) (h := h)
  | enrolmentWrite => exact execEnrolmentWrite_canon (h0 := h0) (h := h)
  | firmwareImageWrite => exact execFirmwareImageWrite_canon (h0 := h0) (h := h)
  | firmwareWriteComplete => exact execFirmwareWriteComplete_canon (h0 := h0) (h := h)
  | attestationQuote => exact execAttestationQuote_canon (h0 := h0) (h := h)
  | ringClockLoss => exact execRingClockLoss_canon (h0 := h0) (h := h)
  | ringClockReturn => exact execRingClockReturn_canon (h0 := h0) (h := h)
  | timeReferenceLost => exact execTimeReferenceLost_canon (h0 := h0) (h := h)
  | ppsEdge => exact execPpsEdge_canon (h0 := h0) (h := h)
  | timeReferenceWrite => exact execTimeReferenceWrite_canon (h0 := h0) (h := h)
  | powerStateRequest => exact execPowerStateRequest_canon (h0 := h0) (h := h)
  | powerStateReached => exact execPowerStateReached_canon (h0 := h0) (h := h)
  | blockEnableWrite => exact execBlockEnableWrite_canon (h0 := h0) (h := h)
  | pllSettingWrite => exact execPllSettingWrite_canon (h0 := h0) (h := h)
  | supplyOrTemperatureFault => exact execSupplyOrTemperatureFault_canon (h0 := h0) (h := h)
  | thermTrip => exact execThermTrip_canon (h0 := h0) (h := h)
  | pmbusPoll => exact execPmbusPoll_canon (h0 := h0) (h := h)
  | pmbusAlert => exact execPmbusAlert_canon (h0 := h0) (h := h)
  | islandMismatch => exact execIslandMismatch_canon (h0 := h0) (h := h)
  | moduleReset => exact execModuleReset_canon (h0 := h0) (h := h)
  | resetRelease => exact execResetRelease_canon (h0 := h0) (h := h)
  | symbolLock => exact execSymbolLock_canon (h0 := h0) (h := h)
  | settleDelayElapsed => exact execSettleDelayElapsed_canon (h0 := h0) (h := h)
  | islandSelfTest => exact execIslandSelfTest_canon (h0 := h0) (h := h)
  | firmwareVerified => exact execFirmwareVerified_canon (h0 := h0) (h := h)
  | selfTestTileStores => exact execSelfTestTileStores_canon (h0 := h0) (h := h)
  | selfTestSharedCache => exact execSelfTestSharedCache_canon (h0 := h0) (h := h)
  | selfTestMemorySideCache => exact execSelfTestMemorySideCache_canon (h0 := h0) (h := h)
  | selfTestHbmStack => exact execSelfTestHbmStack_canon (h0 := h0) (h := h)
  | selfTestComplete => exact execSelfTestComplete_canon (h0 := h0) (h := h)
  | testPortEnable => exact execTestPortEnable_canon (h0 := h0) (h := h)
  | tapReset => exact execTapReset_canon (h0 := h0) (h := h)
  | extest => exact execExtest_canon (h0 := h0) (h := h)
  | samplePreload => exact execSamplePreload_canon (h0 := h0) (h := h)
  | idcode => exact execIdcode_canon (h0 := h0) (h := h)
  | clamp => exact execClamp_canon (h0 := h0) (h := h)
  | highz => exact execHighz_canon (h0 := h0) (h := h)
  | dieSelect => exact execDieSelect_canon (h0 := h0) (h := h)
  | dieAccess => exact execDieAccess_canon (h0 := h0) (h := h)
  | bypass => exact execBypass_canon (h0 := h0) (h := h)
  | coreTestDue => exact execCoreTestDue_canon (h0 := h0) (h := h)
  | coreTestStart => exact execCoreTestStart_canon (h0 := h0) (h := h)
  | coreTestOverdue => exact execCoreTestOverdue_canon (h0 := h0) (h := h)
  | coreTestComplete => exact execCoreTestComplete_canon (h0 := h0) (h := h)
  | tenantStateErased => exact execTenantStateErased_canon (h0 := h0) (h := h)
  | timeReferenceReturn => exact execTimeReferenceReturn_canon (h0 := h0) (h := h)

theorem queue_not_in_parts (c : Instr) : Part.queue ∉ c.parts := by
  cases c <;> simp [Instr.parts]

/-- No command reaches the queue. -/
theorem exec_pending {c : Instr} {s t : State} (h : exec c s = .next t) : t.pending = s.pending :=
  exec_unchanged h .queue (queue_not_in_parts c)

end Sys2Proof.Machine

open Sys2Proof Sys2Proof.Machine

/-- Settles O10: each command's mask of kept parts covers the parts that its footprint leaves out. -/
theorem commandsChangeOnlyTheirParts : Obligations.CommandsChangeOnlyTheirParts := by
  unfold Obligations.CommandsChangeOnlyTheirParts
  exact fun c s t h => exec_unchanged h

/-- Settles O11: each command's mask of kept indexes covers the indexes that its footprint leaves out. -/
theorem commandsChangeOnlyTheirObjects : Obligations.CommandsChangeOnlyTheirObjects := by
  unfold Obligations.CommandsChangeOnlyTheirObjects
  exact fun c l s t hl h i j hi => exec_objects hl h j hi

/-- Settles O9: the tick and each command keep the canonical form; only a memory write needs its own well-formedness
for it. The queue of a step's state is the rest of the queue before it. -/
theorem everyStepKeepsTheCanonicalForm : Obligations.EveryStepKeepsTheCanonicalForm := by
  unfold Obligations.EveryStepKeepsTheCanonicalForm
  intro s t hq hs h
  rw [← canon_iff] at hs ⊢
  unfold step at h
  split at h
  next hp =>
    cases h
    have hpending : (tick s).pending = s.pending := ((tick_keeps s (by decide)).mpr (Keeps.refl 1 s)).pending rfl
    exact ⟨tick_canon s hs, by rw [State.queueWf, hpending]; exact hq⟩
  next c rest hp =>
    rw [State.queueWf, hp, List.forall_mem_cons] at hq
    have hcanon : Canon { s with pending := rest } := ⟨hs.regs, hs.cells, hs.msc, hs.wc, hs.waits⟩
    refine ⟨exec_canon hq.1 hcanon h, ?_⟩
    rw [State.queueWf, exec_pending h]
    exact hq.2

end

section
/-! The two causes that stop a run: a memory request beyond the mapped space, and clock settings taken into force whose
ratios R476 leaves without a meaning. -/

namespace Sys2Proof.Machine

/-- The commands that take clock settings into force. -/
def TakesClocks (c : Instr) : Prop :=
  (∃ q v, c = .powerStateRequest q v) ∨ (∃ q p, c = .recommissionPort q p) ∨
    (∃ q i j v, c = .fabricConfigurationWrite q i j v) ∨ (∃ k r x b, c = .qlRetrainComplete k r x b) ∨
    (∃ b, c = .blockData b) ∨ ∃ q i j v, c = .expeditedWrite q i j v ∨ c = .segmentedWrite q i j v ∨
      c = .dictionaryWrite q i j v

/-- An outcome is a next state or the fault of clock ratios. -/
def GoesOnOrClocks (o : Out) : Prop := (∃ t, o = .next t) ∨ o = .fault .clockRatioUndefined

theorem settled_goesOn (before after : State) : GoesOnOrClocks (settled before after) := by
  unfold settled
  split
  · exact .inr rfl
  · exact .inl ⟨_, rfl⟩

theorem execQlRetrainComplete_goesOn (link repaired : Nat) (exhausted : BitVec 8) (beyond : Bool) (s : State) :
    GoesOnOrClocks (execQlRetrainComplete link repaired exhausted beyond s) := by
  unfold execQlRetrainComplete
  dsimp only
  split
  · exact .inl ⟨_, rfl⟩
  · exact settled_goesOn ..

theorem execFabricConfigurationWrite_goesOn (q : Req) (idx sub : Nat) (value : W32) (s : State) :
    GoesOnOrClocks (execFabricConfigurationWrite q idx sub value s) := by
  unfold execFabricConfigurationWrite
  dsimp only
  split
  · exact settled_goesOn ..
  · exact .inl ⟨_, rfl⟩

theorem execBlockData_goesOn (b : Block) (s : State) : GoesOnOrClocks (execBlockData b s) := by
  unfold execBlockData
  dsimp only
  split
  · exact .inl ⟨_, rfl⟩
  · split
    · exact .inl ⟨_, rfl⟩
    · exact settled_goesOn ..

/-- The causes that stop a command. -/
def StopCauses (c : Instr) (s : State) : Prop :=
  (∃ t, exec c s = .next t) ∨
    (exec c s = .fault .unmappedAddress ∧
      ((∃ p ecc, c = .memoryReadRequest p ecc ∧ memTop ≤ p.addr) ∨ ∃ p d, c = .memoryWrite p d ∧ memTop ≤ p.addr)) ∨
    (exec c s = .fault .clockRatioUndefined ∧ TakesClocks c)

theorem stops_of_clocks {c : Instr} {s : State} (hc : TakesClocks c) (h : GoesOnOrClocks (exec c s)) :
    StopCauses c s := by
  rcases h with h | h
  · exact .inl h
  · exact .inr (.inr ⟨h, hc⟩)

theorem exec_stopCauses (c : Instr) (s : State) : StopCauses c s := by
  cases c with
  | join => exact .inl ⟨_, rfl⟩
  | leave => exact .inl ⟨_, rfl⟩
  | clearFault => exact .inl ⟨_, rfl⟩
  | prepare => exact .inl ⟨_, rfl⟩
  | prepareComplete => exact .inl ⟨_, rfl⟩
  | run => exact .inl ⟨_, rfl⟩
  | hold => exact .inl ⟨_, rfl⟩
  | release => exact .inl ⟨_, rfl⟩
  | unprepare => exact .inl ⟨_, rfl⟩
  | grantSteps => exact .inl ⟨_, rfl⟩
  | postMicroBatch => exact .inl ⟨_, rfl⟩
  | stepStart => exact .inl ⟨_, rfl⟩
  | stepBoundary => exact .inl ⟨_, rfl⟩
  | stepStalled => exact .inl ⟨_, rfl⟩
  | crumbFire => exact .inl ⟨_, rfl⟩
  | crumbRetire => exact .inl ⟨_, rfl⟩
  | watchSampleComplete => exact .inl ⟨_, rfl⟩
  | commitGatedRetire => exact .inl ⟨_, rfl⟩
  | padElision => exact .inl ⟨_, rfl⟩
  | stealing => exact .inl ⟨_, rfl⟩
  | tokenPacket => exact .inl ⟨_, rfl⟩
  | creditGrantPacket => exact .inl ⟨_, rfl⟩
  | copyJobFire => exact .inl ⟨_, rfl⟩
  | copyJobRetire => exact .inl ⟨_, rfl⟩
  | streamSegmentStart => exact .inl ⟨_, rfl⟩
  | streamSegmentComplete => exact .inl ⟨_, rfl⟩
  | verdictPoint => exact .inl ⟨_, rfl⟩
  | pairDigestReceive => exact .inl ⟨_, rfl⟩
  | verdictReductionComplete => exact .inl ⟨_, rfl⟩
  | lossReductionComplete => exact .inl ⟨_, rfl⟩
  | securingTransfer => exact .inl ⟨_, rfl⟩
  | collectiveLaunch => exact .inl ⟨_, rfl⟩
  | collectiveChunk => exact .inl ⟨_, rfl⟩
  | pralineWord => exact .inl ⟨_, rfl⟩
  | pralineRepeat => exact .inl ⟨_, rfl⟩
  | hostCopyRequest => exact .inl ⟨_, rfl⟩
  | hostCopyComplete => exact .inl ⟨_, rfl⟩
  | memoryReadRequest p ecc =>
    by_cases hp : memTop ≤ p.addr
    · exact .inr (.inl ⟨if_pos hp, .inl ⟨p, ecc, rfl, hp⟩⟩)
    · exact .inl ⟨_, if_neg hp⟩
  | memoryWrite p data =>
    by_cases hp : memTop ≤ p.addr
    · exact .inr (.inl ⟨if_pos hp, .inr ⟨p, data, rfl, hp⟩⟩)
    · exact .inl ⟨_, if_neg hp⟩
  | memoryReadResponse => exact .inl ⟨_, rfl⟩
  | writeAcknowledgement => exact .inl ⟨_, rfl⟩
  | writeCombineTimeout => exact .inl ⟨_, rfl⟩
  | hbmRefresh => exact .inl ⟨_, rfl⟩
  | hbmTemperatureReadout => exact .inl ⟨_, rfl⟩
  | patrolScrub => exact .inl ⟨_, rfl⟩
  | hbmTrainingComplete => exact .inl ⟨_, rfl⟩
  | generatorWriteReadCheck => exact .inl ⟨_, rfl⟩
  | generatorWrite => exact .inl ⟨_, rfl⟩
  | generatorReadCheck => exact .inl ⟨_, rfl⟩
  | generatorStopAll => exact .inl ⟨_, rfl⟩
  | generatorComplete => exact .inl ⟨_, rfl⟩
  | partitionSettingWrite => exact .inl ⟨_, rfl⟩
  | quadrantLocalBoundaryWrite => exact .inl ⟨_, rfl⟩
  | stackPortTransfer => exact .inl ⟨_, rfl⟩
  | qlDataUnit => exact .inl ⟨_, rfl⟩
  | qlIdleUnit => exact .inl ⟨_, rfl⟩
  | qlNakUnit => exact .inl ⟨_, rfl⟩
  | qlReplayTimeout => exact .inl ⟨_, rfl⟩
  | qlRetrainComplete link repaired exhausted beyond =>
    exact stops_of_clocks (.inr (.inr (.inr (.inl ⟨_, _, _, _, rfl⟩)))) (execQlRetrainComplete_goesOn ..)
  | qlRetrainTimeout => exact .inl ⟨_, rfl⟩
  | leaseGrant => exact .inl ⟨_, rfl⟩
  | leaseRenewalDue => exact .inl ⟨_, rfl⟩
  | leaseRenewal => exact .inl ⟨_, rfl⟩
  | renewalAcknowledgement => exact .inl ⟨_, rfl⟩
  | granuleReturn => exact .inl ⟨_, rfl⟩
  | issuerLeaseExpiry => exact .inl ⟨_, rfl⟩
  | holderLeaseExpiry => exact .inl ⟨_, rfl⟩
  | tokenIncrementParcel => exact .inl ⟨_, rfl⟩
  | dataFlit => exact .inl ⟨_, rfl⟩
  | idleFlit => exact .inl ⟨_, rfl⟩
  | nakFlit => exact .inl ⟨_, rfl⟩
  | testFlit => exact .inl ⟨_, rfl⟩
  | flitReplayTimeout => exact .inl ⟨_, rfl⟩
  | parcelForward => exact .inl ⟨_, rfl⟩
  | parcelDelivery => exact .inl ⟨_, rfl⟩
  | laneFrame => exact .inl ⟨_, rfl⟩
  | laneFrameTimeout => exact .inl ⟨_, rfl⟩
  | ringLockLoop => exact .inl ⟨_, rfl⟩
  | searchCandidateTimeout => exact .inl ⟨_, rfl⟩
  | ringSearchLineReached => exact .inl ⟨_, rfl⟩
  | anchorSweepRetry => exact .inl ⟨_, rfl⟩
  | opticalCommissioningComplete => exact .inl ⟨_, rfl⟩
  | wavelengthCheck => exact .inl ⟨_, rfl⟩
  | calibrationSlot => exact .inl ⟨_, rfl⟩
  | calibrationSlotEnd => exact .inl ⟨_, rfl⟩
  | laserPowerReading => exact .inl ⟨_, rfl⟩
  | spareLaserLocked => exact .inl ⟨_, rfl⟩
  | recommissionPort q port => exact stops_of_clocks (.inr (.inl ⟨_, _, rfl⟩)) (settled_goesOn ..)
  | transmitGenerationWrite => exact .inl ⟨_, rfl⟩
  | exceptionEntryWrite => exact .inl ⟨_, rfl⟩
  | rankOverrideWrite => exact .inl ⟨_, rfl⟩
  | fabricConfigurationWrite q idx sub value =>
    exact stops_of_clocks (.inr (.inr (.inl ⟨_, _, _, _, rfl⟩))) (execFabricConfigurationWrite_goesOn ..)
  | groupMemberEntryWrite => exact .inl ⟨_, rfl⟩
  | groupDescriptorWrite => exact .inl ⟨_, rfl⟩
  | abandon => exact .inl ⟨_, rfl⟩
  | abandonComplete => exact .inl ⟨_, rfl⟩
  | restore => exact .inl ⟨_, rfl⟩
  | restoreComplete => exact .inl ⟨_, rfl⟩
  | remoteReadRequest => exact .inl ⟨_, rfl⟩
  | remoteReadResponse => exact .inl ⟨_, rfl⟩
  | remoteWrite => exact .inl ⟨_, rfl⟩
  | holdCommitArm => exact .inl ⟨_, rfl⟩
  | scaleStateLoad => exact .inl ⟨_, rfl⟩
  | kz8StartScaleWrite => exact .inl ⟨_, rfl⟩
  | frameMark => exact .inl ⟨_, rfl⟩
  | dataSlot => exact .inl ⟨_, rfl⟩
  | messageTimeout => exact .inl ⟨_, rfl⟩
  | expeditedWrite q idx sub value =>
    exact stops_of_clocks (.inr (.inr (.inr (.inr (.inr ⟨q, idx, sub, value, .inl rfl⟩))))) (settled_goesOn ..)
  | expeditedRead => exact .inl ⟨_, rfl⟩
  | segmentedWrite q idx sub value =>
    exact stops_of_clocks (.inr (.inr (.inr (.inr (.inr ⟨q, idx, sub, value, .inr (.inl rfl)⟩))))) (settled_goesOn ..)
  | segmentedRead => exact .inl ⟨_, rfl⟩
  | blockWrite => exact .inl ⟨_, rfl⟩
  | blockRead => exact .inl ⟨_, rfl⟩
  | dictionaryWrite q idx sub value =>
    exact stops_of_clocks (.inr (.inr (.inr (.inr (.inr ⟨q, idx, sub, value, .inr (.inr rfl)⟩))))) (settled_goesOn ..)
  | blockData b => exact stops_of_clocks (.inr (.inr (.inr (.inr (.inl ⟨_, rfl⟩))))) (execBlockData_goesOn ..)
  | bulkBlockWritten => exact .inl ⟨_, rfl⟩
  | blockAcknowledgement => exact .inl ⟨_, rfl⟩
  | blockAckTimeout => exact .inl ⟨_, rfl⟩
  | bulkOpen => exact .inl ⟨_, rfl⟩
  | bulkClose => exact .inl ⟨_, rfl⟩
  | eventTransmit => exact .inl ⟨_, rfl⟩
  | hello => exact .inl ⟨_, rfl⟩
  | finish => exact .inl ⟨_, rfl⟩
  | finishTimeout => exact .inl ⟨_, rfl⟩
  | close => exact .inl ⟨_, rfl⟩
  | fabricKeyInstall => exact .inl ⟨_, rfl⟩
  | regionKeyInstall => exact .inl ⟨_, rfl⟩
  | regionRemove => exact .inl ⟨_, rfl⟩
  | enrolmentWrite => exact .inl ⟨_, rfl⟩
  | firmwareImageWrite => exact .inl ⟨_, rfl⟩
  | firmwareWriteComplete => exact .inl ⟨_, rfl⟩
  | attestationQuote => exact .inl ⟨_, rfl⟩
  | ringClockLoss => exact .inl ⟨_, rfl⟩
  | ringClockReturn => exact .inl ⟨_, rfl⟩
  | timeReferenceLost => exact .inl ⟨_, rfl⟩
  | ppsEdge => exact .inl ⟨_, rfl⟩
  | timeReferenceWrite => exact .inl ⟨_, rfl⟩
  | powerStateRequest q value => exact stops_of_clocks (.inl ⟨_, _, rfl⟩) (settled_goesOn ..)
  | powerStateReached => exact .inl ⟨_, rfl⟩
  | blockEnableWrite => exact .inl ⟨_, rfl⟩
  | pllSettingWrite => exact .inl ⟨_, rfl⟩
  | supplyOrTemperatureFault => exact .inl ⟨_, rfl⟩
  | thermTrip => exact .inl ⟨_, rfl⟩
  | pmbusPoll => exact .inl ⟨_, rfl⟩
  | pmbusAlert => exact .inl ⟨_, rfl⟩
  | islandMismatch => exact .inl ⟨_, rfl⟩
  | moduleReset => exact .inl ⟨_, rfl⟩
  | resetRelease => exact .inl ⟨_, rfl⟩
  | symbolLock => exact .inl ⟨_, rfl⟩
  | settleDelayElapsed => exact .inl ⟨_, rfl⟩
  | islandSelfTest => exact .inl ⟨_, rfl⟩
  | firmwareVerified => exact .inl ⟨_, rfl⟩
  | selfTestTileStores => exact .inl ⟨_, rfl⟩
  | selfTestSharedCache => exact .inl ⟨_, rfl⟩
  | selfTestMemorySideCache => exact .inl ⟨_, rfl⟩
  | selfTestHbmStack => exact .inl ⟨_, rfl⟩
  | selfTestComplete => exact .inl ⟨_, rfl⟩
  | testPortEnable => exact .inl ⟨_, rfl⟩
  | tapReset => exact .inl ⟨_, rfl⟩
  | extest => exact .inl ⟨_, rfl⟩
  | samplePreload => exact .inl ⟨_, rfl⟩
  | idcode => exact .inl ⟨_, rfl⟩
  | clamp => exact .inl ⟨_, rfl⟩
  | highz => exact .inl ⟨_, rfl⟩
  | dieSelect => exact .inl ⟨_, rfl⟩
  | dieAccess => exact .inl ⟨_, rfl⟩
  | bypass => exact .inl ⟨_, rfl⟩
  | coreTestDue => exact .inl ⟨_, rfl⟩
  | coreTestStart => exact .inl ⟨_, rfl⟩
  | coreTestOverdue => exact .inl ⟨_, rfl⟩
  | coreTestComplete => exact .inl ⟨_, rfl⟩
  | tenantStateErased => exact .inl ⟨_, rfl⟩
  | timeReferenceReturn => exact .inl ⟨_, rfl⟩

end Sys2Proof.Machine

open Sys2Proof Sys2Proof.Machine

/-- Settles O12: every command's meaning is a next state, but for the range check of the two memory requests and the
check of the ratios after the commands that take clock settings into force. -/
theorem onlyTwoCausesStopARun : Obligations.OnlyTwoCausesStopARun := by
  unfold Obligations.OnlyTwoCausesStopARun
  exact exec_stopCauses

end

section
/-! The job commands (R82 to R84): what a job write comes to on 0x2000:02 and, with COMPAT, on 0x2000:01 (R435, R436),
and when its state condition rejects it. -/

namespace Sys2Proof.Machine

/-! ## A job write -/

/-- The subindex of 0x2000 by which the module takes job commands. -/
def jobSub (s : State) : Nat := if s.straps.compat then 1 else 2

/-- The bytes of job command v as the module takes them. -/
def jobBytes (v : Nat) (s : State) : Bytes := leBytes 1 (if s.straps.compat then 0x10 + v else v)

/-- The state in which job command v is judged and on which it acts: the islands hold its object. -/
def jobHeard (q : Req) (s : State) : State := heardAs q 1 0x2000 (jobSub s) s

theorem leNat_byte {n : Nat} (h : n < 256) : leNat (leBytes 1 n) = n := by
  simpa using leNat_leBytes (k := 1) (by simpa using h)

@[simp] theorem length_leBytes (k n : Nat) : (leBytes k n).length = k := by
  induction k generalizing n with
  | zero => rfl
  | succ k ih => simp [leBytes, ih]

theorem jobHeard_eq (q : Req) (v : Nat) (s : State) :
    heardAs q (writeCommand (jobBytes v s)) 0x2000 (jobSub s) s = jobHeard q s := rfl

theorem jobCommand_eq (q : Req) (v : Nat) (s : State) :
    jobCommand q v s = writeReq q 0 0x2000 (jobSub s) (jobBytes v s) (commandRule q 0x2000 (jobSub s) (jobBytes v s)) s :=
  rfl

/-- With COMPAT the job rule has two more conditions, which hold of the TENANT, and its log names 0x2000:02. -/
theorem commandRule_compat {q : Req} {v : Nat} {u : State} (hc : u.straps.compat = true)
    (hrole : roleOf u q.sess = .tenant) (hv : 1 ≤ v ∧ v ≤ 5) :
    commandRule q 0x2000 1 (leBytes 1 (0x10 + v)) u =
      { jobRule q v u with codes := 0 :: 0 :: (jobRule q v u).codes, log := some (0x2000, 2, leBytes 1 v) } := by
  obtain ⟨h1, h5⟩ := hv
  have hjob : (decide (0x11 ≤ 0x10 + v) && decide (0x10 + v ≤ 0x15)) = true := by
    simp only [Bool.and_eq_true, decide_eq_true_eq]
    omega
  have hfac : (decide (1 ≤ 0x10 + v) && decide (0x10 + v ≤ 3)) = false := by
    simp only [Bool.and_eq_false_iff, decide_eq_false_iff_not]
    omega
  have hne : ¬ (0x2000 = 0x2000 ∧ 1 = 2) := by decide
  simp only [commandRule, leNat_byte (show 0x10 + v < 256 by omega), hc, hjob, hfac, hrole]
  simp [need]

theorem commandRule_plain {q : Req} {v : Nat} (u : State) (hv : v < 256) :
    commandRule q 0x2000 2 (leBytes 1 v) u = jobRule q v u := by
  simp [commandRule, leNat_byte hv]

theorem jobRule_log (q : Req) (v : Nat) (s : State) : (jobRule q v s).log = none := by
  unfold jobRule
  split <;> [split; skip; skip; skip; skip; skip] <;> rfl

theorem jobRule_after (q : Req) (v : Nat) (s : State) : (jobRule q v s).after = id := by
  unfold jobRule
  split <;> [split; skip; skip; skip; skip; skip] <;> rfl

theorem jobRule_onReject (q : Req) (v : Nat) (s : State) : (jobRule q v s).onReject = id := by
  unfold jobRule
  split <;> [split; skip; skip; skip; skip; skip] <;> rfl

/-- A job write is judged by the job rule, whatever the layout. -/
theorem commandRule_job {q : Req} {v : Nat} {s : State} (h : jobWritable q v s) (hv : 1 ≤ v ∧ v ≤ 5) :
    ∃ codes log, commandRule q 0x2000 (jobSub s) (jobBytes v s) (jobHeard q s)
        = { jobRule q v (jobHeard q s) with codes := codes ++ (jobRule q v (jobHeard q s)).codes, log := log } ∧
      (∀ c ∈ codes, c = 0) ∧ (log = none ∧ jobSub s = 2 ∨ ∃ a, log = some (0x2000, 2, a)) := by
  have hstraps : (jobHeard q s).straps = s.straps := (heardAs_same ..).2.1
  have hrole : roleOf (jobHeard q s) q.sess = .tenant :=
    (noted_role (heardAs_noted ..) q.sess).trans (ready_role h.1)
  cases hc : s.straps.compat
  · refine ⟨[], none, ?_, by simp, .inl ⟨rfl, by simp [jobSub, hc]⟩⟩
    simp only [jobSub, jobBytes, hc, Bool.false_eq_true, if_false, commandRule_plain _ (show v < 256 by omega),
      List.nil_append, ← jobRule_log q v (jobHeard q s)]
  · refine ⟨[0, 0], some (0x2000, 2, leBytes 1 v), ?_, by simp, .inr ⟨_, rfl⟩⟩
    simp only [jobSub, jobBytes, hc, if_true]
    exact commandRule_compat (hstraps ▸ hc) hrole hv

theorem firstByClass_zeros_append {a b : List Nat} (h : ∀ c ∈ a, c = 0) : firstByClass (a ++ b) = firstByClass b := by
  have hnone : ∀ k, a.find? (fun x => x ≠ 0 && x / 2 ^ 24 == k) = none := fun k =>
    List.find?_eq_none.mpr fun x hx => by simp [h x hx]
  simp only [firstByClass, List.find?_append, hnone, Option.none_or]

/-- A job write whose rule has no failing code is applied, logged as a write of 0x2000:02 and answered. -/
theorem jobCommand_accepted {q : Req} {v : Nat} {s : State} (h : jobWritable q v s) (hv : 1 ≤ v ∧ v ≤ 5)
    (hc : ∀ c ∈ (jobRule q v (jobHeard q s)).codes, c = 0) (hl : (jobRule q v (jobHeard q s)).later = false) :
    ∃ a, jobCommand q v s
      = respond q 0 [] (auditWrite q 0x2000 2 a ((jobRule q v (jobHeard q s)).apply (jobHeard q s))) := by
  obtain ⟨codes, log, hrule, hcodes, hlog⟩ := commandRule_job h hv
  have hall : ∀ c ∈ codes ++ (jobRule q v (jobHeard q s)).codes, c = 0 := by
    simpa only [List.forall_mem_append] using ⟨hcodes, hc⟩
  have hacc : jobCommand q v s = acceptWrite q 0x2000 (jobSub s) (jobBytes v s)
      { jobRule q v (jobHeard q s) with codes := codes ++ (jobRule q v (jobHeard q s)).codes, log := log }
      (jobHeard q s) := by
    have hw : Writable .tenant 0x2000 (jobSub s) (jobBytes v s) s := h.2
    have := writeReq_accepted (rule := commandRule q 0x2000 (jobSub s) (jobBytes v s)) h.1 hw
    rw [jobHeard_eq, hrule] at this
    exact this hall
  have hheld : ∀ j u, forwardAccess true 0x2000 j u = u := fun j u => rfl
  rw [hacc]
  rcases hlog with ⟨rfl, hsub⟩ | ⟨a, rfl⟩
  · exact ⟨jobBytes v s, by simp [acceptWrite, hheld, hl, jobRule_after, hsub]⟩
  · exact ⟨a, by simp [acceptWrite, hheld, hl, jobRule_after]⟩

/-- A job write that its rule refuses is rejected with the rule's code. -/
theorem jobCommand_rejected {q : Req} {v code : Nat} {s : State} (h : jobWritable q v s) (hv : 1 ≤ v ∧ v ≤ 5)
    (hc : firstByClass (jobRule q v (jobHeard q s)).codes = code) (h0 : code ≠ 0) :
    jobCommand q v s = rejectReq q code (jobHeard q s) := by
  obtain ⟨codes, log, hrule, hcodes, -⟩ := commandRule_job h hv
  have hfirst := (firstByClass_zeros_append hcodes).trans hc
  have hw : Writable .tenant 0x2000 (jobSub s) (jobBytes v s) s := h.2
  rw [jobCommand_eq, writeReq_refused h.1 hw ((congrArg _ (jobHeard_eq q v s)).trans hrule) (by rw [hfirst]; exact h0)]
  dsimp only
  rw [hfirst, jobRule_onReject, jobHeard_eq, id]

/-! ## What the state condition says -/

@[simp] theorem jobHeard_dev (q : Req) (s : State) : (jobHeard q s).dev = s.dev := (heardAs_same ..).2.2.1
@[simp] theorem jobHeard_ex (q : Req) (s : State) : (jobHeard q s).ex = s.ex := (heardAs_same ..).2.2.2.2
@[simp] theorem rg_jobHeard (q : Req) (s : State) (i j : Nat) : rg (jobHeard q s) i j = rg s i j := rg_heardAs ..
@[simp] theorem recoveryAllows_jobHeard (q : Req) (s : State) : recoveryAllows (jobHeard q s) = recoveryAllows s := by
  simp [recoveryAllows]
@[simp] theorem jobHeard_bypass (q : Req) (s : State) : (jobHeard q s).ring.bypassOpen = s.ring.bypassOpen :=
  heardAs_bypass ..
@[simp] theorem jobHeard_keeps {m : Nat} {s0 : State} (q : Req) (s : State) (hm : m &&& 851965 = m) :
    Keeps m s0 (jobHeard q s) ↔ Keeps m s0 s := heardAs_keeps _ _ _ _ _ hm

theorem jobHeard_log (q : Req) (s : State) : (jobHeard q s).sec.log = s.sec.log := by
  obtain ⟨l, hl⟩ := (heardAs_noted q 1 0x2000 (jobSub s) s).2
  rw [jobHeard, hl]

/-- What a rejected job command leaves. -/
theorem rejected_job {q : Req} {v code : Nat} {s : State} (h : jobWritable q v s) (hv : 1 ≤ v ∧ v ≤ 5)
    (hc : firstByClass (jobRule q v (jobHeard q s)).codes = code) (h0 : code ≠ 0) :
    Answers q code [] (jobCommand q v s) ∧ (jobCommand q v s).sec.log = s.sec.log ∧
      rg (jobCommand q v s) 0xF000 4 = satAdd 8 (rg s 0xF000 4) 1 ∧ regsExcept [] s (jobCommand q v s) ∧
      unchangedExcept [.wires, .registers, .ring, .security] s (jobCommand q v s) := by
  rw [jobCommand_rejected h hv hc h0]
  refine ⟨answers_rejectReq q code _ ((jobHeard_bypass q s).trans h.1.sends), ?_, ?_, ?_,
    unchanged_of_covered (m := 851949) (by simp) rfl⟩
  · rw [rejectReq_sec_log, jobHeard_log]
  · rw [rejectReq, rg_respond, countReject, bump, rg_withRg_same]
    exact congrArg (satAdd 8 · 1) (rg_jobHeard q s 0xF000 4)
  · exact regsExcept_trans (fun i j _ _ _ _ _ => rg_jobHeard q s i j) (regsExcept_rejectReq q code _)

end Sys2Proof.Machine

open Sys2Proof Sys2Proof.Machine

/-- Settles O7: in the states named here the state condition is the only one of the job's rule that fails. -/
theorem jobCommandsElsewhereAreRejected : Obligations.JobCommandsElsewhereAreRejected := by
  unfold Obligations.JobCommandsElsewhereAreRejected
  intro q s c v hcase hw
  suffices hrule : exec c s = .next (jobCommand q v s) ∧ (1 ≤ v ∧ v ≤ 5) ∧
      firstByClass (jobRule q v (jobHeard q s)).codes = 0x03100005 by
    obtain ⟨hexec, hv, hc⟩ := hrule
    exact ⟨_, hexec, rejected_job hw hv hc (by decide)⟩
  rcases hcase with ⟨hcv, hd⟩ | ⟨hcv, hd⟩ | ⟨hcv, hd⟩ | ⟨hcv, hd, hr⟩ | ⟨hcv, hd⟩ <;> cases hcv <;>
    refine ⟨rfl, by decide, ?_⟩ <;> simp only [List.mem_cons, List.not_mem_nil, or_false, not_or] at hd
  case inl => simp [jobRule, hd, stateNeed, need, firstByClass]
  case inr.inl => simp [jobRule, hd, stateNeed, need, firstByClass]
  case inr.inr.inl => simp [jobRule, hd, stateNeed, need, firstByClass]
  case inr.inr.inr.inl => simp [jobRule, hd, hr, stateNeed, need, firstByClass]
  case inr.inr.inr.inr => simp [jobRule, hd, stateNeed, need, firstByClass]

end

section
/-! The facility and job commands that R82 and R460 accept: the device state that they move to, and what a module that
leaves keeps nothing of. -/

namespace Sys2Proof.Machine

/-! ## The bypass stays -/

theorem bypass_of_keeps {s t : State} (h : Keeps 65536 s t) : t.ring.bypassOpen = s.ring.bypassOpen :=
  congrArg RingState.bypassOpen (h.ring (by decide))

@[simp] theorem failPend_bypass (k : PendKind) (code : Nat) (s : State) :
    (failPend k code s).ring.bypassOpen = s.ring.bypassOpen := by
  unfold failPend
  split
  · rfl
  · rw [rejectReq_ring_bypassOpen, dropPend_ring]

theorem foldl_bypass {α : Type} (f : State → α → State) (h : ∀ u e, (f u e).ring.bypassOpen = u.ring.bypassOpen)
    (l : List α) (s : State) : (l.foldl f s).ring.bypassOpen = s.ring.bypassOpen := by
  induction l generalizing s with
  | nil => rfl
  | cons e l ih => exact (ih _).trans (h s e)

@[simp] theorem endBlocks_bypass (s : State) : (endBlocks s).ring.bypassOpen = s.ring.bypassOpen := by
  unfold endBlocks
  refine (foldl_bypass _ (fun u e => ?_) _ _).trans rfl
  split
  · rfl
  · exact rejectReq_ring_bypassOpen ..

@[simp] theorem endPending_bypass (s : State) : (endPending s).ring.bypassOpen = s.ring.bypassOpen := by
  have hdrop : ∀ u, (dropHostCopy u).ring.bypassOpen = u.ring.bypassOpen := fun u => bypass_of_keeps (by simp)
  unfold endPending
  dsimp only
  rw [hdrop, endBlocks_bypass]
  simp only [failPend_bypass]
  split <;> rfl

@[simp] theorem endSession_bypass (n : Nat) (s : State) : (endSession n s).ring.bypassOpen = s.ring.bypassOpen := by
  unfold endSession
  split
  · rfl
  · dsimp only
    split <;> simp

@[simp] theorem leaveEffects_bypass (s : State) : (leaveEffects s).ring.bypassOpen = s.ring.bypassOpen := by
  have htail : ∀ u, (forgetMemory (destroyKeys u)).ring.bypassOpen = u.ring.bypassOpen := fun u => rfl
  have habandon : ∀ u, (abandonTests u).ring.bypassOpen = u.ring.bypassOpen := fun u => bypass_of_keeps (by simp)
  have hport : ∀ u, (closeTestPort u).ring.bypassOpen = u.ring.bypassOpen := fun u => bypass_of_keeps (by simp)
  have hclear : ∀ u, (clearExec u).ring.bypassOpen = u.ring.bypassOpen := fun u => bypass_of_keeps (by simp)
  unfold leaveEffects
  dsimp only
  rw [htail]
  split <;> split <;> simp [habandon, hport, hclear]

@[simp] theorem reportLoss_bypass (sc : Score) (s : State) : (reportLoss sc s).ring.bypassOpen = s.ring.bypassOpen := by
  have hpush : ∀ r u, (pushHistory r u).ring.bypassOpen = u.ring.bypassOpen := fun r u => bypass_of_keeps (by simp)
  unfold reportLoss
  split
  · split
    · rfl
    · simp [hpush]
  · rfl

@[simp] theorem scaleStep_bypass (v : Verdict) (s : State) : (scaleStep v s).ring.bypassOpen = s.ring.bypassOpen := by
  unfold scaleStep
  dsimp only
  split
  · simp [bump, holdAtEnd]
  · rfl

@[simp] theorem applyOutcome_bypass (sc : Score) (s : State) : (applyOutcome sc s).ring.bypassOpen = s.ring.bypassOpen := by
  unfold applyOutcome
  split
  · rfl
  · dsimp only
    rw [reportLoss_bypass, scaleStep_bypass]
    split <;> rfl

@[simp] theorem releaseHeld_bypass (accept : Bool) (sc : Score) (s : State) :
    (releaseHeld accept sc s).ring.bypassOpen = s.ring.bypassOpen := by
  unfold releaseHeld
  split
  · rfl
  · dsimp only
    split
    · rw [applyOutcome_bypass]; rfl
    · rfl

@[simp] theorem releaseNow_bypass (s : State) : (releaseNow s).ring.bypassOpen = s.ring.bypassOpen := by
  unfold releaseNow onScore
  split
  · rfl
  · dsimp only
    split
    · rw [releaseHeld_bypass]
    · rfl

@[simp] theorem unprepareNow_bypass (s : State) : (unprepareNow s).ring.bypassOpen = s.ring.bypassOpen := by
  have hdrop : ∀ u, (abandonTests (dropHostCopy u)).ring.bypassOpen = u.ring.bypassOpen := fun u =>
    bypass_of_keeps (by simp)
  have hclear : ∀ u, (clearExec u).ring.bypassOpen = u.ring.bypassOpen := fun u => bypass_of_keeps (by simp)
  unfold unprepareNow
  split
  · rfl
  · simp [hdrop, hclear]

/-! ## Leaving -/

/-- What leave has done, but for the bypass: the log and the answer leave it so. -/
structure Emptied (t : State) : Prop where
  device : t.dev = .inert
  erasing : t.sec.erasing = true
  baseKey : t.sec.baseKey = none
  fabricKey : t.sec.fabricKey = none
  regions : t.sec.regions = []
  bound : t.sec.bound = none
  parcelKey : t.fab.parcelKey = 0
  ex : t.ex = {}
  sites : t.sites = []
  msc : t.mem.msc = []
  wc : t.mem.wc = []
  shared : t.mem.shared = []
  tables : t.fab.members = [] ∧ t.fab.groups = [] ∧ t.fab.overrides = []

/-- The state that leave has before its keys and memory go: inert, with no score, sites or tables. -/
theorem forgetMemory_destroyKeys_emptied {u : State} (hdev : u.dev = .inert) (hex : u.ex = {}) (hsites : u.sites = [])
    (htables : u.fab.members = [] ∧ u.fab.groups = [] ∧ u.fab.overrides = []) :
    Emptied (forgetMemory (destroyKeys u)) :=
  ⟨hdev, rfl, rfl, rfl, rfl, rfl, rfl, hex, hsites, rfl, rfl, rfl, htables⟩

@[simp] theorem clearExec_ex (s : State) : (clearExec s).ex = {} := by
  unfold clearExec
  exact ((closeContexts_keeps (m := 64) _ (by decide)).mpr (Keeps.refl _ _)).ex (by decide)

@[simp] theorem clearExec_col (s : State) : (clearExec s).col = {} := by
  unfold clearExec
  exact ((closeContexts_keeps (m := 16384) _ (by decide)).mpr (Keeps.refl _ _)).col (by decide)

@[simp] theorem clearExec_res (s : State) : (clearExec s).res = {} := by
  unfold clearExec
  exact ((closeContexts_keeps (m := 32768) _ (by decide)).mpr (Keeps.refl _ _)).res (by decide)

@[simp] theorem clearExec_dev (s : State) : (clearExec s).dev = s.dev :=
  ((clearExec_keeps (m := 8) s (by decide)).mpr (Keeps.refl _ _)).dev (by decide)

@[simp] theorem audit_dev (sess idx sub kind : Nat) (keyed : Bool) (v : Bytes) (s : State) :
    (audit sess idx sub kind keyed v s).dev = s.dev :=
  ((audit_keeps (m := 8) _ _ _ _ _ _ s (by decide)).mpr (Keeps.refl _ _)).dev (by decide)

theorem endSession_keeps_emptied (n : Nat) (u : State) : Keeps 8392 u (endSession n u) := by simp

theorem leaveEffects_emptied (s : State) : Emptied (leaveEffects s) := by
  unfold leaveEffects
  dsimp only
  generalize hleft : audit 0 _ _ _ _ _ _ = left
  have hdev : (clearExec left).dev = .inert := by
    rw [clearExec_dev, ← hleft, audit_dev]
  generalize hclear : clearExec left = c at hdev
  have hex : c.ex = {} := hclear ▸ clearExec_ex left
  split
  next n _ =>
    have hk := endSession_keeps_emptied n { c with
      regs := c.regs.filter (fun p => !resetsOnLeave (p.1 / 256) (p.1 % 256)), sites := [],
      fab := { c.fab with members := [], groups := [], overrides := [], silent := [], fwd := [], arrived := [] } }
    generalize endSession n _ = e at hk ⊢
    have hedev : e.dev = .inert := (hk.dev (by decide)).trans hdev
    have heex : e.ex = {} := (hk.ex (by decide)).trans hex
    have hesites : e.sites = [] := hk.sites (by decide)
    have hefab := hk.fab (by decide)
    exact forgetMemory_destroyKeys_emptied hedev heex hesites
      ⟨congrArg Fabric.members hefab, congrArg Fabric.groups hefab, congrArg Fabric.overrides hefab⟩
  · exact forgetMemory_destroyKeys_emptied hdev hex rfl ⟨rfl, rfl, rfl⟩

theorem emptied_answered {s : State} (q : Req) (idx sub code : Nat) (v d : Bytes) (h : Emptied s) :
    Emptied (respond q code d (auditWrite q idx sub v s)) := by
  have hk : Keeps 851965 (auditWrite q idx sub v s) (respond q code d (auditWrite q idx sub v s)) := by simp
  have ha : Keeps 851951 s (auditWrite q idx sub v s) := by simp
  have hdev := (hk.dev (by decide)).trans (ha.dev (by decide))
  have hex := (hk.ex (by decide)).trans (ha.ex (by decide))
  have hsites := (hk.sites (by decide)).trans (ha.sites (by decide))
  have hmem := (hk.mem (by decide)).trans (ha.mem (by decide))
  have hfab := (hk.fab (by decide)).trans (ha.fab (by decide))
  exact ⟨hdev.trans h.device, by simpa using h.erasing, by simpa using h.baseKey, by simpa using h.fabricKey,
    by simpa using h.regions, by simpa using h.bound, hfab ▸ h.parcelKey, hex.trans h.ex, hsites.trans h.sites,
    hmem ▸ h.msc, hmem ▸ h.wc, hmem ▸ h.shared, hfab ▸ h.tables⟩

theorem leftBehind_closeSoon {s : State} (h : Emptied s) : LeftBehind (closeSoon s) :=
  ⟨h.device, rfl, h.erasing, ⟨h.baseKey, h.fabricKey, h.regions, h.bound, h.parcelKey⟩,
    ⟨h.ex, h.sites, h.msc, h.wc, h.shared⟩, h.tables⟩

theorem answers_closeSoon {q : Req} {code : Nat} {d : Bytes} {s : State} :
    Answers q code d (closeSoon s) ↔ Answers q code d s := Iff.rfl

/-- A facility command is judged by the facility rule; with COMPAT two more conditions hold of the OPERATOR. -/
theorem commandRule_facility {q : Req} {v : Nat} {u : State} (hrole : roleOf u q.sess = .operator)
    (hv : 1 ≤ v ∧ v ≤ 3) :
    ∃ codes, (∀ c ∈ codes, c = 0) ∧ commandRule q 0x2000 1 (leBytes 1 v) u
      = { facilityRule v u with codes := codes ++ (facilityRule v u).codes, log := none } := by
  obtain ⟨h1, h3⟩ := hv
  have hlog : (facilityRule v u).log = none := by
    unfold facilityRule
    split <;> (try split) <;> rfl
  cases hc : u.straps.compat
  · refine ⟨[], by simp, ?_⟩
    simp only [List.nil_append, ← hlog]
    simp [commandRule, leNat_byte (show v < 256 by omega), hc]
  · have hjob : (decide (0x11 ≤ v) && decide (v ≤ 0x15)) = false := by
      simp only [Bool.and_eq_false_iff, decide_eq_false_iff_not]
      omega
    refine ⟨[0, 0], by simp, ?_⟩
    simp [commandRule, leNat_byte (show v < 256 by omega), hc, hjob, hrole, h1, h3, need]

/-- A facility command whose rule empties the module. -/
theorem facilityCommand_leaves {q : Req} {v : Nat} {s : State} (h : Ready q .operator s)
    (w : Writable .operator 0x2000 1 (leBytes 1 v) s) (hv : 1 ≤ v ∧ v ≤ 3)
    (hrule : ∀ u : State, u.dev = s.dev → (∀ c ∈ (facilityRule v u).codes, c = 0) ∧ (facilityRule v u).later = false ∧
      (facilityRule v u).apply = leaveEffects ∧ (facilityRule v u).after = closeSoon) :
    LeftBehind (facilityCommand q v s) ∧ Answers q 0 [] (facilityCommand q v s) ∧
      (facilityCommand q v s).links = s.links ∧ (facilityCommand q v s).straps = s.straps ∧
      (facilityCommand q v s).dieErrors = s.dieErrors := by
  have hrole : roleOf (heardAs q 1 0x2000 1 s) q.sess = .operator :=
    (noted_role (heardAs_noted ..) q.sess).trans (ready_role h)
  obtain ⟨codes, hcodes, hx⟩ := commandRule_facility hrole hv
  obtain ⟨hzero, hlater, happly, hafter⟩ := hrule (heardAs q 1 0x2000 1 s) (heardAs_same ..).2.2.1
  have hnow := write_now (rule := commandRule q 0x2000 1 (leBytes 1 v)) h w
    (show commandRule q 0x2000 1 (leBytes 1 v) (heardAs q (writeCommand (leBytes 1 v)) 0x2000 1 s) = _ from hx)
    (by simpa only [List.forall_mem_append] using ⟨hcodes, hzero⟩) hlater rfl
  dsimp only at hnow
  rw [happly, hafter, show actsOn q 0x2000 1 (leBytes 1 v) s = heardAs q 1 0x2000 1 s from rfl] at hnow
  rw [show facilityCommand q v s = _ from hnow]
  have hframe : Keeps 3105 s (closeSoon (respond q 0 [] (auditWrite q 0x2000 1 (leBytes 1 v)
      (leaveEffects (heardAs q 1 0x2000 1 s))))) := by simp
  refine ⟨leftBehind_closeSoon (emptied_answered q _ _ _ _ _ (leaveEffects_emptied _)),
    answers_closeSoon.mpr (answers_respond _ _ _ _ ?_), hframe.links (by decide), hframe.straps (by decide), hframe.dieErrors (by decide)⟩
  rw [auditWrite_bypass, leaveEffects_bypass, heardAs_bypass, h.sends]

/-! ## Job commands -/

/-- What any accepted job command shows: answered with success and logged as a write of 0x2000:02. -/
theorem accepted_job {q : Req} {v : Nat} {s : State} (h : jobWritable q v s) (hv : 1 ≤ v ∧ v ≤ 5)
    (hc : ∀ c ∈ (jobRule q v (jobHeard q s)).codes, c = 0) (hl : (jobRule q v (jobHeard q s)).later = false)
    (hb : ((jobRule q v (jobHeard q s)).apply (jobHeard q s)).ring.bypassOpen = s.ring.bypassOpen) :
    ∃ a, jobCommand q v s
        = respond q 0 [] (auditWrite q 0x2000 2 a ((jobRule q v (jobHeard q s)).apply (jobHeard q s))) ∧
      Answers q 0 [] (jobCommand q v s) ∧ Logged q 0x2000 2 (jobCommand q v s) := by
  obtain ⟨a, ha⟩ := jobCommand_accepted h hv hc hl
  refine ⟨a, ha, ?_, ?_⟩ <;> rw [ha]
  · exact answers_respond _ _ _ _ (by rw [auditWrite_bypass, hb, h.1.sends])
  · exact logged_write ..

theorem regsExcept_accepted_job {q : Req} {s u : State} (a : Bytes) (h : u.regs = (jobHeard q s).regs) :
    regsExcept [] s (respond q 0 [] (auditWrite q 0x2000 2 a u)) :=
  regsExcept_respond_auditWrite _ _ _ _ _ _ (regsExcept_of_regs (h.trans (heardAs_same ..).1))

/-- An object after registers have been kept or returned to their defaults. -/
theorem rg_filtered {f : Nat → Nat → Bool} {s t : State} {i j : Nat} (hj : j < 256)
    (ht : t.regs = s.regs.filter (fun p => f (p.1 / 256) (p.1 % 256))) :
    rg t i j = if f i j then rg s i j else dfltOf i j := by
  have hkey : keyOf i j / 256 = i ∧ keyOf i j % 256 = j := by
    unfold keyOf
    omega
  unfold rg at_
  rw [ht]
  split
  · rw [lookup_filter_pass _ _ _ (fun v => by simp [*])]
  · rw [lookup_filter_drop _ _ _ (fun v => by simp [*])]
    rfl

end Sys2Proof.Machine

open Sys2Proof Sys2Proof.Machine

/-- Settles O6: each command is its rule, applied to the state that heard it, logged and answered. -/
theorem commandsMoveTheDeviceState : Obligations.CommandsMoveTheDeviceState := by
  unfold Obligations.CommandsMoveTheDeviceState
  refine ⟨fun q s h w hd => ?leave, fun q s h w hd => ?clear, fun q s h hd => ?run, fun q s h hd hp => ?hold,
    fun q s h hd hr => ?release, fun q s h hd => ?unprepare⟩
  case leave =>
    have hrule : ∀ u : State, u.dev = s.dev →
        facilityRule 2 u = { apply := leaveEffects, after := closeSoon } := fun u hu => by simp [facilityRule, hu, hd]
    exact ⟨_, rfl, facilityCommand_leaves h w (by decide) fun u hu => by simp [hrule u hu]⟩
  case clear =>
    have hrule : ∀ u : State, u.dev = s.dev →
        facilityRule 3 u = { codes := [0], apply := leaveEffects, after := closeSoon } :=
      fun u hu => by simp [facilityRule, hu, hd, stateNeed, need]
    exact ⟨_, rfl, facilityCommand_leaves h w (by decide) fun u hu => by simp [hrule u hu]⟩
  case run =>
    have hrun : (jobRule q 2 (jobHeard q s)).apply (jobHeard q s) = { jobHeard q s with dev := .running } := by
      simp [jobRule, hd]
    obtain ⟨a, ha, hans, hlog⟩ := accepted_job h (by decide) (by simp [jobRule, stateNeed, need, hd]) rfl
      (by rw [hrun]; exact jobHeard_bypass q s)
    rw [hrun] at ha
    refine ⟨_, rfl, ?_, ?_, hans, hlog, ?_, ?_⟩ <;> rw [ha]
    · exact Keeps.dev (m := 8) (s := { jobHeard q s with dev := .running }) (by simp) (by decide)
    · exact Keeps.ex (m := 64) (by simp [-jobHeard_ex]) (by decide)
    · exact regsExcept_accepted_job a rfl
    · exact unchanged_of_covered (m := 851941) (by simp [-jobHeard_ex]) rfl
  case hold =>
    have hhold : (jobRule q 3 (jobHeard q s)).apply (jobHeard q s) = holdNow (jobHeard q s) := rfl
    have hnow : holdNow (jobHeard q s) = if s.ex.step.running
        then { jobHeard q s with ex := { s.ex with holdPending := true } } else { jobHeard q s with dev := .held } := by
      simp [holdNow, hd, hp]
    obtain ⟨a, ha, hans, hlog⟩ := accepted_job h (by decide) (by simp [jobRule, stateNeed, need, hd]) rfl
      (by rw [hhold, hnow]; split <;> exact jobHeard_bypass q s)
    rw [hhold] at ha
    have hframe : Keeps 72 (holdNow (jobHeard q s)) (jobCommand q 3 s) := by rw [ha]; simp
    have hdev := hframe.dev (by decide)
    have hex := hframe.ex (by decide)
    rw [hnow] at hdev hex
    refine ⟨_, rfl, ?_, ?_, ?_, hans, hlog, ?_, ?_⟩
    · rw [hdev]
      split <;> simp [hd]
    · rw [hex]
      split <;> simp [*]
    · rw [hex]
      split <;> simp
    · rw [ha]
      exact regsExcept_accepted_job a (by rw [hnow]; split <;> rfl)
    · rw [ha]
      exact unchanged_of_covered (m := 851877) (by simp) rfl
  case release =>
    have hrel : (jobRule q 4 (jobHeard q s)).apply (jobHeard q s) = releaseNow (jobHeard q s) := rfl
    obtain ⟨a, ha, hans, hlog⟩ := accepted_job h (by decide)
      (by simp [jobRule, stateNeed, need, hd, hr]) rfl (by rw [hrel, releaseNow_bypass, jobHeard_bypass])
    rw [hrel] at ha
    have hframe : Keeps 787616 s (jobCommand q 4 s) := by rw [ha]; simp
    refine ⟨_, rfl, ?_, hans, hlog, hframe.links (by decide), hframe.straps (by decide), hframe.sites (by decide),
      hframe.pwr (by decide), hframe.test (by decide)⟩
    rw [ha]
    refine (Keeps.dev (m := 8) (s := releaseNow (jobHeard q s)) (by simp) (by decide)).trans ?_
    have hheld : (jobHeard q s).dev = .held := (jobHeard_dev q s).trans hd
    unfold releaseNow onScore
    simp only [hheld, ne_eq, not_true_eq_false, if_false]
    split
    · exact Keeps.dev (m := 8) (s := { jobHeard q s with dev := .running }) (by simp) (by decide)
    · rfl
  case unprepare =>
    have hne : ¬ (jobHeard q s).dev = .joined := by
      rw [jobHeard_dev]
      rcases hd with hd | hd <;> rw [hd] <;> decide
    have hun : (jobRule q 5 (jobHeard q s)).apply (jobHeard q s) = unprepareNow (jobHeard q s) := rfl
    obtain ⟨a, ha, hans, hlog⟩ := accepted_job h (by decide)
      (by rcases hd with hd | hd <;> simp [jobRule, stateNeed, need, hd]) rfl
      (by rw [hun, unprepareNow_bypass, jobHeard_bypass])
    rw [hun] at ha
    have hframe : Keeps 265248 s (jobCommand q 5 s) := by rw [ha]; simp
    have hkept : Keeps 49224 (unprepareNow (jobHeard q s)) (jobCommand q 5 s) := by rw [ha]; simp
    have hcore : ∀ u : State, ¬ u.dev = .joined → ∃ v : State, v.dev = .joined ∧ v.ex = {} ∧ v.col = {} ∧ v.res = {} ∧
        unprepareNow u = { v with regs := v.regs.filter (fun p => !resetsOnUnprepare (p.1 / 256) (p.1 % 256)) } :=
      fun u hu => ⟨_, clearExec_dev _, clearExec_ex _, clearExec_col _, clearExec_res _, if_neg hu⟩
    obtain ⟨v, hdev, hex, hcol, hres, hv⟩ := hcore _ hne
    have hobj : ∀ i j, j < 256 → ¬ counted i → resetsOnUnprepare i j = true →
        rg (jobCommand q 5 s) i j = dfltOf i j := fun i j hj hi hr => by
      rw [ha, rg_respond, rg_auditWrite _ hj hi, hv,
        rg_filtered (s := v) (f := fun i j => !resetsOnUnprepare i j) hj rfl, hr]
      rfl
    rw [hv] at hkept
    exact ⟨_, rfl, (hkept.dev (by decide)).trans hdev, (hkept.ex (by decide)).trans hex,
      (hkept.col (by decide)).trans hcol, (hkept.res (by decide)).trans hres, hans, hlog,
      hobj _ _ (by decide) (by unfold counted; decide) rfl, hobj _ _ (by decide) (by unfold counted; decide) rfl,
      hframe.links (by decide), hframe.straps (by decide), hframe.dieErrors (by decide), hframe.pwr (by decide)⟩

end

section
/-! Preparing a score (R55, R56, R407): the write that waits for its checks, the score installed, the signature
refused. -/

namespace Sys2Proof.Machine

/-! ## A write that completes later -/

/-- A job write whose rule has no failing code and completes later waits in its session. -/
theorem jobCommand_pending {q : Req} {v : Nat} {s : State} (h : jobWritable q v s) (hv : 1 ≤ v ∧ v ≤ 5)
    (hc : ∀ c ∈ (jobRule q v (jobHeard q s)).codes, c = 0) (hl : (jobRule q v (jobHeard q s)).later = true) :
    jobCommand q v s = (jobRule q v (jobHeard q s)).apply (beginReq q (jobHeard q s)) := by
  obtain ⟨codes, log, hrule, hcodes, -⟩ := commandRule_job h hv
  have hw : Writable .tenant 0x2000 (jobSub s) (jobBytes v s) s := h.2
  have hacc := writeReq_accepted (rule := commandRule q 0x2000 (jobSub s) (jobBytes v s)) h.1 hw
  rw [jobHeard_eq, hrule] at hacc
  rw [jobCommand_eq, hacc (by simpa only [List.forall_mem_append] using ⟨hcodes, hc⟩)]
  exact if_pos hl

theorem mem_addNum (k : Nat) (l : List Nat) : k ∈ addNum k l := by
  unfold addNum
  split <;> simp [*]

theorem sessOf_beginReq_inProgress (q : Req) (s : State) : q.msg ∈ (sessOf (beginReq q s) q.sess).inProgress := by
  rw [beginReq, sessOf_withSess_same]
  exact mem_addNum ..

/-! ## Pending writes that end -/

theorem pendOf_dropPend_same (k : PendKind) (s : State) : pendOf (dropPend k s) k = none := by
  rw [pendOf, List.find?_eq_none]
  intro p hp
  simpa using (List.mem_filter.mp hp).2

@[simp] theorem rg_dropPend (k : PendKind) (s : State) (i j : Nat) : rg (dropPend k s) i j = rg s i j := rfl

theorem pendOf_of_pend {s t : State} (h : t.sec.pend = s.sec.pend) (k : PendKind) : pendOf t k = pendOf s k := by
  unfold pendOf
  rw [h]

theorem finishPend_of_pendOf {k : PendKind} {v : Bytes} {s : State} {p : PendWrite} (hp : pendOf s k = some p)
    (hf : s.sec.flashFull = false) :
    finishPend k v s = respond p.q 0 [] (auditWrite p.q (pendObject k).1 (pendObject k).2 v (dropPend k s)) := by
  simp [finishPend, hp, hf]

theorem pendOf_finishPend_same {k : PendKind} {v : Bytes} {s : State} {p : PendWrite} (hp : pendOf s k = some p)
    (hf : s.sec.flashFull = false) : pendOf (finishPend k v s) k = none := by
  rw [finishPend_of_pendOf hp hf, pendOf_of_pend (respond_sec_pend ..), pendOf_of_pend (auditWrite_sec_pend ..),
    pendOf_dropPend_same]

theorem answers_finishPend {k : PendKind} {v : Bytes} {s : State} {p : PendWrite} (hp : pendOf s k = some p)
    (hf : s.sec.flashFull = false) (hb : s.ring.bypassOpen = true) : Answers p.q 0 [] (finishPend k v s) := by
  rw [finishPend_of_pendOf hp hf]
  exact answers_respond _ _ _ _ (by rw [auditWrite_bypass]; exact hb)

theorem logged_finishPend {k : PendKind} {v : Bytes} {s : State} {p : PendWrite} (hp : pendOf s k = some p)
    (hf : s.sec.flashFull = false) : Logged p.q (pendObject k).1 (pendObject k).2 (finishPend k v s) := by
  rw [finishPend_of_pendOf hp hf]
  exact logged_write ..

theorem failPend_of_pendOf {k : PendKind} {code : Nat} {s : State} {p : PendWrite} (hp : pendOf s k = some p) :
    failPend k code s = rejectReq p.q code (dropPend k s) := by
  simp [failPend, hp]

/-! ## Installing -/

theorem readerAt_fresh (s : State) (base : Nat) : readerAt (fresh s) base = readerAt s base := rfl

theorem install_ex (p : PendWrite) (s : State) :
    (install p s).ex.score = some (scoreOf (readerAt s (bufferIn p.regs 0).1)) ∧ (install p s).ex.nextStep = 0 := by
  have htail : ∀ (sc : Score) (u : State),
      (openContexts sc (closeContexts (deriveParcelKey (2 ^ 64 - 1) (copyConstants sc u)))).ex = u.ex := fun sc u =>
    Keeps.ex (m := 64) (by simp) (by decide)
  unfold install
  dsimp only
  rw [htail]
  exact ⟨rfl, rfl⟩

theorem install_dev (p : PendWrite) (s : State) : (install p s).dev = .prepared := by
  have htail : ∀ (sc : Score) (u : State),
      (openContexts sc (closeContexts (deriveParcelKey (2 ^ 64 - 1) (copyConstants sc u)))).dev = u.dev := fun sc u =>
    Keeps.dev (m := 8) (by simp) (by decide)
  unfold install
  dsimp only
  rw [htail]
  rfl

theorem rg_install_id (p : PendWrite) (s : State) :
    rg (install p s) 0x2010 2 = (scoreOf (readerAt s (bufferIn p.regs 0).1)).id := by
  have htail : ∀ (sc : Score) (u : State),
      RgK 64 u (openContexts sc (closeContexts (deriveParcelKey (2 ^ 64 - 1) (copyConstants sc u)))) := fun sc u => by simp
  have hother : ∀ j v (u : State), rg (withRg 0x8000 j v u) 0x2010 2 = rg u 0x2010 2 := fun j v u =>
    rg_withRg_other _ _ fun h => absurd (keyOf_index h) (by decide)
  unfold install
  dsimp only
  rw [htail _ _ 0x2010 2 (by decide), hother, hother, hother, rg_withRg_same]

theorem install_pendOf (p : PendWrite) (s : State) (k : PendKind) : pendOf (install p s) k = pendOf s k :=
  pendOf_of_pend (congrArg Security.pend (Keeps.sec (m := 131072) (by simp) (by decide))) k

theorem install_flash (p : PendWrite) (s : State) : (install p s).sec.flashFull = s.sec.flashFull :=
  congrArg Security.flashFull (Keeps.sec (m := 131072) (by simp) (by decide))

theorem prepareCode_unsigned {p : PendWrite} {s : State} (hstaged : rgIn p.regs 0x2010 1 ≠ 0)
    (hkey : BitVec.ofNat 256 (readerAt s (bufferIn p.regs 0).1 80 32) = (sessOf s p.q.sess).key) :
    prepareCode p false s = 0x04100001 := by
  simp [prepareCode, hstaged, hkey]

theorem exec_prepare_joined {q : Req} {s : State} (h : jobWritable q 1 s) (hd : s.dev = .joined) :
    exec (.prepare q) s = .next (addPend .prepare q (beginReq q (jobHeard q s))) := by
  have hrule : jobRule q 1 (jobHeard q s) = { codes := [0], later := true, apply := addPend .prepare q } := by
    simp [jobRule, hd, stateNeed, need]
  have hnow := jobCommand_pending h (by decide) (by simp [hrule]) (by simp [hrule])
  rw [hrule] at hnow
  exact congrArg Host.Outcome.next hnow

theorem addPend_beginReq_pend (k : PendKind) (q : Req) (s : State) :
    (addPend k q (beginReq q (jobHeard q s))).sec.pend =
      s.sec.pend ++ [⟨k, q, s.regs, s.fab.members, s.fab.groups, s.fab.overrides⟩] := by
  obtain ⟨l, hl⟩ := (heardAs_noted q 1 0x2000 (jobSub s) s).2
  have hpend : (jobHeard q s).sec.pend = s.sec.pend := by rw [jobHeard, hl]
  have hregs : (beginReq q (jobHeard q s)).regs = s.regs := (heardAs_same ..).1
  have hfab : (beginReq q (jobHeard q s)).fab = s.fab := Keeps.fab (m := 8192) (by simp) (by decide)
  change (jobHeard q s).sec.pend ++ [⟨k, q, (beginReq q (jobHeard q s)).regs, _, _, _⟩] = _
  rw [hpend, hregs, hfab]

theorem addPend_beginReq_sent (k : PendKind) (q : Req) (s : State) :
    (addPend k q (beginReq q (jobHeard q s))).sent = [] := by
  have hkeeps : ∀ u : State, (addPend k q (beginReq q u)).sent = u.sent := fun _ => rfl
  rw [hkeeps, jobHeard, heardAs_sent]

theorem addPend_inProgress {k : PendKind} {q : Req} {u : State} (h : q.msg ∈ (sessOf u q.sess).inProgress) :
    q.msg ∈ (sessOf (addPend k q u) q.sess).inProgress := h

theorem exec_prepareComplete_installs {p : PendWrite} {s : State} (hp : pendOf s .prepare = some p)
    (hr : s.pwr.inReset = false) (hf : s.sec.flashFull = false) (hcode : prepareCode p true (fresh s) = 0) :
    exec (.prepareComplete true) s = .next (finishPend .prepare (leBytes 1 1) (install p (fresh s))) := by
  change Host.Outcome.next (match pendOf s .prepare with | none => _ | some p => _) = _
  simp [hp, hr, hf, hcode]

theorem exec_prepareComplete_unsigned {p : PendWrite} {s : State} (hp : pendOf s .prepare = some p)
    (hr : s.pwr.inReset = false) (hcode : prepareCode p false (fresh s) = 0x04100001) :
    exec (.prepareComplete false) s = .next (rejectReq p.q 0x04100001 (dropPend .prepare (fresh s))) := by
  rw [← failPend_of_pendOf (s := fresh s) hp]
  change Host.Outcome.next (match pendOf s .prepare with | none => _ | some p => _) = _
  simp [hp, hr, hcode]

/-- The score installed and the pending write ended. -/
theorem install_finished {p : PendWrite} {s : State} (hp : pendOf s .prepare = some p)
    (hb : s.ring.bypassOpen = true) (hf : s.sec.flashFull = false) :
    let t := finishPend .prepare (leBytes 1 1) (install p (fresh s))
    (t.dev = .prepared ∧ t.ex.score = some (scoreOf (readerAt s (bufferIn p.regs 0).1)) ∧ t.ex.nextStep = 0 ∧
      rg t 0x2010 2 = (scoreOf (readerAt s (bufferIn p.regs 0).1)).id) ∧
      pendOf t .prepare = none ∧ Answers p.q 0 [] t ∧ Logged p.q 0x2000 2 t := by
  have hpi : pendOf (install p (fresh s)) .prepare = some p := (install_pendOf p (fresh s) _).trans hp
  have hfi : (install p (fresh s)).sec.flashFull = false := (install_flash p (fresh s)).trans hf
  have hk : Keeps 851949 (install p (fresh s)) (finishPend .prepare (leBytes 1 1) (install p (fresh s))) := by simp
  dsimp only
  refine ⟨⟨(hk.dev (by decide)).trans (install_dev ..), ?_, ?_, ?_⟩, pendOf_finishPend_same hpi hfi,
    answers_finishPend hpi hfi ((bypass_of_keeps (s := s) (by simp)).trans hb), logged_finishPend hpi hfi⟩
  · rw [hk.ex (by decide), (install_ex p (fresh s)).1, readerAt_fresh]
  · rw [hk.ex (by decide), (install_ex p (fresh s)).2]
  · rw [finishPend_of_pendOf hpi hfi, rg_respond, rg_auditWrite _ (by decide) (by unfold counted; decide),
      rg_dropPend, rg_install_id, readerAt_fresh]

end Sys2Proof.Machine

open Sys2Proof Sys2Proof.Machine

/-- Settles O8: the prepare rule is one that completes later; its completion installs and ends the pending write, or
ends it with the code of the first check that fails. -/
theorem prepareInstallsOrRejects : Obligations.PrepareInstallsOrRejects := by
  refine ⟨fun q s h hd => ?pending, fun p s hp hr hb hf hcode => ?install, fun p s hp hr hb hstaged hkey => ?refuse⟩
  case pending =>
    have hkeeps : Keeps 851965 s (addPend .prepare q (beginReq q (jobHeard q s))) := by simp
    exact ⟨_, exec_prepare_joined h hd, addPend_beginReq_sent .., addPend_beginReq_pend ..,
      addPend_inProgress (sessOf_beginReq_inProgress ..), unchanged_of_covered hkeeps rfl⟩
  case install =>
    obtain ⟨⟨hdev, hscore, hnext, hid⟩, hended, hanswer, hlogged⟩ := install_finished hp hb hf
    have hs : Keeps 1184 s (finishPend .prepare (leBytes 1 1) (install p (fresh s))) := by simp
    exact ⟨_, exec_prepareComplete_installs hp hr hf hcode, hdev, hscore, hnext, hid, hended, hanswer, hlogged,
      hs.links (by decide), hs.straps (by decide), hs.sites (by decide)⟩
  case refuse =>
    have hcode : prepareCode p false (fresh s) = 0x04100001 := prepareCode_unsigned hstaged hkey
    refine ⟨_, exec_prepareComplete_unsigned hp hr hcode, answers_rejectReq _ _ _ hb, rejectReq_sec_log .., ?_,
      regsExcept_rejectReq p.q _ (dropPend .prepare (fresh s)), unchanged_of_covered (m := 851949) (by simp) rfl⟩
    rw [pendOf_of_pend (rejectReq_sec_pend ..), pendOf_dropPend_same]

end

section
/-! Micro-batch posts (R77 to R79): the sixteen bytes are the post, and its rule's codes. -/

namespace Sys2Proof.Machine

theorem beNat_reverse_leBytes {k n : Nat} (h : n < 256 ^ k) : beNat (leBytes k n).reverse = n := by
  rw [beNat, List.reverse_reverse, leNat_leBytes h]

/-- The layout of R77 keeps every field. -/
theorem postOf_postBytes {p : Post} (hp : p.wf = true) : postOf (postBytes p) = p := by
  simp only [Post.wf, Bool.and_eq_true, decide_eq_true_eq] at hp
  obtain ⟨⟨⟨⟨hstep, hslot⟩, hres⟩, htok⟩, hbuf⟩ := hp
  have hn : p.step * 2 ^ 64 + p.slot * 2 ^ 56 + p.reserved * 2 ^ 48 + p.tokens * 2 ^ 16 + p.buffer < 256 ^ 16 := by
    omega
  obtain ⟨step, slot, reserved, tokens, buffer⟩ := p
  simp only [postOf, postBytes, beNat_reverse_leBytes hn, bits, Nat.shiftRight_eq_div_pow, Post.mk.injEq]
  refine ⟨?_, ?_, ?_, ?_, ?_⟩ <;> dsimp only at * <;> omega

/-- The conditions of R78 that the statement leaves open: the device state, and whether the slot is taken. -/
theorem postRule_codes {p : Post} {sc : Score} {x : SlotDecl} {s : State} (hp : p.wf = true) (hres : p.reserved = 0)
    (hsc : s.ex.score = some sc) (hx : sc.slots.find? (fun y => y.num == p.slot) = some x) (hbud : p.tokens ≤ x.budget)
    (htok : p.tokens ≠ 0) (hstep : p.step = s.ex.nextStep ∨ p.step = s.ex.nextStep + 1) :
    (postRule (postBytes p) s).codes = [stateNeed (takesGrants s),
      need (!s.ex.admitted.any (fun a => a.step == p.step && a.slot == p.slot)) 0x03100003, 0, 0, 0] := by
  have hstep' : (p.step == s.ex.nextStep || p.step == s.ex.nextStep + 1) = true := by simpa using hstep
  simp only [postRule, postOf_postBytes hp, hsc, Option.bind_some, hx, Option.isSome_some, hstep', takesGrants]
  simp [need, hbud, hres, htok]

/-- A post's micro-batch admitted. -/
def admitPost (p : Post) (s : State) : State :=
  { s with ex := { s.ex with admitted := s.ex.admitted ++ [⟨p.step, p.slot, p.tokens, p.buffer⟩] } }

theorem postRule_post {p : Post} (hp : p.wf = true) (s : State) :
    (postRule (postBytes p) s).apply = admitPost p ∧
      (postRule (postBytes p) s).later = false ∧ (postRule (postBytes p) s).log = none ∧
      (postRule (postBytes p) s).after = id ∧ (postRule (postBytes p) s).onReject = bump 0x2020 4 1 := by
  simp only [postRule, postOf_postBytes hp, and_true]
  rfl

theorem satAdd_rg_eq {s t : State} {i j : Nat} (n : Nat) (h : rg t i j = rg s i j) :
    rg (bump i j n t) i j = satAdd (sizeOf_ i j) (rg s i j) n := by
  rw [bump, rg_withRg_same, h]

/-- A rejection counts in 0xF000 alone. -/
theorem rg_rejectReq {q : Req} {code i j : Nat} (s : State) (hj : j < 256) (hi : i ≠ 0xF000) :
    rg (rejectReq q code s) i j = rg s i j := by
  rw [rejectReq, rg_respond]
  exact rg_bump_other _ hj (by decide) hi

end Sys2Proof.Machine

open Sys2Proof Sys2Proof.Machine

/-- Settles O17: two of the codes of R78 are left open by the hypotheses, and their class is the same. -/
theorem postsAdmitOrAreCounted : Obligations.PostsAdmitOrAreCounted := by
  unfold Obligations.PostsAdmitOrAreCounted
  intro q p sc x s hp h w hres hsc hx hbud htok hstep
  have hsame := heardAs_same q (writeCommand (postBytes p)) 0x2020 1 s
  generalize hu : heardAs q (writeCommand (postBytes p)) 0x2020 1 s = u at hsame
  obtain ⟨hregs, hstraps, hdev, hpwr, hex⟩ := hsame
  have hcodes := postRule_codes (s := u) hp hres (hex ▸ hsc) hx hbud htok (hex ▸ hstep)
  obtain ⟨happly, hlater, hlog, hafter, hreject⟩ := postRule_post hp u
  have htakes : takesGrants u = takesGrants s := by rw [takesGrants, hdev, takesGrants]
  rw [htakes, hex] at hcodes
  have hbypass : u.ring.bypassOpen = s.ring.bypassOpen := hu ▸ heardAs_bypass ..
  refine ⟨fun hd hfree => ?_, fun code hcase => ?_⟩
  · have hnow := write_now (rule := postRule (postBytes p)) h w (by rw [hu]) (by
      rw [hcodes, takesGrants_iff.mpr hd, hfree]
      simp [stateNeed]) hlater hlog
    have hact : actsOn q 0x2020 1 (postBytes p) s = forwardAccess true 0x2020 1 u := by rw [actsOn, hu]
    rw [happly, hafter, id, hact] at hnow
    have hexec : exec (.postMicroBatch q p) s = _ := congrArg Host.Outcome.next hnow
    refine ⟨_, hexec, ?_, answers_respond _ _ _ _ ?_, logged_write .., ?_, exec_unchanged hexec⟩
    · have hadmitted : (admitPost p (forwardAccess true 0x2020 1 u)).ex = { s.ex with
          admitted := s.ex.admitted ++ [⟨p.step, p.slot, p.tokens, p.buffer⟩] } := by rw [← hex]; rfl
      exact (Keeps.ex (m := 64) (by simp) (by decide)).trans hadmitted
    · rw [auditWrite_bypass]
      exact hbypass.trans h.sends
    · exact regsExcept_respond_auditWrite _ _ _ _ _ _ (regsExcept_of_regs hregs)
  · have hfirst : firstByClass (postRule (postBytes p) u).codes = code ∧ code ≠ 0 := by
      rw [hcodes]
      rcases hcase with ⟨rfl, hd⟩ | ⟨rfl, hd, htaken⟩
      · have hd' : takesGrants s = false := by
          rw [← Bool.not_eq_true, takesGrants_iff]
          simpa using hd
        rw [hd']
        cases s.ex.admitted.any (fun a => a.step == p.step && a.slot == p.slot) <;> decide
      · rw [takesGrants_iff.mpr (by simpa using hd), htaken]
        decide
    have hnow := writeReq_refused (rule := postRule (postBytes p)) h w (by rw [hu]) (by rw [hfirst.1]; exact hfirst.2)
    rw [hfirst.1, hreject, hu] at hnow
    have hexec : exec (.postMicroBatch q p) s = _ := congrArg Host.Outcome.next hnow
    refine ⟨_, hexec, ?_, answers_rejectReq _ _ _ (hbypass.trans h.sends), ?_, ?_⟩
    · exact (Keeps.ex (m := 64) (by simp) (by decide)).trans hex
    · rw [rg_rejectReq _ (by decide) (by decide)]
      exact satAdd_rg_eq 1 (by rw [← hu, rg_heardAs])
    · have hcount : regsExcept [(0x2020, 4)] u (bump 0x2020 4 1 u) := regsExcept_bump 1 u (by decide) (by simp)
      exact regsExcept_trans (regsExcept_trans (regsExcept_of_regs hregs) hcount) (regsExcept_rejectReq q code _)

end

section
/-! The two clocks of the module, which only the tick and a reset move: what ends in FAULTED leaves them alone. -/

namespace Sys2Proof.Machine

/-- The oscillator's count and device time. -/
def clocksOf (s : State) : Nat × Nat := (s.pwr.osc, s.pwr.time)

theorem clocks_of_keeps {s t : State} (h : Keeps 262144 s t) : clocksOf t = clocksOf s := by
  rw [clocksOf, h.pwr (by decide), clocksOf]

@[simp] theorem closeTestPort_clocks (s : State) : clocksOf (closeTestPort s) = clocksOf s := by
  unfold closeTestPort
  dsimp only
  split <;> rfl

@[simp] theorem toFaulted_clocks (cause kind : Nat) (loc : Bytes) (s : State) :
    clocksOf (toFaulted cause kind loc s) = clocksOf s := by
  have hrest : ∀ u : State, Keeps 262144 u (faultEvent cause kind loc (audit 0 0x2001 3 7 false (leBytes 4 cause)
      (endPending (withRg 0x2001 3 cause { abandonTests u with
        dev := .faulted, ex := { (abandonTests u).ex with holdPending := false } })))) := fun u => by simp
  unfold toFaulted
  split
  · exact clocks_of_keeps (by simp)
  · dsimp only
    split
    · exact (clocks_of_keeps (hrest _)).trans (closeTestPort_clocks s)
    · exact clocks_of_keeps (hrest s)

theorem clocks_ite {c : Prop} [Decidable c] {a b s : State} (ha : clocksOf a = clocksOf s) (hb : clocksOf b = clocksOf s) :
    clocksOf (if c then a else b) = clocksOf s := by
  split <;> assumption

@[simp] theorem applyEcc_clocks (a : Nat) (hbm : Bool) (e : MemEcc) (s : State) :
    clocksOf (applyEcc a hbm e s) = clocksOf s := by
  have hcounts : ∀ u v : State, Keeps 262144 u v → clocksOf u = clocksOf s → clocksOf v = clocksOf s :=
    fun u v h hu => (clocks_of_keeps h).trans hu
  unfold applyEcc
  extract_lets c fixed s1 s2 s3 s4 s5 s6 s7
  have h1 : clocksOf s1 = clocksOf s := clocks_ite rfl (clocks_of_keeps (by simp))
  have h2 : clocksOf s2 = clocksOf s := clocks_ite ((toFaulted_clocks ..).trans h1) h1
  have h3 : clocksOf s3 = clocksOf s := clocks_ite (hcounts s2 _ (by simp) h2) h2
  have h4 : clocksOf s4 = clocksOf s := clocks_ite (hcounts s3 _ (by simp) h3) h3
  have h5 : clocksOf s5 = clocksOf s := clocks_ite (hcounts s4 _ (by simp) h4) h4
  have h6 : clocksOf s6 = clocksOf s := clocks_ite (hcounts s5 _ (by simp) h5) h5
  have h7 : clocksOf s7 = clocksOf s := clocks_ite h6 (hcounts s6 _ (by simp) h6)
  exact clocks_ite h4 (clocks_ite (hcounts s7 _ (by simp) h7) h7)

@[simp] theorem serveRead_clocks (m : MemReq) (ecc : MemEcc) (s : State) : clocksOf (serveRead m ecc s) = clocksOf s := by
  have htail : ∀ (miss : Bool) (v : State), clocksOf (applySnoop m.addr ecc (applyEcc m.addr miss ecc v)) = clocksOf v :=
    fun miss v => (clocks_of_keeps (s := applyEcc m.addr miss ecc v) (by simp)).trans (applyEcc_clocks ..)
  unfold serveRead
  extract_lets line miss s1 s2 s3 poison s4
  have h1 : clocksOf s1 = clocksOf s := clocks_ite (clocks_of_keeps (by simp)) rfl
  have h2 : clocksOf s2 = clocksOf s := (htail miss s1).trans h1
  have h3 : clocksOf s3 = clocksOf s := clocks_ite ((clocks_of_keeps (by simp)).trans h2) h2
  refine (clocks_of_keeps (s := s4) (by simp)).trans ?_
  show clocksOf s4 = _
  simp only [s4]
  split
  · exact clocks_ite ((clocks_of_keeps (s := s3) (by simp)).trans h3) ((clocks_of_keeps (s := s3) (by simp)).trans h3)
  · exact h3

theorem drainWaits_clocks (s : State) : clocksOf (drainWaits s) = clocksOf s := by
  have hfold : ∀ (ws : List WaitingReq) (u : State), clocksOf (ws.foldl (fun s w =>
      if memServes s w.req.addr && canServe s w.req w.write then
        (if w.write then serveWrite w.req w.data s else serveRead w.req w.ecc s)
      else waitRequest w s) u) = clocksOf u := by
    intro ws
    induction ws with
    | nil => exact fun u => rfl
    | cons w ws ih =>
      refine fun u => (ih _).trans (clocks_ite (clocks_ite (clocks_of_keeps (by simp)) (serveRead_clocks ..)) ?_)
      exact clocks_of_keeps (by simp)
  exact hfold _ _

end Sys2Proof.Machine
end

section
/-! The queue, the tick and module reset (R422, R492 to R495). -/

namespace Sys2Proof.Machine

/-! ## The tick -/

theorem tick_inReset {s : State} (h : s.pwr.inReset = true) :
    tick s = { s with sent := [], pwr := { s.pwr with osc := s.pwr.osc + 1 } } := if_pos h

/-- Outside reset the tick moves the clocks on, and nothing that goes on with it reaches them. -/
theorem tick_clocks {s : State} (h : s.pwr.inReset = false) :
    clocksOf (tick s) = ((advanceTime s.pwr).osc, (advanceTime s.pwr).time) := by
  have hreset : ¬ (fresh s).pwr.inReset = true := by simp [h]
  have htail : ∀ u : State, Keeps 262144 u (pumpChans (pumpLanes (sendDueFrames (reviewColls (retireWaiting u))))) :=
    fun u => by simp
  unfold tick
  dsimp only
  rw [if_neg hreset, clocks_of_keeps (htail _), drainWaits_clocks]
  exact clocks_of_keeps (s := { fresh s with pwr := advanceTime (fresh s).pwr }) (by simp)

theorem advanceTime_even {p : PowerClock} (h : p.slew = 0) :
    (advanceTime p).osc = p.osc + 1 ∧ (advanceTime p).time = p.time + 1 := by
  simp [advanceTime, h]

/-! ## Reset entered -/

@[simp] theorem rg_fresh (s : State) (i j : Nat) : rg (fresh s) i j = rg s i j := rfl

/-- The state whose sessions have all ended. -/
def sessionsEnded (s : State) : State := ((List.range 7).map (· + 1)).foldl (fun s n => endSession n s) s

/-- An object that neither the log and the events nor a firmware update count in or report. -/
theorem rg_endSession {i j n : Nat} (s : State) (hj : j < 256) (hi : ¬ counted i) (hfw : i ≠ 0x9010) :
    rg (endSession n s) i j = rg s i j := by
  unfold endSession
  split
  · rfl
  · have haudit : rg (audit n 0x9001 n 3 false (zeros 4) s) i j = rg s i j := rg_audit s hj hi
    generalize audit n 0x9001 n 3 false (zeros 4) s = a at haudit ⊢
    have hupdate : rg (withRg 0x9010 2 4 (withSess n {} a)) i j = rg a i j :=
      rg_withRg_other 4 (withSess n {} a) fun h => hfw (keyOf_index h)
    dsimp only
    split
    · exact hupdate.trans haudit
    · exact haudit

theorem rg_sessionsEnded {i j : Nat} (s : State) (hj : j < 256) (hi : ¬ counted i) (hfw : i ≠ 0x9010) :
    rg (sessionsEnded s) i j = rg s i j := by
  unfold sessionsEnded
  generalize (List.range 7).map (· + 1) = l
  induction l generalizing s with
  | nil => rfl
  | cons n l ih => exact (ih _).trans (rg_endSession s hj hi hfw)

theorem sessionsEnded_keeps (s : State) : Keeps 851951 s (sessionsEnded s) := by
  unfold sessionsEnded
  exact keeps_foldl _ (fun u n => by simp) _ _ _ (Keeps.refl _ _)

/-- What module reset leaves of a state whose sessions have ended. -/
def resetFrom (s : State) : State :=
  { pending := s.pending
    sent := s.sent
    freeCtr := s.freeCtr + 1
    regs := s.regs.filter (fun p => inFlash (p.1 / 256) (p.1 % 256))
    straps := s.straps
    siteMap := settledMap s
    mem :=
      { epoch := s.mem.epoch + 1
        stackSt := (s.mem.stackSt.map (fun p => (p.1, ({ repaired := p.2.repaired } : Stack)))).filter
          (fun p => p.2 ≠ {}) }
    pho := (photonicsDark s).pho
    sec := flashSecurity s.sec s.freeCtr
    pwr := { inReset := true }
    test :=
      { halves := (s.test.halves.map (fun h =>
          (h.1, ({ next := h.2.next, dueAt := h.2.dueAt
                   due := h.2.due || h.2.core.isSome } : HalfTest)))).filter (fun h => h.2 ≠ {}) } }

theorem assertReset_eq (s : State) : assertReset s = resetFrom (sessionsEnded s) := by
  unfold assertReset sessionsEnded
  generalize ((List.range 7).map (· + 1)).foldl (fun s n => endSession n s) s = u
  rfl

theorem not_counted_of_inFlash {i j : Nat} (h : inFlash i j = true) (hlog : i ≠ 0xF000) : ¬ counted i ∧ i ≠ 0x9010 := by
  have h1 : inFlash 0x1300 j = false := rfl
  have h2 : inFlash 0x6C01 j = false := rfl
  have h3 : inFlash 0x9010 j = false := rfl
  unfold counted
  refine ⟨?_, ?_⟩
  · rintro (rfl | rfl | rfl) <;> simp_all
  · rintro rfl
    simp_all

theorem rg_resetFrom {i j : Nat} (u : State) (hj : j < 256) :
    rg (resetFrom u) i j = if inFlash i j then rg u i j else dfltOf i j := rg_filtered hj rfl

theorem rg_assertReset_flash {i j : Nat} (s : State) (hj : j < 256) (h : inFlash i j = true) (hlog : i ≠ 0xF000) :
    rg (assertReset s) i j = rg s i j := by
  obtain ⟨hc, hfw⟩ := not_counted_of_inFlash h hlog
  rw [assertReset_eq, rg_resetFrom _ hj, if_pos h, rg_sessionsEnded s hj hc hfw]

/-- A reset stack is not trained: only its repairs stay. -/
theorem stackOf_resetFrom (u : State) (k : Nat) : (stackOf (resetFrom u) k).state = 0 := by
  have hlist : ∀ l : List (Nat × Stack), (at_ ({} : Stack) k
      ((l.map (fun p => (p.1, ({ repaired := p.2.repaired } : Stack)))).filter (fun p => p.2 ≠ {}))).state = 0 := by
    intro l
    induction l with
    | nil => rfl
    | cons p l ih =>
      rw [List.map_cons, List.filter_cons]
      split
      · unfold at_ lookup
        split
        · rfl
        · exact ih
      · exact ih
  exact hlist u.mem.stackSt

/-- Reset released after it was entered leaves the values of R495. -/
theorem afterReset_released (u : State) (x : Straps) (p : PowerClock) :
    AfterReset (releaseReset x (fresh { resetFrom u with pwr := p })) := by
  have hobj : ∀ i j, j < 256 → inFlash i j = false →
      rg (releaseReset x (fresh { resetFrom u with pwr := p })) i j = dfltOf i j :=
    fun i j hj h => (rg_resetFrom u hj).trans (by rw [h]; rfl)
  refine ⟨rfl, rfl, ⟨rfl, rfl, rfl⟩, fun b hb => ?_, rfl, ⟨?_, ?_⟩, ⟨rfl, ?_⟩, ⟨rfl, rfl, rfl⟩, rfl,
    ⟨rfl, stackOf_resetFrom u⟩, rfl, fun n => rfl, ⟨?_, ?_⟩, rfl, ?_⟩
  · rw [hobj _ _ (by omega) rfl]
    interval_cases b <;> rfl
  all_goals exact hobj _ _ (by decide) rfl

end Sys2Proof.Machine

open Sys2Proof Sys2Proof.Machine

/-- Settles O1: the step's match on the queue, and no command reaches the queue. -/
theorem stepRunsTheFrontCommand : Obligations.StepRunsTheFrontCommand := by
  unfold Obligations.StepRunsTheFrontCommand
  intro c rest s hp
  have hstep : step s = exec c { s with pending := rest } := by
    unfold step
    rw [hp]
  exact ⟨hstep, fun t ht => exec_pending (hstep ▸ ht)⟩

/-- Settles O2: on an empty queue the step is the tick, whose frame is that of what goes on with it. -/
theorem anEmptyQueueTicks : Obligations.AnEmptyQueueTicks := by
  unfold Obligations.AnEmptyQueueTicks
  intro s hp
  have hstep : step s = .next (tick s) := by
    unfold step
    rw [hp]
  have hk : Keeps 3105 s (tick s) := (tick_keeps s (by decide)).mpr (Keeps.refl _ _)
  refine ⟨_, hstep, (hk.pending (by decide)).trans hp, tick_inReset, fun hr hslew => ?_, hk.straps (by decide),
    hk.links (by decide), hk.dieErrors (by decide)⟩
  obtain ⟨hosc, htime⟩ := Prod.ext_iff.mp (tick_clocks hr)
  obtain ⟨aosc, atime⟩ := advanceTime_even hslew
  exact ⟨hosc.trans aosc, htime.trans atime⟩

/-- Settles O3: the reset state holds defaults alone. -/
theorem resetStateHoldsTheStatedValues : Obligations.ResetStateHoldsTheStatedValues := by
  unfold Obligations.ResetStateHoldsTheStatedValues
  refine ⟨⟨rfl, rfl, ⟨rfl, rfl, rfl⟩, fun b hb => ?_, rfl, ⟨rfl, rfl⟩, ⟨rfl, rfl⟩, ⟨rfl, rfl, rfl⟩, rfl,
    ⟨rfl, fun k => rfl⟩, rfl, fun n => rfl, ⟨rfl, rfl⟩, rfl, rfl⟩, rfl, ?_⟩
  · interval_cases b <;> rfl
  · simp [State.canonical, Memory.wf, State.reset]

/-- Settles O4: entering reset keeps what flash holds and nothing of a tenant; the release samples the straps and starts
the time. -/
theorem moduleResetLeavesTheStatedValues : Obligations.ModuleResetLeavesTheStatedValues := by
  unfold Obligations.ModuleResetLeavesTheStatedValues
  refine ⟨fun p s hr hgood => ?enter, fun p s hr => ?inputs, fun x s hr hmay => ?release, fun x s hmay => ?early⟩
  case enter =>
    have hnot : ¬ (fresh s).pwr.inReset = true := by simp [hr]
    have hbad : ¬ inputsGood p = true := by simp [hgood]
    have hexec : exec (.moduleReset p) s = .next (resetFrom (sessionsEnded (fresh s))) := by
      rw [← assertReset_eq]
      exact congrArg Host.Outcome.next ((if_neg hnot).trans (if_neg hbad))
    have hk := sessionsEnded_keeps (fresh s)
    have hflash : ∀ i j, j < 256 → inFlash i j = true → i ≠ 0xF000 →
        rg (resetFrom (sessionsEnded (fresh s))) i j = rg s i j := fun i j hj h hlog => by
      rw [← assertReset_eq, rg_assertReset_flash _ hj h hlog, rg_fresh]
    generalize sessionsEnded (fresh s) = u at hexec hk hflash
    refine ⟨_, hexec, rfl, hk.straps (by decide), hk.pending (by decide), fun x good now hnow => ?_⟩
    have hmay : mayRelease (fresh { resetFrom u with
        pwr := { (resetFrom u).pwr with goodSince := some good, osc := now } }) = true :=
      (Bool.true_and _).trans (decide_eq_true hnow)
    exact ⟨_, congrArg Host.Outcome.next (if_pos hmay), afterReset_released u x _, rfl, hk.pending (by decide),
      fun i j hj h => (rg_resetFrom u hj).trans (by rw [h]; rfl), hflash, rfl, rfl, rfl, rfl, rfl, rfl, rfl, rfl⟩
  case inputs =>
    refine ⟨_, congrArg Host.Outcome.next (if_pos hr), rfl, hr, rfl, ?_⟩
    exact unchanged_of_covered ((keeps_set_pwr (m := 786429) (u := fresh s) _ (by decide)).mpr (by simp)) rfl
  case release =>
    refine ⟨_, congrArg Host.Outcome.next (if_pos hmay), rfl, rfl, ?_⟩
    exact exec_unchanged (c := .resetRelease x) (congrArg Host.Outcome.next (if_pos hmay))
  case early =>
    have hno : ¬ mayRelease (fresh s) = true := by
      rw [show mayRelease (fresh s) = mayRelease s from rfl, hmay]
      decide
    exact congrArg Host.Outcome.next (if_neg hno)

end

section
/-! Memory: writes merge their bytes at the point of coherence, reads answer them, and write-combining entries retire
(spec/07_memory.md). -/

namespace Sys2Proof.Machine

/-! ## Write-combining entries that retire (R212, R240) -/

theorem find_entry_of_mem {l : List WcEntry} {e : WcEntry} (hlines : l.Pairwise (fun a b => a.line ≠ b.line))
    (he : e ∈ l) : l.find? (fun x => x.controller == e.controller && x.line == e.line) = some e := by
  induction l with
  | nil => cases he
  | cons x t ih =>
    obtain ⟨hx, ht⟩ := List.pairwise_cons.mp hlines
    rcases List.mem_cons.mp he with rfl | he
    · simp
    · rw [List.find?_cons_of_neg (by simpa using fun _ => hx e he)]
      exact ih ht he

/-- Once its time has come, the entry is retired or marked. -/
theorem exec_writeCombineTimeout_due {e : WcEntry} {s : State} (hwf : WcOk s.mem.wc) (he : e ∈ s.mem.wc)
    (hdue : e.first + 1000 ≤ s.pwr.time) :
    exec (.writeCombineTimeout e.controller e.line) s = .next (retireOrMark e (fresh s)) := by
  change execWriteCombineTimeout e.controller e.line s = _
  unfold execWriteCombineTimeout
  dsimp only
  rw [fresh_mem, find_entry_of_mem hwf.2 he]
  exact congrArg Host.Outcome.next (if_neg (by simpa using hdue))

theorem retireOrMark_retires {e : WcEntry} {s : State} (hturn : retireWaits s e = false)
    (hallow : regAllows s e.controller e.part (entryCost e) = true) : retireOrMark e (fresh s) = retireEntry e (fresh s) :=
  if_pos (by
    change (!retireWaits s e && regAllows s e.controller e.part (entryCost e)) = true
    simp [hturn, hallow])

theorem retireOrMark_marks {e : WcEntry} {s : State} (hdeny : regAllows s e.controller e.part (entryCost e) = false) :
    retireOrMark e (fresh s) = markRetiring e.line (fresh s) :=
  if_neg (by
    change ¬(!retireWaits s e && regAllows s e.controller e.part (entryCost e)) = true
    simp [hdeny])

theorem lookup_retireEntry_cells {e : WcEntry} {b : Host.Cell} (s : State) (hrise : rising e.data) (hb : b ∈ e.data) :
    lookup b.1 (retireEntry e s).mem.cells = some b.2 := by
  obtain ⟨hcells, -, -, -⟩ := retireEntry_memory e s
  rw [hcells, lookup_foldl_put _ _ _ hrise, lookup_of_mem _ _ hrise hb]
  rfl

theorem rg_regCharge_spent (q p n : Nat) (s : State) :
    rg (regCharge q p n s) 0x4021 (q + 1) =
      satAdd (sizeOf_ 0x4021 (q + 1)) (rg s 0x4021 (q + 1)) (32 * ceilDiv n 32) := by
  have hcount : rg (bump 0x4021 (q + 1) (32 * ceilDiv n 32) s) 0x4021 (q + 1) =
      satAdd (sizeOf_ 0x4021 (q + 1)) (rg s 0x4021 (q + 1)) (32 * ceilDiv n 32) := rg_withRg_same ..
  unfold regCharge
  dsimp only
  split <;> exact hcount

/-! ## What the operations on memory leave of the exchange of requests -/

/-- What has been sent and the requests that are under way. -/
def exchange (s : State) : List Output × List (Nat × List Nat) × List Outstanding × List Answer × List WaitingWrite :=
  (s.sent, s.mem.shared, s.mem.outstanding, s.mem.answers, s.mem.invWait)

@[simp] theorem exchange_clearPoison (a n : Nat) (s : State) : exchange (clearPoison a n s) = exchange s := by
  unfold clearPoison
  dsimp only
  split <;> rfl

@[simp] theorem exchange_regCharge (q p n : Nat) (s : State) : exchange (regCharge q p n s) = exchange s := by
  unfold regCharge
  dsimp only
  split <;> rfl

@[simp] theorem exchange_retireEntry (e : WcEntry) (s : State) : exchange (retireEntry e s) = exchange s :=
  exchange_regCharge (e.controller / 80) e.part (entryCost e) s

@[simp] theorem exchange_retireOrMark (e : WcEntry) (s : State) : exchange (retireOrMark e s) = exchange s := by
  unfold retireOrMark
  split
  · exact exchange_retireEntry e s
  · rfl

@[simp] theorem exchange_makeRoom (c : Nat) (s : State) : exchange (makeRoom c s) = exchange s := by
  unfold makeRoom
  split
  · rfl
  · extract_lets s1
    have h1 : exchange s1 = exchange s := by
      simp only [s1]
      split
      · rfl
      · split
        · exact exchange_retireEntry ..
        · rfl
    clear_value s1
    split
    · split <;> exact h1
    · exact h1

@[simp] theorem exchange_combine (m : MemReq) (data : Bytes) (s : State) : exchange (combine m data s) = exchange s := by
  unfold combine
  extract_lets line c s1 e1 e before s2
  have h1 : exchange s1 = exchange s := by
    simp only [s1]
    split
    · rfl
    · exact exchange_makeRoom ..
  have h2 : exchange s2 = exchange s := h1
  split
  · rw [exchange_retireOrMark, h2]
  · exact h2

@[simp] theorem exchange_writeBack (line : Nat) (s : State) : exchange (writeBack line s) = exchange s := by
  unfold writeBack
  split
  · rfl
  · extract_lets dirty s1
    have h1 : exchange s1 = exchange s := by
      simp only [s1]
      split
      · rfl
      · exact exchange_regCharge ..
    exact h1

@[simp] theorem exchange_mscRoom (line : Nat) (s : State) : exchange (mscRoom line s) = exchange s := by
  unfold mscRoom
  split
  · rfl
  · extract_lets peers
    split
    · rfl
    · exact exchange_writeBack _ (drawn s)

@[simp] theorem exchange_mscInstall (line : Nat) (l : CacheLine) (s : State) :
    exchange (mscInstall line l s) = exchange s := exchange_mscRoom line s

@[simp] theorem exchange_coherentWrite (m : MemReq) (data : Bytes) (s : State) :
    exchange (coherentWrite m data s) = exchange s := by
  unfold coherentWrite
  dsimp only
  rw [exchange_clearPoison]
  split
  · rfl
  · split
    · exact exchange_mscInstall (m.addr / 256) { data := storeCells m.addr data [], part := m.partition } s
    · exact exchange_combine ..

/-! ## Invalidations (R208) -/

theorem outstanding_invalidate (line : Nat) (dies : List Nat) (s : State) :
    (invalidate line dies s).mem.outstanding = s.mem.outstanding := by
  unfold invalidate
  induction dies generalizing s with
  | nil => rfl
  | cons d dies ih => exact (ih _).trans rfl

theorem sent_invalidate (line : Nat) (dies : List Nat) (s : State) :
    (invalidate line dies s).sent = s.sent ++ dies.map fun d => .invalidate (d + 4) line := by
  unfold invalidate
  induction dies generalizing s with
  | nil => simp
  | cons d dies ih =>
    rw [List.foldl_cons, ih]
    change (s.sent ++ [_]) ++ _ = _
    simp

theorem not_resident_shDrop_self (d line : Nat) (s : State) : resident (shDrop d line s) d line = false := by
  change (at_ [] (16 * d + shSlice line)
    (set_ [] (16 * d + shSlice line) (dropNum line (shLines s d line)) s.mem.shared)).contains line = false
  simp [dropNum]

theorem not_resident_shDrop {d line : Nat} (d' : Nat) {s : State} (h : resident s d line = false) :
    resident (shDrop d' line s) d line = false := by
  by_cases hd : d = d'
  · exact hd ▸ not_resident_shDrop_self d line s
  · refine Eq.trans (congrArg (List.contains · line) ?_) h
    exact at_set_other _ _ _ _ _ (by omega)

theorem not_resident_foldl {d line : Nat} (dies : List Nat) {s : State} (h : resident s d line = false) :
    resident (invalidate line dies s) d line = false := by
  unfold invalidate
  induction dies generalizing s with
  | nil => exact h
  | cons d' dies ih => exact ih (s := emit _ (shDrop d' line s)) (not_resident_shDrop d' h)

theorem not_resident_invalidate {d line : Nat} {dies : List Nat} (s : State) (hd : d ∈ dies) :
    resident (invalidate line dies s) d line = false := by
  obtain ⟨before, after, rfl⟩ := List.mem_iff_append.mp hd
  unfold invalidate
  rw [List.foldl_append, List.foldl_cons]
  exact not_resident_foldl (s := emit _ (shDrop d line _)) after (not_resident_shDrop_self d line _)

/-! ## Writes -/

theorem otherHolders_of_exchange {s t : State} (h : exchange t = exchange s) (line die : Nat) :
    otherHolders t line die = otherHolders s line die := by
  have hshared : t.mem.shared = s.mem.shared := congrArg (fun x => x.2.1) h
  unfold otherHolders holdersOf resident shLines
  rw [hshared]

theorem exec_memoryWrite_taken {p : Packet} {s : State} (data : Bytes) (h : Taken p true s) :
    exec (.memoryWrite p data) s = .next (if canServe s (memReqOf p) true then
      serveWrite (memReqOf p) data (expectAnswer (memReqOf p) true (fresh s))
      else waitRequest ⟨memReqOf p, .clean, true, data⟩ (expectAnswer (memReqOf p) true (fresh s))) := by
  obtain ⟨hmap, hserves, hgood, hsent⟩ := h
  have hserves' : memServes (fresh s) p.addr = true := hserves
  have hsent' : requestSent (fresh s) p true = true := hsent
  change execMemoryWrite p data s = _
  unfold execMemoryWrite
  rw [if_neg (by omega)]
  simp only [hserves', hgood, hsent']
  rfl

/-- What a write that is served sends and leaves. -/
theorem serveWrite_served (m : MemReq) (data : Bytes) (s : State) (hc : Canon s)
    (hd : m.addr % 256 + data.length ≤ 256) :
    (∀ x, byteAt (serveWrite m data s) x = written m data s x) ∧
      (serveWrite m data s).mem.outstanding = s.mem.outstanding ∧
      (otherHolders s (m.addr / 256) m.die = [] → .writeAck m.die m.ep m.tag ∈ (serveWrite m data s).sent) ∧
      ∀ d ∈ otherHolders s (m.addr / 256) m.die, .invalidate (d + 4) (m.addr / 256) ∈ (serveWrite m data s).sent ∧
        resident (serveWrite m data s) d (m.addr / 256) = false := by
  have hbytes := fun x => byteAt_coherentWrite m data x s hc hd
  have hex := exchange_coherentWrite m data s
  unfold serveWrite
  dsimp only
  generalize coherentWrite m data s = u at hbytes hex
  rw [otherHolders_of_exchange hex]
  have hout : u.mem.outstanding = s.mem.outstanding := congrArg (fun x => x.2.2.1) hex
  generalize otherHolders s (m.addr / 256) m.die = dies
  cases dies with
  | nil =>
    refine ⟨fun x => (byteAt_congr x rfl rfl rfl rfl).trans (hbytes x), hout, fun _ => ?_, fun d hd => absurd hd (by simp)⟩
    exact List.mem_append_right _ (List.mem_singleton.mpr rfl)
  | cons d0 dies =>
    rw [if_neg (by simp)]
    refine ⟨fun x => ?_, ?_, fun h => absurd h (by simp), fun d hd => ⟨?_, not_resident_invalidate _ hd⟩⟩
    · exact (invalidate_byteAt ..).trans ((byteAt_congr x rfl rfl rfl rfl).trans (hbytes x))
    · exact (outstanding_invalidate ..).trans hout
    · rw [sent_invalidate]
      exact List.mem_append_right _ (List.mem_map.mpr ⟨d, hd, rfl⟩)

theorem bytesAt_of_written {m : MemReq} {data : Bytes} {s t : State} (h : ∀ x, byteAt t x = written m data s x) :
    bytesAt t m.addr data.length = data := by
  refine List.ext_getElem (by simp [bytesAt]) fun i hi hi' => ?_
  simp [bytesAt, h, written, hi']

/-! ## Reads -/

/-- A read's access charged, on a miss. -/
def readCharged (m : MemReq) (s : State) : State :=
  if missesCache s m.addr then regCharge (quadrantOf s m.addr) m.partition 256 s else s

/-- Its line allocated in the memory-side cache, on a miss. -/
def readAllocated (m : MemReq) (s : State) : State :=
  if missesCache s m.addr then mscInstall (m.addr / 256) { part := m.partition } (readCharged m s) else readCharged m s

/-- Its fill in the requesting die's shared cache. -/
def readFilled (m : MemReq) (s : State) : State :=
  match computeDie m.die with
  | some d => if m.fill ∧ m.cls = 4 then installLine (m.addr / 256) d (readAllocated m s) else readAllocated m s
  | none => readAllocated m s

theorem applyEcc_clean (a : Nat) (hbm : Bool) (s : State) : applyEcc a hbm .clean s = s := by
  cases hbm <;> simp [applyEcc, MemEcc.clean]

theorem applyShared_clean (a d : Nat) (s : State) : applyShared a d .clean s = s := by
  simp [applyShared, MemEcc.clean]

theorem serveRead_clean (m : MemReq) (s : State) :
    serveRead m .clean s =
      emit (.readResponse m.die m.ep m.tag (bytesAt (readFilled m s) m.addr m.count)
        (poisonedIn (readAllocated m s) m.addr m.count)) (sendAnswer m false (readFilled m s)) := by
  unfold serveRead readFilled
  simp only [applyEcc_clean, applyShared_clean]
  rfl

theorem mscLine_writeBack_none {line : Nat} (k : Nat) {s : State} (h : mscLine s line = none) :
    mscLine (writeBack k s) line = none := by
  unfold writeBack
  split
  · exact h
  · rename_i l hl
    extract_lets dirty s1
    have h1 : s1.mem.msc = s.mem.msc := by
      simp only [s1]
      split
      · rfl
      · exact (regCharge_memory ..).2.1
    have hne : line ≠ k := by
      rintro rfl
      exact absurd (h.symm.trans hl) (by simp)
    exact (lookup_put_other _ _ _ _ hne).trans (h1 ▸ h)

theorem mscLine_mscRoom_none {line : Nat} {s : State} (h : mscLine s line = none) :
    mscLine (mscRoom line s) line = none := by
  have hevict : ∀ k, mscLine (mscEvict k (drawn s)) line = none := by
    intro k
    by_cases hk : line = k
    · subst hk
      exact lookup_without_same ..
    · exact (lookup_without_other _ _ _ hk).trans (mscLine_writeBack_none (s := drawn s) k h)
  unfold mscRoom
  dsimp only
  split
  · exact h
  · split
    · exact h
    · exact hevict _

/-- A line allocated without contents: every byte reads as before. -/
theorem byteAt_mscInstall_empty {line : Nat} (p x : Nat) {s : State} (hc : MscOk s.mem.msc)
    (h : mscLine s line = none) : byteAt (mscInstall line { part := p } s) x = byteAt s x := by
  have hline : lookup line (mscRoom line s).mem.msc = none := mscLine_mscRoom_none h
  refine Eq.trans (byteAt_congr (s := mscRoom line s) x ?_ rfl rfl rfl) (byteAt_mscRoom line x s hc)
  unfold mscData mscInstall
  by_cases hx : x / 256 = line
  · simp [hx, hline]
  · simp [lookup_put_other _ _ _ _ hx]

theorem byteAt_shRoom (d line x : Nat) (s : State) : byteAt (shRoom d line s) x = byteAt s x := by
  unfold shRoom
  dsimp only
  split
  · rfl
  · split
    · rfl
    · exact byteAt_congr x rfl rfl rfl rfl

theorem byteAt_installLine (line d x : Nat) (s : State) : byteAt (installLine line d s) x = byteAt s x :=
  (byteAt_congr x rfl rfl rfl rfl).trans (byteAt_shRoom d line x s)

theorem byteAt_readAllocated (m : MemReq) (x : Nat) (s : State) (hc : Canon s) :
    byteAt (readAllocated m s) x = byteAt s x := by
  have hmemory := regCharge_memory (quadrantOf s m.addr) m.partition 256 s
  unfold readAllocated readCharged
  split
  · rename_i hmiss
    have hnone : mscLine (regCharge (quadrantOf s m.addr) m.partition 256 s) (m.addr / 256) = none :=
      (congrArg (lookup _) hmemory.2.1).trans (Option.isNone_iff_eq_none.mp hmiss)
    rw [byteAt_mscInstall_empty _ _ (hmemory.2.1 ▸ hc.msc) hnone, byteAt_regCharge]
  · rfl

theorem byteAt_readFilled (m : MemReq) (x : Nat) (s : State) (hc : Canon s) :
    byteAt (readFilled m s) x = byteAt s x := by
  have h := byteAt_readAllocated m x s hc
  unfold readFilled
  split
  · split
    · rw [byteAt_installLine, h]
    · exact h
  · exact h

/-- The poison of the stacks and the requests outstanding. -/
def poisonAndRequests (s : State) : List Nat × List Outstanding := (s.mem.poison, s.mem.outstanding)

theorem poisonAndRequests_regCharge (q p n : Nat) (s : State) :
    poisonAndRequests (regCharge q p n s) = poisonAndRequests s := by
  unfold regCharge
  dsimp only
  split <;> rfl

theorem poisonAndRequests_writeBack (line : Nat) (s : State) :
    poisonAndRequests (writeBack line s) = poisonAndRequests s := by
  unfold writeBack
  split
  · rfl
  · extract_lets dirty s1
    have h1 : poisonAndRequests s1 = poisonAndRequests s := by
      simp only [s1]
      split
      · rfl
      · exact poisonAndRequests_regCharge ..
    exact h1

theorem poisonAndRequests_mscInstall (line : Nat) (l : CacheLine) (s : State) :
    poisonAndRequests (mscInstall line l s) = poisonAndRequests s := by
  change poisonAndRequests (mscRoom line s) = _
  unfold mscRoom
  dsimp only
  split
  · rfl
  · split
    · rfl
    · exact poisonAndRequests_writeBack _ (drawn s)

theorem poisonAndRequests_installLine (line d : Nat) (s : State) :
    poisonAndRequests (installLine line d s) = poisonAndRequests s := by
  change poisonAndRequests (shRoom d line s) = _
  unfold shRoom
  dsimp only
  split
  · rfl
  · split <;> rfl

theorem poisonAndRequests_readAllocated (m : MemReq) (s : State) :
    poisonAndRequests (readAllocated m s) = poisonAndRequests s := by
  unfold readAllocated readCharged
  split
  · rw [poisonAndRequests_mscInstall, poisonAndRequests_regCharge]
  · rfl

theorem poisonAndRequests_readFilled (m : MemReq) (s : State) :
    poisonAndRequests (readFilled m s) = poisonAndRequests s := by
  have h := poisonAndRequests_readAllocated m s
  unfold readFilled
  split
  · split
    · rw [poisonAndRequests_installLine, h]
    · exact h
  · exact h

theorem readAllocated_rgK (m : MemReq) (s : State) : RgK 18446744073707454463 s (readAllocated m s) := by
  unfold readAllocated readCharged
  split <;> simp

theorem readFilled_rgK (m : MemReq) (s : State) : RgK 18446744073707454463 s (readFilled m s) := by
  have h := readAllocated_rgK m s
  unfold readFilled
  split
  · split
    · simpa using h
    · exact h
  · exact h

theorem readFilled_keeps (m : MemReq) (s : State) : Keeps 1048043 s (readFilled m s) := by
  have h : Keeps 1048043 s (readAllocated m s) := by
    unfold readAllocated readCharged
    split <;> simp
  unfold readFilled
  split
  · split
    · simpa using h
    · exact h
  · exact h

theorem poisonedIn_congr {s t : State} (a n : Nat) (hp : t.mem.poison = s.mem.poison) (hr : rg t 0x4000 3 = rg s 0x4000 3) :
    poisonedIn t a n = poisonedIn s a n := by
  unfold poisonedIn poisonedAt placeOf
  rw [hp, hr]

theorem exec_memoryReadRequest_taken {p : Packet} {s : State} (ecc : MemEcc) (h : Taken p false s) :
    exec (.memoryReadRequest p ecc) s = .next (if canServe s (memReqOf p) false then
      serveRead (memReqOf p) ecc (expectAnswer (memReqOf p) false (fresh s))
      else waitRequest ⟨memReqOf p, ecc, false, []⟩ (expectAnswer (memReqOf p) false (fresh s))) := by
  obtain ⟨hmap, hserves, hgood, hsent⟩ := h
  have hserves' : memServes (fresh s) p.addr = true := hserves
  have hsent' : requestSent (fresh s) p false = true := hsent
  change execMemoryReadRequest p ecc s = _
  unfold execMemoryReadRequest
  rw [if_neg (by omega)]
  simp only [hserves', hgood, hsent']
  rfl

end Sys2Proof.Machine

open Sys2Proof Sys2Proof.Machine

/-- Settles O15: the entry's bytes move from the buffer, through which they were read, to the cells. -/
theorem aRetiredEntryKeepsItsBytes : Obligations.ARetiredEntryKeepsItsBytes := by
  refine ⟨fun e s hwf he hdue hturn hallow => ?_, fun e s hwf he hdue hdeny => ?_⟩
  · obtain ⟨-, -, hwc, -⟩ := hwf
    obtain ⟨-, -, hwcAfter, -⟩ := retireEntry_memory e (fresh s)
    refine ⟨retireEntry e (fresh s),
      (exec_writeCombineTimeout_due hwc he hdue).trans (by rw [retireOrMark_retires hturn hallow]),
      fun x hx => ?_, fun b hb => lookup_retireEntry_cells _ (hwc.1 e he).1 hb,
      fun x => (byteAt_retireEntry e x (fresh s) hwc he).trans (byteAt_of_mem x rfl), ?_,
      unchanged_of_covered (m := 1048045) (by simp) rfl,
      fun i j hi => objects_of_covered (m := 18446744073707454463) (l := [0x4021]) (by simp) rfl j (by simpa using hi)⟩
    · rw [hwcAfter] at hx
      simpa using (List.mem_filter.mp hx).2
    · exact rg_regCharge_spent (e.controller / 80) e.part (entryCost e) (fresh s)
  · obtain ⟨-, -, hwc, -⟩ := hwf
    exact ⟨markRetiring e.line (fresh s),
      (exec_writeCombineTimeout_due hwc he hdue).trans (by rw [retireOrMark_marks hdeny]), rfl,
      fun x => (byteAt_markRetiring _ x (fresh s)).trans (byteAt_of_mem x rfl), unchanged_of_covered (m := 1048061) (by simp) rfl⟩

/-- Settles O14: a read installs lines without contents, so that every byte reads as before. -/
theorem memoryReadsAnswerOrWait : Obligations.MemoryReadsAnswerOrWait := by
  refine ⟨fun p s hcanon htaken hserve => ?_, fun p ecc s htaken hwait => ?_, fun p ecc s hout => if_pos hout⟩
  · have hcanon' : Canon (expectAnswer (memReqOf p) false (fresh s)) := by simp [(canon_iff s).mpr hcanon]
    have hex := exec_memoryReadRequest_taken .clean htaken
    rw [if_pos hserve, serveRead_clean] at hex
    have hkept : RgK 18446744073707454463 s (readFilled (memReqOf p) (expectAnswer (memReqOf p) false (fresh s))) :=
      RgK.trans (by simp) (readFilled_rgK _ _)
    have hkept' : RgK 18446744073707454463 s (readAllocated (memReqOf p) (expectAnswer (memReqOf p) false (fresh s))) :=
      RgK.trans (by simp) (readAllocated_rgK _ _)
    have hparts : Keeps 1048041 s (readFilled (memReqOf p) (expectAnswer (memReqOf p) false (fresh s))) :=
      Keeps.trans (by simp) ((readFilled_keeps _ _).mono (by decide))
    have hbytes : ∀ x, byteAt (readFilled (memReqOf p) (expectAnswer (memReqOf p) false (fresh s))) x = byteAt s x :=
      fun x => (byteAt_readFilled _ x _ hcanon').trans (byteAt_congr x rfl rfl rfl rfl)
    have hpoison := poisonAndRequests_readAllocated (memReqOf p) (expectAnswer (memReqOf p) false (fresh s))
    have hleft := poisonAndRequests_readFilled (memReqOf p) (expectAnswer (memReqOf p) false (fresh s))
    refine ⟨_, hex, ?_, fun x => (byteAt_congr x rfl rfl rfl rfl).trans (hbytes x), congrArg Prod.fst hleft, ?_,
      unchanged_of_covered (m := 1048041) (by simpa [sendAnswer] using hparts) rfl, fun i j hi =>
        objects_of_covered (l := [0x4021]) hkept rfl j (by simpa using hi)⟩
    · rw [poisonedIn_congr (s := s) _ _ (congrArg Prod.fst hpoison) (objects_of_covered (l := [0x4021]) hkept' rfl 3 (by decide))]
      have hsame : bytesAt (readFilled (memReqOf p) (expectAnswer (memReqOf p) false (fresh s))) p.addr (attrCount p) =
          bytesAt s p.addr (attrCount p) := List.map_congr_left fun i _ => hbytes (p.addr + i)
      exact List.mem_append_right _ (List.mem_singleton.mpr (by rw [← hsame]; rfl))
    · have hout : (readFilled (memReqOf p) (expectAnswer (memReqOf p) false (fresh s))).mem.outstanding =
          s.mem.outstanding ++ [_] := congrArg Prod.snd hleft
      change _ ∈ (readFilled (memReqOf p) (expectAnswer (memReqOf p) false (fresh s))).mem.outstanding
      rw [hout]
      exact List.mem_append_right _ (List.mem_singleton.mpr rfl)
  · have hex := exec_memoryReadRequest_taken ecc htaken
    rw [if_neg (by simp [hwait])] at hex
    exact ⟨_, hex, rfl, fun x => byteAt_congr x rfl rfl rfl rfl, rfl, unchanged_of_covered (m := 1048061) (by simp) rfl⟩

/-- Settles O13: the write merges its bytes within one line, wherever the point of coherence holds it. -/
theorem aMemoryWriteMergesItsBytes : Obligations.AMemoryWriteMergesItsBytes := by
  refine ⟨fun p data s hcanon htaken hlength hserve => ?_, fun p data s htaken hwait => ?_,
    fun p data s hout => if_pos hout⟩
  · have hline : (memReqOf p).addr % 256 + data.length ≤ 256 := by
      rw [hlength]
      exact write_within_line htaken.good htaken.sent
    have hcanon' : Canon (expectAnswer (memReqOf p) true (fresh s)) := by simp [(canon_iff s).mpr hcanon]
    have hex := exec_memoryWrite_taken data htaken
    rw [if_pos hserve] at hex
    obtain ⟨hbytes, hout, hack, hinv⟩ := serveWrite_served (memReqOf p) data _ hcanon' hline
    refine ⟨_, hex, ?_, fun x hx => ?_, hack, hinv, ?_,
      unchanged_of_covered (m := 1048041) (by simp) rfl, fun i j hi hj =>
        objects_of_covered (m := 18446744056527585279) (l := [0x4021, 0x6C01]) (by simp) rfl j (by simp [hi, hj])⟩
    · exact hlength ▸ bytesAt_of_written hbytes
    · rw [hbytes, written, if_neg (by rw [hlength]; change ¬(p.addr ≤ x ∧ x < p.addr + attrCount p); omega)]
      exact byteAt_congr x rfl rfl rfl rfl
    · rw [hout]
      exact List.mem_append_right _ (List.mem_singleton.mpr rfl)
  · have hex := exec_memoryWrite_taken data htaken
    rw [if_neg (by simp [hwait])] at hex
    exact ⟨_, hex, rfl, fun x => byteAt_congr x rfl rfl rfl rfl, rfl, unchanged_of_covered (m := 1048061) (by simp) rfl⟩

end

section
/-! Entry to FAULTED (R91): the device state, the cause, the log entry and the power state that it leaves; supplies,
temperatures and start-up (spec/17_startup.md, spec/18_module.md). -/

namespace Sys2Proof.Machine

/-! ## Entry to FAULTED -/

/-- The state at the entry to FAULTED, before its pending writes end. -/
def faultEntered (cause : Nat) (s : State) : State :=
  let s := abandonTests (if s.dev = .joined then closeTestPort s else s)
  withRg 0x2001 3 cause { s with dev := .faulted, ex := { s.ex with holdPending := false } }

theorem toFaulted_enters {cause kind : Nat} {loc : Bytes} {s : State} (h : s.dev ≠ .faulted) :
    toFaulted cause kind loc s =
      faultEvent cause kind loc (audit 0 0x2001 3 7 false (leBytes 4 cause) (endPending (faultEntered cause s))) :=
  if_neg h

theorem toFaulted_again {cause kind : Nat} {loc : Bytes} {s : State} (h : s.dev = .faulted) :
    toFaulted cause kind loc s = faultEvent cause kind loc s := if_pos h

theorem endPending_dev (s : State) : (endPending s).dev = s.dev :=
  have h : Keeps 8 s (endPending s) := by simp
  h.dev (by decide)

theorem faultEvent_dev (cause kind : Nat) (loc : Bytes) (s : State) : (faultEvent cause kind loc s).dev = s.dev :=
  have h : Keeps 8 s (faultEvent cause kind loc s) := by simp
  h.dev (by decide)

@[simp] theorem toFaulted_dev (cause kind : Nat) (loc : Bytes) (s : State) :
    (toFaulted cause kind loc s).dev = .faulted := by
  by_cases h : s.dev = .faulted
  · rw [toFaulted_again h, faultEvent_dev, h]
  · rw [toFaulted_enters h, faultEvent_dev, audit_dev, endPending_dev]
    rfl

theorem rg_faultEvent {cause kind : Nat} {loc : Bytes} {i j : Nat} (s : State) (hj : j < 256) (hi : ¬counted i) :
    rg (faultEvent cause kind loc s) i j = rg s i j := rg_raise s hj hi

theorem rg_toFaulted_cause {cause kind : Nat} {loc : Bytes} {s : State} (h : s.dev ≠ .faulted) :
    rg (toFaulted cause kind loc s) 0x2001 3 = cause := by
  have hfree : ¬counted 0x2001 := by unfold counted; decide
  have hkept : RgK 13834917317793808383 (faultEntered cause s) (endPending (faultEntered cause s)) := by simp
  rw [toFaulted_enters h, rg_faultEvent _ (by decide) hfree, rg_audit _ (by decide) hfree, hkept 0x2001 3 (by decide)]
  exact rg_withRg_same ..

theorem rg_toFaulted_again {cause kind : Nat} {loc : Bytes} {s : State} (h : s.dev = .faulted) :
    rg (toFaulted cause kind loc s) 0x2001 3 = rg s 0x2001 3 := by
  rw [toFaulted_again h]
  exact rg_faultEvent _ (by decide) (by unfold counted; decide)

theorem audit_log (sess idx sub kind : Nat) (keyed : Bool) (v : Bytes) (s : State) :
    ∃ e rest, (audit sess idx sub kind keyed v s).sec.log = e :: rest ∧ e.index = idx ∧ e.sub = sub ∧ e.sess = sess ∧
      e.kind = kind := auditDigest_log sess idx sub kind keyed v.length _ s

theorem log_toFaulted {cause kind : Nat} {loc : Bytes} {s : State} (h : s.dev ≠ .faulted) :
    ∃ e rest, (toFaulted cause kind loc s).sec.log = e :: rest ∧ e.index = 0x2001 ∧ e.sub = 3 ∧ e.kind = 7 := by
  rw [toFaulted_enters h, faultEvent, raise_sec]
  obtain ⟨e, rest, hlog, hindex, hsub, -, hkind⟩ := audit_log 0 0x2001 3 7 false (leBytes 4 cause)
    (endPending (faultEntered cause s))
  exact ⟨e, rest, hlog, hindex, hsub, hkind⟩

/-- The rung of the power ladder in force, the fault ramp, the reset and device time: entering FAULTED leaves them
alone. -/
def ladderOf (s : State) : PowerState × Bool × Bool × Nat :=
  (s.pwr.cur, s.pwr.afterFault, s.pwr.inReset, s.pwr.time)

theorem ladder_of_keeps {s t : State} (h : Keeps 262144 s t) : ladderOf t = ladderOf s := by
  unfold ladderOf
  rw [h.pwr (by decide)]

theorem ladder_closeTestPort (s : State) : ladderOf (closeTestPort s) = ladderOf s := by
  unfold closeTestPort
  dsimp only
  split <;> rfl

theorem ladder_faultEntered (cause : Nat) (s : State) : ladderOf (faultEntered cause s) = ladderOf s := by
  have htests : ∀ u : State, ladderOf (abandonTests u) = ladderOf u := fun u => ladder_of_keeps (by simp)
  have hcause : ∀ u : State, ladderOf (withRg 0x2001 3 cause
      { u with dev := .faulted, ex := { u.ex with holdPending := false } }) = ladderOf u := fun _ => rfl
  unfold faultEntered
  dsimp only
  rw [hcause, htests]
  split
  · exact ladder_closeTestPort s
  · rfl

@[simp] theorem ladder_toFaulted (cause kind : Nat) (loc : Bytes) (s : State) :
    ladderOf (toFaulted cause kind loc s) = ladderOf s := by
  have hkeeps : ∀ u : State, Keeps 262144 u (faultEvent cause kind loc (audit 0 0x2001 3 7 false (leBytes 4 cause)
      (endPending u))) := fun u => by simp
  by_cases h : s.dev = .faulted
  · rw [toFaulted_again h]
    exact ladder_of_keeps (by simp)
  · rw [toFaulted_enters h, ladder_of_keeps (hkeeps _), ladder_faultEntered]

end Sys2Proof.Machine

end

section
/-! Start-up, and the watch over supplies and temperatures (spec/17_startup.md, spec/18_module.md). -/

namespace Sys2Proof.Machine

/-! ## Start-up -/

theorem exec_islandMismatch_lockstep {s : State} (hreset : s.pwr.inReset = false) (hb0 : s.pwr.selfTestB0 = true)
    (hb2 : s.pwr.selfTestB2 = true) : exec .islandMismatch s = .next (toFaulted 0x03800002 0 [] (fresh s)) :=
  congrArg Host.Outcome.next (if_neg (by simp [hreset, hb0, hb2]))

theorem exec_firmwareVerified_runs {img : FwImage} {s : State} (hreset : s.pwr.inReset = false)
    (hrun : s.sec.fwRunning = false) (hrec : s.sec.recovery = false) (hok : firmwareOk s img = true) :
    exec (.firmwareVerified img true) s = .next (withRg 0x1000 3 (img.version % 2 ^ 32)
      { fresh s with sec := { s.sec with fwRunning := true, fwDigest := img.digest, fwSecurity := img.security } }) := by
  have hok' : firmwareOk (fresh s) img = true := hok
  refine (congrArg Host.Outcome.next (if_neg (by simp [hreset, hrun, hrec]))).trans ?_
  exact congrArg Host.Outcome.next (if_pos (by simp [hok']))

theorem exec_firmwareVerified_recovers {img : FwImage} {good : Bool} {s : State} (hreset : s.pwr.inReset = false)
    (hrun : s.sec.fwRunning = false) (hrec : s.sec.recovery = false) (hbad : firmwareOk s img = false ∨ good = false) :
    exec (.firmwareVerified img good) s = .next { s with sent := [], sec := { s.sec with recovery := true } } := by
  have hbad' : firmwareOk (fresh s) img = false ∨ good = false := hbad
  refine (congrArg Host.Outcome.next (if_neg (by simp [hreset, hrun, hrec]))).trans ?_
  exact congrArg Host.Outcome.next (if_neg (by rcases hbad' with h | h <;> simp [h]))

theorem settleDelay_eq (straps : Straps) : settleDelay straps = 4 ^ (straps.settle % 4) * 1000000 := by
  unfold settleDelay
  omega

end Sys2Proof.Machine

open Sys2Proof Sys2Proof.Machine

/-- Settles O56: each start-up event is one test and one update of the power or security state. -/
theorem theModuleStartsUp : Obligations.TheModuleStartsUp := by
  refine ⟨fun s hreset hlock => ?_, fun b s hreset hlock => ?_, fun s hreset hlock hdue => ?_, fun s hearly => ?_,
    fun x y s hreset htested => ?_, fun img s hreset hrun hrec hok => ?_,
    fun img good s hreset hrun hrec hbad => exec_firmwareVerified_recovers hreset hrun hrec hbad,
    fun s hreset hb0 hb2 hdev => ?_, fun s hone => ?_⟩
  · exact congrArg Host.Outcome.next ((if_neg (by simp [hreset])).trans (by simp [hlock, fresh]))
  · exact congrArg Host.Outcome.next ((if_neg (by simp [hreset])).trans (by simp [hlock, fresh]))
  · exact congrArg Host.Outcome.next (if_neg (by simp [hreset, hlock, settleDelay_eq]; omega))
  · refine congrArg Host.Outcome.next (if_pos ?_)
    rcases hearly with hlock | hearly
    · simp [hlock]
    · simp [settleDelay_eq, hearly]
  · exact congrArg Host.Outcome.next (if_neg (by simp [hreset, htested]))
  · refine ⟨_, exec_firmwareVerified_runs hreset hrun hrec hok, rfl, rg_withRg_same .., rfl, ?_, ?_⟩
    · exact regsExcept_trans (regsExcept_of_regs rfl) (regsExcept_withRg _ _ (by decide) (by decide))
    · exact unchanged_of_covered (m := 917485) ((withRg_keeps _ _ _ _ (by decide)).mpr
        ((keeps_set_sec (u := fresh s) _ (by decide)).mpr (by simp))) rfl
  · exact ⟨_, exec_islandMismatch_lockstep hreset hb0 hb2, toFaulted_dev .., rg_toFaulted_cause hdev,
      log_toFaulted hdev⟩
  · exact congrArg Host.Outcome.next (if_pos (by rcases hone with h | h <;> simp [h]))

end

section
/-! The watch over supplies and temperatures (spec/16_power_clocks.md, spec/18_module.md). -/

namespace Sys2Proof.Machine

/-! ## The monitors' values -/

/-- The photonic dies' temperatures reported from subindex n + 1 on. -/
def reportDies (n : Nat) (l : List Nat) (m : Nat) (s : State) : State :=
  ((l.zipIdx n).take m).foldl (fun s p => withRg 0x5030 (p.2 + 1) (min 255 p.1) s) s

theorem rg_reportDies_other {i j n m : Nat} (l : List Nat) (s : State) (hj : j < 256) (hm : n + m < 256)
    (h : i ≠ 0x5030 ∨ j ≤ n ∨ n + m < j) : rg (reportDies n l m s) i j = rg s i j := by
  induction l generalizing n m s with
  | nil => simp [reportDies]
  | cons x l ih =>
    cases m with
    | zero => rfl
    | succ m =>
      refine (ih (n := n + 1) (m := m) _ (by omega) (by omega)).trans ?_
      exact rg_withRg_other _ _ fun hkey => by have := keyOf_inj hj (by omega) hkey; omega

theorem rg_reportDies {n m k : Nat} (l : List Nat) (s : State) (hm : n + m < 256) (hkm : k < m) (hk : k < l.length) :
    rg (reportDies n l m s) 0x5030 (n + k + 1) = min 255 l[k] := by
  induction l generalizing n m k s with
  | nil => simp at hk
  | cons x l ih =>
    obtain ⟨m, rfl⟩ : ∃ r, m = r + 1 := ⟨m - 1, by omega⟩
    change rg (reportDies (n + 1) l m (withRg 0x5030 (n + 1) (min 255 x) s)) _ _ = _
    cases k with
    | zero =>
      rw [rg_reportDies_other l _ (by omega) (by omega) (by omega)]
      exact rg_withRg_same ..
    | succ k =>
      rw [show n + (k + 1) + 1 = n + 1 + k + 1 by omega]
      exact ih _ (by omega) (by omega) (by simpa using hk)

/-- The monitors' own values. -/
def reportModule (m : Limits) (s : State) : State :=
  withRg 0xA040 1 (m.power % 2 ^ 32) (withRg 0xA040 2 (m.v54 % 2 ^ 32)
    (withRg 0xA040 3 (min 255 m.junction) (withRg 0xA040 4 (m.beatRate % 2 ^ 32) s)))

theorem report_eq (m : Limits) (s : State) : report m s = reportDies 0 m.photonic 4 (reportModule m s) := rfl

theorem rg_withRg_sub {i j k v : Nat} (s : State) (hj : j < 256) (hk : k < 256) (h : j ≠ k) :
    rg (withRg i k v s) i j = rg s i j :=
  rg_withRg_other _ _ fun hkey => h (keyOf_inj hj hk hkey).2

theorem report_reported (m : Limits) (s : State) : Reported m (report m s) := by
  have hother : ∀ j, j < 256 → rg (report m s) 0xA040 j = rg (reportModule m s) 0xA040 j := fun j hj =>
    report_eq m s ▸ rg_reportDies_other m.photonic _ hj (by decide) (.inl (by decide))
  refine ⟨?_, ?_, ?_, ?_, fun k hk hk4 => ?_⟩
  · rw [hother 1 (by decide)]
    exact rg_withRg_same ..
  · rw [hother 2 (by decide), reportModule, rg_withRg_sub _ (by decide) (by decide) (by decide)]
    exact rg_withRg_same ..
  · rw [hother 3 (by decide), reportModule, rg_withRg_sub _ (by decide) (by decide) (by decide),
      rg_withRg_sub _ (by decide) (by decide) (by decide)]
    exact rg_withRg_same ..
  · rw [hother 4 (by decide), reportModule, rg_withRg_sub _ (by decide) (by decide) (by decide),
      rg_withRg_sub _ (by decide) (by decide) (by decide), rg_withRg_sub _ (by decide) (by decide) (by decide)]
    exact rg_withRg_same ..
  · rw [report_eq]
    simpa using rg_reportDies (n := 0) m.photonic (reportModule m s) (by decide) hk4 hk

/-- The objects that the monitors' values are reported in. -/
abbrev monitored : List (Nat × Nat) :=
  [(0xA040, 1), (0xA040, 2), (0xA040, 3), (0xA040, 4), (0x5030, 1), (0x5030, 2), (0x5030, 3), (0x5030, 4)]

theorem regsExcept_report (m : Limits) (s : State) : regsExcept monitored s (report m s) := by
  refine regsExcept_trans (t := reportModule m s) ?_ fun i j hj hout _ _ _ => ?_
  · exact regsExcept_trans (regsExcept_trans (regsExcept_trans (regsExcept_withRg _ _ (by decide) (by simp))
      (regsExcept_withRg _ _ (by decide) (by simp))) (regsExcept_withRg _ _ (by decide) (by simp)))
      (regsExcept_withRg _ _ (by decide) (by simp))
  · rw [report_eq]
    refine rg_reportDies_other _ _ hj (by decide) ?_
    simp only [List.mem_cons, Prod.mk.injEq, not_or] at hout
    omega

theorem report_dev (m : Limits) (s : State) : (report m s).dev = s.dev :=
  have h : Keeps 8 s (report m s) := by simp
  h.dev (by decide)

theorem report_pwr (m : Limits) (s : State) : (report m s).pwr = s.pwr :=
  have h : Keeps 262144 s (report m s) := by simp
  h.pwr (by decide)

/-! ## Supply faults -/

theorem pendOf_failPend_same (k : PendKind) (code : Nat) (s : State) : pendOf (failPend k code s) k = none := by
  cases hp : pendOf s k with
  | none =>
    have hnone : failPend k code s = s := by simp [failPend, hp]
    rw [hnone, hp]
  | some p => rw [failPend_of_pendOf hp, pendOf_of_pend (rejectReq_sec_pend ..), pendOf_dropPend_same]

theorem failPend_log (k : PendKind) (code : Nat) (s : State) : (failPend k code s).sec.log = s.sec.log := by
  unfold failPend
  split
  · rfl
  · exact rejectReq_sec_log ..

theorem stowNow_leaves (s : State) : (stowNow s).pwr.cur = .stow ∧ (stowNow s).links = [] ∧ (stowNow s).sites = [] := by
  unfold stowNow
  exact ⟨rfl, rfl, rfl⟩

/-- A supply fault before the power stage goes down. -/
def supplyTaken (s : State) : State := failPend .power 0x03000002 (toFaulted 0x03900002 0 [] s)

theorem supplyTaken_dev (s : State) : (supplyTaken s).dev = .faulted := by
  have h : ∀ u : State, Keeps 8 u (failPend .power 0x03000002 u) := fun u => by simp
  exact ((h _).dev (by decide)).trans (toFaulted_dev ..)

theorem ladder_supplyTaken (s : State) : ladderOf (supplyTaken s) = ladderOf s :=
  (ladder_of_keeps (s := toFaulted 0x03900002 0 [] s) (by rw [supplyTaken]; simp)).trans (ladder_toFaulted ..)

theorem rg_supplyTaken_cause (s : State) :
    rg (supplyTaken s) 0x2001 3 = if s.dev = .faulted then rg s 0x2001 3 else 0x03900002 := by
  have h : ∀ u : State, RgK 13835058055282163711 u (failPend .power 0x03000002 u) := fun u => by simp
  rw [supplyTaken, h _ 0x2001 3 (by decide)]
  split
  · exact rg_toFaulted_again ‹_›
  · exact rg_toFaulted_cause ‹_›

theorem supplyTaken_cur (s : State) : (supplyTaken s).pwr.cur = s.pwr.cur := congrArg Prod.fst (ladder_supplyTaken s)

theorem supplyTaken_pendOf (s : State) : pendOf (supplyTaken s) .power = none := pendOf_failPend_same ..

theorem supplyTaken_log {s : State} (hdev : s.dev ≠ .faulted) :
    ∃ e rest, (supplyTaken s).sec.log = e :: rest ∧ e.index = 0x2001 ∧ e.sub = 3 ∧ e.kind = 7 := by
  rw [supplyTaken, failPend_log]
  exact log_toFaulted hdev

theorem supplyTaken_rgK (s : State) : RgK 13690802112538083279 s (supplyTaken s) := by simp [supplyTaken]

theorem supplyFault_takes {s : State} (hafter : s.pwr.afterFault = false) :
    supplyFault s = if (supplyTaken s).pwr.cur = .stow then
      { stowNow (supplyTaken s) with
        pwr := { (stowNow (supplyTaken s)).pwr with req := .stow, moving := false, stowExit := false } }
      else
        { supplyTaken s with pwr := { (supplyTaken s).pwr with req := .stow, moving := true, afterFault := true } } := by
  unfold supplyFault supplyTaken
  dsimp only
  rw [if_neg (by simp [hafter])]

theorem supplyFault_down {s : State} (hcur : s.pwr.cur ≠ .stow) (hafter : s.pwr.afterFault = false) :
    supplyFault s =
      { supplyTaken s with pwr := { (supplyTaken s).pwr with req := .stow, moving := true, afterFault := true } } := by
  have hcur' : (supplyTaken s).pwr.cur ≠ .stow := by rwa [supplyTaken_cur]
  rw [supplyFault_takes hafter, if_neg hcur']

theorem supplyFault_stow {s : State} (hcur : s.pwr.cur = .stow) (hafter : s.pwr.afterFault = false) :
    supplyFault s = { stowNow (supplyTaken s) with
      pwr := { (stowNow (supplyTaken s)).pwr with req := .stow, moving := false, stowExit := false } } := by
  have hcur' : (supplyTaken s).pwr.cur = .stow := (supplyTaken_cur s).trans hcur
  rw [supplyFault_takes hafter, if_pos hcur']

theorem supplyFault_faultedDown {s : State} (hcur : s.pwr.cur ≠ .stow) (hafter : s.pwr.afterFault = false) :
    FaultedDown s (supplyFault s) := by
  rw [supplyFault_down hcur hafter]
  have hdev := supplyTaken_dev s
  have hcur' := supplyTaken_cur s
  have hpend := supplyTaken_pendOf s
  have hcause : s.dev ≠ .faulted → rg (supplyTaken s) 0x2001 3 = 0x03900002 := fun h =>
    (rg_supplyTaken_cause s).trans (if_neg h)
  have hkept : s.dev = .faulted → rg (supplyTaken s) 0x2001 3 = rg s 0x2001 3 := fun h =>
    (rg_supplyTaken_cause s).trans (if_pos h)
  have hlog := supplyTaken_log (s := s)
  generalize supplyTaken s = u at hdev hcur' hpend hcause hkept hlog
  exact ⟨hdev, ⟨rfl, hcur', rfl, rfl⟩, hpend, fun h => ⟨hcause h, hlog h⟩, hkept⟩

theorem supplyFault_left {s : State} (hcur : s.pwr.cur = .stow) (hafter : s.pwr.afterFault = false) :
    (supplyFault s).dev = .faulted ∧ (supplyFault s).pwr.cur = .stow ∧ (supplyFault s).pwr.req = .stow ∧
      (supplyFault s).pwr.moving = false ∧ (supplyFault s).pwr.stowExit = false ∧ (supplyFault s).links = [] ∧
      (supplyFault s).sites = [] := by
  have hleft : ∀ v : State, v.dev = .faulted → v.pwr.cur = .stow → v.links = [] → v.sites = [] →
      let w : State := { v with pwr := { v.pwr with req := .stow, moving := false, stowExit := false } }
      w.dev = .faulted ∧ w.pwr.cur = .stow ∧ w.pwr.req = .stow ∧ w.pwr.moving = false ∧ w.pwr.stowExit = false ∧
        w.links = [] ∧ w.sites = [] := fun v hdev hcur hlinks hsites => ⟨hdev, hcur, rfl, rfl, rfl, hlinks, hsites⟩
  have hstow : ∀ u : State, Keeps 8 u (stowNow u) := fun u => by simp
  obtain ⟨hrung, hlinks, hsites⟩ := stowNow_leaves (supplyTaken s)
  rw [supplyFault_stow hcur hafter]
  exact hleft _ (((hstow _).dev (by decide)).trans (supplyTaken_dev s)) hrung hlinks hsites

/-- Fault above Stow, with the values reported first. -/
theorem faultedDown_of_report {m : Limits} {s t : State} (h : FaultedDown (report m (fresh s)) t) :
    FaultedDown s t := by
  obtain ⟨hdev, hdown, hpend, hcause, hkept⟩ := h
  rw [report_dev] at hcause hkept
  rw [report_pwr] at hdown
  have hrg : rg (report m (fresh s)) 0x2001 3 = rg s 0x2001 3 :=
    regsExcept_report m (fresh s) 0x2001 3 (by decide) (by decide) (by decide) (by decide) (by decide)
  exact ⟨hdev, hdown, hpend, hcause, hrg ▸ hkept⟩

theorem faultedDown_of_fresh {s t : State} (h : FaultedDown (fresh s) t) : FaultedDown s t := by
  obtain ⟨hdev, hdown, hpend, hcause, hkept⟩ := h
  exact ⟨hdev, hdown, hpend, hcause, hkept⟩

theorem exec_supplyOrTemperatureFault_above {m : Limits} {s : State} (hreset : s.pwr.inReset = false)
    (habove : aboveStow s = true) (hbroken : limitsBroken m = true) :
    exec (.supplyOrTemperatureFault m) s = .next (supplyFault (report m (fresh s))) := by
  refine congrArg Host.Outcome.next ((if_neg (by simp [hreset])).trans (if_pos ?_))
  rw [hbroken, aboveStow, report_pwr]
  exact (Bool.and_true _).trans habove

theorem exec_supplyOrTemperatureFault_quiet {m : Limits} {s : State} (hreset : s.pwr.inReset = false)
    (h : aboveStow s = false ∨ limitsBroken m = false) :
    exec (.supplyOrTemperatureFault m) s = .next (report m (fresh s)) := by
  refine congrArg Host.Outcome.next ((if_neg (by simp [hreset])).trans (if_neg ?_))
  rw [aboveStow, report_pwr]
  change ¬(aboveStow s && limitsBroken m) = true
  rcases h with h | h <;> simp [h]

theorem reported_supplyFault {m : Limits} {u : State} (hcur : u.pwr.cur ≠ .stow) (hafter : u.pwr.afterFault = false)
    (h : Reported m u) : Reported m (supplyFault u) := by
  have hrg : ∀ j, rg (supplyFault u) 0xA040 j = rg u 0xA040 j ∧ rg (supplyFault u) 0x5030 j = rg u 0x5030 j := by
    intro j
    rw [supplyFault_down hcur hafter]
    exact ⟨supplyTaken_rgK u 0xA040 j (by decide), supplyTaken_rgK u 0x5030 j (by decide)⟩
  obtain ⟨hpower, hinput, hjunction, hbeats, hdies⟩ := h
  exact ⟨by rw [(hrg 1).1, hpower], by rw [(hrg 2).1, hinput], by rw [(hrg 3).1, hjunction], by rw [(hrg 4).1, hbeats],
    fun k hk hk4 => by rw [(hrg (k + 1)).2, hdies k hk hk4]⟩

theorem aboveStow_of_cur {s : State} (h : s.pwr.cur ≠ .stow) : aboveStow s = true := by simp [aboveStow, h]

theorem readStage_bad {x : PmStatus} {s : State} (hreset : s.pwr.inReset = false) (habove : aboveStow s = true)
    (h : stageBad x) : readStage x (fresh s) = supplyFault (fresh s) := by
  obtain ⟨hack, hbad⟩ := h
  have habove' : aboveStow (fresh s) = true := habove
  refine if_pos ?_
  rcases hbad with h | h | h | h <;> simp [hreset, hack, h, habove']

theorem readStage_good {x : PmStatus} {s : State} (h : ¬stageBad x) : readStage x (fresh s) = fresh s := by
  refine if_neg fun hbad => h ?_
  simp only [Bool.and_eq_true, Bool.or_eq_true] at hbad
  obtain ⟨⟨⟨-, hack⟩, ((h1 | h2) | h3) | h4⟩, -⟩ := hbad
  · exact ⟨hack, .inl h1⟩
  · exact ⟨hack, .inr (.inl h2)⟩
  · exact ⟨hack, .inr (.inr (.inl h3))⟩
  · exact ⟨hack, .inr (.inr (.inr h4))⟩

end Sys2Proof.Machine

open Sys2Proof Sys2Proof.Machine

/-- Settles O55: the values are reported, and a supply fault enters FAULTED and begins the move to Stow. -/
theorem suppliesAndTemperaturesAreWatched : Obligations.SuppliesAndTemperaturesAreWatched := by
  refine ⟨fun m s hreset hquiet => ?_, fun m s hreset hcur hafter hbroken => ?_,
    fun m s hreset hcur hmoving hafter hbroken => ?_, fun x s hreset hcur hafter hbad => ?_, fun x s hgood => ?_,
    fun die stack s hreset htrip => ?_, fun die stack s hdie hstack => ?_⟩
  · exact ⟨_, exec_supplyOrTemperatureFault_quiet hreset hquiet, report_reported .., regsExcept_report m (fresh s),
      unchanged_of_covered (m := 1048557) (by simp) rfl⟩
  · have hcur' : (report m (fresh s)).pwr.cur ≠ .stow := by rwa [report_pwr]
    have hafter' : (report m (fresh s)).pwr.afterFault = false := by rwa [report_pwr]
    exact ⟨_, exec_supplyOrTemperatureFault_above hreset (aboveStow_of_cur hcur) hbroken,
      reported_supplyFault hcur' hafter' (report_reported ..),
      faultedDown_of_report (supplyFault_faultedDown hcur' hafter')⟩
  · have hcur' : (report m (fresh s)).pwr.cur = .stow := by rwa [report_pwr]
    have hafter' : (report m (fresh s)).pwr.afterFault = false := by rwa [report_pwr]
    exact ⟨_, exec_supplyOrTemperatureFault_above hreset (by simp [aboveStow, hmoving]) hbroken,
      supplyFault_left hcur' hafter'⟩
  · have hdown := faultedDown_of_fresh (supplyFault_faultedDown (s := fresh s) hcur hafter)
    have hstage := readStage_bad hreset (aboveStow_of_cur hcur) hbad
    exact ⟨⟨_, congrArg Host.Outcome.next hstage, hdown⟩, _, congrArg Host.Outcome.next hstage, hdown⟩
  · exact ⟨congrArg Host.Outcome.next (readStage_good hgood), congrArg Host.Outcome.next (readStage_good hgood)⟩
  · refine congrArg Host.Outcome.next (if_neg ?_)
    rcases htrip with h | h <;> simp [hreset, trips, h]
  · exact congrArg Host.Outcome.next (if_pos (by simp [trips, hdie, hstack]))

end

section
/-! The test port's instructions (spec/19_test.md). -/

namespace Sys2Proof.Machine

theorem forgetDies_test (sel : BitVec 40) (s : State) : (forgetDies sel s).test = s.test :=
  have h : Keeps 524288 s (forgetDies sel s) := by simp
  h.test (by decide)

/-- The port's registers with the selected dies undefined since a state. -/
def undefinedSince (u : State) (sel : BitVec 40) : TestState :=
  { u.test with intrusive := true, undefDies := u.test.undefDies ||| sel, undefAt := u.freeCtr }

/-- The port's registers after an instruction that leaves the selected dies undefined. -/
theorem loadInstr_intrusive_test (ir : BitVec 8) (s : State) :
    (loadInstr ir true s).test =
      { s.test with
        ir := ir, driven := false, highz := false, intrusive := true
        undefDies := s.test.undefDies ||| selectedDies s, undefAt := (loadInstr ir true s).test.undefAt } := by
  have hload : (loadInstr ir true s).test = undefinedSince (forgetDies (selectedDies s)
      { s with test := { s.test with ir := ir, driven := false, highz := false } }) (selectedDies s) := rfl
  have hforget := forgetDies_test (selectedDies s)
    { s with test := { s.test with ir := ir, driven := false, highz := false } }
  rw [hload, undefinedSince, hforget]

/-- The state with a selection of dies. -/
def dieSelected (sel : BitVec 40) (s : State) : State := { fresh s with test := { s.test with dieSelect := sel } }

theorem selectedDies_dieSelected (sel : BitVec 40) (s : State) :
    selectedDies (dieSelected sel s) =
      if s.pwr.cur = .stow ∧ s.pwr.moving = false then sel &&& baseDies else sel := by
  simp [selectedDies, dieSelected]

theorem selectedDies_selected (sel : BitVec 40) (s : State) :
    selectedDies (dieSelected (selectedDies (dieSelected sel s)) s) = selectedDies (dieSelected sel s) := by
  simp only [selectedDies_dieSelected]
  split
  · rw [BitVec.and_assoc, BitVec.and_self]
  · rfl

/-- The port closed, an instruction changes nothing. -/
theorem exec_of_portClosed {i : Instr} {s : State} (hclosed : portOpen s = false)
    (hi : i ∈ [Instr.extest, .idcode, .clamp, .highz, .dieAccess] ∨ (∃ p, i = .samplePreload p) ∨
      (∃ d, i = .dieSelect d) ∨ ∃ c, i = .bypass c) : exec i s = .next (fresh s) := by
  have hclosed' : (!portOpen (fresh s)) = true := by
    change (!portOpen s) = true
    simp [hclosed]
  rcases hi with hi | ⟨p, rfl⟩ | ⟨d, rfl⟩ | ⟨c, rfl⟩
  · simp only [List.mem_cons, List.not_mem_nil, or_false] at hi
    rcases hi with rfl | rfl | rfl | rfl | rfl <;> exact congrArg Host.Outcome.next (if_pos hclosed')
  · exact congrArg Host.Outcome.next (if_pos hclosed')
  · exact congrArg Host.Outcome.next (if_pos hclosed')
  · exact congrArg Host.Outcome.next (if_pos (.inl hclosed'))

theorem loadInstr_kept (ir : BitVec 8) (intrusive : Bool) (s : State) :
    Keeps 523641 s (loadInstr ir intrusive (fresh s)) := by simp

theorem loadInstr_undriven (ir : BitVec 8) (s : State) :
    (loadInstr ir true s).test = { (loadInstr ir true s).test with driven := false, highz := false } := by
  rw [loadInstr_intrusive_test]

/-- An instruction that loads its code and then sets the port's drivers. -/
theorem intrudes_of_exec {i : Instr} {s t : State} {ir : BitVec 8} {driven highz : Bool} (h : exec i s = .next t)
    (hkeeps : Keeps 523641 s t)
    (htest : t.test = { (loadInstr ir true (fresh s)).test with driven := driven, highz := highz }) :
    intrudes i { s.test with ir := ir, driven := driven, highz := highz } s := by
  refine ⟨t, h, ?_, unchanged_of_covered hkeeps rfl⟩
  rw [htest, loadInstr_intrusive_test]
  rfl

end Sys2Proof.Machine

open Sys2Proof Sys2Proof.Machine

/-- Settles O58: an open port loads the instruction; the intrusive ones forget what the selected dies hold. -/
theorem testInstructionsAct : Obligations.TestInstructionsAct := by
  refine ⟨fun s hopen => ?_, fun sel eff s hopen heff => ?_, fun pins s hopen => ?_, fun code s hopen hcode => ?_,
    fun i s hclosed hi => exec_of_portClosed hclosed hi, fun s => rfl⟩
  all_goals have hopen' : ¬(!portOpen (fresh s)) = true := by
              change ¬(!portOpen s) = true
              simp [hopen]
  · have hundriven := fun ir => loadInstr_undriven ir (fresh s)
    have hset : ∀ ir x, Keeps 523641 s { loadInstr ir true (fresh s) with test := x } := fun ir x =>
      (keeps_set_test _ (by decide)).mpr (loadInstr_kept ..)
    exact ⟨intrudes_of_exec (congrArg Host.Outcome.next (if_neg hopen')) (hset 0x00 _)
        (congrArg (fun x : TestState => { x with driven := true }) (hundriven 0x00)),
      intrudes_of_exec (congrArg Host.Outcome.next (if_neg hopen')) (hset 0x03 _)
        (congrArg (fun x : TestState => { x with driven := true }) (hundriven 0x03)),
      intrudes_of_exec (congrArg Host.Outcome.next (if_neg hopen')) (hset 0x04 _)
        (congrArg (fun x : TestState => { x with highz := true }) (hundriven 0x04)),
      intrudes_of_exec (congrArg Host.Outcome.next (if_neg hopen')) (loadInstr_kept ..) (hundriven 0x11)⟩
  · rw [← selectedDies_dieSelected] at heff
    have htest := loadInstr_intrusive_test 0x10 (dieSelected eff s)
    rw [show selectedDies (dieSelected eff s) = eff from heff ▸ selectedDies_selected sel s] at htest
    refine ⟨loadInstr 0x10 true (dieSelected eff s), heff ▸ congrArg Host.Outcome.next (if_neg hopen'),
      congrArg TestState.ir htest, congrArg TestState.intrusive htest, congrArg TestState.dieSelect htest,
      congrArg TestState.undefDies htest, ?_⟩
    exact unchanged_of_covered (m := 523641) ((loadInstr_keeps _ _ _ (by decide)).mpr
      ((keeps_set_test (u := fresh s) _ (by decide)).mpr (by simp))) rfl
  · exact congrArg Host.Outcome.next ((if_neg hopen').trans (by rw [loadInstr_not_intrusive]; rfl))
  · refine congrArg Host.Outcome.next ((if_neg ?_).trans (by rw [loadInstr_not_intrusive]; rfl))
    rintro (h | h)
    · exact hopen' h
    · exact hcode (List.contains_iff_mem.mp h)

end

section
/-! Self-tests of the on-package memories (spec/19_test.md). -/

namespace Sys2Proof.Machine

/-! ## What an entry to FAULTED leaves of self-tests and stacks -/

/-- The self-test in progress and the states of the stacks. -/
def testsAndStacks (s : State) : Option (Nat × Nat) × List (Nat × Stack) := (s.test.selfTest, s.mem.stackSt)

theorem testsAndStacks_of_keeps {s t : State} (h : Keeps 524800 s t) : testsAndStacks t = testsAndStacks s := by
  unfold testsAndStacks
  rw [h.test (by decide), h.mem (by decide)]

theorem testsAndStacks_dropHostCopy (s : State) : testsAndStacks (dropHostCopy s) = testsAndStacks s := by
  unfold dropHostCopy
  split <;> rfl

/-- The writes pending at the entry to FAULTED ended, the host copy in progress apart. -/
def pendingFailed (s : State) : State :=
  let s := if (pendOf s .firmware).isSome then withRg 0x9010 2 4 s else s
  let s := failPend .prepare 0x03000002 s
  let s := failPend .hostCopy 0x03000002 s
  let s := failPend .abandon 0x03000002 s
  let s := failPend .power 0x03000002 s
  let s := failPend .firmware 0x03000002 s
  endBlocks s

theorem testsAndStacks_endPending (s : State) : testsAndStacks (endPending s) = testsAndStacks s := by
  have hres : ∀ (u : State) (r : Resilience), testsAndStacks { u with res := r } = testsAndStacks u := fun _ _ => rfl
  have hfail : Keeps 524800 s (pendingFailed s) := by
    unfold pendingFailed
    dsimp only
    split <;> simp
  change testsAndStacks { dropHostCopy (pendingFailed s) with res := _ } = _
  rw [hres, testsAndStacks_dropHostCopy, testsAndStacks_of_keeps hfail]

theorem testsAndStacks_withHalf (half : Nat) (h : HalfTest) (s : State) :
    testsAndStacks (withHalf half h s) = testsAndStacks s := rfl

theorem testsAndStacks_returnCore (half : Nat) (s : State) : testsAndStacks (returnCore half s) = testsAndStacks s := by
  unfold returnCore
  dsimp only
  rw [testsAndStacks_withHalf]
  split
  · split <;> rfl
  · rfl

theorem testsAndStacks_abandonTest (half : Nat) (s : State) : testsAndStacks (abandonTest s half) = testsAndStacks s := by
  unfold abandonTest
  dsimp only
  split
  · rfl
  · split
    · rfl
    · split
      · rfl
      · rw [testsAndStacks_returnCore]
        rfl

theorem testsAndStacks_abandonTests (s : State) : testsAndStacks (abandonTests s) = testsAndStacks s := by
  unfold abandonTests
  induction List.range 24 generalizing s with
  | nil => rfl
  | cons half l ih => rw [List.foldl_cons, ih, testsAndStacks_abandonTest]

theorem testsAndStacks_closeTestPort (s : State) : testsAndStacks (closeTestPort s) = testsAndStacks s := by
  unfold closeTestPort
  dsimp only
  split <;> rfl

@[simp] theorem testsAndStacks_toFaulted (cause kind : Nat) (loc : Bytes) (s : State) :
    testsAndStacks (toFaulted cause kind loc s) = testsAndStacks s := by
  have hevent : ∀ u : State, Keeps 524800 u (faultEvent cause kind loc u) := fun u => by simp
  have haudit : ∀ u : State, Keeps 524800 u (audit 0 0x2001 3 7 false (leBytes 4 cause) u) := fun u => by simp
  have hcause : ∀ u : State, testsAndStacks (withRg 0x2001 3 cause
      { u with dev := .faulted, ex := { u.ex with holdPending := false } }) = testsAndStacks u := fun _ => rfl
  by_cases h : s.dev = .faulted
  · rw [toFaulted_again h, testsAndStacks_of_keeps (hevent s)]
  · rw [toFaulted_enters h, testsAndStacks_of_keeps (hevent _), testsAndStacks_of_keeps (haudit _),
      testsAndStacks_endPending, faultEntered, hcause, testsAndStacks_abandonTests]
    split
    · exact testsAndStacks_closeTestPort s
    · rfl

theorem testsAndStacks_countRelief (half : Nat) (s : State) : testsAndStacks (countRelief half s) = testsAndStacks s :=
  testsAndStacks_of_keeps (by simp)

theorem testsAndStacks_rebind (half : Nat) (ps : List (Nat × Nat)) (s : State) :
    testsAndStacks (rebind half ps s) = testsAndStacks s := by
  unfold rebind
  dsimp only
  split <;> rfl

theorem testsAndStacks_failCore (half core : Nat) (s : State) : testsAndStacks (failCore half core s) = testsAndStacks s := by
  have hbump : testsAndStacks (bump 0xB002 2 1 s) = testsAndStacks s := rfl
  unfold failCore
  dsimp only
  generalize bump 0xB002 2 1 s = u at hbump ⊢
  split
  · unfold retireCore
    split
    · rw [testsAndStacks_toFaulted, hbump]
    · split
      · rw [testsAndStacks_toFaulted, hbump]
      · rw [testsAndStacks_countRelief, testsAndStacks_rebind, hbump]
  · rw [testsAndStacks_countRelief]
    exact hbump

theorem testsAndStacks_failSites (half : Nat) (sites : List Nat) (s : State) :
    testsAndStacks (sites.foldl (failSite half) s) = testsAndStacks s := by
  induction sites generalizing s with
  | nil => rfl
  | cons site sites ih =>
    rw [List.foldl_cons, ih]
    unfold failSite
    split
    · exact testsAndStacks_failCore ..
    · rfl

/-! ## Writes judged and acted on -/

@[simp] theorem actsOn_keeps {m : Nat} {s0 : State} (q : Req) (idx sub : Nat) (v : Bytes) (s : State)
    (hm : m &&& 851965 = m) : Keeps m s0 (actsOn q idx sub v s) ↔ Keeps m s0 s :=
  keeps_of 851965 (by
    unfold actsOn forwardAccess
    split <;> simp) hm

@[simp] theorem actsOn_regs (q : Req) (idx sub : Nat) (v : Bytes) (s : State) : (actsOn q idx sub v s).regs = s.regs :=
  have h : Keeps 16 s (actsOn q idx sub v s) := by simp
  h.regs (by decide)

@[simp] theorem actsOn_bypass (q : Req) (idx sub : Nat) (v : Bytes) (s : State) :
    (actsOn q idx sub v s).ring.bypassOpen = s.ring.bypassOpen := by
  unfold actsOn forwardAccess
  split <;> exact heardAs_bypass ..

/-- What a write that its rule refuses leaves. -/
theorem refused_write {q : Req} {r : Role} {s : State} {idx sub code : Nat} {v : Bytes} {rule : State → Rule} {x : Rule}
    (h : Ready q r s) (w : Writable r idx sub v s) (hx : rule (heardAs q (writeCommand v) idx sub s) = x)
    (hc : firstByClass x.codes = code) (h0 : code ≠ 0) (hid : x.onReject = id) :
    Answers q code [] (writeReq q 0 idx sub v rule s) ∧ (writeReq q 0 idx sub v rule s).sec.log = s.sec.log ∧
      regsExcept [] s (writeReq q 0 idx sub v rule s) ∧
      unchangedExcept [.wires, .registers, .ring, .security] s (writeReq q 0 idx sub v rule s) := by
  rw [writeReq_refused h w hx (by rw [hc]; exact h0), hc, hid, id]
  obtain ⟨l, hl⟩ := (heardAs_noted q (writeCommand v) idx sub s).2
  have hregs : (heardAs q (writeCommand v) idx sub s).regs = s.regs := (heardAs_same ..).1
  refine ⟨answers_rejectReq q code _ ((heardAs_bypass ..).trans h.sends), ?_, ?_,
    unchanged_of_covered (m := 851949) (by simp) rfl⟩
  · rw [rejectReq_sec_log, hl]
  · exact regsExcept_trans (regsExcept_of_regs hregs) (regsExcept_rejectReq q code _)

/-! ## Self-tests -/

/-- The value of a self-test request. -/
def selfTestValue (kind target rsv : Nat) : Nat := kind * 2 ^ 28 + target * 2 ^ 20 + rsv

theorem selfTestValue_fields {kind target rsv : Nat} (hk : kind < 16) (ht : target < 256) (hr : rsv < 2 ^ 20) :
    leNat (leBytes 4 (selfTestValue kind target rsv)) = selfTestValue kind target rsv ∧
      bits 31 28 (selfTestValue kind target rsv) = kind ∧ bits 27 20 (selfTestValue kind target rsv) = target ∧
      bits 19 0 (selfTestValue kind target rsv) = rsv := by
  have hv : selfTestValue kind target rsv < 256 ^ 4 := by unfold selfTestValue; omega
  refine ⟨leNat_leBytes hv, ?_, ?_, ?_⟩ <;>
    · simp only [bits, selfTestValue, Nat.shiftRight_eq_div_pow]
      omega

theorem exec_selfTest {kind target rsv : Nat} {q : Req} {i : Instr} (s : State) (h : selfTestOf kind q target rsv i) :
    (1 ≤ kind ∧ kind ≤ 4) ∧ exec i s = .next (selfTest kind q target rsv s) := by
  rcases h with ⟨rfl, rfl⟩ | ⟨rfl, rfl⟩ | ⟨rfl, rfl⟩ | ⟨rfl, rfl⟩ <;> exact ⟨by decide, rfl⟩

/-- The condition of R531 on the module's state. -/
def selfTestFree (kind target : Nat) (s : State) : Bool :=
  s.dev == .joined && rg s 0xB020 1 == 0 && s.test.selfTest.isNone && s.pwr.cur == .run
    && !(target < targetCount kind && gated s (targetBlock kind target))

theorem selfTestFree_iff (kind target : Nat) (s : State) :
    selfTestFree kind target s = true ↔ SelfTestAllowed kind target s := by
  constructor
  · intro h
    simp only [selfTestFree, Bool.and_eq_true, beq_iff_eq, Bool.not_eq_true', Option.isNone_iff_eq_none] at h
    obtain ⟨⟨⟨⟨hdev, hport⟩, hfree⟩, hrun⟩, hblock⟩ := h
    exact ⟨hdev, hport, hfree, hrun, fun ht => by simpa [ht] using hblock⟩
  · rintro ⟨hdev, hport, hfree, hrun, hblock⟩
    simp only [selfTestFree, hdev, hport, hfree, hrun]
    by_cases ht : target < targetCount kind
    · simp [hblock ht]
    · simp [ht]

theorem tenantHere_heardAs (q : Req) (command idx sub : Nat) (s : State) :
    tenantHere (heardAs q command idx sub s) = tenantHere s := by
  unfold tenantHere sessionOf
  simp only [noted_role (heardAs_noted q command idx sub s)]

theorem selfTestFree_heardAs (kind target : Nat) (q : Req) (command idx sub : Nat) (s : State) :
    selfTestFree kind target (heardAs q command idx sub s) = selfTestFree kind target s := by
  have h : Keeps 786456 s (heardAs q command idx sub s) := by simp
  have hrg : ∀ i j, rg (heardAs q command idx sub s) i j = rg s i j := fun i j => rg_heardAs ..
  unfold selfTestFree gated enablesOf
  simp only [h.dev (by decide), h.test (by decide), h.pwr (by decide), hrg]

/-- What the self-test rule says of a request, in the state that the request finds. -/
theorem selfTestRule_heardAs {kind target rsv : Nat} (q : Req) (command idx sub : Nat) (s : State) (hk : kind < 16)
    (ht : target < 256) (hr : rsv < 2 ^ 20) :
    selfTestRule (leBytes 4 (selfTestValue kind target rsv)) (heardAs q command idx sub s) =
      { codes := [need (selfTestFree kind target s) 0x03A00001, need (!tenantHere s) 0x04A00001,
          need (target < targetCount kind && rsv == 0) 0x02A00001]
        apply := fun u => withRg 0xB010 2 1 { u with test := { u.test with selfTest := some (kind, target) } } } := by
  obtain ⟨hvalue, hkind, htarget, hrsv⟩ := selfTestValue_fields hk ht hr
  have hfree := selfTestFree_heardAs kind target q command idx sub s
  have htenant := tenantHere_heardAs q command idx sub s
  generalize heardAs q command idx sub s = u at hfree htenant ⊢
  unfold selfTestRule
  dsimp only
  rw [hvalue, hkind, htarget, hrsv, ← hfree, ← htenant]
  rfl

/-- The state with a self-test begun. -/
def selfTestBegun (kind target : Nat) (s : State) : State :=
  withRg 0xB010 2 1 { s with test := { s.test with selfTest := some (kind, target) } }

theorem selfTestBegun_keeps {m : Nat} {s0 : State} (kind target : Nat) (s : State) (hm : m &&& 524271 = m) :
    Keeps m s0 (selfTestBegun kind target s) ↔ Keeps m s0 s := keeps_of 524271 (by simp [selfTestBegun]) hm

/-- What a self-test request that is accepted leaves. -/
theorem selfTest_accepted (kind target : Nat) {q : Req} {v : Bytes} {s : State} (hsends : s.ring.bypassOpen = true) :
    let t := respond q 0 [] (auditWrite q 0xB010 1 v (selfTestBegun kind target (actsOn q 0xB010 1 v s)))
    t.test = { s.test with selfTest := some (kind, target) } ∧ rg t 0xB010 2 = 1 ∧ Answers q 0 [] t ∧
      Logged q 0xB010 1 t ∧ regsExcept [(0xB010, 2)] s t ∧
      unchangedExcept [.wires, .registers, .ring, .security, .test] s t := by
  have hacts : Keeps 851965 s (actsOn q 0xB010 1 v s) := by simp
  have hregs := actsOn_regs q 0xB010 1 v s
  have hbypass := (actsOn_bypass q 0xB010 1 v s).trans hsends
  generalize actsOn q 0xB010 1 v s = a at hacts hregs hbypass
  have hbegun : Keeps 327661 s (selfTestBegun kind target a) :=
    (selfTestBegun_keeps kind target a (by decide)).mpr (hacts.mono (by decide))
  have hexcept : regsExcept [(0xB010, 2)] s (selfTestBegun kind target a) :=
    regsExcept_trans (regsExcept_of_regs hregs) (regsExcept_withRg _ _ (by decide) (by decide))
  have hcode : rg (selfTestBegun kind target a) 0xB010 2 = 1 := rg_withRg_same ..
  have htest : (selfTestBegun kind target a).test = { s.test with selfTest := some (kind, target) } :=
    hacts.test (by decide) ▸ rfl
  have hbypass' : (selfTestBegun kind target a).ring.bypassOpen = true := hbypass
  generalize selfTestBegun kind target a = b at hbegun hexcept hcode htest hbypass'
  dsimp only
  have hkeeps : Keeps 851949 b (respond q 0 [] (auditWrite q 0xB010 1 v b)) := by simp
  refine ⟨(hkeeps.test (by decide)).trans htest, ?_, answers_respond _ _ _ _ (by simpa using hbypass'),
    logged_write .., regsExcept_respond_auditWrite _ _ _ _ _ _ hexcept,
    unchanged_of_covered (m := 327661) (by simpa using hbegun) rfl⟩
  rw [rg_respond, rg_auditWrite _ (by decide) (by unfold counted; decide), hcode]

theorem selfTest_begins {kind target : Nat} {q : Req} {s : State} (hk : kind < 16) (ht : target < 256)
    (h : Ready q .operator s) (w : Writable .operator 0xB010 1 (leBytes 4 (selfTestValue kind target 0)) s)
    (hfree : selfTestFree kind target s = true) (htenant : tenantHere s = false) (hthere : target < targetCount kind) :
    selfTest kind q target 0 s = respond q 0 [] (auditWrite q 0xB010 1 (leBytes 4 (selfTestValue kind target 0))
      (selfTestBegun kind target (actsOn q 0xB010 1 (leBytes 4 (selfTestValue kind target 0)) s))) := by
  have hrule := selfTestRule_heardAs (kind := kind) (target := target) (rsv := 0) q
    (writeCommand (leBytes 4 (selfTestValue kind target 0))) 0xB010 1 s hk ht (by decide)
  have hnow := write_now h w hrule (by simp [need, hfree, htenant, hthere]) rfl rfl
  dsimp only [id] at hnow
  unfold selfTestBegun
  exact hnow

/-- R11's class order among the three conditions: state, then tenant, then target. -/
theorem firstByClass_selfTest (free alone fits : Bool) :
    firstByClass [need free 0x03A00001, need (!alone) 0x04A00001, need fits 0x02A00001] =
      if free = false then 0x03A00001 else if alone = true then 0x04A00001 else if fits = false then 0x02A00001 else 0 := by
  cases free <;> cases alone <;> cases fits <;> rfl

theorem targetCount_le (kind : Nat) : targetCount kind ≤ 24 := by
  unfold targetCount
  split <;> decide

theorem endSelfTest_running {s : State} {x : Nat × Nat} (code : Nat) (h : s.test.selfTest = some x) :
    endSelfTest code s =
      withRg 0xB010 2 code (forgetTarget x.1 x.2 { s with test := { s.test with selfTest := none } }) := by
  unfold endSelfTest
  rw [h]

theorem forgetTarget_test (kind target : Nat) (s : State) : (forgetTarget kind target s).test = s.test :=
  have h : Keeps 524288 s (forgetTarget kind target s) := by simp
  h.test (by decide)

theorem endSelfTest_test {s : State} {x : Nat × Nat} (code : Nat) (h : s.test.selfTest = some x) :
    (endSelfTest code s).test = { s.test with selfTest := none } := by
  rw [endSelfTest_running code h]
  exact forgetTarget_test ..

theorem regsExcept_endSelfTest {s : State} {x : Nat × Nat} (code : Nat) (h : s.test.selfTest = some x) :
    regsExcept [(0xB010, 2)] s (endSelfTest code s) := by
  have hforget : ∀ u : State, (forgetTarget x.1 x.2 u).regs = u.regs := fun u =>
    (show Keeps 16 u (forgetTarget x.1 x.2 u) by simp).regs (by decide)
  have hregs := hforget { s with test := { s.test with selfTest := none } }
  rw [endSelfTest_running code h]
  generalize forgetTarget x.1 x.2 _ = u at hregs ⊢
  exact regsExcept_trans (regsExcept_of_regs hregs) (regsExcept_withRg _ _ (by decide) (by decide))

/-- The end of a self-test that found failures. -/
def selfTestFailed (x : Nat × Nat) (failing : List Nat) (s : State) : State :=
  if x.1 = 1 then failing.foldl (failSite x.2) (endSelfTest 3 s)
  else if x.1 = 4 then failStack x.2 (endSelfTest 3 s)
  else endSelfTest 3 s

theorem exec_selfTestComplete_passed {s : State} {x : Nat × Nat} (h : s.test.selfTest = some x)
    (hreset : s.pwr.inReset = false) : exec (.selfTestComplete []) s = .next (endSelfTest 2 (fresh s)) := by
  change Host.Outcome.next (match s.test.selfTest with | none => _ | some t => _) = _
  simp [h, hreset]

theorem exec_selfTestComplete_failed {s : State} {x : Nat × Nat} {failing : List Nat} (h : s.test.selfTest = some x)
    (hreset : s.pwr.inReset = false) (hfail : failing ≠ []) :
    exec (.selfTestComplete failing) s = .next (selfTestFailed x failing (fresh s)) := by
  change Host.Outcome.next (match s.test.selfTest with | none => _ | some t => _) = _
  simp [h, hreset, hfail, selfTestFailed]

theorem failSites_rgK (half : Nat) (sites : List Nat) (s : State) :
    RgK 13654773315519117263 s (sites.foldl (failSite half) s) := by
  induction sites generalizing s with
  | nil => exact RgK.refl _ _
  | cons site sites ih => exact RgK.trans (t := failSite half s site) (by simp) (ih _)

theorem rg_selfTestFailed {s : State} {x : Nat × Nat} (failing : List Nat) (h : s.test.selfTest = some x) :
    rg (selfTestFailed x failing s) 0xB010 2 = 3 := by
  have hend : rg (endSelfTest 3 s) 0xB010 2 = 3 := by
    rw [endSelfTest_running 3 h]
    exact rg_withRg_same ..
  unfold selfTestFailed
  split
  · rw [failSites_rgK x.2 failing _ 0xB010 2 (by decide), hend]
  · split
    · have hstack : ∀ u : State, RgK 13690802112538083279 u (failStack x.2 u) := fun u => by simp
      rw [hstack _ 0xB010 2 (by decide), hend]
    · exact hend

theorem testsAndStacks_failStack (k : Nat) (s : State) :
    (failStack k s).test.selfTest = s.test.selfTest ∧ (stackOf (failStack k s) k).state = 5 := by
  have h : testsAndStacks (failStack k s) = testsAndStacks (withStack k { stackOf s k with state := 5 } s) :=
    testsAndStacks_toFaulted ..
  have hstack : stackOf (failStack k s) k = stackOf (withStack k { stackOf s k with state := 5 } s) k :=
    congrArg (fun x : Option (Nat × Nat) × List (Nat × Stack) => at_ ({} : Stack) k x.2) h
  exact ⟨congrArg Prod.fst h, by rw [hstack, stackOf_withStack_same]⟩

theorem selfTest_selfTestFailed {s : State} {x : Nat × Nat} (failing : List Nat) (h : s.test.selfTest = some x) :
    (selfTestFailed x failing s).test.selfTest = none := by
  have hend : (endSelfTest 3 s).test.selfTest = none := by rw [endSelfTest_test 3 h]
  unfold selfTestFailed
  split
  · exact (congrArg Prod.fst (testsAndStacks_failSites ..)).trans hend
  · split
    · exact (testsAndStacks_failStack ..).1.trans hend
    · exact hend

/-- A failing site is a failed test of its core, which is counted. -/
theorem rg_failSite {half site c : Nat} {s : State} (h : coreAtSite s half site = some c) :
    rg (failSite half s site) 0xB002 2 = satAdd (sizeOf_ 0xB002 2) (rg s 0xB002 2) 1 := by
  have hcount : rg (bump 0xB002 2 1 s) 0xB002 2 = satAdd (sizeOf_ 0xB002 2) (rg s 0xB002 2) 1 := rg_withRg_same ..
  have hretire : ∀ u : State, RgK 13690802112538081231 u (retireCore half c u) := fun u => by simp
  have hrelief : ∀ u : State, RgK 13690802112538081231 u (countRelief half u) := fun u => by simp
  unfold failSite
  rw [h]
  dsimp only
  unfold failCore
  dsimp only
  split
  · rw [hretire _ 0xB002 2 (by decide), hcount]
  · rw [hrelief _ 0xB002 2 (by decide)]
    exact hcount

theorem coreAtSite_of_siteMap {s t : State} (half site : Nat) (h : t.siteMap = s.siteMap) :
    coreAtSite t half site = coreAtSite s half site := by
  unfold coreAtSite boundSite
  rw [h]

end Sys2Proof.Machine

open Sys2Proof Sys2Proof.Machine

/-- Settles O57: a self-test's request is judged by R531's three conditions, and its end reports what was found. -/
theorem selfTestsRunAndEnd : Obligations.SelfTestsRunAndEnd := by
  refine ⟨fun q kind target i s hi ht h w hallowed htenant => ?_,
    fun q kind target rsv code i s hi ht hr h w hcode => ?_, fun kind target s hrun hreset => ?_,
    fun failing kind target s hrun ht hreset hfail => ?_, fun failing s hnone => ?_⟩
  · obtain ⟨hk, hexec⟩ := exec_selfTest s hi
    have hle := targetCount_le kind
    have w' : Writable .operator 0xB010 1 (leBytes 4 (selfTestValue kind target 0)) s := by
      rw [selfTestValue, Nat.add_zero]
      exact w
    rw [selfTest_begins (by omega) (by omega) h w' ((selfTestFree_iff kind target s).mpr hallowed) htenant ht] at hexec
    exact ⟨_, hexec, selfTest_accepted kind target h.sends⟩
  · obtain ⟨hk, hexec⟩ := exec_selfTest s hi
    have hrule := selfTestRule_heardAs (kind := kind) (target := target) (rsv := rsv) q
      (writeCommand (leBytes 4 (selfTestValue kind target rsv))) 0xB010 1 s (by omega) ht hr
    have w' : Writable .operator 0xB010 1 (leBytes 4 (selfTestValue kind target rsv)) s := by
      rw [selfTestValue]
      exact w
    refine ⟨_, hexec, refused_write h w' hrule ?_ ?_ rfl⟩
    · rw [firstByClass_selfTest]
      rcases hcode with ⟨hnot, rfl⟩ | ⟨hall, htenant, rfl⟩ | ⟨hall, htenant, hbad, rfl⟩
      · exact if_pos (by simpa [← selfTestFree_iff] using hnot)
      · simp [(selfTestFree_iff kind target s).mpr hall, htenant]
      · have hgood : (decide (target < targetCount kind) && rsv == 0) = false := by
          rcases hbad with h | h <;> simp [h, Nat.not_lt.mpr]
        simp only [(selfTestFree_iff kind target s).mpr hall, htenant, hgood]
        rfl
    · rcases hcode with ⟨-, rfl⟩ | ⟨-, -, rfl⟩ | ⟨-, -, -, rfl⟩ <;> decide
  · refine ⟨_, exec_selfTestComplete_passed hrun hreset, endSelfTest_test (s := fresh s) 2 hrun, ?_,
      regsExcept_endSelfTest (s := fresh s) 2 hrun, unchanged_of_covered (m := 523625) (by simp) rfl⟩
    rw [endSelfTest_running (s := fresh s) 2 hrun]
    exact rg_withRg_same ..
  · refine ⟨_, exec_selfTestComplete_failed hrun hreset hfail, selfTest_selfTestFailed (s := fresh s) failing hrun,
      rg_selfTestFailed (s := fresh s) failing hrun, ?_, ?_, ?_⟩
    · rintro (rfl | rfl)
      · exact ⟨Keeps.dev (m := 8) (s := s) (by simp [selfTestFailed]) (by decide), regsExcept_endSelfTest (s := fresh s) 3 hrun⟩
      · exact ⟨Keeps.dev (m := 8) (s := s) (by simp [selfTestFailed]) (by decide), regsExcept_endSelfTest (s := fresh s) 3 hrun⟩
    · rintro rfl
      exact ⟨toFaulted_dev .., (testsAndStacks_failStack ..).2⟩
    · rintro site c rfl rfl hcore
      have hkeeps : Keeps 256 (fresh s) (endSelfTest 3 (fresh s)) := by simp
      have hcount : rg (endSelfTest 3 (fresh s)) 0xB002 2 = rg s 0xB002 2 :=
        regsExcept_endSelfTest (s := fresh s) 3 hrun 0xB002 2 (by decide) (by decide) (by decide) (by decide) (by decide)
      have hcore' : coreAtSite (endSelfTest 3 (fresh s)) target site = some c :=
        (coreAtSite_of_siteMap target site (hkeeps.siteMap (by decide))).trans hcore
      exact (rg_failSite hcore').trans (by rw [hcount])
  · change Host.Outcome.next (match s.test.selfTest with | none => _ | some t => _) = _
    rw [hnone]
    rfl

end

section
/-! In-field core tests (spec/19_test.md). -/

namespace Sys2Proof.Machine

/-! ## Halves, sites and bindings -/

theorem halfTest_withHalf_other {half k : Nat} (x : HalfTest) (s : State) (h : k ≠ half) :
    halfTest (withHalf half x s) k = halfTest s k := at_set_other _ _ _ _ _ h

theorem othersKept_withHalf {half : Nat} {s t : State} (x : HalfTest) (h : t.test = (withHalf half x s).test) :
    othersKept half s t := by
  intro k hk
  unfold halfTest
  rw [h]
  exact halfTest_withHalf_other x s hk

theorem halfTest_of_test {s t : State} (h : t.test = s.test) (half : Nat) : halfTest t half = halfTest s half := by
  unfold halfTest
  rw [h]

theorem halfTest_fresh (s : State) (half : Nat) : halfTest (fresh s) half = halfTest s half := rfl

theorem spacing_fresh (s : State) : spacing (fresh s) = spacing s := rfl

theorem siteKey_ne {half a b : Nat} (h : a ≠ b) : siteKey half a ≠ siteKey half b := by
  unfold siteKey
  omega

theorem boundSite_of_siteMap {s t : State} (h : t.siteMap = s.siteMap) (half core : Nat) :
    boundSite t half core = boundSite s half core := by
  unfold boundSite
  rw [h]

/-! ## The beginning of a test -/

theorem beginTest_begun (half core : Nat) (relief : Option Nat) (s : State) :
    halfTest (beginTest half core relief s) half =
      { halfTest s half with core := some core, relief := relief, due := false, overdue := false } ∧
    siteAt (beginTest half core relief s) (siteKey half (boundSite s half core)) = {} ∧
    othersKept half s (beginTest half core relief s) ∧ (beginTest half core relief s).siteMap = s.siteMap := by
  refine ⟨?_, siteAt_withSite_same .., othersKept_withHalf _ rfl, rfl⟩
  exact (halfTest_of_test rfl half).trans (halfTest_withHalf_same ..)

theorem siteAt_beginTest_other {half core key : Nat} (relief : Option Nat) {s : State}
    (h : key ≠ siteKey half (boundSite s half core)) :
    siteAt (beginTest half core relief s) key = siteAt s key := by
  change at_ {} key (set_ {} (siteKey half (boundSite s half core)) {} s.sites) = _
  exact at_set_other _ _ _ _ _ h

/-- The guard of CORE_TEST_START passes. -/
theorem startGuard_of_ready {half : Nat} {s : State} (h : TestReady half s) :
    ¬(24 ≤ half ∨ (fresh s).pwr.inReset ∨ !(halfTest (fresh s) half).due ∨ (halfTest (fresh s) half).core.isSome ∨
      (halfTest (fresh s) half).returning ∨ (fresh s).pwr.cur ≠ .run ∨ gated (fresh s) (half / 2) ∨
      !reliefAvailable (fresh s) half) := by
  obtain ⟨hrange, hawake, hdue, ⟨hcore, hret⟩, ⟨hrun, hgate⟩, hrelief⟩ := h
  have hhalf : halfTest (fresh s) half = halfTest s half := rfl
  have hgate' : gated (fresh s) (half / 2) = false := hgate
  have hrelief' : reliefAvailable (fresh s) half = true := hrelief
  simp [hhalf, hrange, hawake, hdue, hcore, hret, hrun, hgate', hrelief']

theorem exec_coreTestStart_direct {half : Nat} {s : State} (h : TestReady half s)
    (hdev : s.dev = .inert ∨ s.dev = .joined ∨ s.dev = .faulted) :
    exec (.coreTestStart half) s = .next (beginTest half (halfTest s half).next none (fresh s)) := by
  refine congrArg Host.Outcome.next ((if_neg (startGuard_of_ready h)).trans (if_pos (.inl ?_)))
  rcases hdev with hdev | hdev | hdev <;> simp [hdev]

theorem exec_coreTestStart_relieved {half r : Nat} {s : State} (h : TestReady half s)
    (hdev : s.dev = .prepared ∨ s.dev = .running ∨ s.dev = .held) (hstep : s.ex.step.running = false)
    (hnext : (halfTest s half).next < 96) (hr : reliefFor s half (halfTest s half).next = some r) :
    exec (.coreTestStart half) s = .next (relieve half (halfTest s half).next r (fresh s)) := by
  have hdirect : ¬((((fresh s).dev == .inert || (fresh s).dev == .joined || (fresh s).dev == .faulted) = true) ∨
      96 ≤ (halfTest (fresh s) half).next) := by
    rintro (hdir | hge)
    · rcases hdev with hdev | hdev | hdev <;> simp [hdev] at hdir
    · exact absurd hnext (Nat.not_lt.mpr hge)
  have hr' : reliefFor (fresh s) half (halfTest (fresh s) half).next = some r := hr
  refine congrArg Host.Outcome.next ((if_neg (startGuard_of_ready h)).trans ((if_neg hdirect).trans
    ((if_neg (by simp [hstep])).trans ?_)))
  rw [hr']
  rfl

theorem relieve_relieved {half core r : Nat} {s : State} (hsites : boundSite s half r ≠ boundSite s half core) :
    halfTest (relieve half core r s) half =
      { halfTest s half with core := some core, relief := some r, due := false, overdue := false } ∧
    coreSite (relieve half core r s) half core = boundSite s half r ∧
    siteAt (relieve half core r s) (siteKey half (boundSite s half core)) = {} ∧
    siteAt (relieve half core r s) (siteKey half (boundSite s half r)) =
      copyStores (siteAt s (siteKey half (boundSite s half core))) (siteAt s (siteKey half (boundSite s half r))) ∧
    othersKept half s (relieve half core r s) := by
  have hbegun := beginTest_begun half core (some r) (withSite (siteKey half (boundSite s half r))
    (copyStores (siteAt s (siteKey half (boundSite s half core))) (siteAt s (siteKey half (boundSite s half r)))) s)
  obtain ⟨hhalf, hzero, hothers, hmap⟩ := hbegun
  refine ⟨hhalf, ?_, hzero, ?_, hothers⟩
  · have hhalf' : halfTest (relieve half core r s) half = _ := hhalf
    unfold coreSite
    rw [hhalf']
    simpa using boundSite_of_siteMap (s := s) (t := relieve half core r s) hmap half r
  · refine (siteAt_beginTest_other (s := withSite _ _ s) (some r) (siteKey_ne hsites)).trans ?_
    exact siteAt_withSite_same ..

/-! ## The end of a test -/

/-- The record of a half whose test of a core has ended. -/
def testEnded (half c : Nat) (s : State) : HalfTest :=
  { halfTest s half with
    next := nextCore s half c
    dueAt := some (if 96 ≤ nextCore s half c then s.pwr.time else s.pwr.time + spacing s)
    due := decide (96 ≤ nextCore s half c), returning := (halfTest s half).relief.isSome
    core := if (halfTest s half).relief.isSome then (halfTest s half).core else none }

/-- The state with a test of a core ended: its site's stores zeroed. -/
def testOver (half c : Nat) (s : State) : State :=
  let t := halfTest s half
  let s := zeroSite half (boundSite s half c) s
  let n := nextCore s half c
  let at0 := if 96 ≤ n then s.pwr.time else s.pwr.time + spacing s
  withHalf half { t with
    next := n, dueAt := some at0, due := decide (96 ≤ n), returning := t.relief.isSome
    core := if t.relief.isSome then t.core else none } s

theorem nextCore_zeroSite (half site c : Nat) (s : State) : nextCore (zeroSite half site s) half c = nextCore s half c := by
  have hleft : ∀ r, reliefLeft (zeroSite half site s) half r = reliefLeft s half r := fun _ => rfl
  unfold nextCore
  simp only [hleft]

theorem testOver_eq (half c : Nat) (s : State) :
    testOver half c s = withHalf half (testEnded half c s) (zeroSite half (boundSite s half c) s) := by
  unfold testOver testEnded
  simp only [nextCore_zeroSite]
  rfl

theorem exec_coreTestComplete_testing {half c : Nat} (passed : Bool) {s : State} (h : Testing half c s) :
    exec (.coreTestComplete half passed) s = .next (if passed then bump 0xB002 1 1 (testOver half c (fresh s))
      else failCore half c (testOver half c (fresh s))) := by
  obtain ⟨hrange, hawake, hcore, hhere⟩ := h
  have hcore' : (halfTest (fresh s) half).core = some c := hcore
  have hguard : ¬(24 ≤ half ∨ (fresh s).pwr.inReset ∨ (halfTest (fresh s) half).returning) := by
    have hhere' : (halfTest (fresh s) half).returning = false := hhere
    simp [hawake, hhere', hrange]
  change execCoreTestComplete half passed s = _
  unfold execCoreTestComplete testOver
  dsimp only
  rw [hcore']
  dsimp only
  rw [if_neg hguard]

theorem testOver_over (half c : Nat) (s : State) :
    halfTest (testOver half c s) half = testEnded half c s ∧
      siteAt (testOver half c s) (siteKey half (boundSite s half c)) = {} ∧ othersKept half s (testOver half c s) ∧
      (testOver half c s).siteMap = s.siteMap ∧ (testOver half c s).regs = s.regs ∧
      (testOver half c s).dev = s.dev := by
  rw [testOver_eq]
  exact ⟨halfTest_withHalf_same .., siteAt_withSite_same (siteKey half (boundSite s half c)) {} s, othersKept_withHalf _ rfl, rfl, rfl, rfl⟩

theorem nextCore_planned {half c : Nat} (s : State) (h : c < 95) : nextCore s half c = c + 1 := if_pos h

theorem testEnded_planned {half c : Nat} (s : State) (h : c < 95) :
    testEnded half c s =
      { halfTest s half with
        next := c + 1, dueAt := some (s.pwr.time + spacing s), due := false, returning := (halfTest s half).relief.isSome
        core := if (halfTest s half).relief.isSome then (halfTest s half).core else none } := by
  have hnot : ¬96 ≤ c + 1 := by omega
  simp [testEnded, nextCore_planned s h, hnot]

theorem rg_of_regs {s t : State} (h : t.regs = s.regs) (i j : Nat) : rg t i j = rg s i j := by
  unfold rg
  rw [h]

/-- What a test that passed leaves. -/
theorem testPassed (half c : Nat) (s : State) :
    halfTest (bump 0xB002 1 1 (testOver half c s)) half = testEnded half c s ∧
      siteAt (bump 0xB002 1 1 (testOver half c s)) (siteKey half (boundSite s half c)) = {} ∧
      rg (bump 0xB002 1 1 (testOver half c s)) 0xB002 1 = satAdd (sizeOf_ 0xB002 1) (rg s 0xB002 1) 1 ∧
      othersKept half s (bump 0xB002 1 1 (testOver half c s)) ∧
      regsExcept [(0xB002, 1)] s (bump 0xB002 1 1 (testOver half c s)) := by
  obtain ⟨hhalf, hsite, hothers, -, hregs, -⟩ := testOver_over half c s
  refine ⟨hhalf, hsite, ?_, hothers,
    regsExcept_trans (regsExcept_of_regs hregs) (regsExcept_bump _ _ (by decide) (by decide))⟩
  rw [bump, rg_withRg_same, rg_of_regs hregs]

/-! ## Cores that fail -/

theorem countRelief_kept (half : Nat) (s : State) : Keeps 851951 s (countRelief half s) := by simp

theorem rg_countRelief_other {half i j : Nat} (s : State) (hj : j < 256) (hhalf : half < 24) (hi : ¬counted i)
    (hne : (i, j) ≠ (0x3001, half + 1)) : rg (countRelief half s) i j = rg s i j := by
  have hkey : keyOf i j ≠ keyOf 0x3001 (half + 1) := fun h => by
    obtain ⟨rfl, rfl⟩ := keyOf_inj hj (by omega) h
    exact hne rfl
  have haudit : ∀ v n, rg (audit 0 0x3001 (half + 1) 4 false v (withRg 0x3001 (half + 1) n s)) i j = rg s i j :=
    fun v n => (rg_audit _ hj hi).trans (rg_withRg_other _ _ hkey)
  unfold countRelief
  dsimp only
  split
  · rw [rg_raise _ hj hi, haudit]
  · rw [haudit]

theorem rg_countRelief {half : Nat} (s : State) (hhalf : half < 24) :
    rg (countRelief half s) 0x3001 (half + 1) = rg s 0x3001 (half + 1) - 1 := by
  have hfree : ¬counted 0x3001 := by unfold counted; decide
  have haudit : ∀ v n, rg (audit 0 0x3001 (half + 1) 4 false v (withRg 0x3001 (half + 1) n s)) 0x3001 (half + 1) = n :=
    fun v n => (rg_audit _ (by omega) hfree).trans (rg_withRg_same ..)
  unfold countRelief
  dsimp only
  split
  · rw [rg_raise _ (by omega) hfree, haudit]
  · rw [haudit]

theorem regsExcept_countRelief {half : Nat} (l : List (Nat × Nat)) (s : State) (hhalf : half < 24)
    (hl : (0x3001, half + 1) ∈ l) : regsExcept l s (countRelief half s) := by
  intro i j hj hne h1 h2 h3
  exact rg_countRelief_other s hj hhalf (by simp [counted, h1, h2, h3]) fun h => hne (h ▸ hl)

/-- The state with a failed core counted. -/
def failCounted (s : State) : State := bump 0xB002 2 1 s

theorem rg_failCounted (s : State) : rg (failCounted s) 0xB002 2 = satAdd (sizeOf_ 0xB002 2) (rg s 0xB002 2) 1 :=
  rg_withRg_same ..

theorem rg_failCounted_relief {half : Nat} (s : State) (hhalf : half < 24) :
    rg (failCounted s) 0x3001 (half + 1) = rg s 0x3001 (half + 1) :=
  rg_bump_other s (by omega) (by decide) (by decide)

theorem lastRelief_of_siteMap {s t : State} (h : t.siteMap = s.siteMap) (half : Nat) :
    lastRelief t half = lastRelief s half := by
  unfold lastRelief reliefLeft boundSite
  rw [h]

theorem lastRelief_range {half r : Nat} {s : State} (h : lastRelief s half = some r) : 96 ≤ r := by
  have hmem := List.mem_of_find?_eq_some h
  simp only [List.mem_cons, List.not_mem_nil, or_false] at hmem
  omega

/-- The rebinding of a failed planned core to a relief core's site. -/
def retired (half c r : Nat) (s : State) : State := rebind half [(c, boundSite s half r), (r, siteGone)] s

theorem failCore_retires {half c r : Nat} {s : State} (hc : c < 96) (hhalf : half < 24) (hr : lastRelief s half = some r)
    (hcount : rg s 0x3001 (half + 1) ≠ 0) :
    failCore half c s = countRelief half (retired half c r (failCounted s)) := by
  have hr' : lastRelief (failCounted s) half = some r := (lastRelief_of_siteMap rfl half).trans hr
  have hcount' : rg (failCounted s) 0x3001 (half + 1) ≠ 0 := by rwa [rg_failCounted_relief s hhalf]
  refine (if_pos hc).trans ?_
  change retireCore half c (failCounted s) = _
  unfold retireCore
  rw [hr']
  exact if_neg hcount'

theorem failCore_faults {half c : Nat} {s : State} (hc : c < 96) (hhalf : half < 24)
    (hnone : lastRelief s half = none ∨ rg s 0x3001 (half + 1) = 0) :
    failCore half c s = toFaulted 0x03100007 8 (leBytes 1 half) (failCounted s) := by
  have hrelief : lastRelief (failCounted s) half = lastRelief s half := lastRelief_of_siteMap rfl half
  refine (if_pos hc).trans ?_
  change retireCore half c (failCounted s) = _
  unfold retireCore
  rw [hrelief, rg_failCounted_relief s hhalf]
  split
  · rfl
  · rename_i r hr
    exact if_pos (hnone.resolve_left (by simp [hr]))

theorem failCore_relief {half c : Nat} (s : State) (hc : 96 ≤ c) :
    failCore half c s = countRelief half { failCounted s with
      siteMap := put (siteKey half c) siteGone (failCounted s).siteMap } := if_neg (by omega)

theorem retired_regs (half c r : Nat) (s : State) : (retired half c r s).regs = s.regs := by
  unfold retired rebind
  dsimp only
  split <;> rfl

theorem retired_dev (half c r : Nat) (s : State) : (retired half c r s).dev = s.dev := by
  unfold retired rebind
  dsimp only
  split <;> rfl

/-- No score installed: the site map changes at once. -/
theorem retired_direct {half c r : Nat} {s : State} (hdev : s.dev = .inert ∨ s.dev = .joined ∨ s.dev = .faulted)
    (hne : c ≠ r) :
    boundSite (retired half c r s) half c = boundSite s half r ∧ reliefLeft (retired half c r s) half r = false := by
  have heq : retired half c r s = { s with
      siteMap := put (siteKey half r) siteGone (put (siteKey half c) (boundSite s half r) s.siteMap) } := by
    refine if_neg ?_
    rcases hdev with hdev | hdev | hdev <;> simp [hdev]
  rw [heq]
  unfold reliefLeft boundSite
  dsimp only
  rw [lookup_put_other _ _ _ _ (siteKey_ne hne), lookup_put_same, lookup_put_same]
  exact ⟨rfl, by simp⟩

/-- With a score installed the rebinding waits for the next step boundary. -/
theorem retired_waits {half c r : Nat} {s : State} (hdev : s.dev = .prepared ∨ s.dev = .running ∨ s.dev = .held) :
    retired half c r s = withHalf half
      { halfTest s half with rebind := [(c, boundSite s half r), (r, siteGone)], returning := true } s := by
  refine if_pos ?_
  rcases hdev with hdev | hdev | hdev <;> simp [hdev]

/-- The state at the failure of a core under test, counted. -/
def failedTest (half c : Nat) (s : State) : State := failCounted (testOver half c (fresh s))

theorem failedTest_kept (half c : Nat) (s : State) :
    (failedTest half c s).siteMap = s.siteMap ∧ (failedTest half c s).dev = s.dev ∧
      (failedTest half c s).regs = (failCounted s).regs := by
  obtain ⟨-, -, -, hmap, hregs, hdev⟩ := testOver_over half c (fresh s)
  have hcounted : ∀ u : State, u.regs = s.regs → (failCounted u).regs = (failCounted s).regs := by
    intro u hu
    have hrg : rg u 0xB002 2 = rg s 0xB002 2 := rg_of_regs hu ..
    simp only [failCounted, bump, withRg, hrg, hu]
  exact ⟨hmap, hdev, hcounted _ hregs⟩

theorem regsExcept_failCounted {half : Nat} (s : State) : regsExcept [(0xB002, 2), (0x3001, half + 1)] s (failCounted s) :=
  regsExcept_bump _ _ (by decide) (by simp)

/-- What the end of a test of a core that failed leaves of the counters. -/
theorem countRelief_counts {half : Nat} {s u : State} (hhalf : half < 24) (h : u.regs = (failCounted s).regs) :
    rg (countRelief half u) 0xB002 2 = satAdd (sizeOf_ 0xB002 2) (rg s 0xB002 2) 1 ∧
      rg (countRelief half u) 0x3001 (half + 1) = rg s 0x3001 (half + 1) - 1 ∧
      regsExcept [(0xB002, 2), (0x3001, half + 1)] s (countRelief half u) := by
  refine ⟨?_, ?_, regsExcept_trans (regsExcept_trans (regsExcept_failCounted s) (regsExcept_of_regs h))
    (regsExcept_countRelief _ u hhalf (by simp))⟩
  · rw [rg_countRelief_other u (by decide) hhalf (by unfold counted; decide) (by simp), rg_of_regs h, rg_failCounted]
  · rw [rg_countRelief u hhalf, rg_of_regs h, rg_failCounted_relief s hhalf]

end Sys2Proof.Machine

open Sys2Proof Sys2Proof.Machine

/-- Settles O60: each event of a test is one update of its half; a failed core is rebound, or nothing is left to bind
it to. -/
theorem coreTestsFollowTheirSchedule : Obligations.CoreTestsFollowTheirSchedule := by
  refine ⟨fun half at0 s hhalf hreset hat htime hon hdue hcore hrelief => ?due, fun half s h hdev => ?direct,
    fun half r s h hdev hstep hnext hr hsites => ?relieved,
    fun half at0 s hhalf hreset hat htime hdue hover hcore => ?overdue,
    fun half c s h hc hrelief => ?passed, fun half c r s h hc hrelief => ?passedRelieved,
    fun half c r s h hc hr hcount => ?failed, fun half c s h hc hnone hdev => ?last, fun half c s h hc => ?failedRelief⟩
  case due =>
    have hexec : exec (.coreTestDue half) s = .next (withHalf half { halfTest s half with due := true } (fresh s)) := by
      have hrelief' : reliefAvailable (fresh s) half = true := hrelief
      change Host.Outcome.next (match (halfTest s half).dueAt with | none => _ | some at0 => _) = _
      rw [hat]
      exact congrArg Host.Outcome.next (if_neg (by
        have hhalf' : halfTest (fresh s) half = halfTest s half := rfl
        simp [hhalf', hhalf, hreset, hon, hdue, hcore, hrelief', htime]))
    exact ⟨_, hexec, halfTest_withHalf_same .., othersKept_withHalf _ rfl,
      unchanged_of_covered (m := 524285) (by simp) rfl⟩
  case direct =>
    obtain ⟨hbegun, hzero, hothers, -⟩ := beginTest_begun half (halfTest s half).next none (fresh s)
    exact ⟨_, exec_coreTestStart_direct h hdev, hbegun, hzero, hothers, unchanged_of_covered (m := 524157) (by simp) rfl⟩
  case relieved =>
    obtain ⟨hbegun, hsite, hzero, hcopy, hothers⟩ := relieve_relieved (s := fresh s) hsites
    exact ⟨_, exec_coreTestStart_relieved h hdev hstep hnext hr, hbegun, hsite, hzero, hcopy, hothers,
      unchanged_of_covered (m := 524157) (by simp) rfl⟩
  case overdue =>
    have hexec : exec (.coreTestOverdue half) s = .next (raise 1 0x0011 (leBytes 1 half ++ leBytes 1 (halfTest s half).next)
        (bump 0xB002 3 1 (withHalf half { halfTest s half with overdue := true } (fresh s)))) := by
      change Host.Outcome.next (match (halfTest s half).dueAt with | none => _ | some at0 => _) = _
      rw [hat]
      exact congrArg Host.Outcome.next (if_neg (by
        have hhalf' : halfTest (fresh s) half = halfTest s half := rfl
        simp [hhalf', hhalf, hreset, hdue, hover, hcore, htime]))
    have hraise : ∀ (p : Bytes) (u : State), Keeps 524288 u (raise 1 0x0011 p u) := fun p u => by simp
    have hfree : ¬counted 0xB002 := by unfold counted; decide
    refine ⟨_, hexec, (halfTest_of_test ((hraise ..).test (by decide)) half).trans (halfTest_withHalf_same ..), ?_,
      othersKept_withHalf _ ((hraise ..).test (by decide)), ?_, unchanged_of_covered (m := 458733) (by simp) rfl⟩
    · rw [rg_raise _ (by decide) hfree]
      exact rg_withRg_same ..
    · refine regsExcept_trans (t := bump 0xB002 3 1 (withHalf half { halfTest s half with overdue := true } (fresh s)))
        (regsExcept_trans (regsExcept_of_regs rfl) (regsExcept_bump _ _ (by decide) (by decide))) ?_
      exact regsExcept_raise 1 _ _ _
  case passed =>
    obtain ⟨hended, hsite, hcount, hothers, hregs⟩ := testPassed half c (fresh s)
    refine ⟨_, exec_coreTestComplete_testing true h, ?_, hsite, hcount, hothers, hregs,
      unchanged_of_covered (m := 524141) (by simp [testOver_eq]) rfl⟩
    exact hended.trans (by rw [testEnded_planned _ hc]; simp [hrelief, halfTest_fresh, spacing_fresh])
  case passedRelieved =>
    obtain ⟨hended, hsite, hcount, hothers, hregs⟩ := testPassed half c (fresh s)
    refine ⟨_, exec_coreTestComplete_testing true h, ?_, hsite, hcount, hothers, hregs,
      unchanged_of_covered (m := 524141) (by simp [testOver_eq]) rfl⟩
    exact hended.trans (by rw [testEnded_planned _ hc]; simp [hrelief, halfTest_fresh, spacing_fresh])
  case failed =>
    have hover := testOver_over half c (fresh s)
    obtain ⟨-, -, -, hmap, hregs, -⟩ := hover
    have hfail := failCore_retires hc h.inRange ((lastRelief_of_siteMap hmap half).trans hr)
      (by rw [rg_of_regs hregs]; exact hcount)
    obtain ⟨hmap', hdev', hregs'⟩ := failedTest_kept half c s
    have hexec := (exec_coreTestComplete_testing false h).trans (congrArg Host.Outcome.next hfail)
    change _ = Host.Outcome.next (countRelief half (retired half c r (failedTest half c s))) at hexec
    generalize failedTest half c s = u at hexec hmap' hdev' hregs'
    obtain ⟨hfailed, hleft, hexcept⟩ := countRelief_counts h.inRange ((retired_regs half c r u).trans hregs')
    have hkept := countRelief_kept half (retired half c r u)
    have hsiteMap := hkept.siteMap (by decide)
    refine ⟨_, hexec, (hkept.dev (by decide)).trans ((retired_dev ..).trans hdev'), hfailed, hleft, fun hdirect => ?_,
      fun hwaits => ?_, hexcept⟩
    · obtain ⟨hbound, hgone⟩ := retired_direct (half := half) (c := c) (r := r) (s := u) (hdev' ▸ hdirect)
        (by have := lastRelief_range hr; omega)
      refine ⟨?_, ?_⟩
      · rw [boundSite_of_siteMap hsiteMap, hbound, boundSite_of_siteMap hmap']
      · unfold reliefLeft at hgone ⊢
        rwa [boundSite_of_siteMap hsiteMap]
    · have hwait := retired_waits (half := half) (c := c) (r := r) (s := u) (hdev' ▸ hwaits)
      have hhalf : halfTest (retired half c r u) half =
          { halfTest u half with rebind := [(c, boundSite s half r), (r, siteGone)], returning := true } := by
        rw [hwait, halfTest_withHalf_same, boundSite_of_siteMap hmap']
      have hmap2 : (retired half c r u).siteMap = u.siteMap := by rw [hwait]; rfl
      rw [halfTest_of_test (hkept.test (by decide)), hhalf, hsiteMap, hmap2]
      exact ⟨hmap', rfl, rfl⟩
  case last =>
    obtain ⟨-, -, -, hmap, hregs, -⟩ := testOver_over half c (fresh s)
    have hfail := failCore_faults hc h.inRange (s := testOver half c (fresh s))
      (hnone.imp (fun hr => (lastRelief_of_siteMap hmap half).trans hr) (fun hr => (rg_of_regs hregs ..).trans hr))
    obtain ⟨-, hdev', hregs'⟩ := failedTest_kept half c s
    have hexec := (exec_coreTestComplete_testing false h).trans (congrArg Host.Outcome.next hfail)
    change _ = Host.Outcome.next (toFaulted 0x03100007 8 (leBytes 1 half) (failedTest half c s)) at hexec
    generalize failedTest half c s = u at hexec hdev' hregs'
    have hcount : RgK 13690802112538083279 u (toFaulted 0x03100007 8 (leBytes 1 half) u) := by simp
    refine ⟨_, hexec, toFaulted_dev .., rg_toFaulted_cause (by rwa [hdev']), ?_⟩
    rw [hcount 0xB002 2 (by decide), rg_of_regs hregs', rg_failCounted]
  case failedRelief =>
    have hfail := failCore_relief (half := half) (testOver half c (fresh s)) hc
    obtain ⟨-, hdev', hregs'⟩ := failedTest_kept half c s
    have hexec := (exec_coreTestComplete_testing false h).trans (congrArg Host.Outcome.next hfail)
    change _ = Host.Outcome.next (countRelief half { failedTest half c s with
      siteMap := put (siteKey half c) siteGone (failedTest half c s).siteMap }) at hexec
    generalize failedTest half c s = u at hexec hdev' hregs'
    obtain ⟨hfailed, hleft, hexcept⟩ := countRelief_counts h.inRange
      (u := { u with siteMap := put (siteKey half c) siteGone u.siteMap }) hregs'
    have hkept := countRelief_kept half { u with siteMap := put (siteKey half c) siteGone u.siteMap }
    refine ⟨_, hexec, (hkept.dev (by decide)).trans hdev', ?_, hfailed, hleft, hexcept⟩
    unfold reliefLeft
    rw [boundSite_of_siteMap (hkept.siteMap (by decide))]
    simp [boundSite]

end

section
/-! The ring clock and the time reference (spec/16_power_clocks.md). -/

namespace Sys2Proof.Machine

/-! ## Links that retrain when the clock returns -/

/-- A link that was up: it retrains when the ring clock returns. -/
abbrev wasUp (s : State) (k : Nat) : Prop := (linkOf s k).state = 2 ∨ (linkOf s k).state = 3

/-- A link's part of the return of the ring clock. -/
def retrainUp (down : List Nat) (s : State) (i : Nat) : State :=
  if wasUp s (i + 1) then
    if down.contains (i + 1) then failLink (i + 1) (beginRetrain (i + 1) s) else beginRetrain (i + 1) s
  else s

theorem toFaulted_links (cause kind : Nat) (loc : Bytes) (s : State) : (toFaulted cause kind loc s).links = s.links :=
  have h : Keeps 1024 s (toFaulted cause kind loc s) := by simp
  h.links (by decide)

theorem linkOf_of_links {s t : State} (h : t.links = s.links) (k : Nat) : linkOf t k = linkOf s k := by
  unfold linkOf
  rw [h]

theorem failLink_failed (k : Nat) (s : State) : (linkOf (failLink k s) k).state = 4 ∧ (failLink k s).dev = .faulted := by
  refine ⟨?_, toFaulted_dev ..⟩
  rw [failLink, linkOf_of_links (toFaulted_links ..), linkOf_withLink_same]

theorem linkOf_failLink_other {n k : Nat} (s : State) (h : k ≠ n) : linkOf (failLink n s) k = linkOf s k := by
  rw [failLink, linkOf_of_links (toFaulted_links ..), linkOf_withLink_other _ _ h]

/-- The state with a link's retrain begun and counted. -/
def retrainCounted (k : Nat) (s : State) : State :=
  let l := linkOf s k
  bump 0x6E02 k 1 (withLink k { l with
    state := 3, retrainAt := s.pwr.time
    recent := s.pwr.time :: l.recent.filter (fun t => s.pwr.time < t + 1000000000) } s)

theorem beginRetrain_eq (k : Nat) (s : State) :
    beginRetrain k s =
      if 16 < (s.pwr.time :: (linkOf s k).recent.filter (fun t => s.pwr.time < t + 1000000000)).length then
        failLink k (retrainCounted k s) else retrainCounted k s := rfl

theorem beginRetrain_rare {k : Nat} {s : State} (h : (linkOf s k).recent.length < 16) :
    beginRetrain k s = retrainCounted k s := by
  have hle := List.length_filter_le (fun t => decide (s.pwr.time < t + 1000000000)) (linkOf s k).recent
  rw [beginRetrain_eq]
  exact if_neg (by rw [List.length_cons]; omega)

theorem linkOf_bump (i j n k : Nat) (s : State) : linkOf (bump i j n s) k = linkOf s k := rfl

theorem linkOf_retrainCounted_other {n k : Nat} (s : State) (h : k ≠ n) : linkOf (retrainCounted n s) k = linkOf s k := by
  unfold retrainCounted
  dsimp only
  rw [linkOf_bump, linkOf_withLink_other _ s h]

theorem linkOf_retrainCounted_same (k : Nat) (s : State) : (linkOf (retrainCounted k s) k).state = 3 := by
  unfold retrainCounted
  dsimp only
  rw [linkOf_bump, linkOf_withLink_same]

theorem linkOf_beginRetrain_other {n k : Nat} (s : State) (h : k ≠ n) : linkOf (beginRetrain n s) k = linkOf s k := by
  rw [beginRetrain_eq]
  split
  · rw [linkOf_failLink_other _ h, linkOf_retrainCounted_other s h]
  · exact linkOf_retrainCounted_other s h

theorem linkOf_retrainUp_other {i k : Nat} (down : List Nat) (s : State) (h : k ≠ i + 1) :
    linkOf (retrainUp down s i) k = linkOf s k := by
  unfold retrainUp
  split
  · split
    · rw [linkOf_failLink_other _ h, linkOf_beginRetrain_other s h]
    · exact linkOf_beginRetrain_other s h
  · rfl

theorem linkOf_retrains_other {k : Nat} (down l : List Nat) (s : State) (h : ∀ i ∈ l, k ≠ i + 1) :
    linkOf (l.foldl (retrainUp down) s) k = linkOf s k := by
  induction l generalizing s with
  | nil => rfl
  | cons i l ih =>
    obtain ⟨hi, hl⟩ := List.forall_mem_cons.mp h
    rw [List.foldl_cons, ih _ hl, linkOf_retrainUp_other down s hi]

/-- The state after a retrain of every link of a list, where none is beyond its number or its lanes. -/
theorem retrains_counted {l : List Nat} {s : State} (hnd : l.Nodup) (hl : ∀ i ∈ l, i + 1 < 256)
    (hrare : ∀ i ∈ l, (linkOf s (i + 1)).recent.length < 16) :
    Keeps 1047535 s (l.foldl (retrainUp []) s) ∧
      (∀ i ∈ l, wasUp s (i + 1) → (linkOf (l.foldl (retrainUp []) s) (i + 1)).state = 3 ∧
        rg (l.foldl (retrainUp []) s) 0x6E02 (i + 1) = satAdd (sizeOf_ 0x6E02 (i + 1)) (rg s 0x6E02 (i + 1)) 1) ∧
      (∀ i ∈ l, ¬wasUp s (i + 1) → linkOf (l.foldl (retrainUp []) s) (i + 1) = linkOf s (i + 1)) ∧
      ∀ i j, j < 256 → (i, j) ∉ l.map (fun k => (0x6E02, k + 1)) → rg (l.foldl (retrainUp []) s) i j = rg s i j := by
  induction l generalizing s with
  | nil => exact ⟨Keeps.refl _ _, by simp, by simp, fun _ _ _ _ => rfl⟩
  | cons i l ih =>
    obtain ⟨hi, hnd⟩ := List.nodup_cons.mp hnd
    obtain ⟨hi256, hl⟩ := List.forall_mem_cons.mp hl
    obtain ⟨hirare, hrare⟩ := List.forall_mem_cons.mp hrare
    have hne : ∀ k ∈ l, k + 1 ≠ i + 1 := fun k hk h => hi (Nat.succ.inj h ▸ hk)
    have hlink : ∀ k ∈ l, linkOf (retrainUp [] s i) (k + 1) = linkOf s (k + 1) := fun k hk =>
      linkOf_retrainUp_other [] s (hne k hk)
    obtain ⟨hkeeps, hup, hdown, hregs⟩ := ih (s := retrainUp [] s i) hnd hl (fun k hk => by rw [hlink k hk]; exact hrare k hk)
    have hother : linkOf (l.foldl (retrainUp []) (retrainUp [] s i)) (i + 1) = linkOf (retrainUp [] s i) (i + 1) :=
      linkOf_retrains_other [] l _ fun k hk => Ne.symm (hne k hk)
    have hrg : ∀ a j, j < 256 → (a, j) ≠ (0x6E02, i + 1) → rg (retrainUp [] s i) a j = rg s a j := by
      intro a j hj hne
      unfold retrainUp
      split
      · rw [if_neg (by simp), beginRetrain_rare hirare]
        refine rg_withRg_other _ _ fun hkey => hne ?_
        obtain ⟨rfl, rfl⟩ := keyOf_inj hj hi256 hkey
        rfl
      · rfl
    have hone : Keeps 1047535 s (retrainUp [] s i) := by
      unfold retrainUp
      split
      · rw [if_neg (by simp), beginRetrain_rare hirare, retrainCounted]
        simp
      · exact Keeps.refl _ _
    refine ⟨hone.trans hkeeps, ?_, ?_, ?_⟩
    · refine List.forall_mem_cons.mpr ⟨fun h => ?_, fun k hk h => ?_⟩
      · have hstep : retrainUp [] s i = retrainCounted (i + 1) s := by
          unfold retrainUp
          rw [if_pos h, if_neg (by simp), beginRetrain_rare hirare]
        rw [List.foldl_cons, hother, hregs _ _ hi256 (by simpa using hi), hstep]
        exact ⟨linkOf_retrainCounted_same .., rg_withRg_same ..⟩
      · rw [List.foldl_cons, ← hrg _ _ (hl k hk) (by
          rintro ⟨⟩
          exact hi hk)]
        exact hup k hk (by rwa [wasUp, hlink k hk])
    · refine List.forall_mem_cons.mpr ⟨fun h => ?_, fun k hk h => ?_⟩
      · rw [List.foldl_cons, hother, retrainUp, if_neg h]
      · rw [List.foldl_cons, hdown k hk (by rwa [wasUp, hlink k hk]), hlink k hk]
    · intro a j hj hnot
      simp only [List.map_cons, List.mem_cons, not_or] at hnot
      rw [List.foldl_cons, hregs a j hj hnot.2, hrg a j hj hnot.1]

/-! ## Links and stacks that are gone -/

/-- The bypass and the ring clock: an entry to FAULTED leaves them alone. -/
def ringGates (s : State) : Bool × Bool := (s.ring.bypassOpen, s.ring.clock)

theorem ringGates_of_keeps {s t : State} (h : Keeps 65536 s t) : ringGates t = ringGates s := by
  unfold ringGates
  rw [h.ring (by decide)]

theorem ringGates_raise (aud code : Nat) (p : Bytes) (s : State) : ringGates (raise aud code p s) = ringGates s := by
  simp [ringGates]

theorem ringGates_rejectReq (q : Req) (code : Nat) (s : State) : ringGates (rejectReq q code s) = ringGates s := by
  unfold ringGates
  rw [rejectReq_ring_bypassOpen, rejectReq_ring_clock]

theorem ringGates_failPend (k : PendKind) (code : Nat) (s : State) : ringGates (failPend k code s) = ringGates s := by
  cases hp : pendOf s k with
  | none => simp [failPend, hp]
  | some p =>
    rw [failPend_of_pendOf hp, ringGates_rejectReq]
    rfl

theorem ringGates_foldl {α : Type} {f : State → α → State} (h : ∀ u e, ringGates (f u e) = ringGates u) (l : List α)
    (s : State) : ringGates (l.foldl f s) = ringGates s := by
  induction l generalizing s with
  | nil => rfl
  | cons e l ih => exact (ih _).trans (h s e)

theorem ringGates_endBlocks (s : State) : ringGates (endBlocks s) = ringGates s := by
  unfold endBlocks
  refine (ringGates_foldl (fun u e => ?_) _ _).trans rfl
  split
  · rfl
  · exact ringGates_rejectReq ..

theorem ringGates_endPending (s : State) : ringGates (endPending s) = ringGates s := by
  have hdrop : ∀ u, ringGates (dropHostCopy u) = ringGates u := fun u => ringGates_of_keeps (by simp)
  have hres : ∀ (u : State) (r : Resilience), ringGates { u with res := r } = ringGates u := fun _ _ => rfl
  unfold endPending
  dsimp only
  rw [hres, hdrop, ringGates_endBlocks]
  simp only [ringGates_failPend]
  split <;> rfl

theorem ringGates_faultEntered (cause : Nat) (s : State) : ringGates (faultEntered cause s) = ringGates s := by
  have hcause : ∀ u : State, ringGates (withRg 0x2001 3 cause
      { u with dev := .faulted, ex := { u.ex with holdPending := false } }) = ringGates u := fun _ => rfl
  have htests : ∀ u : State, ringGates (abandonTests u) = ringGates u := fun u => ringGates_of_keeps (by simp)
  unfold faultEntered
  dsimp only
  rw [hcause, htests]
  split
  · exact ringGates_of_keeps (by simp)
  · rfl

theorem ringGates_toFaulted (cause kind : Nat) (loc : Bytes) (s : State) :
    ringGates (toFaulted cause kind loc s) = ringGates s := by
  by_cases h : s.dev = .faulted
  · rw [toFaulted_again h]
    exact ringGates_raise ..
  · have haudit : ∀ u, ringGates (audit 0 0x2001 3 7 false (leBytes 4 cause) u) = ringGates u := fun u => by
      simp [ringGates]
    rw [toFaulted_enters h, faultEvent, ringGates_raise, haudit, ringGates_endPending, ringGates_faultEntered]

theorem ringGates_failLink (k : Nat) (s : State) : ringGates (failLink k s) = ringGates s := ringGates_toFaulted ..

theorem ringGates_failStack (k : Nat) (s : State) : ringGates (failStack k s) = ringGates s := ringGates_toFaulted ..

theorem ringGates_retrainUp (down : List Nat) (s : State) (i : Nat) : ringGates (retrainUp down s i) = ringGates s := by
  have hbegin : ∀ k, ringGates (beginRetrain k s) = ringGates s := fun k => by
    rw [beginRetrain_eq]
    split
    · rw [ringGates_failLink]
      rfl
    · rfl
  unfold retrainUp
  split
  · split
    · rw [ringGates_failLink, hbegin]
    · exact hbegin _
  · rfl

/-- Device state FAULTED, device time and the stacks: what the return of the clock keeps once it is reached. -/
def stacksAndTime (s : State) : List (Nat × Stack) × Nat := (s.mem.stackSt, s.pwr.time)

theorem stacksAndTime_toFaulted (cause kind : Nat) (loc : Bytes) (s : State) :
    stacksAndTime (toFaulted cause kind loc s) = stacksAndTime s := by
  have htime := congrArg (fun x : PowerState × Bool × Bool × Nat => x.2.2.2) (ladder_toFaulted cause kind loc s)
  have hstacks := congrArg Prod.snd (testsAndStacks_toFaulted cause kind loc s)
  exact Prod.ext hstacks htime

theorem stacksAndTime_failLink (k : Nat) (s : State) : stacksAndTime (failLink k s) = stacksAndTime s :=
  stacksAndTime_toFaulted ..

theorem stacksAndTime_beginRetrain (k : Nat) (s : State) : stacksAndTime (beginRetrain k s) = stacksAndTime s := by
  rw [beginRetrain_eq]
  split
  · rw [stacksAndTime_failLink]
    rfl
  · rfl

theorem stacksAndTime_retrainUp (down : List Nat) (s : State) (i : Nat) :
    stacksAndTime (retrainUp down s i) = stacksAndTime s := by
  unfold retrainUp
  split
  · split
    · rw [stacksAndTime_failLink, stacksAndTime_beginRetrain]
    · exact stacksAndTime_beginRetrain ..
  · rfl

theorem stacksAndTime_retrains (down l : List Nat) (s : State) :
    stacksAndTime (l.foldl (retrainUp down) s) = stacksAndTime s := by
  induction l generalizing s with
  | nil => rfl
  | cons i l ih => rw [List.foldl_cons, ih, stacksAndTime_retrainUp]

theorem refreshLost_congr {s t : State} (h : stacksAndTime t = stacksAndTime s) (k : Nat) :
    refreshLost t k = refreshLost s k := by
  have hstacks : t.mem.stackSt = s.mem.stackSt := congrArg Prod.fst h
  have htime : t.pwr.time = s.pwr.time := congrArg Prod.snd h
  unfold refreshLost stackOf
  rw [hstacks, htime]

theorem faulted_beginRetrain (k : Nat) {s : State} (h : s.dev = .faulted) : (beginRetrain k s).dev = .faulted := by
  rw [beginRetrain_eq]
  split
  · exact (failLink_failed ..).2
  · exact h

theorem faulted_retrainUp (down : List Nat) {s : State} (i : Nat) (h : s.dev = .faulted) :
    (retrainUp down s i).dev = .faulted := by
  unfold retrainUp
  split
  · split
    · exact (failLink_failed ..).2
    · exact faulted_beginRetrain _ h
  · exact h

theorem faulted_retrains (down l : List Nat) {s : State} (h : s.dev = .faulted) :
    (l.foldl (retrainUp down) s).dev = .faulted := by
  induction l generalizing s with
  | nil => exact h
  | cons i l ih => exact ih (faulted_retrainUp down i h)

theorem retrains_down {down l : List Nat} {s : State} {i : Nat} (hnd : l.Nodup) (hi : i ∈ l) (hdown : i + 1 ∈ down)
    (hup : wasUp s (i + 1)) :
    (linkOf (l.foldl (retrainUp down) s) (i + 1)).state = 4 ∧ (l.foldl (retrainUp down) s).dev = .faulted := by
  induction l generalizing s with
  | nil => cases hi
  | cons a l ih =>
    obtain ⟨ha, hnd⟩ := List.nodup_cons.mp hnd
    rcases List.mem_cons.mp hi with rfl | hil
    · have hstep : retrainUp down s i = failLink (i + 1) (beginRetrain (i + 1) s) := by
        rw [retrainUp, if_pos hup, if_pos (List.contains_iff_mem.mpr hdown)]
      obtain ⟨hstate, hdev⟩ := failLink_failed (i + 1) (beginRetrain (i + 1) s)
      rw [List.foldl_cons, hstep, linkOf_retrains_other down l _ fun k hk h => by
        obtain rfl := Nat.succ.inj h
        exact ha hk]
      exact ⟨hstate, faulted_retrains down l hdev⟩
    · refine ih hnd hil ?_
      have hne : i + 1 ≠ a + 1 := by
        intro h
        obtain rfl := Nat.succ.inj h
        exact ha hil
      rwa [wasUp, linkOf_retrainUp_other down s hne]

theorem stackOf_failStack_other {n k : Nat} (s : State) (h : k ≠ n) : stackOf (failStack n s) k = stackOf s k := by
  have hstacks := congrArg Prod.snd (testsAndStacks_toFaulted 0x03200003 3 (leBytes 1 n ++ List.replicate 7 0xFF)
    (withStack n { stackOf s n with state := 5 } s))
  have hread : ∀ x, at_ ({} : Stack) k (testsAndStacks (withStack n x s)).2 = stackOf (withStack n x s) k := fun _ => rfl
  refine (congrArg (at_ ({} : Stack) k) hstacks).trans ?_
  rw [hread, stackOf_withStack_other _ s h]

theorem failStack_failed (k : Nat) (s : State) : (stackOf (failStack k s) k).state = 5 ∧ (failStack k s).dev = .faulted :=
  ⟨(testsAndStacks_failStack k s).2, toFaulted_dev ..⟩

/-- Once a stack has failed, or is in the list, it has failed after the list. -/
theorem failStacks_failed {l : List Nat} {s : State} {k : Nat}
    (h : k ∈ l ∨ (stackOf s k).state = 5 ∧ s.dev = .faulted) :
    (stackOf (l.foldl (fun s k => failStack k s) s) k).state = 5 ∧ (l.foldl (fun s k => failStack k s) s).dev = .faulted := by
  induction l generalizing s with
  | nil => exact h.resolve_left (by simp)
  | cons a l ih =>
    refine ih (s := failStack a s) ?_
    by_cases ha : k = a
    · subst ha
      exact .inr (failStack_failed k s)
    · rcases h with h | ⟨hstate, -⟩
      · exact .inl ((List.mem_cons.mp h).resolve_left ha)
      · exact .inr ⟨by rw [stackOf_failStack_other s ha, hstate], (failStack_failed a s).2⟩

theorem failStacks_links (l : List Nat) (s : State) : (l.foldl (fun s k => failStack k s) s).links = s.links := by
  induction l generalizing s with
  | nil => rfl
  | cons k l ih => exact (ih (failStack k s)).trans (toFaulted_links ..)

theorem failStacks_faulted (l : List Nat) {s : State} (h : s.dev = .faulted) :
    (l.foldl (fun s k => failStack k s) s).dev = .faulted := by
  induction l generalizing s with
  | nil => exact h
  | cons k l ih => exact ih (s := failStack k s) (failStack_failed k s).2

/-- The state with the ring clock back. -/
def clockBack (s : State) : State := { fresh s with ring := { s.ring with clock := true } }

theorem exec_ringClockReturn_back (down : List Nat) {s : State} (hreset : s.pwr.inReset = false)
    (hclock : s.ring.clock = false) :
    exec (.ringClockReturn down) s = .next (((List.range 20).filter
      (refreshLost ((List.range 6).foldl (retrainUp down) (clockBack s)))).foldl (fun s k => failStack k s)
        ((List.range 6).foldl (retrainUp down) (clockBack s))) :=
  congrArg Host.Outcome.next (if_neg (by simp [hreset, hclock]))

theorem linkIndex {k : Nat} (h1 : 1 ≤ k) (h6 : k ≤ 6) : ∃ i, i ∈ List.range 6 ∧ i + 1 = k :=
  ⟨k - 1, by rw [List.mem_range]; omega, by omega⟩

/-! ## The time reference -/

theorem timeKept_set (code : Nat) (p : PowerClock) {s : State} (h : p.time = s.pwr.time) :
    TimeKept s (withRg 0xA010 3 code { fresh s with pwr := p }) :=
  ⟨h, regsExcept_trans (regsExcept_of_regs rfl) (regsExcept_withRg _ _ (by decide) (by decide)),
    unchanged_of_covered (m := 786413) ((withRg_keeps _ _ _ _ (by decide)).mpr
      ((keeps_set_pwr (u := fresh s) _ (by decide)).mpr (by simp))) rfl⟩

/-- The offset of device time from the nearest second. -/
def offsetOf (time : Nat) : Int := ((time + 500000000) / 1000000000 * 1000000000 : Nat) - (time : Int)

theorem offsetOf_lands (time : Nat) :
    ((time : Int) + offsetOf time) % 1000000000 = 0 ∧ (offsetOf time).natAbs ≤ 500000000 := by
  unfold offsetOf
  omega

theorem exec_ppsEdge_external {s : State} (hreset : s.pwr.inReset = false) (href : reference s = 1)
    (hlost : s.pwr.refLost = false) :
    exec .ppsEdge s = .next (withRg 0xA010 3 (if (offsetOf s.pwr.time).natAbs ≤ 20 then 2 else 1)
      { fresh s with pwr := { s.pwr with slew := offsetOf s.pwr.time } }) := by
  have href' : reference (fresh s) = 1 := href
  exact congrArg Host.Outcome.next (if_neg (by simp [hreset, href', hlost]))

end Sys2Proof.Machine

open Sys2Proof Sys2Proof.Machine

/-- Settles O53: the clock's return runs over the links and then over the stacks; the time reference sets one object and
the slew. -/
theorem clocksAreFollowed : Obligations.ClocksAreFollowed := by
  refine ⟨fun s => ?loss, fun s hreset hclock hfresh hrare => ?back, fun down s hreset hclock => ?gone,
    fun s hreset href => ?lost, fun s href hcoming => ?coming, fun s hreset hlost => ?returned,
    fun s hreset href hlost => ?edge⟩
  case loss =>
    have hkeeps : Keeps 720893 s { fresh s with
        ring := { s.ring with clock := false, parts := [] }
        pwr := { s.pwr with symbolLock := false, lastFrameAt := none, goodFrames := 0 } } :=
      (keeps_set_pwr (u := { fresh s with ring := { s.ring with clock := false, parts := [] } }) _ (by decide)).mpr
        ((keeps_set_ring (u := fresh s) _ (by decide)).mpr (by simp))
    exact ⟨_, rfl, rfl, rfl, fun a => by simp [memServes], unchanged_of_covered hkeeps rfl⟩
  case back =>
    have hmem : ∀ i ∈ List.range 6, i + 1 ≤ 6 := fun i hi => by
      rw [List.mem_range] at hi
      omega
    obtain ⟨hkeeps, hup, hdown, hregs⟩ := retrains_counted (s := clockBack s) List.nodup_range
      (fun i hi => by have := hmem i hi; omega) (fun i hi => hrare (i + 1) (by omega) (hmem i hi))
    have hnone : (List.range 20).filter (refreshLost ((List.range 6).foldl (retrainUp []) (clockBack s))) = [] := by
      rw [List.filter_eq_nil_iff]
      intro k hk
      rw [refreshLost_congr (stacksAndTime_retrains [] _ (clockBack s)) k]
      exact Bool.eq_false_iff.mp (hfresh k (List.mem_range.mp hk))
    have hexec := exec_ringClockReturn_back [] hreset hclock
    rw [hnone] at hexec
    generalize (List.range 6).foldl (retrainUp []) (clockBack s) = t at hkeeps hup hdown hregs hexec
    refine ⟨t, hexec, hkeeps.ring (by decide), fun k h1 h6 h => ?_, fun k h1 h6 h2 h3 => ?_,
      hkeeps.dev (by decide), fun i j hj hnot _ _ _ => hregs i j hj hnot, ?_⟩
    · obtain ⟨i, hi, rfl⟩ := linkIndex h1 h6
      exact hup i hi h
    · obtain ⟨i, hi, rfl⟩ := linkIndex h1 h6
      exact hdown i hi (not_or.mpr ⟨h2, h3⟩)
    · exact unchanged_of_covered (m := 981997) (Keeps.trans (t := clockBack s)
        ((keeps_set_ring (u := fresh s) _ (by decide)).mpr (by simp)) (hkeeps.mono (by decide))) rfl
  case gone =>
    have hexec := exec_ringClockReturn_back down hreset hclock
    have hfails := fun k hk => retrains_down (down := down) (l := List.range 6) (s := clockBack s) (i := k)
      List.nodup_range hk
    have hlost : ∀ k, refreshLost ((List.range 6).foldl (retrainUp down) (clockBack s)) k = refreshLost s k := fun k =>
      refreshLost_congr (stacksAndTime_retrains down _ (clockBack s)) k
    have hring : ringGates ((List.range 6).foldl (retrainUp down) (clockBack s)) = (s.ring.bypassOpen, true) :=
      ringGates_foldl (ringGates_retrainUp down) _ _
    generalize (List.range 6).foldl (retrainUp down) (clockBack s) = u at hexec hfails hlost hring
    refine ⟨_, hexec, ?_, fun k hk h1 h6 h => ?_, fun k hk h => ?_⟩
    · exact congrArg Prod.snd ((ringGates_foldl (fun u k => ringGates_failStack k u) _ u).trans hring)
    · obtain ⟨i, hi, rfl⟩ := linkIndex h1 h6
      obtain ⟨hstate, hdev⟩ := hfails i hi hk h
      exact ⟨by rw [linkOf_of_links (failStacks_links ..), hstate], failStacks_faulted _ hdev⟩
    · exact failStacks_failed (.inl (List.mem_filter.mpr ⟨List.mem_range.mpr hk, (hlost k).trans h⟩))
  case lost =>
    have href' : ¬(reference (fresh s) = 0 ∧ marksComing (fresh s) = true) := by
      rintro ⟨h0, hc⟩
      rcases href with href | href
      · exact href h0
      · exact absurd (hc.symm.trans href) (by simp)
    exact ⟨_, congrArg Host.Outcome.next (if_neg (by simpa [hreset] using href')), rg_withRg_same .., rfl,
      timeKept_set 3 _ rfl⟩
  case coming =>
    exact congrArg Host.Outcome.next (if_pos (.inr ⟨href, hcoming⟩))
  case returned =>
    exact ⟨_, congrArg Host.Outcome.next (if_neg (by simp [hreset, hlost])), rg_withRg_same .., rfl,
      timeKept_set 1 _ rfl⟩
  case edge =>
    obtain ⟨hlands, hnear⟩ := offsetOf_lands s.pwr.time
    refine ⟨_, exec_ppsEdge_external hreset href hlost, hlands, hnear, fun h => ?_, fun h => ?_, timeKept_set _ _ rfl⟩
    · exact (rg_withRg_same ..).trans (if_pos h)
    · exact (rg_withRg_same ..).trans (if_neg (by exact Nat.not_le.mpr h))

end

section
/-! The exit from Stow, refuted: a list of PLL settings that is not in rising order (spec/16_power_clocks.md). -/

namespace Sys2Proof.Machine

/-- A request of an OPERATOR session. -/
def exitRequest : Req := ⟨1, 7⟩

/-- A module in Stow with its input in range and the base dies' link PLLs set apart from their default. The settings in
force stand in the list out of order, behind one of a PLL that no exit from Stow takes. -/
def unsortedStow : State :=
  { regs := [(keyOf 0xA020 6, 0x42134001), (keyOf 0xA020 7, 0x42134001), (keyOf 0xA020 8, 0x42134001),
      (keyOf 0xA020 9, 0x42134001), (keyOf 0xA040 2, 54000)]
    ring := { bypassOpen := true }
    sec := { sessions := [(1, { state := .established, role := .operator })] }
    pwr := { pllInForce := [(7, 1), (1, 1)] } }

theorem unsortedStow_asked : PowerAsked exitRequest 3 unsortedStow :=
  ⟨⟨rfl, rfl, by decide, rfl, rfl, by decide, by decide, by decide, rfl⟩,
    ⟨by decide +kernel, by decide +kernel, by decide +kernel, fun h => absurd h (by decide +kernel),
      by decide +kernel, by decide +kernel, by decide +kernel⟩,
    by decide +kernel⟩

/-- The settings of the PLLs in a command's next state. -/
def settingsAfter (o : Out) : List (Nat × Nat) :=
  match o with
  | .next t => t.pwr.pllInForce
  | _ => []

/-- The commissioning of the ports takes the link PLLs' settings once more, which now stand in order. -/
theorem unsortedStow_exits : settingsAfter (exec (.powerStateRequest exitRequest 3) unsortedStow) =
    [(1, 1), (6, 0x42134001), (7, 0x42134001), (8, 0x42134001), (9, 0x42134001)] := by decide +kernel

theorem unsortedStow_taken : (pllTake ((List.range 12).map (· + 2)) unsortedStow).pwr.pllInForce =
    [(6, 0x42134001), (1, 1), (7, 0x42134001), (8, 0x42134001), (9, 0x42134001)] := by decide +kernel

theorem unsortedStow_ratiosOk : ratiosOk (pllTake ((List.range 12).map (· + 2)) unsortedStow) = true := by decide +kernel

end Sys2Proof.Machine

open Sys2Proof Sys2Proof.Machine

/-- Refutes O54: its third clause has the exit from Stow leave the list of PLL settings that taking the twelve settings
once leaves. The model takes the link PLLs' settings again when it commissions the ports, and where the list was not in
rising order that moves an entry: the settings are equal and the lists are not. -/
theorem not_powerStatesAreRequestedAndWalked : ¬ Obligations.PowerStatesAreRequestedAndWalked := by
  intro h
  obtain ⟨-, -, hexit, -⟩ := h
  obtain ⟨t, hexec, -, -, hsettings, -⟩ :=
    hexit exitRequest 3 unsortedStow unsortedStow_asked (by decide) rfl rfl unsortedStow_ratiosOk
  have hafter := unsortedStow_exits
  rw [hexec] at hafter
  have hlists : ([(6, 0x42134001), (1, 1), (7, 0x42134001), (8, 0x42134001), (9, 0x42134001)] : List (Nat × Nat)) =
      [(1, 1), (6, 0x42134001), (7, 0x42134001), (8, 0x42134001), (9, 0x42134001)] :=
    unsortedStow_taken.symm.trans (hsettings.symm.trans hafter)
  exact absurd hlists (by decide)

end

section
/-! Answers and acknowledgements end the requests they belong to (spec/01_architecture.md, Packets). -/

namespace Sys2Proof.Machine

/-- What a requester still waits for and what is on its way to it. -/
def awaited (s : State) : List Outstanding × List Answer := (s.mem.outstanding, s.mem.answers)

theorem awaited_of_mem {s t : State} (h : t.mem = s.mem) : awaited t = awaited s := by rw [awaited, h]; rfl

theorem mem_outstanding_answered (die ep tag : Nat) (write : Bool) (s : State) (x : Outstanding) :
    x ∈ (answered die ep tag write s).mem.outstanding ↔
      x ∈ s.mem.outstanding ∧ ¬isFor die ep tag write x.die x.ep x.tag x.write := by
  simp [answered, isFor, imp_iff_not_or]

theorem mem_answers_answered (die ep tag : Nat) (write : Bool) (s : State) (x : Answer) :
    x ∈ (answered die ep tag write s).mem.answers ↔
      x ∈ s.mem.answers ∧ ¬isFor die ep tag write x.die x.ep x.tag x.write := by
  simp [answered, isFor, imp_iff_not_or]

theorem byteAt_answered (die ep tag : Nat) (write : Bool) (s : State) (a : Nat) :
    byteAt (answered die ep tag write s) a = byteAt s a := byteAt_congr a rfl rfl rfl rfl

/-! ## Poisoned data received (R226) -/

/-- The poison that a shared cache holding the line takes with the response. -/
def sharedPoisoned (die : Nat) (o : Outstanding) (s : State) : State :=
  match computeDie die with
  | some d =>
    if resident s d (o.addr / 256) then
      { s with mem := { s.mem with shPoison := addNum (o.addr / 32 * 16 + d) s.mem.shPoison } }
    else s
  | none => s

theorem sharedPoisoned_ex (die : Nat) (o : Outstanding) (s : State) : (sharedPoisoned die o s).ex = s.ex := by
  unfold sharedPoisoned
  split
  · split <;> rfl
  · rfl

theorem awaited_sharedPoisoned (die : Nat) (o : Outstanding) (s : State) :
    awaited (sharedPoisoned die o s) = awaited s := by
  unfold sharedPoisoned
  split
  · split <;> rfl
  · rfl

theorem byteAt_sharedPoisoned (die : Nat) (o : Outstanding) (s : State) (a : Nat) :
    byteAt (sharedPoisoned die o s) a = byteAt s a := by
  unfold sharedPoisoned
  split
  · split
    · exact byteAt_congr a rfl rfl rfl rfl
    · rfl
  · rfl

theorem poisonRead_mem (a : Nat) (s : State) : (poisonRead a s).mem = s.mem :=
  Keeps.mem (m := 2 ^ 9) ((poisonRead_keeps a s (by decide)).mpr (Keeps.refl _ _)) (by decide)

/-- Before the verdict point, poisoned data of the running step sets its error flag unless one is set. -/
theorem poisonRead_open {a : Nat} {s : State} (hrun : s.ex.step.running = true) (hopen : s.ex.step.phase = .open) :
    (poisonRead a s).ex.step.dataErr = s.ex.step.dataErr.or (some 0x03200005) := by
  unfold poisonRead stepDataError
  dsimp only
  rw [if_neg (by simp [hrun]), if_pos hopen]

/-- What a poisoned response leaves behind the request's end. -/
def poisonTaken (die : Nat) (o : Outstanding) (s : State) : State :=
  if o.step then poisonRead o.addr (sharedPoisoned die o s) else sharedPoisoned die o s

theorem poisonTaken_mem (die : Nat) (o : Outstanding) (s : State) :
    (poisonTaken die o s).mem = (sharedPoisoned die o s).mem := by
  unfold poisonTaken
  split
  · exact poisonRead_mem ..
  · rfl

theorem awaited_poisonTaken (die : Nat) (o : Outstanding) (s : State) : awaited (poisonTaken die o s) = awaited s :=
  (awaited_of_mem (poisonTaken_mem die o s)).trans (awaited_sharedPoisoned die o s)

theorem byteAt_poisonTaken (die : Nat) (o : Outstanding) (s : State) (a : Nat) :
    byteAt (poisonTaken die o s) a = byteAt s a :=
  (byteAt_of_mem a (poisonTaken_mem die o s)).trans (byteAt_sharedPoisoned die o s a)

theorem poisonTaken_stepId (die : Nat) (o : Outstanding) (s : State) : stepId (poisonTaken die o s) = stepId s := by
  have hshared : stepId (sharedPoisoned die o s) = stepId s := by rw [stepId, sharedPoisoned_ex]; rfl
  unfold poisonTaken
  split
  · rw [poisonRead_stepId, hshared]
  · exact hshared

/-- A response that is due ends the read, and leaves its poison where the data is poisoned. -/
theorem exec_memoryReadResponse_due {die ep tag : Nat} {data : Bytes} {poison : Bool} {a : Answer} {o : Outstanding}
    {s : State} (hdue : answerDue s die ep tag false = some a)
    (hout : s.mem.outstanding.find? (fun x => x.die == die && x.ep == ep && x.tag == tag && !x.write) = some o) :
    exec (.memoryReadResponse die ep tag data poison) s = .next (if poison then
      poisonTaken die o (answered die ep tag false (fresh s)) else answered die ep tag false (fresh s)) := by
  have hdue' : answerDue (fresh s) die ep tag false = some a := hdue
  have hout' : (fresh s).mem.outstanding.find? (fun x => x.die == die && x.ep == ep && x.tag == tag && !x.write) =
    some o := hout
  change execMemoryReadResponse die ep tag data poison s = _
  unfold execMemoryReadResponse
  dsimp only
  rw [hdue', hout']
  cases poison <;> rfl

theorem exec_memoryReadResponse_early {die ep tag : Nat} {data : Bytes} {poison : Bool} {s : State}
    (hdue : answerDue s die ep tag false = none) :
    exec (.memoryReadResponse die ep tag data poison) s = .next (fresh s) := by
  have hdue' : answerDue (fresh s) die ep tag false = none := hdue
  change execMemoryReadResponse die ep tag data poison s = _
  unfold execMemoryReadResponse
  dsimp only
  rw [hdue']

theorem answered_frame {ps : List Part} {die ep tag : Nat} {write : Bool} {s : State}
    (hps : partsCovered (2 ^ 20 - 1 - 2 ^ 1 - 2 ^ 9) ps = true) :
    unchangedExcept ps s (answered die ep tag write (fresh s)) := by
  refine unchanged_of_covered (m := 2 ^ 20 - 1 - 2 ^ 1 - 2 ^ 9) ?_ hps
  unfold answered
  exact (keeps_set_mem (u := fresh s) _ (by decide)).mpr (by simp)

theorem memoryReadResponse_ends {die ep tag : Nat} {data : Bytes} {poison : Bool} {a : Answer} {o : Outstanding}
    {s : State} (hdue : answerDue s die ep tag false = some a)
    (hout : s.mem.outstanding.find? (fun x => x.die == die && x.ep == ep && x.tag == tag && !x.write) = some o) :
    ∃ t, exec (.memoryReadResponse die ep tag data poison) s = .next t ∧
      (∀ x, x ∈ t.mem.outstanding ↔ x ∈ s.mem.outstanding ∧ ¬isFor die ep tag false x.die x.ep x.tag x.write) ∧
      (∀ x, x ∈ t.mem.answers ↔ x ∈ s.mem.answers ∧ ¬isFor die ep tag false x.die x.ep x.tag x.write) ∧
      (∀ a, byteAt t a = byteAt s a) ∧ (poison = false → unchangedExcept [.wires, .memory] s t) ∧
      (poison = true → o.step = true → s.ex.step.running = true → s.ex.step.phase = .open →
        t.ex.step.dataErr = s.ex.step.dataErr.or (some 0x03200005)) ∧ stepId t = stepId s ∧
      unchangedExcept [.wires, .registers, .execution, .memory, .ring] s t := by
  have hexec := exec_memoryReadResponse_due (data := data) (poison := poison) hdue hout
  have hframe := exec_unchanged hexec
  generalize hu : answered die ep tag false (fresh s) = u at hexec hframe
  have hex : u.ex = s.ex := by rw [← hu]; rfl
  have hbyte : ∀ a, byteAt u a = byteAt s a := fun x => by
    rw [← hu, byteAt_answered]; exact byteAt_of_mem x rfl
  have hmem : (∀ x, x ∈ u.mem.outstanding ↔
        x ∈ s.mem.outstanding ∧ ¬isFor die ep tag false x.die x.ep x.tag x.write) ∧
      (∀ x, x ∈ u.mem.answers ↔ x ∈ s.mem.answers ∧ ¬isFor die ep tag false x.die x.ep x.tag x.write) := by
    rw [← hu]
    exact ⟨fun x => mem_outstanding_answered die ep tag false (fresh s) x,
      fun x => mem_answers_answered die ep tag false (fresh s) x⟩
  have hid : stepId u = stepId s := by rw [stepId, hex]; rfl
  cases poison with
  | false =>
    exact ⟨u, hexec, hmem.1, hmem.2, hbyte, fun _ => hu ▸ answered_frame rfl, nofun, hid, hframe⟩
  | true =>
    have hawait : awaited (poisonTaken die o u) = awaited u := awaited_poisonTaken die o u
    obtain ⟨hout, hans⟩ := Prod.mk.inj hawait
    refine ⟨poisonTaken die o u, hexec, fun x => by rw [hout]; exact hmem.1 x, fun x => by rw [hans]; exact hmem.2 x,
      fun x => (byteAt_poisonTaken die o u x).trans (hbyte x), nofun, fun _ hstep hrun hopen => ?_,
      (poisonTaken_stepId die o u).trans hid, hframe⟩
    have hsh : (sharedPoisoned die o u).ex = s.ex := (sharedPoisoned_ex die o u).trans hex
    rw [poisonTaken, if_pos hstep, poisonRead_open (by rw [hsh]; exact hrun) (by rw [hsh]; exact hopen), hsh]

/-! ## Acknowledgements (R208) -/

theorem exec_writeAcknowledgement_due {die ep tag addr : Nat} {a : Answer} {s : State}
    (hdue : answerDue s die ep tag true = some a) :
    exec (.writeAcknowledgement die ep tag false addr) s = .next (answered die ep tag true (fresh s)) := by
  have hdue' : answerDue (fresh s) die ep tag true = some a := hdue
  change Host.Outcome.next (if (answerDue (fresh s) die ep tag true).isSome then _ else _) = _
  rw [hdue']
  rfl

theorem exec_writeAcknowledgement_early {die ep tag addr : Nat} {s : State} (hdue : answerDue s die ep tag true = none) :
    exec (.writeAcknowledgement die ep tag false addr) s = .next (fresh s) := by
  have hdue' : answerDue (fresh s) die ep tag true = none := hdue
  change Host.Outcome.next (if (answerDue (fresh s) die ep tag true).isSome then _ else _) = _
  rw [hdue']
  rfl

/-- With the last invalidation acknowledged, the write that caused it is acknowledged. -/
theorem exec_writeAcknowledgement_last {die ep tag addr : Nat} {w : WaitingWrite} {s : State}
    (hwait : s.mem.invWait = [w]) (hline : w.line = addr / 256) (hdies : w.dies = [die - 4]) :
    exec (.writeAcknowledgement die ep tag true addr) s =
      .next (ackWrite { fresh s with mem := { s.mem with invWait := [] } } { w with dies := [] }) := by
  change execWriteAcknowledgement die ep tag true addr s = _
  unfold execWriteAcknowledgement
  simp [fresh_mem, hwait, hline, hdies, dropNum]

theorem ackWrite_leaves (s : State) (w : WaitingWrite) :
    (ackWrite s w).mem.invWait = s.mem.invWait ∧
      (ackWrite s w).sent = (if w.own then s.sent else s.sent ++ [.writeAck w.die w.ep w.tag]) ∧
      ∀ a, byteAt (ackWrite s w) a = byteAt s a := by
  unfold ackWrite
  split
  · exact ⟨rfl, rfl, fun _ => rfl⟩
  · exact ⟨rfl, rfl, fun a => byteAt_congr a rfl rfl rfl rfl⟩

end Sys2Proof.Machine

open Sys2Proof Sys2Proof.Machine

/-- Settles O29: an answer that is due is filtered out with its request; only the poison of the response reaches
further, into the step's error flag. -/
theorem answersEndTheirRequests : Obligations.AnswersEndTheirRequests := by
  unfold Obligations.AnswersEndTheirRequests
  refine ⟨fun die ep tag data poison a o s hdue hout => memoryReadResponse_ends hdue hout,
    fun die ep tag addr a s hdue => ?_, fun die ep tag addr w s hwait hline hdies => ?_,
    fun die ep tag addr data poison s => ⟨exec_memoryReadResponse_early, exec_writeAcknowledgement_early⟩⟩
  · have hexec := exec_writeAcknowledgement_due (addr := addr) hdue
    exact ⟨_, hexec, mem_outstanding_answered die ep tag true (fresh s), mem_answers_answered die ep tag true (fresh s),
      fun a => byteAt_answered die ep tag true (fresh s) a, exec_unchanged hexec⟩
  · have hexec := exec_writeAcknowledgement_last (ep := ep) (tag := tag) hwait hline hdies
    obtain ⟨hinv, hsent, hbyte⟩ := ackWrite_leaves { fresh s with mem := { s.mem with invWait := [] } }
      { w with dies := [] }
    exact ⟨_, hexec, hinv, hsent, fun a => (hbyte a).trans (byteAt_congr a rfl rfl rfl rfl), exec_unchanged hexec⟩

end

section
/-! The stacks between accesses: refresh, temperatures, patrol scrub and training (spec/07_memory.md). -/

namespace Sys2Proof.Machine

/-! ## What entering FAULTED leaves of memory -/

theorem endPending_eq (s : State) : ∃ r, endPending s = { dropHostCopy (pendingFailed s) with res := r } := ⟨_, rfl⟩

/-- Entering FAULTED changes of memory only what dropping a host copy in progress changes. -/
theorem toFaulted_memory {α : Type} (f : Memory → α) (hdrop : ∀ u : State, f (dropHostCopy u).mem = f u.mem)
    (cause kind : Nat) (loc : Bytes) (s : State) : f (toFaulted cause kind loc s).mem = f s.mem := by
  have hkept : ∀ {u v : State}, Keeps 512 u v → f v.mem = f u.mem := fun h => by rw [h.mem (by decide)]
  have hevent : ∀ u : State, Keeps 512 u (faultEvent cause kind loc u) := fun u => by simp
  have haudit : ∀ u : State, Keeps 512 u (audit 0 0x2001 3 7 false (leBytes 4 cause) u) := fun u => by simp
  have hfail : ∀ u : State, Keeps 512 u (pendingFailed u) := fun u => by
    unfold pendingFailed
    dsimp only
    split <;> simp
  have hend : ∀ u : State, f (endPending u).mem = f u.mem := fun u => by
    obtain ⟨r, hr⟩ := endPending_eq u
    have hres : ∀ v : State, ({ v with res := r } : State).mem = v.mem := fun _ => rfl
    rw [hr, hres, hdrop, hkept (hfail u)]
  have hcause : ∀ u : State, (withRg 0x2001 3 cause
      { u with dev := .faulted, ex := { u.ex with holdPending := false } }).mem = u.mem := fun _ => rfl
  have htests : ∀ u : State, (abandonTests u).mem = u.mem := fun u =>
    (show Keeps 512 u (abandonTests u) by simp).mem (by decide)
  have hclose : (if s.dev = .joined then closeTestPort s else s).mem = s.mem := by
    split
    · exact (show Keeps 512 s (closeTestPort s) by simp).mem (by decide)
    · rfl
  have hentered : (faultEntered cause s).mem = s.mem := by
    unfold faultEntered
    dsimp only
    rw [hcause, htests, hclose]
  by_cases h : s.dev = .faulted
  · rw [toFaulted_again h, hkept (hevent s)]
  · rw [toFaulted_enters h, hkept (hevent _), hkept (haudit _), hend, hentered]

theorem toFaulted_trained (cause kind : Nat) (loc : Bytes) (s : State) :
    (toFaulted cause kind loc s).mem.trained = s.mem.trained :=
  toFaulted_memory Memory.trained (fun u => by unfold dropHostCopy; split <;> rfl) cause kind loc s

end Sys2Proof.Machine

end

section
/-! The stacks between accesses: refresh, temperatures, patrol scrub and training (spec/07_memory.md). -/

namespace Sys2Proof.Machine

/-! ## Refresh and readout (R202, R224) -/

theorem byteAt_withStack (k : Nat) (x : Stack) (s : State) (a : Nat) : byteAt (withStack k x s) a = byteAt s a :=
  byteAt_congr a rfl rfl rfl rfl

theorem exec_hbmRefresh_taken {stack bank : Nat} {s : State} (hk : stack < 20) (hpow : s.pwr.cur ≠ .stow)
    (hst : (stackOf s stack).state ≠ 4) (hclock : s.ring.clock = true) :
    exec (.hbmRefresh stack bank) s = .next (withStack stack
      { stackOf s stack with lastRefresh := s.pwr.time, nextBank := (bank + 1) % 32 } (fresh s)) :=
  congrArg Host.Outcome.next (if_neg (by
    change ¬(20 ≤ stack ∨ s.pwr.cur = .stow ∨ (stackOf s stack).state = 4 ∨ (!s.ring.clock) = true)
    simp [hpow, hst, hclock, hk]))

/-- A stack with a temperature read, and the refresh multiplier that follows it. -/
def warmed (x : Stack) (temp : Nat) : Stack := { x with temp := temp, mult := refreshMult x.mult temp }

theorem readStack_mem (k temp : Nat) (s : State) :
    (readStack k temp s).mem = (withStack k (warmed (stackOf s k) temp) s).mem := by
  have hraise : ∀ (p : Bytes) (u : State), (raise 1 0x0012 p u).mem = u.mem := fun p u =>
    (show Keeps 512 u (raise 1 0x0012 p u) by simp).mem (by decide)
  unfold readStack
  dsimp only
  split
  · exact hraise ..
  · rfl

theorem stackOf_of_mem {s t : State} (h : t.mem = s.mem) (k : Nat) : stackOf t k = stackOf s k := by
  rw [stackOf, h]; rfl

theorem stackOf_readStack (k temp : Nat) (s : State) : stackOf (readStack k temp s) k = warmed (stackOf s k) temp := by
  rw [stackOf_of_mem (readStack_mem k temp s), stackOf_withStack_same]

theorem stackOf_readStack_other {n k : Nat} (temp : Nat) (s : State) (h : k ≠ n) :
    stackOf (readStack n temp s) k = stackOf s k := by
  rw [stackOf_of_mem (readStack_mem n temp s), stackOf_withStack_other _ s h]

theorem byteAt_readStack (k temp : Nat) (s : State) (a : Nat) : byteAt (readStack k temp s) a = byteAt s a := by
  rw [byteAt_of_mem a (readStack_mem k temp s), byteAt_withStack]

/-- The readouts of the stacks from one on, in order. -/
def readStacks (temps : List Nat) (n : Nat) (s : State) : State :=
  (temps.zipIdx n).foldl (fun s p => readStack p.2 p.1 s) s

theorem readStacks_cons (temp : Nat) (temps : List Nat) (n : Nat) (s : State) :
    readStacks (temp :: temps) n s = readStacks temps (n + 1) (readStack n temp s) := rfl

theorem stackOf_readStacks_below {temps : List Nat} {n k : Nat} (s : State) (h : k < n) :
    stackOf (readStacks temps n s) k = stackOf s k := by
  induction temps generalizing n s with
  | nil => rfl
  | cons temp temps ih =>
    rw [readStacks_cons, ih _ (Nat.lt_succ_of_lt h), stackOf_readStack_other _ _ (Nat.ne_of_lt h)]

theorem stackOf_readStacks {temps : List Nat} {n i : Nat} (s : State) (h : i < temps.length) :
    stackOf (readStacks temps n s) (n + i) = warmed (stackOf s (n + i)) temps[i] := by
  induction temps generalizing n i s with
  | nil => cases h
  | cons temp temps ih =>
    rw [readStacks_cons]
    cases i with
    | zero => exact (stackOf_readStacks_below _ (Nat.lt_succ_self n)).trans (stackOf_readStack n temp s)
    | succ i =>
      have hi : i < temps.length := Nat.lt_of_succ_lt_succ h
      have hread := ih (n := n + 1) (i := i) (readStack n temp s) hi
      rw [show n + 1 + i = n + (i + 1) by omega] at hread
      rw [hread, stackOf_readStack_other _ _ (by omega), List.getElem_cons_succ]

theorem byteAt_readStacks (temps : List Nat) (n : Nat) (s : State) (a : Nat) :
    byteAt (readStacks temps n s) a = byteAt s a := by
  induction temps generalizing n s with
  | nil => rfl
  | cons temp temps ih => rw [readStacks_cons, ih, byteAt_readStack]

theorem exec_hbmTemperatureReadout_taken {temps : List Nat} {s : State} (hlen : temps.length = 20)
    (hpow : s.pwr.cur ≠ .stow) :
    exec (.hbmTemperatureReadout temps) s = .next (readStacks temps 0 (fresh s)) := by
  refine (congrArg Host.Outcome.next (if_neg (c := (fresh s).pwr.cur = .stow) hpow)).trans ?_
  rw [List.take_of_length_le (by simp [hlen])]
  rfl

/-- What a command leaves of the register file, when it changes no object but those that events count in. -/
theorem regsExcept_of_exec {c : Instr} {l : List Nat} {s t : State} (h : exec c s = .next t)
    (hobj : c.objects = some l) (hl : ∀ i ∈ l, i = 0xF000 ∨ i = 0x1300 ∨ i = 0x6C01) : regsExcept [] s t := by
  intro i j _ _ hlog hev hfab
  refine exec_objects hobj h j fun hi => ?_
  rcases hl i hi with rfl | rfl | rfl <;> contradiction

end Sys2Proof.Machine

end

section
/-! Patrol scrub (spec/07_memory.md, Error protection). -/

namespace Sys2Proof.Machine

/-- The objects that a scrub's findings and its reads count in. -/
def scrubCounts : List (Nat × Nat) :=
  [(0x4030, 2), (0x4020, 1), (0x4020, 2), (0x4021, 1), (0x4021, 2), (0x4021, 3), (0x4021, 4)]

/-! ## One finding -/

/-- The sector of a finding poisoned. -/
def scrubPoisoned (f : ScrubFinding) (s : State) : State :=
  { s with mem := { s.mem with poison := addNum (f.stack * 2 ^ 32 + f.sector) s.mem.poison } }

theorem scrubOne_uncorrectable {f : ScrubFinding} (s : State) (h : f.uncorrectable = true) :
    scrubOne s f = faultEvent 0x03200005 3 (scrubLoc f) (bump 0x4020 2 1 (scrubPoisoned f s)) := if_pos h

theorem scrubOne_corrected {f : ScrubFinding} (s : State) (h : f.uncorrectable = false) :
    scrubOne s f = bump 0x4020 1 1 s := if_neg (by simp [h])

theorem faultEvent_mem (cause kind : Nat) (loc : Bytes) (s : State) : (faultEvent cause kind loc s).mem = s.mem :=
  (show Keeps 512 s (faultEvent cause kind loc s) by simp).mem (by decide)

theorem scrubOne_mem (s : State) (f : ScrubFinding) : (scrubOne s f).mem = { s.mem with
    poison := if f.uncorrectable then addNum (f.stack * 2 ^ 32 + f.sector) s.mem.poison else s.mem.poison } := by
  cases h : f.uncorrectable with
  | true => rw [scrubOne_uncorrectable s h, faultEvent_mem]; rfl
  | false => rw [scrubOne_corrected s h]; rfl

theorem regsExcept_scrubOne (s : State) (f : ScrubFinding) : regsExcept scrubCounts s (scrubOne s f) := by
  cases h : f.uncorrectable with
  | true =>
    rw [scrubOne_uncorrectable s h]
    exact regsExcept_trans (regsExcept_trans (regsExcept_of_regs rfl)
      (regsExcept_bump (i := 0x4020) (j := 2) 1 (scrubPoisoned f s) (by decide) (by decide)))
      (regsExcept_raise 3 0x0001 (faultPayload 0x03200005 3 (scrubLoc f)) _)
  | false =>
    rw [scrubOne_corrected s h]
    exact regsExcept_bump _ _ (by decide) (by decide)

theorem not_counted_scrub : ¬counted 0x4020 ∧ ¬counted 0x4030 := by
  constructor <;> (unfold counted; decide)

theorem rg_scrubOne_uncorrectable {f : ScrubFinding} (s : State) (h : f.uncorrectable = true) {i j : Nat}
    (hj : j < 256) (hi : ¬counted i) : rg (scrubOne s f) i j = rg (bump 0x4020 2 1 s) i j := by
  rw [scrubOne_uncorrectable s h, rg_faultEvent _ hj hi]
  rfl

theorem rg_scrubOne_pass (s : State) (f : ScrubFinding) : rg (scrubOne s f) 0x4030 2 = rg s 0x4030 2 := by
  cases h : f.uncorrectable with
  | true =>
    rw [rg_scrubOne_uncorrectable s h (by decide) not_counted_scrub.2]
    exact rg_bump_other _ (by decide) (by decide) (by decide)
  | false =>
    rw [scrubOne_corrected s h]
    exact rg_bump_other _ (by decide) (by decide) (by decide)

theorem rg_scrubOne_corrected (s : State) (f : ScrubFinding) :
    rg (scrubOne s f) 0x4020 1 =
      if f.uncorrectable then rg s 0x4020 1 else satAdd (sizeOf_ 0x4020 1) (rg s 0x4020 1) 1 := by
  cases h : f.uncorrectable with
  | true =>
    rw [rg_scrubOne_uncorrectable s h (by decide) not_counted_scrub.1]
    exact rg_withRg_sub _ (by decide) (by decide) (by decide)
  | false =>
    rw [scrubOne_corrected s h]
    exact rg_withRg_same ..

theorem rg_scrubOne_lost (s : State) (f : ScrubFinding) :
    rg (scrubOne s f) 0x4020 2 =
      if f.uncorrectable then satAdd (sizeOf_ 0x4020 2) (rg s 0x4020 2) 1 else rg s 0x4020 2 := by
  cases h : f.uncorrectable with
  | true =>
    rw [rg_scrubOne_uncorrectable s h (by decide) not_counted_scrub.1]
    exact rg_withRg_same ..
  | false =>
    rw [scrubOne_corrected s h]
    exact rg_withRg_sub _ (by decide) (by decide) (by decide)

/-! ## All findings -/

theorem satAdd_one {bytes v : Nat} (h : v + 1 < 2 ^ (8 * bytes)) : satAdd bytes v 1 = v + 1 := by
  unfold satAdd
  omega

theorem sizeOf_scrub : sizeOf_ 0x4020 1 = 8 ∧ sizeOf_ 0x4020 2 = 4 := by decide +kernel

theorem regsExcept_scrubs (found : List ScrubFinding) (s : State) :
    regsExcept scrubCounts s (found.foldl scrubOne s) := by
  induction found generalizing s with
  | nil => exact regsExcept_refl _ _
  | cons f found ih => exact regsExcept_trans (regsExcept_scrubOne s f) (ih _)

theorem rg_scrubs_pass (found : List ScrubFinding) (s : State) :
    rg (found.foldl scrubOne s) 0x4030 2 = rg s 0x4030 2 := by
  induction found generalizing s with
  | nil => rfl
  | cons f found ih => rw [List.foldl_cons, ih, rg_scrubOne_pass]

theorem rg_scrubs_corrected {found : List ScrubFinding} {s : State} (h : rg s 0x4020 1 + found.length < 2 ^ 64) :
    rg (found.foldl scrubOne s) 0x4020 1 = rg s 0x4020 1 + (found.filter fun f => !f.uncorrectable).length := by
  induction found generalizing s with
  | nil => rfl
  | cons f found ih =>
    have hone := rg_scrubOne_corrected s f
    rw [List.length_cons] at h
    cases hu : f.uncorrectable with
    | true =>
      rw [hu, if_pos rfl] at hone
      rw [List.foldl_cons, ih (by omega), hone, List.filter_cons_of_neg (by simp [hu])]
    | false =>
      rw [hu, if_neg (by decide), sizeOf_scrub.1, satAdd_one (by omega)] at hone
      rw [List.foldl_cons, ih (by omega), hone, List.filter_cons_of_pos (by simp [hu]), List.length_cons]
      omega

theorem rg_scrubs_lost {found : List ScrubFinding} {s : State} (h : rg s 0x4020 2 + found.length < 2 ^ 32) :
    rg (found.foldl scrubOne s) 0x4020 2 = rg s 0x4020 2 + (found.filter fun f => f.uncorrectable).length := by
  induction found generalizing s with
  | nil => rfl
  | cons f found ih =>
    have hone := rg_scrubOne_lost s f
    rw [List.length_cons] at h
    cases hu : f.uncorrectable with
    | true =>
      rw [hu, if_pos rfl, sizeOf_scrub.2, satAdd_one (by omega)] at hone
      rw [List.foldl_cons, ih (by omega), hone, List.filter_cons_of_pos (by simp [hu]), List.length_cons]
      omega
    | false =>
      rw [hu, if_neg (by decide)] at hone
      rw [List.foldl_cons, ih (by omega), hone, List.filter_cons_of_neg (by simp [hu])]

theorem mem_addNum_iff {k n : Nat} {l : List Nat} : n ∈ addNum k l ↔ n ∈ l ∨ n = k := by
  unfold addNum
  split
  · next hk => exact ⟨.inl, fun h => h.elim id fun hn => hn ▸ hk⟩
  · simp

theorem poison_scrubs (found : List ScrubFinding) (s : State) (k : Nat) :
    k ∈ (found.foldl scrubOne s).mem.poison ↔
      k ∈ s.mem.poison ∨ ∃ f ∈ found, f.uncorrectable = true ∧ k = f.stack * 2 ^ 32 + f.sector := by
  induction found generalizing s with
  | nil => simp
  | cons f found ih =>
    rw [List.foldl_cons, ih, scrubOne_mem]
    cases hu : f.uncorrectable with
    | true => simp only [hu, if_true, mem_addNum_iff, List.mem_cons, exists_eq_or_imp, true_and, or_assoc]
    | false => simp [hu]

theorem byteAt_scrubs (found : List ScrubFinding) (s : State) (a : Nat) :
    byteAt (found.foldl scrubOne s) a = byteAt s a := by
  induction found generalizing s with
  | nil => rfl
  | cons f found ih =>
    rw [List.foldl_cons, ih]
    exact byteAt_congr a (by rw [scrubOne_mem]; rfl) (by rw [scrubOne_mem]; rfl) (by rw [scrubOne_mem])
      (by rw [scrubOne_mem])

/-! ## The pass (R217, R227) -/

theorem regCharge_poison (q p n : Nat) (s : State) : (regCharge q p n s).mem.poison = s.mem.poison := by
  unfold regCharge
  dsimp only
  split <;> rfl

theorem regsExcept_regCharge {q : Nat} (p n : Nat) (s : State) (hq : q < 4) :
    regsExcept scrubCounts s (regCharge q p n s) := by
  have hbump : regsExcept scrubCounts s (bump 0x4021 (q + 1) (32 * ceilDiv n 32) s) :=
    regsExcept_bump _ _ (by omega) (by
      simp only [scrubCounts, List.mem_cons, Prod.mk.injEq, true_and]
      omega)
  unfold regCharge
  dsimp only
  split
  · exact hbump
  · exact regsExcept_trans hbump (regsExcept_of_regs rfl)

theorem chargeQuadrants_leaves (n : Nat) {l : List Nat} (s : State) (hl : ∀ q ∈ l, q < 4) :
    (l.foldl (fun s q => regCharge q 15 n s) s).mem.poison = s.mem.poison ∧
      regsExcept scrubCounts s (l.foldl (fun s q => regCharge q 15 n s) s) ∧
      ∀ a, byteAt (l.foldl (fun s q => regCharge q 15 n s) s) a = byteAt s a := by
  induction l generalizing s with
  | nil => exact ⟨rfl, regsExcept_refl _ _, fun _ => rfl⟩
  | cons q l ih =>
    obtain ⟨hpoison, hregs, hbyte⟩ := ih (regCharge q 15 n s) fun x hx => hl x (List.mem_cons_of_mem _ hx)
    exact ⟨hpoison.trans (regCharge_poison ..),
      regsExcept_trans (regsExcept_regCharge _ _ _ (hl q List.mem_cons_self)) hregs,
      fun a => (hbyte a).trans (byteAt_regCharge ..)⟩

/-- The findings and the reads of a pass counted. -/
def passCounted (found : List ScrubFinding) (s : State) : State :=
  chargeScrub (bump 0x4030 2 1 (found.foldl scrubOne s))

/-- The end of a pass, the next one counted from it. -/
def passEnded (s : State) : State := { s with mem := { s.mem with scrubbed := s.pwr.time } }

theorem exec_patrolScrub_due {found : List ScrubFinding} {s : State} (htrained : s.mem.trained = true)
    (hdue : s.mem.scrubbed + scrubInterval s ≤ s.pwr.time) :
    exec (.patrolScrub found) s = .next (passEnded (passCounted found (fresh s))) := by
  have hgo : (fresh s).mem.trained = true ∧ (fresh s).mem.scrubbed + scrubInterval (fresh s) ≤ (fresh s).pwr.time :=
    ⟨htrained, hdue⟩
  change execPatrolScrub found s = _
  unfold execPatrolScrub passEnded passCounted
  dsimp only
  rw [if_pos hgo]

theorem passCounted_time (found : List ScrubFinding) (s : State) : (passCounted found s).pwr.time = s.pwr.time := by
  have hfold : ∀ u : State, Keeps 262144 u (found.foldl scrubOne u) := fun u => by
    induction found generalizing u with
    | nil => exact Keeps.refl _ _
    | cons f found ih => exact Keeps.trans (t := scrubOne u f) (by simp) (ih _)
  have hcharge : ∀ u : State, Keeps 262144 u (chargeScrub (bump 0x4030 2 1 u)) := fun u => by simp
  exact congrArg PowerClock.time (((hfold s).trans (hcharge _)).pwr (by decide))

theorem chargeScrub_leaves (s : State) :
    (chargeScrub s).mem.poison = s.mem.poison ∧ regsExcept scrubCounts s (chargeScrub s) ∧
      ∀ a, byteAt (chargeScrub s) a = byteAt s a := by
  unfold chargeScrub
  exact chargeQuadrants_leaves quadrantBytes (l := List.range 4) s fun _ hq => List.mem_range.mp hq

theorem rg_passCounted {found : List ScrubFinding} {s : State} :
    rg (passCounted found s) 0x4030 2 = satAdd (sizeOf_ 0x4030 2) (rg s 0x4030 2) 1 ∧
      rg (passCounted found s) 0x4020 1 = rg (found.foldl scrubOne s) 0x4020 1 ∧
      rg (passCounted found s) 0x4020 2 = rg (found.foldl scrubOne s) 0x4020 2 := by
  have hcharge : ∀ u : State, RgK (18446744073707454463) u (chargeScrub u) := fun u => by simp
  have hpass := rg_scrubs_pass found s
  unfold passCounted
  generalize found.foldl scrubOne s = u at *
  refine ⟨?_, ?_, ?_⟩
  · rw [hcharge _ 0x4030 2 (by decide), ← hpass]
    exact rg_withRg_same ..
  · rw [hcharge _ 0x4020 1 (by decide), rg_bump_other u (by decide) (by decide) (by decide)]
  · rw [hcharge _ 0x4020 2 (by decide), rg_bump_other u (by decide) (by decide) (by decide)]

theorem passCounted_leaves (found : List ScrubFinding) (s : State) :
    (passCounted found s).mem.poison = (found.foldl scrubOne s).mem.poison ∧
      regsExcept scrubCounts s (passCounted found s) ∧ ∀ a, byteAt (passCounted found s) a = byteAt s a := by
  have hregs := regsExcept_scrubs found s
  have hbyte := byteAt_scrubs found s
  unfold passCounted
  generalize found.foldl scrubOne s = u at *
  obtain ⟨hcp, hcr, hcb⟩ := chargeScrub_leaves (bump 0x4030 2 1 u)
  have hbump : regsExcept scrubCounts u (bump 0x4030 2 1 u) := regsExcept_bump _ _ (by decide) (by decide)
  have hmem : (bump 0x4030 2 1 u).mem = u.mem := (show Keeps 512 u (bump 0x4030 2 1 u) by simp).mem (by decide)
  exact ⟨by rw [hcp, hmem], regsExcept_trans hregs (regsExcept_trans hbump hcr),
    fun a => (hcb a).trans ((byteAt_of_mem a hmem).trans (hbyte a))⟩

theorem passEnded_leaves (s : State) :
    (passEnded s).mem.scrubbed = s.pwr.time ∧ (passEnded s).mem.poison = s.mem.poison ∧
      (passEnded s).regs = s.regs ∧ ∀ a, byteAt (passEnded s) a = byteAt s a :=
  ⟨rfl, rfl, rfl, fun a => byteAt_congr a rfl rfl rfl rfl⟩

theorem patrolScrub_counts {found : List ScrubFinding} {s : State} (htrained : s.mem.trained = true)
    (hdue : s.mem.scrubbed + scrubInterval s ≤ s.pwr.time) (hc : rg s 0x4020 1 + found.length < 2 ^ 64)
    (hl : rg s 0x4020 2 + found.length < 2 ^ 32) :
    ∃ t, exec (.patrolScrub found) s = .next t ∧ t.mem.scrubbed = s.pwr.time ∧
      rg t 0x4030 2 = satAdd (sizeOf_ 0x4030 2) (rg s 0x4030 2) 1 ∧
      rg t 0x4020 1 = rg s 0x4020 1 + (found.filter (fun f => !f.uncorrectable)).length ∧
      rg t 0x4020 2 = rg s 0x4020 2 + (found.filter (fun f => f.uncorrectable)).length ∧
      (∀ k, k ∈ t.mem.poison ↔ k ∈ s.mem.poison ∨ ∃ f ∈ found, f.uncorrectable = true ∧ k = f.stack * 2 ^ 32 + f.sector) ∧
      (∀ a, byteAt t a = byteAt s a) ∧ regsExcept scrubCounts s t ∧
      unchangedExcept [.wires, .registers, .memory, .ring] s t := by
  have hexec := exec_patrolScrub_due (found := found) htrained hdue
  obtain ⟨hpass, hcorr, hlost⟩ := rg_passCounted (found := found) (s := fresh s)
  obtain ⟨hpoison, hregs, hbyte⟩ := passCounted_leaves found (fresh s)
  obtain ⟨htime, hpoisonEnd, hregsEnd, hbyteEnd⟩ := passEnded_leaves (passCounted found (fresh s))
  refine ⟨_, hexec, ?_, ?_, ?_, ?_, fun k => ?_, fun a => ?_, ?_, exec_unchanged hexec⟩
  · rw [htime, passCounted_time, fresh_pwr]
  · rw [rg_of_regs hregsEnd, hpass, rg_fresh]
  · rw [rg_of_regs hregsEnd, hcorr, rg_scrubs_corrected (by rw [rg_fresh]; exact hc), rg_fresh]
  · rw [rg_of_regs hregsEnd, hlost, rg_scrubs_lost (by rw [rg_fresh]; exact hl), rg_fresh]
  · rw [hpoisonEnd, hpoison, poison_scrubs, fresh_mem]
  · rw [hbyteEnd, hbyte, byteAt_of_mem a (fresh_mem s)]
  · exact regsExcept_trans (regsExcept_of_regs (fresh_regs s)) (regsExcept_trans hregs (regsExcept_of_regs hregsEnd))

end Sys2Proof.Machine

end

section
/-! The training of the stacks (spec/07_memory.md, Training and spare lanes). -/

namespace Sys2Proof.Machine

/-- A stack after its training: failed where it was, or where its PHY's clock is not the one it trains at. -/
def trainedStack (s : State) (k : Nat) : Stack :=
  if (stackOf s k).state = 5 ∨ !hbmPllGood s (k / 5) then { stackOf s k with state := 5 }
  else { stackOf s k with state := 2, lastRefresh := s.pwr.time }

/-- One stack trained. -/
def trainOne (s : State) (k : Nat) : State := withStack k (trainedStack s k) s

theorem trainStacks_eq (fs : List LaneFailure) (s : State) :
    trainStacks fs s = (List.range 20).foldl trainOne (fs.foldl (fun s f => repairGroup f s) s) := by
  have hstep : (fun (s : State) (k : Nat) =>
      let x := stackOf s k
      if x.state = 5 ∨ !hbmPllGood s (k / 5) then withStack k { x with state := 5 } s
      else withStack k { x with state := 2, lastRefresh := s.pwr.time } s) = trainOne := by
    funext u k
    unfold trainOne trainedStack
    dsimp only
    split <;> rfl
  unfold trainStacks
  rw [hstep]

/-- Training changes the stacks alone. -/
theorem trainAll_eq (l : List Nat) (s : State) :
    ∃ st, l.foldl trainOne s = { s with mem := { s.mem with stackSt := st } } := by
  induction l generalizing s with
  | nil => exact ⟨s.mem.stackSt, rfl⟩
  | cons k l ih =>
    obtain ⟨st, hst⟩ := ih (trainOne s k)
    exact ⟨st, hst⟩

theorem stackOf_trainAll_other {l : List Nat} {k : Nat} (s : State) (h : k ∉ l) :
    stackOf (l.foldl trainOne s) k = stackOf s k := by
  induction l generalizing s with
  | nil => rfl
  | cons j l ih =>
    obtain ⟨hj, hl⟩ := not_or.mp (mt List.mem_cons.mpr h)
    rw [List.foldl_cons, ih _ hl]
    exact stackOf_withStack_other _ s hj

theorem stackOf_trainAll {l : List Nat} {k : Nat} (s : State) (hl : l.Nodup) (h : k ∈ l) :
    stackOf (l.foldl trainOne s) k = trainedStack s k := by
  induction l generalizing s with
  | nil => cases h
  | cons j l ih =>
    obtain ⟨hj, hnd⟩ := List.nodup_cons.mp hl
    rw [List.foldl_cons]
    by_cases hk : k = j
    · subst hk
      rw [stackOf_trainAll_other _ hj]
      exact stackOf_withStack_same ..
    · rw [ih _ hnd ((List.mem_cons.mp h).resolve_left hk)]
      have hother : stackOf (trainOne s j) k = stackOf s k := stackOf_withStack_other _ s hk
      unfold trainedStack
      rw [hother]
      rfl

/-- A stack that has not failed, on the right clock, is ready after its training. -/
theorem trainedStack_ready {s : State} {k : Nat} (hk : k < 20) (hok : (stackOf s k).state ≠ 5)
    (hpll : ∀ q, q < 4 → hbmPllGood s q = true) :
    trainedStack s k = { stackOf s k with state := 2, lastRefresh := s.pwr.time } :=
  if_neg (by simp [hok, hpll (k / 5) (by omega)])

theorem exec_hbmTrainingComplete_done {fs : List LaneFailure} {s : State}
    (hsome : (List.range 20).any (fun k => (stackOf s k).state == 1) = true)
    (hlinks : s.links.any (fun l => l.2.state == 1) = false) :
    exec (.hbmTrainingComplete fs) s = .next (trainingDone (trainStacks fs (fresh s))) := by
  have hgo : ¬(¬(List.range 20).any (fun k => (stackOf (fresh s) k).state == 1) ∨
      (fresh s).links.any (fun l => l.2.state == 1)) := by
    change ¬(¬(List.range 20).any (fun k => (stackOf s k).state == 1) ∨ s.links.any (fun l => l.2.state == 1))
    rw [hsome, hlinks]
    decide
  change execHbmTrainingComplete fs s = _
  unfold execHbmTrainingComplete
  dsimp only
  rw [if_neg hgo]

theorem trainingDone_ready {s : State} (h : ∀ k, k < 20 → (stackOf s k).state ≠ 5) :
    trainingDone s = withRg 0x4000 4 1 { s with mem := { s.mem with trained := true } } := by
  have hnone : (List.range 20).filter (fun k => (stackOf s k).state == 5) = [] :=
    List.filter_eq_nil_iff.mpr fun k hk => by simpa using h k (List.mem_range.mp hk)
  unfold trainingDone
  rw [hnone]

/-- The move to Run ends with the power state last reached. -/
def moveEnded (s : State) : State := { s with pwr := { s.pwr with moving := false } }

theorem trainingDone_failed {s : State} {n : Nat}
    (h : (List.range 20).filter (fun k => (stackOf s k).state == 5) = [n]) :
    trainingDone s = moveEnded (failStack n s) := by
  unfold trainingDone
  rw [h]
  rfl

theorem filter_range_single {p : Nat → Bool} {n m : Nat} (hn : n < m) (hp : p n = true)
    (hother : ∀ k, k < m → k ≠ n → p k = false) : (List.range m).filter p = [n] := by
  have hpn : ∀ k, k ∈ List.range m → p k = (k == n) := fun k hk => by
    by_cases h : k = n
    · rw [h, hp]; simp
    · rw [hother k (List.mem_range.mp hk) h]; simp [h]
  rw [List.filter_congr hpn, List.filter_beq, List.count_eq_one_of_mem List.nodup_range (List.mem_range.mpr hn)]
  rfl

/-- With every stack sound, all are ready and memory is trained (R223). -/
theorem hbmTrainingComplete_ready {s : State}
    (hsome : (List.range 20).any (fun k => (stackOf s k).state == 1) = true)
    (hlinks : s.links.any (fun l => l.2.state == 1) = false) (hok : ∀ k, k < 20 → (stackOf s k).state ≠ 5)
    (hpll : ∀ q, q < 4 → hbmPllGood s q = true) :
    ∃ t, exec (.hbmTrainingComplete []) s = .next t ∧ t.mem.trained = true ∧ rg t 0x4000 4 = 1 ∧
      (∀ k, k < 20 → stackOf t k = { stackOf s k with state := 2, lastRefresh := s.pwr.time }) ∧
      (∀ a, byteAt t a = byteAt s a) ∧ regsExcept [(0x4000, 4)] s t ∧
      unchangedExcept [.wires, .registers, .memory] s t := by
  have hstack : ∀ k, k < 20 → stackOf (trainStacks [] (fresh s)) k =
      { stackOf s k with state := 2, lastRefresh := s.pwr.time } := fun k hk => by
    rw [trainStacks_eq]
    exact (stackOf_trainAll (fresh s) List.nodup_range (List.mem_range.mpr hk)).trans
      (trainedStack_ready (s := fresh s) hk (hok k hk) hpll)
  have hexec := exec_hbmTrainingComplete_done (fs := []) hsome hlinks
  rw [trainingDone_ready fun k hk => by rw [hstack k hk]; exact (by decide : (2 : Nat) ≠ 5)] at hexec
  obtain ⟨st, hst⟩ := trainAll_eq (List.range 20) (fresh s)
  rw [trainStacks_eq, List.foldl_nil, hst] at hexec
  rw [trainStacks_eq, List.foldl_nil, hst] at hstack
  refine ⟨_, hexec, rfl, rg_withRg_same .., hstack, fun a => byteAt_congr a rfl rfl rfl rfl, ?_, ?_⟩
  · exact regsExcept_trans (t := { fresh s with mem := { s.mem with stackSt := st, trained := true } })
      (regsExcept_of_regs rfl) (regsExcept_withRg _ _ (by decide) (by decide))
  · refine unchanged_of_covered (m := 1048045) ?_ rfl
    exact (withRg_keeps _ _ _ _ (by decide)).mpr ((keeps_set_mem (u := fresh s) _ (by decide)).mpr (by simp))

/-! ## A lane group beyond repair (R222, R223) -/

/-- A stack marked as failed. -/
def markFailed (k : Nat) (s : State) : State := withStack k { stackOf s k with state := 5 } s

theorem repairGroup_beyond {f : LaneFailure} (s : State) (h : 2 ≤ f.lanes) :
    repairGroup f s = markFailed f.stack s := by
  unfold repairGroup
  dsimp only
  rw [if_neg (by omega), if_neg (by omega)]
  rfl

theorem markFailed_stack (k : Nat) (s : State) : (stackOf (markFailed k s) k).state = 5 := by
  unfold markFailed
  rw [stackOf_withStack_same]

/-- The stacks after a training in which one of them has failed. -/
theorem trainStacks_beyond {f : LaneFailure} {s : State} (hf : f.stack < 20) (hlanes : 2 ≤ f.lanes)
    (hok : ∀ k, k < 20 → (stackOf s k).state ≠ 5) (hpll : ∀ q, q < 4 → hbmPllGood s q = true) :
    (stackOf (trainStacks [f] s) f.stack).state = 5 ∧
      (∀ k, k < 20 → k ≠ f.stack → (stackOf (trainStacks [f] s) k).state = 2) ∧
      ∃ st, trainStacks [f] s = { s with mem := { s.mem with stackSt := st } } := by
  have hfold : trainStacks [f] s = (List.range 20).foldl trainOne (markFailed f.stack s) := by
    rw [trainStacks_eq, ← repairGroup_beyond s hlanes]
    rfl
  rw [hfold]
  refine ⟨?_, fun k hk hne => ?_, ?_⟩
  · rw [stackOf_trainAll _ List.nodup_range (List.mem_range.mpr hf), trainedStack, if_pos (.inl (markFailed_stack ..))]
  · have hother : stackOf (markFailed f.stack s) k = stackOf s k := stackOf_withStack_other _ s hne
    rw [stackOf_trainAll _ List.nodup_range (List.mem_range.mpr hk),
      trainedStack_ready (s := markFailed f.stack s) hk (by rw [hother]; exact hok k hk) hpll]
  · obtain ⟨st, hst⟩ := trainAll_eq (List.range 20) (markFailed f.stack s)
    exact ⟨st, hst⟩

/-- What the failure of a stack at the end of its training leaves. -/
theorem failStack_ends {n : Nat} {s : State} (hdev : s.dev ≠ .faulted) :
    (stackOf (moveEnded (failStack n s)) n).state = 5 ∧ (moveEnded (failStack n s)).dev = .faulted ∧
      rg (moveEnded (failStack n s)) 0x2001 3 = 0x03200003 ∧ (moveEnded (failStack n s)).pwr.moving = false ∧
      (moveEnded (failStack n s)).mem.trained = s.mem.trained ∧
      ∀ k, k ≠ n → stackOf (moveEnded (failStack n s)) k = stackOf s k := by
  have hmove : ∀ u : State, (moveEnded u).dev = u.dev ∧ (moveEnded u).regs = u.regs ∧ (moveEnded u).mem = u.mem ∧
      (moveEnded u).pwr.moving = false := fun _ => ⟨rfl, rfl, rfl, rfl⟩
  have htrained : (failStack n s).mem.trained = s.mem.trained := toFaulted_trained ..
  have hcause : rg (failStack n s) 0x2001 3 = 0x03200003 := rg_toFaulted_cause hdev
  obtain ⟨hdev', hregs, hmem, hmoving⟩ := hmove (failStack n s)
  obtain ⟨hstate, hfaulted⟩ := failStack_failed n s
  exact ⟨by rw [stackOf_of_mem hmem, hstate], by rw [hdev', hfaulted], by rw [rg_of_regs hregs, hcause], hmoving,
    by rw [hmem, htrained], fun k hk => by rw [stackOf_of_mem hmem, stackOf_failStack_other s hk]⟩

theorem hbmTrainingComplete_beyond {f : LaneFailure} {s : State}
    (hsome : (List.range 20).any (fun k => (stackOf s k).state == 1) = true)
    (hlinks : s.links.any (fun l => l.2.state == 1) = false) (hok : ∀ k, k < 20 → (stackOf s k).state ≠ 5)
    (hpll : ∀ q, q < 4 → hbmPllGood s q = true) (hf : f.stack < 20) (hlanes : 2 ≤ f.lanes) (hdev : s.dev ≠ .faulted) :
    ∃ t, exec (.hbmTrainingComplete [f]) s = .next t ∧ (stackOf t f.stack).state = 5 ∧ t.dev = .faulted ∧
      rg t 0x2001 3 = 0x03200003 ∧ t.pwr.moving = false ∧ t.mem.trained = s.mem.trained ∧
      (∀ k, k < 20 → k ≠ f.stack → (stackOf t k).state = 2) ∧
      unchangedExcept [.wires, .device, .registers, .execution, .sites, .siteMap, .memory, .resilience, .ring,
        .security, .power, .test] s t := by
  have hexec := exec_hbmTrainingComplete_done (fs := [f]) hsome hlinks
  obtain ⟨hfail, hready, st, hst⟩ := trainStacks_beyond (s := fresh s) hf hlanes hok hpll
  have hdevT : (trainStacks [f] (fresh s)).dev ≠ .faulted := by rw [hst]; exact hdev
  have htrainedT : (trainStacks [f] (fresh s)).mem.trained = s.mem.trained := by rw [hst]; rfl
  rw [trainingDone_failed (n := f.stack) (filter_range_single hf (by rw [hfail]; rfl)
    fun k hk hne => by rw [hready k hk hne]; rfl)] at hexec
  obtain ⟨hstate, hfaulted, hcause, hmoving, htrained, hother⟩ := failStack_ends (n := f.stack) hdevT
  exact ⟨_, hexec, hstate, hfaulted, hcause, hmoving, htrained.trans htrainedT,
    fun k hk hne => by rw [hother k hne]; exact hready k hk hne, exec_unchanged hexec⟩

end Sys2Proof.Machine

open Sys2Proof Sys2Proof.Machine

/-- Settles O30: each part by what its command leaves of the stacks and of the bytes. -/
theorem stacksAreTrainedReadAndScrubbed : Obligations.StacksAreTrainedReadAndScrubbed := by
  unfold Obligations.StacksAreTrainedReadAndScrubbed
  refine ⟨fun stack bank s hk hpow hst hclock => ?_, fun temps s hlen hpow => ?_,
    fun found s htrained hdue hc hl => patrolScrub_counts htrained hdue hc hl,
    fun s hsome hlinks hok hpll => ⟨hbmTrainingComplete_ready hsome hlinks hok hpll,
      fun f hf hlanes hdev => hbmTrainingComplete_beyond hsome hlinks hok hpll hf hlanes hdev⟩⟩
  · have hexec := exec_hbmRefresh_taken (bank := bank) hk hpow hst hclock
    exact ⟨_, hexec, stackOf_withStack_same .., fun k hne => stackOf_withStack_other _ (fresh s) hne,
      fun a => (byteAt_withStack ..).trans (byteAt_of_mem a (fresh_mem s)), exec_unchanged hexec⟩
  · have hexec := exec_hbmTemperatureReadout_taken hlen hpow
    refine ⟨_, hexec, fun k h => ?_, fun a => ?_, regsExcept_of_exec hexec rfl (by decide), exec_unchanged hexec⟩
    · have hread := stackOf_readStacks (n := 0) (fresh s) h
      rw [Nat.zero_add] at hread
      exact hread
    · exact (byteAt_readStacks ..).trans (byteAt_of_mem a (fresh_mem s))

end

section
/-! Traffic generators: requests, their end and what they report (spec/07_memory.md, Traffic generator and checker). -/

namespace Sys2Proof.Machine

/-! ## The answer to an accepted write -/

/-- A write's log entry and its answer leave everything but the log, the wires and their counters. -/
theorem answered_write {q : Req} {idx sub : Nat} {v : Bytes} {u : State} (hsends : u.ring.bypassOpen = true) :
    let t := respond q 0 [] (auditWrite q idx sub v u)
    Answers q 0 [] t ∧ Logged q idx sub t ∧ Keeps 851949 u t ∧
      (∀ i j, j < 256 → ¬counted i → rg t i j = rg u i j) ∧
      (∀ l s, regsExcept l s u → regsExcept l s t) :=
  ⟨answers_respond _ _ _ _ (by simpa using hsends), logged_write .., by simp,
    fun i j hj hi => by rw [rg_respond, rg_auditWrite _ hj hi],
    fun l s h => regsExcept_respond_auditWrite _ _ _ _ _ _ h⟩

/-! ## Requests (R228, R229) -/

theorem genRule_heardAs {op : Nat} {g : GenReq} (q : Req) (command idx sub : Nat) (s : State) :
    (genRule op g (heardAs q command idx sub s)).codes =
      [need s.mem.trained 0x03200002, need (s.mem.gen.isNone || op == 3) 0x03200001,
        need (!(g.area == 1 && tenantHere s)) 0x04200001, need (g.reserved == 0 && op ≤ 3 && genFieldsOk g) 0x02200002] := by
  have h : Keeps 512 s (heardAs q command idx sub s) := by simp
  have hmem := h.mem (by decide)
  have htenant := tenantHere_heardAs q command idx sub s
  generalize heardAs q command idx sub s = u at hmem htenant
  unfold genRule
  dsimp only
  rw [hmem, htenant]

theorem genRule_admits {op : Nat} {q : Req} {r : Role} {g : GenReq} {s : State} (h : GenAdmitted op q r g s)
    (hop : op ≤ 3) (command idx sub : Nat) :
    ∀ c ∈ (genRule op g (heardAs q command idx sub s)).codes, c = 0 := by
  have hidle : (s.mem.gen.isNone || op == 3) = true := by
    by_cases h3 : op = 3
    · simp [h3]
    · simp [h.idle h3]
  have harea : (!(g.area == 1 && tenantHere s)) = true := by
    by_cases h1 : g.area = 1
    · simp [h.area h1]
    · simp [h1]
  rw [genRule_heardAs]
  simp [need, h.trained, hidle, harea, h.reserved, h.fields, hop]

/-- An admitted request acts: its rule's effect, the log entry and the answer. -/
theorem genRequest_acts {op : Nat} {q : Req} {r : Role} {g : GenReq} {s : State} (h : GenAdmitted op q r g s)
    (hop : op ≤ 3) :
    genRequest op q g s = respond q 0 [] (auditWrite q 0x4010 1 (genBytes op g)
      ((genRule op g s).apply (actsOn q 0x4010 1 (genBytes op g) s))) :=
  write_now h.ready h.writes rfl (genRule_admits h hop _ _ _) rfl rfl

/-- The generator with a request running. -/
def genBegun (op : Nat) (g : GenReq) (s : State) : State :=
  withRg 0x4010 2 1 { (if op = 2 ∨ g.area = 1 then s else noteTested g s) with
    mem := { (if op = 2 ∨ g.area = 1 then s else noteTested g s).mem with gen := some ⟨op, g⟩ } }

theorem genRule_apply {op : Nat} {g : GenReq} (hop : op ≠ 3) (s u : State) :
    (genRule op g s).apply u = genBegun op g u := if_neg hop

theorem genRule_apply_stop (g : GenReq) (s u : State) : (genRule 3 g s).apply u = stopGenerator u := rfl

theorem genBegun_leaves (op : Nat) (g : GenReq) (s : State) :
    (genBegun op g s).mem.gen = some ⟨op, g⟩ ∧ rg (genBegun op g s) 0x4010 2 = 1 ∧
      (∀ a, byteAt (genBegun op g s) a = byteAt s a) ∧ regsExcept [(0x4010, 2)] s (genBegun op g s) ∧
      Keeps 1048047 s (genBegun op g s) := by
  have hbegun : ∀ u : State, u.regs = s.regs → regsExcept [(0x4010, 2)] s (withRg 0x4010 2 1 u) := fun u hu =>
    regsExcept_trans (regsExcept_of_regs hu) (regsExcept_withRg _ _ (by decide) (by decide))
  unfold genBegun
  refine ⟨rfl, rg_withRg_same .., ?_, hbegun _ ?_, ?_⟩
  · split <;> exact fun a => byteAt_congr a rfl rfl rfl rfl
  · split <;> rfl
  · split <;> simp [noteTested]

/-- A request that passes its checks runs, unless it stops what runs. -/
theorem genRequest_runs {op : Nat} {q : Req} {r : Role} {g : GenReq} {s : State} (h : GenAdmitted op q r g s)
    (hop : op < 3) : GenRuns op q g s (genRequest op q g s) := by
  have hacts : Keeps 851965 s (actsOn q 0x4010 1 (genBytes op g) s) := by simp
  have hsends := (actsOn_bypass q 0x4010 1 (genBytes op g) s).trans h.ready.sends
  rw [genRequest_acts h (by omega), genRule_apply (by omega)]
  generalize actsOn q 0x4010 1 (genBytes op g) s = a at hacts hsends
  obtain ⟨hgen, hresult, hbyte, hregs, hkeeps⟩ := genBegun_leaves op g a
  have hsends' : (genBegun op g a).ring.bypassOpen = true := by rw [hkeeps.ring (by decide), hsends]
  generalize genBegun op g a = b at hgen hresult hbyte hregs hkeeps hsends'
  obtain ⟨hans, hlog, hkept, hrg, hexcept⟩ := answered_write (idx := 0x4010) (sub := 1) (v := genBytes op g) (q := q) hsends'
  have hmem := hkept.mem (by decide)
  exact {
    answered := hans
    logged := hlog
    runs := by rw [hmem, hgen]
    result := by rw [hrg _ _ (by decide) (by unfold counted; decide), hresult]
    bytes := fun x => by rw [byteAt_of_mem x hmem, hbyte, byteAt_of_mem x (hacts.mem (by decide))]
    regs := hexcept _ _ (regsExcept_trans (regsExcept_of_regs (hacts.regs (by decide))) hregs)
    frame := unchanged_of_covered (m := 851437) ((hacts.mono (by decide)).trans ((hkeeps.mono (by decide)).trans
      (hkept.mono (by decide)))) rfl }

theorem stopGenerator_leaves (s : State) :
    (stopGenerator s).mem.gen = none ∧ rg (stopGenerator s) 0x4010 2 = (if s.mem.gen.isSome then 4 else rg s 0x4010 2) ∧
      regsExcept [(0x4010, 2)] s (stopGenerator s) ∧ Keeps 1048047 s (stopGenerator s) := by
  have hstop : ∀ u : State, u.regs = s.regs → regsExcept [(0x4010, 2)] s (withRg 0x4010 2 4 u) := fun u hu =>
    regsExcept_trans (regsExcept_of_regs hu) (regsExcept_withRg _ _ (by decide) (by decide))
  unfold stopGenerator
  cases hgen : s.mem.gen with
  | none => exact ⟨hgen, rfl, regsExcept_refl _ _, Keeps.refl _ _⟩
  | some r =>
    refine ⟨rfl, rg_withRg_same .., hstop _ ?_, ?_⟩
    · dsimp only
      split <;> rfl
    · dsimp only
      split <;> simp [forgetTested]

theorem genRequest_stops {q : Req} {r : Role} {g : GenReq} {s : State} (h : GenAdmitted 3 q r g s) :
    Answers q 0 [] (genRequest 3 q g s) ∧ Logged q 0x4010 1 (genRequest 3 q g s) ∧
      (genRequest 3 q g s).mem.gen = none ∧
      rg (genRequest 3 q g s) 0x4010 2 = (if s.mem.gen.isSome then 4 else rg s 0x4010 2) ∧
      regsExcept [(0x4010, 2)] s (genRequest 3 q g s) ∧
      unchangedExcept [.wires, .registers, .memory, .ring, .security] s (genRequest 3 q g s) := by
  have hacts : Keeps 851965 s (actsOn q 0x4010 1 (genBytes 3 g) s) := by simp
  have hsends := (actsOn_bypass q 0x4010 1 (genBytes 3 g) s).trans h.ready.sends
  rw [genRequest_acts h (by omega), genRule_apply_stop]
  generalize actsOn q 0x4010 1 (genBytes 3 g) s = a at hacts hsends
  obtain ⟨hgen, hresult, hregs, hkeeps⟩ := stopGenerator_leaves a
  have hsends' : (stopGenerator a).ring.bypassOpen = true := by rw [hkeeps.ring (by decide), hsends]
  generalize stopGenerator a = b at hgen hresult hregs hkeeps hsends'
  obtain ⟨hans, hlog, hkept, hrg, hexcept⟩ := answered_write (idx := 0x4010) (sub := 1) (v := genBytes 3 g) (q := q) hsends'
  refine ⟨hans, hlog, by rw [hkept.mem (by decide), hgen], ?_,
    hexcept _ _ (regsExcept_trans (regsExcept_of_regs (hacts.regs (by decide))) hregs),
    unchanged_of_covered (m := 851437) ((hacts.mono (by decide)).trans ((hkeeps.mono (by decide)).trans
      (hkept.mono (by decide)))) rfl⟩
  rw [hrg _ _ (by decide) (by unfold counted; decide), hresult, hacts.mem (by decide),
    rg_of_regs (hacts.regs (by decide))]

end Sys2Proof.Machine

end

section
/-! The end of a generator's pass (spec/07_memory.md, Traffic generator and checker). -/

namespace Sys2Proof.Machine

/-- The objects that the accesses of a pass count in. -/
def passCounts : List (Nat × Nat) := [(0x4021, 1), (0x4021, 2), (0x4021, 3), (0x4021, 4)]

/-- The accesses of a pass to one quadrant charged. -/
def chargeQuadrant (r : GenRun) (s : State) (q : Nat) : State :=
  if genChannels r.req q * genLines r.req * 256 * r.req.passes * (if r.op = 0 then 2 else 1) = 0 then s
  else regCharge q 15 (genChannels r.req q * genLines r.req * 256 * r.req.passes * (if r.op = 0 then 2 else 1)) s

theorem chargeGen_eq (r : GenRun) (s : State) : chargeGen r s = (List.range 4).foldl (chargeQuadrant r) s := rfl

theorem regCharge_tested (q p n : Nat) (s : State) :
    (regCharge q p n s).mem.tested = s.mem.tested ∧ (regCharge q p n s).mem.gen = s.mem.gen := by
  unfold regCharge
  dsimp only
  split <;> exact ⟨rfl, rfl⟩

theorem regsExcept_regCharge_pass {q : Nat} (p n : Nat) (s : State) (hq : q < 4) :
    regsExcept passCounts s (regCharge q p n s) := by
  have hbump : regsExcept passCounts s (bump 0x4021 (q + 1) (32 * ceilDiv n 32) s) :=
    regsExcept_bump _ _ (by omega) (by
      simp only [passCounts, List.mem_cons, Prod.mk.injEq, true_and]
      omega)
  unfold regCharge
  dsimp only
  split
  · exact hbump
  · exact regsExcept_trans hbump (regsExcept_of_regs rfl)

theorem chargeQuadrant_leaves {r : GenRun} {q : Nat} (s : State) (hq : q < 4) :
    (chargeQuadrant r s q).mem.tested = s.mem.tested ∧ regsExcept passCounts s (chargeQuadrant r s q) ∧
      ∀ a, byteAt (chargeQuadrant r s q) a = byteAt s a := by
  unfold chargeQuadrant
  generalize genChannels r.req q * genLines r.req * 256 * r.req.passes * (if r.op = 0 then 2 else 1) = n
  split
  · exact ⟨rfl, regsExcept_refl _ _, fun _ => rfl⟩
  · exact ⟨(regCharge_tested q 15 n s).1, regsExcept_regCharge_pass 15 n s hq, fun a => byteAt_regCharge ..⟩

theorem chargeQuadrants_pass (r : GenRun) {l : List Nat} (s : State) (hl : ∀ q ∈ l, q < 4) :
    (l.foldl (chargeQuadrant r) s).mem.tested = s.mem.tested ∧
      regsExcept passCounts s (l.foldl (chargeQuadrant r) s) ∧
      ∀ a, byteAt (l.foldl (chargeQuadrant r) s) a = byteAt s a := by
  induction l generalizing s with
  | nil => exact ⟨rfl, regsExcept_refl _ _, fun _ => rfl⟩
  | cons q l ih =>
    obtain ⟨htested, hregs, hbyte⟩ := chargeQuadrant_leaves (r := r) s (hl q List.mem_cons_self)
    obtain ⟨htested', hregs', hbyte'⟩ := ih (chargeQuadrant r s q) fun x hx => hl x (List.mem_cons_of_mem _ hx)
    exact ⟨htested'.trans htested, regsExcept_trans hregs hregs', fun a => (hbyte' a).trans (hbyte a)⟩

/-- The state at the end of a pass, before its result: what it tested, its accesses charged, the generator free. -/
def passDone (r : GenRun) (s : State) : State :=
  { chargeGen r (if r.req.area = 1 then forgetTested r.req s else s) with
    mem := { (chargeGen r (if r.req.area = 1 then forgetTested r.req s else s)).mem with gen := none } }

theorem passDone_leaves (r : GenRun) (s : State) :
    (passDone r s).mem.gen = none ∧ (passDone r s).mem.tested = s.mem.tested ∧
      regsExcept passCounts s (passDone r s) ∧ (r.req.area ≠ 1 → ∀ a, byteAt (passDone r s) a = byteAt s a) := by
  have hforgot : (if r.req.area = 1 then forgetTested r.req s else s).mem.tested = s.mem.tested ∧
      (if r.req.area = 1 then forgetTested r.req s else s).regs = s.regs ∧
      (r.req.area ≠ 1 → (if r.req.area = 1 then forgetTested r.req s else s) = s) := by
    refine ⟨?_, ?_, fun h => if_neg h⟩ <;> (split <;> rfl)
  unfold passDone
  generalize (if r.req.area = 1 then forgetTested r.req s else s) = u at hforgot
  obtain ⟨htested, hregs, hsame⟩ := hforgot
  obtain ⟨hct, hcr, hcb⟩ := chargeQuadrants_pass r (l := List.range 4) u fun q hq => List.mem_range.mp hq
  rw [← chargeGen_eq] at hct hcr hcb
  generalize chargeGen r u = v at hct hcr hcb
  refine ⟨rfl, hct.trans htested, regsExcept_trans (regsExcept_of_regs hregs) (regsExcept_trans hcr (regsExcept_of_regs rfl)),
    fun h a => ?_⟩
  rw [← hsame h, ← hcb a]
  exact byteAt_congr a rfl rfl rfl rfl

theorem patternThere_of_tested {s t : State} (h : t.mem.tested = s.mem.tested) (g : GenReq) :
    patternThere t g = patternThere s g := by
  unfold patternThere
  rw [h]

/-- The accesses of a pass that count as mismatches: one at least where the lines do not hold the pattern. -/
def badAccesses (r : GenRun) (mismatches : Nat) (s : State) : Nat :=
  if (r.op == 0 || r.req.area == 1 || patternThere s r.req) = true then mismatches else max 1 mismatches

/-- The corrected symbols of a pass added per lane. -/
def symbolsAdded (symbols : List (Nat × Nat)) (s : State) : State :=
  { s with mem := { s.mem with
    symbols := symbols.foldl (fun m p => set_ 0 p.1 (at_ 0 p.1 m + p.2) m) s.mem.symbols } }

/-- The lines and the mismatches of a check counted. -/
def checkCounted (lines bad : Nat) (s : State) : State := bump 0x4010 4 bad (bump 0x4010 3 lines s)

/-- The result of a check: the lines and the mismatches counted, and the first mismatch kept. -/
def checkResult (r : GenRun) (bad : Nat) (first : W32) (s : State) : State :=
  if bad = 0 then withRg 0x4010 2 2 (checkCounted (linesChecked r) bad s)
  else withRg 0x4010 5 first.toNat (withRg 0x4010 2 3 (checkCounted (linesChecked r) bad s))

theorem exec_generatorComplete_write {symbols : List (Nat × Nat)} {mismatches : Nat} {first : W32} {r : GenRun}
    {s : State} (hgen : s.mem.gen = some r) (hop : r.op = 1) :
    exec (.generatorComplete symbols mismatches first) s = .next (withRg 0x4010 2 2 (passDone r (fresh s))) := by
  have hgen' : (fresh s).mem.gen = some r := hgen
  change execGeneratorComplete symbols mismatches first s = _
  unfold execGeneratorComplete
  dsimp only
  rw [hgen']
  exact congrArg Host.Outcome.next (if_pos hop)

theorem exec_generatorComplete_check {symbols : List (Nat × Nat)} {mismatches : Nat} {first : W32} {r : GenRun}
    {s : State} (hgen : s.mem.gen = some r) (hop : r.op ≠ 1) :
    exec (.generatorComplete symbols mismatches first) s = .next (checkResult r
      (badAccesses r mismatches (passDone r (fresh s))) first (symbolsAdded symbols (passDone r (fresh s)))) := by
  have hgen' : (fresh s).mem.gen = some r := hgen
  change execGeneratorComplete symbols mismatches first s = _
  unfold execGeneratorComplete
  dsimp only
  rw [hgen']
  exact congrArg Host.Outcome.next (if_neg hop)

/-- The objects of the result of a check. -/
def checkCounts : List (Nat × Nat) := [(0x4010, 2), (0x4010, 3), (0x4010, 4), (0x4010, 5)]

theorem checkCounted_leaves (lines bad : Nat) (s : State) :
    (checkCounted lines bad s).mem = s.mem ∧
      rg (checkCounted lines bad s) 0x4010 3 = satAdd (sizeOf_ 0x4010 3) (rg s 0x4010 3) lines ∧
      rg (checkCounted lines bad s) 0x4010 4 = satAdd (sizeOf_ 0x4010 4) (rg s 0x4010 4) bad ∧
      rg (checkCounted lines bad s) 0x4010 5 = rg s 0x4010 5 ∧ regsExcept checkCounts s (checkCounted lines bad s) := by
  have hbump : ∀ (j k n : Nat) (u : State), j < 256 → k < 256 → j ≠ k → rg (bump 0x4010 k n u) 0x4010 j = rg u 0x4010 j :=
    fun j k n u hj hk hne => rg_withRg_sub u hj hk hne
  unfold checkCounted
  refine ⟨rfl, ?_, ?_, ?_, regsExcept_trans (regsExcept_bump _ _ (by decide) (by decide))
    (regsExcept_bump _ _ (by decide) (by decide))⟩
  · rw [hbump 3 4 _ _ (by decide) (by decide) (by decide)]
    exact rg_withRg_same ..
  · refine (rg_withRg_same ..).trans ?_
    rw [hbump 4 3 _ _ (by decide) (by decide) (by decide)]
  · rw [hbump 5 4 _ _ (by decide) (by decide) (by decide), hbump 5 3 _ _ (by decide) (by decide) (by decide)]

theorem checkResult_leaves (r : GenRun) (bad : Nat) (first : W32) (s : State) :
    (checkResult r bad first s).mem = s.mem ∧ rg (checkResult r bad first s) 0x4010 2 = (if bad = 0 then 2 else 3) ∧
      rg (checkResult r bad first s) 0x4010 3 = satAdd (sizeOf_ 0x4010 3) (rg s 0x4010 3) (linesChecked r) ∧
      rg (checkResult r bad first s) 0x4010 4 = satAdd (sizeOf_ 0x4010 4) (rg s 0x4010 4) bad ∧
      rg (checkResult r bad first s) 0x4010 5 = (if bad = 0 then rg s 0x4010 5 else first.toNat) ∧
      regsExcept checkCounts s (checkResult r bad first s) := by
  have hset : ∀ (j k v : Nat) (u : State), j < 256 → k < 256 → j ≠ k → rg (withRg 0x4010 k v u) 0x4010 j = rg u 0x4010 j :=
    fun j k v u hj hk hne => rg_withRg_sub u hj hk hne
  obtain ⟨hmem, hlines, hbad, hfirst, hregs⟩ := checkCounted_leaves (linesChecked r) bad s
  unfold checkResult
  generalize checkCounted (linesChecked r) bad s = u at hmem hlines hbad hfirst hregs
  by_cases h : bad = 0
  · simp only [if_pos h]
    refine ⟨hmem, rg_withRg_same .., ?_, ?_, ?_, regsExcept_trans hregs (regsExcept_withRg _ _ (by decide) (by decide))⟩
    · rw [hset 3 2 _ _ (by decide) (by decide) (by decide), hlines]
    · rw [hset 4 2 _ _ (by decide) (by decide) (by decide), hbad]
    · rw [hset 5 2 _ _ (by decide) (by decide) (by decide), hfirst]
  · simp only [if_neg h]
    refine ⟨hmem, ?_, ?_, ?_, rg_withRg_same .., regsExcept_trans hregs (regsExcept_trans
      (regsExcept_withRg _ _ (by decide) (by decide)) (regsExcept_withRg _ _ (by decide) (by decide)))⟩
    · rw [hset 2 5 _ _ (by decide) (by decide) (by decide)]
      exact rg_withRg_same ..
    · rw [hset 3 5 _ _ (by decide) (by decide) (by decide), hset 3 2 _ _ (by decide) (by decide) (by decide), hlines]
    · rw [hset 4 5 _ _ (by decide) (by decide) (by decide), hset 4 2 _ _ (by decide) (by decide) (by decide), hbad]

theorem regsExcept_mono {l l' : List (Nat × Nat)} {s t : State} (h : regsExcept l s t) (hl : ∀ x ∈ l, x ∈ l') :
    regsExcept l' s t := fun i j hj hi => h i j hj fun hmem => hi (hl _ hmem)

end Sys2Proof.Machine

open Sys2Proof Sys2Proof.Machine

/-- Settles O31: a request by the write that it is, a pass's end by its charges and its result. -/
theorem generatorsRunAndReport : Obligations.GeneratorsRunAndReport := by
  unfold Obligations.GeneratorsRunAndReport
  refine ⟨fun q r g s h => ⟨_, rfl, genRequest_runs h (by decide)⟩, fun q r g s h => ⟨_, rfl, genRequest_runs h (by decide)⟩,
    fun q r g s h => ⟨_, rfl, genRequest_runs h (by decide)⟩, fun q r g s h => ⟨_, rfl, genRequest_stops h⟩,
    fun symbols mismatches first r s hgen hop => ?_, fun symbols mismatches bad first r s hgen hop hbad => ?_⟩
  · have hexec := exec_generatorComplete_write (symbols := symbols) (mismatches := mismatches) (first := first) hgen hop
    obtain ⟨hfree, -, hregs, hbyte⟩ := passDone_leaves r (fresh s)
    refine ⟨_, hexec, hfree, rg_withRg_same .., fun harea a => ?_, ?_, exec_unchanged hexec⟩
    · exact (byteAt_of_mem a rfl).trans ((hbyte harea a).trans (byteAt_of_mem a (fresh_mem s)))
    · exact regsExcept_trans (regsExcept_of_regs (fresh_regs s)) (regsExcept_trans
        (regsExcept_mono hregs (by decide)) (regsExcept_withRg _ _ (by decide) (by decide)))
  · have hexec := exec_generatorComplete_check (symbols := symbols) (mismatches := mismatches) (first := first) hgen hop
    obtain ⟨hfree, htested, hregs, hbyte⟩ := passDone_leaves r (fresh s)
    have hcount : badAccesses r mismatches (passDone r (fresh s)) = bad := by
      rw [hbad, badAccesses, patternThere_of_tested htested]
      rfl
    rw [hcount] at hexec
    have hnote : ∀ u : State, (symbolsAdded symbols u).regs = u.regs ∧ (symbolsAdded symbols u).mem.gen = u.mem.gen ∧
        ∀ a, byteAt (symbolsAdded symbols u) a = byteAt u a := fun u =>
      ⟨rfl, rfl, fun a => byteAt_congr a rfl rfl rfl rfl⟩
    have hframe := exec_unchanged hexec
    have hkept : ∀ k, k < 256 → rg (passDone r (fresh s)) 0x4010 k = rg s 0x4010 k := fun k hk => by
      rw [hregs 0x4010 k hk (by simp [passCounts]) (by decide) (by decide) (by decide), rg_fresh]
    obtain ⟨hnregs, hngen, hnbyte⟩ := hnote (passDone r (fresh s))
    obtain ⟨hmem, hresult, hlines, hmism, hfirst, hcounts⟩ := checkResult_leaves r bad first
      (symbolsAdded symbols (passDone r (fresh s)))
    refine ⟨_, hexec, ?_, hresult, ?_, ?_, ?_, fun harea a => ?_, ?_, hframe⟩
    · rw [hmem, hngen, hfree]
    · rw [hlines, rg_of_regs hnregs, hkept 3 (by decide)]
    · rw [hmism, rg_of_regs hnregs, hkept 4 (by decide)]
    · rw [hfirst, rg_of_regs hnregs, hkept 5 (by decide)]
    · rw [byteAt_of_mem a hmem, hnbyte, hbyte harea, byteAt_of_mem a (fresh_mem s)]
    · exact regsExcept_trans (regsExcept_of_regs (fresh_regs s)) (regsExcept_trans
        (regsExcept_mono hregs (by decide)) (regsExcept_trans (regsExcept_of_regs hnregs)
          (regsExcept_mono hcounts (by decide))))

end

section
/-! Credits that return, and the samples of the numerics watch (spec/02_score_execution.md, spec/05_training_numerics.md). -/

namespace Sys2Proof.Machine

/-! ## Counts of a list of pairs -/

section
variable {α : Type} [DecidableEq α]

theorem countAt_setCount_same (k : α) (n : Nat) (l : List (α × Nat)) : countAt k (setCount k n l) = n := by
  have hgone : (l.filter fun p => p.1 ≠ k).find? (fun p => p.1 = k) = none :=
    List.find?_eq_none.mpr fun p hp => by simpa using (List.mem_filter.mp hp).2
  unfold countAt setCount
  dsimp only
  split
  · next h => rw [hgone, h]; rfl
  · rw [List.find?_append, hgone]; simp

theorem find_filter_count {k j : α} (l : List (α × Nat)) (h : j ≠ k) :
    (l.filter fun p => p.1 ≠ k).find? (fun p => p.1 = j) = l.find? fun p => p.1 = j := by
  induction l with
  | nil => rfl
  | cons p l ih =>
    by_cases hp : p.1 = k
    · rw [List.filter_cons_of_neg (by simp [hp]), ih, List.find?_cons_of_neg (by simp [hp, Ne.symm h])]
    · rw [List.filter_cons_of_pos (by simp [hp]), List.find?_cons, List.find?_cons, ih]

theorem countAt_setCount_other {k j : α} (n : Nat) (l : List (α × Nat)) (h : j ≠ k) :
    countAt j (setCount k n l) = countAt j l := by
  unfold countAt setCount
  dsimp only
  split
  · rw [find_filter_count l h]
  · rw [List.find?_append, find_filter_count l h]
    simp [Ne.symm h]

end

theorem creditUsedAt_same (unit ep cls n : Nat) (s : State) :
    creditUsedAt (withCreditUsed unit ep cls n s) unit ep cls = n := countAt_setCount_same ..

theorem creditUsedAt_other {unit ep cls u k c : Nat} (n : Nat) (s : State) (h : (u, k, c) ≠ (unit, ep, cls)) :
    creditUsedAt (withCreditUsed unit ep cls n s) u k c = creditUsedAt s u k c := countAt_setCount_other _ _ h

/-! ## Credit grants (R61, R236) -/

theorem exec_creditGrantPacket_pool {die ep cls granules p : Nat} {s : State} (hreset : s.pwr.inReset = false) :
    exec (.creditGrantPacket die ep cls granules (.pool p)) s = .next (returnPool p granules (fresh s)) := by
  change Host.Outcome.next (if s.pwr.inReset = true then _ else _) = _
  rw [if_neg (by simp [hreset])]

theorem exec_creditGrantPacket_unit {die ep cls granules d e : Nat} {s : State} (hreset : s.pwr.inReset = false) :
    exec (.creditGrantPacket die ep cls granules (.unit d e)) s =
      .next (onScore (withCreditUsed (endKey d e) (endKey die ep) cls
        (creditUsedAt s (endKey d e) (endKey die ep) cls - granules) (fresh s))
        fun sc u => flushPending sc (endKey d e) (endKey die ep) cls u) := by
  change Host.Outcome.next (if s.pwr.inReset = true then _ else _) = _
  rw [if_neg (by simp [hreset])]
  rfl

/-- With nothing pending nothing is sent. -/
theorem flushPending_none {s : State} (sc : Score) (unit ep cls : Nat) (ht : s.ex.pendTokens = [])
    (hg : s.ex.pendGrants = []) : flushPending sc unit ep cls s = s := by
  unfold flushPending
  dsimp only
  rw [ht, List.filter_nil, List.foldl_nil, ite_self, hg, List.filter_nil, List.foldl_nil, ite_self]

/-- The one pending count that a credit lets go, sent as one packet. -/
theorem flushPending_token {s : State} {sc : Score} {unit ep tok n : Nat} {x : TokDecl} (hcredit : holdsCredit s unit ep 1 = true)
    (ht : s.ex.pendTokens = [((unit, tok), n)]) (hg : s.ex.pendGrants = []) (hsc : sc.tokens = [x]) (hid : x.id = tok)
    (hep : endKey x.die x.ep = ep) :
    flushPending sc unit ep 1 s = emit (.token tok n) (takeCredit unit ep 1
      { s with ex := { s.ex with pendTokens := [] } }) := by
  have hone : s.ex.pendTokens.filter (fun p => p.1.1 == unit && sc.tokens.any (fun d => d.id == p.1.2 && endKey d.die d.ep == ep)) =
      [((unit, tok), n)] := by simp [ht, hsc, hid, hep]
  have hdrop : setCount (unit, tok) 0 s.ex.pendTokens = [] := by simp [setCount, ht]
  have hgrants : ∀ u : State, (emit (.token tok n) (takeCredit unit ep 1 u)).ex.pendGrants = u.ex.pendGrants := fun _ => rfl
  unfold flushPending
  dsimp only
  rw [if_neg (show ¬(1 : Nat) ≠ poolClass by decide), if_neg (show ¬(1 : Nat) ≠ 1 by decide), hone, List.foldl_cons,
    List.foldl_nil, if_pos hcredit, hdrop, hgrants]
  dsimp only
  rw [hg, List.filter_nil, List.foldl_nil]

/-! ## Samples of the numerics watch (R164) -/

/-- A sample counted in the registers: its tiles, its excluded elements and the largest ratio. -/
def sampleCounted (w : WideSample) (s : State) : State :=
  withRg 0xC010 5 (maxRatio (BitVec.ofNat 32 (rg (bump 0xC010 4 w.excluded (bump 0xC010 1 1 s)) 0xC010 5)) w.ratio).toNat
    (bump 0xC010 4 w.excluded (bump 0xC010 1 1 s))

/-- The step with a sample's ratio. -/
def sampleNoted (w : WideSample) (s : State) : State := withStep (fun x => { x with watchRatio := maxRatio x.watchRatio w.ratio }) s

/-- A tile that disagrees, counted. -/
def sampleDisagrees (w : WideSample) (s : State) : State :=
  if w.disagrees then withStep (fun x => { x with watchTiles := x.watchTiles + 1 }) (bump 0xC010 2 1 s) else s

theorem exec_watchSampleComplete_counted {half core : Nat} {w : WideSample} {s : State}
    (hw : (coreOf s half core).wide = some w) :
    exec (.watchSampleComplete half core) s = .next (sampleDisagrees w (sampleNoted w (sampleCounted w
      (withSite (coreSiteKey s half core) { coreOf s half core with wide := none } (fresh s))))) := by
  change Host.Outcome.next (match (coreOf s half core).wide with | none => _ | some w => _) = _
  rw [hw]
  rfl

theorem rg_sampleCounted (w : WideSample) (s : State) :
    rg (sampleCounted w s) 0xC010 1 = satAdd (sizeOf_ 0xC010 1) (rg s 0xC010 1) 1 ∧
      rg (sampleCounted w s) 0xC010 2 = rg s 0xC010 2 ∧
      rg (sampleCounted w s) 0xC010 4 = satAdd (sizeOf_ 0xC010 4) (rg s 0xC010 4) w.excluded ∧
      rg (sampleCounted w s) 0xC010 5 = (maxRatio (BitVec.ofNat 32 (rg s 0xC010 5)) w.ratio).toNat ∧
      ∀ i j, i ≠ 0xC010 → rg (sampleCounted w s) i j = rg s i j := by
  have hbump : ∀ (j k n : Nat) (u : State), j < 256 → k < 256 → j ≠ k → rg (bump 0xC010 k n u) 0xC010 j = rg u 0xC010 j :=
    fun j k n u hj hk hne => rg_withRg_sub u hj hk hne
  have hfive : rg (bump 0xC010 4 w.excluded (bump 0xC010 1 1 s)) 0xC010 5 = rg s 0xC010 5 := by
    rw [hbump 5 4 _ _ (by decide) (by decide) (by decide), hbump 5 1 _ _ (by decide) (by decide) (by decide)]
  have hset : ∀ j, j < 256 → j ≠ 5 → rg (sampleCounted w s) 0xC010 j = rg (bump 0xC010 4 w.excluded (bump 0xC010 1 1 s)) 0xC010 j :=
    fun j hj hne => rg_withRg_sub _ hj (by decide) hne
  have hother : ∀ (i j k v : Nat) (u : State), i ≠ 0xC010 → rg (withRg 0xC010 k v u) i j = rg u i j := fun i j k v u hne =>
    rg_withRg_other v u (by unfold keyOf; omega)
  refine ⟨?_, ?_, ?_, ?_, fun i j hne => ?_⟩
  · rw [hset 1 (by decide) (by decide), hbump 1 4 _ _ (by decide) (by decide) (by decide)]
    exact rg_withRg_same ..
  · rw [hset 2 (by decide) (by decide), hbump 2 4 _ _ (by decide) (by decide) (by decide),
      hbump 2 1 _ _ (by decide) (by decide) (by decide)]
  · rw [hset 4 (by decide) (by decide)]
    refine (rg_withRg_same ..).trans ?_
    rw [hbump 4 1 _ _ (by decide) (by decide) (by decide)]
  · refine (rg_withRg_same ..).trans ?_
    rw [hfive]
  · exact (hother i j _ _ _ hne).trans ((hother i j _ _ _ hne).trans (hother i j _ _ _ hne))

theorem coreOf_of_sites {s t : State} (hs : t.sites = s.sites) (hm : t.siteMap = s.siteMap)
    (ht : t.test = s.test) (half core : Nat) : coreOf t half core = coreOf s half core := by
  unfold coreOf siteAt coreSite
  dsimp only
  simp only [halfTest_of_test ht, boundSite_of_siteMap hm, hs]

theorem sampleDisagrees_leaves (w : WideSample) (s : State) :
    (sampleDisagrees w s).sites = s.sites ∧ (sampleDisagrees w s).siteMap = s.siteMap ∧ (sampleDisagrees w s).test = s.test ∧
      (sampleDisagrees w s).dev = s.dev ∧
      (sampleDisagrees w s).ex.step.watchTiles = s.ex.step.watchTiles + (if w.disagrees then 1 else 0) ∧
      (sampleDisagrees w s).ex.step.dataErr = s.ex.step.dataErr ∧
      rg (sampleDisagrees w s) 0xC010 2 =
        (if w.disagrees then satAdd (sizeOf_ 0xC010 2) (rg s 0xC010 2) 1 else rg s 0xC010 2) ∧
      (∀ j, j < 256 → j ≠ 2 → rg (sampleDisagrees w s) 0xC010 j = rg s 0xC010 j) ∧
      ∀ i j, i ≠ 0xC010 → rg (sampleDisagrees w s) i j = rg s i j := by
  unfold sampleDisagrees
  split
  · exact ⟨rfl, rfl, rfl, rfl, rfl, rfl, rg_withRg_same .., fun j hj hne => rg_withRg_sub s hj (by decide) hne,
      fun i j hne => rg_withRg_other _ s (by unfold keyOf; omega)⟩
  · exact ⟨rfl, rfl, rfl, rfl, rfl, rfl, rfl, fun _ _ _ => rfl, fun _ _ _ => rfl⟩

end Sys2Proof.Machine

open Sys2Proof Sys2Proof.Machine

/-- Settles O22: a return lowers its own count alone, and a sample counts in its own registers and its step. -/
theorem creditsReturnAndSamplesAreCounted : Obligations.CreditsReturnAndSamplesAreCounted := by
  unfold Obligations.CreditsReturnAndSamplesAreCounted
  refine ⟨fun die ep cls granules p s hreset => ?_, fun die ep cls granules d e s hreset ht hg => ?_,
    fun die ep granules d e tok n sc x s hreset hsc hcredit ht hg htoks hid hdie hep => ?_, fun half core w s hw => ?_⟩
  · have hexec := exec_creditGrantPacket_pool (die := die) (ep := ep) (cls := cls) (granules := granules) (p := p) hreset
    exact ⟨_, hexec, at_set_same .., fun k hk => at_set_other _ _ _ _ _ hk, exec_unchanged hexec⟩
  · have hexec := exec_creditGrantPacket_unit (die := die) (ep := ep) (cls := cls) (granules := granules) (d := d) (e := e) hreset
    have hnone : onScore (withCreditUsed (endKey d e) (endKey die ep) cls
        (creditUsedAt s (endKey d e) (endKey die ep) cls - granules) (fresh s))
        (fun sc u => flushPending sc (endKey d e) (endKey die ep) cls u) = withCreditUsed (endKey d e) (endKey die ep) cls
        (creditUsedAt s (endKey d e) (endKey die ep) cls - granules) (fresh s) := by
      unfold onScore
      split
      · exact flushPending_none _ _ _ _ ht hg
      · rfl
    rw [hnone] at hexec
    exact ⟨_, hexec, rfl, creditUsedAt_same .., fun u k c hne => creditUsedAt_other _ (fresh s) hne, exec_unchanged hexec⟩
  · have hexec := exec_creditGrantPacket_unit (die := die) (ep := ep) (cls := 1) (granules := granules) (d := d) (e := e) hreset
    have hhas : ∀ u : State, u.ex.score = s.ex.score → ∀ f, onScore u f = f sc u := fun u hu f => by
      unfold onScore
      rw [hu, hsc]
    rw [hhas (withCreditUsed _ _ _ _ (fresh s)) rfl, flushPending_token (tok := tok) (n := n) (x := x)
      (s := withCreditUsed (endKey d e) (endKey die ep) 1 (creditUsedAt s (endKey d e) (endKey die ep) 1 - granules) (fresh s))
      (by unfold holdsCredit; rw [creditUsedAt_same]; exact decide_eq_true hcredit) ht hg htoks hid
      (by rw [hdie, hep])] at hexec
    refine ⟨_, hexec, rfl, rfl, ?_, exec_unchanged hexec⟩
    refine (creditUsedAt_same ..).trans ?_
    exact congrArg (· + 1) (creditUsedAt_same ..)
  · have hexec := exec_watchSampleComplete_counted hw
    have hsite : (coreOf (withSite (coreSiteKey s half core) { coreOf s half core with wide := none } (fresh s))
        half core).wide = none := congrArg Site.wide (siteAt_withSite_same ..)
    have hregs : ∀ i j, rg (withSite (coreSiteKey s half core) { coreOf s half core with wide := none } (fresh s)) i j =
        rg s i j := fun _ _ => rfl
    have hstep : (withSite (coreSiteKey s half core) { coreOf s half core with wide := none } (fresh s)).ex = s.ex ∧
        (withSite (coreSiteKey s half core) { coreOf s half core with wide := none } (fresh s)).dev = s.dev := ⟨rfl, rfl⟩
    have hframe := exec_unchanged hexec
    generalize withSite (coreSiteKey s half core) { coreOf s half core with wide := none } (fresh s) = u
      at hexec hsite hregs hstep hframe
    obtain ⟨hone, htwo, hfour, hfive, hrest⟩ := rg_sampleCounted w u
    have hcounted : (sampleNoted w (sampleCounted w u)).sites = u.sites ∧
        (sampleNoted w (sampleCounted w u)).siteMap = u.siteMap ∧ (sampleNoted w (sampleCounted w u)).test = u.test ∧
        (sampleNoted w (sampleCounted w u)).dev = u.dev ∧
        (sampleNoted w (sampleCounted w u)).ex.step.watchTiles = u.ex.step.watchTiles ∧
        (sampleNoted w (sampleCounted w u)).ex.step.dataErr = u.ex.step.dataErr ∧
        (sampleNoted w (sampleCounted w u)).regs = (sampleCounted w u).regs := ⟨rfl, rfl, rfl, rfl, rfl, rfl, rfl⟩
    generalize sampleNoted w (sampleCounted w u) = v at hexec hframe hcounted
    obtain ⟨hvs, hvm, hvtest, hvd, hvt, hve, hvr⟩ := hcounted
    obtain ⟨hds, hdm, hdtest, hdd, hdt, hde, hdtwo, hdother, hdrest⟩ := sampleDisagrees_leaves w v
    refine ⟨_, hexec, ?_, ?_, ?_, ?_, ?_, ?_, ?_, ?_, fun i j hne => ?_, hframe⟩
    · rw [coreOf_of_sites (hds.trans hvs) (hdm.trans hvm) (hdtest.trans hvtest), hsite]
    · rw [hdother 1 (by decide) (by decide), rg_of_regs hvr, hone, hregs]
    · rw [hdtwo, rg_of_regs hvr, htwo, hregs]
    · rw [hdother 4 (by decide) (by decide), rg_of_regs hvr, hfour, hregs]
    · rw [hdother 5 (by decide) (by decide), rg_of_regs hvr, hfive, hregs]
    · rw [hdt, hvt, hstep.1]
    · rw [hde, hve, hstep.1]
    · rw [hdd, hvd, hstep.2]
    · rw [hdrest i j hne, rg_of_regs hvr, hrest i j hne, hregs]

end

section
/-! Setting writes: the object takes the value and nothing else of the registers, the execution state or the device state
changes (spec/00_scope.md, Object tables). -/

namespace Sys2Proof.Machine

/-! ## An accepted write -/

/-- What a setting's rule does to the state: its object takes the value, the clocks and the ring stay. -/
structure Stores (idx sub n : Nat) (u t : State) : Prop where
  value : rg t idx sub = n
  regs : regsExcept [(idx, sub)] u t
  dev : t.dev = u.dev
  ex : t.ex = u.ex
  bypass : t.ring.bypassOpen = u.ring.bypassOpen
  pll : t.pwr.pllInForce = u.pwr.pllInForce

/-- What a setting write leaves. -/
structure SettingTaken (q : Req) (idx sub n : Nat) (s t : State) : Prop where
  value : rg t idx sub = n
  answered : Answers q 0 [] t
  logged : Logged q idx sub t
  regs : regsExcept [(idx, sub)] s t
  dev : t.dev = s.dev
  ex : t.ex = s.ex
  pll : t.pwr.pllInForce = s.pwr.pllInForce

theorem answered_setting {q : Req} {idx sub n : Nat} (v : Bytes) {s u : State} (hi : ¬counted idx) (hj : sub < 256)
    (h : Stores idx sub n s u) (hsends : s.ring.bypassOpen = true) :
    SettingTaken q idx sub n s (respond q 0 [] (auditWrite q idx sub v u)) := by
  obtain ⟨hans, hlog, hkept, hrg, hexcept⟩ := answered_write (q := q) (idx := idx) (sub := sub) (v := v)
    (h.bypass.trans hsends)
  exact {
    value := (hrg idx sub hj hi).trans h.value
    answered := hans
    logged := hlog
    regs := hexcept _ _ h.regs
    dev := (hkept.dev (by decide)).trans h.dev
    ex := (hkept.ex (by decide)).trans h.ex
    pll := by rw [hkept.pwr (by decide)]; exact h.pll }

theorem Stores.heard {q : Req} {idx sub n : Nat} {v : Bytes} {s t : State} (h : Stores idx sub n (actsOn q idx sub v s) t) :
    Stores idx sub n s t := by
  have hacts : Keeps 851965 s (actsOn q idx sub v s) := by simp
  exact {
    value := h.value
    regs := regsExcept_trans (regsExcept_of_regs (hacts.regs (by decide))) h.regs
    dev := h.dev.trans (hacts.dev (by decide))
    ex := h.ex.trans (hacts.ex (by decide))
    bypass := h.bypass.trans (actsOn_bypass q idx sub v s)
    pll := h.pll.trans (by rw [hacts.pwr (by decide)]) }

/-- A write accepted and answered at once whose rule logs the object under another encoding. -/
theorem acceptWrite_encoded {q : Req} {idx sub i j : Nat} {v w : Bytes} {x : Rule} (s : State) (hl : x.later = false)
    (hg : x.log = some (i, j, w)) : acceptWrite q idx sub v x s =
      x.after (respond q 0 [] (auditWrite q i j w (x.apply (forwardAccess true idx sub s)))) := by
  unfold acceptWrite
  simp [hl, hg]

/-- A setting write that passes its checks. -/
theorem setting_write {q : Req} {r : Role} {idx sub n : Nat} {v : Bytes} {rule : State → Rule} {s : State}
    (h : Ready q r s) (w : Writable r idx sub v s) (hi : ¬counted idx) (hj : sub < 256)
    (hc : ∀ c ∈ (rule (heardAs q (writeCommand v) idx sub s)).codes, c = 0)
    (hl : (rule (heardAs q (writeCommand v) idx sub s)).later = false)
    (hg : (rule (heardAs q (writeCommand v) idx sub s)).log = none ∨
      ∃ v', (rule (heardAs q (writeCommand v) idx sub s)).log = some (idx, sub, v'))
    (ha : (rule (heardAs q (writeCommand v) idx sub s)).after = id)
    (hst : Stores idx sub n (actsOn q idx sub v s)
      ((rule (heardAs q (writeCommand v) idx sub s)).apply (actsOn q idx sub v s))) :
    SettingTaken q idx sub n s (writeReq q 0 idx sub v rule s) := by
  rcases hg with hg | ⟨v', hg⟩
  · rw [write_now h w rfl hc hl hg, ha]
    exact answered_setting v hi hj hst.heard h.sends
  · rw [writeReq_accepted h w hc, acceptWrite_encoded _ hl hg, ha]
    exact answered_setting v' hi hj hst.heard h.sends

/-! ## What the rules do -/

theorem stores_withRg (idx n : Nat) {sub : Nat} (u : State) (hj : sub < 256) :
    Stores idx sub n u (withRg idx sub n u) :=
  ⟨rg_withRg_same .., regsExcept_withRg _ _ hj (by simp), rfl, rfl, rfl, rfl⟩

/-- What follows a store, where it leaves the registers, the execution state, the device state and the clocks. -/
theorem Stores.then {idx sub n : Nat} {u v t : State} (h : Stores idx sub n u v) (hregs : t.regs = v.regs)
    (hdev : t.dev = v.dev) (hex : t.ex = v.ex) (hring : t.ring = v.ring) (hpll : t.pwr.pllInForce = v.pwr.pllInForce) :
    Stores idx sub n u t :=
  ⟨(rg_of_regs hregs ..).trans h.value, regsExcept_trans h.regs (regsExcept_of_regs hregs), hdev.trans h.dev,
    hex.trans h.ex, by rw [hring]; exact h.bypass, hpll.trans h.pll⟩

theorem Stores.keeps {idx sub n m : Nat} {u v t : State} (h : Stores idx sub n u v) (k : Keeps m v t)
    (hm : 327768 &&& m = 327768) : Stores idx sub n u t := by
  have k' : Keeps 327768 v t := k.mono hm
  exact h.then (k'.regs (by decide)) (k'.dev (by decide)) (k'.ex (by decide)) (k'.ring (by decide))
    (by rw [k'.pwr (by decide)])

theorem stores_generation {sub : Nat} (gen : Nat) (u : State) (hj : sub < 256) (hg : gen < 256) :
    Stores 0x5002 sub gen u ((generationRule sub (leBytes 1 gen)).apply u) := by
  have hkeeps : Keeps 327768 (withRg 0x5002 sub gen u) ((generationRule sub (leBytes 1 gen)).apply u) := by
    unfold generationRule
    dsimp only
    rw [leNat_leBytes (by omega)]
    split <;> simp
  exact (stores_withRg 0x5002 gen u hj).keeps hkeeps (by decide)

theorem stores_enable {sub : Nat} (v : Nat) (u : State) (hj : sub < 256) (hv : v < 256) :
    Stores 0xA001 sub v u ((enableRule sub (leBytes 1 v)).apply u) := by
  have hset : ∀ e, Stores 0xA001 sub v u { withRg 0xA001 sub v u with
      pwr := { (withRg 0xA001 sub v u).pwr with pendingEnables := e } } := fun e =>
    (stores_withRg 0xA001 v u hj).then rfl rfl rfl rfl rfl
  have hgate : ∀ w x : State, Keeps 1035773 x (gateChange w x) := fun w x => by simp
  unfold enableRule
  dsimp only
  rw [leNat_leBytes (by omega)]
  split
  · exact hset _
  · exact (hset _).keeps (hgate _ _) (by decide)

theorem stores_reference (v : Nat) (u : State) (hv : v < 256) :
    Stores 0xA010 2 v u ((referenceRule (leBytes 1 v)).apply u) := by
  unfold referenceRule
  dsimp only
  rw [leNat_leBytes (by omega)]
  exact (stores_withRg 0xA010 v u (by decide)).then rfl rfl rfl rfl rfl

/-- Before the engines have been commissioned a configuration write is taken up later. -/
theorem reconfigured_dark {u : State} (h : u.pho.commissioning = 0) : reconfigured u = u := if_pos h

theorem stores_port {sub v : Nat} {s : State} (u : State) (hj : sub < 256) (hv : v < 256 ^ 4) (hcom : u.pho.commissioning = 0) :
    Stores 0x6001 sub v u ((portRule sub (leBytes 4 v) s).apply u) := by
  unfold portRule
  dsimp only
  rw [leNat_leBytes hv, reconfigured_dark (u := withRg 0x6001 sub v u) hcom]
  exact stores_withRg 0x6001 v u hj

theorem nodeRule_apply_dim {v : Bytes} {u : State} (hcom : u.pho.commissioning = 0) :
    (nodeRule 1 v).apply u = withRg 0x6000 1 (leNat v) u := reconfigured_dark (u := withRg 0x6000 1 (leNat v) u) hcom

theorem stores_node {v : Nat} (u : State) (hv : v < 256 ^ 4) (hcom : u.pho.commissioning = 0) :
    Stores 0x6000 1 v u ((nodeRule 1 (leBytes 4 v)).apply u) := by
  rw [nodeRule_apply_dim hcom, leNat_leBytes hv]
  exact stores_withRg 0x6000 v u (by decide)

theorem stores_partition {sub : Nat} (v : Nat) {s : State} (u : State) (hj : sub < 256) :
    Stores 0x4002 sub v u ((partitionRule sub v s).apply u) :=
  (stores_withRg 0x4002 v u hj).then rfl rfl rfl rfl rfl

theorem stores_closeTestPort (u : State) : Stores 0xB020 1 0 u (closeTestPort u) := by
  have hreset : Stores 0xB020 1 0 u (withRg 0xB020 1 0
      { u with test := { u.test with ir := 2, driven := false, highz := false, intrusive := false } }) :=
    ⟨rg_withRg_same .., regsExcept_trans (regsExcept_of_regs rfl) (regsExcept_withRg _ _ (by decide) (by decide)),
      rfl, rfl, rfl, rfl⟩
  unfold closeTestPort
  dsimp only
  split
  · exact hreset.then rfl rfl rfl rfl rfl
  · exact hreset

/-- The rule of the test port's enable takes TRUE or FALSE alone. -/
theorem stores_testPort {v : Nat} {s : State} (u : State) (hv : v < 256)
    (hc : ∀ c ∈ (testPortRule (leBytes 1 v) s).codes, c = 0) :
    Stores 0xB020 1 v u ((testPortRule (leBytes 1 v) s).apply u) := by
  unfold testPortRule at hc ⊢
  dsimp only at hc ⊢
  rw [leNat_leBytes (by omega)] at hc ⊢
  by_cases h0 : v = 0
  · rw [if_pos h0, h0]
    exact stores_closeTestPort u
  · rw [if_neg h0] at hc ⊢
    have h1 : v = 1 := by
      have hcode := hc (need (v == 1) 0x02A00001) (by simp)
      by_contra hne
      simp [need, hne] at hcode
    subst h1
    dsimp only
    split
    · next hopen => exact ⟨hopen, regsExcept_refl _ _, rfl, rfl, rfl, rfl⟩
    · exact ⟨rg_withRg_same .., regsExcept_trans (regsExcept_of_regs rfl) (regsExcept_withRg _ _ (by decide) (by decide)),
        rfl, rfl, rfl, rfl⟩

/-- A rule that only stores its value. -/
theorem stores_storeRule (idx : Nat) {sub : Nat} (value : Bytes) (codes : List Nat) (u : State) (hj : sub < 256) :
    Stores idx sub (leNat value) u ((storeRule idx sub value codes).apply u) := stores_withRg idx _ u hj

theorem stores_startScale {v : Nat} {s : State} (u : State) (hv : v < 256 ^ 4) :
    Stores 0x3040 1 (if s.straps.compat then v / 2 ^ 23 - 127 else v) u ((startScaleRule (leBytes 4 v) s).apply u) := by
  unfold startScaleRule
  dsimp only
  rw [leNat_leBytes hv]
  split
  · exact stores_withRg 0x3040 _ u (by decide)
  · have hstore := stores_storeRule 0x3040 (sub := 1) (leBytes 4 v)
      [need (scaleLimitsOk (rg s 0x3040 3) v (rg s 0x3040 4)) 0x02100009] u (by decide)
    rwa [leNat_leBytes hv] at hstore

end Sys2Proof.Machine

end

section
/-! The setting writes, command by command. -/

namespace Sys2Proof.Machine

/-! ## The rules read the same in the state that a request is judged in -/

theorem portRule_codes {sub : Nat} {v : Bytes} {s t : State} (h : t.regs = s.regs) :
    (portRule sub v t).codes = (portRule sub v s).codes := by
  unfold portRule portOk planesPer dimCount
  simp only [rg_of_regs h]

theorem armRule_codes {v : Bytes} {s t : State} (hdev : t.dev = s.dev) (hex : t.ex = s.ex) :
    (armRule v t).codes = (armRule v s).codes := by
  unfold armRule
  rw [hdev, hex]

theorem startScaleRule_codes {v : Bytes} {s t : State} (h : t.regs = s.regs) (hst : t.straps = s.straps) :
    (startScaleRule v t).codes = (startScaleRule v s).codes := by
  unfold startScaleRule
  simp only [rg_of_regs h, hst]

theorem rateSum_of_regs {s t : State} (h : t.regs = s.regs) (q p n : Nat) : rateSum t q p n = rateSum s q p n := by
  unfold rateSum partRate
  simp only [rg_of_regs h]

theorem partitionRule_codes {sub v : Nat} {s t : State} (h : t.regs = s.regs) :
    (partitionRule sub v t).codes = (partitionRule sub v s).codes := by
  unfold partitionRule
  simp only [rateSum_of_regs h]

theorem testPortRule_heardAs {v : Bytes} (q : Req) (command idx sub : Nat) (s : State) :
    (testPortRule v (heardAs q command idx sub s)).codes = (testPortRule v s).codes := by
  have h : Keeps 524296 s (heardAs q command idx sub s) := by simp
  have hdev := h.dev (by decide)
  have htest := h.test (by decide)
  have htenant := tenantHere_heardAs q command idx sub s
  generalize heardAs q command idx sub s = u at hdev htest htenant
  unfold testPortRule
  rw [hdev, htest, htenant]

/-! ## The rule of an object, by its index -/

theorem not_sessionScoped {idx : Nat} (sub : Nat)
    (h : idx ∉ [0x6010, 0x6021, 0x7000, 0x7001, 0x9020, 0xF001]) : sessionScoped idx sub = false := by
  unfold sessionScoped keyOf
  simp only [List.mem_cons, List.not_mem_nil, or_false, not_or] at h
  rw [Bool.eq_false_iff]
  intro hin
  simp only [List.contains_cons, List.contains_nil, Bool.or_eq_true, beq_iff_eq, Bool.or_false] at hin
  omega

theorem ruleOf_low {q : Req} {idx sub : Nat} {v : Bytes} {s : State} (h : idx < 0x5000) :
    ruleOf q idx sub v s = ruleLow q idx sub v s := by
  unfold ruleOf
  rw [not_sessionScoped sub (by simp only [List.mem_cons, List.not_mem_nil, or_false, not_or]; omega), Bool.false_and,
    if_neg Bool.false_ne_true, if_pos h]

theorem ruleOf_mid {q : Req} {idx sub : Nat} {v : Bytes} {s : State}
    (hown : idx ∉ [0x6010, 0x6021, 0x7000, 0x7001, 0x9020, 0xF001]) (hl : ¬idx < 0x5000) (h : idx < 0x9000) :
    ruleOf q idx sub v s = ruleMid q idx sub v s := by
  unfold ruleOf
  rw [not_sessionScoped sub hown, Bool.false_and, if_neg Bool.false_ne_true, if_neg hl, if_pos h]

theorem ruleOf_high {q : Req} {idx sub : Nat} {v : Bytes} {s : State}
    (hown : idx ∉ [0x6010, 0x6021, 0x7000, 0x7001, 0x9020, 0xF001]) (h : ¬idx < 0x9000) :
    ruleOf q idx sub v s = ruleHigh q idx sub v s := by
  unfold ruleOf
  rw [not_sessionScoped sub hown, Bool.false_and, if_neg Bool.false_ne_true, if_neg (by omega), if_neg h]

/-! ## The commands -/

/-- The condition on the indexes whose writes the fabric takes up. -/
def DarkFabric (idx : Nat) (s : State) : Prop := (idx = 0x6000 ∨ idx = 0x6001) → s.pho.commissioning = 0

theorem not_counted_of {i : Nat} (h : i ≠ 0xF000 ∧ i ≠ 0x1300 ∧ i ≠ 0x6C01) : ¬counted i := by
  unfold counted
  omega

theorem generation_taken {q : Req} {r : Role} {sub gen : Nat} {s : State} (hj : sub < 256) (hg : gen < 256)
    (h : Ready q r s) (w : Writable r 0x5002 sub (leBytes 1 gen) s)
    (hc : ∀ c ∈ (ruleOf q 0x5002 sub (leBytes 1 gen) s).codes, c = 0) :
    SettingTaken q 0x5002 sub gen s (writeReq q 0 0x5002 sub (leBytes 1 gen) (fun _ => generationRule sub (leBytes 1 gen)) s) := by
  rw [ruleOf_mid (by decide) (by decide) (by decide)] at hc
  exact setting_write h w (not_counted_of (by decide)) hj hc rfl (.inl rfl) rfl (stores_generation gen _ hj hg)

theorem enable_taken {q : Req} {r : Role} {sub v : Nat} {s : State} (hj : sub < 256) (hv : v < 256)
    (h : Ready q r s) (w : Writable r 0xA001 sub (leBytes 1 v) s)
    (hc : ∀ c ∈ (ruleOf q 0xA001 sub (leBytes 1 v) s).codes, c = 0) :
    SettingTaken q 0xA001 sub v s (writeReq q 0 0xA001 sub (leBytes 1 v) (fun _ => enableRule sub (leBytes 1 v)) s) := by
  rw [ruleOf_high (by decide) (by decide)] at hc
  exact setting_write h w (not_counted_of (by decide)) hj hc rfl (.inl rfl) rfl (stores_enable v _ hj hv)

theorem reference_taken {q : Req} {r : Role} {v : Nat} {s : State} (hv : v < 256)
    (h : Ready q r s) (w : Writable r 0xA010 2 (leBytes 1 v) s)
    (hc : ∀ c ∈ (ruleOf q 0xA010 2 (leBytes 1 v) s).codes, c = 0) :
    SettingTaken q 0xA010 2 v s (writeReq q 0 0xA010 2 (leBytes 1 v) (fun _ => referenceRule (leBytes 1 v)) s) := by
  rw [ruleOf_high (by decide) (by decide)] at hc
  exact setting_write h w (not_counted_of (by decide)) (by decide) hc rfl (.inl rfl) rfl (stores_reference v _ hv)

theorem pll_taken {q : Req} {r : Role} {sub v : Nat} {s : State} (hj : sub < 256) (hv : v < 256 ^ 4)
    (h : Ready q r s) (w : Writable r 0xA020 sub (leBytes 4 v) s)
    (hc : ∀ c ∈ (ruleOf q 0xA020 sub (leBytes 4 v) s).codes, c = 0) :
    SettingTaken q 0xA020 sub v s (writeReq q 0 0xA020 sub (leBytes 4 v) (fun _ => pllRule sub (leBytes 4 v)) s) := by
  rw [ruleOf_high (by decide) (by decide)] at hc
  have hst := stores_storeRule 0xA020 (sub := sub) (leBytes 4 v)
    (pllRule sub (leBytes 4 v)).codes (actsOn q 0xA020 sub (leBytes 4 v) s) hj
  rw [leNat_leBytes hv] at hst
  exact setting_write h w (not_counted_of (by decide)) hj hc rfl (.inl rfl) rfl hst

theorem holdCommitArm_taken {q : Req} {r : Role} {step : Nat} {s : State} (hv : step < 256 ^ 8)
    (h : Ready q r s) (w : Writable r 0x8010 1 (leBytes 8 step) s)
    (hc : ∀ c ∈ (ruleOf q 0x8010 1 (leBytes 8 step) s).codes, c = 0) :
    SettingTaken q 0x8010 1 step s (writeReq q 0 0x8010 1 (leBytes 8 step) (armRule (leBytes 8 step)) s) := by
  rw [ruleOf_mid (by decide) (by decide) (by decide)] at hc
  have hheard : Keeps 72 s (heardAs q (writeCommand (leBytes 8 step)) 0x8010 1 s) := by simp
  have hst := stores_storeRule 0x8010 (sub := 1) (leBytes 8 step) [] (actsOn q 0x8010 1 (leBytes 8 step) s) (by decide)
  rw [leNat_leBytes hv] at hst
  refine setting_write h w (not_counted_of (by decide)) (by decide) ?_ rfl (.inl rfl) rfl hst
  rw [armRule_codes (hheard.dev (by decide)) (hheard.ex (by decide))]
  exact hc

theorem partition_taken {q : Req} {r : Role} {sub v : Nat} {b : Bytes} {s : State} (hj : sub < 256)
    (h : Ready q r s) (w : Writable r 0x4002 sub b s)
    (hc : ∀ c ∈ (partitionRule sub v s).codes, c = 0) :
    SettingTaken q 0x4002 sub v s (writeReq q 0 0x4002 sub b (partitionRule sub v) s) := by
  have hheard : Keeps 16 s (heardAs q (writeCommand b) 0x4002 sub s) := by simp
  refine setting_write h w (not_counted_of (by decide)) hj ?_ rfl (.inl rfl) rfl (stores_partition v _ hj)
  rw [partitionRule_codes (hheard.regs (by decide))]
  exact hc

theorem startScale_taken {q : Req} {r : Role} {v : Nat} {s : State} (hv : v < 256 ^ 4)
    (h : Ready q r s) (w : Writable r 0x3040 1 (leBytes 4 v) s)
    (hc : ∀ c ∈ (ruleOf q 0x3040 1 (leBytes 4 v) s).codes, c = 0) :
    SettingTaken q 0x3040 1 (if s.straps.compat then v / 2 ^ 23 - 127 else v) s
      (writeReq q 0 0x3040 1 (leBytes 4 v) (startScaleRule (leBytes 4 v)) s) := by
  rw [ruleOf_low (by decide)] at hc
  have hheard : Keeps 48 s (heardAs q (writeCommand (leBytes 4 v)) 0x3040 1 s) := by simp
  have hstraps := hheard.straps (by decide)
  have hst := stores_startScale (s := heardAs q (writeCommand (leBytes 4 v)) 0x3040 1 s)
    (actsOn q 0x3040 1 (leBytes 4 v) s) hv
  rw [hstraps] at hst
  have hshape : ∀ u : State, (startScaleRule (leBytes 4 v) u).later = false ∧
      ((startScaleRule (leBytes 4 v) u).log = none ∨ ∃ v', (startScaleRule (leBytes 4 v) u).log = some (0x3040, 1, v')) ∧
      (startScaleRule (leBytes 4 v) u).after = id := fun u => by
    unfold startScaleRule
    dsimp only
    split
    · exact ⟨rfl, .inr ⟨_, rfl⟩, rfl⟩
    · exact ⟨rfl, .inl rfl, rfl⟩
  obtain ⟨hl, hg, ha⟩ := hshape (heardAs q (writeCommand (leBytes 4 v)) 0x3040 1 s)
  refine setting_write h w (not_counted_of (by decide)) (by decide) ?_ hl hg ha hst
  rw [startScaleRule_codes (hheard.regs (by decide)) hstraps]
  exact hc

theorem testPort_taken {q : Req} {r : Role} {v : Nat} {s : State} (hv : v < 256)
    (h : Ready q r s) (w : Writable r 0xB020 1 (leBytes 1 v) s)
    (hc : ∀ c ∈ (ruleOf q 0xB020 1 (leBytes 1 v) s).codes, c = 0) :
    SettingTaken q 0xB020 1 v s (writeReq q 0 0xB020 1 (leBytes 1 v) (testPortRule (leBytes 1 v)) s) := by
  rw [ruleOf_high (by decide) (by decide)] at hc
  have hcodes : ∀ c ∈ (testPortRule (leBytes 1 v) (heardAs q (writeCommand (leBytes 1 v)) 0xB020 1 s)).codes, c = 0 := by
    rw [testPortRule_heardAs]
    exact hc
  have hshape : ∀ u : State, (testPortRule (leBytes 1 v) u).later = false ∧ (testPortRule (leBytes 1 v) u).log = none ∧
      (testPortRule (leBytes 1 v) u).after = id := fun u => by
    unfold testPortRule
    dsimp only
    split <;> exact ⟨rfl, rfl, rfl⟩
  obtain ⟨hl, hg, ha⟩ := hshape (heardAs q (writeCommand (leBytes 1 v)) 0xB020 1 s)
  exact setting_write h w (not_counted_of (by decide)) (by decide) hcodes hl (.inl hg) ha (stores_testPort _ hv hcodes)

theorem port_taken {q : Req} {r : Role} {sub v : Nat} {s : State} (hj : sub < 256) (hv : v < 256 ^ 4)
    (hcom : s.pho.commissioning = 0) (h : Ready q r s) (w : Writable r 0x6001 sub (leBytes 4 v) s)
    (hc : ∀ c ∈ (ruleOf q 0x6001 sub (leBytes 4 v) s).codes, c = 0) :
    SettingTaken q 0x6001 sub v s (writeReq q 0 0x6001 sub (leBytes 4 v) (fabricRule 0x6001 sub (leBytes 4 v)) s) := by
  rw [ruleOf_mid (by decide) (by decide) (by decide)] at hc
  have hheard : Keeps 16 s (heardAs q (writeCommand (leBytes 4 v)) 0x6001 sub s) := by simp
  have hacts : Keeps 4096 s (actsOn q 0x6001 sub (leBytes 4 v) s) := by simp
  refine setting_write h w (not_counted_of (by decide)) hj ?_ rfl (.inl rfl) rfl
    (stores_port _ hj hv (by rw [hacts.pho (by decide)]; exact hcom))
  change ∀ c ∈ (portRule sub (leBytes 4 v) _).codes, c = 0
  rw [portRule_codes (hheard.regs (by decide))]
  exact hc

theorem node_taken {q : Req} {r : Role} {v : Nat} {s : State} (hv : v < 256 ^ 4) (hcom : s.pho.commissioning = 0)
    (h : Ready q r s) (w : Writable r 0x6000 1 (leBytes 4 v) s) :
    SettingTaken q 0x6000 1 v s (writeReq q 0 0x6000 1 (leBytes 4 v) (fabricRule 0x6000 1 (leBytes 4 v)) s) := by
  have hacts : Keeps 4096 s (actsOn q 0x6000 1 (leBytes 4 v) s) := by simp
  exact setting_write h w (not_counted_of (by decide)) (by decide) (by simp [fabricRule, nodeRule]) rfl (.inl rfl) rfl
    (stores_node _ hv (by rw [hacts.pho (by decide)]; exact hcom))

/-! ## Writes of plain objects -/

/-- The rule of a plain object is one of three, and each only stores the value. -/
theorem plain_taken {q : Req} {r : Role} {idx sub : Nat} {v : Bytes} {s : State} (hp : idx ∈ plainIndexes) (hj : sub < 256)
    (h : Ready q r s) (w : Writable r idx sub v s) (hc : ∀ c ∈ (ruleOf q idx sub v s).codes, c = 0) :
    SettingTaken q idx sub (leNat v) s (writeReq q 0 idx sub v (ruleOf q idx sub v) s) := by
  have hstore : ∀ (codes : List Nat), (∀ u : State, ruleOf q idx sub v u = storeRule idx sub v codes) → ¬counted idx →
      SettingTaken q idx sub (leNat v) s (writeReq q 0 idx sub v (ruleOf q idx sub v) s) := fun codes hrule hi =>
    setting_write h w hi hj (by rw [hrule, ← hrule s]; exact hc) (by rw [hrule]; rfl) (.inl (by rw [hrule]; rfl))
      (by rw [hrule]; rfl) (by rw [hrule]; exact stores_storeRule idx v codes _ hj)
  simp only [plainIndexes, List.mem_cons, List.not_mem_nil, or_false] at hp
  rcases hp with rfl | rfl | rfl | rfl | rfl | rfl
  · have hrule : ruleOf q 0x4002 sub v = partitionRule sub (leNat v) := funext fun u => ruleOf_low (by decide)
    rw [hrule] at hc ⊢
    exact partition_taken hj h w hc
  · exact hstore [] (fun u => ruleOf_low (by decide)) (not_counted_of (by decide))
  · exact hstore [] (fun u => ruleOf_low (by decide)) (not_counted_of (by decide))
  · exact hstore _ (fun u => ruleOf_mid (by decide) (by decide) (by decide)) (not_counted_of (by decide))
  · exact hstore _ (fun u => ruleOf_mid (by decide) (by decide) (by decide)) (not_counted_of (by decide))
  · exact hstore _ (fun u => ruleOf_high (by decide) (by decide)) (not_counted_of (by decide))

/-- A write within its transaction type's limit, in a session, is judged by its object's rule. -/
theorem writeAny_session {q : Req} {r : Role} {hi idx sub : Nat} {v : Bytes} {s : State} (h : Ready q r s)
    (hlo : 1 ≤ v.length) (hlen : v.length ≤ hi) :
    writeAny q hi idx sub v s = writeReq q 0 idx sub v (ruleOf q idx sub v) s := by
  have hlimit : limitCode 1 hi v.length = 0 := by
    unfold limitCode
    simp [need, hlo, hlen]
  unfold writeAny
  dsimp only
  rw [hlimit, if_neg fun hjoin => h.sess hjoin.1]

/-- A write that takes no clock settings into force goes on. -/
theorem settled_same {before after : State} (h : after.pwr.pllInForce = before.pwr.pllInForce) :
    settled before after = .next after := if_neg fun hne => hne.1 h

theorem plain_exec {q : Req} {r : Role} {hi idx sub : Nat} {v : Bytes} {s : State} (hp : idx ∈ plainIndexes)
    (hj : sub < 256) (hlo : 1 ≤ v.length) (hlen : v.length ≤ hi) (h : Ready q r s) (w : Writable r idx sub v s)
    (hc : ∀ c ∈ (ruleOf q idx sub v s).codes, c = 0) :
    ∃ t, settled s (writeAny q hi idx sub v s) = .next t ∧ SettingTaken q idx sub (leNat v) s t := by
  have ht := plain_taken hp hj h w hc
  rw [writeAny_session h hlo hlen]
  exact ⟨_, settled_same ht.pll, ht⟩

/-- The setting writes of `settingOf`, each by its command. -/
theorem setting_exec {i : Instr} {q : Req} {r : Role} {idx sub n : Nat} {v : Bytes} {s : State} (hwf : i.wf = true)
    (hset : settingOf s i = some (q, idx, sub, v, n)) (hdark : DarkFabric idx s) (h : Ready q r s)
    (w : Writable r idx sub v s) (hc : ∀ c ∈ (ruleOf q idx sub v s).codes, c = 0) :
    ∃ t, exec i s = .next t ∧ SettingTaken q idx sub n s t := by
  cases i with
  | transmitGenerationWrite q' sub' gen =>
    simp only [settingOf, Option.some.injEq, Prod.mk.injEq] at hset
    obtain ⟨rfl, rfl, rfl, rfl, rfl⟩ := hset
    simp only [Instr.wf, Bool.and_eq_true, decide_eq_true_eq] at hwf
    exact ⟨_, rfl, generation_taken hwf.1.2 hwf.2 h w hc⟩
  | holdCommitArm q' step =>
    simp only [settingOf, Option.some.injEq, Prod.mk.injEq] at hset
    obtain ⟨rfl, rfl, rfl, rfl, rfl⟩ := hset
    simp only [Instr.wf, Bool.and_eq_true, decide_eq_true_eq] at hwf
    exact ⟨_, rfl, holdCommitArm_taken (by omega) h w hc⟩
  | kz8StartScaleWrite q' value =>
    simp only [settingOf, Option.some.injEq, Prod.mk.injEq] at hset
    obtain ⟨rfl, rfl, rfl, rfl, rfl⟩ := hset
    exact ⟨_, rfl, startScale_taken value.isLt h w hc⟩
  | partitionSettingWrite q' sub' value =>
    simp only [settingOf, Option.some.injEq, Prod.mk.injEq] at hset
    obtain ⟨rfl, rfl, rfl, rfl, rfl⟩ := hset
    simp only [Instr.wf, Bool.and_eq_true, decide_eq_true_eq] at hwf
    rw [ruleOf_low (by decide)] at hc
    refine ⟨_, rfl, partition_taken hwf.2 h w ?_⟩
    have hvalue : leNat (leBytes 4 value.toNat) = value.toNat := leNat_leBytes value.isLt
    rw [← hvalue]
    exact hc
  | blockEnableWrite q' sub' value =>
    simp only [settingOf, Option.some.injEq, Prod.mk.injEq] at hset
    obtain ⟨rfl, rfl, rfl, rfl, rfl⟩ := hset
    simp only [Instr.wf, Bool.and_eq_true, decide_eq_true_eq] at hwf
    exact ⟨_, rfl, enable_taken hwf.1.2 hwf.2 h w hc⟩
  | pllSettingWrite q' sub' value =>
    simp only [settingOf, Option.some.injEq, Prod.mk.injEq] at hset
    obtain ⟨rfl, rfl, rfl, rfl, rfl⟩ := hset
    simp only [Instr.wf, Bool.and_eq_true, decide_eq_true_eq] at hwf
    exact ⟨_, rfl, pll_taken hwf.2 value.isLt h w hc⟩
  | timeReferenceWrite q' value =>
    simp only [settingOf, Option.some.injEq, Prod.mk.injEq] at hset
    obtain ⟨rfl, rfl, rfl, rfl, rfl⟩ := hset
    simp only [Instr.wf, Bool.and_eq_true, decide_eq_true_eq] at hwf
    exact ⟨_, rfl, reference_taken hwf.2 h w hc⟩
  | testPortEnable q' value =>
    simp only [settingOf, Option.some.injEq, Prod.mk.injEq] at hset
    obtain ⟨rfl, rfl, rfl, rfl, rfl⟩ := hset
    simp only [Instr.wf, Bool.and_eq_true, decide_eq_true_eq] at hwf
    exact ⟨_, rfl, testPort_taken hwf.2 h w hc⟩
  | fabricConfigurationWrite q' idx' sub' value =>
    have hsub : sub' < 256 := by
      simp only [Instr.wf, Bool.and_eq_true, decide_eq_true_eq] at hwf
      exact hwf.2
    change (if idx' = 0x6001 then some (q', idx', sub', leBytes 4 value.toNat, value.toNat)
      else if idx' = 0x6000 ∧ sub' = 1 then some (q', idx', sub', leBytes 4 value.toNat, value.toNat) else none) = _ at hset
    by_cases hports : idx' = 0x6001
    · rw [if_pos hports] at hset
      simp only [Option.some.injEq, Prod.mk.injEq] at hset
      obtain ⟨rfl, rfl, rfl, rfl, rfl⟩ := hset
      subst hports
      have ht := port_taken hsub value.isLt (hdark (.inr rfl)) h w hc
      exact ⟨_, settled_same ht.pll, ht⟩
    · rw [if_neg hports] at hset
      by_cases hnode : idx' = 0x6000 ∧ sub' = 1
      · rw [if_pos hnode] at hset
        simp only [Option.some.injEq, Prod.mk.injEq] at hset
        obtain ⟨rfl, rfl, rfl, rfl, rfl⟩ := hset
        obtain ⟨rfl, rfl⟩ := hnode
        have ht := node_taken value.isLt (hdark (.inl rfl)) h w
        exact ⟨_, settled_same ht.pll, ht⟩
      · rw [if_neg hnode] at hset
        cases hset
  | expeditedWrite q' idx' sub' value =>
    simp only [Instr.wf, Bool.and_eq_true, decide_eq_true_eq] at hwf
    change (if idx' ∈ plainIndexes ∧ 1 ≤ value.length ∧ value.length ≤ 8 then
      some (q', idx', sub', value, leNat value) else none) = _ at hset
    by_cases hplain : idx' ∈ plainIndexes ∧ 1 ≤ value.length ∧ value.length ≤ 8
    · rw [if_pos hplain] at hset
      simp only [Option.some.injEq, Prod.mk.injEq] at hset
      obtain ⟨rfl, rfl, rfl, rfl, rfl⟩ := hset
      exact plain_exec hplain.1 hwf.1.2 hplain.2.1 hplain.2.2 h w hc
    · rw [if_neg hplain] at hset
      cases hset
  | segmentedWrite q' idx' sub' value =>
    simp only [Instr.wf, Bool.and_eq_true, decide_eq_true_eq] at hwf
    change (if idx' ∈ plainIndexes ∧ 1 ≤ value.length ∧ value.length ≤ 65536 then
      some (q', idx', sub', value, leNat value) else none) = _ at hset
    by_cases hplain : idx' ∈ plainIndexes ∧ 1 ≤ value.length ∧ value.length ≤ 65536
    · rw [if_pos hplain] at hset
      simp only [Option.some.injEq, Prod.mk.injEq] at hset
      obtain ⟨rfl, rfl, rfl, rfl, rfl⟩ := hset
      exact plain_exec hplain.1 hwf.1.2 hplain.2.1 hplain.2.2 h w hc
    · rw [if_neg hplain] at hset
      cases hset
  | dictionaryWrite q' idx' sub' value =>
    simp only [Instr.wf, Bool.and_eq_true, decide_eq_true_eq] at hwf
    change (if idx' ∈ plainIndexes ∧ 1 ≤ value.length ∧ value.length ≤ 65536 then
      some (q', idx', sub', value, leNat value) else none) = _ at hset
    by_cases hplain : idx' ∈ plainIndexes ∧ 1 ≤ value.length ∧ value.length ≤ 65536
    · rw [if_pos hplain] at hset
      simp only [Option.some.injEq, Prod.mk.injEq] at hset
      obtain ⟨rfl, rfl, rfl, rfl, rfl⟩ := hset
      exact plain_exec hplain.1 hwf.2 hplain.2.1 hplain.2.2 h w hc
    · rw [if_neg hplain] at hset
      cases hset
  | _ => cases hset

end Sys2Proof.Machine

end

section
/-! The setting writes that do more: the dimension count, the engines commissioned again, the boundary, the scale state, and
a partition's rate refused. -/

namespace Sys2Proof.Machine

/-! ## The dimension count (R288) -/

/-- The port assignments of a dimension count. -/
def defaultPorts (v : Nat) (l : List Nat) (s : State) : State :=
  l.foldl (fun s p => withRg 0x6001 (p + 1) (portDefault v p) s) s

theorem defaultPorts_leaves (v : Nat) (l : List Nat) (s : State) : ∃ m, defaultPorts v l s = { s with regs := m } := by
  induction l generalizing s with
  | nil => exact ⟨s.regs, rfl⟩
  | cons p l ih =>
    obtain ⟨m, hm⟩ := ih (withRg 0x6001 (p + 1) (portDefault v p) s)
    exact ⟨m, hm⟩

theorem rg_defaultPorts_other {v i j : Nat} {l : List Nat} (s : State) (hl : ∀ p ∈ l, p < 32) (hj : j < 256)
    (h : ∀ p ∈ l, (i, j) ≠ (0x6001, p + 1)) : rg (defaultPorts v l s) i j = rg s i j := by
  induction l generalizing s with
  | nil => rfl
  | cons p l ih =>
    have hne : keyOf i j ≠ keyOf 0x6001 (p + 1) := fun heq =>
      h p List.mem_cons_self (by
        have hp := hl p List.mem_cons_self
        unfold keyOf at heq
        rw [Prod.mk.injEq]
        omega)
    refine (ih _ (fun k hk => hl k (List.mem_cons_of_mem _ hk)) fun k hk => h k (List.mem_cons_of_mem _ hk)).trans ?_
    exact rg_withRg_other _ s hne

theorem rg_defaultPorts {v p : Nat} {l : List Nat} (s : State) (hl : ∀ p ∈ l, p < 32) (hnd : l.Nodup) (h : p ∈ l) :
    rg (defaultPorts v l s) 0x6001 (p + 1) = portDefault v p := by
  induction l generalizing s with
  | nil => cases h
  | cons k l ih =>
    obtain ⟨hk, hnd'⟩ := List.nodup_cons.mp hnd
    have hl' : ∀ p ∈ l, p < 32 := fun x hx => hl x (List.mem_cons_of_mem _ hx)
    have hp := hl p h
    rcases List.mem_cons.mp h with rfl | hin
    · refine (rg_defaultPorts_other _ hl' (by omega) fun x hx heq => ?_).trans (rg_withRg_same ..)
      rw [Prod.mk.injEq] at heq
      exact hk ((show x = p by omega) ▸ hx)
    · exact ih _ hl' hnd' hin

/-- The objects that a new dimension count sets. -/
def dimensionObjects : List (Nat × Nat) := (0x6000, 2) :: (List.range 32).map fun p => (0x6001, p + 1)

theorem nodeRule_apply_count {v : Bytes} {u : State} (hcom : u.pho.commissioning = 0) :
    (nodeRule 2 v).apply u = defaultPorts (leNat v) (List.range 32) (withRg 0x6000 2 (leNat v) u) := by
  obtain ⟨m, hm⟩ := defaultPorts_leaves (leNat v) (List.range 32) (withRg 0x6000 2 (leNat v) u)
  refine (reconfigured_dark (u := defaultPorts (leNat v) (List.range 32) (withRg 0x6000 2 (leNat v) u)) ?_)
  rw [hm]
  exact hcom

theorem dimension_taken {q : Req} {r : Role} {v : Nat} {s : State} (hv : v < 256) (hcom : s.pho.commissioning = 0)
    (h : Ready q r s) (w : Writable r 0x6000 2 (leBytes 1 v) s) :
    ∃ t, settled s (writeReq q 0 0x6000 2 (leBytes 1 v) (fabricRule 0x6000 2 (leBytes 1 v)) s) = .next t ∧
      rg t 0x6000 2 = v ∧ (∀ p, p < 32 → rg t 0x6001 (p + 1) = portDefault v p) ∧ Answers q 0 [] t ∧
      Logged q 0x6000 2 t ∧ regsExcept dimensionObjects s t ∧ unchangedExcept [.wires, .registers, .ring, .security] s t := by
  have hacts : Keeps 851965 s (actsOn q 0x6000 2 (leBytes 1 v) s) := by simp
  have hsends := (actsOn_bypass q 0x6000 2 (leBytes 1 v) s).trans h.sends
  have hdark : (actsOn q 0x6000 2 (leBytes 1 v) s).pho.commissioning = 0 := by rw [hacts.pho (by decide)]; exact hcom
  rw [write_now (rule := fabricRule 0x6000 2 (leBytes 1 v)) (x := nodeRule 2 (leBytes 1 v)) h w rfl (by simp [nodeRule]) rfl rfl,
    nodeRule_apply_count hdark, leNat_leBytes (by omega)]
  generalize actsOn q 0x6000 2 (leBytes 1 v) s = a at hacts hsends
  have hports : ∀ p, p < 32 → rg (defaultPorts v (List.range 32) (withRg 0x6000 2 v a)) 0x6001 (p + 1) = portDefault v p :=
    fun p hp => rg_defaultPorts _ (fun x hx => List.mem_range.mp hx) List.nodup_range (List.mem_range.mpr hp)
  have hcount : rg (defaultPorts v (List.range 32) (withRg 0x6000 2 v a)) 0x6000 2 = v :=
    (rg_defaultPorts_other _ (fun x hx => List.mem_range.mp hx) (by decide) (by simp)).trans (rg_withRg_same ..)
  have hregs : regsExcept dimensionObjects s (defaultPorts v (List.range 32) (withRg 0x6000 2 v a)) := by
    refine regsExcept_trans (regsExcept_of_regs (hacts.regs (by decide)))
      (regsExcept_trans (regsExcept_withRg v a (by decide) List.mem_cons_self) ?_)
    intro i j hj hnot _ _ _
    refine rg_defaultPorts_other _ (fun x hx => List.mem_range.mp hx) hj fun p hp heq => hnot ?_
    rw [heq]
    exact List.mem_cons_of_mem _ (List.mem_map_of_mem hp)
  obtain ⟨m, hm⟩ := defaultPorts_leaves v (List.range 32) (withRg 0x6000 2 v a)
  have hkeeps : Keeps 1048559 a (defaultPorts v (List.range 32) (withRg 0x6000 2 v a)) := by
    rw [hm]
    exact (keeps_set_regs (u := withRg 0x6000 2 v a) m (by decide)).mpr (by simp)
  have hsends' : (defaultPorts v (List.range 32) (withRg 0x6000 2 v a)).ring.bypassOpen = true := by
    rw [hkeeps.ring (by decide)]; exact hsends
  generalize defaultPorts v (List.range 32) (withRg 0x6000 2 v a) = b at hports hcount hregs hkeeps hsends'
  obtain ⟨hans, hlog, hkept, hrg, hexcept⟩ := answered_write (q := q) (idx := 0x6000) (sub := 2) (v := leBytes 1 v) hsends'
  have hall : Keeps 851949 s (respond q 0 [] (auditWrite q 0x6000 2 (leBytes 1 v) b)) :=
    (hacts.mono (by decide)).trans ((hkeeps.mono (by decide)).trans hkept)
  refine ⟨_, settled_same (by rw [nodeRule]; exact congrArg PowerClock.pllInForce (hall.pwr (by decide))), ?_, fun p hp => ?_,
    hans, hlog, hexcept _ _ hregs, unchanged_of_covered hall rfl⟩
  · exact (hrg _ _ (by decide) (not_counted_of (by decide))).trans hcount
  · exact (hrg _ _ (by omega) (not_counted_of (by decide))).trans (hports p hp)

end Sys2Proof.Machine

end

section
/-! The boundary of quadrant-local memory, the scale state and a partition's rate refused. -/

namespace Sys2Proof.Machine

/-! ## The boundary (R204) -/

theorem retireAll_wc {l : List WcEntry} {s : State} (h : ∀ e ∈ s.mem.wc, ∃ e' ∈ l, e'.line = e.line) :
    (l.foldl (fun s e => retireEntry e s) s).mem.wc = [] := by
  induction l generalizing s with
  | nil =>
    refine List.eq_nil_iff_forall_not_mem.mpr fun e he => ?_
    obtain ⟨e', hnil, -⟩ := h e he
    cases hnil
  | cons x l ih =>
    have hwc := (retireEntry_memory x s).2.2.1
    refine ih fun e he => ?_
    rw [hwc, List.mem_filter] at he
    obtain ⟨e', he', hline⟩ := h e he.1
    rcases List.mem_cons.mp he' with rfl | he'
    · exact absurd hline.symm (by simpa using he.2)
    · exact ⟨e', he', hline⟩

theorem writeBack_wc {s : State} (line : Nat) (h : s.mem.wc = []) : (writeBack line s).mem.wc = [] := by
  have hcharge : ∀ q p n, (regCharge q p n s).mem.wc = [] := fun q p n => by
    rw [(regCharge_memory q p n s).2.2.1, h]
  unfold writeBack
  split
  · exact h
  · dsimp only
    split
    · rw [h]; rfl
    · rw [hcharge]; rfl

theorem writeBackAll_wc {s : State} (h : s.mem.wc = []) : (writeBackAll s).mem.wc = [] := by
  have hfold : ∀ (l : List (Nat × CacheLine)) (u : State), u.mem.wc = [] →
      (l.foldl (fun s p => writeBack p.1 s) u).mem.wc = [] := by
    intro l
    induction l with
    | nil => exact fun u hu => hu
    | cons p l ih => exact fun u hu => ih _ (writeBack_wc p.1 hu)
  exact hfold _ s h

theorem emptyCaches_empty (s : State) :
    (emptyCaches s).mem.msc = [] ∧ (emptyCaches s).mem.wc = [] ∧ (emptyCaches s).mem.shared = [] :=
  ⟨rfl, writeBackAll_wc (retireAll_wc fun e he => ⟨e, he, rfl⟩), rfl⟩

theorem forgetRange_empty {s : State} (n : Nat) (hmsc : s.mem.msc = []) (hwc : s.mem.wc = []) :
    (forgetRange 0 n s).mem.msc = [] ∧ (forgetRange 0 n s).mem.wc = [] ∧
      (forgetRange 0 n s).mem.shared = s.mem.shared ∧ ∀ x ∈ (forgetRange 0 n s).mem.cells, n ≤ x.1 := by
  unfold forgetRange
  dsimp only
  rw [hmsc, hwc]
  refine ⟨rfl, rfl, rfl, fun x hx => ?_⟩
  have hout := (List.mem_filter.mp hx).2
  simp only [decide_eq_true_eq] at hout
  omega

/-- The state with a new boundary. -/
def boundarySet (b : Nat) (s : State) : State := withRg 0x4000 3 b (forgetRange 0 tenantTop (emptyCaches s))

theorem boundarySet_keeps (b : Nat) (s : State) : Keeps 1048047 s (boundarySet b s) := by
  unfold boundarySet
  simp

/-- The objects that a new boundary sets, and those that the write-backs count in. -/
def boundaryObjects : List (Nat × Nat) := (0x4000, 3) :: (List.range 256).map fun j => (0x4021, j)

theorem boundarySet_leaves (b : Nat) (s : State) :
    rg (boundarySet b s) 0x4000 3 = b ∧ (boundarySet b s).mem.msc = [] ∧ (boundarySet b s).mem.wc = [] ∧
      (boundarySet b s).mem.shared = [] ∧ (∀ x ∈ (boundarySet b s).mem.cells, tenantTop ≤ x.1) ∧
      regsExcept boundaryObjects s (boundarySet b s) := by
  obtain ⟨hmsc, hwc, hshared⟩ := emptyCaches_empty s
  obtain ⟨hmsc', hwc', hshared', hcells⟩ := forgetRange_empty tenantTop hmsc hwc
  have hrange : ∀ u : State, (forgetRange 0 tenantTop u).regs = u.regs := fun _ => rfl
  have hempty : RgK 18446744073707454463 s (emptyCaches s) := by simp
  have hregs : regsExcept boundaryObjects s (emptyCaches s) := fun i j hj hnot _ _ _ => by
    by_cases hi : i = 0x4021
    · subst hi
      exact absurd (List.mem_cons_of_mem _ (List.mem_map_of_mem (List.mem_range.mpr hj))) hnot
    · exact objects_of_covered (l := [0x4021]) hempty rfl j (by simpa using hi)
  refine ⟨rg_withRg_same .., hmsc', hwc', hshared'.trans hshared, hcells, ?_⟩
  exact regsExcept_trans hregs (regsExcept_trans (regsExcept_of_regs (hrange _))
    (regsExcept_withRg b _ (by decide) List.mem_cons_self))

theorem boundary_taken {q : Req} {r : Role} {b : Nat} {s : State} (h : Ready q r s)
    (w : Writable r 0x4000 3 (leBytes 1 b) s) :
    ∃ t, exec (.quadrantLocalBoundaryWrite q b) s = .next t ∧ rg t 0x4000 3 = b ∧ t.mem.msc = [] ∧ t.mem.wc = [] ∧
      t.mem.shared = [] ∧ (∀ x ∈ t.mem.cells, tenantTop ≤ x.1) ∧ Answers q 0 [] t ∧ Logged q 0x4000 3 t ∧
      regsExcept boundaryObjects s t ∧ unchangedExcept [.wires, .registers, .memory, .ring, .security] s t := by
  have hexec : exec (.quadrantLocalBoundaryWrite q b) s = .next (respond q 0 [] (auditWrite q 0x4000 3 (leBytes 1 b)
      (boundarySet b (actsOn q 0x4000 3 (leBytes 1 b) s)))) := congrArg Host.Outcome.next
    (write_now (rule := boundaryRule b) h w rfl (by simp [boundaryRule]) rfl rfl)
  have hacts : Keeps 851965 s (actsOn q 0x4000 3 (leBytes 1 b) s) := by simp
  have hsends := (actsOn_bypass q 0x4000 3 (leBytes 1 b) s).trans h.sends
  have hframe := exec_unchanged hexec
  generalize actsOn q 0x4000 3 (leBytes 1 b) s = a at hexec hacts hsends hframe
  obtain ⟨hvalue, hmsc, hwc, hshared, hcells, hregs⟩ := boundarySet_leaves b a
  have hkeeps := boundarySet_keeps b a
  have hsends' : (boundarySet b a).ring.bypassOpen = true := by rw [hkeeps.ring (by decide)]; exact hsends
  generalize boundarySet b a = u at hexec hvalue hmsc hwc hshared hcells hregs hsends' hframe
  obtain ⟨hans, hlog, hkept, hrg, hexcept⟩ := answered_write (q := q) (idx := 0x4000) (sub := 3) (v := leBytes 1 b) hsends'
  have hmem := hkept.mem (by decide)
  exact ⟨_, hexec, (hrg _ _ (by decide) (not_counted_of (by decide))).trans hvalue, by rw [hmem, hmsc], by rw [hmem, hwc],
    by rw [hmem, hshared], by rw [hmem]; exact hcells, hans, hlog,
    hexcept _ _ (regsExcept_trans (regsExcept_of_regs (hacts.regs (by decide))) hregs), hframe⟩

/-! ## The scale state (R158) -/

theorem scaleLoadRule_codes {v : Bytes} {s t : State} (hdev : t.dev = s.dev) (hregs : t.regs = s.regs) :
    (scaleLoadRule v t).codes = (scaleLoadRule v s).codes := by
  unfold scaleLoadRule
  simp only [rg_of_regs hregs, hdev]

/-- The state with a scale state to load at the next step's start. -/
def scaleLoaded (x : ScaleState) (s : State) : State := { s with ex := { s.ex with scaleLoad := some x } }

theorem exec_scaleStateLoad {q : Req} {v : W64} {s : State} (h : Ready q .tenant s)
    (w : Writable .tenant 0x3040 7 (leBytes 8 v.toNat) s) (hc : ∀ c ∈ (scaleLoadRule (leBytes 8 v.toNat) s).codes, c = 0) :
    exec (.scaleStateLoad q v) s = .next (respond q 0 [] (auditWrite q 0x3040 7 (leBytes 8 v.toNat)
      (scaleLoaded (scaleOf v.toNat) (actsOn q 0x3040 7 (leBytes 8 v.toNat) s)))) := by
  have hvalue : leNat (leBytes 8 v.toNat) = v.toNat := leNat_leBytes v.isLt
  have hheard : Keeps 24 s (heardAs q (writeCommand (leBytes 8 v.toNat)) 0x3040 7 s) := by simp
  have hcodes : ∀ c ∈ (scaleLoadRule (leBytes 8 v.toNat)
      (heardAs q (writeCommand (leBytes 8 v.toNat)) 0x3040 7 s)).codes, c = 0 := by
    rw [scaleLoadRule_codes (hheard.dev (by decide)) (hheard.regs (by decide))]
    exact hc
  have hwrite := write_now h w rfl hcodes rfl rfl
  have happly : ∀ u x : State, (scaleLoadRule (leBytes 8 v.toNat) u).apply x = scaleLoaded (scaleOf v.toNat) x := by
    intro u x
    unfold scaleLoadRule
    dsimp only
    rw [hvalue]
    rfl
  rw [happly] at hwrite
  exact congrArg Host.Outcome.next hwrite

theorem scaleLoad_taken {q : Req} {v : W64} {s : State} (h : Ready q .tenant s)
    (w : Writable .tenant 0x3040 7 (leBytes 8 v.toNat) s) (hc : ∀ c ∈ (scaleLoadRule (leBytes 8 v.toNat) s).codes, c = 0) :
    ∃ t, exec (.scaleStateLoad q v) s = .next t ∧ t.ex = { s.ex with scaleLoad := some (scaleOf v.toNat) } ∧
      Answers q 0 [] t ∧ Logged q 0x3040 7 t ∧ regsExcept [] s t ∧
      unchangedExcept [.wires, .registers, .execution, .ring, .security] s t := by
  have hexec := exec_scaleStateLoad h w hc
  have hacts : Keeps 851965 s (actsOn q 0x3040 7 (leBytes 8 v.toNat) s) := by simp
  have hsends := (actsOn_bypass q 0x3040 7 (leBytes 8 v.toNat) s).trans h.sends
  have hframe := exec_unchanged hexec
  generalize actsOn q 0x3040 7 (leBytes 8 v.toNat) s = a at hexec hacts hsends hframe
  have hloaded : (scaleLoaded (scaleOf v.toNat) a).ex = { s.ex with scaleLoad := some (scaleOf v.toNat) } := by
    rw [scaleLoaded, hacts.ex (by decide)]
  have hregs : (scaleLoaded (scaleOf v.toNat) a).regs = s.regs := hacts.regs (by decide)
  obtain ⟨hans, hlog, hkept, -, hexcept⟩ := answered_write (q := q) (idx := 0x3040) (sub := 7) (v := leBytes 8 v.toNat)
    (u := scaleLoaded (scaleOf v.toNat) a) hsends
  exact ⟨_, hexec, (hkept.ex (by decide)).trans hloaded, hans, hlog, hexcept _ _ (regsExcept_of_regs hregs), hframe⟩

/-! ## A partition's rate (R219) -/

theorem partition_refused {q : Req} {sub : Nat} {v : W32} {s : State} (h : Ready q .tenant s)
    (w : Writable .tenant 0x4002 sub (leBytes 4 v.toNat) s) (hbits : bits 17 16 v.toNat = 0)
    (hrate : 5401 < rateSum s ((sub - 1) / 16) ((sub - 1) % 16) v.toNat) :
    ∃ t, exec (.partitionSettingWrite q sub v) s = .next t ∧ Answers q 0x02200001 [] t ∧ t.sec.log = s.sec.log ∧
      regsExcept [] s t ∧ unchangedExcept [.wires, .registers, .ring, .security] s t := by
  have hheard : Keeps 16 s (heardAs q (writeCommand (leBytes 4 v.toNat)) 0x4002 sub s) := by simp
  have hcode : firstByClass (partitionRule sub v.toNat (heardAs q (writeCommand (leBytes 4 v.toNat)) 0x4002 sub s)).codes =
      0x02200001 := by
    rw [partitionRule_codes (hheard.regs (by decide))]
    unfold partitionRule
    dsimp only
    have h1 : need (decide (bits 17 16 v.toNat = 0)) 0x0220FF02 = 0 := by simp [need, hbits]
    have h2 : need (decide (rateSum s ((sub - 1) / 16) ((sub - 1) % 16) v.toNat ≤ 5401)) 0x02200001 = 0x02200001 := by
      simp [need, Nat.not_le.mpr hrate]
    rw [h1, h2]
    cases hdepth : decide (1 ≤ bits 15 0 v.toNat) <;> rfl
  exact ⟨_, rfl, refused_write (rule := partitionRule sub v.toNat) h w rfl hcode (by decide) rfl⟩

end Sys2Proof.Machine

end

section
/-! The engines commissioned again: the ports' PLL settings, and the commissioning that is under way (R269, R284, R429). -/

namespace Sys2Proof.Machine

/-! ## The PLL settings in force -/

theorem lookup_set_other {α : Type} [DecidableEq α] {d v : α} {k j : Nat} (m : List (Nat × α)) (h : j ≠ k) :
    lookup j (set_ d k v m) = lookup j m := by
  unfold set_
  split
  · exact lookup_without_other k j m h
  · exact lookup_put_other k j v m h

theorem pllOf_pllTake_same (k : Nat) (s : State) : pllOf (pllTake [k] s) k = rg s 0xA020 k := at_set_same ..

theorem pllOf_pllTake_other {j k : Nat} (s : State) (h : k ≠ j) : pllOf (pllTake [j] s) k = pllOf s k :=
  congrArg (·.getD (dfltOf 0xA020 k)) (lookup_set_other s.pwr.pllInForce h)

theorem ratiosOk_of_pllOf {s t : State} (h : ∀ k, pllOf t k = pllOf s k) : ratiosOk t = ratiosOk s := by
  unfold ratiosOk
  simp only [h]

theorem pllOf_of_pwr {s t : State} (h : t.pwr = s.pwr) (k : Nat) : pllOf t k = pllOf s k := by
  unfold pllOf
  rw [h]

theorem pllTake_cons (k : Nat) (l : List Nat) (s : State) : pllTake (k :: l) s = pllTake l (pllTake [k] s) := rfl

/-- The four link PLLs' settings taken at once. -/
theorem pllOf_pllTake_links (s : State) (k : Nat) :
    pllOf (pllTake [6, 7, 8, 9] s) k = if 6 ≤ k ∧ k ≤ 9 then rg s 0xA020 k else pllOf s k := by
  have hrg : ∀ (l : List Nat) (u : State) i, rg (pllTake l u) 0xA020 i = rg u 0xA020 i := fun _ _ _ => rfl
  rw [pllTake_cons, pllTake_cons, pllTake_cons]
  by_cases h9 : k = 9
  · subst h9; rw [pllOf_pllTake_same, hrg, hrg, hrg]; rfl
  rw [pllOf_pllTake_other _ h9]
  by_cases h8 : k = 8
  · subst h8; rw [pllOf_pllTake_same, hrg, hrg]; rfl
  rw [pllOf_pllTake_other _ h8]
  by_cases h7 : k = 7
  · subst h7; rw [pllOf_pllTake_same, hrg]; rfl
  rw [pllOf_pllTake_other _ h7]
  by_cases h6 : k = 6
  · subst h6; rw [pllOf_pllTake_same]; rfl
  rw [pllOf_pllTake_other _ h6, if_neg (by omega)]

theorem commissionPort_pwr (p : Nat) (s : State) : (commissionPort p s).pwr = (pllTake [p / 8 + 6] s).pwr := by
  have hkeeps : Keeps 262144 (pllTake [p / 8 + 6] s) (commissionPort p s) := by
    unfold commissionPort
    dsimp only
    split
    · simp
    · split <;> simp
  exact hkeeps.pwr (by decide)

theorem rg_commissionPort (p : Nat) (s : State) (i j : Nat) : rg (commissionPort p s) i j = rg s i j :=
  rg_of_regs ((show Keeps 16 s (commissionPort p s) by simp).regs (by decide)) i j

theorem pllOf_commissionPort_same (p : Nat) (s : State) :
    pllOf (commissionPort p s) (p / 8 + 6) = rg s 0xA020 (p / 8 + 6) := by
  rw [pllOf_of_pwr (commissionPort_pwr p s), pllOf_pllTake_same]

theorem pllOf_commissionPort_other {p k : Nat} (s : State) (h : k ≠ p / 8 + 6) :
    pllOf (commissionPort p s) k = pllOf s k := by
  rw [pllOf_of_pwr (commissionPort_pwr p s), pllOf_pllTake_other s h]

theorem pllOf_commissionPorts_other {l : List Nat} {k : Nat} (s : State) (h : ∀ p ∈ l, k ≠ p / 8 + 6) :
    pllOf (l.foldl (fun s p => commissionPort p s) s) k = pllOf s k := by
  induction l generalizing s with
  | nil => rfl
  | cons p l ih =>
    rw [List.foldl_cons, ih _ fun x hx => h x (List.mem_cons_of_mem _ hx), pllOf_commissionPort_other s (h p List.mem_cons_self)]

theorem pllOf_commissionPorts {l : List Nat} {k : Nat} (s : State) (h : ∃ p ∈ l, k = p / 8 + 6) :
    pllOf (l.foldl (fun s p => commissionPort p s) s) k = rg s 0xA020 k := by
  induction l generalizing s with
  | nil => obtain ⟨p, hnil, -⟩ := h; cases hnil
  | cons p l ih =>
    rw [List.foldl_cons]
    by_cases hl : ∃ x ∈ l, k = x / 8 + 6
    · rw [ih _ hl, rg_commissionPort]
    · rw [pllOf_commissionPorts_other _ fun x hx hk => hl ⟨x, hx, hk⟩]
      obtain ⟨x, hx, hk⟩ := h
      rcases List.mem_cons.mp hx with rfl | hx
      · rw [hk, pllOf_commissionPort_same]
      · exact absurd ⟨x, hx, hk⟩ hl

theorem pllOf_commissionAll (s : State) (k : Nat) :
    pllOf (commissionAll s) k = pllOf (pllTake [6, 7, 8, 9] s) k := by
  have hlit : ∀ u : State, (lightAll u).pwr = u.pwr := fun u =>
    (show Keeps 262144 u (lightAll u) by simp).pwr (by decide)
  have hlasers : ∀ (f : Photonics → Photonics) (u : State), Keeps 262160 u (lightLasers (fun n => n % 32 / 2 == 0) (withPho f u)) :=
    fun f u => by simp
  unfold commissionAll
  dsimp only
  rw [pllOf_of_pwr (hlit _), pllOf_pllTake_links]
  have hsame := hlasers (fun h => { h with
    commissioning := 1, switchovers := [], allLit := false
    lasers := h.lasers.map (fun x => (x.1, if x.2.state = 3 ∨ x.2.state = 4 then x.2 else { x.2 with state := 0 })) }) s
  generalize lightLasers (fun n => n % 32 / 2 == 0) _ = u at hsame ⊢
  split
  · next hk =>
    rw [pllOf_commissionPorts u ⟨8 * (k - 6), List.mem_range.mpr (by omega), by omega⟩, rg_of_regs (hsame.regs (by decide))]
  · next hk =>
    rw [pllOf_commissionPorts_other u fun p hp => by have := List.mem_range.mp hp; omega, pllOf_of_pwr (hsame.pwr (by decide))]

/-! ## The commissioning goes on -/

/-- How far the engines have been commissioned. -/
def commissioned (s : State) : Nat := s.pho.commissioning

theorem commissioned_of_pho {s t : State} (h : t.pho = s.pho) : commissioned t = commissioned s := by
  rw [commissioned, h]; rfl

theorem commissioned_withTx (p c : Nat) (x : TxLane) (s : State) : commissioned (withTx p c x s) = commissioned s := rfl

theorem commissioned_withRx (p c : Nat) (x : RxLane) (s : State) : commissioned (withRx p c x s) = commissioned s := rfl

theorem commissioned_withPort (p : Nat) (x : Port) (s : State) : commissioned (withPort p x s) = commissioned s := rfl

theorem requeue_pho (xs : List Carried) (s : State) : (requeue xs s).pho = s.pho :=
  (show Keeps 4096 s (requeue xs s) by simp).pho (by decide)

theorem commissioned_outTx (p c : Nat) (st : LaneState) (s : State) : commissioned (outTx p c st s) = commissioned s :=
  (commissioned_of_pho (requeue_pho _ (withTx p c _ s))).trans rfl

theorem commissioned_foldl {α : Type} {f : State → α → State} (l : List α) (s : State)
    (hf : ∀ (u : State) (x : α), commissioned (f u x) = commissioned u) : commissioned (l.foldl f s) = commissioned s := by
  induction l generalizing s with
  | nil => rfl
  | cons x l ih => rw [List.foldl_cons, ih, hf]

theorem commissioned_ite {c : Prop} [Decidable c] {a b s : State} (ha : commissioned a = commissioned s)
    (hb : commissioned b = commissioned s) : commissioned (if c then a else b) = commissioned s := by
  split <;> assumption

theorem commissioned_parkRings (tx : Bool) (p : Nat) (s : State) : commissioned (parkRings tx p s) = commissioned s := by
  unfold parkRings
  refine commissioned_foldl _ s fun u c => ?_
  dsimp only
  have hring : commissioned (if ringless u tx p c = true then u else withRing tx p (servingRing u tx p c) { failed := false } u) =
      commissioned u := commissioned_ite rfl rfl
  refine commissioned_ite ?_ ?_
  · rw [commissioned_withTx, commissioned_outTx, hring]
  · rw [commissioned_withRx, hring]

theorem commissioned_sweepAnchor (tx : Bool) (p : Nat) (s : State) : commissioned (sweepAnchor tx p s) = commissioned s :=
  commissioned_ite rfl (commissioned_ite rfl rfl)

theorem commissioned_setDataRings (tx : Bool) (p : Nat) (s : State) :
    commissioned (setDataRings tx p s) = commissioned s := by
  unfold setDataRings
  exact commissioned_foldl _ s fun u c => commissioned_ite rfl (commissioned_ite rfl rfl)

theorem commissioned_portOn (p : Nat) (s : State) : commissioned (portOn p s) = commissioned s := by
  have hon : commissioned (sweepAnchor false p (setDataRings true p s)) = commissioned s := by
    rw [commissioned_sweepAnchor, commissioned_setDataRings]
  unfold portOn
  dsimp only
  generalize sweepAnchor false p (setDataRings true p s) = u at hon
  exact commissioned_ite ((commissioned_setDataRings ..).trans hon) hon

theorem commissioned_lightLasers (which : Nat → Bool) (s : State) : commissioned (lightLasers which s) = commissioned s := rfl

theorem commissioned_lightAll (s : State) : commissioned (lightAll s) = commissioned s := by
  unfold lightAll
  have hlit : ∀ u : State, commissioned (withPho (fun h => { h with allLit := true }) u) = commissioned u := fun _ => rfl
  dsimp only
  refine commissioned_ite rfl ?_
  rw [commissioned_foldl _ _ fun u p => commissioned_portOn p u, hlit, commissioned_lightLasers]

theorem commissioned_txAnchorFound (p : Nat) (s : State) : commissioned (txAnchorFound p s) = commissioned s := by
  unfold txAnchorFound
  exact commissioned_ite ((commissioned_portOn p _).trans (commissioned_withPort ..))
    ((commissioned_lightAll _).trans (commissioned_withPort ..))

theorem commissioned_commissionPort (p : Nat) (s : State) : commissioned (commissionPort p s) = commissioned s := by
  unfold commissionPort
  dsimp only
  refine commissioned_ite ?_ (commissioned_ite ?_ ?_)
  · rw [commissioned_parkRings, commissioned_parkRings, commissioned_withPort]; rfl
  · rw [commissioned_txAnchorFound, commissioned_parkRings, commissioned_parkRings, commissioned_withPort]; rfl
  · rw [commissioned_sweepAnchor, commissioned_parkRings, commissioned_parkRings, commissioned_withPort]; rfl

theorem commissioned_commissionAll (s : State) : commissioned (commissionAll s) = 1 := by
  unfold commissionAll
  dsimp only
  rw [commissioned_lightAll, commissioned_foldl _ _ fun u p => commissioned_commissionPort p u, commissioned_lightLasers]
  rfl

end Sys2Proof.Machine

end

section
/-! A fabric configuration write that commissions the engines again, and the setting writes assembled. -/

namespace Sys2Proof.Machine

theorem objRows_hi : objRows.all (fun r => r.hi < 256) = true := by decide +kernel

/-- A subindex is one byte. -/
theorem sub_lt_of_objExists {s : State} {idx sub : Nat} {write : Bool} (h : objExists s idx sub write = true) : sub < 256 := by
  unfold objExists at h
  by_cases h0 : sub = 0
  · omega
  · rw [if_neg h0] at h
    obtain ⟨-, hrow⟩ := Bool.and_eq_true_iff.mp h
    have hsome : (rowOf idx sub).isSome = true := by
      unfold rowIn at hrow
      cases hr : rowOf idx sub with
      | none => rw [hr] at hrow; exact hrow
      | some r => rfl
    obtain ⟨r, hr⟩ := Option.isSome_iff_exists.mp hsome
    have hmem := List.mem_of_find?_eq_some hr
    have hfits := List.find?_some hr
    have hhi := List.all_eq_true.mp objRows_hi r hmem
    simp only [Bool.and_eq_true, decide_eq_true_eq] at hfits hhi
    omega

theorem reconfigured_lit {u : State} (h : u.pho.commissioning ≠ 0) : reconfigured u = commissionAll u := if_neg h

/-- The port's assignment set and the engines commissioned again. -/
def portSet (sub v : Nat) (s : State) : State := commissionAll (withRg 0x6001 sub v s)

theorem portRule_apply_lit {sub : Nat} {v : Bytes} {s u : State} (h : u.pho.commissioning ≠ 0) :
    (portRule sub v s).apply u = portSet sub (leNat v) u := reconfigured_lit (u := withRg 0x6001 sub (leNat v) u) h

theorem portSet_leaves {sub v : Nat} {s : State} (hj : sub < 256) :
    rg (portSet sub v s) 0x6001 sub = v ∧ (portSet sub v s).pho.commissioning = 1 ∧
      regsExcept [(0x6001, sub)] s (portSet sub v s) ∧ Keeps 774127 s (portSet sub v s) := by
  have hall : Keeps 774143 (withRg 0x6001 sub v s) (commissionAll (withRg 0x6001 sub v s)) := by simp
  have hregs : (portSet sub v s).regs = (withRg 0x6001 sub v s).regs := hall.regs (by decide)
  have hset : Keeps 774127 s (withRg 0x6001 sub v s) := by simp
  exact ⟨(rg_of_regs hregs ..).trans (rg_withRg_same ..), commissioned_commissionAll _,
    regsExcept_trans (regsExcept_withRg v s hj (by simp)) (regsExcept_of_regs hregs), hset.trans (hall.mono (by decide))⟩

/-- A change of an assignment takes no other setting into force than the link PLLs'. -/
theorem ratiosOk_portSet {sub v : Nat} {s u t : State} (hpwr : u.pwr = s.pwr) (hregs : u.regs = s.regs)
    (ht : t.pwr = (portSet sub v u).pwr) : ratiosOk t = ratiosOk (pllTake [6, 7, 8, 9] s) := by
  refine ratiosOk_of_pllOf fun k => ?_
  have hrg : rg (withRg 0x6001 sub v u) 0xA020 k = rg s 0xA020 k :=
    (rg_withRg_other v u (by unfold keyOf; omega)).trans (rg_of_regs hregs ..)
  rw [pllOf_of_pwr ht, portSet, pllOf_commissionAll, pllOf_pllTake_links, pllOf_pllTake_links, hrg,
    pllOf_of_pwr (s := s) (t := withRg 0x6001 sub v u) hpwr]

theorem settled_ratiosOk {before after : State} (h : ratiosOk after = true) : settled before after = .next after :=
  if_neg (by simp [h])

theorem port_recommissions {q : Req} {r : Role} {sub : Nat} {v : W32} {s : State} (hlit : s.pho.commissioning ≠ 0)
    (h : Ready q r s) (w : Writable r 0x6001 sub (leBytes 4 v.toNat) s)
    (hc : ∀ c ∈ (portRule sub (leBytes 4 v.toNat) s).codes, c = 0) (hratios : ratiosOk (pllTake [6, 7, 8, 9] s) = true) :
    ∃ t, exec (.fabricConfigurationWrite q 0x6001 sub v) s = .next t ∧ rg t 0x6001 sub = v.toNat ∧
      t.pho.commissioning = 1 ∧ Answers q 0 [] t ∧ Logged q 0x6001 sub t ∧ regsExcept [(0x6001, sub)] s t ∧
      unchangedExcept [.wires, .registers, .photonics, .fabric, .ring, .security, .power] s t := by
  have hj : sub < 256 := sub_lt_of_objExists w.present
  have hvalue : leNat (leBytes 4 v.toNat) = v.toNat := leNat_leBytes v.isLt
  have hheard : Keeps 16 s (heardAs q (writeCommand (leBytes 4 v.toNat)) 0x6001 sub s) := by simp
  have hacts : Keeps 851965 s (actsOn q 0x6001 sub (leBytes 4 v.toNat) s) := by simp
  have hsends := (actsOn_bypass q 0x6001 sub (leBytes 4 v.toNat) s).trans h.sends
  have hcodes : ∀ c ∈ (portRule sub (leBytes 4 v.toNat)
      (heardAs q (writeCommand (leBytes 4 v.toNat)) 0x6001 sub s)).codes, c = 0 := by
    rw [portRule_codes (hheard.regs (by decide))]
    exact hc
  have hwrite := write_now (rule := fabricRule 0x6001 sub (leBytes 4 v.toNat)) h w rfl hcodes rfl rfl
  have happly : ∀ u x : State, x.pho.commissioning ≠ 0 →
      (fabricRule 0x6001 sub (leBytes 4 v.toNat) u).apply x = portSet sub v.toNat x := fun u x hx => by
    have hlit := portRule_apply_lit (sub := sub) (v := leBytes 4 v.toNat) (s := u) hx
    rw [hvalue] at hlit
    exact hlit
  have hafter : ∀ u x : State, (fabricRule 0x6001 sub (leBytes 4 v.toNat) u).after x = x := fun _ _ => rfl
  rw [hafter, happly _ _ (by rw [hacts.pho (by decide)]; exact hlit)] at hwrite
  have hexec : exec (.fabricConfigurationWrite q 0x6001 sub v) s =
      settled s (writeReq q 0 0x6001 sub (leBytes 4 v.toNat) (fabricRule 0x6001 sub (leBytes 4 v.toNat)) s) := rfl
  rw [hwrite] at hexec
  generalize actsOn q 0x6001 sub (leBytes 4 v.toNat) s = a at hexec hacts hsends
  obtain ⟨hrgv, hcom, hregs, hkeeps⟩ := portSet_leaves (v := v.toNat) (s := a) hj
  have hsends' : (portSet sub v.toNat a).ring.bypassOpen = true := by rw [hkeeps.ring (by decide)]; exact hsends
  obtain ⟨hans, hlog, hkept, hrg, hexcept⟩ := answered_write (q := q) (idx := 0x6001) (sub := sub)
    (v := leBytes 4 v.toNat) hsends'
  rw [settled_ratiosOk ((ratiosOk_portSet (hacts.pwr (by decide)) (hacts.regs (by decide)) (hkept.pwr (by decide))).trans
    hratios)] at hexec
  have hall : Keeps 577517 s (respond q 0 [] (auditWrite q 0x6001 sub (leBytes 4 v.toNat) (portSet sub v.toNat a))) :=
    (hacts.mono (by decide)).trans ((hkeeps.mono (by decide)).trans (hkept.mono (by decide)))
  exact ⟨_, hexec, (hrg _ _ hj (not_counted_of (by decide))).trans hrgv, by rw [hkept.pho (by decide), hcom], hans, hlog,
    hexcept _ _ (regsExcept_trans (regsExcept_of_regs (hacts.regs (by decide))) hregs), unchanged_of_covered hall rfl⟩

end Sys2Proof.Machine

open Sys2Proof Sys2Proof.Machine

/-- Settles O39: every setting write by its object's rule, which stores the value and nothing else of what is named. -/
theorem settingsAreTakenOrRejected : Obligations.SettingsAreTakenOrRejected := by
  unfold Obligations.SettingsAreTakenOrRejected
  refine ⟨fun i q r idx sub v n s hwf hset hdark h w hc => ?_, fun q r v s hv hcom h w => dimension_taken hv hcom h w,
    fun q r sub v s hlit h w hc hratios => port_recommissions hlit h w hc hratios,
    fun q r b s hb h w => boundary_taken h w, fun q v s h w hc => scaleLoad_taken h w hc,
    fun q sub v s h w hbits hrate => partition_refused h w hbits hrate⟩
  obtain ⟨t, hexec, ht⟩ := setting_exec hwf hset hdark h w hc
  exact ⟨t, hexec, ht.value, ht.answered, ht.logged, ht.regs, ht.dev, ht.ex⟩

end

section
/-! Table entries placed, and a port that commissions again (spec/10_fabric.md, spec/11_collectives.md,
spec/09_photonics.md, Lane drop). -/

namespace Sys2Proof.Machine

/-! ## Table entries (R296, R301, R322) -/

theorem entryNum_entryBytes {num : Nat} (entry : W64) (h : num < 2 ^ 16) : entryNum (entryBytes num entry) = num := by
  unfold entryNum entryBytes leAt slice
  rw [List.drop_zero, List.take_append_of_le_length (by rw [length_leBytes]), List.take_of_length_le (by rw [length_leBytes]),
    leNat_leBytes (by omega)]

theorem entryWord_entryBytes (num : Nat) (entry : W64) : entryWord (entryBytes num entry) = entry := by
  have hword : leNat (leBytes 8 entry.toNat) = entry.toNat := leNat_leBytes entry.isLt
  unfold entryWord entryBytes leAt slice
  rw [List.drop_append_of_le_length (by rw [length_leBytes]), List.drop_of_length_le (by rw [length_leBytes]), List.nil_append,
    List.take_of_length_le (by rw [length_leBytes]), hword, BitVec.ofNat_toNat, BitVec.setWidth_eq]

/-- A write whose rule replaces the fabric's tables. -/
theorem table_taken {q : Req} {r : Role} {idx : Nat} {v : Bytes} {rule : State → Rule} {f : Fabric} {s : State}
    (h : Ready q r s) (w : Writable r idx 1 v s) (hc : ∀ c ∈ (rule (heardAs q (writeCommand v) idx 1 s)).codes, c = 0)
    (hl : (rule (heardAs q (writeCommand v) idx 1 s)).later = false)
    (hg : (rule (heardAs q (writeCommand v) idx 1 s)).log = none)
    (ha : (rule (heardAs q (writeCommand v) idx 1 s)).after = id)
    (happly : (rule (heardAs q (writeCommand v) idx 1 s)).apply (actsOn q idx 1 v s) = { actsOn q idx 1 v s with fab := f }) :
    (writeReq q 0 idx 1 v rule s).fab = f ∧ tableWritten q idx s (writeReq q 0 idx 1 v rule s) := by
  have hacts : Keeps 851965 s (actsOn q idx 1 v s) := by simp
  have hsends := (actsOn_bypass q idx 1 v s).trans h.sends
  rw [write_now h w rfl hc hl hg, ha, happly, id]
  generalize actsOn q idx 1 v s = a at hacts hsends
  obtain ⟨hans, hlog, hkept, -, hexcept⟩ := answered_write (q := q) (idx := idx) (sub := 1) (v := v)
    (u := { a with fab := f }) hsends
  have hset : Keeps 843773 s { a with fab := f } := (keeps_set_fab (u := a) f (by decide)).mpr (hacts.mono (by decide))
  exact ⟨(hkept.fab (by decide)).trans rfl, hans, hlog, hexcept _ _ (regsExcept_of_regs (hacts.regs (by decide))),
    unchanged_of_covered (m := 843757) ((hset.mono (by decide)).trans (hkept.mono (by decide))) rfl⟩

theorem exception_taken {q : Req} {r : Role} {num : Nat} {entry : W64} {s : State} (hnum : num < 2 ^ 16) (h : Ready q r s)
    (w : Writable r 0x6010 1 (entryBytes num entry) s) (hok : exceptionOk s num entry = true) :
    ∃ t, exec (.exceptionEntryWrite q num entry) s = .next t ∧
      t.fab = { s.fab with exceptions := putEntry num entry s.fab.exceptions } ∧ tableWritten q 0x6010 s t := by
  have hheard : Keeps 16 s (heardAs q (writeCommand (entryBytes num entry)) 0x6010 1 s) := by simp
  have hacts : Keeps 8192 s (actsOn q 0x6010 1 (entryBytes num entry) s) := by simp
  have hsame : ∀ u : State, u.regs = s.regs → exceptionOk u num entry = exceptionOk s num entry := fun u hu => by
    unfold exceptionOk dimCount nodeAddr
    simp only [rg_of_regs hu]
  refine ⟨_, rfl, table_taken (rule := exceptionRule (entryBytes num entry)) h w ?_ rfl rfl rfl ?_⟩
  · unfold exceptionRule
    simp [need, entryNum_entryBytes entry hnum, entryWord_entryBytes, hsame _ (hheard.regs (by decide)), hok]
  · unfold exceptionRule
    dsimp only
    rw [entryNum_entryBytes entry hnum, entryWord_entryBytes, hacts.fab (by decide)]

theorem override_taken {q : Req} {r : Role} {num : Nat} {entry : W64} {s : State} (hnum : num < 2 ^ 16) (h : Ready q r s)
    (w : Writable r 0x6021 1 (entryBytes num entry) s) (hc : ∀ c ∈ (overrideRule (entryBytes num entry) s).codes, c = 0) :
    ∃ t, exec (.rankOverrideWrite q num entry) s = .next t ∧
      t.fab = { s.fab with overrides := putEntry num entry s.fab.overrides } ∧ tableWritten q 0x6021 s t := by
  have hheard : Keeps 8216 s (heardAs q (writeCommand (entryBytes num entry)) 0x6021 1 s) := by simp
  have hacts : Keeps 8192 s (actsOn q 0x6021 1 (entryBytes num entry) s) := by simp
  refine ⟨_, rfl, table_taken (rule := overrideRule (entryBytes num entry)) h w ?_ rfl rfl rfl ?_⟩
  · unfold overrideRule tablesOpen overridesOk at hc ⊢
    rw [hheard.dev (by decide), hheard.fab (by decide), hheard.regs (by decide)]
    exact hc
  · unfold overrideRule
    dsimp only
    rw [entryNum_entryBytes entry hnum, entryWord_entryBytes, hacts.fab (by decide)]

/-- The state that a request is judged in differs on the wires, in the ring and in the security state alone. -/
theorem heardAs_record (q : Req) (command idx sub : Nat) (s : State) :
    ∃ o r c, heardAs q command idx sub s = { s with sent := o, ring := r, sec := c } := by
  have h : Keeps 851965 s (heardAs q command idx sub s) := by simp
  generalize heardAs q command idx sub s = t at h
  refine ⟨t.sent, t.ring, t.sec, ?_⟩
  rw [← h.pending (by decide), ← h.freeCtr (by decide), ← h.dev (by decide), ← h.regs (by decide), ← h.straps (by decide),
    ← h.ex (by decide), ← h.sites (by decide), ← h.siteMap (by decide), ← h.mem (by decide), ← h.links (by decide),
    ← h.dieErrors (by decide), ← h.pho (by decide), ← h.fab (by decide), ← h.col (by decide), ← h.res (by decide),
    ← h.pwr (by decide), ← h.test (by decide)]

theorem member_taken {q : Req} {r : Role} {num : Nat} {entry : W64} {s : State} (hnum : num < 2 ^ 16) (h : Ready q r s)
    (w : Writable r 0x7000 1 (entryBytes num entry) s) (hc : ∀ c ∈ (memberRule (entryBytes num entry) s).codes, c = 0) :
    ∃ t, exec (.groupMemberEntryWrite q num entry) s = .next t ∧
      t.fab = { s.fab with members := putEntry num entry s.fab.members } ∧ tableWritten q 0x7000 s t := by
  obtain ⟨o, g, c, hheard⟩ := heardAs_record q (writeCommand (entryBytes num entry)) 0x7000 1 s
  have hacts : Keeps 8192 s (actsOn q 0x7000 1 (entryBytes num entry) s) := by simp
  have hcodes : ∀ u, heardAs q (writeCommand (entryBytes num entry)) 0x7000 1 s = u →
      ∀ c ∈ (memberRule (entryBytes num entry) u).codes, c = 0 := fun u hu => by
    rw [← hu, hheard]
    exact hc
  refine ⟨_, rfl, table_taken (rule := memberRule (entryBytes num entry)) h w (hcodes _ rfl) rfl rfl rfl ?_⟩
  unfold memberRule
  dsimp only
  rw [entryNum_entryBytes entry hnum, entryWord_entryBytes, hacts.fab (by decide), hheard]

theorem group_taken {q : Req} {r : Role} {num : Nat} {entry : W64} {s : State} (hnum : num < 2 ^ 16) (h : Ready q r s)
    (w : Writable r 0x7001 1 (entryBytes num entry) s) (hc : ∀ c ∈ (groupRule (entryBytes num entry) s).codes, c = 0) :
    ∃ t, exec (.groupDescriptorWrite q num entry) s = .next t ∧
      t.fab = { s.fab with groups := putEntry num entry s.fab.groups } ∧ tableWritten q 0x7001 s t := by
  obtain ⟨o, g, c, hheard⟩ := heardAs_record q (writeCommand (entryBytes num entry)) 0x7001 1 s
  have hacts : Keeps 8192 s (actsOn q 0x7001 1 (entryBytes num entry) s) := by simp
  have hcodes : ∀ u, heardAs q (writeCommand (entryBytes num entry)) 0x7001 1 s = u →
      ∀ c ∈ (groupRule (entryBytes num entry) u).codes, c = 0 := fun u hu => by
    rw [← hu, hheard]
    exact hc
  refine ⟨_, rfl, table_taken (rule := groupRule (entryBytes num entry)) h w (hcodes _ rfl) rfl rfl rfl ?_⟩
  unfold groupRule
  dsimp only
  rw [entryNum_entryBytes entry hnum, entryWord_entryBytes, hacts.fab (by decide), hheard]

end Sys2Proof.Machine

end

section
/-! A port commissions again: its rings parked, its lanes dark or dropped, its transmit anchor sought (R266, R284). -/

namespace Sys2Proof.Machine

/-! ## What an operation leaves of the ports and of the rings' failures -/

/-- The same ports, the same failed rings and the same settings. -/
structure SameRings (s t : State) : Prop where
  ports : t.pho.ports = s.pho.ports
  failed : ∀ tx p r, (ringOf t tx p r).failed = (ringOf s tx p r).failed
  regs : t.regs = s.regs

theorem SameRings.refl (s : State) : SameRings s s := ⟨rfl, fun _ _ _ => rfl, rfl⟩

theorem SameRings.trans {s t u : State} (h : SameRings s t) (k : SameRings t u) : SameRings s u :=
  ⟨k.ports.trans h.ports, fun tx p r => (k.failed tx p r).trans (h.failed tx p r), k.regs.trans h.regs⟩

theorem portOf_of_ports {s t : State} (h : t.pho.ports = s.pho.ports) (p : Nat) : portOf t p = portOf s p := by
  unfold portOf
  rw [h]

theorem SameRings.servingRing {s t : State} (h : SameRings s t) (tx : Bool) (p c : Nat) :
    Machine.servingRing t tx p c = Machine.servingRing s tx p c := by
  unfold Machine.servingRing
  rw [portOf_of_ports h.ports]

theorem SameRings.ringless {s t : State} (h : SameRings s t) (tx : Bool) (p c : Nat) :
    Machine.ringless t tx p c = Machine.ringless s tx p c := by
  unfold Machine.ringless
  rw [h.servingRing, h.failed]

theorem SameRings.assignment {s t : State} (h : SameRings s t) (p : Nat) : Machine.assignment t p = Machine.assignment s p := by
  unfold Machine.assignment
  rw [rg_of_regs h.regs]

theorem sameRings_withRing {tx : Bool} {p r : Nat} {x : Ring} {s : State} (h : x.failed = (ringOf s tx p r).failed) :
    SameRings s (withRing tx p r x s) := by
  refine ⟨rfl, fun tx' p' r' => ?_, rfl⟩
  unfold ringOf at h ⊢
  by_cases hk : ringKey tx' p' r' = ringKey tx p r
  · rw [hk]
    exact (congrArg Ring.failed (at_set_same ..)).trans h
  · exact congrArg Ring.failed (at_set_other _ _ _ _ _ hk)

theorem sameRings_withTx (p c : Nat) (x : TxLane) (s : State) : SameRings s (withTx p c x s) :=
  ⟨rfl, fun _ _ _ => rfl, rfl⟩

theorem sameRings_withRx (p c : Nat) (x : RxLane) (s : State) : SameRings s (withRx p c x s) :=
  ⟨rfl, fun _ _ _ => rfl, rfl⟩

theorem sameRings_of_pho {s t : State} (h : t.pho = s.pho) (hr : t.regs = s.regs) : SameRings s t :=
  ⟨by rw [h], fun tx p r => by unfold ringOf; rw [h], hr⟩

theorem sameRings_outTx (p c : Nat) (st : LaneState) (s : State) : SameRings s (outTx p c st s) := by
  have hreq : ∀ (xs : List Carried) (u : State), SameRings u (requeue xs u) := fun xs u =>
    sameRings_of_pho (requeue_pho xs u) ((show Keeps 16 u (requeue xs u) by simp).regs (by decide))
  unfold outTx
  exact (sameRings_withTx ..).trans (hreq _ _)

/-! ## Rings parked -/

/-- The state of a lane whose ring is parked. -/
def parkedLane (s : State) (tx : Bool) (p c : Nat) : LaneState :=
  if ringless s tx p c && (assignment s p).isSome then .dropped else .dark

/-- One ring parked, unless it has failed. -/
def parkRing (tx : Bool) (p c : Nat) (s : State) : State :=
  if ringless s tx p c then s else withRing tx p (servingRing s tx p c) { failed := false } s

/-- One ring of a port and direction parked, its lane dark or dropped. -/
def parkOne (tx : Bool) (p : Nat) (s : State) (c : Nat) : State :=
  if tx then
    withTx p c { state := parkedLane s tx p c, noticeSeq := (txOf (parkRing tx p c s) p c).noticeSeq
                 owed := (txOf (parkRing tx p c s) p c).owed } (outTx p c (parkedLane s tx p c) (parkRing tx p c s))
  else withRx p c { state := parkedLane s tx p c } (parkRing tx p c s)

theorem parkRings_eq (tx : Bool) (p : Nat) (s : State) : parkRings tx p s = colours.foldl (parkOne tx p) s := rfl

theorem sameRings_parkRing (tx : Bool) (p c : Nat) (s : State) : SameRings s (parkRing tx p c s) := by
  unfold parkRing
  split
  · exact SameRings.refl s
  · next h => exact sameRings_withRing (by simpa [ringless] using h)

theorem sameRings_parkOne (tx : Bool) (p c : Nat) (s : State) : SameRings s (parkOne tx p s c) := by
  unfold parkOne
  split
  · exact (sameRings_parkRing ..).trans ((sameRings_outTx ..).trans (sameRings_withTx ..))
  · exact (sameRings_parkRing ..).trans (sameRings_withRx ..)

theorem parkRing_lanes (tx : Bool) (p c : Nat) (s : State) :
    (parkRing tx p c s).pho.tx = s.pho.tx ∧ (parkRing tx p c s).pho.rx = s.pho.rx := by
  unfold parkRing
  split <;> exact ⟨rfl, rfl⟩

theorem outTx_lanes (p c : Nat) (st : LaneState) (s : State) :
    (outTx p c st s).pho.rx = s.pho.rx ∧ ∀ k, k ≠ laneKey p c → at_ ({} : TxLane) k (outTx p c st s).pho.tx = at_ {} k s.pho.tx := by
  unfold outTx
  dsimp only
  rw [requeue_pho]
  exact ⟨rfl, fun k hk => at_set_other _ _ _ _ _ hk⟩

/-- Parking a transmit ring sets its own transmit lane alone. -/
theorem parkOne_tx (p c : Nat) (s : State) :
    (txOf (parkOne true p s c) p c).state = parkedLane s true p c ∧ (parkOne true p s c).pho.rx = s.pho.rx ∧
      ∀ k, k ≠ laneKey p c → at_ ({} : TxLane) k (parkOne true p s c).pho.tx = at_ {} k s.pho.tx := by
  obtain ⟨htx, hrx⟩ := parkRing_lanes true p c s
  obtain ⟨hout, hother⟩ := outTx_lanes p c (parkedLane s true p c) (parkRing true p c s)
  unfold parkOne
  rw [if_pos rfl]
  refine ⟨congrArg TxLane.state (at_set_same ..), hout.trans hrx, fun k hk => ?_⟩
  refine (at_set_other _ _ _ _ _ hk).trans ((hother k hk).trans ?_)
  rw [htx]

/-- Parking a receive ring sets its own receive lane alone. -/
theorem parkOne_rx (p c : Nat) (s : State) :
    (rxOf (parkOne false p s c) p c).state = parkedLane s false p c ∧ (parkOne false p s c).pho.tx = s.pho.tx ∧
      ∀ k, k ≠ laneKey p c → at_ ({} : RxLane) k (parkOne false p s c).pho.rx = at_ {} k s.pho.rx := by
  obtain ⟨htx, hrx⟩ := parkRing_lanes false p c s
  unfold parkOne
  rw [if_neg (by decide)]
  refine ⟨congrArg RxLane.state (at_set_same ..), htx, fun k hk => ?_⟩
  refine (at_set_other _ _ _ _ _ hk).trans ?_
  rw [hrx]

theorem SameRings.parkedLane {s t : State} (h : SameRings s t) (tx : Bool) (p c : Nat) :
    Machine.parkedLane t tx p c = Machine.parkedLane s tx p c := by
  unfold Machine.parkedLane
  rw [h.ringless, h.assignment]

theorem sameRings_parkAll (tx : Bool) (p : Nat) (l : List Nat) (s : State) : SameRings s (l.foldl (parkOne tx p) s) := by
  induction l generalizing s with
  | nil => exact SameRings.refl s
  | cons c l ih => exact (sameRings_parkOne tx p c s).trans (ih _)

theorem parkAll_tx_other {p k : Nat} {l : List Nat} (s : State) (h : ∀ c ∈ l, k ≠ laneKey p c) :
    at_ ({} : TxLane) k (l.foldl (parkOne true p) s).pho.tx = at_ {} k s.pho.tx := by
  induction l generalizing s with
  | nil => rfl
  | cons c l ih =>
    rw [List.foldl_cons, ih _ fun x hx => h x (List.mem_cons_of_mem _ hx)]
    exact (parkOne_tx p c s).2.2 k (h c List.mem_cons_self)

theorem parkAll_rx_other {p k : Nat} {l : List Nat} (s : State) (h : ∀ c ∈ l, k ≠ laneKey p c) :
    at_ ({} : RxLane) k (l.foldl (parkOne false p) s).pho.rx = at_ {} k s.pho.rx := by
  induction l generalizing s with
  | nil => rfl
  | cons c l ih =>
    rw [List.foldl_cons, ih _ fun x hx => h x (List.mem_cons_of_mem _ hx)]
    exact (parkOne_rx p c s).2.2 k (h c List.mem_cons_self)

theorem laneKey_ne {p c x : Nat} (h : c ≠ x) : laneKey p c ≠ laneKey p x := by
  unfold laneKey
  omega

theorem parkAll_tx {p c : Nat} {l : List Nat} (s : State) (hl : l.Nodup) (h : c ∈ l) :
    (txOf (l.foldl (parkOne true p) s) p c).state = parkedLane s true p c := by
  induction l generalizing s with
  | nil => cases h
  | cons x l ih =>
    obtain ⟨hx, hnd⟩ := List.nodup_cons.mp hl
    rw [List.foldl_cons]
    by_cases hc : c = x
    · subst hc
      have hother := parkAll_tx_other (p := p) (l := l) (k := laneKey p c) (parkOne true p s c) fun y hy =>
        laneKey_ne fun heq => hx (heq ▸ hy)
      exact (congrArg TxLane.state hother).trans (parkOne_tx p c s).1
    · rw [ih _ hnd ((List.mem_cons.mp h).resolve_left hc), (sameRings_parkOne true p x s).parkedLane]

theorem parkAll_rx {p c : Nat} {l : List Nat} (s : State) (hl : l.Nodup) (h : c ∈ l) :
    (rxOf (l.foldl (parkOne false p) s) p c).state = parkedLane s false p c := by
  induction l generalizing s with
  | nil => cases h
  | cons x l ih =>
    obtain ⟨hx, hnd⟩ := List.nodup_cons.mp hl
    rw [List.foldl_cons]
    by_cases hc : c = x
    · subst hc
      have hother := parkAll_rx_other (p := p) (l := l) (k := laneKey p c) (parkOne false p s c) fun y hy =>
        laneKey_ne fun heq => hx (heq ▸ hy)
      exact (congrArg RxLane.state hother).trans (parkOne_rx p c s).1
    · rw [ih _ hnd ((List.mem_cons.mp h).resolve_left hc), (sameRings_parkOne false p x s).parkedLane]

theorem parkAll_tx_keepsRx (p : Nat) (l : List Nat) (s : State) : (l.foldl (parkOne true p) s).pho.rx = s.pho.rx := by
  induction l generalizing s with
  | nil => rfl
  | cons c l ih => rw [List.foldl_cons, ih, (parkOne_tx p c s).2.1]

theorem parkAll_rx_keepsTx (p : Nat) (l : List Nat) (s : State) : (l.foldl (parkOne false p) s).pho.tx = s.pho.tx := by
  induction l generalizing s with
  | nil => rfl
  | cons c l ih => rw [List.foldl_cons, ih, (parkOne_rx p c s).2.1]

end Sys2Proof.Machine

end

section
/-! RECOMMISSION_PORT of an assigned port (R284), and the table writes assembled. -/

namespace Sys2Proof.Machine

/-- A port's record at the begin of its commissioning, its serialiser's setting in force. -/
def portBegun (p : Nat) (s : State) : State :=
  withPort p { portOf s p with
    state := if (assignment (pllTake [p / 8 + 6] s) p).isSome then 1 else 0, plantSent := false, plantLanes := []
    gen2 := rg (pllTake [p / 8 + 6] s) 0x5002 (p + 1) == 2, slot := none, stage := 0 } (pllTake [p / 8 + 6] s)

/-- A port's rings of both directions parked. -/
def portParked (p : Nat) (s : State) : State := parkRings false p (parkRings true p (portBegun p s))

theorem portBegun_leaves {p : Nat} {s : State} (hused : (assignment s p).isSome = true) :
    (portOf (portBegun p s) p).state = 1 ∧ (portOf (portBegun p s) p).stage = 0 ∧
      (portOf (portBegun p s) p).plantLanes = [] ∧ (∀ k, k ≠ p → portOf (portBegun p s) k = portOf s k) ∧
      (∀ tx c, ringless (portBegun p s) tx p c = ringless s tx p c) ∧ assignment (portBegun p s) p = assignment s p ∧
      (portBegun p s).pho.rx = s.pho.rx := by
  have hport : portOf (portBegun p s) p = { portOf s p with
      state := if (assignment (pllTake [p / 8 + 6] s) p).isSome then 1 else 0, plantSent := false, plantLanes := []
      gen2 := rg (pllTake [p / 8 + 6] s) 0x5002 (p + 1) == 2, slot := none, stage := 0 } := at_set_same ..
  have hassign : assignment (pllTake [p / 8 + 6] s) p = assignment s p := rfl
  have hring : ∀ tx r, ringOf (portBegun p s) tx p r = ringOf s tx p r := fun _ _ => rfl
  refine ⟨?_, ?_, ?_, fun k hk => at_set_other _ _ _ _ _ hk, fun tx c => ?_, hassign, rfl⟩
  · rw [hport, hassign, hused]; rfl
  · rw [hport]
  · rw [hport]
  · unfold ringless servingRing
    rw [hring, hport]
    rfl

/-- An assigned port with a transmit anchor ring seeks it. -/
theorem commissionPort_sweeps {p : Nat} {s : State} (hused : (assignment s p).isSome = true)
    (hanchor : ringless s true p 0 = false) : commissionPort p s = sweepAnchor true p (portParked p s) := by
  obtain ⟨-, -, -, -, hring, -, -⟩ := portBegun_leaves hused
  have hparked : SameRings (portBegun p s) (portParked p s) := by
    unfold portParked
    rw [parkRings_eq, parkRings_eq]
    exact (sameRings_parkAll true p colours _).trans (sameRings_parkAll false p colours _)
  have hnone : ringless (portParked p s) true p 0 = false := by rw [hparked.ringless, hring, hanchor]
  have hassign : (assignment (pllTake [p / 8 + 6] s) p).isSome = true := hused
  have hshape : commissionPort p s =
      if (!(assignment (pllTake [p / 8 + 6] s) p).isSome) = true then portParked p s
      else if ringless (portParked p s) true p 0 = true then txAnchorFound p (portParked p s)
      else sweepAnchor true p (portParked p s) := rfl
  rw [hshape, hassign, if_neg (by decide), hnone, if_neg (by decide)]

theorem mem_colours {c : Nat} (h : c < 16) : c ∈ colours := List.mem_range.mpr h

theorem parkRings_tx {p c : Nat} (s : State) (hc : c < 16) :
    (txOf (parkRings true p s) p c).state = parkedLane s true p c := by
  rw [parkRings_eq]
  exact parkAll_tx s List.nodup_range (mem_colours hc)

theorem parkRings_rx {p c : Nat} (s : State) (hc : c < 16) :
    (rxOf (parkRings false p s) p c).state = parkedLane s false p c := by
  rw [parkRings_eq]
  exact parkAll_rx s List.nodup_range (mem_colours hc)

theorem parkRings_rx_other {p k c : Nat} (s : State) (hk : k ≠ p) (hc : c < 16) :
    rxOf (parkRings false p s) k c = rxOf s k c := by
  rw [parkRings_eq]
  refine parkAll_rx_other s fun x hx => ?_
  have hx16 : x < 16 := List.mem_range.mp hx
  unfold laneKey
  omega

theorem parkRings_keepsRx (p : Nat) (s : State) : (parkRings true p s).pho.rx = s.pho.rx := by
  rw [parkRings_eq]
  exact parkAll_tx_keepsRx p colours s

theorem parkRings_keepsTx (p : Nat) (s : State) : (parkRings false p s).pho.tx = s.pho.tx := by
  rw [parkRings_eq]
  exact parkAll_rx_keepsTx p colours s

theorem sameRings_parkRings (tx : Bool) (p : Nat) (s : State) : SameRings s (parkRings tx p s) := by
  rw [parkRings_eq]
  exact sameRings_parkAll tx p colours s

theorem txOf_of_tx {s t : State} (h : t.pho.tx = s.pho.tx) (p c : Nat) : txOf t p c = txOf s p c := by
  unfold txOf
  rw [h]

theorem rxOf_of_rx {s t : State} (h : t.pho.rx = s.pho.rx) (p c : Nat) : rxOf t p c = rxOf s p c := by
  unfold rxOf
  rw [h]

theorem txOf_withTx_same (p c : Nat) (x : TxLane) (s : State) : txOf (withTx p c x s) p c = x := at_set_same ..

theorem txOf_withTx_other {p c k j : Nat} (x : TxLane) (s : State) (h : laneKey k j ≠ laneKey p c) :
    txOf (withTx p c x s) k j = txOf s k j := at_set_other _ _ _ _ _ h

theorem txOf_withRing (tx : Bool) (p r : Nat) (x : Ring) (s : State) (k j : Nat) :
    txOf (withRing tx p r x s) k j = txOf s k j := rfl

/-- What the begin of a transmit anchor's sweep leaves. -/
theorem sweepAnchor_leaves {p : Nat} {s : State} (h : ringless s true p 0 = false) :
    (txOf (sweepAnchor true p s) p 0).state = .searching ∧
      (∀ c, c ≠ 0 → txOf (sweepAnchor true p s) p c = txOf s p c) ∧
      (sweepAnchor true p s).pho.rx = s.pho.rx ∧ (sweepAnchor true p s).pho.ports = s.pho.ports := by
  unfold sweepAnchor
  dsimp only
  rw [h, if_neg (by decide), if_pos rfl]
  exact ⟨by rw [txOf_withTx_same], fun c hc => by rw [txOf_withTx_other _ _ (laneKey_ne hc), txOf_withRing], rfl, rfl⟩

/-- What a port's commissioning leaves of the port, its lanes and the others. -/
theorem commissionPort_leaves {p : Nat} {s : State} (hused : (assignment s p).isSome = true)
    (hanchor : ringless s true p 0 = false) :
    (portOf (commissionPort p s) p).state = 1 ∧ (portOf (commissionPort p s) p).stage = 0 ∧
      (portOf (commissionPort p s) p).plantLanes = [] ∧ (txOf (commissionPort p s) p 0).state = .searching ∧
      (∀ c, 0 < c → c < 16 → ringless s true p c = false → (txOf (commissionPort p s) p c).state = .dark) ∧
      (∀ c, 0 < c → c < 16 → ringless s true p c = true → (txOf (commissionPort p s) p c).state = .dropped) ∧
      (∀ c, c < 16 → ringless s false p c = false → (rxOf (commissionPort p s) p c).state = .dark) ∧
      (∀ k, k ≠ p → portOf (commissionPort p s) k = portOf s k) ∧
      (∀ k c, k ≠ p → c < 16 → rxOf (commissionPort p s) k c = rxOf s k c) := by
  obtain ⟨hstate, hstage, hplant, hports, hring, hassign, hrx⟩ := portBegun_leaves hused
  have htrue := sameRings_parkRings true p (portBegun p s)
  have hparked : SameRings (portBegun p s) (portParked p s) := htrue.trans (sameRings_parkRings false p _)
  have hlane : ∀ tx c, parkedLane (portBegun p s) tx p c = if ringless s tx p c then .dropped else .dark := fun tx c => by
    unfold parkedLane
    rw [hring, hassign, hused, Bool.and_true]
  have htx : ∀ c, c < 16 → (txOf (portParked p s) p c).state = if ringless s true p c then .dropped else .dark :=
    fun c hc => by
      rw [portParked, txOf_of_tx (parkRings_keepsTx p _), parkRings_tx _ hc, hlane]
  have hrxp : ∀ c, c < 16 → (rxOf (portParked p s) p c).state = if ringless s false p c then .dropped else .dark :=
    fun c hc => by
      rw [portParked, parkRings_rx _ hc, htrue.parkedLane, hlane]
  have hrxk : ∀ k c, k ≠ p → c < 16 → rxOf (portParked p s) k c = rxOf s k c := fun k c hk hc => by
    rw [portParked, parkRings_rx_other _ hk hc, rxOf_of_rx ((parkRings_keepsRx p _).trans hrx)]
  rw [commissionPort_sweeps hused hanchor]
  obtain ⟨hsearch, hstx, hsrx, hsports⟩ := sweepAnchor_leaves (p := p) (s := portParked p s)
    (by rw [hparked.ringless, hring, hanchor])
  have hport : ∀ k, portOf (sweepAnchor true p (portParked p s)) k = portOf (portBegun p s) k :=
    portOf_of_ports (hsports.trans hparked.ports)
  refine ⟨by rw [hport, hstate], by rw [hport, hstage], by rw [hport, hplant], hsearch, fun c h0 hc hr => ?_,
    fun c h0 hc hr => ?_, fun c hc hr => ?_, fun k hk => by rw [hport, hports k hk], fun k c hk hc => by
      rw [rxOf_of_rx hsrx, hrxk k c hk hc]⟩
  · rw [hstx c (by omega), htx c hc, hr]; rfl
  · rw [hstx c (by omega), htx c hc, hr]; rfl
  · rw [rxOf_of_rx hsrx, hrxp c hc, hr]; rfl

theorem port_commissions {q : Req} {r : Role} {p : Nat} {s : State} (h : Ready q r s)
    (w : Writable r 0x5040 1 (leBytes 1 p) s) (hp : p < 32) (hlit : s.pho.commissioning ≠ 0)
    (hcur : s.pwr.cur = .run ∨ s.pwr.cur = .still) (hratios : ratiosOk (pllTake [p / 8 + 6] s) = true) :
    ∃ a, a.pho = s.pho ∧ a.regs = s.regs ∧ ∃ t, exec (.recommissionPort q p) s = .next t ∧
      t.pho = (commissionPort p a).pho ∧ t.pwr = (pllTake [p / 8 + 6] s).pwr ∧ Answers q 0 [] t ∧ Logged q 0x5040 1 t ∧
      regsExcept [] s t ∧ unchangedExcept [.wires, .registers, .photonics, .fabric, .ring, .security, .power] s t := by
  have hvalue : leNat (leBytes 1 p) = p := leNat_leBytes (by omega)
  have hheard : Keeps 266240 s (heardAs q (writeCommand (leBytes 1 p)) 0x5040 1 s) := by simp
  have hacts : Keeps 851965 s (actsOn q 0x5040 1 (leBytes 1 p) s) := by simp
  have hsends := (actsOn_bypass q 0x5040 1 (leBytes 1 p) s).trans h.sends
  have hcodes : ∀ c ∈ (recommissionRule (leBytes 1 p) (heardAs q (writeCommand (leBytes 1 p)) 0x5040 1 s)).codes, c = 0 := by
    unfold recommissionRule
    rw [hheard.pho (by decide), hheard.pwr (by decide), hvalue]
    rcases hcur with hcur | hcur <;> simp [need, hlit, hcur, hp]
  have hwrite := write_now (rule := recommissionRule (leBytes 1 p)) h w rfl hcodes rfl rfl
  have happly : ∀ u x : State, (recommissionRule (leBytes 1 p) u).apply x = commissionPort p x := fun u x => by
    unfold recommissionRule
    rw [hvalue]
  have hafter : ∀ u x : State, (recommissionRule (leBytes 1 p) u).after x = x := fun _ _ => rfl
  rw [hafter, happly] at hwrite
  have hexec : exec (.recommissionPort q p) s =
      settled s (writeReq q 0 0x5040 1 (leBytes 1 p) (recommissionRule (leBytes 1 p)) s) := rfl
  rw [hwrite] at hexec
  generalize actsOn q 0x5040 1 (leBytes 1 p) s = a at hexec hacts hsends
  have hcom : Keeps 774143 a (commissionPort p a) := by simp
  have hsends' : (commissionPort p a).ring.bypassOpen = true := by rw [hcom.ring (by decide)]; exact hsends
  obtain ⟨hans, hlog, hkept, -, hexcept⟩ := answered_write (q := q) (idx := 0x5040) (sub := 1) (v := leBytes 1 p) hsends'
  have htake : (pllTake [p / 8 + 6] a).pwr = (pllTake [p / 8 + 6] s).pwr := by
    have hrg : rg a 0xA020 (p / 8 + 6) = rg s 0xA020 (p / 8 + 6) := rg_of_regs (hacts.regs (by decide)) ..
    unfold pllTake
    simp only [List.foldl_cons, List.foldl_nil, hrg, hacts.pwr (by decide)]
  have hpwr := (hkept.pwr (by decide)).trans ((commissionPort_pwr p a).trans htake)
  rw [settled_ratiosOk ((ratiosOk_of_pllOf (pllOf_of_pwr hpwr)).trans hratios)] at hexec
  have hall : Keeps 577517 s (respond q 0 [] (auditWrite q 0x5040 1 (leBytes 1 p) (commissionPort p a))) :=
    (hacts.mono (by decide)).trans ((hcom.mono (by decide)).trans (hkept.mono (by decide)))
  exact ⟨a, hacts.pho (by decide), hacts.regs (by decide), _, hexec, hkept.pho (by decide), hpwr, hans, hlog,
    hexcept _ _ (regsExcept_of_regs ((hcom.regs (by decide)).trans (hacts.regs (by decide)))), unchanged_of_covered hall rfl⟩

end Sys2Proof.Machine

open Sys2Proof Sys2Proof.Machine

/-- Settles O40: a table write by its rule, and a port's commissioning by what it leaves of the port and the lanes. -/
theorem tablesAndPortsAreConfigured : Obligations.TablesAndPortsAreConfigured := by
  unfold Obligations.TablesAndPortsAreConfigured
  refine ⟨fun q r num entry s hnum h w hok => exception_taken hnum h w hok,
    fun q r num entry s hnum h w hc => override_taken hnum h w hc, fun q r num entry s hnum h w hc => member_taken hnum h w hc,
    fun q r num entry s hnum h w hc => group_taken hnum h w hc,
    fun q r p s h w hp hlit hcur hratios hused hanchor => ?_⟩
  obtain ⟨a, hpho, hregs, t, hexec, htpho, hpwr, hans, hlog, hobj, hframe⟩ := port_commissions h w hp hlit hcur hratios
  have hsame : SameRings s a := sameRings_of_pho hpho hregs
  obtain ⟨hstate, hstage, hplant, hsearch, hdark, hdropped, hrx, hports, hothers⟩ := commissionPort_leaves (p := p) (s := a)
    (by rw [hsame.assignment]; exact hused) (by rw [hsame.ringless]; exact hanchor)
  have hport : ∀ k, portOf t k = portOf (commissionPort p a) k := portOf_of_ports (by rw [htpho])
  have htx : ∀ c, txOf t p c = txOf (commissionPort p a) p c := fun c => txOf_of_tx (by rw [htpho]) p c
  have hrxt : ∀ k c, rxOf t k c = rxOf (commissionPort p a) k c := rxOf_of_rx (by rw [htpho])
  exact ⟨t, hexec, by rw [hport, hstate], by rw [hport, hstage], by rw [hport, hplant], by rw [htx, hsearch],
    fun c h0 hc hr => by rw [htx, hdark c h0 hc (by rw [hsame.ringless]; exact hr)],
    fun c h0 hc hr => by rw [htx, hdropped c h0 hc (by rw [hsame.ringless]; exact hr)],
    fun c hc hr => by rw [hrxt, hrx c hc (by rw [hsame.ringless]; exact hr)],
    fun k hk => (hport k).trans ((hports k hk).trans (portOf_of_ports hsame.ports k)),
    fun k c hk hc => (hrxt k c).trans ((hothers k c hk hc).trans (rxOf_of_rx (by rw [hpho]) k c)), hpwr, hans, hlog, hobj, hframe⟩

end

section
/-! Events are sent in order, a lost-event report before them (spec/13_control_ring.md, Events). -/

namespace Sys2Proof.Machine

/-- The established session of an event's audience. -/
def audienceOf (aud : Nat) (s : State) : Bool := (sessionOf s (if aud = 1 then .operator else .tenant)).isSome

theorem audienceOf_of_sec {s t : State} (h : t.sec = s.sec) (aud : Nat) : audienceOf aud t = audienceOf aud s := by
  unfold audienceOf sessionOf roleOf sessOf
  rw [h]

theorem sendEvent_here {e : Event} {s : State} (h : audienceOf e.aud s = true) : sendEvent e s = sendRing (.event e) s :=
  if_pos h

theorem sendEvent_none {e : Event} {s : State} (h : audienceOf e.aud s = false) : sendEvent e s = s :=
  if_neg (by simpa [audienceOf] using h)

theorem sendRing_sent {o : Output} {s : State} (h : s.ring.bypassOpen = true) : (sendRing o s).sent = s.sent ++ [o] := by
  have hqueue : (queueOut o s).sent = s.sent := (show Keeps 2 s (queueOut o s) by simp).sent (by decide)
  rw [sendRing, if_pos h, emit, hqueue]

theorem sendRing_queue (o : Output) (s : State) :
    (sendRing o s).ring.queue = s.ring.queue ∧ (sendRing o s).ring.lost = s.ring.lost ∧
      (sendRing o s).ring.bypassOpen = s.ring.bypassOpen := by
  obtain ⟨l, n, hring⟩ := sendRing_ring o s
  rw [hring]
  exact ⟨rfl, rfl, rfl⟩

theorem sendEvent_leaves (e : Event) {s : State} (h : s.ring.bypassOpen = true) :
    (sendEvent e s).sent = (if audienceOf e.aud s then s.sent ++ [.event e] else s.sent) ∧
      (sendEvent e s).ring.queue = s.ring.queue ∧ (sendEvent e s).ring.lost = s.ring.lost ∧
      (sendEvent e s).ring.bypassOpen = s.ring.bypassOpen := by
  cases ha : audienceOf e.aud s with
  | true =>
    rw [sendEvent_here ha]
    exact ⟨sendRing_sent h, sendRing_queue ..⟩
  | false =>
    rw [sendEvent_none ha]
    exact ⟨rfl, rfl, rfl, rfl⟩

/-- The state with the first event of the queue taken. -/
def queueTaken (rest : List Event) (s : State) : State := { s with ring := { s.ring with queue := rest } }

theorem sendFirst_cons {e : Event} {rest : List Event} {s : State} (h : s.ring.queue = e :: rest) :
    sendFirst s = sendEvent e (queueTaken rest s) := by
  unfold sendFirst
  rw [h]
  rfl

theorem sendFirst_nil {s : State} (h : s.ring.queue = []) : sendFirst s = s := by
  unfold sendFirst
  rw [h]

/-- Sending the first event takes it from the queue and puts nothing before what was sent. -/
theorem sendFirst_leaves {s : State} (h : s.ring.bypassOpen = true) :
    (sendFirst s).ring.queue = s.ring.queue.tail ∧ (sendFirst s).ring.lost = s.ring.lost ∧ s.sent <+: (sendFirst s).sent := by
  cases hq : s.ring.queue with
  | nil =>
    rw [sendFirst_nil hq]
    exact ⟨hq, rfl, List.prefix_rfl⟩
  | cons e rest =>
    obtain ⟨hsent, hqueue, hlost, -⟩ := sendEvent_leaves e (s := queueTaken rest s) h
    rw [sendFirst_cons hq]
    refine ⟨hqueue, hlost, ?_⟩
    rw [hsent]
    split
    · exact List.prefix_append ..
    · exact List.prefix_rfl

theorem exec_eventTransmit_none {s : State}
    (h : hears s = false ∨ s.ring.bypassOpen = false ∨ s.ring.lost = [] ∧ s.ring.queue = []) :
    exec .eventTransmit s = .next (fresh s) := by
  change execEventTransmit s = _
  have hnil : s.ring.lost = [] → s.ring.queue = [] → execEventTransmit s = .next (fresh s) := fun hl hq => by
    have hl' : (fresh s).ring.lost = [] := hl
    unfold execEventTransmit
    dsimp only
    rw [hl']
    dsimp only
    rw [sendFirst_nil (s := fresh s) hq, ite_self]
  rcases h with h | h | ⟨hl, hq⟩
  · exact congrArg Host.Outcome.next (if_pos (by
      change (!hears s || !s.ring.bypassOpen) = true
      simp [h]))
  · exact congrArg Host.Outcome.next (if_pos (by
      change (!hears s || !s.ring.bypassOpen) = true
      simp [h]))
  · exact hnil hl hq

theorem exec_eventTransmit_first {s : State} (hh : hears s = true) (hopen : s.ring.bypassOpen = true)
    (hl : s.ring.lost = []) : exec .eventTransmit s = .next (sendFirst (fresh s)) := by
  have hgo : ¬(!hears (fresh s) || !(fresh s).ring.bypassOpen) = true := by
    change ¬(!hears s || !s.ring.bypassOpen) = true
    simp [hh, hopen]
  have hl' : (fresh s).ring.lost = [] := hl
  change execEventTransmit s = _
  unfold execEventTransmit
  dsimp only
  rw [if_neg hgo, hl']

theorem exec_eventTransmit_lost {k n : Nat} {rest : List (Nat × Nat)} {s : State} (hh : hears s = true)
    (hopen : s.ring.bypassOpen = true) (hl : s.ring.lost = (k, n) :: rest) (hroom : s.ring.queue.length < 256) :
    exec .eventTransmit s = .next (sendFirst (sendLost k n (fresh s))) := by
  have hgo : ¬(!hears (fresh s) || !(fresh s).ring.bypassOpen) = true := by
    change ¬(!hears s || !s.ring.bypassOpen) = true
    simp [hh, hopen]
  have hl' : (fresh s).ring.lost = (k, n) :: rest := hl
  have hroom' : (fresh s).ring.queue.length < 256 := hroom
  change execEventTransmit s = _
  unfold execEventTransmit
  dsimp only
  rw [if_neg hgo, hl']
  exact congrArg Host.Outcome.next (if_pos hroom')

/-! ## The lost-event report -/

/-- A lost-event report as the history takes it. -/
def lostReport (k n : Nat) (s : State) : Event :=
  ⟨0x0040, k % 4, rg s 0x1300 (k % 4), s.pwr.time, leBytes 2 (k / 4) ++ leBytes 4 n⟩

/-- The state with a count of lost events taken from the list. -/
def lostTaken (k : Nat) (s : State) : State :=
  { s with ring := { s.ring with lost := s.ring.lost.filter (fun p => p.1 ≠ k) } }

/-- The report raised: it is the last of the queue, and its sequence number is used. -/
theorem raiseFor_report {k n : Nat} {s : State} (hroom : s.ring.queue.length < 256) (haud : audienceOf (k % 4) s = true) :
    (raiseFor (k % 4) 0x0040 (leBytes 2 (k / 4) ++ leBytes 4 n) s).ring.queue = s.ring.queue ++ [lostReport k n s] ∧
      (raiseFor (k % 4) 0x0040 (leBytes 2 (k / 4) ++ leBytes 4 n) s).ring.lost = s.ring.lost ∧
      rg (raiseFor (k % 4) 0x0040 (leBytes 2 (k / 4) ++ leBytes 4 n) s) 0x1300 (k % 4) =
        (rg s 0x1300 (k % 4) + 1) % 2 ^ 32 := by
  have haud' : (sessionOf s (if k % 4 = 1 then .operator else .tenant)).isSome = true := haud
  unfold raiseFor
  dsimp only
  rw [haud', if_neg (by simp; omega)]
  refine ⟨?_, ?_, rg_withRg_same ..⟩
  · rw [if_pos rfl]
    split <;> rfl
  · rw [if_pos rfl]
    split <;> rfl

theorem sendLost_leaves {k n : Nat} {s : State} (hopen : s.ring.bypassOpen = true) (hroom : s.ring.queue.length < 256)
    (haud : audienceOf (k % 4) s = true) :
    (sendLost k n s).sent = s.sent ++ [.event (lostReport k n s)] ∧ (sendLost k n s).ring.queue = s.ring.queue ∧
      (sendLost k n s).ring.lost = s.ring.lost.filter (fun p => p.1 ≠ k) ∧
      (sendLost k n s).ring.bypassOpen = true ∧
      rg (sendLost k n s) 0x1300 (k % 4) = (rg s 0x1300 (k % 4) + 1) % 2 ^ 32 := by
  obtain ⟨hqueue, hlost, hseq⟩ := raiseFor_report (k := k) (n := n) (s := lostTaken k s) hroom haud
  have hkeeps : Keeps 131074 (lostTaken k s) (raiseFor (k % 4) 0x0040 (leBytes 2 (k / 4) ++ leBytes 4 n) (lostTaken k s)) := by
    simp
  have hby := raiseFor_bypass (k % 4) 0x0040 (leBytes 2 (k / 4) ++ leBytes 4 n) (lostTaken k s)
  have hreport : lostReport k n (lostTaken k s) = lostReport k n s := rfl
  have hshape : sendLost k n s =
      match (raiseFor (k % 4) 0x0040 (leBytes 2 (k / 4) ++ leBytes 4 n) (lostTaken k s)).ring.queue.drop s.ring.queue.length with
      | e :: _ => sendEvent e (queueTaken s.ring.queue
          (raiseFor (k % 4) 0x0040 (leBytes 2 (k / 4) ++ leBytes 4 n) (lostTaken k s)))
      | [] => raiseFor (k % 4) 0x0040 (leBytes 2 (k / 4) ++ leBytes 4 n) (lostTaken k s) := rfl
  rw [hshape, hqueue]
  have hsent : (raiseFor (k % 4) 0x0040 (leBytes 2 (k / 4) ++ leBytes 4 n) (lostTaken k s)).sent = s.sent :=
    hkeeps.sent (by decide)
  have hsec : (raiseFor (k % 4) 0x0040 (leBytes 2 (k / 4) ++ leBytes 4 n) (lostTaken k s)).sec = s.sec :=
    hkeeps.sec (by decide)
  generalize raiseFor (k % 4) 0x0040 (leBytes 2 (k / 4) ++ leBytes 4 n) (lostTaken k s) = u at hlost hseq hby hsent hsec ⊢
  have hdrop : ((lostTaken k s).ring.queue ++ [lostReport k n (lostTaken k s)]).drop s.ring.queue.length =
      [lostReport k n s] := by
    rw [hreport]
    exact List.drop_left
  rw [hdrop]
  dsimp only
  have hopen' : (queueTaken s.ring.queue u).ring.bypassOpen = true := hby.trans hopen
  have haud' : audienceOf (lostReport k n s).aud (queueTaken s.ring.queue u) = true :=
    (audienceOf_of_sec (s := s) hsec _).trans haud
  obtain ⟨hesent, hequeue, helost, heby⟩ := sendEvent_leaves (lostReport k n s) hopen'
  rw [if_pos haud'] at hesent
  have hrg : ∀ e v, rg (sendEvent e v) 0x1300 (k % 4) = rg v 0x1300 (k % 4) := fun e v =>
    rg_of_regs ((show Keeps 16 v (sendEvent e v) by simp).regs (by decide)) ..
  refine ⟨?_, hequeue, helost.trans hlost, heby.trans hopen', (hrg _ _).trans hseq⟩
  rw [hesent]
  exact congrArg (· ++ [Output.event (lostReport k n s)]) hsent

end Sys2Proof.Machine

open Sys2Proof Sys2Proof.Machine

/-- Settles O49: one event leaves the queue's head, and a lost-event report goes before it. -/
theorem eventsAreSentInOrder : Obligations.EventsAreSentInOrder := by
  unfold Obligations.EventsAreSentInOrder
  refine ⟨fun s h => exec_eventTransmit_none h, fun e rest s hh hopen hl hq => ?_,
    fun k n rest s hh hopen hl hk hroom haud => ?_⟩
  · have hexec := exec_eventTransmit_first hh hopen hl
    rw [sendFirst_cons (s := fresh s) hq] at hexec
    obtain ⟨hsent, hqueue, -, -⟩ := sendEvent_leaves e (s := queueTaken rest (fresh s)) hopen
    have hsec : audienceOf e.aud (queueTaken rest (fresh s)) = audienceOf e.aud s := audienceOf_of_sec rfl _
    have hkeeps : Keeps 983037 s (sendEvent e (queueTaken rest (fresh s))) := by
      have hsend : Keeps 983037 (queueTaken rest (fresh s)) (sendEvent e (queueTaken rest (fresh s))) := by simp
      refine Keeps.trans ?_ hsend
      exact (keeps_set_ring (u := fresh s) _ (by decide)).mpr (by simp)
    refine ⟨_, hexec, hqueue, fun ha => ?_, fun ha => ?_, unchanged_of_covered hkeeps rfl⟩
    · rw [hsent, hsec, audienceOf, ha]; rfl
    · rw [hsent, hsec, audienceOf, ha]; rfl
  · have hexec := exec_eventTransmit_lost hh hopen hl hroom
    obtain ⟨hsent, hqueue, hlost, hopen', hseq⟩ := sendLost_leaves (k := k) (n := n) (s := fresh s) hopen hroom haud
    obtain ⟨hfqueue, hflost, hfsent⟩ := sendFirst_leaves hopen'
    have hrg : rg (sendFirst (sendLost k n (fresh s))) 0x1300 (k % 4) = rg (sendLost k n (fresh s)) 0x1300 (k % 4) :=
      rg_of_regs ((show Keeps 16 _ (sendFirst (sendLost k n (fresh s))) by simp).regs (by decide)) ..
    refine ⟨_, lostReport k n s, hexec, ?_, rfl, rfl, rfl, rfl, hrg.trans hseq, hfqueue.trans (by rw [hqueue]; rfl),
      hflost.trans hlost, exec_unchanged hexec⟩
    obtain ⟨l, hl'⟩ := hfsent
    rw [← hl', hsent]
    rfl

end

section
/-! A bulk block written to a line that a shared cache holds, refuted (spec/13_control_ring.md, Bulk channels). -/

namespace Sys2Proof.Machine

/-- A bulk channel to the module that waits for its only block to be written. -/
def oneBlockChan : BulkChan := { state := 1, length := 1, unacked := [(0, 0)] }

/-- A module in Run, memory powered, whose buffer 0 lies at address 0, whose first line the first compute die's shared cache holds. -/
def sharedBuffer : State :=
  { regs := [(keyOf 0x1210 1, 2 ^ 64), (keyOf 0xA001 13, 3)]
    ring := { bypassOpen := true, channels := [(0, oneBlockChan)] }
    mem := { trained := true, shared := [(shSlice 0, [0])] }
    pwr := { cur := .run } }

/-- What a command's next state has sent. -/
def sentAfter (o : Out) : List Output :=
  match o with
  | .next t => t.sent
  | _ => []

/-- The write drops the line from the shared cache: the invalidation goes out before the acknowledgement (R208). -/
theorem sharedBuffer_invalidates : sentAfter (exec (.bulkBlockWritten 0 0 [1]) sharedBuffer) =
    [.invalidate 4 0, .blockAck ⟨0, true, 0, 0, 0, 0⟩] := by decide +kernel

theorem sharedBuffer_canonical : sharedBuffer.canonical :=
  ⟨by decide, by decide, ⟨by decide, fun _ h => absurd h List.not_mem_nil⟩, ⟨fun _ h => absurd h List.not_mem_nil, by decide⟩,
    fun _ h => absurd h List.not_mem_nil⟩

end Sys2Proof.Machine

open Sys2Proof Sys2Proof.Machine

/-- Refutes O48: its last clause has the written block's acknowledgement be all that is sent. A write at the point of
coherence invalidates the line in every shared cache that holds it (R208), so the invalidation is sent too. -/
theorem not_bulkChannelsMoveTheirRange : ¬ Obligations.BulkChannelsMoveTheirRange := by
  intro h
  obtain ⟨-, -, -, -, hwritten⟩ := h
  obtain ⟨t, hexec, hsent, -⟩ := hwritten 0 0 0 0 oneBlockChan [1] sharedBuffer sharedBuffer_canonical rfl rfl (by decide)
    rfl (by decide +kernel) rfl rfl (by decide) (by decide) (by decide +kernel)
  have hafter := sharedBuffer_invalidates
  rw [hexec] at hafter
  exact absurd (hsent.symm.trans hafter) (by decide)

end

section
/-! Requests are answered once and again from the record, and reads answer the value (spec/13_control_ring.md, Dictionary
transactions; spec/00_scope.md, Object tables). -/

namespace Sys2Proof.Machine

/-! ## What a read answers (R406) -/

/-- A state that differs in what was sent, in the messages received and in the notes of the sessions alone. -/
structure NotedRecord (s t : State) : Prop where
  noted : NotedOnly s t
  record : ∃ o i l, t = { s with sent := o, ring := { s.ring with inbox := i }, sec := { s.sec with sessions := l } }

theorem ownVal_noted {s t : State} (h : NotedOnly s t) (sess idx sub : Nat) : ownVal t sess idx sub = ownVal s sess idx sub := by
  obtain ⟨a, ha⟩ := h.1 sess
  unfold ownVal
  rw [ha]

theorem computedLow_noted {s t : State} (h : NotedRecord s t) (idx sub : Nat) : computedLow t idx sub = computedLow s idx sub := by
  obtain ⟨o, i, l, rfl⟩ := h.record
  unfold computedLow
  rfl

theorem computedMid_noted {s t : State} (h : NotedRecord s t) (sess idx sub : Nat) :
    computedMid t sess idx sub = computedMid s sess idx sub := by
  have hown := ownVal_noted h.noted sess
  obtain ⟨o, i, l, rfl⟩ := h.record
  unfold computedMid
  simp only [hown]
  rfl

theorem quoteBytes_noted {s t : State} (h : NotedRecord s t) (sess : Nat) : quoteBytes t sess = quoteBytes s sess := by
  have hown := ownVal_noted h.noted sess
  obtain ⟨a, ha⟩ := h.noted.1 sess
  obtain ⟨o, i, l, rfl⟩ := h.record
  unfold quoteBytes quoteBody
  dsimp only
  rw [hown, ha]
  rfl

theorem computedHigh_noted {s t : State} (h : NotedRecord s t) (sess idx sub : Nat) :
    computedHigh t sess idx sub = computedHigh s sess idx sub := by
  have hown := ownVal_noted h.noted sess
  have hquote := quoteBytes_noted h sess
  have hstatus : ∀ n, sessionStatus (sessOf t n) = sessionStatus (sessOf s n) := fun n => by
    obtain ⟨a, ha⟩ := h.noted.1 n
    rw [ha]
    rfl
  have hkey : ∀ n, (sessOf t n).key = (sessOf s n).key := fun n => by
    obtain ⟨a, ha⟩ := h.noted.1 n
    rw [ha]
  obtain ⟨o, i, l, rfl⟩ := h.record
  unfold computedHigh
  simp only [hown, hquote, hstatus, hkey]
  rfl

theorem valueOf_noted {s t : State} (h : NotedRecord s t) (sess idx sub : Nat) : valueOf t sess idx sub = valueOf s sess idx sub := by
  have hown := ownVal_noted h.noted sess
  have hcomputed : computedValue t sess idx sub = computedValue s sess idx sub := by
    unfold computedValue
    rw [computedLow_noted h, computedMid_noted h, computedHigh_noted h]
  have hplain : plainValue t sess idx sub = plainValue s sess idx sub := by
    unfold plainValue
    rw [hcomputed, hown]
    obtain ⟨o, i, l, rfl⟩ := h.record
    rfl
  unfold valueOf
  rw [hplain]
  obtain ⟨o, i, l, rfl⟩ := h.record
  rfl

theorem heardAs_notedRecord (q : Req) (command idx sub : Nat) (s : State) : NotedRecord s (heardAs q command idx sub s) := by
  have hnoted := heardAs_noted q command idx sub s
  obtain ⟨i, hring⟩ := heardAs_ring q command idx sub s
  obtain ⟨l, hsec⟩ := hnoted.2
  obtain ⟨o, r, c, hrecord⟩ := heardAs_record q command idx sub s
  refine ⟨hnoted, o, i, l, ?_⟩
  rw [hrecord] at hring hsec ⊢
  rw [← hring, ← hsec]

/-- The code of a read is the same when only notes differ. -/
theorem readCode_noted {s t : State} (h : NotedRecord s t) (q : Req) (proto idx sub : Nat) :
    readCode q proto idx sub t = readCode q proto idx sub s := by
  obtain ⟨a, ha⟩ := h.noted.1 q.sess
  have hrole := noted_role h.noted q.sess
  obtain ⟨o, i, l, rfl⟩ := h.record
  unfold readCode
  rw [hrole, ha]
  rfl

theorem readLimit_noted {s t : State} (h : NotedRecord s t) (lo hi len : Nat) (q : Req) (idx sub : Nat) :
    readLimit lo hi len q idx sub t = readLimit lo hi len q idx sub s := by
  have hvalue := valueOf_noted h q.sess idx sub
  unfold readLimit
  rw [hvalue]
  obtain ⟨o, i, l, rfl⟩ := h.record
  rfl

theorem limitCode_within {lo hi n : Nat} (hlo : lo ≤ n) (hhi : n ≤ hi) : limitCode lo hi n = 0 := by
  simp [limitCode, need, hlo, hhi]

/-- A read within the limits of its type has no protocol error. -/
theorem readLimit_within {lo hi len : Nat} {q : Req} {idx sub : Nat} {s : State} (hlo : lo ≤ len) (hhi : len ≤ hi)
    (hvalue : (valueOf s q.sess idx sub).length ≤ hi) : readLimit lo hi len q idx sub s = 0 := by
  unfold readLimit
  rw [limitCode_within hlo hhi, limitCode_within (Nat.zero_le _) hvalue]
  simp

/-! ## Requests on arrival (R393, R404) -/

theorem arrival_heard (q : Req) (s : State) : arrival q (heard q s) = arrival q s := by
  obtain ⟨a, ha⟩ := (heard_noted q s).1 q.sess
  have hpwr := (heard_same q s).2.2.2
  unfold arrival
  simp only [ha, hpwr]

theorem onArrival_again {q : Req} {r : Response} {s : State} (h : arrival q s = .again r) (f : State → State) :
    onArrival q f s = sendRing (.response q.sess q.msg r.code r.data) (bump 0x1101 4 1 (heard q s)) := by
  have h' := (arrival_heard q s).trans h
  unfold onArrival
  simp only [heard] at h'
  simp only [h', heard]

theorem onArrival_underWay {q : Req} {s : State} (h : arrival q s = .underWay) (f : State → State) :
    onArrival q f s = heard q s := by
  have h' := (arrival_heard q s).trans h
  unfold onArrival
  simp only [heard] at h'
  simp only [h', heard]

theorem onArrival_of_taken {q : Req} {s : State} (h : arrival q s = .taken) (f : State → State) :
    onArrival q f s = f (heard q s) := by
  have h' := (arrival_heard q s).trans h
  unfold onArrival
  simp only [heard] at h'
  simp only [h', heard]

/-- A request of an established session that the module hears, by what its session has of it. -/
theorem arrival_session {q : Req} {s : State} (hr : s.pwr.inReset = false) (he : (sessOf s q.sess).state = .established) :
    (∀ r, (sessOf s q.sess).responses.find? (fun r => r.msg == q.msg) = some r → arrival q s = .again r) ∧
      ((sessOf s q.sess).responses.find? (fun r => r.msg == q.msg) = none →
        arrival q s = if (sessOf s q.sess).inProgress.contains q.msg then .underWay else .taken) := by
  constructor
  · intro r h
    unfold arrival
    simp [hr, he, h]
  · intro h
    unfold arrival
    simp [hr, he, h]

/-- Every command that a dictionary transaction brings in a session acts on a request that has arrived. -/
theorem exec_of_requestOf {i : Instr} {q : Req} (s : State) (hwf : i.wf = true) (hreq : requestOf i = some q)
    (hsess : q.sess ≠ 0) :
    ∃ f, exec i s = .next (onArrival q f s) ∨ exec i s = settled s (onArrival q f s) := by
  have hnext : ∀ {u : State}, (∃ f, u = onArrival q f s) →
      ∃ f, (.next u : Out) = .next (onArrival q f s) ∨ (.next u : Out) = settled s (onArrival q f s) :=
    fun ⟨f, hf⟩ => ⟨f, .inl (congrArg _ hf)⟩
  have hsettled : ∀ {u : State}, (∃ f, u = onArrival q f s) →
      ∃ f, settled s u = .next (onArrival q f s) ∨ settled s u = settled s (onArrival q f s) :=
    fun ⟨f, hf⟩ => ⟨f, .inr (congrArg _ hf)⟩
  have hany : ∀ hi idx sub v, ∃ f, writeAny q hi idx sub v s = onArrival q f s := fun hi idx sub v =>
    ⟨_, if_neg fun h => hsess h.1⟩
  have hfacility : ∀ v, ∃ f, facilityCommand q v s = onArrival q f s := fun v => by
    unfold facilityCommand writeReq
    exact ⟨_, rfl⟩
  have hjob : ∀ v, ∃ f, jobCommand q v s = onArrival q f s := fun v => by
    unfold jobCommand writeReq
    exact ⟨_, rfl⟩
  have hgen : ∀ op g, ∃ f, genRequest op q g s = onArrival q f s := fun op g => by
    unfold genRequest writeReq
    exact ⟨_, rfl⟩
  have htest : ∀ kind target reserved, ∃ f, selfTest kind q target reserved s = onArrival q f s :=
    fun kind target reserved => by
      unfold selfTest writeReq
      exact ⟨_, rfl⟩
  cases i with
  | leave _ | clearFault _ =>
    cases hreq
    exact hnext (hfacility _)
  | prepare _ | run _ | hold _ | release _ | unprepare _ =>
    cases hreq
    exact hnext (hjob _)
  | generatorWriteReadCheck _ _ | generatorWrite _ _ | generatorReadCheck _ _ | generatorStopAll _ _ =>
    cases hreq
    exact hnext (hgen _ _)
  | selfTestTileStores _ _ _ | selfTestSharedCache _ _ _ | selfTestMemorySideCache _ _ _ | selfTestHbmStack _ _ _ =>
    cases hreq
    exact hnext (htest _ _ _)
  | expeditedWrite _ _ _ _ | segmentedWrite _ _ _ _ | dictionaryWrite _ _ _ _ =>
    cases hreq
    exact hsettled (hany _ _ _ _)
  | recommissionPort _ _ | powerStateRequest _ _ =>
    cases hreq
    exact hsettled ⟨_, rfl⟩
  | fabricConfigurationWrite q' idx sub v =>
    cases hreq
    have hidx : (idx = 0x6000 ∧ (sub = 1 ∨ sub = 2)) ∨ idx = 0x6001 := by
      simp [Instr.wf] at hwf
      omega
    exact ⟨_, .inr (if_pos hidx)⟩
  | enrolmentWrite q' idx sub key =>
    cases hreq
    have hidx : idx = 0x9003 ∨ idx = 0x9004 := by
      simp [Instr.wf] at hwf
      omega
    exact ⟨_, .inl (congrArg Host.Outcome.next (if_pos hidx))⟩
  | _ => cases hreq <;> exact ⟨_, .inl rfl⟩

/-- A command that leaves a request unexecuted. -/
theorem exec_requestOf_unexecuted {i : Instr} {q : Req} {s u : State} (hwf : i.wf = true) (hreq : requestOf i = some q)
    (hsess : q.sess ≠ 0) (harr : ∀ f, onArrival q f s = u) (hpll : u.pwr.pllInForce = s.pwr.pllInForce) :
    exec i s = .next u := by
  obtain ⟨f, h | h⟩ := exec_of_requestOf s hwf hreq hsess
  · rw [h, harr]
  · rw [h, harr, settled_same hpll]

/-- A request answered before is answered again from the record. -/
theorem answeredAgain {q : Req} {r : Response} {s t : State} (hopen : s.ring.bypassOpen = true)
    (ht : t = sendRing (.response q.sess q.msg r.code r.data) (bump 0x1101 4 1 (heard q s))) :
    t.sent = [.response q.sess q.msg r.code r.data] ∧ (sessOf t q.sess).responses = (sessOf s q.sess).responses ∧
      rg t 0x1101 4 = satAdd (sizeOf_ 0x1101 4) (rg s 0x1101 4) 1 ∧ regsExcept [(0x1101, 4)] s t ∧
      unchangedExcept [.wires, .registers, .ring, .security] s t := by
  obtain ⟨i, hring⟩ := heard_ring q s
  obtain ⟨a, ha⟩ := (heard_noted q s).1 q.sess
  have hbumped : Keeps 1048559 (heard q s) (bump 0x1101 4 1 (heard q s)) := by simp
  have hbypass : (bump 0x1101 4 1 (heard q s)).ring.bypassOpen = true := by
    rw [hbumped.ring (by decide), hring]
    exact hopen
  have hsends : Keeps 983037 (bump 0x1101 4 1 (heard q s)) t := by
    rw [ht]
    simp
  have hregs : (heard q s).regs = s.regs := (heard_same q s).1
  refine ⟨?_, ?_, ?_, ?_, ?_⟩
  · rw [ht, sendRing_sent hbypass, hbumped.sent (by decide), heard_sent]
    rfl
  · have hsess : sessOf t q.sess = sessOf (heard q s) q.sess := by
      unfold sessOf
      rw [hsends.sec (by decide), hbumped.sec (by decide)]
    rw [hsess, ha]
  · rw [rg_of_regs (hsends.regs (by decide)), ← rg_of_regs hregs]
    exact rg_withRg_same ..
  · exact regsExcept_trans (regsExcept_of_regs hregs)
      (regsExcept_trans (regsExcept_bump _ _ (by decide) (by decide)) (regsExcept_of_regs (hsends.regs (by decide))))
  · have h : Keeps 851949 s t := by
      rw [ht]
      simp
    exact unchanged_of_covered h rfl

/-! ## Reads (R10, R405, R406) -/

/-- A read in one message, taken and within its limits. -/
theorem readAny_taken {q : Req} {hi idx sub len : Nat} {s : State} (ht : arrival q s = .taken) (hlo : 1 ≤ len)
    (hhi : len ≤ hi) (hvalue : (valueOf s q.sess idx sub).length ≤ hi) :
    (readCode q 0 idx sub s = 0 → readAny q hi idx sub len s =
        respond q 0 (valueOf s q.sess idx sub)
          (forwardAccess false idx sub (heardAs q (if hi ≤ 8 then 2 else 4) idx sub s))) ∧
      (readCode q 0 idx sub s ≠ 0 → readAny q hi idx sub len s =
        respond q (readCode q 0 idx sub s) [] (heardAs q (if hi ≤ 8 then 2 else 4) idx sub s)) := by
  have hnoted := heardAs_notedRecord q (if hi ≤ 8 then 2 else 4) idx sub s
  have hcode : readCode q (readLimit 1 hi len q idx sub (heardAs q (if hi ≤ 8 then 2 else 4) idx sub s)) idx sub
      (heardAs q (if hi ≤ 8 then 2 else 4) idx sub s) = readCode q 0 idx sub s := by
    rw [readCode_noted hnoted, readLimit_noted hnoted, readLimit_within hlo hhi hvalue]
  have hread : readAny q hi idx sub len s = if readCode q 0 idx sub s = 0 then
      respond q 0 (valueOf (heardAs q (if hi ≤ 8 then 2 else 4) idx sub s) q.sess idx sub)
        (forwardAccess false idx sub (heardAs q (if hi ≤ 8 then 2 else 4) idx sub s))
      else respond q (readCode q 0 idx sub s) [] (heardAs q (if hi ≤ 8 then 2 else 4) idx sub s) := by
    unfold readAny
    rw [onArrival_of_taken ht, ← hcode]
    rfl
  rw [hread]
  constructor
  · intro h
    rw [if_pos h, valueOf_noted hnoted]
  · intro h
    rw [if_neg h]

/-- A read that passes its checks has no code. -/
theorem readCode_readable {q : Req} {idx sub : Nat} {s : State} (h : Readable q idx sub s) : readCode q 0 idx sub s = 0 := by
  have hsess0 : ¬(q.sess = 0 ∧ idx ≠ 0x1000 ∧ idx ≠ 0x1100) := fun ⟨h0, hlow, hhigh⟩ =>
    (h.session0 h0).elim hlow hhigh
  have hreads : (if q.sess = 0 then Acc.ro else accessOf s idx sub (roleOf s q.sess)).reads = true := by
    split
    · rfl
    · next h0 => exact h.access h0
  unfold readCode
  simp [h.present, hsess0, hreads, h.room, need]

/-- A read's answer, and what its session's record of responses leaves alone. -/
theorem read_answers {q : Req} {command idx sub : Nat} {s : State} (v : Bytes) (hopen : s.ring.bypassOpen = true) :
    Answers q 0 v (respond q 0 v (forwardAccess false idx sub (heardAs q command idx sub s))) ∧
      unchangedExcept [.wires, .ring, .security] s
        (respond q 0 v (forwardAccess false idx sub (heardAs q command idx sub s))) := by
  have hforward : Keeps 1048573 (heardAs q command idx sub s) (forwardAccess false idx sub (heardAs q command idx sub s)) := by
    simp
  obtain ⟨i, hring⟩ := heardAs_ring q command idx sub s
  have hopen' : (forwardAccess false idx sub (heardAs q command idx sub s)).ring.bypassOpen = true := by
    rw [hforward.ring (by decide), hring]
    exact hopen
  have h : Keeps 851965 s (respond q 0 v (forwardAccess false idx sub (heardAs q command idx sub s))) := by simp
  exact ⟨answers_respond _ _ _ _ hopen', unchanged_of_covered h rfl⟩

theorem gatedValue_zeros {s : State} {idx sub : Nat} : ∀ b ∈ gatedValue s idx sub, b = 0 := by
  intro b hb
  unfold gatedValue zeros at hb
  split at hb <;> exact List.eq_of_mem_replicate hb

end Sys2Proof.Machine

open Sys2Proof Sys2Proof.Machine

/-- Settles O46: what its session has of a request says what its arrival does; a read's code and value are those of the
state before it was noted. -/
theorem requestsAndReadsAreAnsweredOnce : Obligations.RequestsAndReadsAreAnsweredOnce := by
  unfold Obligations.RequestsAndReadsAreAnsweredOnce
  refine ⟨fun i q r s hwf hreq hsess hreset hopen hest hfound => ?again,
    fun i q s hwf hreq hsess hreset hopen hest hnew hbusy => ?underWay, fun q code data s hsess => ?kept,
    fun q idx sub len s hreset hopen hsess hest hnew hidle hfull hobj hreads hvalue hlo hhi => ?full,
    fun q idx sub len i s h hlo hi => ?read, fun sess idx sub s hsub hgated => ?gated⟩
  case again =>
    have harr := (arrival_session hreset hest).1 r hfound
    have hkeeps : Keeps 851949 s (sendRing (.response q.sess q.msg r.code r.data) (bump 0x1101 4 1 (heard q s))) := by simp
    exact ⟨_, exec_requestOf_unexecuted hwf hreq hsess (fun f => onArrival_again harr f)
      (by rw [hkeeps.pwr (by decide)]), answeredAgain hopen rfl⟩
  case underWay =>
    have harr := (arrival_session hreset hest).2 hnew
    rw [if_pos (by simpa using hbusy)] at harr
    have hkeeps : Keeps 851965 s (heard q s) := by simp
    obtain ⟨i, hring⟩ := heard_ring q s
    refine ⟨_, exec_requestOf_unexecuted hwf hreq hsess (fun f => onArrival_underWay harr f)
      (by rw [hkeeps.pwr (by decide)]), heard_sent q s, ?_, unchanged_of_covered hkeeps rfl⟩
    rw [hring]
  case kept =>
    unfold completed
    dsimp only
    rw [sessOf_withSess_same, if_neg hsess]
  case full =>
    have harr := (arrival_session hreset hest).2 hnew
    rw [if_neg (by simpa using hidle)] at harr
    have hrole : roleOf s q.sess = (sessOf s q.sess).role := if_pos hest
    have hcode : readCode q 0 idx sub s = 0x05000001 := by
      unfold readCode
      simp [hobj, hsess, hrole, hreads, need, Nat.not_lt.mpr hfull]
    obtain ⟨i, hring⟩ := heardAs_ring q 2 idx sub s
    have hopen' : (heardAs q 2 idx sub s).ring.bypassOpen = true := by
      rw [hring]
      exact hopen
    have hkeeps : Keeps 851965 s (respond q 0x05000001 [] (heardAs q 2 idx sub s)) := by simp
    have hexec := (readAny_taken harr hlo hhi hvalue).2 (by rw [hcode]; decide)
    rw [hcode] at hexec
    exact ⟨_, congrArg Host.Outcome.next hexec, answers_respond _ _ _ _ hopen', regsExcept_of_regs (hkeeps.regs (by decide)),
      unchanged_of_covered hkeeps rfl⟩
  case read =>
    rcases hi with ⟨rfl, hhi, hvalue⟩ | ⟨rfl, hhi, hvalue⟩ | ⟨rfl, rfl, rfl, hvalue⟩
    · exact ⟨_, congrArg Host.Outcome.next ((readAny_taken h.taken hlo hhi hvalue).1 (readCode_readable h)),
        read_answers _ h.sends⟩
    · exact ⟨_, congrArg Host.Outcome.next ((readAny_taken h.taken hlo hhi hvalue).1 (readCode_readable h)),
        read_answers _ h.sends⟩
    · exact ⟨_, congrArg Host.Outcome.next ((readAny_taken h.taken (by decide) (by decide) hvalue).1 (readCode_readable h)),
        read_answers _ h.sends⟩
  case gated =>
    unfold valueOf
    rw [if_neg (by omega), if_pos hgated]
    exact gatedValue_zeros

end

section
/-! Tenant keys are installed, and destroyed by leave (spec/15_security.md, Job and memory keys). -/

namespace Sys2Proof.Machine

/-! ## Messages refused with a code (R449, R454) -/

theorem regsExcept_countReject (l : List (Nat × Nat)) (w : W256) (s : State) : regsExcept l s (countReject w s) := by
  intro i j hj _ hi _ _
  exact rg_bump_other (s := { s with sec := { s.sec with origins := countOrigin w s.sec.origins } }) hj (by decide) hi

/-- A message refused with a code, which goes out in clear and is counted. -/
theorem refused_sendRing {o : Output} {w : W256} {s u : State} (hu : Keeps 851965 s u) (hsent : u.sent = [])
    (hopen : u.ring.bypassOpen = true) (hlog : u.sec.log = s.sec.log) : Refused o s (sendRing o (countReject w u)) := by
  have hcount : Keeps 917487 u (countReject w u) := by simp
  have hsends : Keeps 983037 (countReject w u) (sendRing o (countReject w u)) := by simp
  have hall : Keeps 851949 u (sendRing o (countReject w u)) := by simp
  have hregs := hsends.regs (by decide)
  refine ⟨?_, ?_, ?_, ?_, ?_⟩
  · have hring : (countReject w u).ring.bypassOpen = true := by
      rw [hcount.ring (by decide)]
      exact hopen
    rw [sendRing_sent hring, hcount.sent (by decide), hsent]
    rfl
  · rw [rg_of_regs hregs, ← rg_of_regs (hu.regs (by decide))]
    exact rg_withRg_same ..
  · rw [hsends.sec (by decide)]
    exact hlog
  · exact regsExcept_trans (regsExcept_of_regs (hu.regs (by decide)))
      (regsExcept_trans (regsExcept_countReject _ w u) (regsExcept_of_regs hregs))
  · exact unchanged_of_covered ((hu.mono (by decide)).trans hall) rfl

/-! ## Key messages (R454) -/

/-- The state in which a key message is judged. -/
def keyHeard (q : Req) (s : State) : State := takeMsg 6 q.sess (fresh s)

theorem keyHeard_keeps (q : Req) (s : State) : Keeps 983037 s (keyHeard q s) := by simp [keyHeard]

/-- The code of a key message: the role first, the flash last. -/
def keyCode (q : Req) (codes : List Nat) (s : State) : Nat :=
  firstByClass (need (roleOf s q.sess == .tenant) 0x0180FF01 :: codes ++ [need (!s.sec.flashFull) 0x05800002])

theorem keyMessage_heard {q : Req} {r : Role} {s : State} (h : KeyHeard q r s) (num idx osub : Nat) (codes : List Nat)
    (kind : Nat) (keyed : Bool) (v : Bytes) (f : State → State) :
    keyMessage q num idx osub codes kind keyed v f s =
      if keyCode q codes s ≠ 0 then
        sendRing (.result q.sess num (BitVec.ofNat 32 (keyCode q codes s))) (countReject (originOf s q.sess) (keyHeard q s))
      else sendRing (.result q.sess num 0) (audit q.sess idx osub kind keyed v (f (keyHeard q s))) := by
  have hhears : ¬(!hears (keyHeard q s)) = true := by
    change ¬(!hears s) = true
    simp [h.hears]
  have hsess : ¬(q.sess = 0 ∨ (sessOf (keyHeard q s) q.sess).state ≠ .established) := by
    change ¬(q.sess = 0 ∨ (sessOf s q.sess).state ≠ .established)
    simp [h.sess, h.established]
  unfold keyMessage
  change (if (!hears (keyHeard q s)) = true then _ else _) = _
  rw [if_neg hhears]
  change (if q.sess = 0 ∨ (sessOf (keyHeard q s) q.sess).state ≠ .established then _ else _) = _
  rw [if_neg hsess]
  rfl

theorem keyHeard_role {q : Req} {r : Role} {s : State} (h : KeyHeard q r s) : roleOf s q.sess = r := by
  unfold roleOf
  rw [if_pos h.established, h.role]

/-- A key message that is taken. -/
theorem keyMessage_taken {q : Req} {s : State} (h : KeyHeard q .tenant s) {codes : List Nat} (hc : ∀ c ∈ codes, c = 0)
    (num idx osub kind : Nat) (keyed : Bool) (v : Bytes) (f : State → State) :
    keyMessage q num idx osub codes kind keyed v f s =
      sendRing (.result q.sess num 0) (audit q.sess idx osub kind keyed v (f (keyHeard q s))) := by
  have hcode : keyCode q codes s = 0 := by
    refine firstByClass_zero fun c hmem => ?_
    simp only [keyHeard_role h, h.flash, List.cons_append, List.mem_cons, List.mem_append, List.not_mem_nil, or_false] at hmem
    rcases hmem with rfl | hmem | rfl
    · rfl
    · exact hc c hmem
    · rfl
  rw [keyMessage_heard h, if_neg (fun hne => hne hcode)]

/-- What a key message that is taken leaves, by what its action has left. -/
theorem keyTaken_sent {q : Req} {num idx osub : Nat} {keyed : Bool} {v : Bytes} {u t : State} (hsent : u.sent = [])
    (hopen : u.ring.bypassOpen = true) (ht : t = sendRing (.result q.sess num 0) (audit q.sess idx osub 1 keyed v u)) :
    KeyTaken q num idx osub t ∧ t.regs = (audit q.sess idx osub 1 keyed v u).regs ∧
      t.sec = (audit q.sess idx osub 1 keyed v u).sec ∧ t.mem = u.mem ∧ Keeps 851949 u t := by
  have haudit : Keeps 851951 u (audit q.sess idx osub 1 keyed v u) := by simp
  have hsends : Keeps 983037 (audit q.sess idx osub 1 keyed v u) t := by
    rw [ht]
    simp
  have hall : Keeps 851949 u t := by
    rw [ht]
    simp
  obtain ⟨e, rest, hlog, hidx, hsub, hsess, hkind⟩ := audit_log q.sess idx osub 1 keyed v u
  refine ⟨⟨?_, e, rest, ?_, hidx, hsub, hkind, hsess⟩, hsends.regs (by decide), hsends.sec (by decide), ?_, hall⟩
  · rw [ht, sendRing_sent (by rw [audit_bypass]; exact hopen), haudit.sent (by decide), hsent]
    rfl
  · rw [hsends.sec (by decide), hlog]
  · exact hall.mem (by decide)

/-- A key message that is refused. -/
theorem keyMessage_refused {q : Req} {r : Role} {s : State} (h : KeyHeard q r s) {codes : List Nat} {code : Nat}
    (hcode : keyCode q codes s = code) (h0 : code ≠ 0) (num idx osub kind : Nat) (keyed : Bool) (v : Bytes)
    (f : State → State) :
    Refused (.result q.sess num (BitVec.ofNat 32 code)) s (keyMessage q num idx osub codes kind keyed v f s) ∧
      (keyMessage q num idx osub codes kind keyed v f s).sec.regions = s.sec.regions ∧
      (keyMessage q num idx osub codes kind keyed v f s).sec.fabricKey = s.sec.fabricKey ∧
      (keyMessage q num idx osub codes kind keyed v f s).sec.sessions = s.sec.sessions := by
  rw [keyMessage_heard h, hcode, if_pos h0]
  have hsec : (sendRing (.result q.sess num (BitVec.ofNat 32 code)) (countReject (originOf s q.sess) (keyHeard q s))).sec =
      (countReject (originOf s q.sess) (keyHeard q s)).sec := by
    have hsends : ∀ u, Keeps 131072 u (sendRing (.result q.sess num (BitVec.ofNat 32 code)) u) := fun u => by simp
    exact (hsends _).sec (by decide)
  refine ⟨refused_sendRing ((keyHeard_keeps q s).mono (by decide)) rfl h.sends rfl, ?_, ?_, ?_⟩ <;> rw [hsec] <;> rfl

/-! ## Regions (R458) -/

theorem forgetRange_cells (a n : Nat) (s : State) : ∀ p ∈ (forgetRange a n s).mem.cells, p.1 < a ∨ a + n ≤ p.1 := by
  intro p hp
  simpa using (List.mem_filter.mp hp).2

theorem eraseRange_cells (a n : Nat) (s : State) : ∀ p ∈ (eraseRange a n s).mem.cells, p.1 < a ∨ a + n ≤ p.1 :=
  forgetRange_cells _ _ _

theorem eraseRange_poison (a n : Nat) (s : State) :
    ∀ k ∈ (eraseRange a n s).mem.poison, sectorAddr s k < a ∨ a + n ≤ sectorAddr s k := by
  intro k hk
  have hout := (List.mem_filter.mp (show k ∈ s.mem.poison.filter _ from hk)).2
  simp at hout
  omega

theorem removeRegion_regions (n : Nat) (s : State) :
    (removeRegion n s).sec.regions = s.sec.regions.filter (fun x => x.num ≠ n) ∧ s.mem.epoch ≤ (removeRegion n s).mem.epoch ∧
      (∀ r, s.sec.regions.find? (fun r => r.num == n) = some r →
        ∀ p ∈ (removeRegion n s).mem.cells, p.1 < r.base ∨ r.base + r.length ≤ p.1) := by
  unfold removeRegion
  cases hfound : s.sec.regions.find? (fun r => r.num == n) with
  | none =>
    have hall := List.find?_eq_none.mp hfound
    refine ⟨(List.filter_eq_self.mpr fun x hx => ?_).symm, le_refl _, fun _ h => by cases h⟩
    simpa using hall x hx
  | some r =>
    refine ⟨rfl, Nat.le_succ _, fun r' h => ?_⟩
    cases h
    exact eraseRange_cells _ _ _

theorem installRegion_leaves (n base len : Nat) (key : BitVec 512) (s : State) :
    (installRegion n base len key s).sec.regions = s.sec.regions.filter (fun x => x.num ≠ n) ++ [⟨n, base, len, key⟩] ∧
      (∀ p ∈ (installRegion n base len key s).mem.cells, p.1 < base ∨ base + len ≤ p.1) ∧
      (installRegion n base len key s).mem.epoch ≠ s.mem.epoch ∧
      (∀ k ∈ (installRegion n base len key s).mem.poison, sectorAddr s k < base ∨ base + len ≤ sectorAddr s k) := by
  obtain ⟨hregions, hepoch, -⟩ := removeRegion_regions n s
  have hregs : (removeRegion n s).regs = s.regs := (show Keeps 16 s (removeRegion n s) by simp).regs (by decide)
  have haddr : ∀ k, sectorAddr (removeRegion n s) k = sectorAddr s k := fun k => by
    unfold sectorAddr rg
    rw [hregs]
  refine ⟨congrArg (· ++ [_]) hregions, eraseRange_cells _ _ _, ?_, fun k hk => ?_⟩
  · exact Nat.ne_of_gt (Nat.lt_succ_of_le hepoch)
  · rw [← haddr]
    exact eraseRange_poison base len { removeRegion n s with sec := _ } k hk

/-! ## The keys after leave (R460) -/

theorem leaveEffects_rekeyed (s : State) :
    ∃ u, u.freeCtr = s.freeCtr ∧ leaveEffects s = forgetMemory (destroyKeys u) := by
  have hport : ∀ u : State, Keeps 4 u (if u.dev = .joined then closeTestPort u else u) := fun u => by
    split <;> simp
  have haudit : ∀ u, Keeps 4 u (audit 0 0x2001 1 6 false (leBytes 1 0) { u with dev := .inert }) := fun u =>
    (audit_keeps _ _ _ _ _ _ _ (by decide)).mpr ((keeps_set_dev (u := u) _ (by decide)).mpr (Keeps.refl _ _))
  have hends : ∀ n u, Keeps 4 u (endSession n u) := fun n u => by simp
  have hleft : Keeps 4 s (clearExec (audit 0 0x2001 1 6 false (leBytes 1 0)
      { (if (abandonTests (endPending s)).dev = .joined then closeTestPort (abandonTests (endPending s))
        else abandonTests (endPending s)) with dev := .inert })) :=
    ((show Keeps 4 s (abandonTests (endPending s)) by simp).trans ((hport _).trans (haudit _))).trans (by simp)
  unfold leaveEffects
  refine ⟨_, ?_, rfl⟩
  dsimp only
  generalize clearExec _ = left at hleft ⊢
  split
  · exact ((hends _ _).freeCtr (by decide)).trans (hleft.freeCtr (by decide))
  · exact hleft.freeCtr (by decide)

theorem forgetMemory_destroyKeys_keys (u : State) :
    (forgetMemory (destroyKeys u)).sec.moduleKey = some (Config.random256 u.freeCtr) ∧
      (forgetMemory (destroyKeys u)).freeCtr = u.freeCtr + 1 ∧
      ∀ c ∈ (forgetMemory (destroyKeys u)).mem.cells, 0x16760000000 ≤ c.1 := by
  refine ⟨rfl, rfl, fun c hc => ?_⟩
  rcases forgetRange_cells _ _ _ c hc with h | h
  · omega
  · omega

/-- Leave as its effects on the state that heard it, logged and answered. -/
theorem exec_leave {q : Req} {s : State} (h : Ready q .operator s)
    (w : Writable .operator 0x2000 1 (leBytes 1 2) s) (hd : s.dev ≠ .inert) :
    exec (.leave q) s = .next (closeSoon (respond q 0 [] (auditWrite q 0x2000 1 (leBytes 1 2)
      (leaveEffects (heardAs q 1 0x2000 1 s))))) := by
  have hrole : roleOf (heardAs q 1 0x2000 1 s) q.sess = .operator :=
    (noted_role (heardAs_noted ..) q.sess).trans (ready_role h)
  have hdev : (heardAs q 1 0x2000 1 s).dev = s.dev := (heardAs_same ..).2.2.1
  have hrule : facilityRule 2 (heardAs q 1 0x2000 1 s) = { apply := leaveEffects, after := closeSoon } := by
    simp [facilityRule, hdev, hd]
  obtain ⟨codes, hcodes, hx⟩ := commandRule_facility hrole (v := 2) (by decide)
  rw [hrule] at hx
  have hnow := write_now (rule := commandRule q 0x2000 1 (leBytes 1 2)) h w
    (show commandRule q 0x2000 1 (leBytes 1 2) (heardAs q (writeCommand (leBytes 1 2)) 0x2000 1 s) = _ from hx)
    (by simpa only [List.forall_mem_append] using ⟨hcodes, fun _ h => absurd h List.not_mem_nil⟩) rfl rfl
  dsimp only at hnow
  rw [show actsOn q 0x2000 1 (leBytes 1 2) s = heardAs q 1 0x2000 1 s from rfl] at hnow
  exact congrArg Host.Outcome.next (show facilityCommand q 2 s = _ from hnow)

/-- The code of a key message with two conditions of its own. -/
theorem firstByClass_fabricKey (tenant joined zero flash : Bool) :
    firstByClass (need tenant 0x0180FF01 :: [need joined 0x03800003, need zero 0x0280FF02] ++ [need flash 0x05800002]) =
      if tenant = false then 0x0180FF01 else if joined = false then 0x03800003 else if zero = false then 0x0280FF02
      else if flash = false then 0x05800002 else 0 := by
  revert tenant joined zero flash
  decide

/-- The code of a key message of a region. -/
theorem firstByClass_region (tenant joined fits zero flash : Bool) :
    firstByClass (need tenant 0x0180FF01 :: [need joined 0x0380FF01, need fits 0x0280FF01, need zero 0x0280FF02] ++
      [need flash 0x05800002]) =
      if tenant = false then 0x0180FF01 else if joined = false then 0x0380FF01 else if fits = false then 0x0280FF01
      else if zero = false then 0x0280FF02 else if flash = false then 0x05800002 else 0 := by
  revert tenant joined fits zero flash
  decide

/-- The three ways in which a key message fails, by its role, the device state and its fields. -/
theorem keyCommand_refused {i : Instr} {q : Req} {r : Role} {num : Nat} {code : W32} {s : State}
    (hcmd : keyCommand q i = some num) (h : KeyHeard q r s)
    (hcase : r ≠ .tenant ∧ code = 0x0180FF01 ∨
      r = .tenant ∧ num = 0x10 ∧ (s.dev = .inert ∨ s.dev = .faulted) ∧ code = 0x03800003 ∨
      r = .tenant ∧ num ≠ 0x10 ∧ s.dev ≠ .joined ∧ code = 0x0380FF01 ∨
      r = .tenant ∧ s.dev = .joined ∧ code = 0x0280FF02 ∧
        (∃ rsv key, rsv ≠ 0 ∧ i = .fabricKeyInstall q rsv key) ∨
      r = .tenant ∧ s.dev = .joined ∧ code = 0x0280FF01 ∧
        (∃ n rsv base len key, regionOk s n base len = false ∧ i = .regionKeyInstall q n rsv base len key) ∨
      r = .tenant ∧ s.dev = .joined ∧ code = 0x0280FF01 ∧ (∃ n rsv, 16 ≤ n ∧ i = .regionRemove q n rsv)) :
    ∃ t, exec i s = .next t ∧ Refused (.result q.sess num code) s t ∧ t.sec.regions = s.sec.regions ∧
      t.sec.fabricKey = s.sec.fabricKey ∧ t.sec.sessions = s.sec.sessions := by
  have hrole := keyHeard_role h
  cases i with
  | fabricKeyInstall p rsv key =>
    obtain ⟨rfl, rfl⟩ : p = q ∧ 0x10 = num := by simpa [keyCommand] using hcmd
    have hcode : keyCode p [need (s.dev != .inert && s.dev != .faulted) 0x03800003, need (rsv = 0) 0x0280FF02] s =
        code.toNat ∧ code.toNat ≠ 0 := by
      unfold keyCode
      rw [hrole, firstByClass_fabricKey]
      rcases hcase with ⟨hr, rfl⟩ | ⟨rfl, -, hd, rfl⟩ | ⟨-, hne, -⟩ | ⟨rfl, hd, rfl, rsv', key', hrsv, hi⟩ |
        ⟨-, -, -, n, _, _, _, _, _, hi⟩ | ⟨-, -, -, n, _, _, hi⟩
      · simp [hr]
      · rcases hd with hd | hd <;> simp [hd]
      · exact absurd rfl hne
      · cases hi
        simp [hd, hrsv]
      · cases hi
      · cases hi
    obtain ⟨hcode, h0⟩ := hcode
    have hrefused := keyMessage_refused h hcode h0 0x10 0x9040 1 1 true (identBytes key)
      (fun s => bump 0x9040 1 1 { s with sec := { s.sec with fabricKey := some key } })
    rw [BitVec.ofNat_toNat, BitVec.setWidth_eq] at hrefused
    exact ⟨_, rfl, hrefused⟩
  | regionKeyInstall p n rsv base len key =>
    obtain ⟨rfl, rfl⟩ : p = q ∧ 0x11 = num := by simpa [keyCommand] using hcmd
    have hcode : keyCode p [need (s.dev == .joined) 0x0380FF01, need (regionOk s n base len) 0x0280FF01,
        need (rsv = 0) 0x0280FF02] s = code.toNat ∧ code.toNat ≠ 0 := by
      unfold keyCode
      rw [hrole, firstByClass_region]
      rcases hcase with ⟨hr, rfl⟩ | ⟨-, hne, -⟩ | ⟨rfl, -, hd, rfl⟩ | ⟨-, -, -, _, _, _, hi⟩ |
        ⟨rfl, hd, rfl, n', _, _, _, _, hbad, hi⟩ | ⟨-, -, -, _, _, _, hi⟩
      · simp [hr]
      · exact absurd hne (by decide)
      · simp [hd]
      · cases hi
      · cases hi
        simp [hd, hbad]
      · cases hi
    obtain ⟨hcode, h0⟩ := hcode
    have hrefused := keyMessage_refused h hcode h0 0x11 0x9030 (n + 1) 1 true (leBytes 64 key.toNat)
      (installRegion n base len key)
    rw [BitVec.ofNat_toNat, BitVec.setWidth_eq] at hrefused
    exact ⟨_, rfl, hrefused⟩
  | regionRemove p n rsv =>
    obtain ⟨rfl, rfl⟩ : p = q ∧ 0x12 = num := by simpa [keyCommand] using hcmd
    have hcode : keyCode p [need (s.dev == .joined) 0x0380FF01, need (n < 16) 0x0280FF01,
        need (rsv = 0) 0x0280FF02] s = code.toNat ∧ code.toNat ≠ 0 := by
      unfold keyCode
      rw [hrole, firstByClass_region]
      rcases hcase with ⟨hr, rfl⟩ | ⟨-, hne, -⟩ | ⟨rfl, -, hd, rfl⟩ | ⟨-, -, -, _, _, _, hi⟩ |
        ⟨-, -, -, _, _, _, _, _, _, hi⟩ | ⟨rfl, hd, rfl, n', _, hbad, hi⟩
      · simp [hr]
      · exact absurd hne (by decide)
      · simp [hd]
      · cases hi
      · cases hi
      · cases hi
        simp [hd, hbad]
    obtain ⟨hcode, h0⟩ := hcode
    have hrefused := keyMessage_refused h hcode h0 0x12 0x9030 (n + 1) 1 false (zeros 16) (removeRegion n)
    rw [BitVec.ofNat_toNat, BitVec.setWidth_eq] at hrefused
    exact ⟨_, rfl, hrefused⟩
  | _ => cases hcmd

end Sys2Proof.Machine

open Sys2Proof Sys2Proof.Machine

/-- Settles O51: a key message is its code or its action on the state that heard it, logged and answered; leave draws
its key from the free counter that it found. -/
theorem tenantKeysAreInstalledAndDestroyed : Obligations.TenantKeysAreInstalledAndDestroyed := by
  unfold Obligations.TenantKeysAreInstalledAndDestroyed
  refine ⟨fun q key s h hinert hfaulted => ?fabric, fun q n base len key s h hd hok => ?install,
    fun q n s h hd hn => ?remove, fun i q r num code s hcmd h hcase => keyCommand_refused hcmd h hcase,
    fun q s h w hd => ?leave, fun s => rfl⟩
  case fabric =>
    have hexec := keyMessage_taken h
      (codes := [need (s.dev != .inert && s.dev != .faulted) 0x03800003, need ((0 : Nat) = 0) 0x0280FF02])
      (by simp [need, hinert, hfaulted]) 0x10 0x9040 1 1 true (identBytes key)
      (fun s => bump 0x9040 1 1 { s with sec := { s.sec with fabricKey := some key } })
    have hkeeps : Keeps 917487 (keyHeard q s)
        (bump 0x9040 1 1 { keyHeard q s with sec := { (keyHeard q s).sec with fabricKey := some key } }) := by simp
    obtain ⟨htaken, hregs, hsec, -, hall⟩ := keyTaken_sent (u := bump 0x9040 1 1
      { keyHeard q s with sec := { (keyHeard q s).sec with fabricKey := some key } }) rfl h.sends hexec
    refine ⟨_, rfl, htaken, ?_, ?_, ?_, ?_⟩
    · rw [hsec, audit_sec_fabricKey]
      rfl
    · rw [rg_of_regs hregs, rg_audit _ (by decide) (not_counted_of (by decide))]
      exact rg_withRg_same ..
    · refine regsExcept_trans ?_ (regsExcept_trans (regsExcept_audit _ _ _ _ _ _ _) (regsExcept_of_regs hregs))
      exact regsExcept_bump (s := { keyHeard q s with sec := { (keyHeard q s).sec with fabricKey := some key } }) _
        (by decide) (by decide)
    · exact unchanged_of_covered (((keyHeard_keeps q s).mono (by decide)).trans
        ((hkeeps.mono (by decide)).trans (hall.mono (m := 851949) (by decide)))) rfl
  case install =>
    have hexec := keyMessage_taken h (codes := [need (s.dev == .joined) 0x0380FF01,
      need (regionOk s n base len) 0x0280FF01, need ((0 : Nat) = 0) 0x0280FF02]) (by simp [need, hd, hok]) 0x11 0x9030 (n + 1) 1 true
      (leBytes 64 key.toNat) (installRegion n base len key)
    have hkeeps : Keeps 916991 (keyHeard q s) (installRegion n base len key (keyHeard q s)) := by simp
    obtain ⟨hregions, hcells, hepoch, hpoison⟩ := installRegion_leaves n base len key (keyHeard q s)
    obtain ⟨htaken, hregs, hsec, hmem, hall⟩ := keyTaken_sent (u := installRegion n base len key (keyHeard q s))
      (hkeeps.sent (by decide)) (by rw [hkeeps.ring (by decide)]; exact h.sends) hexec
    refine ⟨_, rfl, htaken, ?_, hmem ▸ hcells, hmem ▸ hepoch, hmem ▸ hpoison, ?_, ?_⟩
    · rw [hsec, audit_sec_regions]
      exact hregions
    · exact regsExcept_trans (regsExcept_of_regs (hkeeps.regs (by decide)))
        (regsExcept_trans (regsExcept_audit _ _ _ _ _ _ _) (regsExcept_of_regs hregs))
    · exact unchanged_of_covered (((keyHeard_keeps q s).mono (by decide)).trans
        ((hkeeps.mono (by decide)).trans (hall.mono (m := 851437) (by decide)))) rfl
  case remove =>
    have hexec := keyMessage_taken h (codes := [need (s.dev == .joined) 0x0380FF01, need (n < 16) 0x0280FF01,
      need ((0 : Nat) = 0) 0x0280FF02]) (by simp [need, hd, hn]) 0x12 0x9030 (n + 1) 1 false (zeros 16) (removeRegion n)
    have hkeeps : Keeps 916991 (keyHeard q s) (removeRegion n (keyHeard q s)) := by simp
    obtain ⟨hregions, -, hcells⟩ := removeRegion_regions n (keyHeard q s)
    obtain ⟨htaken, hregs, hsec, hmem, hall⟩ := keyTaken_sent (u := removeRegion n (keyHeard q s))
      (hkeeps.sent (by decide)) (by rw [hkeeps.ring (by decide)]; exact h.sends) hexec
    refine ⟨_, rfl, htaken, ?_, hmem ▸ hcells, ?_, ?_⟩
    · rw [hsec, audit_sec_regions]
      exact hregions
    · exact regsExcept_trans (regsExcept_of_regs (hkeeps.regs (by decide)))
        (regsExcept_trans (regsExcept_audit _ _ _ _ _ _ _) (regsExcept_of_regs hregs))
    · exact unchanged_of_covered (((keyHeard_keeps q s).mono (by decide)).trans
        ((hkeeps.mono (by decide)).trans (hall.mono (m := 851437) (by decide)))) rfl
  case leave =>
    have hempty := leaveEffects_emptied (heardAs q 1 0x2000 1 s)
    have hheard : (heardAs q 1 0x2000 1 s).freeCtr = s.freeCtr :=
      (show Keeps 4 s (heardAs q 1 0x2000 1 s) by simp).freeCtr (by decide)
    obtain ⟨u, hctr, hu⟩ := leaveEffects_rekeyed (heardAs q 1 0x2000 1 s)
    obtain ⟨hkey, hdrawn, hcells⟩ := forgetMemory_destroyKeys_keys u
    rw [← hu] at hkey hdrawn hcells
    have hexec := exec_leave h w hd
    generalize leaveEffects (heardAs q 1 0x2000 1 s) = left at hempty hkey hdrawn hcells hexec
    have hkept : Keeps 516 left (closeSoon (respond q 0 [] (auditWrite q 0x2000 1 (leBytes 1 2) left))) := by simp
    obtain ⟨-, -, herasing, ⟨hbase, hfabric, hregions, -, -⟩, -, -⟩ :=
      leftBehind_closeSoon (emptied_answered q 0x2000 1 0 (leBytes 1 2) [] hempty)
    refine ⟨_, hexec, hfabric, hregions, hbase, ⟨u.freeCtr, by rw [hctr, hheard], ?_, ?_⟩, herasing, ?_⟩
    · have hmodule : (closeSoon (respond q 0 [] (auditWrite q 0x2000 1 (leBytes 1 2) left))).sec.moduleKey =
          left.sec.moduleKey := by simp
      rw [hmodule, hkey]
    · rw [hkept.freeCtr (by decide), hdrawn]
    · rw [hkept.mem (by decide)]
      exact hcells

end

section
/-! Enrolled keys and the stored firmware image are replaced, or kept when they may not be (spec/15_security.md, Roles,
enrolment and sessions; spec/14_dictionary_map.md, Security objects). -/

namespace Sys2Proof.Machine

/-! ## Log entries (R464) -/

theorem auditDigest_entry (sess idx sub kind : Nat) (keyed : Bool) (len : Nat) (d : BitVec 384) (s : State) :
    ∃ e : AuditEntry, (auditDigest sess idx sub kind keyed len d s).sec.log = (e :: s.sec.log).take 65536 ∧
      e.position = rg s 0xF000 1 ∧ (e.index = idx ∧ e.sub = sub ∧ e.sess = sess ∧ e.kind = kind) ∧ e.digest = d := by
  unfold auditDigest
  dsimp only
  rw [exportIfDue_log]
  exact ⟨_, rfl, rfl, ⟨rfl, rfl, rfl, rfl⟩, rfl⟩

/-- What logging changes of the security state. -/
theorem auditDigest_sec (sess idx sub kind : Nat) (keyed : Bool) (len : Nat) (d : BitVec 384) (s : State) :
    (auditDigest sess idx sub kind keyed len d s).sec.fwStored = s.sec.fwStored ∧
      (auditDigest sess idx sub kind keyed len d s).sec.recovery = s.sec.recovery := by
  unfold auditDigest exportIfDue
  extract_lets session origin role e0 chain e u body record payload
  split
  · exact ⟨rfl, rfl⟩
  · rw [raise_sec]
    exact ⟨rfl, rfl⟩

/-- An entry among the newest k of the log is among the newest k + 1 after one more. -/
theorem mem_take_audit {e : AuditEntry} {k : Nat} (sess idx sub kind : Nat) (keyed : Bool) (v : Bytes) {s : State}
    (he : e ∈ s.sec.log.take k) (hk : k < 65536) :
    e ∈ (audit sess idx sub kind keyed v s).sec.log.take (k + 1) := by
  unfold audit
  dsimp only
  obtain ⟨a, hlog, -⟩ := auditDigest_entry sess idx sub kind keyed v.length
    (Config.sha384 (if keyed then identBytes (sessOf s sess).salt ++ v else v)) s
  rw [hlog, List.take_take, Nat.min_eq_left (by omega), List.take_succ_cons]
  exact List.mem_cons_of_mem _ he

/-! ## The end of sessions (R452) -/

/-- What the end of an established session does once it is logged. -/
theorem endSession_cases (n : Nat) (s : State) :
    ((sessOf s n).state ≠ .established ∧ endSession n s = withSess n {} s) ∨
      ∃ r, endSession n s = { withSess n {} (audit n 0x9001 n 3 false (zeros 4) s) with ring := r } ∨
        endSession n s = { dropPend .firmware (withRg 0x9010 2 4 (withSess n {} (audit n 0x9001 n 3 false (zeros 4) s))) with
          ring := r } := by
  by_cases h : (sessOf s n).state ≠ .established
  · exact .inl ⟨h, if_pos h⟩
  · refine .inr ?_
    unfold endSession
    rw [if_neg h]
    dsimp only
    split
    · exact ⟨_, .inr rfl⟩
    · exact ⟨_, .inl rfl⟩

theorem sessOf_withSess (n k : Nat) (x : Session) (s : State) :
    sessOf (withSess n x s) k = if k = n then x else sessOf s k := by
  split
  · next h =>
    subst h
    exact sessOf_withSess_same ..
  · next h => exact sessOf_withSess_other x s h

theorem sessOf_endSession (n k : Nat) (s : State) : sessOf (endSession n s) k = if k = n then {} else sessOf s k := by
  have hended : sessOf (withSess n {} (audit n 0x9001 n 3 false (zeros 4) s)) k = if k = n then {} else sessOf s k := by
    rw [sessOf_withSess, sessOf_audit]
  have hring : ∀ (u : State) (r : RingState), sessOf { u with ring := r } k = sessOf u k := fun _ _ => rfl
  have hdrop : ∀ (u : State), sessOf (dropPend .firmware (withRg 0x9010 2 4 u)) k = sessOf u k := fun _ => rfl
  obtain ⟨-, h⟩ | ⟨r, h | h⟩ := endSession_cases n s <;> rw [h]
  · exact sessOf_withSess ..
  · rw [hring, hended]
  · rw [hring, hdrop, hended]

theorem regsExcept_endSession (n : Nat) (s : State) : regsExcept [(0x9010, 2)] s (endSession n s) := by
  have haudit : regsExcept [(0x9010, 2)] s (audit n 0x9001 n 3 false (zeros 4) s) :=
    regsExcept_audit _ _ _ _ _ _ _
  obtain ⟨-, h⟩ | ⟨r, h | h⟩ := endSession_cases n s <;> rw [h]
  · exact regsExcept_of_regs rfl
  · exact regsExcept_trans haudit (regsExcept_of_regs rfl)
  · exact regsExcept_trans haudit (regsExcept_trans (regsExcept_withRg (i := 0x9010) (j := 2) 4
      (withSess n {} (audit n 0x9001 n 3 false (zeros 4) s)) (by decide) (by decide)) (regsExcept_of_regs rfl))

theorem mem_take_endSession {e : AuditEntry} {k : Nat} (n : Nat) {s : State} (he : e ∈ s.sec.log.take k) (hk : k < 65536) :
    e ∈ (endSession n s).sec.log.take (k + 1) := by
  have haudit := mem_take_audit n 0x9001 n 3 false (zeros 4) he hk
  obtain ⟨-, h⟩ | ⟨r, h | h⟩ := endSession_cases n s <;> rw [h]
  · exact List.take_subset_take_left _ (Nat.le_succ k) he
  · exact haudit
  · exact haudit

theorem endSession_fwStored (n : Nat) (s : State) : (endSession n s).sec.fwStored = s.sec.fwStored := by
  have haudit : (audit n 0x9001 n 3 false (zeros 4) s).sec.fwStored = s.sec.fwStored := audit_sec_fwStored ..
  obtain ⟨-, h⟩ | ⟨r, h | h⟩ := endSession_cases n s <;> rw [h]
  · rfl
  · exact haudit
  · exact haudit

/-- Sessions ended one after another. -/
theorem endSessions_leaves (l : List Nat) (s : State) :
    (∀ n, sessOf (l.foldl (fun s n => endSession n s) s) n = if n ∈ l then {} else sessOf s n) ∧
      regsExcept [(0x9010, 2)] s (l.foldl (fun s n => endSession n s) s) ∧
      Keeps 851951 s (l.foldl (fun s n => endSession n s) s) ∧
      ∀ e k, e ∈ s.sec.log.take k → k + l.length ≤ 65536 →
        e ∈ (l.foldl (fun s n => endSession n s) s).sec.log.take (k + l.length) := by
  induction l generalizing s with
  | nil => exact ⟨fun n => rfl, regsExcept_refl _ _, Keeps.refl _ _, fun e k he _ => he⟩
  | cons m l ih =>
    obtain ⟨hsess, hregs, hkeeps, hlog⟩ := ih (endSession m s)
    refine ⟨fun n => ?_, regsExcept_trans (regsExcept_endSession m s) hregs,
      (show Keeps 851951 s (endSession m s) by simp).trans hkeeps, fun e k he hk => ?_⟩
    · rw [List.foldl_cons, hsess, sessOf_endSession]
      by_cases hmem : n ∈ l
      · rw [if_pos hmem, if_pos (List.mem_cons_of_mem _ hmem)]
      · simp only [List.mem_cons, hmem, or_false, if_false]
    · rw [List.length_cons] at hk ⊢
      rw [show k + (l.length + 1) = k + 1 + l.length by omega]
      exact hlog e (k + 1) (mem_take_endSession m he (by omega)) (by omega)

/-! ## A write of an enrolment list (R445, R452) -/

theorem leNat_identBytes (key : W256) : leNat (identBytes key) = key.toNat :=
  leNat_leBytes (lt_of_lt_of_le key.isLt (by norm_num))

/-- The sessions that end after a write of a list: those of the list's role with the key replaced, if it is listed no
more. -/
theorem mem_unlisted {idx sub n : Nat} {key : W256} {s u : State} (hidx : idx = 0x9003 ∨ idx = 0x9004)
    (hsess : ∀ k, roleOf u k = roleOf s k ∧ (sessOf u k).key = (sessOf s k).key)
    (hlist : enrolled u idx = enrolled (withRg idx sub key.toNat s) idx) :
    n ∈ (unlisted_ u idx).filter (fun k => (sessOf u k).key == BitVec.ofNat 256 (rg s idx sub)) ↔
      unlistedBy idx sub n key s := by
  have hrange : n ∈ (List.range 7).map (· + 1) ↔ 1 ≤ n ∧ n ≤ 7 := by
    simp only [List.mem_map, List.mem_range]
    constructor
    · rintro ⟨k, hk, rfl⟩
      omega
    · rintro ⟨h1, h7⟩
      exact ⟨n - 1, by omega, by omega⟩
  obtain ⟨hrole, hkey⟩ := hsess n
  unfold unlisted_ unlistedBy
  dsimp only
  rw [List.mem_filter, List.mem_filter, hrange, hlist, hrole, hkey]
  simp only [Bool.and_eq_true, beq_iff_eq, Bool.not_eq_true', List.contains_eq_mem, decide_eq_false_iff_not]
  tauto

theorem length_unlisted (u : State) (idx : Nat) (p : Nat → Bool) : ((unlisted_ u idx).filter p).length ≤ 7 := by
  unfold unlisted_
  dsimp only
  exact (List.length_filter_le _ _).trans ((List.length_filter_le _ _).trans (by simp))

theorem sessOf_noteHead_other {q : Req} {k : Nat} (h : Bytes) (s : State) (hk : k ≠ q.sess) :
    sessOf (noteHead q h s) k = sessOf s k := sessOf_withSess_other _ s hk

theorem sessOf_heardAs_other {q : Req} {k : Nat} (command idx sub : Nat) (s : State) (hk : k ≠ q.sess) :
    sessOf (heardAs q command idx sub s) k = sessOf s k := by
  have hheard : sessOf (heard q s) k = sessOf s k := by
    unfold heard takeInbox
    dsimp only
    split
    · exact sessOf_noteHead_other _ (fresh s) hk
    · rfl
  unfold heardAs noteCommand
  split
  · exact hheard
  · rw [sessOf_noteHead_other _ _ hk, hheard]

theorem sessOf_actsOn (q : Req) (idx sub : Nat) (v : Bytes) (s : State) (k : Nat) :
    sessOf (actsOn q idx sub v s) k = sessOf (heardAs q (writeCommand v) idx sub s) k := by
  have hforward : ∀ u, (forwardAccess true idx sub u).sec = u.sec := fun u =>
    ((forwardAccess_keeps (m := 131072) true idx sub u (by decide)).mpr (Keeps.refl _ _)).sec (by decide)
  unfold sessOf actsOn
  rw [hforward]

/-- The sessions of an answered write, but for the record of the one that asked. -/
theorem sessOf_answered_write (q : Req) (idx sub : Nat) (v : Bytes) (f : State → State) (s : State)
    (hf : ∀ u k, sessOf (f u) k = sessOf u k) (k : Nat) :
    (∃ p r h, sessOf (respond q 0 [] (auditWrite q idx sub v (f (actsOn q idx sub v s)))) k =
        { sessOf s k with inProgress := p, responses := r, heads := h }) ∧
      (k ≠ q.sess → sessOf (respond q 0 [] (auditWrite q idx sub v (f (actsOn q idx sub v s)))) k = sessOf s k) := by
  obtain ⟨h, hheads⟩ := (heardAs_noted q (writeCommand v) idx sub s).1 k
  have hlogged : sessOf (auditWrite q idx sub v (f (actsOn q idx sub v s))) k =
      sessOf (heardAs q (writeCommand v) idx sub s) k := by
    unfold auditWrite
    rw [sessOf_audit, hf, sessOf_actsOn]
  have hsends : ∀ u, sessOf (respond q 0 [] u) k = sessOf (completed q 0 [] u) k := fun u => by
    unfold sessOf respond
    rw [((sendRing_keeps (m := 131072) _ _ (by decide)).mpr (Keeps.refl _ _)).sec (by decide)]
    rfl
  rw [hsends]
  unfold completed
  dsimp only
  by_cases hk : k = q.sess
  · subst hk
    rw [sessOf_withSess_same, hlogged, hheads]
    exact ⟨⟨_, _, h, rfl⟩, fun hne => absurd rfl hne⟩
  · rw [sessOf_withSess_other _ _ hk, hlogged]
    exact ⟨⟨_, _, h, hheads⟩, fun _ => sessOf_heardAs_other _ _ _ _ hk⟩

/-- A write of an enrolment list that is taken: logged and answered, and then the sessions end whose key it replaced. -/
def enrolEnded (q : Req) (idx sub : Nat) (key : W256) (s : State) : State :=
  respond q 0 [] (auditWrite q idx sub (identBytes key)
    (withRg idx sub key.toNat (actsOn q idx sub (identBytes key) s)))

theorem exec_enrolmentWrite_taken {q : Req} {idx sub : Nat} {key : W256} {s : State} (hidx : idx = 0x9003 ∨ idx = 0x9004)
    (h : Ready q .operator s) (w : Writable .operator idx sub (identBytes key) s)
    (hleft : idx = 0x9003 → enrolled (withRg idx sub key.toNat s) 0x9003 ≠ []) :
    exec (.enrolmentWrite q idx sub key) s =
      .next (((unlisted_ (enrolEnded q idx sub key s) idx).filter
        (fun n => (sessOf (enrolEnded q idx sub key s) n).key == BitVec.ofNat 256 (rg s idx sub))).foldl
          (fun s n => endSession n s) (enrolEnded q idx sub key s)) := by
  have hregs := (heardAs_same q (writeCommand (identBytes key)) idx sub s).1
  have hcodes : ∀ c ∈ (enrolRule idx sub (identBytes key) (heardAs q (writeCommand (identBytes key)) idx sub s)).codes, c = 0 := by
    intro c hc
    have hlist : enrolled (withRg idx sub key.toNat (heardAs q (writeCommand (identBytes key)) idx sub s)) 0x9003 =
        enrolled (withRg idx sub key.toNat s) 0x9003 := by
      unfold enrolled rg withRg
      rw [hregs]
    unfold enrolRule at hc
    simp only [leNat_identBytes, hlist, List.mem_cons, List.not_mem_nil, or_false] at hc
    rw [hc]
    rcases hidx with rfl | rfl
    · simp [need, hleft rfl]
    · rfl
  have hnow := write_now (rule := enrolRule idx sub (identBytes key)) h w rfl hcodes rfl rfl
  have hafter : ∀ u : State, (enrolRule idx sub (identBytes key) (heardAs q (writeCommand (identBytes key)) idx sub s)).after u =
      ((unlisted_ u idx).filter (fun n => (sessOf u n).key == BitVec.ofNat 256 (rg s idx sub))).foldl
        (fun s n => endSession n s) u := fun u => by
    rw [← rg_of_regs hregs]
    rfl
  have happly : ∀ u : State, (enrolRule idx sub (identBytes key) (heardAs q (writeCommand (identBytes key)) idx sub s)).apply u =
      withRg idx sub key.toNat u := fun u => by
    rw [← leNat_identBytes]
    rfl
  rw [hafter, happly] at hnow
  change execEnrolmentWrite q idx sub key s = _
  unfold execEnrolmentWrite enrolEnded
  dsimp only
  rw [if_pos hidx, hnow]

theorem enrolled_enrolEnded (q : Req) {idx : Nat} (sub : Nat) (key : W256) (s : State) (hidx : idx = 0x9003 ∨ idx = 0x9004) :
    enrolled (enrolEnded q idx sub key s) idx = enrolled (withRg idx sub key.toNat s) idx := by
  have hrg : ∀ i, i < 8 → rg (enrolEnded q idx sub key s) idx (i + 1) = rg (withRg idx sub key.toNat s) idx (i + 1) := by
    intro i hi
    unfold enrolEnded
    rw [rg_respond, rg_auditWrite _ (by omega) (not_counted_of (by rcases hidx with rfl | rfl <;> decide))]
    refine rg_of_regs ?_ _ _
    unfold withRg
    rw [actsOn_regs]
  unfold enrolled
  refine congrArg _ (List.map_congr_left fun i hi => ?_)
  rw [hrg i (List.mem_range.mp hi)]

theorem enrolEnded_logged (q : Req) (idx sub : Nat) (key : W256) (s : State) (hidx : idx ≠ 0xF000) :
    ∃ e ∈ (enrolEnded q idx sub key s).sec.log.take 1, e.position = rg s 0xF000 1 ∧ e.index = idx ∧ e.sub = sub ∧
      e.sess = q.sess ∧ e.kind = 0 := by
  unfold enrolEnded auditWrite audit
  rw [respond_log]
  obtain ⟨e, hlog, hpos, ⟨hi, hs, hq, hk⟩, -⟩ := auditDigest_entry q.sess idx sub 0 _ _ _
    (withRg idx sub key.toNat (actsOn q idx sub (identBytes key) s))
  refine ⟨e, ?_, hpos.trans ?_, hi, hs, hq, hk⟩
  · rw [hlog]
    exact List.mem_cons_self
  · rw [rg_withRg_other _ _ fun h => hidx (keyOf_index h).symm]
    exact rg_of_regs (actsOn_regs ..) _ _

/-! ## The end of a firmware update (R426, R444) -/

/-- The objects of an update that has replaced the image. -/
def imageStored (img : FwImage) (s : State) : State :=
  withRg 0x9010 2 3 (withRg 0x9010 3 (img.version % 2 ^ 32) { dropPend .firmware s with
    sec := { (dropPend .firmware s).sec with fwStored := some img } })

/-- The same, with the write and the replacement logged. -/
def imageLogged (p : PendWrite) (img : FwImage) (s : State) : State :=
  auditDigest 0 0x9010 1 5 false img.length img.digest
    (auditDigest p.q.sess 0x9010 1 0 false img.length img.digest (imageStored img s))

theorem replaceImage_eq (p : PendWrite) (img : FwImage) (s : State) :
    replaceImage p img s = respond p.q 0 [] (imageLogged p img s) := rfl

theorem replaceImage_keeps_parts (p : PendWrite) (img : FwImage) (s : State) : Keeps 851949 s (replaceImage p img s) := by
  simp

/-- The newest two entries after two more. -/
theorem take_two {α : Type} (a e : α) (l : List α) : ∃ rest, (a :: (e :: l).take 65536).take 65536 = a :: e :: rest :=
  ⟨_, rfl⟩

/-- What replacing the image leaves of the flash. -/
theorem replaceImage_flash (p : PendWrite) (img : FwImage) (s : State) :
    (replaceImage p img s).sec.fwStored = some img ∧ (replaceImage p img s).sec.recovery = s.sec.recovery := by
  obtain ⟨hw1, hr1⟩ := auditDigest_sec p.q.sess 0x9010 1 0 false img.length img.digest (imageStored img s)
  obtain ⟨hw2, hr2⟩ := auditDigest_sec 0 0x9010 1 5 false img.length img.digest
    (auditDigest p.q.sess 0x9010 1 0 false img.length img.digest (imageStored img s))
  obtain ⟨l, hsec⟩ := respond_sec p.q 0 [] (imageLogged p img s)
  have hstored : (imageStored img s).sec.fwStored = some img := rfl
  have hrecovery : (imageStored img s).sec.recovery = s.sec.recovery := rfl
  have hlogged : (imageLogged p img s).sec.fwStored = some img ∧ (imageLogged p img s).sec.recovery = s.sec.recovery := by
    rw [imageLogged, hw2, hw1, hr2, hr1]
    exact ⟨hstored, hrecovery⟩
  rw [replaceImage_eq]
  generalize imageLogged p img s = u at hsec hlogged
  rw [hsec]
  exact hlogged

theorem replaceImage_answers (p : PendWrite) (img : FwImage) {s : State} (hopen : s.ring.bypassOpen = true) :
    Answers p.q 0 [] (replaceImage p img s) := by
  rw [replaceImage_eq]
  refine answers_respond _ _ _ _ ?_
  rw [imageLogged, auditDigest_bypass, auditDigest_bypass]
  exact hopen

/-- The write and the replacement are the newest two entries. -/
theorem replaceImage_logged (p : PendWrite) (img : FwImage) (s : State) :
    ∃ a e rest, (replaceImage p img s).sec.log = a :: e :: rest ∧ a.index = 0x9010 ∧ a.kind = 5 ∧ e.index = 0x9010 ∧
      e.sub = 1 ∧ e.sess = p.q.sess ∧ e.kind = 0 ∧ e.digest = img.digest := by
  obtain ⟨e, hlog1, -, ⟨hei, hes, heq, hek⟩, hed⟩ :=
    auditDigest_entry p.q.sess 0x9010 1 0 false img.length img.digest (imageStored img s)
  obtain ⟨a, hlog2, -, ⟨hai, -, -, hak⟩, -⟩ := auditDigest_entry 0 0x9010 1 5 false img.length img.digest
    (auditDigest p.q.sess 0x9010 1 0 false img.length img.digest (imageStored img s))
  obtain ⟨rest, hrest⟩ := take_two a e (imageStored img s).sec.log
  refine ⟨a, e, rest, ?_, hai, hak, hei, hes, heq, hek, hed⟩
  rw [replaceImage_eq, respond_log, imageLogged, hlog2, hlog1, hrest]

/-- The objects that replacing the image writes. -/
theorem replaceImage_objects (p : PendWrite) (img : FwImage) (s : State) :
    rg (replaceImage p img s) 0x9010 2 = 3 ∧ rg (replaceImage p img s) 0x9010 3 = img.version % 2 ^ 32 ∧
      regsExcept [(0x9010, 2), (0x9010, 3)] s (replaceImage p img s) := by
  have hobj : ∀ i j, j < 256 → ¬counted i → rg (replaceImage p img s) i j = rg (imageStored img s) i j := fun i j hj hc => by
    rw [replaceImage_eq, rg_respond, imageLogged, rg_auditDigest _ hj hc, rg_auditDigest _ hj hc]
  have hfw : ¬counted 0x9010 := not_counted_of (by decide)
  have hkeys : keyOf 0x9010 3 ≠ keyOf 0x9010 2 := by decide
  refine ⟨?_, ?_, fun i j hj hmem hi he hl => ?_⟩
  · rw [hobj _ _ (by decide) hfw]
    exact rg_withRg_same ..
  · rw [hobj _ _ (by decide) hfw]
    unfold imageStored
    rw [rg_withRg_other _ _ hkeys]
    exact rg_withRg_same ..
  · have hcount : ¬counted i := not_counted_of ⟨hi, he, hl⟩
    have hstored : regsExcept [(0x9010, 2), (0x9010, 3)] s (imageStored img s) := by
      unfold imageStored
      refine regsExcept_trans ?_ (regsExcept_withRg _ _ (by decide) (by simp))
      exact regsExcept_withRg (s := { dropPend .firmware s with sec := _ }) _ (by decide) (by simp)
    rw [hobj i j hj hcount]
    exact hstored i j hj hmem hi he hl

/-- An update that has failed. -/
theorem failUpdate_leaves {code : Nat} {p : PendWrite} {s : State} (hp : pendOf s .firmware = some p)
    (hopen : s.ring.bypassOpen = true) :
    (failUpdate code s).sec.fwStored = s.sec.fwStored ∧ rg (failUpdate code s) 0x9010 2 = 4 ∧
      Answers p.q code [] (failUpdate code s) ∧ (failUpdate code s).sec.log = s.sec.log ∧
      pendOf (failUpdate code s) .firmware = none ∧ regsExcept [(0x9010, 2)] s (failUpdate code s) ∧
      Keeps 851949 s (failUpdate code s) := by
  have hp' : pendOf (withRg 0x9010 2 4 s) .firmware = some p := hp
  have hfail : failUpdate code s = rejectReq p.q code (dropPend .firmware (withRg 0x9010 2 4 s)) := by
    unfold failUpdate
    exact failPend_of_pendOf hp'
  have hpend : pendOf (failUpdate code s) .firmware = none := by
    unfold failUpdate
    exact pendOf_failPend_same ..
  have hkeeps : Keeps 851949 s (failUpdate code s) := by simp
  obtain ⟨l, o, hsec⟩ := rejectReq_sec p.q code (dropPend .firmware (withRg 0x9010 2 4 s))
  refine ⟨?_, ?_, ?_, ?_, hpend, ?_, hkeeps⟩
  · rw [hfail, hsec]
    rfl
  · rw [hfail, rg_rejectReq _ (by decide) (by decide), rg_dropPend]
    exact rg_withRg_same ..
  · rw [hfail]
    exact answers_rejectReq _ _ _ hopen
  · rw [hfail, hsec]
    rfl
  · rw [hfail]
    have hset : regsExcept [(0x9010, 2)] s (withRg 0x9010 2 4 s) := regsExcept_withRg 4 s (by decide) (by simp)
    have hdrop : regsExcept [(0x9010, 2)] (withRg 0x9010 2 4 s) (dropPend .firmware (withRg 0x9010 2 4 s)) :=
      regsExcept_of_regs rfl
    exact regsExcept_trans hset (regsExcept_trans hdrop (regsExcept_rejectReq _ _ _))

/-- The end of an update, by the image's format, its signature and the flash. -/
theorem exec_firmwareWriteComplete {img : FwImage} {good : Bool} {p : PendWrite} {s : State} (hr : s.pwr.inReset = false)
    (hp : pendOf s .firmware = some p) (hst : rg s 0x9010 2 = 2) :
    exec (.firmwareWriteComplete img good) s = .next (
      if firmwareOk s img = false then failUpdate 0x02800001 (fresh s)
      else if good = false then failUpdate 0x04800001 (fresh s)
      else if s.sec.flashFull = true then failUpdate 0x05800002 (fresh s)
      else if (replaceImage p img (fresh s)).sec.recovery = true then
        releaseReset (replaceImage p img (fresh s)).straps (assertReset (replaceImage p img (fresh s)))
      else replaceImage p img (fresh s)) := by
  have hp' : pendOf (fresh s) .firmware = some p := hp
  have hgo : ¬((fresh s).pwr.inReset = true ∨ rg (fresh s) 0x9010 2 ≠ 2) := by
    change ¬(s.pwr.inReset = true ∨ rg s 0x9010 2 ≠ 2)
    simp [hr, hst]
  change execFirmwareWriteComplete img good s = _
  unfold execFirmwareWriteComplete
  dsimp only
  rw [hp']
  dsimp only
  rw [if_neg hgo]
  simp only [Bool.not_eq_true', show firmwareOk (fresh s) img = firmwareOk s img from rfl]
  rfl

theorem sessionsEnded_fwStored (s : State) : (sessionsEnded s).sec.fwStored = s.sec.fwStored := by
  unfold sessionsEnded
  generalize (List.range 7).map (· + 1) = l
  induction l generalizing s with
  | nil => rfl
  | cons n l ih => exact (ih _).trans (endSession_fwStored n s)

end Sys2Proof.Machine

open Sys2Proof Sys2Proof.Machine

/-- Settles O52: a write of a list answers and then ends the sessions that it has unlisted; an update is replaced or has
failed, by the image's format, its signature and the flash. -/
theorem enrolmentAndFirmwareAreReplacedOrKept : Obligations.EnrolmentAndFirmwareAreReplacedOrKept := by
  unfold Obligations.EnrolmentAndFirmwareAreReplacedOrKept
  refine ⟨fun q idx sub key s hidx h w hleft => ?taken, fun q sub key s h w hempty => ?rejected,
    fun img p s hr hopen hp hst hok hf hrec => ?written, fun img p s hr hopen hp hst hok hf hrec => ?recovered,
    fun img good code p s hr hopen hp hst hcase => ?failed⟩
  case taken =>
    have hsub := sub_lt_of_objExists w.present
    have hcount : ¬counted idx := not_counted_of (by rcases hidx with rfl | rfl <;> decide)
    have hfw : (idx, sub) ∉ [((0x9010 : Nat), (2 : Nat))] := by rcases hidx with rfl | rfl <;> simp
    have hset : rg (enrolEnded q idx sub key s) idx sub = key.toNat := by
      unfold enrolEnded
      rw [rg_respond, rg_auditWrite _ hsub hcount]
      exact rg_withRg_same ..
    have hlist := enrolled_enrolEnded q sub key s hidx
    have hnotes := sessOf_answered_write q idx sub (identBytes key) (withRg idx sub key.toNat) s fun _ _ => rfl
    have hsame : ∀ k, roleOf (enrolEnded q idx sub key s) k = roleOf s k ∧
        (sessOf (enrolEnded q idx sub key s) k).key = (sessOf s k).key := fun k => by
      obtain ⟨⟨p, r, a, hk⟩, -⟩ := hnotes k
      unfold roleOf enrolEnded
      rw [hk]
      exact ⟨rfl, rfl⟩
    have hended := fun n => mem_unlisted (n := n) hidx hsame hlist
    obtain ⟨hsess, hregs, hkeeps, hlog⟩ := endSessions_leaves ((unlisted_ (enrolEnded q idx sub key s) idx).filter
        (fun n => (sessOf (enrolEnded q idx sub key s) n).key == BitVec.ofNat 256 (rg s idx sub))) (enrolEnded q idx sub key s)
    have hlen := length_unlisted (enrolEnded q idx sub key s) idx
      (fun n => (sessOf (enrolEnded q idx sub key s) n).key == BitVec.ofNat 256 (rg s idx sub))
    refine ⟨_, exec_enrolmentWrite_taken hidx h w hleft, ?_, ?_, ?_, fun n hn => ?_, fun n hn hq => ?_, ?_, ?_⟩
    · rw [hregs idx sub hsub hfw (fun e => hcount (.inl e)) (fun e => hcount (.inr (.inl e))) (fun e => hcount (.inr (.inr e))),
        hset]
    · unfold Answers
      rw [hkeeps.sent (by decide)]
      exact answers_respond _ _ _ _ (by rw [auditWrite_bypass]; exact (actsOn_bypass ..).trans h.sends)
    · obtain ⟨e, he, hpos, hidx', hsub', hsess', hkind⟩ := enrolEnded_logged q idx sub key s (fun e => hcount (.inl e))
      exact ⟨e, List.mem_of_mem_take (hlog e 1 he (by omega)), hpos, hidx', hsub', hsess', hkind⟩
    · rw [hsess, if_pos ((hended n).mpr hn)]
    · rw [hsess, if_neg fun hmem => hn ((hended n).mp hmem)]
      exact (hnotes n).2 hq
    · refine regsExcept_trans ?_ (regsExcept_mono hregs (by simp))
      unfold enrolEnded
      exact regsExcept_respond_auditWrite _ _ _ _ _ _ (regsExcept_trans (regsExcept_of_regs (actsOn_regs ..))
        (regsExcept_withRg _ _ hsub (by simp)))
    · have hall : Keeps 851949 s (enrolEnded q idx sub key s) := by
        unfold enrolEnded
        simp
      exact unchanged_of_covered (hall.trans (hkeeps.mono (by decide))) rfl
  case rejected =>
    have hregs := (heardAs_same q (writeCommand (identBytes key)) 0x9003 sub s).1
    have hlist : enrolled (withRg 0x9003 sub key.toNat (heardAs q (writeCommand (identBytes key)) 0x9003 sub s)) 0x9003 =
        enrolled (withRg 0x9003 sub key.toNat s) 0x9003 := by
      unfold enrolled rg withRg
      rw [hregs]
    have hcode : firstByClass (enrolRule 0x9003 sub (identBytes key)
        (heardAs q (writeCommand (identBytes key)) 0x9003 sub s)).codes = 0x0280FF01 := by
      unfold enrolRule
      dsimp only
      rw [leNat_identBytes, hlist, hempty]
      rfl
    have hrefused := refused_write (rule := enrolRule 0x9003 sub (identBytes key)) h w rfl hcode (by decide) rfl
    exact ⟨_, congrArg Host.Outcome.next (if_pos (.inl rfl)), hrefused⟩
  case written =>
    obtain ⟨hstored, hrecovery⟩ := replaceImage_flash p img (fresh s)
    obtain ⟨hstate, hversion, hregs⟩ := replaceImage_objects p img (fresh s)
    have hexec := exec_firmwareWriteComplete (img := img) (good := true) hr hp hst
    rw [hrecovery, show (fresh s).sec.recovery = false from hrec, if_neg (by simp [hok]), if_neg (by decide),
      if_neg (by simp [hf]), if_neg (by decide)] at hexec
    exact ⟨_, hexec, hstored, hstate, hversion, replaceImage_answers p img hopen, replaceImage_logged p img (fresh s), hregs,
      unchanged_of_covered ((show Keeps 851949 s (fresh s) by simp).trans (replaceImage_keeps_parts p img _)) rfl⟩
  case recovered =>
    obtain ⟨hstored, hrecovery⟩ := replaceImage_flash p img (fresh s)
    have hanswers := replaceImage_answers (s := fresh s) p img hopen
    have hstraps : (replaceImage p img (fresh s)).straps = s.straps :=
      ((show Keeps 851949 s (fresh s) by simp).trans (replaceImage_keeps_parts p img _)).straps (by decide)
    have hexec := exec_firmwareWriteComplete (img := img) (good := true) hr hp hst
    rw [hrecovery, show (fresh s).sec.recovery = true from hrec, if_neg (by simp [hok]), if_neg (by decide),
      if_neg (by simp [hf]), if_pos rfl, assertReset_eq, hstraps] at hexec
    have hfw := sessionsEnded_fwStored (replaceImage p img (fresh s))
    have hsent := (sessionsEnded_keeps (replaceImage p img (fresh s))).sent (by decide)
    generalize sessionsEnded (replaceImage p img (fresh s)) = u at hexec hfw hsent
    have hafter := afterReset_released u s.straps { inReset := true }
    refine ⟨_, hexec, hfw.trans hstored, ?_, ⟨hafter.awake, hafter.inert, hafter.stow, hafter.enables, hafter.bypass,
      hafter.generations, hafter.clock, hafter.dark, hafter.links, hafter.hbm, hafter.cores, hafter.sessions, hafter.staged,
      hafter.trip, hafter.port⟩, rfl⟩
    change Output.response p.q.sess p.q.msg _ [] ∈ u.sent
    rw [hsent]
    exact hanswers
  case failed =>
    have hexec := exec_firmwareWriteComplete (img := img) (good := good) hr hp hst
    have hfail : exec (.firmwareWriteComplete img good) s = .next (failUpdate code (fresh s)) := by
      rcases hcase with ⟨hbad, rfl⟩ | ⟨hok, rfl, rfl⟩ | ⟨hok, rfl, hf, rfl⟩
      · rw [hexec, if_pos hbad]
      · rw [hexec, if_neg (by simp [hok]), if_pos rfl]
      · rw [hexec, if_neg (by simp [hok]), if_neg (by decide), if_pos hf]
    obtain ⟨hstored, hstate, hanswers, hlog, hpend, hregs, hkeeps⟩ :=
      failUpdate_leaves (code := code) (s := fresh s) (p := p) hp hopen
    exact ⟨_, hfail, hstored, hstate, hanswers, hlog, hpend, hregs,
      unchanged_of_covered ((show Keeps 851949 s (fresh s) by simp).trans hkeeps) rfl⟩

end

section
/-! Sessions are established, time out and are closed (spec/15_security.md, Roles, enrolment and sessions;
Establishment). -/

namespace Sys2Proof.Machine

/-- The state in which a message of establishment is judged. -/
def establishmentHeard (s : State) : State := takeMsg 6 0 (fresh s)

theorem establishmentHeard_keeps (s : State) : Keeps 983037 s (establishmentHeard s) := by simp [establishmentHeard]

theorem sessOf_of_sec {s t : State} (h : t.sec = s.sec) (n : Nat) : sessOf t n = sessOf s n := by
  unfold sessOf
  rw [h]

theorem sendRing_sec (o : Output) (s : State) : (sendRing o s).sec = s.sec :=
  (show Keeps 131072 s (sendRing o s) by simp).sec (by decide)

theorem sessOf_countReject (w : W256) (s : State) (n : Nat) : sessOf (countReject w s) n = sessOf s n := rfl

/-! ## HELLO (R449) -/

theorem exec_hello {msg role rsv : Nat} {key : W256} {s : State} (hh : hears s = true) :
    exec (.hello msg role key rsv) s = .next (
      if !admits s role key then sendRing (.reply msg 0 0x04800002) (countReject 0 (establishmentHeard s))
      else match freeSession s role with
        | none => sendRing (.reply msg 0 0x05800001) (countReject 0 (establishmentHeard s))
        | some n => sendRing (.reply msg n 0) (drawn (withSess n { state := .establishing, role := roleOfCode role, key := key, replyAt := s.pwr.time }
            (establishmentHeard s)))) := by
  have hgo : ¬(!hears (establishmentHeard s)) = true := by
    change ¬(!hears s) = true
    simp [hh]
  exact congrArg Host.Outcome.next (if_neg hgo)

/-! ## FINISH (R449) -/

theorem exec_finish {m : FinishMsg} {s : State} (hh : hears s = true) (hx : (sessOf s m.sess).state = .establishing) :
    exec (.finish m) s = .next (
      if !m.sigGood ∨ (sessOf s m.sess).replyAt + 1000000000 < s.pwr.time ∨
          ((sessOf s m.sess).role = .tenant ∧ (s.dev = .inert ∨ s.dev = .faulted)) then
        failFinish m.sess 0x04800002 (establishmentHeard s)
      else if s.sec.flashFull then failFinish m.sess 0x05800002 (establishmentHeard s)
      else establish m (establishmentHeard s)) := by
  have hgo : ¬(!hears (establishmentHeard s)) = true := by
    change ¬(!hears s) = true
    simp [hh]
  have hstate : ¬(sessOf (establishmentHeard s) m.sess).state ≠ .establishing := fun h => h hx
  exact congrArg Host.Outcome.next ((if_neg hgo).trans (if_neg hstate))

theorem exec_finish_established {m : FinishMsg} {s : State} (h : Finishes m s) :
    exec (.finish m) s = .next (establish m (establishmentHeard s)) := by
  have hlate : ¬(sessOf s m.sess).replyAt + 1000000000 < s.pwr.time := Nat.not_lt.mpr h.inTime
  have hrole : ¬((sessOf s m.sess).role = .tenant ∧ (s.dev = .inert ∨ s.dev = .faulted)) := fun ⟨hr, hd⟩ =>
    hd.elim (h.allowed hr).1 (h.allowed hr).2
  rw [exec_finish h.hears h.begun, if_neg (by simp [h.signed, hlate, hrole]), if_neg (by simp [h.flash])]

/-- What a TENANT session closes before it is established (R453). -/
def tenantCleared (x : Session) (s : State) : State :=
  if x.role = .tenant then stopArea1 (endSelfTest 3 (closeTestPort s)) else s

/-- The session in place, and the tenant bound. -/
def sessionPlaced (n : Nat) (x : Session) (s : State) : State :=
  if x.role = .tenant ∧ (withSess n x s).sec.bound = none then
    { withSess n x s with sec := { (withSess n x s).sec with bound := some x.key } }
  else withSess n x s

/-- The session logged. -/
def sessionEntered (n : Nat) (s : State) : State :=
  audit n 0x9001 n 2 false (leBytes 4 (sessionStatus (sessOf s n))) s

/-- The first OPERATOR key enrolled (R445). -/
def firstEnrolled (n : Nat) (x : Session) (s : State) : State :=
  if x.role = .operator ∧ enrolled s 0x9003 = [] then
    audit n 0x9003 1 4 false (identBytes x.key) (withRg 0x9003 1 x.key.toNat s)
  else s

theorem establish_eq (m : FinishMsg) (s : State) :
    establish m s = sendRing (.result m.sess 3 0) (firstEnrolled m.sess (keyedSession m s (sessOf s m.sess))
      (sessionEntered m.sess (sessionPlaced m.sess (keyedSession m s (sessOf s m.sess))
        (tenantCleared (keyedSession m s (sessOf s m.sess)) s)))) := rfl

/-! ## What a TENANT session closes first (R453) -/

theorem forgetTarget_gen (kind target : Nat) (s : State) : (forgetTarget kind target s).mem.gen = s.mem.gen := by
  unfold forgetTarget
  split
  · have h : ∀ u, (forgetHalf target u).mem = u.mem := fun u =>
      (show Keeps 512 u (forgetHalf target u) by simp).mem (by decide)
    rw [h]
  · rfl
  · rfl
  · rfl

theorem endSelfTest_leaves (s : State) : (endSelfTest 3 s).test.selfTest = none ∧
    (s.test.selfTest.isSome = true → rg (endSelfTest 3 s) 0xB010 2 = 3) ∧ (endSelfTest 3 s).mem.gen = s.mem.gen ∧
      regsExcept [(0xB010, 2)] s (endSelfTest 3 s) := by
  cases h : s.test.selfTest with
  | none =>
    have hsame : endSelfTest 3 s = s := by
      unfold endSelfTest
      rw [h]
    rw [hsame]
    exact ⟨h, fun hn => absurd hn (by decide), rfl, regsExcept_refl _ _⟩
  | some x =>
    have hgen : (endSelfTest 3 s).mem.gen = s.mem.gen := by
      rw [endSelfTest_running 3 h]
      exact forgetTarget_gen x.1 x.2 { s with test := { s.test with selfTest := none } }
    refine ⟨by rw [endSelfTest_test 3 h], fun _ => ?_, hgen, regsExcept_endSelfTest 3 h⟩
    rw [endSelfTest_running 3 h]
    exact rg_withRg_same ..

/-- The test state and the area of the generator after a TENANT session has stopped a generator on area 1. -/
theorem stopArea1_leaves (s : State) :
    (∀ r, s.mem.gen = some r → r.req.area = 1 → (stopArea1 s).mem.gen = none ∧ rg (stopArea1 s) 0x4010 2 = 4) ∧
      regsExcept [(0x4010, 2)] s (stopArea1 s) := by
  unfold stopArea1
  cases h : s.mem.gen with
  | none => exact ⟨fun r hr => (by cases hr), regsExcept_refl _ _⟩
  | some r =>
    by_cases ha : r.req.area = 1
    · have hstop : stopGenerator s = withRg 0x4010 2 4 { forgetTested r.req s with
          mem := { (forgetTested r.req s).mem with gen := none } } := by
        unfold stopGenerator
        rw [h]
        dsimp only
        rw [if_pos ha]
      dsimp only
      rw [if_pos ha, hstop]
      refine ⟨fun r' _ _ => ⟨rfl, rg_withRg_same ..⟩, ?_⟩
      exact regsExcept_withRg (s := { forgetTested r.req s with mem := _ }) _ (by decide) (by decide)
    · dsimp only
      rw [if_neg ha]
      refine ⟨fun r' hr harea => ?_, regsExcept_refl _ _⟩
      cases hr
      exact absurd harea ha

theorem tenantCleared_keeps (x : Session) (s : State) : Keeps 261483 s (tenantCleared x s) := by
  unfold tenantCleared
  split
  · simp
  · exact Keeps.refl _ _

theorem tenantCleared_other {x : Session} (h : x.role ≠ .tenant) (s : State) : tenantCleared x s = s := if_neg h

theorem tenantCleared_leaves {x : Session} (h : x.role = .tenant) (s : State) :
    rg (tenantCleared x s) 0xB020 1 = 0 ∧ (tenantCleared x s).test.selfTest = none ∧
      (s.test.selfTest.isSome = true → rg (tenantCleared x s) 0xB010 2 = 3) ∧
      (∀ r, s.mem.gen = some r → r.req.area = 1 →
        (tenantCleared x s).mem.gen = none ∧ rg (tenantCleared x s) 0x4010 2 = 4) ∧
      regsExcept [(0x4010, 2), (0xB010, 2), (0xB020, 1)] s (tenantCleared x s) := by
  have hclosed := stores_closeTestPort s
  have htests : (closeTestPort s).test.selfTest = s.test.selfTest := congrArg Prod.fst (testsAndStacks_closeTestPort s)
  have hmem : (closeTestPort s).mem = s.mem := (show Keeps 512 s (closeTestPort s) by simp).mem (by decide)
  obtain ⟨hnone, hthree, hgen, hregs1⟩ := endSelfTest_leaves (closeTestPort s)
  obtain ⟨hstop, hregs2⟩ := stopArea1_leaves (endSelfTest 3 (closeTestPort s))
  have htest : (stopArea1 (endSelfTest 3 (closeTestPort s))).test = (endSelfTest 3 (closeTestPort s)).test :=
    (show Keeps 524288 (endSelfTest 3 (closeTestPort s)) (stopArea1 (endSelfTest 3 (closeTestPort s))) by simp).test (by decide)
  unfold tenantCleared
  rw [if_pos h]
  refine ⟨?_, ?_, fun hsome => ?_, fun r hr ha => hstop r ?_ ha, ?_⟩
  · rw [hregs2 _ _ (by decide) (by decide) (by decide) (by decide) (by decide),
      hregs1 _ _ (by decide) (by decide) (by decide) (by decide) (by decide), hclosed.value]
  · rw [htest, hnone]
  · rw [hregs2 _ _ (by decide) (by decide) (by decide) (by decide) (by decide), hthree (by rw [htests]; exact hsome)]
  · rw [hgen, hmem, hr]
  · exact regsExcept_trans (regsExcept_mono hclosed.regs (by decide))
      (regsExcept_trans (regsExcept_mono hregs1 (by decide)) (regsExcept_mono hregs2 (by decide)))

/-! ## The session established (R445, R447, R449) -/

theorem sessionPlaced_leaves (n : Nat) (x : Session) (s : State) :
    (∀ k, sessOf (sessionPlaced n x s) k = if k = n then x else sessOf s k) ∧ (sessionPlaced n x s).sec.log = s.sec.log ∧
      (x.role = .tenant → (sessionPlaced n x s).sec.bound = some (s.sec.bound.getD x.key)) ∧
      Keeps 917503 s (sessionPlaced n x s) := by
  have hplaced := fun k => sessOf_withSess n k x s
  have hkeeps : Keeps 917503 s (withSess n x s) := by simp
  unfold sessionPlaced
  split
  · next h =>
    have hbound : s.sec.bound = none := h.2
    refine ⟨hplaced, rfl, fun _ => ?_, (keeps_set_sec (u := withSess n x s) _ (by decide)).mpr hkeeps⟩
    rw [hbound]
    rfl
  · next h =>
    refine ⟨hplaced, rfl, fun hr => ?_, hkeeps⟩
    have hbound : s.sec.bound ≠ none := fun hb => h ⟨hr, hb⟩
    obtain ⟨b, hb⟩ := Option.ne_none_iff_exists'.mp hbound
    change s.sec.bound = _
    rw [hb]
    rfl

/-- A session established by a finish, but for what it logs: the sessions, the device and what goes out. -/
theorem established_of {m : FinishMsg} {s u : State} (hsess : ∀ k, sessOf u k =
      if k = m.sess then keyedSession m s (sessOf s m.sess) else sessOf s k) (hdev : u.dev = s.dev) (hsent : u.sent = [])
    (hopen : u.ring.bypassOpen = true) : Established m s (sendRing (.result m.sess 3 0) u) := by
  have hsec := sendRing_sec (.result m.sess 3 0) u
  refine ⟨?_, ?_, fun k hk => ?_, ?_⟩
  · rw [sendRing_sent hopen, hsent]
    rfl
  · rw [sessOf_of_sec hsec, hsess, if_pos rfl]
  · rw [sessOf_of_sec hsec, hsess, if_neg hk]
  · exact ((show Keeps 8 u (sendRing (.result m.sess 3 0) u) by simp).dev (by decide)).trans hdev

/-- The state in which an established session has been logged, before any first enrolment. -/
def sessionReady (m : FinishMsg) (s : State) : State :=
  sessionEntered m.sess (sessionPlaced m.sess (keyedSession m s (sessOf s m.sess))
    (tenantCleared (keyedSession m s (sessOf s m.sess)) (establishmentHeard s)))

theorem establish_heard (m : FinishMsg) (s : State) :
    establish m (establishmentHeard s) = sendRing (.result m.sess 3 0)
      (firstEnrolled m.sess (keyedSession m s (sessOf s m.sess)) (sessionReady m s)) := establish_eq ..

/-- The session is in place and its start is the newest entry of the log. -/
theorem sessionReady_leaves (m : FinishMsg) (s : State) :
    (∀ k, sessOf (sessionReady m s) k = if k = m.sess then keyedSession m s (sessOf s m.sess) else sessOf s k) ∧
      sessionLogged m.sess 2 (sessionReady m s) ∧ (sessionReady m s).dev = s.dev ∧ (sessionReady m s).sent = [] ∧
      (sessionReady m s).ring.bypassOpen = s.ring.bypassOpen := by
  unfold sessionReady sessionEntered
  generalize keyedSession m s (sessOf s m.sess) = x
  have hcleared := tenantCleared_keeps x (establishmentHeard s)
  have hheard := establishmentHeard_keeps s
  obtain ⟨hsess, -, -, hplaced⟩ := sessionPlaced_leaves m.sess x (tenantCleared x (establishmentHeard s))
  have hsame : ∀ k, sessOf (tenantCleared x (establishmentHeard s)) k = sessOf s k := fun k =>
    sessOf_of_sec ((hcleared.sec (by decide)).trans (hheard.sec (by decide))) k
  have hsent : (tenantCleared x (establishmentHeard s)).sent = [] := hcleared.sent (by decide)
  have hring : (tenantCleared x (establishmentHeard s)).ring.bypassOpen = s.ring.bypassOpen := by
    rw [hcleared.ring (by decide)]
    rfl
  have hdev : (tenantCleared x (establishmentHeard s)).dev = s.dev :=
    (hcleared.dev (by decide)).trans (hheard.dev (by decide))
  generalize sessionPlaced m.sess x (tenantCleared x (establishmentHeard s)) = p at hsess hplaced
  obtain ⟨e, rest, hlog, hi, hs, hq, hk⟩ := audit_log m.sess 0x9001 m.sess 2 false (leBytes 4 (sessionStatus (sessOf p m.sess))) p
  have haudit : Keeps 851951 p (audit m.sess 0x9001 m.sess 2 false (leBytes 4 (sessionStatus (sessOf p m.sess))) p) := by simp
  refine ⟨fun k => ?_, ⟨e, rest, hlog, hi, hs, hk, hq⟩, ?_, ?_, ?_⟩
  · rw [sessOf_audit, hsess, hsame]
  · exact (haudit.dev (by decide)).trans ((hplaced.dev (by decide)).trans hdev)
  · exact (haudit.sent (by decide)).trans ((hplaced.sent (by decide)).trans hsent)
  · rw [audit_bypass, hplaced.ring (by decide), hring]

/-- What placing and logging a session leaves of the state that was cleared for it. -/
theorem sessionReady_frame (m : FinishMsg) (s : State) :
    Keeps 851951 (tenantCleared (keyedSession m s (sessOf s m.sess)) (establishmentHeard s)) (sessionReady m s) ∧
      ∀ l, regsExcept l (tenantCleared (keyedSession m s (sessOf s m.sess)) (establishmentHeard s)) (sessionReady m s) := by
  unfold sessionReady sessionEntered
  generalize keyedSession m s (sessOf s m.sess) = x
  obtain ⟨-, -, -, hplaced⟩ := sessionPlaced_leaves m.sess x (tenantCleared x (establishmentHeard s))
  refine ⟨(hplaced.mono (by decide)).trans (by simp), fun l => ?_⟩
  exact regsExcept_trans (regsExcept_of_regs (hplaced.regs (by decide))) (regsExcept_audit _ _ _ _ _ _ _)

/-- A session's start in the log of the state that its result leaves. -/
theorem sessionLogged_sendRing {n kind : Nat} {u : State} (o : Output) (h : sessionLogged n kind u) :
    sessionLogged n kind (sendRing o u) := by
  unfold sessionLogged
  rw [sendRing_sec]
  exact h

theorem enrolled_of_regsExcept {l : List (Nat × Nat)} {s t : State} {idx : Nat} (h : regsExcept l s t)
    (hl : ∀ j, (idx, j) ∉ l) (hc : idx ≠ 0xF000 ∧ idx ≠ 0x1300 ∧ idx ≠ 0x6C01) : enrolled t idx = enrolled s idx := by
  unfold enrolled
  refine congrArg _ (List.map_congr_left fun i hi => ?_)
  have hi' := List.mem_range.mp hi
  rw [h idx (i + 1) (by omega) (hl _) hc.1 hc.2.1 hc.2.2]

/-- A session that is neither a TENANT's nor the first OPERATOR's. -/
theorem establish_plain {m : FinishMsg} {s : State} (hrole : (sessOf s m.sess).role ≠ .tenant)
    (hlist : (sessOf s m.sess).role = .operator → enrolled s 0x9003 ≠ []) (hopen : s.ring.bypassOpen = true) :
    Established m s (establish m (establishmentHeard s)) ∧ sessionLogged m.sess 2 (establish m (establishmentHeard s)) ∧
      regsExcept [] s (establish m (establishmentHeard s)) ∧
      unchangedExcept [.wires, .registers, .ring, .security] s (establish m (establishmentHeard s)) := by
  obtain ⟨hsess, hlogged, hdev, hsent, hring⟩ := sessionReady_leaves m s
  obtain ⟨hframe, hregs⟩ := sessionReady_frame m s
  rw [tenantCleared_other (x := keyedSession m s (sessOf s m.sess)) hrole] at hframe hregs
  have henrolled : enrolled (sessionReady m s) 0x9003 = enrolled s 0x9003 :=
    enrolled_of_regsExcept (s := establishmentHeard s) (hregs []) (fun _ => List.not_mem_nil) (by decide)
  have hfirst : firstEnrolled m.sess (keyedSession m s (sessOf s m.sess)) (sessionReady m s) = sessionReady m s :=
    if_neg fun ⟨hr, he⟩ => hlist hr (henrolled ▸ he)
  rw [establish_heard, hfirst]
  refine ⟨established_of hsess hdev hsent (by rw [hring]; exact hopen), sessionLogged_sendRing _ hlogged, ?_, ?_⟩
  · have hsends : (sendRing (.result m.sess 3 0) (sessionReady m s)).regs = (sessionReady m s).regs :=
      (show Keeps 16 (sessionReady m s) (sendRing (.result m.sess 3 0) (sessionReady m s)) by simp).regs (by decide)
    exact regsExcept_trans (regsExcept_of_regs rfl) (regsExcept_trans (hregs []) (regsExcept_of_regs hsends))
  · exact unchanged_of_covered (((establishmentHeard_keeps s).mono (by decide)).trans
      ((hframe.mono (by decide)).trans (show Keeps 851949 _ _ by simp))) rfl

/-- The first OPERATOR's session, whose key is enrolled and logged. -/
theorem establish_first {m : FinishMsg} {s : State} (hrole : (sessOf s m.sess).role = .operator)
    (hlist : enrolled s 0x9003 = []) (hopen : s.ring.bypassOpen = true) :
    Established m s (establish m (establishmentHeard s)) ∧
      rg (establish m (establishmentHeard s)) 0x9003 1 = (sessOf s m.sess).key.toNat ∧
      (∃ a e rest, (establish m (establishmentHeard s)).sec.log = a :: e :: rest ∧ a.index = 0x9003 ∧ a.sub = 1 ∧
        a.kind = 4 ∧ e.index = 0x9001 ∧ e.sub = m.sess ∧ e.kind = 2 ∧ e.sess = m.sess) ∧
      regsExcept [(0x9003, 1)] s (establish m (establishmentHeard s)) ∧
      unchangedExcept [.wires, .registers, .ring, .security] s (establish m (establishmentHeard s)) := by
  obtain ⟨hsess, ⟨e, rest, hlog, hei, hes, hek, heq⟩, hdev, hsent, hring⟩ := sessionReady_leaves m s
  obtain ⟨hframe, hregs⟩ := sessionReady_frame m s
  have hother : (keyedSession m s (sessOf s m.sess)).role ≠ .tenant := fun h =>
    absurd (hrole.symm.trans h) (by decide)
  rw [tenantCleared_other hother] at hframe hregs
  have henrolled : enrolled (sessionReady m s) 0x9003 = enrolled s 0x9003 :=
    enrolled_of_regsExcept (s := establishmentHeard s) (hregs []) (fun _ => List.not_mem_nil) (by decide)
  have hfirst : firstEnrolled m.sess (keyedSession m s (sessOf s m.sess)) (sessionReady m s) =
      audit m.sess 0x9003 1 4 false (identBytes (sessOf s m.sess).key)
        (withRg 0x9003 1 (sessOf s m.sess).key.toNat (sessionReady m s)) := if_pos ⟨hrole, henrolled.trans hlist⟩
  rw [establish_heard, hfirst]
  generalize sessionReady m s = r at hsess hlog hdev hsent hring hframe hregs
  have hset : Keeps 1048559 r (withRg 0x9003 1 (sessOf s m.sess).key.toNat r) := by simp
  have hsetregs : regsExcept [(0x9003, 1)] r (withRg 0x9003 1 (sessOf s m.sess).key.toNat r) :=
    regsExcept_withRg _ _ (by decide) (by simp)
  have hvalue : rg (withRg 0x9003 1 (sessOf s m.sess).key.toNat r) 0x9003 1 = (sessOf s m.sess).key.toNat :=
    rg_withRg_same ..
  generalize withRg 0x9003 1 (sessOf s m.sess).key.toNat r = w at hset hsetregs hvalue
  obtain ⟨a, halog, -, ⟨hai, has, -, hak⟩, -⟩ := auditDigest_entry m.sess 0x9003 1 4 false
    (identBytes (sessOf s m.sess).key).length (Config.sha384 (identBytes (sessOf s m.sess).key)) w
  have halog' : (audit m.sess 0x9003 1 4 false (identBytes (sessOf s m.sess).key) w).sec.log =
      (a :: w.sec.log).take 65536 := halog
  have haudit : Keeps 851951 w (audit m.sess 0x9003 1 4 false (identBytes (sessOf s m.sess).key) w) := by simp
  have hbypass : (audit m.sess 0x9003 1 4 false (identBytes (sessOf s m.sess).key) w).ring.bypassOpen = true := by
    rw [audit_bypass, hset.ring (by decide), hring, hopen]
  have hauditregs : regsExcept [(0x9003, 1)] w (audit m.sess 0x9003 1 4 false (identBytes (sessOf s m.sess).key) w) :=
    regsExcept_audit _ _ _ _ _ _ _
  have hauditvalue : rg (audit m.sess 0x9003 1 4 false (identBytes (sessOf s m.sess).key) w) 0x9003 1 = rg w 0x9003 1 :=
    rg_audit w (by decide) (not_counted_of (by decide))
  have hauditsess : ∀ k, sessOf (audit m.sess 0x9003 1 4 false (identBytes (sessOf s m.sess).key) w) k = sessOf w k :=
    fun k => sessOf_audit ..
  generalize audit m.sess 0x9003 1 4 false (identBytes (sessOf s m.sess).key) w = d
    at halog' haudit hbypass hauditregs hauditvalue hauditsess
  have hsends : (sendRing (.result m.sess 3 0) d).regs = d.regs :=
    (show Keeps 16 d (sendRing (.result m.sess 3 0) d) by simp).regs (by decide)
  refine ⟨established_of (fun k => ?_) ?_ ?_ hbypass, ?_, ⟨a, e, rest.take 65534, ?_, hai, has, hak, hei, hes, hek, heq⟩,
    ?_, ?_⟩
  · rw [hauditsess, sessOf_of_sec (hset.sec (by decide)), hsess]
  · exact (haudit.dev (by decide)).trans ((hset.dev (by decide)).trans hdev)
  · exact (haudit.sent (by decide)).trans ((hset.sent (by decide)).trans hsent)
  · rw [rg_of_regs hsends, hauditvalue, hvalue]
  · rw [sendRing_sec, halog', hset.sec (by decide), hlog]
    rfl
  · exact regsExcept_trans (regsExcept_of_regs rfl) (regsExcept_trans (hregs _) (regsExcept_trans hsetregs
      (regsExcept_trans hauditregs (regsExcept_of_regs hsends))))
  · exact unchanged_of_covered (((establishmentHeard_keeps s).mono (by decide)).trans ((hframe.mono (by decide)).trans
      ((hset.mono (by decide)).trans ((haudit.mono (by decide)).trans (show Keeps 851949 _ _ by simp))))) rfl

/-- A TENANT's session. -/
theorem establish_tenant {m : FinishMsg} {s : State} (hrole : (sessOf s m.sess).role = .tenant)
    (hopen : s.ring.bypassOpen = true) :
    Established m s (establish m (establishmentHeard s)) ∧ sessionLogged m.sess 2 (establish m (establishmentHeard s)) ∧
      rg (establish m (establishmentHeard s)) 0xB020 1 = 0 ∧
      (establish m (establishmentHeard s)).sec.bound = some (s.sec.bound.getD (sessOf s m.sess).key) ∧
      (establish m (establishmentHeard s)).test.selfTest = none ∧
      (s.test.selfTest.isSome = true → rg (establish m (establishmentHeard s)) 0xB010 2 = 3) ∧
      (∀ r, s.mem.gen = some r → r.req.area = 1 → (establish m (establishmentHeard s)).mem.gen = none ∧
        rg (establish m (establishmentHeard s)) 0x4010 2 = 4) ∧
      regsExcept [(0x4010, 2), (0xB010, 2), (0xB020, 1)] s (establish m (establishmentHeard s)) ∧
      unchangedExcept [.wires, .freeCounter, .registers, .sites, .memory, .ring, .security, .power, .test] s
        (establish m (establishmentHeard s)) := by
  obtain ⟨hsess, hlogged, hdev, hsent, hring⟩ := sessionReady_leaves m s
  obtain ⟨hframe, hregs⟩ := sessionReady_frame m s
  have htenant : (keyedSession m s (sessOf s m.sess)).role = .tenant := hrole
  have hbound : (sessionReady m s).sec.bound = some (s.sec.bound.getD (sessOf s m.sess).key) := by
    have hcleared := tenantCleared_keeps (keyedSession m s (sessOf s m.sess)) (establishmentHeard s)
    obtain ⟨-, -, hbound, -⟩ := sessionPlaced_leaves m.sess (keyedSession m s (sessOf s m.sess))
      (tenantCleared (keyedSession m s (sessOf s m.sess)) (establishmentHeard s))
    unfold sessionReady sessionEntered
    rw [audit_sec_bound, hbound htenant, hcleared.sec (by decide)]
    rfl
  obtain ⟨hport, htest, hthree, hgen, hclearedregs⟩ := tenantCleared_leaves htenant (establishmentHeard s)
  have hcleared := tenantCleared_keeps (keyedSession m s (sessOf s m.sess)) (establishmentHeard s)
  have hfirst : firstEnrolled m.sess (keyedSession m s (sessOf s m.sess)) (sessionReady m s) = sessionReady m s :=
    if_neg fun ⟨hr, _⟩ => absurd (hrole.symm.trans hr) (by decide)
  rw [establish_heard, hfirst]
  generalize tenantCleared (keyedSession m s (sessOf s m.sess)) (establishmentHeard s) = c
    at hframe hregs hport htest hthree hgen hclearedregs hcleared
  generalize sessionReady m s = r at hsess hlogged hdev hsent hring hframe hregs hbound
  have hsends : Keeps 983037 r (sendRing (.result m.sess 3 0) r) := by simp
  have hobj : ∀ i j, j < 256 → i ≠ 0xF000 → i ≠ 0x1300 → i ≠ 0x6C01 →
      rg (sendRing (.result m.sess 3 0) r) i j = rg c i j := fun i j hj h1 h2 h3 => by
    rw [rg_of_regs (hsends.regs (by decide)), hregs [] i j hj List.not_mem_nil h1 h2 h3]
  refine ⟨established_of hsess hdev hsent (by rw [hring]; exact hopen), sessionLogged_sendRing _ hlogged, ?_, ?_, ?_,
    fun hsome => ?_, fun g hg ha => ⟨?_, ?_⟩, ?_, ?_⟩
  · rw [hobj _ _ (by decide) (by decide) (by decide) (by decide), hport]
  · rw [sendRing_sec, hbound]
  · rw [hsends.test (by decide), hframe.test (by decide), htest]
  · rw [hobj _ _ (by decide) (by decide) (by decide) (by decide), hthree hsome]
  · rw [hsends.mem (by decide), hframe.mem (by decide), (hgen g hg ha).1]
  · rw [hobj _ _ (by decide) (by decide) (by decide) (by decide), (hgen g hg ha).2]
  · exact regsExcept_trans (regsExcept_of_regs rfl) (regsExcept_trans hclearedregs (regsExcept_trans (hregs _)
      (regsExcept_of_regs (hsends.regs (by decide)))))
  · exact unchanged_of_covered (m := 64873) (((establishmentHeard_keeps s).mono (by decide)).trans
      ((hcleared.mono (by decide)).trans ((hframe.mono (by decide)).trans (hsends.mono (by decide))))) rfl

/-! ## Sessions that end (R449, R452) -/

/-- A finish that fails frees its session. -/
theorem failFinish_leaves {n code : Nat} {s : State} (hopen : s.ring.bypassOpen = true) :
    Refused (.result 0 3 (BitVec.ofNat 32 code)) s (failFinish n code (establishmentHeard s)) ∧
      sessOf (failFinish n code (establishmentHeard s)) n = {} ∧
      ∀ k, k ≠ n → sessOf (failFinish n code (establishmentHeard s)) k = sessOf s k := by
  have hsess : ∀ k, sessOf (failFinish n code (establishmentHeard s)) k = if k = n then {} else sessOf s k := fun k => by
    unfold failFinish
    rw [sessOf_of_sec (sendRing_sec ..), sessOf_countReject, sessOf_withSess]
    rfl
  refine ⟨?_, ?_, fun k hk => ?_⟩
  · have hfreed : Keeps 851965 s (withSess n {} (establishmentHeard s)) :=
      ((establishmentHeard_keeps s).mono (by decide)).trans (by simp)
    exact refused_sendRing hfreed rfl hopen rfl
  · rw [hsess n]
    exact if_pos rfl
  · rw [hsess k]
    exact if_neg hk

/-- What the end of an established session leaves in the ring. -/
theorem endSession_ring {n : Nat} {s : State} (h : (sessOf s n).state = .established) :
    (endSession n s).ring.transfers = s.ring.transfers.filter (fun x => x.sess ≠ n) ∧
      (∀ p ∈ (endSession n s).ring.parts, p.sess ≠ n) ∧
      (endSession n s).ring.channels = (if (sessOf s n).role = .tenant then [] else s.ring.channels) := by
  have htransfers := audit_ring_transfers n 0x9001 n 3 false (zeros 4) s
  have hchannels := audit_ring_channels n 0x9001 n 3 false (zeros 4) s
  unfold endSession
  rw [if_neg fun hne => hne h]
  generalize audit n 0x9001 n 3 false (zeros 4) s = a at htransfers hchannels
  dsimp only
  by_cases ht : (sessOf s n).role = .tenant
  · rw [if_pos ht, if_pos ht]
    exact ⟨congrArg _ htransfers, fun p hp => by simpa using (List.mem_filter.mp hp).2, rfl⟩
  · rw [if_neg ht, if_neg ht]
    exact ⟨congrArg _ htransfers, fun p hp => by simpa using (List.mem_filter.mp hp).2, hchannels⟩

/-- The end of an established session is the newest entry of the log. -/
theorem endSession_logged {n : Nat} {s : State} (h : (sessOf s n).state = .established) :
    sessionLogged n 3 (endSession n s) := by
  obtain ⟨e, rest, hlog, hi, hs, hq, hk⟩ := audit_log n 0x9001 n 3 false (zeros 4) s
  refine ⟨e, rest, ?_, hi, hs, hk, hq⟩
  obtain ⟨hne, -⟩ | ⟨r, hend | hend⟩ := endSession_cases n s
  · exact absurd h hne
  · rw [hend]
    exact hlog
  · rw [hend]
    exact hlog

end Sys2Proof.Machine

open Sys2Proof Sys2Proof.Machine

/-- Settles O50: a finish places its session in the state cleared for its role and logs it there; a session's end is
logged before its values go. -/
theorem sessionsComeAndGo : Obligations.SessionsComeAndGo := by
  unfold Obligations.SessionsComeAndGo
  refine ⟨fun msg role rsv n key s hh hopen hadmits hfree => ?hello, fun msg role rsv code key s hh hopen hcase => ?refused,
    fun m s h hrole => ?tenant, fun m s h hrole hlist => ?first, fun m s h hrole hlist => ?plain,
    fun m s hh hopen hbegun hcase => ?failed, fun n s hr hbegun hlate => ?timeout, fun n s hh hn hest => ?close⟩
  case hello =>
    have hexec := exec_hello (msg := msg) (rsv := rsv) (role := role) (key := key) hh
    rw [if_neg (by simp [hadmits]), hfree] at hexec
    dsimp only at hexec
    have hkeeps : Keeps 851961 s (sendRing (.reply msg n 0) (drawn (withSess n
        { state := .establishing, role := roleOfCode role, key := key, replyAt := s.pwr.time } (establishmentHeard s)))) := by
      simp [establishmentHeard]
    have hsess : ∀ k, sessOf (sendRing (.reply msg n 0) (drawn (withSess n
        { state := .establishing, role := roleOfCode role, key := key, replyAt := s.pwr.time } (establishmentHeard s)))) k =
          if k = n then { state := .establishing, role := roleOfCode role, key := key, replyAt := s.pwr.time }
          else sessOf s k := fun k => by
      rw [sessOf_of_sec (sendRing_sec ..)]
      exact sessOf_withSess n k _ (establishmentHeard s)
    refine ⟨_, hexec, ?_, ?_, fun k hk => ?_, unchanged_of_covered hkeeps rfl⟩
    · exact sendRing_sent (s := drawn (withSess n _ (establishmentHeard s))) hopen
    · rw [hsess, if_pos rfl]
    · rw [hsess, if_neg hk]
  case refused =>
    have hexec : exec (.hello msg role key rsv) s =
        .next (sendRing (.reply msg 0 code) (countReject 0 (establishmentHeard s))) := by
      rw [exec_hello hh]
      rcases hcase with ⟨hno, rfl⟩ | ⟨hyes, hfull, rfl⟩
      · rw [if_pos (by simp [hno])]
      · rw [if_neg (by simp [hyes]), hfull]
    refine ⟨_, hexec, refused_sendRing ((establishmentHeard_keeps s).mono (by decide)) rfl hopen rfl, ?_⟩
    rw [sendRing_sec]
    rfl
  case tenant =>
    obtain ⟨hestablished, hlogged, hport, hbound, htest, hthree, hgen, hregs, hframe⟩ := establish_tenant hrole h.sends
    exact ⟨_, exec_finish_established h, hestablished, hlogged, hport, hbound, htest, hthree, hgen, hregs, hframe⟩
  case first => exact ⟨_, exec_finish_established h, establish_first hrole hlist h.sends⟩
  case plain => exact ⟨_, exec_finish_established h, establish_plain hrole hlist h.sends⟩
  case failed =>
    have hexec := exec_finish hh hbegun
    rw [if_pos (by simpa using hcase)] at hexec
    exact ⟨_, hexec, failFinish_leaves hopen⟩
  case timeout =>
    have hgo : ¬((sessOf (fresh s) n).state ≠ .establishing ∨
        (fresh s).pwr.time ≤ (sessOf (fresh s) n).replyAt + 1000000000 ∨ (fresh s).pwr.inReset = true) := by
      change ¬((sessOf s n).state ≠ .establishing ∨ s.pwr.time ≤ (sessOf s n).replyAt + 1000000000 ∨ s.pwr.inReset = true)
      simp [hbegun, hr, Nat.not_le.mpr hlate]
    have hsess : ∀ k, sessOf (countReject 0 (withSess n {} (fresh s))) k = if k = n then {} else sessOf s k := fun k => by
      rw [sessOf_countReject, sessOf_withSess]
      rfl
    have hkeeps : Keeps 917485 s (countReject 0 (withSess n {} (fresh s))) := by simp
    refine ⟨_, congrArg Host.Outcome.next (if_neg hgo), rfl, ?_, fun k hk => ?_, rg_withRg_same ..,
      regsExcept_countReject _ 0 (withSess n {} (fresh s)), unchanged_of_covered hkeeps rfl⟩
    · rw [hsess, if_pos rfl]
    · rw [hsess, if_neg hk]
  case close =>
    have hgo : ¬(!hears (takeMsg 6 n (fresh s)) ∨ n = 0 ∨ n ≠ n ∨ (sessOf (takeMsg 6 n (fresh s)) n).state ≠ .established) := by
      change ¬(!hears s ∨ n = 0 ∨ n ≠ n ∨ (sessOf s n).state ≠ .established)
      simp [hh, hn, hest]
    have hest' : (sessOf (takeMsg 6 n (fresh s)) n).state = .established := hest
    have hkeeps : Keeps 851951 (takeMsg 6 n (fresh s)) (endSession n (takeMsg 6 n (fresh s))) := by simp
    have hall : Keeps 851949 s (endSession n (takeMsg 6 n (fresh s))) := by simp
    obtain ⟨htransfers, hparts, hchannels⟩ := endSession_ring hest'
    refine ⟨_, congrArg Host.Outcome.next (if_neg hgo), hkeeps.sent (by decide), ?_, fun k hk => ?_,
      endSession_logged hest', htransfers, hparts, hchannels, ?_, unchanged_of_covered hall rfl⟩
    · rw [sessOf_endSession, if_pos rfl]
    · rw [sessOf_endSession, if_neg hk]
      rfl
    · exact regsExcept_trans (regsExcept_of_regs rfl) (regsExcept_endSession n (takeMsg 6 n (fresh s)))

end

section
/-! Frame marks are read and repeated, and the bypass closes at a frame boundary (spec/13_control_ring.md, Frames and
slots; Bypass and joining; spec/16_power_clocks.md, Device time). -/

namespace Sys2Proof.Machine

/-! ## The frame boundary (R385, R399) -/

theorem regsExcept_takeHops (m : FrameMark) (s : State) :
    regsExcept [(0x1100, 5), (0x1100, 6), (0xA020, 1)] s (takeHops m s) := by
  unfold takeHops
  exact regsExcept_trans (regsExcept_withRg _ _ (by decide) (by simp))
    (regsExcept_trans (regsExcept_withRg _ _ (by decide) (by simp)) (regsExcept_withRg _ _ (by decide) (by simp)))

/-- The bypass closed when its last response has left. -/
def bypassDue (s : State) : State :=
  if s.ring.closeAtFrame ∧ s.ring.out.all (fun m => m.typ ≠ 2) then
    { s with ring := { s.ring with bypassOpen := false, closeAtFrame := false, out := [] } }
  else s

/-- The hop generations set to the last mark. -/
def hopsFollowed (s : State) : State :=
  match s.ring.lastMark with
  | some m => if s.ring.bypassOpen then takeHops m s else s
  | none => s

/-- A new time reference taken. -/
def referenceTaken (s : State) : State :=
  match s.pwr.refChange with
  | none => s
  | some _ =>
    withRg 0xA010 3 1 { s with pwr := { s.pwr with refChange := none, goodFrames := 0, refLost := false, slew := 0 } }

theorem frameBoundary_eq (s : State) : frameBoundary s = referenceTaken (hopsFollowed (bypassDue s)) := rfl

theorem hopsFollowed_leaves (s : State) :
    Keeps 1048559 s (hopsFollowed s) ∧ regsExcept [(0x1100, 5), (0x1100, 6), (0xA020, 1)] s (hopsFollowed s) := by
  unfold hopsFollowed
  split
  · split
    · exact ⟨by simp, regsExcept_takeHops _ s⟩
    · exact ⟨Keeps.refl _ _, regsExcept_refl _ _⟩
  · exact ⟨Keeps.refl _ _, regsExcept_refl _ _⟩

theorem referenceTaken_ring (s : State) : (referenceTaken s).ring = s.ring := by
  unfold referenceTaken
  split <;> rfl

/-- A boundary for which nothing waits sets the hop generations of the last mark. -/
theorem frameBoundary_steady {s : State} (hclose : s.ring.closeAtFrame = false) (href : s.pwr.refChange = none) :
    Keeps 1048559 s (frameBoundary s) ∧ regsExcept [(0x1100, 5), (0x1100, 6), (0xA020, 1)] s (frameBoundary s) := by
  have hdue : bypassDue s = s := if_neg (by simp [hclose])
  obtain ⟨hkeeps, hregs⟩ := hopsFollowed_leaves s
  have href' : (hopsFollowed s).pwr.refChange = none := by rw [hkeeps.pwr (by decide), href]
  have htaken : referenceTaken (hopsFollowed s) = hopsFollowed s := by
    unfold referenceTaken
    rw [href']
  rw [frameBoundary_eq, hdue, htaken]
  exact ⟨hkeeps, hregs⟩

/-- A boundary at which the bypass closes: no response waits for its slots any more. -/
theorem frameBoundary_closes {s : State} (hclose : s.ring.closeAtFrame = true) (hout : ∀ o ∈ s.ring.out, o.typ ≠ 2) :
    (frameBoundary s).ring = { s.ring with bypassOpen := false, closeAtFrame := false, out := [] } := by
  have hall : s.ring.out.all (fun m => m.typ ≠ 2) = true := by simpa using hout
  rw [frameBoundary_eq, referenceTaken_ring, (hopsFollowed_leaves _).1.ring (by decide)]
  unfold bypassDue
  rw [if_pos ⟨hclose, hall⟩]

/-! ## The mark (R387, R388) -/

/-- The objects that a good mark is read into. -/
def markObjects (m : FrameMark) (s : State) : State :=
  withRg 0x1100 2 ((m.hopIndex + 1) % 256)
    (withRg 0x1100 1 (hopGen (if m.countdown = 0 then m.nextGen else m.ringGen)) (withRg 0x1100 3 (m.members % 256)
      (withRg 0x1100 7 (m.frameCount % 2 ^ 32) (bump 0x1101 5 (missingFrames s.ring.lastMark m) s))))

theorem readMark_eq {m : FrameMark} {s : State} (hopen : s.ring.bypassOpen = true) :
    readMark m s = { markObjects m s with ring := { s.ring with lastMark := some m, frames := framesAt s.ring m } } := by
  have hopen' : ∀ i j v k, (withRg i j v (withRg 0x1100 3 (m.members % 256) (withRg 0x1100 7 k
      (bump 0x1101 5 (missingFrames s.ring.lastMark m) s)))).ring.bypassOpen = true := fun _ _ _ _ => hopen
  unfold readMark markObjects
  dsimp only
  rw [if_pos (hopen' _ _ _ _)]
  rfl

theorem regsExcept_markObjects (m : FrameMark) (s : State) :
    regsExcept [(0x1100, 1), (0x1100, 2), (0x1100, 3), (0x1100, 7), (0x1101, 5)] s (markObjects m s) := by
  unfold markObjects
  exact regsExcept_trans (regsExcept_bump _ _ (by decide) (by simp)) (regsExcept_trans
    (regsExcept_withRg _ _ (by decide) (by simp)) (regsExcept_trans (regsExcept_withRg _ _ (by decide) (by simp))
      (regsExcept_trans (regsExcept_withRg _ _ (by decide) (by simp)) (regsExcept_withRg _ _ (by decide) (by simp)))))

theorem rg_markObjects (m : FrameMark) (s : State) :
    rg (markObjects m s) 0x1100 2 = (m.hopIndex + 1) % 256 ∧ rg (markObjects m s) 0x1100 3 = m.members % 256 ∧
      rg (markObjects m s) 0x1100 7 = m.frameCount % 2 ^ 32 := by
  unfold markObjects
  refine ⟨rg_withRg_same .., ?_, ?_⟩
  · rw [rg_withRg_sub _ (by decide) (by decide) (by decide), rg_withRg_sub _ (by decide) (by decide) (by decide)]
    exact rg_withRg_same ..
  · rw [rg_withRg_sub _ (by decide) (by decide) (by decide), rg_withRg_sub _ (by decide) (by decide) (by decide),
      rg_withRg_sub _ (by decide) (by decide) (by decide)]
    exact rg_withRg_same ..

/-- What a good mark is read into. -/
theorem readMark_objects {m : FrameMark} {s : State} (hopen : s.ring.bypassOpen = true) :
    rg (readMark m s) 0x1100 2 = (m.hopIndex + 1) % 256 ∧ rg (readMark m s) 0x1100 3 = m.members % 256 ∧
      rg (readMark m s) 0x1100 7 = m.frameCount % 2 ^ 32 ∧
      regsExcept [(0x1100, 1), (0x1100, 2), (0x1100, 3), (0x1100, 7), (0x1101, 5)] s (readMark m s) ∧
      (readMark m s).ring = { s.ring with lastMark := some m, frames := framesAt s.ring m } := by
  obtain ⟨h2, h3, h7⟩ := rg_markObjects m s
  have hregs := regsExcept_markObjects m s
  rw [readMark_eq hopen]
  generalize markObjects m s = u at h2 h3 h7 hregs
  exact ⟨h2, h3, h7, hregs, rfl⟩

/-- A mark is read into the objects, the last mark and the frame count; the rest of the ring stays. -/
theorem readMark_ring (m : FrameMark) (s : State) :
    (readMark m s).ring = { s.ring with lastMark := (readMark m s).ring.lastMark, frames := (readMark m s).ring.frames } ∧
      (readMark m s).sent = s.sent := by
  refine ⟨?_, (show Keeps 2 s (readMark m s) by simp).sent (by decide)⟩
  unfold readMark
  dsimp only
  split <;> split <;> rfl

/-! ## The trim loop (R477, R478) -/

/-- The clock once the interval since the last mark has been measured. -/
def intervalMeasured (p : PowerClock) : PowerClock :=
  { p with
    lastFrameAt := some p.osc
    goodFrames := if (match p.lastFrameAt with | some t => p.osc == t + 1000 | none => false) then min 64 (p.goodFrames + 1) else 0 }

theorem measureFrame_eq (s : State) : measureFrame s = { s with pwr := intervalMeasured s.pwr } := rfl

/-- The clock after the one forward step. -/
def steppedForward (node : Nat) (p : PowerClock) : PowerClock :=
  if p.goodFrames = 64 ∧ !p.stepped then { p with time := max p.time node, stepped := true } else p

theorem stepTimeForward_eq (node : Nat) (s : State) :
    stepTimeForward node s = { s with pwr := steppedForward node s.pwr } := by
  unfold stepTimeForward steppedForward
  split <;> rfl

theorem steppedForward_few {node : Nat} {p : PowerClock} (h : p.goodFrames < 64 ∨ p.stepped = true) :
    steppedForward node p = p := by
  refine if_neg fun ⟨h1, h2⟩ => ?_
  rcases h with h | h
  · omega
  · simp [h] at h2

/-- The offset reported: one object and, for a value outside the format, a free value. -/
theorem report32_leaves (v : Int) (s : State) :
    regsExcept [(0xA010, 4)] s (report32 v s) ∧ (report32 v s).pwr = s.pwr ∧ rg (report32 v s) 0xA010 3 = rg s 0xA010 3 := by
  have hkeeps : Keeps 262144 s (report32 v s) := by simp
  have hregs : regsExcept [(0xA010, 4)] s (report32 v s) := by
    unfold report32
    split
    · exact regsExcept_withRg _ _ (by decide) (by simp)
    · exact regsExcept_trans (regsExcept_withRg _ _ (by decide) (by simp)) (regsExcept_of_regs rfl)
  exact ⟨hregs, hkeeps.pwr (by decide), hregs 0xA010 3 (by decide) (by decide) (by decide) (by decide) (by decide)⟩

/-- The loop with frame marks as the reference. -/
theorem trimToMarks_leaves (node : Nat) (s : State) :
    regsExcept [(0xA010, 3), (0xA010, 4)] s (trimToMarks node s) ∧
      (trimToMarks node s).pwr = { s.pwr with slew := (trimToMarks node s).pwr.slew } ∧
      (reference s = 0 → s.pwr.refLost = false → (trimToMarks node s).pwr.slew = (node : Int) - s.pwr.time ∧
        rg (trimToMarks node s) 0xA010 3 =
          if s.pwr.goodFrames = 64 ∧ ((s.pwr.time : Int) - node).natAbs ≤ 20 then 2 else 1) := by
  by_cases h : reference s ≠ 0 ∨ s.pwr.refLost = true
  · have htrim : trimToMarks node s = report32 ((s.pwr.time : Int) - node) s := if_pos h
    obtain ⟨hregs, hpwr, -⟩ := report32_leaves ((s.pwr.time : Int) - node) s
    rw [htrim]
    refine ⟨regsExcept_mono hregs (by simp), by rw [hpwr], fun h0 hl => ?_⟩
    simp [h0, hl] at h
  · have htrim : trimToMarks node s = report32 ((s.pwr.time : Int) - node) (withRg 0xA010 3
        (if s.pwr.goodFrames = 64 ∧ ((s.pwr.time : Int) - node).natAbs ≤ 20 then 2 else 1)
        { s with pwr := { s.pwr with slew := -((s.pwr.time : Int) - node) } }) := if_neg h
    obtain ⟨hregs, hpwr, hlock⟩ := report32_leaves ((s.pwr.time : Int) - node) (withRg 0xA010 3
        (if s.pwr.goodFrames = 64 ∧ ((s.pwr.time : Int) - node).natAbs ≤ 20 then 2 else 1)
        { s with pwr := { s.pwr with slew := -((s.pwr.time : Int) - node) } })
    rw [htrim]
    refine ⟨regsExcept_trans ?_ (regsExcept_mono hregs (by simp)), by rw [hpwr]; rfl, fun _ _ => ⟨?_, ?_⟩⟩
    · exact regsExcept_withRg (s := { s with pwr := _ }) _ (by decide) (by simp)
    · rw [hpwr]
      change -((s.pwr.time : Int) - node) = _
      omega
    · rw [hlock]
      exact rg_withRg_same ..

/-! ## The commands -/

/-- What a mark meets: the boundary passed and the interval measured. -/
def markMet (s : State) : State := measureFrame (frameBoundary (fresh s))

theorem exec_frameMark_good {m : FrameMark} {s : State} (hh : hears s = true) :
    exec (.frameMark m (markCrc m)) s = .next (sendRing (markOut m)
      (trimToMarks m.nodeTime (stepTimeForward m.nodeTime (readMark m (markMet s))))) := by
  have hgo : ¬(!hears (fresh s)) = true := by
    change ¬(!hears s) = true
    simp [hh]
  change execFrameMark m (markCrc m) s = _
  unfold execFrameMark markMet
  dsimp only
  rw [if_neg hgo, if_pos rfl]

/-- A mark met with nothing waiting for the boundary. -/
theorem markMet_steady {s : State} (hclose : s.ring.closeAtFrame = false) (href : s.pwr.refChange = none) :
    (markMet s).pwr = intervalMeasured s.pwr ∧ (markMet s).ring = s.ring ∧ (markMet s).sent = [] ∧
      regsExcept [(0x1100, 5), (0x1100, 6), (0xA020, 1)] s (markMet s) := by
  obtain ⟨hkeeps, hregs⟩ := frameBoundary_steady (s := fresh s) hclose href
  unfold markMet
  rw [measureFrame_eq]
  generalize frameBoundary (fresh s) = b at hkeeps hregs
  exact ⟨congrArg intervalMeasured (hkeeps.pwr (by decide)), hkeeps.ring (by decide), hkeeps.sent (by decide), hregs⟩

/-- A good mark on an open ring, with nothing waiting for the boundary. -/
structure MarkTaken (m : FrameMark) (s u : State) : Prop where
  ring : u.ring = { s.ring with lastMark := some m, frames := framesAt s.ring m }
  sent : u.sent = []
  objects : rg u 0x1100 2 = (m.hopIndex + 1) % 256 ∧ rg u 0x1100 3 = m.members % 256 ∧
    rg u 0x1100 7 = m.frameCount % 2 ^ 32
  regs : regsExcept [(0x1100, 1), (0x1100, 2), (0x1100, 3), (0x1100, 5), (0x1100, 6), (0x1100, 7), (0x1101, 5),
    (0xA020, 1)] s u
  pwr : u.pwr = steppedForward m.nodeTime (intervalMeasured s.pwr)

theorem markTaken_of_steady (m : FrameMark) {s : State} (hopen : s.ring.bypassOpen = true)
    (hclose : s.ring.closeAtFrame = false) (href : s.pwr.refChange = none) :
    MarkTaken m s (stepTimeForward m.nodeTime (readMark m (markMet s))) := by
  obtain ⟨hpwr, hring, hsent, hregs⟩ := markMet_steady hclose href
  generalize markMet s = b at hpwr hring hsent hregs
  obtain ⟨h2, h3, h7, hread, hringread⟩ := readMark_objects (m := m) (s := b) (by rw [hring, hopen])
  have hkeeps : Keeps 983023 b (readMark m b) := by simp
  have hobjects : regsExcept [(0x1100, 1), (0x1100, 2), (0x1100, 3), (0x1100, 5), (0x1100, 6), (0x1100, 7), (0x1101, 5),
      (0xA020, 1)] s (readMark m b) :=
    regsExcept_trans (regsExcept_mono hregs (by decide)) (regsExcept_mono hread (by decide))
  rw [hring] at hringread
  rw [stepTimeForward_eq]
  generalize readMark m b = r at h2 h3 h7 hringread hkeeps hobjects
  exact ⟨hringread, (hkeeps.sent (by decide)).trans hsent, ⟨h2, h3, h7⟩, hobjects,
    congrArg (steppedForward m.nodeTime) ((hkeeps.pwr (by decide)).trans hpwr)⟩

/-- Clocks in which a step and a measured interval change nothing but their own counts. -/
theorem steppedForward_same (node : Nat) (p : PowerClock) :
    (steppedForward node p).goodFrames = p.goodFrames ∧ (steppedForward node p).refLost = p.refLost ∧
      (steppedForward node p).refChange = p.refChange := by
  unfold steppedForward
  split <;> exact ⟨rfl, rfl, rfl⟩

theorem intervalMeasured_goodFrames (p : PowerClock) :
    (intervalMeasured p).goodFrames ≤ p.goodFrames + 1 ∧
      (p.goodFrames = 63 → p.lastFrameAt = some (p.osc - 1000) → 1000 ≤ p.osc → (intervalMeasured p).goodFrames = 64) := by
  unfold intervalMeasured
  dsimp only
  constructor
  · have hcount : ∀ b : Bool, (if b then min 64 (p.goodFrames + 1) else 0) ≤ p.goodFrames + 1 := fun b => by
      split <;> omega
    exact hcount _
  · intro h63 hlast hosc
    rw [hlast, h63]
    simp [Nat.sub_add_cancel hosc]

end Sys2Proof.Machine

open Sys2Proof Sys2Proof.Machine

/-- Settles O43: the mark meets the boundary, is read, steps and trims the clock, and goes on. -/
theorem frameMarksDriveTheModule : Obligations.FrameMarksDriveTheModule := by
  unfold Obligations.FrameMarksDriveTheModule
  refine ⟨fun m s hh hopen hclose href => ?good, fun m l x crc s hh hopen hclose href hcrc hl hx => ?bad,
    fun m s hh hclose hout => ?closes, fun m crc s hh => ?deaf⟩
  case good =>
    have htaken := markTaken_of_steady m hopen hclose href
    have hframe : Keeps 720873 s (sendRing (markOut m)
        (trimToMarks m.nodeTime (stepTimeForward m.nodeTime (readMark m (markMet s))))) := by simp [markMet]
    have hexec := exec_frameMark_good (m := m) hh
    generalize stepTimeForward m.nodeTime (readMark m (markMet s)) = u at htaken hexec hframe
    obtain ⟨hring, hsent, ⟨h2, h3, h7⟩, hregs, hpwr⟩ := htaken
    obtain ⟨htrimmed, hslew, hlock⟩ := trimToMarks_leaves m.nodeTime u
    have hkeeps : Keeps 786411 u (trimToMarks m.nodeTime u) := by simp
    obtain ⟨hgood, hlost, hchange⟩ := steppedForward_same m.nodeTime (intervalMeasured s.pwr)
    have href0 : rg s 0xA010 2 = 0 → reference u = 0 := fun h0 => by
      unfold reference
      rw [hpwr, hchange, hregs 0xA010 2 (by decide) (by decide) (by decide) (by decide) (by decide), h0]
      exact congrArg (·.getD 0) href
    have hnotlost : s.pwr.refLost = false → u.pwr.refLost = false := fun h => by
      rw [hpwr, hlost]
      exact h
    generalize trimToMarks m.nodeTime u = v at htrimmed hslew hlock hkeeps hexec hframe
    have hopen' : v.ring.bypassOpen = true := by
      rw [hkeeps.ring (by decide), hring]
      exact hopen
    have hsends : sendRing (markOut m) v = emit (markOut m) v := sendRing_of_messageOf_none rfl hopen'
    rw [hsends] at hexec hframe
    have htime : v.pwr.time = u.pwr.time := by rw [hslew]
    have hframes : v.pwr.goodFrames = u.pwr.goodFrames := by rw [hslew]
    have hstepped : v.pwr.stepped = u.pwr.stepped := by rw [hslew]
    obtain ⟨hle, h64⟩ := intervalMeasured_goodFrames s.pwr
    refine ⟨_, hexec, ?_, ?_, ?_, ?_, ?_, fun hfew => ?_, fun h63 hst hlast hosc => ?_, fun h0 hl => ?_, fun h0 hl hg hd => ?_,
      fun h0 hl hg => ?_, ?_, unchanged_of_covered hframe rfl⟩
    · change v.sent ++ [markOut m] = _
      rw [hkeeps.sent (by decide), hsent]
      rfl
    · change v.ring = _
      rw [hkeeps.ring (by decide), hring]
    · change rg v 0x1100 2 = _
      rw [htrimmed _ _ (by decide) (by decide) (by decide) (by decide) (by decide), h2]
    · change rg v 0x1100 3 = _
      rw [htrimmed _ _ (by decide) (by decide) (by decide) (by decide) (by decide), h3]
    · change rg v 0x1100 7 = _
      rw [htrimmed _ _ (by decide) (by decide) (by decide) (by decide) (by decide), h7]
    · have hsame : steppedForward m.nodeTime (intervalMeasured s.pwr) = intervalMeasured s.pwr :=
        steppedForward_few (hfew.imp (fun h => lt_of_le_of_lt hle h) id)
      change v.pwr.time = _
      rw [htime, hpwr, hsame]
      rfl
    · have hstep : steppedForward m.nodeTime (intervalMeasured s.pwr) = { intervalMeasured s.pwr with
          time := max (intervalMeasured s.pwr).time m.nodeTime, stepped := true } :=
        if_pos ⟨h64 h63 hlast hosc, by rw [show (intervalMeasured s.pwr).stepped = false from hst]; rfl⟩
      change v.pwr.time = _ ∧ v.pwr.stepped = true
      rw [htime, hstepped, hpwr, hstep]
      exact ⟨rfl, rfl⟩
    · change v.pwr.slew = (m.nodeTime : Int) - v.pwr.time
      rw [htime]
      exact (hlock (href0 h0) (hnotlost hl)).1
    · change v.pwr.goodFrames = 64 at hg
      change ((v.pwr.time : Int) - m.nodeTime).natAbs ≤ 20 at hd
      change rg v 0xA010 3 = 2
      rw [hframes] at hg
      rw [htime] at hd
      rw [(hlock (href0 h0) (hnotlost hl)).2, if_pos ⟨hg, hd⟩]
    · change v.pwr.goodFrames ≠ 64 ∨ 20 < ((v.pwr.time : Int) - m.nodeTime).natAbs at hg
      change rg v 0xA010 3 = 1
      rw [hframes, htime] at hg
      rw [(hlock (href0 h0) (hnotlost hl)).2, if_neg fun ⟨hg', hd⟩ => hg.elim (fun h => h hg') (fun h => by omega)]
    · have hall : regsExcept _ s v := regsExcept_trans (regsExcept_mono (l' := [(0x1100, 1), (0x1100, 2), (0x1100, 3),
        (0x1100, 5), (0x1100, 6), (0x1100, 7), (0x1101, 5), (0xA020, 1), (0xA010, 3), (0xA010, 4)]) hregs (by decide))
        (regsExcept_mono htrimmed (by decide))
      exact hall
  case bad =>
    obtain ⟨hpwr, hring, hsent, hregs⟩ := markMet_steady hclose href
    have hkeeps : Keeps 720877 s (markMet s) := by simp [markMet]
    have hgo : ¬(!hears (fresh s)) = true := by
      change ¬(!hears s) = true
      simp [hh]
    have hexec : exec (.frameMark m crc) s = .next (emit (markOut x) (bump 0x1101 2 1 { markMet s with
        ring := { (markMet s).ring with lastMark := some x, frames := framesAt (markMet s).ring x } })) := by
      have hopen' : (markMet s).ring.bypassOpen = true := by
        rw [hring]
        exact hopen
      have hl' : (markMet s).ring.lastMark = some l := by
        rw [hring]
        exact hl
      change execFrameMark m crc s = _
      unfold execFrameMark
      dsimp only
      rw [if_neg hgo, if_neg hcrc]
      change Host.Outcome.next (match (markMet s).ring.lastMark with | none => _ | some l => _) = _
      rw [hl', hx]
      exact congrArg Host.Outcome.next (if_pos hopen')
    generalize markMet s = b at hpwr hring hsent hregs hkeeps hexec
    rw [hring] at hexec
    have hlogged : regsExcept [(0x1100, 5), (0x1100, 6), (0x1101, 2), (0xA020, 1)] s
        { b with ring := { s.ring with lastMark := some x, frames := framesAt s.ring x } } :=
      regsExcept_mono hregs (by decide)
    have hcount : rg { b with ring := { s.ring with lastMark := some x, frames := framesAt s.ring x } } 0x1101 2 =
        rg s 0x1101 2 :=
      hregs _ _ (by decide) (by decide) (by decide) (by decide) (by decide)
    have hrepl : Keeps 720877 s { b with ring := { s.ring with lastMark := some x, frames := framesAt s.ring x } } :=
      (keeps_set_ring _ (by decide)).mpr hkeeps
    generalize hu : ({ b with ring := { s.ring with lastMark := some x, frames := framesAt s.ring x } } : State) = u
      at hexec hlogged hcount hrepl
    have huring : u.ring = { s.ring with lastMark := some x, frames := framesAt s.ring x } := by rw [← hu]
    have hupwr : u.pwr = intervalMeasured s.pwr := by rw [← hu, ← hpwr]
    have husent : u.sent = [] := by rw [← hu, ← hsent]
    have hbumped : Keeps 1048559 u (bump 0x1101 2 1 u) := by simp
    have hall : Keeps 720877 s (emit (markOut x) (bump 0x1101 2 1 u)) := by simpa using hrepl
    refine ⟨_, hexec, ?_, ?_, ?_, ?_, ?_, unchanged_of_covered hall rfl⟩
    · change (bump 0x1101 2 1 u).sent ++ [markOut x] = _
      rw [hbumped.sent (by decide), husent]
      rfl
    · exact (hbumped.ring (by decide)).trans huring
    · change rg (bump 0x1101 2 1 u) 0x1101 2 = _
      rw [← hcount]
      exact rg_withRg_same ..
    · change (bump 0x1101 2 1 u).pwr.time = _
      rw [hbumped.pwr (by decide), hupwr]
      rfl
    · have hcounted : regsExcept [(0x1100, 5), (0x1100, 6), (0x1101, 2), (0xA020, 1)] u (bump 0x1101 2 1 u) :=
        regsExcept_bump _ _ (by decide) (by simp)
      exact regsExcept_trans hlogged hcounted
  case closes =>
    have hexec := exec_frameMark_good (m := m) hh
    have hframe : Keeps 720873 s (sendRing (markOut m)
        (trimToMarks m.nodeTime (stepTimeForward m.nodeTime (readMark m (markMet s))))) := by simp [markMet]
    have hmet : (markMet s).ring = { s.ring with bypassOpen := false, closeAtFrame := false, out := [] } :=
      frameBoundary_closes (s := fresh s) hclose hout
    have hmetSent : (markMet s).sent = [] := by
      have hkeeps : Keeps 2 (fresh s) (markMet s) := by simp [markMet]
      exact hkeeps.sent (by decide)
    obtain ⟨hread, hreadSent⟩ := readMark_ring m (markMet s)
    rw [hmet] at hread
    generalize readMark m (markMet s) = r at hread hreadSent hexec hframe
    have hkeeps : Keeps 786411 r (trimToMarks m.nodeTime (stepTimeForward m.nodeTime r)) := by simp
    generalize trimToMarks m.nodeTime (stepTimeForward m.nodeTime r) = v at hkeeps hexec hframe
    have hring := (hkeeps.ring (by decide)).trans hread
    have hclosed : v.ring.bypassOpen = false := by rw [hring]
    have hsilent : sendRing (markOut m) v = v := if_neg (by simp [hclosed])
    rw [hsilent] at hexec hframe
    exact ⟨v, hexec, (hkeeps.sent (by decide)).trans (hreadSent.trans hmetSent), hclosed, by rw [hring], by rw [hring],
      unchanged_of_covered hframe rfl⟩
  case deaf =>
    have hno : (!hears (fresh s)) = true := by
      change (!hears s) = true
      simp [hh]
    exact congrArg Host.Outcome.next (if_pos hno)

end

section
/-! Data slots that pass, are filled, join their message or lose it (spec/13_control_ring.md, Frames and slots; Messages
and sessions; Bypass and joining). -/

namespace Sys2Proof.Machine

/-! ## The branches of a good slot (R390, R392, R398) -/

/-- What is common to every branch of a good slot that the module hears. -/
theorem execDataSlot_good {x : Slot} {s : State} (hhears : hears s = true) (hx : slotTaken x) :
    execDataSlot x s = .next
      (if (slotFields x).src = position (fresh s) ∧ (slotFields x).typ ≠ 0 ∧ !x.own ∧ (fresh s).ring.bypassOpen then
        emit (.forwardSlot x) (duplicateFound (fresh s))
      else if (slotFields x).typ ≠ 0 ∧ (slotFields x).dst = position (fresh s) then
        sendRing .emptySlot (takeSlot x (fresh s))
      else if (slotFields x).typ = 0 ∧ (fresh s).ring.bypassOpen then fillSlot x (fresh s)
      else sendRing (.forwardSlot x) (fresh s)) := by
  obtain ⟨hgood, htypes, hdsts⟩ := hx
  have hheard : ¬ (!hears s) = true := by simp [hhears]
  have hbad : ¬ ((!slotGood x) = true ∨ 6 < (slotFields x).typ ∨ 32 < (slotFields x).dst) := by
    simp [hgood, htypes, hdsts]
  exact congrArg Host.Outcome.next ((if_neg hheard).trans (if_neg hbad))

/-- A slot of another position, or one of its own that came round, passes on. -/
theorem execDataSlot_passes {x : Slot} {s : State} (hhears : hears s = true) (hopen : s.ring.bypassOpen = true)
    (hx : slotTaken x) (hsrc : (slotFields x).src ≠ position s ∨ x.own = true) (htyp : (slotFields x).typ ≠ 0)
    (hdst : (slotFields x).dst ≠ position s) : execDataSlot x s = .next { s with sent := [.forwardSlot x] } := by
  have hother : ¬((slotFields x).src = position (fresh s) ∧ (slotFields x).typ ≠ 0 ∧ !x.own ∧
      (fresh s).ring.bypassOpen) := fun ⟨h1, _, h3, _⟩ => hsrc.elim (fun h => h h1) (fun h => by simp [h] at h3)
  have hpass : sendRing (.forwardSlot x) (fresh s) = emit (.forwardSlot x) (fresh s) :=
    sendRing_of_messageOf_none rfl hopen
  rw [execDataSlot_good hhears hx, if_neg hother, if_neg fun h => hdst h.2, if_neg fun h => htyp h.1, hpass]
  rfl

theorem execDataSlot_empty {x : Slot} {s : State} (hhears : hears s = true) (hopen : s.ring.bypassOpen = true)
    (hx : slotTaken x) (htyp : (slotFields x).typ = 0) : execDataSlot x s = .next (fillSlot x (fresh s)) := by
  rw [execDataSlot_good hhears hx, if_neg fun h => h.2.1 htyp, if_neg fun h => h.1 htyp, if_pos ⟨htyp, hopen⟩]

theorem execDataSlot_duplicate {x : Slot} {s : State} (hhears : hears s = true) (hopen : s.ring.bypassOpen = true)
    (hx : slotTaken x) (hsrc : (slotFields x).src = position s) (htyp : (slotFields x).typ ≠ 0) (hown : x.own = false) :
    execDataSlot x s = .next (emit (.forwardSlot x) (duplicateFound (fresh s))) := by
  rw [execDataSlot_good hhears hx, if_pos ⟨hsrc, htyp, by simp [hown], hopen⟩]

/-! ## Slots that the module fills (R390) -/

/-- An empty slot passes empty while nothing waits or another member may fill it. -/
theorem fillSlot_idle {x : Slot} {s : State} (h : s.ring.out = [] ∨ mayFill s x.index = false) :
    fillSlot x s = emit (.forwardSlot x) s := by
  unfold fillSlot
  split
  · rfl
  · next m rest hout =>
    have hno : (!mayFill s x.index) = true := by
      rw [h.resolve_left (by simp [hout])]
      rfl
    rw [if_pos hno]

/-- The messages that wait once the first has filled a slot. -/
def slotSent (m : OutMsg) (rest : List OutMsg) : List OutMsg :=
  if (m.rest.drop 88).isEmpty then rest else { m with rest := m.rest.drop 88, num := m.num + 1 } :: rest

theorem slotSent_last {m : OutMsg} (rest : List OutMsg) (h : m.rest.length ≤ 88) : slotSent m rest = rest :=
  if_pos (by simpa using h)

theorem slotSent_more {m : OutMsg} (rest : List OutMsg) (h : 88 < m.rest.length) :
    slotSent m rest = { m with rest := m.rest.drop 88, num := m.num + 1 } :: rest :=
  if_neg (by simpa using h)

/-- A message of session 0 that opens nothing fills a slot as it is. -/
theorem fillSlot_plain {x : Slot} {m : OutMsg} {rest : List OutMsg} {s : State} (hmay : mayFill s x.index = true)
    (hout : s.ring.out = m :: rest) (hsess : m.sess = 0) (hopens : m.opens = 0) :
    fillSlot x s = emit (.forwardSlot (slotOf s x.index m)) { s with ring := { s.ring with out := slotSent m rest } } := by
  have hleft : ∀ l, slotLeft m l s = s := fun _ => if_pos hopens
  have hseal : ∀ u : State, (if m.num = 0 then sealMessage u x.index m else m) = m := fun u => by
    have hplain : sealMessage u x.index m = m := if_pos hsess
    rw [hplain, ite_self]
  unfold fillSlot
  rw [hout]
  dsimp only
  rw [if_neg (by simp [hmay]), hleft, hseal]
  rfl

/-! ## A second member with this position (R398) -/

theorem duplicateFound_leaves (s : State) :
    (duplicateFound s).dev = .inert ∧ (duplicateFound s).ring.closeAtFrame = true ∧ (duplicateFound s).ring.out = [] := by
  have hdev : (if s.dev = .inert then s else leaveEffects s).dev = .inert := by
    split
    · assumption
    · exact (leaveEffects_emptied s).device
  unfold duplicateFound
  exact ⟨hdev, rfl, rfl⟩

/-! ## Slots that join a message (R392, R393) -/

/-- A part found is of the source, session and message it was looked up by. -/
theorem partOf_key {src sess msg : Nat} {p : PartMsg} {s : State} (h : partOf s src sess msg = some p) :
    p.src = src ∧ p.sess = sess ∧ p.msg = msg := by
  have hkey := List.find?_some h
  simpa [and_assoc] using hkey

theorem partOf_putPart {p : PartMsg} (s : State) : partOf (putPart p s) p.src p.sess p.msg = some p := by
  have hnone : (dropPart p.src p.sess p.msg s).ring.parts.find?
      (fun y => y.src == p.src && y.sess == p.sess && y.msg == p.msg) = none := partOf_dropPart_same _ _ _ s
  change (_ ++ [p]).find? _ = _
  rw [List.find?_append, hnone]
  simp

/-- The next slot of a message: the part goes on, or the message is complete. -/
theorem takeSlot_in_order {x : Slot} {p : PartMsg} {s : State} (hfirst : (slotFields x).first = false)
    (hpart : partOf s (slotFields x).src (slotFields x).sess (slotFields x).msg = some p)
    (hnum : p.next = (slotFields x).num) (htyp : p.typ = (slotFields x).typ) :
    takeSlot x s = if (slotFields x).last then
      messageDone (joinedPart s x p) (dropPart (slotFields x).src (slotFields x).sess (slotFields x).msg s)
      else putPart (joinedPart s x p) (dropPart (slotFields x).src (slotFields x).sess (slotFields x).msg s) := by
  unfold takeSlot
  simp only [hfirst, hpart]
  rw [if_neg (by simp [hnum, htyp])]
  rfl

/-- A complete message that the module acts on waits for its command. -/
theorem messageDone_kept {p : PartMsg} {body : Bytes} {s : State} (hbody : openMessage s p = some body)
    (hkind : 4 ≤ p.typ ∨ p.typ = 1 ∧ headCode body = 0) : messageDone p s = putInbox { p with data := body } s := by
  unfold messageDone
  rw [hbody]
  rcases hkind with h4 | ⟨h1, hcode⟩
  · dsimp only
    rw [if_neg (by omega), if_pos h4]
  · dsimp only
    rw [if_pos h1, if_pos hcode]

theorem messageDone_unreadable {p : PartMsg} {s : State} (hbody : openMessage s p = none) :
    messageDone p s = bump 0x1101 3 1 s := by
  unfold messageDone
  rw [hbody]

theorem regsExcept_bump_dropPart (src sess msg : Nat) (s : State) :
    regsExcept [(0x1101, 3)] s (bump 0x1101 3 1 (dropPart src sess msg s)) := by
  have hcounted : regsExcept [(0x1101, 3)] (dropPart src sess msg s) (bump 0x1101 3 1 (dropPart src sess msg s)) :=
    regsExcept_bump _ _ (by decide) (by simp)
  exact hcounted

/-! ## A message whose next slot does not come (R392, R417) -/

/-- A message discarded: counted, and answered where it is a request. -/
def discarded (p : PartMsg) (src sess msg : Nat) (s : State) : State :=
  if p.typ = 1 ∧ (sess = 0 ∨ (sessOf s sess).state = .established) then
    respond ⟨sess, msg⟩ 0x06000003 [] (bump 0x1101 3 1 (dropPart src sess msg s))
  else bump 0x1101 3 1 (dropPart src sess msg s)

theorem exec_messageTimeout {src sess msg : Nat} {p : PartMsg} {s : State} (hpart : partOf s src sess msg = some p) :
    exec (.messageTimeout src sess msg) s = .next
      (if s.pwr.inReset = true ∨ s.pwr.time < p.lastTime + 100000 then fresh s else discarded p src sess msg (fresh s)) := by
  have hpart' : partOf (fresh s) src sess msg = some p := hpart
  change execMessageTimeout src sess msg s = _
  unfold execMessageTimeout
  dsimp only
  rw [hpart']
  rfl

theorem discarded_leaves (p : PartMsg) (src sess msg : Nat) (s : State) :
    partOf (discarded p src sess msg s) src sess msg = none ∧
      rg (discarded p src sess msg s) 0x1101 3 = satAdd (sizeOf_ 0x1101 3) (rg s 0x1101 3) 1 ∧
      regsExcept [(0x1101, 3)] s (discarded p src sess msg s) := by
  have hcount : rg (bump 0x1101 3 1 (dropPart src sess msg s)) 0x1101 3 = satAdd (sizeOf_ 0x1101 3) (rg s 0x1101 3) 1 :=
    rg_withRg_same ..
  have hregs : regsExcept [(0x1101, 3)] s (bump 0x1101 3 1 (dropPart src sess msg s)) := regsExcept_bump_dropPart _ _ _ s
  have hpart : partOf (bump 0x1101 3 1 (dropPart src sess msg s)) src sess msg = none := partOf_dropPart_same _ _ _ s
  unfold discarded
  generalize bump 0x1101 3 1 (dropPart src sess msg s) = u at hcount hregs hpart
  split
  · refine ⟨?_, by rw [rg_respond, hcount], fun i j hj hmem h1 h2 h3 => by rw [rg_respond, hregs i j hj hmem h1 h2 h3]⟩
    unfold partOf
    rw [respond_ring_parts]
    exact hpart
  · exact ⟨hpart, hcount, hregs⟩

end Sys2Proof.Machine

open Sys2Proof Sys2Proof.Machine

/-- Settles O45, by the branches of a good slot and of the timeout. -/
theorem slotsMakeMessages : Obligations.SlotsMakeMessages := by
  unfold Obligations.SlotsMakeMessages
  refine ⟨fun x f s hh hopen hf hx hsrc htyp hdst => ?passes, fun x s hh hopen hx htyp hidle => ?idle,
    fun x m rest s hh hopen hx htyp hmay hout hsess hopens => ?fills, fun x s hh hopen hx hsrc htyp hown => ?leaves,
    fun x f p s hh hopen hf hx hsrc htyp hdst hfirst hpart hnum hty hlast => ?joins,
    fun x f p body s hh hopen hf hx hsrc htyp hdst hfirst hpart hnum hty hlast hbody hkind => ?completes,
    fun x f p s hh hopen hf hx hsrc htyp hdst hfirst hpart hnum hty hlast hbody => ?loses,
    fun src sess msg p s hres hpart hdue => ?discards, fun src sess msg p s hpart hearly => ?waits⟩
  case passes =>
    subst hf
    exact execDataSlot_passes hh hopen hx hsrc htyp hdst
  case idle =>
    have hexec := execDataSlot_empty hh hopen hx htyp
    rw [fillSlot_idle (s := fresh s) hidle] at hexec
    exact hexec
  case fills =>
    have hexec := execDataSlot_empty hh hopen hx htyp
    rw [fillSlot_plain (s := fresh s) hmay hout hsess hopens] at hexec
    have hkeeps : Keeps 983037 s (emit (.forwardSlot (slotOf (fresh s) x.index m))
        { fresh s with ring := { (fresh s).ring with out := slotSent m rest } }) :=
      (emit_keeps _ _ (by decide)).mpr ((keeps_set_ring _ (by decide)).mpr (by simp))
    exact ⟨_, hexec, rfl, slotSent_last rest, slotSent_more rest, unchanged_of_covered hkeeps rfl⟩
  case leaves =>
    have hexec := execDataSlot_duplicate hh hopen hx hsrc (Nat.one_le_iff_ne_zero.mp htyp) hown
    obtain ⟨hdev, hclose, hout⟩ := duplicateFound_leaves (fresh s)
    exact ⟨_, hexec, hdev, hclose, hout, List.mem_append_right _ (List.mem_singleton_self _)⟩
  case joins =>
    subst hf
    have hexec := execDataSlot_addressed hh hx (Nat.one_le_iff_ne_zero.mp htyp) hdst hsrc
    rw [takeSlot_in_order (s := fresh s) hfirst hpart hnum hty, if_neg (by simp [hlast]),
      sendRing_emptySlot (s := putPart _ (dropPart _ _ _ (fresh s))) hopen] at hexec
    obtain ⟨hpsrc, hpsess, hpmsg⟩ := partOf_key hpart
    have hput := partOf_putPart (p := joinedPart s x p)
      (dropPart (slotFields x).src (slotFields x).sess (slotFields x).msg (fresh s))
    have hkeeps : Keeps 983037 s (emit .emptySlot (putPart (joinedPart (fresh s) x p)
        (dropPart (slotFields x).src (slotFields x).sess (slotFields x).msg (fresh s)))) := by simp
    refine ⟨_, hexec, rfl, ?_, rfl, unchanged_of_covered hkeeps rfl⟩
    rw [← hpsrc, ← hpsess, ← hpmsg] at hput ⊢
    exact hput
  case completes =>
    subst hf
    have hexec := execDataSlot_addressed hh hx (Nat.one_le_iff_ne_zero.mp htyp) hdst hsrc
    have hkind' : 4 ≤ (joinedPart (fresh s) x p).typ ∨ (joinedPart (fresh s) x p).typ = 1 ∧ headCode body = 0 := by
      change 4 ≤ p.typ ∨ p.typ = 1 ∧ headCode body = 0
      rw [hty]
      exact hkind
    rw [takeSlot_in_order (s := fresh s) hfirst hpart hnum hty, if_pos hlast,
      messageDone_kept (p := joinedPart (fresh s) x p) (s := dropPart _ _ _ (fresh s)) hbody hkind',
      sendRing_emptySlot (s := putInbox _ (dropPart _ _ _ (fresh s))) hopen] at hexec
    have hkeeps : Keeps 983037 s (emit .emptySlot (putInbox { joinedPart (fresh s) x p with data := body }
        (dropPart (slotFields x).src (slotFields x).sess (slotFields x).msg (fresh s)))) := by simp
    exact ⟨_, hexec, rfl, partOf_dropPart_same _ _ _ (fresh s), rfl, unchanged_of_covered hkeeps rfl⟩
  case loses =>
    subst hf
    have hexec := execDataSlot_addressed hh hx (Nat.one_le_iff_ne_zero.mp htyp) hdst hsrc
    rw [takeSlot_in_order (s := fresh s) hfirst hpart hnum hty, if_pos hlast,
      messageDone_unreadable (p := joinedPart (fresh s) x p) (s := dropPart _ _ _ (fresh s)) hbody,
      sendRing_emptySlot (s := bump 0x1101 3 1 (dropPart _ _ _ (fresh s))) hopen] at hexec
    have hkeeps : Keeps 983021 s (emit .emptySlot (bump 0x1101 3 1
        (dropPart (slotFields x).src (slotFields x).sess (slotFields x).msg (fresh s)))) := by simp
    exact ⟨_, hexec, rfl, partOf_dropPart_same _ _ _ (fresh s), rfl, rg_withRg_same ..,
      regsExcept_bump_dropPart _ _ _ (fresh s), unchanged_of_covered hkeeps rfl⟩
  case discards =>
    have hexec := exec_messageTimeout hpart
    rw [if_neg (by simp [hres, hdue])] at hexec
    obtain ⟨hgone, hcount, hregs⟩ := discarded_leaves p src sess msg (fresh s)
    have hkeeps : Keeps 851949 s (discarded p src sess msg (fresh s)) := by
      unfold discarded
      split <;> simp
    refine ⟨_, hexec, hgone, hcount, fun h1 hopen hsess => ?_, fun h1 => ?_, hregs, unchanged_of_covered hkeeps rfl⟩
    · have hanswers : discarded p src sess msg (fresh s) =
          respond ⟨sess, msg⟩ 0x06000003 [] (bump 0x1101 3 1 (dropPart src sess msg (fresh s))) := if_pos ⟨h1, hsess⟩
      rw [hanswers]
      exact answers_respond _ _ _ _ hopen
    · have hsilent : discarded p src sess msg (fresh s) = bump 0x1101 3 1 (dropPart src sess msg (fresh s)) :=
        if_neg fun h => h1 h.1
      rw [hsilent]
      rfl
  case waits =>
    have hexec := exec_messageTimeout hpart
    rw [if_pos (Or.inr hearly)] at hexec
    exact hexec

end

section
/-! Block reads send their blocks, and block writes take theirs (spec/13_control_ring.md, Dictionary transactions). -/

namespace Sys2Proof.Machine

/-! ## Transfers -/

theorem sendRing_transfers (o : Output) (s : State) : (sendRing o s).ring.transfers = s.ring.transfers := by
  obtain ⟨l, n, h⟩ := sendRing_ring o s
  rw [h]

theorem sendRing_bypass (o : Output) (s : State) : (sendRing o s).ring.bypassOpen = s.ring.bypassOpen := by
  obtain ⟨l, n, h⟩ := sendRing_ring o s
  rw [h]

theorem transferOf_of_transfers {s t : State} (h : t.ring.transfers = s.ring.transfers) (m : Bool) (sess msg : Nat) :
    transferOf t m sess msg = transferOf s m sess msg := by
  unfold transferOf
  rw [h]

/-- A transfer found is the one of that direction, session and message. -/
theorem transferOf_key {m : Bool} {sess msg : Nat} {x : Transfer} {s : State} (h : transferOf s m sess msg = some x) :
    x.toModule = m ∧ x.sess = sess ∧ x.msg = msg := by
  have hkey := List.find?_some h
  simpa [and_assoc] using hkey

theorem transferOf_dropTransfer {x : Transfer} {sess msg : Nat} (m : Bool) (s : State) (hs : x.sess = sess)
    (hm : x.msg = msg) : transferOf (dropTransfer x s) m sess msg = none := by
  subst hs hm
  refine List.find?_eq_none.mpr fun y hy => ?_
  have hother := (List.mem_filter.mp hy).2
  simp only [Bool.not_eq_true', Bool.and_eq_false_iff] at hother
  rcases hother with h | h <;> simp [h]

theorem transferOf_putTransfer {x : Transfer} {m : Bool} {sess msg : Nat} (s : State) (ht : x.toModule = m)
    (hs : x.sess = sess) (hm : x.msg = msg) : transferOf (putTransfer x s) m sess msg = some x := by
  have hnone : (dropTransfer x s).ring.transfers.find? (fun y => y.toModule == m && y.sess == sess && y.msg == msg) = none :=
    transferOf_dropTransfer m s hs hm
  subst ht hs hm
  change (_ ++ [x]).find? _ = _
  rw [List.find?_append, hnone]
  simp

/-- A transfer forgotten after it was replaced. -/
theorem dropTransfer_putTransfer {x y : Transfer} (s : State) (hs : y.sess = x.sess) (hm : y.msg = x.msg) :
    (dropTransfer y (putTransfer x s)).ring.transfers = (dropTransfer y s).ring.transfers := by
  unfold dropTransfer putTransfer dropTransfer
  simp only [List.filter_append, List.filter_filter, hs, hm]
  simp

theorem mem_beginReq (q : Req) (s : State) : q.msg ∈ (sessOf (beginReq q s) q.sess).inProgress := by
  unfold beginReq
  dsimp only
  rw [sessOf_withSess_same]
  exact mem_addNum _ _

/-! ## Block reads (R402, R403) -/

/-- What pumping leaves of a block read under way. -/
structure Pumped (sess msg : Nat) (x : Transfer) (s u : State) : Prop where
  transfer : ∃ y, transferOf u false sess msg = some y ∧ y.blocks = x.blocks ∧ y.next = min 8 x.blocks.length ∧
    y.unacked.length = y.next
  sends : ∃ l, u.sent = s.sent ++ l ∧ (x.next < min 8 x.blocks.length →
    Output.block (blockOfData sess false 0 msg x.next (at_ [] x.next x.blocks)) ∈ l)

/-- Blocks go out one after another until 8 are unacknowledged or none is left. -/
theorem pumpTransfer_sends (sess msg : Nat) : ∀ (fuel : Nat) {x : Transfer} {s : State},
    transferOf s false sess msg = some x → x.unacked.length = x.next → x.next ≤ x.blocks.length → x.next + fuel = 8 →
    s.ring.bypassOpen = true → Pumped sess msg x s (pumpTransfer sess msg fuel s)
  | 0, x, s, hx, hun, hle, hfuel, _ =>
    ⟨⟨x, hx, rfl, by omega, hun⟩, [], (List.append_nil _).symm, fun h => by omega⟩
  | fuel + 1, x, s, hx, hun, hle, hfuel, hopen => by
    obtain ⟨ht, hs, hm⟩ := transferOf_key hx
    unfold pumpTransfer
    rw [hx]
    dsimp only
    by_cases hend : 8 ≤ x.unacked.length ∨ x.blocks.length ≤ x.next
    · rw [if_pos hend]
      exact ⟨⟨x, hx, rfl, by omega, hun⟩, [], (List.append_nil _).symm, fun h => by omega⟩
    · rw [if_neg hend]
      have hput := transferOf_putTransfer (x := { x with next := x.next + 1, unacked := x.unacked ++ [(x.next, s.pwr.time)] })
        s ht hs hm
      rw [← transferOf_of_transfers (sendRing_transfers (.block (blockOfData sess false 0 msg x.next (at_ [] x.next x.blocks))) _)]
        at hput
      have hopen' := (sendRing_bypass (.block (blockOfData sess false 0 msg x.next (at_ [] x.next x.blocks)))
        (putTransfer { x with next := x.next + 1, unacked := x.unacked ++ [(x.next, s.pwr.time)] } s)).trans hopen
      have hsent : (sendRing (.block (blockOfData sess false 0 msg x.next (at_ [] x.next x.blocks)))
          (putTransfer { x with next := x.next + 1, unacked := x.unacked ++ [(x.next, s.pwr.time)] } s)).sent =
          s.sent ++ [.block (blockOfData sess false 0 msg x.next (at_ [] x.next x.blocks))] := sendRing_sent hopen
      have hun' : (x.unacked ++ [(x.next, s.pwr.time)]).length = x.next + 1 := by simp [hun]
      obtain ⟨⟨y, hy, hblocks, hnext, hacked⟩, l, hl, -⟩ :=
        pumpTransfer_sends sess msg fuel hput hun' (by dsimp only; omega) (by dsimp only; omega) hopen'
      refine ⟨⟨y, hy, hblocks, hnext, hacked⟩, _ :: l, ?_, fun _ => List.mem_cons_self ..⟩
      rw [hl, hsent, List.append_assoc]
      rfl

theorem length_cutBlocks (v : Bytes) : (cutBlocks v).length = blockTotal v.length := by
  simp [cutBlocks]

theorem blockTotal_pos {v : Bytes} (h : v ≠ []) : 0 < blockTotal v.length := by
  have hlen : 0 < v.length := List.length_pos_iff.mpr h
  unfold blockTotal ceilDiv blockBytes
  exact Nat.div_pos (by omega) (by decide)

theorem first_cutBlocks {v : Bytes} (h : v ≠ []) : at_ [] 0 (cutBlocks v) = v.take 65536 := by
  have htotal := blockTotal_pos h
  unfold cutBlocks
  generalize blockTotal v.length = n at htotal
  obtain ⟨k, rfl⟩ : ∃ k, n = k + 1 := ⟨n - 1, by omega⟩
  rw [List.range_succ_eq_map]
  rfl

/-- What the request of a block read leaves. -/
theorem beginBlockRead_leaves {q : Req} {idx sub : Nat} {v : Bytes} {u : State} (hv : valueOf u q.sess idx sub = v)
    (hne : v ≠ []) (hopen : u.ring.bypassOpen = true) :
    Output.blockBegin q.sess q.msg v.length ∈ (beginBlockRead q idx sub u).sent ∧
      Output.block (blockOfData q.sess false 0 q.msg 0 (v.take 65536)) ∈ (beginBlockRead q idx sub u).sent ∧
      (∃ x, transferOf (beginBlockRead q idx sub u) false q.sess q.msg = some x ∧ x.blocks = cutBlocks v ∧
        x.next = min 8 x.blocks.length ∧ x.unacked.length = x.next) ∧
      q.msg ∈ (sessOf (beginBlockRead q idx sub u) q.sess).inProgress := by
  have hpump : beginBlockRead q idx sub u = pumpTransfer q.sess q.msg 8 (putTransfer
      { sess := q.sess, msg := q.msg, idx := idx, sub := sub, len := v.length, toModule := false, blocks := cutBlocks v }
      (beginReq q (sendRing (.blockBegin q.sess q.msg v.length) u))) := by
    unfold beginBlockRead
    dsimp only
    rw [hv, if_neg (by simpa using hne)]
  have hsent : (beginReq q (sendRing (.blockBegin q.sess q.msg v.length) u)).sent =
      u.sent ++ [.blockBegin q.sess q.msg v.length] := sendRing_sent hopen
  have hopen' : (beginReq q (sendRing (.blockBegin q.sess q.msg v.length) u)).ring.bypassOpen = true :=
    (sendRing_bypass _ u).trans hopen
  have hbusy : q.msg ∈ (sessOf (beginReq q (sendRing (.blockBegin q.sess q.msg v.length) u)) q.sess).inProgress :=
    mem_beginReq _ _
  rw [hpump]
  generalize beginReq q (sendRing (.blockBegin q.sess q.msg v.length) u) = w at hsent hopen' hbusy
  have hput := transferOf_putTransfer (x := { sess := q.sess, msg := q.msg, idx := idx, sub := sub, len := v.length
                                              toModule := false, blocks := cutBlocks v }) w rfl rfl rfl
  obtain ⟨⟨y, hy, hblocks, hnext, hacked⟩, l, hl, hfirst⟩ :=
    pumpTransfer_sends q.sess q.msg 8 hput rfl (Nat.zero_le _) rfl hopen'
  have hsec : Keeps 131072 (putTransfer { sess := q.sess, msg := q.msg, idx := idx, sub := sub, len := v.length
                                          toModule := false, blocks := cutBlocks v } w)
      (pumpTransfer q.sess q.msg 8 (putTransfer { sess := q.sess, msg := q.msg, idx := idx, sub := sub, len := v.length
                                                  toModule := false, blocks := cutBlocks v } w)) := by simp
  have htotal := blockTotal_pos hne
  have hmem := hfirst (by dsimp only; rw [length_cutBlocks]; omega)
  have hsent' : (putTransfer { sess := q.sess, msg := q.msg, idx := idx, sub := sub, len := v.length
                               toModule := false, blocks := cutBlocks v } w).sent = _ := hsent
  rw [first_cutBlocks hne] at hmem
  rw [hl, hsent']
  refine ⟨by simp, List.mem_append_right _ hmem, ⟨y, hy, hblocks, by rw [hnext, hblocks], hacked⟩, ?_⟩
  rw [sessOf_of_sec (hsec.sec (by decide))]
  exact hbusy

theorem forwardAccess_notedRecord {write : Bool} {idx sub : Nat} {s t : State} (h : NotedRecord s t) :
    NotedRecord s (forwardAccess write idx sub t) := by
  unfold forwardAccess
  split
  · exact h
  · obtain ⟨o, i, l, ht⟩ := h.record
    exact ⟨h.noted, _, i, l, by rw [ht]; rfl⟩

/-- A block read taken and within its limits. -/
theorem exec_blockRead {q : Req} {idx sub len : Nat} {s : State} (h : Readable q idx sub s) (hlo : 1 ≤ len)
    (hhi : len ≤ 2 ^ 32) (hvalue : (valueOf s q.sess idx sub).length ≤ 2 ^ 32) :
    exec (.blockRead q idx sub len) s = .next (beginBlockRead q idx sub (forwardAccess false idx sub (heardAs q 6 idx sub s))) := by
  have hnoted := heardAs_notedRecord q 6 idx sub s
  have hcode : readCode q (readLimit 1 blockMax len q idx sub (heardAs q 6 idx sub s)) idx sub
      (heardAs q 6 idx sub s) = 0 := by
    rw [readCode_noted hnoted, readLimit_noted hnoted, readLimit_within (hi := blockMax) hlo hhi hvalue, readCode_readable h]
  change execBlockRead q idx sub len s = _
  unfold execBlockRead
  rw [onArrival_of_taken h.taken]
  exact congrArg Host.Outcome.next (if_pos hcode)

/-! ## Acknowledgements and resends of a block read (R402) -/

/-- A transfer with a block sent again. -/
def resent (x : Transfer) (k now : Nat) : Transfer :=
  { x with resent := set_ 0 k (at_ 0 k x.resent + 1) x.resent
           unacked := x.unacked.map (fun p => if p.1 = k then (k, now) else p) }

/-- A transfer with a block acknowledged. -/
def blockFreed (x : Transfer) (k : Nat) : Transfer := { x with unacked := x.unacked.filter (fun p => p.1 ≠ k) }

theorem transferResend_again {x : Transfer} {k : Nat} (u : State) (h : at_ 0 k x.resent < 8) :
    transferResend x k u = sendRing (.block (blockOfData x.sess false 0 x.msg k (at_ [] k x.blocks)))
      (putTransfer (resent x k u.pwr.time) u) := if_neg (by omega)

theorem transferResend_ends {x : Transfer} {k : Nat} (u : State) (h : 8 ≤ at_ 0 k x.resent) :
    transferResend x k u = respond ⟨x.sess, x.msg⟩ 0x06000004 [] (dropTransfer x u) := if_pos h

theorem mem_resent {x : Transfer} {k since : Nat} (now : Nat) (h : (k, since) ∈ x.unacked) :
    (k, now) ∈ (resent x k now).unacked := List.mem_map.mpr ⟨_, h, if_pos rfl⟩

/-- An acknowledgement of a block in an established session that the module hears. -/
theorem exec_blockAcknowledgement {a : BlockAck} {x : Transfer} {since : Nat} {s : State} (hh : hears s = true)
    (hbulk : a.bulk = false) (hest : (sessOf s a.sess).state = .established)
    (hx : transferOf s false a.sess a.msg = some x) (hmem : (a.num, since) ∈ x.unacked) :
    exec (.blockAcknowledgement a) s = .next
      (if a.status ≠ 0 then transferResend x a.num (takeMsg 5 a.sess (fresh s))
      else if (x.unacked.filter (fun p => p.1 ≠ a.num)).isEmpty ∧ x.blocks.length ≤ x.next then
        completed ⟨x.sess, x.msg⟩ 0 []
          (dropTransfer (blockFreed x a.num) (takeMsg 5 a.sess (fresh s)))
      else pumpTransfer x.sess x.msg 8
        (putTransfer (blockFreed x a.num) (takeMsg 5 a.sess (fresh s)))) := by
  have hgo : ¬((!hears s) = true ∨ (a.sess ≠ 0 ∧ (sessOf s a.sess).state ≠ .established)) := by simp [hh, hest]
  have hx' : transferOf (takeMsg 5 a.sess (fresh s)) false a.sess a.msg = some x := hx
  have hany : ¬(!x.unacked.any (fun p => p.1 == a.num)) = true := by
    have hsome : x.unacked.any (fun p => p.1 == a.num) = true := List.any_eq_true.mpr ⟨_, hmem, by simp⟩
    simp [hsome]
  refine congrArg Host.Outcome.next ((if_neg hgo).trans ?_)
  unfold blockAcked
  rw [if_neg (by simp [hbulk]), hx']
  exact if_neg hany

theorem exec_blockAckTimeout {a : BlockAck} {x : Transfer} {since : Nat} {s : State} (hh : hears s = true)
    (hbulk : a.bulk = false) (hx : transferOf s false a.sess a.msg = some x) (hmem : (a.num, since) ∈ x.unacked)
    (hdue : since + 1000000 ≤ s.pwr.time) :
    exec (.blockAckTimeout a) s = .next (transferResend x a.num (fresh s)) := by
  have hgo : ¬(fresh s).pwr.inReset = true := by
    change ¬s.pwr.inReset = true
    simp only [hears, Bool.and_eq_true, Bool.not_eq_true'] at hh
    simp [hh.2]
  have hx' : transferOf (fresh s) false a.sess a.msg = some x := hx
  have hany : x.unacked.any (fun p => p.1 == a.num && decide (p.2 + 1000000 ≤ (fresh s).pwr.time)) = true :=
    List.any_eq_true.mpr ⟨_, hmem, by
      rw [beq_self_eq_true, Bool.true_and]
      exact decide_eq_true hdue⟩
  change execBlockAckTimeout a s = _
  unfold execBlockAckTimeout
  dsimp only
  rw [if_neg hgo, if_neg (by simp [hbulk]), hx']
  exact congrArg Host.Outcome.next (if_pos hany)

/-- A block sent again from a state with nothing sent. -/
theorem resent_leaves {a : BlockAck} {x : Transfer} {since : Nat} {s u : State}
    (hx : transferOf u false a.sess a.msg = some x) (hmem : (a.num, since) ∈ x.unacked) (h8 : at_ 0 a.num x.resent < 8)
    (hopen : u.ring.bypassOpen = true) (hsent : u.sent = []) (hkeeps : Keeps 983037 s u) :
    (transferResend x a.num u).sent = [.block (blockOfData a.sess false 0 a.msg a.num (at_ [] a.num x.blocks))] ∧
      (∃ y, transferOf (transferResend x a.num u) false a.sess a.msg = some y ∧
        at_ 0 a.num y.resent = at_ 0 a.num x.resent + 1 ∧ y.blocks = x.blocks ∧ (a.num, s.pwr.time) ∈ y.unacked) ∧
      unchangedExcept [.wires, .ring] s (transferResend x a.num u) := by
  obtain ⟨ht, hs, hm⟩ := transferOf_key hx
  have hput := transferOf_putTransfer (x := resent x a.num u.pwr.time) u ht hs hm
  have hall : Keeps 983037 s (sendRing (.block (blockOfData x.sess false 0 x.msg a.num (at_ [] a.num x.blocks)))
      (putTransfer (resent x a.num u.pwr.time) u)) := by simpa using hkeeps
  have htime : u.pwr.time = s.pwr.time := by rw [hkeeps.pwr (by decide)]
  rw [transferResend_again u h8]
  refine ⟨?_, ⟨resent x a.num u.pwr.time, ?_, by simp [resent], rfl, htime ▸ mem_resent _ hmem⟩, unchanged_of_covered hall rfl⟩
  · rw [sendRing_sent (s := putTransfer (resent x a.num u.pwr.time) u) hopen, hs, hm]
    change u.sent ++ _ = _
    rw [hsent]
    rfl
  · rw [transferOf_of_transfers (sendRing_transfers _ _)]
    exact hput

/-! ## Block writes begun (R403, R407) -/

theorem earlyCodes_heardAs (q : Req) (command idx sub : Nat) (s : State) :
    earlyCodes idx sub (heardAs q command idx sub s) = earlyCodes idx sub s := by
  have htenant := tenantHere_heardAs q command idx sub s
  obtain ⟨o, i, l, ht⟩ := (heardAs_notedRecord q command idx sub s).record
  rw [ht] at htenant ⊢
  unfold earlyCodes
  rw [htenant]
  rfl

theorem blockWriteCode_heardAs (q : Req) (command idx sub len : Nat) (s : State) :
    blockWriteCode q idx sub len (heardAs q command idx sub s) = blockWriteCode q idx sub len s := by
  have hnoted := heardAs_notedRecord q command idx sub s
  have hearly := earlyCodes_heardAs q command idx sub s
  have hrole := noted_role hnoted.noted q.sess
  obtain ⟨a, ha⟩ := hnoted.noted.1 q.sess
  obtain ⟨o, i, l, ht⟩ := hnoted.record
  rw [ht] at hearly hrole ha ⊢
  unfold blockWriteCode
  rw [hearly, hrole, ha]
  rfl

/-- The transfer of a block write as its request leaves it. -/
def acceptedTransfer (q : Req) (idx sub len : Nat) (s : State) : Transfer :=
  { sess := q.sess, msg := q.msg, idx := idx, sub := sub, len := len, toModule := true
    regs := s.regs, members := s.fab.members, groups := s.fab.groups, overrides := s.fab.overrides }

/-- The state once a block write's request is accepted, the firmware's own marks apart. -/
def blockWriteBegun (q : Req) (idx sub len : Nat) (s : State) : State :=
  putTransfer (acceptedTransfer q idx sub len s) (beginReq q (sendRing (.blockBegin q.sess q.msg len) s))

theorem beginBlockWrite_eq (q : Req) (idx sub len : Nat) (s : State) : beginBlockWrite q idx sub len s =
    if idx = 0x9010 then withRg 0x9010 2 1 (addPend .firmware q (blockWriteBegun q idx sub len s))
    else blockWriteBegun q idx sub len s := rfl

theorem blockWriteBegun_leaves {q : Req} {idx sub len : Nat} {u : State} (hopen : u.ring.bypassOpen = true)
    (hsent : u.sent = []) :
    (blockWriteBegun q idx sub len u).sent = [.blockBegin q.sess q.msg len] ∧
      transferOf (blockWriteBegun q idx sub len u) true q.sess q.msg = some (acceptedTransfer q idx sub len u) ∧
      q.msg ∈ (sessOf (blockWriteBegun q idx sub len u) q.sess).inProgress := by
  refine ⟨?_, transferOf_putTransfer _ rfl rfl rfl, ?_⟩
  · change (sendRing (.blockBegin q.sess q.msg len) u).sent = _
    rw [sendRing_sent hopen, hsent]
    rfl
  · unfold blockWriteBegun
    rw [sessOf_of_sec (putTransfer_sec _ _)]
    exact mem_beginReq _ _

theorem blockWriteAny_taken {q : Req} {idx sub len : Nat} {s : State} (h : arrival q s = .taken)
    (hcode : blockWriteCode q idx sub len s = 0) :
    blockWriteAny q idx sub len s = beginBlockWrite q idx sub len (heardAs q 5 idx sub s) := by
  have hcode' := (blockWriteCode_heardAs q 5 idx sub len s).trans hcode
  unfold blockWriteAny
  rw [onArrival_of_taken h]
  exact if_pos hcode'

/-! ## Blocks received (R402) -/

/-- The state in which a block is taken up. -/
def blockHeard (b : Block) (s : State) : State := takeMsg 4 b.sess (fresh s)

theorem exec_blockData {b : Block} {x : Transfer} {s u : State} (h : BlockComes b x s)
    (hu : writeBlockReceived b (blockHeard b s) = u) (hpll : u.pwr.pllInForce = s.pwr.pllInForce) :
    exec (.blockData b) s = .next u := by
  have hsettled : settled (blockHeard b s) u = .next u := settled_same hpll
  have hheard : ¬(!hears s) = true := by simp [h.heard]
  have hsess : ¬(b.sess ≠ 0 ∧ (sessOf s b.sess).state ≠ .established) := by simp [h.established]
  have hblock : (!b.bulk) = true := by simp [h.kind.1]
  have hbranch : (if !b.bulk then writeBlockReceived b (blockHeard b s)
      else if roleOf (blockHeard b s) b.sess = .tenant ∧ b.chan < 8 then bulkReceived b (blockHeard b s)
      else blockHeard b s) = u := (if_pos hblock).trans hu
  refine Eq.trans ?_ hsettled
  rw [← hbranch]
  exact (if_neg hheard).trans (if_neg hsess)

theorem writeBlockReceived_eq {b : Block} {x : Transfer} {u : State} (hbulk : b.bulk = false)
    (hx : transferOf u true b.sess b.msg = some x) (hnew : lookup b.num x.blocks = none) :
    writeBlockReceived b u =
      if (blockGood b && decide (b.num < blockTotal x.len) && b.data.length == blockLen x.len b.num) = true then
        if (withBlock b x).blocks.length = blockTotal x.len then
          finishBlockWrite (withBlock b x) (sendRing (ackOf b 0) (putTransfer (withBlock b x) u))
        else sendRing (ackOf b 0) (putTransfer (withBlock b x) u)
      else if 8 ≤ at_ 0 b.num x.resent then failBlockWrite x u
      else sendRing (ackOf b 1)
        (putTransfer { x with resent := set_ 0 b.num (at_ 0 b.num x.resent + 1) x.resent } u) := by
  unfold writeBlockReceived ackOf
  rw [hx, hbulk]
  dsimp only
  rw [if_neg (by simp [hnew])]
  rfl

theorem blockFits_iff (b : Block) (x : Transfer) :
    (blockGood b && decide (b.num < blockTotal x.len) && b.data.length == blockLen x.len b.num) = true ↔ blockFits b x := by
  simp [blockFits, and_assoc]

/-- A good block acknowledged, before what its being the last brings. -/
theorem blockKept_leaves {b : Block} {x : Transfer} {s : State} (h : BlockComes b x s) (k : Nat) {y : Transfer}
    (ht : y.toModule = x.toModule) (hs : y.sess = x.sess) (hm : y.msg = x.msg) :
    (sendRing (ackOf b k) (putTransfer y (blockHeard b s))).sent = [ackOf b k] ∧
      transferOf (sendRing (ackOf b k) (putTransfer y (blockHeard b s))) true b.sess b.msg = some y ∧
      Keeps 983037 s (sendRing (ackOf b k) (putTransfer y (blockHeard b s))) := by
  obtain ⟨hxt, hxs, hxm⟩ := transferOf_key h.transfer
  refine ⟨?_, ?_, by simp [blockHeard]⟩
  · rw [sendRing_sent (s := putTransfer y (blockHeard b s)) h.sends]
    rfl
  · rw [transferOf_of_transfers (sendRing_transfers _ _)]
    exact transferOf_putTransfer _ (ht.trans hxt) (hs.trans hxs) (hm.trans hxm)

/-! ## The value written (R403, R407) -/

/-- The checks read nothing of what was sent or is to be sent or acted on. -/
theorem writeCode_of_ring (q : Req) (proto idx sub : Nat) (v : Bytes) (r : Rule) (s : State) (o : List Output)
    (i : List PartMsg) (l : List OutMsg) (n : Nat) :
    writeCode q proto idx sub v r { s with sent := o, ring := { s.ring with inbox := i, out := l, nextMsg := n } } =
      writeCode q proto idx sub v r s := rfl

theorem writeCode_of_codes {q : Req} {proto idx sub : Nat} {v : Bytes} {r r' : Rule} {s : State} (h : r'.codes = r.codes) :
    writeCode q proto idx sub v r' s = writeCode q proto idx sub v r s := by
  unfold writeCode
  rw [h]

/-- A plain object's rule judges by the registers alone and stores the value, whatever state it was made for. -/
theorem plain_rule {q : Req} {idx sub : Nat} {v : Bytes} (hp : idx ∈ plainIndexes) (hj : sub < 256) (a u : State) :
    ¬counted idx ∧ (ruleOf q idx sub v a).later = false ∧ (ruleOf q idx sub v a).log = none ∧
      (ruleOf q idx sub v a).after = id ∧ Stores idx sub (leNat v) u ((ruleOf q idx sub v a).apply u) ∧
      Keeps 65538 u ((ruleOf q idx sub v a).apply u) ∧
      (∀ b : State, b.regs = a.regs → (ruleOf q idx sub v b).codes = (ruleOf q idx sub v a).codes) := by
  have hstore : ∀ (codes : List Nat), (∀ b : State, ruleOf q idx sub v b = storeRule idx sub v codes) → ¬counted idx →
      ¬counted idx ∧ (ruleOf q idx sub v a).later = false ∧ (ruleOf q idx sub v a).log = none ∧
      (ruleOf q idx sub v a).after = id ∧ Stores idx sub (leNat v) u ((ruleOf q idx sub v a).apply u) ∧
      Keeps 65538 u ((ruleOf q idx sub v a).apply u) ∧
      (∀ b : State, b.regs = a.regs → (ruleOf q idx sub v b).codes = (ruleOf q idx sub v a).codes) :=
    fun codes hrule hi => by
      rw [hrule a]
      exact ⟨hi, rfl, rfl, rfl, stores_storeRule idx v codes u hj, by simp, fun b _ => by rw [hrule b]⟩
  simp only [plainIndexes, List.mem_cons, List.not_mem_nil, or_false] at hp
  rcases hp with rfl | rfl | rfl | rfl | rfl | rfl
  · have hrule : ruleOf q 0x4002 sub v = partitionRule sub (leNat v) := funext fun u => ruleOf_low (by decide)
    rw [hrule]
    exact ⟨not_counted_of (by decide), rfl, rfl, rfl, stores_partition (leNat v) u hj, by simp, fun b hb => partitionRule_codes hb⟩
  · exact hstore [] (fun u => ruleOf_low (by decide)) (not_counted_of (by decide))
  · exact hstore [] (fun u => ruleOf_low (by decide)) (not_counted_of (by decide))
  · exact hstore _ (fun u => ruleOf_mid (by decide) (by decide) (by decide)) (not_counted_of (by decide))
  · exact hstore _ (fun u => ruleOf_mid (by decide) (by decide) (by decide)) (not_counted_of (by decide))
  · exact hstore _ (fun u => ruleOf_high (by decide) (by decide)) (not_counted_of (by decide))

/-- A write accepted by a plain object's rule, for whatever state the rule was made. -/
theorem plain_accepted {q : Req} {idx sub : Nat} {v : Bytes} (hp : idx ∈ plainIndexes) (hj : sub < 256) (a : State)
    {u : State} (hopen : u.ring.bypassOpen = true) :
    SettingTaken q idx sub (leNat v) u (acceptWrite q idx sub v (ruleOf q idx sub v a) u) ∧
      (∃ l, (acceptWrite q idx sub v (ruleOf q idx sub v a) u).sent = u.sent ++ l) ∧
      (acceptWrite q idx sub v (ruleOf q idx sub v a) u).ring.transfers = u.ring.transfers := by
  obtain ⟨hcounted, hl, hg, ha, hst, hkeeps, -⟩ := plain_rule (q := q) (v := v) hp hj a (forwardAccess true idx sub u)
  have hwrite : acceptWrite q idx sub v (ruleOf q idx sub v a) u = respond q 0 []
      (auditWrite q idx sub v ((ruleOf q idx sub v a).apply (forwardAccess true idx sub u))) := by
    unfold acceptWrite
    simp [hl, hg, ha]
  have hforward : Keeps 1048573 u (forwardAccess true idx sub u) := by simp
  have hemitted : ∃ l, (forwardAccess true idx sub u).sent = u.sent ++ l := by
    unfold forwardAccess
    split
    · exact ⟨[], (List.append_nil _).symm⟩
    · exact ⟨_, rfl⟩
  generalize forwardAccess true idx sub u = w at hwrite hforward hemitted hst hkeeps
  have hwopen : w.ring.bypassOpen = true := by
    rw [hforward.ring (by decide)]
    exact hopen
  have hset : SettingTaken q idx sub (leNat v) w (respond q 0 [] (auditWrite q idx sub v ((ruleOf q idx sub v a).apply w))) :=
    answered_setting v hcounted hj hst hwopen
  rw [hwrite]
  generalize (ruleOf q idx sub v a).apply w = x at hkeeps hset hst
  have hxopen := hst.bypass.trans hwopen
  have hlogged : Keeps 2 x (auditWrite q idx sub v x) := by simp
  have hsent : (respond q 0 [] (auditWrite q idx sub v x)).sent = _ := sendRing_sent
    (s := completed q (BitVec.ofNat 32 0) [] (auditWrite q idx sub v x)) (hxopen ▸ auditWrite_bypass ..)
  obtain ⟨l, hl⟩ := hemitted
  refine ⟨⟨hset.value, hset.answered, hset.logged, regsExcept_trans (regsExcept_of_regs (hforward.regs (by decide))) hset.regs,
    hset.dev.trans (hforward.dev (by decide)), hset.ex.trans (hforward.ex (by decide)), ?_⟩,
    ⟨l ++ [.response q.sess q.msg (BitVec.ofNat 32 0) []], ?_⟩, ?_⟩
  · rw [hset.pll, hforward.pwr (by decide)]
  · rw [hsent, ← List.append_assoc, ← hl, ← hkeeps.sent (by decide), ← hlogged.sent (by decide)]
    rfl
  · rw [respond_ring_transfers, auditWrite_ring_transfers, hkeeps.ring (by decide), hforward.ring (by decide)]

/-- The last block of a write of a plain object whose value passes its checks. -/
theorem finishBlockWrite_plain {x : Transfer} {w : State} {v : Bytes} (hp : x.idx ∈ plainIndexes)
    (hv : joinBlocks x = v)
    (hcode : writeCode ⟨x.sess, x.msg⟩ 0 x.idx x.sub v (ruleOf ⟨x.sess, x.msg⟩ x.idx x.sub v
      (asAccepted x (leaveProgress ⟨x.sess, x.msg⟩ (dropTransfer x w))))
      (asAccepted x (leaveProgress ⟨x.sess, x.msg⟩ (dropTransfer x w))) = 0) :
    finishBlockWrite x w = acceptWrite ⟨x.sess, x.msg⟩ x.idx x.sub v (ruleOf ⟨x.sess, x.msg⟩ x.idx x.sub v
      (asAccepted x (leaveProgress ⟨x.sess, x.msg⟩ (dropTransfer x w)))) (leaveProgress ⟨x.sess, x.msg⟩ (dropTransfer x w)) := by
  subst hv
  have hidx : x.idx ≠ 0x9010 := fun h => by simp [plainIndexes, h] at hp
  unfold finishBlockWrite
  dsimp only
  rw [if_neg hidx]
  exact if_pos hcode

/-- An acknowledgement sent changes what was sent and what waits for slots. -/
theorem sendRing_ackOf (b : Block) (k : Nat) {u : State} (hopen : u.ring.bypassOpen = true) :
    ∃ l n, sendRing (ackOf b k) u =
      { u with sent := u.sent ++ [ackOf b k], ring := { u.ring with out := l, nextMsg := n } } :=
  ⟨_, _, if_pos hopen⟩

/-- The settings of a write's acceptance, with its last block acknowledged. -/
theorem dropTransfer_acked {b : Block} {x : Transfer} {s : State} (h : BlockComes b x s) :
    ∃ o i l n, dropTransfer (withBlock b x) (sendRing (ackOf b 0) (putTransfer (withBlock b x) (blockHeard b s))) =
      { dropTransfer x s with sent := o, ring := { (dropTransfer x s).ring with inbox := i, out := l, nextMsg := n } } := by
  obtain ⟨l, n, hsend⟩ := sendRing_ackOf b 0 (u := putTransfer (withBlock b x) (blockHeard b s)) h.sends
  have hdrop : (dropTransfer (withBlock b x) (putTransfer (withBlock b x) (blockHeard b s))).ring.transfers =
      (dropTransfer x s).ring.transfers := dropTransfer_putTransfer _ rfl rfl
  rw [hsend]
  exact ⟨[ackOf b 0], (blockHeard b s).ring.inbox, l, n, congrArg (fun transfers : List Transfer =>
    { s with
      sent := [ackOf b 0]
      ring := { s.ring with
        transfers := transfers, inbox := (blockHeard b s).ring.inbox, out := l, nextMsg := n } }) hdrop⟩

theorem objExists_of_writeCode {q : Req} {idx sub : Nat} {v : Bytes} {r : Rule} {s : State}
    (h : writeCode q 0 idx sub v r s = 0) : objExists s idx sub true = true := by
  by_contra hno
  unfold writeCode at h
  rw [if_neg (by simp), if_pos (by simpa using hno)] at h
  exact absurd h (by decide)

end Sys2Proof.Machine

open Sys2Proof Sys2Proof.Machine

/-- Settles O47, by the transfer that each request, block and acknowledgement finds or leaves. -/
theorem blocksAreSentAndTaken : Obligations.BlocksAreSentAndTaken := by
  unfold Obligations.BlocksAreSentAndTaken
  refine ⟨fun q idx sub len v s h hlo hhi hv hne hvalue => ?reads,
    fun a x since s hh hopen hbulk hsess hest hx hstatus hlast hsent => ?completes,
    fun a x since i s hh hopen hbulk hsess hest hx hmem h8 hi => ?resends,
    fun a x since s hh hopen hbulk hsess hest hx hmem h8 hdue => ?ends,
    fun q idx sub len i s htaken hopen hcode hi => ?writes, fun b x s h hfits hmore => ?keeps,
    fun b x s h hfits hall hidx => ?image, fun b x q v before s h hfits hall hp hq hv hbefore hcode => ?value,
    fun b x s h hbad h8 => ?again, fun b x s h hbad h8 hidx => ?fails⟩
  case reads =>
    subst hv
    have hnoted := forwardAccess_notedRecord (write := false) (idx := idx) (sub := sub) (heardAs_notedRecord q 6 idx sub s)
    have hkeeps : Keeps 851965 s (beginBlockRead q idx sub (forwardAccess false idx sub (heardAs q 6 idx sub s))) := by
      unfold beginBlockRead
      dsimp only
      split <;> simp
    have hopen : (forwardAccess false idx sub (heardAs q 6 idx sub s)).ring.bypassOpen = true := by
      obtain ⟨o, i, l, ht⟩ := hnoted.record
      rw [ht]
      exact h.sends
    obtain ⟨hbegin, hfirst, ⟨x, hx, hblocks, hnext, hacked⟩, hbusy⟩ :=
      beginBlockRead_leaves (valueOf_noted hnoted q.sess idx sub) hne hopen
    exact ⟨_, x, exec_blockRead h hlo hhi hvalue, hbegin, hfirst, hx, hblocks, hnext, hacked, hbusy,
      unchanged_of_covered hkeeps rfl⟩
  case completes =>
    obtain ⟨-, hs, hm⟩ := transferOf_key hx
    have hexec := exec_blockAcknowledgement hh hbulk hest hx (since := since) (by simp [hlast])
    rw [if_neg (by simp [hstatus]), if_pos ⟨by simp [hlast], hsent⟩, hs, hm] at hexec
    have hkeeps : Keeps 851965 s (completed ⟨a.sess, a.msg⟩ 0 []
        (dropTransfer (blockFreed x a.num) (takeMsg 5 a.sess (fresh s)))) := by simp
    refine ⟨_, hexec, rfl, transferOf_dropTransfer (x := blockFreed x a.num)
        _ (takeMsg 5 a.sess (fresh s)) hs hm, ?_,
      unchanged_of_covered hkeeps rfl⟩
    unfold completed
    dsimp only
    rw [sessOf_withSess_same]
    simp [dropNum]
  case resends =>
    rcases hi with ⟨rfl, hbad⟩ | ⟨rfl, hdue⟩
    · have hexec := exec_blockAcknowledgement hh hbulk hest hx hmem
      rw [if_pos hbad] at hexec
      obtain ⟨hsent, ⟨y, hy, hcount, hblocks, hun⟩, hframe⟩ :=
        resent_leaves (s := s) (u := takeMsg 5 a.sess (fresh s)) hx hmem h8 hopen rfl (by simp)
      exact ⟨_, y, hexec, hsent, hy, hcount, hblocks, hun, hframe⟩
    · have hexec := exec_blockAckTimeout hh hbulk hx hmem hdue
      obtain ⟨hsent, ⟨y, hy, hcount, hblocks, hun⟩, hframe⟩ :=
        resent_leaves (s := s) (u := fresh s) hx hmem h8 hopen rfl (by simp)
      exact ⟨_, y, hexec, hsent, hy, hcount, hblocks, hun, hframe⟩
  case ends =>
    obtain ⟨-, hs, hm⟩ := transferOf_key hx
    have hexec := exec_blockAckTimeout hh hbulk hx hmem hdue
    rw [transferResend_ends _ h8, hs, hm] at hexec
    have hkeeps : Keeps 851965 s (respond ⟨a.sess, a.msg⟩ 0x06000004 [] (dropTransfer x (fresh s))) := by simp
    refine ⟨_, hexec, answers_respond _ _ _ _ hopen, ?_, unchanged_of_covered hkeeps rfl⟩
    rw [transferOf_of_transfers (respond_ring_transfers ..)]
    exact transferOf_dropTransfer _ _ hs hm
  case writes =>
    have hexec : exec i s = .next (beginBlockWrite q idx sub len (heardAs q 5 idx sub s)) := by
      rw [← blockWriteAny_taken htaken hcode]
      rcases hi with rfl | ⟨rfl, rfl, rfl⟩ <;> rfl
    have hheard : Keeps 851965 s (heardAs q 5 idx sub s) := by simp
    obtain ⟨m, hring⟩ := heardAs_ring q 5 idx sub s
    have hsilent := heardAs_sent q 5 idx sub s
    rw [beginBlockWrite_eq] at hexec
    generalize heardAs q 5 idx sub s = u at hexec hheard hring hsilent
    obtain ⟨hsent, htransfer, hbusy⟩ := blockWriteBegun_leaves (q := q) (idx := idx) (sub := sub) (len := len)
      (u := u) (by rw [hring]; exact hopen) hsilent
    have hregs : (acceptedTransfer q idx sub len u).regs = s.regs := hheard.regs (by decide)
    have hbegun : Keeps 851965 s (blockWriteBegun q idx sub len u) := by
      unfold blockWriteBegun
      simpa using hheard
    generalize blockWriteBegun q idx sub len u = w at hexec hsent htransfer hbusy hbegun
    by_cases hidx : idx = 0x9010
    · rw [if_pos hidx] at hexec
      have hfirmware : Keeps 851949 s (withRg 0x9010 2 1 (addPend .firmware q w)) := by
        simpa using hbegun.mono (by decide)
      have hstored : regsExcept [(0x9010, 2)] (addPend .firmware q w) (withRg 0x9010 2 1 (addPend .firmware q w)) :=
        regsExcept_withRg _ _ (by decide) (by simp)
      refine ⟨_, _, hexec, hsent, htransfer, rfl, rfl, rfl, rfl, hregs, addPend_inProgress hbusy,
        fun _ => ⟨rg_withRg_same .., ?_⟩, fun h => absurd hidx h, ?_, unchanged_of_covered hfirmware rfl⟩
      · change ((w.sec.pend ++ [_]).find? _).isSome = true
        rw [List.find?_isSome]
        exact ⟨_, List.mem_append_right _ (List.mem_singleton_self _), rfl⟩
      · exact regsExcept_trans (regsExcept_of_regs (t := addPend .firmware q w) (hbegun.regs (by decide))) hstored
    · rw [if_neg hidx] at hexec
      exact ⟨_, _, hexec, hsent, htransfer, rfl, rfl, rfl, rfl, hregs, hbusy, fun h => absurd h hidx,
        fun _ => hbegun.regs (by decide), regsExcept_of_regs (hbegun.regs (by decide)),
        unchanged_of_covered (hbegun.mono (m := 851949) (by decide)) rfl⟩
  case keeps =>
    obtain ⟨hsent, htransfer, hkept⟩ := blockKept_leaves h 0 (y := withBlock b x) rfl rfl rfl
    have hu := writeBlockReceived_eq (u := blockHeard b s) h.kind.1 h.transfer h.new
    rw [if_pos ((blockFits_iff b x).mpr hfits), if_neg hmore] at hu
    exact ⟨_, exec_blockData h hu (by rw [hkept.pwr (by decide)]), hsent, htransfer, unchanged_of_covered hkept rfl⟩
  case image =>
    obtain ⟨hsent, htransfer, hkept⟩ := blockKept_leaves h 0 (y := withBlock b x) rfl rfl rfl
    have hu := writeBlockReceived_eq (u := blockHeard b s) h.kind.1 h.transfer h.new
    rw [if_pos ((blockFits_iff b x).mpr hfits), if_pos hall] at hu
    generalize sendRing (ackOf b 0) (putTransfer (withBlock b x) (blockHeard b s)) = w at hsent hkept hu
    have hfinish : finishBlockWrite (withBlock b x) w = withRg 0x9010 2 2 (dropTransfer (withBlock b x) w) := if_pos hidx
    rw [hfinish] at hu
    have hall' : Keeps 983021 s (withRg 0x9010 2 2 (dropTransfer (withBlock b x) w)) := by
      simpa using hkept.mono (by decide)
    have hstored : regsExcept [(0x9010, 2)] (dropTransfer (withBlock b x) w)
        (withRg 0x9010 2 2 (dropTransfer (withBlock b x) w)) := regsExcept_withRg _ _ (by decide) (by simp)
    exact ⟨_, exec_blockData h hu (by rw [hall'.pwr (by decide)]), hsent, rg_withRg_same ..,
      regsExcept_trans (regsExcept_of_regs (t := dropTransfer (withBlock b x) w) (hkept.regs (by decide))) hstored,
      unchanged_of_covered hall' rfl⟩
  case value =>
    subst hq hv hbefore
    obtain ⟨-, hs, hm⟩ := transferOf_key h.transfer
    obtain ⟨hsent, -, hkept⟩ := blockKept_leaves h 0 (y := withBlock b x) rfl rfl rfl
    have hopen : (sendRing (ackOf b 0) (putTransfer (withBlock b x) (blockHeard b s))).ring.bypassOpen = true :=
      (sendRing_bypass _ _).trans h.sends
    have hu := writeBlockReceived_eq (u := blockHeard b s) h.kind.1 h.transfer h.new
    rw [if_pos ((blockFits_iff b x).mpr hfits), if_pos hall] at hu
    obtain ⟨o, i, l, n, hdrop⟩ := dropTransfer_acked h
    generalize sendRing (ackOf b 0) (putTransfer (withBlock b x) (blockHeard b s)) = w at hsent hkept hu hdrop hopen
    have hsub := sub_lt_of_objExists (objExists_of_writeCode hcode)
    obtain ⟨-, -, -, -, -, -, hcodes⟩ := plain_rule (q := ⟨b.sess, b.msg⟩) (v := joinBlocks (withBlock b x)) hp hsub
      (asAccepted x (leaveProgress ⟨b.sess, b.msg⟩ (dropTransfer x s))) s
    have hsame : asAccepted (withBlock b x) (leaveProgress ⟨b.sess, b.msg⟩ (dropTransfer (withBlock b x) w)) =
        { asAccepted x (leaveProgress ⟨b.sess, b.msg⟩ (dropTransfer x s)) with
          sent := o
          ring := { (asAccepted x (leaveProgress ⟨b.sess, b.msg⟩ (dropTransfer x s))).ring with
            inbox := i, out := l, nextMsg := n } } := by
      rw [hdrop]
      rfl
    have hcode' : writeCode ⟨b.sess, b.msg⟩ 0 x.idx x.sub (joinBlocks (withBlock b x))
        (ruleOf ⟨b.sess, b.msg⟩ x.idx x.sub (joinBlocks (withBlock b x))
          (asAccepted (withBlock b x) (leaveProgress ⟨b.sess, b.msg⟩ (dropTransfer (withBlock b x) w))))
        (asAccepted (withBlock b x) (leaveProgress ⟨b.sess, b.msg⟩ (dropTransfer (withBlock b x) w))) = 0 := by
      rw [writeCode_of_codes (hcodes (asAccepted (withBlock b x) (leaveProgress ⟨b.sess, b.msg⟩ (dropTransfer (withBlock b x) w))) rfl), hsame, writeCode_of_ring]
      exact hcode
    rw [← hs, ← hm] at hcode' ⊢
    have hfinish : finishBlockWrite (withBlock b x) w = acceptWrite ⟨x.sess, x.msg⟩ x.idx x.sub (joinBlocks (withBlock b x))
        (ruleOf ⟨x.sess, x.msg⟩ x.idx x.sub (joinBlocks (withBlock b x))
          (asAccepted (withBlock b x) (leaveProgress ⟨x.sess, x.msg⟩ (dropTransfer (withBlock b x) w))))
        (leaveProgress ⟨x.sess, x.msg⟩ (dropTransfer (withBlock b x) w)) :=
      finishBlockWrite_plain (x := withBlock b x) (w := w) hp rfl hcode'
    have hprogress : Keeps 851967 w (leaveProgress ⟨x.sess, x.msg⟩ (dropTransfer (withBlock b x) w)) := by simp
    have hgone : transferOf (leaveProgress ⟨x.sess, x.msg⟩ (dropTransfer (withBlock b x) w)) true x.sess x.msg = none :=
      transferOf_dropTransfer (x := withBlock b x) true w rfl rfl
    have hopen' : (leaveProgress ⟨x.sess, x.msg⟩ (dropTransfer (withBlock b x) w)).ring.bypassOpen = true := hopen
    obtain ⟨ht, ⟨m, hm'⟩, htransfers⟩ := plain_accepted (q := ⟨x.sess, x.msg⟩) (v := joinBlocks (withBlock b x)) hp hsub
      (asAccepted (withBlock b x) (leaveProgress ⟨x.sess, x.msg⟩ (dropTransfer (withBlock b x) w))) hopen'
    have hu' := hu.trans hfinish
    clear hu hfinish hsame hdrop hcode hcode' hcodes hopen hopen'
    have hregs := (hprogress.regs (by decide)).trans (hkept.regs (by decide))
    have hpll : (leaveProgress ⟨x.sess, x.msg⟩ (dropTransfer (withBlock b x) w)).pwr.pllInForce = s.pwr.pllInForce := by
      rw [hprogress.pwr (by decide), hkept.pwr (by decide)]
    have hfirst := (hprogress.sent (by decide)).trans hsent
    generalize acceptWrite _ _ _ _ _ _ = t at hu' ht hm' htransfers
    generalize leaveProgress ⟨x.sess, x.msg⟩ (dropTransfer (withBlock b x) w) = u at ht hm' htransfers hregs hgone hpll hfirst
    refine ⟨t, exec_blockData h hu' (ht.pll.trans hpll), ?_, ht.answered, ht.logged, ht.value, ?_,
      regsExcept_trans (regsExcept_of_regs hregs) ht.regs⟩
    · rw [hm', hfirst]
      exact List.mem_append_left _ (List.mem_singleton_self _)
    · rw [transferOf_of_transfers htransfers]
      exact hgone
  case again =>
    obtain ⟨hsent, htransfer, hkept⟩ := blockKept_leaves h 1
      (y := { x with resent := set_ 0 b.num (at_ 0 b.num x.resent + 1) x.resent }) rfl rfl rfl
    have hu := writeBlockReceived_eq (u := blockHeard b s) h.kind.1 h.transfer h.new
    rw [if_neg (fun hgood => hbad ((blockFits_iff b x).mp hgood)), if_neg (by omega)] at hu
    exact ⟨_, exec_blockData h hu (by rw [hkept.pwr (by decide)]), hsent, htransfer, unchanged_of_covered hkept rfl⟩
  case fails =>
    obtain ⟨-, hs, hm⟩ := transferOf_key h.transfer
    have hu := writeBlockReceived_eq (u := blockHeard b s) h.kind.1 h.transfer h.new
    have hfail : failBlockWrite x (blockHeard b s) =
        rejectReq ⟨x.sess, x.msg⟩ 0x06000004 (dropTransfer x (blockHeard b s)) := if_neg hidx
    rw [if_neg (fun hgood => hbad ((blockFits_iff b x).mp hgood)), if_pos h8, hfail, hs, hm] at hu
    have hkeeps : Keeps 851949 s (rejectReq ⟨b.sess, b.msg⟩ 0x06000004 (dropTransfer x (blockHeard b s))) := by
      simp [blockHeard]
    have hrejected : regsExcept [] (dropTransfer x (blockHeard b s))
        (rejectReq ⟨b.sess, b.msg⟩ 0x06000004 (dropTransfer x (blockHeard b s))) := regsExcept_rejectReq _ _ _
    refine ⟨_, exec_blockData h hu (by rw [hkeeps.pwr (by decide)]), answers_rejectReq _ _ _ h.sends, ?_, hrejected⟩
    rw [transferOf_of_transfers (rejectReq_ring_transfers ..)]
    exact transferOf_dropTransfer _ _ hs hm

end

section
/-! Steps start, end and stall (spec/02_score_execution.md, Device states for running scores; The step bound). -/

namespace Sys2Proof.Machine

/-! ## The step counters under the deliveries of tokens (R60)

Of 0x2012 a delivery can only count what passes a final count, in subindex 06. -/

/-- The objects of 0x2012 but that of tokens past their final count are the same. -/
def CountsKept (s t : State) : Prop := ∀ j, j < 256 → j ≠ 6 → rg t 0x2012 j = rg s 0x2012 j

theorem CountsKept.refl (s : State) : CountsKept s s := fun _ _ _ => rfl

theorem CountsKept.trans {s t u : State} (h : CountsKept s t) (k : CountsKept t u) : CountsKept s u :=
  fun j hj h6 => (k j hj h6).trans (h j hj h6)

theorem countsKept_of_rgK {s t : State} (h : RgK 256 s t) : CountsKept s t := fun j _ _ => h 0x2012 j (by decide)

theorem countsKept_foldl {α : Type} {f : State → α → State} (h : ∀ u e, CountsKept u (f u e)) (l : List α) (s : State) :
    CountsKept s (l.foldl f s) := by
  induction l generalizing s with
  | nil => exact CountsKept.refl s
  | cons e l ih => exact (h s e).trans (ih (f s e))

theorem countsKept_addToken (sc : Score) (t n : Nat) (s : State) : CountsKept s (addToken sc t n s) := by
  have hbump : CountsKept s (bump 0x2012 6 1 s) := fun j hj h6 => rg_withRg_sub _ hj (by decide) h6
  unfold addToken
  split
  · exact CountsKept.refl s
  · dsimp only
    split
    · exact hbump.trans (countsKept_of_rgK (by simp))
    · exact countsKept_of_rgK (by simp)

theorem countsKept_deliverFrom (unit : Nat) (sc : Score) (die ep : Nat) (rs : List TokRef) (s : State) :
    CountsKept s (deliverFrom unit sc die ep rs s) := by
  unfold deliverFrom
  refine countsKept_foldl (fun u r => ?_) rs s
  split
  · exact CountsKept.refl u
  · split
    · exact countsKept_addToken _ _ _ _
    · exact countsKept_of_rgK (by simp)

theorem countsKept_settleTokens (x : CollCtx) (s : State) : CountsKept s (settleTokens x s) := by
  have hsent : CountsKept s (withRun x.n { runOf s x.n with tokensSent := true } s) := countsKept_of_rgK (by simp)
  unfold settleTokens
  dsimp only
  split
  · exact CountsKept.refl s
  · exact hsent.trans (countsKept_deliverFrom _ _ _ _ _ _)

theorem countsKept_tokensFall (x : CollCtx) (s : State) : CountsKept s (tokensFall x s) := by
  unfold tokensFall
  exact CountsKept.trans (countsKept_of_rgK (by simp)) (countsKept_settleTokens x _)

theorem countsKept_completeColl (x : CollCtx) (s : State) : CountsKept s (completeColl x s) := by
  have hdrop : CountsKept s (dropHeld x.n (withRun x.n { runOf s x.n with complete := true } s)) :=
    countsKept_of_rgK (by simp)
  unfold completeColl
  dsimp only
  generalize dropHeld x.n (withRun x.n { runOf s x.n with complete := true } s) = u at hdrop
  split
  · exact hdrop
  · refine (hdrop.trans (countsKept_of_rgK ?_)).trans (countsKept_tokensFall x _)
    split
    · exact (rgK_foldl_iff _ (fun u e => by simp) _ _ _).mpr (by simp)
    · simp

theorem countsKept_afterReduce (x : CollCtx) (s : State) : CountsKept s (afterReduce x s) := by
  have hexamined : CountsKept s (if x.c.kind ≤ 1 then examine x s else s) := countsKept_of_rgK (by split <;> simp)
  unfold afterReduce
  dsimp only
  generalize (if x.c.kind ≤ 1 then examine x s else s) = u at hexamined
  split
  · exact hexamined.trans (countsKept_of_rgK (by simp))
  · exact hexamined.trans (countsKept_completeColl x u)

theorem countsKept_nextStage (x : CollCtx) (s : State) : CountsKept s (nextStage x s) := by
  have hsummed : CountsKept s (if (runOf s x.n).stage < 5 ∧ inOrder s x then orderedSums x (runOf s x.n).stage s
      else if x.c.kind = 6 then mergeLists x (runOf s x.n).stage s else s) :=
    countsKept_of_rgK (by split <;> (try split) <;> simp)
  unfold nextStage
  dsimp only
  generalize (if (runOf s x.n).stage < 5 ∧ inOrder s x then orderedSums x (runOf s x.n).stage s
      else if x.c.kind = 6 then mergeLists x (runOf s x.n).stage s else s) = u at hsummed
  split
  · split
    · exact hsummed.trans (countsKept_of_rgK (by simp))
    · exact hsummed.trans (countsKept_afterReduce x u)
  · split
    · exact hsummed.trans (countsKept_completeColl x u)
    · exact hsummed.trans (countsKept_of_rgK (by simp))

theorem countsKept_advanceColl (x : CollCtx) : ∀ (n : Nat) (s : State), CountsKept s (advanceColl x n s)
  | 0, s => CountsKept.refl s
  | n + 1, s => by
    unfold advanceColl
    dsimp only
    split
    · exact (countsKept_nextStage x s).trans (countsKept_advanceColl x n _)
    · exact CountsKept.refl s

theorem countsKept_chunkNow (sc : Score) (h : HeldChunk) (s : State) : CountsKept s (chunkNow sc h s) := by
  have hfailed : CountsKept s (if h.failed then badChunk h.chunk s else s) := countsKept_of_rgK (by split <;> simp)
  unfold chunkNow
  dsimp only
  generalize (if h.failed then badChunk h.chunk s else s) = u at hfailed
  refine hfailed.trans ?_
  split
  · exact countsKept_of_rgK (by simp)
  · split
    · exact countsKept_of_rgK (by simp)
    · next x _ =>
      split
      · exact countsKept_of_rgK (by simp)
      · split
        · exact countsKept_of_rgK (by simp)
        · split
          · exact countsKept_of_rgK (by simp)
          · exact CountsKept.trans (countsKept_of_rgK (by simp)) (countsKept_advanceColl x 12 _)

theorem countsKept_takeEarly (s : State) : CountsKept s (takeEarly s) := by
  unfold takeEarly
  refine CountsKept.trans (countsKept_of_rgK (by simp)) (countsKept_foldl (fun u e => ?_) _ _)
  unfold onScore
  split
  · exact countsKept_chunkNow _ _ _
  · exact CountsKept.refl u

/-! ## The tokens under the fetching of records and operands (R57) -/

/-- The token counters are the same. -/
def TokensKept (s t : State) : Prop := t.ex.step.tokens = s.ex.step.tokens

theorem TokensKept.trans {s t u : State} (h : TokensKept s t) (k : TokensKept t u) : TokensKept s u := Eq.trans k h

theorem tokensKept_of_keeps {s t : State} (h : Keeps 64 s t) : TokensKept s t :=
  congrArg (fun x : Exec => x.step.tokens) (h.ex (by decide))

theorem tokensKept_foldl {α : Type} {f : State → α → State} (h : ∀ u e, TokensKept u (f u e)) (l : List α) (s : State) :
    TokensKept s (l.foldl f s) := by
  induction l generalizing s with
  | nil => rfl
  | cons e l ih => exact (h s e).trans (ih (f s e))

theorem tokensKept_poisonRead (a : Nat) (s : State) : TokensKept s (poisonRead a s) := by
  have hevent : ∀ u : State, TokensKept u (faultEvent 0x03200005 3 (stackLoc s a) u) :=
    fun u => tokensKept_of_keeps (by simp)
  unfold poisonRead stepDataError
  dsimp only
  split
  · rfl
  · split
    · rfl
    · exact hevent { s with ex := { s.ex with step := { s.ex.step with lateErr := true, holdAtBoundary := true } } }

theorem tokensKept_fetchRecord (sc : Score) (key : Nat) (s : State) (i : Nat) : TokensKept s (fetchRecord sc key s i) := by
  have hread : TokensKept s (readRange { coreUnit s key with part := 15 } none (recordAddr sc i) 80 s) :=
    tokensKept_of_keeps (by simp)
  unfold fetchRecord
  dsimp only
  split
  · exact hread.trans (tokensKept_poisonRead _ _)
  · exact hread

theorem tokensKept_advanceList (sc : Score) (half core : Nat) (before : List Nat) (q : Seq) (s : State) :
    TokensKept s (advanceList sc half core before q s) := by
  unfold advanceList
  exact TokensKept.trans (t := withSeq half core q s) rfl (tokensKept_foldl (fun u i => tokensKept_fetchRecord _ _ u i) _ _)

theorem tokensKept_refillPrefetch (sc : Score) (half core : Nat) (s : State) :
    TokensKept s (refillPrefetch sc half core s) := by
  unfold refillPrefetch
  refine tokensKept_foldl (fun u p => ?_) _ _
  split
  · rfl
  · exact TokensKept.trans (t := { u with ex := { u.ex with prefetch := u.ex.prefetch ++ [p] } }) rfl
      (tokensKept_of_keeps (by simp))

end Sys2Proof.Machine

end

section
/-! Steps start, end and stall: the commands (spec/02_score_execution.md, Device states for running scores; The step
bound). -/

namespace Sys2Proof.Machine

/-! ## The start of a step (R84) -/

/-- The grant taken and the start counted. -/
def stepCounted (s : State) : State := withRg 0x2011 2 (rg s 0x2011 2 - 1) (bump 0x2012 1 1 s)

/-- The new step, with everything as at a start. -/
def stepFresh (sc : Score) (s : State) : State :=
  withCol (fun c => { c with runs := [], alerted := []
                             praline := c.praline.filter (fun r => r.round == (s.ex.nextStep + 63) % 64)
                             sends := c.sends.filter (fun x => x.round == (s.ex.nextStep + 63) % 64) })
    { stepCounted s with ex := { s.ex with
      nextStep := s.ex.nextStep + 1
      step := { running := true, num := s.ex.nextStep, startTime := s.pwr.time }
      force := forceNow (stepCounted s), scale := s.ex.scaleLoad.getD s.ex.scale, scaleLoad := none
      spent := [], seqs := startLists sc, engines := [], streams := [], prefetch := [] } }

/-- The indicators cleared. -/
def stepCleared (sc : Score) (s : State) : State := (captureIndicators sc (stepFresh sc s)).2

/-- What was held for the step, no longer held. -/
def heldLeft (n : Nat) (s : State) : State :=
  { s with ex := { s.ex with heldTokens := s.ex.heldTokens.filter (fun m => m.round ≠ n % 64) } }

/-- The lists' first records and prefetches fetched. -/
def listsFetched (sc : Score) (s : State) : State :=
  ((sc.crumbs.map (fun c => (c.half, c.core))).eraseDups).foldl (fun s k =>
    refillPrefetch sc k.1 k.2 (advanceList sc k.1 k.2 [] (seqOf s k.1 k.2) s)) s

theorem startStep_eq (sc : Score) (s : State) : startStep sc s =
    listsFetched sc (takeEarly (((stepCleared sc s).ex.heldTokens.filter (fun m => m.round == s.ex.nextStep % 64)).foldl
      (takeIncrement sc) (heldLeft s.ex.nextStep (stepCleared sc s)))) := rfl

theorem rg_stepCounted (s : State) : rg (stepCounted s) 0x2011 2 = rg s 0x2011 2 - 1 ∧
    rg (stepCounted s) 0x2012 1 = satAdd (sizeOf_ 0x2012 1) (rg s 0x2012 1) 1 := by
  unfold stepCounted
  refine ⟨rg_withRg_same .., ?_⟩
  rw [rg_withRg_other _ _ (by decide)]
  exact rg_withRg_same ..

theorem stepCleared_leaves (sc : Score) (s : State) :
    (stepCleared sc s).regs = (stepCounted s).regs ∧ (stepCleared sc s).ex = (stepFresh sc s).ex ∧
      (stepCleared sc s).col = (stepFresh sc s).col := by
  have hkeeps : Keeps 1048447 (stepFresh sc s) (stepCleared sc s) := by simp [stepCleared]
  exact ⟨hkeeps.regs (by decide), hkeeps.ex (by decide), hkeeps.col (by decide)⟩

theorem listsFetched_leaves (sc : Score) (s : State) :
    RgK 384 s (listsFetched sc s) ∧ stepId (listsFetched sc s) = stepId s ∧ TokensKept s (listsFetched sc s) := by
  unfold listsFetched
  exact ⟨rgK_foldl _ (fun u e => by simp) _ _ _ (by simp), stepId_foldl _ (fun u e => by simp) _ _,
    tokensKept_foldl (fun u e => (tokensKept_advanceList _ _ _ _ _ u).trans (tokensKept_refillPrefetch _ _ _ _)) _ _⟩

/-- What a step's start leaves. -/
theorem startStep_leaves {sc : Score} {s : State} (hsc : s.ex.score = some sc) :
    stepId (startStep sc s) = (some sc, s.ex.nextStep + 1, s.ex.nextStep, true, s.pwr.time) ∧
      rg (startStep sc s) 0x2011 2 = rg s 0x2011 2 - 1 ∧
      rg (startStep sc s) 0x2012 1 = satAdd (sizeOf_ 0x2012 1) (rg s 0x2012 1) 1 := by
  obtain ⟨hregs, hex, -⟩ := stepCleared_leaves sc s
  obtain ⟨hgrant, hcount⟩ := rg_stepCounted s
  have hid : stepId (stepCleared sc s) = (some sc, s.ex.nextStep + 1, s.ex.nextStep, true, s.pwr.time) := by
    unfold stepId
    rw [hex]
    exact congrArg (fun x => (x, s.ex.nextStep + 1, s.ex.nextStep, true, s.pwr.time)) hsc
  rw [startStep_eq]
  have hheld : (heldLeft s.ex.nextStep (stepCleared sc s)).regs = (stepCounted s).regs := hregs
  have hheldId : stepId (heldLeft s.ex.nextStep (stepCleared sc s)) = stepId (stepCleared sc s) := rfl
  generalize heldLeft s.ex.nextStep (stepCleared sc s) = u at hheld hheldId
  generalize (stepCleared sc s).ex.heldTokens.filter _ = mine
  have htokens : CountsKept u (mine.foldl (takeIncrement sc) u) := countsKept_foldl (fun v m => countsKept_addToken _ _ _ v) _ _
  have htokensK : RgK 128 u (mine.foldl (takeIncrement sc) u) := rgK_foldl _ (fun v m => by simp) _ _ _ (by simp)
  have htokensId : stepId (mine.foldl (takeIncrement sc) u) = stepId u := stepId_foldl _ (fun v m => by simp) _ _
  generalize mine.foldl (takeIncrement sc) u = v at htokens htokensK htokensId
  have hearly := countsKept_takeEarly v
  have hearlyK : RgK 128 v (takeEarly v) := by simp
  have hearlyId : stepId (takeEarly v) = stepId v := by simp
  generalize takeEarly v = w at hearly hearlyK hearlyId
  obtain ⟨hlists, hlistsId, -⟩ := listsFetched_leaves sc w
  refine ⟨?_, ?_, ?_⟩
  · rw [hlistsId, hearlyId, htokensId, hheldId, hid]
  · rw [hlists 0x2011 2 (by decide), hearlyK 0x2011 2 (by decide), htokensK 0x2011 2 (by decide), rg_of_regs hheld, hgrant]
  · rw [hlists 0x2012 1 (by decide), hearly 1 (by decide) (by decide), htokens 1 (by decide) (by decide), rg_of_regs hheld,
      hcount]

/-- With nothing held for the step, its token counters begin at zero. -/
theorem startStep_tokens {sc : Score} {s : State} (hheld : s.ex.heldTokens.filter (fun m => m.round == s.ex.nextStep % 64) = [])
    (hearly : s.col.early = []) : (startStep sc s).ex.step.tokens = [] := by
  obtain ⟨-, hex, hcol⟩ := stepCleared_leaves sc s
  have hmine : (stepCleared sc s).ex.heldTokens.filter (fun m => m.round == s.ex.nextStep % 64) = [] := by
    rw [hex]
    exact hheld
  have hnone : (heldLeft s.ex.nextStep (stepCleared sc s)).col.early = [] := (congrArg (·.early) hcol).trans hearly
  have hzero : (heldLeft s.ex.nextStep (stepCleared sc s)).ex.step.tokens = [] :=
    congrArg (fun x : Exec => x.step.tokens) hex
  rw [startStep_eq, hmine, List.foldl_nil]
  generalize heldLeft s.ex.nextStep (stepCleared sc s) = u at hnone hzero
  obtain ⟨-, -, htokens⟩ := listsFetched_leaves sc (takeEarly u)
  refine Eq.trans htokens ?_
  unfold takeEarly
  rw [hnone]
  exact hzero

theorem exec_stepStart {sc : Score} {s : State} (hsc : s.ex.score = some sc) :
    exec .stepStart s = .next (if mayStart sc s = true then startStep sc (fresh s) else fresh s) := by
  change execStepStart s = _
  unfold execStepStart onScore
  dsimp only
  rw [show (fresh s).ex.score = some sc from hsc]
  rfl

/-! ## The step boundary (R85) -/

/-- The secure point noted. -/
def secureNoted (s : State) (u : State) : State :=
  if securesNow s then { u with res := { u.res with lastSecure := some u.ex.step.num } } else u

/-- The step counted by its outcome. -/
def outcomeCounted (committed : Bool) (s : State) : State :=
  if committed then
    withRg 0x3031 3 (min (updatesAfter s) (2 ^ 64 - 1)) (bump 0x2012 2 1 { s with res := { s.res with lastCommit := some s.ex.step.num } })
  else bump 0x2012 3 1 s

/-- The step ended, the module held or running. -/
def stepEnded (s : State) : State :=
  { s with
    dev := if s.ex.holdPending || s.ex.step.holdAtBoundary then .held else .running
    ex := { s.ex with holdPending := false, step := { s.ex.step with running := false }
                      admitted := s.ex.admitted.filter (fun a => s.ex.nextStep ≤ a.step) }
    pwr := { s.pwr with pendingEnables := [] } }

theorem takeBoundary_eq (sc : Score) (s : State) : takeBoundary sc s = gateChange s (beginRepairs sc (stepEnded (returnCores
    (reportWatch (outcomeCounted (s.ex.step.outcome == some .commit) (secureNoted s (measureStep sc (markLate s)))))))) := by
  unfold takeBoundary endStep secureNoted outcomeCounted stepEnded
  dsimp only

theorem rg_bump_sub {i j k n : Nat} (s : State) (hj : j < 256) (hk : k < 256) (hne : j ≠ k) :
    rg (bump i k n s) i j = rg s i j := rg_withRg_sub s hj hk hne

theorem rg_measureStep (sc : Score) (s : State) : rg (measureStep sc s) 0x2012 5 = s.pwr.time - s.ex.step.startTime ∧
    rg (measureStep sc s) 0x2012 2 = rg s 0x2012 2 ∧ rg (measureStep sc s) 0x2012 3 = rg s 0x2012 3 := by
  have hraise : ∀ (b : Bytes) (u : State), RgK 256 u (raise 3 0x0002 b u) := fun b u => by simp
  unfold measureStep
  dsimp only
  split
  · refine ⟨?_, ?_, ?_⟩
    · rw [hraise _ _ 0x2012 5 (by decide), rg_bump_sub _ (by decide) (by decide) (by decide)]
      exact rg_withRg_same ..
    · rw [hraise _ _ 0x2012 2 (by decide), rg_bump_sub _ (by decide) (by decide) (by decide),
        rg_withRg_sub _ (by decide) (by decide) (by decide)]
    · rw [hraise _ _ 0x2012 3 (by decide), rg_bump_sub _ (by decide) (by decide) (by decide),
        rg_withRg_sub _ (by decide) (by decide) (by decide)]
  · exact ⟨rg_withRg_same .., rg_withRg_sub _ (by decide) (by decide) (by decide),
      rg_withRg_sub _ (by decide) (by decide) (by decide)⟩

theorem rg_outcomeCounted (committed : Bool) (s : State) :
    rg (outcomeCounted committed s) 0x2012 5 = rg s 0x2012 5 ∧
      (committed = true → rg (outcomeCounted committed s) 0x2012 2 = satAdd (sizeOf_ 0x2012 2) (rg s 0x2012 2) 1 ∧
        rg (outcomeCounted committed s) 0x2012 3 = rg s 0x2012 3) ∧
      (committed = false → rg (outcomeCounted committed s) 0x2012 3 = satAdd (sizeOf_ 0x2012 3) (rg s 0x2012 3) 1 ∧
        rg (outcomeCounted committed s) 0x2012 2 = rg s 0x2012 2) := by
  unfold outcomeCounted
  cases committed with
  | true =>
    rw [if_pos rfl]
    refine ⟨?_, fun _ => ⟨?_, ?_⟩, fun h => by cases h⟩
    · rw [rg_withRg_other _ _ (by decide)]
      exact rg_bump_sub { s with res := _ } (by decide) (by decide) (by decide)
    · rw [rg_withRg_other _ _ (by decide)]
      exact rg_withRg_same ..
    · rw [rg_withRg_other _ _ (by decide)]
      exact rg_bump_sub { s with res := _ } (by decide) (by decide) (by decide)
  | false =>
    rw [if_neg (by simp)]
    refine ⟨rg_bump_sub s (by decide) (by decide) (by decide), fun h => absurd h (by decide),
      fun _ => ⟨rg_withRg_same .., rg_bump_sub s (by decide) (by decide) (by decide)⟩⟩

/-- What a step's boundary leaves. -/
theorem takeBoundary_leaves (sc : Score) (s : State) : ∃ u,
    (u.ex = s.ex ∧ rg u 0x2012 5 = s.pwr.time - s.ex.step.startTime ∧
      (s.ex.step.outcome = some .commit → rg u 0x2012 2 = satAdd (sizeOf_ 0x2012 2) (rg s 0x2012 2) 1 ∧
        rg u 0x2012 3 = rg s 0x2012 3) ∧
      (s.ex.step.outcome ≠ some .commit → rg u 0x2012 3 = satAdd (sizeOf_ 0x2012 3) (rg s 0x2012 3) 1 ∧
        rg u 0x2012 2 = rg s 0x2012 2)) ∧
    (takeBoundary sc s).ex = (stepEnded u).ex ∧ (takeBoundary sc s).dev = (stepEnded u).dev ∧
    RgK 256 (stepEnded u) (takeBoundary sc s) := by
  have hlate : Keeps 1048559 s (markLate s) := by simp
  have hlateK : RgK 256 s (markLate s) := by simp
  have hex := hlate.ex (by decide)
  have htime : (markLate s).pwr.time = s.pwr.time := by rw [hlate.pwr (by decide)]
  obtain ⟨h5, h2, h3⟩ := rg_measureStep sc (markLate s)
  have hmeasured : Keeps 983023 (markLate s) (measureStep sc (markLate s)) := by simp
  rw [hex, htime] at h5
  rw [hlateK 0x2012 2 (by decide)] at h2
  rw [hlateK 0x2012 3 (by decide)] at h3
  have hmex := (hmeasured.ex (by decide)).trans hex
  rw [takeBoundary_eq]
  generalize measureStep sc (markLate s) = m at h5 h2 h3 hmex
  have hsecure : ∀ j, rg (secureNoted s m) 0x2012 j = rg m 0x2012 j := fun j => by unfold secureNoted; split <;> rfl
  have hsecureEx : (secureNoted s m).ex = m.ex := by unfold secureNoted; split <;> rfl
  generalize secureNoted s m = n at hsecure hsecureEx
  obtain ⟨hc5, hcommitted, hother⟩ := rg_outcomeCounted (s.ex.step.outcome == some .commit) n
  have hcounted : (outcomeCounted (s.ex.step.outcome == some .commit) n).ex = n.ex := by
    unfold outcomeCounted
    split <;> rfl
  generalize outcomeCounted (s.ex.step.outcome == some .commit) n = c at hc5 hcommitted hother hcounted
  have hrest : Keeps 458351 c (returnCores (reportWatch c)) := by simp
  have hrestK : RgK 256 c (returnCores (reportWatch c)) := by simp
  refine ⟨returnCores (reportWatch c), ⟨?_, ?_, fun h => ?_, fun h => ?_⟩, ?_⟩
  · rw [hrest.ex (by decide), hcounted, hsecureEx, hmex]
  · rw [hrestK 0x2012 5 (by decide), hc5, hsecure, h5]
  · obtain ⟨hc2, hc3⟩ := hcommitted (by simp [h])
    rw [hrestK 0x2012 2 (by decide), hrestK 0x2012 3 (by decide), hc2, hc3, hsecure, hsecure, h2, h3]
    exact ⟨rfl, rfl⟩
  · obtain ⟨hc3, hc2⟩ := hother (by simpa using h)
    rw [hrestK 0x2012 2 (by decide), hrestK 0x2012 3 (by decide), hc2, hc3, hsecure, hsecure, h2, h3]
    exact ⟨rfl, rfl⟩
  · have hend : Keeps 72 (stepEnded (returnCores (reportWatch c)))
        (gateChange s (beginRepairs sc (stepEnded (returnCores (reportWatch c))))) := by simp
    exact ⟨hend.ex (by decide), hend.dev (by decide), by simp⟩

theorem exec_stepBoundary {sc : Score} {s : State} (hsc : s.ex.score = some sc) (hres : s.pwr.inReset = false)
    (hreached : boundaryReached sc s = true) : exec .stepBoundary s = .next (takeBoundary sc (fresh s)) := by
  have hgo : ¬(fresh s).pwr.inReset = true := by
    change ¬s.pwr.inReset = true
    simp [hres]
  change execStepBoundary s = _
  unfold execStepBoundary onScore
  dsimp only
  rw [if_neg hgo, show (fresh s).ex.score = some sc from hsc]
  exact congrArg Host.Outcome.next (if_pos hreached)

/-! ## The step bound (R91) -/

theorem exec_stepStalled {sc : Score} {s : State} (hsc : s.ex.score = some sc) :
    exec .stepStalled s = .next (if s.pwr.inReset = true then fresh s
      else if (s.ex.step.running && !outcomeHeld s && 4 * stepTime sc s ≤ measured s
        && (s.dev == .running || s.dev == .held)) = true then toFaulted 0x03100006 0 [] (fresh s) else fresh s) := by
  change execStepStalled s = _
  unfold execStepStalled onScore
  dsimp only
  rw [show (fresh s).ex.score = some sc from hsc]
  rfl

end Sys2Proof.Machine

open Sys2Proof Sys2Proof.Machine

/-- Settles O18, by what a step's start, its boundary and its bound leave. -/
theorem stepsStartAndEnd : Obligations.StepsStartAndEnd := by
  unfold Obligations.StepsStartAndEnd
  refine ⟨fun sc s hsc hmay => ?starts, fun sc s hsc hno => ?waits, fun sc s hsc hres hreached => ?ends,
    fun sc s hsc hres hrun hheld hdev hlong => ?stalls, fun sc s hsc hshort => ?goesOn⟩
  case starts =>
    have hexec := exec_stepStart hsc
    rw [if_pos hmay] at hexec
    obtain ⟨hid, hgrant, hcount⟩ := startStep_leaves (s := fresh s) hsc
    have htokens := startStep_tokens (sc := sc) (s := fresh s)
    have hkeeps : Keeps 924969 s (startStep sc (fresh s)) := by simp
    generalize startStep sc (fresh s) = t at hexec hid hgrant hcount htokens hkeeps
    simp only [stepId, Prod.mk.injEq] at hid
    obtain ⟨hscore, hnext, hnum, hrunning, hstart⟩ := hid
    refine ⟨t, hexec, hrunning, hnum, hnext, hstart, hscore, hgrant, hcount, fun hheld hearly k => ?_,
      unchanged_of_covered hkeeps rfl⟩
    unfold tokenCount
    rw [htokens hheld hearly]
    rfl
  case waits =>
    have hexec := exec_stepStart hsc
    rw [if_neg] at hexec
    · exact hexec
    · unfold mayStart
      rcases hno with h | h | h | h | h | h | h <;> simp [h]
  case ends =>
    have hexec := exec_stepBoundary hsc hres hreached
    have hkeeps : Keeps 150565 s (takeBoundary sc (fresh s)) := by simp
    obtain ⟨u, ⟨hex, h5, hcommitted, hother⟩, htex, htdev, htK⟩ := takeBoundary_leaves sc (fresh s)
    generalize takeBoundary sc (fresh s) = t at hexec hkeeps htex htdev htK
    have hrg : ∀ j, rg t 0x2012 j = rg u 0x2012 j := fun j => htK 0x2012 j (by decide)
    refine ⟨t, hexec, ?_, ?_, ?_, ?_, ?_, fun h => ?_, fun h => ?_, ?_, unchanged_of_covered hkeeps rfl⟩
    · rw [htex]
      rfl
    · rw [htex]
      exact (congrArg (fun x : Exec => x.step.num) hex : u.ex.step.num = s.ex.step.num)
    · rw [htex]
      rfl
    · rw [htex]
      exact (congrArg (fun x : Exec => x.score) hex).trans hsc
    · rw [htdev]
      exact congrArg (fun x : Exec => if (x.holdPending || x.step.holdAtBoundary) = true then DevState.held else .running) hex
    · rw [hrg, hrg]
      exact hcommitted h
    · rw [hrg, hrg]
      exact hother h
    · rw [hrg]
      exact h5
  case stalls =>
    have hexec := exec_stepStalled hsc
    rw [if_neg (by simp [hres]), if_pos (by simpa [hrun, hheld, hlong] using hdev)] at hexec
    have hkeeps : Keeps 31781 s (toFaulted 0x03100006 0 [] (fresh s)) := by simp
    have hid : stepId (toFaulted 0x03100006 0 [] (fresh s)) = stepId (fresh s) := by simp
    have hne : (fresh s).dev ≠ .faulted := by
      change s.dev ≠ .faulted
      rcases hdev with h | h <;> simp [h]
    exact ⟨_, hexec, toFaulted_dev .., rg_toFaulted_cause hne, hid, unchanged_of_covered hkeeps rfl⟩
  case goesOn =>
    have hexec := exec_stepStalled hsc
    have hnot : ¬(s.ex.step.running && !outcomeHeld s && 4 * stepTime sc s ≤ measured s
        && (s.dev == .running || s.dev == .held)) = true := by simp [Nat.not_le.mpr hshort]
    rw [if_neg hnot, ite_self] at hexec
    exact hexec

end

section
/-! Reads leave every byte of memory (spec/07_memory.md, Caches and coherence). -/

namespace Sys2Proof.Machine

/-- From a state in canonical form, every byte reads as before, and the form is kept. -/
structure BytesKept (s t : State) : Prop where
  canon : Canon s → Canon t
  bytes : Canon s → ∀ x, byteAt t x = byteAt s x

theorem BytesKept.refl (s : State) : BytesKept s s := ⟨id, fun _ _ => rfl⟩

theorem BytesKept.trans {s t u : State} (h : BytesKept s t) (k : BytesKept t u) : BytesKept s u :=
  ⟨fun c => k.canon (h.canon c), fun c x => (k.bytes (h.canon c) x).trans (h.bytes c x)⟩

theorem bytesKept_of_mem {s t : State} (hc : Canon s → Canon t) (h : t.mem = s.mem) : BytesKept s t :=
  ⟨hc, fun _ x => byteAt_of_mem x h⟩

theorem bytesKept_of_keeps {s t : State} (hc : Canon s → Canon t) (h : Keeps 512 s t) : BytesKept s t :=
  bytesKept_of_mem hc (h.mem (by decide))

theorem bytesKept_foldl {α : Type} {f : State → α → State} (h : ∀ u e, BytesKept u (f u e)) (l : List α) (s : State) :
    BytesKept s (l.foldl f s) := by
  induction l generalizing s with
  | nil => exact BytesKept.refl s
  | cons e l ih => exact (h s e).trans (ih (f s e))

theorem bytesKept_readLine (u : Agent) (line : Nat) (s : State) : BytesKept s (readLine u line s) := by
  refine ⟨fun h => by simp [h], fun hc x => ?_⟩
  unfold readLine
  split
  · rfl
  · next hmiss =>
    have hmemory := regCharge_memory (quadrantOf s (256 * line)) u.part 256 s
    have hnone : mscLine (regCharge (quadrantOf s (256 * line)) u.part 256 s) line = none :=
      (congrArg (lookup _) hmemory.2.1).trans (Option.not_isSome_iff_eq_none.mp hmiss)
    rw [byteAt_mscInstall_empty _ _ (hmemory.2.1 ▸ hc.msc) hnone, byteAt_regCharge]

theorem bytesKept_readVia (u : Agent) (fill : Option Nat) (line : Nat) (s : State) : BytesKept s (readVia u fill line s) := by
  refine ⟨fun h => by simp [h], fun hc x => ?_⟩
  unfold readVia
  split
  · exact (bytesKept_readLine u line s).bytes hc x
  · rw [byteAt_installLine]
    split
    · rfl
    · exact (bytesKept_readLine u line s).bytes hc x

theorem bytesKept_readRange (u : Agent) (fill : Option Nat) (a n : Nat) (s : State) :
    BytesKept s (readRange u fill a n s) := by
  unfold readRange
  split
  · exact BytesKept.refl s
  · exact bytesKept_foldl (fun v k => bytesKept_readVia u fill k v) _ _

theorem bytesKept_poisonRead (a : Nat) (s : State) : BytesKept s (poisonRead a s) :=
  bytesKept_of_mem (fun h => by simp [h]) (poisonRead_mem a s)

/-! ## The records and operands of a core's list (R57, R217) -/

theorem bytesKept_fetchRecord (sc : Score) (key : Nat) (s : State) (i : Nat) : BytesKept s (fetchRecord sc key s i) := by
  unfold fetchRecord
  dsimp only
  split
  · exact (bytesKept_readRange _ _ _ _ _).trans (bytesKept_poisonRead _ _)
  · exact bytesKept_readRange _ _ _ _ _

theorem bytesKept_advanceList (sc : Score) (half core : Nat) (before : List Nat) (q : Seq) (s : State) :
    BytesKept s (advanceList sc half core before q s) := by
  unfold advanceList
  exact (bytesKept_of_keeps (t := withSeq half core q s) (fun h => by simp [h]) (by simp)).trans
    (bytesKept_foldl (fun u i => bytesKept_fetchRecord _ _ u i) _ _)

theorem bytesKept_setList (sc : Score) (half core : Nat) (q : Seq) (s : State) : BytesKept s (setList sc half core q s) :=
  bytesKept_advanceList ..

theorem bytesKept_refillPrefetch (sc : Score) (half core : Nat) (s : State) :
    BytesKept s (refillPrefetch sc half core s) := by
  unfold refillPrefetch
  refine bytesKept_foldl (fun u p => ?_) _ _
  split
  · exact BytesKept.refl u
  · refine BytesKept.trans (t := { u with ex := { u.ex with prefetch := u.ex.prefetch ++ [p] } }) ?_
      (bytesKept_readRange _ _ _ _ _)
    exact bytesKept_of_mem (fun h => ⟨h.regs, h.cells, h.msc, h.wc, h.waits⟩) rfl

theorem bytesKept_retireHead (sc : Score) (half core : Nat) (c : Crumb) (i : Nat) (q : Seq) (s : State) :
    BytesKept s (retireHead sc half core c i q s) := by
  unfold retireHead
  refine (bytesKept_setList sc half core q s).trans (BytesKept.trans ?_ (bytesKept_refillPrefetch _ _ _ _))
  exact bytesKept_of_keeps (fun h => by simp [h]) (by simp)

/-! ## The lists of the cores -/

theorem listsOf_advanceList (sc : Score) (half core : Nat) (before : List Nat) (q : Seq) (s : State) :
    listsOf (advanceList sc half core before q s) = listsOf (withSeq half core q s) := by
  unfold advanceList
  exact listsOf_foldl _ (fun u i => fetchRecord_listsOf _ _ u i) _ _

theorem listsOf_setList (sc : Score) (half core : Nat) (q : Seq) (s : State) :
    listsOf (setList sc half core q s) = listsOf (withSeq half core q s) := listsOf_advanceList ..

theorem seqOf_of_listsOf {s t : State} (h : listsOf t = listsOf s) (half core : Nat) :
    seqOf t half core = seqOf s half core := by
  unfold seqOf
  rw [show t.ex.seqs = s.ex.seqs from congrArg Prod.fst h]

theorem spent_of_listsOf {s t : State} (h : listsOf t = listsOf s) : t.ex.spent = s.ex.spent :=
  congrArg (fun l => l.2.1) h

theorem seqOf_withSeq_same (half core : Nat) (q : Seq) (s : State) : seqOf (withSeq half core q s) half core = q := by
  unfold seqOf at_ withSeq
  simp

theorem seqOf_withSeq_other {half core h k : Nat} (q : Seq) (s : State) (hne : coreKey h k ≠ coreKey half core) :
    seqOf (withSeq half core q s) h k = seqOf s h k := by
  unfold seqOf at_ withSeq
  rw [lookup_put_other _ _ _ _ hne]

/-! ## A crumb's firing (R61, R94) -/

theorem spendPools_ex (l : List (Nat × Nat)) (s : State) :
    (l.foldl (fun s r => spendPool r.1 r.2 s) s).ex =
      { s.ex with spent := l.foldl (fun m r => set_ 0 r.1 (at_ 0 r.1 m + r.2) m) s.ex.spent } := by
  induction l generalizing s with
  | nil => rfl
  | cons r l ih =>
    rw [List.foldl_cons, ih]
    rfl

/-- The crumb's unit taken, its effect carried out. -/
def effectDone (sc : Score) (half core i : Nat) (c : Crumb) (errs : List StoreErr) (s : State) : State :=
  crumbEffect sc half core (coreSiteKey s half core) i c (c.credits.foldl (fun s r => spendPool r.1 r.2 s)
    (noteReads sc (coreSiteKey s half core) c (errs.foldl (storeError half core (coreSiteKey s half core)) s)))

theorem fireCrumb_eq (sc : Score) (half core i owner : Nat) (c : Crumb) (errs : List StoreErr) (s : State) :
    ∃ r, r.crumb = i ∧ r.owner = owner ∧ fireCrumb sc half core i owner c errs s =
      endPrefetch i (withSite (coreSiteKey s half core) (setUnit (execUnitOf c) (some r)
        (siteAt (effectDone sc half core i c errs s) (coreSiteKey s half core))) (effectDone sc half core i c errs s)) :=
  ⟨_, rfl, rfl, rfl⟩

theorem listsOf_effectDone (sc : Score) (half core i : Nat) (c : Crumb) (errs : List StoreErr) (s : State) :
    listsOf (effectDone sc half core i c errs s) =
      (s.ex.seqs, spentAfter c s.ex.spent, s.ex.engines, s.ex.streams) := by
  have hnoted : listsOf (noteReads sc (coreSiteKey s half core) c (errs.foldl (storeError half core (coreSiteKey s half core)) s))
      = listsOf s := by simp
  unfold effectDone
  rw [crumbEffect_listsOf]
  generalize noteReads sc (coreSiteKey s half core) c (errs.foldl (storeError half core (coreSiteKey s half core)) s) = u
    at hnoted
  simp only [listsOf, Prod.mk.injEq] at hnoted
  obtain ⟨hseqs, hspent, hengines, hstreams⟩ := hnoted
  unfold listsOf
  rw [spendPools_ex, ← hseqs, ← hspent, ← hengines, ← hstreams]
  rfl

theorem siteUnit_setUnit (u v : ExecUnit) (r : Option Running) (x : Site) :
    siteUnit (setUnit u r x) v = if v = u then r else siteUnit x v := by
  cases u <;> cases v <;> rfl

theorem coreSiteKey_of_keeps {s t : State} (h : Keeps 524544 s t) (half core : Nat) :
    coreSiteKey t half core = coreSiteKey s half core := by
  unfold coreSiteKey coreSite
  dsimp only
  simp only [halfTest_of_test (h.test (by decide)), boundSite_of_siteMap (h.siteMap (by decide))]

/-- What a crumb's firing and the prefetches after it leave. -/
theorem fired_leaves (sc : Score) (half core own i owner : Nat) (c : Crumb) (errs : List StoreErr) (s : State) :
    ∃ r, r.crumb = i ∧ r.owner = owner ∧
      siteUnit (coreOf (refillPrefetch sc half own (fireCrumb sc half core i owner c errs s)) half core) (execUnitOf c) = some r ∧
      listsOf (refillPrefetch sc half own (fireCrumb sc half core i owner c errs s)) =
        (s.ex.seqs, spentAfter c s.ex.spent, s.ex.engines, s.ex.streams) := by
  obtain ⟨r, hi, ho, hfire⟩ := fireCrumb_eq sc half core i owner c errs s
  refine ⟨r, hi, ho, ?_, ?_⟩
  · have hkeeps : Keeps 524672 (fireCrumb sc half core i owner c errs s)
        (refillPrefetch sc half own (fireCrumb sc half core i owner c errs s)) := by simp
    have hmaps : Keeps 524544 s (fireCrumb sc half core i owner c errs s) := by simp
    rw [coreOf_of_sites (hkeeps.sites (by decide)) (hkeeps.siteMap (by decide)) (hkeeps.test (by decide))]
    have hkey := coreSiteKey_of_keeps hmaps half core
    change siteUnit (siteAt _ (coreSiteKey _ half core)) _ = _
    rw [hkey, hfire]
    change siteUnit (siteAt (withSite (coreSiteKey s half core) _ _) (coreSiteKey s half core)) _ = _
    rw [siteAt_withSite_same, siteUnit_setUnit, if_pos rfl]
  · rw [refillPrefetch_listsOf, hfire, endPrefetch_listsOf]
    exact listsOf_effectDone ..

end Sys2Proof.Machine

end

section
/-! Crumbs fire, retire, and are stolen (spec/03_core_matrix.md, Organisation of a core; spec/02_score_execution.md, Firing;
Stealing). -/

namespace Sys2Proof.Machine

/-! ## What retiring crumbs send (R59, R69) -/

theorem tokensKept_addFill (sc : Score) (b n : Nat) (s : State) : TokensKept s (addFill sc b n s) := by
  unfold addFill
  split
  · rfl
  · split <;> rfl

theorem tokensKept_sendGrant (unit : Nat) (p : PoolDecl) (n : Nat) (s : State) : TokensKept s (sendGrant unit p n s) := by
  unfold sendGrant
  split <;> rfl

/-- What follows a crumb's output tokens touches no token counter. -/
theorem tokensKept_sendOutputs (sc : Score) (c : Crumb) (credits : Bool) (s : State) :
    TokensKept (deliverFrom (ownerUnit c) sc (4 + c.half / 2) (c.half % 2) c.outputs s) (sendOutputs sc c credits s) := by
  have hfill : TokensKept (deliverFrom (ownerUnit c) sc (4 + c.half / 2) (c.half % 2) c.outputs s)
      (match c.fill with
        | some f => addFill sc f.1 f.2 (deliverFrom (ownerUnit c) sc (4 + c.half / 2) (c.half % 2) c.outputs s)
        | none => deliverFrom (ownerUnit c) sc (4 + c.half / 2) (c.half % 2) c.outputs s) := by
    split
    · exact tokensKept_addFill _ _ _ _
    · rfl
  unfold sendOutputs
  dsimp only
  split
  · exact hfill
  · refine hfill.trans (tokensKept_foldl (fun u r => ?_) _ _)
    split
    · exact tokensKept_sendGrant _ _ _ _
    · rfl

/-- A crumb's one output token whose home is its own endpoint is counted there at once. -/
theorem tokenCount_sendOutputs_home {sc : Score} {c : Crumb} {o : TokRef} {d : TokDecl} (credits : Bool) (s : State)
    (ho : c.outputs = [o]) (hd : sc.tokens.find? (fun x => x.id == o.tok) = some d) (hdie : d.die = 4 + c.half / 2)
    (hep : d.ep = c.half % 2) :
    tokenCount (sendOutputs sc c credits s) o.tok = min (tokenCount s o.tok + o.cnt) d.final := by
  have hhome : deliverFrom (ownerUnit c) sc (4 + c.half / 2) (c.half % 2) c.outputs s = addToken sc o.tok o.cnt s := by
    unfold deliverFrom
    rw [ho]
    simp only [List.foldl_cons, List.foldl_nil, hd]
    exact if_pos ⟨hdie, hep⟩
  have htokens := tokensKept_sendOutputs sc c credits s
  rw [hhome] at htokens
  rw [← tokenCount_addToken_same o.cnt s hd]
  unfold tokenCount
  rw [show _ = _ from htokens]

/-! ## The commands -/

theorem exec_crumbFire {half core i : Nat} {errs : List StoreErr} {sc : Score} {c : Crumb} {q : Seq} {s : State}
    (hsc : s.ex.score = some sc) (hhead : headOf sc s half core = some (i, c, q)) :
    exec (.crumbFire half core errs) s = .next (if !halfWorks s half then fresh s
      else if (crumbReady sc s c && !elides s c && canFire sc s (coreSiteKey s half core) i core c) = true then
        refillPrefetch sc half core (fireCrumb sc half core i core c errs (setList sc half core q (fresh s)))
      else fresh s) := by
  change execCrumbFire half core errs s = _
  unfold execCrumbFire onScore
  dsimp only
  rw [show (fresh s).ex.score = some sc from hsc]
  dsimp only
  rw [show headOf sc (fresh s) half core = some (i, c, q) from hhead]
  rfl

theorem exec_crumbRetire {half core unit : Nat} {sc : Score} {r : Running} {c : Crumb} {s : State}
    (hsc : s.ex.score = some sc) (hres : s.pwr.inReset = false)
    (hunit : siteUnit (coreOf s half core) (unitNo unit) = some r) (hc : sc.crumbs[r.crumb]? = some c) :
    exec (.crumbRetire half core unit) s = .next
      (if (!writesDone s (crumbUnit s (coreSiteKey s half core) c)) = true then fresh s
      else sendOutputs sc c true (withSite (coreSiteKey s half core)
        (setUnit (unitNo unit) none (siteAt s (coreSiteKey s half core))) (fresh s))) := by
  have hgo : ¬(fresh s).pwr.inReset = true := by
    change ¬s.pwr.inReset = true
    simp [hres]
  change execCrumbRetire half core unit s = _
  unfold execCrumbRetire onScore
  dsimp only
  rw [if_neg hgo, show (fresh s).ex.score = some sc from hsc]
  dsimp only
  rw [show siteUnit (siteAt (fresh s) (coreSiteKey (fresh s) half core)) (unitNo unit) = some r from hunit]
  dsimp only
  rw [hc]
  rfl

theorem exec_commitGatedRetire {half core i : Nat} {sc : Score} {c : Crumb} {q : Seq} {s : State}
    (hsc : s.ex.score = some sc) (hworks : halfWorks s half = true) (hhead : headOf sc s half core = some (i, c, q))
    (hdue : c.gated = true ∧ s.ex.step.commit = some false ∧ inputsMet s c.inputs = true) :
    exec (.commitGatedRetire half core) s = .next (retireHead sc half core c i q (fresh s)) := by
  have hgo : ¬(!halfWorks (fresh s) half) = true := by
    change ¬(!halfWorks s half) = true
    simp [hworks]
  change execCommitGatedRetire half core s = _
  unfold execCommitGatedRetire onScore
  dsimp only
  rw [if_neg hgo, show (fresh s).ex.score = some sc from hsc]
  dsimp only
  rw [show headOf sc (fresh s) half core = some (i, c, q) from hhead]
  exact congrArg Host.Outcome.next (if_pos hdue)

theorem exec_padElision {half core i : Nat} {sc : Score} {c : Crumb} {q : Seq} {s : State}
    (hsc : s.ex.score = some sc) (hworks : halfWorks s half = true) (hhead : headOf sc s half core = some (i, c, q))
    (hdue : elides s c = true ∧ inputsMet s c.inputs = true) :
    exec (.padElision half core) s = .next (bump 0x2013 2 1 (withStep (fun x => { x with elided := x.elided + 1 })
      (retireHead sc half core c i q (fresh s)))) := by
  have hgo : ¬(!halfWorks (fresh s) half) = true := by
    change ¬(!halfWorks s half) = true
    simp [hworks]
  change execPadElision half core s = _
  unfold execPadElision onScore
  dsimp only
  rw [if_neg hgo, show (fresh s).ex.score = some sc from hsc]
  dsimp only
  rw [show headOf sc (fresh s) half core = some (i, c, q) from hhead]
  exact congrArg Host.Outcome.next (if_pos hdue)

/-- The list of the sibling without its tail. -/
def tailTaken (core : Nat) (q : Seq) : Seq := { q with unfired := q.unfired.dropLast, lastThief := core % 8 }

theorem exec_stealing {half core : Nat} {errs : List StoreErr} {sc : Score} {s : State} (hsc : s.ex.score = some sc) :
    exec (.stealing half ⟨core, errs⟩) s = .next (if (!halfWorks s half) = true then fresh s
      else match thiefClaim sc s half core with
        | none => fresh s
        | some (b, i, c) =>
          if (ownerClaims sc s half b || servedThief sc s half b != some core) = true then fresh s
          else refillPrefetch sc half b (fireCrumb sc half core i b c errs (bump 0x2013 1 1
            (setList sc half b (tailTaken core (seqOf s half b)) (fresh s))))) := by
  change execStealing half ⟨core, errs⟩ s = _
  unfold execStealing onScore
  dsimp only
  rw [show (fresh s).ex.score = some sc from hsc]
  rfl

/-! ## Heads that retire unexecuted (R64, R65) -/

theorem retireHead_leaves (sc : Score) (half core : Nat) (c : Crumb) (i : Nat) (q : Seq) (s : State) :
    seqOf (retireHead sc half core c i q s) half core = q ∧ (retireHead sc half core c i q s).ex.spent = s.ex.spent ∧
      (retireHead sc half core c i q s).sites = s.sites := by
  have hlists : listsOf (retireHead sc half core c i q s) = listsOf (withSeq half core q s) := by
    unfold retireHead
    rw [refillPrefetch_listsOf, endPrefetch_listsOf, sendOutputs_listsOf, listsOf_setList]
  have hkeeps : Keeps 128 s (retireHead sc half core c i q s) := by simp
  exact ⟨(seqOf_of_listsOf hlists half core).trans (seqOf_withSeq_same half core q s),
    spent_of_listsOf (s := withSeq half core q s) hlists,
    hkeeps.sites (by decide)⟩

theorem seqOf_of_seqs {s t : State} (h : t.ex.seqs = s.ex.seqs) (half core : Nat) :
    seqOf t half core = seqOf s half core := by
  unfold seqOf
  rw [h]

end Sys2Proof.Machine

open Sys2Proof Sys2Proof.Machine

/-- Settles O19, by what a firing and a retiring crumb leave. -/
theorem crumbsFireAndRetire : Obligations.CrumbsFireAndRetire := by
  unfold Obligations.CrumbsFireAndRetire
  refine ⟨fun half core i errs sc c q s hsc hworks hhead hready helides hcan => ?fires,
    fun half core i errs sc c q s hsc hhead hready => ?waits,
    fun half core unit sc r c s hsc hres hunit hc => ⟨fun hdone => ?retires, fun hdone => ?stays⟩⟩
  case fires =>
    have hexec := exec_crumbFire (errs := errs) hsc hhead
    rw [if_neg (by simp [hworks]), if_pos (by simp [hready, helides, hcan])] at hexec
    have hlists := listsOf_setList sc half core q (fresh s)
    have hkeeps : Keeps 982313 s (refillPrefetch sc half core (fireCrumb sc half core i core c errs
        (setList sc half core q (fresh s)))) := by simp
    have hid : stepId (refillPrefetch sc half core (fireCrumb sc half core i core c errs
        (setList sc half core q (fresh s)))) = stepId (fresh s) := by simp
    obtain ⟨r, hi, ho, hr, hfired⟩ := fired_leaves sc half core core i core c errs (setList sc half core q (fresh s))
    generalize refillPrefetch sc half core _ = t at hexec hkeeps hid hr hfired
    have hseqs : t.ex.seqs = (withSeq half core q (fresh s)).ex.seqs :=
      (congrArg Prod.fst hfired).trans (congrArg Prod.fst hlists)
    have hspent : t.ex.spent = spentAfter c s.ex.spent :=
      (congrArg (fun l => l.2.1) hfired).trans (congrArg (spentAfter c) (spent_of_listsOf hlists))
    exact ⟨t, r, hexec, hr, hi, ho, (seqOf_of_seqs hseqs _ _).trans (seqOf_withSeq_same _ _ _ _),
      fun h k hne => (seqOf_of_seqs hseqs _ _).trans (seqOf_withSeq_other _ _ hne), hspent, hid,
      unchanged_of_covered hkeeps rfl⟩
  case waits =>
    have hexec := exec_crumbFire (errs := errs) hsc hhead
    rw [if_neg (c := (_ && _ && _) = true) (by simp [hready]), ite_self] at hexec
    exact hexec
  case retires =>
    have hexec := exec_crumbRetire hsc hres hunit hc
    rw [if_neg (by simp [hdone])] at hexec
    have htokens : ∀ (o : TokRef) (d : TokDecl), c.outputs = [o] → sc.tokens.find? (fun x => x.id == o.tok) = some d →
        d.die = 4 + c.half / 2 → d.ep = c.half % 2 → _ :=
      fun o d ho hd hdie hep => tokenCount_sendOutputs_home true (withSite (coreSiteKey s half core)
        (setUnit (unitNo unit) none (siteAt s (coreSiteKey s half core))) (fresh s)) ho hd hdie hep
    have hkeeps : Keeps 1048365 s (sendOutputs sc c true (withSite (coreSiteKey s half core)
        (setUnit (unitNo unit) none (siteAt s (coreSiteKey s half core))) (fresh s))) := by simp
    have hsites : Keeps 524672 (withSite (coreSiteKey s half core)
        (setUnit (unitNo unit) none (siteAt s (coreSiteKey s half core))) (fresh s))
        (sendOutputs sc c true (withSite (coreSiteKey s half core)
          (setUnit (unitNo unit) none (siteAt s (coreSiteKey s half core))) (fresh s))) := by simp
    have hlists : listsOf (sendOutputs sc c true (withSite (coreSiteKey s half core)
        (setUnit (unitNo unit) none (siteAt s (coreSiteKey s half core))) (fresh s))) = listsOf (fresh s) := by simp
    have hid : stepId (sendOutputs sc c true (withSite (coreSiteKey s half core)
        (setUnit (unitNo unit) none (siteAt s (coreSiteKey s half core))) (fresh s))) = stepId (fresh s) := by simp
    generalize sendOutputs sc c true _ = t at hexec htokens hkeeps hsites hlists hid
    have hcore : coreOf t half core = setUnit (unitNo unit) none (coreOf s half core) := by
      rw [coreOf_of_sites (hsites.sites (by decide)) (hsites.siteMap (by decide)) (hsites.test (by decide))]
      exact siteAt_withSite_same _ _ _
    refine ⟨t, hexec, ?_, fun u hu => ?_, htokens, hlists, hid, unchanged_of_covered hkeeps rfl⟩
    · rw [hcore, siteUnit_setUnit, if_pos rfl]
    · rw [hcore, siteUnit_setUnit, if_neg hu]
  case stays =>
    have hexec := exec_crumbRetire hsc hres hunit hc
    rw [if_pos (by simp [hdone])] at hexec
    exact hexec

/-- Settles O20, by what a head that retires unexecuted and a stolen tail leave. -/
theorem headsRetireUnexecutedOrAreStolen : Obligations.HeadsRetireUnexecutedOrAreStolen := by
  unfold Obligations.HeadsRetireUnexecutedOrAreStolen
  refine ⟨fun half core i sc c q s hsc hcanon hworks hhead hin hgated hskip => ?gated,
    fun half core i sc c q s hsc hcanon hworks hhead hin helides => ?padded,
    fun half core b i errs sc c s hsc hworks hclaim howner hserved => ?stolen,
    fun half core errs sc s hsc hno => ?unclaimed⟩
  case gated =>
    have hexec := exec_commitGatedRetire hsc hworks hhead ⟨hgated, hskip, hin⟩
    obtain ⟨hq, hspent, hsites⟩ := retireHead_leaves sc half core c i q (fresh s)
    have hbytes := (bytesKept_retireHead sc half core c i q (fresh s)).bytes
    have hkeeps : Keeps 982441 s (retireHead sc half core c i q (fresh s)) := by simp
    exact ⟨_, hexec, hq, hspent, hsites, hbytes (fresh_canon _ ((canon_iff s).mpr hcanon)), unchanged_of_covered hkeeps rfl⟩
  case padded =>
    have hexec := exec_padElision hsc hworks hhead ⟨helides, hin⟩
    obtain ⟨hq, hspent, hsites⟩ := retireHead_leaves sc half core c i q (fresh s)
    have hbytes := (bytesKept_retireHead sc half core c i q (fresh s)).bytes
    have hcount : RgK 512 (fresh s) (retireHead sc half core c i q (fresh s)) := by simp
    have hkeeps : Keeps 982441 s (bump 0x2013 2 1 (withStep (fun x => { x with elided := x.elided + 1 })
      (retireHead sc half core c i q (fresh s)))) := by simp
    generalize retireHead sc half core c i q (fresh s) = t at hexec hq hspent hsites hbytes hcount hkeeps
    have hbumped : rg (bump 0x2013 2 1 (withStep (fun x => { x with elided := x.elided + 1 }) t)) 0x2013 2 =
        satAdd (sizeOf_ 0x2013 2) (rg t 0x2013 2) 1 := rg_withRg_same ..
    rw [hcount 0x2013 2 (by decide)] at hbumped
    exact ⟨_, hexec, hq, hspent, hbumped, hsites, hbytes (fresh_canon _ ((canon_iff s).mpr hcanon)), unchanged_of_covered hkeeps rfl⟩
  case stolen =>
    have hexec := exec_stealing (half := half) (core := core) (errs := errs) hsc
    rw [if_neg (by simp [hworks]), hclaim] at hexec
    dsimp only at hexec
    rw [if_neg (by simp [howner, hserved])] at hexec
    have hlists := listsOf_setList sc half b (tailTaken core (seqOf s half b)) (fresh s)
    have hcount : RgK 512 (fresh s) (setList sc half b (tailTaken core (seqOf s half b)) (fresh s)) := by simp
    have hkeeps : Keeps 982313 s (refillPrefetch sc half b (fireCrumb sc half core i b c errs (bump 0x2013 1 1
        (setList sc half b (tailTaken core (seqOf s half b)) (fresh s))))) := by simp
    have hid : stepId (refillPrefetch sc half b (fireCrumb sc half core i b c errs (bump 0x2013 1 1
        (setList sc half b (tailTaken core (seqOf s half b)) (fresh s))))) = stepId (fresh s) := by simp
    have hcounted : RgK 512 (bump 0x2013 1 1 (setList sc half b (tailTaken core (seqOf s half b)) (fresh s)))
        (refillPrefetch sc half b (fireCrumb sc half core i b c errs (bump 0x2013 1 1
        (setList sc half b (tailTaken core (seqOf s half b)) (fresh s))))) := by simp
    obtain ⟨r, hi, ho, hr, hfired⟩ := fired_leaves sc half core b i b c errs
      (bump 0x2013 1 1 (setList sc half b (tailTaken core (seqOf s half b)) (fresh s)))
    generalize refillPrefetch sc half b _ = t at hexec hkeeps hid hr hfired hcounted
    have hseqs : t.ex.seqs = (withSeq half b (tailTaken core (seqOf s half b)) (fresh s)).ex.seqs :=
      (congrArg Prod.fst hfired).trans (congrArg Prod.fst hlists)
    have hspent : t.ex.spent = spentAfter c s.ex.spent :=
      (congrArg (fun l => l.2.1) hfired).trans (congrArg (spentAfter c) (spent_of_listsOf hlists))
    have hbumped : rg t 0x2013 1 = satAdd (sizeOf_ 0x2013 1) (rg s 0x2013 1) 1 := by
      rw [hcounted 0x2013 1 (by decide)]
      refine (rg_withRg_same ..).trans ?_
      rw [hcount 0x2013 1 (by decide)]
      rfl
    exact ⟨t, r, hexec, hr, hi, ho, (seqOf_of_seqs hseqs _ _).trans (seqOf_withSeq_same _ _ _ _), hspent, hbumped, hid,
      unchanged_of_covered hkeeps rfl⟩
  case unclaimed =>
    have hexec := exec_stealing (half := half) (core := core) (errs := errs) hsc
    refine hexec.trans (congrArg Host.Outcome.next ?_)
    split
    · rfl
    · rcases hno with h | ⟨b, i, c, h, hunserved⟩
      · rw [h]
        rfl
      · rw [h]
        exact if_pos (by simpa using hunserved)

end

section
/-! A host copy that fills a write-combining entry of no quadrant, refuted (spec/06_tensor_copy.md, Host copies). -/

namespace Sys2Proof.Machine

/-- A load of one byte to address 0, from buffer 0 at offset 256. -/
def byteLoad : HostCopy where
  load := true
  buffer := 0
  offset := 256
  desc :=
    { addr := 0, space := 0, reserved := 0, esize := 0, rank := 1, materialize := false, listMode := false,
      flagsHigh := 0, listA := 0xFF, listB := 0xFF, listDesc := 0, pad := 0, limA := 0, limB := 0, dims := [] }
  lo := 0
  len := 1

/-- The write of 0x4800:01 that asked for the load. -/
def byteLoadWrite : PendWrite := ⟨.hostCopy, ⟨1, 7⟩, [], [], [], []⟩

/-- A write-combining entry that holds the whole of line 0, in a controller beyond the four quadrants'. -/
def strayEntry : WcEntry := ⟨400, 0, (List.range 256).map (fun i => (i, 0)), 0, 0, false⟩

/-- A module in Run with block 20 enabled, the load in progress and the stray entry. The byte counter that a fifth
quadrant would have does not read as the counter of no size that it is. -/
def strayLoad : State :=
  { regs := [(keyOf 0x4021 6, 5), (keyOf 0xA001 21, 3)]
    ring := { bypassOpen := true }
    mem := { trained := true, hostCopy := some byteLoad, wc := [strayEntry] }
    sec := { pend := [byteLoadWrite] }
    pwr := { cur := .run } }

/-- The value of an element in a command's next state. -/
def elementAfter (i j : Nat) (o : Out) : Nat :=
  match o with
  | .next t => rg t i j
  | _ => 0

theorem strayLoad_canonical : strayLoad.canonical :=
  ⟨by decide, by decide, ⟨by decide, fun _ h => absurd h List.not_mem_nil⟩, ⟨by decide +kernel, by decide⟩,
    fun _ h => absurd h List.not_mem_nil⟩

/-- The entry is full once the byte is written; it retires, and its access is charged to the element after the last
quadrant's. -/
theorem strayLoad_charges : elementAfter 0x4021 6 (exec .hostCopyComplete strayLoad) = 0 := by decide +kernel

end Sys2Proof.Machine

open Sys2Proof Sys2Proof.Machine

/-- Refutes O23: its last clause has a host copy count its HBM bytes in the elements 1 to 4 of 0x4021 alone, on every
canonical state. The canonical form does not bound the controller of a write-combining entry, and a full entry whose
controller is in no quadrant charges an element beyond them. -/
theorem not_copiesMoveTheirElements : ¬ Obligations.CopiesMoveTheirElements := by
  intro h
  obtain ⟨-, -, -, hhost⟩ := h
  obtain ⟨t, hexec, -, -, -, -, -, -, hregs, -⟩ := hhost byteLoad byteLoadWrite strayLoad strayLoad_canonical rfl
    (by decide) (by decide +kernel) rfl rfl rfl
  have hafter := strayLoad_charges
  rw [hexec] at hafter
  have hkept : rg t 0x4021 6 = 5 := hregs 0x4021 6 (by decide) (by decide) (by decide) (by decide) (by decide)
  exact absurd (hkept.symm.trans hafter) (by decide)

end

section
/-! The segments of a memory stream (spec/07_memory.md, Prefetchers and memory streams). -/

namespace Sys2Proof.Machine

/-- What a segment's start leaves: the stream runs, its list and the segment's lines are read. -/
def segmentRead (k : Nat) (sc : Score) (x : StreamDecl) (s : State) : State :=
  (segmentLines s sc x (streamOf s k).doneSegs).foldl (readStreamLine x)
    (readStreamList sc x (withStream k { streamOf s k with running := true } s))

/-- What a segment's end leaves: its lines are installed, the segment counted, its tokens sent. -/
def segmentTaken (k : Nat) (sc : Score) (x : StreamDecl) (s : State) : State :=
  deliver sc (4 + runnerOf x) 0x7FF x.outputs
    (withStream k { streamOf s k with doneSegs := (streamOf s k).doneSegs + 1, running := false }
      ((segmentLines s sc x (streamOf s k).doneSegs).foldl (installStreamLine x) s))

theorem exec_streamSegmentStart {k : Nat} {sc : Score} {x : StreamDecl} {s : State} (hsc : s.ex.score = some sc)
    (hx : sc.streams[k]? = some x) (hworks : stepWorks s = true) (hclock : s.ring.clock = true)
    (hidle : (streamOf s k).running = false) (hleft : (streamOf s k).doneSegs < x.segments)
    (hgate : gated s (runnerOf x) = false) (hready : segmentReady s x (streamOf s k).doneSegs = true)
    (hopen : segmentOpen s x (segmentLines s sc x (streamOf s k).doneSegs) = true) :
    exec (.streamSegmentStart k) s = .next (segmentRead k sc x (fresh s)) := by
  change execStreamSegmentStart k s = _
  unfold execStreamSegmentStart onScore
  dsimp only
  rw [if_neg (by rw [show stepWorks (fresh s) = true from hworks, show (fresh s).ring.clock = true from hclock]; decide),
    show (fresh s).ex.score = some sc from hsc]
  dsimp only
  rw [hx]
  dsimp only
  refine congrArg Host.Outcome.next (if_neg ?_)
  rw [show (streamOf (fresh s) k).running = false from hidle, show gated (fresh s) (runnerOf x) = false from hgate,
    show segmentReady (fresh s) x (streamOf (fresh s) k).doneSegs = true from hready,
    show segmentOpen (fresh s) x (segmentLines (fresh s) sc x (streamOf (fresh s) k).doneSegs) = true from hopen]
  simpa [show streamOf (fresh s) k = streamOf s k from rfl] using hleft

theorem exec_streamSegmentComplete {k : Nat} {sc : Score} {x : StreamDecl} {s : State} (hsc : s.ex.score = some sc)
    (hx : sc.streams[k]? = some x) (hreset : s.pwr.inReset = false) (hrun : (streamOf s k).running = true) :
    exec (.streamSegmentComplete k) s = .next (segmentTaken k sc x (fresh s)) := by
  change execStreamSegmentComplete k s = _
  unfold execStreamSegmentComplete onScore
  dsimp only
  rw [if_neg (by rw [show (fresh s).pwr.inReset = false from hreset]; decide),
    show (fresh s).ex.score = some sc from hsc]
  dsimp only
  rw [hx]
  dsimp only
  refine congrArg Host.Outcome.next (if_neg ?_)
  rw [show (streamOf (fresh s) k).running = true from hrun]
  decide

/-! ## Streams -/

theorem streamOf_withStream_other {k i : Nat} (r : StreamRun) (s : State) (h : i ≠ k) :
    streamOf (withStream k r s) i = streamOf s i := at_set_other _ _ _ _ _ h

theorem streamOf_of_listsOf {s t : State} (h : listsOf t = listsOf s) (i : Nat) : streamOf t i = streamOf s i :=
  congrArg (fun l : _ × _ × _ × List (Nat × StreamRun) => at_ ({} : StreamRun) i l.2.2.2) h

theorem engines_of_listsOf {s t : State} (h : listsOf t = listsOf s) : t.ex.engines = s.ex.engines :=
  congrArg (fun l => l.2.2.1) h

/-! ## The reads of a segment -/

theorem bytesKept_readPieces (u : Agent) (fill : Option Nat) (ps : List Piece) (s : State) :
    BytesKept s (readPieces u fill ps s) :=
  bytesKept_foldl (fun v (r : Nat × Nat) => bytesKept_readRange u fill r.1 r.2 v) _ _

theorem bytesKept_readStreamList (sc : Score) (x : StreamDecl) (s : State) : BytesKept s (readStreamList sc x s) := by
  unfold readStreamList
  dsimp only
  split
  · exact (bytesKept_poisonRead _ s).trans (bytesKept_readPieces ..)
  · exact bytesKept_readPieces ..

theorem bytesKept_readStreamLine (x : StreamDecl) (s : State) (line : Nat) : BytesKept s (readStreamLine x s line) := by
  unfold readStreamLine
  dsimp only
  split
  · exact (bytesKept_readLine ..).trans (bytesKept_poisonRead ..)
  · exact bytesKept_readLine ..

theorem bytesKept_withStream (k : Nat) (r : StreamRun) (s : State) : BytesKept s (withStream k r s) :=
  bytesKept_of_mem (fun h => ⟨h.regs, h.cells, h.msc, h.wc, h.waits⟩) rfl

theorem bytesKept_segmentRead (k : Nat) (sc : Score) (x : StreamDecl) (s : State) : BytesKept s (segmentRead k sc x s) :=
  ((bytesKept_withStream k _ s).trans (bytesKept_readStreamList sc x _)).trans
    (bytesKept_foldl (fun u l => bytesKept_readStreamLine x u l) _ _)

theorem listsOf_segmentRead (k : Nat) (sc : Score) (x : StreamDecl) (s : State) :
    listsOf (segmentRead k sc x s) = listsOf (withStream k { streamOf s k with running := true } s) := by
  simp [segmentRead]

theorem stepId_segmentRead (k : Nat) (sc : Score) (x : StreamDecl) (s : State) : stepId (segmentRead k sc x s) = stepId s := by
  simp [segmentRead]

/-! ## The lines of a segment installed -/

theorem bytesKept_installLine (line d : Nat) (s : State) : BytesKept s (installLine line d s) :=
  ⟨fun h => by simp [h], fun _ x => byteAt_installLine line d x s⟩

theorem bytesKept_installStreamLine (x : StreamDecl) (s : State) (line : Nat) : BytesKept s (installStreamLine x s line) := by
  refine ⟨installStreamLine_canon x s line, fun hc a => ?_⟩
  unfold installStreamLine
  split
  · exact (bytesKept_foldl (fun u d => bytesKept_installLine line d u) _ s).bytes hc a
  · split
    · rfl
    · next hmiss => exact byteAt_mscInstall_empty _ _ hc.msc (Option.not_isSome_iff_eq_none.mp hmiss)

theorem bytesKept_segmentTaken (k : Nat) (sc : Score) (x : StreamDecl) (s : State) : BytesKept s (segmentTaken k sc x s) :=
  ((bytesKept_foldl (fun u l => bytesKept_installStreamLine x u l) _ _).trans (bytesKept_withStream k _ _)).trans
    (bytesKept_of_keeps (deliver_canon sc (4 + runnerOf x) 0x7FF x.outputs _) ((deliver_keeps _ _ _ _ _ (by decide)).mpr (Keeps.refl _ _)))

/-- A line's slice is one of sixteen, so the slices of two dies are two. -/
theorem shSlice_lt (line : Nat) : shSlice line < 16 := Nat.mod_lt _ (by decide)

theorem shLines_withShLines_same (d line : Nat) (l : List Nat) (s : State) : shLines (withShLines d line l s) d line = l :=
  at_set_same ..

theorem shLines_withShLines_other {d e : Nat} (line k : Nat) (l : List Nat) (s : State) (hne : e ≠ d) :
    shLines (withShLines d line l s) e k = shLines s e k := by
  refine at_set_other _ _ _ _ _ fun h => hne ?_
  have := shSlice_lt line
  have := shSlice_lt k
  omega

theorem resident_installLine_same (line d : Nat) (s : State) : resident (installLine line d s) d line = true := by
  unfold resident installLine
  dsimp only
  rw [shLines_withShLines_same]
  simp

theorem shLines_shRoom_other {d e : Nat} (line k : Nat) (s : State) (hne : e ≠ d) :
    shLines (shRoom d line s) e k = shLines s e k := by
  unfold shRoom
  dsimp only
  split
  · rfl
  · split
    · rfl
    · exact shLines_withShLines_other _ _ _ (drawn s) hne

theorem resident_installLine_other {d e : Nat} (line k : Nat) (s : State) (hne : e ≠ d) :
    resident (installLine line d s) e k = resident s e k := by
  unfold resident installLine
  dsimp only
  rw [shLines_withShLines_other _ _ _ _ hne, shLines_shRoom_other _ _ _ hne]

theorem resident_installLine_of_resident {e : Nat} (line d : Nat) {s : State} (h : resident s e line = true) :
    resident (installLine line d s) e line = true := by
  by_cases hd : e = d
  · rw [hd]
    exact resident_installLine_same line d s
  · rw [resident_installLine_other _ _ _ hd, h]

/-- Installed in one die after another, the line is in each. -/
theorem resident_installs {e line : Nat} (dies : List Nat) (s : State) (h : e ∈ dies ∨ resident s e line = true) :
    resident (dies.foldl (fun s d => installLine line d s) s) e line = true := by
  induction dies generalizing s with
  | nil => exact h.resolve_left List.not_mem_nil
  | cons d dies ih =>
    refine ih _ ?_
    rcases h with h | h
    · rcases List.mem_cons.mp h with h | h
      · rw [← h]
        exact .inr (resident_installLine_same _ _ _)
      · exact .inl h
    · exact .inr (resident_installLine_of_resident _ _ h)

theorem resident_installStreamLine {d line : Nat} {x : StreamDecl} (s : State) (hx : x.target = 0) (hd : d < 12)
    (hmask : x.mask.testBit d = true) : resident (installStreamLine x s line) d line = true := by
  unfold installStreamLine
  rw [if_pos hx]
  exact resident_installs _ _ (.inl (List.mem_filter.mpr ⟨List.mem_range.mpr hd, hmask⟩))

theorem mscLine_installStreamLine {line : Nat} {x : StreamDecl} (s : State) (hx : x.target ≠ 0) :
    (mscLine (installStreamLine x s line) line).isSome = true := by
  unfold installStreamLine
  rw [if_neg hx]
  split
  · assumption
  · unfold mscLine mscInstall
    rw [lookup_put_same]
    rfl

theorem mem_segmentTaken (k : Nat) (sc : Score) (x : StreamDecl) (s : State) :
    (segmentTaken k sc x s).mem = ((segmentLines s sc x (streamOf s k).doneSegs).foldl (installStreamLine x) s).mem :=
  (show Keeps 512 (withStream k { streamOf s k with doneSegs := (streamOf s k).doneSegs + 1, running := false }
    ((segmentLines s sc x (streamOf s k).doneSegs).foldl (installStreamLine x) s)) (segmentTaken k sc x s) by
      simp [segmentTaken]).mem (by decide)

theorem listsOf_segmentTaken (k : Nat) (sc : Score) (x : StreamDecl) (s : State) :
    listsOf (segmentTaken k sc x s) =
      listsOf (withStream k { streamOf s k with doneSegs := (streamOf s k).doneSegs + 1, running := false } s) := by
  have h : listsOf ((segmentLines s sc x (streamOf s k).doneSegs).foldl (installStreamLine x) s) = listsOf s := by simp
  have hstreams := congrArg (fun l : _ × _ × _ × List (Nat × StreamRun) => (l.1, l.2.1, l.2.2.1,
    set_ {} k { streamOf s k with doneSegs := (streamOf s k).doneSegs + 1, running := false } l.2.2.2)) h
  exact (deliver_listsOf ..).trans hstreams

theorem stepId_segmentTaken (k : Nat) (sc : Score) (x : StreamDecl) (s : State) : stepId (segmentTaken k sc x s) = stepId s := by
  simp [segmentTaken]

end Sys2Proof.Machine

open Sys2Proof Sys2Proof.Machine

/-- Settles O24, by what the reads of a segment and its installed lines leave. -/
theorem streamSegmentsFillTheirTargets : Obligations.StreamSegmentsFillTheirTargets := by
  unfold Obligations.StreamSegmentsFillTheirTargets
  refine ⟨fun k sc x s hsc hcanon hx hworks hclock hidle hleft hgate hready hopen => ?starts,
    fun k sc x s hsc hcanon hx hreset hrun => ?fills⟩
  case starts =>
    have hexec := exec_streamSegmentStart hsc hx hworks hclock hidle hleft hgate hready hopen
    have hlists := listsOf_segmentRead k sc x (fresh s)
    exact ⟨_, hexec, (streamOf_of_listsOf hlists k).trans (streamOf_withStream_same ..),
      fun i hi => (streamOf_of_listsOf hlists i).trans (streamOf_withStream_other _ _ hi), (engines_of_listsOf hlists).trans rfl,
      stepId_segmentRead k sc x (fresh s),
      (bytesKept_segmentRead k sc x (fresh s)).bytes (fresh_canon _ ((canon_iff s).mpr hcanon)), exec_unchanged hexec⟩
  case fills =>
    have hexec := exec_streamSegmentComplete hsc hx hreset hrun
    have hlists := listsOf_segmentTaken k sc x (fresh s)
    have hmem := mem_segmentTaken k sc x (fresh s)
    refine ⟨_, hexec, (streamOf_of_listsOf hlists k).trans (streamOf_withStream_same ..),
      fun i hi => (streamOf_of_listsOf hlists i).trans (streamOf_withStream_other _ _ hi), (engines_of_listsOf hlists).trans rfl,
      stepId_segmentTaken k sc x (fresh s), fun l hl htarget d hd hmask => ?_, fun l hl htarget => ?_,
      (bytesKept_segmentTaken k sc x (fresh s)).bytes (fresh_canon _ ((canon_iff s).mpr hcanon)),
      fun i j hi hj => exec_objects rfl hexec j (by simp [hi, hj]), exec_unchanged hexec⟩
    · rw [show segmentLines (fresh s) sc x (streamOf (fresh s) k).doneSegs = [l] from hl] at hmem
      exact (congrArg (fun m : Memory => (at_ [] (16 * d + shSlice l) m.shared).contains l) hmem).trans
        (resident_installStreamLine (fresh s) htarget hd hmask)
    · rw [show segmentLines (fresh s) sc x (streamOf (fresh s) k).doneSegs = [l] from hl] at hmem
      exact (congrArg (fun m : Memory => (lookup l m.msc).isSome) hmem).trans
        (mscLine_installStreamLine (fresh s) htarget)

end

section
/-! The verdict point and the pair digests (spec/05_training_numerics.md, The step verdict; spec/12_resilience.md). -/

namespace Sys2Proof.Machine

/-! ## The stages of the verdict point -/

/-- The indicators captured and cleared, and noted in the step (R146). -/
def pointCaptured (sc : Score) (s : State) : State :=
  withStep (fun t => { t with overflow := t.overflow || (captureIndicators sc s).1 }) (captureIndicators sc s).2

/-- The flag word formed (R149). -/
def pointWorded (sc : Score) (u : State) : State :=
  withStep (fun t => { t with
    ownWord := flagWord u.ex.step.num u.ex.scale.e u.ex.scale.c (u.ex.step.transferErr || u.ex.step.dataErr.isSome)
      (u.ex.step.overflow || bucketOverflow sc u)
    forced := false }) u

/-- A forced void where the step has an error (R355, R356). -/
def pointForced (x : Step) (s : State) : State :=
  match x.dataErr with
  | some c => forcedVoid c s
  | none => if 3 ≤ x.replays ∧ x.transferErr then forcedVoid 0x03500003 s else s

/-- The word contributed, or the digest sent to the partner and settled where the partner's is there. -/
def pointShared (sc : Score) (x : Step) (d : W32) (s : State) : State :=
  match (partnerAffine s.regs (ownAffine s)).map (resolved s) with
  | none => contribute sc s
  | some p =>
    let s := sendControl ((partnerAffine s.regs (ownAffine s)).getD 0) 9
      (pairKf ⟨nodeAddr s, roundOf s, x.replays, d, scoreTag s⟩) (withStep (fun t => { t with phase := .waitingPartner }) s)
    match s.res.partner with
    | some (r, n, y) => if r = roundOf s ∧ n = x.replays then settlePair sc p y.toNat s else s
    | none => s

/-- The state in which a hold-commit takes hold. -/
def pointFormed (sc : Score) (s : State) : State :=
  pointForced (pointCaptured sc s).ex.step (pointWorded sc (pointCaptured sc s))

theorem verdictPoint_eq (sc : Score) (s : State) :
    verdictPoint sc s = pointShared sc (pointCaptured sc s).ex.step (pairDigest sc (holdCommit (pointFormed sc s)))
      (withRg 0x8020 3 (pairDigest sc (holdCommit (pointFormed sc s))).toNat (holdCommit (pointFormed sc s))) := rfl

theorem exec_verdictPoint {sc : Score} {s : State} (hsc : s.ex.score = some sc) (hworks : stepWorks s = true)
    (hopen : s.ex.step.phase = .open) (hdone : preCommitDone sc s = true) (hverified : bucketsVerified sc s = true) :
    exec .verdictPoint s = .next (verdictPoint sc (fresh s)) := by
  change execVerdictPoint s = _
  unfold execVerdictPoint onScore
  dsimp only
  rw [if_neg (by rw [show stepWorks (fresh s) = true from hworks, show (fresh s).ex.step.phase = .open from hopen]; decide),
    show (fresh s).ex.score = some sc from hsc]
  dsimp only
  refine congrArg Host.Outcome.next (if_pos ?_)
  rw [show preCommitDone sc (fresh s) = true from hdone, show bucketsVerified sc (fresh s) = true from hverified]
  rfl

/-! ## The indicators -/

theorem siteAt_cleared (ks : List Nat) (k : Nat) (s : State) :
    siteAt (ks.foldl (fun s k => withSite k (clearIndicators (siteAt s k)) s) s) k =
      if k ∈ ks then clearIndicators (siteAt s k) else siteAt s k := by
  induction ks generalizing s with
  | nil => rfl
  | cons n ks ih =>
    rw [List.foldl_cons, ih]
    by_cases hk : k = n
    · rw [hk, siteAt_withSite_same, if_pos List.mem_cons_self]
      split
      · rfl
      · rfl
    · rw [siteAt_withSite_other _ _ hk]
      simp only [List.mem_cons, hk, false_or]

theorem siteAt_of_sites {s t : State} (h : t.sites = s.sites) (k : Nat) : siteAt t k = siteAt s k :=
  congrArg (at_ ({} : Site) k) h

theorem pointCaptured_ex (sc : Score) (s : State) :
    (pointCaptured sc s).ex =
      { s.ex with step := { s.ex.step with overflow := s.ex.step.overflow || (captureIndicators sc s).1 } } := by
  have h : Keeps 64 s (captureIndicators sc s).2 := by simp
  unfold pointCaptured withStep
  dsimp only
  rw [h.ex (by decide)]

theorem pointCaptured_keeps (sc : Score) (s : State) : Keeps 1048383 s (pointCaptured sc s) := by
  simp [pointCaptured]

theorem siteAt_pointCaptured (sc : Score) (s : State) (k : Nat) :
    siteAt (pointCaptured sc s) k =
      if k ∈ crumbSites sc s then clearIndicators (siteAt s k) else siteAt s k := siteAt_cleared ..

/-! ## The stages after the flag word -/

/-- What the later stages leave of the step: its indicator and its hold. -/
def marksOf (e : Exec) : Bool × Option Nat := (e.step.overflow, e.step.heldFrom)

/-- The marks of a state's step. -/
def stepMarks (s : State) : Bool × Option Nat := marksOf s.ex

theorem stepMarks_of_ex {s t : State} (h : t.ex = s.ex) : stepMarks t = stepMarks s :=
  congrArg marksOf h

theorem startPraline_ex (sc : Score) (coll op : Nat) (value : W64) (s : State) :
    (startPraline sc coll op value s).ex = s.ex := (show Keeps 64 s _ by simp).ex (by decide)

theorem contribute_ex (sc : Score) (s : State) :
    (contribute sc s).ex = { s.ex with step := { s.ex.step with phase := .reducing } } := startPraline_ex ..

theorem forcedVoid_ex (cause : W32) (s : State) :
    (forcedVoid cause s).ex =
      { s.ex with step := { s.ex.step with forced := true, ownWord := forceVoid s.ex.step.ownWord } } := by
  have h : Keeps 64 (withStep (fun t => { t with forced := true, ownWord := forceVoid t.ownWord }) s) (forcedVoid cause s) := by
    simp [forcedVoid]
  exact h.ex (by decide)

theorem stepMarks_contribute (sc : Score) (s : State) : stepMarks (contribute sc s) = stepMarks s :=
  (congrArg marksOf (contribute_ex sc s)).trans rfl

theorem stepMarks_forcedVoid (cause : W32) (s : State) : stepMarks (forcedVoid cause s) = stepMarks s :=
  (congrArg marksOf (forcedVoid_ex cause s)).trans rfl

/-- The partner's digest taken: reported, and no longer awaited. -/
def digestTaken (digest : Nat) (s : State) : State := withRg 0x8020 4 digest { s with res := { s.res with partner := none } }

/-- A mismatch counted and contributed as a forced void. -/
def mismatched (partner : Nat) (s : State) : State :=
  let u := forcedVoid 0x03600005 (bump 0x8030 10 1 s)
  raise 2 0x000A (leBytes 4 (nodeAddr u) ++ leBytes 4 partner) u

theorem settlePair_eq (sc : Score) (partner digest : Nat) (s : State) :
    settlePair sc partner digest s =
      if digest = rg (digestTaken digest s) 0x8020 3 then contribute sc (digestTaken digest s)
      else contribute sc (mismatched partner (digestTaken digest s)) := rfl

theorem mismatched_ex (partner : Nat) (s : State) :
    (mismatched partner s).ex =
      { s.ex with step := { s.ex.step with forced := true, ownWord := forceVoid s.ex.step.ownWord } } := by
  unfold mismatched
  dsimp only
  rw [(show Keeps 64 (forcedVoid 0x03600005 (bump 0x8030 10 1 s)) (raise _ _ _ _) by simp).ex (by decide), forcedVoid_ex]
  rfl

theorem stepMarks_settlePair (sc : Score) (partner digest : Nat) (s : State) :
    stepMarks (settlePair sc partner digest s) = stepMarks s := by
  rw [settlePair_eq]
  split
  · exact stepMarks_contribute ..
  · exact (stepMarks_contribute ..).trans ((congrArg marksOf (mismatched_ex ..)).trans rfl)

theorem pointForced_keeps (x : Step) (s : State) : Keeps 982959 s (pointForced x s) := by
  unfold pointForced
  split
  · simp
  · split
    · simp
    · exact Keeps.refl _ s

theorem pointForced_rgK (x : Step) (s : State) : RgK 18446708872157593583 s (pointForced x s) := by
  unfold pointForced
  split
  · simp
  · split
    · simp
    · exact RgK.refl _ s

theorem stepMarks_pointForced (x : Step) (s : State) : stepMarks (pointForced x s) = stepMarks s := by
  unfold pointForced
  split
  · exact stepMarks_forcedVoid ..
  · split
    · exact stepMarks_forcedVoid ..
    · rfl

theorem stepId_pointForced (x : Step) (s : State) : stepId (pointForced x s) = stepId s := by
  unfold pointForced
  split
  · simp
  · split
    · simp
    · rfl

theorem pointForced_rejected (x : Step) (s : State) : (pointForced x s).ex.step.rejected = s.ex.step.rejected := by
  unfold pointForced
  split
  · rw [forcedVoid_ex]
  · split
    · rw [forcedVoid_ex]
    · rfl

theorem pointShared_keeps (sc : Score) (x : Step) (d : W32) (s : State) : Keeps 921517 s (pointShared sc x d s) := by
  unfold pointShared
  split
  · simp
  · dsimp only
    split
    · split
      · simp
      · simp
    · simp

theorem pointShared_rgK (sc : Score) (x : Step) (d : W32) (s : State) : RgK 8796093022208 s (pointShared sc x d s) := by
  unfold pointShared
  split
  · simp
  · dsimp only
    split
    · split
      · simp
      · simp
    · simp

theorem stepId_pointShared (sc : Score) (x : Step) (d : W32) (s : State) : stepId (pointShared sc x d s) = stepId s := by
  unfold pointShared
  split
  · simp
  · dsimp only
    split
    · split
      · simp
      · simp
    · simp

theorem stepMarks_sendControl (dst kind kf : Nat) (s : State) : stepMarks (sendControl dst kind kf s) = stepMarks s :=
  stepMarks_of_ex ((show Keeps 64 s (sendControl dst kind kf s) by simp).ex (by decide))

theorem stepMarks_pointShared (sc : Score) (x : Step) (d : W32) (s : State) :
    stepMarks (pointShared sc x d s) = stepMarks s := by
  unfold pointShared
  split
  · exact stepMarks_contribute ..
  · dsimp only
    split
    · split
      · exact (stepMarks_settlePair ..).trans (stepMarks_sendControl _ _ _ (withStep _ s))
      · exact stepMarks_sendControl _ _ _ (withStep _ s)
    · exact stepMarks_sendControl _ _ _ (withStep _ s)

theorem pointShared_alone {sc : Score} {x : Step} {d : W32} {s : State} (h : partnerAffine s.regs (ownAffine s) = none) :
    pointShared sc x d s = contribute sc s := by
  unfold pointShared
  rw [h]
  rfl

/-! ## A hold-commit (R373) -/

/-- A hold-commit of the step takes hold. -/
def holdArmed (s : State) : Bool :=
  (decide (rg s 0x8010 1 = s.ex.step.num) || s.res.autoHold) && !outcomeHeld s && !s.ex.step.rejected

theorem holdCommit_armed {s : State} (h : holdArmed s = true) :
    holdCommit s = withRg 0x8010 2 1 (withRg 0x8010 3 s.ex.step.num
      (withStep (fun t => { t with heldFrom := some s.pwr.time }) { s with dev := .held })) := by
  unfold holdArmed at h
  rw [Bool.and_eq_true, Bool.and_eq_true, Bool.not_eq_true', Bool.not_eq_true'] at h
  obtain ⟨⟨harmed, hheld⟩, hrejected⟩ := h
  unfold holdCommit
  dsimp only
  rw [harmed, hheld, hrejected]
  rfl

theorem holdCommit_unarmed {s : State} (h : holdArmed s = false) : holdCommit s = s := by
  unfold holdCommit
  dsimp only
  refine if_pos ?_
  unfold holdArmed at h
  revert h
  generalize (decide (rg s 0x8010 1 = s.ex.step.num) || s.res.autoHold) = a
  cases a
  · exact fun _ => rfl
  · cases outcomeHeld s
    · intro h
      simpa using h
    · exact fun _ => rfl

theorem holdCommit_leaves (s : State) :
    (holdCommit s).dev = (if holdArmed s then .held else s.dev) ∧
      rg (holdCommit s) 0x8010 2 = (if holdArmed s then 1 else rg s 0x8010 2) ∧
      rg (holdCommit s) 0x8010 3 = (if holdArmed s then s.ex.step.num else rg s 0x8010 3) ∧
      stepMarks (holdCommit s) =
        (s.ex.step.overflow, if holdArmed s then some s.pwr.time else s.ex.step.heldFrom) ∧
      (holdCommit s).ex.step.ownWord = s.ex.step.ownWord ∧ (holdCommit s).ex.scale = s.ex.scale := by
  cases h : holdArmed s with
  | true =>
    rw [holdCommit_armed h]
    exact ⟨rfl, rg_withRg_same .., (rg_withRg_sub _ (by decide) (by decide) (by decide)).trans (rg_withRg_same ..), rfl, rfl, rfl⟩
  | false =>
    rw [holdCommit_unarmed h]
    exact ⟨rfl, rfl, rfl, rfl, rfl, rfl⟩

/-! ## The partner -/

/-- The registers of two states map ranks, addresses and partners alike. -/
structure SameMap (s t : State) : Prop where
  node : rg t 0x6000 1 = rg s 0x6000 1
  job : ∀ j, rg t 0x6020 j = rg s 0x6020 j
  pair : rg t 0x8020 1 = rg s 0x8020 1 ∧ rg t 0x8020 2 = rg s 0x8020 2
  overrides : t.fab.overrides = s.fab.overrides

theorem jobCoords_of_sameMap {s t : State} (h : SameMap s t) : jobCoords t.regs = jobCoords s.regs := by
  unfold jobCoords
  refine congrArg (List.takeWhile _) (List.map_congr_left fun j _ => ?_)
  exact congrArg coordOf (h.job (j + 1))

theorem affineAddr_of_sameMap {s t : State} (h : SameMap s t) (r : Nat) : affineAddr t.regs r = affineAddr s.regs r := by
  have hbase : jobBase t.regs = jobBase s.regs := by
    unfold jobBase
    rw [show rgIn t.regs 0x6020 8 = rgIn s.regs 0x6020 8 from h.job 8, show rgIn t.regs 0x6000 1 = rgIn s.regs 0x6000 1 from h.node]
  unfold affineAddr
  rw [hbase, jobCoords_of_sameMap h]

theorem affineRank_of_sameMap {s t : State} (h : SameMap s t) (a : Nat) : affineRank t.regs a = affineRank s.regs a := by
  unfold affineRank jobSize
  dsimp only
  rw [jobCoords_of_sameMap h, affineAddr_of_sameMap h]

theorem ownAffine_of_sameMap {s t : State} (h : SameMap s t) : ownAffine t = ownAffine s := by
  have hrank : ownRank t = ownRank s := by
    unfold ownRank rankOfAddr
    rw [h.overrides, show nodeAddr t = nodeAddr s from h.node, affineRank_of_sameMap h]
  unfold ownAffine
  rw [hrank, show nodeAddr t = nodeAddr s from h.node]
  split
  · exact affineAddr_of_sameMap h _
  · rfl

theorem partner_of_sameMap {s t : State} (h : SameMap s t) :
    partnerAffine t.regs (ownAffine t) = partnerAffine s.regs (ownAffine s) := by
  unfold partnerAffine
  rw [show rgIn t.regs 0x8020 1 = rgIn s.regs 0x8020 1 from h.pair.1, show rgIn t.regs 0x8020 2 = rgIn s.regs 0x8020 2 from h.pair.2,
    jobCoords_of_sameMap h, ownAffine_of_sameMap h, affineRank_of_sameMap h]
  refine if_congr Iff.rfl rfl (congrArg (Option.map · _) (funext fun r => ?_))
  exact affineAddr_of_sameMap h _

/-! ## The verdict point as a whole -/

theorem pointFormed_keeps (sc : Score) (s : State) : Keeps 982831 s (pointFormed sc s) :=
  ((pointCaptured_keeps sc s).mono (by decide)).trans (Keeps.trans (t := pointWorded sc (pointCaptured sc s))
    (by simp [pointWorded]) ((pointForced_keeps _ _).mono (by decide)))

theorem pointFormed_rgK (sc : Score) (s : State) : RgK 18446708872157593583 s (pointFormed sc s) :=
  RgK.trans (rgK_of_regs ((pointCaptured_keeps sc s).regs (by decide)))
    (pointForced_rgK (pointCaptured sc s).ex.step (pointWorded sc (pointCaptured sc s)))

theorem stepMarks_pointFormed (sc : Score) (s : State) :
    stepMarks (pointFormed sc s) = (s.ex.step.overflow || (captureIndicators sc s).1, s.ex.step.heldFrom) :=
  (stepMarks_pointForced ..).trans ((congrArg marksOf (pointCaptured_ex sc s)).trans rfl)

theorem stepId_pointFormed (sc : Score) (s : State) : stepId (pointFormed sc s) = stepId s :=
  (stepId_pointForced ..).trans
    ((congrArg (fun e : Exec => (e.score, e.nextStep, e.step.num, e.step.running, e.step.startTime))
      (pointCaptured_ex sc s)).trans rfl)

theorem siteAt_pointFormed (sc : Score) (s : State) (k : Nat) :
    siteAt (pointFormed sc s) k = if k ∈ crumbSites sc s then clearIndicators (siteAt s k) else siteAt s k :=
  (siteAt_of_sites (((pointForced_keeps _ _).sites (by decide)).trans rfl) k).trans (siteAt_pointCaptured sc s k)

/-- A hold-commit takes hold at the verdict point where it was armed for the step. -/
theorem holdArmed_pointFormed (sc : Score) (s : State) : holdArmed (pointFormed sc s) = holdArmed s := by
  have hnum : (pointFormed sc s).ex.step.num = s.ex.step.num := congrArg (fun x => x.2.2.1) (stepId_pointFormed sc s)
  have hheld : outcomeHeld (pointFormed sc s) = outcomeHeld s := congrArg (fun x => x.2.isSome) (stepMarks_pointFormed sc s)
  have hrejected : (pointFormed sc s).ex.step.rejected = s.ex.step.rejected :=
    (pointForced_rejected ..).trans ((congrArg (fun e : Exec => e.step.rejected) (pointCaptured_ex sc s)).trans rfl)
  unfold holdArmed
  rw [pointFormed_rgK sc s 0x8010 1 (by decide), hnum, hheld, hrejected, (pointFormed_keeps sc s).res (by decide)]

theorem pointFormed_clean {sc : Score} {s : State} (hdata : s.ex.step.dataErr = none) (htransfer : s.ex.step.transferErr = false) :
    pointFormed sc s = pointWorded sc (pointCaptured sc s) ∧ (pointFormed sc s).ex.step.ownWord =
      flagWord s.ex.step.num s.ex.scale.e s.ex.scale.c false
        ((s.ex.step.overflow || (captureIndicators sc s).1) || bucketOverflow sc s) := by
  have hex := pointCaptured_ex sc s
  have hcol := (pointCaptured_keeps sc s).col (by decide)
  have hforced : pointFormed sc s = pointWorded sc (pointCaptured sc s) := by
    unfold pointFormed pointForced
    rw [hex]
    dsimp only
    rw [hdata]
    exact if_neg fun h => by simp [htransfer] at h
  refine ⟨hforced, ?_⟩
  have hbuckets : bucketOverflow sc (pointCaptured sc s) = bucketOverflow sc s :=
    congrArg (fun c : Collectives => sc.buckets.any (fun b => (at_ ({} : CollRun) b.coll c.runs).overflow)) hcol
  rw [hforced]
  unfold pointWorded withStep
  dsimp only
  rw [hbuckets, hex]
  dsimp only
  rw [hdata, htransfer]
  rfl

/-- What the verdict point leaves, whoever the word is shared with. -/
theorem verdictPoint_leaves (sc : Score) (s : State) :
    stepId (verdictPoint sc s) = stepId s ∧
      stepMarks (verdictPoint sc s) = (s.ex.step.overflow || (captureIndicators sc s).1,
        if holdArmed s then some s.pwr.time else s.ex.step.heldFrom) ∧
      (∀ k, siteAt (verdictPoint sc s) k = if k ∈ crumbSites sc s then clearIndicators (siteAt s k) else siteAt s k) ∧
      (verdictPoint sc s).dev = (if holdArmed s then .held else s.dev) ∧
      rg (verdictPoint sc s) 0x8010 2 = (if holdArmed s then 1 else rg s 0x8010 2) ∧
      rg (verdictPoint sc s) 0x8010 3 = (if holdArmed s then s.ex.step.num else rg s 0x8010 3) := by
  rw [verdictPoint_eq]
  obtain ⟨hdev, hstate, hstep, hmarks, -⟩ := holdCommit_leaves (pointFormed sc s)
  have hid : stepId (holdCommit (pointFormed sc s)) = stepId s := (holdCommit_stepId _).trans (stepId_pointFormed sc s)
  have hsites := (show Keeps 128 (pointFormed sc s) (holdCommit (pointFormed sc s)) by simp).sites (by decide)
  have hnum : (pointFormed sc s).ex.step.num = s.ex.step.num := congrArg (fun x => x.2.2.1) (stepId_pointFormed sc s)
  have hformed := pointFormed_keeps sc s
  rw [holdArmed_pointFormed] at hdev hstate hstep hmarks
  rw [hformed.dev (by decide)] at hdev
  rw [pointFormed_rgK sc s 0x8010 2 (by decide)] at hstate
  rw [pointFormed_rgK sc s 0x8010 3 (by decide), hnum] at hstep
  rw [hformed.pwr (by decide), show (pointFormed sc s).ex.step.overflow = _ from congrArg Prod.fst (stepMarks_pointFormed sc s),
    show (pointFormed sc s).ex.step.heldFrom = _ from congrArg Prod.snd (stepMarks_pointFormed sc s)] at hmarks
  generalize pairDigest sc (holdCommit (pointFormed sc s)) = d
  generalize (pointCaptured sc s).ex.step = x
  have hshared := pointShared_keeps sc x d (withRg 0x8020 3 d.toNat (holdCommit (pointFormed sc s)))
  have hobjects := pointShared_rgK sc x d (withRg 0x8020 3 d.toNat (holdCommit (pointFormed sc s)))
  refine ⟨(stepId_pointShared ..).trans hid, (stepMarks_pointShared ..).trans hmarks, fun k => ?_,
    (hshared.dev (by decide)).trans hdev,
    (hobjects 0x8010 2 (by decide)).trans ((rg_withRg_other _ _ (by decide)).trans hstate),
    (hobjects 0x8010 3 (by decide)).trans ((rg_withRg_other _ _ (by decide)).trans hstep)⟩
  exact (siteAt_of_sites ((hshared.sites (by decide)).trans hsites) k).trans (siteAt_pointFormed sc s k)

/-- Without an error of data and without a partner the flag word is contributed. -/
theorem verdictPoint_contributes {sc : Score} {s : State} (hdata : s.ex.step.dataErr = none)
    (htransfer : s.ex.step.transferErr = false) (halone : partnerAffine s.regs (ownAffine s) = none) :
    (verdictPoint sc s).ex.step.phase = .reducing ∧ (verdictPoint sc s).ex.step.ownWord =
      flagWord s.ex.step.num s.ex.scale.e s.ex.scale.c false
        ((s.ex.step.overflow || (captureIndicators sc s).1) || bucketOverflow sc s) := by
  obtain ⟨hclean, hword⟩ := pointFormed_clean (sc := sc) hdata htransfer
  obtain ⟨-, -, -, -, hown, -⟩ := holdCommit_leaves (pointFormed sc s)
  have hrg : RgK 17593528221696 s (holdCommit (pointFormed sc s)) :=
    RgK.trans ((pointFormed_rgK sc s).mono (by decide)) ((holdCommit_rgK _ (by decide)).mpr (RgK.refl _ _))
  have hfab : (holdCommit (pointFormed sc s)).fab = s.fab :=
    ((show Keeps 8192 (pointFormed sc s) (holdCommit (pointFormed sc s)) by simp).fab (by decide)).trans
      ((pointFormed_keeps sc s).fab (by decide))
  rw [verdictPoint_eq]
  generalize pairDigest sc (holdCommit (pointFormed sc s)) = d
  have hmap : SameMap s (withRg 0x8020 3 d.toNat (holdCommit (pointFormed sc s))) :=
    { node := (rg_withRg_other _ _ (by decide)).trans (hrg 0x6000 1 (by decide))
      job := fun j => (rg_withRg_other _ _ (by unfold keyOf; omega)).trans (hrg 0x6020 j (by decide))
      pair := ⟨(rg_withRg_other _ _ (by decide)).trans (hrg 0x8020 1 (by decide)),
        (rg_withRg_other _ _ (by decide)).trans (hrg 0x8020 2 (by decide))⟩
      overrides := congrArg Fabric.overrides hfab }
  rw [pointShared_alone ((partner_of_sameMap hmap).trans halone), contribute_ex]
  exact ⟨rfl, hown.trans hword⟩

/-! ## The pair digests (R378) -/

theorem exec_pairDigestReceive {m : PairDigestMsg} {sc : Score} {s : State} (hreset : s.pwr.inReset = false)
    (hsc : s.ex.score = some sc) (htag : tagMatches s m.scoreTag = true)
    (hpartner : (partnerAffine s.regs (ownAffine s)).map (resolved s) = some m.src) :
    exec (.pairDigestReceive m) s =
      .next (if s.ex.step.phase = .waitingPartner ∧ m.round = roundOf s ∧ m.replays = s.ex.step.replays then
        settlePair sc m.src m.digest.toNat (fresh s)
      else { fresh s with res := { s.res with partner := some (m.round, m.replays, m.digest) } }) := by
  change execPairDigestReceive m s = _
  unfold execPairDigestReceive takePairDigest onScore
  dsimp only
  rw [if_neg (by rw [show (fresh s).pwr.inReset = false from hreset]; decide),
    if_neg (by rw [show tagMatches (fresh s) m.scoreTag = true from htag]; decide), show (fresh s).ex.score = some sc from hsc]
  dsimp only
  exact congrArg Host.Outcome.next (if_neg (not_not_intro hpartner))

theorem exec_pairDigestReceive_foreign {m : PairDigestMsg} {s : State} (hreset : s.pwr.inReset = false)
    (htag : tagMatches s m.scoreTag = false) : exec (.pairDigestReceive m) s = .next (bump 0x6050 6 1 (fresh s)) := by
  change execPairDigestReceive m s = _
  unfold execPairDigestReceive takePairDigest
  dsimp only
  rw [if_neg (by rw [show (fresh s).pwr.inReset = false from hreset]; decide)]
  exact congrArg Host.Outcome.next (if_pos (by rw [show tagMatches (fresh s) m.scoreTag = false from htag]; rfl))

theorem mismatched_leaves (partner : Nat) (s : State) :
    rg (mismatched partner s) 0x8030 10 = satAdd (sizeOf_ 0x8030 10) (rg s 0x8030 10) 1 ∧
      rg (mismatched partner s) 0x8030 6 = satAdd (sizeOf_ 0x8030 6) (rg s 0x8030 6) 1 ∧
      RgK 17592186044416 s (mismatched partner s) ∧ Keeps 32768 s (mismatched partner s) := by
  have hevents : ∀ u : State, RgK 35184372088832 u (raise 2 0x000A (leBytes 4 (nodeAddr u) ++ leBytes 4 partner) u) := fun u => by simp
  have hvoid : ∀ (w : State) (j : Nat), rg (forcedVoid 0x03600005 w) 0x8030 j = rg (bump 0x8030 6 1 w) 0x8030 j := fun w j =>
    (show RgK 35184372088832 (bump 0x8030 6 1 (withStep (fun t => { t with forced := true, ownWord := forceVoid t.ownWord }) w))
      (forcedVoid 0x03600005 w) by simp [forcedVoid]) 0x8030 j (by decide)
  refine ⟨?_, ?_, by simp [mismatched], by simp [mismatched]⟩
  · rw [show rg (mismatched partner s) 0x8030 10 = _ from hevents _ 0x8030 10 (by decide), hvoid]
    exact (rg_bump_sub _ (by decide) (by decide) (by decide)).trans (rg_withRg_same ..)
  · rw [show rg (mismatched partner s) 0x8030 6 = _ from hevents _ 0x8030 6 (by decide), hvoid]
    refine (rg_withRg_same ..).trans ?_
    rw [show rg (bump 0x8030 10 1 s) 0x8030 6 = rg s 0x8030 6 from rg_bump_sub _ (by decide) (by decide) (by decide)]

theorem settlePair_leaves (sc : Score) (partner digest : Nat) (same : Bool) (s : State)
    (hsame : same = decide (digest = rg s 0x8020 3)) :
    rg (settlePair sc partner digest s) 0x8020 4 = digest ∧ (settlePair sc partner digest s).ex.step.phase = .reducing ∧
      (settlePair sc partner digest s).res.partner = none ∧
      rg (settlePair sc partner digest s) 0x8030 10 =
        (if same then rg s 0x8030 10 else satAdd (sizeOf_ 0x8030 10) (rg s 0x8030 10) 1) ∧
      rg (settlePair sc partner digest s) 0x8030 6 =
        (if same then rg s 0x8030 6 else satAdd (sizeOf_ 0x8030 6) (rg s 0x8030 6) 1) ∧
      (settlePair sc partner digest s).ex.step.ownWord =
        (if same then s.ex.step.ownWord else forceVoid s.ex.step.ownWord) := by
  have hstored : rg (digestTaken digest s) 0x8020 4 = digest := rg_withRg_same ..
  have hown : rg (digestTaken digest s) 0x8020 3 = rg s 0x8020 3 := rg_withRg_sub _ (by decide) (by decide) (by decide)
  have hother : ∀ j, rg (digestTaken digest s) 0x8030 j = rg s 0x8030 j := fun j =>
    rg_withRg_other _ _ (by unfold keyOf; omega)
  have hrg : ∀ u, RgK 52776558133248 u (contribute sc u) := fun u => by simp
  have hres : ∀ u, (contribute sc u).res = u.res := fun u => (show Keeps 32768 u _ by simp).res (by decide)
  rw [settlePair_eq, hown, hsame]
  by_cases h : digest = rg s 0x8020 3
  · rw [if_pos h, decide_eq_true h, contribute_ex, hres, hrg _ 0x8020 4 (by decide), hrg _ 0x8030 10 (by decide),
      hrg _ 0x8030 6 (by decide), hstored, hother, hother]
    exact ⟨rfl, rfl, rfl, rfl, rfl, rfl⟩
  · obtain ⟨hmismatch, hforced, hreport, hpartner⟩ := mismatched_leaves partner (digestTaken digest s)
    rw [if_neg h, decide_eq_false h, contribute_ex, hres, hrg _ 0x8020 4 (by decide), hrg _ 0x8030 10 (by decide),
      hrg _ 0x8030 6 (by decide), hmismatch, hforced, hreport 0x8020 4 (by decide), hpartner.res (by decide), mismatched_ex,
      hstored, hother, hother]
    exact ⟨rfl, rfl, rfl, rfl, rfl, rfl⟩

end Sys2Proof.Machine

open Sys2Proof Sys2Proof.Machine

/-- Settles O25, by what the stages of the verdict point and a settled pair digest leave. -/
theorem theVerdictPointFormsTheFlagWord : Obligations.TheVerdictPointFormsTheFlagWord := by
  unfold Obligations.TheVerdictPointFormsTheFlagWord
  refine ⟨fun sc hot armed s hsc hworks hopen hdone hverified hhot harmed => ?point,
    fun m sc s hreset hsc htag => ?foreign,
    fun m sc same s hreset hsc htag hpartner hwaits hround hreplays hsame => ?awaited,
    fun m sc s hreset hsc htag hpartner hearly => ?early⟩
  case point =>
    have hexec := exec_verdictPoint hsc hworks hopen hdone hverified
    obtain ⟨hid, hmarks, hsites, hdev, hstate, hstep⟩ := verdictPoint_leaves sc (fresh s)
    have hword := verdictPoint_contributes (sc := sc) (s := fresh s)
    have hnow : holdArmed (fresh s) = armed := harmed.symm
    have hset : ((fresh s).ex.step.overflow || (captureIndicators sc (fresh s)).1) = hot := hhot.symm
    rw [hnow] at hmarks hdev hstate hstep
    rw [hset] at hmarks hword
    exact ⟨_, hexec, hid, congrArg Prod.fst hmarks, hsites, fun hdata htransfer halone => hword hdata htransfer halone,
      hdev, hstate, hstep, congrArg Prod.snd hmarks, exec_unchanged hexec⟩
  case foreign =>
    have hregs : regsExcept [(0x6050, 6)] (fresh s) (bump 0x6050 6 1 (fresh s)) := regsExcept_bump _ _ (by decide) (by decide)
    exact ⟨_, exec_pairDigestReceive_foreign hreset htag, rg_withRg_same .., hregs,
      unchanged_of_covered (m := 1048557) (by simp) rfl⟩
  case awaited =>
    have hexec := exec_pairDigestReceive hreset hsc htag hpartner
    rw [if_pos ⟨hwaits, hround, hreplays⟩] at hexec
    obtain ⟨hreport, hphase, hres, hmismatch, hforced, hword⟩ := settlePair_leaves sc m.src m.digest.toNat same (fresh s) hsame
    exact ⟨_, hexec, hreport, hphase, hres, hmismatch, hforced, hword, settlePair_stepId .., unchanged_of_covered (m := 921517)
      (by simp) rfl⟩
  case early =>
    have hexec := exec_pairDigestReceive hreset hsc htag hpartner
    rw [if_neg hearly] at hexec
    exact hexec

end

section
/-! A securing without holders, refuted (spec/12_resilience.md, Secure points and the interval N). -/

namespace Sys2Proof.Machine

/-- A score whose one collective an entry of 0x8001 may name. -/
def glazedScore : Score :=
  { id := 0, bound := 0, orderedBound := 0, penalty := 0, orderedFlag := false, chunkCode := 0, slotCount := 0, phases := 0
    signer := 0, crumbs := [], tokens := [], pools := [], slots := [], relief := [], descs := [], jobs := [], streams := []
    colls := [⟨1, 0, 0, 0, 0, 0, false, 0, none, [], none, none, 0, [], none, 0⟩], buckets := [], consts := [] }

/-- A committed secure step with its collective complete, no region to secure and no holder, while the counter of bytes
sent stands above what its eight bytes hold. -/
def holderlessStep : State :=
  { regs := [(keyOf 0x8000 1, 1), (keyOf 0x8000 2, 0), (keyOf 0x8001 1, 0), (keyOf 0x8030 2, 2 ^ 64)]
    dev := .running
    ex := { score := some glazedScore
            step := { running := true, phase := .applied, outcome := some .commit, lossSent := true } }
    col := { runs := [(0, { complete := true })] }
    pwr := { cur := .run } }

/-- The bytes sent to the holders, as counted in a command's next state. -/
def sentToHolders (o : Out) : Nat :=
  match o with
  | .next t => rg t 0x8030 2
  | _ => 0

/-- Nothing is sent, and the counter stays. -/
theorem holderlessStep_counts : sentToHolders (exec .securingTransfer holderlessStep) = 2 ^ 64 := by decide +kernel

theorem holderlessStep_glazed :
    ∀ g ∈ glazedOf glazedScore holderlessStep.regs, collDone holderlessStep g.2.1 = true := by decide +kernel

end Sys2Proof.Machine

open Sys2Proof Sys2Proof.Machine

/-- Refutes O26: its securing clause has the counter of the bytes sent to the holders be its saturating sum with 64 bytes
for each holder. With no holder nothing is counted, and a counter above its size, which no hypothesis excludes, stays as
it is. -/
theorem not_theVerdictIsAppliedAndSecured : ¬ Obligations.TheVerdictIsAppliedAndSecured := by
  intro h
  obtain ⟨-, -, -, -, -, hsecures, -⟩ := h
  obtain ⟨t, hexec, -, -, -, -, hcount, -⟩ := hsecures glazedScore holderlessStep rfl (by decide +kernel) rfl rfl rfl
    (by decide +kernel) (fun p hp => absurd hp List.not_mem_nil) holderlessStep_glazed
  have hafter := holderlessStep_counts
  rw [hexec] at hafter
  exact absurd ((hcount (by decide +kernel) (by decide +kernel)).symm.trans hafter) (by decide +kernel)

end

section
/-! What the collective engines' operations leave of the collectives (spec/11_collectives.md). -/

namespace Sys2Proof.Machine

/-- Of the collectives only the runs have changed, and a run that had started still has. -/
structure RunsKept (s t : State) : Prop where
  others : t.col = { s.col with runs := t.col.runs }
  started : ∀ k, (runOf s k).started = true → (runOf t k).started = true

theorem RunsKept.refl (s : State) : RunsKept s s := ⟨rfl, fun _ h => h⟩

theorem RunsKept.trans {s t u : State} (h : RunsKept s t) (k : RunsKept t u) : RunsKept s u :=
  ⟨k.others.trans (congrArg (fun c : Collectives => { c with runs := u.col.runs }) h.others), fun n hn => k.started n (h.started n hn)⟩

theorem runsKept_of_col {s t : State} (h : t.col = s.col) : RunsKept s t :=
  ⟨congrArg (fun c : Collectives => { c with runs := t.col.runs }) h.symm ▸ (show t.col = { t.col with runs := t.col.runs } from rfl) |>.trans (by rw [h]),
    fun k hk => (congrArg (fun c : Collectives => (at_ ({} : CollRun) k c.runs).started) h).trans hk⟩

theorem runsKept_of_keeps {s t : State} (h : Keeps 16384 s t) : RunsKept s t := runsKept_of_col (h.col (by decide))

theorem runsKept_foldl {α : Type} {f : State → α → State} (h : ∀ u e, RunsKept u (f u e)) (l : List α) (s : State) :
    RunsKept s (l.foldl f s) := by
  induction l generalizing s with
  | nil => exact RunsKept.refl s
  | cons e l ih => exact (h s e).trans (ih (f s e))

theorem runOf_withRun_same (n : Nat) (r : CollRun) (s : State) : runOf (withRun n r s) n = r := by
  unfold runOf at_ withRun withCol
  dsimp only
  rw [lookup_put_same]
  rfl

theorem runOf_withRun_other {n k : Nat} (r : CollRun) (s : State) (h : k ≠ n) : runOf (withRun n r s) k = runOf s k := by
  unfold runOf at_ withRun withCol
  dsimp only
  rw [lookup_put_other _ _ _ _ h]

theorem runOf_of_col {s t : State} (h : t.col = s.col) (k : Nat) : runOf t k = runOf s k :=
  congrArg (fun c : Collectives => at_ ({} : CollRun) k c.runs) h

theorem runsKept_withRun {n : Nat} {r : CollRun} {s : State} (h : (runOf s n).started = true → r.started = true) :
    RunsKept s (withRun n r s) := by
  refine ⟨rfl, fun k hk => ?_⟩
  by_cases hkn : k = n
  · rw [hkn, runOf_withRun_same]
    exact h (hkn ▸ hk)
  · rw [runOf_withRun_other _ _ hkn]
    exact hk

theorem runsKept_withRun_after {n : Nat} {r : CollRun} {s u : State} (hu : u.col = s.col)
    (h : (runOf s n).started = true → r.started = true) : RunsKept s (withRun n r u) :=
  (runsKept_of_col hu).trans (runsKept_withRun (by rw [runOf_of_col hu]; exact h))

/-! ## Chunks -/

theorem runsKept_returnHeld (h : HeldChunk) (s : State) : RunsKept s (returnHeld h s) := by
  unfold returnHeld
  split
  · exact runsKept_of_keeps (by simp)
  · exact RunsKept.refl s

theorem runsKept_useChunk (x : CollCtx) (h : HeldChunk) (s : State) : RunsKept s (useChunk x h s) := by
  unfold useChunk
  dsimp only
  refine RunsKept.trans ?_ (runsKept_returnHeld h _)
  split
  · exact runsKept_withRun id
  · split
    · exact runsKept_of_keeps (by simp)
    · exact runsKept_of_keeps (by simp)

theorem runsKept_noteReceived (n : Nat) (c : Chunk) (s : State) : RunsKept s (noteReceived n c s) := runsKept_withRun id

theorem runsKept_refetch (x : CollCtx) (off len : Nat) (s : State) : RunsKept s (refetch x off len s) := by
  unfold refetch
  dsimp only
  refine RunsKept.trans ?_ (runsKept_foldl (fun u o => ?_) _ _)
  · exact runsKept_withRun_after (u := bump 0x7020 8 1 s) rfl id
  · exact runsKept_of_keeps (by simp)

theorem runsKept_applyChunk (x : CollCtx) (s : State) (h : HeldChunk) : RunsKept s (applyChunk x s h) := by
  unfold applyChunk
  dsimp only
  split
  · exact runsKept_returnHeld h s
  · split
    · exact (runsKept_useChunk x h s).trans (runsKept_noteReceived ..)
    · split
      · exact ((runsKept_returnHeld h s).trans (runsKept_noteReceived ..)).trans (runsKept_refetch ..)
      · exact (runsKept_returnHeld h s).trans (runsKept_noteReceived ..)

theorem runsKept_useHeld (x : CollCtx) (s : State) : RunsKept s (useHeld x s) := by
  unfold useHeld
  dsimp only
  refine RunsKept.trans ?_ (runsKept_foldl (fun u h => runsKept_applyChunk x u h) _ _)
  exact runsKept_withRun id

theorem runsKept_dropHeld (n : Nat) (s : State) : RunsKept s (dropHeld n s) := by
  unfold dropHeld
  dsimp only
  refine RunsKept.trans ?_ (runsKept_foldl (fun u h => runsKept_returnHeld h u) _ _)
  exact runsKept_withRun id

/-! ## Stages -/

theorem runsKept_settleTokens (x : CollCtx) (s : State) : RunsKept s (settleTokens x s) := by
  unfold settleTokens
  dsimp only
  split
  · exact RunsKept.refl s
  · refine RunsKept.trans (t := withRun x.n { runOf s x.n with tokensSent := true } s) ?_ (runsKept_of_keeps (by simp))
    exact runsKept_withRun id

theorem runsKept_tokensFall (x : CollCtx) (s : State) : RunsKept s (tokensFall x s) := by
  unfold tokensFall
  dsimp only
  refine RunsKept.trans ?_ (runsKept_settleTokens x _)
  exact runsKept_withRun id

theorem runsKept_completeColl (x : CollCtx) (s : State) : RunsKept s (completeColl x s) := by
  unfold completeColl
  dsimp only
  have hdrop : RunsKept s (dropHeld x.n (withRun x.n { runOf s x.n with complete := true } s)) :=
    RunsKept.trans (runsKept_withRun (r := { runOf s x.n with complete := true }) id) (runsKept_dropHeld x.n _)
  refine hdrop.trans ?_
  generalize dropHeld x.n (withRun x.n { runOf s x.n with complete := true } s) = u
  split
  · exact RunsKept.refl u
  · refine RunsKept.trans (RunsKept.trans (t := bump 0x7020 1 1 u) (runsKept_of_keeps (by simp)) ?_) (runsKept_tokensFall x _)
    split
    · exact runsKept_foldl (fun v t => runsKept_of_keeps (by simp)) _ _
    · exact RunsKept.refl _

theorem runsKept_enterStage (x : CollCtx) (stage : Nat) (s : State) : RunsKept s (enterStage x stage s) := by
  unfold enterStage
  refine (RunsKept.trans (t := withRun x.n { runOf s x.n with stage := stage } s) ?_ (runsKept_of_keeps (by simp))).trans
    (runsKept_useHeld x _)
  exact runsKept_withRun id

theorem runsKept_examine (x : CollCtx) (s : State) : RunsKept s (examine x s) := by
  unfold examine
  dsimp only
  refine runsKept_withRun_after ?_ id
  exact (show Keeps 16384 s (readRange _ none _ _ s) by simp).col (by decide)

theorem runsKept_afterReduce (x : CollCtx) (s : State) : RunsKept s (afterReduce x s) := by
  have hexamined : RunsKept s (if x.c.kind ≤ 1 then examine x s else s) := by
    split
    · exact runsKept_examine x s
    · exact RunsKept.refl s
  unfold afterReduce
  dsimp only
  split
  · exact hexamined.trans (runsKept_enterStage ..)
  · exact hexamined.trans (runsKept_completeColl ..)

theorem runsKept_nextStage (x : CollCtx) (s : State) : RunsKept s (nextStage x s) := by
  have hsummed : RunsKept s (if (runOf s x.n).stage < 5 ∧ inOrder s x then orderedSums x (runOf s x.n).stage s
      else if x.c.kind = 6 then mergeLists x (runOf s x.n).stage s else s) := by
    split
    · exact runsKept_of_keeps (by simp)
    · split
      · exact runsKept_of_keeps (by simp)
      · exact RunsKept.refl s
  unfold nextStage
  dsimp only
  split
  · split
    · exact hsummed.trans (runsKept_enterStage ..)
    · exact hsummed.trans (runsKept_afterReduce ..)
  · split
    · exact hsummed.trans (runsKept_completeColl ..)
    · exact hsummed.trans (runsKept_enterStage ..)

theorem runsKept_advanceColl (x : CollCtx) : ∀ (n : Nat) (s : State), RunsKept s (advanceColl x n s)
  | 0, s => RunsKept.refl s
  | n + 1, s => by
    unfold advanceColl
    dsimp only
    split
    · exact (runsKept_nextStage x s).trans (runsKept_advanceColl x n _)
    · exact RunsKept.refl s

/-! ## The praline lane -/

theorem runsKept_finishPraline (x : CollCtx) (s : State) : RunsKept s (finishPraline x s) := by
  unfold finishPraline
  split
  · exact RunsKept.refl s
  · dsimp only
    split
    · exact RunsKept.refl s
    · refine RunsKept.trans ?_ (runsKept_completeColl x _)
      refine RunsKept.trans ?_ (runsKept_withRun fun h => h)
      exact runsKept_of_keeps (by simp)

theorem runsKept_finishPralines (sc : Score) (s : State) : RunsKept s (finishPralines sc s) := by
  unfold finishPralines
  refine runsKept_foldl (fun u p => ?_) _ _
  split
  · exact runsKept_finishPraline _ _
  · exact RunsKept.refl u

/-! ## The runs under the praline lane -/

/-- The runs are the same. -/
def SameRuns (s t : State) : Prop := t.col.runs = s.col.runs

theorem SameRuns.trans {s t u : State} (h : SameRuns s t) (k : SameRuns t u) : SameRuns s u := Eq.trans k h

theorem sameRuns_foldl {α : Type} {f : State → α → State} (h : ∀ u e, SameRuns u (f u e)) (l : List α) (s : State) :
    SameRuns s (l.foldl f s) := by
  induction l generalizing s with
  | nil => rfl
  | cons e l ih => exact (h s e).trans (ih (f s e))

/-- A send notes itself and leaves the rest of the collectives. -/
theorem sendPral_col (r : PralRun) (stage a : Nat) (first : Bool) (s : State) :
    (sendPral r stage a first s).col = (noteSend r stage a s).col := by
  unfold sendPral
  dsimp only
  split
  · exact (show Keeps 16384 (noteSend r stage a s) _ from
      keeps_foldl _ (fun u e => by simp) _ _ _ (Keeps.refl _ _)).col (by decide)
  · exact (show Keeps 16384 (noteSend r stage a s) (sendParcel a 2 3 (.coll r.coll)
      (chunkKf 3 r.coll stage r.round 0 (octets16 (pralPack (pralWord s r stage)))) (octets16 (pralPack (pralWord s r stage)))
      (bump 0x7020 7 1 (noteSend r stage a s))) by simp).col (by decide)

theorem sameRuns_sendPral (r : PralRun) (stage a : Nat) (first : Bool) (s : State) : SameRuns s (sendPral r stage a first s) :=
  (congrArg Collectives.runs (sendPral_col r stage a first s)).trans rfl

theorem sameRuns_sendStage (r : PralRun) (stage : Nat) (s : State) : SameRuns s (sendStage r stage s) := by
  unfold sendStage
  exact sameRuns_foldl (f := fun s (p : Nat × Nat) => sendPral r stage p.2 true s)
    (fun u p => sameRuns_sendPral r stage p.2 true u) _ s

theorem sameRuns_pralAdvance : ∀ (n : Nat) (r : PralRun) (s : State), SameRuns s (pralAdvance n r s)
  | 0, _, _ => rfl
  | n + 1, r, s => by
    unfold pralAdvance
    split
    · rfl
    · split
      · rfl
      · rfl
      · dsimp only
        split
        · rfl
        · exact SameRuns.trans (t := withPral _ s) rfl ((sameRuns_sendStage _ _ _).trans (sameRuns_pralAdvance n _ _))

theorem sameRuns_storeWord (r : PralRun) (src : Nat) (w : PralFields) (s : State) : SameRuns s (storeWord r src w s) := by
  unfold storeWord
  split
  · rfl
  · dsimp only
    refine SameRuns.trans ?_ (sameRuns_pralAdvance ..)
    split
    · exact SameRuns.trans (t := withPral _ s) rfl (sameRuns_sendPral ..)
    · rfl

theorem sameRuns_absorbEarly (g seq round : Nat) (s : State) : SameRuns s (absorbEarly g seq round s) := by
  unfold absorbEarly
  dsimp only
  refine SameRuns.trans ?_ (sameRuns_foldl (fun u w => ?_) _ _)
  · rfl
  · split
    · exact sameRuns_storeWord ..
    · rfl

theorem sameRuns_startPraline (sc : Score) (coll op : Nat) (value : W64) (s : State) :
    SameRuns s (startPraline sc coll op value s) := by
  unfold startPraline
  split
  · rfl
  · dsimp only
    split
    · rfl
    · refine SameRuns.trans ?_ ((sameRuns_sendStage ..).trans (sameRuns_absorbEarly ..))
      rfl

end Sys2Proof.Machine

end

section
/-! The words of the praline lane (spec/11_collectives.md, The praline lane). -/

namespace Sys2Proof.Machine

/-! ## The lane's counters under the results that are finished -/

/-- The counts of the praline lane and of chunks are the same, apart from that of completed collectives. -/
def WordsKept (s t : State) : Prop := ∀ j, j < 256 → j ≠ 1 → rg t 0x7020 j = rg s 0x7020 j

theorem WordsKept.refl (s : State) : WordsKept s s := fun _ _ _ => rfl

theorem WordsKept.trans {s t u : State} (h : WordsKept s t) (k : WordsKept t u) : WordsKept s u :=
  fun j hj h1 => (k j hj h1).trans (h j hj h1)

theorem wordsKept_of_rgK {s t : State} (h : RgK 274877906944 s t) : WordsKept s t := fun j _ _ => h 0x7020 j (by decide)

theorem wordsKept_foldl {α : Type} {f : State → α → State} (h : ∀ u e, WordsKept u (f u e)) (l : List α) (s : State) :
    WordsKept s (l.foldl f s) := by
  induction l generalizing s with
  | nil => exact WordsKept.refl s
  | cons e l ih => exact (h s e).trans (ih (f s e))

theorem wordsKept_completeColl (x : CollCtx) (s : State) : WordsKept s (completeColl x s) := by
  have hdrop : WordsKept s (dropHeld x.n (withRun x.n { runOf s x.n with complete := true } s)) := wordsKept_of_rgK (by simp)
  unfold completeColl
  dsimp only
  refine hdrop.trans ?_
  generalize dropHeld x.n (withRun x.n { runOf s x.n with complete := true } s) = u
  have hcount : WordsKept u (bump 0x7020 1 1 u) := fun j hj h1 => rg_withRg_sub _ hj (by decide) h1
  have hfalls : ∀ v : State, WordsKept v (tokensFall x v) := fun v => wordsKept_of_rgK (by simp)
  split
  · exact WordsKept.refl u
  · refine (hcount.trans ?_).trans (hfalls _)
    split
    · exact wordsKept_foldl (fun v t => wordsKept_of_rgK (by simp)) _ _
    · exact WordsKept.refl _

theorem wordsKept_finishPraline (x : CollCtx) (s : State) : WordsKept s (finishPraline x s) := by
  unfold finishPraline
  split
  · exact WordsKept.refl s
  · dsimp only
    split
    · exact WordsKept.refl s
    · refine WordsKept.trans ?_ (wordsKept_completeColl x _)
      exact wordsKept_of_rgK (by simp)

theorem wordsKept_finishPralines (sc : Score) (s : State) : WordsKept s (finishPralines sc s) := by
  unfold finishPralines
  refine wordsKept_foldl (fun u p => ?_) _ _
  split
  · exact wordsKept_finishPraline _ _
  · exact WordsKept.refl u

/-! ## A word of the lane -/

theorem exec_pralineWord {w : Praline} {sc : Score} {s : State} (hsc : s.ex.score = some sc) (hworks : pralWorks s = true) :
    exec (.pralineWord w) s = .next (finishPralines sc (takeWord w (fresh s))) := by
  change execPralineWord w s = _
  unfold execPralineWord onScore
  dsimp only
  rw [if_pos (show pralWorks (fresh s) = true from hworks), show (fresh s).ex.score = some sc from hsc]

theorem wordKey_cases (s : State) (f : PralFields) :
    (∃ r, pralOf s f.group f.seq f.round = some r ∧ wordKey s f = r.key) ∨
      (pralOf s f.group f.seq f.round = none ∧ wordKey s f = roundKey s f.round) := by
  unfold wordKey
  cases pralOf s f.group f.seq f.round with
  | some r => exact .inl ⟨r, rfl, rfl⟩
  | none => exact .inr ⟨rfl, rfl⟩

theorem takeWord_good {w : Praline} {g : PralFields} {s : State} (hlane : w.byParcel = false)
    (hop : (pralFields w.word).op ≠ 0) (hgood : openPral (wordKey s (pralFields w.word)) w.src w.word = some g) :
    takeWord w s = takeFields w.src g s := by
  unfold takeWord
  generalize pralFields w.word = f at hop hgood ⊢
  dsimp only
  rw [if_neg hop, hlane]
  rcases wordKey_cases s f with ⟨r, hr, hkey⟩ | ⟨hr, hkey⟩
  · rw [hkey] at hgood
    simp only [hr, hgood, Bool.false_eq_true, if_false]
  · rw [hkey] at hgood
    simp only [hr, hgood, Bool.false_eq_true, if_false]

theorem takeWord_bad {w : Praline} {s : State} (hlane : w.byParcel = false) (hop : (pralFields w.word).op ≠ 0)
    (hbad : openPral (wordKey s (pralFields w.word)) w.src w.word = none) :
    takeWord w s = badWord w.src (pralFields w.word) s := by
  unfold takeWord
  generalize pralFields w.word = f at hop hbad ⊢
  dsimp only
  rw [if_neg hop, hlane]
  rcases wordKey_cases s f with ⟨r, hr, hkey⟩ | ⟨hr, hkey⟩
  · rw [hkey] at hbad
    simp only [hr, hbad, Bool.false_eq_true, if_false]
  · rw [hkey] at hbad
    simp only [hr, hbad, Bool.false_eq_true, if_false]

theorem wordKey_fresh (s : State) (f : PralFields) : wordKey (fresh s) f = wordKey s f := rfl

theorem badWord_leaves (src : Nat) (w : PralFields) (s : State) :
    rg (badWord src w s) 0x7020 7 = satAdd (sizeOf_ 0x7020 7) (rg s 0x7020 7) 1 ∧
      (badWord src w s).col.praline = s.col.praline ∧ (badWord src w s).col.earlyPraline = s.col.earlyPraline := by
  have hraise : ∀ u : State, RgK 274877906944 u (raise 3 0x0023 (leBytes 4 1 ++ leBytes 4 src) u) ∧
      (raise 3 0x0023 (leBytes 4 1 ++ leBytes 4 src) u).col = u.col := fun u =>
    ⟨by simp, (show Keeps 16384 u _ by simp).col (by decide)⟩
  unfold badWord
  dsimp only
  split
  · exact ⟨rg_withRg_same .., rfl, rfl⟩
  · obtain ⟨hrg, hcol⟩ := hraise (withCol (fun c => { c with alerted := c.alerted ++ [(w.group, w.round)] }) (bump 0x7020 7 1 s))
    rw [hrg 0x7020 7 (by decide), hcol]
    exact ⟨rg_withRg_same .., rfl, rfl⟩

/-! ## A word in its reduction -/

theorem find?_map_replaced {α : Type} {p : α → Bool} {r : α} {l : List α} (hr : p r = true) (h : (l.find? p).isSome = true) :
    (l.map (fun x => if p x = true then r else x)).find? p = some r := by
  induction l with
  | nil => exact absurd h (by simp)
  | cons x l ih =>
    rw [List.map_cons]
    cases hx : p x with
    | true => rw [if_pos rfl, List.find?_cons_of_pos hr]
    | false =>
      rw [if_neg (by decide), List.find?_cons_of_neg (by rw [hx]; decide)]
      rw [List.find?_cons_of_neg (by rw [hx]; decide)] at h
      exact ih h

theorem pralOf_withPral {r : PralRun} {s : State} (h : (pralOf s r.group r.seq r.round).isSome = true) :
    pralOf (withPral r s) r.group r.seq r.round = some r := by
  have hreplaced := find?_map_replaced (r := r) (by simp) h
  refine Eq.trans (congrArg (List.find? _) (List.map_congr_left fun x _ => ?_)) hreplaced
  refine if_congr ?_ rfl rfl
  simp only [Bool.and_eq_true, beq_iff_eq, and_assoc]

theorem pralOf_of_praline {s t : State} (h : t.col.praline = s.col.praline) (g seq round : Nat) :
    pralOf t g seq round = pralOf s g seq round := congrArg (List.find? _) h

theorem praline_sendPral (r : PralRun) (stage a : Nat) (first : Bool) (s : State) :
    (sendPral r stage a first s).col.praline = s.col.praline :=
  (congrArg Collectives.praline (sendPral_col r stage a first s)).trans rfl

theorem praline_sendStage (r : PralRun) (stage : Nat) (s : State) : (sendStage r stage s).col.praline = s.col.praline := by
  have hsends : ∀ (l : List (Nat × Nat)) (u : State),
      (l.foldl (fun s p => sendPral r stage p.2 true s) u).col.praline = u.col.praline := by
    intro l
    induction l with
    | nil => exact fun _ => rfl
    | cons p l ih => exact fun u => (ih _).trans (praline_sendPral ..)
  exact hsends _ s

/-- A reduction of this place holds the word. -/
def HoldsWord (g seq round coll : Nat) (w : Nat × Nat × W64) (s : State) : Prop :=
  ∃ y, pralOf s g seq round = some y ∧ w ∈ y.words ∧ y.coll = coll

theorem holdsWord_of_praline {s t : State} {g seq round coll : Nat} {w : Nat × Nat × W64}
    (h : t.col.praline = s.col.praline) (hs : HoldsWord g seq round coll w s) : HoldsWord g seq round coll w t := by
  obtain ⟨y, hy, hw⟩ := hs
  exact ⟨y, (pralOf_of_praline h _ _ _).trans hy, hw⟩

theorem holdsWord_withPral {s : State} {g seq round coll : Nat} {w : Nat × Nat × W64} (r : PralRun)
    (hplace : r.group = g ∧ r.seq = seq ∧ r.round = round) (hw : w ∈ r.words) (hc : r.coll = coll)
    (hs : (pralOf s g seq round).isSome = true) : HoldsWord g seq round coll w (withPral r s) := by
  obtain ⟨rfl, rfl, rfl⟩ := hplace
  exact ⟨r, pralOf_withPral hs, hw, hc⟩

theorem holdsWord_pralAdvance {g seq round coll : Nat} {w : Nat × Nat × W64} : ∀ (n : Nat) (r : PralRun) (s : State),
    r.group = g ∧ r.seq = seq ∧ r.round = round → w ∈ r.words → r.coll = coll → HoldsWord g seq round coll w s →
    HoldsWord g seq round coll w (pralAdvance n r s)
  | 0, _, _, _, _, _, hs => hs
  | n + 1, r, s, hplace, hw, hc, hs => by
    have hsome : (pralOf s g seq round).isSome = true := by
      obtain ⟨y, hy, -⟩ := hs
      rw [hy]
      rfl
    unfold pralAdvance
    split
    · exact hs
    · split
      · exact hs
      · exact hs
      · dsimp only
        split
        · exact holdsWord_of_praline (s := withPral { r with result := some _ } s) rfl
            (holdsWord_withPral _ hplace hw hc hsome)
        · refine holdsWord_pralAdvance n _ _ hplace hw hc (holdsWord_of_praline (praline_sendStage ..) ?_)
          exact holdsWord_withPral _ hplace hw hc hsome

theorem holdsWord_storeWord {r : PralRun} {src : Nat} {w : PralFields} {p : Nat × Nat} {s : State}
    (hr : pralOf s w.group w.seq w.round = some r)
    (hp : (pralPeers s r w.stage).find? (fun p => resolved s p.2 == src) = some p)
    (hnew : ∀ x ∈ r.words, ¬ (x.1 = w.stage ∧ x.2.1 = p.2)) :
    HoldsWord w.group w.seq w.round r.coll (w.stage, p.2, w.value) (storeWord r src w s) := by
  have hplace : r.group = w.group ∧ r.seq = w.seq ∧ r.round = w.round := by
    have := List.find?_some hr
    simpa [and_assoc] using this
  have hfresh : (!r.words.any (fun x => x.1 == w.stage && x.2.1 == p.2)) = true := by
    simpa using hnew
  unfold storeWord
  rw [hp]
  dsimp only
  rw [hfresh, if_pos rfl]
  refine holdsWord_pralAdvance 6 _ _ hplace (List.mem_append_right _ List.mem_cons_self) rfl ?_
  have hstored := fun l => holdsWord_withPral (s := s) { r with heardUs := l, words := r.words ++ [(w.stage, p.2, w.value)] } hplace
    (List.mem_append_right _ (List.mem_cons_self (a := (w.stage, p.2, w.value)) (l := []))) rfl (by rw [hr]; rfl)
  split
  · exact holdsWord_of_praline (praline_sendPral ..) (hstored _)
  · exact hstored _

/-! ## Repeats (R346) -/

theorem satAdd_satAdd (bytes v m n : Nat) : satAdd bytes (satAdd bytes v m) n = satAdd bytes v (m + n) := by
  unfold satAdd
  generalize 2 ^ (8 * bytes) - 1 = top
  omega

/-- One word more repeated. -/
def repeatOne (r : PralRun) (s : State) (x : Nat × Nat) : State := sendPral r x.1 x.2 false (bump 0x7020 6 1 s)

theorem sendPral_counts {j : Nat} (r : PralRun) (stage a : Nat) (first : Bool) (s : State) (hj : j < 256) (h7 : j ≠ 7) :
    rg (sendPral r stage a first s) 0x7020 j = rg s 0x7020 j := by
  unfold sendPral
  dsimp only
  split
  · have hlanes := rgK_foldl (m := 274877906944) (wordOnLane (sealPral r.key (nodeAddr (noteSend r stage a s)) (pralWord s r stage)))
      (fun u e => by simp)
    exact (hlanes (pralLanes (noteSend r stage a s) r stage a first) (noteSend r stage a s) _ (RgK.refl _ _)) 0x7020 j (by decide)
  · refine ((sendParcel_rgK (m := 274877906944) _ _ _ _ _ _ _ (by decide)).mpr (RgK.refl _ _) 0x7020 j (by decide)).trans ?_
    exact rg_withRg_sub (noteSend r stage a s) hj (by decide) h7

theorem repeats_leave (r : PralRun) : ∀ (l : List (Nat × Nat)) (s : State),
    rg s 0x7020 6 ≤ 2 ^ (8 * sizeOf_ 0x7020 6) - 1 →
    rg (l.foldl (repeatOne r) s) 0x7020 6 = satAdd (sizeOf_ 0x7020 6) (rg s 0x7020 6) l.length ∧
      (l.foldl (repeatOne r) s).col.praline = s.col.praline
  | [], s, h => ⟨by unfold satAdd; exact (Nat.min_eq_left h).symm, rfl⟩
  | x :: l, s, h => by
    have hone : rg (repeatOne r s x) 0x7020 6 = satAdd (sizeOf_ 0x7020 6) (rg s 0x7020 6) 1 :=
      (sendPral_counts _ _ _ _ _ (by decide) (by decide)).trans (rg_withRg_same ..)
    have hsame : (repeatOne r s x).col.praline = s.col.praline := (praline_sendPral ..).trans rfl
    obtain ⟨hcount, hcol⟩ := repeats_leave r l (repeatOne r s x) (by rw [hone]; exact Nat.min_le_right _ _)
    refine ⟨?_, hcol.trans hsame⟩
    rw [List.foldl_cons, hcount, hone, List.length_cons, satAdd_satAdd, Nat.add_comm]

/-- The peers that a stage's word is sent to again. -/
def unheardPeers (r : PralRun) (s : State) : List (Nat × Nat) :=
  (pralPeers s r 0).filter (fun p => !(at_ 0 0 r.heardUs).testBit (digit (pralDim s r 0) p.2))

theorem repeatRun_first {r : PralRun} {s : State} (hstage : r.stage = 0) (hsends : s.col.sends = [])
    (hdue : unheardPeers r s ≠ []) :
    repeatRun s r = ((unheardPeers r s).map (fun p => (0, p.2))).foldl (repeatOne { r with turn := r.turn + 1 })
      (withPral { r with turn := r.turn + 1 } s) := by
  have hsend : ∀ a, sendDue s r 0 a = true := fun a => by
    unfold sendDue
    rw [hsends]
    rfl
  have hlist : (List.range (r.stage + 1)).flatMap (fun st => ((pralPeers s r st).filter (fun p =>
      !(at_ 0 st r.heardUs).testBit (digit (pralDim s r st) p.2) && sendDue s r st p.2)).map (fun p => (st, p.2))) =
      (unheardPeers r s).map (fun p => (0, p.2)) := by
    rw [hstage]
    simp only [Nat.zero_add, List.range_one, List.flatMap_singleton, hsend, Bool.and_true]
    rfl
  unfold repeatRun
  dsimp only
  rw [hlist]
  refine if_neg ?_
  simpa using hdue

theorem exec_pralineRepeat {r : PralRun} {s : State} (hworks : pralWorks s = true) (hone : s.col.praline = [r]) :
    exec .pralineRepeat s = .next (repeatRun (fresh s) r) := by
  change execPralineRepeat s = _
  unfold execPralineRepeat
  dsimp only
  rw [if_pos (show pralWorks (fresh s) = true from hworks), show (fresh s).col.praline = [r] from hone]
  rfl

end Sys2Proof.Machine

open Sys2Proof Sys2Proof.Machine

/-- Settles O28, by what a word leaves and by induction on the words repeated. -/
theorem pralineWordsAreHeldAndRepeated : Obligations.PralineWordsAreHeldAndRepeated := by
  unfold Obligations.PralineWordsAreHeldAndRepeated
  refine ⟨fun w sc s hsc hworks hlane hop hbad => ?refused, fun w g sc s hsc hworks hlane hop hgood hnone hround => ?early,
    fun w g r p sc s hsc hworks hlane hop hgood hrun hpeer hnew => ?held,
    fun r p s hworks hone hstage hsends hpeer hunheard => ?repeated⟩
  case refused =>
    have hexec := exec_pralineWord (w := w) hsc hworks
    rw [takeWord_bad (s := fresh s) hlane hop (by rw [wordKey_fresh]; exact hbad)] at hexec
    obtain ⟨hcount, hprals, hearly⟩ := badWord_leaves w.src (pralFields w.word) (fresh s)
    have hkept := wordsKept_finishPralines sc (badWord w.src (pralFields w.word) (fresh s))
    have hothers := (runsKept_finishPralines sc (badWord w.src (pralFields w.word) (fresh s))).others
    exact ⟨_, hexec, (hkept 7 (by decide) (by decide)).trans hcount,
      (congrArg Collectives.praline hothers).trans hprals, (congrArg Collectives.earlyPraline hothers).trans hearly⟩
  case early =>
    have hexec := exec_pralineWord (w := w) hsc hworks
    have htaken : takeFields w.src g (fresh s) =
        withCol (fun c => { c with earlyPraline := c.earlyPraline ++ [(w.src, g)] }) (fresh s) := by
      unfold takeFields
      rw [show pralOf (fresh s) g.group g.seq g.round = none from hnone]
      exact if_pos (.inr hround)
    rw [takeWord_good (s := fresh s) hlane hop (by rw [wordKey_fresh]; exact hgood), htaken] at hexec
    have hothers := (runsKept_finishPralines sc
      (withCol (fun c => { c with earlyPraline := c.earlyPraline ++ [(w.src, g)] }) (fresh s))).others
    exact ⟨_, hexec, (congrArg Collectives.earlyPraline hothers).trans rfl, (congrArg Collectives.praline hothers).trans rfl⟩
  case held =>
    have hexec := exec_pralineWord (w := w) hsc hworks
    have htaken : takeFields w.src g (fresh s) = storeWord r w.src g (fresh s) := by
      unfold takeFields
      rw [show pralOf (fresh s) g.group g.seq g.round = some r from hrun]
    rw [takeWord_good (s := fresh s) hlane hop (by rw [wordKey_fresh]; exact hgood), htaken] at hexec
    have hothers := (runsKept_finishPralines sc (storeWord r w.src g (fresh s))).others
    obtain ⟨y, hy, hword, hcoll⟩ := holdsWord_of_praline ((congrArg Collectives.praline hothers).trans rfl)
      (holdsWord_storeWord (s := fresh s) hrun hpeer hnew)
    have hkeeps : Keeps 8 s (finishPralines sc (storeWord r w.src g (fresh s))) := by simp
    have hid : stepId (finishPralines sc (storeWord r w.src g (fresh s))) = stepId (fresh s) := by simp
    exact ⟨_, y, hexec, hkeeps.dev (by decide), hid, hy, hword, hcoll⟩
  case repeated =>
    have hdue : p ∈ unheardPeers r (fresh s) := List.mem_filter.mpr ⟨hpeer, by
      rw [show pralDim (fresh s) r 0 = pralDim s r 0 from rfl, hunheard]; rfl⟩
    have hexec := exec_pralineRepeat hworks hone
    have hlist : (unheardPeers r (fresh s)).map (fun p => (0, p.2)) ≠ [] := fun h =>
      List.ne_nil_of_mem hdue (List.map_eq_nil_iff.mp h)
    have hlength : ((unheardPeers r (fresh s)).map (fun p => (0, p.2))).length = (unheardPeers r (fresh s)).length :=
      List.length_map _
    rw [repeatRun_first (s := fresh s) hstage hsends (List.ne_nil_of_mem hdue)] at hexec
    obtain ⟨x, l, hx⟩ := List.exists_cons_of_ne_nil hlist
    rw [hx, List.foldl_cons] at hexec
    have hfirst : rg (repeatOne { r with turn := r.turn + 1 } (withPral { r with turn := r.turn + 1 } (fresh s)) x) 0x7020 6 =
        satAdd (sizeOf_ 0x7020 6) (rg s 0x7020 6) 1 :=
      (sendPral_counts _ _ _ _ _ (by decide) (by decide)).trans (rg_withRg_same ..)
    have hprals : (repeatOne { r with turn := r.turn + 1 } (withPral { r with turn := r.turn + 1 } (fresh s)) x).col.praline =
        [{ r with turn := r.turn + 1 }] := by
      refine (praline_sendPral ..).trans ?_
      refine (congrArg (List.map _) hone).trans ?_
      exact congrArg (· :: []) (if_pos ⟨rfl, rfl, rfl⟩)
    obtain ⟨hcount, hcol⟩ := repeats_leave { r with turn := r.turn + 1 } l _ (by rw [hfirst]; exact Nat.min_le_right _ _)
    refine ⟨_, hexec, hcol.trans hprals, hcount.trans ?_, exec_unchanged hexec⟩
    change _ = satAdd (sizeOf_ 0x7020 6) (rg s 0x7020 6) (unheardPeers r (fresh s)).length
    rw [hfirst, ← hlength, hx, List.length_cons, satAdd_satAdd, Nat.add_comm]

end

section
/-! The launch of a collective (spec/11_collectives.md, Declarations, and Pieces and stages). -/

namespace Sys2Proof.Machine

/-! ## The context of a collective -/

theorem collCtx_fields {sc : Score} {s : State} {n : Nat} {x : CollCtx} (h : collCtx sc s n = some x) :
    x.sc = sc ∧ x.n = n ∧ (x.sts = [] → x.c.kind = 0 → x.j = 0) := by
  unfold collCtx at h
  obtain ⟨c, -, rfl⟩ := Option.map_eq_some_iff.mp h
  refine ⟨rfl, rfl, fun hsts hkind => ?_⟩
  dsimp only at hsts hkind ⊢
  rw [hsts, hkind]
  rfl

theorem ownPart_alone {x : CollCtx} (hkind : x.c.kind = 0) (hj : x.j = 0) : ownPart x = (0, x.e) := by
  unfold ownPart
  rw [if_neg (by rw [hkind]; decide), if_neg (by rw [hj]; decide)]

/-! ## The runs under the ends of a collective -/

theorem settleTokens_runs (x : CollCtx) (s : State) :
    (∃ b, runOf (settleTokens x s) x.n = { runOf s x.n with tokensSent := b }) ∧
      ∀ k, k ≠ x.n → runOf (settleTokens x s) k = runOf s k := by
  unfold settleTokens
  dsimp only
  split
  · exact ⟨⟨(runOf s x.n).tokensSent, rfl⟩, fun _ _ => rfl⟩
  · have hcol := (show Keeps 16384 (withRun x.n { runOf s x.n with tokensSent := true } s)
      (deliver x.sc x.c.engine 0x200 x.c.outputs (withRun x.n { runOf s x.n with tokensSent := true } s)) by simp).col (by decide)
    exact ⟨⟨true, (runOf_of_col hcol _).trans (runOf_withRun_same ..)⟩,
      fun k hk => (runOf_of_col hcol _).trans (runOf_withRun_other _ _ hk)⟩

theorem tokensFall_runs (x : CollCtx) (s : State) :
    (∃ m b, runOf (tokensFall x s) x.n = { runOf s x.n with tokensDue := true, marks := m, tokensSent := b }) ∧
      ∀ k, k ≠ x.n → runOf (tokensFall x s) k = runOf s k := by
  unfold tokensFall
  dsimp only
  generalize (s.fab.out.filter (fun c => c.stream == .coll x.n)).map (fun c => (c.peer, c.formed)) = marks
  obtain ⟨⟨b, hb⟩, hothers⟩ := settleTokens_runs x (withRun x.n { runOf s x.n with tokensDue := true, marks := marks } s)
  rw [runOf_withRun_same] at hb
  exact ⟨⟨marks, b, hb⟩, fun k hk => (hothers k hk).trans (runOf_withRun_other _ _ hk)⟩

theorem col_returns (l : List HeldChunk) (s : State) : (l.foldl (fun s h => returnHeld h s) s).col = s.col :=
  (show Keeps 16384 s _ from keeps_foldl _ (fun u e => by simp) _ _ _ (Keeps.refl _ _)).col (by decide)

theorem dropHeld_runs (n : Nat) (s : State) :
    runOf (dropHeld n s) n = { runOf s n with held := [] } ∧ ∀ k, k ≠ n → runOf (dropHeld n s) k = runOf s k := by
  unfold dropHeld
  dsimp only
  exact ⟨(runOf_of_col (col_returns ..) _).trans (runOf_withRun_same ..),
    fun k hk => (runOf_of_col (col_returns ..) _).trans (runOf_withRun_other _ _ hk)⟩

/-! ## A collective that retires (R326) -/

/-- A commit-gated collective of a step that does not commit. -/
def retireColl (x : CollCtx) (n : Nat) (s : State) : State :=
  tokensFall x (dropHeld n (withRun n { runOf s n with retired := true } s))

theorem retireColl_runs {x : CollCtx} {n : Nat} (s : State) (hn : x.n = n) :
    (runOf (retireColl x n s) n).retired = true ∧ (runOf (retireColl x n s) n).started = (runOf s n).started ∧
      ∀ k, k ≠ n → runOf (retireColl x n s) k = runOf s k := by
  subst hn
  obtain ⟨⟨m, b, hfall⟩, hothers⟩ := tokensFall_runs x (dropHeld x.n (withRun x.n { runOf s x.n with retired := true } s))
  obtain ⟨hdrop, hkept⟩ := dropHeld_runs x.n (withRun x.n { runOf s x.n with retired := true } s)
  rw [runOf_withRun_same] at hdrop
  rw [hdrop] at hfall
  unfold retireColl
  rw [hfall]
  exact ⟨rfl, rfl, fun k hk => (hothers k hk).trans ((hkept k hk).trans (runOf_withRun_other _ _ hk))⟩

theorem exec_collectiveLaunch {n : Nat} {x : CollCtx} {sc : Score} {s : State} (hsc : s.ex.score = some sc)
    (hworks : stepWorks s = true) (hclock : s.ring.clock = true) (hx : collCtx sc s n = some x)
    (hgate : gated s (20 + x.c.engine) = false) (hmay : mayLaunch sc s n x.c = true) :
    exec (.collectiveLaunch n) s = .next (if x.c.gated ∧ s.ex.step.commit = some false then retireColl x n (fresh s)
      else if pralineTurn sc s n x.c && collOpen s x then startColl x (fresh s) else fresh s) := by
  change execCollectiveLaunch n s = _
  unfold execCollectiveLaunch onScore
  dsimp only
  rw [if_neg (by rw [show stepWorks (fresh s) = true from hworks, show (fresh s).ring.clock = true from hclock]; decide),
    show (fresh s).ex.score = some sc from hsc]
  dsimp only
  rw [show collCtx sc (fresh s) n = some x from hx]
  dsimp only
  rw [if_neg (by rw [show gated (fresh s) (20 + x.c.engine) = false from hgate,
    show mayLaunch sc (fresh s) n x.c = true from hmay]; decide)]
  rfl

/-! ## A run started -/

theorem runsKept_checkSource (x : CollCtx) (s : State) : RunsKept s (checkSource x s) := by
  unfold checkSource
  split
  · exact RunsKept.refl s
  · refine RunsKept.trans (t := bump 0x7020 3 1 (withRun x.n { runOf s x.n with inError := true } s)) ?_
      (runsKept_of_keeps (by simp))
    exact (runsKept_withRun (n := x.n) (r := { runOf s x.n with inError := true }) (s := s) id).trans
      (runsKept_of_keeps (by simp))

theorem freshRun_starts (n : Nat) (s : State) : (runOf (freshRun n s) n).started = true := by
  unfold freshRun
  dsimp only
  rw [runOf_withRun_same]

theorem runsKept_noteDigest (x : CollCtx) (s : State) : RunsKept s (noteDigest x s) := runsKept_of_keeps (by simp)

/-- A run's start, its source's digest noted and its poison found. -/
def runBegun (x : CollCtx) (s : State) : State := checkSource x (noteDigest x (freshRun x.n s))

theorem runBegun_starts (x : CollCtx) (s : State) : (runOf (runBegun x s) x.n).started = true :=
  ((runsKept_noteDigest x _).trans (runsKept_checkSource x _)).started _ (freshRun_starts x.n s)

/-- An ordered run's staging region is the engine's. -/
def runStaged (x : CollCtx) (s : State) : State :=
  match collDesc x.sc x.c.staging with
  | some d => if inOrder s x then forgetRange d.addr (validCount d * elemBytes d) s else s
  | none => s

/-- The member's own part copied. -/
def runCopied (x : CollCtx) (s : State) : State :=
  storeBytes (engineOfColl s x) (dstAddr x + (ownPart x).1 * x.esize)
    (bytesAt s (srcAddr x + (ownPart x).1 * x.esize) ((ownPart x).2 * x.esize))
    (readRange (engineOfColl s x) none (srcAddr x + (ownPart x).1 * x.esize) ((ownPart x).2 * x.esize) s)

/-- The first stage entered, or the collective complete. -/
def runEntered (x : CollCtx) (s : State) : State :=
  if x.c.kind = 2 then (if x.sts.isEmpty then completeColl x s else enterStage x (5 + (x.sts.length - 1)) s)
  else if x.sts.isEmpty then afterReduce x s
  else enterStage x 0 s

theorem runColl_eq (x : CollCtx) (s : State) :
    runColl x s = advanceColl x 12 (runEntered x (runCopied x (runStaged x (runBegun x s)))) := rfl

theorem runsKept_runEntered (x : CollCtx) (s : State) : RunsKept s (runEntered x s) := by
  unfold runEntered
  split
  · split
    · exact runsKept_completeColl ..
    · exact runsKept_enterStage ..
  · split
    · exact runsKept_afterReduce ..
    · exact runsKept_enterStage ..

theorem runsKept_runStaged (x : CollCtx) (s : State) : RunsKept s (runStaged x s) := by
  unfold runStaged
  split
  · split
    · exact runsKept_of_keeps (by simp)
    · exact RunsKept.refl s
  · exact RunsKept.refl s

theorem startColl_starts (x : CollCtx) (s : State) : (runOf (startColl x s) x.n).started = true := by
  have hbegun := runBegun_starts x s
  unfold startColl
  split
  · refine (runsKept_finishPralines x.sc _).started _ ?_
    refine Eq.trans (congrArg (fun l => (at_ ({} : CollRun) x.n l).started) (sameRuns_startPraline ..)) ?_
    exact (runsKept_of_keeps (t := readRange (engineOfColl (runBegun x s) x) none (srcAddr x) x.esize (runBegun x s))
      (by simp)).started _ hbegun
  · rw [runColl_eq]
    refine (((runsKept_runStaged x _).trans ?_).trans ((runsKept_runEntered x _).trans (runsKept_advanceColl x 12 _))).started _ hbegun
    exact runsKept_of_keeps (by simp [runCopied])

/-! ## A collective of one member -/

theorem bytesKept_poisonedSource (x : CollCtx) (s : State) : BytesKept s (checkSource x s) := by
  unfold checkSource
  split
  · exact BytesKept.refl s
  · refine BytesKept.trans (t := bump 0x7020 3 1 (withRun x.n { runOf s x.n with inError := true } s)) ?_ (bytesKept_poisonRead _ _)
    exact bytesKept_of_mem (fun h => by simp [h]) rfl

theorem bytesKept_runBegun (x : CollCtx) (s : State) : BytesKept s (runBegun x s) :=
  BytesKept.trans (s := s) (t := noteDigest x (freshRun x.n s))
    (bytesKept_of_mem (fun h => noteDigest_canon x _ (withRun_canon _ _ _ h)) rfl) (bytesKept_poisonedSource x _)

theorem bytesKept_examine (x : CollCtx) (s : State) : BytesKept s (examine x s) :=
  (bytesKept_readRange (engineOfColl s x) none (dstAddr x + (rangeOf x x.self x.sts.length).1 * x.esize)
    ((rangeOf x x.self x.sts.length).2 * x.esize) s).trans (bytesKept_of_mem (fun h => by simp [h, examine]) rfl)

theorem bytesKept_tee (x : CollCtx) (t : Nat) (s : State) : BytesKept s (tee x t s) := by
  unfold tee
  refine bytesKept_foldl (fun u owner => bytesKept_foldl (fun v i => ?_) _ _) _ _
  refine BytesKept.trans ?_ (bytesKept_readRange _ _ _ _ _)
  exact bytesKept_of_mem (fun h => ⟨h.regs, h.cells, h.msc, h.wc, h.waits⟩) rfl

theorem bytesKept_completeColl (x : CollCtx) (s : State) : BytesKept s (completeColl x s) := by
  have hdrop : BytesKept s (dropHeld x.n (withRun x.n { runOf s x.n with complete := true } s)) :=
    bytesKept_of_keeps (fun h => by simp [h]) (by simp)
  unfold completeColl
  dsimp only
  refine hdrop.trans ?_
  generalize dropHeld x.n (withRun x.n { runOf s x.n with complete := true } s) = u
  have hfalls : ∀ v : State, BytesKept v (tokensFall x v) := fun v => bytesKept_of_keeps (fun h => by simp [h]) (by simp)
  split
  · exact BytesKept.refl u
  · refine (BytesKept.trans (s := u) (t := bump 0x7020 1 1 u) (bytesKept_of_mem (fun h => by simp [h]) rfl) ?_).trans (hfalls _)
    split
    · exact bytesKept_foldl (fun v t => bytesKept_tee x t v) _ _
    · exact BytesKept.refl _

theorem completeColl_leaves {x : CollCtx} {s : State} (hrestore : s.res.restore = none) :
    (runOf (completeColl x s) x.n).complete = true ∧
      (runOf (completeColl x s) x.n).examined = (runOf s x.n).examined ∧
      rg (completeColl x s) 0x7020 1 = satAdd (sizeOf_ 0x7020 1) (rg s 0x7020 1) 1 := by
  obtain ⟨hdrop, -⟩ := dropHeld_runs x.n (withRun x.n { runOf s x.n with complete := true } s)
  have hres : (dropHeld x.n (withRun x.n { runOf s x.n with complete := true } s)).res = s.res :=
    (show Keeps 32768 s _ by simp).res (by decide)
  have hcount : RgK 274877906944 s (dropHeld x.n (withRun x.n { runOf s x.n with complete := true } s)) := by simp
  rw [runOf_withRun_same] at hdrop
  unfold completeColl
  dsimp only
  generalize dropHeld x.n (withRun x.n { runOf s x.n with complete := true } s) = u at hdrop hres hcount
  rw [if_neg (by rw [hres, hrestore]; decide)]
  have htee : ∀ v : State, (if v.ex.step.commit = some true then (glazedEntries v x.n).foldl (fun s t => tee x t s) v else v).col =
      v.col ∧ RgK 274877906944 v (if v.ex.step.commit = some true then (glazedEntries v x.n).foldl (fun s t => tee x t s) v else v) := by
    intro v
    split
    · exact ⟨(show Keeps 16384 v _ from keeps_foldl _ (fun w t => by simp) _ _ _ (Keeps.refl _ _)).col (by decide),
        rgK_foldl _ (fun w t => by simp) _ _ _ (RgK.refl _ _)⟩
    · exact ⟨rfl, RgK.refl _ _⟩
  obtain ⟨hcol, hrg⟩ := htee (bump 0x7020 1 1 u)
  generalize (if (bump 0x7020 1 1 u).ex.step.commit = some true then
    (glazedEntries (bump 0x7020 1 1 u) x.n).foldl (fun s t => tee x t s) (bump 0x7020 1 1 u) else bump 0x7020 1 1 u) = v at hcol hrg
  obtain ⟨⟨m, b, hfall⟩, -⟩ := tokensFall_runs x v
  have hrun : runOf v x.n = runOf u x.n := runOf_of_col (hcol.trans rfl) _
  rw [hfall, hrun, hdrop]
  refine ⟨rfl, rfl, ?_⟩
  rw [(show RgK 274877906944 v (tokensFall x v) by simp) 0x7020 1 (by decide), hrg 0x7020 1 (by decide)]
  exact satAdd_rg_eq 1 (hcount 0x7020 1 (by decide))

theorem ordered_poisonRead (a : Nat) (s : State) : (poisonRead a s).ex.ordered = s.ex.ordered := by
  have hevent : ∀ u : State, (faultEvent 0x03200005 3 (stackLoc s a) u).ex.ordered = u.ex.ordered :=
    fun u => congrArg Exec.ordered ((show Keeps 64 u (faultEvent 0x03200005 3 (stackLoc s a) u) by simp).ex (by decide))
  unfold poisonRead stepDataError
  dsimp only
  split
  · rfl
  · split
    · rfl
    · exact hevent { s with ex := { s.ex with step := { s.ex.step with lateErr := true, holdAtBoundary := true } } }

theorem runBegun_leaves (x : CollCtx) (s : State) : (runBegun x s).ex.ordered = s.ex.ordered ∧
    (runBegun x s).res = s.res ∧ rg (runBegun x s) 0x7020 1 = rg s 0x7020 1 := by
  have hsource : ∀ u : State, (checkSource x u).ex.ordered = u.ex.ordered ∧ (checkSource x u).res = u.res ∧
      rg (checkSource x u) 0x7020 1 = rg u 0x7020 1 := by
    intro u
    refine ⟨?_, (show Keeps 32768 u _ by simp).res (by decide), ?_⟩
    · unfold checkSource
      split
      · rfl
      · exact ordered_poisonRead _ _
    · unfold checkSource
      split
      · rfl
      · refine ((poisonRead_rgK (m := 274877906944) _ _ (by decide)).mpr (RgK.refl _ _) 0x7020 1 (by decide)).trans ?_
        exact rg_withRg_sub (withRun x.n { runOf u x.n with inError := true } u) (by decide) (by decide) (by decide)
  exact hsource (noteDigest x (freshRun x.n s))

theorem examine_leaves (x : CollCtx) (s : State) : (runOf (examine x s) x.n).examined = true := by
  unfold examine
  dsimp only
  rw [runOf_withRun_same]

/-- What an unordered region collective of one member leaves: it is complete, and its source is in its destination. -/
theorem runColl_alone {x : CollCtx} {s : State} (hc : Canon s) (hsts : x.sts = []) (hkind : x.c.kind = 0) (hj : x.j = 0)
    (hordered : s.ex.ordered = false) (hrestore : s.res.restore = none) :
    (runOf (runColl x s) x.n).complete = true ∧ (runOf (runColl x s) x.n).examined = true ∧
      (∀ a, byteAt (runColl x s) a = if dstAddr x ≤ a ∧ a < dstAddr x + x.e * x.esize
        then byteAt s (srcAddr x + (a - dstAddr x)) else byteAt s a) ∧
      rg (runColl x s) 0x7020 1 = satAdd (sizeOf_ 0x7020 1) (rg s 0x7020 1) 1 := by
  have hbegun := bytesKept_runBegun x s
  obtain ⟨hunordered, hres, hcount⟩ := runBegun_leaves x s
  have hstaged : runStaged x (runBegun x s) = runBegun x s := by
    unfold runStaged inOrder
    rw [hunordered, hordered]
    split
    · rfl
    · rfl
  rw [runColl_eq, hstaged]
  generalize runBegun x s = u at hbegun hres hcount
  have hread := bytesKept_readRange (engineOfColl u x) none (srcAddr x) (x.e * x.esize) u
  have hcopied : runCopied x u = storeBytes (engineOfColl u x) (dstAddr x) (bytesAt u (srcAddr x) (x.e * x.esize))
      (readRange (engineOfColl u x) none (srcAddr x) (x.e * x.esize) u) := by
    unfold runCopied
    rw [ownPart_alone hkind hj]
    simp only [Nat.zero_mul, Nat.add_zero]
  have hcanon : Canon (runCopied x u) := by
    rw [hcopied]
    exact storeBytes_canon _ _ _ _ (hread.canon (hbegun.canon hc))
  have hbytes : ∀ a, byteAt (runCopied x u) a = if dstAddr x ≤ a ∧ a < dstAddr x + x.e * x.esize
      then byteAt s (srcAddr x + (a - dstAddr x)) else byteAt s a := by
    intro a
    rw [hcopied, byteAt_storeBytes _ _ _ _ _ (hread.canon (hbegun.canon hc)), hread.bytes (hbegun.canon hc), hbegun.bytes hc]
    have hlen : (bytesAt u (srcAddr x) (x.e * x.esize)).length = x.e * x.esize := by simp [bytesAt]
    rw [hlen]
    split
    · next hin =>
      have hlt : a - dstAddr x < x.e * x.esize := by omega
      unfold bytesAt
      rw [List.getD_eq_getElem _ _ (by simpa using hlt)]
      simp [hbegun.bytes hc]
    · rfl
  have hrest : (runCopied x u).res.restore = none := by
    rw [(show Keeps 32768 u (runCopied x u) by simp [runCopied]).res (by decide), hres, hrestore]
  have hcounted : rg (runCopied x u) 0x7020 1 = rg s 0x7020 1 :=
    ((show RgK 274877906944 u (runCopied x u) by simp [runCopied]) 0x7020 1 (by decide)).trans hcount
  generalize runCopied x u = v at hcanon hbytes hrest hcounted
  have hentered : runEntered x v = completeColl x (examine x v) := by
    unfold runEntered afterReduce
    dsimp only
    rw [if_neg (by rw [hkind]; decide), if_pos (by rw [hsts]; rfl), if_pos (c := x.c.kind ≤ 1) (by rw [hkind]; decide),
      if_neg (fun h => by rw [hj] at h; exact absurd h.2 (by decide))]
  have hres' : (examine x v).res.restore = none := by
    rw [(show Keeps 32768 v (examine x v) by simp).res (by decide), hrest]
  obtain ⟨hcomplete, hexamined, hdone⟩ := completeColl_leaves (x := x) hres'
  have hstop : advanceColl x 12 (runEntered x v) = runEntered x v := by
    rw [hentered]
    unfold advanceColl
    dsimp only
    rw [hcomplete]
    exact if_neg (by simp)
  rw [hstop, hentered]
  refine ⟨hcomplete, hexamined.trans (examine_leaves x v), fun a => ?_, hdone.trans ?_⟩
  · exact (((bytesKept_examine x v).trans (bytesKept_completeColl x _)).bytes hcanon a).trans (hbytes a)
  · rw [(show RgK 274877906944 v (examine x v) by simp) 0x7020 1 (by decide), hcounted]

end Sys2Proof.Machine

end

section
/-! A chunk received (spec/11_collectives.md, Chunks and reduce-on-receive). -/

namespace Sys2Proof.Machine

/-- A good chunk as it is held, its granules owed. -/
def goodChunk (c : Chunk) : HeldChunk := { chunk := c, owed := true, failed := false }

/-! ## The chunk's count changes nothing that its use reads -/

/-- The state once a chunk has been counted. -/
def chunkCounted (s : State) : State := bump 0x7020 2 1 s

theorem rg_chunkCounted (s : State) {i : Nat} (j : Nat) (h : i ≠ 0x7020) : rg (chunkCounted s) i j = rg s i j :=
  rg_withRg_other _ _ (by unfold keyOf; omega)

theorem sameMap_chunkCounted (s : State) : SameMap s (chunkCounted s) where
  node := rg_chunkCounted s 1 (by decide)
  job := fun j => rg_chunkCounted s j (by decide)
  pair := ⟨rg_chunkCounted s 1 (by decide), rg_chunkCounted s 2 (by decide)⟩
  overrides := rfl

theorem SameMap.trans {s t u : State} (h : SameMap s t) (k : SameMap t u) : SameMap s u where
  node := k.node.trans h.node
  job := fun j => (k.job j).trans (h.job j)
  pair := ⟨k.pair.1.trans h.pair.1, k.pair.2.trans h.pair.2⟩
  overrides := k.overrides.trans h.overrides

theorem resolved_of_sameMap {s t : State} (h : SameMap s t) (a : Nat) : resolved t a = resolved s a := by
  unfold resolved rankAddr
  rw [affineRank_of_sameMap h, h.overrides]
  split
  · split
    · rfl
    · exact affineAddr_of_sameMap h _
  · rfl

theorem stagesNow_chunkCounted (s : State) (g : Nat) : stagesNow (chunkCounted s) g = stagesNow s g := by
  have hgroup : regularGroup (tablesStep (chunkCounted s)) (ownAffine s) g = regularGroup (tablesStep s) (ownAffine s) g := by
    unfold regularGroup
    rw [show rgIn (tablesStep (chunkCounted s)).regs 0x6000 2 = rgIn (tablesStep s).regs 0x6000 2 from
        rg_chunkCounted s 2 (by decide),
      show rgIn (tablesStep (chunkCounted s)).regs 0x6000 1 = rgIn (tablesStep s).regs 0x6000 1 from
        rg_chunkCounted s 1 (by decide)]
    rfl
  unfold stagesNow groupStages
  rw [ownAffine_of_sameMap (sameMap_chunkCounted s), hgroup]

theorem collCtx_chunkCounted (sc : Score) (s : State) (n : Nat) : collCtx sc (chunkCounted s) n = collCtx sc s n := by
  have hcross : crossover (chunkCounted s).regs = crossover s.regs := by
    unfold crossover
    rw [show rgIn (chunkCounted s).regs 0x7010 1 = rgIn s.regs 0x7010 1 from rg_chunkCounted s 1 (by decide),
      show rgIn (chunkCounted s).regs 0x6000 2 = rgIn s.regs 0x6000 2 from rg_chunkCounted s 2 (by decide)]
  unfold collCtx
  refine congrArg (fun f => (sc.colls[n]?).map f) (funext fun c => ?_)
  rw [stagesNow_chunkCounted, ownAffine_of_sameMap (sameMap_chunkCounted s), hcross]

theorem collOpen_chunkCounted (s : State) (x : CollCtx) : collOpen (chunkCounted s) x = collOpen s x := by
  have hshut : ∀ q p, partShut (chunkCounted s) q p = partShut s q p := fun q p => by
    unfold partShut partRate partBorrow regCredit partDepth regMissing partRate
    rw [rg_chunkCounted s _ (by decide)]
    rfl
  have hquad : ∀ a, quadrantOf (chunkCounted s) a = quadrantOf s a := fun a => by
    unfold quadrantOf placeOf
    rw [rg_chunkCounted s _ (by decide)]
  unfold collOpen shutOut
  rw [rg_chunkCounted s _ (by decide)]
  simp only [hshut, hquad]

theorem chunkFits_chunkCounted (x : CollCtx) (s : State) (c : Chunk) : chunkFits x (chunkCounted s) c = chunkFits x s c := by
  unfold chunkFits senderAt
  simp only [resolved_of_sameMap (sameMap_chunkCounted s)]

/-! ## A chunk of the next step (R337) -/

theorem exec_collectiveChunk (c : Chunk) {s : State} (hreset : s.pwr.inReset = false) (hclock : s.ring.clock = true) :
    exec (.collectiveChunk c) s = .next (takeChunk true c (fresh s)) := by
  change execCollectiveChunk c s = _
  unfold execCollectiveChunk
  dsimp only
  exact congrArg Host.Outcome.next (if_neg (by
    rw [show (fresh s).pwr.inReset = false from hreset, show (fresh s).ring.clock = true from hclock]; decide))

theorem takeChunk_early {c : Chunk} {sc : Score} {s : State} (hsc : s.ex.score = some sc)
    (hnow : ((s.ex.step.running || s.res.restore.isSome) && c.round == roundOf s) = false)
    (hround : c.round = s.ex.nextStep % 64) (htype : c.subtype ≠ 3) :
    takeChunk true c s =
      withCol (fun x => { x with early := x.early ++ [{ chunk := c, owed := true, failed := !crcGood c }] })
        (bump 0x7020 4 1 (chunkCounted s)) := by
  unfold takeChunk onScore
  rw [show (bump 0x7020 2 1 s).ex.score = some sc from hsc]
  dsimp only
  rw [if_neg (fun h => htype h.1), if_neg (by
    rw [show (((bump 0x7020 2 1 s).ex.step.running || (bump 0x7020 2 1 s).res.restore.isSome) &&
      c.round == roundOf (bump 0x7020 2 1 s)) = false from hnow]; decide)]
  exact if_pos hround

theorem takeChunk_now {c : Chunk} {sc : Score} {s : State} (hsc : s.ex.score = some sc)
    (hnow : ((s.ex.step.running || s.res.restore.isSome) && c.round == roundOf s) = true)
    (htype : c.subtype ≠ 3) (hgood : crcGood c = true) :
    takeChunk true c s = chunkNow sc (goodChunk c) (chunkCounted s) := by
  unfold takeChunk onScore
  rw [show (bump 0x7020 2 1 s).ex.score = some sc from hsc]
  dsimp only
  rw [if_neg (fun h => htype h.1)]
  refine (if_pos hnow).trans ?_
  rw [hgood]
  rfl

/-! ## A chunk used at once (R330, R334) -/

/-- The chunk's data stored, or added to what is there. -/
def chunkStored (x : CollCtx) (c : Chunk) (s : State) : State :=
  if 5 ≤ c.stage then storeBytes (engineOfColl s x) (dstAddr x + c.offset) c.data s
  else storeBytes (engineOfColl s x) (dstAddr x + c.offset)
    (reduceBytes x.c.format x.c.op x.esize (bytesAt s (dstAddr x + c.offset) c.data.length) c.data)
    (readRange (engineOfColl s x) none (dstAddr x + c.offset) c.data.length s)

theorem useChunk_stores {x : CollCtx} {c : Chunk} {s : State} (hkind : x.c.kind ≠ 6)
    (horder : ¬ (c.stage < 5 ∧ inOrder s x = true)) :
    useChunk x (goodChunk c) s = returnChunk c (chunkStored x c s) := by
  unfold useChunk goodChunk returnHeld chunkStored
  dsimp only
  rw [if_pos rfl, if_neg (not_or.mpr ⟨hkind, horder⟩)]

/-- A good chunk of a started collective's stage, used where nothing holds it. -/
theorem chunkNow_used {x : CollCtx} {c : Chunk} {sc : Score} {s : State} (hx : collCtx sc s c.coll = some x)
    (htype : c.subtype ≠ 3) (hstarted : (runOf s c.coll).started = true) (hlive : (runOf s c.coll).complete = false)
    (hin : (runOf s c.coll).retired = false) (hstage : (runOf s c.coll).stage = c.stage) (hopen : collOpen s x = true)
    (hfits : chunkFits x s c = true) (hkind : x.c.kind ≠ 6) (horder : ¬ (c.stage < 5 ∧ inOrder s x = true)) :
    chunkNow sc (goodChunk c) s = advanceColl x 12 (noteReceived c.coll c (returnChunk c (chunkStored x c s))) := by
  obtain ⟨-, hn, -⟩ := collCtx_fields hx
  unfold chunkNow
  dsimp only
  rw [show (goodChunk c).failed = false from rfl, show (goodChunk c).chunk = c from rfl]
  simp only [Bool.false_eq_true, if_false]
  rw [if_neg htype, hx]
  dsimp only
  rw [hn, if_neg (by
    unfold awaitsReplay
    rw [hn, hlive]
    simp), if_neg (by rw [hlive, hin]; decide), if_neg (by rw [hstarted, hstage, hopen]; simp)]
  unfold applyChunk
  dsimp only
  rw [show (goodChunk c).chunk = c from rfl, hfits, if_neg (by decide), if_pos (c := (!(goodChunk c).failed) = true) rfl, hn, useChunk_stores hkind horder]

theorem bytesKept_returnChunk (c : Chunk) (s : State) : BytesKept s (returnChunk c s) :=
  bytesKept_of_keeps (fun h => by simp [h]) (by simp)

theorem chunkStored_bytes (x : CollCtx) (c : Chunk) {s : State} (hc : Canon s) (y : Nat) :
    byteAt (chunkStored x c s) y =
      if dstAddr x + c.offset ≤ y ∧ y < dstAddr x + c.offset + (if 5 ≤ c.stage then c.data else
        reduceBytes x.c.format x.c.op x.esize (bytesAt s (dstAddr x + c.offset) c.data.length) c.data).length
      then (if 5 ≤ c.stage then c.data else reduceBytes x.c.format x.c.op x.esize
        (bytesAt s (dstAddr x + c.offset) c.data.length) c.data).getD (y - (dstAddr x + c.offset)) 0
      else byteAt s y := by
  unfold chunkStored
  split
  · exact byteAt_storeBytes _ _ _ _ _ hc
  · have hread := bytesKept_readRange (engineOfColl s x) none (dstAddr x + c.offset) c.data.length s
    rw [byteAt_storeBytes _ _ _ _ _ (hread.canon hc), hread.bytes hc]

theorem chunkStored_canon (x : CollCtx) (c : Chunk) {s : State} (hc : Canon s) : Canon (chunkStored x c s) := by
  unfold chunkStored
  split
  · exact storeBytes_canon _ _ _ _ hc
  · exact storeBytes_canon _ _ _ _ (readRange_canon _ _ _ _ _ hc)

theorem chunkStored_keeps (x : CollCtx) (c : Chunk) (s : State) : Keeps 1048041 s (chunkStored x c s) := by
  unfold chunkStored
  split
  · simp
  · simp

theorem chunkStored_rgK (x : CollCtx) (c : Chunk) (s : State) : RgK 17868406128640 s (chunkStored x c s) := by
  unfold chunkStored
  split
  · simp
  · simp

theorem overrides_returnChunk (c : Chunk) (s : State) : (returnChunk c s).fab.overrides = s.fab.overrides := by
  unfold returnChunk
  split
  · unfold returnOn
    split
    · rfl
    · unfold sendControl sendParcel
      split
      · rfl
      · split
        · rfl
        · rfl
  · rfl

theorem sameMap_used (x : CollCtx) (c : Chunk) (s : State) : SameMap s (returnChunk c (chunkStored x c s)) := by
  have hrg : RgK 17868406128640 s (returnChunk c (chunkStored x c s)) :=
    (chunkStored_rgK x c s).trans ((returnChunk_rgK _ _ (by decide)).mpr (RgK.refl _ _))
  exact {
    node := hrg 0x6000 1 (by decide)
    job := fun j => hrg 0x6020 j (by decide)
    pair := ⟨hrg 0x8020 1 (by decide), hrg 0x8020 2 (by decide)⟩
    overrides := (overrides_returnChunk ..).trans (congrArg Fabric.overrides ((chunkStored_keeps x c s).fab (by decide))) }

/-- No stage passes where the chunk does not complete its stage. -/
theorem advanceColl_stays {x : CollCtx} {s t : State} (n : Nat) (hmap : SameMap s t) (hrun : runOf t x.n = runOf s x.n)
    (h : stageDone x s = false) : advanceColl x (n + 1) t = t := by
  have hdone : stageDone x t = false := by
    rw [← h]
    unfold stageDone
    rw [hrun]
    simp only [resolved_of_sameMap hmap]
  unfold advanceColl
  dsimp only
  exact if_neg (by rw [hdone]; simp)

end Sys2Proof.Machine

open Sys2Proof Sys2Proof.Machine

/-- Settles O27, by what a launch and a chunk used at once leave. -/
theorem collectivesStartAndTakeTheirChunks : Obligations.CollectivesStartAndTakeTheirChunks := by
  unfold Obligations.CollectivesStartAndTakeTheirChunks
  refine ⟨fun n x sc s hsc hworks hclock hx hgate hmay hgated hcommit => ?retires,
    fun n x sc s hsc hcanon hworks hclock hx hgate hmay hruns hturn hopen => ?starts,
    fun c sc s hreset hclock hsc hnow hround htype => ?early,
    fun c x a b sc s hreset hcanon hclock hsc hnow htype hgood hx hstarted hlive hin hstage hopen hfits hkind horder hpart
      ha hb => ?used⟩
  case retires =>
    have hexec := exec_collectiveLaunch hsc hworks hclock hx hgate hmay
    rw [if_pos ⟨hgated, hcommit⟩] at hexec
    obtain ⟨-, hn, -⟩ := collCtx_fields hx
    obtain ⟨hretired, hstarted, hothers⟩ := retireColl_runs (fresh s) hn
    have hidle : (runOf s n).started = false := by
      unfold mayLaunch at hmay
      simp only [Bool.and_eq_true, Bool.not_eq_true'] at hmay
      obtain ⟨⟨⟨⟨⟨⟨hidle, -⟩, -⟩, -⟩, -⟩, -⟩, -⟩ := hmay
      exact hidle
    have hkeeps : Keeps 1023917 s (retireColl x n (fresh s)) := by simp [retireColl]
    have hid : stepId (retireColl x n (fresh s)) = stepId (fresh s) := by simp [retireColl]
    exact ⟨_, hexec, hretired, hstarted.trans hidle, hothers, hid, unchanged_of_covered hkeeps rfl⟩
  case starts =>
    have hexec := exec_collectiveLaunch hsc hworks hclock hx hgate hmay
    rw [if_neg hruns, if_pos (by rw [hturn, hopen]; rfl)] at hexec
    obtain ⟨-, hn, hj⟩ := collCtx_fields hx
    refine ⟨_, hexec, hn ▸ startColl_starts x (fresh s), startColl_stepId .., fun hsts hlane hzero hordered hrestore => ?_,
      exec_unchanged hexec⟩
    have hrun : startColl x (fresh s) = runColl x (fresh s) := by
      unfold startColl
      exact if_neg (by rw [hlane]; decide)
    rw [hrun, ← hn]
    exact runColl_alone (fresh_canon _ ((canon_iff s).mpr hcanon)) hsts hzero (hj hsts hzero) hordered hrestore
  case early =>
    have hexec := exec_collectiveChunk c hreset hclock
    rw [takeChunk_early (s := fresh s) hsc hnow hround htype] at hexec
    have hregs : regsExcept [(0x7020, 2), (0x7020, 4)] s (bump 0x7020 4 1 (chunkCounted (fresh s))) :=
      regsExcept_trans (regsExcept_bump (l := [(0x7020, 2), (0x7020, 4)]) 1 (fresh s) (by decide) (by decide))
        (regsExcept_bump _ _ (by decide) (by decide))
    refine ⟨_, hexec, rfl, ?_, ?_, hregs, unchanged_of_covered (m := 1032173) (by simp [chunkCounted]) rfl⟩
    · exact (rg_withRg_sub _ (by decide) (by decide) (by decide)).trans (rg_withRg_same ..)
    · refine (rg_withRg_same ..).trans ?_
      rw [show rg (chunkCounted (fresh s)) 0x7020 4 = rg s 0x7020 4 from rg_withRg_sub _ (by decide) (by decide) (by decide)]
  case used =>
    have hexec := exec_collectiveChunk c hreset hclock
    have hctx : collCtx sc (chunkCounted (fresh s)) c.coll = some x := (collCtx_chunkCounted sc (fresh s) c.coll).trans hx
    obtain ⟨-, hn, -⟩ := collCtx_fields hx
    rw [takeChunk_now (s := fresh s) hsc hnow htype hgood, chunkNow_used hctx htype hstarted hlive hin hstage
      ((collOpen_chunkCounted (fresh s) x).trans hopen) ((chunkFits_chunkCounted x (fresh s) c).trans hfits) hkind horder] at hexec
    have hcol : (returnChunk c (chunkStored x c (chunkCounted (fresh s)))).col = s.col :=
      ((show Keeps 16384 (chunkStored x c (chunkCounted (fresh s))) (returnChunk c _) by simp).col (by decide)).trans
        ((chunkStored_keeps x c (chunkCounted (fresh s))).col (by decide))
    have hrun : runOf (noteReceived c.coll c (returnChunk c (chunkStored x c (chunkCounted (fresh s))))) c.coll =
        { runOf s c.coll with recv := (runOf s c.coll).recv ++ [(c.stage, c.src, c.offset, c.data.length)] } := by
      unfold noteReceived
      rw [runOf_withRun_same, runOf_of_col hcol]
    have hmap := sameMap_used x c (chunkCounted (fresh s))
    have hcount := (chunkStored_rgK x c (chunkCounted (fresh s)))
    have hkeeps : Keeps 1023465 s (noteReceived c.coll c (returnChunk c (chunkStored x c (chunkCounted (fresh s))))) :=
      Keeps.trans (t := chunkCounted (fresh s)) (by simp [chunkCounted])
        (((chunkStored_keeps x c _).mono (by decide)).trans (by simp))
    have hdone : advanceColl x 12 (noteReceived c.coll c (returnChunk c (chunkStored x c (chunkCounted (fresh s))))) =
        noteReceived c.coll c (returnChunk c (chunkStored x c (chunkCounted (fresh s)))) := by
      refine advanceColl_stays 11 (s := noteReceived c.coll c s) ?_ ?_ hpart
      · exact SameMap.trans (t := chunkCounted (fresh s)) ⟨(sameMap_chunkCounted (fresh s)).node, (sameMap_chunkCounted (fresh s)).job,
          (sameMap_chunkCounted (fresh s)).pair, rfl⟩ ⟨hmap.node, hmap.job, hmap.pair, hmap.overrides⟩
      · rw [hn, hrun]
        exact (runOf_withRun_same ..).symm
    rw [hdone] at hexec
    have hcanonical : Canon (chunkCounted (fresh s)) := by
      have := fresh_canon _ ((canon_iff s).mpr hcanon)
      unfold chunkCounted
      simp [this]
    refine ⟨_, hexec, ?_, hrun, fun k hk => ?_, fun y => ?_, unchanged_of_covered hkeeps rfl⟩
    · refine ((returnChunk_rgK (m := 274877906944) _ _ (by decide)).mpr (RgK.refl _ _) 0x7020 2 (by decide)).trans ?_
      exact (hcount 0x7020 2 (by decide)).trans (rg_withRg_same ..)
    · exact (runOf_withRun_other _ _ hk).trans (runOf_of_col hcol k)
    · refine ((bytesKept_returnChunk c _).bytes (chunkStored_canon x c hcanonical) y).trans ?_
      rw [hb, ha]
      exact chunkStored_bytes x c hcanonical y

end

section
/-! The units of the quadrant links (spec/01_architecture.md, Units, Credits and Retry). -/

namespace Sys2Proof.Machine

/-! ## The two directions of a link -/

@[simp] theorem dirOf_setDir_same (up : Bool) (d : QlDir) (l : QlLink) : dirOf (setDir up d l) up = d := by
  cases up
  · rfl
  · rfl

@[simp] theorem dirOf_setDir_not (up : Bool) (d : QlDir) (l : QlLink) : dirOf (setDir up d l) (!up) = dirOf l (!up) := by
  cases up
  · rfl
  · rfl

@[simp] theorem dirOf_setDir_not' (up : Bool) (d : QlDir) (l : QlLink) : dirOf (setDir (!up) d l) up = dirOf l up := by
  cases up
  · rfl
  · rfl

/-- A direction of a link replaced. -/
def withDir (k : Nat) (up : Bool) (d : QlDir) (s : State) : State := withLink k (setDir up d (linkOf s k)) s

theorem dirOf_withDir_same (k : Nat) (up : Bool) (d : QlDir) (s : State) : dirOf (linkOf (withDir k up d s) k) up = d := by
  unfold withDir
  rw [linkOf_withLink_same, dirOf_setDir_same]

theorem dirOf_withDir_not (k : Nat) (up : Bool) (d : QlDir) (s : State) :
    dirOf (linkOf (withDir k up d s) k) (!up) = dirOf (linkOf s k) (!up) := by
  unfold withDir
  rw [linkOf_withLink_same, dirOf_setDir_not]

theorem dirOf_withDir_not' (k : Nat) (up : Bool) (d : QlDir) (s : State) :
    dirOf (linkOf (withDir k (!up) d s) k) up = dirOf (linkOf s k) up := by
  unfold withDir
  rw [linkOf_withLink_same, dirOf_setDir_not']

theorem linkOf_withDir_other {k n : Nat} (up : Bool) (d : QlDir) (s : State) (h : n ≠ k) :
    linkOf (withDir k up d s) n = linkOf s n := linkOf_withLink_other _ _ h

theorem withDir_keeps (k : Nat) (up : Bool) (d : QlDir) (s : State) : Keeps 1047551 s (withDir k up d s) := by
  simp [withDir]

/-! ## A unit taken or refused -/

theorem takeAckCredit_eq (k : Nat) (up : Bool) (f : UnitFields) (s : State) :
    takeAckCredit k up f s = withDir k (!up) (ackedDir f s.pwr.time (dirOf (linkOf s k) (!up))) s := rfl

theorem clearNak_eq (u : QlUnit) (s : State) :
    clearNak u s = withDir u.link u.up { dirOf (linkOf s u.link) u.up with nakSent := false } s := rfl

theorem refuseUnit_naks {u : QlUnit} {s : State} (h : (dirOf (linkOf s u.link) u.up).nakSent = false) :
    refuseUnit u s = emit (nakOf u (dirOf (linkOf s u.link) u.up))
      (withDir u.link u.up { dirOf (linkOf s u.link) u.up with nakSent := true } s) :=
  if_neg (by rw [h]; decide)

/-- The direction of a data unit after it. -/
def takenDir (b : Bytes) (d : QlDir) : QlDir :=
  { d with
    expected := (d.expected + 1) % 1024, nakSent := false, takeRest := (unitPackets d.takeRest (slice b 4 120)).2
    owed := (List.range 5).foldl (fun m c =>
      set_ 0 c (at_ 0 c m + classNeed (unitPackets d.takeRest (slice b 4 120)).1 c) m) d.owed }

theorem takenDir_fields (b : Bytes) (d : QlDir) : (takenDir b d).expected = (d.expected + 1) % 1024 ∧
    (takenDir b d).nakSent = false ∧ (takenDir b d).replay = d.replay ∧ (takenDir b d).next = d.next :=
  ⟨rfl, rfl, rfl, rfl⟩

/-- The die that receives a link's units. -/
def unitDie (u : QlUnit) : Nat := if u.up then (linkDies u.link).2 else (linkDies u.link).1

theorem takeUnit_eq (u : QlUnit) (b : Bytes) (s : State) :
    takeUnit u b s = receivePackets (unitDie u)
      (unitPackets (dirOf (linkOf s u.link) u.up).takeRest (slice b 4 120)).1
      (takeAckCredit u.link u.up (unitFields b) (withDir u.link u.up (takenDir b (dirOf (linkOf s u.link) u.up)) s)) := rfl

theorem receivePackets_good (die : Nat) {ps : List Packet} (s : State) (h : ∀ p ∈ ps, packetOk p = true) :
    receivePackets die ps s = s := by
  unfold receivePackets
  rw [List.filter_eq_nil_iff.mpr fun p hp => by simp [h p hp]]
  rfl

theorem receivePackets_bad (die : Nat) {p : Packet} (s : State) (h : packetOk p = false) :
    receivePackets die [p] s = discardPacket die 0x7FF s := by
  unfold receivePackets
  rw [List.filter_cons_of_pos (by rw [h]; rfl)]
  rfl

theorem exec_qlDataUnit {u : QlUnit} {payload : Bytes} {d : QlDir} {s : State} (hworks : linkWorks s u.link = true)
    (hformed : unitFormed u 0 (dirOf (linkOf s u.link) !u.up) = true)
    (hsent : sendUnit u payload (dirOf (linkOf s u.link) u.up) s.pwr.time = some d) :
    exec (.qlDataUnit u payload) s = .next (if unitGood (arrived u payload) d
      then takeUnit u (arrived u payload) (withDir u.link u.up d (fresh s)) else refuseUnit u (withDir u.link u.up d (fresh s))) := by
  change execQlDataUnit u payload s = _
  unfold execQlDataUnit
  dsimp only
  rw [if_neg (by rw [show linkWorks (fresh s) u.link = true from hworks,
      show unitFormed u 0 (dirOf (linkOf (fresh s) u.link) !u.up) = true from hformed]; decide),
    show sendUnit u payload (dirOf (linkOf (fresh s) u.link) u.up) (fresh s).pwr.time = some d from hsent]
  rfl

/-- What a good data unit leaves of its link, before its packets are looked at. -/
def unitTaken (u : QlUnit) (b : Bytes) (d : QlDir) (s : State) : State :=
  takeAckCredit u.link u.up (unitFields b) (withDir u.link u.up (takenDir b d) (withDir u.link u.up d s))

theorem takeUnit_withDir (u : QlUnit) (b : Bytes) (d : QlDir) (s : State) :
    takeUnit u b (withDir u.link u.up d s) =
      receivePackets (unitDie u) (unitPackets d.takeRest (slice b 4 120)).1 (unitTaken u b d s) := by
  rw [takeUnit_eq, dirOf_withDir_same]
  rfl

theorem unitTaken_leaves (u : QlUnit) (b : Bytes) (d : QlDir) (s : State) :
    dirOf (linkOf (unitTaken u b d s) u.link) u.up = takenDir b d ∧
      dirOf (linkOf (unitTaken u b d s) u.link) (!u.up) =
        ackedDir (unitFields b) s.pwr.time (dirOf (linkOf s u.link) (!u.up)) ∧
      (∀ k, k ≠ u.link → linkOf (unitTaken u b d s) k = linkOf s k) ∧ Keeps 1047551 s (unitTaken u b d s) := by
  unfold unitTaken
  rw [takeAckCredit_eq]
  refine ⟨?_, ?_, fun k hk => ?_, ?_⟩
  · rw [dirOf_withDir_not', dirOf_withDir_same]
  · rw [dirOf_withDir_same, dirOf_withDir_not, dirOf_withDir_not]
    rfl
  · rw [linkOf_withDir_other _ _ _ hk, linkOf_withDir_other _ _ _ hk, linkOf_withDir_other _ _ _ hk]
  · exact ((withDir_keeps ..).trans (withDir_keeps ..)).trans (withDir_keeps ..)

theorem discardPacket_dieErrors (die ep : Nat) (s : State) :
    (discardPacket die ep s).dieErrors = set_ 0 die (at_ 0 die s.dieErrors + 1) s.dieErrors := by
  unfold discardPacket
  exact (show Keeps 2048 _ (faultEvent _ _ _ _) from (faultEvent_keeps _ _ _ _ (by decide)).mpr (Keeps.refl _ _)).dieErrors (by decide)

theorem regsExcept_discardPacket {l : List (Nat × Nat)} (die ep : Nat) (s : State) :
    regsExcept l s (discardPacket die ep s) := regsExcept_raise _ _ _ { s with dieErrors := _ }

/-! ## Resends -/

/-- A sender's units resent. -/
def unitsResent (k : Nat) (up : Bool) (s : State) : State :=
  let d := dirOf (linkOf s k) up
  emit (.qlResend k up (d.replay.map (fun u => u.1)))
    (bump 0x6E01 k d.replay.length
      (withDir k up { d with replay := d.replay.map (fun u => (u.1, u.2 + 1)), timer := s.pwr.time } s))

theorem resendUnits_resent {k : Nat} {up : Bool} {s : State} (h : mayResend (dirOf (linkOf s k) up)) :
    resendUnits k up s = unitsResent k up s := by
  obtain ⟨hsome, hfew⟩ := h
  unfold resendUnits
  dsimp only
  rw [if_neg (by simpa using hsome), if_neg (by simpa using hfew)]
  rfl

theorem resendUnits_retrains {k : Nat} {up : Bool} {s : State} (h : ∃ x ∈ (dirOf (linkOf s k) up).replay, 8 ≤ x.2) :
    resendUnits k up s = beginRetrain k s := by
  obtain ⟨x, hx, hmany⟩ := h
  unfold resendUnits
  dsimp only
  rw [if_neg (by simpa using List.ne_nil_of_mem hx)]
  exact if_pos (List.any_eq_true.mpr ⟨x, hx, by simpa using hmany⟩)

theorem unitsResent_leaves {link : Nat} {up : Bool} {d : QlDir} {s u : State} (hk : link < 256)
    (hsent : u.sent = []) (hd : dirOf (linkOf u link) up = d) (hothers : ∀ k, k ≠ link → linkOf u k = linkOf s k)
    (hkeeps : Keeps 1047549 s u) : Resent link up d s (unitsResent link up u) where
  sent := by
    unfold unitsResent emit
    dsimp only
    rw [hd]
    exact congrArg (· ++ _) hsent
  dir := by
    unfold unitsResent
    dsimp only
    refine (congrArg (dirOf · up) (linkOf_of_links (t := emit _ _) (s := withDir link up _ u) rfl link)).trans ?_
    rw [dirOf_withDir_same, hd, hkeeps.pwr (by decide)]
  count := by
    unfold unitsResent
    dsimp only
    refine (rg_withRg_same ..).trans ?_
    rw [hd, show rg (withDir link up _ u) 0x6E01 link = rg s 0x6E01 link from rg_of_regs (hkeeps.regs (by decide)) _ _]
  others := fun k hk' => by
    refine (linkOf_of_links (t := unitsResent link up u) (s := withDir link up _ u) rfl k).trans ?_
    rw [linkOf_withDir_other _ _ _ hk', hothers k hk']
  regs := by
    have hbump : regsExcept [(0x6E01, link)] (withDir link up { dirOf (linkOf u link) up with
        replay := (dirOf (linkOf u link) up).replay.map (fun x => (x.1, x.2 + 1)), timer := u.pwr.time } u)
        (unitsResent link up u) := regsExcept_bump _ _ hk List.mem_cons_self
    exact regsExcept_trans (regsExcept_of_regs (hkeeps.regs (by decide))) hbump
  frame := by
    have h : Keeps 1047533 s (unitsResent link up u) := (hkeeps.mono (by decide)).trans (by simp [unitsResent, withDir])
    exact unchanged_of_covered h rfl

theorem link_lt_of_works {s : State} {k : Nat} (h : linkWorks s k = true) : k < 256 := by
  unfold linkWorks at h
  simp only [Bool.and_eq_true, decide_eq_true_eq] at h
  omega

/-! ## Idle and NAK units -/

theorem exec_qlIdleUnit {u : QlUnit} {s : State} (h : bareUnit u 1 s = true) :
    exec (.qlIdleUnit u) s = .next (if unitGood (arrived u []) (dirOf (linkOf s u.link) u.up)
      then takeAckCredit u.link u.up (unitFields (arrived u [])) (clearNak u (fresh s)) else refuseUnit u (fresh s)) := by
  change execQlIdleUnit u s = _
  unfold execQlIdleUnit
  dsimp only
  rw [if_neg (by rw [show bareUnit u 1 (fresh s) = true from h]; decide)]
  rfl

theorem exec_qlNakUnit {u : QlUnit} {s : State} (h : bareUnit u 2 s = true)
    (hgood : unitGood (arrived u []) (dirOf (linkOf s u.link) u.up) = true) :
    exec (.qlNakUnit u) s = .next (resendUnits u.link (!u.up)
      (takeAckCredit u.link u.up (unitFields (arrived u [])) (clearNak u (fresh s)))) := by
  change execQlNakUnit u s = _
  unfold execQlNakUnit
  dsimp only
  rw [if_neg (by rw [show bareUnit u 2 (fresh s) = true from h]; decide)]
  exact congrArg Host.Outcome.next (if_pos hgood)

/-- What an idle or NAK unit in order brings. -/
theorem bareUnit_leaves (u : QlUnit) (s : State) :
    dirOf (linkOf (takeAckCredit u.link u.up (unitFields (arrived u [])) (clearNak u s)) u.link) (!u.up) =
        ackedDir (unitFields (arrived u [])) s.pwr.time (dirOf (linkOf s u.link) (!u.up)) ∧
      dirOf (linkOf (takeAckCredit u.link u.up (unitFields (arrived u [])) (clearNak u s)) u.link) u.up =
        { dirOf (linkOf s u.link) u.up with nakSent := false } ∧
      (∀ k, k ≠ u.link →
        linkOf (takeAckCredit u.link u.up (unitFields (arrived u [])) (clearNak u s)) k = linkOf s k) ∧
      Keeps 1047551 s (takeAckCredit u.link u.up (unitFields (arrived u [])) (clearNak u s)) := by
  rw [takeAckCredit_eq, clearNak_eq]
  refine ⟨?_, ?_, fun k hk => ?_, (withDir_keeps ..).trans (withDir_keeps ..)⟩
  · rw [dirOf_withDir_same, dirOf_withDir_not]
    rfl
  · rw [dirOf_withDir_not', dirOf_withDir_same]
  · rw [linkOf_withDir_other _ _ _ hk, linkOf_withDir_other _ _ _ hk]

theorem bareUnit_works {u : QlUnit} {kind : Nat} {s : State} (h : bareUnit u kind s = true) : linkWorks s u.link = true := by
  unfold bareUnit at h
  simp only [Bool.and_eq_true] at h
  exact h.1.1

theorem exec_qlReplayTimeout {k : Nat} {up : Bool} {s : State} (hworks : linkWorks s k = true)
    (hdue : (dirOf (linkOf s k) up).timer + 1000 ≤ s.pwr.time) :
    exec (.qlReplayTimeout k up) s = .next (resendUnits k up (fresh s)) := by
  change execQlReplayTimeout k up s = _
  unfold execQlReplayTimeout
  dsimp only
  refine congrArg Host.Outcome.next (if_neg ?_)
  rw [show linkWorks (fresh s) k = true from hworks,
    show decide ((fresh s).pwr.time < (dirOf (linkOf (fresh s) k) up).timer + 1000) = false from
      decide_eq_false (Nat.not_lt.mpr hdue)]
  decide

end Sys2Proof.Machine

open Sys2Proof Sys2Proof.Machine

/-- Settles O32, by what a unit leaves of the two directions of its link. -/
theorem linksTakeAndResendUnits : Obligations.LinksTakeAndResendUnits := by
  unfold Obligations.LinksTakeAndResendUnits
  refine ⟨fun u payload d s hworks hformed hsend hgood hpackets => ?data,
    fun u payload d p die s hworks hformed hsend hgood hpackets hbad hdie => ?badPacket,
    fun u payload d s hworks hformed hsend hbad hnak => ?refused, fun u s hbare hgood => ?idle,
    fun u s hbare hbad hnak => ?idleRefused, fun u d s hbare hgood hd hmay => ?nak,
    fun k up s hworks hdue hmay => ?timeout, fun k up recent s hworks hdue hmany hrecent hfew => ?retrain,
    fun k up s hearly => ?early⟩
  case data =>
    have hexec := exec_qlDataUnit hworks hformed hsend
    rw [if_pos hgood, takeUnit_withDir, receivePackets_good _ _ hpackets] at hexec
    obtain ⟨hdir, hback, hothers, hkeeps⟩ := unitTaken_leaves u (arrived u payload) d (fresh s)
    obtain ⟨hexpected, hnak, hreplay, hnext⟩ := takenDir_fields (arrived u payload) d
    rw [← hdir] at hexpected hnak hreplay hnext
    exact ⟨_, hexec, hkeeps.sent (by decide), hexpected, hnak, hreplay, hnext, hback, hothers,
      unchanged_of_covered (m := 1047549) (Keeps.trans (t := fresh s) (by simp) (hkeeps.mono (by decide))) rfl⟩
  case badPacket =>
    have hexec := exec_qlDataUnit hworks hformed hsend
    rw [if_pos hgood, takeUnit_withDir, hpackets, receivePackets_bad _ _ hbad] at hexec
    obtain ⟨hdir, -, -, hkeeps⟩ := unitTaken_leaves u (arrived u payload) d (fresh s)
    have hdies := discardPacket_dieErrors (unitDie u) 0x7FF (unitTaken u (arrived u payload) d (fresh s))
    have hlinks := (show Keeps 1024 (unitTaken u (arrived u payload) d (fresh s))
      (discardPacket (unitDie u) 0x7FF (unitTaken u (arrived u payload) d (fresh s))) by simp).links (by decide)
    have hregs : regsExcept [] s (discardPacket (unitDie u) 0x7FF (unitTaken u (arrived u payload) d (fresh s))) :=
      regsExcept_trans (regsExcept_of_regs (hkeeps.regs (by decide))) (regsExcept_discardPacket _ _ _)
    refine ⟨_, hexec, ?_, ?_, hregs, unchanged_of_covered (m := 979949)
      (Keeps.trans (t := fresh s) (by simp) ((hkeeps.mono (by decide)).trans (by simp))) rfl⟩
    · rw [hdies, hdie, hkeeps.dieErrors (by decide)]
      exact at_set_same ..
    · rw [linkOf_of_links hlinks, hdir]
      exact (takenDir_fields _ d).1
  case refused =>
    have hexec := exec_qlDataUnit hworks hformed hsend
    have hdir : dirOf (linkOf (withDir u.link u.up d (fresh s)) u.link) u.up = d := dirOf_withDir_same ..
    rw [if_neg (by rw [hbad]; decide), refuseUnit_naks (by rw [hdir]; exact hnak), hdir] at hexec
    refine ⟨_, hexec, rfl, dirOf_withDir_same .., ?_, unchanged_of_covered (m := 1047549) ?_ rfl⟩
    · exact (dirOf_withDir_not ..).trans (dirOf_withDir_not ..)
    · simp [withDir]
  case idle =>
    have hexec := exec_qlIdleUnit hbare
    rw [if_pos hgood] at hexec
    obtain ⟨hback, hdir, hothers, hkeeps⟩ := bareUnit_leaves u (fresh s)
    exact ⟨_, hexec, hkeeps.sent (by decide), hback, hdir, hothers,
      unchanged_of_covered (m := 1047549) (Keeps.trans (t := fresh s) (by simp) (hkeeps.mono (by decide))) rfl⟩
  case idleRefused =>
    have hexec := exec_qlIdleUnit hbare
    rw [if_neg (by rw [hbad]; decide), refuseUnit_naks (s := fresh s) hnak] at hexec
    exact ⟨_, hexec, rfl, dirOf_withDir_not .., unchanged_of_covered (m := 1047549) (by simp [withDir]) rfl⟩
  case nak =>
    have hexec := exec_qlNakUnit hbare hgood
    obtain ⟨hback, -, hothers, hkeeps⟩ := bareUnit_leaves u (fresh s)
    have hd' := hback.trans hd.symm
    rw [resendUnits_resent (by rw [hd']; exact hmay)] at hexec
    exact ⟨_, hexec, unitsResent_leaves (link_lt_of_works (bareUnit_works hbare)) (hkeeps.sent (by decide)) hd' hothers
      (Keeps.trans (t := fresh s) (by simp) (hkeeps.mono (by decide)))⟩
  case timeout =>
    have hexec := exec_qlReplayTimeout hworks hdue
    rw [resendUnits_resent (s := fresh s) hmay] at hexec
    exact ⟨_, hexec, unitsResent_leaves (link_lt_of_works hworks) rfl rfl (fun _ _ => rfl) (by simp)⟩
  case retrain =>
    have hexec := exec_qlReplayTimeout hworks hdue
    rw [resendUnits_retrains (s := fresh s) hmany, beginRetrain_eq,
      show (fresh s).pwr.time :: (linkOf (fresh s) k).recent.filter (fun t => (fresh s).pwr.time < t + 1000000000) = recent from
        hrecent.symm, if_neg (Nat.not_lt.mpr hfew)] at hexec
    have hregs : regsExcept [(0x6E02, k)] (fresh s) (retrainCounted k (fresh s)) :=
      regsExcept_bump _ _ (link_lt_of_works hworks) List.mem_cons_self
    refine ⟨_, hexec, ?_, rg_withRg_same .., hregs, unchanged_of_covered (m := 1047533) (by simp [retrainCounted]) rfl⟩
    rw [hrecent]
    unfold retrainCounted
    exact (linkOf_bump ..).trans (linkOf_withLink_same ..)
  case early =>
    change execQlReplayTimeout k up s = _
    unfold execQlReplayTimeout
    dsimp only
    exact congrArg Host.Outcome.next (if_pos (by
      rw [show (decide ((fresh s).pwr.time < (dirOf (linkOf (fresh s) k) up).timer + 1000)) = true from decide_eq_true hearly]
      simp))

end

section
/-! Trainings of the links and transfers of the stack ports (spec/01_architecture.md, Retry and Stack ports). -/

namespace Sys2Proof.Machine

/-! ## Training -/

/-- The settings that the PLLs run on. -/
def pllsOf (s : State) : List (Nat × Nat) := s.pwr.pllInForce

theorem plls_of_keeps {s t : State} (h : Keeps 262144 s t) : pllsOf t = pllsOf s := by
  rw [pllsOf, h.pwr (by decide), pllsOf]

theorem closeTestPort_plls (s : State) : pllsOf (closeTestPort s) = pllsOf s := by
  unfold closeTestPort
  dsimp only
  split <;> rfl

theorem toFaulted_plls (cause kind : Nat) (loc : Bytes) (s : State) : pllsOf (toFaulted cause kind loc s) = pllsOf s := by
  have hrest : ∀ u : State, Keeps 262144 u (faultEvent cause kind loc (audit 0 0x2001 3 7 false (leBytes 4 cause)
      (endPending (withRg 0x2001 3 cause { abandonTests u with
        dev := .faulted, ex := { (abandonTests u).ex with holdPending := false } })))) := fun u => by simp
  unfold toFaulted
  split
  · exact plls_of_keeps (by simp)
  · dsimp only
    split
    · exact (plls_of_keeps (hrest _)).trans (closeTestPort_plls s)
    · exact plls_of_keeps (hrest s)

theorem ratiosOk_failLink (k : Nat) (s : State) : ratiosOk (failLink k s) = ratiosOk s :=
  ratiosOk_of_pllOf fun j => congrArg (at_ (dfltOf 0xA020 j) j) (toFaulted_plls ..)

theorem exec_qlRetrainComplete {k repaired : Nat} {exhausted : BitVec 8} {beyond : Bool} {s : State} (h : trains k s) :
    exec (.qlRetrainComplete k repaired exhausted beyond) s = settled (fresh s)
      (if beyond || !linkPllGood (trainedPll k (fresh s)) k ||
          ((linkOf s k).state == 3 && (linkOf s k).retrainAt + 12000 < s.pwr.time)
        then failLink k (trainedPll k (fresh s)) else linkUp k repaired exhausted (trainedPll k (fresh s))) := by
  obtain ⟨hlow, hhigh, hclock, hreset, hstate⟩ := h
  change execQlRetrainComplete k repaired exhausted beyond s = _
  unfold execQlRetrainComplete
  dsimp only
  refine if_neg (not_or.mpr ⟨not_not_intro ⟨hlow, hhigh⟩, not_or.mpr ⟨?_, not_or.mpr ⟨?_, ?_⟩⟩⟩)
  · rintro ⟨h1, h3⟩
    exact hstate.elim h1 fun h => h3 h.1
  · rw [show (fresh s).ring.clock = true from hclock]
    decide
  · rw [show (fresh s).pwr.inReset = false from hreset]
    decide

theorem notLate_of_trains {k : Nat} {s : State} (h : trains k s) :
    ((linkOf s k).state == 3 && (linkOf s k).retrainAt + 12000 < s.pwr.time) = false := by
  obtain ⟨-, -, -, -, hone | ⟨-, htime⟩⟩ := h
  · rw [hone]
    rfl
  · rw [decide_eq_false (Nat.not_lt.mpr htime), Bool.and_false]

/-- A direction once its link is up. -/
def upDir (first : Bool) (now : Nat) (d : QlDir) : QlDir :=
  if first then freshDir else { d with nakSent := false, timer := now, replay := d.replay.map (fun u => (u.1, 1)) }

/-- The link of a training that ended. -/
def upLink (k repaired : Nat) (exhausted : BitVec 8) (s : State) : QlLink :=
  { linkOf s k with
    state := 2, repaired := repaired, exhausted := exhausted
    up := upDir (decide ((linkOf s k).state = 1)) s.pwr.time (linkOf s k).up
    down := upDir (decide ((linkOf s k).state = 1)) s.pwr.time (linkOf s k).down }

/-- A direction's buffered units resent after a training. -/
def upResend (k : Nat) (up : Bool) (d : QlDir) (s : State) : State :=
  if d.replay.isEmpty then s
  else emit (.qlResend k up (d.replay.map (fun u => u.1))) (bump 0x6E01 k d.replay.length s)

theorem linkUp_eq (k repaired : Nat) (exhausted : BitVec 8) (s : State) :
    linkUp k repaired exhausted s = upResend k false (upLink k repaired exhausted s).down
      (upResend k true (upLink k repaired exhausted s).up (withLink k (upLink k repaired exhausted s) s)) := by
  unfold linkUp upResend upLink upDir
  simp only [decide_eq_true_eq]

theorem upResend_leaves (k : Nat) (up : Bool) (d : QlDir) (s : State) (hk : k < 256) :
    Keeps 1048557 s (upResend k up d s) ∧ regsExcept [(0x6E01, k)] s (upResend k up d s) := by
  unfold upResend
  split
  · exact ⟨Keeps.refl _ s, regsExcept_refl _ s⟩
  · have h : regsExcept [(0x6E01, k)] s (bump 0x6E01 k d.replay.length s) := regsExcept_bump _ _ hk List.mem_cons_self
    exact ⟨by simp, h⟩

theorem linkUp_leaves (k repaired : Nat) (exhausted : BitVec 8) (s : State) (hk : k < 256) :
    linkOf (linkUp k repaired exhausted s) k = upLink k repaired exhausted s ∧
      (∀ j, j ≠ k → linkOf (linkUp k repaired exhausted s) j = linkOf s j) ∧
      regsExcept [(0x6E01, k)] s (linkUp k repaired exhausted s) ∧ Keeps 1047533 s (linkUp k repaired exhausted s) := by
  rw [linkUp_eq]
  obtain ⟨hfirst, hregs⟩ := upResend_leaves k true (upLink k repaired exhausted s).up (withLink k (upLink k repaired exhausted s) s) hk
  obtain ⟨hsecond, hregs'⟩ := upResend_leaves k false (upLink k repaired exhausted s).down
    (upResend k true (upLink k repaired exhausted s).up (withLink k (upLink k repaired exhausted s) s)) hk
  have hkeeps := hfirst.trans hsecond
  refine ⟨?_, fun j hj => ?_, regsExcept_trans hregs hregs', ?_⟩
  · rw [linkOf_of_links (hkeeps.links (by decide)), linkOf_withLink_same]
  · rw [linkOf_of_links (hkeeps.links (by decide)), linkOf_withLink_other _ _ hj]
  · exact Keeps.trans (t := withLink k (upLink k repaired exhausted s) s) (by simp) (hkeeps.mono (by decide))

theorem exec_qlRetrainTimeout {k : Nat} {s : State} (hlow : 1 ≤ k) (hhigh : k ≤ 6) (hreset : s.pwr.inReset = false)
    (hstate : (linkOf s k).state = 1 ∨ (linkOf s k).state = 3) (hlate : (linkOf s k).retrainAt + 12000 ≤ s.pwr.time) :
    exec (.qlRetrainTimeout k) s = .next (failLink k (fresh s)) := by
  change execQlRetrainTimeout k s = _
  unfold execQlRetrainTimeout
  dsimp only
  refine congrArg Host.Outcome.next (if_neg (not_or.mpr ⟨not_not_intro ⟨hlow, hhigh⟩, not_or.mpr ⟨?_, not_or.mpr ⟨?_, ?_⟩⟩⟩))
  · rintro ⟨h1, h3⟩
    exact hstate.elim h1 h3
  · rw [show (fresh s).pwr.inReset = false from hreset]
    decide
  · exact Nat.not_lt.mpr hlate

/-! ## Stack ports -/

theorem stackKey_ne (cd port : Nat) (toBase : Bool) : stackKey cd port toBase ≠ stackKey cd port !toBase := by
  cases toBase
  · simp [stackKey]
  · simp [stackKey]

theorem stackDir_withStackDir_same (cd port : Nat) (toBase : Bool) (d : StackDir) (s : State) :
    stackDir (withStackDir cd port toBase d s) cd port toBase = d := at_set_same ..

theorem stackDir_withStackDir_not (cd port : Nat) (toBase : Bool) (d : StackDir) (s : State) :
    stackDir (withStackDir cd port toBase d s) cd port (!toBase) = stackDir s cd port !toBase :=
  at_set_other _ _ _ _ _ (stackKey_ne cd port toBase).symm

/-- The credit of one class spent by the sender of packets. -/
def spendClass (ps : List Packet) (d : StackDir) (c : Nat) : StackDir :=
  { d with
    spent := set_ 0 c (at_ 0 c d.spent + classNeed ps c) d.spent
    owed := set_ 0 c (at_ 0 c d.owed + classNeed ps c) d.owed }

theorem spendStack_eq (ps : List Packet) (d : StackDir) : spendStack ps d = (List.range 5).foldl (spendClass ps) d := rfl

theorem spendClasses_other (ps : List Packet) {c : Nat} (l : List Nat) (d : StackDir) (hc : c ∉ l) :
    at_ 0 c (l.foldl (spendClass ps) d).spent = at_ 0 c d.spent := by
  induction l generalizing d with
  | nil => rfl
  | cons k l ih =>
    rw [List.foldl_cons, ih _ fun h => hc (List.mem_cons_of_mem _ h)]
    exact at_set_other _ _ _ _ _ fun h => hc (h ▸ List.mem_cons_self)

theorem spendClasses_spent (ps : List Packet) {c : Nat} (l : List Nat) (d : StackDir) (hl : l.Nodup) (hc : c ∈ l) :
    at_ 0 c (l.foldl (spendClass ps) d).spent = at_ 0 c d.spent + classNeed ps c := by
  induction l generalizing d with
  | nil => exact absurd hc List.not_mem_nil
  | cons k l ih =>
    obtain ⟨hk, hl⟩ := List.nodup_cons.mp hl
    rw [List.foldl_cons]
    obtain rfl | hne := eq_or_ne c k
    · rw [spendClasses_other ps l _ hk]
      exact at_set_same ..
    · rw [ih _ hl (List.mem_of_ne_of_mem hne hc)]
      exact congrArg (· + classNeed ps c) (at_set_other _ _ _ _ _ hne)

theorem spendStack_spent (ps : List Packet) (d : StackDir) {c : Nat} (hc : c < 5) :
    at_ 0 c (spendStack ps d).spent = at_ 0 c d.spent + classNeed ps c := by
  rw [spendStack_eq]
  exact spendClasses_spent ps _ d List.nodup_range (List.mem_range.mpr hc)

theorem flatMap_slices (n : Nat) (b : Bytes) : (List.range n).flatMap (fun k => slice b (16 * k) 16) = b.take (16 * n) := by
  induction n with
  | zero => rfl
  | succ n ih =>
    rw [List.range_succ, List.flatMap_append, ih, List.flatMap_singleton, Nat.mul_succ, List.take_add]
    rfl

theorem wordsJoined {x : StackTransfer} {ctr : Nat} (hlen : x.data.length = 256) (herrs : ∀ k, k < 16 → wordErrs x k ≤ 1) :
    (List.range 16).flatMap (wordData ctr x) = x.data := by
  have hword : ∀ k ∈ List.range 16, wordData ctr x k = slice x.data (16 * k) 16 := fun k hk =>
    if_pos (Nat.le_succ_of_le (herrs k (List.mem_range.mp hk)))
  rw [List.flatMap_congr hword, flatMap_slices, List.take_of_length_le hlen.le]

theorem outcome_le {x : StackTransfer} {ctr k : Nat} (h : wordErrs x k ≤ 2) : wordOutcome ctr x k = wordErrs x k := if_pos h

/-- The sender's side of a transfer after it. -/
def stackSender (x : StackTransfer) (d : StackDir) : StackDir :=
  { spendStack (stackSent d x).1 d with sendRest := (stackSent d x).2 }

/-- The code words that a transfer finds corrected. -/
def singlesOf (ctr : Nat) (x : StackTransfer) : Nat := (((List.range 16).map (wordOutcome ctr x)).filter (· == 1)).length

/-- The state of a transfer with its credit returned and its corrected code words counted. -/
def stackCounted (cd port : Nat) (toBase : Bool) (x : StackTransfer) (s : State) : State :=
  let t := withStackDir cd port (!toBase) (returnStack x.creditClass x.creditCount (stackDir s cd port !toBase)) (drawn s)
  if gated t cd then t else bump 0x6E03 (cd + 1) (singlesOf s.freeCtr x) t

theorem exec_stackPortTransfer {cd port : Nat} {toBase : Bool} {x : StackTransfer} {s : State} (hcd : cd < 12) (hport : port < 8)
    (hrails : railsOn s = true) (hlen : x.data.length = 256)
    (hcan : canTransfer (stackDir s cd port toBase) (stackDir s cd port !toBase) x = true) :
    exec (.stackPortTransfer cd port toBase x.data x.errs (x.creditClass, x.creditCount)) s = .next
      (if ((List.range 16).map (wordOutcome s.freeCtr x)).contains 2 then
        toFaulted 0x03400002 6 (leBytes 1 cd ++ leBytes 1 port)
          (withStackDir cd port toBase (stackSender x (stackDir s cd port toBase)) (stackCounted cd port toBase x (fresh s)))
      else
        receivePackets (if toBase then cd / 3 else cd + 4)
          (packetsIn 16 (stackDir s cd port toBase).takeRest ((List.range 16).flatMap (wordData s.freeCtr x))).1
          (withStackDir cd port toBase
            { stackSender x (stackDir s cd port toBase) with
              takeRest := (packetsIn 16 (stackDir s cd port toBase).takeRest ((List.range 16).flatMap (wordData s.freeCtr x))).2 }
            (stackCounted cd port toBase x (fresh s)))) := by
  change execStackPortTransfer cd port toBase x.data x.errs (x.creditClass, x.creditCount) s = _
  unfold execStackPortTransfer
  dsimp only
  refine congrArg Host.Outcome.next (if_neg (not_or.mpr ⟨Nat.not_le.mpr hcd, not_or.mpr ⟨Nat.not_le.mpr hport,
    not_or.mpr ⟨?_, not_or.mpr ⟨not_not_intro hlen, ?_⟩⟩⟩⟩))
  · rw [show railsOn (fresh s) = true from hrails]
    decide
  · rw [show canTransfer (stackDir (fresh s) cd port toBase) (stackDir (fresh s) cd port !toBase)
      ⟨x.data, x.errs, x.creditClass, x.creditCount⟩ = true from hcan]
    decide

theorem stackCounted_leaves {cd port : Nat} (toBase : Bool) (x : StackTransfer) (s : State) (hcd : cd < 12) :
    Keeps 1048043 s (stackCounted cd port toBase x s) ∧ regsExcept [(0x6E03, cd + 1)] s (stackCounted cd port toBase x s) ∧
      stackDir (stackCounted cd port toBase x s) cd port (!toBase) =
        returnStack x.creditClass x.creditCount (stackDir s cd port !toBase) := by
  have hdir := stackDir_withStackDir_same cd port (!toBase)
    (returnStack x.creditClass x.creditCount (stackDir s cd port !toBase)) (drawn s)
  unfold stackCounted
  dsimp only
  generalize ht : withStackDir cd port (!toBase) (returnStack x.creditClass x.creditCount (stackDir s cd port !toBase))
    (drawn s) = t at hdir ⊢
  have hkeeps : Keeps 1048059 s t := by
    rw [← ht]
    simp
  have hregs : regsExcept [(0x6E03, cd + 1)] s t := regsExcept_of_regs (hkeeps.regs (by decide))
  split
  · exact ⟨hkeeps.mono (by decide), hregs, hdir⟩
  · exact ⟨(hkeeps.mono (by decide)).trans (by simp),
      regsExcept_trans hregs (regsExcept_bump _ _ (by omega) List.mem_cons_self), hdir⟩

theorem rg_stackCounted {cd port : Nat} {toBase : Bool} {x : StackTransfer} {s : State} (hgate : gated s cd = false) :
    rg (stackCounted cd port toBase x s) 0x6E03 (cd + 1) =
      satAdd (sizeOf_ 0x6E03 (cd + 1)) (rg s 0x6E03 (cd + 1)) (singlesOf s.freeCtr x) := by
  have h : gated (withStackDir cd port (!toBase)
      (returnStack x.creditClass x.creditCount (stackDir s cd port !toBase)) (drawn s)) cd = false := hgate
  unfold stackCounted
  dsimp only
  rw [h]
  exact satAdd_rg_eq _ rfl

end Sys2Proof.Machine

open Sys2Proof Sys2Proof.Machine

/-- Settles O33: a training that ends brings its link up or fails it, and a transfer that its sender can make spends and
returns credit before its code words are judged. -/
theorem linksTrainAndPortsCorrect : Obligations.LinksTrainAndPortsCorrect := by
  unfold Obligations.LinksTrainAndPortsCorrect
  refine ⟨fun k repaired exhausted s htrains hratios hgood => ?up,
    fun k repaired exhausted s htrains hratios hdev => ?beyond,
    fun k s hlow hhigh hreset hstate hdev hlate => ?timeout,
    fun k s hearly => ?early,
    fun cd port toBase errs x s hcd hport hrails hgate hlen herrs hcan hwords hpackets => ?corrected,
    fun cd port toBase x k s hcd hport hrails hlen hdev hcan hk hbad => ?uncorrectable⟩
  case up =>
    have hk : k < 256 := by
      obtain ⟨-, hhigh, -⟩ := htrains
      omega
    have hlinks : ∀ j, linkOf (trainedPll k (fresh s)) j = linkOf s j := fun j =>
      (linkOf_of_links (pllTake_links _ (fresh s)) j)
    obtain ⟨hlink, hothers, hregs, hkeeps⟩ := linkUp_leaves k repaired exhausted (trainedPll k (fresh s)) hk
    have hpwr := hkeeps.pwr (by decide)
    have hexec := exec_qlRetrainComplete (repaired := repaired) (exhausted := exhausted) (beyond := false) htrains
    rw [notLate_of_trains htrains, show linkPllGood (trainedPll k (fresh s)) k = true from hgood, if_neg (by decide),
      settled_ratiosOk ((ratiosOk_of_pllOf (pllOf_of_pwr hpwr)).trans hratios)] at hexec
    refine ⟨_, hexec, ?_, ?_, ?_, fun hone => ?_, fun hthree => ?_, fun j hj => (hothers j hj).trans (hlinks j), hpwr,
      regsExcept_trans (regsExcept_of_regs (pllTake_regs _ (fresh s))) hregs, unchanged_of_covered (m := 785389)
        (Keeps.trans (t := trainedPll k (fresh s)) (by simp [trainedPll]) (hkeeps.mono (by decide))) rfl⟩
    · rw [hlink]
      rfl
    · rw [hlink]
      rfl
    · rw [hlink]
      rfl
    · rw [hlink, upLink, hlinks, decide_eq_true hone]
      exact ⟨rfl, rfl⟩
    · rw [hlink, upLink, hlinks, decide_eq_false (by rw [hthree]; decide)]
      simp [upDir, Function.comp_def]
  case beyond =>
    have hexec := exec_qlRetrainComplete (repaired := repaired) (exhausted := exhausted) (beyond := true) htrains
    rw [Bool.true_or, Bool.true_or, if_pos rfl, 
      settled_ratiosOk ((ratiosOk_failLink k (trainedPll k (fresh s))).trans hratios)] at hexec
    obtain ⟨hstate, hfaulted⟩ := failLink_failed k (trainedPll k (fresh s))
    exact ⟨_, hexec, hstate, hfaulted, rg_toFaulted_cause hdev⟩
  case timeout =>
    obtain ⟨hfailed, hfaulted⟩ := failLink_failed k (fresh s)
    exact ⟨_, exec_qlRetrainTimeout hlow hhigh hreset hstate hlate, hfailed, hfaulted, rg_toFaulted_cause hdev,
      fun j hj => linkOf_failLink_other _ hj⟩
  case early =>
    change execQlRetrainTimeout k s = _
    unfold execQlRetrainTimeout
    dsimp only
    exact congrArg Host.Outcome.next (if_pos (.inr (.inr (.inr hearly))))
  case corrected =>
    subst herrs
    obtain ⟨hkeeps, hregs, hback⟩ := stackCounted_leaves toBase x (fresh s) hcd (port := port)
    have houtcomes : ∀ k, k < 16 → wordOutcome s.freeCtr x k = wordErrs x k := fun k hk =>
      outcome_le (Nat.le_succ_of_le (hwords k hk))
    have hclean : ((List.range 16).map (wordOutcome s.freeCtr x)).contains 2 = false := by
      rw [List.contains_eq_mem, decide_eq_false_iff_not]
      intro hmem
      obtain ⟨k, hk, htwo⟩ := List.mem_map.mp hmem
      have hle := hwords k (List.mem_range.mp hk)
      rw [houtcomes k (List.mem_range.mp hk)] at htwo
      omega
    have hsingles : singlesOf s.freeCtr x = ((List.range 16).filter (fun k => wordErrs x k == 1)).length := by
      rw [singlesOf, List.filter_map, List.length_map]
      exact congrArg List.length (List.filter_congr fun k hk => by
        rw [Function.comp_apply, houtcomes k (List.mem_range.mp hk)])
    have hexec := exec_stackPortTransfer hcd hport hrails hlen hcan
    rw [hclean, if_neg (by decide), wordsJoined hlen hwords, receivePackets_good _ _ hpackets] at hexec
    refine ⟨_, hexec, ?_, fun c hc => ?_, (stackDir_withStackDir_not ..).trans hback, regsExcept_trans hregs ?_,
      unchanged_of_covered (m := 1048041) (Keeps.trans (t := fresh s) (by simp) ((hkeeps.mono (by decide)).trans (by simp))) rfl⟩
    · rw [← hsingles]
      exact rg_stackCounted (s := fresh s) hgate
    · rw [stackDir_withStackDir_same]
      exact spendStack_spent _ _ hc
    · exact regsExcept_of_regs rfl
  case uncorrectable =>
    obtain ⟨hkeeps, -, -⟩ := stackCounted_leaves toBase x (fresh s) hcd (port := port)
    have hfound : ((List.range 16).map (wordOutcome s.freeCtr x)).contains 2 = true := by
      rw [List.contains_iff_mem]
      exact List.mem_map.mpr ⟨k, List.mem_range.mpr hk, (outcome_le hbad.le).trans hbad⟩
    have hexec := exec_stackPortTransfer hcd hport hrails hlen hcan
    rw [if_pos hfound] at hexec
    refine ⟨_, hexec, toFaulted_dev .., rg_toFaulted_cause ?_, (toFaulted_links ..).trans (hkeeps.links (by decide))⟩
    intro h
    exact hdev ((hkeeps.dev (by decide)).symm.trans h)

end

section
/-! Leases: what holders and issuers keep of them (spec/08_credits_drain.md, Leases; spec/10_fabric.md, Parcels). -/

namespace Sys2Proof.Machine

/-! ## Addresses -/

theorem sameMap_of_rgK {s t : State} (h : RgK 17593528221696 s t) (ho : t.fab.overrides = s.fab.overrides) : SameMap s t where
  node := h 0x6000 1 (by decide)
  job j := h 0x6020 j (by decide)
  pair := ⟨h 0x8020 1 (by decide), h 0x8020 2 (by decide)⟩
  overrides := ho

theorem isOut_of_sameMap {s t : State} (h : SameMap s t) (peer num : Nat) : isOut t peer num = isOut s peer num := by
  funext c
  unfold isOut
  rw [resolved_of_sameMap h]

theorem isIn_of_sameMap {s t : State} (h : SameMap s t) (peer num : Nat) : isIn t peer num = isIn s peer num := by
  funext c
  unfold isIn
  rw [resolved_of_sameMap h]

/-! ## Lists -/

theorem find?_map_same {α : Type} {p : α → Bool} {f : α → α} (l : List α) (h : ∀ x, p (f x) = p x) :
    (l.map f).find? p = (l.find? p).map f := by
  rw [List.find?_map, show p ∘ f = p from funext h]

/-! ## The leases of a context -/

theorem onLease_find? (k : Nat) (f : Lease → Lease) (l : List Lease) (hf : ∀ x, (f x).num = x.num) :
    (onLease k f l).find? (fun x => x.num == k) = (l.find? (fun x => x.num == k)).map f := by
  unfold onLease
  rw [find?_map_same]
  · obtain hnone | ⟨x, hx⟩ := (l.find? (fun x => x.num == k)).eq_none_or_eq_some
    · rw [hnone]
      rfl
    · have hnum : x.num = k := by simpa using List.find?_some hx
      rw [hx, Option.map_some, Option.map_some, if_pos hnum]
  · intro x
    by_cases h : x.num = k
    · rw [if_pos h, hf]
    · rw [if_neg h]

/-- What a lease is apart from what is spent on it. -/
def unspent (l : Lease) : Lease := { l with spent := 0 }

theorem unspent_charged (n g : Nat) (l : Lease) :
    unspent (if l.num = n then { l with spent := l.spent + g } else l) = unspent l := by
  split
  · rfl
  · rfl

theorem drainCtx_context (s : State) (n : Nat) (c : OutCtx) :
    (drainCtx s n c).1.peer = c.peer ∧ (drainCtx s n c).1.num = c.num ∧ (drainCtx s n c).1.stream = c.stream ∧
      (drainCtx s n c).1.leases.map unspent = c.leases.map unspent := by
  induction n generalizing c with
  | zero => exact ⟨rfl, rfl, rfl, rfl⟩
  | succ n ih =>
    unfold drainCtx
    split
    · exact ⟨rfl, rfl, rfl, rfl⟩
    · rename_i p rest _
      dsimp only
      split
      · exact ⟨rfl, rfl, rfl, rfl⟩
      · rename_i l _
        obtain ⟨hpeer, hnum, hstream, hleases⟩ := ih { c with
          queue := rest, spent := c.spent + spends p
          leases := c.leases.map (fun x => if x.num = l.num then { x with spent := x.spent + spends p } else x) }
        refine ⟨hpeer, hnum, hstream, hleases.trans ?_⟩
        rw [List.map_map]
        exact List.map_congr_left fun x _ => unspent_charged _ _ x

theorem enqueueAll_fab (l : List Carried) (s : State) : (l.foldl (fun s p => enqueueFwd p s) s).fab.out = s.fab.out ∧
    (l.foldl (fun s p => enqueueFwd p s) s).fab.overrides = s.fab.overrides := by
  induction l generalizing s with
  | nil => exact ⟨rfl, rfl⟩
  | cons x l ih => exact ih (enqueueFwd x s)

theorem drainOut_out (s : State) : (drainOut s).fab.out = s.fab.out.map (fun c => (drainCtx s c.queue.length c).1) := by
  refine (enqueueAll_fab _ _).1.trans ?_
  exact List.map_map ..

theorem drainOut_overrides (s : State) : (drainOut s).fab.overrides = s.fab.overrides := (enqueueAll_fab _ _).2

theorem drainOut_idle {s : State} (h : noneWaits s) : drainOut s = s := by
  have hidle : ∀ c ∈ s.fab.out, drainCtx s c.queue.length c = (c, []) := fun c hc => by
    rw [h c hc]
    rfl
  have hout : (s.fab.out.map (fun c => drainCtx s c.queue.length c)).map (fun r => r.1) = s.fab.out := by
    rw [List.map_map]
    exact (List.map_congr_left fun c hc => congrArg Prod.fst (hidle c hc)).trans (List.map_id _)
  have hsent : (s.fab.out.map (fun c => drainCtx s c.queue.length c)).flatMap (fun r => r.2) = [] := by
    rw [List.flatMap_eq_nil_iff]
    intro r hr
    obtain ⟨c, hc, rfl⟩ := List.mem_map.mp hr
    rw [hidle c hc]
  unfold drainOut
  dsimp only
  rw [hsent]
  unfold withFab
  dsimp only
  rw [hout]
  rfl

theorem noneWaits_mapOut {peer num : Nat} {f : OutCtx → OutCtx} {s : State} (h : noneWaits s)
    (hf : ∀ c, (f c).queue = c.queue) : noneWaits (mapOut peer num f s) := by
  intro c hc
  obtain ⟨x, hx, rfl⟩ := List.mem_map.mp hc
  split
  · exact (hf x).trans (h x hx)
  · exact h x hx

theorem drainOut_mapOut_idle {peer num : Nat} {f : OutCtx → OutCtx} {s : State} (h : noneWaits s)
    (hf : ∀ c, (f c).queue = c.queue) : drainOut (mapOut peer num f s) = mapOut peer num f s :=
  drainOut_idle (noneWaits_mapOut h hf)

/-- A lease found, apart from what is spent on it. -/
theorem outLease_drainOut (s : State) (peer num k : Nat) :
    (outLease (drainOut s) peer num k).map unspent = (outLease s peer num k).map unspent := by
  have hmap : SameMap s (drainOut s) := sameMap_of_rgK (by simp) (drainOut_overrides s)
  have hfind : ∀ c : OutCtx, (c.leases.find? (fun l => l.num == k)).map unspent
      = (c.leases.map unspent).find? (fun l => l.num == k) := fun c =>
    (find?_map_same (f := unspent) c.leases fun _ => rfl).symm
  unfold outLease
  rw [isOut_of_sameMap hmap, drainOut_out, find?_map_same, Option.map_bind, Option.map_bind, Option.bind_map]
  · refine Option.bind_congr fun c _ => ?_
    simp only [Function.comp_apply, hfind, (drainCtx_context s c.queue.length c).2.2.2]
  · intro c
    obtain ⟨hpeer, hnum, hstream, -⟩ := drainCtx_context s c.queue.length c
    unfold isOut
    rw [hpeer, hnum, hstream]

/-- A change of a context's leases, number, peer and stream kept. -/
theorem outLease_mapOut {peer num k : Nat} {f : OutCtx → OutCtx} (s : State) (g : Lease → Lease)
    (hf : ∀ c, isOut s peer num (f c) = isOut s peer num c) (hg : ∀ x, (g x).num = x.num)
    (hleases : ∀ c, (f c).leases = onLease k g c.leases) :
    outLease (mapOut peer num f s) peer num k = (outLease s peer num k).map g := by
  change ((s.fab.out.map (fun c => if isOut s peer num c then f c else c)).find? (isOut s peer num)).bind
    (fun c => c.leases.find? (fun l => l.num == k)) = _
  rw [find?_map_same, Option.bind_map, outLease, Option.map_bind]
  · refine Option.bind_congr fun c hc => ?_
    rw [Function.comp_apply, Function.comp_apply, if_pos (List.find?_some hc), hleases, onLease_find? _ _ _ hg]
  · intro c
    split
    · exact hf c
    · rfl

theorem inLease_mapIn {peer num k : Nat} (s : State) (g : Lease → Lease) (hg : ∀ x, (g x).num = x.num) :
    inLease (mapIn peer num (onLease k g) s) peer num k = (inLease s peer num k).map g := by
  change ((s.fab.inn.map (fun c => if isIn s peer num c then { c with leases := onLease k g c.leases } else c)).find?
    (isIn s peer num)).bind (fun c => c.leases.find? (fun l => l.num == k)) = _
  rw [find?_map_same, Option.bind_map, inLease, Option.map_bind]
  · refine Option.bind_congr fun c hc => ?_
    rw [Function.comp_apply, Function.comp_apply, if_pos (List.find?_some hc), onLease_find? _ _ _ hg]
  · intro c
    split
    · rfl
    · rfl

/-! ## Control parcels -/

theorem regsExcept_sendControl {l : List (Nat × Nat)} (dst kind kf : Nat) (s : State) (h6 : (0x6050, 6) ∈ l)
    (h5 : (0x6C00, 5) ∈ l) : regsExcept l s (sendControl dst kind kf s) := by
  unfold sendControl sendParcel
  split
  · exact regsExcept_bump _ _ (by decide) h5
  · split
    · exact regsExcept_bump _ _ (by decide) h6
    · exact regsExcept_of_regs rfl

/-- A control parcel changes nothing of the data contexts. -/
theorem sendControl_leaves (dst kind kf : Nat) (s : State) : SameMap s (sendControl dst kind kf s) ∧
    (sendControl dst kind kf s).fab.inn = s.fab.inn ∧
    ∀ peer num, (sendControl dst kind kf s).fab.out.find? (isOut s peer num) = s.fab.out.find? (isOut s peer num) := by
  unfold sendControl sendParcel
  split
  · exact ⟨sameMap_of_rgK (by simp) rfl, rfl, fun _ _ => rfl⟩
  · split
    · exact ⟨sameMap_of_rgK (by simp) rfl, rfl, fun _ _ => rfl⟩
    · rename_i c hc
      have hcontrol : c.stream = .control := by
        have h := List.find?_some hc
        simp only [Bool.and_eq_true, beq_iff_eq] at h
        exact h.2
      refine ⟨sameMap_of_rgK (by simp) rfl, rfl, fun peer num => ?_⟩
      change (s.fab.out.map (fun x => if x = c then _ else x)).find? _ = _
      rw [find?_map_same]
      · cases hfound : s.fab.out.find? (isOut s peer num) with
        | none => rfl
        | some x =>
          have hx := List.find?_some hfound
          have hne : x ≠ c := by
            rintro rfl
            simp [isOut, hcontrol] at hx
          rw [Option.map_some, if_neg hne]
      · intro x
        split
        · next hx =>
          subst hx
          simp [isOut, hcontrol]
        · rfl

theorem outLease_sendControl (dst kind kf : Nat) (s : State) (peer num k : Nat) :
    outLease (sendControl dst kind kf s) peer num k = outLease s peer num k := by
  obtain ⟨hmap, -, hout⟩ := sendControl_leaves dst kind kf s
  unfold outLease
  rw [isOut_of_sameMap hmap, hout]

theorem inLease_sendControl (dst kind kf : Nat) (s : State) (peer num k : Nat) :
    inLease (sendControl dst kind kf s) peer num k = inLease s peer num k := by
  obtain ⟨hmap, hinn, -⟩ := sendControl_leaves dst kind kf s
  unfold inLease
  rw [isIn_of_sameMap hmap, hinn]

/-! ## Silent peers -/

/-- The parcels that a peer's silence discards. -/
def lostParcels (peer : Nat) (s : State) : Nat :=
  (s.fab.out.filter (fun c => resolved s c.peer == peer)).foldl (fun n c => n + c.queue.length) 0
    + waitingParcels (ownFor s peer) s

/-- The expiry counted, and the parcels that it discards. -/
def expiryCounted (peer : Nat) (s : State) : State :=
  if lostParcels peer (bump 0x6C00 4 1 s) = 0 then bump 0x6C00 4 1 s
  else bump 0x6C00 5 (lostParcels peer (bump 0x6C00 4 1 s)) (bump 0x6C00 4 1 s)

/-- The contexts of a silent peer closed, and its waiting parcels discarded, by the addresses of a state u. -/
def peerClosed (peer : Nat) (u s : State) : State :=
  withFab (fun f => { f with
    out := f.out.filter (fun c => !(resolved u c.peer == peer))
    inn := f.inn.filter (fun c => resolved (discardWaiting (ownFor u peer) s) c.peer ≠ peer)
    late := f.late ++ lateLeases u peer
    silent := addNum peer f.silent }) (discardWaiting (ownFor u peer) s)

theorem silentVerdict_eq {peer : Nat} {s : State} (h : isSilent s peer = false) :
    silentVerdict peer s = raise 3 0x0020 (leBytes 4 peer) (peerClosed peer (bump 0x6C00 4 1 s) (expiryCounted peer s)) := by
  have hheard : isSilent (bump 0x6C00 4 1 s) peer = false := h
  unfold silentVerdict
  dsimp only
  rw [hheard, if_neg (by decide)]
  rfl

theorem lostParcels_bump (peer : Nat) (s : State) : lostParcels peer (bump 0x6C00 4 1 s) = lostParcels peer s := by
  have hmap : SameMap s (bump 0x6C00 4 1 s) := sameMap_of_rgK (by simp) rfl
  have hown : ownFor (bump 0x6C00 4 1 s) peer = ownFor s peer := by
    funext x
    unfold ownFor nodeAddr
    rw [hmap.node]
  unfold lostParcels
  simp only [resolved_of_sameMap hmap]
  rw [hown]
  rfl

theorem expiryCounted_leaves (peer : Nat) (s : State) :
    rg (expiryCounted peer s) 0x6C00 4 = satAdd (sizeOf_ 0x6C00 4) (rg s 0x6C00 4) 1 ∧
      (0 < lostParcels peer s →
        rg (expiryCounted peer s) 0x6C00 5 = satAdd (sizeOf_ 0x6C00 5) (rg s 0x6C00 5) (lostParcels peer s)) ∧
      regsExcept [(0x6C00, 4), (0x6C00, 5)] s (expiryCounted peer s) ∧ Keeps 1048559 s (expiryCounted peer s) ∧
      SameMap s (expiryCounted peer s) := by
  have hfirst : regsExcept [(0x6C00, 4), (0x6C00, 5)] s (bump 0x6C00 4 1 s) := regsExcept_bump _ _ (by decide) (by decide)
  unfold expiryCounted
  rw [lostParcels_bump]
  split
  · next hnone => exact ⟨satAdd_rg_eq 1 rfl, fun hsome => absurd hnone hsome.ne', hfirst, by simp, sameMap_of_rgK (by simp) rfl⟩
  · refine ⟨(rg_bump_sub _ (by decide) (by decide) (by decide)).trans (satAdd_rg_eq 1 rfl), fun _ => satAdd_rg_eq _ ?_,
      regsExcept_trans hfirst (regsExcept_bump _ _ (by decide) (by decide)), by simp, sameMap_of_rgK (by simp) rfl⟩
    exact rg_bump_sub _ (by decide) (by decide) (by decide)

theorem silentVerdict_silenced {peer : Nat} {s : State} (h : isSilent s peer = false) :
    Silenced peer s (silentVerdict peer s) := by
  obtain ⟨hcount, hlost, hregs, hkeeps, hmap⟩ := expiryCounted_leaves peer s
  have hcounted : SameMap s (bump 0x6C00 4 1 s) := sameMap_of_rgK (by simp) rfl
  have hclosed : SameMap s (discardWaiting (ownFor (bump 0x6C00 4 1 s) peer) (expiryCounted peer s)) :=
    hmap.trans (sameMap_of_rgK (by simp) rfl)
  have hfab := hkeeps.fab (by decide)
  rw [silentVerdict_eq h]
  generalize expiryCounted peer s = u at hcount hlost hregs hkeeps hclosed hfab ⊢
  have hkept : Keeps 1036287 u (peerClosed peer (bump 0x6C00 4 1 s) u) := by simp [peerClosed]
  have hraise : Keeps 983023 (peerClosed peer (bump 0x6C00 4 1 s) u)
      (raise 3 0x0020 (leBytes 4 peer) (peerClosed peer (bump 0x6C00 4 1 s) u)) := by simp
  have hfab' := hraise.fab (by decide)
  have hrg : ∀ j, j < 256 → rg (raise 3 0x0020 (leBytes 4 peer) (peerClosed peer (bump 0x6C00 4 1 s) u)) 0x6C00 j
      = rg u 0x6C00 j := fun j hj =>
    (rg_raise _ hj (by unfold counted; decide)).trans (rg_of_regs (hkept.regs (by decide)) ..)
  exact {
    silent := by
      unfold isSilent
      rw [hfab', List.contains_iff_mem]
      exact mem_addNum ..
    out := by
      rw [hfab']
      refine (congrArg (fun f : Fabric => f.out.filter _) hfab).trans (List.filter_congr fun c _ => ?_)
      rw [resolved_of_sameMap hcounted]
      rw [← Bool.not_inj_iff, Bool.not_not]
      simp [beq_eq_decide]
    inn := by
      rw [hfab']
      refine (congrArg (List.filter _) (congrArg Fabric.inn hfab)).trans (List.filter_congr fun c _ => ?_)
      rw [resolved_of_sameMap hclosed]
    expiries := (hrg 4 (by decide)).trans hcount
    lost := fun n hn hpos => by
      rw [hrg 5 (by decide), hn]
      exact hlost (by rwa [hn] at hpos)
    regs := regsExcept_trans (regsExcept_trans hregs (regsExcept_of_regs (hkept.regs (by decide)))) (regsExcept_raise 3 0x0020 _ _)
    frame := unchanged_of_covered (m := 970733) (((hkeeps.mono (by decide)).trans (hkept.mono (by decide))).trans
      (hraise.mono (by decide))) rfl }

theorem unchangedExcept_trans {ps : List Part} {s t u : State} (h : unchangedExcept ps s t) (k : unchangedExcept ps t u) :
    unchangedExcept ps s u := by
  intro p hp
  have hst := h p hp
  have htu := k p hp
  cases p <;> exact htu.trans hst

/-- What was changed of a peer's own contexts before its silence does not show. -/
theorem silenced_of_mapped {peer : Nat} {f : OutCtx → OutCtx} {g : InCtx → InCtx} {s u t : State} (h : Silenced peer u t)
    (hmap : SameMap s u) (hregs : u.regs = s.regs) (hkeeps : Keeps 1040381 s u) (hout : u.fab.out = s.fab.out.map f)
    (hinn : u.fab.inn = s.fab.inn.map g) (hfwd : u.fab.fwd = s.fab.fwd)
    (hf : ∀ c, (f c).peer = c.peer ∧ (f c).queue = c.queue ∧ (resolved s c.peer ≠ peer → f c = c))
    (hg : ∀ c, (g c).peer = c.peer ∧ (resolved s c.peer ≠ peer → g c = c)) : Silenced peer s t where
  silent := h.silent
  out := by
    rw [h.out, hout, List.filter_map]
    simp only [Function.comp_def, resolved_of_sameMap hmap, fun c => (hf c).1]
    refine (List.map_congr_left fun c hc => (hf c).2.2 ?_).trans (List.map_id _)
    simpa using (List.mem_filter.mp hc).2
  inn := by
    rw [h.inn, hinn, List.filter_map]
    simp only [Function.comp_def, resolved_of_sameMap hmap, fun c => (hg c).1]
    refine (List.map_congr_left fun c hc => (hg c).2 ?_).trans (List.map_id _)
    simpa using (List.mem_filter.mp hc).2
  expiries := h.expiries.trans (by rw [rg_of_regs hregs])
  lost := fun n hn hpos => by
    rw [h.lost n ?_ hpos, rg_of_regs hregs]
    have hown : ownFor u peer = ownFor s peer := by
      funext x
      unfold ownFor nodeAddr
      rw [hmap.node]
    have hqueues : ∀ (l : List OutCtx) (k : Nat), (l.map f).foldl (fun n c => n + c.queue.length) k
        = l.foldl (fun n c => n + c.queue.length) k := fun l k => by
      rw [List.foldl_map]
      simp only [fun c => (hf c).2.1]
    rw [hn, hout, List.filter_map, hqueues, hown]
    simp only [Function.comp_def, resolved_of_sameMap hmap, fun c => (hf c).1]
    unfold waitingParcels
    rw [hfwd, hkeeps.pho (by decide)]
  regs := regsExcept_trans (regsExcept_of_regs hregs) h.regs
  frame := unchangedExcept_trans (unchanged_of_covered hkeeps rfl) h.frame

theorem pullsPast_idle {peer : Nat} {s : State} (hpulls : s.res.pulls = []) (hrepairs : s.res.repairs = []) :
    pullsPast peer s = s := by
  unfold pullsPast onScore
  split
  · dsimp only
    rw [hpulls, hrepairs]
    rfl
  · rfl

theorem reviewColls_idle {s : State} (h : s.col.runs = []) : reviewColls s = s := by
  unfold reviewColls onScore
  split
  · dsimp only
    rw [h]
    rfl
  · rfl

/-! ## Lease messages -/

theorem leaseCommand_taken {tag : Nat} {f : State → State} {s : State} (hworks : routerWorks s = true)
    (htag : tagMatches s tag = true) : leaseCommand tag f s = .next (f (fresh s)) := by
  unfold leaseCommand ifTagged
  dsimp only
  rw [if_pos (show routerWorks (fresh s) = true from hworks), if_pos (show tagMatches (fresh s) tag = true from htag)]

theorem leaseCommand_foreign {tag : Nat} {f : State → State} {s : State} (hworks : routerWorks s = true)
    (htag : tagMatches s tag = false) : leaseCommand tag f s = .next (bump 0x6050 6 1 (fresh s)) := by
  unfold leaseCommand ifTagged
  dsimp only
  rw [if_pos (show routerWorks (fresh s) = true from hworks), if_neg (by rw [show tagMatches (fresh s) tag = false from htag]; decide)]

theorem option_of_map_unspent {a b : Option Lease} {x : Lease} (h : a.map unspent = b.map unspent) (hb : b = some x) :
    ∃ y, a = some y ∧ y.granules = x.granules ∧ y.term = x.term ∧ y.expiry = x.expiry := by
  rw [hb] at h
  obtain ⟨y, hy, hxy⟩ := Option.map_eq_some_iff.mp h
  exact ⟨y, hy, (congrArg Lease.granules hxy :), (congrArg Lease.term hxy :), (congrArg Lease.expiry hxy :)⟩

theorem find?_replaced (k : Nat) (l : List Lease) {x : Lease} (hx : x.num = k) :
    (l.filter (fun y => y.num ≠ k) ++ [x]).find? (fun y => y.num == k) = some x := by
  have hgone : (l.filter (fun y => y.num ≠ k)).find? (fun y => y.num == k) = none := by
    rw [List.find?_eq_none]
    intro y hy
    have hne := (List.mem_filter.mp hy).2
    simpa using hne
  rw [List.find?_append, hgone, Option.none_or, List.find?_cons_of_pos (by simpa using hx)]

theorem outLease_granted {peer num : Nat} {x : Lease} {s : State} (h : ∃ c ∈ s.fab.out, isOut s peer num c = true) :
    outLease (mapOut peer num (fun c => { c with leases := c.leases.filter (fun y => y.num ≠ x.num) ++ [x] }) s)
      peer num x.num = some x := by
  change ((s.fab.out.map (fun c => if isOut s peer num c then
    { c with leases := c.leases.filter (fun y => y.num ≠ x.num) ++ [x] } else c)).find? (isOut s peer num)).bind
    (fun c => c.leases.find? (fun l => l.num == x.num)) = _
  rw [find?_map_same]
  · obtain ⟨c, hc⟩ := Option.isSome_iff_exists.mp (List.find?_isSome.mpr h)
    rw [hc, Option.map_some, if_pos (List.find?_some hc)]
    exact find?_replaced _ _ rfl
  · intro c
    split
    · rfl
    · rfl

theorem exec_leaseRenewalDue {peer ctx lease : Nat} {l : Lease} {s : State} (hworks : routerWorks s = true)
    (hl : outLease s peer ctx lease = some l) (hdue : l.nextRenew ≤ s.pwr.time) :
    exec (.leaseRenewalDue peer ctx lease) s = .next (sendControl
      (peerOf (mapOut peer ctx (fun c => { c with leases := onLease lease (fun x => { x with
        renewNo := (l.renewNo + 1) % 65536, nextRenew := x.nextRenew + 250 * x.term }) c.leases }) (fresh s)) peer) 6
      (leaseKf ⟨peer, ctx, lease, (l.renewNo + 1) % 65536, 0, scoreTag s⟩)
      (mapOut peer ctx (fun c => { c with leases := onLease lease (fun x => { x with
        renewNo := (l.renewNo + 1) % 65536, nextRenew := x.nextRenew + 250 * x.term }) c.leases }) (fresh s))) := by
  change execLeaseRenewalDue peer ctx lease s = _
  unfold execLeaseRenewalDue
  dsimp only
  rw [show outLease (fresh s) peer ctx lease = some l from hl]
  refine congrArg Host.Outcome.next (if_neg ?_)
  rw [show routerWorks (fresh s) = true from hworks, Bool.not_true, Bool.false_or, decide_eq_true_eq]
  exact Nat.not_lt.mpr hdue

theorem exec_leaseRenewal {m : LeaseMsg} {l : Lease} {s : State} (hworks : routerWorks s = true)
    (htag : tagMatches s m.scoreTag = true) (hl : inLease s m.peer m.ctx m.lease = some l)
    (hlive : expired s.pwr.time l = false) :
    exec (.leaseRenewal m) s = .next (sendControl
      (peerOf (mapIn m.peer m.ctx (onLease m.lease (fun x => { x with expiry := some (s.pwr.time + 1000 * x.term) }))
        (fresh s)) m.peer) 7 (leaseKf ⟨m.peer, m.ctx, m.lease, m.count, 0, scoreTag s⟩)
      (mapIn m.peer m.ctx (onLease m.lease (fun x => { x with expiry := some (s.pwr.time + 1000 * x.term) })) (fresh s))) := by
  refine (leaseCommand_taken hworks htag).trans (congrArg Host.Outcome.next ?_)
  unfold takeRenewal
  dsimp only
  rw [show inLease (fresh s) m.peer m.ctx m.lease = some l from hl]
  exact if_neg (by rw [show expired (fresh s).pwr.time l = false from hlive]; decide)

theorem exec_holderLeaseExpiry {peer ctx lease : Nat} {l : Lease} {s : State} (hreset : s.pwr.inReset = false)
    (hl : outLease s peer ctx lease = some l) (hexpired : expired s.pwr.time l = true) :
    exec (.holderLeaseExpiry peer ctx lease) s = .next (pullsPast peer (silentVerdict peer
      (mapOut peer ctx (fun c => { c with leases := c.leases.filter (fun x => x.num ≠ lease) }) (fresh s)))) := by
  change execHolderLeaseExpiry peer ctx lease s = _
  unfold execHolderLeaseExpiry
  dsimp only
  rw [show (fresh s).pwr.inReset = false from hreset, if_neg (by decide),
    show outLease (fresh s) peer ctx lease = some l from hl]
  exact congrArg Host.Outcome.next (if_neg (by rw [show expired (fresh s).pwr.time l = true from hexpired]; decide))

theorem exec_issuerLeaseExpiry {ctx lease : Nat} {c : InCtx} {s : State} (hreset : s.pwr.inReset = false)
    (hc : s.fab.inn.find? (fun c => c.num == ctx && c.stream != .control
      && c.leases.any (fun l => l.num == lease && expired s.pwr.time l)) = some c) :
    exec (.issuerLeaseExpiry ctx lease) s = .next (pullsPast (resolved s c.peer) (reclaim (resolved s c.peer) ctx
      (silentVerdict (resolved s c.peer)
        (mapIn (resolved s c.peer) ctx (fun l => l.filter (fun x => x.num ≠ lease)) (fresh s))))) := by
  change execIssuerLeaseExpiry ctx lease s = _
  unfold execIssuerLeaseExpiry
  dsimp only
  rw [show (fresh s).pwr.inReset = false from hreset, if_neg (by decide),
    show (fresh s).fab.inn.find? (fun c => c.num == ctx && c.stream != .control
      && c.leases.any (fun l => l.num == lease && expired (fresh s).pwr.time l)) = some c from hc]
  rfl

theorem silenced_reclaim {peer ctx : Nat} {s t : State} (h : Silenced peer s t) : Silenced peer s (reclaim peer ctx t) where
  silent := h.silent
  out := h.out
  inn := h.inn
  expiries := h.expiries
  lost := h.lost
  regs := h.regs
  frame := unchangedExcept_trans h.frame (unchanged_of_covered (m := 1040383) (by simp) rfl)

end Sys2Proof.Machine

open Sys2Proof Sys2Proof.Machine

/-- Settles O34, by what each lease message leaves of the lease that it names. -/
theorem leasesLiveAndExpire : Obligations.LeasesLiveAndExpire := by
  unfold Obligations.LeasesLiveAndExpire
  refine ⟨fun m s hworks htag hnone => ?granted,
    fun m s hworks htag hsome => ?lease,
    fun m l sentAt s hworks htag hl hsent => ?acknowledged,
    fun m s hworks htag hnone hruns => ?returned,
    fun m l s hworks htag hl hlive => ?renewed,
    fun m l s hworks htag hl hexpired => ?late,
    fun m i s hworks htag hi => ?foreign,
    fun peer ctx lease l s hworks hl hdue => ?due,
    fun peer ctx lease l s hl hearly => ?early,
    fun peer ctx lease l s hreset hpulls hrepairs hheard hl hexpired => ?holder,
    fun ctx lease peer c s hreset hpulls hrepairs hc hpeer hheard => ?issuer,
    fun peer ctx lease x s hreset hnone hx => ?silent⟩
  case granted =>
    refine (leaseCommand_taken hworks htag).trans (congrArg Host.Outcome.next ?_)
    exact drainOut_idle (noneWaits_mapOut hnone fun _ => rfl)
  case lease =>
    have hgranted := outLease_granted (s := fresh s) (peer := m.peer) (num := m.ctx) (x := {
      num := m.lease, granules := m.count, term := m.term, expiry := some (s.pwr.time + 1000 * m.term - 80000)
      nextRenew := s.pwr.time + 250 * m.term }) hsome
    obtain ⟨x, hx, hgranules, hterm, hexpiry⟩ := option_of_map_unspent (outLease_drainOut _ m.peer m.ctx m.lease) hgranted
    exact ⟨_, x, leaseCommand_taken hworks htag, hx, hgranules, hterm, hexpiry,
      unchanged_of_covered (m := 1040381) (by simp [takeGrant]) rfl⟩
  case acknowledged =>
    have hack : ackRenewal m.count l = { l with
        expiry := some (sentAt + 1000 * l.term), sent := (l.sent.dropWhile (fun y => y.1 ≠ m.count)).drop 1 } := by
      unfold ackRenewal
      rw [hsent]
    have hnum : ∀ x, (ackRenewal m.count x).num = x.num := fun x => by
      unfold ackRenewal
      split
      · rfl
      · rfl
    have hmapped := outLease_mapOut (k := m.lease) (f := fun c => { c with leases := onLease m.lease (ackRenewal m.count) c.leases })
      (fresh s) (ackRenewal m.count) (fun _ => rfl) hnum (fun _ => rfl) (peer := m.peer) (num := m.ctx)
    rw [show outLease (fresh s) m.peer m.ctx m.lease = some l from hl, Option.map_some, hack] at hmapped
    obtain ⟨x, hx, hgranules, -, hexpiry⟩ := option_of_map_unspent (outLease_drainOut _ m.peer m.ctx m.lease) hmapped
    refine ⟨_, x, leaseCommand_taken hworks htag, hx, hexpiry, hgranules, fun hnone => ?_,
      unchanged_of_covered (m := 1040381) (by simp [takeRenewalAck]) rfl⟩
    have hidle := drainOut_mapOut_idle (peer := m.peer) (num := m.ctx)
      (f := fun c => { c with leases := onLease m.lease (ackRenewal m.count) c.leases }) (s := fresh s) hnone fun _ => rfl
    rw [hidle, hmapped] at hx
    rw [← Option.some.inj hx]
  case returned =>
    refine (leaseCommand_taken hworks htag).trans (congrArg Host.Outcome.next ?_)
    unfold takeReturn
    rw [drainOut_mapOut_idle (s := fresh s) hnone]
    · exact reviewColls_idle hruns
    · intro c
      rfl
  case renewed =>
    have hmapped := inLease_mapIn (k := m.lease) (peer := m.peer) (num := m.ctx) (fresh s)
      (fun x => { x with expiry := some (s.pwr.time + 1000 * x.term) }) (fun _ => rfl)
    rw [show inLease (fresh s) m.peer m.ctx m.lease = some l from hl, Option.map_some] at hmapped
    refine ⟨_, exec_leaseRenewal hworks htag hl hlive, (inLease_sendControl ..).trans hmapped,
      regsExcept_trans (regsExcept_of_regs ?_) (regsExcept_sendControl _ _ _ _ (by decide) (by decide)),
      unchanged_of_covered (m := 1040365) (by simp) rfl⟩
    rfl
  case late =>
    refine (leaseCommand_taken hworks htag).trans (congrArg Host.Outcome.next ?_)
    unfold takeRenewal
    dsimp only
    rw [show inLease (fresh s) m.peer m.ctx m.lease = some l from hl]
    exact if_pos hexpired
  case foreign =>
    have hcounted : exec i s = .next (bump 0x6050 6 1 (fresh s)) := by
      simp only [List.mem_cons, List.not_mem_nil, or_false] at hi
      obtain rfl | rfl | rfl | rfl := hi
      · exact leaseCommand_foreign hworks htag
      · exact leaseCommand_foreign hworks htag
      · exact leaseCommand_foreign hworks htag
      · exact leaseCommand_foreign hworks htag
    exact ⟨_, hcounted, satAdd_rg_eq 1 rfl, regsExcept_bump 1 (fresh s) (by decide) (by decide),
      unchanged_of_covered (m := 1048557) (by simp) rfl⟩
  case due =>
    have hmapped := outLease_mapOut (k := lease) (peer := peer) (num := ctx) (f := fun c => { c with
        leases := onLease lease (fun x => { x with
          renewNo := (l.renewNo + 1) % 65536, nextRenew := x.nextRenew + 250 * x.term }) c.leases })
      (fresh s) (fun x => { x with renewNo := (l.renewNo + 1) % 65536, nextRenew := x.nextRenew + 250 * x.term })
      (fun _ => rfl) (fun _ => rfl) (fun _ => rfl)
    rw [show outLease (fresh s) peer ctx lease = some l from hl, Option.map_some] at hmapped
    refine ⟨_, exec_leaseRenewalDue hworks hl hdue, (outLease_sendControl ..).trans hmapped,
      regsExcept_trans (regsExcept_of_regs ?_) (regsExcept_sendControl _ _ _ _ (by decide) (by decide)),
      unchanged_of_covered (m := 1040365) (by simp) rfl⟩
    rfl
  case early =>
    change execLeaseRenewalDue peer ctx lease s = _
    unfold execLeaseRenewalDue
    dsimp only
    rw [show outLease (fresh s) peer ctx lease = some l from hl]
    refine congrArg Host.Outcome.next (if_pos ?_)
    rw [Bool.or_eq_true, decide_eq_true_eq]
    exact .inr hearly
  case holder =>
    have hsilenced := silentVerdict_silenced (peer := peer)
      (s := mapOut peer ctx (fun c => { c with leases := c.leases.filter (fun x => x.num ≠ lease) }) (fresh s)) hheard
    have hres := (show Keeps 32768 s (silentVerdict peer
      (mapOut peer ctx (fun c => { c with leases := c.leases.filter (fun x => x.num ≠ lease) }) (fresh s))) by simp).res (by decide)
    have hexec := exec_holderLeaseExpiry hreset hl hexpired
    rw [pullsPast_idle (by rw [hres, hpulls]) (by rw [hres, hrepairs])] at hexec
    refine ⟨_, hexec, silenced_of_mapped hsilenced (sameMap_of_rgK (by simp) rfl) rfl (by simp) rfl (List.map_id _).symm rfl
      (fun c => ?_) fun c => ⟨rfl, fun _ => rfl⟩⟩
    dsimp only
    split
    · next hout =>
      refine ⟨rfl, rfl, fun hne => absurd ?_ hne⟩
      unfold isOut at hout
      simp only [Bool.and_eq_true, beq_iff_eq] at hout
      exact hout.1.1
    · exact ⟨rfl, rfl, fun _ => rfl⟩
  case issuer =>
    subst hpeer
    have hsilenced := silentVerdict_silenced (peer := resolved s c.peer)
      (s := mapIn (resolved s c.peer) ctx (fun l => l.filter (fun x => x.num ≠ lease)) (fresh s)) hheard
    have hres := (show Keeps 32768 s (reclaim (resolved s c.peer) ctx (silentVerdict (resolved s c.peer)
      (mapIn (resolved s c.peer) ctx (fun l => l.filter (fun x => x.num ≠ lease)) (fresh s)))) by simp).res (by decide)
    have hexec := exec_issuerLeaseExpiry hreset hc
    rw [pullsPast_idle (by rw [hres, hpulls]) (by rw [hres, hrepairs])] at hexec
    refine ⟨_, hexec, silenced_reclaim (silenced_of_mapped hsilenced (sameMap_of_rgK (by simp) rfl) rfl (by simp)
      (List.map_id _).symm rfl rfl (fun c => ⟨rfl, rfl, fun _ => rfl⟩) fun c => ?_), ?_⟩
    · dsimp only
      split
      · next hin =>
        refine ⟨rfl, fun hne => absurd ?_ hne⟩
        unfold isIn at hin
        simp only [Bool.and_eq_true, beq_iff_eq] at hin
        exact hin.1.1
      · exact ⟨rfl, fun _ => rfl⟩
    · exact List.mem_append_right _ (List.mem_singleton.mpr rfl)
  case silent =>
    have hexec : exec (.holderLeaseExpiry peer ctx lease) s = .next (lateExpiry x (fresh s)) := by
      change execHolderLeaseExpiry peer ctx lease s = _
      unfold execHolderLeaseExpiry
      dsimp only
      rw [show (fresh s).pwr.inReset = false from hreset, if_neg (by decide),
        show outLease (fresh s) peer ctx lease = none from hnone]
      dsimp only
      rw [show (fresh s).fab.late.find? (fun x => x.peer == peer && lateExpired (fresh s) true ctx lease x) = some x from hx]
    exact ⟨_, hexec, rfl, satAdd_rg_eq 1 rfl, regsExcept_bump 1 _ (by decide) (by decide),
      unchanged_of_covered (m := 1040365) (by simp) rfl⟩

end

section
/-! Parcels in the router (spec/10_fabric.md, Routing and Parcels). -/

namespace Sys2Proof.Machine

/-! ## What a lane that sends leaves of the router -/

/-- The router's queues, what has arrived, the planes last used, the receive lanes and the counts of 0x6050 but the
flits sent are the same. -/
structure RouterKept (s t : State) : Prop where
  fwd : t.fab.fwd = s.fab.fwd
  arrived : t.fab.arrived = s.fab.arrived
  lastPlane : t.fab.lastPlane = s.fab.lastPlane
  rx : t.pho.rx = s.pho.rx
  counts : ∀ j, j < 256 → j ≠ 1 → rg t 0x6050 j = rg s 0x6050 j

theorem RouterKept.refl (s : State) : RouterKept s s := ⟨rfl, rfl, rfl, rfl, fun _ _ _ => rfl⟩

theorem RouterKept.trans {s t u : State} (h : RouterKept s t) (k : RouterKept t u) : RouterKept s u where
  fwd := k.fwd.trans h.fwd
  arrived := k.arrived.trans h.arrived
  lastPlane := k.lastPlane.trans h.lastPlane
  rx := k.rx.trans h.rx
  counts j hj hne := (k.counts j hj hne).trans (h.counts j hj hne)

theorem routerKept_foldl {α : Type} {f : State → α → State} (h : ∀ s x, RouterKept s (f s x)) (l : List α) (s : State) :
    RouterKept s (l.foldl f s) := by
  induction l generalizing s with
  | nil => exact .refl s
  | cons x l ih => exact (h s x).trans (ih _)

theorem routerKept_bump {i j : Nat} (n : Nat) (s : State) (h : ∀ k, k < 256 → k ≠ 1 → rg (bump i j n s) 0x6050 k = rg s 0x6050 k) :
    RouterKept s (bump i j n s) := ⟨rfl, rfl, rfl, rfl, h⟩

theorem routerKept_freeBuffers (l : List (Nat × Nat × Nat × Nat)) (s : State) : RouterKept s (freeBuffers l s) := by
  unfold freeBuffers
  refine routerKept_foldl (fun s b => ?_) l s
  split
  · exact ⟨rfl, rfl, rfl, rfl, fun _ _ _ => rfl⟩
  · exact .refl s

theorem routerKept_departed (p : Parcel) (s : State) : RouterKept s (departed p s) := by
  unfold departed
  dsimp only
  split
  · exact .refl s
  · split
    · exact ⟨rfl, rfl, rfl, rfl, fun _ _ _ => rfl⟩
    · split
      · exact ⟨rfl, rfl, rfl, rfl, fun _ _ _ => rfl⟩
      · exact .refl s

theorem routerKept_sendBare (p c kind : Nat) (s : State) : RouterKept s (sendBare p c kind s) :=
  ⟨rfl, rfl, rfl, rfl, fun _ _ _ => rfl⟩

theorem routerKept_emit (m : Output) (s : State) : RouterKept s (emit m s) := ⟨rfl, rfl, rfl, rfl, fun _ _ _ => rfl⟩

theorem routerKept_withTx (p c : Nat) (l : TxLane) (s : State) : RouterKept s (withTx p c l s) :=
  ⟨rfl, rfl, rfl, rfl, fun _ _ _ => rfl⟩

theorem routerKept_escapes (key : Nat) (s : State) : RouterKept s (if key = escapeKey then bump 0x6C01 2 1 s else s) := by
  split
  · exact routerKept_bump 1 s fun k hk _ => rg_bump_other s hk (by decide) (by decide)
  · exact .refl s

theorem routerKept_sendData (p c cls pool key : Nat) (s : State) : RouterKept s (sendData p c cls pool key s) := by
  unfold sendData
  extract_lets l word start x src h f src' l' s1 s2 s3 s4
  have hcounted : RouterKept s s1 := (routerKept_withTx p c l' s).trans
    (routerKept_bump 1 _ fun k hk hne => rg_bump_sub _ hk (by decide) hne)
  have hgone : RouterKept s2 s3 := routerKept_foldl (f := fun s y => parcelGone y s) (fun s y => routerKept_freeBuffers y.buffers s) x.ended s2
  have hleft : RouterKept s3 s4 := routerKept_foldl (f := fun s y => departed y.parcel s) (fun s y => routerKept_departed y.parcel s) x.begun s3
  exact (((hcounted.trans (routerKept_escapes key s1)).trans hgone).trans hleft).trans (routerKept_emit _ s4)

theorem routerKept_pumpFlits (p c n : Nat) (s : State) : RouterKept s (pumpFlits p c n s) := by
  induction n generalizing s with
  | zero => exact .refl s
  | succ n ih =>
    unfold pumpFlits
    dsimp only
    split
    · exact .refl s
    · split
      · exact (routerKept_sendData ..).trans (ih _)
      · split
        · exact (routerKept_sendBare ..).trans (ih _)
        · exact .refl s

theorem routerKept_pumpLane (p c : Nat) (s : State) : RouterKept s (pumpLane p c s) := routerKept_pumpFlits ..

/-! ## Forwarding -/

/-- A parcel's route, decided before or now. -/
def carriedRoute (s : State) (x : Carried) : Route :=
  match x.hop with
  | some h => .hop h
  | none => routeOf s x.parcel

theorem carriedRoute_hop {s : State} {x : Carried} {h : Hop}
    (hx : x.hop = some h ∨ x.hop = none ∧ routeOf s x.parcel = .hop h) : carriedRoute s x = .hop h := by
  unfold carriedRoute
  obtain hx | ⟨hx, hroute⟩ := hx
  · rw [hx]
  · rw [hx]
    exact hroute

theorem carriedRoute_new {s : State} {x : Carried} (hx : x.hop = none) : carriedRoute s x = routeOf s x.parcel := by
  unfold carriedRoute
  rw [hx]

/-- What becomes of the first parcel of a class, by its route. -/
def forwardHead (cls : Nat) (x : Carried) (rest : List Carried) (s : State) : Route → State
  | .deliver => withFab (fun f => { f with arrived := f.arrived ++ [x] }) (withQueue cls rest s)
  | .discard key value => dropParcel x key value (withQueue cls rest s)
  | .hop h =>
    match tryHop x h (withQueue cls rest s) with
    | some t => t
    | none => forwardOne cls [{ x with hop := some h }] [hopQueue s x] rest
        (if (planesTo (withQueue cls ({ x with hop := some h } :: rest) s) h.dim h.digit).isEmpty then
          noPlane h.dim h.digit (withQueue cls ({ x with hop := some h } :: rest) s)
        else withQueue cls ({ x with hop := some h } :: rest) s)

theorem exec_parcelForward {cls : Nat} {x : Carried} {rest : List Carried} {s : State} (hworks : routerWorks s = true)
    (hqueue : at_ [] cls s.fab.fwd = x :: rest) :
    exec (.parcelForward cls) s = .next (forwardHead cls x rest (fresh s) (carriedRoute s x)) := by
  change execParcelForward cls s = _
  unfold execParcelForward
  dsimp only
  rw [if_pos (show routerWorks (fresh s) = true from hworks), show at_ [] cls (fresh s).fab.fwd = x :: rest from hqueue]
  unfold forwardOne
  dsimp only
  rw [if_neg (by simp)]
  rw [show carriedRoute s x = carriedRoute (fresh s) x from rfl]
  unfold carriedRoute
  cases x.hop with
  | some h => rfl
  | none => cases routeOf (fresh s) x.parcel <;> rfl

/-! ## Taking a hop -/

/-- The hop of an exception counted, once. -/
def exceptionCounted (x : Carried) (h : Hop) (s : State) : State :=
  if h.exception && !x.counted then bump 0x6050 9 1 s else s

/-- The hop of a parcel that comes from elsewhere counted, once. -/
def relayCounted (x : Carried) (s : State) : State :=
  if x.parcel.src = nodeAddr s || x.counted then s else bump 0x6050 5 1 s

/-- A parcel put on a lane, its hop not counted yet. -/
def parcelBound (x : Carried) (h : Hop) (lane : Nat × Nat) (s : State) : State :=
  let b : Bound := ⟨{ x.parcel with hops := x.parcel.hops + 1, relayed := h.relayed, relayDim := h.relayDim },
    { x with hop := some h, counted := true }, levelOf s x.parcel h.dim h.digit⟩
  let s := withTx lane.1 lane.2 { txOf s lane.1 lane.2 with wait := (txOf s lane.1 lane.2).wait ++ [b] } s
  withFab (fun f => { f with lastPlane := put (setDigit h.dim h.digit (nodeAddr s)) lane.1 f.lastPlane }) s

/-- A parcel put on a lane, its hop counted. -/
def boundCounted (x : Carried) (h : Hop) (lane : Nat × Nat) (s : State) : State :=
  relayCounted x (exceptionCounted x h (parcelBound x h lane s))

theorem exceptionCounted_fields (x : Carried) (h : Hop) (s : State) : (exceptionCounted x h s).fab = s.fab ∧
    (exceptionCounted x h s).pho = s.pho ∧ (∀ j, j < 256 → j ≠ 9 → rg (exceptionCounted x h s) 0x6050 j = rg s 0x6050 j) ∧
    rg (exceptionCounted x h s) 0x6000 1 = rg s 0x6000 1 ∧
    (x.counted = false → h.exception = true →
      rg (exceptionCounted x h s) 0x6050 9 = satAdd (sizeOf_ 0x6050 9) (rg s 0x6050 9) 1) := by
  unfold exceptionCounted
  split
  · exact ⟨rfl, rfl, fun j hj hne => rg_bump_sub s hj (by decide) hne, rg_bump_other s (by decide) (by decide) (by decide),
      fun _ _ => satAdd_rg_eq 1 rfl⟩
  · next hoff =>
    exact ⟨rfl, rfl, fun _ _ _ => rfl, rfl, fun hnew hexception => absurd (by rw [hnew, hexception]; rfl) hoff⟩

theorem relayCounted_fields (x : Carried) (s : State) : (relayCounted x s).fab = s.fab ∧ (relayCounted x s).pho = s.pho ∧
    (∀ j, j < 256 → j ≠ 5 → rg (relayCounted x s) 0x6050 j = rg s 0x6050 j) ∧
    (x.counted = false → x.parcel.src ≠ nodeAddr s →
      rg (relayCounted x s) 0x6050 5 = satAdd (sizeOf_ 0x6050 5) (rg s 0x6050 5) 1) ∧
    ((x.counted = true ∨ x.parcel.src = nodeAddr s) → rg (relayCounted x s) 0x6050 5 = rg s 0x6050 5) := by
  unfold relayCounted
  split
  · next hown =>
    simp only [Bool.or_eq_true, decide_eq_true_eq] at hown
    exact ⟨rfl, rfl, fun _ _ _ => rfl, fun hnew hfar => absurd hown (by simp [hnew, hfar]), fun _ => rfl⟩
  · next hfar =>
    simp only [Bool.or_eq_true, decide_eq_true_eq] at hfar
    exact ⟨rfl, rfl, fun j hj hne => rg_bump_sub s hj (by decide) hne, fun _ _ => satAdd_rg_eq 1 rfl,
      fun hown => absurd hown.symm hfar⟩

theorem bindParcel_eq (x : Carried) (h : Hop) (lane : Nat × Nat) (s : State) :
    bindParcel x h lane s = pumpLane lane.1 lane.2 (boundCounted x h lane s) := rfl

theorem boundCounted_leaves (x : Carried) (h : Hop) (lane : Nat × Nat) (s : State) :
    (boundCounted x h lane s).fab.fwd = s.fab.fwd ∧ (boundCounted x h lane s).fab.arrived = s.fab.arrived ∧
      lookup (setDigit h.dim h.digit (nodeAddr s)) (boundCounted x h lane s).fab.lastPlane = some lane.1 ∧
      (boundCounted x h lane s).pho.rx = s.pho.rx := by
  obtain ⟨hfab, hpho, -⟩ := exceptionCounted_fields x h (parcelBound x h lane s)
  obtain ⟨hfab', hpho', -⟩ := relayCounted_fields x (exceptionCounted x h (parcelBound x h lane s))
  unfold boundCounted
  rw [hfab', hpho', hfab, hpho]
  exact ⟨rfl, rfl, lookup_put_same .., rfl⟩

theorem rg_boundCounted {x : Carried} {h : Hop} (lane : Nat × Nat) (s : State) :
    (x.counted = false → x.parcel.src ≠ nodeAddr s →
      rg (boundCounted x h lane s) 0x6050 5 = satAdd (sizeOf_ 0x6050 5) (rg s 0x6050 5) 1) ∧
    ((x.counted = true ∨ x.parcel.src = nodeAddr s) → rg (boundCounted x h lane s) 0x6050 5 = rg s 0x6050 5) ∧
    (x.counted = false → h.exception = true →
      rg (boundCounted x h lane s) 0x6050 9 = satAdd (sizeOf_ 0x6050 9) (rg s 0x6050 9) 1) := by
  have hbound : ∀ j, rg (parcelBound x h lane s) 0x6050 j = rg s 0x6050 j := fun _ => rfl
  obtain ⟨-, -, hkept, hnode, hnine⟩ := exceptionCounted_fields x h (parcelBound x h lane s)
  have hnode : nodeAddr (exceptionCounted x h (parcelBound x h lane s)) = nodeAddr s := hnode
  obtain ⟨-, -, hkept', hfar, hown⟩ := relayCounted_fields x (exceptionCounted x h (parcelBound x h lane s))
  rw [hkept 5 (by decide) (by decide), hbound, hnode] at hfar hown
  rw [hbound] at hnine
  exact ⟨hfar, hown, fun hnew hexception => (hkept' 9 (by decide) (by decide)).trans (hnine hnew hexception)⟩

theorem bindParcel_leaves (x : Carried) (h : Hop) (lane : Nat × Nat) (s : State) :
    RouterKept (boundCounted x h lane s) (bindParcel x h lane s) := by
  rw [bindParcel_eq]
  exact routerKept_pumpLane ..

theorem tryHop_bound {x : Carried} {h : Hop} {lane : Nat × Nat} {cls : Nat} {rest : List Carried} {s : State}
    (hlane : (rotated (lookup (setDigit h.dim h.digit (nodeAddr s)) s.fab.lastPlane) (planesTo s h.dim h.digit)).find?
      (laneReady s x.parcel h) = some lane) :
    tryHop x h (withQueue cls rest (fresh s)) = some (bindParcel x h lane (withQueue cls rest (fresh s))) :=
  congrArg (Option.map fun lane => bindParcel x h lane (withQueue cls rest (fresh s))) hlane

theorem tryHop_none {x : Carried} {h : Hop} {cls : Nat} {rest : List Carried} {s : State}
    (hplanes : planesTo s h.dim h.digit = []) : tryHop x h (withQueue cls rest (fresh s)) = none := by
  have h0 : planesTo (withQueue cls rest (fresh s)) h.dim h.digit = [] := hplanes
  unfold tryHop
  dsimp only
  rw [h0]
  unfold rotated
  split
  · rfl
  · rfl

theorem forwardHead_bound {cls : Nat} {x : Carried} {rest : List Carried} {h : Hop} {s t : State}
    (ht : tryHop x h (withQueue cls rest s) = some t) : forwardHead cls x rest s (.hop h) = t := by
  unfold forwardHead
  dsimp only
  rw [ht]

theorem forwardHead_waits {cls : Nat} {x : Carried} {h : Hop} {s : State} (hnone : tryHop x h (withQueue cls [] s) = none)
    (hplanes : planesTo s h.dim h.digit = []) :
    forwardHead cls x [] s (.hop h) = noPlane h.dim h.digit (withQueue cls [{ x with hop := some h }] s) := by
  have hplanes' : planesTo (withQueue cls [{ x with hop := some h }] s) h.dim h.digit = [] := hplanes
  unfold forwardHead
  dsimp only
  rw [hnone]
  dsimp only
  rw [hplanes']
  rfl

theorem returnDropped_control {x : Carried} {s : State} (hpaid : x.paid = none) (hcls : x.parcel.cls = 1) :
    returnDropped x s = s := by
  unfold returnDropped
  rw [hpaid]
  exact if_neg fun h => h.1 hcls

/-- A parcel whose route ends here reported, once for its key. -/
def routeReported (key value : Nat) (s : State) : State :=
  if s.fab.unroutable.contains key then s
  else raise 1 0x0022 (leBytes 4 value) (withFab (fun f => { f with unroutable := addNum key f.unroutable }) s)

theorem dropParcel_control {x : Carried} (key value : Nat) {s : State} (hpaid : x.paid = none) (hcls : x.parcel.cls = 1) :
    dropParcel x key value s = routeReported key value (bump 0x6050 6 1 (freeBuffers x.buffers s)) := by
  unfold dropParcel
  rw [returnDropped_control hpaid hcls]
  rfl

theorem routeReported_leaves (key value : Nat) (s : State) :
    (routeReported key value s).fab.fwd = s.fab.fwd ∧ (routeReported key value s).fab.arrived = s.fab.arrived ∧
      key ∈ (routeReported key value s).fab.unroutable ∧
      (key ∈ s.fab.unroutable → (routeReported key value s).ring = s.ring) ∧
      (∀ i j, j < 256 → ¬counted i → rg (routeReported key value s) i j = rg s i j) ∧
      regsExcept [] s (routeReported key value s) ∧ Keeps 974831 s (routeReported key value s) := by
  unfold routeReported
  split
  · next hin =>
    exact ⟨rfl, rfl, List.contains_iff_mem.mp hin, fun _ => rfl, fun _ _ _ _ => rfl, regsExcept_refl _ s, Keeps.refl _ s⟩
  · next hout =>
    generalize hu : withFab (fun f => { f with unroutable := addNum key f.unroutable }) s = u
    have hraise : Keeps 983023 u (raise 1 0x0022 (leBytes 4 value) u) := by simp
    have hfab := hraise.fab (by decide)
    have hkeeps : Keeps 1040383 s u := by
      rw [← hu]
      simp
    refine ⟨?_, ?_, ?_, fun hin => absurd (List.contains_iff_mem.mpr hin) hout, fun i j hj hfree =>
      (rg_raise _ hj hfree).trans (rg_of_regs (hkeeps.regs (by decide)) ..),
      regsExcept_trans (regsExcept_of_regs (hkeeps.regs (by decide))) (regsExcept_raise 1 0x0022 _ _),
      (hkeeps.mono (by decide)).trans (hraise.mono (by decide))⟩
    · rw [hfab, ← hu]
      rfl
    · rw [hfab, ← hu]
      rfl
    · rw [hfab, ← hu]
      exact mem_addNum ..

theorem at_withQueue (cls : Nat) (q : List Carried) (s : State) : at_ [] cls (withQueue cls q s).fab.fwd = q := at_set_same ..

/-! ## Delivery -/

/-- The state of a delivery, the first parcel taken. -/
def arrivedTaken (rest : List Carried) (s : State) : State := withFab (fun f => { f with arrived := rest }) (fresh s)

theorem exec_parcelDelivery {x : Carried} {rest : List Carried} {s : State} (hworks : routerWorks s = true)
    (harrived : s.fab.arrived = x :: rest) :
    exec .parcelDelivery s = .next (freeBuffers x.buffers (deliverParcel x.parcel (arrivedTaken rest s))) := by
  change execParcelDelivery s = _
  unfold execParcelDelivery
  dsimp only
  rw [show routerWorks (fresh s) = true from hworks, if_neg (by decide), show (fresh s).fab.arrived = x :: rest from harrived]
  rfl

theorem sendControl_router (dst kind kf : Nat) (s : State) :
    (sendControl dst kind kf s).fab.arrived = s.fab.arrived ∧
      ∀ j, j < 256 → j ≠ 6 → rg (sendControl dst kind kf s) 0x6050 j = rg s 0x6050 j := by
  unfold sendControl sendParcel
  split
  · exact ⟨rfl, fun j hj _ => rg_bump_other s hj (by decide) (by decide)⟩
  · split
    · exact ⟨rfl, fun j hj hne => rg_bump_sub s hj (by decide) hne⟩
    · exact ⟨rfl, fun _ _ _ => rfl⟩

theorem giveBack_leaves (c : Option InCtx) (p : Parcel) (s : State) :
    (giveBack c p s).fab.arrived = s.fab.arrived ∧ Keeps 1040367 s (giveBack c p s) ∧
      ∀ j, j < 256 → j ≠ 6 → rg (giveBack c p s) 0x6050 j = rg s 0x6050 j := by
  refine ⟨?_, by simp, fun j hj hne => ?_⟩
  · unfold giveBack returnOn
    split
    · split
      · rfl
      · split
        · rfl
        · exact (sendControl_router ..).1
    · rfl
  · unfold giveBack returnOn
    split
    · split
      · rfl
      · split
        · rfl
        · exact (sendControl_router ..).2 j hj hne
    · rfl

theorem deliverParcel_stranger {p q : Parcel} {s : State} (hopen : openParcel s.fab.parcelKey p = some q)
    (hcontext : contextOf s p = none) : deliverParcel p s = noContext p s := by
  unfold deliverParcel
  rw [hopen]
  dsimp only
  rw [hcontext]

/-- A context that has seen a sequence number. -/
def seenOn (c : InCtx) (seq : Nat) (s : State) : State :=
  withFab (fun f => { f with inn := f.inn.map (fun x => if x = c then (seeSequence c seq).2 else x) }) s

theorem deliverParcel_known {p q : Parcel} {c : InCtx} {s : State} (hopen : openParcel s.fab.parcelKey p = some q)
    (hcontext : contextOf s p = some c) : deliverParcel p s =
      if (seeSequence c p.seq).1 then giveBack (some c) p (bump 0x6050 8 1 (seenOn c p.seq s))
      else if c.stream = .control then takeControl q (seenOn c p.seq s)
      else takeData c q (seenOn c p.seq s) := by
  unfold deliverParcel
  rw [hopen]
  dsimp only
  rw [hcontext]
  rfl

theorem leaseCommand_works {tag : Nat} {f : State → State} {s : State} (hsent : s.sent = []) (hworks : routerWorks s = true) :
    leaseCommand tag f s = .next (ifTagged tag f s) := by
  have hfresh : fresh s = s := by
    unfold fresh
    rw [← hsent]
  unfold leaseCommand
  rw [hfresh]
  exact congrArg Host.Outcome.next (if_pos hworks)

/-- A control parcel applied is the command of its kind. -/
theorem exec_takeControl {q : Parcel} {i : Instr} {s : State} (hsent : s.sent = []) (hworks : routerWorks s = true)
    (hreset : s.pwr.inReset = false)
    (hi : (q.kind, i) ∈ [(4, .tokenIncrementParcel (parcelToken q)), (5, .leaseGrant (parcelLease q)),
      (6, .leaseRenewal (parcelLease q)), (7, .renewalAcknowledgement (parcelLease q)),
      (8, .granuleReturn (parcelLease q)), (9, Instr.pairDigestReceive (parcelPair q))]) :
    exec i s = .next (takeControl q s) := by
  simp only [List.mem_cons, List.not_mem_nil, or_false, Prod.mk.injEq] at hi
  unfold takeControl
  obtain ⟨hk, rfl⟩ | ⟨hk, rfl⟩ | ⟨hk, rfl⟩ | ⟨hk, rfl⟩ | ⟨hk, rfl⟩ | ⟨hk, rfl⟩ := hi
  · rw [hk]
    exact leaseCommand_works hsent hworks
  · rw [hk]
    exact leaseCommand_works hsent hworks
  · rw [hk]
    exact leaseCommand_works hsent hworks
  · rw [hk]
    exact leaseCommand_works hsent hworks
  · rw [hk]
    exact leaseCommand_works hsent hworks
  · rw [hk]
    have hfresh : fresh s = s := by
      unfold fresh
      rw [← hsent]
    change execPairDigestReceive (parcelPair q) s = _
    unfold execPairDigestReceive
    rw [hfresh]
    exact congrArg Host.Outcome.next (if_neg (by rw [hreset]; decide))

theorem deliverParcel_unopened {p : Parcel} {s : State} (hopen : openParcel s.fab.parcelKey p = none)
    (hkind : 4 ≤ p.kind) : deliverParcel p s = giveBack (contextOf (raise 3 0x0023 (leBytes 4 0 ++ leBytes 4 p.src)
      (bump 0x6050 7 1 s)) p) p (raise 3 0x0023 (leBytes 4 0 ++ leBytes 4 p.src) (bump 0x6050 7 1 s)) := by
  unfold deliverParcel
  rw [hopen]
  dsimp only
  unfold badTagParcel
  split
  · omega
  · omega
  · omega
  · rfl

theorem noPlane_leaves (k t : Nat) (s : State) :
    (noPlane k t s).fab.fwd = s.fab.fwd ∧ (noPlane k t s).fab.arrived = s.fab.arrived ∧
      (k, t) ∈ (noPlane k t s).fab.unreachable ∧ ((k, t) ∈ s.fab.unreachable → (noPlane k t s).ring = s.ring) ∧
      regsExcept [] s (noPlane k t s) ∧ Keeps 974831 s (noPlane k t s) := by
  unfold noPlane
  split
  · next hin =>
    exact ⟨rfl, rfl, List.contains_iff_mem.mp hin, fun _ => rfl, regsExcept_refl _ s, Keeps.refl _ s⟩
  · next hout =>
    generalize hu : withFab (fun f => { f with unreachable := f.unreachable ++ [(k, t)] }) s = u
    have hraise : Keeps 983023 u (raise 1 0x0021 (leBytes 1 k ++ leBytes 1 t) u) := by simp
    have hfab := hraise.fab (by decide)
    have hkeeps : Keeps 1040383 s u := by
      rw [← hu]
      simp
    refine ⟨?_, ?_, ?_, fun hin => absurd (List.contains_iff_mem.mpr hin) hout,
      regsExcept_trans (regsExcept_of_regs (hkeeps.regs (by decide))) (regsExcept_raise 1 0x0021 _ _),
      (hkeeps.mono (by decide)).trans (hraise.mono (by decide))⟩
    · rw [hfab, ← hu]
      rfl
    · rw [hfab, ← hu]
      rfl
    · rw [hfab, ← hu]
      exact List.mem_append_right _ (List.mem_singleton.mpr rfl)

end Sys2Proof.Machine

open Sys2Proof Sys2Proof.Machine

/-- Settles O35, by the route of the first parcel of a class and the context of the first that has arrived. -/
theorem parcelsReachTheirEffect : Obligations.ParcelsReachTheirEffect := by
  unfold Obligations.ParcelsReachTheirEffect
  refine ⟨fun m sc d s hworks hsc htag hd hrun hround => ?token,
    fun m s hworks htag hother hnext => ?held,
    fun cls x rest s hworks hqueue hnew hroute => ?arrives,
    fun cls x rest h lane s hworks hqueue hhop hlane => ?leaves,
    fun cls x h s hworks hqueue hhop hplanes => ?waits,
    fun cls key value x rest s hworks hqueue hnew hfree hcls hroute => ?dropped,
    fun x rest s hworks harrived hopen hcls hkind => ?badTag,
    fun x rest q s hworks harrived hopen hcontext => ?noContext,
    fun x rest q c s hworks harrived hopen hcontext hseen => ?duplicate,
    fun x rest q c i seen s hworks harrived hbuffers hopen hcontext hcontrol hfirst hseen hi => ?control⟩
  case token =>
    have hexec : exec (.tokenIncrementParcel m) s = .next (addToken sc m.token m.count (fresh s)) := by
      refine (leaseCommand_taken hworks htag).trans (congrArg Host.Outcome.next ?_)
      unfold takeToken onScore
      dsimp only
      rw [show (fresh s).ex.score = some sc from hsc]
      exact if_pos ⟨hrun, hround⟩
    have hexcess := rg_addToken_excess m.count (fresh s) hd
    refine ⟨_, hexec, tokenCount_addToken_same m.count (fresh s) hd, fun hover => ?_, fun hfits => ?_,
      fun k hk => tokenCount_addToken_other m.count (fresh s) hd hk, (addToken_stepId ..).trans rfl,
      regsExcept_addToken m.count (fresh s) hd, unchanged_of_covered (m := 1048493) (by simp) rfl⟩
    · exact hexcess.trans (if_pos hover)
    · exact hexcess.trans (if_neg (Nat.not_lt.mpr hfits))
  case held =>
    refine (leaseCommand_taken hworks htag).trans (congrArg Host.Outcome.next ?_)
    unfold takeToken onScore
    split
    · refine (if_neg ?_).trans (if_pos hnext)
      rintro ⟨hrun, hround⟩
      obtain hidle | hne := hother
      · exact Bool.false_ne_true (hidle.symm.trans hrun)
      · exact hne hround
    · next hnone =>
      unfold tagMatches at htag
      rw [show s.ex.score = none from hnone] at htag
      exact absurd htag (by simp)
  case arrives =>
    have hexec := exec_parcelForward hworks hqueue
    rw [carriedRoute_new hnew, hroute] at hexec
    exact hexec
  case leaves =>
    have hexec := exec_parcelForward hworks hqueue
    rw [carriedRoute_hop hhop] at hexec
    rw [forwardHead_bound (tryHop_bound hlane)] at hexec
    obtain ⟨hfwd, harrived, hlast, hrx⟩ := boundCounted_leaves x h lane (withQueue cls rest (fresh s))
    obtain ⟨hfar, hown, hnine⟩ := rg_boundCounted (x := x) (h := h) lane (withQueue cls rest (fresh s))
    have hkept := bindParcel_leaves x h lane (withQueue cls rest (fresh s))
    refine ⟨_, hexec, ?_, hkept.arrived.trans harrived, ?_, hkept.rx.trans hrx, fun hnew hsrc => ?_, fun hsrc => ?_,
      fun hnew hexception => ?_, unchanged_of_covered (m := 1036269) (by simp [withQueue]) rfl⟩
    · rw [hkept.fwd, hfwd]
      exact at_set_same ..
    · rw [hkept.lastPlane]
      exact hlast
    · exact (hkept.counts 5 (by decide) (by decide)).trans (hfar hnew hsrc)
    · exact (hkept.counts 5 (by decide) (by decide)).trans (hown hsrc)
    · exact (hkept.counts 9 (by decide) (by decide)).trans (hnine hnew hexception)
  case waits =>
    have hexec := exec_parcelForward hworks hqueue
    rw [carriedRoute_hop hhop] at hexec
    rw [forwardHead_waits (tryHop_none hplanes) hplanes] at hexec
    obtain ⟨hfwd, harrived, hin, hring, hregs, hkeeps⟩ :=
      noPlane_leaves h.dim h.digit (withQueue cls [{ x with hop := some h }] (fresh s))
    refine ⟨_, hexec, ?_, harrived, hin, hring, regsExcept_trans (regsExcept_of_regs ?_) hregs,
      unchanged_of_covered (m := 974829) (Keeps.trans (t := withQueue cls [{ x with hop := some h }] (fresh s))
        (by simp [withQueue]) (hkeeps.mono (by decide))) rfl⟩
    · exact (congrArg (at_ [] cls) hfwd).trans (at_withQueue ..)
    · rfl
  case dropped =>
    have hexec := exec_parcelForward hworks hqueue
    rw [carriedRoute_new hnew, hroute, show forwardHead cls x rest (fresh s) (.discard key value) =
      dropParcel x key value (withQueue cls rest (fresh s)) from rfl, dropParcel_control key value hfree hcls] at hexec
    have hfreed : Keeps 1044479 (withQueue cls rest (fresh s)) (freeBuffers x.buffers (withQueue cls rest (fresh s))) := by simp
    generalize hu : freeBuffers x.buffers (withQueue cls rest (fresh s)) = u at hexec hfreed
    have hfab := hfreed.fab (by decide)
    have hregs : u.regs = s.regs := hfreed.regs (by decide)
    obtain ⟨hfwd, harrived, hin, hring, hrg, hexcept, hkeeps⟩ := routeReported_leaves key value (bump 0x6050 6 1 u)
    have hbumped : regsExcept [(0x6050, 6)] u (bump 0x6050 6 1 u) := regsExcept_bump 1 u (by decide) (by decide)
    refine ⟨_, hexec, ?_, ?_, hin, ?_, fun h => ?_, regsExcept_trans (regsExcept_of_regs hregs)
      (regsExcept_trans hbumped (regsExcept_mono hexcept (by simp))), unchanged_of_covered (m := 970733)
        (Keeps.trans (t := withQueue cls rest (fresh s)) (by simp [withQueue]) ((hfreed.mono (by decide)).trans
          (Keeps.trans (t := bump 0x6050 6 1 u) (by simp) (hkeeps.mono (by decide))))) rfl⟩
    · refine (congrArg (at_ [] cls) (hfwd.trans (congrArg Fabric.fwd hfab))).trans ?_
      exact at_set_same ..
    · exact harrived.trans ((congrArg Fabric.arrived hfab).trans rfl)
    · refine (hrg 0x6050 6 (by decide) (by unfold counted; decide)).trans ?_
      exact satAdd_rg_eq 1 (rg_of_regs hregs ..)
    · refine (hring ?_).trans (hfreed.ring (by decide))
      exact (congrArg Fabric.unroutable hfab).symm ▸ h
  case badTag =>
    have hexec := exec_parcelDelivery hworks harrived
    rw [deliverParcel_unopened (s := arrivedTaken rest s) hopen hkind] at hexec
    have hraise : Keeps 983023 (arrivedTaken rest s)
        (raise 3 0x0023 (leBytes 4 0 ++ leBytes 4 x.parcel.src)
          (bump 0x6050 7 1 (arrivedTaken rest s))) := by
      simp
    have hcount : rg (raise 3 0x0023 (leBytes 4 0 ++ leBytes 4 x.parcel.src)
        (bump 0x6050 7 1 (arrivedTaken rest s))) 0x6050 7
          = satAdd (sizeOf_ 0x6050 7) (rg s 0x6050 7) 1 :=
      (rg_raise _ (by decide) (by unfold counted; decide)).trans (satAdd_rg_eq 1 rfl)
    generalize raise 3 0x0023 (leBytes 4 0 ++ leBytes 4 x.parcel.src)
      (bump 0x6050 7 1 (arrivedTaken rest s)) = u at hexec hraise hcount
    obtain ⟨hrest, hkeeps, hrg⟩ := giveBack_leaves (contextOf u x.parcel) x.parcel u
    have hfreed := routerKept_freeBuffers x.buffers (giveBack (contextOf u x.parcel) x.parcel u)
    refine ⟨_, hexec, ?_, ?_, ?_⟩
    · rw [hfreed.counts 7 (by decide) (by decide), hrg 7 (by decide) (by decide), hcount]
    · rw [hfreed.arrived, hrest, hraise.fab (by decide)]
      rfl
    · exact ((freeBuffers_keeps (m := 64) _ _ (by decide)).mpr (hkeeps.mono (by decide))).ex (by decide) |>.trans
        (hraise.ex (by decide))
  case noContext =>
    have hexec := exec_parcelDelivery hworks harrived
    rw [deliverParcel_stranger (s := arrivedTaken rest s) hopen hcontext] at hexec
    have hkeeps : Keeps 1040365 s (noContext x.parcel (arrivedTaken rest s)) := by simp [arrivedTaken]
    have hfab : (noContext x.parcel (arrivedTaken rest s)).fab = { s.fab with arrived := rest } :=
      (show Keeps 8192 (arrivedTaken rest s) (noContext x.parcel (arrivedTaken rest s)) by simp).fab (by decide)
    have hfreed : Keeps 1044479 (noContext x.parcel (arrivedTaken rest s))
      (freeBuffers x.buffers (noContext x.parcel (arrivedTaken rest s))) := by simp
    refine ⟨_, hexec, (hfreed.fab (by decide)).trans hfab, fun hopen => ?_, fun hclosed => ?_, unchanged_of_covered (m := 1036269)
      ((hkeeps.mono (by decide)).trans (hfreed.mono (by decide))) rfl⟩
    · have hcounted : noContext x.parcel (arrivedTaken rest s) = bump 0x6050 6 1 (arrivedTaken rest s) :=
        if_neg fun h => hopen (List.contains_iff_mem.mp h)
      have hregs := hfreed.regs (by decide)
      rw [hcounted] at hregs ⊢
      exact ⟨(rg_of_regs hregs ..).trans (satAdd_rg_eq 1 rfl), regsExcept_trans
        (regsExcept_bump 1 (arrivedTaken rest s) (by decide) (by decide)) (regsExcept_of_regs hregs)⟩
    · have hcounted : noContext x.parcel (arrivedTaken rest s)
          = bump 0x6C00 6 (ceilDiv (48 + x.parcel.len) 236) (arrivedTaken rest s) :=
        if_pos (List.contains_iff_mem.mpr hclosed)
      have hregs := hfreed.regs (by decide)
      rw [hcounted] at hregs ⊢
      exact ⟨(rg_of_regs hregs ..).trans (satAdd_rg_eq _ rfl), regsExcept_trans
        (regsExcept_bump _ (arrivedTaken rest s) (by decide) (by decide)) (regsExcept_of_regs hregs)⟩
  case duplicate =>
    have hexec := exec_parcelDelivery hworks harrived
    rw [deliverParcel_known (s := arrivedTaken rest s) hopen hcontext, if_pos hseen] at hexec
    have hcount : rg (bump 0x6050 8 1 (seenOn c x.parcel.seq (arrivedTaken rest s))) 0x6050 8
      = satAdd (sizeOf_ 0x6050 8) (rg s 0x6050 8) 1 := satAdd_rg_eq 1 rfl
    have hkeeps : Keeps 1040365 s (bump 0x6050 8 1 (seenOn c x.parcel.seq (arrivedTaken rest s))) := by
      simp [arrivedTaken, seenOn]
    have hrest : (bump 0x6050 8 1 (seenOn c x.parcel.seq (arrivedTaken rest s))).fab.arrived = rest := rfl
    generalize bump 0x6050 8 1 (seenOn c x.parcel.seq (arrivedTaken rest s)) = u at hexec hcount hkeeps hrest
    obtain ⟨hgiven, hback, hrg⟩ := giveBack_leaves (some c) x.parcel u
    have hfreed := routerKept_freeBuffers x.buffers (giveBack (some c) x.parcel u)
    refine ⟨_, hexec, ?_, ?_, unchanged_of_covered (m := 1036269) ((hkeeps.mono (by decide)).trans
      ((hback.mono (by decide)).trans (by simp))) rfl⟩
    · rw [hfreed.counts 8 (by decide) (by decide), hrg 8 (by decide) (by decide), hcount]
    · rw [hfreed.arrived, hgiven, hrest]
  case control =>
    have hexec := exec_parcelDelivery hworks harrived
    rw [deliverParcel_known (s := arrivedTaken rest s) hopen hcontext, if_neg (by rw [hfirst]; decide), if_pos hcontrol,
      hbuffers, show seenOn c x.parcel.seq (arrivedTaken rest s) = seen from hseen.symm] at hexec
    refine ⟨_, hexec, exec_takeControl ?_ ?_ ?_ hi⟩
    · rw [hseen]
    · rw [hseen]
      exact hworks
    · unfold routerWorks at hworks
      rw [hseen]
      simp only [Bool.and_eq_true, Bool.not_eq_true'] at hworks
      exact hworks.1.2

end

section
/-! Flits received and resent (spec/10_fabric.md, Flits and links, and Retry). -/

namespace Sys2Proof.Machine

/-! ## A lane that has nothing to send -/

theorem nextFlit_idle {s : State} {l : TxLane} (hwait : l.wait = []) (hsending : l.sending = []) : nextFlit s l = none := by
  have hclass : ∀ c, nextOf s l c = none := fun c => by
    unfold nextOf
    rw [hwait, hsending]
    rfl
  unfold nextFlit
  simp only [hclass, Option.map_none]
  exact List.findSome?_eq_none_iff.mpr fun _ _ => rfl

theorem pumpLane_idle {p c : Nat} {s : State} (h : nothingWaits (txOf s p c)) : pumpLane p c s = s := by
  obtain ⟨hwait, hsending, hwords, howed, hack⟩ := h
  unfold pumpLane pumpFlits
  dsimp only
  split
  · rfl
  · have hnone : (if (txOf s p c).replay.length < 64 then nextFlit s (txOf s p c) else none) = none := by
      rw [nextFlit_idle hwait hsending]
      exact ite_self _
    rw [hnone]
    dsimp only
    rw [hwords, hack, howed]
    rfl

theorem nothingWaits_gainCredit {l : TxLane} (cls pool n : Nat) (h : nothingWaits l) :
    nothingWaits (gainCredit cls pool n l) := by
  unfold gainCredit
  dsimp only
  split
  · exact h
  · split
    · exact h
    · exact h

theorem nothingWaits_ackFlits {l : TxLane} (now ack : Nat) (h : nothingWaits l) : nothingWaits (ackFlits now ack l) := by
  unfold ackFlits
  split
  · exact h
  · exact h

theorem takeFlitCredit_idle {p x c : Nat} {h : FlitHead} {s : State} (hpartner : partnerTx s p x = some c)
    (hidle : nothingWaits (ackedLane s p c h)) : takeFlitCredit p x h s = withTx p c (ackedLane s p c h) s := by
  unfold takeFlitCredit
  rw [hpartner]
  exact pumpLane_idle (by rwa [txOf_withTx_same])

theorem takeFlitWord_none {h : FlitHead} (area : Bytes) (s : State) (hword : h.praline = false) :
    takeFlitWord h area s = s := by
  unfold takeFlitWord
  rw [hword]
  rfl

theorem rxOf_withRx_same (p c : Nat) (x : RxLane) (s : State) : rxOf (withRx p c x s) p c = x := at_set_same ..

/-! ## NAKs -/

theorem nakLane_naks {p x c : Nat} {s : State} (hpartner : partnerTx s p x = some c)
    (hup : (txOf s p c).state = .inService) (hnone : (rxOf s p x).nakSent = false) :
    Naks p x c s (nakLane p x (fresh s)) := by
  have hnak : nakLane p x (fresh s)
      = sendBare p c 2 (bump 0x6050 3 1 (withRx p x { rxOf s p x with nakSent := true } (fresh s))) := by
    unfold nakLane
    dsimp only
    rw [show partnerTx (fresh s) p x = some c from hpartner]
    refine if_neg (not_or.mpr ⟨?_, not_not_intro hup⟩)
    rw [show (rxOf (fresh s) p x).nakSent = false from hnone]
    decide
  rw [hnak]
  exact {
    sent := ⟨_, _, rfl, rfl⟩
    lane := rxOf_withRx_same ..
    count := satAdd_rg_eq 1 rfl
    regs := regsExcept_bump 1 (withRx p x { rxOf s p x with nakSent := true } (fresh s)) (by decide) (by decide)
    frame := unchanged_of_covered (m := 1044461) (by simp) rfl }

/-! ## A flit of a kind -/

theorem receiveFlit_bad {kind : Nat} {f : Flit} {go : FlitHead → State → State} {s : State}
    (htakes : takesFlits s f.port f.colour = true) (hbad : flitGood f = false) :
    receiveFlit kind f go s = .next (nakLane f.port f.colour (fresh s)) := by
  unfold receiveFlit
  dsimp only
  rw [show takesFlits (fresh s) f.port f.colour = true from htakes, hbad]
  rfl

theorem receiveFlit_good {f : Flit} {go : FlitHead → State → State} {s : State}
    (htakes : takesFlits s f.port f.colour = true) (hgood : flitGood f = true)
    (haddress : addressOk s f.port f.colour (flitHead f.bytes) = true) :
    receiveFlit (flitHead f.bytes).kind f go s = .next (go (flitHead f.bytes) (fresh s)) := by
  unfold receiveFlit
  dsimp only
  rw [show takesFlits (fresh s) f.port f.colour = true from htakes, hgood,
    show addressOk (fresh s) f.port f.colour (flitHead f.bytes) = true from haddress]
  simp

theorem receiveFlit_misaddressed {f : Flit} {go : FlitHead → State → State} {s : State}
    (htakes : takesFlits s f.port f.colour = true) (hgood : flitGood f = true)
    (haddress : addressOk s f.port f.colour (flitHead f.bytes) = false) :
    receiveFlit (flitHead f.bytes).kind f go s = .next (badAddress f.port f.colour (flitHead f.bytes) (fresh s)) := by
  unfold receiveFlit
  dsimp only
  rw [show takesFlits (fresh s) f.port f.colour = true from htakes, hgood,
    show addressOk (fresh s) f.port f.colour (flitHead f.bytes) = false from haddress]
  simp

/-- A good data flit acted on. -/
def goData (f : Flit) (h : FlitHead) (s : State) : State :=
  if h.seq = (rxOf s f.port f.colour).expected then takeDataFlit f.port f.colour h (areaOf f) s
  else nakLane f.port f.colour s

/-- A good idle flit acted on. -/
def goIdle (f : Flit) (h : FlitHead) (s : State) : State :=
  if inOrderBare s f.port f.colour h then takeFlitWord h (areaOf f) (takeFlitCredit f.port f.colour h s)
  else nakLane f.port f.colour s

/-- A NAK flit in order acted on. -/
def nakTaken (f : Flit) (s : State) : State :=
  match partnerTx s f.port f.colour with
  | some c => resendFlits f.port c s
  | none => s

/-- A good NAK flit acted on. -/
def goNak (f : Flit) (h : FlitHead) (s : State) : State :=
  if inOrderBare s f.port f.colour h then nakTaken f (takeFlitWord h (areaOf f) (takeFlitCredit f.port f.colour h s))
  else nakLane f.port f.colour s

theorem exec_dataFlit (f : Flit) (s : State) : exec (.dataFlit f) s = receiveFlit 0 f (goData f) s := rfl

theorem exec_idleFlit (f : Flit) (s : State) : exec (.idleFlit f) s = receiveFlit 1 f (goIdle f) s := rfl

theorem exec_nakFlit (f : Flit) (s : State) : exec (.nakFlit f) s = receiveFlit 2 f (goNak f) s := rfl

theorem exec_testFlit (f : Flit) (s : State) : exec (.testFlit f) s = receiveFlit 3 f (fun _ s => s) s := rfl

/-! ## Resending -/

theorem bare_idle {l : TxLane} (h : nothingWaits l) (word : Bool) :
    { l with words := if word then l.words.drop 1 else l.words, owed := (creditOf l.owed).2.2.2, ackDue := false } = l := by
  obtain ⟨-, -, hwords, howed, hack⟩ := h
  cases l
  dsimp only at hwords howed hack
  subst hwords howed hack
  cases word
  · rfl
  · rfl

theorem resendOne_idle {p c : Nat} {f : TxFlit} {s : State} (h : nothingWaits (txOf s p c)) :
    txOf (resendOne p c f s) p c = txOf s p c ∧ (resendOne p c f s).sent.length = s.sent.length + 1 ∧
      Keeps 1044477 s (resendOne p c f s) :=
  ⟨(txOf_withTx_same ..).trans (bare_idle h f.word), List.length_append .., by simp⟩

theorem resendEach_idle {p c : Nat} (l : List TxFlit) {s : State} (h : nothingWaits (txOf s p c)) :
    txOf (l.foldl (fun s f => resendOne p c f s) s) p c = txOf s p c ∧
      (l.foldl (fun s f => resendOne p c f s) s).sent.length = s.sent.length + l.length ∧
      Keeps 1044477 s (l.foldl (fun s f => resendOne p c f s) s) := by
  induction l generalizing s with
  | nil => exact ⟨rfl, rfl, Keeps.refl _ s⟩
  | cons f l ih =>
    obtain ⟨hlane, hsent, hkeeps⟩ := resendOne_idle (f := f) h
    obtain ⟨hlane', hsent', hkeeps'⟩ := ih (s := resendOne p c f s) (by rwa [hlane])
    refine ⟨hlane'.trans hlane, ?_, hkeeps.trans hkeeps'⟩
    rw [List.foldl_cons, hsent', hsent, List.length_cons]
    omega

/-- Every unacknowledged flit of a lane marked as sent again, and counted. -/
def resendMarked (p c : Nat) (s : State) : State :=
  bump 0x6050 2 (txOf s p c).replay.length (withTx p c { txOf s p c with
    replay := (txOf s p c).replay.map (fun u => { u with resent := u.resent + 1 }), timer := s.pwr.time } s)

theorem resendAll_eq (p c : Nat) (s : State) :
    resendAll p c s = (txOf s p c).replay.foldl (fun s f => resendOne p c f s) (resendMarked p c s) := rfl

theorem resendFlits_all {p c : Nat} {s : State} (hup : (txOf s p c).state = .inService) (hsome : (txOf s p c).replay ≠ [])
    (hfew : ∀ u ∈ (txOf s p c).replay, u.resent < 8) : resendFlits p c s = resendAll p c s := by
  unfold resendFlits
  dsimp only
  rw [if_neg, if_neg]
  · intro h
    obtain ⟨u, hu, h8⟩ := List.any_eq_true.mp h
    exact absurd (hfew u hu) (Nat.not_lt.mpr (of_decide_eq_true h8))
  · exact not_or.mpr ⟨fun h => hsome (List.isEmpty_iff.mp h), not_not_intro hup⟩

theorem resendFlits_pulls {p c : Nat} {s : State} (hup : (txOf s p c).state = .inService)
    (hmany : ∃ u ∈ (txOf s p c).replay, 8 ≤ u.resent) : resendFlits p c s = beginSearch true p c false (bump 0x6050 10 1 s) := by
  obtain ⟨u, hu, h8⟩ := hmany
  unfold resendFlits
  dsimp only
  rw [if_neg, if_pos]
  · exact List.any_eq_true.mpr ⟨u, hu, decide_eq_true h8⟩
  · exact not_or.mpr ⟨fun h => List.ne_nil_of_mem hu (List.isEmpty_iff.mp h), not_not_intro hup⟩

/-- A lane l in its place has resent what it holds. -/
theorem resendAll_resent {p c : Nat} {l : TxLane} {s u : State} (hlane : txOf u p c = l) (hidle : nothingWaits l)
    (hsent : u.sent = []) (htime : u.pwr.time = s.pwr.time) (hregs : u.regs = s.regs) (hkeeps : Keeps 1044477 s u) :
    FlitsResent p c l s (resendAll p c u) := by
  have hmarked : txOf (resendMarked p c u) p c = { l with
      replay := l.replay.map (fun u => { u with resent := u.resent + 1 }), timer := s.pwr.time } := by
    rw [← hlane, ← htime]
    exact txOf_withTx_same ..
  obtain ⟨hafter, hcount, hrest⟩ := resendEach_idle (p := p) (c := c) l.replay (s := resendMarked p c u) (by rw [hmarked]; exact hidle)
  rw [resendAll_eq, hlane]
  exact {
    sent := hcount.trans (by rw [show (resendMarked p c u).sent = [] from hsent, List.length_nil, Nat.zero_add])
    lane := hafter.trans hmarked
    count := by
      rw [rg_of_regs (hrest.regs (by decide)), ← hlane]
      exact satAdd_rg_eq _ (rg_of_regs hregs ..)
    regs := regsExcept_trans (regsExcept_of_regs hregs) (regsExcept_trans
      (regsExcept_bump _ (withTx p c { txOf u p c with
        replay := (txOf u p c).replay.map (fun u => { u with resent := u.resent + 1 }), timer := u.pwr.time } u)
        (by decide) (by decide)) (regsExcept_of_regs (hrest.regs (by decide))))
    frame := unchanged_of_covered (m := 1044461) ((hkeeps.mono (by decide)).trans
      (Keeps.trans (t := resendMarked p c u) (by simp [resendMarked]) (hrest.mono (by decide)))) rfl }

theorem exec_flitReplayTimeout {p c : Nat} {s : State} (hlit : portLit s p = true)
    (hlate : (txOf s p c).timer + 4000 ≤ s.pwr.time) :
    exec (.flitReplayTimeout p c) s = .next (resendFlits p c (fresh s)) := by
  change execFlitReplayTimeout p c s = _
  unfold execFlitReplayTimeout
  dsimp only
  refine congrArg Host.Outcome.next (if_neg (not_or.mpr ⟨?_, Nat.not_lt.mpr hlate⟩))
  rw [show portLit (fresh s) p = true from hlit]
  decide

theorem nakTaken_partner {f : Flit} {c : Nat} {l : TxLane} {s : State} (h : partnerTx s f.port f.colour = some c) :
    nakTaken f (withTx f.port c l (fresh s)) = resendFlits f.port c (withTx f.port c l (fresh s)) := by
  unfold nakTaken
  rw [show partnerTx (withTx f.port c l (fresh s)) f.port f.colour = some c from h]

theorem badAddress_noted {p c : Nat} {h : FlitHead} {s : State} (hnew : (rxOf s p c).mismatch = none) :
    badAddress p c h (fresh s) = withRx p c { rxOf s p c with
      goodFrames := 0
      mismatch := some (h.sender, h.senderPort,
        (colours.find? (fun x => expectedTx (bump 0x6050 4 1 (fresh s)) p x == some h.sender)).getD c) }
      (bump 0x6050 4 1 (fresh s)) := by
  unfold badAddress
  dsimp only
  refine if_neg ?_
  rw [show (rxOf (bump 0x6050 4 1 (fresh s)) p c).mismatch = none from hnew]
  nofun

/-! ## A lane pulled -/

theorem outTx_state (p c : Nat) (st : LaneState) (s : State) : (txOf (outTx p c st s) p c).state = st := by
  unfold outTx
  dsimp only
  rw [txOf_of_tx (congrArg Photonics.tx (requeue_pho ..)), txOf_withTx_same]

theorem pullTx_state (p c : Nat) (st : LaneState) (s : State) : (txOf (pullTx p c st s) p c).state = st := outTx_state ..

theorem raise_tx (code : Nat) (b : Bytes) (u : State) : (raise 1 code b u).pho.tx = u.pho.tx :=
  congrArg Photonics.tx ((show Keeps 4096 u (raise 1 code b u) by simp).pho (by decide))

theorem txOf_withPort (p : Nat) (x : Port) (s : State) (k j : Nat) : txOf (withPort p x s) k j = txOf s k j := rfl

theorem dropLane_state (p c : Nat) {s : State} (h : (txOf s p c).state ≠ .inService) :
    (txOf (dropLane true p c s) p c).state ≠ .inService := by
  unfold dropLane dropAs
  dsimp only
  split
  · exact h
  · rw [txOf_of_tx (raise_tx ..), txOf_withPort, txOf_withRing, pullLane, if_pos rfl, pullTx_state]
    decide

theorem beginSearch_state (p c : Nat) (lost : Bool) (s : State) :
    (txOf (beginSearch true p c lost s) p c).state ≠ .inService := by
  unfold beginSearch
  extract_lets now r pulled x ring times lane lane' after
  have hring : (txOf ring p c).state = .searching := by
    rw [txOf_withRing]
    exact pullTx_state p c .searching s
  have hafter : txOf after p c = { txOf ring p c with searches := times } := txOf_withTx_same ..
  have hout : (txOf after p c).state ≠ .inService := by
    rw [hafter, hring]
    decide
  clear_value after
  split
  · exact dropLane_state p c hout
  · exact hout

/-! ## A data flit in order -/

/-- Of parcels received, the ones that wait for delivery; the receive lanes and the module's address stay. -/
structure Accepts (ps : List Parcel) (s t : State) : Prop where
  arrived : t.fab.arrived.map (fun y => y.parcel) = s.fab.arrived.map (fun y => y.parcel) ++
    ps.filter (fun p => p.cls < 5 && p.dst == nodeAddr s)
  rx : t.pho.rx = s.pho.rx
  node : nodeAddr t = nodeAddr s

theorem Accepts.trans {ps qs : List Parcel} {s t u : State} (h : Accepts ps s t) (k : Accepts qs t u) :
    Accepts (ps ++ qs) s u where
  arrived := by rw [k.arrived, h.arrived, h.node, List.filter_append, List.append_assoc]
  rx := k.rx.trans h.rx
  node := k.node.trans h.node

theorem accepts_freeBuffers {ps : List Parcel} {s t : State} (l : List (Nat × Nat × Nat × Nat)) (h : Accepts ps s t) :
    Accepts ps s (freeBuffers l t) where
  arrived := by rw [(routerKept_freeBuffers l t).arrived, h.arrived]
  rx := (routerKept_freeBuffers l t).rx.trans h.rx
  node := (rg_of_regs ((freeBuffers_keeps (m := 16) (s0 := t) l t (by decide)).mpr (Keeps.refl _ t) |>.regs (by decide)) ..).trans h.node

theorem accepts_none {x : Parcel} {s t : State} (hfab : t.fab.arrived = s.fab.arrived) (hrx : t.pho.rx = s.pho.rx)
    (hnode : nodeAddr t = nodeAddr s) (h : (x.cls < 5 && x.dst == nodeAddr s) = false) : Accepts [x] s t where
  arrived := by rw [hfab, List.filter_cons_of_neg (by rw [h]; decide), List.filter_nil, List.append_nil]
  rx := hrx
  node := hnode

theorem accepts_one {x : Carried} {p : Parcel} {s t : State} (hp : x.parcel = p) (hfab : t.fab.arrived = s.fab.arrived ++ [x])
    (hrx : t.pho.rx = s.pho.rx) (hnode : nodeAddr t = nodeAddr s) (h : (p.cls < 5 && p.dst == nodeAddr s) = true) :
    Accepts [p] s t where
  arrived := by
    rw [hfab, List.map_append, List.map_singleton, hp]
    exact congrArg _ (List.filter_cons_of_pos (p := fun p : Parcel => decide (p.cls < 5) && p.dst == nodeAddr s) (l := []) h).symm
  rx := hrx
  node := hnode

theorem acceptParcel_accepts (s : State) (x : Carried) : Accepts [x.parcel] s (acceptParcel s x) := by
  unfold acceptParcel
  split
  · next hcls =>
    refine accepts_freeBuffers _ (accepts_none rfl rfl (rg_bump_other _ (by decide) (by decide) (by decide)) ?_)
    rw [decide_eq_false (Nat.not_lt.mpr hcls), Bool.false_and]
  · next hcls =>
    have hopen : decide (x.parcel.cls < 5) = true := decide_eq_true (Nat.not_le.mp hcls)
    split
    · next hhere =>
      have hmine : (decide (x.parcel.cls < 5) && x.parcel.dst == nodeAddr s) = true := by
        rw [hopen, hhere, beq_self_eq_true, Bool.and_true]
      split
      · exact accepts_freeBuffers _ (accepts_one (x := { x with buffers := [] }) rfl rfl rfl rfl hmine)
      · exact accepts_one rfl rfl rfl rfl hmine
    · next haway =>
      refine accepts_none rfl rfl rfl ?_
      rw [beq_eq_false_iff_ne.mpr haway, Bool.and_false]

theorem acceptAll_accepts (l : List Carried) (s : State) : Accepts (l.map (fun x => x.parcel)) s (l.foldl acceptParcel s) := by
  induction l generalizing s with
  | nil => exact ⟨(List.append_nil _).symm, rfl, rfl⟩
  | cons x l ih => exact (acceptParcel_accepts s x).trans (ih _)

/-- A stream's bytes left after a data flit without a praline word. -/
def streamLeft (p c : Nat) (h : FlitHead) (r : List Carried × Option Partial) (s : State) : State :=
  withRx p c { rxOf s p c with parts := (rxOf s p c).parts.filter (fun x => x.stream ≠ 16 * h.cls + h.pool) ++ r.2.toList } s

theorem takeParcels_eq {p c : Nat} {h : FlitHead} {area : Bytes} {r : List Carried × Option Partial} {s : State}
    (hword : h.praline = false) (hcls : h.cls ≤ 4) (hpool : h.pool ≤ 10)
    (hr : r = joinStream (laneKey p c, h.cls, h.pool, 1)
      ((rxOf s p c).parts.find? (fun x => x.stream == 16 * h.cls + h.pool)) (16 * h.cls + h.pool)
      (if h.first < 236 then some h.first else none) area) :
    ∃ lost, takeParcels p c h area s = freeBuffers lost (r.1.foldl acceptParcel (streamLeft p c h r s)) := by
  subst hr
  unfold takeParcels
  rw [if_neg (not_or.mpr ⟨Nat.not_lt.mpr hcls, Nat.not_lt.mpr hpool⟩), hword]
  exact ⟨_, rfl⟩

/-- A receive lane past the flit that it expected. -/
def flitAdvanced (p c : Nat) (s : State) : State :=
  withRx p c { rxOf s p c with expected := ((rxOf s p c).expected + 1) % 4096, nakSent := false } s

/-- An acknowledgement due on the partner of a receive lane. -/
def ackMarked (p c : Nat) (s : State) : State :=
  match partnerTx s p c with
  | some t => withTx p t { txOf s p t with ackDue := true } s
  | none => s

theorem takeDataFlit_eq {h : FlitHead} (p c : Nat) (area : Bytes) (s : State) (hword : h.praline = false) :
    takeDataFlit p c h area s = takeFlitCredit p c h (ackMarked p c (takeParcels p c h area (flitAdvanced p c s))) := by
  unfold takeDataFlit
  dsimp only
  rw [takeFlitWord_none _ _ hword]
  rfl

theorem routerKept_ackMarked (p c : Nat) (s : State) : RouterKept s (ackMarked p c s) := by
  unfold ackMarked
  split
  · exact routerKept_withTx ..
  · exact .refl s

theorem routerKept_takeFlitCredit (p c : Nat) (h : FlitHead) (s : State) : RouterKept s (takeFlitCredit p c h s) := by
  unfold takeFlitCredit
  split
  · exact .refl s
  · exact (routerKept_withTx ..).trans (routerKept_pumpLane ..)

theorem ackMarked_keeps (p c : Nat) (s : State) : Keeps 1044479 s (ackMarked p c s) := by
  unfold ackMarked
  split
  · simp
  · exact Keeps.refl _ s

/-- A data flit's lane in order, its acknowledgement due. -/
theorem takeDataFlit_leaves {p c : Nat} {h : FlitHead} {area : Bytes} {r : List Carried × Option Partial} {s : State}
    (hword : h.praline = false) (hcls : h.cls ≤ 4) (hpool : h.pool ≤ 10)
    (hr : r = joinStream (laneKey p c, h.cls, h.pool, 1)
      ((rxOf s p c).parts.find? (fun x => x.stream == 16 * h.cls + h.pool)) (16 * h.cls + h.pool)
      (if h.first < 236 then some h.first else none) area) :
    (rxOf (takeDataFlit p c h area s) p c).expected = ((rxOf s p c).expected + 1) % 4096 ∧
      (rxOf (takeDataFlit p c h area s) p c).nakSent = false ∧
      (takeDataFlit p c h area s).fab.arrived.map (fun x => x.parcel) = s.fab.arrived.map (fun x => x.parcel) ++
        (r.1.map (fun x => x.parcel)).filter (fun p => p.cls < 5 && p.dst == nodeAddr s) ∧
      Keeps 1036269 s (takeDataFlit p c h area s) := by
  have hlane : rxOf (flitAdvanced p c s) p c
    = { rxOf s p c with expected := ((rxOf s p c).expected + 1) % 4096, nakSent := false } := rxOf_withRx_same ..
  obtain ⟨lost, hparcels⟩ := takeParcels_eq (s := flitAdvanced p c s) (area := area) hword hcls hpool
    (hr.trans (by rw [hlane]))
  have haccepts := accepts_freeBuffers lost (acceptAll_accepts r.1 (streamLeft p c h r (flitAdvanced p c s)))
  rw [← hparcels] at haccepts
  have hrx : rxOf (takeParcels p c h area (flitAdvanced p c s)) p c = { rxOf (flitAdvanced p c s) p c with
      parts := (rxOf (flitAdvanced p c s) p c).parts.filter (fun x => x.stream ≠ 16 * h.cls + h.pool) ++ r.2.toList } := by
    rw [rxOf_of_rx haccepts.rx]
    exact rxOf_withRx_same ..
  have hkept := (routerKept_ackMarked p c (takeParcels p c h area (flitAdvanced p c s))).trans
    (routerKept_takeFlitCredit p c h _)
  rw [takeDataFlit_eq p c area s hword]
  refine ⟨?_, ?_, ?_, ?_⟩
  · rw [rxOf_of_rx hkept.rx, hrx, hlane]
  · rw [rxOf_of_rx hkept.rx, hrx, hlane]
  · rw [hkept.arrived]
    exact haccepts.arrived
  · exact (takeFlitCredit_keeps _ _ _ _ (by decide)).mpr (Keeps.trans
      (t := takeParcels p c h area (flitAdvanced p c s)) (by simp [flitAdvanced]) ((ackMarked_keeps ..).mono (by decide)))

end Sys2Proof.Machine

open Sys2Proof Sys2Proof.Machine

/-- Settles O36, by what each branch of a flit's reception leaves of the two lanes. -/
theorem flitsAreTakenAndResent : Obligations.FlitsAreTakenAndResent := by
  unfold Obligations.FlitsAreTakenAndResent
  refine ⟨fun f h r s hh htakes hgood hkind hword haddress hseq hcls hpool hr => ?data,
    fun f h c s hh htakes hgood hkind hword haddress horder hpartner hidle => ?idle,
    fun f i c s htakes hpartner hup hnone hbad hi => ?bad,
    fun f h i c s hh htakes hpartner hup hnone hgood haddress hseq hi => ?outOfOrder,
    fun f h i s hh htakes hgood haddress hnew hi => ?misaddressed,
    fun f s htakes hgood hkind haddress => ?test,
    fun f h c l s hh htakes hgood hkind hword haddress horder hpartner hl hidle hup hsome hfew => ?nak,
    fun p c s hlit hup hidle hlate hsome hfew => ?timeout,
    fun p c s hlit hup hlate hmany => ?pulled,
    fun p c s hearly => congrArg Host.Outcome.next (if_pos (.inr hearly))⟩
  case data =>
    subst hh
    have hexec : exec (.dataFlit f) s = .next (takeDataFlit f.port f.colour (flitHead f.bytes) (areaOf f) (fresh s)) := by
      rw [exec_dataFlit, ← hkind]
      exact (receiveFlit_good htakes hgood haddress).trans (congrArg Host.Outcome.next (if_pos hseq))
    obtain ⟨hexpected, hnak, harrived, hkeeps⟩ := takeDataFlit_leaves (s := fresh s) hword hcls hpool hr
    exact ⟨_, hexec, hexpected, hnak, harrived, unchanged_of_covered (m := 1036269)
      (Keeps.trans (t := fresh s) (by simp) hkeeps) rfl⟩
  case idle =>
    subst hh
    have hlane : nothingWaits (ackedLane s f.port c (flitHead f.bytes)) :=
      nothingWaits_gainCredit _ _ _ (nothingWaits_ackFlits _ _ hidle)
    rw [exec_idleFlit, ← hkind]
    refine (receiveFlit_good htakes hgood haddress).trans (congrArg Host.Outcome.next ((if_pos horder).trans ?_))
    rw [takeFlitWord_none _ _ hword]
    exact takeFlitCredit_idle (s := fresh s) hpartner hlane
  case bad =>
    have hexec : exec i s = .next (nakLane f.port f.colour (fresh s)) := by
      simp only [List.mem_cons, List.not_mem_nil, or_false] at hi
      obtain rfl | rfl | rfl | rfl := hi
      · exact (exec_dataFlit ..).trans (receiveFlit_bad htakes hbad)
      · exact (exec_idleFlit ..).trans (receiveFlit_bad htakes hbad)
      · exact (exec_nakFlit ..).trans (receiveFlit_bad htakes hbad)
      · exact (exec_testFlit ..).trans (receiveFlit_bad htakes hbad)
    exact ⟨_, hexec, nakLane_naks hpartner hup hnone⟩
  case outOfOrder =>
    subst hh
    have horder : inOrderBare (fresh s) f.port f.colour (flitHead f.bytes) = false := by
      unfold inOrderBare
      exact Bool.and_eq_false_imp.mpr fun h => absurd (beq_iff_eq.mp h) hseq
    have hexec : exec i s = .next (nakLane f.port f.colour (fresh s)) := by
      simp only [List.mem_cons, List.not_mem_nil, or_false, Prod.mk.injEq] at hi
      obtain ⟨hk, rfl⟩ | ⟨hk, rfl⟩ | ⟨hk, rfl⟩ := hi
      · rw [exec_dataFlit, ← hk]
        exact (receiveFlit_good htakes hgood haddress).trans (congrArg Host.Outcome.next (if_neg hseq))
      · rw [exec_idleFlit, ← hk]
        exact (receiveFlit_good htakes hgood haddress).trans (congrArg Host.Outcome.next (if_neg (by rw [horder]; decide)))
      · rw [exec_nakFlit, ← hk]
        exact (receiveFlit_good htakes hgood haddress).trans (congrArg Host.Outcome.next (if_neg (by rw [horder]; decide)))
    exact ⟨_, hexec, nakLane_naks hpartner hup hnone⟩
  case misaddressed =>
    subst hh
    have hexec : exec i s = .next (badAddress f.port f.colour (flitHead f.bytes) (fresh s)) := by
      simp only [List.mem_cons, List.not_mem_nil, or_false, Prod.mk.injEq] at hi
      obtain ⟨hk, rfl⟩ | ⟨hk, rfl⟩ | ⟨hk, rfl⟩ | ⟨hk, rfl⟩ := hi
      · rw [exec_dataFlit, ← hk]
        exact receiveFlit_misaddressed htakes hgood haddress
      · rw [exec_idleFlit, ← hk]
        exact receiveFlit_misaddressed htakes hgood haddress
      · rw [exec_nakFlit, ← hk]
        exact receiveFlit_misaddressed htakes hgood haddress
      · rw [exec_testFlit, ← hk]
        exact receiveFlit_misaddressed htakes hgood haddress
    rw [badAddress_noted hnew] at hexec
    refine ⟨_, hexec, satAdd_rg_eq 1 rfl, ?_, ?_, rfl, regsExcept_trans (regsExcept_bump 1 (fresh s) (by decide) (by decide))
      (regsExcept_of_regs rfl), unchanged_of_covered (m := 1044461) (by simp) rfl⟩
    · rw [rxOf_withRx_same]
    · rw [rxOf_withRx_same]
  case test =>
    rw [exec_testFlit, ← hkind]
    exact receiveFlit_good htakes hgood haddress
  case nak =>
    subst hh hl
    have hexec : exec (.nakFlit f) s = .next (resendFlits f.port c
        (withTx f.port c (ackedLane s f.port c (flitHead f.bytes)) (fresh s))) := by
      rw [exec_nakFlit, ← hkind]
      refine (receiveFlit_good htakes hgood haddress).trans (congrArg Host.Outcome.next ((if_pos horder).trans ?_))
      rw [takeFlitWord_none _ _ hword, takeFlitCredit_idle (s := fresh s) hpartner hidle]
      exact nakTaken_partner hpartner
    have hlane : txOf (withTx f.port c (ackedLane s f.port c (flitHead f.bytes)) (fresh s)) f.port c
      = ackedLane s f.port c (flitHead f.bytes) := txOf_withTx_same ..
    rw [resendFlits_all (by rw [hlane]; exact hup) (by rw [hlane]; exact hsome) (by rw [hlane]; exact hfew)] at hexec
    exact ⟨_, hexec, resendAll_resent hlane hidle rfl rfl rfl (by simp)⟩
  case timeout =>
    have hexec := exec_flitReplayTimeout (c := c) hlit hlate
    rw [resendFlits_all (s := fresh s) hup hsome hfew] at hexec
    exact ⟨_, hexec, resendAll_resent (u := fresh s) rfl hidle rfl rfl rfl (by simp)⟩
  case pulled =>
    have hexec := exec_flitReplayTimeout (c := c) hlit hlate
    rw [resendFlits_pulls (s := fresh s) hup hmany] at hexec
    exact ⟨_, hexec, beginSearch_state p c false _, ((beginSearch_rgK (m := 4294967296) true p c false _ (by decide)).mpr
      (RgK.refl _ _) 0x6050 10 (by decide)).trans (satAdd_rg_eq 1 rfl), unchanged_of_covered (m := 970733) (by simp) rfl⟩

end

section
/-! Lanes, rings and ports of the photonic engines: what each operation leaves (spec/09_photonics.md). -/

namespace Sys2Proof.Machine

/-! ## The states of transmit lanes, and the ports -/

/-- Every transmit lane is in the state that it was in, and the ports and receive lanes are the same. -/
structure StatesKept (s t : State) : Prop where
  tx : ∀ p c, (txOf t p c).state = (txOf s p c).state
  rx : t.pho.rx = s.pho.rx
  ports : t.pho.ports = s.pho.ports

theorem StatesKept.refl (s : State) : StatesKept s s := ⟨fun _ _ => rfl, rfl, rfl⟩

theorem StatesKept.trans {s t u : State} (h : StatesKept s t) (k : StatesKept t u) : StatesKept s u :=
  ⟨fun p c => (k.tx p c).trans (h.tx p c), k.rx.trans h.rx, k.ports.trans h.ports⟩

theorem statesKept_of_pho {s t : State} (h : t.pho = s.pho) : StatesKept s t where
  tx p c := by rw [txOf_of_tx (congrArg Photonics.tx h)]
  rx := congrArg Photonics.rx h
  ports := congrArg Photonics.ports h

theorem statesKept_foldl {α : Type} {f : State → α → State} (h : ∀ s x, StatesKept s (f s x)) (l : List α) (s : State) :
    StatesKept s (l.foldl f s) := by
  induction l generalizing s with
  | nil => exact .refl s
  | cons x l ih => exact (h s x).trans (ih _)

theorem statesKept_withTx {p c : Nat} {l : TxLane} {s : State} (h : l.state = (txOf s p c).state) :
    StatesKept s (withTx p c l s) where
  tx q d := by
    by_cases hk : laneKey q d = laneKey p c
    · refine Eq.trans ?_ (h.trans ?_)
      · unfold txOf
        rw [hk]
        exact congrArg TxLane.state (at_set_same ..)
      · unfold txOf
        rw [hk]
    · rw [txOf_withTx_other _ _ hk]
  rx := rfl
  ports := rfl

theorem statesKept_oweCredit (p c cls pool n : Nat) (s : State) : StatesKept s (oweCredit p c cls pool n s) :=
  statesKept_withTx rfl

theorem statesKept_freeBuffers (l : List (Nat × Nat × Nat × Nat)) (s : State) : StatesKept s (freeBuffers l s) := by
  unfold freeBuffers
  refine statesKept_foldl (fun s b => ?_) l s
  split
  · exact statesKept_oweCredit ..
  · exact .refl s

theorem statesKept_sendBare (p c kind : Nat) (s : State) : StatesKept s (sendBare p c kind s) :=
  (statesKept_withTx (l := { txOf s p c with
    words := (txOf s p c).words.drop 1, owed := (creditOf (txOf s p c).owed).2.2.2, ackDue := false }) rfl).trans
    (statesKept_of_pho rfl)

theorem packOne_state {s : State} {cls pool : Nat} {x y : Packing} (h : packOne s cls pool x = some y) :
    y.lane.state = x.lane.state := by
  unfold packOne at h
  dsimp only at h
  split at h
  · exact absurd h nofun
  · split at h
    · split at h
      · rw [← Option.some.inj h]
      · exact absurd h nofun
    · split at h
      · exact absurd h nofun
      · rw [← Option.some.inj h]

theorem packArea_state (s : State) (cls pool n : Nat) (x : Packing) : (packArea s cls pool n x).lane.state = x.lane.state := by
  induction n generalizing x with
  | zero => rfl
  | succ n ih =>
    unfold packArea
    split
    · next y hy => rw [ih, packOne_state hy]
    · rfl

theorem departed_pho (p : Parcel) (s : State) : (departed p s).pho = s.pho :=
  (show Keeps 4096 s (departed p s) by simp).pho (by decide)

theorem statesKept_sendData (p c cls pool key : Nat) (s : State) : StatesKept s (sendData p c cls pool key s) := by
  unfold sendData
  extract_lets l word start x src h f src' l' s1 s2 s3 s4
  have hlane : l'.state = (txOf s p c).state := packArea_state s cls pool 6 _
  have hcounted : StatesKept s s1 := (statesKept_withTx hlane).trans (statesKept_of_pho rfl)
  have hescape : StatesKept s1 s2 := by
    unfold s2
    split
    · exact statesKept_of_pho rfl
    · exact .refl _
  have hgone : StatesKept s2 s3 :=
    statesKept_foldl (f := fun s y => parcelGone y s) (fun s y => statesKept_freeBuffers y.buffers s) x.ended s2
  have hleft : StatesKept s3 s4 := statesKept_foldl (f := fun s y => departed y.parcel s)
    (fun s y => statesKept_of_pho (departed_pho y.parcel s)) x.begun s3
  exact (((hcounted.trans hescape).trans hgone).trans hleft).trans (statesKept_of_pho rfl)

theorem statesKept_pumpFlits (p c n : Nat) (s : State) : StatesKept s (pumpFlits p c n s) := by
  induction n generalizing s with
  | zero => exact .refl s
  | succ n ih =>
    unfold pumpFlits
    dsimp only
    split
    · exact .refl s
    · split
      · exact (statesKept_sendData ..).trans (ih _)
      · split
        · exact (statesKept_sendBare ..).trans (ih _)
        · exact .refl s

theorem statesKept_pumpLane (p c : Nat) (s : State) : StatesKept s (pumpLane p c s) := statesKept_pumpFlits ..

theorem statesKept_resendOne (p c : Nat) (f : TxFlit) (s : State) : StatesKept s (resendOne p c f s) := by
  unfold resendOne
  exact (statesKept_withTx (by rfl)).trans (statesKept_of_pho rfl)

theorem statesKept_resendAll (p c : Nat) (s : State) : StatesKept s (resendAll p c s) := by
  rw [resendAll_eq]
  refine StatesKept.trans ?_ (statesKept_foldl (fun s f => statesKept_resendOne p c f s) _ _)
  exact (statesKept_withTx (by rfl)).trans (statesKept_of_pho rfl)

theorem statesKept_sendNotice (p code about dst : Nat) (s : State) : StatesKept s (sendNotice p code about dst s) := by
  unfold sendNotice
  split
  · exact .refl s
  · dsimp only
    split
    · exact .refl s
    · exact statesKept_withTx (by rfl)

theorem statesKept_reachable (p c : Nat) (s : State) : StatesKept s (reachable p c s) :=
  statesKept_of_pho ((show Keeps 4096 s (reachable p c s) by simp).pho (by decide))

theorem rxOf_withRx_other {p c k j : Nat} (x : RxLane) (s : State) (h : laneKey k j ≠ laneKey p c) :
    rxOf (withRx p c x s) k j = rxOf s k j := at_set_other _ _ _ _ _ h

/-! ## Data rings set from their tables -/

/-- One data ring set from its table, its lane waiting for identity. -/
def setDataRing (tx : Bool) (p : Nat) (s : State) (c : Nat) : State :=
  if ringless s tx p c then s
  else
    let r := servingRing s tx p c
    let s := withRing tx p r { code := shiftedCode s tx p r c, line := c, parked := false, locked := true } s
    if tx then withTx p c { txOf s p c with state := .out } s
    else withRx p c { rxOf s p c with state := .out, lastGood := s.pwr.time } s

theorem setDataRings_eq (tx : Bool) (p : Nat) (s : State) :
    setDataRings tx p s = (colours.drop 1).foldl (setDataRing tx p) s := rfl

theorem setDataRing_other {tx : Bool} {p c k j : Nat} (s : State) (h : laneKey k j ≠ laneKey p c) :
    txOf (setDataRing tx p s c) k j = txOf s k j ∧ rxOf (setDataRing tx p s c) k j = rxOf s k j ∧
      (setDataRing tx p s c).pho.ports = s.pho.ports := by
  unfold setDataRing
  split
  · exact ⟨rfl, rfl, rfl⟩
  · dsimp only
    split
    · exact ⟨(txOf_withTx_other _ _ h).trans rfl, rfl, rfl⟩
    · exact ⟨rfl, (rxOf_withRx_other _ _ h).trans rfl, rfl⟩

theorem setDataEach_other {tx : Bool} {p k j : Nat} (l : List Nat) (s : State) (h : ∀ c ∈ l, laneKey k j ≠ laneKey p c) :
    txOf (l.foldl (setDataRing tx p) s) k j = txOf s k j ∧ rxOf (l.foldl (setDataRing tx p) s) k j = rxOf s k j ∧
      (l.foldl (setDataRing tx p) s).pho.ports = s.pho.ports := by
  induction l generalizing s with
  | nil => exact ⟨rfl, rfl, rfl⟩
  | cons c l ih =>
    obtain ⟨htx, hrx, hports⟩ := setDataRing_other (tx := tx) s (h c List.mem_cons_self)
    obtain ⟨htx', hrx', hports'⟩ := ih (setDataRing tx p s c) fun d hd => h d (List.mem_cons_of_mem _ hd)
    exact ⟨htx'.trans htx, hrx'.trans hrx, hports'.trans hports⟩

theorem setDataRings_anchor (tx : Bool) (p k : Nat) (s : State) :
    txOf (setDataRings tx p s) k 0 = txOf s k 0 ∧ rxOf (setDataRings tx p s) k 0 = rxOf s k 0 ∧
      (setDataRings tx p s).pho.ports = s.pho.ports := by
  rw [setDataRings_eq]
  refine setDataEach_other _ s fun c hc => ?_
  have hrange : 1 ≤ c ∧ c < 16 := by
    revert c
    decide
  unfold laneKey
  omega

theorem portOf_withPort_same (p : Nat) (x : Port) (s : State) : portOf (withPort p x s) p = x := at_set_same ..

theorem portOf_withPort_other {p q : Nat} (x : Port) (s : State) (h : q ≠ p) : portOf (withPort p x s) q = portOf s q :=
  at_set_other _ _ _ _ _ h

/-! ## A port goes on -/

/-- A port's transmit anchor lane stays as it is, and its commissioning does not go back to the anchor's search. -/
structure AnchorKept (p : Nat) (s t : State) : Prop where
  lane : txOf t p 0 = txOf s p 0
  stage : 1 ≤ (portOf s p).stage → 1 ≤ (portOf t p).stage

theorem AnchorKept.refl (p : Nat) (s : State) : AnchorKept p s s := ⟨rfl, id⟩

theorem AnchorKept.trans {p : Nat} {s t u : State} (h : AnchorKept p s t) (k : AnchorKept p t u) : AnchorKept p s u :=
  ⟨k.lane.trans h.lane, fun hs => k.stage (h.stage hs)⟩

theorem anchorKept_of_ports {p : Nat} {s t : State} (hlane : txOf t p 0 = txOf s p 0) (hports : t.pho.ports = s.pho.ports) :
    AnchorKept p s t := ⟨hlane, fun h => by rwa [portOf_of_ports hports]⟩

theorem anchorKept_setDataRings (tx : Bool) (q p : Nat) (s : State) : AnchorKept p s (setDataRings tx q s) := by
  obtain ⟨htx, -, hports⟩ := setDataRings_anchor tx q p s
  exact anchorKept_of_ports htx hports

theorem anchorKept_stageTwo (q p : Nat) (s : State) : AnchorKept p s (withPort q { portOf s q with stage := 2 } s) := by
  refine ⟨rfl, fun h => ?_⟩
  by_cases hq : p = q
  · subst hq
    rw [portOf_withPort_same]
    exact Nat.le_succ 1
  · rwa [portOf_withPort_other _ _ hq]

theorem anchorKept_sweepReceive (q p : Nat) (s : State) : AnchorKept p s (sweepAnchor false q s) := by
  unfold sweepAnchor
  split
  · exact .refl p s
  · exact anchorKept_of_ports rfl rfl

theorem anchorKept_portOn (q p : Nat) (s : State) : AnchorKept p s (portOn q s) := by
  unfold portOn
  dsimp only
  have hswept : AnchorKept p s (sweepAnchor false q (setDataRings true q s)) :=
    (anchorKept_setDataRings true q p s).trans (anchorKept_sweepReceive q p _)
  split
  · exact (hswept.trans (anchorKept_stageTwo q p _)).trans (anchorKept_setDataRings false q p _)
  · exact hswept

theorem lightLasers_leaves (which : Nat → Bool) (s : State) :
    (lightLasers which s).pho.tx = s.pho.tx ∧ (lightLasers which s).pho.ports = s.pho.ports := ⟨rfl, rfl⟩

theorem anchorKept_portsOn (p : Nat) (l : List Nat) (s : State) : AnchorKept p s (l.foldl (fun s q => portOn q s) s) := by
  induction l generalizing s with
  | nil => exact .refl p s
  | cons q l ih =>
    rw [List.foldl_cons]
    exact (anchorKept_portOn q p s).trans (ih (portOn q s))

theorem anchorKept_lightAll (p : Nat) (s : State) : AnchorKept p s (lightAll s) := by
  obtain ⟨htx, hports⟩ := lightLasers_leaves (fun _ => true) s
  unfold lightAll
  split
  · exact .refl p s
  · generalize lightLasers (fun _ => true) s = u at htx hports ⊢
    dsimp only
    refine (anchorKept_of_ports (t := withPho (fun h => { h with allLit := true }) u) (txOf_of_tx htx p 0) hports).trans ?_
    exact anchorKept_portsOn ..

theorem txAnchorFound_leaves (p : Nat) (s : State) :
    txOf (txAnchorFound p s) p 0 = txOf s p 0 ∧ 1 ≤ (portOf (txAnchorFound p s) p).stage := by
  have hstage : 1 ≤ (portOf (withPort p { portOf s p with stage := 1 } s) p).stage := by
    rw [portOf_withPort_same]
  have hkept : AnchorKept p (withPort p { portOf s p with stage := 1 } s) (txAnchorFound p s) := by
    unfold txAnchorFound
    dsimp only
    split
    · exact anchorKept_portOn ..
    · exact anchorKept_lightAll ..
  exact ⟨hkept.lane, hkept.stage hstage⟩

theorem rxAnchorFound_anchor (p : Nat) (s : State) : rxOf (rxAnchorFound p s) p 0 = rxOf s p 0 := by
  unfold rxAnchorFound
  split
  · exact (setDataRings_anchor false p p _).2.1
  · rfl

/-! ## Searches -/

/-- A lane whose ring begins to search. -/
def searchRing (tx : Bool) (p c : Nat) (s : State) : State :=
  let x := ringOf (pullLane tx p c .searching s) tx p (servingRing s tx p c)
  withRing tx p (servingRing s tx p c) { x with
    locked := false, parked := false, mode := .directed, sweepsFailed := 0
    rejected := if x.line < 16 then [x.line] else [] } (pullLane tx p c .searching s)

/-- The searches of a lane's last hour, with one more that begins. -/
def searchTimes (tx : Bool) (p c : Nat) (s : State) : List Nat :=
  searched s.pwr.time (if tx then (txOf (searchRing tx p c s) p c).searches else (rxOf (searchRing tx p c s) p c).searches)

/-- A lane that searches, before the searches of the last hour are judged. -/
def searchBegun (tx : Bool) (p c : Nat) (lost : Bool) (s : State) : State :=
  if tx then withTx p c { txOf (searchRing tx p c s) p c with searches := searchTimes tx p c s } (searchRing tx p c s)
  else withRx p c { rxOf (searchRing tx p c s) p c with searches := searchTimes tx p c s, lost := lost } (searchRing tx p c s)

theorem beginSearch_eq (tx : Bool) (p c : Nat) (lost : Bool) (s : State) :
    beginSearch tx p c lost s = if 16 < (searchTimes tx p c s).length then dropLane tx p c (searchBegun tx p c lost s)
      else searchBegun tx p c lost s := rfl

theorem regsExcept_dropLane {l : List (Nat × Nat)} (tx : Bool) (p c : Nat) (s : State) :
    regsExcept l s (dropLane tx p c s) := by
  unfold dropLane dropAs
  dsimp only
  split
  · exact regsExcept_refl _ s
  · refine regsExcept_trans (regsExcept_of_regs ?_) (regsExcept_raise 1 0x0033 _ _)
    exact (show Keeps 16 s (pullLane tx p c .dropped s) by simp).regs (by decide)

theorem searchBegun_keeps (tx : Bool) (p c : Nat) (lost : Bool) (s : State) : Keeps 1036285 s (searchBegun tx p c lost s) := by
  unfold searchBegun searchRing
  split
  · simp
  · simp

theorem regsExcept_beginSearch {l : List (Nat × Nat)} (tx : Bool) (p c : Nat) (lost : Bool) (s : State) :
    regsExcept l s (beginSearch tx p c lost s) := by
  have hbegun : regsExcept l s (searchBegun tx p c lost s) := regsExcept_of_regs ((searchBegun_keeps ..).regs (by decide))
  rw [beginSearch_eq]
  split
  · exact regsExcept_trans hbegun (regsExcept_dropLane tx p c _)
  · exact hbegun

/-! ## A receive lane searches -/

theorem pullRx_state (p c : Nat) (st : LaneState) (s : State) : (rxOf (pullRx p c st s) p c).state = st :=
  congrArg RxLane.state (rxOf_withRx_same ..)

theorem raise_pho (code : Nat) (b : Bytes) (u : State) : (raise 1 code b u).pho = u.pho :=
  (show Keeps 4096 u (raise 1 code b u) by simp).pho (by decide)

/-- A receive lane that is dropped, or was. -/
theorem dropReceive_leaves (p c : Nat) {s : State} (h : (rxOf s p c).state ≠ .inService) :
    (rxOf (dropLane false p c s) p c).state ≠ .inService ∧ Keeps 978927 s (dropLane false p c s) := by
  unfold dropLane dropAs
  dsimp only
  split
  · exact ⟨h, Keeps.refl _ s⟩
  · refine ⟨?_, by simp [pullLane]⟩
    rw [rxOf_of_rx (congrArg Photonics.rx (raise_pho ..))]
    refine ne_of_eq_of_ne (b := LaneState.dropped) ?_ (by decide)
    exact (congrArg RxLane.state (rxOf_of_rx rfl ..)).trans (pullRx_state p c .dropped s)

theorem searchReceive_leaves (p c : Nat) (lost : Bool) (s : State) :
    (rxOf (beginSearch false p c lost s) p c).state ≠ .inService ∧ Keeps 978927 s (beginSearch false p c lost s) := by
  have hbegun : (rxOf (searchBegun false p c lost s) p c).state = .searching := by
    have hlane := rxOf_withRx_same p c { rxOf (searchRing false p c s) p c with
      searches := searchTimes false p c s, lost := lost } (searchRing false p c s)
    refine (congrArg RxLane.state hlane).trans ?_
    exact pullRx_state p c .searching s
  have hkeeps : Keeps 978927 s (searchBegun false p c lost s) := by
    simp [searchBegun, searchRing, pullLane]
  have hout : (rxOf (searchBegun false p c lost s) p c).state ≠ .inService := by
    rw [hbegun]
    decide
  rw [beginSearch_eq]
  split
  · obtain ⟨hstate, hrest⟩ := dropReceive_leaves p c hout
    exact ⟨hstate, hkeeps.trans hrest⟩
  · exact ⟨hout, hkeeps⟩

end Sys2Proof.Machine

end

section
/-! Lane frames, ring searches and calibration slots (spec/09_photonics.md, Lane frames, Ring locking, Calibration rotation). -/

namespace Sys2Proof.Machine

/-! ## Frames -/

theorem exec_laneFrame {f : LaneFrame} {s : State} (h : laneListens s f.port f.colour) :
    exec (.laneFrame f) s = .next (if !frameGood f.bytes then
        withRx f.port f.colour { rxOf s f.port f.colour with goodFrames := 0, mismatch := none } (fresh s)
      else
        let l := rxOf s f.port f.colour
        let u := withRx f.port f.colour { l with gen2 := (frameFields f.bytes).gen2 } (fresh s)
        let u :=
          if (frameFields f.bytes).noticeCode = 0 ∨
              lookup (frameFields f.bytes).source l.noticeSeen = some (frameFields f.bytes).noticeSeq then u
          else takeNotice f.port (frameFields f.bytes).source (frameFields f.bytes).noticeCode (frameFields f.bytes).noticeColour
            (withRx f.port f.colour { rxOf u f.port f.colour with
              noticeSeen := put (frameFields f.bytes).source (frameFields f.bytes).noticeSeq l.noticeSeen } u)
        judgeFrame f.port f.colour (frameFields f.bytes) (takeLaneState f.port f.colour (frameFields f.bytes).state u)) := by
  obtain ⟨hlit, hcolour, hclock, hassigned, htakes⟩ := h
  change execLaneFrame f s = _
  unfold execLaneFrame
  dsimp only
  refine congrArg Host.Outcome.next (if_neg (not_or.mpr ⟨Nat.not_le.mpr hcolour, not_or.mpr ⟨?_, not_or.mpr ⟨?_,
    not_or.mpr ⟨?_, ?_⟩⟩⟩⟩))
  · rw [show portLit (fresh s) f.port = true from hlit]
    decide
  · rw [show laneClockGood (fresh s) f.port = true from hclock]
    decide
  · rw [Option.isNone_iff_eq_none]
    exact Option.isSome_iff_ne_none.mp hassigned
  · rw [show takesFrames (fresh s) f.port f.colour = true from htakes]
    decide

/-- The state of a lane whose frame says at which generation its transmitter sends. -/
def generationHeard (f : LaneFrame) (s : State) : State :=
  withRx f.port f.colour { rxOf s f.port f.colour with gen2 := (frameFields f.bytes).gen2 } (fresh s)

theorem exec_plainFrame {f : LaneFrame} {s : State} (h : laneListens s f.port f.colour) (hplain : plainFrame f) :
    exec (.laneFrame f) s = .next (judgeFrame f.port f.colour (frameFields f.bytes) (generationHeard f s)) := by
  obtain ⟨hgood, hnotice, hstate⟩ := hplain
  rw [exec_laneFrame h, hgood, if_neg (by decide)]
  dsimp only
  rw [if_pos (Or.inl hnotice), hstate]
  refine congrArg (fun u => Host.Outcome.next (judgeFrame f.port f.colour (frameFields f.bytes) u)) ?_
  unfold takeLaneState
  dsimp only
  rw [if_neg (fun h => absurd h.1 (by decide)), if_neg (fun h => absurd h.1 (by decide)),
    if_neg (fun h => absurd h.1 (by decide))]
  rfl

theorem rxOf_generationHeard (f : LaneFrame) (s : State) : rxOf (generationHeard f s) f.port f.colour =
    { rxOf s f.port f.colour with gen2 := (frameFields f.bytes).gen2 } := rxOf_withRx_same ..

/-- A lane that has heard one more good frame of its peer. -/
def frameHeard (f : FrameFields) (now : Nat) (l : RxLane) : RxLane :=
  { l with
    frame := f.count, lastGood := now, goodFrames := if f.count = (l.frame + 1) % 65536 then l.goodFrames + 1 else 1
    mismatch := none }

theorem judgeFrame_peer {p c : Nat} {f : FrameFields} {s : State}
    (h : expectedTx s p c = some f.source ∧ f.port = p ∧ f.colour = c) (hstate : f.state = 0) :
    judgeFrame p c f s = if (rxOf s p c).state ≠ .inService ∧ 2 ≤ (frameHeard f s.pwr.time (rxOf s p c)).goodFrames then
      if c = 0 then rxAnchorFound p (rxIntoService p c (withRx p c (frameHeard f s.pwr.time (rxOf s p c)) s))
      else rxIntoService p c (withRx p c (frameHeard f s.pwr.time (rxOf s p c)) s)
    else withRx p c (frameHeard f s.pwr.time (rxOf s p c)) s := by
  unfold judgeFrame
  dsimp only
  rw [if_pos h, hstate]
  exact if_congr (by simp [frameHeard]) rfl rfl

/-- A lane that has shown another identity. -/
def frameStrange (f : FrameFields) (now : Nat) (l : RxLane) : RxLane := { l with frame := f.count, lastGood := now }

theorem judgeFrame_strange {p c : Nat} {f : FrameFields} {s : State}
    (h : ¬(expectedTx s p c = some f.source ∧ f.port = p ∧ f.colour = c)) :
    judgeFrame p c f s =
      if (rxOf s p c).mismatch = some (f.source, f.port, f.colour) ∧ f.count = ((rxOf s p c).frame + 1) % 65536 then
        mismatchVerdict p c f.source f.port f.colour (withRx p c (frameStrange f s.pwr.time (rxOf s p c)) s)
      else withRx p c { frameStrange f s.pwr.time (rxOf s p c) with
        goodFrames := 0, mismatch := some (f.source, f.port, f.colour) } s := by
  unfold judgeFrame
  dsimp only
  rw [if_neg h]
  rfl

/-! ## A receive lane goes into service -/

theorem forgetBuffers_rx (key : Nat) (s : State) : (forgetBuffers key s).pho.rx = s.pho.rx := rfl

/-- The notice that a lane goes into service. -/
def serviceNotice (p c : Nat) (s : State) : State :=
  match expectedTx s p c with
  | some e => sendNotice p 3 0 e s
  | none => s

theorem serviceNotice_rx (p c : Nat) (s : State) : (serviceNotice p c s).pho.rx = s.pho.rx := by
  unfold serviceNotice
  split
  · exact (statesKept_sendNotice ..).rx
  · rfl

/-- A receive lane in service, expecting flit 0. -/
def serviceTaken (p c : Nat) (s : State) : State :=
  forgetBuffers (laneKey p c) (withRx p c { rxOf s p c with
    state := .inService, expected := 0, nakSent := false, parts := [], lost := false } s)

/-- Its pools advertised on its partner. -/
def poolsAdvertised (p c : Nat) (s : State) : State :=
  match partnerTx s p c with
  | some t => pumpLane p t (withTx p t { txOf s p t with owed := fullPools } s)
  | none => s

theorem poolsAdvertised_rx (p c : Nat) (s : State) : (poolsAdvertised p c s).pho.rx = s.pho.rx := by
  unfold poolsAdvertised
  split
  · exact (statesKept_pumpLane ..).rx
  · rfl

theorem rxOf_serviceTaken (p c : Nat) (s : State) : rxOf (serviceTaken p c s) p c = { rxOf s p c with
    state := .inService, expected := 0, nakSent := false, parts := [], lost := false } :=
  (rxOf_of_rx (forgetBuffers_rx ..) p c).trans (rxOf_withRx_same ..)

theorem rxIntoService_eq {p c : Nat} {s : State} (h : (rxOf s p c).kept = false) :
    rxIntoService p c s = poolsAdvertised p c (serviceTaken p c (serviceNotice p c s)) := by
  unfold rxIntoService
  dsimp only
  rw [h, if_neg (by decide)]
  rfl

theorem rxIntoService_fresh {p c : Nat} {s : State} (h : (rxOf s p c).kept = false) :
    rxOf (rxIntoService p c s) p c = { rxOf s p c with
      state := .inService, expected := 0, nakSent := false, parts := [], lost := false } := by
  rw [rxIntoService_eq h, rxOf_of_rx (poolsAdvertised_rx ..), rxOf_serviceTaken, rxOf_of_rx (serviceNotice_rx ..)]

/-! ## Rings -/

theorem ringOf_withRing_same (tx : Bool) (p r : Nat) (x : Ring) (s : State) : ringOf (withRing tx p r x s) tx p r = x :=
  at_set_same ..

theorem ringOf_withRing_other {tx : Bool} {p r q : Nat} (x : Ring) (s : State) (h : q ≠ r) :
    ringOf (withRing tx p r x s) tx p q = ringOf s tx p q := by
  refine at_set_other _ _ _ _ _ ?_
  unfold ringKey
  omega

theorem laneRing_withRing (tx : Bool) (p c : Nat) (x : Ring) (s : State) :
    laneRing (withRing tx p (servingRing s tx p c) x s) tx p c = x := ringOf_withRing_same ..

/-- The rings and the ports are the same. -/
def RingsKept (s t : State) : Prop := t.pho.rings = s.pho.rings ∧ t.pho.ports = s.pho.ports

theorem RingsKept.ringOf {s t : State} (h : RingsKept s t) (tx : Bool) (p r : Nat) :
    Machine.ringOf t tx p r = Machine.ringOf s tx p r := by
  unfold Machine.ringOf
  rw [h.1]

theorem RingsKept.servingRing {s t : State} (h : RingsKept s t) (tx : Bool) (p c : Nat) :
    Machine.servingRing t tx p c = Machine.servingRing s tx p c := by
  unfold Machine.servingRing
  rw [portOf_of_ports h.2]

theorem RingsKept.laneRing {s t : State} (h : RingsKept s t) (tx : Bool) (p c : Nat) : laneRing t tx p c = laneRing s tx p c := by
  unfold Sys2Proof.laneRing
  rw [h.servingRing, h.ringOf]

theorem ringsKept_of_pho {s t : State} (h : t.pho = s.pho) : RingsKept s t := by
  unfold RingsKept
  rw [h]
  exact ⟨rfl, rfl⟩

theorem ringsKept_pullLane (tx : Bool) (p c : Nat) (st : LaneState) (s : State) : RingsKept s (pullLane tx p c st s) := by
  have hout : ∀ u : State, RingsKept u (outTx p c st u) := fun u => by
    unfold outTx
    exact ringsKept_of_pho (requeue_pho ..) |>.imp (·.trans rfl) (·.trans rfl)
  unfold pullLane pullTx
  split
  · split
    · exact (hout _).imp (·.trans rfl) (·.trans rfl)
    · exact hout s
  · exact ⟨rfl, rfl⟩

/-! ## A failed ring stays failed -/

theorem dropLane_failed {tx : Bool} {p c r : Nat} {s : State} (h : (ringOf s tx p r).failed = true) :
    (ringOf (dropLane tx p c s) tx p r).failed = true := by
  unfold dropLane dropAs
  dsimp only
  split
  · exact h
  · have hpulled := ringsKept_pullLane tx p c .dropped s
    rw [(ringsKept_of_pho (raise_pho ..)).ringOf]
    change (ringOf (withRing tx p _ _ _) tx p r).failed = true
    by_cases hr : r = servingRing s tx p c
    · subst hr
      rw [ringOf_withRing_same, hpulled.ringOf]
      exact h
    · rw [ringOf_withRing_other _ _ hr, hpulled.ringOf]
      exact h

theorem searchBegun_failed {tx : Bool} {p c r : Nat} (lost : Bool) {s : State} (h : (ringOf s tx p r).failed = true) :
    (ringOf (searchBegun tx p c lost s) tx p r).failed = true := by
  have hpulled := ringsKept_pullLane tx p c .searching s
  have hring : (ringOf (searchRing tx p c s) tx p r).failed = true := by
    unfold searchRing
    by_cases hr : r = servingRing s tx p c
    · subst hr
      rw [ringOf_withRing_same, hpulled.ringOf]
      exact h
    · rw [ringOf_withRing_other _ _ hr, hpulled.ringOf]
      exact h
  unfold searchBegun
  split
  · exact hring
  · exact hring

theorem beginSearch_failed {tx : Bool} {p c r : Nat} (lost : Bool) {s : State} (h : (ringOf s tx p r).failed = true) :
    (ringOf (beginSearch tx p c lost s) tx p r).failed = true := by
  rw [beginSearch_eq]
  split
  · exact dropLane_failed (searchBegun_failed lost h)
  · exact searchBegun_failed lost h

theorem failRing_failed {tx : Bool} {p c r : Nat} {s : State} (hr : servingRing s tx p c = r)
    (hspare : r = 16 → (spareOf (portOf s p) tx).isSome = true) : (ringOf (failRing tx p c s) tx p r).failed = true := by
  have hfailed : (ringOf (withRing tx p r { ringOf s tx p r with failed := true, locked := false, parked := true, line := 16 } s)
      tx p r).failed = true := by
    rw [ringOf_withRing_same]
  unfold failRing
  dsimp only
  rw [hr]
  split
  · next hfree =>
    have hne : r ≠ 16 := fun h => by
      have hsome := hspare h
      have hnone := hfree.1
      rw [show spareOf (portOf (withRing tx p r { ringOf s tx p r with
        failed := true, locked := false, parked := true, line := 16 } s) p) tx = spareOf (portOf s p) tx from rfl,
        Option.isNone_iff_eq_none] at hnone
      rw [hnone] at hsome
      exact absurd hsome (by decide)
    refine beginSearch_failed false ?_
    rw [ringOf_withRing_other _ _ hne]
    exact hfailed
  · exact dropLane_failed hfailed

end Sys2Proof.Machine

end

section
/-! Searches, retries and calibration slots assembled (spec/09_photonics.md). -/

namespace Sys2Proof.Machine

/-! ## Calibration slots -/

theorem txOf_sendFrame (p c st : Nat) (s : State) : txOf (sendFrame p c st s) p c = { txOf s p c with
    frame := ((txOf s p c).frame + 1) % 65536, frameAt := some s.pwr.time, notices := carryNotice (txOf s p c).notices } :=
  txOf_withTx_same ..

theorem takeForSlot_leaves {p c : Nat} {s : State} (h : (txOf s p c).state = .inService) :
    (txOf (takeForSlot p c s) p c).state = .calibrating ∧ (txOf (takeForSlot p c s) p c).replay = (txOf s p c).replay ∧
      (txOf (takeForSlot p c s) p c).credit = (txOf s p c).credit ∧ (takeForSlot p c s).pho.rx = s.pho.rx ∧
      (takeForSlot p c s).pho.ports = s.pho.ports := by
  unfold takeForSlot
  rw [if_pos h]
  refine ⟨?_, ?_, ?_, rfl, rfl⟩
  · rw [txOf_withTx_same]
  · rw [txOf_withTx_same, txOf_sendFrame, txOf_sendFrame]
  · rw [txOf_withTx_same, txOf_sendFrame, txOf_sendFrame]

theorem exec_calibrationSlot {p k : Nat} {good : Bool × Bool} {s : State} (hlit : portLit s p = true)
    (hk : k = s.pwr.time / 1000000 % 17) (hdue : s.pwr.time % 1000000 = 125000 * (p % 8)) (hnone : dueSwitch s p = none)
    (hlow : k < 16) (hup : (txOf s p k).state = .inService) :
    exec (.calibrationSlot p good) s = .next (takeForSlot p k
      (withPort p { portOf s p with lastSlot := k, slot := some ⟨k, some k, s.pwr.time, none⟩ } (fresh s))) := by
  have hlane : someLane s p = true :=
    List.any_eq_true.mpr ⟨k, List.mem_range.mpr hlow, Bool.or_eq_true _ _ ▸ Or.inl (beq_iff_eq.mpr hup)⟩
  change execCalibrationSlot p good s = _
  unfold execCalibrationSlot
  dsimp only
  refine congrArg Host.Outcome.next ((if_neg (not_or.mpr ⟨?_, not_or.mpr ⟨not_not_intro hdue, ?_⟩⟩)).trans ?_)
  · rw [show portLit (fresh s) p = true from hlit]
    decide
  · rw [show someLane (fresh s) p = true from hlane]
    decide
  · rw [show dueSwitch (fresh s) p = none from hnone]
    dsimp only
    rw [show (fresh s).pwr.time / 1000000 % 17 = k from hk.symm]
    exact (if_neg hlow.ne).trans (if_pos hup)

/-- A port whose slot is over. -/
def slotClosed (p : Nat) (s : State) : State := withPort p { portOf s p with slot := none } (fresh s)

theorem exec_calibrationSlotEnd {p c j start : Nat} {farOff : Bool} (back : Bool) {s : State} (hlit : portLit s p = true)
    (hslot : (portOf s p).slot = some ⟨j, some c, start, none⟩) :
    exec (.calibrationSlotEnd p back farOff) s = .next (endSlotLane p c back farOff
      (if back then bump 0x5020 9 1 (slotClosed p s) else bump 0x5020 10 1 (slotClosed p s))) := by
  change execCalibrationSlotEnd p back farOff s = _
  unfold execCalibrationSlotEnd
  dsimp only
  rw [show (portOf (fresh s) p).slot = some ⟨j, some c, start, none⟩ from hslot]
  dsimp only
  rw [show portLit (fresh s) p = true from hlit, if_neg (by decide)]
  rfl

/-- A lane back from its slot, before what it holds is sent again. -/
def slotReturned (p c : Nat) (s : State) : State :=
  let s := sendFrame p c 3 (sendFrame p c 3 s)
  withTx p c { txOf s p c with state := .inService, timer := s.pwr.time } (reachable p c s)

theorem endSlotLane_back {p c : Nat} {farOff : Bool} {s : State} (h : (txOf s p c).state = .calibrating) :
    endSlotLane p c true farOff s = pumpLane p c (if (txOf s p c).replay.isEmpty then slotReturned p c s
      else resendAll p c (slotReturned p c s)) := by
  unfold endSlotLane
  dsimp only
  rw [if_neg (not_not_intro h), if_pos rfl]
  rfl

theorem endSlotLane_out {p c : Nat} {farOff : Bool} {s : State} (h : (txOf s p c).state = .calibrating) :
    endSlotLane p c false farOff s = if farOff then beginSearch true p c false s else outTx p c .out s := by
  unfold endSlotLane
  dsimp only
  rw [if_neg (not_not_intro h), if_neg (by decide)]

theorem endSlotLane_returns {p c : Nat} {farOff : Bool} {s : State} (h : (txOf s p c).state = .calibrating) :
    (txOf (endSlotLane p c true farOff s) p c).state = .inService ∧
      (endSlotLane p c true farOff s).pho.ports = s.pho.ports ∧ Keeps 1036269 s (endSlotLane p c true farOff s) := by
  have hlane : (txOf (slotReturned p c s) p c).state = .inService := by
    unfold slotReturned
    dsimp only
    rw [txOf_withTx_same]
  have hports : (slotReturned p c s).pho.ports = s.pho.ports := by
    refine Eq.trans (b := (reachable p c (sendFrame p c 3 (sendFrame p c 3 s))).pho.ports) rfl ?_
    exact ((statesKept_reachable ..).ports).trans rfl
  have hkept : StatesKept (slotReturned p c s) (endSlotLane p c true farOff s) := by
    rw [endSlotLane_back h]
    split
    · exact statesKept_pumpLane ..
    · exact (statesKept_resendAll ..).trans (statesKept_pumpLane ..)
  refine ⟨(hkept.tx p c).trans hlane, hkept.ports.trans hports, ?_⟩
  rw [endSlotLane_back h]
  split
  · simp [slotReturned]
  · simp [slotReturned]

/-! ## Frames lost -/

/-- A lane that loses its peer's light is out, and tells its peer. -/
def lightLost (p c : Nat) (s : State) : State :=
  withRx p c { rxOf (pullRx p c .out s) p c with lastGood := s.pwr.time } (pullRx p c .out s)

/-- A notice to the expected transmitter of a receive lane. -/
def peerNoticed (p c code : Nat) (s : State) : State :=
  match expectedTx s p c with
  | some e => sendNotice p code 0 e s
  | none => s

theorem peerNoticed_leaves (p c code : Nat) (s : State) :
    (peerNoticed p c code s).pho.rx = s.pho.rx ∧ Keeps 1044479 s (peerNoticed p c code s) := by
  unfold peerNoticed
  split
  · exact ⟨(statesKept_sendNotice ..).rx, by simp⟩
  · exact ⟨rfl, Keeps.refl _ s⟩

theorem exec_laneFrameTimeout {p c : Nat} {line : Bool} {s : State} (hc : c < 16) (hlit : portLit s p = true)
    (htakes : takesFrames s p c = true) (hlate : (rxOf s p c).lastGood + lostAfter (rxOf s p c) ≤ s.pwr.time)
    (hsearch : (rxOf s p c).state ≠ .searching) :
    exec (.laneFrameTimeout p c line) s = .next (
      if line then beginSearch false p c true (bump 0x5020 7 1 (fresh s))
      else peerNoticed p c 2 (lightLost p c (bump 0x5020 7 1 (fresh s)))) := by
  change execLaneFrameTimeout p c line s = _
  unfold execLaneFrameTimeout
  dsimp only
  refine congrArg Host.Outcome.next ((if_neg (not_or.mpr ⟨Nat.not_le.mpr hc, not_or.mpr ⟨?_, not_or.mpr ⟨?_,
    Nat.not_lt.mpr hlate⟩⟩⟩)).trans (if_neg hsearch))
  · rw [show portLit (fresh s) p = true from hlit]
    decide
  · rw [show takesFrames (fresh s) p c = true from htakes]
    decide

theorem rxAnchorFound_zero {p c : Nat} {s : State} (h : c = 0) : rxOf (rxAnchorFound p s) p c = rxOf s p c := by
  subst h
  exact rxAnchorFound_anchor p s

theorem rxOf_sendNotice (p code about dst k j : Nat) (s : State) : rxOf (sendNotice p code about dst s) k j = rxOf s k j :=
  rxOf_of_rx (statesKept_sendNotice ..).rx k j

/-! ## Rings followed -/

theorem exec_ringLockLoop {tx : Bool} {p r : Nat} {step : Int} {found : LoopResult} {s : State} (hp : p < 32) (hr : r < 17)
    (hawake : ringsAwake s) (hgood : (ringOf s tx p r).failed = false) :
    exec (.ringLockLoop tx p r step found) s = .next (
      if found = .broken then
        match ringColour s tx p r with
        | some c => failRing tx p c (fresh s)
        | none => withRing tx p r { ringOf s tx p r with failed := true } (fresh s)
      else if (ringOf s tx p r).line = 16 ∨
          (tx && (ringColour s tx p r).any (fun c => (txOf s p c).state == .inService)) = true then fresh s
      else withRing tx p r { ringOf s tx p r with
        code := min 65535 (((ringOf s tx p r).code : Int) + step).toNat, locked := found = .held } (fresh s)) := by
  obtain ⟨hlit, hreset, hclock, hdoze, hstow⟩ := hawake
  change execRingLockLoop tx p r step found s = _
  unfold execRingLockLoop
  dsimp only
  refine congrArg Host.Outcome.next (if_neg (not_or.mpr ⟨Nat.not_le.mpr hp, not_or.mpr ⟨Nat.not_le.mpr hr, not_or.mpr ⟨?_,
    not_or.mpr ⟨hlit, not_or.mpr ⟨?_, not_or.mpr ⟨?_, not_or.mpr ⟨hdoze, fun h => hstow h.1⟩⟩⟩⟩⟩⟩⟩))
  · rw [show (ringOf (fresh s) tx p r).failed = false from hgood]
    decide
  · rw [show (fresh s).pwr.inReset = false from hreset]
    decide
  · rw [show (fresh s).ring.clock = true from hclock]
    decide

/-- The colour that a ring serves is served by it, and a spare ring serves one where it has taken one over. -/
theorem ringColour_serves {tx : Bool} {p r c : Nat} {s : State} (h : ringColour s tx p r = some c) :
    servingRing s tx p c = r ∧ (r = 16 → (spareOf (portOf s p) tx).isSome = true) := by
  unfold ringColour at h
  split at h
  · next hr =>
    subst hr
    refine ⟨if_pos h, fun _ => ?_⟩
    rw [h]
    rfl
  · next hr =>
    split at h
    · next hserves =>
      obtain rfl := Option.some.inj h
      exact ⟨hserves, fun h16 => absurd h16 hr⟩
    · exact absurd h nofun

theorem rejectLine_stays {tx : Bool} {p c : Nat} {s : State}
    (h : (laneRing s tx p c).mode = .sweep ∨ ∃ l, l < 16 ∧ l ≠ (laneRing s tx p c).line ∧ l ∉ (laneRing s tx p c).rejected) :
    rejectLine tx p c s = withRing tx p (servingRing s tx p c) { laneRing s tx p c with
      locked := false, rejected := addNum (laneRing s tx p c).line (laneRing s tx p c).rejected } s := by
  unfold rejectLine
  dsimp only
  refine if_neg ?_
  rintro ⟨hdirected, hall⟩
  obtain hsweep | ⟨l, hl, hne, hnew⟩ := h
  · exact absurd (hsweep.symm.trans hdirected) (by decide)
  · have hin := List.all_eq_true.mp hall l (List.mem_range.mpr hl)
    rw [List.contains_iff_mem, mem_addNum_iff] at hin
    exact hin.elim hnew hne

theorem exec_searchCandidateTimeout {p c : Nat} {s : State} (hc : c < 16) (hlit : portLit s p = true)
    (hstate : (txOf s p c).state = .searching) (hlocked : (laneRing s true p c).locked = true)
    (hlate : (laneRing s true p c).lineAt + 30000 ≤ s.pwr.time) :
    exec (.searchCandidateTimeout p c) s = .next (rejectLine true p c (fresh s)) := by
  change execSearchCandidateTimeout p c s = _
  unfold execSearchCandidateTimeout
  dsimp only
  refine congrArg Host.Outcome.next (if_neg (not_or.mpr ⟨Nat.not_le.mpr hc, not_or.mpr ⟨?_,
    not_or.mpr ⟨not_not_intro hstate, not_or.mpr ⟨?_, Nat.not_lt.mpr hlate⟩⟩⟩⟩))
  · rw [show portLit (fresh s) p = true from hlit]
    decide
  · rw [show (ringOf (fresh s) true p (servingRing (fresh s) true p c)).locked = true from hlocked]
    decide

/-- A ring at a line, locked to it where the line is accepted. -/
def ringAt (tx : Bool) (p c line code crossings : Nat) (accepted : Bool) (s : State) : State :=
  withRing tx p (servingRing s tx p c) { laneRing s tx p c with
    line := line, code := code % 65536, locked := accepted, parked := false, lineAt := s.pwr.time }
    (bump 0x5020 8 crossings (fresh s))

/-- A lane whose ring has locked to an accepted line. -/
def lineAccepted (tx : Bool) (p c : Nat) (s : State) : State :=
  if !tx then withRx p c { rxOf s p c with goodFrames := 0, mismatch := none, lastGood := s.pwr.time } s
  else if c = 0 ∧ anchorSought s p then txAnchorFound p (withTx p 0 { txOf s p 0 with state := .out } s)
  else if sendsFrames s p c then sendFrame p c 4 s
  else s

theorem lineAccepted_leaves {tx : Bool} {p c : Nat} {s : State} (h : tx = true → c = 0 → anchorSought s p = false) :
    RingsKept s (lineAccepted tx p c s) ∧ Keeps 1044477 s (lineAccepted tx p c s) := by
  unfold lineAccepted
  split
  · exact ⟨⟨rfl, rfl⟩, by simp⟩
  · next htx =>
    rw [if_neg]
    · split
      · exact ⟨⟨rfl, rfl⟩, by simp⟩
      · exact ⟨⟨rfl, rfl⟩, Keeps.refl _ s⟩
    · rintro ⟨hc, hanchor⟩
      exact Bool.false_ne_true ((h (by simpa using htx) hc).symm.trans hanchor)

theorem lineAccepted_anchor {p : Nat} {s : State} (h : anchorSought s p = true) :
    lineAccepted true p 0 s = txAnchorFound p (withTx p 0 { txOf s p 0 with state := .out } s) := by
  unfold lineAccepted
  rw [if_neg (by decide), if_pos ⟨rfl, h⟩]

/-- A ring whose search has run out once: a directed search becomes a sweep, and a sweep begins again. -/
def searchAgain (x : Ring) : Ring :=
  if x.mode = .directed then { x with locked := false, mode := .sweep, rejected := [], code := 0, line := 16 }
  else { x with locked := false, sweepsFailed := 1, code := 0, line := 16 }

theorem searchExhausted_goesOn {tx : Bool} {p c : Nat} {s : State} (hstage : tx = false → c = 0 → (portOf s p).stage ≠ 1)
    (hmode : (laneRing s tx p c).mode = .directed ∨ (laneRing s tx p c).sweepsFailed = 0) :
    searchExhausted tx p c s = withRing tx p (servingRing s tx p c) (searchAgain (laneRing s tx p c)) s := by
  unfold searchExhausted searchAgain
  dsimp only
  rw [if_neg]
  · split
    · next hdirected => rw [if_pos (show (laneRing s tx p c).mode = .directed from hdirected)]; rfl
    · next hsweep =>
      rw [if_neg (show ¬(laneRing s tx p c).mode = .directed from hsweep)]
      exact if_pos (hmode.resolve_left hsweep)
  · intro h
    simp only [Bool.and_eq_true, Bool.not_eq_true', beq_iff_eq] at h
    obtain ⟨⟨⟨htx, hc⟩, hone⟩, -⟩ := h
    exact hstage htx hc hone

theorem exec_ringSearchLineReached {tx : Bool} {p c line code crossings : Nat} {accepted : Bool} {s : State} (hc : c < 16)
    (hlit : portLit s p = true) (hstate : laneState s tx p c = .searching) (hfree : (laneRing s tx p c).locked = false)
    (hfailed : (laneRing s tx p c).failedAt = none) :
    exec (.ringSearchLineReached tx p c (line, code) accepted crossings) s = .next (
      if 16 ≤ line then searchExhausted tx p c (bump 0x5020 8 crossings (fresh s))
      else if !mayReach (laneRing s tx p c) c (line, code) then bump 0x5020 8 crossings (fresh s)
      else if !accepted then
          (if (laneRing s tx p c).mode = .directed then rejectLine tx p c (ringAt tx p c line code crossings accepted s)
          else ringAt tx p c line code crossings accepted s)
        else lineAccepted tx p c (ringAt tx p c line code crossings accepted s)) := by
  change execRingSearchLineReached tx p c (line, code) accepted crossings s = _
  unfold execRingSearchLineReached
  dsimp only
  refine congrArg Host.Outcome.next (if_neg (not_or.mpr ⟨Nat.not_le.mpr hc, not_or.mpr ⟨?_,
    not_or.mpr ⟨not_not_intro hstate, not_or.mpr ⟨?_, ?_⟩⟩⟩⟩))
  · rw [show portLit (fresh s) p = true from hlit]
    decide
  · rw [show (ringOf (fresh s) tx p (servingRing (fresh s) tx p c)).locked = false from hfree]
    decide
  · rw [show (ringOf (fresh s) tx p (servingRing (fresh s) tx p c)).failedAt = none from hfailed]
    decide

/-- The lane of a wrong colour pulled out and counted. -/
def wrongColour (p c source colour : Nat) (s : State) : State :=
  sendNotice p 1 colour source (bump 0x5020 4 1 (pullRx p c .out s))

theorem mismatchVerdict_colour {p c source colour : Nat} {s : State} (hsearch : (rxOf s p c).state ≠ .searching)
    (hpeer : expectedTx s p c = some source) : mismatchVerdict p c source p colour s = wrongColour p c source colour s := by
  unfold mismatchVerdict
  rw [if_neg hsearch, if_pos ⟨hpeer, rfl⟩]
  rfl

theorem wrongColour_leaves (p c source colour : Nat) (s : State) :
    (rxOf (wrongColour p c source colour s) p c).state = .out ∧
      rg (wrongColour p c source colour s) 0x5020 4 = satAdd (sizeOf_ 0x5020 4) (rg s 0x5020 4) 1 ∧
      regsExcept [(0x5020, 4)] s (wrongColour p c source colour s) ∧ Keeps 1044463 s (wrongColour p c source colour s) := by
  have hregs : (wrongColour p c source colour s).regs = (bump 0x5020 4 1 (pullRx p c .out s)).regs :=
    (show Keeps 16 (bump 0x5020 4 1 (pullRx p c .out s)) (wrongColour p c source colour s) by simp [wrongColour]).regs (by decide)
  refine ⟨?_, (rg_of_regs hregs ..).trans (satAdd_rg_eq 1 rfl), regsExcept_trans
    (regsExcept_bump 1 (pullRx p c .out s) (by decide) (by decide)) (regsExcept_of_regs hregs), by simp [wrongColour]⟩
  unfold wrongColour
  rw [rxOf_sendNotice]
  exact pullRx_state ..

end Sys2Proof.Machine

open Sys2Proof Sys2Proof.Machine

/-- Settles O37, by what each frame, search step and slot leaves of its lane, its ring and its port. -/
theorem lanesFollowFramesRingsAndSlots : Obligations.LanesFollowFramesRingsAndSlots := by
  unfold Obligations.LanesFollowFramesRingsAndSlots
  refine ⟨fun f l n s hlistens hplain hpeer hcolour hl hnext hbreak hstays => ?heard,
    fun f s hlistens hplain hpeer hcolour hrun hcount hout hfresh => ?service,
    fun f s hlistens hbad => ?bad,
    fun f s hlistens hplain hpeer hcolour hnew => ?strange,
    fun f s hlistens hplain hpeer hcolour hsearch hcount hseen => ?wrong,
    fun p c line s hc hlit htakes hlate hsearch => ?lost,
    fun p c line s hearly => ?early,
    fun tx p r step found s hp hr hawake hgood hline hfound hheld => ?step,
    fun tx p r step s hp hr hawake hgood => ?broken,
    fun p c x s hc hlit hstate hx hlocked hlate hmore => ?candidate,
    fun tx p c line code crossings x s hc hlit hstate hx hfree hfailed hline hreach hanchor => ?reached,
    fun p line code crossings s hlit hstate hfree hfailed hline hreach hanchor => ?anchor,
    fun tx p c line code crossings x s hc hlit hstate hx hfree hfailed hline hstage hmode => ?exhausted,
    fun p since s hlit hstate hsince hlate => ?retry,
    fun p k good s hlit hk hdue hnone hlow hup => ?slot,
    fun p good s haway => ?away,
    fun p c j start farOff s hlit hslot hstate => ⟨?back, ?notBack⟩⟩
  case heard =>
    subst hl
    have hexec := exec_plainFrame hlistens hplain
    have hjudge := judgeFrame_peer (s := generationHeard f s) ⟨hpeer.1, hpeer.2, hcolour⟩ hplain.2.2
    rw [rxOf_generationHeard] at hjudge
    have hn : (frameHeard (frameFields f.bytes) s.pwr.time { rxOf s f.port f.colour with
        gen2 := (frameFields f.bytes).gen2 }).goodFrames = n := by
      unfold frameHeard
      dsimp only
      split
      · next h => exact (hnext h).symm
      · next h => exact (hbreak h).symm
    rw [hjudge, if_neg] at hexec
    · refine ⟨_, hexec, ?_, rfl, unchanged_of_covered (m := 1044477) (by simp [generationHeard]) rfl⟩
      rw [rxOf_withRx_same, ← hn]
      rfl
    · rintro ⟨hout, htwo⟩
      rw [show (generationHeard f s).pwr.time = s.pwr.time from rfl, hn] at htwo
      exact hstays.elim (fun h => absurd htwo (Nat.not_le.mpr h)) hout
  case service =>
    have hexec := exec_plainFrame hlistens hplain
    have hjudge := judgeFrame_peer (s := generationHeard f s) ⟨hpeer.1, hpeer.2, hcolour⟩ hplain.2.2
    rw [rxOf_generationHeard, if_pos ⟨hout, by
      unfold frameHeard
      dsimp only
      rw [if_pos hcount]
      exact Nat.succ_le_succ hrun⟩] at hjudge
    rw [hjudge] at hexec
    generalize hu : withRx f.port f.colour (frameHeard (frameFields f.bytes) (generationHeard f s).pwr.time
      { rxOf s f.port f.colour with gen2 := (frameFields f.bytes).gen2 }) (generationHeard f s) = u at hexec
    have hlane := rxIntoService_fresh (p := f.port) (c := f.colour) (s := u) (by
      rw [← hu, rxOf_withRx_same]
      exact hfresh)
    have hkeeps : Keeps 1044477 s u := by
      rw [← hu]
      simp [generationHeard]
    by_cases hzero : f.colour = 0
    · rw [if_pos hzero] at hexec
      refine ⟨_, hexec, ?_, ?_, ?_, unchanged_of_covered (m := 1036269) ((hkeeps.mono (by decide)).trans (by simp)) rfl⟩
      · rw [rxAnchorFound_zero hzero, hlane]
      · rw [rxAnchorFound_zero hzero, hlane]
      · rw [rxAnchorFound_zero hzero, hlane]
    · rw [if_neg hzero] at hexec
      refine ⟨_, hexec, ?_, ?_, ?_, unchanged_of_covered (m := 1036269) ((hkeeps.mono (by decide)).trans (by simp)) rfl⟩
      · rw [hlane]
      · rw [hlane]
      · rw [hlane]
  case bad =>
    have hexec := exec_laneFrame hlistens
    rw [hbad, if_pos (by decide)] at hexec
    exact hexec
  case strange =>
    have hexec := exec_plainFrame hlistens hplain
    rw [judgeFrame_strange (fun h => hcolour h.2.2), rxOf_generationHeard, if_neg (by rw [hnew]; exact fun h => nomatch h.1)]
      at hexec
    refine ⟨_, hexec, ?_, ?_, ?_, rfl, unchanged_of_covered (m := 1044477) (by simp [generationHeard]) rfl⟩
    · rw [rxOf_withRx_same]
    · rw [rxOf_withRx_same, hpeer.2]
    · rw [rxOf_withRx_same]
      rfl
  case wrong =>
    have hexec := exec_plainFrame hlistens hplain
    rw [judgeFrame_strange (fun h => hcolour h.2.2), rxOf_generationHeard,
      if_pos ⟨by rw [hpeer.2]; exact hseen, hcount⟩, hpeer.2] at hexec
    generalize hu : withRx f.port f.colour (frameStrange (frameFields f.bytes) (generationHeard f s).pwr.time
      { rxOf s f.port f.colour with gen2 := (frameFields f.bytes).gen2 }) (generationHeard f s) = u at hexec
    have hsearch' : (rxOf u f.port f.colour).state ≠ .searching := by
      rw [← hu, rxOf_withRx_same]
      exact hsearch
    have hpeer' : expectedTx u f.port f.colour = some (frameFields f.bytes).source := by
      rw [← hu]
      exact hpeer.1
    have hkeeps : Keeps 1044477 s u := by
      rw [← hu]
      simp [generationHeard]
    rw [mismatchVerdict_colour hsearch' hpeer'] at hexec
    obtain ⟨hstate, hcounted, hregs, hrest⟩ :=
      wrongColour_leaves f.port f.colour (frameFields f.bytes).source (frameFields f.bytes).colour u
    exact ⟨_, hexec, hstate, hcounted.trans (by rw [rg_of_regs (hkeeps.regs (by decide))]),
      regsExcept_trans (regsExcept_of_regs (hkeeps.regs (by decide))) hregs,
      unchanged_of_covered (m := 1044461) ((hkeeps.mono (by decide)).trans (hrest.mono (by decide))) rfl⟩
  case lost =>
    have hexec := exec_laneFrameTimeout (line := line) hc hlit htakes hlate hsearch
    cases line with
    | true =>
      rw [if_pos rfl] at hexec
      obtain ⟨hstate, hkeeps⟩ := searchReceive_leaves p c true (bump 0x5020 7 1 (fresh s))
      refine ⟨_, hexec, hstate, nofun, ?_, ?_, unchanged_of_covered (m := 978925)
        (Keeps.trans (t := bump 0x5020 7 1 (fresh s)) (by simp) (hkeeps.mono (by decide))) rfl⟩
      · exact ((beginSearch_rgK (m := 67108864) _ _ _ _ _ (by decide)).mpr (RgK.refl _ _) 0x5020 7 (by decide)).trans
          (satAdd_rg_eq 1 rfl)
      · exact regsExcept_trans (regsExcept_bump 1 (fresh s) (by decide) (by decide)) (regsExcept_beginSearch false p c true _)
    | false =>
      rw [if_neg (by decide)] at hexec
      obtain ⟨hrx, hkeeps⟩ := peerNoticed_leaves p c 2 (lightLost p c (bump 0x5020 7 1 (fresh s)))
      have hstate : (rxOf (peerNoticed p c 2 (lightLost p c (bump 0x5020 7 1 (fresh s)))) p c).state = .out := by
        rw [rxOf_of_rx hrx, lightLost, rxOf_withRx_same]
        exact pullRx_state ..
      have hregs : (peerNoticed p c 2 (lightLost p c (bump 0x5020 7 1 (fresh s)))).regs = (bump 0x5020 7 1 (fresh s)).regs :=
        (hkeeps.regs (by decide)).trans rfl
      refine ⟨_, hexec, ?_, fun _ => hstate, (rg_of_regs hregs ..).trans (satAdd_rg_eq 1 rfl),
        regsExcept_trans (regsExcept_bump 1 (fresh s) (by decide) (by decide)) (regsExcept_of_regs hregs),
        unchanged_of_covered (m := 978925) (Keeps.trans (t := lightLost p c (bump 0x5020 7 1 (fresh s)))
          (by simp [lightLost]) (hkeeps.mono (by decide))) rfl⟩
      rw [hstate]
      decide
  case early =>
    exact congrArg Host.Outcome.next (if_pos (.inr (.inr (.inr hearly))))
  case step =>
    have hexec := exec_ringLockLoop (step := step) (found := found) hp hr hawake hgood
    rw [if_neg hfound, if_neg (not_or.mpr ⟨hline, by rw [hheld]; decide⟩)] at hexec
    exact ⟨_, hexec, ringOf_withRing_same .., rfl, rfl, unchanged_of_covered (m := 1044477) (by simp) rfl⟩
  case broken =>
    have hexec := exec_ringLockLoop (step := step) (found := .broken) hp hr hawake hgood
    rw [if_pos rfl] at hexec
    cases hcolour : ringColour s tx p r with
    | some c =>
      rw [hcolour] at hexec
      obtain ⟨hserves, hspare⟩ := ringColour_serves hcolour
      exact ⟨_, hexec, failRing_failed (s := fresh s) hserves hspare, unchanged_of_covered (m := 970733) (by simp) rfl⟩
    | none =>
      rw [hcolour] at hexec
      refine ⟨_, hexec, ?_, unchanged_of_covered (m := 970733) (by simp) rfl⟩
      rw [ringOf_withRing_same]
  case candidate =>
    subst hx
    have hexec := exec_searchCandidateTimeout hc hlit hstate hlocked hlate
    rw [rejectLine_stays (s := fresh s) hmore] at hexec
    exact ⟨_, hexec, laneRing_withRing .., rfl, unchanged_of_covered (m := 1044477) (by simp) rfl⟩
  case reached =>
    subst hx
    have hexec := exec_ringSearchLineReached (line := line) (code := code) (crossings := crossings) (accepted := true)
      hc hlit hstate hfree hfailed
    rw [if_neg (Nat.not_le.mpr hline), hreach, if_neg (by decide), if_neg (by decide)] at hexec
    obtain ⟨hrings, hkeeps⟩ := lineAccepted_leaves (tx := tx) (p := p) (c := c)
      (s := ringAt tx p c line code crossings true s) hanchor
    have hregs := hkeeps.regs (by decide)
    refine ⟨_, hexec, (hrings.laneRing ..).trans (laneRing_withRing ..), (rg_of_regs hregs ..).trans (satAdd_rg_eq crossings rfl),
      regsExcept_trans (regsExcept_bump crossings (fresh s) (by decide) (by decide)) (regsExcept_of_regs (hregs.trans rfl)),
      unchanged_of_covered (m := 1044461) (Keeps.trans (t := ringAt tx p c line code crossings true s) (by simp [ringAt])
        (hkeeps.mono (by decide))) rfl⟩
  case anchor =>
    have hexec := exec_ringSearchLineReached (tx := true) (line := line) (code := code) (crossings := crossings)
      (accepted := true) (by decide) hlit hstate hfree hfailed
    rw [if_neg (Nat.not_le.mpr hline), hreach, if_neg (by decide), if_neg (by decide),
      lineAccepted_anchor (s := ringAt true p 0 line code crossings true s) hanchor] at hexec
    obtain ⟨hlane, hstage⟩ := txAnchorFound_leaves p (withTx p 0 { txOf (ringAt true p 0 line code crossings true s) p 0 with
      state := .out } (ringAt true p 0 line code crossings true s))
    have hkeeps : Keeps 1044479 (ringAt true p 0 line code crossings true s) (txAnchorFound p (withTx p 0
      { txOf (ringAt true p 0 line code crossings true s) p 0 with state := .out }
      (ringAt true p 0 line code crossings true s))) := by simp
    refine ⟨_, hexec, ?_, hstage, regsExcept_trans (regsExcept_bump crossings (fresh s) (by decide) (by decide))
      (regsExcept_of_regs ((hkeeps.regs (by decide)).trans rfl)), unchanged_of_covered (m := 1044461)
      (Keeps.trans (t := ringAt true p 0 line code crossings true s) (by simp [ringAt]) (hkeeps.mono (by decide))) rfl⟩
    rw [hlane, txOf_withTx_same]
  case exhausted =>
    subst hx
    have hexec := exec_ringSearchLineReached (line := line) (code := code) (crossings := crossings) (accepted := false)
      hc hlit hstate hfree hfailed
    rw [if_pos hline, searchExhausted_goesOn (s := bump 0x5020 8 crossings (fresh s)) hstage hmode] at hexec
    refine ⟨_, hexec, fun hdirected => ?_, fun hsweep => ?_, regsExcept_trans
      (regsExcept_bump crossings (fresh s) (by decide) (by decide)) (regsExcept_of_regs rfl),
      unchanged_of_covered (m := 1044461) (by simp) rfl⟩
    · refine (laneRing_withRing ..).trans (if_pos ?_)
      exact hdirected
    · refine (laneRing_withRing ..).trans (if_neg ?_)
      intro hdirected
      exact absurd (hsweep.symm.trans hdirected) (by decide)
  case retry =>
    change execAnchorSweepRetry p s = _
    unfold execAnchorSweepRetry
    dsimp only
    rw [show (ringOf (fresh s) false p (servingRing (fresh s) false p 0)).failedAt = some since from hsince]
    refine congrArg Host.Outcome.next (if_neg (not_or.mpr ⟨?_, not_or.mpr ⟨not_not_intro hstate, Nat.not_lt.mpr hlate⟩⟩))
    rw [show portLit (fresh s) p = true from hlit]
    decide
  case slot =>
    have hbound := takeForSlot_leaves (p := p) (c := k) (s := withPort p { portOf s p with
      lastSlot := k, slot := some ⟨k, some k, s.pwr.time, none⟩ } (fresh s)) hup
    obtain ⟨hlane, hreplay, hcredit, hrx, hports⟩ := hbound
    exact ⟨_, exec_calibrationSlot hlit hk hdue hnone hlow hup, hlane, hreplay, hcredit,
      (portOf_of_ports hports p).trans (portOf_withPort_same ..), hrx, unchanged_of_covered (m := 1044477) (by simp) rfl⟩
  case away =>
    exact congrArg Host.Outcome.next (if_pos (.inr (.inl haway)))
  case back =>
    have hexec := exec_calibrationSlotEnd (farOff := farOff) true hlit hslot
    rw [if_pos rfl] at hexec
    obtain ⟨hlane, hports, hkeeps⟩ := endSlotLane_returns (farOff := farOff) (s := bump 0x5020 9 1 (slotClosed p s)) hstate
    refine ⟨_, hexec, hlane, ?_, ?_, unchanged_of_covered (m := 1036269)
      (Keeps.trans (t := bump 0x5020 9 1 (slotClosed p s)) (by simp [slotClosed]) hkeeps) rfl⟩
    · rw [portOf_of_ports hports]
      exact congrArg Port.slot (portOf_withPort_same ..)
    · exact ((endSlotLane_rgK (m := 67108864) _ _ _ _ _ (by decide)).mpr (RgK.refl _ _) 0x5020 9 (by decide)).trans
        (satAdd_rg_eq 1 rfl)
  case notBack =>
    have hexec := exec_calibrationSlotEnd (farOff := farOff) false hlit hslot
    rw [if_neg (by decide), endSlotLane_out (s := bump 0x5020 10 1 (slotClosed p s)) hstate] at hexec
    have hcounted : regsExcept [(0x5020, 10)] s (bump 0x5020 10 1 (slotClosed p s)) :=
      regsExcept_bump 1 (slotClosed p s) (by decide) (by decide)
    cases farOff with
    | true =>
      rw [if_pos rfl] at hexec
      refine ⟨_, hexec, nofun, beginSearch_state p c false _, ?_,
        regsExcept_trans hcounted (regsExcept_beginSearch true p c false _),
        unchanged_of_covered (m := 970733) (by simp [slotClosed]) rfl⟩
      exact ((beginSearch_rgK (m := 67108864) _ _ _ _ _ (by decide)).mpr (RgK.refl _ _) 0x5020 10 (by decide)).trans
        (satAdd_rg_eq 1 rfl)
    | false =>
      rw [if_neg (by decide)] at hexec
      have hout := outTx_state p c .out (bump 0x5020 10 1 (slotClosed p s))
      have hregs : (outTx p c .out (bump 0x5020 10 1 (slotClosed p s))).regs = (bump 0x5020 10 1 (slotClosed p s)).regs :=
        (show Keeps 16 _ (outTx p c .out (bump 0x5020 10 1 (slotClosed p s))) by simp).regs (by decide)
      refine ⟨_, hexec, fun _ => hout, ?_, (rg_of_regs hregs ..).trans (satAdd_rg_eq 1 rfl),
        regsExcept_trans hcounted (regsExcept_of_regs hregs), unchanged_of_covered (m := 970733) (by simp [slotClosed]) rfl⟩
      rw [hout]
      decide

end

section
/-! Lasers watched and replaced, and the end of commissioning (spec/09_photonics.md, Laser fade and Commissioning). -/

namespace Sys2Proof.Machine

/-! ## Readings -/

/-- The state of a laser that its last readings tell. -/
def fadeState (rs : List Nat) (x : Laser) : Nat :=
  if meanBelow rs 850 then 2 else if meanAbove rs 870 then 1 else x.state

/-- The warning of a laser that fades. -/
def fadeWarned (laser st was : Nat) (s : State) : State :=
  if st = 2 ∧ was = 1 then raise 1 0x0030 (leBytes 1 laser) (bump 0x5020 1 1 s) else s

/-- A laser's last readings, with one more. -/
def readingsOf (reading : Nat) (x : Laser) : List Nat := (reading :: x.readings).take 16

/-- A laser with a reading more. -/
def laserRead (reading : Nat) (x : Laser) : Laser :=
  { x with readings := readingsOf reading x, state := fadeState (readingsOf reading x) x }

/-- A laser's reading taken, and the warning of its fade. -/
def readingTaken (laser reading : Nat) (s : State) : State :=
  fadeWarned laser (laserRead reading (laserOf s laser)).state (laserOf s laser).state
    (withLaser laser (laserRead reading (laserOf s laser)) s)

theorem exec_laserPowerReading {laser reading : Nat} {s : State} (h : laserJudged s laser) :
    exec (.laserPowerReading false laser reading) s = .next (judgePower laser reading
      ((reading :: (laserOf s laser).readings).take 16) (readingTaken laser reading (fresh s))) := by
  obtain ⟨hlaser, hpower, hcommissioned, hreset, hlit, hgate⟩ := h
  change execLaserPowerReading false laser reading s = _
  unfold execLaserPowerReading
  dsimp only
  refine congrArg Host.Outcome.next ((if_neg ?_).trans ((if_neg (by decide)).trans (if_neg ?_)))
  · rw [show (fresh s).pho.commissioning = 2 from hcommissioned, show (fresh s).pwr.inReset = false from hreset]
    obtain hrun | hstill := hpower
    · rw [show (fresh s).pwr.cur = .run from hrun]
      decide
    · rw [show (fresh s).pwr.cur = .still from hstill]
      decide
  · refine not_or.mpr ⟨Nat.not_le.mpr hlaser, not_or.mpr ⟨fun h => hlit.elim h.1 h.2, ?_⟩⟩
    rw [show gated (fresh s) (16 + laser / 32) = false from hgate]
    decide

theorem fadeState_eq {rs : List Nat} {x : Laser} {st : Nat} (hfades : meanBelow rs 850 = true → st = 2)
    (hclears : meanBelow rs 850 = false → meanAbove rs 870 = true → st = 1)
    (hstays : meanBelow rs 850 = false → meanAbove rs 870 = false → st = x.state) : fadeState rs x = st := by
  unfold fadeState
  split
  · next h => exact (hfades h).symm
  · next h =>
    have h := Bool.eq_false_of_not_eq_true h
    split
    · next h' => exact (hclears h h').symm
    · next h' => exact (hstays h (Bool.eq_false_of_not_eq_true h')).symm

theorem laserOf_withLaser (n : Nat) (x : Laser) (s : State) : laserOf (withLaser n x s) n = x := at_set_same ..

theorem laserOf_of_pho {s t : State} (h : t.pho = s.pho) (n : Nat) : laserOf t n = laserOf s n := by
  unfold laserOf
  rw [h]

theorem fadeWarned_leaves (laser st was : Nat) (s : State) :
    (fadeWarned laser st was s).pho = s.pho ∧
    (st = 2 → was = 1 → rg (fadeWarned laser st was s) 0x5020 1 = satAdd (sizeOf_ 0x5020 1) (rg s 0x5020 1) 1) ∧
    ((st = 1 ∨ was = 2) → fadeWarned laser st was s = s) ∧
    regsExcept [(0x5020, 1)] s (fadeWarned laser st was s) ∧ Keeps 983023 s (fadeWarned laser st was s) := by
  unfold fadeWarned
  split
  · next hfade =>
    refine ⟨raise_pho .., fun _ _ => ?_, fun hother => ?_, ?_, by simp⟩
    · exact (rg_raise _ (by decide) (by unfold counted; decide)).trans (satAdd_rg_eq 1 rfl)
    · obtain hone | htwo := hother
      · exact absurd (hone.symm.trans hfade.1) (by decide)
      · exact absurd (hfade.2.symm.trans htwo) (by decide)
    · exact regsExcept_trans (regsExcept_bump 1 s (by decide) (by decide)) (regsExcept_raise 1 0x0030 _ _)
  · next hsteady =>
    exact ⟨rfl, fun h1 h2 => absurd ⟨h1, h2⟩ hsteady, fun _ => rfl, regsExcept_refl _ s, Keeps.refl _ s⟩

theorem readingTaken_leaves (laser reading : Nat) (s : State) :
    (readingTaken laser reading s).pho = (withLaser laser (laserRead reading (laserOf s laser)) s).pho ∧
    ((laserRead reading (laserOf s laser)).state = 2 → (laserOf s laser).state = 1 →
      rg (readingTaken laser reading s) 0x5020 1 = satAdd (sizeOf_ 0x5020 1) (rg s 0x5020 1) 1) ∧
    (((laserRead reading (laserOf s laser)).state = 1 ∨ (laserOf s laser).state = 2) →
      readingTaken laser reading s = withLaser laser (laserRead reading (laserOf s laser)) s) ∧
    regsExcept [(0x5020, 1)] s (readingTaken laser reading s) ∧ Keeps 978925 s (readingTaken laser reading s) := by
  obtain ⟨hpho, hcounts, hquiet, hrg, hkeeps⟩ := fadeWarned_leaves laser (laserRead reading (laserOf s laser)).state
    (laserOf s laser).state (withLaser laser (laserRead reading (laserOf s laser)) s)
  exact ⟨hpho, hcounts, hquiet, regsExcept_trans (regsExcept_of_regs rfl) hrg,
    Keeps.trans (by simp) (hkeeps.mono (by decide))⟩

theorem judgePower_steady {laser reading : Nat} {rs : List Nat} {s : State} (hread : 700 ≤ reading)
    (hmean : meanBelow rs 750 = false) : judgePower laser reading rs s = s := by
  unfold judgePower
  rw [if_neg (Nat.not_lt.mpr hread), hmean]
  rfl

/-- A free spare asked for a laser's group. -/
def spareAsked (laser n : Nat) (s : State) : State :=
  let s := withSpareLaser n { spareLaserOf s n with
    state := 1, colour := laser % 32 / 2, group := laser % 2, readings := [], warned := false } s
  withPho (fun h => { h with switchovers :=
    h.switchovers ++ [⟨laser, n, false, (groupPorts laser).filter (fun p => (assignment s p).isSome)⟩] }) s

theorem judgePower_asks {laser reading n : Nat} {rs : List Nat} {s : State} (hread : 700 ≤ reading)
    (hmean : meanBelow rs 750 = true) (hidle : switching s laser = false) (hfree : freeSpare s (laser / 32) = some n) :
    judgePower laser reading rs s = spareAsked laser n s := by
  unfold judgePower
  rw [if_neg (Nat.not_lt.mpr hread), if_pos hmean]
  unfold needSpare
  dsimp only
  rw [if_neg Bool.false_ne_true, hidle, if_neg Bool.false_ne_true, hfree]
  rfl

theorem spareLaserOf_withSpareLaser (n : Nat) (x : SpareLaser) (s : State) :
    spareLaserOf (withSpareLaser n x s) n = x := at_set_same ..

theorem spareLaserOf_of_spares {s t : State} (h : t.pho.spares = s.pho.spares) (n : Nat) :
    spareLaserOf t n = spareLaserOf s n := by
  unfold spareLaserOf
  rw [h]

theorem spareAsked_leaves (laser n : Nat) (s : State) :
    spareLaserOf (spareAsked laser n s) n = { spareLaserOf s n with
      state := 1, colour := laser % 32 / 2, group := laser % 2, readings := [], warned := false } ∧
    (spareAsked laser n s).pho.switchovers = s.pho.switchovers ++
      [⟨laser, n, false, (groupPorts laser).filter (fun p => (assignment s p).isSome)⟩] ∧
    (spareAsked laser n s).pho.tx = s.pho.tx ∧ (spareAsked laser n s).regs = s.regs ∧
    Keeps 1044479 s (spareAsked laser n s) :=
  ⟨(spareLaserOf_of_spares (s := withSpareLaser n { spareLaserOf s n with
      state := 1, colour := laser % 32 / 2, group := laser % 2, readings := [], warned := false } s) rfl n).trans
    (spareLaserOf_withSpareLaser ..), rfl, rfl, rfl, by simp [spareAsked]⟩

theorem meanBelow_less {rs : List Nat} {x y : Nat} (hxy : x ≤ y) (h : meanBelow rs y = false) : meanBelow rs x = false := by
  unfold meanBelow at h ⊢
  rw [decide_eq_false_iff_not, Nat.not_lt] at h ⊢
  exact (Nat.mul_le_mul_right _ hxy).trans h

/-! ## Spare lasers -/

theorem exec_spareReading {n reading : Nat} {s : State} (hn : n < 16) (hpower : s.pwr.cur = .run ∨ s.pwr.cur = .still)
    (hcommissioned : s.pho.commissioning = 2) (hreset : s.pwr.inReset = false) (hlit : (spareLaserOf s n).state = 2)
    (hgate : gated s (16 + n / 4) = false) (hread : 700 ≤ reading)
    (hmean : meanBelow ((reading :: (spareLaserOf s n).readings).take 16) 850 = false) :
    exec (.laserPowerReading true n reading) s = .next (withSpareLaser n { spareLaserOf s n with
      readings := (reading :: (spareLaserOf s n).readings).take 16
      warned := if meanAbove ((reading :: (spareLaserOf s n).readings).take 16) 870 then false else (spareLaserOf s n).warned }
      (fresh s)) := by
  change execLaserPowerReading true n reading s = _
  unfold execLaserPowerReading
  dsimp only
  refine congrArg Host.Outcome.next ((if_neg ?_).trans ((if_pos rfl).trans ((if_neg ?_).trans ?_)))
  · rw [show (fresh s).pho.commissioning = 2 from hcommissioned, show (fresh s).pwr.inReset = false from hreset]
    obtain hrun | hstill := hpower
    · rw [show (fresh s).pwr.cur = .run from hrun]
      decide
    · rw [show (fresh s).pwr.cur = .still from hstill]
      decide
  · refine not_or.mpr ⟨Nat.not_le.mpr hn, not_or.mpr ⟨not_not_intro hlit, ?_⟩⟩
    rw [show gated (fresh s) (16 + n / 4) = false from hgate]
    decide
  · rw [show meanBelow ((reading :: (spareLaserOf (fresh s) n).readings).take 16) 850 = false from hmean, Bool.false_and,
      if_neg Bool.false_ne_true, if_neg Bool.false_ne_true]
    exact judgePower_steady hread (meanBelow_less (by decide) hmean)

theorem withPho_congr {f g : Photonics → Photonics} {s : State} (h : f s.pho = g s.pho) : withPho f s = withPho g s :=
  congrArg (fun x => { s with pho := x }) h

theorem withPho_switchovers {f : List Switchover → List Switchover} {l : List Switchover} {s : State}
    (h : f s.pho.switchovers = l) : withPho (fun h => { h with switchovers := f h.switchovers }) s =
      withPho (fun h => { h with switchovers := l }) s := withPho_congr (by rw [← h])

theorem exec_spareLaserLocked {engine spare : Nat} {w : Switchover} {s : State} (hengine : engine < 4) (hspare : spare < 4)
    (hstate : (spareLaserOf s (4 * engine + spare)).state = 1) (hw : s.pho.switchovers = [w])
    (hn : w.spare = 4 * engine + spare) (hports : w.ports ≠ []) :
    exec (.spareLaserLocked engine spare) s = .next (withPho (fun h => { h with switchovers := [{ w with locked := true }] })
      (withSpareLaser (4 * engine + spare) { spareLaserOf s (4 * engine + spare) with state := 2 } (fresh s))) := by
  have hdone : [w].filter (fun w => w.spare == 4 * engine + spare && w.ports.isEmpty) = [] :=
    List.filter_eq_nil_iff.mpr fun x hx => by
      rw [List.mem_singleton.mp hx, List.isEmpty_eq_false_iff.mpr hports, Bool.and_false]
      exact Bool.false_ne_true
  have hkept : [w].filter (fun w => ¬(w.spare = 4 * engine + spare ∧ w.ports = [])) = [w] :=
    List.filter_eq_self.mpr fun x hx => by
      rw [List.mem_singleton.mp hx]
      exact decide_eq_true fun h => hports h.2
  change execSpareLaserLocked engine spare s = _
  unfold execSpareLaserLocked
  dsimp only
  refine congrArg Host.Outcome.next ((if_neg (not_or.mpr ⟨Nat.not_le.mpr hengine, not_or.mpr ⟨Nat.not_le.mpr hspare,
    not_not_intro hstate⟩⟩)).trans ?_)
  rw [show (withSpareLaser (4 * engine + spare) { spareLaserOf (fresh s) (4 * engine + spare) with state := 2 }
    (fresh s)).pho.switchovers = [w] from hw, hdone]
  refine withPho_switchovers (f := fun l => (l.filter (fun w => ¬(w.spare = 4 * engine + spare ∧ w.ports = []))).map
    (fun w => if w.spare = 4 * engine + spare then { w with locked := true } else w)) ?_
  rw [show (withSpareLaser (4 * engine + spare) { spareLaserOf (fresh s) (4 * engine + spare) with state := 2 }
    (fresh s)).pho.switchovers = [w] from hw, hkept, List.map_singleton, if_pos hn]

/-! ## Commissioning complete -/

/-- A port's record at the end of its commissioning. -/
def servedPort (s : State) (p : Nat) : Port :=
  if (portOf s p).state = 1 then { portOf s p with state := if hasDropped s p then 3 else 2 } else portOf s p

/-- A port in service, or degraded, at the end of its commissioning. -/
def servePort (s : State) (p : Nat) : State :=
  if (portOf s p).state = 1 then withPort p { portOf s p with state := if hasDropped s p then 3 else 2 } s else s

/-- What is apart from the ports of the photonics. -/
structure LanesKept (s t : State) : Prop where
  tx : t.pho.tx = s.pho.tx
  rx : t.pho.rx = s.pho.rx
  rings : t.pho.rings = s.pho.rings
  lasers : t.pho.lasers = s.pho.lasers
  spares : t.pho.spares = s.pho.spares
  commissioning : t.pho.commissioning = s.pho.commissioning
  rest : Keeps 1044479 s t

theorem LanesKept.refl (s : State) : LanesKept s s := ⟨rfl, rfl, rfl, rfl, rfl, rfl, Keeps.refl _ s⟩

theorem LanesKept.trans {s t u : State} (h : LanesKept s t) (k : LanesKept t u) : LanesKept s u :=
  ⟨k.tx.trans h.tx, k.rx.trans h.rx, k.rings.trans h.rings, k.lasers.trans h.lasers, k.spares.trans h.spares,
    k.commissioning.trans h.commissioning, h.rest.trans k.rest⟩

theorem lanesKept_servePort (s : State) (p : Nat) : LanesKept s (servePort s p) := by
  unfold servePort
  split
  · exact ⟨rfl, rfl, rfl, rfl, rfl, rfl, by simp⟩
  · exact .refl s

theorem portOf_servePort_same (s : State) (p : Nat) : portOf (servePort s p) p = servedPort s p := by
  unfold servePort servedPort
  split
  · exact portOf_withPort_same ..
  · rfl

theorem portOf_servePort_other {s : State} {p q : Nat} (h : q ≠ p) : portOf (servePort s p) q = portOf s q := by
  unfold servePort
  split
  · exact portOf_withPort_other _ _ h
  · rfl

theorem servedPort_servePort {s : State} {p q : Nat} (h : q ≠ p) : servedPort (servePort s p) q = servedPort s q := by
  have hkept := lanesKept_servePort s p
  have hdropped : hasDropped (servePort s p) q = hasDropped s q := by
    unfold hasDropped
    simp only [txOf_of_tx hkept.tx, rxOf_of_rx hkept.rx]
  unfold servedPort
  rw [portOf_servePort_other h, hdropped]

theorem servePorts_leaves {l : List Nat} (s : State) (hl : l.Nodup) :
    LanesKept s (l.foldl servePort s) ∧ (∀ p ∈ l, portOf (l.foldl servePort s) p = servedPort s p) ∧
      ∀ p, p ∉ l → portOf (l.foldl servePort s) p = portOf s p := by
  induction l generalizing s with
  | nil => exact ⟨.refl s, fun p hp => absurd hp List.not_mem_nil, fun _ _ => rfl⟩
  | cons k l ih =>
    obtain ⟨hk, hl⟩ := List.nodup_cons.mp hl
    obtain ⟨hkept, hin, hout⟩ := ih (servePort s k) hl
    refine ⟨(lanesKept_servePort s k).trans hkept, fun p hp => ?_, fun p hp => ?_⟩
    · obtain rfl | hp := List.mem_cons.mp hp
      · exact (hout p hk).trans (portOf_servePort_same s p)
      · have hne : p ≠ k := fun h => hk (h ▸ hp)
        exact (hin p hp).trans (servedPort_servePort hne)
    · have hne : p ≠ k := fun h => hp (h ▸ List.mem_cons_self)
      exact (hout p fun h => hp (List.mem_cons_of_mem _ h)).trans (portOf_servePort_other hne)

/-- A step of a fold over numbered values that leaves the entries of every other number. -/
theorem at_foldl_skipped {α β : Type} {d : β} {f : List (Nat × β) → α × Nat → List (Nat × β)}
    (hother : ∀ m x k, k ≠ x.2 → at_ d k (f m x) = at_ d k m) {l : List (α × Nat)} {k : Nat}
    (hk : k ∉ l.map (fun x => x.2)) (m : List (Nat × β)) : at_ d k (l.foldl f m) = at_ d k m := by
  induction l generalizing m with
  | nil => rfl
  | cons y l ih =>
    exact (ih (fun h => hk (List.mem_cons_of_mem _ h)) _).trans (hother m y k fun h => hk (h ▸ List.mem_cons_self))

/-- A step of a fold over numbered values that changes the entry of its number alone. -/
theorem at_foldl_numbered {α β : Type} {d : β} {f : List (Nat × β) → α × Nat → List (Nat × β)} {g : α → β → β}
    (hsame : ∀ m x, at_ d x.2 (f m x) = g x.1 (at_ d x.2 m)) (hother : ∀ m x k, k ≠ x.2 → at_ d k (f m x) = at_ d k m)
    {l : List (α × Nat)} (hl : (l.map (fun x => x.2)).Nodup) {x : α × Nat} (hx : x ∈ l) (m : List (Nat × β)) :
    at_ d x.2 (l.foldl f m) = g x.1 (at_ d x.2 m) := by
  induction l generalizing m with
  | nil => exact absurd hx List.not_mem_nil
  | cons y l ih =>
    obtain ⟨hy, hl⟩ := List.nodup_cons.mp hl
    obtain rfl | hx := List.mem_cons.mp hx
    · exact (at_foldl_skipped hother hy _).trans (hsame m x)
    · have hne : x.2 ≠ y.2 := fun h => hy (List.mem_map.mpr ⟨x, hx, h⟩)
      exact (ih hl hx _).trans (congrArg (g x.1) (hother m y _ hne))

/-- The entry of a number of a list, after such a fold over the whole list. -/
theorem at_foldl_zipIdx {α β : Type} {d : β} {f : List (Nat × β) → α × Nat → List (Nat × β)} {g : α → β → β}
    (hsame : ∀ m x, at_ d x.2 (f m x) = g x.1 (at_ d x.2 m)) (hother : ∀ m x k, k ≠ x.2 → at_ d k (f m x) = at_ d k m)
    {l : List α} {c n : Nat} (hc : l.length = c) (hn : n < l.length) (m : List (Nat × β)) :
    at_ d n ((l.zipIdx.take c).foldl f m) = g l[n] (at_ d n m) := by
  rw [List.take_of_length_le (by rw [List.length_zipIdx, hc])]
  have hnodup : (l.zipIdx.map (fun x => x.2)).Nodup := by
    rw [show l.zipIdx.map (fun x => x.2) = List.range' 0 l.length from List.zipIdx_map_snd 0 l]
    exact List.nodup_range'
  have hmem : (l[n], n) ∈ l.zipIdx := List.mk_mem_zipIdx_iff_getElem?.mpr (List.getElem?_eq_getElem hn)
  exact at_foldl_numbered hsame hother hnodup hmem m

/-- The commissioned power of a laser that serves. -/
def poweredLaser (power : Nat) (x : Laser) : Laser :=
  if x.state = 3 ∨ x.state = 4 then x else { x with commissioned := power % 65536 }

/-- The tuning settings of a free spare laser. -/
def tunedSpare (tuning : List Nat) (x : SpareLaser) : SpareLaser :=
  if x.state = 0 then { x with tuning := tuning.take 16 } else x

/-- The commissioned power of one laser recorded. -/
def powerLaser (m : List (Nat × Laser)) (x : Nat × Nat) : List (Nat × Laser) :=
  if (at_ {} x.2 m).state = 3 ∨ (at_ {} x.2 m).state = 4 then m
  else set_ {} x.2 { at_ {} x.2 m with commissioned := x.1 % 65536 } m

/-- The tuning settings of one spare laser recorded. -/
def tuneSpare (m : List (Nat × SpareLaser)) (x : List Nat × Nat) : List (Nat × SpareLaser) :=
  if (at_ {} x.2 m).state = 0 then set_ {} x.2 { at_ {} x.2 m with tuning := x.1.take 16 } m else m

theorem at_powerLaser_same (m : List (Nat × Laser)) (x : Nat × Nat) :
    at_ {} x.2 (powerLaser m x) = poweredLaser x.1 (at_ {} x.2 m) := by
  unfold powerLaser poweredLaser
  split
  · rfl
  · exact at_set_same ..

theorem at_powerLaser_other (m : List (Nat × Laser)) (x : Nat × Nat) (k : Nat) (h : k ≠ x.2) :
    at_ {} k (powerLaser m x) = at_ {} k m := by
  unfold powerLaser
  split
  · rfl
  · exact at_set_other _ _ _ _ _ h

theorem at_tuneSpare_same (m : List (Nat × SpareLaser)) (x : List Nat × Nat) :
    at_ {} x.2 (tuneSpare m x) = tunedSpare x.1 (at_ {} x.2 m) := by
  unfold tuneSpare tunedSpare
  split
  · exact at_set_same ..
  · rfl

theorem at_tuneSpare_other (m : List (Nat × SpareLaser)) (x : List Nat × Nat) (k : Nat) (h : k ≠ x.2) :
    at_ {} k (tuneSpare m x) = at_ {} k m := by
  unfold tuneSpare
  split
  · exact at_set_other _ _ _ _ _ h
  · rfl

/-- The settings recorded at the end of commissioning. -/
def settingsRecorded (found : List Nat × List (List Nat)) (s : State) : State :=
  withPho (fun h => { h with
    commissioning := 2
    spares := (found.2.zipIdx.take 16).foldl tuneSpare h.spares
    lasers := (found.1.zipIdx.take 128).foldl powerLaser h.lasers }) s

theorem servePort_eq : (fun s p => if (portOf s p).state = 1 then
    withPort p { portOf s p with state := if hasDropped s p = true then 3 else 2 } s else s) = servePort := rfl

theorem powerLaser_eq : (fun (m : List (Nat × Laser)) (x : Nat × Nat) =>
    if (at_ {} x.2 m).state = 3 ∨ (at_ {} x.2 m).state = 4 then m
    else set_ {} x.2 { at_ {} x.2 m with commissioned := x.1 % 65536 } m) = powerLaser := rfl

theorem tuneSpare_eq : (fun (m : List (Nat × SpareLaser)) (x : List Nat × Nat) =>
    if (at_ {} x.2 m).state = 0 then set_ {} x.2 { at_ {} x.2 m with tuning := x.1.take 16 } m else m) = tuneSpare := rfl

theorem exec_opticalCommissioningComplete (found : List Nat × List (List Nat)) {s : State}
    (hreset : s.pwr.inReset = false) (hunder : s.pho.commissioning = 1) (hanchors : ∀ p, p < 32 → anchorSought s p = false) :
    exec (.opticalCommissioningComplete found) s = .next (settingsRecorded found
      (withPho (fun h => { h with refined := h.refined + 1 }) ((List.range 32).foldl servePort (fresh s)))) := by
  have hfound : (List.range 32).any (anchorSought (fresh s)) = false :=
    List.any_eq_false.mpr fun p hp h => absurd ((hanchors p (List.mem_range.mp hp)).symm.trans h) (by decide)
  have hports := (servePorts_leaves (fresh s) (List.nodup_range (n := 32))).1
  change execOpticalCommissioningComplete found s = _
  unfold execOpticalCommissioningComplete
  dsimp only
  rw [servePort_eq, powerLaser_eq, tuneSpare_eq]
  refine congrArg Host.Outcome.next ((if_neg ?_).trans ?_)
  · rw [show (fresh s).pwr.inReset = false from hreset, show (fresh s).pho.commissioning = 1 from hunder, hfound]
    exact not_or.mpr ⟨Bool.false_ne_true, not_or.mpr ⟨fun h => h.1 rfl, Bool.false_ne_true⟩⟩
  · generalize (List.range 32).foldl servePort (fresh s) = t at hports ⊢
    exact if_neg (not_not_intro (hports.commissioning.trans hunder))

/-! ## Wavelengths -/

/-- A laser's wavelength noted, far from its colour or near. -/
def wavelengthNoted (laser : Nat) (far : Bool) (l : List Nat) : List Nat := if far then addNum laser l else dropNum laser l

theorem mem_wavelengthNoted_same (laser : Nat) (far : Bool) (l : List Nat) :
    laser ∈ wavelengthNoted laser far l ↔ far = true := by
  cases far with
  | false => simp [wavelengthNoted, dropNum]
  | true => simp [wavelengthNoted, mem_addNum_iff]

theorem mem_wavelengthNoted_other {laser k : Nat} (h : k ≠ laser) (far : Bool) (l : List Nat) :
    k ∈ wavelengthNoted laser far l ↔ k ∈ l := by
  cases far with
  | false => simp [wavelengthNoted, dropNum, h]
  | true => simp [wavelengthNoted, mem_addNum_iff, h]

theorem exec_wavelengthCheck {laser : Nat} (off : Int) {s : State} (hlaser : laser < 144) (hlit : s.pho.commissioning ≠ 0)
    (hreset : s.pwr.inReset = false) (hdoze : s.pwr.cur ≠ .doze) (hstow : s.pwr.cur ≠ .stow) :
    exec (.wavelengthCheck laser off) s = .next (withPho (fun h => { h with
      freqBad := wavelengthNoted laser (5000 < off.natAbs) h.freqBad }) (fresh s)) := by
  change execWavelengthCheck laser off s = _
  unfold execWavelengthCheck
  dsimp only
  refine congrArg Host.Outcome.next ((if_neg ?_).trans (withPho_congr ?_))
  · rw [show (fresh s).pwr.inReset = false from hreset]
    exact not_or.mpr ⟨Nat.not_le.mpr hlaser, not_or.mpr ⟨hlit, not_or.mpr ⟨Bool.false_ne_true,
      not_or.mpr ⟨hdoze, hstow⟩⟩⟩⟩
  · simp [wavelengthNoted]

end Sys2Proof.Machine

open Sys2Proof Sys2Proof.Machine

/-- Settles O38: each command's effect is one equation of its own; the fold over the 32 ports leaves each port as its own
step does, and the settings are those of the numbered fold. -/
theorem lasersAndPortsAreLit : Obligations.LasersAndPortsAreLit := by
  unfold Obligations.LasersAndPortsAreLit
  refine ⟨fun laser reading st rs s hjudged hrs hread hmean hfades hclears hstays => ?_,
    fun laser reading n s hjudged hread hmean hidle hfree => ?_,
    fun n reading rs s hn hpower hcommissioned hreset hlit hgate hrs hread hmean => ?_,
    fun engine spare w s hengine hspare hstate hw hn hports => ?_,
    fun laser off s hlaser hlit hreset hdoze hstow => ?_,
    fun powers tunings s hreset hunder hanchors hpowers htunings => ?_⟩
  · subst hrs
    have hst : (laserRead reading (laserOf s laser)).state = st := fadeState_eq hfades hclears hstays
    obtain ⟨hpho, hcounts, hquiet, hrg, hkeeps⟩ := readingTaken_leaves laser reading (fresh s)
    refine ⟨_, (exec_laserPowerReading hjudged).trans (congrArg Host.Outcome.next (judgePower_steady hread hmean)), ?_,
      fun h1 h2 => hcounts (hst.trans h1) h2, fun h => ?_, ?_, ?_, hrg, unchanged_of_covered (m := 978925) (Keeps.trans (by simp) hkeeps) rfl⟩
    · rw [laserOf_of_pho hpho, laserOf_withLaser, ← hst]
      rfl
    · rw [hquiet (h.imp_left hst.trans)]
      exact ⟨rfl, rfl⟩
    · rw [hpho]
      rfl
    · rw [hpho]
      rfl
  · obtain ⟨hpho, hcounts, hquiet, hrg, hkeeps⟩ := readingTaken_leaves laser reading (fresh s)
    have hidle' : switching (readingTaken laser reading (fresh s)) laser = false := by
      unfold switching
      rw [hpho]
      exact hidle
    have hfree' : freeSpare (readingTaken laser reading (fresh s)) (laser / 32) = some n := by
      unfold freeSpare spareLaserOf
      rw [hpho]
      exact hfree
    have hassign : assignment (readingTaken laser reading (fresh s)) = assignment s := funext fun p => by
      unfold assignment
      by_cases hp : p < 32
      · rw [hrg 0x6001 (p + 1) (by omega) (by simp) (by decide) (by decide) (by decide)]
        rfl
      · simp only [hp, false_and, if_false]
    refine ⟨_, (exec_laserPowerReading hjudged).trans (congrArg Host.Outcome.next
      (judgePower_asks hread hmean hidle' hfree')), ?_⟩
    obtain ⟨hspare, hsw, htx, hrgs, hrest⟩ := spareAsked_leaves laser n (readingTaken laser reading (fresh s))
    refine ⟨congrArg SpareLaser.state hspare, congrArg SpareLaser.colour hspare, ?_, ?_, ?_, ?_⟩
    · rw [hsw, hpho, hassign]
      rfl
    · rw [htx, hpho]
      rfl
    · exact regsExcept_trans hrg (regsExcept_of_regs hrgs)
    · exact unchanged_of_covered (m := 978925) ((Keeps.trans (by simp) hkeeps).trans (hrest.mono (by decide))) rfl
  · subst hrs
    refine ⟨_, exec_spareReading hn hpower hcommissioned hreset hlit hgate hread hmean, ?_, ?_, fun habove => ?_, rfl, ?_⟩
    · rw [spareLaserOf_withSpareLaser]
    · rw [spareLaserOf_withSpareLaser]
      exact hlit
    · rw [spareLaserOf_withSpareLaser]
      exact if_pos habove
    · exact unchanged_of_covered (m := 1044477) (by simp) rfl
  · refine ⟨_, exec_spareLaserLocked hengine hspare hstate hw hn hports, ?_, rfl, rfl, ?_⟩
    · exact congrArg SpareLaser.state ((spareLaserOf_of_spares (s := withSpareLaser (4 * engine + spare)
        { spareLaserOf s (4 * engine + spare) with state := 2 } (fresh s)) rfl _).trans (spareLaserOf_withSpareLaser ..))
    · exact unchanged_of_covered (m := 1044477) (by simp) rfl
  · refine ⟨_, exec_wavelengthCheck off hlaser hlit hreset hdoze hstow, ?_, fun k hk => ?_, rfl, rfl, ?_⟩
    · exact (mem_wavelengthNoted_same ..).trans decide_eq_true_iff
    · exact mem_wavelengthNoted_other hk ..
    · exact unchanged_of_covered (m := 1044477) (by simp) rfl
  · obtain ⟨hkept, hin, hout⟩ := servePorts_leaves (fresh s) (List.nodup_range (n := 32))
    refine ⟨_, exec_opticalCommissioningComplete (powers, tunings) hreset hunder hanchors, rfl, ?_⟩
    generalize (List.range 32).foldl servePort (fresh s) = t at hkept hin hout ⊢
    have hserved : ∀ p, p < 32 → portOf t p = servedPort s p := fun p hp => hin p (List.mem_range.mpr hp)
    refine ⟨fun p hp hstate hwhole => ?_, fun p hp hstate hdropped => ?_, fun p hp hstate => ?_, fun n hn h3 h4 => ?_,
      fun n hn hfree => ?_, hkept.tx, hkept.rx, hkept.rings, ?_⟩
    · refine (hserved p hp).trans ((if_pos hstate).trans ?_)
      rw [hwhole]
      rfl
    · refine (hserved p hp).trans ((if_pos hstate).trans ?_)
      rw [hdropped]
      rfl
    · exact (hserved p hp).trans (if_neg hstate)
    · refine (at_foldl_zipIdx at_powerLaser_same at_powerLaser_other hpowers hn t.pho.lasers).trans ?_
      rw [hkept.lasers]
      exact if_neg (not_or.mpr ⟨h3, h4⟩)
    · refine (at_foldl_zipIdx at_tuneSpare_same at_tuneSpare_other htunings hn t.pho.spares).trans ?_
      rw [hkept.spares]
      exact if_pos hfree
    · have hrest : Keeps 1044477 s t := Keeps.trans (t := fresh s) (by simp) (hkept.rest.mono (by decide))
      exact unchanged_of_covered (m := 1044477) (hrest.trans (by simp [settingsRecorded])) rfl

end

section
/-! Held copies kept and answered, and share stripes repaired (spec/12_resilience.md, Remote state parcels and Memory
errors). -/

namespace Sys2Proof.Machine

/-! ## Remote writes -/

theorem exec_remoteWrite {m : RemoteMsg} {s : State} (hworks : holderWorks s = true) (hsub : m.subtype ≤ 3) :
    exec (.remoteWrite m) s = .next (storeRemote m (fresh s)) := by
  change execRemoteWrite m s = _
  unfold execRemoteWrite
  dsimp only
  rw [show holderWorks (fresh s) = true from hworks, decide_eq_true hsub]
  rfl

theorem storeRemote_bad {m : RemoteMsg} (s : State) (htag : m.tagGood = false) : storeRemote m s = spoilCopy m s :=
  if_pos (by rw [htag]; rfl)

theorem spoilCopy_leaves (m : RemoteMsg) (s : State) :
    (spoilCopy m s).res = { s.res with held := spoiled m s } ∧
    rg (spoilCopy m s) 0x8030 4 =
      satAdd (sizeOf_ 0x8030 4) (rg s 0x8030 4) (s.res.held.filter (fun c => isNamed m c && c.complete)).length ∧
    regsExcept [(0x8030, 4)] s (spoilCopy m s) ∧ Keeps 1015791 s (spoilCopy m s) := by
  refine ⟨rfl, satAdd_rg_eq _ rfl, ?_, by simp [spoilCopy]⟩
  exact regsExcept_trans (regsExcept_of_regs (t := withHeld (spoiled m s) s) rfl) (regsExcept_bump _ _ (by decide) (by decide))

/-- The copy that a whole item of one block makes. -/
def copyOfBlock (m : RemoteMsg) : HeldCopy :=
  ⟨m.subtype == 3, (if m.subtype = 3 then 0 else m.subtype), m.ownerRank, m.entry, m.stripe, m.generation,
    [(m.block, m.data)], true, m.poisoned⟩

theorem storeRemote_whole {m : RemoteMsg} {sc : Score} {s : State} (hgood : m.tagGood = true) (hsc : s.ex.score = some sc)
    (htag : tagMatches s m.scoreTag = true) (hwhole : ∀ c ∈ s.res.held, isNamed m c = true → c.complete = true)
    (hlen : namedLength sc s m ≤ 4096) :
    storeRemote m s = withHeld (keepCopy (copyOfBlock m) s.res.held) s := by
  have hnone : s.res.held.find? (fun c => isNamed m c && !c.complete) = none := List.find?_eq_none.mpr fun c hc h => by
    obtain ⟨hnamed, hpart⟩ := Bool.and_eq_true_iff.mp h
    rw [hwhole c hc hnamed] at hpart
    exact absurd hpart (by decide)
  have hone : ceilDiv (namedLength sc s m) 4096 ≤ 1 := by
    unfold ceilDiv
    omega
  unfold storeRemote onScore
  rw [hgood, htag, hsc, if_neg (by decide), if_neg (by decide)]
  dsimp only
  rw [hnone]
  exact if_pos hone

/-! ## Read requests -/

theorem exec_remoteReadRequest {m : RemoteMsg} {s : State} (hworks : holderWorks s = true) (hgood : m.tagGood = true) :
    exec (.remoteReadRequest m) s = .next (answerRequest m (fresh s)) := by
  change execRemoteReadRequest m s = _
  unfold execRemoteReadRequest
  dsimp only
  rw [show holderWorks (fresh s) = true from hworks, hgood]
  rfl

/-- The blocks of a copy sent. -/
def respondBlocks (m : RemoteMsg) (bs : List (Nat × Bytes)) (s : State) : State :=
  bs.foldl (fun s b => respondRemote m b.1 0 b.2 s) s

theorem answerRequest_complete {m : RemoteMsg} {c : HeldCopy} {s : State} (hsub : m.subtype ≤ 3)
    (htag : tagMatches s m.scoreTag = true) (hc : s.res.held.find? (isNamed m) = some c) (hclean : c.poisoned = false)
    (hcomplete : c.complete = true) :
    answerRequest m s = bump 0x8030 3 1 (respondBlocks m c.blocks s) := by
  have hne : m.subtype ≠ 4 := by omega
  unfold answerRequest
  rw [htag, if_neg (by decide), if_neg hne, hc]
  dsimp only
  rw [hclean, hcomplete]
  rfl

theorem answerRequest_poisoned {m : RemoteMsg} {c : HeldCopy} {s : State} (hsub : m.subtype ≤ 3)
    (htag : tagMatches s m.scoreTag = true) (hc : s.res.held.find? (isNamed m) = some c) (hpoisoned : c.poisoned = true) :
    answerRequest m s = respondRemote m 0 2 [] (spoilCopy m s) := by
  have hne : m.subtype ≠ 4 := by omega
  unfold answerRequest
  rw [htag, if_neg (by decide), if_neg hne, hc]
  dsimp only
  rw [hpoisoned]
  rfl

theorem respondBlocks_keeps (m : RemoteMsg) (bs : List (Nat × Bytes)) (s : State) :
    Keeps 1040367 s (respondBlocks m bs s) := by
  refine keeps_foldl _ (fun u b => ?_) bs s s (Keeps.refl _ s)
  simp

theorem respondBlocks_rgK (m : RemoteMsg) (bs : List (Nat × Bytes)) (s : State) :
    RgK 35184372088832 s (respondBlocks m bs s) := by
  refine rgK_foldl _ (fun u b => ?_) bs s s (RgK.refl _ s)
  simp

/-! ## Read responses -/

theorem exec_remoteReadResponse {m : RemoteMsg} {sc : Score} {s : State} (hworks : holderWorks s = true)
    (hsc : s.ex.score = some sc) (hsub : m.subtype ≠ 4) :
    exec (.remoteReadResponse m) s = .next (takePulled m sc (fresh s)) := by
  change execRemoteReadResponse m s = _
  unfold execRemoteReadResponse takeResponse onScore
  dsimp only
  rw [show holderWorks (fresh s) = true from hworks, show (fresh s).ex.score = some sc from hsc, if_neg hsub]
  rfl

theorem takePulled_unasked {m : RemoteMsg} {sc : Score} {s : State}
    (hnone : (s.res.pulls ++ s.res.repairs).find? (answersPull sc s m) = none) : takePulled m sc s = s := by
  unfold takePulled
  rw [hnone]

/-- The pulls and repairs with one of them replaced. -/
def pullReplaced (p p' : Pull) (s : State) : State :=
  { s with res := { s.res with
    pulls := s.res.pulls.map (fun x => if x = p then p' else x)
    repairs := s.res.repairs.map (fun x => if x = p then p' else x) } }

theorem takePulled_repaired {m : RemoteMsg} {sc : Score} {p : Pull} {s : State} (hsub : m.subtype = 3)
    (hp : (s.res.pulls ++ s.res.repairs).find? (answersPull sc s m) = some p) (hstatus : responseStatus s m = 0)
    (harrived : (takeBlock sc s m p).arrived = true) :
    takePulled m sc s = finishRepair sc (takeBlock sc s m p) (pullReplaced p (takeBlock sc s m p) s) := by
  have hanswers := List.find?_some hp
  unfold answersPull at hanswers
  simp only [Bool.and_eq_true, beq_iff_eq] at hanswers
  obtain ⟨⟨⟨⟨_, hkind⟩, _⟩, _⟩, _⟩ := hanswers
  unfold takePulled
  rw [hp]
  dsimp only
  rw [if_neg (not_not_intro hstatus), if_pos (hkind.trans hsub), if_pos harrived]
  rfl

theorem pullReplaced_canon (p p' : Pull) {s : State} (h : Canon s) : Canon (pullReplaced p p' s) :=
  ⟨h.regs, h.cells, h.msc, h.wc, h.waits⟩

theorem pullReplaced_keeps (p p' : Pull) (s : State) : Keeps 1015807 s (pullReplaced p p' s) := by simp [pullReplaced]

theorem pullPlace_pullReplaced (sc : Score) (m : RemoteMsg) (p : Pull) (s : State) :
    pullPlace sc (pullReplaced p (takeBlock sc s m p) s) (takeBlock sc s m p) = pullPlace sc s p := rfl

/-- A repair that is under way no more. -/
def repairDropped (p : Pull) (s : State) : State :=
  { s with res := { s.res with repairs := s.res.repairs.filter (fun x => x ≠ p) } }

theorem repairDropped_canon (p : Pull) {s : State} (h : Canon s) : Canon (repairDropped p s) :=
  ⟨h.regs, h.cells, h.msc, h.wc, h.waits⟩

theorem finishRepair_eq (sc : Score) (p : Pull) (s : State) : finishRepair sc p s =
    bump 0x8030 5 1 (storeBytes (stateUnit s) (pullPlace sc s p).1 (pullBytes p) (repairDropped p s)) := rfl

theorem finishRepair_leaves (sc : Score) (p : Pull) {s : State} (hc : Canon s) :
    (∀ x, byteAt (finishRepair sc p s) x = if (pullPlace sc s p).1 ≤ x ∧ x < (pullPlace sc s p).1 + (pullBytes p).length then
      (pullBytes p).getD (x - (pullPlace sc s p).1) 0 else byteAt s x) ∧
    p ∉ (finishRepair sc p s).res.repairs ∧
    rg (finishRepair sc p s) 0x8030 5 = satAdd (sizeOf_ 0x8030 5) (rg s 0x8030 5) 1 ∧
    regsExcept ((0x8030, 5) :: (List.range 256).map (fun j => (0x4021, j))) s (finishRepair sc p s) ∧
    Keeps 1015273 s (finishRepair sc p s) := by
  rw [finishRepair_eq]
  generalize stateUnit s = u, (pullPlace sc s p).1 = a, pullBytes p = d
  have hkept : RgK 18446744056527585279 s (storeBytes u a d (repairDropped p s)) :=
    (storeBytes_rgK u a d _ (by decide)).mpr (rgK_of_regs rfl)
  refine ⟨fun x => byteAt_storeBytes u a x d (repairDropped p s) (repairDropped_canon p hc), ?_,
    satAdd_rg_eq 1 (hkept 0x8030 5 (by decide)), fun i j hj hi haudit hlost hsent => ?_, by simp [repairDropped]⟩
  · rw [show (bump 0x8030 5 1 (storeBytes u a d (repairDropped p s))).res = (storeBytes u a d (repairDropped p s)).res from rfl,
      ((storeBytes_keeps (m := 1048041) u a d (repairDropped p s) (by decide)).mpr (Keeps.refl _ _)).res (by decide)]
    exact fun hmem => absurd rfl (of_decide_eq_true (List.mem_filter.mp hmem).2)
  · have hcharged : i ≠ 0x4021 := fun h => hi (List.mem_cons_of_mem _
      (List.mem_map.mpr ⟨j, List.mem_range.mpr hj, by rw [h]⟩))
    have hstored : rg (storeBytes u a d (repairDropped p s)) i j = rg s i j :=
      objects_of_covered (l := [0x4021, 0x6C01]) hkept rfl j (by simp [hcharged, hsent])
    have hbumped : regsExcept [(0x8030, 5)] (storeBytes u a d (repairDropped p s))
        (bump 0x8030 5 1 (storeBytes u a d (repairDropped p s))) := regsExcept_bump _ _ (by decide) (by decide)
    exact (hbumped i j hj (fun h => hi (List.mem_cons.mpr (Or.inl (List.mem_singleton.mp h)))) haudit hlost hsent).trans hstored

end Sys2Proof.Machine

open Sys2Proof Sys2Proof.Machine

/-- Settles O42: each kind of message has its equation; a repair is one store of the stripe's bytes. -/
theorem holdersKeepCopiesAndRepair : Obligations.HoldersKeepCopiesAndRepair := by
  unfold Obligations.HoldersKeepCopiesAndRepair
  refine ⟨fun m s hworks hsub hbad => ?_, fun m sc s hworks hsub hgood hsc htag hwhole hlen => ?_,
    fun m c s hworks hsub hgood htag hc hclean hcomplete => ?_, fun m c s hworks hsub hgood htag hc hpoisoned => ?_,
    fun m sc p s hcanon hworks hsub hsc hp hstatus harrived => ?_, fun m sc s hworks hsub hsc hnone => ?_⟩
  · obtain ⟨hres, hcount, hregs, hkeeps⟩ := spoilCopy_leaves m (fresh s)
    exact ⟨_, (exec_remoteWrite hworks hsub).trans (congrArg Host.Outcome.next (storeRemote_bad (fresh s) hbad)), hres, hcount,
      hregs, unchanged_of_covered (m := 1015789) (Keeps.trans (t := fresh s) (by simp) (hkeeps.mono (by decide))) rfl⟩
  · exact (exec_remoteWrite hworks hsub).trans
      (congrArg Host.Outcome.next (storeRemote_whole (s := fresh s) hgood hsc htag hwhole hlen))
  · refine ⟨_, (exec_remoteReadRequest hworks hgood).trans
      (congrArg Host.Outcome.next (answerRequest_complete (s := fresh s) hsub htag hc hclean hcomplete)), ?_, ?_, ?_⟩
    · exact (respondBlocks_keeps m c.blocks (fresh s)).res (by decide)
    · exact satAdd_rg_eq 1 (respondBlocks_rgK m c.blocks (fresh s) 0x8030 3 (by decide))
    · exact unchanged_of_covered (m := 1040365) (Keeps.trans (t := fresh s) (by simp)
        ((respondBlocks_keeps m c.blocks (fresh s)).mono (by decide) |>.trans (by simp))) rfl
  · obtain ⟨hres, _, _, hkeeps⟩ := spoilCopy_leaves m (fresh s)
    have hresponded : Keeps 1040367 (spoilCopy m (fresh s)) (respondRemote m 0 2 [] (spoilCopy m (fresh s))) := by simp
    refine ⟨_, (exec_remoteReadRequest hworks hgood).trans
      (congrArg Host.Outcome.next (answerRequest_poisoned (s := fresh s) hsub htag hc hpoisoned)), ?_, ?_⟩
    · exact (hresponded.res (by decide)).trans hres
    · exact unchanged_of_covered (m := 1007597) (Keeps.trans (t := fresh s) (by simp)
        ((hkeeps.mono (by decide)).trans (hresponded.mono (by decide)))) rfl
  · have hne : m.subtype ≠ 4 := by omega
    refine ⟨_, (exec_remoteReadResponse hworks hsc hne).trans (congrArg Host.Outcome.next
      (takePulled_repaired (s := fresh s) hsub hp hstatus harrived)), ?_⟩
    have hc : Canon (pullReplaced p (takeBlock sc s m p) (fresh s)) :=
      pullReplaced_canon p _ (fresh_canon s ((canon_iff s).mpr hcanon))
    obtain ⟨hbytes, hgone, hcount, hregs, hkeeps⟩ := finishRepair_leaves sc (takeBlock sc s m p) hc
    rw [show pullPlace sc (pullReplaced p (takeBlock sc s m p) (fresh s)) (takeBlock sc s m p) = pullPlace sc s p from
      pullPlace_pullReplaced sc m p (fresh s)] at hbytes
    refine ⟨fun x hlow hhigh => (hbytes x).trans (if_pos ⟨hlow, hhigh⟩), fun x hout => (hbytes x).trans ((if_neg ?_).trans rfl),
      hgone, hcount, hregs, ?_⟩
    · omega
    · exact unchanged_of_covered (m := 1015273) ((Keeps.trans (t := fresh s) (by simp)
        ((pullReplaced_keeps p _ (fresh s)).mono (by decide))).trans hkeeps) rfl
  · have hne : m.subtype ≠ 4 := by omega
    exact (exec_remoteReadResponse hworks hsc hne).trans
      (congrArg Host.Outcome.next (takePulled_unasked (s := fresh s) hnone))

end

section
/-! Abandon and restore (spec/12_resilience.md, Recovery). -/

namespace Sys2Proof.Machine

/-! ## The start of an abandon -/

theorem acceptWrite_later {q : Req} {idx sub : Nat} {v : Bytes} {x : Rule} (s : State) (hl : x.later = true) :
    acceptWrite q idx sub v x s = x.apply (beginReq q (forwardAccess true idx sub s)) := by
  unfold acceptWrite
  dsimp only
  exact if_pos hl

theorem exec_abandon {q : Req} {s : State} (h : Ready q .tenant s) (w : Writable .tenant 0x8003 1 (leBytes 1 1) s)
    (hdev : s.dev = .running ∨ s.dev = .held) :
    exec (.abandon q) s = .next (startAbandon (addPend .abandon q (beginReq q (actsOn q 0x8003 1 (leBytes 1 1) s)))) := by
  have hcodes : ∀ c ∈ (abandonRule q (heardAs q (writeCommand (leBytes 1 1)) 0x8003 1 s)).codes, c = 0 := fun c hc => by
    have hdev' : (heardAs q (writeCommand (leBytes 1 1)) 0x8003 1 s).dev = s.dev := (heardAs_same ..).2.2.1
    rw [List.mem_singleton.mp hc, hdev']
    obtain hrun | hheld := hdev
    · rw [hrun]
      rfl
    · rw [hheld]
      rfl
  exact congrArg Host.Outcome.next ((writeReq_accepted h w hcodes).trans (acceptWrite_later _ rfl))

/-- An abandon's first effects: a host copy ends. -/
def hostCopyEnded (s : State) : State := dropHostCopy (failPend .hostCopy 0x03000002 s)

/-- What an abandon reports. -/
def abandonReported (s : State) : State :=
  withRg 0x2011 2 0 (withRg 0x8010 1 (2 ^ 64 - 1) (withRg 0x8010 3 (2 ^ 64 - 1)
    (withRg 0x8003 4 1 (bump 0x8030 9 1 s))))

/-- What an abandon ends of the execution, the collectives and the recovery. -/
def workDropped (s : State) : State :=
  { s with
    ex := { s.ex with admitted := [], heldTokens := [], holdPending := false
                      step := { s.ex.step with running := false, outcome := none, heldFrom := none } }
    col := {}
    res := { s.res with abandonAt := some s.pwr.time, proofArmed := none, autoHold := false, repairs := []
                        restore := none, pulls := [], gathering := false, partner := none, lastSecure := none } }

theorem startAbandon_eq (s : State) : startAbandon s = workDropped (closeContexts (abandonReported (hostCopyEnded s))) := rfl

theorem startAbandon_regs (s : State) : (startAbandon s).regs = (abandonReported (hostCopyEnded s)).regs := rfl

theorem rg_startAbandon (i j : Nat) (s : State) : rg (startAbandon s) i j = rg (abandonReported (hostCopyEnded s)) i j :=
  rg_of_regs (startAbandon_regs s) i j

theorem hostCopyEnded_rgK (s : State) : RgK 13835058055282163711 s (hostCopyEnded s) := by simp [hostCopyEnded]

theorem hostCopyEnded_keeps (s : State) : Keeps 851437 s (hostCopyEnded s) := by simp [hostCopyEnded]

theorem abandonReported_leaves (s : State) :
    rg (abandonReported s) 0x8003 4 = 1 ∧ rg (abandonReported s) 0x2011 2 = 0 ∧
    rg (abandonReported s) 0x8010 1 = 2 ^ 64 - 1 ∧ rg (abandonReported s) 0x8010 3 = 2 ^ 64 - 1 ∧
    rg (abandonReported s) 0x8030 9 = satAdd (sizeOf_ 0x8030 9) (rg s 0x8030 9) 1 := by
  unfold abandonReported
  refine ⟨?_, rg_withRg_same .., ?_, ?_, ?_⟩
  · rw [rg_withRg_other _ _ (by decide), rg_withRg_other _ _ (by decide), rg_withRg_other _ _ (by decide)]
    exact rg_withRg_same ..
  · rw [rg_withRg_other _ _ (by decide)]
    exact rg_withRg_same ..
  · rw [rg_withRg_other _ _ (by decide), rg_withRg_other _ _ (by decide)]
    exact rg_withRg_same ..
  · rw [rg_withRg_other _ _ (by decide), rg_withRg_other _ _ (by decide), rg_withRg_other _ _ (by decide),
      rg_withRg_other _ _ (by decide)]
    exact rg_withRg_same ..

theorem dropHostCopy_sec (s : State) : (dropHostCopy s).sec = s.sec :=
  Keeps.sec (m := 131072) (by simp) (by decide)

theorem mem_hostCopyEnded {x : PendWrite} {s : State} (hx : x ∈ s.sec.pend) (hk : x.kind ≠ .hostCopy) :
    x ∈ (hostCopyEnded s).sec.pend := by
  unfold hostCopyEnded
  rw [dropHostCopy_sec]
  cases hp : pendOf s .hostCopy with
  | none => rwa [show failPend .hostCopy 0x03000002 s = s by simp [failPend, hp]]
  | some p =>
    rw [failPend_of_pendOf hp, rejectReq_sec_pend]
    exact List.mem_filter.mpr ⟨hx, by simpa using hk⟩

theorem workDropped_leaves (s : State) : (workDropped s).ex.step.running = false ∧ (workDropped s).ex.step.outcome = none ∧
    (workDropped s).ex.admitted = [] ∧ (workDropped s).ex.heldTokens = [] ∧ (workDropped s).ex.score = s.ex.score ∧
    (workDropped s).ex.scale = s.ex.scale ∧ (workDropped s).col = {} ∧ (workDropped s).fab = s.fab ∧
    (workDropped s).res.abandonAt = some s.pwr.time ∧ (workDropped s).sec = s.sec :=
  ⟨rfl, rfl, rfl, rfl, rfl, rfl, rfl, rfl, rfl, rfl⟩

theorem closeContexts_leaves (s : State) : (closeContexts s).ex = s.ex ∧ (closeContexts s).pwr = s.pwr ∧
    (closeContexts s).sec = s.sec ∧ (closeContexts s).fab.out = [] ∧ (closeContexts s).fab.inn = [] :=
  ⟨rfl, rfl, rfl, rfl, rfl⟩

theorem startAbandon_leaves (s : State) : (startAbandon s).ex.step.running = false ∧ (startAbandon s).ex.step.outcome = none ∧
    (startAbandon s).ex.admitted = [] ∧ (startAbandon s).ex.heldTokens = [] ∧ (startAbandon s).ex.score = s.ex.score ∧
    (startAbandon s).ex.scale = s.ex.scale ∧ (startAbandon s).col = {} ∧ (startAbandon s).fab.out = [] ∧
    (startAbandon s).fab.inn = [] ∧ (startAbandon s).res.abandonAt = some s.pwr.time ∧
    (startAbandon s).sec.pend = (hostCopyEnded s).sec.pend := by
  have hkept : Keeps 262208 s (abandonReported (hostCopyEnded s)) :=
    ((hostCopyEnded_keeps s).mono (by decide)).trans (by simp [abandonReported])
  have hsec : (abandonReported (hostCopyEnded s)).sec = (hostCopyEnded s).sec :=
    Keeps.sec (m := 131072) (by simp [abandonReported]) (by decide)
  rw [startAbandon_eq]
  generalize abandonReported (hostCopyEnded s) = u at hkept hsec ⊢
  obtain ⟨hex, hpwr, hsec', hout, hinn⟩ := closeContexts_leaves u
  obtain ⟨hrunning, houtcome, hadmitted, htokens, hscore, hscale, hcol, hfab, hat, hsec''⟩ := workDropped_leaves (closeContexts u)
  have hexs := hex.trans (hkept.ex (by decide))
  have hpwrs := hpwr.trans (hkept.pwr (by decide))
  exact ⟨hrunning, houtcome, hadmitted, htokens, hscore.trans (congrArg Exec.score hexs),
    hscale.trans (congrArg Exec.scale hexs), hcol, (congrArg Fabric.out hfab).trans hout, (congrArg Fabric.inn hfab).trans hinn,
    hat.trans (congrArg (fun p : PowerClock => some p.time) hpwrs), congrArg Security.pend (hsec''.trans (hsec'.trans hsec))⟩

/-! ## The end of an abandon -/

/-- An abandon that is complete, before its answer. -/
def abandonDone (s : State) : State :=
  withRg 0x8003 4 2 { s with dev := if s.dev = .running then .held else s.dev, res := { s.res with abandonAt := none } }

theorem abandonDone_keeps (s : State) : Keeps 1015783 s (abandonDone s) := by simp [abandonDone]

theorem exec_abandonComplete_due {since : Nat} {s : State} (hat : s.res.abandonAt = some since)
    (hdue : since + 1000000 ≤ s.pwr.time) (hreset : s.pwr.inReset = false) (hwork : workRetired s = true)
    (hdrained : drained s = true) :
    exec .abandonComplete s = .next (finishPend .abandon (leBytes 1 1) (abandonDone (fresh s))) := by
  change execAbandonComplete s = _
  unfold execAbandonComplete
  dsimp only
  rw [show (fresh s).res.abandonAt = some since from hat]
  dsimp only
  refine congrArg Host.Outcome.next (if_neg ?_)
  rw [show (fresh s).pwr.inReset = false from hreset, show workRetired (fresh s) = true from hwork,
    show drained (fresh s) = true from hdrained, decide_eq_false (show ¬(fresh s).pwr.time < since + 1000000 from Nat.not_lt.mpr hdue)]
  decide

theorem exec_abandonComplete_early {since : Nat} {s : State} (hat : s.res.abandonAt = some since)
    (hearly : s.pwr.time < since + 1000000 ∨ workRetired s = false ∨ drained s = false) :
    exec .abandonComplete s = .next (fresh s) := by
  change execAbandonComplete s = _
  unfold execAbandonComplete
  dsimp only
  rw [show (fresh s).res.abandonAt = some since from hat]
  dsimp only
  refine congrArg Host.Outcome.next (if_pos ?_)
  rw [show workRetired (fresh s) = workRetired s from rfl, show drained (fresh s) = drained s from rfl]
  obtain hearly | hwork | hdrained := hearly
  · rw [decide_eq_true (show (fresh s).pwr.time < since + 1000000 from hearly)]
    simp
  · simp [hwork]
  · simp [hdrained]

/-! ## The start of a restore -/

/-- A restore's first effects: no copy is current, and the step is the restore point. -/
def restoreBegun (s0 : Nat) (s : State) : State :=
  withRg 0x8003 4 3 { s with
    res := { s.res with
      held := s.res.held.map (fun c => if c.current then { c with complete := false } else c)
      restore := some s0, pulls := [], gathering := false, repairs := [] }
    ex := { s.ex with step := { num := s0 }
                      force := { s.ex.force with members := s.fab.members, groups := s.fab.groups } }
    col := { s.col with runs := [] } }

/-- One item of a restore asked for. -/
def askItem (sc : Score) (s : State) (p : Pull) : State :=
  if s.res.restore.isNone then s
  else
    match (askPull sc 5 p s).1 with
    | some p' => { (askPull sc 5 p s).2 with
        res := { (askPull sc 5 p s).2.res with pulls := (askPull sc 5 p s).2.res.pulls ++ [p'] } }
    | none => restoreFailed p (askPull sc 5 p s).2

theorem startRestore_eq (s0 : Nat) (sc : Score) (s : State) : startRestore s0 sc s =
    (restoreItems sc (openContexts sc (closeContexts (deriveParcelKey s0 (restoreBegun s0 s))))).foldl (askItem sc)
      (openContexts sc (closeContexts (deriveParcelKey s0 (restoreBegun s0 s)))) := rfl

/-- A restore under way, or failed. -/
structure Restoring (s0 : Nat) (s : State) : Prop where
  state : s.res.restore = some s0 ∧ rg s 0x8003 4 = 3 ∨ s.res.restore = none ∧ s.res.pulls = [] ∧ rg s 0x8003 4 = 8
  stale : ∀ c ∈ s.res.held, c.current = true → c.complete = false
  num : s.ex.step.num = s0
  idle : s.ex.step.running = false

theorem Restoring.of_kept {s0 : Nat} {s t : State} (h : Restoring s0 s) (hres : t.res = s.res) (hex : t.ex = s.ex)
    (hrg : rg t 0x8003 4 = rg s 0x8003 4) : Restoring s0 t :=
  ⟨by rw [hres, hrg]; exact h.state, by rw [hres]; exact h.stale, by rw [hex]; exact h.num, by rw [hex]; exact h.idle⟩

theorem restoring_restoreBegun (s0 : Nat) (s : State) : Restoring s0 (restoreBegun s0 s) := by
  refine ⟨.inl ⟨rfl, rg_withRg_same ..⟩, fun c hc hcurrent => ?_, rfl, rfl⟩
  obtain ⟨c', _, rfl⟩ := List.mem_map.mp hc
  cases hkind : c'.current with
  | true => rw [if_pos rfl]
  | false =>
    rw [hkind, if_neg Bool.false_ne_true] at hcurrent
    exact absurd (hkind.symm.trans hcurrent) (by decide)

theorem restoring_restoreFailed {s0 : Nat} (p : Pull) {s : State} (h : Restoring s0 s) : Restoring s0 (restoreFailed p s) := by
  have hraised : ∀ u : State, Keeps 983023 u (raise 3 0x0009 (leBytes 4 p.entry ++ leBytes 4 p.stripe) u) := fun u => by simp
  have hrg : ∀ u : State, RgK 18446744056529682415 u (raise 3 0x0009 (leBytes 4 p.entry ++ leBytes 4 p.stripe) u) := fun u => by simp
  exact Restoring.of_kept (s := withRg 0x8003 4 8 { s with res := { s.res with restore := none, pulls := [], gathering := false } })
    ⟨.inr ⟨rfl, rfl, rg_withRg_same ..⟩, h.stale, h.num, h.idle⟩ ((hraised _).res (by decide)) ((hraised _).ex (by decide))
    (hrg _ 0x8003 4 (by decide))

theorem restoring_askItem {s0 : Nat} (sc : Score) (p : Pull) {s : State} (h : Restoring s0 s) : Restoring s0 (askItem sc s p) := by
  have hkeeps : Keeps 1040367 s (askPull sc 5 p s).2 := by simp
  have hrg : rg (askPull sc 5 p s).2 0x8003 4 = rg s 0x8003 4 :=
    (show RgK 18446744060824649727 s (askPull sc 5 p s).2 by simp) 0x8003 4 (by decide)
  have hasked := h.of_kept (hkeeps.res (by decide)) (hkeeps.ex (by decide)) hrg
  unfold askItem
  split
  · exact h
  · next hunder =>
    have hstate : s.res.restore = some s0 ∧ rg s 0x8003 4 = 3 := h.state.resolve_right fun hfailed => hunder (by rw [hfailed.1]; rfl)
    split
    · exact ⟨.inl ⟨(congrArg Resilience.restore (hkeeps.res (by decide))).trans hstate.1, hrg.trans hstate.2⟩, hasked.stale,
        hasked.num, hasked.idle⟩
    · exact restoring_restoreFailed p hasked

theorem restoring_foldl {s0 : Nat} (sc : Score) (l : List Pull) {s : State} (h : Restoring s0 s) :
    Restoring s0 (l.foldl (askItem sc) s) := by
  induction l generalizing s with
  | nil => exact h
  | cons p l ih => exact ih (restoring_askItem sc p h)

theorem restoring_startRestore (s0 : Nat) (sc : Score) (s : State) : Restoring s0 (startRestore s0 sc s) := by
  have hopened : ∀ u : State, Keeps 1036267 u (openContexts sc (closeContexts (deriveParcelKey s0 u))) := fun u => by simp
  have hrg : ∀ u : State, RgK 18446744060824649727 u (openContexts sc (closeContexts (deriveParcelKey s0 u))) := fun u => by simp
  rw [startRestore_eq]
  exact restoring_foldl sc _ ((restoring_restoreBegun s0 s).of_kept ((hopened _).res (by decide)) ((hopened _).ex (by decide))
    (hrg _ 0x8003 4 (by decide)))

theorem bypass_startRestore (s0 : Nat) (sc : Score) (s : State) :
    (startRestore s0 sc s).ring.bypassOpen = s.ring.bypassOpen := by
  have hopened : ∀ u : State, Keeps 65536 u (openContexts sc (closeContexts (deriveParcelKey s0 u))) := fun u => by simp
  have hfailed : ∀ (u : State) (p : Pull), (restoreFailed p u).ring.bypassOpen = u.ring.bypassOpen := fun u p => raise_bypass ..
  have hask : ∀ (u : State) (p : Pull), (askItem sc u p).ring.bypassOpen = u.ring.bypassOpen := fun u p => by
    have hasked : (askPull sc 5 p u).2.ring.bypassOpen = u.ring.bypassOpen := bypass_of_keeps (by simp)
    unfold askItem
    split
    · rfl
    · split
      · exact hasked
      · exact (hfailed _ p).trans hasked
  rw [startRestore_eq]
  exact (foldl_bypass _ hask _ _).trans ((bypass_of_keeps (hopened (restoreBegun s0 s))).trans rfl)

theorem ownRank_of_regs {s t : State} (hregs : t.regs = s.regs) (hfab : t.fab = s.fab) : ownRank t = ownRank s := by
  unfold ownRank nodeAddr rg
  rw [hregs, hfab]

theorem exec_restore {q : Req} {sc : Score} {step : Nat} {s : State} (h : Ready q .tenant s)
    (w : Writable .tenant 0x8003 2 (leBytes 8 step) s) (hsc : s.ex.score = some sc) (hstep : step < 2 ^ 64)
    (hdev : s.dev = .prepared ∨ s.dev = .held) (hnone : s.res.restore = none) (hrank : (ownRank s).isSome = true)
    (hglazed : glazedOf sc s.regs ≠ []) :
    exec (.restore q step) s = .next (respond q 0 [] (auditWrite q 0x8003 2 (leBytes 8 step)
      (startRestore step sc (actsOn q 0x8003 2 (leBytes 8 step) s)))) := by
  obtain ⟨hregs, hstraps, hdev', hpwr, hex⟩ := heardAs_same q (writeCommand (leBytes 8 step)) 0x8003 2 s
  have hres : (heardAs q (writeCommand (leBytes 8 step)) 0x8003 2 s).res = s.res := Keeps.res (m := 32768) (by simp) (by decide)
  have hfab : (heardAs q (writeCommand (leBytes 8 step)) 0x8003 2 s).fab = s.fab := Keeps.fab (m := 8192) (by simp) (by decide)
  have hcodes : ∀ c ∈ (restoreRule (leBytes 8 step) (heardAs q (writeCommand (leBytes 8 step)) 0x8003 2 s)).codes, c = 0 := by
    unfold restoreRule
    dsimp only
    rw [hres, hdev', hex, hsc, hnone, show ownRank (heardAs q (writeCommand (leBytes 8 step)) 0x8003 2 s) = ownRank s from
      ownRank_of_regs hregs hfab, hrank, hregs]
    dsimp only
    rw [List.isEmpty_eq_false_iff.mpr hglazed]
    obtain hprepared | hheld := hdev
    · rw [hprepared]
      decide
    · rw [hheld]
      decide
  have hscore : (actsOn q 0x8003 2 (leBytes 8 step) s).ex.score = some sc :=
    (congrArg Exec.score (Keeps.ex (m := 64) (s := s) (by simp) (by decide))).trans hsc
  refine congrArg Host.Outcome.next ((writeReq_accepted h w hcodes).trans ((acceptWrite_now _ rfl rfl).trans ?_))
  change respond q 0 [] (auditWrite q 0x8003 2 (leBytes 8 step)
    (onScore (actsOn q 0x8003 2 (leBytes 8 step) s) (startRestore (leNat (leBytes 8 step))))) = _
  rw [leNat_leBytes (k := 8) hstep]
  unfold onScore
  rw [hscore]

/-! ## The end of a restore -/

/-- A restore that has gathered everything again. -/
def restoreDone (since : Nat) (s : State) : State :=
  bump 0x8030 7 1 (withRg 0x8003 4 4 { s with
    res := { s.res with restore := none, gathering := false, proofArmed := some (since + 1), autoHold := true }
    col := { s.col with runs := [] } })

theorem restoreDone_keeps (since : Nat) (s : State) : Keeps 999405 s (restoreDone since s) := by simp [restoreDone]

theorem exec_restoreComplete {sc : Score} {since : Nat} {s : State} (hsc : s.ex.score = some sc)
    (hunder : s.res.restore = some since) (hgathering : s.res.gathering = true) (hreset : s.pwr.inReset = false)
    (hdev : s.dev ≠ .faulted) (hall : ∀ g ∈ glazedOf sc s.regs, (runOf s g.2.1).complete = true) :
    exec .restoreComplete s = .next (restoreDone since (fresh s)) := by
  change execRestoreComplete s = _
  unfold execRestoreComplete onScore
  dsimp only
  rw [show (fresh s).res.restore = some since from hunder]
  dsimp only
  rw [show (fresh s).ex.score = some sc from hsc]
  dsimp only
  refine congrArg Host.Outcome.next ((if_neg ?_).trans (if_pos (List.all_eq_true.mpr hall)))
  rw [show (fresh s).res.gathering = true from hgathering, show (fresh s).pwr.inReset = false from hreset,
    show ((fresh s).dev == .faulted) = false from beq_eq_false_iff_ne.mpr hdev]
  decide

end Sys2Proof.Machine

open Sys2Proof Sys2Proof.Machine

/-- Settles O41: an abandon and a restore are each a chain of effects with rules of their own; a restore's items are asked
for one by one, each keeping it under way or failing it. -/
theorem abandonAndRestore : Obligations.AbandonAndRestore := by
  unfold Obligations.AbandonAndRestore
  refine ⟨fun q s h w hdev => ?_, fun since p s hat hdue hreset hwork hdrained hp hflash hopen => ?_,
    fun since s hat hearly => exec_abandonComplete_early hat hearly,
    fun sc q step s hsc hstep h w hdev hnone hrank hglazed => ?_,
    fun sc since s hsc hunder hgathering hreset hdev hall => ?_⟩
  · have hacted : Keeps 851965 s (addPend .abandon q (beginReq q (actsOn q 0x8003 1 (leBytes 1 1) s))) := by simp
    have hregs : (addPend .abandon q (beginReq q (actsOn q 0x8003 1 (leBytes 1 1) s))).regs = s.regs := hacted.regs (by decide)
    have hadded : ∃ x ∈ (addPend .abandon q (beginReq q (actsOn q 0x8003 1 (leBytes 1 1) s))).sec.pend,
        x.kind = .abandon ∧ x.q = q := ⟨_, List.mem_append_right _ List.mem_cons_self, rfl, rfl⟩
    refine ⟨_, exec_abandon h w hdev, ?_⟩
    generalize addPend .abandon q (beginReq q (actsOn q 0x8003 1 (leBytes 1 1) s)) = u at hacted hregs hadded ⊢
    obtain ⟨hrunning, houtcome, hadmitted, htokens, hscore, hscale, hcol, hout, hinn, hat, hpend⟩ := startAbandon_leaves u
    obtain ⟨hcode, hgrants, hhold, hname, hcount⟩ := abandonReported_leaves (hostCopyEnded u)
    obtain ⟨x, hx, hkind, hq⟩ := hadded
    have hkept : Keeps 789933 s (startAbandon u) := (startAbandon_keeps u (by decide)).mpr (hacted.mono (by decide))
    have hex := hacted.ex (by decide)
    refine ⟨hkept.dev (by decide), hrunning, houtcome, hadmitted, htokens, hscore.trans (congrArg Exec.score hex),
      hscale.trans (congrArg Exec.scale hex), hcol, hout, hinn,
      hat.trans (congrArg (fun p : PowerClock => some p.time) (hacted.pwr (by decide))),
      (rg_startAbandon ..).trans hcode, (rg_startAbandon ..).trans hgrants, (rg_startAbandon ..).trans hhold,
      (rg_startAbandon ..).trans hname, (rg_startAbandon ..).trans (hcount.trans ?_), ⟨x, ?_, hkind, hq⟩,
      unchanged_of_covered hkept rfl⟩
    · rw [hostCopyEnded_rgK u 0x8030 9 (by decide), rg_of_regs hregs]
    · rw [hpend]
      exact mem_hostCopyEnded hx (by rw [hkind]; decide)
  · have hdone : Keeps 819173 s (abandonDone (fresh s)) :=
      Keeps.trans (t := fresh s) (by simp) ((abandonDone_keeps (fresh s)).mono (by decide))
    have hp' : pendOf (abandonDone (fresh s)) .abandon = some p := hp
    have hfinished : Keeps 851949 (abandonDone (fresh s)) (finishPend .abandon (leBytes 1 1) (abandonDone (fresh s))) := by simp
    have hrg : RgK 13835058038102294511 (abandonDone (fresh s)) (finishPend .abandon (leBytes 1 1) (abandonDone (fresh s))) := by
      simp
    have hdev : (finishPend .abandon (leBytes 1 1) (abandonDone (fresh s))).dev = if s.dev = .running then .held else s.dev :=
      (hfinished.dev (by decide)).trans rfl
    refine ⟨_, exec_abandonComplete_due hat hdue hreset hwork hdrained, fun hrun => hdev.trans (if_pos hrun),
      fun hrun => hdev.trans (if_neg hrun), (hfinished.res (by decide)).trans rfl, ?_,
      answers_finishPend hp' hflash hopen, logged_finishPend hp' hflash, ?_, ?_⟩
    · exact (hrg 0x8003 4 (by decide)).trans (rg_withRg_same ..)
    · intro i j hj hi haudit hlost hsent
      have hreported : regsExcept [(0x8003, 4)] s (abandonDone (fresh s)) := regsExcept_trans
        (regsExcept_of_regs (t := { fresh s with dev := if s.dev = .running then .held else s.dev
                                                 res := { s.res with abandonAt := none } }) rfl)
        (regsExcept_withRg _ _ (by decide) (by decide))
      exact (objects_of_covered (l := [0xF000, 0x1300, 0x6C01]) hrg rfl j (by simp [haudit, hlost, hsent])).trans
        (hreported i j hj hi haudit hlost hsent)
    · exact unchanged_of_covered (m := 819173) (hdone.trans (hfinished.mono (by decide))) rfl
  · obtain ⟨hstate, hstale, hnum, hidle⟩ := restoring_startRestore step sc (actsOn q 0x8003 2 (leBytes 8 step) s)
    have hopen : (startRestore step sc (actsOn q 0x8003 2 (leBytes 8 step) s)).ring.bypassOpen = true :=
      (bypass_startRestore ..).trans ((actsOn_bypass ..).trans h.sends)
    obtain ⟨hanswers, hlogged, hkeeps, hrg, hexcept⟩ := answered_write (q := q) (idx := 0x8003) (sub := 2) (v := leBytes 8 step) hopen
    have hkept : Keeps 790441 s (startRestore step sc (actsOn q 0x8003 2 (leBytes 8 step) s)) := by simp
    refine ⟨_, exec_restore h w hsc hstep hdev hnone hrank hglazed, hanswers, hlogged, ?_, ?_, ?_, ?_, fun a => ?_, ?_⟩
    · rw [hrg 0x8003 4 (by decide) (by unfold counted; decide), hkeeps.res (by decide)]
      exact hstate
    · rw [hkeeps.res (by decide)]
      exact hstale
    · rw [hkeeps.ex (by decide)]
      exact hnum
    · rw [hkeeps.ex (by decide)]
      exact hidle
    · exact byteAt_of_mem a ((hkeeps.mem (by decide)).trans (hkept.mem (by decide)))
    · exact unchanged_of_covered (m := 790441) (hkept.trans (hkeeps.mono (by decide))) rfl
  · refine ⟨_, exec_restoreComplete hsc hunder hgathering hreset hdev hall, rfl, rfl, ?_, ?_, ?_, ?_⟩
    · unfold restoreDone bump
      rw [rg_withRg_other _ _ (by decide)]
      exact rg_withRg_same ..
    · refine satAdd_rg_eq 1 ?_
      rw [rg_withRg_other _ _ (by decide)]
      rfl
    · exact regsExcept_trans (regsExcept_trans (regsExcept_of_regs (t := { s with
        res := { s.res with restore := none, gathering := false, proofArmed := some (since + 1), autoHold := true }
        col := { s.col with runs := [] } }) rfl)
        (regsExcept_withRg _ _ (by decide) (by decide))) (regsExcept_bump _ _ (by decide) (by decide))
    · exact unchanged_of_covered (m := 999405) (Keeps.trans (t := fresh s) (by simp) (restoreDone_keeps since (fresh s))) rfl

end
